-- ==== Sys2Proof/Word.lean ====
section
/-! DEFINITION.  The words the device moves: bytes, 32-bit and 64-bit words (R8, R9). -/

namespace Sys2Proof

/-- A byte of a line, a frame or a register. -/
abbrev Byte := BitVec 8

/-- A 32-bit register or memory word (R9). -/
abbrev Word32 := BitVec 32

/-- A 64-bit work register or memory word. -/
abbrev Word64 := BitVec 64

end Sys2Proof
end

