-- ==== Sys2Proof/Syntax.lean ====
section
/-! DEFINITION.  The commands of the device: one constructor per row of the opcode table, with the
operands that say which register, port, engine, slot or frame it concerns and what came with it. -/

namespace Sys2Proof

/-- The windows through which a host reaches registers: the BARs of the functions and their configuration spaces (R34, R35, R357). -/
inductive Window where
  | pf0Bar0 | pf0Bar2 | pf0Bar4 | pf1Bar0 | pf1Bar2
  | vfBar0 (n : Fin 48)
  | vfBar2 (n : Fin 48)
  | cfg (f : Fin 50)
  deriving DecidableEq, Repr

/-- An access of the JTAG bridge: a register read or write of PF0 BAR0, or of PF1 BAR0 with `pf1`; a memory line read or written (R539,
R588). -/
inductive BridgeOp where
  | read (pf1 : Bool) (off len : Nat)
  | write (pf1 : Bool) (off : Nat) (bytes : List Byte)
  | readLine (l : Nat)
  | writeLine (l : Nat) (bytes : List Byte)
  deriving DecidableEq, Repr

/-- The commands the device takes, one constructor per row of the opcode table. -/
inductive Instr where
  /-- REGISTER_WRITE (R11): A write to a register or configuration field that has no row of its own takes effect under its access code. -/
  | registerWrite (w : Window) (off : Nat) (bytes : List Byte)
  /-- JTAG_BRIDGE_ACCESS (R589): A JTAG bridge register or memory access is performed with the access its debug level allows, ordered after a same-cycle host write. -/
  | jtagBridgeAccess (a : BridgeOp)
  /-- ECC_WRITEBACK (R27): The corrected line is written back at the next free cycle of its bank, unless a newer write reached the bank first. -/
  | eccWriteback (l : Nat)
  /-- TICK_START (R55): A write of 1 to TCK_CTRL.RUN starts the tick, or withdraws a pending stop, or is refused while the configuration is EMPTY. -/
  | tickStart
  /-- TICK_STOP (R55): A write of 0 to TCK_CTRL.RUN cancels a pending start or stops the tick at the next boundary, and is refused while the monitor is armed. -/
  | tickStop
  /-- TICK_BOUNDARY (R49): The timebase reaches the nominal instant of boundary k and TIME issues the boundary, increments TCK_COUNT and launches the heartbeat. -/
  | tickBoundary
  /-- BOUNDARY_CORE (R42): The boundary pulse arrives in CORE as cycle 0 and P0 runs. -/
  | boundaryCore
  /-- BOUNDARY_FAB (R341): The boundary pulse arrives in FAB, where tick channels swap and tick-driven events are counted. -/
  | boundaryFab
  /-- RELEASE_STATE_RESET (R142): The boundary mark arrives in ETH and resets each port's release-guard and P3 release state. -/
  | releaseStateReset
  /-- PHASE_OPEN (R57): Phase P2 or P4 opens at its offset in CORE. -/
  | phaseOpen (p4 : Bool)
  /-- P3_MARK (R57): TIME issues the P3 mark once the timebase has advanced P3_OFF beyond the boundary. -/
  | p3Mark
  /-- P3_RELEASE (R73): The release mark reaches ETH and scheduled-class frames are released in queue order up to REL_LIMIT. -/
  | p3Release
  /-- RELEASE_GUARD_START (R74): GUARD_NS before the P3 mark, a scheduled port restricts eligibility to its SCHED queues. -/
  | releaseGuardStart (p : Fin 4)
  /-- SLOT_READY (R63): A slot occurrence becomes ready in cycle START when enabled, in an open phase and not cancelled. -/
  | slotReady (n : Fin 64)
  /-- SLOT_DISPATCH (R64): A ready occurrence is handed to its resource once the resource is free and no cancel is present. -/
  | slotDispatch (n : Fin 64)
  /-- SLOT_CUT (R65): A task still running at the end of D + BUDGET is cut and ends CUT. -/
  | slotCut (n : Fin 64)
  /-- SLOT_CANCEL (R79): A cancel request arriving in CORE cancels, late-marks, refuses or discards the named slot's occurrence. -/
  | slotCancel
  /-- TCK_REC_FIFO_POP (R67): A 64-bit read of TCK_REC_FIFO pops one completion record. -/
  | tckRecFifoPop
  /-- IMAGE_LOAD_START (R92): A write of 1 to CFG_CTRL.LOAD starts a load from host memory, or fails with code 0x01. -/
  | imageLoadStart
  /-- LOAD_READ_ERROR (R94): A read of the image meets a bus error, timeout or poison and ends the load with 0x02 or 0x03. -/
  | loadReadError (poison : Bool)
  /-- LOAD_PASS1_COMPLETE (R94): Pass 1 ends its read and runs checks 0x04 to 0x0E, refusing the image on the first failure. -/
  | loadPass1Complete (image : List Byte)
  /-- LOAD_PASS2_COMPLETE (R99): Pass 2 ends, compares digests and records the result, digest and overlay information. -/
  | loadPass2Complete (image : List Byte)
  /-- SEAL (R101): A write of 1 to CFG_CTRL.SEAL seals the configuration and starts its re-evaluation. -/
  | seal
  /-- SEAL_REEVAL_END (R610): The seal re-evaluation of safety touch, proofs and signature reference ends. -/
  | sealReevalEnd
  /-- OVERLAY_ARM (R105): An ARM request is accepted into PREPARING, with PF1 notified when it touches safety, or refused. -/
  | overlayArm (index : Fin 16)
  /-- OVERLAY_PREP_END (R106): Preparation ends and the request becomes ARMED or AWAIT_CONFIRM, or ends with STORE_ERROR. -/
  | overlayPrepEnd
  /-- OVERLAY_DISARM (R110): A DISARM ends a pending request and discards its shadows, or is counted stale. -/
  | overlayDisarm
  /-- CONFIRM_ACCEPT (R114): A matching PF1 confirmation with DECISION 1 clears PENDING and lets the request become ARMED. -/
  | confirmAccept (tag : BitVec 32) (dest : Fin 16)
  /-- CONFIRM_REFUSE (R114): A matching PF1 confirmation with DECISION 2 ends the request with REFUSED_BY_PF1. -/
  | confirmRefuse (tag : BitVec 32) (dest : Fin 16)
  /-- CONFIRM_TIMEOUT (R115): The confirmation timer reaches TIMEOUT boundaries and ends the request with CONFIRM_TIMEOUT. -/
  | confirmTimeout
  /-- SIGNATURE_CHECK (R119): Housekeeping task 0x02 computes the locked-set CRC and compares it with the reference in force. -/
  | signatureCheck (n : Fin 64)
  /-- LINK_UP (R125): A field port declares link up when its PCS is synchronised and autonegotiation is complete. -/
  | linkUp (p : Fin 4) (speed pause : Fin 4) (fullDuplex : Bool) (lane : List Byte)
  /-- LINK_DOWN (R152): A field port declares link down and removes its queued entries with LINK_DOWN. -/
  | linkDown (p : Fin 4) (syncLost inFrame : Bool)
  /-- AN_LINK_TIMER (R123): The Clause 37 link timer expires and autonegotiation restarts. -/
  | anLinkTimer (p : Fin 4)
  /-- RESTART_AN (R122): A write of MAC_PORT_CTRL.RESTART_AN restarts autonegotiation. -/
  | restartAn (p : Fin 4)
  /-- MDIO_C22_WRITE (R128): A Clause 22 write frame is issued by the MDIO master. -/
  | mdioC22Write (phy reg : Fin 32) (data : BitVec 16)
  /-- MDIO_C22_READ (R128): A Clause 22 read frame is issued by the MDIO master. -/
  | mdioC22Read (phy reg : Fin 32)
  /-- MDIO_C45_ADDRESS (R128): A Clause 45 address frame is issued by the MDIO master. -/
  | mdioC45Address (phy dev : Fin 32) (addr : BitVec 16)
  /-- MDIO_C45_WRITE (R128): A Clause 45 write frame is issued by the MDIO master. -/
  | mdioC45Write (phy dev : Fin 32) (data : BitVec 16)
  /-- MDIO_C45_READ (R128): A Clause 45 read frame is issued by the MDIO master. -/
  | mdioC45Read (phy dev : Fin 32)
  /-- MDIO_C45_READ_INC (R128): A Clause 45 read with post-increment frame is issued by the MDIO master. -/
  | mdioC45ReadInc (phy dev : Fin 32)
  /-- MDIO_COMPLETE (R129): An MDIO operation completes, BUSY clears and read data is available. -/
  | mdioComplete (answer : Option (BitVec 16))
  /-- RX_FRAME (R134): A frame is received by a MAC, filtered, checked, staged and given its FCS verdict. -/
  | rxFrame (p : Fin 4) (bytes : List Byte) (ebError : Bool) (age : Nat)
  /-- RX_FRAME_TO_BUFFER (R134): A verified frame crosses line by line from MAC staging to the frame buffer. -/
  | rxFrameToBuffer (p : Fin 4)
  /-- RX_PAUSE (R146): A received PAUSE frame holds all eight transmit queues for its quanta. -/
  | rxPause (p : Fin 4) (quanta : BitVec 16)
  /-- RX_PFC (R146): A received PFC frame holds the mapped queue of each enabled priority. -/
  | rxPfc (p : Fin 4) (enable : BitVec 8) (quanta : List (BitVec 16))
  /-- PAUSE_HOLD_EXPIRY (R146): A received pause or PFC hold expires and the queue becomes eligible again. -/
  | pauseHoldExpiry (p : Fin 4) (q : Fin 8)
  /-- TX_PAUSE_XOFF (R147): Staging occupancy rising to XOFF_LINES sends a PAUSE or PFC frame with MAC_FC_QUANTA. -/
  | txPauseXoff (p : Fin 4)
  /-- TX_PAUSE_REPEAT (R147): Half the quanta elapsing with occupancy still high repeats the pause frame. -/
  | txPauseRepeat (p : Fin 4)
  /-- TX_PAUSE_XON (R147): Occupancy falling below XON_LINES sends a pause frame with quanta 0. -/
  | txPauseXon (p : Fin 4)
  /-- TX_GRANT (R141): With the transmitter idle, the arbiter grants the head frame of the highest eligible queue. -/
  | txGrant (p : Fin 4)
  /-- TX_POISON_LATE (R149): A line found poisoned after grant makes the frame stomped with POISON_LATE. -/
  | txPoisonLate (p : Fin 4)
  /-- TX_COMPLETE (R155): A transmit ends and its completion record is sent to CORE and delivered to the enqueuing agent. -/
  | txComplete (p : Fin 4)
  /-- FENCE_ARRIVAL (R151): The safe-state fence reaches ETH and fences every command-class queue, removing its entries. -/
  | fenceArrival
  /-- FENCE_LIFT (R151): The fence lifting reaches ETH and command-class queues become eligible again. -/
  | fenceLift
  /-- TX_CANCEL_ARRIVAL (R153): A cancel naming a frame handle arrives in ETH and removes the frame, late-marks it or is stale. -/
  | txCancelArrival (p : Fin 4)
  /-- CLASSIFIER_LOOKUP (R183): With the last examined byte in the lane, both parsers finish their keys and the classifier registers its lookup result. -/
  | classifierLookup (p : Fin 4)
  /-- FRAME_CLASSIFIED (R41): A frame is classified on the first CORE edge at which its lookup result and good-FCS indication are both present. -/
  | frameClassified (p : Fin 4)
  /-- FRAG_ENTRY_AGE_EXPIRY (R174): A fragment entry is removed at the boundary at which AGE_TICKS have passed since its creation. -/
  | fragEntryAgeExpiry
  /-- BE_START (R199): An engine running no slot starts a bound best-effort program when its class queue holds a frame. -/
  | beStart (e : Fin 16)
  /-- ADD (R223): ADD adds two registers modulo 2^64. -/
  | add (e : Fin 16) (rd a b : Fin 32)
  /-- SUB (R223): SUB subtracts two registers modulo 2^64. -/
  | sub (e : Fin 16) (rd a b : Fin 32)
  /-- AND (R223): AND writes the bitwise AND of two registers. -/
  | and (e : Fin 16) (rd a b : Fin 32)
  /-- OR (R223): OR writes the bitwise OR of two registers. -/
  | or (e : Fin 16) (rd a b : Fin 32)
  /-- XOR (R223): XOR writes the bitwise XOR of two registers. -/
  | xor (e : Fin 16) (rd a b : Fin 32)
  /-- SHL (R223): SHL shifts left by rs2[5:0]. -/
  | shl (e : Fin 16) (rd a b : Fin 32)
  /-- SHR (R223): SHR shifts right with zero fill by rs2[5:0]. -/
  | shr (e : Fin 16) (rd a b : Fin 32)
  /-- SHRS (R223): SHRS shifts right with sign fill by rs2[5:0]. -/
  | shrs (e : Fin 16) (rd a b : Fin 32)
  /-- MUL (R223): MUL writes the low 64 bits of the product. -/
  | mul (e : Fin 16) (rd a b : Fin 32)
  /-- SET_LT (R223): SET.LT writes 1 when rs1 is signed-less than rs2. -/
  | setLt (e : Fin 16) (rd a b : Fin 32)
  /-- SET_ULT (R223): SET.ULT writes 1 when rs1 is unsigned-less than rs2. -/
  | setUlt (e : Fin 16) (rd a b : Fin 32)
  /-- BSWAP (R223): BSWAP reverses the byte order of rs1. -/
  | bswap (e : Fin 16) (rd a : Fin 32)
  /-- ADD_K (R223): ADD.K adds a sign-extended immediate. -/
  | addK (e : Fin 16) (rd a : Fin 32) (imm : BitVec 16)
  /-- AND_K (R223): AND.K ANDs a zero-extended immediate. -/
  | andK (e : Fin 16) (rd a : Fin 32) (imm : BitVec 16)
  /-- OR_K (R223): OR.K ORs a zero-extended immediate. -/
  | orK (e : Fin 16) (rd a : Fin 32) (imm : BitVec 16)
  /-- CATI (R223): CATI shifts rs1 left 16 and inserts a 16-bit immediate. -/
  | cati (e : Fin 16) (rd a : Fin 32) (imm : BitVec 16)
  /-- SHLI (R224): SHLI shifts left by the immediate POS. -/
  | shli (e : Fin 16) (rd a : Fin 32) (pos : Fin 64)
  /-- SHRI (R224): SHRI shifts right with zero fill by POS. -/
  | shri (e : Fin 16) (rd a : Fin 32) (pos : Fin 64)
  /-- SHRSI (R224): SHRSI shifts right with sign fill by POS. -/
  | shrsi (e : Fin 16) (rd a : Fin 32) (pos : Fin 64)
  /-- EXTR (R224): EXTR extracts a zero-extended bit field. -/
  | extr (e : Fin 16) (rd a : Fin 32) (pos : Fin 64) (lenm1 : Fin 64)
  /-- INS (R224): INS inserts the low bits of rs1 into a field of rd. -/
  | ins (e : Fin 16) (rd a : Fin 32) (pos : Fin 64) (lenm1 : Fin 64)
  /-- BR_EQ (R225): BR.EQ branches when the registers are equal. -/
  | brEq (e : Fin 16) (a b : Fin 32) (off : BitVec 16)
  /-- BR_NE (R225): BR.NE branches when the registers differ. -/
  | brNe (e : Fin 16) (a b : Fin 32) (off : BitVec 16)
  /-- BR_LT (R225): BR.LT branches on signed less than. -/
  | brLt (e : Fin 16) (a b : Fin 32) (off : BitVec 16)
  /-- BR_GE (R225): BR.GE branches on signed greater or equal. -/
  | brGe (e : Fin 16) (a b : Fin 32) (off : BitVec 16)
  /-- BR_ULT (R225): BR.ULT branches on unsigned less than. -/
  | brUlt (e : Fin 16) (a b : Fin 32) (off : BitVec 16)
  /-- BR_UGE (R225): BR.UGE branches on unsigned greater or equal. -/
  | brUge (e : Fin 16) (a b : Fin 32) (off : BitVec 16)
  /-- JLINK (R225): JLINK writes the link value and jumps by OFF21. -/
  | jlink (e : Fin 16) (rd : Fin 32) (off : BitVec 21)
  /-- JLINKR (R225): JLINKR writes the link value and jumps to rs1 plus an immediate. -/
  | jlinkr (e : Fin 16) (rd a : Fin 32) (imm : BitVec 16)
  /-- LDB (R226): LDB loads one byte zero-extended. -/
  | ldb (e : Fin 16) (rd a : Fin 32) (imm : BitVec 16) (diff : Bool)
  /-- LDH (R226): LDH loads two bytes zero-extended. -/
  | ldh (e : Fin 16) (rd a : Fin 32) (imm : BitVec 16) (diff : Bool)
  /-- LDW (R226): LDW loads four bytes zero-extended. -/
  | ldw (e : Fin 16) (rd a : Fin 32) (imm : BitVec 16) (diff : Bool)
  /-- LDD (R226): LDD loads eight bytes. -/
  | ldd (e : Fin 16) (rd a : Fin 32) (imm : BitVec 16) (diff : Bool)
  /-- STB (R226): STB stores one byte. -/
  | stb (e : Fin 16) (b a : Fin 32) (imm : BitVec 16) (diff : Bool)
  /-- STH (R226): STH stores two bytes. -/
  | sth (e : Fin 16) (b a : Fin 32) (imm : BitVec 16) (diff : Bool)
  /-- STW (R226): STW stores four bytes. -/
  | stw (e : Fin 16) (b a : Fin 32) (imm : BitVec 16) (diff : Bool)
  /-- STD (R226): STD stores eight bytes. -/
  | std (e : Fin 16) (b a : Fin 32) (imm : BitVec 16) (diff : Bool)
  /-- STORE_VISIBLE (R208): A buffered cluster store leaves the store buffer and becomes visible to all engines. -/
  | storeVisible (e : Fin 16)
  /-- ATOM_ADD (R228): ATOM.ADD indivisibly adds rs2 to a cluster word and returns the old value. -/
  | atomAdd (e : Fin 16) (rd a b : Fin 32) (diff : Bool)
  /-- ATOM_XCH (R228): ATOM.XCH indivisibly exchanges a cluster word with rs2. -/
  | atomXch (e : Fin 16) (rd a b : Fin 32) (diff : Bool)
  /-- ATOM_CAS (R228): ATOM.CAS indivisibly stores rd if the word equals rs2 and returns the old value. -/
  | atomCas (e : Fin 16) (rd a b : Fin 32) (diff : Bool)
  /-- FENCE_SL (R209): FENCE.SL stalls until the store buffer has drained. -/
  | fenceSl (e : Fin 16)
  /-- WADJ (R229): WADJ moves the packet window head and adjusts its length. -/
  | wadj (e : Fin 16) (rd a : Fin 32)
  /-- WSETL (R229): WSETL sets the packet window length. -/
  | wsetl (e : Fin 16) (rd a : Fin 32)
  /-- LOOKUP_EXACT (R230): LOOKUP EXACT looks a key up in the exact table. -/
  | lookupExact (e : Fin 16) (rd a b : Fin 32) (diff : Bool)
  /-- LOOKUP_TERNARY (R230): LOOKUP TERNARY looks a key up in the ternary table. -/
  | lookupTernary (e : Fin 16) (rd a b : Fin 32) (diff : Bool)
  /-- LOOKUP_BOTH (R230): LOOKUP BOTH looks a key up in the exact table and then the ternary table. -/
  | lookupBoth (e : Fin 16) (rd a b : Fin 32) (diff : Bool)
  /-- CSUM (R231): CSUM accumulates the ones'-complement sum over window bytes. -/
  | csum (e : Fin 16) (rd a b : Fin 32) (diff : Bool)
  /-- CRC_E (R231): CRC.E continues a CRC-32 over window bytes. -/
  | crcE (e : Fin 16) (rd a b : Fin 32) (diff : Bool)
  /-- CRC_C (R231): CRC.C continues a CRC-32C over window bytes. -/
  | crcC (e : Fin 16) (rd a b : Fin 32) (diff : Bool)
  /-- TAKE (R195): TAKE opens the head frame of the program's class queue or returns EMPTY. -/
  | take (e : Fin 16) (rd : Fin 32) (diff : Bool)
  /-- TXCQ (R232): TXCQ pops one record from the pair's transmit-completion queue. -/
  | txcq (e : Fin 16) (rd : Fin 32) (diff : Bool)
  /-- TXCAN (R232): TXCAN sends a cancel for a frame handle to a port. -/
  | txcan (e : Fin 16) (a : Fin 32) (diff : Bool)
  /-- COPY (R234): COPY commits the open frame and creates a pending copy handle. -/
  | copy (e : Fin 16) (rd : Fin 32) (diff : Bool)
  /-- FWD (R235): FWD enqueues the open frame on a transmit queue or a release queue, or is refused. -/
  | fwd (e : Fin 16) (rd a b : Fin 32) (diff : Bool)
  /-- DELIV (R301): DELIV hands the frame to an RX ring for writing, or is refused. -/
  | deliv (e : Fin 16) (rd a : Fin 32) (diff : Bool)
  /-- CRYPT (R240): CRYPT hands the frame to a crypto pipeline under an SA, or is refused. -/
  | crypt (e : Fin 16) (rd a b : Fin 32) (diff : Bool)
  /-- BRIDGE (R414): BRIDGE queues the frame for a modem window, or is refused. -/
  | bridge (e : Fin 16) (rd a b : Fin 32) (diff : Bool)
  /-- STOR (R270): STOR hands a received segment to the storage offload, or is refused. -/
  | stor (e : Fin 16) (rd a b : Fin 32) (diff : Bool)
  /-- DROP (R232): DROP frees the open frame's lines. -/
  | drop (e : Fin 16) (diff : Bool)
  /-- RDT_TICK (R236): RDT sel 0 returns the tick number. -/
  | rdtTick (e : Fin 16) (rd : Fin 32)
  /-- RDT_TICK_OFFSET (R236): RDT sel 1 returns CORE cycles since cycle 0 of the tick. -/
  | rdtTickOffset (e : Fin 16) (rd : Fin 32)
  /-- RDT_OCCURRENCE_CYCLES (R236): RDT sel 2 returns CORE cycles since dispatch or the first best-effort instruction. -/
  | rdtOccurrenceCycles (e : Fin 16) (rd : Fin 32)
  /-- WAITT (R236): WAITT begins a stall until a tick offset is reached or the tick changes. -/
  | waitt (e : Fin 16) (rd a : Fin 32)
  /-- WAITT_RESUME (R237): A WAITT completes when its condition holds or a cut or preemption ends it. -/
  | waittResume (e : Fin 16)
  /-- CANCEL (R236): CANCEL issues a cancel request for a slot. -/
  | cancel (e : Fin 16) (a : Fin 32) (diff : Bool)
  /-- YIELD (R238): YIELD ends best-effort work with no open frame and passes the engine to the next binding. -/
  | yield (e : Fin 16)
  /-- HALT (R196): HALT drains the store buffer and ends the program with completion or a fault. -/
  | halt (e : Fin 16) (code : BitVec 16) (diff : Bool)
  /-- ESP_OUT_TRANSFORM (R255): A pipeline encapsulates and encrypts a frame under an ESP_OUT SA. -/
  | espOutTransform (p : Fin 2)
  /-- ESP_IN_TRANSFORM (R257): A pipeline checks, verifies and decapsulates a frame under an ESP_IN SA. -/
  | espInTransform (p : Fin 2)
  /-- MACSEC_TX_TRANSFORM (R259): A pipeline inserts a SecTAG and protects a frame under a MACSEC_TX SA. -/
  | macsecTxTransform (p : Fin 2)
  /-- MACSEC_RX_TRANSFORM (R260): A pipeline checks and decrypts a frame for a MACsec receive group. -/
  | macsecRxTransform (p : Fin 2)
  /-- CRYPTO_RETURN (R244): A processed frame's last line is written and it is enqueued on its return class. -/
  | cryptoReturn (p : Fin 2)
  /-- SA_INSTALL (R248): CRY_SA_CMD INSTALL starts installing an SA from the staged lines and wrapped key. -/
  | saInstall (index : Fin 1024)
  /-- SA_INSTALL_DONE (R248): An install completes with its result and zeroes the key stage. -/
  | saInstallDone
  /-- SA_DELETE (R249): CRY_SA_CMD DELETE sets the SA to DRAINING. -/
  | saDelete (index : Fin 1024)
  /-- SA_DELETE_DONE (R249): After its accepted frames return, the SA entry and key slot are zeroed. -/
  | saDeleteDone
  /-- SA_UPDATE_TEMPLATE (R250): CRY_SA_CMD UPDATE_TEMPLATE starts replacing an ESP_OUT template. -/
  | saUpdateTemplate (index : Fin 1024)
  /-- SA_UPDATE_DONE (R250): A template update completes with its result. -/
  | saUpdateDone
  /-- NVT_OPEN (R266): OPEN starts a TCP connection to a controller, or is refused with BAD_CFG. -/
  | nvtOpen (c : Fin 16)
  /-- NVT_CLOSE (R267): CLOSE sets a connection CLOSING. -/
  | nvtClose (c : Fin 16)
  /-- NVT_ABORT (R267): ABORT sends RST and sets the connection FAILED. -/
  | nvtAbort (c : Fin 16)
  /-- NVT_OPEN_TIMEOUT (R266): OPEN_TMO expires before ESTABLISHED and the connection fails. -/
  | nvtOpenTimeout (c : Fin 16)
  /-- NVT_SEGMENT_RX (R270): A received segment is matched to a connection or discarded. -/
  | nvtSegmentRx
  /-- NVT_ICRESP (R266): A received ICResp is checked and establishes the connection or fails it. -/
  | nvtIcresp (c : Fin 16)
  /-- NVT_R2T_RX (R272): A received R2T is answered with H2CData PDUs or fails the connection. -/
  | nvtR2tRx (c : Fin 16)
  /-- NVT_C2HDATA (R274): Received C2HData is written to the command buffer. -/
  | nvtC2hdata (c : Fin 16)
  /-- NVT_CAPSULE_RESP (R275): A received CapsuleResp ends a command leg and its completion is posted. -/
  | nvtCapsuleResp (c : Fin 16)
  /-- NVT_C2H_TERM_REQ (R274): A received C2HTermReq fails the connection. -/
  | nvtC2hTermReq (c : Fin 16)
  /-- NVT_TCP_RST_RX (R268): A received RST fails the connection with RESET. -/
  | nvtTcpRstRx (c : Fin 16)
  /-- NVT_RTO_EXPIRY (R268): The retransmission timer expires and the segment is retransmitted or the connection fails. -/
  | nvtRtoExpiry (c : Fin 16)
  /-- NVT_FIN_SEND (R267): A CLOSING connection with nothing outstanding sends FIN. -/
  | nvtFinSend (c : Fin 16)
  /-- NVT_CLOSED (R267): The FIN exchange ends and the connection becomes CLOSED. -/
  | nvtClosed (c : Fin 16)
  /-- NVT_CMD_ACCEPT (R271): A queue pair accepts a command from its ring, assigns a CID and sends the CapsuleCmd. -/
  | nvtCmdAccept (q : Fin 64)
  /-- NVT_CMD_TIMEOUT (R276): A command leg's timer expires, the leg ends TIMEOUT and its CID is quarantined. -/
  | nvtCmdTimeout (q : Fin 64)
  /-- SQ_DOORBELL (R289): A submission doorbell is checked and sets the ring tail, or is rejected. -/
  | sqDoorbell (f : Fin 50) (value : BitVec 32)
  /-- CQ_DOORBELL (R289): A completion doorbell is checked and sets the ring head, or is rejected. -/
  | cqDoorbell (f : Fin 50) (value : BitVec 32)
  /-- SQ_FETCH (R293): The ring block issues a fetch of submission entries when reserved space and quota allow. -/
  | sqFetch (n : Fin 256)
  /-- RX_HELD_FRAME_WRITE (R302): A held RX frame is written into fetched buffers once they can hold all of it. -/
  | rxHeldFrameWrite (n : Fin 256)
  /-- RING_ABORT (R305): ABORT of a running open ring sets ABORTING and ends its outstanding entries. -/
  | ringAbort (n : Fin 256)
  /-- RING_ABORT_COMPLETE (R306): The last aborted completion is written and the ring becomes STOPPED. -/
  | ringAbortComplete (n : Fin 256)
  /-- SQ_ENABLE (R307): A write of EN = 1 to a disabled submission ring starts it, or is refused. -/
  | sqEnable (n : Fin 256)
  /-- SQ_DISABLE (R307): A write of EN = 0 disables a submission ring, or is refused. -/
  | sqDisable (n : Fin 256)
  /-- CQ_ENABLE (R307): A completion ring is enabled from DISABLED. -/
  | cqEnable (c : Fin 256)
  /-- CQ_DISABLE (R307): A completion ring is disabled, or refused while a bound ring is enabled. -/
  | cqDisable (c : Fin 256)
  /-- SAFE_STATE_ARRIVAL (R313): The safe-state command reaches CORE and FAB and PF1 transmit entries complete SAFE_STATE. -/
  | safeStateArrival
  /-- DMA_BURST_ISSUE (R316): An engine chooses a ready client and issues a burst's requests once its Vat lines are allocated. -/
  | dmaBurstIssue (write : Bool)
  /-- FLUSH_READ_ISSUE (R327): After a transfer's last write leaves, the flush read is issued. -/
  | flushReadIssue
  /-- COMPLETION_RECEIVED (R394): A completion TLP is checked and written to the Vat, or discarded and logged. -/
  | completionReceived (tag : Nat) (f : Fin 50) (status : Fin 8) (ep : Bool) (count lower : Nat) (data : List Byte)
  /-- LL_DESCRIPTOR_END (R336): A descriptor's transfer ends, its status is written back and the channel moves on. -/
  | llDescriptorEnd (c : Fin 96)
  /-- LL_START (R335): START runs a linked-list channel from HEAD, or is refused. -/
  | llStart (c : Fin 96)
  /-- LL_STOP (R335): STOP enters STOPPING, or is refused. -/
  | llStop (c : Fin 96)
  /-- LL_STOP_COMPLETE (R335): The current descriptor's bursts end, it is written back BAD_STOPPED and the channel goes IDLE. -/
  | llStopComplete (c : Fin 96)
  /-- LL_KICK (R338): KICK re-reads a parked descriptor or sets KICK_PEND. -/
  | llKick (c : Fin 96)
  /-- REQ_MAP_WRITE (R330): A write of DMA_REQ_MAP selects a request-line source and clears PENDING. -/
  | reqMapWrite (line : Fin 64) (kind : BitVec 4) (arg : BitVec 12)
  /-- REQ_FIRE (R330): A write of DMA_REQ_FIRE adds one event to a SOFTWARE request line. -/
  | reqFire (line : Fin 64)
  /-- REQ_LINE_TIMER (R330): A TIMER request line's period expires and adds one event. -/
  | reqLineTimer (line : Fin 64)
  /-- TCH_ARM (R340): ARM sets SHADOW_VALID of a tick channel. -/
  | tchArm (t : Fin 32)
  /-- TCH_SWAP_REQ (R342): SWAP_REQ makes a swap request pending. -/
  | tchSwapReq (t : Fin 32)
  /-- TCH_SWAP_ON_REQUEST (R342): A pending swap request takes place once the active transfer has ended and the shadow is valid. -/
  | tchSwapOnRequest (t : Fin 32)
  /-- TCH_OCCURRENCE_END (R343): A tick channel occurrence ends DONE when it has nothing more to issue and its bursts have ended. -/
  | tchOccurrenceEnd (t : Fin 32)
  /-- HOST_LINK_UP (R351): The host link trains and the data link layer comes up. -/
  | hostLinkUp (speed : Fin 4) (width : Fin 3) (reversed : Bool)
  /-- HOST_LINK_DOWN (R401): The data link layer goes down, outstanding reads end BAD_BUS and tags are released. -/
  | hostLinkDown
  /-- HOT_RESET (R402): A received Hot Reset returns PF0 and PF1 configuration registers to reset. -/
  | hotReset
  /-- HOST_LINK_ERROR (R380): A link or transaction error is detected, classed and logged in AER. -/
  | hostLinkError (kind : Fin 11)
  /-- VF_ENABLE (R354): Setting VF Enable creates NumVFs virtual functions. -/
  | vfEnable
  /-- VF_DISABLE (R354): Clearing VF Enable resets every VF as by FLR and removes them. -/
  | vfDisable
  /-- FUNCTION_LEVEL_RESET (R372): Initiate FLR resets a function's registers and ends its DMA, rings and channels. -/
  | functionLevelReset (f : Fin 50)
  /-- FLR_COMPLETE (R372): FLR_BUSY clears when the function's written-off tags are released or quarantined. -/
  | flrComplete (f : Fin 50)
  /-- BUS_MASTER_ENABLE_WRITE (R374): A Bus Master Enable write stops or resumes request issue for a function. -/
  | busMasterEnableWrite (f : Fin 50) (v : Bool)
  /-- POWER_STATE_WRITE (R375): A PowerState write moves a function between D0 and D3hot, or is refused for PF1 while armed. -/
  | powerStateWrite (f : Fin 2) (v : Fin 4)
  /-- MSIX_REQUEST (R366): An interrupt request for a vector sends an MSI-X message or sets its PBA bit. -/
  | msixRequest
  /-- MSIX_UNBLOCK (R366): A vector with a pending PBA bit becomes unblocked and one message is sent. -/
  | msixUnblock (f : Fin 50) (v : Fin 64)
  /-- INTX_MESSAGE (R370): A wire level differing from SENT issues Assert_INTx or Deassert_INTx. -/
  | intxMessage (wire : Fin 2)
  /-- LTR_MESSAGE (R378): An LTR message is sent with the value of the current internal state. -/
  | ltrMessage
  /-- ASPM_L1_ENTRY (R510): After 8 µs idle the device requests ASPM L1 as its internal state permits. -/
  | aspmL1Entry
  /-- INBOUND_UNSUPPORTED (R385): An inbound request the device does not serve is answered with UR or discarded and logged. -/
  | inboundUnsupported (kind : Fin 9) (f : Fin 50)
  /-- POISONED_WRITE_RX (R386): A memory write received with EP set is discarded and counted. -/
  | poisonedWriteRx (f : Fin 50)
  /-- COMPLETION_TIMEOUT (R392): A read's completion timer expires, the transfer ends BAD_TIMEOUT and the tag is quarantined. -/
  | completionTimeout
  /-- CTN_FREEZE (R398): A write of FREEZE presents the SOFTWARE containment trigger. -/
  | ctnFreeze
  /-- CTN_RELEASE (R404): A release write is checked and moves the port to RELEASING, or is refused. -/
  | ctnRelease (go : Bool) (seq : BitVec 16)
  /-- CTN_RELEASE_COMPLETE (R405): Held completions and messages have been issued and the port returns to RUN. -/
  | ctnReleaseComplete
  /-- RP_PERST_WRITE (R407): A write of BRG_RP_CTRL.PERST asserts PERST_N or requests its deassertion. -/
  | rpPerstWrite (rp : Fin 2) (value : Bool)
  /-- RP_PERST_RELEASE (R407): PERST_N deasserts once 100 µs of REFCLK have passed and training begins. -/
  | rpPerstRelease (rp : Fin 2)
  /-- RP_LINK_UP (R408): A root port's data link layer comes up. -/
  | rpLinkUp (rp : Fin 2) (speed : Fin 4)
  /-- RP_LINK_DOWN (R408): A root port's data link layer goes down, orderly or as surprise removal. -/
  | rpLinkDown (rp : Fin 2)
  /-- RP_LINK_ERROR (R426): A malformed TLP or protocol error on a root port link is logged and may contain it. -/
  | rpLinkError (rp : Fin 2)
  /-- RP_CFG_READ (R409): A read of BRG_RP_CFG_DATA issues a Type 0 configuration read to the modem. -/
  | rpCfgRead (rp : Fin 2)
  /-- RP_CFG_WRITE (R409): A write of BRG_RP_CFG_DATA issues a Type 0 configuration write. -/
  | rpCfgWrite (rp : Fin 2) (data : BitVec 32)
  /-- RP_CFG_COMPLETION (R409): A downstream configuration request completes and CFG_BUSY clears. -/
  | rpCfgCompletion (rp : Fin 2) (status : Fin 8) (data : BitVec 32)
  /-- APERTURE_READ (R412): A host read of an aperture issues a downstream read. -/
  | apertureRead (rp : Fin 2) (w : Fin 8) (n : Fin 8192) (wide : Bool)
  /-- APERTURE_WRITE (R412): A host write of an aperture issues a posted downstream write. -/
  | apertureWrite (rp : Fin 2) (w : Fin 8) (n : Fin 8192) (wide : Bool) (value : BitVec 64)
  /-- RP_COMPLETION_RX (R423): A downstream completion is translated for its requester. -/
  | rpCompletionRx (rp : Fin 2) (tag : Fin 32) (status : Fin 8) (ep : Bool) (count : Nat) (data : List Byte)
  /-- RP_COMPLETION_TIMEOUT (R422): A downstream request's timer expires and its tag is quarantined. -/
  | rpCompletionTimeout (rp : Fin 2)
  /-- BRIDGE_FRAME_WRITE (R414): The write engine writes a bridge-queue frame to its modem window. -/
  | bridgeFrameWrite (rp : Fin 2)
  /-- PREFETCH_LINE_EXPIRY (R421): A prefetched line is discarded 10 µs after it was filled. -/
  | prefetchLineExpiry (rp : Fin 2)
  /-- MODEM_INBOUND_REQUEST (R424): A modem-mastered request is forwarded to the host through a HOST window or rejected. -/
  | modemInboundRequest (rp : Fin 2) (write ep : Bool) (addr : BitVec 64) (tag len : Nat) (bytes : List Byte)
  /-- MODEM_MSI_WRITE (R424): A modem write to an MSI window sets a bit of BRG_RP_MSI_PEND. -/
  | modemMsiWrite (rp : Fin 2) (addr : BitVec 64) (data : BitVec 32)
  /-- MODEM_INTX_MESSAGE (R424): An Assert_INTx or Deassert_INTx from the modem sets or clears INTX. -/
  | modemIntxMessage (rp : Fin 2) (assert : Bool)
  /-- MODEM_ERR_MESSAGE (R426): An error message received from the modem is logged and ERR_FATAL may contain the port. -/
  | modemErrMessage (rp : Fin 2) (kind : Fin 3)
  /-- RP_CTN_FREEZE (R426): A write of BRG_RP_CTN.FREEZE presents the SOFTWARE trigger of the root port. -/
  | rpCtnFreeze (rp : Fin 2)
  /-- RP_CONTAINMENT_ARRIVAL (R427): Root-port containment reaches FAB and discards queued outbound work. -/
  | rpContainmentArrival (rp : Fin 2)
  /-- RP_CTN_RELEASE (R429): A root-port release is checked and leaves CONTAINED, or is refused. -/
  | rpCtnRelease (rp : Fin 2) (go : Bool) (seq : BitVec 16)
  /-- KEEPALIVE_EXPIRY (R431): At a boundary with k − LAST ≥ LIMIT the keepalive sets PATH_DEAD. -/
  | keepaliveExpiry (rp : Fin 2)
  /-- KEEPALIVE_REARM (R432): REARM clears PATH_DEAD and sets LAST to the current tick. -/
  | keepaliveRearm (rp : Fin 2)
  /-- KEEPALIVE_LIMIT_WRITE (R432): A write of LIMIT = 0 disables the keepalive and clears PATH_DEAD. -/
  | keepaliveLimitWrite (rp : Fin 2) (limit : BitVec 16)
  /-- TIMEBASE_STEP (R436): TIM_STEP_CTRL.GO adds the step to the timebase, or is refused. -/
  | timebaseStep
  /-- FREQ_ADJ_WRITE (R435): A software write of TIM_FREQ_ADJ sets the clamped frequency adjustment, or is refused. -/
  | freqAdjWrite (value : BitVec 32)
  /-- TIMEBASE_READ (R437): A 64-bit read of TIM_NOW_SEC returns SEC and latches NS. -/
  | timebaseRead
  /-- ANCHOR_PUBLISH (R438): At each whole second and after each step TIME publishes an anchor to every port. -/
  | anchorPublish
  /-- RX_TS_POP (R441): A 64-bit read of RXTS_POP pops a receive timestamp record. -/
  | rxTsPop (p : Fin 4)
  /-- TX_TS_POP (R441): A 64-bit read of TXTS_POP pops a transmit timestamp record. -/
  | txTsPop (p : Fin 4)
  /-- PPS_IN_EDGE (R443): A rising PPS_IN edge is stamped and captured, or ignored and counted. -/
  | ppsInEdge (after : Nat)
  /-- PPS_LOST_TIMEOUT (R443): No valid edge within 1.5 s sets PPS_LOST. -/
  | ppsLostTimeout
  /-- PPS_OUT_RISE (R444): PPS_OUT rises at each whole second plus the offset. -/
  | ppsOutRise
  /-- PPS_OUT_FALL (R444): PPS_OUT falls after WIDTH ms. -/
  | ppsOutFall
  /-- NMEA_SENTENCE (R445): A received NMEA sentence is accepted and sets TIM_TOD, or is counted bad. -/
  | nmeaSentence (bytes : List Byte) (after : Nat)
  /-- PTP_SAMPLE_WRITE (R447): A write of TIM_PTP_SAMPLE supplies one phase sample, or is discarded. -/
  | ptpSampleWrite (e : BitVec 32)
  /-- HOLDOVER_ENTRY (R449): No sample for LOSS × 100 ms moves LOCKED to HOLDOVER. -/
  | holdoverEntry
  /-- CAL_STEP_START (R455): A calibration dispatch reaches the calibration unit and its work begins. -/
  | calStepStart (n : Fin 64)
  /-- CAL_STEP_END (R455): A calibration step ends and returns its end to CORE. -/
  | calStepEnd (lost : Nat) (full : Bool) (measured : List Byte)
  /-- ALMANAC_OVERDUE (R459): An entry's age exceeds MAX_AGE and it becomes overdue. -/
  | almanacOverdue (e : Fin 14)
  /-- ALMANAC_OVERDUE2 (R459): An entry's age exceeds twice MAX_AGE and a calibration fault is reported. -/
  | almanacOverdue2 (e : Fin 14)
  /-- ALMANAC_VERIFY (R460): Housekeeping task 0x04 checks every Almanac entry and reports failures. -/
  | almanacVerify (n : Fin 64)
  /-- MONITOR_ARM (R468): SAF_CMD ARM is checked and enters ARMING, or is refused. -/
  | monitorArm
  /-- MONITOR_RECOVER (R468): SAF_CMD RECOVER is checked and enters RECOVERING, or is refused. -/
  | monitorRecover (seq : BitVec 16)
  /-- MONITOR_TRIP (R468): SAF_CMD TRIP enters TRIPPED with cause SOFTWARE. -/
  | monitorTrip
  /-- MONITOR_DISARM (R468): SAF_CMD DISARM enters DISARMED and ends the safe state except at the pins. -/
  | monitorDisarm
  /-- TICK_HEARTBEAT (R478): The tick heartbeat arrives in SAFE and restarts the tick watchdog count. -/
  | tickHeartbeat
  /-- FAULT_REPORT (R470): A fault reaching SAFE moves an armed monitor to TRIPPED and launches the safe state. -/
  | faultReport (n : Nat)
  /-- SAFE_OUT_REFRESH_TIMEOUT (R473): The output cell timer de-energises SAFE_OUT 10 µs after the last refresh. -/
  | safeOutRefreshTimeout
  /-- OUT_READBACK_FAULT (R474): A SAFE_OUT readback disagreement lasting 2 µs reports OUT_READBACK. -/
  | outReadbackFault (a b : Bool)
  /-- TICK_WATCHDOG_EXPIRY (R478): The SAFE count since the last heartbeat reaches its limit and reports TICK_WD. -/
  | tickWatchdogExpiry
  /-- CLOCK_MONITOR_FAULT (R479): A monitored clock more than 5 % off or stopped reports fault CLOCK. -/
  | clockMonitorFault (domain : Fin 7) (fail : Bool)
  /-- SAFE_OSC_WINDOW (R479): A change of the AON window level ends a SAFE oscillator count and may report SAFE_OSC. -/
  | safeOscWindow (count : Nat)
  /-- SCRUB_STEP (R480): Housekeeping task 0x01 scrubs its share of lines of the current pass. -/
  | scrubStep (n : Fin 64)
  /-- SCRUB_LATE (R480): A pass unfinished at its 64th boundary reports SCRUB_LATE and restarts. -/
  | scrubLate
  /-- HOST_ALIVE_EDGE (R481): A filtered HOST_ALIVE edge feeds the watchdog or reports an early edge. -/
  | hostAliveEdge (after : Nat)
  /-- HOST_ALIVE_EXPIRY (R481): No edge within MAX_US reports fault HOST_ALIVE. -/
  | hostAliveExpiry
  /-- SAFE_IN_ACTIVE (R482): SAFE_IN held at its active level for 1 µs reports fault SAFE_IN. -/
  | safeInActive (level : Bool)
  /-- BC_WINDOW_EXPIRY (R487): A receive channel reaching WINDOW ticks since its last frame expires and reports BC_WINDOW. -/
  | bcWindowExpiry (c : Fin 16)
  /-- SUPPLY_WARNING_SAFE (R496): The warning reaches SAFE and opens a dip episode. -/
  | supplyWarningSafe (sample : BitVec 8) (after : Nat)
  /-- SUPPLY_WARNING_MGMT (R497): The warning reaches MGMT and inhibits flash and OTP writes. -/
  | supplyWarningMgmt
  /-- SUPPLY_WARNING_DEASSERT (R498): The warning comparator deasserts and a qualifying run may start. -/
  | supplyWarningDeassert (sample : BitVec 8) (after : Nat)
  /-- DIP_QUALIFIED (R498): 64 µs of samples at or above 0.720 V qualify the episode. -/
  | dipQualified (sample : BitVec 8)
  /-- SUPPLY_UV_LONG (R502): 1 ms of warning within one episode reports fault SUPPLY. -/
  | supplyUvLong
  /-- POWER_STATE_CHOICE (R511): Every microsecond the device chooses and enters a target internal state. -/
  | powerStateChoice
  /-- SCHEDULED_WAKE (R512): The device leaves A1 or A2, or ungates an engine, ahead of a slot's START. -/
  | scheduledWake (n : Fin 64)
  /-- A3_COMMIT (R514): With entry prepared, the A3 command is launched to AON in the commit cycle. -/
  | a3Commit
  /-- POWER_STATE_EXIT_DONE (R505): The exit latency of a state ends and its resources are usable. -/
  | powerStateExitDone
  /-- WAKE_SIGNAL_DETECT (R516): Signal detected on a sleeping port's receiver wakes the device. -/
  | wakeSignalDetect (p : Fin 4)
  /-- WAKE_TIMER_EXPIRY (R516): The AON wake timer expires and wakes the device. -/
  | wakeTimerExpiry
  /-- HOST_LINK_WAKE (R516): The host root port leaving L1 or asserting CLKREQ_N wakes the device. -/
  | hostLinkWake
  /-- MAX_STATE_WRITE (R516): A write of PWR_CTRL.MAX_STATE below the current state wakes the device. -/
  | maxStateWrite (v : Fin 4)
  /-- PME_MESSAGE (R519): A function with PME_Status set sends PM_PME once the link is in L0. -/
  | pmeMessage (f : Fin 2)
  /-- LC_PROVISION (R522): SEC_LC_CMD PROVISION requests BLANK to PROVISIONED, or is refused. -/
  | lcProvision
  /-- LC_FIELD (R522): SEC_LC_CMD FIELD requests PROVISIONED to FIELD, or is refused. -/
  | lcField
  /-- LC_TRANSITION_DONE (R523): The lifecycle OTP write verifies and the new state takes effect. -/
  | lcTransitionDone
  /-- OTP_PROGRAM (R524): SEC_OTP_CMD PROGRAM starts programming a key slot or the seed, or is refused. -/
  | otpProgram (target : Fin 8)
  /-- OTP_REVOKE (R526): SEC_OTP_CMD REVOKE starts revoking an owner slot, or is refused. -/
  | otpRevoke (target : Fin 8)
  /-- OTP_WRITE_DONE (R524): An OTP program or revocation completes, is verified and zeroes the stage. -/
  | otpWriteDone
  /-- ARB_ADVANCE (R531): SEC_ARB_CMD GO starts advancing the anti-rollback counter, or is refused. -/
  | arbAdvance (value : Fin 128)
  /-- ARB_ADVANCE_DONE (R531): An anti-rollback advance completes or ends INCOMPLETE. -/
  | arbAdvanceDone
  /-- DBG_D1_OPEN (R532): A write of SEC_DBG_CTRL.D1_OPEN opens debug level D1. -/
  | dbgD1Open
  /-- DBG_CLOSE (R532): CLOSE ends D1, and is ignored and counted at D2. -/
  | dbgClose
  /-- DBG_TOKEN_SUBMIT (R535): SUBMIT starts verification of the token in SEC_DBG_TOKEN and regenerates the challenge. -/
  | dbgTokenSubmit
  /-- DBG_TOKEN_CHECKED (R536): Token verification ends and the token is accepted or refused with a code. -/
  | dbgTokenChecked
  /-- TAP_IDCODE (R533): The TAP instruction IDCODE returns the device identification. -/
  | tapIdcode
  /-- TAP_BYPASS (R533): The TAP instruction BYPASS selects the bypass register. -/
  | tapBypass
  /-- TAP_DBG_CHAL (R533): The TAP instruction DBG_CHAL returns the UID and challenge. -/
  | tapDbgChal
  /-- TAP_DBG_TOKEN (R533): The TAP instruction DBG_TOKEN shifts in and submits a token. -/
  | tapDbgToken (token : List Byte)
  /-- TAP_DBG_WAKE (R533): The TAP instruction DBG_WAKE wakes the device from A3. -/
  | tapDbgWake
  /-- TAP_DBG_BRIDGE (R533): The TAP instruction DBG_BRIDGE selects the JTAG bridge at D1 or D2. -/
  | tapDbgBridge
  /-- TAP_SAMPLE_PRELOAD (R533): The boundary-scan instruction SAMPLE/PRELOAD is executed where available. -/
  | tapSamplePreload (value : Nat)
  /-- TAP_EXTEST (R533): The boundary-scan instruction EXTEST drives pins, holding SAFE_OUT safe outside BLANK. -/
  | tapExtest (value : Nat)
  /-- TAP_CLAMP (R533): The boundary-scan instruction CLAMP holds pins, with SAFE_OUT safe outside BLANK. -/
  | tapClamp
  /-- TAP_HIGHZ (R533): The boundary-scan instruction HIGHZ places outputs in high impedance. -/
  | tapHighz
  /-- TAP_RESET (R604): JTAG_TRST_N low resets the TAP without changing the debug level. -/
  | tapReset
  /-- ENGINE_HALT (R534): A debug halt request for an engine half is made. -/
  | engineHalt (e : Fin 16)
  /-- ENGINE_HALT_TAKES_EFFECT (R534): A pending halt takes effect at the half's next instruction boundary once no occurrence runs. -/
  | engineHaltTakesEffect (e : Fin 16)
  /-- ENGINE_RESUME (R539): A debug resume restarts a halted half, reloading a lockstep checking half. -/
  | engineResume (e : Fin 16)
  /-- ENGINE_SINGLE_STEP (R539): At D2 a halted half executes one instruction. -/
  | engineSingleStep (e : Fin 16)
  /-- POWER_ON_RESET (R543): VDD_AON below its reset level resets every block including AON. -/
  | powerOnReset
  /-- POWER_ON_CLASS_RESET (R503): A rail below its reset level or the reset comparator resets every domain except AON. -/
  | powerOnClassReset
  /-- WARM_RESET (R546): A warm reset request is accepted and resets every block but TIM, or is refused. -/
  | warmReset (key : BitVec 8)
  /-- SAFETY_RESET (R547): A safety reset request while TRIPPED resets every block but TIM and SAF, or is refused. -/
  | safetyReset (key : BitVec 8)
  /-- WATCHDOG_EXPIRY (R548): The system watchdog reaches PERIOD and resets the device with warm or safety scope. -/
  | watchdogExpiry
  /-- WDT_FEED (R548): A write of SBD_WDT_FEED restarts the watchdog, or is counted as a bad feed. -/
  | wdtFeed (value : BitVec 32)
  /-- PERST_ASSERT (R549): PCIE_PERST_N asserted holds HEP in reset and resets every function. -/
  | perstAssert
  /-- PERST_DEASSERT (R555): PCIE_PERST_N deasserted lets the host link train once the header stage has ended. -/
  | perstDeassert
  /-- RESET_RELEASE (R552): A reset is released and the boot ROM reads OTP, initialises memories and reads SFDP. -/
  | resetRelease (testEn sfdp quad erase addr4 : Bool) (log2 : Fin 32)
  /-- HEADER_STAGE_END (R555): The boot header is selected and its IDs and SMBus address take effect. -/
  | headerStageEnd (a b : List Byte)
  /-- FLASH_READ (R560): SBD_FL_CMD READ reads a 256-byte page into the buffer. -/
  | flashRead
  /-- FLASH_PROGRAM (R560): SBD_FL_CMD PROGRAM programs the buffer into one page. -/
  | flashProgram
  /-- FLASH_ERASE (R560): SBD_FL_CMD ERASE erases a 4 KiB sector. -/
  | flashErase
  /-- FLASH_OP_DONE (R560): A flash operation ends and its result is recorded. -/
  | flashOpDone (timeout : Bool) (page : List Byte)
  /-- SMBUS_PACKET_RX (R561): A received SMBus packet is checked and a bad one discarded and counted. -/
  | smbusPacketRx (p : List Byte)
  /-- MCTP_SET_ENDPOINT_ID (R561): The MCTP control message Set Endpoint ID sets the endpoint ID. -/
  | mctpSetEndpointId
  /-- MCTP_GET_ENDPOINT_ID (R561): The MCTP control message Get Endpoint ID returns the endpoint ID. -/
  | mctpGetEndpointId
  /-- MCTP_GET_VERSION_SUPPORT (R561): The MCTP control message Get MCTP Version Support returns the versions. -/
  | mctpGetVersionSupport
  /-- MCTP_GET_MESSAGE_TYPE_SUPPORT (R561): The MCTP control message Get Message Type Support returns the types. -/
  | mctpGetMessageTypeSupport
  /-- PLDM_GETTID (R561): The PLDM command GetTID returns the terminus ID. -/
  | pldmGettid
  /-- PLDM_SETTID (R561): The PLDM command SetTID sets the terminus ID. -/
  | pldmSettid
  /-- PLDM_GETPLDMVERSION (R561): The PLDM command GetPLDMVersion returns a version. -/
  | pldmGetpldmversion
  /-- PLDM_GETPLDMTYPES (R561): The PLDM command GetPLDMTypes returns the supported types. -/
  | pldmGetpldmtypes
  /-- PLDM_GETPLDMCOMMANDS (R561): The PLDM command GetPLDMCommands returns the supported commands. -/
  | pldmGetpldmcommands
  /-- PLDM_GETSENSORREADING (R562): The PLDM command GetSensorReading returns a numeric sensor reading. -/
  | pldmGetsensorreading
  /-- PLDM_GETSTATESENSORREADINGS (R562): The PLDM command GetStateSensorReadings returns a state sensor reading. -/
  | pldmGetstatesensorreadings
  /-- PLDM_GETPDRREPOSITORYINFO (R562): The PLDM command GetPDRRepositoryInfo returns the repository information. -/
  | pldmGetpdrrepositoryinfo
  /-- PLDM_GETPDR (R562): The PLDM command GetPDR returns a sensor PDR. -/
  | pldmGetpdr
  /-- SMBUS_ARB_LOST (R563): The device loses SMBus arbitration, stops driving and continues as listener or target. -/
  | smbusArbLost (n : Fin 4)
  /-- SMBUS_RETRY (R564): After bus free time plus backoff the device retries its packet, or gives up after eight losses. -/
  | smbusRetry
  /-- SMBUS_CLOCK_LOW_TIMEOUT (R565): SCL low for 25 ms makes the device release the bus and abandon the transaction. -/
  | smbusClockLowTimeout
  /-- GPIO_EDGE (R566): An enabled GPIO edge sets its event bit and may wake the device. -/
  | gpioEdge (n : Fin 8) (rise : Bool)
  /-- COUNTER_OVERFLOW (R569): A counter passing 2^48 − 1 wraps and sets its PMC_OVF bit. -/
  | counterOverflow
  /-- PMC_CNT_WRITE (R570): A counter write sets it to the written value plus same-cycle events. -/
  | pmcCntWrite (n : Fin 384) (value : BitVec 64)
  /-- PMC_SEL_WRITE (R570): A PMC_SEL write clears the counter and selects its new event. -/
  | pmcSelWrite (n : Fin 384) (value : BitVec 32)
  /-- PMC_FREEZE (R573): A write of 1 to PMC_CTRL.FREEZE stops every counter. -/
  | pmcFreeze
  /-- PMC_UNFREEZE (R573): A write of 0 to PMC_CTRL.FREEZE restarts every counter. -/
  | pmcUnfreeze
  /-- PMC_SNAP (R574): A write of PMC_CTRL.SNAP takes a snapshot, or is skipped under HOLD. -/
  | pmcSnap
  /-- COUNTER_SNAPSHOT_TASK (R574): Housekeeping task 0x03 takes a snapshot of all counters, or skips it under HOLD. -/
  | counterSnapshotTask (n : Fin 64)
  /-- SAMPLE_TAKEN (R576): The sampling countdown reaches 0 at a retired instruction, which is sampled. -/
  | sampleTaken (p : Fin 8) (h : Fin 2)
  /-- SAMPLE_RECORD_WRITE (R581): A formed sample record is written to the buffer and WR advances, or it is lost. -/
  | sampleRecordWrite (p : Fin 8)
  /-- SAMPLE_RD_WRITE (R582): A write of RD consumes records, or is refused. -/
  | sampleRdWrite (p : Fin 8) (value : BitVec 8)
  /-- SMP_CFG_WRITE (R576): A write of PMC_SMP_CFG or PMC_SMP_PERIOD reloads the sampling countdown. -/
  | smpCfgWrite (p : Fin 8) (period : Bool) (value : BitVec 32)
  /-- REGISTER_READ (R37): A host or bridge read of a BAR offset that has behaviour of its own: a hole read counted in HOLE_CNT, a poisoned table or buffer view completed with EP and counted under R28 and R33, or a read held across an A2 or A3 exit. -/
  | registerRead (w : Window) (off len : Nat)
  /-- HOST_LINK_RETRAIN (R351): The host directs a retrain or speed change through Recovery while the data link layer stays up, and HEP_LINK_CNT.RETRAIN counts it. -/
  | hostLinkRetrain (speed : Fin 4) (width : Fin 3)
  /-- PME_TURN_OFF (R401): A received PME_Turn_Off message is answered with PME_TO_Ack, so that a following DL_Down is not a surprise removal. -/
  | pmeTurnOff
  /-- RP_CLKREQ_N_CHANGE (R407): A modem changes PCIE_RP_CLKREQ_N, and with CLKREQ_EN = 1 the root port starts or stops driving its REFCLK. -/
  | rpClkreqNChange (rp : Fin 2) (low : Bool)
  /-- RP_VENDOR_DEFINED_MESSAGE (R424): A vendor-defined message received from a modem is discarded and counted in BRG_RP_CNT.MSG_DISCARD. -/
  | rpVendorDefinedMessage (rp : Fin 2)
  deriving DecidableEq, Repr

end Sys2Proof
end

