-- ==== Sys2Proof/Config.lean ====
section
/-! DEFINITION.  What the spec leaves open or to a standard outside it: the free values,
and the cryptographic functions the spec takes from other standards.  Each is a constant
without a body, so that no proof can rest on a value of it. -/

namespace Sys2Proof.Config

/-- The stream of free values: the value with a given serial number, for a result the spec
leaves open (assumption 4).  A step that needs one reads it at `Dev.freeCount` and counts on. -/
opaque freeValue : Nat → Nat

/-- AES-GCM encryption (NIST SP 800-38D): key, nonce, additional data, plaintext to
ciphertext and 16-byte tag (assumption 5). -/
opaque gcmSeal : List Byte → List Byte → List Byte → List Byte → List Byte × List Byte

/-- AES-GCM decryption: key, nonce, additional data, ciphertext, tag to the plaintext when the
tag verifies (assumption 5). -/
opaque gcmOpen : List Byte → List Byte → List Byte → List Byte → List Byte → Option (List Byte)

/-- AES Key Wrap unwrapping (RFC 3394) under a wrapping key (assumption 5). -/
opaque kwUnwrap : List Byte → List Byte → Option (List Byte)

/-- SHA-384 (FIPS 180-4) of bytes (assumption 5). -/
opaque sha384 : List Byte → List Byte

/-- ECDSA P-384 verification (FIPS 186-5): public key, digest, r, s; it includes the range
check of r and s (R529) (assumption 5). -/
opaque ecdsaVerify : List Byte → List Byte → List Byte → List Byte → Bool

/-- Whether 96 bytes x, y are a point of P-384 (R524) (assumption 5). -/
opaque onCurve : List Byte → Bool

/-- HKDF-SHA-384 (RFC 5869): salt, input keying material, info to 32 bytes (R527) (assumption 5). -/
opaque hkdf : List Byte → List Byte → List Byte → List Byte

/-- The value the TAP instruction IDCODE returns, which the spec does not give (R533) (assumption 10). -/
opaque idcode : Nat

end Sys2Proof.Config
end

