-- ==== Sys2Proof/Machine/Bits.lean ====
section
/-! DEFINITION.  Bit fields, byte order and sign helpers used by every meaning (R8 to R10). -/

namespace Sys2Proof.Machine

/-- The bits `lo .. lo + w - 1` of `n` (R8). -/
def bitsOf (n lo w : Nat) : Nat := n / 2 ^ lo % 2 ^ w

/-- Bit `i` of `n`. -/
def bitAt (n i : Nat) : Bool := n / 2 ^ i % 2 = 1

/-- 1 for true, 0 for false. -/
def b2n (b : Bool) : Nat := if b then 1 else 0

/-- `n` with bit `i` set. -/
def setBit (n i : Nat) : Nat := if bitAt n i then n else n + 2 ^ i

/-- `n` with bit `i` cleared. -/
def clrBit (n i : Nat) : Nat := if bitAt n i then n - 2 ^ i else n

/-- The number of set bits among the low `w` bits of `n`. -/
def popCount (w n : Nat) : Nat := ((List.range w).filter (fun i => bitAt n i)).length

/-- The bytes of `n` in little-endian order, `k` of them (R9). -/
def leBytes : Nat → Nat → List Byte
  | 0, _ => []
  | k + 1, n => BitVec.ofNat 8 n :: leBytes k (n / 256)

/-- The number that bytes in little-endian order spell (R9). -/
def ofLe : List Byte → Nat
  | [] => 0
  | b :: bs => b.toNat + 256 * ofLe bs

/-- The bytes of `n` in network order, `k` of them (R10). -/
def beBytes (k n : Nat) : List Byte := (leBytes k n).reverse

/-- The number that bytes in network order spell (R10). -/
def ofBe (bs : List Byte) : Nat := ofLe bs.reverse

/-- `k` bytes of `bs` from offset `o`; bytes past the end read 0. -/
def sliceB (bs : List Byte) (o k : Nat) : List Byte :=
  (List.range k).map (fun i => bs.getD (o + i) 0)

/-- `bs` with the bytes `v` written from offset `o`, within its length. -/
def patchB (bs : List Byte) (o : Nat) (v : List Byte) : List Byte :=
  bs.take o ++ (v.take (bs.length - o)) ++ bs.drop (o + v.length)

/-- The little-endian field of `k` bytes at offset `o`. -/
def leAt (bs : List Byte) (o k : Nat) : Nat := ofLe (sliceB bs o k)

/-- The network-order field of `k` bytes at offset `o`. -/
def beAt (bs : List Byte) (o k : Nat) : Nat := ofBe (sliceB bs o k)

/-- The signed value of the low `w` bits of `n`. -/
def toSigned (w n : Nat) : Int :=
  if bitAt n (w - 1) then (n % 2 ^ w : Nat) - (2 ^ w : Nat) else (n % 2 ^ w : Nat)

/-- The low `w` bits of a signed value, in two's complement. -/
def ofSigned (w : Nat) (i : Int) : Nat := (i % ((2 ^ w : Nat) : Int)).toNat

/-- `n + k`, held at the all-ones value of `w` bits. -/
def satAdd (w n k : Nat) : Nat := min (n + k) (2 ^ w - 1)

/-- The quotient rounded up. -/
def ceilDiv (a b : Nat) : Nat := (a + b - 1) / b

/-- One step of a reflected CRC with polynomial `poly` over one byte. -/
def crcByte (poly : Nat) (crc : Nat) (b : Byte) : Nat :=
  (List.range 8).foldl
    (fun c _ => if c % 2 = 1 then Nat.xor (c / 2) poly else c / 2) (Nat.xor crc b.toNat)

/-- A reflected CRC over bytes from state `crc`, without the final inversion. -/
def crcRun (poly crc : Nat) (bs : List Byte) : Nat := bs.foldl (crcByte poly) crc

/-- CRC-32 of IEEE 802.3 (reflected polynomial 0xEDB88320, all ones in, inverted out). -/
def crc32 (bs : List Byte) : Nat := Nat.xor (crcRun 0xEDB88320 0xFFFFFFFF bs) 0xFFFFFFFF

/-- CRC-32C (reflected polynomial 0x82F63B78, all ones in, inverted out). -/
def crc32c (bs : List Byte) : Nat := Nat.xor (crcRun 0x82F63B78 0xFFFFFFFF bs) 0xFFFFFFFF

/-- One step of a most-significant-bit-first CRC over one byte. -/
def crcMsbByte (poly : Nat) (crc : Nat) (b : Byte) : Nat :=
  (List.range 8).foldl
    (fun c _ => if bitAt c 31 then Nat.xor (c * 2 % 2 ^ 32) poly else c * 2 % 2 ^ 32)
    (Nat.xor crc (b.toNat * 2 ^ 24))

/-- The ones'-complement sum of 16-bit network-order words, an odd last byte padded with 0. -/
def onesSum : List Byte → Nat
  | [] => 0
  | [a] => a.toNat * 256
  | a :: b :: r => a.toNat * 256 + b.toNat + onesSum r

/-- A sum folded to 16 bits by end-around carries. -/
def fold16 (n : Nat) : Nat :=
  let f := fun m => m % 65536 + m / 65536
  f (f (f (f n)))

/-- The Internet checksum of bytes. -/
def inetChecksum (bs : List Byte) : Nat := 65535 - fold16 (onesSum bs)

/-- `l` with the first element satisfying `p` removed. -/
def removeFirst {α : Type} (p : α → Bool) : List α → List α
  | [] => []
  | x :: xs => if p x then xs else x :: removeFirst p xs

/-- `l` with the element at index `i` replaced by `f` of it; an index that a list does not reach reads as `z`, and the list is filled
up to it with `z`. -/
def fillAt {α : Type} (z : α) (l : List α) (i : Nat) (f : α → α) : List α :=
  match l, i with
  | [], 0 => [f z]
  | [], i + 1 => z :: fillAt z [] i f
  | x :: xs, 0 => f x :: xs
  | x :: xs, i + 1 => x :: fillAt z xs i f

/-- A bank of `n` things with thing `i` replaced by `f` of it; none is replaced beyond the bank. -/
def bankAt {α : Type} (n : Nat) (z : α) (l : List α) (i : Nat) (f : α → α) : List α := if i < n then fillAt z l i f else l

/-- `l` with the element at index `i` replaced by `f` of it, where it has one. -/
def updAt {α : Type} (l : List α) (i : Nat) (f : α → α) : List α :=
  match l, i with
  | [], _ => []
  | x :: xs, 0 => f x :: xs
  | x :: xs, i + 1 => x :: updAt xs i f

/-- `l` with every element satisfying `p` replaced by `f` of it. -/
def updWhere {α : Type} (l : List α) (p : α → Bool) (f : α → α) : List α :=
  l.map (fun x => if p x then f x else x)

end Sys2Proof.Machine
end

