-- ==== Sys2Proof/Machine/Fields.lean ====
section
/-! DEFINITION.  The register fields of the device, by their names in the spec.

One inductive type per register block and one constructor per field that the
register tables of the chapters give; an array's indices are the constructor's
arguments.  `width` and `reset` are the tables' Bits and Reset columns, `place` is
the PF0 BAR0 byte offset of the register and the field's lowest bit (R34, R584).
Reserved fields read 0 (R15) and have no constructor. -/

namespace Sys2Proof.Machine

/-- The fields of block SYS. -/
inductive SysF where
  | ID_VENDOR
  | ID_DEVICE
  | REVISION_STEPPING
  | REVISION_MAJOR
  | CONFIG_SAFETY_FUSE
  | CONFIG_PORTS
  | CONFIG_PAIRS
  | CONFIG_ROOT_PORTS
  | MEM_CE_CNT_COUNT (n : Nat)
  | MEM_UE_CNT_COUNT (n : Nat)
  | MEM_UE_LOG_LINE
  | MEM_UE_LOG_REGION
  | MEM_UE_LOG_VALID
  | ACCESS_ERR_HOLE_CNT
  | ACCESS_ERR_REFUSED_CNT
  deriving DecidableEq, Repr

/-- The fields of block TCK. -/
inductive TckF where
  | CTRL_RUN
  | CTRL_SRC
  | CTRL_REC_ALL
  | CTRL_IRQ_OVR_EN
  | CTRL_IRQ_CUT_EN
  | PERIOD_N
  | MARGIN_PCT
  | STATUS_RUNNING
  | STATUS_OVR
  | STATUS_OVR2
  | STATUS_SLOT_CUT
  | STATUS_PROOF_FAIL
  | STATUS_SLEW
  | STATUS_SRC_STATE
  | STATUS_LAST_OVR
  | STATUS_DEFER
  | COUNT_TICK
  | OVR_CNT_COUNT
  | CUT_CNT_COUNT
  | CARRY_CNT_COUNT
  | NOTICK_DROP_COUNT
  | REC_OVF_COUNT
  | OVR_LOG_TICK
  | OVR_LOG_PHASE
  | OVR_LOG_VALID
  | PROOF_ERR_CODE
  | PROOF_ERR_SLOT
  | PROOF_ERR_PORT
  | CANCEL_SLOT
  | CANCEL_CNT_STALE
  | CANCEL_CNT_REFUSED
  | CANCEL_CNT_REFUSED_RUN
  | REL_MISS_COUNT (p : Nat)
  | SLOT_REC_TICK (n : Nat)
  | SLOT_REC_SLOT (n : Nat)
  | SLOT_REC_STATUS (n : Nat)
  | SLOT_REC_CANCEL_LATE (n : Nat)
  | SLOT_REC_LATE_START (n : Nat)
  | SLOT_REC_USED (n : Nat)
  deriving DecidableEq, Repr

/-- The fields of block CFG. -/
inductive CfgF where
  | CTRL_SEAL
  | CTRL_LOAD
  | CTRL_IRQ_SWITCH_EN
  | CTRL_IRQ_LOAD_EN
  | STATUS_SEALED
  | STATUS_LOAD_BUSY
  | STATUS_LOAD_FAIL
  | STATUS_CONFIG
  | STATUS_LOAD_PASS
  | STATUS_LOAD_DONE
  | STATUS_SWITCHED
  | LOAD_ADDR_ADDR
  | LOAD_LEN_LEN
  | LOAD_ERR_CODE
  | LOAD_ERR_SECTION
  | IMAGE_VER_VALUE
  | IMAGE_DIGEST_VALUE
  | OVL_CMD_INDEX
  | OVL_CMD_OP
  | OVL_STATUS_ACTIVE
  | OVL_STATUS_TARGET
  | OVL_STATUS_STATE
  | OVL_STATUS_TOUCH
  | OVL_STATUS_LAST_RESULT
  | OVL_INFO_VALID (i : Nat)
  | OVL_INFO_SAFETY_TOUCH (i : Nat)
  | OVL_INFO_HAS_EPH (i : Nat)
  | OVL_INFO_NREG (i : Nat)
  | OVL_INFO_NLINE (i : Nat)
  | OVL_INFO_SAT (i : Nat)
  | OVL_LOG_TICK
  | OVL_LOG_FROM
  | OVL_LOG_TO
  | OVL_LOG_DEFERRED
  | SEAL_VIOL_COUNT
  | SEAL_LOG_OFFSET
  | SEAL_LOG_VALID
  | SIG_REF_CRC
  | SIG_STATUS_TICK
  | SIG_STATUS_UNSEALED
  | SIG_STATUS_MISMATCH
  | SIG_ERR_CNT_COUNT
  | CNT_ARM_REFUSED
  | CNT_STALE
  | CNT_CONF_STALE
  | CNT_RUN_REFUSED
  | CONF_PENDING_FROM
  | CONF_PENDING_TO
  | CONF_PENDING_PENDING
  | CONF_PENDING_DONE
  | CONF_TAG_TAG
  | CONF_CMD_TAG
  | CONF_CMD_TO
  | CONF_CMD_DECISION
  | CONF_CTRL_TIMEOUT
  deriving DecidableEq, Repr

/-- The fields of block HEP. -/
inductive HepF where
  | LINK_STATUS_SPEED
  | LINK_STATUS_WIDTH
  | LINK_STATUS_DL_UP
  | LINK_STATUS_REVERSED
  | LINK_CNT_DOWN
  | LINK_CNT_RETRAIN
  | RD_STATUS_OUT
  | IRQ_DROP_VF_VECTOR
  | IRQ_DROP_PF1_D3_REFUSED
  | PF0_IPEND_PEND
  | EVT_VEC_VECTOR (s : Nat)
  | EVT_VEC_EN (s : Nat)
  | LTR_VAL_SNOOP_VALUE (a : Nat)
  | LTR_VAL_SNOOP_SCALE (a : Nat)
  | LTR_VAL_SNOOP_REQ (a : Nat)
  | LTR_VAL_NOSNOOP_VALUE (a : Nat)
  | LTR_VAL_NOSNOOP_SCALE (a : Nat)
  | LTR_VAL_NOSNOOP_REQ (a : Nat)
  | RDQ_MAX (f : Nat)
  | RDQ_OUT (f : Nat)
  | FN_CTRL_LAT_VALUE (f : Nat)
  | FN_CTRL_LAT_SCALE (f : Nat)
  | FN_CTRL_REQ (f : Nat)
  | FN_STATUS_ACTIVE (f : Nat)
  | FN_STATUS_FLR_BUSY (f : Nat)
  | FN_STATUS_DSTATE (f : Nat)
  | PF1_IPEND_SAFE
  | PF1_IPEND_SAF_EVT
  | PF1_IPEND_CFG
  | PF1_IPEND_RING
  | PF1_IPEND_CTN
  | PF1_IPEND_SUPPLY
  | PF1_IPEND_SENT
  | CTN_CTRL_TRIG_FATAL
  | CTN_CTRL_TRIG_NONFATAL
  | CTN_CTRL_TRIG_POISON
  | CTN_CTRL_TRIG_CPL_TMO
  | CTN_CTRL_TRIG_QUAR
  | CTN_CTRL_TRIG_SURPRISE
  | CTN_CTRL_FREEZE
  | CTN_CTRL_QUAR_LIMIT
  | CTN_STATUS_STATE
  | CTN_STATUS_CAUSE
  | CTN_STATUS_SEQ
  | CTN_RELEASE_GO
  | CTN_RELEASE_SEQ
  | CTN_RESULT_LAST
  | CTN_RESULT_REFUSED
  | CTN_LOG_TRIGGERS
  | CTN_TICK_TICK
  | CPL_TMO_MS
  | QUAR_STATUS_TOTAL
  | QUAR_STATUS_TIMED
  | POISON_TX_MODE
  | CTN_EVT_ENTERED
  | CTN_EVT_RELEASED
  | CTN_EVT_IRQ_EN
  | ERR_CNT_COUNT (i : Nat)
  deriving DecidableEq, Repr

/-- The fields of block RNG. -/
inductive RngF where
  | SQ_ASSIGN_FUNC (n : Nat)
  | SQ_ASSIGN_LOCAL (n : Nat)
  | SQ_ASSIGN_KIND (n : Nat)
  | SQ_ASSIGN_TICK (n : Nat)
  | SQ_ASSIGN_TCH (n : Nat)
  | SQ_ASSIGN_VALID (n : Nat)
  | SQ_BIND_CQ (n : Nat)
  | SQ_BIND_CLASS (n : Nat)
  | SQ_BIND_HOLD_LINES (n : Nat)
  | CQ_ASSIGN_FUNC (n : Nat)
  | CQ_ASSIGN_LOCAL (n : Nat)
  | CQ_ASSIGN_VALID (n : Nat)
  | SQ_BASE_ADDR (n : Nat)
  | SQ_CTRL_LOG2SIZE (n : Nat)
  | SQ_CTRL_EN (n : Nat)
  | SQ_CTRL_ABORT (n : Nat)
  | SQ_CTRL_MIRROR_EN (n : Nat)
  | SQ_INDEX_TAIL (n : Nat)
  | SQ_INDEX_HEAD (n : Nat)
  | SQ_MIRROR_ADDR (n : Nat)
  | SQ_STATUS_STATE (n : Nat)
  | SQ_STATUS_SEALED (n : Nat)
  | SQ_STATUS_OUTSTANDING (n : Nat)
  | CQ_BASE_ADDR (n : Nat)
  | CQ_CTRL_LOG2SIZE (n : Nat)
  | CQ_CTRL_EN (n : Nat)
  | CQ_CTRL_MIRROR_EN (n : Nat)
  | CQ_CTRL_IRQ_EN (n : Nat)
  | CQ_CTRL_VECTOR (n : Nat)
  | CQ_CTRL_COAL_TICK (n : Nat)
  | CQ_CTRL_COAL_CNT (n : Nat)
  | CQ_INDEX_TAIL (n : Nat)
  | CQ_INDEX_HEAD (n : Nat)
  | CQ_MIRROR_ADDR (n : Nat)
  | CQ_STATUS_RESERVED (n : Nat)
  | CQ_STATUS_HELD (n : Nat)
  | DB_LOG_INDEX (f : Nat)
  | DB_LOG_RING (f : Nat)
  | DB_LOG_REASON (f : Nat)
  | DB_LOG_CQ (f : Nat)
  | DB_LOG_VALID (f : Nat)
  | SEALED_LOG_RING
  | SEALED_LOG_FUNC
  | SEALED_LOG_VALID
  | FCNT_COUNT (f : Nat) (i : Nat)
  deriving DecidableEq, Repr

/-- The fields of block DMA. -/
inductive DmaF where
  | CTRL_EN
  | CTRL_IRQ_EN
  | CTRL_INT_FLUSH
  | STATUS_CH_ERR
  | STATUS_HALTED
  | STATUS_OVERCOMMIT
  | TAG_STATUS_IN_USE
  | TAG_STATUS_DISCARD
  | TAG_STATUS_TEN
  | VAT_STATUS_FREE
  | VAT_STATUS_POOL_FREE
  | ERR_LOG_CHANNEL
  | ERR_LOG_STATUS
  | ERR_LOG_VALID
  | ERR_ADDR_ADDR
  | IRQ_PEND_PEND (j : Nat)
  | VAT_QUOTA_RESERVE (f : Nat)
  | VAT_QUOTA_LIMIT (f : Nat)
  | VAT_USE_USED (f : Nat)
  | VAT_USE_GUAR (f : Nat)
  | QCNT_REFUSED (f : Nat)
  | REQ_MAP_KIND (i : Nat)
  | REQ_MAP_ARG (i : Nat)
  | REQ_MAP_PENDING (i : Nat)
  | REQ_FIRE_LINE
  | LL_CFG_FUNC (c : Nat)
  | LL_HEAD_ONCHIP (c : Nat)
  | LL_HEAD_ADDR (c : Nat)
  | LL_CTRL_START (c : Nat)
  | LL_CTRL_STOP (c : Nat)
  | LL_CTRL_KICK (c : Nat)
  | LL_STATUS_STATE (c : Nat)
  | LL_STATUS_KICK_PEND (c : Nat)
  | LL_STATUS_LAST_STATUS (c : Nat)
  | LL_CUR_ADDR (c : Nat)
  | LL_REMAIN_BYTES (c : Nat)
  | LL_CNT_DONE (c : Nat)
  | LL_CNT_BAD (c : Nat)
  | LL_CNT_REFUSED (c : Nat)
  | TCH_CFG_MODE (t : Nat)
  | TCH_CFG_FUNC (t : Nat)
  | TCH_CFG_SRC (t : Nat)
  | TCH_CFG_SWAP_LINE (t : Nat)
  | TCH_CFG_SWAP_LINE_EN (t : Nat)
  | TCH_MBOX_LINE (t : Nat)
  | TCH_SHADOW_DATA (t : Nat) (i : Nat)
  | TCH_SHCTRL_ARM (t : Nat)
  | TCH_SHCTRL_SWAP_REQ (t : Nat)
  | TCH_SHCTRL_SHADOW_VALID (t : Nat)
  | TCH_ACTIVE_DATA (t : Nat) (i : Nat)
  | TCH_STATUS_LAST_STATUS (t : Nat)
  | TCH_STATUS_BUSY (t : Nat)
  | TCH_REMAIN_BYTES (t : Nat)
  | TCH_CNT_NO_SHADOW (t : Nat)
  | TCH_CNT_CARRY (t : Nat)
  | TCH_CNT2_HELD (t : Nat)
  | TCH_CNT2_SHADOW_REFUSED (t : Nat)
  deriving DecidableEq, Repr

/-- The fields of block BRG. -/
inductive BrgF where
  | CTRL_EN
  | CTRL_IRQ_EN
  | RP_CTRL_PERST (rp : Nat)
  | RP_CTRL_REFCLK_EN (rp : Nat)
  | RP_CTRL_CLKREQ_EN (rp : Nat)
  | RP_CTRL_MAX_SPEED (rp : Nat)
  | RP_CTRL_MPS (rp : Nat)
  | RP_CTRL_POISON_MODE (rp : Nat)
  | RP_CTRL_PF_LINES (rp : Nat)
  | RP_CTRL_ASPM_L1 (rp : Nat)
  | RP_STATUS_STATE (rp : Nat)
  | RP_STATUS_SPEED (rp : Nat)
  | RP_STATUS_CFG_BUSY (rp : Nat)
  | RP_STATUS_CFG_ERR (rp : Nat)
  | RP_STATUS_INTX (rp : Nat)
  | RP_STATUS_CTN_CHG (rp : Nat)
  | RP_CFG_ADDR_REG (rp : Nat)
  | RP_CFG_ADDR_FN (rp : Nat)
  | RP_CFG_ADDR_BE (rp : Nat)
  | RP_CFG_DATA_DATA (rp : Nat)
  | RP_CTN_TRIG (rp : Nat)
  | RP_CTN_FREEZE (rp : Nat)
  | RP_CTN_STATUS_CAUSE (rp : Nat)
  | RP_CTN_STATUS_RESULT (rp : Nat)
  | RP_CTN_STATUS_SEQ (rp : Nat)
  | RP_CTN_RELEASE_GO (rp : Nat)
  | RP_CTN_RELEASE_SEQ (rp : Nat)
  | RP_CPL_TMO_MS (rp : Nat)
  | RP_MSI_PEND_PEND (rp : Nat)
  | KA_CFG_SA_LO (rp : Nat)
  | KA_CFG_SA_HI (rp : Nat)
  | KA_CFG_REARM (rp : Nat)
  | KA_LIMIT_LIMIT (rp : Nat)
  | KA_STATUS_PATH_DEAD (rp : Nat)
  | KA_STATUS_LATE (rp : Nat)
  | KA_STATUS_EXP_TICK (rp : Nat)
  | KA_LAST_LAST (rp : Nat)
  | RP_ERR_LOG_KIND (rp : Nat)
  | RP_ERR_LOG_VALID (rp : Nat)
  | WIN_BASE_ADDR (rp : Nat) (w : Nat)
  | WIN_CTRL_EN (rp : Nat) (w : Nat)
  | WIN_CTRL_ATTR (rp : Nat) (w : Nat)
  | WIN_CTRL_LOG2SIZE (rp : Nat) (w : Nat)
  | WIN_CTRL_FUNC (rp : Nat) (w : Nat)
  | WIN_CTRL_BELL_EN (rp : Nat) (w : Nat)
  | WIN_APERTURE_OFFSET (rp : Nat) (w : Nat)
  | WIN_BELL_BELL_OFF (rp : Nat) (w : Nat)
  | INB_BASE_ADDR (rp : Nat) (i : Nat)
  | INB_HOST_ADDR_ADDR (rp : Nat) (i : Nat)
  | INB_CTRL_EN (rp : Nat) (i : Nat)
  | INB_CTRL_KIND (rp : Nat) (i : Nat)
  | INB_CTRL_LOG2SIZE (rp : Nat) (i : Nat)
  | INB_CTRL_FUNC (rp : Nat) (i : Nat)
  | RP_CNT_COUNT (rp : Nat) (i : Nat)
  deriving DecidableEq, Repr

/-- The fields of block MAC. -/
inductive MacF where
  | PORT_CTRL_EN (p : Nat)
  | PORT_CTRL_MODE (p : Nat)
  | PORT_CTRL_AN_EN (p : Nat)
  | PORT_CTRL_SPEED_FORCE (p : Nat)
  | PORT_CTRL_POISON_MODE (p : Nat)
  | PORT_CTRL_FCS_BYPASS_RX (p : Nat)
  | PORT_CTRL_FCS_BYPASS_TX (p : Nat)
  | PORT_CTRL_PROMISC (p : Nat)
  | PORT_CTRL_BCAST_EN (p : Nat)
  | PORT_CTRL_RESTART_AN (p : Nat)
  | PORT_CTRL_IRQ_LINK_EN (p : Nat)
  | PORT_STATUS_LINK_UP (p : Nat)
  | PORT_STATUS_SPEED (p : Nat)
  | PORT_STATUS_SYNC (p : Nat)
  | PORT_STATUS_AN_DONE (p : Nat)
  | PORT_STATUS_LP_PAUSE (p : Nat)
  | PORT_STATUS_LINK_CHG (p : Nat)
  | FRAME_MAX_LEN (p : Nat)
  | TAG_CTRL_STRIP (p : Nat)
  | TAG_CTRL_TPID_X_EN (p : Nat)
  | TAG_CTRL_TPID_X (p : Nat)
  | AN_ERR_DUPLEX (p : Nat)
  | AN_ERR_RESTART (p : Nat)
  | UC_ADDR_LO_ADDR_0_3 (p : Nat) (i : Nat)
  | UC_ADDR_HI_ADDR_4_5 (p : Nat) (i : Nat)
  | UC_ADDR_HI_VALID (p : Nat) (i : Nat)
  | MC_HASH_BITS (p : Nat) (j : Nat)
  | TXQ_ROLE_SCHED (p : Nat) (q : Nat)
  | TXQ_ROLE_CMD (p : Nat) (q : Nat)
  | TXQ_SHAPE_RATE (p : Nat) (q : Nat)
  | TXQ_SHAPE_BURST (p : Nat) (q : Nat)
  | FC_CTRL_TX_MODE (p : Nat)
  | FC_CTRL_XOFF_LINES (p : Nat)
  | FC_CTRL_XON_LINES (p : Nat)
  | FC_CTRL_PFC_TX_PRIO (p : Nat)
  | FC_QUANTA_QUANTA (p : Nat)
  | PFC_QMAP_Q (p : Nat) (i : Nat)
  | MDIO_CFG_DIV
  | MDIO_CFG_IRQ_EN
  | MDIO_CMD_WDATA
  | MDIO_CMD_REG_DEV
  | MDIO_CMD_PHYAD
  | MDIO_CMD_OP
  | MDIO_CMD_C45
  | MDIO_STATUS_DATA
  | MDIO_STATUS_BUSY
  | MDIO_STATUS_REFUSED
  | CNT_COUNT (p : Nat) (i : Nat)
  deriving DecidableEq, Repr

/-- The fields of block PAR. -/
inductive ParF where
  | PORT_CFG_PRIMARY (p : Nat)
  | PORT_CFG_FRAG_MODE (p : Nat)
  | PORT_CFG_ROOT (p : Nat)
  | PORT_CFG_MAX_BYTES (p : Nat)
  | PORT_CFG_MAX_HDRS (p : Nat)
  | PORT_DEFAULT_NOMATCH_CLASS (p : Nat)
  | PORT_DEFAULT_NOMATCH_DROP (p : Nat)
  | PORT_DEFAULT_FAIL_CLASS (p : Nat)
  | PORT_DEFAULT_FAIL_DROP (p : Nat)
  | FX_PROFILE_PROFILE (p : Nat)
  | LAST_FAIL_REASON (p : Nat)
  | LAST_FAIL_NODE (p : Nat)
  | LAST_FAIL_OFFSET (p : Nat)
  | LAST_FAIL_VALID (p : Nat)
  | DP_LOG_DIFF (p : Nat)
  | DP_LOG_SEC_FAIL (p : Nat)
  | DP_LOG_MASK_ZERO (p : Nat)
  | DP_LOG_VALID (p : Nat)
  | FX_WIN_OFFSET (p : Nat) (w : Nat)
  | FX_WIN_BIT (p : Nat) (w : Nat)
  | FX_WIN_WIDTH (p : Nat) (w : Nat)
  | FX_WIN_DEST (p : Nat) (w : Nat)
  | SAFE_MASK_MASK (p : Nat) (i : Nat)
  | FRAG_CFG_AGE_TICKS
  | FRAG_CFG_FREE_ON_LAST
  | FRAG_STATUS_OCCUPANCY
  | FRAG_EVICT_CNT_COUNT
  | CNT_COUNT (p : Nat) (i : Nat)
  deriving DecidableEq, Repr

/-- The fields of block ENG. -/
inductive EngF where
  | PAIR_CFG_MODE (p : Nat)
  | PAIR_CFG_BE_EN (p : Nat)
  | PAIR_CFG_TXC_EN (p : Nat)
  | PAIR_STATUS_STATE_A (p : Nat)
  | PAIR_STATUS_STATE_B (p : Nat)
  | PAIR_STATUS_LS_MISMATCH (p : Nat)
  | PAIR_STATUS_EXC (p : Nat)
  | EXC_LOG_CODE (p : Nat) (h : Nat)
  | EXC_LOG_PC (p : Nat) (h : Nat)
  | EXC_LOG_SLOT (p : Nat) (h : Nat)
  | EXC_LOG_BEST_EFFORT (p : Nat) (h : Nat)
  | EXC_LOG_VALID (p : Nat) (h : Nat)
  | EXC_ADDR_ADDR (p : Nat) (h : Nat)
  | LS_LOG_PC (p : Nat)
  | LS_LOG_UNDER_D2 (p : Nat)
  | LS_LOG_VALID (p : Nat)
  | TXC_STATUS_OCCUPANCY (p : Nat)
  | BE_BIND_CLASS (i : Nat)
  | BE_BIND_PAIRS (i : Nat)
  | BE_BIND_PROGRAM (i : Nat)
  | BE_BIND_VALID (i : Nat)
  | BE_CFG_MAX_PREEMPT
  | UNSERVED_CNT_COUNT
  | CNT_COUNT (p : Nat) (i : Nat)
  deriving DecidableEq, Repr

/-- The fields of block CRY. -/
inductive CryF where
  | CTRL_EN
  | CTRL_IRQ_EN
  | STATUS_SOFT
  | STATUS_EXPIRED
  | STATUS_PEER_CHG
  | STATUS_KEY_ERR
  | STATUS_CMD_DONE
  | EVENT_LOG_SA
  | EVENT_LOG_CAUSE
  | EVENT_LOG_VALID
  | SA_CMD_INDEX
  | SA_CMD_OP
  | SA_CMD_STATUS_BUSY
  | SA_CMD_STATUS_RESULT
  | SA_CMD_STATUS_BUSY_CNT
  | PIPE_STATUS_OCC0
  | PIPE_STATUS_OCC1
  | SA_STAGE_DATA (i : Nat)
  | KEY_STAGE_DATA (i : Nat)
  | CNT_COUNT (i : Nat)
  deriving DecidableEq, Repr

/-- The fields of block NVT. -/
inductive NvtF where
  | CTRL_EN
  | CTRL_IRQ_EN
  | STATUS_CONN_CHG
  | STATUS_CMD_TMO
  | STATUS_PATH_DOWN
  | DISCARD_LOG_TAG
  | DISCARD_INFO_CAUSE
  | DISCARD_INFO_QP
  | DISCARD_INFO_VALID
  | CONN_CFG_V6 (c : Nat)
  | CONN_CFG_IO (c : Nat)
  | CONN_CFG_CTRLR (c : Nat)
  | CONN_CFG_HDGST (c : Nat)
  | CONN_CFG_DDGST (c : Nat)
  | CONN_CFG_TX_CLASS (c : Nat)
  | CONN_CFG_SNDBUF (c : Nat)
  | CONN_PORTS_LOCAL_PORT (c : Nat)
  | CONN_PORTS_REMOTE_PORT (c : Nat)
  | CONN_TCP_MSS (c : Nat)
  | CONN_TCP_MAX_RETX (c : Nat)
  | CONN_TCP_RTO_MIN (c : Nat)
  | CONN_ICD_ICD_MAX (c : Nat)
  | CONN_ICD_OPEN_TMO (c : Nat)
  | CONN_LOCAL_ADDR_ADDR (c : Nat) (i : Nat)
  | CONN_REMOTE_ADDR_ADDR (c : Nat) (i : Nat)
  | CONN_CMD_OP (c : Nat)
  | CONN_STATE_STATE (c : Nat)
  | CONN_STATE_LAST_ERR (c : Nat)
  | CONN_STATE_CIDS (c : Nat)
  | CONN_STATE_RTO_CUR (c : Nat)
  | CONN_MAXH2C_BYTES (c : Nat)
  | QP_CFG_FUNC (q : Nat)
  | QP_CFG_RING (q : Nat)
  | QP_CFG_CONN_A (q : Nat)
  | QP_CFG_CONN_B (q : Nat)
  | QP_CFG_MIRROR (q : Nat)
  | QP_CFG_VALID (q : Nat)
  | QP_CFG_MAX_OUT (q : Nat)
  | QP_TMO_CMD_TMO (q : Nat)
  | QP_STATUS_OUTSTANDING (q : Nat)
  | QP_STATUS_PATH_DOWN (q : Nat)
  | CNT_COUNT (i : Nat)
  deriving DecidableEq, Repr

/-- The fields of block TIM. -/
inductive TimF where
  | CTRL_STEP_EN
  | CTRL_HOLD_PPS
  | CTRL_TOD_STEP_EN
  | CTRL_IRQ_EN
  | STATUS_STATE
  | STATUS_STEPPED
  | STATUS_LOCK_CHG
  | STATUS_TOD_MISMATCH
  | STATUS_PPS_LOST
  | STATUS_TS_OVF
  | NOW_SEC_SEC
  | NOW_NS_NS
  | FREQ_ADJ_ADJ
  | STEP_NS_NS
  | STEP_SEC_SEC
  | STEP_CTRL_GO
  | PTP_SAMPLE_E
  | LOOP_KP_SHIFT
  | LOOP_KI_SHIFT
  | LOCK_LOCK_NS
  | LOCK_LOCK_CNT
  | LOCK_LOSS
  | STEP_THR_NS
  | INTEG_I
  | LAST_E_E
  | PPS_CTRL_IN_EN
  | PPS_CTRL_OUT_EN
  | PPS_CTRL_GATE_UNLOCKED
  | PPS_CTRL_WIDTH
  | PPS_OFFSET_NS
  | PPS_CAP_SEC_SEC
  | PPS_CAP_NS_NS
  | PPS_CAP_NS_HALF
  | PPS_CAP_NS_VALID
  | PPS_BIAS_BIAS
  | UART_BAUD
  | UART_EN
  | UTC_OFFSET_S
  | TOD_SEC
  | CNT_COUNT (i : Nat)
  | PTP_PORT_EN (p : Nat)
  | PTP_PORT_ONE_STEP (p : Nat)
  | RX_EXT_DELAY (p : Nat)
  | TX_EXT_DELAY (p : Nat)
  | RXTS_POP_SEQ_ID (p : Nat)
  | RXTS_POP_MSG_TYPE (p : Nat)
  | RXTS_POP_DOMAIN (p : Nat)
  | RXTS_POP_VALID (p : Nat)
  | RXTS_POP_ONE_STEP (p : Nat)
  | RXTS_POP_STOMPED (p : Nat)
  | TXTS_POP_SEQ_ID (p : Nat)
  | TXTS_POP_MSG_TYPE (p : Nat)
  | TXTS_POP_DOMAIN (p : Nat)
  | TXTS_POP_VALID (p : Nat)
  | TXTS_POP_ONE_STEP (p : Nat)
  | TXTS_POP_STOMPED (p : Nat)
  | RXTS_SEC_SEC (p : Nat)
  | TXTS_SEC_SEC (p : Nat)
  | RXTS_NS_NS (p : Nat)
  | RXTS_NS_HALF (p : Nat)
  | TXTS_NS_NS (p : Nat)
  | TXTS_NS_HALF (p : Nat)
  | PORT_CNT_RX_OVF (p : Nat)
  | PORT_CNT_TX_OVF (p : Nat)
  deriving DecidableEq, Repr

/-- The fields of block CAL. -/
inductive CalF where
  | CTRL_IRQ_EN
  | EVT_OVERDUE
  | EVT_OVERDUE2
  | EVT_EYE_LOW
  | EVT_REJECT
  | EVT_VERIFY_FAIL
  | CFG_SPREAD_MAX
  | CFG_EYE_MIN_W
  | AGE_MAX_AGE (e : Nat)
  | AGE_STATUS_OVERDUE
  | AGE_STATUS_OVERDUE2
  | LOG_ENTRY
  | LOG_CAUSE
  | LOG_VALID
  | CNT_COUNT (i : Nat)
  deriving DecidableEq, Repr

/-- The fields of block SAF. -/
inductive SafF where
  | CMD_OP
  | CMD_SEQ
  | STATE_STATE
  | STATE_STATUS
  | STATE_CAUSE
  | STATE_SEQ
  | RESULT_LAST
  | RESULT_REFUSED
  | FAULT_FAULTS
  | TRIP_LOG_CODE
  | TRIP_LOG_DETAIL
  | TRIP_LOG_VALID
  | TRIP_TICK_TICK
  | WARN_WARN
  | EVT_TRIP
  | EVT_REARM
  | EVT_WARN
  | EVT_CMD_DONE
  | CTRL_RX_CHECK
  | CTRL_TX_CHECK
  | CTRL_SAFE_IN_POL
  | CTRL_IRQ_EN
  | HA_CFG_MAX_US
  | HA_CFG_MIN_US
  | HA_STATUS_EXPIRED
  | HA_STATUS_EDGES
  | MON_STATUS_CLK_FAIL
  | MON_STATUS_OSC_FAIL
  | MON_STATUS_SCRUB_AGE
  | MON_STATUS_PASSES
  | PIN_STATUS_OUT_A
  | PIN_STATUS_OUT_B
  | PIN_STATUS_SAFE_IN
  | PIN_STATUS_HOST_ALIVE
  | PIN_STATUS_READBACK_ERR
  | CNT_RECOVERIES
  | CNT_PAIRS_CLEARED
  | BC_CFG_EN (c : Nat)
  | BC_CFG_DIR (c : Nat)
  | BC_CFG_PORT (c : Nat)
  | BC_CFG_SEQ_GAP (c : Nat)
  | BC_CFG_WINDOW (c : Nat)
  | BC_CONN_ID_ID (c : Nat)
  | BC_OFFSET_OFFSET (c : Nat)
  | BC_STATUS_STATE (c : Nat)
  | BC_STATUS_SEQ_VALID (c : Nat)
  | BC_LAST_SEQ_SEQ (c : Nat)
  | BC_LAST_TICK_TICK (c : Nat)
  | BC_CNT_CRC_ERR (c : Nat)
  | BC_CNT_SEQ_ERR (c : Nat)
  | BC_CNT_LEN_ERR (c : Nat)
  | BC_CNT_LATE (c : Nat)
  deriving DecidableEq, Repr

/-- The fields of block PWR. -/
inductive PwrF where
  | CTRL_MAX_STATE
  | CTRL_A2_PAIR
  | CTRL_A2_PORT
  | CTRL_IRQ_EN
  | CTRL_MON_TEST_DIS
  | GUARD_NS
  | STATUS_STATE
  | STATUS_TARGET
  | STATUS_ENTERING
  | STATUS_FLOOR
  | NEED_TOL_US
  | NEED_GAP_US
  | EVT_STATE_CHG
  | EVT_A3_ABORT
  | EVT_SUP_WARN
  | EVT_DIP_CLOSED
  | EVT_UV_LONG
  | SUP_STATUS_SUP_WARN
  | SUP_STATUS_EPISODE_OPEN
  | SUP_STATUS_QUALIFYING
  | SUP_STATUS_INHIBIT
  | SUP_STATUS_SCRUB_PENDING
  | SUP_STATUS_VERIFY_PENDING
  | SUP_STATUS_VOLT
  | SUP_STATUS_BELOW_US
  | CNT_COUNT (i : Nat)
  | DIP_LOG_MIN
  | DIP_LOG_DUR
  | DIP_LOG_BELOW
  | DIP_LOG_FLASH_ABANDONED
  | DIP_LOG_UV_LONG
  | DIP_LOG_REACHED_RESET
  | DIP_LOG_TICK
  | DIP_LOG_VALID
  | DIP_CNT_COUNT
  | WAKE_EN_SIGDET
  | WAKE_EN_GPIO
  | WAKE_STATUS_SRC
  | WAKE_STATUS_HOST
  | WAKE_STATUS_TIMER
  | WAKE_TIMER_COUNT
  deriving DecidableEq, Repr

/-- The fields of block SEC. -/
inductive SecF where
  | LC_STATUS_STATE
  | LC_STATUS_BUSY
  | LC_CMD_OP
  | LC_RESULT_LAST
  | LC_RESULT_REFUSED
  | UID_UID (i : Nat)
  | KEY_STATUS_PROG
  | KEY_STATUS_REVOKED
  | KEY_STATUS_SEED
  | KEY_STATUS_KEK_AVAIL
  | OTP_CMD_OP
  | OTP_CMD_TARGET
  | OTP_STATUS_BUSY
  | OTP_STATUS_RESULT
  | OTP_STAGE_DATA (i : Nat)
  | ARB_STATUS_VALUE
  | ARB_STATUS_BUSY
  | ARB_STATUS_RESULT
  | ARB_CMD_VALUE
  | ARB_CMD_GO
  | DBG_STATUS_LEVEL
  | DBG_STATUS_LOCKED
  | DBG_STATUS_VERIFYING
  | DBG_STATUS_RESULT
  | DBG_STATUS_FAILS
  | DBG_CTRL_D1_OPEN
  | DBG_CTRL_CLOSE
  | DBG_CTRL_SUBMIT
  | DBG_CTRL_IRQ_EN
  | DBG_CHAL_CHAL (i : Nat)
  | DBG_TOKEN_DATA (i : Nat)
  | EVT_LC_CHG
  | EVT_DBG_CHG
  | EVT_TOKEN_DONE
  | EVT_OTP_DONE
  | EVT_ARB_DONE
  | CNT_TOKEN_FAIL
  | CNT_CLOSE_IGNORED
  deriving DecidableEq, Repr

/-- The fields of block PMC. -/
inductive PmcF where
  | CTRL_FREEZE
  | CTRL_SNAP
  | CTRL_IRQ_EN
  | CTRL_HOLD
  | SNAP_SEQ_SEQ
  | SNAP_INFO_SRC
  | SNAP_INFO_SKIP
  | SNAP_TICK_TICK
  | OVF_OVF (j : Nat)
  | SEL_EVENT (n : Nat)
  | SEL_INST (n : Nat)
  | SEL_OVF_IRQ (n : Nat)
  | SEL_EN (n : Nat)
  | CNT_COUNT (n : Nat)
  | SNAP_BANK_COUNT (b : Nat) (n : Nat)
  | SMP_CFG_EN (p : Nat)
  | SMP_CFG_HALF (p : Nat)
  | SMP_CFG_CLASS_MASK (p : Nat)
  | SMP_CFG_JITTER (p : Nat)
  | SMP_PERIOD_PERIOD (p : Nat)
  | SMP_PTR_RD (p : Nat)
  | SMP_PTR_WR (p : Nat)
  | SMP_STATUS_LOST (p : Nat)
  | SMP_STATUS_WM_HIT (p : Nat)
  | SMP_STATUS_RD_REFUSED (p : Nat)
  | SMP_WM_WM (p : Nat)
  deriving DecidableEq, Repr

/-- The fields of block SBD. -/
inductive SbdF where
  | CTRL_IRQ_EN
  | RST_CTRL_OP
  | RST_CTRL_KEY
  | RST_RESULT_LAST
  | RST_RESULT_REFUSED
  | RST_CAUSE_LAST
  | RST_CAUSE_WDT_SAFETY
  | RST_CAUSE_WARM_CNT
  | RST_CAUSE_WDT_CNT
  | RST_CAUSE_SAFETY_CNT
  | WDT_CFG_EN
  | WDT_CFG_PERIOD
  | WDT_FEED_VALUE
  | WDT_STATUS_COUNTING
  | WDT_STATUS_BAD_FEED
  | BOOT_STATUS_RESULT
  | BOOT_STATUS_HDR
  | BOOT_STATUS_SLOT
  | BOOT_STATUS_CODE_FIRST
  | BOOT_STATUS_CODE_SECOND
  | BOOT_TIME_US
  | SFDP_INFO_LOG2_BYTES
  | SFDP_INFO_QUAD
  | SFDP_INFO_ADDR4
  | SFDP_INFO_FALLBACK
  | FL_CMD_OP
  | FL_ADDR_ADDR
  | FL_STATUS_BUSY
  | FL_STATUS_RESULT
  | FL_LOG_PAGE
  | FL_LOG_INCOMPLETE
  | FL_BUF_DATA (i : Nat)
  | SMB_STATUS_ADDR
  | SMB_STATUS_SMB_ARB_FAIL
  | SMB_STATUS_EID
  | SMB_CFG_FAST
  | SMB_CNT_ARB_LOST
  | SMB_CNT_ARB_FAIL
  | SMB_CNT_TIMEOUT
  | SMB_CNT_RX_BAD
  | GPIO_DIR_DIR
  | GPIO_OUT_OUT
  | GPIO_IN_IN
  | GPIO_EDGE_RISE
  | GPIO_EDGE_FALL
  | GPIO_EVT_EVT
  deriving DecidableEq, Repr

/-- The fields of a function's configuration space (R356 to R359); the places inside a
capability are those of the PCI Express Base Specification 4.0 that R356 and R358 cite
(PRESUMED, assumption 6). -/
inductive CsF where
  | VENDOR_ID
  | DEVICE_ID
  | CMD_MSE
  | CMD_BME
  | CMD_PER
  | CMD_SERR
  | CMD_INTDIS
  | STS_INT
  | STS_CAPLIST
  | STS_MDPE
  | STS_STA
  | STS_RTA
  | STS_RMA
  | STS_SSE
  | STS_DPE
  | REVISION
  | CLASS
  | HDR_TYPE
  | BAR0_ATTR
  | BAR0
  | BAR2_ATTR
  | BAR2
  | BAR4_ATTR
  | BAR4
  | SUBSYS_VID
  | SUBSYS_ID
  | CAP_PTR
  | INT_LINE
  | INT_PIN
  | PM_HDR
  | PMC
  | PM_STATE
  | PM_NOSOFTRST
  | PM_PME_EN
  | PM_PME_STATUS
  | PCIE_HDR
  | DEVCAP
  | DC_CERE
  | DC_NFERE
  | DC_FERE
  | DC_URRE
  | DC_RO
  | DC_MPS
  | DC_EXTTAG
  | DC_NS
  | DC_MRRS
  | DC_FLR
  | DS_CED
  | DS_NFED
  | DS_FED
  | DS_URD
  | DS_TP
  | LINKCAP
  | LC_ASPM
  | LC_CCC
  | LC_CLKPM
  | LC_HAWD
  | DEVCAP2
  | DC2_LTR
  | DC2_TAG10
  | LINKCAP2
  | LC2_TLS
  | MSIX_HDR
  | MSIX_SIZE
  | MSIX_FMASK
  | MSIX_EN
  | MSIX_TABLE
  | MSIX_PBA
  | AER_HDR
  | AER_UE_STS
  | AER_UE_MASK
  | AER_UE_SEV
  | AER_CE_STS
  | AER_CE_MASK
  | AER_FEP
  | AER_HDRLOG0
  | AER_HDRLOG1
  | AER_HDRLOG2
  | AER_HDRLOG3
  | ARI_HDR
  | ARI_NEXT
  | ACS_HDR
  | SRIOV_HDR
  | SRIOV_VFE
  | SRIOV_VFMSE
  | SRIOV_ARI
  | SRIOV_INITVFS
  | SRIOV_TOTALVFS
  | SRIOV_NUMVFS
  | SRIOV_OFFSET
  | SRIOV_STRIDE
  | SRIOV_VFDEV
  | SRIOV_PAGES
  | SRIOV_SYSPAGE
  | SRIOV_VFBAR0_ATTR
  | SRIOV_VFBAR0
  | SRIOV_VFBAR2_ATTR
  | SRIOV_VFBAR2
  | SPCIE_HDR
  | DLF_HDR
  | PL16_HDR
  | LMR_HDR
  | LTR_HDR
  | LTR_MAX_SNOOP
  | LTR_MAX_NOSNOOP
  | L1SS_HDR
  | L1SS_CAP
  | L1SS_EN
  | L1SS_CTL1
  | L1SS_CTL2
  | DVSEC_HDR
  | DVSEC_HDR1
  | DVSEC_ID
  deriving DecidableEq, Repr

/-- Every field of every register block of PF0 BAR0 (R34); `cs f x` is field `x` of the
configuration space of function `f` (R356 to R359); `msix f v w` is 32-bit word `w` of MSI-X entry
`v` of function `f` and `pba f` its pending bits (R358, R366). -/
inductive Fld where
  | sys (f : SysF)
  | tck (f : TckF)
  | cfg (f : CfgF)
  | hep (f : HepF)
  | rng (f : RngF)
  | dma (f : DmaF)
  | brg (f : BrgF)
  | mac (f : MacF)
  | par (f : ParF)
  | eng (f : EngF)
  | cry (f : CryF)
  | nvt (f : NvtF)
  | tim (f : TimF)
  | cal (f : CalF)
  | saf (f : SafF)
  | pwr (f : PwrF)
  | sec (f : SecF)
  | pmc (f : PmcF)
  | sbd (f : SbdF)
  | cs (f : Nat) (x : CsF)
  | msix (f v w : Nat)
  | pba (f : Nat)
  deriving DecidableEq, Repr

/-- The widths of the fields of block SYS, in bits. -/
def SysF.width : SysF → Nat
  | .CONFIG_SAFETY_FUSE | .MEM_UE_LOG_VALID => 1
  | .MEM_UE_LOG_REGION => 3
  | .CONFIG_PORTS | .CONFIG_PAIRS | .CONFIG_ROOT_PORTS => 4
  | .REVISION_STEPPING | .REVISION_MAJOR => 8
  | .MEM_UE_LOG_LINE => 17
  | .MEM_CE_CNT_COUNT _ | .MEM_UE_CNT_COUNT _ => 32
  | _ => 16

/-- The widths of the fields of block TCK, in bits. -/
def TckF.width : TckF → Nat
  | .CTRL_SRC | .STATUS_SRC_STATE => 2
  | .OVR_LOG_PHASE | .SLOT_REC_STATUS _ => 3
  | .PROOF_ERR_PORT => 4
  | .MARGIN_PCT | .PROOF_ERR_SLOT | .CANCEL_SLOT | .SLOT_REC_SLOT _ => 6
  | .PERIOD_N => 7
  | .PROOF_ERR_CODE | .CANCEL_CNT_REFUSED_RUN => 8
  | .CANCEL_CNT_STALE | .CANCEL_CNT_REFUSED => 12
  | .SLOT_REC_USED _ => 21
  | .OVR_LOG_TICK => 24
  | .OVR_CNT_COUNT | .CUT_CNT_COUNT | .CARRY_CNT_COUNT | .NOTICK_DROP_COUNT => 32
  | .REC_OVF_COUNT | .REL_MISS_COUNT _ | .SLOT_REC_TICK _ => 32
  | .COUNT_TICK => 48
  | _ => 1

/-- The widths of the fields of block CFG, in bits. -/
def CfgF.width : CfgF → Nat
  | .STATUS_CONFIG | .OVL_CMD_OP | .OVL_STATUS_STATE | .CONF_CMD_DECISION => 2
  | .OVL_CMD_INDEX | .OVL_STATUS_ACTIVE | .OVL_STATUS_TARGET | .OVL_STATUS_LAST_RESULT => 4
  | .OVL_LOG_FROM | .OVL_LOG_TO | .CONF_PENDING_FROM | .CONF_PENDING_TO => 4
  | .CONF_CMD_TO => 4
  | .LOAD_ERR_CODE | .LOAD_ERR_SECTION | .OVL_LOG_DEFERRED | .CNT_ARM_REFUSED => 8
  | .CNT_STALE | .CNT_CONF_STALE | .CNT_RUN_REFUSED => 8
  | .OVL_INFO_NLINE _ => 9
  | .OVL_INFO_NREG _ => 10
  | .CONF_CTRL_TIMEOUT => 16
  | .LOAD_LEN_LEN => 21
  | .SEAL_LOG_OFFSET => 23
  | .SIG_STATUS_TICK => 24
  | .IMAGE_VER_VALUE | .IMAGE_DIGEST_VALUE | .OVL_LOG_TICK | .SEAL_VIOL_COUNT => 32
  | .SIG_REF_CRC | .SIG_ERR_CNT_COUNT | .CONF_TAG_TAG | .CONF_CMD_TAG => 32
  | .LOAD_ADDR_ADDR => 58
  | _ => 1

/-- The widths of the fields of block HEP, in bits. -/
def HepF.width : HepF → Nat
  | .FN_STATUS_DSTATE _ | .CTN_STATUS_STATE => 2
  | .LTR_VAL_SNOOP_SCALE _ | .LTR_VAL_NOSNOOP_SCALE _ | .FN_CTRL_LAT_SCALE _ | .CTN_STATUS_CAUSE => 3
  | .CTN_RESULT_LAST => 3
  | .LINK_STATUS_SPEED => 4
  | .LINK_STATUS_WIDTH | .EVT_VEC_VECTOR _ => 6
  | .CTN_LOG_TRIGGERS | .CPL_TMO_MS => 7
  | .CTN_RESULT_REFUSED => 8
  | .RD_STATUS_OUT | .LTR_VAL_SNOOP_VALUE _ | .LTR_VAL_NOSNOOP_VALUE _ | .RDQ_MAX _ => 10
  | .RDQ_OUT _ | .FN_CTRL_LAT_VALUE _ | .CTN_CTRL_QUAR_LIMIT | .QUAR_STATUS_TOTAL => 10
  | .QUAR_STATUS_TIMED => 10
  | .LINK_CNT_DOWN | .LINK_CNT_RETRAIN | .IRQ_DROP_VF_VECTOR | .IRQ_DROP_PF1_D3_REFUSED => 16
  | .CTN_STATUS_SEQ | .CTN_RELEASE_SEQ => 16
  | .CTN_TICK_TICK | .ERR_CNT_COUNT _ => 32
  | .POISON_TX_MODE => 50
  | .PF0_IPEND_PEND => 64
  | _ => 1

/-- The widths of the fields of block RNG, in bits. -/
def RngF.width : RngF → Nat
  | .SQ_ASSIGN_KIND _ | .SQ_STATUS_STATE _ => 2
  | .DB_LOG_REASON _ => 3
  | .SQ_ASSIGN_TCH _ | .SQ_CTRL_LOG2SIZE _ | .CQ_CTRL_LOG2SIZE _ => 5
  | .SQ_ASSIGN_FUNC _ | .CQ_ASSIGN_FUNC _ | .CQ_CTRL_VECTOR _ | .SEALED_LOG_FUNC => 6
  | .SQ_ASSIGN_LOCAL _ | .SQ_BIND_CQ _ | .SQ_BIND_CLASS _ | .CQ_ASSIGN_LOCAL _ => 8
  | .CQ_CTRL_COAL_CNT _ | .DB_LOG_RING _ | .SEALED_LOG_RING => 8
  | .SQ_BIND_HOLD_LINES _ => 14
  | .SQ_INDEX_TAIL _ | .SQ_INDEX_HEAD _ | .SQ_STATUS_OUTSTANDING _ | .CQ_INDEX_TAIL _ => 16
  | .CQ_INDEX_HEAD _ | .CQ_STATUS_RESERVED _ | .DB_LOG_INDEX _ => 16
  | .FCNT_COUNT _ _ => 32
  | .SQ_BASE_ADDR _ | .CQ_BASE_ADDR _ => 58
  | .SQ_MIRROR_ADDR _ | .CQ_MIRROR_ADDR _ => 62
  | _ => 1

/-- The widths of the fields of block DMA, in bits. -/
def DmaF.width : DmaF → Nat
  | .LL_STATUS_STATE _ => 3
  | .REQ_MAP_KIND _ => 4
  | .REQ_FIRE_LINE | .LL_CFG_FUNC _ | .TCH_CFG_FUNC _ | .TCH_CFG_SWAP_LINE _ => 6
  | .ERR_LOG_CHANNEL => 7
  | .ERR_LOG_STATUS | .REQ_MAP_PENDING _ | .LL_STATUS_LAST_STATUS _ | .LL_CNT_BAD _ => 8
  | .LL_CNT_REFUSED _ | .TCH_STATUS_LAST_STATUS _ => 8
  | .TAG_STATUS_IN_USE | .TAG_STATUS_DISCARD => 10
  | .REQ_MAP_ARG _ => 12
  | .VAT_STATUS_FREE | .VAT_STATUS_POOL_FREE | .VAT_QUOTA_RESERVE _ | .VAT_QUOTA_LIMIT _ => 14
  | .VAT_USE_USED _ | .VAT_USE_GUAR _ => 14
  | .TCH_MBOX_LINE _ => 15
  | .LL_CNT_DONE _ | .TCH_CNT_NO_SHADOW _ | .TCH_CNT_CARRY _ | .TCH_CNT2_HELD _ => 16
  | .TCH_CNT2_SHADOW_REFUSED _ => 16
  | .LL_REMAIN_BYTES _ | .TCH_REMAIN_BYTES _ => 24
  | .IRQ_PEND_PEND _ | .QCNT_REFUSED _ | .TCH_SHADOW_DATA _ _ | .TCH_ACTIVE_DATA _ _ => 32
  | .LL_HEAD_ADDR _ => 59
  | .ERR_ADDR_ADDR | .LL_CUR_ADDR _ => 64
  | _ => 1

/-- The widths of the fields of block BRG, in bits. -/
def BrgF.width : BrgF → Nat
  | .RP_CTRL_MAX_SPEED _ | .RP_STATUS_STATE _ | .RP_STATUS_SPEED _ | .WIN_CTRL_ATTR _ _ => 2
  | .RP_CTRL_PF_LINES _ | .RP_CFG_ADDR_FN _ | .RP_CTN_STATUS_CAUSE _ | .RP_CTN_STATUS_RESULT _ => 3
  | .RP_CFG_ADDR_BE _ | .RP_ERR_LOG_KIND _ => 4
  | .RP_CTN_TRIG _ | .WIN_CTRL_LOG2SIZE _ _ | .WIN_CTRL_FUNC _ _ | .INB_CTRL_LOG2SIZE _ _ => 6
  | .INB_CTRL_FUNC _ _ => 6
  | .RP_CPL_TMO_MS _ => 7
  | .KA_STATUS_LATE _ => 8
  | .RP_CFG_ADDR_REG _ | .KA_CFG_SA_LO _ | .KA_CFG_SA_HI _ => 10
  | .RP_CTN_STATUS_SEQ _ | .RP_CTN_RELEASE_SEQ _ | .KA_LIMIT_LIMIT _ | .KA_STATUS_EXP_TICK _ => 16
  | .WIN_APERTURE_OFFSET _ _ => 19
  | .WIN_BELL_BELL_OFF _ _ => 30
  | .RP_CFG_DATA_DATA _ | .RP_MSI_PEND_PEND _ | .KA_LAST_LAST _ | .RP_CNT_COUNT _ _ => 32
  | .WIN_BASE_ADDR _ _ | .INB_BASE_ADDR _ _ | .INB_HOST_ADDR_ADDR _ _ => 52
  | _ => 1

/-- The widths of the fields of block MAC, in bits. -/
def MacF.width : MacF → Nat
  | .PORT_CTRL_SPEED_FORCE _ | .PORT_STATUS_SPEED _ | .PORT_STATUS_LP_PAUSE _ | .TAG_CTRL_STRIP _ => 2
  | .FC_CTRL_TX_MODE _ | .MDIO_CMD_OP => 2
  | .PORT_CTRL_MODE _ | .PFC_QMAP_Q _ _ => 3
  | .MDIO_CMD_REG_DEV | .MDIO_CMD_PHYAD => 5
  | .FC_CTRL_XOFF_LINES _ | .FC_CTRL_XON_LINES _ | .FC_CTRL_PFC_TX_PRIO _ | .MDIO_CFG_DIV => 8
  | .MDIO_STATUS_REFUSED => 8
  | .FRAME_MAX_LEN _ => 14
  | .TXQ_SHAPE_BURST _ _ => 15
  | .TAG_CTRL_TPID_X _ | .AN_ERR_DUPLEX _ | .AN_ERR_RESTART _ | .UC_ADDR_HI_ADDR_4_5 _ _ => 16
  | .TXQ_SHAPE_RATE _ _ | .FC_QUANTA_QUANTA _ | .MDIO_CMD_WDATA | .MDIO_STATUS_DATA => 16
  | .UC_ADDR_LO_ADDR_0_3 _ _ | .MC_HASH_BITS _ _ | .CNT_COUNT _ _ => 32
  | _ => 1

/-- The widths of the fields of block PAR, in bits. -/
def ParF.width : ParF → Nat
  | .PORT_CFG_FRAG_MODE _ => 2
  | .FX_WIN_BIT _ _ => 3
  | .PORT_CFG_MAX_HDRS _ | .FX_PROFILE_PROFILE _ | .LAST_FAIL_REASON _ => 4
  | .FX_WIN_DEST _ _ => 5
  | .FX_WIN_WIDTH _ _ => 6
  | .PORT_CFG_ROOT _ | .PORT_DEFAULT_NOMATCH_CLASS _ | .PORT_DEFAULT_FAIL_CLASS _ | .LAST_FAIL_NODE _ => 8
  | .LAST_FAIL_OFFSET _ | .DP_LOG_DIFF _ | .FX_WIN_OFFSET _ _ | .FRAG_STATUS_OCCUPANCY => 8
  | .PORT_CFG_MAX_BYTES _ => 9
  | .FRAG_CFG_AGE_TICKS => 16
  | .SAFE_MASK_MASK _ _ | .FRAG_EVICT_CNT_COUNT | .CNT_COUNT _ _ => 32
  | _ => 1

/-- The widths of the fields of block ENG, in bits. -/
def EngF.width : EngF → Nat
  | .PAIR_STATUS_STATE_A _ | .PAIR_STATUS_STATE_B _ => 3
  | .EXC_LOG_CODE _ _ | .BE_CFG_MAX_PREEMPT => 4
  | .EXC_LOG_SLOT _ _ => 6
  | .BE_BIND_CLASS _ | .BE_BIND_PAIRS _ => 8
  | .TXC_STATUS_OCCUPANCY _ => 9
  | .BE_BIND_PROGRAM _ => 12
  | .EXC_LOG_PC _ _ | .LS_LOG_PC _ => 14
  | .EXC_ADDR_ADDR _ _ | .UNSERVED_CNT_COUNT | .CNT_COUNT _ _ => 32
  | _ => 1

/-- The widths of the fields of block CRY, in bits. -/
def CryF.width : CryF → Nat
  | .EVENT_LOG_CAUSE | .SA_CMD_OP | .SA_CMD_STATUS_RESULT => 3
  | .PIPE_STATUS_OCC0 | .PIPE_STATUS_OCC1 => 6
  | .EVENT_LOG_SA | .SA_CMD_INDEX => 10
  | .SA_CMD_STATUS_BUSY_CNT => 16
  | .SA_STAGE_DATA _ | .KEY_STAGE_DATA _ | .CNT_COUNT _ => 32
  | _ => 1

/-- The widths of the fields of block NVT, in bits. -/
def NvtF.width : NvtF → Nat
  | .CONN_CMD_OP _ => 2
  | .DISCARD_INFO_CAUSE | .CONN_CFG_CTRLR _ | .CONN_STATE_STATE _ => 3
  | .CONN_TCP_MAX_RETX _ | .CONN_STATE_LAST_ERR _ | .QP_CFG_CONN_A _ | .QP_CFG_CONN_B _ => 4
  | .DISCARD_INFO_QP | .QP_CFG_FUNC _ => 6
  | .QP_CFG_MAX_OUT _ | .QP_STATUS_OUTSTANDING _ => 7
  | .CONN_CFG_TX_CLASS _ | .CONN_CFG_SNDBUF _ | .CONN_STATE_CIDS _ | .QP_CFG_RING _ => 8
  | .CONN_TCP_RTO_MIN _ => 12
  | .CONN_ICD_ICD_MAX _ => 14
  | .CONN_PORTS_LOCAL_PORT _ | .CONN_PORTS_REMOTE_PORT _ | .CONN_TCP_MSS _ | .CONN_ICD_OPEN_TMO _ => 16
  | .CONN_STATE_RTO_CUR _ | .QP_TMO_CMD_TMO _ => 16
  | .CONN_LOCAL_ADDR_ADDR _ _ | .CONN_REMOTE_ADDR_ADDR _ _ | .CONN_MAXH2C_BYTES _ | .CNT_COUNT _ => 32
  | .DISCARD_LOG_TAG => 64
  | _ => 1

/-- The widths of the fields of block TIM, in bits. -/
def TimF.width : TimF → Nat
  | .STATUS_STATE => 2
  | .UART_BAUD => 3
  | .LOCK_LOCK_CNT | .RXTS_POP_MSG_TYPE _ | .TXTS_POP_MSG_TYPE _ => 4
  | .LOOP_KP_SHIFT | .LOOP_KI_SHIFT => 5
  | .PPS_CTRL_WIDTH | .RXTS_POP_DOMAIN _ | .TXTS_POP_DOMAIN _ => 8
  | .LOCK_LOSS => 12
  | .STEP_SEC_SEC | .LOCK_LOCK_NS | .UTC_OFFSET_S | .RX_EXT_DELAY _ => 16
  | .TX_EXT_DELAY _ | .RXTS_POP_SEQ_ID _ | .TXTS_POP_SEQ_ID _ | .PORT_CNT_RX_OVF _ => 16
  | .PORT_CNT_TX_OVF _ => 16
  | .NOW_NS_NS | .PPS_CAP_NS_NS | .RXTS_NS_NS _ | .TXTS_NS_NS _ => 30
  | .FREQ_ADJ_ADJ | .STEP_NS_NS | .PTP_SAMPLE_E | .STEP_THR_NS => 32
  | .INTEG_I | .LAST_E_E | .PPS_OFFSET_NS | .PPS_BIAS_BIAS => 32
  | .CNT_COUNT _ => 32
  | .NOW_SEC_SEC | .PPS_CAP_SEC_SEC | .TOD_SEC | .RXTS_SEC_SEC _ => 48
  | .TXTS_SEC_SEC _ => 48
  | _ => 1

/-- The widths of the fields of block CAL, in bits. -/
def CalF.width : CalF → Nat
  | .LOG_CAUSE => 3
  | .LOG_ENTRY => 5
  | .CFG_EYE_MIN_W => 6
  | .CFG_SPREAD_MAX => 8
  | .AGE_STATUS_OVERDUE | .AGE_STATUS_OVERDUE2 => 14
  | .AGE_MAX_AGE _ => 16
  | .CNT_COUNT _ => 32
  | _ => 1

/-- The widths of the fields of block SAF, in bits. -/
def SafF.width : SafF → Nat
  | .STATE_STATUS | .BC_CFG_PORT _ => 2
  | .CMD_OP | .STATE_STATE => 3
  | .RESULT_LAST | .CTRL_IRQ_EN => 4
  | .STATE_CAUSE | .TRIP_LOG_CODE => 5
  | .WARN_WARN | .MON_STATUS_CLK_FAIL => 7
  | .RESULT_REFUSED | .TRIP_LOG_DETAIL | .MON_STATUS_SCRUB_AGE | .BC_CFG_SEQ_GAP _ => 8
  | .BC_CNT_CRC_ERR _ | .BC_CNT_SEQ_ERR _ | .BC_CNT_LEN_ERR _ | .BC_CNT_LATE _ => 8
  | .HA_CFG_MIN_US => 12
  | .BC_OFFSET_OFFSET _ => 14
  | .CMD_SEQ | .STATE_SEQ | .HA_STATUS_EDGES | .MON_STATUS_PASSES => 16
  | .CNT_RECOVERIES | .CNT_PAIRS_CLEARED | .BC_CFG_WINDOW _ => 16
  | .FAULT_FAULTS | .HA_CFG_MAX_US => 20
  | .TRIP_TICK_TICK | .BC_CONN_ID_ID _ | .BC_LAST_SEQ_SEQ _ | .BC_LAST_TICK_TICK _ => 32
  | _ => 1

/-- The widths of the fields of block PWR, in bits. -/
def PwrF.width : PwrF → Nat
  | .CTRL_MAX_STATE | .CTRL_A2_PORT | .STATUS_STATE | .STATUS_TARGET => 2
  | .CTRL_A2_PAIR => 3
  | .WAKE_EN_SIGDET => 4
  | .SUP_STATUS_VOLT | .DIP_LOG_MIN | .WAKE_EN_GPIO => 8
  | .DIP_LOG_BELOW => 10
  | .DIP_LOG_DUR | .WAKE_STATUS_SRC => 12
  | .GUARD_NS | .NEED_TOL_US | .NEED_GAP_US | .SUP_STATUS_BELOW_US => 16
  | .DIP_CNT_COUNT => 16
  | .DIP_LOG_TICK => 30
  | .CNT_COUNT _ | .WAKE_TIMER_COUNT => 32
  | _ => 1

/-- The widths of the fields of block SEC, in bits. -/
def SecF.width : SecF → Nat
  | .LC_STATUS_STATE | .LC_CMD_OP | .KEY_STATUS_REVOKED | .OTP_CMD_OP => 2
  | .DBG_STATUS_LEVEL => 2
  | .OTP_CMD_TARGET | .OTP_STATUS_RESULT | .ARB_STATUS_RESULT => 3
  | .LC_RESULT_LAST | .KEY_STATUS_PROG | .DBG_STATUS_RESULT | .DBG_STATUS_FAILS => 4
  | .ARB_STATUS_VALUE | .ARB_CMD_VALUE => 7
  | .LC_RESULT_REFUSED => 8
  | .CNT_TOKEN_FAIL | .CNT_CLOSE_IGNORED => 16
  | .UID_UID _ | .OTP_STAGE_DATA _ | .DBG_CHAL_CHAL _ | .DBG_TOKEN_DATA _ => 32
  | _ => 1

/-- The widths of the fields of block PMC, in bits. -/
def PmcF.width : PmcF → Nat
  | .SMP_CFG_HALF _ => 2
  | .SMP_CFG_JITTER _ => 4
  | .SEL_EVENT _ | .SEL_INST _ | .SMP_CFG_CLASS_MASK _ | .SMP_PTR_RD _ => 8
  | .SMP_PTR_WR _ | .SMP_STATUS_RD_REFUSED _ | .SMP_WM_WM _ => 8
  | .SNAP_INFO_SKIP | .SMP_STATUS_LOST _ => 16
  | .SMP_PERIOD_PERIOD _ => 20
  | .SNAP_SEQ_SEQ | .OVF_OVF _ => 32
  | .SNAP_TICK_TICK | .CNT_COUNT _ | .SNAP_BANK_COUNT _ _ => 48
  | _ => 1

/-- The widths of the fields of block SBD, in bits. -/
def SbdF.width : SbdF → Nat
  | .CTRL_IRQ_EN | .RST_CAUSE_WDT_SAFETY | .WDT_CFG_EN | .WDT_STATUS_COUNTING => 1
  | .BOOT_STATUS_HDR | .BOOT_STATUS_SLOT | .SFDP_INFO_QUAD | .SFDP_INFO_ADDR4 => 1
  | .SFDP_INFO_FALLBACK | .FL_STATUS_BUSY | .FL_LOG_INCOMPLETE | .SMB_STATUS_SMB_ARB_FAIL => 1
  | .SMB_CFG_FAST => 1
  | .RST_CTRL_OP | .RST_RESULT_LAST | .FL_CMD_OP => 2
  | .RST_CAUSE_LAST | .BOOT_STATUS_RESULT | .FL_STATUS_RESULT => 3
  | .SFDP_INFO_LOG2_BYTES => 5
  | .SMB_STATUS_ADDR => 7
  | .WDT_CFG_PERIOD | .WDT_STATUS_BAD_FEED => 16
  | .FL_LOG_PAGE => 31
  | .WDT_FEED_VALUE | .BOOT_TIME_US | .FL_ADDR_ADDR | .FL_BUF_DATA _ => 32
  | _ => 8

/-- The reset values of the fields of block SYS (column Reset; 0 where not listed). -/
def SysF.reset : SysF → Nat
  | .ID_VENDOR => 8011
  | .ID_DEVICE => 31600
  | .REVISION_MAJOR => 1
  | .CONFIG_PORTS => 4
  | .CONFIG_PAIRS => 8
  | .CONFIG_ROOT_PORTS => 2
  | _ => 0

/-- The reset values of the fields of block TCK (column Reset; 0 where not listed). -/
def TckF.reset : TckF → Nat
  | .PERIOD_N => 8
  | .MARGIN_PCT => 12
  | .SLOT_REC_STATUS _ => 7
  | _ => 0

/-- The reset values of the fields of block CFG (column Reset; 0 where not listed). -/
def CfgF.reset : CfgF → Nat
  | .SIG_STATUS_UNSEALED => 1
  | .CONF_CTRL_TIMEOUT => 4000
  | _ => 0

/-- The reset values of the fields of block HEP (column Reset; 0 where not listed). -/
def HepF.reset : HepF → Nat
  | .RDQ_MAX f => if f = 0 then 256 else 64
  | .CTN_CTRL_TRIG_FATAL => 1
  | .CTN_CTRL_TRIG_QUAR => 1
  | .CTN_CTRL_TRIG_SURPRISE => 1
  | .CTN_CTRL_QUAR_LIMIT => 256
  | .CPL_TMO_MS => 16
  | _ => 0

/-- The reset values of the fields of block RNG (column Reset; 0 where not listed). -/
def RngF.reset : RngF → Nat
  | .SQ_CTRL_LOG2SIZE _ => 6
  | .CQ_CTRL_LOG2SIZE _ => 6
  | .CQ_CTRL_COAL_CNT _ => 1
  | _ => 0

/-- The reset values of the fields of block DMA (column Reset; 0 where not listed). -/
def DmaF.reset : DmaF → Nat
  | .VAT_STATUS_FREE => 8192
  | .VAT_STATUS_POOL_FREE => 7680
  | .VAT_QUOTA_RESERVE f => if f = 0 then 512 else 0
  | .VAT_QUOTA_LIMIT f => if f = 0 then 8192 else 0
  | .VAT_USE_GUAR f => if f = 0 then 512 else 0
  | _ => 0

/-- The reset values of the fields of block BRG (column Reset; 0 where not listed). -/
def BrgF.reset : BrgF → Nat
  | .RP_CTRL_PERST _ => 1
  | .RP_CTRL_MAX_SPEED _ => 3
  | .RP_CTRL_PF_LINES _ => 4
  | .RP_CFG_ADDR_BE _ => 15
  | .RP_CTN_TRIG _ => 39
  | .RP_CPL_TMO_MS _ => 16
  | .WIN_CTRL_LOG2SIZE _ _ => 12
  | .INB_CTRL_LOG2SIZE _ _ => 12
  | _ => 0

/-- The reset values of the fields of block MAC (column Reset; 0 where not listed). -/
def MacF.reset : MacF → Nat
  | .PORT_CTRL_AN_EN _ => 1
  | .PORT_CTRL_SPEED_FORCE _ => 2
  | .PORT_CTRL_BCAST_EN _ => 1
  | .FRAME_MAX_LEN _ => 1522
  | .TAG_CTRL_TPID_X _ => 37120
  | .FC_CTRL_XOFF_LINES _ => 192
  | .FC_CTRL_XON_LINES _ => 128
  | .FC_QUANTA_QUANTA _ => 65535
  | .PFC_QMAP_Q _ i => i
  | .MDIO_CFG_DIV => 39
  | _ => 0

/-- The reset values of the fields of block PAR (column Reset; 0 where not listed). -/
def ParF.reset : ParF → Nat
  | .PORT_CFG_PRIMARY _ => 1
  | .PORT_CFG_MAX_BYTES _ => 256
  | .PORT_CFG_MAX_HDRS _ => 10
  | .PORT_DEFAULT_NOMATCH_DROP _ => 1
  | .PORT_DEFAULT_FAIL_DROP _ => 1
  | .FRAG_CFG_AGE_TICKS => 40
  | .FRAG_CFG_FREE_ON_LAST => 1
  | _ => 0

/-- The reset values of the fields of block ENG (column Reset; 0 where not listed). -/
def EngF.reset : EngF → Nat
  | .PAIR_CFG_BE_EN _ => 1
  | .BE_CFG_MAX_PREEMPT => 4
  | _ => 0

/-- The reset values of the fields of block CRY (column Reset; 0 where not listed). -/
def CryF.reset : CryF → Nat
  | _ => 0

/-- The reset values of the fields of block NVT (column Reset; 0 where not listed). -/
def NvtF.reset : NvtF → Nat
  | .CONN_CFG_HDGST _ => 1
  | .CONN_CFG_DDGST _ => 1
  | .CONN_CFG_SNDBUF _ => 64
  | .CONN_PORTS_REMOTE_PORT _ => 4420
  | .CONN_TCP_MSS _ => 1396
  | .CONN_TCP_MAX_RETX _ => 8
  | .CONN_TCP_RTO_MIN _ => 200
  | .CONN_ICD_OPEN_TMO _ => 300
  | .QP_CFG_MAX_OUT _ => 16
  | .QP_TMO_CMD_TMO _ => 1000
  | _ => 0

/-- The reset values of the fields of block TIM (column Reset; 0 where not listed). -/
def TimF.reset : TimF → Nat
  | .CTRL_STEP_EN => 1
  | .LOOP_KP_SHIFT => 1
  | .LOOP_KI_SHIFT => 4
  | .LOCK_LOCK_NS => 100
  | .LOCK_LOCK_CNT => 8
  | .LOCK_LOSS => 30
  | .STEP_THR_NS => 1000
  | .PPS_CTRL_GATE_UNLOCKED => 1
  | .PPS_CTRL_WIDTH => 100
  | .UART_BAUD => 1
  | .UTC_OFFSET_S => 37
  | _ => 0

/-- The reset values of the fields of block CAL (column Reset; 0 where not listed). -/
def CalF.reset : CalF → Nat
  | .CFG_SPREAD_MAX => 32
  | .CFG_EYE_MIN_W => 8
  | _ => 0

/-- The reset values of the fields of block SAF (column Reset; 0 where not listed). -/
def SafF.reset : SafF → Nat
  | .STATE_STATUS => 2
  | .HA_CFG_MAX_US => 100000
  | .PIN_STATUS_OUT_B => 1
  | .BC_CFG_SEQ_GAP _ => 1
  | .BC_CFG_WINDOW _ => 8
  | _ => 0

/-- The reset values of the fields of block PWR (column Reset; 0 where not listed). -/
def PwrF.reset : PwrF → Nat
  | .GUARD_NS => 1000
  | .NEED_TOL_US => 65535
  | .NEED_GAP_US => 65535
  | _ => 0

/-- The reset values of the fields of block SEC (column Reset; 0 where not listed). -/
def SecF.reset : SecF → Nat
  | _ => 0

/-- The reset values of the fields of block PMC (column Reset; 0 where not listed). -/
def PmcF.reset : PmcF → Nat
  | .SMP_CFG_CLASS_MASK _ => 255
  | .SMP_PERIOD_PERIOD _ => 4096
  | _ => 0

/-- The reset values of the fields of block SBD (column Reset; 0 where not listed). -/
def SbdF.reset : SbdF → Nat
  | .WDT_CFG_PERIOD => 1000
  | .SMB_STATUS_ADDR => 49
  | .SMB_CFG_FAST => 1
  | _ => 0

/-- The PF0 BAR0 offset of each field's register and the field's lowest bit, block SYS. -/
def SysF.place : SysF → Nat × Nat
  | .ID_VENDOR => (0, 0)
  | .ID_DEVICE => (0, 16)
  | .REVISION_STEPPING => (4, 0)
  | .REVISION_MAJOR => (4, 8)
  | .CONFIG_SAFETY_FUSE => (8, 0)
  | .CONFIG_PORTS => (8, 4)
  | .CONFIG_PAIRS => (8, 8)
  | .CONFIG_ROOT_PORTS => (8, 12)
  | .MEM_CE_CNT_COUNT n => (32 + 4 * n, 0)
  | .MEM_UE_CNT_COUNT n => (64 + 4 * n, 0)
  | .MEM_UE_LOG_LINE => (96, 0)
  | .MEM_UE_LOG_REGION => (96, 20)
  | .MEM_UE_LOG_VALID => (96, 31)
  | .ACCESS_ERR_HOLE_CNT => (112, 0)
  | .ACCESS_ERR_REFUSED_CNT => (112, 16)

/-- The PF0 BAR0 offset of each field's register and the field's lowest bit, block TCK. -/
def TckF.place : TckF → Nat × Nat
  | .CTRL_RUN => (65536, 0)
  | .CTRL_SRC => (65536, 1)
  | .CTRL_REC_ALL => (65536, 3)
  | .CTRL_IRQ_OVR_EN => (65536, 4)
  | .CTRL_IRQ_CUT_EN => (65536, 5)
  | .PERIOD_N => (65540, 0)
  | .MARGIN_PCT => (65544, 0)
  | .STATUS_RUNNING => (65548, 0)
  | .STATUS_OVR => (65548, 1)
  | .STATUS_OVR2 => (65548, 2)
  | .STATUS_SLOT_CUT => (65548, 3)
  | .STATUS_PROOF_FAIL => (65548, 4)
  | .STATUS_SLEW => (65548, 5)
  | .STATUS_SRC_STATE => (65548, 6)
  | .STATUS_LAST_OVR => (65548, 8)
  | .STATUS_DEFER => (65548, 9)
  | .COUNT_TICK => (65552, 0)
  | .OVR_CNT_COUNT => (65568, 0)
  | .CUT_CNT_COUNT => (65572, 0)
  | .CARRY_CNT_COUNT => (65576, 0)
  | .NOTICK_DROP_COUNT => (65580, 0)
  | .REC_OVF_COUNT => (65584, 0)
  | .OVR_LOG_TICK => (65588, 0)
  | .OVR_LOG_PHASE => (65588, 24)
  | .OVR_LOG_VALID => (65588, 31)
  | .PROOF_ERR_CODE => (65592, 0)
  | .PROOF_ERR_SLOT => (65592, 8)
  | .PROOF_ERR_PORT => (65592, 16)
  | .CANCEL_SLOT => (65600, 0)
  | .CANCEL_CNT_STALE => (65604, 0)
  | .CANCEL_CNT_REFUSED => (65604, 12)
  | .CANCEL_CNT_REFUSED_RUN => (65604, 24)
  | .REL_MISS_COUNT p => (65616 + 4 * p, 0)
  | .SLOT_REC_TICK n => (66560 + 8 * n, 0)
  | .SLOT_REC_SLOT n => (66560 + 8 * n, 32)
  | .SLOT_REC_STATUS n => (66560 + 8 * n, 38)
  | .SLOT_REC_CANCEL_LATE n => (66560 + 8 * n, 41)
  | .SLOT_REC_LATE_START n => (66560 + 8 * n, 42)
  | .SLOT_REC_USED n => (66560 + 8 * n, 43)

/-- The PF0 BAR0 offset of each field's register and the field's lowest bit, block CFG. -/
def CfgF.place : CfgF → Nat × Nat
  | .CTRL_SEAL => (131072, 0)
  | .CTRL_LOAD => (131072, 1)
  | .CTRL_IRQ_SWITCH_EN => (131072, 2)
  | .CTRL_IRQ_LOAD_EN => (131072, 3)
  | .STATUS_SEALED => (131076, 0)
  | .STATUS_LOAD_BUSY => (131076, 1)
  | .STATUS_LOAD_FAIL => (131076, 2)
  | .STATUS_CONFIG => (131076, 3)
  | .STATUS_LOAD_PASS => (131076, 5)
  | .STATUS_LOAD_DONE => (131076, 6)
  | .STATUS_SWITCHED => (131076, 7)
  | .LOAD_ADDR_ADDR => (131080, 6)
  | .LOAD_LEN_LEN => (131088, 0)
  | .LOAD_ERR_CODE => (131092, 0)
  | .LOAD_ERR_SECTION => (131092, 8)
  | .IMAGE_VER_VALUE => (131096, 0)
  | .IMAGE_DIGEST_VALUE => (131100, 0)
  | .OVL_CMD_INDEX => (131104, 0)
  | .OVL_CMD_OP => (131104, 8)
  | .OVL_STATUS_ACTIVE => (131108, 0)
  | .OVL_STATUS_TARGET => (131108, 4)
  | .OVL_STATUS_STATE => (131108, 8)
  | .OVL_STATUS_TOUCH => (131108, 10)
  | .OVL_STATUS_LAST_RESULT => (131108, 16)
  | .OVL_INFO_VALID i => (131140 + 4 * i, 0)
  | .OVL_INFO_SAFETY_TOUCH i => (131140 + 4 * i, 1)
  | .OVL_INFO_HAS_EPH i => (131140 + 4 * i, 2)
  | .OVL_INFO_NREG i => (131140 + 4 * i, 3)
  | .OVL_INFO_NLINE i => (131140 + 4 * i, 13)
  | .OVL_INFO_SAT i => (131140 + 4 * i, 22)
  | .OVL_LOG_TICK => (131184, 0)
  | .OVL_LOG_FROM => (131184, 32)
  | .OVL_LOG_TO => (131184, 36)
  | .OVL_LOG_DEFERRED => (131184, 40)
  | .SEAL_VIOL_COUNT => (131200, 0)
  | .SEAL_LOG_OFFSET => (131204, 0)
  | .SEAL_LOG_VALID => (131204, 31)
  | .SIG_REF_CRC => (131216, 0)
  | .SIG_STATUS_TICK => (131220, 0)
  | .SIG_STATUS_UNSEALED => (131220, 30)
  | .SIG_STATUS_MISMATCH => (131220, 31)
  | .SIG_ERR_CNT_COUNT => (131224, 0)
  | .CNT_ARM_REFUSED => (131232, 0)
  | .CNT_STALE => (131232, 8)
  | .CNT_CONF_STALE => (131232, 16)
  | .CNT_RUN_REFUSED => (131232, 24)
  | .CONF_PENDING_FROM => (196608, 0)
  | .CONF_PENDING_TO => (196608, 4)
  | .CONF_PENDING_PENDING => (196608, 8)
  | .CONF_PENDING_DONE => (196608, 9)
  | .CONF_TAG_TAG => (196612, 0)
  | .CONF_CMD_TAG => (196616, 0)
  | .CONF_CMD_TO => (196616, 32)
  | .CONF_CMD_DECISION => (196616, 36)
  | .CONF_CTRL_TIMEOUT => (196624, 0)

/-- The PF0 BAR0 offset of each field's register and the field's lowest bit, block HEP. -/
def HepF.place : HepF → Nat × Nat
  | .LINK_STATUS_SPEED => (262144, 0)
  | .LINK_STATUS_WIDTH => (262144, 4)
  | .LINK_STATUS_DL_UP => (262144, 10)
  | .LINK_STATUS_REVERSED => (262144, 11)
  | .LINK_CNT_DOWN => (262148, 0)
  | .LINK_CNT_RETRAIN => (262148, 16)
  | .RD_STATUS_OUT => (262160, 0)
  | .IRQ_DROP_VF_VECTOR => (262164, 0)
  | .IRQ_DROP_PF1_D3_REFUSED => (262164, 16)
  | .PF0_IPEND_PEND => (262176, 0)
  | .EVT_VEC_VECTOR s => (262400 + 4 * s, 0)
  | .EVT_VEC_EN s => (262400 + 4 * s, 8)
  | .LTR_VAL_SNOOP_VALUE a => (262656 + 4 * a, 0)
  | .LTR_VAL_SNOOP_SCALE a => (262656 + 4 * a, 10)
  | .LTR_VAL_SNOOP_REQ a => (262656 + 4 * a, 15)
  | .LTR_VAL_NOSNOOP_VALUE a => (262656 + 4 * a, 16)
  | .LTR_VAL_NOSNOOP_SCALE a => (262656 + 4 * a, 26)
  | .LTR_VAL_NOSNOOP_REQ a => (262656 + 4 * a, 31)
  | .RDQ_MAX f => (266240 + 4 * f, 0)
  | .RDQ_OUT f => (266240 + 4 * f, 16)
  | .FN_CTRL_LAT_VALUE f => (270336 + 16 * f, 0)
  | .FN_CTRL_LAT_SCALE f => (270336 + 16 * f, 10)
  | .FN_CTRL_REQ f => (270336 + 16 * f, 15)
  | .FN_STATUS_ACTIVE f => (270340 + 16 * f, 0)
  | .FN_STATUS_FLR_BUSY f => (270340 + 16 * f, 1)
  | .FN_STATUS_DSTATE f => (270340 + 16 * f, 2)
  | .PF1_IPEND_SAFE => (302848, 0)
  | .PF1_IPEND_SAF_EVT => (302848, 1)
  | .PF1_IPEND_CFG => (302848, 2)
  | .PF1_IPEND_RING => (302848, 3)
  | .PF1_IPEND_CTN => (302848, 4)
  | .PF1_IPEND_SUPPLY => (302848, 5)
  | .PF1_IPEND_SENT => (302848, 31)
  | .CTN_CTRL_TRIG_FATAL => (294924, 0)
  | .CTN_CTRL_TRIG_NONFATAL => (294924, 1)
  | .CTN_CTRL_TRIG_POISON => (294924, 2)
  | .CTN_CTRL_TRIG_CPL_TMO => (294924, 3)
  | .CTN_CTRL_TRIG_QUAR => (294924, 4)
  | .CTN_CTRL_TRIG_SURPRISE => (294924, 5)
  | .CTN_CTRL_FREEZE => (294924, 6)
  | .CTN_CTRL_QUAR_LIMIT => (294924, 16)
  | .CTN_STATUS_STATE => (294928, 0)
  | .CTN_STATUS_CAUSE => (294928, 2)
  | .CTN_STATUS_SEQ => (294928, 16)
  | .CTN_RELEASE_GO => (294932, 0)
  | .CTN_RELEASE_SEQ => (294932, 16)
  | .CTN_RESULT_LAST => (294936, 0)
  | .CTN_RESULT_REFUSED => (294936, 8)
  | .CTN_LOG_TRIGGERS => (294940, 1)
  | .CTN_TICK_TICK => (294944, 0)
  | .CPL_TMO_MS => (294948, 0)
  | .QUAR_STATUS_TOTAL => (294952, 0)
  | .QUAR_STATUS_TIMED => (294952, 16)
  | .POISON_TX_MODE => (294976, 0)
  | .CTN_EVT_ENTERED => (294984, 0)
  | .CTN_EVT_RELEASED => (294984, 1)
  | .CTN_EVT_IRQ_EN => (294984, 8)
  | .ERR_CNT_COUNT i => (295168 + 4 * i, 0)

/-- The PF0 BAR0 offset of each field's register and the field's lowest bit, block RNG. -/
def RngF.place : RngF → Nat × Nat
  | .SQ_ASSIGN_FUNC n => (524288 + 64 * n, 0)
  | .SQ_ASSIGN_LOCAL n => (524288 + 64 * n, 8)
  | .SQ_ASSIGN_KIND n => (524288 + 64 * n, 16)
  | .SQ_ASSIGN_TICK n => (524288 + 64 * n, 18)
  | .SQ_ASSIGN_TCH n => (524288 + 64 * n, 19)
  | .SQ_ASSIGN_VALID n => (524288 + 64 * n, 31)
  | .SQ_BIND_CQ n => (524292 + 64 * n, 0)
  | .SQ_BIND_CLASS n => (524292 + 64 * n, 8)
  | .SQ_BIND_HOLD_LINES n => (524292 + 64 * n, 16)
  | .CQ_ASSIGN_FUNC n => (589824 + 64 * n, 0)
  | .CQ_ASSIGN_LOCAL n => (589824 + 64 * n, 8)
  | .CQ_ASSIGN_VALID n => (589824 + 64 * n, 31)
  | .SQ_BASE_ADDR n => (524320 + 64 * n, 6)
  | .SQ_CTRL_LOG2SIZE n => (524328 + 64 * n, 0)
  | .SQ_CTRL_EN n => (524328 + 64 * n, 8)
  | .SQ_CTRL_ABORT n => (524328 + 64 * n, 9)
  | .SQ_CTRL_MIRROR_EN n => (524328 + 64 * n, 10)
  | .SQ_INDEX_TAIL n => (524332 + 64 * n, 0)
  | .SQ_INDEX_HEAD n => (524332 + 64 * n, 16)
  | .SQ_MIRROR_ADDR n => (524336 + 64 * n, 2)
  | .SQ_STATUS_STATE n => (524344 + 64 * n, 0)
  | .SQ_STATUS_SEALED n => (524344 + 64 * n, 2)
  | .SQ_STATUS_OUTSTANDING n => (524344 + 64 * n, 16)
  | .CQ_BASE_ADDR n => (589856 + 64 * n, 6)
  | .CQ_CTRL_LOG2SIZE n => (589864 + 64 * n, 0)
  | .CQ_CTRL_EN n => (589864 + 64 * n, 8)
  | .CQ_CTRL_MIRROR_EN n => (589864 + 64 * n, 10)
  | .CQ_CTRL_IRQ_EN n => (589864 + 64 * n, 11)
  | .CQ_CTRL_VECTOR n => (589864 + 64 * n, 12)
  | .CQ_CTRL_COAL_TICK n => (589864 + 64 * n, 18)
  | .CQ_CTRL_COAL_CNT n => (589864 + 64 * n, 24)
  | .CQ_INDEX_TAIL n => (589868 + 64 * n, 0)
  | .CQ_INDEX_HEAD n => (589868 + 64 * n, 16)
  | .CQ_MIRROR_ADDR n => (589872 + 64 * n, 2)
  | .CQ_STATUS_RESERVED n => (589880 + 64 * n, 0)
  | .CQ_STATUS_HELD n => (589880 + 64 * n, 16)
  | .DB_LOG_INDEX f => (655408 + 64 * f, 0)
  | .DB_LOG_RING f => (655408 + 64 * f, 16)
  | .DB_LOG_REASON f => (655408 + 64 * f, 24)
  | .DB_LOG_CQ f => (655408 + 64 * f, 27)
  | .DB_LOG_VALID f => (655408 + 64 * f, 31)
  | .SEALED_LOG_RING => (720896, 0)
  | .SEALED_LOG_FUNC => (720896, 8)
  | .SEALED_LOG_VALID => (720896, 31)
  | .FCNT_COUNT f i => (655360 + 64 * f + 4 * i, 0)

/-- The PF0 BAR0 offset of each field's register and the field's lowest bit, block DMA. -/
def DmaF.place : DmaF → Nat × Nat
  | .CTRL_EN => (786432, 0)
  | .CTRL_IRQ_EN => (786432, 1)
  | .CTRL_INT_FLUSH => (786432, 2)
  | .STATUS_CH_ERR => (786436, 0)
  | .STATUS_HALTED => (786436, 1)
  | .STATUS_OVERCOMMIT => (786436, 2)
  | .TAG_STATUS_IN_USE => (786440, 0)
  | .TAG_STATUS_DISCARD => (786440, 10)
  | .TAG_STATUS_TEN => (786440, 20)
  | .VAT_STATUS_FREE => (786444, 0)
  | .VAT_STATUS_POOL_FREE => (786444, 16)
  | .ERR_LOG_CHANNEL => (786448, 0)
  | .ERR_LOG_STATUS => (786448, 8)
  | .ERR_LOG_VALID => (786448, 31)
  | .ERR_ADDR_ADDR => (786456, 0)
  | .IRQ_PEND_PEND j => (786464 + 4 * j, 0)
  | .VAT_QUOTA_RESERVE f => (786688 + 4 * f, 0)
  | .VAT_QUOTA_LIMIT f => (786688 + 4 * f, 16)
  | .VAT_USE_USED f => (786944 + 4 * f, 0)
  | .VAT_USE_GUAR f => (786944 + 4 * f, 16)
  | .QCNT_REFUSED f => (787200 + 4 * f, 0)
  | .REQ_MAP_KIND i => (787456 + 4 * i, 0)
  | .REQ_MAP_ARG i => (787456 + 4 * i, 4)
  | .REQ_MAP_PENDING i => (787456 + 4 * i, 16)
  | .REQ_FIRE_LINE => (787712, 0)
  | .LL_CFG_FUNC c => (790528 + 64 * c, 0)
  | .LL_HEAD_ONCHIP c => (790536 + 64 * c, 0)
  | .LL_HEAD_ADDR c => (790536 + 64 * c, 5)
  | .LL_CTRL_START c => (790544 + 64 * c, 0)
  | .LL_CTRL_STOP c => (790544 + 64 * c, 1)
  | .LL_CTRL_KICK c => (790544 + 64 * c, 2)
  | .LL_STATUS_STATE c => (790548 + 64 * c, 0)
  | .LL_STATUS_KICK_PEND c => (790548 + 64 * c, 3)
  | .LL_STATUS_LAST_STATUS c => (790548 + 64 * c, 8)
  | .LL_CUR_ADDR c => (790552 + 64 * c, 0)
  | .LL_REMAIN_BYTES c => (790560 + 64 * c, 0)
  | .LL_CNT_DONE c => (790564 + 64 * c, 0)
  | .LL_CNT_BAD c => (790564 + 64 * c, 16)
  | .LL_CNT_REFUSED c => (790564 + 64 * c, 24)
  | .TCH_CFG_MODE t => (802816 + 128 * t, 0)
  | .TCH_CFG_FUNC t => (802816 + 128 * t, 1)
  | .TCH_CFG_SRC t => (802816 + 128 * t, 7)
  | .TCH_CFG_SWAP_LINE t => (802816 + 128 * t, 8)
  | .TCH_CFG_SWAP_LINE_EN t => (802816 + 128 * t, 14)
  | .TCH_MBOX_LINE t => (802824 + 128 * t, 6)
  | .TCH_SHADOW_DATA t i => (802832 + 128 * t + 4 * i, 0)
  | .TCH_SHCTRL_ARM t => (802856 + 128 * t, 0)
  | .TCH_SHCTRL_SWAP_REQ t => (802856 + 128 * t, 1)
  | .TCH_SHCTRL_SHADOW_VALID t => (802856 + 128 * t, 2)
  | .TCH_ACTIVE_DATA t i => (802864 + 128 * t + 4 * i, 0)
  | .TCH_STATUS_LAST_STATUS t => (802888 + 128 * t, 0)
  | .TCH_STATUS_BUSY t => (802888 + 128 * t, 8)
  | .TCH_REMAIN_BYTES t => (802892 + 128 * t, 0)
  | .TCH_CNT_NO_SHADOW t => (802896 + 128 * t, 0)
  | .TCH_CNT_CARRY t => (802896 + 128 * t, 16)
  | .TCH_CNT2_HELD t => (802900 + 128 * t, 0)
  | .TCH_CNT2_SHADOW_REFUSED t => (802900 + 128 * t, 16)

/-- The PF0 BAR0 offset of each field's register and the field's lowest bit, block BRG. -/
def BrgF.place : BrgF → Nat × Nat
  | .CTRL_EN => (1048576, 0)
  | .CTRL_IRQ_EN => (1048576, 1)
  | .RP_CTRL_PERST rp => (1052672 + 4096 * rp, 0)
  | .RP_CTRL_REFCLK_EN rp => (1052672 + 4096 * rp, 1)
  | .RP_CTRL_CLKREQ_EN rp => (1052672 + 4096 * rp, 2)
  | .RP_CTRL_MAX_SPEED rp => (1052672 + 4096 * rp, 3)
  | .RP_CTRL_MPS rp => (1052672 + 4096 * rp, 5)
  | .RP_CTRL_POISON_MODE rp => (1052672 + 4096 * rp, 6)
  | .RP_CTRL_PF_LINES rp => (1052672 + 4096 * rp, 7)
  | .RP_CTRL_ASPM_L1 rp => (1052672 + 4096 * rp, 10)
  | .RP_STATUS_STATE rp => (1052676 + 4096 * rp, 0)
  | .RP_STATUS_SPEED rp => (1052676 + 4096 * rp, 2)
  | .RP_STATUS_CFG_BUSY rp => (1052676 + 4096 * rp, 4)
  | .RP_STATUS_CFG_ERR rp => (1052676 + 4096 * rp, 5)
  | .RP_STATUS_INTX rp => (1052676 + 4096 * rp, 6)
  | .RP_STATUS_CTN_CHG rp => (1052676 + 4096 * rp, 7)
  | .RP_CFG_ADDR_REG rp => (1052680 + 4096 * rp, 2)
  | .RP_CFG_ADDR_FN rp => (1052680 + 4096 * rp, 12)
  | .RP_CFG_ADDR_BE rp => (1052680 + 4096 * rp, 16)
  | .RP_CFG_DATA_DATA rp => (1052684 + 4096 * rp, 0)
  | .RP_CTN_TRIG rp => (1052688 + 4096 * rp, 0)
  | .RP_CTN_FREEZE rp => (1052688 + 4096 * rp, 8)
  | .RP_CTN_STATUS_CAUSE rp => (1052692 + 4096 * rp, 0)
  | .RP_CTN_STATUS_RESULT rp => (1052692 + 4096 * rp, 3)
  | .RP_CTN_STATUS_SEQ rp => (1052692 + 4096 * rp, 16)
  | .RP_CTN_RELEASE_GO rp => (1052696 + 4096 * rp, 0)
  | .RP_CTN_RELEASE_SEQ rp => (1052696 + 4096 * rp, 16)
  | .RP_CPL_TMO_MS rp => (1052700 + 4096 * rp, 0)
  | .RP_MSI_PEND_PEND rp => (1052704 + 4096 * rp, 0)
  | .KA_CFG_SA_LO rp => (1052708 + 4096 * rp, 0)
  | .KA_CFG_SA_HI rp => (1052708 + 4096 * rp, 10)
  | .KA_CFG_REARM rp => (1052708 + 4096 * rp, 20)
  | .KA_LIMIT_LIMIT rp => (1052712 + 4096 * rp, 0)
  | .KA_STATUS_PATH_DEAD rp => (1052716 + 4096 * rp, 0)
  | .KA_STATUS_LATE rp => (1052716 + 4096 * rp, 8)
  | .KA_STATUS_EXP_TICK rp => (1052716 + 4096 * rp, 16)
  | .KA_LAST_LAST rp => (1052720 + 4096 * rp, 0)
  | .RP_ERR_LOG_KIND rp => (1052724 + 4096 * rp, 0)
  | .RP_ERR_LOG_VALID rp => (1052724 + 4096 * rp, 31)
  | .WIN_BASE_ADDR rp w => (1052928 + 4096 * rp + 32 * w, 12)
  | .WIN_CTRL_EN rp w => (1052936 + 4096 * rp + 32 * w, 0)
  | .WIN_CTRL_ATTR rp w => (1052936 + 4096 * rp + 32 * w, 1)
  | .WIN_CTRL_LOG2SIZE rp w => (1052936 + 4096 * rp + 32 * w, 4)
  | .WIN_CTRL_FUNC rp w => (1052936 + 4096 * rp + 32 * w, 10)
  | .WIN_CTRL_BELL_EN rp w => (1052936 + 4096 * rp + 32 * w, 16)
  | .WIN_APERTURE_OFFSET rp w => (1052940 + 4096 * rp + 32 * w, 13)
  | .WIN_BELL_BELL_OFF rp w => (1052944 + 4096 * rp + 32 * w, 2)
  | .INB_BASE_ADDR rp i => (1053184 + 4096 * rp + 32 * i, 12)
  | .INB_HOST_ADDR_ADDR rp i => (1053192 + 4096 * rp + 32 * i, 12)
  | .INB_CTRL_EN rp i => (1053200 + 4096 * rp + 32 * i, 0)
  | .INB_CTRL_KIND rp i => (1053200 + 4096 * rp + 32 * i, 1)
  | .INB_CTRL_LOG2SIZE rp i => (1053200 + 4096 * rp + 32 * i, 3)
  | .INB_CTRL_FUNC rp i => (1053200 + 4096 * rp + 32 * i, 10)
  | .RP_CNT_COUNT rp i => (1053440 + 4096 * rp + 4 * i, 0)

/-- The PF0 BAR0 offset of each field's register and the field's lowest bit, block MAC. -/
def MacF.place : MacF → Nat × Nat
  | .PORT_CTRL_EN p => (1310720 + 65536 * p, 0)
  | .PORT_CTRL_MODE p => (1310720 + 65536 * p, 1)
  | .PORT_CTRL_AN_EN p => (1310720 + 65536 * p, 4)
  | .PORT_CTRL_SPEED_FORCE p => (1310720 + 65536 * p, 5)
  | .PORT_CTRL_POISON_MODE p => (1310720 + 65536 * p, 7)
  | .PORT_CTRL_FCS_BYPASS_RX p => (1310720 + 65536 * p, 8)
  | .PORT_CTRL_FCS_BYPASS_TX p => (1310720 + 65536 * p, 9)
  | .PORT_CTRL_PROMISC p => (1310720 + 65536 * p, 10)
  | .PORT_CTRL_BCAST_EN p => (1310720 + 65536 * p, 11)
  | .PORT_CTRL_RESTART_AN p => (1310720 + 65536 * p, 12)
  | .PORT_CTRL_IRQ_LINK_EN p => (1310720 + 65536 * p, 13)
  | .PORT_STATUS_LINK_UP p => (1310724 + 65536 * p, 0)
  | .PORT_STATUS_SPEED p => (1310724 + 65536 * p, 1)
  | .PORT_STATUS_SYNC p => (1310724 + 65536 * p, 3)
  | .PORT_STATUS_AN_DONE p => (1310724 + 65536 * p, 4)
  | .PORT_STATUS_LP_PAUSE p => (1310724 + 65536 * p, 5)
  | .PORT_STATUS_LINK_CHG p => (1310724 + 65536 * p, 7)
  | .FRAME_MAX_LEN p => (1310728 + 65536 * p, 0)
  | .TAG_CTRL_STRIP p => (1310732 + 65536 * p, 0)
  | .TAG_CTRL_TPID_X_EN p => (1310732 + 65536 * p, 2)
  | .TAG_CTRL_TPID_X p => (1310732 + 65536 * p, 16)
  | .AN_ERR_DUPLEX p => (1310736 + 65536 * p, 0)
  | .AN_ERR_RESTART p => (1310736 + 65536 * p, 16)
  | .UC_ADDR_LO_ADDR_0_3 p i => (1310976 + 65536 * p + 8 * i, 0)
  | .UC_ADDR_HI_ADDR_4_5 p i => (1310980 + 65536 * p + 8 * i, 0)
  | .UC_ADDR_HI_VALID p i => (1310980 + 65536 * p + 8 * i, 31)
  | .MC_HASH_BITS p j => (1311232 + 65536 * p + 4 * j, 0)
  | .TXQ_ROLE_SCHED p q => (1311488 + 65536 * p, 2 * q + 0)
  | .TXQ_ROLE_CMD p q => (1311488 + 65536 * p, 2 * q + 1)
  | .TXQ_SHAPE_RATE p q => (1311520 + 65536 * p + 4 * q, 0)
  | .TXQ_SHAPE_BURST p q => (1311520 + 65536 * p + 4 * q, 16)
  | .FC_CTRL_TX_MODE p => (1311744 + 65536 * p, 0)
  | .FC_CTRL_XOFF_LINES p => (1311744 + 65536 * p, 8)
  | .FC_CTRL_XON_LINES p => (1311744 + 65536 * p, 16)
  | .FC_CTRL_PFC_TX_PRIO p => (1311744 + 65536 * p, 24)
  | .FC_QUANTA_QUANTA p => (1311748 + 65536 * p, 0)
  | .PFC_QMAP_Q p i => (1311752 + 65536 * p, 3 * i + 0)
  | .MDIO_CFG_DIV => (1372160, 0)
  | .MDIO_CFG_IRQ_EN => (1372160, 8)
  | .MDIO_CMD_WDATA => (1372164, 0)
  | .MDIO_CMD_REG_DEV => (1372164, 16)
  | .MDIO_CMD_PHYAD => (1372164, 21)
  | .MDIO_CMD_OP => (1372164, 26)
  | .MDIO_CMD_C45 => (1372164, 28)
  | .MDIO_STATUS_DATA => (1372168, 0)
  | .MDIO_STATUS_BUSY => (1372168, 16)
  | .MDIO_STATUS_REFUSED => (1372168, 24)
  | .CNT_COUNT p i => (1312768 + 65536 * p + 4 * i, 0)

/-- The PF0 BAR0 offset of each field's register and the field's lowest bit, block PAR. -/
def ParF.place : ParF → Nat × Nat
  | .PORT_CFG_PRIMARY p => (1572864 + 1024 * p, 0)
  | .PORT_CFG_FRAG_MODE p => (1572864 + 1024 * p, 1)
  | .PORT_CFG_ROOT p => (1572864 + 1024 * p, 8)
  | .PORT_CFG_MAX_BYTES p => (1572864 + 1024 * p, 16)
  | .PORT_CFG_MAX_HDRS p => (1572864 + 1024 * p, 25)
  | .PORT_DEFAULT_NOMATCH_CLASS p => (1572868 + 1024 * p, 0)
  | .PORT_DEFAULT_NOMATCH_DROP p => (1572868 + 1024 * p, 8)
  | .PORT_DEFAULT_FAIL_CLASS p => (1572868 + 1024 * p, 16)
  | .PORT_DEFAULT_FAIL_DROP p => (1572868 + 1024 * p, 24)
  | .FX_PROFILE_PROFILE p => (1572872 + 1024 * p, 0)
  | .LAST_FAIL_REASON p => (1572876 + 1024 * p, 0)
  | .LAST_FAIL_NODE p => (1572876 + 1024 * p, 4)
  | .LAST_FAIL_OFFSET p => (1572876 + 1024 * p, 12)
  | .LAST_FAIL_VALID p => (1572876 + 1024 * p, 31)
  | .DP_LOG_DIFF p => (1572880 + 1024 * p, 0)
  | .DP_LOG_SEC_FAIL p => (1572880 + 1024 * p, 8)
  | .DP_LOG_MASK_ZERO p => (1572880 + 1024 * p, 9)
  | .DP_LOG_VALID p => (1572880 + 1024 * p, 31)
  | .FX_WIN_OFFSET p w => (1572928 + 1024 * p + 4 * w, 0)
  | .FX_WIN_BIT p w => (1572928 + 1024 * p + 4 * w, 8)
  | .FX_WIN_WIDTH p w => (1572928 + 1024 * p + 4 * w, 16)
  | .FX_WIN_DEST p w => (1572928 + 1024 * p + 4 * w, 24)
  | .SAFE_MASK_MASK p i => (1572992 + 1024 * p + 4 * i, 0)
  | .FRAG_CFG_AGE_TICKS => (1576960, 0)
  | .FRAG_CFG_FREE_ON_LAST => (1576960, 16)
  | .FRAG_STATUS_OCCUPANCY => (1576964, 0)
  | .FRAG_EVICT_CNT_COUNT => (1576968, 0)
  | .CNT_COUNT p i => (1573120 + 1024 * p + 4 * i, 0)

/-- The PF0 BAR0 offset of each field's register and the field's lowest bit, block ENG. -/
def EngF.place : EngF → Nat × Nat
  | .PAIR_CFG_MODE p => (2097152 + 65536 * p, 0)
  | .PAIR_CFG_BE_EN p => (2097152 + 65536 * p, 1)
  | .PAIR_CFG_TXC_EN p => (2097152 + 65536 * p, 2)
  | .PAIR_STATUS_STATE_A p => (2097156 + 65536 * p, 0)
  | .PAIR_STATUS_STATE_B p => (2097156 + 65536 * p, 3)
  | .PAIR_STATUS_LS_MISMATCH p => (2097156 + 65536 * p, 6)
  | .PAIR_STATUS_EXC p => (2097156 + 65536 * p, 7)
  | .EXC_LOG_CODE p h => (2097168 + 65536 * p + 8 * h, 0)
  | .EXC_LOG_PC p h => (2097168 + 65536 * p + 8 * h, 4)
  | .EXC_LOG_SLOT p h => (2097168 + 65536 * p + 8 * h, 18)
  | .EXC_LOG_BEST_EFFORT p h => (2097168 + 65536 * p + 8 * h, 24)
  | .EXC_LOG_VALID p h => (2097168 + 65536 * p + 8 * h, 31)
  | .EXC_ADDR_ADDR p h => (2097172 + 65536 * p + 8 * h, 0)
  | .LS_LOG_PC p => (2097184 + 65536 * p, 0)
  | .LS_LOG_UNDER_D2 p => (2097184 + 65536 * p, 14)
  | .LS_LOG_VALID p => (2097184 + 65536 * p, 31)
  | .TXC_STATUS_OCCUPANCY p => (2097188 + 65536 * p, 0)
  | .BE_BIND_CLASS i => (2621440 + 4 * i, 0)
  | .BE_BIND_PAIRS i => (2621440 + 4 * i, 8)
  | .BE_BIND_PROGRAM i => (2621440 + 4 * i, 16)
  | .BE_BIND_VALID i => (2621440 + 4 * i, 31)
  | .BE_CFG_MAX_PREEMPT => (2621504, 0)
  | .UNSERVED_CNT_COUNT => (2621508, 0)
  | .CNT_COUNT p i => (2097408 + 65536 * p + 4 * i, 0)

/-- The PF0 BAR0 offset of each field's register and the field's lowest bit, block CRY. -/
def CryF.place : CryF → Nat × Nat
  | .CTRL_EN => (3145728, 0)
  | .CTRL_IRQ_EN => (3145728, 1)
  | .STATUS_SOFT => (3145732, 0)
  | .STATUS_EXPIRED => (3145732, 1)
  | .STATUS_PEER_CHG => (3145732, 2)
  | .STATUS_KEY_ERR => (3145732, 3)
  | .STATUS_CMD_DONE => (3145732, 4)
  | .EVENT_LOG_SA => (3145736, 0)
  | .EVENT_LOG_CAUSE => (3145736, 16)
  | .EVENT_LOG_VALID => (3145736, 31)
  | .SA_CMD_INDEX => (3145744, 0)
  | .SA_CMD_OP => (3145744, 16)
  | .SA_CMD_STATUS_BUSY => (3145748, 0)
  | .SA_CMD_STATUS_RESULT => (3145748, 1)
  | .SA_CMD_STATUS_BUSY_CNT => (3145748, 16)
  | .PIPE_STATUS_OCC0 => (3145752, 0)
  | .PIPE_STATUS_OCC1 => (3145752, 8)
  | .SA_STAGE_DATA i => (3145984 + 4 * i, 0)
  | .KEY_STAGE_DATA i => (3146240 + 4 * i, 0)
  | .CNT_COUNT i => (3146752 + 4 * i, 0)

/-- The PF0 BAR0 offset of each field's register and the field's lowest bit, block NVT. -/
def NvtF.place : NvtF → Nat × Nat
  | .CTRL_EN => (3407872, 0)
  | .CTRL_IRQ_EN => (3407872, 1)
  | .STATUS_CONN_CHG => (3407876, 0)
  | .STATUS_CMD_TMO => (3407876, 1)
  | .STATUS_PATH_DOWN => (3407876, 2)
  | .DISCARD_LOG_TAG => (3407888, 0)
  | .DISCARD_INFO_CAUSE => (3407896, 0)
  | .DISCARD_INFO_QP => (3407896, 4)
  | .DISCARD_INFO_VALID => (3407896, 31)
  | .CONN_CFG_V6 c => (3411968 + 64 * c, 0)
  | .CONN_CFG_IO c => (3411968 + 64 * c, 1)
  | .CONN_CFG_CTRLR c => (3411968 + 64 * c, 2)
  | .CONN_CFG_HDGST c => (3411968 + 64 * c, 5)
  | .CONN_CFG_DDGST c => (3411968 + 64 * c, 6)
  | .CONN_CFG_TX_CLASS c => (3411968 + 64 * c, 8)
  | .CONN_CFG_SNDBUF c => (3411968 + 64 * c, 16)
  | .CONN_PORTS_LOCAL_PORT c => (3411972 + 64 * c, 0)
  | .CONN_PORTS_REMOTE_PORT c => (3411972 + 64 * c, 16)
  | .CONN_TCP_MSS c => (3411976 + 64 * c, 0)
  | .CONN_TCP_MAX_RETX c => (3411976 + 64 * c, 16)
  | .CONN_TCP_RTO_MIN c => (3411976 + 64 * c, 20)
  | .CONN_ICD_ICD_MAX c => (3411980 + 64 * c, 0)
  | .CONN_ICD_OPEN_TMO c => (3411980 + 64 * c, 16)
  | .CONN_LOCAL_ADDR_ADDR c i => (3411984 + 64 * c + 4 * i, 0)
  | .CONN_REMOTE_ADDR_ADDR c i => (3412000 + 64 * c + 4 * i, 0)
  | .CONN_CMD_OP c => (3412016 + 64 * c, 0)
  | .CONN_STATE_STATE c => (3412020 + 64 * c, 0)
  | .CONN_STATE_LAST_ERR c => (3412020 + 64 * c, 4)
  | .CONN_STATE_CIDS c => (3412020 + 64 * c, 8)
  | .CONN_STATE_RTO_CUR c => (3412020 + 64 * c, 16)
  | .CONN_MAXH2C_BYTES c => (3412024 + 64 * c, 0)
  | .QP_CFG_FUNC q => (3416064 + 16 * q, 0)
  | .QP_CFG_RING q => (3416064 + 16 * q, 6)
  | .QP_CFG_CONN_A q => (3416064 + 16 * q, 14)
  | .QP_CFG_CONN_B q => (3416064 + 16 * q, 18)
  | .QP_CFG_MIRROR q => (3416064 + 16 * q, 22)
  | .QP_CFG_VALID q => (3416064 + 16 * q, 23)
  | .QP_CFG_MAX_OUT q => (3416064 + 16 * q, 24)
  | .QP_TMO_CMD_TMO q => (3416068 + 16 * q, 0)
  | .QP_STATUS_OUTSTANDING q => (3416072 + 16 * q, 0)
  | .QP_STATUS_PATH_DOWN q => (3416072 + 16 * q, 7)
  | .CNT_COUNT i => (3420160 + 4 * i, 0)

/-- The PF0 BAR0 offset of each field's register and the field's lowest bit, block TIM. -/
def TimF.place : TimF → Nat × Nat
  | .CTRL_STEP_EN => (3670016, 0)
  | .CTRL_HOLD_PPS => (3670016, 1)
  | .CTRL_TOD_STEP_EN => (3670016, 2)
  | .CTRL_IRQ_EN => (3670016, 3)
  | .STATUS_STATE => (3670020, 0)
  | .STATUS_STEPPED => (3670020, 2)
  | .STATUS_LOCK_CHG => (3670020, 3)
  | .STATUS_TOD_MISMATCH => (3670020, 4)
  | .STATUS_PPS_LOST => (3670020, 5)
  | .STATUS_TS_OVF => (3670020, 6)
  | .NOW_SEC_SEC => (3670024, 0)
  | .NOW_NS_NS => (3670032, 0)
  | .FREQ_ADJ_ADJ => (3670040, 0)
  | .STEP_NS_NS => (3670044, 0)
  | .STEP_SEC_SEC => (3670048, 0)
  | .STEP_CTRL_GO => (3670052, 0)
  | .PTP_SAMPLE_E => (3670056, 0)
  | .LOOP_KP_SHIFT => (3670060, 0)
  | .LOOP_KI_SHIFT => (3670060, 8)
  | .LOCK_LOCK_NS => (3670064, 0)
  | .LOCK_LOCK_CNT => (3670064, 16)
  | .LOCK_LOSS => (3670064, 20)
  | .STEP_THR_NS => (3670068, 0)
  | .INTEG_I => (3670072, 0)
  | .LAST_E_E => (3670076, 0)
  | .PPS_CTRL_IN_EN => (3670080, 0)
  | .PPS_CTRL_OUT_EN => (3670080, 1)
  | .PPS_CTRL_GATE_UNLOCKED => (3670080, 2)
  | .PPS_CTRL_WIDTH => (3670080, 8)
  | .PPS_OFFSET_NS => (3670084, 0)
  | .PPS_CAP_SEC_SEC => (3670088, 0)
  | .PPS_CAP_NS_NS => (3670096, 0)
  | .PPS_CAP_NS_HALF => (3670096, 30)
  | .PPS_CAP_NS_VALID => (3670096, 31)
  | .PPS_BIAS_BIAS => (3670100, 0)
  | .UART_BAUD => (3670104, 0)
  | .UART_EN => (3670104, 3)
  | .UTC_OFFSET_S => (3670108, 0)
  | .TOD_SEC => (3670112, 0)
  | .CNT_COUNT i => (3670144 + 4 * i, 0)
  | .PTP_PORT_EN p => (3674112 + 256 * p, 0)
  | .PTP_PORT_ONE_STEP p => (3674112 + 256 * p, 1)
  | .RX_EXT_DELAY p => (3674116 + 256 * p, 0)
  | .TX_EXT_DELAY p => (3674120 + 256 * p, 0)
  | .RXTS_POP_SEQ_ID p => (3674128 + 256 * p, 0)
  | .RXTS_POP_MSG_TYPE p => (3674128 + 256 * p, 16)
  | .RXTS_POP_DOMAIN p => (3674128 + 256 * p, 20)
  | .RXTS_POP_VALID p => (3674128 + 256 * p, 28)
  | .RXTS_POP_ONE_STEP p => (3674128 + 256 * p, 29)
  | .RXTS_POP_STOMPED p => (3674128 + 256 * p, 30)
  | .TXTS_POP_SEQ_ID p => (3674160 + 256 * p, 0)
  | .TXTS_POP_MSG_TYPE p => (3674160 + 256 * p, 16)
  | .TXTS_POP_DOMAIN p => (3674160 + 256 * p, 20)
  | .TXTS_POP_VALID p => (3674160 + 256 * p, 28)
  | .TXTS_POP_ONE_STEP p => (3674160 + 256 * p, 29)
  | .TXTS_POP_STOMPED p => (3674160 + 256 * p, 30)
  | .RXTS_SEC_SEC p => (3674136 + 256 * p, 0)
  | .TXTS_SEC_SEC p => (3674168 + 256 * p, 0)
  | .RXTS_NS_NS p => (3674144 + 256 * p, 0)
  | .RXTS_NS_HALF p => (3674144 + 256 * p, 30)
  | .TXTS_NS_NS p => (3674176 + 256 * p, 0)
  | .TXTS_NS_HALF p => (3674176 + 256 * p, 30)
  | .PORT_CNT_RX_OVF p => (3674192 + 256 * p, 0)
  | .PORT_CNT_TX_OVF p => (3674192 + 256 * p, 16)

/-- The PF0 BAR0 offset of each field's register and the field's lowest bit, block CAL. -/
def CalF.place : CalF → Nat × Nat
  | .CTRL_IRQ_EN => (3801088, 0)
  | .EVT_OVERDUE => (3801092, 0)
  | .EVT_OVERDUE2 => (3801092, 1)
  | .EVT_EYE_LOW => (3801092, 2)
  | .EVT_REJECT => (3801092, 3)
  | .EVT_VERIFY_FAIL => (3801092, 4)
  | .CFG_SPREAD_MAX => (3801096, 0)
  | .CFG_EYE_MIN_W => (3801096, 8)
  | .AGE_MAX_AGE e => (3801104 + 4 * e, 0)
  | .AGE_STATUS_OVERDUE => (3801216, 0)
  | .AGE_STATUS_OVERDUE2 => (3801216, 16)
  | .LOG_ENTRY => (3801220, 0)
  | .LOG_CAUSE => (3801220, 5)
  | .LOG_VALID => (3801220, 31)
  | .CNT_COUNT i => (3801232 + 4 * i, 0)

/-- The PF0 BAR0 offset of each field's register and the field's lowest bit, block SAF. -/
def SafF.place : SafF → Nat × Nat
  | .CMD_OP => (3932160, 0)
  | .CMD_SEQ => (3932160, 16)
  | .STATE_STATE => (3932164, 0)
  | .STATE_STATUS => (3932164, 4)
  | .STATE_CAUSE => (3932164, 8)
  | .STATE_SEQ => (3932164, 16)
  | .RESULT_LAST => (3932168, 0)
  | .RESULT_REFUSED => (3932168, 8)
  | .FAULT_FAULTS => (3932172, 1)
  | .TRIP_LOG_CODE => (3932176, 0)
  | .TRIP_LOG_DETAIL => (3932176, 8)
  | .TRIP_LOG_VALID => (3932176, 31)
  | .TRIP_TICK_TICK => (3932180, 0)
  | .WARN_WARN => (3932184, 0)
  | .EVT_TRIP => (3932188, 0)
  | .EVT_REARM => (3932188, 1)
  | .EVT_WARN => (3932188, 2)
  | .EVT_CMD_DONE => (3932188, 3)
  | .CTRL_RX_CHECK => (3932192, 0)
  | .CTRL_TX_CHECK => (3932192, 1)
  | .CTRL_SAFE_IN_POL => (3932192, 2)
  | .CTRL_IRQ_EN => (3932192, 8)
  | .HA_CFG_MAX_US => (3932196, 0)
  | .HA_CFG_MIN_US => (3932196, 20)
  | .HA_STATUS_EXPIRED => (3932200, 0)
  | .HA_STATUS_EDGES => (3932200, 16)
  | .MON_STATUS_CLK_FAIL => (3932204, 0)
  | .MON_STATUS_OSC_FAIL => (3932204, 7)
  | .MON_STATUS_SCRUB_AGE => (3932204, 8)
  | .MON_STATUS_PASSES => (3932204, 16)
  | .PIN_STATUS_OUT_A => (3932208, 0)
  | .PIN_STATUS_OUT_B => (3932208, 1)
  | .PIN_STATUS_SAFE_IN => (3932208, 2)
  | .PIN_STATUS_HOST_ALIVE => (3932208, 3)
  | .PIN_STATUS_READBACK_ERR => (3932208, 4)
  | .CNT_RECOVERIES => (3932212, 0)
  | .CNT_PAIRS_CLEARED => (3932212, 16)
  | .BC_CFG_EN c => (3932416 + 32 * c, 0)
  | .BC_CFG_DIR c => (3932416 + 32 * c, 1)
  | .BC_CFG_PORT c => (3932416 + 32 * c, 2)
  | .BC_CFG_SEQ_GAP c => (3932416 + 32 * c, 8)
  | .BC_CFG_WINDOW c => (3932416 + 32 * c, 16)
  | .BC_CONN_ID_ID c => (3932420 + 32 * c, 0)
  | .BC_OFFSET_OFFSET c => (3932424 + 32 * c, 0)
  | .BC_STATUS_STATE c => (3932428 + 32 * c, 0)
  | .BC_STATUS_SEQ_VALID c => (3932428 + 32 * c, 1)
  | .BC_LAST_SEQ_SEQ c => (3932432 + 32 * c, 0)
  | .BC_LAST_TICK_TICK c => (3932436 + 32 * c, 0)
  | .BC_CNT_CRC_ERR c => (3932440 + 32 * c, 0)
  | .BC_CNT_SEQ_ERR c => (3932440 + 32 * c, 8)
  | .BC_CNT_LEN_ERR c => (3932440 + 32 * c, 16)
  | .BC_CNT_LATE c => (3932440 + 32 * c, 24)

/-- The PF0 BAR0 offset of each field's register and the field's lowest bit, block PWR. -/
def PwrF.place : PwrF → Nat × Nat
  | .CTRL_MAX_STATE => (4063232, 0)
  | .CTRL_A2_PAIR => (4063232, 2)
  | .CTRL_A2_PORT => (4063232, 5)
  | .CTRL_IRQ_EN => (4063232, 7)
  | .CTRL_MON_TEST_DIS => (4063232, 8)
  | .GUARD_NS => (4063236, 0)
  | .STATUS_STATE => (4063240, 0)
  | .STATUS_TARGET => (4063240, 2)
  | .STATUS_ENTERING => (4063240, 4)
  | .STATUS_FLOOR => (4063240, 5)
  | .NEED_TOL_US => (4063244, 0)
  | .NEED_GAP_US => (4063244, 16)
  | .EVT_STATE_CHG => (4063248, 0)
  | .EVT_A3_ABORT => (4063248, 1)
  | .EVT_SUP_WARN => (4063248, 2)
  | .EVT_DIP_CLOSED => (4063248, 3)
  | .EVT_UV_LONG => (4063248, 4)
  | .SUP_STATUS_SUP_WARN => (4063252, 0)
  | .SUP_STATUS_EPISODE_OPEN => (4063252, 1)
  | .SUP_STATUS_QUALIFYING => (4063252, 2)
  | .SUP_STATUS_INHIBIT => (4063252, 3)
  | .SUP_STATUS_SCRUB_PENDING => (4063252, 4)
  | .SUP_STATUS_VERIFY_PENDING => (4063252, 5)
  | .SUP_STATUS_VOLT => (4063252, 8)
  | .SUP_STATUS_BELOW_US => (4063252, 16)
  | .CNT_COUNT i => (4063264 + 4 * i, 0)
  | .DIP_LOG_MIN => (4063488, 0)
  | .DIP_LOG_DUR => (4063488, 8)
  | .DIP_LOG_BELOW => (4063488, 20)
  | .DIP_LOG_FLASH_ABANDONED => (4063488, 30)
  | .DIP_LOG_UV_LONG => (4063488, 31)
  | .DIP_LOG_REACHED_RESET => (4063488, 32)
  | .DIP_LOG_TICK => (4063488, 33)
  | .DIP_LOG_VALID => (4063488, 63)
  | .DIP_CNT_COUNT => (4063496, 0)
  | .WAKE_EN_SIGDET => (4063504, 0)
  | .WAKE_EN_GPIO => (4063504, 4)
  | .WAKE_STATUS_SRC => (4063508, 0)
  | .WAKE_STATUS_HOST => (4063508, 12)
  | .WAKE_STATUS_TIMER => (4063508, 13)
  | .WAKE_TIMER_COUNT => (4063512, 0)

/-- The PF0 BAR0 offset of each field's register and the field's lowest bit, block SEC. -/
def SecF.place : SecF → Nat × Nat
  | .LC_STATUS_STATE => (4194304, 0)
  | .LC_STATUS_BUSY => (4194304, 2)
  | .LC_CMD_OP => (4194308, 0)
  | .LC_RESULT_LAST => (4194312, 0)
  | .LC_RESULT_REFUSED => (4194312, 8)
  | .UID_UID i => (4194320 + 4 * i, 0)
  | .KEY_STATUS_PROG => (4194336, 0)
  | .KEY_STATUS_REVOKED => (4194336, 4)
  | .KEY_STATUS_SEED => (4194336, 6)
  | .KEY_STATUS_KEK_AVAIL => (4194336, 7)
  | .OTP_CMD_OP => (4194340, 0)
  | .OTP_CMD_TARGET => (4194340, 4)
  | .OTP_STATUS_BUSY => (4194344, 0)
  | .OTP_STATUS_RESULT => (4194344, 1)
  | .OTP_STAGE_DATA i => (4194560 + 4 * i, 0)
  | .ARB_STATUS_VALUE => (4194816, 0)
  | .ARB_STATUS_BUSY => (4194816, 7)
  | .ARB_STATUS_RESULT => (4194816, 8)
  | .ARB_CMD_VALUE => (4194820, 0)
  | .ARB_CMD_GO => (4194820, 8)
  | .DBG_STATUS_LEVEL => (4195072, 0)
  | .DBG_STATUS_LOCKED => (4195072, 2)
  | .DBG_STATUS_VERIFYING => (4195072, 3)
  | .DBG_STATUS_RESULT => (4195072, 4)
  | .DBG_STATUS_FAILS => (4195072, 8)
  | .DBG_CTRL_D1_OPEN => (4195076, 0)
  | .DBG_CTRL_CLOSE => (4195076, 1)
  | .DBG_CTRL_SUBMIT => (4195076, 2)
  | .DBG_CTRL_IRQ_EN => (4195076, 3)
  | .DBG_CHAL_CHAL i => (4195088 + 4 * i, 0)
  | .DBG_TOKEN_DATA i => (4195328 + 4 * i, 0)
  | .EVT_LC_CHG => (4195584, 0)
  | .EVT_DBG_CHG => (4195584, 1)
  | .EVT_TOKEN_DONE => (4195584, 2)
  | .EVT_OTP_DONE => (4195584, 3)
  | .EVT_ARB_DONE => (4195584, 4)
  | .CNT_TOKEN_FAIL => (4195588, 0)
  | .CNT_CLOSE_IGNORED => (4195588, 16)

/-- The PF0 BAR0 offset of each field's register and the field's lowest bit, block PMC. -/
def PmcF.place : PmcF → Nat × Nat
  | .CTRL_FREEZE => (4456448, 0)
  | .CTRL_SNAP => (4456448, 1)
  | .CTRL_IRQ_EN => (4456448, 2)
  | .CTRL_HOLD => (4456448, 3)
  | .SNAP_SEQ_SEQ => (4456456, 0)
  | .SNAP_INFO_SRC => (4456460, 0)
  | .SNAP_INFO_SKIP => (4456460, 16)
  | .SNAP_TICK_TICK => (4456464, 0)
  | .OVF_OVF j => (4456512 + 4 * j, 0)
  | .SEL_EVENT n => (4458496 + 4 * n, 0)
  | .SEL_INST n => (4458496 + 4 * n, 8)
  | .SEL_OVF_IRQ n => (4458496 + 4 * n, 30)
  | .SEL_EN n => (4458496 + 4 * n, 31)
  | .CNT_COUNT n => (4460544 + 8 * n, 0)
  | .SNAP_BANK_COUNT b n => (4464640 + 4096 * b + 8 * n, 0)
  | .SMP_CFG_EN p => (4472832 + 32 * p, 0)
  | .SMP_CFG_HALF p => (4472832 + 32 * p, 1)
  | .SMP_CFG_CLASS_MASK p => (4472832 + 32 * p, 8)
  | .SMP_CFG_JITTER p => (4472832 + 32 * p, 16)
  | .SMP_PERIOD_PERIOD p => (4472836 + 32 * p, 0)
  | .SMP_PTR_RD p => (4472840 + 32 * p, 0)
  | .SMP_PTR_WR p => (4472840 + 32 * p, 16)
  | .SMP_STATUS_LOST p => (4472844 + 32 * p, 0)
  | .SMP_STATUS_WM_HIT p => (4472844 + 32 * p, 16)
  | .SMP_STATUS_RD_REFUSED p => (4472844 + 32 * p, 24)
  | .SMP_WM_WM p => (4472848 + 32 * p, 0)

/-- The PF0 BAR0 offset of each field's register and the field's lowest bit, block SBD. -/
def SbdF.place : SbdF → Nat × Nat
  | .CTRL_IRQ_EN => (4718592, 0)
  | .RST_CTRL_OP => (4718596, 0)
  | .RST_CTRL_KEY => (4718596, 8)
  | .RST_RESULT_LAST => (4718600, 0)
  | .RST_RESULT_REFUSED => (4718600, 8)
  | .RST_CAUSE_LAST => (4718604, 0)
  | .RST_CAUSE_WDT_SAFETY => (4718604, 3)
  | .RST_CAUSE_WARM_CNT => (4718604, 8)
  | .RST_CAUSE_WDT_CNT => (4718604, 16)
  | .RST_CAUSE_SAFETY_CNT => (4718604, 24)
  | .WDT_CFG_EN => (4718608, 0)
  | .WDT_CFG_PERIOD => (4718608, 16)
  | .WDT_FEED_VALUE => (4718612, 0)
  | .WDT_STATUS_COUNTING => (4718616, 0)
  | .WDT_STATUS_BAD_FEED => (4718616, 16)
  | .BOOT_STATUS_RESULT => (4718624, 0)
  | .BOOT_STATUS_HDR => (4718624, 3)
  | .BOOT_STATUS_SLOT => (4718624, 4)
  | .BOOT_STATUS_CODE_FIRST => (4718624, 8)
  | .BOOT_STATUS_CODE_SECOND => (4718624, 16)
  | .BOOT_TIME_US => (4718628, 0)
  | .SFDP_INFO_LOG2_BYTES => (4718632, 0)
  | .SFDP_INFO_QUAD => (4718632, 5)
  | .SFDP_INFO_ADDR4 => (4718632, 6)
  | .SFDP_INFO_FALLBACK => (4718632, 7)
  | .FL_CMD_OP => (4718640, 0)
  | .FL_ADDR_ADDR => (4718644, 0)
  | .FL_STATUS_BUSY => (4718648, 0)
  | .FL_STATUS_RESULT => (4718648, 1)
  | .FL_LOG_PAGE => (4718652, 0)
  | .FL_LOG_INCOMPLETE => (4718652, 31)
  | .FL_BUF_DATA i => (4718848 + 4 * i, 0)
  | .SMB_STATUS_ADDR => (4719104, 0)
  | .SMB_STATUS_SMB_ARB_FAIL => (4719104, 7)
  | .SMB_STATUS_EID => (4719104, 8)
  | .SMB_CFG_FAST => (4719108, 0)
  | .SMB_CNT_ARB_LOST => (4719112, 0)
  | .SMB_CNT_ARB_FAIL => (4719112, 8)
  | .SMB_CNT_TIMEOUT => (4719112, 16)
  | .SMB_CNT_RX_BAD => (4719112, 24)
  | .GPIO_DIR_DIR => (4719360, 0)
  | .GPIO_OUT_OUT => (4719364, 0)
  | .GPIO_IN_IN => (4719368, 0)
  | .GPIO_EDGE_RISE => (4719372, 0)
  | .GPIO_EDGE_FALL => (4719372, 8)
  | .GPIO_EVT_EVT => (4719376, 0)

/-- The widths of the configuration fields; a BAR is the 64-bit register pair. -/
def CsF.width : CsF → Nat
  | .PM_STATE | .LC_ASPM => 2
  | .DC_MPS | .DC_MRRS => 3
  | .BAR0_ATTR | .BAR2_ATTR | .BAR4_ATTR | .LC2_TLS | .SRIOV_VFBAR0_ATTR | .SRIOV_VFBAR2_ATTR => 4
  | .L1SS_EN => 4
  | .AER_FEP => 5
  | .REVISION | .HDR_TYPE | .CAP_PTR | .INT_LINE | .INT_PIN | .ARI_NEXT => 8
  | .L1SS_CTL2 => 8
  | .MSIX_SIZE => 11
  | .LTR_MAX_SNOOP | .LTR_MAX_NOSNOOP => 13
  | .VENDOR_ID | .DEVICE_ID | .SUBSYS_VID | .SUBSYS_ID | .PM_HDR | .PMC => 16
  | .MSIX_HDR | .SRIOV_INITVFS | .SRIOV_TOTALVFS | .SRIOV_NUMVFS | .SRIOV_OFFSET | .SRIOV_STRIDE => 16
  | .SRIOV_VFDEV | .DVSEC_ID => 16
  | .CLASS | .L1SS_CTL1 => 24
  | .PCIE_HDR | .DEVCAP | .LINKCAP | .DEVCAP2 | .LINKCAP2 | .MSIX_TABLE => 32
  | .MSIX_PBA | .AER_HDR | .AER_UE_STS | .AER_UE_MASK | .AER_UE_SEV | .AER_CE_STS => 32
  | .AER_CE_MASK | .AER_HDRLOG0 | .AER_HDRLOG1 | .AER_HDRLOG2 | .AER_HDRLOG3 | .ARI_HDR => 32
  | .ACS_HDR | .SRIOV_HDR | .SRIOV_PAGES | .SRIOV_SYSPAGE | .SPCIE_HDR | .DLF_HDR => 32
  | .PL16_HDR | .LMR_HDR | .LTR_HDR | .L1SS_HDR | .L1SS_CAP | .DVSEC_HDR => 32
  | .DVSEC_HDR1 => 32
  | .BAR0 | .BAR2 | .BAR4 | .SRIOV_VFBAR0 | .SRIOV_VFBAR2 => 64
  | _ => 1

/-- The reset values of the configuration fields of PF0 that are not 0 (R356, R358). -/
def CsF.resetPF0 : CsF → Nat
  | .VENDOR_ID => 8011
  | .DEVICE_ID => 31600
  | .STS_CAPLIST => 1
  | .REVISION => 16
  | .CLASS => 131072
  | .HDR_TYPE => 128
  | .BAR0_ATTR => 4
  | .BAR2_ATTR => 4
  | .BAR4_ATTR => 4
  | .SUBSYS_VID => 8011
  | .CAP_PTR => 64
  | .INT_LINE => 255
  | .INT_PIN => 1
  | .PM_HDR => 20481
  | .PMC => 18435
  | .PM_NOSOFTRST => 1
  | .PCIE_HDR => 167952
  | .DEVCAP => 268470818
  | .DC_RO => 1
  | .DC_EXTTAG => 1
  | .DC_NS => 1
  | .DC_MRRS => 2
  | .LINKCAP => 4524100
  | .DEVCAP2 => 198656
  | .LINKCAP2 => 30
  | .LC2_TLS => 4
  | .MSIX_HDR => 17
  | .MSIX_SIZE => 63
  | .MSIX_TABLE => 4
  | .MSIX_PBA => 32772
  | .AER_HDR => 335675393
  | .AER_UE_SEV => 4595760
  | .AER_CE_MASK => 8192
  | .ARI_HDR => 352387086
  | .ARI_NEXT => 1
  | .ACS_HDR => 369164301
  | .SRIOV_HDR => 436273168
  | .SRIOV_INITVFS => 48
  | .SRIOV_TOTALVFS => 48
  | .SRIOV_OFFSET => 256
  | .SRIOV_STRIDE => 1
  | .SRIOV_VFDEV => 31615
  | .SRIOV_PAGES => 1
  | .SRIOV_SYSPAGE => 1
  | .SRIOV_VFBAR0_ATTR => 4
  | .SRIOV_VFBAR2_ATTR => 4
  | .SPCIE_HDR => 469827609
  | .DLF_HDR => 486604837
  | .PL16_HDR => 536936486
  | .LMR_HDR => 570490919
  | .LTR_HDR => 587268120
  | .L1SS_HDR => 805371934
  | .L1SS_CAP => 2624031
  | .DVSEC_HDR => 65571
  | .DVSEC_HDR1 => 50405195
  | .DVSEC_ID => 1
  | _ => 0

/-- The reset values of the configuration fields of PF1 that are not 0 (R356, R358). -/
def CsF.resetPF1 : CsF → Nat
  | .VENDOR_ID => 8011
  | .DEVICE_ID => 31601
  | .STS_CAPLIST => 1
  | .REVISION => 16
  | .CLASS => 557056
  | .HDR_TYPE => 128
  | .BAR0_ATTR => 4
  | .BAR2_ATTR => 4
  | .SUBSYS_VID => 8011
  | .CAP_PTR => 64
  | .INT_LINE => 255
  | .INT_PIN => 2
  | .PM_HDR => 20481
  | .PMC => 18435
  | .PM_NOSOFTRST => 1
  | .PCIE_HDR => 131088
  | .DEVCAP => 268470818
  | .DC_RO => 1
  | .DC_EXTTAG => 1
  | .DC_NS => 1
  | .DC_MRRS => 2
  | .LINKCAP => 4524100
  | .DEVCAP2 => 198656
  | .LINKCAP2 => 30
  | .AER_HDR => 335675393
  | .AER_UE_SEV => 4595760
  | .AER_CE_MASK => 8192
  | .ARI_HDR => 352387086
  | .ACS_HDR => 65549
  | _ => 0

/-- The reset values of the configuration fields of Vf that are not 0 (R356, R358). -/
def CsF.resetVf : CsF → Nat
  | .VENDOR_ID => 65535
  | .DEVICE_ID => 65535
  | .STS_CAPLIST => 1
  | .REVISION => 16
  | .CLASS => 131072
  | .SUBSYS_VID => 8011
  | .CAP_PTR => 80
  | .PCIE_HDR => 167952
  | .DEVCAP => 268470818
  | .DC_RO => 1
  | .DC_EXTTAG => 1
  | .DC_NS => 1
  | .DC_MRRS => 2
  | .LINKCAP => 4524100
  | .DEVCAP2 => 198656
  | .LINKCAP2 => 30
  | .MSIX_HDR => 17
  | .MSIX_SIZE => 3
  | .MSIX_TABLE => 12288
  | .MSIX_PBA => 14336
  | .ARI_HDR => 65550
  | _ => 0

/-- The reset value of a configuration field of function `f`: 0 is PF0, 1 is PF1, 2 + n is VF n
(R353); ARI chains VF n to VF n + 1 (R358). -/
def CsF.reset (x : CsF) (f : Nat) : Nat :=
  match f with
  | 0 => x.resetPF0
  | 1 => x.resetPF1
  | _ => if x = .ARI_NEXT then (if f = 49 then 0 else f + 1) else x.resetVf

/-- The configuration offset of a field's register and the field's lowest bit. -/
def CsF.place : CsF → Nat × Nat
  | .VENDOR_ID => (0, 0)
  | .DEVICE_ID => (0, 16)
  | .CMD_MSE => (4, 1)
  | .CMD_BME => (4, 2)
  | .CMD_PER => (4, 6)
  | .CMD_SERR => (4, 8)
  | .CMD_INTDIS => (4, 10)
  | .STS_INT => (4, 19)
  | .STS_CAPLIST => (4, 20)
  | .STS_MDPE => (4, 24)
  | .STS_STA => (4, 27)
  | .STS_RTA => (4, 28)
  | .STS_RMA => (4, 29)
  | .STS_SSE => (4, 30)
  | .STS_DPE => (4, 31)
  | .REVISION => (8, 0)
  | .CLASS => (8, 8)
  | .HDR_TYPE => (12, 16)
  | .BAR0_ATTR => (16, 0)
  | .BAR0 => (16, 0)
  | .BAR2_ATTR => (24, 0)
  | .BAR2 => (24, 0)
  | .BAR4_ATTR => (32, 0)
  | .BAR4 => (32, 0)
  | .SUBSYS_VID => (44, 0)
  | .SUBSYS_ID => (44, 16)
  | .CAP_PTR => (52, 0)
  | .INT_LINE => (60, 0)
  | .INT_PIN => (60, 8)
  | .PM_HDR => (64, 0)
  | .PMC => (64, 16)
  | .PM_STATE => (68, 0)
  | .PM_NOSOFTRST => (68, 3)
  | .PM_PME_EN => (68, 8)
  | .PM_PME_STATUS => (68, 15)
  | .PCIE_HDR => (80, 0)
  | .DEVCAP => (84, 0)
  | .DC_CERE => (88, 0)
  | .DC_NFERE => (88, 1)
  | .DC_FERE => (88, 2)
  | .DC_URRE => (88, 3)
  | .DC_RO => (88, 4)
  | .DC_MPS => (88, 5)
  | .DC_EXTTAG => (88, 8)
  | .DC_NS => (88, 11)
  | .DC_MRRS => (88, 12)
  | .DC_FLR => (88, 15)
  | .DS_CED => (88, 16)
  | .DS_NFED => (88, 17)
  | .DS_FED => (88, 18)
  | .DS_URD => (88, 19)
  | .DS_TP => (88, 21)
  | .LINKCAP => (92, 0)
  | .LC_ASPM => (96, 0)
  | .LC_CCC => (96, 6)
  | .LC_CLKPM => (96, 8)
  | .LC_HAWD => (96, 9)
  | .DEVCAP2 => (116, 0)
  | .DC2_LTR => (120, 10)
  | .DC2_TAG10 => (120, 12)
  | .LINKCAP2 => (124, 0)
  | .LC2_TLS => (128, 0)
  | .MSIX_HDR => (144, 0)
  | .MSIX_SIZE => (144, 16)
  | .MSIX_FMASK => (144, 30)
  | .MSIX_EN => (144, 31)
  | .MSIX_TABLE => (148, 0)
  | .MSIX_PBA => (152, 0)
  | .AER_HDR => (256, 0)
  | .AER_UE_STS => (260, 0)
  | .AER_UE_MASK => (264, 0)
  | .AER_UE_SEV => (268, 0)
  | .AER_CE_STS => (272, 0)
  | .AER_CE_MASK => (276, 0)
  | .AER_FEP => (280, 0)
  | .AER_HDRLOG0 => (284, 0)
  | .AER_HDRLOG1 => (288, 0)
  | .AER_HDRLOG2 => (292, 0)
  | .AER_HDRLOG3 => (296, 0)
  | .ARI_HDR => (320, 0)
  | .ARI_NEXT => (324, 8)
  | .ACS_HDR => (336, 0)
  | .SRIOV_HDR => (352, 0)
  | .SRIOV_VFE => (360, 0)
  | .SRIOV_VFMSE => (360, 3)
  | .SRIOV_ARI => (360, 4)
  | .SRIOV_INITVFS => (364, 0)
  | .SRIOV_TOTALVFS => (364, 16)
  | .SRIOV_NUMVFS => (368, 0)
  | .SRIOV_OFFSET => (372, 0)
  | .SRIOV_STRIDE => (372, 16)
  | .SRIOV_VFDEV => (376, 16)
  | .SRIOV_PAGES => (380, 0)
  | .SRIOV_SYSPAGE => (384, 0)
  | .SRIOV_VFBAR0_ATTR => (388, 0)
  | .SRIOV_VFBAR0 => (388, 0)
  | .SRIOV_VFBAR2_ATTR => (396, 0)
  | .SRIOV_VFBAR2 => (396, 0)
  | .SPCIE_HDR => (416, 0)
  | .DLF_HDR => (448, 0)
  | .PL16_HDR => (464, 0)
  | .LMR_HDR => (512, 0)
  | .LTR_HDR => (544, 0)
  | .LTR_MAX_SNOOP => (548, 0)
  | .LTR_MAX_NOSNOOP => (548, 16)
  | .L1SS_HDR => (560, 0)
  | .L1SS_CAP => (564, 0)
  | .L1SS_EN => (568, 0)
  | .L1SS_CTL1 => (568, 8)
  | .L1SS_CTL2 => (572, 0)
  | .DVSEC_HDR => (768, 0)
  | .DVSEC_HDR1 => (772, 0)
  | .DVSEC_ID => (776, 0)

/-- The log2 of the size of a BAR of PF0; 0 where the function has none (R359). -/
def CsF.barLogPF0 : CsF → Nat
  | .BAR0 => 23
  | .BAR2 => 18
  | .BAR4 => 16
  | .SRIOV_VFBAR0 => 14
  | .SRIOV_VFBAR2 => 12
  | _ => 0

/-- The log2 of the size of a BAR of PF1; 0 where the function has none (R359). -/
def CsF.barLogPF1 : CsF → Nat
  | .BAR0 => 16
  | .BAR2 => 12
  | _ => 0

/-- The log2 of the size of a BAR of Vf; 0 where the function has none (R359). -/
def CsF.barLogVf : CsF → Nat
  | _ => 0

/-- `width` of any field. -/
def Fld.width : Fld → Nat
  | .sys f => f.width
  | .tck f => f.width
  | .cfg f => f.width
  | .hep f => f.width
  | .rng f => f.width
  | .dma f => f.width
  | .brg f => f.width
  | .mac f => f.width
  | .par f => f.width
  | .eng f => f.width
  | .cry f => f.width
  | .nvt f => f.width
  | .tim f => f.width
  | .cal f => f.width
  | .saf f => f.width
  | .pwr f => f.width
  | .sec f => f.width
  | .pmc f => f.width
  | .sbd f => f.width
  | .cs _ x => x.width
  | .msix _ _ _ => 32
  | .pba _ => 64

/-- `reset` of any field. -/
def Fld.reset : Fld → Nat
  | .sys f => f.reset
  | .tck f => f.reset
  | .cfg f => f.reset
  | .hep f => f.reset
  | .rng f => f.reset
  | .dma f => f.reset
  | .brg f => f.reset
  | .mac f => f.reset
  | .par f => f.reset
  | .eng f => f.reset
  | .cry f => f.reset
  | .nvt f => f.reset
  | .tim f => f.reset
  | .cal f => f.reset
  | .saf f => f.reset
  | .pwr f => f.reset
  | .sec f => f.reset
  | .pmc f => f.reset
  | .sbd f => f.reset
  | .cs f x => x.reset f
  | .msix _ _ w => if w = 3 then 1 else 0
  | .pba _ => 0

/-- `place` of any field. -/
def Fld.place : Fld → Nat × Nat
  | .sys f => f.place
  | .tck f => f.place
  | .cfg f => f.place
  | .hep f => f.place
  | .rng f => f.place
  | .dma f => f.place
  | .brg f => f.place
  | .mac f => f.place
  | .par f => f.place
  | .eng f => f.place
  | .cry f => f.place
  | .nvt f => f.place
  | .tim f => f.place
  | .cal f => f.place
  | .saf f => f.place
  | .pwr f => f.place
  | .sec f => f.place
  | .pmc f => f.place
  | .sbd f => f.place
  | .cs f x => (16777216 + 4096 * f + x.place.1, x.place.2)
  | .msix f v w => (33554432 + 4096 * f + 16 * v + 4 * w, 0)
  | .pba f => (33554432 + 4096 * f + 2048, 0)

end Sys2Proof.Machine
end

