-- ==== Sys2Proof/Machine/Device.lean ====
section
/-! DEFINITION.  The state of the device, block by block, as plain data.

Register fields live in `regs`; the structures below hold what the chapters describe
beside the registers: memories, queues, occurrences, transfers and pins. -/

namespace Sys2Proof.Machine

/-- What an upset or a poisoned write left on a memory line: the stored poison code, and which
of its eight 64-bit words hold one, two, or three and more flipped bits (R26 to R29). -/
structure Mark where
  code : Nat := 0
  ce : Nat := 0
  ue : Nat := 0
  multi : Nat := 0
  deriving DecidableEq, Repr

/-- A line that reads clean. -/
def Mark.clean : Mark := ⟨0, 0, 0, 0⟩

/-- The metadata a frame carries to the engines (R169, R204). -/
structure Meta where
  result : Nat := 0
  keyMeta : Nat := 0
  retry : Bool := false
  fromCrypto : Bool := false
  hdrs : List (Nat × Nat) := []
  tsSec : Nat := 0
  tsNs : Nat := 0
  tsHalf : Bool := false
  tags : List Nat := []
  port : Nat := 0
  batch : Nat := 0
  deriving DecidableEq, Repr

/-- A frame held in on-chip memory: its lines in order, the index of its byte 0 in them (128 bytes
of headroom in the frame buffer, R202), its length and its metadata.  `uid` is the model's name for
it; `staged` says that it still lies in MAC staging; `ring` is the submission entry it came from (R298). -/
structure Frame where
  uid : Nat
  lines : List Nat
  start : Nat
  len : Nat
  staged : Bool := false
  info : Meta := {}
  preempts : Nat := 0
  ring : Option (Nat × Nat) := none
  crypto : Option Nat := none
  deriving DecidableEq, Repr

/-- A frame waiting in a class queue (R195). -/
structure QFrame where
  cls : Nat
  frame : Frame
  carried : Bool := false
  deriving DecidableEq, Repr

/-! ### Tick -/

/-- Where a slot occurrence of the current tick stands (R63 to R67). -/
inductive OccState where
  | idle | ready | running | ended
  deriving DecidableEq, Repr

/-- A slot occurrence: its readiness, dispatch and end cycles and its flags. -/
structure Occ where
  state : OccState := .idle
  readyAt : Nat := 0
  dispAt : Nat := 0
  endAt : Nat := 0
  cancelLate : Bool := false
  deriving DecidableEq, Repr

/-- A boundary in flight to another domain: the tick it opens, and whether it is the stopping
boundary (R49, R55). -/
structure Pulse where
  tick : Nat
  stopping : Bool := false
  deriving DecidableEq, Repr

/-- The boundary generator, the dispatcher and their crossings: whether a start or a stop is
pending, whether the next boundary is boundary 0, the nominal instant of the last boundary (or of
boundary 0 while it is pending), when and at which timebase value the last boundary was issued (R49,
R51, R57); the boundary pulses, heartbeats and cancel requests in flight; the tick as CORE sees it; the last boundary that reached FAB. -/
structure Tick where
  startPend : Bool := false
  stopReq : Bool := false
  first : Bool := true
  nominal : Nat := 0
  lastReal : Nat := 0
  lastTb : Nat := 0
  toCore : List Pulse := []
  toFab : List Pulse := []
  toEth : List Pulse := []
  toSafe : List Pulse := []
  coreRun : Bool := false
  coreTick : Nat := 0
  fabTick : Nat := 0
  cyc : Nat := 0
  p2 : Bool := false
  p3 : Bool := false
  p4 : Bool := false
  occ : List Occ := List.replicate 64 {}
  fifo : List Nat := []
  cancels : List Nat := []
  deriving DecidableEq, Repr

/-! ### Configuration -/

/-- A valid overlay's place in the overlay store, its lines and its section's length and digest
(R612, R113). -/
structure Ovl where
  idx : Nat
  line : Nat
  lines : Nat
  len : Nat
  digest : List Byte
  deriving DecidableEq, Repr

/-- The images of an overlay switch in preparation: what becomes active in cycle 0 (R106). -/
structure Shadow where
  regs : List (Fld × Nat) := []
  lines : List (Nat × List Byte) := []
  sigRef : Nat := 0
  deriving DecidableEq, Repr

/-- An entry of an image's section table (R83). -/
structure Section where
  type : Nat
  idx : Nat
  off : Nat
  len : Nat
  deriving DecidableEq, Repr

/-- A load in progress (R92 to R94): whether the boot runs it, from slot B, as the second attempt; its
length; and what pass 1 found: the image type, its digest and section table, SEAL_AT_LOAD,
SEC_VERSION, the overlay places chosen and the register fields its records write. -/
structure Load where
  boot : Bool := false
  slotB : Bool := false
  second : Bool := false
  len : Nat := 0
  pass2 : Bool := false
  full : Bool := true
  digest : List Byte := []
  table : List Section := []
  sealAt : Bool := false
  secVer : Nat := 0
  place : List Ovl := []
  flds : List Fld := []
  deriving DecidableEq, Repr

/-- The configuration block beside its registers: the load in progress; a seal that waits for it; the
re-evaluation after a seal; the retained digest; the valid overlays; the locked set's line ranges; the
program entries of each pair (entry map and code length); the base (R88): its RWL fields, table lines
and Ephemeris; the Ephemeris bank in force; the shadows and deferrals of a pending switch; the
boundaries its confirmation has waited. -/
structure Cfg where
  load : Option Load := none
  sealPend : Bool := false
  reeval : Bool := false
  digest : List Byte := []
  ovls : List Ovl := []
  locked : List (Nat × Nat) := []
  entries : List (List Byte × Nat) := []
  baseRegs : List (Fld × Nat) := []
  baseLines : List Host.Cell := []
  baseEph : List Byte := List.replicate 1088 0
  bank : Nat := 0
  shadow : Shadow := {}
  deferred : Nat := 0
  confTicks : Nat := 0
  deriving DecidableEq, Repr

/-! ### Field ports -/

/-- An entry of a transmit queue (R139, R155). -/
structure TxEnt where
  handle : Nat
  frame : Frame
  tags : List Nat := []
  pair : Option Nat := none
  rel : Bool := false
  late : Bool := false
  deriving DecidableEq, Repr

/-- The frame in transmission (R145). -/
structure TxCur where
  ent : TxEnt
  queue : Nat
  bytes : List Byte
  stomp : Bool := false
  poisonLate : Bool := false
  deriving DecidableEq, Repr

/-- A registered lookup result (R180, R183): the outcome, as its PAR_CNT index; result, KEY_META and header stack; what
the dual-parse comparison found; reason, node and header start of a parse failure; for a fragment under FOLLOW, its key in
the fragment table's layout, whether it is the first, the last, and the entry it hit. -/
structure LookRes where
  outcome : Nat
  result : Nat
  keyMeta : Nat
  hdrs : List (Nat × Nat) := []
  dpDiff : Nat := 0
  secFail : Bool := false
  maskZero : Bool := false
  failReason : Nat := 0
  failNode : Nat := 0
  failOff : Nat := 0
  frag : Option (List Byte) := none
  fragFirst : Bool := false
  fragLast : Bool := false
  fragHit : Option Nat := none
  deriving DecidableEq, Repr

/-- A received frame in a parser lane: its bytes as received and its FCS verdict. -/
structure LaneFrame where
  uid : Nat
  bytes : List Byte
  good : Bool
  tsSec : Nat := 0
  tsNs : Nat := 0
  tsHalf : Bool := false
  res : Option LookRes := none
  deriving DecidableEq, Repr

/-- A PTP timestamp record (R441). -/
structure TsRec where
  word : Nat
  sec : Nat
  ns : Nat
  half : Bool
  deriving DecidableEq, Repr

/-- One field port beside its registers. -/
structure Port where
  anTimer : Bool := false
  lane : List LaneFrame := []
  staged : List Frame := []
  txq : List (List TxEnt) := List.replicate 8 []
  cur : Option TxCur := none
  credit : List Int := List.replicate 8 0
  hold : List (Option Nat) := List.replicate 8 none
  window : Bool := false
  relq : List (Nat × TxEnt) := []
  relBytes : Nat := 0
  relDue : Bool := false
  relDone : Bool := true
  pausePend : Option Nat := none
  xoff : Bool := false
  pauseAt : Nat := 0
  cancels : List Nat := []
  rxTs : List TsRec := []
  txTs : List TsRec := []
  deriving DecidableEq, Repr

/-- An operation of the MDIO master (R128). -/
structure MdioOp where
  c45 : Bool
  op : Nat
  phyad : Nat
  regDev : Nat
  wdata : Nat
  deriving DecidableEq, Repr

/-! ### Engines -/

/-- A cluster store waiting in a store buffer (R208). -/
structure SbEnt where
  addr : Nat
  bytes : List Byte
  poison : Bool
  deriving DecidableEq, Repr

/-- The frame under work: the window's start in the frame's index space, its length, and the
edits not yet committed (R202, R203). -/
structure OpenF where
  frame : Frame
  head : Nat
  len : Nat
  edits : List (Nat × Byte) := []
  bad : List Nat := []
  deriving DecidableEq, Repr

/-- A WAITT in progress, with its word and the cycle and instant of its issue (R236, R579). -/
structure Waitt where
  rd : Nat
  target : Nat
  tick : Nat
  word : Nat
  cyc : Nat
  issued : Nat
  deriving DecidableEq, Repr

/-- One engine: half h of pair p is engine 2p + h; a lockstep pair is engine 2p (R185).  `raised`: its last instruction raised an
exception (R578). -/
structure Engine where
  w : List (BitVec 64 × Bool) := []
  pc : Nat := 0
  sb : List SbEnt := []
  fr : Option OpenF := none
  copies : List Frame := []
  wait : Option Waitt := none
  slot : Nat := 0
  cls : Nat := 0
  be : Option Nat := none
  lastBe : Nat := 15
  startAt : Nat := 0
  raised : Bool := false
  haltReq : Bool := false
  halted : Bool := false
  deriving DecidableEq, Repr

/-! ### The device -/

/-- What leaves the device: bus requests and completions, wire frames, messages and pin levels, in
the order they leave. -/
inductive Outbound where
  | readData (value : Nat) (bytes : Nat) (status : Nat) (ep : Bool)
  | memRead (f addr len tag : Nat)
  | memWrite (f addr : Nat) (bytes : List Byte) (ep : Bool)
  | msix (f addr data : Nat)
  | intx (assert : Bool) (wire : Nat)
  | ltr (snoop nosnoop : Nat)
  | pme (f : Nat)
  | pmeAck
  | rpPerst (rp : Nat) (level : Bool)
  | rpRefclk (rp : Nat) (on : Bool)
  | errMsg (kind f : Nat)
  | wire (port : Nat) (bytes : List Byte) (stomped : Bool)
  | mdio (word : Nat)
  | modemRead (rp addr len tag : Nat)
  | modemWrite (rp addr : Nat) (bytes : List Byte) (ep : Bool)
  | modemCfg (rp : Nat) (write : Bool) (fn reg be data : Nat)
  | modemCpl (rp tag status : Nat) (bytes : List Byte) (ep : Bool)
  | safeOut (a b : Bool)
  | pps (level : Bool)
  | smbus (bytes : List Byte)
  | tap (value : Nat) (bits : Nat)
  | pin (name : Nat) (level : Nat)
  | flash (op addr : Nat) (bytes : List Byte)
  deriving DecidableEq, Repr

/-- A signal in flight to the SAFE domain: a fault (code, detail) or a warning bit (R475, R476, R609). -/
structure Report where
  warn : Bool
  code : Nat
  detail : Nat
  deriving DecidableEq, Repr

/-! ### Crypto unit -/

/-- A frame accepted by a crypto pipeline (R240): the index it names, its direction and return class;
the transformed frame once its transform has ended. -/
structure CryJob where
  frame : Frame
  sa : Nat
  inbound : Bool
  ret : Nat
  used : Nat := 0
  clean : Bool := false
  esp : Bool := false
  deriving DecidableEq, Repr

/-- A crypto pipeline: its input queue, the head of which is in process when no transformed frame
waits to return, and that transformed frame (R242 to R244). -/
structure CryPipe where
  queue : List CryJob := []
  done : Option CryJob := none
  deriving DecidableEq, Repr

/-- The crypto unit beside its registers and the SA table: the pipelines, the key store by slot
(32 bytes; zeros where not listed), the slots holding an uncorrectable error, and the SA command in
progress with its index (R240 to R254). -/
structure Cry where
  pipes : List CryPipe := [{}, {}]
  keys : List (Nat × List Byte) := []
  keyBad : List Nat := []
  cmd : Option (Nat × Nat) := none
  deriving DecidableEq, Repr


/-! ### Host link, rings and DMA -/

/-- For whom a memory read is made (R315): submission entries of ring `n` from index `idx`; payload of
the TX entry `ser` from byte `off`; the descriptor of a linked-list channel; data of channel `x` (0 to 95
linked-list, 96 + t tick channel t) from byte `off`; the flush of channel `x`; the SQE, the data and the
flush of a storage command `ser`; a read forwarded for the modem of root port `rp`. -/
inductive Client where
  | fetch (n idx : Nat)
  | pay (n ser off : Nat)
  | desc (c : Nat)
  | chan (x off : Nat)
  | flush (x : Nat)
  | sqe (ser : Nat)
  | sdata (ser leg off : Nat)
  | sflush (ser : Nat)
  | modem (rp tag off : Nat)
  deriving DecidableEq, Repr

/-- Where a tag in use stands (R393): outstanding, timed out, written off, or quarantined after a
malformed completion. -/
inductive TagState where
  | out | timed | writtenOff | malformed
  deriving DecidableEq, Repr

/-- A tag in use on the host link: its function and client, the request's address and length, the bytes
that have arrived, its Vat lines (R322), and the instant its completion timer expires (R390). -/
structure Tag where
  tag : Nat
  f : Nat
  client : Client
  addr : Nat
  len : Nat
  got : Nat := 0
  lines : List Nat := []
  st : TagState := .out
  expiry : Nat := 0
  deriving DecidableEq, Repr

/-- A linked-list descriptor or a tick register set (R333). -/
structure Desc where
  src : Nat
  dst : Nat
  word4 : Nat
  word5 : Nat
  next : Nat := 0
  deriving DecidableEq, Repr

/-- Bytes of a transfer that wait in the Vat to be written in their turn (R318, R325): offset in the transfer, length, lines, and the
place of the first byte in them. -/
structure Waiting where
  off : Nat
  len : Nat
  lines : List Nat
  head : Nat
  deriving DecidableEq, Repr

/-- A burst in flight: its range in the transfer and the bytes not yet moved (R316, R318). -/
structure Burst where
  off : Nat
  len : Nat
  left : Nat
  deriving DecidableEq, Repr

/-- A transfer of a channel: bytes whose bursts are issued, bytes moved, bytes waiting in the Vat, bursts in flight, whether a line was
poisoned, its BAD status with the failing address, whether its flush is issued and has ended. -/
structure Xfer where
  desc : Desc
  issued : Nat := 0
  moved : Nat := 0
  waiting : List Waiting := []
  bursts : List Burst := []
  poisoned : Bool := false
  bad : Option (Nat × Nat) := none
  flushAsked : Bool := false
  flushed : Bool := false
  deriving DecidableEq, Repr

/-- A linked-list channel beside its registers: whether its descriptor is being read, its transfer. -/
structure Ll where
  reading : Bool := false
  x : Option Xfer := none
  deriving DecidableEq, Repr

/-- A tick channel beside its registers: its active transfer, and whether a transfer ended BAD in the
running occurrence (R344). -/
structure Tch where
  x : Option Xfer := none
  failed : Bool := false
  deriving DecidableEq, Repr

/-- The DMA engines: the owner of each Vat line in use, the channels, the last linked-list client served. -/
structure Dma where
  vat : List (Nat × Nat) := []
  ll : List Ll := List.replicate 96 {}
  tch : List Tch := List.replicate 32 {}
  lastLl : Nat := 97
  deriving DecidableEq, Repr

/-- What a completion entry reports beside the ring, index and cookie (R286): byte 3, bytes 4 to 7 when
not the cookie, bytes 8 and 9, byte 10 and FLAGS. -/
structure CplEnd where
  status : Nat
  flags : Nat := 0
  bytes : Nat := 0
  legB : Nat := 0
  dw0 : Option Nat := none
  deriving DecidableEq, Repr

/-- A fetched submission entry that has not completed (R285 to R302): the model's serial number, index,
cookie, address, length and ARG or DIR; for TX, payload bytes requested and arrived, its frame while the
payload arrives, and whether it was enqueued; its end once known. -/
structure SqEnt where
  ser : Nat
  idx : Nat
  cookie : Nat
  addr : Nat
  len : Nat
  arg : Nat := 0
  dataAddr : Nat := 0
  asked : Nat := 0
  got : Nat := 0
  frame : Option Frame := none
  live : Bool := false
  bad : Bool := false
  fin : Option CplEnd := none
  deriving DecidableEq, Repr

/-- A received frame held in the Vat (R301): its lines and length. -/
structure RxHeld where
  lines : List Nat
  len : Nat
  deriving DecidableEq, Repr

/-- A submission ring beside its registers: fetched entries, the end of the fetch in progress, held
frames, whether its mirror lags behind HEAD. -/
structure Sq where
  ents : List SqEnt := []
  fetchTo : Nat := 0
  held : List RxHeld := []
  lag : Bool := false
  deriving DecidableEq, Repr

/-- A completion that is due: its completion ring, its entry, the ring it reports, the tick channel that must
write it. -/
structure Due where
  cq : Nat
  bytes : List Byte
  sq : Nat
  tch : Option Nat
  deriving DecidableEq, Repr

/-- The host link beside its registers: tags in use; the level last signalled on INTA; whether a
PME_Turn_Off was answered or a Hot Reset received since the link came up; whether L0 was reached; the LTR
value last sent and when; whether the port is in L1; whether PCIE_PERST_N is asserted; the functions
whose PM_PME waits (R519). -/
structure Hep where
  tags : List Tag := []
  sentA : Bool := false
  turnOff : Bool := false
  hotReset : Bool := false
  ltrSent : Option (Nat × Nat) := none
  ltrAt : Option Nat := none
  l1 : Bool := false
  perst : Bool := true
  pmeDue : List Nat := []
  deriving DecidableEq, Repr

/-! ### Modem bridge -/

/-- For whom a downstream request is made: a host read of an aperture, a configuration read or write, DMA data or flush of channel
`x`, or lines prefetched beyond a read. -/
inductive RpClient where
  | aperture
  | cfgRead
  | cfgWrite
  | chan (x off : Nat)
  | flush (x : Nat)
  | prefetch
  deriving DecidableEq, Repr

/-- A downstream tag in use (R419, R422): the client, the window and offset fetched, the length fetched, the offset and length wanted of
it, the bytes that have arrived with their poison, the Vat lines taken, when its timer expires, whether it is quarantined. -/
structure RpTag where
  tag : Nat
  client : RpClient
  win : Nat
  off : Nat
  len : Nat
  wantOff : Nat
  wantLen : Nat
  got : List (Byte × Bool) := []
  lines : List Nat := []
  expiry : Nat := 0
  quarantined : Bool := false
  deriving DecidableEq, Repr

/-- A frame in a bridge queue (R411, R414): its modem bus address, the function charged, the doorbell's address. -/
structure BrgEnt where
  frame : Frame
  addr : Nat
  f : Nat
  bell : Option Nat
  deriving DecidableEq, Repr

/-- A line of a prefetch buffer (R421), least recently used first in its list. -/
structure PfLine where
  win : Nat
  off : Nat
  bytes : List Byte
  poison : Bool
  filledAt : Nat
  deriving DecidableEq, Repr

/-- A modem-mastered request that waits for the host (R425). -/
structure Inb where
  f : Nat
  write : Bool
  addr : Nat
  tag : Nat
  len : Nat
  bytes : List (Byte × Bool)
  lines : List Nat := []
  deriving DecidableEq, Repr

/-- An aperture or configuration access that waits: in HEP while the host port is contained (R433), or for a free tag (R419).  Root port,
window, aperture byte (function, register and byte enables of a configuration access), the bytes of a write, the length. -/
structure ApWait where
  rp : Nat
  cfg : Bool := false
  win : Nat
  off : Nat
  be : Nat := 0
  write : Bool
  bytes : List Byte
  len : Nat
  deriving DecidableEq, Repr

/-- A root port beside its registers: tags in use, the bridge queue, the prefetch buffer (least recently used first), modem requests that
wait for the host, whether PERST_N waits to be deasserted and its level, when REFCLK_EN last became 1, whether the modem holds CLKREQ_N
low, whether the data link layer is up, whether FAB sees the port in state UP, whether a containment is on its way to FAB, and LAST of
the keepalive. -/
structure Rp where
  tags : List RpTag := []
  queue : List BrgEnt := []
  pf : List PfLine := []
  inb : List Inb := []
  perstPend : Bool := false
  perstN : Bool := false
  refclkAt : Nat := 0
  clkreqLow : Bool := false
  dlUp : Bool := false
  fabUp : Bool := false
  ctnPend : Bool := false
  kaLast : Nat := 0
  deriving DecidableEq, Repr



/-! ### Storage offload -/

/-- A PDU on its way to a connection's send buffer: the command and leg it serves (serial 0 for none), its header and whether a
header digest follows, the range of the command's buffer it carries, whether a data digest follows, the bytes requested and
arrived, the Vat lines that hold them, the bytes already in the send buffer, whether it is the command's capsule and must wait for
all its data, whether a byte of it cannot be vouched for (R271 to R273). -/
structure NvtPdu where
  ser : Nat
  leg : Nat := 0
  ttag : Nat := 0
  hdr : List Byte
  hd : Bool := false
  off : Nat := 0
  dd : Bool := false
  asked : Nat := 0
  data : List (Option Byte) := []
  lines : List Nat := []
  done : Nat := 0
  capsule : Bool := false
  whole : Bool := false
  spoiled : Bool := false
  deriving DecidableEq, Repr

/-- A leg of a storage command: its connection and command identifier, its status once ended, the status that poison, a read error
or a digest failure gives it, the NVMe status and DW0 received (R271 to R277). -/
structure NvtLeg where
  conn : Nat
  cid : Nat
  status : Option Nat := none
  bad : Option Nat := none
  nvme : Nat := 0
  dw0 : Nat := 0
  deriving DecidableEq, Repr

/-- A storage command: the serial number and ring of its entry, queue pair, function, direction (0 none, 1 host to controller,
2 controller to host), buffer, SQE address, whether the SQE is requested and arrived, its legs, the instant its timers expire,
whether host memory was written and the flush issued and ended (R271 to R276). -/
structure NvtCmd where
  ser : Nat
  ring : Nat
  qp : Nat
  f : Nat
  dir : Nat
  addr : Nat
  len : Nat
  sqeAddr : Nat
  sqeAsked : Bool := false
  formed : Bool := false
  legs : List NvtLeg := []
  mirror : Bool := false
  expiry : Nat := 0
  wrote : Bool := false
  flushAsked : Bool := false
  flushed : Bool := false
  deriving DecidableEq, Repr

/-- A C2HData PDU being received: its command identifier, the offset of the next byte, the bytes left, its data so far for the
digest, LAST and SUCCESS. -/
structure NvtC2h where
  cid : Nat
  off : Nat
  left : Nat
  seen : List Byte := []
  success : Bool
  deriving DecidableEq, Repr

/-- A TCP connection of the offload (R266 to R268): initial sequence number; offsets in the stream sent of the oldest byte not
acknowledged, the next to send, the end of the data in the send buffer; the buffer's lines; the next number expected, the bytes
received that no PDU has taken; the peer's window, scale and segment size; congestion window, threshold, duplicate
acknowledgements; round-trip estimates in ms, timeout, the timed offset and its instant, retransmissions of the oldest segment;
deadlines; the stages of opening and closing; PDUs waiting for the send buffer, the C2HData PDU in reception. -/
structure NvtConn where
  iss : Nat := 0
  una : Nat := 0
  nxt : Nat := 0
  bufEnd : Nat := 0
  lines : List Nat := []
  rcv : Nat := 0
  rx : List Byte := []
  wnd : Nat := 0
  scale : Nat := 0
  mss : Nat := 0
  cwnd : Nat := 0
  ssthresh : Nat := 0
  dup : Nat := 0
  srtt : Option Nat := none
  rttvar : Nat := 0
  rto : Nat := 0
  timed : Option (Nat × Nat) := none
  retx : Nat := 0
  rtoAt : Option Nat := none
  openAt : Option Nat := none
  synAcked : Bool := false
  finSent : Bool := false
  finAcked : Bool := false
  peerFin : Bool := false
  out : List NvtPdu := []
  c2h : Option NvtC2h := none
  deriving DecidableEq, Repr

/-- A segment handed over by STOR: the frame, its queue pair and rs2 (R270). -/
structure NvtRx where
  frame : Frame
  qp : Nat
  tag : Nat
  deriving DecidableEq, Repr

/-- The storage offload beside its registers: connections, commands, segments received, quarantined command identifiers
by connection (R264 to R280). -/
structure Nvt where
  conns : List NvtConn := List.replicate 16 {}
  cmds : List NvtCmd := []
  rx : List NvtRx := []
  quar : List (Nat × Nat) := []
  deriving DecidableEq, Repr


/-! ### Calibration -/

/-- The calibration unit beside its registers: the step in work (its slot), the eye-scan points held per port, the
values latched in the hardware the Almanac entries govern (R454, R460), and the entries that were overdue
twice over when last aged (R459). -/
structure Cal where
  step : Option Nat := none
  points : List Nat := List.replicate 4 0
  latched : List (List Byte) := List.replicate 14 (List.replicate 16 0)
  deriving DecidableEq, Repr


/-! ### Security -/

/-- One public-key slot of the one-time-programmable memory: whether it is programmed and revoked,
and the bits written so far (R524, R526). -/
structure KeySlot where
  prog : Bool := false
  revoked : Bool := false
  bits : List Byte := List.replicate 96 0
  deriving DecidableEq, Repr

/-- The one-time-programmable memory: lifecycle (0 BLANK, 1 PROVISIONED, 2 FIELD, 3 RMA), UID, key
slots, KEK seed, anti-rollback count, the safety fuse and the factory defaults of the Almanac (R521 to R531, R452). -/
structure Otp where
  lc : Nat := 0
  uid : List Byte := List.replicate 16 0
  slots : List KeySlot := [{ prog := true }, {}, {}, {}]
  seedProg : Bool := false
  seed : List Byte := List.replicate 32 0
  arb : Nat := 0
  safetyFuse : Bool := false
  almanac : List (List Byte) := List.replicate 14 (List.replicate 16 0)
  deriving DecidableEq, Repr

/-- An OTP program or revocation in progress: its target and the value to program (R524, R526). -/
inductive OtpOp where
  | program (target : Nat) (value : List Byte)
  | revoke (target : Nat)
  deriving DecidableEq, Repr

/-- The TAP instructions of R533. -/
inductive TapIr where
  | idcode | bypass | dbgChal | dbgToken | dbgWake | dbgBridge
  | samplePreload | extest | clamp | highz
  deriving DecidableEq, Repr

/-- The security block beside its registers: the lifecycle transition, OTP operation and
anti-rollback advance in progress, the token under verification and the challenge it answers, the
TAP's selected instruction and its boundary register. -/
structure Sec where
  lcTo : Option Nat := none
  otpOp : Option OtpOp := none
  arbTo : Option Nat := none
  token : Option (List Byte) := none
  tokenChal : List Byte := []
  tapIr : TapIr := .idcode
  boundary : Nat := 0
  deriving DecidableEq, Repr


/-! ### Boot -/

/-- The reset kinds that run the boot sequence, the widest first; a watchdog reset has warm or safety scope (R543, R548). -/
inductive ResetKind where
  | powerOn | powerOnClass | warm
  | watchdog (safety : Bool)
  | safety
  deriving DecidableEq, Repr

/-- What the boot keeps of the selected header (R553 to R557): offset and length of slots A and B,
AUTO_RUN and PREFER_B; and the instant T0 of reset release (R552); the stage: 0 held in reset, 1 before the end of the header
stage, 2 after it (R555); the kind of the last reset (R550). -/
structure Boot where
  slots : List (Nat × Nat) := [(0, 0), (0, 0)]
  autoRun : Bool := false
  preferB : Bool := false
  t0 : Nat := 0
  stage : Nat := 0
  kind : ResetKind := .powerOn
  deriving DecidableEq, Repr



/-! ### Supply, power, safety, time, sideband and counters -/

/-- An open dip episode (R496 to R502): its lowest ADC sample (10 mV), the instant it opened, the warning time accumulated in ns, since
when the comparator has been asserted, the start of the qualifying run, whether it is qualified, and whether UV_LONG was reported. -/
structure Dip where
  low : Nat
  openAt : Nat
  below : Nat := 0
  belowFrom : Option Nat := none
  runFrom : Option Nat := none
  qualified : Bool := false
  uvLong : Bool := false
  deriving DecidableEq, Repr

/-- Supply supervision and power states beside their registers: the open episode, whether a flash program was abandoned since the last
record (R497), when the exit in progress ends and the state it leads to (R505), when A3 was committed (R514). -/
structure Pwr where
  dip : Option Dip := none
  flashCut : Bool := false
  leaving : Option (Nat × Nat) := none
  committed : Option Nat := none
  deriving DecidableEq, Repr

/-- The safety monitor beside its registers: the instant of the last heartbeat, the period N then in force, whether the count since
then has reached its limit (R478); the instant of the last HOST_ALIVE edge or restart, and of the last edge (R481); the next line of the
scrub pass, whether a new pass is to begin, whether boundaries are being counted for a pass (R480, R500); whether the output cell has
timed out (R473). -/
structure Saf where
  hbAt : Nat := 0
  hbN : Nat := 8
  hbDone : Bool := false
  haAt : Nat := 0
  haEdge : Option Nat := none
  scrubAt : Nat := 0
  scrubNew : Bool := true
  scrubRun : Bool := false
  outDead : Bool := false
  deriving DecidableEq, Repr

/-- Time beside its registers: the step that no anchor has published yet (R438), the sum of the steps made, the last valid PPS_IN edge in
half nanoseconds of unstepped time, its instant and its nearest second (R443, R445), consecutive samples within LOCK_NS, the instant of the
last sample (R449), the difference of the last accepted sentence (R446), and when PPS_OUT falls (R444). -/
structure Tim where
  skew : Int := 0
  steps : Int := 0
  edge : Option Int := none
  edgeAt : Nat := 0
  edgeSec : Nat := 0
  run : Nat := 0
  sampleAt : Nat := 0
  todDiff : Int := 0
  steer : Bool := false
  ppsFall : Option Nat := none
  deriving DecidableEq, Repr

/-- The sideband beside its registers: the flash operation in progress with its address (R560); the watchdog's count in ns up to the
instant it last began to count, and that instant (R548); the requests received and not yet served (R561); the packets of the response
being sent with the losses met, and whether it waits to be retried (R563); the backoff LFSR (R564); the PLDM terminus ID (R561). -/
structure Sbd where
  flash : Option (Nat × Nat) := none
  wdtAcc : Nat := 0
  wdtFrom : Option Nat := none
  rx : List (List Byte) := []
  packets : List (List Byte) := []
  losses : Nat := 0
  retry : Bool := false
  lfsr : Nat := 0
  tid : Nat := 0
  deriving DecidableEq, Repr

/-- A sampled instruction whose record is not yet formed (R576, R579). -/
structure Sample where
  bytes : List Byte
  deriving DecidableEq, Repr

/-- The countdown of one half (R576): its value, the sampled instructions, SEQ, and whether samples were lost since the last record. -/
structure SmpHalf where
  count : Nat := 0
  hits : List Sample := []
  seq : Nat := 0
  lost : Bool := false
  deriving DecidableEq, Repr

/-- The sampling unit of a pair: its halves, its LFSR, the formed records, the buffer, the 64-byte lines of the buffer that read poisoned
(R576 to R583). -/
structure Smp where
  halves : List SmpHalf := [{}, {}]
  lfsr : Nat := 0
  formed : List (Nat × List Byte) := []
  buf : List (List Byte) := List.replicate 128 (List.replicate 32 0)
  bad : List Nat := []
  deriving DecidableEq, Repr

/-- The performance counters beside their registers: counters that have wrapped and not yet set their bit (R569), the FAB cycle of the last snapshot (R574), the
sampling units. -/
structure Pmc where
  wrapped : List Nat := []
  snapAt : Option Nat := none
  smp : List Smp := List.replicate 8 {}
  deriving DecidableEq, Repr


/-- The device, all of it but the queue of waiting commands and the one-time-programmable memory. -/
structure Dev where
  regs : List (Fld × Nat) := []
  mem : List Host.Cell := []
  marks : List (Nat × Mark) := []
  writeBacks : List Nat := []
  used : List Nat := []
  nextUid : Nat := 1
  freeCount : Nat := 0
  out : List Outbound := []
  now : Nat := 0
  tb : Nat := 0
  tbFrac : Int := 0
  ethPhase : Nat := 0
  toSafe : List Report := []
  irqs : List (Nat × Nat) := []
  tick : Tick := {}
  cfg : Cfg := {}
  ports : List Port := List.replicate 4 {}
  fence : Bool := false
  mdio : Option MdioOp := none
  classq : List QFrame := []
  engines : List Engine := List.replicate 16 {}
  txc : List (List Nat) := List.replicate 8 []
  cry : Cry := {}
  sec : Sec := {}
  boot : Boot := {}
  hep : Hep := {}
  dma : Dma := {}
  sqs : List Sq := List.replicate 256 {}
  cqSince : List Nat := List.replicate 256 0
  due : List Due := []
  rps : List Rp := List.replicate 2 {}
  cal : Cal := {}
  nvt : Nvt := {}
  safeCore : Bool := false
  apWait : List ApWait := []
  pwr : Pwr := {}
  saf : Saf := {}
  tim : Tim := {}
  sbd : Sbd := {}
  pmc : Pmc := {}
  deriving DecidableEq, Repr

end Sys2Proof.Machine
end

