-- ==== Sys2Proof/Machine/RegMap.lean ====
section
/-! DEFINITION.  The register map: which fields a PF0 BAR0 offset holds, with their
access codes and the encodings that are not reserved (R11 to R17, R584). -/

namespace Sys2Proof.Machine

/-- The access codes of R11. -/
inductive Access where
  | ro | rw | w1c | w1s | wo | rwl
  deriving DecidableEq, Repr

/-- One field as its register table gives it: its place, its access code, the range of its
encodings that are not reserved (R16), and whether a write of it is a command with a row of its own. -/
structure FieldAt where
  fld : Fld
  lo : Nat
  acc : Access
  legal : Option (Nat × Nat) := none
  own : Bool := false
  deriving DecidableEq, Repr

/-- One register: its width in bytes and its fields; reserved bits are not listed. -/
structure RegAt where
  wide : Bool
  fields : List FieldAt
  deriving DecidableEq, Repr

/-- The registers of block SYS, by offset from the block's base (R584). -/
def regSysAt (o : Nat) : Option RegAt :=
  if o = 0 then
    some ⟨false, [⟨.sys (.ID_VENDOR), 0, .ro, none, false⟩,
      ⟨.sys (.ID_DEVICE), 16, .ro, none, false⟩]⟩
  else if o = 4 then
    some ⟨false, [⟨.sys (.REVISION_STEPPING), 0, .ro, none, false⟩,
      ⟨.sys (.REVISION_MAJOR), 8, .ro, none, false⟩]⟩
  else if o = 8 then
    some ⟨false, [⟨.sys (.CONFIG_SAFETY_FUSE), 0, .ro, none, false⟩,
      ⟨.sys (.CONFIG_PORTS), 4, .ro, none, false⟩,
      ⟨.sys (.CONFIG_PAIRS), 8, .ro, none, false⟩,
      ⟨.sys (.CONFIG_ROOT_PORTS), 12, .ro, none, false⟩]⟩
  else if 32 ≤ o ∧ (o - 32) / 4 < 7 ∧ ((o - 32) % 4) = 0 then
    some ⟨false, [⟨.sys (.MEM_CE_CNT_COUNT ((o - 32) / 4)), 0, .rw, none, false⟩]⟩
  else if 64 ≤ o ∧ (o - 64) / 4 < 7 ∧ ((o - 64) % 4) = 0 then
    some ⟨false, [⟨.sys (.MEM_UE_CNT_COUNT ((o - 64) / 4)), 0, .rw, none, false⟩]⟩
  else if o = 96 then
    some ⟨false, [⟨.sys (.MEM_UE_LOG_LINE), 0, .ro, none, false⟩,
      ⟨.sys (.MEM_UE_LOG_REGION), 20, .ro, none, false⟩,
      ⟨.sys (.MEM_UE_LOG_VALID), 31, .w1c, none, false⟩]⟩
  else if o = 112 then
    some ⟨false, [⟨.sys (.ACCESS_ERR_HOLE_CNT), 0, .rw, none, false⟩,
      ⟨.sys (.ACCESS_ERR_REFUSED_CNT), 16, .rw, none, false⟩]⟩
  else none

/-- The registers of block TCK, by offset from the block's base (R584). -/
def regTckAt (o : Nat) : Option RegAt :=
  if o = 0 then
    some ⟨false, [⟨.tck (.CTRL_RUN), 0, .rw, none, true⟩,
      ⟨.tck (.CTRL_SRC), 1, .rwl, some (0, 2), false⟩,
      ⟨.tck (.CTRL_REC_ALL), 3, .rw, none, false⟩,
      ⟨.tck (.CTRL_IRQ_OVR_EN), 4, .rw, none, false⟩,
      ⟨.tck (.CTRL_IRQ_CUT_EN), 5, .rw, none, false⟩]⟩
  else if o = 4 then
    some ⟨false, [⟨.tck (.PERIOD_N), 0, .rwl, some (1, 64), false⟩]⟩
  else if o = 8 then
    some ⟨false, [⟨.tck (.MARGIN_PCT), 0, .ro, none, false⟩]⟩
  else if o = 12 then
    some ⟨false, [⟨.tck (.STATUS_RUNNING), 0, .ro, none, false⟩,
      ⟨.tck (.STATUS_OVR), 1, .w1c, none, false⟩,
      ⟨.tck (.STATUS_OVR2), 2, .w1c, none, false⟩,
      ⟨.tck (.STATUS_SLOT_CUT), 3, .w1c, none, false⟩,
      ⟨.tck (.STATUS_PROOF_FAIL), 4, .w1c, none, false⟩,
      ⟨.tck (.STATUS_SLEW), 5, .ro, none, false⟩,
      ⟨.tck (.STATUS_SRC_STATE), 6, .ro, none, false⟩,
      ⟨.tck (.STATUS_LAST_OVR), 8, .ro, none, false⟩,
      ⟨.tck (.STATUS_DEFER), 9, .w1c, none, false⟩]⟩
  else if o = 16 then
    some ⟨true, [⟨.tck (.COUNT_TICK), 0, .ro, none, false⟩]⟩
  else if o = 32 then
    some ⟨false, [⟨.tck (.OVR_CNT_COUNT), 0, .rw, none, false⟩]⟩
  else if o = 36 then
    some ⟨false, [⟨.tck (.CUT_CNT_COUNT), 0, .rw, none, false⟩]⟩
  else if o = 40 then
    some ⟨false, [⟨.tck (.CARRY_CNT_COUNT), 0, .rw, none, false⟩]⟩
  else if o = 44 then
    some ⟨false, [⟨.tck (.NOTICK_DROP_COUNT), 0, .rw, none, false⟩]⟩
  else if o = 48 then
    some ⟨false, [⟨.tck (.REC_OVF_COUNT), 0, .rw, none, false⟩]⟩
  else if o = 52 then
    some ⟨false, [⟨.tck (.OVR_LOG_TICK), 0, .ro, none, false⟩,
      ⟨.tck (.OVR_LOG_PHASE), 24, .ro, none, false⟩,
      ⟨.tck (.OVR_LOG_VALID), 31, .w1c, none, false⟩]⟩
  else if o = 56 then
    some ⟨false, [⟨.tck (.PROOF_ERR_CODE), 0, .ro, none, false⟩,
      ⟨.tck (.PROOF_ERR_SLOT), 8, .ro, none, false⟩,
      ⟨.tck (.PROOF_ERR_PORT), 16, .ro, none, false⟩]⟩
  else if o = 64 then
    some ⟨false, [⟨.tck (.CANCEL_SLOT), 0, .wo, none, false⟩]⟩
  else if o = 68 then
    some ⟨false, [⟨.tck (.CANCEL_CNT_STALE), 0, .rw, none, false⟩,
      ⟨.tck (.CANCEL_CNT_REFUSED), 12, .rw, none, false⟩,
      ⟨.tck (.CANCEL_CNT_REFUSED_RUN), 24, .rw, none, false⟩]⟩
  else if 80 ≤ o ∧ (o - 80) / 4 < 4 ∧ ((o - 80) % 4) = 0 then
    some ⟨false, [⟨.tck (.REL_MISS_COUNT ((o - 80) / 4)), 0, .rw, none, false⟩]⟩
  else if o = 96 then
    some ⟨true, []⟩
  else if 1024 ≤ o ∧ (o - 1024) / 8 < 64 ∧ ((o - 1024) % 8) = 0 then
    some ⟨true, [⟨.tck (.SLOT_REC_TICK ((o - 1024) / 8)), 0, .ro, none, false⟩,
      ⟨.tck (.SLOT_REC_SLOT ((o - 1024) / 8)), 32, .ro, none, false⟩,
      ⟨.tck (.SLOT_REC_STATUS ((o - 1024) / 8)), 38, .ro, none, false⟩,
      ⟨.tck (.SLOT_REC_CANCEL_LATE ((o - 1024) / 8)), 41, .ro, none, false⟩,
      ⟨.tck (.SLOT_REC_LATE_START ((o - 1024) / 8)), 42, .ro, none, false⟩,
      ⟨.tck (.SLOT_REC_USED ((o - 1024) / 8)), 43, .ro, none, false⟩]⟩
  else none

/-- The registers of block CFG, by offset from the block's base (R584). -/
def regCfgAt (o : Nat) : Option RegAt :=
  if o = 0 then
    some ⟨false, [⟨.cfg (.CTRL_SEAL), 0, .w1s, none, true⟩,
      ⟨.cfg (.CTRL_LOAD), 1, .w1s, none, true⟩,
      ⟨.cfg (.CTRL_IRQ_SWITCH_EN), 2, .rw, none, false⟩,
      ⟨.cfg (.CTRL_IRQ_LOAD_EN), 3, .rw, none, false⟩]⟩
  else if o = 4 then
    some ⟨false, [⟨.cfg (.STATUS_SEALED), 0, .ro, none, false⟩,
      ⟨.cfg (.STATUS_LOAD_BUSY), 1, .ro, none, false⟩,
      ⟨.cfg (.STATUS_LOAD_FAIL), 2, .w1c, none, false⟩,
      ⟨.cfg (.STATUS_CONFIG), 3, .ro, none, false⟩,
      ⟨.cfg (.STATUS_LOAD_PASS), 5, .ro, none, false⟩,
      ⟨.cfg (.STATUS_LOAD_DONE), 6, .w1c, none, false⟩,
      ⟨.cfg (.STATUS_SWITCHED), 7, .w1c, none, false⟩]⟩
  else if o = 8 then
    some ⟨true, [⟨.cfg (.LOAD_ADDR_ADDR), 6, .rw, none, false⟩]⟩
  else if o = 16 then
    some ⟨false, [⟨.cfg (.LOAD_LEN_LEN), 0, .rw, none, false⟩]⟩
  else if o = 20 then
    some ⟨false, [⟨.cfg (.LOAD_ERR_CODE), 0, .ro, none, false⟩,
      ⟨.cfg (.LOAD_ERR_SECTION), 8, .ro, none, false⟩]⟩
  else if o = 24 then
    some ⟨false, [⟨.cfg (.IMAGE_VER_VALUE), 0, .ro, none, false⟩]⟩
  else if o = 28 then
    some ⟨false, [⟨.cfg (.IMAGE_DIGEST_VALUE), 0, .ro, none, false⟩]⟩
  else if o = 32 then
    some ⟨false, [⟨.cfg (.OVL_CMD_INDEX), 0, .wo, none, true⟩,
      ⟨.cfg (.OVL_CMD_OP), 8, .wo, none, true⟩]⟩
  else if o = 36 then
    some ⟨false, [⟨.cfg (.OVL_STATUS_ACTIVE), 0, .ro, none, false⟩,
      ⟨.cfg (.OVL_STATUS_TARGET), 4, .ro, none, false⟩,
      ⟨.cfg (.OVL_STATUS_STATE), 8, .ro, none, false⟩,
      ⟨.cfg (.OVL_STATUS_TOUCH), 10, .ro, none, false⟩,
      ⟨.cfg (.OVL_STATUS_LAST_RESULT), 16, .ro, none, false⟩]⟩
  else if 68 ≤ o ∧ (o - 68) / 4 < 8 ∧ ((o - 68) % 4) = 0 then
    some ⟨false, [⟨.cfg (.OVL_INFO_VALID ((o - 68) / 4)), 0, .ro, none, false⟩,
      ⟨.cfg (.OVL_INFO_SAFETY_TOUCH ((o - 68) / 4)), 1, .ro, none, false⟩,
      ⟨.cfg (.OVL_INFO_HAS_EPH ((o - 68) / 4)), 2, .ro, none, false⟩,
      ⟨.cfg (.OVL_INFO_NREG ((o - 68) / 4)), 3, .ro, none, false⟩,
      ⟨.cfg (.OVL_INFO_NLINE ((o - 68) / 4)), 13, .ro, none, false⟩,
      ⟨.cfg (.OVL_INFO_SAT ((o - 68) / 4)), 22, .ro, none, false⟩]⟩
  else if o = 112 then
    some ⟨true, [⟨.cfg (.OVL_LOG_TICK), 0, .ro, none, false⟩,
      ⟨.cfg (.OVL_LOG_FROM), 32, .ro, none, false⟩,
      ⟨.cfg (.OVL_LOG_TO), 36, .ro, none, false⟩,
      ⟨.cfg (.OVL_LOG_DEFERRED), 40, .ro, none, false⟩]⟩
  else if o = 128 then
    some ⟨false, [⟨.cfg (.SEAL_VIOL_COUNT), 0, .rw, none, false⟩]⟩
  else if o = 132 then
    some ⟨false, [⟨.cfg (.SEAL_LOG_OFFSET), 0, .ro, none, false⟩,
      ⟨.cfg (.SEAL_LOG_VALID), 31, .w1c, none, false⟩]⟩
  else if o = 144 then
    some ⟨false, [⟨.cfg (.SIG_REF_CRC), 0, .ro, none, false⟩]⟩
  else if o = 148 then
    some ⟨false, [⟨.cfg (.SIG_STATUS_TICK), 0, .ro, none, false⟩,
      ⟨.cfg (.SIG_STATUS_UNSEALED), 30, .ro, none, false⟩,
      ⟨.cfg (.SIG_STATUS_MISMATCH), 31, .w1c, none, false⟩]⟩
  else if o = 152 then
    some ⟨false, [⟨.cfg (.SIG_ERR_CNT_COUNT), 0, .rw, none, false⟩]⟩
  else if o = 160 then
    some ⟨false, [⟨.cfg (.CNT_ARM_REFUSED), 0, .rw, none, false⟩,
      ⟨.cfg (.CNT_STALE), 8, .rw, none, false⟩,
      ⟨.cfg (.CNT_CONF_STALE), 16, .rw, none, false⟩,
      ⟨.cfg (.CNT_RUN_REFUSED), 24, .rw, none, false⟩]⟩
  else if o = 65536 then
    some ⟨false, [⟨.cfg (.CONF_PENDING_FROM), 0, .ro, none, false⟩,
      ⟨.cfg (.CONF_PENDING_TO), 4, .ro, none, false⟩,
      ⟨.cfg (.CONF_PENDING_PENDING), 8, .ro, none, false⟩,
      ⟨.cfg (.CONF_PENDING_DONE), 9, .w1c, none, false⟩]⟩
  else if o = 65540 then
    some ⟨false, [⟨.cfg (.CONF_TAG_TAG), 0, .ro, none, false⟩]⟩
  else if o = 65544 then
    some ⟨true, [⟨.cfg (.CONF_CMD_TAG), 0, .wo, none, true⟩,
      ⟨.cfg (.CONF_CMD_TO), 32, .wo, none, true⟩,
      ⟨.cfg (.CONF_CMD_DECISION), 36, .wo, none, true⟩]⟩
  else if o = 65552 then
    some ⟨false, [⟨.cfg (.CONF_CTRL_TIMEOUT), 0, .rw, some (1, 65535), false⟩]⟩
  else none

/-- The registers of block HEP, by offset from the block's base (R584). -/
def regHepAt (o : Nat) : Option RegAt :=
  if o = 0 then
    some ⟨false, [⟨.hep (.LINK_STATUS_SPEED), 0, .ro, none, false⟩,
      ⟨.hep (.LINK_STATUS_WIDTH), 4, .ro, none, false⟩,
      ⟨.hep (.LINK_STATUS_DL_UP), 10, .ro, none, false⟩,
      ⟨.hep (.LINK_STATUS_REVERSED), 11, .ro, none, false⟩]⟩
  else if o = 4 then
    some ⟨false, [⟨.hep (.LINK_CNT_DOWN), 0, .rw, none, false⟩,
      ⟨.hep (.LINK_CNT_RETRAIN), 16, .rw, none, false⟩]⟩
  else if o = 16 then
    some ⟨false, [⟨.hep (.RD_STATUS_OUT), 0, .ro, none, false⟩]⟩
  else if o = 20 then
    some ⟨false, [⟨.hep (.IRQ_DROP_VF_VECTOR), 0, .rw, none, false⟩,
      ⟨.hep (.IRQ_DROP_PF1_D3_REFUSED), 16, .rw, none, false⟩]⟩
  else if o = 32 then
    some ⟨true, [⟨.hep (.PF0_IPEND_PEND), 0, .w1c, none, false⟩]⟩
  else if 256 ≤ o ∧ (o - 256) / 4 < 32 ∧ ((o - 256) % 4) = 0 then
    some ⟨false, [⟨.hep (.EVT_VEC_VECTOR ((o - 256) / 4)), 0, .rw, none, false⟩,
      ⟨.hep (.EVT_VEC_EN ((o - 256) / 4)), 8, .rw, none, false⟩]⟩
  else if 512 ≤ o ∧ (o - 512) / 4 < 4 ∧ ((o - 512) % 4) = 0 then
    some ⟨false, [⟨.hep (.LTR_VAL_SNOOP_VALUE ((o - 512) / 4)), 0, .rw, none, false⟩,
      ⟨.hep (.LTR_VAL_SNOOP_SCALE ((o - 512) / 4)), 10, .rw, some (0, 5), false⟩,
      ⟨.hep (.LTR_VAL_SNOOP_REQ ((o - 512) / 4)), 15, .rw, none, false⟩,
      ⟨.hep (.LTR_VAL_NOSNOOP_VALUE ((o - 512) / 4)), 16, .rw, none, false⟩,
      ⟨.hep (.LTR_VAL_NOSNOOP_SCALE ((o - 512) / 4)), 26, .rw, some (0, 5), false⟩,
      ⟨.hep (.LTR_VAL_NOSNOOP_REQ ((o - 512) / 4)), 31, .rw, none, false⟩]⟩
  else if 4096 ≤ o ∧ (o - 4096) / 4 < 50 ∧ ((o - 4096) % 4) = 0 then
    some ⟨false, [⟨.hep (.RDQ_MAX ((o - 4096) / 4)), 0, .rwl, some (1, 512), false⟩,
      ⟨.hep (.RDQ_OUT ((o - 4096) / 4)), 16, .ro, none, false⟩]⟩
  else if 8192 ≤ o ∧ (o - 8192) / 16 < 50 ∧ ((o - 8192) % 16) = 0 then
    some ⟨false, [⟨.hep (.FN_CTRL_LAT_VALUE ((o - 8192) / 16)), 0, .rw, none, false⟩,
      ⟨.hep (.FN_CTRL_LAT_SCALE ((o - 8192) / 16)), 10, .rw, some (0, 5), false⟩,
      ⟨.hep (.FN_CTRL_REQ ((o - 8192) / 16)), 15, .rw, none, false⟩]⟩
  else if 8196 ≤ o ∧ (o - 8196) / 16 < 50 ∧ ((o - 8196) % 16) = 0 then
    some ⟨false, [⟨.hep (.FN_STATUS_ACTIVE ((o - 8196) / 16)), 0, .ro, none, false⟩,
      ⟨.hep (.FN_STATUS_FLR_BUSY ((o - 8196) / 16)), 1, .ro, none, false⟩,
      ⟨.hep (.FN_STATUS_DSTATE ((o - 8196) / 16)), 2, .ro, none, false⟩]⟩
  else if o = 40704 then
    some ⟨false, [⟨.hep (.PF1_IPEND_SAFE), 0, .ro, none, false⟩,
      ⟨.hep (.PF1_IPEND_SAF_EVT), 1, .ro, none, false⟩,
      ⟨.hep (.PF1_IPEND_CFG), 2, .w1c, none, false⟩,
      ⟨.hep (.PF1_IPEND_RING), 3, .w1c, none, false⟩,
      ⟨.hep (.PF1_IPEND_CTN), 4, .w1c, none, false⟩,
      ⟨.hep (.PF1_IPEND_SUPPLY), 5, .w1c, none, false⟩,
      ⟨.hep (.PF1_IPEND_SENT), 31, .ro, none, false⟩]⟩
  else if o = 32780 then
    some ⟨false, [⟨.hep (.CTN_CTRL_TRIG_FATAL), 0, .rw, none, false⟩,
      ⟨.hep (.CTN_CTRL_TRIG_NONFATAL), 1, .rw, none, false⟩,
      ⟨.hep (.CTN_CTRL_TRIG_POISON), 2, .rw, none, false⟩,
      ⟨.hep (.CTN_CTRL_TRIG_CPL_TMO), 3, .rw, none, false⟩,
      ⟨.hep (.CTN_CTRL_TRIG_QUAR), 4, .rw, none, false⟩,
      ⟨.hep (.CTN_CTRL_TRIG_SURPRISE), 5, .ro, none, false⟩,
      ⟨.hep (.CTN_CTRL_FREEZE), 6, .w1s, none, true⟩,
      ⟨.hep (.CTN_CTRL_QUAR_LIMIT), 16, .rw, some (1, 512), false⟩]⟩
  else if o = 32784 then
    some ⟨false, [⟨.hep (.CTN_STATUS_STATE), 0, .ro, none, false⟩,
      ⟨.hep (.CTN_STATUS_CAUSE), 2, .ro, none, false⟩,
      ⟨.hep (.CTN_STATUS_SEQ), 16, .ro, none, false⟩]⟩
  else if o = 32788 then
    some ⟨false, [⟨.hep (.CTN_RELEASE_GO), 0, .wo, none, true⟩,
      ⟨.hep (.CTN_RELEASE_SEQ), 16, .wo, none, true⟩]⟩
  else if o = 32792 then
    some ⟨false, [⟨.hep (.CTN_RESULT_LAST), 0, .ro, none, false⟩,
      ⟨.hep (.CTN_RESULT_REFUSED), 8, .rw, none, false⟩]⟩
  else if o = 32796 then
    some ⟨false, [⟨.hep (.CTN_LOG_TRIGGERS), 1, .w1c, none, false⟩]⟩
  else if o = 32800 then
    some ⟨false, [⟨.hep (.CTN_TICK_TICK), 0, .ro, none, false⟩]⟩
  else if o = 32804 then
    some ⟨false, [⟨.hep (.CPL_TMO_MS), 0, .rw, some (1, 64), false⟩]⟩
  else if o = 32808 then
    some ⟨false, [⟨.hep (.QUAR_STATUS_TOTAL), 0, .ro, none, false⟩,
      ⟨.hep (.QUAR_STATUS_TIMED), 16, .ro, none, false⟩]⟩
  else if o = 32832 then
    some ⟨true, [⟨.hep (.POISON_TX_MODE), 0, .rw, none, false⟩]⟩
  else if o = 32840 then
    some ⟨false, [⟨.hep (.CTN_EVT_ENTERED), 0, .w1c, none, false⟩,
      ⟨.hep (.CTN_EVT_RELEASED), 1, .w1c, none, false⟩,
      ⟨.hep (.CTN_EVT_IRQ_EN), 8, .rw, none, false⟩]⟩
  else if 33024 ≤ o ∧ (o - 33024) / 4 < 9 ∧ ((o - 33024) % 4) = 0 then
    some ⟨false, [⟨.hep (.ERR_CNT_COUNT ((o - 33024) / 4)), 0, .rw, none, false⟩]⟩
  else none

/-- The registers of block RNG, by offset from the block's base (R584). -/
def regRngAt (o : Nat) : Option RegAt :=
  if o / 64 < 256 ∧ (o % 64) = 0 then
    some ⟨false, [⟨.rng (.SQ_ASSIGN_FUNC (o / 64)), 0, .rwl, some (0, 49), false⟩,
      ⟨.rng (.SQ_ASSIGN_LOCAL (o / 64)), 8, .rwl, none, false⟩,
      ⟨.rng (.SQ_ASSIGN_KIND (o / 64)), 16, .rwl, some (0, 2), false⟩,
      ⟨.rng (.SQ_ASSIGN_TICK (o / 64)), 18, .rwl, none, false⟩,
      ⟨.rng (.SQ_ASSIGN_TCH (o / 64)), 19, .rwl, none, false⟩,
      ⟨.rng (.SQ_ASSIGN_VALID (o / 64)), 31, .rwl, none, false⟩]⟩
  else if 4 ≤ o ∧ (o - 4) / 64 < 256 ∧ ((o - 4) % 64) = 0 then
    some ⟨false, [⟨.rng (.SQ_BIND_CQ ((o - 4) / 64)), 0, .rwl, none, false⟩,
      ⟨.rng (.SQ_BIND_CLASS ((o - 4) / 64)), 8, .rwl, none, false⟩,
      ⟨.rng (.SQ_BIND_HOLD_LINES ((o - 4) / 64)), 16, .rwl, some (0, 8192), false⟩]⟩
  else if 65536 ≤ o ∧ (o - 65536) / 64 < 256 ∧ ((o - 65536) % 64) = 0 then
    some ⟨false, [⟨.rng (.CQ_ASSIGN_FUNC ((o - 65536) / 64)), 0, .rwl, none, false⟩,
      ⟨.rng (.CQ_ASSIGN_LOCAL ((o - 65536) / 64)), 8, .rwl, none, false⟩,
      ⟨.rng (.CQ_ASSIGN_VALID ((o - 65536) / 64)), 31, .rwl, none, false⟩]⟩
  else if 32 ≤ o ∧ (o - 32) / 64 < 256 ∧ ((o - 32) % 64) = 0 then
    some ⟨true, [⟨.rng (.SQ_BASE_ADDR ((o - 32) / 64)), 6, .rw, none, false⟩]⟩
  else if 40 ≤ o ∧ (o - 40) / 64 < 256 ∧ ((o - 40) % 64) = 0 then
    some ⟨false, [⟨.rng (.SQ_CTRL_LOG2SIZE ((o - 40) / 64)), 0, .rw, some (6, 16), false⟩,
      ⟨.rng (.SQ_CTRL_EN ((o - 40) / 64)), 8, .rw, none, true⟩,
      ⟨.rng (.SQ_CTRL_ABORT ((o - 40) / 64)), 9, .w1s, none, true⟩,
      ⟨.rng (.SQ_CTRL_MIRROR_EN ((o - 40) / 64)), 10, .rw, none, false⟩]⟩
  else if 44 ≤ o ∧ (o - 44) / 64 < 256 ∧ ((o - 44) % 64) = 0 then
    some ⟨false, [⟨.rng (.SQ_INDEX_TAIL ((o - 44) / 64)), 0, .ro, none, false⟩,
      ⟨.rng (.SQ_INDEX_HEAD ((o - 44) / 64)), 16, .ro, none, false⟩]⟩
  else if 48 ≤ o ∧ (o - 48) / 64 < 256 ∧ ((o - 48) % 64) = 0 then
    some ⟨true, [⟨.rng (.SQ_MIRROR_ADDR ((o - 48) / 64)), 2, .rw, none, false⟩]⟩
  else if 56 ≤ o ∧ (o - 56) / 64 < 256 ∧ ((o - 56) % 64) = 0 then
    some ⟨false, [⟨.rng (.SQ_STATUS_STATE ((o - 56) / 64)), 0, .ro, none, false⟩,
      ⟨.rng (.SQ_STATUS_SEALED ((o - 56) / 64)), 2, .ro, none, false⟩,
      ⟨.rng (.SQ_STATUS_OUTSTANDING ((o - 56) / 64)), 16, .ro, none, false⟩]⟩
  else if 65568 ≤ o ∧ (o - 65568) / 64 < 256 ∧ ((o - 65568) % 64) = 0 then
    some ⟨true, [⟨.rng (.CQ_BASE_ADDR ((o - 65568) / 64)), 6, .rw, none, false⟩]⟩
  else if 65576 ≤ o ∧ (o - 65576) / 64 < 256 ∧ ((o - 65576) % 64) = 0 then
    some ⟨false, [⟨.rng (.CQ_CTRL_LOG2SIZE ((o - 65576) / 64)), 0, .rw, some (6, 16), false⟩,
      ⟨.rng (.CQ_CTRL_EN ((o - 65576) / 64)), 8, .rw, none, true⟩,
      ⟨.rng (.CQ_CTRL_MIRROR_EN ((o - 65576) / 64)), 10, .rw, none, false⟩,
      ⟨.rng (.CQ_CTRL_IRQ_EN ((o - 65576) / 64)), 11, .rw, none, false⟩,
      ⟨.rng (.CQ_CTRL_VECTOR ((o - 65576) / 64)), 12, .rw, none, false⟩,
      ⟨.rng (.CQ_CTRL_COAL_TICK ((o - 65576) / 64)), 18, .rw, none, false⟩,
      ⟨.rng (.CQ_CTRL_COAL_CNT ((o - 65576) / 64)), 24, .rw, some (1, 255), false⟩]⟩
  else if 65580 ≤ o ∧ (o - 65580) / 64 < 256 ∧ ((o - 65580) % 64) = 0 then
    some ⟨false, [⟨.rng (.CQ_INDEX_TAIL ((o - 65580) / 64)), 0, .ro, none, false⟩,
      ⟨.rng (.CQ_INDEX_HEAD ((o - 65580) / 64)), 16, .ro, none, false⟩]⟩
  else if 65584 ≤ o ∧ (o - 65584) / 64 < 256 ∧ ((o - 65584) % 64) = 0 then
    some ⟨true, [⟨.rng (.CQ_MIRROR_ADDR ((o - 65584) / 64)), 2, .rw, none, false⟩]⟩
  else if 65592 ≤ o ∧ (o - 65592) / 64 < 256 ∧ ((o - 65592) % 64) = 0 then
    some ⟨false, [⟨.rng (.CQ_STATUS_RESERVED ((o - 65592) / 64)), 0, .ro, none, false⟩,
      ⟨.rng (.CQ_STATUS_HELD ((o - 65592) / 64)), 16, .ro, none, false⟩]⟩
  else if 131120 ≤ o ∧ (o - 131120) / 64 < 50 ∧ ((o - 131120) % 64) = 0 then
    some ⟨false, [⟨.rng (.DB_LOG_INDEX ((o - 131120) / 64)), 0, .ro, none, false⟩,
      ⟨.rng (.DB_LOG_RING ((o - 131120) / 64)), 16, .ro, none, false⟩,
      ⟨.rng (.DB_LOG_REASON ((o - 131120) / 64)), 24, .ro, none, false⟩,
      ⟨.rng (.DB_LOG_CQ ((o - 131120) / 64)), 27, .ro, none, false⟩,
      ⟨.rng (.DB_LOG_VALID ((o - 131120) / 64)), 31, .w1c, none, false⟩]⟩
  else if o = 196608 then
    some ⟨false, [⟨.rng (.SEALED_LOG_RING), 0, .ro, none, false⟩,
      ⟨.rng (.SEALED_LOG_FUNC), 8, .ro, none, false⟩,
      ⟨.rng (.SEALED_LOG_VALID), 31, .w1c, none, false⟩]⟩
  else if 131072 ≤ o ∧ (o - 131072) / 64 < 50 ∧ ((o - 131072) % 64) / 4 < 11 ∧ (((o - 131072) % 64) % 4) = 0 then
    some ⟨false, [⟨.rng (.FCNT_COUNT ((o - 131072) / 64) (((o - 131072) % 64) / 4)), 0, .rw, none, false⟩]⟩
  else none

/-- The registers of block DMA, by offset from the block's base (R584). -/
def regDmaAt (o : Nat) : Option RegAt :=
  if o = 0 then
    some ⟨false, [⟨.dma (.CTRL_EN), 0, .rw, none, false⟩,
      ⟨.dma (.CTRL_IRQ_EN), 1, .rw, none, false⟩,
      ⟨.dma (.CTRL_INT_FLUSH), 2, .rwl, none, false⟩]⟩
  else if o = 4 then
    some ⟨false, [⟨.dma (.STATUS_CH_ERR), 0, .w1c, none, false⟩,
      ⟨.dma (.STATUS_HALTED), 1, .w1c, none, false⟩,
      ⟨.dma (.STATUS_OVERCOMMIT), 2, .ro, none, false⟩]⟩
  else if o = 8 then
    some ⟨false, [⟨.dma (.TAG_STATUS_IN_USE), 0, .ro, none, false⟩,
      ⟨.dma (.TAG_STATUS_DISCARD), 10, .ro, none, false⟩,
      ⟨.dma (.TAG_STATUS_TEN), 20, .ro, none, false⟩]⟩
  else if o = 12 then
    some ⟨false, [⟨.dma (.VAT_STATUS_FREE), 0, .ro, none, false⟩,
      ⟨.dma (.VAT_STATUS_POOL_FREE), 16, .ro, none, false⟩]⟩
  else if o = 16 then
    some ⟨false, [⟨.dma (.ERR_LOG_CHANNEL), 0, .ro, none, false⟩,
      ⟨.dma (.ERR_LOG_STATUS), 8, .ro, none, false⟩,
      ⟨.dma (.ERR_LOG_VALID), 31, .w1c, none, false⟩]⟩
  else if o = 24 then
    some ⟨true, [⟨.dma (.ERR_ADDR_ADDR), 0, .ro, none, false⟩]⟩
  else if 32 ≤ o ∧ (o - 32) / 4 < 4 ∧ ((o - 32) % 4) = 0 then
    some ⟨false, [⟨.dma (.IRQ_PEND_PEND ((o - 32) / 4)), 0, .w1c, none, false⟩]⟩
  else if 256 ≤ o ∧ (o - 256) / 4 < 50 ∧ ((o - 256) % 4) = 0 then
    some ⟨false, [⟨.dma (.VAT_QUOTA_RESERVE ((o - 256) / 4)), 0, .rwl, some (0, 8192), false⟩,
      ⟨.dma (.VAT_QUOTA_LIMIT ((o - 256) / 4)), 16, .rwl, some (0, 8192), false⟩]⟩
  else if 512 ≤ o ∧ (o - 512) / 4 < 50 ∧ ((o - 512) % 4) = 0 then
    some ⟨false, [⟨.dma (.VAT_USE_USED ((o - 512) / 4)), 0, .ro, none, false⟩,
      ⟨.dma (.VAT_USE_GUAR ((o - 512) / 4)), 16, .ro, none, false⟩]⟩
  else if 768 ≤ o ∧ (o - 768) / 4 < 50 ∧ ((o - 768) % 4) = 0 then
    some ⟨false, [⟨.dma (.QCNT_REFUSED ((o - 768) / 4)), 0, .rw, none, false⟩]⟩
  else if 1024 ≤ o ∧ (o - 1024) / 4 < 64 ∧ ((o - 1024) % 4) = 0 then
    some ⟨false, [⟨.dma (.REQ_MAP_KIND ((o - 1024) / 4)), 0, .rw, none, true⟩,
      ⟨.dma (.REQ_MAP_ARG ((o - 1024) / 4)), 4, .rw, none, true⟩,
      ⟨.dma (.REQ_MAP_PENDING ((o - 1024) / 4)), 16, .ro, none, false⟩]⟩
  else if o = 1280 then
    some ⟨false, [⟨.dma (.REQ_FIRE_LINE), 0, .wo, none, true⟩]⟩
  else if 4096 ≤ o ∧ (o - 4096) / 64 < 96 ∧ ((o - 4096) % 64) = 0 then
    some ⟨false, [⟨.dma (.LL_CFG_FUNC ((o - 4096) / 64)), 0, .rw, none, false⟩]⟩
  else if 4104 ≤ o ∧ (o - 4104) / 64 < 96 ∧ ((o - 4104) % 64) = 0 then
    some ⟨true, [⟨.dma (.LL_HEAD_ONCHIP ((o - 4104) / 64)), 0, .rw, none, false⟩,
      ⟨.dma (.LL_HEAD_ADDR ((o - 4104) / 64)), 5, .rw, none, false⟩]⟩
  else if 4112 ≤ o ∧ (o - 4112) / 64 < 96 ∧ ((o - 4112) % 64) = 0 then
    some ⟨false, [⟨.dma (.LL_CTRL_START ((o - 4112) / 64)), 0, .w1s, none, true⟩,
      ⟨.dma (.LL_CTRL_STOP ((o - 4112) / 64)), 1, .w1s, none, true⟩,
      ⟨.dma (.LL_CTRL_KICK ((o - 4112) / 64)), 2, .w1s, none, true⟩]⟩
  else if 4116 ≤ o ∧ (o - 4116) / 64 < 96 ∧ ((o - 4116) % 64) = 0 then
    some ⟨false, [⟨.dma (.LL_STATUS_STATE ((o - 4116) / 64)), 0, .ro, none, false⟩,
      ⟨.dma (.LL_STATUS_KICK_PEND ((o - 4116) / 64)), 3, .ro, none, false⟩,
      ⟨.dma (.LL_STATUS_LAST_STATUS ((o - 4116) / 64)), 8, .ro, none, false⟩]⟩
  else if 4120 ≤ o ∧ (o - 4120) / 64 < 96 ∧ ((o - 4120) % 64) = 0 then
    some ⟨true, [⟨.dma (.LL_CUR_ADDR ((o - 4120) / 64)), 0, .ro, none, false⟩]⟩
  else if 4128 ≤ o ∧ (o - 4128) / 64 < 96 ∧ ((o - 4128) % 64) = 0 then
    some ⟨false, [⟨.dma (.LL_REMAIN_BYTES ((o - 4128) / 64)), 0, .ro, none, false⟩]⟩
  else if 4132 ≤ o ∧ (o - 4132) / 64 < 96 ∧ ((o - 4132) % 64) = 0 then
    some ⟨false, [⟨.dma (.LL_CNT_DONE ((o - 4132) / 64)), 0, .rw, none, false⟩,
      ⟨.dma (.LL_CNT_BAD ((o - 4132) / 64)), 16, .rw, none, false⟩,
      ⟨.dma (.LL_CNT_REFUSED ((o - 4132) / 64)), 24, .rw, none, false⟩]⟩
  else if 16384 ≤ o ∧ (o - 16384) / 128 < 32 ∧ ((o - 16384) % 128) = 0 then
    some ⟨false, [⟨.dma (.TCH_CFG_MODE ((o - 16384) / 128)), 0, .rwl, none, false⟩,
      ⟨.dma (.TCH_CFG_FUNC ((o - 16384) / 128)), 1, .rwl, none, false⟩,
      ⟨.dma (.TCH_CFG_SRC ((o - 16384) / 128)), 7, .rwl, none, false⟩,
      ⟨.dma (.TCH_CFG_SWAP_LINE ((o - 16384) / 128)), 8, .rwl, none, false⟩,
      ⟨.dma (.TCH_CFG_SWAP_LINE_EN ((o - 16384) / 128)), 14, .rwl, none, false⟩]⟩
  else if 16392 ≤ o ∧ (o - 16392) / 128 < 32 ∧ ((o - 16392) % 128) = 0 then
    some ⟨true, [⟨.dma (.TCH_MBOX_LINE ((o - 16392) / 128)), 6, .rwl, none, false⟩]⟩
  else if 16400 ≤ o ∧ (o - 16400) / 128 < 32 ∧ ((o - 16400) % 128) / 4 < 6 ∧ (((o - 16400) % 128) % 4) = 0 then
    some ⟨false, [⟨.dma (.TCH_SHADOW_DATA ((o - 16400) / 128) (((o - 16400) % 128) / 4)), 0, .rw, none, false⟩]⟩
  else if 16424 ≤ o ∧ (o - 16424) / 128 < 32 ∧ ((o - 16424) % 128) = 0 then
    some ⟨false, [⟨.dma (.TCH_SHCTRL_ARM ((o - 16424) / 128)), 0, .w1s, none, true⟩,
      ⟨.dma (.TCH_SHCTRL_SWAP_REQ ((o - 16424) / 128)), 1, .w1s, none, true⟩,
      ⟨.dma (.TCH_SHCTRL_SHADOW_VALID ((o - 16424) / 128)), 2, .ro, none, false⟩]⟩
  else if 16432 ≤ o ∧ (o - 16432) / 128 < 32 ∧ ((o - 16432) % 128) / 4 < 6 ∧ (((o - 16432) % 128) % 4) = 0 then
    some ⟨false, [⟨.dma (.TCH_ACTIVE_DATA ((o - 16432) / 128) (((o - 16432) % 128) / 4)), 0, .ro, none, false⟩]⟩
  else if 16456 ≤ o ∧ (o - 16456) / 128 < 32 ∧ ((o - 16456) % 128) = 0 then
    some ⟨false, [⟨.dma (.TCH_STATUS_LAST_STATUS ((o - 16456) / 128)), 0, .ro, none, false⟩,
      ⟨.dma (.TCH_STATUS_BUSY ((o - 16456) / 128)), 8, .ro, none, false⟩]⟩
  else if 16460 ≤ o ∧ (o - 16460) / 128 < 32 ∧ ((o - 16460) % 128) = 0 then
    some ⟨false, [⟨.dma (.TCH_REMAIN_BYTES ((o - 16460) / 128)), 0, .ro, none, false⟩]⟩
  else if 16464 ≤ o ∧ (o - 16464) / 128 < 32 ∧ ((o - 16464) % 128) = 0 then
    some ⟨false, [⟨.dma (.TCH_CNT_NO_SHADOW ((o - 16464) / 128)), 0, .rw, none, false⟩,
      ⟨.dma (.TCH_CNT_CARRY ((o - 16464) / 128)), 16, .rw, none, false⟩]⟩
  else if 16468 ≤ o ∧ (o - 16468) / 128 < 32 ∧ ((o - 16468) % 128) = 0 then
    some ⟨false, [⟨.dma (.TCH_CNT2_HELD ((o - 16468) / 128)), 0, .rw, none, false⟩,
      ⟨.dma (.TCH_CNT2_SHADOW_REFUSED ((o - 16468) / 128)), 16, .rw, none, false⟩]⟩
  else none

/-- The registers of block BRG, by offset from the block's base (R584). -/
def regBrgAt (o : Nat) : Option RegAt :=
  if o = 0 then
    some ⟨false, [⟨.brg (.CTRL_EN), 0, .rw, none, false⟩,
      ⟨.brg (.CTRL_IRQ_EN), 1, .rw, none, false⟩]⟩
  else if 4096 ≤ o ∧ (o - 4096) / 4096 < 2 ∧ ((o - 4096) % 4096) = 0 then
    some ⟨false, [⟨.brg (.RP_CTRL_PERST ((o - 4096) / 4096)), 0, .rw, none, true⟩,
      ⟨.brg (.RP_CTRL_REFCLK_EN ((o - 4096) / 4096)), 1, .rw, none, false⟩,
      ⟨.brg (.RP_CTRL_CLKREQ_EN ((o - 4096) / 4096)), 2, .rw, none, false⟩,
      ⟨.brg (.RP_CTRL_MAX_SPEED ((o - 4096) / 4096)), 3, .rw, some (1, 3), false⟩,
      ⟨.brg (.RP_CTRL_MPS ((o - 4096) / 4096)), 5, .rw, none, false⟩,
      ⟨.brg (.RP_CTRL_POISON_MODE ((o - 4096) / 4096)), 6, .rw, none, false⟩,
      ⟨.brg (.RP_CTRL_PF_LINES ((o - 4096) / 4096)), 7, .rw, some (0, 4), false⟩,
      ⟨.brg (.RP_CTRL_ASPM_L1 ((o - 4096) / 4096)), 10, .rw, none, false⟩]⟩
  else if 4100 ≤ o ∧ (o - 4100) / 4096 < 2 ∧ ((o - 4100) % 4096) = 0 then
    some ⟨false, [⟨.brg (.RP_STATUS_STATE ((o - 4100) / 4096)), 0, .ro, none, false⟩,
      ⟨.brg (.RP_STATUS_SPEED ((o - 4100) / 4096)), 2, .ro, none, false⟩,
      ⟨.brg (.RP_STATUS_CFG_BUSY ((o - 4100) / 4096)), 4, .ro, none, false⟩,
      ⟨.brg (.RP_STATUS_CFG_ERR ((o - 4100) / 4096)), 5, .w1c, none, false⟩,
      ⟨.brg (.RP_STATUS_INTX ((o - 4100) / 4096)), 6, .ro, none, false⟩,
      ⟨.brg (.RP_STATUS_CTN_CHG ((o - 4100) / 4096)), 7, .w1c, none, false⟩]⟩
  else if 4104 ≤ o ∧ (o - 4104) / 4096 < 2 ∧ ((o - 4104) % 4096) = 0 then
    some ⟨false, [⟨.brg (.RP_CFG_ADDR_REG ((o - 4104) / 4096)), 2, .rw, none, false⟩,
      ⟨.brg (.RP_CFG_ADDR_FN ((o - 4104) / 4096)), 12, .rw, none, false⟩,
      ⟨.brg (.RP_CFG_ADDR_BE ((o - 4104) / 4096)), 16, .rw, none, false⟩]⟩
  else if 4108 ≤ o ∧ (o - 4108) / 4096 < 2 ∧ ((o - 4108) % 4096) = 0 then
    some ⟨false, [⟨.brg (.RP_CFG_DATA_DATA ((o - 4108) / 4096)), 0, .rw, none, true⟩]⟩
  else if 4112 ≤ o ∧ (o - 4112) / 4096 < 2 ∧ ((o - 4112) % 4096) = 0 then
    some ⟨false, [⟨.brg (.RP_CTN_TRIG ((o - 4112) / 4096)), 0, .rw, none, false⟩,
      ⟨.brg (.RP_CTN_FREEZE ((o - 4112) / 4096)), 8, .w1s, none, true⟩]⟩
  else if 4116 ≤ o ∧ (o - 4116) / 4096 < 2 ∧ ((o - 4116) % 4096) = 0 then
    some ⟨false, [⟨.brg (.RP_CTN_STATUS_CAUSE ((o - 4116) / 4096)), 0, .ro, none, false⟩,
      ⟨.brg (.RP_CTN_STATUS_RESULT ((o - 4116) / 4096)), 3, .ro, none, false⟩,
      ⟨.brg (.RP_CTN_STATUS_SEQ ((o - 4116) / 4096)), 16, .ro, none, false⟩]⟩
  else if 4120 ≤ o ∧ (o - 4120) / 4096 < 2 ∧ ((o - 4120) % 4096) = 0 then
    some ⟨false, [⟨.brg (.RP_CTN_RELEASE_GO ((o - 4120) / 4096)), 0, .wo, none, true⟩,
      ⟨.brg (.RP_CTN_RELEASE_SEQ ((o - 4120) / 4096)), 16, .wo, none, true⟩]⟩
  else if 4124 ≤ o ∧ (o - 4124) / 4096 < 2 ∧ ((o - 4124) % 4096) = 0 then
    some ⟨false, [⟨.brg (.RP_CPL_TMO_MS ((o - 4124) / 4096)), 0, .rw, some (1, 64), false⟩]⟩
  else if 4128 ≤ o ∧ (o - 4128) / 4096 < 2 ∧ ((o - 4128) % 4096) = 0 then
    some ⟨false, [⟨.brg (.RP_MSI_PEND_PEND ((o - 4128) / 4096)), 0, .w1c, none, false⟩]⟩
  else if 4132 ≤ o ∧ (o - 4132) / 4096 < 2 ∧ ((o - 4132) % 4096) = 0 then
    some ⟨false, [⟨.brg (.KA_CFG_SA_LO ((o - 4132) / 4096)), 0, .rw, none, false⟩,
      ⟨.brg (.KA_CFG_SA_HI ((o - 4132) / 4096)), 10, .rw, none, false⟩,
      ⟨.brg (.KA_CFG_REARM ((o - 4132) / 4096)), 20, .w1s, none, true⟩]⟩
  else if 4136 ≤ o ∧ (o - 4136) / 4096 < 2 ∧ ((o - 4136) % 4096) = 0 then
    some ⟨false, [⟨.brg (.KA_LIMIT_LIMIT ((o - 4136) / 4096)), 0, .rw, none, true⟩]⟩
  else if 4140 ≤ o ∧ (o - 4140) / 4096 < 2 ∧ ((o - 4140) % 4096) = 0 then
    some ⟨false, [⟨.brg (.KA_STATUS_PATH_DEAD ((o - 4140) / 4096)), 0, .ro, none, false⟩,
      ⟨.brg (.KA_STATUS_LATE ((o - 4140) / 4096)), 8, .rw, none, false⟩,
      ⟨.brg (.KA_STATUS_EXP_TICK ((o - 4140) / 4096)), 16, .ro, none, false⟩]⟩
  else if 4144 ≤ o ∧ (o - 4144) / 4096 < 2 ∧ ((o - 4144) % 4096) = 0 then
    some ⟨false, [⟨.brg (.KA_LAST_LAST ((o - 4144) / 4096)), 0, .ro, none, false⟩]⟩
  else if 4148 ≤ o ∧ (o - 4148) / 4096 < 2 ∧ ((o - 4148) % 4096) = 0 then
    some ⟨false, [⟨.brg (.RP_ERR_LOG_KIND ((o - 4148) / 4096)), 0, .ro, none, false⟩,
      ⟨.brg (.RP_ERR_LOG_VALID ((o - 4148) / 4096)), 31, .w1c, none, false⟩]⟩
  else if 4352 ≤ o ∧ (o - 4352) / 4096 < 2 ∧ ((o - 4352) % 4096) / 32 < 8 ∧ (((o - 4352) % 4096) % 32) = 0 then
    some ⟨true, [⟨.brg (.WIN_BASE_ADDR ((o - 4352) / 4096) (((o - 4352) % 4096) / 32)), 12, .rw, none, false⟩]⟩
  else if 4360 ≤ o ∧ (o - 4360) / 4096 < 2 ∧ ((o - 4360) % 4096) / 32 < 8 ∧ (((o - 4360) % 4096) % 32) = 0 then
    some ⟨false, [⟨.brg (.WIN_CTRL_EN ((o - 4360) / 4096) (((o - 4360) % 4096) / 32)), 0, .rw, none, false⟩,
      ⟨.brg (.WIN_CTRL_ATTR ((o - 4360) / 4096) (((o - 4360) % 4096) / 32)), 1, .rw, none, false⟩,
      ⟨.brg (.WIN_CTRL_LOG2SIZE ((o - 4360) / 4096) (((o - 4360) % 4096) / 32)), 4, .rw, some (12, 32), false⟩,
      ⟨.brg (.WIN_CTRL_FUNC ((o - 4360) / 4096) (((o - 4360) % 4096) / 32)), 10, .rw, none, false⟩,
      ⟨.brg (.WIN_CTRL_BELL_EN ((o - 4360) / 4096) (((o - 4360) % 4096) / 32)), 16, .rw, none, false⟩]⟩
  else if 4364 ≤ o ∧ (o - 4364) / 4096 < 2 ∧ ((o - 4364) % 4096) / 32 < 8 ∧ (((o - 4364) % 4096) % 32) = 0 then
    some ⟨false, [⟨.brg (.WIN_APERTURE_OFFSET ((o - 4364) / 4096) (((o - 4364) % 4096) / 32)), 13, .rw, none, false⟩]⟩
  else if 4368 ≤ o ∧ (o - 4368) / 4096 < 2 ∧ ((o - 4368) % 4096) / 32 < 8 ∧ (((o - 4368) % 4096) % 32) = 0 then
    some ⟨false, [⟨.brg (.WIN_BELL_BELL_OFF ((o - 4368) / 4096) (((o - 4368) % 4096) / 32)), 2, .rw, none, false⟩]⟩
  else if 4608 ≤ o ∧ (o - 4608) / 4096 < 2 ∧ ((o - 4608) % 4096) / 32 < 4 ∧ (((o - 4608) % 4096) % 32) = 0 then
    some ⟨true, [⟨.brg (.INB_BASE_ADDR ((o - 4608) / 4096) (((o - 4608) % 4096) / 32)), 12, .rw, none, false⟩]⟩
  else if 4616 ≤ o ∧ (o - 4616) / 4096 < 2 ∧ ((o - 4616) % 4096) / 32 < 4 ∧ (((o - 4616) % 4096) % 32) = 0 then
    some ⟨true, [⟨.brg (.INB_HOST_ADDR_ADDR ((o - 4616) / 4096) (((o - 4616) % 4096) / 32)), 12, .rw, none, false⟩]⟩
  else if 4624 ≤ o ∧ (o - 4624) / 4096 < 2 ∧ ((o - 4624) % 4096) / 32 < 4 ∧ (((o - 4624) % 4096) % 32) = 0 then
    some ⟨false, [⟨.brg (.INB_CTRL_EN ((o - 4624) / 4096) (((o - 4624) % 4096) / 32)), 0, .rw, none, false⟩,
      ⟨.brg (.INB_CTRL_KIND ((o - 4624) / 4096) (((o - 4624) % 4096) / 32)), 1, .rw, none, false⟩,
      ⟨.brg (.INB_CTRL_LOG2SIZE ((o - 4624) / 4096) (((o - 4624) % 4096) / 32)), 3, .rw, some (12, 40), false⟩,
      ⟨.brg (.INB_CTRL_FUNC ((o - 4624) / 4096) (((o - 4624) % 4096) / 32)), 10, .rw, none, false⟩]⟩
  else if 4864 ≤ o ∧ (o - 4864) / 4096 < 2 ∧ ((o - 4864) % 4096) / 4 < 10 ∧ (((o - 4864) % 4096) % 4) = 0 then
    some ⟨false, [⟨.brg (.RP_CNT_COUNT ((o - 4864) / 4096) (((o - 4864) % 4096) / 4)), 0, .rw, none, false⟩]⟩
  else none

/-- The registers of block MAC, by offset from the block's base (R584). -/
def regMacAt (o : Nat) : Option RegAt :=
  if o / 65536 < 4 ∧ (o % 65536) = 0 then
    some ⟨false, [⟨.mac (.PORT_CTRL_EN (o / 65536)), 0, .rwl, none, false⟩,
      ⟨.mac (.PORT_CTRL_MODE (o / 65536)), 1, .rwl, some (0, 2), false⟩,
      ⟨.mac (.PORT_CTRL_AN_EN (o / 65536)), 4, .rwl, none, false⟩,
      ⟨.mac (.PORT_CTRL_SPEED_FORCE (o / 65536)), 5, .rwl, some (0, 2), false⟩,
      ⟨.mac (.PORT_CTRL_POISON_MODE (o / 65536)), 7, .rwl, none, false⟩,
      ⟨.mac (.PORT_CTRL_FCS_BYPASS_RX (o / 65536)), 8, .rwl, none, false⟩,
      ⟨.mac (.PORT_CTRL_FCS_BYPASS_TX (o / 65536)), 9, .rwl, none, false⟩,
      ⟨.mac (.PORT_CTRL_PROMISC (o / 65536)), 10, .rwl, none, false⟩,
      ⟨.mac (.PORT_CTRL_BCAST_EN (o / 65536)), 11, .rwl, none, false⟩,
      ⟨.mac (.PORT_CTRL_RESTART_AN (o / 65536)), 12, .w1s, none, true⟩,
      ⟨.mac (.PORT_CTRL_IRQ_LINK_EN (o / 65536)), 13, .rw, none, false⟩]⟩
  else if 4 ≤ o ∧ (o - 4) / 65536 < 4 ∧ ((o - 4) % 65536) = 0 then
    some ⟨false, [⟨.mac (.PORT_STATUS_LINK_UP ((o - 4) / 65536)), 0, .ro, none, false⟩,
      ⟨.mac (.PORT_STATUS_SPEED ((o - 4) / 65536)), 1, .ro, none, false⟩,
      ⟨.mac (.PORT_STATUS_SYNC ((o - 4) / 65536)), 3, .ro, none, false⟩,
      ⟨.mac (.PORT_STATUS_AN_DONE ((o - 4) / 65536)), 4, .ro, none, false⟩,
      ⟨.mac (.PORT_STATUS_LP_PAUSE ((o - 4) / 65536)), 5, .ro, none, false⟩,
      ⟨.mac (.PORT_STATUS_LINK_CHG ((o - 4) / 65536)), 7, .w1c, none, false⟩]⟩
  else if 8 ≤ o ∧ (o - 8) / 65536 < 4 ∧ ((o - 8) % 65536) = 0 then
    some ⟨false, [⟨.mac (.FRAME_MAX_LEN ((o - 8) / 65536)), 0, .rwl, some (64, 9600), false⟩]⟩
  else if 12 ≤ o ∧ (o - 12) / 65536 < 4 ∧ ((o - 12) % 65536) = 0 then
    some ⟨false, [⟨.mac (.TAG_CTRL_STRIP ((o - 12) / 65536)), 0, .rwl, some (0, 2), false⟩,
      ⟨.mac (.TAG_CTRL_TPID_X_EN ((o - 12) / 65536)), 2, .rwl, none, false⟩,
      ⟨.mac (.TAG_CTRL_TPID_X ((o - 12) / 65536)), 16, .rwl, none, false⟩]⟩
  else if 16 ≤ o ∧ (o - 16) / 65536 < 4 ∧ ((o - 16) % 65536) = 0 then
    some ⟨false, [⟨.mac (.AN_ERR_DUPLEX ((o - 16) / 65536)), 0, .rw, none, false⟩,
      ⟨.mac (.AN_ERR_RESTART ((o - 16) / 65536)), 16, .rw, none, false⟩]⟩
  else if 256 ≤ o ∧ (o - 256) / 65536 < 4 ∧ ((o - 256) % 65536) / 8 < 16 ∧ (((o - 256) % 65536) % 8) = 0 then
    some ⟨false, [⟨.mac (.UC_ADDR_LO_ADDR_0_3 ((o - 256) / 65536) (((o - 256) % 65536) / 8)), 0, .rwl, none, false⟩]⟩
  else if 260 ≤ o ∧ (o - 260) / 65536 < 4 ∧ ((o - 260) % 65536) / 8 < 16 ∧ (((o - 260) % 65536) % 8) = 0 then
    some ⟨false, [⟨.mac (.UC_ADDR_HI_ADDR_4_5 ((o - 260) / 65536) (((o - 260) % 65536) / 8)), 0, .rwl, none, false⟩,
      ⟨.mac (.UC_ADDR_HI_VALID ((o - 260) / 65536) (((o - 260) % 65536) / 8)), 31, .rwl, none, false⟩]⟩
  else if 512 ≤ o ∧ (o - 512) / 65536 < 4 ∧ ((o - 512) % 65536) / 4 < 16 ∧ (((o - 512) % 65536) % 4) = 0 then
    some ⟨false, [⟨.mac (.MC_HASH_BITS ((o - 512) / 65536) (((o - 512) % 65536) / 4)), 0, .rwl, none, false⟩]⟩
  else if 768 ≤ o ∧ (o - 768) / 65536 < 4 ∧ ((o - 768) % 65536) = 0 then
    some ⟨false, [⟨.mac (.TXQ_ROLE_SCHED ((o - 768) / 65536) 0), 0, .rwl, none, false⟩,
      ⟨.mac (.TXQ_ROLE_SCHED ((o - 768) / 65536) 1), 2, .rwl, none, false⟩,
      ⟨.mac (.TXQ_ROLE_SCHED ((o - 768) / 65536) 2), 4, .rwl, none, false⟩,
      ⟨.mac (.TXQ_ROLE_SCHED ((o - 768) / 65536) 3), 6, .rwl, none, false⟩,
      ⟨.mac (.TXQ_ROLE_SCHED ((o - 768) / 65536) 4), 8, .rwl, none, false⟩,
      ⟨.mac (.TXQ_ROLE_SCHED ((o - 768) / 65536) 5), 10, .rwl, none, false⟩,
      ⟨.mac (.TXQ_ROLE_SCHED ((o - 768) / 65536) 6), 12, .rwl, none, false⟩,
      ⟨.mac (.TXQ_ROLE_SCHED ((o - 768) / 65536) 7), 14, .rwl, none, false⟩,
      ⟨.mac (.TXQ_ROLE_CMD ((o - 768) / 65536) 0), 1, .rwl, none, false⟩,
      ⟨.mac (.TXQ_ROLE_CMD ((o - 768) / 65536) 1), 3, .rwl, none, false⟩,
      ⟨.mac (.TXQ_ROLE_CMD ((o - 768) / 65536) 2), 5, .rwl, none, false⟩,
      ⟨.mac (.TXQ_ROLE_CMD ((o - 768) / 65536) 3), 7, .rwl, none, false⟩,
      ⟨.mac (.TXQ_ROLE_CMD ((o - 768) / 65536) 4), 9, .rwl, none, false⟩,
      ⟨.mac (.TXQ_ROLE_CMD ((o - 768) / 65536) 5), 11, .rwl, none, false⟩,
      ⟨.mac (.TXQ_ROLE_CMD ((o - 768) / 65536) 6), 13, .rwl, none, false⟩,
      ⟨.mac (.TXQ_ROLE_CMD ((o - 768) / 65536) 7), 15, .rwl, none, false⟩]⟩
  else if 800 ≤ o ∧ (o - 800) / 65536 < 4 ∧ ((o - 800) % 65536) / 4 < 8 ∧ (((o - 800) % 65536) % 4) = 0 then
    some ⟨false, [⟨.mac (.TXQ_SHAPE_RATE ((o - 800) / 65536) (((o - 800) % 65536) / 4)), 0, .rwl, none, false⟩,
      ⟨.mac (.TXQ_SHAPE_BURST ((o - 800) / 65536) (((o - 800) % 65536) / 4)), 16, .rwl, none, false⟩]⟩
  else if 1024 ≤ o ∧ (o - 1024) / 65536 < 4 ∧ ((o - 1024) % 65536) = 0 then
    some ⟨false, [⟨.mac (.FC_CTRL_TX_MODE ((o - 1024) / 65536)), 0, .rwl, some (0, 2), false⟩,
      ⟨.mac (.FC_CTRL_XOFF_LINES ((o - 1024) / 65536)), 8, .rwl, none, false⟩,
      ⟨.mac (.FC_CTRL_XON_LINES ((o - 1024) / 65536)), 16, .rwl, none, false⟩,
      ⟨.mac (.FC_CTRL_PFC_TX_PRIO ((o - 1024) / 65536)), 24, .rwl, none, false⟩]⟩
  else if 1028 ≤ o ∧ (o - 1028) / 65536 < 4 ∧ ((o - 1028) % 65536) = 0 then
    some ⟨false, [⟨.mac (.FC_QUANTA_QUANTA ((o - 1028) / 65536)), 0, .rwl, none, false⟩]⟩
  else if 1032 ≤ o ∧ (o - 1032) / 65536 < 4 ∧ ((o - 1032) % 65536) = 0 then
    some ⟨false, [⟨.mac (.PFC_QMAP_Q ((o - 1032) / 65536) 0), 0, .rwl, none, false⟩,
      ⟨.mac (.PFC_QMAP_Q ((o - 1032) / 65536) 1), 3, .rwl, none, false⟩,
      ⟨.mac (.PFC_QMAP_Q ((o - 1032) / 65536) 2), 6, .rwl, none, false⟩,
      ⟨.mac (.PFC_QMAP_Q ((o - 1032) / 65536) 3), 9, .rwl, none, false⟩,
      ⟨.mac (.PFC_QMAP_Q ((o - 1032) / 65536) 4), 12, .rwl, none, false⟩,
      ⟨.mac (.PFC_QMAP_Q ((o - 1032) / 65536) 5), 15, .rwl, none, false⟩,
      ⟨.mac (.PFC_QMAP_Q ((o - 1032) / 65536) 6), 18, .rwl, none, false⟩,
      ⟨.mac (.PFC_QMAP_Q ((o - 1032) / 65536) 7), 21, .rwl, none, false⟩]⟩
  else if o = 61440 then
    some ⟨false, [⟨.mac (.MDIO_CFG_DIV), 0, .rw, some (7, 255), false⟩,
      ⟨.mac (.MDIO_CFG_IRQ_EN), 8, .rw, none, false⟩]⟩
  else if o = 61444 then
    some ⟨false, [⟨.mac (.MDIO_CMD_WDATA), 0, .wo, none, true⟩,
      ⟨.mac (.MDIO_CMD_REG_DEV), 16, .wo, none, true⟩,
      ⟨.mac (.MDIO_CMD_PHYAD), 21, .wo, none, true⟩,
      ⟨.mac (.MDIO_CMD_OP), 26, .wo, none, true⟩,
      ⟨.mac (.MDIO_CMD_C45), 28, .wo, none, true⟩]⟩
  else if o = 61448 then
    some ⟨false, [⟨.mac (.MDIO_STATUS_DATA), 0, .ro, none, false⟩,
      ⟨.mac (.MDIO_STATUS_BUSY), 16, .ro, none, false⟩,
      ⟨.mac (.MDIO_STATUS_REFUSED), 24, .rw, none, false⟩]⟩
  else if 2048 ≤ o ∧ (o - 2048) / 65536 < 4 ∧ ((o - 2048) % 65536) / 4 < 21 ∧ (((o - 2048) % 65536) % 4) = 0 then
    some ⟨false, [⟨.mac (.CNT_COUNT ((o - 2048) / 65536) (((o - 2048) % 65536) / 4)), 0, .rw, none, false⟩]⟩
  else none

/-- The registers of block PAR, by offset from the block's base (R584). -/
def regParAt (o : Nat) : Option RegAt :=
  if o / 1024 < 4 ∧ (o % 1024) = 0 then
    some ⟨false, [⟨.par (.PORT_CFG_PRIMARY (o / 1024)), 0, .rwl, none, false⟩,
      ⟨.par (.PORT_CFG_FRAG_MODE (o / 1024)), 1, .rwl, some (0, 1), false⟩,
      ⟨.par (.PORT_CFG_ROOT (o / 1024)), 8, .rwl, none, false⟩,
      ⟨.par (.PORT_CFG_MAX_BYTES (o / 1024)), 16, .rwl, some (1, 256), false⟩,
      ⟨.par (.PORT_CFG_MAX_HDRS (o / 1024)), 25, .rwl, some (1, 10), false⟩]⟩
  else if 4 ≤ o ∧ (o - 4) / 1024 < 4 ∧ ((o - 4) % 1024) = 0 then
    some ⟨false, [⟨.par (.PORT_DEFAULT_NOMATCH_CLASS ((o - 4) / 1024)), 0, .rwl, none, false⟩,
      ⟨.par (.PORT_DEFAULT_NOMATCH_DROP ((o - 4) / 1024)), 8, .rwl, none, false⟩,
      ⟨.par (.PORT_DEFAULT_FAIL_CLASS ((o - 4) / 1024)), 16, .rwl, none, false⟩,
      ⟨.par (.PORT_DEFAULT_FAIL_DROP ((o - 4) / 1024)), 24, .rwl, none, false⟩]⟩
  else if 8 ≤ o ∧ (o - 8) / 1024 < 4 ∧ ((o - 8) % 1024) = 0 then
    some ⟨false, [⟨.par (.FX_PROFILE_PROFILE ((o - 8) / 1024)), 0, .rwl, none, false⟩]⟩
  else if 12 ≤ o ∧ (o - 12) / 1024 < 4 ∧ ((o - 12) % 1024) = 0 then
    some ⟨false, [⟨.par (.LAST_FAIL_REASON ((o - 12) / 1024)), 0, .ro, none, false⟩,
      ⟨.par (.LAST_FAIL_NODE ((o - 12) / 1024)), 4, .ro, none, false⟩,
      ⟨.par (.LAST_FAIL_OFFSET ((o - 12) / 1024)), 12, .ro, none, false⟩,
      ⟨.par (.LAST_FAIL_VALID ((o - 12) / 1024)), 31, .w1c, none, false⟩]⟩
  else if 16 ≤ o ∧ (o - 16) / 1024 < 4 ∧ ((o - 16) % 1024) = 0 then
    some ⟨false, [⟨.par (.DP_LOG_DIFF ((o - 16) / 1024)), 0, .ro, none, false⟩,
      ⟨.par (.DP_LOG_SEC_FAIL ((o - 16) / 1024)), 8, .ro, none, false⟩,
      ⟨.par (.DP_LOG_MASK_ZERO ((o - 16) / 1024)), 9, .ro, none, false⟩,
      ⟨.par (.DP_LOG_VALID ((o - 16) / 1024)), 31, .w1c, none, false⟩]⟩
  else if 64 ≤ o ∧ (o - 64) / 1024 < 4 ∧ ((o - 64) % 1024) / 4 < 16 ∧ (((o - 64) % 1024) % 4) = 0 then
    some ⟨false, [⟨.par (.FX_WIN_OFFSET ((o - 64) / 1024) (((o - 64) % 1024) / 4)), 0, .rwl, none, false⟩,
      ⟨.par (.FX_WIN_BIT ((o - 64) / 1024) (((o - 64) % 1024) / 4)), 8, .rwl, none, false⟩,
      ⟨.par (.FX_WIN_WIDTH ((o - 64) / 1024) (((o - 64) % 1024) / 4)), 16, .rwl, some (0, 32), false⟩,
      ⟨.par (.FX_WIN_DEST ((o - 64) / 1024) (((o - 64) % 1024) / 4)), 24, .rwl, none, false⟩]⟩
  else if 128 ≤ o ∧ (o - 128) / 1024 < 4 ∧ ((o - 128) % 1024) / 4 < 8 ∧ (((o - 128) % 1024) % 4) = 0 then
    some ⟨false, [⟨.par (.SAFE_MASK_MASK ((o - 128) / 1024) (((o - 128) % 1024) / 4)), 0, .rwl, none, false⟩]⟩
  else if o = 4096 then
    some ⟨false, [⟨.par (.FRAG_CFG_AGE_TICKS), 0, .rwl, some (1, 65535), false⟩,
      ⟨.par (.FRAG_CFG_FREE_ON_LAST), 16, .rwl, none, false⟩]⟩
  else if o = 4100 then
    some ⟨false, [⟨.par (.FRAG_STATUS_OCCUPANCY), 0, .ro, none, false⟩]⟩
  else if o = 4104 then
    some ⟨false, [⟨.par (.FRAG_EVICT_CNT_COUNT), 0, .rw, none, false⟩]⟩
  else if 256 ≤ o ∧ (o - 256) / 1024 < 4 ∧ ((o - 256) % 1024) / 4 < 12 ∧ (((o - 256) % 1024) % 4) = 0 then
    some ⟨false, [⟨.par (.CNT_COUNT ((o - 256) / 1024) (((o - 256) % 1024) / 4)), 0, .rw, none, false⟩]⟩
  else none

/-- The registers of block ENG, by offset from the block's base (R584). -/
def regEngAt (o : Nat) : Option RegAt :=
  if o / 65536 < 8 ∧ (o % 65536) = 0 then
    some ⟨false, [⟨.eng (.PAIR_CFG_MODE (o / 65536)), 0, .rwl, none, false⟩,
      ⟨.eng (.PAIR_CFG_BE_EN (o / 65536)), 1, .rwl, none, false⟩,
      ⟨.eng (.PAIR_CFG_TXC_EN (o / 65536)), 2, .rwl, none, false⟩]⟩
  else if 4 ≤ o ∧ (o - 4) / 65536 < 8 ∧ ((o - 4) % 65536) = 0 then
    some ⟨false, [⟨.eng (.PAIR_STATUS_STATE_A ((o - 4) / 65536)), 0, .ro, none, false⟩,
      ⟨.eng (.PAIR_STATUS_STATE_B ((o - 4) / 65536)), 3, .ro, none, false⟩,
      ⟨.eng (.PAIR_STATUS_LS_MISMATCH ((o - 4) / 65536)), 6, .w1c, none, false⟩,
      ⟨.eng (.PAIR_STATUS_EXC ((o - 4) / 65536)), 7, .w1c, none, false⟩]⟩
  else if 16 ≤ o ∧ (o - 16) / 65536 < 8 ∧ ((o - 16) % 65536) / 8 < 2 ∧ (((o - 16) % 65536) % 8) = 0 then
    some ⟨false, [⟨.eng (.EXC_LOG_CODE ((o - 16) / 65536) (((o - 16) % 65536) / 8)), 0, .ro, none, false⟩,
      ⟨.eng (.EXC_LOG_PC ((o - 16) / 65536) (((o - 16) % 65536) / 8)), 4, .ro, none, false⟩,
      ⟨.eng (.EXC_LOG_SLOT ((o - 16) / 65536) (((o - 16) % 65536) / 8)), 18, .ro, none, false⟩,
      ⟨.eng (.EXC_LOG_BEST_EFFORT ((o - 16) / 65536) (((o - 16) % 65536) / 8)), 24, .ro, none, false⟩,
      ⟨.eng (.EXC_LOG_VALID ((o - 16) / 65536) (((o - 16) % 65536) / 8)), 31, .w1c, none, false⟩]⟩
  else if 20 ≤ o ∧ (o - 20) / 65536 < 8 ∧ ((o - 20) % 65536) / 8 < 2 ∧ (((o - 20) % 65536) % 8) = 0 then
    some ⟨false, [⟨.eng (.EXC_ADDR_ADDR ((o - 20) / 65536) (((o - 20) % 65536) / 8)), 0, .ro, none, false⟩]⟩
  else if 32 ≤ o ∧ (o - 32) / 65536 < 8 ∧ ((o - 32) % 65536) = 0 then
    some ⟨false, [⟨.eng (.LS_LOG_PC ((o - 32) / 65536)), 0, .ro, none, false⟩,
      ⟨.eng (.LS_LOG_UNDER_D2 ((o - 32) / 65536)), 14, .ro, none, false⟩,
      ⟨.eng (.LS_LOG_VALID ((o - 32) / 65536)), 31, .w1c, none, false⟩]⟩
  else if 36 ≤ o ∧ (o - 36) / 65536 < 8 ∧ ((o - 36) % 65536) = 0 then
    some ⟨false, [⟨.eng (.TXC_STATUS_OCCUPANCY ((o - 36) / 65536)), 0, .ro, none, false⟩]⟩
  else if 524288 ≤ o ∧ (o - 524288) / 4 < 16 ∧ ((o - 524288) % 4) = 0 then
    some ⟨false, [⟨.eng (.BE_BIND_CLASS ((o - 524288) / 4)), 0, .rwl, none, false⟩,
      ⟨.eng (.BE_BIND_PAIRS ((o - 524288) / 4)), 8, .rwl, none, false⟩,
      ⟨.eng (.BE_BIND_PROGRAM ((o - 524288) / 4)), 16, .rwl, none, false⟩,
      ⟨.eng (.BE_BIND_VALID ((o - 524288) / 4)), 31, .rwl, none, false⟩]⟩
  else if o = 524352 then
    some ⟨false, [⟨.eng (.BE_CFG_MAX_PREEMPT), 0, .rwl, some (1, 15), false⟩]⟩
  else if o = 524356 then
    some ⟨false, [⟨.eng (.UNSERVED_CNT_COUNT), 0, .rw, none, false⟩]⟩
  else if 256 ≤ o ∧ (o - 256) / 65536 < 8 ∧ ((o - 256) % 65536) / 4 < 7 ∧ (((o - 256) % 65536) % 4) = 0 then
    some ⟨false, [⟨.eng (.CNT_COUNT ((o - 256) / 65536) (((o - 256) % 65536) / 4)), 0, .rw, none, false⟩]⟩
  else none

/-- The registers of block CRY, by offset from the block's base (R584). -/
def regCryAt (o : Nat) : Option RegAt :=
  if o = 0 then
    some ⟨false, [⟨.cry (.CTRL_EN), 0, .rw, none, false⟩,
      ⟨.cry (.CTRL_IRQ_EN), 1, .rw, none, false⟩]⟩
  else if o = 4 then
    some ⟨false, [⟨.cry (.STATUS_SOFT), 0, .w1c, none, false⟩,
      ⟨.cry (.STATUS_EXPIRED), 1, .w1c, none, false⟩,
      ⟨.cry (.STATUS_PEER_CHG), 2, .w1c, none, false⟩,
      ⟨.cry (.STATUS_KEY_ERR), 3, .w1c, none, false⟩,
      ⟨.cry (.STATUS_CMD_DONE), 4, .w1c, none, false⟩]⟩
  else if o = 8 then
    some ⟨false, [⟨.cry (.EVENT_LOG_SA), 0, .ro, none, false⟩,
      ⟨.cry (.EVENT_LOG_CAUSE), 16, .ro, none, false⟩,
      ⟨.cry (.EVENT_LOG_VALID), 31, .w1c, none, false⟩]⟩
  else if o = 16 then
    some ⟨false, [⟨.cry (.SA_CMD_INDEX), 0, .wo, none, true⟩,
      ⟨.cry (.SA_CMD_OP), 16, .wo, none, true⟩]⟩
  else if o = 20 then
    some ⟨false, [⟨.cry (.SA_CMD_STATUS_BUSY), 0, .ro, none, false⟩,
      ⟨.cry (.SA_CMD_STATUS_RESULT), 1, .ro, none, false⟩,
      ⟨.cry (.SA_CMD_STATUS_BUSY_CNT), 16, .rw, none, false⟩]⟩
  else if o = 24 then
    some ⟨false, [⟨.cry (.PIPE_STATUS_OCC0), 0, .ro, none, false⟩,
      ⟨.cry (.PIPE_STATUS_OCC1), 8, .ro, none, false⟩]⟩
  else if 256 ≤ o ∧ (o - 256) / 4 < 32 ∧ ((o - 256) % 4) = 0 then
    some ⟨false, [⟨.cry (.SA_STAGE_DATA ((o - 256) / 4)), 0, .rw, none, false⟩]⟩
  else if 512 ≤ o ∧ (o - 512) / 4 < 10 ∧ ((o - 512) % 4) = 0 then
    some ⟨false, [⟨.cry (.KEY_STAGE_DATA ((o - 512) / 4)), 0, .wo, none, false⟩]⟩
  else if 1024 ≤ o ∧ (o - 1024) / 4 < 12 ∧ ((o - 1024) % 4) = 0 then
    some ⟨false, [⟨.cry (.CNT_COUNT ((o - 1024) / 4)), 0, .rw, none, false⟩]⟩
  else none

/-- The registers of block NVT, by offset from the block's base (R584). -/
def regNvtAt (o : Nat) : Option RegAt :=
  if o = 0 then
    some ⟨false, [⟨.nvt (.CTRL_EN), 0, .rw, none, false⟩,
      ⟨.nvt (.CTRL_IRQ_EN), 1, .rw, none, false⟩]⟩
  else if o = 4 then
    some ⟨false, [⟨.nvt (.STATUS_CONN_CHG), 0, .w1c, none, false⟩,
      ⟨.nvt (.STATUS_CMD_TMO), 1, .w1c, none, false⟩,
      ⟨.nvt (.STATUS_PATH_DOWN), 2, .w1c, none, false⟩]⟩
  else if o = 16 then
    some ⟨true, [⟨.nvt (.DISCARD_LOG_TAG), 0, .ro, none, false⟩]⟩
  else if o = 24 then
    some ⟨false, [⟨.nvt (.DISCARD_INFO_CAUSE), 0, .ro, none, false⟩,
      ⟨.nvt (.DISCARD_INFO_QP), 4, .ro, none, false⟩,
      ⟨.nvt (.DISCARD_INFO_VALID), 31, .w1c, none, false⟩]⟩
  else if 4096 ≤ o ∧ (o - 4096) / 64 < 16 ∧ ((o - 4096) % 64) = 0 then
    some ⟨false, [⟨.nvt (.CONN_CFG_V6 ((o - 4096) / 64)), 0, .rw, none, false⟩,
      ⟨.nvt (.CONN_CFG_IO ((o - 4096) / 64)), 1, .rw, none, false⟩,
      ⟨.nvt (.CONN_CFG_CTRLR ((o - 4096) / 64)), 2, .rw, none, false⟩,
      ⟨.nvt (.CONN_CFG_HDGST ((o - 4096) / 64)), 5, .rw, none, false⟩,
      ⟨.nvt (.CONN_CFG_DDGST ((o - 4096) / 64)), 6, .rw, none, false⟩,
      ⟨.nvt (.CONN_CFG_TX_CLASS ((o - 4096) / 64)), 8, .rw, none, false⟩,
      ⟨.nvt (.CONN_CFG_SNDBUF ((o - 4096) / 64)), 16, .rw, some (16, 128), false⟩]⟩
  else if 4100 ≤ o ∧ (o - 4100) / 64 < 16 ∧ ((o - 4100) % 64) = 0 then
    some ⟨false, [⟨.nvt (.CONN_PORTS_LOCAL_PORT ((o - 4100) / 64)), 0, .rw, none, false⟩,
      ⟨.nvt (.CONN_PORTS_REMOTE_PORT ((o - 4100) / 64)), 16, .rw, none, false⟩]⟩
  else if 4104 ≤ o ∧ (o - 4104) / 64 < 16 ∧ ((o - 4104) % 64) = 0 then
    some ⟨false, [⟨.nvt (.CONN_TCP_MSS ((o - 4104) / 64)), 0, .rw, some (536, 8960), false⟩,
      ⟨.nvt (.CONN_TCP_MAX_RETX ((o - 4104) / 64)), 16, .rw, some (1, 15), false⟩,
      ⟨.nvt (.CONN_TCP_RTO_MIN ((o - 4104) / 64)), 20, .rw, some (10, 4095), false⟩]⟩
  else if 4108 ≤ o ∧ (o - 4108) / 64 < 16 ∧ ((o - 4108) % 64) = 0 then
    some ⟨false, [⟨.nvt (.CONN_ICD_ICD_MAX ((o - 4108) / 64)), 0, .rw, some (0, 8192), false⟩,
      ⟨.nvt (.CONN_ICD_OPEN_TMO ((o - 4108) / 64)), 16, .rw, some (1, 65535), false⟩]⟩
  else if 4112 ≤ o ∧ (o - 4112) / 64 < 16 ∧ ((o - 4112) % 64) / 4 < 4 ∧ (((o - 4112) % 64) % 4) = 0 then
    some ⟨false, [⟨.nvt (.CONN_LOCAL_ADDR_ADDR ((o - 4112) / 64) (((o - 4112) % 64) / 4)), 0, .rw, none, false⟩]⟩
  else if 4128 ≤ o ∧ (o - 4128) / 64 < 16 ∧ ((o - 4128) % 64) / 4 < 4 ∧ (((o - 4128) % 64) % 4) = 0 then
    some ⟨false, [⟨.nvt (.CONN_REMOTE_ADDR_ADDR ((o - 4128) / 64) (((o - 4128) % 64) / 4)), 0, .rw, none, false⟩]⟩
  else if 4144 ≤ o ∧ (o - 4144) / 64 < 16 ∧ ((o - 4144) % 64) = 0 then
    some ⟨false, [⟨.nvt (.CONN_CMD_OP ((o - 4144) / 64)), 0, .wo, none, true⟩]⟩
  else if 4148 ≤ o ∧ (o - 4148) / 64 < 16 ∧ ((o - 4148) % 64) = 0 then
    some ⟨false, [⟨.nvt (.CONN_STATE_STATE ((o - 4148) / 64)), 0, .ro, none, false⟩,
      ⟨.nvt (.CONN_STATE_LAST_ERR ((o - 4148) / 64)), 4, .ro, none, false⟩,
      ⟨.nvt (.CONN_STATE_CIDS ((o - 4148) / 64)), 8, .ro, none, false⟩,
      ⟨.nvt (.CONN_STATE_RTO_CUR ((o - 4148) / 64)), 16, .ro, none, false⟩]⟩
  else if 4152 ≤ o ∧ (o - 4152) / 64 < 16 ∧ ((o - 4152) % 64) = 0 then
    some ⟨false, [⟨.nvt (.CONN_MAXH2C_BYTES ((o - 4152) / 64)), 0, .ro, none, false⟩]⟩
  else if 8192 ≤ o ∧ (o - 8192) / 16 < 64 ∧ ((o - 8192) % 16) = 0 then
    some ⟨false, [⟨.nvt (.QP_CFG_FUNC ((o - 8192) / 16)), 0, .rw, none, false⟩,
      ⟨.nvt (.QP_CFG_RING ((o - 8192) / 16)), 6, .rw, none, false⟩,
      ⟨.nvt (.QP_CFG_CONN_A ((o - 8192) / 16)), 14, .rw, none, false⟩,
      ⟨.nvt (.QP_CFG_CONN_B ((o - 8192) / 16)), 18, .rw, none, false⟩,
      ⟨.nvt (.QP_CFG_MIRROR ((o - 8192) / 16)), 22, .rw, none, false⟩,
      ⟨.nvt (.QP_CFG_VALID ((o - 8192) / 16)), 23, .rw, none, false⟩,
      ⟨.nvt (.QP_CFG_MAX_OUT ((o - 8192) / 16)), 24, .rw, some (1, 64), false⟩]⟩
  else if 8196 ≤ o ∧ (o - 8196) / 16 < 64 ∧ ((o - 8196) % 16) = 0 then
    some ⟨false, [⟨.nvt (.QP_TMO_CMD_TMO ((o - 8196) / 16)), 0, .rw, some (1, 65535), false⟩]⟩
  else if 8200 ≤ o ∧ (o - 8200) / 16 < 64 ∧ ((o - 8200) % 16) = 0 then
    some ⟨false, [⟨.nvt (.QP_STATUS_OUTSTANDING ((o - 8200) / 16)), 0, .ro, none, false⟩,
      ⟨.nvt (.QP_STATUS_PATH_DOWN ((o - 8200) / 16)), 7, .ro, none, false⟩]⟩
  else if 12288 ≤ o ∧ (o - 12288) / 4 < 9 ∧ ((o - 12288) % 4) = 0 then
    some ⟨false, [⟨.nvt (.CNT_COUNT ((o - 12288) / 4)), 0, .rw, none, false⟩]⟩
  else none

/-- The registers of block TIM, by offset from the block's base (R584). -/
def regTimAt (o : Nat) : Option RegAt :=
  if o = 0 then
    some ⟨false, [⟨.tim (.CTRL_STEP_EN), 0, .rw, none, false⟩,
      ⟨.tim (.CTRL_HOLD_PPS), 1, .rw, none, false⟩,
      ⟨.tim (.CTRL_TOD_STEP_EN), 2, .rw, none, false⟩,
      ⟨.tim (.CTRL_IRQ_EN), 3, .rw, none, false⟩]⟩
  else if o = 4 then
    some ⟨false, [⟨.tim (.STATUS_STATE), 0, .ro, none, false⟩,
      ⟨.tim (.STATUS_STEPPED), 2, .w1c, none, false⟩,
      ⟨.tim (.STATUS_LOCK_CHG), 3, .w1c, none, false⟩,
      ⟨.tim (.STATUS_TOD_MISMATCH), 4, .w1c, none, false⟩,
      ⟨.tim (.STATUS_PPS_LOST), 5, .w1c, none, false⟩,
      ⟨.tim (.STATUS_TS_OVF), 6, .w1c, none, false⟩]⟩
  else if o = 8 then
    some ⟨true, [⟨.tim (.NOW_SEC_SEC), 0, .ro, none, false⟩]⟩
  else if o = 16 then
    some ⟨false, [⟨.tim (.NOW_NS_NS), 0, .ro, none, false⟩]⟩
  else if o = 24 then
    some ⟨false, [⟨.tim (.FREQ_ADJ_ADJ), 0, .rw, none, true⟩]⟩
  else if o = 28 then
    some ⟨false, [⟨.tim (.STEP_NS_NS), 0, .rw, none, false⟩]⟩
  else if o = 32 then
    some ⟨false, [⟨.tim (.STEP_SEC_SEC), 0, .rw, none, false⟩]⟩
  else if o = 36 then
    some ⟨false, [⟨.tim (.STEP_CTRL_GO), 0, .w1s, none, true⟩]⟩
  else if o = 40 then
    some ⟨false, [⟨.tim (.PTP_SAMPLE_E), 0, .wo, none, true⟩]⟩
  else if o = 44 then
    some ⟨false, [⟨.tim (.LOOP_KP_SHIFT), 0, .rw, none, false⟩,
      ⟨.tim (.LOOP_KI_SHIFT), 8, .rw, none, false⟩]⟩
  else if o = 48 then
    some ⟨false, [⟨.tim (.LOCK_LOCK_NS), 0, .rw, none, false⟩,
      ⟨.tim (.LOCK_LOCK_CNT), 16, .rw, some (1, 15), false⟩,
      ⟨.tim (.LOCK_LOSS), 20, .rw, some (1, 4095), false⟩]⟩
  else if o = 52 then
    some ⟨false, [⟨.tim (.STEP_THR_NS), 0, .rw, none, false⟩]⟩
  else if o = 56 then
    some ⟨false, [⟨.tim (.INTEG_I), 0, .ro, none, false⟩]⟩
  else if o = 60 then
    some ⟨false, [⟨.tim (.LAST_E_E), 0, .ro, none, false⟩]⟩
  else if o = 64 then
    some ⟨false, [⟨.tim (.PPS_CTRL_IN_EN), 0, .rw, none, false⟩,
      ⟨.tim (.PPS_CTRL_OUT_EN), 1, .rw, none, false⟩,
      ⟨.tim (.PPS_CTRL_GATE_UNLOCKED), 2, .rw, none, false⟩,
      ⟨.tim (.PPS_CTRL_WIDTH), 8, .rw, some (1, 255), false⟩]⟩
  else if o = 68 then
    some ⟨false, [⟨.tim (.PPS_OFFSET_NS), 0, .rw, none, false⟩]⟩
  else if o = 72 then
    some ⟨true, [⟨.tim (.PPS_CAP_SEC_SEC), 0, .ro, none, false⟩]⟩
  else if o = 80 then
    some ⟨false, [⟨.tim (.PPS_CAP_NS_NS), 0, .ro, none, false⟩,
      ⟨.tim (.PPS_CAP_NS_HALF), 30, .ro, none, false⟩,
      ⟨.tim (.PPS_CAP_NS_VALID), 31, .w1c, none, false⟩]⟩
  else if o = 84 then
    some ⟨false, [⟨.tim (.PPS_BIAS_BIAS), 0, .ro, none, false⟩]⟩
  else if o = 88 then
    some ⟨false, [⟨.tim (.UART_BAUD), 0, .rw, some (0, 5), false⟩,
      ⟨.tim (.UART_EN), 3, .rw, none, false⟩]⟩
  else if o = 92 then
    some ⟨false, [⟨.tim (.UTC_OFFSET_S), 0, .rw, none, false⟩]⟩
  else if o = 96 then
    some ⟨true, [⟨.tim (.TOD_SEC), 0, .ro, none, false⟩]⟩
  else if 128 ≤ o ∧ (o - 128) / 4 < 10 ∧ ((o - 128) % 4) = 0 then
    some ⟨false, [⟨.tim (.CNT_COUNT ((o - 128) / 4)), 0, .rw, none, false⟩]⟩
  else if 4096 ≤ o ∧ (o - 4096) / 256 < 4 ∧ ((o - 4096) % 256) = 0 then
    some ⟨false, [⟨.tim (.PTP_PORT_EN ((o - 4096) / 256)), 0, .rw, none, false⟩,
      ⟨.tim (.PTP_PORT_ONE_STEP ((o - 4096) / 256)), 1, .rw, none, false⟩]⟩
  else if 4100 ≤ o ∧ (o - 4100) / 256 < 4 ∧ ((o - 4100) % 256) = 0 then
    some ⟨false, [⟨.tim (.RX_EXT_DELAY ((o - 4100) / 256)), 0, .rw, none, false⟩]⟩
  else if 4104 ≤ o ∧ (o - 4104) / 256 < 4 ∧ ((o - 4104) % 256) = 0 then
    some ⟨false, [⟨.tim (.TX_EXT_DELAY ((o - 4104) / 256)), 0, .rw, none, false⟩]⟩
  else if 4112 ≤ o ∧ (o - 4112) / 256 < 4 ∧ ((o - 4112) % 256) = 0 then
    some ⟨true, [⟨.tim (.RXTS_POP_SEQ_ID ((o - 4112) / 256)), 0, .ro, none, false⟩,
      ⟨.tim (.RXTS_POP_MSG_TYPE ((o - 4112) / 256)), 16, .ro, none, false⟩,
      ⟨.tim (.RXTS_POP_DOMAIN ((o - 4112) / 256)), 20, .ro, none, false⟩,
      ⟨.tim (.RXTS_POP_VALID ((o - 4112) / 256)), 28, .ro, none, false⟩,
      ⟨.tim (.RXTS_POP_ONE_STEP ((o - 4112) / 256)), 29, .ro, none, false⟩,
      ⟨.tim (.RXTS_POP_STOMPED ((o - 4112) / 256)), 30, .ro, none, false⟩]⟩
  else if 4144 ≤ o ∧ (o - 4144) / 256 < 4 ∧ ((o - 4144) % 256) = 0 then
    some ⟨true, [⟨.tim (.TXTS_POP_SEQ_ID ((o - 4144) / 256)), 0, .ro, none, false⟩,
      ⟨.tim (.TXTS_POP_MSG_TYPE ((o - 4144) / 256)), 16, .ro, none, false⟩,
      ⟨.tim (.TXTS_POP_DOMAIN ((o - 4144) / 256)), 20, .ro, none, false⟩,
      ⟨.tim (.TXTS_POP_VALID ((o - 4144) / 256)), 28, .ro, none, false⟩,
      ⟨.tim (.TXTS_POP_ONE_STEP ((o - 4144) / 256)), 29, .ro, none, false⟩,
      ⟨.tim (.TXTS_POP_STOMPED ((o - 4144) / 256)), 30, .ro, none, false⟩]⟩
  else if 4120 ≤ o ∧ (o - 4120) / 256 < 4 ∧ ((o - 4120) % 256) = 0 then
    some ⟨true, [⟨.tim (.RXTS_SEC_SEC ((o - 4120) / 256)), 0, .ro, none, false⟩]⟩
  else if 4152 ≤ o ∧ (o - 4152) / 256 < 4 ∧ ((o - 4152) % 256) = 0 then
    some ⟨true, [⟨.tim (.TXTS_SEC_SEC ((o - 4152) / 256)), 0, .ro, none, false⟩]⟩
  else if 4128 ≤ o ∧ (o - 4128) / 256 < 4 ∧ ((o - 4128) % 256) = 0 then
    some ⟨false, [⟨.tim (.RXTS_NS_NS ((o - 4128) / 256)), 0, .ro, none, false⟩,
      ⟨.tim (.RXTS_NS_HALF ((o - 4128) / 256)), 30, .ro, none, false⟩]⟩
  else if 4160 ≤ o ∧ (o - 4160) / 256 < 4 ∧ ((o - 4160) % 256) = 0 then
    some ⟨false, [⟨.tim (.TXTS_NS_NS ((o - 4160) / 256)), 0, .ro, none, false⟩,
      ⟨.tim (.TXTS_NS_HALF ((o - 4160) / 256)), 30, .ro, none, false⟩]⟩
  else if 4176 ≤ o ∧ (o - 4176) / 256 < 4 ∧ ((o - 4176) % 256) = 0 then
    some ⟨false, [⟨.tim (.PORT_CNT_RX_OVF ((o - 4176) / 256)), 0, .rw, none, false⟩,
      ⟨.tim (.PORT_CNT_TX_OVF ((o - 4176) / 256)), 16, .rw, none, false⟩]⟩
  else none

/-- The registers of block CAL, by offset from the block's base (R584). -/
def regCalAt (o : Nat) : Option RegAt :=
  if o = 0 then
    some ⟨false, [⟨.cal (.CTRL_IRQ_EN), 0, .rw, none, false⟩]⟩
  else if o = 4 then
    some ⟨false, [⟨.cal (.EVT_OVERDUE), 0, .w1c, none, false⟩,
      ⟨.cal (.EVT_OVERDUE2), 1, .w1c, none, false⟩,
      ⟨.cal (.EVT_EYE_LOW), 2, .w1c, none, false⟩,
      ⟨.cal (.EVT_REJECT), 3, .w1c, none, false⟩,
      ⟨.cal (.EVT_VERIFY_FAIL), 4, .w1c, none, false⟩]⟩
  else if o = 8 then
    some ⟨false, [⟨.cal (.CFG_SPREAD_MAX), 0, .rwl, none, false⟩,
      ⟨.cal (.CFG_EYE_MIN_W), 8, .rwl, none, false⟩]⟩
  else if 16 ≤ o ∧ (o - 16) / 4 < 14 ∧ ((o - 16) % 4) = 0 then
    some ⟨false, [⟨.cal (.AGE_MAX_AGE ((o - 16) / 4)), 0, .rwl, none, false⟩]⟩
  else if o = 128 then
    some ⟨false, [⟨.cal (.AGE_STATUS_OVERDUE), 0, .ro, none, false⟩,
      ⟨.cal (.AGE_STATUS_OVERDUE2), 16, .ro, none, false⟩]⟩
  else if o = 132 then
    some ⟨false, [⟨.cal (.LOG_ENTRY), 0, .ro, none, false⟩,
      ⟨.cal (.LOG_CAUSE), 5, .ro, none, false⟩,
      ⟨.cal (.LOG_VALID), 31, .w1c, none, false⟩]⟩
  else if 144 ≤ o ∧ (o - 144) / 4 < 7 ∧ ((o - 144) % 4) = 0 then
    some ⟨false, [⟨.cal (.CNT_COUNT ((o - 144) / 4)), 0, .rw, none, false⟩]⟩
  else none

/-- The registers of block SAF, by offset from the block's base (R584). -/
def regSafAt (o : Nat) : Option RegAt :=
  if o = 0 then
    some ⟨false, [⟨.saf (.CMD_OP), 0, .wo, none, true⟩,
      ⟨.saf (.CMD_SEQ), 16, .wo, none, true⟩]⟩
  else if o = 4 then
    some ⟨false, [⟨.saf (.STATE_STATE), 0, .ro, none, false⟩,
      ⟨.saf (.STATE_STATUS), 4, .ro, none, false⟩,
      ⟨.saf (.STATE_CAUSE), 8, .ro, none, false⟩,
      ⟨.saf (.STATE_SEQ), 16, .ro, none, false⟩]⟩
  else if o = 8 then
    some ⟨false, [⟨.saf (.RESULT_LAST), 0, .ro, none, false⟩,
      ⟨.saf (.RESULT_REFUSED), 8, .rw, none, false⟩]⟩
  else if o = 12 then
    some ⟨false, [⟨.saf (.FAULT_FAULTS), 1, .w1c, none, false⟩]⟩
  else if o = 16 then
    some ⟨false, [⟨.saf (.TRIP_LOG_CODE), 0, .ro, none, false⟩,
      ⟨.saf (.TRIP_LOG_DETAIL), 8, .ro, none, false⟩,
      ⟨.saf (.TRIP_LOG_VALID), 31, .w1c, none, false⟩]⟩
  else if o = 20 then
    some ⟨false, [⟨.saf (.TRIP_TICK_TICK), 0, .ro, none, false⟩]⟩
  else if o = 24 then
    some ⟨false, [⟨.saf (.WARN_WARN), 0, .w1c, none, false⟩]⟩
  else if o = 28 then
    some ⟨false, [⟨.saf (.EVT_TRIP), 0, .w1c, none, false⟩,
      ⟨.saf (.EVT_REARM), 1, .w1c, none, false⟩,
      ⟨.saf (.EVT_WARN), 2, .w1c, none, false⟩,
      ⟨.saf (.EVT_CMD_DONE), 3, .w1c, none, false⟩]⟩
  else if o = 32 then
    some ⟨false, [⟨.saf (.CTRL_RX_CHECK), 0, .rwl, none, false⟩,
      ⟨.saf (.CTRL_TX_CHECK), 1, .rwl, none, false⟩,
      ⟨.saf (.CTRL_SAFE_IN_POL), 2, .rwl, none, false⟩,
      ⟨.saf (.CTRL_IRQ_EN), 8, .rw, none, false⟩]⟩
  else if o = 36 then
    some ⟨false, [⟨.saf (.HA_CFG_MAX_US), 0, .rwl, none, false⟩,
      ⟨.saf (.HA_CFG_MIN_US), 20, .rwl, none, false⟩]⟩
  else if o = 40 then
    some ⟨false, [⟨.saf (.HA_STATUS_EXPIRED), 0, .ro, none, false⟩,
      ⟨.saf (.HA_STATUS_EDGES), 16, .rw, none, false⟩]⟩
  else if o = 44 then
    some ⟨false, [⟨.saf (.MON_STATUS_CLK_FAIL), 0, .ro, none, false⟩,
      ⟨.saf (.MON_STATUS_OSC_FAIL), 7, .ro, none, false⟩,
      ⟨.saf (.MON_STATUS_SCRUB_AGE), 8, .ro, none, false⟩,
      ⟨.saf (.MON_STATUS_PASSES), 16, .ro, none, false⟩]⟩
  else if o = 48 then
    some ⟨false, [⟨.saf (.PIN_STATUS_OUT_A), 0, .ro, none, false⟩,
      ⟨.saf (.PIN_STATUS_OUT_B), 1, .ro, none, false⟩,
      ⟨.saf (.PIN_STATUS_SAFE_IN), 2, .ro, none, false⟩,
      ⟨.saf (.PIN_STATUS_HOST_ALIVE), 3, .ro, none, false⟩,
      ⟨.saf (.PIN_STATUS_READBACK_ERR), 4, .ro, none, false⟩]⟩
  else if o = 52 then
    some ⟨false, [⟨.saf (.CNT_RECOVERIES), 0, .rw, none, false⟩,
      ⟨.saf (.CNT_PAIRS_CLEARED), 16, .rw, none, false⟩]⟩
  else if 256 ≤ o ∧ (o - 256) / 32 < 16 ∧ ((o - 256) % 32) = 0 then
    some ⟨false, [⟨.saf (.BC_CFG_EN ((o - 256) / 32)), 0, .rwl, none, false⟩,
      ⟨.saf (.BC_CFG_DIR ((o - 256) / 32)), 1, .rwl, none, false⟩,
      ⟨.saf (.BC_CFG_PORT ((o - 256) / 32)), 2, .rwl, none, false⟩,
      ⟨.saf (.BC_CFG_SEQ_GAP ((o - 256) / 32)), 8, .rwl, some (1, 255), false⟩,
      ⟨.saf (.BC_CFG_WINDOW ((o - 256) / 32)), 16, .rwl, some (1, 65535), false⟩]⟩
  else if 260 ≤ o ∧ (o - 260) / 32 < 16 ∧ ((o - 260) % 32) = 0 then
    some ⟨false, [⟨.saf (.BC_CONN_ID_ID ((o - 260) / 32)), 0, .rwl, none, false⟩]⟩
  else if 264 ≤ o ∧ (o - 264) / 32 < 16 ∧ ((o - 264) % 32) = 0 then
    some ⟨false, [⟨.saf (.BC_OFFSET_OFFSET ((o - 264) / 32)), 0, .rwl, none, false⟩]⟩
  else if 268 ≤ o ∧ (o - 268) / 32 < 16 ∧ ((o - 268) % 32) = 0 then
    some ⟨false, [⟨.saf (.BC_STATUS_STATE ((o - 268) / 32)), 0, .ro, none, false⟩,
      ⟨.saf (.BC_STATUS_SEQ_VALID ((o - 268) / 32)), 1, .ro, none, false⟩]⟩
  else if 272 ≤ o ∧ (o - 272) / 32 < 16 ∧ ((o - 272) % 32) = 0 then
    some ⟨false, [⟨.saf (.BC_LAST_SEQ_SEQ ((o - 272) / 32)), 0, .ro, none, false⟩]⟩
  else if 276 ≤ o ∧ (o - 276) / 32 < 16 ∧ ((o - 276) % 32) = 0 then
    some ⟨false, [⟨.saf (.BC_LAST_TICK_TICK ((o - 276) / 32)), 0, .ro, none, false⟩]⟩
  else if 280 ≤ o ∧ (o - 280) / 32 < 16 ∧ ((o - 280) % 32) = 0 then
    some ⟨false, [⟨.saf (.BC_CNT_CRC_ERR ((o - 280) / 32)), 0, .rw, none, false⟩,
      ⟨.saf (.BC_CNT_SEQ_ERR ((o - 280) / 32)), 8, .rw, none, false⟩,
      ⟨.saf (.BC_CNT_LEN_ERR ((o - 280) / 32)), 16, .rw, none, false⟩,
      ⟨.saf (.BC_CNT_LATE ((o - 280) / 32)), 24, .rw, none, false⟩]⟩
  else none

/-- The registers of block PWR, by offset from the block's base (R584). -/
def regPwrAt (o : Nat) : Option RegAt :=
  if o = 0 then
    some ⟨false, [⟨.pwr (.CTRL_MAX_STATE), 0, .rw, none, true⟩,
      ⟨.pwr (.CTRL_A2_PAIR), 2, .rwl, none, false⟩,
      ⟨.pwr (.CTRL_A2_PORT), 5, .rwl, none, false⟩,
      ⟨.pwr (.CTRL_IRQ_EN), 7, .rw, none, false⟩,
      ⟨.pwr (.CTRL_MON_TEST_DIS), 8, .rwl, none, false⟩]⟩
  else if o = 4 then
    some ⟨false, [⟨.pwr (.GUARD_NS), 0, .rwl, none, false⟩]⟩
  else if o = 8 then
    some ⟨false, [⟨.pwr (.STATUS_STATE), 0, .ro, none, false⟩,
      ⟨.pwr (.STATUS_TARGET), 2, .ro, none, false⟩,
      ⟨.pwr (.STATUS_ENTERING), 4, .ro, none, false⟩,
      ⟨.pwr (.STATUS_FLOOR), 5, .ro, none, false⟩]⟩
  else if o = 12 then
    some ⟨false, [⟨.pwr (.NEED_TOL_US), 0, .ro, none, false⟩,
      ⟨.pwr (.NEED_GAP_US), 16, .ro, none, false⟩]⟩
  else if o = 16 then
    some ⟨false, [⟨.pwr (.EVT_STATE_CHG), 0, .w1c, none, false⟩,
      ⟨.pwr (.EVT_A3_ABORT), 1, .w1c, none, false⟩,
      ⟨.pwr (.EVT_SUP_WARN), 2, .w1c, none, false⟩,
      ⟨.pwr (.EVT_DIP_CLOSED), 3, .w1c, none, false⟩,
      ⟨.pwr (.EVT_UV_LONG), 4, .w1c, none, false⟩]⟩
  else if o = 20 then
    some ⟨false, [⟨.pwr (.SUP_STATUS_SUP_WARN), 0, .ro, none, false⟩,
      ⟨.pwr (.SUP_STATUS_EPISODE_OPEN), 1, .ro, none, false⟩,
      ⟨.pwr (.SUP_STATUS_QUALIFYING), 2, .ro, none, false⟩,
      ⟨.pwr (.SUP_STATUS_INHIBIT), 3, .ro, none, false⟩,
      ⟨.pwr (.SUP_STATUS_SCRUB_PENDING), 4, .ro, none, false⟩,
      ⟨.pwr (.SUP_STATUS_VERIFY_PENDING), 5, .ro, none, false⟩,
      ⟨.pwr (.SUP_STATUS_VOLT), 8, .ro, none, false⟩,
      ⟨.pwr (.SUP_STATUS_BELOW_US), 16, .ro, none, false⟩]⟩
  else if 32 ≤ o ∧ (o - 32) / 4 < 5 ∧ ((o - 32) % 4) = 0 then
    some ⟨false, [⟨.pwr (.CNT_COUNT ((o - 32) / 4)), 0, .rw, none, false⟩]⟩
  else if o = 256 then
    some ⟨true, [⟨.pwr (.DIP_LOG_MIN), 0, .ro, none, false⟩,
      ⟨.pwr (.DIP_LOG_DUR), 8, .ro, none, false⟩,
      ⟨.pwr (.DIP_LOG_BELOW), 20, .ro, none, false⟩,
      ⟨.pwr (.DIP_LOG_FLASH_ABANDONED), 30, .ro, none, false⟩,
      ⟨.pwr (.DIP_LOG_UV_LONG), 31, .ro, none, false⟩,
      ⟨.pwr (.DIP_LOG_REACHED_RESET), 32, .ro, none, false⟩,
      ⟨.pwr (.DIP_LOG_TICK), 33, .ro, none, false⟩,
      ⟨.pwr (.DIP_LOG_VALID), 63, .w1c, none, false⟩]⟩
  else if o = 264 then
    some ⟨false, [⟨.pwr (.DIP_CNT_COUNT), 0, .rw, none, false⟩]⟩
  else if o = 272 then
    some ⟨false, [⟨.pwr (.WAKE_EN_SIGDET), 0, .rw, none, false⟩,
      ⟨.pwr (.WAKE_EN_GPIO), 4, .rw, none, false⟩]⟩
  else if o = 276 then
    some ⟨false, [⟨.pwr (.WAKE_STATUS_SRC), 0, .w1c, none, false⟩,
      ⟨.pwr (.WAKE_STATUS_HOST), 12, .w1c, none, false⟩,
      ⟨.pwr (.WAKE_STATUS_TIMER), 13, .w1c, none, false⟩]⟩
  else if o = 280 then
    some ⟨false, [⟨.pwr (.WAKE_TIMER_COUNT), 0, .rw, none, false⟩]⟩
  else none

/-- The registers of block SEC, by offset from the block's base (R584). -/
def regSecAt (o : Nat) : Option RegAt :=
  if o = 0 then
    some ⟨false, [⟨.sec (.LC_STATUS_STATE), 0, .ro, none, false⟩,
      ⟨.sec (.LC_STATUS_BUSY), 2, .ro, none, false⟩]⟩
  else if o = 4 then
    some ⟨false, [⟨.sec (.LC_CMD_OP), 0, .wo, none, true⟩]⟩
  else if o = 8 then
    some ⟨false, [⟨.sec (.LC_RESULT_LAST), 0, .ro, none, false⟩,
      ⟨.sec (.LC_RESULT_REFUSED), 8, .rw, none, false⟩]⟩
  else if 16 ≤ o ∧ (o - 16) / 4 < 4 ∧ ((o - 16) % 4) = 0 then
    some ⟨false, [⟨.sec (.UID_UID ((o - 16) / 4)), 0, .ro, none, false⟩]⟩
  else if o = 32 then
    some ⟨false, [⟨.sec (.KEY_STATUS_PROG), 0, .ro, none, false⟩,
      ⟨.sec (.KEY_STATUS_REVOKED), 4, .ro, none, false⟩,
      ⟨.sec (.KEY_STATUS_SEED), 6, .ro, none, false⟩,
      ⟨.sec (.KEY_STATUS_KEK_AVAIL), 7, .ro, none, false⟩]⟩
  else if o = 36 then
    some ⟨false, [⟨.sec (.OTP_CMD_OP), 0, .wo, none, true⟩,
      ⟨.sec (.OTP_CMD_TARGET), 4, .wo, none, true⟩]⟩
  else if o = 40 then
    some ⟨false, [⟨.sec (.OTP_STATUS_BUSY), 0, .ro, none, false⟩,
      ⟨.sec (.OTP_STATUS_RESULT), 1, .ro, none, false⟩]⟩
  else if 256 ≤ o ∧ (o - 256) / 4 < 24 ∧ ((o - 256) % 4) = 0 then
    some ⟨false, [⟨.sec (.OTP_STAGE_DATA ((o - 256) / 4)), 0, .wo, none, false⟩]⟩
  else if o = 512 then
    some ⟨false, [⟨.sec (.ARB_STATUS_VALUE), 0, .ro, none, false⟩,
      ⟨.sec (.ARB_STATUS_BUSY), 7, .ro, none, false⟩,
      ⟨.sec (.ARB_STATUS_RESULT), 8, .ro, none, false⟩]⟩
  else if o = 516 then
    some ⟨false, [⟨.sec (.ARB_CMD_VALUE), 0, .wo, none, true⟩,
      ⟨.sec (.ARB_CMD_GO), 8, .wo, none, true⟩]⟩
  else if o = 768 then
    some ⟨false, [⟨.sec (.DBG_STATUS_LEVEL), 0, .ro, none, false⟩,
      ⟨.sec (.DBG_STATUS_LOCKED), 2, .ro, none, false⟩,
      ⟨.sec (.DBG_STATUS_VERIFYING), 3, .ro, none, false⟩,
      ⟨.sec (.DBG_STATUS_RESULT), 4, .ro, none, false⟩,
      ⟨.sec (.DBG_STATUS_FAILS), 8, .ro, none, false⟩]⟩
  else if o = 772 then
    some ⟨false, [⟨.sec (.DBG_CTRL_D1_OPEN), 0, .w1s, none, true⟩,
      ⟨.sec (.DBG_CTRL_CLOSE), 1, .w1s, none, true⟩,
      ⟨.sec (.DBG_CTRL_SUBMIT), 2, .w1s, none, true⟩,
      ⟨.sec (.DBG_CTRL_IRQ_EN), 3, .rw, none, false⟩]⟩
  else if 784 ≤ o ∧ (o - 784) / 4 < 4 ∧ ((o - 784) % 4) = 0 then
    some ⟨false, [⟨.sec (.DBG_CHAL_CHAL ((o - 784) / 4)), 0, .ro, none, false⟩]⟩
  else if 1024 ≤ o ∧ (o - 1024) / 4 < 40 ∧ ((o - 1024) % 4) = 0 then
    some ⟨false, [⟨.sec (.DBG_TOKEN_DATA ((o - 1024) / 4)), 0, .wo, none, false⟩]⟩
  else if o = 1280 then
    some ⟨false, [⟨.sec (.EVT_LC_CHG), 0, .w1c, none, false⟩,
      ⟨.sec (.EVT_DBG_CHG), 1, .w1c, none, false⟩,
      ⟨.sec (.EVT_TOKEN_DONE), 2, .w1c, none, false⟩,
      ⟨.sec (.EVT_OTP_DONE), 3, .w1c, none, false⟩,
      ⟨.sec (.EVT_ARB_DONE), 4, .w1c, none, false⟩]⟩
  else if o = 1284 then
    some ⟨false, [⟨.sec (.CNT_TOKEN_FAIL), 0, .rw, none, false⟩,
      ⟨.sec (.CNT_CLOSE_IGNORED), 16, .rw, none, false⟩]⟩
  else none

/-- The registers of block PMC, by offset from the block's base (R584). -/
def regPmcAt (o : Nat) : Option RegAt :=
  if o = 0 then
    some ⟨false, [⟨.pmc (.CTRL_FREEZE), 0, .rw, none, true⟩,
      ⟨.pmc (.CTRL_SNAP), 1, .w1s, none, true⟩,
      ⟨.pmc (.CTRL_IRQ_EN), 2, .rw, none, false⟩,
      ⟨.pmc (.CTRL_HOLD), 3, .rw, none, false⟩]⟩
  else if o = 8 then
    some ⟨false, [⟨.pmc (.SNAP_SEQ_SEQ), 0, .ro, none, false⟩]⟩
  else if o = 12 then
    some ⟨false, [⟨.pmc (.SNAP_INFO_SRC), 0, .ro, none, false⟩,
      ⟨.pmc (.SNAP_INFO_SKIP), 16, .rw, none, false⟩]⟩
  else if o = 16 then
    some ⟨true, [⟨.pmc (.SNAP_TICK_TICK), 0, .ro, none, false⟩]⟩
  else if 64 ≤ o ∧ (o - 64) / 4 < 12 ∧ ((o - 64) % 4) = 0 then
    some ⟨false, [⟨.pmc (.OVF_OVF ((o - 64) / 4)), 0, .w1c, none, false⟩]⟩
  else if 2048 ≤ o ∧ (o - 2048) / 4 < 384 ∧ ((o - 2048) % 4) = 0 then
    some ⟨false, [⟨.pmc (.SEL_EVENT ((o - 2048) / 4)), 0, .rw, none, true⟩,
      ⟨.pmc (.SEL_INST ((o - 2048) / 4)), 8, .rw, none, true⟩,
      ⟨.pmc (.SEL_OVF_IRQ ((o - 2048) / 4)), 30, .rw, none, true⟩,
      ⟨.pmc (.SEL_EN ((o - 2048) / 4)), 31, .rw, none, true⟩]⟩
  else if 4096 ≤ o ∧ (o - 4096) / 8 < 384 ∧ ((o - 4096) % 8) = 0 then
    some ⟨true, [⟨.pmc (.CNT_COUNT ((o - 4096) / 8)), 0, .rw, none, true⟩]⟩
  else if 8192 ≤ o ∧ (o - 8192) / 4096 < 2 ∧ ((o - 8192) % 4096) / 8 < 384 ∧ (((o - 8192) % 4096) % 8) = 0 then
    some ⟨true, [⟨.pmc (.SNAP_BANK_COUNT ((o - 8192) / 4096) (((o - 8192) % 4096) / 8)), 0, .ro, none, false⟩]⟩
  else if 16384 ≤ o ∧ (o - 16384) / 32 < 8 ∧ ((o - 16384) % 32) = 0 then
    some ⟨false, [⟨.pmc (.SMP_CFG_EN ((o - 16384) / 32)), 0, .rw, none, true⟩,
      ⟨.pmc (.SMP_CFG_HALF ((o - 16384) / 32)), 1, .rw, some (0, 2), true⟩,
      ⟨.pmc (.SMP_CFG_CLASS_MASK ((o - 16384) / 32)), 8, .rw, none, true⟩,
      ⟨.pmc (.SMP_CFG_JITTER ((o - 16384) / 32)), 16, .rw, some (0, 8), true⟩]⟩
  else if 16388 ≤ o ∧ (o - 16388) / 32 < 8 ∧ ((o - 16388) % 32) = 0 then
    some ⟨false, [⟨.pmc (.SMP_PERIOD_PERIOD ((o - 16388) / 32)), 0, .rw, some (1, 1048575), true⟩]⟩
  else if 16392 ≤ o ∧ (o - 16392) / 32 < 8 ∧ ((o - 16392) % 32) = 0 then
    some ⟨false, [⟨.pmc (.SMP_PTR_RD ((o - 16392) / 32)), 0, .rw, none, true⟩,
      ⟨.pmc (.SMP_PTR_WR ((o - 16392) / 32)), 16, .ro, none, false⟩]⟩
  else if 16396 ≤ o ∧ (o - 16396) / 32 < 8 ∧ ((o - 16396) % 32) = 0 then
    some ⟨false, [⟨.pmc (.SMP_STATUS_LOST ((o - 16396) / 32)), 0, .rw, none, false⟩,
      ⟨.pmc (.SMP_STATUS_WM_HIT ((o - 16396) / 32)), 16, .w1c, none, false⟩,
      ⟨.pmc (.SMP_STATUS_RD_REFUSED ((o - 16396) / 32)), 24, .rw, none, false⟩]⟩
  else if 16400 ≤ o ∧ (o - 16400) / 32 < 8 ∧ ((o - 16400) % 32) = 0 then
    some ⟨false, [⟨.pmc (.SMP_WM_WM ((o - 16400) / 32)), 0, .rw, some (0, 128), false⟩]⟩
  else none

/-- The registers of block SBD, by offset from the block's base (R584). -/
def regSbdAt (o : Nat) : Option RegAt :=
  if o = 0 then
    some ⟨false, [⟨.sbd (.CTRL_IRQ_EN), 0, .rw, none, false⟩]⟩
  else if o = 4 then
    some ⟨false, [⟨.sbd (.RST_CTRL_OP), 0, .wo, none, true⟩,
      ⟨.sbd (.RST_CTRL_KEY), 8, .wo, none, true⟩]⟩
  else if o = 8 then
    some ⟨false, [⟨.sbd (.RST_RESULT_LAST), 0, .ro, none, false⟩,
      ⟨.sbd (.RST_RESULT_REFUSED), 8, .rw, none, false⟩]⟩
  else if o = 12 then
    some ⟨false, [⟨.sbd (.RST_CAUSE_LAST), 0, .ro, none, false⟩,
      ⟨.sbd (.RST_CAUSE_WDT_SAFETY), 3, .ro, none, false⟩,
      ⟨.sbd (.RST_CAUSE_WARM_CNT), 8, .rw, none, false⟩,
      ⟨.sbd (.RST_CAUSE_WDT_CNT), 16, .rw, none, false⟩,
      ⟨.sbd (.RST_CAUSE_SAFETY_CNT), 24, .rw, none, false⟩]⟩
  else if o = 16 then
    some ⟨false, [⟨.sbd (.WDT_CFG_EN), 0, .rw, none, false⟩,
      ⟨.sbd (.WDT_CFG_PERIOD), 16, .rw, some (1, 65535), false⟩]⟩
  else if o = 20 then
    some ⟨false, [⟨.sbd (.WDT_FEED_VALUE), 0, .wo, none, true⟩]⟩
  else if o = 24 then
    some ⟨false, [⟨.sbd (.WDT_STATUS_COUNTING), 0, .ro, none, false⟩,
      ⟨.sbd (.WDT_STATUS_BAD_FEED), 16, .rw, none, false⟩]⟩
  else if o = 32 then
    some ⟨false, [⟨.sbd (.BOOT_STATUS_RESULT), 0, .ro, none, false⟩,
      ⟨.sbd (.BOOT_STATUS_HDR), 3, .ro, none, false⟩,
      ⟨.sbd (.BOOT_STATUS_SLOT), 4, .ro, none, false⟩,
      ⟨.sbd (.BOOT_STATUS_CODE_FIRST), 8, .ro, none, false⟩,
      ⟨.sbd (.BOOT_STATUS_CODE_SECOND), 16, .ro, none, false⟩]⟩
  else if o = 36 then
    some ⟨false, [⟨.sbd (.BOOT_TIME_US), 0, .ro, none, false⟩]⟩
  else if o = 40 then
    some ⟨false, [⟨.sbd (.SFDP_INFO_LOG2_BYTES), 0, .ro, none, false⟩,
      ⟨.sbd (.SFDP_INFO_QUAD), 5, .ro, none, false⟩,
      ⟨.sbd (.SFDP_INFO_ADDR4), 6, .ro, none, false⟩,
      ⟨.sbd (.SFDP_INFO_FALLBACK), 7, .ro, none, false⟩]⟩
  else if o = 48 then
    some ⟨false, [⟨.sbd (.FL_CMD_OP), 0, .wo, none, true⟩]⟩
  else if o = 52 then
    some ⟨false, [⟨.sbd (.FL_ADDR_ADDR), 0, .rw, none, false⟩]⟩
  else if o = 56 then
    some ⟨false, [⟨.sbd (.FL_STATUS_BUSY), 0, .ro, none, false⟩,
      ⟨.sbd (.FL_STATUS_RESULT), 1, .ro, none, false⟩]⟩
  else if o = 60 then
    some ⟨false, [⟨.sbd (.FL_LOG_PAGE), 0, .ro, none, false⟩,
      ⟨.sbd (.FL_LOG_INCOMPLETE), 31, .w1c, none, false⟩]⟩
  else if 256 ≤ o ∧ (o - 256) / 4 < 64 ∧ ((o - 256) % 4) = 0 then
    some ⟨false, [⟨.sbd (.FL_BUF_DATA ((o - 256) / 4)), 0, .rw, none, false⟩]⟩
  else if o = 512 then
    some ⟨false, [⟨.sbd (.SMB_STATUS_ADDR), 0, .ro, none, false⟩,
      ⟨.sbd (.SMB_STATUS_SMB_ARB_FAIL), 7, .w1c, none, false⟩,
      ⟨.sbd (.SMB_STATUS_EID), 8, .ro, none, false⟩]⟩
  else if o = 516 then
    some ⟨false, [⟨.sbd (.SMB_CFG_FAST), 0, .rw, none, false⟩]⟩
  else if o = 520 then
    some ⟨false, [⟨.sbd (.SMB_CNT_ARB_LOST), 0, .rw, none, false⟩,
      ⟨.sbd (.SMB_CNT_ARB_FAIL), 8, .rw, none, false⟩,
      ⟨.sbd (.SMB_CNT_TIMEOUT), 16, .rw, none, false⟩,
      ⟨.sbd (.SMB_CNT_RX_BAD), 24, .rw, none, false⟩]⟩
  else if o = 768 then
    some ⟨false, [⟨.sbd (.GPIO_DIR_DIR), 0, .rw, none, false⟩]⟩
  else if o = 772 then
    some ⟨false, [⟨.sbd (.GPIO_OUT_OUT), 0, .rw, none, false⟩]⟩
  else if o = 776 then
    some ⟨false, [⟨.sbd (.GPIO_IN_IN), 0, .ro, none, false⟩]⟩
  else if o = 780 then
    some ⟨false, [⟨.sbd (.GPIO_EDGE_RISE), 0, .rw, none, false⟩,
      ⟨.sbd (.GPIO_EDGE_FALL), 8, .rw, none, false⟩]⟩
  else if o = 784 then
    some ⟨false, [⟨.sbd (.GPIO_EVT_EVT), 0, .w1c, none, false⟩]⟩
  else none

/-- The registers of the configuration space of Pf0 (for a VF, function number `f`), by offset. -/
def csPf0At (f o : Nat) : Option RegAt :=
  match o with
  | 0 => some ⟨false, [⟨.cs f .VENDOR_ID, 0, .ro, none, false⟩, ⟨.cs f .DEVICE_ID, 16, .ro, none, false⟩]⟩
  | 4 => some ⟨false, [⟨.cs f .CMD_MSE, 1, .rw, none, false⟩, ⟨.cs f .CMD_BME, 2, .rw, none, true⟩, ⟨.cs f .CMD_PER, 6, .rw, none, false⟩, ⟨.cs f .CMD_SERR, 8, .rw, none, false⟩, ⟨.cs f .CMD_INTDIS, 10, .rw, none, false⟩, ⟨.cs f .STS_INT, 19, .ro, none, false⟩, ⟨.cs f .STS_CAPLIST, 20, .ro, none, false⟩, ⟨.cs f .STS_MDPE, 24, .w1c, none, false⟩, ⟨.cs f .STS_STA, 27, .w1c, none, false⟩, ⟨.cs f .STS_RTA, 28, .w1c, none, false⟩, ⟨.cs f .STS_RMA, 29, .w1c, none, false⟩, ⟨.cs f .STS_SSE, 30, .w1c, none, false⟩, ⟨.cs f .STS_DPE, 31, .w1c, none, false⟩]⟩
  | 8 => some ⟨false, [⟨.cs f .REVISION, 0, .ro, none, false⟩, ⟨.cs f .CLASS, 8, .ro, none, false⟩]⟩
  | 12 => some ⟨false, [⟨.cs f .HDR_TYPE, 16, .ro, none, false⟩]⟩
  | 16 => some ⟨true, [⟨.cs f .BAR0_ATTR, 0, .ro, none, false⟩, ⟨.cs f .BAR0, 0, .rw, none, false⟩]⟩
  | 24 => some ⟨true, [⟨.cs f .BAR2_ATTR, 0, .ro, none, false⟩, ⟨.cs f .BAR2, 0, .rw, none, false⟩]⟩
  | 32 => some ⟨true, [⟨.cs f .BAR4_ATTR, 0, .ro, none, false⟩, ⟨.cs f .BAR4, 0, .rw, none, false⟩]⟩
  | 44 => some ⟨false, [⟨.cs f .SUBSYS_VID, 0, .ro, none, false⟩, ⟨.cs f .SUBSYS_ID, 16, .ro, none, false⟩]⟩
  | 52 => some ⟨false, [⟨.cs f .CAP_PTR, 0, .ro, none, false⟩]⟩
  | 60 => some ⟨false, [⟨.cs f .INT_LINE, 0, .rw, none, false⟩, ⟨.cs f .INT_PIN, 8, .ro, none, false⟩]⟩
  | 64 => some ⟨false, [⟨.cs f .PM_HDR, 0, .ro, none, false⟩, ⟨.cs f .PMC, 16, .ro, none, false⟩]⟩
  | 68 => some ⟨false, [⟨.cs f .PM_STATE, 0, .rw, none, true⟩, ⟨.cs f .PM_NOSOFTRST, 3, .ro, none, false⟩, ⟨.cs f .PM_PME_EN, 8, .rw, none, false⟩, ⟨.cs f .PM_PME_STATUS, 15, .w1c, none, false⟩]⟩
  | 80 => some ⟨false, [⟨.cs f .PCIE_HDR, 0, .ro, none, false⟩]⟩
  | 84 => some ⟨false, [⟨.cs f .DEVCAP, 0, .ro, none, false⟩]⟩
  | 88 => some ⟨false, [⟨.cs f .DC_CERE, 0, .rw, none, false⟩, ⟨.cs f .DC_NFERE, 1, .rw, none, false⟩, ⟨.cs f .DC_FERE, 2, .rw, none, false⟩, ⟨.cs f .DC_URRE, 3, .rw, none, false⟩, ⟨.cs f .DC_RO, 4, .rw, none, false⟩, ⟨.cs f .DC_MPS, 5, .rw, none, false⟩, ⟨.cs f .DC_EXTTAG, 8, .rw, none, false⟩, ⟨.cs f .DC_NS, 11, .rw, none, false⟩, ⟨.cs f .DC_MRRS, 12, .rw, none, false⟩, ⟨.cs f .DC_FLR, 15, .w1s, none, true⟩, ⟨.cs f .DS_CED, 16, .w1c, none, false⟩, ⟨.cs f .DS_NFED, 17, .w1c, none, false⟩, ⟨.cs f .DS_FED, 18, .w1c, none, false⟩, ⟨.cs f .DS_URD, 19, .w1c, none, false⟩, ⟨.cs f .DS_TP, 21, .ro, none, false⟩]⟩
  | 92 => some ⟨false, [⟨.cs f .LINKCAP, 0, .ro, none, false⟩]⟩
  | 96 => some ⟨false, [⟨.cs f .LC_ASPM, 0, .rw, none, false⟩, ⟨.cs f .LC_CCC, 6, .rw, none, false⟩, ⟨.cs f .LC_CLKPM, 8, .rw, none, false⟩, ⟨.cs f .LC_HAWD, 9, .rw, none, false⟩]⟩
  | 116 => some ⟨false, [⟨.cs f .DEVCAP2, 0, .ro, none, false⟩]⟩
  | 120 => some ⟨false, [⟨.cs f .DC2_LTR, 10, .rw, none, false⟩, ⟨.cs f .DC2_TAG10, 12, .rw, none, false⟩]⟩
  | 124 => some ⟨false, [⟨.cs f .LINKCAP2, 0, .ro, none, false⟩]⟩
  | 128 => some ⟨false, [⟨.cs f .LC2_TLS, 0, .rw, none, false⟩]⟩
  | 144 => some ⟨false, [⟨.cs f .MSIX_HDR, 0, .ro, none, false⟩, ⟨.cs f .MSIX_SIZE, 16, .ro, none, false⟩, ⟨.cs f .MSIX_FMASK, 30, .rw, none, false⟩, ⟨.cs f .MSIX_EN, 31, .rw, none, false⟩]⟩
  | 148 => some ⟨false, [⟨.cs f .MSIX_TABLE, 0, .ro, none, false⟩]⟩
  | 152 => some ⟨false, [⟨.cs f .MSIX_PBA, 0, .ro, none, false⟩]⟩
  | 256 => some ⟨false, [⟨.cs f .AER_HDR, 0, .ro, none, false⟩]⟩
  | 260 => some ⟨false, [⟨.cs f .AER_UE_STS, 0, .w1c, none, false⟩]⟩
  | 264 => some ⟨false, [⟨.cs f .AER_UE_MASK, 0, .rw, none, false⟩]⟩
  | 268 => some ⟨false, [⟨.cs f .AER_UE_SEV, 0, .rw, none, false⟩]⟩
  | 272 => some ⟨false, [⟨.cs f .AER_CE_STS, 0, .w1c, none, false⟩]⟩
  | 276 => some ⟨false, [⟨.cs f .AER_CE_MASK, 0, .rw, none, false⟩]⟩
  | 280 => some ⟨false, [⟨.cs f .AER_FEP, 0, .ro, none, false⟩]⟩
  | 284 => some ⟨false, [⟨.cs f .AER_HDRLOG0, 0, .ro, none, false⟩]⟩
  | 288 => some ⟨false, [⟨.cs f .AER_HDRLOG1, 0, .ro, none, false⟩]⟩
  | 292 => some ⟨false, [⟨.cs f .AER_HDRLOG2, 0, .ro, none, false⟩]⟩
  | 296 => some ⟨false, [⟨.cs f .AER_HDRLOG3, 0, .ro, none, false⟩]⟩
  | 320 => some ⟨false, [⟨.cs f .ARI_HDR, 0, .ro, none, false⟩]⟩
  | 324 => some ⟨false, [⟨.cs f .ARI_NEXT, 8, .ro, none, false⟩]⟩
  | 336 => some ⟨false, [⟨.cs f .ACS_HDR, 0, .ro, none, false⟩]⟩
  | 352 => some ⟨false, [⟨.cs f .SRIOV_HDR, 0, .ro, none, false⟩]⟩
  | 360 => some ⟨false, [⟨.cs f .SRIOV_VFE, 0, .rw, none, true⟩, ⟨.cs f .SRIOV_VFMSE, 3, .rw, none, false⟩, ⟨.cs f .SRIOV_ARI, 4, .rw, none, false⟩]⟩
  | 364 => some ⟨false, [⟨.cs f .SRIOV_INITVFS, 0, .ro, none, false⟩, ⟨.cs f .SRIOV_TOTALVFS, 16, .ro, none, false⟩]⟩
  | 368 => some ⟨false, [⟨.cs f .SRIOV_NUMVFS, 0, .rw, some (0, 48), false⟩]⟩
  | 372 => some ⟨false, [⟨.cs f .SRIOV_OFFSET, 0, .ro, none, false⟩, ⟨.cs f .SRIOV_STRIDE, 16, .ro, none, false⟩]⟩
  | 376 => some ⟨false, [⟨.cs f .SRIOV_VFDEV, 16, .ro, none, false⟩]⟩
  | 380 => some ⟨false, [⟨.cs f .SRIOV_PAGES, 0, .ro, none, false⟩]⟩
  | 384 => some ⟨false, [⟨.cs f .SRIOV_SYSPAGE, 0, .rw, some (1, 1), false⟩]⟩
  | 388 => some ⟨true, [⟨.cs f .SRIOV_VFBAR0_ATTR, 0, .ro, none, false⟩, ⟨.cs f .SRIOV_VFBAR0, 0, .rw, none, false⟩]⟩
  | 396 => some ⟨true, [⟨.cs f .SRIOV_VFBAR2_ATTR, 0, .ro, none, false⟩, ⟨.cs f .SRIOV_VFBAR2, 0, .rw, none, false⟩]⟩
  | 416 => some ⟨false, [⟨.cs f .SPCIE_HDR, 0, .ro, none, false⟩]⟩
  | 448 => some ⟨false, [⟨.cs f .DLF_HDR, 0, .ro, none, false⟩]⟩
  | 464 => some ⟨false, [⟨.cs f .PL16_HDR, 0, .ro, none, false⟩]⟩
  | 512 => some ⟨false, [⟨.cs f .LMR_HDR, 0, .ro, none, false⟩]⟩
  | 544 => some ⟨false, [⟨.cs f .LTR_HDR, 0, .ro, none, false⟩]⟩
  | 548 => some ⟨false, [⟨.cs f .LTR_MAX_SNOOP, 0, .rw, none, false⟩, ⟨.cs f .LTR_MAX_NOSNOOP, 16, .rw, none, false⟩]⟩
  | 560 => some ⟨false, [⟨.cs f .L1SS_HDR, 0, .ro, none, false⟩]⟩
  | 564 => some ⟨false, [⟨.cs f .L1SS_CAP, 0, .ro, none, false⟩]⟩
  | 568 => some ⟨false, [⟨.cs f .L1SS_EN, 0, .rw, none, false⟩, ⟨.cs f .L1SS_CTL1, 8, .rw, none, false⟩]⟩
  | 572 => some ⟨false, [⟨.cs f .L1SS_CTL2, 0, .rw, none, false⟩]⟩
  | 768 => some ⟨false, [⟨.cs f .DVSEC_HDR, 0, .ro, none, false⟩]⟩
  | 772 => some ⟨false, [⟨.cs f .DVSEC_HDR1, 0, .ro, none, false⟩]⟩
  | 776 => some ⟨false, [⟨.cs f .DVSEC_ID, 0, .ro, none, false⟩]⟩
  | _ => none

/-- The registers of the configuration space of Pf1 (for a VF, function number `f`), by offset. -/
def csPf1At (f o : Nat) : Option RegAt :=
  match o with
  | 0 => some ⟨false, [⟨.cs f .VENDOR_ID, 0, .ro, none, false⟩, ⟨.cs f .DEVICE_ID, 16, .ro, none, false⟩]⟩
  | 4 => some ⟨false, [⟨.cs f .CMD_MSE, 1, .rw, none, false⟩, ⟨.cs f .CMD_BME, 2, .rw, none, true⟩, ⟨.cs f .CMD_PER, 6, .rw, none, false⟩, ⟨.cs f .CMD_SERR, 8, .rw, none, false⟩, ⟨.cs f .CMD_INTDIS, 10, .rw, none, false⟩, ⟨.cs f .STS_INT, 19, .ro, none, false⟩, ⟨.cs f .STS_CAPLIST, 20, .ro, none, false⟩, ⟨.cs f .STS_MDPE, 24, .w1c, none, false⟩, ⟨.cs f .STS_STA, 27, .w1c, none, false⟩, ⟨.cs f .STS_RTA, 28, .w1c, none, false⟩, ⟨.cs f .STS_RMA, 29, .w1c, none, false⟩, ⟨.cs f .STS_SSE, 30, .w1c, none, false⟩, ⟨.cs f .STS_DPE, 31, .w1c, none, false⟩]⟩
  | 8 => some ⟨false, [⟨.cs f .REVISION, 0, .ro, none, false⟩, ⟨.cs f .CLASS, 8, .ro, none, false⟩]⟩
  | 12 => some ⟨false, [⟨.cs f .HDR_TYPE, 16, .ro, none, false⟩]⟩
  | 16 => some ⟨true, [⟨.cs f .BAR0_ATTR, 0, .ro, none, false⟩, ⟨.cs f .BAR0, 0, .rw, none, false⟩]⟩
  | 24 => some ⟨true, [⟨.cs f .BAR2_ATTR, 0, .ro, none, false⟩, ⟨.cs f .BAR2, 0, .rw, none, false⟩]⟩
  | 44 => some ⟨false, [⟨.cs f .SUBSYS_VID, 0, .ro, none, false⟩, ⟨.cs f .SUBSYS_ID, 16, .ro, none, false⟩]⟩
  | 52 => some ⟨false, [⟨.cs f .CAP_PTR, 0, .ro, none, false⟩]⟩
  | 60 => some ⟨false, [⟨.cs f .INT_LINE, 0, .rw, none, false⟩, ⟨.cs f .INT_PIN, 8, .ro, none, false⟩]⟩
  | 64 => some ⟨false, [⟨.cs f .PM_HDR, 0, .ro, none, false⟩, ⟨.cs f .PMC, 16, .ro, none, false⟩]⟩
  | 68 => some ⟨false, [⟨.cs f .PM_STATE, 0, .rw, none, true⟩, ⟨.cs f .PM_NOSOFTRST, 3, .ro, none, false⟩, ⟨.cs f .PM_PME_EN, 8, .rw, none, false⟩, ⟨.cs f .PM_PME_STATUS, 15, .w1c, none, false⟩]⟩
  | 80 => some ⟨false, [⟨.cs f .PCIE_HDR, 0, .ro, none, false⟩]⟩
  | 84 => some ⟨false, [⟨.cs f .DEVCAP, 0, .ro, none, false⟩]⟩
  | 88 => some ⟨false, [⟨.cs f .DC_CERE, 0, .rw, none, false⟩, ⟨.cs f .DC_NFERE, 1, .rw, none, false⟩, ⟨.cs f .DC_FERE, 2, .rw, none, false⟩, ⟨.cs f .DC_URRE, 3, .rw, none, false⟩, ⟨.cs f .DC_RO, 4, .rw, none, false⟩, ⟨.cs f .DC_EXTTAG, 8, .rw, none, false⟩, ⟨.cs f .DC_NS, 11, .rw, none, false⟩, ⟨.cs f .DC_MRRS, 12, .rw, none, false⟩, ⟨.cs f .DC_FLR, 15, .w1s, none, true⟩, ⟨.cs f .DS_CED, 16, .w1c, none, false⟩, ⟨.cs f .DS_NFED, 17, .w1c, none, false⟩, ⟨.cs f .DS_FED, 18, .w1c, none, false⟩, ⟨.cs f .DS_URD, 19, .w1c, none, false⟩, ⟨.cs f .DS_TP, 21, .ro, none, false⟩]⟩
  | 92 => some ⟨false, [⟨.cs f .LINKCAP, 0, .ro, none, false⟩]⟩
  | 96 => some ⟨false, [⟨.cs f .LC_ASPM, 0, .rw, none, false⟩, ⟨.cs f .LC_CCC, 6, .rw, none, false⟩, ⟨.cs f .LC_CLKPM, 8, .rw, none, false⟩, ⟨.cs f .LC_HAWD, 9, .rw, none, false⟩]⟩
  | 116 => some ⟨false, [⟨.cs f .DEVCAP2, 0, .ro, none, false⟩]⟩
  | 120 => some ⟨false, [⟨.cs f .DC2_TAG10, 12, .rw, none, false⟩]⟩
  | 124 => some ⟨false, [⟨.cs f .LINKCAP2, 0, .ro, none, false⟩]⟩
  | 256 => some ⟨false, [⟨.cs f .AER_HDR, 0, .ro, none, false⟩]⟩
  | 260 => some ⟨false, [⟨.cs f .AER_UE_STS, 0, .w1c, none, false⟩]⟩
  | 264 => some ⟨false, [⟨.cs f .AER_UE_MASK, 0, .rw, none, false⟩]⟩
  | 268 => some ⟨false, [⟨.cs f .AER_UE_SEV, 0, .rw, none, false⟩]⟩
  | 272 => some ⟨false, [⟨.cs f .AER_CE_STS, 0, .w1c, none, false⟩]⟩
  | 276 => some ⟨false, [⟨.cs f .AER_CE_MASK, 0, .rw, none, false⟩]⟩
  | 280 => some ⟨false, [⟨.cs f .AER_FEP, 0, .ro, none, false⟩]⟩
  | 284 => some ⟨false, [⟨.cs f .AER_HDRLOG0, 0, .ro, none, false⟩]⟩
  | 288 => some ⟨false, [⟨.cs f .AER_HDRLOG1, 0, .ro, none, false⟩]⟩
  | 292 => some ⟨false, [⟨.cs f .AER_HDRLOG2, 0, .ro, none, false⟩]⟩
  | 296 => some ⟨false, [⟨.cs f .AER_HDRLOG3, 0, .ro, none, false⟩]⟩
  | 320 => some ⟨false, [⟨.cs f .ARI_HDR, 0, .ro, none, false⟩]⟩
  | 324 => some ⟨false, [⟨.cs f .ARI_NEXT, 8, .ro, none, false⟩]⟩
  | 336 => some ⟨false, [⟨.cs f .ACS_HDR, 0, .ro, none, false⟩]⟩
  | _ => none

/-- The registers of the configuration space of Vf (for a VF, function number `f`), by offset. -/
def csVfAt (f o : Nat) : Option RegAt :=
  match o with
  | 0 => some ⟨false, [⟨.cs f .VENDOR_ID, 0, .ro, none, false⟩, ⟨.cs f .DEVICE_ID, 16, .ro, none, false⟩]⟩
  | 4 => some ⟨false, [⟨.cs f .CMD_BME, 2, .rw, none, true⟩, ⟨.cs f .STS_INT, 19, .ro, none, false⟩, ⟨.cs f .STS_CAPLIST, 20, .ro, none, false⟩, ⟨.cs f .STS_MDPE, 24, .w1c, none, false⟩, ⟨.cs f .STS_STA, 27, .w1c, none, false⟩, ⟨.cs f .STS_RTA, 28, .w1c, none, false⟩, ⟨.cs f .STS_RMA, 29, .w1c, none, false⟩, ⟨.cs f .STS_SSE, 30, .w1c, none, false⟩, ⟨.cs f .STS_DPE, 31, .w1c, none, false⟩]⟩
  | 8 => some ⟨false, [⟨.cs f .REVISION, 0, .ro, none, false⟩, ⟨.cs f .CLASS, 8, .ro, none, false⟩]⟩
  | 12 => some ⟨false, [⟨.cs f .HDR_TYPE, 16, .ro, none, false⟩]⟩
  | 44 => some ⟨false, [⟨.cs f .SUBSYS_VID, 0, .ro, none, false⟩, ⟨.cs f .SUBSYS_ID, 16, .ro, none, false⟩]⟩
  | 52 => some ⟨false, [⟨.cs f .CAP_PTR, 0, .ro, none, false⟩]⟩
  | 60 => some ⟨false, [⟨.cs f .INT_PIN, 8, .ro, none, false⟩]⟩
  | 80 => some ⟨false, [⟨.cs f .PCIE_HDR, 0, .ro, none, false⟩]⟩
  | 84 => some ⟨false, [⟨.cs f .DEVCAP, 0, .ro, none, false⟩]⟩
  | 88 => some ⟨false, [⟨.cs f .DC_RO, 4, .rw, none, false⟩, ⟨.cs f .DC_EXTTAG, 8, .rw, none, false⟩, ⟨.cs f .DC_NS, 11, .rw, none, false⟩, ⟨.cs f .DC_MRRS, 12, .rw, none, false⟩, ⟨.cs f .DC_FLR, 15, .w1s, none, true⟩, ⟨.cs f .DS_CED, 16, .w1c, none, false⟩, ⟨.cs f .DS_NFED, 17, .w1c, none, false⟩, ⟨.cs f .DS_FED, 18, .w1c, none, false⟩, ⟨.cs f .DS_URD, 19, .w1c, none, false⟩, ⟨.cs f .DS_TP, 21, .ro, none, false⟩]⟩
  | 92 => some ⟨false, [⟨.cs f .LINKCAP, 0, .ro, none, false⟩]⟩
  | 116 => some ⟨false, [⟨.cs f .DEVCAP2, 0, .ro, none, false⟩]⟩
  | 120 => some ⟨false, [⟨.cs f .DC2_TAG10, 12, .rw, none, false⟩]⟩
  | 124 => some ⟨false, [⟨.cs f .LINKCAP2, 0, .ro, none, false⟩]⟩
  | 144 => some ⟨false, [⟨.cs f .MSIX_HDR, 0, .ro, none, false⟩, ⟨.cs f .MSIX_SIZE, 16, .ro, none, false⟩, ⟨.cs f .MSIX_FMASK, 30, .rw, none, false⟩, ⟨.cs f .MSIX_EN, 31, .rw, none, false⟩]⟩
  | 148 => some ⟨false, [⟨.cs f .MSIX_TABLE, 0, .ro, none, false⟩]⟩
  | 152 => some ⟨false, [⟨.cs f .MSIX_PBA, 0, .ro, none, false⟩]⟩
  | 320 => some ⟨false, [⟨.cs f .ARI_HDR, 0, .ro, none, false⟩]⟩
  | 324 => some ⟨false, [⟨.cs f .ARI_NEXT, 8, .ro, none, false⟩]⟩
  | _ => none

/-- The register blocks of PF0 BAR0 and their bases (R34). -/
def regAt (o : Nat) : Option RegAt :=
  if 0 ≤ o ∧ o < 65536 then regSysAt (o - 0)
  else if 65536 ≤ o ∧ o < 131072 then regTckAt (o - 65536)
  else if 131072 ≤ o ∧ o < 262144 then regCfgAt (o - 131072)
  else if 262144 ≤ o ∧ o < 524288 then regHepAt (o - 262144)
  else if 524288 ≤ o ∧ o < 786432 then regRngAt (o - 524288)
  else if 786432 ≤ o ∧ o < 1048576 then regDmaAt (o - 786432)
  else if 1048576 ≤ o ∧ o < 1310720 then regBrgAt (o - 1048576)
  else if 1310720 ≤ o ∧ o < 1572864 then regMacAt (o - 1310720)
  else if 1572864 ≤ o ∧ o < 2097152 then regParAt (o - 1572864)
  else if 2097152 ≤ o ∧ o < 3145728 then regEngAt (o - 2097152)
  else if 3145728 ≤ o ∧ o < 3407872 then regCryAt (o - 3145728)
  else if 3407872 ≤ o ∧ o < 3670016 then regNvtAt (o - 3407872)
  else if 3670016 ≤ o ∧ o < 3801088 then regTimAt (o - 3670016)
  else if 3801088 ≤ o ∧ o < 3932160 then regCalAt (o - 3801088)
  else if 3932160 ≤ o ∧ o < 4063232 then regSafAt (o - 3932160)
  else if 4063232 ≤ o ∧ o < 4194304 then regPwrAt (o - 4063232)
  else if 4194304 ≤ o ∧ o < 4456448 then regSecAt (o - 4194304)
  else if 4456448 ≤ o ∧ o < 4718592 then regPmcAt (o - 4456448)
  else if 4718592 ≤ o ∧ o < 4980736 then regSbdAt (o - 4718592)
  else none

end Sys2Proof.Machine
end

