-- ==== Sys2Proof/Machine/Ops.lean ====
section
/-! DEFINITION.  The named operations over registers and memory that every meaning uses:
register fields, counters and first-event logs, the ECC memory lines and their poison, line
allocation, interrupts and reports to the safety monitor, and free values. -/

namespace Sys2Proof.Machine

/-! ### Register fields -/

/-- The value a field holds in a register store: the listed value, or the field's reset value. -/
def Regs.get (l : List (Fld × Nat)) (f : Fld) : Nat :=
  match l.find? (fun e => e.1 = f) with
  | some e => e.2 % 2 ^ f.width
  | none => f.reset % 2 ^ f.width

/-- Places an entry in address order. -/
def Regs.place (l : List (Fld × Nat)) (f : Fld) (v : Nat) : List (Fld × Nat) :=
  match l with
  | [] => [(f, v)]
  | e :: r =>
    if f.place.1 < e.1.place.1 ∨ (f.place.1 = e.1.place.1 ∧ f.place.2 ≤ e.1.place.2) then
      (f, v) :: e :: r
    else e :: Regs.place r f v

/-- The store with field `f` at `v`; a field at its reset value is not listed. -/
def Regs.set (l : List (Fld × Nat)) (f : Fld) (v : Nat) : List (Fld × Nat) :=
  let r := l.filter (fun e => e.1 ≠ f)
  if v % 2 ^ f.width = f.reset % 2 ^ f.width then r else Regs.place r f (v % 2 ^ f.width)

/-- The value of a register field. -/
def Dev.rd (d : Dev) (f : Fld) : Nat := Regs.get d.regs f

/-- The device with a register field at `v`, cut to the field's width. -/
def Dev.wr (d : Dev) (f : Fld) (v : Nat) : Dev := { d with regs := Regs.set d.regs f v }

/-- Whether a one-bit field (or any field) is not zero. -/
def Dev.is (d : Dev) (f : Fld) : Bool := d.rd f ≠ 0

/-- Several fields written. -/
def Dev.wrs (d : Dev) (l : List (Fld × Nat)) : Dev := l.foldl (fun d e => d.wr e.1 e.2) d

/-- A counter increased by `k`, held at its all-ones value (R44). -/
def Dev.incBy (d : Dev) (f : Fld) (k : Nat) : Dev := d.wr f (satAdd f.width (d.rd f) k)

/-- A counter increased by one, held at its all-ones value (R44). -/
def Dev.inc (d : Dev) (f : Fld) : Dev := d.incBy f 1

/-- A first-event log: when VALID is 0 the fields are recorded and VALID set; a later event leaves
the record (R46). -/
def Dev.logFirst (d : Dev) (valid : Fld) (l : List (Fld × Nat)) : Dev :=
  if d.is valid then d else (d.wrs l).wr valid 1

/-- Bit `i` of a field set. -/
def Dev.setFldBit (d : Dev) (f : Fld) (i : Nat) : Dev := d.wr f (setBit (d.rd f) i)

/-- The fields of `l` returned to their reset values. -/
def Dev.resetWhere (d : Dev) (p : Fld → Bool) : Dev :=
  { d with regs := d.regs.filter (fun e => !p e.1) }

/-! ### Event counters -/

/-- The enabled counters (R567). -/
def Dev.pmcEnabled (d : Dev) : List Nat :=
  d.regs.filterMap (fun e => match e.1 with | .pmc (.SEL_EN n) => if d.is e.1 then some n else none | _ => none)

/-- `k` events counted by counter `n`; a wrap waits in `pmc.wrapped` (R567, R569). -/
def Dev.pmcAdd (d : Dev) (k n : Nat) : Dev :=
  let v := d.rd (.pmc (.CNT_COUNT n)) + k
  let d := d.wr (.pmc (.CNT_COUNT n)) (v % 2 ^ 48)
  if 2 ^ 48 ≤ v then { d with pmc := { d.pmc with wrapped := d.pmc.wrapped ++ [n] } } else d

/-- `k` events of code `ev` at instance `inst`, counted while the counters are not frozen, nor in A3 (R567, R571, R573). -/
def Dev.count (d : Dev) (ev inst k : Nat) : Dev :=
  if d.is (.pmc .CTRL_FREEZE) ∨ d.rd (.pwr .STATUS_STATE) = 3 then d
  else
    (d.pmcEnabled.filter (fun n => d.rd (.pmc (.SEL_EVENT n)) = ev && d.rd (.pmc (.SEL_INST n)) = inst)).foldl
      (fun d n => d.pmcAdd k n) d

/-! ### Free values -/

/-- The next free value: a value the spec leaves open (assumption 4). -/
def Dev.fresh (d : Dev) : Nat × Dev :=
  (Config.freeValue d.freeCount, { d with freeCount := d.freeCount + 1 })

/-- `k` free bytes. -/
def Dev.freshBytes (d : Dev) : Nat → List Byte × Dev
  | 0 => ([], d)
  | k + 1 =>
    let (v, d) := d.fresh
    let (bs, d) := d.freshBytes k
    (BitVec.ofNat 8 v :: bs, d)

/-- A fresh serial number for a frame. -/
def Dev.newUid (d : Dev) : Nat × Dev := (d.nextUid, { d with nextUid := d.nextUid + 1 })

/-! ### Interrupts, reports and what leaves the device -/

/-- Whether something leaves by the host link, which leaves L1 for it. -/
def Outbound.byHost : Outbound → Bool
  | .memRead .. | .memWrite .. | .msix .. | .intx .. | .ltr .. | .pme _ | .pmeAck | .errMsg .. => true
  | _ => false

/-- Something leaves the device. -/
def Dev.emit (d : Dev) (o : Outbound) : Dev :=
  { d with out := d.out ++ [o], hep := { d.hep with l1 := d.hep.l1 && !o.byHost } }

/-- A request for an MSI-X or INTx vector of a function, in flight to HEP (R364, R367). -/
def Dev.irq (d : Dev) (f vec : Nat) : Dev := { d with irqs := d.irqs ++ [(f, vec)] }

/-- PF0 event source `s` raised: a request when HEP_EVT_VEC[s].EN is 1, else discarded (R364). -/
def Dev.hepEvent (d : Dev) (s : Nat) : Dev :=
  if d.is (.hep (.EVT_VEC_EN s)) then d.irq 0 (d.rd (.hep (.EVT_VEC_VECTOR s))) else d

/-- A status bit set by hardware: the block's event is raised when its enable is 1 (R364). -/
def Dev.event (d : Dev) (status enable : Fld) (s : Nat) : Dev :=
  let d := d.wr status 1
  if d.is enable then d.hepEvent s else d

/-- A fault report launched to the safety monitor (R475, R609). -/
def Dev.fault (d : Dev) (code detail : Nat) : Dev :=
  { d with toSafe := d.toSafe ++ [⟨false, code, detail⟩] }

/-- A warning report launched to the safety monitor (R476, R609). -/
def Dev.warn (d : Dev) (bit : Nat) : Dev := { d with toSafe := d.toSafe ++ [⟨true, bit, 0⟩] }

/-! ### Memory lines -/

/-- The first line, in the device-wide line numbering, of memory region `n` (SYS_MEM_UE_LOG): Vat,
frame buffer, cluster memory, tables, instruction memories, local data memories, MAC staging. -/
def regionBase : Nat → Nat
  | 0 => 0
  | 1 => 8192
  | 2 => 73728
  | 3 => 106496
  | 4 => 131072
  | 5 => 139264
  | 6 => 155648
  | _ => 156672

/-- The number of memory lines of the device (R480). -/
def lineCount : Nat := 156672

/-- The region of a line. -/
def regionOf (l : Nat) : Nat :=
  if l < 8192 then 0 else if l < 73728 then 1 else if l < 106496 then 2
  else if l < 131072 then 3 else if l < 139264 then 4 else if l < 155648 then 5 else 6

/-- Line `i` of the Vat. -/
def vatLine (i : Nat) : Nat := i
/-- Line `i` of the cluster memory. -/
def clusterLine (i : Nat) : Nat := 73728 + i
/-- Line `i` of the tables region (R608). -/
def tableLine (i : Nat) : Nat := 106496 + i
/-- Line `i` of the instruction memory of pair `p`. -/
def imemLine (p i : Nat) : Nat := 131072 + 1024 * p + i
/-- Line `i` of the local data memory of pair `p`. -/
def ldmLine (p i : Nat) : Nat := 139264 + 2048 * p + i
/-- Line `i` of the staging memory of port `p`. -/
def stagingLine (p i : Nat) : Nat := 155648 + 256 * p + i

/-- What a byte of memory that nothing has written reads as: zero (R32). -/
def unwritten : Byte := 0

/-- The byte stored at a memory address. -/
def Mem.get (m : List Host.Cell) (a : Nat) : Byte :=
  match m.find? (fun c => c.1 = a) with
  | some c => c.2
  | none => unwritten

/-- A cell placed in address order. -/
def Mem.insert (m : List Host.Cell) (a : Nat) (v : Byte) : List Host.Cell :=
  match m with
  | [] => [(a, v)]
  | c :: r =>
    if a < c.1 then (a, v) :: c :: r
    else if a = c.1 then (a, v) :: r
    else c :: Mem.insert r a v

/-- The memory with one byte written, in canonical form: addresses rising, no cell equal to what an
unlisted address reads as. -/
def Mem.set (m : List Host.Cell) (a : Nat) (v : Byte) : List Host.Cell :=
  if v = unwritten then m.filter (fun c => c.1 ≠ a) else Mem.insert m a v

/-- Bytes written from an address upward. -/
def Mem.write (m : List Host.Cell) (a : Nat) : List Byte → List Host.Cell
  | [] => m
  | v :: vs => Mem.write (Mem.set m a v) (a + 1) vs

/-- The canonical form of a memory: strictly rising addresses and no unwritten byte listed. -/
def Memory.wf : List Host.Cell → Bool
  | [] => true
  | [c] => c.2 ≠ unwritten
  | c :: c' :: r => c.2 ≠ unwritten && decide (c.1 < c'.1) && Memory.wf (c' :: r)

/-- `k` bytes from an address, as stored. -/
def Dev.peek (d : Dev) (a k : Nat) : List Byte :=
  (List.range k).map (fun i => Mem.get d.mem (a + i))

/-- The 64 bytes of a line, as stored. -/
def Dev.rawLine (d : Dev) (l : Nat) : List Byte := d.peek (64 * l) 64

/-- The mark of a line. -/
def Dev.mark (d : Dev) (l : Nat) : Mark :=
  match d.marks.find? (fun m => m.1 = l) with
  | some m => m.2
  | none => .clean

/-- A line's mark replaced; a clean line is not listed. -/
def Dev.setMark (d : Dev) (l : Nat) (m : Mark) : Dev :=
  let r := d.marks.filter (fun e => e.1 ≠ l)
  { d with marks := if m = .clean then r else r ++ [(l, m)] }

/-- Whether a line's stored poison code reads as poisoned (R29). -/
def Dev.poisoned (d : Dev) (l : Nat) : Bool := (d.mark l).code ≠ 0

/-- Bytes stored without any check: the raw store of a memory array. -/
def Dev.store (d : Dev) (a : Nat) (bs : List Byte) : Dev := { d with mem := Mem.write d.mem a bs }

/-- An uncorrectable error met on a read of a line (R28): counted, logged, the line rewritten with
poison code 0b11; a tables line is reported as a configuration fault (R33), another memory's as a
warning unless it is an instruction memory (R476). -/
def Dev.uncorrectable (d : Dev) (l : Nat) : Dev :=
  let r := regionOf l
  let d := d.inc (.sys (.MEM_UE_CNT_COUNT r))
  let d := d.logFirst (.sys .MEM_UE_LOG_VALID)
    [(.sys .MEM_UE_LOG_LINE, l - regionBase r), (.sys .MEM_UE_LOG_REGION, r)]
  let d := d.setMark l { Mark.clean with code := 3 }
  let d := { d with writeBacks := d.writeBacks.filter (fun x => x ≠ l) }
  if r = 3 then d.fault 9 ((l - regionBase r) % 256)
  else if r = 4 then d else d.warn 5

/-- The bytes of words `w` (a mask of eight) of a line replaced by free bytes: a word with three or
more flipped bits that the code corrected wrongly (R28). -/
def Dev.garble (d : Dev) (bs : List Byte) (w : Nat) : List Byte × Dev :=
  let (fs, d) := d.freshBytes 64
  ((List.range 64).map (fun i => if bitAt w (i / 8) then fs.getD i 0 else bs.getD i 0), d)

/-- A read of a line: its bytes, whether it is delivered poisoned, and the error handling of
R27 to R29.  A word with three or more flipped bits is found uncorrectable, corrected wrongly or not
found, which one a free value decides (R28). -/
def Dev.readLine (d : Dev) (l : Nat) : List Byte × Bool × Dev :=
  let m := d.mark l
  let bs := d.rawLine l
  let (k, d) := if m.multi ≠ 0 then d.fresh else (2, d)
  if m.ue ≠ 0 ∨ (m.multi ≠ 0 ∧ k % 3 = 0) then (bs, true, d.uncorrectable l)
  else
    let wrong := if m.multi ≠ 0 ∧ k % 3 = 1 then m.multi else 0
    let (bs, d) := if wrong ≠ 0 then d.garble bs wrong else (bs, d)
    let n := popCount 8 m.ce + popCount 8 wrong + (if m.code = 1 ∨ m.code = 2 then 1 else 0)
    let d := if n = 0 then d else d.incBy (.sys (.MEM_CE_CNT_COUNT (regionOf l))) n
    let d := if m.ce = 0 ∨ l ∈ d.writeBacks then d
      else { d with writeBacks := d.writeBacks ++ [l] }
    (bs, m.code ≠ 0, d)

/-- A full 64-byte write of a line (R30, R31). -/
def Dev.writeLine (d : Dev) (l : Nat) (bs : List Byte) (poison : Bool) : Dev :=
  let d := d.store (64 * l) (sliceB bs 0 64)
  let d := d.setMark l (if poison then { Mark.clean with code := 3 } else .clean)
  { d with writeBacks := d.writeBacks.filter (fun x => x ≠ l) }

/-- A write of part of a line: its read-modify-write corrects single errors (R45) and leaves a
poisoned or uncorrectable line poisoned (R31). -/
def Dev.writePart (d : Dev) (l off : Nat) (bs : List Byte) (poison : Bool) : Dev :=
  let (_, pz, d) := d.readLine l
  let code := (d.mark l).code
  let d := d.store (64 * l + off) bs
  let d := d.setMark l { Mark.clean with code := if poison then 3 else if pz then (if code = 0 then 3 else code) else 0 }
  { d with writeBacks := d.writeBacks.filter (fun x => x ≠ l) }

/-- Bytes written from offset `off` of a run of lines; a whole line is written full. -/
def Dev.writeRun (d : Dev) (lines : List Nat) (off : Nat) (bs : List Byte) (poison : Bool) : Dev :=
  match lines with
  | [] => d
  | l :: ls =>
    if off ≥ 64 then d.writeRun ls (off - 64) bs poison
    else if bs = [] then d
    else
      let here := bs.take (64 - off)
      let d := if off = 0 ∧ here.length = 64 then d.writeLine l here poison
        else d.writePart l off here poison
      d.writeRun ls 0 (bs.drop (64 - off)) poison

/-- Bytes with the poison of the lines they came from. -/
abbrev PByte := Byte × Bool

/-- Bytes with their poison written from offset `off` of a run of lines: a line that takes a poisoned byte is poisoned as a
whole (R30). -/
def Dev.putMarked (d : Dev) (lines : List Nat) (off : Nat) (bs : List PByte) : Dev :=
  match lines with
  | [] => d
  | l :: ls =>
    if off ≥ 64 then d.putMarked ls (off - 64) bs
    else if bs = [] then d
    else
      let here := bs.take (64 - off)
      (d.writeRun [l] off (here.map (·.1)) (here.any (·.2))).putMarked ls 0 (bs.drop (64 - off))

/-- Lines read in order: their bytes joined, whether any was poisoned. -/
def Dev.readRun (d : Dev) : List Nat → List Byte × Bool × Dev
  | [] => ([], false, d)
  | l :: ls =>
    let (bs, p, d) := d.readLine l
    let (rest, q, d) := d.readRun ls
    (bs ++ rest, p || q, d)

/-- `k` bytes from byte offset `off` of a run of lines, reading only the lines they lie in. -/
def Dev.readBytes (d : Dev) (lines : List Nat) (off k : Nat) : List Byte × Bool × Dev :=
  let first := off / 64
  let n := if k = 0 then 0 else (off + k - 1) / 64 + 1 - first
  let (bs, p, d) := d.readRun ((lines.drop first).take n)
  (sliceB bs (off - 64 * first) k, p, d)

/-- `n` consecutive line numbers. -/
def lineRun (l n : Nat) : List Nat := (List.range n).map (fun i => l + i)

/-! ### Line allocation -/

/-- The lowest line of `base .. base + size - 1` that is not in use, looking at most one line
further than there are lines in use. -/
def firstFree (used : List Nat) (base size : Nat) : Nat → Option Nat
  | 0 => none
  | fuel + 1 =>
    if size = 0 then none
    else if used.contains base then firstFree used (base + 1) (size - 1) fuel
    else some base

/-- `n` free lines of a memory taken into use, the lowest first (the spec does not say which free
lines a frame takes: assumption 9); none when the memory has too few. -/
def Dev.alloc (d : Dev) (base size : Nat) : Nat → Option (List Nat × Dev)
  | 0 => some ([], d)
  | n + 1 =>
    match firstFree d.used base size (d.used.length + 1) with
    | none => none
    | some l =>
      match ({ d with used := d.used ++ [l] } : Dev).alloc base size n with
      | none => none
      | some (ls, d) => some (l :: ls, d)

/-- Lines returned to their memory. -/
def Dev.free (d : Dev) (ls : List Nat) : Dev :=
  { d with used := d.used.filter (fun l => !ls.contains l) }

/-! ### Frames -/

/-- The bytes of a frame, whether any of its lines reads poisoned, and the reads' error handling. -/
def Dev.frameBytes (d : Dev) (f : Frame) : List Byte × Bool × Dev :=
  d.readBytes f.lines f.start f.len

/-- Whether a frame contains a poisoned line (R30). -/
def Dev.framePoisoned (d : Dev) (f : Frame) : Bool :=
  ((f.lines.drop (f.start / 64)).take ((f.start + f.len + 63) / 64 - f.start / 64)).any
    (fun l => d.poisoned l)

/-- A new frame in the frame buffer: bytes placed after 128 bytes of headroom (R202), poisoned as a
whole when its source is (R30); none when the buffer has no room. -/
def Dev.newFrame (d : Dev) (bs : List Byte) (poison : Bool) (info : Meta) : Option (Frame × Dev) :=
  match d.alloc (regionBase 1) 65536 ((128 + bs.length + 63) / 64) with
  | none => none
  | some (ls, d) =>
    let (u, d) := d.newUid
    let n := (128 + bs.length + 63) / 64 * 64
    let all := List.replicate 128 (0 : Byte) ++ bs ++ List.replicate (n - 128 - bs.length) 0
    some ({ uid := u, lines := ls, start := 128, len := bs.length, info := info },
      d.writeRun ls 0 all poison)

/-- A frame's content replaced: `bs` from index `start` of its lines, more lines taken at its end when
they are too few; none when the frame buffer has no line free (assumption 9). -/
def Dev.rewriteFrame (d : Dev) (f : Frame) (start : Nat) (bs : List Byte) (poison : Bool) :
    Option (Frame × Dev) :=
  match d.alloc (regionBase 1) 65536 ((start + bs.length + 63) / 64 - f.lines.length) with
  | none => none
  | some (ls, d) =>
    some ({ f with lines := f.lines ++ ls, start := start, len := bs.length },
      d.writeRun (f.lines ++ ls) start bs poison)

/-- Zeros written to `n` whole lines from line `l` (R191, R253, R552). -/
def Dev.zeroLines (d : Dev) (l n : Nat) : Dev :=
  { d with
    mem := d.mem.filter (fun c => !(64 * l ≤ c.1 && c.1 < 64 * (l + n)))
    marks := d.marks.filter (fun m => !(l ≤ m.1 && m.1 < l + n))
    writeBacks := d.writeBacks.filter (fun m => !(l ≤ m && m < l + n)) }

/-- A frame's lines freed. -/
def Dev.dropFrame (d : Dev) (f : Frame) : Dev := d.free f.lines

/-! ### Ports and engines as lists -/

/-- Port `p`. -/
def Dev.port (d : Dev) (p : Nat) : Port := d.ports.getD p {}

/-- Port `p` changed. -/
def Dev.modPort (d : Dev) (p : Nat) (f : Port → Port) : Dev := { d with ports := bankAt 4 {} d.ports p f }

/-- Engine `e`. -/
def Dev.engine (d : Dev) (e : Nat) : Engine := d.engines.getD e {}

/-- Engine `e` changed. -/
def Dev.modEngine (d : Dev) (e : Nat) (f : Engine → Engine) : Dev :=
  { d with engines := bankAt 16 {} d.engines e f }

/-- Whether the safety monitor is armed: its state is ARMED, TRIPPED or RECOVERING (R464). -/
def Dev.armed (d : Dev) : Bool := 2 ≤ d.rd (.saf .STATE_STATE)

/-- Whether flash and OTP writes are inhibited (R497). -/
def Dev.inhibited (d : Dev) : Bool := d.is (.pwr .SUP_STATUS_INHIBIT)

/-- Whether the configuration is sealed (R101). -/
def Dev.sealed (d : Dev) : Bool := d.is (.cfg .STATUS_SEALED)

/-- Whether debug level D2 is active (R532). -/
def Dev.d2 (d : Dev) : Bool := d.rd (.sec .DBG_STATUS_LEVEL) = 2

/-- An enqueue of a frame on a class queue, behind the frames already there. -/
def Dev.enqueueClass (d : Dev) (cls : Nat) (f : Frame) : Dev :=
  { d with classq := d.classq ++ [{ cls := cls, frame := f }] }

end Sys2Proof.Machine
end

