-- ==== Sys2Proof/Machine/State.lean ====
section
/-! DEFINITION.  The machine: the device, its one-time-programmable memory, and the queue of
commands that wait; why a step can stop; the state after reset. -/

namespace Sys2Proof.Machine

/-- Why a step ends in a fault.  The spec gives every command of the table an effect, so no meaning
raises one; the device reports its own faults as state (SAF_FAULT, error logs). -/
inductive Fault where
  /-- Raised by no command; safe. -/
  | none
  deriving DecidableEq, Repr

/-- Why a command is refused. -/
inductive Refusal where
  /-- Raised by `exec` for a command whose meaning is not written; safe. -/
  | notModelled (mnemonic : String)
  deriving DecidableEq, Repr

/-- The machine's state: the device, its one-time-programmable memory, and the commands that wait,
the next one first. -/
structure State where
  dev : Dev
  otp : Otp
  pending : List Sys2Proof.Instr
  deriving DecidableEq, Repr

/-- The machine of a blank part right after power-on reset, whose release (RESET_RELEASE) has not come yet. -/
def State.reset : State := { dev := {}, otp := {}, pending := [] }

/-- Whether a reset kind reinitialises TIM (R543). -/
def ResetKind.hitsTim : ResetKind → Bool
  | .powerOn | .powerOnClass => true
  | _ => false

/-- Whether a reset kind reinitialises SAF (R543). -/
def ResetKind.hitsSaf : ResetKind → Bool
  | .safety | .watchdog true => false
  | _ => true

/-- Whether the device is held in a reset (R543, R593). -/
def State.held (s : State) : Bool := s.dev.boot.stage = 0

/-- Whether the reset in which the device is held covers TIM, whose logic otherwise runs on (R544). -/
def State.heldTim (s : State) : Bool := s.held && s.dev.boot.kind.hitsTim

/-- As `State.heldTim`, of SAF. -/
def State.heldSaf (s : State) : Bool := s.held && s.dev.boot.kind.hitsSaf

/-- The state after an effect on the device and the one-time-programmable memory; none while the block concerned is held in reset. -/
def State.act (s : State) (held : Bool) (f : Otp → Dev → Otp × Dev) : Host.Outcome State Fault Refusal :=
  .next (if held then s else { s with otp := (f s.otp s.dev).1, dev := (f s.otp s.dev).2 })

/-- The state with the device replaced by a function of it: what a command's effect is written with. -/
def State.run (s : State) (f : Dev → Dev) : Host.Outcome State Fault Refusal :=
  .next (if s.held then s else { s with dev := f s.dev })

/-- As `State.run`, for an effect that reads the one-time-programmable memory. -/
def State.runWith (s : State) (f : Otp → Dev → Dev) : Host.Outcome State Fault Refusal :=
  .next (if s.held then s else { s with dev := f s.otp s.dev })

/-- An effect on the device and the one-time-programmable memory. -/
def State.runOtp (s : State) (f : Otp → Dev → Otp × Dev) : Host.Outcome State Fault Refusal := s.act s.held f

/-- As `State.run`, for an effect of TIM. -/
def State.runTim (s : State) (f : Dev → Dev) : Host.Outcome State Fault Refusal :=
  .next (if s.heldTim then s else { s with dev := f s.dev })

/-- As `State.runWith`, for an effect of SAF. -/
def State.runSaf (s : State) (f : Otp → Dev → Dev) : Host.Outcome State Fault Refusal :=
  .next (if s.heldSaf then s else { s with dev := f s.otp s.dev })

/-- An effect that no reset holds back: a reset, or the level of a pin that is sampled at all times. -/
def State.runPin (s : State) (f : Otp → Dev → Otp × Dev) : Host.Outcome State Fault Refusal := s.act false f

end Sys2Proof.Machine
end

