-- ==== Sys2Proof/Machine/TickOps.lean ====
section
/-! DEFINITION.  Time, the Ephemeris in force, slot resources, completion records and class queues:
the operations of the tick that every family uses (R48 to R75, R195, R198). -/

namespace Sys2Proof.Machine

open Sys2Proof

/-! ### The passing of time -/

/-- The shaper credits of a port after `c` ETH cycles (R143). -/
def Dev.accrue (d : Dev) (p c : Nat) : Dev :=
  d.modPort p (fun x =>
    { x with credit := (List.range 8).map (fun q =>
        let old := x.credit.getD q 0
        let rate := d.rd (.mac (.TXQ_SHAPE_RATE p q))
        if rate = 0 then old
        else min (old + (rate * 32 * c : Nat)) ((d.rd (.mac (.TXQ_SHAPE_BURST p q)) * 800000 : Nat) : Int)) })

/-- The denominator of the timebase's rate: FREQ_ADJ counts units of 2⁻⁸ ppb (R435). -/
def freqUnit : Int := 256000000000

/-- The signed frequency adjustment. -/
def Dev.freqAdj (d : Dev) : Int := toSigned 32 (d.rd (.tim .FREQ_ADJ_ADJ))

/-- The events of `n` CORE cycles and `c` ETH cycles counted: CORE_CYCLES, ENG_BUSY, CRY_BUSY and MAC_TXQ_HELD (R567). -/
def Dev.countCycles (d : Dev) (n c : Nat) : Dev :=
  if d.pmcEnabled.isEmpty then d
  else
    let d := d.count 0x01 0 n
    let d := (List.range 16).foldl (fun d e =>
      let st := d.rd (.eng (if e % 2 = 0 then .PAIR_STATUS_STATE_A (e / 2) else .PAIR_STATUS_STATE_B (e / 2)))
      let pair : Bool := d.rd (.eng (.PAIR_CFG_MODE (e / 2))) = 0
      if (st = 1 ∨ st = 2) ∧ !(pair && e % 2 = 1) then d.count 0x11 e n else d) d
    let d := (List.range 2).foldl (fun d p =>
      if (d.cry.pipes.getD p {}).queue.isEmpty then d else d.count 0x71 p n) d
    (List.range 32).foldl (fun d i =>
      let x := d.port (i / 8)
      if (x.txq.getD (i % 8) []).isEmpty ∨ x.hold.getD (i % 8) none = none then d else d.count 0x35 i c) d

/-- `n` nanoseconds pass: CORE counts `n` cycles, the timebase advances at its adjusted rate, and the
ETH domain's shapers gain the credit of 5 cycles in 16 ns. -/
def Dev.elapse (d : Dev) (n : Nat) : Dev :=
  if n = 0 then d else
  let t := d.tbFrac + (n : Int) * (freqUnit + d.freqAdj)
  let c := (d.ethPhase + 5 * n) / 16
  let d : Dev := { d with
    now := d.now + n
    tb := d.tb + (t / freqUnit).toNat
    tbFrac := t % freqUnit
    ethPhase := (d.ethPhase + 5 * n) % 16
    tick := { d.tick with cyc := d.tick.cyc + n } }
  ((List.range 4).foldl (fun d p => d.accrue p c) d).countCycles n c

/-- The nanoseconds until the timebase reaches `x` (0 when it has). -/
def Dev.untilTb (d : Dev) (x : Nat) : Nat :=
  let need := ((x : Int) - d.tb) * freqUnit - d.tbFrac
  let rate := freqUnit + d.freqAdj
  if need ≤ 0 then 0 else ((need + rate - 1) / rate).toNat

/-- Time passes until the timebase reaches `x`. -/
def Dev.elapseTb (d : Dev) (x : Nat) : Dev := d.elapse (d.untilTb x)

/-- Time passes until CORE cycle `c` of the tick. -/
def Dev.elapseCyc (d : Dev) (c : Nat) : Dev := d.elapse (c - d.tick.cyc)

/-! ### The Ephemeris in force -/

/-- The first line of an Ephemeris bank (R608). -/
def ephLine (bank : Nat) : Nat := tableLine (0x2880 + 0x20 * bank)

/-- `k` bytes of the Ephemeris in force as a little-endian number. -/
def Dev.eph (d : Dev) (off k : Nat) : Nat := ofLe (d.peek (64 * ephLine d.cfg.bank + off) k)

/-- P2_OFF (R59). -/
def Dev.p2Off (d : Dev) : Nat := d.eph 4 4 % 2 ^ 21
/-- P3_OFF, in ns (R59). -/
def Dev.p3Off (d : Dev) : Nat := d.eph 8 4 % 2 ^ 21
/-- P4_OFF (R59). -/
def Dev.p4Off (d : Dev) : Nat := d.eph 12 4 % 2 ^ 21
/-- GUARD_NS of a port (R59). -/
def Dev.guardNs (d : Dev) (p : Nat) : Nat := d.eph (0x10 + 8 * p) 4 % 2 ^ 21
/-- REL_LIMIT of a port (R59). -/
def Dev.relLimit (d : Dev) (p : Nat) : Nat := d.eph (0x14 + 8 * p) 4 % 2 ^ 24
/-- SCHED of a port (R59). -/
def Dev.sched (d : Dev) (p : Nat) : Bool := bitAt (d.eph (0x14 + 8 * p) 4) 31

/-- A slot entry of an Ephemeris (R60). -/
structure Slot where
  start : Nat
  kind : Nat
  enable : Bool
  safety : Bool
  budget : Nat
  target : Nat
  deriving DecidableEq, Repr

/-- A slot entry from its words. -/
def Slot.ofWords (w0 w1 w2 : Nat) : Slot :=
  { start := w0 % 2 ^ 21, kind := bitsOf w0 24 3, enable := bitAt w0 27, safety := bitAt w0 28,
    budget := w1 % 2 ^ 21, target := w2 }

/-- Slot `n` of the Ephemeris in force. -/
def Dev.slot (d : Dev) (n : Nat) : Slot :=
  Slot.ofWords (d.eph (0x40 + 16 * n) 4) (d.eph (0x44 + 16 * n) 4) (d.eph (0x48 + 16 * n) 4)

/-- Whether a slot runs: ENABLE is 1 and KIND is 1 to 4 (R62). -/
def Slot.on (s : Slot) : Bool := s.enable && 1 ≤ s.kind && s.kind ≤ 4
/-- TARGET.PAIR. -/
def Slot.pair (s : Slot) : Nat := bitsOf s.target 0 3
/-- TARGET.HALF. -/
def Slot.half (s : Slot) : Nat := bitsOf s.target 3 1
/-- TARGET.PROGRAM. -/
def Slot.program (s : Slot) : Nat := bitsOf s.target 4 12
/-- TARGET.CLASS. -/
def Slot.cls (s : Slot) : Nat := bitsOf s.target 16 8
/-- TARGET.CHANNEL. -/
def Slot.channel (s : Slot) : Nat := bitsOf s.target 0 5
/-- TARGET.STEP or TARGET.TASK. -/
def Slot.step (s : Slot) : Nat := bitsOf s.target 0 8

/-- Whether a pair runs in lockstep (ENG_PAIR_CFG.MODE 0): one engine. -/
def Dev.lockstep (d : Dev) (p : Nat) : Bool := d.rd (.eng (.PAIR_CFG_MODE p)) = 0

/-- The engine a slot names: the pair's, or the named half in split mode (R61). -/
def Dev.slotEngine (d : Dev) (s : Slot) : Nat :=
  2 * s.pair + (if d.lockstep s.pair then 0 else s.half)

/-- The resources of R61. -/
inductive Resource where
  | engine (e : Nat)
  | channel (t : Nat)
  | calibration
  | housekeeping
  deriving DecidableEq, Repr

/-- The resource a slot uses (R61). -/
def Dev.resource (d : Dev) (s : Slot) : Resource :=
  if s.kind = 1 then .engine (d.slotEngine s)
  else if s.kind = 2 then .channel s.channel
  else if s.kind = 3 then .calibration
  else .housekeeping

/-- The occurrence of slot `n` in the current tick. -/
def Dev.occ (d : Dev) (n : Nat) : Occ := d.tick.occ.getD n {}

/-- The occurrence of slot `n` changed. -/
def Dev.modOcc (d : Dev) (n : Nat) (f : Occ → Occ) : Dev :=
  { d with tick := { d.tick with occ := bankAt 64 {} d.tick.occ n f } }

/-- Slots of the tick whose occurrence is in a state. -/
def Dev.occIn (d : Dev) (st : OccState) : List Nat :=
  (List.range 64).filter (fun n => (d.occ n).state = st && (d.slot n).on)

/-- The running occurrence that holds a resource. -/
def Dev.holder (d : Dev) (r : Resource) : Option Nat :=
  (d.occIn .running).find? (fun n => d.resource (d.slot n) = r)

/-! ### Request lines -/

/-- One event of a request line (R330). -/
def Dev.reqEvent (d : Dev) (i : Nat) : Dev := d.inc (.dma (.REQ_MAP_PENDING i))

/-- An event of a source: every line mapped to it counts one (R330). -/
def Dev.reqSource (d : Dev) (kind : Nat) (sel : Nat → Bool) : Dev :=
  (List.range 64).foldl (fun d i =>
    if d.rd (.dma (.REQ_MAP_KIND i)) = kind ∧ sel (d.rd (.dma (.REQ_MAP_ARG i))) then d.reqEvent i else d) d

/-! ### Completion records -/

/-- A TCK event raised when its enable is 1 (source 0). -/
def Dev.tckEvent (d : Dev) (status enable : TckF) : Dev := d.event (.tck status) (.tck enable) 0

/-- The completion record of R67 as a 64-bit word. -/
def recWord (tick slot status late lateStart used : Nat) : Nat :=
  tick % 2 ^ 32 + slot % 64 * 2 ^ 32 + status % 8 * 2 ^ 38 + late % 2 * 2 ^ 41 + lateStart % 2 * 2 ^ 42
    + used % 2 ^ 21 * 2 ^ 43

/-- One completion record written to TCK_SLOT_REC and pushed to the FIFO when R67 says so. -/
def Dev.record (d : Dev) (n status : Nat) (late lateStart : Bool) (used : Nat) : Dev :=
  let d := d.wrs [(.tck (.SLOT_REC_TICK n), d.tick.coreTick % 2 ^ 32), (.tck (.SLOT_REC_SLOT n), n),
    (.tck (.SLOT_REC_STATUS n), status), (.tck (.SLOT_REC_CANCEL_LATE n), b2n late),
    (.tck (.SLOT_REC_LATE_START n), b2n lateStart), (.tck (.SLOT_REC_USED n), used)]
  if status ≠ 0 ∨ late ∨ lateStart ∨ d.is (.tck .CTRL_REC_ALL) then
    if 256 ≤ d.tick.fifo.length then d.inc (.tck .REC_OVF_COUNT)
    else { d with tick := { d.tick with fifo := d.tick.fifo ++
      [recWord d.tick.coreTick n status (b2n late) (b2n lateStart) used] } }
  else d

/-- Frames that a cut or abandoned engine program did not reach are carried and counted (R66). -/
def Dev.carry (d : Dev) (s : Slot) : Dev :=
  if s.kind ≠ 1 then d else
  let p := fun (q : QFrame) => q.cls = s.cls ∧ q.frame.info.batch < d.tick.coreTick
  let n := (d.classq.filter (fun q => p q)).length
  { d with classq := updWhere d.classq (fun q => p q) (fun q => { q with carried := true }) }.incBy
    (.tck .CARRY_CNT_COUNT) n

/-- The occurrence of slot `n` ends with a status (0 DONE, 1 CUT, 2 CANCELLED, 3 ABANDONED, 4 FAULT):
one record (R67), cuts counted and reported, a safety slot's CUT or ABANDONED reported (R68). -/
def Dev.endOcc (d : Dev) (n status : Nat) : Dev :=
  let o := d.occ n
  let s := d.slot n
  let ran : Bool := o.state = .running
  let d := d.modOcc n (fun o => { o with state := .ended, endAt := d.tick.cyc })
  let d := d.record n status (ran && o.cancelLate) (ran && s.start + 1 < o.dispAt)
    (if ran then d.tick.cyc - o.dispAt else 0)
  let d := if status = 1 then (d.inc (.tck .CUT_CNT_COUNT)).tckEvent .STATUS_SLOT_CUT .CTRL_IRQ_CUT_EN else d
  let d := if status = 1 ∨ status = 3 ∨ status = 4 then d.carry s else d
  let d := if status = 0 ∧ s.kind = 1 then d.reqSource 5 (fun a => a % 8 = s.pair) else d
  if s.safety ∧ (status = 1 ∨ status = 3) then d.fault 3 n else d

/-! ### Class queues -/

/-- Whether a class queue is served: by an enabled engine slot of the Ephemeris in force, or by a
valid best-effort binding (R198). -/
def Dev.servedBySlot (d : Dev) (cls : Nat) : Bool :=
  (List.range 64).any (fun n => (d.slot n).on && (d.slot n).kind = 1 && (d.slot n).cls = cls)

/-- Whether a class has a valid best-effort binding. -/
def Dev.bound (d : Dev) (cls : Nat) : Bool :=
  (List.range 16).any (fun i => d.is (.eng (.BE_BIND_VALID i)) && d.rd (.eng (.BE_BIND_CLASS i)) = cls)

/-- Whether a class queue accepts frames (R198). -/
def Dev.served (d : Dev) (cls : Nat) : Bool := d.servedBySlot cls || d.bound cls

/-- Whether the device holds a loaded configuration (CFG_STATUS.CONFIG, R92). -/
def Dev.loaded (d : Dev) : Bool := d.rd (.cfg .STATUS_CONFIG) = 1

end Sys2Proof.Machine
end

