-- ==== Sys2Proof/Machine/Bus.lean ====
section
/-! DEFINITION.  The host link as the other blocks use it: which functions may issue, writes to the host,
the Vat and its quotas, tags, error logging and containment triggers (R315 to R325, R347, R374, R380 to
R400), and writes to the modems (R417, R418). -/

namespace Sys2Proof.Machine

open Sys2Proof

/-! ### Functions -/

/-- Whether a function exists: PF0, PF1, or a VF of an enabled set (R353). -/
def Dev.fnExists (d : Dev) (f : Nat) : Bool :=
  f < 2 || (d.is (.cs 0 .SRIOV_VFE) && f < 2 + d.rd (.cs 0 .SRIOV_NUMVFS))

/-- Whether a function is in D0; a VF has no PowerState. -/
def Dev.inD0 (d : Dev) (f : Nat) : Bool := 2 ≤ f || d.rd (.cs f .PM_STATE) = 0

/-- Whether a function may issue requests but for containment (R374, R375): it exists, its Bus Master Enable is 1,
it is in D0, it is not in a function-level reset, and the data link layer is up. -/
def Dev.fnMaster (d : Dev) (f : Nat) : Bool :=
  d.fnExists f && d.is (.cs f .CMD_BME) && d.inD0 f && !d.is (.hep (.FN_STATUS_FLR_BUSY f))
    && d.is (.hep .LINK_STATUS_DL_UP)

/-- Whether the host port is contained: FROZEN (R397). -/
def Dev.frozen (d : Dev) : Bool := d.rd (.hep .CTN_STATUS_STATE) = 1

/-- Whether new requests for a function are issued: the port is in RUN (R347, R405). -/
def Dev.mayIssue (d : Dev) (f : Nat) : Bool := d.fnMaster f && d.rd (.hep .CTN_STATUS_STATE) = 0

/-- Whether completion entries of a function are written: the port is not FROZEN (R312, R405). -/
def Dev.mayWrite (d : Dev) (f : Nat) : Bool := d.fnMaster f && !d.frozen

/-- The Max_Payload_Size in force (R358): PF0's. -/
def Dev.mps (d : Dev) : Nat := 128 * 2 ^ min (d.rd (.cs 0 .DC_MPS)) 2

/-- The Max_Read_Request_Size of a function (R358). -/
def Dev.mrrs (d : Dev) (f : Nat) : Nat := 128 * 2 ^ min (d.rd (.cs f .DC_MRRS)) 5

/-! ### Error logging and containment -/

/-- The number of quarantined tags (R393). -/
def Dev.quarantined (d : Dev) : Nat := (d.hep.tags.filter (fun t => t.st ≠ .out)).length

/-- Whether the enable of a containment trigger is 1 (R398). -/
def Dev.triggerOn (d : Dev) (code : Nat) : Bool :=
  match code with
  | 1 => d.is (.hep .CTN_CTRL_TRIG_FATAL)
  | 2 => d.is (.hep .CTN_CTRL_TRIG_NONFATAL)
  | 3 => d.is (.hep .CTN_CTRL_TRIG_POISON)
  | 4 => d.is (.hep .CTN_CTRL_TRIG_CPL_TMO)
  | 5 => d.is (.hep .CTN_CTRL_TRIG_QUAR)
  | _ => true

/-- A containment event reported (R406): event source 9, PF1's CTN bit, the safety monitor. -/
def Dev.ctnEvent (d : Dev) (status : HepF) : Dev :=
  ((d.event (.hep status) (.hep .CTN_EVT_IRQ_EN) 9).wr (.hep .PF1_IPEND_CTN) 1).warn 1

/-- Containment triggers presented in one cycle, the lowest code first (R398). -/
def Dev.present (d : Dev) (codes : List Nat) : Dev :=
  match codes.filter (fun c => d.triggerOn c) with
  | [] => d
  | c :: cs =>
    let d := (c :: cs).foldl (fun d c => d.setFldBit (.hep .CTN_LOG_TRIGGERS) (c - 1)) d
    if d.frozen then d
    else
      let seq := d.rd (.hep .CTN_STATUS_SEQ)
      (d.wrs [(.hep .CTN_STATUS_CAUSE, c), (.hep .CTN_STATUS_SEQ, if seq = 65535 then 1 else seq + 1),
        (.hep .CTN_TICK_TICK, d.tick.coreTick % 2 ^ 32), (.hep .CTN_STATUS_STATE, 1)]).ctnEvent .CTN_EVT_ENTERED

/-- The function whose AER capability logs an error of function `f` (R382). -/
def aerOwner (f : Nat) : Nat := if f = 1 then 1 else 0

/-- The header log of a function's AER capability taken: its content is the TLP's, which the commands do
not carry (assumption 4). -/
def Dev.headerLog (d : Dev) (g bit : Nat) : Dev :=
  if d.rd (.cs g .AER_UE_STS) ≠ 0 then d
  else
    let (a, d) := d.fresh
    let (b, d) := d.fresh
    let (c, d) := d.fresh
    let (e, d) := d.fresh
    d.wrs [(.cs g .AER_FEP, bit), (.cs g .AER_HDRLOG0, a), (.cs g .AER_HDRLOG1, b), (.cs g .AER_HDRLOG2, c),
      (.cs g .AER_HDRLOG3, e)]

/-- Whether an error message of a kind (0 ERR_COR, 1 ERR_NONFATAL, 2 ERR_FATAL) is permitted by a
function's reporting enables. -/
def Dev.errEnabled (d : Dev) (g kind : Nat) : Bool :=
  if kind = 0 then d.is (.cs g .DC_CERE)
  else if kind = 1 then d.is (.cs g .DC_NFERE) || d.is (.cs g .CMD_SERR)
  else d.is (.cs g .DC_FERE) || d.is (.cs g .CMD_SERR)

/-- An error message sent by the first function of a list that may send it (R382, R384); Signaled System Error
is set when SERR# Enable is 1. -/
def Dev.errMessage (d : Dev) (gs : List Nat) (kind : Nat) : Dev :=
  if !d.is (.hep .LINK_STATUS_DL_UP) then d
  else match gs.find? (fun g => d.errEnabled g kind) with
    | none => d
    | some g =>
      let d := d.emit (.errMsg kind g)
      if kind ≠ 0 ∧ d.is (.cs g .CMD_SERR) then d.wr (.cs g .STS_SSE) 1 else d

/-- One function's log of an uncorrectable error: status, header, Device Status. -/
def Dev.ueLog (d : Dev) (g bit : Nat) (fatal advisory : Bool) : Dev :=
  let d := (d.headerLog g bit).setFldBit (.cs g .AER_UE_STS) bit
  let d := if bit = 20 then d.wr (.cs g .DS_URD) 1 else d
  let d := if bit = 12 then d.wr (.cs g .STS_DPE) 1 else d
  if fatal then d.wr (.cs g .DS_FED) 1
  else if advisory then (d.wr (.cs g .DS_CED) 1).setFldBit (.cs g .AER_CE_STS) 13
  else d.wr (.cs g .DS_NFED) 1

/-- An uncorrectable error (AER bit `bit`) logged by functions `gs`, each function's severity and the class deciding its log, the
message of the first function that may send its own, and the triggers (R380 to R382, R398); further triggers of the same cycle in
`more`. -/
def Dev.ueError (d : Dev) (gs : List Nat) (bit : Nat) (advisory : Bool) (more : List Nat) : Dev :=
  let fatal := fun g => bitAt (d.rd (.cs g .AER_UE_SEV)) bit
  let kind := fun g => if fatal g then 2 else if advisory then 0 else 1
  let may := fun g => !bitAt (d.rd (.cs g .AER_UE_MASK)) bit && (kind g ≠ 0 || !bitAt (d.rd (.cs g .AER_CE_MASK)) 13) && d.errEnabled g (kind g)
  let d := gs.foldl (fun d g => d.ueLog g bit (fatal g) advisory) d
  let d := match gs.find? may with
    | some g => d.errMessage [g] (kind g)
    | none => d
  d.present ((if gs.any fatal then [1] else []) ++ (if gs.any (fun g => kind g = 1) then [2] else []) ++ more)

/-- A correctable error (AER bit `bit`) logged by PF0 and PF1 (R380, R382). -/
def Dev.ceError (d : Dev) (bit : Nat) : Dev :=
  let gs := [0, 1]
  let d := gs.foldl (fun d g => (d.setFldBit (.cs g .AER_CE_STS) bit).wr (.cs g .DS_CED) 1) d
  d.errMessage (gs.filter (fun g => !bitAt (d.rd (.cs g .AER_CE_MASK)) bit)) 0

/-- A HEP_ERR_CNT counter increased. -/
def Dev.errCnt (d : Dev) (i : Nat) : Dev := d.inc (.hep (.ERR_CNT_COUNT i))

/-! ### The Vat -/

/-- U[f]: the Vat lines function `f` holds (R317). -/
def Dev.vatUsed (d : Dev) (f : Nat) : Nat := (d.dma.vat.filter (fun e => e.2 = f)).length

/-- The sum of the reserves of the functions below `f`. -/
def Dev.vatBelow (d : Dev) (f : Nat) : Nat :=
  (List.range f).foldl (fun n g => n + d.rd (.dma (.VAT_QUOTA_RESERVE g))) 0

/-- G[f] (R317). -/
def Dev.vatGuar (d : Dev) (f : Nat) : Nat := min (d.rd (.dma (.VAT_QUOTA_RESERVE f))) (8192 - d.vatBelow f)

/-- The size P of the shared pool (R317). -/
def Dev.vatPool (d : Dev) : Nat := 8192 - (List.range 50).foldl (fun n g => n + d.vatGuar g) 0

/-- The pool lines in use (R317). -/
def Dev.vatPoolUsed (d : Dev) : Nat := (List.range 50).foldl (fun n g => n + (d.vatUsed g - d.vatGuar g)) 0

/-- Whether an allocation of `n` lines for `f` proceeds (R317). -/
def Dev.vatOk (d : Dev) (f n : Nat) : Bool :=
  let u := d.vatUsed f
  let g := d.vatGuar f
  u + n ≤ max (d.rd (.dma (.VAT_QUOTA_LIMIT f))) g &&
    (u + n - g) - (u - g) ≤ d.vatPool - d.vatPoolUsed && d.dma.vat.length + n ≤ 8192

/-- `n` free Vat lines, the lowest first (assumption 9). -/
def vatPick (used : List (Nat × Nat)) (n : Nat) : List Nat :=
  ((List.range (used.length + n)).filter (fun l => !used.any (fun e => e.1 = l))).take n

/-- `n` Vat lines taken for `f` (R317). -/
def Dev.vatTake (d : Dev) (f n : Nat) : Option (List Nat × Dev) :=
  if d.vatOk f n then
    let ls := vatPick d.dma.vat n
    let d := ls.foldl (fun (d : Dev) l => d.zeroLines (vatLine l) 1) d
    some (ls, { d with dma := { d.dma with vat := d.dma.vat ++ ls.map (fun l => (l, f)) } })
  else none

/-- Vat lines released. -/
def Dev.vatFree (d : Dev) (ls : List Nat) : Dev :=
  { d with dma := { d.dma with vat := d.dma.vat.filter (fun e => !ls.contains e.1) } }

/-! ### Writes to the host -/

/-- Clean bytes. -/
def clean (bs : List Byte) : List PByte := bs.map (fun b => (b, false))

/-- Bytes that share one poison mark. -/
def marked (bs : List Byte) (p : Bool) : List PByte := bs.map (fun b => (b, p))

/-- A write TLP that leaves for the host, counted (R567). -/
def Dev.hostOut (d : Dev) (f addr : Nat) (bs : List PByte) (ep : Bool) : Dev :=
  ((d.emit (.memWrite f addr (bs.map (·.1)) ep)).count 0x41 f bs.length).count 0x50 0 1

/-- One write TLP for function `f`, its poison handled by HEP_POISON_TX (R388). -/
def Dev.hostTlp (d : Dev) (f addr : Nat) (bs : List PByte) : Dev :=
  if bs.any (·.2) then
    if bitAt (d.rd (.hep .POISON_TX_MODE)) f then d.errCnt 5
    else
      let d := (d.hostOut f addr bs true).errCnt 4
      let g := if 2 ≤ f then 0 else f
      if d.is (.cs g .CMD_PER) then d.wr (.cs f .STS_MDPE) 1 else d
  else d.hostOut f addr bs false

/-- Bytes written in TLPs of at most `mps` bytes that cross no 4 KiB boundary, in ascending order (R325). -/
def Dev.splitWrite (tlp : Dev → Nat → List PByte → Dev) (mps : Nat) :
    Nat → Dev → Nat → List PByte → Dev
  | 0, d, _, _ => d
  | fuel + 1, d, addr, bs =>
    if bs = [] then d
    else
      let n := min mps (4096 - addr % 4096)
      Dev.splitWrite tlp mps fuel (tlp d addr (bs.take n)) (addr + n) (bs.drop n)

/-- A memory write to the host on behalf of `f` (R325, R388). -/
def Dev.hostWrite (d : Dev) (f addr : Nat) (bs : List PByte) : Dev :=
  Dev.splitWrite (fun d a b => d.hostTlp f a b) d.mps bs.length d addr bs

/-! ### Requests to the host -/

/-- The tag pool of function `f`: first tag and number (R322, R361). -/
def Dev.tagPool (d : Dev) (f : Nat) : Nat × Nat :=
  if d.is (.cs f .DC2_TAG10) then (0x100, 512)
  else if d.is (.cs f .DC_EXTTAG) then (0, 256)
  else (0, 32)

/-- The lowest free tags of function `f` (which free tag a request takes is not stated: assumption 9). -/
def Dev.freeTags (d : Dev) (f n : Nat) : List Nat :=
  let (b, k) := d.tagPool f
  (((List.range k).map (fun i => b + i)).filter (fun t => !d.hep.tags.any (fun g => g.tag = t))).take n

/-- The requests a range of host addresses is split into: none longer than Max_Read_Request_Size, each but the
last ending at a multiple of it, so none crosses a 4 KiB boundary (R322; assumption 11). -/
def splitReads (mrrs : Nat) : Nat → Nat → Nat → List (Nat × Nat)
  | 0, _, _ => []
  | fuel + 1, addr, len =>
    if len = 0 then []
    else
      let n := min len (mrrs - addr % mrrs)
      (addr, n) :: splitReads mrrs fuel (addr + n) (len - n)

/-- The 64-byte lines a range covers. -/
def linesIn (addr len : Nat) : Nat := if len = 0 then 0 else (addr + len - 1) / 64 + 1 - addr / 64

/-- One read request of function `f` issued with a tag, Vat lines and a completion timer; `shown` is the length it asks for, 0 for a
zero-length read (R322, R327, R360, R390). -/
def Dev.hostReadAs (d : Dev) (f addr len shown : Nat) (cl : Client) : Option Dev :=
  match (d.freeTags f 1).head? with
  | none => none
  | some t =>
    if 512 ≤ d.hep.tags.length ∨ d.rd (.hep (.RDQ_MAX f)) ≤ (d.hep.tags.filter (fun g => g.f = f)).length then none
    else match d.vatTake f (linesIn addr len) with
      | none => none
      | some (ls, d) =>
        some (({ d with hep := { d.hep with tags := d.hep.tags ++
          [{ tag := t, f := f, client := cl, addr := addr, len := len, lines := ls
             expiry := d.now + d.rd (.hep .CPL_TMO_MS) * 1000000 }] } } : Dev).emit (.memRead f addr shown t) |>.count 0x50 0 1)

/-- One read request issued. -/
def Dev.hostRead1 (d : Dev) (f addr len : Nat) (cl : Client) : Option Dev := d.hostReadAs f addr len len cl

/-- The requests of a burst, all or none; `cl` names the client of the request at an offset. -/
def Dev.hostReads (d : Dev) (f : Nat) (cl : Nat → Client) (off : Nat) : List (Nat × Nat) → Option Dev
  | [] => some d
  | (a, n) :: rs =>
    match d.hostRead1 f a n (cl off) with
    | none => none
    | some d => d.hostReads f cl (off + n) rs

/-- A read of `len` bytes of host memory on behalf of `f` (R322). -/
def Dev.hostRead (d : Dev) (f addr len : Nat) (cl : Nat → Client) (off : Nat) : Option Dev :=
  d.hostReads f cl off (splitReads (d.mrrs f) len addr len)

/-- The DMA event interrupt of PF0 (source 8). -/
def Dev.dmaEvent (d : Dev) (status : DmaF) : Dev := d.event (.dma status) (.dma .CTRL_IRQ_EN) 8

/-- Requests written off or timed out: their tags quarantined in state `st`, their Vat lines released
(R323, R392, R393), the QUAR trigger presented when the limit is reached (R398). -/
def Dev.writeOff (d : Dev) (p : Tag → Bool) (st : TagState) : Dev :=
  let hit := fun t => t.st = .out && p t
  let before := d.quarantined
  let ls := (d.hep.tags.filter hit).flatMap (·.lines)
  let d := { d with hep := { d.hep with
    tags := updWhere d.hep.tags hit (fun t => { t with st := st, lines := [] }) } }.vatFree ls
  let lim := d.rd (.hep .CTN_CTRL_QUAR_LIMIT)
  if before < lim ∧ lim ≤ d.quarantined then d.present [5] else d

/-! ### Writes to the modems -/

/-- Root port `rp`. -/
def Dev.rp (d : Dev) (rp : Nat) : Rp := d.rps.getD rp {}

/-- Root port `rp` changed. -/
def Dev.modRp (d : Dev) (rp : Nat) (f : Rp → Rp) : Dev := { d with rps := bankAt 2 {} d.rps rp f }

/-- LAST of the keepalive set. -/
def Dev.kaSet (d : Dev) (rp tick : Nat) : Dev :=
  (d.modRp rp (fun r => { r with kaLast := tick })).wr (.brg (.KA_LAST_LAST rp)) (tick % 2 ^ 32)

/-- Whether FAB sees a root port in state UP (R408, R427). -/
def Dev.rpUp (d : Dev) (rp : Nat) : Bool := (d.rp rp).fabUp

/-- A BRG_RP_CNT counter increased. -/
def Dev.rpCnt (d : Dev) (rp i : Nat) : Dev := d.inc (.brg (.RP_CNT_COUNT rp i))

/-- A bridge event: HEP event source 10 when BRG_CTRL.IRQ_EN is 1. -/
def Dev.brgEvent (d : Dev) : Dev := if d.is (.brg .CTRL_IRQ_EN) then d.hepEvent 10 else d

/-- One write TLP to a modem, its poison handled by POISON_MODE (R418); buffered prefetched lines of the port are
discarded (R421).  A port that is not UP carries nothing: a contained port discards and counts it (R427). -/
def Dev.modemTlp (d : Dev) (rp addr : Nat) (bs : List PByte) : Dev :=
  if d.rd (.brg (.RP_STATUS_STATE rp)) = 3 ∧ !d.rpUp rp then d.rpCnt rp 7
  else if !d.rpUp rp ∨ !(d.rp rp).dlUp then d
  else
    let d := d.modRp rp (fun r => { r with pf := [] })
    if bs.any (·.2) then
      let d := d.rpCnt rp 1
      if d.is (.brg (.RP_CTRL_POISON_MODE rp)) then d
      else (d.emit (.modemWrite rp addr (bs.map (·.1)) true)).count 0x80 rp 1
    else (d.emit (.modemWrite rp addr (bs.map (·.1)) false)).count 0x80 rp 1

/-- A memory write to the modem of a root port (R417). -/
def Dev.modemWriteBus (d : Dev) (rp addr : Nat) (bs : List PByte) : Dev :=
  Dev.splitWrite (fun d a b => d.modemTlp rp a b)
    (if d.is (.brg (.RP_CTRL_MPS rp)) then 256 else 128) bs.length d addr bs

/-- The modem bus address of byte 0 of a window (R410). -/
def Dev.winBase (d : Dev) (rp w : Nat) : Nat := d.rd (.brg (.WIN_BASE_ADDR rp w)) * 4096

/-- The size of a window in bytes (R410). -/
def Dev.winSize (d : Dev) (rp w : Nat) : Nat := 2 ^ d.rd (.brg (.WIN_CTRL_LOG2SIZE rp w))

/-- The bytes of Vat or other lines with their poison, read with the error handling of R27 to R29. -/
def Dev.readMarked (d : Dev) : List Nat → List PByte × Dev
  | [] => ([], d)
  | l :: ls =>
    let (bs, p, d) := d.readLine l
    let (rest, d) := d.readMarked ls
    (marked bs p ++ rest, d)

end Sys2Proof.Machine
end

