-- ==== Sys2Proof/Machine/PowerOps.lean ====
section
/-! DEFINITION.  Internal power states as the other blocks meet them: what a state turns off, leaving a state, waking (R505, R515 to
R517, R519). -/

namespace Sys2Proof.Machine

open Sys2Proof

/-- EXIT(a) in ns (R505). -/
def exitNs (a : Nat) : Nat := if a = 1 then 2000 else if a = 2 then 40000 else if a = 3 then 900000 else 0

/-- The internal state (PWR_STATUS.STATE). -/
def Dev.pwrState (d : Dev) : Nat := d.rd (.pwr .STATUS_STATE)

/-- A PWR event: HEP event source 14 when PWR_CTRL.IRQ_EN is 1. -/
def Dev.pwrEvent (d : Dev) (status : PwrF) : Dev := d.event (.pwr status) (.pwr .CTRL_IRQ_EN) 14

/-- A PWR_CNT counter increased. -/
def Dev.pwrCnt (d : Dev) (i : Nat) : Dev := d.inc (.pwr (.CNT_COUNT i))

/-- Whether a state turns pair `p` off (R505). -/
def Dev.pairOff (d : Dev) (p : Nat) : Bool := d.pwrState = 3 || (d.pwrState = 2 && d.rd (.pwr .CTRL_A2_PAIR) ≠ p)

/-- Whether field port `p` sleeps (R505). -/
def Dev.portAsleep (d : Dev) (p : Nat) : Bool := d.pwrState = 3 || (d.pwrState = 2 && d.rd (.pwr .CTRL_A2_PORT) ≠ p)

/-- The state in force begins to be left for state `to`; from A3 no earlier than AON's acceptance of the command (R505, R511, R515). -/
def Dev.leaveState (d : Dev) (dest : Nat) : Dev :=
  let s := d.pwrState
  if s = 0 ∨ d.pwr.leaving.isSome then d
  else
    let t := match d.pwr.committed with
      | some c => if s = 3 then max d.now (c + 122080) else d.now
      | none => d.now
    { d with pwr := { d.pwr with leaving := some (t + exitNs s, dest) } }

/-- The entry to A3 is aborted before its commit cycle (R515). -/
def Dev.abortA3 (d : Dev) : Dev :=
  if d.is (.pwr .STATUS_ENTERING) then
    (((d.wr (.pwr .STATUS_ENTERING) 0).pwrCnt 3).pwrEvent .EVT_A3_ABORT).leaveState 0
  else d

/-- A need that is no wake of R516 arrives: it aborts the entry to A3 before the commit cycle; between the commit and AON's acceptance the
entry completes and A3 is left at once (R515). -/
def Dev.newNeed (d : Dev) : Dev :=
  if d.is (.pwr .STATUS_ENTERING) then d.abortA3
  else if d.pwrState = 3 ∧ d.pwr.committed.any (fun c => d.now < c + 122080) then d.leaveState 0
  else d

/-- PME_Status set for a function in D3hot with PME_En, its message due (R519). -/
def Dev.pmeSet (d : Dev) (f : Nat) : Dev :=
  if f < 2 ∧ d.rd (.cs f .PM_STATE) = 3 ∧ d.is (.cs f .PM_PME_EN) ∧ !d.is (.cs f .PM_PME_STATUS) then
    { d with hep := { d.hep with pmeDue := d.hep.pmeDue ++ [f] } }.wr (.cs f .PM_PME_STATUS) 1
  else d

/-- A wake of R516 whose latch in AON is `latch`: A2 and A3 are left, an entry to A3 is aborted, from A3 the source is latched and PF0's
PME_Status set (R515, R516, R519). -/
def Dev.wake (d : Dev) (latch : Dev → Dev) : Dev :=
  if d.is (.pwr .STATUS_ENTERING) then d.abortA3
  else if d.pwrState = 3 then ((latch d).pmeSet 0).leaveState 0
  else if d.pwrState = 2 then d.leaveState 0
  else d

/-- The watchdog restarts from its full period (R548). -/
def Dev.wdtRestart (d : Dev) : Dev :=
  { d with sbd := { d.sbd with wdtAcc := 0, wdtFrom := if d.is (.sbd .WDT_CFG_EN) then some d.now else none } }

/-- The content of a sample buffer that A3 lost: free bytes, all of them out of one free number (R505, assumption 4). -/
def Dev.smpLost (d : Dev) (p : Nat) : Dev :=
  let (v, d) := d.fresh
  { d with pmc := { d.pmc with smp := bankAt 8 {} d.pmc.smp p (fun u => { u with
    buf := (List.range 128).map (fun i => leBytes 32 (v / 256 ^ (32 * i)))
    bad := [] }) } }

/-- What A3 loses is initialised at its end: the Vat, the frame buffer and MAC staging; the sample buffers are empty (R508, R583), the endpoint ID is 0 (R561); the watchdog restarts (R548). -/
def Dev.fromA3 (d : Dev) : Dev :=
  let d := d.wr (.sbd .SMB_STATUS_EID) 0
  let d := ((d.zeroLines 0 73728).zeroLines (regionBase 6) 1024)
  ((List.range 8).foldl (fun d p => d.wr (.pmc (.SMP_PTR_WR p)) (d.rd (.pmc (.SMP_PTR_RD p))) |>.smpLost p) d).wdtRestart

/-- The exit in progress ends: its resources are usable (R505). -/
def Dev.exitDone (d : Dev) : Dev :=
  match d.pwr.leaving with
  | none => d
  | some (t, dest) =>
    let d := d.elapse (t - d.now)
    let d := if d.pwrState = 3 then d.fromA3 else d
    let d : Dev := { d with pwr := { d.pwr with leaving := none, committed := none } }
    (d.wr (.pwr .STATUS_STATE) dest).pwrEvent .EVT_STATE_CHG

/-- An access that must wait until an A2 or A3 exit has ended (R517). -/
def Dev.heldAccess (d : Dev) : Dev := (d.leaveState 0).exitDone

/-- A request that reaches a register or memory: from A3 the host's wakes the device over the link, and it is held until an exit it needs has
ended (R516, R517). -/
def Dev.arrive (d : Dev) (off : Bool) : Dev :=
  if d.pwrState = 3 then (d.wake (fun d => d.wr (.pwr .WAKE_STATUS_HOST) 1)).exitDone
  else if d.pwrState = 2 ∧ off then d.heldAccess
  else d

/-- A register or memory request from the host, which is a TLP received (R567). -/
def Dev.hostAccess (d : Dev) (off : Bool) : Dev := (d.count 0x51 0 1).arrive off

/-- The effect of a host access to a block that is on in A2. -/
def State.host (s : State) (f : Dev → Dev) : Host.Outcome State Fault Refusal := s.run (fun d => f (d.hostAccess false))

/-- The effect of a host access to a block that may be off in A2, as `off` says. -/
def State.hostAt (s : State) (off : Dev → Bool) (f : Dev → Dev) : Host.Outcome State Fault Refusal :=
  s.run (fun d => f (d.hostAccess (off d)))

/-- As `State.host`, for an effect that reads the one-time-programmable memory. -/
def State.hostWith (s : State) (f : Otp → Dev → Dev) : Host.Outcome State Fault Refusal :=
  s.runWith (fun o d => f o (d.hostAccess false))

/-- A read answered with a completion TLP (R17, R37). -/
def Dev.reply (d : Dev) (value bytes status : Nat) (ep : Bool) : Dev := (d.emit (.readData value bytes status ep)).count 0x50 0 1

/-- A configuration write answered with a completion without data. -/
def Dev.cplDone (d : Dev) : Dev := d.reply 0 0 0 false

end Sys2Proof.Machine
end

