-- ==== Sys2Proof/Machine/RingOps.lean ====
section
/-! DEFINITION.  Rings as the other blocks use them: ownership, reserved entries, the end of a submission
entry and its completion (R281 to R299, R306), and the class queues a frame is offered to (R195, R198). -/

namespace Sys2Proof.Machine

open Sys2Proof

/-! ### Rings -/

/-- Submission ring `n`. -/
def Dev.sq (d : Dev) (n : Nat) : Sq := d.sqs.getD n {}

/-- Submission ring `n` changed. -/
def Dev.modSq (d : Dev) (n : Nat) (f : Sq → Sq) : Dev := { d with sqs := bankAt 256 {} d.sqs n f }

/-- The valid submission ring of a function's local number (R281). -/
def Dev.sqOf (d : Dev) (f r : Nat) : Option Nat :=
  (List.range 256).find? (fun n => d.is (.rng (.SQ_ASSIGN_VALID n)) && d.rd (.rng (.SQ_ASSIGN_FUNC n)) = f &&
    d.rd (.rng (.SQ_ASSIGN_LOCAL n)) = r)

/-- The valid completion ring of a function's local number (R281). -/
def Dev.cqOf (d : Dev) (f r : Nat) : Option Nat :=
  (List.range 256).find? (fun n => d.is (.rng (.CQ_ASSIGN_VALID n)) && d.rd (.rng (.CQ_ASSIGN_FUNC n)) = f &&
    d.rd (.rng (.CQ_ASSIGN_LOCAL n)) = r)

/-- The function that owns a submission ring. -/
def Dev.sqFunc (d : Dev) (n : Nat) : Nat := d.rd (.rng (.SQ_ASSIGN_FUNC n))

/-- The completion ring bound to a submission ring (R282). -/
def Dev.sqCq (d : Dev) (n : Nat) : Option Nat := d.cqOf (d.sqFunc n) (d.rd (.rng (.SQ_BIND_CQ n)))

/-- STATE of a submission ring: 0 DISABLED, 1 RUNNING, 2 ABORTING, 3 STOPPED. -/
def Dev.sqState (d : Dev) (n : Nat) : Nat := d.rd (.rng (.SQ_STATUS_STATE n))

/-- The kind of a submission ring: 0 TX, 1 RX, 2 STORAGE (R284). -/
def Dev.sqKind (d : Dev) (n : Nat) : Nat := d.rd (.rng (.SQ_ASSIGN_KIND n))

/-- The size of a submission ring. -/
def Dev.sqSize (d : Dev) (n : Nat) : Nat := 2 ^ d.rd (.rng (.SQ_CTRL_LOG2SIZE n))

/-- The size of a completion ring. -/
def Dev.cqSize (d : Dev) (c : Nat) : Nat := 2 ^ d.rd (.rng (.CQ_CTRL_LOG2SIZE c))

/-- Whether a submission ring is sealed (R283). -/
def Dev.sqSealed (d : Dev) (n : Nat) : Bool := d.sqFunc n = 1 || d.is (.rng (.SQ_ASSIGN_TICK n))

/-- The tick channel of a tick-bound ring (R303). -/
def Dev.sqTch (d : Dev) (n : Nat) : Option Nat :=
  if d.is (.rng (.SQ_ASSIGN_TICK n)) then some (d.rd (.rng (.SQ_ASSIGN_TCH n))) else none

/-- An RNG_FCNT counter of a function increased. -/
def Dev.fcnt (d : Dev) (f i : Nat) : Dev := d.inc (.rng (.FCNT_COUNT f i))

/-- The occupancy of a ring of size `s` (R289). -/
def ringOcc (h t s : Nat) : Nat := (t + s - h % s) % s

/-- Whether tick channel `t` is in its slot: its occurrence runs (R343). -/
def Dev.tchRunning (d : Dev) (t : Nat) : Bool :=
  (d.occIn .running).any (fun n => (d.slot n).kind = 2 && (d.slot n).channel = t)

/-- The entries of submission ring `n` being fetched (R293). -/
def Dev.fetching (d : Dev) (n : Nat) : Nat :=
  if d.sqState n = 1 then ringOcc (d.rd (.rng (.SQ_INDEX_HEAD n))) (d.sq n).fetchTo (d.sqSize n) else 0

/-- The reserved entries of a completion ring: written and not consumed, due, and fetched entries of every bound ring
that have not completed (R292). -/
def Dev.reserved (d : Dev) (c : Nat) : Nat :=
  ringOcc (d.rd (.rng (.CQ_INDEX_HEAD c))) (d.rd (.rng (.CQ_INDEX_TAIL c))) (d.cqSize c) +
    (d.due.filter (fun e => e.cq = c)).length +
    (List.range 256).foldl (fun k n =>
      if (d.sq n).ents.isEmpty ∧ d.fetching n = 0 then k
      else if d.sqCq n = some c then k + (d.sq n).ents.length + d.fetching n else k) 0

/-! ### Completions -/

/-- A function's address in a ring of entries. -/
def Dev.cqAddr (d : Dev) (c : Nat) : Nat := d.rd (.rng (.CQ_BASE_ADDR c)) * 64

/-- The interrupt request of a completion ring (R296). -/
def Dev.cqIrq (d : Dev) (c : Nat) : Dev :=
  ({ d with cqSince := bankAt 256 0 d.cqSince c (fun _ => 0) } : Dev).irq (d.rd (.rng (.CQ_ASSIGN_FUNC c)))
    (d.rd (.rng (.CQ_CTRL_VECTOR c)))

/-- A completion entry written: the entry, the tail, the mirror, the interrupt, in this order (R294 to R296). -/
def Dev.cqWrite (d : Dev) (e : Due) : Dev :=
  let c := e.cq
  let f := d.rd (.rng (.CQ_ASSIGN_FUNC c))
  let t := d.rd (.rng (.CQ_INDEX_TAIL c))
  let d := (d.hostWrite f (d.cqAddr c + 16 * t) (clean e.bytes)).count 0x61 f 1
  let t := (t + 1) % d.cqSize c
  let d := d.wr (.rng (.CQ_INDEX_TAIL c)) t
  let d := if d.is (.rng (.CQ_CTRL_MIRROR_EN c)) then
      d.hostWrite f (d.rd (.rng (.CQ_MIRROR_ADDR c)) * 4) (clean (leBytes 4 t))
    else d
  let n := d.cqSince.getD c 0 + 1
  let d : Dev := { d with cqSince := bankAt 256 0 d.cqSince c (fun _ => n) }
  if d.is (.rng (.CQ_CTRL_IRQ_EN c)) ∧ d.rd (.rng (.CQ_CTRL_COAL_CNT c)) ≤ n then d.cqIrq c else d

/-- Whether a due completion is written now: its function may write and, for a tick-bound ring, its channel is in
its slot (R303, R312, R374). -/
def Dev.dueNow (d : Dev) (e : Due) : Bool :=
  d.mayWrite (d.rd (.rng (.CQ_ASSIGN_FUNC e.cq))) && (match e.tch with | some t => d.tchRunning t | none => true)

/-- The due completions that may be written are written, in the order in which they became due (R294, R405). -/
def Dev.flushDue (d : Dev) : Dev :=
  let now := d.due.filter (fun e => d.dueNow e)
  let d := { d with due := d.due.filter (fun e => !d.dueNow e) }
  now.foldl Dev.cqWrite d

/-- A completion of ring `n` becomes due, to be written in the slot of a tick channel when one is named (R286, R297, R303). -/
def Dev.pushDueIn (d : Dev) (tch : Option Nat) (n idx cookie : Nat) (x : CplEnd) : Dev :=
  match d.sqCq n with
  | none => d
  | some c =>
    let bytes := leBytes 2 idx ++ [BitVec.ofNat 8 (d.rd (.rng (.SQ_ASSIGN_LOCAL n))), BitVec.ofNat 8 x.status] ++
      leBytes 4 (x.dw0.getD cookie) ++ leBytes 2 x.bytes ++ [BitVec.ofNat 8 x.legB, 0] ++ leBytes 4 x.flags
    ({ d with due := d.due ++ [{ cq := c, bytes := bytes, sq := n, tch := tch }] } : Dev).flushDue

/-- A completion of ring `n` becomes due. -/
def Dev.pushDue (d : Dev) (n idx cookie : Nat) (x : CplEnd) : Dev := d.pushDueIn (d.sqTch n) n idx cookie x

/-- The valid queue pair that serves a STORAGE ring (R304). -/
def Dev.qpOfRing (d : Dev) (n : Nat) : Option Nat :=
  (List.range 64).find? (fun q => d.is (.nvt (.QP_CFG_VALID q)) && d.rd (.nvt (.QP_CFG_FUNC q)) = d.sqFunc n &&
    d.rd (.nvt (.QP_CFG_RING q)) = d.rd (.rng (.SQ_ASSIGN_LOCAL n)))

/-- Leg B of a STORAGE completion that is not made by a command: `b` on a mirrored queue pair, else 0xFF; 0 on other
rings (R286). -/
def Dev.legBOf (d : Dev) (n b : Nat) : Nat :=
  if d.sqKind n ≠ 2 then 0
  else match d.qpOfRing n with
    | some q => if d.is (.nvt (.QP_CFG_MIRROR q)) then b else 0xFF
    | none => 0xFF

/-- BY_ABORT of FLAGS. -/
def byAbort : Nat := 8

/-- How an entry ended by an abort before it took effect is reported (R280, R287, R305). -/
def Dev.abortedEnd (d : Dev) (n : Nat) : CplEnd :=
  if d.sqKind n = 2 then { status := 8, flags := byAbort, legB := d.legBOf n 8, dw0 := some 0 }
  else { status := 1, flags := byAbort }

/-- The completions of an aborting ring that can be written: in index order, each waiting for every older one, entries
not fetched as reserved space frees (R306). -/
def Dev.abortDrain (d : Dev) (n : Nat) : Nat → Dev
  | 0 => d
  | fuel + 1 =>
    match (d.sq n).ents with
    | e :: es =>
      match e.fin with
      | some x => ((d.modSq n (fun q => { q with ents := es })).pushDue n e.idx e.cookie x).abortDrain n fuel
      | none => d
    | [] =>
      let h := d.rd (.rng (.SQ_INDEX_HEAD n))
      match d.sqCq n with
      | none => d
      | some c =>
        if h = d.rd (.rng (.SQ_INDEX_TAIL n)) ∨ d.cqSize c ≤ d.reserved c + 1 then d
        else ((d.wr (.rng (.SQ_INDEX_HEAD n)) ((h + 1) % d.sqSize n)).pushDue n h 0 (d.abortedEnd n)).abortDrain n fuel

/-- A fetched entry ends: on a running ring its completion is due at once; on an aborting ring it takes its turn,
and CANCELLED is reported as ABORTED with BY_ABORT (R297, R305, R306). -/
def Dev.endEnt (d : Dev) (n ser : Nat) (x : CplEnd) : Dev :=
  match (d.sq n).ents.find? (fun e => e.ser = ser) with
  | none => d
  | some e =>
    if d.sqState n = 2 then
      let x := if d.sqKind n = 0 ∧ x.status = 11 then { x with status := 1, flags := x.flags + byAbort } else x
      (d.modSq n (fun q => { q with
        ents := updWhere q.ents (fun e => e.ser = ser && e.fin.isNone) (fun e => { e with fin := some x }) })).abortDrain n 65536
    else
      (d.modSq n (fun q => { q with ents := q.ents.filter (fun e => e.ser ≠ ser) })).pushDue n e.idx e.cookie x

/-- FLAGS.POISON of a frame. -/
def Dev.poisonFlag (d : Dev) (f : Frame) : Nat := if d.framePoisoned f then 4 else 0

/-- The TX entry a frame came from ends (R299). -/
def Dev.originEnd (d : Dev) (f : Frame) (status flags : Nat) : Dev :=
  match f.ring with
  | none => d
  | some (n, ser) => d.endEnt n ser { status := status, flags := flags + d.poisonFlag f }

/-- A frame dropped: its TX entry completes DROPPED, its lines are freed (R299). -/
def Dev.discard (d : Dev) (f : Frame) : Dev := (d.originEnd f 5 0).dropFrame f

/-! ### Class queues -/

/-- A frame offered to a class queue: it joins the batch of the current tick, or is discarded and
counted when the class is not served (R42, R198). -/
def Dev.toClass (d : Dev) (cls : Nat) (f : Frame) : Dev :=
  if d.served cls then d.enqueueClass cls { f with info := { f.info with batch := d.tick.coreTick } }
  else (d.discard f).inc (.eng .UNSERVED_CNT_COUNT)

/-- A frame returned to the head of its class queue (R197, R200). -/
def Dev.returnFrame (d : Dev) (cls : Nat) (f : Frame) : Dev :=
  { d with classq := { cls := cls, frame := f } :: d.classq }

end Sys2Proof.Machine
end

