-- ==== Sys2Proof/Machine/Almanac.lean ====
section
/-! DEFINITION.  The Almanac: its entries, accepted results and their application (R451 to R454, R458),
and the timestamps that rest on it (R438, R439). -/

namespace Sys2Proof.Machine

open Sys2Proof

/-- The line of Almanac entry `e` (R452). -/
def almLine (e : Nat) : Nat := tableLine (0x5F00 + e)

/-- Almanac entry `e` as stored. -/
def Dev.alm (d : Dev) (e : Nat) : List Byte := d.rawLine (almLine e)

/-- An entry completed with its CRC and written (R452, R453). -/
def Dev.almWrite (d : Dev) (e : Nat) (bs : List Byte) : Dev :=
  let body := sliceB bs 0 60
  d.writeLine (almLine e) (body ++ leBytes 4 (crc32c body)) false

/-- PENDING of an entry. -/
def almPending (bs : List Byte) : List Byte := sliceB bs 40 16
/-- IN_FORCE of an entry. -/
def almForce (bs : List Byte) : List Byte := sliceB bs 24 16
/-- PEND of an entry. -/
def almPend (bs : List Byte) : Bool := bitAt (leAt bs 1 1) 1

/-- FLAGS of a valid entry (R452). -/
def almFlags (pend : Bool) (origin : Nat) : Byte := BitVec.ofNat 8 (1 + 2 * b2n pend + 4 * origin)

/-- A result accepted for entry `e`: PENDING, MEAS_TICK, GEN, PEND (R453). -/
def Dev.almAccept (d : Dev) (e : Nat) (value : List Byte) (origin tick : Nat) : Dev :=
  let old := d.alm e
  let v := sliceB value 0 16
  let bs := patchB (patchB (patchB old 40 v) 8 (leBytes 8 tick)) 4 (leBytes 4 (leAt old 4 4 + 1))
  d.almWrite e (patchB (patchB bs 0 [BitVec.ofNat 8 e]) 1 [almFlags (almForce old ≠ v) origin])

/-- The value latched in the hardware of entry `e`. -/
def Dev.latch (d : Dev) (e : Nat) (v : List Byte) : Dev :=
  { d with cal := { d.cal with latched := bankAt 14 [] d.cal.latched e (fun _ => v) } }

/-- A signed byte moved toward another by at most one. -/
def stepByte (a b : Byte) : Byte :=
  let x := toSigned 8 a.toNat
  let y := toSigned 8 b.toNat
  BitVec.ofNat 8 (ofSigned 8 (if x < y then x + 1 else if y < x then x - 1 else x))

/-- The value an entry holds in force after one boundary (R454). -/
def almStep (e : Nat) (force pending : List Byte) : List Byte :=
  if 4 ≤ e then pending
  else (List.range 4).map (fun i => stepByte (force.getD i 0) (pending.getD i 0)) ++ pending.drop 4

/-- An entry with PEND = 1 applied at boundary `k` (R454). -/
def Dev.almApply (d : Dev) (k e : Nat) : Dev :=
  let old := d.alm e
  if !almPend old then d
  else
    let v := almStep e (almForce old) (almPending old)
    let bs := patchB (patchB old 24 v) 16 (leBytes 8 k)
    ((d.almWrite e (patchB bs 1 [almFlags (v ≠ almPending old) (bitsOf (leAt old 1 1) 2 2)])).latch e v)

/-- Link bring-up of port `p`: its lane settings accepted with ORIGIN 1 and applied at once (R458). -/
def Dev.almBringUp (d : Dev) (p : Nat) (value : List Byte) : Dev :=
  let k := d.rd (.tck .COUNT_TICK)
  let d := d.almAccept p value 1 k
  let v := sliceB value 0 16
  (d.almWrite p (patchB (patchB (patchB (d.alm p) 24 v) 16 (leBytes 8 k)) 1 [almFlags false 1])).latch p v

/-! ### Timestamps -/

/-- The error of a port timestamp in half nanoseconds: a free value, within 2.0 ns when the entry of its path is applied and not
overdue (R438). -/
def Dev.stampError (d : Dev) (e : Nat) : Int × Dev :=
  let (x, d) := d.fresh
  if bitAt (d.rd (.cal .AGE_STATUS_OVERDUE)) e ∨ almPend (d.alm e) then ((x : Int) - 2 ^ 32, d)
  else ((x % 9 : Nat) - 4, d)

/-- The timestamp of an instant given in tenths of a nanosecond of the timebase, rounded to 0.5 ns, a tie to the later
(R438): seconds, nanoseconds, half. -/
def stampOf (tenths err : Int) : Nat × Nat × Bool :=
  let h := ((2 * tenths + 5) / 10 + err).toNat
  (h / 2000000000 % 2 ^ 48, h % 2000000000 / 2, h % 2 = 1)

/-- The line rate of a port in Mb/s (MAC_PORT_STATUS.SPEED). -/
def Dev.speed (d : Dev) (p : Nat) : Nat :=
  match d.rd (.mac (.PORT_STATUS_SPEED p)) with
  | 0 => 10
  | 1 => 100
  | 2 => 1000
  | _ => 2500

/-- The receive timestamp of a frame whose timestamp point lay `age` tenths of a nanosecond ago (R439). -/
def Dev.rxStamp (d : Dev) (p age : Nat) : (Nat × Nat × Bool) × Dev :=
  let (err, d) := d.stampError (4 + p)
  (stampOf (10 * ((d.tb : Int) - d.tim.skew) - age - (10 * d.rd (.tim (.RX_EXT_DELAY p)) / 16 : Nat)) err, d)

/-- The transmit timestamp of a frame granted now: 25.6 ns to the first preamble bit and 8 bytes to the timestamp
point (R144, R439). -/
def Dev.txStamp (d : Dev) (p : Nat) : (Nat × Nat × Bool) × Dev :=
  let (err, d) := d.stampError (8 + p)
  (stampOf (10 * ((d.tb : Int) - d.tim.skew) + 256 + (640000 / d.speed p : Nat) + (10 * d.rd (.tim (.TX_EXT_DELAY p)) / 16 : Nat)) err, d)

end Sys2Proof.Machine
end

