-- ==== Sys2Proof/Machine/Ports.lean ====
section
/-! DEFINITION.  The field ports: link state, MDIO, reception, transmit queues, flow control, fence and
cancel (R122 to R156), PTP records (R440 to R442), the P3 release (R72 to R74). -/

namespace Sys2Proof.Machine

open Sys2Proof

/-- A MAC event of port `p` raised when its enable is 1 (sources 2 to 5). -/
def Dev.macEvent (d : Dev) (status enable : MacF) (p : Nat) : Dev := d.event (.mac status) (.mac enable) (2 + p)

/-- A MAC_CNT counter of port `p` increased. -/
def Dev.macCnt (d : Dev) (p i : Nat) : Dev := d.inc (.mac (.CNT_COUNT p i))

/-- Whether a port is enabled. -/
def Dev.portOn (d : Dev) (p : Nat) : Bool := d.is (.mac (.PORT_CTRL_EN p))

/-- Whether a port's link is up (R125). -/
def Dev.linkUp (d : Dev) (p : Nat) : Bool := d.is (.mac (.PORT_STATUS_LINK_UP p))

/-- Whether autonegotiation runs on a port (R122). -/
def Dev.autoneg (d : Dev) (p : Nat) : Bool :=
  d.rd (.mac (.PORT_CTRL_MODE p)) ≤ 1 && d.is (.mac (.PORT_CTRL_AN_EN p))

/-! ### Transmit completion -/

/-- The transmit completion record of R155. -/
def txRecord (handle queue status : Nat) (late poisonLate : Bool) (p : Nat) : Nat :=
  handle % 65536 + queue % 8 * 2 ^ 16 + status % 8 * 2 ^ 19 + b2n late * 2 ^ 22 + b2n poisonLate * 2 ^ 23 + p % 4 * 2 ^ 24

/-- The record copied to the forwarding pair's completion queue (R207). -/
def Dev.txcDeliver (d : Dev) (pair : Option Nat) (rec : Nat) : Dev :=
  match pair with
  | none => d
  | some q =>
    if !d.is (.eng (.PAIR_CFG_TXC_EN q)) then d
    else if 256 ≤ (d.txc.getD q []).length then d.inc (.eng (.CNT_COUNT q 4))
    else { d with txc := bankAt 8 [] d.txc q (fun l => l ++ [rec]) }

/-- A ring's status for a transmit STATUS (R299). -/
def txToRing (status : Nat) : Nat :=
  match status with
  | 0 => 0
  | 1 => 11
  | 2 => 6
  | 3 => 7
  | 4 => 8
  | 5 => 9
  | _ => 10

/-- A transmit entry completes: counted, its record delivered to the enqueuing agents, its lines freed
(R155, R207, R299, R330). -/
def Dev.txDone (d : Dev) (p q : Nat) (e : TxEnt) (status : Nat) (poisonLate : Bool) : Dev :=
  let d := d.macCnt p (match status with | 0 => 9 | 1 => 10 | 2 => 12 | 3 => 13 | 4 => 14 | 5 => 15 | _ => 16)
  let d := if e.late then d.macCnt p 11 else d
  let d := d.txcDeliver e.pair (txRecord e.handle q status e.late poisonLate p)
  let d := d.reqSource 4 (fun a => a % 4 = p && a / 4 % 8 = q)
  (d.originEnd e.frame (txToRing status) (b2n e.late)).dropFrame e.frame

/-- The entries of queue `q` that satisfy `r` removed, each with a completion (R151 to R154). -/
def Dev.txRemove (d : Dev) (p q : Nat) (r : TxEnt → Bool) (status : Nat) : Dev :=
  let es := (d.port p).txq.getD q []
  let d := d.modPort p (fun x => { x with txq := bankAt 8 [] x.txq q (fun l => l.filter (fun e => !r e)) })
  (es.filter r).foldl (fun d e => d.txDone p q e status false) d

/-! ### Enqueue -/

/-- Whether a queue is a SCHED queue (R139). -/
def Dev.txSched (d : Dev) (p q : Nat) : Bool := d.is (.mac (.TXQ_ROLE_SCHED p q))
/-- Whether a queue is a command-class queue (R139). -/
def Dev.txCmd (d : Dev) (p q : Nat) : Bool := d.is (.mac (.TXQ_ROLE_CMD p q))

/-- The reason an enqueue to queue `q` of port `p` is refused, as REASON of R232: 3 FENCED, 2 ROLE, 5 STOPPED, 1 FULL
(R139, R140, R151). -/
def Dev.txRefusal (d : Dev) (p q : Nat) (release : Bool) : Option Nat :=
  if d.fence ∧ d.txCmd p q then some 3
  else if d.txSched p q ≠ release then some 2
  else if !d.portOn p then some 5
  else if 256 ≤ ((d.port p).txq.getD q []).length then some 1
  else none

/-- A refused enqueue counted (R139, R140, R151). -/
def Dev.txRefuse (d : Dev) (p reason : Nat) : Dev := d.macCnt p (if reason = 3 then 14 else 18)

/-- An accepted entry joins its queue, or completes LINK_DOWN while the link is down (R152). -/
def Dev.txAccept (d : Dev) (p q : Nat) (e : TxEnt) : Dev :=
  if !d.linkUp p then d.txDone p q e 5 false
  else d.modPort p (fun x => { x with txq := bankAt 8 [] x.txq q (fun l => l ++ [e]) })

/-- The length of a frame on the wire, FCS included: its tags inserted, padded, its FCS appended (R144). -/
def Dev.wireLen (d : Dev) (p : Nat) (e : TxEnt) : Nat :=
  let n := e.frame.len + 4 * e.tags.length
  if d.is (.mac (.PORT_CTRL_FCS_BYPASS_TX p)) then n else max n 60 + 4

/-! ### Link state -/

/-- A port declares link down: entries of its queues end LINK_DOWN (R125, R152). -/
def Dev.linkDown (d : Dev) (p : Nat) : Dev :=
  if !d.linkUp p then d
  else
    let d := d.wrs [(.mac (.PORT_STATUS_LINK_UP p), 0), (.mac (.PORT_STATUS_AN_DONE p), 0)]
    let d := d.macEvent (.PORT_STATUS_LINK_CHG p) (.PORT_CTRL_IRQ_LINK_EN p) p
    (List.range 8).foldl (fun d q => d.txRemove p q (fun _ => true) 5) d

/-- The speed a link comes up at: the PHY's, SPEED_FORCE, or the mode's (R122). -/
def Dev.upSpeed (d : Dev) (p phy : Nat) : Nat :=
  match d.rd (.mac (.PORT_CTRL_MODE p)) with
  | 0 => if d.is (.mac (.PORT_CTRL_AN_EN p)) then min phy 2 else d.rd (.mac (.PORT_CTRL_SPEED_FORCE p))
  | 1 => 2
  | _ => 3

/-- LINK_UP: the PCS of port `p` is synchronised and autonegotiation has ended with a partner's abilities, or the partner
is refused for not offering full duplex; `lane` is what bring-up equalisation found (R122, R123, R125, R458); a sleeping port stays
link down (R505). -/
def execLinkUp (p : Fin 4) (speed pause : Fin 4) (fullDuplex : Bool) (lane : List Byte) (s : State) :
    Host.Outcome State Fault Refusal :=
  s.run (fun d =>
    if d.linkUp p ∨ d.portAsleep p then d else
    let d := d.wr (.mac (.PORT_STATUS_SYNC p)) 1
    if d.rd (.mac (.PORT_CTRL_MODE p)) = 1 ∧ d.autoneg p ∧ !fullDuplex then
      (d.inc (.mac (.AN_ERR_DUPLEX p))).modPort p (fun x => { x with anTimer := true })
    else
      let d := d.wrs [(.mac (.PORT_STATUS_LINK_UP p), 1), (.mac (.PORT_STATUS_SPEED p), d.upSpeed p speed),
        (.mac (.PORT_STATUS_AN_DONE p), b2n (d.autoneg p)),
        (.mac (.PORT_STATUS_LP_PAUSE p), if d.rd (.mac (.PORT_CTRL_MODE p)) = 1 then pause.val else 0)]
      (d.macEvent (.PORT_STATUS_LINK_CHG p) (.PORT_CTRL_IRQ_LINK_EN p) p).almBringUp p lane)

/-- LINK_DOWN: the PCS loses synchronisation, or the PHY signals link down; `inFrame` says that a frame was in reception
(R125, R152, R156). -/
def execLinkDown (p : Fin 4) (syncLost inFrame : Bool) (s : State) : Host.Outcome State Fault Refusal :=
  s.run (fun d =>
    if !d.linkUp p then d else
    let d := if syncLost then d.wr (.mac (.PORT_STATUS_SYNC p)) 0 else d
    (if inFrame ∧ d.portOn p then d.macCnt p 20 else d).linkDown p)

/-- Autonegotiation restarts: an established link is lost (R125). -/
def Dev.anRestart (d : Dev) (p : Nat) : Dev :=
  (d.linkDown p).inc (.mac (.AN_ERR_RESTART p))

/-- AN_LINK_TIMER (R123). -/
def execAnLinkTimer (p : Fin 4) (s : State) : Host.Outcome State Fault Refusal :=
  s.run (fun d =>
    if (d.port p).anTimer then (d.modPort p (fun x => { x with anTimer := false })).anRestart p else d)

/-- RESTART_AN: autonegotiation restarts where it runs (R122). -/
def execRestartAn (p : Fin 4) (s : State) : Host.Outcome State Fault Refusal :=
  s.hostAt (fun d => d.portAsleep p) (fun d => if d.autoneg p then d.anRestart p else d)

/-! ### What a configuration change does to a port -/

/-- The shaper credit of a queue at its cap (R143). -/
def Dev.creditCap (d : Dev) (p q : Nat) : Int := (d.rd (.mac (.TXQ_SHAPE_BURST p q)) * 800000 : Nat)

/-- Port `p` after its configuration changed from that of `old`: an enable starts the credits at their caps (R143), a change
of line mode restarts the lane (R127), a queue that became command class while the fence is up is fenced (R151). -/
def Dev.portAfter (d old : Dev) (p : Nat) : Dev :=
  let d := if d.portOn p ∧ !old.portOn p then
      d.modPort p (fun x => { x with credit := (List.range 8).map (fun q => d.creditCap p q) })
    else d
  let changed := fun (f : MacF) => d.rd (.mac f) ≠ old.rd (.mac f)
  let d := if changed (.PORT_CTRL_MODE p) ∨ changed (.PORT_CTRL_AN_EN p) ∨ changed (.PORT_CTRL_SPEED_FORCE p) then
      (d.linkDown p).wr (.mac (.PORT_STATUS_SYNC p)) 0
    else d
  (List.range 8).foldl (fun d q =>
    if d.fence ∧ d.txCmd p q then d.txRemove p q (fun _ => true) 4 else d) d

/-- The state of the discipline loop, in TIM_STATUS and TCK_STATUS; a change sets LOCK_CHG (R449). -/
def Dev.setSrcState (d : Dev) (x : Nat) : Dev :=
  if d.rd (.tim .STATUS_STATE) = x then d
  else (d.wrs [(.tim .STATUS_STATE, x), (.tck .STATUS_SRC_STATE, x)]).event (.tim .STATUS_LOCK_CHG) (.tim .CTRL_IRQ_EN) 11

/-- The ports and the discipline state after a configuration change: a new source begins in FREE (R449). -/
def Dev.afterConfig (d old : Dev) : Dev :=
  let d := if d.rd (.tck .CTRL_SRC) ≠ old.rd (.tck .CTRL_SRC) then
      ({ d with tim := { d.tim with run := 0 } } : Dev).setSrcState 0
    else d
  (List.range 4).foldl (fun d p => d.portAfter old p) d

/-! ### MDIO -/

/-- An MDIO operation: discarded and counted while one is in progress, else issued (R128, R129). -/
def Dev.mdioOp (d : Dev) (c45 : Bool) (op phy reg data : Nat) : Dev :=
  if d.is (.mac .MDIO_STATUS_BUSY) then d.inc (.mac .MDIO_STATUS_REFUSED)
  else
    let word := data % 65536 + reg % 32 * 2 ^ 16 + phy % 32 * 2 ^ 21 + op % 4 * 2 ^ 26 + b2n c45 * 2 ^ 28
    (({ d with mdio := some { c45 := c45, op := op, phyad := phy, regDev := reg, wdata := data } } : Dev).wr
      (.mac .MDIO_STATUS_BUSY) 1).emit (.mdio word)

/-- MDIO_C22_WRITE (R128). -/
def execMdioC22Write (phy reg : Fin 32) (data : BitVec 16) (s : State) : Host.Outcome State Fault Refusal :=
  s.host (fun d => d.mdioOp false 1 phy reg data.toNat)

/-- MDIO_C22_READ (R128). -/
def execMdioC22Read (phy reg : Fin 32) (s : State) : Host.Outcome State Fault Refusal :=
  s.host (fun d => d.mdioOp false 2 phy reg 0)

/-- MDIO_C45_ADDRESS (R128). -/
def execMdioC45Address (phy dev : Fin 32) (addr : BitVec 16) (s : State) : Host.Outcome State Fault Refusal :=
  s.host (fun d => d.mdioOp true 0 phy dev addr.toNat)

/-- MDIO_C45_WRITE (R128). -/
def execMdioC45Write (phy dev : Fin 32) (data : BitVec 16) (s : State) : Host.Outcome State Fault Refusal :=
  s.host (fun d => d.mdioOp true 1 phy dev data.toNat)

/-- MDIO_C45_READ (R128). -/
def execMdioC45Read (phy dev : Fin 32) (s : State) : Host.Outcome State Fault Refusal :=
  s.host (fun d => d.mdioOp true 2 phy dev 0)

/-- MDIO_C45_READ_INC (R128). -/
def execMdioC45ReadInc (phy dev : Fin 32) (s : State) : Host.Outcome State Fault Refusal :=
  s.host (fun d => d.mdioOp true 3 phy dev 0)

/-- MDIO_COMPLETE: `answer` is what a PHY drove, none where no PHY drove MDIO (R129). -/
def execMdioComplete (answer : Option (BitVec 16)) (s : State) : Host.Outcome State Fault Refusal :=
  s.run (fun d =>
    match d.mdio with
    | none => d
    | some m =>
      let d := ({ d with mdio := none } : Dev).wr (.mac .MDIO_STATUS_BUSY) 0
      let read := if m.c45 then 2 ≤ m.op else m.op = 2
      let d := if read then
          d.wr (.mac .MDIO_STATUS_DATA) (match answer with | some a => a.toNat | none => 0xFFFF)
        else d
      if d.is (.mac .MDIO_CFG_IRQ_EN) then d.hepEvent 2 else d)

/-! ### Flow control received -/

/-- Queue `q` of port `p` held for `quanta` from now; 0 releases it (R146). -/
def Dev.hold (d : Dev) (p quanta q : Nat) : Dev :=
  let ns := ceilDiv (quanta * 512 * 1000) (d.speed p)
  d.modPort p (fun x => { x with hold := bankAt 8 none x.hold q (fun _ => if quanta = 0 then none else some (d.now + ns)) })

/-- Whether a received frame holds queue `q` (R146). -/
def Dev.held (d : Dev) (p q : Nat) : Bool :=
  match (d.port p).hold.getD q none with
  | some t => d.now < t
  | none => false

/-- A received PAUSE acts (R135, R146). -/
def Dev.rxPause (d : Dev) (p quanta : Nat) : Dev :=
  (List.range 8).foldl (fun d q => d.hold p quanta q) (d.macCnt p 7)

/-- A received PFC acts: each enabled priority holds its mapped queue (R135, R146). -/
def Dev.rxPfc (d : Dev) (p enable : Nat) (quanta : List Nat) : Dev :=
  (List.range 8).foldl (fun d i =>
    if bitAt enable i then d.hold p (quanta.getD i 0) (d.rd (.mac (.PFC_QMAP_Q p i))) else d) (d.macCnt p 7)

/-- RX_PAUSE (R146). -/
def execRxPause (p : Fin 4) (quanta : BitVec 16) (s : State) : Host.Outcome State Fault Refusal :=
  s.run (fun d => if d.portOn p ∧ d.linkUp p then d.rxPause p quanta.toNat else d)

/-- RX_PFC (R146). -/
def execRxPfc (p : Fin 4) (enable : BitVec 8) (quanta : List (BitVec 16)) (s : State) :
    Host.Outcome State Fault Refusal :=
  s.run (fun d => if d.portOn p ∧ d.linkUp p then d.rxPfc p enable.toNat (quanta.map (·.toNat)) else d)

/-- PAUSE_HOLD_EXPIRY: the hold of queue `q` runs out (R146). -/
def execPauseHoldExpiry (p : Fin 4) (q : Fin 8) (s : State) : Host.Outcome State Fault Refusal :=
  s.run (fun d =>
    match (d.port p).hold.getD q none with
    | some t => (d.elapse (t - d.now)).modPort p (fun x => { x with hold := bankAt 8 none x.hold q (fun _ => none) })
    | none => d)

/-! ### Flow control transmitted -/

/-- The staging lines of port `p` in use. -/
def Dev.stagingUsed (d : Dev) (p : Nat) : Nat :=
  (d.used.filter (fun l => stagingLine p 0 ≤ l && l < stagingLine p 256)).length

/-- A pause frame of port `p` carrying `quanta`: its PAUSE or PFC form; the spec gives no source address (R147,
assumption 4). -/
def Dev.pauseFrame (d : Dev) (p quanta : Nat) : List Byte × Dev :=
  let (sa, d) := d.freshBytes 6
  let head := [0x01, 0x80, 0xC2, 0x00, 0x00, 0x01] ++ sa ++ [0x88, 0x08]
  let prio := d.rd (.mac (.FC_CTRL_PFC_TX_PRIO p))
  let body := if d.rd (.mac (.FC_CTRL_TX_MODE p)) = 2 then
      [0x01, 0x01] ++ beBytes 2 prio ++
        (List.range 8).flatMap (fun i => beBytes 2 (if bitAt prio i then quanta else 0))
    else [0x00, 0x01] ++ beBytes 2 quanta
  let bs := sliceB (head ++ body) 0 60
  (bs ++ leBytes 4 (crc32 bs), d)

/-- A pause frame leaves when the transmitter is idle, ahead of every queue; otherwise it waits for it (R147). -/
def Dev.sendPause (d : Dev) (p quanta : Nat) : Dev :=
  let d := d.modPort p (fun x => { x with pauseAt := d.now })
  match (d.port p).cur with
  | some _ => d.modPort p (fun x => { x with pausePend := some quanta })
  | none =>
    let (bs, d) := d.pauseFrame p quanta
    ((d.emit (.wire p bs false)).macCnt p 17).modPort p (fun x => { x with pausePend := none })

/-- Whether a port transmits pause frames. -/
def Dev.pausing (d : Dev) (p : Nat) : Bool :=
  d.portOn p && d.linkUp p && (d.rd (.mac (.FC_CTRL_TX_MODE p)) = 1 || d.rd (.mac (.FC_CTRL_TX_MODE p)) = 2)

/-- TX_PAUSE_XOFF (R147). -/
def execTxPauseXoff (p : Fin 4) (s : State) : Host.Outcome State Fault Refusal :=
  s.run (fun d =>
    if d.pausing p ∧ !(d.port p).xoff ∧ d.rd (.mac (.FC_CTRL_XOFF_LINES p)) ≤ d.stagingUsed p then
      (d.modPort p (fun x => { x with xoff := true })).sendPause p (d.rd (.mac (.FC_QUANTA_QUANTA p)))
    else d)

/-- TX_PAUSE_REPEAT: half the quanta has elapsed (R147). -/
def execTxPauseRepeat (p : Fin 4) (s : State) : Host.Outcome State Fault Refusal :=
  s.run (fun d =>
    if d.pausing p ∧ (d.port p).xoff ∧ d.rd (.mac (.FC_CTRL_XON_LINES p)) ≤ d.stagingUsed p then
      let q := d.rd (.mac (.FC_QUANTA_QUANTA p))
      (d.elapse ((d.port p).pauseAt + ceilDiv (q * 256 * 1000) (d.speed p) - d.now)).sendPause p q
    else d)

/-- TX_PAUSE_XON (R147). -/
def execTxPauseXon (p : Fin 4) (s : State) : Host.Outcome State Fault Refusal :=
  s.run (fun d =>
    if d.pausing p ∧ (d.port p).xoff ∧ d.stagingUsed p < d.rd (.mac (.FC_CTRL_XON_LINES p)) then
      (d.modPort p (fun x => { x with xoff := false })).sendPause p 0
    else d)

/-! ### PTP event messages -/

/-- Whether a TPID is recognised on port `p` (R136). -/
def Dev.tpidKnown (d : Dev) (p t : Nat) : Bool :=
  t = 0x8100 || t = 0x88A8 || (d.is (.mac (.TAG_CTRL_TPID_X_EN p)) && t = d.rd (.mac (.TAG_CTRL_TPID_X p)))

/-- The number of recognised tags that follow one another from byte 12, at most `n` (R136). -/
def Dev.tagCount (d : Dev) (p : Nat) (bs : List Byte) : Nat → Nat → Nat
  | 0, _ => 0
  | n + 1, o => if o + 4 ≤ bs.length ∧ d.tpidKnown p (beAt bs o 2) then d.tagCount p bs n (o + 4) + 1 else 0

/-- The offset of the PTP header of an event message, and whether it travels over IPv4 (R440). -/
def Dev.ptpHeader (d : Dev) (p : Nat) (bs : List Byte) : Option (Nat × Bool) :=
  let o := 12 + 4 * d.tagCount p bs 2 12
  let et := beAt bs o 2
  let h : Option (Nat × Bool) :=
    if et = 0x88F7 then some (o + 2, false)
    else if et = 0x0800 ∧ bs.getD (o + 2) 0 = 0x45 ∧ bs.getD (o + 11) 0 = 17 ∧ beAt bs (o + 24) 2 = 319 then
      some (o + 30, true)
    else if et = 0x86DD ∧ bs.getD (o + 8) 0 = 17 ∧ beAt bs (o + 44) 2 = 319 then some (o + 50, false)
    else none
  match h with
  | some (h, v4) =>
    if d.is (.tim (.PTP_PORT_EN p)) ∧ h + 34 ≤ bs.length ∧ (bs.getD (h + 1) 0).toNat % 16 = 2 ∧
        (bs.getD h 0).toNat % 16 < 4 then some (h, v4)
    else none
  | none => none

/-- The identifying fields of a record, as RXTS_POP and TXTS_POP return them with VALID (R441). -/
def ptpWord (bs : List Byte) (h : Nat) (oneStep stomped : Bool) : Nat :=
  beAt bs (h + 30) 2 + (bs.getD h 0).toNat % 16 * 2 ^ 16 + (bs.getD (h + 4) 0).toNat * 2 ^ 20 + 2 ^ 28 +
    b2n oneStep * 2 ^ 29 + b2n stomped * 2 ^ 30

/-- A receive record written, or discarded and counted when its FIFO is full (R441). -/
def Dev.rxRecord (d : Dev) (p : Nat) (r : TsRec) : Dev :=
  if 64 ≤ (d.port p).rxTs.length then
    (d.inc (.tim (.PORT_CNT_RX_OVF p))).event (.tim .STATUS_TS_OVF) (.tim .CTRL_IRQ_EN) 11
  else d.modPort p (fun x => { x with rxTs := x.rxTs ++ [r] })

/-- A transmit record written, or discarded and counted when its FIFO is full (R441). -/
def Dev.txRecordPtp (d : Dev) (p : Nat) (r : TsRec) : Dev :=
  if 64 ≤ (d.port p).txTs.length then
    (d.inc (.tim (.PORT_CNT_TX_OVF p))).event (.tim .STATUS_TS_OVF) (.tim .CTRL_IRQ_EN) 11
  else d.modPort p (fun x => { x with txTs := x.txTs ++ [r] })

/-- The fields of a one-step Sync filled at its grant (R442). -/
def oneStepFill (bs : List Byte) (h : Nat) (v4 : Bool) (t : Nat × Nat × Bool) : List Byte :=
  let bs := patchB bs (h + 34) (beBytes 6 t.1 ++ beBytes 4 t.2.1)
  let bs := if t.2.2 then patchB bs (h + 8) (beBytes 8 ((beAt bs (h + 8) 8 + 0x8000) % 2 ^ 64)) else bs
  if v4 then patchB bs (h - 2) [0, 0] else bs

/-- A recognised frame at its grant: its record written, a one-step Sync modified (R441, R442). -/
def Dev.ptpTx (d : Dev) (p : Nat) (bs : List Byte) (stomp : Bool) : List Byte × Dev :=
  match d.ptpHeader p bs with
  | none => (bs, d)
  | some (h, v4) =>
    let (t, d) := d.txStamp p
    let one : Bool := d.is (.tim (.PTP_PORT_ONE_STEP p)) && (bs.getD h 0).toNat % 16 = 0 &&
      !bitAt (bs.getD (h + 6) 0).toNat 1 && !d.is (.mac (.PORT_CTRL_FCS_BYPASS_TX p)) && !stomp &&
      (v4 || beAt bs (12 + 4 * d.tagCount p bs 2 12) 2 = 0x88F7)
    let d := d.txRecordPtp p { word := ptpWord bs h one stomp, sec := t.1, ns := t.2.1, half := t.2.2 }
    (if one then oneStepFill bs h v4 t else bs, d)

/-! ### Reception -/

/-- Whether a destination address passes the filter (R131, R132). -/
def Dev.daPasses (d : Dev) (p : Nat) (da : List Byte) : Bool :=
  d.is (.mac (.PORT_CTRL_PROMISC p)) ||
  (List.range 16).any (fun i => d.is (.mac (.UC_ADDR_HI_VALID p i)) &&
    d.rd (.mac (.UC_ADDR_LO_ADDR_0_3 p i)) = leAt da 0 4 && d.rd (.mac (.UC_ADDR_HI_ADDR_4_5 p i)) = leAt da 4 2) ||
  (if leAt da 0 6 = 2 ^ 48 - 1 then d.is (.mac (.PORT_CTRL_BCAST_EN p))
   else
    let h := crc32 (sliceB da 0 6) / 2 ^ 23
    (da.getD 0 0).toNat % 2 = 1 && bitAt (d.rd (.mac (.MC_HASH_BITS p (h / 32)))) (h % 32))

/-- A frame kept for the lane whose verdict is failed: its lookup result will be discarded (R41). -/
def Dev.laneFail (d : Dev) (p : Nat) (bs : List Byte) : Dev :=
  let (u, d) := d.newUid
  d.modPort p (fun x => { x with lane := x.lane ++ [{ uid := u, bytes := bs, good := false }] })

/-- A frame with a good verdict: staged with its configured tags stripped and FCS removed, its timestamp taken, its PTP
record written, passed to the lane (R134, R136, R138, R439, R441). -/
def Dev.rxGood (d : Dev) (p : Nat) (bs : List Byte) (age : Nat) : Dev :=
  let d := (d.count 0x30 p 1).count 0x31 p bs.length
  let old := d
  match d.alloc (stagingLine p 0) 256 ((bs.length + 63) / 64) with
  | none => old
  | some (ls, d) =>
    let n := d.tagCount p bs (d.rd (.mac (.TAG_CTRL_STRIP p))) 12
    let tags := (List.range n).map (fun i => beAt bs (12 + 4 * i) 4)
    let kept := if d.is (.mac (.PORT_CTRL_FCS_BYPASS_RX p)) then bs else bs.take (bs.length - 4)
    let body := kept.take 12 ++ kept.drop (12 + 4 * n)
    let (u, d) := d.newUid
    let (t, d) := d.rxStamp p age
    let d := d.writeRun ls 0 (sliceB body 0 (64 * ls.length)) false
    let info : Meta := { tags := tags, port := p, tsSec := t.1, tsNs := t.2.1, tsHalf := t.2.2 }
    let f : Frame := { uid := u, lines := ls, start := 0, len := body.length, staged := true, info := info }
    let d := d.modPort p (fun x => { x with
      staged := x.staged ++ [f]
      lane := x.lane ++ [{ uid := u, bytes := bs, good := true, tsSec := t.1, tsNs := t.2.1, tsHalf := t.2.2 }] })
    match d.ptpHeader p (bs.take (bs.length - 4)) with
    | some (h, _) => d.rxRecord p { word := ptpWord bs h false false, sec := t.1, ns := t.2.1, half := t.2.2 }
    | none => d

/-- A MAC control frame: PAUSE and PFC with a good FCS act, every other is counted as such (R135). -/
def Dev.rxControl (d : Dev) (p : Nat) (bs : List Byte) (good : Bool) : Dev :=
  let op := beAt bs 14 2
  if !good then d.macCnt p 8
  else if op = 1 then d.rxPause p (beAt bs 16 2)
  else if op = 0x0101 then d.rxPfc p (beAt bs 16 2) ((List.range 8).map (fun i => beAt bs (18 + 2 * i) 2))
  else d.macCnt p 8

/-- The staging lines a frame of `n` bytes takes before it ends: whole lines up to the byte that makes it oversize or to an
elastic-buffer error, else all its lines (R133, R134). -/
def Dev.stageNeed (d : Dev) (p n : Nat) (ebError : Bool) : Nat :=
  if d.rd (.mac (.FRAME_MAX_LEN p)) < n then d.rd (.mac (.FRAME_MAX_LEN p)) / 64 else if ebError then n / 64 else (n + 63) / 64

/-- RX_FRAME: port `p` receives `bytes`, destination address to FCS; `ebError` says that the elastic buffer ended it (R126);
`age` is how long before the verdict its timestamp point was, in tenths of a nanosecond (R126, R130 to R135, R138). -/
def execRxFrame (p : Fin 4) (bytes : List Byte) (ebError : Bool) (age : Nat) (s : State) :
    Host.Outcome State Fault Refusal :=
  s.run (fun d =>
    if !d.portOn p ∨ !d.linkUp p then d else
    let n := bytes.length
    let ctrl : Bool := beAt bytes 12 2 = 0x8808
    let fail := fun (d : Dev) => if ctrl then d else d.laneFail p bytes
    let good : Bool := d.is (.mac (.PORT_CTRL_FCS_BYPASS_RX p)) ∨ crc32 (bytes.take (n - 4)) = leAt bytes (n - 4) 4
    if 6 ≤ n ∧ !ctrl ∧ !d.daPasses p (bytes.take 6) then d.macCnt p 4
    else if 64 ≤ n ∧ !ctrl ∧ (d.alloc (stagingLine p 0) 256 (d.stageNeed p n ebError)).isNone then (d.macCnt p 5).laneFail p bytes
    else if d.rd (.mac (.FRAME_MAX_LEN p)) < n then fail (d.macCnt p 3)
    else if ebError then fail (d.macCnt p 6)
    else if n < 64 then fail (d.macCnt p 1)
    else if ctrl then d.rxControl p bytes good
    else if !good then (d.macCnt p 2).laneFail p bytes
    else d.rxGood p bytes age)

/-- A staged frame of port `p` moved to the frame buffer, its place in a class queue kept (R134, R137); nothing while
the frame buffer has no room for it (R25). -/
def Dev.crossFrame (d : Dev) (p : Nat) (f : Frame) : Dev :=
  let old := d
  let (bs, bad, d) := d.frameBytes f
  match d.newFrame bs bad f.info with
  | none => old
  | some (g, d) =>
    let g := { g with uid := f.uid }
    let d := (d.free f.lines).macCnt p 0
    let d := d.modPort p (fun x => { x with
      staged := (if d.classq.any (fun q => q.frame.uid = f.uid) then x.staged.filter (fun h => h.uid ≠ f.uid)
        else updWhere x.staged (fun h => h.uid = f.uid) (fun _ => g)) })
    { d with
      classq := updWhere d.classq (fun q => q.frame.uid = f.uid)
        (fun q => { q with frame := { g with info := q.frame.info, ring := q.frame.ring } }) }

/-- RX_FRAME_TO_BUFFER: the oldest verified frame of port `p` in staging crosses (R134). -/
def execRxFrameToBuffer (p : Fin 4) (s : State) : Host.Outcome State Fault Refusal :=
  s.run (fun d =>
    match (d.port p).staged.find? (·.staged) with
    | some f => d.crossFrame p f
    | none => d)

/-! ### The release window -/

/-- Whether the release window of port `p` is open: from the guard until the release of the tick has finished and no
frame it released remains in a SCHED queue (R142). -/
def Dev.windowOpen (d : Dev) (p : Nat) : Bool :=
  let x := d.port p
  x.window && (!x.relDone || (List.range 8).any (fun q => d.txSched p q && (x.txq.getD q []).any (·.rel)))

/-- RELEASE_GUARD_START: GUARD_NS before the P3 mark the window of a SCHED port opens (R74, R142). -/
def execReleaseGuardStart (p : Fin 4) (s : State) : Host.Outcome State Fault Refusal :=
  s.run (fun d =>
    if d.is (.tck .STATUS_RUNNING) ∧ d.sched p ∧ !d.tick.p3 ∧ !d.tick.first then
      (d.elapseTb (d.tick.lastTb + d.p3Off - d.guardNs p)).modPort p (fun x => { x with window := true })
    else d)

/-- The P3 release of port `p` as far as REL_LIMIT and the queues let it: the entries left wait for the next release
and are counted (R73, R140). -/
def Dev.releaseGo (d : Dev) (p limit : Nat) : Nat → List (Nat × TxEnt) → Dev
  | _, [] => d.modPort p (fun x => { x with relq := [] })
  | used, (q, e) :: rest =>
    let n := d.wireLen p e + 20
    if limit < used + n then
      (d.modPort p (fun x => { x with relq := x.relq ++ (q, e) :: rest, relBytes := used })).incBy
        (.tck (.REL_MISS_COUNT p)) (rest.length + 1)
    else match d.txRefusal p q true with
      | none =>
        ((d.txAccept p q { e with rel := true }).modPort p (fun x => { x with relBytes := used + n })).releaseGo p limit (used + n) rest
      | some 3 => (d.txDone p q e 4 false).releaseGo p limit used rest
      | some r =>
        let d := (d.txRefuse p r).inc (.tck (.REL_MISS_COUNT p))
        let d := d.releaseGo p limit used rest
        d.modPort p (fun x => { x with relq := (q, e) :: x.relq })

/-- The P3 release of port `p`. -/
def Dev.release (d : Dev) (p : Nat) : Dev :=
  let x := d.port p
  let d := d.modPort p (fun x => { x with relq := [], relDue := false, relDone := true })
  let q := x.relq
  let d := d.releaseGo p (d.relLimit p) x.relBytes q
  d

/-- P3_RELEASE: the release mark is in ETH (R73). -/
def execP3Release (s : State) : Host.Outcome State Fault Refusal :=
  s.run (fun d => (List.range 4).foldl (fun d p => if (d.port p).relDue then d.release p else d) d)

/-- RELEASE_STATE_RESET: the boundary mark is in ETH (R55, R142). -/
def execReleaseStateReset (s : State) : Host.Outcome State Fault Refusal :=
  s.run (fun d =>
    match d.tick.toEth with
    | [] => d
    | b :: bs =>
      let d := { d with tick := { d.tick with toEth := bs } }
      if b.stopping then d
      else (List.range 4).foldl (fun d p => d.modPort p (fun x => { x with
        window := false, relBytes := 0, relDone := !x.relDue && !d.sched p })) d)

/-! ### Transmission -/

/-- Whether queue `q` is eligible (R141 to R143). -/
def Dev.eligible (d : Dev) (p q : Nat) : Bool :=
  let x := d.port p
  !(x.txq.getD q []).isEmpty && d.portOn p && d.linkUp p && !d.held p q && !(d.fence && d.txCmd p q) &&
  (d.txSched p q || d.rd (.mac (.TXQ_SHAPE_RATE p q)) = 0 || 0 ≤ x.credit.getD q 0) &&
  (d.txSched p q || !d.windowOpen p)

/-- The bytes of a granted frame on the wire: tags after the source address, padding, FCS (R144); whether a line was
poisoned. -/
def Dev.txBytes (d : Dev) (e : TxEnt) : List Byte × Bool × Dev :=
  let (bs, bad, d) := d.frameBytes e.frame
  (bs.take 12 ++ e.tags.flatMap (beBytes 4) ++ bs.drop 12, bad, d)

/-- A frame granted: oversize and, in DROP mode, poisoned frames end at once; others are in transmission
(R144, R148, R441, R442). -/
def Dev.grant (d : Dev) (p q : Nat) (e : TxEnt) : Dev :=
  let len := d.wireLen p e
  let d := ((d.count 0x32 p 1).count 0x33 p len).count 0x34 (8 * p + q) 1
  let d := if !d.txSched p q ∧ 0 < d.rd (.mac (.TXQ_SHAPE_RATE p q)) then
      d.modPort p (fun x => { x with credit := bankAt 8 0 x.credit q (fun c => c - ((len + 20) * 800000 : Nat)) })
    else d
  let bypass := d.is (.mac (.PORT_CTRL_FCS_BYPASS_TX p))
  if d.rd (.mac (.FRAME_MAX_LEN p)) < len then d.txDone p q e 6 false
  else
    let (bs, bad, d) := d.txBytes e
    if bad ∧ (!d.is (.mac (.PORT_CTRL_POISON_MODE p)) ∨ bypass) then d.txDone p q e 2 false
    else
      let (bs, d) := d.ptpTx p bs bad
      let bs := if bypass then bs else
        let body := sliceB bs 0 (max bs.length 60)
        body ++ leBytes 4 (crc32 body)
      d.modPort p (fun x => { x with cur := some { ent := e, queue := q, bytes := bs, stomp := bad } })

/-- TX_GRANT: with the transmitter idle, a waiting pause frame or the head frame of the highest eligible queue is
granted (R141, R147). -/
def execTxGrant (p : Fin 4) (s : State) : Host.Outcome State Fault Refusal :=
  s.run (fun d =>
    let x := d.port p
    if x.cur.isSome then d else
    match x.pausePend with
    | some q => d.sendPause p q
    | none =>
      match [7, 6, 5, 4, 3, 2, 1, 0].find? (fun q => d.eligible p q) with
      | none => d
      | some q =>
        match x.txq.getD q [] with
        | [] => d
        | e :: es => (d.modPort p (fun x => { x with txq := bankAt 8 [] x.txq q (fun _ => es) })).grant p q e)

/-- TX_POISON_LATE (R149). -/
def execTxPoisonLate (p : Fin 4) (s : State) : Host.Outcome State Fault Refusal :=
  s.run (fun d => d.modPort p (fun x => { x with
    cur := x.cur.map (fun c => if c.stomp then c else { c with stomp := true, poisonLate := true }) }))

/-- TX_COMPLETE: the frame in transmission ends; a stomped frame left with its last four bytes inverted (R148, R149,
R155). -/
def execTxComplete (p : Fin 4) (s : State) : Host.Outcome State Fault Refusal :=
  s.run (fun d =>
    match (d.port p).cur with
    | none => d
    | some c =>
      let n := c.bytes.length
      let bs := if c.stomp then c.bytes.take (n - 4) ++ (c.bytes.drop (n - 4)).map (fun b => ~~~ b) else c.bytes
      let d := (d.modPort p (fun x => { x with cur := none })).emit (.wire p bs c.stomp)
      d.txDone p c.queue c.ent (if c.stomp then 3 else 0) c.poisonLate)

/-! ### Fence and cancel -/

/-- FENCE_ARRIVAL: the safe-state fence is in ETH (R151). -/
def execFenceArrival (s : State) : Host.Outcome State Fault Refusal :=
  s.run (fun d =>
    if d.fence ∨ d.rd (.saf .STATE_STATE) < 3 then d
    else
      (List.range 4).foldl (fun d p => (List.range 8).foldl (fun d q =>
        if d.txCmd p q then d.txRemove p q (fun _ => true) 4 else d) d) { d with fence := true })

/-- FENCE_LIFT: the monitor re-armed or was disarmed (R151). -/
def execFenceLift (s : State) : Host.Outcome State Fault Refusal :=
  s.run (fun d => if 3 ≤ d.rd (.saf .STATE_STATE) then d else { d with fence := false, safeCore := false })

/-- TX_CANCEL_ARRIVAL: the next cancel in flight to port `p` is in ETH (R153). -/
def execTxCancelArrival (p : Fin 4) (s : State) : Host.Outcome State Fault Refusal :=
  s.run (fun d =>
    match (d.port p).cancels with
    | [] => d
    | h :: hs =>
      let d := d.modPort p (fun x => { x with cancels := hs })
      match (List.range 8).find? (fun q => ((d.port p).txq.getD q []).any (fun e => e.handle = h)) with
      | some q => d.txRemove p q (fun e => e.handle = h) 1
      | none =>
        if (d.port p).relq.any (fun e => e.2.handle = h) then
          let es := (d.port p).relq.filter (fun e => e.2.handle = h)
          let d := d.modPort p (fun x => { x with relq := x.relq.filter (fun e => e.2.handle ≠ h) })
          es.foldl (fun d e => d.txDone p e.1 e.2 1 false) d
        else if (d.port p).cur.any (fun c => c.ent.handle = h) then
          d.modPort p (fun x => { x with cur := x.cur.map (fun c => { c with ent := { c.ent with late := true } }) })
        else d.macCnt p 19)

end Sys2Proof.Machine
end

