-- ==== Sys2Proof/Machine/Classifier.lean ====
section
/-! DEFINITION.  Parsing and classification of received frames (R157 to R184) and the black-channel check at
classification (R483 to R486, R489). -/

namespace Sys2Proof.Machine

open Sys2Proof

/-! ### Keys -/

/-- The field of `w` bits from bit `b` of byte `o`, bit 0 the most significant (R160). -/
def keyField (bs : List Byte) (o b w : Nat) : Nat :=
  let n := (b + w + 7) / 8
  beAt bs o n / 2 ^ (8 * n - b - w) % 2 ^ w

/-- The last byte of a field. -/
def fieldEnd (o b w : Nat) : Nat := o + (b + w - 1) / 8

/-- A field deposited in a key (R160). -/
def deposit (key : List Byte) (dest w v : Nat) : List Byte := patchB key dest (beBytes ((w + 7) / 8) v)

/-- KEY_META (R161). -/
def keyMetaOf (port profile tags tunnel : Nat) (frag first : Bool) : Nat :=
  port % 4 + profile % 16 * 4 + tags % 8 * 2 ^ 6 + tunnel % 4 * 2 ^ 9 + b2n frag * 2 ^ 11 + b2n first * 2 ^ 12

/-- The fixed-offset parser's key, and whether a window was short; `stop` is the first byte it may not read (R158, R162). -/
def Dev.fixedKey (d : Dev) (p : Nat) (bs : List Byte) (stop : Nat) : List Byte × Bool :=
  (List.range 16).foldl (fun k i =>
    let w := d.rd (.par (.FX_WIN_WIDTH p i))
    let o := d.rd (.par (.FX_WIN_OFFSET p i))
    let b := d.rd (.par (.FX_WIN_BIT p i))
    if w = 0 ∨ 32 < w then k
    else if stop ≤ fieldEnd o b w then (k.1, true)
    else (deposit k.1 (d.rd (.par (.FX_WIN_DEST p i))) w (keyField bs o b w), k.2))
    (List.replicate 32 0, false)

/-! ### The parse graph -/

/-- Where a walk of the parse graph stands (R166 to R170). -/
structure Walk where
  node : Nat
  h : Nat := 0
  hdrs : Nat := 0
  tags : Nat := 0
  level : Nat := 0
  profile : Nat := 0
  key : List Byte := List.replicate 32 0
  stack : List (Nat × Nat) := []
  v6 : Option (List Byte) := none
  frag : Bool := false
  first : Bool := false
  last : Bool := false
  fragKey : List Byte := []
  ended : Bool := false
  reason : Nat := 0
  poison : Bool := false
  deriving DecidableEq, Repr

/-- What a walk reads by: the frame, the first byte it may not read, MAX_BYTES, MAX_HDRS, whether fragments are
handled at tunnel level 0 (R170), whether first fragments go on (R172), the port. -/
structure WalkCtx where
  bs : List Byte
  stop : Nat
  maxBytes : Nat
  maxHdrs : Nat
  fragOn : Bool
  follow : Bool
  port : Nat

/-- The reasons a field that ends at byte `e` fails the parse (R167). -/
def WalkCtx.short (c : WalkCtx) (e : Nat) : List Nat :=
  (if c.maxBytes ≤ e then [2] else []) ++ (if c.stop ≤ e then [6] else [])

/-- Word `i` of a node. -/
def nodeWord (nb : List Byte) (i : Nat) : Nat := leAt nb (4 * i) 4

/-- Whether a node holds a reserved encoding, or an extraction that leaves the key (R165, R167). -/
def nodeBad (nb : List Byte) : Bool :=
  let w2 := nodeWord nb 2
  32 < bitsOf (nodeWord nb 0) 11 6 || bitsOf (nodeWord nb 1) 0 2 = 3 || 1 < bitsOf w2 0 2 ||
  (bitsOf w2 0 2 = 1 && (bitsOf w2 27 5 = 0 || 16 < bitsOf w2 27 5)) ||
  (List.range 16).any (fun t =>
    let c := leAt nb (64 + 12 * t + 8) 4
    bitAt c 2 && bitsOf c 0 2 = 3) ||
  (List.range 4).any (fun i =>
    let e := nodeWord nb (4 + i)
    let w := bitsOf e 11 6
    32 < w || (0 < w && 32 < bitsOf e 17 5 + (w + 7) / 8))

/-- Step 2: extraction `i` of a node (R160, R166). -/
def extract (c : WalkCtx) (nb : List Byte) (w : Walk) (i : Nat) : Walk × List Nat :=
  let e := nodeWord nb (4 + i)
  let n := bitsOf e 11 6
  let o := w.h + bitsOf e 0 8
  let b := bitsOf e 8 3
  if n = 0 ∨ 32 < n then (w, [])
  else match c.short (fieldEnd o b n) with
    | [] => ({ w with key := deposit w.key (bitsOf e 17 5) n (keyField c.bs o b n) }, [])
    | r => (w, r)

/-- The fragment table's key of a datagram, in the entry's layout with VALID set (R172). -/
def fragKeyOf (port : Nat) (v6 : Bool) (src dst : List Byte) (id : Nat) (proto : Byte) : List Byte :=
  sliceB (List.replicate (16 - src.length) 0 ++ src) 0 16 ++ sliceB (List.replicate (16 - dst.length) 0 ++ dst) 0 16 ++
    beBytes 4 id ++ [proto, BitVec.ofNat 8 (port % 4 + 4 * b2n v6 + 128)]

/-- Step 5: the FRAG handling of a node: the walk, whether it ends here with ACCEPT, the reasons it fails (R170 to R172). -/
def fragStep (c : WalkCtx) (kind : Nat) (w : Walk) : Walk × Bool × List Nat :=
  let at_ := fun i => (c.bs.getD (w.h + i) 0)
  let off4 := beAt c.bs (w.h + 6) 2 % 2 ^ 13
  let mf := bitAt (at_ 6).toNat 5
  let off6 := beAt c.bs (w.h + 2) 2 / 8
  let more := bitAt (at_ 3).toNat 0
  if kind = 0 then (w, false, [])
  else if w.level = 0 then
    if !c.fragOn then (w, false, [])
    else if kind = 2 then
      match c.short (w.h + 39) with
      | [] => ({ w with v6 := some (sliceB c.bs (w.h + 8) 32) }, false, [])
      | r => (w, false, r)
    else
      let mark := fun (w : Walk) (isFrag first last : Bool) (key : List Byte) =>
        if isFrag then
          ({ w with frag := true, first := first, last := last, fragKey := key }, !(c.follow && first), ([] : List Nat))
        else (w, false, [])
      if kind = 1 then
        match c.short (w.h + 19) with
        | [] => mark w (mf || off4 ≠ 0) (off4 = 0) (!mf)
            (fragKeyOf c.port false (sliceB c.bs (w.h + 12) 4) (sliceB c.bs (w.h + 16) 4) (beAt c.bs (w.h + 4) 2) (at_ 9))
        | r => (w, false, r)
      else
        match w.v6 with
        | none => (w, false, [7])
        | some a =>
          match c.short (w.h + 7) with
          | [] => mark w (more || off6 ≠ 0) (off6 = 0) (!more)
              (fragKeyOf c.port true (a.take 16) (a.drop 16) (beAt c.bs (w.h + 4) 4) (at_ 0))
          | r => (w, false, r)
  else if kind = 2 then (w, false, [])
  else
    match c.short (w.h + (if kind = 1 then 7 else 3)) with
    | [] => (w, if kind = 1 then mf || off4 ≠ 0 else more || off6 ≠ 0, [])
    | r => (w, false, r)

/-- A walk that fails. -/
def Walk.fail (w : Walk) (r : Nat) : Walk := { w with ended := true, reason := r }

/-- The lowest of the reasons that apply in one step of the walk (assumption 13). -/
def leastReason (l : List Nat) : Option Nat := l.foldl (fun m r => match m with | none => some r | some k => some (min k r)) none

/-- Step 6: the action and next node of the first matching transition, or the default's (R166). -/
def nodeAction (nb : List Byte) (s : Nat) : Nat × Nat :=
  let w1 := nodeWord nb 1
  let dflt := (bitsOf w1 0 2, bitsOf w1 8 8)
  if bitsOf (nodeWord nb 0) 11 6 = 0 then dflt
  else
    match (List.range 16).find? (fun t =>
      let o := 64 + 12 * t
      bitAt (leAt nb (o + 8) 4) 2 && Nat.land (Nat.xor s (leAt nb o 4)) (leAt nb (o + 4) 4) = 0) with
    | some t => (bitsOf (leAt nb (64 + 12 * t + 8) 4) 0 2, bitsOf (leAt nb (64 + 12 * t + 8) 4) 8 8)
    | none => dflt

/-- Step 7: the choice acted on; `a` is the advance (R166, R167). -/
def walkAct (c : WalkCtx) (nb : List Byte) (a : Nat) (act : Nat × Nat) (w : Walk) : Walk :=
  if act.1 = 0 then w.fail 1
  else if act.1 = 2 then
    if c.maxBytes < w.h + a then w.fail 2
    else if c.stop < w.h + a then w.fail 6
    else { w with ended := true }
  else
    let up := bitAt (nodeWord nb 1) 17
    if up ∧ w.level = 2 then w.fail 5
    else { w with level := w.level + b2n up, h := w.h + a, node := act.2 }

/-- The work of a node after its header is counted: steps 2 to 7 (R166). -/
def walkNode (c : WalkCtx) (nb : List Byte) (w : Walk) : Walk :=
  let w0 := nodeWord nb 0
  let w1 := nodeWord nb 1
  let w2 := nodeWord nb 2
  let (w, r2) := (List.range 4).foldl (fun a i => let x := extract c nb a.1 i; (x.1, a.2 ++ x.2)) (w, [])
  let w := if bitAt w1 20 then { w with profile := bitsOf w1 21 4 } else w
  let sw := bitsOf w0 11 6
  let so := w.h + bitsOf w0 0 8
  let sb := bitsOf w0 8 3
  let r3 := if sw = 0 then [] else c.short (fieldEnd so sb sw)
  let s := if sw = 0 then 0 else keyField c.bs so sb sw
  let aw := bitsOf w2 27 5
  let ao := w.h + bitsOf w2 16 8
  let ab := bitsOf w2 24 3
  let field := bitsOf w2 0 2 = 1 ∧ aw ≠ 0
  let r4 := if field then c.short (fieldEnd ao ab aw) else []
  let a := bitsOf w2 8 8 + (if field then keyField c.bs ao ab aw * 2 ^ bitsOf (nodeWord nb 3) 0 2 else 0)
  let (w, stopHere, r5) := fragStep c (bitsOf w1 18 2) w
  match leastReason (r2 ++ r3 ++ r4 ++ r5 ++ (if nodeBad nb then [7] else [])) with
  | some r => w.fail r
  | none => walkAct c nb a (if stopHere then (2, 0) else nodeAction nb s) w

/-- One node of the walk (R166); a poisoned node ends it. -/
def Dev.walkStep (d : Dev) (c : WalkCtx) (w : Walk) : Walk × Dev :=
  let (nb, bad, d) := d.readRun (lineRun (tableLine (4 * w.node)) 4)
  if bad then ({ w with ended := true, poison := true }, d)
  else
    let tag := bitAt (nodeWord nb 1) 16
    let w := { w with
      hdrs := w.hdrs + 1
      tags := w.tags + b2n tag
      stack := (w.stack ++ [(bitsOf (nodeWord nb 0) 24 8, w.h)]).take 10 }
    if c.maxHdrs < w.hdrs then (w.fail 3, d)
    else if tag ∧ 4 < w.tags then (w.fail 4, d)
    else (walkNode c nb w, d)

/-- The walk of the parse graph; MAX_HDRS bounds it (R167). -/
def Dev.walk (d : Dev) (c : WalkCtx) : Nat → Walk → Walk × Dev
  | 0, w => (w.fail 3, d)
  | fuel + 1, w =>
    if w.ended then (w, d)
    else
      let (w, d) := d.walkStep c w
      d.walk c fuel w

/-! ### The tables -/

/-- What a table lookup finds: a RESULT, a poisoned line that decides, or nothing. -/
inductive Hit where
  | result (r : Nat)
  | poison
  | miss
  deriving DecidableEq, Repr

/-- The bucket of a key (R175). -/
def bucketOf (key : List Byte) (km : Nat) : Nat := crc32c (key ++ leBytes 4 km) % 1024

/-- Whether an exact entry hits (R175). -/
def exactHit (key : List Byte) (km : Nat) (e : List Byte) : Bool :=
  bitAt (leAt e 32 4) 31 && e.take 32 = key && leAt e 32 4 % 2 ^ 13 = km % 2 ^ 13

/-- The exact table looked up; any poisoned line of the bucket decides (R175, R180). -/
def Dev.exactLookup (d : Dev) (key : List Byte) (km : Nat) : Hit × Dev :=
  let b := tableLine (0x400 + 4 * bucketOf key km)
  let (ways, d) := (List.range 4).foldl (fun (a : List (List Byte × Bool) × Dev) i =>
    let (e, p, d) := a.2.readLine (b + i)
    (a.1 ++ [(e, p)], d)) ([], d)
  if ways.any (·.2) then (.poison, d)
  else match ways.find? (fun e => exactHit key km e.1) with
    | some e => (.result (leAt e.1 40 8), d)
    | none => (.miss, d)

/-- Whether a ternary entry matches (R176). -/
def ternMatch (key : List Byte) (km : Nat) (v m : List Byte) : Bool :=
  bitAt (leAt v 32 4) 31 && Nat.land (Nat.xor (ofLe key) (leAt v 0 32)) (leAt m 0 32) = 0 &&
    Nat.land (Nat.xor km (leAt v 32 4)) (leAt m 32 4) % 2 ^ 13 = 0

/-- The ternary table looked up: every entry is read; the first that matches or is poisoned decides (R176, R180). -/
def Dev.ternLookup (d : Dev) (key : List Byte) (km : Nat) : Hit × Dev :=
  (List.range 512).foldl (fun (a : Hit × Dev) t =>
    let (v, p, d) := a.2.readLine (tableLine (0x1400 + 2 * t))
    let (m, q, d) := d.readLine (tableLine (0x1401 + 2 * t))
    (if a.1 ≠ .miss then a.1 else if p || q then .poison
      else if ternMatch key km v m then .result (leAt v 40 8) else .miss, d)) (.miss, d)

/-! ### The fragment table -/

/-- The line of fragment entry `f` (R163). -/
def fragLine (f : Nat) : Nat := tableLine (0x1800 + f)

/-- Fragment entry `f`, as stored. -/
def Dev.fragEnt (d : Dev) (f : Nat) : List Byte := d.rawLine (fragLine f)

/-- Whether fragment entry `f` is valid. -/
def Dev.fragValid (d : Dev) (f : Nat) : Bool := bitAt ((d.fragEnt f).getD 37 0).toNat 7

/-- A fragment entry removed. -/
def Dev.fragRemove (d : Dev) (f : Nat) : Dev := d.zeroLines (fragLine f) 1

/-- The fragment table cleared (R159). -/
def Dev.fragClear (d : Dev) : Dev := d.zeroLines (fragLine 0) 128

/-- The entry of a key. -/
def Dev.fragFind (d : Dev) (key : List Byte) : Option Nat :=
  (List.range 128).find? (fun f => (d.fragEnt f).take 38 = key)

/-- The fragment table looked up by a later fragment; a poisoned entry is removed when it is met (R172, R180). -/
def Dev.fragLookup (d : Dev) (key : List Byte) : Bool × Option Nat × Dev :=
  let (bad, d) := (List.range 128).foldl (fun (a : List Nat × Dev) f =>
    let (_, p, d) := a.2.readLine (fragLine f)
    (if p then a.1 ++ [f] else a.1, d)) ([], d)
  let d := bad.foldl Dev.fragRemove d
  (!bad.isEmpty, d.fragFind key, d)

/-- The creation age of an entry in ticks. -/
def Dev.fragAge (d : Dev) (f : Nat) : Nat :=
  (d.tick.coreTick + 2 ^ 32 - leAt (d.fragEnt f) 48 4) % 2 ^ 32

/-- The oldest entry, the lower index on a tie (R173). -/
def Dev.fragOldest (d : Dev) : Nat :=
  (List.range 128).foldl (fun o f => if d.fragAge o < d.fragAge f then f else o) 0

/-- A first fragment's applied result written to the table: over its own entry, into the lowest free entry, or over the
oldest (R172, R173). -/
def Dev.fragInsert (d : Dev) (key : List Byte) (result : Nat) : Dev :=
  let bytes := key ++ [0, 0] ++ leBytes 8 result ++ leBytes 4 (d.tick.coreTick % 2 ^ 32) ++ List.replicate 12 0
  match d.fragFind key with
  | some f => d.writeLine (fragLine f) bytes false
  | none =>
    match (List.range 128).find? (fun f => !d.fragValid f) with
    | some f => d.writeLine (fragLine f) bytes false
    | none => (d.inc (.par .FRAG_EVICT_CNT_COUNT)).writeLine (fragLine d.fragOldest) bytes false

/-- FRAG_ENTRY_AGE_EXPIRY: entries whose AGE_TICKS boundaries have passed are removed (R174). -/
def execFragEntryAgeExpiry (s : State) : Host.Outcome State Fault Refusal :=
  s.run (fun d => (List.range 128).foldl (fun d f =>
    if d.fragValid f ∧ d.rd (.par .FRAG_CFG_AGE_TICKS) ≤ d.fragAge f then d.fragRemove f else d) d)

/-! ### The lookup -/

/-- A default result of a class and DROP (R179). -/
def defaultResult (cls : Nat) (drop : Bool) : Nat := cls % 256 + b2n drop * 2 ^ 11

/-- The failure default of a port (R179). -/
def Dev.failDefault (d : Dev) (p : Nat) : Nat :=
  defaultResult (d.rd (.par (.PORT_DEFAULT_FAIL_CLASS p))) (d.is (.par (.PORT_DEFAULT_FAIL_DROP p)))

/-- The no-match default of a port (R179). -/
def Dev.noMatchDefault (d : Dev) (p : Nat) : Nat :=
  defaultResult (d.rd (.par (.PORT_DEFAULT_NOMATCH_CLASS p))) (d.is (.par (.PORT_DEFAULT_NOMATCH_DROP p)))

/-- The key words that differ under PAR_SAFE_MASK (R181, R182). -/
def Dev.keyDiff (d : Dev) (p : Nat) (a b : List Byte) : Nat :=
  (List.range 8).foldl (fun n i =>
    if Nat.land (Nat.xor (leAt a (4 * i) 4) (leAt b (4 * i) 4)) (d.rd (.par (.SAFE_MASK_MASK p i))) ≠ 0 then setBit n i
    else n) 0

/-- Whether PAR_SAFE_MASK of a port is all zero (R181). -/
def Dev.safeMaskZero (d : Dev) (p : Nat) : Bool :=
  (List.range 8).all (fun i => d.rd (.par (.SAFE_MASK_MASK p i)) = 0)

/-- The tables' part of R180: the exact table first, then the ternary table. -/
def Dev.tables (d : Dev) (p : Nat) (key : List Byte) (km : Nat) : Nat × Nat × Dev :=
  let (e, d) := d.exactLookup key km
  let (t, d) := d.ternLookup key km
  match e, t with
  | .poison, _ => (7, d.failDefault p, d)
  | .result r, _ => (1, r, d)
  | .miss, .poison => (7, d.failDefault p, d)
  | .miss, .result r => (2, r, d)
  | .miss, .miss => (3, d.noMatchDefault p, d)

/-- The classifier's lookup result for a frame of port `p` (R157 to R182). -/
def Dev.lookup (d : Dev) (p : Nat) (bs : List Byte) : LookRes × Dev :=
  let stop := bs.length - 4
  let graph := d.is (.par (.PORT_CFG_PRIMARY p))
  let follow := d.rd (.par (.PORT_CFG_FRAG_MODE p)) = 1
  let c : WalkCtx :=
    { bs := bs, stop := stop, maxBytes := d.rd (.par (.PORT_CFG_MAX_BYTES p)),
      maxHdrs := d.rd (.par (.PORT_CFG_MAX_HDRS p)), fragOn := graph, follow := follow, port := p }
  let (w, d) := d.walk c 17 { node := d.rd (.par (.PORT_CFG_ROOT p)) }
  let (fk, fshort) := d.fixedKey p bs stop
  let key := if graph then w.key else fk
  let km := if graph then keyMetaOf p w.profile w.tags w.level w.frag w.first
    else keyMetaOf p (d.rd (.par (.FX_PROFILE_PROFILE p))) 0 0 false false
  let base : LookRes := { outcome := 4, result := d.failDefault p, keyMeta := km, hdrs := w.stack }
  if graph ∧ w.poison then ({ base with outcome := 7 }, d)
  else if graph ∧ w.reason ≠ 0 then ({ base with failReason := w.reason, failNode := w.node, failOff := w.h % 256 }, d)
  else if !graph ∧ fshort then ({ base with failReason := 6 }, d)
  else
    let base := if graph ∧ follow ∧ w.frag then
        { base with frag := some w.fragKey, fragFirst := w.first, fragLast := w.last }
      else base
    if base.frag.isSome ∧ !w.first then
      let (bad, f, d) := d.fragLookup w.fragKey
      if bad then ({ base with outcome := 7 }, d)
      else match f with
        | some f => ({ base with outcome := 5, result := leAt (d.fragEnt f) 40 8, fragHit := some f }, d)
        | none => ({ base with outcome := 6, result := d.noMatchDefault p }, d)
    else
      let (o, r, d) := d.tables p key km
      if (o = 1 ∨ o = 2) ∧ bitAt r 9 then
        if bitAt km 11 then ({ base with outcome := 9 }, d)
        else
          let diff := d.keyDiff p w.key fk
          let sec := if graph then fshort else w.poison || w.reason ≠ 0
          let mz := d.safeMaskZero p
          let o := if diff ≠ 0 ∨ sec ∨ mz then 8 else o
          ({ base with outcome := o, result := r, dpDiff := diff, secFail := sec, maskZero := mz }, d)
      else ({ base with outcome := o, result := r }, d)

/-- The oldest frame of port `p`'s lane without a lookup result gets one; frames whose FCS verdict failed leave with
theirs (R41, R183). -/
def Dev.laneLookup (d : Dev) (p : Nat) : Dev :=
  match (d.port p).lane.find? (·.res.isNone) with
  | none => d
  | some f =>
    let (r, d) := d.lookup p f.bytes
    d.modPort p (fun x => { x with
      lane := (updWhere x.lane (fun g => g.uid = f.uid) (fun g => { g with res := some r })).filter
        (fun g => g.good || g.res.isNone) })

/-- CLASSIFIER_LOOKUP (R183). -/
def execClassifierLookup (p : Fin 4) (s : State) : Host.Outcome State Fault Refusal :=
  s.run (fun d => d.laneLookup p)

/-- Every frame in a lane looked up: what a switch boundary leaves to the old configuration (R159). -/
def Dev.laneLookupAll (d : Dev) : Dev :=
  (List.range 4).foldl (fun d p => (d.port p).lane.foldl (fun d _ => d.laneLookup p) d) d

/-! ### The black channel -/

/-- The black-channel CRC (R483). -/
def bcCrc (connId : Nat) (covered : List Byte) : Nat :=
  Nat.xor ((beBytes 4 connId ++ covered).foldl (crcMsbByte 0xF4ACFB13) 0xFFFFFFFF) 0xFFFFFFFF

/-- Whether SEQ meets the rule of R486. -/
def Dev.bcSeqOk (d : Dev) (c seq : Nat) : Bool :=
  let dist := (seq + 2 ^ 32 - d.rd (.saf (.BC_LAST_SEQ_SEQ c))) % 2 ^ 32
  !d.is (.saf (.BC_STATUS_SEQ_VALID c)) || (0 < dist && dist ≤ d.rd (.saf (.BC_CFG_SEQ_GAP c)))

/-- Whether the trailer of a safety frame (its last 12 bytes but for the FCS) begins before OFFSET, or the frame is
shorter than 60 bytes (R484). -/
def Dev.bcLenErr (d : Dev) (c : Nat) (bs : List Byte) : Bool :=
  bs.length < 60 || bs.length - 12 < d.rd (.saf (.BC_OFFSET_OFFSET c))

/-- Whether the CRC of a safety frame is correct (R483). -/
def Dev.bcCrcOk (d : Dev) (c : Nat) (bs : List Byte) : Bool :=
  let o := d.rd (.saf (.BC_OFFSET_OFFSET c))
  bcCrc (d.rd (.saf (.BC_CONN_ID_ID c))) ((bs.take (bs.length - 4)).drop o) = beAt bs (bs.length - 4) 4

/-- The black-channel check of a received frame, its FCS removed: accepted or not, its cause counted (R485, R486, R489). -/
def Dev.bcRx (d : Dev) (p : Nat) (bs : List Byte) : Bool × Dev :=
  let c := beAt bs (bs.length - 12) 2
  let seq := beAt bs (bs.length - 10) 4
  if 16 ≤ c ∨ !d.is (.saf (.BC_CFG_EN c)) ∨ d.is (.saf (.BC_CFG_DIR c)) ∨ d.rd (.saf (.BC_CFG_PORT c)) ≠ p then
    (false, d.inc (.saf (.BC_CNT_LEN_ERR 0)))
  else if d.is (.saf (.BC_STATUS_STATE c)) then (false, d.inc (.saf (.BC_CNT_LATE c)))
  else if d.bcLenErr c bs then (false, d.inc (.saf (.BC_CNT_LEN_ERR c)))
  else if !d.bcCrcOk c bs then (false, d.inc (.saf (.BC_CNT_CRC_ERR c)))
  else if !d.bcSeqOk c seq then (false, d.inc (.saf (.BC_CNT_SEQ_ERR c)))
  else (true, d.wrs [(.saf (.BC_LAST_SEQ_SEQ c), seq), (.saf (.BC_STATUS_SEQ_VALID c), 1),
    (.saf (.BC_LAST_TICK_TICK c), d.tick.coreTick % 2 ^ 32)])

/-! ### Classification -/

/-- A PAR_CNT counter of a port increased. -/
def Dev.parCnt (d : Dev) (p i : Nat) : Dev := d.inc (.par (.CNT_COUNT p i))

/-- A frame discarded at classification: no line of it is queued. -/
def Dev.classDiscard (d : Dev) (p uid : Nat) : Dev :=
  match (d.port p).staged.find? (fun f => f.uid = uid) with
  | none => d
  | some f => (d.modPort p (fun x => { x with staged := x.staged.filter (fun g => g.uid ≠ uid) })).dropFrame f

/-- A frame joins its class queue with its metadata; one still in staging stays there, queued (R42, R134, R169, R198). -/
def Dev.classQueue (d : Dev) (p uid result : Nat) (r : LookRes) : Dev :=
  match (d.port p).staged.find? (fun f => f.uid = uid) with
  | none => d
  | some f =>
    let cls := result % 256
    if d.served cls then
      let info := { f.info with result := result, keyMeta := r.keyMeta, hdrs := r.hdrs, batch := d.tick.coreTick }
      let f := { f with info := info }
      let d := if f.staged then d else d.modPort p (fun x => { x with staged := x.staged.filter (fun g => g.uid ≠ uid) })
      d.enqueueClass cls f
    else (d.classDiscard p uid).inc (.eng .UNSERVED_CNT_COUNT)

/-- The result applied: a reserved ACTION is DROP (R178). -/
def appliedResult (r : Nat) : Nat := if 2 ≤ bitsOf r 11 2 then r - bitsOf r 11 2 * 2 ^ 11 + 2 ^ 11 else r

/-- What a classified frame does to the fragment table (R172 to R174). -/
def Dev.fragEffect (d : Dev) (r : LookRes) (applied : Nat) : Dev :=
  match r.frag with
  | none => d
  | some key =>
    if r.fragFirst then d.fragInsert key applied
    else match r.fragHit with
      | some f => if r.fragLast ∧ d.is (.par .FRAG_CFG_FREE_ON_LAST) ∧ (d.fragEnt f).take 38 = key then d.fragRemove f else d
      | none => d

/-- A frame of port `p` classified with its lookup result (R41, R54, R169 to R182, R198, R485). -/
def Dev.classify (d : Dev) (p : Nat) (f : LaneFrame) (r : LookRes) : Dev :=
  let d := ((d.parCnt p 0).parCnt p r.outcome).count 0x20 p 1
  let d := if r.outcome = 3 ∨ r.outcome = 4 ∨ r.outcome = 6 ∨ r.outcome = 7 ∨ r.outcome = 9 then d.count 0x21 p 1 else d
  let d := if r.failReason ≠ 0 then d.logFirst (.par (.LAST_FAIL_VALID p)) [(.par (.LAST_FAIL_REASON p), r.failReason),
      (.par (.LAST_FAIL_NODE p), r.failNode), (.par (.LAST_FAIL_OFFSET p), r.failOff)]
    else d
  let d := if d.tick.coreRun then d else d.inc (.tck .NOTICK_DROP_COUNT)
  if r.outcome = 8 then
    let d := d.logFirst (.par (.DP_LOG_VALID p)) [(.par (.DP_LOG_DIFF p), r.dpDiff),
      (.par (.DP_LOG_SEC_FAIL p), b2n r.secFail), (.par (.DP_LOG_MASK_ZERO p), b2n r.maskZero)]
    (d.fault 11 p).classDiscard p f.uid
  else
    let d := if 2 ≤ bitsOf r.result 11 2 then d.parCnt p 10 else d
    let a := appliedResult r.result
    let d := d.fragEffect r a
    if bitsOf a 11 2 = 1 then (d.parCnt p 11).classDiscard p f.uid
    else if !d.tick.coreRun then d.classDiscard p f.uid
    else
      let (ok, d) := if (r.outcome = 1 ∨ r.outcome = 2) ∧ bitAt a 9 ∧ d.is (.saf .CTRL_RX_CHECK) then
          d.bcRx p (f.bytes.take (f.bytes.length - 4))
        else (true, d)
      if ok then d.classQueue p f.uid a r else d.classDiscard p f.uid

/-- FRAME_CLASSIFIED: the oldest frame of port `p`'s lane, its result and its good FCS both in CORE (R41). -/
def execFrameClassified (p : Fin 4) (s : State) : Host.Outcome State Fault Refusal :=
  s.run (fun d =>
    match (d.port p).lane with
    | [] => d
    | f :: fs =>
      match f.res with
      | none => d
      | some r => (d.modPort p (fun x => { x with lane := fs })).classify p f r)

end Sys2Proof.Machine
end

