-- ==== Sys2Proof/Machine/Crypto.lean ====
section
/-! DEFINITION.  The crypto unit: SA table, key store, ESP and MACsec transforms, SA commands
(R240 to R263). -/

namespace Sys2Proof.Machine

open Sys2Proof

/-! ### The SA table -/

/-- Line `k` of SA entry `s` (R246). -/
def saLine (s k : Nat) : Nat := tableLine (0x1880 + 4 * s + k)

/-- The first `n` lines of SA entry `s`. -/
def Dev.saRead (d : Dev) (s n : Nat) : List Byte × Bool × Dev := d.readRun (lineRun (saLine s 0) n)

/-- Bytes written into an SA entry from byte `off` of its four lines. -/
def Dev.saWrite (d : Dev) (s off : Nat) (bs : List Byte) : Dev :=
  d.writeRun (lineRun (saLine s 0) 4) off bs false

/-- A bit field of bytes 0 to 3 of an SA entry. -/
def saBits (e : List Byte) (lo w : Nat) : Nat := bitsOf (leAt e 0 4) lo w

/-- VALID of an SA entry. -/
def saValid (e : List Byte) : Bool := saBits e 0 1 = 1
/-- TYPE: 0 ESP_OUT, 1 ESP_IN, 2 MACSEC_TX, 3 MACSEC_RX. -/
def saType (e : List Byte) : Nat := saBits e 1 3
/-- EXT: ESN or XPN. -/
def saExt (e : List Byte) : Bool := saBits e 5 1 = 1
/-- OUTER_V6. -/
def saV6 (e : List Byte) : Bool := saBits e 6 1 = 1
/-- UDP_ENCAP. -/
def saUdp (e : List Byte) : Bool := saBits e 7 1 = 1
/-- CONF of a MACsec entry. -/
def saConf (e : List Byte) : Nat := saBits e 9 2
/-- WINDOW. -/
def saWindow (e : List Byte) : Nat := saBits e 12 11
/-- STATE: 0 ACTIVE, 1 DRAINING, 2 EXPIRED, 3 KEY_ERR. -/
def saState (e : List Byte) : Nat := saBits e 24 2
/-- SEQ. -/
def saSeq (e : List Byte) : Nat := leAt e 8 8

/-- The first word of an SA entry with a field replaced. -/
def saPutBits (e : List Byte) (lo w v : Nat) : List Byte :=
  let n := leAt e 0 4
  patchB e 0 (leBytes 4 (n - bitsOf n lo w * 2 ^ lo + v % 2 ^ w * 2 ^ lo))

/-- SA entry `s` as the CRYPT checks of R240 see it, without the error handling of a processing read. -/
def Dev.saPeek (d : Dev) (s : Nat) : List Byte := d.rawLine (saLine s 0)

/-! ### Keys -/

/-- The key-store slot of an SA: 32 bytes (R252). -/
def Dev.keySlot (d : Dev) (s : Nat) : List Byte :=
  match d.cry.keys.find? (fun k => k.1 = s) with
  | some k => k.2
  | none => List.replicate 32 0

/-- A key-store slot written; zeros are not listed. -/
def Dev.setKey (d : Dev) (s : Nat) (k : List Byte) : Dev :=
  let rest := d.cry.keys.filter (fun e => e.1 ≠ s)
  { d with cry := { d.cry with
      keys := if k = List.replicate 32 0 then rest else rest ++ [(s, k)]
      keyBad := d.cry.keyBad.filter (fun x => x ≠ s) } }

/-- The whole key store and the whole SA table zeroed (R253). -/
def Dev.zeroiseKeys (d : Dev) : Dev :=
  let d := { d with cry := { d.cry with keys := [], keyBad := [] } }
  d.zeroLines (saLine 0 0) 4096

/-- The key of an entry: 16 or 32 bytes by KEY256. -/
def Dev.saKey (d : Dev) (s : Nat) (e : List Byte) : List Byte :=
  (d.keySlot s).take (if saBits e 4 1 = 1 then 32 else 16)

/-- KEK_SA, when it is available (R527). -/
def kekSa (o : Otp) (d : Dev) : Option (List Byte) :=
  if (o.lc = 1 ∨ o.lc = 2) ∧ o.seedProg ∧ !d.d2 then
    some (Config.hkdf o.uid o.seed [0x56, 0x42, 0x37, 0x20, 0x53, 0x41, 0x20, 0x4B, 0x45, 0x4B])
  else none

/-! ### Events -/

/-- A CRY_STATUS bit set and its event raised (R364). -/
def Dev.cryEvent (d : Dev) (f : CryF) : Dev := d.event (.cry f) (.cry .CTRL_IRQ_EN) 6

/-- An event of SA `s` recorded in CRY_EVENT_LOG and its status bit set. -/
def Dev.cryLog (d : Dev) (f : CryF) (s cause : Nat) : Dev :=
  (d.logFirst (.cry .EVENT_LOG_VALID) [(.cry .EVENT_LOG_SA, s), (.cry .EVENT_LOG_CAUSE, cause)]).cryEvent f

/-! ### Pipelines -/

/-- Pipeline `p`. -/
def Dev.pipe (d : Dev) (p : Nat) : CryPipe := d.cry.pipes.getD p {}

/-- Pipeline `p` changed. -/
def Dev.modPipe (d : Dev) (p : Nat) (f : CryPipe → CryPipe) : Dev :=
  { d with cry := { d.cry with pipes := bankAt 2 {} d.cry.pipes p f } }

/-- Frames in the input queue of a pipeline: the head is in process while no transformed frame waits
to return (R243). -/
def CryPipe.occupancy (p : CryPipe) : Nat :=
  if p.done.isSome then p.queue.length else p.queue.length - 1

/-- The pipeline of a CRYPT: bit 2 of the index of a MACsec receive group, else bit 0 (R242). -/
def pipeOf (s : Nat) (group : Bool) : Nat := if group then bitsOf s 2 1 else bitsOf s 0 1

/-- The head job of a pipeline whose processing has begun. -/
def Dev.cryJob (d : Dev) (p : Nat) : Option CryJob :=
  let c := d.pipe p
  if c.done.isSome then none else c.queue.head?

/-- A job dropped: counted under its cause, its frame freed (R245). -/
def Dev.cryDrop (d : Dev) (p : Nat) (j : CryJob) (cause : Nat) : Dev :=
  ((d.inc (.cry (.CNT_COUNT cause))).discard j.frame).modPipe p
    (fun c => { c with queue := c.queue.drop 1 })

/-- RESULT of a returned frame (R245). -/
def cryResult (r ret used : Nat) (inbound : Bool) : Nat :=
  let mid := bitsOf r 8 24
  ret % 256 + (if inbound then mid / 8 * 8 else mid) * 256 + (used + b2n inbound * 65536) * 2 ^ 32

/-- A job ended: the transformed frame waits to return, with the metadata of R245. -/
def Dev.cryEnd (d : Dev) (p : Nat) (j : CryJob) (f : Frame) (used : Nat) (clean : Bool) : Dev :=
  let info := { f.info with
    result := cryResult f.info.result j.ret used j.inbound, hdrs := [], retry := false, fromCrypto := true }
  d.modPipe p (fun c =>
    { queue := c.queue.drop 1, done := some { j with frame := { f with info := info }, used := used, clean := clean } })

/-! ### Sequence numbers and replay -/

/-- Whether an outbound entry is exhausted (R256). -/
def saExhausted (e : List Byte) : Bool :=
  saSeq e = if saExt e then 2 ^ 64 - 1 else 2 ^ 32 - 1

/-- A frame that finds its outbound SA exhausted (R256). -/
def Dev.cryExhausted (d : Dev) (p : Nat) (j : CryJob) (e : List Byte) : Dev :=
  ((d.saWrite j.sa 0 ((saPutBits e 24 2 2).take 4)).cryLog .STATUS_EXPIRED j.sa 1).cryDrop p j 4

/-- Number `q` written to SEQ, PKTS counted when the frame is not dropped, and the soft limit of
R256. -/
def Dev.crySend (d : Dev) (s : Nat) (e : List Byte) (q : Nat) (counted : Bool) : Dev :=
  let limit := leAt e 16 8
  let hit : Bool := limit ≠ 0 ∧ q = limit
  let e := patchB e 8 (leBytes 8 q)
  let e := if counted then patchB e 48 (leBytes 8 (leAt e 48 8 + 1)) else e
  let e := if hit then saPutBits e 26 1 1 else e
  let d := d.saWrite s 0 (e.take 64)
  if hit then d.cryLog .STATUS_SOFT s 0 else d

/-- The replay precheck of number `s` against T, a window and its bitmap (R258). -/
def replayOk (s t window bitmap : Nat) : Bool :=
  s ≠ 0 && (window = 0 || s > t || (t < s + window && !bitAt bitmap (t - s)))

/-- T and the bitmap after a verified number (R258). -/
def replayUpdate (s t window bitmap : Nat) : Nat × Nat :=
  if s > t then (s, if s - t < window then (bitmap * 2 ^ (s - t) + 1) % 2 ^ window else 1 % 2 ^ window)
  else (t, if window = 0 then bitmap else setBit bitmap (t - s))

/-- The full sequence number of an ESP packet from its low 32 bits (RFC 4303 Appendix A). -/
def inferEsn (t window low : Nat) : Nat :=
  let th := t / 2 ^ 32
  let tl := t % 2 ^ 32
  let hi :=
    if tl + 1 ≥ window then (if low + window ≥ tl + 1 then th else th + 1)
    else if low ≥ (2 ^ 32 + tl + 1 - window) % 2 ^ 32 then (th + 2 ^ 32 - 1) % 2 ^ 32 else th
  (hi % 2 ^ 32) * 2 ^ 32 + low

/-- The full packet number of a MACsec frame from its low 32 bits (IEEE 802.1AEbw). -/
def inferXpn (t window low : Nat) : Nat :=
  let lowest := t + 1 - window
  let hi := lowest / 2 ^ 32
  (if bitAt lowest 31 && !bitAt low 31 then hi + 1 else hi) % 2 ^ 32 * 2 ^ 32 + low

/-- A verified inbound number recorded: SEQ, bitmap and PKTS (R258). -/
def Dev.cryAccept (d : Dev) (s : Nat) (e : List Byte) (num : Nat) : Dev :=
  let (t, bm) := replayUpdate num (saSeq e) (saWindow e) (leAt e 128 128)
  let l0 := patchB (patchB e 8 (leBytes 8 t)) 48 (leBytes 8 (leAt e 48 8 + 1))
  let d := d.saWrite s 0 (l0.take 64)
  if saWindow e = 0 then d else d.saWrite s 128 (leBytes 128 bm)

/-- A frame whose key-store slot reads uncorrectable (R254). -/
def Dev.cryKeyError (d : Dev) (p : Nat) (j : CryJob) (s : Nat) (e : List Byte) : Dev :=
  ((d.saWrite s 0 ((saPutBits e 24 2 3).take 4)).cryLog .STATUS_KEY_ERR s 3).cryDrop p j 10

/-- Whether an entry read for processing can be used: clean, VALID, of the type, its key not failed. -/
def saUsable (e : List Byte) (poison : Bool) (type : Nat) : Bool :=
  !poison && saValid e && saType e = type && saState e ≠ 3

/-! ### ESP -/

/-- The Internet checksum of an IPv6 UDP datagram over its pseudo-header; a sum of 0 is sent as
all ones (RFC 8200, which R255 relies on). -/
def udp6Checksum (src dst udp : List Byte) : Nat :=
  let c := inetChecksum (src ++ dst ++ beBytes 4 udp.length ++ beBytes 4 17 ++ udp)
  if c = 0 then 65535 else c

/-- The outer header filled for a packet: `tpl` is the template, `rest` what follows it (R255 step 6). -/
def espOuter (v6 udp : Bool) (tpl rest : List Byte) (q : Nat) : List Byte :=
  let n := tpl.length + rest.length
  let ipLen := if v6 then 40 else 20
  let tpl := if udp then patchB (patchB tpl (ipLen + 4) (beBytes 2 (n - ipLen))) (ipLen + 6) [0, 0] else tpl
  if v6 then
    let tpl := patchB tpl 4 (beBytes 2 (n - 40))
    let tpl := if udp then
        patchB tpl 46 (beBytes 2 (udp6Checksum (sliceB tpl 8 16) (sliceB tpl 24 16) (tpl.drop 40 ++ rest)))
      else tpl
    tpl ++ rest
  else
    let tpl := patchB (patchB (patchB tpl 2 (beBytes 2 n)) 4 (beBytes 2 (q % 65536))) 10 [0, 0]
    patchB tpl 10 (beBytes 2 (inetChecksum (tpl.take 20))) ++ rest

/-- The ESP trailer of an inner packet of `n` bytes: padding, pad length, next header (R255 step 3). -/
def espTrailer (n nextHeader : Nat) : List Byte :=
  let p := (4 - (n + 2) % 4) % 4
  (List.range p).map (fun i => BitVec.ofNat 8 (i + 1)) ++ [BitVec.ofNat 8 p, BitVec.ofNat 8 nextHeader]

/-- The outbound ESP transform of a pipeline's head frame (R255, R256, R261, R263). -/
def Dev.espOut (d : Dev) (p : Nat) (j : CryJob) : Dev :=
  let old := d
  let s := j.sa
  let (e, pz, d) := d.saRead s 2
  if !saUsable e pz 0 then d.cryDrop p j 10 else
  let (inner, bad, d) := d.frameBytes j.frame
  let ver := (inner.getD 0 0).toNat / 16
  if ver ≠ 4 ∧ ver ≠ 6 then d.cryDrop p j 9 else
  let tlen := (e.getD 44 0).toNat
  let plain := inner ++ espTrailer inner.length (if ver = 4 then 4 else 41)
  if j.frame.start < tlen + 16 ∨ tlen + 16 + plain.length + 16 > 9728 then d.cryDrop p j 6 else
  if saExhausted e then d.cryExhausted p j e else
  let q := saSeq e + 1
  if s ∈ d.cry.keyBad then d.cryKeyError p j s e else
  let spi := beBytes 4 (leAt e 4 4)
  let aad := spi ++ beBytes 4 (q % 2 ^ 32) ++ (if saExt e then beBytes 4 (q / 2 ^ 32) else [])
  let iv := beBytes 8 q
  let (ct, tag) := Config.gcmSeal (d.saKey s e) (sliceB e 24 4 ++ iv) aad plain
  let ct := sliceB ct 0 plain.length
  let tag := sliceB tag 0 16
  let pkt := espOuter (saV6 e) (saUdp e) (sliceB e 64 tlen) (spi ++ beBytes 4 (q % 2 ^ 32) ++ iv ++ ct ++ tag) q
  match d.rewriteFrame j.frame (j.frame.start - (tlen + 16)) pkt bad with
  | none => old
  | some (f, d) =>
    let d := d.crySend s e q true
    let d := d.inc (.cry (.CNT_COUNT (if bad then 5 else 0)))
    d.cryEnd p j f s (!bad)

/-- The head's poisoned inbound frame returns as received, every line poisoned (R262). -/
def Dev.cryPoisonIn (d : Dev) (p : Nat) (j : CryJob) (bs : List Byte) : Dev :=
  match d.rewriteFrame j.frame j.frame.start bs true with
  | none => d
  | some (f, d) => (d.inc (.cry (.CNT_COUNT 5))).cryEnd p j f j.sa false

/-- The inbound ESP transform of a pipeline's head frame, its checks in the order of R257. -/
def Dev.espIn (d : Dev) (p : Nat) (j : CryJob) : Dev :=
  let old := d
  let s := j.sa
  let (e, pz, d) := d.saRead s 4
  if !saUsable e pz 1 then d.cryDrop p j 10 else
  let (bs, bad, d) := d.frameBytes j.frame
  if bad then d.cryPoisonIn p j bs else
  let v6 := saV6 e
  let udp := saUdp e
  let ip := if v6 then 40 else 20
  let proto := if v6 then (bs.getD 6 0).toNat else (bs.getD 9 0).toNat
  let ver := (bs.getD 0 0).toNat / 16
  if ver ≠ (if v6 then 6 else 4) ∨ (!v6 ∧ (bs.getD 0 0).toNat % 16 ≠ 5)
      ∨ proto ≠ (if udp then 17 else 50) ∨ bs.length < ip then d.cryDrop p j 11 else
  let udpLen := beAt bs (ip + 4) 2
  let hdr := if udp then ip + 8 else ip
  if udp ∧ (udpLen < 16 ∨ sliceB bs hdr 4 = [0, 0, 0, 0]) then d.cryDrop p j 7 else
  let spi := beAt bs hdr 4
  if spi ≠ leAt e 4 4 then d.cryDrop p j 10 else
  if bs.length < hdr + 34 ∨ (if v6 then beAt bs 4 2 + 40 else beAt bs 2 2) ≠ bs.length
      ∨ (udp ∧ udpLen + ip ≠ bs.length) then d.cryDrop p j 6 else
  let low := beAt bs (hdr + 4) 4
  let num := if saExt e then inferEsn (saSeq e) (saWindow e) low else low
  if !replayOk num (saSeq e) (saWindow e) (leAt e 128 128) then d.cryDrop p j 3 else
  if s ∈ d.cry.keyBad then d.cryKeyError p j s e else
  let aad := sliceB bs hdr 8 ++ (if saExt e then beBytes 4 (num / 2 ^ 32) else [])
  let clen := bs.length - hdr - 32
  match Config.gcmOpen (d.saKey s e) (sliceB e 24 4 ++ sliceB bs (hdr + 8) 8) aad
      (sliceB bs (hdr + 16) clen) (sliceB bs (bs.length - 16) 16) with
  | none => d.cryDrop p j 2
  | some plain =>
    let plain := sliceB plain 0 clen
    let pad := (plain.getD (clen - 2) 0).toNat
    if clen < pad + 2 ∨ sliceB plain (clen - 2 - pad) pad ≠
        (List.range pad).map (fun i => BitVec.ofNat 8 (i + 1)) then d.cryDrop p j 8 else
    let next := (plain.getD (clen - 1) 0).toNat
    let inner := plain.take (clen - 2 - pad)
    let iv := (inner.getD 0 0).toNat / 16
    if !((next = 4 ∧ iv = 4) ∨ (next = 41 ∧ iv = 6)) then d.cryDrop p j 9 else
    match d.rewriteFrame j.frame (j.frame.start + hdr + 16) inner false with
    | none => old
    | some (f, d) =>
      let d := d.cryAccept s e num
      let addr := if v6 then sliceB bs 8 16 else List.replicate 12 0 ++ sliceB bs 12 4
      let peer := addr ++ sliceB bs ip 2
      let had := (e.getD (64 + 18) 0).toNat % 2 = 1
      let d := if udp ∧ (!had ∨ sliceB e 64 18 ≠ peer) then
          let d := d.saWrite s 64 (peer ++ [1])
          if had then d.cryLog .STATUS_PEER_CHG s 2 else d
        else d
      (d.inc (.cry (.CNT_COUNT 1))).cryEnd p j f s true

/-! ### MACsec -/

/-- The confidentiality offset of CONF: bytes of the secure data left in clear (R246). -/
def confOffset (conf n : Nat) : Nat :=
  if conf = 0 then 0 else if conf = 1 then min 30 n else if conf = 2 then min 50 n else n

/-- The GCM nonce of a MACsec frame (R259 step 3). -/
def macsecNonce (e : List Byte) (pn : Nat) (sci : List Byte) : List Byte :=
  if saExt e then
    List.zipWith (fun a b => a ^^^ b) (beBytes 4 (leAt e 4 4) ++ beBytes 8 pn) (sliceB e 24 12)
  else sci ++ beBytes 4 pn

/-- The outbound MACsec transform of a pipeline's head frame (R259, R256, R261, R263). -/
def Dev.macsecTx (d : Dev) (p : Nat) (j : CryJob) : Dev :=
  let old := d
  let s := j.sa
  let (e, pz, d) := d.saRead s 2
  if !saUsable e pz 2 then d.cryDrop p j 10 else
  let (bs, bad, d) := d.frameBytes j.frame
  if saExhausted e then d.cryExhausted p j e else
  let pn := saSeq e + 1
  if s ∈ d.cry.keyBad then d.cryKeyError p j s e else
  let incl := saBits e 8 1 = 1
  let body := bs.drop 12
  let tci := (if incl then 32 else 0) + (if saConf e = 3 then 0 else 12) + s % 4
  let sl := if body.length < 48 then body.length else 0
  let sci := sliceB e 36 8
  let tag := [0x88, 0xE5, BitVec.ofNat 8 tci, BitVec.ofNat 8 sl] ++ beBytes 4 (pn % 2 ^ 32)
    ++ (if incl then sci else [])
  let c := confOffset (saConf e) body.length
  let (ct, icv) := Config.gcmSeal (d.saKey s e) (macsecNonce e pn sci)
    (bs.take 12 ++ tag ++ body.take c) (body.drop c)
  let out := bs.take 12 ++ tag ++ body.take c ++ sliceB ct 0 (body.length - c) ++ sliceB icv 0 16
  match d.rewriteFrame j.frame (j.frame.start - tag.length) out bad with
  | none => old
  | some (f, d) =>
    let d := d.crySend s e pn true
    (d.inc (.cry (.CNT_COUNT (if bad then 5 else 0)))).cryEnd p j f s (!bad)

/-- The inbound MACsec transform of a pipeline's head frame, for the receive group it names (R260). -/
def Dev.macsecRx (d : Dev) (p : Nat) (j : CryJob) : Dev :=
  let old := d
  let (bs, bad, d) := d.frameBytes j.frame
  if bad then d.cryPoisonIn p j bs else
  let tci := (bs.getD 14 0).toNat
  let incl := bitAt tci 5
  let tlen := if incl then 16 else 8
  let sl := (bs.getD 15 0).toNat % 64
  if beAt bs 12 2 ≠ 0x88E5 ∨ bitAt tci 7 ∨ bitAt tci 4 ∨ bitAt tci 3 ≠ bitAt tci 2
      ∨ bs.length < 12 + tlen + sl + 16 then d.cryDrop p j 11 else
  let s := j.sa + tci % 4
  let (e, pz, d) := d.saRead s 4
  let sci := if incl then sliceB bs 20 8 else sliceB e 36 8
  if !saUsable e pz 3 ∨ sci ≠ sliceB e 36 8 then d.cryDrop p j 10 else
  let low := beAt bs 16 4
  let pn := if saExt e then inferXpn (saSeq e) (saWindow e) low else low
  if !replayOk pn (saSeq e) (saWindow e) (leAt e 128 128) then d.cryDrop p j 3 else
  if s ∈ d.cry.keyBad then d.cryKeyError p j s e else
  let n := if sl ≠ 0 then sl else bs.length - 12 - tlen - 16
  let body := sliceB bs (12 + tlen) n
  let c := confOffset (saConf e) n
  match Config.gcmOpen (d.saKey s e) (macsecNonce e pn sci)
      (bs.take 12 ++ sliceB bs 12 tlen ++ body.take c) (body.drop c) (sliceB bs (12 + tlen + n) 16) with
  | none => d.cryDrop p j 2
  | some plain =>
    let out := bs.take 12 ++ body.take c ++ sliceB plain 0 (n - c)
    match d.rewriteFrame j.frame (j.frame.start + tlen) out false with
    | none => old
    | some (f, d) => ((d.cryAccept s e pn).inc (.cry (.CNT_COUNT 1))).cryEnd p j f s true

/-! ### Commands of the pipelines -/

/-- A transform row: the head job of pipeline `p`, when it is of the row's kind, transformed. -/
def Dev.cryTransform (d : Dev) (p : Nat) (inbound esp : Bool) (f : Dev → Nat → CryJob → Dev) : Dev :=
  match d.cryJob p with
  | some j => if j.inbound = inbound ∧ j.esp = esp then f d p j else d
  | none => d

/-- ESP_OUT_TRANSFORM (R255). -/
def execEspOutTransform (p : Fin 2) (s : State) : Host.Outcome State Fault Refusal :=
  s.run (fun d => d.cryTransform p false true Dev.espOut)

/-- ESP_IN_TRANSFORM (R257). -/
def execEspInTransform (p : Fin 2) (s : State) : Host.Outcome State Fault Refusal :=
  s.run (fun d => d.cryTransform p true true Dev.espIn)

/-- MACSEC_TX_TRANSFORM (R259). -/
def execMacsecTxTransform (p : Fin 2) (s : State) : Host.Outcome State Fault Refusal :=
  s.run (fun d => d.cryTransform p false false Dev.macsecTx)

/-- MACSEC_RX_TRANSFORM (R260). -/
def execMacsecRxTransform (p : Fin 2) (s : State) : Host.Outcome State Fault Refusal :=
  s.run (fun d => d.cryTransform p true false Dev.macsecRx)

/-- A clean inbound ESP frame feeds the keepalive of root port `rp` when its SA lies in the
configured range (R430, R432). -/
def Dev.keepaliveFeed (d : Dev) (rp s tick : Nat) : Dev :=
  if d.rd (.brg (.KA_CFG_SA_LO rp)) ≤ s ∧ s ≤ d.rd (.brg (.KA_CFG_SA_HI rp)) then
    if d.is (.brg (.KA_STATUS_PATH_DEAD rp)) then d.inc (.brg (.KA_STATUS_LATE rp))
    else d.kaSet rp tick
  else d

/-- CRYPTO_RETURN: a transformed frame is enqueued on its return class (R244). -/
def execCryptoReturn (p : Fin 2) (s : State) : Host.Outcome State Fault Refusal :=
  s.run (fun d =>
    match (d.pipe p).done with
    | none => d
    | some j =>
      let d := ((d.modPipe p (fun c => { c with done := none })).reqSource 6 (fun a => a % 2 = p.val)).count 0x70 p 1
      let d := if j.inbound ∧ j.esp ∧ j.clean then
          (d.keepaliveFeed 0 j.used d.tick.coreTick).keepaliveFeed 1 j.used d.tick.coreTick
        else d
      d.toClass j.ret j.frame)

/-! ### SA commands -/

/-- A command written while BUSY is 1 is discarded and counted (R248 code 1); else `f`. -/
def Dev.saCmd (d : Dev) (f : Dev → Dev) : Dev :=
  if d.cry.cmd.isSome then d.inc (.cry .SA_CMD_STATUS_BUSY_CNT) else f d

/-- An SA command starts: CRY_SA_CMD_STATUS.BUSY shows that one is in progress. -/
def Dev.saStart (d : Dev) (op s : Nat) : Dev :=
  { d with cry := { d.cry with cmd := some (op, s) } }

/-- An SA command ends with its result: BUSY clears and CMD_DONE is set. -/
def Dev.saFinish (d : Dev) (result : Nat) : Dev :=
  let d := { d with cry := { d.cry with cmd := none } }
  (d.wr (.cry .SA_CMD_STATUS_RESULT) result).cryEvent .STATUS_CMD_DONE

/-- The staged lines 0 and 1, 128 bytes (R248). -/
def Dev.saStage (d : Dev) : List Byte :=
  (List.range 32).flatMap (fun i => leBytes 4 (d.rd (.cry (.SA_STAGE_DATA i))))

/-- The staged wrapped key, 40 bytes (R251). -/
def Dev.keyStage (d : Dev) : List Byte :=
  (List.range 10).flatMap (fun i => leBytes 4 (d.rd (.cry (.KEY_STAGE_DATA i))))

/-- Whether a template agrees with its length, OUTER_V6 and UDP_ENCAP (R247). -/
def templateOk (e : List Byte) : Bool :=
  let v6 := saV6 e
  let udp := saUdp e
  let n := (e.getD 44 0).toNat
  let t := sliceB e 64 48
  n = (if v6 then (if udp then 48 else 40) else (if udp then 28 else 20)) &&
  (if v6 then
    (t.getD 0 0).toNat / 16 = 6 && ((t.getD 6 0).toNat = 17 || (t.getD 6 0).toNat = 50)
  else
    (t.getD 0 0).toNat = 0x45 && (t.getD 9 0).toNat = (if udp then 17 else 50))

/-- Whether a staged entry passes the BAD_ENTRY check (R248 code 6). -/
def stageOk (e : List Byte) : Bool :=
  let w := saWindow e
  saType e < 4 && (w = 0 || (64 ≤ w && w ≤ 1024 && w % 64 = 0)) &&
  saState e = 0 && saBits e 26 1 = 0 && leAt e 48 8 = 0 &&
  (saType e ≠ 0 || templateOk e) &&
  (saType e ≠ 1 || !saUdp e || leAt e 64 19 = 0)

/-- SA_INSTALL (R248). -/
def execSaInstall (index : Fin 1024) (s : State) : Host.Outcome State Fault Refusal :=
  s.hostAt (fun _ => true) (fun d => d.saCmd (fun d => d.saStart 1 index))

/-- The end of an install: its checks in the order of R248, the entry and key written on OK, the key
stage zeroed. -/
def Dev.saInstallDone (o : Otp) (d : Dev) (s : Nat) : Dev :=
  let e := d.saStage
  let wrap := d.keyStage.take (if saBits e 4 1 = 1 then 40 else 24)
  let (r, key) : Nat × List Byte :=
    if !d.is (.cry .CTRL_EN) then (2, [])
    else match kekSa o d with
      | none => (3, [])
      | some kek =>
        if saValid (d.saPeek s) then (4, [])
        else if !stageOk e then (6, [])
        else match Config.kwUnwrap kek wrap with
          | none => (7, [])
          | some k => (0, sliceB k 0 32)
  let d := if r = 0 then
      ((d.writeLine (saLine s 0) ((saPutBits e 0 1 1).take 64) false).writeLine (saLine s 1)
        (sliceB e 64 64) false).setKey s key
    else d
  (d.wrs ((List.range 10).map (fun i => (.cry (.KEY_STAGE_DATA i), 0)))).saFinish r

/-- SA_INSTALL_DONE (R248, R251). -/
def execSaInstallDone (s : State) : Host.Outcome State Fault Refusal :=
  s.runWith (fun o d =>
    match d.cry.cmd with
    | some (1, i) => d.saInstallDone o i
    | _ => d)

/-- SA_DELETE (R249). -/
def execSaDelete (index : Fin 1024) (s : State) : Host.Outcome State Fault Refusal :=
  s.hostAt (fun _ => true) (fun d => d.saCmd (fun d =>
    let e := d.saPeek index
    if !saValid e then d.saFinish 5
    else (d.saWrite index 0 ((saPutBits e 24 2 1).take 4)).saStart 2 index))

/-- SA_DELETE_DONE: once no accepted frame names the entry (R249, R253). -/
def execSaDeleteDone (s : State) : Host.Outcome State Fault Refusal :=
  s.run (fun d =>
    match d.cry.cmd with
    | some (2, i) =>
      if d.cry.pipes.any (fun c => c.queue.any (fun j => j.sa = i) || c.done.any (fun j => j.sa = i)) then d
      else ((d.zeroLines (saLine i 0) 4).setKey i (List.replicate 32 0)).saFinish 0
    | _ => d)

/-- SA_UPDATE_TEMPLATE (R250). -/
def execSaUpdateTemplate (index : Fin 1024) (s : State) : Host.Outcome State Fault Refusal :=
  s.hostAt (fun _ => true) (fun d => d.saCmd (fun d => d.saStart 3 index))

/-- The end of a template update (R250). -/
def Dev.saUpdateDone (d : Dev) (s : Nat) : Dev :=
  let e := d.saStage
  let cur := d.saPeek s
  if !d.is (.cry .CTRL_EN) then d.saFinish 2
  else if !saValid cur ∨ saType cur ≠ 0 then d.saFinish 5
  else if !templateOk e then d.saFinish 6
  else
    let new := saPutBits (saPutBits cur 6 1 (b2n (saV6 e))) 7 1 (b2n (saUdp e))
    let new := patchB new 44 [e.getD 44 0]
    ((d.saWrite s 0 (new.take 64)).writeLine (saLine s 1) (sliceB e 64 64) false).saFinish 0

/-- SA_UPDATE_DONE (R250). -/
def execSaUpdateDone (s : State) : Host.Outcome State Fault Refusal :=
  s.run (fun d =>
    match d.cry.cmd with
    | some (3, i) => d.saUpdateDone i
    | _ => d)

/-- Every accepted frame dropped and counted as NO_SA (R537 step 3). -/
def Dev.cryFlush (d : Dev) : Dev :=
  let jobs := d.cry.pipes.flatMap (fun c => c.queue ++ c.done.toList)
  let d := jobs.foldl (fun d j => (d.inc (.cry (.CNT_COUNT 10))).discard j.frame) d
  { d with cry := { d.cry with pipes := [{}, {}] } }

end Sys2Proof.Machine
end

