-- ==== Sys2Proof/Machine/RwlWords.lean ====
section
/-! DEFINITION.  The register words that hold RWL bits, and register words as the image records and
the configuration signature see them (R85, R118). -/

namespace Sys2Proof.Machine

/-- The 32-bit register words of PF0 BAR0 that hold an RWL bit, in ascending offset, as groups
(base, count, stride, runs of offsets (first, step, count)) (R118). -/
def rwlGroups : List (Nat × Nat × Nat × List (Nat × Nat × Nat)) :=
  [(65536, 1, 65536, [(0, 4, 1), (4, 4, 1)]),
   (266240, 50, 4, [(0, 4, 1)]),
   (524288, 256, 64, [(0, 4, 1), (4, 4, 1)]),
   (589824, 256, 64, [(0, 4, 1)]),
   (786432, 1, 64, [(0, 4, 1)]),
   (786688, 50, 4, [(0, 4, 1)]),
   (802816, 32, 128, [(0, 4, 1), (8, 4, 1)]),
   (1310720, 4, 65536, [(0, 4, 1), (8, 4, 1), (12, 4, 1), (256, 4, 32), (512, 4, 16), (768, 4, 1),
      (800, 4, 8), (1024, 4, 3)]),
   (1572864, 4, 1024, [(0, 4, 3), (64, 4, 24)]),
   (1576960, 1, 4096, [(0, 4, 1)]),
   (2097152, 8, 65536, [(0, 4, 1)]),
   (2621440, 1, 4096, [(0, 4, 17)]),
   (3801088, 1, 4096, [(8, 4, 1), (16, 4, 14)]),
   (3932160, 1, 256, [(32, 4, 1), (36, 4, 1)]),
   (3932416, 16, 32, [(0, 4, 3)]),
   (4063232, 1, 4096, [(0, 4, 1), (4, 4, 1)])]

/-- The offsets of `rwlGroups`, in ascending order. -/
def rwlWords : List Nat :=
  rwlGroups.flatMap (fun g => (List.range g.2.1).flatMap (fun i => g.2.2.2.flatMap (fun r =>
    (List.range r.2.2).map (fun k => g.1 + i * g.2.2.1 + r.1 + k * r.2.1))))

/-- The register that holds a 32-bit word of PF0 BAR0, with the lowest of its bits that the word
shows: a 64-bit register counts as two words. -/
def wordAt (o : Nat) : Option (RegAt × Nat) :=
  match regAt o with
  | some r => some (r, 0)
  | none =>
    if o % 8 = 4 then
      match regAt (o - 4) with
      | some r => if r.wide then some (r, 32) else none
      | none => none
    else none

/-- The access code of a field. -/
def Fld.acc (f : Fld) : Option Access :=
  match regAt f.place.1 with
  | some r => (r.fields.find? (fun x => x.fld = f)).map (·.acc)
  | none => none

/-- Whether a field is RWL. -/
def Fld.rwl (f : Fld) : Bool := f.acc = some .rwl

/-- The bits of a register that its fields selected by `p` occupy. -/
def RegAt.bitsWhere (r : RegAt) (p : FieldAt → Bool) : Nat :=
  (r.fields.filter (fun x => p x)).foldl (fun n x => n + (2 ^ x.fld.width - 1) * 2 ^ x.lo) 0

/-- The value of a register whose fields are taken from a store, those selected by `p`; every other
bit is 0. -/
def RegAt.value (r : RegAt) (l : List (Fld × Nat)) (p : FieldAt → Bool) : Nat :=
  (r.fields.filter (fun x => p x)).foldl (fun n x => n + Regs.get l x.fld * 2 ^ x.lo) 0

/-- The RWL bits of a word, every other bit 0 (R118). -/
def rwlWord (l : List (Fld × Nat)) (o : Nat) : Nat :=
  match wordAt o with
  | some (r, s) => bitsOf (r.value l (fun x => x.acc = .rwl)) s 32
  | none => 0

/-- The RWL lines of the locked set: sixteen words to a line, the last completed with zeros (R118). -/
def rwlBytes (l : List (Fld × Nat)) : List Byte :=
  let bs := rwlWords.flatMap (fun o => leBytes 4 (rwlWord l o))
  bs ++ List.replicate ((64 - bs.length % 64) % 64) 0

/-- The RWL fields of a store. -/
def rwlFields (l : List (Fld × Nat)) : List (Fld × Nat) := l.filter (fun e => e.1.rwl)

/-- A register's fields set from a value, those bits that `mask` selects. -/
def RegAt.put (r : RegAt) (l : List (Fld × Nat)) (mask value : Nat) : List (Fld × Nat) :=
  let old := r.value l (fun _ => true)
  let new := old - Nat.land old mask + Nat.land value mask
  r.fields.foldl (fun l x =>
    if Nat.land ((2 ^ x.fld.width - 1) * 2 ^ x.lo) mask = 0 then l
    else Regs.set l x.fld (bitsOf new x.lo x.fld.width)) l

/-- A register record: address, mask, value (R85). -/
structure RegRec where
  addr : Nat
  mask : Nat
  value : Nat
  zero : Nat
  deriving DecidableEq, Repr

/-- The fields that only an unsealed configuration may change (R88). -/
def Fld.bypass (f : Fld) : Bool :=
  match f with
  | .mac (.PORT_CTRL_FCS_BYPASS_RX _) | .mac (.PORT_CTRL_FCS_BYPASS_TX _) | .pwr .CTRL_MON_TEST_DIS => true
  | _ => false

/-- The fields of ring assignment, which no overlay record may select (R314). -/
def Fld.ringAssign (f : Fld) : Bool :=
  match f with
  | .rng (.SQ_ASSIGN_FUNC _) | .rng (.SQ_ASSIGN_LOCAL _) | .rng (.SQ_ASSIGN_KIND _) | .rng (.SQ_ASSIGN_TICK _)
  | .rng (.SQ_ASSIGN_TCH _) | .rng (.SQ_ASSIGN_VALID _) | .rng (.SQ_BIND_CQ _) | .rng (.SQ_BIND_CLASS _)
  | .rng (.SQ_BIND_HOLD_LINES _) | .rng (.CQ_ASSIGN_FUNC _) | .rng (.CQ_ASSIGN_LOCAL _) | .rng (.CQ_ASSIGN_VALID _) => true
  | _ => false

/-- Whether a record of a section may set a field (R88, R314). -/
def FieldAt.settable (overlay : Bool) (x : FieldAt) : Bool :=
  if overlay then x.acc = .rwl && !x.fld.bypass && !x.fld.ringAssign else x.acc = .rwl || x.acc = .rw

/-- Whether submission ring `n` is assigned outside the ranges of R281, or to PF1 with kind STORAGE. -/
def sqAssignBad (l : List (Fld × Nat)) (n : Nat) : Bool :=
  let f := Regs.get l (.rng (.SQ_ASSIGN_FUNC n))
  (f ≠ 0 && 127 < Regs.get l (.rng (.SQ_ASSIGN_LOCAL n))) || (f = 1 && Regs.get l (.rng (.SQ_ASSIGN_KIND n)) = 2)

/-- Whether completion ring `n` is assigned outside the ranges of R281. -/
def cqAssignBad (l : List (Fld × Nat)) (n : Nat) : Bool :=
  Regs.get l (.rng (.CQ_ASSIGN_FUNC n)) ≠ 0 && 119 < Regs.get l (.rng (.CQ_ASSIGN_LOCAL n))

/-- Whether a fixed-offset window is one that R162 reserves. -/
def fxWinBad (l : List (Fld × Nat)) (p w : Nat) : Bool :=
  let wd := Regs.get l (.par (.FX_WIN_WIDTH p w))
  2048 < 8 * Regs.get l (.par (.FX_WIN_OFFSET p w)) + Regs.get l (.par (.FX_WIN_BIT p w)) + wd || 32 < wd ||
    32 < Regs.get l (.par (.FX_WIN_DEST p w)) + (wd + 7) / 8

/-- Whether a field's value is a reserved encoding because of the fields beside it (R50, R162, R281). -/
def Fld.clash (l : List (Fld × Nat)) : Fld → Bool
  | .tck .PERIOD_N => Regs.get l (.tck .CTRL_SRC) ≠ 0 && 32000 % Regs.get l (.tck .PERIOD_N) ≠ 0
  | .rng (.SQ_ASSIGN_FUNC n) | .rng (.SQ_ASSIGN_LOCAL n) | .rng (.SQ_ASSIGN_KIND n) => sqAssignBad l n
  | .rng (.CQ_ASSIGN_FUNC n) | .rng (.CQ_ASSIGN_LOCAL n) => cqAssignBad l n
  | .par (.FX_WIN_OFFSET p w) | .par (.FX_WIN_BIT p w) | .par (.FX_WIN_WIDTH p w) | .par (.FX_WIN_DEST p w) => fxWinBad l p w
  | _ => false

/-- Whether a field's value in a store is not a reserved encoding (R16). -/
def FieldAt.legalIn (x : FieldAt) (l : List (Fld × Nat)) : Bool :=
  (match x.legal with
    | none => true
    | some (lo, hi) => decide (lo ≤ Regs.get l x.fld) && decide (Regs.get l x.fld ≤ hi)) && !x.fld.clash l

/-- A record applied to a store, when it meets R85 and R88; none when it does not. -/
def RegRec.apply (overlay : Bool) (c : RegRec) (l : List (Fld × Nat)) : Option (List (Fld × Nat)) :=
  if c.zero ≠ 0 ∨ c.addr % 4 ≠ 0 then none else
  match wordAt c.addr with
  | none => none
  | some (r, s) =>
    let m := c.mask * 2 ^ s
    if Nat.land m (r.bitsWhere (fun x => x.settable overlay)) ≠ m then none else
    let l' := r.put l m (c.value * 2 ^ s)
    if r.fields.all (fun x => Nat.land ((2 ^ x.fld.width - 1) * 2 ^ x.lo) m = 0 || x.legalIn l') then some l'
    else none

/-- The fields a record selects. -/
def RegRec.fields (c : RegRec) : List Fld :=
  match wordAt c.addr with
  | none => []
  | some (r, s) =>
    (r.fields.filter (fun x => Nat.land ((2 ^ x.fld.width - 1) * 2 ^ x.lo) (c.mask * 2 ^ s) ≠ 0)).map (·.fld)

end Sys2Proof.Machine
end

