-- ==== Sys2Proof/Machine/Image.lean ====
section
/-! DEFINITION.  The Yarvel image: its parts, the load checks, the Ephemeris proof, safety-relevant
differences and the effective configuration (R62, R82 to R95, R611, R612). -/

namespace Sys2Proof.Machine

open Sys2Proof

/-! ### Header and section table -/

/-- The section table of an image (R83). -/
def imgTable (im : List Byte) : List Section :=
  (List.range (leAt im 0x0C 2)).map (fun i =>
    let e := 0x80 + 16 * i
    { type := leAt im e 2, idx := leAt im (e + 2) 1, off := leAt im (e + 4) 4, len := leAt im (e + 8) 4 })

/-- Whether bytes are all zero. -/
def zeros (bs : List Byte) : Bool := bs.all (fun b => b = 0)

/-- Check 0x04: the header (R82). -/
def imgHeaderOk (im : List Byte) (len : Nat) : Bool :=
  sliceB im 0 4 = [0x59, 0x52, 0x56, 0x4C] && leAt im 4 2 = 1 &&
  (leAt im 6 1 = 1 || leAt im 6 1 = 2) &&
  leAt im 8 4 = len && len % 64 = 0 && len ≤ 1048576 &&
  leAt im 7 1 = 0 && leAt im 0x0E 2 = 0 && zeros (sliceB im 0x18 8) && zeros (sliceB im 0x50 48) &&
  leAt im 0x17 1 < 4 && (leAt im 6 1 ≠ 1 || zeros (sliceB im 0x20 48))

/-- Check 0x05: the target device (R82). -/
def imgTargetOk (im : List Byte) (major : Nat) (fuse : Bool) : Bool :=
  leAt im 0x14 2 = 0x7B70 && leAt im 0x16 1 = major && (leAt im 0x17 1 % 2 = 0 || fuse)

/-- The maximum and the length rule of a section type, and the indices it may carry in a FULL image or
an OVERLAY_SET (R83, R164, R192). -/
def Section.lengthOk (s : Section) : Bool :=
  match s.type with
  | 1 => s.len ≤ 65536
  | 2 => s.len = 1088
  | 3 => s.len % 256 = 0 && s.len ≤ 65536
  | 4 => s.len % 68 = 0 && s.len ≤ 348160
  | 5 => 576 ≤ s.len && (s.len - 576) % 4 = 0 && s.len - 576 ≤ 64960
  | 6 => s.len ≤ 65536
  | 7 => s.len % 8 = 0 && s.len ≤ 4096
  | 0xFF => 112 ≤ s.len && s.len ≤ 128
  | _ => false

/-- Whether a section's type and index may stand in an image of the type. -/
def Section.allowed (full : Bool) (s : Section) : Bool :=
  match s.type with
  | 1 | 3 | 4 | 7 => full && s.idx = 0
  | 2 => if full then s.idx ≤ 8 else 1 ≤ s.idx && s.idx ≤ 8
  | 5 => full && s.idx ≤ 7
  | 6 => 1 ≤ s.idx && s.idx ≤ 8
  | 0xFF => s.idx = 0
  | _ => false

/-- Whether two sections share a byte. -/
def Section.overlaps (a b : Section) : Bool := a.off < b.off + b.len && b.off < a.off + a.len

/-- Whether entry `i` of a section table is well-formed; of two entries that overlap or repeat each other, the later one is not
(R83, assumption 45). -/
def entryOk (im : List Byte) (full : Bool) (t : List Section) (total : Nat) (i : Nat) : Bool :=
  match t[i]? with
  | none => false
  | some s =>
    let e := 0x80 + 16 * i
    leAt im (e + 3) 1 = 0 && leAt im (e + 12) 4 = 0 &&
    s.off % 64 = 0 && 0x80 + 16 * t.length ≤ s.off && s.off + s.len ≤ total &&
    s.lengthOk && s.allowed full &&
    (List.range t.length).all (fun j =>
      match t[j]? with
      | none => true
      | some u => i ≤ j || (!s.overlaps u && !(s.type = u.type && s.idx = u.idx))) &&
    ((s.type = 0xFF) = (i + 1 = t.length)) &&
    (s.type ≠ 0xFF || s.off + s.len = total) &&
    (s.type ≠ 2 || s.idx = 0 || t.any (fun u => u.type = 6 && u.idx = s.idx))

/-- Whether a section table holds a section. -/
def hasSection (t : List Section) (type idx : Nat) : Bool := t.any (fun s => s.type = type && s.idx = idx)

/-- Whether every required section is present (R83). -/
def requiredOk (full : Bool) (t : List Section) : Bool :=
  if full then
    hasSection t 1 0 && hasSection t 2 0 && hasSection t 3 0 && hasSection t 4 0 && hasSection t 7 0 &&
      hasSection t 0xFF 0
  else t.any (fun s => s.type = 6) && hasSection t 0xFF 0

/-- Check 0x06: the index of the first malformed entry, 0xFF for a count out of range or a section that
is missing; none when the table is well-formed. -/
def tableFault (im : List Byte) (full : Bool) (total : Nat) : Option Nat :=
  let t := imgTable im
  if t.length < 2 ∨ 32 < t.length then some 0xFF
  else match (List.range t.length).find? (fun i => !entryOk im full t total i) with
    | some i => some i
    | none => if requiredOk full t then none else some 0xFF

/-- The bytes of a section. -/
def Section.bytes (im : List Byte) (s : Section) : List Byte := sliceB im s.off s.len

/-! ### Records -/

/-- The register records of bytes, 16 to a record (R85). -/
def regRecs (bs : List Byte) (n : Nat) : List RegRec :=
  (List.range n).map (fun i =>
    { addr := leAt bs (16 * i) 4, mask := leAt bs (16 * i + 4) 4, value := leAt bs (16 * i + 8) 4,
      zero := leAt bs (16 * i + 12) 4 })

/-- The line records of bytes, 68 to a record (R86). -/
def lineRecs (bs : List Byte) (n : Nat) : List (Nat × List Byte) :=
  (List.range n).map (fun i => (leAt bs (68 * i) 4, sliceB bs (68 * i + 4) 64))

/-- Records applied in order, each only when it meets R85 and R88. -/
def applyRecs (overlay : Bool) (l : List (Fld × Nat)) (cs : List RegRec) : List (Fld × Nat) :=
  cs.foldl (fun l c => (c.apply overlay l).getD l) l

/-- Whether every record meets R85 and R88 when applied in order. -/
def recsOk (overlay : Bool) (l : List (Fld × Nat)) : List RegRec → Bool
  | [] => true
  | c :: cs =>
    match c.apply overlay l with
    | none => false
    | some l' => recsOk overlay l' cs

/-- NREG and NLINE of an overlay section (R87). -/
def ovlNreg (bs : List Byte) : Nat := leAt bs 4 2
/-- NLINE of an overlay section (R87). -/
def ovlNline (bs : List Byte) : Nat := leAt bs 6 2
/-- HAS_EPH of an overlay section (R87). -/
def ovlHasEph (bs : List Byte) : Bool := bitAt (leAt bs 8 1) 0
/-- SAFETY_TOUCH of an overlay section (R87). -/
def ovlTouch (bs : List Byte) : Bool := bitAt (leAt bs 8 1) 1
/-- The register records of an overlay section. -/
def ovlRegs (bs : List Byte) : List RegRec := regRecs (bs.drop 64) (ovlNreg bs)
/-- The line records of an overlay section. -/
def ovlLines (bs : List Byte) : List (Nat × List Byte) := lineRecs (bs.drop (64 + 16 * ovlNreg bs)) (ovlNline bs)

/-- Whether an overlay section's header meets R87. -/
def ovlHeaderOk (bs : List Byte) (hasEph : Bool) : Bool :=
  ovlNreg bs ≤ 1024 && ovlNline bs ≤ 512 && bs.length = 64 + 16 * ovlNreg bs + 68 * ovlNline bs &&
  (sliceB bs 0 4).all (fun b => 0x20 ≤ b.toNat && b.toNat ≤ 0x7E) &&
  leAt bs 8 1 < 4 && zeros (sliceB bs 9 55) && ovlHasEph bs = hasEph

/-- The entries of a LOCKED_SET section (R611). -/
def lockedRanges (bs : List Byte) : List (Nat × Nat) :=
  (List.range (bs.length / 8)).map (fun i => (leAt bs (8 * i) 4, leAt bs (8 * i + 4) 4))

/-- Whether the entries of a locked set are in range, in order and apart (R611). -/
def lockedOk : List (Nat × Nat) → Bool
  | [] => true
  | [e] => e.1 ≤ e.2 && e.2 ≤ 0x17FF
  | e :: e' :: r => e.1 ≤ e.2 && e.2 ≤ 0x17FF && e.2 < e'.1 && lockedOk (e' :: r)

/-- The number of lines of the listed ranges. -/
def lockedLines (l : List (Nat × Nat)) : Nat := l.foldl (fun n e => n + (e.2 + 1 - e.1)) 0

/-- L of R118: RWL lines, the Ephemeris bank, the listed lines. -/
def lockedSize (l : List (Nat × Nat)) : Nat := (rwlWords.length + 15) / 16 + 17 + lockedLines l

/-! ### Effective configurations -/

/-- A configuration as the checks see it: register fields, the classification lines 0x0000 to 0x17FF
of the tables region, an Ephemeris. -/
structure Eff where
  regs : List (Fld × Nat)
  lines : List Host.Cell
  eph : List Byte
  deriving DecidableEq, Repr

/-- Line `l` of the tables region of an effective configuration. -/
def Eff.line (e : Eff) (l : Nat) : List Byte :=
  (List.range 64).map (fun i => Mem.get e.lines (64 * tableLine l + i))

/-- A line of the tables region replaced. -/
def putLine (m : List Host.Cell) (l : Nat) (bs : List Byte) : List Host.Cell :=
  Mem.write m (64 * tableLine l) (sliceB bs 0 64)

/-- An overlay section applied to the base (R88); a line record may name lines 0x0000 to 0x17FF
(R86, R163). -/
def Eff.overlay (e : Eff) (bs : List Byte) (eph : Option (List Byte)) : Eff :=
  { regs := applyRecs true e.regs (ovlRegs bs)
    lines := (ovlLines bs).foldl (fun m r => if r.1 ≤ 0x17FF then putLine m r.1 r.2 else m) e.lines
    eph := eph.getD e.eph }

/-- Slot `n` of an Ephemeris given as bytes. -/
def ephSlot (eph : List Byte) (n : Nat) : Slot :=
  Slot.ofWords (leAt eph (0x40 + 16 * n) 4) (leAt eph (0x44 + 16 * n) 4) (leAt eph (0x48 + 16 * n) 4)

/-! ### The load-time proof -/

/-- The line rate of a port in Mb/s under a configuration; none when it is reserved (R62). -/
def portRate (l : List (Fld × Nat)) (p : Nat) : Option Nat :=
  match Regs.get l (.mac (.PORT_CTRL_MODE p)) with
  | 0 =>
    match Regs.get l (.mac (.PORT_CTRL_SPEED_FORCE p)) with
    | 0 => some 10
    | 1 => some 100
    | 2 => some 1000
    | _ => none
  | 1 => some 1000
  | 2 => some 2500
  | _ => none

/-- Whether a calibration step identifier exists (R451). -/
def calStepExists (s : Nat) : Bool :=
  (0x10 ≤ s && s ≤ 0x13) || (0x20 ≤ s && s ≤ 0x23) || (0x28 ≤ s && s ≤ 0x2B) || s = 0x30 || s = 0x31

/-- Whether program entry `i` of a pair exists (R193). -/
def programExists (entries : List (List Byte × Nat)) (pair i : Nat) : Bool :=
  match entries[pair]? with
  | none => false
  | some (map, c) => bitAt (map.getD (i / 8) 0).toNat (i % 8) && 16 * i < c

/-- The resource of a slot under a configuration's pair modes. -/
def slotResource (l : List (Fld × Nat)) (s : Slot) : Resource :=
  if s.kind = 1 then
    .engine (2 * s.pair + (if Regs.get l (.eng (.PAIR_CFG_MODE s.pair)) = 0 then 0 else s.half))
  else if s.kind = 2 then .channel s.channel
  else if s.kind = 3 then .calibration
  else .housekeeping

/-- The proof of an Ephemeris against a configuration: the first failing check with its slot and port
(R62). -/
def proof (e : Eff) (entries : List (List Byte × Nat)) : Option (Nat × Nat × Nat) :=
  let w := fun o => leAt e.eph o 4
  let n := w 0 % 128
  let margin := bitsOf (w 0) 8 6
  let src := bitsOf (w 0) 16 2
  let p2 := w 4 % 2 ^ 21
  let p3 := w 8 % 2 ^ 21
  let p4 := w 12 % 2 ^ 21
  let u := n * 31250 * (100 - margin) / 100
  let slot := ephSlot e.eph
  let slots := List.range 64
  let enabled := slots.filter (fun i => (slot i).on)
  let endOf := fun i => (slot i).start + (slot i).budget
  let firstSlot := fun (p : Nat → Bool) => slots.find? p
  let scheds := (List.range 4).filter (fun p => bitAt (w (0x14 + 8 * p)) 31)
  if !(1 ≤ n && n ≤ 64 && (src = 0 || 32000 % n = 0) && src < 3
      && n = Regs.get e.regs (.tck .PERIOD_N) && src = Regs.get e.regs (.tck .CTRL_SRC)) then some (1, 0, 0)
  else if 50 < margin then some (2, 0, 0)
  else if !(0 < p2 && p2 ≤ p3 && p3 ≤ p4 && p4 < u) then some (3, 0, 0)
  else match firstSlot (fun i =>
      let s := slot i
      (s.enable && 5 ≤ s.kind) ||
      (s.on && !(1 ≤ s.budget && s.budget ≤ 2000000 &&
        (if s.kind = 1 then programExists entries s.pair s.program
         else if s.kind = 3 then calStepExists s.step
         else if s.kind = 4 then 1 ≤ s.step && s.step ≤ 4 else true)))) with
  | some i => some (4, i, 0)
  | none =>
  match firstSlot (fun i =>
      let s := slot i
      s.on && !(if s.kind = 1 then endOf i ≤ p2
        else if s.kind = 2 then p2 ≤ s.start && endOf i ≤ p3
        else p4 ≤ s.start && endOf i ≤ u)) with
  | some i => some (5, i, 0)
  | none =>
  match firstSlot (fun i => (slot i).on && enabled.any (fun j => j < i &&
      slotResource e.regs (slot i) = slotResource e.regs (slot j) &&
      (slot i).start < endOf j && (slot j).start < endOf i)) with
  | some i => some (6, i, 0)
  | none =>
  match firstSlot (fun i => (slot i).on && u < endOf i) with
  | some i => some (7, i, 0)
  | none =>
  match firstSlot (fun i =>
      let s := slot i
      s.safety && s.kind ≠ 0 && !(if s.kind = 1 then Regs.get e.regs (.eng (.PAIR_CFG_MODE s.pair)) = 0
        else s.kind ≤ 4)) with
  | some i => some (8, i, 0)
  | none =>
  match scheds.find? (fun p =>
      match portRate e.regs p with
      | none => true
      | some r => (n * 31250 + 20000) * r < (p3 + 2000) * r + (w (0x14 + 8 * p) % 2 ^ 24) * 8000) with
  | some p => some (9, 0, p)
  | none =>
  match scheds.find? (fun p =>
      match portRate e.regs p with
      | none => true
      | some r =>
        let g := w (0x10 + 8 * p) % 2 ^ 21
        g * r < (Regs.get e.regs (.mac (.FRAME_MAX_LEN p)) + 20) * 8000 || p3 < g) with
  | some p => some (10, 0, p)
  | none => none

/-! ### Safety-relevant differences -/

/-- The fields in which two stores differ. -/
def regsDiff (a b : List (Fld × Nat)) : List Fld :=
  ((a ++ b).map (·.1)).filter (fun f => Regs.get a f ≠ Regs.get b f)

/-- Whether a slot of SAFETY = 1 names a tick channel. -/
def safeChannel (eph : List Byte) (t : Nat) : Bool :=
  (List.range 64).any (fun n =>
    let s := ephSlot eph n
    s.safety && s.kind = 2 && s.channel = t)

/-- Whether a field is safety-relevant between two Ephemerides (R89, R184, R216, R320, R461). -/
def Fld.safetyRelevant (f : Fld) (ephA ephB : List Byte) : Bool :=
  match f with
  | .saf _ => true
  | .tck .PERIOD_N | .tck .CTRL_SRC => true
  | .par (.PORT_CFG_PRIMARY _) | .par (.PORT_CFG_FRAG_MODE _) | .par (.PORT_CFG_ROOT _)
  | .par (.PORT_CFG_MAX_BYTES _) | .par (.PORT_CFG_MAX_HDRS _) => true
  | .par (.PORT_DEFAULT_NOMATCH_CLASS _) | .par (.PORT_DEFAULT_NOMATCH_DROP _)
  | .par (.PORT_DEFAULT_FAIL_CLASS _) | .par (.PORT_DEFAULT_FAIL_DROP _) => true
  | .par (.FX_PROFILE_PROFILE _) | .par (.FX_WIN_OFFSET _ _) | .par (.FX_WIN_BIT _ _)
  | .par (.FX_WIN_WIDTH _ _) | .par (.FX_WIN_DEST _ _) | .par (.SAFE_MASK_MASK _ _) => true
  | .par .FRAG_CFG_AGE_TICKS | .par .FRAG_CFG_FREE_ON_LAST => true
  | .eng (.PAIR_CFG_MODE _) | .eng (.PAIR_CFG_BE_EN _) | .eng (.PAIR_CFG_TXC_EN _)
  | .eng (.BE_BIND_CLASS _) | .eng (.BE_BIND_PAIRS _) | .eng (.BE_BIND_PROGRAM _)
  | .eng (.BE_BIND_VALID _) => true
  | .dma (.VAT_QUOTA_RESERVE 1) | .dma (.VAT_QUOTA_LIMIT 1) => true
  | .dma (.TCH_CFG_MODE t) | .dma (.TCH_CFG_FUNC t) | .dma (.TCH_CFG_SRC t) | .dma (.TCH_CFG_SWAP_LINE t)
  | .dma (.TCH_CFG_SWAP_LINE_EN t) | .dma (.TCH_MBOX_LINE t) => safeChannel ephA t || safeChannel ephB t
  | .cal (.AGE_MAX_AGE _) | .cal .CFG_SPREAD_MAX | .cal .CFG_EYE_MIN_W => true
  | _ => false

/-- Whether the entry of a classification line yields the safety or the command class: the exact
entry's line, or the value line of a ternary entry (R89, R175 to R177). -/
def Eff.lineSafe (e : Eff) (l : Nat) : Bool :=
  let v := e.line (if l < 0x1400 then l else l - l % 2)
  bitAt (leAt v 32 4) 31 && (bitAt (leAt v 40 8) 9 || bitAt (leAt v 40 8) 10)

/-- The tables-region lines that two line stores list. -/
def linesOf (a b : List Host.Cell) : List Nat :=
  ((a ++ b).map (fun c => c.1 / 64 - tableLine 0)).eraseDups

/-- Whether the difference of two configurations is safety-relevant (R89). -/
def safetyDiff (a b : Eff) : Bool :=
  (regsDiff a.regs b.regs).any (fun f => f.safetyRelevant a.eph b.eph) ||
  (List.range 64).any (fun n =>
    ((ephSlot a.eph n).safety || (ephSlot b.eph n).safety) &&
      sliceB a.eph (0x40 + 16 * n) 16 ≠ sliceB b.eph (0x40 + 16 * n) 16) ||
  (linesOf a.lines b.lines).any (fun l =>
    a.line l ≠ b.line l && (l < 0x400 || a.lineSafe l || b.lineSafe l))

/-! ### The overlay store -/

/-- Lines an overlay takes in the store (R612). -/
def ovlStoreLines (len : Nat) (hasEph : Bool) : Nat := (len + 63) / 64 + (if hasEph then 17 else 0)

/-- The lowest run of `n` free lines of the overlay store, from line `l` (R612). -/
def placeRun (kept : List Ovl) (n : Nat) (l : Nat) : Nat → Option Nat
  | 0 => none
  | fuel + 1 =>
    if 0x3800 < l + n then none
    else match kept.find? (fun o => l < o.line + o.lines && o.line < l + n) with
      | none => some l
      | some o => placeRun kept n (o.line + o.lines) fuel

/-- The overlays of an image placed in ascending index, or the index of the first that finds no run
(R612). -/
def placeAll (kept : List Ovl) : List (Nat × List Byte × Bool) → Except Nat (List Ovl)
  | [] => .ok []
  | (i, bs, hasEph) :: r =>
    let n := ovlStoreLines bs.length hasEph
    match placeRun kept n 0x3000 (kept.length + 1) with
    | none => .error i
    | some l =>
      let o : Ovl := { idx := i, line := l, lines := n, len := bs.length, digest := Config.sha384 bs }
      match placeAll (kept ++ [o]) r with
      | .error k => .error k
      | .ok os => .ok (o :: os)

/-- The overlays an image carries, in ascending index: index, section bytes, whether it has an
Ephemeris. -/
def imgOverlays (im : List Byte) (t : List Section) : List (Nat × List Byte × Bool) :=
  (List.range 9).filterMap (fun i =>
    match t.find? (fun s => s.type = 6 && s.idx = i) with
    | some s => some (i, s.bytes im, hasSection t 2 i)
    | none => none)

/-- The bytes of a section named by type and index. -/
def imgSection (im : List Byte) (t : List Section) (type idx : Nat) : List Byte :=
  match t.find? (fun s => s.type = type && s.idx = idx) with
  | some s => s.bytes im
  | none => []

/-- The table index of a section. -/
def sectionIndex (t : List Section) (type idx : Nat) : Nat :=
  (t.findIdx? (fun s => s.type = type && s.idx = idx)).getD 0xFF

end Sys2Proof.Machine
end

