-- ==== Sys2Proof/Machine/Config.lean ====
section
/-! DEFINITION.  Loading, sealing, overlay switches and the configuration signature (R92 to R121,
R556, R557, R610, R612). -/

namespace Sys2Proof.Machine

open Sys2Proof

/-- A CFG event raised (source 1). -/
def Dev.cfgEvent (d : Dev) (status enable : CfgF) : Dev := d.event (.cfg status) (.cfg enable) 1

/-- The tick started by a write of 1 to TCK_CTRL.RUN, a pending stop withdrawn, or the write refused
while the configuration is EMPTY (R49, R55, R98). -/
def Dev.tickStart (d : Dev) : Dev :=
  if !d.loaded then d.inc (.cfg .CNT_RUN_REFUSED)
  else if d.is (.tck .STATUS_RUNNING) then
    { d with tick := { d.tick with stopReq := false } }.wr (.tck .CTRL_RUN) 1
  else if d.tick.startPend then d
  else
    let p := d.rd (.tck .PERIOD_N) * 31250
    let n := if d.rd (.tck .CTRL_SRC) = 0 then d.tb + p else (d.tb / p + 1) * p
    { d with tick := { d.tick with startPend := true, first := true, nominal := n } }.wr (.tck .CTRL_RUN) 1

/-! ### The configuration in force as bytes -/

/-- The cells of lines 0x0000 to 0x17FF of the tables region. -/
def Dev.tableCells (d : Dev) : List Host.Cell :=
  d.mem.filter (fun c => 64 * tableLine 0 ≤ c.1 && c.1 < 64 * tableLine 0x1800)

/-- The Ephemeris bank in force, 1,088 bytes. -/
def Dev.ephBytes (d : Dev) : List Byte := d.peek (64 * ephLine d.cfg.bank) 1088

/-- The base (R88). -/
def Dev.base (d : Dev) : Eff := ⟨d.cfg.baseRegs, d.cfg.baseLines, d.cfg.baseEph⟩

/-- The base taken as the configuration in force (R88). -/
def Dev.takeBase (d : Dev) : Dev :=
  { d with cfg := { d.cfg with
      baseRegs := rwlFields d.regs, baseLines := d.tableCells, baseEph := d.ephBytes } }

/-- The signature of a configuration: RWL lines, Ephemeris, listed table lines (R118). -/
def signature (e : Eff) (locked : List (Nat × Nat)) : Nat :=
  crc32c (rwlBytes e.regs ++ e.eph ++
    locked.flatMap (fun r => (lineRun r.1 (r.2 + 1 - r.1)).flatMap e.line))

/-- The valid overlay of an index. -/
def Dev.ovl (d : Dev) (i : Nat) : Option Ovl := d.cfg.ovls.find? (fun o => o.idx = i)

/-- The effective configuration of an index, from bytes of the overlay store (R88). -/
def effWith (base : Eff) (hasEph : Bool) (o : Ovl) (store : List Byte) : Eff :=
  base.overlay (sliceB store 0 o.len)
    (if hasEph then some (sliceB store (64 * ((o.len + 63) / 64)) 1088) else none)

/-- The effective configuration of an index, read without error handling. -/
def Dev.eff (d : Dev) (i : Nat) : Eff :=
  match d.ovl i with
  | some o => effWith d.base (d.is (.cfg (.OVL_INFO_HAS_EPH (i - 1)))) o (d.peek (64 * tableLine o.line) (64 * o.lines))
  | none => d.base

/-! ### The end of a load -/

/-- The overlays of some indices become invalid (R97, R100, R610). -/
def Dev.dropOvls (d : Dev) (idx : List Nat) : Dev :=
  let d := { d with cfg := { d.cfg with ovls := d.cfg.ovls.filter (fun o => !idx.contains o.idx) } }
  d.wrs (idx.flatMap (fun i => [(.cfg (.OVL_INFO_VALID (i - 1)), 0), (.cfg (.OVL_INFO_SAFETY_TOUCH (i - 1)), 0),
    (.cfg (.OVL_INFO_HAS_EPH (i - 1)), 0), (.cfg (.OVL_INFO_NREG (i - 1)), 0),
    (.cfg (.OVL_INFO_NLINE (i - 1)), 0), (.cfg (.OVL_INFO_SAT (i - 1)), 0)]))

/-- CFG_OVL_INFO of an overlay taken from its section. -/
def Dev.ovlInfo (d : Dev) (i : Nat) (bs : List Byte) : Dev :=
  let r := ovlNreg bs
  let l := ovlNline bs
  d.wrs [(.cfg (.OVL_INFO_VALID (i - 1)), 1), (.cfg (.OVL_INFO_SAFETY_TOUCH (i - 1)), b2n (ovlTouch bs)),
    (.cfg (.OVL_INFO_HAS_EPH (i - 1)), b2n (ovlHasEph bs)), (.cfg (.OVL_INFO_NREG (i - 1)), min r 1023),
    (.cfg (.OVL_INFO_NLINE (i - 1)), min l 511), (.cfg (.OVL_INFO_SAT (i - 1)), b2n (1023 < r || 511 < l))]

/-- The configuration sealed; its re-evaluation starts (R101, R610); the FCS bypasses end (R138). -/
def Dev.seal (d : Dev) : Dev :=
  if d.sealed then d
  else
    let d := d.wrs ((List.range 4).flatMap (fun p =>
      [(.mac (.PORT_CTRL_FCS_BYPASS_RX p), 0), (.mac (.PORT_CTRL_FCS_BYPASS_TX p), 0)]))
    let d := (d.wr (.cfg .STATUS_SEALED) 1).takeBase
    { d with cfg := { d.cfg with reeval := true } }

/-- LOAD_BUSY clears: the result recorded (R96, R99), SEAL_AT_LOAD and a waiting SEAL applied (R101). -/
def Dev.loadFinish (d : Dev) (ld : Load) (code sec : Nat) : Dev :=
  let d := { d with cfg := { d.cfg with load := none } }
  let d := d.wrs [(.cfg .STATUS_LOAD_PASS, 0), (.cfg .LOAD_ERR_CODE, code), (.cfg .LOAD_ERR_SECTION, sec)]
  let d := if code = 0 then d else d.wr (.cfg .STATUS_LOAD_FAIL) 1
  let d := if d.cfg.sealPend ∨ (code = 0 ∧ ld.sealAt) then d.seal else d
  let d := { d with cfg := { d.cfg with sealPend := false } }
  d.cfgEvent .STATUS_LOAD_DONE .CTRL_IRQ_LOAD_EN

/-- A boot load of a slot starts, or fails with 0x02 when the slot extends beyond the flash (R556). -/
def Dev.bootSlot (d : Dev) (slotB second : Bool) : Dev × Bool :=
  let (off, len) := d.boot.slots.getD (b2n slotB) (0, 0)
  let ld : Load := { boot := true, slotB := slotB, second := second, len := len }
  if 2 ^ d.rd (.sbd .SFDP_INFO_LOG2_BYTES) < off + len then (d.loadFinish ld 2 0xFF, false)
  else ({ d with cfg := { d.cfg with load := some ld } }, true)

/-- A boot load is over: SBD_BOOT_STATUS and SBD_BOOT_TIME (R556), AUTO_RUN (R557). -/
def Dev.bootOver (d : Dev) (slotB : Bool) (code : Nat) : Dev :=
  let d := d.wrs [(.sbd .BOOT_STATUS_RESULT, if code = 0 then 0 else 2),
    (.sbd .BOOT_TIME_US, (d.now - d.boot.t0) / 1000 % 2 ^ 32)]
  if code = 0 then
    let d := d.wr (.sbd .BOOT_STATUS_SLOT) (b2n slotB)
    if d.boot.autoRun then d.tickStart else d
  else d

/-- The second attempt of a boot load ends (R556). -/
def Dev.bootSecond (d : Dev) (slotB : Bool) (code : Nat) : Dev :=
  (d.wr (.sbd .BOOT_STATUS_CODE_SECOND) code).bootOver slotB code

/-- The first attempt of a boot load ends: on failure the other slot is tried (R556). -/
def Dev.bootFirst (d : Dev) (slotB : Bool) (code : Nat) : Dev :=
  let d := d.wr (.sbd .BOOT_STATUS_CODE_FIRST) code
  if code = 0 then d.bootOver slotB 0
  else
    let (d, ok) := d.bootSlot (!slotB) true
    if ok then d else d.bootSecond (!slotB) 2

/-- A load ends with a code and the failing section (R94 to R99, R556). -/
def Dev.loadEnd (d : Dev) (ld : Load) (code sec : Nat) : Dev :=
  let d := d.loadFinish ld code sec
  if !ld.boot then d
  else if ld.second then d.bootSecond ld.slotB code
  else d.bootFirst ld.slotB code

/-- What a load that fails in pass 2 leaves (R97). -/
def Dev.loadUndo (d : Dev) (ld : Load) : Dev :=
  if ld.full then
    let d := d.resetWhere (fun f => ld.flds.contains f)
    let d := (d.zeroLines (tableLine 0) 0x5F00).zeroLines (tableLine 0x5F0E) 0xF2
    (d.dropOvls (List.range' 1 8)).wr (.cfg .STATUS_CONFIG) 0
  else d.dropOvls (ld.place.map (·.idx))

/-! ### Pass 1 -/

/-- Whether a key slot verifies images in a lifecycle state (R525). -/
def imageSlotOk (o : Otp) (slot : Nat) : Bool :=
  match o.slots[slot]? with
  | none => false
  | some k =>
    if slot = 0 then o.lc = 0 || o.lc = 3
    else (slot = 1 || slot = 2) && (o.lc = 1 || o.lc = 2) && k.prog && !k.revoked

/-- Check 0x07 (R84, R529). -/
def imgSignatureOk (o : Otp) (im : List Byte) (sig : Section) : Bool :=
  let s := sig.bytes im
  let slot := (s.getD 0 0).toNat
  imageSlotOk o slot &&
    Config.ecdsaVerify (match o.slots[slot]? with | some k => k.bits | none => [])
      (Config.sha384 (im.take sig.off)) (sliceB s 16 48) (sliceB s 64 48)

/-- The lines of a FULL image's classification content. -/
def imgLines (im : List Byte) (t : List Section) : List Host.Cell :=
  let graph := Mem.write [] (64 * tableLine 0) (imgSection im t 3 0)
  let recs := imgSection im t 4 0
  (lineRecs recs (recs.length / 68)).foldl
    (fun m r => if 0x400 ≤ r.1 ∧ r.1 ≤ 0x17FF then putLine m r.1 r.2 else m) graph

/-- The base records of an image. -/
def imgBaseRecs (im : List Byte) (t : List Section) : List RegRec :=
  let bs := imgSection im t 1 0
  regRecs bs (bs.length / 16)

/-- The base configuration an image is checked against (R88, R90, R95). -/
def Dev.imgBase (d : Dev) (full : Bool) (im : List Byte) (t : List Section) : Eff :=
  if full then ⟨applyRecs false d.regs (imgBaseRecs im t), imgLines im t, imgSection im t 2 0⟩
  else d.base

/-- The program entries an image's proof uses (R193). -/
def Dev.imgEntries (d : Dev) (full : Bool) (im : List Byte) (t : List Section) : List (List Byte × Nat) :=
  if full then (List.range 8).map (fun p =>
    let bs := imgSection im t 5 p
    (bs.take 512, bs.length - 576))
  else d.cfg.entries

/-- Whether a section's content meets R85 to R88, R164 and R611 (check 0x0A). -/
def sectionOk (d : Dev) (base : Eff) (im : List Byte) (t : List Section) (s : Section) : Bool :=
  let bs := s.bytes im
  match s.type with
  | 1 => bs.length % 16 = 0 && recsOk false d.regs (regRecs bs (bs.length / 16))
  | 4 => (lineRecs bs (bs.length / 68)).all (fun r => 0x400 ≤ r.1 && r.1 ≤ 0x17FF)
  | 6 => ovlHeaderOk bs (hasSection t 2 s.idx) && recsOk true base.regs (ovlRegs bs) &&
      (ovlLines bs).all (fun r => r.1 ≤ 0x17FF)
  | 7 => lockedOk (lockedRanges bs)
  | _ => true

/-- An image's overlays as effective configurations: index and configuration. -/
def imgEffs (base : Eff) (im : List Byte) (t : List Section) : List (Nat × Bool × Eff) :=
  (imgOverlays im t).map (fun x =>
    (x.1, x.2.2, base.overlay x.2.1 (if x.2.2 then some (imgSection im t 2 x.1) else none)))

/-- The outcome of pass 1: a code with its section and the proof's detail, or what the load keeps. -/
inductive Pass1 where
  | fails (code sec : Nat) (proof : Option (Nat × Nat × Nat))
  | passes (ld : Load)
  deriving DecidableEq, Repr

/-- Checks 0x0A to 0x0E of pass 1. -/
def Dev.pass1Content (d : Dev) (ld : Load) (im : List Byte) (full : Bool) (t : List Section) : Pass1 :=
  let base := d.imgBase full im t
  let entries := d.imgEntries full im t
  match (List.range t.length).find? (fun i =>
      match t[i]? with
      | some s => !sectionOk d base im t s
      | none => false) with
  | some i => .fails 0x0A i none
  | none =>
  let ovls := imgOverlays im t
  let kept := if full then [] else d.cfg.ovls.filter (fun o => !(ovls.map (·.1)).contains o.idx)
  match placeAll kept ovls with
  | .error i => .fails 0x0A (sectionIndex t 6 i) none
  | .ok place =>
  let effs := imgEffs base im t
  match ovls.find? (fun x => (effs.any (fun e => e.1 = x.1 && safetyDiff base e.2.2)) ≠ ovlTouch x.2.1) with
  | some x => .fails 0x0B (sectionIndex t 6 x.1) none
  | none =>
  if full ∧ 98304 < 64 * lockedSize (lockedRanges (imgSection im t 7 0)) then
    .fails 0x0C (sectionIndex t 7 0) none
  else
  match (if full then proof base entries else none) with
  | some p => .fails 0x0D (sectionIndex t 2 0) (some p)
  | none =>
  match effs.find? (fun e => (proof e.2.2 entries).isSome) with
  | some e => .fails 0x0D (sectionIndex t (if e.2.1 then 2 else 6) e.1) (proof e.2.2 entries)
  | none =>
  let busy := if d.rd (.cfg .OVL_STATUS_STATE) = 0 then [] else [d.rd (.cfg .OVL_STATUS_TARGET)]
  match (if full then none else ovls.find? (fun x => (d.rd (.cfg .OVL_STATUS_ACTIVE) :: busy).contains x.1)) with
  | some x => .fails 0x0E (sectionIndex t 6 x.1) none
  | none => .passes { ld with
      pass2 := true, full := full, table := t, sealAt := bitAt (leAt im 0x17 1) 1, secVer := leAt im 0x10 4,
      digest := Config.sha384 (im.take (match t.getLast? with | some s => s.off | none => 0)),
      place := place,
      flds := if full then (imgBaseRecs im t).flatMap RegRec.fields else [] }

/-- Pass 1 of a load: checks 0x01 (its second part) and 0x04 to 0x0E in order (R94). -/
def Dev.pass1 (o : Otp) (d : Dev) (ld : Load) (image : List Byte) : Pass1 :=
  let im := sliceB image 0 ld.len
  let full : Bool := leAt im 6 1 = 1
  if full ∧ (d.sealed ∨ d.is (.tck .STATUS_RUNNING)) then .fails 1 0xFF none
  else if !imgHeaderOk im ld.len ∨ (ld.boot ∧ !full) then .fails 4 0xFF none
  else if !imgTargetOk im (d.rd (.sys .REVISION_MAJOR)) o.safetyFuse then .fails 5 0xFF none
  else match tableFault im full ld.len with
  | some i => .fails 6 i none
  | none =>
  let t := imgTable im
  match t.getLast? with
  | none => .fails 6 0xFF none
  | some sig =>
  if !imgSignatureOk o im sig then .fails 7 (t.length - 1) none
  else if leAt im 0x10 4 < o.arb then .fails 8 0xFF none
  else if !full ∧ sliceB im 0x20 48 ≠ d.cfg.digest then .fails 9 0xFF none
  else d.pass1Content ld im full t

/-- The start of pass 2 of a FULL load: keys and SAs, local data and cluster memory and the
instruction memories are zeroed (R191, R193, R253). -/
def Dev.pass2Start (d : Dev) (ld : Load) : Dev :=
  let d := { d with cfg := { d.cfg with load := some ld } }.wr (.cfg .STATUS_LOAD_PASS) 1
  if ld.full then
    ((d.zeroiseKeys.zeroLines (ldmLine 0 0) 16384).zeroLines (clusterLine 0) 32768).zeroLines (imemLine 0 0) 8192
  else d

/-- The proof's first failure recorded (R62). -/
def Dev.proofError (d : Dev) (p : Nat × Nat × Nat) : Dev :=
  d.wrs [(.tck .PROOF_ERR_CODE, p.1), (.tck .PROOF_ERR_SLOT, p.2.1), (.tck .PROOF_ERR_PORT, p.2.2),
    (.tck .STATUS_PROOF_FAIL, 1)]

/-! ### Pass 2 -/

/-- Whole lines written with bytes, zero-filled to their end. -/
def Dev.putLines (d : Dev) (l n : Nat) (bs : List Byte) : Dev :=
  (d.zeroLines l n).store (64 * l) (bs.take (64 * n))

/-- An overlay's section and Ephemeris written to their run of the store (R612). -/
def Dev.storeOvl (d : Dev) (o : Ovl) (bs : List Byte) (eph : Option (List Byte)) : Dev :=
  let n := (o.len + 63) / 64
  let d := d.putLines (tableLine o.line) n bs
  match eph with
  | some e => d.putLines (tableLine (o.line + n)) 17 e
  | none => d

/-- The overlays of an image stored and made valid (R99, R100). -/
def Dev.applyOvls (d : Dev) (ld : Load) (im : List Byte) : Dev :=
  let t := ld.table
  let d := d.dropOvls (if ld.full then List.range' 1 8 else ld.place.map (·.idx))
  ld.place.foldl (fun d o =>
    let bs := imgSection im t 6 o.idx
    let d := d.storeOvl o bs (if hasSection t 2 o.idx then some (imgSection im t 2 o.idx) else none)
    { d with cfg := { d.cfg with ovls := d.cfg.ovls ++ [o] } }.ovlInfo o.idx bs) d

/-- The base content of a FULL image applied from the bytes pass 2 reads (R85, R94, R164, R192). -/
def Dev.applyFull (d : Dev) (ld : Load) (im : List Byte) : Dev :=
  let t := ld.table
  let old := d
  let d := { d with regs := applyRecs false d.regs (imgBaseRecs im t) }
  let d := d.zeroLines (tableLine 0) 0x1800
  let d := { d with mem := d.mem.filter (fun c => !(64 * tableLine 0 ≤ c.1 && c.1 < 64 * tableLine 0x1800)) }
  let d := (imgLines im t).foldl (fun d c => d.store c.1 [c.2]) d
  let d := d.putLines (ephLine 0) 17 (imgSection im t 2 0)
  let d := (List.range 8).foldl (fun d p =>
    d.putLines (imemLine p 0) 1024 ((imgSection im t 5 p).drop 576)) d
  let d := { d with cfg := { d.cfg with
      bank := 0, locked := lockedRanges (imgSection im t 7 0), entries := d.imgEntries true im t } }
  (d.wr (.cfg .OVL_STATUS_ACTIVE) 0).afterConfig old

/-- The records of a load that completed (R99), and for a FULL image the base and its signature
reference (R88, R118). -/
def Dev.loadDone (d : Dev) (ld : Load) : Dev :=
  if ld.full then
    let d := { d with cfg := { d.cfg with digest := ld.digest } }
    let d := d.wrs [(.cfg .IMAGE_DIGEST_VALUE, leAt ld.digest 0 4), (.cfg .IMAGE_VER_VALUE, ld.secVer),
      (.cfg .STATUS_CONFIG, 1), (.tck .MARGIN_PCT, bitsOf (leAt d.ephBytes 0 4) 8 6)]
    let d := d.takeBase
    d.wr (.cfg .SIG_REF_CRC) (signature d.base d.cfg.locked)
  else d

/-- Pass 2 of a load: applied from the bytes it reads, its digest compared with pass 1's (R94). -/
def Dev.pass2 (d : Dev) (ld : Load) (image : List Byte) : Dev :=
  let im := sliceB image 0 ld.len
  let d := if ld.full then d.applyFull ld im else d
  let d := d.applyOvls ld im
  let digest := Config.sha384 (im.take (match ld.table.getLast? with | some s => s.off | none => 0))
  if digest ≠ ld.digest then (d.loadUndo ld).loadEnd ld 0x0F 0xFF
  else (d.loadDone ld).loadEnd ld 0 0

/-! ### Commands of a load -/

/-- IMAGE_LOAD_START (R92, R93). -/
def execImageLoadStart (s : State) : Host.Outcome State Fault Refusal :=
  s.host (fun d =>
    if d.cfg.load.isSome then
      d.wrs [(.cfg .LOAD_ERR_CODE, 1), (.cfg .LOAD_ERR_SECTION, 0xFF), (.cfg .STATUS_LOAD_FAIL, 1)]
    else { d with cfg := { d.cfg with load := some { len := d.rd (.cfg .LOAD_LEN_LEN) } } })

/-- LOAD_READ_ERROR: a bus error or timeout (0x02) or poison (0x03) met on a read of the image from
host memory (R94, R97). -/
def execLoadReadError (poison : Bool) (s : State) : Host.Outcome State Fault Refusal :=
  s.run (fun d =>
    match d.cfg.load with
    | some ld =>
      if ld.boot then d
      else
        let code := if poison then 3 else 2
        if ld.pass2 then (d.loadUndo ld).loadEnd ld code 0xFF else d.loadEnd ld code 0xFF
    | none => d)

/-- LOAD_PASS1_COMPLETE: pass 1 has read `image` (R94). -/
def execLoadPass1Complete (image : List Byte) (s : State) : Host.Outcome State Fault Refusal :=
  s.runWith (fun o d =>
    match d.cfg.load with
    | some ld =>
      if ld.pass2 then d
      else match d.pass1 o ld image with
        | .fails code sec none => d.loadEnd ld code sec
        | .fails code sec (some p) => (d.proofError p).loadEnd ld code sec
        | .passes ld => d.pass2Start ld
    | none => d)

/-- LOAD_PASS2_COMPLETE: pass 2 has read `image` (R94, R99). -/
def execLoadPass2Complete (image : List Byte) (s : State) : Host.Outcome State Fault Refusal :=
  s.run (fun d =>
    match d.cfg.load with
    | some ld => if ld.pass2 then d.pass2 ld image else d
    | none => d)

/-! ### Sealing -/

/-- SEAL (R101). -/
def execSeal (s : State) : Host.Outcome State Fault Refusal :=
  s.host (fun d =>
    if d.cfg.load.isSome then { d with cfg := { d.cfg with sealPend := true } } else d.seal)

/-- The re-evaluation of R610. -/
def Dev.reevaluate (d : Dev) : Dev :=
  let d := d.cfg.ovls.foldl (fun d o =>
    if safetyDiff d.base (d.eff o.idx) then d.wr (.cfg (.OVL_INFO_SAFETY_TOUCH (o.idx - 1))) 1 else d) d
  let bad := ((List.range' 1 8).filter (fun i => (d.ovl i).isSome)).filterMap (fun i =>
    (proof (d.eff i) d.cfg.entries).map (fun p => (i, p)))
  let first := match proof d.base d.cfg.entries with
    | some p => some p
    | none => (bad.head?).map (·.2)
  let d := match first with | some p => d.proofError p | none => d
  let d := d.dropOvls (bad.map (·.1))
  (d.wr (.cfg .SIG_REF_CRC) (signature d.base d.cfg.locked))

/-- SEAL_REEVAL_END (R610). -/
def execSealReevalEnd (s : State) : Host.Outcome State Fault Refusal :=
  s.run (fun d =>
    if d.cfg.reeval then
      let d := d.reevaluate
      { d with cfg := { d.cfg with reeval := false } }
    else d)

/-! ### The overlay switch -/

/-- Whether a switch from the active index to `b` touches safety (R91). -/
def Dev.touches (d : Dev) (b : Nat) : Bool :=
  let t := fun i => i ≠ 0 && d.is (.cfg (.OVL_INFO_SAFETY_TOUCH (i - 1)))
  t (d.rd (.cfg .OVL_STATUS_ACTIVE)) || t b

/-- Whether the safe state is active: TRIPPED or RECOVERING (R463). -/
def Dev.safeState (d : Dev) : Bool := 3 ≤ d.rd (.saf .STATE_STATE)

/-- A pending request ends with a result, its shadows discarded (R110). -/
def Dev.endRequest (d : Dev) (result : Nat) : Dev :=
  { d with cfg := { d.cfg with shadow := {}, deferred := 0, confTicks := 0 } }.wrs
    [(.cfg .OVL_STATUS_STATE, 0), (.cfg .OVL_STATUS_LAST_RESULT, result), (.cfg .OVL_STATUS_TOUCH, 0),
     (.cfg .CONF_PENDING_PENDING, 0)]

/-- The confirmation window has passed (R115). -/
def Dev.confLapsed (d : Dev) : Bool :=
  d.is (.cfg .CONF_PENDING_PENDING) && d.rd (.cfg .CONF_CTRL_TIMEOUT) ≤ d.cfg.confTicks

/-- A request whose window has passed ends with CONFIRM_TIMEOUT (R115). -/
def Dev.lapse (d : Dev) : Dev := if d.confLapsed then d.endRequest 3 else d

/-- The reason an ARM of index `b` is refused, in the order of R105. -/
def Dev.armRefusal (d : Dev) (b : Nat) : Option Nat :=
  if d.rd (.cfg .OVL_STATUS_STATE) ≠ 0 then some 7
  else if !d.sealed then some 6
  else if b ≠ 0 ∧ (d.ovl b).isNone then some 8
  else if b = d.rd (.cfg .OVL_STATUS_ACTIVE) then some 9
  else if d.safeState ∧ d.touches b then some 10
  else if d.cfg.reeval then some 7
  else none

/-- OVERLAY_ARM (R105, R113). -/
def execOverlayArm (index : Fin 16) (s : State) : Host.Outcome State Fault Refusal :=
  s.host (fun d =>
    let d := d.lapse
    let b := index.val
    match d.armRefusal b with
    | some r => (d.inc (.cfg .CNT_ARM_REFUSED)).wr (.cfg .OVL_STATUS_LAST_RESULT) r
    | none =>
      let touch := d.touches b
      let d := d.wrs [(.cfg .OVL_STATUS_STATE, 1), (.cfg .OVL_STATUS_TARGET, b), (.cfg .OVL_STATUS_TOUCH, b2n touch)]
      let d := { d with cfg := { d.cfg with deferred := 0, confTicks := 0 } }
      if touch then
        let digest := match d.ovl b with | some o => o.digest | none => d.cfg.digest
        d.wrs [(.cfg .CONF_PENDING_FROM, d.rd (.cfg .OVL_STATUS_ACTIVE)), (.cfg .CONF_PENDING_TO, b),
          (.cfg .CONF_PENDING_PENDING, 1), (.cfg .CONF_TAG_TAG, leAt digest 0 4), (.hep .PF1_IPEND_CFG, 1)]
      else d)

/-- The shadows of a switch: RWL fields and table lines that differ between the effective
configurations, and the signature reference of the target (R106). -/
def shadowOf (a b : Eff) (locked : List (Nat × Nat)) : Shadow :=
  { regs := ((regsDiff a.regs b.regs).filter Fld.rwl).map (fun f => (f, Regs.get b.regs f))
    lines := ((linesOf a.lines b.lines).filter (fun l => a.line l ≠ b.line l)).map (fun l => (l, b.line l))
    sigRef := signature b locked }

/-- OVERLAY_PREP_END: shadows filled, the Ephemeris of b written to the inactive bank (R106). -/
def execOverlayPrepEnd (s : State) : Host.Outcome State Fault Refusal :=
  s.run (fun d =>
    if d.rd (.cfg .OVL_STATUS_STATE) ≠ 1 then d else
    let b := d.rd (.cfg .OVL_STATUS_TARGET)
    let active := d.rd (.cfg .OVL_STATUS_ACTIVE)
    let read := fun (d : Dev) i => match d.ovl i with
      | some o => (d.readRun (lineRun (tableLine o.line) o.lines)).2
      | none => (false, d)
    let (badA, d) := read d active
    let (badB, d) := read d b
    if badA ∨ badB then d.endRequest 5 else
    let effA := d.eff active
    let effB := d.eff b
    let d := d.putLines (ephLine (1 - d.cfg.bank)) 17 effB.eph
    let d := { d with cfg := { d.cfg with shadow := shadowOf effA effB d.cfg.locked } }
    d.wr (.cfg .OVL_STATUS_STATE) (if d.is (.cfg .CONF_PENDING_PENDING) then 2 else 3))

/-- OVERLAY_DISARM (R110). -/
def execOverlayDisarm (s : State) : Host.Outcome State Fault Refusal :=
  s.host (fun d =>
    let d := d.lapse
    if d.rd (.cfg .OVL_STATUS_STATE) = 0 then d.inc (.cfg .CNT_STALE) else d.endRequest 1)

/-- A confirmation write: stale unless TAG and TO match while PENDING is 1 (R114). -/
def Dev.confirm (d : Dev) (tag dest : Nat) (f : Dev → Dev) : Dev :=
  let d := d.lapse
  if d.is (.cfg .CONF_PENDING_PENDING) ∧ tag = d.rd (.cfg .CONF_TAG_TAG) ∧ dest = d.rd (.cfg .CONF_PENDING_TO)
  then f d else d.inc (.cfg .CNT_CONF_STALE)

/-- CONFIRM_ACCEPT (R114). -/
def execConfirmAccept (tag : BitVec 32) (dest : Fin 16) (s : State) : Host.Outcome State Fault Refusal :=
  s.host (fun d => d.confirm tag.toNat dest.val (fun d =>
    let d := d.wr (.cfg .CONF_PENDING_PENDING) 0
    if d.rd (.cfg .OVL_STATUS_STATE) = 2 then d.wr (.cfg .OVL_STATUS_STATE) 3 else d))

/-- CONFIRM_REFUSE (R114). -/
def execConfirmRefuse (tag : BitVec 32) (dest : Fin 16) (s : State) : Host.Outcome State Fault Refusal :=
  s.host (fun d => d.confirm tag.toNat dest.val (fun d => d.endRequest 2))

/-- CONFIRM_TIMEOUT (R115). -/
def execConfirmTimeout (s : State) : Host.Outcome State Fault Refusal :=
  s.run Dev.lapse

/-- Entry to the safe state ends a pending switch that touches safety (R111). -/
def Dev.overlaySafeEnd (d : Dev) : Dev :=
  if d.rd (.cfg .OVL_STATUS_STATE) ≠ 0 ∧ d.is (.cfg .OVL_STATUS_TOUCH) then d.endRequest 4 else d

/-! ### The signature check -/

/-- The locked set as the housekeeping task reads it: RWL lines, the active Ephemeris bank and the
listed lines, the lines read with the error handling of R27 and R28 (R119, R121). -/
def Dev.lockedSum (d : Dev) : Nat × Dev :=
  let (eph, _, d) := d.readRun (lineRun (ephLine d.cfg.bank) 17)
  let (tab, _, d) := d.readRun (d.cfg.locked.flatMap (fun r => lineRun (tableLine r.1) (r.2 + 1 - r.1)))
  (crc32c (rwlBytes d.regs ++ eph ++ tab), d)

/-- Whether slot `n` runs housekeeping task `task`. -/
def Dev.taskRuns (d : Dev) (n task : Nat) : Bool :=
  (d.occ n).state = .running && (d.slot n).on && (d.slot n).kind = 4 && (d.slot n).step = task

/-- A mismatch of the configuration signature (R120). -/
def Dev.sigMismatch (d : Dev) : Dev :=
  let d := if d.is (.cfg .SIG_STATUS_MISMATCH) then d
    else d.wrs [(.cfg .SIG_STATUS_MISMATCH, 1), (.cfg .SIG_STATUS_TICK, d.tick.coreTick % 2 ^ 24)]
  (d.inc (.cfg .SIG_ERR_CNT_COUNT)).fault 8 0

/-- SIGNATURE_CHECK: the running occurrence of task 0x02 in slot `n` ends (R119 to R121). -/
def execSignatureCheck (n : Fin 64) (s : State) : Host.Outcome State Fault Refusal :=
  s.run (fun d =>
    if !d.taskRuns n 2 then d
    else if !d.sealed then (d.wr (.cfg .SIG_STATUS_UNSEALED) 1).endOcc n 0
    else
      let (sum, d) := d.lockedSum
      let d := d.wr (.cfg .SIG_STATUS_UNSEALED) 0
      let d := if sum ≠ d.rd (.cfg .SIG_REF_CRC) then d.sigMismatch else d
      d.endOcc n 0)

end Sys2Proof.Machine
end

