-- ==== Sys2Proof/Machine/Nvt.lean ====
section
/-! DEFINITION.  The storage replication offload: connections and their TCP, NVMe/TCP PDUs, commands, legs and their
timers (R264 to R280). -/

namespace Sys2Proof.Machine

open Sys2Proof

/-! ### Connections and queue pairs -/

/-- Connection `c`. -/
def Dev.conn (d : Dev) (c : Nat) : NvtConn := d.nvt.conns.getD c {}

/-- Connection `c` changed. -/
def Dev.modConn (d : Dev) (c : Nat) (f : NvtConn → NvtConn) : Dev :=
  { d with nvt := { d.nvt with conns := bankAt 16 {} d.nvt.conns c f } }

/-- STATE of a connection: 0 CLOSED, 1 OPENING, 2 ESTABLISHED, 3 CLOSING, 4 FAILED. -/
def Dev.connState (d : Dev) (c : Nat) : Nat := d.rd (.nvt (.CONN_STATE_STATE c))

/-- An NVT event (source 7). -/
def Dev.nvtEvent (d : Dev) (status : NvtF) : Dev := d.event (.nvt status) (.nvt .CTRL_IRQ_EN) 7

/-- An NVT_CNT counter increased. -/
def Dev.nvtCnt (d : Dev) (i : Nat) : Dev := d.inc (.nvt (.CNT_COUNT i))

/-- STATE changed (R267). -/
def Dev.setConnState (d : Dev) (c v : Nat) : Dev := (d.wr (.nvt (.CONN_STATE_STATE c)) v).nvtEvent .STATUS_CONN_CHG

/-- The connections of a queue pair (R264). -/
def Dev.qpConns (d : Dev) (q : Nat) : List Nat :=
  d.rd (.nvt (.QP_CFG_CONN_A q)) :: (if d.is (.nvt (.QP_CFG_MIRROR q)) then [d.rd (.nvt (.QP_CFG_CONN_B q))] else [])

/-- Commands outstanding on a queue pair. -/
def Dev.qpOut (d : Dev) (q : Nat) : Nat := (d.nvt.cmds.filter (fun m => m.qp = q)).length

/-- The command identifiers outstanding or quarantined on a connection (R271, R277). -/
def Dev.cids (d : Dev) (c : Nat) : List Nat :=
  d.nvt.cmds.flatMap (fun m => (m.legs.filter (fun l => l.conn = c && l.status.isNone)).map (·.cid)) ++
    (d.nvt.quar.filter (fun x => x.1 = c)).map (·.2)

/-- The STORAGE ring a queue pair takes commands from (R265). -/
def Dev.ringOfQp (d : Dev) (q : Nat) : Option Nat :=
  match d.sqOf (d.rd (.nvt (.QP_CFG_FUNC q))) (d.rd (.nvt (.QP_CFG_RING q))) with
  | some n => if d.sqKind n = 2 then some n else none
  | none => none

/-- A command changed. -/
def Dev.modCmd (d : Dev) (ser : Nat) (f : NvtCmd → NvtCmd) : Dev :=
  { d with nvt := { d.nvt with cmds := updWhere d.nvt.cmds (fun m => m.ser = ser) f } }

/-- The command of a serial number. -/
def Dev.cmdOf (d : Dev) (ser : Nat) : Option NvtCmd := d.nvt.cmds.find? (fun m => m.ser = ser)

/-! ### Segments emitted -/

/-- An address of a connection: its 16 bytes (LOCAL_ADDR, REMOTE_ADDR). -/
def Dev.connAddr (d : Dev) (c : Nat) (remote : Bool) : List Byte :=
  (List.range 4).flatMap (fun i =>
    leBytes 4 (d.rd (.nvt (if remote then .CONN_REMOTE_ADDR_ADDR c i else .CONN_LOCAL_ADDR_ADDR c i))))

/-- The address as it stands in an IP header: 16 bytes, or the last four for IPv4. -/
def Dev.connIp (d : Dev) (c : Nat) (remote : Bool) : List Byte :=
  let a := d.connAddr c remote
  if d.is (.nvt (.CONN_CFG_V6 c)) then a else a.drop 12

/-- The receive window offered: 65,535 bytes less those that no PDU has taken (R268). -/
def Dev.connWindow (d : Dev) (c : Nat) : Nat := 65535 - (d.conn c).rx.length

/-- The TCP checksum of a segment between two addresses. -/
def tcpChecksum (src dst seg : List Byte) : Nat :=
  inetChecksum (src ++ dst ++ beBytes 4 seg.length ++ beBytes 4 6 ++ seg)

/-- One TCP segment as an IP packet; identification, DSCP, fragment flags and hop limit are not stated (R268, R269,
assumption 4). -/
def Dev.segment (d : Dev) (c seq flags : Nat) (opts payload : List Byte) : List Byte × Dev :=
  let n := d.conn c
  let src := d.connIp c false
  let dst := d.connIp c true
  let ack := if flags / 16 % 2 = 1 then n.rcv else 0
  let tcp := beBytes 2 (d.rd (.nvt (.CONN_PORTS_LOCAL_PORT c))) ++ beBytes 2 (d.rd (.nvt (.CONN_PORTS_REMOTE_PORT c))) ++
    beBytes 4 (seq % 2 ^ 32) ++ beBytes 4 (ack % 2 ^ 32) ++
    [BitVec.ofNat 8 ((20 + opts.length) / 4 * 16), BitVec.ofNat 8 flags] ++ beBytes 2 (d.connWindow c) ++ [0, 0, 0, 0] ++
    opts ++ payload
  let tcp := patchB tcp 16 (beBytes 2 (tcpChecksum src dst tcp))
  let (a, d) := d.fresh
  let (b, d) := d.fresh
  if d.is (.nvt (.CONN_CFG_V6 c)) then
    (beBytes 4 (6 * 2 ^ 28 + a % 2 ^ 28) ++ beBytes 2 tcp.length ++ [6, BitVec.ofNat 8 b] ++ src ++ dst ++ tcp, d)
  else
    let h : List Byte := [0x45, BitVec.ofNat 8 a] ++ beBytes 2 (20 + tcp.length) ++ beBytes 2 (b / 256) ++
      beBytes 2 (a / 256 % 2 * 0x4000) ++ [BitVec.ofNat 8 b, 6, 0, 0] ++ src ++ dst
    (patchB h 10 (beBytes 2 (inetChecksum h)) ++ tcp, d)

/-- A segment emitted as a frame on the connection's class (R269); nothing is emitted while the frame buffer has no room
(assumption 9). -/
def Dev.nvtEmit (d : Dev) (c seq flags : Nat) (opts payload : List Byte) (poison : Bool) : Dev :=
  let cls := d.rd (.nvt (.CONN_CFG_TX_CLASS c))
  let (bs, d) := d.segment c seq flags opts payload
  match d.newFrame bs poison { result := cls + c * 2 ^ 32 } with
  | none => d
  | some (f, d) => ((d.nvtCnt 0).count 0x90 c 1).toClass cls f

/-- The sequence number of a stream offset. -/
def NvtConn.seqOf (n : NvtConn) (off : Nat) : Nat := (n.iss + 1 + off) % 2 ^ 32

/-- The sequence number of the next segment. -/
def NvtConn.nextSeq (n : NvtConn) : Nat :=
  if n.synAcked then n.seqOf (n.nxt + b2n n.finSent) else n.seqOf 0

/-- An acknowledgement of the next expected sequence number (R268). -/
def Dev.nvtAck (d : Dev) (c : Nat) : Dev := d.nvtEmit c (d.conn c).nextSeq 0x10 [] [] false

/-- A reset sent (R267, R268). -/
def Dev.nvtRst (d : Dev) (c : Nat) : Dev := d.nvtEmit c (d.conn c).nextSeq 0x14 [] [] false

/-! ### The send buffer -/

/-- The size of a connection's send buffer. -/
def Dev.sndBuf (d : Dev) (c : Nat) : Nat := d.rd (.nvt (.CONN_CFG_SNDBUF c)) * 1024

/-- Bytes at the end of the stream placed in the send buffer, which is a ring of frame-buffer lines (R268). -/
def Dev.bufPut (d : Dev) (c : Nat) (bs : List Byte) : Dev :=
  let n := d.conn c
  let size := 64 * n.lines.length
  let o := n.bufEnd % size
  let d := d.writeRun n.lines o (bs.take (size - o)) false
  let d := d.writeRun n.lines 0 (bs.drop (size - o)) false
  d.modConn c (fun n => { n with bufEnd := n.bufEnd + bs.length })

/-- Bytes of the send buffer, and whether a line of them was poisoned (R268). -/
def Dev.bufGet (d : Dev) (c off k : Nat) : List Byte × Bool × Dev :=
  let n := d.conn c
  let size := 64 * n.lines.length
  let o := off % size
  let (a, p, d) := d.readBytes n.lines o (min k (size - o))
  let (b, q, d) := d.readBytes n.lines 0 (k - (size - o))
  (a ++ b, p || q, d)

/-- The bytes of a PDU that may enter the send buffer: header, header digest, the data that has arrived in order, and the data
digest once all of it has, inverted for a spoiled PDU (R272, R273). -/
def NvtPdu.ready (p : NvtPdu) : List Byte :=
  let have_ := p.data.takeWhile Option.isSome
  if p.whole ∧ have_.length < p.data.length then []
  else
    let bytes := have_.map (fun x => x.getD 0)
    p.hdr ++ (if p.hd then leBytes 4 (crc32c p.hdr) else []) ++ bytes ++
      (if p.dd ∧ have_.length = p.data.length then
        leBytes 4 (if p.spoiled then 0xFFFFFFFF - crc32c bytes else crc32c bytes) else [])

/-- The length of a PDU. -/
def NvtPdu.total (p : NvtPdu) : Nat :=
  p.hdr.length + (if p.hd then 4 else 0) + p.data.length + (if p.dd then 4 else 0)

/-- PDUs move to the send buffer in order, as far as their bytes and its room allow; the Vat lines of one that has moved are
released (R272, R279). -/
def Dev.nvtFill (d : Dev) (c : Nat) : Nat → Dev
  | 0 => d
  | fuel + 1 =>
    let n := d.conn c
    match n.out with
    | [] => d
    | p :: ps =>
      let room := 64 * n.lines.length - (n.bufEnd - n.una)
      let bs := (p.ready.drop p.done).take room
      let d := if bs = [] then d else d.bufPut c bs
      if p.done + bs.length = p.total then
        ((if p.spoiled then d.nvtCnt 6 else d).vatFree p.lines |>.modConn c (fun n => { n with out := ps })).nvtFill c fuel
      else d.modConn c (fun n => { n with out := { p with done := p.done + bs.length } :: ps })

/-- Segments sent while data, the peer's window and the congestion window allow, each at most MSS; no segment waits for more
(R268). -/
def Dev.nvtSend (d : Dev) (c : Nat) : Nat → Dev
  | 0 => d
  | fuel + 1 =>
    let n := d.conn c
    let k := min (min n.mss (n.bufEnd - n.nxt)) (min n.cwnd n.wnd - (n.nxt - n.una))
    if k = 0 then d
    else
      let (bs, p, d) := d.bufGet c n.nxt k
      let d := d.nvtEmit c (n.seqOf n.nxt) 0x18 [] bs p
      (d.modConn c (fun n => { n with
        nxt := n.nxt + k
        timed := if n.timed.isNone then some (n.nxt + k, d.now) else n.timed
        rtoAt := if n.rtoAt.isNone then some (d.now + n.rto * 1000000) else n.rtoAt })).nvtSend c fuel

/-- PDUs to the send buffer and segments from it. -/
def Dev.nvtPump (d : Dev) (c : Nat) : Dev :=
  if 2 ≤ d.connState c ∧ d.connState c ≤ 3 ∨ (d.connState c = 1 ∧ (d.conn c).synAcked) then
    (d.nvtFill c ((d.conn c).out.length + 1)).nvtSend c 4096
  else d

/-- A PDU queued on a connection. -/
def Dev.nvtPdu (d : Dev) (c : Nat) (p : NvtPdu) : Dev :=
  (d.modConn c (fun n => { n with out := n.out ++ [p] })).nvtPump c

/-! ### How commands end -/

/-- The bytes an ended leg has not read are zeroed and spoil their PDUs; a PDU that must be whole, or a capsule none of which has
been sent when `drop`, is dropped (R273, R276, R280). -/
def Dev.spoilLeg (d : Dev) (ser : Nat) (leg c : Nat) (drop : Bool) : Dev :=
  let gone := fun (p : NvtPdu) => p.ser = ser && p.leg = leg && p.done = 0 && ((p.whole && p.data.any Option.isNone) || drop)
  let ls := ((d.conn c).out.filter gone).flatMap (·.lines)
  (d.vatFree ls).modConn c (fun n => { n with
    out := updWhere (n.out.filter (fun p => !gone p)) (fun p => p.ser = ser && p.leg = leg) (fun p =>
      if p.data.any Option.isNone then
        { p with spoiled := true, asked := p.data.length, data := p.data.map (fun x => some (x.getD 0)) }
      else p) })

/-- A command whose legs have all ended completes, after its flush when it wrote host memory (R274, R275): byte 3 leg A, byte 10
leg B or 0xFF, the NVMe status field and DW0 of leg A. -/
def Dev.nvtFinish (d : Dev) (ser : Nat) : Dev :=
  match d.cmdOf ser with
  | none => d
  | some m =>
    if m.legs.any (fun l => l.status.isNone) ∨ (m.wrote ∧ !m.flushed) then d
    else
      let d := { d with nvt := { d.nvt with cmds := d.nvt.cmds.filter (fun x => x.ser ≠ ser) } }
      let a := m.legs.headD { conn := 0, cid := 0 }
      let st := a.status.getD 0
      let b := if !m.mirror then 0xFF else match m.legs[1]? with
        | some l => l.status.getD 0
        | none => if st = 9 then 9 else 10
      (d.endEnt m.ring ser { status := st, flags := if st = 8 then byAbort else 0, bytes := a.nvme, legB := b, dw0 := some a.dw0 }).reqSource
        7 (fun x => x % 64 = m.qp)

/-- The legs of a command that `p` selects and that have not ended end with a status. -/
def Dev.endLegs (d : Dev) (ser : Nat) (p : NvtLeg → Bool) (status : NvtLeg → Nat) : Dev :=
  (d.modCmd ser (fun m => { m with
    legs := updWhere m.legs (fun l => l.status.isNone && p l) (fun l => { l with status := some (status l) }) })).nvtFinish ser

/-- Whether nothing of a leg's capsule has entered the send buffer. -/
def Dev.unsent (d : Dev) (m : NvtCmd) (leg c : Nat) : Bool :=
  !m.formed || (d.conn c).out.any (fun p => p.ser = m.ser && p.leg = leg && p.capsule && p.done = 0)

/-- A leg ends TIMEOUT, or as for TIMEOUT with status ABORTED: its bytes not read are spoiled and its command identifier is
quarantined; a leg not sent leaves nothing behind when aborted (R276, R277, R280). -/
def Dev.quarLeg (d : Dev) (m : NvtCmd) (leg status : Nat) : Dev :=
  match m.legs[leg]? with
  | none => d
  | some l =>
    if l.status.isSome then d
    else
      let gone : Bool := status = 8 && d.unsent m leg l.conn
      let d := d.spoilLeg m.ser leg l.conn gone
      let d := if gone then d else { d with nvt := { d.nvt with quar := d.nvt.quar ++ [(l.conn, l.cid)] } }
      (d.endLegs m.ser (fun x => x.conn = l.conn && x.cid = l.cid) (fun _ => status)).nvtPump l.conn

/-- The timer of a command expires: the legs that have not ended end TIMEOUT (R276). -/
def Dev.nvtTimeout (d : Dev) (m : NvtCmd) : Dev :=
  if m.legs.all (fun l => l.status.isSome) then d
  else ((List.range m.legs.length).foldl (fun d i => d.quarLeg m i 2) (d.nvtEvent .STATUS_CMD_TMO))

/-- Timers whose expiry cycle has come win over what arrives in it (R276). -/
def Dev.nvtTimers (d : Dev) : Dev :=
  (d.nvt.cmds.filter (fun m => m.expiry ≤ d.now)).foldl Dev.nvtTimeout d

/-- A connection becomes CLOSED or FAILED: its send buffer is emptied, legs outstanding on it end CONN_LOST, its quarantine ends, its
queue pairs lose their path (R268, R277, R278). -/
def Dev.nvtLost (d : Dev) (c state err : Nat) : Dev :=
  let n := d.conn c
  let d := (d.free n.lines).vatFree (n.out.flatMap (·.lines))
  let d := (d.modConn c (fun _ => {})).wr (.nvt (.CONN_STATE_LAST_ERR c)) err
  let d := d.setConnState c state
  let d := { d with nvt := { d.nvt with quar := d.nvt.quar.filter (fun x => x.1 ≠ c) } }
  let d := d.nvt.cmds.foldl (fun d m => d.endLegs m.ser (fun l => l.conn = c) (fun _ => 3)) d
  (List.range 64).foldl (fun d q =>
    if d.is (.nvt (.QP_CFG_VALID q)) ∧ (d.qpConns q).contains c then
      (d.wr (.nvt (.QP_STATUS_PATH_DOWN q)) 1).nvtEvent .STATUS_PATH_DOWN
    else d) d

/-- A connection fails. -/
def Dev.nvtFail (d : Dev) (c err : Nat) : Dev := d.nvtLost c 4 err

/-- An H2CTermReq PDU; its fatal error status and information are not stated (R266, R272, R274, assumption 4). -/
def Dev.termReq (d : Dev) (c err : Nat) : Dev :=
  let (x, d) := d.freshBytes 6
  let pdu : List Byte := [2, 0, 24, 0] ++ leBytes 4 24 ++ x ++ List.replicate 10 0
  (d.nvtEmit c (d.conn c).nextSeq 0x18 [] pdu false).nvtFail c err

/-! ### Opening and closing -/

/-- Whether an OPEN is refused (R266). -/
def Dev.openBad (d : Dev) (c : Nat) : Bool :=
  let r := fun (f : NvtF) => d.rd (.nvt f)
  let used := (List.range 16).foldl (fun k x =>
    if x = c ∨ d.connState x = 0 ∨ d.connState x = 4 then k else k + d.rd (.nvt (.CONN_CFG_SNDBUF x))) 0
  r .CTRL_EN = 0 || (r (.CONN_CFG_IO c) = 1 && r (.CONN_CFG_DDGST c) = 0) || !d.served (r (.CONN_CFG_TX_CLASS c)) ||
    1024 < used + r (.CONN_CFG_SNDBUF c) || r (.CONN_CFG_SNDBUF c) < 16 || 128 < r (.CONN_CFG_SNDBUF c) ||
    r (.CONN_TCP_MSS c) < 536 || 8960 < r (.CONN_TCP_MSS c) || r (.CONN_TCP_MAX_RETX c) = 0 || r (.CONN_TCP_RTO_MIN c) < 10 ||
    8192 < r (.CONN_ICD_ICD_MAX c) || r (.CONN_ICD_OPEN_TMO c) = 0

/-- The SYN with the MSS option (R266). -/
def Dev.nvtSyn (d : Dev) (c : Nat) : Dev :=
  d.nvtEmit c (d.conn c).iss 0x02 ([2, 4] ++ beBytes 2 (d.rd (.nvt (.CONN_TCP_MSS c)))) [] false

/-- NVT_OPEN (R266).  A frame buffer without lines for the send buffer refuses as a send-buffer limit does (assumption 9). -/
def execNvtOpen (c : Fin 16) (s : State) : Host.Outcome State Fault Refusal :=
  s.hostAt (fun _ => true) (fun d =>
    let st := d.connState c
    if st ≠ 0 ∧ st ≠ 4 then d.nvtCnt 7
    else
      let bad := fun (d : Dev) => (d.wr (.nvt (.CONN_STATE_LAST_ERR c)) 1).setConnState c 4
      if d.openBad c then bad d
      else match d.alloc (regionBase 1) 65536 (d.rd (.nvt (.CONN_CFG_SNDBUF c)) * 16) with
        | none => bad d
        | some (ls, d) =>
          let (iss, d) := d.fresh
          let d := d.modConn c (fun _ => {
            iss := iss % 2 ^ 32, lines := ls, rto := max 1000 (d.rd (.nvt (.CONN_TCP_RTO_MIN c)))
            rtoAt := some (d.now + max 1000 (d.rd (.nvt (.CONN_TCP_RTO_MIN c))) * 1000000)
            openAt := some (d.now + d.rd (.nvt (.CONN_ICD_OPEN_TMO c)) * 100000000) })
          ((d.wr (.nvt (.CONN_STATE_LAST_ERR c)) 0).setConnState c 1).nvtSyn c)

/-- NVT_CLOSE (R267); a connection that is not open has nothing to close. -/
def execNvtClose (c : Fin 16) (s : State) : Host.Outcome State Fault Refusal :=
  s.hostAt (fun _ => true) (fun d => if d.connState c = 1 ∨ d.connState c = 2 then d.setConnState c 3 else d)

/-- A connection aborted (R267, R280). -/
def Dev.nvtAbort (d : Dev) (c : Nat) : Dev :=
  (if d.connState c = 0 ∨ d.connState c = 4 then d else d.nvtRst c).nvtFail c 7

/-- NVT_ABORT (R267). -/
def execNvtAbort (c : Fin 16) (s : State) : Host.Outcome State Fault Refusal := s.hostAt (fun _ => true) (fun d => d.nvtAbort c)

/-- NVT_OPEN_TIMEOUT: OPEN_TMO expires before ESTABLISHED (R266). -/
def execNvtOpenTimeout (c : Fin 16) (s : State) : Host.Outcome State Fault Refusal :=
  s.run (fun d =>
    match (d.conn c).openAt with
    | some t => if d.connState c = 1 then ((d.elapse (t - d.now)).nvtRst c).nvtFail c 2 else d
    | none => d)

/-- Whether a command is outstanding on a connection. -/
def Dev.connBusy (d : Dev) (c : Nat) : Bool :=
  d.nvt.cmds.any (fun m => m.legs.any (fun l => l.conn = c && l.status.isNone))

/-- NVT_FIN_SEND: a CLOSING connection with no command outstanding and an empty send buffer sends FIN (R267). -/
def execNvtFinSend (c : Fin 16) (s : State) : Host.Outcome State Fault Refusal :=
  s.run (fun d =>
    let n := d.conn c
    if d.connState c ≠ 3 ∨ n.finSent ∨ !n.synAcked ∨ d.connBusy c ∨ n.una < n.bufEnd ∨ !n.out.isEmpty then d
    else
      let d := d.nvtEmit c n.nextSeq 0x11 [] [] false
      d.modConn c (fun n => { n with finSent := true, rtoAt := some (d.now + n.rto * 1000000) }))

/-- NVT_CLOSED: the FIN exchange has ended (R267, R278). -/
def execNvtClosed (c : Fin 16) (s : State) : Host.Outcome State Fault Refusal :=
  s.run (fun d =>
    let n := d.conn c
    if d.connState c = 3 ∧ n.finAcked ∧ n.peerFin then d.nvtLost c 0 0 else d)

/-! ### Segments received -/

/-- The parts of a received IP packet that carries TCP: version 6, source, destination, the TCP segment. -/
def parseIp (bs : List Byte) : Option (Bool × List Byte × List Byte × List Byte) :=
  let b0 := (bs.getD 0 0).toNat
  if b0 = 0x45 ∧ bs.getD 9 0 = 6 then
    some (false, sliceB bs 12 4, sliceB bs 16 4, (bs.take (beAt bs 2 2)).drop 20)
  else if b0 / 16 = 6 ∧ bs.getD 6 0 = 6 then
    some (true, sliceB bs 8 16, sliceB bs 24 16, (bs.take (40 + beAt bs 4 2)).drop 40)
  else none

/-- The connection a segment belongs to: not CLOSED, with its addresses and ports (R270). -/
def Dev.matchConn (d : Dev) (v6 : Bool) (src dst seg : List Byte) : Option Nat :=
  (List.range 16).find? (fun c => d.connState c ≠ 0 && d.is (.nvt (.CONN_CFG_V6 c)) = v6 && d.connIp c true = src &&
    d.connIp c false = dst && beAt seg 0 2 = d.rd (.nvt (.CONN_PORTS_REMOTE_PORT c)) &&
    beAt seg 2 2 = d.rd (.nvt (.CONN_PORTS_LOCAL_PORT c)))

/-- Whether connection `c` is one of queue pair `q`, or the admin connection of the controller of its CONN_A (R270). -/
def Dev.ownConn (d : Dev) (q c : Nat) : Bool :=
  (d.qpConns q).contains c || (d.rd (.nvt (.CONN_CFG_IO c)) = 0 &&
    d.rd (.nvt (.CONN_CFG_CTRLR c)) = d.rd (.nvt (.CONN_CFG_CTRLR (d.rd (.nvt (.QP_CFG_CONN_A q))))))

/-- A received segment discarded, counted and recorded with its cause (R270). -/
def Dev.nvtDiscard (d : Dev) (x : NvtRx) (cause : Nat) : Dev :=
  (d.nvtCnt 4).logFirst (.nvt .DISCARD_INFO_VALID)
    [(.nvt .DISCARD_INFO_CAUSE, cause), (.nvt .DISCARD_INFO_QP, x.qp), (.nvt .DISCARD_LOG_TAG, x.tag)]

/-- The value of a TCP option of a kind: its data bytes as a number. -/
def tcpOption (kind : Nat) : Nat → List Byte → Option Nat
  | 0, _ => none
  | fuel + 1, bs =>
    match bs with
    | [] => none
    | k :: r =>
      if k = 0 then none
      else if k = 1 then tcpOption kind fuel r
      else
        let n := (r.getD 0 0).toNat
        if n < 2 then none
        else if k.toNat = kind then some (ofBe ((r.drop 1).take (n - 2)))
        else tcpOption kind fuel (r.drop (n - 1))

/-- RFC 6298: the estimates and the timeout after a measurement of `r` ms, the timeout bounded by RTO_MIN and 60 s (R268). -/
def rttSample (n : NvtConn) (r rtoMin : Nat) : NvtConn :=
  let (s, v) := match n.srtt with
    | none => (r, r / 2)
    | some s => ((7 * s + r) / 8, (3 * n.rttvar + (if s < r then r - s else s - r)) / 4)
  { n with srtt := some s, rttvar := v, rto := min 60000 (max rtoMin (s + max 1 (4 * v))) }

/-- The segment that holds the oldest byte not acknowledged sent again (R268). -/
def Dev.nvtResend (d : Dev) (c : Nat) : Dev :=
  let n := d.conn c
  let k := min n.mss (n.nxt - n.una)
  let d := (d.nvtCnt 1).count 0x91 c 1
  let d := d.modConn c (fun n => { n with timed := none })
  if !n.synAcked then d.nvtSyn c
  else if k = 0 then d.nvtEmit c (n.seqOf n.nxt) 0x11 [] [] false
  else
    let (bs, p, d) := d.bufGet c n.una k
    d.nvtEmit c (n.seqOf n.una) 0x18 [] bs p

/-- An acknowledgement of new data: the window opens as RFC 5681 says, round trips are measured, the timer restarts (R268). -/
def Dev.nvtAcked (d : Dev) (c k : Nat) : Dev :=
  let n := d.conn c
  let data := min k (n.nxt - n.una)
  let rtoMin := d.rd (.nvt (.CONN_TCP_RTO_MIN c))
  d.modConn c (fun n =>
    let n := match n.timed with
      | some (o, t) => if o ≤ n.una + data then rttSample { n with timed := none } ((d.now - t) / 1000000) rtoMin else n
      | none => n
    let cw := if 3 ≤ n.dup then n.ssthresh
      else if n.cwnd < n.ssthresh then n.cwnd + min data n.mss
      else n.cwnd + max 1 (n.mss * n.mss / n.cwnd)
    let fin := n.finSent && n.nxt - n.una < k
    let una := n.una + data
    { n with una := una, cwnd := cw, dup := 0, retx := 0, finAcked := n.finAcked || fin
             rtoAt := if una = n.nxt ∧ (!n.finSent ∨ n.finAcked ∨ fin) then none else some (d.now + n.rto * 1000000) })

/-- A duplicate acknowledgement: the third resends the oldest segment (RFC 5681, R268). -/
def Dev.nvtDup (d : Dev) (c : Nat) : Dev :=
  let n := d.conn c
  let flight := n.nxt - n.una
  if flight = 0 then d
  else if n.dup = 2 then
    let ss := max (flight / 2) (2 * n.mss)
    (d.modConn c (fun n => { n with dup := 3, ssthresh := ss, cwnd := ss + 3 * n.mss })).nvtResend c
  else d.modConn c (fun n => { n with dup := n.dup + 1, cwnd := if 3 ≤ n.dup then n.cwnd + n.mss else n.cwnd })

/-- The handshake's SYN with ACK: the peer's options and window taken, the ACK and the ICReq sent (R266). -/
def Dev.nvtSynAck (d : Dev) (c : Nat) (seg : List Byte) : Dev :=
  let h := (seg.getD 12 0).toNat / 16 * 4
  let opts := (seg.take h).drop 20
  let mss := min (d.rd (.nvt (.CONN_TCP_MSS c))) ((tcpOption 2 40 opts).getD (if d.is (.nvt (.CONN_CFG_V6 c)) then 1220 else 536))
  let hd := d.rd (.nvt (.CONN_CFG_HDGST c))
  let dd := d.rd (.nvt (.CONN_CFG_DDGST c))
  let d := d.modConn c (fun n => { n with
    synAcked := true, rcv := (beAt seg 4 4 + 1) % 2 ^ 32, wnd := beAt seg 14 2, mss := mss
    scale := min 14 ((tcpOption 3 40 opts).getD 0)
    cwnd := if 2190 < mss then 2 * mss else if 1095 < mss then 3 * mss else 4 * mss
    ssthresh := 2 ^ 30, retx := 0, rtoAt := none })
  let icreq : List Byte := [0, 0, 128, 0] ++ leBytes 4 128 ++ [0, 0, 0, BitVec.ofNat 8 (hd + 2 * dd)] ++ leBytes 4 3 ++
    List.replicate 112 0
  (d.nvtAck c).nvtPdu c { ser := 0, hdr := icreq }

/-- A segment accepted by a connection: handshake, acknowledgement, data in order, FIN (R266 to R268). -/
def Dev.nvtSegment (d : Dev) (c : Nat) (seg : List Byte) : Dev :=
  let n := d.conn c
  let flags := (seg.getD 13 0).toNat
  let seq := beAt seg 4 4
  let ack := beAt seg 8 4
  let data := seg.drop ((seg.getD 12 0).toNat / 16 * 4)
  let d := d.nvtCnt 2
  if d.connState c = 4 then d
  else if bitAt flags 2 then d.nvtFail c 3
  else if !n.synAcked then
    if flags % 32 = 0x12 ∧ ack = n.seqOf 0 then d.nvtSynAck c seg else d
  else if seq ≠ n.rcv ∨ d.connWindow c < data.length then (d.nvtCnt 3).nvtAck c
  else
    let k := (ack + 2 ^ 32 - n.seqOf n.una) % 2 ^ 32
    let ahead := n.nxt - n.una + b2n (n.finSent && !n.finAcked)
    let wnd := beAt seg 14 2 * 2 ^ n.scale
    let d := if !bitAt flags 4 then d
      else if 0 < k ∧ k ≤ ahead then d.nvtAcked c k
      else if k = 0 ∧ data = [] ∧ wnd = n.wnd ∧ !bitAt flags 0 then d.nvtDup c
      else d
    let d := d.modConn c (fun n => { n with
      wnd := wnd, rx := n.rx ++ data, rcv := (n.rcv + data.length + b2n (bitAt flags 0)) % 2 ^ 32
      peerFin := n.peerFin || bitAt flags 0 })
    let d := if data = [] ∧ !bitAt flags 0 then d else d.nvtAck c
    d.nvtPump c

/-- The oldest segment of the receive queue matched to a connection, or discarded (R270); `p` selects what a command takes. -/
def Dev.nvtTake (d : Dev) (p : List Byte → Nat → Bool) : Dev :=
  match d.nvt.rx with
  | [] => d
  | x :: xs =>
    let (bs, bad, d1) := d.frameBytes x.frame
    let d1 := ({ d1 with nvt := { d1.nvt with rx := xs } } : Dev).dropFrame x.frame
    let d1 := d1.nvtTimers
    if bad then if p [] 0 then d1.nvtDiscard x 0 else d
    else match parseIp bs with
      | none => if p [] 0 then d1.nvtDiscard x 1 else d
      | some (v6, src, dst, seg) =>
        match d1.matchConn v6 src dst seg with
        | none => if p [] 0 then d1.nvtDiscard x 1 else d
        | some c =>
          if !p seg c then d
          else if !d1.ownConn x.qp c then d1.nvtDiscard x 2
          else if tcpChecksum src dst seg ≠ 0 then d1.nvtDiscard x 3
          else d1.nvtSegment c seg

/-- NVT_SEGMENT_RX: the oldest received segment is matched to a connection or discarded (R270). -/
def execNvtSegmentRx (s : State) : Host.Outcome State Fault Refusal := s.run (fun d => d.nvtTake (fun _ _ => true))

/-- NVT_TCP_RST_RX: the oldest received segment, when it is a RST for connection `c` (R268). -/
def execNvtTcpRstRx (c : Fin 16) (s : State) : Host.Outcome State Fault Refusal :=
  s.run (fun d => d.nvtTake (fun seg x => x = c.val && bitAt (seg.getD 13 0).toNat 2))

/-- NVT_RTO_EXPIRY: the retransmission timer of connection `c` expires (R268). -/
def execNvtRtoExpiry (c : Fin 16) (s : State) : Host.Outcome State Fault Refusal :=
  s.run (fun d =>
    match (d.conn c).rtoAt with
    | none => d
    | some t =>
      let d := (d.elapse (t - d.now)).nvtTimers
      let n := d.conn c
      if d.rd (.nvt (.CONN_TCP_MAX_RETX c)) ≤ n.retx then (d.nvtRst c).nvtFail c 4
      else
        let rto := min 60000 (2 * n.rto)
        let ss := max ((n.nxt - n.una) / 2) (2 * n.mss)
        (d.modConn c (fun n => { n with
          rto := rto, retx := n.retx + 1, rtoAt := some (d.now + rto * 1000000), dup := 0
          ssthresh := if n.retx = 0 then ss else n.ssthresh, cwnd := if n.synAcked then n.mss else n.cwnd })).nvtResend c)

/-! ### PDUs received -/

/-- `k` bytes of the received stream taken. -/
def Dev.rxDrop (d : Dev) (c k : Nat) : Dev := d.modConn c (fun n => { n with rx := n.rx.drop k })

/-- The header of the next PDU of a connection, when it is of a type and its header and digest have arrived; a header digest that
fails ends the connection (R274). -/
def Dev.nvtHead (d : Dev) (c type : Nat) (f : Dev → List Byte → Nat → Dev) : Dev :=
  let n := d.conn c
  let hlen := (n.rx.getD 2 0).toNat
  let hd : Bool := d.is (.nvt (.CONN_CFG_HDGST c)) && (type = 5 || type = 7 || type = 9)
  let k := hlen + (if hd then 4 else 0)
  if n.c2h.isSome ∨ n.rx.length < 8 ∨ (n.rx.getD 0 0).toNat ≠ type ∨ n.rx.length < k then d
  else if hd ∧ crc32c (n.rx.take hlen) ≠ leAt n.rx hlen 4 then d.termReq c 5
  else f d (n.rx.take hlen) k

/-- NVT_ICRESP: the ICResp is checked (R266). -/
def execNvtIcresp (c : Fin 16) (s : State) : Host.Outcome State Fault Refusal :=
  s.run (fun d =>
    if d.connState c ≠ 1 then d
    else d.nvtHead c 1 (fun d h k =>
      let dg := d.rd (.nvt (.CONN_CFG_HDGST c)) + 2 * d.rd (.nvt (.CONN_CFG_DDGST c))
      let d := d.rxDrop c k
      if leAt h 8 2 ≠ 0 ∨ h.getD 10 0 ≠ 0 ∨ (h.getD 11 0).toNat ≠ dg then d.termReq c 6
      else
        let d := (d.wr (.nvt (.CONN_MAXH2C_BYTES c)) (leAt h 12 4)).setConnState c 2
        let d := d.modConn c (fun n => { n with openAt := none })
        (List.range 64).foldl (fun d q =>
          if d.is (.nvt (.QP_CFG_VALID q)) ∧ (d.qpConns q).contains c.val ∧ (d.qpConns q).all (fun x => d.connState x = 2) then
            d.wr (.nvt (.QP_STATUS_PATH_DOWN q)) 0
          else d) d))

/-- The outstanding leg a command identifier names on a connection. -/
def Dev.legOf (d : Dev) (c cid : Nat) : Option (NvtCmd × Nat) :=
  d.nvt.cmds.findSome? (fun m =>
    ((List.range m.legs.length).find? (fun i => match m.legs[i]? with
      | some l => l.conn = c && l.cid = cid && l.status.isNone
      | none => false)).map (fun i => (m, i)))

/-- Whether a command identifier is quarantined on a connection (R277). -/
def Dev.quarantinedCid (d : Dev) (c cid : Nat) : Bool := d.nvt.quar.contains (c, cid)

/-- The H2CData PDUs of a range, each of at most MAXH2CDATA bytes; all zeros and spoiled when `zero` (R272, R277). -/
def h2cPdus (ser leg cid ttag : Nat) (hd dd zero : Bool) (maxData : Nat) : Nat → Nat → Nat → List NvtPdu
  | 0, _, _ => []
  | fuel + 1, off, len =>
    if len = 0 then []
    else
      let k := if maxData = 0 then len else min len maxData
      let plen := 24 + (if hd then 4 else 0) + k + (if dd then 4 else 0)
      let hdr : List Byte := [6, BitVec.ofNat 8 (b2n hd + 2 * b2n dd + 4 * b2n (k = len)), 24, BitVec.ofNat 8 (24 + (if hd then 4 else 0))] ++
        leBytes 4 plen ++ leBytes 2 cid ++ leBytes 2 ttag ++ leBytes 4 off ++ leBytes 4 k ++ [0, 0, 0, 0]
      { ser := ser, leg := leg, ttag := ttag, hdr := hdr, hd := hd, off := off, dd := dd
        data := List.replicate k (if zero then some 0 else none), asked := if zero then k else 0
        spoiled := zero } :: h2cPdus ser leg cid ttag hd dd zero maxData fuel (off + k) (len - k)

/-- NVT_R2T_RX: an R2T is answered with H2CData PDUs, at most 4 of a command at once, or fails the connection (R272, R277). -/
def execNvtR2tRx (c : Fin 16) (s : State) : Host.Outcome State Fault Refusal :=
  s.run (fun d =>
    d.nvtTimers.nvtHead c 9 (fun d h k =>
      let d := d.rxDrop c k
      let cid := leAt h 8 2
      let hd := d.is (.nvt (.CONN_CFG_HDGST c))
      let dd := d.is (.nvt (.CONN_CFG_DDGST c))
      let pdus := fun ser leg zero => h2cPdus ser leg cid (leAt h 10 2) hd dd zero (d.rd (.nvt (.CONN_MAXH2C_BYTES c)))
        (leAt h 16 4 + 1) (leAt h 12 4) (leAt h 16 4)
      if d.quarantinedCid c cid then (pdus 0 0 true).foldl (fun d p => d.nvtPdu c p) d
      else match d.legOf c cid with
        | none => d.termReq c 6
        | some (m, i) =>
          let open_ := (((d.conn c).out.filter (fun p => p.ser = m.ser && p.leg = i && !p.capsule)).map (·.ttag)).eraseDups
          if m.dir ≠ 1 ∨ m.len < leAt h 12 4 + leAt h 16 4 then d.termReq c 6
          else if 4 ≤ open_.length then d
          else (pdus m.ser i false).foldl (fun d p => d.nvtPdu c p) d))

/-- A response ends a leg: late when its command identifier is quarantined, of no command otherwise ignored (R275, R277). -/
def Dev.nvtAnswer (d : Dev) (c cid sf dw0 : Nat) : Dev :=
  if d.quarantinedCid c cid then
    ({ d with nvt := { d.nvt with quar := d.nvt.quar.filter (fun x => x ≠ (c, cid)) } } : Dev).nvtCnt 5
  else match d.legOf c cid with
    | none => d
    | some (m, i) =>
      let d := d.modCmd m.ser (fun m => { m with legs := updAt m.legs i (fun l => { l with nvme := sf, dw0 := dw0 }) })
      let d := d.spoilLeg m.ser i c false
      d.endLegs m.ser (fun l => l.conn = c && l.cid = cid) (fun l => l.bad.getD (if sf = 0 then 0 else 1))

/-- NVT_CAPSULE_RESP (R275). -/
def execNvtCapsuleResp (c : Fin 16) (s : State) : Host.Outcome State Fault Refusal :=
  s.run (fun d =>
    d.nvtTimers.nvtHead c 5 (fun d h k =>
      (d.rxDrop c k).nvtAnswer c (leAt h 20 2) (leAt h 22 2 / 2) (leAt h 8 4)))

/-- The data of a C2HData PDU in reception: written to the command's buffer as it arrives, and at its end its digest checked and
SUCCESS taken as the response (R274, R277). -/
def Dev.c2hData (d : Dev) (c : Nat) : Dev :=
  match (d.conn c).c2h with
  | none => d
  | some x =>
    let bs := (d.conn c).rx.take x.left
    let leg := d.legOf c x.cid
    let hold : Bool := match leg with
      | some (m, _) => bs ≠ [] && !(d.mayIssue m.f && d.vatOk m.f 1)
      | none => false
    if hold then d
    else
      let d := match leg with
        | some (m, _) =>
          if bs = [] ∨ m.len < x.off + bs.length then d
          else (d.hostWrite m.f (m.addr + x.off) (clean bs)).modCmd m.ser (fun m => { m with wrote := true })
        | none => d
      let d := d.rxDrop c bs.length
      let x := { x with off := x.off + bs.length, left := x.left - bs.length, seen := x.seen ++ bs }
      let dd := d.is (.nvt (.CONN_CFG_DDGST c))
      if 0 < x.left ∨ (dd ∧ (d.conn c).rx.length < 4) then d.modConn c (fun n => { n with c2h := some x })
      else
        let ok : Bool := !dd || crc32c x.seen = leAt (d.conn c).rx 0 4
        let d := (if dd then d.rxDrop c 4 else d).modConn c (fun n => { n with c2h := none })
        let d := match leg with
          | some (m, i) =>
            if ok then d
            else d.modCmd m.ser (fun m => { m with legs := updAt m.legs i (fun l => { l with bad := some 4 }) })
          | none => d
        if x.success then d.nvtAnswer c x.cid 0 0 else d

/-- NVT_C2HDATA: the C2HData PDU at the front of the stream, as far as it has arrived (R274). -/
def execNvtC2hdata (c : Fin 16) (s : State) : Host.Outcome State Fault Refusal :=
  s.run (fun d =>
    let d := d.nvtTimers.nvtHead c 7 (fun d h k =>
      (d.rxDrop c k).modConn c (fun n => { n with c2h := some {
        cid := leAt h 8 2, off := leAt h 12 4, left := leAt h 16 4, success := bitAt (h.getD 1 0).toNat 3 } }))
    d.c2hData c)

/-- NVT_C2H_TERM_REQ (R274). -/
def execNvtC2hTermReq (c : Fin 16) (s : State) : Host.Outcome State Fault Refusal :=
  s.run (fun d => d.nvtHead c 3 (fun d _ _ => d.nvtFail c 8))

/-! ### Commands -/

/-- A command that sends nothing: it completes with the same status on each leg it would have had (R271, R274). -/
def Dev.nvtRefuse (d : Dev) (n q : Nat) (e : SqEnt) (status : Nat) : Dev :=
  let b := if !d.is (.nvt (.QP_CFG_MIRROR q)) then 0xFF else if e.arg = 1 then status else 10
  (d.endEnt n e.ser { status := status, legB := b, dw0 := some 0 }).reqSource 7 (fun x => x % 64 = q)

/-- The lowest free command identifier of a connection (R271). -/
def Dev.freeCid (d : Dev) (c : Nat) : Option Nat := (List.range 128).find? (fun i => !(d.cids c).contains i)

/-- The oldest fetched entry of a ring that no command was made of. -/
def Dev.nextStorage (d : Dev) (n : Nat) : Option SqEnt :=
  (d.sq n).ents.find? (fun e => e.fin.isNone && (d.cmdOf e.ser).isNone)

/-- NVT_CMD_ACCEPT: queue pair `q` accepts the oldest fetched command of its ring, or ends it NO_PATH or BAD_CMD; its timer starts,
its identifiers are assigned, its SQE is read (R271, R274 to R276). -/
def execNvtCmdAccept (q : Fin 64) (s : State) : Host.Outcome State Fault Refusal :=
  s.run (fun d =>
    match (if d.is (.nvt (.QP_CFG_VALID q)) then d.ringOfQp q else none) with
    | none => d
    | some n =>
      match (if d.sqState n = 1 then d.nextStorage n else none) with
      | none => d
      | some e =>
        let cs := d.qpConns q
        let legs := if e.arg = 1 then cs else cs.take 1
        let a := cs.headD 0
        if cs.any (fun c => d.connState c = 0 || 3 ≤ d.connState c) then d.nvtRefuse n q e 7
        else if cs.any (fun c => d.connState c ≠ 2 || 128 ≤ (d.cids c).length) ∨ d.rd (.nvt (.QP_CFG_MAX_OUT q)) ≤ d.qpOut q then d
        else if !d.is (.nvt (.CONN_CFG_IO a)) ∧ e.arg = 1 ∧ d.rd (.nvt (.CONN_ICD_ICD_MAX a)) < e.len then d.nvtRefuse n q e 9
        else
          let m : NvtCmd := {
            ser := e.ser, ring := n, qp := q, f := d.sqFunc n, dir := e.arg, addr := e.dataAddr, len := e.len, sqeAddr := e.addr
            legs := legs.map (fun c => { conn := c, cid := (d.freeCid c).getD 0 })
            mirror := d.is (.nvt (.QP_CFG_MIRROR q))
            expiry := d.now + d.rd (.nvt (.QP_TMO_CMD_TMO q)) * 10000000 }
          { d with nvt := { d.nvt with cmds := d.nvt.cmds ++ [m] } })

/-- NVT_CMD_TIMEOUT: the timer of the oldest command of queue pair `q` with a leg outstanding expires (R276). -/
def execNvtCmdTimeout (q : Fin 64) (s : State) : Host.Outcome State Fault Refusal :=
  s.run (fun d =>
    match d.nvt.cmds.find? (fun m => m.qp = q.val && m.legs.any (fun l => l.status.isNone)) with
    | none => d
    | some m => (d.elapse (m.expiry - d.now)).nvtTimers)

/-- The CapsuleCmd of a leg: the SQE with its command identifier and SGL1 (R271). -/
def Dev.capsule (d : Dev) (m : NvtCmd) (leg : Nat) (l : NvtLeg) (sqe : List Byte) : NvtPdu :=
  let icd : Bool := m.dir = 1 && m.len ≤ d.rd (.nvt (.CONN_ICD_ICD_MAX l.conn))
  let hd := d.is (.nvt (.CONN_CFG_HDGST l.conn))
  let dd : Bool := d.is (.nvt (.CONN_CFG_DDGST l.conn)) && icd
  let sgl : List Byte := List.replicate 8 0 ++ leBytes 4 m.len ++ [0, 0, 0, if icd then 0x01 else 0x5A]
  let sqe := patchB (patchB sqe 2 (leBytes 2 l.cid)) 24 sgl
  let k := 72 + (if hd then 4 else 0)
  let plen := k + (if icd then m.len else 0) + (if dd then 4 else 0)
  { ser := m.ser, leg := leg, hd := hd, dd := dd, capsule := true
    hdr := [4, BitVec.ofNat 8 (b2n hd + 2 * b2n dd), 72, if icd then BitVec.ofNat 8 k else 0] ++ leBytes 4 plen ++ sqe
    data := List.replicate (if icd then m.len else 0) none
    whole := !d.is (.nvt (.CONN_CFG_IO l.conn)) }

/-- The SQE of a command has arrived: its capsules are formed and sent (R271). -/
def Dev.sqeArrived (d : Dev) (ser : Nat) (sqe : List Byte) : Dev :=
  match d.cmdOf ser with
  | none => d
  | some m =>
    let d := d.modCmd ser (fun m => { m with formed := true })
    (List.range m.legs.length).foldl (fun d i =>
      match m.legs[i]? with
      | some l => if l.status.isNone then d.nvtPdu l.conn (d.capsule m i l sqe) else d
      | none => d) d

/-- A read of a command failed before anything was sent: it ends with a status and sends nothing (R273, R275). -/
def Dev.nvtUnsent (d : Dev) (ser status : Nat) : Dev :=
  match d.cmdOf ser with
  | none => d
  | some m =>
    let d := (List.range m.legs.length).foldl (fun d i =>
      match m.legs[i]? with
      | some l => d.spoilLeg ser i l.conn true
      | none => d) d
    d.endLegs ser (fun _ => true) (fun _ => status)

/-- The data of a read of a PDU arrives: `bytes` with their poison from offset `off` of the command's buffer, or a read error; bytes
that cannot be vouched for are zeroed and spoil the PDU; on an admin connection the command ends and sends nothing (R273). -/
def Dev.sdataArrived (d : Dev) (ser leg off : Nat) (bytes : List (Option Byte)) (lines : List Nat) (status : Option Nat) : Dev :=
  match d.cmdOf ser with
  | none => d.vatFree lines
  | some m =>
    match m.legs[leg]? with
    | none => d.vatFree lines
    | some l =>
      let here := fun (p : NvtPdu) => p.ser = ser && p.leg = leg && p.off ≤ off && off < p.off + p.data.length
      match if l.status.isSome then none else (d.conn l.conn).out.find? here with
      | none => d.vatFree lines
      | some p =>
        match status with
        | some st =>
          if p.whole then (d.vatFree lines).nvtUnsent ser st
          else
            let d := d.modCmd ser (fun m => { m with legs := updAt m.legs leg (fun l => { l with bad := some (l.bad.getD st) }) })
            (d.modConn l.conn (fun n => { n with out := updWhere n.out (fun q => here q && q.ttag = p.ttag) (fun q =>
              { q with spoiled := true, lines := q.lines ++ lines
                       data := (List.range q.data.length).map (fun i =>
                        let o := q.off + i
                        if off ≤ o ∧ o < off + bytes.length then some ((bytes.getD (o - off) none).getD 0) else q.data.getD i none) }) })).nvtPump l.conn
        | none =>
          (d.modConn l.conn (fun n => { n with out := updWhere n.out (fun q => here q && q.ttag = p.ttag) (fun q =>
            { q with lines := q.lines ++ lines
                     data := (List.range q.data.length).map (fun i =>
                      let o := q.off + i
                      if off ≤ o ∧ o < off + bytes.length then bytes.getD (o - off) none else q.data.getD i none) }) })).nvtPump l.conn

/-- The flush of a command has ended (R274). -/
def Dev.sflushEnded (d : Dev) (ser : Nat) : Dev := (d.modCmd ser (fun m => { m with flushed := true })).nvtFinish ser

/-! ### Rings aborted and functions reset -/

/-- The commands of a ring end as its abort or a function-level reset says: not sent, ABORTED; sent, as for TIMEOUT with status
ABORTED (R280). -/
def Dev.nvtStopRing (d : Dev) (n : Nat) : Dev :=
  (d.nvt.cmds.filter (fun m => m.ring = n)).foldl (fun d m =>
    let d := d.modCmd m.ser (fun m => { m with flushed := true })
    (List.range m.legs.length).foldl (fun d i => d.quarLeg m i 8) d) d

end Sys2Proof.Machine
end

