-- ==== Sys2Proof/Machine/Rings.lean ====
section
/-! DEFINITION.  Rings: doorbells, fetching, transmit and receive entries, abort, enabling, function-level reset and the safe
state (R288 to R313, R488). -/

namespace Sys2Proof.Machine

open Sys2Proof

/-! ### Doorbells -/

/-- A rejected doorbell counted and recorded (R289). -/
def Dev.dbReject (d : Dev) (f index ring reason : Nat) (cq : Bool) : Dev :=
  (d.fcnt f (reason - 1)).logFirst (.rng (.DB_LOG_VALID f))
    [(.rng (.DB_LOG_INDEX f), index), (.rng (.DB_LOG_RING f), ring), (.rng (.DB_LOG_REASON f), reason), (.rng (.DB_LOG_CQ f), b2n cq)]

/-- HEAD mirrored to host memory (R295); a mirror that cannot be written now lags. -/
def Dev.sqMirror (d : Dev) (n : Nat) : Dev :=
  let f := d.sqFunc n
  if !d.is (.rng (.SQ_CTRL_MIRROR_EN n)) then d
  else if !d.mayWrite f then d.modSq n (fun q => { q with lag := true })
  else
    (d.hostWrite f (d.rd (.rng (.SQ_MIRROR_ADDR n)) * 4) (clean (leBytes 4 (d.rd (.rng (.SQ_INDEX_HEAD n)))))).modSq n
      (fun q => { q with lag := false })

/-- The mirrors that lag are written (R295, R405). -/
def Dev.mirrors (d : Dev) : Dev :=
  (List.range 256).foldl (fun d n => if (d.sq n).lag then d.sqMirror n else d) d

/-- Whether the safe-state command holds in FAB (R313). -/
def Dev.safeFab (d : Dev) : Bool := d.safeCore && d.safeState

/-- Whether a ring is under R313: a PF1 TX ring while the safe state holds. -/
def Dev.safeRing (d : Dev) (n : Nat) : Bool := d.safeFab && d.sqFunc n = 1 && d.sqKind n = 0 && d.sqState n = 1

/-- Entries of a PF1 TX ring that were not fetched complete SAFE_STATE with COOKIE 0, as the completion ring has room,
outside any slot (R292, R313, R472). -/
def Dev.safeDrain (d : Dev) (n : Nat) : Nat → Dev
  | 0 => d
  | fuel + 1 =>
    let h := d.rd (.rng (.SQ_INDEX_HEAD n))
    match d.sqCq n with
    | none => d
    | some c =>
      if h = d.rd (.rng (.SQ_INDEX_TAIL n)) ∨ d.cqSize c ≤ d.reserved c + 1 then d
      else
        let d := d.wr (.rng (.SQ_INDEX_HEAD n)) ((h + 1) % d.sqSize n)
        let d := d.modSq n (fun q => { q with fetchTo := (h + 1) % d.sqSize n })
        (d.pushDueIn none n h 0 { status := 2 }).safeDrain n fuel

/-- Those entries completed, and the mirror of HEAD after them where it moved (R295, R313). -/
def Dev.safeEntries (d : Dev) (n : Nat) : Dev :=
  let x := d.safeDrain n 65536
  if x.rd (.rng (.SQ_INDEX_HEAD n)) = d.rd (.rng (.SQ_INDEX_HEAD n)) then x else x.sqMirror n

/-- SQ_DOORBELL: function `f` writes `value` to its submission doorbell (R288, R289, R313). -/
def execSqDoorbell (f : Fin 50) (value : BitVec 32) (s : State) : Host.Outcome State Fault Refusal :=
  s.host (fun d =>
    let v := value.toNat
    let i := v % 65536
    let r := bitsOf v 16 8
    let rej := fun reason => d.dbReject f i r reason false
    if bitsOf v 24 8 ≠ 0 then rej 1
    else match d.sqOf f r with
      | none => rej 2
      | some n =>
        let size := d.sqSize n
        let t := d.rd (.rng (.SQ_INDEX_TAIL n))
        if d.sqState n ≠ 1 then rej 3
        else if size ≤ i then rej 4
        else if size - 1 - ringOcc (d.rd (.rng (.SQ_INDEX_HEAD n))) t size < ringOcc t i size then rej 5
        else
          let d := (d.wr (.rng (.SQ_INDEX_TAIL n)) i).count 0x60 f 1
          if d.safeRing n then d.safeEntries n else d)

/-- CQ_DOORBELL: function `f` writes `value` to its completion doorbell; completions that waited for room follow (R289,
R306, R313). -/
def execCqDoorbell (f : Fin 50) (value : BitVec 32) (s : State) : Host.Outcome State Fault Refusal :=
  s.host (fun d =>
    let v := value.toNat
    let i := v % 65536
    let r := bitsOf v 16 8
    let rej := fun reason => d.dbReject f i r reason true
    if bitsOf v 24 8 ≠ 0 then rej 1
    else match d.cqOf f r with
      | none => rej 2
      | some c =>
        let size := d.cqSize c
        let h := d.rd (.rng (.CQ_INDEX_HEAD c))
        if !d.is (.rng (.CQ_CTRL_EN c)) then rej 3
        else if size ≤ i then rej 4
        else if ringOcc h (d.rd (.rng (.CQ_INDEX_TAIL c))) size < ringOcc h i size then rej 6
        else
          let d := (d.wr (.rng (.CQ_INDEX_HEAD c)) i).count 0x60 f 1
          (List.range 256).foldl (fun d n =>
            if d.sqCq n = some c then
              if d.sqState n = 2 then d.abortDrain n 65536
              else if d.safeRing n then d.safeEntries n else d
            else d) d)

/-! ### Fetching -/

/-- How many entries a STORAGE ring may fetch: as many as its queue pair may accept, any number while a bound connection is not to be
used and they will end NO_PATH (R271, R274, R304). -/
def Dev.storageRoom (d : Dev) (n : Nat) : Nat :=
  match d.qpOfRing n with
  | none => 0
  | some q =>
    if (d.qpConns q).any (fun c => d.connState c = 0 || 3 ≤ d.connState c) then 8
    else d.rd (.nvt (.QP_CFG_MAX_OUT q)) - max (d.qpOut q) (d.sq n).ents.length

/-- The entries a ring fetches next: at most 8, not past the end of the ring, not past one read request, and no more than the
completion ring has room for (R292, R293). -/
def Dev.fetchCount (d : Dev) (n : Nat) : Nat :=
  let h := d.rd (.rng (.SQ_INDEX_HEAD n))
  let size := d.sqSize n
  let f := d.sqFunc n
  match d.sqCq n with
  | none => 0
  | some c =>
    let a := d.rd (.rng (.SQ_BASE_ADDR n)) * 64 + 32 * h
    let k := min (min 8 (ringOcc h (d.rd (.rng (.SQ_INDEX_TAIL n))) size)) (size - h)
    let k := min (min k ((d.mrrs f - a % d.mrrs f) / 32)) (d.cqSize c - 1 - d.reserved c)
    if d.sqKind n = 2 then min k (d.storageRoom n) else k

/-- SQ_FETCH: submission ring `n` fetches its next entries (R271, R292, R293, R303, R312, R317). -/
def execSqFetch (n : Fin 256) (s : State) : Host.Outcome State Fault Refusal :=
  s.run (fun d =>
    let f := d.sqFunc n
    let h := d.rd (.rng (.SQ_INDEX_HEAD n))
    let inSlot : Bool := match d.sqTch n with | some t => d.tchRunning t | none => true
    if !d.is (.rng (.SQ_ASSIGN_VALID n)) ∨ d.sqState n ≠ 1 ∨ d.fetching n ≠ 0 ∨ !d.mayIssue f ∨ !inSlot ∨ d.safeRing n then d
    else
      let k := d.fetchCount n
      if k = 0 then d
      else match d.hostRead1 f (d.rd (.rng (.SQ_BASE_ADDR n)) * 64 + 32 * h) (32 * k) (.fetch n h) with
        | none => d
        | some d => d.modSq n (fun q => { q with fetchTo := (h + k) % d.sqSize n }))

/-- Whether an entry's bytes keep the format of its kind (R285). -/
def entryFormat (kind : Nat) (bs : List Byte) : Bool :=
  let len := leAt bs 8 2
  if kind = 0 then 14 ≤ len && len ≤ 9596 && zeros (bs.drop 16)
  else if kind = 1 then 64 ≤ len && leAt bs 10 2 = 0 && zeros (bs.drop 16)
  else
    let n := leAt bs 16 4
    let dir := leAt bs 20 1
    n ≤ 1048576 && dir ≤ 2 && ((n = 0) = (dir = 0)) && zeros (bs.drop 21)

/-- A fetched entry that cannot be used completes at once: BAD_DESC, or HOST_ERR; its COOKIE is 0 (R285, R300). -/
def Dev.entryBad (d : Dev) (n idx : Nat) (host : Bool) (flags : Nat) : Dev :=
  let x : CplEnd := if d.sqKind n = 2 then
      let st := if host then 6 else 9
      { status := st, flags := 0, legB := d.legBOf n st, dw0 := some 0 }
    else { status := if host then 4 else 3, flags := flags }
  (if host then d.fcnt (d.sqFunc n) 10 else d).pushDue n idx 0 x

/-- One fetched entry (R285, R293, R300). -/
def Dev.entryArrived (d : Dev) (n idx : Nat) (bs : List PByte) : Dev :=
  let d := d.wr (.rng (.SQ_INDEX_HEAD n)) ((idx + 1) % d.sqSize n)
  let raw := bs.map (·.1)
  let kind := d.sqKind n
  if bs.any (·.2) then d.entryBad n idx true 4
  else if !entryFormat kind raw then d.entryBad n idx false 0
  else
    let (u, d) := d.newUid
    let e : SqEnt := { ser := u, idx := idx, addr := leAt raw 0 8, cookie := 0, len := 0 }
    let e : SqEnt := if kind = 2 then
        { e with dataAddr := leAt raw 8 8, len := leAt raw 16 4, arg := leAt raw 20 1 }
      else { e with len := leAt raw 8 2, arg := leAt raw 10 2, cookie := leAt raw 12 4 }
    d.modSq n (fun q => { q with ents := q.ents ++ [e] })

/-- The entries of a read arrive, in index order, and HEAD is mirrored (R293, R295). -/
def Dev.entriesArrived (d : Dev) (n : Nat) : Nat → List PByte → Nat → Dev
  | _, _, 0 => d.sqMirror n
  | idx, bs, k + 1 => (d.entryArrived n idx (bs.take 32)).entriesArrived n ((idx + 1) % d.sqSize n) (bs.drop 32) k

/-- The read of entries failed: each completes HOST_ERR (R300). -/
def Dev.entriesFailed (d : Dev) (n : Nat) : Nat → Nat → Dev
  | _, 0 => d.sqMirror n
  | idx, k + 1 =>
    let next := (idx + 1) % d.sqSize n
    ((d.wr (.rng (.SQ_INDEX_HEAD n)) next).entryBad n idx true 0).entriesFailed n next k

/-! ### Transmit entries -/

/-- The black-channel check of a PF1 transmit frame: whether it passes, its failure counted under its cause (R488). -/
def Dev.bcTx (d : Dev) (bs : List Byte) : Bool × Dev :=
  let c := beAt bs (bs.length - 12) 2
  let seq := beAt bs (bs.length - 10) 4
  if 16 ≤ c ∨ !d.is (.saf (.BC_CFG_EN c)) ∨ !d.is (.saf (.BC_CFG_DIR c)) then (false, d.inc (.saf (.BC_CNT_LEN_ERR 0)))
  else if d.bcLenErr c bs then (false, d.inc (.saf (.BC_CNT_LEN_ERR c)))
  else if !d.bcCrcOk c bs then (false, d.inc (.saf (.BC_CNT_CRC_ERR c)))
  else if d.is (.saf (.BC_STATUS_SEQ_VALID c)) ∧ seq ≠ (d.rd (.saf (.BC_LAST_SEQ_SEQ c)) + 1) % 2 ^ 32 then
    (false, d.inc (.saf (.BC_CNT_SEQ_ERR c)))
  else (true, d.wrs [(.saf (.BC_LAST_SEQ_SEQ c), seq), (.saf (.BC_STATUS_SEQ_VALID c), 1)])

/-- A frame read whole is enqueued on the ring's class, a PF1 frame after its black-channel check (R298, R488). -/
def Dev.txEnqueue (d : Dev) (n : Nat) (e : SqEnt) (f : Frame) : Dev :=
  let cls := d.rd (.rng (.SQ_BIND_CLASS n))
  let pf1 : Bool := d.sqFunc n = 1
  let result := cls + b2n pf1 * 2 ^ 9 + e.arg * 2 ^ 16 + (d.sqFunc n + d.rd (.rng (.SQ_ASSIGN_LOCAL n)) * 256) * 2 ^ 32
  let f := { f with info := { result := result }, ring := some (n, e.ser) }
  let d := d.modSq n (fun q => { q with
    ents := updWhere q.ents (fun x => x.ser = e.ser) (fun x => { x with live := true, frame := none }) })
  if pf1 ∧ d.is (.saf .CTRL_TX_CHECK) then
    let (bs, _, d) := d.frameBytes f
    let (ok, d) := d.bcTx bs
    if ok then d.toClass cls f else (d.warn 6).discard f
  else d.toClass cls f

/-- Frames of a ring are enqueued in index order, as far as their payloads have arrived (R298). -/
def Dev.txTurn (d : Dev) (n : Nat) : List SqEnt → Dev
  | [] => d
  | e :: es =>
    if e.live ∨ e.fin.isSome then d.txTurn n es
    else match e.frame with
      | some f => if e.got < e.len then d else (d.txEnqueue n e f).txTurn n es
      | none => d

/-- Payload of entry `ser` arrives at offset `off` and is placed in its frame (R298). -/
def Dev.payArrived (d : Dev) (n ser off : Nat) (bs : List PByte) : Dev :=
  match (d.sq n).ents.find? (fun e => e.ser = ser && e.fin.isNone) with
  | none => d
  | some e =>
    match e.frame with
    | none => d
    | some f =>
      let d := d.putMarked f.lines (f.start + off) bs
      let d := d.modSq n (fun q => { q with
        ents := updWhere q.ents (fun x => x.ser = ser) (fun x => { x with got := x.got + bs.length }) })
      d.txTurn n (d.sq n).ents

/-- A payload read failed: the entry completes HOST_ERR, its other reads are written off (R300, R323). -/
def Dev.payFailed (d : Dev) (n ser : Nat) : Dev :=
  match (d.sq n).ents.find? (fun e => e.ser = ser && e.fin.isNone) with
  | none => d
  | some e =>
    let d := match e.frame with | some f => d.dropFrame f | none => d
    let d := d.writeOff (fun t => match t.client with | .pay m s _ => m = n && s = ser | _ => false) .writtenOff
    let d := (d.fcnt (d.sqFunc n) 10).endEnt n ser { status := 4 }
    d.txTurn n (d.sq n).ents

/-! ### Receive entries -/

/-- A held frame written into the fetched buffers in index order (R302). -/
def Dev.rxWrite (d : Dev) (n flag : Nat) : List SqEnt → List PByte → Dev
  | [], _ => d
  | e :: es, bs =>
    if bs = [] then d
    else
      let k := min bs.length e.len
      let d := d.hostWrite (d.sqFunc n) e.addr (bs.take k)
      (d.endEnt n e.ser { status := 0, bytes := k, flags := flag + 2 * b2n (k < bs.length) }).rxWrite n flag es (bs.drop k)

/-- RX_HELD_FRAME_WRITE: the oldest held frame of RX ring `n` is written when the fetched buffers can hold all of it
(R302, R303, R312, R318). -/
def execRxHeldFrameWrite (n : Fin 256) (s : State) : Host.Outcome State Fault Refusal :=
  s.run (fun d =>
    let inSlot : Bool := match d.sqTch n with | some t => d.tchRunning t | none => true
    match (d.sq n).held with
    | [] => d
    | h :: hs =>
      let es := (d.sq n).ents.filter (fun e => e.fin.isNone)
      if d.sqKind n ≠ 1 ∨ d.sqState n ≠ 1 ∨ !d.mayIssue (d.sqFunc n) ∨ !inSlot ∨
          es.foldl (fun k e => k + e.len) 0 < h.len then d
      else
        let (bs, d) := d.readMarked (h.lines.map vatLine)
        let bs := bs.take h.len
        let d := d.rxWrite n (if bs.any (·.2) then 4 else 0) es bs
        (d.modSq n (fun q => { q with held := hs })).vatFree h.lines)

/-! ### Abort -/

/-- Cancels for the frames of a ring in transmit and release queues (R153, R305, R310). -/
def Dev.cancelRing (d : Dev) (n : Nat) : Dev :=
  let mine := fun (e : TxEnt) => match e.frame.ring with | some (m, _) => m = n | none => false
  (List.range 4).foldl (fun d p =>
    let x := d.port p
    let hs := ((x.txq.flatMap (fun q => q.filter mine)) ++ (x.relq.map (·.2)).filter mine).map (·.handle)
    d.modPort p (fun x => { x with cancels := x.cancels ++ hs })) d

/-- The fetch in progress of a ring is void: its entries count as not fetched (R305). -/
def Dev.voidFetch (d : Dev) (n : Nat) : Dev :=
  let d : Dev := { d with hep := { d.hep with
    tags := updWhere d.hep.tags (fun t => match t.client with | .fetch m _ => m = n | _ => false)
      (fun t => { t with client := .fetch 256 0 }) } }
  d.modSq n (fun q => { q with fetchTo := d.rd (.rng (.SQ_INDEX_HEAD n)) })

/-- One outstanding entry of an aborting ring (R305). -/
def Dev.abortEnt (d : Dev) (n : Nat) (e : SqEnt) : Dev :=
  let entryEnd := fun (d : Dev) => d.modSq n (fun q => { q with
    ents := updWhere q.ents (fun x => x.ser = e.ser && x.fin.isNone) (fun x => { x with frame := none, fin := some (d.abortedEnd n) }) })
  if !e.live then entryEnd (match e.frame with | some f => d.dropFrame f | none => d)
  else match d.classq.find? (fun q => q.frame.ring = some (n, e.ser)) with
    | some q =>
      entryEnd (({ d with classq := d.classq.filter (fun x => x.frame.ring ≠ some (n, e.ser)) } : Dev).dropFrame q.frame)
    | none => d

/-- RING_ABORT: 1 written to ABORT of submission ring `n` (R305, R306, R309). -/
def execRingAbort (n : Fin 256) (s : State) : Host.Outcome State Fault Refusal :=
  s.host (fun d =>
    let f := d.sqFunc n
    if (d.sqSealed n ∧ !d.d2) ∨ d.sqState n ≠ 1 then d.fcnt f 6
    else
      let d := (d.wrs [(.rng (.SQ_STATUS_STATE n), 2), (.rng (.SQ_CTRL_ABORT n), 1)]).voidFetch n
      let d := if d.sqKind n = 0 then d.cancelRing n else d
      let d := if d.sqKind n = 2 then d.nvtStopRing n else d
      let d := ((d.sq n).ents.filter (fun e => e.fin.isNone && (d.cmdOf e.ser).isNone)).foldl (fun d e => d.abortEnt n e) d
      let hs := (d.sq n).held
      let d := (d.vatFree (hs.flatMap (·.lines))).incBy (.rng (.FCNT_COUNT f 9)) hs.length
      (d.modSq n (fun q => { q with held := [] })).abortDrain n 65536)

/-- RING_ABORT_COMPLETE: the last completion of an aborting ring has been written (R306). -/
def execRingAbortComplete (n : Fin 256) (s : State) : Host.Outcome State Fault Refusal :=
  s.run (fun d =>
    if d.sqState n = 2 ∧ (d.sq n).ents = [] ∧ d.rd (.rng (.SQ_INDEX_HEAD n)) = d.rd (.rng (.SQ_INDEX_TAIL n)) ∧
        !d.due.any (fun e => e.sq = n.val) then
      (d.wrs [(.rng (.SQ_STATUS_STATE n), 3), (.rng (.SQ_CTRL_ABORT n), 0)]).sqMirror n
    else d)

/-! ### Enabling and disabling -/

/-- SQ_ENABLE: 1 written to EN of submission ring `n` (R307). -/
def execSqEnable (n : Fin 256) (s : State) : Host.Outcome State Fault Refusal :=
  s.host (fun d =>
    if d.is (.rng (.SQ_CTRL_EN n)) then d
    else
      let cqOn : Bool := match d.sqCq n with | some c => d.is (.rng (.CQ_CTRL_EN c)) | none => false
      if d.sqState n = 0 ∧ d.is (.rng (.SQ_ASSIGN_VALID n)) ∧ cqOn then
        (d.wrs [(.rng (.SQ_CTRL_EN n), 1), (.rng (.SQ_INDEX_HEAD n), 0), (.rng (.SQ_INDEX_TAIL n), 0),
          (.rng (.SQ_STATUS_STATE n), 1)]).modSq n (fun q => { q with ents := [], fetchTo := 0 })
      else d.fcnt (d.sqFunc n) 7)

/-- SQ_DISABLE: 0 written to EN of submission ring `n` (R307, R309). -/
def execSqDisable (n : Fin 256) (s : State) : Host.Outcome State Fault Refusal :=
  s.host (fun d =>
    if !d.is (.rng (.SQ_CTRL_EN n)) then d
    else
      let st := d.sqState n
      let idle : Bool := (d.sq n).ents.isEmpty && d.fetching n = 0 &&
        d.rd (.rng (.SQ_INDEX_HEAD n)) = d.rd (.rng (.SQ_INDEX_TAIL n))
      if (d.sqSealed n ∧ !d.d2) ∨ !(st = 3 ∨ (st = 1 ∧ idle)) then d.fcnt (d.sqFunc n) 7
      else d.wrs [(.rng (.SQ_CTRL_EN n), 0), (.rng (.SQ_STATUS_STATE n), 0)])

/-- CQ_ENABLE: 1 written to EN of completion ring `c` (R307). -/
def execCqEnable (c : Fin 256) (s : State) : Host.Outcome State Fault Refusal :=
  s.host (fun d =>
    if d.is (.rng (.CQ_CTRL_EN c)) then d
    else if !d.is (.rng (.CQ_ASSIGN_VALID c)) then d.fcnt (d.rd (.rng (.CQ_ASSIGN_FUNC c))) 7
    else
      let d := d.wrs [(.rng (.CQ_CTRL_EN c), 1), (.rng (.CQ_INDEX_HEAD c), 0), (.rng (.CQ_INDEX_TAIL c), 0)]
      { d with cqSince := bankAt 256 0 d.cqSince c (fun _ => 0) })

/-- CQ_DISABLE: 0 written to EN of completion ring `c` (R307). -/
def execCqDisable (c : Fin 256) (s : State) : Host.Outcome State Fault Refusal :=
  s.host (fun d =>
    if !d.is (.rng (.CQ_CTRL_EN c)) then d
    else if (List.range 256).any (fun n => d.sqCq n = some c.val && d.is (.rng (.SQ_ASSIGN_VALID n)) && d.sqState n ≠ 0) then
      d.fcnt (d.rd (.rng (.CQ_ASSIGN_FUNC c))) 7
    else d.wr (.rng (.CQ_CTRL_EN c)) 0)

/-! ### Function-level reset and the safe state -/

/-- Whether a tick channel is named by a SAFETY slot of the Ephemeris in force. -/
def Dev.safeTch (d : Dev) (t : Nat) : Bool :=
  (List.range 64).any (fun n => (d.slot n).kind = 2 && (d.slot n).safety && (d.slot n).enable && (d.slot n).channel = t)

/-- A function-level reset or a loss of the link disables submission ring `n` (R310, R311, R475, R476). -/
def Dev.sqReset (d : Dev) (n : Nat) : Dev :=
  let f := d.sqFunc n
  let d := if d.sqSealed n ∧ d.sqState n = 1 then
      let d := d.logFirst (.rng .SEALED_LOG_VALID) [(.rng .SEALED_LOG_RING, n), (.rng .SEALED_LOG_FUNC, f)]
      let safe : Bool := f = 1 || (match d.sqTch n with | some t => d.safeTch t | none => false)
      if safe then d.fault 16 n else d.warn 4
    else d
  let d := (d.cancelRing n).voidFetch n
  let q := d.sq n
  let d := (q.ents.filterMap (·.frame)).foldl Dev.dropFrame d
  let d := (d.vatFree (q.held.flatMap (·.lines))).modSq n (fun _ => {})
  let d := d.wrs [(.rng (.SQ_CTRL_EN n), 0), (.rng (.SQ_CTRL_ABORT n), 0), (.rng (.SQ_STATUS_STATE n), 0)]
  let d : Dev := { d with due := d.due.filter (fun e => e.sq ≠ n) }
  if d.sqKind n = 2 then d.nvtStopRing n else d

/-- Every ring of a function disabled (R310). -/
def Dev.ringsReset (d : Dev) (f : Nat) : Dev :=
  let d := (List.range 256).foldl (fun d n =>
    if d.is (.rng (.SQ_ASSIGN_VALID n)) ∧ d.sqFunc n = f then d.sqReset n else d) d
  (List.range 256).foldl (fun d c =>
    if d.is (.rng (.CQ_ASSIGN_VALID c)) ∧ d.rd (.rng (.CQ_ASSIGN_FUNC c)) = f then
      { d with due := d.due.filter (fun e => e.cq ≠ c), cqSince := bankAt 256 0 d.cqSince c (fun _ => 0) }.wr (.rng (.CQ_CTRL_EN c)) 0
    else d) d

/-- The outstanding entries of a PF1 TX ring when the safe state arrives, in index order: those whose frame is not granted at a port
complete SAFE_STATE; their frames go on without origin (R313, R472). -/
def Dev.safeRingEnd (d : Dev) (n : Nat) : Dev :=
  let granted := fun (e : SqEnt) => d.ports.any (fun p => p.cur.any (fun c => c.ent.frame.ring = some (n, e.ser)))
  let d := d.voidFetch n
  let es := (d.sq n).ents.filter (fun e => !granted e)
  let d := es.foldl (fun d e =>
    let d := match e.frame with | some f => d.dropFrame f | none => d
    (d.modSq n (fun q => { q with ents := q.ents.filter (fun x => x.ser ≠ e.ser) })).pushDueIn none n e.idx e.cookie { status := 2 }) d
  d.safeEntries n

/-- SAFE_STATE_ARRIVAL: the safe-state command is in CORE and FAB (R111, R313). -/
def execSafeStateArrival (s : State) : Host.Outcome State Fault Refusal :=
  s.run (fun d =>
    if !d.safeState ∨ d.safeCore then d
    else
      let d := ({ d with safeCore := true } : Dev).overlaySafeEnd
      (List.range 256).foldl (fun d n => if d.is (.rng (.SQ_ASSIGN_VALID n)) ∧ d.safeRing n then d.safeRingEnd n else d) d)

end Sys2Proof.Machine
end

