-- ==== Sys2Proof/Machine/BridgeOps.lean ====
section
/-! DEFINITION.  Reads through the modem bridge: fetch ranges, requests and tags, the prefetch buffer, errors and containment
triggers of a root port (R410, R419 to R423, R426). -/

namespace Sys2Proof.Machine

open Sys2Proof

/-- ATTR of a window: 0 PLAIN, 1 PREFETCHABLE, 3 SIDE_EFFECT_FREE (R410). -/
def Dev.winAttr (d : Dev) (rp w : Nat) : Nat := d.rd (.brg (.WIN_CTRL_ATTR rp w))

/-- Whether a range of a window may be used: EN is 1 and it lies within SIZE (R410 to R412). -/
def Dev.winOk (d : Dev) (rp w off len : Nat) : Bool := d.is (.brg (.WIN_CTRL_EN rp w)) && off + len ≤ d.winSize rp w

/-- The range a read of `len` bytes from offset `a` of a window fetches: its start and end (R419, R420). -/
def Dev.fetchRange (d : Dev) (rp w a len : Nat) : Nat × Nat :=
  let attr := d.winAttr rp w
  if attr = 0 then (a, a + len)
  else
    let e := (a + len + 63) / 64 * 64
    if attr = 1 then (a / 64 * 64, e)
    else
      let base := d.winBase rp w
      let edge := ((base + a + len - 1) / 4096 + 1) * 4096 - base
      (a / 64 * 64, max e (min (min (e + 64 * d.rd (.brg (.RP_CTRL_PF_LINES rp))) (d.winSize rp w)) edge))

/-- The requests of a fetch: none exceeds 256 bytes or crosses a 4 KiB boundary (R419). -/
def rpPieces (base : Nat) : Nat → Nat → Nat → List (Nat × Nat)
  | 0, _, _ => []
  | fuel + 1, off, end_ =>
    if end_ ≤ off then []
    else
      let n := min (min 256 (4096 - (base + off) % 4096)) (end_ - off)
      (off, n) :: rpPieces base fuel (off + n) end_

/-- The lowest free tag of a root port's 32 (R419, assumption 9). -/
def Dev.rpTag (d : Dev) (rp : Nat) : Option Nat :=
  (List.range 32).find? (fun t => !(d.rp rp).tags.any (fun g => g.tag = t))

/-- When the completion timer of a downstream request issued now expires (R422). -/
def Dev.rpExpiry (d : Dev) (rp : Nat) : Nat := d.now + d.rd (.brg (.RP_CPL_TMO_MS rp)) * 1000000

/-- A downstream request recorded. -/
def Dev.rpAsk (d : Dev) (rp : Nat) (t : RpTag) : Dev := d.modRp rp (fun r => { r with tags := r.tags ++ [t] })

/-- The requests of a read of `len` bytes from offset `a`: all or none; `mk` names the client of the bytes wanted from an offset; Vat
lines are charged to `vat` when it is given (R318, R413, R419). -/
def Dev.rpReads (d : Dev) (rp w a len : Nat) (vat : Option Nat) (mk : Nat → RpClient) : List (Nat × Nat) → Option Dev
  | [] => some d
  | (o, n) :: ps =>
    let lo := max o a
    let want := min (o + n) (a + len) - lo
    match d.rpTag rp with
    | none => none
    | some t =>
      match (match vat with
        | some f => d.vatTake f (linesIn lo want)
        | none => some ([], d)) with
      | none => none
      | some (ls, d) =>
        let d := d.rpAsk rp { tag := t, client := if want = 0 then .prefetch else mk lo, win := w, off := o, len := n, wantOff := lo
                              wantLen := want, lines := ls, expiry := d.rpExpiry rp }
        ((d.emit (.modemRead rp (d.winBase rp w + o) n t)).count 0x80 rp 1).rpReads rp w a len vat mk ps

/-- The lines of a range. -/
def rangeLines (a len : Nat) : List Nat := (List.range (linesIn a len)).map (fun i => a / 64 * 64 + 64 * i)

/-- A read served from the prefetch buffer: every line of it is there, filled within the last 10 µs; they become the most recently used
(R421). -/
def Dev.pfServe (d : Dev) (rp w a len : Nat) : Option (List PByte × Dev) :=
  let pf := (d.rp rp).pf.filter (fun x => d.now < x.filledAt + 10000)
  let ls := rangeLines a len
  let hit := fun (x : PfLine) => x.win = w && ls.contains x.off
  if ls.all (fun l => pf.any (fun x => x.win = w && x.off = l)) then
    let bytes := ls.flatMap (fun l => match pf.find? (fun x => x.win = w && x.off = l) with
      | some x => marked x.bytes x.poison
      | none => [])
    some ((bytes.drop (a % 64)).take len,
      (d.modRp rp (fun r => { r with pf := r.pf.filter (fun x => !hit x) ++ r.pf.filter hit })).count 0x81 rp 1)
  else none

/-- A whole line kept in the prefetch buffer of 16 lines, the least recently used replaced (R421). -/
def Dev.pfPut (d : Dev) (rp w off : Nat) (bs : List PByte) : Dev :=
  let x : PfLine := { win := w, off := off, bytes := bs.map (·.1), poison := bs.any (·.2), filledAt := d.now }
  d.modRp rp (fun r =>
    let pf := r.pf.filter (fun y => !(y.win = w && y.off = off)) ++ [x]
    { r with pf := pf.drop (pf.length - 16) })

/-- The lines of a completed request that lie wholly beyond what was wanted, in a SIDE_EFFECT_FREE window (R421). -/
def Dev.pfKeep (d : Dev) (rp : Nat) (t : RpTag) : Dev :=
  if d.winAttr rp t.win ≠ 3 ∨ !d.is (.brg (.WIN_CTRL_EN rp t.win)) then d
  else
    let from_ := if t.wantLen = 0 then t.off else (t.wantOff + t.wantLen + 63) / 64 * 64
    (List.range 5).foldl (fun d i =>
      let l := from_ + 64 * i
      if l + 64 ≤ t.off + t.len then d.pfPut rp t.win l ((t.got.drop (l - t.off)).take 64) else d) d

/-- A downstream error counted in counter `i`, the first recorded, and the bridge event raised (R423). -/
def Dev.rpErr (d : Dev) (rp i : Nat) : Dev :=
  ((d.rpCnt rp i).logFirst (.brg (.RP_ERR_LOG_VALID rp)) [(.brg (.RP_ERR_LOG_KIND rp), i)]).brgEvent

/-- Containment triggers of a root port presented in one cycle, the lowest code first (R426). -/
def Dev.rpPresent (d : Dev) (rp : Nat) (codes : List Nat) : Dev :=
  match codes.filter (fun c => c = 1 || c = 6 || bitAt (d.rd (.brg (.RP_CTN_TRIG rp))) (c - 1)) with
  | [] => d
  | c :: _ =>
    let st := d.rd (.brg (.RP_STATUS_STATE rp))
    if st = 1 ∨ st = 2 then
      let q := d.rd (.brg (.RP_CTN_STATUS_SEQ rp))
      (d.modRp rp (fun r => { r with ctnPend := true })).wrs [(.brg (.RP_STATUS_STATE rp), 3), (.brg (.RP_CTN_STATUS_CAUSE rp), c),
        (.brg (.RP_CTN_STATUS_SEQ rp), if q = 65535 then 1 else q + 1)]
    else d

/-! ### Modem-mastered requests -/

/-- A completion returned to the modem (R424, R425). -/
def Dev.modemAnswer (d : Dev) (rp tag status : Nat) (bs : List Byte) (ep : Bool) : Dev :=
  if (d.rp rp).dlUp then d.emit (.modemCpl rp tag status bs ep) else d

/-- A request of a modem forwarded to the host, when it may be (R424, R425). -/
def Dev.inbIssue (d : Dev) (rp : Nat) (q : Inb) : Option Dev :=
  if !d.mayIssue q.f then none
  else if q.write then
    if q.lines = [] then (if d.vatOk q.f (linesIn q.addr q.len) then some (d.hostWrite q.f q.addr q.bytes) else none)
    else
      let (bs, d) := d.readMarked (q.lines.map vatLine)
      some ((d.hostWrite q.f q.addr ((bs.drop (q.addr % 64)).take q.len)).vatFree q.lines)
  else d.hostRead q.f q.addr q.len (fun o => .modem rp q.tag o) 0

/-- The waiting requests of a root port, oldest first; a request of a function that cannot issue holds back only that function's
later ones. -/
def Dev.drainRp (d : Dev) (rp : Nat) : List Nat → List Inb → Dev
  | _, [] => d
  | stuck, q :: qs =>
    let keep := d.modRp rp (fun r => { r with inb := r.inb ++ [q] })
    if stuck.contains q.f then keep.drainRp rp stuck qs
    else match d.inbIssue rp q with
      | some d => d.drainRp rp stuck qs
      | none => keep.drainRp rp (q.f :: stuck) qs

/-- The waiting requests of both modems issued as far as they may be (R374, R425). -/
def Dev.drainInb (d : Dev) : Dev :=
  [0, 1].foldl (fun d rp =>
    let qs := (d.rp rp).inb
    if qs = [] then d else (d.modRp rp (fun r => { r with inb := [] })).drainRp rp [] qs) d

end Sys2Proof.Machine
end

