-- ==== Sys2Proof/Machine/Dma.lean ====
section
/-! DEFINITION.  The DMA engines: transfers and bursts, linked-list and tick channels, request lines, read completions,
timeouts and write-offs (R315 to R350, R387 to R395). -/

namespace Sys2Proof.Machine

open Sys2Proof

/-! ### Descriptors -/

/-- LEN. -/
def Desc.len (x : Desc) : Nat := x.word4 % 2 ^ 24
/-- SRC_SPACE: 0 HOST, 1 CLUSTER, 2 MODEM. -/
def Desc.srcSp (x : Desc) : Nat := bitsOf x.word5 0 2
/-- DST_SPACE. -/
def Desc.dstSp (x : Desc) : Nat := bitsOf x.word5 2 2
/-- The burst size in bytes (R332). -/
def Desc.burst (x : Desc) : Nat := 64 * 2 ^ bitsOf x.word5 4 3
/-- PACED. -/
def Desc.paced (x : Desc) : Bool := bitAt x.word5 7
/-- LINE. -/
def Desc.line (x : Desc) : Nat := bitsOf x.word5 8 6
/-- FLUSH: 0 NONE, 1 ZLR, 2 LAST_LINE. -/
def Desc.flush (x : Desc) : Nat := bitsOf x.word5 14 2
/-- IRQ. -/
def Desc.irq (x : Desc) : Bool := bitAt x.word5 16
/-- LAST. -/
def Desc.last (x : Desc) : Bool := bitAt x.word5 17
/-- NEXT_ONCHIP. -/
def Desc.nextOnchip (x : Desc) : Bool := bitAt x.word5 18
/-- VALID. -/
def Desc.valid (x : Desc) : Bool := bitAt x.word5 19

/-- A descriptor from its bytes (R333). -/
def Desc.ofBytes (bs : List Byte) : Desc :=
  { src := leAt bs 0 8, dst := leAt bs 8 8, word4 := leAt bs 16 4, word5 := leAt bs 20 4, next := leAt bs 24 8 }

/-- Root port, window and offset of a MODEM address (R333). -/
def modemAddr (a : Nat) : Nat × Nat × Nat := (bitsOf a 35 1, bitsOf a 32 3, a % 2 ^ 32)

/-- Whether a range lies where its space says it may (R334). -/
def Dev.rangeOk (d : Dev) (space a len : Nat) : Bool :=
  if space = 1 then a + len ≤ 0x200000 && a < 0x200000
  else if space = 2 then
    let (rp, w, o) := modemAddr a
    a < 2 ^ 36 && d.winOk rp w o len
  else true

/-- Whether a descriptor or a tick register set is BAD_DESC (R329, R334, R339). -/
def Dev.descBad (d : Dev) (x : Desc) (tick : Bool) : Bool :=
  let (rp, w, _) := modemAddr x.dst
  x.srcSp = 3 || x.dstSp = 3 || bitsOf x.word5 4 3 = 7 || x.flush = 3 || bitsOf x.word5 20 12 ≠ 0 ||
    (x.srcSp = 1 && x.dstSp = 1) || (x.len = 0 && x.flush = 0) || (x.flush ≠ 0 && x.dstSp = 1) ||
    (x.len ≠ 0 && !d.rangeOk x.srcSp x.src x.len) || !d.rangeOk x.dstSp x.dst x.len ||
    (x.flush ≠ 0 && x.dstSp = 2 && d.winAttr rp w ≠ 3) ||
    (if tick then x.paced || x.line ≠ 0 || x.last || x.nextOnchip || x.valid
     else x.paced && d.rd (.dma (.REQ_MAP_KIND x.line)) = 0)

/-! ### Channels -/

/-- Whether channel `x` is a tick channel: 96 + t. -/
def isTch (x : Nat) : Bool := 96 ≤ x

/-- The function of a channel (R315). -/
def Dev.chF (d : Dev) (x : Nat) : Nat :=
  d.rd (.dma (if isTch x then .TCH_CFG_FUNC (x - 96) else .LL_CFG_FUNC x))

/-- Linked-list channel `c`. -/
def Dev.ll (d : Dev) (c : Nat) : Ll := d.dma.ll.getD c {}
/-- Linked-list channel `c` changed. -/
def Dev.modLl (d : Dev) (c : Nat) (f : Ll → Ll) : Dev := { d with dma := { d.dma with ll := bankAt 96 {} d.dma.ll c f } }
/-- Tick channel `t`. -/
def Dev.tch (d : Dev) (t : Nat) : Tch := d.dma.tch.getD t {}
/-- Tick channel `t` changed. -/
def Dev.modTch (d : Dev) (t : Nat) (f : Tch → Tch) : Dev := { d with dma := { d.dma with tch := bankAt 32 {} d.dma.tch t f } }
/-- STATE of a linked-list channel: 0 IDLE, 1 RUNNING, 2 PARKED, 3 STOPPING, 4 HALTED_ERR. -/
def Dev.llState (d : Dev) (c : Nat) : Nat := d.rd (.dma (.LL_STATUS_STATE c))

/-- The transfer of a channel. -/
def Dev.xfer (d : Dev) (x : Nat) : Option Xfer := if isTch x then (d.tch (x - 96)).x else (d.ll x).x

/-- The transfer of a channel replaced. -/
def Dev.setXfer (d : Dev) (x : Nat) (v : Option Xfer) : Dev :=
  if isTch x then d.modTch (x - 96) (fun t => { t with x := v }) else d.modLl x (fun l => { l with x := v })

/-- The transfer of a channel changed. -/
def Dev.modXfer (d : Dev) (x : Nat) (f : Xfer → Xfer) : Dev := d.setXfer x ((d.xfer x).map f)

/-- Whether a transfer has ended: it is BAD, or every byte is moved, its bursts have ended and its flush has (R326, R327). -/
def Xfer.over (v : Xfer) : Bool :=
  v.bad.isSome || (v.moved = v.desc.len && v.bursts.isEmpty && (v.desc.flush = 0 || v.flushed))

/-- The running occurrence of tick channel `t`. -/
def Dev.tchOcc (d : Dev) (t : Nat) : Option Nat :=
  (d.occIn .running).find? (fun n => (d.slot n).kind = 2 && (d.slot n).channel = t)

/-- A channel's bit in DMA_IRQ_PEND, with the DMA event (R336, R346). -/
def Dev.chIrq (d : Dev) (x : Nat) : Dev :=
  let d := d.setFldBit (.dma (.IRQ_PEND_PEND (x / 32))) (x % 32)
  if d.is (.dma .CTRL_IRQ_EN) then d.hepEvent 8 else d

/-- The first BAD end recorded (R336, R337). -/
def Dev.dmaLog (d : Dev) (x status addr : Nat) : Dev :=
  d.logFirst (.dma .ERR_LOG_VALID) [(.dma .ERR_LOG_CHANNEL, x), (.dma .ERR_LOG_STATUS, status), (.dma .ERR_ADDR_ADDR, addr)]

/-! ### Tick channels: sets and ends -/

/-- The active transfer of tick channel `t` ends with a status (R346). -/
def Dev.tchEnd (d : Dev) (t status : Nat) (v : Xfer) : Dev :=
  let d := (d.vatFree (v.waiting.flatMap (·.lines))).modTch t (fun c => { c with x := none })
  let d := d.wr (.dma (.TCH_STATUS_LAST_STATUS t)) status
  if v.desc.irq then d.chIrq (96 + t) else d

/-- An occurrence of tick channel `t` ends FAULT; a SAFETY slot is reported (R344). -/
def Dev.tchFault (d : Dev) (t : Nat) : Dev :=
  match d.tchOcc t with
  | none => d
  | some n => if (d.slot n).safety then (d.endOcc n 4).fault 3 n else d.endOcc n 4

/-- The end of the active transfer of tick channel `t`, when it has come: DONE, or BAD with the occurrence FAULT (R336, R344,
R346). -/
def Dev.tchSettle (d : Dev) (t : Nat) : Dev :=
  match (d.tch t).x with
  | none => d
  | some v =>
    if !v.over then d
    else match v.bad with
      | none => d.tchEnd t (if v.poisoned then 2 else 1) v
      | some (code, addr) =>
        if code = 0x84 then d.tchEnd t code v
        else ((d.tchEnd t code v).dmaLog (96 + t) code addr).dmaEvent .STATUS_CH_ERR |>.tchFault t

/-- Whether the shadow of tick channel `t` is valid, with its bytes: its registers under ARM, or its mailbox line, whose word must not be
zero nor poisoned (R340). -/
def Dev.shadow (d : Dev) (t : Nat) : Option (List Byte) × Dev :=
  if d.is (.dma (.TCH_CFG_SRC t)) then
    let (bs, p, d) := d.readLine (clusterLine (d.rd (.dma (.TCH_MBOX_LINE t))))
    (if p ∨ leAt bs 32 8 = 0 then none else some (bs.take 24), d)
  else (if d.is (.dma (.TCH_SHCTRL_SHADOW_VALID t)) then
      some ((List.range 6).flatMap (fun i => leBytes 4 (d.rd (.dma (.TCH_SHADOW_DATA t i)))))
    else none, d)

/-- A swap: the shadow becomes the active set, SHADOW_VALID or the mailbox word is cleared, a pending request is consumed (R341, R342);
a set that breaks R334 or R339 ends BAD_DESC in its slot. -/
def Dev.tchSwap (d : Dev) (t : Nat) (bs : List Byte) : Dev :=
  let d := if d.is (.dma (.TCH_CFG_SRC t)) then
      d.writePart (clusterLine (d.rd (.dma (.TCH_MBOX_LINE t)))) 32 (List.replicate 8 0) false
    else d.wr (.dma (.TCH_SHCTRL_SHADOW_VALID t)) 0
  let d := d.wr (.dma (.TCH_SHCTRL_SWAP_REQ t)) 0
  let d := d.wrs ((List.range 6).map (fun i => (.dma (.TCH_ACTIVE_DATA t i), leAt bs (4 * i) 4)))
  let x := Desc.ofBytes bs
  let bad := if d.descBad x true then some (0x82, x.src) else none
  d.modTch t (fun c => { c with x := some { desc := x, bad := bad } })

/-- The active set empties (R341). -/
def Dev.tchEmpty (d : Dev) (t : Nat) : Dev := d.wrs ((List.range 6).map (fun i => (.dma (.TCH_ACTIVE_DATA t i), 0)))

/-- A request of the swap line that waits is taken by the swap that takes place: 1 of the line's PENDING is consumed, unless SWAP_REQ is
the request (R342). -/
def Dev.tchLineTaken (d : Dev) (t : Nat) : Dev :=
  let line := d.rd (.dma (.TCH_CFG_SWAP_LINE t))
  if d.is (.dma (.TCH_SHCTRL_SWAP_REQ t)) || !d.is (.dma (.TCH_CFG_SWAP_LINE_EN t)) || !d.is (.dma (.REQ_MAP_PENDING line)) then d
  else d.wr (.dma (.REQ_MAP_PENDING line)) (d.rd (.dma (.REQ_MAP_PENDING line)) - 1)

/-- The boundary swap of tick channel `t` (R341, R342, R349). -/
def Dev.tchBoundary (d : Dev) (t : Nat) : Dev :=
  if d.is (.dma (.TCH_CFG_MODE t)) then d
  else
    let (sh, d) := d.shadow t
    match (d.tch t).x, sh with
    | none, some bs => (d.tchLineTaken t).tchSwap t bs
    | some _, some _ => d.inc (.dma (.TCH_CNT_CARRY t))
    | none, none => (d.tchEmpty t).inc (.dma (.TCH_CNT_NO_SHADOW t))
    | some _, none => d

/-- TCH_ARM: 1 written to ARM (R340, R349). -/
def execTchArm (t : Fin 32) (s : State) : Host.Outcome State Fault Refusal :=
  s.host (fun d => if d.is (.dma (.TCH_CFG_SRC t)) then d else d.wr (.dma (.TCH_SHCTRL_SHADOW_VALID t)) 1)

/-- TCH_SWAP_REQ: 1 written to SWAP_REQ (R342). -/
def execTchSwapReq (t : Fin 32) (s : State) : Host.Outcome State Fault Refusal :=
  s.host (fun d => d.wr (.dma (.TCH_SHCTRL_SWAP_REQ t)) 1)

/-- TCH_SWAP_ON_REQUEST: a requested swap of tick channel `t` takes place once the active transfer has ended and the shadow is valid
(R342). -/
def execTchSwapOnRequest (t : Fin 32) (s : State) : Host.Outcome State Fault Refusal :=
  s.run (fun d =>
    let line := d.rd (.dma (.TCH_CFG_SWAP_LINE t))
    let byReq := d.is (.dma (.TCH_SHCTRL_SWAP_REQ t))
    let byLine : Bool := !byReq && d.is (.dma (.TCH_CFG_SWAP_LINE_EN t)) && d.is (.dma (.REQ_MAP_PENDING line))
    if d.is (.dma (.TCH_CFG_MODE t)) ∨ (d.tch t).x.isSome ∨ !(byReq || byLine) then d
    else
      let (sh, d) := d.shadow t
      match sh with
      | none => d
      | some bs =>
        let d := (d.tchLineTaken t).tchSwap t bs
        if d.tchRunning t then d.tchSettle t else d)

/-! ### Moving bytes -/

/-- `n` bytes moved from offset `off` of the transfer of channel `x`; a burst ends when all of it has moved (R318). -/
def Dev.moved (d : Dev) (x off n : Nat) (poison : Bool) : Dev :=
  d.modXfer x (fun v => { v with
    moved := v.moved + n
    poisoned := v.poisoned || poison
    bursts := (updWhere v.bursts (fun b => b.off ≤ off && off < b.off + b.len) (fun b => { b with left := b.left - n })).filter
      (fun b => b.left ≠ 0) })

/-- Cluster memory bytes from an offset, with their poison. -/
def Dev.clusterGet (d : Dev) (off n : Nat) : List PByte × Dev :=
  let (bs, d) := d.readMarked (lineRun (clusterLine (off / 64)) (linesIn off n))
  ((bs.drop (off % 64)).take n, d)

/-- Bytes written to cluster memory. -/
def Dev.clusterPut (d : Dev) (off : Nat) (bs : List PByte) : Dev :=
  d.putMarked (lineRun (clusterLine (off / 64)) (linesIn off bs.length)) (off % 64) bs

/-- Bytes of a transfer written to its destination (R325, R417). -/
def Dev.dstWrite (d : Dev) (f : Nat) (x : Desc) (off : Nat) (bs : List PByte) : Dev :=
  if x.dstSp = 1 then d.clusterPut (x.dst + off) bs
  else if x.dstSp = 2 then
    let (rp, w, o) := modemAddr x.dst
    d.modemWriteBus rp (d.winBase rp w + o + off) bs
  else d.hostWrite f (x.dst + off) bs

/-- The bytes that wait in the Vat written in ascending order, as far as they follow what is written and their destination may be written
to (R325, R347). -/
def Dev.chDrain (d : Dev) (x : Nat) : Nat → Dev
  | 0 => d
  | fuel + 1 =>
    match d.xfer x with
    | none => d
    | some v =>
      if v.bad.isSome ∨ (v.desc.dstSp = 0 ∧ !d.mayIssue (d.chF x)) then d
      else match v.waiting.find? (fun w => v.desc.dstSp = 1 || w.off = v.moved) with
        | none => d
        | some w =>
          let d := d.modXfer x (fun v => { v with waiting := v.waiting.filter (fun y => y.off ≠ w.off) })
          let (bs, d) := d.readMarked (w.lines.map vatLine)
          let bs := (bs.drop w.head).take w.len
          let d := (d.dstWrite (d.chF x) v.desc w.off bs).vatFree w.lines
          (d.moved x w.off w.len (bs.any (·.2))).chDrain x fuel

/-- After bytes of channel `x` moved: a tick channel's transfer may have ended. -/
def Dev.chAfter (d : Dev) (x : Nat) : Dev := if isTch x then d.tchSettle (x - 96) else d

/-- Data of a transfer has arrived in Vat lines, its first byte at `head` of them (R318, R324). -/
def Dev.chData (d : Dev) (x off n : Nat) (lines : List Nat) (head : Nat) : Dev :=
  match d.xfer x with
  | none => d.vatFree lines
  | some v =>
    if v.bad.isSome then d.vatFree lines
    else
      let d := d.modXfer x (fun v => { v with waiting := v.waiting ++ [{ off := off, len := n, lines := lines, head := head }] })
      (d.chDrain x 4096).chAfter x

/-- A transfer ends BAD: its other requests are written off, its waiting bytes dropped (R323). -/
def Dev.chBad (d : Dev) (x code addr : Nat) : Dev :=
  match d.xfer x with
  | none => d
  | some v =>
    if v.bad.isSome then d
    else
      let mine := fun (t : Tag) => match t.client with | .chan y _ => y = x | .flush y => y = x | _ => false
      let d := (d.writeOff mine .writtenOff).vatFree (v.waiting.flatMap (·.lines))
      let d := [0, 1].foldl (fun d rp =>
        let own := fun (t : RpTag) => match t.client with | .chan y _ => y = x | .flush y => y = x | _ => false
        let ls := ((d.rp rp).tags.filter own).flatMap (·.lines)
        (d.vatFree ls).modRp rp (fun r => { r with
          tags := updWhere r.tags own (fun t => { t with quarantined := true, lines := [], client := .prefetch }) })) d
      let d := d.modXfer x (fun v => { v with bad := some (code, addr), waiting := [], bursts := [] })
      d.chAfter x

/-! ### Issuing bursts -/

/-- The length of the next burst of a transfer (R332). -/
def Xfer.nextLen (v : Xfer) : Nat :=
  let ref := (if v.desc.srcSp = 1 then v.desc.dst else v.desc.src) + v.issued
  min (v.desc.len - v.issued) (v.desc.burst - ref % v.desc.burst)

/-- A burst counted as issued. -/
def Dev.issued (d : Dev) (x n : Nat) : Dev :=
  d.modXfer x (fun v => { v with issued := v.issued + n, bursts := v.bursts ++ [{ off := v.issued, len := n, left := n }] })

/-- The next burst of channel `x`, when it is ready: with work, fewer than four bursts in flight, an event of its line, and its
allocation (R316, R322, R331, R347).  `read` chooses the engine. -/
def Dev.chTry (d : Dev) (x : Nat) (read : Bool) : Option Dev :=
  match d.xfer x with
  | none => none
  | some v =>
    let f := d.chF x
    let n := v.nextLen
    let s := v.desc
    let host : Bool := (s.srcSp = 0 || s.dstSp = 0) && !d.mayIssue f
    if !d.is (.dma .CTRL_EN) ∨ (!isTch x ∧ d.llState x ≠ 1) ∨ v.bad.isSome ∨ v.desc.len ≤ v.issued ∨ 4 ≤ v.bursts.length ∨
        (s.paced ∧ !d.is (.dma (.REQ_MAP_PENDING s.line))) ∨ (read = decide (s.srcSp = 1)) ∨ host then none
    else
      let pay := fun (d : Dev) => if s.paced then
          d.wr (.dma (.REQ_MAP_PENDING s.line)) (d.rd (.dma (.REQ_MAP_PENDING s.line)) - 1) else d
      if s.srcSp = 0 then
        ((d.issued x n).hostRead f (s.src + v.issued) n (fun o => .chan x o) v.issued).map pay
      else if s.srcSp = 1 then
        if !d.vatOk f (linesIn (s.src + v.issued) n) then none
        else
          let (bs, d) := d.clusterGet (s.src + v.issued) n
          let d := (d.issued x n).dstWrite f s v.issued bs
          some (pay ((d.moved x v.issued n (bs.any (·.2))).chAfter x))
      else
        let (rp, w, o) := modemAddr s.src
        let a := o + v.issued
        if !d.rpUp rp then some (pay (d.brgEvent.chBad x 0x80 (s.src + v.issued)))
        else match d.pfServe rp w a n with
          | some (bs, d) =>
            match d.vatTake f (linesIn a n) with
            | none => none
            | some (ls, d) =>
              let d := d.putMarked (ls.map vatLine) (a % 64) bs
              some (pay ((d.issued x n).chData x v.issued n ls (a % 64)))
          | none =>
            let (b, e) := d.fetchRange rp w a n
            ((d.issued x n).rpReads rp w a n (some f) (fun q => .chan x (v.issued + (q - a)))
              (rpPieces (d.winBase rp w) 256 b e)).map pay

/-- As `chTry`; of the channels that wait on one line, the lowest-numbered ready one is served (R331). -/
def Dev.chIssue (d : Dev) (x : Nat) (read : Bool) : Option Dev :=
  match d.xfer x with
  | none => none
  | some v =>
    let rival := fun y => match d.xfer y with
      | some u => u.desc.paced && u.desc.line = v.desc.line && ((d.chTry y true).isSome || (d.chTry y false).isSome)
      | none => false
    if v.desc.paced ∧ (List.range x).any rival then none else d.chTry x read

/-! ### Linked-list channels -/

/-- Where the current descriptor of a channel lies: on chip, and its address. -/
def Dev.llCur (d : Dev) (c : Nat) : Bool × Nat :=
  let a := d.rd (.dma (.LL_CUR_ADDR c))
  (bitAt a 0, a / 32 * 32)

/-- A channel enters HALTED_ERR (R337). -/
def Dev.llHalt (d : Dev) (c status : Nat) : Dev :=
  let d := (d.modLl c (fun _ => {})).wr (.dma (.LL_STATUS_STATE c)) 4
  (d.dmaLog c status (d.llCur c).2).dmaEvent .STATUS_HALTED

/-- A descriptor has been read: the channel parks on it, checks it, or halts when it is poisoned (R336 to R338). -/
def Dev.llArrive (d : Dev) (c : Nat) (bs : List PByte) : Dev :=
  let d := d.modLl c (fun l => { l with reading := false })
  let x := Desc.ofBytes (bs.map (·.1))
  if bs.any (·.2) then d.llHalt c 0x82
  else if x.valid then
    let bad := if d.descBad x false then some (0x82, (d.llCur c).2) else none
    d.modLl c (fun l => { l with x := some { desc := x, bad := bad } })
  else if d.llState c ≠ 1 then d
  else if d.is (.dma (.LL_STATUS_KICK_PEND c)) then d.wr (.dma (.LL_STATUS_KICK_PEND c)) 0
  else d.wr (.dma (.LL_STATUS_STATE c)) 2

/-- The read of the descriptor of a running channel, when it is ready (R336). -/
def Dev.llFetch (d : Dev) (c : Nat) : Option Dev :=
  if d.llState c ≠ 1 ∨ (d.ll c).reading ∨ (d.ll c).x.isSome ∨ !d.is (.dma .CTRL_EN) then none
  else
    let (onchip, a) := d.llCur c
    if onchip then
      if !d.vatOk (d.chF c) 1 then none
      else
        let (bs, d) := d.clusterGet (a % 0x200000) 32
        some (d.llArrive c bs)
    else if !d.mayIssue (d.chF c) then none
    else (d.modLl c (fun l => { l with reading := true })).hostRead1 (d.chF c) a 32 (.desc c)

/-- Whether the descriptor of a channel may be written back now. -/
def Dev.llMayWrite (d : Dev) (c : Nat) : Bool := (d.llCur c).1 || d.mayWrite (d.chF c)

/-- The STATUS byte written back, counted and recorded; the interrupt after it (R336). -/
def Dev.llBack (d : Dev) (c status : Nat) (x : Desc) : Dev :=
  let (onchip, a) := d.llCur c
  let st : List PByte := [(BitVec.ofNat 8 status, false)]
  let d := if onchip then d.clusterPut ((a + 19) % 0x200000) st else d.hostWrite (d.chF c) (a + 19) st
  let d := d.wr (.dma (.LL_STATUS_LAST_STATUS c)) status
  let d := if 0x80 ≤ status then ((d.inc (.dma (.LL_CNT_BAD c))).dmaLog c status a).dmaEvent .STATUS_CH_ERR
    else d.inc (.dma (.LL_CNT_DONE c))
  if x.irq then d.chIrq c else d

/-- The status of a transfer that is over (R333). -/
def Xfer.status (v : Xfer) : Nat := match v.bad with | some (c, _) => c | none => if v.poisoned then 2 else 1

/-- LL_DESCRIPTOR_END: the transfer of channel `c` has ended; it is written back and the channel goes on (R336). -/
def execLlDescriptorEnd (c : Fin 96) (s : State) : Host.Outcome State Fault Refusal :=
  s.run (fun d =>
    match (d.ll c).x with
    | none => d
    | some v =>
      if d.llState c ≠ 1 ∨ !v.over ∨ !d.llMayWrite c then d
      else
        let d := (d.llBack c v.status v.desc).modLl c (fun _ => {})
        if v.desc.last then d.wr (.dma (.LL_STATUS_STATE c)) 0
        else d.wr (.dma (.LL_CUR_ADDR c)) (v.desc.next / 32 * 32 + b2n v.desc.nextOnchip))

/-- A refused write to a channel counted (R335). -/
def Dev.llRefused (d : Dev) (c : Nat) : Dev := d.inc (.dma (.LL_CNT_REFUSED c))

/-- LL_START (R335). -/
def execLlStart (c : Fin 96) (s : State) : Host.Outcome State Fault Refusal :=
  s.host (fun d =>
    if d.llState c = 0 ∨ d.llState c = 4 then
      (d.modLl c (fun _ => {})).wrs [(.dma (.LL_STATUS_STATE c), 1), (.dma (.LL_STATUS_KICK_PEND c), 0),
        (.dma (.LL_CUR_ADDR c), d.rd (.dma (.LL_HEAD_ADDR c)) * 32 + d.rd (.dma (.LL_HEAD_ONCHIP c)))]
    else d.llRefused c)

/-- LL_STOP (R335, R338). -/
def execLlStop (c : Fin 96) (s : State) : Host.Outcome State Fault Refusal :=
  s.host (fun d =>
    if d.llState c = 1 ∨ d.llState c = 2 then
      d.wrs [(.dma (.LL_STATUS_STATE c), 3), (.dma (.LL_STATUS_KICK_PEND c), 0)]
    else d.llRefused c)

/-- LL_STOP_COMPLETE: the bursts of a stopping channel have ended; its descriptor, if one was running, is written back, and it is IDLE
(R335). -/
def execLlStopComplete (c : Fin 96) (s : State) : Host.Outcome State Fault Refusal :=
  s.run (fun d =>
    let l := d.ll c
    if d.llState c ≠ 3 ∨ l.reading then d
    else match l.x with
      | none => d.wr (.dma (.LL_STATUS_STATE c)) 0
      | some v =>
        if !v.bursts.isEmpty ∨ (v.flushAsked ∧ !v.flushed ∧ v.bad.isNone) ∨ !d.llMayWrite c then d
        else
          let st := if v.over then v.status else 0x83
          (((d.llBack c st v.desc).vatFree (v.waiting.flatMap (·.lines))).modLl c (fun _ => {})).wr (.dma (.LL_STATUS_STATE c)) 0)

/-- LL_KICK (R338). -/
def execLlKick (c : Fin 96) (s : State) : Host.Outcome State Fault Refusal :=
  s.host (fun d =>
    if d.llState c = 2 then d.wr (.dma (.LL_STATUS_STATE c)) 1 else d.wr (.dma (.LL_STATUS_KICK_PEND c)) 1)

/-! ### Request lines -/

/-- REQ_MAP_WRITE: a write of DMA_REQ_MAP[i]; a reserved KIND keeps the previous one (R16, R330). -/
def execReqMapWrite (i : Fin 64) (kind : BitVec 4) (arg : BitVec 12) (s : State) : Host.Outcome State Fault Refusal :=
  s.host (fun d =>
    let d := d.wrs [(.dma (.REQ_MAP_ARG i), arg.toNat), (.dma (.REQ_MAP_PENDING i), 0)]
    if kind.toNat < 8 then d.wr (.dma (.REQ_MAP_KIND i)) kind.toNat else d)

/-- REQ_FIRE: a write of DMA_REQ_FIRE (R330). -/
def execReqFire (i : Fin 64) (s : State) : Host.Outcome State Fault Refusal :=
  s.host (fun d => if d.rd (.dma (.REQ_MAP_KIND i)) = 1 then d.reqEvent i else d)

/-- REQ_LINE_TIMER: the period of a TIMER line expires (R330). -/
def execReqLineTimer (i : Fin 64) (s : State) : Host.Outcome State Fault Refusal :=
  s.run (fun d =>
    if d.rd (.dma (.REQ_MAP_KIND i)) = 2 ∧ d.is (.dma (.REQ_MAP_ARG i)) then d.reqEvent i else d)

/-! ### The engines' choice -/

/-- The first of some tries that succeeds. -/
def firstSome (ts : List (Unit → Option Dev)) : Option Dev := ts.findSome? (fun t => t ())

/-- The next payload read of TX ring `n`: the oldest entry whose payload is not all asked for; its frame is allocated with its first
read (R298). -/
def Dev.payIssue (d : Dev) (n : Nat) : Option Dev :=
  if d.sqKind n ≠ 0 ∨ d.sqState n ≠ 1 ∨ !d.mayIssue (d.sqFunc n) then none
  else match (d.sq n).ents.find? (fun e => e.fin.isNone && !e.live && e.asked < e.len) with
    | none => none
    | some e =>
      let f := d.sqFunc n
      let a := e.addr + e.asked
      let k := min (e.len - e.asked) (d.mrrs f - a % d.mrrs f)
      match (match e.frame with
        | some g => some (g, d)
        | none => d.newFrame (List.replicate e.len 0) false {}) with
      | none => none
      | some (g, d) =>
        let d := d.modSq n (fun q => { q with
          ents := updWhere q.ents (fun x => x.ser = e.ser) (fun x => { x with frame := some g, asked := x.asked + k }) })
        d.hostRead1 f a k (.pay n e.ser e.asked)

/-- The next read of the storage offload: an SQE, or data of a PDU (R271 to R273). -/
def Dev.storageIssue (d : Dev) : Option Dev :=
  let sqes := d.nvt.cmds.map (fun m => fun (_ : Unit) =>
    if m.sqeAsked ∨ m.legs.all (fun l => l.status.isSome) ∨ !d.mayIssue m.f then none
    else (d.modCmd m.ser (fun m => { m with sqeAsked := true })).hostRead1 m.f (m.sqeAddr / 64 * 64) 64 (.sqe m.ser))
  let data := (List.range 16).flatMap (fun c => (d.conn c).out.map (fun p => fun (_ : Unit) =>
    match d.cmdOf p.ser with
    | none => none
    | some m =>
      if p.data.length ≤ p.asked ∨ !d.mayIssue m.f then none
      else
        let o := p.off + p.asked
        let a := m.addr + o
        let k := min (p.data.length - p.asked) (d.mrrs m.f - a % d.mrrs m.f)
        let d := d.modConn c (fun n => { n with
          out := updWhere n.out (fun q => q.ser = p.ser && q.leg = p.leg && q.off = p.off && q.ttag = p.ttag)
            (fun q => { q with asked := q.asked + k }) })
        d.hostRead1 m.f a k (.sdata m.ser p.leg o)))
  firstSome (sqes ++ data)

/-- DMA_BURST_ISSUE: the read or the write engine issues for the first client that is ready: tick channels in their slot, internal
clients, linked-list channels in turn (R316, R325, R343, R347). -/
def execDmaBurstIssue (write : Bool) (s : State) : Host.Outcome State Fault Refusal :=
  s.run (fun d =>
    let drain := fun x => fun (_ : Unit) =>
      match d.xfer x with
      | some v =>
        let d2 := (d.chDrain x 4096).chAfter x
        if write ∧ !v.waiting.isEmpty ∧ d2 ≠ d then some d2 else none
      | none => none
    let ticks := ((List.range 32).filter (fun t => d.tchRunning t)).flatMap (fun t =>
      if d.is (.dma (.TCH_CFG_MODE t)) then
        (List.range 256).map (fun n => fun (_ : Unit) =>
          if !write ∧ d.is (.rng (.SQ_ASSIGN_VALID n)) ∧ d.sqTch n = some t then d.payIssue n else none)
      else [drain (96 + t), fun _ => d.chIssue (96 + t) (!write)])
    let rings := (List.range 256).map (fun n => fun (_ : Unit) =>
      if !write ∧ d.is (.rng (.SQ_ASSIGN_VALID n)) ∧ d.sqTch n = none then d.payIssue n else none)
    let lls := ((List.range 98).map (fun i => (d.dma.lastLl + 1 + i) % 98)).filter (fun c => c < 96)
    let turn := fun c (d : Dev) => ({ d with dma := { d.dma with lastLl := c } } : Dev)
    let lists := lls.flatMap (fun c => [drain c, fun _ => (d.chIssue c (!write)).map (turn c),
      fun _ => if write then none else (d.llFetch c).map (turn c)])
    (firstSome (ticks ++ rings ++ [fun _ => if write then none else d.storageIssue] ++ lists)).getD d)

/-! ### Flushes -/

/-- The flush read of channel `x`, when it is due (R327). -/
def Dev.chFlush (d : Dev) (x : Nat) : Option Dev :=
  match d.xfer x with
  | none => none
  | some v =>
    let s := v.desc
    let f := d.chF x
    if !d.is (.dma .CTRL_EN) ∨ (!isTch x ∧ d.llState x ≠ 1) ∨ v.bad.isSome ∨ v.moved ≠ s.len ∨ !v.bursts.isEmpty ∨ s.flush = 0 ∨
        v.flushAsked then none
    else
      let a := if s.len = 0 then s.dst else s.dst + s.len - 1
      let d' := d.modXfer x (fun v => { v with flushAsked := true })
      if s.dstSp = 0 then
        if !d.mayIssue f then none
        else if s.flush = 1 then d'.hostReadAs f (a / 4 * 4) 1 0 (.flush x)
        else d'.hostRead1 f (a / 64 * 64) 64 (.flush x)
      else
        let (rp, w, o) := modemAddr a
        if !d.rpUp rp then some (d'.brgEvent.chBad x 0x80 a)
        else match d.rpTag rp with
          | none => none
          | some t =>
            let (b, n) := if s.flush = 1 then (o / 4 * 4, 0) else (o / 64 * 64, 64)
            some ((d'.rpAsk rp { tag := t, client := .flush x, win := w, off := b, len := max n 1, wantOff := b
                                 wantLen := max n 1
                                 expiry := d.rpExpiry rp }).emit (.modemRead rp (d.winBase rp w + b) n t))

/-- The flush of a storage command that wrote host memory and whose legs have ended (R274, R328). -/
def Dev.storageFlush (d : Dev) (m : NvtCmd) : Option Dev :=
  if !m.wrote ∨ m.flushAsked ∨ m.legs.any (fun l => l.status.isNone) ∨ !d.mayIssue m.f then none
  else
    let a := m.addr + m.len - 1
    let d := d.modCmd m.ser (fun m => { m with flushAsked := true })
    if d.is (.dma .CTRL_INT_FLUSH) then d.hostRead1 m.f (a / 64 * 64) 64 (.sflush m.ser)
    else d.hostReadAs m.f (a / 4 * 4) 1 0 (.sflush m.ser)

/-- FLUSH_READ_ISSUE: the flush of the first client whose last write has left, in the order of R316 (R327, R328). -/
def execFlushReadIssue (s : State) : Host.Outcome State Fault Refusal :=
  s.run (fun d =>
    let ticks := ((List.range 32).filter (fun t => d.tchRunning t)).map (fun t => fun (_ : Unit) => d.chFlush (96 + t))
    let store := d.nvt.cmds.map (fun m => fun (_ : Unit) => d.storageFlush m)
    let lists := (List.range 96).map (fun c => fun (_ : Unit) => d.chFlush c)
    (firstSome (ticks ++ store ++ lists)).getD d)

/-! ### Requests that fail -/

/-- The tick channel of a ring in its slot ends its occurrence FAULT after its other work (R344). -/
def Dev.ringFailed (d : Dev) (n : Nat) : Dev :=
  match d.sqTch n with
  | some t => if d.tchRunning t then d.modTch t (fun c => { c with failed := true }) else d
  | none => d

/-- What the failure of a request (0x80 BAD_BUS, 0x81 BAD_TIMEOUT) does to its client (R273, R300, R323, R337, R425). -/
def Dev.reqFailed (d : Dev) (t : Tag) (code : Nat) : Dev :=
  match t.client with
  | .fetch n idx => if 256 ≤ n then d else (d.ringFailed n).entriesFailed n idx (t.len / 32)
  | .pay n ser _ => (d.ringFailed n).payFailed n ser
  | .desc c => if (d.ll c).reading then d.llHalt c code else d
  | .chan x _ => d.chBad x code (t.addr + t.got)
  | .flush x => d.chBad x code t.addr
  | .sqe ser => d.nvtUnsent ser 6
  | .sdata ser leg off => d.sdataArrived ser leg off (List.replicate t.len none) [] (some 6)
  | .sflush ser =>
    (d.modCmd ser (fun m => { m with legs := updWhere m.legs (fun l => l.status = some 0) (fun l => { l with status := some 6 }) })).sflushEnded ser
  | .modem rp tag _ => d.modemAnswer rp tag 1 [] false

/-- A tag leaves the tags in use. -/
def Dev.dropTag (d : Dev) (t : Tag) : Dev :=
  let d := d.vatFree t.lines
  { d with hep := { d.hep with tags := d.hep.tags.filter (fun g => !(g.tag = t.tag && g.f = t.f)) } }

/-- A request times out: logged, its transfer ended, its tag quarantined, the trigger presented (R392). -/
def Dev.timeoutTag (d : Dev) (t : Tag) : Dev :=
  let d := (d.ueError [aerOwner t.f] 14 true [4]).errCnt 6
  let d := d.writeOff (fun g => g.tag = t.tag && g.f = t.f) .timed
  d.reqFailed t 0x81

/-- Requests whose expiry has come (R391). -/
def Dev.tagTimers (d : Dev) : Dev :=
  (d.hep.tags.filter (fun t => t.st = .out && t.expiry ≤ d.now)).foldl (fun d t =>
    if d.hep.tags.any (fun g => g.tag = t.tag && g.f = t.f && g.st = .out) then d.timeoutTag t else d) d

/-- COMPLETION_TIMEOUT: the completion timer of the oldest outstanding request expires (R390, R392). -/
def execCompletionTimeout (s : State) : Host.Outcome State Fault Refusal :=
  s.run (fun d =>
    match d.hep.tags.find? (fun t => t.st = .out) with
    | none => d
    | some t => (d.elapse (t.expiry - d.now)).tagTimers.drainInb)

/-! ### Completions -/

/-- A request whose bytes have all arrived in its Vat lines goes to its client (R271, R298, R318, R324, R336, R425). -/
def Dev.reqDone (d : Dev) (t : Tag) : Dev :=
  match t.client with
  | .chan x off => d.chData x off t.len t.lines (t.addr % 64)
  | .flush x => ((d.vatFree t.lines).modXfer x (fun v => { v with flushed := true })).chAfter x
  | .sflush ser => (d.vatFree t.lines).sflushEnded ser
  | .sdata ser leg off =>
    let (bs, d) := d.readMarked (t.lines.map vatLine)
    let bs := (bs.drop (t.addr % 64)).take t.len
    let got := bs.map (fun b => if b.2 then none else some b.1)
    d.sdataArrived ser leg off got t.lines (if bs.any (·.2) then some 5 else none)
  | _ =>
    let (bs, d) := d.readMarked (t.lines.map vatLine)
    let bs := (bs.drop (t.addr % 64)).take t.len
    let d := d.vatFree t.lines
    match t.client with
    | .fetch n idx => if 256 ≤ n then d else
        let k := t.len / 32
        let d := if bs.any (·.2) then d.ringFailed n else d
        d.entriesArrived n idx bs k
    | .pay n ser off => d.payArrived n ser off bs
    | .desc c => if (d.ll c).reading then d.llArrive c bs else d
    | .sqe ser => if bs.any (·.2) then d.nvtUnsent ser 6 else d.sqeArrived ser (bs.map (·.1))
    | .modem rp tag _ => d.modemAnswer rp tag 0 (bs.map (·.1)) (bs.any (·.2))
    | _ => d

/-- A completion that disagrees with its request: the transfer ends BAD_BUS, the tag is quarantined (R394). -/
def Dev.malformedCpl (d : Dev) (t : Tag) : Dev :=
  let d := d.ueError [aerOwner t.f] 18 false []
  (d.writeOff (fun g => g.tag = t.tag && g.f = t.f) .malformed).reqFailed t 0x80

/-- A completion for a quarantined tag: discarded; its final piece releases the tag (R393). -/
def Dev.lateCpl (d : Dev) (t : Tag) (final : Bool) : Dev :=
  if !final then d
  else
    let d := d.dropTag t
    if t.st = .timed then (d.ueError [aerOwner t.f] 16 true []).errCnt 0 else d.errCnt 1

/-- Data accepted for a request: written to its place in the Vat, poisoned with EP (R322, R387). -/
def Dev.cplData (d : Dev) (t : Tag) (ep : Bool) (data : List Byte) : Dev :=
  let d := if ep then
      let d := (d.ueError [aerOwner t.f] 12 true [3]).errCnt 3
      if d.is (.cs (if 2 ≤ t.f then 0 else t.f) .CMD_PER) then d.wr (.cs t.f .STS_MDPE) 1 else d
    else d
  let d := d.putMarked (t.lines.map vatLine) (t.addr % 64 + t.got) (marked data ep)
  let d := d.count 0x40 t.f data.length
  let t := { t with got := t.got + data.length }
  if t.got < t.len then
    { d with hep := { d.hep with tags := updWhere d.hep.tags (fun g => g.tag = t.tag && g.f = t.f) (fun _ => t) } }
  else
    let d : Dev := { d with hep := { d.hep with tags := d.hep.tags.filter (fun g => !(g.tag = t.tag && g.f = t.f)) } }
    d.reqDone t

/-- COMPLETION_RECEIVED: a completion TLP for function `f` and `tag` arrives: its status (0 success, 1 UR, 2 CRS, 4 CA), EP, byte count,
lower address and data (R391, R393, R394). -/
def execCompletionReceived (tag : Nat) (f : Fin 50) (status : Fin 8) (ep : Bool) (count lower : Nat) (data : List Byte) (s : State) :
    Host.Outcome State Fault Refusal :=
  s.run (fun d =>
    if !d.is (.hep .LINK_STATUS_DL_UP) then d
    else
      let d := d.tagTimers.count 0x51 0 1
      match d.hep.tags.find? (fun t => t.tag = tag && t.f = f.val) with
      | none => (d.ueError [0, 1] 16 true []).errCnt 2
      | some t =>
        (if t.st ≠ .out then d.lateCpl t (status.val ≠ 0 || count ≤ data.length)
        else if status.val = 0 then
          if count ≠ t.len - t.got ∨ lower ≠ (t.addr + t.got) % 128 ∨ data = [] ∨ t.len - t.got < data.length then d.malformedCpl t
          else d.cplData t ep data
        else if status.val = 1 ∨ status.val = 4 then (d.dropTag t).reqFailed t 0x80
        else d.malformedCpl t).drainInb)

/-! ### In the slot -/

/-- Whether a ring of a tick channel has work it may do now (R343). -/
def Dev.ringWork (d : Dev) (n : Nat) : Bool :=
  let f := d.sqFunc n
  let q := d.sq n
  d.sqState n = 1 && d.mayIssue f &&
    ((d.fetching n = 0 && !d.safeRing n && d.fetchCount n ≠ 0) ||
      (match q.held with
        | h :: _ => h.len ≤ (q.ents.filter (fun e => e.fin.isNone)).foldl (fun k e => k + e.len) 0
        | [] => false) ||
      q.ents.any (fun e => e.fin.isNone && !e.live && d.sqKind n = 0 && e.asked < e.len))

/-- Whether a ring has requests outstanding. -/
def Dev.ringReads (d : Dev) (n : Nat) : Bool :=
  d.hep.tags.any (fun t => t.st = .out && (match t.client with | .fetch m _ => m = n | .pay m _ _ => m = n | _ => false))

/-- The rings a tick channel serves. -/
def Dev.tchRings (d : Dev) (t : Nat) : List Nat :=
  (List.range 256).filter (fun n => d.is (.rng (.SQ_ASSIGN_VALID n)) && d.sqTch n = some t)

/-- TCH_OCCURRENCE_END: the occurrence of tick channel `t` ends when it has nothing more to issue and its bursts have ended: DONE, or
FAULT when a ring entry failed in it; held work is counted (R343, R344, R347). -/
def execTchOccurrenceEnd (t : Fin 32) (s : State) : Host.Outcome State Fault Refusal :=
  s.run (fun d =>
    match d.tchOcc t with
    | none => d
    | some n =>
      let ring := d.is (.dma (.TCH_CFG_MODE t))
      let busy : Bool := if ring then (d.tchRings t).any (fun m => d.ringReads m || d.ringWork m)
        else match (d.tch t).x with
          | none => false
          | some v => !v.bursts.isEmpty || (v.flushAsked && !v.flushed) ||
              (d.is (.dma .CTRL_EN) && ((v.desc.srcSp ≠ 0 && v.desc.dstSp ≠ 0) || d.mayIssue (d.chF (96 + t))))
      if busy then d
      else
        let held : Bool := d.rd (.hep .CTN_STATUS_STATE) ≠ 0
        let d := if held then d.inc (.dma (.TCH_CNT2_HELD t)) else d
        let failed := (d.tch t).failed
        let d := d.modTch t (fun c => { c with failed := false })
        if failed then d.tchFault t else d.endOcc n 0)

/-- The outstanding reads of tick channel `t` are written off at a cut: a REG transfer that had any ends CUT; the written-off reads of rings
are issued again in the next occurrence (R345). -/
def Dev.tchCut (d : Dev) (t : Nat) : Dev :=
  let d := d.modTch t (fun c => { c with failed := false })
  if d.is (.dma (.TCH_CFG_MODE t)) then
    (d.tchRings t).foldl (fun d n =>
      if !d.ringReads n then d
      else
        let d := d.writeOff (fun g => match g.client with | .fetch m _ => m = n | .pay m _ _ => m = n | _ => false) .writtenOff
        d.modSq n (fun q => { q with
          fetchTo := d.rd (.rng (.SQ_INDEX_HEAD n))
          ents := updWhere q.ents (fun e => !e.live && e.fin.isNone && e.got < e.asked) (fun e => { e with asked := 0, got := 0 }) })) d
  else match (d.tch t).x with
    | none => d
    | some v => if v.bursts.isEmpty ∧ !(v.flushAsked && !v.flushed) then d else d.chBad (96 + t) 0x84 0

/-- BOUNDARY_FAB: the boundary pulse arrives in FAB: tick channels swap, then the TICK lines and the completion rings that coalesce by
tick take the event (R296, R330, R341, R349); a stopping boundary swaps nothing (R55). -/
def execBoundaryFab (s : State) : Host.Outcome State Fault Refusal :=
  s.run (fun d =>
    match d.tick.toFab with
    | [] => d
    | b :: bs =>
      let d : Dev := { d with tick := { d.tick with toFab := bs, fabTick := b.tick } }
      let d := if b.stopping then d else (List.range 32).foldl Dev.tchBoundary d
      let d := d.reqSource 3 (fun _ => true)
      (List.range 256).foldl (fun d c =>
        if d.is (.rng (.CQ_CTRL_COAL_TICK c)) ∧ d.is (.rng (.CQ_CTRL_IRQ_EN c)) ∧ 0 < d.cqSince.getD c 0 then d.cqIrq c else d) d)

/-- A function-level reset of `f` at the channels (R348). -/
def Dev.channelsReset (d : Dev) (f : Nat) : Dev :=
  let d := (List.range 96).foldl (fun d c =>
    if d.rd (.dma (.LL_CFG_FUNC c)) ≠ f then d
    else
      let ws := match (d.ll c).x with | some v => v.waiting.flatMap (·.lines) | none => []
      ((d.vatFree ws).modLl c (fun _ => {})).wrs [(.dma (.LL_STATUS_STATE c), 0), (.dma (.LL_STATUS_KICK_PEND c), 0)]) d
  (List.range 32).foldl (fun d t =>
    if d.rd (.dma (.TCH_CFG_FUNC t)) ≠ f ∨ d.is (.dma (.TCH_CFG_MODE t)) then d
    else
      let ws := match (d.tch t).x with | some v => v.waiting.flatMap (·.lines) | none => []
      (((d.vatFree ws).modTch t (fun _ => {})).tchEmpty t).wr (.dma (.TCH_SHCTRL_SHADOW_VALID t)) 0) d

end Sys2Proof.Machine
end

