-- ==== Sys2Proof/Machine/Bridge.lean ====
section
/-! DEFINITION.  The modem bridge: root ports, configuration access, apertures, downstream completions, the bridge queue,
modem-mastered requests, containment of a root port and the keepalive (R407 to R433). -/

namespace Sys2Proof.Machine

open Sys2Proof

/-- STATE of a root port: 0 RESET, 1 TRAINING, 2 UP, 3 CONTAINED (R408). -/
def Dev.rpState (d : Dev) (rp : Nat) : Nat := d.rd (.brg (.RP_STATUS_STATE rp))

/-! ### Link control -/

/-- RP_PERST_RELEASE: PERST_N is deasserted at the later of the write and 100 µs after REFCLK_EN last became 1; training begins
(R407, R408). -/
def execRpPerstRelease (rp : Fin 2) (s : State) : Host.Outcome State Fault Refusal :=
  s.run (fun d =>
    if !(d.rp rp).perstPend then d
    else
      let d := d.elapse ((d.rp rp).refclkAt + 100000 - d.now)
      let d := (d.modRp rp (fun r => { r with perstPend := false, perstN := true })).emit (.rpPerst rp true)
      if d.rpState rp = 3 then d else d.wr (.brg (.RP_STATUS_STATE rp)) 1)

/-- RP_LINK_UP: the data link layer of a root port comes up at a speed within MAX_SPEED (R407, R408, R428). -/
def execRpLinkUp (rp : Fin 2) (speed : Fin 4) (s : State) : Host.Outcome State Fault Refusal :=
  s.run (fun d =>
    if !(d.rp rp).perstN ∨ (d.rp rp).dlUp ∨ speed.val = 0 ∨ d.rd (.brg (.RP_CTRL_MAX_SPEED rp)) < speed.val then d
    else
      let d := (d.modRp rp (fun r => { r with dlUp := true })).wr (.brg (.RP_STATUS_SPEED rp)) speed
      if d.rpState rp = 1 then (d.wr (.brg (.RP_STATUS_STATE rp)) 2).modRp rp (fun r => { r with fabUp := true }) else d)

/-- What a failed downstream request does to its requester: a read returns all ones, a transfer ends with `code` (R409, R423). -/
def Dev.rpFail (d : Dev) (rp : Nat) (t : RpTag) (code : Nat) : Dev :=
  match t.client with
  | .aperture => d.reply (2 ^ (8 * t.wantLen) - 1) t.wantLen 0 false
  | .cfgRead =>
    (d.wrs [(.brg (.RP_STATUS_CFG_BUSY rp), 0), (.brg (.RP_STATUS_CFG_ERR rp), 1)]).reply 0xFFFFFFFF 4 0 false
  | .cfgWrite => d.wr (.brg (.RP_STATUS_CFG_BUSY rp)) 0
  | .chan x off => d.chBad x code ((match d.xfer x with | some v => v.desc.src | none => 0) + off)
  | .flush x => d.chBad x code (match d.xfer x with | some v => v.desc.dst + (v.desc.len - 1) | none => 0)
  | .prefetch => d

/-- A downstream tag leaves the tags in use. -/
def Dev.rpDrop (d : Dev) (rp : Nat) (t : RpTag) : Dev := d.modRp rp (fun r => { r with tags := r.tags.filter (fun g => g.tag ≠ t.tag) })

/-- A downstream request ends with an error: its Vat lines and its tag are released. -/
def Dev.rpEndBad (d : Dev) (rp : Nat) (t : RpTag) (code : Nat) : Dev := ((d.vatFree t.lines).rpDrop rp t).rpFail rp t code

/-- RP_LINK_DOWN: the data link layer of a root port goes down; a surprise removal ends every outstanding read and releases its tags
(R408, R421, R422, R426, R428). -/
def execRpLinkDown (rp : Fin 2) (s : State) : Host.Outcome State Fault Refusal :=
  s.run (fun d =>
    if !(d.rp rp).dlUp then d
    else
      let d := (d.modRp rp (fun r => { r with dlUp := false, pf := [], tags := r.tags.filter (fun t => !t.quarantined) })).wr
        (.brg (.RP_STATUS_SPEED rp)) 0
      if d.is (.brg (.RP_CTRL_PERST rp)) then d
      else
        let d := d.rpPresent rp [1]
        (d.rp rp).tags.foldl (fun d t =>
          if (d.rp rp).tags.any (fun g => g.tag = t.tag && !g.quarantined) then d.rpEndBad rp t 0x80
          else d.rpDrop rp t) d)

/-- RP_LINK_ERROR: a Malformed TLP, Data Link Protocol Error or Flow Control Protocol Error on the link of a root port (R426). -/
def execRpLinkError (rp : Fin 2) (s : State) : Host.Outcome State Fault Refusal :=
  s.run (fun d => if (d.rp rp).dlUp then d.rpPresent rp [3] else d)

/-- Whether the reference clock of a root port is driven: REFCLK_EN is 1 and, under CLKREQ_EN, the modem holds CLKREQ_N low or the link
is outside L1.2 (R407). -/
def Dev.refclkOn (d : Dev) (rp : Nat) : Bool :=
  let r := d.rp rp
  d.is (.brg (.RP_CTRL_REFCLK_EN rp)) &&
    (!d.is (.brg (.RP_CTRL_CLKREQ_EN rp)) || r.clkreqLow || (r.dlUp && !d.is (.brg (.RP_CTRL_ASPM_L1 rp))))

/-- RP_CLKREQ_N_CHANGE: a modem drives CLKREQ_N low or releases it (R407). -/
def execRpClkreqNChange (rp : Fin 2) (low : Bool) (s : State) : Host.Outcome State Fault Refusal :=
  s.run (fun d =>
    let on := d.refclkOn rp
    let d := d.modRp rp (fun r => { r with clkreqLow := low })
    if d.refclkOn rp = on then d else d.emit (.rpRefclk rp (d.refclkOn rp)))

/-! ### Accesses of the host -/

/-- An aperture or configuration access served, or none when it must wait: an aperture access for the end of the host's containment, a read
for a tag (R409, R412, R416, R419, R423, R433). -/
def Dev.apTry (d : Dev) (e : ApWait) : Option Dev :=
  let rp := e.rp
  if e.cfg then
    if !d.rpUp rp then
      some (if e.write then (if d.rpState rp = 3 then d.rpCnt rp 7 else d.brgEvent).wr (.brg (.RP_STATUS_CFG_BUSY rp)) 0
        else d.brgEvent.rpFail rp { tag := 0, client := .cfgRead, win := 0, off := 0, len := 4, wantOff := 0, wantLen := 4 } 0x80)
    else match d.rpTag rp with
      | none => none
      | some t =>
        some ((d.rpAsk rp { tag := t, client := if e.write then .cfgWrite else .cfgRead, win := 0, off := 0, len := 4, wantOff := 0
                            wantLen := 4, expiry := d.rpExpiry rp }).emit (.modemCfg rp e.write e.win e.off e.be (ofLe e.bytes)) |>.count 0x80 rp 1)
  else if d.frozen then none
  else
    let w := e.win
    let o := d.rd (.brg (.WIN_APERTURE_OFFSET rp w)) * 8192 + e.off
    if !d.winOk rp w o e.len then
      let d := d.inc (.sys .ACCESS_ERR_HOLE_CNT)
      some (if e.write then d else d.reply 0 e.len 0 false)
    else if e.write then some (d.modemWriteBus rp (d.winBase rp w + o) (clean e.bytes))
    else if !d.rpUp rp then some (d.brgEvent.reply (2 ^ (8 * e.len) - 1) e.len 0 false)
    else match d.pfServe rp w o e.len with
      | some (bs, d) => some (d.reply (ofLe (bs.map (·.1))) e.len 0 (bs.any (·.2)))
      | none =>
        let (b, f) := d.fetchRange rp w o e.len
        d.rpReads rp w o e.len none (fun _ => .aperture) (rpPieces (d.winBase rp w) 256 b f)

/-- Accesses served in the order in which they came; one that waits holds back the later ones of its root port (R416). -/
def Dev.apDrainList (d : Dev) : List Nat → List ApWait → Dev
  | _, [] => d
  | stuck, e :: es =>
    let keep : Dev := { d with apWait := d.apWait ++ [e] }
    if stuck.contains e.rp then keep.apDrainList stuck es
    else match d.apTry e with
      | some d => d.apDrainList stuck es
      | none => keep.apDrainList (e.rp :: stuck) es

/-- The waiting accesses served as far as they may be. -/
def Dev.apDrain (d : Dev) : Dev := ({ d with apWait := [] } : Dev).apDrainList [] d.apWait

/-- A new access joins behind those that wait. -/
def Dev.apAccess (d : Dev) (e : ApWait) : Dev := ({ d with apWait := d.apWait ++ [e] } : Dev).apDrain

/-- RP_PERST_WRITE: a write of BRG_RP_CTRL.PERST (R407, R408); what waits for the port is answered (R423). -/
def execRpPerstWrite (rp : Fin 2) (value : Bool) (s : State) : Host.Outcome State Fault Refusal :=
  s.host (fun d =>
    let d := d.wr (.brg (.RP_CTRL_PERST rp)) (b2n value)
    if value then
      let d := (d.modRp rp (fun r => { r with perstPend := false, perstN := false, fabUp := false, pf := [] })).emit (.rpPerst rp false)
      (if d.rpState rp = 3 then d else d.wr (.brg (.RP_STATUS_STATE rp)) 0).apDrain
    else if (d.rp rp).perstN then d
    else d.modRp rp (fun r => { r with perstPend := true }))

/-- A configuration access while another is in progress is refused (R409). -/
def Dev.cfgAccess (d : Dev) (rp : Nat) (write : Bool) (bytes : List Byte) : Dev :=
  if d.is (.brg (.RP_STATUS_CFG_BUSY rp)) then
    let d := d.rpCnt rp 0
    if write then d else (d.wr (.brg (.RP_STATUS_CFG_ERR rp)) 1).reply 0xFFFFFFFF 4 0 false
  else
    let be := if write then d.rd (.brg (.RP_CFG_ADDR_BE rp)) else 15
    (d.wr (.brg (.RP_STATUS_CFG_BUSY rp)) 1).apAccess
      { rp := rp, cfg := true, win := d.rd (.brg (.RP_CFG_ADDR_FN rp)), off := d.rd (.brg (.RP_CFG_ADDR_REG rp)), be := be
        write := write, bytes := bytes, len := 4 }

/-- RP_CFG_READ: a read of BRG_RP_CFG_DATA (R409). -/
def execRpCfgRead (rp : Fin 2) (s : State) : Host.Outcome State Fault Refusal := s.host (fun d => d.cfgAccess rp false [])

/-- RP_CFG_WRITE: a write of BRG_RP_CFG_DATA (R409). -/
def execRpCfgWrite (rp : Fin 2) (data : BitVec 32) (s : State) : Host.Outcome State Fault Refusal :=
  s.host (fun d => d.cfgAccess rp true (leBytes 4 data.toNat))

/-- Whether an aperture access is a naturally aligned one of 4 or 8 bytes (R412). -/
def apAligned (n : Nat) (wide : Bool) : Bool := n % (if wide then 8 else 4) = 0

/-- APERTURE_READ: a host read of 4 or 8 bytes at byte `n` of the aperture of window `w`; not naturally aligned it returns the addressed
bytes (R17, R412). -/
def execApertureRead (rp : Fin 2) (w : Fin 8) (n : Fin 8192) (wide : Bool) (s : State) : Host.Outcome State Fault Refusal :=
  s.host (fun d =>
    let k := if wide then 8 else 4
    d.apAccess { rp := rp, win := w, off := n, write := false, bytes := [], len := k })

/-- APERTURE_WRITE: a host write of 4 or 8 bytes at byte `n` of the aperture of window `w` (R412); one not naturally aligned is discarded
(R17). -/
def execApertureWrite (rp : Fin 2) (w : Fin 8) (n : Fin 8192) (wide : Bool) (value : BitVec 64) (s : State) :
    Host.Outcome State Fault Refusal :=
  s.host (fun d =>
    let k := if wide then 8 else 4
    if !apAligned n wide then d
    else d.apAccess { rp := rp, win := w, off := n, write := true, bytes := leBytes k value.toNat, len := k })

/-! ### Downstream completions -/

/-- A downstream request times out: counted and recorded, its tag quarantined, the trigger presented (R422, R423). -/
def Dev.rpTimeout (d : Dev) (rp : Nat) (t : RpTag) : Dev :=
  let d := (d.rpErr rp 5).vatFree t.lines
  let d := d.modRp rp (fun r => { r with
    tags := updWhere r.tags (fun g => g.tag = t.tag) (fun g => { g with quarantined := true, lines := [], client := .prefetch }) })
  (d.rpPresent rp [4]).rpFail rp t 0x81

/-- The downstream requests of a root port whose expiry has come (R391, R422). -/
def Dev.rpTimers (d : Dev) (rp : Nat) : Dev :=
  ((d.rp rp).tags.filter (fun t => !t.quarantined && t.expiry ≤ d.now)).foldl (fun d t =>
    if (d.rp rp).tags.any (fun g => g.tag = t.tag && !g.quarantined) then d.rpTimeout rp t else d) d

/-- RP_COMPLETION_TIMEOUT: the timer of the oldest downstream request of a root port expires (R422). -/
def execRpCompletionTimeout (rp : Fin 2) (s : State) : Host.Outcome State Fault Refusal :=
  s.run (fun d =>
    match (d.rp rp).tags.find? (fun t => !t.quarantined) with
    | none => d
    | some t => ((d.elapse (t.expiry - d.now)).rpTimers rp).apDrain)

/-- The data of a downstream read has arrived: prefetched lines are kept, the requester is served (R318, R421, R423). -/
def Dev.rpDone (d : Dev) (rp : Nat) (t : RpTag) : Dev :=
  let d := (d.rpDrop rp t).pfKeep rp t
  let want := (t.got.drop (t.wantOff - t.off)).take t.wantLen
  match t.client with
  | .aperture => d.reply (ofLe (want.map (·.1))) t.wantLen 0 (want.any (·.2))
  | .chan x off =>
    let d := d.putMarked (t.lines.map vatLine) (t.wantOff % 64) want
    d.chData x off t.wantLen t.lines (t.wantOff % 64)
  | .flush x => ((d.vatFree t.lines).modXfer x (fun v => { v with flushed := true })).chAfter x
  | _ => d.vatFree t.lines

/-- RP_COMPLETION_RX: a completion of a downstream memory read arrives: its tag, status, EP, byte count and data (R391, R422, R423,
R426). -/
def execRpCompletionRx (rp : Fin 2) (tag : Fin 32) (status : Fin 8) (ep : Bool) (count : Nat) (data : List Byte) (s : State) :
    Host.Outcome State Fault Refusal :=
  s.run (fun d =>
    if !(d.rp rp).dlUp then d
    else
      let d := d.rpTimers rp
      let d := if ep then d.rpPresent rp [5] else d
      match (d.rp rp).tags.find? (fun t => t.tag = tag.val) with
      | none => d
      | some t =>
        if t.quarantined then
          if status.val ≠ 0 ∨ count ≤ data.length then ((d.rpDrop rp t).rpCnt rp 3).apDrain else d
        else match t.client with
          | .cfgRead => d
          | .cfgWrite => d
          | _ =>
            let left := t.len - t.got.length
            let bad : Bool := status.val = 0 && (count ≠ left || data = [] || left < data.length)
            if status.val ≠ 0 ∨ bad then
              let d := if bad then d.rpPresent rp [3] else d
              ((d.rpErr rp 4).rpEndBad rp t 0x80).apDrain
            else
              let t := { t with got := t.got ++ marked data ep }
              if t.got.length < t.len then d.modRp rp (fun r => { r with tags := updWhere r.tags (fun g => g.tag = t.tag) (fun _ => t) })
              else (d.rpDone rp t).apDrain)

/-- RP_CFG_COMPLETION: the completion of the configuration request of a root port arrives (R409, R422, R423). -/
def execRpCfgCompletion (rp : Fin 2) (status : Fin 8) (data : BitVec 32) (s : State) : Host.Outcome State Fault Refusal :=
  s.run (fun d =>
    if !(d.rp rp).dlUp then d
    else
      let d := d.rpTimers rp
      match (d.rp rp).tags.find? (fun t => !t.quarantined && (t.client = .cfgRead || t.client = .cfgWrite)) with
      | none => d
      | some t =>
        if status.val ≠ 0 then ((d.rpErr rp 4).rpEndBad rp t 0x80).apDrain
        else
          let d := (d.rpDrop rp t).wr (.brg (.RP_STATUS_CFG_BUSY rp)) 0
          (if t.client = .cfgRead then d.reply data.toNat 4 0 false else d).apDrain)

/-! ### The bridge queue -/

/-- BRIDGE_FRAME_WRITE: the write engine writes the oldest frame of a bridge queue to its modem, then its doorbell; a frame that holds a
poisoned line has none (R414, R415, R418). -/
def execBridgeFrameWrite (rp : Fin 2) (s : State) : Host.Outcome State Fault Refusal :=
  s.run (fun d =>
    match (d.rp rp).queue with
    | [] => d
    | e :: es =>
      let g := e.frame
      if !d.rpUp rp ∨ !d.vatOk e.f (linesIn (g.start % 64) g.len) then d
      else
        let (bs, d) := d.readMarked g.lines
        let bs := (bs.drop g.start).take g.len
        let d := (d.modRp rp (fun r => { r with queue := es })).modemWriteBus rp e.addr bs
        let d := if bs.any (·.2) then d.rpCnt rp 2
          else match e.bell with
            | some a => d.modemWriteBus rp a (clean (leBytes 4 g.len))
            | none => d
        d.dropFrame g)

/-- PREFETCH_LINE_EXPIRY: the oldest prefetched line of a root port is discarded 10 µs after it was filled (R421). -/
def execPrefetchLineExpiry (rp : Fin 2) (s : State) : Host.Outcome State Fault Refusal :=
  s.run (fun d =>
    match (d.rp rp).pf with
    | [] => d
    | x :: xs =>
      let at_ := xs.foldl (fun m y => min m y.filledAt) x.filledAt + 10000
      let d := d.elapse (at_ - d.now)
      d.modRp rp (fun r => { r with pf := r.pf.filter (fun y => d.now < y.filledAt + 10000) }))

/-! ### Requests of the modems -/

/-- The inbound window that decides a request: the lowest enabled one that holds it (R424). -/
def Dev.inbWindow (d : Dev) (rp addr len : Nat) : Option Nat :=
  (List.range 4).find? (fun i =>
    let b := d.rd (.brg (.INB_BASE_ADDR rp i)) * 4096
    d.is (.brg (.INB_CTRL_EN rp i)) && b ≤ addr && addr + len ≤ b + 2 ^ d.rd (.brg (.INB_CTRL_LOG2SIZE rp i)))

/-- A request outside every inbound window (R424). -/
def Dev.inbReject (d : Dev) (rp : Nat) (write : Bool) (tag : Nat) : Dev :=
  let d := d.rpCnt rp 6
  if write then d else d.modemAnswer rp tag 1 [] false

/-- A bit of BRG_RP_MSI_PEND is set; a change raises the bridge event (R424). -/
def Dev.modemMsi (d : Dev) (rp i : Nat) : Dev :=
  if bitAt (d.rd (.brg (.RP_MSI_PEND_PEND rp))) i then d else (d.setFldBit (.brg (.RP_MSI_PEND_PEND rp)) i).brgEvent

/-- A request to a HOST window: forwarded; or it waits, a write in Vat lines of its function, while the quota allows (R424, R425). -/
def Dev.inbForward (d : Dev) (rp : Nat) (q : Inb) : Dev :=
  let behind := (d.rp rp).inb.any (fun x => x.f = q.f)
  match (if behind then none else d.inbIssue rp q) with
  | some d => d
  | none =>
    if q.write then
      match d.vatTake q.f (linesIn q.addr q.len) with
      | none => d
      | some (ls, d) =>
        let d := d.putMarked (ls.map vatLine) (q.addr % 64) q.bytes
        d.modRp rp (fun r => { r with inb := r.inb ++ [{ q with lines := ls, bytes := [] }] })
    else d.modRp rp (fun r => { r with inb := r.inb ++ [q] })

/-- A memory request of the modem of a root port (R424, R425, R427). -/
def Dev.modemRequest (d : Dev) (rp : Nat) (write ep : Bool) (addr tag len : Nat) (bytes : List Byte) : Dev :=
  if !(d.rp rp).dlUp then d
  else
    let d := if ep then d.rpPresent rp [5] else d
    let len := if write then bytes.length else len
    if d.rpState rp = 3 ∧ !(d.rp rp).ctnPend then d.inbReject rp write tag
    else match d.inbWindow rp addr len with
      | none => d.inbReject rp write tag
      | some i =>
        if d.is (.brg (.INB_CTRL_KIND rp i)) then
          if write ∧ len = 4 ∧ !ep then d.modemMsi rp (leAt bytes 0 4 % 32) else d.inbReject rp write tag
        else
          let a := d.rd (.brg (.INB_HOST_ADDR_ADDR rp i)) * 4096 + (addr - d.rd (.brg (.INB_BASE_ADDR rp i)) * 4096)
          d.inbForward rp { f := d.rd (.brg (.INB_CTRL_FUNC rp i)), write := write, addr := a, tag := tag, len := len, bytes := marked bytes ep }

/-- MODEM_INBOUND_REQUEST: a memory read or write of a modem (R424). -/
def execModemInboundRequest (rp : Fin 2) (write ep : Bool) (addr : BitVec 64) (tag len : Nat) (bytes : List Byte) (s : State) :
    Host.Outcome State Fault Refusal :=
  s.run (fun d => d.modemRequest rp write ep addr.toNat tag len bytes)

/-- MODEM_MSI_WRITE: a 4-byte write of a modem (R424). -/
def execModemMsiWrite (rp : Fin 2) (addr : BitVec 64) (data : BitVec 32) (s : State) : Host.Outcome State Fault Refusal :=
  s.run (fun d => d.modemRequest rp true false addr.toNat 0 4 (leBytes 4 data.toNat))

/-- MODEM_INTX_MESSAGE: Assert_INTx or Deassert_INTx of a modem (R424). -/
def execModemIntxMessage (rp : Fin 2) (assert : Bool) (s : State) : Host.Outcome State Fault Refusal :=
  s.run (fun d =>
    if !(d.rp rp).dlUp ∨ d.is (.brg (.RP_STATUS_INTX rp)) = assert then d
    else (d.wr (.brg (.RP_STATUS_INTX rp)) (b2n assert)).brgEvent)

/-- MODEM_ERR_MESSAGE: ERR_COR (0), ERR_NONFATAL (1) or ERR_FATAL (2) of a modem (R426). -/
def execModemErrMessage (rp : Fin 2) (kind : Fin 3) (s : State) : Host.Outcome State Fault Refusal :=
  s.run (fun d => if (d.rp rp).dlUp ∧ kind.val = 2 then d.rpPresent rp [2] else d)

/-- RP_VENDOR_DEFINED_MESSAGE: discarded and counted (R424). -/
def execRpVendorDefinedMessage (rp : Fin 2) (s : State) : Host.Outcome State Fault Refusal :=
  s.run (fun d => if (d.rp rp).dlUp then d.rpCnt rp 9 else d)

/-! ### Containment -/

/-- RP_CTN_FREEZE: 1 written to BRG_RP_CTN.FREEZE (R426). -/
def execRpCtnFreeze (rp : Fin 2) (s : State) : Host.Outcome State Fault Refusal := s.host (fun d => d.rpPresent rp [6])

/-- RP_CONTAINMENT_ARRIVAL: the containment of a root port arrives in FAB: its bridge queue is discarded and counted, its prefetched lines
dropped, CTN_CHG set (R421, R427). -/
def execRpContainmentArrival (rp : Fin 2) (s : State) : Host.Outcome State Fault Refusal :=
  s.run (fun d =>
    if !(d.rp rp).ctnPend then d
    else
      let q := (d.rp rp).queue
      let d := (q.map (·.frame)).foldl Dev.dropFrame d
      let d := (d.modRp rp (fun r => { r with ctnPend := false, fabUp := false, queue := [], pf := [] })).incBy
        (.brg (.RP_CNT_COUNT rp 7)) q.length
      (d.wr (.brg (.RP_STATUS_CTN_CHG rp)) 1).brgEvent.apDrain)

/-- RP_CTN_RELEASE: a write of BRG_RP_CTN_RELEASE with GO and SEQ (R429). -/
def execRpCtnRelease (rp : Fin 2) (go : Bool) (seq : BitVec 16) (s : State) : Host.Outcome State Fault Refusal :=
  s.host (fun d =>
    if !go then d
    else
      let r := d.rp rp
      let code := if d.rpState rp ≠ 3 then 1
        else if seq.toNat ≠ d.rd (.brg (.RP_CTN_STATUS_SEQ rp)) then 2
        else if r.dlUp ∧ r.tags.any (·.quarantined) then 3
        else 0
      let d := d.wr (.brg (.RP_CTN_STATUS_RESULT rp)) code
      if code ≠ 0 then d
      else
        let st := if r.dlUp then 2 else if d.is (.brg (.RP_CTRL_PERST rp)) then 0 else 1
        let d := (d.wr (.brg (.RP_STATUS_STATE rp)) st).modRp rp (fun r => { r with ctnPend := false, fabUp := st = 2 })
        (d.wr (.brg (.RP_STATUS_CTN_CHG rp)) 1).brgEvent)

/-! ### The keepalive -/

/-- KEEPALIVE_EXPIRY: at a boundary in FAB at which LIMIT ticks have passed since LAST, the path is dead (R431). -/
def execKeepaliveExpiry (rp : Fin 2) (s : State) : Host.Outcome State Fault Refusal :=
  s.run (fun d =>
    let k := d.tick.fabTick
    let limit := d.rd (.brg (.KA_LIMIT_LIMIT rp))
    if limit = 0 ∨ d.is (.brg (.KA_STATUS_PATH_DEAD rp)) ∨ k - (d.rp rp).kaLast < limit then d
    else ((d.wrs [(.brg (.KA_STATUS_PATH_DEAD rp), 1), (.brg (.KA_STATUS_EXP_TICK rp), k % 65536)]).rpCnt rp 8).brgEvent)

/-- KEEPALIVE_REARM: 1 written to BRG_KA_CFG.REARM (R432). -/
def execKeepaliveRearm (rp : Fin 2) (s : State) : Host.Outcome State Fault Refusal :=
  s.host (fun d => (d.kaSet rp d.tick.fabTick).wr (.brg (.KA_STATUS_PATH_DEAD rp)) 0)

/-- KEEPALIVE_LIMIT_WRITE: a write of BRG_KA_LIMIT.LIMIT; 0 disables the watchdog and clears PATH_DEAD (R432). -/
def execKeepaliveLimitWrite (rp : Fin 2) (limit : BitVec 16) (s : State) : Host.Outcome State Fault Refusal :=
  s.host (fun d =>
    let d := d.wr (.brg (.KA_LIMIT_LIMIT rp)) limit.toNat
    if limit.toNat = 0 then d.wr (.brg (.KA_STATUS_PATH_DEAD rp)) 0 else d)

end Sys2Proof.Machine
end

