-- ==== Sys2Proof/Machine/Timebase.lean ====
section
/-! DEFINITION.  The timebase and its discipline: reads and steps, PTP records, PPS, time of day, the loop (R434 to R450). -/

namespace Sys2Proof.Machine

open Sys2Proof

/-- A TIM event: HEP event source 11 when TIM_CTRL.IRQ_EN is 1. -/
def Dev.timEvent (d : Dev) (status : TimF) : Dev := d.event (.tim status) (.tim .CTRL_IRQ_EN) 11

/-- A TIM_CNT counter increased. -/
def Dev.timCnt (d : Dev) (i : Nat) : Dev := d.inc (.tim (.CNT_COUNT i))

/-! ### Reading and stepping -/

/-- The timebase at the last TIME clock edge: each cycle adds 4 ns (R434). -/
def Dev.tbEdge (d : Dev) : Nat := d.tb - (((d.tb : Int) - d.tim.steps) % 4).toNat

/-- The first timebase value at a TIME clock edge that is not below `x`. -/
def Dev.edgeFrom (d : Dev) (x : Nat) : Nat := x + ((d.tim.steps - (x : Int)) % 4).toNat

/-- The timebase stepped by `n` ns; a step below 0 is refused (R436).  The ports convert with the old anchor until ANCHOR_PUBLISH (R438). -/
def Dev.stepTb (d : Dev) (n : Int) : Dev :=
  if (d.tb : Int) + n < 0 then d.timCnt 1
  else
    let t : Tim := { d.tim with steps := d.tim.steps + n, skew := d.tim.skew + n }
    ((({ d with tb := ((d.tb : Int) + n).toNat, tim := t } : Dev).timEvent .STATUS_STEPPED).timCnt 0)

/-- TIMEBASE_STEP: 1 written to TIM_STEP_CTRL.GO (R436). -/
def execTimebaseStep (s : State) : Host.Outcome State Fault Refusal :=
  s.host (fun d => d.stepTb (toSigned 16 (d.rd (.tim .STEP_SEC_SEC)) * 1000000000 + toSigned 32 (d.rd (.tim .STEP_NS_NS))))

/-- The limit of FREQ_ADJ and of the integrator: 200,000 ppb in units of 2⁻⁸ ppb (R435, R448). -/
def freqLimit : Int := 51200000

/-- A value clamped to ±200,000 ppb. -/
def clampFreq (x : Int) : Int := max (-freqLimit) (min freqLimit x)

/-- FREQ_ADJ set to a clamped value (R435). -/
def Dev.setFreq (d : Dev) (x : Int) : Dev := d.wr (.tim .FREQ_ADJ_ADJ) (ofSigned 32 (clampFreq x))

/-- FREQ_ADJ_WRITE: clamped as it is stored; refused unless the source is LOCAL (R435). -/
def execFreqAdjWrite (value : BitVec 32) (s : State) : Host.Outcome State Fault Refusal :=
  s.host (fun d => if d.rd (.tck .CTRL_SRC) ≠ 0 then d.timCnt 9 else d.setFreq value.toInt)

/-- A 64-bit read of TIM_NOW_SEC: the seconds, NS latched (R437). -/
def Dev.tbRead (d : Dev) : Nat × Dev := (d.tbEdge / 1000000000 % 2 ^ 48, d.wr (.tim .NOW_NS_NS) (d.tbEdge % 1000000000))

/-- The answer of a 64-bit read. -/
def Dev.reply64 (x : Nat × Dev) : Dev := x.2.reply x.1 8 0 false

/-- TIMEBASE_READ (R437). -/
def execTimebaseRead (s : State) : Host.Outcome State Fault Refusal := s.host (fun d => Dev.reply64 d.tbRead)

/-- ANCHOR_PUBLISH: the anchor reaches the ports (R438). -/
def execAnchorPublish (s : State) : Host.Outcome State Fault Refusal :=
  s.run (fun d => { d with tim := { d.tim with skew := 0 } })

/-! ### Timestamp records -/

/-- A 64-bit read of RXTS_POP, or of TXTS_POP when `tx`: a record is popped and its timestamp latched; an empty FIFO answers 0 (R441). -/
def Dev.tsPop (d : Dev) (p : Nat) (tx : Bool) : Nat × Dev :=
  match (if tx then (d.port p).txTs else (d.port p).rxTs) with
  | [] => (0, d)
  | r :: rs =>
    if tx then
      (r.word, (d.modPort p (fun x => { x with txTs := rs })).wrs [(.tim (.TXTS_SEC_SEC p), r.sec), (.tim (.TXTS_NS_NS p), r.ns),
        (.tim (.TXTS_NS_HALF p), b2n r.half)])
    else
      (r.word, (d.modPort p (fun x => { x with rxTs := rs })).wrs [(.tim (.RXTS_SEC_SEC p), r.sec), (.tim (.RXTS_NS_NS p), r.ns),
        (.tim (.RXTS_NS_HALF p), b2n r.half)])

/-- RX_TS_POP: a 64-bit read of RXTS_POP (R441). -/
def execRxTsPop (p : Fin 4) (s : State) : Host.Outcome State Fault Refusal := s.host (fun d => Dev.reply64 (d.tsPop p false))

/-- TX_TS_POP: a 64-bit read of TXTS_POP (R441). -/
def execTxTsPop (p : Fin 4) (s : State) : Host.Outcome State Fault Refusal := s.host (fun d => Dev.reply64 (d.tsPop p true))

/-! ### The discipline loop -/

/-- The quotient of signed `n` by a positive `m`, rounded to the nearest; a tie goes where a free value says (R448, assumption 4). -/
def Dev.roundDiv (d : Dev) (n : Int) (m : Nat) : Int × Dev :=
  let q := n / (m : Int)
  let r := (n % (m : Int)).toNat
  if 2 * r < m then (q, d)
  else if m < 2 * r then (q + 1, d)
  else
    let (v, d) := d.fresh
    (q + (v % 2 : Nat), d)

/-- The state of the loop (R449). -/
def Dev.loopState (d : Dev) : Nat := d.rd (.tim .STATUS_STATE)

/-- The update of the state by a sample `e` in half nanoseconds (R449). -/
def Dev.loopUpdate (d : Dev) (e : Int) : Dev :=
  let lock := d.rd (.tim .LOCK_LOCK_NS)
  let run := if e.natAbs ≤ 2 * lock then d.tim.run + 1 else 0
  let d : Dev := { d with tim := { d.tim with run := run, sampleAt := d.now } }
  if d.loopState = 1 then (if 16 * lock < e.natAbs then d.setSrcState 0 else d)
  else if d.rd (.tim .LOCK_LOCK_CNT) ≤ run then d.setSrcState 1 else d

/-- A phase sample `e` in half nanoseconds (R448); with `hold` the state stays HOLDOVER (R450). -/
def Dev.sample (d : Dev) (e : Int) (hold : Bool) : Dev :=
  let d := (d.timCnt 6).wr (.tim .LAST_E_E) (ofSigned 32 e)
  let d :=
    if d.loopState ≠ 1 ∧ d.is (.tim .CTRL_STEP_EN) ∧ 2 * d.rd (.tim .STEP_THR_NS) ≤ e.natAbs then
      let (n, d) := d.roundDiv (-e) 2
      d.stepTb n
    else
      let (x, d) := d.roundDiv (toSigned 32 (d.rd (.tim .INTEG_I)) * 2 ^ d.rd (.tim .LOOP_KI_SHIFT) - e * 128) (2 ^ d.rd (.tim .LOOP_KI_SHIFT))
      let i := clampFreq x
      let d := d.wr (.tim .INTEG_I) (ofSigned 32 i)
      let (y, d) := d.roundDiv (i * 2 ^ d.rd (.tim .LOOP_KP_SHIFT) - e * 128) (2 ^ d.rd (.tim .LOOP_KP_SHIFT))
      d.setFreq y
  if hold then d else d.loopUpdate e

/-- PTP_SAMPLE_WRITE: a sample in half nanoseconds, discarded unless the source is PTP; it ends PPS steering (R447, R450). -/
def execPtpSampleWrite (e : BitVec 32) (s : State) : Host.Outcome State Fault Refusal :=
  s.host (fun d =>
    if d.rd (.tck .CTRL_SRC) ≠ 1 then d.timCnt 7
    else ({ d with tim := { d.tim with steer := false } } : Dev).sample e.toInt false)

/-- HOLDOVER_ENTRY: no sample has arrived for LOSS × 100 ms (R449, R450). -/
def execHoldoverEntry (s : State) : Host.Outcome State Fault Refusal :=
  s.runTim (fun d =>
    if d.loopState ≠ 1 then d
    else
      let d := d.elapse (d.tim.sampleAt + d.rd (.tim .LOCK_LOSS) * 100000000 - d.now)
      let d := (d.setSrcState 2).setFreq (toSigned 32 (d.rd (.tim .INTEG_I)))
      { d with tim := { d.tim with run := 0, steer := true } })

/-! ### PPS -/

/-- A valid PPS_IN edge with its stamp in half nanoseconds: captured, and a sample where R447 or R450 makes it one. -/
def Dev.ppsValid (d : Dev) (stamp : Nat) : Dev :=
  let sec := (stamp + 1000000000) / 2000000000
  let e : Int := (stamp : Int) - (sec : Int) * 2000000000
  let d := d.wrs [(.tim .PPS_CAP_SEC_SEC, stamp / 2000000000), (.tim .PPS_CAP_NS_NS, stamp % 2000000000 / 2),
    (.tim .PPS_CAP_NS_HALF, stamp % 2), (.tim .PPS_CAP_NS_VALID, 1)]
  let d : Dev := { d with tim := { d.tim with edgeAt := d.now, edgeSec := sec } }
  let src := d.rd (.tck .CTRL_SRC)
  let bias := toSigned 32 (d.rd (.tim .PPS_BIAS_BIAS))
  if src = 2 then d.sample e false
  else if src = 1 ∧ d.is (.tim .CTRL_HOLD_PPS) then
    if d.loopState = 1 then
      let (b, d) := d.roundDiv (bias * 16 + (e - bias)) 16
      d.wr (.tim .PPS_BIAS_BIAS) (ofSigned 32 b)
    else if d.loopState = 2 ∧ d.tim.steer then d.sample (e - bias) true else d
  else d

/-- PPS is lost: the next edge is valid (R443). -/
def Dev.ppsLost (d : Dev) : Dev := ({ d with tim := { d.tim with edge := none } } : Dev).timEvent .STATUS_PPS_LOST

/-- PPS_IN_EDGE: a rising edge `after` half nanoseconds from the previous command: valid, a glitch, or off its window; one more than 1.5 s
after the last valid edge finds PPS lost (R443). -/
def execPpsInEdge (after : Nat) (s : State) : Host.Outcome State Fault Refusal :=
  s.runTim (fun d =>
    let d := d.elapse (after / 2)
    if !d.is (.tim .PPS_CTRL_IN_EN) then d
    else
      let (err, d) := d.stampError 12
      let u : Int := 2 * ((d.tb : Int) - d.tim.steps) + (after % 2 : Nat)
      let d := if d.tim.edge.any (fun x => 3000000000 < u - x) then d.ppsLost else d
      let gap : Option Int := d.tim.edge.map (fun x => u - x)
      let valid : Bool := match gap with
        | none => true
        | some g => 1998000000 ≤ g && g ≤ 2002000000
      if valid then ({ d with tim := { d.tim with edge := some u } } : Dev).ppsValid (2 * (d.tb : Int) + (after % 2 : Nat) + err).toNat
      else d.timCnt (match gap with | some g => if g < 2000000 then 2 else 8 | none => 8))

/-- PPS_LOST_TIMEOUT: 1.5 s without a valid edge (R443). -/
def execPpsLostTimeout (s : State) : Host.Outcome State Fault Refusal :=
  s.runTim (fun d =>
    match d.tim.edge with
    | none => d
    | some u =>
      let d := d.elapseTb ((u + 3000000000) / 2 + d.tim.steps).toNat
      d.ppsLost)

/-- PPS_OUT_RISE: the next whole second plus TIM_PPS_OFFSET: the pin rises unless the pulse is gated (R444). -/
def execPpsOutRise (s : State) : Host.Outcome State Fault Refusal :=
  s.runTim (fun d =>
    if !d.is (.tim .PPS_CTRL_OUT_EN) ∨ d.tim.ppsFall.isSome then d
    else
      let d := d.elapseTb (d.tb + ((toSigned 32 (d.rd (.tim .PPS_OFFSET_NS)) - (d.tb : Int)) % 1000000000).toNat)
      if d.is (.tim .PPS_CTRL_GATE_UNLOCKED) ∧ d.loopState ≠ 1 then d
      else
        ({ d with tim := { d.tim with ppsFall := some (d.now + d.rd (.tim .PPS_CTRL_WIDTH) * 1000000) } } : Dev).emit (.pps true))

/-- PPS_OUT_FALL: the pulse has lasted WIDTH ms (R444). -/
def execPpsOutFall (s : State) : Host.Outcome State Fault Refusal :=
  s.runTim (fun d =>
    match d.tim.ppsFall with
    | none => d
    | some t => (({ d with tim := { d.tim with ppsFall := none } } : Dev).elapse (t - d.now)).emit (.pps false))

/-! ### Time of day -/

/-- The value of a decimal digit. -/
def digit (b : Byte) : Option Nat := if 0x30 ≤ b.toNat ∧ b.toNat ≤ 0x39 then some (b.toNat - 0x30) else none

/-- The number that decimal digits spell; none when a byte is no digit or there are none. -/
def decimal (bs : List Byte) : Option Nat :=
  if bs = [] then none
  else bs.foldl (fun v b => match v, digit b with | some v, some x => some (10 * v + x) | _, _ => none) (some 0)

/-- The value of a hexadecimal digit. -/
def hexDigit (b : Byte) : Option Nat :=
  let n := b.toNat
  if 0x41 ≤ n ∧ n ≤ 0x46 then some (n - 0x37) else if 0x61 ≤ n ∧ n ≤ 0x66 then some (n - 0x57) else digit b

/-- The parts of a list between separators. -/
def splitOn (sep : Byte) : List Byte → List (List Byte)
  | [] => [[]]
  | b :: bs =>
    match splitOn sep bs with
    | [] => [[b]]
    | p :: ps => if b = sep then [] :: p :: ps else (b :: p) :: ps

/-- The fields of an NMEA sentence and whether its checksum is right (R445). -/
def nmeaFields (bs : List Byte) : List (List Byte) × Bool :=
  let body := (bs.drop 1).takeWhile (fun b => b ≠ 0x2A)
  let rest := bs.drop (body.length + 2)
  let sum := body.foldl (fun x b => Nat.xor x b.toNat) 0
  let good : Bool := match hexDigit (rest.getD 0 0), hexDigit (rest.getD 1 0) with
    | some a, some b => bs.getD (body.length + 1) 0 = 0x2A && sum = 16 * a + b
    | _, _ => false
  (splitOn 0x2C body, good)

/-- Days from 1 January 1970 to a date of the years 2000 to 2099; none for a day or month that does not exist. -/
def daysOf (y m d : Nat) : Option Nat :=
  let leap : Nat := if y % 4 = 0 then 1 else 0
  let lens := [31, 28 + leap, 31, 30, 31, 30, 31, 31, 30, 31, 30, 31]
  if y < 2000 ∨ 2099 < y ∨ m < 1 ∨ 12 < m ∨ d < 1 ∨ lens.getD (m - 1) 0 < d then none
  else some (10957 + (y - 2000) * 365 + (y - 2000 + 3) / 4 + (lens.take (m - 1)).sum + (d - 1))

/-- Seconds of the day of a time field hhmmss with no fraction or a zero one (R445). -/
def timeOf (f : List Byte) : Option Nat :=
  let frac := f.drop 6
  let fracOk : Bool := frac = [] || (frac.getD 0 0 = 0x2E && (frac.drop 1).all (fun b => b = 0x30))
  match decimal (sliceB f 0 2), decimal (sliceB f 2 2), decimal (sliceB f 4 2) with
  | some h, some m, some s => if 6 ≤ f.length ∧ fracOk ∧ h < 24 ∧ m < 60 ∧ s < 60 then some (h * 3600 + m * 60 + s) else none
  | _, _, _ => none

/-- The UTC second a ZDA or RMC sentence states (R445). -/
def nmeaSecond (rmc : Bool) (fs : List (List Byte)) : Option Nat :=
  let f := fun i => fs.getD i []
  let date : Option Nat :=
    if rmc then
      if f 2 = [0x41] ∧ (f 9).length = 6 then
        match decimal (sliceB (f 9) 0 2), decimal (sliceB (f 9) 2 2), decimal (sliceB (f 9) 4 2) with
        | some a, some b, some c => daysOf (2000 + c) b a
        | _, _, _ => none
      else none
    else match decimal (f 2), decimal (f 3), decimal (f 4) with
      | some a, some b, some c => daysOf c b a
      | _, _, _ => none
  match timeOf (f 1), date with
  | some t, some n => some (n * 86400 + t)
  | _, _ => none

/-- An accepted time of day: compared with the second of the edge it names, and applied when R446 says so. -/
def Dev.todAccept (d : Dev) (utc : Nat) : Dev :=
  let tai : Int := (utc : Int) + toSigned 16 (d.rd (.tim .UTC_OFFSET_S))
  let d := (d.wr (.tim .TOD_SEC) (ofSigned 48 tai)).timCnt 3
  let diff := tai - (d.tim.edgeSec : Int)
  let old := d.tim.todDiff
  let d : Dev := { d with tim := { d.tim with todDiff := diff } }
  if diff = 0 then d
  else
    let d := (d.timCnt 5).timEvent .STATUS_TOD_MISMATCH
    if d.rd (.tck .CTRL_SRC) = 2 ∧ d.is (.tim .CTRL_TOD_STEP_EN) ∧ old = diff then d.stepTb (diff * 1000000000) else d

/-- NMEA_SENTENCE: the GNSS UART receives a sentence, from '$' on, `after` ns from the previous command (R445, R446). -/
def execNmeaSentence (bytes : List Byte) (after : Nat) (s : State) : Host.Outcome State Fault Refusal :=
  s.runTim (fun d =>
    let d := d.elapse after
    if !d.is (.tim .UART_EN) then d
    else
      let (fs, good) := nmeaFields bytes
      let kind := (fs.getD 0 []).drop 2
      let upper : Byte → Bool := fun b => 0x41 ≤ b.toNat && b.toNat ≤ 0x5A
      let zda : Bool := kind = [0x5A, 0x44, 0x41]
      let rmc : Bool := kind = [0x52, 0x4D, 0x43]
      if bytes.getD 0 0 ≠ 0x24 then d
      else if !good then d.timCnt 4
      else if !(zda || rmc) ∨ !((fs.getD 0 []).take 2).all upper then d
      else match nmeaSecond rmc fs with
        | none => d.timCnt 4
        | some utc => if d.tim.edge.isSome ∧ d.now ≤ d.tim.edgeAt + 900000000 then d.todAccept utc else d.timCnt 4)

end Sys2Proof.Machine
end

