-- ==== Sys2Proof/Machine/Cal.lean ====
section
/-! DEFINITION.  Calibration steps, the ageing of Almanac entries and their verification (R455 to R460). -/

namespace Sys2Proof.Machine

open Sys2Proof

/-- A CAL event of an entry: its bit, HEP event source 12, the first event logged (R459). -/
def Dev.calEvent (d : Dev) (f : CalF) (cause e : Nat) : Dev :=
  (d.event (.cal f) (.cal .CTRL_IRQ_EN) 12).logFirst (.cal .LOG_VALID) [(.cal .LOG_ENTRY, e), (.cal .LOG_CAUSE, cause)]

/-- A CAL_CNT counter increased by `k`. -/
def Dev.calCnt (d : Dev) (i k : Nat) : Dev := d.incBy (.cal (.CNT_COUNT i)) k

/-- The Almanac entry that a step refreshes (R451). -/
def stepEntry (step : Nat) : Nat :=
  if step < 0x20 then step - 0x10 else if step < 0x28 then step - 0x20 + 4 else if step < 0x30 then step - 0x28 + 8 else step - 0x30 + 12

/-- CAL_STEP_START: the dispatch of slot `n` reaches the calibration unit (R455). -/
def execCalStepStart (n : Fin 64) (s : State) : Host.Outcome State Fault Refusal :=
  s.run (fun d =>
    if (d.occ n).state = .running ∧ (d.slot n).kind = 3 ∧ d.cal.step.isNone then
      { d with cal := { d.cal with step := some n.val } }
    else d)

/-- The points of an eye scan that fit in a step of `budget` cycles on the lane of port `p`: 4,096 UI each, of 0.8 ns, or 0.32 ns in
2500BASE-X (R455, R456). -/
def Dev.scanItems (d : Dev) (p budget : Nat) : Nat :=
  (budget - 400) * 100 / (4096 * (if d.rd (.mac (.PORT_CTRL_MODE p)) = 2 then 32 else 80))

/-- A signed byte kept in the range of a tap code. -/
def tapCode (b : Byte) : Byte := BitVec.ofNat 8 (ofSigned 8 (max (-32) (min 31 (toSigned 8 b.toNat))))

/-- The value of a completed scan: its phase, taps that move by at most one from those in force, EYE_W and EYE_H (R456). -/
def scanValue (force measured : List Byte) : List Byte :=
  [measured.getD 0 0] ++ (List.range' 1 3).map (fun i => stepByte (force.getD i 0) (tapCode (measured.getD i 0))) ++
    [BitVec.ofNat 8 (min 32 (measured.getD 4 0).toNat), BitVec.ofNat 8 (min 8 (measured.getD 5 0).toNat)] ++ List.replicate 10 0

/-- The number of the points held of port `p`. -/
def Dev.setPoints (d : Dev) (p k : Nat) : Dev := { d with cal := { d.cal with points := bankAt 4 0 d.cal.points p (fun _ => k) } }

/-- An eye-scan step of port `p`: `lost` points were discarded; a complete scan is accepted (R456). -/
def Dev.scanStep (d : Dev) (p budget lost : Nat) (measured : List Byte) : Dev :=
  if !d.linkUp p then d
  else
    let items := d.scanItems p budget
    let lost := min lost items
    let held := d.cal.points.getD p 0 + (items - lost)
    let d := d.calCnt 2 lost
    if held < 256 then d.setPoints p held
    else
      let v := scanValue (almForce (d.alm p)) measured
      let d := (d.setPoints p 0).almAccept p v 2 (d.rd (.tck .COUNT_TICK))
      if (v.getD 4 0).toNat < d.rd (.cal .CFG_EYE_MIN_W) then (d.calCnt 6 1).calEvent .EVT_EYE_LOW 2 p else d

/-- A path-delay step of entry `e`: `lost` markers gave way to events; `full` says that all 64 were captured (R457). -/
def Dev.delayStep (d : Dev) (e lost : Nat) (full : Bool) (measured : List Byte) : Dev :=
  let d := d.calCnt 3 lost
  if !full then d.calCnt 4 1
  else if d.rd (.cal .CFG_SPREAD_MAX) < leAt measured 4 2 then (d.calCnt 5 1).calEvent .EVT_REJECT 3 e
  else d.almAccept e (sliceB measured 0 6) 2 (d.rd (.tck .COUNT_TICK))

/-- CAL_STEP_END: the step in work ends DONE; `lost` counts the points or markers lost to line errors or live events, `full` says that a
marker set is complete, `measured` is what the samplers found (R455 to R457). -/
def execCalStepEnd (lost : Nat) (full : Bool) (measured : List Byte) (s : State) : Host.Outcome State Fault Refusal :=
  s.run (fun d =>
    match d.cal.step with
    | none => d
    | some n =>
      let sl := d.slot n
      let d : Dev := { d with cal := { d.cal with step := none } }
      let d := d.calCnt 0 1
      let d := if sl.step < 0x20 then d.scanStep (sl.step - 0x10) sl.budget lost measured else d.delayStep (stepEntry sl.step) lost full measured
      d.endOcc n 0)

/-- A calibration step is cut: it contributes nothing (R65, R455). -/
def Dev.calCut (d : Dev) (n : Nat) : Dev :=
  let d : Dev := if d.cal.step = some n then { d with cal := { d.cal with step := none } } else d
  d.calCnt 1 1

/-! ### Ages -/

/-- Whether an entry is aged now: MAX_AGE is set, its port enabled and, for a lane, its link up (R458, R459). -/
def Dev.aged (d : Dev) (e : Nat) : Bool :=
  0 < d.rd (.cal (.AGE_MAX_AGE e)) && (12 ≤ e || (d.portOn (e % 4) && (4 ≤ e || d.linkUp e)))

/-- The age of an entry (R459). -/
def Dev.age (d : Dev) (e : Nat) : Nat := d.rd (.tck .COUNT_TICK) - leAt (d.alm e) 8 8

/-- The bits of entries that are aged and within their ages are cleared at a boundary (R459). -/
def Dev.ageClear (d : Dev) : Dev :=
  (List.range 14).foldl (fun d e =>
    if !d.aged e then d
    else
      let m := d.rd (.cal (.AGE_MAX_AGE e))
      let d := if d.age e ≤ m then d.wr (.cal .AGE_STATUS_OVERDUE) (clrBit (d.rd (.cal .AGE_STATUS_OVERDUE)) e) else d
      if d.age e ≤ 2 * m then d.wr (.cal .AGE_STATUS_OVERDUE2) (clrBit (d.rd (.cal .AGE_STATUS_OVERDUE2)) e) else d) d

/-- ALMANAC_OVERDUE: the age of entry `e` exceeds MAX_AGE at the boundary just issued; the safety monitor is warned when the entry becomes
overdue (R459, R476). -/
def execAlmanacOverdue (e : Fin 14) (s : State) : Host.Outcome State Fault Refusal :=
  s.run (fun d =>
    if !d.aged e ∨ d.age e ≤ d.rd (.cal (.AGE_MAX_AGE e)) then d
    else
      let old := bitAt (d.rd (.cal .AGE_STATUS_OVERDUE)) e
      let d := (d.setFldBit (.cal .AGE_STATUS_OVERDUE) e).calEvent .EVT_OVERDUE 0 e
      if old then d else d.warn 3)

/-- ALMANAC_OVERDUE2: the age of entry `e` exceeds twice MAX_AGE at the boundary just issued; the fault is reported at the first such
boundary (R459, R475). -/
def execAlmanacOverdue2 (e : Fin 14) (s : State) : Host.Outcome State Fault Refusal :=
  s.run (fun d =>
    if !d.aged e ∨ d.age e ≤ 2 * d.rd (.cal (.AGE_MAX_AGE e)) then d
    else
      let old := bitAt (d.rd (.cal .AGE_STATUS_OVERDUE2)) e
      let d := (d.setFldBit (.cal .AGE_STATUS_OVERDUE2) e).calEvent .EVT_OVERDUE2 1 e
      if old then d else d.fault 15 e)

/-! ### Verification -/

/-- One entry verified (R460). -/
def Dev.verifyEntry (d : Dev) (e : Nat) : Dev :=
  let (bs, p, d) := d.readLine (almLine e)
  if p ∨ crc32c (bs.take 60) ≠ leAt bs 60 4 ∨ almForce bs ≠ d.cal.latched.getD e [] then
    (d.calEvent .EVT_VERIFY_FAIL 4 e).fault 15 e
  else d

/-- ALMANAC_VERIFY: the running occurrence of task 0x04 in slot `n` checks every entry and ends (R460, R501). -/
def execAlmanacVerify (n : Fin 64) (s : State) : Host.Outcome State Fault Refusal :=
  s.run (fun d =>
    if !d.taskRuns n 4 then d
    else (((List.range 14).foldl Dev.verifyEntry d).wr (.pwr .SUP_STATUS_VERIFY_PENDING) 0).endOcc n 0)

end Sys2Proof.Machine
end

