-- ==== Sys2Proof/Machine/Flags.lean ====
section
/-! DEFINITION.  The poison bit of a Tchiphor result, which the instruction tables list in their Flags column
(R188, R221). -/

namespace Sys2Proof.Machine

open Sys2Proof

/-- A work register: 64 bits and the poison bit (R188). -/
abbrev WReg := BitVec 64 × Bool

/-- Flags P: the result is poisoned when a source is (R188, R221). -/
def flagP (l : List WReg) : Bool := l.any (·.2)

/-- Flags C: the result is always clean (R221). -/
def flagC : Bool := false

/-- A result of class P over one source. -/
def resP1 (a : WReg) (f : BitVec 64 → BitVec 64) : WReg := (f a.1, flagP [a])

/-- A result of class P over two sources. -/
def resP2 (a b : WReg) (f : BitVec 64 → BitVec 64 → BitVec 64) : WReg := (f a.1 b.1, flagP [a, b])

/-- A clean result. -/
def resC (v : BitVec 64) : WReg := (v, flagC)

/-- Flags P of a result made of bytes read: poisoned when one of their lines is. -/
def flagBytes (bs : List PByte) : Bool := bs.any (·.2)

end Sys2Proof.Machine
end

