-- ==== Sys2Proof/Machine/Operands.lean ====
section
/-! DEFINITION.  The operand forms of Tchiphor instructions: work registers, immediates, engine addresses and the
packet window (R187 to R190, R202, R203, R219 to R221). -/

namespace Sys2Proof.Machine

open Sys2Proof

/-! ### Work registers and immediates -/

/-- Work register `i` of engine `e`; w0 is 0 and clean (R187, R219). -/
def Dev.wreg (d : Dev) (e : Nat) (i : Fin 32) : WReg :=
  if i = 0 then (0, false) else (d.engine e).w.getD i (0, false)

/-- The registers with `i` at `v`. -/
def putReg (w : List WReg) (i : Fin 32) (v : WReg) : List WReg :=
  (List.range 32).map (fun j => if j = i.val ∧ j ≠ 0 then v else w.getD j (0, false))

/-- A result written to work register `i`; a result for w0 is discarded (R219). -/
def Dev.setWreg (d : Dev) (e : Nat) (i : Fin 32) (v : WReg) : Dev :=
  d.modEngine e (fun g => { g with w := putReg g.w i v })

/-- A sign-extended immediate (R219). -/
def sext {n : Nat} (i : BitVec n) : BitVec 64 := i.signExtend 64

/-- A zero-extended immediate (R219). -/
def zext {n : Nat} (i : BitVec n) : BitVec 64 := i.zeroExtend 64

/-- The word index reached from `pc` by a signed offset, modulo 16,384 (R219). -/
def pcPlus (pc : Nat) (off : BitVec 64) : Nat := (BitVec.ofNat 64 pc + off).toNat % 16384

/-- The next instruction. -/
def Dev.advance (d : Dev) (e : Nat) : Dev := d.modEngine e (fun g => { g with pc := (g.pc + 1) % 16384 })

/-! ### Engine addresses -/

/-- The pair of an engine. -/
def pairOf (e : Nat) : Nat := e / 2

/-- Where an engine address lies, with its offset there (R189). -/
inductive Place where
  | local_ (off : Nat)
  | cluster (off : Nat)
  | window (off : Nat)
  | info (off : Nat)
  | nowhere
  deriving DecidableEq, Repr

/-- The size of the local data memory an engine sees (R189). -/
def Dev.ldmSize (d : Dev) (e : Nat) : Nat := if d.lockstep (pairOf e) then 0x20000 else 0x10000

/-- Where byte `a` lies (R189). -/
def Dev.placeOf (d : Dev) (e a : Nat) : Place :=
  if a < d.ldmSize e then .local_ a
  else if 0x01000000 ≤ a ∧ a < 0x01200000 then .cluster (a - 0x01000000)
  else if 0x02000000 ≤ a ∧ a < 0x02002600 then .window (a - 0x02000000)
  else if 0x02010000 ≤ a ∧ a < 0x02010040 then .info (a - 0x02010000)
  else .nowhere

/-- The first byte past the region that byte `a` lies in (R189). -/
def Dev.regionEnd (d : Dev) (e a : Nat) : Nat :=
  match d.placeOf e a with
  | .local_ _ => d.ldmSize e
  | .cluster _ => 0x01200000
  | .window _ => 0x02002600
  | .info _ => 0x02010040
  | .nowhere => a

/-- Byte `off` of the local data memory of engine `e`, as a line and an offset (R189). -/
def Dev.ldmAt (d : Dev) (e off : Nat) : Nat × Nat :=
  let o := if d.lockstep (pairOf e) then off else off + 0x10000 * (e % 2)
  (ldmLine (pairOf e) (o / 64), o % 64)

/-! ### The packet window -/

/-- Whether index `i` of the frame's space holds a stored byte: others read 0 until written (R227, R229). -/
def OpenF.stored (o : OpenF) (i : Nat) : Bool := o.frame.start ≤ i && i < o.frame.start + o.frame.len

/-- The edited byte at index `i` (R203). -/
def OpenF.edit (o : OpenF) (i : Nat) : Option Byte := (o.edits.find? (fun x => x.1 = i)).map (·.2)

/-- The lines of the edit buffer (R203). -/
def OpenF.editLines (o : OpenF) : List Nat := (o.edits.map (fun x => x.1 / 64)).eraseDups

/-- A frame opened (R202). -/
def OpenF.ofFrame (f : Frame) : OpenF := { frame := f, head := f.start, len := f.len }

/-- `n` bytes of the window from offset `off`, edits included, with their poison, read with the error handling of
R27 to R29 (R203, R227). -/
def Dev.winRead (d : Dev) (o : OpenF) (off n : Nat) : List PByte × Dev :=
  let idx := (List.range n).map (fun k => o.head + off + k)
  let need := ((idx.filter (fun i => o.stored i && (o.edit i).isNone)).map (fun i => i / 64)).eraseDups
  let (ls, d) := need.foldl (fun (a : List (Nat × List Byte × Bool) × Dev) j =>
    let (bs, p, d) := a.2.readLine (o.frame.lines.getD j 0)
    (a.1 ++ [(j, bs, p)], d)) ([], d)
  (idx.map (fun i =>
    let bad := o.bad.contains (i / 64)
    match o.edit i with
    | some b => (b, bad)
    | none =>
      if o.stored i then
        match ls.find? (fun x => x.1 = i / 64) with
        | some x => (x.2.1.getD (i % 64) 0, x.2.2 || bad)
        | none => (0, bad)
      else (0, bad)), d)

/-- A store through the window into the edit buffer (R203, R227). -/
def OpenF.write (o : OpenF) (off : Nat) (bs : List Byte) (poison : Bool) : OpenF :=
  let at_ := o.head + off
  let new : List (Nat × Byte) := (List.range bs.length).map (fun k => (at_ + k, bs.getD k 0))
  { o with
    edits := o.edits.filter (fun x => !(at_ ≤ x.1 && x.1 < at_ + bs.length)) ++ new
    bad := if poison then (o.bad ++ new.map (fun (x : Nat × Byte) => x.1 / 64)).eraseDups else o.bad }

/-- Whether a store of `n` bytes would need a seventeenth line (R203). -/
def OpenF.full (o : OpenF) (off n : Nat) : Bool :=
  16 < (o.editLines ++ ((List.range n).map (fun k => (o.head + off + k) / 64))).eraseDups.length

/-- The edits, head and length committed to the frame buffer; none when the buffer has no line for the frame's
growth (R203, assumption 9). -/
def Dev.commit (d : Dev) (o : OpenF) : Option (Frame × Dev) :=
  let f := o.frame
  match d.alloc (regionBase 1) 65536 ((o.head + o.len + 63) / 64 - f.lines.length) with
  | none => none
  | some (ls, d) =>
    let lines := f.lines ++ ls
    let first := o.head / 64
    let d := ((List.range ((o.head + o.len + 63) / 64 - first)).map (· + first)).foldl (fun (d : Dev) j =>
      let l := lines.getD j 0
      let idx := (List.range 64).map (fun k => 64 * j + k)
      let inWin := fun i => o.head ≤ i && i < o.head + o.len
      if idx.all (fun i => !(inWin i && ((o.edit i).isSome || !o.stored i))) then d
      else
        let raw := d.rawLine l
        let bs := idx.map (fun i =>
          if inWin i then
            match o.edit i with
            | some b => b
            | none => if o.stored i then raw.getD (i % 64) 0 else 0
          else raw.getD (i % 64) 0)
        if f.lines.length ≤ j then d.writeLine l bs (o.bad.contains j)
        else d.writePart l 0 bs (o.bad.contains j)) d
    some ({ f with lines := lines, start := o.head, len := o.len }, d)

/-! ### The frame metadata -/

/-- The 64 bytes of frame metadata (R204). -/
def metaBytes (f : Frame) (poisoned : Bool) : List Byte :=
  let m := f.info
  let hs := m.hdrs.take 10
  let tags := m.tags.take 2
  leBytes 8 m.result ++ leBytes 4 m.keyMeta ++ leBytes 2 f.len ++
    [BitVec.ofNat 8 (b2n poisoned + 2 * b2n m.retry + 4 * b2n m.fromCrypto), BitVec.ofNat 8 hs.length] ++
    sliceB (hs.flatMap (fun h => [BitVec.ofNat 8 h.1, BitVec.ofNat 8 h.2])) 0 20 ++
    leBytes 6 m.tsSec ++ leBytes 4 m.tsNs ++ [BitVec.ofNat 8 (b2n m.tsHalf), 0] ++
    sliceB (tags.flatMap (beBytes 4)) 0 8 ++ [BitVec.ofNat 8 tags.length, BitVec.ofNat 8 m.port, 0, 0] ++ leBytes 4 m.batch

end Sys2Proof.Machine
end

