-- ==== Sys2Proof/Machine/Sampling.lean ====
section
/-! DEFINITION.  Retirement of engine instructions as the counters and the sampling units see it (R567, R576 to R579). -/

namespace Sys2Proof.Machine

open Sys2Proof

/-- What the sampling unit latches of an instruction at issue (R579): word index, word, class bit of CLASS_MASK (none for a reserved
word), data address, the latency, SB_FULL, WIN_MISS, CE, DRAIN, EXC, the cycle of the tick and the tick at issue. -/
structure Retired where
  pc : Nat
  word : Nat
  cls : Option Nat
  daddr : Nat := 0
  lat : Nat := 1
  sbFull : Bool := false
  winMiss : Bool := false
  ce : Bool := false
  drain : Bool := false
  exc : Bool := false
  cyc : Nat
  tick : Nat
  deriving DecidableEq, Repr

/-- The sampling unit of pair `p`. -/
def Dev.smp (d : Dev) (p : Nat) : Smp := d.pmc.smp.getD p {}

/-- The sampling unit of pair `p` changed. -/
def Dev.modSmp (d : Dev) (p : Nat) (f : Smp → Smp) : Dev := { d with pmc := { d.pmc with smp := bankAt 8 {} d.pmc.smp p f } }

/-- One half's countdown changed. -/
def Dev.modHalf (d : Dev) (p h : Nat) (f : SmpHalf → SmpHalf) : Dev :=
  d.modSmp p (fun u => { u with halves := bankAt 2 {} u.halves h f })

/-- A countdown reloaded: PERIOD plus a draw of 0 to 2^JITTER − 1 from the LFSR, whose polynomial and seed the spec does not give
(R576, assumption 4). -/
def Dev.smpReload (d : Dev) (p h : Nat) : Dev :=
  let (v, d) := d.fresh
  let v := v % 65536
  let j := d.rd (.pmc (.SMP_CFG_JITTER p))
  (d.modSmp p (fun u => { u with lfsr := v })).modHalf p h (fun x => { x with
    count := d.rd (.pmc (.SMP_PERIOD_PERIOD p)) + v % 2 ^ j })

/-- The half of the sampling unit that observes engine `e`, if any (R577). -/
def Dev.smpHalf (d : Dev) (e : Nat) : Option Nat :=
  let p := e / 2
  let h := e % 2
  let sel := d.rd (.pmc (.SMP_CFG_HALF p))
  if !d.is (.pmc (.SMP_CFG_EN p)) then none
  else if d.lockstep p then (if h = 0 then some 0 else none)
  else if sel = 2 ∨ sel = h then some h
  else none

/-- Bytes 0 to 23 of a sample record (R579). -/
def Dev.smpBytes (d : Dev) (e : Nat) (r : Retired) : List Byte :=
  let be : Bool := d.rd (.eng (if e % 2 = 0 then .PAIR_STATUS_STATE_A (e / 2) else .PAIR_STATUS_STATE_B (e / 2))) ≠ 1
  leBytes 2 (r.pc % 2 ^ 14 + e % 2 * 2 ^ 14 + b2n be * 2 ^ 15) ++
    [BitVec.ofNat 8 (if be then 0 else (d.engine e).slot),
     BitVec.ofNat 8 (b2n r.sbFull + 2 * b2n r.winMiss + 4 * b2n r.ce + 8 * b2n r.drain + 16 * b2n r.exc)] ++
    leBytes 4 r.word ++ leBytes 4 r.daddr ++ leBytes 4 (min r.lat (2 ^ 32 - 1)) ++ leBytes 4 r.cyc ++ leBytes 4 r.tick

/-- Engine `e` retires an instruction: ENG_INSN and ENG_WIN_MISS count it, and the countdown that selects its class decrements; at 0
the instruction is the sampled one and the countdown reloads (R567, R576).  `b` is the device at issue. -/
def Dev.retire (d b : Dev) (e : Nat) (r : Retired) : Dev :=
  let d := d.count 0x10 e 1
  let d := if r.winMiss then d.count 0x14 e 1 else d
  match r.cls, d.smpHalf e with
  | some c, some h =>
    if !bitAt (d.rd (.pmc (.SMP_CFG_CLASS_MASK (e / 2)))) c then d
    else
      let n := ((d.smp (e / 2)).halves.getD h {}).count
      if 1 < n then d.modHalf (e / 2) h (fun x => { x with count := n - 1 })
      else
        let s : Sample := { bytes := b.smpBytes e r }
        (d.modHalf (e / 2) h (fun x => { x with hits := x.hits ++ [s] })).smpReload (e / 2) h
  | _, _ => d

end Sys2Proof.Machine
end

