-- ==== Sys2Proof/Machine/EngineOps.lean ====
section
/-! DEFINITION.  The Tchiphor engines: states, store buffers and cluster memory, exceptions, lockstep mismatches, cuts
and preemption, loads and stores, disposals (R185 to R216, R226 to R237). -/

namespace Sys2Proof.Machine

open Sys2Proof

/-! ### Engine states -/

/-- The engine that half `e` is part of: the pair's first in lockstep (R185). -/
def Dev.unit (d : Dev) (e : Nat) : Nat := if d.lockstep (pairOf e) then 2 * pairOf e else e

/-- The state of engine `e`: 0 IDLE, 1 SLOT, 2 BEST_EFFORT, 3 DEBUG_HALT, 4 FAULTED (ENG_PAIR_STATUS). -/
def Dev.engState (d : Dev) (e : Nat) : Nat :=
  d.rd (.eng (if e % 2 = 0 then .PAIR_STATUS_STATE_A (pairOf e) else .PAIR_STATUS_STATE_B (pairOf e)))

/-- The state of engine `e` set; both halves of a lockstep pair show it. -/
def Dev.setEngState (d : Dev) (e v : Nat) : Dev :=
  let a : Fld := .eng (.PAIR_STATUS_STATE_A (pairOf e))
  let b : Fld := .eng (.PAIR_STATUS_STATE_B (pairOf e))
  if d.lockstep (pairOf e) then (d.wr a v).wr b v else d.wr (if e % 2 = 0 then a else b) v

/-- Whether engine `e` runs a program: a slot occurrence or best-effort work. -/
def Dev.engRuns (d : Dev) (e : Nat) : Bool := d.engState e = 1 || d.engState e = 2

/-- An ENG_CNT counter of the engine's pair increased. -/
def Dev.engCnt (d : Dev) (e i : Nat) : Dev := d.inc (.eng (.CNT_COUNT (pairOf e) i))

/-- Program entry `n` of the pair exists (R193). -/
def Dev.entryExists (d : Dev) (p n : Nat) : Bool :=
  let (m, c) := d.cfg.entries.getD p ([], 0)
  bitAt (m.getD (n / 8) 0).toNat (n % 8) && n * 16 < c

/-- An engine starts a program entry for class queue `cls` with w1 to w3 as given, everything else 0 and clean (R194,
R199). -/
def Dev.engStart (d : Dev) (e state entry cls slot : Nat) (be : Option Nat) (w1 w2 w3 : Nat) : Dev :=
  (d.modEngine e (fun g => { g with
    w := (List.range 32).map (fun i => (BitVec.ofNat 64 (if i = 1 then w1 else if i = 2 then w2 else if i = 3 then w3 else 0), false))
    pc := entry * 4 % 16384
    sb := []
    fr := none
    copies := []
    wait := none
    slot := slot
    cls := cls
    be := be
    startAt := d.now })).setEngState e state

/-! ### Cluster memory and the store buffer -/

/-- A store to cluster memory takes effect (R188, R208). -/
def Dev.clusterWrite (d : Dev) (s : SbEnt) : Dev := d.writePart (clusterLine (s.addr / 64)) (s.addr % 64) s.bytes s.poison

/-- The oldest store of an engine's buffer becomes visible (R208). -/
def Dev.sbPop (d : Dev) (e : Nat) : Dev :=
  match (d.engine e).sb with
  | [] => d
  | s :: r => (d.clusterWrite s).modEngine e (fun g => { g with sb := r })

/-- The store buffer drains, in program order (R208, R209). -/
def Dev.drain (d : Dev) (e : Nat) : Dev := (d.engine e).sb.foldl (fun d _ => d.sbPop e) d

/-- A store enters the buffer; with all 8 entries taken the oldest leaves first (R208, R239). -/
def Dev.sbPush (d : Dev) (e : Nat) (s : SbEnt) : Dev :=
  let d := if 8 ≤ (d.engine e).sb.length then d.sbPop e else d
  d.modEngine e (fun g => { g with sb := g.sb ++ [s] })

/-- `n` bytes of cluster memory from `off` as engine `e` loads them: its own buffered stores over what is visible (R208). -/
def Dev.clusterRead (d : Dev) (e off n : Nat) : List PByte × Dev :=
  let (bs, p, d) := d.readLine (clusterLine (off / 64))
  ((List.range n).map (fun k =>
    (d.engine e).sb.foldl (fun (v : PByte) s =>
      if s.addr ≤ off + k ∧ off + k < s.addr + s.bytes.length then (s.bytes.getD (off + k - s.addr) 0, s.poison) else v)
      (bs.getD (off % 64 + k) 0, p)), d)

/-- STORE_VISIBLE: the oldest buffered store of engine `e` leaves for cluster memory (R208). -/
def execStoreVisible (e : Fin 16) (s : State) : Host.Outcome State Fault Refusal := s.run (fun d => d.sbPop e)

/-! ### How programs end -/

/-- The frame under work and the pending copies. -/
def Engine.frames (g : Engine) : List Frame := (g.fr.map (·.frame)).toList ++ g.copies

/-- An engine becomes idle; best-effort work leaves its binding as the last one run. -/
def Dev.engIdle (d : Dev) (e : Nat) : Dev :=
  (d.modEngine e (fun g => { g with
    fr := none, copies := [], wait := none, be := none, lastBe := g.be.getD g.lastBe })).setEngState e 0

/-- The program of engine `e` ends with an occurrence status (0 DONE, 1 CUT, 4 FAULT); best-effort work writes no
record. -/
def Dev.engEnd (d : Dev) (e status : Nat) : Dev :=
  let st := d.engState e
  let n := (d.engine e).slot
  if st = 1 then (d.engIdle e).endOcc n status
  else if st = 2 then d.engIdle e
  else d.modEngine e (fun g => { g with fr := none, copies := [], wait := none })

/-- Frames dropped, each counted in ENG_CNT[i]. -/
def Dev.engDrop (d : Dev) (e i : Nat) (fs : List Frame) : Dev := fs.foldl (fun d f => (d.engCnt e i).discard f) d

/-- An exception: the buffer drains, the frame and the copies are dropped, the first exception is logged, the occurrence
ends FAULT, and safety slots, IMEM_UE and SAFETY_ON_SPLIT are reported (R212, R213, R234). -/
def Dev.raise (d : Dev) (e code addr : Nat) : Dev :=
  let g := d.engine e
  let p := pairOf e
  let h := e % 2
  let slot := d.engState e = 1
  let d := (d.drain e).engDrop e 0 g.frames
  let d := if d.is (.eng (.EXC_LOG_VALID p h)) then d else
    d.wrs [(.eng (.EXC_LOG_CODE p h), code), (.eng (.EXC_LOG_PC p h), g.pc), (.eng (.EXC_LOG_SLOT p h), if slot then g.slot else 0),
      (.eng (.EXC_LOG_BEST_EFFORT p h), b2n !slot), (.eng (.EXC_ADDR_ADDR p h), if 3 ≤ code ∧ code ≤ 5 then addr % 2 ^ 32 else 0),
      (.eng (.EXC_LOG_VALID p h), 1)]
  let d := (d.wr (.eng (.PAIR_STATUS_EXC p)) 1).modEngine e (fun g => { g with raised := true })
  let d := if code = 2 ∨ code = 10 ∨ (slot ∧ (d.slot g.slot).safety) then d.fault 2 p else d
  d.engEnd e 4

/-- A lockstep mismatch: under D2 it is only logged; otherwise the pair stops, drops its frame, is FAULTED and reported
(R214, R215).  The result says whether the program goes on. -/
def Dev.mismatch (d : Dev) (e : Nat) : Bool × Dev :=
  let p := pairOf e
  let g := d.engine e
  let d2 := d.d2
  let d := d.logFirst (.eng (.LS_LOG_VALID p)) [(.eng (.LS_LOG_PC p), g.pc), (.eng (.LS_LOG_UNDER_D2 p), b2n d2)]
  let d := d.wr (.eng (.PAIR_STATUS_LS_MISMATCH p)) 1
  if d2 then (true, d)
  else
    let d := g.frames.foldl Dev.discard (d.drain e)
    (false, ((d.engEnd e 4).setEngState e 4).fault 1 p)

/-- A WAITT in progress completes with the tick offset in its register (R236, R237). -/
def Dev.waitDone (d : Dev) (e : Nat) : Dev :=
  match (d.engine e).wait with
  | none => d
  | some w =>
    let r : Retired := { pc := (d.engine e).pc, word := w.word, cls := some 7, lat := d.now - w.issued + 1, cyc := w.cyc, tick := w.tick }
    let d' := ((d.setWreg e (Fin.ofNat 32 w.rd) (resC (BitVec.ofNat 64 d.tick.cyc))).modEngine e
      (fun g => { g with wait := none })).advance e
    d'.retire d e r

/-- A frame returned to the head of its class queue, its edits discarded (R197, R200). -/
def Dev.giveBack (d : Dev) (e : Nat) (f : Frame) : Dev := d.returnFrame (d.engine e).cls f

/-- A program cut (R197). -/
def Dev.engCut (d : Dev) (e : Nat) : Dev :=
  let d := (d.waitDone e).drain e
  let g := d.engine e
  let d := d.engDrop e 1 g.copies
  let d := match g.fr with
    | none => d
    | some o =>
      if o.frame.info.retry then d.engDrop e 1 [o.frame]
      else d.giveBack e { o.frame with info := { o.frame.info with retry := true } }
  d.engEnd e 1

/-- Best-effort work preempted (R200, R201). -/
def Dev.preempt (d : Dev) (e : Nat) : Dev :=
  if d.engState e ≠ 2 then d
  else
    let d := (d.waitDone e).drain e
    let g := d.engine e
    let d := d.engDrop e 3 g.copies
    let d := match g.fr with
      | none => d
      | some o =>
        if d.rd (.eng .BE_CFG_MAX_PREEMPT) ≤ o.frame.preempts + 1 then d.engDrop e 3 [o.frame]
        else (d.engCnt e 2).giveBack e { o.frame with preempts := o.frame.preempts + 1 }
    d.engIdle e

/-! ### Best-effort work -/

/-- Whether a binding may start on engine `e` now: valid, naming its pair, its class not served by a slot, a frame in its
queue, its entry there (R193, R199). -/
def Dev.beReady (d : Dev) (e i : Nat) : Bool :=
  let cls := d.rd (.eng (.BE_BIND_CLASS i))
  d.is (.eng (.BE_BIND_VALID i)) && bitAt (d.rd (.eng (.BE_BIND_PAIRS i))) (pairOf e) && !d.servedBySlot cls &&
    d.classq.any (fun q => q.cls = cls) && d.entryExists (pairOf e) (d.rd (.eng (.BE_BIND_PROGRAM i)))

/-- The next binding of engine `e`: ascending from the one after the last, wrapping round (R238). -/
def Dev.nextBinding (d : Dev) (e : Nat) : Option Nat :=
  ((List.range 16).map (fun k => ((d.engine e).lastBe + 1 + k) % 16)).find? (fun i => d.beReady e i)

/-- BE_START: work for a pair that A2 turned off makes the device leave A2 (R199, R238, R516). -/
def execBeStart (e : Fin 16) (s : State) : Host.Outcome State Fault Refusal :=
  s.run (fun d =>
    if d.unit e ≠ e ∨ d.engState e ≠ 0 ∨ !d.is (.eng (.PAIR_CFG_BE_EN (pairOf e))) ∨ (d.engine e).haltReq then d
    else match d.nextBinding e with
      | none => d
      | some i => if d.pairOff (pairOf e) then d.wake id else d.engStart e 2 (d.rd (.eng (.BE_BIND_PROGRAM i))) (d.rd (.eng (.BE_BIND_CLASS i))) 0 (some i) 0 0 0)

/-! ### Loads and stores -/

/-- The first byte from `a` of an access of `n` bytes that lies outside the region of `a` (R189, R220). -/
def Dev.boundsAt (d : Dev) (e a n : Nat) : Option Nat :=
  if d.placeOf e a = .nowhere then some a
  else if d.regionEnd e a < a + n then some (d.regionEnd e a)
  else none

/-- The exception an access meets, in the order of R222, with its address: NO_FRAME, BOUNDS, ALIGN, WIN_RANGE, WIN_FULL. -/
def Dev.accessFault (d : Dev) (e a n : Nat) (store : Bool) : Option (Nat × Nat) :=
  let g := d.engine e
  let place := d.placeOf e a
  let framed : Bool := match place with | .window _ => true | .info _ => true | _ => false
  if framed ∧ g.fr.isNone then some (8, 0)
  else match d.boundsAt e a n with
    | some x => some (4, x)
    | none =>
      match place, store with
      | .info _, true => some (4, a)
      | .window off, _ =>
        if a % n ≠ 0 then some (3, a)
        else match g.fr with
          | none => none
          | some o =>
            if o.len < off + n then some (5, 0x02000000 + max off o.len)
            else if store ∧ o.full off n then some (6, 0)
            else none
      | _, _ => if a % n ≠ 0 then some (3, a) else none

/-- The address of a load or store: rs1 plus a sign-extended displacement, in 64 bits (R220). -/
def effAddr (base : BitVec 64) (imm : BitVec 16) : Nat := (base + sext imm).toNat

/-- The bytes a load reads (R221, R227). -/
def Dev.loadBytes (d : Dev) (e a n : Nat) : List PByte × Dev :=
  match d.placeOf e a with
  | .local_ off =>
    let (l, o) := d.ldmAt e off
    let (bs, p, d) := d.readLine l
    (marked (sliceB bs o n) p, d)
  | .cluster off => d.clusterRead e off n
  | .window off =>
    match (d.engine e).fr with
    | some o => d.winRead o off n
    | none => ([], d)
  | .info off =>
    match (d.engine e).fr with
    | some o => (clean (sliceB (metaBytes o.frame (d.framePoisoned o.frame)) off n), d)
    | none => ([], d)
  | .nowhere => ([], d)

/-- A load of `n` bytes (R226). -/
def Dev.load (d : Dev) (e n : Nat) (rd rs1 : Fin 32) (imm : BitVec 16) : Dev :=
  let b := d.wreg e rs1
  if b.2 then d.raise e 7 0
  else
    let a := effAddr b.1 imm
    match d.accessFault e a n false with
    | some (c, x) => d.raise e c x
    | none =>
      let (bs, d) := d.loadBytes e a n
      (d.setWreg e rd (BitVec.ofNat 64 (ofLe (bs.map (·.1))), flagBytes bs)).advance e

/-- Bytes stored where a store goes (R227). -/
def Dev.storeBytes (d : Dev) (e a : Nat) (bs : List Byte) (poison : Bool) : Dev :=
  match d.placeOf e a with
  | .local_ off =>
    let (l, o) := d.ldmAt e off
    d.writePart l o bs poison
  | .cluster off => d.sbPush e { addr := off, bytes := bs, poison := poison }
  | .window off => d.modEngine e (fun g => { g with fr := g.fr.map (fun o => o.write off bs poison) })
  | _ => d

/-- A store of `n` bytes (R226). -/
def Dev.storeOp (d : Dev) (e n : Nat) (rs2 rs1 : Fin 32) (imm : BitVec 16) : Dev :=
  let b := d.wreg e rs1
  let v := d.wreg e rs2
  if b.2 then d.raise e 7 0
  else
    let a := effAddr b.1 imm
    match d.accessFault e a n true with
    | some (c, x) => d.raise e c x
    | none => (d.storeBytes e a (leBytes n v.1.toNat) v.2).advance e

/-! ### Atomics -/

/-- An atomic on the word at rs1: `f` gives the value stored, if any, and its poison, from the old value (R210, R228). -/
def Dev.atomic (d : Dev) (e : Nat) (rd rs1 : Fin 32) (f : WReg → Option WReg) (extra : Bool) : Dev :=
  let b := d.wreg e rs1
  if b.2 then d.raise e 7 0
  else
    let a := b.1.toNat
    match d.boundsAt e a 8, d.placeOf e a with
    | some x, _ => d.raise e 4 x
    | none, .cluster off =>
      if a % 8 ≠ 0 then d.raise e 3 a
      else
        let d := d.drain e
        let (bs, d) := d.clusterRead e off 8
        let old : WReg := (BitVec.ofNat 64 (ofLe (bs.map (·.1))), flagBytes bs)
        let d := match f old with
          | some v => d.clusterWrite { addr := off, bytes := leBytes 8 v.1.toNat, poison := v.2 }
          | none => d
        (d.setWreg e rd (old.1, old.2 || extra)).advance e
    | none, _ => d.raise e 4 a

/-! ### Disposals -/

/-- The status word of R232. -/
def statusWord (handle reason : Nat) (refused : Bool) : BitVec 64 :=
  BitVec.ofNat 64 (handle % 65536 + reason % 256 * 2 ^ 16 + b2n refused * 2 ^ 63)

/-- A disposal or COPY refused: the status written, nothing else (R206, R232). -/
def Dev.refuse (d : Dev) (e : Nat) (rd : Fin 32) (reason : Nat) : Dev :=
  ((d.engCnt e 5).setWreg e rd (resC (statusWord 0 reason true))).advance e

/-- The frame under work is gone; the oldest copy, if any, becomes the open frame (R233). -/
def Dev.nextOpen (d : Dev) (e : Nat) : Dev :=
  d.modEngine e (fun g =>
    match g.copies with
    | [] => { g with fr := none }
    | f :: fs => { g with fr := some (.ofFrame f), copies := fs })

/-- A disposal: poisoned operands, no frame, then after the drain `check` of the open frame's operands and length gives a
refusal, or the committed frame goes to `accept`; no room for the commit is a FULL (R205, R222, R232, R233). -/
def Dev.dispose (d : Dev) (e : Nat) (rd : Fin 32) (ops : List WReg) (check : Dev → OpenF → Dev × Option Nat)
    (accept : Dev → Frame → Nat × Dev) : Dev :=
  if flagP ops then d.raise e 7 0
  else match (d.engine e).fr with
    | none => d.raise e 8 0
    | some o =>
      let (d, r) := check (d.drain e) o
      match r with
      | some reason => d.refuse e rd reason
      | none =>
        match d.commit o with
        | none => d.refuse e rd 1
        | some (f, d) =>
          let d := d.nextOpen e
          let (h, d) := accept d f
          (d.setWreg e rd (resC (statusWord h 0 false))).advance e

/-- A frame's lines copied to lines of their own, their poison with them: the handle a COPY makes (R234, assumption 9). -/
def Dev.copyFrame (d : Dev) (f : Frame) : Option (Frame × Dev) :=
  match d.alloc (regionBase 1) 65536 f.lines.length with
  | none => none
  | some (ls, d) =>
    let d := (f.lines.zip ls).foldl (fun (d : Dev) (x : Nat × Nat) =>
      let (bs, p, d) := d.readLine x.1
      d.writeLine x.2 bs p) d
    let (u, d) := d.newUid
    some ({ f with uid := u, lines := ls, ring := none }, d)

/-- The handles of transmit entries in use. -/
def Dev.handles (d : Dev) : List Nat :=
  d.ports.flatMap (fun p => (p.txq.flatMap (fun q => q.map (·.handle))) ++ (p.cur.map (·.ent.handle)).toList ++ p.relq.map (·.2.handle))

/-- A transmit frame handle not in use: the spec does not say which (R140, assumption 4). -/
def Dev.newHandle (d : Dev) : Nat × Dev :=
  let (v, d) := d.fresh
  let used := d.handles
  (((List.range (used.length + 1)).map (fun i => (v + i) % 65536)).find? (fun h => !used.contains h) |>.getD (v % 65536), d)

/-- The refusal of a FWD (R140, R151, R235); a refusal by the port is counted there. -/
def Dev.fwdCheck (d : Dev) (a : Nat) : Dev × Option Nat :=
  let p := bitsOf a 0 2
  let q := bitsOf a 2 3
  if 256 ≤ a ∨ bitsOf a 5 2 = 3 then (d, some 4)
  else
    let rel := bitAt a 7
    match d.txRefusal p q rel with
    | some r => if r = 1 ∧ rel then (d, none) else (d.txRefuse p r, some r)
    | none => (d, none)

/-- A forwarded frame joins its transmit queue or the port's release queue; one whose ring is aborting is followed by a
cancel (R235, R305). -/
def Dev.fwdAccept (d : Dev) (e a tags : Nat) (f : Frame) : Nat × Dev :=
  let p := bitsOf a 0 2
  let q := bitsOf a 2 3
  let (h, d) := d.newHandle
  let ts := [tags % 2 ^ 32, tags / 2 ^ 32 % 2 ^ 32].take (bitsOf a 5 2)
  let ent : TxEnt := { handle := h, frame := f, tags := ts, pair := some (pairOf e) }
  let stop : Bool := match f.ring with | some (n, _) => d.sqState n = 2 | none => false
  let d := if stop then d.modPort p (fun x => { x with cancels := x.cancels ++ [h] }) else d
  (h, if bitAt a 7 then d.modPort p (fun x => { x with relq := x.relq ++ [(q, ent)] }) else d.txAccept p q ent)

/-- The lines a frame takes when it is held (R301). -/
def heldLines (len : Nat) : Nat := (len + 63) / 64

/-- The refusal of a DELIV (R301, R319). -/
def Dev.delivCheck (d : Dev) (a len : Nat) : Dev × Option Nat :=
  let f := bitsOf a 0 8
  if 65536 ≤ a ∨ 49 < f then (d, some 4)
  else match d.sqOf f (bitsOf a 8 8) with
    | none => (d, some 4)
    | some n =>
      if d.sqKind n ≠ 1 then (d, some 4)
      else if d.sqState n ≠ 1 then (d, some 5)
      else if d.rd (.rng (.SQ_BIND_HOLD_LINES n)) < ((d.sq n).held.flatMap (·.lines)).length + heldLines len then
        (d.fcnt f 8, some 1)
      else if !d.vatOk f (heldLines len) then (d.inc (.dma (.QCNT_REFUSED f)), some 1)
      else (d, none)

/-- A delivered frame is held in the Vat; its frame-buffer lines are freed and its TX entry completes OK (R299, R301, R519). -/
def Dev.delivAccept (d : Dev) (a : Nat) (f : Frame) : Nat × Dev :=
  let fn := bitsOf a 0 8
  match d.sqOf fn (bitsOf a 8 8), d.vatTake fn (heldLines f.len) with
  | some n, some (ls, d) =>
    let d := d.pmeSet fn
    let d := ((List.range (heldLines f.len)).zip ls).foldl (fun (d : Dev) (x : Nat × Nat) =>
      let (bs, p, d) := d.readBytes f.lines (f.start + 64 * x.1) (min 64 (f.len - 64 * x.1))
      d.writeLine (vatLine x.2) (sliceB bs 0 64) p) d
    (0, ((d.modSq n (fun q => { q with held := q.held ++ [{ lines := ls, len := f.len }] })).originEnd f 0 0).dropFrame f)
  | _, _ => (0, d)

/-- The refusal of a CRYPT (R240, R241). -/
def Dev.cryptCheck (d : Dev) (a b : Nat) : Option Nat :=
  let s := a % 1024
  let inbound := bitAt a 16
  let ent := d.saPeek s
  let esp := inbound && saValid ent && saType ent = 1
  let group := inbound && !esp && s % 4 = 0
  if !d.is (.cry .CTRL_EN) ∨ (!group ∧ saValid ent ∧ saState ent ≠ 0) then some 5
  else if a / 1024 % 64 ≠ 0 ∨ 2 ^ 17 ≤ a ∨ 256 ≤ b then some 4
  else if !inbound ∧ !(saValid ent && (saType ent = 0 || saType ent = 2)) then some 4
  else if inbound ∧ !esp ∧ !group then some 4
  else if !d.served b then some 4
  else if 32 ≤ (d.pipe (pipeOf s group)).occupancy then some 1
  else none

/-- A frame accepted by the crypto unit joins its pipeline (R240 to R242). -/
def Dev.cryptAccept (d : Dev) (a b : Nat) (f : Frame) : Nat × Dev :=
  let s := a % 1024
  let inbound := bitAt a 16
  let ent := d.saPeek s
  let espIn := inbound && saValid ent && saType ent = 1
  let group := inbound && !espIn
  (0, d.modPipe (pipeOf s group) (fun c => { c with
    queue := c.queue ++ [{ frame := f, sa := s, inbound := inbound, ret := b, esp := espIn || (!inbound && saType ent = 0) }] }))

/-- The refusal of a BRIDGE (R414). -/
def Dev.bridgeCheck (d : Dev) (a b len : Nat) : Option Nat :=
  let rp := bitsOf a 0 1
  let w := bitsOf a 1 3
  if 16 ≤ a ∨ 2 ^ 32 ≤ b ∨ !d.is (.brg (.WIN_CTRL_EN rp w)) ∨ d.winSize rp w < b + len then some 4
  else if !d.is (.brg .CTRL_EN) ∨ !d.rpUp rp then some 5
  else if 32 ≤ (d.rp rp).queue.length then some 1
  else none

/-- A frame joins the bridge queue of its root port, its address translated; its TX entry completes OK (R299, R411, R414). -/
def Dev.bridgeAccept (d : Dev) (a b : Nat) (f : Frame) : Nat × Dev :=
  let rp := bitsOf a 0 1
  let w := bitsOf a 1 3
  let bell := if d.is (.brg (.WIN_CTRL_BELL_EN rp w)) then some (d.winBase rp w + d.rd (.brg (.WIN_BELL_BELL_OFF rp w)) * 4) else none
  let e : BrgEnt := { frame := { f with ring := none }, addr := d.winBase rp w + b, f := d.rd (.brg (.WIN_CTRL_FUNC rp w)), bell := bell }
  (0, (d.originEnd f 0 0).modRp rp (fun r => { r with queue := r.queue ++ [e] }))

/-- The refusal of a STOR (R270). -/
def Dev.storCheck (d : Dev) (a : Nat) : Option Nat :=
  if !d.is (.nvt .CTRL_EN) then some 5
  else if 64 ≤ a ∨ !d.is (.nvt (.QP_CFG_VALID (a % 64))) then some 4
  else if 64 ≤ d.nvt.rx.length then some 1
  else none

/-- A segment joins the offload's receive queue; its TX entry completes OK (R270, R299). -/
def Dev.storAccept (d : Dev) (a b : Nat) (f : Frame) : Nat × Dev :=
  let d := d.originEnd f 0 0
  (0, { d with nvt := { d.nvt with rx := d.nvt.rx ++ [{ frame := { f with ring := none }, qp := a % 64, tag := b }] } })

/-! ### Taking a frame -/

/-- The frame a take opens: the first of the class queue that the program may see (R195, R199). -/
def Dev.takeable (d : Dev) (e : Nat) : Option QFrame :=
  let g := d.engine e
  d.classq.find? (fun q => q.cls = g.cls && (d.engState e ≠ 1 || q.frame.info.batch < d.tick.coreTick))

/-- TAKE's effect: the head frame opened, first brought out of staging; a safety frame on a split half raises
SAFETY_ON_SPLIT (R187, R195). -/
def Dev.takeFrame (d : Dev) (e : Nat) (rd : Fin 32) : Dev :=
  let empty := fun (d : Dev) => (d.setWreg e rd (resC 0)).advance e
  if (d.engine e).fr.isSome then d.raise e 8 0
  else match d.takeable e with
    | none => empty d
    | some q =>
      let d := if q.frame.staged then d.crossFrame q.frame.info.port q.frame else d
      match d.classq.find? (fun x => x.frame.uid = q.frame.uid) with
      | none => empty d
      | some q =>
        if q.frame.staged then empty d
        else
          let d := { d with classq := d.classq.filter (fun x => x.frame.uid ≠ q.frame.uid) }
          let d := d.modEngine e (fun g => { g with fr := some (.ofFrame q.frame) })
          if bitAt q.frame.info.result 9 ∧ !d.lockstep (pairOf e) then d.raise e 10 0
          else (d.setWreg e rd (resC 1)).advance e

end Sys2Proof.Machine
end

