-- ==== Sys2Proof/Machine/Security.lean ====
section
/-! DEFINITION.  Lifecycle, key slots, anti-rollback counter, debug levels and tokens, and the TAP
(R521 to R540, R604). -/

namespace Sys2Proof.Machine

open Sys2Proof

/-- A SEC_EVT bit set and its event raised (source 15). -/
def Dev.secEvent (d : Dev) (f : SecF) : Dev := d.event (.sec f) (.sec .DBG_CTRL_IRQ_EN) 15

/-- The challenge in force, 16 bytes (R535). -/
def Dev.challenge (d : Dev) : List Byte :=
  (List.range 4).flatMap (fun i => leBytes 4 (d.rd (.sec (.DBG_CHAL_CHAL i))))

/-- A new challenge from the random number generator: four free words (R535). -/
def Dev.newChallenge (d : Dev) : Dev :=
  (List.range 4).foldl (fun d i => let (v, d) := d.fresh; d.wr (.sec (.DBG_CHAL_CHAL i)) v) d

/-! ### Lifecycle -/

/-- A refused lifecycle command (R522). -/
def Dev.lcRefuse (d : Dev) (code : Nat) : Dev :=
  (d.wr (.sec .LC_RESULT_LAST) code).inc (.sec .LC_RESULT_REFUSED)

/-- Slot `i` of the one-time-programmable memory. -/
def Otp.slot (o : Otp) (i : Nat) : KeySlot := o.slots.getD i {}

/-- LC_PROVISION (R522). -/
def execLcProvision (s : State) : Host.Outcome State Fault Refusal :=
  s.hostWith (fun o d =>
    if d.sec.lcTo.isSome then d.lcRefuse 5
    else if o.lc ≠ 0 then d.lcRefuse 1
    else if d.inhibited then d.lcRefuse 2
    else if !((o.slot 1).prog && (o.slot 3).prog && o.seedProg) then d.lcRefuse 3
    else { d with sec := { d.sec with lcTo := some 1 } })

/-- LC_FIELD (R522). -/
def execLcField (s : State) : Host.Outcome State Fault Refusal :=
  s.hostWith (fun o d =>
    if d.sec.lcTo.isSome then d.lcRefuse 5
    else if o.lc ≠ 1 then d.lcRefuse 1
    else if d.inhibited then d.lcRefuse 2
    else if d.rd (.sec .DBG_STATUS_LEVEL) ≠ 0 then d.lcRefuse 4
    else { d with sec := { d.sec with lcTo := some 2 } })

/-- Whether the one-way table of R522 holds a transition. -/
def lcAllowed (o : Otp) (dest : Nat) : Bool :=
  (o.lc = 0 && dest = 1 && (o.slot 1).prog && (o.slot 3).prog && o.seedProg) ||
  (o.lc = 1 && dest = 2) || ((o.lc = 1 || o.lc = 2) && dest = 3)

/-- The OTP side of a verified transition: the one-way write (R522, R523). -/
def Otp.transition (o : Otp) (dest : Nat) : Otp := if lcAllowed o dest then { o with lc := dest } else o

/-- LC_TRANSITION_DONE: the transition takes effect; RMA zeroises keys and SAs (R523, R253). -/
def execLcTransitionDone (s : State) : Host.Outcome State Fault Refusal :=
  s.runOtp (fun o d =>
    match d.sec.lcTo with
    | none => (o, d)
    | some dest =>
      let d := { d with sec := { d.sec with lcTo := none } }
      let d := (d.wr (.sec .LC_RESULT_LAST) 0).newChallenge
      let d := { d with sec := { d.sec with tokenChal := d.challenge } }
      let d := if dest = 3 then d.zeroiseKeys else d
      (o.transition dest, d.secEvent .EVT_LC_CHG))

/-! ### Key slots -/

/-- The staged value: 96 bytes of a slot, or 32 of the seed (R524). -/
def Dev.otpStage (d : Dev) (target : Nat) : List Byte :=
  ((List.range 24).flatMap (fun i => leBytes 4 (d.rd (.sec (.OTP_STAGE_DATA i))))).take
    (if target = 4 then 32 else 96)

/-- SEC_OTP_STAGE zeroed and RESULT written (R524). -/
def Dev.otpResult (d : Dev) (code : Nat) : Dev :=
  (d.wrs ((List.range 24).map (fun i => (.sec (.OTP_STAGE_DATA i), 0)))).wr (.sec .OTP_STATUS_RESULT) code

/-- Whether a target is programmed. -/
def Otp.programmed (o : Otp) (target : Nat) : Bool :=
  if target = 4 then o.seedProg else (o.slot target).prog

/-- OTP_PROGRAM: the checks of R524; TARGET 0 and 5 to 7 are reserved and do nothing. -/
def execOtpProgram (target : Fin 8) (s : State) : Host.Outcome State Fault Refusal :=
  s.hostWith (fun o d =>
    if d.sec.otpOp.isSome ∨ target.val = 0 ∨ 4 < target.val then d
    else if o.lc ≠ 0 then d.otpResult 1
    else if o.programmed target then d.otpResult 2
    else if d.inhibited then d.otpResult 3
    else if target.val ≠ 4 ∧ !Config.onCurve (d.otpStage target) then d.otpResult 4
    else { d with sec := { d.sec with otpOp := some (.program target (d.otpStage target)) } })

/-- OTP_REVOKE: the checks of R526; a TARGET other than 1 and 2 does nothing. -/
def execOtpRevoke (target : Fin 8) (s : State) : Host.Outcome State Fault Refusal :=
  s.hostWith (fun o d =>
    if d.sec.otpOp.isSome ∨ (target.val ≠ 1 ∧ target.val ≠ 2) then d
    else if o.lc ≠ 1 ∧ o.lc ≠ 2 then d.otpResult 6
    else if !(o.slot (3 - target)).prog ∨ (o.slot (3 - target)).revoked then d.otpResult 5
    else if d.inhibited then d.otpResult 3
    else { d with sec := { d.sec with otpOp := some (.revoke target) } })

/-- The bits of a target written so far. -/
def Otp.bits (o : Otp) (target : Nat) : List Byte :=
  if target = 4 then o.seed else (o.slot target).bits

/-- Bits programmed into a target: a written bit stays (R524). -/
def Otp.burn (o : Otp) (target : Nat) (v : List Byte) : Otp :=
  let n := (List.range (o.bits target).length).map (fun i => (o.bits target).getD i 0 ||| v.getD i 0)
  if target = 4 then { o with seed := n }
  else { o with slots := bankAt 4 {} o.slots target (fun k => { k with bits := n }) }

/-- Whether programming `v` would need a written bit cleared (R524). -/
def Otp.clash (o : Otp) (target : Nat) (v : List Byte) : Bool :=
  (List.zipWith (fun (a b : Byte) => a &&& ~~~b) (o.bits target) v).any (fun b => b ≠ 0)

/-- A target marked programmed. -/
def Otp.markProg (o : Otp) (target : Nat) : Otp :=
  if target = 4 then { o with seedProg := true }
  else { o with slots := bankAt 4 {} o.slots target (fun k => { k with prog := true }) }

/-- OTP_WRITE_DONE: the value or the revocation verified (R524, R526). -/
def execOtpWriteDone (s : State) : Host.Outcome State Fault Refusal :=
  s.runOtp (fun o d =>
    let done := fun (d : Dev) code =>
      ({ d with sec := { d.sec with otpOp := none } }.otpResult code).secEvent .EVT_OTP_DONE
    match d.sec.otpOp with
    | none => (o, d)
    | some (.program t v) =>
      if o.clash t v then (o, done d 2) else ((o.burn t v).markProg t, done d 0)
    | some (.revoke t) =>
      ({ o with slots := bankAt 4 {} o.slots t (fun k => { k with revoked := true }) }, done d 0))

/-! ### Anti-rollback -/

/-- ARB_ADVANCE: the checks of R531. -/
def execArbAdvance (value : Fin 128) (s : State) : Host.Outcome State Fault Refusal :=
  s.hostWith (fun o d =>
    let res := fun code => d.wr (.sec .ARB_STATUS_RESULT) code
    if d.sec.arbTo.isSome then d
    else if value ≤ o.arb then res 1
    else if 64 < value.val then res 2
    else if !d.loaded ∨ !d.sealed ∨ d.rd (.cfg .IMAGE_VER_VALUE) < value then res 3
    else if o.lc ≠ 1 ∧ o.lc ≠ 2 then res 4
    else if d.d2 then res 5
    else if d.inhibited then res 6
    else { d with sec := { d.sec with arbTo := some value } })

/-- The counter after bits up to `n` are set: it never falls (R530). -/
def Otp.arbTo (o : Otp) (n : Nat) : Otp := { o with arb := max o.arb n }

/-- ARB_ADVANCE_DONE (R531). -/
def execArbAdvanceDone (s : State) : Host.Outcome State Fault Refusal :=
  s.runOtp (fun o d =>
    match d.sec.arbTo with
    | none => (o, d)
    | some n =>
      (o.arbTo n, ({ d with sec := { d.sec with arbTo := none } }.wr (.sec .ARB_STATUS_RESULT) 0).secEvent
        .EVT_ARB_DONE))

/-- OTP writes abandoned (R497, R524, R526, R531): the bits already written stay, which ones a free
value decides; with `report`, the results of a dip are recorded, as a reset does not. -/
def abandonOtp (report : Bool) (o : Otp) (d : Dev) : Otp × Dev :=
  let d := match d.sec.lcTo with
    | some _ => if report then d.wr (.sec .LC_RESULT_LAST) 2 else d
    | none => d
  let (o, d) := match d.sec.otpOp with
    | some (.program t v) =>
      let (m, d) := d.freshBytes v.length
      (o.burn t (List.zipWith (fun a b => a &&& b) v m),
        if report then (d.otpResult 3).secEvent .EVT_OTP_DONE else d)
    | some (.revoke _) => (o, if report then (d.otpResult 3).secEvent .EVT_OTP_DONE else d)
    | none => (o, d)
  let (o, d) := match d.sec.arbTo with
    | some n =>
      let (k, d) := d.fresh
      (o.arbTo (o.arb + k % (n - o.arb + 1)),
        if report then (d.wr (.sec .ARB_STATUS_RESULT) 7).secEvent .EVT_ARB_DONE else d)
    | none => (o, d)
  (o, { d with sec := { d.sec with lcTo := none, otpOp := none, arbTo := none } })

/-! ### Debug levels and tokens -/

/-- The debug level changed (SEC_EVT.DBG_CHG). -/
def Dev.setLevel (d : Dev) (l : Nat) : Dev := (d.wr (.sec .DBG_STATUS_LEVEL) l).secEvent .EVT_DBG_CHG

/-- DBG_D1_OPEN (R532). -/
def execDbgD1Open (s : State) : Host.Outcome State Fault Refusal :=
  s.host (fun d => if d.rd (.sec .DBG_STATUS_LEVEL) = 0 then d.setLevel 1 else d)

/-- DBG_CLOSE (R532, R538). -/
def execDbgClose (s : State) : Host.Outcome State Fault Refusal :=
  s.host (fun d =>
    if d.d2 then d.inc (.sec .CNT_CLOSE_IGNORED)
    else if d.rd (.sec .DBG_STATUS_LEVEL) = 1 then d.setLevel 0 else d)

/-- A token submitted: its verification starts against the challenge it answers, the challenge is
regenerated and SEC_DBG_TOKEN zeroed; while a token is under verification that one goes on (R535). -/
def Dev.submitToken (d : Dev) (t : List Byte) : Dev :=
  let d := if d.sec.token.isSome then d
    else { d with sec := { d.sec with token := some t, tokenChal := d.challenge } }
  (d.wrs ((List.range 40).map (fun i => (.sec (.DBG_TOKEN_DATA i), 0)))).newChallenge

/-- DBG_TOKEN_SUBMIT (R535). -/
def execDbgTokenSubmit (s : State) : Host.Outcome State Fault Refusal :=
  s.host (fun d =>
    d.submitToken ((List.range 40).flatMap (fun i => leBytes 4 (d.rd (.sec (.DBG_TOKEN_DATA i))))))

/-- Whether a key slot verifies tokens in a lifecycle state (R525). -/
def tokenSlotOk (o : Otp) (slot : Nat) : Bool :=
  (slot = 0 && (o.lc = 0 || o.lc = 3)) || (slot = 3 && (o.lc = 1 || o.lc = 2) && (o.slot 3).prog)

/-- The first failing check of R536, or 0. -/
def tokenCode (o : Otp) (d : Dev) (t : List Byte) : Nat :=
  let level := (t.getD 4 0).toNat
  let slot := (t.getD 5 0).toNat
  if d.is (.sec .DBG_STATUS_LOCKED) then 1
  else if sliceB t 0 4 ≠ [0x56, 0x44, 0x42, 0x54] ∨ level < 1 ∨ 3 < level ∨ t.getD 7 0 ≠ 0
      ∨ sliceB t 40 24 ≠ List.replicate 24 0 then 2
  else if !tokenSlotOk o slot then 3
  else if !bitAt (t.getD 6 0).toNat o.lc then 4
  else if sliceB t 8 16 ≠ o.uid then 5
  else if sliceB t 24 16 ≠ d.sec.tokenChal then 6
  else if !Config.ecdsaVerify (o.slot slot).bits (Config.sha384 (sliceB t 0 64)) (sliceB t 64 48)
      (sliceB t 112 48) then 7
  else if level < 3 ∧ level ≤ d.rd (.sec .DBG_STATUS_LEVEL) then 8
  else if level = 3 ∧ ((o.lc ≠ 1 ∧ o.lc ≠ 2) ∨ d.armed ∨ d.inhibited) then 9
  else 0

/-- D2 opens (R537): DEBUG_D2 reported, keys and SAs zeroised, frames in the pipelines dropped. -/
def Dev.openD2 (d : Dev) : Dev := (((d.fault 19 0).cryFlush).zeroiseKeys).setLevel 2

/-- An accepted token takes effect (R536). -/
def Dev.acceptToken (d : Dev) (level : Nat) : Dev :=
  let d := d.wrs [(.sec .DBG_STATUS_RESULT, 0), (.sec .DBG_STATUS_FAILS, 0)]
  if level = 1 then d.setLevel 1
  else if level = 2 then d.openD2
  else { d with sec := { d.sec with lcTo := some 3 } }

/-- A refused token (R536). -/
def Dev.refuseToken (d : Dev) (code : Nat) : Dev :=
  let d := (d.wr (.sec .DBG_STATUS_RESULT) code).inc (.sec .CNT_TOKEN_FAIL)
  if 2 ≤ code ∧ code ≤ 7 then
    let n := d.rd (.sec .DBG_STATUS_FAILS) + 1
    let d := d.wr (.sec .DBG_STATUS_FAILS) n
    if 8 ≤ n then d.wr (.sec .DBG_STATUS_LOCKED) 1 else d
  else d

/-- DBG_TOKEN_CHECKED (R536). -/
def execDbgTokenChecked (s : State) : Host.Outcome State Fault Refusal :=
  s.runWith (fun o d =>
    match d.sec.token with
    | none => d
    | some t =>
      let code := tokenCode o d t
      let d := { d with sec := { d.sec with token := none } }
      let d := if code = 0 then d.acceptToken (t.getD 4 0).toNat else d.refuseToken code
      d.secEvent .EVT_TOKEN_DONE)

/-! ### The TAP -/

/-- Whether a TAP instruction is available at the present level, lifecycle and power state (R533, R540). -/
def tapAvailable (o : Otp) (d : Dev) (i : TapIr) : Bool :=
  let a3 : Bool := d.rd (.pwr .STATUS_STATE) = 3
  match i with
  | .idcode | .bypass | .dbgWake => true
  | .dbgChal | .dbgToken => !a3
  | .dbgBridge => !a3 && d.rd (.sec .DBG_STATUS_LEVEL) ≠ 0
  | .samplePreload | .extest | .clamp | .highz => !a3 && (d.d2 || o.lc = 0)

/-- A TAP instruction selected, with its effect `f`; one that is not available selects BYPASS (R533). -/
def tapSelect (i : TapIr) (f : Otp → Dev → Dev) (o : Otp) (d : Dev) : Dev :=
  if tapAvailable o d i then f o { d with sec := { d.sec with tapIr := i } }
  else { d with sec := { d.sec with tapIr := .bypass } }

/-- TAP_IDCODE (R533). -/
def execTapIdcode (s : State) : Host.Outcome State Fault Refusal :=
  s.runWith (tapSelect .idcode (fun _ d => d.emit (.tap Config.idcode 32)))

/-- TAP_BYPASS (R533). -/
def execTapBypass (s : State) : Host.Outcome State Fault Refusal :=
  s.runWith (tapSelect .bypass (fun _ d => d))

/-- TAP_DBG_CHAL: the UID and the challenge leave through the TAP (R533, R535). -/
def execTapDbgChal (s : State) : Host.Outcome State Fault Refusal :=
  s.runWith (tapSelect .dbgChal (fun o d => d.emit (.tap (ofLe (o.uid ++ d.challenge)) 256)))

/-- TAP_DBG_TOKEN: a token of 160 bytes shifted in and submitted (R533, R535). -/
def execTapDbgToken (token : List Byte) (s : State) : Host.Outcome State Fault Refusal :=
  s.runWith (tapSelect .dbgToken (fun _ d => d.submitToken (sliceB token 0 160)))

/-- TAP_DBG_WAKE: in A3 a wake of R516 (R533). -/
def execTapDbgWake (s : State) : Host.Outcome State Fault Refusal :=
  s.runWith (tapSelect .dbgWake (fun _ d => if d.pwrState = 3 then d.wake id else d))

/-- TAP_DBG_BRIDGE (R533). -/
def execTapDbgBridge (s : State) : Host.Outcome State Fault Refusal :=
  s.runWith (tapSelect .dbgBridge (fun _ d => d))

/-- TAP_SAMPLE_PRELOAD: the boundary register takes the value shifted in (R533). -/
def execTapSamplePreload (value : Nat) (s : State) : Host.Outcome State Fault Refusal :=
  s.runWith (tapSelect .samplePreload (fun _ d => { d with sec := { d.sec with boundary := value } }))

/-- The SAFE_OUT pins as boundary scan drives them: low and high outside BLANK, else the boundary
register's bits 0 and 1 (R533; the register's layout is not in the spec, assumption 10). -/
def tapPins (o : Otp) (d : Dev) : Dev :=
  if o.lc = 0 then d.emit (.safeOut (bitAt d.sec.boundary 0) (bitAt d.sec.boundary 1))
  else d.emit (.safeOut false true)

/-- TAP_EXTEST (R533). -/
def execTapExtest (value : Nat) (s : State) : Host.Outcome State Fault Refusal :=
  s.runWith (tapSelect .extest (fun o d => tapPins o { d with sec := { d.sec with boundary := value } }))

/-- TAP_CLAMP (R533). -/
def execTapClamp (s : State) : Host.Outcome State Fault Refusal :=
  s.runWith (tapSelect .clamp tapPins)

/-- TAP_HIGHZ: the outputs go to high impedance while it is selected (R533). -/
def execTapHighz (s : State) : Host.Outcome State Fault Refusal :=
  s.runWith (tapSelect .highz (fun _ d => d))

/-- TAP_RESET: the TAP returns to IDCODE; the debug level stays (R604). -/
def execTapReset (s : State) : Host.Outcome State Fault Refusal :=
  s.run (fun d => { d with sec := { d.sec with tapIr := .idcode } })

end Sys2Proof.Machine
end

