-- ==== Sys2Proof/Machine/Supply.lean ====
section
/-! DEFINITION.  Supply supervision: dip episodes of VDD_CORE (R495 to R504). -/

namespace Sys2Proof.Machine

open Sys2Proof

/-- Whether the monitor's rules R496 to R502 act (R504). -/
def Dev.supplyActs (d : Dev) : Bool := !d.is (.pwr .CTRL_MON_TEST_DIS)

/-- The open episode changed. -/
def Dev.modDip (d : Dev) (f : Dip → Dip) : Dev := { d with pwr := { d.pwr with dip := d.pwr.dip.map f } }

/-- An ADC sample in units of 10 mV: the lowest of the episode is kept (R495, R499). -/
def Dev.adcSample (d : Dev) (v : Nat) : Dev := (d.wr (.pwr .SUP_STATUS_VOLT) v).modDip (fun x => { x with low := min x.low v })

/-- The time the warning comparator has been asserted in an episode, in ns. -/
def Dip.belowNs (x : Dip) (now : Nat) : Nat := x.below + (match x.belowFrom with | some t => now - t | none => 0)

/-- Fault SUPPLY reported and recorded in the episode (R502). -/
def Dev.uvFault (d : Dev) : Dev := ((d.modDip (fun x => { x with uvLong := true })).pwrEvent .EVT_UV_LONG).fault 17 0

/-- That fault, once in an episode, when the comparator has been asserted for 1 ms in it (R502). -/
def Dev.uvLong (d : Dev) : Dev :=
  match d.pwr.dip with
  | none => d
  | some x => if x.uvLong ∨ x.belowFrom.isNone ∨ x.belowNs d.now < 1000000 then d else d.uvFault

/-- SUPPLY_WARNING_SAFE: `after` ns from the previous command the warning is in SAFE with the given ADC sample: an episode opens, or the
one that is open qualifies anew (R496, R498, R515). -/
def execSupplyWarningSafe (sample : BitVec 8) (after : Nat) (s : State) : Host.Outcome State Fault Refusal :=
  s.run (fun d =>
    let d := (d.elapse after).wr (.pwr .SUP_STATUS_SUP_WARN) 1
    let v := sample.toNat
    if !d.supplyActs then d.adcSample v
    else match d.pwr.dip with
      | some x =>
        (d.uvLong.modDip (fun y => { y with
          belowFrom := some (x.belowFrom.getD d.now), runFrom := none, qualified := false })).adcSample v |>.wr (.pwr .SUP_STATUS_QUALIFYING) 0
      | none =>
        let d : Dev := { d with pwr := { d.pwr with dip := some { low := v, openAt := d.now, belowFrom := some d.now }, flashCut := false } }
        (((d.wr (.pwr .SUP_STATUS_EPISODE_OPEN) 1).pwrEvent .EVT_SUP_WARN).warn 2).adcSample v |>.newNeed)

/-- A flash operation under way is abandoned: a program records its page (R497, R560). -/
def Dev.cutFlash (d : Dev) : Dev :=
  match d.sbd.flash with
  | some (2, a) =>
    let d : Dev := { d with sbd := { d.sbd with flash := none }, pwr := { d.pwr with flashCut := true } }
    (d.wr (.sbd .FL_STATUS_RESULT) 5).logFirst (.sbd .FL_LOG_INCOMPLETE) [(.sbd .FL_LOG_PAGE, a)]
  | _ => d

/-- SUPPLY_WARNING_MGMT: the warning is in MGMT: flash and OTP writes are inhibited and those under way abandoned (R497). -/
def execSupplyWarningMgmt (s : State) : Host.Outcome State Fault Refusal :=
  s.runOtp (fun o d =>
    if !d.is (.pwr .SUP_STATUS_SUP_WARN) ∨ !d.supplyActs then (o, d)
    else abandonOtp true o ((d.wr (.pwr .SUP_STATUS_INHIBIT) 1).cutFlash))

/-- A qualifying run restarted by a sample: it runs from now when the sample is at least 0.720 V (R498). -/
def Dev.qualifyFrom (d : Dev) (v : Nat) : Dev :=
  (d.modDip (fun x => { x with runFrom := if 72 ≤ v then some d.now else none, qualified := false })).wr (.pwr .SUP_STATUS_QUALIFYING)
    (b2n (d.pwr.dip.isSome && decide (72 ≤ v)))

/-- SUPPLY_WARNING_DEASSERT: the warning comparator is deasserted and the ADC reads the given sample: a qualifying run starts, or restarts
(R498). -/
def execSupplyWarningDeassert (sample : BitVec 8) (after : Nat) (s : State) : Host.Outcome State Fault Refusal :=
  s.run (fun d =>
    let d := (d.elapse after).wr (.pwr .SUP_STATUS_SUP_WARN) 0
    let d := d.adcSample sample.toNat
    if !d.supplyActs then d
    else (d.uvLong.modDip (fun x => { x with below := x.belowNs d.now, belowFrom := none })).qualifyFrom sample.toNat)

/-- The record of an episode sent to AON (R499, R503). -/
def Dev.dipRecord (d : Dev) (x : Dip) (dur : Nat) (reset : Bool) : Dev :=
  (d.wrs [(.pwr .DIP_LOG_MIN, x.low), (.pwr .DIP_LOG_DUR, min 4095 (dur / 1000)), (.pwr .DIP_LOG_BELOW, min 1023 (x.belowNs d.now / 10000)),
    (.pwr .DIP_LOG_FLASH_ABANDONED, b2n d.pwr.flashCut), (.pwr .DIP_LOG_UV_LONG, b2n x.uvLong), (.pwr .DIP_LOG_REACHED_RESET, b2n reset),
    (.pwr .DIP_LOG_TICK, d.rd (.tck .COUNT_TICK) % 2 ^ 30), (.pwr .DIP_LOG_VALID, 1)]).inc (.pwr .DIP_CNT_COUNT)

/-- A qualified episode closes: record, inhibit lifted, events, scrub pass and verification scheduled (R499 to R501). -/
def Dev.closeDip (d : Dev) (tick : Bool) : Dev :=
  match d.pwr.dip with
  | none => d
  | some x =>
    let d := d.dipRecord x (x.runFrom.getD d.now - x.openAt) false
    let d : Dev := { d with pwr := { d.pwr with dip := none, flashCut := false } }
    let d := (d.wrs [(.pwr .SUP_STATUS_INHIBIT, 0), (.pwr .SUP_STATUS_EPISODE_OPEN, 0), (.pwr .SUP_STATUS_QUALIFYING, 0),
      (.pwr .SUP_STATUS_SCRUB_PENDING, 1), (.pwr .SUP_STATUS_VERIFY_PENDING, 1), (.hep .PF1_IPEND_SUPPLY, 1),
      (.saf .MON_STATUS_SCRUB_AGE, 0)]).pwrEvent .EVT_DIP_CLOSED
    { d with saf := { d.saf with scrubNew := true, scrubRun := tick } }

/-- DIP_QUALIFIED: 64 µs of samples at or above 0.720 V have passed, the last one being `sample`; while the tick is stopped the episode
closes at once (R498). -/
def execDipQualified (sample : BitVec 8) (s : State) : Host.Outcome State Fault Refusal :=
  s.run (fun d =>
    match d.pwr.dip with
    | none => d
    | some x =>
      match x.runFrom with
      | none => d
      | some r =>
        if x.qualified ∨ !d.supplyActs then d
        else
          let d := (d.elapse (r + 64000 - d.now)).adcSample sample.toNat
          if sample.toNat < 72 then d.qualifyFrom sample.toNat
          else
            let d := (d.modDip (fun x => { x with qualified := true })).wr (.pwr .SUP_STATUS_QUALIFYING) 0
            if d.is (.tck .STATUS_RUNNING) then d else d.closeDip false)

/-- SUPPLY_UV_LONG: the comparator has been asserted for 1 ms within the open episode (R502). -/
def execSupplyUvLong (s : State) : Host.Outcome State Fault Refusal :=
  s.run (fun d =>
    match d.pwr.dip with
    | none => d
    | some x =>
      if x.uvLong ∨ x.belowFrom.isNone ∨ !d.supplyActs then d
      else (d.elapse (1000000 - x.belowNs d.now)).uvFault)

end Sys2Proof.Machine
end

