-- ==== Sys2Proof/Machine/SafetyMon.lean ====
section
/-! DEFINITION.  The safety monitor: commands, arming, trips, watchdogs, the scrub and the pins (R463 to R491). -/

namespace Sys2Proof.Machine

open Sys2Proof

/-! ### Checks -/

/-- The monitor's state: 0 DISARMED, 1 ARMING, 2 ARMED, 3 TRIPPED, 4 RECOVERING (R463). -/
def Dev.safState (d : Dev) : Nat := d.rd (.saf .STATE_STATE)

/-- Whether SAFE_IN is at its active level (R482). -/
def Dev.safeInActive (d : Dev) : Bool := d.rd (.saf .PIN_STATUS_SAFE_IN) = d.rd (.saf .CTRL_SAFE_IN_POL)

/-- Whether a persistent condition holds (R467). -/
def Dev.persistent (d : Dev) : Bool :=
  d.safeInActive || d.is (.saf .MON_STATUS_CLK_FAIL) || d.is (.saf .MON_STATUS_OSC_FAIL) || d.is (.saf .HA_STATUS_EXPIRED) ||
    d.rd (.saf .HA_CFG_MAX_US) < 100 || d.is (.saf .PIN_STATUS_READBACK_ERR) || d.is (.cal .AGE_STATUS_OVERDUE2) ||
    d.is (.pwr .SUP_STATUS_SUP_WARN) || d.is (.cfg .SIG_STATUS_MISMATCH)

/-- Whether the Ephemeris in force has an enabled safety slot for a housekeeping task. -/
def Dev.safetyTask (d : Dev) (task : Nat) : Bool :=
  (List.range 64).any (fun n => (d.slot n).on && (d.slot n).kind = 4 && (d.slot n).step = task && (d.slot n).safety)

/-- The first failing check of codes 3 to 8, which a boundary makes again (R466, R468, R469). -/
def Dev.armCheck (o : Otp) (d : Dev) : Option Nat :=
  if !d.sealed then some 3
  else if !d.is (.tck .STATUS_RUNNING) then some 4
  else if o.lc ≠ 1 ∧ o.lc ≠ 2 then some 5
  else if d.d2 then some 6
  else if !(d.safetyTask 1 && d.safetyTask 2) then some 7
  else if d.persistent then some 8
  else none

/-- A refused command (R466). -/
def Dev.safRefuse (d : Dev) (code : Nat) : Dev := (d.wr (.saf .RESULT_LAST) code).inc (.saf .RESULT_REFUSED)

/-- A command that passes (R466). -/
def Dev.safPass (d : Dev) : Dev := d.wrs [(.saf .RESULT_LAST, 0), (.saf .EVT_CMD_DONE, 1)]

/-! ### Pins, trip and re-arm -/

/-- The SAFE_OUT pins driven energised or not; the pads follow (R463, R473). -/
def Dev.drive (d : Dev) (on : Bool) : Dev :=
  (d.wrs [(.saf .PIN_STATUS_OUT_A, b2n on), (.saf .PIN_STATUS_OUT_B, b2n !on), (.saf .PIN_STATUS_READBACK_ERR, 0)]).emit (.safeOut on !on)

/-- TRIPPED entered (R470). -/
def Dev.trip (d : Dev) (code detail : Nat) : Dev :=
  let seq := d.rd (.saf .STATE_SEQ)
  let d := d.wrs [(.saf .TRIP_LOG_CODE, code), (.saf .TRIP_LOG_DETAIL, detail), (.saf .TRIP_LOG_VALID, 1),
    (.saf .TRIP_TICK_TICK, d.rd (.tck .COUNT_TICK) % 2 ^ 32), (.saf .STATE_CAUSE, code),
    (.saf .STATE_SEQ, if seq = 65535 then 1 else seq + 1), (.saf .STATE_STATE, 3), (.saf .EVT_TRIP, 1)]
  ((d.hepEvent 13).drive false).wdtRestart

/-- The engine pairs that are FAULTED return to IDLE (R469). -/
def Dev.clearPairs (d : Dev) : Dev :=
  (List.range 8).foldl (fun d p =>
    if d.engState (2 * p) = 4 ∨ d.engState (2 * p + 1) = 4 then
      let d := if d.engState (2 * p) = 4 then d.setEngState (2 * p) 0 else d
      let d := if d.engState (2 * p + 1) = 4 then d.setEngState (2 * p + 1) 0 else d
      d.inc (.saf .CNT_PAIRS_CLEARED)
    else d) d

/-- The monitor enters ARMED at boundary `k` (R469). -/
def Dev.rearm (d : Dev) (k : Nat) : Dev :=
  let d := if d.safState = 4 then d.inc (.saf .CNT_RECOVERIES) else d
  let d := (d.wrs [(.saf .STATE_STATE, 2), (.saf .EVT_REARM, 1)]).hepEvent 13
  let d := (d.drive true).clearPairs
  let d := (List.range 16).foldl (fun d c =>
    if d.is (.saf (.BC_CFG_EN c)) then
      d.wrs [(.saf (.BC_LAST_TICK_TICK c), k % 2 ^ 32), (.saf (.BC_STATUS_SEQ_VALID c), 0), (.saf (.BC_STATUS_STATE c), 0)]
    else d) d
  let d : Dev := { d with safeCore := false, saf := { d.saf with haAt := d.now, outDead := false } }
  d.wrs [(.saf .HA_STATUS_EXPIRED, 0), (.saf .MON_STATUS_SCRUB_AGE, 0)]

/-! ### Commands -/

/-- MONITOR_ARM (R466, R468). -/
def execMonitorArm (s : State) : Host.Outcome State Fault Refusal :=
  s.hostWith (fun o d =>
    if d.safState ≠ 0 then d.safRefuse 1
    else match d.armCheck o with
      | some c => d.safRefuse c
      | none => d.safPass.wr (.saf .STATE_STATE) 1)

/-- MONITOR_RECOVER (R466, R468). -/
def execMonitorRecover (seq : BitVec 16) (s : State) : Host.Outcome State Fault Refusal :=
  s.hostWith (fun o d =>
    if d.safState ≠ 3 then d.safRefuse 1
    else if seq.toNat ≠ d.rd (.saf .STATE_SEQ) then d.safRefuse 2
    else match d.armCheck o with
      | some c => d.safRefuse c
      | none => d.safPass.wr (.saf .STATE_STATE) 4)

/-- MONITOR_TRIP: cause SOFTWARE, fault 20 (R466, R468). -/
def execMonitorTrip (s : State) : Host.Outcome State Fault Refusal :=
  s.host (fun d =>
    if d.safState = 0 ∨ d.safState = 3 then d.safRefuse 1
    else (d.safPass.setFldBit (.saf .FAULT_FAULTS) 19).trip 20 0)

/-- MONITOR_DISARM: the safe state ends everywhere but at the pins (R466, R468). -/
def execMonitorDisarm (s : State) : Host.Outcome State Fault Refusal :=
  s.host (fun d =>
    if d.safState ≠ 3 then d.safRefuse 1
    else ({ d with safeCore := false }.safPass.wr (.saf .STATE_STATE) 0).wdtRestart)

/-! ### Heartbeat and reports -/

/-- What a heartbeat of boundary `k` completes: arming, re-arming, or a failed arming; a failed re-check in RECOVERING leaves the monitor
there (R468, R469). -/
def Dev.beatMonitor (o : Otp) (d : Dev) (k : Nat) : Dev :=
  if d.safState = 1 ∨ d.safState = 4 then
    match d.armCheck o with
    | none => d.rearm k
    | some c => if d.safState = 1 then (d.wrs [(.saf .STATE_STATE, 0), (.saf .RESULT_LAST, c)]).wdtRestart else d
  else if d.safState = 2 ∧ d.saf.outDead then { d with saf := { d.saf with outDead := false } }.drive true
  else d

/-- TICK_HEARTBEAT: the next heartbeat in flight is in SAFE: the watchdog restarts, the scrub pass ages, a qualified dip episode closes,
arming completes (R469, R478, R480, R498). -/
def execTickHeartbeat (s : State) : Host.Outcome State Fault Refusal :=
  s.runSaf (fun o d =>
    match d.tick.toSafe with
    | [] => d
    | b :: bs =>
      let d : Dev := { d with
        tick := { d.tick with toSafe := bs }
        saf := { d.saf with hbAt := d.now, hbN := d.rd (.tck .PERIOD_N), hbDone := false } }
      let d := if d.saf.scrubRun then d.wr (.saf .MON_STATUS_SCRUB_AGE) (min 255 (d.rd (.saf .MON_STATUS_SCRUB_AGE) + 1)) else d
      let d := if d.pwr.dip.any (·.qualified) then d.closeDip (!b.stopping) else d
      d.beatMonitor o b.tick)

/-- A warning sets its bit (R476). -/
def Dev.takeWarning (d : Dev) (bit : Nat) : Dev := (d.setFldBit (.saf .WARN_WARN) bit).wr (.saf .EVT_WARN) 1

/-- Faults that arrive in one SAFE cycle: every bit is set, and the lowest code trips the monitor, or ends an arming (R468, R470, R491). -/
def Dev.takeFaults (d : Dev) (fs : List Report) : Dev :=
  let d := fs.foldl (fun d r => d.setFldBit (.saf .FAULT_FAULTS) (r.code - 1)) d
  let low := fs.foldl (fun m r => min m r.code) 31
  match fs.find? (fun r => r.code = low) with
  | none => d
  | some r =>
    if d.safState = 1 then (d.wrs [(.saf .STATE_STATE, 0), (.saf .RESULT_LAST, 8)]).wdtRestart
    else if d.safState = 2 ∨ d.safState = 4 then d.trip r.code r.detail
    else d

/-- FAULT_REPORT: the oldest `n` reports in flight arrive in SAFE in one cycle (R470, R475, R476). -/
def execFaultReport (n : Nat) (s : State) : Host.Outcome State Fault Refusal :=
  s.runSaf (fun _ d =>
    let rs := d.toSafe.take n
    let d : Dev := { d with toSafe := d.toSafe.drop n }
    let d := (rs.filter (·.warn)).foldl (fun d r => d.takeWarning r.code) d
    d.takeFaults (rs.filter (fun r => !r.warn)))

/-! ### Output pins -/

/-- SAFE_OUT_REFRESH_TIMEOUT: 10 µs after the last refresh the output cell de-energises the pins (R473). -/
def execSafeOutRefreshTimeout (s : State) : Host.Outcome State Fault Refusal :=
  s.runSaf (fun _ d =>
    if d.safState ≠ 2 ∨ d.saf.outDead then d
    else { d.elapse 10000 with saf := { d.saf with outDead := true } }.drive false)

/-- OUT_READBACK_FAULT: the pads have read `a` and `b` for 2 µs (R474). -/
def execOutReadbackFault (a b : Bool) (s : State) : Host.Outcome State Fault Refusal :=
  s.runSaf (fun _ d =>
    let on : Bool := d.safState = 2 && !d.saf.outDead
    let bad : Bool := a ≠ on || b = on
    let d := (d.elapse 2000).wrs [(.saf .PIN_STATUS_OUT_A, b2n a), (.saf .PIN_STATUS_OUT_B, b2n b), (.saf .PIN_STATUS_READBACK_ERR, b2n bad)]
    if bad then d.fault 18 0 else d)

/-! ### Watchdogs and monitors -/

/-- TICK_WATCHDOG_EXPIRY: ceil(1.18 × N × 1,562.5) SAFE cycles of 20 ns after the last heartbeat (R478). -/
def execTickWatchdogExpiry (s : State) : Host.Outcome State Fault Refusal :=
  s.runSaf (fun _ d =>
    if !d.armed ∨ !d.is (.tck .STATUS_RUNNING) ∨ d.saf.hbDone then d
    else
      let d := d.elapse (d.saf.hbAt + ceilDiv (7375 * d.saf.hbN) 4 * 20 - d.now)
      ({ d with saf := { d.saf with hbDone := true } } : Dev).fault 5 0)

/-- CLOCK_MONITOR_FAULT: the clock of a domain (CORE, FAB, MGMT, PCU, PCD, ETH, TIME) is more than 5 % off or stopped, or is right again; in
A3 only TIME is monitored (R479, R505). -/
def execClockMonitorFault (domain : Fin 7) (fail : Bool) (s : State) : Host.Outcome State Fault Refusal :=
  s.runSaf (fun _ d =>
    if d.pwrState = 3 ∧ domain.val ≠ 6 then d
    else if !fail then d.wr (.saf .MON_STATUS_CLK_FAIL) (clrBit (d.rd (.saf .MON_STATUS_CLK_FAIL)) domain)
    else if bitAt (d.rd (.saf .MON_STATUS_CLK_FAIL)) domain then d
    else (d.setFldBit (.saf .MON_STATUS_CLK_FAIL) domain).fault 6 domain)

/-- SAFE_OSC_WINDOW: a window of the AON level ends with `count` SAFE cycles; more than 5 % from 24,414 is reported (R479). -/
def execSafeOscWindow (count : Nat) (s : State) : Host.Outcome State Fault Refusal :=
  s.runSaf (fun _ d =>
    if 24414 < 20 * (count - 24414) ∨ 24414 < 20 * (24414 - count) then (d.wr (.saf .MON_STATUS_OSC_FAIL) 1).fault 7 0
    else d.wr (.saf .MON_STATUS_OSC_FAIL) 0)

/-- Whether the HOST_ALIVE watchdog has run out and its fault is not reported (R481). -/
def Dev.haLate (d : Dev) : Bool :=
  d.armed && !d.is (.saf .HA_STATUS_EXPIRED) && d.saf.haAt + d.rd (.saf .HA_CFG_MAX_US) * 1000 ≤ d.now

/-- HOST_ALIVE_EDGE: an edge of the filtered level, `after` ns from the previous command; one in or after the cycle of expiry does not
prevent it (R481). -/
def execHostAliveEdge (after : Nat) (s : State) : Host.Outcome State Fault Refusal :=
  s.runSaf (fun _ d =>
    let d := d.elapse after
    let d := if d.haLate then d.fault 13 0 else d
    let early : Bool := match d.saf.haEdge with
      | some t => d.armed && d.now < t + d.rd (.saf .HA_CFG_MIN_US) * 1000
      | none => false
    let d := d.wrs [(.saf .HA_STATUS_EDGES, (d.rd (.saf .HA_STATUS_EDGES) + 1) % 65536), (.saf .HA_STATUS_EXPIRED, 0),
      (.saf .PIN_STATUS_HOST_ALIVE, 1 - d.rd (.saf .PIN_STATUS_HOST_ALIVE))]
    let d : Dev := { d with saf := { d.saf with haAt := d.now, haEdge := some d.now } }
    if early then d.fault 13 1 else d)

/-- HOST_ALIVE_EXPIRY: no edge for MAX_US µs while the monitor is armed (R481). -/
def execHostAliveExpiry (s : State) : Host.Outcome State Fault Refusal :=
  s.runSaf (fun _ d =>
    if !d.armed ∨ d.is (.saf .HA_STATUS_EXPIRED) then d
    else ((d.elapse (d.saf.haAt + d.rd (.saf .HA_CFG_MAX_US) * 1000 - d.now)).wr (.saf .HA_STATUS_EXPIRED) 1).fault 13 0)

/-- SAFE_IN_ACTIVE: SAFE_IN has been held at a level for 1 µs (R482). -/
def execSafeInActive (level : Bool) (s : State) : Host.Outcome State Fault Refusal :=
  s.runSaf (fun _ d =>
    let d := (d.elapse 1000).wr (.saf .PIN_STATUS_SAFE_IN) (b2n level)
    if d.armed ∧ d.safeInActive then d.fault 14 0 else d)

/-- BC_WINDOW_EXPIRY: in cycle 0 of a boundary receive channel `c` has had no valid frame for WINDOW ticks (R487). -/
def execBcWindowExpiry (c : Fin 16) (s : State) : Host.Outcome State Fault Refusal :=
  s.runSaf (fun _ d =>
    if d.is (.saf .CTRL_RX_CHECK) ∧ d.is (.saf (.BC_CFG_EN c)) ∧ !d.is (.saf (.BC_CFG_DIR c)) ∧ !d.is (.saf (.BC_STATUS_STATE c)) ∧
        d.tick.coreRun ∧ d.rd (.saf (.BC_CFG_WINDOW c)) ≤ (d.tick.coreTick + 2 ^ 32 - d.rd (.saf (.BC_LAST_TICK_TICK c))) % 2 ^ 32 then
      (d.wr (.saf (.BC_STATUS_STATE c)) 1).fault 12 c
    else d)

/-! ### Scrub -/

/-- A scrub pass begins at line 0; its age counts from the boundary that ended the last one, or from now (R480, R500). -/
def Dev.scrubBegin (d : Dev) : Dev :=
  if !d.saf.scrubNew then d
  else
    let d := if d.saf.scrubRun then d else d.wr (.saf .MON_STATUS_SCRUB_AGE) 0
    { d with saf := { d.saf with scrubAt := 0, scrubNew := false, scrubRun := true } }

/-- The next `k` lines of the pass read; the pass ends with the last line (R27, R28, R480, R500). -/
def Dev.scrubLines (d : Dev) (k : Nat) : Dev :=
  let a := d.saf.scrubAt
  let n := min k (lineCount - a)
  let d := (lineRun a n).foldl (fun d l => (d.readLine l).2.2) d
  let d : Dev := { d with saf := { d.saf with scrubAt := a + n } }
  if a + n < lineCount then d
  else
    let d : Dev := { d with saf := { d.saf with scrubNew := true, scrubRun := false } }
    (d.wr (.saf .MON_STATUS_PASSES) ((d.rd (.saf .MON_STATUS_PASSES) + 1) % 65536)).wr (.pwr .SUP_STATUS_SCRUB_PENDING) 0

/-- Whether a scrub occurrence makes the Almanac verification of a closed dip episode (R501). -/
def Dev.scrubVerifies (d : Dev) : Bool :=
  d.is (.pwr .SUP_STATUS_VERIFY_PENDING) && !(List.range 64).any (fun n => (d.slot n).on && (d.slot n).kind = 4 && (d.slot n).step = 4)

/-- The start of a scrub occurrence: the verification of R501 where it makes it, a new pass where one is due; and the cycles spent before
its first line. -/
def Dev.scrubOpen (d : Dev) : Dev × Nat :=
  if d.scrubVerifies then
    ((((List.range 14).foldl Dev.verifyEntry d).wr (.pwr .SUP_STATUS_VERIFY_PENDING) 0).scrubBegin, 600)
  else (d.scrubBegin, 200)

/-- SCRUB_STEP: the running occurrence of task 0x01 in slot `n` reads its lines and ends (R480, R501). -/
def execScrubStep (n : Fin 64) (s : State) : Host.Outcome State Fault Refusal :=
  s.run (fun d =>
    if !d.taskRuns n 1 then d
    else
      let (d, lead) := d.scrubOpen
      let k := min (((d.slot n).budget - lead) / 8) (lineCount - d.saf.scrubAt)
      ((d.scrubLines k).elapseCyc ((d.occ n).dispAt + lead + 8 * k)).endOcc n 0)

/-- A scrub occurrence is cut now: the lines read before are kept and the next occurrence goes on from there (R65). -/
def Dev.scrubCut (d : Dev) (n : Nat) : Dev :=
  let c := d.tick.cyc - (d.occ n).dispAt
  if d.scrubVerifies ∧ c < 400 then d else
  let (d, lead) := d.scrubOpen
  d.scrubLines (min ((c - lead) / 8) (((d.slot n).budget - lead) / 8))

/-- SCRUB_LATE: the 64th boundary of an unfinished pass: fault, and a new pass with the tick this boundary begins (R480). -/
def execScrubLate (s : State) : Host.Outcome State Fault Refusal :=
  s.runSaf (fun _ d =>
    if !d.saf.scrubRun ∨ d.rd (.saf .MON_STATUS_SCRUB_AGE) < 64 then d
    else (({ d with saf := { d.saf with scrubNew := true } } : Dev).wr (.saf .MON_STATUS_SCRUB_AGE) 0).fault 10 0)

end Sys2Proof.Machine
end

