-- ==== Sys2Proof/Machine/Power.lean ====
section
/-! DEFINITION.  Internal power states: the choice, entry, scheduled wakes, wake sources, PME (R505 to R520). -/

namespace Sys2Proof.Machine

open Sys2Proof

/-- Whether a function is active (R377). -/
def Dev.fnActive (d : Dev) (f : Nat) : Bool := d.fnExists f && d.inD0 f && d.is (.cs f .CMD_BME)

/-- T_fn in ns; none for unlimited (R509). -/
def Dev.tolerance (d : Dev) : Option Nat :=
  (((List.range 50).filter (fun f => d.fnActive f && d.is (.hep (.FN_CTRL_REQ f)))).map (fun f =>
    d.rd (.hep (.FN_CTRL_LAT_VALUE f)) * 32 ^ d.rd (.hep (.FN_CTRL_LAT_SCALE f)))).min?

/-- LINK(a) in ns: 0 where PF0's link registers do not enable the link state (R510). -/
def Dev.linkNs (d : Dev) (a : Nat) : Nat :=
  let l1 := bitAt (d.rd (.cs 0 .LC_ASPM)) 1
  let l12 := bitAt (d.rd (.cs 0 .L1SS_EN)) 2
  let l11 := bitAt (d.rd (.cs 0 .L1SS_EN)) 3
  if !l1 then 0
  else if a = 1 then 4000
  else if a = 2 then (if l12 then 64000 else if l11 then 8000 else 0)
  else if a = 3 then (if l12 then 64000 else 0)
  else 0

/-- SVC(a) in ns (R510). -/
def Dev.svcNs (d : Dev) (a : Nat) : Nat := exitNs a + d.linkNs a

/-- ENTRY(a) in ns (R511). -/
def entryNs (a : Nat) : Nat := if a = 1 then 100 else if a = 2 then 10000 else if a = 3 then 300000 else 0

/-- Whether state `a` turns off or gates the resource of slot `n` (R505, R511). -/
def Dev.slotGated (d : Dev) (a n : Nat) : Bool :=
  let s := d.slot n
  s.on && ((a = 3) || (s.kind = 1 && (a = 1 || (a = 2 && s.pair ≠ d.rd (.pwr .CTRL_A2_PAIR)))))

/-- The cycles from now to the START of slot `n`, across the boundary when it has passed (R511). -/
def Dev.toStart (d : Dev) (n : Nat) : Nat :=
  let st := (d.slot n).start
  if d.tick.cyc ≤ st then st - d.tick.cyc else d.rd (.tck .PERIOD_N) * 31250 + st - d.tick.cyc

/-- GAP(a) in ns; none for unlimited (R511). -/
def Dev.gap (d : Dev) (a : Nat) : Option Nat :=
  if !d.is (.tck .STATUS_RUNNING) then none
  else (((List.range 64).filter (fun n => d.slotGated a n)).map (fun n => d.toStart n)).min?

/-- A2 is eligible (R507); no program runs on a pair that A2 turns off. -/
def Dev.eligibleA2 (d : Dev) : Bool :=
  (List.range 4).all (fun p => p = d.rd (.pwr .CTRL_A2_PORT) || !d.portOn p || !d.linkUp p) &&
  d.cry.pipes.all (fun c => c.queue.isEmpty) &&
  (List.range 16).all (fun c => let st := d.rd (.nvt (.CONN_STATE_STATE c)); st = 0 || 4 ≤ st) &&
  (List.range 16).all (fun e => pairOf e = d.rd (.pwr .CTRL_A2_PAIR) || !d.engRuns e)

/-- A3 is eligible (R508, R540). -/
def Dev.eligibleA3 (d : Dev) : Bool :=
  !d.armed && !d.is (.tck .STATUS_RUNNING) && (List.range 4).all (fun p => !d.portOn p || !d.linkUp p) &&
  (List.range 2).all (fun rp => d.rd (.brg (.RP_STATUS_STATE rp)) = 0) && d.hep.tags.all (fun t => t.st ≠ .out) &&
  d.rps.all (fun r => r.tags.all (·.quarantined)) && d.dma.vat.isEmpty && d.classq.isEmpty &&
  !d.used.any (fun l => regionOf l = 1) && d.rd (.hep .CTN_STATUS_STATE) ≠ 2 &&
  d.rd (.sec .DBG_STATUS_LEVEL) = 0 && d.sec.otpOp.isNone && d.sec.arbTo.isNone && d.sec.token.isNone

/-- Whether state `a` passes every test of choose() (R511). -/
def Dev.mayChoose (d : Dev) (a : Nat) : Bool :=
  let deeper : Bool := decide (d.pwrState < a)
  !(a = 3 && (d.armed || !d.eligibleA3)) && !(a = 2 && !d.eligibleA2) && !(deeper && d.is (.pwr .SUP_STATUS_EPISODE_OPEN)) &&
  (match d.tolerance with | some t => decide (d.svcNs a ≤ t) | none => true) &&
  !(deeper && (match d.gap a with | some g => decide (g < entryNs a + exitNs a + d.rd (.pwr .GUARD_NS)) | none => false))

/-- The target state (R511). -/
def Dev.choose (d : Dev) : Nat :=
  (([3, 2, 1].filter (fun a => a ≤ d.rd (.pwr .CTRL_MAX_STATE))).find? (fun a => d.mayChoose a)).getD 0

/-- A1 or A2 entered. -/
def Dev.enterState (d : Dev) (a : Nat) : Dev := ((d.wr (.pwr .STATUS_STATE) a).pwrCnt (a - 1)).pwrEvent .EVT_STATE_CHG

/-- POWER_STATE_CHOICE: the next microsecond of MGMT: the target is chosen and entered, or the state is left for a shallower one; an entry
to A3 whose target has become shallower is aborted (R511, R514, R515). -/
def execPowerStateChoice (s : State) : Host.Outcome State Fault Refusal :=
  s.run (fun d =>
    let d := d.elapse (1000 - d.now % 1000)
    if d.pwrState = 3 ∨ d.pwr.leaving.isSome then d
    else
      let a := d.choose
      let d := d.wr (.pwr .STATUS_TARGET) a
      if d.is (.pwr .STATUS_ENTERING) then (if a < 3 then d.abortA3 else d)
      else if a = 3 then (if d.pwrState = 2 then d else d.enterState 2).wr (.pwr .STATUS_ENTERING) 1
      else if d.pwrState < a then d.enterState a
      else if a < d.pwrState then d.leaveState a
      else d)

/-- SCHEDULED_WAKE: EXIT(a) + GUARD before the START of slot `n`, whose pair the state has gated (A1: ungated) or turned off (A2: the state
is left) (R506, R512, R516). -/
def execScheduledWake (n : Fin 64) (s : State) : Host.Outcome State Fault Refusal :=
  s.run (fun d =>
    if (d.pwrState ≠ 1 ∧ d.pwrState ≠ 2) ∨ !d.slotGated d.pwrState n ∨ !d.is (.tck .STATUS_RUNNING) then d
    else
      let d := d.elapse (d.toStart n - exitNs d.pwrState - d.rd (.pwr .GUARD_NS))
      if d.pwrState = 2 then (if d.is (.pwr .STATUS_ENTERING) then d.abortA3 else d.leaveState 0) else d)

/-- A3_COMMIT: with the link in L1 or down the command is launched to AON; an entry that is no longer eligible is aborted (R514, R515). -/
def execA3Commit (s : State) : Host.Outcome State Fault Refusal :=
  s.run (fun d =>
    if !d.is (.pwr .STATUS_ENTERING) then d
    else if !d.eligibleA3 ∨ d.is (.pwr .SUP_STATUS_EPISODE_OPEN) then d.abortA3
    else if !d.hep.l1 ∧ d.is (.hep .LINK_STATUS_DL_UP) then d
    else
      let d : Dev := { d with pwr := { d.pwr with committed := some d.now } }
      ((d.wrs [(.pwr .STATUS_ENTERING, 0), (.pwr .STATUS_STATE, 3)]).pwrCnt 2).pwrEvent .EVT_STATE_CHG)

/-- POWER_STATE_EXIT_DONE: the exit latency of the state being left has passed (R505). -/
def execPowerStateExitDone (s : State) : Host.Outcome State Fault Refusal := s.run Dev.exitDone

/-- WAKE_SIGNAL_DETECT: signal at the receiver of sleeping port `p` (R516). -/
def execWakeSignalDetect (p : Fin 4) (s : State) : Host.Outcome State Fault Refusal :=
  s.run (fun d =>
    if d.portAsleep p ∧ bitAt (d.rd (.pwr .WAKE_EN_SIGDET)) p then d.wake (fun d => d.setFldBit (.pwr .WAKE_STATUS_SRC) p) else d)

/-- WAKE_TIMER_EXPIRY: COUNT AON cycles have passed since the entry to A3 (R516). -/
def execWakeTimerExpiry (s : State) : Host.Outcome State Fault Refusal :=
  s.run (fun d =>
    if d.rd (.pwr .WAKE_TIMER_COUNT) = 0 then d
    else
      let d := match d.pwr.committed with
        | some c => d.elapse (c + d.rd (.pwr .WAKE_TIMER_COUNT) * 1000000000 / 32768 - d.now)
        | none => d
      d.wake (fun d => d.wr (.pwr .WAKE_STATUS_TIMER) 1))

/-- HOST_LINK_WAKE: the root port leaves L1 or asserts PCIE_CLKREQ_N (R516). -/
def execHostLinkWake (s : State) : Host.Outcome State Fault Refusal :=
  s.run (fun d =>
    let d : Dev := { d with hep := { d.hep with l1 := false } }
    if d.pwrState = 3 ∨ d.is (.pwr .STATUS_ENTERING) then d.wake (fun d => d.wr (.pwr .WAKE_STATUS_HOST) 1) else d)

/-- MAX_STATE_WRITE: below the current state it makes the device leave it (R516). -/
def execMaxStateWrite (v : Fin 4) (s : State) : Host.Outcome State Fault Refusal :=
  s.run (fun d =>
    let d := (d.hostAccess false).wr (.pwr .CTRL_MAX_STATE) v
    if d.is (.pwr .STATUS_ENTERING) ∧ v.val < 3 then d.abortA3
    else if v.val < d.pwrState then d.leaveState 0
    else d)

/-- PME_MESSAGE: PM_PME of function `f`, once the link is in L0 (R519). -/
def execPmeMessage (f : Fin 2) (s : State) : Host.Outcome State Fault Refusal :=
  s.run (fun d =>
    if d.hep.pmeDue.contains f.val ∧ d.is (.hep .LINK_STATUS_DL_UP) then
      ({ d with hep := { d.hep with l1 := false, pmeDue := d.hep.pmeDue.filter (fun g => g ≠ f.val) } } : Dev).emit (.pme f)
    else d)

end Sys2Proof.Machine
end

