-- ==== Sys2Proof/Machine/Tchiphor.lean ====
section
/-! DEFINITION.  The Tchiphor instruction set: its encodings (R217, R218) and the effect of each instruction
(R223 to R238). -/

namespace Sys2Proof.Machine

open Sys2Proof

/-! ### Instructions and encodings -/

/-- A work register number. -/
abbrev Rn := Fin 32

/-- A Tchiphor instruction with its operands (R223 to R238). -/
inductive Op where
  | add (rd a b : Rn) | sub (rd a b : Rn) | and (rd a b : Rn) | or (rd a b : Rn) | xor (rd a b : Rn)
  | shl (rd a b : Rn) | shr (rd a b : Rn) | shrs (rd a b : Rn) | mul (rd a b : Rn)
  | setLt (rd a b : Rn) | setUlt (rd a b : Rn) | bswap (rd a : Rn)
  | addK (rd a : Rn) (imm : BitVec 16) | andK (rd a : Rn) (imm : BitVec 16)
  | orK (rd a : Rn) (imm : BitVec 16) | cati (rd a : Rn) (imm : BitVec 16)
  | shli (rd a : Rn) (pos : Fin 64) | shri (rd a : Rn) (pos : Fin 64) | shrsi (rd a : Rn) (pos : Fin 64)
  | extr (rd a : Rn) (pos lenm1 : Fin 64) | ins (rd a : Rn) (pos lenm1 : Fin 64)
  | brEq (a b : Rn) (off : BitVec 16) | brNe (a b : Rn) (off : BitVec 16)
  | brLt (a b : Rn) (off : BitVec 16) | brGe (a b : Rn) (off : BitVec 16)
  | brUlt (a b : Rn) (off : BitVec 16) | brUge (a b : Rn) (off : BitVec 16)
  | jlink (rd : Rn) (off : BitVec 21) | jlinkr (rd a : Rn) (imm : BitVec 16)
  | ldb (rd a : Rn) (imm : BitVec 16) | ldh (rd a : Rn) (imm : BitVec 16)
  | ldw (rd a : Rn) (imm : BitVec 16) | ldd (rd a : Rn) (imm : BitVec 16)
  | stb (b a : Rn) (imm : BitVec 16) | sth (b a : Rn) (imm : BitVec 16)
  | stw (b a : Rn) (imm : BitVec 16) | std (b a : Rn) (imm : BitVec 16)
  | atomAdd (rd a b : Rn) | atomXch (rd a b : Rn) | atomCas (rd a b : Rn)
  | wadj (rd a : Rn) | wsetl (rd a : Rn)
  | lookupExact (rd a b : Rn) | lookupTernary (rd a b : Rn) | lookupBoth (rd a b : Rn)
  | csum (rd a b : Rn) | crcE (rd a b : Rn) | crcC (rd a b : Rn)
  | take (rd : Rn) | txcq (rd : Rn) | txcan (a : Rn) | copy (rd : Rn)
  | fwd (rd a b : Rn) | deliv (rd a : Rn) | crypt (rd a b : Rn) | bridge (rd a b : Rn) | stor (rd a b : Rn) | drop
  | rdtTick (rd : Rn) | rdtOffset (rd : Rn) | rdtCycles (rd : Rn)
  | waitt (rd a : Rn) | cancel (a : Rn) | fenceSl | yield | halt (code : BitVec 16)
  deriving DecidableEq, Repr

/-- The register number in the five bits from `lo`. -/
def rn (w lo : Nat) : Rn := Fin.ofNat 32 (bitsOf w lo 5)

/-- Format A, opcode 0x01 (R223). -/
def decodeAlu (rd a b : Rn) : Nat → Option Op
  | 0x001 => some (.add rd a b)
  | 0x002 => some (.sub rd a b)
  | 0x003 => some (.and rd a b)
  | 0x004 => some (.or rd a b)
  | 0x005 => some (.xor rd a b)
  | 0x006 => some (.shl rd a b)
  | 0x007 => some (.shr rd a b)
  | 0x008 => some (.shrs rd a b)
  | 0x009 => some (.mul rd a b)
  | 0x00A => some (.setLt rd a b)
  | 0x00B => some (.setUlt rd a b)
  | 0x00C => if b = 0 then some (.bswap rd a) else none
  | _ => none

/-- Format X, opcode 0x08 (R218, R224). -/
def decodeX (rd a : Rn) (pos lenm1 : Fin 64) : Nat → Option Op
  | 0 => if lenm1 = 0 then some (.shli rd a pos) else none
  | 1 => if lenm1 = 0 then some (.shri rd a pos) else none
  | 2 => if lenm1 = 0 then some (.shrsi rd a pos) else none
  | 3 => if pos.val + lenm1.val + 1 ≤ 64 then some (.extr rd a pos lenm1) else none
  | 4 => if pos.val + lenm1.val + 1 ≤ 64 then some (.ins rd a pos lenm1) else none
  | _ => none

/-- Queue operations and disposals, opcode 0x28 (R232). -/
def decodeQueue (rd a b : Rn) : Nat → Option Op
  | 0x000 => if a = 0 ∧ b = 0 then some (.take rd) else none
  | 0x001 => if a = 0 ∧ b = 0 then some (.txcq rd) else none
  | 0x002 => if rd = 0 ∧ b = 0 then some (.txcan a) else none
  | 0x003 => if a = 0 ∧ b = 0 then some (.copy rd) else none
  | 0x004 => some (.fwd rd a b)
  | 0x005 => if b = 0 then some (.deliv rd a) else none
  | 0x006 => some (.crypt rd a b)
  | 0x007 => some (.bridge rd a b)
  | 0x008 => some (.stor rd a b)
  | 0x009 => if rd = 0 ∧ a = 0 ∧ b = 0 then some .drop else none
  | _ => none

/-- The instruction a word encodes; none for a reserved encoding (R217, R218). -/
def Op.decode (w : Nat) : Option Op :=
  let rd := rn w 21
  let a := rn w 16
  let b := rn w 11
  let f := bitsOf w 0 11
  let imm := BitVec.ofNat 16 w
  match bitsOf w 26 6 with
  | 0x01 => decodeAlu rd a b f
  | 0x02 => some (.addK rd a imm)
  | 0x03 => some (.andK rd a imm)
  | 0x04 => some (.orK rd a imm)
  | 0x05 => some (.cati rd a imm)
  | 0x08 => decodeX rd a (Fin.ofNat 64 (bitsOf w 10 6)) (Fin.ofNat 64 (bitsOf w 4 6)) (bitsOf w 0 4)
  | 0x10 => some (.brEq rd a imm)
  | 0x11 => some (.brNe rd a imm)
  | 0x12 => some (.brLt rd a imm)
  | 0x13 => some (.brGe rd a imm)
  | 0x14 => some (.brUlt rd a imm)
  | 0x15 => some (.brUge rd a imm)
  | 0x16 => some (.jlink rd (BitVec.ofNat 21 w))
  | 0x17 => some (.jlinkr rd a imm)
  | 0x18 => some (.ldb rd a imm)
  | 0x19 => some (.ldh rd a imm)
  | 0x1A => some (.ldw rd a imm)
  | 0x1B => some (.ldd rd a imm)
  | 0x1C => some (.stb rd a imm)
  | 0x1D => some (.sth rd a imm)
  | 0x1E => some (.stw rd a imm)
  | 0x1F => some (.std rd a imm)
  | 0x20 => if f = 0 then some (.atomAdd rd a b) else if f = 1 then some (.atomXch rd a b)
      else if f = 2 then some (.atomCas rd a b) else none
  | 0x24 => if b ≠ 0 then none else if f = 0 then some (.wadj rd a) else if f = 1 then some (.wsetl rd a) else none
  | 0x25 => if f = 0 then some (.lookupExact rd a b) else if f = 1 then some (.lookupTernary rd a b)
      else if f = 2 then some (.lookupBoth rd a b) else none
  | 0x26 => if f = 0 then some (.csum rd a b) else none
  | 0x27 => if f = 0 then some (.crcE rd a b) else if f = 1 then some (.crcC rd a b) else none
  | 0x28 => decodeQueue rd a b f
  | 0x2C => if a ≠ 0 ∨ b ≠ 0 then none else if f = 0 then some (.rdtTick rd) else if f = 1 then some (.rdtOffset rd)
      else if f = 2 then some (.rdtCycles rd) else none
  | 0x2D => if b = 0 ∧ f = 0 then some (.waitt rd a) else none
  | 0x2E => if rd = 0 ∧ b = 0 ∧ f = 0 then some (.cancel a) else none
  | 0x3E => if rd = 0 ∧ a = 0 then some (.halt imm) else none
  | 0x3F => if rd ≠ 0 ∨ a ≠ 0 ∨ b ≠ 0 then none else if f = 0 then some .fenceSl else if f = 1 then some .yield else none
  | _ => none

/-- Format A (R217). -/
def fmtA (op : Nat) (rd a b : Rn) (f : Nat) : Nat :=
  op * 2 ^ 26 + rd.val * 2 ^ 21 + a.val * 2 ^ 16 + b.val * 2 ^ 11 + f

/-- Formats K, M and C (R217). -/
def fmtK (op : Nat) (rd a : Rn) (imm : BitVec 16) : Nat := op * 2 ^ 26 + rd.val * 2 ^ 21 + a.val * 2 ^ 16 + imm.toNat

/-- Format X (R217). -/
def fmtX (rd a : Rn) (pos lenm1 : Fin 64) (f : Nat) : Nat :=
  0x08 * 2 ^ 26 + rd.val * 2 ^ 21 + a.val * 2 ^ 16 + pos.val * 2 ^ 10 + lenm1.val * 2 ^ 4 + f

/-- The word of an instruction (R217). -/
def Op.encode : Op → Nat
  | .add rd a b => fmtA 0x01 rd a b 0x001
  | .sub rd a b => fmtA 0x01 rd a b 0x002
  | .and rd a b => fmtA 0x01 rd a b 0x003
  | .or rd a b => fmtA 0x01 rd a b 0x004
  | .xor rd a b => fmtA 0x01 rd a b 0x005
  | .shl rd a b => fmtA 0x01 rd a b 0x006
  | .shr rd a b => fmtA 0x01 rd a b 0x007
  | .shrs rd a b => fmtA 0x01 rd a b 0x008
  | .mul rd a b => fmtA 0x01 rd a b 0x009
  | .setLt rd a b => fmtA 0x01 rd a b 0x00A
  | .setUlt rd a b => fmtA 0x01 rd a b 0x00B
  | .bswap rd a => fmtA 0x01 rd a 0 0x00C
  | .addK rd a i => fmtK 0x02 rd a i
  | .andK rd a i => fmtK 0x03 rd a i
  | .orK rd a i => fmtK 0x04 rd a i
  | .cati rd a i => fmtK 0x05 rd a i
  | .shli rd a p => fmtX rd a p 0 0
  | .shri rd a p => fmtX rd a p 0 1
  | .shrsi rd a p => fmtX rd a p 0 2
  | .extr rd a p l => fmtX rd a p l 3
  | .ins rd a p l => fmtX rd a p l 4
  | .brEq a b o => fmtK 0x10 a b o
  | .brNe a b o => fmtK 0x11 a b o
  | .brLt a b o => fmtK 0x12 a b o
  | .brGe a b o => fmtK 0x13 a b o
  | .brUlt a b o => fmtK 0x14 a b o
  | .brUge a b o => fmtK 0x15 a b o
  | .jlink rd o => 0x16 * 2 ^ 26 + rd.val * 2 ^ 21 + o.toNat
  | .jlinkr rd a i => fmtK 0x17 rd a i
  | .ldb rd a i => fmtK 0x18 rd a i
  | .ldh rd a i => fmtK 0x19 rd a i
  | .ldw rd a i => fmtK 0x1A rd a i
  | .ldd rd a i => fmtK 0x1B rd a i
  | .stb b a i => fmtK 0x1C b a i
  | .sth b a i => fmtK 0x1D b a i
  | .stw b a i => fmtK 0x1E b a i
  | .std b a i => fmtK 0x1F b a i
  | .atomAdd rd a b => fmtA 0x20 rd a b 0
  | .atomXch rd a b => fmtA 0x20 rd a b 1
  | .atomCas rd a b => fmtA 0x20 rd a b 2
  | .wadj rd a => fmtA 0x24 rd a 0 0
  | .wsetl rd a => fmtA 0x24 rd a 0 1
  | .lookupExact rd a b => fmtA 0x25 rd a b 0
  | .lookupTernary rd a b => fmtA 0x25 rd a b 1
  | .lookupBoth rd a b => fmtA 0x25 rd a b 2
  | .csum rd a b => fmtA 0x26 rd a b 0
  | .crcE rd a b => fmtA 0x27 rd a b 0
  | .crcC rd a b => fmtA 0x27 rd a b 1
  | .take rd => fmtA 0x28 rd 0 0 0x000
  | .txcq rd => fmtA 0x28 rd 0 0 0x001
  | .txcan a => fmtA 0x28 0 a 0 0x002
  | .copy rd => fmtA 0x28 rd 0 0 0x003
  | .fwd rd a b => fmtA 0x28 rd a b 0x004
  | .deliv rd a => fmtA 0x28 rd a 0 0x005
  | .crypt rd a b => fmtA 0x28 rd a b 0x006
  | .bridge rd a b => fmtA 0x28 rd a b 0x007
  | .stor rd a b => fmtA 0x28 rd a b 0x008
  | .drop => fmtA 0x28 0 0 0 0x009
  | .rdtTick rd => fmtA 0x2C rd 0 0 0
  | .rdtOffset rd => fmtA 0x2C rd 0 0 1
  | .rdtCycles rd => fmtA 0x2C rd 0 0 2
  | .waitt rd a => fmtA 0x2D rd a 0 0
  | .cancel a => fmtA 0x2E 0 a 0 0
  | .fenceSl => fmtA 0x3F 0 0 0 0
  | .yield => fmtA 0x3F 0 0 0 1
  | .halt c => fmtK 0x3E 0 0 c

/-- Whether an instruction's operands are encodable: the field of EXTR and INS lies within the register (R218). -/
def Op.wf : Op → Bool
  | .extr _ _ p l => p.val + l.val + 1 ≤ 64
  | .ins _ _ p l => p.val + l.val + 1 ≤ 64
  | _ => true

/-! ### Effects: arithmetic, logic and bit fields -/

/-- A two-source operation of class P (R223). -/
def Dev.alu (d : Dev) (e : Nat) (rd a b : Rn) (f : BitVec 64 → BitVec 64 → BitVec 64) : Dev :=
  (d.setWreg e rd (resP2 (d.wreg e a) (d.wreg e b) f)).advance e

/-- A one-source operation of class P (R223, R224). -/
def Dev.alu1 (d : Dev) (e : Nat) (rd a : Rn) (f : BitVec 64 → BitVec 64) : Dev :=
  (d.setWreg e rd (resP1 (d.wreg e a) f)).advance e

/-- 1 for true, 0 for false, as a register value. -/
def flag64 (b : Bool) : BitVec 64 := if b then 1 else 0

/-- A shift amount: rs2[5:0] (R223). -/
def amount (b : BitVec 64) : Nat := b.toNat % 64

/-- The bytes of a register in reverse order (R223). -/
def swap8 (v : BitVec 64) : BitVec 64 := BitVec.ofNat 64 (ofBe (leBytes 8 v.toNat))

/-- The field of `len` bits at `pos`, zero-extended (R224). -/
def extractField (v : BitVec 64) (pos len : Nat) : BitVec 64 := BitVec.ofNat 64 (bitsOf v.toNat pos len)

/-- The low `len` bits of `v` put at `pos` of `old` (R224). -/
def insertField (old v : BitVec 64) (pos len : Nat) : BitVec 64 :=
  BitVec.ofNat 64 (old.toNat - bitsOf old.toNat pos len * 2 ^ pos + v.toNat % 2 ^ len * 2 ^ pos)

/-- ADD (R223). -/
def Dev.doAdd (d : Dev) (e : Nat) (rd a b : Rn) : Dev := d.alu e rd a b (fun x y => x + y)
/-- SUB (R223). -/
def Dev.doSub (d : Dev) (e : Nat) (rd a b : Rn) : Dev := d.alu e rd a b (fun x y => x - y)
/-- AND (R223). -/
def Dev.doAnd (d : Dev) (e : Nat) (rd a b : Rn) : Dev := d.alu e rd a b (fun x y => x &&& y)
/-- OR (R223). -/
def Dev.doOr (d : Dev) (e : Nat) (rd a b : Rn) : Dev := d.alu e rd a b (fun x y => x ||| y)
/-- XOR (R223). -/
def Dev.doXor (d : Dev) (e : Nat) (rd a b : Rn) : Dev := d.alu e rd a b (fun x y => x ^^^ y)
/-- SHL (R223). -/
def Dev.doShl (d : Dev) (e : Nat) (rd a b : Rn) : Dev := d.alu e rd a b (fun x y => x <<< amount y)
/-- SHR (R223). -/
def Dev.doShr (d : Dev) (e : Nat) (rd a b : Rn) : Dev := d.alu e rd a b (fun x y => x >>> amount y)
/-- SHRS (R223). -/
def Dev.doShrs (d : Dev) (e : Nat) (rd a b : Rn) : Dev := d.alu e rd a b (fun x y => x.sshiftRight (amount y))
/-- MUL (R223). -/
def Dev.doMul (d : Dev) (e : Nat) (rd a b : Rn) : Dev := d.alu e rd a b (fun x y => x * y)
/-- SET.LT (R223). -/
def Dev.doSetLt (d : Dev) (e : Nat) (rd a b : Rn) : Dev := d.alu e rd a b (fun x y => flag64 (x.slt y))
/-- SET.ULT (R223). -/
def Dev.doSetUlt (d : Dev) (e : Nat) (rd a b : Rn) : Dev := d.alu e rd a b (fun x y => flag64 (x.ult y))
/-- BSWAP (R223). -/
def Dev.doBswap (d : Dev) (e : Nat) (rd a : Rn) : Dev := d.alu1 e rd a swap8
/-- ADD.K (R223). -/
def Dev.doAddK (d : Dev) (e : Nat) (rd a : Rn) (i : BitVec 16) : Dev := d.alu1 e rd a (fun x => x + sext i)
/-- AND.K (R223). -/
def Dev.doAndK (d : Dev) (e : Nat) (rd a : Rn) (i : BitVec 16) : Dev := d.alu1 e rd a (fun x => x &&& zext i)
/-- OR.K (R223). -/
def Dev.doOrK (d : Dev) (e : Nat) (rd a : Rn) (i : BitVec 16) : Dev := d.alu1 e rd a (fun x => x ||| zext i)
/-- CATI (R223). -/
def Dev.doCati (d : Dev) (e : Nat) (rd a : Rn) (i : BitVec 16) : Dev := d.alu1 e rd a (fun x => (x <<< 16) ||| zext i)
/-- SHLI (R224). -/
def Dev.doShli (d : Dev) (e : Nat) (rd a : Rn) (p : Fin 64) : Dev := d.alu1 e rd a (fun x => x <<< p.val)
/-- SHRI (R224). -/
def Dev.doShri (d : Dev) (e : Nat) (rd a : Rn) (p : Fin 64) : Dev := d.alu1 e rd a (fun x => x >>> p.val)
/-- SHRSI (R224). -/
def Dev.doShrsi (d : Dev) (e : Nat) (rd a : Rn) (p : Fin 64) : Dev := d.alu1 e rd a (fun x => x.sshiftRight p.val)
/-- EXTR (R224). -/
def Dev.doExtr (d : Dev) (e : Nat) (rd a : Rn) (p l : Fin 64) : Dev :=
  d.alu1 e rd a (fun x => extractField x p.val (l.val + 1))
/-- INS: rd is a source (R224). -/
def Dev.doIns (d : Dev) (e : Nat) (rd a : Rn) (p l : Fin 64) : Dev :=
  d.alu e rd rd a (fun o x => insertField o x p.val (l.val + 1))

/-! ### Effects: branches and jumps -/

/-- A branch on two clean registers (R225). -/
def Dev.branch (d : Dev) (e : Nat) (a b : Rn) (off : BitVec 16) (c : BitVec 64 → BitVec 64 → Bool) : Dev :=
  let x := d.wreg e a
  let y := d.wreg e b
  if flagP [x, y] then d.raise e 7 0
  else if c x.1 y.1 then d.modEngine e (fun g => { g with pc := pcPlus g.pc (sext off) })
  else d.advance e

/-- BR.EQ (R225). -/
def Dev.doBrEq (d : Dev) (e : Nat) (a b : Rn) (o : BitVec 16) : Dev := d.branch e a b o (fun x y => x = y)
/-- BR.NE (R225). -/
def Dev.doBrNe (d : Dev) (e : Nat) (a b : Rn) (o : BitVec 16) : Dev := d.branch e a b o (fun x y => x ≠ y)
/-- BR.LT (R225). -/
def Dev.doBrLt (d : Dev) (e : Nat) (a b : Rn) (o : BitVec 16) : Dev := d.branch e a b o (fun x y => x.slt y)
/-- BR.GE (R225). -/
def Dev.doBrGe (d : Dev) (e : Nat) (a b : Rn) (o : BitVec 16) : Dev := d.branch e a b o (fun x y => !x.slt y)
/-- BR.ULT (R225). -/
def Dev.doBrUlt (d : Dev) (e : Nat) (a b : Rn) (o : BitVec 16) : Dev := d.branch e a b o (fun x y => x.ult y)
/-- BR.UGE (R225). -/
def Dev.doBrUge (d : Dev) (e : Nat) (a b : Rn) (o : BitVec 16) : Dev := d.branch e a b o (fun x y => !x.ult y)

/-- JLINK (R225). -/
def Dev.doJlink (d : Dev) (e : Nat) (rd : Rn) (o : BitVec 21) : Dev :=
  let pc := (d.engine e).pc
  (d.setWreg e rd (resC (BitVec.ofNat 64 (pc + 1)))).modEngine e (fun g => { g with pc := pcPlus pc (sext o) })

/-- JLINKR (R225). -/
def Dev.doJlinkr (d : Dev) (e : Nat) (rd a : Rn) (i : BitVec 16) : Dev :=
  let pc := (d.engine e).pc
  let t := d.wreg e a
  if t.2 then d.raise e 7 0
  else (d.setWreg e rd (resC (BitVec.ofNat 64 (pc + 1)))).modEngine e (fun g => { g with pc := (t.1 + sext i).toNat % 16384 })

/-! ### Effects: memory -/

/-- LDB (R226). -/
def Dev.doLdb (d : Dev) (e : Nat) (rd a : Rn) (i : BitVec 16) : Dev := d.load e 1 rd a i
/-- LDH (R226). -/
def Dev.doLdh (d : Dev) (e : Nat) (rd a : Rn) (i : BitVec 16) : Dev := d.load e 2 rd a i
/-- LDW (R226). -/
def Dev.doLdw (d : Dev) (e : Nat) (rd a : Rn) (i : BitVec 16) : Dev := d.load e 4 rd a i
/-- LDD (R226). -/
def Dev.doLdd (d : Dev) (e : Nat) (rd a : Rn) (i : BitVec 16) : Dev := d.load e 8 rd a i
/-- STB (R226). -/
def Dev.doStb (d : Dev) (e : Nat) (b a : Rn) (i : BitVec 16) : Dev := d.storeOp e 1 b a i
/-- STH (R226). -/
def Dev.doSth (d : Dev) (e : Nat) (b a : Rn) (i : BitVec 16) : Dev := d.storeOp e 2 b a i
/-- STW (R226). -/
def Dev.doStw (d : Dev) (e : Nat) (b a : Rn) (i : BitVec 16) : Dev := d.storeOp e 4 b a i
/-- STD (R226). -/
def Dev.doStd (d : Dev) (e : Nat) (b a : Rn) (i : BitVec 16) : Dev := d.storeOp e 8 b a i

/-- ATOM.ADD (R228). -/
def Dev.doAtomAdd (d : Dev) (e : Nat) (rd a b : Rn) : Dev :=
  let y := d.wreg e b
  d.atomic e rd a (fun o => some (o.1 + y.1, flagP [o, y])) y.2

/-- ATOM.XCH: a poisoned value or line leaves the line poisoned (R210, R228). -/
def Dev.doAtomXch (d : Dev) (e : Nat) (rd a b : Rn) : Dev :=
  let y := d.wreg e b
  d.atomic e rd a (fun o => some (y.1, flagP [o, y])) y.2

/-- ATOM.CAS: nothing is stored when rs2, rd or the line is poisoned (R228). -/
def Dev.doAtomCas (d : Dev) (e : Nat) (rd a b : Rn) : Dev :=
  let y := d.wreg e b
  let n := d.wreg e rd
  d.atomic e rd a (fun o => if flagP [o, y, n] then none else if o.1 = y.1 then some n else none) (flagP [y, n])

/-- FENCE.SL (R209). -/
def Dev.doFenceSl (d : Dev) (e : Nat) : Dev := (d.drain e).advance e

/-! ### Effects: the packet window -/

/-- WADJ (R229). -/
def Dev.doWadj (d : Dev) (e : Nat) (rd a : Rn) : Dev :=
  let x := d.wreg e a
  if x.2 then d.raise e 7 0
  else match (d.engine e).fr with
    | none => d.raise e 8 0
    | some o =>
      let k := x.1.toInt
      let head : Int := o.head + k
      let len : Int := o.len - k
      if head < 0 ∨ len < 1 ∨ 9728 < len then d.raise e 5 (ofSigned 32 (0x02000000 + len))
      else
        ((d.modEngine e (fun g => { g with fr := some { o with head := head.toNat, len := len.toNat } })).setWreg e rd
          (resC (BitVec.ofNat 64 len.toNat))).advance e

/-- WSETL (R229). -/
def Dev.doWsetl (d : Dev) (e : Nat) (rd a : Rn) : Dev :=
  let x := d.wreg e a
  if x.2 then d.raise e 7 0
  else match (d.engine e).fr with
    | none => d.raise e 8 0
    | some o =>
      let len := x.1.toNat
      if len < 1 ∨ 9728 < len then d.raise e 5 (0x02000000 + len)
      else
        ((d.modEngine e (fun g => { g with fr := some { o with len := len } })).setWreg e rd (resC x.1)).advance e

/-! ### Effects: lookup, checksum, CRC -/

/-- A LOOKUP of the chosen tables (R230). -/
def Dev.lookupOp (d : Dev) (e : Nat) (rd a b : Rn) (exact tern : Bool) : Dev :=
  let x := d.wreg e a
  let y := d.wreg e b
  if flagP [x, y] then d.raise e 7 0
  else
    match d.boundsAt e x.1.toNat 32, d.placeOf e x.1.toNat with
    | some at_, _ => d.raise e 4 at_
    | none, .local_ off =>
      if x.1.toNat % 32 ≠ 0 then d.raise e 3 x.1.toNat
      else
        let (l, o) := d.ldmAt e off
        let (bs, _, d) := d.readLine l
        let key := sliceB bs o 32
        let km := y.1.toNat % 2 ^ 13
        let (h1, d) := if exact then d.exactLookup key km else (.miss, d)
        let (h2, d) := if tern ∧ h1 = .miss then d.ternLookup key km else (.miss, d)
        let strip := fun r => r - bitsOf r 13 3 * 2 ^ 13
        let v := match h1, h2 with
          | .poison, _ => 0x8000
          | .result r, _ => strip r + 2 ^ 13
          | .miss, .poison => 0x8000
          | .miss, .result r => strip r + 2 ^ 13 + 2 ^ 14
          | .miss, .miss => 0
        (d.setWreg e rd (resC (BitVec.ofNat 64 v))).advance e
    | none, _ => d.raise e 4 x.1.toNat

/-- LOOKUP EXACT (R230). -/
def Dev.doLookupExact (d : Dev) (e : Nat) (rd a b : Rn) : Dev := d.lookupOp e rd a b true false
/-- LOOKUP TERNARY (R230). -/
def Dev.doLookupTernary (d : Dev) (e : Nat) (rd a b : Rn) : Dev := d.lookupOp e rd a b false true
/-- LOOKUP BOTH (R230). -/
def Dev.doLookupBoth (d : Dev) (e : Nat) (rd a b : Rn) : Dev := d.lookupOp e rd a b true true

/-- A sum or CRC over window bytes, starting from rd (R231). -/
def Dev.sumOp (d : Dev) (e : Nat) (rd a b : Rn) (f : BitVec 64 → List Byte → Nat) : Dev :=
  let x := d.wreg e a
  let y := d.wreg e b
  let old := d.wreg e rd
  if flagP [x, y] then d.raise e 7 0
  else match (d.engine e).fr with
    | none => d.raise e 8 0
    | some o =>
      let off := x.1.toNat
      let n := y.1.toNat
      if o.len < off + n then d.raise e 5 (0x02000000 + off + n)
      else
        let (bs, d) := d.winRead o off n
        (d.setWreg e rd (BitVec.ofNat 64 (f old.1 (bs.map (·.1))), old.2 || flagBytes bs)).advance e

/-- CSUM (R231). -/
def Dev.doCsum (d : Dev) (e : Nat) (rd a b : Rn) : Dev :=
  d.sumOp e rd a b (fun o bs => fold16 (o.toNat % 65536 + onesSum bs))

/-- CRC.E (R231). -/
def Dev.doCrcE (d : Dev) (e : Nat) (rd a b : Rn) : Dev :=
  d.sumOp e rd a b (fun o bs => Nat.xor (crcRun 0xEDB88320 (Nat.xor (o.toNat % 2 ^ 32) 0xFFFFFFFF) bs) 0xFFFFFFFF)

/-- CRC.C (R231). -/
def Dev.doCrcC (d : Dev) (e : Nat) (rd a b : Rn) : Dev :=
  d.sumOp e rd a b (fun o bs => Nat.xor (crcRun 0x82F63B78 (Nat.xor (o.toNat % 2 ^ 32) 0xFFFFFFFF) bs) 0xFFFFFFFF)

/-! ### Effects: queue operations and disposals -/

/-- TAKE (R195, R199, R232). -/
def Dev.doTake (d : Dev) (e : Nat) (rd : Rn) : Dev := d.takeFrame e rd

/-- TXCQ (R207, R232). -/
def Dev.doTxcq (d : Dev) (e : Nat) (rd : Rn) : Dev :=
  let p := pairOf e
  match d.txc.getD p [] with
  | [] => (d.setWreg e rd (resC (BitVec.allOnes 64))).advance e
  | r :: rs => (({ d with txc := bankAt 8 [] d.txc p (fun _ => rs) } : Dev).setWreg e rd (resC (BitVec.ofNat 64 r))).advance e

/-- TXCAN: a cancel launched to the port (R153, R232). -/
def Dev.doTxcan (d : Dev) (e : Nat) (a : Rn) : Dev :=
  let x := d.wreg e a
  if x.2 then d.raise e 7 0
  else (d.modPort (bitsOf x.1.toNat 16 2) (fun p => { p with cancels := p.cancels ++ [x.1.toNat % 65536] })).advance e

/-- COPY (R232, R234). -/
def Dev.doCopy (d : Dev) (e : Nat) (rd : Rn) : Dev :=
  match (d.engine e).fr with
  | none => d.raise e 8 0
  | some o =>
    let d := d.drain e
    if 2 ≤ (d.engine e).copies.length then d.refuse e rd 6
    else match d.commit o with
      | none => d.refuse e rd 1
      | some (f, d1) =>
        match d1.copyFrame f with
        | none => d.refuse e rd 1
        | some (c, d) =>
          ((d.modEngine e (fun g => { g with fr := some (.ofFrame f), copies := g.copies ++ [c] })).setWreg e rd
            (resC (statusWord 0 0 false))).advance e

/-- FWD (R235). -/
def Dev.doFwd (d : Dev) (e : Nat) (rd a b : Rn) : Dev :=
  let x := d.wreg e a
  let y := d.wreg e b
  d.dispose e rd [x, y] (fun d _ => d.fwdCheck x.1.toNat) (fun d f => d.fwdAccept e x.1.toNat y.1.toNat f)

/-- DELIV (R301). -/
def Dev.doDeliv (d : Dev) (e : Nat) (rd a : Rn) : Dev :=
  let x := d.wreg e a
  d.dispose e rd [x] (fun d o => d.delivCheck x.1.toNat o.len) (fun d f => d.delivAccept x.1.toNat f)

/-- CRYPT (R240). -/
def Dev.doCrypt (d : Dev) (e : Nat) (rd a b : Rn) : Dev :=
  let x := d.wreg e a
  let y := d.wreg e b
  d.dispose e rd [x, y] (fun d _ => (d, d.cryptCheck x.1.toNat y.1.toNat)) (fun d f => d.cryptAccept x.1.toNat y.1.toNat f)

/-- BRIDGE (R414). -/
def Dev.doBridge (d : Dev) (e : Nat) (rd a b : Rn) : Dev :=
  let x := d.wreg e a
  let y := d.wreg e b
  d.dispose e rd [x, y] (fun d o => (d, d.bridgeCheck x.1.toNat y.1.toNat o.len))
    (fun d f => d.bridgeAccept x.1.toNat y.1.toNat f)

/-- STOR (R270). -/
def Dev.doStor (d : Dev) (e : Nat) (rd a b : Rn) : Dev :=
  let x := d.wreg e a
  let y := d.wreg e b
  d.dispose e rd [x, y] (fun d _ => (d, d.storCheck x.1.toNat)) (fun d f => d.storAccept x.1.toNat y.1.toNat f)

/-- DROP (R232, R233). -/
def Dev.doDrop (d : Dev) (e : Nat) : Dev :=
  match (d.engine e).fr with
  | none => d.raise e 8 0
  | some o => (((d.drain e).nextOpen e).discard o.frame).advance e

/-! ### Effects: tick, timer and control -/

/-- RDT sel 0 (R236). -/
def Dev.doRdtTick (d : Dev) (e : Nat) (rd : Rn) : Dev :=
  (d.setWreg e rd (resC (BitVec.ofNat 64 (d.tick.coreTick % 2 ^ 48)))).advance e

/-- RDT sel 1 (R236). -/
def Dev.doRdtOffset (d : Dev) (e : Nat) (rd : Rn) : Dev :=
  (d.setWreg e rd (resC (BitVec.ofNat 64 d.tick.cyc))).advance e

/-- RDT sel 2 (R236). -/
def Dev.doRdtCycles (d : Dev) (e : Nat) (rd : Rn) : Dev :=
  (d.setWreg e rd (resC (BitVec.ofNat 64 (d.now - (d.engine e).startAt)))).advance e

/-- Whether a WAITT's condition holds (R236). -/
def Dev.waitOver (d : Dev) (w : Waitt) : Bool := w.target ≤ d.tick.cyc || d.tick.coreTick ≠ w.tick

/-- WAITT: the engine stalls (R236). -/
def Dev.doWaitt (d : Dev) (e : Nat) (rd a : Rn) : Dev :=
  let x := d.wreg e a
  if x.2 then d.raise e 7 0
  else
    let word := leAt (d.rawLine (imemLine (pairOf e) ((d.engine e).pc / 16))) (4 * ((d.engine e).pc % 16)) 4
    let w : Waitt := { rd := rd, target := x.1.toNat, tick := d.tick.coreTick, word := word, cyc := d.tick.cyc, issued := d.now }
    d.modEngine e (fun g => { g with wait := some w })

/-- CANCEL: a cancel request for a slot launched to the dispatcher (R236). -/
def Dev.doCancel (d : Dev) (e : Nat) (a : Rn) : Dev :=
  let x := d.wreg e a
  if x.2 then d.raise e 7 0
  else ({ d with tick := { d.tick with cancels := d.tick.cancels ++ [x.1.toNat % 64] } } : Dev).advance e

/-- HALT (R196, R234). -/
def Dev.doHalt (d : Dev) (e : Nat) (code : BitVec 16) : Dev :=
  let g := d.engine e
  if g.fr.isSome ∨ g.copies ≠ [] then d.raise e 9 0
  else if code ≠ 0 then d.raise e 11 0
  else (d.drain e).engEnd e 0

/-- YIELD (R238). -/
def Dev.doYield (d : Dev) (e : Nat) : Dev :=
  if d.engState e = 2 ∧ (d.engine e).fr.isNone then d.doHalt e 0 else d.advance e

/-- The effect of an instruction on engine `e`. -/
def Dev.doOp (d : Dev) (e : Nat) : Op → Dev
  | .add rd a b => d.doAdd e rd a b
  | .sub rd a b => d.doSub e rd a b
  | .and rd a b => d.doAnd e rd a b
  | .or rd a b => d.doOr e rd a b
  | .xor rd a b => d.doXor e rd a b
  | .shl rd a b => d.doShl e rd a b
  | .shr rd a b => d.doShr e rd a b
  | .shrs rd a b => d.doShrs e rd a b
  | .mul rd a b => d.doMul e rd a b
  | .setLt rd a b => d.doSetLt e rd a b
  | .setUlt rd a b => d.doSetUlt e rd a b
  | .bswap rd a => d.doBswap e rd a
  | .addK rd a i => d.doAddK e rd a i
  | .andK rd a i => d.doAndK e rd a i
  | .orK rd a i => d.doOrK e rd a i
  | .cati rd a i => d.doCati e rd a i
  | .shli rd a p => d.doShli e rd a p
  | .shri rd a p => d.doShri e rd a p
  | .shrsi rd a p => d.doShrsi e rd a p
  | .extr rd a p l => d.doExtr e rd a p l
  | .ins rd a p l => d.doIns e rd a p l
  | .brEq a b o => d.doBrEq e a b o
  | .brNe a b o => d.doBrNe e a b o
  | .brLt a b o => d.doBrLt e a b o
  | .brGe a b o => d.doBrGe e a b o
  | .brUlt a b o => d.doBrUlt e a b o
  | .brUge a b o => d.doBrUge e a b o
  | .jlink rd o => d.doJlink e rd o
  | .jlinkr rd a i => d.doJlinkr e rd a i
  | .ldb rd a i => d.doLdb e rd a i
  | .ldh rd a i => d.doLdh e rd a i
  | .ldw rd a i => d.doLdw e rd a i
  | .ldd rd a i => d.doLdd e rd a i
  | .stb b a i => d.doStb e b a i
  | .sth b a i => d.doSth e b a i
  | .stw b a i => d.doStw e b a i
  | .std b a i => d.doStd e b a i
  | .atomAdd rd a b => d.doAtomAdd e rd a b
  | .atomXch rd a b => d.doAtomXch e rd a b
  | .atomCas rd a b => d.doAtomCas e rd a b
  | .wadj rd a => d.doWadj e rd a
  | .wsetl rd a => d.doWsetl e rd a
  | .lookupExact rd a b => d.doLookupExact e rd a b
  | .lookupTernary rd a b => d.doLookupTernary e rd a b
  | .lookupBoth rd a b => d.doLookupBoth e rd a b
  | .csum rd a b => d.doCsum e rd a b
  | .crcE rd a b => d.doCrcE e rd a b
  | .crcC rd a b => d.doCrcC e rd a b
  | .take rd => d.doTake e rd
  | .txcq rd => d.doTxcq e rd
  | .txcan a => d.doTxcan e a
  | .copy rd => d.doCopy e rd
  | .fwd rd a b => d.doFwd e rd a b
  | .deliv rd a => d.doDeliv e rd a
  | .crypt rd a b => d.doCrypt e rd a b
  | .bridge rd a b => d.doBridge e rd a b
  | .stor rd a b => d.doStor e rd a b
  | .drop => d.doDrop e
  | .rdtTick rd => d.doRdtTick e rd
  | .rdtOffset rd => d.doRdtOffset e rd
  | .rdtCycles rd => d.doRdtCycles e rd
  | .waitt rd a => d.doWaitt e rd a
  | .cancel a => d.doCancel e a
  | .fenceSl => d.doFenceSl e
  | .yield => d.doYield e
  | .halt c => d.doHalt e c

/-! ### Retirement -/

/-- The bit of CLASS_MASK that selects an instruction (R578). -/
def Op.smpClass : Op → Nat
  | .brEq .. | .brNe .. | .brLt .. | .brGe .. | .brUlt .. | .brUge .. | .jlink .. | .jlinkr .. => 1
  | .ldb .. | .ldh .. | .ldw .. | .ldd .. => 2
  | .stb .. | .sth .. | .stw .. | .std .. => 3
  | .atomAdd .. | .atomXch .. | .atomCas .. | .fenceSl => 4
  | .lookupExact .. | .lookupTernary .. | .lookupBoth .. | .csum .. | .crcE .. | .crcC .. => 5
  | .take .. | .txcq .. | .txcan .. | .copy .. | .fwd .. | .deliv .. | .crypt .. | .bridge .. | .stor .. | .drop => 6
  | .rdtTick .. | .rdtOffset .. | .rdtCycles .. | .waitt .. | .cancel .. | .yield | .halt .. => 7
  | _ => 0

/-- The base register and displacement of a load or store, its length, and whether it stores. -/
def Op.access : Op → Option (Rn × BitVec 16 × Nat × Bool)
  | .ldb _ a i => some (a, i, 1, false)
  | .ldh _ a i => some (a, i, 2, false)
  | .ldw _ a i => some (a, i, 4, false)
  | .ldd _ a i => some (a, i, 8, false)
  | .stb _ a i => some (a, i, 1, true)
  | .sth _ a i => some (a, i, 2, true)
  | .stw _ a i => some (a, i, 4, true)
  | .std _ a i => some (a, i, 8, true)
  | _ => none

/-- Whether an instruction waits for the store buffer to drain (R209, R210, R234). -/
def Op.drains : Op → Bool
  | .atomAdd .. | .atomXch .. | .atomCas .. | .fenceSl | .copy .. | .fwd .. | .deliv .. | .crypt .. | .bridge .. | .stor ..
  | .drop | .halt .. => true
  | _ => false

/-- The latency of an instruction with a fixed one, else its bound (R239). -/
def Op.latBound : Op → Nat
  | .mul .. => 3
  | .brEq .. | .brNe .. | .brLt .. | .brGe .. | .brUlt .. | .brUge .. | .jlink .. | .jlinkr .. => 2
  | .ldb .. | .ldh .. | .ldw .. | .ldd .. => 40
  | .stb .. | .sth .. | .stw .. | .std .. => 64
  | .atomAdd .. | .atomXch .. | .atomCas .. => 80
  | .fenceSl => 64
  | .lookupExact .. | .lookupTernary .. | .lookupBoth .. => 12
  | .csum .. => 24 + 1216
  | .crcE .. | .crcC .. => 24 + 2432
  | .take .. | .txcq .. => 20
  | .copy .. | .fwd .. | .deliv .. | .crypt .. | .bridge .. | .stor .. | .drop => 84
  | .halt .. => 66
  | _ => 1

/-- DADDR of an instruction (R579); of a disposal, for which the spec names no address, a free value (assumption 4). -/
def Dev.daddrOf (d : Dev) (e : Nat) (op : Op) : Nat × Dev :=
  match op.access with
  | some (a, i, _) => (effAddr (d.wreg e a).1 i, d)
  | none =>
    match op with
    | .atomAdd _ a _ | .atomXch _ a _ | .atomCas _ a _ => ((d.wreg e a).1.toNat, d)
    | .lookupExact _ a _ | .lookupTernary _ a _ | .lookupBoth _ a _ => ((d.wreg e a).1.toNat, d)
    | .csum _ a _ | .crcE _ a _ | .crcC _ a _ => (0x02000000 + (d.wreg e a).1.toNat, d)
    | .fwd .. | .deliv .. | .crypt .. | .bridge .. | .stor .. | .drop => d.fresh
    | _ => (0, d)

/-- Whether an instruction's window access misses the edit buffer (R203, R239). -/
def Dev.winMiss (d : Dev) (e : Nat) (op : Op) : Bool :=
  match (d.engine e).fr with
  | none => false
  | some o =>
    match op.access with
    | some (a, i, n, store) =>
      (match d.placeOf e (effAddr (d.wreg e a).1 i) with
      | .window off => (List.range n).any (fun k =>
          if store then !o.editLines.contains ((o.head + off + k) / 64) else (o.edit (o.head + off + k)).isNone)
      | _ => false)
    | none =>
      match op with
      | .csum _ a b | .crcE _ a b | .crcC _ a b =>
        (List.range (min (d.wreg e b).1.toNat o.len)).any (fun k => (o.edit (o.head + (d.wreg e a).1.toNat + k)).isNone)
      | _ => false

/-- Corrected reads counted so far (R27). -/
def Dev.ceTotal (d : Dev) : Nat := (List.range 7).foldl (fun n r => n + d.rd (.sys (.MEM_CE_CNT_COUNT r))) 0

/-- Instruction `op` with word `w` executes on engine `e` and retires, the read of its word included in `b`; a WAITT that stalls retires
when it ends (R236, R567, R576 to R579). -/
def Dev.execute (d b : Dev) (e w : Nat) (op : Op) : Dev :=
  let (lat, d) := d.fresh
  let (da, d) := d.daddrOf e op
  let miss := d.winMiss e op
  let g := d.engine e
  let d' := (d.modEngine e (fun g => { g with raised := false })).doOp e op
  let r : Retired :=
    { pc := g.pc, word := w, cls := some op.smpClass, daddr := da % 2 ^ 32, lat := 1 + lat % op.latBound, sbFull := 8 ≤ g.sb.length
      winMiss := miss, ce := b.ceTotal ≠ d'.ceTotal, drain := op.drains && g.sb ≠ [], exc := (d'.engine e).raised
      cyc := d.tick.cyc, tick := d.tick.coreTick }
  let d' := match op with
    | .take _ => if g.fr.isNone ∧ (d'.engine e).fr.isSome then d'.count 0x15 e 1 else d'
    | _ => d'
  if (d'.engine e).wait.isSome then d' else d'.retire d e r

/-- A word whose fetch or decoding raises exception `code` retires (R212, R217, R578). -/
def Dev.badWord (d : Dev) (e code : Nat) : Dev :=
  let r : Retired := { pc := (d.engine e).pc, word := 0, cls := none, exc := true, cyc := d.tick.cyc, tick := d.tick.coreTick }
  (d.raise e code 0).retire d e r

/-! ### Issue -/

/-- The instruction word at the program counter of engine `e`, and whether its line reads poisoned (R212, R217). -/
def Dev.fetch (d : Dev) (e : Nat) : Nat × Bool × Dev :=
  let pc := (d.engine e).pc
  let (bs, p, d) := d.readLine (imemLine (pairOf e) (pc / 16))
  (leAt bs (4 * (pc % 16)) 4, p, d)

/-- Whether the occurrence on engine `e` is past its budget: it issues no more (R65, R197). -/
def Dev.overBudget (d : Dev) (e : Nat) : Bool :=
  let n := (d.engine e).slot
  d.engState e = 1 && (d.occ n).dispAt + (d.slot n).budget < d.tick.cyc

/-- Whether engine `e` can issue an instruction: it runs a program, no WAITT holds it, its budget is not used up. -/
def Dev.canIssue (d : Dev) (e : Nat) : Bool :=
  d.unit e = e && d.engRuns e && (d.engine e).wait.isNone && !d.overBudget e

/-- The instruction at the program counter of engine `e`, which the command says is `op`, executes (R212, R219, R222): a
poisoned fetch raises IMEM_UE, a reserved word ILLEGAL; `diff` says that the checking half's output differs (R214).  An
engine that is not about to execute `op` does not (assumption 14). -/
def Dev.issue (d : Dev) (e : Nat) (diff : Bool) (op : Op) : Dev :=
  if !d.canIssue e then d
  else
    let old := d
    let (w, bad, d) := d.fetch e
    if bad then d.badWord e 2
    else match Op.decode w with
      | none => d.badWord e 1
      | some x =>
        if x ≠ op then old
        else if diff ∧ d.lockstep (pairOf e) then
          let (go, d) := d.mismatch e
          if go then d.execute old e w op else d
        else d.execute old e w op

/-- ADD (R223). -/
def execAdd (e : Fin 16) (rd a b : Rn) (s : State) : Host.Outcome State Fault Refusal :=
  s.run (fun d => d.issue e false (.add rd a b))

/-- SUB (R223). -/
def execSub (e : Fin 16) (rd a b : Rn) (s : State) : Host.Outcome State Fault Refusal :=
  s.run (fun d => d.issue e false (.sub rd a b))

/-- AND (R223). -/
def execAnd (e : Fin 16) (rd a b : Rn) (s : State) : Host.Outcome State Fault Refusal :=
  s.run (fun d => d.issue e false (.and rd a b))

/-- OR (R223). -/
def execOr (e : Fin 16) (rd a b : Rn) (s : State) : Host.Outcome State Fault Refusal :=
  s.run (fun d => d.issue e false (.or rd a b))

/-- XOR (R223). -/
def execXor (e : Fin 16) (rd a b : Rn) (s : State) : Host.Outcome State Fault Refusal :=
  s.run (fun d => d.issue e false (.xor rd a b))

/-- SHL (R223). -/
def execShl (e : Fin 16) (rd a b : Rn) (s : State) : Host.Outcome State Fault Refusal :=
  s.run (fun d => d.issue e false (.shl rd a b))

/-- SHR (R223). -/
def execShr (e : Fin 16) (rd a b : Rn) (s : State) : Host.Outcome State Fault Refusal :=
  s.run (fun d => d.issue e false (.shr rd a b))

/-- SHRS (R223). -/
def execShrs (e : Fin 16) (rd a b : Rn) (s : State) : Host.Outcome State Fault Refusal :=
  s.run (fun d => d.issue e false (.shrs rd a b))

/-- MUL (R223). -/
def execMul (e : Fin 16) (rd a b : Rn) (s : State) : Host.Outcome State Fault Refusal :=
  s.run (fun d => d.issue e false (.mul rd a b))

/-- SET_LT (R223). -/
def execSetLt (e : Fin 16) (rd a b : Rn) (s : State) : Host.Outcome State Fault Refusal :=
  s.run (fun d => d.issue e false (.setLt rd a b))

/-- SET_ULT (R223). -/
def execSetUlt (e : Fin 16) (rd a b : Rn) (s : State) : Host.Outcome State Fault Refusal :=
  s.run (fun d => d.issue e false (.setUlt rd a b))

/-- BSWAP (R223). -/
def execBswap (e : Fin 16) (rd a : Rn) (s : State) : Host.Outcome State Fault Refusal :=
  s.run (fun d => d.issue e false (.bswap rd a))

/-- ADD_K (R223). -/
def execAddK (e : Fin 16) (rd a : Rn) (imm : BitVec 16) (s : State) : Host.Outcome State Fault Refusal :=
  s.run (fun d => d.issue e false (.addK rd a imm))

/-- AND_K (R223). -/
def execAndK (e : Fin 16) (rd a : Rn) (imm : BitVec 16) (s : State) : Host.Outcome State Fault Refusal :=
  s.run (fun d => d.issue e false (.andK rd a imm))

/-- OR_K (R223). -/
def execOrK (e : Fin 16) (rd a : Rn) (imm : BitVec 16) (s : State) : Host.Outcome State Fault Refusal :=
  s.run (fun d => d.issue e false (.orK rd a imm))

/-- CATI (R223). -/
def execCati (e : Fin 16) (rd a : Rn) (imm : BitVec 16) (s : State) : Host.Outcome State Fault Refusal :=
  s.run (fun d => d.issue e false (.cati rd a imm))

/-- SHLI (R224). -/
def execShli (e : Fin 16) (rd a : Rn) (pos : Fin 64) (s : State) : Host.Outcome State Fault Refusal :=
  s.run (fun d => d.issue e false (.shli rd a pos))

/-- SHRI (R224). -/
def execShri (e : Fin 16) (rd a : Rn) (pos : Fin 64) (s : State) : Host.Outcome State Fault Refusal :=
  s.run (fun d => d.issue e false (.shri rd a pos))

/-- SHRSI (R224). -/
def execShrsi (e : Fin 16) (rd a : Rn) (pos : Fin 64) (s : State) : Host.Outcome State Fault Refusal :=
  s.run (fun d => d.issue e false (.shrsi rd a pos))

/-- EXTR (R224). -/
def execExtr (e : Fin 16) (rd a : Rn) (pos : Fin 64) (lenm1 : Fin 64) (s : State) : Host.Outcome State Fault Refusal :=
  s.run (fun d => d.issue e false (.extr rd a pos lenm1))

/-- INS (R224). -/
def execIns (e : Fin 16) (rd a : Rn) (pos : Fin 64) (lenm1 : Fin 64) (s : State) : Host.Outcome State Fault Refusal :=
  s.run (fun d => d.issue e false (.ins rd a pos lenm1))

/-- BR_EQ (R225). -/
def execBrEq (e : Fin 16) (a b : Rn) (off : BitVec 16) (s : State) : Host.Outcome State Fault Refusal :=
  s.run (fun d => d.issue e false (.brEq a b off))

/-- BR_NE (R225). -/
def execBrNe (e : Fin 16) (a b : Rn) (off : BitVec 16) (s : State) : Host.Outcome State Fault Refusal :=
  s.run (fun d => d.issue e false (.brNe a b off))

/-- BR_LT (R225). -/
def execBrLt (e : Fin 16) (a b : Rn) (off : BitVec 16) (s : State) : Host.Outcome State Fault Refusal :=
  s.run (fun d => d.issue e false (.brLt a b off))

/-- BR_GE (R225). -/
def execBrGe (e : Fin 16) (a b : Rn) (off : BitVec 16) (s : State) : Host.Outcome State Fault Refusal :=
  s.run (fun d => d.issue e false (.brGe a b off))

/-- BR_ULT (R225). -/
def execBrUlt (e : Fin 16) (a b : Rn) (off : BitVec 16) (s : State) : Host.Outcome State Fault Refusal :=
  s.run (fun d => d.issue e false (.brUlt a b off))

/-- BR_UGE (R225). -/
def execBrUge (e : Fin 16) (a b : Rn) (off : BitVec 16) (s : State) : Host.Outcome State Fault Refusal :=
  s.run (fun d => d.issue e false (.brUge a b off))

/-- JLINK (R225). -/
def execJlink (e : Fin 16) (rd : Rn) (off : BitVec 21) (s : State) : Host.Outcome State Fault Refusal :=
  s.run (fun d => d.issue e false (.jlink rd off))

/-- JLINKR (R225). -/
def execJlinkr (e : Fin 16) (rd a : Rn) (imm : BitVec 16) (s : State) : Host.Outcome State Fault Refusal :=
  s.run (fun d => d.issue e false (.jlinkr rd a imm))

/-- LDB (R226). -/
def execLdb (e : Fin 16) (rd a : Rn) (imm : BitVec 16) (diff : Bool) (s : State) : Host.Outcome State Fault Refusal :=
  s.run (fun d => d.issue e diff (.ldb rd a imm))

/-- LDH (R226). -/
def execLdh (e : Fin 16) (rd a : Rn) (imm : BitVec 16) (diff : Bool) (s : State) : Host.Outcome State Fault Refusal :=
  s.run (fun d => d.issue e diff (.ldh rd a imm))

/-- LDW (R226). -/
def execLdw (e : Fin 16) (rd a : Rn) (imm : BitVec 16) (diff : Bool) (s : State) : Host.Outcome State Fault Refusal :=
  s.run (fun d => d.issue e diff (.ldw rd a imm))

/-- LDD (R226). -/
def execLdd (e : Fin 16) (rd a : Rn) (imm : BitVec 16) (diff : Bool) (s : State) : Host.Outcome State Fault Refusal :=
  s.run (fun d => d.issue e diff (.ldd rd a imm))

/-- STB (R226). -/
def execStb (e : Fin 16) (b a : Rn) (imm : BitVec 16) (diff : Bool) (s : State) : Host.Outcome State Fault Refusal :=
  s.run (fun d => d.issue e diff (.stb b a imm))

/-- STH (R226). -/
def execSth (e : Fin 16) (b a : Rn) (imm : BitVec 16) (diff : Bool) (s : State) : Host.Outcome State Fault Refusal :=
  s.run (fun d => d.issue e diff (.sth b a imm))

/-- STW (R226). -/
def execStw (e : Fin 16) (b a : Rn) (imm : BitVec 16) (diff : Bool) (s : State) : Host.Outcome State Fault Refusal :=
  s.run (fun d => d.issue e diff (.stw b a imm))

/-- STD (R226). -/
def execStd (e : Fin 16) (b a : Rn) (imm : BitVec 16) (diff : Bool) (s : State) : Host.Outcome State Fault Refusal :=
  s.run (fun d => d.issue e diff (.std b a imm))

/-- ATOM_ADD (R228). -/
def execAtomAdd (e : Fin 16) (rd a b : Rn) (diff : Bool) (s : State) : Host.Outcome State Fault Refusal :=
  s.run (fun d => d.issue e diff (.atomAdd rd a b))

/-- ATOM_XCH (R228). -/
def execAtomXch (e : Fin 16) (rd a b : Rn) (diff : Bool) (s : State) : Host.Outcome State Fault Refusal :=
  s.run (fun d => d.issue e diff (.atomXch rd a b))

/-- ATOM_CAS (R228). -/
def execAtomCas (e : Fin 16) (rd a b : Rn) (diff : Bool) (s : State) : Host.Outcome State Fault Refusal :=
  s.run (fun d => d.issue e diff (.atomCas rd a b))

/-- FENCE_SL (R209). -/
def execFenceSl (e : Fin 16) (s : State) : Host.Outcome State Fault Refusal :=
  s.run (fun d => d.issue e false (.fenceSl))

/-- WADJ (R229). -/
def execWadj (e : Fin 16) (rd a : Rn) (s : State) : Host.Outcome State Fault Refusal :=
  s.run (fun d => d.issue e false (.wadj rd a))

/-- WSETL (R229). -/
def execWsetl (e : Fin 16) (rd a : Rn) (s : State) : Host.Outcome State Fault Refusal :=
  s.run (fun d => d.issue e false (.wsetl rd a))

/-- LOOKUP_EXACT (R230). -/
def execLookupExact (e : Fin 16) (rd a b : Rn) (diff : Bool) (s : State) : Host.Outcome State Fault Refusal :=
  s.run (fun d => d.issue e diff (.lookupExact rd a b))

/-- LOOKUP_TERNARY (R230). -/
def execLookupTernary (e : Fin 16) (rd a b : Rn) (diff : Bool) (s : State) : Host.Outcome State Fault Refusal :=
  s.run (fun d => d.issue e diff (.lookupTernary rd a b))

/-- LOOKUP_BOTH (R230). -/
def execLookupBoth (e : Fin 16) (rd a b : Rn) (diff : Bool) (s : State) : Host.Outcome State Fault Refusal :=
  s.run (fun d => d.issue e diff (.lookupBoth rd a b))

/-- CSUM (R231). -/
def execCsum (e : Fin 16) (rd a b : Rn) (diff : Bool) (s : State) : Host.Outcome State Fault Refusal :=
  s.run (fun d => d.issue e diff (.csum rd a b))

/-- CRC_E (R231). -/
def execCrcE (e : Fin 16) (rd a b : Rn) (diff : Bool) (s : State) : Host.Outcome State Fault Refusal :=
  s.run (fun d => d.issue e diff (.crcE rd a b))

/-- CRC_C (R231). -/
def execCrcC (e : Fin 16) (rd a b : Rn) (diff : Bool) (s : State) : Host.Outcome State Fault Refusal :=
  s.run (fun d => d.issue e diff (.crcC rd a b))

/-- TAKE (R195). -/
def execTake (e : Fin 16) (rd : Rn) (diff : Bool) (s : State) : Host.Outcome State Fault Refusal :=
  s.run (fun d => d.issue e diff (.take rd))

/-- TXCQ (R232). -/
def execTxcq (e : Fin 16) (rd : Rn) (diff : Bool) (s : State) : Host.Outcome State Fault Refusal :=
  s.run (fun d => d.issue e diff (.txcq rd))

/-- TXCAN (R232). -/
def execTxcan (e : Fin 16) (a : Rn) (diff : Bool) (s : State) : Host.Outcome State Fault Refusal :=
  s.run (fun d => d.issue e diff (.txcan a))

/-- COPY (R234). -/
def execCopy (e : Fin 16) (rd : Rn) (diff : Bool) (s : State) : Host.Outcome State Fault Refusal :=
  s.run (fun d => d.issue e diff (.copy rd))

/-- FWD (R235). -/
def execFwd (e : Fin 16) (rd a b : Rn) (diff : Bool) (s : State) : Host.Outcome State Fault Refusal :=
  s.run (fun d => d.issue e diff (.fwd rd a b))

/-- DELIV (R301). -/
def execDeliv (e : Fin 16) (rd a : Rn) (diff : Bool) (s : State) : Host.Outcome State Fault Refusal :=
  s.run (fun d => d.issue e diff (.deliv rd a))

/-- CRYPT (R240). -/
def execCrypt (e : Fin 16) (rd a b : Rn) (diff : Bool) (s : State) : Host.Outcome State Fault Refusal :=
  s.run (fun d => d.issue e diff (.crypt rd a b))

/-- BRIDGE (R414). -/
def execBridge (e : Fin 16) (rd a b : Rn) (diff : Bool) (s : State) : Host.Outcome State Fault Refusal :=
  s.run (fun d => d.issue e diff (.bridge rd a b))

/-- STOR (R270). -/
def execStor (e : Fin 16) (rd a b : Rn) (diff : Bool) (s : State) : Host.Outcome State Fault Refusal :=
  s.run (fun d => d.issue e diff (.stor rd a b))

/-- DROP (R232). -/
def execDrop (e : Fin 16) (diff : Bool) (s : State) : Host.Outcome State Fault Refusal :=
  s.run (fun d => d.issue e diff (.drop))

/-- RDT_TICK (R236). -/
def execRdtTick (e : Fin 16) (rd : Rn) (s : State) : Host.Outcome State Fault Refusal :=
  s.run (fun d => d.issue e false (.rdtTick rd))

/-- RDT_TICK_OFFSET (R236). -/
def execRdtTickOffset (e : Fin 16) (rd : Rn) (s : State) : Host.Outcome State Fault Refusal :=
  s.run (fun d => d.issue e false (.rdtOffset rd))

/-- RDT_OCCURRENCE_CYCLES (R236). -/
def execRdtOccurrenceCycles (e : Fin 16) (rd : Rn) (s : State) : Host.Outcome State Fault Refusal :=
  s.run (fun d => d.issue e false (.rdtCycles rd))

/-- WAITT (R236). -/
def execWaitt (e : Fin 16) (rd a : Rn) (s : State) : Host.Outcome State Fault Refusal :=
  s.run (fun d => d.issue e false (.waitt rd a))

/-- CANCEL (R236). -/
def execCancel (e : Fin 16) (a : Rn) (diff : Bool) (s : State) : Host.Outcome State Fault Refusal :=
  s.run (fun d => d.issue e diff (.cancel a))

/-- YIELD (R238). -/
def execYield (e : Fin 16) (s : State) : Host.Outcome State Fault Refusal :=
  s.run (fun d => d.issue e false (.yield))

/-- HALT (R196). -/
def execHalt (e : Fin 16) (code : BitVec 16) (diff : Bool) (s : State) : Host.Outcome State Fault Refusal :=
  s.run (fun d => d.issue e diff (.halt code))

/-- WAITT_RESUME: a WAITT whose condition holds completes (R236). -/
def execWaittResume (e : Fin 16) (s : State) : Host.Outcome State Fault Refusal :=
  s.run (fun d =>
    match (d.engine e).wait with
    | some w => if d.waitOver w then d.waitDone e else d
    | none => d)

/-! ### Debug -/

/-- Whether a debug session may halt or resume half `e`: at D1 a split half, at D2 any (R534, R539). -/
def Dev.mayHalt (d : Dev) (e : Nat) : Bool :=
  d.d2 || (d.rd (.sec .DBG_STATUS_LEVEL) = 1 && !d.lockstep (pairOf e))

/-- ENGINE_HALT: a halt request for a half (R534, R539). -/
def execEngineHalt (e : Fin 16) (s : State) : Host.Outcome State Fault Refusal :=
  s.run (fun d => if d.mayHalt e ∧ !(d.engine e).halted then d.modEngine e (fun g => { g with haltReq := true }) else d)

/-- The other half of a pair. -/
def otherHalf (e : Nat) : Nat := if e % 2 = 0 then e + 1 else e - 1

/-- ENGINE_HALT_TAKES_EFFECT: once no occurrence runs the half halts, its best-effort work preempted; one half of a
lockstep pair halted alone is a mismatch, logged under D2 (R215, R534). -/
def execEngineHaltTakesEffect (e : Fin 16) (s : State) : Host.Outcome State Fault Refusal :=
  s.run (fun d =>
    let u := d.unit e
    if !(d.engine e).haltReq ∨ d.engState u = 1 ∨ d.engState u = 4 then d
    else
      let d := d.preempt u
      let d := d.modEngine e (fun g => { g with haltReq := false, halted := true })
      let d := if d.lockstep (pairOf e) ∧ !(d.engine (otherHalf e)).halted then (d.mismatch u).2 else d
      d.setEngState e 3)

/-- ENGINE_RESUME: a halted half resumes; a lockstep pair with both halves running is idle (R534, R539). -/
def execEngineResume (e : Fin 16) (s : State) : Host.Outcome State Fault Refusal :=
  s.run (fun d =>
    if !d.mayHalt e ∨ !((d.engine e).halted || (d.engine e).haltReq) then d
    else
      let d := d.modEngine e (fun g => { g with haltReq := false, halted := false })
      if d.engState e = 3 ∧ !(d.lockstep (pairOf e) ∧ (d.engine (otherHalf e)).halted) then d.setEngState e 0 else d)

/-- ENGINE_SINGLE_STEP: at D2 a halted half executes the instruction at its program counter (R539). -/
def execEngineSingleStep (e : Fin 16) (s : State) : Host.Outcome State Fault Refusal :=
  s.run (fun d =>
    if !d.d2 ∨ !(d.engine e).halted then d
    else
      let u := d.unit e
      let old := d
      let (w, bad, d) := d.fetch u
      if bad then d.badWord u 2
      else match Op.decode w with
        | none => d.badWord u 1
        | some op => d.execute old u w op)

end Sys2Proof.Machine
end

