-- ==== Sys2Proof/Machine/Tick.lean ====
section
/-! DEFINITION.  The Meridian tick: starting and stopping, boundaries, phases, slots, overruns, the overlay switch in P0, the record FIFO
(R48 to R81, R107 to R109, R117, R159, R201, R520). -/

namespace Sys2Proof.Machine

open Sys2Proof

/-! ### Starting and stopping -/

/-- TICK_START: 1 written to TCK_CTRL.RUN (R49, R55, R98). -/
def execTickStart (s : State) : Host.Outcome State Fault Refusal := s.host Dev.tickStart

/-- TICK_STOP: 0 written to TCK_CTRL.RUN (R55). -/
def execTickStop (s : State) : Host.Outcome State Fault Refusal :=
  s.host (fun d =>
    if d.armed then d.inc (.tck .CANCEL_CNT_REFUSED_RUN)
    else
      let d := d.wr (.tck .CTRL_RUN) 0
      if d.is (.tck .STATUS_RUNNING) then { d with tick := { d.tick with stopReq := true } }
      else { d with tick := { d.tick with startPend := false } })

/-! ### Boundaries in TIME -/

/-- The tick period in ns (R48). -/
def Dev.period (d : Dev) : Nat := d.rd (.tck .PERIOD_N) * 31250

/-- The nominal instant of the next boundary, in the timebase (R49, R108). -/
def Dev.nextNominal (d : Dev) : Nat :=
  if d.tick.first then d.tick.nominal
  else if d.rd (.tck .CTRL_SRC) = 0 then d.tick.nominal + d.period
  else (d.tick.nominal / d.period + 1) * d.period

/-- The instant of the next boundary in unstepped time: the first TIME edge at or after its nominal instant, kept within the limits of R51
from the last boundary. -/
def Dev.nextEdge (d : Dev) : Int :=
  let u : Int := (d.edgeFrom d.nextNominal : Int) - d.tim.steps
  if d.tick.first then u
  else
    let n : Nat := d.rd (.tck .PERIOD_N)
    let last : Int := d.tick.lastReal
    max (last + (ceilDiv (n * 30762) 4 * 4 : Nat)) (min (last + (n * 31738 / 4 * 4 : Nat)) u)

/-- TICK_BOUNDARY: the next boundary is issued: the tick count, the Almanac, the ages, the heartbeat; a stop takes effect
(R49 to R55, R454, R459). -/
def execTickBoundary (s : State) : Host.Outcome State Fault Refusal :=
  s.run (fun d =>
    if !d.tick.startPend ∧ !d.is (.tck .STATUS_RUNNING) then d
    else
      let nom := d.nextNominal
      let u := d.nextEdge
      let off : Int := u + d.tim.steps - (nom : Int)
      let at_ : Nat := (u + d.tim.steps).toNat
      let d := d.elapseTb at_
      let k := if d.tick.first then 0 else (d.rd (.tck .COUNT_TICK) + 1) % 2 ^ 48
      let stop : Bool := d.tick.stopReq && !d.tick.first
      let b : Pulse := { tick := k, stopping := stop }
      let t : Tick := { d.tick with
        startPend := false
        stopReq := false
        first := false
        nominal := nom
        lastReal := u.toNat
        lastTb := at_
        toCore := d.tick.toCore ++ [b]
        toFab := d.tick.toFab ++ [b]
        toEth := d.tick.toEth ++ [b]
        toSafe := d.tick.toSafe ++ [b] }
      let d : Dev := ({ d with tick := t } : Dev).wrs [(.tck .COUNT_TICK, k), (.tck .STATUS_RUNNING, b2n (!stop)),
        (.tck .STATUS_SLEW, b2n (off < 0 || 4 ≤ off))]
      ((List.range 14).foldl (fun d e => d.almApply k e) d).ageClear)

/-! ### Overruns -/

/-- The slots of the Ephemeris in force that run and whose occurrence has not ended. -/
def Dev.openOccs (d : Dev) : List Nat := (List.range 64).filter (fun n => (d.slot n).on && (d.occ n).state ≠ .ended)

/-- Whether the P3 release of port `p` has entries to hand over (R69). -/
def Dev.releaseOpen (d : Dev) (p : Nat) : Bool := ((d.port p).relDue || !(d.port p).relDone) && !(d.port p).relq.isEmpty

/-- The unfinished phases of the tick (R69). -/
def Dev.unfinished (d : Dev) : List Nat :=
  let k := fun (p : Slot → Bool) => d.openOccs.any (fun n => p (d.slot n))
  (if k (fun s => s.kind = 1) then [1] else []) ++ (if k (fun s => s.kind = 2) then [2] else []) ++
    (if (List.range 4).any (fun p => d.releaseOpen p) then [3] else []) ++ (if k (fun s => 3 ≤ s.kind) then [4] else [])

/-- The running occurrence of slot `n` is cut (R65, R197, R345). -/
def Dev.cutOcc (d : Dev) (n : Nat) : Dev :=
  let s := d.slot n
  let d := match s.kind with
    | 1 => d.engCut (d.slotEngine s)
    | 2 => d.tchCut s.channel
    | 3 => d.calCut n
    | _ => if s.step = 1 then d.scrubCut n else d
  if (d.occ n).state = .running then d.endOcc n 1 else d

/-- An overrun: running occurrences are cut, the others abandoned; it is logged, counted and signalled (R70, R71). -/
def Dev.overrun (d : Dev) (phase : Nat) : Dev :=
  let d := (d.occIn .running).foldl Dev.cutOcc d
  let d := d.openOccs.foldl (fun d n => d.endOcc n 3) d
  let d := (d.tckEvent .STATUS_OVR .CTRL_IRQ_OVR_EN).inc (.tck .OVR_CNT_COUNT)
  let d := d.logFirst (.tck .OVR_LOG_VALID) [(.tck .OVR_LOG_TICK, d.tick.coreTick % 2 ^ 24), (.tck .OVR_LOG_PHASE, phase)]
  let d := d.warn 0
  if d.is (.tck .STATUS_LAST_OVR) then (d.wr (.tck .STATUS_OVR2) 1).fault 4 0 else d

/-! ### The overlay switch -/

/-- The best-effort work of the pairs whose mode the switch changes is preempted (R201). -/
def Dev.modePreempt (d : Dev) : Dev :=
  (List.range 8).foldl (fun d p =>
    match d.cfg.shadow.regs.find? (fun e => e.1 = .eng (.PAIR_CFG_MODE p)) with
    | some e => if e.2 ≠ d.rd (.eng (.PAIR_CFG_MODE p)) then (d.preempt (2 * p)).preempt (2 * p + 1) else d
    | none => d) d

/-- A switch whose Ephemeris runs an engine slot below 42,000 cycles on a pair that A2 has off forces the device out of A2 (R520). -/
def Dev.switchWake (d : Dev) : Dev :=
  if d.pwrState = 2 ∧ (List.range 64).any (fun n =>
      (d.slot n).on && (d.slot n).kind = 1 && decide ((d.slot n).start < 42000) && (d.slot n).pair ≠ d.rd (.pwr .CTRL_A2_PAIR)) then
    let d := if d.is (.pwr .STATUS_ENTERING) then d.abortA3 else d.leaveState 0
    ((({ d with pwr := { d.pwr with leaving := none } } : Dev).wr (.pwr .STATUS_STATE) 0).pwrEvent .EVT_STATE_CHG).pwrCnt 4
  else d

/-- The switch in cycle 0 of boundary `k` (R107, R109, R159). -/
def Dev.overlaySwitch (d : Dev) (k : Nat) : Dev :=
  let d := d.laneLookupAll.modePreempt
  let old := d
  let sh := d.cfg.shadow
  let b := d.rd (.cfg .OVL_STATUS_TARGET)
  let touch := d.is (.cfg .OVL_STATUS_TOUCH)
  let d := d.wrs sh.regs
  let d := sh.lines.foldl (fun (d : Dev) (x : Nat × List Byte) => d.writeLine (tableLine x.1) x.2 false) d
  let d := d.wrs [(.cfg .OVL_LOG_TICK, k % 2 ^ 32), (.cfg .OVL_LOG_FROM, d.rd (.cfg .OVL_STATUS_ACTIVE)), (.cfg .OVL_LOG_TO, b),
    (.cfg .OVL_LOG_DEFERRED, min 255 d.cfg.deferred), (.cfg .SIG_REF_CRC, sh.sigRef), (.cfg .OVL_STATUS_ACTIVE, b),
    (.cfg .OVL_STATUS_STATE, 0), (.cfg .OVL_STATUS_LAST_RESULT, 0), (.cfg .OVL_STATUS_TOUCH, 0)]
  let d : Dev := { d with cfg := { d.cfg with bank := 1 - d.cfg.bank, shadow := {}, deferred := 0, confTicks := 0 } }
  let d := d.wr (.tck .MARGIN_PCT) (bitsOf (d.eph 0 4) 8 6)
  let d := d.cfgEvent .STATUS_SWITCHED .CTRL_IRQ_SWITCH_EN
  let d := if touch then d.wrs [(.cfg .CONF_PENDING_DONE, 1), (.hep .PF1_IPEND_CFG, 1)] else d
  let d := if !sh.lines.isEmpty ∨ sh.regs.any (fun e => match e.1 with | .par _ => true | _ => false) then d.fragClear else d
  (d.afterConfig old).switchWake

/-! ### Boundaries in CORE -/

/-- The frames of the last batch discarded at the stopping boundary (R55). -/
def Dev.dropBatch (d : Dev) : Dev :=
  let last := fun (q : QFrame) => d.tick.coreTick ≤ q.frame.info.batch
  let fs := d.classq.filter (fun q => last q)
  let d : Dev := { d with classq := d.classq.filter (fun q => !last q) }
  (fs.foldl (fun d q => d.discard q.frame) d).incBy (.tck .NOTICK_DROP_COUNT) fs.length

/-- BOUNDARY_CORE: cycle 0 of the next boundary in flight: the overrun check of the last tick, the overlay switch, and the new tick, or
the end of the last one (R42, R55, R57, R69 to R71, R107, R115, R117). -/
def execBoundaryCore (s : State) : Host.Outcome State Fault Refusal :=
  s.run (fun d =>
    match d.tick.toCore with
    | [] => d
    | b :: bs =>
      let d := ({ d with tick := { d.tick with toCore := bs } } : Dev).count 0x02 0 1
      let ph := if d.tick.coreRun then d.unfinished else []
      let d := match ph with | p :: _ => (d.overrun p).count 0x03 0 1 | [] => d
      let ovr := !ph.isEmpty
      let d := d.wr (.tck .STATUS_LAST_OVR) (b2n ovr)
      let d : Dev := if d.is (.cfg .CONF_PENDING_PENDING) then { d with cfg := { d.cfg with confTicks := d.cfg.confTicks + 1 } } else d
      let armedSw : Bool := d.rd (.cfg .OVL_STATUS_STATE) = 3
      let d : Dev := if armedSw ∧ ovr then
          ({ d with cfg := { d.cfg with deferred := d.cfg.deferred + 1 } } : Dev).wr (.tck .STATUS_DEFER) 1
        else d
      if b.stopping then
        let d := d.dropBatch
        { d with tick := { d.tick with coreRun := false, p2 := false, p3 := false, p4 := false, occ := List.replicate 64 {} } }
      else
        let d : Dev := { d with tick := { d.tick with
          coreRun := true, coreTick := b.tick, cyc := 0, p2 := false, p3 := false, p4 := false, occ := List.replicate 64 {} } }
        if armedSw ∧ !ovr then d.overlaySwitch b.tick else d)

/-! ### Phases -/

/-- PHASE_OPEN: P2, or P4, opens at its offset (R57). -/
def execPhaseOpen (p4 : Bool) (s : State) : Host.Outcome State Fault Refusal :=
  s.run (fun d =>
    if !d.tick.coreRun then d
    else if p4 then
      let d := d.elapseCyc d.p4Off
      { d with tick := { d.tick with p4 := true } }
    else
      let d := d.elapseCyc d.p2Off
      { d with tick := { d.tick with p2 := true } })

/-- P3_MARK: P3_OFF ns after the boundary TIME issues the mark; the releases of the ports are due (R57, R73). -/
def execP3Mark (s : State) : Host.Outcome State Fault Refusal :=
  s.run (fun d =>
    if !d.tick.coreRun ∨ d.tick.p3 then d
    else
      let d := d.elapseTb (d.edgeFrom (d.tick.lastTb + d.p3Off))
      let d : Dev := { d with tick := { d.tick with p3 := true } }
      (List.range 4).foldl (fun d p => d.modPort p (fun x => { x with relDue := true })) d)

/-! ### Slots -/

/-- Whether the phase of a slot is open (R57, R61). -/
def Dev.phaseOpen (d : Dev) (s : Slot) : Bool := s.kind = 1 || (if s.kind = 2 then d.tick.p2 else d.tick.p4)

/-- SLOT_READY: cycle START of slot `n` (R63). -/
def execSlotReady (n : Fin 64) (s : State) : Host.Outcome State Fault Refusal :=
  s.run (fun d =>
    if !d.tick.coreRun ∨ !(d.slot n).on ∨ (d.occ n).state ≠ .idle ∨ !d.phaseOpen (d.slot n) then d
    else
      let d := d.elapseCyc (d.slot n).start
      d.modOcc n (fun o => { o with state := .ready, readyAt := d.tick.cyc }))

/-- The cycle after the last end on the resource of slot `n` in this tick (R64). -/
def Dev.freeFrom (d : Dev) (n : Nat) : Nat :=
  ((d.occIn .ended).filter (fun m => d.resource (d.slot m) = d.resource (d.slot n) && (d.occ m).dispAt ≠ 0)).foldl
    (fun c m => max c ((d.occ m).endAt + 1)) 0

/-- Whether ready slot `n` is the next on its resource: lowest START, then lowest number (R64). -/
def Dev.slotFirst (d : Dev) (n : Nat) : Bool :=
  (d.occIn .ready).all (fun m => m = n || d.resource (d.slot m) ≠ d.resource (d.slot n) ||
    (d.slot n).start < (d.slot m).start || ((d.slot n).start = (d.slot m).start && n < m))

/-- Whether the engine of a slot cannot take it: halted by a debug session, or off in A2 (R64, R505, R534). -/
def Dev.slotBlocked (d : Dev) (s : Slot) : Bool :=
  s.kind = 1 && (d.engState (d.slotEngine s) = 3 || d.pairOff s.pair)

/-- An engine slot dispatched: FAULT on a FAULTED pair, else its program starts, best-effort work preempted (R64, R194, R200, R214). -/
def Dev.dispatchEngine (d : Dev) (n : Nat) : Dev :=
  let s := d.slot n
  let e := d.slotEngine s
  if d.engState e = 4 then ((d.modOcc n (fun o => { o with dispAt := d.tick.cyc })).endOcc n 4).engCnt e 6
  else (d.preempt e).engStart e 1 s.program s.cls n none d.tick.coreTick n s.budget

/-- SLOT_DISPATCH: ready slot `n` handed to its resource (R64). -/
def execSlotDispatch (n : Fin 64) (s : State) : Host.Outcome State Fault Refusal :=
  s.run (fun d =>
    let sl := d.slot n
    if !d.tick.coreRun ∨ !sl.on ∨ (d.occ n).state ≠ .ready ∨ (d.holder (d.resource sl)).isSome ∨ !d.slotFirst n ∨ d.slotBlocked sl then d
    else
      let d := d.elapseCyc (max (sl.start + 1) (d.freeFrom n))
      let d := d.modOcc n (fun o => { o with state := .running, dispAt := d.tick.cyc })
      match sl.kind with
      | 1 => d.dispatchEngine n
      | 2 => d.flushDue.tchSettle sl.channel
      | _ => d)

/-- SLOT_CUT: the occurrence of slot `n` still runs in cycle D + BUDGET + 1 (R65). -/
def execSlotCut (n : Fin 64) (s : State) : Host.Outcome State Fault Refusal :=
  s.run (fun d =>
    if (d.occ n).state ≠ .running then d
    else (d.elapseCyc ((d.occ n).dispAt + (d.slot n).budget + 1)).cutOcc n)

/-- SLOT_CANCEL: the oldest cancel request in flight is in CORE (R76 to R80). -/
def execSlotCancel (s : State) : Host.Outcome State Fault Refusal :=
  s.run (fun d =>
    match d.tick.cancels with
    | [] => d
    | n :: ns =>
      let d : Dev := { d with tick := { d.tick with cancels := ns } }
      if !d.tick.coreRun ∨ !(d.slot n).on then d.inc (.tck .CANCEL_CNT_STALE)
      else if (d.slot n).safety then d.inc (.tck .CANCEL_CNT_REFUSED)
      else match (d.occ n).state with
        | .ended => d.inc (.tck .CANCEL_CNT_STALE)
        | .running => d.modOcc n (fun o => { o with cancelLate := true })
        | _ => d.endOcc n 2)

/-- A 64-bit read of TCK_REC_FIFO pops one record; an empty FIFO answers EMPTY (R67). -/
def Dev.recPop (d : Dev) : Nat × Dev :=
  match d.tick.fifo with
  | [] => (7 * 2 ^ 38, d)
  | r :: rs => (r, { d with tick := { d.tick with fifo := rs } })

/-- TCK_REC_FIFO_POP (R67). -/
def execTckRecFifoPop (s : State) : Host.Outcome State Fault Refusal := s.host (fun d => d.recPop.2.reply d.recPop.1 8 0 false)

end Sys2Proof.Machine
end

