-- ==== Sys2Proof/Machine/HostLink.lean ====
section
/-! DEFINITION.  The host link: training, configuration registers and their resets, virtual functions, function-level reset, interrupts,
latency reports, link power, errors, containment (R351 to R406). -/

namespace Sys2Proof.Machine

open Sys2Proof

/-- What waits for the host goes on as far as it may: held completions, mirrors, apertures, requests of the modems (R374, R405). -/
def Dev.hostResume (d : Dev) : Dev := d.flushDue.mirrors.apDrain.drainInb

/-! ### Resets of the functions -/

/-- The configuration fields that a reset of a function's configuration registers keeps: the sticky fields of AER, what the boot flash
gave, and what names no register of the function's own (R356, R383, R402). -/
def CsF.kept : CsF → Bool
  | .AER_UE_STS | .AER_UE_MASK | .AER_UE_SEV | .AER_CE_STS | .AER_CE_MASK | .AER_FEP | .AER_HDRLOG0 | .AER_HDRLOG1 | .AER_HDRLOG2
  | .AER_HDRLOG3 | .SUBSYS_VID | .SUBSYS_ID => true
  | _ => false

/-- The configuration registers of function `f` return to their reset values (R372, R402). -/
def Dev.cfgReset (d : Dev) (f : Nat) : Dev :=
  let d : Dev := { d with hep := { d.hep with pmeDue := d.hep.pmeDue.filter (fun g => g ≠ f) } }
  let d : Dev := if f = 0 then { d with hep := { d.hep with ltrSent := none, ltrAt := none } } else d
  d.resetWhere (fun x => match x with | .cs g c => g = f && !c.kept | _ => false)

/-- The registers of function `f` that a function-level reset returns to reset beside its configuration registers (R372). -/
def flrField (f : Nat) : Fld → Bool
  | .msix g _ _ => g = f
  | .pba g => g = f
  | .hep .PF0_IPEND_PEND => f = 0
  | .hep .PF1_IPEND_CFG | .hep .PF1_IPEND_RING | .hep .PF1_IPEND_CTN | .hep .PF1_IPEND_SUPPLY => f = 1
  | .hep (.FN_CTRL_LAT_VALUE g) | .hep (.FN_CTRL_LAT_SCALE g) | .hep (.FN_CTRL_REQ g) => g = f
  | _ => false

/-- The level last signalled on a wire: 0 INTA, 1 INTB (R370). -/
def Dev.sent (d : Dev) (w : Nat) : Bool := if w = 0 then d.hep.sentA else d.is (.hep .PF1_IPEND_SENT)

/-- The level last signalled changed. -/
def Dev.setSent (d : Dev) (w : Nat) (v : Bool) : Dev :=
  if w = 0 then { d with hep := { d.hep with sentA := v } } else d.wr (.hep .PF1_IPEND_SENT) (b2n v)

/-- An INTx message (R370); none while the data link layer is down or the port is contained. -/
def Dev.intxSend (d : Dev) (w : Nat) (v : Bool) : Dev :=
  if !d.is (.hep .LINK_STATUS_DL_UP) ∨ d.frozen ∨ d.sent w = v then d else ((d.emit (.intx v w)).setSent w v).count 0x50 0 1

/-- A function-level reset of function `f` alone (R372, R396): its wire, its registers, its reads, rings and channels, FLR_BUSY; a
downstream read of its channels goes on for nobody (R348). -/
def Dev.flrOne (d : Dev) (f : Nat) : Dev :=
  let d := if f < 2 then d.intxSend f false else d
  let d := (d.cfgReset f).resetWhere (flrField f)
  let own := fun (d : Dev) (t : RpTag) => match t.client with | .chan x _ => d.chF x = f | .flush x => d.chF x = f | _ => false
  let d := [0, 1].foldl (fun (d : Dev) rp => d.modRp rp (fun r => { r with
    tags := updWhere r.tags (own d) (fun t => { t with client := .prefetch }) })) d
  (((d.writeOff (fun t => t.f = f) .writtenOff).ringsReset f).channelsReset f).wr (.hep (.FN_STATUS_FLR_BUSY f)) 1

/-- VF Enable clears: every existing VF is reset and ceases to exist (R354). -/
def Dev.vfOff (d : Dev) : Dev :=
  if !d.is (.cs 0 .SRIOV_VFE) then d
  else ((List.range (d.rd (.cs 0 .SRIOV_NUMVFS))).foldl (fun (d : Dev) n => d.flrOne (2 + n)) d).wr (.cs 0 .SRIOV_VFE) 0

/-- A function-level reset (R372, R373). -/
def Dev.flr (d : Dev) (f : Nat) : Dev :=
  if f = 0 then (List.range 16).foldl (fun (d : Dev) c => d.nvtAbort c) (d.vfOff.flrOne 0) else d.flrOne f

/-- What DL_Down and a Hot Reset do to the configuration registers (R402). -/
def Dev.linkReset (d : Dev) : Dev := (d.vfOff.cfgReset 0).cfgReset 1

/-- Whether a function does not serve memory requests: Memory Space Enable 0, D3hot, or FLR_BUSY (R385); a function that does not exist
serves none (R354). -/
def Dev.memClosed (d : Dev) (f : Nat) : Bool :=
  !d.fnExists f || !(if 2 ≤ f then d.is (.cs 0 .SRIOV_VFMSE) else d.is (.cs f .CMD_MSE)) || !d.inD0 f ||
    d.is (.hep (.FN_STATUS_FLR_BUSY f))

/-- The functions that log an error of a request to function `f` (R382). -/
def Dev.logsFor (d : Dev) (f : Nat) : List Nat := if d.fnExists f then [aerOwner f] else [0, 1]

/-- A non-posted request answered with UR status (R385). -/
def Dev.answerUr (d : Dev) (f : Nat) : Dev := (d.ueError (d.logsFor f) 20 true []).reply 0 0 1 false

/-- A posted request discarded with an Unsupported Request error (R385). -/
def Dev.discardUr (d : Dev) (f : Nat) : Dev := (d.ueError (d.logsFor f) 20 false []).errCnt 8

/-- FUNCTION_LEVEL_RESET: Initiate Function Level Reset written for function `f` (R372, R373). -/
def execFunctionLevelReset (f : Fin 50) (s : State) : Host.Outcome State Fault Refusal :=
  s.run (fun d => let d := d.hostAccess false; if d.fnExists f then (d.flr f).cplDone else d.answerUr f)

/-- FLR_COMPLETE: FLR_BUSY of function `f` clears, no later than 1 ms after the reset (R372, R396). -/
def execFlrComplete (f : Fin 50) (s : State) : Host.Outcome State Fault Refusal :=
  s.run (fun d => d.wr (.hep (.FN_STATUS_FLR_BUSY f)) 0)

/-- VF_ENABLE: VF Enable set; NumVFs virtual functions exist, with their reset values (R354). -/
def execVfEnable (s : State) : Host.Outcome State Fault Refusal :=
  s.run (fun d =>
    let d := d.hostAccess false
    if d.is (.cs 0 .SRIOV_VFE) then d.cplDone
    else ((d.resetWhere (fun x => match x with | .cs g _ => 2 ≤ g | _ => false)).wr (.cs 0 .SRIOV_VFE) 1).cplDone)

/-- VF_DISABLE: VF Enable cleared (R354). -/
def execVfDisable (s : State) : Host.Outcome State Fault Refusal := s.run (fun d => (d.hostAccess false).vfOff.cplDone)

/-! ### The link -/

/-- HOST_LINK_UP: the link trains to a speed and width and the data link layer comes up (R351, R352); not before the header stage of the
boot has ended, nor while PCIE_PERST_N is asserted (R549, R555). -/
def execHostLinkUp (speed : Fin 4) (width : Fin 3) (reversed : Bool) (s : State) : Host.Outcome State Fault Refusal :=
  s.run (fun d =>
    if d.boot.stage ≠ 2 ∨ d.hep.perst ∨ d.is (.hep .LINK_STATUS_DL_UP) then d
    else
      ({ d with hep := { d.hep with turnOff := false, hotReset := false, l1 := false } } : Dev).wrs
        [(.hep .LINK_STATUS_SPEED, speed.val + 1), (.hep .LINK_STATUS_WIDTH, 2 ^ width.val), (.hep .LINK_STATUS_DL_UP, 1),
          (.hep .LINK_STATUS_REVERSED, b2n reversed)])

/-- HOST_LINK_RETRAIN: the host directs a retrain or a speed change while the data link layer stays up (R351). -/
def execHostLinkRetrain (speed : Fin 4) (width : Fin 3) (s : State) : Host.Outcome State Fault Refusal :=
  s.run (fun d =>
    if !d.is (.hep .LINK_STATUS_DL_UP) then d
    else (d.wrs [(.hep .LINK_STATUS_SPEED, speed.val + 1), (.hep .LINK_STATUS_WIDTH, 2 ^ width.val)]).inc (.hep .LINK_CNT_RETRAIN))

/-- Every tag is released and its Vat lines with it (R393, R401). -/
def Dev.dropTags (d : Dev) : Dev := d.hep.tags.foldl Dev.dropTag d

/-- The data link layer goes down (R352, R371, R401, R402). -/
def Dev.hostDown (d : Dev) : Dev :=
  if !d.is (.hep .LINK_STATUS_DL_UP) then d
  else
    let surprise : Bool := !d.hep.hotReset && !d.hep.turnOff
    let d := (d.resetWhere (fun x => match x with
      | .hep .LINK_STATUS_SPEED | .hep .LINK_STATUS_WIDTH | .hep .LINK_STATUS_DL_UP | .hep .LINK_STATUS_REVERSED => true
      | _ => false)).inc (.hep .LINK_CNT_DOWN)
    let d := (({ d with hep := { d.hep with l1 := false } } : Dev).setSent 0 false).setSent 1 false
    let out := d.hep.tags.filter (fun t => t.st = .out)
    let d := (out.foldl (fun (d : Dev) t => d.reqFailed t 0x80) d.dropTags).dropTags.linkReset
    if surprise then (d.errCnt 7).present [6] else d

/-- HOST_LINK_DOWN: the data link layer goes down; without Hot Reset or PME_Turn_Off before it, that is a surprise removal (R401). -/
def execHostLinkDown (s : State) : Host.Outcome State Fault Refusal := s.run Dev.hostDown

/-- HOT_RESET (R402). -/
def execHotReset (s : State) : Host.Outcome State Fault Refusal :=
  s.run (fun d =>
    if !d.is (.hep .LINK_STATUS_DL_UP) then d
    else ({ d with hep := { d.hep with hotReset := true } } : Dev).linkReset)

/-- PME_TURN_OFF: answered with PME_TO_Ack (R401). -/
def execPmeTurnOff (s : State) : Host.Outcome State Fault Refusal :=
  s.run (fun d =>
    if !d.is (.hep .LINK_STATUS_DL_UP) then d
    else ((({ d with hep := { d.hep with turnOff := true } } : Dev).emit .pmeAck).count 0x51 0 1).count 0x50 0 1)

/-- ASPM_L1_ENTRY: after 8 µs without anything to send the device requests L1, in an internal state other than A0 and with L1 enabled
(R379, R510). -/
def execAspmL1Entry (s : State) : Host.Outcome State Fault Refusal :=
  s.run (fun d =>
    if !d.is (.hep .LINK_STATUS_DL_UP) ∨ d.hep.l1 ∨ !bitAt (d.rd (.cs 0 .LC_ASPM)) 1 ∨ d.pwrState = 0 then d
    else let d := d.elapse 8000; { d with hep := { d.hep with l1 := true } })

/-! ### Bus Master Enable and PowerState -/

/-- BUS_MASTER_ENABLE_WRITE: issue for function `f` stops or resumes (R374). -/
def execBusMasterEnableWrite (f : Fin 50) (v : Bool) (s : State) : Host.Outcome State Fault Refusal :=
  s.run (fun d =>
    let d := d.hostAccess false
    if !d.fnExists f then d.answerUr f
    else
      let d := (d.wr (.cs f .CMD_BME) (b2n v)).cplDone
      if v then d.hostResume else d)

/-- POWER_STATE_WRITE: D0 or D3hot; D1 and D2 change nothing; PF1 stays in D0 while the monitor is armed (R375, R376). -/
def execPowerStateWrite (f : Fin 2) (v : Fin 4) (s : State) : Host.Outcome State Fault Refusal :=
  s.run (fun d =>
    let d := d.hostAccess false
    if v.val = 0 then (d.wr (.cs f .PM_STATE) 0).cplDone.hostResume
    else if v.val ≠ 3 then d.cplDone
    else if f.val = 1 ∧ d.armed then (d.inc (.hep .IRQ_DROP_PF1_D3_REFUSED)).cplDone
    else (d.wr (.cs f .PM_STATE) 3).cplDone)

/-! ### Interrupts -/

/-- Whether vector `v` of function `f` is blocked (R366). -/
def Dev.vecBlocked (d : Dev) (f v : Nat) : Bool :=
  !d.is (.cs f .MSIX_EN) || d.is (.cs f .MSIX_FMASK) || bitAt (d.rd (.msix f v 3)) 0 || !d.is (.cs f .CMD_BME) || !d.inD0 f ||
    d.frozen

/-- An MSI-X message: the entry's data written to its address, bits [1:0] taken as 0 (R367). -/
def Dev.msixSend (d : Dev) (f v : Nat) : Dev :=
  let addr := (d.rd (.msix f v 0) + d.rd (.msix f v 1) * 2 ^ 32) / 4 * 4
  (d.emit (.msix f addr (d.rd (.msix f v 2)))).count 0x50 0 1

/-- The pending bit of vector `v`: one message when the vector is not blocked (R366). -/
def Dev.msixUnblock (d : Dev) (f v : Nat) : Dev :=
  if bitAt (d.rd (.pba f)) v ∧ !d.vecBlocked f v then (d.wr (.pba f) (d.rd (.pba f) - 2 ^ v)).msixSend f v else d

/-- An interrupt request of function `f` for vector `v` reaches HEP (R365, R366, R368, R369). -/
def Dev.irqArrive (d : Dev) (f v : Nat) : Dev :=
  if !d.fnExists f then d
  else if f = 1 then d.wr (.hep .PF1_IPEND_RING) 1
  else if 2 ≤ f ∧ 4 ≤ v then d.inc (.hep .IRQ_DROP_VF_VECTOR)
  else if f = 0 ∧ !d.is (.cs 0 .MSIX_EN) then d.setFldBit (.hep .PF0_IPEND_PEND) v
  else (d.setFldBit (.pba f) v).msixUnblock f v

/-- MSIX_REQUEST: the oldest request in flight reaches HEP (R365 to R369). -/
def execMsixRequest (s : State) : Host.Outcome State Fault Refusal :=
  s.run (fun d =>
    match d.irqs with
    | [] => d
    | (f, v) :: rest => ({ d with irqs := rest } : Dev).irqArrive f v)

/-- MSIX_UNBLOCK: a pending vector has become unblocked (R366). -/
def execMsixUnblock (f : Fin 50) (v : Fin 64) (s : State) : Host.Outcome State Fault Refusal := s.run (fun d => d.msixUnblock f v)

/-- SAF_EVT of HEP_PF1_IPEND: the SAF block has an enabled status bit set (R369). -/
def Dev.safEvtLevel (d : Dev) : Bool :=
  [d.rd (.saf .EVT_TRIP), d.rd (.saf .EVT_REARM), d.rd (.saf .EVT_WARN), d.rd (.saf .EVT_CMD_DONE)].zipIdx.any
    (fun e => e.1 ≠ 0 && bitAt (d.rd (.saf .CTRL_IRQ_EN)) e.2)

/-- Whether any source of function `f`'s wire is set: its Interrupt Status (R368, R369). -/
def Dev.intStatus (d : Dev) (f : Nat) : Bool :=
  if f = 0 then d.is (.hep .PF0_IPEND_PEND)
  else d.safeState || d.safEvtLevel || d.is (.hep .PF1_IPEND_CFG) || d.is (.hep .PF1_IPEND_RING) || d.is (.hep .PF1_IPEND_CTN) ||
    d.is (.hep .PF1_IPEND_SUPPLY)

/-- The level of a function's virtual wire (R368, R369). -/
def Dev.wireLevel (d : Dev) (f : Nat) : Bool := d.intStatus f && !d.is (.cs f .CMD_INTDIS) && d.inD0 f

/-- INTX_MESSAGE: the level of INTA (0) or INTB (1) brought to the host (R370, R371). -/
def execIntxMessage (wire : Fin 2) (s : State) : Host.Outcome State Fault Refusal :=
  s.run (fun d => d.intxSend wire (d.wireLevel wire))

/-! ### Latency tolerance -/

/-- A latency (value and scale) clipped to a maximum that is not 0 (R378). -/
def ltrClip (value scale max : Nat) : Nat × Nat :=
  let mv := max % 1024
  let ms := max / 1024
  if mv ≠ 0 ∧ mv * 32 ^ ms < value * 32 ^ scale then (mv, ms) else (value, scale)

/-- The LTR value of the current internal state, snoop and no-snoop, as the message carries it (R378). -/
def Dev.ltrNow (d : Dev) : Nat × Nat :=
  let a := d.pwrState
  let (v, k) := ltrClip (d.rd (.hep (.LTR_VAL_SNOOP_VALUE a))) (d.rd (.hep (.LTR_VAL_SNOOP_SCALE a))) (d.rd (.cs 0 .LTR_MAX_SNOOP))
  let (w, l) := ltrClip (d.rd (.hep (.LTR_VAL_NOSNOOP_VALUE a))) (d.rd (.hep (.LTR_VAL_NOSNOOP_SCALE a)))
    (d.rd (.cs 0 .LTR_MAX_NOSNOOP))
  (v + k * 1024 + d.rd (.hep (.LTR_VAL_SNOOP_REQ a)) * 32768, w + l * 1024 + d.rd (.hep (.LTR_VAL_NOSNOOP_REQ a)) * 32768)

/-- The LTR message that is due, and what is remembered as sent (R378). -/
def Dev.ltrDue (d : Dev) : Option ((Nat × Nat) × Option (Nat × Nat)) :=
  if d.is (.cs 0 .DC2_LTR) then
    (if d.hep.ltrSent = some d.ltrNow then none else some (d.ltrNow, some d.ltrNow))
  else match d.hep.ltrSent with
    | some (a, b) => if bitAt a 15 ∨ bitAt b 15 then some ((a % 32768, b % 32768), none) else none
    | none => none

/-- LTR_MESSAGE: the message that is due, at least 50 µs after the last, with the value then due (R378). -/
def execLtrMessage (s : State) : Host.Outcome State Fault Refusal :=
  s.run (fun d =>
    if !d.is (.hep .LINK_STATUS_DL_UP) ∨ d.ltrDue.isNone then d
    else
      let d := match d.hep.ltrAt with | some t => d.elapse (t + 50000 - d.now) | none => d
      match d.ltrDue with
      | none => d
      | some (m, keep) =>
        (({ d with hep := { d.hep with ltrSent := keep, ltrAt := some d.now } } : Dev).emit (.ltr m.1 m.2)).count 0x50 0 1)

/-! ### Errors -/

/-- HOST_LINK_ERROR: an error of R380 attributable to no function.  Kind 0 to 5: Receiver Error, Bad TLP, Bad DLLP, REPLAY_NUM Rollover,
Replay Timer Timeout, Corrected Internal; 6 to 10: Data Link Protocol, Flow Control Protocol, Receiver Overflow, Malformed TLP,
Uncorrectable Internal (R380 to R382, R398). -/
def execHostLinkError (kind : Fin 11) (s : State) : Host.Outcome State Fault Refusal :=
  s.run (fun d =>
    match kind.val with
    | 0 => d.ceError 0
    | 1 => d.ceError 6
    | 2 => d.ceError 7
    | 3 => d.ceError 8
    | 4 => d.ceError 12
    | 5 => d.ceError 14
    | 6 => d.ueError [0, 1] 4 false []
    | 7 => d.ueError [0, 1] 13 false []
    | 8 => d.ueError [0, 1] 17 false []
    | 9 => d.ueError [0, 1] 18 false []
    | _ => d.ueError [0, 1] 22 false [])

/-- INBOUND_UNSUPPORTED, kinds 0 to 8: memory read and memory write to a function that serves none; memory read of more than 8 bytes; I/O
request; locked read; AtomicOp; Vendor-Defined Message Type 0 and Type 1; configuration write with EP set (R385). -/
def execInboundUnsupported (kind : Fin 9) (f : Fin 50) (s : State) : Host.Outcome State Fault Refusal :=
  s.run (fun d =>
    let d := d.count 0x51 0 1
    match kind.val with
    | 0 => if d.memClosed f then d.answerUr f else d
    | 1 => if d.memClosed f then d.discardUr f else d
    | 6 => d.discardUr f
    | 7 => d.errCnt 8
    | 8 => (d.ueError (d.logsFor f) 12 true []).reply 0 0 1 false
    | _ => d.answerUr f)

/-- POISONED_WRITE_RX: a memory write with EP set is discarded, whatever its target (R386). -/
def execPoisonedWriteRx (f : Fin 50) (s : State) : Host.Outcome State Fault Refusal :=
  s.run (fun d => (((d.count 0x51 0 1).ueError (d.logsFor f) 12 true [3]).errCnt 3).errCnt 8)

/-! ### Containment -/

/-- CTN_FREEZE: 1 written to FREEZE in PF0's DVSEC (R398). -/
def execCtnFreeze (s : State) : Host.Outcome State Fault Refusal := s.run (fun d => ((d.hostAccess false).present [7]).cplDone)

/-- The first failing check of a release; 0 when it passes (R404). -/
def Dev.releaseCode (d : Dev) (seq : Nat) : Nat :=
  if !d.frozen then 1
  else if seq ≠ d.rd (.hep .CTN_STATUS_SEQ) then 2
  else if !d.is (.hep .LINK_STATUS_DL_UP) then 3
  else if d.is (.hep .CTN_CTRL_TRIG_QUAR) ∧ d.rd (.hep .CTN_CTRL_QUAR_LIMIT) ≤ d.quarantined then 4
  else 0

/-- CTN_RELEASE: HEP_CTN_RELEASE written in PF0's DVSEC (R404); the held completions and their mirrors are written (R405). -/
def execCtnRelease (go : Bool) (seq : BitVec 16) (s : State) : Host.Outcome State Fault Refusal :=
  s.run (fun d =>
    let d := (d.hostAccess false).cplDone
    if !go then d
    else
      let code := d.releaseCode seq.toNat
      let d := d.wr (.hep .CTN_RESULT_LAST) code
      if code ≠ 0 then d.inc (.hep .CTN_RESULT_REFUSED) else (d.wr (.hep .CTN_STATUS_STATE) 2).flushDue.mirrors)

/-- The pending MSI-X messages of every function (R405). -/
def Dev.msixAll (d : Dev) : Dev :=
  (List.range 50).foldl (fun (d : Dev) f =>
    if d.is (.pba f) then (List.range 64).foldl (fun (d : Dev) v => d.msixUnblock f v) d else d) d

/-- CTN_RELEASE_COMPLETE: the held completions and the messages have left; the port is in RUN and issue resumes (R405, R406). -/
def execCtnReleaseComplete (s : State) : Host.Outcome State Fault Refusal :=
  s.run (fun d =>
    if d.rd (.hep .CTN_STATUS_STATE) ≠ 2 then d
    else
      let d := d.flushDue.mirrors.msixAll
      let d := (d.intxSend 0 (d.wireLevel 0)).intxSend 1 (d.wireLevel 1)
      ((d.wr (.hep .CTN_STATUS_STATE) 0).ctnEvent .CTN_EVT_RELEASED).hostResume)

end Sys2Proof.Machine
end

