-- ==== Sys2Proof/Machine/Boot.lean ====
section
/-! DEFINITION.  Reset kinds, the watchdog, PCIE_PERST_N, the boot sequence, the flash and the GPIOs (R543 to R560, R566, R593). -/

namespace Sys2Proof.Machine

open Sys2Proof

/-! ### Reset kinds -/

/-- The width of a reset kind, 0 the widest (R551). -/
def ResetKind.rank : ResetKind → Nat
  | .powerOn => 0
  | .powerOnClass => 1
  | .warm => 2
  | .watchdog _ => 3
  | .safety => 4

/-- The wider of two reset kinds (R551). -/
def ResetKind.wider (a b : ResetKind) : ResetKind := if a.rank ≤ b.rank then a else b

/-- The registers held in AON (R503, R543, R550). -/
def aonField : Fld → Bool
  | .pwr .DIP_LOG_MIN | .pwr .DIP_LOG_DUR | .pwr .DIP_LOG_BELOW | .pwr .DIP_LOG_FLASH_ABANDONED | .pwr .DIP_LOG_UV_LONG
  | .pwr .DIP_LOG_REACHED_RESET | .pwr .DIP_LOG_TICK | .pwr .DIP_LOG_VALID | .pwr .DIP_CNT_COUNT | .pwr .WAKE_EN_SIGDET
  | .pwr .WAKE_EN_GPIO | .pwr .WAKE_STATUS_SRC | .pwr .WAKE_STATUS_HOST | .pwr .WAKE_STATUS_TIMER | .pwr .WAKE_TIMER_COUNT
  | .sbd .RST_CAUSE_LAST | .sbd .RST_CAUSE_WDT_SAFETY | .sbd .RST_CAUSE_WARM_CNT | .sbd .RST_CAUSE_WDT_CNT
  | .sbd .RST_CAUSE_SAFETY_CNT => true
  | _ => false

/-- The fields that R383 and R402 keep (R544): the sticky fields of AER and those of the DVSEC, but for STATE (R397). -/
def linkSticky : Fld → Bool
  | .hep .CTN_CTRL_TRIG_FATAL | .hep .CTN_CTRL_TRIG_NONFATAL | .hep .CTN_CTRL_TRIG_POISON | .hep .CTN_CTRL_TRIG_CPL_TMO
  | .hep .CTN_CTRL_TRIG_QUAR | .hep .CTN_CTRL_QUAR_LIMIT | .hep .CTN_STATUS_CAUSE | .hep .CTN_STATUS_SEQ | .hep .CTN_RESULT_LAST
  | .hep .CTN_RESULT_REFUSED | .hep .CTN_LOG_TRIGGERS | .hep .CTN_TICK_TICK | .hep .CPL_TMO_MS => true
  | .cs _ .SUBSYS_VID | .cs _ .SUBSYS_ID => false
  | .cs _ c => c.kept
  | _ => false

/-- The register fields a reset kind keeps (R543, R544). -/
def ResetKind.keeps (k : ResetKind) (x : Fld) : Bool :=
  match x with
  | .tim _ => !k.hitsTim
  | .saf _ => !k.hitsSaf
  | x => (k ≠ .powerOn && aonField x) || (!k.hitsTim && linkSticky x)

/-- Whether a boot load runs (R556). -/
def Dev.bootLoads (d : Dev) : Bool := match d.cfg.load with | some l => l.boot | none => false

/-- Whether the boot sequence of the last reset is still under way (R551). -/
def Dev.booting (d : Dev) : Bool := d.boot.stage < 2 || d.bootLoads

/-- What a reset leaves: every block at its reset values but those the kind keeps; the levels of input pins, time and what has left the
device are not the reset's (R543, R544, R545). -/
def Dev.afterReset (d : Dev) (k : ResetKind) : Dev :=
  { ({} : Dev) with
    regs := d.regs.filter (fun e => k.keeps e.1)
    nextUid := d.nextUid
    freeCount := d.freeCount
    out := d.out
    now := d.now
    tb := if k.hitsTim then 0 else d.tb
    tbFrac := if k.hitsTim then 0 else d.tbFrac
    ethPhase := d.ethPhase
    toSafe := if k.hitsSaf then [] else d.toSafe
    fence := !k.hitsSaf && d.fence
    safeCore := !k.hitsSaf && d.safeCore
    tim := if k.hitsTim then {} else d.tim
    saf := if k.hitsSaf then {} else d.saf
    boot := { kind := k }
    hep := { perst := d.hep.perst }
    rps := d.rps.map (fun r => { clkreqLow := r.clkreqLow }) }

/-- The output pins that a reset changes (R407, R444, R463, R594, R595). -/
def Dev.resetPins (d : Dev) (k : ResetKind) : List Outbound :=
  (if k.hitsSaf ∧ d.is (.saf .PIN_STATUS_OUT_A) then [.safeOut false true] else []) ++
    (if k.hitsTim ∧ d.tim.ppsFall.isSome then [.pps false] else []) ++
    (List.range 2).flatMap (fun rp =>
      (if (d.rp rp).perstN then [.rpPerst rp false] else []) ++ (if d.refclkOn rp then [.rpRefclk rp false] else []))

/-- A reset of a kind; during another's boot sequence the wider of the two scopes acts (R551); one-time-programmable writes in progress
are abandoned. -/
def Dev.resetNow (k : ResetKind) (o : Otp) (d : Dev) : Otp × Dev :=
  let k := if d.booting then d.boot.kind.wider k else k
  let (o, d) := abandonOtp false o d
  let pins := d.resetPins k
  let e := d.afterReset k
  (o, { e with out := e.out ++ pins })

/-- POWER_ON_RESET: VDD_AON below its reset level (R543). -/
def execPowerOnReset (s : State) : Host.Outcome State Fault Refusal := s.runPin (Dev.resetNow .powerOn)

/-- POWER_ON_CLASS_RESET: another rail below its reset level, or the reset comparator; AON writes the record of an open episode (R503,
R543). -/
def execPowerOnClassReset (s : State) : Host.Outcome State Fault Refusal :=
  s.runPin (fun o d =>
    let d := match d.pwr.dip with | some x => d.dipRecord x (d.now - x.openAt) true | none => d
    Dev.resetNow .powerOnClass o d)

/-- A refused reset request (R546, R547). -/
def Dev.rstRefuse (d : Dev) (code : Nat) : Dev := (d.wr (.sbd .RST_RESULT_LAST) code).inc (.sbd .RST_RESULT_REFUSED)

/-- WARM_RESET: SBD_RST_CTRL written with OP WARM and a KEY (R546). -/
def execWarmReset (key : BitVec 8) (s : State) : Host.Outcome State Fault Refusal :=
  s.runOtp (fun o d =>
    let d := d.hostAccess false
    if key ≠ 0xA5 then (o, d.rstRefuse 1)
    else if d.armed then (o, d.rstRefuse 2)
    else Dev.resetNow .warm o d)

/-- SAFETY_RESET: SBD_RST_CTRL written with OP SAFETY and a KEY (R546, R547). -/
def execSafetyReset (key : BitVec 8) (s : State) : Host.Outcome State Fault Refusal :=
  s.runOtp (fun o d =>
    let d := d.hostAccess false
    if key ≠ 0xA5 then (o, d.rstRefuse 1)
    else if d.rd (.saf .STATE_STATE) ≠ 3 then (o, d.rstRefuse 3)
    else Dev.resetNow .safety o d)

/-! ### Watchdog -/

/-- Whether the watchdog counts (R548). -/
def Dev.wdtCounting (d : Dev) : Bool :=
  d.is (.sbd .WDT_CFG_EN) && (d.rd (.saf .STATE_STATE) = 0 || d.rd (.saf .STATE_STATE) = 3) && d.pwrState ≠ 3

/-- WATCHDOG_EXPIRY: the count reaches PERIOD ms; the reset has the scope of the monitor's state (R543, R548). -/
def execWatchdogExpiry (s : State) : Host.Outcome State Fault Refusal :=
  s.runOtp (fun o d =>
    match d.sbd.wdtFrom with
    | none => (o, d)
    | some t =>
      if !d.wdtCounting then (o, d)
      else
        let d := d.elapse (t + d.rd (.sbd .WDT_CFG_PERIOD) * 1000000 - d.sbd.wdtAcc - d.now)
        Dev.resetNow (.watchdog (d.rd (.saf .STATE_STATE) = 3)) o d)

/-- WDT_FEED: SBD_WDT_FEED written (R548). -/
def execWdtFeed (value : BitVec 32) (s : State) : Host.Outcome State Fault Refusal :=
  s.run (fun d =>
    let d := d.hostAccess false
    if value = 0x0000F33D then d.wdtRestart else d.inc (.sbd .WDT_STATUS_BAD_FEED))

/-! ### PCIE_PERST_N -/

/-- HEP held in reset: its registers, but for RWL fields and those R383 and R402 keep; its tags and requests (R543, R544, R549). -/
def Dev.hepReset (d : Dev) : Dev :=
  let d := d.dropTags.resetWhere (fun x => match x with
    | .hep (.RDQ_MAX _) => false
    | .hep _ | .msix _ _ _ | .pba _ => !linkSticky x
    | .cs _ c => !c.kept
    | _ => false)
  { d with hep := { perst := true }, irqs := [], apWait := [] }

/-- PERST_ASSERT: PCIE_PERST_N asserted: every function undergoes its reset, HEP is held in reset (R549). -/
def execPerstAssert (s : State) : Host.Outcome State Fault Refusal :=
  s.runPin (fun o d =>
    if d.hep.perst then (o, d)
    else if d.boot.stage = 0 then (o, { d with hep := { d.hep with perst := true } })
    else (o, (((d.wr (.hep .LINK_STATUS_DL_UP) 0).flr 0).flr 1).hepReset))

/-- PERST_DEASSERT: PCIE_PERST_N deasserted; the link may train once the header stage has ended (R549, R550, R555). -/
def execPerstDeassert (s : State) : Host.Outcome State Fault Refusal :=
  s.runPin (fun o d =>
    if !d.hep.perst then (o, d)
    else
      let d : Dev := { d with hep := { d.hep with perst := false } }
      (o, if d.boot.stage = 0 then d else d.wr (.sbd .RST_CAUSE_LAST) 5))

/-! ### The boot sequence -/

/-- SBD_RST_CAUSE at the release of a reset (R550). -/
def Dev.rstCause (d : Dev) (k : ResetKind) : Dev :=
  let d := d.wr (.sbd .RST_CAUSE_LAST) k.rank
  match k with
  | .warm => d.inc (.sbd .RST_CAUSE_WARM_CNT)
  | .watchdog safety => (d.wr (.sbd .RST_CAUSE_WDT_SAFETY) (b2n safety)).inc (.sbd .RST_CAUSE_WDT_CNT)
  | .safety => d.inc (.sbd .RST_CAUSE_SAFETY_CNT)
  | _ => d

/-- An Almanac entry at its factory default (R452). -/
def Dev.almDefault (o : Otp) (d : Dev) (e : Nat) : Dev :=
  let v := sliceB (o.almanac.getD e []) 0 16
  d.almWrite e ([BitVec.ofNat 8 e, 1] ++ List.replicate 22 0 ++ v ++ v)

/-- RESET_RELEASE: T0.  After a power-on or power-on-class reset a high TEST_EN keeps the device in reset (R593).  The OTP is read, the
memories are initialised, a new challenge is drawn, SFDP is read (R32, R452, R535, R545, R550, R552, R564); `sfdp` says that the flash
has it, with `quad` a 1-4-4 read, `erase` a 4 KiB erase, `addr4` 4-byte addresses, and its density. -/
def execResetRelease (testEn sfdp quad erase addr4 : Bool) (log2 : Fin 32) (s : State) : Host.Outcome State Fault Refusal :=
  s.runPin (fun o d =>
    if d.boot.stage ≠ 0 ∨ (testEn ∧ d.boot.kind.hitsTim) then (o, d)
    else
      let d : Dev := { d with
        mem := []
        marks := []
        boot := { d.boot with stage := 1, t0 := d.now }
        cal := { d.cal with latched := o.almanac }
        sbd := { d.sbd with lfsr := ofLe (o.uid.take 2) } }
      let d := ((d.rstCause d.boot.kind).newChallenge).wr (.sbd .BOOT_STATUS_RESULT) 3
      let d := (List.range 14).foldl (fun (d : Dev) e => Dev.almDefault o d e) d
      let ok := sfdp && quad && erase
      let (n, d) := if sfdp then (log2.val, d) else d.fresh
      (o, d.wrs [(.sbd .SFDP_INFO_LOG2_BYTES, n), (.sbd .SFDP_INFO_QUAD, b2n ok), (.sbd .SFDP_INFO_ADDR4, b2n (sfdp && addr4)),
        (.sbd .SFDP_INFO_FALLBACK, b2n !ok)]))

/-- Whether 256 bytes are a valid boot header (R553). -/
def headerOk (h : List Byte) : Bool :=
  sliceB h 0 4 = [0x56, 0x42, 0x37, 0x48] && leAt h 0xFC 4 = crc32c (sliceB h 0 0xFC) &&
    (sliceB h 0x0F 1 ++ sliceB h 0x20 0xDC).all (fun b => b = 0)

/-- The header copy the boot takes, with its number (R554). -/
def chooseHeader (a b : List Byte) : Option (Nat × List Byte) :=
  if headerOk a ∧ (!headerOk b ∨ leAt b 4 4 ≤ leAt a 4 4) then some (0, a)
  else if headerOk b then some (1, b)
  else none

/-- The boot load of the preferred slot starts (R556). -/
def Dev.bootLoad (d : Dev) : Dev :=
  let (d, ok) := d.bootSlot d.boot.preferB false
  if ok then d else d.bootFirst d.boot.preferB 2

/-- The IDs of the chosen header in force in the functions (R356, R554, R555). -/
def Dev.setIds (d : Dev) (vid id addr : Nat) : Dev :=
  d.wrs [(.cs 0 .SUBSYS_VID, vid), (.cs 0 .SUBSYS_ID, id), (.cs 1 .SUBSYS_VID, vid), (.cs 1 .SUBSYS_ID, id),
    (.sbd .SMB_STATUS_ADDR, addr)]

/-- HEADER_STAGE_END: `a` and `b` are the 256 bytes at 0x0000 and 0x1000: a header is chosen, its IDs and address take effect and the boot
load starts; with none valid no image is loaded (R553 to R556). -/
def execHeaderStageEnd (a b : List Byte) (s : State) : Host.Outcome State Fault Refusal :=
  s.run (fun d =>
    if d.boot.stage ≠ 1 then d
    else match chooseHeader a b with
      | none =>
        let d : Dev := { d with boot := { d.boot with stage := 2 } }
        (d.setIds 0x1F4B 0 0x31).wr (.sbd .BOOT_STATUS_RESULT) 1
      | some (n, h) =>
        let d : Dev := { d with boot := { d.boot with
          stage := 2
          slots := [(leAt h 0x10 4, leAt h 0x14 4), (leAt h 0x18 4, leAt h 0x1C 4)]
          autoRun := bitAt (leAt h 0x0D 1) 0
          preferB := bitAt (leAt h 0x0D 1) 1 } }
        ((d.setIds (leAt h 8 2) (leAt h 0x0A 2) (leAt h 0x0E 1)).wr (.sbd .BOOT_STATUS_HDR) n).bootLoad)

/-! ### The flash -/

/-- The code that refuses a flash command; 0 when it starts (R560). -/
def Dev.flashCode (d : Dev) (op : Nat) : Nat :=
  let a := d.rd (.sbd .FL_ADDR_ADDR)
  if d.sbd.flash.isSome ∨ d.bootLoads then 1
  else if op ≠ 1 ∧ d.inhibited then 2
  else if a % (if op = 3 then 4096 else 256) ≠ 0 ∨ 2 ^ d.rd (.sbd .SFDP_INFO_LOG2_BYTES) ≤ a then 3
  else 0

/-- The bytes of SBD_FL_BUF. -/
def Dev.flashBuf (d : Dev) : List Byte := (List.range 64).flatMap (fun i => leBytes 4 (d.rd (.sbd (.FL_BUF_DATA i))))

/-- A flash command, 1 READ, 2 PROGRAM, 3 ERASE: it starts, or is discarded with its code (R559, R560). -/
def Dev.flashCmd (d : Dev) (op : Nat) : Dev :=
  let d := d.hostAccess false
  let code := d.flashCode op
  if code ≠ 0 then d.wr (.sbd .FL_STATUS_RESULT) code
  else
    let a := d.rd (.sbd .FL_ADDR_ADDR)
    ({ d with sbd := { d.sbd with flash := some (op, a) } } : Dev).emit (.flash op a (if op = 2 then d.flashBuf else []))

/-- FLASH_READ (R560). -/
def execFlashRead (s : State) : Host.Outcome State Fault Refusal := s.run (fun d => d.flashCmd 1)

/-- FLASH_PROGRAM (R560). -/
def execFlashProgram (s : State) : Host.Outcome State Fault Refusal := s.run (fun d => d.flashCmd 2)

/-- FLASH_ERASE (R560). -/
def execFlashErase (s : State) : Host.Outcome State Fault Refusal := s.run (fun d => d.flashCmd 3)

/-- FLASH_OP_DONE: the operation in progress ends; a read brings the page into the buffer; a program or an erase may have found the flash
busy for too long (R560). -/
def execFlashOpDone (timeout : Bool) (page : List Byte) (s : State) : Host.Outcome State Fault Refusal :=
  s.run (fun d =>
    match d.sbd.flash with
    | none => d
    | some (op, _) =>
      let d : Dev := { d with sbd := { d.sbd with flash := none } }
      if op = 1 then
        (d.wrs ((List.range 64).map (fun i => (.sbd (.FL_BUF_DATA i), leAt page (4 * i) 4)))).wr (.sbd .FL_STATUS_RESULT) 0
      else d.wr (.sbd .FL_STATUS_RESULT) (if timeout then 4 else 0))

/-! ### GPIOs -/

/-- GPIO_EDGE: an edge of pin GPIO`n`: an enabled one sets its event, a rising one may wake the device (R516, R566). -/
def execGpioEdge (n : Fin 8) (rise : Bool) (s : State) : Host.Outcome State Fault Refusal :=
  s.run (fun d =>
    let old := d.rd (.sbd .GPIO_IN_IN)
    let d := d.wr (.sbd .GPIO_IN_IN) (if rise then setBit old n else clrBit old n)
    let on := bitAt (d.rd (.sbd (if rise then .GPIO_EDGE_RISE else .GPIO_EDGE_FALL))) n
    let d := if on ∧ d.pwrState ≠ 3 then
        let d := d.setFldBit (.sbd .GPIO_EVT_EVT) n
        if d.is (.sbd .CTRL_IRQ_EN) then d.hepEvent 17 else d
      else d
    if rise ∧ bitAt (d.rd (.pwr .WAKE_EN_GPIO)) n then d.wake (fun d => d.setFldBit (.pwr .WAKE_STATUS_SRC) (4 + n)) else d)

end Sys2Proof.Machine
end

