-- ==== Sys2Proof/Machine/Pmc.lean ====
section
/-! DEFINITION.  Performance counters, snapshots and the sampling buffers (R567 to R583). -/

namespace Sys2Proof.Machine

open Sys2Proof

/-- The counters' interrupt: HEP event source 16 when PMC_CTRL.IRQ_EN is 1 (R569, R583). -/
def Dev.pmcEvent (d : Dev) : Dev := if d.is (.pmc .CTRL_IRQ_EN) then d.hepEvent 16 else d

/-- COUNTER_OVERFLOW: a counter that has wrapped sets its bit in PMC_OVF (R569). -/
def execCounterOverflow (s : State) : Host.Outcome State Fault Refusal :=
  s.run (fun d =>
    match d.pmc.wrapped with
    | [] => d
    | n :: ns =>
      let d := ({ d with pmc := { d.pmc with wrapped := ns } } : Dev).setFldBit (.pmc (.OVF_OVF (n / 32))) (n % 32)
      if d.is (.pmc (.SEL_OVF_IRQ n)) then d.pmcEvent else d)

/-- PMC_CNT_WRITE: the counter takes the written value (R570, R572). -/
def execPmcCntWrite (n : Fin 384) (value : BitVec 64) (s : State) : Host.Outcome State Fault Refusal :=
  s.host (fun d => d.wr (.pmc (.CNT_COUNT n)) value.toNat)

/-- How many instances event `ev` has; none for a reserved code (the event table of R568).  OFF takes any instance. -/
def eventInsts (ev : Nat) : Option Nat :=
  if ev = 0 then some 256
  else if ev ≤ 3 then some 1
  else if 0x10 ≤ ev ∧ ev ≤ 0x15 then some 16
  else if ev = 0x20 ∨ ev = 0x21 ∨ (0x30 ≤ ev ∧ ev ≤ 0x33) then some 4
  else if ev = 0x34 ∨ ev = 0x35 then some 32
  else if 0x40 ≤ ev ∧ ev ≤ 0x42 ∨ ev = 0x60 ∨ ev = 0x61 then some 50
  else if 0x50 ≤ ev ∧ ev ≤ 0x52 then some 1
  else if ev = 0x70 ∨ ev = 0x71 ∨ ev = 0x80 ∨ ev = 0x81 then some 2
  else if ev = 0x90 ∨ ev = 0x91 then some 16
  else none

/-- PMC_SEL_WRITE: the counter is cleared and counts the new event; a reserved EVENT, or an INST outside the range of the event then
selected, leaves its field; OVF_IRQ set over a set bit of PMC_OVF raises the event (R16, R364, R567, R570). -/
def execPmcSelWrite (n : Fin 384) (value : BitVec 32) (s : State) : Host.Outcome State Fault Refusal :=
  s.host (fun d =>
    let v := value.toNat
    let ev := if (eventInsts (bitsOf v 0 8)).isSome then bitsOf v 0 8 else d.rd (.pmc (.SEL_EVENT n))
    let inst := if bitsOf v 8 8 < (eventInsts ev).getD 0 then bitsOf v 8 8 else d.rd (.pmc (.SEL_INST n))
    let newIrq : Bool := bitAt v 30 && !d.is (.pmc (.SEL_OVF_IRQ n))
    let d := d.wrs [(.pmc (.SEL_EVENT n), ev), (.pmc (.SEL_INST n), inst), (.pmc (.SEL_OVF_IRQ n), bitsOf v 30 1),
      (.pmc (.SEL_EN n), bitsOf v 31 1), (.pmc (.CNT_COUNT n), 0)]
    if newIrq ∧ bitAt (d.rd (.pmc (.OVF_OVF (n / 32)))) (n % 32) then d.pmcEvent else d)

/-- PMC_FREEZE (R573). -/
def execPmcFreeze (s : State) : Host.Outcome State Fault Refusal := s.host (fun d => d.wr (.pmc .CTRL_FREEZE) 1)

/-- PMC_UNFREEZE (R573). -/
def execPmcUnfreeze (s : State) : Host.Outcome State Fault Refusal := s.host (fun d => d.wr (.pmc .CTRL_FREEZE) 0)

/-- The index of the FAB cycle of an instant: FAB runs at 800 MHz (R19). -/
def fabCycle (now : Nat) : Nat := now * 4 / 5

/-- A snapshot with source `src`: the counters copied into the bank of the new sequence number, or skipped under HOLD; a second one in
the same FAB cycle only makes SRC 0 (R574). -/
def Dev.snapshot (d : Dev) (src : Nat) : Dev :=
  if d.is (.pmc .CTRL_HOLD) then d.inc (.pmc .SNAP_INFO_SKIP)
  else if d.pmc.snapAt = some (fabCycle d.now) then (if src = 0 then d.wr (.pmc .SNAP_INFO_SRC) 0 else d)
  else
    let q := (d.rd (.pmc .SNAP_SEQ_SEQ) + 1) % 2 ^ 32
    let d : Dev := { d with pmc := { d.pmc with snapAt := some (fabCycle d.now) } }
    ((List.range 384).foldl (fun (d : Dev) n => d.wr (.pmc (.SNAP_BANK_COUNT (q % 2) n)) (d.rd (.pmc (.CNT_COUNT n)))) d).wrs
      [(.pmc .SNAP_SEQ_SEQ, q), (.pmc .SNAP_TICK_TICK, d.tick.fabTick), (.pmc .SNAP_INFO_SRC, src)]

/-- PMC_SNAP: 1 written to PMC_CTRL.SNAP (R574). -/
def execPmcSnap (s : State) : Host.Outcome State Fault Refusal := s.host (fun d => d.snapshot 1)

/-- COUNTER_SNAPSHOT_TASK: the running occurrence of task 0x03 in slot `n` takes a snapshot and ends DONE (R574). -/
def execCounterSnapshotTask (n : Fin 64) (s : State) : Host.Outcome State Fault Refusal :=
  s.run (fun d => if d.taskRuns n 3 then (d.snapshot 0).endOcc n 0 else d)

/-! ### Sampling -/

/-- A sample of a half lost: counted, and noted for the half's next record (R581). -/
def Dev.smpLoss (d : Dev) (p h : Nat) : Dev :=
  (d.inc (.pmc (.SMP_STATUS_LOST p))).modHalf p h (fun x => { x with lost := true })

/-- SAMPLE_TAKEN: the sampled instruction of half `h` has retired: its record is formed, or lost when two already wait
(R576, R579, R581). -/
def execSampleTaken (p : Fin 8) (h : Fin 2) (s : State) : Host.Outcome State Fault Refusal :=
  s.run (fun d =>
    let x := (d.smp p).halves.getD h {}
    match x.hits with
    | [] => d
    | r :: rs =>
      let q := (x.seq + 1) % 2 ^ 32
      let d := d.modHalf p h (fun x => { x with hits := rs, seq := q })
      if 2 ≤ (d.smp p).formed.length then d.smpLoss p h
      else d.modSmp p (fun u => { u with formed := u.formed ++ [(h.val, r.bytes ++ leBytes 4 q ++ leBytes 4 0)] }))

/-- The occupancy of a sample buffer with RD at `rd` (R582). -/
def Dev.smpOcc (d : Dev) (p rd : Nat) : Nat := (d.rd (.pmc (.SMP_PTR_WR p)) + 256 - rd % 256) % 256

/-- SAMPLE_RECORD_WRITE: the oldest formed record is written and WR advances, or it is lost because the buffer holds 128; the watermark
may be reached (R581 to R583). -/
def execSampleRecordWrite (p : Fin 8) (s : State) : Host.Outcome State Fault Refusal :=
  s.run (fun d =>
    match (d.smp p).formed with
    | [] => d
    | (h, r) :: fs =>
      let d := d.modSmp p (fun u => { u with formed := fs })
      if d.smpOcc p (d.rd (.pmc (.SMP_PTR_RD p))) = 128 then d.smpLoss p h
      else
        let wr := d.rd (.pmc (.SMP_PTR_WR p))
        let flags := (r.getD 3 0).toNat + 32 * b2n ((d.smp p).halves.getD h {}).lost
        let r := patchB r 3 [BitVec.ofNat 8 flags]
        let d := d.modHalf p h (fun x => { x with lost := false })
        let d := (d.modSmp p (fun u => { u with buf := bankAt 128 [] u.buf (wr % 128) (fun _ => r) })).wr (.pmc (.SMP_PTR_WR p)) (wr + 1)
        let wm := d.rd (.pmc (.SMP_WM_WM p))
        if wm ≠ 0 ∧ d.smpOcc p (d.rd (.pmc (.SMP_PTR_RD p))) = wm then (d.wr (.pmc (.SMP_STATUS_WM_HIT p)) 1).pmcEvent else d)

/-- SAMPLE_RD_WRITE: software consumes records, or the write is refused because the occupancy would exceed 128 (R582). -/
def execSampleRdWrite (p : Fin 8) (value : BitVec 8) (s : State) : Host.Outcome State Fault Refusal :=
  s.host (fun d =>
    if 128 < d.smpOcc p value.toNat then d.inc (.pmc (.SMP_STATUS_RD_REFUSED p)) else d.wr (.pmc (.SMP_PTR_RD p)) value.toNat)

/-- SMP_CFG_WRITE: a write of PMC_SMP_CFG, or with `period` of PMC_SMP_PERIOD; reserved encodings leave their fields; both countdowns
reload; SEQ starts anew when EN is set (R16, R576, R579). -/
def execSmpCfgWrite (p : Fin 8) (period : Bool) (value : BitVec 32) (s : State) : Host.Outcome State Fault Refusal :=
  s.host (fun d =>
    let v := value.toNat
    let d : Dev :=
      if period then (if bitsOf v 0 20 = 0 then d else d.wr (.pmc (.SMP_PERIOD_PERIOD p)) (bitsOf v 0 20))
      else
        let set : Bool := bitAt v 0 && !d.is (.pmc (.SMP_CFG_EN p))
        let d := d.wrs [(.pmc (.SMP_CFG_EN p), bitsOf v 0 1), (.pmc (.SMP_CFG_CLASS_MASK p), bitsOf v 8 8)]
        let d := if bitsOf v 1 2 = 3 then d else d.wr (.pmc (.SMP_CFG_HALF p)) (bitsOf v 1 2)
        let d := if 8 < bitsOf v 16 4 then d else d.wr (.pmc (.SMP_CFG_JITTER p)) (bitsOf v 16 4)
        if set then d.modSmp p (fun u => { u with halves := u.halves.map (fun x => { x with seq := 0 }) }) else d
    (d.smpReload p 0).smpReload p 1)

end Sys2Proof.Machine
end

