-- ==== Sys2Proof/Machine/Sideband.lean ====
section
/-! DEFINITION.  The SMBus endpoint: packets, MCTP control messages, PLDM, arbitration (R561 to R565).  The layouts of packets, messages
and responses are those of the standards the spec names (PRESUMED, assumption 15). -/

namespace Sys2Proof.Machine

open Sys2Proof

/-! ### Packets -/

/-- The packet error code of SMBus: CRC-8 with x⁸ + x² + x + 1. -/
def pec (bs : List Byte) : Byte :=
  bs.foldl (fun c b => (List.range 8).foldl (fun (x : Byte) _ => if x.msb then (x <<< 1) ^^^ 7 else x <<< 1) (c ^^^ b)) 0

/-- Whether a packet addressed to the device is well formed: PEC, command code, byte count, MCTP header, a request in a single packet
(R561). -/
def packetOk (p : List Byte) : Bool :=
  12 ≤ p.length && pec (p.take (p.length - 1)) = p.getD (p.length - 1) 0 && leAt p 1 1 = 0x0F && leAt p 2 1 + 4 = p.length &&
    leAt p 4 1 % 16 = 1 && bitsOf (leAt p 7 1) 6 2 = 3

/-- What a packet asks for: 0 an MCTP control message, 1 + t a PLDM command of type t, and its code; none when it is no request of
either. -/
def packetCmd (p : List Byte) : Option (Nat × Nat) :=
  let t := leAt p 8 1
  if !bitAt (leAt p 9 1) 7 then none
  else if t = 0 then some (0, leAt p 10 1)
  else if t = 1 then some (1 + leAt p 10 1 % 64, leAt p 11 1)
  else none

/-- The data of a request, behind its header and without the PEC. -/
def packetData (p : List Byte) : List Byte :=
  let k := if leAt p 8 1 = 0 then 11 else 12
  (p.drop k).take (p.length - 1 - k)

/-- A message in packets of 64 bytes of payload, at most four, numbered from `i` (R561). -/
def smbusPackets (dst src dEid sEid tag : Nat) : Nat → Nat → List Byte → List (List Byte)
  | 0, _, _ => []
  | fuel + 1, i, m =>
    let now := m.take 64
    let rest := m.drop 64
    let fl := b2n (decide (i = 0)) * 128 + b2n rest.isEmpty * 64 + i % 4 * 16 + tag
    let body := ([dst / 2 * 2, 0x0F, now.length + 5, src * 2 + 1, 1, dEid, sEid, fl].map (BitVec.ofNat 8)) ++ now
    (body ++ [pec body]) :: (if rest.isEmpty then [] else smbusPackets dst src dEid sEid tag fuel (i + 1) rest)

/-- The response to a packet: header and data; its packets are sent (R561). -/
def Dev.mctpReply (d : Dev) (p data : List Byte) : Dev :=
  let inst := BitVec.ofNat 8 (leAt p 9 1 % 128)
  let hd := if leAt p 8 1 = 0 then [0, inst, p.getD 10 0] else [1, inst, p.getD 10 0, p.getD 11 0]
  let ps := smbusPackets (leAt p 3 1) (d.rd (.sbd .SMB_STATUS_ADDR)) (leAt p 6 1) (d.rd (.sbd .SMB_STATUS_EID)) (leAt p 7 1 % 8) 4 0
    (hd ++ data)
  let d : Dev := { d with sbd := { d.sbd with packets := ps, losses := 0, retry := false } }
  ps.foldl (fun (d : Dev) q => d.emit (.smbus q)) d

/-- Whether the endpoint answers: from the end of the header stage on, not in A3 (R561). -/
def Dev.smbusOn (d : Dev) : Bool := d.boot.stage = 2 && d.pwrState ≠ 3

/-- The requests the endpoint serves: MCTP control, PLDM base, PLDM platform. -/
def servedCmd : Nat × Nat → Bool
  | (0, c) => c = 1 || c = 2 || c = 4 || c = 5
  | (1, c) => 1 ≤ c && c ≤ 5
  | (3, c) => c = 0x11 || c = 0x21 || c = 0x50 || c = 0x51
  | _ => false

/-- SMBUS_PACKET_RX: a packet from its address byte to its PEC: a bad one is discarded and counted; a request waits for its service; one
that the endpoint does not support is answered with that code (R561). -/
def execSmbusPacketRx (p : List Byte) (s : State) : Host.Outcome State Fault Refusal :=
  s.run (fun d =>
    if !d.smbusOn ∨ leAt p 0 1 ≠ d.rd (.sbd .SMB_STATUS_ADDR) * 2 then d
    else if !packetOk p then d.inc (.sbd .SMB_CNT_RX_BAD)
    else if leAt p 5 1 ≠ 0 ∧ leAt p 5 1 ≠ 0xFF ∧ leAt p 5 1 ≠ d.rd (.sbd .SMB_STATUS_EID) then d
    else match packetCmd p with
      | none => d
      | some c =>
        if servedCmd c then { d with sbd := { d.sbd with rx := d.sbd.rx ++ [p] } }
        else d.mctpReply p [if 1 < c.1 ∧ c.1 ≠ 3 then 0x20 else 5])

/-- A request served: when the oldest waiting request is command `c`, with at least `n` bytes of data, `f` gives its response's data; a
shorter one is answered with the code for a wrong length. -/
def Dev.serve (d : Dev) (c : Nat × Nat) (n : Nat) (f : List Byte → Dev → List Byte × Dev) : Dev :=
  match d.sbd.rx with
  | [] => d
  | p :: ps =>
    if packetCmd p ≠ some c ∨ !d.smbusOn then d
    else
      let d : Dev := { d with sbd := { d.sbd with rx := ps } }
      if (packetData p).length < n then d.mctpReply p [3]
      else
        let (bs, d) := f (packetData p) d
        d.mctpReply p bs

/-! ### MCTP control messages -/

/-- MCTP_SET_ENDPOINT_ID (R561). -/
def execMctpSetEndpointId (s : State) : Host.Outcome State Fault Refusal :=
  s.run (fun d => d.serve (0, 1) 2 (fun x d =>
    let e := leAt x 1 1
    if 1 < leAt x 0 1 % 4 ∨ e < 8 ∨ e = 0xFF then ([2], d)
    else ([0, 0, BitVec.ofNat 8 e, 0], d.wr (.sbd .SMB_STATUS_EID) e)))

/-- MCTP_GET_ENDPOINT_ID (R561). -/
def execMctpGetEndpointId (s : State) : Host.Outcome State Fault Refusal :=
  s.run (fun d => d.serve (0, 2) 0 (fun _ d => ([0, BitVec.ofNat 8 (d.rd (.sbd .SMB_STATUS_EID)), 0, 0], d)))

/-- MCTP_GET_VERSION_SUPPORT: one entry, whose value the spec does not give (R561). -/
def execMctpGetVersionSupport (s : State) : Host.Outcome State Fault Refusal :=
  s.run (fun d => d.serve (0, 4) 1 (fun x d =>
    if !([0, 1, 0xFF].contains (leAt x 0 1)) then ([0x80], d)
    else let (v, d) := d.freshBytes 4; ([0, 1] ++ v, d)))

/-- MCTP_GET_MESSAGE_TYPE_SUPPORT: PLDM beside control messages (R561). -/
def execMctpGetMessageTypeSupport (s : State) : Host.Outcome State Fault Refusal :=
  s.run (fun d => d.serve (0, 5) 0 (fun _ d => ([0, 1, 1], d)))

/-! ### PLDM -/

/-- PLDM_GETTID (R561). -/
def execPldmGettid (s : State) : Host.Outcome State Fault Refusal :=
  s.run (fun d => d.serve (1, 2) 0 (fun _ d => ([0, BitVec.ofNat 8 d.sbd.tid], d)))

/-- PLDM_SETTID (R561). -/
def execPldmSettid (s : State) : Host.Outcome State Fault Refusal :=
  s.run (fun d => d.serve (1, 1) 1 (fun x d =>
    if leAt x 0 1 = 0 ∨ leAt x 0 1 = 0xFF then ([2], d) else ([0], { d with sbd := { d.sbd with tid := leAt x 0 1 } })))

/-- PLDM_GETPLDMVERSION: the version of type 0 or 2, which the spec does not give, and its CRC (R561). -/
def execPldmGetpldmversion (s : State) : Host.Outcome State Fault Refusal :=
  s.run (fun d => d.serve (1, 3) 6 (fun x d =>
    if !([0, 2].contains (leAt x 5 1)) then ([0x83], d)
    else let (v, d) := d.freshBytes 4; ([0, 0, 0, 0, 0, 5] ++ v ++ leBytes 4 (crc32 v), d)))

/-- PLDM_GETPLDMTYPES: types 0 and 2 (R561). -/
def execPldmGetpldmtypes (s : State) : Host.Outcome State Fault Refusal :=
  s.run (fun d => d.serve (1, 4) 0 (fun _ d => (0 :: leBytes 8 5, d)))

/-- PLDM_GETPLDMCOMMANDS: the commands served of a type (R561). -/
def execPldmGetpldmcommands (s : State) : Host.Outcome State Fault Refusal :=
  s.run (fun d => d.serve (1, 5) 5 (fun x d =>
    let t := leAt x 0 1
    if t ≠ 0 ∧ t ≠ 2 then ([0x83], d)
    else (0 :: leBytes 32 (((List.range 256).filter (fun c => servedCmd (1 + t, c))).foldl (fun n c => n + 2 ^ c) 0), d)))

/-- SAF_STATE.STATUS: 0 SAFE, 1 DEGRADED, 2 NOT_SAFE (R465, R476). -/
def safStatus (o : Otp) (d : Dev) : Nat :=
  if !o.safetyFuse ∨ d.rd (.saf .STATE_STATE) ≠ 2 ∨ d.d2 then 2
  else if d.pwr.dip.isSome ∨ d.is (.pwr .SUP_STATUS_SCRUB_PENDING) ∨ d.is (.pwr .SUP_STATUS_VERIFY_PENDING) ∨
      d.is (.cal .AGE_STATUS_OVERDUE) then 1
  else 0

/-- PLDM_GETSENSORREADING: a temperature is a free value, VDD_CORE the last sample in 0.01 V (R562). -/
def execPldmGetsensorreading (s : State) : Host.Outcome State Fault Refusal :=
  s.run (fun d => d.serve (3, 0x11) 3 (fun x d =>
    let n := leAt x 0 2
    if n = 1 ∨ n = 2 then let (v, d) := d.freshBytes 2; ([0, 3, 0, 0, 1, 1, 1] ++ v, d)
    else if n = 3 then ([0, 0, 0, 0, 1, 1, 1, BitVec.ofNat 8 (d.rd (.pwr .SUP_STATUS_VOLT))], d)
    else ([0x80], d)))

/-- PLDM_GETSTATESENSORREADINGS: the safety status, the internal state (R562). -/
def execPldmGetstatesensorreadings (s : State) : Host.Outcome State Fault Refusal :=
  s.runWith (fun o d => d.serve (3, 0x21) 4 (fun x d =>
    let n := leAt x 0 2
    let reply := fun v => [0, 1, 0, BitVec.ofNat 8 v, BitVec.ofNat 8 v, BitVec.ofNat 8 v]
    if n = 4 then (reply (safStatus o d + 1), d)
    else if n = 5 then (reply (d.pwrState + 1), d)
    else ([0x80], d)))

/-- PLDM_GETPDRREPOSITORYINFO: five records; times and sizes are free values (R562). -/
def execPldmGetpdrrepositoryinfo (s : State) : Host.Outcome State Fault Refusal :=
  s.run (fun d => d.serve (3, 0x50) 0 (fun _ d =>
    let (t, d) := d.freshBytes 26
    let (z, d) := d.freshBytes 8
    ([0, 0] ++ t ++ leBytes 4 5 ++ z ++ [0], d)))

/-- PLDM_GETPDR: the record of a handle from 1 to 5, 0 for the first; what the spec does not give of it is free (R562). -/
def execPldmGetpdr (s : State) : Host.Outcome State Fault Refusal :=
  s.run (fun d => d.serve (3, 0x51) 13 (fun x d =>
    let h := if leAt x 0 4 = 0 then 1 else leAt x 0 4
    if 5 < h then ([0x82], d)
    else
      let (k, d) := d.fresh
      let (t, d) := d.freshBytes 2
      let (r, d) := d.freshBytes (k % 200)
      let body := t ++ leBytes 2 h ++ r
      let pdr := leBytes 4 h ++ [1, if h ≤ 3 then 2 else 4] ++ leBytes 2 0 ++ leBytes 2 body.length ++ body
      ([0] ++ leBytes 4 (if h = 5 then 0 else h + 1) ++ leBytes 4 0 ++ [5] ++ leBytes 2 pdr.length ++ pdr, d)))

/-! ### Arbitration -/

/-- SMBUS_ARB_LOST: packet `n` of the response in progress loses arbitration; it and those behind it wait (R563). -/
def execSmbusArbLost (n : Fin 4) (s : State) : Host.Outcome State Fault Refusal :=
  s.run (fun d =>
    match d.sbd.packets.drop n with
    | [] => d
    | ps =>
      ({ d with sbd := { d.sbd with packets := ps, losses := (if n.val = 0 then d.sbd.losses else 0) + 1, retry := true } } : Dev).inc
        (.sbd .SMB_CNT_ARB_LOST))

/-- One step of the 16-bit Galois LFSR with x¹⁶ + x¹⁴ + x¹³ + x¹¹ + 1 (R564). -/
def lfsr16 (n : Nat) : Nat := if n % 2 = 1 then Nat.xor (n / 2) 0xB400 else n / 2

/-- SMBUS_RETRY: after the bus free time and the backoff the packet is sent again; after the eighth loss it is discarded (R564, R603). -/
def execSmbusRetry (s : State) : Host.Outcome State Fault Refusal :=
  s.run (fun d =>
    if !d.sbd.retry ∨ d.sbd.packets.isEmpty then d
    else if 8 ≤ d.sbd.losses then
      let d : Dev := { d with sbd := { d.sbd with packets := [], losses := 0, retry := false } }
      (d.event (.sbd .SMB_STATUS_SMB_ARB_FAIL) (.sbd .CTRL_IRQ_EN) 17).inc (.sbd .SMB_CNT_ARB_FAIL)
    else
      let l := lfsr16 d.sbd.lfsr
      let d : Dev := { d with sbd := { d.sbd with lfsr := l, retry := false } }
      let d := d.elapse ((if d.is (.sbd .SMB_CFG_FAST) then 1300 else 4700) + l % 8 * 10000)
      d.sbd.packets.foldl (fun (d : Dev) q => d.emit (.smbus q)) d)

/-- SMBUS_CLOCK_LOW_TIMEOUT: SCL low for 25 ms: the transaction is abandoned, a packet of its own counts one attempt (R565). -/
def execSmbusClockLowTimeout (s : State) : Host.Outcome State Fault Refusal :=
  s.run (fun d =>
    let d := d.inc (.sbd .SMB_CNT_TIMEOUT)
    if d.sbd.packets.isEmpty then d else { d with sbd := { d.sbd with losses := d.sbd.losses + 1, retry := true } })

end Sys2Proof.Machine
end

