-- ==== Sys2Proof/Machine/Views.lean ====
section
/-! DEFINITION.  What a read of a register shows: the fields that other state gives, the windows of the BARs and their aliases, the read-only
views of memory (R11, R34, R35, R584 to R588). -/

namespace Sys2Proof.Machine

open Sys2Proof

/-! ### Fields that other state gives -/

/-- A value that saturates at 16 bits; all ones for none. -/
def sat16 (x : Option Nat) : Nat := match x with | some n => min n 65535 | none => 65535

/-- CFG fields. -/
def Dev.viewCfg (d : Dev) : CfgF → Option Nat
  | .STATUS_LOAD_BUSY => some (b2n d.cfg.load.isSome)
  | .CTRL_SEAL => some (b2n (d.sealed || d.cfg.sealPend))
  | .CTRL_LOAD => some (b2n (match d.cfg.load with | some l => !l.boot | none => false))
  | _ => none

/-- CRY fields. -/
def Dev.viewCry (d : Dev) : CryF → Option Nat
  | .PIPE_STATUS_OCC0 => some (d.pipe 0).occupancy
  | .PIPE_STATUS_OCC1 => some (d.pipe 1).occupancy
  | .SA_CMD_STATUS_BUSY => some (b2n d.cry.cmd.isSome)
  | _ => none

/-- The bytes of a channel's transfer not yet moved (R336). -/
def Dev.remain (d : Dev) (x : Nat) : Nat := match d.xfer x with | some v => v.desc.len - v.moved | none => 0

/-- DMA fields (R317, R322, R323, R340). -/
def Dev.viewDma (d : Dev) : DmaF → Option Nat
  | .STATUS_OVERCOMMIT => some (b2n (decide (8192 < d.vatBelow 50)))
  | .TAG_STATUS_IN_USE => some d.hep.tags.length
  | .TAG_STATUS_DISCARD => some (d.hep.tags.filter (fun t => t.st = .writtenOff)).length
  | .TAG_STATUS_TEN => some (b2n ((List.range 50).any (fun f => d.fnExists f && d.is (.cs f .DC2_TAG10))))
  | .VAT_STATUS_FREE => some (8192 - d.dma.vat.length)
  | .VAT_STATUS_POOL_FREE => some (d.vatPool - d.vatPoolUsed)
  | .VAT_USE_USED f => some (d.vatUsed f)
  | .VAT_USE_GUAR f => some (d.vatGuar f)
  | .LL_REMAIN_BYTES c => some (d.remain c)
  | .TCH_REMAIN_BYTES t => some (d.remain (96 + t))
  | .TCH_STATUS_BUSY t => some (b2n (d.tch t).x.isSome)
  | .TCH_SHCTRL_SHADOW_VALID t => some (b2n (d.shadow t).1.isSome)
  | _ => none

/-- HEP fields (R360, R369, R376, R377, R394). -/
def Dev.viewHep (d : Dev) : HepF → Option Nat
  | .FN_STATUS_ACTIVE f => some (b2n (d.fnActive f))
  | .FN_STATUS_DSTATE f => some (if f < 2 then d.rd (.cs f .PM_STATE) else 0)
  | .PF1_IPEND_SAFE => some (b2n d.safeState)
  | .PF1_IPEND_SAF_EVT => some (b2n d.safEvtLevel)
  | .QUAR_STATUS_TOTAL => some d.quarantined
  | .QUAR_STATUS_TIMED => some (d.hep.tags.filter (fun t => t.st = .timed)).length
  | .RDQ_OUT f => some (d.hep.tags.filter (fun t => t.f = f)).length
  | .RD_STATUS_OUT => some d.hep.tags.length
  | _ => none

/-- NVT fields. -/
def Dev.viewNvt (d : Dev) : NvtF → Option Nat
  | .CONN_STATE_CIDS c => some (d.cids c).length
  | .CONN_STATE_RTO_CUR c => some (min (d.conn c).rto 65535)
  | .QP_STATUS_OUTSTANDING q => some (d.qpOut q)
  | _ => none

/-- PWR fields (R496, R508, R509, R511). -/
def Dev.viewPwr (d : Dev) : PwrF → Option Nat
  | .NEED_TOL_US => some (sat16 (d.tolerance.map (· / 1000)))
  | .NEED_GAP_US => some (sat16 ((d.gap 1).map (· / 1000)))
  | .STATUS_FLOOR => some (b2n d.armed)
  | .SUP_STATUS_BELOW_US => some (match d.pwr.dip with | some x => min (x.belowNs d.now / 1000) 65535 | none => 0)
  | _ => none

/-- RNG fields (R283, R292, R312). -/
def Dev.viewRng (d : Dev) : RngF → Option Nat
  | .CQ_STATUS_RESERVED n => some (d.reserved n)
  | .CQ_STATUS_HELD n => some (b2n (d.frozen && d.due.any (fun e => e.cq = n)))
  | .SQ_STATUS_OUTSTANDING n => some (d.sq n).ents.length
  | .SQ_STATUS_SEALED n => some (b2n (d.sqSealed n))
  | _ => none

/-- SEC fields (R521 to R531). -/
def Dev.viewSec (o : Otp) (d : Dev) : SecF → Option Nat
  | .LC_STATUS_STATE => some o.lc
  | .LC_STATUS_BUSY => some (b2n d.sec.lcTo.isSome)
  | .UID_UID i => some (leAt o.uid (4 * i) 4)
  | .KEY_STATUS_PROG => some ((List.range 4).foldl (fun n s => n + b2n (o.slot s).prog * 2 ^ s) 0)
  | .KEY_STATUS_REVOKED => some (b2n (o.slot 1).revoked + 2 * b2n (o.slot 2).revoked)
  | .KEY_STATUS_SEED => some (b2n o.seedProg)
  | .KEY_STATUS_KEK_AVAIL => some (b2n (kekSa o d).isSome)
  | .OTP_STATUS_BUSY => some (b2n d.sec.otpOp.isSome)
  | .ARB_STATUS_VALUE => some o.arb
  | .ARB_STATUS_BUSY => some (b2n d.sec.arbTo.isSome)
  | .DBG_STATUS_VERIFYING => some (b2n d.sec.token.isSome)
  | _ => none

/-- The fields of RXTS_POP or TXTS_POP: those of the head record (R441, R590). -/
def popField (l : List TsRec) (lo w : Nat) : Option Nat := some (match l with | r :: _ => bitsOf r.word lo w | [] => 0)

/-- TIM fields (R437, R590). -/
def Dev.viewTim (d : Dev) : TimF → Option Nat
  | .NOW_SEC_SEC => some (d.tbEdge / 1000000000)
  | .RXTS_POP_SEQ_ID p => popField (d.port p).rxTs 0 16
  | .RXTS_POP_MSG_TYPE p => popField (d.port p).rxTs 16 4
  | .RXTS_POP_DOMAIN p => popField (d.port p).rxTs 20 8
  | .RXTS_POP_VALID p => popField (d.port p).rxTs 28 1
  | .RXTS_POP_ONE_STEP p => popField (d.port p).rxTs 29 1
  | .RXTS_POP_STOMPED p => popField (d.port p).rxTs 30 1
  | .TXTS_POP_SEQ_ID p => popField (d.port p).txTs 0 16
  | .TXTS_POP_MSG_TYPE p => popField (d.port p).txTs 16 4
  | .TXTS_POP_DOMAIN p => popField (d.port p).txTs 20 8
  | .TXTS_POP_VALID p => popField (d.port p).txTs 28 1
  | .TXTS_POP_ONE_STEP p => popField (d.port p).txTs 29 1
  | .TXTS_POP_STOMPED p => popField (d.port p).txTs 30 1
  | _ => none

/-- Fields of the configuration space (R353, R354, R368). -/
def Dev.viewCs (d : Dev) (f : Nat) : CsF → Option Nat
  | .STS_INT => if f < 2 then some (b2n (d.intStatus f)) else none
  | .SRIOV_OFFSET => some (if d.is (.cs 0 .SRIOV_ARI) then 2 else 256)
  | .ARI_NEXT => if 2 ≤ f then some (if f - 1 = d.rd (.cs 0 .SRIOV_NUMVFS) then 0 else f + 1) else none
  | _ => none

/-- The value of a field that other state gives; none for a field that the register store holds. -/
def Dev.view (o : Otp) (d : Dev) : Fld → Option Nat
  | .sys .CONFIG_SAFETY_FUSE => some (b2n o.safetyFuse)
  | .cfg f => d.viewCfg f
  | .cry f => d.viewCry f
  | .dma f => d.viewDma f
  | .eng (.TXC_STATUS_OCCUPANCY p) => some (d.txc.getD p []).length
  | .hep f => d.viewHep f
  | .nvt f => d.viewNvt f
  | .par .FRAG_STATUS_OCCUPANCY => some ((List.range 128).filter (fun i => d.fragValid i)).length
  | .pwr f => d.viewPwr f
  | .rng f => d.viewRng f
  | .saf .STATE_STATUS => some (safStatus o d)
  | .sbd .FL_STATUS_BUSY => some (b2n d.sbd.flash.isSome)
  | .sbd .WDT_STATUS_COUNTING => some (b2n d.wdtCounting)
  | .sec f => d.viewSec o f
  | .tim f => d.viewTim f
  | .cs f x => d.viewCs f x
  | _ => none

/-- What a read of a field returns: 0 for a WO field (R11). -/
def Dev.shows (o : Otp) (d : Dev) (x : FieldAt) : Nat :=
  if x.acc = .wo then 0 else ((d.view o x.fld).getD (d.rd x.fld)) % 2 ^ x.fld.width

/-- What a read of a register returns; reserved bits read 0 (R15). -/
def Dev.showReg (o : Otp) (d : Dev) (r : RegAt) : Nat := r.fields.foldl (fun n x => n + d.shows o x * 2 ^ x.lo) 0

/-! ### Windows -/

/-- What a byte of a window is: a byte of PF0 BAR0 at its offset there, of a function's configuration space, of its MSI-X table or PBA. -/
inductive Spot where
  | bar (o : Nat)
  | cfg (f o : Nat)
  | table (f o : Nat)
  | pba (f o : Nat)
  deriving DecidableEq, Repr

/-- The function whose BAR or configuration space a window is. -/
def winFn : Window → Nat
  | .pf0Bar0 | .pf0Bar2 | .pf0Bar4 => 0
  | .pf1Bar0 | .pf1Bar2 => 1
  | .vfBar0 n | .vfBar2 n => 2 + n
  | .cfg f => f

/-- Byte `b` of the ring window of function `f` (R587). -/
def Dev.ringPlace (d : Dev) (f b : Nat) : Option Spot :=
  if b < 0x1000 then (d.sqOf f (b / 0x20)).map (fun n => .bar (0x80000 + 0x40 * n + 0x20 + b % 0x20))
  else if 0x1F00 ≤ b then
    (if b < 0x1F2C then some (.bar (0xA0000 + 0x40 * f + (b - 0x1F00)))
     else if 0x1F30 ≤ b ∧ b < 0x1F34 then some (.bar (0xA0000 + 0x40 * f + (b - 0x1F00))) else none)
  else (d.cqOf f ((b - 0x1000) / 0x20)).map (fun c => .bar (0x90000 + 0x40 * c + 0x20 + b % 0x20))

/-- Byte `a` of PF1 BAR0 (R35, R585 to R587). -/
def Dev.pf1Place (d : Dev) (a : Nat) : Option Spot :=
  if a < 0x8000 then some (.bar (0x3C0000 + a))
  else if a < 0xA000 then
    (if 0x9E00 ≤ a ∧ a < 0x9E08 then some (.bar (0x42010 + (a - 0x9E00)))
     else if (0x800C ≤ a ∧ a < 0x802C) ∨ (0x8040 ≤ a ∧ a < 0x804C) ∨ (0x8100 ≤ a ∧ a < 0x8124) ∨ (0x9F00 ≤ a ∧ a < 0x9F04) then
       some (.bar (0x40000 + a))
     else none)
  else if a < 0xC000 then d.ringPlace 1 (a - 0xA000)
  else if a < 0xE000 then some (.bar (0x30000 + (a - 0xC000)))
  else if a < 0x10000 then some (.bar (a - 0xE000))
  else none

/-- What byte `a` of a window is; none in a reserved range (R34, R35, R584 to R587, R357). -/
def Dev.place (d : Dev) (w : Window) (a : Nat) : Option Spot :=
  match w with
  | .pf0Bar0 => some (.bar (if 0x49E00 ≤ a ∧ a < 0x49E08 then 0x42010 + (a - 0x49E00) else a))
  | .pf1Bar0 => d.pf1Place a
  | .vfBar0 n =>
    if a < 0x2000 then d.ringPlace (2 + n) a
    else if a < 0x2008 then some (.bar (0x42000 + 0x10 * (2 + n) + (a - 0x2000)))
    else if 0x3000 ≤ a ∧ a < 0x3040 then some (.table (2 + n) (a - 0x3000))
    else if 0x3800 ≤ a ∧ a < 0x3808 then some (.pba (2 + n) (a - 0x3800))
    else none
  | .pf0Bar4 =>
    if a < 0x400 then some (.table 0 a) else if 0x8000 ≤ a ∧ a < 0x8008 then some (.pba 0 (a - 0x8000)) else none
  | .cfg f => if f = 0 ∧ 0x30C ≤ a ∧ a < 0x32C then some (.bar (0x48000 + (a - 0x300))) else some (.cfg f a)
  | _ => none

/-- Whether byte `a` of a window lies in an alias that the register index marks read-only (R585). -/
def roAlias (w : Window) (a : Nat) : Bool :=
  match w with
  | .pf1Bar0 => (0x800C ≤ a && a < 0x802C) || (0x8040 ≤ a && a < 0x804C) || (0x8100 ≤ a && a < 0x8124) || 0xE000 ≤ a
  | _ => false

/-- The registers of a function's configuration space (R357, R358). -/
def csAt (f o : Nat) : Option RegAt := if f = 0 then csPf0At f o else if f = 1 then csPf1At f o else csVfAt f o

/-- The register that holds the 32-bit word at a place, with the first of its bits that the word shows. -/
def csWordAt (f o : Nat) : Option (RegAt × Nat) :=
  match csAt f o with
  | some r => some (r, 0)
  | none =>
    if o < 4 then none
    else match csAt f (o - 4) with
      | some r => if r.wide then some (r, 32) else none
      | none => none

/-- The 32-bit register word at byte `o` of PF0 BAR0, rounded down; none where no register lies. -/
def Dev.barWord (o : Otp) (d : Dev) (a : Nat) : Option Nat :=
  if a = 0x10060 ∨ a = 0x10064 then some (bitsOf (d.tick.fifo.headD (7 * 2 ^ 38)) (8 * (a - 0x10060)) 32)
  else (wordAt a).map (fun r => bitsOf (d.showReg o r.1) r.2 32)

/-! ### Views of memory -/

/-- The table line that a byte of PF0 BAR0 shows, and the byte's place in it: the Ephemeris in force, the parser's tables, the SA table, the
Almanac. -/
def Dev.viewLine (d : Dev) (o : Nat) : Option (Nat × Nat) :=
  if 0x11000 ≤ o ∧ o < 0x11440 then some (ephLine d.cfg.bank + (o - 0x11000) / 64, o % 64)
  else if 0x190000 ≤ o ∧ o < 0x1F2000 then some (tableLine ((o - 0x190000) / 64), o % 64)
  else if 0x320000 ≤ o ∧ o < 0x340000 then some (saLine ((o - 0x320000) / 128) ((o - 0x320000) / 64 % 2), o % 64)
  else if 0x3A1000 ≤ o ∧ o < 0x3A1380 then some (tableLine (0x5F00 + (o - 0x3A1000) / 64), o % 64)
  else none

/-- The byte of a public key that a byte of PF0 BAR0 shows (SEC_PUBKEY). -/
def keyByte (o : Otp) (a : Nat) : Option Byte :=
  if 0x401000 ≤ a ∧ a < 0x401200 ∧ (a - 0x401000) % 0x80 < 96 then
    some ((o.slot ((a - 0x401000) / 0x80)).bits.getD ((a - 0x401000) % 0x80) 0)
  else none

/-- The byte of a sample buffer that a byte of PF0 BAR0 shows, and whether its line reads poisoned (R583). -/
def Dev.smpByte (d : Dev) (a : Nat) : Option (Byte × Bool) :=
  if 0x448000 ≤ a ∧ a < 0x450000 then
    let u := d.pmc.smp.getD ((a - 0x448000) / 0x1000) {}
    let i := a % 0x1000
    some ((u.buf.getD (i / 32) []).getD (i % 32) 0, u.bad.contains (i / 64))
  else none

/-- The root port, window and byte of an aperture that a byte of PF0 BAR0 lies in (R412). -/
def apertureOf (o : Nat) : Option (Nat × Nat × Nat) :=
  if 0x120000 ≤ o ∧ o < 0x140000 then some ((o - 0x120000) / 0x10000, o % 0x10000 / 0x2000, o % 0x2000) else none

/-! ### Reads -/

/-- The table lines that some bytes of PF0 BAR0 show, each read once, in their order: line, bytes, poison (R28, R33). -/
def Dev.readViews (d : Dev) (seen : List (Nat × List Byte × Bool)) : List Nat → List (Nat × List Byte × Bool) × Dev
  | [] => (seen, d)
  | o :: os =>
    match d.viewLine o with
    | none => d.readViews seen os
    | some (l, _) =>
      if seen.any (fun e => e.1 = l) then d.readViews seen os
      else
        let (bs, p, d) := d.readLine l
        d.readViews (seen ++ [(l, bs, p)]) os

/-- A byte of a word. -/
def byteIn (v : Option Nat) (i : Nat) : Option (Byte × Bool) := v.map (fun n => (BitVec.ofNat 8 (n / 2 ^ (8 * i)), false))

/-- A byte at a place, as a read returns it: none where no register lies; with its poison. -/
def Dev.showByte (o : Otp) (d : Dev) (lines : List (Nat × List Byte × Bool)) : Spot → Option (Byte × Bool)
  | .bar a =>
    match d.viewLine a, keyByte o a, d.smpByte a with
    | some (l, i), _, _ => (lines.find? (fun e => e.1 = l)).map (fun e => (e.2.1.getD i 0, e.2.2))
    | _, some b, _ => some (b, false)
    | _, _, some b => some b
    | _, _, _ => byteIn (d.barWord o (a / 4 * 4)) (a % 4)
  | .cfg f a => byteIn (some (match csWordAt f (a / 4 * 4) with | some (r, s) => bitsOf (d.showReg o r) s 32 | none => 0)) (a % 4)
  | .table f a => byteIn (some (d.rd (.msix f (a / 16) (a / 4 % 4)))) (a % 4)
  | .pba f a => byteIn (some (d.rd (.pba f))) a

/-- The bytes of a read, none for those in no register; and the device after the reads of memory lines. -/
def Dev.showBytes (o : Otp) (d : Dev) (w : Window) (off len : Nat) : List (Option (Byte × Bool)) × Dev :=
  let places := (List.range len).map (fun i => d.place w (off + i))
  let (lines, d) := d.readViews [] (places.filterMap (fun p => match p with | some (.bar a) => some a | _ => none))
  (places.map (fun p => match p with | some p => d.showByte o lines p | none => none), d)

end Sys2Proof.Machine
end

