-- ==== Sys2Proof/Machine/Registers.lean ====
section
/-! DEFINITION.  Reads and writes of registers, configuration space and MSI-X tables that have no row of their own, the accesses of the JTAG
bridge, and the write-back of a corrected line (R11 to R17, R27, R37, R38, R103, R308, R539, R585 to R590). -/

namespace Sys2Proof.Machine

open Sys2Proof

/-! ### Reads -/

/-- Whether a byte of PF0 BAR0 lies in a block that A2 turns off: a sleeping field port, an engine pair that is off, the crypto unit, the
storage offload (R505). -/
def Dev.offAt (d : Dev) (o : Nat) : Bool :=
  (0x140000 ≤ o && o < 0x180000 && d.portAsleep ((o - 0x140000) / 0x10000)) ||
    (0x200000 ≤ o && o < 0x280000 && d.pairOff ((o - 0x200000) / 0x10000)) || (0x300000 ≤ o && o < 0x380000)

/-- Whether an access from byte `off` of a window needs a block that A2 turns off. -/
def Dev.offFor (d : Dev) (w : Window) (off : Nat) : Bool :=
  match d.place w off with
  | some (.bar o) => d.offAt o
  | _ => false

/-- The bytes of a read, little-endian in one number, those in no register 0 and the access counted once; whether it is poisoned
(R17, R28, R37).  A configuration request meets no hole: what is not implemented reads 0. -/
def Dev.readBytesOf (o : Otp) (d : Dev) (w : Window) (off len : Nat) : Nat × Bool × Dev :=
  let (bs, d) := d.showBytes o w off len
  let d := if bs.any (·.isNone) then d.inc (.sys .ACCESS_ERR_HOLE_CNT) else d
  (ofLe (bs.map (fun b => (b.getD (0, false)).1)), bs.any (fun b => (b.getD (0, false)).2), d)

/-- The value of a read of a window: an aligned 64-bit read of TCK_REC_FIFO, RXTS_POP, TXTS_POP or TIM_NOW_SEC has its side effect
(R67, R437, R441, R590); any other reads the addressed bytes (R17). -/
def Dev.readValue (o : Otp) (d : Dev) (w : Window) (off len : Nat) : Nat × Bool × Dev :=
  let pop := fun (x : Nat × Dev) => (x.1, false, x.2)
  match d.place w off with
  | some (.bar a) =>
    let fs : Option (List Fld) := if len = 8 then (wordAt a).map (fun r => r.1.fields.map FieldAt.fld) else none
    if len = 8 ∧ a = 0x10060 then pop d.recPop
    else match fs with
      | some (.tim (.RXTS_POP_SEQ_ID p) :: _) => pop (d.tsPop p false)
      | some (.tim (.TXTS_POP_SEQ_ID p) :: _) => pop (d.tsPop p true)
      | some (.tim .NOW_SEC_SEC :: _) => pop d.tbRead
      | _ => d.readBytesOf o w off len
  | _ => d.readBytesOf o w off len

/-- The doorbells of a BAR2 page: two registers that take writes only (R288). -/
def isDoorbell (w : Window) (off : Nat) : Bool :=
  match w with
  | .pf0Bar2 => off < 0x31000 && off % 0x1000 < 8
  | .pf1Bar2 | .vfBar2 _ => off < 8
  | _ => false

/-- The root port whose BRG_RP_CFG_DATA an aligned 32-bit access of PF0 BAR0 addresses (R409). -/
def cfgDataOf (w : Window) (off len : Nat) : Option Nat :=
  let fs : Option (List Fld) := (regAt off).map (fun r => r.fields.map FieldAt.fld)
  if w = .pf0Bar0 ∧ len = 4 then
    match fs with
    | some [.brg (.RP_CFG_DATA_DATA rp)] => some rp
    | _ => none
  else none

/-- A host read of a BAR of `len` bytes: Unsupported Request for a function that serves none (R385) and above 8 bytes (R17); the modem's
window and its configuration space through the bridge; else the value. -/
def Dev.barRead (o : Otp) (d : Dev) (w : Window) (off len : Nat) : Dev :=
  if d.memClosed (winFn w) ∨ 8 < len then d.answerUr (winFn w)
  else if isDoorbell w off then d.reply 0 len 0 false
  else match cfgDataOf w off len, (if w = .pf0Bar0 then apertureOf off else none) with
    | some rp, _ => d.cfgAccess rp false []
    | _, some (rp, win, n) => d.apAccess { rp := rp, win := win, off := n, write := false, bytes := [], len := len }
    | _, _ =>
      let (v, ep, d) := d.readValue o w off len
      d.reply v len 0 ep

/-- A configuration read of the bytes of one word; Unsupported Request for a function that does not exist (R358). -/
def Dev.cfgRead (o : Otp) (d : Dev) (f off len : Nat) : Dev :=
  if !d.fnExists f then d.answerUr f
  else
    let k := min len (4 - off % 4)
    let bs := ((List.range k).map (fun i => d.place (.cfg (Fin.ofNat 50 f)) (off + i))).map (fun p =>
      match p with | some p => ((d.showByte o [] p).getD (0, false)).1 | none => 0)
    d.reply (ofLe bs) k 0 false

/-- REGISTER_READ: a host read of `len` bytes at byte `off` of a window. -/
def execRegisterRead (w : Window) (off len : Nat) (s : State) : Host.Outcome State Fault Refusal :=
  s.runWith (fun o d =>
    let d := d.hostAccess (d.offFor w off)
    match w with
    | .cfg f => d.cfgRead o f off len
    | w => d.barRead o w off len)

/-! ### Which writes a register refuses -/

/-- A field that its block's state refuses to write: whether a write that would change nothing counts too, and the counter. -/
def Dev.refusal (d : Dev) : Fld → Option (Bool × Option Fld)
  | .nvt (.CONN_CFG_V6 c) | .nvt (.CONN_CFG_IO c) | .nvt (.CONN_CFG_CTRLR c) | .nvt (.CONN_CFG_HDGST c) | .nvt (.CONN_CFG_DDGST c)
  | .nvt (.CONN_CFG_TX_CLASS c) | .nvt (.CONN_CFG_SNDBUF c) | .nvt (.CONN_PORTS_LOCAL_PORT c) | .nvt (.CONN_PORTS_REMOTE_PORT c)
  | .nvt (.CONN_TCP_MSS c) | .nvt (.CONN_TCP_MAX_RETX c) | .nvt (.CONN_TCP_RTO_MIN c) | .nvt (.CONN_ICD_ICD_MAX c)
  | .nvt (.CONN_ICD_OPEN_TMO c) | .nvt (.CONN_LOCAL_ADDR_ADDR c _) | .nvt (.CONN_REMOTE_ADDR_ADDR c _) =>
    if d.connState c = 0 ∨ d.connState c = 4 then none else some (true, some (.nvt (.CNT_COUNT 8)))
  | .dma (.LL_CFG_FUNC c) | .dma (.LL_HEAD_ONCHIP c) | .dma (.LL_HEAD_ADDR c) =>
    if d.llState c = 0 ∨ d.llState c = 4 then none else some (true, some (.dma (.LL_CNT_REFUSED c)))
  | .dma (.TCH_SHADOW_DATA t _) =>
    if d.is (.dma (.TCH_SHCTRL_SHADOW_VALID t)) then some (true, some (.dma (.TCH_CNT2_SHADOW_REFUSED t))) else none
  | .rng (.SQ_BASE_ADDR n) | .rng (.SQ_MIRROR_ADDR n) =>
    if d.sqState n = 0 then none else some (true, some (.rng (.FCNT_COUNT (d.sqFunc n) 7)))
  | .rng (.SQ_CTRL_LOG2SIZE n) => if d.sqState n = 0 then none else some (false, some (.rng (.FCNT_COUNT (d.sqFunc n) 7)))
  | .rng (.CQ_BASE_ADDR n) | .rng (.CQ_MIRROR_ADDR n) =>
    if d.is (.rng (.CQ_CTRL_EN n)) then some (true, some (.rng (.FCNT_COUNT (d.rd (.rng (.CQ_ASSIGN_FUNC n))) 7))) else none
  | .rng (.CQ_CTRL_LOG2SIZE n) =>
    if d.is (.rng (.CQ_CTRL_EN n)) then some (false, some (.rng (.FCNT_COUNT (d.rd (.rng (.CQ_ASSIGN_FUNC n))) 7))) else none
  | .brg (.WIN_BASE_ADDR rp w) => if d.is (.brg (.WIN_CTRL_EN rp w)) then some (true, some (.brg (.RP_CNT_COUNT rp 0))) else none
  | .brg (.WIN_CTRL_ATTR rp w) | .brg (.WIN_CTRL_LOG2SIZE rp w) | .brg (.WIN_CTRL_FUNC rp w) =>
    if d.is (.brg (.WIN_CTRL_EN rp w)) then some (false, some (.brg (.RP_CNT_COUNT rp 0))) else none
  | .brg (.RP_CFG_ADDR_REG rp) | .brg (.RP_CFG_ADDR_FN rp) | .brg (.RP_CFG_ADDR_BE rp) =>
    if d.is (.brg (.RP_STATUS_CFG_BUSY rp)) then some (true, some (.brg (.RP_CNT_COUNT rp 0))) else none
  | .tck .CTRL_SRC | .tck .PERIOD_N => if d.is (.tck .STATUS_RUNNING) then some (false, none) else none
  | .cs _ .SRIOV_NUMVFS | .cs _ .SRIOV_ARI => if d.is (.cs 0 .SRIOV_VFE) then some (false, none) else none
  | _ => none

/-! ### The write of a register word -/

/-- The low 64 bits' complement of a mask, as subtraction of the bits both hold. -/
def clearBits (v mask : Nat) : Nat := v - Nat.land v mask

/-- What a field's access code makes of a write of the bits in `mask` (R11).  A field whose write is a command of its own is left to that
command. -/
def FieldAt.coded (x : FieldAt) (old v mask : Nat) : Nat :=
  if x.own then old
  else match x.acc with
    | .ro => old
    | .w1c => clearBits old (Nat.land v mask)
    | .w1s => Nat.lor old (Nat.land v mask)
    | .wo | .rw | .rwl => clearBits old mask + Nat.land v mask

/-- Size bits of a BAR read 0, and the L0s bit of ASPM Control takes no 1 (R357). -/
def Fld.fixed : Fld → Nat → Nat
  | .cs f .BAR0, v => clearBits v (2 ^ (if f = 0 then CsF.barLogPF0 .BAR0 else CsF.barLogPF1 .BAR0) - 1)
  | .cs f .BAR2, v => clearBits v (2 ^ (if f = 0 then CsF.barLogPF0 .BAR2 else CsF.barLogPF1 .BAR2) - 1)
  | .cs _ .BAR4, v => clearBits v (2 ^ CsF.barLogPF0 .BAR4 - 1)
  | .cs _ .SRIOV_VFBAR0, v => clearBits v (2 ^ CsF.barLogPF0 .SRIOV_VFBAR0 - 1)
  | .cs _ .SRIOV_VFBAR2, v => clearBits v (2 ^ CsF.barLogPF0 .SRIOV_VFBAR2 - 1)
  | .cs _ .LC_ASPM, v => clearBits v 1
  | .brg (.RP_CTN_TRIG _), v => Nat.lor v 0x21
  | _, v => v

/-- One field of a word under a write: its stored value, the value the write gives it, and what refuses it. -/
structure FieldWrite where
  x : FieldAt
  old : Nat
  new : Nat
  locked : Bool
  refused : Option (Bool × Option Fld)
  deriving DecidableEq, Repr

/-- The fields of a register that a write of the bits in `mask` reaches (R14, R308); `free` lets RWL bits change under the seal (R539). -/
def Dev.fieldWrites (d : Dev) (free : Bool) (r : RegAt) (mask value : Nat) : List FieldWrite :=
  (r.fields.filter (fun x => Nat.land ((2 ^ x.fld.width - 1) * 2 ^ x.lo) mask ≠ 0)).map (fun x =>
    let old := d.rd x.fld
    { x := x
      old := old
      new := x.fld.fixed (x.coded old (bitsOf value x.lo x.fld.width) (bitsOf mask x.lo x.fld.width))
      locked := x.acc = .rwl && d.sealed && !free
      refused := d.refusal x.fld })

/-- The store after a write: refused and locked fields stay, and so does every field whose new value is a reserved encoding (R14, R16). -/
def applyWrites (l : List (Fld × Nat)) (ws : List FieldWrite) : List (Fld × Nat) :=
  let go : List FieldWrite := ws.filter (fun w => !w.locked && w.refused.isNone)
  let l' := go.foldl (fun l (w : FieldWrite) => Regs.set l w.x.fld w.new) l
  go.foldl (fun m (w : FieldWrite) => if w.new ≠ w.old ∧ !w.x.legalIn l' then Regs.set m w.x.fld w.old else m) l'

/-- The counters of a write: one for each kind of refusal; a write that would change an RWL bit under the seal is counted and the first
recorded with its BAR0 offset (R103, R308). -/
def Dev.countWrites (d : Dev) (off : Nat) (ws : List FieldWrite) : Dev :=
  let cs := (ws.filterMap (fun w => match w.refused with
    | some (always, some c) => if always ∨ w.new ≠ w.old then some c else none
    | _ => none)).eraseDups
  let d := cs.foldl (fun (d : Dev) c => d.inc c) d
  if ws.any (fun w => w.locked && w.new ≠ w.old) then
    (d.inc (.cfg .SEAL_VIOL_COUNT)).logFirst (.cfg .SEAL_LOG_VALID) [(.cfg .SEAL_LOG_OFFSET, off)]
  else d

/-! ### What a changed field starts -/

/-- The status fields that an enable makes raise a PF0 event, and the event's source (R364). -/
def enables : Fld → Option (List Fld × Nat)
  | .tck .CTRL_IRQ_OVR_EN => some ([.tck .STATUS_OVR, .tck .STATUS_OVR2], 0)
  | .tck .CTRL_IRQ_CUT_EN => some ([.tck .STATUS_SLOT_CUT], 0)
  | .cfg .CTRL_IRQ_SWITCH_EN => some ([.cfg .STATUS_SWITCHED], 1)
  | .cfg .CTRL_IRQ_LOAD_EN => some ([.cfg .STATUS_LOAD_DONE], 1)
  | .mac (.PORT_CTRL_IRQ_LINK_EN p) => some ([.mac (.PORT_STATUS_LINK_CHG p)], 2 + p)
  | .cry .CTRL_IRQ_EN => some ([.cry .STATUS_SOFT, .cry .STATUS_EXPIRED, .cry .STATUS_PEER_CHG, .cry .STATUS_KEY_ERR, .cry .STATUS_CMD_DONE], 6)
  | .nvt .CTRL_IRQ_EN => some ([.nvt .STATUS_CONN_CHG, .nvt .STATUS_CMD_TMO, .nvt .STATUS_PATH_DOWN], 7)
  | .dma .CTRL_IRQ_EN =>
    some ([.dma .STATUS_CH_ERR, .dma .STATUS_HALTED] ++ (List.range 4).map (fun j => .dma (.IRQ_PEND_PEND j)), 8)
  | .hep .CTN_EVT_IRQ_EN => some ([.hep .CTN_EVT_ENTERED, .hep .CTN_EVT_RELEASED], 9)
  | .brg .CTRL_IRQ_EN =>
    some ((List.range 2).flatMap (fun rp => [.brg (.RP_STATUS_CTN_CHG rp), .brg (.RP_STATUS_INTX rp), .brg (.RP_MSI_PEND_PEND rp),
      .brg (.KA_STATUS_PATH_DEAD rp), .brg (.RP_ERR_LOG_VALID rp)]), 10)
  | .tim .CTRL_IRQ_EN =>
    some ([.tim .STATUS_STEPPED, .tim .STATUS_LOCK_CHG, .tim .STATUS_TOD_MISMATCH, .tim .STATUS_PPS_LOST, .tim .STATUS_TS_OVF], 11)
  | .cal .CTRL_IRQ_EN =>
    some ([.cal .EVT_OVERDUE, .cal .EVT_OVERDUE2, .cal .EVT_EYE_LOW, .cal .EVT_REJECT, .cal .EVT_VERIFY_FAIL], 12)
  | .pwr .CTRL_IRQ_EN =>
    some ([.pwr .EVT_STATE_CHG, .pwr .EVT_A3_ABORT, .pwr .EVT_SUP_WARN, .pwr .EVT_DIP_CLOSED, .pwr .EVT_UV_LONG], 14)
  | .sec .DBG_CTRL_IRQ_EN =>
    some ([.sec .EVT_LC_CHG, .sec .EVT_DBG_CHG, .sec .EVT_TOKEN_DONE, .sec .EVT_OTP_DONE, .sec .EVT_ARB_DONE], 15)
  | .sbd .CTRL_IRQ_EN => some ([.sbd .SMB_STATUS_SMB_ARB_FAIL, .sbd .GPIO_EVT_EVT], 17)
  | _ => none

/-- The GPIO pads after their direction or level changed: pad `n` leaves as pin `n` at level 0 or 1, or 2 for an input. -/
def Dev.gpioPads (d old : Dev) : Dev :=
  let lvl := fun (x : Dev) n => if bitAt (x.rd (.sbd .GPIO_DIR_DIR)) n then b2n (bitAt (x.rd (.sbd .GPIO_OUT_OUT)) n) else 2
  (List.range 8).foldl (fun (d : Dev) n => if lvl d n = lvl old n then d else d.emit (.pin n (lvl d n))) d

/-- What a field changed by software starts in its block. -/
def Dev.changed (d old : Dev) (f : Fld) : Dev :=
  let on : Bool := d.is f && !old.is f
  let off : Bool := !d.is f && old.is f
  match f with
  | .brg (.RP_CTRL_REFCLK_EN rp) | .brg (.RP_CTRL_CLKREQ_EN rp) | .brg (.RP_CTRL_ASPM_L1 rp) =>
    let d := if f = .brg (.RP_CTRL_REFCLK_EN rp) ∧ on then d.modRp rp (fun r => { r with refclkAt := d.now }) else d
    if d.refclkOn rp = old.refclkOn rp then d else d.emit (.rpRefclk rp (d.refclkOn rp))
  | .brg (.WIN_CTRL_EN rp w) => if off then d.modRp rp (fun r => { r with pf := r.pf.filter (fun l => l.win ≠ w) }) else d
  | .sbd .WDT_CFG_EN =>
    if on then { d with sbd := { d.sbd with wdtFrom := some d.now } }
    else match d.sbd.wdtFrom with
      | some t => { d with sbd := { d.sbd with wdtAcc := d.sbd.wdtAcc + (d.now - t), wdtFrom := none } }
      | none => d
  | .sbd .GPIO_DIR_DIR | .sbd .GPIO_OUT_OUT => d.gpioPads old
  | .tim .PPS_CTRL_IN_EN => if off then { d with tim := { d.tim with edge := none } } else d
  | .cs _ .DC2_LTR => if on then { d with hep := { d.hep with ltrSent := none } } else d
  | .pmc .CTRL_IRQ_EN =>
    if on ∧ ((List.range 8).any (fun p => d.is (.pmc (.SMP_STATUS_WM_HIT p))) ∨
        (List.range 384).any (fun n => d.is (.pmc (.SEL_OVF_IRQ n)) && bitAt (d.rd (.pmc (.OVF_OVF (n / 32)))) (n % 32))) then d.pmcEvent else d
  | f =>
    match enables f with
    | some (st, src) => if on ∧ st.any (fun x => d.is x) then d.hepEvent src else d
    | none => d

/-- A command register written with an operation that has no row: the refusals that its block's rules give it (R114, R128, R466, R522). -/
def Dev.reservedOp (d : Dev) (r : RegAt) (value : Nat) : Option Dev :=
  let v := fun (f : Fld) => ((r.fields.find? (fun x => x.fld = f)).map (fun x => bitsOf value x.lo f.width)).getD 0
  let has := fun (f : Fld) => r.fields.any (fun x => x.fld = f)
  if has (.cfg .CONF_CMD_DECISION) then
    (let n := v (.cfg .CONF_CMD_DECISION); if n = 1 ∨ n = 2 then none else some (d.inc (.cfg .CNT_CONF_STALE)))
  else if has (.saf .CMD_OP) then (let n := v (.saf .CMD_OP); if 1 ≤ n ∧ n ≤ 4 then none else some (d.safRefuse 9))
  else if has (.mac .MDIO_CMD_OP) then
    (let n := v (.mac .MDIO_CMD_OP)
     if v (.mac .MDIO_CMD_C45) = 1 ∨ n = 1 ∨ n = 2 then none
     else some (if d.is (.mac .MDIO_STATUS_BUSY) then d.inc (.mac .MDIO_STATUS_REFUSED) else d))
  else if has (.sec .LC_CMD_OP) then
    (let n := v (.sec .LC_CMD_OP); if n = 1 ∨ n = 2 then none else some (if d.sec.lcTo.isSome then d.lcRefuse 5 else d))
  else none

/-- Whether a write is carried out by the row of one of its fields. -/
def Dev.ownActs (d : Dev) (r : RegAt) (mask value : Nat) : Bool :=
  r.fields.any (fun x => x.own && Nat.land ((2 ^ x.fld.width - 1) * 2 ^ x.lo) mask ≠ 0 &&
    (match x.acc with
    | .rw | .rwl => (match x.fld with | .pmc .CTRL_FREEZE => false | .pmc _ => true | _ => false) ||
        bitsOf value x.lo x.fld.width ≠ d.rd x.fld
    | _ => bitsOf value x.lo x.fld.width ≠ 0)) && (d.reservedOp r value).isNone

/-- The bits in `mask` of a register written (R11): `off` is the word's offset as SEAL_LOG records it, `free` whether the seal does not
hold. -/
def Dev.writeReg (d : Dev) (free : Bool) (off : Nat) (r : RegAt) (mask value : Nat) : Dev :=
  if r.fields.any (fun x => x.fld = .tck .CANCEL_SLOT) then
    { d with tick := { d.tick with cancels := d.tick.cancels ++ [bitsOf value 0 (Fld.tck .CANCEL_SLOT).width] } }
  else
    let ws := d.fieldWrites free r mask value
    let old := d
    let d : Dev := ({ d with regs := applyWrites d.regs ws } : Dev).countWrites off ws
    let ch := ws.filter (fun w => d.rd w.x.fld ≠ w.old)
    let d := ch.foldl (fun (d : Dev) w => d.changed old w.x.fld) d
    let d := if ch.any (fun w => w.x.acc = .rwl) then d.afterConfig old else d
    (d.reservedOp r value).getD d

/-! ### Writes through the windows -/

/-- What a BAR write does. -/
inductive WriteTo where
  | hole | refused | ignored
  | reg (off : Nat) (r : RegAt) (mask value : Nat)
  | msix (f v : Nat)
  deriving DecidableEq, Repr

/-- Whether the bytes of a PF0 BAR0 range lie in no register, nor in a view that is a register of its own. -/
def Dev.unmapped (o : Otp) (d : Dev) (a : Nat) : Bool :=
  (d.barWord o (a / 4 * 4)).isNone && (keyByte o a).isNone && (d.smpByte a).isNone && (apertureOf a).isNone

/-- Whether PF0 may not write a register: the SAF block and the confirmation registers (R38), HEP_PF1_IPEND (R586), the owner registers of a
PF1 ring (R308). -/
def Dev.pf0Refused (d : Dev) (o : Nat) : Bool :=
  (0x3C0000 ≤ o && o < 0x3E0000) || (0x30000 ≤ o && o < 0x30014) || (0x49F00 ≤ o && o < 0x49F04) ||
    (0x80000 ≤ o && o < 0x84000 && 0x20 ≤ o % 0x40 && d.is (.rng (.SQ_ASSIGN_VALID ((o - 0x80000) / 0x40))) &&
      d.sqFunc ((o - 0x80000) / 0x40) = 1) ||
    (0x90000 ≤ o && o < 0x94000 && 0x20 ≤ o % 0x40 && d.is (.rng (.CQ_ASSIGN_VALID ((o - 0x90000) / 0x40))) &&
      d.rd (.rng (.CQ_ASSIGN_FUNC ((o - 0x90000) / 0x40))) = 1)

/-- The write of one word at byte `a` of PF0 BAR0: whole, aligned, and as wide as its register (R17, R590). -/
def barTarget (a len value : Nat) : WriteTo :=
  match regAt a with
  | some r =>
    if r.wide then (if len = 8 ∧ a % 8 = 0 then .reg a r (2 ^ 64 - 1) value else .ignored)
    else if len = 4 ∧ a % 4 = 0 then .reg a r (2 ^ 32 - 1) value
    else .ignored
  | none => .ignored

/-- What a write of `len` bytes at byte `off` of a BAR does (R17, R37, R38, R585, R586). -/
def Dev.writeTo (o : Otp) (d : Dev) (w : Window) (off len value : Nat) : WriteTo :=
  if isDoorbell w off then .ignored
  else
    let ps := (List.range len).map (fun i => d.place w (off + i))
    let hole := fun (p : Option Spot) => match p with | some (.bar a) => d.unmapped o a | none => true | _ => false
    if ps.all hole then (if len = 0 then .ignored else .hole)
    else if (List.range len).any (fun i => roAlias w (off + i)) then .refused
    else match d.place w off with
      | some (.bar a) =>
        if w = .pf0Bar0 ∧ d.pf0Refused a then .refused
        else if w = .pf0Bar0 ∧ 0x4800C ≤ a ∧ a < 0x4802C then .ignored
        else barTarget a len value
      | some (.table f a) => if (len = 4 ∨ len = 8) ∧ a % len = 0 then .msix f a else .ignored
      | _ => .ignored

/-- A word of an MSI-X table entry written: of the vector control only the mask bit is kept (R366, R367). -/
def Dev.writeMsix (d : Dev) (f a value : Nat) : Dev :=
  d.wr (.msix f (a / 16) (a / 4 % 4)) (if a / 4 % 4 = 3 then value % 2 else value % 2 ^ 32)

/-- A BAR write performed. -/
def Dev.doWrite (d : Dev) (free : Bool) (len value : Nat) : WriteTo → Dev
  | .hole => d.inc (.sys .ACCESS_ERR_HOLE_CNT)
  | .refused => d.inc (.sys .ACCESS_ERR_REFUSED_CNT)
  | .ignored => d
  | .reg off r mask v => d.writeReg free off r mask v
  | .msix f a => if len = 8 then (d.writeMsix f a value).writeMsix f (a + 4) (value / 2 ^ 32) else d.writeMsix f a value

/-- Whether a BAR write is carried out by the row of one of its fields. -/
def Dev.ownWrite (d : Dev) : WriteTo → Bool
  | .reg _ r mask v => d.ownActs r mask v
  | _ => false

/-- The register word of a function's configuration space that a write of some of its bytes reaches, with mask and value; the DVSEC words
are those of HEP (R357). -/
def cfgTarget (f off : Nat) (bytes : List Byte) : Option (RegAt × Nat × Nat) :=
  let w := off / 4 * 4
  let bs := bytes.take (4 - off % 4)
  let sh := 8 * (off % 4)
  let mask := (2 ^ (8 * bs.length) - 1) * 2 ^ sh
  (if f = 0 ∧ 0x30C ≤ w ∧ w < 0x32C then wordAt (0x48000 + (w - 0x300)) else csWordAt f w).map (fun r =>
    (r.1, mask * 2 ^ r.2, ofLe bs * 2 ^ sh * 2 ^ r.2))

/-- A configuration write: Unsupported Request for a function that does not exist (R358), else the bytes selected take their access codes,
and the write is completed. -/
def Dev.cfgWrite (d : Dev) (f off : Nat) (bytes : List Byte) : Dev :=
  if !d.fnExists f then (d.count 0x51 0 1).answerUr f
  else match cfgTarget f off bytes with
    | none => (d.count 0x51 0 1).cplDone
    | some (r, mask, value) =>
      let own := d.ownActs r mask value
      let d := if own then d else (d.count 0x51 0 1).cplDone
      d.writeReg false off r mask value

/-- A host write of a BAR: discarded with Unsupported Request by a function that serves none (R385). -/
def Dev.barWrite (o : Otp) (d : Dev) (w : Window) (off : Nat) (bytes : List Byte) : Dev :=
  let value := ofLe bytes
  let t := d.writeTo o w off bytes.length value
  let d := if d.ownWrite t then d else d.count 0x51 0 1
  if d.memClosed (winFn w) then d.discardUr (winFn w) else d.doWrite false bytes.length value t

/-- REGISTER_WRITE: a host write of some bytes at byte `off` of a window.  A field whose write has a row of its own is left to that row's
command, which then counts the TLP. -/
def execRegisterWrite (w : Window) (off : Nat) (bytes : List Byte) (s : State) : Host.Outcome State Fault Refusal :=
  s.runWith (fun o d =>
    let d := d.arrive (d.offFor w off)
    match w with
    | .cfg f => d.cfgWrite f off bytes
    | w => d.barWrite o w off bytes)

/-! ### The JTAG bridge -/

/-- The debug level. -/
def Dev.level (d : Dev) : Nat := d.rd (.sec .DBG_STATUS_LEVEL)

/-- The window a bridge access uses. -/
def bridgeWin (pf1 : Bool) : Window := if pf1 then .pf1Bar0 else .pf0Bar0

/-- What the bridge may not write even at D2: SAF_CMD, the release of a contained port, the one-time-programmable memory, the lifecycle
(R539). -/
def bridgeBarred (r : RegAt) : Bool :=
  r.fields.any (fun x => match x.fld with
    | .saf .CMD_OP | .hep .CTN_RELEASE_GO | .brg (.RP_CTN_RELEASE_GO _) | .sec .LC_CMD_OP | .sec .OTP_CMD_OP | .sec (.OTP_STAGE_DATA _) => true
    | _ => false)

/-- Whether the bridge may perform a write at its debug level: PMC registers at D1, every register but the barred ones at D2 (R532, R539). -/
def Dev.bridgeMay (d : Dev) : WriteTo → Bool
  | .reg off r _ _ => (d.level = 2 && !bridgeBarred r) || (d.level = 1 && 0x440000 ≤ off && off < 0x480000)
  | _ => d.level = 2

/-- Whether the bridge reaches a memory line: every memory but MAC staging (R539). -/
def bridgeLine (l : Nat) : Bool := l < regionBase 6

/-- JTAG_BRIDGE_ACCESS: with DBG_BRIDGE selected at level D1 or D2; reads answer through the TAP (R532, R539, R540, R588, R589). -/
def execJtagBridgeAccess (a : BridgeOp) (s : State) : Host.Outcome State Fault Refusal :=
  s.runWith (fun o d =>
    if d.sec.tapIr ≠ .dbgBridge ∨ d.level = 0 then d
    else match a with
      | .read pf1 off len =>
        if 8 < len then d
        else
          let d := d.arrive (d.offFor (bridgeWin pf1) off)
          match cfgDataOf (bridgeWin pf1) off len, (if pf1 then none else apertureOf off) with
          | some rp, _ => d.cfgAccess rp false []
          | _, some (rp, win, n) => d.apAccess { rp := rp, win := win, off := n, write := false, bytes := [], len := len }
          | _, _ =>
            let (v, _, d) := d.readValue o (bridgeWin pf1) off len
            d.emit (.tap v (8 * len))
      | .write pf1 off bytes =>
        let d := d.arrive (d.offFor (bridgeWin pf1) off)
        let t := d.writeTo o (bridgeWin pf1) off bytes.length (ofLe bytes)
        let t := match t with | .refused => (if d.level = 2 then (match d.place (bridgeWin pf1) off with
              | some (.bar a) => if 0x30000 ≤ a ∧ a < 0x30014 then barTarget a bytes.length (ofLe bytes) else t
              | _ => t) else t) | t => t
        if d.bridgeMay t then d.doWrite (d.level = 2) bytes.length (ofLe bytes) t else d
      | .readLine l =>
        if d.level = 2 ∧ bridgeLine l then
          let (bs, _, d) := d.readLine l
          d.emit (.tap (ofLe bs) 512)
        else d
      | .writeLine l bytes => if d.level = 2 ∧ bridgeLine l then d.writeLine l bytes false else d)

/-! ### The write-back of a corrected line -/

/-- ECC_WRITEBACK: the corrected line `l` is stored, unless a newer write has reached it (R27, R45). -/
def execEccWriteback (l : Nat) (s : State) : Host.Outcome State Fault Refusal :=
  s.run (fun d =>
    if l ∈ d.writeBacks then
      let m := d.mark l
      let d := d.setMark l { m with ce := 0 }
      { d with writeBacks := d.writeBacks.filter (fun x => x ≠ l) }
    else d)

end Sys2Proof.Machine
end

