-- ==== Sys2Proof/Machine/Dispatch.lean ====
section
/-! DEFINITION.  One arm per command: the direct call of its meaning. -/

namespace Sys2Proof.Machine

open Sys2Proof

def exec (i : Instr) (s : State) : Host.Outcome State Fault Refusal :=
  match i with
  | .registerWrite w off bytes => Sys2Proof.Machine.execRegisterWrite w off bytes s
  | .jtagBridgeAccess a => Sys2Proof.Machine.execJtagBridgeAccess a s
  | .eccWriteback l => Sys2Proof.Machine.execEccWriteback l s
  | .tickStart => Sys2Proof.Machine.execTickStart s
  | .tickStop => Sys2Proof.Machine.execTickStop s
  | .tickBoundary => Sys2Proof.Machine.execTickBoundary s
  | .boundaryCore => Sys2Proof.Machine.execBoundaryCore s
  | .boundaryFab => Sys2Proof.Machine.execBoundaryFab s
  | .releaseStateReset => Sys2Proof.Machine.execReleaseStateReset s
  | .phaseOpen p4 => Sys2Proof.Machine.execPhaseOpen p4 s
  | .p3Mark => Sys2Proof.Machine.execP3Mark s
  | .p3Release => Sys2Proof.Machine.execP3Release s
  | .releaseGuardStart p => Sys2Proof.Machine.execReleaseGuardStart p s
  | .slotReady n => Sys2Proof.Machine.execSlotReady n s
  | .slotDispatch n => Sys2Proof.Machine.execSlotDispatch n s
  | .slotCut n => Sys2Proof.Machine.execSlotCut n s
  | .slotCancel => Sys2Proof.Machine.execSlotCancel s
  | .tckRecFifoPop => Sys2Proof.Machine.execTckRecFifoPop s
  | .imageLoadStart => Sys2Proof.Machine.execImageLoadStart s
  | .loadReadError poison => Sys2Proof.Machine.execLoadReadError poison s
  | .loadPass1Complete image => Sys2Proof.Machine.execLoadPass1Complete image s
  | .loadPass2Complete image => Sys2Proof.Machine.execLoadPass2Complete image s
  | .seal => Sys2Proof.Machine.execSeal s
  | .sealReevalEnd => Sys2Proof.Machine.execSealReevalEnd s
  | .overlayArm index => Sys2Proof.Machine.execOverlayArm index s
  | .overlayPrepEnd => Sys2Proof.Machine.execOverlayPrepEnd s
  | .overlayDisarm => Sys2Proof.Machine.execOverlayDisarm s
  | .confirmAccept tag dest => Sys2Proof.Machine.execConfirmAccept tag dest s
  | .confirmRefuse tag dest => Sys2Proof.Machine.execConfirmRefuse tag dest s
  | .confirmTimeout => Sys2Proof.Machine.execConfirmTimeout s
  | .signatureCheck n => Sys2Proof.Machine.execSignatureCheck n s
  | .linkUp p speed pause fullDuplex lane => Sys2Proof.Machine.execLinkUp p speed pause fullDuplex lane s
  | .linkDown p syncLost inFrame => Sys2Proof.Machine.execLinkDown p syncLost inFrame s
  | .anLinkTimer p => Sys2Proof.Machine.execAnLinkTimer p s
  | .restartAn p => Sys2Proof.Machine.execRestartAn p s
  | .mdioC22Write phy reg data => Sys2Proof.Machine.execMdioC22Write phy reg data s
  | .mdioC22Read phy reg => Sys2Proof.Machine.execMdioC22Read phy reg s
  | .mdioC45Address phy dev addr => Sys2Proof.Machine.execMdioC45Address phy dev addr s
  | .mdioC45Write phy dev data => Sys2Proof.Machine.execMdioC45Write phy dev data s
  | .mdioC45Read phy dev => Sys2Proof.Machine.execMdioC45Read phy dev s
  | .mdioC45ReadInc phy dev => Sys2Proof.Machine.execMdioC45ReadInc phy dev s
  | .mdioComplete answer => Sys2Proof.Machine.execMdioComplete answer s
  | .rxFrame p bytes ebError age => Sys2Proof.Machine.execRxFrame p bytes ebError age s
  | .rxFrameToBuffer p => Sys2Proof.Machine.execRxFrameToBuffer p s
  | .rxPause p quanta => Sys2Proof.Machine.execRxPause p quanta s
  | .rxPfc p enable quanta => Sys2Proof.Machine.execRxPfc p enable quanta s
  | .pauseHoldExpiry p q => Sys2Proof.Machine.execPauseHoldExpiry p q s
  | .txPauseXoff p => Sys2Proof.Machine.execTxPauseXoff p s
  | .txPauseRepeat p => Sys2Proof.Machine.execTxPauseRepeat p s
  | .txPauseXon p => Sys2Proof.Machine.execTxPauseXon p s
  | .txGrant p => Sys2Proof.Machine.execTxGrant p s
  | .txPoisonLate p => Sys2Proof.Machine.execTxPoisonLate p s
  | .txComplete p => Sys2Proof.Machine.execTxComplete p s
  | .fenceArrival => Sys2Proof.Machine.execFenceArrival s
  | .fenceLift => Sys2Proof.Machine.execFenceLift s
  | .txCancelArrival p => Sys2Proof.Machine.execTxCancelArrival p s
  | .classifierLookup p => Sys2Proof.Machine.execClassifierLookup p s
  | .frameClassified p => Sys2Proof.Machine.execFrameClassified p s
  | .fragEntryAgeExpiry => Sys2Proof.Machine.execFragEntryAgeExpiry s
  | .beStart e => Sys2Proof.Machine.execBeStart e s
  | .add e rd a b => Sys2Proof.Machine.execAdd e rd a b s
  | .sub e rd a b => Sys2Proof.Machine.execSub e rd a b s
  | .and e rd a b => Sys2Proof.Machine.execAnd e rd a b s
  | .or e rd a b => Sys2Proof.Machine.execOr e rd a b s
  | .xor e rd a b => Sys2Proof.Machine.execXor e rd a b s
  | .shl e rd a b => Sys2Proof.Machine.execShl e rd a b s
  | .shr e rd a b => Sys2Proof.Machine.execShr e rd a b s
  | .shrs e rd a b => Sys2Proof.Machine.execShrs e rd a b s
  | .mul e rd a b => Sys2Proof.Machine.execMul e rd a b s
  | .setLt e rd a b => Sys2Proof.Machine.execSetLt e rd a b s
  | .setUlt e rd a b => Sys2Proof.Machine.execSetUlt e rd a b s
  | .bswap e rd a => Sys2Proof.Machine.execBswap e rd a s
  | .addK e rd a imm => Sys2Proof.Machine.execAddK e rd a imm s
  | .andK e rd a imm => Sys2Proof.Machine.execAndK e rd a imm s
  | .orK e rd a imm => Sys2Proof.Machine.execOrK e rd a imm s
  | .cati e rd a imm => Sys2Proof.Machine.execCati e rd a imm s
  | .shli e rd a pos => Sys2Proof.Machine.execShli e rd a pos s
  | .shri e rd a pos => Sys2Proof.Machine.execShri e rd a pos s
  | .shrsi e rd a pos => Sys2Proof.Machine.execShrsi e rd a pos s
  | .extr e rd a pos lenm1 => Sys2Proof.Machine.execExtr e rd a pos lenm1 s
  | .ins e rd a pos lenm1 => Sys2Proof.Machine.execIns e rd a pos lenm1 s
  | .brEq e a b off => Sys2Proof.Machine.execBrEq e a b off s
  | .brNe e a b off => Sys2Proof.Machine.execBrNe e a b off s
  | .brLt e a b off => Sys2Proof.Machine.execBrLt e a b off s
  | .brGe e a b off => Sys2Proof.Machine.execBrGe e a b off s
  | .brUlt e a b off => Sys2Proof.Machine.execBrUlt e a b off s
  | .brUge e a b off => Sys2Proof.Machine.execBrUge e a b off s
  | .jlink e rd off => Sys2Proof.Machine.execJlink e rd off s
  | .jlinkr e rd a imm => Sys2Proof.Machine.execJlinkr e rd a imm s
  | .ldb e rd a imm diff => Sys2Proof.Machine.execLdb e rd a imm diff s
  | .ldh e rd a imm diff => Sys2Proof.Machine.execLdh e rd a imm diff s
  | .ldw e rd a imm diff => Sys2Proof.Machine.execLdw e rd a imm diff s
  | .ldd e rd a imm diff => Sys2Proof.Machine.execLdd e rd a imm diff s
  | .stb e b a imm diff => Sys2Proof.Machine.execStb e b a imm diff s
  | .sth e b a imm diff => Sys2Proof.Machine.execSth e b a imm diff s
  | .stw e b a imm diff => Sys2Proof.Machine.execStw e b a imm diff s
  | .std e b a imm diff => Sys2Proof.Machine.execStd e b a imm diff s
  | .storeVisible e => Sys2Proof.Machine.execStoreVisible e s
  | .atomAdd e rd a b diff => Sys2Proof.Machine.execAtomAdd e rd a b diff s
  | .atomXch e rd a b diff => Sys2Proof.Machine.execAtomXch e rd a b diff s
  | .atomCas e rd a b diff => Sys2Proof.Machine.execAtomCas e rd a b diff s
  | .fenceSl e => Sys2Proof.Machine.execFenceSl e s
  | .wadj e rd a => Sys2Proof.Machine.execWadj e rd a s
  | .wsetl e rd a => Sys2Proof.Machine.execWsetl e rd a s
  | .lookupExact e rd a b diff => Sys2Proof.Machine.execLookupExact e rd a b diff s
  | .lookupTernary e rd a b diff => Sys2Proof.Machine.execLookupTernary e rd a b diff s
  | .lookupBoth e rd a b diff => Sys2Proof.Machine.execLookupBoth e rd a b diff s
  | .csum e rd a b diff => Sys2Proof.Machine.execCsum e rd a b diff s
  | .crcE e rd a b diff => Sys2Proof.Machine.execCrcE e rd a b diff s
  | .crcC e rd a b diff => Sys2Proof.Machine.execCrcC e rd a b diff s
  | .take e rd diff => Sys2Proof.Machine.execTake e rd diff s
  | .txcq e rd diff => Sys2Proof.Machine.execTxcq e rd diff s
  | .txcan e a diff => Sys2Proof.Machine.execTxcan e a diff s
  | .copy e rd diff => Sys2Proof.Machine.execCopy e rd diff s
  | .fwd e rd a b diff => Sys2Proof.Machine.execFwd e rd a b diff s
  | .deliv e rd a diff => Sys2Proof.Machine.execDeliv e rd a diff s
  | .crypt e rd a b diff => Sys2Proof.Machine.execCrypt e rd a b diff s
  | .bridge e rd a b diff => Sys2Proof.Machine.execBridge e rd a b diff s
  | .stor e rd a b diff => Sys2Proof.Machine.execStor e rd a b diff s
  | .drop e diff => Sys2Proof.Machine.execDrop e diff s
  | .rdtTick e rd => Sys2Proof.Machine.execRdtTick e rd s
  | .rdtTickOffset e rd => Sys2Proof.Machine.execRdtTickOffset e rd s
  | .rdtOccurrenceCycles e rd => Sys2Proof.Machine.execRdtOccurrenceCycles e rd s
  | .waitt e rd a => Sys2Proof.Machine.execWaitt e rd a s
  | .waittResume e => Sys2Proof.Machine.execWaittResume e s
  | .cancel e a diff => Sys2Proof.Machine.execCancel e a diff s
  | .yield e => Sys2Proof.Machine.execYield e s
  | .halt e code diff => Sys2Proof.Machine.execHalt e code diff s
  | .espOutTransform p => Sys2Proof.Machine.execEspOutTransform p s
  | .espInTransform p => Sys2Proof.Machine.execEspInTransform p s
  | .macsecTxTransform p => Sys2Proof.Machine.execMacsecTxTransform p s
  | .macsecRxTransform p => Sys2Proof.Machine.execMacsecRxTransform p s
  | .cryptoReturn p => Sys2Proof.Machine.execCryptoReturn p s
  | .saInstall index => Sys2Proof.Machine.execSaInstall index s
  | .saInstallDone => Sys2Proof.Machine.execSaInstallDone s
  | .saDelete index => Sys2Proof.Machine.execSaDelete index s
  | .saDeleteDone => Sys2Proof.Machine.execSaDeleteDone s
  | .saUpdateTemplate index => Sys2Proof.Machine.execSaUpdateTemplate index s
  | .saUpdateDone => Sys2Proof.Machine.execSaUpdateDone s
  | .nvtOpen c => Sys2Proof.Machine.execNvtOpen c s
  | .nvtClose c => Sys2Proof.Machine.execNvtClose c s
  | .nvtAbort c => Sys2Proof.Machine.execNvtAbort c s
  | .nvtOpenTimeout c => Sys2Proof.Machine.execNvtOpenTimeout c s
  | .nvtSegmentRx => Sys2Proof.Machine.execNvtSegmentRx s
  | .nvtIcresp c => Sys2Proof.Machine.execNvtIcresp c s
  | .nvtR2tRx c => Sys2Proof.Machine.execNvtR2tRx c s
  | .nvtC2hdata c => Sys2Proof.Machine.execNvtC2hdata c s
  | .nvtCapsuleResp c => Sys2Proof.Machine.execNvtCapsuleResp c s
  | .nvtC2hTermReq c => Sys2Proof.Machine.execNvtC2hTermReq c s
  | .nvtTcpRstRx c => Sys2Proof.Machine.execNvtTcpRstRx c s
  | .nvtRtoExpiry c => Sys2Proof.Machine.execNvtRtoExpiry c s
  | .nvtFinSend c => Sys2Proof.Machine.execNvtFinSend c s
  | .nvtClosed c => Sys2Proof.Machine.execNvtClosed c s
  | .nvtCmdAccept q => Sys2Proof.Machine.execNvtCmdAccept q s
  | .nvtCmdTimeout q => Sys2Proof.Machine.execNvtCmdTimeout q s
  | .sqDoorbell f value => Sys2Proof.Machine.execSqDoorbell f value s
  | .cqDoorbell f value => Sys2Proof.Machine.execCqDoorbell f value s
  | .sqFetch n => Sys2Proof.Machine.execSqFetch n s
  | .rxHeldFrameWrite n => Sys2Proof.Machine.execRxHeldFrameWrite n s
  | .ringAbort n => Sys2Proof.Machine.execRingAbort n s
  | .ringAbortComplete n => Sys2Proof.Machine.execRingAbortComplete n s
  | .sqEnable n => Sys2Proof.Machine.execSqEnable n s
  | .sqDisable n => Sys2Proof.Machine.execSqDisable n s
  | .cqEnable c => Sys2Proof.Machine.execCqEnable c s
  | .cqDisable c => Sys2Proof.Machine.execCqDisable c s
  | .safeStateArrival => Sys2Proof.Machine.execSafeStateArrival s
  | .dmaBurstIssue write => Sys2Proof.Machine.execDmaBurstIssue write s
  | .flushReadIssue => Sys2Proof.Machine.execFlushReadIssue s
  | .completionReceived tag f status ep count lower data => Sys2Proof.Machine.execCompletionReceived tag f status ep count lower data s
  | .llDescriptorEnd c => Sys2Proof.Machine.execLlDescriptorEnd c s
  | .llStart c => Sys2Proof.Machine.execLlStart c s
  | .llStop c => Sys2Proof.Machine.execLlStop c s
  | .llStopComplete c => Sys2Proof.Machine.execLlStopComplete c s
  | .llKick c => Sys2Proof.Machine.execLlKick c s
  | .reqMapWrite line kind arg => Sys2Proof.Machine.execReqMapWrite line kind arg s
  | .reqFire line => Sys2Proof.Machine.execReqFire line s
  | .reqLineTimer line => Sys2Proof.Machine.execReqLineTimer line s
  | .tchArm t => Sys2Proof.Machine.execTchArm t s
  | .tchSwapReq t => Sys2Proof.Machine.execTchSwapReq t s
  | .tchSwapOnRequest t => Sys2Proof.Machine.execTchSwapOnRequest t s
  | .tchOccurrenceEnd t => Sys2Proof.Machine.execTchOccurrenceEnd t s
  | .hostLinkUp speed width reversed => Sys2Proof.Machine.execHostLinkUp speed width reversed s
  | .hostLinkDown => Sys2Proof.Machine.execHostLinkDown s
  | .hotReset => Sys2Proof.Machine.execHotReset s
  | .hostLinkError kind => Sys2Proof.Machine.execHostLinkError kind s
  | .vfEnable => Sys2Proof.Machine.execVfEnable s
  | .vfDisable => Sys2Proof.Machine.execVfDisable s
  | .functionLevelReset f => Sys2Proof.Machine.execFunctionLevelReset f s
  | .flrComplete f => Sys2Proof.Machine.execFlrComplete f s
  | .busMasterEnableWrite f v => Sys2Proof.Machine.execBusMasterEnableWrite f v s
  | .powerStateWrite f v => Sys2Proof.Machine.execPowerStateWrite f v s
  | .msixRequest => Sys2Proof.Machine.execMsixRequest s
  | .msixUnblock f v => Sys2Proof.Machine.execMsixUnblock f v s
  | .intxMessage wire => Sys2Proof.Machine.execIntxMessage wire s
  | .ltrMessage => Sys2Proof.Machine.execLtrMessage s
  | .aspmL1Entry => Sys2Proof.Machine.execAspmL1Entry s
  | .inboundUnsupported kind f => Sys2Proof.Machine.execInboundUnsupported kind f s
  | .poisonedWriteRx f => Sys2Proof.Machine.execPoisonedWriteRx f s
  | .completionTimeout => Sys2Proof.Machine.execCompletionTimeout s
  | .ctnFreeze => Sys2Proof.Machine.execCtnFreeze s
  | .ctnRelease go seq => Sys2Proof.Machine.execCtnRelease go seq s
  | .ctnReleaseComplete => Sys2Proof.Machine.execCtnReleaseComplete s
  | .rpPerstWrite rp value => Sys2Proof.Machine.execRpPerstWrite rp value s
  | .rpPerstRelease rp => Sys2Proof.Machine.execRpPerstRelease rp s
  | .rpLinkUp rp speed => Sys2Proof.Machine.execRpLinkUp rp speed s
  | .rpLinkDown rp => Sys2Proof.Machine.execRpLinkDown rp s
  | .rpLinkError rp => Sys2Proof.Machine.execRpLinkError rp s
  | .rpCfgRead rp => Sys2Proof.Machine.execRpCfgRead rp s
  | .rpCfgWrite rp data => Sys2Proof.Machine.execRpCfgWrite rp data s
  | .rpCfgCompletion rp status data => Sys2Proof.Machine.execRpCfgCompletion rp status data s
  | .apertureRead rp w n wide => Sys2Proof.Machine.execApertureRead rp w n wide s
  | .apertureWrite rp w n wide value => Sys2Proof.Machine.execApertureWrite rp w n wide value s
  | .rpCompletionRx rp tag status ep count data => Sys2Proof.Machine.execRpCompletionRx rp tag status ep count data s
  | .rpCompletionTimeout rp => Sys2Proof.Machine.execRpCompletionTimeout rp s
  | .bridgeFrameWrite rp => Sys2Proof.Machine.execBridgeFrameWrite rp s
  | .prefetchLineExpiry rp => Sys2Proof.Machine.execPrefetchLineExpiry rp s
  | .modemInboundRequest rp write ep addr tag len bytes => Sys2Proof.Machine.execModemInboundRequest rp write ep addr tag len bytes s
  | .modemMsiWrite rp addr data => Sys2Proof.Machine.execModemMsiWrite rp addr data s
  | .modemIntxMessage rp assert => Sys2Proof.Machine.execModemIntxMessage rp assert s
  | .modemErrMessage rp kind => Sys2Proof.Machine.execModemErrMessage rp kind s
  | .rpCtnFreeze rp => Sys2Proof.Machine.execRpCtnFreeze rp s
  | .rpContainmentArrival rp => Sys2Proof.Machine.execRpContainmentArrival rp s
  | .rpCtnRelease rp go seq => Sys2Proof.Machine.execRpCtnRelease rp go seq s
  | .keepaliveExpiry rp => Sys2Proof.Machine.execKeepaliveExpiry rp s
  | .keepaliveRearm rp => Sys2Proof.Machine.execKeepaliveRearm rp s
  | .keepaliveLimitWrite rp limit => Sys2Proof.Machine.execKeepaliveLimitWrite rp limit s
  | .timebaseStep => Sys2Proof.Machine.execTimebaseStep s
  | .freqAdjWrite value => Sys2Proof.Machine.execFreqAdjWrite value s
  | .timebaseRead => Sys2Proof.Machine.execTimebaseRead s
  | .anchorPublish => Sys2Proof.Machine.execAnchorPublish s
  | .rxTsPop p => Sys2Proof.Machine.execRxTsPop p s
  | .txTsPop p => Sys2Proof.Machine.execTxTsPop p s
  | .ppsInEdge after => Sys2Proof.Machine.execPpsInEdge after s
  | .ppsLostTimeout => Sys2Proof.Machine.execPpsLostTimeout s
  | .ppsOutRise => Sys2Proof.Machine.execPpsOutRise s
  | .ppsOutFall => Sys2Proof.Machine.execPpsOutFall s
  | .nmeaSentence bytes after => Sys2Proof.Machine.execNmeaSentence bytes after s
  | .ptpSampleWrite e => Sys2Proof.Machine.execPtpSampleWrite e s
  | .holdoverEntry => Sys2Proof.Machine.execHoldoverEntry s
  | .calStepStart n => Sys2Proof.Machine.execCalStepStart n s
  | .calStepEnd lost full measured => Sys2Proof.Machine.execCalStepEnd lost full measured s
  | .almanacOverdue e => Sys2Proof.Machine.execAlmanacOverdue e s
  | .almanacOverdue2 e => Sys2Proof.Machine.execAlmanacOverdue2 e s
  | .almanacVerify n => Sys2Proof.Machine.execAlmanacVerify n s
  | .monitorArm => Sys2Proof.Machine.execMonitorArm s
  | .monitorRecover seq => Sys2Proof.Machine.execMonitorRecover seq s
  | .monitorTrip => Sys2Proof.Machine.execMonitorTrip s
  | .monitorDisarm => Sys2Proof.Machine.execMonitorDisarm s
  | .tickHeartbeat => Sys2Proof.Machine.execTickHeartbeat s
  | .faultReport n => Sys2Proof.Machine.execFaultReport n s
  | .safeOutRefreshTimeout => Sys2Proof.Machine.execSafeOutRefreshTimeout s
  | .outReadbackFault a b => Sys2Proof.Machine.execOutReadbackFault a b s
  | .tickWatchdogExpiry => Sys2Proof.Machine.execTickWatchdogExpiry s
  | .clockMonitorFault domain fail => Sys2Proof.Machine.execClockMonitorFault domain fail s
  | .safeOscWindow count => Sys2Proof.Machine.execSafeOscWindow count s
  | .scrubStep n => Sys2Proof.Machine.execScrubStep n s
  | .scrubLate => Sys2Proof.Machine.execScrubLate s
  | .hostAliveEdge after => Sys2Proof.Machine.execHostAliveEdge after s
  | .hostAliveExpiry => Sys2Proof.Machine.execHostAliveExpiry s
  | .safeInActive level => Sys2Proof.Machine.execSafeInActive level s
  | .bcWindowExpiry c => Sys2Proof.Machine.execBcWindowExpiry c s
  | .supplyWarningSafe sample after => Sys2Proof.Machine.execSupplyWarningSafe sample after s
  | .supplyWarningMgmt => Sys2Proof.Machine.execSupplyWarningMgmt s
  | .supplyWarningDeassert sample after => Sys2Proof.Machine.execSupplyWarningDeassert sample after s
  | .dipQualified sample => Sys2Proof.Machine.execDipQualified sample s
  | .supplyUvLong => Sys2Proof.Machine.execSupplyUvLong s
  | .powerStateChoice => Sys2Proof.Machine.execPowerStateChoice s
  | .scheduledWake n => Sys2Proof.Machine.execScheduledWake n s
  | .a3Commit => Sys2Proof.Machine.execA3Commit s
  | .powerStateExitDone => Sys2Proof.Machine.execPowerStateExitDone s
  | .wakeSignalDetect p => Sys2Proof.Machine.execWakeSignalDetect p s
  | .wakeTimerExpiry => Sys2Proof.Machine.execWakeTimerExpiry s
  | .hostLinkWake => Sys2Proof.Machine.execHostLinkWake s
  | .maxStateWrite v => Sys2Proof.Machine.execMaxStateWrite v s
  | .pmeMessage f => Sys2Proof.Machine.execPmeMessage f s
  | .lcProvision => Sys2Proof.Machine.execLcProvision s
  | .lcField => Sys2Proof.Machine.execLcField s
  | .lcTransitionDone => Sys2Proof.Machine.execLcTransitionDone s
  | .otpProgram target => Sys2Proof.Machine.execOtpProgram target s
  | .otpRevoke target => Sys2Proof.Machine.execOtpRevoke target s
  | .otpWriteDone => Sys2Proof.Machine.execOtpWriteDone s
  | .arbAdvance value => Sys2Proof.Machine.execArbAdvance value s
  | .arbAdvanceDone => Sys2Proof.Machine.execArbAdvanceDone s
  | .dbgD1Open => Sys2Proof.Machine.execDbgD1Open s
  | .dbgClose => Sys2Proof.Machine.execDbgClose s
  | .dbgTokenSubmit => Sys2Proof.Machine.execDbgTokenSubmit s
  | .dbgTokenChecked => Sys2Proof.Machine.execDbgTokenChecked s
  | .tapIdcode => Sys2Proof.Machine.execTapIdcode s
  | .tapBypass => Sys2Proof.Machine.execTapBypass s
  | .tapDbgChal => Sys2Proof.Machine.execTapDbgChal s
  | .tapDbgToken token => Sys2Proof.Machine.execTapDbgToken token s
  | .tapDbgWake => Sys2Proof.Machine.execTapDbgWake s
  | .tapDbgBridge => Sys2Proof.Machine.execTapDbgBridge s
  | .tapSamplePreload value => Sys2Proof.Machine.execTapSamplePreload value s
  | .tapExtest value => Sys2Proof.Machine.execTapExtest value s
  | .tapClamp => Sys2Proof.Machine.execTapClamp s
  | .tapHighz => Sys2Proof.Machine.execTapHighz s
  | .tapReset => Sys2Proof.Machine.execTapReset s
  | .engineHalt e => Sys2Proof.Machine.execEngineHalt e s
  | .engineHaltTakesEffect e => Sys2Proof.Machine.execEngineHaltTakesEffect e s
  | .engineResume e => Sys2Proof.Machine.execEngineResume e s
  | .engineSingleStep e => Sys2Proof.Machine.execEngineSingleStep e s
  | .powerOnReset => Sys2Proof.Machine.execPowerOnReset s
  | .powerOnClassReset => Sys2Proof.Machine.execPowerOnClassReset s
  | .warmReset key => Sys2Proof.Machine.execWarmReset key s
  | .safetyReset key => Sys2Proof.Machine.execSafetyReset key s
  | .watchdogExpiry => Sys2Proof.Machine.execWatchdogExpiry s
  | .wdtFeed value => Sys2Proof.Machine.execWdtFeed value s
  | .perstAssert => Sys2Proof.Machine.execPerstAssert s
  | .perstDeassert => Sys2Proof.Machine.execPerstDeassert s
  | .resetRelease testEn sfdp quad erase addr4 log2 => Sys2Proof.Machine.execResetRelease testEn sfdp quad erase addr4 log2 s
  | .headerStageEnd a b => Sys2Proof.Machine.execHeaderStageEnd a b s
  | .flashRead => Sys2Proof.Machine.execFlashRead s
  | .flashProgram => Sys2Proof.Machine.execFlashProgram s
  | .flashErase => Sys2Proof.Machine.execFlashErase s
  | .flashOpDone timeout page => Sys2Proof.Machine.execFlashOpDone timeout page s
  | .smbusPacketRx p => Sys2Proof.Machine.execSmbusPacketRx p s
  | .mctpSetEndpointId => Sys2Proof.Machine.execMctpSetEndpointId s
  | .mctpGetEndpointId => Sys2Proof.Machine.execMctpGetEndpointId s
  | .mctpGetVersionSupport => Sys2Proof.Machine.execMctpGetVersionSupport s
  | .mctpGetMessageTypeSupport => Sys2Proof.Machine.execMctpGetMessageTypeSupport s
  | .pldmGettid => Sys2Proof.Machine.execPldmGettid s
  | .pldmSettid => Sys2Proof.Machine.execPldmSettid s
  | .pldmGetpldmversion => Sys2Proof.Machine.execPldmGetpldmversion s
  | .pldmGetpldmtypes => Sys2Proof.Machine.execPldmGetpldmtypes s
  | .pldmGetpldmcommands => Sys2Proof.Machine.execPldmGetpldmcommands s
  | .pldmGetsensorreading => Sys2Proof.Machine.execPldmGetsensorreading s
  | .pldmGetstatesensorreadings => Sys2Proof.Machine.execPldmGetstatesensorreadings s
  | .pldmGetpdrrepositoryinfo => Sys2Proof.Machine.execPldmGetpdrrepositoryinfo s
  | .pldmGetpdr => Sys2Proof.Machine.execPldmGetpdr s
  | .smbusArbLost n => Sys2Proof.Machine.execSmbusArbLost n s
  | .smbusRetry => Sys2Proof.Machine.execSmbusRetry s
  | .smbusClockLowTimeout => Sys2Proof.Machine.execSmbusClockLowTimeout s
  | .gpioEdge n rise => Sys2Proof.Machine.execGpioEdge n rise s
  | .counterOverflow => Sys2Proof.Machine.execCounterOverflow s
  | .pmcCntWrite n value => Sys2Proof.Machine.execPmcCntWrite n value s
  | .pmcSelWrite n value => Sys2Proof.Machine.execPmcSelWrite n value s
  | .pmcFreeze => Sys2Proof.Machine.execPmcFreeze s
  | .pmcUnfreeze => Sys2Proof.Machine.execPmcUnfreeze s
  | .pmcSnap => Sys2Proof.Machine.execPmcSnap s
  | .counterSnapshotTask n => Sys2Proof.Machine.execCounterSnapshotTask n s
  | .sampleTaken p h => Sys2Proof.Machine.execSampleTaken p h s
  | .sampleRecordWrite p => Sys2Proof.Machine.execSampleRecordWrite p s
  | .sampleRdWrite p value => Sys2Proof.Machine.execSampleRdWrite p value s
  | .smpCfgWrite p period value => Sys2Proof.Machine.execSmpCfgWrite p period value s
  | .registerRead w off len => Sys2Proof.Machine.execRegisterRead w off len s
  | .hostLinkRetrain speed width => Sys2Proof.Machine.execHostLinkRetrain speed width s
  | .pmeTurnOff => Sys2Proof.Machine.execPmeTurnOff s
  | .rpClkreqNChange rp low => Sys2Proof.Machine.execRpClkreqNChange rp low s
  | .rpVendorDefinedMessage rp => Sys2Proof.Machine.execRpVendorDefinedMessage rp s

end Sys2Proof.Machine
end

