-- ==== Sys2Proof/Machine/Step.lean ====
section
/-! DEFINITION.  One step: the command at the front of the queue is carried out with the rest of the queue; with an empty queue the device
idles for one CORE cycle. -/

namespace Sys2Proof.Machine

/-- The device left alone for 1 ns, one CORE cycle, unless the reset that holds it stops every clock (assumption 2). -/
def State.idle (s : State) : State := if s.heldTim then s else { s with dev := s.dev.elapse 1 }

/-- One step of the machine. -/
def step (s : State) : Host.Outcome State Fault Refusal :=
  match s.pending with
  | [] => .next s.idle
  | c :: cs => exec c { s with pending := cs }

/-- The state with a command put at the front of its queue. -/
def State.push (s : State) (c : Sys2Proof.Instr) : State := { s with pending := c :: s.pending }

/-- The state with the command that a table word spells at the front of its queue; unchanged where it spells none. -/
def State.withFetchWord (s : State) (nbits w : Nat) : State :=
  match Sys2Proof.decodeTableWord nbits w with
  | some c => s.push c
  | none => s

end Sys2Proof.Machine
end

