-- ==== Sys2Proof/Safety.lean ====
section
/-! DEFINITION.  What counts as a safe run, in the terms the statements use: steps that answer a next state, the memory in its canonical
form, the one-time-programmable memory that only gains bits. -/

namespace Sys2Proof.Safety

open Sys2Proof.Machine

/-- A step answers a next state: neither a fault nor a refusal. -/
def Continues (s : State) : Prop := ∃ t, step s = .next t

/-- A state reached from `s` by some steps. -/
inductive Reaches (s : State) : State → Prop where
  | refl : Reaches s s
  | step {t u : State} : Reaches s t → step t = .next u → Reaches s u

/-- A run from `s` is safe when every state it reaches continues. -/
def SafeRun (s : State) : Prop := ∀ t, Reaches s t → Continues t

/-- The memory holds its canonical form: rising addresses, no byte listed that an unlisted address reads as. -/
def MemOk (s : State) : Prop := Memory.wf s.dev.mem = true

/-- Bits of a byte list only gained: every bit set before is set after. -/
def GainsBits (a b : List Byte) : Prop := ∀ i k, (a.getD i 0).getLsbD k = true → (b.getD i 0).getLsbD k = true

/-- A key slot only gains: a written bit stays written, what is programmed stays programmed, what is revoked stays revoked. -/
def SlotGrows (a b : KeySlot) : Prop :=
  (a.prog = true → b.prog = true) ∧ (a.revoked = true → b.revoked = true) ∧ GainsBits a.bits b.bits

/-- The one-time-programmable memory only grows: the UID and the factory's fuses stay; the KEK seed, slots, lifecycle marks and
the anti-rollback count never fall (R521, R524, R526, R530). -/
def OtpGrows (a b : Otp) : Prop :=
  b.uid = a.uid ∧ b.safetyFuse = a.safetyFuse ∧ b.almanac = a.almanac ∧ a.arb ≤ b.arb ∧ (a.seedProg = true → b.seedProg = true) ∧
    GainsBits a.seed b.seed ∧ a.lc ≤ b.lc ∧ ∀ i, SlotGrows (a.slots.getD i {}) (b.slots.getD i {})

/-- Whether a field is the value of a performance counter (PMC_CNT), which counts events of every block (R567). -/
def isCount : Fld → Bool
  | .pmc (.CNT_COUNT _) => true
  | _ => false

/-- Out of reset, in A0 or A1: no request waits for an internal power state to be left (R505, R517, R544). -/
def Awake (s : State) : Prop := s.held = false ∧ s.dev.rd (.pwr .STATUS_STATE) < 2

/-- The command completes: `exec` answers a next state, the waiting commands and the one-time-programmable memory are left, and the state
satisfies `post`. -/
def Completes (c : Sys2Proof.Instr) (s : State) (post : Dev → Prop) : Prop :=
  ∃ t, exec c s = .next t ∧ t.pending = s.pending ∧ t.otp = s.otp ∧ post t.dev

/-- Every register field but those of `l`, and but the values of the performance counters, reads as before. -/
def RegsKept (d e : Dev) (l : List Fld) : Prop := ∀ f, f ∉ l → isCount f = false → e.rd f = d.rd f

/-- Every byte of memory reads as before, and so does the poison and error mark of every line. -/
def MemKept (d e : Dev) : Prop := (∀ a, Mem.get e.mem a = Mem.get d.mem a) ∧ ∀ l, e.mark l = d.mark l

/-- The parts of a device beside its register fields: its memory with its marks, what has left it, its time, its blocks. -/
inductive Part where
  | mem | marks | writeBacks | used | nextUid | out | time | toSafe | irqs | tick | cfg | ports | fence | mdio | classq | engines | txc
  | cry | sec | boot | hep | dma | sqs | cqSince | due | rps | cal | nvt | safeCore | apWait | pwr | saf | tim | sbd | pmc
  deriving DecidableEq, Repr

/-- A part of `e` is as it is in `d`.  Of the performance counters' part, the counters found wrapped are left aside, as their values are. -/
def Part.Same (d e : Dev) : Part → Prop
  | .mem => e.mem = d.mem
  | .marks => e.marks = d.marks
  | .writeBacks => e.writeBacks = d.writeBacks
  | .used => e.used = d.used
  | .nextUid => e.nextUid = d.nextUid
  | .out => e.out = d.out
  | .time => e.now = d.now ∧ e.tb = d.tb ∧ e.tbFrac = d.tbFrac ∧ e.ethPhase = d.ethPhase
  | .toSafe => e.toSafe = d.toSafe
  | .irqs => e.irqs = d.irqs
  | .tick => e.tick = d.tick
  | .cfg => e.cfg = d.cfg
  | .ports => e.ports = d.ports
  | .fence => e.fence = d.fence
  | .mdio => e.mdio = d.mdio
  | .classq => e.classq = d.classq
  | .engines => e.engines = d.engines
  | .txc => e.txc = d.txc
  | .cry => e.cry = d.cry
  | .sec => e.sec = d.sec
  | .boot => e.boot = d.boot
  | .hep => e.hep = d.hep
  | .dma => e.dma = d.dma
  | .sqs => e.sqs = d.sqs
  | .cqSince => e.cqSince = d.cqSince
  | .due => e.due = d.due
  | .rps => e.rps = d.rps
  | .cal => e.cal = d.cal
  | .nvt => e.nvt = d.nvt
  | .safeCore => e.safeCore = d.safeCore
  | .apWait => e.apWait = d.apWait
  | .pwr => e.pwr = d.pwr
  | .saf => e.saf = d.saf
  | .tim => e.tim = d.tim
  | .sbd => e.sbd = d.sbd
  | .pmc => e.pmc.snapAt = d.pmc.snapAt ∧ e.pmc.smp = d.pmc.smp

/-- Every part of the device but those of `l` is as before. -/
def PartsKept (d e : Dev) (l : List Part) : Prop := ∀ p, p ∉ l → p.Same d e

/-- The command completes with `post`, and what it may change is listed: register fields `regs` and parts `parts`; every other register field
(performance counters aside) and every other part is as before. -/
def Effect (c : Sys2Proof.Instr) (s : State) (regs : List Fld) (parts : List Part) (post : Dev → Prop) : Prop :=
  Completes c s (fun t => post t ∧ RegsKept s.dev t regs ∧ PartsKept s.dev t parts)

/-- An engine about to execute an instruction: it can issue, and the word at its program counter, read without error, is the instruction's
(R212, R217). -/
def Ready (d : Dev) (e : Nat) (op : Op) : Prop :=
  d.canIssue e = true ∧ ∃ w, d.fetch e = (w, false, d) ∧ Op.decode w = some op

end Sys2Proof.Safety
end

