-- ==== Sys2Proof/Certificates/Slice0/Obligations.lean ====
section
/-! DEFINITION.  The statements for the provers, family by family.  A clause of a completion statement names a command, the conditions on the
state and the operands under which the spec gives it its own effect, and what the next state then holds and leaves. -/

namespace Sys2Proof.Claims

open Sys2Proof Sys2Proof.Machine Sys2Proof.Safety

/-! ### Words the engine statements use -/

/-- The engine's work registers after a result `v` for `rd`: `rd` holds it unless it is w0, the others are as before (R187, R219). -/
def WritesReg (d t : Dev) (e : Nat) (rd : Fin 32) (v : WReg) : Prop :=
  ∀ i, t.wreg e i = if i = rd ∧ rd ≠ 0 then v else d.wreg e i

/-- The program counter moves to the next word, modulo 16,384 (R219). -/
def NextPc (d t : Dev) (e : Nat) : Prop := (t.engine e).pc = ((d.engine e).pc + 1) % 16384

/-- Nothing but engine `e` and the parts of `l` changes: the other engines, every register field but performance counters, and every other
part of the device are as before; the sampling units, which see every instruction retire (R576), are left aside. -/
def OnlyEngine (d t : Dev) (e : Nat) (l : List Part := []) : Prop :=
  (∀ x, x ≠ e → t.engine x = d.engine x) ∧ RegsKept d t [] ∧ PartsKept d t (.engines :: .pmc :: l)

/-- On an engine about to execute `op`, command `c` writes `v` to `rd`, moves to the next word and changes nothing else. -/
def Computes (c : Instr) (s : State) (e : Fin 16) (op : Op) (rd : Fin 32) (v : WReg) : Prop :=
  s.held = false → Ready s.dev e op →
    Completes c s (fun t => WritesReg s.dev t e rd v ∧ NextPc s.dev t e ∧ OnlyEngine s.dev t e)

/-- The value of two source registers under `f`; it is poisoned when either source is (R221, R223). -/
def both (s : State) (e : Fin 16) (a b : Fin 32) (f : BitVec 64 → BitVec 64 → BitVec 64) : WReg :=
  (f (s.dev.wreg e a).1 (s.dev.wreg e b).1, (s.dev.wreg e a).2 || (s.dev.wreg e b).2)

/-- The value of one source register under `f`, poisoned as its source is. -/
def one (s : State) (e : Fin 16) (a : Fin 32) (f : BitVec 64 → BitVec 64) : WReg := (f (s.dev.wreg e a).1, (s.dev.wreg e a).2)

/-- A branch on two clean registers goes to its target when `cond` holds and to the next word otherwise, and changes nothing but the
program counter (R225). -/
def Branches (c : Instr) (s : State) (e : Fin 16) (op : Op) (a b : Fin 32) (off : BitVec 16) (cond : BitVec 64 → BitVec 64 → Bool) :
    Prop :=
  s.held = false → Ready s.dev e op → (s.dev.wreg e a).2 = false → (s.dev.wreg e b).2 = false →
    Completes c s (fun t =>
      (t.engine e).pc = (if cond (s.dev.wreg e a).1 (s.dev.wreg e b).1
        then ((((s.dev.engine e).pc : Int) + off.toInt) % 16384).toNat
        else ((s.dev.engine e).pc + 1) % 16384) ∧
      (∀ i, t.wreg e i = s.dev.wreg e i) ∧ OnlyEngine s.dev t e)

/-- The number that `n` bytes of memory from address `a` spell, the lowest first (R9). -/
def memValue (d : Dev) (a : Nat) : Nat → Nat
  | 0 => 0
  | n + 1 => (Mem.get d.mem a).toNat + 256 * memValue d (a + 1) n

/-- A load of `n` bytes through a clean base from an aligned place of local or cluster memory whose line holds no error and, in cluster
memory, no store of the engine's own waiting: the bytes zero-extended, clean, and nothing else changed (R189, R208, R226). -/
def Loads (c : Instr) (s : State) (e : Fin 16) (op : Op) (n : Nat) (rd a : Fin 32) (imm : BitVec 16) : Prop :=
  s.held = false → Ready s.dev e op → (s.dev.wreg e a).2 = false →
    ∀ x, x = ((s.dev.wreg e a).1 + imm.signExtend 64).toNat → x % n = 0 →
      (∀ l, x < s.dev.ldmSize e → l = 64 * (s.dev.ldmAt e x).1 + (s.dev.ldmAt e x).2 → s.dev.mark (l / 64) = .clean →
        Completes c s (fun t => WritesReg s.dev t e rd (BitVec.ofNat 64 (memValue s.dev l n), false) ∧ NextPc s.dev t e ∧
          OnlyEngine s.dev t e)) ∧
      (∀ l, 0x01000000 ≤ x → x < 0x01200000 → l = 64 * clusterLine 0 + (x - 0x01000000) → s.dev.mark (l / 64) = .clean →
        (s.dev.engine e).sb = [] →
        Completes c s (fun t => WritesReg s.dev t e rd (BitVec.ofNat 64 (memValue s.dev l n), false) ∧ NextPc s.dev t e ∧
          OnlyEngine s.dev t e))

/-- A store of the low `n` bytes of a register through a clean base to an aligned place.  In local memory: the bytes at the address hold
the value, every other byte is as before.  In cluster memory, with room in the store buffer: the store waits in it and memory is as before
(R189, R208, R226). -/
def Stores (c : Instr) (s : State) (e : Fin 16) (op : Op) (n : Nat) (b a : Fin 32) (imm : BitVec 16) : Prop :=
  s.held = false → Ready s.dev e op → (s.dev.wreg e a).2 = false →
    ∀ x, x = ((s.dev.wreg e a).1 + imm.signExtend 64).toNat → x % n = 0 →
      (∀ l, x < s.dev.ldmSize e → l = 64 * (s.dev.ldmAt e x).1 + (s.dev.ldmAt e x).2 → s.dev.mark (l / 64) = .clean →
        Completes c s (fun t => NextPc s.dev t e ∧ (∀ i, t.wreg e i = s.dev.wreg e i) ∧
          (∀ k, k < n → Mem.get t.mem (l + k) = ((s.dev.wreg e b).1 >>> (8 * k)).truncate 8) ∧
          (∀ k, k < l ∨ l + n ≤ k → Mem.get t.mem k = Mem.get s.dev.mem k) ∧
          (t.mark (l / 64)).code = (if (s.dev.wreg e b).2 then 3 else 0) ∧
          OnlyEngine s.dev t e [.mem, .marks, .writeBacks])) ∧
      (0x01000000 ≤ x → x < 0x01200000 → (s.dev.engine e).sb.length < 8 →
        Completes c s (fun t => NextPc s.dev t e ∧ (∀ i, t.wreg e i = s.dev.wreg e i) ∧
          (t.engine e).sb = (s.dev.engine e).sb ++
            [{ addr := x - 0x01000000, bytes := leBytes n (s.dev.wreg e b).1.toNat, poison := (s.dev.wreg e b).2 }] ∧
          OnlyEngine s.dev t e))

/-- An atomic through a clean base on an aligned cluster word whose line holds no error, with an empty store buffer: `rd` holds the old
word, the word holds `new`, every other byte is as before (R210, R228). -/
def Exchanges (c : Instr) (s : State) (e : Fin 16) (op : Op) (rd a b : Fin 32) (new : BitVec 64 → BitVec 64) : Prop :=
  s.held = false → Ready s.dev e op → (s.dev.wreg e a).2 = false → (s.dev.wreg e b).2 = false → (s.dev.wreg e rd).2 = false →
    (s.dev.engine e).sb = [] →
    ∀ x l, x = (s.dev.wreg e a).1.toNat → x % 8 = 0 → 0x01000000 ≤ x → x < 0x01200000 →
      l = 64 * clusterLine 0 + (x - 0x01000000) → s.dev.mark (l / 64) = .clean →
      Completes c s (fun t =>
        WritesReg s.dev t e rd (BitVec.ofNat 64 (memValue s.dev l 8), false) ∧ NextPc s.dev t e ∧
        memValue t l 8 = (new (BitVec.ofNat 64 (memValue s.dev l 8))).toNat ∧
        (∀ k, k < l ∨ l + 8 ≤ k → Mem.get t.mem k = Mem.get s.dev.mem k) ∧
        OnlyEngine s.dev t e [.mem, .marks, .writeBacks])

/-- An open frame unedited, whose window is the frame as stored, on an engine with an empty store buffer and no copy: what a disposal
commits is the frame itself (R202, R203, R205).  It came from no transmit ring. -/
def PlainFrame (d : Dev) (e : Nat) (f : Frame) : Prop :=
  (d.engine e).fr = some (OpenF.ofFrame f) ∧ (d.engine e).sb = [] ∧ (d.engine e).copies = [] ∧ f.ring = none ∧
    (f.start + f.len + 63) / 64 ≤ f.lines.length

/-- A disposal accepted: `rd` holds a status word with REFUSED and REASON 0, the engine has no frame, and goes on at the next word
(R232, R233). -/
def Disposed (d t : Dev) (e : Nat) (rd : Fin 32) : Prop :=
  (∃ h, WritesReg d t e rd (statusWord h 0 false, false)) ∧ (t.engine e).fr = none ∧ NextPc d t e

/-- The command that issues an instruction on engine `e`; `diff` says that the halves of a lockstep pair send different outputs. -/
def issued (e : Fin 16) (diff : Bool) : Op → Instr
  | .add rd a b => .add e rd a b | .sub rd a b => .sub e rd a b | .and rd a b => .and e rd a b | .or rd a b => .or e rd a b
  | .xor rd a b => .xor e rd a b | .shl rd a b => .shl e rd a b | .shr rd a b => .shr e rd a b | .shrs rd a b => .shrs e rd a b
  | .mul rd a b => .mul e rd a b | .setLt rd a b => .setLt e rd a b | .setUlt rd a b => .setUlt e rd a b | .bswap rd a => .bswap e rd a
  | .addK rd a i => .addK e rd a i | .andK rd a i => .andK e rd a i | .orK rd a i => .orK e rd a i | .cati rd a i => .cati e rd a i
  | .shli rd a p => .shli e rd a p | .shri rd a p => .shri e rd a p | .shrsi rd a p => .shrsi e rd a p
  | .extr rd a p l => .extr e rd a p l | .ins rd a p l => .ins e rd a p l
  | .brEq a b o => .brEq e a b o | .brNe a b o => .brNe e a b o | .brLt a b o => .brLt e a b o | .brGe a b o => .brGe e a b o
  | .brUlt a b o => .brUlt e a b o | .brUge a b o => .brUge e a b o | .jlink rd o => .jlink e rd o | .jlinkr rd a i => .jlinkr e rd a i
  | .ldb rd a i => .ldb e rd a i diff | .ldh rd a i => .ldh e rd a i diff | .ldw rd a i => .ldw e rd a i diff
  | .ldd rd a i => .ldd e rd a i diff | .stb b a i => .stb e b a i diff | .sth b a i => .sth e b a i diff
  | .stw b a i => .stw e b a i diff | .std b a i => .std e b a i diff
  | .atomAdd rd a b => .atomAdd e rd a b diff | .atomXch rd a b => .atomXch e rd a b diff | .atomCas rd a b => .atomCas e rd a b diff
  | .wadj rd a => .wadj e rd a | .wsetl rd a => .wsetl e rd a
  | .lookupExact rd a b => .lookupExact e rd a b diff | .lookupTernary rd a b => .lookupTernary e rd a b diff
  | .lookupBoth rd a b => .lookupBoth e rd a b diff
  | .csum rd a b => .csum e rd a b diff | .crcE rd a b => .crcE e rd a b diff | .crcC rd a b => .crcC e rd a b diff
  | .take rd => .take e rd diff | .txcq rd => .txcq e rd diff | .txcan a => .txcan e a diff | .copy rd => .copy e rd diff
  | .fwd rd a b => .fwd e rd a b diff | .deliv rd a => .deliv e rd a diff | .crypt rd a b => .crypt e rd a b diff
  | .bridge rd a b => .bridge e rd a b diff | .stor rd a b => .stor e rd a b diff | .drop => .drop e diff
  | .rdtTick rd => .rdtTick e rd | .rdtOffset rd => .rdtTickOffset e rd | .rdtCycles rd => .rdtOccurrenceCycles e rd
  | .waitt rd a => .waitt e rd a | .cancel a => .cancel e a diff | .fenceSl => .fenceSl e | .yield => .yield e
  | .halt c => .halt e c diff

/-- The instructions that send outputs, which the halves of a lockstep pair compare (R185). -/
def sends : Op → Bool
  | .ldb .. | .ldh .. | .ldw .. | .ldd .. | .stb .. | .sth .. | .stw .. | .std .. | .atomAdd .. | .atomXch .. | .atomCas ..
  | .lookupExact .. | .lookupTernary .. | .lookupBoth .. | .csum .. | .crcE .. | .crcC .. | .take .. | .txcq .. | .txcan .. | .copy ..
  | .fwd .. | .deliv .. | .crypt .. | .bridge .. | .stor .. | .drop | .cancel .. | .halt .. => true
  | _ => false

/-- The register whose poison stops a branch, a jump, a load, a store or an atomic (R225, R226, R228); a branch has a second one. -/
def poisonStops : Op → List (Fin 32)
  | .brEq a b _ | .brNe a b _ | .brLt a b _ | .brGe a b _ | .brUlt a b _ | .brUge a b _ => [a, b]
  | .jlinkr _ a _ | .ldb _ a _ | .ldh _ a _ | .ldw _ a _ | .ldd _ a _ | .stb _ a _ | .sth _ a _ | .stw _ a _ | .std _ a _
  | .atomAdd _ a _ | .atomXch _ a _ | .atomCas _ a _ => [a]
  | _ => []

/-- Engine `e` raised an exception: its program ended, its frame is dropped, its registers are as before, the exception is shown and, with no
earlier one logged, logged with the program counter (R212). -/
def Raised (d t : Dev) (e : Fin 16) (code : Nat) : Prop :=
  t.engState e = 0 ∧ (t.engine e).fr = none ∧ (t.engine e).copies = [] ∧ (t.engine e).sb = [] ∧ (∀ i, t.wreg e i = d.wreg e i) ∧
  t.rd (.eng (.PAIR_STATUS_EXC (e.val / 2))) = 1 ∧ t.rd (.eng (.EXC_LOG_VALID (e.val / 2) (e.val % 2))) = 1 ∧
  (d.rd (.eng (.EXC_LOG_VALID (e.val / 2) (e.val % 2))) = 0 →
    t.rd (.eng (.EXC_LOG_CODE (e.val / 2) (e.val % 2))) = code ∧
    t.rd (.eng (.EXC_LOG_PC (e.val / 2) (e.val % 2))) = (d.engine e).pc % 2 ^ 14) ∧
  ∀ x, x ≠ e.val → t.engine x = d.engine x


/-! ### Words the other statements use -/

/-- A counter counts `k` more, held at its all-ones value (R44). -/
def Counts (d t : Dev) (f : Fld) (k : Nat := 1) : Prop := t.rd f = min (d.rd f + k) (2 ^ f.width - 1)

/-- The parts of a device that time alone changes: its clocks, the cycle of the tick, the shapers' credits. -/
def timeParts : List Part := [.time, .tick, .ports]

/-- The fields of one slot's completion record (R67). -/
def recFields (n : Nat) : List Fld :=
  [.tck (.SLOT_REC_TICK n), .tck (.SLOT_REC_SLOT n), .tck (.SLOT_REC_STATUS n), .tck (.SLOT_REC_CANCEL_LATE n),
    .tck (.SLOT_REC_LATE_START n), .tck (.SLOT_REC_USED n), .tck .REC_OVF_COUNT]

/-- The completion record of slot `n` in its register: the tick, the slot, the status, the flags and the cycles used (R67). -/
def Recorded (t : Dev) (tick n status late lateStart used : Nat) : Prop :=
  t.rd (.tck (.SLOT_REC_TICK n)) = tick % 2 ^ 32 ∧ t.rd (.tck (.SLOT_REC_SLOT n)) = n ∧ t.rd (.tck (.SLOT_REC_STATUS n)) = status ∧
    t.rd (.tck (.SLOT_REC_CANCEL_LATE n)) = late ∧ t.rd (.tck (.SLOT_REC_LATE_START n)) = lateStart ∧
    t.rd (.tck (.SLOT_REC_USED n)) = used % 2 ^ 21

/-- A slot that runs in the tick in progress, its occurrence in state `st`. -/
def SlotIn (d : Dev) (n : Nat) (st : OccState) : Prop := d.tick.coreRun = true ∧ (d.slot n).on = true ∧ (d.occ n).state = st

/-- A load that is not one of boot ends: no load waits, LOAD_DONE is set, the code and section are recorded, LOAD_FAIL when it failed (R94,
R96, R99). -/
def LoadEnds (t : Dev) (code sec : Nat) : Prop :=
  t.cfg.load = none ∧ t.rd (.cfg .STATUS_LOAD_DONE) = 1 ∧ t.rd (.cfg .STATUS_LOAD_PASS) = 0 ∧ t.rd (.cfg .LOAD_ERR_CODE) = code ∧
    t.rd (.cfg .LOAD_ERR_SECTION) = sec ∧ (code ≠ 0 → t.rd (.cfg .STATUS_LOAD_FAIL) = 1)

/-- The fields that the end of a failed load writes. -/
def loadFields : List Fld :=
  [.cfg .STATUS_LOAD_DONE, .cfg .STATUS_LOAD_PASS, .cfg .LOAD_ERR_CODE, .cfg .LOAD_ERR_SECTION, .cfg .STATUS_LOAD_FAIL]

/-- The fields that the end of a switch request writes (R110). -/
def requestFields : List Fld := [.cfg .OVL_STATUS_STATE, .cfg .OVL_STATUS_LAST_RESULT, .cfg .OVL_STATUS_TOUCH, .cfg .CONF_PENDING_PENDING]

/-- A pending switch request has ended with a result: IDLE, nothing touched or awaited, its shadows discarded (R110). -/
def RequestEnds (t : Dev) (result : Nat) : Prop :=
  t.rd (.cfg .OVL_STATUS_STATE) = 0 ∧ t.rd (.cfg .OVL_STATUS_LAST_RESULT) = result ∧ t.rd (.cfg .OVL_STATUS_TOUCH) = 0 ∧
    t.rd (.cfg .CONF_PENDING_PENDING) = 0 ∧ t.cfg.shadow = {}

/-- A confirmation names the request that waits for it: PENDING is 1, its window is open, tag and destination match (R114). -/
def Confirms (d : Dev) (tag : BitVec 32) (dest : Fin 16) : Prop :=
  d.rd (.cfg .CONF_PENDING_PENDING) = 1 ∧ d.confLapsed = false ∧ d.rd (.cfg .CONF_TAG_TAG) = tag.toNat ∧
    d.rd (.cfg .CONF_PENDING_TO) = dest.val

/-- No frame waits in a transmit queue of port `p`. -/
def QueuesEmpty (d : Dev) (p : Nat) : Prop := ∀ q : Fin 8, (d.port p).txq.getD q [] = []

/-- An entry from no submission ring and no engine pair, whose cancel has not arrived late: what its completion informs is the counters alone. -/
def Plain (e : TxEnt) : Prop := e.frame.ring = none ∧ e.pair = none ∧ e.late = false

/-- No request line listens to events of a kind (R330). -/
def NoLines (d : Dev) (kind : Nat) : Prop := ∀ i : Fin 64, d.rd (.dma (.REQ_MAP_KIND i)) ≠ kind

/-- A PAUSE frame of R147: the flow-control address, some source address, the quanta, padding and its CRC. -/
def IsPause (bs : List Byte) (quanta : Nat) : Prop :=
  ∃ sa : List Byte, sa.length = 6 ∧
    let body := sliceB ([0x01, 0x80, 0xC2, 0x00, 0x00, 0x01] ++ sa ++ [0x88, 0x08, 0x00, 0x01] ++ beBytes 2 quanta) 0 60
    bs = body ++ leBytes 4 (crc32 body)

/-- Port `p`, enabled and up, sends a PAUSE frame now: with the transmitter idle it leaves, counted (R147). -/
def SendsPause (s : State) (t : Dev) (p : Nat) (quanta : Nat) : Prop :=
  (∃ bs, IsPause bs quanta ∧ t.out = s.dev.out ++ ([.wire p bs false] : List Outbound)) ∧ Counts s.dev t (.mac (.CNT_COUNT p 17)) ∧
    (t.port p).pausePend = none

/-- A port that sends PAUSE frames, its transmitter idle. -/
def PauseReady (d : Dev) (p : Nat) : Prop := d.pausing p = true ∧ d.rd (.mac (.FC_CTRL_TX_MODE p)) = 1 ∧ (d.port p).cur = none

/-- A frame at the head of crypto pipeline `p` whose processing has begun: it came from no submission ring, its lines hold it with 64 bytes to
spare, and no memory line holds an error or poison (R242, R243). -/
def HeadJob (d : Dev) (p : Nat) (j : CryJob) (js : List CryJob) : Prop :=
  (d.pipe p).done = none ∧ (d.pipe p).queue = j :: js ∧ j.frame.ring = none ∧ 96 ≤ j.frame.start ∧
    j.frame.start + j.frame.len + 64 ≤ 64 * j.frame.lines.length ∧ d.marks = []

/-- The pipeline's head job left it transformed: a frame of `n` bytes from byte `start` of its lines waits to return, used by SA `s` (R244,
R245). -/
def Transformed (t : Dev) (p : Nat) (j : CryJob) (js : List CryJob) (s start n : Nat) : Prop :=
  (t.pipe p).queue = js ∧ ∃ f, (t.pipe p).done = some { j with frame := f, used := s, clean := true } ∧ f.uid = j.frame.uid ∧
    f.lines = j.frame.lines ∧ f.start = start ∧ f.len = n ∧ f.info.fromCrypto = true

/-- The pipeline's head job dropped: its cause counted, its frame's lines freed (R245). -/
def CryDropped (s : State) (t : Dev) (p : Nat) (j : CryJob) (js : List CryJob) (cause : Nat) : Prop :=
  (t.pipe p).queue = js ∧ (t.pipe p).done = none ∧ Counts s.dev t (.cry (.CNT_COUNT cause)) ∧
    t.used = s.dev.used.filter (fun l => !j.frame.lines.contains l)

/-- An SA of a type, in use, its key good, its outbound number neither at its end nor at its soft limit. -/
def SaReady (d : Dev) (s type : Nat) (e : List Byte) (n : Nat) : Prop :=
  e = (d.saRead s n).1 ∧ saUsable e false type = true ∧ s ∉ d.cry.keyBad ∧ saExhausted e = false ∧ leAt e 16 8 ≠ saSeq e + 1

/-- An SA command over: its result, CMD_DONE, no command in progress (R248). -/
def SaDone (t : Dev) (result : Nat) : Prop :=
  t.cry.cmd = none ∧ t.rd (.cry .SA_CMD_STATUS_RESULT) = result ∧ t.rd (.cry .STATUS_CMD_DONE) = 1

/-- The fields the end of an SA command writes. -/
def saFields : List Fld := [.cry .SA_CMD_STATUS_RESULT, .cry .STATUS_CMD_DONE]

/-- What a segment emitted may write: its counts (R269, R279). -/
def segRegs : List Fld := [.nvt (.CNT_COUNT 0), .eng .UNSERVED_CNT_COUNT]

/-- The parts a segment emitted changes: its frame's lines and its class queue (R269). -/
def segParts : List Part := [.mem, .marks, .writeBacks, .used, .nextUid, .classq]

/-- A segment without data can leave: its class is served, the frame buffer has three lines (R198, R269). -/
def CanSend (d : Dev) (c : Nat) : Prop :=
  d.served (d.rd (.nvt (.CONN_CFG_TX_CLASS c))) = true ∧ (d.alloc (regionBase 1) 65536 3).isSome = true ∧ d.marks = []

/-- One segment of connection `c` with these TCP flags emitted on the connection's class, counted (R269). -/
def SegmentSent (d t : Dev) (c flags : Nat) : Prop :=
  ∃ f, t.classq = d.classq ++ [{ cls := d.rd (.nvt (.CONN_CFG_TX_CLASS c)), frame := f }] ∧ Counts d t (.nvt (.CNT_COUNT 0)) ∧
    ((t.frameBytes f).1.getD ((if d.is (.nvt (.CONN_CFG_V6 c)) then 40 else 20) + 13) 0).toNat = flags

/-- The fields the end of connection `c` writes. -/
def connFields (c : Nat) : List Fld :=
  ([.nvt (.CONN_STATE_STATE c), .nvt (.CONN_STATE_LAST_ERR c), .nvt .STATUS_CONN_CHG, .nvt .STATUS_PATH_DOWN] : List Fld) ++
    (List.range 64).map (fun q => Fld.nvt (.QP_STATUS_PATH_DOWN q))

/-- Connection `c` over: its state and error, its send buffer empty, its quarantine ended, its legs ended, its queue pairs without a path
(R268, R277, R278). -/
def ConnEnded (d t : Dev) (c state err : Nat) : Prop :=
  t.connState c = state ∧ t.rd (.nvt (.CONN_STATE_LAST_ERR c)) = err ∧ t.rd (.nvt .STATUS_CONN_CHG) = 1 ∧ t.conn c = {} ∧
    (∀ x ∈ t.nvt.quar, x.1 ≠ c) ∧ (∀ m ∈ t.nvt.cmds, ∀ l ∈ m.legs, l.conn = c → l.status ≠ none) ∧
    ∀ q : Fin 64, d.is (.nvt (.QP_CFG_VALID q)) = true → (d.qpConns q).contains c = true → t.rd (.nvt (.QP_STATUS_PATH_DOWN q)) = 1

/-- A command ends connection `c`; with no storage command outstanding it changes no more than the connection, its buffers and `parts`. -/
def EndsConn (cmd : Sys2Proof.Instr) (s : State) (c state err : Nat) (regs : List Fld) (parts : List Part) : Prop :=
  Completes cmd s (fun t => ConnEnded s.dev t c state err) ∧
    (s.dev.nvt.cmds = [] → Effect cmd s (connFields c ++ regs) (([.nvt, .dma, .used, .irqs] : List Part) ++ parts) (fun _ => True))

/-- No storage timer has expired by instant `x` (R276). -/
def NoneDue (d : Dev) (x : Nat) : Prop := ∀ m ∈ d.nvt.cmds, x < m.expiry

/-- The oldest segment received, `seg`, comes intact to connection `c` (R270). -/
def Arrived (d : Dev) (x : NvtRx) (xs : List NvtRx) (c : Nat) (seg : List Byte) : Prop :=
  d.nvt.rx = x :: xs ∧ d.marks = [] ∧ NoneDue d d.now ∧
    ∃ v6 src dst, parseIp (d.frameBytes x.frame).1 = some (v6, src, dst, seg) ∧ d.matchConn v6 src dst seg = some c ∧
      d.ownConn x.qp c = true ∧ tcpChecksum src dst seg = 0

/-- A received segment discarded: counted, its cause recorded when no record is held, its frame freed (R270). -/
def SegmentDiscarded (d t : Dev) (x : NvtRx) (xs : List NvtRx) (cause : Nat) : Prop :=
  t.nvt.rx = xs ∧ Counts d t (.nvt (.CNT_COUNT 4)) ∧ t.rd (.nvt .DISCARD_INFO_VALID) = 1 ∧
    t.used = d.used.filter (fun l => !x.frame.lines.contains l) ∧
    (d.rd (.nvt .DISCARD_INFO_VALID) = 0 → t.rd (.nvt .DISCARD_INFO_CAUSE) = cause ∧ t.rd (.nvt .DISCARD_INFO_QP) = x.qp % 64 ∧
      t.rd (.nvt .DISCARD_LOG_TAG) = x.tag % 2 ^ 32)

/-- The fields a discard of a segment writes. -/
def discardFields : List Fld :=
  [.nvt (.CNT_COUNT 4), .nvt .DISCARD_INFO_VALID, .nvt .DISCARD_INFO_CAUSE, .nvt .DISCARD_INFO_QP, .nvt .DISCARD_LOG_TAG]

/-- The next PDU of connection `c`, of a type and without header digest, has come whole to the receive stream up to its header of `k` bytes
(R274). -/
def PduHead (d : Dev) (c type k : Nat) : Prop :=
  (d.conn c).c2h = none ∧ ((d.conn c).rx.getD 0 0).toNat = type ∧ ((d.conn c).rx.getD 2 0).toNat = k ∧ 8 ≤ (d.conn c).rx.length ∧
    k ≤ (d.conn c).rx.length ∧ (type ∈ [5, 7, 9] → d.rd (.nvt (.CONN_CFG_HDGST c)) = 0)

/-- Command `m` over: no longer held. -/
def CmdOver (t : Dev) (m : NvtCmd) : Prop := ∀ x ∈ t.nvt.cmds, x.ser ≠ m.ser

/-- Why a submission doorbell of function `f` is rejected, 0 when it is accepted: the first check that fails, of ring number, index and position
(R289). -/
def sqReason (d : Dev) (f v : Nat) : Nat :=
  if v / 2 ^ 24 ≠ 0 then 1
  else match d.sqOf f (v / 2 ^ 16 % 256) with
    | none => 2
    | some n =>
      if d.sqState n ≠ 1 then 3
      else if d.sqSize n ≤ v % 2 ^ 16 then 4
      else if d.sqSize n - 1 - ringOcc (d.rd (.rng (.SQ_INDEX_HEAD n))) (d.rd (.rng (.SQ_INDEX_TAIL n))) (d.sqSize n) <
          ringOcc (d.rd (.rng (.SQ_INDEX_TAIL n))) (v % 2 ^ 16) (d.sqSize n) then 5
      else 0

/-- Why a completion doorbell is rejected, 0 when it is accepted (R289). -/
def cqReason (d : Dev) (f v : Nat) : Nat :=
  if v / 2 ^ 24 ≠ 0 then 1
  else match d.cqOf f (v / 2 ^ 16 % 256) with
    | none => 2
    | some c =>
      if d.rd (.rng (.CQ_CTRL_EN c)) = 0 then 3
      else if d.cqSize c ≤ v % 2 ^ 16 then 4
      else if ringOcc (d.rd (.rng (.CQ_INDEX_HEAD c))) (d.rd (.rng (.CQ_INDEX_TAIL c))) (d.cqSize c) <
          ringOcc (d.rd (.rng (.CQ_INDEX_HEAD c))) (v % 2 ^ 16) (d.cqSize c) then 6
      else 0

/-- The fields a rejected doorbell may write. -/
def rejectFields (f reason : Nat) : List Fld :=
  [.rng (.FCNT_COUNT f (reason - 1)), .rng (.DB_LOG_VALID f), .rng (.DB_LOG_INDEX f), .rng (.DB_LOG_RING f), .rng (.DB_LOG_REASON f),
    .rng (.DB_LOG_CQ f)]

/-- A rejected doorbell counted, and recorded when no record is held (R289). -/
def DoorbellRejected (d t : Dev) (f v reason cq : Nat) : Prop :=
  Counts d t (.rng (.FCNT_COUNT f (reason - 1))) ∧ t.rd (.rng (.DB_LOG_VALID f)) = 1 ∧
    (d.rd (.rng (.DB_LOG_VALID f)) = 0 → t.rd (.rng (.DB_LOG_INDEX f)) = v % 2 ^ 16 ∧ t.rd (.rng (.DB_LOG_RING f)) = v / 2 ^ 16 % 256 ∧
      t.rd (.rng (.DB_LOG_REASON f)) = reason ∧ t.rd (.rng (.DB_LOG_CQ f)) = cq)

/-- A tick-bound ring is in its slot; any other may move at any time (R303). -/
def InSlot (d : Dev) (n : Nat) : Prop := ∀ x, d.sqTch n = some x → d.tchRunning x = true

/-- Whether a port is sending the frame of entry `ser` of ring `n`. -/
def granted (d : Dev) (n ser : Nat) : Bool := d.ports.any (fun p => p.cur.any (fun c => c.ent.frame.ring = some (n, ser)))

/-- The register fields that logging an uncorrectable error, its message and its containment trigger may write (R380 to R382, R398, R406). -/
def errRegs : List Fld :=
  [0, 1].flatMap (fun g => [.cs g .AER_UE_STS, .cs g .AER_FEP, .cs g .AER_HDRLOG0, .cs g .AER_HDRLOG1, .cs g .AER_HDRLOG2,
    .cs g .AER_HDRLOG3, .cs g .AER_CE_STS, .cs g .DS_URD, .cs g .DS_FED, .cs g .DS_NFED, .cs g .DS_CED, .cs g .STS_DPE, .cs g .STS_SSE]) ++
  ([.hep .CTN_LOG_TRIGGERS, .hep .CTN_STATUS_CAUSE, .hep .CTN_STATUS_SEQ, .hep .CTN_TICK_TICK, .hep .CTN_STATUS_STATE, .hep .CTN_EVT_ENTERED,
    .hep .PF1_IPEND_CTN] : List Fld)

/-- The parts that such an error changes: what leaves the device, the link, interrupts, the reports to the safety monitor. -/
def errParts : List Part := [.out, .hep, .irqs, .toSafe]

/-- The only client of the engines is linked-list channel `c`: no other channel moves, no ring and no storage command is held (R316). -/
def Alone (d : Dev) (c : Nat) : Prop :=
  (∀ x : Fin 128, x.val ≠ c → d.xfer x = none) ∧ (∀ x : Fin 96, x.val ≠ c → d.llState x ≠ 1) ∧
    (∀ n : Fin 256, d.rd (.rng (.SQ_ASSIGN_VALID n)) = 0) ∧ d.nvt.cmds = []

/-- A host read of one request of function `f` for a range can leave now, with this tag (R317, R322). -/
def CanRead (d : Dev) (f addr len tag : Nat) : Prop :=
  d.mayIssue f = true ∧ (d.freeTags f 1).head? = some tag ∧ d.hep.tags.length < 512 ∧
    (d.hep.tags.filter (fun g => g.f = f)).length < d.rd (.hep (.RDQ_MAX f)) ∧ d.vatOk f (linesIn addr len) = true

/-- The parts that issuing a read changes. -/
def readParts : List Part := [.out, .hep, .dma, .mem, .marks, .writeBacks]

/-- The fields the write-back of a descriptor of channel `c` that ends well may write. -/
def backRegs (c : Nat) : List Fld := [.dma (.LL_STATUS_LAST_STATUS c), .dma (.LL_CNT_DONE c), .dma (.IRQ_PEND_PEND (c / 32))]

/-- And when it ends BAD: its count and record. -/
def backBad (c : Nat) : List Fld :=
  [.dma (.LL_CNT_BAD c), .dma .ERR_LOG_VALID, .dma .ERR_LOG_CHANNEL, .dma .ERR_LOG_STATUS, .dma .ERR_ADDR_ADDR, .dma .STATUS_CH_ERR]

/-- The STATUS byte of the current descriptor of channel `c` written back: a byte of cluster memory, or a write to the host (R333, R336). -/
def WrittenBack (d t : Dev) (c status : Nat) : Prop :=
  t.rd (.dma (.LL_STATUS_LAST_STATUS c)) = status ∧
    (if (d.llCur c).1 then (t.clusterGet (((d.llCur c).2 + 19) % 0x200000) 1).1 = [(BitVec.ofNat 8 status, false)] ∧ t.out = d.out
     else t.out = d.out ++ ([.memWrite (d.chF c) ((d.llCur c).2 + 19) [BitVec.ofNat 8 status] false] : List Outbound) ∧ t.mem = d.mem)

/-- No completion timer has expired, and no request of a modem waits. -/
def LinkQuiet (d : Dev) : Prop :=
  (∀ g ∈ d.hep.tags, g.st = .out → d.now < g.expiry) ∧ ∀ rp : Fin 2, (d.rp rp).inb = []

/-- A tag of function `f` in use and the one the link finds for it. -/
def InUse (d : Dev) (g : Tag) (f : Nat) : Prop :=
  g.f = f ∧ d.hep.tags.find? (fun t => t.tag = g.tag && t.f = f) = some g

/-- The tags in use without those of a tag's number and function. -/
def tagsWithout (d : Dev) (g : Tag) : List Tag := d.hep.tags.filter (fun t => !(t.tag = g.tag && t.f = g.f))

/-- A request answered with a completion TLP without data of a status (0 successful, 1 UR). -/
def Replied (d t : Dev) (status : Nat) : Prop := t.out = d.out ++ ([.readData 0 0 status false] : List Outbound)

/-- The configuration registers of function `f` at their reset values, but for the sticky ones (R356, R372, R383, R402). -/
def CfgAtReset (t : Dev) (f : Nat) : Prop := ∀ c : CsF, c.kept = false → t.rd (.cs f c) = Regs.get [] (.cs f c)

/-- Every register field but those of `l`, the configuration registers of functions `fs` and the performance counters reads as before. -/
def KeptBeside (d t : Dev) (l : List Fld) (fs : List Nat) : Prop :=
  ∀ x, x ∉ l → isCount x = false → (∀ f c, x = .cs f c → f ∉ fs) → t.rd x = d.rd x

/-- The link status fields. -/
def linkRegs : List Fld := [.hep .LINK_STATUS_SPEED, .hep .LINK_STATUS_WIDTH, .hep .LINK_STATUS_DL_UP, .hep .LINK_STATUS_REVERSED]

/-- The request of an uncorrectable error to function `f` logged in AER bit `bit` by the functions that log it (R382, R385). -/
def UeLogged (d t : Dev) (f bit : Nat) : Prop := ∀ g ∈ d.logsFor f, (t.rd (.cs g .AER_UE_STS)).testBit bit = true

/-- Interrupt vector `v` of function `f`: its MSI-X message (R367). -/
def msixMsg (d : Dev) (f v : Nat) : Outbound :=
  .msix f ((d.rd (.msix f v 0) + 2 ^ 32 * d.rd (.msix f v 1)) / 4 * 4) (d.rd (.msix f v 2))

/-- The containment sequence number after `n`; it skips 0 (R398). -/
def nextSeq (n : Nat) : Nat := if n = 65535 then 1 else n + 1

/-- The fields a containment of root port `rp` writes (R426). -/
def rpCtnRegs (rp : Nat) : List Fld := [.brg (.RP_STATUS_STATE rp), .brg (.RP_CTN_STATUS_CAUSE rp), .brg (.RP_CTN_STATUS_SEQ rp)]

/-- Trigger `code` presented to root port `rp`: enabled and in TRAINING or UP the port is CONTAINED, on its way to FAB; else nothing (R426). -/
def RpTriggered (d t : Dev) (rp code : Nat) : Prop :=
  if (code = 1 ∨ code = 6 ∨ (d.rd (.brg (.RP_CTN_TRIG rp))).testBit (code - 1) = true) ∧ (d.rpState rp = 1 ∨ d.rpState rp = 2) then
    t.rpState rp = 3 ∧ t.rd (.brg (.RP_CTN_STATUS_CAUSE rp)) = code ∧
      t.rd (.brg (.RP_CTN_STATUS_SEQ rp)) = nextSeq (d.rd (.brg (.RP_CTN_STATUS_SEQ rp))) ∧ (t.rp rp).ctnPend = true
  else (∀ x ∈ rpCtnRegs rp, t.rd x = d.rd x) ∧ (t.rp rp).ctnPend = (d.rp rp).ctnPend

/-- The modem bus address of byte `n` of the aperture of a window (R410, R412). -/
def apAddr (d : Dev) (rp w n : Nat) : Nat := d.winBase rp w + (d.rd (.brg (.WIN_APERTURE_OFFSET rp w)) * 8192 + n)

/-- The bytes at offset `n` of the aperture of an enabled window lie within it (R410, R412). -/
def ApInside (d : Dev) (rp w n len : Nat) : Prop := d.winOk rp w (d.rd (.brg (.WIN_APERTURE_OFFSET rp w)) * 8192 + n) len = true

/-- A root port both FAB and its link see up, and not contained. -/
def RpUp (d : Dev) (rp : Nat) : Prop := d.rpUp rp = true ∧ (d.rp rp).dlUp = true

/-- A read answered with a value. -/
def Answered (d t : Dev) (value bytes : Nat) : Prop := t.out = d.out ++ ([.readData value bytes 0 false] : List Outbound)

/-- The tags of a root port in use that are not `t`'s. -/
def rpTagsWithout (d : Dev) (rp : Nat) (t : RpTag) : List RpTag := (d.rp rp).tags.filter (fun g => g.tag ≠ t.tag)

/-- What an error of a downstream request writes: its count and record (R423). -/
def rpErrRegs (rp i : Nat) : List Fld := [.brg (.RP_CNT_COUNT rp i), .brg (.RP_ERR_LOG_VALID rp), .brg (.RP_ERR_LOG_KIND rp)]

/-- No access of the host waits, no downstream timer of the port has expired. -/
def RpQuiet (d : Dev) (rp : Nat) : Prop := d.apWait = [] ∧ ∀ g ∈ (d.rp rp).tags, g.quarantined = false → d.now < g.expiry

/-! ### The timebase -/

/-- The fields a phase sample may change (R448, R449). -/
def sampleRegs : List Fld :=
  [.tim .LAST_E_E, .tim (.CNT_COUNT 6), .tim (.CNT_COUNT 0), .tim (.CNT_COUNT 1), .tim .INTEG_I, .tim .FREQ_ADJ_ADJ, .tim .STATUS_STEPPED,
    .tim .STATUS_STATE, .tck .STATUS_SRC_STATE, .tim .STATUS_LOCK_CHG]

/-- `x` is a nearest integer to `n / m`. -/
def Nearest (x n : Int) (m : Nat) : Prop := -(m : Int) ≤ 2 * (x * m - n) ∧ 2 * (x * m - n) ≤ m

/-- A phase sample `e`, in half nanoseconds, has been taken: counted and kept; the timebase stepped by its negation when it is to be, else
the proportional and integral terms computed anew, each clamped (R448). -/
def Sampled (d t : Dev) (e : Int) : Prop :=
  t.rd (.tim .LAST_E_E) = ofSigned 32 e ∧ Counts d t (.tim (.CNT_COUNT 6)) ∧
  ((d.loopState ≠ 1 ∧ d.rd (.tim .CTRL_STEP_EN) ≠ 0 ∧ 2 * d.rd (.tim .STEP_THR_NS) ≤ e.natAbs) →
    t.rd (.tim .INTEG_I) = d.rd (.tim .INTEG_I) ∧ t.rd (.tim .FREQ_ADJ_ADJ) = d.rd (.tim .FREQ_ADJ_ADJ) ∧
      ∃ n : Int, Nearest n (-e) 2 ∧ (0 ≤ (d.tb : Int) + n → (t.tb : Int) = d.tb + n)) ∧
  (¬ (d.loopState ≠ 1 ∧ d.rd (.tim .CTRL_STEP_EN) ≠ 0 ∧ 2 * d.rd (.tim .STEP_THR_NS) ≤ e.natAbs) →
    t.tb = d.tb ∧ ∃ x y : Int,
      Nearest x (toSigned 32 (d.rd (.tim .INTEG_I)) * 2 ^ d.rd (.tim .LOOP_KI_SHIFT) - e * 128) (2 ^ d.rd (.tim .LOOP_KI_SHIFT)) ∧
      t.rd (.tim .INTEG_I) = ofSigned 32 (max (-51200000) (min 51200000 x)) ∧
      Nearest y (max (-51200000) (min 51200000 x) * 2 ^ d.rd (.tim .LOOP_KP_SHIFT) - e * 128) (2 ^ d.rd (.tim .LOOP_KP_SHIFT)) ∧
      t.rd (.tim .FREQ_ADJ_ADJ) = ofSigned 32 (max (-51200000) (min 51200000 y)))

/-- The state of the loop after a sample: the samples in a row within LOCK_NS, and where they lead (R449). -/
def Follows (d t : Dev) (e : Int) : Prop :=
  t.tim.run = (if e.natAbs ≤ 2 * d.rd (.tim .LOCK_LOCK_NS) then d.tim.run + 1 else 0) ∧ t.tim.sampleAt = d.now ∧
  t.loopState = (if d.loopState = 1 then (if 16 * d.rd (.tim .LOCK_LOCK_NS) < e.natAbs then 0 else 1)
    else if d.rd (.tim .LOCK_LOCK_CNT) ≤ t.tim.run then 1 else d.loopState)

/-- The timestamp fields of a popped record, received or transmitted (R441). -/
def stampRegs (p : Nat) (tx : Bool) : List Fld :=
  if tx then [.tim (.TXTS_SEC_SEC p), .tim (.TXTS_NS_NS p), .tim (.TXTS_NS_HALF p)]
  else [.tim (.RXTS_SEC_SEC p), .tim (.RXTS_NS_NS p), .tim (.RXTS_NS_HALF p)]

/-- The pop of a port's timestamp FIFO by a 64-bit read: the oldest record's word answers and its timestamp is latched; an empty FIFO answers
0 (R441). -/
def PopsStamp (c : Sys2Proof.Instr) (s : State) (p : Fin 4) (tx : Bool) (fifo : Port → List TsRec) (rest : Port → List TsRec → Port) : Prop :=
  (fifo (s.dev.port p) = [] → Effect c s [] [.out] (fun t => t.out = s.dev.out ++ ([.readData 0 8 0 false] : List Outbound))) ∧
  (∀ r rs, fifo (s.dev.port p) = r :: rs →
    Effect c s (stampRegs p tx) [.ports, .out] (fun t =>
      t.out = s.dev.out ++ ([.readData r.word 8 0 false] : List Outbound) ∧ t.port p = rest (s.dev.port p) rs ∧ (∀ q : Fin 4, q ≠ p → t.port q = s.dev.port q) ∧
      (stampRegs p tx).map t.rd = [r.sec % 2 ^ 48, r.ns % 2 ^ 30, b2n r.half]))

/-- The capture fields of a PPS edge (R443). -/
def capRegs : List Fld := [.tim .PPS_CAP_SEC_SEC, .tim .PPS_CAP_NS_NS, .tim .PPS_CAP_NS_HALF, .tim .PPS_CAP_NS_VALID]

/-- A valid PPS edge captured with its stamp, the timebase `tb` and `half` more with an error that is free, within 2.0 ns where the path's
entry is applied and not overdue (R438, R443). -/
def Captured (d t : Dev) (half : Nat) : Prop :=
  ∃ (stamp : Nat) (err : Int),
    (bitAt (d.rd (.cal .AGE_STATUS_OVERDUE)) 12 = false → almPend (d.alm 12) = false → -4 ≤ err ∧ err ≤ 4) ∧
    stamp = (2 * (d.tb : Int) + half + err).toNat ∧ t.rd (.tim .PPS_CAP_SEC_SEC) = stamp / 2000000000 % 2 ^ 48 ∧
    t.rd (.tim .PPS_CAP_NS_NS) = stamp % 2000000000 / 2 ∧ t.rd (.tim .PPS_CAP_NS_HALF) = stamp % 2 ∧ t.rd (.tim .PPS_CAP_NS_VALID) = 1 ∧
    t.tim.edgeAt = d.now ∧ t.tim.edgeSec = (stamp + 1000000000) / 2000000000

/-- The phase of a captured edge, in half nanoseconds: its distance from the nearest whole second (R447). -/
def PhaseOf (t : Dev) (e : Int) : Prop :=
  -1000000000 ≤ e ∧ e < 1000000000 ∧ ∃ k : Int,
    ((2000000000 * t.rd (.tim .PPS_CAP_SEC_SEC) + 2 * t.rd (.tim .PPS_CAP_NS_NS) + t.rd (.tim .PPS_CAP_NS_HALF) : Nat) : Int)
      = e + 2000000000 * k

/-! ### Calibration -/

/-- The parts that a line written, and a step ended, touch. -/
def calParts : List Part := [.cal, .mem, .marks, .writeBacks, .tick]

/-- An accepted result of entry `e`: PENDING is the value, MEAS_TICK the tick, GEN one more, PEND whether the value in force differs, the CRC
that of the entry; IN_FORCE and every byte outside the entry are as before (R452, R453). -/
def AcceptedResult (d t : Dev) (e : Nat) (value : List Byte) (origin : Nat) : Prop :=
  almPending (t.alm e) = sliceB value 0 16 ∧ leAt (t.alm e) 8 8 = d.rd (.tck .COUNT_TICK) ∧
  leAt (t.alm e) 4 4 = (leAt (d.alm e) 4 4 + 1) % 2 ^ 32 ∧ almForce (t.alm e) = almForce (d.alm e) ∧
  (t.alm e).getD 1 0 = almFlags (almForce (d.alm e) ≠ sliceB value 0 16) origin ∧
  leAt (t.alm e) 60 4 = crc32c ((t.alm e).take 60) ∧ t.mark (almLine e) = .clean ∧
  (∀ a, a < 64 * almLine e ∨ 64 * almLine e + 64 ≤ a → Mem.get t.mem a = Mem.get d.mem a)

/-- The calibration step of slot `n` has ended DONE, counted and recorded (R67, R455). -/
def StepDone (d t : Dev) (n : Nat) : Prop :=
  (t.occ n).state = .ended ∧ t.rd (.tck (.SLOT_REC_TICK n)) = d.tick.coreTick % 2 ^ 32 ∧ t.rd (.tck (.SLOT_REC_SLOT n)) = n ∧
  t.rd (.tck (.SLOT_REC_STATUS n)) = 0 ∧ Counts d t (.cal (.CNT_COUNT 0)) ∧ t.cal.step = none

/-- The event log of the calibration unit and its events (R459). -/
def calLog : List Fld := [.cal .LOG_VALID, .cal .LOG_ENTRY, .cal .LOG_CAUSE]

/-- The fields of the calibration log after event `cause` of entry `e`: the first event's, kept until it is cleared (R46, R459). -/
def CalLogged (d t : Dev) (cause e : Nat) : Prop :=
  (d.rd (.cal .LOG_VALID) = 0 →
    t.rd (.cal .LOG_VALID) = 1 ∧ t.rd (.cal .LOG_ENTRY) = e ∧ t.rd (.cal .LOG_CAUSE) = cause) ∧
  (d.rd (.cal .LOG_VALID) ≠ 0 → ∀ f ∈ calLog, t.rd f = d.rd f)

/-! ### The safety monitor -/

/-- The fields a trip writes (R470, R473). -/
def tripRegs : List Fld :=
  [.saf .TRIP_LOG_CODE, .saf .TRIP_LOG_DETAIL, .saf .TRIP_LOG_VALID, .saf .TRIP_TICK_TICK, .saf .STATE_CAUSE, .saf .STATE_SEQ, .saf .STATE_STATE,
    .saf .EVT_TRIP, .saf .PIN_STATUS_OUT_A, .saf .PIN_STATUS_OUT_B, .saf .PIN_STATUS_READBACK_ERR]

/-- The SAFE_OUT pins driven, energised or not, and the pads with them (R463, R473). -/
def Driven (d t : Dev) (on : Bool) : Prop :=
  t.rd (.saf .PIN_STATUS_OUT_A) = b2n on ∧ t.rd (.saf .PIN_STATUS_OUT_B) = b2n !on ∧ t.rd (.saf .PIN_STATUS_READBACK_ERR) = 0 ∧
    t.out = d.out ++ ([.safeOut on !on] : List Outbound)

/-- TRIPPED entered with a cause and its detail: logged with its tick, a new SEQ that is never 0, the outputs de-energised (R470, R473). -/
def TrippedBy (d t : Dev) (code detail : Nat) : Prop :=
  t.safState = 3 ∧ t.rd (.saf .STATE_CAUSE) = code ∧
    t.rd (.saf .STATE_SEQ) = (if d.rd (.saf .STATE_SEQ) = 65535 then 1 else d.rd (.saf .STATE_SEQ) + 1) ∧
    t.rd (.saf .TRIP_LOG_CODE) = code ∧ t.rd (.saf .TRIP_LOG_DETAIL) = detail % 256 ∧ t.rd (.saf .TRIP_LOG_VALID) = 1 ∧
    t.rd (.saf .TRIP_TICK_TICK) = d.rd (.tck .COUNT_TICK) % 2 ^ 32 ∧ t.rd (.saf .EVT_TRIP) = 1 ∧ Driven d t false

/-- A refused monitor command: its code, counted, and nothing else (R466). -/
def SafRefused (c : Sys2Proof.Instr) (s : State) (code : Nat) : Prop :=
  Effect c s [.saf .RESULT_LAST, .saf .RESULT_REFUSED] [] (fun t =>
    t.rd (.saf .RESULT_LAST) = code ∧ Counts s.dev t (.saf .RESULT_REFUSED))

/-- A monitor command that passed (R466). -/
def SafPassed (t : Dev) : Prop := t.rd (.saf .RESULT_LAST) = 0 ∧ t.rd (.saf .EVT_CMD_DONE) = 1

/-- The fields that entering ARMED may write (R469). -/
def rearmRegs : List Fld :=
  ([.saf .MON_STATUS_SCRUB_AGE, .saf .CNT_RECOVERIES, .saf .STATE_STATE, .saf .EVT_REARM, .saf .PIN_STATUS_OUT_A, .saf .PIN_STATUS_OUT_B,
    .saf .PIN_STATUS_READBACK_ERR, .saf .CNT_PAIRS_CLEARED, .saf .HA_STATUS_EXPIRED] : List Fld) ++
  (List.range 8).map (fun p => Fld.eng (.PAIR_STATUS_STATE_A p)) ++ (List.range 8).map (fun p => Fld.eng (.PAIR_STATUS_STATE_B p)) ++
  (List.range 16).map (fun c => Fld.saf (.BC_LAST_TICK_TICK c)) ++ (List.range 16).map (fun c => Fld.saf (.BC_STATUS_SEQ_VALID c)) ++
  (List.range 16).map (fun c => Fld.saf (.BC_STATUS_STATE c))

/-- A report sent to the monitor, behind those in flight. -/
def Reports (d t : Dev) (code detail : Nat) : Prop := t.toSafe = d.toSafe ++ ([⟨false, code, detail⟩] : List Report)

/-! ### Supply and internal power states -/

/-- The fields of a dip episode's record (R499, R503). -/
def dipRegs : List Fld :=
  [.pwr .DIP_LOG_MIN, .pwr .DIP_LOG_DUR, .pwr .DIP_LOG_BELOW, .pwr .DIP_LOG_FLASH_ABANDONED, .pwr .DIP_LOG_UV_LONG,
    .pwr .DIP_LOG_REACHED_RESET, .pwr .DIP_LOG_TICK, .pwr .DIP_LOG_VALID, .pwr .DIP_CNT_COUNT]

/-- The fields an entry to A3 that is aborted writes (R515). -/
def abortRegs : List Fld := [.pwr .STATUS_ENTERING, .pwr (.CNT_COUNT 3), .pwr .EVT_A3_ABORT]

/-- The exit latency of an internal state in ns (R505). -/
def exitOf (a : Nat) : Nat := if a = 1 then 2000 else if a = 2 then 40000 else 900000

/-- A wake from the state in force, none being left: from A3 its source is latched and the state is left once AON has taken the command; from A2
it is left; in A0 and A1 nothing happens (R505, R515, R516).  `d` is the device at the instant of the wake. -/
def Wakes (c : Sys2Proof.Instr) (s : State) (d : Dev) (f : Fld) (v : Nat) (parts : List Part) : Prop :=
  (s.dev.pwrState = 3 → ∀ x, x = (match d.pwr.committed with | some k => max d.now (k + 122080) | none => d.now) →
    Effect c s [f, .cs 0 .PM_PME_STATUS] (.pwr :: .hep :: parts) (fun t => t.rd f = v ∧ t.now = d.now ∧
      t.pwr = { d.pwr with leaving := some (x + 900000, 0) })) ∧
  (s.dev.pwrState = 2 → Effect c s [] (.pwr :: .hep :: parts) (fun t => t.now = d.now ∧ t.pwr = { d.pwr with leaving := some (d.now + 40000, 0) })) ∧
  (s.dev.pwrState < 2 → Effect c s [] (.hep :: parts) (fun t => t.now = d.now))

/-! ### Security -/

/-- As `Effect`, for a command that may write the one-time-programmable memory. -/
def EffectOtp (c : Sys2Proof.Instr) (s : State) (regs : List Fld) (parts : List Part) (post : Otp → Dev → Prop) : Prop :=
  ∃ t, exec c s = .next t ∧ t.pending = s.pending ∧ post t.otp t.dev ∧ RegsKept s.dev t.dev regs ∧ PartsKept s.dev t.dev parts

/-- A refused lifecycle command (R522). -/
def LcRefused (c : Sys2Proof.Instr) (s : State) (code : Nat) : Prop :=
  Effect c s [.sec .LC_RESULT_LAST, .sec .LC_RESULT_REFUSED] [] (fun t =>
    t.rd (.sec .LC_RESULT_LAST) = code ∧ Counts s.dev t (.sec .LC_RESULT_REFUSED))

/-- The fields the end of an OTP command writes: the stage, zeroed, and RESULT (R524). -/
def otpRegs : List Fld := .sec .OTP_STATUS_RESULT :: (List.range 24).map (fun i => Fld.sec (.OTP_STAGE_DATA i))

/-- An OTP command ended with a result, the stage zeroed (R524). -/
def OtpEnded (t : Dev) (code : Nat) : Prop :=
  t.rd (.sec .OTP_STATUS_RESULT) = code ∧ ∀ i : Fin 24, t.rd (.sec (.OTP_STAGE_DATA i)) = 0

/-- The fields of the challenge (R535). -/
def chalRegs : List Fld := (List.range 4).map (fun i => Fld.sec (.DBG_CHAL_CHAL i))

/-- The fields of the submitted token (R535). -/
def tokenRegs : List Fld := (List.range 40).map (fun i => Fld.sec (.DBG_TOKEN_DATA i))

/-- A token under verification against the challenge it answers, the token register zeroed (R535). -/
def Submitted (d t : Dev) (token : List Byte) : Prop :=
  t.sec = { d.sec with
    token := some token
    tokenChal := d.challenge } ∧ ∀ i : Fin 40, t.rd (.sec (.DBG_TOKEN_DATA i)) = 0

/-- A TAP instruction selected: its register, with `more` of the device, changes; one that is not available selects BYPASS alone (R533). -/
def Selects (c : Sys2Proof.Instr) (s : State) (i : TapIr) (regs : List Fld) (parts : List Part) (post : Dev → Prop) : Prop :=
  (tapAvailable s.otp s.dev i = true → Effect c s regs (.sec :: parts) (fun t => t.sec.tapIr = i ∧ post t)) ∧
  (tapAvailable s.otp s.dev i = false → Effect c s [] [.sec] (fun t => t.sec = { s.dev.sec with tapIr := .bypass }))

/-- The SAFE_OUT pins as boundary scan drives them from a register value: low and high but in a BLANK part (R533). -/
def BoundaryPins (s : State) (t : Dev) (value : Nat) : Prop :=
  t.out = s.dev.out ++ ([if s.otp.lc = 0 then .safeOut (value.testBit 0) (value.testBit 1) else .safeOut false true] : List Outbound)

/-! ### Resets and boot -/

/-- The scope of a reset: during another's boot sequence the wider of the two (R551). -/
def scopeOf (d : Dev) (k : ResetKind) : ResetKind := if d.booting then d.boot.kind.wider k else k

/-- What a reset of scope `k` leaves of device `d`: the fields it keeps, every other field at its reset value; TIM and SAF where it does not reach
them; every other part as after power-on; what has left, and the pins it changes (R543 to R545). -/
def ResetTo (d t : Dev) (k : ResetKind) : Prop :=
  t.boot = { kind := k } ∧ (∀ f, t.rd f = if k.keeps f then d.rd f else Regs.get [] f) ∧ t.now = d.now ∧ t.out = d.out ++ d.resetPins k ∧
    t.tim = (if k.hitsTim then {} else d.tim) ∧ t.tb = (if k.hitsTim then 0 else d.tb) ∧ t.saf = (if k.hitsSaf then {} else d.saf) ∧
    t.toSafe = (if k.hitsSaf then [] else d.toSafe) ∧ t.fence = (!k.hitsSaf && d.fence) ∧ t.safeCore = (!k.hitsSaf && d.safeCore) ∧
    t.hep = { perst := d.hep.perst } ∧ t.rps = d.rps.map (fun r => { clkreqLow := r.clkreqLow }) ∧
    PartsKept ({} : Dev) t [.time, .out, .toSafe, .fence, .safeCore, .tim, .saf, .boot, .hep, .rps, .nextUid]

/-- A command resets the device with scope `k`, no write of the one-time-programmable memory being in progress. -/
def Resets (c : Sys2Proof.Instr) (s : State) (d : Dev) (k : ResetKind) : Prop :=
  s.dev.sec.otpOp = none → s.dev.sec.arbTo = none → Completes c s (fun t => ResetTo d t k)

/-- A refused reset request (R546, R547). -/
def RstRefused (c : Sys2Proof.Instr) (s : State) (code : Nat) : Prop :=
  Effect c s [.sbd .RST_RESULT_LAST, .sbd .RST_RESULT_REFUSED] [] (fun t =>
    t.rd (.sbd .RST_RESULT_LAST) = code ∧ Counts s.dev t (.sbd .RST_RESULT_REFUSED))

/-- The fields a boot header sets in the functions (R554, R555). -/
def idRegs : List Fld := [.cs 0 .SUBSYS_VID, .cs 0 .SUBSYS_ID, .cs 1 .SUBSYS_VID, .cs 1 .SUBSYS_ID, .sbd .SMB_STATUS_ADDR]

/-- The IDs and the SMBus address in force (R554, R555). -/
def IdsAre (t : Dev) (vid id addr : Nat) : Prop := idRegs.map t.rd = [vid, id, vid, id, addr]

/-- A flash command, `a` the address of SBD_FL_ADDR and `size` the multiple it must be of: it starts, or ends at once with its code (R560). -/
def FlashStarts (c : Sys2Proof.Instr) (s : State) (op size : Nat) (bytes : List Byte) : Prop :=
  ∀ a code : Nat, a = s.dev.rd (.sbd .FL_ADDR_ADDR) →
    code = (if s.dev.sbd.flash ≠ none ∨ s.dev.bootLoads = true then 1 else if op ≠ 1 ∧ s.dev.inhibited = true then 2
      else if a % size ≠ 0 ∨ 2 ^ s.dev.rd (.sbd .SFDP_INFO_LOG2_BYTES) ≤ a then 3 else 0) →
    (code ≠ 0 → Effect c s [.sbd .FL_STATUS_RESULT] [] (fun t => t.rd (.sbd .FL_STATUS_RESULT) = code)) ∧
    (code = 0 → Effect c s [] [.sbd, .out] (fun t =>
      t.sbd = { s.dev.sbd with flash := some (op, a) } ∧ t.out = s.dev.out ++ ([.flash op a bytes] : List Outbound)))

/-! ### The sideband -/

/-- The oldest request waiting is command `c`, with at least `n` bytes of data. -/
def Asks (d : Dev) (c : Nat × Nat) (n : Nat) (p : List Byte) (ps : List (List Byte)) : Prop :=
  d.sbd.rx = p :: ps ∧ packetCmd p = some c ∧ d.smbusOn = true ∧ n ≤ (packetData p).length

/-- The packets of the response to `p` with data `bs`, as the endpoint, its identity `eid`, sends them. -/
def responseTo (d : Dev) (eid : Nat) (p bs : List Byte) : List (List Byte) :=
  let inst := BitVec.ofNat 8 (leAt p 9 1 % 128)
  let hd := if leAt p 8 1 = 0 then [0, inst, p.getD 10 0] else [1, inst, p.getD 10 0, p.getD 11 0]
  smbusPackets (leAt p 3 1) (d.rd (.sbd .SMB_STATUS_ADDR)) (leAt p 6 1) eid (leAt p 7 1 % 8) 4 0 (hd ++ bs)

/-- A request served: it is taken from the queue, and the packets of its response are sent and kept for a retry; of `tid` and `eid` the terminus
and endpoint identities hold what they are given (R561, R563). -/
def Answers (c : Sys2Proof.Instr) (s : State) (p : List Byte) (ps : List (List Byte)) (regs : List Fld) (eid tid : Nat)
    (ok : List Byte → Prop) : Prop :=
  Effect c s regs [.sbd, .out] (fun t => ∃ bs, ok bs ∧ t.rd (.sbd .SMB_STATUS_EID) = eid ∧
    t.out = s.dev.out ++ (responseTo s.dev eid p bs).map .smbus ∧
    t.sbd = { s.dev.sbd with
      rx := ps
      packets := responseTo s.dev eid p bs
      losses := 0
      retry := false
      tid := tid })

/-- A request served whose answer changes neither identity: its data satisfy `ok`. -/
def Serves (c : Sys2Proof.Instr) (s : State) (cmd : Nat × Nat) (n : Nat) (ok : List Byte → List Byte → Prop) : Prop :=
  ∀ p ps, Asks s.dev cmd n p ps → Answers c s p ps [] (s.dev.rd (.sbd .SMB_STATUS_EID)) s.dev.sbd.tid (ok (packetData p))

/-! ### Counters -/

/-- Every performance counter that is not enabled reads as before, but those of `l`. -/
def CountsKept (d t : Dev) (l : List Nat) : Prop :=
  ∀ n, n ∉ l → d.rd (.pmc (.SEL_EN n)) = 0 → t.rd (.pmc (.CNT_COUNT n)) = d.rd (.pmc (.CNT_COUNT n))

/-- A snapshot: the counters in the bank of the next number, the tick and the source (R574). -/
def Snapped (d t : Dev) (src : Nat) : Prop :=
  ∃ q, q = (d.rd (.pmc .SNAP_SEQ_SEQ) + 1) % 2 ^ 32 ∧ t.rd (.pmc .SNAP_SEQ_SEQ) = q ∧ t.rd (.pmc .SNAP_INFO_SRC) = src ∧
    t.rd (.pmc .SNAP_TICK_TICK) = d.tick.fabTick % 2 ^ (PmcF.SNAP_TICK_TICK).width ∧ t.pmc.snapAt = some (d.now * 4 / 5) ∧
    ∀ n : Fin 384, t.rd (.pmc (.SNAP_BANK_COUNT (q % 2) n)) = t.rd (.pmc (.CNT_COUNT n))

/-- The fields a snapshot writes in the bank of the next number. -/
def snapRegs (d : Dev) : List Fld :=
  ([.pmc .SNAP_SEQ_SEQ, .pmc .SNAP_INFO_SRC, .pmc .SNAP_TICK_TICK] : List Fld) ++
    (List.range 384).map (fun n => Fld.pmc (.SNAP_BANK_COUNT ((d.rd (.pmc .SNAP_SEQ_SEQ) + 1) % 2) n))
/-! ### Words the statements about the whole machine use -/

/-- The commands that a reset never holds back: the reset commands themselves and PERST_N, whose level is sampled at all times (R543, R544). -/
def resetCommand : Instr → Bool
  | .powerOnReset | .powerOnClassReset | .perstAssert | .perstDeassert | .resetRelease .. => true
  | _ => false

/-- The commands of TIM's own logic, which a reset of other blocks leaves running (R543). -/
def timCommand : Instr → Bool
  | .holdoverEntry | .ppsInEdge .. | .ppsLostTimeout | .ppsOutRise | .ppsOutFall | .nmeaSentence .. => true
  | _ => false

/-- The commands of SAF's own logic, which a reset of other blocks leaves running (R543). -/
def safCommand : Instr → Bool
  | .tickHeartbeat | .faultReport .. | .safeOutRefreshTimeout | .outReadbackFault .. | .tickWatchdogExpiry | .clockMonitorFault ..
  | .safeOscWindow .. | .hostAliveEdge .. | .hostAliveExpiry | .safeInActive .. | .bcWindowExpiry .. | .scrubLate => true
  | _ => false

end Sys2Proof.Claims

open Sys2Proof Sys2Proof.Machine Sys2Proof.Safety Sys2Proof.Claims

/-- ADD, SUB, AND, OR, XOR, SHL, SHR, SHRS, MUL, SET.LT, SET.ULT, BSWAP and the immediate forms ADD.K, AND.K, OR.K, CATI: for all operands,
the value R223 gives, poisoned when a source is, in `rd` (w0 discards it); nothing else changes (R219, R221, R223). -/
def Sys2Proof.Claims.ArithmeticResults : Prop :=
  ∀ (s : State) (e : Fin 16) (rd a b : Fin 32) (k : BitVec 16),
    Computes (.add e rd a b) s e (.add rd a b) rd (both s e a b (fun x y => x + y)) ∧
    Computes (.sub e rd a b) s e (.sub rd a b) rd (both s e a b (fun x y => x - y)) ∧
    Computes (.and e rd a b) s e (.and rd a b) rd (both s e a b (fun x y => x &&& y)) ∧
    Computes (.or e rd a b) s e (.or rd a b) rd (both s e a b (fun x y => x ||| y)) ∧
    Computes (.xor e rd a b) s e (.xor rd a b) rd (both s e a b (fun x y => x ^^^ y)) ∧
    Computes (.shl e rd a b) s e (.shl rd a b) rd (both s e a b (fun x y => x <<< (y.toNat % 64))) ∧
    Computes (.shr e rd a b) s e (.shr rd a b) rd (both s e a b (fun x y => x >>> (y.toNat % 64))) ∧
    Computes (.shrs e rd a b) s e (.shrs rd a b) rd (both s e a b (fun x y => x.sshiftRight (y.toNat % 64))) ∧
    Computes (.mul e rd a b) s e (.mul rd a b) rd (both s e a b (fun x y => x * y)) ∧
    Computes (.setLt e rd a b) s e (.setLt rd a b) rd (both s e a b (fun x y => if x.toInt < y.toInt then 1 else 0)) ∧
    Computes (.setUlt e rd a b) s e (.setUlt rd a b) rd (both s e a b (fun x y => if x.toNat < y.toNat then 1 else 0)) ∧
    Computes (.bswap e rd a) s e (.bswap rd a) rd (one s e a (fun x =>
      x.extractLsb' 0 8 ++ x.extractLsb' 8 8 ++ x.extractLsb' 16 8 ++ x.extractLsb' 24 8 ++
        x.extractLsb' 32 8 ++ x.extractLsb' 40 8 ++ x.extractLsb' 48 8 ++ x.extractLsb' 56 8)) ∧
    Computes (.addK e rd a k) s e (.addK rd a k) rd (one s e a (fun x => x + k.signExtend 64)) ∧
    Computes (.andK e rd a k) s e (.andK rd a k) rd (one s e a (fun x => x &&& k.setWidth 64)) ∧
    Computes (.orK e rd a k) s e (.orK rd a k) rd (one s e a (fun x => x ||| k.setWidth 64)) ∧
    Computes (.cati e rd a k) s e (.cati rd a k) rd (one s e a (fun x => (x <<< 16) ||| k.setWidth 64))

/-- SHLI, SHRI, SHRSI, EXTR and INS, for every position, and every length that stays in the register: R224's values, poisoned as the
sources are (INS reads `rd`); nothing else changes. -/
def Sys2Proof.Claims.BitFieldResults : Prop :=
  ∀ (s : State) (e : Fin 16) (rd a : Fin 32) (p l : Fin 64),
    Computes (.shli e rd a p) s e (.shli rd a p) rd (one s e a (fun x => x <<< p.val)) ∧
    Computes (.shri e rd a p) s e (.shri rd a p) rd (one s e a (fun x => x >>> p.val)) ∧
    Computes (.shrsi e rd a p) s e (.shrsi rd a p) rd (one s e a (fun x => x.sshiftRight p.val)) ∧
    (p.val + l.val < 64 →
      Computes (.extr e rd a p l) s e (.extr rd a p l) rd
        (one s e a (fun x => (x >>> p.val) &&& (BitVec.allOnes 64 >>> (63 - l.val)))) ∧
      Computes (.ins e rd a p l) s e (.ins rd a p l) rd
        (both s e rd a (fun o x =>
          let m := (BitVec.allOnes 64 >>> (63 - l.val)) <<< p.val
          (o &&& ~~~m) ||| ((x <<< p.val) &&& m))))

/-- Arithmetic, logic, comparison, shift and bit-field instructions write their value and poison to rd and change nothing else:
ArithmeticResults, BitFieldResults. -/
def Obligations.RegisterResults : Prop :=
  ArithmeticResults ∧ BitFieldResults

/-- BR.EQ, BR.NE, BR.LT, BR.GE, BR.ULT and BR.UGE on clean registers, for every offset (R225). -/
def Sys2Proof.Claims.BranchTargets : Prop :=
  ∀ (s : State) (e : Fin 16) (a b : Fin 32) (o : BitVec 16),
    Branches (.brEq e a b o) s e (.brEq a b o) a b o (fun x y => x == y) ∧
    Branches (.brNe e a b o) s e (.brNe a b o) a b o (fun x y => x != y) ∧
    Branches (.brLt e a b o) s e (.brLt a b o) a b o (fun x y => decide (x.toInt < y.toInt)) ∧
    Branches (.brGe e a b o) s e (.brGe a b o) a b o (fun x y => decide (y.toInt ≤ x.toInt)) ∧
    Branches (.brUlt e a b o) s e (.brUlt a b o) a b o (fun x y => decide (x.toNat < y.toNat)) ∧
    Branches (.brUge e a b o) s e (.brUge a b o) a b o (fun x y => decide (y.toNat ≤ x.toNat))

/-- JLINK and JLINKR: the link register holds the next word's index, clean, and the program counter the target modulo 16,384; of JLINKR
with a clean register (R225). -/
def Sys2Proof.Claims.JumpAndLink : Prop :=
  ∀ (s : State) (e : Fin 16) (rd a : Fin 32) (o : BitVec 21) (k : BitVec 16), s.held = false →
    (Ready s.dev e (.jlink rd o) →
      Completes (.jlink e rd o) s (fun t =>
        WritesReg s.dev t e rd (BitVec.ofNat 64 ((s.dev.engine e).pc + 1), false) ∧
        ((t.engine e).pc : Int) = (((s.dev.engine e).pc : Int) + o.toInt) % 16384 ∧ OnlyEngine s.dev t e)) ∧
    (Ready s.dev e (.jlinkr rd a k) → (s.dev.wreg e a).2 = false →
      Completes (.jlinkr e rd a k) s (fun t =>
        WritesReg s.dev t e rd (BitVec.ofNat 64 ((s.dev.engine e).pc + 1), false) ∧
        (t.engine e).pc = ((s.dev.wreg e a).1 + k.signExtend 64).toNat % 16384 ∧ OnlyEngine s.dev t e))

/-- POISONED_USE of a branch, a jump to a register, a load, a store or an atomic on a poisoned register, whichever way the branch would go;
ILLEGAL for a word that encodes no instruction; IMEM_UE for a word read from a line with an error (R212, R217, R222, R225, R226, R228). -/
def Sys2Proof.Claims.ExceptionsRaised : Prop :=
  ∀ (s : State) (e : Fin 16) (op : Op), s.held = false →
    (∀ r ∈ poisonStops op, Ready s.dev e op → (s.dev.wreg e r).2 = true →
      Completes (issued e false op) s (fun t => Raised s.dev t e 7)) ∧
    (∀ w : Nat, s.dev.canIssue e = true → s.dev.fetch e = (w, false, s.dev) → Op.decode w = none →
      Completes (issued e false op) s (fun t => Raised s.dev t e 1)) ∧
    (∀ (w : Nat) (d : Dev), s.dev.canIssue e = true → s.dev.fetch e = (w, true, d) →
      Completes (issued e false op) s (fun t => Raised s.dev t e 2))

/-- Branches and jumps go where R225 says; poisoned, reserved and unreadable words raise their exceptions: BranchTargets, JumpAndLink,
ExceptionsRaised. -/
def Obligations.ControlTransfers : Prop :=
  BranchTargets ∧ JumpAndLink ∧ ExceptionsRaised

/-- LDB, LDH, LDW and LDD from local and cluster memory (R189, R226). -/
def Sys2Proof.Claims.LoadResults : Prop :=
  ∀ (s : State) (e : Fin 16) (rd a : Fin 32) (k : BitVec 16),
    Loads (.ldb e rd a k false) s e (.ldb rd a k) 1 rd a k ∧ Loads (.ldh e rd a k false) s e (.ldh rd a k) 2 rd a k ∧
    Loads (.ldw e rd a k false) s e (.ldw rd a k) 4 rd a k ∧ Loads (.ldd e rd a k false) s e (.ldd rd a k) 8 rd a k

/-- STB, STH, STW and STD to local and cluster memory, with every byte they leave alone (R189, R208, R226). -/
def Sys2Proof.Claims.StoreEffects : Prop :=
  ∀ (s : State) (e : Fin 16) (b a : Fin 32) (k : BitVec 16),
    Stores (.stb e b a k false) s e (.stb b a k) 1 b a k ∧ Stores (.sth e b a k false) s e (.sth b a k) 2 b a k ∧
    Stores (.stw e b a k false) s e (.stw b a k) 4 b a k ∧ Stores (.std e b a k false) s e (.std b a k) 8 b a k

/-- Loads and stores of 1, 2, 4 and 8 bytes in local and cluster memory, with every byte they leave alone: LoadResults, StoreEffects. -/
def Obligations.LoadsAndStores : Prop :=
  LoadResults ∧ StoreEffects

/-- ATOM.ADD, ATOM.XCH and ATOM.CAS on clean registers: the old word in `rd`; the word becomes the sum, the register, or `rd`'s value when it
equalled the register's (R210, R228). -/
def Sys2Proof.Claims.AtomicEffects : Prop :=
  ∀ (s : State) (e : Fin 16) (rd a b : Fin 32),
    Exchanges (.atomAdd e rd a b false) s e (.atomAdd rd a b) rd a b (fun o => o + (s.dev.wreg e b).1) ∧
    Exchanges (.atomXch e rd a b false) s e (.atomXch rd a b) rd a b (fun _ => (s.dev.wreg e b).1) ∧
    Exchanges (.atomCas e rd a b false) s e (.atomCas rd a b) rd a b
      (fun o => if o = (s.dev.wreg e b).1 then (s.dev.wreg e rd).1 else o)

/-- STORE_VISIBLE and FENCE.SL: the oldest buffered store leaves for cluster memory and the others stay; the fence drains a buffer of one
store, and goes on at once with none (R208, R209). -/
def Sys2Proof.Claims.StoreBufferDrains : Prop :=
  ∀ (s : State) (e : Fin 16) (x : SbEnt) (r : List SbEnt), s.held = false → (s.dev.engine e).sb = x :: r →
    x.addr % 64 + x.bytes.length ≤ 64 → s.dev.mark (clusterLine (x.addr / 64)) = .clean →
    (Completes (.storeVisible e) s (fun t => (t.engine e).sb = r ∧
      (∀ k, k < x.bytes.length → Mem.get t.mem (64 * clusterLine 0 + x.addr + k) = x.bytes.getD k 0) ∧
      (∀ k, k < 64 * clusterLine 0 + x.addr ∨ 64 * clusterLine 0 + x.addr + x.bytes.length ≤ k →
        Mem.get t.mem k = Mem.get s.dev.mem k) ∧
      RegsKept s.dev t [])) ∧
    (Ready s.dev e .fenceSl → r = [] →
      Completes (.fenceSl e) s (fun t => (t.engine e).sb = [] ∧ NextPc s.dev t e ∧
        (∀ k, k < x.bytes.length → Mem.get t.mem (64 * clusterLine 0 + x.addr + k) = x.bytes.getD k 0) ∧
        (∀ k, k < 64 * clusterLine 0 + x.addr ∨ 64 * clusterLine 0 + x.addr + x.bytes.length ≤ k →
          Mem.get t.mem k = Mem.get s.dev.mem k) ∧
        RegsKept s.dev t []))

/-- Atomics on cluster words, the store buffer and FENCE.SL: AtomicEffects, StoreBufferDrains. -/
def Obligations.AtomicsAndTheStoreBuffer : Prop :=
  AtomicEffects ∧ StoreBufferDrains

/-- WADJ and WSETL on an open frame and a clean register: head and length move, or the length is set, within 1 to 9,728; `rd` holds the new
length; memory is as before (R202, R229). -/
def Sys2Proof.Claims.WindowMoves : Prop :=
  ∀ (s : State) (e : Fin 16) (rd a : Fin 32) (o : OpenF), s.held = false → (s.dev.engine e).fr = some o → (s.dev.wreg e a).2 = false →
    (∀ k : Int, k = (s.dev.wreg e a).1.toInt → Ready s.dev e (.wadj rd a) → 0 ≤ o.head + k → 1 ≤ o.len - k → o.len - k ≤ 9728 →
      Completes (.wadj e rd a) s (fun t =>
        (t.engine e).fr = some { o with head := (o.head + k).toNat, len := (o.len - k).toNat } ∧
        WritesReg s.dev t e rd (BitVec.ofNat 64 (o.len - k).toNat, false) ∧ NextPc s.dev t e ∧ OnlyEngine s.dev t e)) ∧
    (∀ n : Nat, n = (s.dev.wreg e a).1.toNat → Ready s.dev e (.wsetl rd a) → 1 ≤ n → n ≤ 9728 →
      Completes (.wsetl e rd a) s (fun t =>
        (t.engine e).fr = some { o with len := n } ∧
        WritesReg s.dev t e rd (BitVec.ofNat 64 n, false) ∧ NextPc s.dev t e ∧ OnlyEngine s.dev t e))

/-- LOOKUP EXACT, TERNARY and BOTH with clean registers, on a 32-byte key in local memory, while no memory line holds an error or poison:
the status word of R230. -/
def Sys2Proof.Claims.LookupResults : Prop :=
  ∀ (s : State) (e : Fin 16) (rd a b : Fin 32) (x : Nat) (key : List Byte) (km : Nat), s.held = false →
    (s.dev.wreg e a).2 = false → (s.dev.wreg e b).2 = false → s.dev.marks = [] →
    x = (s.dev.wreg e a).1.toNat → x % 32 = 0 → x < s.dev.ldmSize e →
    key = s.dev.peek (64 * (s.dev.ldmAt e x).1 + (s.dev.ldmAt e x).2) 32 → km = (s.dev.wreg e b).1.toNat % 2 ^ 13 →
    ∀ word : Bool → Nat → Nat, (∀ tern r, word tern r = r - r / 2 ^ 13 % 8 * 2 ^ 13 + 2 ^ 13 + (if tern then 2 ^ 14 else 0)) →
    ∀ ofExact ofTern : Nat,
      ofExact = (match (s.dev.exactLookup key km).1 with | .result r => word false r | _ => 0) →
      ofTern = (match (s.dev.ternLookup key km).1 with | .result r => word true r | _ => 0) →
      Computes (.lookupExact e rd a b false) s e (.lookupExact rd a b) rd (BitVec.ofNat 64 ofExact, false) ∧
      Computes (.lookupTernary e rd a b false) s e (.lookupTernary rd a b) rd (BitVec.ofNat 64 ofTern, false) ∧
      Computes (.lookupBoth e rd a b false) s e (.lookupBoth rd a b) rd
        (BitVec.ofNat 64 (if (s.dev.exactLookup key km).1 = .miss then ofTern else ofExact), false)

/-- CSUM, CRC.E and CRC.C over clean window bytes of an unedited frame, for every range in the window, while no memory line holds an error or
poison: the folded ones'-complement sum from `rd`, or the CRC continued from `rd`; `rd`'s poison stays (R231). -/
def Sys2Proof.Claims.ChecksumResults : Prop :=
  ∀ (s : State) (e : Fin 16) (rd a b : Fin 32) (f : Frame) (off n : Nat) (bs : List Byte), s.held = false →
    (s.dev.wreg e a).2 = false → (s.dev.wreg e b).2 = false → s.dev.marks = [] → PlainFrame s.dev e f →
    off = (s.dev.wreg e a).1.toNat → n = (s.dev.wreg e b).1.toNat → off + n ≤ f.len →
    bs = (List.range n).map (fun k =>
      Mem.get s.dev.mem (64 * f.lines.getD ((f.start + off + k) / 64) 0 + (f.start + off + k) % 64)) →
    Computes (.csum e rd a b false) s e (.csum rd a b) rd
      (BitVec.ofNat 64 (fold16 ((s.dev.wreg e rd).1.toNat % 65536 + onesSum bs)), (s.dev.wreg e rd).2) ∧
    Computes (.crcE e rd a b false) s e (.crcE rd a b) rd
      (BitVec.ofNat 64 (Nat.xor (crcRun 0xEDB88320 (Nat.xor ((s.dev.wreg e rd).1.toNat % 2 ^ 32) 0xFFFFFFFF) bs) 0xFFFFFFFF),
        (s.dev.wreg e rd).2) ∧
    Computes (.crcC e rd a b false) s e (.crcC rd a b) rd
      (BitVec.ofNat 64 (Nat.xor (crcRun 0x82F63B78 (Nat.xor ((s.dev.wreg e rd).1.toNat % 2 ^ 32) 0xFFFFFFFF) bs) 0xFFFFFFFF),
        (s.dev.wreg e rd).2)

/-- Window moves, table lookups, checksum and CRC instructions: WindowMoves, LookupResults, ChecksumResults. -/
def Obligations.WindowLookupAndChecksum : Prop :=
  WindowMoves ∧ LookupResults ∧ ChecksumResults

/-- TAKE: with no frame open, the first frame of the class queue that the program may see is opened and `rd` is 1, or none is there and
`rd` is 0; TXCQ pops the oldest record or gives all ones; TXCAN and CANCEL launch their cancels (R153, R195, R199, R207, R232, R236). -/
def Obligations.QueueInstructions : Prop :=
  ∀ (s : State) (e : Fin 16) (rd a : Fin 32), s.held = false →
    (Ready s.dev e (.take rd) → (s.dev.engine e).fr = none →
      (s.dev.takeable e = none →
        Completes (.take e rd false) s (fun t => WritesReg s.dev t e rd (0, false) ∧ NextPc s.dev t e ∧ OnlyEngine s.dev t e)) ∧
      (∀ q, s.dev.takeable e = some q → s.dev.classq.find? (fun x => x.frame.uid = q.frame.uid) = some q → q.frame.staged = false →
        q.frame.info.result / 2 ^ 9 % 2 = 0 →
        Completes (.take e rd false) s (fun t => WritesReg s.dev t e rd (1, false) ∧ NextPc s.dev t e ∧
          (t.engine e).fr = some (OpenF.ofFrame q.frame) ∧ t.classq = s.dev.classq.filter (fun x => x.frame.uid ≠ q.frame.uid) ∧
          OnlyEngine s.dev t e [.classq]))) ∧
    (Ready s.dev e (.txcq rd) →
      (s.dev.txc.getD (e.val / 2) [] = [] → Computes (.txcq e rd false) s e (.txcq rd) rd (BitVec.allOnes 64, false)) ∧
      (∀ r rs, s.dev.txc.getD (e.val / 2) [] = r :: rs →
        Completes (.txcq e rd false) s (fun t => WritesReg s.dev t e rd (BitVec.ofNat 64 r, false) ∧ NextPc s.dev t e ∧
          t.txc.getD (e.val / 2) [] = rs ∧ OnlyEngine s.dev t e [.txc]))) ∧
    (Ready s.dev e (.txcan a) → (s.dev.wreg e a).2 = false → ∀ p, p = (s.dev.wreg e a).1.toNat / 2 ^ 16 % 4 →
      Completes (.txcan e a false) s (fun t =>
        (t.port p).cancels = (s.dev.port p).cancels ++ [(s.dev.wreg e a).1.toNat % 65536] ∧ NextPc s.dev t e ∧
        (∀ i, t.wreg e i = s.dev.wreg e i) ∧ OnlyEngine s.dev t e [.ports])) ∧
    (Ready s.dev e (.cancel a) → (s.dev.wreg e a).2 = false →
      Completes (.cancel e a false) s (fun t =>
        t.tick.cancels = s.dev.tick.cancels ++ [(s.dev.wreg e a).1.toNat % 64] ∧ NextPc s.dev t e ∧
        (∀ i, t.wreg e i = s.dev.wreg e i) ∧ OnlyEngine s.dev t e [.tick]))

/-- FWD, DELIV, CRYPT, BRIDGE, STOR and DROP of an unedited frame, with clean registers, when no check of R140, R240, R270, R301 or R414
refuses: the frame leaves the engine for the queue named, with a status word that shows no refusal; DROP frees its lines (R232, R233).  The
transmit handle of FWD is a free value. -/
def Sys2Proof.Claims.DisposalsAccepted : Prop :=
  ∀ (s : State) (e : Fin 16) (rd a b : Fin 32) (f : Frame) (x y : Nat), s.held = false → PlainFrame s.dev e f →
    (s.dev.wreg e a).2 = false → (s.dev.wreg e b).2 = false → x = (s.dev.wreg e a).1.toNat → y = (s.dev.wreg e b).1.toNat →
    (Ready s.dev e (.fwd rd a b) → x < 128 → x / 32 % 4 ≠ 3 → s.dev.txRefusal (x % 4) (x / 4 % 8) false = none →
      s.dev.linkUp (x % 4) = true →
      Completes (.fwd e rd a b false) s (fun t => Disposed s.dev t e rd ∧
        ∃ ent : TxEnt, ent.frame = f ∧
          (t.port (x % 4)).txq.getD (x / 4 % 8) [] = (s.dev.port (x % 4)).txq.getD (x / 4 % 8) [] ++ [ent])) ∧
    (Ready s.dev e (.deliv rd a) → (s.dev.delivCheck x f.len).2 = none → s.dev.vatTake (x % 256) (heldLines f.len) ≠ none →
      Completes (.deliv e rd a false) s (fun t => Disposed s.dev t e rd ∧
        ∀ n, s.dev.sqOf (x % 256) (x / 256 % 256) = some n → n < 256 →
          ∃ h : RxHeld, h.len = f.len ∧ (t.sq n).held = (s.dev.sq n).held ++ [h])) ∧
    (Ready s.dev e (.crypt rd a b) → s.dev.cryptCheck x y = none →
      Completes (.crypt e rd a b false) s (fun t => Disposed s.dev t e rd ∧
        ∃ p, p < 2 ∧ ∃ j : CryJob, j.frame = f ∧ j.sa = x % 1024 ∧
          (t.cry.pipes.getD p {}).queue = (s.dev.cry.pipes.getD p {}).queue ++ [j])) ∧
    (Ready s.dev e (.bridge rd a b) → s.dev.bridgeCheck x y f.len = none →
      Completes (.bridge e rd a b false) s (fun t => Disposed s.dev t e rd ∧
        ∃ q : BrgEnt, q.frame = f ∧ q.addr = s.dev.winBase (x % 2) (x / 2 % 8) + y ∧
          (t.rp (x % 2)).queue = (s.dev.rp (x % 2)).queue ++ [q])) ∧
    (Ready s.dev e (.stor rd a b) → s.dev.storCheck x = none →
      Completes (.stor e rd a b false) s (fun t => Disposed s.dev t e rd ∧
        t.nvt.rx = s.dev.nvt.rx ++ [{ frame := f, qp := x, tag := y }])) ∧
    (Ready s.dev e .drop →
      Completes (.drop e false) s (fun t => (t.engine e).fr = none ∧ NextPc s.dev t e ∧
        t.used = s.dev.used.filter (fun l => !f.lines.contains l) ∧ (∀ i, t.wreg e i = s.dev.wreg e i) ∧ OnlyEngine s.dev t e [.used]))

/-- COPY of an unedited frame whose memory has room: a second frame with the same length and metadata waits behind the open one, in lines of
its own, and the status word shows no refusal (R232, R234). -/
def Sys2Proof.Claims.CopyMakesAFrame : Prop :=
  ∀ (s : State) (e : Fin 16) (rd : Fin 32) (f : Frame), s.held = false → Ready s.dev e (.copy rd) → PlainFrame s.dev e f →
    s.dev.alloc (regionBase 1) 65536 f.lines.length ≠ none →
    Completes (.copy e rd false) s (fun t => WritesReg s.dev t e rd (statusWord 0 0 false, false) ∧ NextPc s.dev t e ∧
      (t.engine e).fr = some (OpenF.ofFrame f) ∧
      ∃ c : Frame, (t.engine e).copies = [c] ∧ c.len = f.len ∧ c.start = f.start ∧ c.info = f.info ∧ c.lines.length = f.lines.length)

/-- FWD, DELIV, CRYPT, BRIDGE, STOR, DROP and COPY hand the frame over: DisposalsAccepted, CopyMakesAFrame. -/
def Obligations.Disposals : Prop :=
  DisposalsAccepted ∧ CopyMakesAFrame

/-- RDT: the tick, the cycle in the tick, the cycles since the occurrence was dispatched; WAITT stalls the engine until its cycle, or the
next tick, and WAITT_RESUME then gives the cycle; HALT with code 0 and YIELD end best-effort work, HALT ends a slot occurrence DONE, its
stores made first, or FAULT with HALT_FAULT for another code, and raises OPEN_FRAME with a frame open; a YIELD in a slot goes on (R196, R236,
R238). -/
def Sys2Proof.Claims.TimerAndControl : Prop :=
  ∀ (s : State) (e : Fin 16) (rd a : Fin 32), s.held = false →
    Computes (.rdtTick e rd) s e (.rdtTick rd) rd (BitVec.ofNat 64 (s.dev.tick.coreTick % 2 ^ 48), false) ∧
    Computes (.rdtTickOffset e rd) s e (.rdtOffset rd) rd (BitVec.ofNat 64 s.dev.tick.cyc, false) ∧
    Computes (.rdtOccurrenceCycles e rd) s e (.rdtCycles rd) rd
      (BitVec.ofNat 64 (s.dev.now - (s.dev.engine e).startAt), false) ∧
    (Ready s.dev e (.waitt rd a) → (s.dev.wreg e a).2 = false →
      Completes (.waitt e rd a) s (fun t =>
        (∃ w : Waitt, (t.engine e).wait = some w ∧ w.target = (s.dev.wreg e a).1.toNat ∧ w.rd = rd.val ∧
          w.tick = s.dev.tick.coreTick) ∧
        (t.engine e).pc = (s.dev.engine e).pc ∧ (∀ i, t.wreg e i = s.dev.wreg e i) ∧ OnlyEngine s.dev t e)) ∧
    (∀ w : Waitt, (s.dev.engine e).wait = some w → w.rd = rd.val → (w.target ≤ s.dev.tick.cyc ∨ s.dev.tick.coreTick ≠ w.tick) →
      Completes (.waittResume e) s (fun t => (t.engine e).wait = none ∧ NextPc s.dev t e ∧
        WritesReg s.dev t e rd (BitVec.ofNat 64 s.dev.tick.cyc, false) ∧ OnlyEngine s.dev t e)) ∧
    ((s.dev.engine e).fr = none → (s.dev.engine e).copies = [] →
      (s.dev.engState e = 2 →
        (Ready s.dev e (.halt 0) → Completes (.halt e 0 false) s (fun t => t.engState e = 0 ∧ (t.engine e).sb = [])) ∧
        (Ready s.dev e .yield → Completes (.yield e) s (fun t => t.engState e = 0 ∧ (t.engine e).sb = []))) ∧
      (∀ n, n = (s.dev.engine e).slot → n < 64 → s.dev.engState e = 1 →
        (Ready s.dev e (.halt 0) →
          Completes (.halt e 0 false) s (fun t => t.engState e = 0 ∧ (t.engine e).sb = [] ∧ (t.occ n).state = .ended ∧
            t.rd (.tck (.SLOT_REC_STATUS n)) = 0 ∧ ((s.dev.engine e).sb = [] → MemKept s.dev t))) ∧
        (∀ code : BitVec 16, code ≠ 0 → Ready s.dev e (.halt code) →
          Completes (.halt e code false) s (fun t => Raised s.dev t e 11 ∧ (t.occ n).state = .ended ∧
            t.rd (.tck (.SLOT_REC_STATUS n)) = 4)))) ∧
    (∀ code : BitVec 16, (s.dev.engine e).fr ≠ none → Ready s.dev e (.halt code) →
      Completes (.halt e code false) s (fun t => Raised s.dev t e 9)) ∧
    (Ready s.dev e .yield → s.dev.engState e = 1 →
      Completes (.yield e) s (fun t => NextPc s.dev t e ∧ (∀ i, t.wreg e i = s.dev.wreg e i) ∧ OnlyEngine s.dev t e))

/-- BE_START: an idle engine of a pair that may do best-effort work, with a binding whose class holds a frame, starts the bound program at its
entry, its registers 0 and clean, for the binding's class; the other engines and the rest of the device are as before (R194, R199). -/
def Sys2Proof.Claims.BestEffortStarts : Prop :=
  ∀ (s : State) (e : Fin 16) (i : Nat), s.held = false → s.dev.unit e = e → s.dev.engState e = 0 →
    s.dev.rd (.eng (.PAIR_CFG_BE_EN (e.val / 2))) ≠ 0 → (s.dev.engine e).haltReq = false → s.dev.nextBinding e = some i →
    s.dev.pairOff (e.val / 2) = false →
    Completes (.beStart e) s (fun t => t.engState e = 2 ∧ (t.engine e).pc = s.dev.rd (.eng (.BE_BIND_PROGRAM i)) * 4 % 16384 ∧
      (∀ r, t.wreg e r = (0, false)) ∧ (t.engine e).fr = none ∧ (t.engine e).sb = [] ∧ (t.engine e).be = some i ∧
      (t.engine e).cls = s.dev.rd (.eng (.BE_BIND_CLASS i)) ∧ (t.engine e).startAt = s.dev.now ∧
      (∀ x, x ≠ e.val → t.engine x = s.dev.engine x) ∧
      RegsKept s.dev t [.eng (.PAIR_STATUS_STATE_A (e.val / 2)), .eng (.PAIR_STATUS_STATE_B (e.val / 2))] ∧
      PartsKept s.dev t [.engines])

/-- Halves of a lockstep pair that send different outputs, with no D2 session: the program stops with the frame under work dropped, both halves
FAULTED, the mismatch shown, logged with the program counter unless an earlier one is, and reported to the safety monitor as fault 1; no
disposal, lookup or register result happens (R214). -/
def Sys2Proof.Claims.LockstepMismatch : Prop :=
  ∀ (s : State) (e : Fin 16) (op : Op) (p : Nat), sends op = true → p = e.val / 2 → s.held = false → Ready s.dev e op →
    s.dev.lockstep p = true → s.dev.d2 = false →
    Completes (issued e true op) s (fun t => t.rd (.eng (.PAIR_STATUS_STATE_A p)) = 4 ∧ t.rd (.eng (.PAIR_STATUS_STATE_B p)) = 4 ∧
      t.rd (.eng (.PAIR_STATUS_LS_MISMATCH p)) = 1 ∧ t.rd (.eng (.LS_LOG_VALID p)) = 1 ∧
      (s.dev.rd (.eng (.LS_LOG_VALID p)) = 0 →
        t.rd (.eng (.LS_LOG_PC p)) = (s.dev.engine e).pc % 2 ^ 14 ∧ t.rd (.eng (.LS_LOG_UNDER_D2 p)) = 0) ∧
      (t.engine e).fr = none ∧ (t.engine e).copies = [] ∧ (∀ i, t.wreg e i = s.dev.wreg e i) ∧
      ⟨false, 1, p⟩ ∈ t.toSafe ∧ (∀ x, x ≠ e.val → t.engine x = s.dev.engine x) ∧
      ∀ x ∈ ([.ports, .cry, .rps, .nvt, .classq, .txc, .cfg, .time] : List Part), x.Same s.dev t)

/-- RDT, WAITT, YIELD and HALT, the start of best-effort work, and a lockstep mismatch: TimerAndControl, BestEffortStarts, LockstepMismatch. -/
def Obligations.TimerControlAndLockstep : Prop :=
  TimerAndControl ∧ BestEffortStarts ∧ LockstepMismatch

/-- TICK_START, TICK_STOP and TCK_REC_FIFO_POP: a start waits for boundary 0 at the nominal instant of R49, is refused with the
configuration EMPTY, or withdraws a stop; a stop waits for the next boundary, cancels a start that waits, or is refused while the monitor is
armed; a read of the record FIFO gives its oldest record, or EMPTY (R49, R55, R67, R98). -/
def Sys2Proof.Claims.TickStartStop : Prop :=
  ∀ (s : State) (p : Nat), Awake s → p = s.dev.rd (.tck .PERIOD_N) * 31250 →
    (s.dev.rd (.cfg .STATUS_CONFIG) ≠ 1 →
      Effect .tickStart s [.cfg .CNT_RUN_REFUSED] [] (fun t => Counts s.dev t (.cfg .CNT_RUN_REFUSED))) ∧
    (s.dev.rd (.cfg .STATUS_CONFIG) = 1 → s.dev.rd (.tck .STATUS_RUNNING) = 1 →
      Effect .tickStart s [.tck .CTRL_RUN] [.tick] (fun t =>
        t.rd (.tck .CTRL_RUN) = 1 ∧ t.tick = { s.dev.tick with stopReq := false })) ∧
    (s.dev.rd (.cfg .STATUS_CONFIG) = 1 → s.dev.rd (.tck .STATUS_RUNNING) = 0 → s.dev.tick.startPend = false →
      Effect .tickStart s [.tck .CTRL_RUN] [.tick] (fun t =>
        t.rd (.tck .CTRL_RUN) = 1 ∧
        t.tick = { s.dev.tick with
          startPend := true
          first := true
          nominal := if s.dev.rd (.tck .CTRL_SRC) = 0 then s.dev.tb + p else (s.dev.tb / p + 1) * p })) ∧
    (2 ≤ s.dev.rd (.saf .STATE_STATE) →
      Effect .tickStop s [.tck .CANCEL_CNT_REFUSED_RUN] [] (fun t => Counts s.dev t (.tck .CANCEL_CNT_REFUSED_RUN))) ∧
    (s.dev.rd (.saf .STATE_STATE) < 2 → s.dev.rd (.tck .STATUS_RUNNING) = 1 →
      Effect .tickStop s [.tck .CTRL_RUN] [.tick] (fun t =>
        t.rd (.tck .CTRL_RUN) = 0 ∧ t.tick = { s.dev.tick with stopReq := true })) ∧
    (s.dev.rd (.saf .STATE_STATE) < 2 → s.dev.rd (.tck .STATUS_RUNNING) = 0 →
      Effect .tickStop s [.tck .CTRL_RUN] [.tick] (fun t =>
        t.rd (.tck .CTRL_RUN) = 0 ∧ t.tick = { s.dev.tick with startPend := false })) ∧
    (∀ r rs, s.dev.tick.fifo = r :: rs →
      Effect .tckRecFifoPop s [] [.tick, .out, .hep] (fun t =>
        t.tick = { s.dev.tick with fifo := rs } ∧ t.out = s.dev.out ++ ([.readData r 8 0 false] : List Outbound))) ∧
    (s.dev.tick.fifo = [] →
      Effect .tckRecFifoPop s [] [.out, .hep] (fun t => t.out = s.dev.out ++ ([.readData (7 * 2 ^ 38) 8 0 false] : List Outbound)))

/-- TICK_BOUNDARY, BOUNDARY_CORE, BOUNDARY_FAB and RELEASE_STATE_RESET: a boundary is issued to every domain with its tick number, one more
than the last, and stops the tick when a stop waits; in CORE, with the last tick finished and no switch ready, it opens tick k in cycle 0 or
ends the last tick; after an overrun LAST_OVR is 1 and an armed switch is deferred; in FAB the tick channels see the tick; in ETH every port's
release state is reset (R49, R53, R55, R57, R69, R70, R142). -/
def Sys2Proof.Claims.TickBoundaries : Prop :=
  ∀ (s : State) (b : Pulse) (bs : List Pulse), s.held = false →
    (∀ k stop, s.dev.tick.startPend = true ∨ s.dev.rd (.tck .STATUS_RUNNING) = 1 →
      k = (if s.dev.tick.first then 0 else (s.dev.rd (.tck .COUNT_TICK) + 1) % 2 ^ 48) →
      stop = (s.dev.tick.stopReq && !s.dev.tick.first) →
      Effect .tickBoundary s
        [.tck .COUNT_TICK, .tck .STATUS_RUNNING, .tck .STATUS_SLEW, .cal .AGE_STATUS_OVERDUE, .cal .AGE_STATUS_OVERDUE2]
        [.time, .tick, .ports, .mem, .marks, .writeBacks, .cal] (fun t =>
          t.rd (.tck .COUNT_TICK) = k ∧ t.rd (.tck .STATUS_RUNNING) = (if stop then 0 else 1) ∧
          t.tick.startPend = false ∧ t.tick.stopReq = false ∧ t.tick.first = false ∧
          t.tick.toCore = s.dev.tick.toCore ++ ([⟨k, stop⟩] : List Pulse) ∧ t.tick.toFab = s.dev.tick.toFab ++ ([⟨k, stop⟩] : List Pulse) ∧
          t.tick.toEth = s.dev.tick.toEth ++ ([⟨k, stop⟩] : List Pulse) ∧ t.tick.toSafe = s.dev.tick.toSafe ++ ([⟨k, stop⟩] : List Pulse))) ∧
    (s.dev.tick.toCore = b :: bs → s.dev.rd (.cfg .CONF_PENDING_PENDING) = 0 →
      ((s.dev.tick.coreRun = false ∨ s.dev.unfinished = []) → s.dev.rd (.cfg .OVL_STATUS_STATE) ≠ 3 → b.stopping = false →
        Effect .boundaryCore s [.tck .STATUS_LAST_OVR] [.tick] (fun t =>
          t.rd (.tck .STATUS_LAST_OVR) = 0 ∧
          t.tick = { s.dev.tick with
            toCore := bs
            coreRun := true
            coreTick := b.tick
            cyc := 0
            p2 := false
            p3 := false
            p4 := false
            occ := List.replicate 64 {} })) ∧
      ((s.dev.tick.coreRun = false ∨ s.dev.unfinished = []) → b.stopping = true →
        Completes .boundaryCore s (fun t =>
          t.rd (.tck .STATUS_LAST_OVR) = 0 ∧ t.tick.coreRun = false ∧ t.tick.toCore = bs ∧
          t.classq = s.dev.classq.filter (fun q => q.frame.info.batch < s.dev.tick.coreTick))) ∧
      (s.dev.tick.coreRun = true → s.dev.unfinished ≠ [] → b.stopping = false →
        Completes .boundaryCore s (fun t =>
          t.rd (.tck .STATUS_LAST_OVR) = 1 ∧ t.tick.coreRun = true ∧ t.tick.coreTick = b.tick ∧ t.tick.cyc = 0 ∧
          (∀ n, t.occ n = {})))) ∧
    (s.dev.tick.toFab = b :: bs →
      Completes .boundaryFab s (fun t => t.tick = { s.dev.tick with toFab := bs, fabTick := b.tick })) ∧
    (s.dev.tick.toEth = b :: bs → b.stopping = false →
      Effect .releaseStateReset s [] [.tick, .ports] (fun t => t.tick = { s.dev.tick with toEth := bs } ∧
        ∀ p, p < 4 → t.port p = { s.dev.port p with
          window := false
          relBytes := 0
          relDone := !(s.dev.port p).relDue && !s.dev.sched p }))

/-- Starting and stopping the tick, and its boundaries in TIME, CORE, FAB and ETH: TickStartStop, TickBoundaries. -/
def Obligations.TicksStartAndBoundaries : Prop :=
  TickStartStop ∧ TickBoundaries

/-- PHASE_OPEN, P3_MARK, P3_RELEASE and RELEASE_GUARD_START while the tick runs: P2 or P4 opens no earlier than its offset; the P3 mark makes
every port's release due; a release hands the waiting entry of a scheduled queue over while REL_LIMIT lets it; the guard opens the port's
window (R57, R73, R74). -/
def Obligations.TickPhases : Prop :=
  ∀ (s : State) (p : Fin 4), s.held = false → s.dev.tick.coreRun = true →
    Effect (.phaseOpen false) s [] timeParts (fun t => t.tick.p2 = true ∧ t.tick.cyc = max s.dev.tick.cyc s.dev.p2Off) ∧
    Effect (.phaseOpen true) s [] timeParts (fun t => t.tick.p4 = true ∧ t.tick.cyc = max s.dev.tick.cyc s.dev.p4Off) ∧
    (s.dev.tick.p3 = false →
      Effect .p3Mark s [] timeParts (fun t => t.tick.p3 = true ∧ (t.port p).relDue = true ∧ (t.port p).relq = (s.dev.port p).relq)) ∧
    (∀ q e, (s.dev.port p).relDue = true → (∀ o : Fin 4, o ≠ p → (s.dev.port o).relDue = false) → (s.dev.port p).relq = [(q, e)] →
      q < 8 → (s.dev.port p).relBytes + s.dev.wireLen p e + 20 ≤ s.dev.relLimit p → s.dev.txRefusal p q true = none →
      s.dev.linkUp p = true →
      Effect .p3Release s [] [.ports] (fun t =>
        (t.port p).txq.getD q [] = (s.dev.port p).txq.getD q [] ++ [{ e with rel := true }] ∧ (t.port p).relq = [] ∧
        (t.port p).relDue = false ∧ (t.port p).relDone = true ∧
        (t.port p).relBytes = (s.dev.port p).relBytes + s.dev.wireLen p e + 20)) ∧
    (s.dev.rd (.tck .STATUS_RUNNING) = 1 → s.dev.sched p = true → s.dev.tick.p3 = false → s.dev.tick.first = false →
      Effect (.releaseGuardStart p) s [] timeParts (fun t => (t.port p).window = true))

/-- SLOT_READY, SLOT_DISPATCH, SLOT_CUT and SLOT_CANCEL: an idle occurrence becomes ready in cycle START; a ready one that is next on a free
resource runs, an engine slot with its program's entry and the tick, slot and budget in w1 to w3; a housekeeping task cut, or an occurrence
cancelled, ends with its record; a cancel of a safety slot is refused, of a running occurrence it is only marked, of an ended one or with the
tick stopped it is stale (R63 to R65, R67, R76 to R80, R194). -/
def Obligations.SlotLife : Prop :=
  ∀ (s : State) (n : Fin 64) (ns : List Nat), s.held = false →
    (SlotIn s.dev n .idle → s.dev.phaseOpen (s.dev.slot n) = true →
      Effect (.slotReady n) s [] timeParts (fun t =>
        t.occ n = { s.dev.occ n with state := .ready, readyAt := max s.dev.tick.cyc (s.dev.slot n).start } ∧
        ∀ m : Fin 64, m ≠ n → t.occ m = s.dev.occ m)) ∧
    (SlotIn s.dev n .ready → s.dev.holder (s.dev.resource (s.dev.slot n)) = none → s.dev.slotFirst n = true →
      (3 ≤ (s.dev.slot n).kind →
        Effect (.slotDispatch n) s [] timeParts (fun t =>
          t.occ n = { s.dev.occ n with
            state := .running
            dispAt := max s.dev.tick.cyc (max ((s.dev.slot n).start + 1) (s.dev.freeFrom n)) })) ∧
      (∀ e, (s.dev.slot n).kind = 1 → e = s.dev.slotEngine (s.dev.slot n) → s.dev.engState e = 0 → s.dev.pairOff (s.dev.slot n).pair = false →
        Effect (.slotDispatch n) s [.eng (.PAIR_STATUS_STATE_A (e / 2)), .eng (.PAIR_STATUS_STATE_B (e / 2))] (.engines :: timeParts) (fun t =>
          (t.occ n).state = .running ∧ t.engState e = 1 ∧ (t.engine e).pc = (s.dev.slot n).program * 4 % 16384 ∧
          (t.engine e).cls = (s.dev.slot n).cls ∧ t.wreg e 1 = (BitVec.ofNat 64 s.dev.tick.coreTick, false) ∧
          t.wreg e 2 = (BitVec.ofNat 64 n, false) ∧ t.wreg e 3 = (BitVec.ofNat 64 (s.dev.slot n).budget, false) ∧
          (∀ i : Fin 32, 4 ≤ i.val → t.wreg e i = (0, false)))) ∧
      (∀ e, (s.dev.slot n).kind = 1 → e = s.dev.slotEngine (s.dev.slot n) → s.dev.engState e ∉ [3, 4] → s.dev.pairOff (s.dev.slot n).pair = false →
        Completes (.slotDispatch n) s (fun t =>
          (t.occ n).state = .running ∧ t.engState e = 1 ∧ (t.engine e).pc = (s.dev.slot n).program * 4 % 16384 ∧
          t.wreg e 1 = (BitVec.ofNat 64 s.dev.tick.coreTick, false) ∧ t.wreg e 2 = (BitVec.ofNat 64 n, false) ∧
          t.wreg e 3 = (BitVec.ofNat 64 (s.dev.slot n).budget, false) ∧ (∀ i : Fin 32, i = 0 ∨ 4 ≤ i.val → t.wreg e i = (0, false)) ∧
          (t.engine e).fr = none ∧ (t.engine e).copies = []))) ∧
    ((s.dev.occ n).state = .running → (s.dev.slot n).kind = 4 → (s.dev.slot n).step ≠ 1 →
      Effect (.slotCut n) s (recFields n ++ ([.tck .CUT_CNT_COUNT, .tck .STATUS_SLOT_CUT] : List Fld)) (.irqs :: .toSafe :: timeParts) (fun t =>
        (t.occ n).state = .ended ∧ Counts s.dev t (.tck .CUT_CNT_COUNT) ∧ t.rd (.tck .STATUS_SLOT_CUT) = 1 ∧
        t.rd (.tck (.SLOT_REC_STATUS n)) = 1 ∧ t.rd (.tck (.SLOT_REC_SLOT n)) = n)) ∧
    (s.dev.tick.cancels = n.val :: ns →
      ((s.dev.tick.coreRun = false ∨ (s.dev.slot n).on = false) →
        Effect .slotCancel s [.tck .CANCEL_CNT_STALE] [.tick] (fun t =>
          Counts s.dev t (.tck .CANCEL_CNT_STALE) ∧ t.tick = { s.dev.tick with cancels := ns })) ∧
      (s.dev.tick.coreRun = true → (s.dev.slot n).on = true → (s.dev.slot n).safety = true →
        Effect .slotCancel s [.tck .CANCEL_CNT_REFUSED] [.tick] (fun t =>
          Counts s.dev t (.tck .CANCEL_CNT_REFUSED) ∧ t.tick = { s.dev.tick with cancels := ns })) ∧
      (SlotIn s.dev n .ended → (s.dev.slot n).safety = false →
        Effect .slotCancel s [.tck .CANCEL_CNT_STALE] [.tick] (fun t =>
          Counts s.dev t (.tck .CANCEL_CNT_STALE) ∧ t.tick = { s.dev.tick with cancels := ns })) ∧
      (SlotIn s.dev n .running → (s.dev.slot n).safety = false →
        Effect .slotCancel s [] [.tick] (fun t => t.occ n = { s.dev.occ n with cancelLate := true })) ∧
      (∀ st, st = .idle ∨ st = .ready → SlotIn s.dev n st → (s.dev.slot n).safety = false →
        Effect .slotCancel s (recFields n) [.tick] (fun t =>
          (t.occ n).state = .ended ∧ Recorded t s.dev.tick.coreTick n 2 0 0 0)))

/-- REGISTER_WRITE through PF0 BAR0 with memory accesses open, and through PF0's configuration space.  Of four bytes: a read-only register
keeps its value; a read-write register takes the value; a write-one-to-clear register loses the bits written 1; a locked field takes a legal
value before the seal and keeps its value after it, counted and recorded, and a reserved encoding leaves it; a hole and a register of the
safety monitor are left and counted.  A write of another size leaves a 32-bit register (R11, R14, R16, R17, R37, R38, R103). -/
def Obligations.RegisterWrites : Prop :=
  ∀ (s : State) (bs : List Byte) (v : Nat), Awake s → s.dev.memClosed 0 = false → bs.length = 4 → v = ofLe bs →
    Effect (.registerWrite .pf0Bar0 0 bs) s [] [] (fun _ => True) ∧
    Effect (.registerWrite .pf0Bar0 0x10024 bs) s [.tck .CUT_CNT_COUNT] [] (fun t => t.rd (.tck .CUT_CNT_COUNT) = v) ∧
    Effect (.registerWrite .pf0Bar0 0x10024 (bs.take 2)) s [] [] (fun _ => True) ∧
    Effect (.registerWrite .pf0Bar0 0x1000C bs) s
      [.tck .STATUS_OVR, .tck .STATUS_OVR2, .tck .STATUS_SLOT_CUT, .tck .STATUS_PROOF_FAIL, .tck .STATUS_DEFER] [] (fun t =>
        ∀ x : Fld × Nat, x ∈ [(.tck .STATUS_OVR, 1), (.tck .STATUS_OVR2, 2), (.tck .STATUS_SLOT_CUT, 3), (.tck .STATUS_PROOF_FAIL, 4),
            (.tck .STATUS_DEFER, 9)] →
          t.rd x.1 = if v.testBit x.2 then 0 else s.dev.rd x.1) ∧
    (s.dev.rd (.cfg .STATUS_SEALED) = 1 → v % 128 ≠ s.dev.rd (.tck .PERIOD_N) → s.dev.rd (.tck .STATUS_RUNNING) = 0 →
      Effect (.registerWrite .pf0Bar0 0x10004 bs) s [.cfg .SEAL_VIOL_COUNT, .cfg .SEAL_LOG_VALID, .cfg .SEAL_LOG_OFFSET] [] (fun t =>
        Counts s.dev t (.cfg .SEAL_VIOL_COUNT) ∧ t.rd (.cfg .SEAL_LOG_VALID) = 1 ∧
        (s.dev.rd (.cfg .SEAL_LOG_VALID) = 0 → t.rd (.cfg .SEAL_LOG_OFFSET) = 0x10004))) ∧
    (s.dev.rd (.cfg .STATUS_SEALED) = 0 → s.dev.rd (.tck .STATUS_RUNNING) = 0 → s.dev.rd (.tck .CTRL_SRC) = 0 → s.dev.fence = false →
      (1 ≤ v % 128 → v % 128 ≤ 64 →
        Effect (.registerWrite .pf0Bar0 0x10004 bs) s [.tck .PERIOD_N] [] (fun t => t.rd (.tck .PERIOD_N) = v % 128)) ∧
      (v % 128 = 0 ∨ 64 < v % 128 → Effect (.registerWrite .pf0Bar0 0x10004 bs) s [] [] (fun _ => True))) ∧
    Effect (.registerWrite .pf0Bar0 0x4C0000 bs) s [.sys .ACCESS_ERR_HOLE_CNT] [] (fun t => Counts s.dev t (.sys .ACCESS_ERR_HOLE_CNT)) ∧
    Effect (.registerWrite .pf0Bar0 0x3C0000 bs) s [.sys .ACCESS_ERR_REFUSED_CNT] [] (fun t =>
      Counts s.dev t (.sys .ACCESS_ERR_REFUSED_CNT)) ∧
    Effect (.registerWrite (.cfg 0) 0x3C (bs.take 1)) s [.cs 0 .INT_LINE] [.out, .hep] (fun t =>
      t.rd (.cs 0 .INT_LINE) = v % 256 ∧ t.out = s.dev.out ++ ([.readData 0 0 0 false] : List Outbound))

/-- REGISTER_READ through PF0 BAR0 and PF0's configuration space, JTAG_BRIDGE_ACCESS and ECC_WRITEBACK.  A read is answered with the register's
value, a 64-bit register in one read; a hole answers 0 and is counted; a function that serves no memory accesses answers Unsupported Request.
The bridge reads registers at D1 and D2 through the TAP, writes read-write registers and memory lines at D2 only, and does nothing at D0.  A
corrected line is written back once (R17, R27, R34, R37, R53, R532, R539). -/
def Obligations.RegisterReadsAndBridge : Prop :=
  ∀ (s : State), Awake s →
    (s.dev.memClosed 0 = false →
      Effect (.registerRead .pf0Bar0 0 4) s [] [.out, .hep] (fun t =>
        t.out = s.dev.out ++ ([.readData (s.dev.rd (.sys .ID_VENDOR) + 65536 * s.dev.rd (.sys .ID_DEVICE)) 4 0 false] : List Outbound)) ∧
      Effect (.registerRead .pf0Bar0 0x10010 8) s [] [.out, .hep] (fun t =>
        t.out = s.dev.out ++ ([.readData (s.dev.rd (.tck .COUNT_TICK)) 8 0 false] : List Outbound)) ∧
      Effect (.registerRead .pf0Bar0 0x4C0000 4) s [.sys .ACCESS_ERR_HOLE_CNT] [.out, .hep] (fun t =>
        Counts s.dev t (.sys .ACCESS_ERR_HOLE_CNT) ∧ t.out = s.dev.out ++ ([.readData 0 4 0 false] : List Outbound))) ∧
    Effect (.registerRead (.cfg 0) 0 4) s [] [.out, .hep] (fun t =>
      t.out = s.dev.out ++ ([.readData (s.dev.rd (.cs 0 .VENDOR_ID) + 65536 * s.dev.rd (.cs 0 .DEVICE_ID)) 4 0 false] : List Outbound)) ∧
    (∀ a, s.dev.rd (.sec .DBG_STATUS_LEVEL) = 0 ∨ s.dev.sec.tapIr ≠ .dbgBridge →
      Effect (.jtagBridgeAccess a) s [] [] (fun _ => True)) ∧
    (s.dev.sec.tapIr = .dbgBridge →
      (1 ≤ s.dev.rd (.sec .DBG_STATUS_LEVEL) →
        Effect (.jtagBridgeAccess (.read false 0 4)) s [] [.out, .hep] (fun t =>
          t.out = s.dev.out ++ ([.tap (s.dev.rd (.sys .ID_VENDOR) + 65536 * s.dev.rd (.sys .ID_DEVICE)) 32] : List Outbound))) ∧
      (∀ bs : List Byte, bs.length = 4 →
        (s.dev.rd (.sec .DBG_STATUS_LEVEL) = 1 → Effect (.jtagBridgeAccess (.write false 0x10024 bs)) s [] [] (fun _ => True)) ∧
        (s.dev.rd (.sec .DBG_STATUS_LEVEL) = 2 →
          Effect (.jtagBridgeAccess (.write false 0x10024 bs)) s [.tck .CUT_CNT_COUNT] [] (fun t =>
            t.rd (.tck .CUT_CNT_COUNT) = ofLe bs))) ∧
      (∀ (l : Nat) (bs : List Byte), s.dev.rd (.sec .DBG_STATUS_LEVEL) = 2 → l < 155648 → bs.length = 64 →
        Effect (.jtagBridgeAccess (.writeLine l bs)) s [] [.mem, .marks, .writeBacks] (fun t =>
          (∀ k, k < 64 → Mem.get t.mem (64 * l + k) = bs.getD k 0) ∧
          (∀ a, a < 64 * l ∨ 64 * l + 64 ≤ a → Mem.get t.mem a = Mem.get s.dev.mem a) ∧ t.mark l = .clean) ∧
        (s.dev.mark l = .clean →
          Effect (.jtagBridgeAccess (.readLine l)) s [] [.out, .hep] (fun t =>
            t.out = s.dev.out ++ ([.tap (ofLe (s.dev.rawLine l)) 512] : List Outbound))))) ∧
    (∀ l, l ∈ s.dev.writeBacks →
      Effect (.eccWriteback l) s [] [.marks, .writeBacks] (fun t =>
        (t.mark l).ce = 0 ∧ l ∉ t.writeBacks ∧ ∀ k, k ≠ l → t.mark k = s.dev.mark k)) ∧
    (∀ l, l ∉ s.dev.writeBacks → Effect (.eccWriteback l) s [] [] (fun _ => True))

/-- IMAGE_LOAD_START, LOAD_READ_ERROR, LOAD_PASS1_COMPLETE, LOAD_PASS2_COMPLETE, SEAL and SEAL_REEVAL_END, of loads from host memory: a load
starts with the length of CFG_LOAD_LEN or, during another, fails with code 0x01; a read error in pass 1 ends it with 0x02, poison with 0x03;
pass 1 goes on to pass 2 or ends with the first check that fails, a bad header before a wrong target; pass 2 of a FULL image with the digest of
pass 1 leaves the configuration LOADED with its version, and of an OVERLAY_SET leaves its result; another digest fails with 0x0F; a seal takes
the base and clears the FCS bypasses, or waits for the load; the re-evaluation records the signature reference (R92 to R101, R610). -/
def Obligations.ImageLoading : Prop :=
  ∀ (s : State) (ld : Load) (image : List Byte), Awake s → ld.boot = false →
    (s.dev.cfg.load = none →
      Effect .imageLoadStart s [] [.cfg] (fun t => t.cfg = { s.dev.cfg with load := some { len := s.dev.rd (.cfg .LOAD_LEN_LEN) } })) ∧
    (s.dev.cfg.load = none → s.dev.rd (.cfg .STATUS_SEALED) = 0 →
      Effect .seal s (([.cfg .STATUS_SEALED] : List Fld) ++ (List.range 4).flatMap (fun p =>
          [.mac (.PORT_CTRL_FCS_BYPASS_RX p), .mac (.PORT_CTRL_FCS_BYPASS_TX p)])) [.cfg] (fun t =>
        t.rd (.cfg .STATUS_SEALED) = 1 ∧ t.cfg.reeval = true ∧ t.cfg.baseEph = s.dev.ephBytes ∧ t.cfg.baseLines = s.dev.tableCells ∧
        ∀ p, p < 4 → t.rd (.mac (.PORT_CTRL_FCS_BYPASS_RX p)) = 0 ∧ t.rd (.mac (.PORT_CTRL_FCS_BYPASS_TX p)) = 0)) ∧
    (s.dev.cfg.load = none → s.dev.rd (.cfg .STATUS_SEALED) = 1 → Effect .seal s [] [] (fun _ => True)) ∧
    (s.dev.cfg.reeval = true →
      Completes .sealReevalEnd s (fun t => t.cfg.reeval = false ∧
        t.rd (.cfg .SIG_REF_CRC) = signature s.dev.base s.dev.cfg.locked % 2 ^ 32 ∧ MemKept s.dev t)) ∧
    (s.dev.cfg.load = some ld →
      Effect .imageLoadStart s [.cfg .LOAD_ERR_CODE, .cfg .LOAD_ERR_SECTION, .cfg .STATUS_LOAD_FAIL] [] (fun t =>
        t.rd (.cfg .LOAD_ERR_CODE) = 1 ∧ t.rd (.cfg .LOAD_ERR_SECTION) = 0xFF ∧ t.rd (.cfg .STATUS_LOAD_FAIL) = 1) ∧
      Effect .seal s [] [.cfg] (fun t => t.cfg = { s.dev.cfg with sealPend := true }) ∧
      (ld.pass2 = false → s.dev.cfg.sealPend = false →
        (∀ poison, Effect (.loadReadError poison) s loadFields [.cfg, .irqs] (fun t => LoadEnds t (if poison then 3 else 2) 0xFF)) ∧
        (∀ im : List Byte, im = sliceB image 0 ld.len →
          (leAt im 6 1 = 1 → s.dev.rd (.cfg .STATUS_SEALED) = 1 ∨ s.dev.rd (.tck .STATUS_RUNNING) = 1 →
            Effect (.loadPass1Complete image) s loadFields [.cfg, .irqs] (fun t => LoadEnds t 1 0xFF)) ∧
          (s.dev.rd (.cfg .STATUS_SEALED) = 0 → s.dev.rd (.tck .STATUS_RUNNING) = 0 → imgHeaderOk im ld.len = false →
            Effect (.loadPass1Complete image) s loadFields [.cfg, .irqs] (fun t => LoadEnds t 4 0xFF)) ∧
          (s.dev.rd (.cfg .STATUS_SEALED) = 0 → s.dev.rd (.tck .STATUS_RUNNING) = 0 → imgHeaderOk im ld.len = true →
            imgTargetOk im (s.dev.rd (.sys .REVISION_MAJOR)) s.otp.safetyFuse = false →
            Effect (.loadPass1Complete image) s loadFields [.cfg, .irqs] (fun t => LoadEnds t 5 0xFF))) ∧
        (∀ r, r = s.dev.pass1 s.otp ld image →
          Completes (.loadPass1Complete image) s (fun t =>
            match r with
            | .passes l => t.cfg.load = some l ∧ t.rd (.cfg .STATUS_LOAD_PASS) = 1
            | .fails code sec _ => LoadEnds t (code % 256) (sec % 256)))) ∧
      (ld.pass2 = true →
        ∀ digest : List Byte, digest = Config.sha384 ((sliceB image 0 ld.len).take
            (match ld.table.getLast? with | some x => x.off | none => 0)) →
          (ld.digest = digest →
            Completes (.loadPass2Complete image) s (fun t => LoadEnds t 0 0xFF ∧
              (ld.full = true → t.rd (.cfg .STATUS_CONFIG) = 1 ∧ t.rd (.cfg .IMAGE_VER_VALUE) = ld.secVer % 2 ^ 32 ∧ t.cfg.digest = digest))) ∧
          (ld.digest ≠ digest → Completes (.loadPass2Complete image) s (fun t => LoadEnds t 0x0F 0xFF ∧
            (ld.full = true → t.rd (.cfg .STATUS_CONFIG) = 0)))))

/-- OVERLAY_ARM, OVERLAY_PREP_END, OVERLAY_DISARM, CONFIRM_ACCEPT, CONFIRM_REFUSE, CONFIRM_TIMEOUT and SIGNATURE_CHECK: an accepted ARM is in
PREPARING, one that touches safety waits for PF1 with its tag; a refused one is counted with its reason; preparation without an error or poison
ends ARMED, or AWAIT_CONFIRM while PF1's confirmation is pending; DISARM, REFUSE and a lapsed window end the request with their results; a
confirmation that matches nothing is stale; the signature task ends its slot, and a sum that is not the reference is a fault (R91, R105, R106,
R110, R113 to R115, R119, R120). -/
def Obligations.OverlaySwitches : Prop :=
  ∀ (s : State) (b : Fin 16) (tag : BitVec 32) (n : Fin 64), Awake s →
    (s.dev.confLapsed = false →
      (∀ r, s.dev.armRefusal b = some r →
        Effect (.overlayArm b) s [.cfg .CNT_ARM_REFUSED, .cfg .OVL_STATUS_LAST_RESULT] [] (fun t =>
          Counts s.dev t (.cfg .CNT_ARM_REFUSED) ∧ t.rd (.cfg .OVL_STATUS_LAST_RESULT) = r)) ∧
      (s.dev.armRefusal b = none → s.dev.touches b = false →
        Effect (.overlayArm b) s [.cfg .OVL_STATUS_STATE, .cfg .OVL_STATUS_TARGET, .cfg .OVL_STATUS_TOUCH] [.cfg] (fun t =>
          t.rd (.cfg .OVL_STATUS_STATE) = 1 ∧ t.rd (.cfg .OVL_STATUS_TARGET) = b ∧ t.rd (.cfg .OVL_STATUS_TOUCH) = 0)) ∧
      (∀ digest : List Byte, digest = (match s.dev.ovl b with | some o => o.digest | none => s.dev.cfg.digest) →
        s.dev.armRefusal b = none → s.dev.touches b = true →
        Effect (.overlayArm b) s [.cfg .OVL_STATUS_STATE, .cfg .OVL_STATUS_TARGET, .cfg .OVL_STATUS_TOUCH, .cfg .CONF_PENDING_FROM,
            .cfg .CONF_PENDING_TO, .cfg .CONF_PENDING_PENDING, .cfg .CONF_TAG_TAG, .hep .PF1_IPEND_CFG] [.cfg] (fun t =>
          t.rd (.cfg .OVL_STATUS_STATE) = 1 ∧ t.rd (.cfg .OVL_STATUS_TARGET) = b ∧ t.rd (.cfg .OVL_STATUS_TOUCH) = 1 ∧
          t.rd (.cfg .CONF_PENDING_FROM) = s.dev.rd (.cfg .OVL_STATUS_ACTIVE) ∧ t.rd (.cfg .CONF_PENDING_TO) = b ∧
          t.rd (.cfg .CONF_PENDING_PENDING) = 1 ∧ t.rd (.cfg .CONF_TAG_TAG) = leAt digest 0 4 ∧ t.rd (.hep .PF1_IPEND_CFG) = 1)) ∧
      (s.dev.rd (.cfg .OVL_STATUS_STATE) = 0 → Effect .overlayDisarm s [.cfg .CNT_STALE] [] (fun t => Counts s.dev t (.cfg .CNT_STALE))) ∧
      (s.dev.rd (.cfg .OVL_STATUS_STATE) ≠ 0 → Effect .overlayDisarm s requestFields [.cfg] (fun t => RequestEnds t 1))) ∧
    (s.dev.rd (.cfg .OVL_STATUS_STATE) = 1 → s.dev.marks = [] →
      Effect .overlayPrepEnd s [.cfg .OVL_STATUS_STATE] [.cfg, .mem, .marks, .writeBacks] (fun t =>
        t.rd (.cfg .OVL_STATUS_STATE) = (if s.dev.rd (.cfg .CONF_PENDING_PENDING) = 0 then 3 else 2) ∧
        t.cfg.shadow = shadowOf (s.dev.eff (s.dev.rd (.cfg .OVL_STATUS_ACTIVE))) (s.dev.eff (s.dev.rd (.cfg .OVL_STATUS_TARGET)))
          s.dev.cfg.locked)) ∧
    (Confirms s.dev tag b →
      (s.dev.rd (.cfg .OVL_STATUS_STATE) = 2 →
        Effect (.confirmAccept tag b) s [.cfg .CONF_PENDING_PENDING, .cfg .OVL_STATUS_STATE] [] (fun t =>
          t.rd (.cfg .CONF_PENDING_PENDING) = 0 ∧ t.rd (.cfg .OVL_STATUS_STATE) = 3)) ∧
      (s.dev.rd (.cfg .OVL_STATUS_STATE) ≠ 2 →
        Effect (.confirmAccept tag b) s [.cfg .CONF_PENDING_PENDING] [] (fun t => t.rd (.cfg .CONF_PENDING_PENDING) = 0)) ∧
      Effect (.confirmRefuse tag b) s requestFields [.cfg] (fun t => RequestEnds t 2)) ∧
    (s.dev.confLapsed = false → ¬ Confirms s.dev tag b →
      Effect (.confirmAccept tag b) s [.cfg .CNT_CONF_STALE] [] (fun t => Counts s.dev t (.cfg .CNT_CONF_STALE)) ∧
      Effect (.confirmRefuse tag b) s [.cfg .CNT_CONF_STALE] [] (fun t => Counts s.dev t (.cfg .CNT_CONF_STALE))) ∧
    (s.dev.confLapsed = true → Effect .confirmTimeout s requestFields [.cfg] (fun t => RequestEnds t 3)) ∧
    (s.dev.taskRuns n 2 = true →
      (s.dev.rd (.cfg .STATUS_SEALED) = 0 →
        Effect (.signatureCheck n) s (.cfg .SIG_STATUS_UNSEALED :: recFields n) [.tick] (fun t =>
          t.rd (.cfg .SIG_STATUS_UNSEALED) = 1 ∧ (t.occ n).state = .ended ∧ t.rd (.tck (.SLOT_REC_STATUS n)) = 0)) ∧
      (∀ sum, s.dev.rd (.cfg .STATUS_SEALED) = 1 → s.dev.marks = [] → sum = s.dev.lockedSum.1 →
        Effect (.signatureCheck n) s (([.cfg .SIG_STATUS_UNSEALED, .cfg .SIG_STATUS_MISMATCH, .cfg .SIG_STATUS_TICK,
            .cfg .SIG_ERR_CNT_COUNT] : List Fld) ++ recFields n) [.tick, .toSafe] (fun t =>
          (t.occ n).state = .ended ∧ t.rd (.tck (.SLOT_REC_STATUS n)) = 0 ∧ t.rd (.cfg .SIG_STATUS_UNSEALED) = 0 ∧
          (if sum = s.dev.rd (.cfg .SIG_REF_CRC) then
            t.toSafe = s.dev.toSafe ∧ t.rd (.cfg .SIG_STATUS_MISMATCH) = s.dev.rd (.cfg .SIG_STATUS_MISMATCH)
          else t.toSafe = s.dev.toSafe ++ ([⟨false, 8, 0⟩] : List Report) ∧ t.rd (.cfg .SIG_STATUS_MISMATCH) = 1 ∧
            Counts s.dev t (.cfg .SIG_ERR_CNT_COUNT)))))

/-- LINK_UP, LINK_DOWN, AN_LINK_TIMER and RESTART_AN of a port that is awake, with no frame queued: link up with its speed and partner's pause
ability, or, of a 1000BASE-X partner without full duplex, a counted refusal and the link timer; link down; a restart counted, the link lost.
The six MDIO operations are issued one at a time, refused while one is in progress; a completion gives a read's data, all ones where no PHY
drove it (R122, R123, R125, R128, R129). -/
def Obligations.PortLinksAndMdio : Prop :=
  ∀ (s : State) (p speed pause : Fin 4) (fd syncLost inFrame : Bool) (lane : List Byte), Awake s →
    (s.dev.linkUp p = false → s.dev.portAsleep p = false →
      (s.dev.rd (.mac (.PORT_CTRL_MODE p)) = 1 → s.dev.autoneg p = true →
        Effect (.linkUp p speed pause false lane) s [.mac (.PORT_STATUS_SYNC p), .mac (.AN_ERR_DUPLEX p)] [.ports] (fun t =>
          Counts s.dev t (.mac (.AN_ERR_DUPLEX p)) ∧ t.linkUp p = false ∧ (t.port p).anTimer = true)) ∧
      (s.dev.rd (.mac (.PORT_CTRL_MODE p)) ≠ 1 ∨ s.dev.autoneg p = false ∨ fd = true →
        Effect (.linkUp p speed pause fd lane) s [.mac (.PORT_STATUS_SYNC p), .mac (.PORT_STATUS_LINK_UP p),
            .mac (.PORT_STATUS_SPEED p), .mac (.PORT_STATUS_AN_DONE p), .mac (.PORT_STATUS_LP_PAUSE p), .mac (.PORT_STATUS_LINK_CHG p)]
            [.irqs, .mem, .marks, .writeBacks, .cal] (fun t =>
          t.rd (.mac (.PORT_STATUS_SYNC p)) = 1 ∧ t.rd (.mac (.PORT_STATUS_LINK_UP p)) = 1 ∧ t.rd (.mac (.PORT_STATUS_LINK_CHG p)) = 1 ∧
          t.rd (.mac (.PORT_STATUS_SPEED p)) = s.dev.upSpeed p speed ∧
          t.rd (.mac (.PORT_STATUS_AN_DONE p)) = (if s.dev.autoneg p then 1 else 0) ∧
          t.rd (.mac (.PORT_STATUS_LP_PAUSE p)) = (if s.dev.rd (.mac (.PORT_CTRL_MODE p)) = 1 then pause.val else 0)))) ∧
    (s.dev.linkUp p = true → QueuesEmpty s.dev p →
      Effect (.linkDown p syncLost inFrame) s [.mac (.PORT_STATUS_SYNC p), .mac (.PORT_STATUS_LINK_UP p), .mac (.PORT_STATUS_AN_DONE p),
          .mac (.PORT_STATUS_LINK_CHG p), .mac (.CNT_COUNT p 20)] [.irqs, .ports] (fun t =>
        t.linkUp p = false ∧ t.rd (.mac (.PORT_STATUS_AN_DONE p)) = 0 ∧ t.rd (.mac (.PORT_STATUS_LINK_CHG p)) = 1 ∧
        t.rd (.mac (.PORT_STATUS_SYNC p)) = (if syncLost then 0 else s.dev.rd (.mac (.PORT_STATUS_SYNC p))) ∧
        (inFrame = true → s.dev.portOn p = true → Counts s.dev t (.mac (.CNT_COUNT p 20))))) ∧
    (QueuesEmpty s.dev p →
      ((s.dev.port p).anTimer = true →
        Effect (.anLinkTimer p) s [.mac (.AN_ERR_RESTART p), .mac (.PORT_STATUS_LINK_UP p), .mac (.PORT_STATUS_AN_DONE p),
            .mac (.PORT_STATUS_LINK_CHG p)] [.irqs, .ports] (fun t =>
          Counts s.dev t (.mac (.AN_ERR_RESTART p)) ∧ t.linkUp p = false ∧ (t.port p).anTimer = false)) ∧
      (s.dev.autoneg p = true →
        Effect (.restartAn p) s [.mac (.AN_ERR_RESTART p), .mac (.PORT_STATUS_LINK_UP p), .mac (.PORT_STATUS_AN_DONE p),
            .mac (.PORT_STATUS_LINK_CHG p)] [.irqs, .ports] (fun t => Counts s.dev t (.mac (.AN_ERR_RESTART p)) ∧ t.linkUp p = false))) ∧
    (s.dev.autoneg p = false → Effect (.restartAn p) s [] [] (fun _ => True)) ∧
    (∀ (phy reg : Fin 32) (data : BitVec 16) (c : Sys2Proof.Instr) (m : MdioOp),
      (c, m) ∈ [(.mdioC22Write phy reg data, ⟨false, 1, phy, reg, data.toNat⟩), (.mdioC22Read phy reg, ⟨false, 2, phy, reg, 0⟩),
        (.mdioC45Address phy reg data, ⟨true, 0, phy, reg, data.toNat⟩), (.mdioC45Write phy reg data, ⟨true, 1, phy, reg, data.toNat⟩),
        (.mdioC45Read phy reg, ⟨true, 2, phy, reg, 0⟩), (.mdioC45ReadInc phy reg, ⟨true, 3, phy, reg, 0⟩)] →
      (s.dev.rd (.mac .MDIO_STATUS_BUSY) = 0 →
        Effect c s [.mac .MDIO_STATUS_BUSY] [.mdio, .out, .hep] (fun t =>
          t.rd (.mac .MDIO_STATUS_BUSY) = 1 ∧ t.mdio = some m ∧
          t.out = s.dev.out ++ ([.mdio (m.wdata + 2 ^ 16 * reg + 2 ^ 21 * phy + 2 ^ 26 * m.op + (if m.c45 then 2 ^ 28 else 0))] : List Outbound))) ∧
      (s.dev.rd (.mac .MDIO_STATUS_BUSY) = 1 →
        Effect c s [.mac .MDIO_STATUS_REFUSED] [] (fun t => Counts s.dev t (.mac .MDIO_STATUS_REFUSED)))) ∧
    (∀ (m : MdioOp) (answer : Option (BitVec 16)), s.dev.mdio = some m →
      Effect (.mdioComplete answer) s [.mac .MDIO_STATUS_BUSY, .mac .MDIO_STATUS_DATA] [.mdio, .irqs] (fun t =>
        t.mdio = none ∧ t.rd (.mac .MDIO_STATUS_BUSY) = 0 ∧
        t.rd (.mac .MDIO_STATUS_DATA) =
          (if (if m.c45 then 2 ≤ m.op else m.op = 2) then (match answer with | some a => a.toNat | none => 0xFFFF)
          else s.dev.rd (.mac .MDIO_STATUS_DATA)) ∧
        t.irqs = s.dev.irqs ++ (if s.dev.rd (.mac .MDIO_CFG_IRQ_EN) = 1 ∧ s.dev.rd (.hep (.EVT_VEC_EN 2)) = 1
          then [(0, s.dev.rd (.hep (.EVT_VEC_VECTOR 2)))] else [])))

/-- RX_FRAME on an enabled port whose link is up: a runt, a frame for another address and a frame with a bad FCS are counted; a good frame is
staged without its FCS and passed to the lane.  RX_FRAME_TO_BUFFER moves the staged frame, its metadata kept.  CLASSIFIER_LOOKUP by fixed
extraction gives the parse failure's default, or the outcome of the tables.  FRAME_CLASSIFIED counts the outcome and queues the frame on its
class, or drops it.  FRAG_ENTRY_AGE_EXPIRY removes the entries whose age has come (R41, R130, R134, R138, R157, R169, R174, R178 to R180). -/
def Obligations.FramesReceived : Prop :=
  ∀ (s : State) (p : Fin 4) (bs : List Byte) (age : Nat), s.held = false → s.dev.portOn p = true → s.dev.linkUp p = true →
    (bs.length < 64 → beAt bs 12 2 ≠ 0x8808 → (6 ≤ bs.length → s.dev.daPasses p (bs.take 6) = true) →
      bs.length ≤ s.dev.rd (.mac (.FRAME_MAX_LEN p)) →
      Effect (.rxFrame p bs false age) s [.mac (.CNT_COUNT p 1)] [.ports, .nextUid] (fun t =>
        Counts s.dev t (.mac (.CNT_COUNT p 1)) ∧ (t.port p).staged = (s.dev.port p).staged ∧
        ∃ f : LaneFrame, (t.port p).lane = (s.dev.port p).lane ++ [f] ∧ f.bytes = bs ∧ f.good = false)) ∧
    (6 ≤ bs.length → beAt bs 12 2 ≠ 0x8808 → s.dev.daPasses p (bs.take 6) = false →
      Effect (.rxFrame p bs false age) s [.mac (.CNT_COUNT p 4)] [] (fun t => Counts s.dev t (.mac (.CNT_COUNT p 4)))) ∧
    (64 ≤ bs.length → beAt bs 12 2 ≠ 0x8808 →
      (s.dev.daPasses p (bs.take 6) = true → bs.length ≤ s.dev.rd (.mac (.FRAME_MAX_LEN p)) →
        s.dev.rd (.mac (.PORT_CTRL_FCS_BYPASS_RX p)) = 0 → s.dev.alloc (stagingLine p 0) 256 ((bs.length + 63) / 64) ≠ none →
        (crc32 (bs.take (bs.length - 4)) ≠ leAt bs (bs.length - 4) 4 →
          Effect (.rxFrame p bs false age) s [.mac (.CNT_COUNT p 2)] [.ports, .nextUid] (fun t =>
            Counts s.dev t (.mac (.CNT_COUNT p 2)) ∧ (t.port p).staged = (s.dev.port p).staged)) ∧
        (crc32 (bs.take (bs.length - 4)) = leAt bs (bs.length - 4) 4 → s.dev.rd (.mac (.TAG_CTRL_STRIP p)) = 0 →
          s.dev.rd (.tim (.PTP_PORT_EN p)) = 0 →
          Effect (.rxFrame p bs false age) s [] [.ports, .nextUid, .used, .mem, .marks, .writeBacks] (fun t =>
            ∃ f g, (t.port p).staged = (s.dev.port p).staged ++ [f] ∧ (t.port p).lane = (s.dev.port p).lane ++ [g] ∧
              f.staged = true ∧ f.len = bs.length - 4 ∧ f.info.port = p.val ∧ g.bytes = bs ∧ g.good = true ∧ g.uid = f.uid)))) ∧
    (∀ f, (s.dev.port p).staged = [f] → f.staged = true → s.dev.marks = [] → s.dev.classq = [] →
      s.dev.alloc (regionBase 1) 65536 ((128 + (s.dev.frameBytes f).1.length + 63) / 64) ≠ none →
      Effect (.rxFrameToBuffer p) s [.mac (.CNT_COUNT p 0)] [.ports, .nextUid, .used, .mem, .marks, .writeBacks] (fun t =>
        Counts s.dev t (.mac (.CNT_COUNT p 0)) ∧
        ∃ g, (t.port p).staged = [g] ∧ g.uid = f.uid ∧ g.staged = false ∧ g.info = f.info ∧ g.start = 128 ∧
          g.len = (s.dev.frameBytes f).1.length)) ∧
    (∀ (f : LaneFrame) (key : List Byte) (km : Nat), (s.dev.port p).lane = [f] → f.res = none → f.good = true → s.dev.marks = [] →
      s.dev.rd (.par (.PORT_CFG_PRIMARY p)) = 0 → key = (s.dev.fixedKey p f.bytes (f.bytes.length - 4)).1 →
      km = keyMetaOf p (s.dev.rd (.par (.FX_PROFILE_PROFILE p))) 0 0 false false →
      Effect (.classifierLookup p) s [] [.ports] (fun t => ∃ r, (t.port p).lane = [{ f with res := some r }] ∧ r.keyMeta = km ∧
        ((s.dev.fixedKey p f.bytes (f.bytes.length - 4)).2 = true → r.outcome = 4 ∧ r.result = s.dev.failDefault p ∧ r.failReason = 6) ∧
        ((s.dev.fixedKey p f.bytes (f.bytes.length - 4)).2 = false → (s.dev.tables p key km).2.1.testBit 9 = false →
          r.outcome = (s.dev.tables p key km).1 ∧ r.result = (s.dev.tables p key km).2.1))) ∧
    (∀ (f : LaneFrame) (fs : List LaneFrame) (r : LookRes) (g : Frame), (s.dev.port p).lane = f :: fs → f.res = some r →
      (s.dev.port p).staged.find? (fun x => x.uid = f.uid) = some g → s.dev.tick.coreRun = true → r.failReason = 0 → r.frag = none →
      r.outcome ≠ 0 → r.outcome < 8 → r.result.testBit 9 = false →
      (r.result / 2 ^ 11 % 4 = 0 → s.dev.served (r.result % 256) = true →
        Effect (.frameClassified p) s [.par (.CNT_COUNT p 0), .par (.CNT_COUNT p r.outcome)] [.ports, .classq] (fun t =>
          (t.port p).lane = fs ∧ Counts s.dev t (.par (.CNT_COUNT p 0)) ∧ Counts s.dev t (.par (.CNT_COUNT p r.outcome)) ∧
          t.classq = s.dev.classq ++ [{
            cls := r.result % 256
            frame := { g with info := { g.info with
              result := r.result
              keyMeta := r.keyMeta
              hdrs := r.hdrs
              batch := s.dev.tick.coreTick } } }])) ∧
      (r.result / 2 ^ 11 % 4 = 1 →
        Effect (.frameClassified p) s [.par (.CNT_COUNT p 0), .par (.CNT_COUNT p r.outcome), .par (.CNT_COUNT p 11)] [.ports, .used]
          (fun t => (t.port p).lane = fs ∧ Counts s.dev t (.par (.CNT_COUNT p 11)) ∧
            (t.port p).staged = (s.dev.port p).staged.filter (fun x => x.uid ≠ f.uid) ∧
            t.used = s.dev.used.filter (fun l => !g.lines.contains l)))) ∧
    Effect .fragEntryAgeExpiry s [] [.mem, .marks, .writeBacks] (fun t => ∀ f : Fin 128,
      (s.dev.fragValid f = true → s.dev.rd (.par .FRAG_CFG_AGE_TICKS) ≤ s.dev.fragAge f → t.fragValid f = false) ∧
      (s.dev.fragAge f < s.dev.rd (.par .FRAG_CFG_AGE_TICKS) → t.fragEnt f = s.dev.fragEnt f))

/-- RX_PAUSE, RX_PFC, PAUSE_HOLD_EXPIRY, TX_PAUSE_XOFF, TX_PAUSE_REPEAT and TX_PAUSE_XON on an enabled port whose link is up: a received
pause holds all eight queues for its quanta, a PFC frame the mapped queue of its priority, quanta 0 releases; a hold that runs out is over; an
occupancy at XOFF_LINES sends the configured quanta, repeated after half of it, and below XON_LINES quanta 0 (R146, R147). -/
def Sys2Proof.Claims.PauseFrames : Prop :=
  ∀ (s : State) (p : Fin 4) (q : Fin 8) (n : BitVec 16) (h : Option Nat), s.held = false → s.dev.portOn p = true → s.dev.linkUp p = true →
    h = (if n = 0 then none else some (s.dev.now + (n.toNat * 512000 + s.dev.speed p - 1) / s.dev.speed p)) →
    Effect (.rxPause p n) s [.mac (.CNT_COUNT p 7)] [.ports] (fun t =>
      Counts s.dev t (.mac (.CNT_COUNT p 7)) ∧ (t.port p).hold.getD q none = h) ∧
    (∀ i : Fin 8, s.dev.rd (.mac (.PFC_QMAP_Q p i)) = q →
      Effect (.rxPfc p (1#8 <<< i.val) (List.replicate 8 n)) s [.mac (.CNT_COUNT p 7)] [.ports] (fun t =>
        Counts s.dev t (.mac (.CNT_COUNT p 7)) ∧ (t.port p).hold.getD q none = h ∧
        ∀ r : Fin 8, r ≠ q → (t.port p).hold.getD r none = (s.dev.port p).hold.getD r none)) ∧
    (∀ x, (s.dev.port p).hold.getD q none = some x →
      Effect (.pauseHoldExpiry p q) s [] timeParts (fun t => (t.port p).hold.getD q none = none ∧ t.now = max s.dev.now x)) ∧
    (PauseReady s.dev p →
      ((s.dev.port p).xoff = false → s.dev.rd (.mac (.FC_CTRL_XOFF_LINES p)) ≤ s.dev.stagingUsed p →
        Effect (.txPauseXoff p) s [.mac (.CNT_COUNT p 17)] [.ports, .out, .hep] (fun t =>
          SendsPause s t p (s.dev.rd (.mac (.FC_QUANTA_QUANTA p))) ∧ (t.port p).xoff = true)) ∧
      ((s.dev.port p).xoff = true → s.dev.rd (.mac (.FC_CTRL_XON_LINES p)) ≤ s.dev.stagingUsed p →
        Effect (.txPauseRepeat p) s [.mac (.CNT_COUNT p 17)] (.out :: .hep :: timeParts) (fun t =>
          SendsPause s t p (s.dev.rd (.mac (.FC_QUANTA_QUANTA p))) ∧ (t.port p).xoff = true)) ∧
      ((s.dev.port p).xoff = true → s.dev.stagingUsed p < s.dev.rd (.mac (.FC_CTRL_XON_LINES p)) →
        Effect (.txPauseXon p) s [.mac (.CNT_COUNT p 17)] [.ports, .out, .hep] (fun t =>
          SendsPause s t p 0 ∧ (t.port p).xoff = false)))

/-- TX_GRANT with the transmitter idle and no pause frame waiting puts the head of the highest eligible queue on the wire, tagged, padded and
with its FCS; TX_POISON_LATE stomps it; TX_COMPLETE ends it, counted as sent or stomped, its lines freed.  FENCE_ARRIVAL raises the fence in
the safe state and FENCE_LIFT takes it down; TX_CANCEL_ARRIVAL removes a queued frame, marks one in transmission, or is counted stale (R141,
R144, R148, R149, R151, R153, R155). -/
def Sys2Proof.Claims.FramesSent : Prop :=
  ∀ (s : State) (p : Fin 4) (q : Fin 8), s.held = false →
    (∀ e es body, (s.dev.port p).cur = none → (s.dev.port p).pausePend = none → s.dev.eligible p q = true →
      (∀ r : Fin 8, q < r → s.dev.eligible p r = false) → (s.dev.port p).txq.getD q [] = e :: es →
      s.dev.wireLen p e ≤ s.dev.rd (.mac (.FRAME_MAX_LEN p)) → s.dev.marks = [] → s.dev.rd (.mac (.PORT_CTRL_FCS_BYPASS_TX p)) = 0 →
      s.dev.rd (.tim (.PTP_PORT_EN p)) = 0 →
      body = (let b := (s.dev.frameBytes e.frame).1.take 12 ++ e.tags.flatMap (beBytes 4) ++ (s.dev.frameBytes e.frame).1.drop 12
        sliceB b 0 (max b.length 60)) →
      Effect (.txGrant p) s [] [.ports] (fun t =>
        (t.port p).cur = some { ent := e, queue := q, bytes := body ++ leBytes 4 (crc32 body) } ∧ (t.port p).txq.getD q [] = es)) ∧
    (∀ c, (s.dev.port p).cur = some c →
      (c.stomp = false →
        Effect (.txPoisonLate p) s [] [.ports] (fun t => (t.port p).cur = some { c with stomp := true, poisonLate := true })) ∧
      (∀ k, Plain c.ent → NoLines s.dev 4 → k = (if c.stomp then 13 else 9) →
        Effect (.txComplete p) s [.mac (.CNT_COUNT p k)] [.ports, .out, .hep, .used] (fun t =>
          (t.port p).cur = none ∧ Counts s.dev t (.mac (.CNT_COUNT p k)) ∧
          t.used = s.dev.used.filter (fun l => !c.ent.frame.lines.contains l) ∧
          (c.stomp = false → t.out = s.dev.out ++ ([.wire p c.bytes false] : List Outbound))))) ∧
    (3 ≤ s.dev.rd (.saf .STATE_STATE) → s.dev.fence = false → (∀ o : Fin 4, ∀ r : Fin 8, s.dev.txCmd o r = true → (s.dev.port o).txq.getD r [] = []) →
      Effect .fenceArrival s [] [.fence, .ports] (fun t => t.fence = true)) ∧
    (s.dev.rd (.saf .STATE_STATE) < 3 → Effect .fenceLift s [] [.fence, .safeCore] (fun t => t.fence = false ∧ t.safeCore = false)) ∧
    (∀ h hs, (s.dev.port p).cancels = h :: hs →
      (∀ e, (s.dev.port p).txq.getD q [] = [e] → e.handle = h → Plain e → NoLines s.dev 4 →
        (∀ r : Fin 8, r < q → (s.dev.port p).txq.getD r [] = []) →
        Effect (.txCancelArrival p) s [.mac (.CNT_COUNT p 10)] [.ports, .used] (fun t =>
          (t.port p).cancels = hs ∧ (t.port p).txq.getD q [] = [] ∧ Counts s.dev t (.mac (.CNT_COUNT p 10)) ∧
          t.used = s.dev.used.filter (fun l => !e.frame.lines.contains l))) ∧
      (QueuesEmpty s.dev p → (s.dev.port p).relq = [] →
        (∀ c, (s.dev.port p).cur = some c → c.ent.handle = h →
          Effect (.txCancelArrival p) s [] [.ports] (fun t =>
            (t.port p).cancels = hs ∧ (t.port p).cur = some { c with ent := { c.ent with late := true } })) ∧
        ((s.dev.port p).cur = none →
          Effect (.txCancelArrival p) s [.mac (.CNT_COUNT p 19)] [.ports] (fun t =>
            (t.port p).cancels = hs ∧ Counts s.dev t (.mac (.CNT_COUNT p 19))))))

/-- Frames are granted, sent, stomped, cancelled and fenced; pause frames both ways: PauseFrames, FramesSent. -/
def Obligations.FramesSentAndPaused : Prop :=
  PauseFrames ∧ FramesSent

/-- ESP_OUT_TRANSFORM, MACSEC_TX_TRANSFORM and CRYPTO_RETURN: a frame under a usable SA leaves transformed, longer by its header, trailer or
tag and the 16-byte ICV; SEQ of the SA goes up by one and PKTS counts; CNT 0 counts it.  A frame whose SA is not usable is dropped with cause
10.  A transformed frame joins its return class (R243 to R246, R255, R256, R259). -/
def Sys2Proof.Claims.OutboundTransforms : Prop :=
  ∀ (s : State) (p : Fin 2) (j : CryJob) (js : List CryJob) (e inner : List Byte), s.held = false → j.inbound = false →
    inner = (s.dev.frameBytes j.frame).1 →
    (HeadJob s.dev p j js → j.esp = true →
      (saUsable (s.dev.saRead j.sa 2).1 false 0 = false →
        Effect (.espOutTransform p) s [.cry (.CNT_COUNT 10)] [.cry, .used] (fun t => CryDropped s t p j js 10)) ∧
      (∀ ver tlen plain, SaReady s.dev j.sa 0 e 2 → ver = (inner.getD 0 0).toNat / 16 → ver = 4 ∨ ver = 6 → tlen = (e.getD 44 0).toNat →
        plain = inner.length + (espTrailer inner.length (if ver = 4 then 4 else 41)).length → tlen + 16 ≤ j.frame.start →
        tlen + plain + 32 ≤ 9728 →
        Effect (.espOutTransform p) s [.cry (.CNT_COUNT 0)] [.cry, .mem, .marks, .writeBacks] (fun t =>
          Transformed t p j js j.sa (j.frame.start - (tlen + 16)) (tlen + plain + 32) ∧ Counts s.dev t (.cry (.CNT_COUNT 0)) ∧
          saSeq (t.saPeek j.sa) = (saSeq e + 1) % 2 ^ 64 ∧ leAt (t.saPeek j.sa) 48 8 = (leAt e 48 8 + 1) % 2 ^ 64))) ∧
    (HeadJob s.dev p j js → j.esp = false →
      (saUsable (s.dev.saRead j.sa 2).1 false 2 = false →
        Effect (.macsecTxTransform p) s [.cry (.CNT_COUNT 10)] [.cry, .used] (fun t => CryDropped s t p j js 10)) ∧
      (∀ tag, SaReady s.dev j.sa 2 e 2 → tag = (if saBits e 8 1 = 1 then 16 else 8) →
        Effect (.macsecTxTransform p) s [.cry (.CNT_COUNT 0)] [.cry, .mem, .marks, .writeBacks] (fun t =>
          Transformed t p j js j.sa (j.frame.start - tag) (inner.length + tag + 16) ∧ Counts s.dev t (.cry (.CNT_COUNT 0)) ∧
          saSeq (t.saPeek j.sa) = (saSeq e + 1) % 2 ^ 64 ∧ leAt (t.saPeek j.sa) 48 8 = (leAt e 48 8 + 1) % 2 ^ 64))) ∧
    ((s.dev.pipe p).done = some j → NoLines s.dev 6 → s.dev.served j.ret = true →
      Effect (.cryptoReturn p) s [] [.cry, .classq] (fun t => (t.pipe p).done = none ∧ (t.pipe p).queue = (s.dev.pipe p).queue ∧
        t.classq = s.dev.classq ++ [{
          cls := j.ret
          frame := { j.frame with info := { j.frame.info with batch := s.dev.tick.coreTick } } }]))

/-- ESP_IN_TRANSFORM and MACSEC_RX_TRANSFORM: a frame under a usable SA whose header, length and number pass is opened with the SA's key; when
the tag does not verify it is dropped with cause 2; when it does, its content comes out without header, trailer and ICV, counted, a bad ESP
trailer with cause 8, a next header that does not fit with cause 9.  A frame that is no MACsec frame is dropped with cause 11, one whose SA is
not usable with cause 10 (R245, R257, R258, R260). -/
def Obligations.InboundTransforms : Prop :=
  ∀ (s : State) (p : Fin 2) (j : CryJob) (js : List CryJob) (e bs : List Byte), s.held = false → j.inbound = true → HeadJob s.dev p j js →
    bs = (s.dev.frameBytes j.frame).1 →
    (j.esp = true → e = (s.dev.saRead j.sa 4).1 →
      (saUsable e false 1 = false → Effect (.espInTransform p) s [.cry (.CNT_COUNT 10)] [.cry, .used] (fun t => CryDropped s t p j js 10)) ∧
      (∀ (ip hdr num clen : Nat) (g : Option (List Byte)), saUsable e false 1 = true → j.sa ∉ s.dev.cry.keyBad →
        ip = (if saV6 e then 40 else 20) → hdr = (if saUdp e then ip + 8 else ip) →
        (bs.getD 0 0).toNat / 16 = (if saV6 e then 6 else 4) → (saV6 e = true ∨ (bs.getD 0 0).toNat % 16 = 5) →
        (if saV6 e then (bs.getD 6 0).toNat else (bs.getD 9 0).toNat) = (if saUdp e then 17 else 50) →
        (saUdp e = true → 16 ≤ beAt bs (ip + 4) 2 ∧ sliceB bs hdr 4 ≠ [0, 0, 0, 0] ∧ beAt bs (ip + 4) 2 + ip = bs.length) →
        beAt bs hdr 4 = leAt e 4 4 → hdr + 34 ≤ bs.length → (if saV6 e then beAt bs 4 2 + 40 else beAt bs 2 2) = bs.length →
        num = (if saExt e then inferEsn (saSeq e) (saWindow e) (beAt bs (hdr + 4) 4) else beAt bs (hdr + 4) 4) →
        replayOk num (saSeq e) (saWindow e) (leAt e 128 128) = true → clen = bs.length - hdr - 32 →
        g = Config.gcmOpen (s.dev.saKey j.sa e) (sliceB e 24 4 ++ sliceB bs (hdr + 8) 8)
          (sliceB bs hdr 8 ++ (if saExt e then beBytes 4 (num / 2 ^ 32) else [])) (sliceB bs (hdr + 16) clen)
          (sliceB bs (bs.length - 16) 16) →
        Completes (.espInTransform p) s (fun t =>
          match g with
          | none => CryDropped s t p j js 2
          | some out =>
            let plain := sliceB out 0 clen
            let pad := (plain.getD (clen - 2) 0).toNat
            let fits := ((plain.getD (clen - 1) 0).toNat = 4 ∧ ((plain.take (clen - 2 - pad)).getD 0 0).toNat / 16 = 4) ∨
              ((plain.getD (clen - 1) 0).toNat = 41 ∧ ((plain.take (clen - 2 - pad)).getD 0 0).toNat / 16 = 6)
            if clen < pad + 2 ∨ sliceB plain (clen - 2 - pad) pad ≠ (List.range pad).map (fun i => BitVec.ofNat 8 (i + 1)) then
              CryDropped s t p j js 8
            else if ¬ fits then CryDropped s t p j js 9
            else Transformed t p j js j.sa (j.frame.start + hdr + 16) (clen - 2 - pad) ∧ Counts s.dev t (.cry (.CNT_COUNT 1))))) ∧
    (j.esp = false →
      (beAt bs 12 2 ≠ 0x88E5 → Effect (.macsecRxTransform p) s [.cry (.CNT_COUNT 11)] [.cry, .used] (fun t => CryDropped s t p j js 11)) ∧
      (∀ (tci tag sa num n : Nat) (g : Option (List Byte)), tci = (bs.getD 14 0).toNat → beAt bs 12 2 = 0x88E5 → tci.testBit 7 = false →
        tci.testBit 4 = false → tci.testBit 3 = tci.testBit 2 → tag = (if tci.testBit 5 then 16 else 8) →
        12 + tag + (bs.getD 15 0).toNat % 64 + 16 ≤ bs.length → sa = j.sa + tci % 4 → e = (s.dev.saRead sa 4).1 →
        (saUsable e false 3 = false →
          Effect (.macsecRxTransform p) s [.cry (.CNT_COUNT 10)] [.cry, .used] (fun t => CryDropped s t p j js 10)) ∧
        (saUsable e false 3 = true → sa ∉ s.dev.cry.keyBad → (tci.testBit 5 = true → sliceB bs 20 8 = sliceB e 36 8) →
          num = (if saExt e then inferXpn (saSeq e) (saWindow e) (beAt bs 16 4) else beAt bs 16 4) →
          replayOk num (saSeq e) (saWindow e) (leAt e 128 128) = true →
          n = (if (bs.getD 15 0).toNat % 64 ≠ 0 then (bs.getD 15 0).toNat % 64 else bs.length - 12 - tag - 16) →
          g = Config.gcmOpen (s.dev.saKey sa e) (macsecNonce e num (sliceB e 36 8))
            (bs.take 12 ++ sliceB bs 12 tag ++ (sliceB bs (12 + tag) n).take (confOffset (saConf e) n))
            ((sliceB bs (12 + tag) n).drop (confOffset (saConf e) n)) (sliceB bs (12 + tag + n) 16) →
          Completes (.macsecRxTransform p) s (fun t =>
            match g with
            | none => CryDropped s t p j js 2
            | some _ => Transformed t p j js sa (j.frame.start + tag) (12 + n) ∧ Counts s.dev t (.cry (.CNT_COUNT 1))))))

/-- SA_INSTALL, SA_DELETE and SA_UPDATE_TEMPLATE start with no command in progress, and are counted while one is; an install ends with the
first check that fails or the entry VALID, its key stage zeroed; a delete drains the entry and, with none of its frames in the pipelines, zeroes
entry and key; an update ends with the first check that fails, or the template replaced (R248 to R252). -/
def Sys2Proof.Claims.SaCommands : Prop :=
  ∀ (s : State) (i : Fin 1024), Awake s →
    (s.dev.cry.cmd ≠ none → ∀ c : Sys2Proof.Instr, c ∈ [.saInstall i, .saDelete i, .saUpdateTemplate i] →
      Effect c s [.cry .SA_CMD_STATUS_BUSY_CNT] [] (fun t => Counts s.dev t (.cry .SA_CMD_STATUS_BUSY_CNT))) ∧
    (s.dev.cry.cmd = none →
      Effect (.saInstall i) s [] [.cry] (fun t => t.cry = { s.dev.cry with cmd := some (1, i) }) ∧
      Effect (.saUpdateTemplate i) s [] [.cry] (fun t => t.cry = { s.dev.cry with cmd := some (3, i) }) ∧
      (saValid (s.dev.saPeek i) = true → s.dev.marks = [] →
        Effect (.saDelete i) s [] [.cry, .mem, .marks, .writeBacks] (fun t => t.cry = { s.dev.cry with cmd := some (2, i) } ∧
          saState (t.saPeek i) = 1)) ∧
      (saValid (s.dev.saPeek i) = false → Effect (.saDelete i) s saFields [.cry, .irqs] (fun t => SaDone t 5))) ∧
    (s.dev.cry.cmd = some (1, i.val) → ∀ e k, e = s.dev.saStage → k = s.dev.keyStage.take (if saBits e 4 1 = 1 then 40 else 24) →
      Completes .saInstallDone s (fun t => (∀ n : Fin 10, t.rd (.cry (.KEY_STAGE_DATA n)) = 0) ∧
        if s.dev.rd (.cry .CTRL_EN) = 0 then SaDone t 2
        else match kekSa s.otp s.dev with
          | none => SaDone t 3
          | some kek =>
            if saValid (s.dev.saPeek i) = true then SaDone t 4
            else if stageOk e = false then SaDone t 6
            else match Config.kwUnwrap kek k with
              | none => SaDone t 7
              | some key => SaDone t 0 ∧ saValid (t.saPeek i) = true ∧ t.keySlot i = sliceB key 0 32)) ∧
    (s.dev.cry.cmd = some (2, i.val) → s.dev.cry.pipes = [{}, {}] →
      Effect .saDeleteDone s saFields [.cry, .irqs, .mem, .marks, .writeBacks] (fun t => SaDone t 0 ∧ t.keySlot i = List.replicate 32 0 ∧
        ∀ k, 64 * saLine i 0 ≤ k → k < 64 * (saLine i 0 + 4) → Mem.get t.mem k = 0)) ∧
    (s.dev.cry.cmd = some (3, i.val) → s.dev.marks = [] →
      Effect .saUpdateDone s saFields [.cry, .irqs, .mem, .marks, .writeBacks] (fun t =>
        if s.dev.rd (.cry .CTRL_EN) = 0 then SaDone t 2
        else if saValid (s.dev.saPeek i) = false ∨ saType (s.dev.saPeek i) ≠ 0 then SaDone t 5
        else if templateOk s.dev.saStage = false then SaDone t 6
        else SaDone t 0 ∧ t.rawLine (saLine i 1) = sliceB s.dev.saStage 64 64))

/-- ESP and MACsec transmit transforms, and the SA commands: OutboundTransforms, SaCommands. -/
def Obligations.OutboundTransformsAndSas : Prop :=
  OutboundTransforms ∧ SaCommands

/-- Opening, closing and failing a connection.  NVT_OPEN of a connection that is neither CLOSED nor FAILED is counted; a refused one is FAILED with
BAD_CFG; else it is OPENING and sends SYN.  NVT_CLOSE makes an OPENING or ESTABLISHED one CLOSING; NVT_FIN_SEND sends FIN once nothing is
outstanding; NVT_CLOSED ends it.  NVT_ABORT, NVT_OPEN_TIMEOUT, NVT_RTO_EXPIRY at its last retry and NVT_C2H_TERM_REQ make it FAILED with their
errors; an earlier NVT_RTO_EXPIRY doubles the timeout (R266 to R268, R274). -/
def Obligations.ConnectionsOpenAndClose : Prop :=
  ∀ (s : State) (c : Fin 16), s.held = false →
    (s.dev.rd (.pwr .STATUS_STATE) < 2 →
      (s.dev.connState c ≠ 0 → s.dev.connState c ≠ 4 →
        Effect (.nvtOpen c) s [.nvt (.CNT_COUNT 7)] [] (fun t => Counts s.dev t (.nvt (.CNT_COUNT 7)))) ∧
      (s.dev.connState c = 0 ∨ s.dev.connState c = 4 → s.dev.openBad c = true →
        Effect (.nvtOpen c) s [.nvt (.CONN_STATE_STATE c), .nvt (.CONN_STATE_LAST_ERR c), .nvt .STATUS_CONN_CHG] [.irqs] (fun t =>
          t.connState c = 4 ∧ t.rd (.nvt (.CONN_STATE_LAST_ERR c)) = 1 ∧ t.rd (.nvt .STATUS_CONN_CHG) = 1)) ∧
      (∀ ls d1, s.dev.connState c = 0 ∨ s.dev.connState c = 4 → s.dev.openBad c = false →
        s.dev.alloc (regionBase 1) 65536 (s.dev.rd (.nvt (.CONN_CFG_SNDBUF c)) * 16) = some (ls, d1) → CanSend d1 c →
        Effect (.nvtOpen c) s (([.nvt (.CONN_STATE_STATE c), .nvt (.CONN_STATE_LAST_ERR c), .nvt .STATUS_CONN_CHG] : List Fld) ++ segRegs)
          (([.nvt, .irqs] : List Part) ++ segParts) (fun t => t.connState c = 1 ∧ t.rd (.nvt (.CONN_STATE_LAST_ERR c)) = 0 ∧
            t.rd (.nvt .STATUS_CONN_CHG) = 1 ∧ SegmentSent s.dev t c 0x02 ∧ (t.conn c).lines = ls ∧
            (t.conn c).rtoAt = some (s.dev.now + max 1000 (s.dev.rd (.nvt (.CONN_TCP_RTO_MIN c))) * 1000000) ∧
            (t.conn c).openAt = some (s.dev.now + s.dev.rd (.nvt (.CONN_ICD_OPEN_TMO c)) * 100000000))) ∧
      (s.dev.connState c = 1 ∨ s.dev.connState c = 2 →
        Effect (.nvtClose c) s [.nvt (.CONN_STATE_STATE c), .nvt .STATUS_CONN_CHG] [.irqs] (fun t =>
          t.connState c = 3 ∧ t.rd (.nvt .STATUS_CONN_CHG) = 1)) ∧
      EndsConn (.nvtAbort c) s c 4 7 segRegs segParts) ∧
    (∀ x, (s.dev.conn c).openAt = some x → s.dev.connState c = 1 →
      EndsConn (.nvtOpenTimeout c) s c 4 2 segRegs (segParts ++ timeParts)) ∧
    (s.dev.connState c = 3 → (s.dev.conn c).finSent = false → (s.dev.conn c).synAcked = true → s.dev.connBusy c = false →
      (s.dev.conn c).bufEnd ≤ (s.dev.conn c).una → (s.dev.conn c).out = [] → CanSend s.dev c →
      Effect (.nvtFinSend c) s segRegs (([.nvt] : List Part) ++ segParts) (fun t => SegmentSent s.dev t c 0x11 ∧
        t.conn c = { s.dev.conn c with
          finSent := true, rtoAt := some (s.dev.now + (s.dev.conn c).rto * 1000000) })) ∧
    (s.dev.connState c = 3 → (s.dev.conn c).finAcked = true → (s.dev.conn c).peerFin = true →
      EndsConn (.nvtClosed c) s c 0 0 [] []) ∧
    (∀ x, (s.dev.conn c).rtoAt = some x → s.dev.marks = [] → NoneDue s.dev (max s.dev.now x) →
      (s.dev.rd (.nvt (.CONN_TCP_MAX_RETX c)) ≤ (s.dev.conn c).retx →
        EndsConn (.nvtRtoExpiry c) s c 4 4 segRegs (segParts ++ timeParts)) ∧
      ((s.dev.conn c).retx < s.dev.rd (.nvt (.CONN_TCP_MAX_RETX c)) →
        Effect (.nvtRtoExpiry c) s (([.nvt (.CNT_COUNT 1)] : List Fld) ++ segRegs) (([.nvt] : List Part) ++ segParts ++ timeParts) (fun t =>
          t.now = max s.dev.now x ∧ Counts s.dev t (.nvt (.CNT_COUNT 1)) ∧ (t.conn c).retx = (s.dev.conn c).retx + 1 ∧
          (t.conn c).rto = min 60000 (2 * (s.dev.conn c).rto) ∧
          (t.conn c).rtoAt = some (t.now + min 60000 (2 * (s.dev.conn c).rto) * 1000000) ∧ t.connState c = s.dev.connState c))) ∧
    (∀ k, PduHead s.dev c 3 k → EndsConn (.nvtC2hTermReq c) s c 4 8 [] [])

/-- Segments received.  NVT_SEGMENT_RX discards the oldest one, with its cause, when it has an error, matches no connection, came by a queue pair
the connection is none of, or has a bad checksum; for a FAILED connection it is counted alone; out of order it is counted and acknowledged; in
order its data joins the stream and is acknowledged.  A RST fails the connection with RESET, as NVT_TCP_RST_RX does (R267, R268, R270). -/
def Obligations.SegmentsReceived : Prop :=
  ∀ (s : State) (x : NvtRx) (xs : List NvtRx), s.held = false → s.dev.nvt.rx = x :: xs → NoneDue s.dev s.dev.now →
    ((s.dev.frameBytes x.frame).2.1 = true → Completes .nvtSegmentRx s (fun t => SegmentDiscarded s.dev t x xs 0)) ∧
    (s.dev.marks = [] →
      (parseIp (s.dev.frameBytes x.frame).1 = none →
        Effect .nvtSegmentRx s discardFields [.nvt, .used] (fun t => SegmentDiscarded s.dev t x xs 1)) ∧
      (∀ v6 src dst seg, parseIp (s.dev.frameBytes x.frame).1 = some (v6, src, dst, seg) →
        (s.dev.matchConn v6 src dst seg = none →
          Effect .nvtSegmentRx s discardFields [.nvt, .used] (fun t => SegmentDiscarded s.dev t x xs 1)) ∧
        (∀ c, s.dev.matchConn v6 src dst seg = some c →
          (s.dev.ownConn x.qp c = false →
            Effect .nvtSegmentRx s discardFields [.nvt, .used] (fun t => SegmentDiscarded s.dev t x xs 2)) ∧
          (s.dev.ownConn x.qp c = true → tcpChecksum src dst seg ≠ 0 →
            Effect .nvtSegmentRx s discardFields [.nvt, .used] (fun t => SegmentDiscarded s.dev t x xs 3))))) ∧
    (∀ (c : Fin 16) (seg data : List Byte), Arrived s.dev x xs c seg → data = seg.drop ((seg.getD 12 0).toNat / 16 * 4) →
      (s.dev.connState c = 4 → Effect .nvtSegmentRx s [.nvt (.CNT_COUNT 2)] [.nvt, .used] (fun t =>
        Counts s.dev t (.nvt (.CNT_COUNT 2)) ∧ t.nvt = { s.dev.nvt with rx := xs })) ∧
      (s.dev.connState c ≠ 4 → (seg.getD 13 0).toNat.testBit 2 = true →
        EndsConn .nvtSegmentRx s c 4 3 [.nvt (.CNT_COUNT 2)] [] ∧ EndsConn (.nvtTcpRstRx c) s c 4 3 [.nvt (.CNT_COUNT 2)] []) ∧
      (s.dev.connState c ≠ 4 → (seg.getD 13 0).toNat.testBit 2 = false → (s.dev.conn c).synAcked = true →
        (beAt seg 4 4 ≠ (s.dev.conn c).rcv ∨ 65535 - (s.dev.conn c).rx.length < data.length →
          Effect .nvtSegmentRx s (([.nvt (.CNT_COUNT 2), .nvt (.CNT_COUNT 3)] : List Fld) ++ segRegs) (([.nvt] : List Part) ++ segParts) (fun t =>
            Counts s.dev t (.nvt (.CNT_COUNT 2)) ∧ Counts s.dev t (.nvt (.CNT_COUNT 3)) ∧ t.conn c = s.dev.conn c ∧
            (CanSend (s.dev.dropFrame x.frame) c → SegmentSent s.dev t c 0x10))) ∧
        (beAt seg 4 4 = (s.dev.conn c).rcv → data.length ≤ 65535 - (s.dev.conn c).rx.length → data ≠ [] →
          (seg.getD 13 0).toNat = 0x10 → beAt seg 8 4 = (s.dev.conn c).seqOf (s.dev.conn c).una → (s.dev.conn c).out = [] →
          (s.dev.conn c).bufEnd = (s.dev.conn c).nxt →
          Effect .nvtSegmentRx s (([.nvt (.CNT_COUNT 2)] : List Fld) ++ segRegs) (([.nvt] : List Part) ++ segParts) (fun t => Counts s.dev t (.nvt (.CNT_COUNT 2)) ∧
            (CanSend (s.dev.dropFrame x.frame) c → SegmentSent s.dev t c 0x10) ∧ t.conn c = { s.dev.conn c with
              wnd := beAt seg 14 2 * 2 ^ (s.dev.conn c).scale, rx := (s.dev.conn c).rx ++ data
              rcv := ((s.dev.conn c).rcv + data.length) % 2 ^ 32 }))))

/-- The PDUs of the stream.  NVT_ICRESP establishes the connection, its queue pairs with all connections up regaining their path, or fails it with
PDU; NVT_R2T_RX answers with H2CData PDUs of what it asks for, or fails it; NVT_C2HDATA writes the bytes that have come to the command's buffer;
NVT_CAPSULE_RESP of a quarantined identifier is counted late, of an outstanding one ends its leg and, the last leg ended, the command (R266,
R272 to R275, R277). -/
def Sys2Proof.Claims.PdusReceived : Prop :=
  ∀ (s : State) (c : Fin 16) (k : Nat) (n : NvtConn), s.held = false → n = s.dev.conn c → s.dev.marks = [] →
    (s.dev.connState c = 1 → PduHead s.dev c 1 k → 16 ≤ k →
      (leAt n.rx 8 2 = 0 → n.rx.getD 10 0 = 0 →
        (n.rx.getD 11 0).toNat = s.dev.rd (.nvt (.CONN_CFG_HDGST c)) + 2 * s.dev.rd (.nvt (.CONN_CFG_DDGST c)) →
        Effect (.nvtIcresp c) s (([.nvt (.CONN_MAXH2C_BYTES c), .nvt (.CONN_STATE_STATE c), .nvt .STATUS_CONN_CHG] : List Fld) ++
            (List.range 64).map (fun q => Fld.nvt (.QP_STATUS_PATH_DOWN q))) [.nvt, .irqs] (fun t =>
          t.connState c = 2 ∧ t.rd (.nvt (.CONN_MAXH2C_BYTES c)) = leAt n.rx 12 4 ∧ t.conn c = { n with rx := n.rx.drop k, openAt := none } ∧
          ∀ q : Fin 64, t.rd (.nvt (.QP_STATUS_PATH_DOWN q)) =
            if s.dev.is (.nvt (.QP_CFG_VALID q)) ∧ (s.dev.qpConns q).contains c.val ∧
                (s.dev.qpConns q).all (fun x => x = c.val ∨ s.dev.connState x = 2) then 0
              else s.dev.rd (.nvt (.QP_STATUS_PATH_DOWN q)))) ∧
      (leAt n.rx 8 2 ≠ 0 → EndsConn (.nvtIcresp c) s c 4 6 segRegs segParts)) ∧
    (PduHead s.dev c 9 k → 24 ≤ k → NoneDue s.dev s.dev.now → s.dev.quarantinedCid c (leAt n.rx 8 2) = false →
      (s.dev.legOf c (leAt n.rx 8 2) = none → EndsConn (.nvtR2tRx c) s c 4 6 segRegs segParts) ∧
      (∀ m i, s.dev.legOf c (leAt n.rx 8 2) = some (m, i) →
        (m.dir ≠ 1 ∨ m.len < leAt n.rx 12 4 + leAt n.rx 16 4 → EndsConn (.nvtR2tRx c) s c 4 6 segRegs segParts) ∧
        (m.dir = 1 → leAt n.rx 12 4 + leAt n.rx 16 4 ≤ m.len → n.out = [] →
          Completes (.nvtR2tRx c) s (fun t => (t.conn c).rx = n.rx.drop k ∧
            (t.conn c).out.map (fun p => { p with done := 0 }) =
              h2cPdus m.ser i (leAt n.rx 8 2) (leAt n.rx 10 2) false (s.dev.is (.nvt (.CONN_CFG_DDGST c))) false
                (s.dev.rd (.nvt (.CONN_MAXH2C_BYTES c))) (leAt n.rx 16 4 + 1) (leAt n.rx 12 4) (leAt n.rx 16 4))))) ∧
    (∀ x m i, n.c2h = some x → NoneDue s.dev s.dev.now → s.dev.legOf c x.cid = some (m, i) → n.rx ≠ [] → n.rx.length < x.left →
      x.off + n.rx.length ≤ m.len → s.dev.mayIssue m.f = true → s.dev.vatOk m.f 1 = true →
      Completes (.nvtC2hdata c) s (fun t => t.out = (s.dev.hostWrite m.f (m.addr + x.off) (clean n.rx)).out ∧
        t.conn c = { n with
          rx := []
          c2h := some { x with off := x.off + n.rx.length, left := x.left - n.rx.length, seen := x.seen ++ n.rx } })) ∧
    (PduHead s.dev c 5 k → 24 ≤ k → NoneDue s.dev s.dev.now →
      (s.dev.quarantinedCid c (leAt n.rx 20 2) = true →
        Effect (.nvtCapsuleResp c) s [.nvt (.CNT_COUNT 5)] [.nvt] (fun t => Counts s.dev t (.nvt (.CNT_COUNT 5)) ∧
          t.nvt.cmds = s.dev.nvt.cmds ∧ t.nvt.quar = s.dev.nvt.quar.filter (fun x => x ≠ (c.val, leAt n.rx 20 2)) ∧
          t.conn c = { n with rx := n.rx.drop k })) ∧
      (∀ m i, s.dev.quarantinedCid c (leAt n.rx 20 2) = false → s.dev.legOf c (leAt n.rx 20 2) = some (m, i) → s.dev.nvt.cmds = [m] →
        m.legs.length = 1 → m.wrote = false →
        Completes (.nvtCapsuleResp c) s (fun t => CmdOver t m ∧ (t.conn c).rx = n.rx.drop k)) ∧
      (∀ m i j, s.dev.quarantinedCid c (leAt n.rx 20 2) = false → s.dev.legOf c (leAt n.rx 20 2) = some (m, i) → s.dev.nvt.cmds = [m] →
        j < m.legs.length → (m.legs[j]?).map (·.status) = some none → j ≠ i → (∀ l ∈ m.legs[j]?, l.conn ≠ c.val) →
        Effect (.nvtCapsuleResp c) s [] [.nvt, .dma] (fun t => ∃ l, (t.nvt.cmds.flatMap (·.legs))[i]? = some l ∧
          l.nvme = leAt n.rx 22 2 / 2 ∧ l.dw0 = leAt n.rx 8 4 ∧
          l.status = some (((m.legs[i]?).bind (·.bad)).getD (if leAt n.rx 22 2 / 2 = 0 then 0 else 1)))))

/-- Storage commands.  NVT_CMD_ACCEPT of a queue pair whose path is lost ends the oldest fetched command of its ring NO_PATH, of one that waits for
room or for its connections does nothing; else the command is held with the lowest free identifier of each of its connections and its timer runs.
NVT_CMD_TIMEOUT ends the legs of the oldest command TIMEOUT and quarantines their identifiers (R271, R275 to R277). -/
def Sys2Proof.Claims.StorageCommands : Prop :=
  ∀ (s : State) (q : Fin 64), s.held = false →
    (∀ n e, s.dev.is (.nvt (.QP_CFG_VALID q)) = true → s.dev.ringOfQp q = some n → s.dev.sqState n = 1 → s.dev.nextStorage n = some e →
      ((∃ c ∈ s.dev.qpConns q, s.dev.connState c = 0 ∨ 3 ≤ s.dev.connState c) →
        Completes (.nvtCmdAccept q) s (fun t => t.nvt = s.dev.nvt ∧ ∀ x ∈ (t.sq n).ents, x.ser ≠ e.ser)) ∧
      ((∀ c ∈ s.dev.qpConns q, s.dev.connState c = 1 ∨ s.dev.connState c = 2) →
        (∃ c ∈ s.dev.qpConns q, s.dev.connState c = 1 ∨ 128 ≤ (s.dev.cids c).length) ∨ s.dev.rd (.nvt (.QP_CFG_MAX_OUT q)) ≤ s.dev.qpOut q →
        Effect (.nvtCmdAccept q) s [] [] (fun _ => True)) ∧
      ((∀ c ∈ s.dev.qpConns q, s.dev.connState c = 2 ∧ (s.dev.cids c).length < 128) → s.dev.qpOut q < s.dev.rd (.nvt (.QP_CFG_MAX_OUT q)) →
        s.dev.is (.nvt (.CONN_CFG_IO ((s.dev.qpConns q).headD 0))) = true →
        Effect (.nvtCmdAccept q) s [] [.nvt] (fun t => ∃ m, t.nvt = { s.dev.nvt with cmds := s.dev.nvt.cmds ++ [m] } ∧ m.ser = e.ser ∧
          m.ring = n ∧ m.qp = q ∧ m.f = s.dev.sqFunc n ∧ m.dir = e.arg ∧ m.addr = e.dataAddr ∧ m.len = e.len ∧ m.sqeAddr = e.addr ∧
          m.expiry = s.dev.now + s.dev.rd (.nvt (.QP_TMO_CMD_TMO q)) * 10000000 ∧
          m.legs.map (·.conn) = (if e.arg = 1 then s.dev.qpConns q else (s.dev.qpConns q).take 1) ∧
          ∀ l ∈ m.legs, l.cid < 128 ∧ l.cid ∉ s.dev.cids l.conn ∧ l.status = none ∧ ∀ i < l.cid, i ∈ s.dev.cids l.conn))) ∧
    (∀ m l, s.dev.nvt.cmds = [m] → m.qp = q → m.legs = [l] → l.status = none → m.wrote = false →
      Completes (.nvtCmdTimeout q) s (fun t => t.now = max s.dev.now m.expiry ∧ t.rd (.nvt .STATUS_CMD_TMO) = 1 ∧ CmdOver t m ∧
        t.nvt.quar = s.dev.nvt.quar ++ [(l.conn, l.cid)]))

/-- NVMe/TCP PDUs received, storage commands accepted and timed out: PdusReceived, StorageCommands. -/
def Obligations.StoragePdusAndCommands : Prop :=
  PdusReceived ∧ StorageCommands

/-- SQ_DOORBELL and CQ_DOORBELL: a doorbell is rejected with the reason of its first failing check, counted and recorded, no index changed; an
accepted one sets TAIL, or HEAD, to its index and nothing else, unless completions waited for it (R288, R289). -/
def Sys2Proof.Claims.Doorbells : Prop :=
  ∀ (s : State) (f : Fin 50) (v : BitVec 32), Awake s →
    (∀ r, r = sqReason s.dev f v.toNat → r ≠ 0 →
      Effect (.sqDoorbell f v) s (rejectFields f r) [] (fun t => DoorbellRejected s.dev t f v.toNat r 0)) ∧
    (∀ n, sqReason s.dev f v.toNat = 0 → s.dev.sqOf f (v.toNat / 2 ^ 16 % 256) = some n →
      Completes (.sqDoorbell f v) s (fun t => t.rd (.rng (.SQ_INDEX_TAIL n)) = v.toNat % 2 ^ 16) ∧
      (s.dev.safeRing n = false → Effect (.sqDoorbell f v) s [.rng (.SQ_INDEX_TAIL n)] [] (fun _ => True))) ∧
    (∀ r, r = cqReason s.dev f v.toNat → r ≠ 0 →
      Effect (.cqDoorbell f v) s (rejectFields f r) [] (fun t => DoorbellRejected s.dev t f v.toNat r 1)) ∧
    (∀ c, cqReason s.dev f v.toNat = 0 → s.dev.cqOf f (v.toNat / 2 ^ 16 % 256) = some c →
      Completes (.cqDoorbell f v) s (fun t => t.rd (.rng (.CQ_INDEX_HEAD c)) = v.toNat % 2 ^ 16) ∧
      ((∀ n : Fin 256, s.dev.sqCq n = some c → s.dev.sqState n ≠ 2 ∧ s.dev.safeRing n = false) →
        Effect (.cqDoorbell f v) s [.rng (.CQ_INDEX_HEAD c)] [] (fun _ => True)))

/-- SQ_ENABLE, SQ_DISABLE, CQ_ENABLE and CQ_DISABLE: EN changes and the indices are zeroed under the conditions of R307 and R309; else the write
is refused and counted; a write of the value EN has changes nothing (R307, R309). -/
def Sys2Proof.Claims.RingsEnabledAndDisabled : Prop :=
  ∀ (s : State) (n : Fin 256), Awake s →
    (s.dev.rd (.rng (.SQ_CTRL_EN n)) = 0 →
      Effect (.sqDisable n) s [] [] (fun _ => True) ∧
      (s.dev.sqState n = 0 → s.dev.rd (.rng (.SQ_ASSIGN_VALID n)) ≠ 0 →
        (∃ c, s.dev.sqCq n = some c ∧ s.dev.rd (.rng (.CQ_CTRL_EN c)) ≠ 0) →
        Effect (.sqEnable n) s [.rng (.SQ_CTRL_EN n), .rng (.SQ_INDEX_HEAD n), .rng (.SQ_INDEX_TAIL n), .rng (.SQ_STATUS_STATE n)] [.sqs]
          (fun t => t.rd (.rng (.SQ_CTRL_EN n)) = 1 ∧ t.rd (.rng (.SQ_INDEX_HEAD n)) = 0 ∧ t.rd (.rng (.SQ_INDEX_TAIL n)) = 0 ∧
            t.sqState n = 1 ∧ (t.sq n).ents = [] ∧ ∀ m : Fin 256, m ≠ n → t.sq m = s.dev.sq m)) ∧
      (s.dev.sqState n ≠ 0 ∨ s.dev.rd (.rng (.SQ_ASSIGN_VALID n)) = 0 ∨
          (∀ c, s.dev.sqCq n = some c → s.dev.rd (.rng (.CQ_CTRL_EN c)) = 0) →
        Effect (.sqEnable n) s [.rng (.FCNT_COUNT (s.dev.sqFunc n) 7)] [] (fun t =>
          Counts s.dev t (.rng (.FCNT_COUNT (s.dev.sqFunc n) 7))))) ∧
    (s.dev.rd (.rng (.SQ_CTRL_EN n)) ≠ 0 →
      Effect (.sqEnable n) s [] [] (fun _ => True) ∧
      (∀ idle : Bool, idle = ((s.dev.sq n).ents = [] ∧ s.dev.fetching n = 0 ∧
          s.dev.rd (.rng (.SQ_INDEX_HEAD n)) = s.dev.rd (.rng (.SQ_INDEX_TAIL n)) : Bool) →
        ((s.dev.sqSealed n = true ∧ s.dev.d2 = false) ∨ (s.dev.sqState n ≠ 3 ∧ (s.dev.sqState n ≠ 1 ∨ idle = false)) →
          Effect (.sqDisable n) s [.rng (.FCNT_COUNT (s.dev.sqFunc n) 7)] [] (fun t =>
            Counts s.dev t (.rng (.FCNT_COUNT (s.dev.sqFunc n) 7)))) ∧
        (s.dev.sqSealed n = false ∨ s.dev.d2 = true → s.dev.sqState n = 3 ∨ (s.dev.sqState n = 1 ∧ idle = true) →
          Effect (.sqDisable n) s [.rng (.SQ_CTRL_EN n), .rng (.SQ_STATUS_STATE n)] [] (fun t =>
            t.rd (.rng (.SQ_CTRL_EN n)) = 0 ∧ t.sqState n = 0)))) ∧
    (s.dev.rd (.rng (.CQ_CTRL_EN n)) = 0 →
      Effect (.cqDisable n) s [] [] (fun _ => True) ∧
      (s.dev.rd (.rng (.CQ_ASSIGN_VALID n)) = 0 →
        Effect (.cqEnable n) s [.rng (.FCNT_COUNT (s.dev.rd (.rng (.CQ_ASSIGN_FUNC n))) 7)] [] (fun t =>
          Counts s.dev t (.rng (.FCNT_COUNT (s.dev.rd (.rng (.CQ_ASSIGN_FUNC n))) 7)))) ∧
      (s.dev.rd (.rng (.CQ_ASSIGN_VALID n)) ≠ 0 →
        Effect (.cqEnable n) s [.rng (.CQ_CTRL_EN n), .rng (.CQ_INDEX_HEAD n), .rng (.CQ_INDEX_TAIL n)] [.cqSince] (fun t =>
          t.rd (.rng (.CQ_CTRL_EN n)) = 1 ∧ t.rd (.rng (.CQ_INDEX_HEAD n)) = 0 ∧ t.rd (.rng (.CQ_INDEX_TAIL n)) = 0))) ∧
    (s.dev.rd (.rng (.CQ_CTRL_EN n)) ≠ 0 →
      Effect (.cqEnable n) s [] [] (fun _ => True) ∧
      ((∃ m : Fin 256, s.dev.sqCq m = some n.val ∧ s.dev.rd (.rng (.SQ_ASSIGN_VALID m)) ≠ 0 ∧ s.dev.sqState m ≠ 0) →
        Effect (.cqDisable n) s [.rng (.FCNT_COUNT (s.dev.rd (.rng (.CQ_ASSIGN_FUNC n))) 7)] [] (fun t =>
          Counts s.dev t (.rng (.FCNT_COUNT (s.dev.rd (.rng (.CQ_ASSIGN_FUNC n))) 7)))) ∧
      ((∀ m : Fin 256, s.dev.sqCq m = some n.val → s.dev.rd (.rng (.SQ_ASSIGN_VALID m)) ≠ 0 → s.dev.sqState m = 0) →
        Effect (.cqDisable n) s [.rng (.CQ_CTRL_EN n)] [] (fun t => t.rd (.rng (.CQ_CTRL_EN n)) = 0)))

/-- Doorbells checked in order; rings enabled and disabled: Doorbells, RingsEnabledAndDisabled. -/
def Obligations.DoorbellsAndRingEnables : Prop :=
  Doorbells ∧ RingsEnabledAndDisabled

/-- Rings at work.  SQ_FETCH asks for at most 8 entries from HEAD on with one read request, not past the end of the ring nor TAIL; RX_HELD_FRAME_WRITE
writes the oldest held frame to the fetched buffer and frees its lines.  RING_ABORT of a ring that does not run, or of a sealed one, is refused and
counted; else the ring is ABORTING, its held frames freed, an entry that took no effect ended; RING_ABORT_COMPLETE makes it STOPPED.
SAFE_STATE_ARRIVAL leaves a PF1 transmit ring only the entries whose frames are being sent (R293, R302, R305, R306, R313). -/
def Obligations.RingsAtWork : Prop :=
  ∀ (s : State) (n : Fin 256), s.held = false →
    (∀ (h f tag k : Nat), h = s.dev.rd (.rng (.SQ_INDEX_HEAD n)) → f = s.dev.sqFunc n → s.dev.rd (.rng (.SQ_ASSIGN_VALID n)) ≠ 0 →
      s.dev.sqState n = 1 → s.dev.fetching n = 0 → s.dev.mayIssue f = true → InSlot s.dev n → s.dev.safeRing n = false →
      k = s.dev.fetchCount n → k ≠ 0 → (s.dev.freeTags f 1).head? = some tag → s.dev.hep.tags.length < 512 →
      (s.dev.hep.tags.filter (fun g => g.f = f)).length < s.dev.rd (.hep (.RDQ_MAX f)) →
      s.dev.vatOk f (linesIn (s.dev.rd (.rng (.SQ_BASE_ADDR n)) * 64 + 32 * h) (32 * k)) = true →
      Effect (.sqFetch n) s [] [.out, .hep, .dma, .sqs, .mem, .marks, .writeBacks] (fun t =>
        k ≤ 8 ∧ h + k ≤ s.dev.sqSize n ∧ k ≤ ringOcc h (s.dev.rd (.rng (.SQ_INDEX_TAIL n))) (s.dev.sqSize n) ∧
        t.out = s.dev.out ++ ([.memRead f (s.dev.rd (.rng (.SQ_BASE_ADDR n)) * 64 + 32 * h) (32 * k) tag] : List Outbound) ∧
        t.hep.tags.map (·.tag) = s.dev.hep.tags.map (·.tag) ++ [tag] ∧ (t.sq n).fetchTo = (h + k) % s.dev.sqSize n)) ∧
    (∀ (x : RxHeld) (xs : List RxHeld), (s.dev.sq n).held = x :: xs → s.dev.sqKind n = 1 → s.dev.sqState n = 1 →
      s.dev.mayIssue (s.dev.sqFunc n) = true → InSlot s.dev n →
      x.len ≤ ((s.dev.sq n).ents.filter (fun e => e.fin.isNone)).foldl (fun k e => k + e.len) 0 →
      Completes (.rxHeldFrameWrite n) s (fun t => (t.sq n).held = xs ∧
        t.dma.vat = s.dev.dma.vat.filter (fun e => !x.lines.contains e.1) ∧
        ∀ e, (s.dev.sq n).ents = [e] → s.dev.marks = [] → 0 < x.len → x.len ≤ 64 * x.lines.length → (t.sq n).ents = [] ∧
          (s.dev.hostWrite (s.dev.sqFunc n) e.addr (clean ((s.dev.readRun (x.lines.map vatLine)).1.take x.len))).out <+: t.out)) ∧
    (s.dev.rd (.pwr .STATUS_STATE) < 2 →
      ((s.dev.sqSealed n = true ∧ s.dev.d2 = false) ∨ s.dev.sqState n ≠ 1 →
        Effect (.ringAbort n) s [.rng (.FCNT_COUNT (s.dev.sqFunc n) 6)] [] (fun t =>
          Counts s.dev t (.rng (.FCNT_COUNT (s.dev.sqFunc n) 6)))) ∧
      (s.dev.sqSealed n = false ∨ s.dev.d2 = true → s.dev.sqState n = 1 →
        Completes (.ringAbort n) s (fun t => t.sqState n = 2 ∧ t.rd (.rng (.SQ_CTRL_ABORT n)) = 1 ∧ (t.sq n).held = []) ∧
        ((s.dev.sq n).ents = [] → s.dev.sqKind n = 1 → s.dev.rd (.rng (.SQ_INDEX_HEAD n)) = s.dev.rd (.rng (.SQ_INDEX_TAIL n)) →
          Effect (.ringAbort n) s [.rng (.SQ_STATUS_STATE n), .rng (.SQ_CTRL_ABORT n), .rng (.FCNT_COUNT (s.dev.sqFunc n) 9)]
            [.hep, .sqs, .dma] (fun t => Counts s.dev t (.rng (.FCNT_COUNT (s.dev.sqFunc n) 9)) (s.dev.sq n).held.length)) ∧
        (∀ e, (s.dev.sq n).ents = [e] → s.dev.sqKind n = 1 → e.live = false → e.fin = none → s.dev.cmdOf e.ser = none →
          Completes (.ringAbort n) s (fun t => (t.sq n).ents = [])))) ∧
    (s.dev.sqState n = 2 → (s.dev.sq n).ents = [] →
      s.dev.rd (.rng (.SQ_INDEX_HEAD n)) = s.dev.rd (.rng (.SQ_INDEX_TAIL n)) → (∀ e ∈ s.dev.due, e.sq ≠ n.val) →
      Effect (.ringAbortComplete n) s [.rng (.SQ_STATUS_STATE n), .rng (.SQ_CTRL_ABORT n)] [.out, .hep, .sqs] (fun t =>
        t.sqState n = 3 ∧ t.rd (.rng (.SQ_CTRL_ABORT n)) = 0)) ∧
    (s.dev.safeState = true → s.dev.safeCore = false →
      Completes .safeStateArrival s (fun t => t.safeCore = true ∧
        (s.dev.sqFunc n = 1 → s.dev.sqKind n = 0 → s.dev.sqState n = 1 → s.dev.rd (.rng (.SQ_ASSIGN_VALID n)) ≠ 0 →
          (t.sq n).ents = (s.dev.sq n).ents.filter (fun e => granted s.dev n e.ser))) ∧
      ((∀ m : Fin 256, s.dev.sqFunc m ≠ 1) → s.dev.rd (.cfg .OVL_STATUS_STATE) = 0 →
        Effect .safeStateArrival s [] [.safeCore] (fun t => t.safeCore = true)))

/-- Linked-list channels.  LL_START of an IDLE or HALTED_ERR channel runs it from HEAD; LL_STOP of a running or parked one is STOPPING; either else
is refused and counted; LL_KICK runs a parked channel, else KICK_PEND is set; LL_STOP_COMPLETE writes an unfinished descriptor back BAD_STOPPED
and makes the channel IDLE; LL_DESCRIPTOR_END writes the status back, counts it and moves to the next descriptor, or to IDLE after the last
(R333, R335, R336, R338). -/
def Obligations.LinkedListChannels : Prop :=
  ∀ (s : State) (c : Fin 96), s.held = false →
    (s.dev.rd (.pwr .STATUS_STATE) < 2 →
      (s.dev.llState c = 0 ∨ s.dev.llState c = 4 →
        Effect (.llStart c) s [.dma (.LL_STATUS_STATE c), .dma (.LL_STATUS_KICK_PEND c), .dma (.LL_CUR_ADDR c)] [.dma] (fun t =>
          t.llState c = 1 ∧ t.rd (.dma (.LL_STATUS_KICK_PEND c)) = 0 ∧ t.ll c = {} ∧
          t.rd (.dma (.LL_CUR_ADDR c)) = s.dev.rd (.dma (.LL_HEAD_ADDR c)) * 32 + s.dev.rd (.dma (.LL_HEAD_ONCHIP c)))) ∧
      (s.dev.llState c ≠ 0 → s.dev.llState c ≠ 4 →
        Effect (.llStart c) s [.dma (.LL_CNT_REFUSED c)] [] (fun t => Counts s.dev t (.dma (.LL_CNT_REFUSED c)))) ∧
      (s.dev.llState c = 1 ∨ s.dev.llState c = 2 →
        Effect (.llStop c) s [.dma (.LL_STATUS_STATE c), .dma (.LL_STATUS_KICK_PEND c)] [] (fun t =>
          t.llState c = 3 ∧ t.rd (.dma (.LL_STATUS_KICK_PEND c)) = 0)) ∧
      (s.dev.llState c ≠ 1 → s.dev.llState c ≠ 2 →
        Effect (.llStop c) s [.dma (.LL_CNT_REFUSED c)] [] (fun t => Counts s.dev t (.dma (.LL_CNT_REFUSED c)))) ∧
      (s.dev.llState c = 2 → Effect (.llKick c) s [.dma (.LL_STATUS_STATE c)] [] (fun t => t.llState c = 1)) ∧
      (s.dev.llState c ≠ 2 →
        Effect (.llKick c) s [.dma (.LL_STATUS_KICK_PEND c)] [] (fun t => t.rd (.dma (.LL_STATUS_KICK_PEND c)) = 1))) ∧
    (s.dev.llState c = 3 → (s.dev.ll c).reading = false → (s.dev.ll c).x = none →
      Effect (.llStopComplete c) s [.dma (.LL_STATUS_STATE c)] [] (fun t => t.llState c = 0)) ∧
    (∀ v, (s.dev.ll c).x = some v → s.dev.marks = [] → s.dev.llMayWrite c = true →
      (s.dev.llState c = 3 → (s.dev.ll c).reading = false → v.bursts = [] → v.flushAsked = false → v.over = false →
        Effect (.llStopComplete c) s (.dma (.LL_STATUS_STATE c) :: backRegs c ++ backBad c)
          [.dma, .mem, .marks, .writeBacks, .out, .hep, .irqs] (fun t => t.llState c = 0 ∧ WrittenBack s.dev t c 0x83 ∧ t.ll c = {} ∧
            Counts s.dev t (.dma (.LL_CNT_BAD c)))) ∧
      (s.dev.llState c = 1 → v.over = true → v.bad = none →
        Effect (.llDescriptorEnd c) s (([.dma (.LL_STATUS_STATE c), .dma (.LL_CUR_ADDR c)] : List Fld) ++ backRegs c)
          [.dma, .mem, .marks, .writeBacks, .out, .hep, .irqs] (fun t =>
            WrittenBack s.dev t c (if v.poisoned then 2 else 1) ∧ t.ll c = {} ∧ Counts s.dev t (.dma (.LL_CNT_DONE c)) ∧
            t.llState c = (if v.desc.last then 0 else 1) ∧
            t.rd (.dma (.LL_CUR_ADDR c)) = (if v.desc.last then s.dev.rd (.dma (.LL_CUR_ADDR c))
              else (v.desc.next / 32 * 32 + b2n v.desc.nextOnchip) % 2 ^ 64) ∧
            t.rd (.dma (.IRQ_PEND_PEND (c / 32))) = (if v.desc.irq then setBit (s.dev.rd (.dma (.IRQ_PEND_PEND (c / 32)))) (c % 32)
              else s.dev.rd (.dma (.IRQ_PEND_PEND (c / 32)))))))

/-- Request lines and tick channels.  REQ_MAP_WRITE sets a line's source and clears PENDING; REQ_FIRE of a SOFTWARE line and REQ_LINE_TIMER of a
TIMER line whose period is not zero add one event.  TCH_ARM makes a register shadow valid; TCH_SWAP_REQ requests a swap; TCH_SWAP_ON_REQUEST
makes the valid shadow the active set, consuming the request or one event of its line; TCH_OCCURRENCE_END ends DONE the occurrence of a channel
with nothing to do (R330, R339 to R343). -/
def Obligations.RequestLinesAndTickChannels : Prop :=
  ∀ (s : State) (i : Fin 64) (c : Fin 32), s.held = false →
    (s.dev.rd (.pwr .STATUS_STATE) < 2 →
      (∀ (kind : BitVec 4) (arg : BitVec 12),
        Effect (.reqMapWrite i kind arg) s [.dma (.REQ_MAP_KIND i), .dma (.REQ_MAP_ARG i), .dma (.REQ_MAP_PENDING i)] [] (fun t =>
          t.rd (.dma (.REQ_MAP_ARG i)) = arg.toNat ∧ t.rd (.dma (.REQ_MAP_PENDING i)) = 0 ∧
          t.rd (.dma (.REQ_MAP_KIND i)) = if kind.toNat < 8 then kind.toNat else s.dev.rd (.dma (.REQ_MAP_KIND i)))) ∧
      (s.dev.rd (.dma (.REQ_MAP_KIND i)) = 1 →
        Effect (.reqFire i) s [.dma (.REQ_MAP_PENDING i)] [] (fun t => Counts s.dev t (.dma (.REQ_MAP_PENDING i)))) ∧
      (s.dev.rd (.dma (.REQ_MAP_KIND i)) ≠ 1 → Effect (.reqFire i) s [] [] (fun _ => True)) ∧
      (s.dev.rd (.dma (.TCH_CFG_SRC c)) = 0 →
        Effect (.tchArm c) s [.dma (.TCH_SHCTRL_SHADOW_VALID c)] [] (fun t => t.rd (.dma (.TCH_SHCTRL_SHADOW_VALID c)) = 1)) ∧
      (s.dev.rd (.dma (.TCH_CFG_SRC c)) ≠ 0 → Effect (.tchArm c) s [] [] (fun _ => True)) ∧
      Effect (.tchSwapReq c) s [.dma (.TCH_SHCTRL_SWAP_REQ c)] [] (fun t => t.rd (.dma (.TCH_SHCTRL_SWAP_REQ c)) = 1)) ∧
    (s.dev.rd (.dma (.REQ_MAP_KIND i)) = 2 → s.dev.rd (.dma (.REQ_MAP_ARG i)) ≠ 0 →
      Effect (.reqLineTimer i) s [.dma (.REQ_MAP_PENDING i)] [] (fun t => Counts s.dev t (.dma (.REQ_MAP_PENDING i)))) ∧
    (∀ (line : Nat) (byReq : Bool), line = s.dev.rd (.dma (.TCH_CFG_SWAP_LINE c)) →
      byReq = decide (s.dev.rd (.dma (.TCH_SHCTRL_SWAP_REQ c)) ≠ 0) → s.dev.rd (.dma (.TCH_CFG_MODE c)) = 0 → (s.dev.tch c).x = none →
      (byReq = false → s.dev.rd (.dma (.TCH_CFG_SWAP_LINE_EN c)) ≠ 0 ∧ s.dev.rd (.dma (.REQ_MAP_PENDING line)) ≠ 0) →
      s.dev.rd (.dma (.TCH_CFG_SRC c)) = 0 → s.dev.rd (.dma (.TCH_SHCTRL_SHADOW_VALID c)) ≠ 0 → s.dev.tchRunning c = false →
      Effect (.tchSwapOnRequest c) s (([.dma (.TCH_SHCTRL_SHADOW_VALID c), .dma (.TCH_SHCTRL_SWAP_REQ c), .dma (.REQ_MAP_PENDING line)] : List Fld) ++
          (List.range 6).map (fun k => Fld.dma (.TCH_ACTIVE_DATA c k))) [.dma] (fun t =>
        (∀ k : Fin 6, t.rd (.dma (.TCH_ACTIVE_DATA c k)) = s.dev.rd (.dma (.TCH_SHADOW_DATA c k))) ∧
        t.rd (.dma (.TCH_SHCTRL_SHADOW_VALID c)) = 0 ∧ t.rd (.dma (.TCH_SHCTRL_SWAP_REQ c)) = 0 ∧
        t.rd (.dma (.REQ_MAP_PENDING line)) = (if byReq then s.dev.rd (.dma (.REQ_MAP_PENDING line))
          else s.dev.rd (.dma (.REQ_MAP_PENDING line)) - 1) ∧
        ∃ v, (t.tch c).x = some v ∧ v.moved = 0 ∧ v.issued = 0 ∧ v.bursts = [] ∧
          v.desc.src = s.dev.rd (.dma (.TCH_SHADOW_DATA c 0)) + 2 ^ 32 * s.dev.rd (.dma (.TCH_SHADOW_DATA c 1)) ∧
          v.desc.dst = s.dev.rd (.dma (.TCH_SHADOW_DATA c 2)) + 2 ^ 32 * s.dev.rd (.dma (.TCH_SHADOW_DATA c 3)) ∧
          v.desc.word4 = s.dev.rd (.dma (.TCH_SHADOW_DATA c 4)) ∧ v.desc.word5 = s.dev.rd (.dma (.TCH_SHADOW_DATA c 5)) ∧
          v.bad = (if s.dev.descBad v.desc true then some (0x82, v.desc.src) else none))) ∧
    (∀ n, s.dev.tchOcc c = some n → s.dev.rd (.dma (.TCH_CFG_MODE c)) = 0 → (s.dev.tch c).x = none → (s.dev.tch c).failed = false →
      s.dev.rd (.hep .CTN_STATUS_STATE) = 0 →
      Effect (.tchOccurrenceEnd c) s (recFields n) [.tick, .dma] (fun t => (t.occ n).state = .ended ∧
        t.rd (.tck (.SLOT_REC_STATUS n)) = 0 ∧ t.rd (.tck (.SLOT_REC_SLOT n)) = n))

/-- The engines' requests.  With channel `c` the only client, DMA_BURST_ISSUE reads the descriptor of a running channel that has none, or its next
burst from the host, or writes its next burst of cluster memory to the host; FLUSH_READ_ISSUE reads the dword, or the line, of the last byte a
transfer with FLUSH wrote, with no bytes or with the line (R316, R318, R325, R327, R332, R336). -/
def Obligations.DmaRequests : Prop :=
  ∀ (s : State) (c : Fin 96) (tag : Nat), s.held = false → Alone s.dev c → s.dev.rd (.dma .CTRL_EN) ≠ 0 → s.dev.llState c = 1 →
    (∀ a, (s.dev.ll c).x = none → (s.dev.ll c).reading = false → s.dev.llCur c = (false, a) → CanRead s.dev (s.dev.chF c) a 32 tag →
      Effect (.dmaBurstIssue false) s [] readParts (fun t =>
        t.out = s.dev.out ++ ([.memRead (s.dev.chF c) a 32 tag] : List Outbound) ∧ (t.ll c).reading = true)) ∧
    (∀ v n, (s.dev.ll c).x = some v → v.bad = none → v.desc.paced = false → n = v.nextLen → v.issued < v.desc.len → v.bursts.length < 4 →
      v.waiting = [] →
      (v.desc.srcSp = 0 → n ≤ s.dev.mrrs (s.dev.chF c) - (v.desc.src + v.issued) % s.dev.mrrs (s.dev.chF c) →
        CanRead s.dev (s.dev.chF c) (v.desc.src + v.issued) n tag →
        Effect (.dmaBurstIssue false) s [] readParts (fun t =>
          t.out = s.dev.out ++ ([.memRead (s.dev.chF c) (v.desc.src + v.issued) n tag] : List Outbound) ∧
          (t.ll c).x = some { v with
            issued := v.issued + n, bursts := v.bursts ++ [{ off := v.issued, len := n, left := n }] })) ∧
      (v.desc.srcSp = 1 → v.desc.dstSp = 0 → s.dev.mayIssue (s.dev.chF c) = true → s.dev.marks = [] →
        s.dev.vatOk (s.dev.chF c) (linesIn (v.desc.src + v.issued) n) = true → v.bursts = [] →
        Effect (.dmaBurstIssue true) s [] [.out, .hep, .dma] (fun t =>
          t.out = (s.dev.hostWrite (s.dev.chF c) (v.desc.dst + v.issued) (s.dev.clusterGet (v.desc.src + v.issued) n).1).out ∧
          (t.ll c).x = some { v with
            issued := v.issued + n, moved := v.moved + n }))) ∧
    (∀ v a, (s.dev.ll c).x = some v → v.bad = none → v.moved = v.desc.len → v.bursts = [] → v.flushAsked = false → v.desc.dstSp = 0 →
      a = (if v.desc.len = 0 then v.desc.dst else v.desc.dst + v.desc.len - 1) →
      (v.desc.flush = 1 → CanRead s.dev (s.dev.chF c) (a / 4 * 4) 1 tag →
        Effect .flushReadIssue s [] readParts (fun t => t.out = s.dev.out ++ ([.memRead (s.dev.chF c) (a / 4 * 4) 0 tag] : List Outbound) ∧
          (t.ll c).x = some { v with flushAsked := true })) ∧
      (v.desc.flush = 2 → CanRead s.dev (s.dev.chF c) (a / 64 * 64) 64 tag →
        Effect .flushReadIssue s [] readParts (fun t => t.out = s.dev.out ++ ([.memRead (s.dev.chF c) (a / 64 * 64) 64 tag] : List Outbound) ∧
          (t.ll c).x = some { v with flushAsked := true })))

/-- COMPLETION_RECEIVED: for no tag in use it is an Unexpected Completion, logged and counted; for a quarantined tag it is discarded, its final
piece releases the tag; a successful piece goes to its place in the Vat, and the last one of a flush ends it; UR or CA ends the transfer
BAD_BUS; a piece that disagrees with its request quarantines the tag (R322, R323, R327, R391 to R394). -/
def Obligations.CompletionsReceived : Prop :=
  ∀ (s : State) (f : Fin 50) (status : Fin 8) (ep : Bool) (count lower : Nat) (data : List Byte), s.held = false →
    s.dev.rd (.hep .LINK_STATUS_DL_UP) ≠ 0 → LinkQuiet s.dev →
    (∀ tag, s.dev.hep.tags.find? (fun t => t.tag = tag && t.f = f.val) = none →
      Effect (.completionReceived tag f status ep count lower data) s (.hep (.ERR_CNT_COUNT 2) :: errRegs) errParts (fun t =>
        Counts s.dev t (.hep (.ERR_CNT_COUNT 2)) ∧ t.hep.tags = s.dev.hep.tags ∧
        ∀ g : Fin 2, (t.rd (.cs g .AER_UE_STS)).testBit 16 = true)) ∧
    (∀ g : Tag, InUse s.dev g f →
      (g.st ≠ .out → status ≠ 0 ∨ count ≤ data.length →
        (g.st = .timed → Effect (.completionReceived g.tag f status ep count lower data) s (.hep (.ERR_CNT_COUNT 0) :: errRegs) (.dma :: errParts)
          (fun t => Counts s.dev t (.hep (.ERR_CNT_COUNT 0)) ∧ t.hep.tags = tagsWithout s.dev g)) ∧
        (g.st ≠ .timed → Effect (.completionReceived g.tag f status ep count lower data) s [.hep (.ERR_CNT_COUNT 1)] [.dma, .hep]
          (fun t => Counts s.dev t (.hep (.ERR_CNT_COUNT 1)) ∧ t.hep.tags = tagsWithout s.dev g))) ∧
      (g.st ≠ .out → status = 0 → data.length < count →
        Effect (.completionReceived g.tag f status ep count lower data) s [] [] (fun _ => True)) ∧
      (g.st = .out → status = 0 → count = g.len - g.got → lower = (g.addr + g.got) % 128 → data ≠ [] → data.length ≤ count →
        (data.length < count → ep = false → s.dev.marks = [] → g.lines.Nodup → g.addr % 64 + g.len ≤ 64 * g.lines.length →
          Effect (.completionReceived g.tag f status ep count lower data) s [] [.hep, .mem, .marks, .writeBacks] (fun t =>
            t.hep.tags.find? (fun x => x.tag = g.tag && x.f = f.val) = some { g with got := g.got + data.length } ∧
            sliceB (t.readRun (g.lines.map vatLine)).1 (g.addr % 64 + g.got) data.length = data)) ∧
        (∀ (c : Fin 96) v, data.length = count → ep = false → s.dev.marks = [] → g.client = .flush c → (s.dev.ll c).x = some v →
          Effect (.completionReceived g.tag f status ep count lower data) s [] [.hep, .dma, .mem, .marks, .writeBacks] (fun t =>
            (t.ll c).x = some { v with flushed := true } ∧ t.hep.tags = tagsWithout s.dev g))) ∧
      (∀ (c : Fin 96) v, g.st = .out → status = 1 ∨ status = 4 → g.client = .flush c → (s.dev.ll c).x = some v → v.bad = none →
        Completes (.completionReceived g.tag f status ep count lower data) s (fun t =>
          ((t.ll c).x).map (·.bad) = some (some (0x80, g.addr)) ∧ ∀ x ∈ t.hep.tags, ¬(x.tag = g.tag ∧ x.f = g.f))) ∧
      (g.st = .out → status = 0 → count ≠ g.len - g.got ∨ lower ≠ (g.addr + g.got) % 128 ∨ data = [] ∨ count < data.length →
        Completes (.completionReceived g.tag f status ep count lower data) s (fun t =>
          (t.rd (.cs (aerOwner f) .AER_UE_STS)).testBit 18 = true ∧
          (t.hep.tags.find? (fun x => x.tag = g.tag && x.f = f.val)).map (·.st) = some .malformed)))

/-- The host link.  HOST_LINK_UP once the boot allows it and HOST_LINK_RETRAIN set speed and width, a retrain counted; HOST_LINK_DOWN returns them
and the configuration registers of PF0 and PF1 to reset, ends every read and, without a warning before it, is a surprise removal, counted and
presented; HOT_RESET resets those registers; PME_TURN_OFF is answered; ASPM_L1_ENTRY enters L1 after 8 µs; LTR_MESSAGE sends the latency of the
internal state (R351, R352, R378, R379, R401, R402, R510). -/
def Obligations.HostLinkUpAndDown : Prop :=
  ∀ (s : State) (speed : Fin 4) (width : Fin 3) (rev : Bool), s.held = false →
    (s.dev.boot.stage = 2 → s.dev.hep.perst = false → s.dev.rd (.hep .LINK_STATUS_DL_UP) = 0 →
      Effect (.hostLinkUp speed width rev) s linkRegs [.hep] (fun t => t.rd (.hep .LINK_STATUS_SPEED) = speed + 1 ∧
        t.rd (.hep .LINK_STATUS_WIDTH) = 2 ^ width.val ∧ t.rd (.hep .LINK_STATUS_DL_UP) = 1 ∧
        t.rd (.hep .LINK_STATUS_REVERSED) = b2n rev)) ∧
    (s.dev.rd (.hep .LINK_STATUS_DL_UP) ≠ 0 →
      Effect (.hostLinkRetrain speed width) s [.hep .LINK_STATUS_SPEED, .hep .LINK_STATUS_WIDTH, .hep .LINK_CNT_RETRAIN] [] (fun t =>
        t.rd (.hep .LINK_STATUS_SPEED) = speed + 1 ∧ t.rd (.hep .LINK_STATUS_WIDTH) = 2 ^ width.val ∧
        Counts s.dev t (.hep .LINK_CNT_RETRAIN)) ∧
      Completes .hostLinkDown s (fun t => t.rd (.hep .LINK_STATUS_DL_UP) = 0 ∧ Counts s.dev t (.hep .LINK_CNT_DOWN) ∧ t.hep.tags = []) ∧
      (s.dev.hep.tags = [] → s.dev.rd (.cs 0 .SRIOV_VFE) = 0 →
        Completes .hostLinkDown s (fun t => (∀ x ∈ linkRegs, t.rd x = Regs.get [] x) ∧ CfgAtReset t 0 ∧ CfgAtReset t 1 ∧
          KeptBeside s.dev t (linkRegs ++ ([.hep .LINK_CNT_DOWN, .hep .PF1_IPEND_SENT, .hep (.ERR_CNT_COUNT 7)] : List Fld) ++ errRegs) [0, 1] ∧
          PartsKept s.dev t [.hep, .irqs, .toSafe] ∧
          (s.dev.hep.hotReset = false ∧ s.dev.hep.turnOff = false → Counts s.dev t (.hep (.ERR_CNT_COUNT 7)) ∧
            (t.rd (.hep .CTN_LOG_TRIGGERS)).testBit 5 = true ∧ t.rd (.hep .CTN_STATUS_STATE) = 1) ∧
          (s.dev.hep.hotReset = true ∨ s.dev.hep.turnOff = true →
            t.rd (.hep (.ERR_CNT_COUNT 7)) = s.dev.rd (.hep (.ERR_CNT_COUNT 7)) ∧
            t.rd (.hep .CTN_STATUS_STATE) = s.dev.rd (.hep .CTN_STATUS_STATE))) ∧
        Completes .hotReset s (fun t => CfgAtReset t 0 ∧ CfgAtReset t 1 ∧ t.hep.hotReset = true ∧ KeptBeside s.dev t [] [0, 1] ∧
          PartsKept s.dev t [.hep])) ∧
      Effect .pmeTurnOff s [] [.out, .hep] (fun t => t.out = s.dev.out ++ ([.pmeAck] : List Outbound) ∧ t.hep.turnOff = true) ∧
      (s.dev.hep.l1 = false → (s.dev.rd (.cs 0 .LC_ASPM)).testBit 1 = true → s.dev.rd (.pwr .STATUS_STATE) ≠ 0 →
        Effect .aspmL1Entry s [] (.hep :: timeParts) (fun t => t.hep = { s.dev.hep with l1 := true } ∧ t.now = s.dev.now + 8000)) ∧
      (s.dev.rd (.cs 0 .DC2_LTR) ≠ 0 → s.dev.hep.ltrSent ≠ some s.dev.ltrNow →
        Effect .ltrMessage s [] (.out :: .hep :: timeParts) (fun t =>
          t.out = s.dev.out ++ ([.ltr s.dev.ltrNow.1 s.dev.ltrNow.2] : List Outbound) ∧ t.hep.ltrSent = some s.dev.ltrNow ∧ t.hep.ltrAt = some t.now ∧
          ∀ x, s.dev.hep.ltrAt = some x → x + 50000 ≤ t.now)))

/-- Functions.  VF_ENABLE creates the virtual functions with their reset values, VF_DISABLE resets and removes them; FUNCTION_LEVEL_RESET returns the
configuration registers to reset, writes off the function's reads, disables its rings and channels and sets FLR_BUSY, which FLR_COMPLETE clears;
BUS_MASTER_ENABLE_WRITE and POWER_STATE_WRITE write their bit, D3hot of PF1 being refused and counted while the monitor is armed; a request to a
function that does not exist is answered UR (R354, R372, R374, R375, R385). -/
def Obligations.FunctionsAndTheirResets : Prop :=
  ∀ (s : State) (f : Fin 50), Awake s →
    (s.dev.rd (.cs 0 .SRIOV_VFE) = 0 →
      Completes .vfEnable s (fun t => Replied s.dev t 0 ∧ t.rd (.cs 0 .SRIOV_VFE) = 1 ∧
        (∀ g c, 2 ≤ g → t.rd (.cs g c) = Regs.get [] (.cs g c)) ∧
        (∀ x, x ≠ .cs 0 .SRIOV_VFE → isCount x = false → (∀ g c, x = .cs g c → g < 2) → t.rd x = s.dev.rd x) ∧
        PartsKept s.dev t [.out]) ∧
      Effect .vfDisable s [] [.out] (fun t => Replied s.dev t 0)) ∧
    (s.dev.rd (.cs 0 .SRIOV_VFE) ≠ 0 →
      Effect .vfEnable s [] [.out] (fun t => Replied s.dev t 0) ∧
      Completes .vfDisable s (fun t => t.rd (.cs 0 .SRIOV_VFE) = 0 ∧
        ∀ n < s.dev.rd (.cs 0 .SRIOV_NUMVFS), t.rd (.hep (.FN_STATUS_FLR_BUSY (2 + n))) = 1)) ∧
    (s.dev.fnExists f = true →
      Completes (.functionLevelReset f) s (fun t => t.rd (.hep (.FN_STATUS_FLR_BUSY f)) = 1 ∧ CfgAtReset t f ∧
        (∀ g ∈ t.hep.tags, g.f = f.val → g.st ≠ .out) ∧
        (∀ n : Fin 256, s.dev.rd (.rng (.SQ_ASSIGN_VALID n)) ≠ 0 → s.dev.sqFunc n = f.val → t.sqState n = 0 ∧
          t.rd (.rng (.SQ_CTRL_EN n)) = 0) ∧
        (∀ c : Fin 96, s.dev.rd (.dma (.LL_CFG_FUNC c)) = f.val → t.llState c = 0 ∧ t.ll c = {})) ∧
      (∀ v : Bool, Completes (.busMasterEnableWrite f v) s (fun t => t.rd (.cs f .CMD_BME) = b2n v)) ∧
      Effect (.busMasterEnableWrite f false) s [.cs f .CMD_BME] [.out] (fun t => Replied s.dev t 0 ∧ t.rd (.cs f .CMD_BME) = 0)) ∧
    (s.dev.fnExists f = false → ∀ c : Sys2Proof.Instr, c ∈ [.functionLevelReset f, .busMasterEnableWrite f true, .busMasterEnableWrite f false] →
      Effect c s errRegs errParts (fun t => UeLogged s.dev t f 20 ∧ ∃ l, t.out = s.dev.out ++ l ++ ([.readData 0 0 1 false] : List Outbound))) ∧
    Effect (.flrComplete f) s [.hep (.FN_STATUS_FLR_BUSY f)] [] (fun t => t.rd (.hep (.FN_STATUS_FLR_BUSY f)) = 0) ∧
    (∀ g : Fin 2,
      Completes (.powerStateWrite g 0) s (fun t => t.rd (.cs g .PM_STATE) = 0) ∧
      Effect (.powerStateWrite g 1) s [] [.out] (fun t => Replied s.dev t 0) ∧
      Effect (.powerStateWrite g 2) s [] [.out] (fun t => Replied s.dev t 0) ∧
      (g = 0 ∨ s.dev.armed = false →
        Effect (.powerStateWrite g 3) s [.cs g .PM_STATE] [.out] (fun t => Replied s.dev t 0 ∧ t.rd (.cs g .PM_STATE) = 3)) ∧
      (g = 1 → s.dev.armed = true →
        Effect (.powerStateWrite g 3) s [.hep .IRQ_DROP_PF1_D3_REFUSED] [.out] (fun t => Replied s.dev t 0 ∧
          Counts s.dev t (.hep .IRQ_DROP_PF1_D3_REFUSED))))

/-- Interrupts.  MSIX_REQUEST of the oldest request: PF1's sets RING, a VF's beyond vector 3 is dropped and counted, PF0's without MSI-X sets its
pending bit; else the message leaves, or the pending bit of a blocked vector is set, for which MSIX_UNBLOCK sends one message when the vector is
unblocked.  INTX_MESSAGE brings a wire's level to the host when it differs from the level last sent (R365 to R370). -/
def Obligations.Interrupts : Prop :=
  ∀ (s : State) (f v : Nat) (rest : List (Nat × Nat)), s.held = false → v < 64 → f < 50 →
    (s.dev.irqs = (f, v) :: rest →
      (s.dev.fnExists f = false → Effect .msixRequest s [] [.irqs] (fun t => t.irqs = rest)) ∧
      (f = 1 → Effect .msixRequest s [.hep .PF1_IPEND_RING] [.irqs] (fun t => t.irqs = rest ∧ t.rd (.hep .PF1_IPEND_RING) = 1)) ∧
      (s.dev.fnExists f = true → 2 ≤ f → 4 ≤ v →
        Effect .msixRequest s [.hep .IRQ_DROP_VF_VECTOR] [.irqs] (fun t => t.irqs = rest ∧ Counts s.dev t (.hep .IRQ_DROP_VF_VECTOR))) ∧
      (f = 0 → s.dev.rd (.cs 0 .MSIX_EN) = 0 →
        Effect .msixRequest s [.hep .PF0_IPEND_PEND] [.irqs] (fun t => t.irqs = rest ∧
          t.rd (.hep .PF0_IPEND_PEND) = setBit (s.dev.rd (.hep .PF0_IPEND_PEND)) v)) ∧
      (s.dev.fnExists f = true → f ≠ 1 → (2 ≤ f → v < 4) → (f = 0 → s.dev.rd (.cs 0 .MSIX_EN) ≠ 0) →
        (s.dev.vecBlocked f v = true →
          Effect .msixRequest s [.pba f] [.irqs] (fun t => t.irqs = rest ∧ t.rd (.pba f) = setBit (s.dev.rd (.pba f)) v)) ∧
        (s.dev.vecBlocked f v = false → (s.dev.rd (.pba f)).testBit v = false →
          Effect .msixRequest s [] [.irqs, .out, .hep] (fun t => t.irqs = rest ∧ t.out = s.dev.out ++ ([msixMsg s.dev f v] : List Outbound))))) ∧
    (∀ (g : Fin 50) (w : Fin 64),
      ((s.dev.rd (.pba g)).testBit w = true → s.dev.vecBlocked g w = false →
        Effect (.msixUnblock g w) s [.pba g] [.out, .hep] (fun t => t.out = s.dev.out ++ ([msixMsg s.dev g w] : List Outbound) ∧
          (t.rd (.pba g)).testBit w = false)) ∧
      ((s.dev.rd (.pba g)).testBit w = false ∨ s.dev.vecBlocked g w = true → Effect (.msixUnblock g w) s [] [] (fun _ => True))) ∧
    (∀ w : Fin 2,
      (s.dev.rd (.hep .LINK_STATUS_DL_UP) ≠ 0 → s.dev.frozen = false → s.dev.sent w ≠ s.dev.wireLevel w →
        Effect (.intxMessage w) s [.hep .PF1_IPEND_SENT] [.out, .hep] (fun t =>
          t.out = s.dev.out ++ ([.intx (s.dev.wireLevel w) w] : List Outbound) ∧ t.sent w = s.dev.wireLevel w ∧
          ∀ u : Fin 2, u ≠ w → t.sent u = s.dev.sent u)) ∧
      (s.dev.rd (.hep .LINK_STATUS_DL_UP) = 0 ∨ s.dev.frozen = true ∨ s.dev.sent w = s.dev.wireLevel w →
        Effect (.intxMessage w) s [] [] (fun _ => True)))

/-- Errors of the host link.  HOST_LINK_ERROR sets the AER bit of its kind in PF0 and PF1; INBOUND_UNSUPPORTED answers a non-posted request with UR
and discards and counts a posted one; POISONED_WRITE_RX discards the write, logged and counted; COMPLETION_TIMEOUT logs it, ends the transfer
BAD_TIMEOUT and quarantines the tag (R380, R382, R385, R386, R390, R392). -/
def Sys2Proof.Claims.HostLinkErrors : Prop :=
  ∀ (s : State) (f : Fin 50), s.held = false →
    (∀ (kind : Fin 11) (g : Fin 2),
      (kind < 6 → Effect (.hostLinkError kind) s errRegs errParts (fun t => t.rd (.cs g .DS_CED) = 1 ∧
        (t.rd (.cs g .AER_CE_STS)).testBit ([0, 6, 7, 8, 12, 14].getD kind 0) = true)) ∧
      (6 ≤ kind → Effect (.hostLinkError kind) s errRegs errParts (fun t =>
        (t.rd (.cs g .AER_UE_STS)).testBit ([4, 13, 17, 18, 22].getD (kind - 6) 0) = true))) ∧
    (∀ kind : Fin 9,
      (kind ∈ [2, 3, 4, 5] ∨ (kind = 0 ∧ s.dev.memClosed f = true) →
        Effect (.inboundUnsupported kind f) s errRegs errParts (fun t => UeLogged s.dev t f 20 ∧
          ∃ l, t.out = s.dev.out ++ l ++ ([.readData 0 0 1 false] : List Outbound))) ∧
      (kind = 6 ∨ (kind = 1 ∧ s.dev.memClosed f = true) →
        Effect (.inboundUnsupported kind f) s (.hep (.ERR_CNT_COUNT 8) :: errRegs) errParts (fun t => UeLogged s.dev t f 20 ∧
          Counts s.dev t (.hep (.ERR_CNT_COUNT 8)))) ∧
      (kind = 7 →
        Effect (.inboundUnsupported kind f) s [.hep (.ERR_CNT_COUNT 8)] [] (fun t => Counts s.dev t (.hep (.ERR_CNT_COUNT 8)))) ∧
      (kind = 8 →
        Effect (.inboundUnsupported kind f) s errRegs errParts (fun t => UeLogged s.dev t f 12 ∧
          ∃ l, t.out = s.dev.out ++ l ++ ([.readData 0 0 1 false] : List Outbound))) ∧
      ((kind = 0 ∨ kind = 1) → s.dev.memClosed f = false → Effect (.inboundUnsupported kind f) s [] [] (fun _ => True))) ∧
    Effect (.poisonedWriteRx f) s (([.hep (.ERR_CNT_COUNT 3), .hep (.ERR_CNT_COUNT 8)] : List Fld) ++ errRegs) errParts (fun t =>
      UeLogged s.dev t f 12 ∧ Counts s.dev t (.hep (.ERR_CNT_COUNT 3)) ∧ Counts s.dev t (.hep (.ERR_CNT_COUNT 8))) ∧
    (∀ (g : Tag) (c : Fin 96) v, s.dev.hep.tags = [g] → g.st = .out → g.client = .flush c → (s.dev.ll c).x = some v → v.bad = none →
      (∀ rp : Fin 2, (s.dev.rp rp).inb = []) →
      Completes .completionTimeout s (fun t => t.now = max s.dev.now g.expiry ∧ Counts s.dev t (.hep (.ERR_CNT_COUNT 6)) ∧
        (t.rd (.cs (aerOwner g.f) .AER_UE_STS)).testBit 14 = true ∧ t.hep.tags.map (fun x => (x.tag, x.f, x.st)) = [(g.tag, g.f, .timed)] ∧
        ((t.ll c).x).map (·.bad) = some (some (0x81, g.addr))))

/-- Containment.  CTN_FREEZE presents the SOFTWARE trigger: a port in RUN or RELEASING is FROZEN, with its cause, the next sequence number and the
event, a FROZEN one records the trigger alone.  CTN_RELEASE without GO does nothing; refused, it leaves the code of the first failing check and
is counted; else the port is RELEASING, and CTN_RELEASE_COMPLETE brings it to RUN (R398, R404 to R406). -/
def Sys2Proof.Claims.Containment : Prop :=
  ∀ (s : State) (seq : BitVec 16) (code : Nat),
    (Awake s →
      (s.dev.frozen = false →
        Effect .ctnFreeze s [.hep .CTN_LOG_TRIGGERS, .hep .CTN_STATUS_CAUSE, .hep .CTN_STATUS_SEQ, .hep .CTN_TICK_TICK,
            .hep .CTN_STATUS_STATE, .hep .CTN_EVT_ENTERED, .hep .PF1_IPEND_CTN] [.out, .irqs, .toSafe] (fun t =>
          t.rd (.hep .CTN_STATUS_STATE) = 1 ∧ t.rd (.hep .CTN_STATUS_CAUSE) = 7 ∧
          t.rd (.hep .CTN_STATUS_SEQ) = nextSeq (s.dev.rd (.hep .CTN_STATUS_SEQ)) ∧
          t.rd (.hep .CTN_TICK_TICK) = s.dev.tick.coreTick % 2 ^ 32 ∧ (t.rd (.hep .CTN_LOG_TRIGGERS)).testBit 6 = true ∧
          t.rd (.hep .CTN_EVT_ENTERED) = 1 ∧ t.rd (.hep .PF1_IPEND_CTN) = 1 ∧ t.toSafe = s.dev.toSafe ++ ([⟨true, 1, 0⟩] : List Report) ∧
          Replied s.dev t 0)) ∧
      (s.dev.frozen = true →
        Effect .ctnFreeze s [.hep .CTN_LOG_TRIGGERS] [.out] (fun t => (t.rd (.hep .CTN_LOG_TRIGGERS)).testBit 6 = true ∧
          Replied s.dev t 0)) ∧
      Effect (.ctnRelease false seq) s [] [.out] (fun t => Replied s.dev t 0) ∧
      (code = (if s.dev.rd (.hep .CTN_STATUS_STATE) ≠ 1 then 1 else if seq.toNat ≠ s.dev.rd (.hep .CTN_STATUS_SEQ) then 2
          else if s.dev.rd (.hep .LINK_STATUS_DL_UP) = 0 then 3
          else if s.dev.rd (.hep .CTN_CTRL_TRIG_QUAR) ≠ 0 ∧ s.dev.rd (.hep .CTN_CTRL_QUAR_LIMIT) ≤ s.dev.quarantined then 4 else 0) →
        (code ≠ 0 →
          Effect (.ctnRelease true seq) s [.hep .CTN_RESULT_LAST, .hep .CTN_RESULT_REFUSED] [.out] (fun t => Replied s.dev t 0 ∧
            t.rd (.hep .CTN_RESULT_LAST) = code ∧ Counts s.dev t (.hep .CTN_RESULT_REFUSED))) ∧
        (code = 0 →
          Completes (.ctnRelease true seq) s (fun t => t.rd (.hep .CTN_STATUS_STATE) = 2 ∧ t.rd (.hep .CTN_RESULT_LAST) = 0) ∧
          (s.dev.due = [] → (∀ n : Fin 256, (s.dev.sq n).lag = false) →
            Effect (.ctnRelease true seq) s [.hep .CTN_RESULT_LAST, .hep .CTN_STATUS_STATE] [.out] (fun t => Replied s.dev t 0))))) ∧
    (s.held = false → s.dev.rd (.hep .CTN_STATUS_STATE) = 2 →
      Completes .ctnReleaseComplete s (fun t => t.rd (.hep .CTN_STATUS_STATE) = 0 ∧ t.rd (.hep .CTN_EVT_RELEASED) = 1 ∧
        t.rd (.hep .PF1_IPEND_CTN) = 1 ∧ t.rd (.hep .CTN_STATUS_SEQ) = s.dev.rd (.hep .CTN_STATUS_SEQ)))

/-- Host link errors and host-port containment: HostLinkErrors, Containment. -/
def Obligations.HostLinkErrorsAndContainment : Prop :=
  HostLinkErrors ∧ Containment

/-- The links of the root ports.  RP_PERST_WRITE asserts PERST_N, the port in RESET, or asks for its release, which RP_PERST_RELEASE grants 100 µs
after REFCLK; RP_LINK_UP at a speed within MAX_SPEED brings a training port UP; RP_LINK_DOWN under PERST is orderly, else a surprise removal
presented; RP_LINK_ERROR, MODEM_ERR_MESSAGE and RP_CTN_FREEZE present their triggers; RP_CLKREQ_N_CHANGE switches the reference clock;
RP_VENDOR_DEFINED_MESSAGE is discarded and counted (R407, R408, R424, R426). -/
def Obligations.RootPortLinks : Prop :=
  ∀ (s : State) (rp : Fin 2) (r : Rp), s.held = false → r = s.dev.rp rp →
    (s.dev.rd (.pwr .STATUS_STATE) < 2 →
      (s.dev.apWait = [] →
        Effect (.rpPerstWrite rp true) s [.brg (.RP_CTRL_PERST rp), .brg (.RP_STATUS_STATE rp)] [.rps, .out] (fun t =>
          t.rd (.brg (.RP_CTRL_PERST rp)) = 1 ∧ t.rpState rp = (if s.dev.rpState rp = 3 then 3 else 0) ∧
          t.rp rp = { r with perstPend := false, perstN := false, fabUp := false, pf := [] } ∧
          t.out = s.dev.out ++ ([.rpPerst rp false] : List Outbound))) ∧
      Effect (.rpPerstWrite rp false) s [.brg (.RP_CTRL_PERST rp)] [.rps] (fun t => t.rd (.brg (.RP_CTRL_PERST rp)) = 0 ∧
        t.rp rp = (if r.perstN then r else { r with perstPend := true })) ∧
      Effect (.rpCtnFreeze rp) s (rpCtnRegs rp) [.rps] (fun t => RpTriggered s.dev t rp 6)) ∧
    (r.perstPend = true →
      Effect (.rpPerstRelease rp) s [.brg (.RP_STATUS_STATE rp)] (.rps :: .out :: timeParts) (fun t =>
        t.now = max s.dev.now (r.refclkAt + 100000) ∧ t.rp rp = { r with perstPend := false, perstN := true } ∧
        t.rpState rp = (if s.dev.rpState rp = 3 then 3 else 1) ∧ t.out = s.dev.out ++ ([.rpPerst rp true] : List Outbound))) ∧
    (∀ speed : Fin 4, r.perstN = true → r.dlUp = false → speed ≠ 0 → speed.val ≤ s.dev.rd (.brg (.RP_CTRL_MAX_SPEED rp)) →
      Effect (.rpLinkUp rp speed) s [.brg (.RP_STATUS_SPEED rp), .brg (.RP_STATUS_STATE rp)] [.rps] (fun t =>
        t.rd (.brg (.RP_STATUS_SPEED rp)) = speed ∧
        t.rp rp = { r with
          dlUp := true, fabUp := if s.dev.rpState rp = 1 then true else r.fabUp } ∧
        t.rpState rp = (if s.dev.rpState rp = 1 then 2 else s.dev.rpState rp))) ∧
    (r.dlUp = true →
      (s.dev.rd (.brg (.RP_CTRL_PERST rp)) ≠ 0 →
        Effect (.rpLinkDown rp) s [.brg (.RP_STATUS_SPEED rp)] [.rps] (fun t => t.rd (.brg (.RP_STATUS_SPEED rp)) = 0 ∧
          t.rp rp = { r with dlUp := false, pf := [], tags := r.tags.filter (fun g => !g.quarantined) })) ∧
      (s.dev.rd (.brg (.RP_CTRL_PERST rp)) = 0 →
        Completes (.rpLinkDown rp) s (fun t => (t.rp rp).dlUp = false ∧ (t.rp rp).tags = [] ∧ RpTriggered s.dev t rp 1) ∧
        (r.tags = [] →
          Effect (.rpLinkDown rp) s (.brg (.RP_STATUS_SPEED rp) :: rpCtnRegs rp) [.rps] (fun t =>
            t.rd (.brg (.RP_STATUS_SPEED rp)) = 0))) ∧
      Effect (.rpLinkError rp) s (rpCtnRegs rp) [.rps] (fun t => RpTriggered s.dev t rp 3) ∧
      Effect (.modemErrMessage rp 2) s (rpCtnRegs rp) [.rps] (fun t => RpTriggered s.dev t rp 2) ∧
      Effect (.modemErrMessage rp 1) s [] [] (fun _ => True) ∧ Effect (.modemErrMessage rp 0) s [] [] (fun _ => True) ∧
      Effect (.rpVendorDefinedMessage rp) s [.brg (.RP_CNT_COUNT rp 9)] [] (fun t => Counts s.dev t (.brg (.RP_CNT_COUNT rp 9)))) ∧
    (∀ low : Bool, Effect (.rpClkreqNChange rp low) s [] [.rps, .out] (fun t => t.rp rp = { r with clkreqLow := low } ∧
      t.out = s.dev.out ++ (if t.refclkOn rp = s.dev.refclkOn rp then [] else [.rpRefclk rp (t.refclkOn rp)])))

/-- Containment of a root port and its keepalive.  RP_CONTAINMENT_ARRIVAL discards and counts the bridge queue and drops the prefetched lines;
RP_CTN_RELEASE leaves the code of the first failing check, or CONTAINED for UP, TRAINING or RESET; KEEPALIVE_EXPIRY after LIMIT ticks declares the
path dead, KEEPALIVE_REARM and a LIMIT of 0 clear it (R427, R429, R431, R432). -/
def Obligations.RootPortContainmentAndKeepalive : Prop :=
  ∀ (s : State) (rp : Fin 2) (r : Rp) (seq limit : BitVec 16) (code : Nat), s.held = false → r = s.dev.rp rp →
    (r.ctnPend = true → s.dev.apWait = [] →
      Effect (.rpContainmentArrival rp) s [.brg (.RP_CNT_COUNT rp 7), .brg (.RP_STATUS_CTN_CHG rp)] [.rps, .used, .irqs] (fun t =>
        t.rp rp = { r with ctnPend := false, fabUp := false, queue := [], pf := [] } ∧ t.rd (.brg (.RP_STATUS_CTN_CHG rp)) = 1 ∧
        Counts s.dev t (.brg (.RP_CNT_COUNT rp 7)) r.queue.length ∧
        ∀ e ∈ r.queue, ∀ l ∈ e.frame.lines, l ∉ t.used)) ∧
    (s.dev.rd (.pwr .STATUS_STATE) < 2 →
      Effect (.rpCtnRelease rp false seq) s [] [] (fun _ => True) ∧
      (code = (if s.dev.rpState rp ≠ 3 then 1 else if seq.toNat ≠ s.dev.rd (.brg (.RP_CTN_STATUS_SEQ rp)) then 2
          else if r.dlUp = true ∧ (∃ g ∈ r.tags, g.quarantined = true) then 3 else 0) →
        (code ≠ 0 →
          Effect (.rpCtnRelease rp true seq) s [.brg (.RP_CTN_STATUS_RESULT rp)] [] (fun t =>
            t.rd (.brg (.RP_CTN_STATUS_RESULT rp)) = code)) ∧
        (code = 0 →
          Effect (.rpCtnRelease rp true seq) s [.brg (.RP_CTN_STATUS_RESULT rp), .brg (.RP_STATUS_STATE rp), .brg (.RP_STATUS_CTN_CHG rp)]
            [.rps, .irqs] (fun t => t.rd (.brg (.RP_CTN_STATUS_RESULT rp)) = 0 ∧ t.rd (.brg (.RP_STATUS_CTN_CHG rp)) = 1 ∧
              t.rpState rp = (if r.dlUp then 2 else if s.dev.rd (.brg (.RP_CTRL_PERST rp)) ≠ 0 then 0 else 1) ∧
              t.rp rp = { r with ctnPend := false, fabUp := r.dlUp }))) ∧
      Effect (.keepaliveRearm rp) s [.brg (.KA_STATUS_PATH_DEAD rp), .brg (.KA_LAST_LAST rp)] [.rps] (fun t =>
        t.rd (.brg (.KA_STATUS_PATH_DEAD rp)) = 0 ∧ t.rd (.brg (.KA_LAST_LAST rp)) = s.dev.tick.fabTick % 2 ^ 32 ∧
        t.rp rp = { r with kaLast := s.dev.tick.fabTick }) ∧
      Effect (.keepaliveLimitWrite rp limit) s [.brg (.KA_LIMIT_LIMIT rp), .brg (.KA_STATUS_PATH_DEAD rp)] [] (fun t =>
        t.rd (.brg (.KA_LIMIT_LIMIT rp)) = limit.toNat ∧
        t.rd (.brg (.KA_STATUS_PATH_DEAD rp)) = if limit = 0 then 0 else s.dev.rd (.brg (.KA_STATUS_PATH_DEAD rp)))) ∧
    (∀ lim, lim = s.dev.rd (.brg (.KA_LIMIT_LIMIT rp)) → lim ≠ 0 → s.dev.rd (.brg (.KA_STATUS_PATH_DEAD rp)) = 0 →
      (lim ≤ s.dev.tick.fabTick - r.kaLast →
        Effect (.keepaliveExpiry rp) s [.brg (.KA_STATUS_PATH_DEAD rp), .brg (.KA_STATUS_EXP_TICK rp), .brg (.RP_CNT_COUNT rp 8)] [.irqs]
          (fun t => t.rd (.brg (.KA_STATUS_PATH_DEAD rp)) = 1 ∧ t.rd (.brg (.KA_STATUS_EXP_TICK rp)) = s.dev.tick.fabTick % 2 ^ 16 ∧
            Counts s.dev t (.brg (.RP_CNT_COUNT rp 8)))) ∧
      (s.dev.tick.fabTick - r.kaLast < lim → Effect (.keepaliveExpiry rp) s [] [] (fun _ => True)))

/-- Accesses of the host to the modems.  A configuration access while one is in progress is counted, a read answered with ones; else it is issued and
CFG_BUSY set until its completion, RP_CFG_COMPLETION.  An aperture access outside its window is counted, a read answered 0; a read through a port
that is not UP is answered with ones; else APERTURE_WRITE writes, APERTURE_READ of a PLAIN window asks the modem for exactly its bytes; during
containment of the host port both wait (R17, R409, R410, R412, R419, R423, R433). -/
def Obligations.ModemAccesses : Prop :=
  ∀ (s : State) (rp : Fin 2) (data : BitVec 32), s.held = false →
    (Awake s →
      (s.dev.rd (.brg (.RP_STATUS_CFG_BUSY rp)) ≠ 0 →
        Effect (.rpCfgRead rp) s [.brg (.RP_CNT_COUNT rp 0), .brg (.RP_STATUS_CFG_ERR rp)] [.out] (fun t =>
          Counts s.dev t (.brg (.RP_CNT_COUNT rp 0)) ∧ t.rd (.brg (.RP_STATUS_CFG_ERR rp)) = 1 ∧ Answered s.dev t 0xFFFFFFFF 4) ∧
        Effect (.rpCfgWrite rp data) s [.brg (.RP_CNT_COUNT rp 0)] [] (fun t => Counts s.dev t (.brg (.RP_CNT_COUNT rp 0)))) ∧
      (∀ tag, s.dev.rd (.brg (.RP_STATUS_CFG_BUSY rp)) = 0 → s.dev.apWait = [] → s.dev.rpUp rp = true → s.dev.rpTag rp = some tag →
        Effect (.rpCfgRead rp) s [.brg (.RP_STATUS_CFG_BUSY rp)] [.rps, .out] (fun t => t.rd (.brg (.RP_STATUS_CFG_BUSY rp)) = 1 ∧
          t.out = s.dev.out ++ ([.modemCfg rp false (s.dev.rd (.brg (.RP_CFG_ADDR_FN rp))) (s.dev.rd (.brg (.RP_CFG_ADDR_REG rp))) 15 0] : List Outbound) ∧
          (t.rp rp).tags.map (·.tag) = (s.dev.rp rp).tags.map (·.tag) ++ [tag]) ∧
        Effect (.rpCfgWrite rp data) s [.brg (.RP_STATUS_CFG_BUSY rp)] [.rps, .out] (fun t =>
          t.rd (.brg (.RP_STATUS_CFG_BUSY rp)) = 1 ∧
          t.out = s.dev.out ++ ([.modemCfg rp true (s.dev.rd (.brg (.RP_CFG_ADDR_FN rp))) (s.dev.rd (.brg (.RP_CFG_ADDR_REG rp)))
            (s.dev.rd (.brg (.RP_CFG_ADDR_BE rp))) data.toNat] : List Outbound) ∧
          (t.rp rp).tags.map (·.tag) = (s.dev.rp rp).tags.map (·.tag) ++ [tag])) ∧
      (∀ (w : Fin 8) (n : Fin 8192) (wide : Bool) (value : BitVec 64) (k : Nat), k = (if wide then 8 else 4) → s.dev.apWait = [] →
        (n.val % k ≠ 0 → Effect (.apertureWrite rp w n wide value) s [] [] (fun _ => True)) ∧
        (s.dev.frozen = true →
          Effect (.apertureRead rp w n wide) s [] [.apWait] (fun t => t.apWait.length = 1) ∧
          (n.val % k = 0 → Effect (.apertureWrite rp w n wide value) s [] [.apWait] (fun t => t.apWait.length = 1))) ∧
        (s.dev.frozen = false →
          (¬ ApInside s.dev rp w n k →
            Effect (.apertureRead rp w n wide) s [.sys .ACCESS_ERR_HOLE_CNT] [.out] (fun t =>
              Counts s.dev t (.sys .ACCESS_ERR_HOLE_CNT) ∧ Answered s.dev t 0 k) ∧
            (n.val % k = 0 → Effect (.apertureWrite rp w n wide value) s [.sys .ACCESS_ERR_HOLE_CNT] [] (fun t =>
              Counts s.dev t (.sys .ACCESS_ERR_HOLE_CNT)))) ∧
          (ApInside s.dev rp w n k → s.dev.rpUp rp = false →
            Effect (.apertureRead rp w n wide) s [] [.out, .irqs] (fun t => Answered s.dev t (2 ^ (8 * k) - 1) k)) ∧
          (ApInside s.dev rp w n k → RpUp s.dev rp →
            (n.val % k = 0 → Effect (.apertureWrite rp w n wide value) s [] [.rps, .out] (fun t =>
              t.out = s.dev.out ++ ([.modemWrite rp (apAddr s.dev rp w n) (leBytes k value.toNat) false] : List Outbound) ∧ (t.rp rp).pf = [])) ∧
            (∀ tag, s.dev.winAttr rp w = 0 → (s.dev.rp rp).pf = [] → s.dev.rpTag rp = some tag → n.val % 4096 + k ≤ 4096 →
              Effect (.apertureRead rp w n wide) s [] [.rps, .out] (fun t =>
                t.out = s.dev.out ++ ([.modemRead rp (apAddr s.dev rp w n) k tag] : List Outbound))))))) ∧
    (∀ t status, (s.dev.rp rp).dlUp = true → RpQuiet s.dev rp →
      (s.dev.rp rp).tags.find? (fun g => !g.quarantined && (g.client = .cfgRead || g.client = .cfgWrite)) = some t →
      (status = 0 → t.client = .cfgRead →
        Effect (.rpCfgCompletion rp status data) s [.brg (.RP_STATUS_CFG_BUSY rp)] [.rps, .out] (fun u =>
          u.rd (.brg (.RP_STATUS_CFG_BUSY rp)) = 0 ∧ Answered s.dev u data.toNat 4 ∧ (u.rp rp).tags = rpTagsWithout s.dev rp t)) ∧
      (status = 0 → t.client = .cfgWrite →
        Effect (.rpCfgCompletion rp status data) s [.brg (.RP_STATUS_CFG_BUSY rp)] [.rps] (fun u =>
          u.rd (.brg (.RP_STATUS_CFG_BUSY rp)) = 0 ∧ (u.rp rp).tags = rpTagsWithout s.dev rp t)) ∧
      (status ≠ 0 → t.client = .cfgRead →
        Effect (.rpCfgCompletion rp status data) s (([.brg (.RP_STATUS_CFG_BUSY rp), .brg (.RP_STATUS_CFG_ERR rp)] : List Fld) ++ rpErrRegs rp 4)
          [.rps, .out, .dma, .irqs] (fun u => u.rd (.brg (.RP_STATUS_CFG_BUSY rp)) = 0 ∧ u.rd (.brg (.RP_STATUS_CFG_ERR rp)) = 1 ∧
            Counts s.dev u (.brg (.RP_CNT_COUNT rp 4)) ∧ Answered s.dev u 0xFFFFFFFF 4 ∧ (u.rp rp).tags = rpTagsWithout s.dev rp t)))

/-- Downstream reads end.  RP_COMPLETION_RX: the final piece answers an aperture read, an earlier one waits; an error status is counted and recorded and
answered with ones; the final piece for a quarantined tag releases it, counted.  RP_COMPLETION_TIMEOUT counts and records it, answers ones and
quarantines the tag.  PREFETCH_LINE_EXPIRY discards a line 10 µs old (R391, R421 to R423, R426). -/
def Obligations.DownstreamReadsEnd : Prop :=
  ∀ (s : State) (rp : Fin 2), s.held = false →
    (∀ x, (s.dev.rp rp).pf = [x] →
      Effect (.prefetchLineExpiry rp) s [] (.rps :: timeParts) (fun t => t.now = max s.dev.now (x.filledAt + 10000) ∧ (t.rp rp).pf = [])) ∧
    ∀ (tag : Fin 32) (g : RpTag) (status : Fin 8) (count : Nat) (data : List Byte), (s.dev.rp rp).dlUp = true → RpQuiet s.dev rp →
    (s.dev.rp rp).tags.find? (fun x => x.tag = tag.val) = some g →
    (g.quarantined = true → status ≠ 0 ∨ count ≤ data.length →
      Effect (.rpCompletionRx rp tag status false count data) s [.brg (.RP_CNT_COUNT rp 3)] [.rps] (fun t =>
        Counts s.dev t (.brg (.RP_CNT_COUNT rp 3)) ∧ (t.rp rp).tags = rpTagsWithout s.dev rp g)) ∧
    (g.quarantined = false → g.client = .aperture →
      (status = 0 → count = g.len - g.got.length → data ≠ [] → data.length < count →
        Effect (.rpCompletionRx rp tag status false count data) s [] [.rps] (fun t =>
          (t.rp rp).tags.find? (fun x => x.tag = tag.val) = some { g with got := g.got ++ clean data })) ∧
      (status = 0 → count = g.len - g.got.length → data ≠ [] → data.length = count → g.got = [] → g.wantOff = g.off → g.wantLen = g.len →
        s.dev.winAttr rp g.win ≠ 3 →
        Effect (.rpCompletionRx rp tag status false count data) s [] [.rps, .out] (fun t =>
          Answered s.dev t (ofLe data) g.len ∧ (t.rp rp).tags = rpTagsWithout s.dev rp g)) ∧
      (status ≠ 0 →
        Effect (.rpCompletionRx rp tag status false count data) s (rpErrRegs rp 4) [.rps, .out, .dma, .irqs] (fun t =>
          Counts s.dev t (.brg (.RP_CNT_COUNT rp 4)) ∧ t.rd (.brg (.RP_ERR_LOG_VALID rp)) = 1 ∧
          (s.dev.rd (.brg (.RP_ERR_LOG_VALID rp)) = 0 → t.rd (.brg (.RP_ERR_LOG_KIND rp)) = 4) ∧
          Answered s.dev t (2 ^ (8 * g.wantLen) - 1) g.wantLen ∧ (t.rp rp).tags = rpTagsWithout s.dev rp g)) ∧
      ((s.dev.rp rp).tags = [g] →
        Effect (.rpCompletionTimeout rp) s (rpErrRegs rp 5 ++ rpCtnRegs rp) (([.rps, .out, .dma, .irqs] : List Part) ++ timeParts) (fun t =>
          t.now = max s.dev.now g.expiry ∧ Counts s.dev t (.brg (.RP_CNT_COUNT rp 5)) ∧ RpTriggered s.dev t rp 4 ∧
          Answered s.dev t (2 ^ (8 * g.wantLen) - 1) g.wantLen ∧ (t.rp rp).tags.map (fun x => (x.tag, x.quarantined)) = [(g.tag, true)])))

/-- What the device writes to the modems and they send.  BRIDGE_FRAME_WRITE writes the oldest frame of a bridge queue and its doorbell and frees it;
MODEM_INBOUND_REQUEST outside every window is counted, a read answered UR; in a HOST window a write goes to the host and a read asks for it;
MODEM_MSI_WRITE in an MSI window sets its bit; MODEM_INTX_MESSAGE sets or clears INTX (R414, R415, R424, R425, R427). -/
def Obligations.ModemTraffic : Prop :=
  ∀ (s : State) (rp : Fin 2), s.held = false →
    (∀ e es bs, (s.dev.rp rp).queue = e :: es → RpUp s.dev rp → s.dev.marks = [] →
      s.dev.vatOk e.f (linesIn (e.frame.start % 64) e.frame.len) = true →
      bs = ((s.dev.readRun e.frame.lines).1.drop e.frame.start).take e.frame.len → (∀ a, e.bell = some a → a % 4096 ≤ 4092) →
      Effect (.bridgeFrameWrite rp) s [] [.rps, .out, .used] (fun t =>
        t.out = (s.dev.modemWriteBus rp e.addr (clean bs)).out ++
          (match e.bell with | some a => [.modemWrite rp a (leBytes 4 e.frame.len) false] | none => []) ∧
        (t.rp rp).queue = es ∧ t.used = s.dev.used.filter (fun l => !e.frame.lines.contains l))) ∧
    ((s.dev.rp rp).dlUp = true → (s.dev.rpState rp = 3 → (s.dev.rp rp).ctnPend = true) →
      (∀ (write : Bool) (addr : BitVec 64) (tag len n : Nat) (bytes : List Byte), n = (if write then bytes.length else len) →
        (s.dev.inbWindow rp addr.toNat n = none →
          Effect (.modemInboundRequest rp write false addr tag len bytes) s [.brg (.RP_CNT_COUNT rp 6)] [.out] (fun t =>
            Counts s.dev t (.brg (.RP_CNT_COUNT rp 6)) ∧
            t.out = s.dev.out ++ (if write then [] else [.modemCpl rp tag 1 [] false]))) ∧
        (∀ i f a, s.dev.inbWindow rp addr.toNat n = some i → s.dev.rd (.brg (.INB_CTRL_KIND rp i)) = 0 →
          f = s.dev.rd (.brg (.INB_CTRL_FUNC rp i)) → (s.dev.rp rp).inb = [] →
          a = s.dev.rd (.brg (.INB_HOST_ADDR_ADDR rp i)) * 4096 + (addr.toNat - s.dev.rd (.brg (.INB_BASE_ADDR rp i)) * 4096) →
          (write = true → s.dev.mayIssue f = true → s.dev.vatOk f (linesIn a n) = true →
            Effect (.modemInboundRequest rp write false addr tag len bytes) s [] [.out, .hep] (fun t =>
              t.out = (s.dev.hostWrite f a (clean bytes)).out)) ∧
          (∀ htag, write = false → 0 < n → n ≤ s.dev.mrrs f - a % s.dev.mrrs f → CanRead s.dev f a n htag →
            Effect (.modemInboundRequest rp write false addr tag len bytes) s [] readParts (fun t =>
              t.out = s.dev.out ++ ([.memRead f a n htag] : List Outbound))))) ∧
      (∀ (addr : BitVec 64) (data : BitVec 32) (i : Nat), s.dev.inbWindow rp addr.toNat 4 = some i →
        s.dev.rd (.brg (.INB_CTRL_KIND rp i)) ≠ 0 →
        Effect (.modemMsiWrite rp addr data) s [.brg (.RP_MSI_PEND_PEND rp)] [.irqs] (fun t =>
          t.rd (.brg (.RP_MSI_PEND_PEND rp)) = setBit (s.dev.rd (.brg (.RP_MSI_PEND_PEND rp))) (data.toNat % 32)))) ∧
    ((s.dev.rp rp).dlUp = true → ∀ a : Bool,
      Effect (.modemIntxMessage rp a) s [.brg (.RP_STATUS_INTX rp)] [.irqs] (fun t => t.rd (.brg (.RP_STATUS_INTX rp)) = b2n a))
/-- TIMEBASE_STEP, FREQ_ADJ_WRITE, TIMEBASE_READ, ANCHOR_PUBLISH, RX_TS_POP, TX_TS_POP, PTP_SAMPLE_WRITE and HOLDOVER_ENTRY: a step moves the
timebase by the signed seconds and nanoseconds, or is refused below 0; a written adjustment is clamped, or refused unless the source is LOCAL;
a read gives the seconds of the last clock edge and latches its nanoseconds; a pop gives the oldest record; a PTP sample drives the loop, or is
discarded; the loop without samples enters HOLDOVER on its integrator (R434 to R438, R441, R447 to R450). -/
def Obligations.TimebaseAndDiscipline : Prop :=
  ∀ (s : State) (p : Fin 4) (value : BitVec 32) (n : Int), Awake s →
    n = toSigned 16 (s.dev.rd (.tim .STEP_SEC_SEC)) * 1000000000 + toSigned 32 (s.dev.rd (.tim .STEP_NS_NS)) →
    (0 ≤ (s.dev.tb : Int) + n →
      Effect .timebaseStep s [.tim .STATUS_STEPPED, .tim (.CNT_COUNT 0)] [.time, .tim, .irqs] (fun t =>
        (t.tb : Int) = s.dev.tb + n ∧ t.now = s.dev.now ∧ t.rd (.tim .STATUS_STEPPED) = 1 ∧ Counts s.dev t (.tim (.CNT_COUNT 0)))) ∧
    ((s.dev.tb : Int) + n < 0 →
      Effect .timebaseStep s [.tim (.CNT_COUNT 1)] [] (fun t => Counts s.dev t (.tim (.CNT_COUNT 1)))) ∧
    (s.dev.rd (.tck .CTRL_SRC) ≠ 0 →
      Effect (.freqAdjWrite value) s [.tim (.CNT_COUNT 9)] [] (fun t => Counts s.dev t (.tim (.CNT_COUNT 9)))) ∧
    (s.dev.rd (.tck .CTRL_SRC) = 0 →
      Effect (.freqAdjWrite value) s [.tim .FREQ_ADJ_ADJ] [] (fun t =>
        t.rd (.tim .FREQ_ADJ_ADJ) = ofSigned 32 (max (-51200000) (min 51200000 value.toInt)))) ∧
    (∀ x : Nat, x ≤ s.dev.tb → s.dev.tb < x + 4 → ((x : Int) - s.dev.tim.steps) % 4 = 0 →
      Effect .timebaseRead s [.tim .NOW_NS_NS] [.out] (fun t =>
        t.out = s.dev.out ++ ([.readData (x / 1000000000 % 2 ^ 48) 8 0 false] : List Outbound) ∧ t.rd (.tim .NOW_NS_NS) = x % 1000000000)) ∧
    Effect .anchorPublish s [] [.tim] (fun t => t.tim = { s.dev.tim with skew := 0 }) ∧
    PopsStamp (.rxTsPop p) s p false Port.rxTs (fun x r => { x with rxTs := r }) ∧
    PopsStamp (.txTsPop p) s p true Port.txTs (fun x r => { x with txTs := r }) ∧
    (s.dev.rd (.tck .CTRL_SRC) ≠ 1 →
      Effect (.ptpSampleWrite value) s [.tim (.CNT_COUNT 7)] [] (fun t => Counts s.dev t (.tim (.CNT_COUNT 7)))) ∧
    (s.dev.rd (.tck .CTRL_SRC) = 1 →
      Effect (.ptpSampleWrite value) s sampleRegs [.time, .tim, .irqs] (fun t =>
        Sampled s.dev t value.toInt ∧ Follows s.dev t value.toInt ∧ t.tim.steer = false ∧ t.now = s.dev.now)) ∧
    (s.dev.loopState = 1 →
      Effect .holdoverEntry s [.tim .STATUS_STATE, .tck .STATUS_SRC_STATE, .tim .STATUS_LOCK_CHG, .tim .FREQ_ADJ_ADJ]
        (.tim :: .irqs :: timeParts) (fun t =>
          t.now = max s.dev.now (s.dev.tim.sampleAt + s.dev.rd (.tim .LOCK_LOSS) * 100000000) ∧ t.loopState = 2 ∧
          t.rd (.tck .STATUS_SRC_STATE) = 2 ∧
          t.rd (.tim .FREQ_ADJ_ADJ) = ofSigned 32 (max (-51200000) (min 51200000 (toSigned 32 (s.dev.rd (.tim .INTEG_I)))))))

/-- PPS_IN_EDGE, PPS_LOST_TIMEOUT, PPS_OUT_RISE, PPS_OUT_FALL and NMEA_SENTENCE, out of reset: an edge is valid when it is the first or comes
0.999 s to 1.001 s after the last valid one, and is captured, a sample when the source is PPS; a glitch or an edge off its window is counted;
1.5 s without one loses it, and the next is valid; the output pulse rises unless gated and lasts WIDTH ms; a sentence with a wrong checksum is counted bad, one that
names a second within 900 ms of a valid edge sets TIM_TOD and is compared with the edge's second (R443 to R447). -/
def Obligations.PpsAndTimeOfDay : Prop :=
  ∀ (s : State) (after : Nat), s.held = false →
    (s.dev.rd (.tim .PPS_CTRL_IN_EN) = 0 → Effect (.ppsInEdge after) s [] timeParts (fun t => t.now = s.dev.now + after / 2)) ∧
    (∀ (d : Dev) (u : Int), s.dev.rd (.tim .PPS_CTRL_IN_EN) ≠ 0 → d = s.dev.elapse (after / 2) →
      u = 2 * ((d.tb : Int) - d.tim.steps) + (after % 2 : Nat) →
      ((∀ x, d.tim.edge = some x → 1998000000 ≤ u - x ∧ u - x ≤ 2002000000) →
        (s.dev.rd (.tck .CTRL_SRC) = 0 ∨ (s.dev.rd (.tck .CTRL_SRC) = 1 ∧ s.dev.rd (.tim .CTRL_HOLD_PPS) = 0) →
          Effect (.ppsInEdge after) s capRegs (.tim :: timeParts) (fun t => Captured d t (after % 2) ∧ t.tim.edge = some u)) ∧
        (s.dev.rd (.tck .CTRL_SRC) = 2 →
          Effect (.ppsInEdge after) s (capRegs ++ sampleRegs) (.tim :: .irqs :: timeParts) (fun t => Captured d t (after % 2) ∧
            t.tim.edge = some u ∧ ∃ e : Int, PhaseOf t e ∧ Sampled d t e ∧ Follows d t e)) ∧
        (∀ bias : Int, s.dev.rd (.tck .CTRL_SRC) = 1 → s.dev.rd (.tim .CTRL_HOLD_PPS) ≠ 0 →
          bias = toSigned 32 (s.dev.rd (.tim .PPS_BIAS_BIAS)) →
          (s.dev.loopState = 1 →
            Effect (.ppsInEdge after) s (.tim .PPS_BIAS_BIAS :: capRegs) (.tim :: timeParts) (fun t => Captured d t (after % 2) ∧
              ∃ e b : Int, PhaseOf t e ∧ Nearest b (bias * 16 + (e - bias)) 16 ∧ t.rd (.tim .PPS_BIAS_BIAS) = ofSigned 32 b)) ∧
          (s.dev.loopState = 2 → d.tim.steer = true →
            Effect (.ppsInEdge after) s (capRegs ++ sampleRegs) (.tim :: .irqs :: timeParts) (fun t => Captured d t (after % 2) ∧
              t.loopState = 2 ∧ ∃ e : Int, PhaseOf t e ∧ Sampled d t (e - bias))))) ∧
      (∀ x, d.tim.edge = some x → u - x < 2000000 →
        Effect (.ppsInEdge after) s [.tim (.CNT_COUNT 2)] timeParts (fun t => Counts s.dev t (.tim (.CNT_COUNT 2)))) ∧
      (∀ x, d.tim.edge = some x → 2000000 ≤ u - x → (u - x < 1998000000 ∨ (2002000000 < u - x ∧ u - x ≤ 3000000000)) →
        Effect (.ppsInEdge after) s [.tim (.CNT_COUNT 8)] timeParts (fun t => Counts s.dev t (.tim (.CNT_COUNT 8)))) ∧
      (∀ x, d.tim.edge = some x → 3000000000 < u - x →
        Completes (.ppsInEdge after) s (fun t => t.rd (.tim .STATUS_PPS_LOST) = 1 ∧ t.tim.edge = some u))) ∧
    (∀ x, s.dev.tim.edge = some x →
      Effect .ppsLostTimeout s [.tim .STATUS_PPS_LOST] (.tim :: .irqs :: timeParts) (fun t => t.rd (.tim .STATUS_PPS_LOST) = 1 ∧
        t.tim = { s.dev.tim with edge := none })) ∧
    (s.dev.rd (.tim .PPS_CTRL_OUT_EN) ≠ 0 → s.dev.tim.ppsFall = none →
      (s.dev.rd (.tim .PPS_CTRL_GATE_UNLOCKED) = 0 ∨ s.dev.loopState = 1 →
        Effect .ppsOutRise s [] (.tim :: .out :: timeParts) (fun t => t.out = s.dev.out ++ ([.pps true] : List Outbound) ∧
          t.tim = { s.dev.tim with ppsFall := some (t.now + s.dev.rd (.tim .PPS_CTRL_WIDTH) * 1000000) })) ∧
      (s.dev.rd (.tim .PPS_CTRL_GATE_UNLOCKED) ≠ 0 → s.dev.loopState ≠ 1 → Effect .ppsOutRise s [] timeParts (fun _ => True))) ∧
    (∀ x, s.dev.tim.ppsFall = some x →
      Effect .ppsOutFall s [] (.tim :: .out :: timeParts) (fun t => t.now = max s.dev.now x ∧ t.out = s.dev.out ++ ([.pps false] : List Outbound) ∧
        t.tim = { s.dev.tim with ppsFall := none })) ∧
    (∀ bytes : List Byte,
      (s.dev.rd (.tim .UART_EN) = 0 → Effect (.nmeaSentence bytes after) s [] timeParts (fun t => t.now = s.dev.now + after)) ∧
      (s.dev.rd (.tim .UART_EN) ≠ 0 → bytes.getD 0 0 = 0x24 → (nmeaFields bytes).2 = false →
        Effect (.nmeaSentence bytes after) s [.tim (.CNT_COUNT 4)] timeParts (fun t => Counts s.dev t (.tim (.CNT_COUNT 4)))) ∧
      (∀ (fs : List (List Byte)) (a b : Byte) (rmc : Bool) (utc : Nat) (tai : Int), s.dev.rd (.tim .UART_EN) ≠ 0 → bytes.getD 0 0 = 0x24 →
        nmeaFields bytes = (fs, true) → 0x41 ≤ a.toNat → a.toNat ≤ 0x5A → 0x41 ≤ b.toNat → b.toNat ≤ 0x5A →
        fs.getD 0 [] = [a, b] ++ (if rmc then [0x52, 0x4D, 0x43] else [0x5A, 0x44, 0x41]) → nmeaSecond rmc fs = some utc →
        s.dev.tim.edge ≠ none → tai = (utc : Int) + toSigned 16 (s.dev.rd (.tim .UTC_OFFSET_S)) →
        (s.dev.tim.edgeAt + 900000000 < s.dev.now + after →
          Effect (.nmeaSentence bytes after) s [.tim (.CNT_COUNT 4)] timeParts (fun t => Counts s.dev t (.tim (.CNT_COUNT 4)))) ∧
        (s.dev.now + after ≤ s.dev.tim.edgeAt + 900000000 →
          (tai = s.dev.tim.edgeSec →
            Effect (.nmeaSentence bytes after) s [.tim .TOD_SEC, .tim (.CNT_COUNT 3)] (.tim :: timeParts) (fun t =>
              t.rd (.tim .TOD_SEC) = ofSigned 48 tai ∧ Counts s.dev t (.tim (.CNT_COUNT 3)))) ∧
          (tai ≠ s.dev.tim.edgeSec → s.dev.rd (.tck .CTRL_SRC) ≠ 2 →
            Effect (.nmeaSentence bytes after) s [.tim .TOD_SEC, .tim (.CNT_COUNT 3), .tim (.CNT_COUNT 5), .tim .STATUS_TOD_MISMATCH]
              (.tim :: .irqs :: timeParts) (fun t => t.rd (.tim .TOD_SEC) = ofSigned 48 tai ∧ Counts s.dev t (.tim (.CNT_COUNT 3)) ∧
                Counts s.dev t (.tim (.CNT_COUNT 5)) ∧ t.rd (.tim .STATUS_TOD_MISMATCH) = 1)))))

/-- CAL_STEP_START, CAL_STEP_END, ALMANAC_OVERDUE, ALMANAC_OVERDUE2 and ALMANAC_VERIFY: a running calibration occurrence starts the unit; its
step's end counts and records DONE: an eye scan keeps its points, and with 256 held its result is accepted, low eyes reported, a port whose link
is down doing nothing; a path delay is discarded when its set is unfinished, rejected when its spread is too large, else accepted; an entry past
its age, or twice its age, is reported to the safety monitor; a verification ends, clears VERIFY_PENDING and, with every entry sound, reports
nothing (R452, R453, R455 to R460, R475, R476). -/
def Obligations.CalibrationAndAlmanac : Prop :=
  ∀ (s : State) (n : Fin 64) (e : Fin 14) (lost : Nat) (full : Bool) (measured : List Byte) (k : Nat), s.held = false →
    k = (s.dev.slot n).step →
    ((s.dev.occ n).state = .running → (s.dev.slot n).kind = 3 → s.dev.cal.step = none →
      Effect (.calStepStart n) s [] [.cal] (fun t => t.cal = { s.dev.cal with step := some n.val })) ∧
    (s.dev.cal.step = some n.val → (s.dev.slot n).kind = 3 →
      (∀ p : Fin 4, k = 0x10 + p.val →
        (s.dev.linkUp p = false →
          Effect (.calStepEnd lost full measured) s (.cal (.CNT_COUNT 0) :: recFields n) [.cal, .tick] (fun t => StepDone s.dev t n)) ∧
        (∀ items held : Nat, s.dev.linkUp p = true → items = s.dev.scanItems p (s.dev.slot n).budget →
          held = s.dev.cal.points.getD p 0 + (items - min lost items) →
          (held < 256 →
            Effect (.calStepEnd lost full measured) s (.cal (.CNT_COUNT 0) :: .cal (.CNT_COUNT 2) :: recFields n) [.cal, .tick] (fun t =>
              StepDone s.dev t n ∧ t.cal.points.getD p 0 = held ∧ Counts s.dev t (.cal (.CNT_COUNT 2)) (min lost items))) ∧
          (256 ≤ held →
            Effect (.calStepEnd lost full measured) s
              (([.cal (.CNT_COUNT 0), .cal (.CNT_COUNT 2), .cal (.CNT_COUNT 6), .cal .EVT_EYE_LOW] : List Fld) ++ calLog ++ recFields n)
              (.irqs :: calParts) (fun t =>
                StepDone s.dev t n ∧ t.cal.points.getD p 0 = 0 ∧
                AcceptedResult s.dev t p (scanValue (almForce (s.dev.alm p)) measured) 2 ∧
                (min 32 (measured.getD 4 0).toNat < s.dev.rd (.cal .CFG_EYE_MIN_W) →
                  Counts s.dev t (.cal (.CNT_COUNT 6)) ∧ t.rd (.cal .EVT_EYE_LOW) = 1 ∧ CalLogged s.dev t 2 p) ∧
                (s.dev.rd (.cal .CFG_EYE_MIN_W) ≤ min 32 (measured.getD 4 0).toNat →
                  t.rd (.cal (.CNT_COUNT 6)) = s.dev.rd (.cal (.CNT_COUNT 6)) ∧
                  t.rd (.cal .EVT_EYE_LOW) = s.dev.rd (.cal .EVT_EYE_LOW)))))) ∧
      (0x20 ≤ k → k ≤ 0x31 →
        (full = false →
          Effect (.calStepEnd lost full measured) s (.cal (.CNT_COUNT 0) :: .cal (.CNT_COUNT 3) :: .cal (.CNT_COUNT 4) :: recFields n)
            [.cal, .tick] (fun t =>
              StepDone s.dev t n ∧ Counts s.dev t (.cal (.CNT_COUNT 3)) lost ∧ Counts s.dev t (.cal (.CNT_COUNT 4)))) ∧
        (full = true → s.dev.rd (.cal .CFG_SPREAD_MAX) < leAt measured 4 2 →
          Effect (.calStepEnd lost full measured) s
            (([.cal (.CNT_COUNT 0), .cal (.CNT_COUNT 3), .cal (.CNT_COUNT 5), .cal .EVT_REJECT] : List Fld) ++ calLog ++ recFields n)
            [.cal, .tick, .irqs] (fun t => StepDone s.dev t n ∧ Counts s.dev t (.cal (.CNT_COUNT 5)) ∧ t.rd (.cal .EVT_REJECT) = 1 ∧
              CalLogged s.dev t 3 (stepEntry k))) ∧
        (full = true → leAt measured 4 2 ≤ s.dev.rd (.cal .CFG_SPREAD_MAX) →
          Effect (.calStepEnd lost full measured) s (.cal (.CNT_COUNT 0) :: .cal (.CNT_COUNT 3) :: recFields n) calParts (fun t =>
            StepDone s.dev t n ∧ Counts s.dev t (.cal (.CNT_COUNT 3)) lost ∧
            AcceptedResult s.dev t (stepEntry k) (sliceB measured 0 6) 2)))) ∧
    (s.dev.aged e = true →
      (s.dev.rd (.cal (.AGE_MAX_AGE e)) < s.dev.age e → bitAt (s.dev.rd (.cal .AGE_STATUS_OVERDUE)) e = false →
        Effect (.almanacOverdue e) s (([.cal .AGE_STATUS_OVERDUE, .cal .EVT_OVERDUE] : List Fld) ++ calLog) [.irqs, .toSafe] (fun t =>
          t.rd (.cal .AGE_STATUS_OVERDUE) = s.dev.rd (.cal .AGE_STATUS_OVERDUE) + 2 ^ e.val ∧ t.rd (.cal .EVT_OVERDUE) = 1 ∧
          CalLogged s.dev t 0 e ∧ t.toSafe = s.dev.toSafe ++ ([⟨true, 3, 0⟩] : List Report))) ∧
      (2 * s.dev.rd (.cal (.AGE_MAX_AGE e)) < s.dev.age e → bitAt (s.dev.rd (.cal .AGE_STATUS_OVERDUE2)) e = false →
        Effect (.almanacOverdue2 e) s (([.cal .AGE_STATUS_OVERDUE2, .cal .EVT_OVERDUE2] : List Fld) ++ calLog) [.irqs, .toSafe] (fun t =>
          t.rd (.cal .AGE_STATUS_OVERDUE2) = s.dev.rd (.cal .AGE_STATUS_OVERDUE2) + 2 ^ e.val ∧ t.rd (.cal .EVT_OVERDUE2) = 1 ∧
          CalLogged s.dev t 1 e ∧ t.toSafe = s.dev.toSafe ++ ([⟨false, 15, e⟩] : List Report)))) ∧
    (s.dev.taskRuns n 4 = true →
      Completes (.almanacVerify n) s (fun t => (t.occ n).state = .ended ∧ t.rd (.pwr .SUP_STATUS_VERIFY_PENDING) = 0 ∧
        t.rd (.tck (.SLOT_REC_STATUS n)) = 0) ∧
      ((∀ i : Fin 14, s.dev.mark (almLine i) = .clean ∧ crc32c ((s.dev.alm i).take 60) = leAt (s.dev.alm i) 60 4 ∧
          almForce (s.dev.alm i) = s.dev.cal.latched.getD i []) →
        Effect (.almanacVerify n) s (.pwr .SUP_STATUS_VERIFY_PENDING :: recFields n) [.tick] (fun t =>
          (t.occ n).state = .ended ∧ t.toSafe = s.dev.toSafe)))

/-- MONITOR_ARM, MONITOR_RECOVER, MONITOR_TRIP, MONITOR_DISARM, TICK_HEARTBEAT and FAULT_REPORT: a command in the wrong state, with the wrong SEQ
or failing a check is refused with its code; ARM enters ARMING, RECOVER RECOVERING, TRIP TRIPPED with cause 20, DISARM DISARMED; a heartbeat
restarts the tick watchdog and, its checks passing, arms the monitor, clearing FAULTED pairs and channel states, or ends a failed arming; faults
trip an armed monitor with the lowest code, end an arming, and set their bits in any state; a warning sets its bit (R466, R468 to R470, R476,
R478, R491). -/
def Obligations.MonitorCommandsAndReports : Prop :=
  ∀ (s : State) (seq : BitVec 16), Awake s →
    (s.dev.safState ≠ 0 → SafRefused .monitorArm s 1) ∧
    (∀ c, s.dev.safState = 0 → s.dev.armCheck s.otp = some c → SafRefused .monitorArm s c) ∧
    (s.dev.safState = 0 → s.dev.armCheck s.otp = none →
      Effect .monitorArm s [.saf .RESULT_LAST, .saf .EVT_CMD_DONE, .saf .STATE_STATE] [] (fun t => SafPassed t ∧ t.safState = 1)) ∧
    (s.dev.safState ≠ 3 → SafRefused (.monitorRecover seq) s 1 ∧ SafRefused .monitorDisarm s 1) ∧
    (s.dev.safState = 3 →
      (seq.toNat ≠ s.dev.rd (.saf .STATE_SEQ) → SafRefused (.monitorRecover seq) s 2) ∧
      (seq.toNat = s.dev.rd (.saf .STATE_SEQ) →
        (∀ c, s.dev.armCheck s.otp = some c → SafRefused (.monitorRecover seq) s c) ∧
        (s.dev.armCheck s.otp = none →
          Effect (.monitorRecover seq) s [.saf .RESULT_LAST, .saf .EVT_CMD_DONE, .saf .STATE_STATE] [] (fun t =>
            SafPassed t ∧ t.safState = 4))) ∧
      SafRefused .monitorTrip s 1 ∧
      Effect .monitorDisarm s [.saf .RESULT_LAST, .saf .EVT_CMD_DONE, .saf .STATE_STATE] [.safeCore, .sbd] (fun t =>
        SafPassed t ∧ t.safState = 0 ∧ t.safeCore = false)) ∧
    (s.dev.safState = 0 → SafRefused .monitorTrip s 1) ∧
    (s.dev.safState = 1 ∨ s.dev.safState = 2 ∨ s.dev.safState = 4 →
      Effect .monitorTrip s (([.saf .RESULT_LAST, .saf .EVT_CMD_DONE, .saf .FAULT_FAULTS] : List Fld) ++ tripRegs) [.irqs, .out, .sbd] (fun t =>
        SafPassed t ∧ TrippedBy s.dev t 20 0 ∧ bitAt (t.rd (.saf .FAULT_FAULTS)) 19 = true)) ∧
    (∀ (b : Pulse) (bs : List Pulse) (age : Nat), s.dev.tick.toSafe = b :: bs → s.dev.pwr.dip = none →
      age = (if s.dev.saf.scrubRun then min 255 (s.dev.rd (.saf .MON_STATUS_SCRUB_AGE) + 1) else s.dev.rd (.saf .MON_STATUS_SCRUB_AGE)) →
      (s.dev.safState ≠ 1 → (s.dev.safState = 4 → s.dev.armCheck s.otp ≠ none) → (s.dev.safState = 2 → s.dev.saf.outDead = false) →
        Effect .tickHeartbeat s [.saf .MON_STATUS_SCRUB_AGE] [.tick, .saf] (fun t => t.rd (.saf .MON_STATUS_SCRUB_AGE) = age ∧
          t.tick = { s.dev.tick with toSafe := bs } ∧
          t.saf = { s.dev.saf with
            hbAt := s.dev.now
            hbN := s.dev.rd (.tck .PERIOD_N)
            hbDone := false })) ∧
      (s.dev.safState = 2 → s.dev.saf.outDead = true →
        Effect .tickHeartbeat s
          [.saf .MON_STATUS_SCRUB_AGE, .saf .PIN_STATUS_OUT_A, .saf .PIN_STATUS_OUT_B, .saf .PIN_STATUS_READBACK_ERR] [.tick, .saf, .out]
          (fun t => Driven s.dev t true ∧ t.saf.outDead = false ∧ t.saf.hbAt = s.dev.now)) ∧
      (∀ c, s.dev.safState = 1 → s.dev.armCheck s.otp = some c →
        Effect .tickHeartbeat s [.saf .MON_STATUS_SCRUB_AGE, .saf .STATE_STATE, .saf .RESULT_LAST] [.tick, .saf, .sbd] (fun t =>
          t.safState = 0 ∧ t.rd (.saf .RESULT_LAST) = c ∧ t.saf.hbAt = s.dev.now)) ∧
      (s.dev.safState = 1 ∨ s.dev.safState = 4 → s.dev.armCheck s.otp = none →
        Effect .tickHeartbeat s rearmRegs [.tick, .saf, .safeCore, .irqs, .out] (fun t =>
          t.safState = 2 ∧ t.rd (.saf .EVT_REARM) = 1 ∧ Driven s.dev t true ∧ t.safeCore = false ∧ t.saf.haAt = s.dev.now ∧
          (s.dev.safState = 4 → Counts s.dev t (.saf .CNT_RECOVERIES)) ∧
          (∀ e : Fin 16, s.dev.engState e = 4 → t.engState e = 0) ∧
          (∀ c : Fin 16, s.dev.rd (.saf (.BC_CFG_EN c)) ≠ 0 →
            t.rd (.saf (.BC_LAST_TICK_TICK c)) = b.tick % 2 ^ 32 ∧ t.rd (.saf (.BC_STATUS_SEQ_VALID c)) = 0 ∧
              t.rd (.saf (.BC_STATUS_STATE c)) = 0)))) ∧
    (∀ (r : Report) (n : Nat) (rs : List Report), rs = s.dev.toSafe.take n → r ∈ rs →
      (∀ x ∈ rs, x.warn = false ∧ 1 ≤ x.code ∧ x.code ≤ 20 ∧ (r.code < x.code ∨ x = r)) →
      ((s.dev.safState = 2 ∨ s.dev.safState = 4) →
        Effect (.faultReport n) s (.saf .FAULT_FAULTS :: tripRegs) [.toSafe, .irqs, .out, .sbd] (fun t =>
          TrippedBy s.dev t r.code r.detail ∧ t.toSafe = s.dev.toSafe.drop n ∧
          ∀ k : Fin 20, bitAt (t.rd (.saf .FAULT_FAULTS)) k =
            (bitAt (s.dev.rd (.saf .FAULT_FAULTS)) k || rs.any (fun x => x.code = k.val + 1)))) ∧
      (s.dev.safState = 1 →
        Effect (.faultReport n) s [.saf .FAULT_FAULTS, .saf .STATE_STATE, .saf .RESULT_LAST] [.toSafe, .sbd] (fun t =>
          t.safState = 0 ∧ t.rd (.saf .RESULT_LAST) = 8 ∧ bitAt (t.rd (.saf .FAULT_FAULTS)) (r.code - 1) = true)) ∧
      (s.dev.safState = 0 ∨ s.dev.safState = 3 →
        Effect (.faultReport n) s [.saf .FAULT_FAULTS] [.toSafe] (fun t =>
          bitAt (t.rd (.saf .FAULT_FAULTS)) (r.code - 1) = true ∧ t.toSafe = s.dev.toSafe.drop n))) ∧
    (∀ (r : Report) (rs : List Report), s.dev.toSafe = r :: rs → r.warn = true → r.code ≤ 6 →
      Effect (.faultReport 1) s [.saf .WARN_WARN, .saf .EVT_WARN] [.toSafe] (fun t =>
        bitAt (t.rd (.saf .WARN_WARN)) r.code = true ∧ t.rd (.saf .EVT_WARN) = 1 ∧ t.toSafe = rs))

/-- The watchdogs and monitors, out of reset: the output cell's timer, the output readback, the tick watchdog, the clock monitors, the SAFE
oscillator, HOST_ALIVE, SAFE_IN and a black channel's window report the fault of R475 when their limit is passed, and nothing when it is not
(R473, R474, R478, R479, R481, R482, R487); a scrub occurrence reads its share of lines and a late pass is reported and begun anew (R480). -/
def Obligations.MonitorsAndScrub : Prop :=
  ∀ (s : State) (after count : Nat) (a b : Bool) (m : Fin 7) (c : Fin 16) (n : Fin 64) (on : Bool), s.held = false →
    (on = true ↔ s.dev.safState = 2 ∧ s.dev.saf.outDead = false) →
    (on = true →
      Effect .safeOutRefreshTimeout s [.saf .PIN_STATUS_OUT_A, .saf .PIN_STATUS_OUT_B, .saf .PIN_STATUS_READBACK_ERR]
        (.saf :: .out :: timeParts) (fun t => Driven s.dev t false ∧ t.saf.outDead = true ∧ t.now = s.dev.now + 10000)) ∧
    Effect (.outReadbackFault a b) s [.saf .PIN_STATUS_OUT_A, .saf .PIN_STATUS_OUT_B, .saf .PIN_STATUS_READBACK_ERR] (.toSafe :: timeParts)
      (fun t => t.rd (.saf .PIN_STATUS_OUT_A) = b2n a ∧ t.rd (.saf .PIN_STATUS_OUT_B) = b2n b ∧ t.now = s.dev.now + 2000 ∧
        (a = on ∧ b = !on → t.rd (.saf .PIN_STATUS_READBACK_ERR) = 0 ∧ t.toSafe = s.dev.toSafe) ∧
        (a ≠ on ∨ b = on → t.rd (.saf .PIN_STATUS_READBACK_ERR) = 1 ∧ Reports s.dev t 18 0)) ∧
    (s.dev.armed = true → s.dev.rd (.tck .STATUS_RUNNING) ≠ 0 → s.dev.saf.hbDone = false →
      Effect .tickWatchdogExpiry s [] (.saf :: .toSafe :: timeParts) (fun t => Reports s.dev t 5 0 ∧
        t.saf = { s.dev.saf with hbDone := true } ∧
        t.now = max s.dev.now (s.dev.saf.hbAt + (7375 * s.dev.saf.hbN + 3) / 4 * 20))) ∧
    (s.dev.pwrState ≠ 3 ∨ m = 6 →
      (bitAt (s.dev.rd (.saf .MON_STATUS_CLK_FAIL)) m = false →
        Effect (.clockMonitorFault m true) s [.saf .MON_STATUS_CLK_FAIL] [.toSafe] (fun t => Reports s.dev t 6 m ∧
          t.rd (.saf .MON_STATUS_CLK_FAIL) = s.dev.rd (.saf .MON_STATUS_CLK_FAIL) + 2 ^ m.val)) ∧
      Effect (.clockMonitorFault m false) s [.saf .MON_STATUS_CLK_FAIL] [] (fun t =>
        bitAt (t.rd (.saf .MON_STATUS_CLK_FAIL)) m = false ∧
        ∀ k : Fin 7, k ≠ m → bitAt (t.rd (.saf .MON_STATUS_CLK_FAIL)) k = bitAt (s.dev.rd (.saf .MON_STATUS_CLK_FAIL)) k)) ∧
    (∀ off : Nat, off = count - 24414 + (24414 - count) →
      (24414 < 20 * off →
        Effect (.safeOscWindow count) s [.saf .MON_STATUS_OSC_FAIL] [.toSafe] (fun t => Reports s.dev t 7 0 ∧
          t.rd (.saf .MON_STATUS_OSC_FAIL) = 1)) ∧
      (20 * off ≤ 24414 →
        Effect (.safeOscWindow count) s [.saf .MON_STATUS_OSC_FAIL] [] (fun t => t.rd (.saf .MON_STATUS_OSC_FAIL) = 0))) ∧
    (∀ k start : Nat, s.dev.taskRuns n 1 = true → s.dev.marks = [] → s.dev.scrubVerifies = false →
      start = (if s.dev.saf.scrubNew then 0 else s.dev.saf.scrubAt) → k = min (((s.dev.slot n).budget - 200) / 8) (156672 - start) →
      (start + k < 156672 →
        Effect (.scrubStep n) s (.saf .MON_STATUS_SCRUB_AGE :: recFields n) (.saf :: timeParts) (fun t => (t.occ n).state = .ended ∧
          t.rd (.tck (.SLOT_REC_STATUS n)) = 0 ∧
          t.rd (.saf .MON_STATUS_SCRUB_AGE) =
            (if s.dev.saf.scrubNew ∧ !s.dev.saf.scrubRun then 0 else s.dev.rd (.saf .MON_STATUS_SCRUB_AGE)) ∧
          t.saf = { s.dev.saf with
            scrubAt := start + k
            scrubNew := false
            scrubRun := s.dev.saf.scrubRun || s.dev.saf.scrubNew })) ∧
      (156672 ≤ start + k →
        Effect (.scrubStep n) s (([.saf .MON_STATUS_PASSES, .pwr .SUP_STATUS_SCRUB_PENDING, .saf .MON_STATUS_SCRUB_AGE] : List Fld) ++ recFields n)
            (.saf :: timeParts) (fun t =>
          (t.occ n).state = .ended ∧ t.rd (.tck (.SLOT_REC_STATUS n)) = 0 ∧
          t.rd (.saf .MON_STATUS_PASSES) = (s.dev.rd (.saf .MON_STATUS_PASSES) + 1) % 65536 ∧
          t.rd (.pwr .SUP_STATUS_SCRUB_PENDING) = 0 ∧ t.saf.scrubNew = true ∧ t.saf.scrubRun = false))) ∧
    (s.dev.saf.scrubRun = true → 64 ≤ s.dev.rd (.saf .MON_STATUS_SCRUB_AGE) →
      Effect .scrubLate s [.saf .MON_STATUS_SCRUB_AGE] [.saf, .toSafe] (fun t => Reports s.dev t 10 0 ∧
        t.rd (.saf .MON_STATUS_SCRUB_AGE) = 0 ∧ t.saf = { s.dev.saf with scrubNew := true })) ∧
    Effect (.hostAliveEdge after) s [.saf .HA_STATUS_EDGES, .saf .HA_STATUS_EXPIRED, .saf .PIN_STATUS_HOST_ALIVE]
      (.saf :: .toSafe :: timeParts) (fun t =>
        t.rd (.saf .HA_STATUS_EDGES) = (s.dev.rd (.saf .HA_STATUS_EDGES) + 1) % 65536 ∧ t.rd (.saf .HA_STATUS_EXPIRED) = 0 ∧
        t.now = s.dev.now + after ∧
        t.saf = { s.dev.saf with
          haAt := t.now
          haEdge := some t.now } ∧
        (s.dev.armed = true ∧ s.dev.rd (.saf .HA_STATUS_EXPIRED) = 0 ∧
            s.dev.saf.haAt + s.dev.rd (.saf .HA_CFG_MAX_US) * 1000 ≤ s.dev.now + after →
          ∃ l, t.toSafe = s.dev.toSafe ++ (⟨false, 13, 0⟩ : Report) :: l) ∧
        (s.dev.armed = false ∨ s.dev.rd (.saf .HA_STATUS_EXPIRED) ≠ 0 ∨
            s.dev.now + after < s.dev.saf.haAt + s.dev.rd (.saf .HA_CFG_MAX_US) * 1000 →
          ((∃ x, s.dev.saf.haEdge = some x ∧ s.dev.armed = true ∧ t.now < x + s.dev.rd (.saf .HA_CFG_MIN_US) * 1000) →
            Reports s.dev t 13 1) ∧
          ((∀ x, s.dev.saf.haEdge = some x → s.dev.armed = true → x + s.dev.rd (.saf .HA_CFG_MIN_US) * 1000 ≤ t.now) →
            t.toSafe = s.dev.toSafe))) ∧
    (s.dev.armed = true → s.dev.rd (.saf .HA_STATUS_EXPIRED) = 0 →
      Effect .hostAliveExpiry s [.saf .HA_STATUS_EXPIRED] (.toSafe :: timeParts) (fun t => Reports s.dev t 13 0 ∧
        t.rd (.saf .HA_STATUS_EXPIRED) = 1 ∧
        t.now = max s.dev.now (s.dev.saf.haAt + s.dev.rd (.saf .HA_CFG_MAX_US) * 1000))) ∧
    Effect (.safeInActive a) s [.saf .PIN_STATUS_SAFE_IN] (.toSafe :: timeParts) (fun t => t.rd (.saf .PIN_STATUS_SAFE_IN) = b2n a ∧
      t.now = s.dev.now + 1000 ∧
      (s.dev.armed = true ∧ b2n a = s.dev.rd (.saf .CTRL_SAFE_IN_POL) → Reports s.dev t 14 0) ∧
      (s.dev.armed = false ∨ b2n a ≠ s.dev.rd (.saf .CTRL_SAFE_IN_POL) → t.toSafe = s.dev.toSafe)) ∧
    (s.dev.rd (.saf .CTRL_RX_CHECK) ≠ 0 → s.dev.rd (.saf (.BC_CFG_EN c)) ≠ 0 → s.dev.rd (.saf (.BC_CFG_DIR c)) = 0 →
      s.dev.rd (.saf (.BC_STATUS_STATE c)) = 0 → s.dev.tick.coreRun = true →
      s.dev.rd (.saf (.BC_CFG_WINDOW c)) ≤ (s.dev.tick.coreTick + 2 ^ 32 - s.dev.rd (.saf (.BC_LAST_TICK_TICK c))) % 2 ^ 32 →
      Effect (.bcWindowExpiry c) s [.saf (.BC_STATUS_STATE c)] [.toSafe] (fun t => Reports s.dev t 12 c ∧
        t.rd (.saf (.BC_STATUS_STATE c)) = 1))

/-- SUPPLY_WARNING_SAFE, SUPPLY_WARNING_MGMT, SUPPLY_WARNING_DEASSERT, DIP_QUALIFIED and SUPPLY_UV_LONG with the monitor's rules acting: a
warning opens an episode, reports a warning to the monitor and ends a qualifying run; in MGMT it inhibits writes and abandons a flash program;
its end starts a run when the supply is back at 0.720 V, the run qualifies after 64 µs, and with the tick stopped the episode closes with its
record; 1 ms below reports fault SUPPLY (R495 to R499, R502, R504, R515, R560). -/
def Obligations.DipEpisodes : Prop :=
  ∀ (s : State) (v : BitVec 8) (after : Nat), s.held = false → s.dev.rd (.pwr .CTRL_MON_TEST_DIS) = 0 →
    (s.dev.pwr.dip = none →
      Effect (.supplyWarningSafe v after) s
        (([.pwr .SUP_STATUS_SUP_WARN, .pwr .SUP_STATUS_EPISODE_OPEN, .pwr .EVT_SUP_WARN, .pwr .SUP_STATUS_VOLT] : List Fld) ++ abortRegs)
        (.pwr :: .irqs :: .toSafe :: timeParts) (fun t =>
          t.rd (.pwr .SUP_STATUS_SUP_WARN) = 1 ∧ t.rd (.pwr .SUP_STATUS_EPISODE_OPEN) = 1 ∧ t.rd (.pwr .EVT_SUP_WARN) = 1 ∧
          t.rd (.pwr .SUP_STATUS_VOLT) = v.toNat ∧ t.rd (.pwr .STATUS_ENTERING) = 0 ∧ t.now = s.dev.now + after ∧
          t.toSafe = s.dev.toSafe ++ ([⟨true, 2, 0⟩] : List Report) ∧
          t.pwr.dip = some { low := v.toNat, openAt := t.now, belowFrom := some t.now } ∧ t.pwr.flashCut = false) ∧
      Effect (.supplyWarningDeassert v after) s [.pwr .SUP_STATUS_SUP_WARN, .pwr .SUP_STATUS_VOLT, .pwr .SUP_STATUS_QUALIFYING] timeParts
        (fun t => t.rd (.pwr .SUP_STATUS_SUP_WARN) = 0 ∧ t.rd (.pwr .SUP_STATUS_VOLT) = v.toNat)) ∧
    (∀ x : Dip, s.dev.pwr.dip = some x →
      (x.uvLong = true ∨ x.belowFrom = none ∨ x.belowNs (s.dev.now + after) < 1000000 →
        Effect (.supplyWarningSafe v after) s [.pwr .SUP_STATUS_SUP_WARN, .pwr .SUP_STATUS_VOLT, .pwr .SUP_STATUS_QUALIFYING]
          (.pwr :: timeParts) (fun t =>
            t.rd (.pwr .SUP_STATUS_SUP_WARN) = 1 ∧ t.rd (.pwr .SUP_STATUS_VOLT) = v.toNat ∧ t.rd (.pwr .SUP_STATUS_QUALIFYING) = 0 ∧
            t.pwr = { s.dev.pwr with
              dip := some { x with
                low := min x.low v.toNat
                belowFrom := some (x.belowFrom.getD t.now)
                runFrom := none
                qualified := false } }) ∧
        Effect (.supplyWarningDeassert v after) s [.pwr .SUP_STATUS_SUP_WARN, .pwr .SUP_STATUS_VOLT, .pwr .SUP_STATUS_QUALIFYING]
          (.pwr :: timeParts) (fun t =>
            t.rd (.pwr .SUP_STATUS_SUP_WARN) = 0 ∧ t.rd (.pwr .SUP_STATUS_VOLT) = v.toNat ∧
            t.rd (.pwr .SUP_STATUS_QUALIFYING) = (if 72 ≤ v.toNat then 1 else 0) ∧
            t.pwr = { s.dev.pwr with
              dip := some { x with
                low := min x.low v.toNat
                below := x.below + (match x.belowFrom with | some f => t.now - f | none => 0)
                belowFrom := none
                runFrom := if 72 ≤ v.toNat then some t.now else none
                qualified := false } })) ∧
      (∀ f, x.uvLong = false → x.belowFrom = some f → 1000000 ≤ x.below + (s.dev.now + after - f) →
        Completes (.supplyWarningDeassert v after) s (fun t => t.rd (.pwr .EVT_UV_LONG) = 1 ∧ Reports s.dev t 17 0 ∧
          t.pwr.dip.map (·.uvLong) = some true)) ∧
      (∀ r, x.runFrom = some r → x.qualified = false →
        (v.toNat < 72 →
          Effect (.dipQualified v) s [.pwr .SUP_STATUS_VOLT, .pwr .SUP_STATUS_QUALIFYING] (.pwr :: timeParts) (fun t =>
            t.now = max s.dev.now (r + 64000) ∧ t.rd (.pwr .SUP_STATUS_QUALIFYING) = 0 ∧
            t.pwr = { s.dev.pwr with
              dip := some { x with
                low := min x.low v.toNat
                runFrom := none } })) ∧
        (72 ≤ v.toNat → s.dev.rd (.tck .STATUS_RUNNING) ≠ 0 →
          Effect (.dipQualified v) s [.pwr .SUP_STATUS_VOLT, .pwr .SUP_STATUS_QUALIFYING] (.pwr :: timeParts) (fun t =>
            t.now = max s.dev.now (r + 64000) ∧ t.rd (.pwr .SUP_STATUS_QUALIFYING) = 0 ∧
            t.pwr = { s.dev.pwr with
              dip := some { x with
                low := min x.low v.toNat
                qualified := true } })) ∧
        (72 ≤ v.toNat → s.dev.rd (.tck .STATUS_RUNNING) = 0 →
          Effect (.dipQualified v) s
            (([.pwr .SUP_STATUS_VOLT, .pwr .SUP_STATUS_QUALIFYING, .pwr .SUP_STATUS_INHIBIT, .pwr .SUP_STATUS_EPISODE_OPEN,
              .pwr .SUP_STATUS_SCRUB_PENDING, .pwr .SUP_STATUS_VERIFY_PENDING, .pwr .EVT_DIP_CLOSED, .hep .PF1_IPEND_SUPPLY,
              .saf .MON_STATUS_SCRUB_AGE] : List Fld) ++ dipRegs) (.pwr :: .saf :: .irqs :: timeParts) (fun t =>
            t.now = max s.dev.now (r + 64000) ∧ t.pwr.dip = none ∧ t.rd (.pwr .SUP_STATUS_INHIBIT) = 0 ∧
            t.rd (.pwr .SUP_STATUS_EPISODE_OPEN) = 0 ∧ t.rd (.pwr .SUP_STATUS_SCRUB_PENDING) = 1 ∧
            t.rd (.pwr .SUP_STATUS_VERIFY_PENDING) = 1 ∧ t.rd (.pwr .EVT_DIP_CLOSED) = 1 ∧ t.rd (.hep .PF1_IPEND_SUPPLY) = 1 ∧
            t.saf.scrubNew = true ∧ t.rd (.pwr .DIP_LOG_MIN) = min x.low v.toNat % 256 ∧
            t.rd (.pwr .DIP_LOG_DUR) = min 4095 ((r - x.openAt) / 1000) ∧ t.rd (.pwr .DIP_LOG_REACHED_RESET) = 0 ∧
            t.rd (.pwr .DIP_LOG_UV_LONG) = b2n x.uvLong ∧ t.rd (.pwr .DIP_LOG_VALID) = 1 ∧ Counts s.dev t (.pwr .DIP_CNT_COUNT)))) ∧
      (∀ f, x.uvLong = false → x.belowFrom = some f →
        Effect .supplyUvLong s [.pwr .EVT_UV_LONG] (.pwr :: .irqs :: .toSafe :: timeParts) (fun t =>
          t.now = s.dev.now + (1000000 - (x.below + (s.dev.now - f))) ∧ t.rd (.pwr .EVT_UV_LONG) = 1 ∧ Reports s.dev t 17 0 ∧
          t.pwr = { s.dev.pwr with dip := some { x with uvLong := true } }))) ∧
    (s.dev.rd (.pwr .SUP_STATUS_SUP_WARN) ≠ 0 → s.dev.sec.lcTo = none → s.dev.sec.otpOp = none → s.dev.sec.arbTo = none →
      ((∀ a, s.dev.sbd.flash ≠ some (2, a)) →
        Effect .supplyWarningMgmt s [.pwr .SUP_STATUS_INHIBIT] [] (fun t => t.rd (.pwr .SUP_STATUS_INHIBIT) = 1)) ∧
      (∀ a, s.dev.sbd.flash = some (2, a) →
        Effect .supplyWarningMgmt s [.pwr .SUP_STATUS_INHIBIT, .sbd .FL_STATUS_RESULT, .sbd .FL_LOG_INCOMPLETE, .sbd .FL_LOG_PAGE] [.sbd, .pwr]
          (fun t => t.rd (.pwr .SUP_STATUS_INHIBIT) = 1 ∧ t.rd (.sbd .FL_STATUS_RESULT) = 5 ∧ t.rd (.sbd .FL_LOG_INCOMPLETE) ≠ 0 ∧
            t.sbd = { s.dev.sbd with flash := none } ∧ t.pwr = { s.dev.pwr with flashCut := true })))

/-- POWER_STATE_CHOICE, SCHEDULED_WAKE, A3_COMMIT, POWER_STATE_EXIT_DONE, the wakes, MAX_STATE_WRITE and PME_MESSAGE: at the next microsecond the
device goes toward the deepest state that passes every test of R511, A3 by way of an entry that commits only while it is eligible; a state is
left for the exit latency, a slot's engine being called ahead of its START, and its end makes it A0 or the shallower target, from A3 with the
frame memory initialised; a signal, the timer, the host link or a lower MAX_STATE wakes; PM_PME leaves once the link is up (R505 to R508, R511,
R512, R514 to R516, R519). -/
def Obligations.PowerStates : Prop :=
  ∀ (s : State) (n : Fin 64) (p : Fin 4) (v : Fin 4) (f : Fin 2) (a : Nat) (d : Dev), s.held = false →
    (s.dev.pwr.leaving = none → s.dev.rd (.pwr .STATUS_ENTERING) = 0 → s.dev.pwrState ≠ 3 → d = s.dev.elapse (1000 - s.dev.now % 1000) →
      (a = 0 ∨ (a ≤ d.rd (.pwr .CTRL_MAX_STATE) ∧ d.mayChoose a = true)) →
      (∀ b, a < b → b ≤ 3 → b ≤ d.rd (.pwr .CTRL_MAX_STATE) → d.mayChoose b = false) →
      (a = s.dev.pwrState → Effect .powerStateChoice s [.pwr .STATUS_TARGET] timeParts (fun t => t.now = d.now ∧ t.rd (.pwr .STATUS_TARGET) = a)) ∧
      (s.dev.pwrState < a → a < 3 →
        Effect .powerStateChoice s [.pwr .STATUS_TARGET, .pwr .STATUS_STATE, .pwr (.CNT_COUNT (a - 1)), .pwr .EVT_STATE_CHG]
          (.irqs :: timeParts) (fun t => t.rd (.pwr .STATUS_TARGET) = a ∧ t.pwrState = a ∧ Counts s.dev t (.pwr (.CNT_COUNT (a - 1))) ∧
            t.rd (.pwr .EVT_STATE_CHG) = 1)) ∧
      (a = 3 → s.dev.pwrState = 2 →
        Effect .powerStateChoice s [.pwr .STATUS_TARGET, .pwr .STATUS_ENTERING] timeParts (fun t =>
          t.rd (.pwr .STATUS_TARGET) = 3 ∧ t.rd (.pwr .STATUS_ENTERING) = 1)) ∧
      (a = 3 → s.dev.pwrState < 2 →
        Effect .powerStateChoice s
          [.pwr .STATUS_TARGET, .pwr .STATUS_ENTERING, .pwr .STATUS_STATE, .pwr (.CNT_COUNT 1), .pwr .EVT_STATE_CHG]
          (.irqs :: timeParts) (fun t => t.rd (.pwr .STATUS_TARGET) = 3 ∧ t.pwrState = 2 ∧ t.rd (.pwr .STATUS_ENTERING) = 1 ∧
            Counts s.dev t (.pwr (.CNT_COUNT 1)))) ∧
      (a < s.dev.pwrState →
        Effect .powerStateChoice s [.pwr .STATUS_TARGET] (.pwr :: timeParts) (fun t => t.rd (.pwr .STATUS_TARGET) = a ∧
          t.pwr = { s.dev.pwr with leaving := some (d.now + exitOf s.dev.pwrState, a) }))) ∧
    (s.dev.rd (.tck .STATUS_RUNNING) ≠ 0 → s.dev.slotGated s.dev.pwrState n = true → s.dev.pwr.leaving = none →
      s.dev.rd (.pwr .STATUS_ENTERING) = 0 →
      (s.dev.pwrState = 1 → Effect (.scheduledWake n) s [] timeParts (fun t =>
        t.now = s.dev.now + (s.dev.toStart n - 2000 - s.dev.rd (.pwr .GUARD_NS)))) ∧
      (s.dev.pwrState = 2 → Effect (.scheduledWake n) s [] (.pwr :: timeParts) (fun t =>
        t.now = s.dev.now + (s.dev.toStart n - 40000 - s.dev.rd (.pwr .GUARD_NS)) ∧
        t.pwr = { s.dev.pwr with leaving := some (t.now + 40000, 0) }))) ∧
    (s.dev.rd (.pwr .STATUS_ENTERING) ≠ 0 →
      (s.dev.eligibleA3 = false ∨ s.dev.rd (.pwr .SUP_STATUS_EPISODE_OPEN) ≠ 0 →
        Effect .a3Commit s abortRegs [.pwr, .irqs] (fun t => t.rd (.pwr .STATUS_ENTERING) = 0 ∧ Counts s.dev t (.pwr (.CNT_COUNT 3)) ∧
          t.rd (.pwr .EVT_A3_ABORT) = 1 ∧ t.pwrState = s.dev.pwrState)) ∧
      (s.dev.eligibleA3 = true → s.dev.rd (.pwr .SUP_STATUS_EPISODE_OPEN) = 0 →
        (s.dev.hep.l1 = true ∨ s.dev.rd (.hep .LINK_STATUS_DL_UP) = 0 →
          Effect .a3Commit s [.pwr .STATUS_ENTERING, .pwr .STATUS_STATE, .pwr (.CNT_COUNT 2), .pwr .EVT_STATE_CHG] [.pwr, .irqs] (fun t =>
            t.pwrState = 3 ∧ t.rd (.pwr .STATUS_ENTERING) = 0 ∧ Counts s.dev t (.pwr (.CNT_COUNT 2)) ∧ t.rd (.pwr .EVT_STATE_CHG) = 1 ∧
            t.pwr = { s.dev.pwr with committed := some s.dev.now })) ∧
        (s.dev.hep.l1 = false → s.dev.rd (.hep .LINK_STATUS_DL_UP) ≠ 0 → Effect .a3Commit s [] [] (fun _ => True)))) ∧
    (∀ x dest, s.dev.pwr.leaving = some (x, dest) → dest < 4 →
      (s.dev.pwrState ≠ 3 →
        Effect .powerStateExitDone s [.pwr .STATUS_STATE, .pwr .EVT_STATE_CHG] (.pwr :: .irqs :: timeParts) (fun t =>
          t.pwrState = dest ∧ t.now = max s.dev.now x ∧ t.rd (.pwr .EVT_STATE_CHG) = 1 ∧
          t.pwr = { s.dev.pwr with
            leaving := none
            committed := none })) ∧
      (s.dev.pwrState = 3 →
        Completes .powerStateExitDone s (fun t => t.pwrState = dest ∧ t.now = max s.dev.now x ∧ t.pwr.leaving = none ∧
          (∀ k, k < 64 * 73728 → Mem.get t.mem k = 0) ∧ t.rd (.sbd .SMB_STATUS_EID) = 0))) ∧
    (s.dev.rd (.pwr .STATUS_ENTERING) = 0 → s.dev.pwr.leaving = none →
      (s.dev.portAsleep p = true → bitAt (s.dev.rd (.pwr .WAKE_EN_SIGDET)) p = true →
        Wakes (.wakeSignalDetect p) s s.dev (.pwr .WAKE_STATUS_SRC) (setBit (s.dev.rd (.pwr .WAKE_STATUS_SRC)) p) []) ∧
      (∀ x, s.dev.rd (.pwr .WAKE_TIMER_COUNT) ≠ 0 →
        x = (match s.dev.pwr.committed with
          | some k => s.dev.elapse (k + s.dev.rd (.pwr .WAKE_TIMER_COUNT) * 1000000000 / 32768 - s.dev.now)
          | none => s.dev) →
        Wakes .wakeTimerExpiry s x (.pwr .WAKE_STATUS_TIMER) 1 timeParts) ∧
      (s.dev.pwrState ≠ 2 → Wakes .hostLinkWake s s.dev (.pwr .WAKE_STATUS_HOST) 1 []) ∧
      (s.dev.pwrState = 2 → Effect .hostLinkWake s [] [.hep] (fun t => t.hep = { s.dev.hep with l1 := false }))) ∧
    (s.dev.pwrState < 2 → s.dev.rd (.pwr .STATUS_ENTERING) = 0 → s.dev.pwr.leaving = none →
      (s.dev.pwrState ≤ v.val → Effect (.maxStateWrite v) s [.pwr .CTRL_MAX_STATE] [] (fun t => t.rd (.pwr .CTRL_MAX_STATE) = v)) ∧
      (v.val < s.dev.pwrState → Effect (.maxStateWrite v) s [.pwr .CTRL_MAX_STATE] [.pwr] (fun t => t.rd (.pwr .CTRL_MAX_STATE) = v ∧
        t.pwr = { s.dev.pwr with leaving := some (s.dev.now + 2000, 0) }))) ∧
    (f.val ∈ s.dev.hep.pmeDue → s.dev.rd (.hep .LINK_STATUS_DL_UP) ≠ 0 →
      Effect (.pmeMessage f) s [] [.hep, .out] (fun t => t.out = s.dev.out ++ ([.pme f] : List Outbound) ∧ f.val ∉ t.hep.pmeDue ∧ t.hep.l1 = false))

/-- LC_PROVISION, LC_FIELD, LC_TRANSITION_DONE, OTP_PROGRAM, OTP_REVOKE, OTP_WRITE_DONE, ARB_ADVANCE and ARB_ADVANCE_DONE: each request starts its
write when every check of its rule passes, else ends with the code of the first that fails; the write's end gives the new lifecycle state, with
keys and SAs zeroised in RMA, the programmed or revoked slot, or the raised counter, and its event (R253, R522 to R526, R530, R531). -/
def Obligations.LifecycleAndOtp : Prop :=
  ∀ (s : State) (target : Fin 8) (value : Fin 128) (dest : Nat), Awake s →
    (s.dev.sec.lcTo ≠ none → LcRefused .lcProvision s 5 ∧ LcRefused .lcField s 5) ∧
    (s.dev.sec.lcTo = none →
      (s.otp.lc ≠ 0 → LcRefused .lcProvision s 1) ∧ (s.otp.lc ≠ 1 → LcRefused .lcField s 1) ∧
      (s.otp.lc = 0 → s.dev.inhibited = true → LcRefused .lcProvision s 2) ∧
      (s.otp.lc = 1 → s.dev.inhibited = true → LcRefused .lcField s 2) ∧
      (s.otp.lc = 0 → s.dev.inhibited = false →
        (¬ ((s.otp.slot 1).prog = true ∧ (s.otp.slot 3).prog = true ∧ s.otp.seedProg = true) → LcRefused .lcProvision s 3) ∧
        ((s.otp.slot 1).prog = true ∧ (s.otp.slot 3).prog = true ∧ s.otp.seedProg = true →
          Effect .lcProvision s [] [.sec] (fun t => t.sec = { s.dev.sec with lcTo := some 1 }))) ∧
      (s.otp.lc = 1 → s.dev.inhibited = false →
        (s.dev.rd (.sec .DBG_STATUS_LEVEL) ≠ 0 → LcRefused .lcField s 4) ∧
        (s.dev.rd (.sec .DBG_STATUS_LEVEL) = 0 →
          Effect .lcField s [] [.sec] (fun t => t.sec = { s.dev.sec with lcTo := some 2 })))) ∧
    (s.dev.sec.lcTo = some dest → lcAllowed s.otp dest = true →
      EffectOtp .lcTransitionDone s (.sec .LC_RESULT_LAST :: .sec .EVT_LC_CHG :: chalRegs)
        (([.sec, .irqs] : List Part) ++ (if dest = 3 then [.cry, .mem, .marks, .writeBacks] else [])) (fun o t =>
          o = { s.otp with lc := dest } ∧ t.rd (.sec .LC_RESULT_LAST) = 0 ∧ t.rd (.sec .EVT_LC_CHG) = 1 ∧ t.sec.lcTo = none ∧
          (dest = 3 → t.cry.keys = [] ∧ ∀ k, 64 * saLine 0 0 ≤ k → k < 64 * (saLine 0 0 + 4096) → Mem.get t.mem k = 0))) ∧
    (s.dev.sec.otpOp ≠ none ∨ target = 0 ∨ 4 < target.val → Effect (.otpProgram target) s [] [] (fun _ => True)) ∧
    (s.dev.sec.otpOp ≠ none ∨ (target ≠ 1 ∧ target ≠ 2) → Effect (.otpRevoke target) s [] [] (fun _ => True)) ∧
    (∀ code, s.dev.sec.otpOp = none → 1 ≤ target.val → target.val ≤ 4 →
      code = (if s.otp.lc ≠ 0 then 1 else if s.otp.programmed target then 2 else if s.dev.inhibited then 3
        else if target ≠ 4 ∧ Config.onCurve (s.dev.otpStage target) = false then 4 else 0) →
      (code ≠ 0 → Effect (.otpProgram target) s otpRegs [] (fun t => OtpEnded t code)) ∧
      (code = 0 → Effect (.otpProgram target) s [] [.sec] (fun t =>
        t.sec = { s.dev.sec with otpOp := some (.program target (s.dev.otpStage target)) }))) ∧
    (∀ (code : Nat) (other : KeySlot), s.dev.sec.otpOp = none → target = 1 ∨ target = 2 → other = s.otp.slot (3 - target.val) →
      code = (if s.otp.lc ≠ 1 ∧ s.otp.lc ≠ 2 then 6 else if !other.prog || other.revoked then 5 else if s.dev.inhibited then 3 else 0) →
      (code ≠ 0 → Effect (.otpRevoke target) s otpRegs [] (fun t => OtpEnded t code)) ∧
      (code = 0 → Effect (.otpRevoke target) s [] [.sec] (fun t => t.sec = { s.dev.sec with otpOp := some (.revoke target) }))) ∧
    (∀ k v, s.dev.sec.otpOp = some (.program k v) → 1 ≤ k → k ≤ 4 →
      (s.otp.clash k v = true →
        Effect .otpWriteDone s (.sec .EVT_OTP_DONE :: otpRegs) [.sec, .irqs] (fun t => OtpEnded t 2 ∧ t.rd (.sec .EVT_OTP_DONE) = 1 ∧
          t.sec = { s.dev.sec with otpOp := none })) ∧
      (s.otp.clash k v = false →
        EffectOtp .otpWriteDone s (.sec .EVT_OTP_DONE :: otpRegs) [.sec, .irqs] (fun o t => OtpEnded t 0 ∧
          t.sec = { s.dev.sec with otpOp := none } ∧ o.programmed k = true ∧ o.lc = s.otp.lc ∧ o.arb = s.otp.arb ∧
          (o.bits k).length = (s.otp.bits k).length ∧
          (∀ i, i < (s.otp.bits k).length → (o.bits k).getD i 0 = (s.otp.bits k).getD i 0 ||| v.getD i 0) ∧
          (∀ j, j < 5 → j ≠ k → o.programmed j = s.otp.programmed j ∧ o.bits j = s.otp.bits j)))) ∧
    (∀ k, s.dev.sec.otpOp = some (.revoke k) → k < 4 →
      EffectOtp .otpWriteDone s (.sec .EVT_OTP_DONE :: otpRegs) [.sec, .irqs] (fun o t => OtpEnded t 0 ∧
        t.sec = { s.dev.sec with otpOp := none } ∧ o.slot k = { s.otp.slot k with revoked := true } ∧
        ∀ j, j < 4 → j ≠ k → o.slot j = s.otp.slot j)) ∧
    (s.dev.sec.arbTo ≠ none → Effect (.arbAdvance value) s [] [] (fun _ => True)) ∧
    (∀ code, s.dev.sec.arbTo = none →
      code = (if value.val ≤ s.otp.arb then 1 else if 64 < value.val then 2
        else if !s.dev.loaded || !s.dev.sealed || s.dev.rd (.cfg .IMAGE_VER_VALUE) < value.val then 3
        else if s.otp.lc ≠ 1 ∧ s.otp.lc ≠ 2 then 4 else if s.dev.d2 then 5 else if s.dev.inhibited then 6 else 0) →
      (code ≠ 0 → Effect (.arbAdvance value) s [.sec .ARB_STATUS_RESULT] [] (fun t => t.rd (.sec .ARB_STATUS_RESULT) = code)) ∧
      (code = 0 → Effect (.arbAdvance value) s [] [.sec] (fun t => t.sec = { s.dev.sec with arbTo := some value.val }))) ∧
    (∀ n, s.dev.sec.arbTo = some n →
      EffectOtp .arbAdvanceDone s [.sec .ARB_STATUS_RESULT, .sec .EVT_ARB_DONE] [.sec, .irqs] (fun o t =>
        o = { s.otp with arb := max s.otp.arb n } ∧ t.rd (.sec .ARB_STATUS_RESULT) = 0 ∧ t.rd (.sec .EVT_ARB_DONE) = 1 ∧
        t.sec = { s.dev.sec with arbTo := none }))

/-- DBG_D1_OPEN, DBG_CLOSE, DBG_TOKEN_SUBMIT, DBG_TOKEN_CHECKED, the TAP instructions and debug halts: D1 opens and closes, a CLOSE at D2 is only
counted; a submitted token is verified against the challenge it answers; it opens D1, or D2 with keys zeroised and DEBUG_D2 reported, or asks for
RMA, or is refused with its code and, for codes 2 to 7, a failure that locks at the eighth; a TAP instruction acts where it is available and
selects BYPASS elsewhere; a half halts, resumes and steps where its level lets it (R532 to R540, R604). -/
def Obligations.DebugAndTap : Prop :=
  ∀ (s : State) (token : List Byte) (value : Nat) (e : Fin 16), s.held = false →
    (s.dev.pwrState < 2 →
      (s.dev.rd (.sec .DBG_STATUS_LEVEL) = 0 →
        Effect .dbgD1Open s [.sec .DBG_STATUS_LEVEL, .sec .EVT_DBG_CHG] [.irqs] (fun t =>
          t.rd (.sec .DBG_STATUS_LEVEL) = 1 ∧ t.rd (.sec .EVT_DBG_CHG) = 1)) ∧
      (s.dev.rd (.sec .DBG_STATUS_LEVEL) = 1 →
        Effect .dbgClose s [.sec .DBG_STATUS_LEVEL, .sec .EVT_DBG_CHG] [.irqs] (fun t =>
          t.rd (.sec .DBG_STATUS_LEVEL) = 0 ∧ t.rd (.sec .EVT_DBG_CHG) = 1)) ∧
      (s.dev.rd (.sec .DBG_STATUS_LEVEL) = 2 →
        Effect .dbgClose s [.sec .CNT_CLOSE_IGNORED] [] (fun t => Counts s.dev t (.sec .CNT_CLOSE_IGNORED))) ∧
      (s.dev.sec.token = none →
        Effect .dbgTokenSubmit s (chalRegs ++ tokenRegs) [.sec] (fun t =>
          Submitted s.dev t ((List.range 40).flatMap (fun i => leBytes 4 (s.dev.rd (.sec (.DBG_TOKEN_DATA i)))))))) ∧
    (∀ code, s.dev.sec.token = some token → code = tokenCode s.otp s.dev token →
      (code = 0 → (token.getD 4 0).toNat = 1 →
        Effect .dbgTokenChecked s
          [.sec .DBG_STATUS_RESULT, .sec .DBG_STATUS_FAILS, .sec .DBG_STATUS_LEVEL, .sec .EVT_DBG_CHG, .sec .EVT_TOKEN_DONE] [.sec, .irqs]
          (fun t => t.rd (.sec .DBG_STATUS_RESULT) = 0 ∧ t.rd (.sec .DBG_STATUS_FAILS) = 0 ∧ t.rd (.sec .DBG_STATUS_LEVEL) = 1 ∧
            t.rd (.sec .EVT_TOKEN_DONE) = 1 ∧ t.sec = { s.dev.sec with token := none })) ∧
      (code = 0 → (token.getD 4 0).toNat = 2 →
        Completes .dbgTokenChecked s (fun t => t.rd (.sec .DBG_STATUS_LEVEL) = 2 ∧ t.rd (.sec .DBG_STATUS_FAILS) = 0 ∧
          Reports s.dev t 19 0 ∧ t.cry.keys = [] ∧ t.cry.pipes = [{}, {}] ∧ t.rd (.sec .EVT_TOKEN_DONE) = 1 ∧
          ∀ k, 64 * saLine 0 0 ≤ k → k < 64 * (saLine 0 0 + 4096) → Mem.get t.mem k = 0)) ∧
      (code = 0 → (token.getD 4 0).toNat = 3 →
        Effect .dbgTokenChecked s [.sec .DBG_STATUS_RESULT, .sec .DBG_STATUS_FAILS, .sec .EVT_TOKEN_DONE] [.sec, .irqs] (fun t =>
          t.rd (.sec .DBG_STATUS_RESULT) = 0 ∧ t.rd (.sec .DBG_STATUS_FAILS) = 0 ∧ t.rd (.sec .EVT_TOKEN_DONE) = 1 ∧
          t.sec = { s.dev.sec with
            token := none
            lcTo := some 3 })) ∧
      (code ≠ 0 →
        Effect .dbgTokenChecked s
          [.sec .DBG_STATUS_RESULT, .sec .DBG_STATUS_FAILS, .sec .DBG_STATUS_LOCKED, .sec .CNT_TOKEN_FAIL, .sec .EVT_TOKEN_DONE] [.sec, .irqs]
          (fun t => t.rd (.sec .DBG_STATUS_RESULT) = code ∧ Counts s.dev t (.sec .CNT_TOKEN_FAIL) ∧ t.rd (.sec .EVT_TOKEN_DONE) = 1 ∧
            t.sec = { s.dev.sec with token := none } ∧
            (2 ≤ code → code ≤ 7 → s.dev.rd (.sec .DBG_STATUS_FAILS) < 8 →
              t.rd (.sec .DBG_STATUS_FAILS) = s.dev.rd (.sec .DBG_STATUS_FAILS) + 1 ∧
              t.rd (.sec .DBG_STATUS_LOCKED) = (if s.dev.rd (.sec .DBG_STATUS_FAILS) = 7 then 1 else s.dev.rd (.sec .DBG_STATUS_LOCKED))) ∧
            (code < 2 ∨ 7 < code → t.rd (.sec .DBG_STATUS_FAILS) = s.dev.rd (.sec .DBG_STATUS_FAILS) ∧
              t.rd (.sec .DBG_STATUS_LOCKED) = s.dev.rd (.sec .DBG_STATUS_LOCKED))))) ∧
    Selects .tapIdcode s .idcode [] [.out] (fun t => t.out = s.dev.out ++ ([.tap Config.idcode 32] : List Outbound)) ∧
    Selects .tapBypass s .bypass [] [] (fun _ => True) ∧
    Selects .tapDbgChal s .dbgChal [] [.out] (fun t => t.out = s.dev.out ++ ([.tap (ofLe (s.otp.uid ++ s.dev.challenge)) 256] : List Outbound)) ∧
    (s.dev.sec.token = none →
      Selects (.tapDbgToken token) s .dbgToken (chalRegs ++ tokenRegs) [] (fun t => t.sec.token = some (sliceB token 0 160) ∧
        t.sec.tokenChal = s.dev.challenge)) ∧
    Selects .tapDbgWake s .dbgWake (.cs 0 .PM_PME_STATUS :: abortRegs) [.pwr, .hep, .irqs] (fun t =>
      (s.dev.pwrState = 3 → s.dev.rd (.pwr .STATUS_ENTERING) = 0 → t.pwr.leaving ≠ none) ∧ (s.dev.pwrState ≠ 3 → t.pwr = s.dev.pwr)) ∧
    Selects .tapDbgBridge s .dbgBridge [] [] (fun _ => True) ∧
    Selects (.tapSamplePreload value) s .samplePreload [] [] (fun t => t.sec.boundary = value) ∧
    Selects (.tapExtest value) s .extest [] [.out] (fun t => t.sec.boundary = value ∧ BoundaryPins s t value) ∧
    Selects .tapClamp s .clamp [] [.out] (fun t => t.sec.boundary = s.dev.sec.boundary ∧ BoundaryPins s t s.dev.sec.boundary) ∧
    Selects .tapHighz s .highz [] [] (fun _ => True) ∧
    Effect .tapReset s [] [.sec] (fun t => t.sec = { s.dev.sec with tapIr := .idcode }) ∧
    (s.dev.mayHalt e = true →
      ((s.dev.engine e).halted = false →
        Effect (.engineHalt e) s [] [.engines] (fun t => t.engine e = { s.dev.engine e with haltReq := true } ∧
          ∀ x : Fin 16, x ≠ e → t.engine x = s.dev.engine x)) ∧
      ((s.dev.engine e).halted = true → s.dev.lockstep (e.val / 2) = false → s.dev.engState e = 3 →
        Effect (.engineResume e) s [.eng (.PAIR_STATUS_STATE_A (e.val / 2)), .eng (.PAIR_STATUS_STATE_B (e.val / 2))] [.engines] (fun t =>
          t.engState e = 0 ∧
          t.engine e = { s.dev.engine e with
            haltReq := false
            halted := false }))) ∧
    ((s.dev.engine e).haltReq = true → s.dev.lockstep (e.val / 2) = false → s.dev.engState e = 0 →
      Effect (.engineHaltTakesEffect e) s [.eng (.PAIR_STATUS_STATE_A (e.val / 2)), .eng (.PAIR_STATUS_STATE_B (e.val / 2))] [.engines] (fun t =>
        t.engState e = 3 ∧
        t.engine e = { s.dev.engine e with
          haltReq := false
          halted := true })) ∧
    (∀ (rd a b : Fin 32), s.dev.d2 = true → (s.dev.engine e).halted = true → s.dev.lockstep (e.val / 2) = false →
      (∃ w, s.dev.fetch e = (w, false, s.dev) ∧ Op.decode w = some (.add rd a b)) →
      Completes (.engineSingleStep e) s (fun t =>
        WritesReg s.dev t e rd (both s e a b (fun x y => x + y)) ∧ NextPc s.dev t e ∧ OnlyEngine s.dev t e))

/-- POWER_ON_RESET, POWER_ON_CLASS_RESET, WARM_RESET, SAFETY_RESET and WATCHDOG_EXPIRY leave what their scope keeps and everything else at its
reset value, held until RESET_RELEASE; a request with a wrong key, with the monitor armed, or a safety reset with it not TRIPPED, is refused;
WDT_FEED restarts the watchdog or is counted; PCIE_PERST_N holds HEP in reset and releases it; RESET_RELEASE initialises the memories and the
Almanac and reads SFDP, but not with TEST_EN high; HEADER_STAGE_END puts the chosen header in force and starts its image (R452, R503, R543 to
R556, R593). -/
def Obligations.ResetsAndBoot : Prop :=
  ∀ (s : State) (key : BitVec 8) (value : BitVec 32) (testEn sfdp quad erase addr4 : Bool) (log2 : Fin 32) (a b : List Byte),
    Resets .powerOnReset s s.dev .powerOn ∧
    Resets .powerOnClassReset s
      (match s.dev.pwr.dip with | some x => s.dev.dipRecord x (s.dev.now - x.openAt) true | none => s.dev) (scopeOf s.dev .powerOnClass) ∧
    (Awake s →
      (key ≠ 0xA5 → RstRefused (.warmReset key) s 1 ∧ RstRefused (.safetyReset key) s 1) ∧
      (s.dev.armed = true → RstRefused (.warmReset 0xA5) s 2) ∧
      (s.dev.safState ≠ 3 → RstRefused (.safetyReset 0xA5) s 3) ∧
      (s.dev.armed = false → Resets (.warmReset 0xA5) s s.dev (scopeOf s.dev .warm)) ∧
      (s.dev.safState = 3 → Resets (.safetyReset 0xA5) s s.dev (scopeOf s.dev .safety)) ∧
      (value = 0x0000F33D →
        Effect (.wdtFeed value) s [] [.sbd] (fun t => t.sbd = { s.dev.sbd with
          wdtAcc := 0
          wdtFrom := if s.dev.rd (.sbd .WDT_CFG_EN) ≠ 0 then some s.dev.now else none })) ∧
      (value ≠ 0x0000F33D →
        Effect (.wdtFeed value) s [.sbd .WDT_STATUS_BAD_FEED] [] (fun t => Counts s.dev t (.sbd .WDT_STATUS_BAD_FEED)))) ∧
    (∀ x d, s.held = false → s.dev.sbd.wdtFrom = some x → s.dev.rd (.sbd .WDT_CFG_EN) ≠ 0 → s.dev.safState = 0 ∨ s.dev.safState = 3 →
      s.dev.pwrState ≠ 3 → d = s.dev.elapse (x + s.dev.rd (.sbd .WDT_CFG_PERIOD) * 1000000 - s.dev.sbd.wdtAcc - s.dev.now) →
      Resets .watchdogExpiry s d (scopeOf s.dev (.watchdog (s.dev.safState = 3)))) ∧
    (s.held = false → s.dev.hep.perst = false →
      Completes .perstAssert s (fun t => t.hep = { perst := true } ∧ t.irqs = [] ∧ t.apWait = [] ∧ CfgAtReset t 0 ∧ CfgAtReset t 1 ∧
        t.rd (.hep .LINK_STATUS_DL_UP) = 0 ∧
        ∀ f, linkSticky (.hep f) = false → (∀ x, f ≠ .RDQ_MAX x) → t.rd (.hep f) = Regs.get [] (.hep f))) ∧
    (s.dev.hep.perst = true →
      (s.held = false →
        Effect .perstDeassert s [.sbd .RST_CAUSE_LAST] [.hep] (fun t => t.rd (.sbd .RST_CAUSE_LAST) = 5 ∧
          t.hep = { s.dev.hep with perst := false })) ∧
      (s.held = true → Effect .perstDeassert s [] [.hep] (fun t => t.hep = { s.dev.hep with perst := false }))) ∧
    (s.held = true →
      (testEn = true → s.dev.boot.kind.hitsTim = true →
        Effect (.resetRelease testEn sfdp quad erase addr4 log2) s [] [] (fun _ => True)) ∧
      (testEn = false ∨ s.dev.boot.kind.hitsTim = false →
        Effect (.resetRelease testEn sfdp quad erase addr4 log2) s
          (([.sbd .RST_CAUSE_LAST, .sbd .RST_CAUSE_WARM_CNT, .sbd .RST_CAUSE_WDT_SAFETY, .sbd .RST_CAUSE_WDT_CNT, .sbd .RST_CAUSE_SAFETY_CNT,
            .sbd .BOOT_STATUS_RESULT, .sbd .SFDP_INFO_LOG2_BYTES, .sbd .SFDP_INFO_QUAD, .sbd .SFDP_INFO_ADDR4, .sbd .SFDP_INFO_FALLBACK] : List Fld) ++
            chalRegs) [.mem, .marks, .writeBacks, .boot, .cal, .sbd] (fun t =>
          t.boot = { s.dev.boot with
            stage := 1
            t0 := s.dev.now } ∧
          t.rd (.sbd .RST_CAUSE_LAST) = s.dev.boot.kind.rank ∧ t.rd (.sbd .BOOT_STATUS_RESULT) = 3 ∧ t.marks = [] ∧
          t.cal.latched = s.otp.almanac ∧
          (∀ e : Fin 14, almForce (t.alm e) = sliceB (s.otp.almanac.getD e []) 0 16 ∧ almPending (t.alm e) = almForce (t.alm e) ∧
            leAt (t.alm e) 60 4 = crc32c ((t.alm e).take 60)) ∧
          (∀ k, (∀ e : Fin 14, k / 64 ≠ almLine e) → Mem.get t.mem k = 0) ∧
          t.rd (.sbd .SFDP_INFO_QUAD) = b2n (sfdp && quad && erase) ∧ t.rd (.sbd .SFDP_INFO_ADDR4) = b2n (sfdp && addr4) ∧
          t.rd (.sbd .SFDP_INFO_FALLBACK) = b2n !(sfdp && quad && erase) ∧ (sfdp = true → t.rd (.sbd .SFDP_INFO_LOG2_BYTES) = log2)))) ∧
    (s.dev.boot.stage = 1 →
      (chooseHeader a b = none →
        Effect (.headerStageEnd a b) s (.sbd .BOOT_STATUS_RESULT :: idRegs) [.boot] (fun t =>
          t.boot = { s.dev.boot with stage := 2 } ∧ IdsAre t 0x1F4B 0 0x31 ∧ t.rd (.sbd .BOOT_STATUS_RESULT) = 1)) ∧
      (∀ (n : Nat) (h : List Byte) (slot : Nat × Nat), chooseHeader a b = some (n, h) →
        slot = (if (leAt h 0x0D 1).testBit 1 then (leAt h 0x18 4, leAt h 0x1C 4) else (leAt h 0x10 4, leAt h 0x14 4)) →
        slot.1 + slot.2 ≤ 2 ^ s.dev.rd (.sbd .SFDP_INFO_LOG2_BYTES) →
        Effect (.headerStageEnd a b) s (.sbd .BOOT_STATUS_HDR :: idRegs) [.boot, .cfg] (fun t =>
          t.boot = { s.dev.boot with
            stage := 2
            slots := [(leAt h 0x10 4, leAt h 0x14 4), (leAt h 0x18 4, leAt h 0x1C 4)]
            autoRun := (leAt h 0x0D 1).testBit 0
            preferB := (leAt h 0x0D 1).testBit 1 } ∧
          t.rd (.sbd .BOOT_STATUS_HDR) = n ∧ IdsAre t (leAt h 8 2) (leAt h 0x0A 2) (leAt h 0x0E 1 % 128) ∧
          t.cfg = { s.dev.cfg with load := some { boot := true, slotB := (leAt h 0x0D 1).testBit 1, len := slot.2 } })))

/-- FLASH_READ, FLASH_PROGRAM, FLASH_ERASE and FLASH_OP_DONE, and GPIO_EDGE: a flash command starts, or ends with the code of the first check
that fails; its end stores the page read, or the result; an edge changes the pin's level, sets its event when its direction is enabled, and a
rising one enabled to wakes the device (R516, R560, R566). -/
def Obligations.FlashAndGpio : Prop :=
  ∀ (s : State) (timeout : Bool) (page : List Byte) (n : Fin 8) (rise : Bool), s.held = false →
    (s.dev.pwrState < 2 → FlashStarts .flashRead s 1 256 [] ∧ FlashStarts .flashErase s 3 4096 [] ∧
      FlashStarts .flashProgram s 2 256 ((List.range 64).flatMap (fun i => leBytes 4 (s.dev.rd (.sbd (.FL_BUF_DATA i)))))) ∧
    (∀ a, s.dev.sbd.flash = some (1, a) →
      Effect (.flashOpDone timeout page) s (.sbd .FL_STATUS_RESULT :: (List.range 64).map (fun i => Fld.sbd (.FL_BUF_DATA i))) [.sbd] (fun t =>
        t.sbd = { s.dev.sbd with flash := none } ∧ t.rd (.sbd .FL_STATUS_RESULT) = 0 ∧
        ∀ i : Fin 64, t.rd (.sbd (.FL_BUF_DATA i)) = leAt page (4 * i) 4)) ∧
    (∀ op a, s.dev.sbd.flash = some (op, a) → op ≠ 1 →
      Effect (.flashOpDone timeout page) s [.sbd .FL_STATUS_RESULT] [.sbd] (fun t =>
        t.sbd = { s.dev.sbd with flash := none } ∧ t.rd (.sbd .FL_STATUS_RESULT) = (if timeout then 4 else 0))) ∧
    (∀ on : Bool, on = bitAt (s.dev.rd (.sbd (if rise then .GPIO_EDGE_RISE else .GPIO_EDGE_FALL))) n → s.dev.pwrState < 2 →
      s.dev.rd (.pwr .STATUS_ENTERING) = 0 →
      Effect (.gpioEdge n rise) s [.sbd .GPIO_IN_IN, .sbd .GPIO_EVT_EVT] [.irqs] (fun t =>
        t.rd (.sbd .GPIO_IN_IN) = (if rise then setBit (s.dev.rd (.sbd .GPIO_IN_IN)) n else clrBit (s.dev.rd (.sbd .GPIO_IN_IN)) n) ∧
        t.rd (.sbd .GPIO_EVT_EVT) = (if on then setBit (s.dev.rd (.sbd .GPIO_EVT_EVT)) n else s.dev.rd (.sbd .GPIO_EVT_EVT)))) ∧
    (bitAt (s.dev.rd (.pwr .WAKE_EN_GPIO)) n = true → s.dev.pwrState = 3 → s.dev.rd (.pwr .STATUS_ENTERING) = 0 → s.dev.pwr.leaving = none →
      Effect (.gpioEdge n true) s [.sbd .GPIO_IN_IN, .pwr .WAKE_STATUS_SRC, .cs 0 .PM_PME_STATUS] [.pwr, .hep] (fun t =>
        t.rd (.pwr .WAKE_STATUS_SRC) = setBit (s.dev.rd (.pwr .WAKE_STATUS_SRC)) (4 + n.val) ∧ t.pwr.leaving ≠ none))

/-- The SMBus endpoint: a bad packet is counted, a served request waits, the MCTP control and PLDM commands answer in order of arrival with
the data the standards give them (their layouts are the model's choice, assumption 15: this statement is about the model's reading of R561 and
R562), a lost arbitration waits for its retry, after the bus free time and the backoff the packets are sent again, after eight losses the
response is given up, and a stuck clock counts an attempt (R561 to R565). -/
def Obligations.SmbusEndpoint : Prop :=
  ∀ (s : State) (n : Fin 4), s.held = false →
    (∀ p : List Byte, s.dev.smbusOn = true → leAt p 0 1 = s.dev.rd (.sbd .SMB_STATUS_ADDR) * 2 →
      (packetOk p = false →
        Effect (.smbusPacketRx p) s [.sbd .SMB_CNT_RX_BAD] [] (fun t => Counts s.dev t (.sbd .SMB_CNT_RX_BAD))) ∧
      (∀ c, packetOk p = true → leAt p 5 1 = s.dev.rd (.sbd .SMB_STATUS_EID) → packetCmd p = some c → servedCmd c = true →
        Effect (.smbusPacketRx p) s [] [.sbd] (fun t => t.sbd = { s.dev.sbd with rx := s.dev.sbd.rx ++ [p] }))) ∧
    (∀ p ps e, Asks s.dev (0, 1) 2 p ps → e = leAt (packetData p) 1 1 →
      (leAt (packetData p) 0 1 % 4 < 2 → 8 ≤ e → e ≠ 0xFF →
        Answers .mctpSetEndpointId s p ps [.sbd .SMB_STATUS_EID] e s.dev.sbd.tid (fun bs => bs = [0, 0, BitVec.ofNat 8 e, 0])) ∧
      (1 < leAt (packetData p) 0 1 % 4 ∨ e < 8 ∨ e = 0xFF →
        Answers .mctpSetEndpointId s p ps [] (s.dev.rd (.sbd .SMB_STATUS_EID)) s.dev.sbd.tid (fun bs => bs = [2]))) ∧
    Serves .mctpGetEndpointId s (0, 2) 0 (fun _ bs => bs = [0, BitVec.ofNat 8 (s.dev.rd (.sbd .SMB_STATUS_EID)), 0, 0]) ∧
    Serves .mctpGetVersionSupport s (0, 4) 1 (fun x bs =>
      if leAt x 0 1 = 0 ∨ leAt x 0 1 = 1 ∨ leAt x 0 1 = 0xFF then bs.length = 6 ∧ bs.take 2 = [0, 1] else bs = [0x80]) ∧
    Serves .mctpGetMessageTypeSupport s (0, 5) 0 (fun _ bs => bs = [0, 1, 1]) ∧
    Serves .pldmGettid s (1, 2) 0 (fun _ bs => bs = [0, BitVec.ofNat 8 s.dev.sbd.tid]) ∧
    (∀ p ps x, Asks s.dev (1, 1) 1 p ps → x = leAt (packetData p) 0 1 →
      (x ≠ 0 → x ≠ 0xFF →
        Answers .pldmSettid s p ps [] (s.dev.rd (.sbd .SMB_STATUS_EID)) x (fun bs => bs = [0])) ∧
      (x = 0 ∨ x = 0xFF →
        Answers .pldmSettid s p ps [] (s.dev.rd (.sbd .SMB_STATUS_EID)) s.dev.sbd.tid (fun bs => bs = [2]))) ∧
    Serves .pldmGetpldmversion s (1, 3) 6 (fun x bs =>
      if leAt x 5 1 = 0 ∨ leAt x 5 1 = 2 then ∃ v, v.length = 4 ∧ bs = [0, 0, 0, 0, 0, 5] ++ v ++ leBytes 4 (crc32 v) else bs = [0x83]) ∧
    Serves .pldmGetpldmtypes s (1, 4) 0 (fun _ bs => bs = [0, 5, 0, 0, 0, 0, 0, 0, 0]) ∧
    Serves .pldmGetpldmcommands s (1, 5) 5 (fun x bs =>
      if leAt x 0 1 = 0 then bs = 0 :: leBytes 32 0x3E
      else if leAt x 0 1 = 2 then bs = 0 :: leBytes 32 (2 ^ 0x11 + 2 ^ 0x21 + 2 ^ 0x50 + 2 ^ 0x51) else bs = [0x83]) ∧
    Serves .pldmGetsensorreading s (3, 0x11) 3 (fun x bs =>
      if leAt x 0 2 = 1 ∨ leAt x 0 2 = 2 then bs.length = 9 ∧ bs.take 2 = [0, 3]
      else if leAt x 0 2 = 3 then bs = [0, 0, 0, 0, 1, 1, 1, BitVec.ofNat 8 (s.dev.rd (.pwr .SUP_STATUS_VOLT))] else bs = [0x80]) ∧
    Serves .pldmGetstatesensorreadings s (3, 0x21) 4 (fun x bs =>
      if leAt x 0 2 = 4 then bs.take 4 = [0, 1, 0, BitVec.ofNat 8 (safStatus s.otp s.dev + 1)]
      else if leAt x 0 2 = 5 then bs.take 4 = [0, 1, 0, BitVec.ofNat 8 (s.dev.pwrState + 1)] else bs = [0x80]) ∧
    Serves .pldmGetpdrrepositoryinfo s (3, 0x50) 0 (fun _ bs => bs.length = 41 ∧ bs.take 2 = [0, 0] ∧ leAt bs 28 4 = 5) ∧
    Serves .pldmGetpdr s (3, 0x51) 13 (fun x bs => ∀ h, h = (if leAt x 0 4 = 0 then 1 else leAt x 0 4) →
      if h ≤ 5 then bs.take 1 = [0] ∧ leAt bs 1 4 = (if h = 5 then 0 else h + 1) ∧ leAt bs 12 4 = h else bs = [0x82]) ∧
    (s.dev.sbd.packets.drop n ≠ [] →
      Effect (.smbusArbLost n) s [.sbd .SMB_CNT_ARB_LOST] [.sbd] (fun t => Counts s.dev t (.sbd .SMB_CNT_ARB_LOST) ∧
        t.sbd = { s.dev.sbd with
          packets := s.dev.sbd.packets.drop n
          losses := (if n = 0 then s.dev.sbd.losses else 0) + 1
          retry := true })) ∧
    (s.dev.sbd.retry = true → s.dev.sbd.packets ≠ [] →
      (8 ≤ s.dev.sbd.losses →
        Effect .smbusRetry s [.sbd .SMB_STATUS_SMB_ARB_FAIL, .sbd .SMB_CNT_ARB_FAIL] [.sbd, .irqs] (fun t =>
          t.rd (.sbd .SMB_STATUS_SMB_ARB_FAIL) = 1 ∧ Counts s.dev t (.sbd .SMB_CNT_ARB_FAIL) ∧ t.sbd.packets = [] ∧ t.sbd.retry = false)) ∧
      (∀ l, s.dev.sbd.losses < 8 → l = lfsr16 s.dev.sbd.lfsr →
        Effect .smbusRetry s [] (.sbd :: .out :: timeParts) (fun t =>
          t.now = s.dev.now + (if s.dev.rd (.sbd .SMB_CFG_FAST) ≠ 0 then 1300 else 4700) + l % 8 * 10000 ∧
          t.out = s.dev.out ++ s.dev.sbd.packets.map .smbus ∧
          t.sbd = { s.dev.sbd with
            lfsr := l
            retry := false }))) ∧
    Effect .smbusClockLowTimeout s [.sbd .SMB_CNT_TIMEOUT] [.sbd] (fun t => Counts s.dev t (.sbd .SMB_CNT_TIMEOUT) ∧
      (s.dev.sbd.packets = [] → t.sbd = s.dev.sbd) ∧
      (s.dev.sbd.packets ≠ [] → t.sbd = { s.dev.sbd with
        losses := s.dev.sbd.losses + 1
        retry := true }))

/-- COUNTER_OVERFLOW, PMC_CNT_WRITE, PMC_SEL_WRITE, PMC_FREEZE, PMC_UNFREEZE, PMC_SNAP and COUNTER_SNAPSHOT_TASK: a wrapped counter sets its bit; a
write sets the counter, or selects an event and clears it; FREEZE follows its command; a snapshot copies every counter into the other bank under
the next number, or is skipped under HOLD (R567, R569, R570, R573, R574). -/
def Obligations.CountersAndSnapshots : Prop :=
  ∀ (s : State) (n : Fin 384) (slot : Fin 64) (value : BitVec 64) (sel : BitVec 32), s.held = false →
    (∀ k ks, s.dev.pmc.wrapped = k :: ks → k < 384 →
      Effect .counterOverflow s [.pmc (.OVF_OVF (k / 32))] [.irqs] (fun t =>
        t.rd (.pmc (.OVF_OVF (k / 32))) = setBit (s.dev.rd (.pmc (.OVF_OVF (k / 32)))) (k % 32) ∧ t.pmc.wrapped = ks)) ∧
    (s.dev.pwrState < 2 →
      Effect (.pmcCntWrite n value) s [] [] (fun t => t.rd (.pmc (.CNT_COUNT n)) = value.toNat % 2 ^ 48 ∧ CountsKept s.dev t [n.val]) ∧
      (∀ insts, eventInsts (sel.toNat % 256) = some insts → sel.toNat / 256 % 256 < insts →
        Effect (.pmcSelWrite n sel) s [.pmc (.SEL_EVENT n), .pmc (.SEL_INST n), .pmc (.SEL_OVF_IRQ n), .pmc (.SEL_EN n)] [.irqs] (fun t =>
          t.rd (.pmc (.SEL_EVENT n)) = sel.toNat % 256 ∧ t.rd (.pmc (.SEL_INST n)) = sel.toNat / 256 % 256 ∧
          t.rd (.pmc (.SEL_OVF_IRQ n)) = sel.toNat / 2 ^ 30 % 2 ∧ t.rd (.pmc (.SEL_EN n)) = sel.toNat / 2 ^ 31 ∧
          t.rd (.pmc (.CNT_COUNT n)) = 0 ∧ CountsKept s.dev t [n.val])) ∧
      Effect .pmcFreeze s [.pmc .CTRL_FREEZE] [] (fun t => t.rd (.pmc .CTRL_FREEZE) = 1) ∧
      Effect .pmcUnfreeze s [.pmc .CTRL_FREEZE] [] (fun t => t.rd (.pmc .CTRL_FREEZE) = 0) ∧
      (s.dev.rd (.pmc .CTRL_HOLD) ≠ 0 →
        Effect .pmcSnap s [.pmc .SNAP_INFO_SKIP] [] (fun t => Counts s.dev t (.pmc .SNAP_INFO_SKIP))) ∧
      (s.dev.rd (.pmc .CTRL_HOLD) = 0 → s.dev.pmc.snapAt ≠ some (s.dev.now * 4 / 5) →
        Effect .pmcSnap s (snapRegs s.dev) [.pmc] (fun t => Snapped s.dev t 1)) ∧
      (s.dev.rd (.pmc .CTRL_HOLD) = 0 → s.dev.pmc.snapAt = some (s.dev.now * 4 / 5) → Effect .pmcSnap s [] [] (fun _ => True))) ∧
    (s.dev.taskRuns slot 3 = true →
      (s.dev.rd (.pmc .CTRL_HOLD) ≠ 0 →
        Effect (.counterSnapshotTask slot) s (.pmc .SNAP_INFO_SKIP :: recFields slot) [.tick] (fun t =>
          Counts s.dev t (.pmc .SNAP_INFO_SKIP) ∧ (t.occ slot).state = .ended ∧ t.rd (.tck (.SLOT_REC_STATUS slot)) = 0)) ∧
      (s.dev.rd (.pmc .CTRL_HOLD) = 0 → s.dev.pmc.snapAt ≠ some (s.dev.now * 4 / 5) →
        Effect (.counterSnapshotTask slot) s (snapRegs s.dev ++ recFields slot) [.pmc, .tick] (fun t =>
          Snapped s.dev t 0 ∧ (t.occ slot).state = .ended ∧ t.rd (.tck (.SLOT_REC_STATUS slot)) = 0)) ∧
      (s.dev.rd (.pmc .CTRL_HOLD) = 0 → s.dev.pmc.snapAt = some (s.dev.now * 4 / 5) →
        Effect (.counterSnapshotTask slot) s (.pmc .SNAP_INFO_SRC :: recFields slot) [.tick] (fun t =>
          t.rd (.pmc .SNAP_INFO_SRC) = 0 ∧ (t.occ slot).state = .ended)))

/-- SAMPLE_TAKEN, SAMPLE_RECORD_WRITE, SAMPLE_RD_WRITE and SMP_CFG_WRITE: the record of the oldest sampled instruction is formed with the next
number, or lost when two wait; it is written at WR, with LOST set after a loss, or lost in a full buffer, and the watermark is reported; RD
moves within the 128 records held, or the write is refused; a written configuration or period reloads both countdowns, EN starting the
numbers anew (R576, R579, R581 to R583). -/
def Obligations.Sampling : Prop :=
  ∀ (s : State) (p : Fin 8) (h : Fin 2) (x : SmpHalf), s.held = false → x = (s.dev.smp p).halves.getD h {} →
    (∀ r rs, x.hits = r :: rs →
      ((s.dev.smp p).formed.length < 2 →
        Effect (.sampleTaken p h) s [] [.pmc] (fun t => ((t.smp p).halves.getD h {}).seq = (x.seq + 1) % 2 ^ 32 ∧
          ((t.smp p).halves.getD h {}).hits = rs ∧
          (t.smp p).formed = (s.dev.smp p).formed ++ [(h.val, r.bytes ++ leBytes 4 ((x.seq + 1) % 2 ^ 32) ++ leBytes 4 0)] ∧
          ∀ q : Fin 8, q ≠ p → t.smp q = s.dev.smp q)) ∧
      (2 ≤ (s.dev.smp p).formed.length →
        Effect (.sampleTaken p h) s [.pmc (.SMP_STATUS_LOST p)] [.pmc] (fun t => Counts s.dev t (.pmc (.SMP_STATUS_LOST p)) ∧
          (t.smp p).halves.getD h {} = { x with
            hits := rs
            seq := (x.seq + 1) % 2 ^ 32
            lost := true } ∧
          (t.smp p).formed = (s.dev.smp p).formed))) ∧
    (∀ r fs wr, (s.dev.smp p).formed = (h.val, r) :: fs → wr = s.dev.rd (.pmc (.SMP_PTR_WR p)) → r.length = 32 →
      (s.dev.smpOcc p (s.dev.rd (.pmc (.SMP_PTR_RD p))) ≠ 128 →
        Effect (.sampleRecordWrite p) s [.pmc (.SMP_PTR_WR p), .pmc (.SMP_STATUS_WM_HIT p)] [.pmc, .irqs] (fun t =>
          t.rd (.pmc (.SMP_PTR_WR p)) = (wr + 1) % 256 ∧ (t.smp p).formed = fs ∧
          (∃ v, (t.smp p).buf.getD (wr % 128) [] = r.take 3 ++ [v] ++ r.drop 4 ∧
            v.toNat = ((r.getD 3 0).toNat + if x.lost then 32 else 0) % 256) ∧
          (∀ i : Fin 128, i.val ≠ wr % 128 → (t.smp p).buf.getD i [] = (s.dev.smp p).buf.getD i []) ∧
          ((t.smp p).halves.getD h {}).lost = false ∧
          (s.dev.rd (.pmc (.SMP_WM_WM p)) ≠ 0 → t.smpOcc p (s.dev.rd (.pmc (.SMP_PTR_RD p))) = s.dev.rd (.pmc (.SMP_WM_WM p)) →
            t.rd (.pmc (.SMP_STATUS_WM_HIT p)) = 1))) ∧
      (s.dev.smpOcc p (s.dev.rd (.pmc (.SMP_PTR_RD p))) = 128 →
        Effect (.sampleRecordWrite p) s [.pmc (.SMP_STATUS_LOST p)] [.pmc] (fun t => Counts s.dev t (.pmc (.SMP_STATUS_LOST p)) ∧
          (t.smp p).formed = fs ∧ (t.smp p).buf = (s.dev.smp p).buf ∧ ((t.smp p).halves.getD h {}).lost = true))) ∧
    (∀ value : BitVec 8, s.dev.pwrState < 2 →
      ((s.dev.rd (.pmc (.SMP_PTR_WR p)) + 256 - value.toNat) % 256 ≤ 128 →
        Effect (.sampleRdWrite p value) s [.pmc (.SMP_PTR_RD p)] [] (fun t => t.rd (.pmc (.SMP_PTR_RD p)) = value.toNat)) ∧
      (128 < (s.dev.rd (.pmc (.SMP_PTR_WR p)) + 256 - value.toNat) % 256 →
        Effect (.sampleRdWrite p value) s [.pmc (.SMP_STATUS_RD_REFUSED p)] [] (fun t =>
          Counts s.dev t (.pmc (.SMP_STATUS_RD_REFUSED p))))) ∧
    (∀ v : BitVec 32, s.dev.pwrState < 2 →
      (v.toNat % 2 ^ 20 ≠ 0 →
        Effect (.smpCfgWrite p true v) s [.pmc (.SMP_PERIOD_PERIOD p)] [.pmc] (fun t => t.rd (.pmc (.SMP_PERIOD_PERIOD p)) = v.toNat % 2 ^ 20 ∧
          ∀ k : Fin 2, v.toNat % 2 ^ 20 ≤ ((t.smp p).halves.getD k {}).count ∧
            ((t.smp p).halves.getD k {}).count < v.toNat % 2 ^ 20 + 2 ^ s.dev.rd (.pmc (.SMP_CFG_JITTER p)))) ∧
      (v.toNat / 2 % 4 ≠ 3 → v.toNat / 2 ^ 16 % 16 ≤ 8 →
        Effect (.smpCfgWrite p false v) s
          [.pmc (.SMP_CFG_EN p), .pmc (.SMP_CFG_CLASS_MASK p), .pmc (.SMP_CFG_HALF p), .pmc (.SMP_CFG_JITTER p)] [.pmc] (fun t =>
            t.rd (.pmc (.SMP_CFG_EN p)) = v.toNat % 2 ∧ t.rd (.pmc (.SMP_CFG_CLASS_MASK p)) = v.toNat / 2 ^ 8 % 256 ∧
            t.rd (.pmc (.SMP_CFG_HALF p)) = v.toNat / 2 % 4 ∧ t.rd (.pmc (.SMP_CFG_JITTER p)) = v.toNat / 2 ^ 16 % 16 ∧
            ∀ k : Fin 2, s.dev.rd (.pmc (.SMP_PERIOD_PERIOD p)) ≤ ((t.smp p).halves.getD k {}).count ∧
              ((t.smp p).halves.getD k {}).count < s.dev.rd (.pmc (.SMP_PERIOD_PERIOD p)) + 2 ^ (v.toNat / 2 ^ 16 % 16))))

/-- A step takes the command at the front of the queue and is its `exec` with the queue's rest, for every command and state.  That the device
idles for 1 ns of CORE on an empty queue is this model's choice (assumption 2). -/
def Obligations.StepRunsTheFrontCommand : Prop :=
  (∀ (s : State) (c : Instr) (r : List Instr), s.pending = c :: r → step s = exec c { s with pending := r }) ∧
  (∀ (s : State) (c : Instr), step (s.push c) = exec c s) ∧
  (∀ s : State, s.pending = [] → s.heldTim = false →
    ∃ t, step s = .next t ∧ t.pending = [] ∧ t.otp = s.otp ∧ t.dev.now = s.dev.now + 1 ∧ RegsKept s.dev t.dev [] ∧
      PartsKept s.dev t.dev [.time, .tick, .ports]) ∧
  (∀ s : State, s.pending = [] → s.heldTim = true → step s = .next s)

/-- Every command, in every state, answers a next state and leaves the waiting commands alone: no command of the table faults or is refused,
so every run is safe. -/
def Obligations.EveryCommandCompletes : Prop :=
  (∀ (c : Instr) (s : State), ∃ t, exec c s = .next t ∧ t.pending = s.pending) ∧ ∀ s : State, SafeRun s

/-- A device held in a reset ignores every command but the resets, PERST_N and the release, and those of TIM's and SAF's logic where the
reset leaves these blocks running; those too while the reset covers them (R543, R544). -/
def Obligations.ResetHoldsCommandsBack : Prop :=
  ∀ (c : Instr) (s : State), resetCommand c = false → s.held = true →
    (timCommand c = false → safCommand c = false → exec c s = .next s) ∧
    (timCommand c = true → s.heldTim = true → exec c s = .next s) ∧
    (safCommand c = true → s.heldSaf = true → exec c s = .next s)

/-- The device after power-on reset: the values of the register tables' Reset columns for the fields named, every byte of memory 0 (R32) and the
memory canonical, no command waiting, every time 0, the monitor DISARMED, SAFE_OUT de-energised. -/
def Obligations.ResetValues : Prop :=
  State.reset.pending = [] ∧ MemOk State.reset ∧ (∀ a, Mem.get State.reset.dev.mem a = 0) ∧ (∀ l, State.reset.dev.mark l = .clean) ∧
  State.reset.held = true ∧ State.reset.dev.now = 0 ∧ State.reset.dev.tb = 0 ∧
  (∀ e i, State.reset.dev.wreg e i = (0, false)) ∧
  (∀ v ∈ ([(.sys .ID_VENDOR, 0x1F4B), (.sys .ID_DEVICE, 0x7B70), (.sys .REVISION_MAJOR, 1), (.sys .CONFIG_PORTS, 4),
      (.sys .CONFIG_PAIRS, 8), (.sys .CONFIG_ROOT_PORTS, 2), (.tck .CTRL_RUN, 0), (.tck .PERIOD_N, 8), (.tck .MARGIN_PCT, 12),
      (.cfg .SIG_STATUS_UNSEALED, 1), (.cfg .CONF_CTRL_TIMEOUT, 4000), (.nvt (.CONN_PORTS_REMOTE_PORT 3), 4420),
      (.nvt (.CONN_TCP_MSS 15), 1396), (.nvt (.QP_CFG_MAX_OUT 63), 16), (.rng (.SQ_CTRL_LOG2SIZE 255), 6),
      (.rng (.CQ_CTRL_COAL_CNT 0), 1), (.dma .VAT_STATUS_FREE, 8192), (.dma .VAT_STATUS_POOL_FREE, 7680),
      (.dma (.VAT_QUOTA_RESERVE 0), 512), (.dma (.VAT_QUOTA_RESERVE 1), 0), (.dma (.VAT_QUOTA_LIMIT 0), 8192),
      (.hep (.RDQ_MAX 0), 256), (.hep (.RDQ_MAX 49), 64), (.hep .CPL_TMO_MS, 16), (.hep .CTN_CTRL_QUAR_LIMIT, 256),
      (.brg (.RP_CTRL_PERST 0), 1), (.brg (.RP_CTRL_MAX_SPEED 1), 3), (.brg (.RP_CTN_TRIG 0), 39), (.tim .CTRL_STEP_EN, 1),
      (.tim .LOCK_LOCK_NS, 100), (.tim .LOCK_LOSS, 30), (.tim .UTC_OFFSET_S, 37), (.cal (.CFG_SPREAD_MAX), 32),
      (.saf .STATE_STATE, 0), (.saf .STATE_STATUS, 2), (.saf .HA_CFG_MAX_US, 100000), (.saf .PIN_STATUS_OUT_B, 1),
      (.pwr .GUARD_NS, 1000), (.pwr .NEED_TOL_US, 65535), (.sbd .WDT_CFG_PERIOD, 1000), (.sbd .SMB_STATUS_ADDR, 0x31),
      (.pmc (.SMP_PERIOD_PERIOD 0), 4096), (.cs 0 .VENDOR_ID, 0x1F4B), (.cs 0 .DEVICE_ID, 0x7B70), (.cs 1 .DEVICE_ID, 0x7B71)] :
      List (Fld × Nat)), State.reset.dev.rd v.1 = v.2)

/-- The memory keeps its canonical form: rising addresses, no byte listed that an unlisted address reads as.  Every step from a state with it
reaches one with it. -/
def Obligations.MemoryStaysCanonical : Prop :=
  ∀ s t : State, MemOk s → step s = .next t → MemOk t

/-- A bit of the one-time-programmable memory once programmed stays programmed, from every state: the UID and the factory's fuses never change,
the lifecycle mark and the anti-rollback count never fall, slots stay programmed and revoked (R521, R524, R526, R530). -/
def Obligations.OtpOnlyGrows : Prop :=
  ∀ s t : State, step s = .next t → OtpGrows s.otp t.otp

/-- Decode of encode: every Tchiphor instruction with encodable operands is read back from its word, every operand at every value. -/
def Obligations.EncodedOpsDecode : Prop :=
  ∀ op : Op, op.wf = true → Op.encode op < 2 ^ 32 ∧ Op.decode (Op.encode op) = some op

/-- Words written out by the formats of R217 and the opcodes of R218, one or more for each format, and words that encode nothing. -/
def Obligations.InstructionWords : Prop :=
  Op.decode 0b000001_00001_00010_00011_00000000001 = some (.add 1 2 3) ∧
  Op.decode 0b000010_00100_00101_1111111111111111 = some (.addK 4 5 0xFFFF) ∧
  Op.decode 0b001000_00001_00010_001000_000111_0011 = some (.extr 1 2 8 7) ∧
  Op.decode 0b010000_00110_00111_0000000000000100 = some (.brEq 6 7 4) ∧
  Op.decode 0b010110_11111_111111111111111111110 = some (.jlink 31 0x1FFFFE) ∧
  Op.decode 0b011010_00001_00010_0000000000001000 = some (.ldw 1 2 8) ∧
  Op.decode 0b011111_00001_00010_0000000000010000 = some (.std 1 2 16) ∧
  Op.decode 0b100000_00001_00010_00011_00000000010 = some (.atomCas 1 2 3) ∧
  Op.decode 0b101000_01001_01000_00111_00000000100 = some (.fwd 9 8 7) ∧
  Op.decode 0b111110_00000_00000_0000000000000101 = some (.halt 5) ∧
  Op.decode 0b111111_00000_00000_00000_00000000001 = some .yield ∧
  Op.decode 0 = none ∧ Op.decode 0b000001_00001_00010_00011_00000001101 = none ∧
  Op.decode 0b001000_00001_00010_111111_000001_0011 = none ∧ Op.decode 0b111111_00001_00000_00000_00000000000 = none
end

