-- ==== Sys2Proof/Laws/Regs.lean ====
section
/-! SUPPORT.  The register store: what reading a field gives after a write of it, and of another. -/

namespace Sys2Proof.Machine

/-- A store read through its first entry for a field. -/
theorem Regs.get_cons (e : Fld × Nat) (l : List (Fld × Nat)) (g : Fld) :
    Regs.get (e :: l) g = if e.1 = g then e.2 % 2 ^ g.width else Regs.get l g := by
  unfold Regs.get
  by_cases h : e.1 = g <;> simp [h]

/-- Placing an entry for `f` where none stands makes `f` read it, and leaves every other field. -/
theorem Regs.get_place (l : List (Fld × Nat)) (f g : Fld) (v : Nat) (h : ∀ e ∈ l, e.1 ≠ f) :
    Regs.get (Regs.place l f v) g = if g = f then v % 2 ^ f.width else Regs.get l g := by
  induction l with
  | nil =>
    rw [Regs.place, Regs.get_cons]
    by_cases hg : g = f
    · simp [hg]
    · simp [hg, Ne.symm hg]
  | cons e r ih =>
    have he := h e (by simp)
    have hr := ih (fun x hx => h x (by simp [hx]))
    unfold Regs.place
    split
    · rw [Regs.get_cons]
      by_cases hg : g = f
      · simp [hg]
      · simp [hg, Ne.symm hg]
    · rw [Regs.get_cons, Regs.get_cons, hr]
      by_cases hg : g = f
      · subst hg; simp [he]
      · simp [hg]

/-- Dropping the entries of a field leaves every other field. -/
theorem Regs.get_filter (l : List (Fld × Nat)) (p : Fld → Bool) (g : Fld) :
    Regs.get (l.filter (fun e => !p e.1)) g = if p g then g.reset % 2 ^ g.width else Regs.get l g := by
  induction l with
  | nil => simp [Regs.get]
  | cons e r ih =>
    by_cases hp : p e.1
    · rw [List.filter_cons_of_neg (by simp [hp]), ih, Regs.get_cons]
      by_cases he : e.1 = g
      · simp [← he, hp]
      · simp [he]
    · rw [List.filter_cons_of_pos (by simp [hp]), Regs.get_cons, Regs.get_cons, ih]
      by_cases he : e.1 = g
      · simp [← he, hp]
      · simp [he]

/-- A field written reads the value cut to its width; every other field reads as before. -/
theorem Regs.get_set (l : List (Fld × Nat)) (f g : Fld) (v : Nat) :
    Regs.get (Regs.set l f v) g = if g = f then v % 2 ^ f.width else Regs.get l g := by
  have hf : ∀ g, Regs.get (l.filter (fun e => decide (e.1 ≠ f))) g = if g = f then g.reset % 2 ^ g.width else Regs.get l g := by
    intro g
    have h := Regs.get_filter l (fun x => decide (x = f)) g
    simp only [decide_eq_true_eq] at h
    rw [← h]
    congr 2
    funext e
    simp
  unfold Regs.set
  dsimp only
  by_cases hv : v % 2 ^ f.width = f.reset % 2 ^ f.width
  · rw [if_pos hv, hf]
    by_cases hg : g = f
    · subst hg; simp [hv]
    · simp [hg]
  · rw [if_neg hv, Regs.get_place, hf]
    · by_cases hg : g = f
      · subst hg; simp
      · simp [hg]
    · intro e he
      simpa using (List.mem_filter.mp he).2

/-- A register field after a write. -/
@[simp] theorem Dev.rd_wr (d : Dev) (f g : Fld) (v : Nat) :
    (d.wr f v).rd g = if g = f then v % 2 ^ f.width else d.rd g := Regs.get_set d.regs f g v

/-- Every field reads a value of its width. -/
theorem Dev.rd_lt (d : Dev) (f : Fld) : d.rd f < 2 ^ f.width := by
  unfold Dev.rd Regs.get
  split <;> exact Nat.mod_lt _ (Nat.two_pow_pos _)

/-- Fields returned to reset read their reset values; the rest read as before. -/
@[simp] theorem Dev.rd_resetWhere (d : Dev) (p : Fld → Bool) (g : Fld) :
    (d.resetWhere p).rd g = if p g then g.reset % 2 ^ g.width else d.rd g := Regs.get_filter d.regs p g

/-- A counter increased reads its value plus `k`, held at all ones. -/
theorem Dev.rd_incBy (d : Dev) (f g : Fld) (k : Nat) :
    (d.incBy f k).rd g = if g = f then min (d.rd f + k) (2 ^ f.width - 1) else d.rd g := by
  have h : min (d.rd f + k) (2 ^ f.width - 1) < 2 ^ f.width := by
    have := Nat.two_pow_pos f.width; omega
  unfold Dev.incBy satAdd
  rw [Dev.rd_wr, Nat.mod_eq_of_lt h]

/-- A counter counted once. -/
@[simp] theorem Dev.rd_inc (d : Dev) (f g : Fld) :
    (d.inc f).rd g = if g = f then min (d.rd f + 1) (2 ^ f.width - 1) else d.rd g := Dev.rd_incBy d f g 1

/-- Several writes, the first one outermost in time. -/
@[simp] theorem Dev.wrs_nil (d : Dev) : d.wrs [] = d := rfl
@[simp] theorem Dev.wrs_cons (d : Dev) (f : Fld) (v : Nat) (l : List (Fld × Nat)) :
    d.wrs ((f, v) :: l) = (d.wr f v).wrs l := rfl

/-- A field that no write of a list names reads as before. -/
theorem Dev.rd_wrs_of_not_mem (d : Dev) (l : List (Fld × Nat)) (g : Fld) (h : ∀ e ∈ l, e.1 ≠ g) :
    (d.wrs l).rd g = d.rd g := by
  induction l generalizing d with
  | nil => rfl
  | cons e r ih =>
    rw [show e = (e.1, e.2) from rfl, Dev.wrs_cons, ih _ (fun x hx => h x (by simp [hx])), Dev.rd_wr]
    simp [Ne.symm (h e (by simp))]

end Sys2Proof.Machine
end

