-- ==== Sys2Proof/Laws/State.lean ====
section
/-! SUPPORT.  Every field of the device after every primitive update that leaves it: one lemma per field per update, each true by rfl. -/

namespace Sys2Proof.Machine

variable (d : Dev)

/-! ### `wr` -/
@[simp] theorem Dev.wr_mem (f : Fld) (v : Nat) : (d.wr f v).mem = d.mem := rfl
@[simp] theorem Dev.wr_marks (f : Fld) (v : Nat) : (d.wr f v).marks = d.marks := rfl
@[simp] theorem Dev.wr_writeBacks (f : Fld) (v : Nat) : (d.wr f v).writeBacks = d.writeBacks := rfl
@[simp] theorem Dev.wr_used (f : Fld) (v : Nat) : (d.wr f v).used = d.used := rfl
@[simp] theorem Dev.wr_nextUid (f : Fld) (v : Nat) : (d.wr f v).nextUid = d.nextUid := rfl
@[simp] theorem Dev.wr_freeCount (f : Fld) (v : Nat) : (d.wr f v).freeCount = d.freeCount := rfl
@[simp] theorem Dev.wr_out (f : Fld) (v : Nat) : (d.wr f v).out = d.out := rfl
@[simp] theorem Dev.wr_now (f : Fld) (v : Nat) : (d.wr f v).now = d.now := rfl
@[simp] theorem Dev.wr_tb (f : Fld) (v : Nat) : (d.wr f v).tb = d.tb := rfl
@[simp] theorem Dev.wr_tbFrac (f : Fld) (v : Nat) : (d.wr f v).tbFrac = d.tbFrac := rfl
@[simp] theorem Dev.wr_ethPhase (f : Fld) (v : Nat) : (d.wr f v).ethPhase = d.ethPhase := rfl
@[simp] theorem Dev.wr_toSafe (f : Fld) (v : Nat) : (d.wr f v).toSafe = d.toSafe := rfl
@[simp] theorem Dev.wr_irqs (f : Fld) (v : Nat) : (d.wr f v).irqs = d.irqs := rfl
@[simp] theorem Dev.wr_tick (f : Fld) (v : Nat) : (d.wr f v).tick = d.tick := rfl
@[simp] theorem Dev.wr_cfg (f : Fld) (v : Nat) : (d.wr f v).cfg = d.cfg := rfl
@[simp] theorem Dev.wr_ports (f : Fld) (v : Nat) : (d.wr f v).ports = d.ports := rfl
@[simp] theorem Dev.wr_fence (f : Fld) (v : Nat) : (d.wr f v).fence = d.fence := rfl
@[simp] theorem Dev.wr_mdio (f : Fld) (v : Nat) : (d.wr f v).mdio = d.mdio := rfl
@[simp] theorem Dev.wr_classq (f : Fld) (v : Nat) : (d.wr f v).classq = d.classq := rfl
@[simp] theorem Dev.wr_engines (f : Fld) (v : Nat) : (d.wr f v).engines = d.engines := rfl
@[simp] theorem Dev.wr_txc (f : Fld) (v : Nat) : (d.wr f v).txc = d.txc := rfl
@[simp] theorem Dev.wr_cry (f : Fld) (v : Nat) : (d.wr f v).cry = d.cry := rfl
@[simp] theorem Dev.wr_sec (f : Fld) (v : Nat) : (d.wr f v).sec = d.sec := rfl
@[simp] theorem Dev.wr_boot (f : Fld) (v : Nat) : (d.wr f v).boot = d.boot := rfl
@[simp] theorem Dev.wr_hep (f : Fld) (v : Nat) : (d.wr f v).hep = d.hep := rfl
@[simp] theorem Dev.wr_dma (f : Fld) (v : Nat) : (d.wr f v).dma = d.dma := rfl
@[simp] theorem Dev.wr_sqs (f : Fld) (v : Nat) : (d.wr f v).sqs = d.sqs := rfl
@[simp] theorem Dev.wr_cqSince (f : Fld) (v : Nat) : (d.wr f v).cqSince = d.cqSince := rfl
@[simp] theorem Dev.wr_due (f : Fld) (v : Nat) : (d.wr f v).due = d.due := rfl
@[simp] theorem Dev.wr_rps (f : Fld) (v : Nat) : (d.wr f v).rps = d.rps := rfl
@[simp] theorem Dev.wr_cal (f : Fld) (v : Nat) : (d.wr f v).cal = d.cal := rfl
@[simp] theorem Dev.wr_nvt (f : Fld) (v : Nat) : (d.wr f v).nvt = d.nvt := rfl
@[simp] theorem Dev.wr_safeCore (f : Fld) (v : Nat) : (d.wr f v).safeCore = d.safeCore := rfl
@[simp] theorem Dev.wr_apWait (f : Fld) (v : Nat) : (d.wr f v).apWait = d.apWait := rfl
@[simp] theorem Dev.wr_pwr (f : Fld) (v : Nat) : (d.wr f v).pwr = d.pwr := rfl
@[simp] theorem Dev.wr_saf (f : Fld) (v : Nat) : (d.wr f v).saf = d.saf := rfl
@[simp] theorem Dev.wr_tim (f : Fld) (v : Nat) : (d.wr f v).tim = d.tim := rfl
@[simp] theorem Dev.wr_sbd (f : Fld) (v : Nat) : (d.wr f v).sbd = d.sbd := rfl
@[simp] theorem Dev.wr_pmc (f : Fld) (v : Nat) : (d.wr f v).pmc = d.pmc := rfl

/-! ### `incBy` -/
@[simp] theorem Dev.incBy_mem (f : Fld) (k : Nat) : (d.incBy f k).mem = d.mem := rfl
@[simp] theorem Dev.incBy_marks (f : Fld) (k : Nat) : (d.incBy f k).marks = d.marks := rfl
@[simp] theorem Dev.incBy_writeBacks (f : Fld) (k : Nat) : (d.incBy f k).writeBacks = d.writeBacks := rfl
@[simp] theorem Dev.incBy_used (f : Fld) (k : Nat) : (d.incBy f k).used = d.used := rfl
@[simp] theorem Dev.incBy_nextUid (f : Fld) (k : Nat) : (d.incBy f k).nextUid = d.nextUid := rfl
@[simp] theorem Dev.incBy_freeCount (f : Fld) (k : Nat) : (d.incBy f k).freeCount = d.freeCount := rfl
@[simp] theorem Dev.incBy_out (f : Fld) (k : Nat) : (d.incBy f k).out = d.out := rfl
@[simp] theorem Dev.incBy_now (f : Fld) (k : Nat) : (d.incBy f k).now = d.now := rfl
@[simp] theorem Dev.incBy_tb (f : Fld) (k : Nat) : (d.incBy f k).tb = d.tb := rfl
@[simp] theorem Dev.incBy_tbFrac (f : Fld) (k : Nat) : (d.incBy f k).tbFrac = d.tbFrac := rfl
@[simp] theorem Dev.incBy_ethPhase (f : Fld) (k : Nat) : (d.incBy f k).ethPhase = d.ethPhase := rfl
@[simp] theorem Dev.incBy_toSafe (f : Fld) (k : Nat) : (d.incBy f k).toSafe = d.toSafe := rfl
@[simp] theorem Dev.incBy_irqs (f : Fld) (k : Nat) : (d.incBy f k).irqs = d.irqs := rfl
@[simp] theorem Dev.incBy_tick (f : Fld) (k : Nat) : (d.incBy f k).tick = d.tick := rfl
@[simp] theorem Dev.incBy_cfg (f : Fld) (k : Nat) : (d.incBy f k).cfg = d.cfg := rfl
@[simp] theorem Dev.incBy_ports (f : Fld) (k : Nat) : (d.incBy f k).ports = d.ports := rfl
@[simp] theorem Dev.incBy_fence (f : Fld) (k : Nat) : (d.incBy f k).fence = d.fence := rfl
@[simp] theorem Dev.incBy_mdio (f : Fld) (k : Nat) : (d.incBy f k).mdio = d.mdio := rfl
@[simp] theorem Dev.incBy_classq (f : Fld) (k : Nat) : (d.incBy f k).classq = d.classq := rfl
@[simp] theorem Dev.incBy_engines (f : Fld) (k : Nat) : (d.incBy f k).engines = d.engines := rfl
@[simp] theorem Dev.incBy_txc (f : Fld) (k : Nat) : (d.incBy f k).txc = d.txc := rfl
@[simp] theorem Dev.incBy_cry (f : Fld) (k : Nat) : (d.incBy f k).cry = d.cry := rfl
@[simp] theorem Dev.incBy_sec (f : Fld) (k : Nat) : (d.incBy f k).sec = d.sec := rfl
@[simp] theorem Dev.incBy_boot (f : Fld) (k : Nat) : (d.incBy f k).boot = d.boot := rfl
@[simp] theorem Dev.incBy_hep (f : Fld) (k : Nat) : (d.incBy f k).hep = d.hep := rfl
@[simp] theorem Dev.incBy_dma (f : Fld) (k : Nat) : (d.incBy f k).dma = d.dma := rfl
@[simp] theorem Dev.incBy_sqs (f : Fld) (k : Nat) : (d.incBy f k).sqs = d.sqs := rfl
@[simp] theorem Dev.incBy_cqSince (f : Fld) (k : Nat) : (d.incBy f k).cqSince = d.cqSince := rfl
@[simp] theorem Dev.incBy_due (f : Fld) (k : Nat) : (d.incBy f k).due = d.due := rfl
@[simp] theorem Dev.incBy_rps (f : Fld) (k : Nat) : (d.incBy f k).rps = d.rps := rfl
@[simp] theorem Dev.incBy_cal (f : Fld) (k : Nat) : (d.incBy f k).cal = d.cal := rfl
@[simp] theorem Dev.incBy_nvt (f : Fld) (k : Nat) : (d.incBy f k).nvt = d.nvt := rfl
@[simp] theorem Dev.incBy_safeCore (f : Fld) (k : Nat) : (d.incBy f k).safeCore = d.safeCore := rfl
@[simp] theorem Dev.incBy_apWait (f : Fld) (k : Nat) : (d.incBy f k).apWait = d.apWait := rfl
@[simp] theorem Dev.incBy_pwr (f : Fld) (k : Nat) : (d.incBy f k).pwr = d.pwr := rfl
@[simp] theorem Dev.incBy_saf (f : Fld) (k : Nat) : (d.incBy f k).saf = d.saf := rfl
@[simp] theorem Dev.incBy_tim (f : Fld) (k : Nat) : (d.incBy f k).tim = d.tim := rfl
@[simp] theorem Dev.incBy_sbd (f : Fld) (k : Nat) : (d.incBy f k).sbd = d.sbd := rfl
@[simp] theorem Dev.incBy_pmc (f : Fld) (k : Nat) : (d.incBy f k).pmc = d.pmc := rfl

/-! ### `inc` -/
@[simp] theorem Dev.inc_mem (f : Fld) : (d.inc f).mem = d.mem := rfl
@[simp] theorem Dev.inc_marks (f : Fld) : (d.inc f).marks = d.marks := rfl
@[simp] theorem Dev.inc_writeBacks (f : Fld) : (d.inc f).writeBacks = d.writeBacks := rfl
@[simp] theorem Dev.inc_used (f : Fld) : (d.inc f).used = d.used := rfl
@[simp] theorem Dev.inc_nextUid (f : Fld) : (d.inc f).nextUid = d.nextUid := rfl
@[simp] theorem Dev.inc_freeCount (f : Fld) : (d.inc f).freeCount = d.freeCount := rfl
@[simp] theorem Dev.inc_out (f : Fld) : (d.inc f).out = d.out := rfl
@[simp] theorem Dev.inc_now (f : Fld) : (d.inc f).now = d.now := rfl
@[simp] theorem Dev.inc_tb (f : Fld) : (d.inc f).tb = d.tb := rfl
@[simp] theorem Dev.inc_tbFrac (f : Fld) : (d.inc f).tbFrac = d.tbFrac := rfl
@[simp] theorem Dev.inc_ethPhase (f : Fld) : (d.inc f).ethPhase = d.ethPhase := rfl
@[simp] theorem Dev.inc_toSafe (f : Fld) : (d.inc f).toSafe = d.toSafe := rfl
@[simp] theorem Dev.inc_irqs (f : Fld) : (d.inc f).irqs = d.irqs := rfl
@[simp] theorem Dev.inc_tick (f : Fld) : (d.inc f).tick = d.tick := rfl
@[simp] theorem Dev.inc_cfg (f : Fld) : (d.inc f).cfg = d.cfg := rfl
@[simp] theorem Dev.inc_ports (f : Fld) : (d.inc f).ports = d.ports := rfl
@[simp] theorem Dev.inc_fence (f : Fld) : (d.inc f).fence = d.fence := rfl
@[simp] theorem Dev.inc_mdio (f : Fld) : (d.inc f).mdio = d.mdio := rfl
@[simp] theorem Dev.inc_classq (f : Fld) : (d.inc f).classq = d.classq := rfl
@[simp] theorem Dev.inc_engines (f : Fld) : (d.inc f).engines = d.engines := rfl
@[simp] theorem Dev.inc_txc (f : Fld) : (d.inc f).txc = d.txc := rfl
@[simp] theorem Dev.inc_cry (f : Fld) : (d.inc f).cry = d.cry := rfl
@[simp] theorem Dev.inc_sec (f : Fld) : (d.inc f).sec = d.sec := rfl
@[simp] theorem Dev.inc_boot (f : Fld) : (d.inc f).boot = d.boot := rfl
@[simp] theorem Dev.inc_hep (f : Fld) : (d.inc f).hep = d.hep := rfl
@[simp] theorem Dev.inc_dma (f : Fld) : (d.inc f).dma = d.dma := rfl
@[simp] theorem Dev.inc_sqs (f : Fld) : (d.inc f).sqs = d.sqs := rfl
@[simp] theorem Dev.inc_cqSince (f : Fld) : (d.inc f).cqSince = d.cqSince := rfl
@[simp] theorem Dev.inc_due (f : Fld) : (d.inc f).due = d.due := rfl
@[simp] theorem Dev.inc_rps (f : Fld) : (d.inc f).rps = d.rps := rfl
@[simp] theorem Dev.inc_cal (f : Fld) : (d.inc f).cal = d.cal := rfl
@[simp] theorem Dev.inc_nvt (f : Fld) : (d.inc f).nvt = d.nvt := rfl
@[simp] theorem Dev.inc_safeCore (f : Fld) : (d.inc f).safeCore = d.safeCore := rfl
@[simp] theorem Dev.inc_apWait (f : Fld) : (d.inc f).apWait = d.apWait := rfl
@[simp] theorem Dev.inc_pwr (f : Fld) : (d.inc f).pwr = d.pwr := rfl
@[simp] theorem Dev.inc_saf (f : Fld) : (d.inc f).saf = d.saf := rfl
@[simp] theorem Dev.inc_tim (f : Fld) : (d.inc f).tim = d.tim := rfl
@[simp] theorem Dev.inc_sbd (f : Fld) : (d.inc f).sbd = d.sbd := rfl
@[simp] theorem Dev.inc_pmc (f : Fld) : (d.inc f).pmc = d.pmc := rfl

/-! ### `resetWhere` -/
@[simp] theorem Dev.resetWhere_mem (p : Fld → Bool) : (d.resetWhere p).mem = d.mem := rfl
@[simp] theorem Dev.resetWhere_marks (p : Fld → Bool) : (d.resetWhere p).marks = d.marks := rfl
@[simp] theorem Dev.resetWhere_writeBacks (p : Fld → Bool) : (d.resetWhere p).writeBacks = d.writeBacks := rfl
@[simp] theorem Dev.resetWhere_used (p : Fld → Bool) : (d.resetWhere p).used = d.used := rfl
@[simp] theorem Dev.resetWhere_nextUid (p : Fld → Bool) : (d.resetWhere p).nextUid = d.nextUid := rfl
@[simp] theorem Dev.resetWhere_freeCount (p : Fld → Bool) : (d.resetWhere p).freeCount = d.freeCount := rfl
@[simp] theorem Dev.resetWhere_out (p : Fld → Bool) : (d.resetWhere p).out = d.out := rfl
@[simp] theorem Dev.resetWhere_now (p : Fld → Bool) : (d.resetWhere p).now = d.now := rfl
@[simp] theorem Dev.resetWhere_tb (p : Fld → Bool) : (d.resetWhere p).tb = d.tb := rfl
@[simp] theorem Dev.resetWhere_tbFrac (p : Fld → Bool) : (d.resetWhere p).tbFrac = d.tbFrac := rfl
@[simp] theorem Dev.resetWhere_ethPhase (p : Fld → Bool) : (d.resetWhere p).ethPhase = d.ethPhase := rfl
@[simp] theorem Dev.resetWhere_toSafe (p : Fld → Bool) : (d.resetWhere p).toSafe = d.toSafe := rfl
@[simp] theorem Dev.resetWhere_irqs (p : Fld → Bool) : (d.resetWhere p).irqs = d.irqs := rfl
@[simp] theorem Dev.resetWhere_tick (p : Fld → Bool) : (d.resetWhere p).tick = d.tick := rfl
@[simp] theorem Dev.resetWhere_cfg (p : Fld → Bool) : (d.resetWhere p).cfg = d.cfg := rfl
@[simp] theorem Dev.resetWhere_ports (p : Fld → Bool) : (d.resetWhere p).ports = d.ports := rfl
@[simp] theorem Dev.resetWhere_fence (p : Fld → Bool) : (d.resetWhere p).fence = d.fence := rfl
@[simp] theorem Dev.resetWhere_mdio (p : Fld → Bool) : (d.resetWhere p).mdio = d.mdio := rfl
@[simp] theorem Dev.resetWhere_classq (p : Fld → Bool) : (d.resetWhere p).classq = d.classq := rfl
@[simp] theorem Dev.resetWhere_engines (p : Fld → Bool) : (d.resetWhere p).engines = d.engines := rfl
@[simp] theorem Dev.resetWhere_txc (p : Fld → Bool) : (d.resetWhere p).txc = d.txc := rfl
@[simp] theorem Dev.resetWhere_cry (p : Fld → Bool) : (d.resetWhere p).cry = d.cry := rfl
@[simp] theorem Dev.resetWhere_sec (p : Fld → Bool) : (d.resetWhere p).sec = d.sec := rfl
@[simp] theorem Dev.resetWhere_boot (p : Fld → Bool) : (d.resetWhere p).boot = d.boot := rfl
@[simp] theorem Dev.resetWhere_hep (p : Fld → Bool) : (d.resetWhere p).hep = d.hep := rfl
@[simp] theorem Dev.resetWhere_dma (p : Fld → Bool) : (d.resetWhere p).dma = d.dma := rfl
@[simp] theorem Dev.resetWhere_sqs (p : Fld → Bool) : (d.resetWhere p).sqs = d.sqs := rfl
@[simp] theorem Dev.resetWhere_cqSince (p : Fld → Bool) : (d.resetWhere p).cqSince = d.cqSince := rfl
@[simp] theorem Dev.resetWhere_due (p : Fld → Bool) : (d.resetWhere p).due = d.due := rfl
@[simp] theorem Dev.resetWhere_rps (p : Fld → Bool) : (d.resetWhere p).rps = d.rps := rfl
@[simp] theorem Dev.resetWhere_cal (p : Fld → Bool) : (d.resetWhere p).cal = d.cal := rfl
@[simp] theorem Dev.resetWhere_nvt (p : Fld → Bool) : (d.resetWhere p).nvt = d.nvt := rfl
@[simp] theorem Dev.resetWhere_safeCore (p : Fld → Bool) : (d.resetWhere p).safeCore = d.safeCore := rfl
@[simp] theorem Dev.resetWhere_apWait (p : Fld → Bool) : (d.resetWhere p).apWait = d.apWait := rfl
@[simp] theorem Dev.resetWhere_pwr (p : Fld → Bool) : (d.resetWhere p).pwr = d.pwr := rfl
@[simp] theorem Dev.resetWhere_saf (p : Fld → Bool) : (d.resetWhere p).saf = d.saf := rfl
@[simp] theorem Dev.resetWhere_tim (p : Fld → Bool) : (d.resetWhere p).tim = d.tim := rfl
@[simp] theorem Dev.resetWhere_sbd (p : Fld → Bool) : (d.resetWhere p).sbd = d.sbd := rfl
@[simp] theorem Dev.resetWhere_pmc (p : Fld → Bool) : (d.resetWhere p).pmc = d.pmc := rfl

/-! ### `emit` -/
@[simp] theorem Dev.emit_rd (o : Outbound) (x : Fld) : (d.emit o).rd x = d.rd x := rfl
@[simp] theorem Dev.emit_regs (o : Outbound) : (d.emit o).regs = d.regs := rfl
@[simp] theorem Dev.emit_mem (o : Outbound) : (d.emit o).mem = d.mem := rfl
@[simp] theorem Dev.emit_marks (o : Outbound) : (d.emit o).marks = d.marks := rfl
@[simp] theorem Dev.emit_writeBacks (o : Outbound) : (d.emit o).writeBacks = d.writeBacks := rfl
@[simp] theorem Dev.emit_used (o : Outbound) : (d.emit o).used = d.used := rfl
@[simp] theorem Dev.emit_nextUid (o : Outbound) : (d.emit o).nextUid = d.nextUid := rfl
@[simp] theorem Dev.emit_freeCount (o : Outbound) : (d.emit o).freeCount = d.freeCount := rfl
@[simp] theorem Dev.emit_now (o : Outbound) : (d.emit o).now = d.now := rfl
@[simp] theorem Dev.emit_tb (o : Outbound) : (d.emit o).tb = d.tb := rfl
@[simp] theorem Dev.emit_tbFrac (o : Outbound) : (d.emit o).tbFrac = d.tbFrac := rfl
@[simp] theorem Dev.emit_ethPhase (o : Outbound) : (d.emit o).ethPhase = d.ethPhase := rfl
@[simp] theorem Dev.emit_toSafe (o : Outbound) : (d.emit o).toSafe = d.toSafe := rfl
@[simp] theorem Dev.emit_irqs (o : Outbound) : (d.emit o).irqs = d.irqs := rfl
@[simp] theorem Dev.emit_tick (o : Outbound) : (d.emit o).tick = d.tick := rfl
@[simp] theorem Dev.emit_cfg (o : Outbound) : (d.emit o).cfg = d.cfg := rfl
@[simp] theorem Dev.emit_ports (o : Outbound) : (d.emit o).ports = d.ports := rfl
@[simp] theorem Dev.emit_fence (o : Outbound) : (d.emit o).fence = d.fence := rfl
@[simp] theorem Dev.emit_mdio (o : Outbound) : (d.emit o).mdio = d.mdio := rfl
@[simp] theorem Dev.emit_classq (o : Outbound) : (d.emit o).classq = d.classq := rfl
@[simp] theorem Dev.emit_engines (o : Outbound) : (d.emit o).engines = d.engines := rfl
@[simp] theorem Dev.emit_txc (o : Outbound) : (d.emit o).txc = d.txc := rfl
@[simp] theorem Dev.emit_cry (o : Outbound) : (d.emit o).cry = d.cry := rfl
@[simp] theorem Dev.emit_sec (o : Outbound) : (d.emit o).sec = d.sec := rfl
@[simp] theorem Dev.emit_boot (o : Outbound) : (d.emit o).boot = d.boot := rfl
@[simp] theorem Dev.emit_dma (o : Outbound) : (d.emit o).dma = d.dma := rfl
@[simp] theorem Dev.emit_sqs (o : Outbound) : (d.emit o).sqs = d.sqs := rfl
@[simp] theorem Dev.emit_cqSince (o : Outbound) : (d.emit o).cqSince = d.cqSince := rfl
@[simp] theorem Dev.emit_due (o : Outbound) : (d.emit o).due = d.due := rfl
@[simp] theorem Dev.emit_rps (o : Outbound) : (d.emit o).rps = d.rps := rfl
@[simp] theorem Dev.emit_cal (o : Outbound) : (d.emit o).cal = d.cal := rfl
@[simp] theorem Dev.emit_nvt (o : Outbound) : (d.emit o).nvt = d.nvt := rfl
@[simp] theorem Dev.emit_safeCore (o : Outbound) : (d.emit o).safeCore = d.safeCore := rfl
@[simp] theorem Dev.emit_apWait (o : Outbound) : (d.emit o).apWait = d.apWait := rfl
@[simp] theorem Dev.emit_pwr (o : Outbound) : (d.emit o).pwr = d.pwr := rfl
@[simp] theorem Dev.emit_saf (o : Outbound) : (d.emit o).saf = d.saf := rfl
@[simp] theorem Dev.emit_tim (o : Outbound) : (d.emit o).tim = d.tim := rfl
@[simp] theorem Dev.emit_sbd (o : Outbound) : (d.emit o).sbd = d.sbd := rfl
@[simp] theorem Dev.emit_pmc (o : Outbound) : (d.emit o).pmc = d.pmc := rfl

/-! ### `irq` -/
@[simp] theorem Dev.irq_rd (f v : Nat) (x : Fld) : (d.irq f v).rd x = d.rd x := rfl
@[simp] theorem Dev.irq_regs (f v : Nat) : (d.irq f v).regs = d.regs := rfl
@[simp] theorem Dev.irq_mem (f v : Nat) : (d.irq f v).mem = d.mem := rfl
@[simp] theorem Dev.irq_marks (f v : Nat) : (d.irq f v).marks = d.marks := rfl
@[simp] theorem Dev.irq_writeBacks (f v : Nat) : (d.irq f v).writeBacks = d.writeBacks := rfl
@[simp] theorem Dev.irq_used (f v : Nat) : (d.irq f v).used = d.used := rfl
@[simp] theorem Dev.irq_nextUid (f v : Nat) : (d.irq f v).nextUid = d.nextUid := rfl
@[simp] theorem Dev.irq_freeCount (f v : Nat) : (d.irq f v).freeCount = d.freeCount := rfl
@[simp] theorem Dev.irq_out (f v : Nat) : (d.irq f v).out = d.out := rfl
@[simp] theorem Dev.irq_now (f v : Nat) : (d.irq f v).now = d.now := rfl
@[simp] theorem Dev.irq_tb (f v : Nat) : (d.irq f v).tb = d.tb := rfl
@[simp] theorem Dev.irq_tbFrac (f v : Nat) : (d.irq f v).tbFrac = d.tbFrac := rfl
@[simp] theorem Dev.irq_ethPhase (f v : Nat) : (d.irq f v).ethPhase = d.ethPhase := rfl
@[simp] theorem Dev.irq_toSafe (f v : Nat) : (d.irq f v).toSafe = d.toSafe := rfl
@[simp] theorem Dev.irq_tick (f v : Nat) : (d.irq f v).tick = d.tick := rfl
@[simp] theorem Dev.irq_cfg (f v : Nat) : (d.irq f v).cfg = d.cfg := rfl
@[simp] theorem Dev.irq_ports (f v : Nat) : (d.irq f v).ports = d.ports := rfl
@[simp] theorem Dev.irq_fence (f v : Nat) : (d.irq f v).fence = d.fence := rfl
@[simp] theorem Dev.irq_mdio (f v : Nat) : (d.irq f v).mdio = d.mdio := rfl
@[simp] theorem Dev.irq_classq (f v : Nat) : (d.irq f v).classq = d.classq := rfl
@[simp] theorem Dev.irq_engines (f v : Nat) : (d.irq f v).engines = d.engines := rfl
@[simp] theorem Dev.irq_txc (f v : Nat) : (d.irq f v).txc = d.txc := rfl
@[simp] theorem Dev.irq_cry (f v : Nat) : (d.irq f v).cry = d.cry := rfl
@[simp] theorem Dev.irq_sec (f v : Nat) : (d.irq f v).sec = d.sec := rfl
@[simp] theorem Dev.irq_boot (f v : Nat) : (d.irq f v).boot = d.boot := rfl
@[simp] theorem Dev.irq_hep (f v : Nat) : (d.irq f v).hep = d.hep := rfl
@[simp] theorem Dev.irq_dma (f v : Nat) : (d.irq f v).dma = d.dma := rfl
@[simp] theorem Dev.irq_sqs (f v : Nat) : (d.irq f v).sqs = d.sqs := rfl
@[simp] theorem Dev.irq_cqSince (f v : Nat) : (d.irq f v).cqSince = d.cqSince := rfl
@[simp] theorem Dev.irq_due (f v : Nat) : (d.irq f v).due = d.due := rfl
@[simp] theorem Dev.irq_rps (f v : Nat) : (d.irq f v).rps = d.rps := rfl
@[simp] theorem Dev.irq_cal (f v : Nat) : (d.irq f v).cal = d.cal := rfl
@[simp] theorem Dev.irq_nvt (f v : Nat) : (d.irq f v).nvt = d.nvt := rfl
@[simp] theorem Dev.irq_safeCore (f v : Nat) : (d.irq f v).safeCore = d.safeCore := rfl
@[simp] theorem Dev.irq_apWait (f v : Nat) : (d.irq f v).apWait = d.apWait := rfl
@[simp] theorem Dev.irq_pwr (f v : Nat) : (d.irq f v).pwr = d.pwr := rfl
@[simp] theorem Dev.irq_saf (f v : Nat) : (d.irq f v).saf = d.saf := rfl
@[simp] theorem Dev.irq_tim (f v : Nat) : (d.irq f v).tim = d.tim := rfl
@[simp] theorem Dev.irq_sbd (f v : Nat) : (d.irq f v).sbd = d.sbd := rfl
@[simp] theorem Dev.irq_pmc (f v : Nat) : (d.irq f v).pmc = d.pmc := rfl

/-! ### `fault` -/
@[simp] theorem Dev.fault_rd (c k : Nat) (x : Fld) : (d.fault c k).rd x = d.rd x := rfl
@[simp] theorem Dev.fault_regs (c k : Nat) : (d.fault c k).regs = d.regs := rfl
@[simp] theorem Dev.fault_mem (c k : Nat) : (d.fault c k).mem = d.mem := rfl
@[simp] theorem Dev.fault_marks (c k : Nat) : (d.fault c k).marks = d.marks := rfl
@[simp] theorem Dev.fault_writeBacks (c k : Nat) : (d.fault c k).writeBacks = d.writeBacks := rfl
@[simp] theorem Dev.fault_used (c k : Nat) : (d.fault c k).used = d.used := rfl
@[simp] theorem Dev.fault_nextUid (c k : Nat) : (d.fault c k).nextUid = d.nextUid := rfl
@[simp] theorem Dev.fault_freeCount (c k : Nat) : (d.fault c k).freeCount = d.freeCount := rfl
@[simp] theorem Dev.fault_out (c k : Nat) : (d.fault c k).out = d.out := rfl
@[simp] theorem Dev.fault_now (c k : Nat) : (d.fault c k).now = d.now := rfl
@[simp] theorem Dev.fault_tb (c k : Nat) : (d.fault c k).tb = d.tb := rfl
@[simp] theorem Dev.fault_tbFrac (c k : Nat) : (d.fault c k).tbFrac = d.tbFrac := rfl
@[simp] theorem Dev.fault_ethPhase (c k : Nat) : (d.fault c k).ethPhase = d.ethPhase := rfl
@[simp] theorem Dev.fault_irqs (c k : Nat) : (d.fault c k).irqs = d.irqs := rfl
@[simp] theorem Dev.fault_tick (c k : Nat) : (d.fault c k).tick = d.tick := rfl
@[simp] theorem Dev.fault_cfg (c k : Nat) : (d.fault c k).cfg = d.cfg := rfl
@[simp] theorem Dev.fault_ports (c k : Nat) : (d.fault c k).ports = d.ports := rfl
@[simp] theorem Dev.fault_fence (c k : Nat) : (d.fault c k).fence = d.fence := rfl
@[simp] theorem Dev.fault_mdio (c k : Nat) : (d.fault c k).mdio = d.mdio := rfl
@[simp] theorem Dev.fault_classq (c k : Nat) : (d.fault c k).classq = d.classq := rfl
@[simp] theorem Dev.fault_engines (c k : Nat) : (d.fault c k).engines = d.engines := rfl
@[simp] theorem Dev.fault_txc (c k : Nat) : (d.fault c k).txc = d.txc := rfl
@[simp] theorem Dev.fault_cry (c k : Nat) : (d.fault c k).cry = d.cry := rfl
@[simp] theorem Dev.fault_sec (c k : Nat) : (d.fault c k).sec = d.sec := rfl
@[simp] theorem Dev.fault_boot (c k : Nat) : (d.fault c k).boot = d.boot := rfl
@[simp] theorem Dev.fault_hep (c k : Nat) : (d.fault c k).hep = d.hep := rfl
@[simp] theorem Dev.fault_dma (c k : Nat) : (d.fault c k).dma = d.dma := rfl
@[simp] theorem Dev.fault_sqs (c k : Nat) : (d.fault c k).sqs = d.sqs := rfl
@[simp] theorem Dev.fault_cqSince (c k : Nat) : (d.fault c k).cqSince = d.cqSince := rfl
@[simp] theorem Dev.fault_due (c k : Nat) : (d.fault c k).due = d.due := rfl
@[simp] theorem Dev.fault_rps (c k : Nat) : (d.fault c k).rps = d.rps := rfl
@[simp] theorem Dev.fault_cal (c k : Nat) : (d.fault c k).cal = d.cal := rfl
@[simp] theorem Dev.fault_nvt (c k : Nat) : (d.fault c k).nvt = d.nvt := rfl
@[simp] theorem Dev.fault_safeCore (c k : Nat) : (d.fault c k).safeCore = d.safeCore := rfl
@[simp] theorem Dev.fault_apWait (c k : Nat) : (d.fault c k).apWait = d.apWait := rfl
@[simp] theorem Dev.fault_pwr (c k : Nat) : (d.fault c k).pwr = d.pwr := rfl
@[simp] theorem Dev.fault_saf (c k : Nat) : (d.fault c k).saf = d.saf := rfl
@[simp] theorem Dev.fault_tim (c k : Nat) : (d.fault c k).tim = d.tim := rfl
@[simp] theorem Dev.fault_sbd (c k : Nat) : (d.fault c k).sbd = d.sbd := rfl
@[simp] theorem Dev.fault_pmc (c k : Nat) : (d.fault c k).pmc = d.pmc := rfl

/-! ### `warn` -/
@[simp] theorem Dev.warn_rd (b : Nat) (x : Fld) : (d.warn b).rd x = d.rd x := rfl
@[simp] theorem Dev.warn_regs (b : Nat) : (d.warn b).regs = d.regs := rfl
@[simp] theorem Dev.warn_mem (b : Nat) : (d.warn b).mem = d.mem := rfl
@[simp] theorem Dev.warn_marks (b : Nat) : (d.warn b).marks = d.marks := rfl
@[simp] theorem Dev.warn_writeBacks (b : Nat) : (d.warn b).writeBacks = d.writeBacks := rfl
@[simp] theorem Dev.warn_used (b : Nat) : (d.warn b).used = d.used := rfl
@[simp] theorem Dev.warn_nextUid (b : Nat) : (d.warn b).nextUid = d.nextUid := rfl
@[simp] theorem Dev.warn_freeCount (b : Nat) : (d.warn b).freeCount = d.freeCount := rfl
@[simp] theorem Dev.warn_out (b : Nat) : (d.warn b).out = d.out := rfl
@[simp] theorem Dev.warn_now (b : Nat) : (d.warn b).now = d.now := rfl
@[simp] theorem Dev.warn_tb (b : Nat) : (d.warn b).tb = d.tb := rfl
@[simp] theorem Dev.warn_tbFrac (b : Nat) : (d.warn b).tbFrac = d.tbFrac := rfl
@[simp] theorem Dev.warn_ethPhase (b : Nat) : (d.warn b).ethPhase = d.ethPhase := rfl
@[simp] theorem Dev.warn_irqs (b : Nat) : (d.warn b).irqs = d.irqs := rfl
@[simp] theorem Dev.warn_tick (b : Nat) : (d.warn b).tick = d.tick := rfl
@[simp] theorem Dev.warn_cfg (b : Nat) : (d.warn b).cfg = d.cfg := rfl
@[simp] theorem Dev.warn_ports (b : Nat) : (d.warn b).ports = d.ports := rfl
@[simp] theorem Dev.warn_fence (b : Nat) : (d.warn b).fence = d.fence := rfl
@[simp] theorem Dev.warn_mdio (b : Nat) : (d.warn b).mdio = d.mdio := rfl
@[simp] theorem Dev.warn_classq (b : Nat) : (d.warn b).classq = d.classq := rfl
@[simp] theorem Dev.warn_engines (b : Nat) : (d.warn b).engines = d.engines := rfl
@[simp] theorem Dev.warn_txc (b : Nat) : (d.warn b).txc = d.txc := rfl
@[simp] theorem Dev.warn_cry (b : Nat) : (d.warn b).cry = d.cry := rfl
@[simp] theorem Dev.warn_sec (b : Nat) : (d.warn b).sec = d.sec := rfl
@[simp] theorem Dev.warn_boot (b : Nat) : (d.warn b).boot = d.boot := rfl
@[simp] theorem Dev.warn_hep (b : Nat) : (d.warn b).hep = d.hep := rfl
@[simp] theorem Dev.warn_dma (b : Nat) : (d.warn b).dma = d.dma := rfl
@[simp] theorem Dev.warn_sqs (b : Nat) : (d.warn b).sqs = d.sqs := rfl
@[simp] theorem Dev.warn_cqSince (b : Nat) : (d.warn b).cqSince = d.cqSince := rfl
@[simp] theorem Dev.warn_due (b : Nat) : (d.warn b).due = d.due := rfl
@[simp] theorem Dev.warn_rps (b : Nat) : (d.warn b).rps = d.rps := rfl
@[simp] theorem Dev.warn_cal (b : Nat) : (d.warn b).cal = d.cal := rfl
@[simp] theorem Dev.warn_nvt (b : Nat) : (d.warn b).nvt = d.nvt := rfl
@[simp] theorem Dev.warn_safeCore (b : Nat) : (d.warn b).safeCore = d.safeCore := rfl
@[simp] theorem Dev.warn_apWait (b : Nat) : (d.warn b).apWait = d.apWait := rfl
@[simp] theorem Dev.warn_pwr (b : Nat) : (d.warn b).pwr = d.pwr := rfl
@[simp] theorem Dev.warn_saf (b : Nat) : (d.warn b).saf = d.saf := rfl
@[simp] theorem Dev.warn_tim (b : Nat) : (d.warn b).tim = d.tim := rfl
@[simp] theorem Dev.warn_sbd (b : Nat) : (d.warn b).sbd = d.sbd := rfl
@[simp] theorem Dev.warn_pmc (b : Nat) : (d.warn b).pmc = d.pmc := rfl

/-! ### `fresh` -/
@[simp] theorem Dev.fresh_rd (x : Fld) : (d.fresh.2).rd x = d.rd x := rfl
@[simp] theorem Dev.fresh_regs : (d.fresh.2).regs = d.regs := rfl
@[simp] theorem Dev.fresh_mem : (d.fresh.2).mem = d.mem := rfl
@[simp] theorem Dev.fresh_marks : (d.fresh.2).marks = d.marks := rfl
@[simp] theorem Dev.fresh_writeBacks : (d.fresh.2).writeBacks = d.writeBacks := rfl
@[simp] theorem Dev.fresh_used : (d.fresh.2).used = d.used := rfl
@[simp] theorem Dev.fresh_nextUid : (d.fresh.2).nextUid = d.nextUid := rfl
@[simp] theorem Dev.fresh_out : (d.fresh.2).out = d.out := rfl
@[simp] theorem Dev.fresh_now : (d.fresh.2).now = d.now := rfl
@[simp] theorem Dev.fresh_tb : (d.fresh.2).tb = d.tb := rfl
@[simp] theorem Dev.fresh_tbFrac : (d.fresh.2).tbFrac = d.tbFrac := rfl
@[simp] theorem Dev.fresh_ethPhase : (d.fresh.2).ethPhase = d.ethPhase := rfl
@[simp] theorem Dev.fresh_toSafe : (d.fresh.2).toSafe = d.toSafe := rfl
@[simp] theorem Dev.fresh_irqs : (d.fresh.2).irqs = d.irqs := rfl
@[simp] theorem Dev.fresh_tick : (d.fresh.2).tick = d.tick := rfl
@[simp] theorem Dev.fresh_cfg : (d.fresh.2).cfg = d.cfg := rfl
@[simp] theorem Dev.fresh_ports : (d.fresh.2).ports = d.ports := rfl
@[simp] theorem Dev.fresh_fence : (d.fresh.2).fence = d.fence := rfl
@[simp] theorem Dev.fresh_mdio : (d.fresh.2).mdio = d.mdio := rfl
@[simp] theorem Dev.fresh_classq : (d.fresh.2).classq = d.classq := rfl
@[simp] theorem Dev.fresh_engines : (d.fresh.2).engines = d.engines := rfl
@[simp] theorem Dev.fresh_txc : (d.fresh.2).txc = d.txc := rfl
@[simp] theorem Dev.fresh_cry : (d.fresh.2).cry = d.cry := rfl
@[simp] theorem Dev.fresh_sec : (d.fresh.2).sec = d.sec := rfl
@[simp] theorem Dev.fresh_boot : (d.fresh.2).boot = d.boot := rfl
@[simp] theorem Dev.fresh_hep : (d.fresh.2).hep = d.hep := rfl
@[simp] theorem Dev.fresh_dma : (d.fresh.2).dma = d.dma := rfl
@[simp] theorem Dev.fresh_sqs : (d.fresh.2).sqs = d.sqs := rfl
@[simp] theorem Dev.fresh_cqSince : (d.fresh.2).cqSince = d.cqSince := rfl
@[simp] theorem Dev.fresh_due : (d.fresh.2).due = d.due := rfl
@[simp] theorem Dev.fresh_rps : (d.fresh.2).rps = d.rps := rfl
@[simp] theorem Dev.fresh_cal : (d.fresh.2).cal = d.cal := rfl
@[simp] theorem Dev.fresh_nvt : (d.fresh.2).nvt = d.nvt := rfl
@[simp] theorem Dev.fresh_safeCore : (d.fresh.2).safeCore = d.safeCore := rfl
@[simp] theorem Dev.fresh_apWait : (d.fresh.2).apWait = d.apWait := rfl
@[simp] theorem Dev.fresh_pwr : (d.fresh.2).pwr = d.pwr := rfl
@[simp] theorem Dev.fresh_saf : (d.fresh.2).saf = d.saf := rfl
@[simp] theorem Dev.fresh_tim : (d.fresh.2).tim = d.tim := rfl
@[simp] theorem Dev.fresh_sbd : (d.fresh.2).sbd = d.sbd := rfl
@[simp] theorem Dev.fresh_pmc : (d.fresh.2).pmc = d.pmc := rfl

/-! ### `newUid` -/
@[simp] theorem Dev.newUid_rd (x : Fld) : (d.newUid.2).rd x = d.rd x := rfl
@[simp] theorem Dev.newUid_regs : (d.newUid.2).regs = d.regs := rfl
@[simp] theorem Dev.newUid_mem : (d.newUid.2).mem = d.mem := rfl
@[simp] theorem Dev.newUid_marks : (d.newUid.2).marks = d.marks := rfl
@[simp] theorem Dev.newUid_writeBacks : (d.newUid.2).writeBacks = d.writeBacks := rfl
@[simp] theorem Dev.newUid_used : (d.newUid.2).used = d.used := rfl
@[simp] theorem Dev.newUid_freeCount : (d.newUid.2).freeCount = d.freeCount := rfl
@[simp] theorem Dev.newUid_out : (d.newUid.2).out = d.out := rfl
@[simp] theorem Dev.newUid_now : (d.newUid.2).now = d.now := rfl
@[simp] theorem Dev.newUid_tb : (d.newUid.2).tb = d.tb := rfl
@[simp] theorem Dev.newUid_tbFrac : (d.newUid.2).tbFrac = d.tbFrac := rfl
@[simp] theorem Dev.newUid_ethPhase : (d.newUid.2).ethPhase = d.ethPhase := rfl
@[simp] theorem Dev.newUid_toSafe : (d.newUid.2).toSafe = d.toSafe := rfl
@[simp] theorem Dev.newUid_irqs : (d.newUid.2).irqs = d.irqs := rfl
@[simp] theorem Dev.newUid_tick : (d.newUid.2).tick = d.tick := rfl
@[simp] theorem Dev.newUid_cfg : (d.newUid.2).cfg = d.cfg := rfl
@[simp] theorem Dev.newUid_ports : (d.newUid.2).ports = d.ports := rfl
@[simp] theorem Dev.newUid_fence : (d.newUid.2).fence = d.fence := rfl
@[simp] theorem Dev.newUid_mdio : (d.newUid.2).mdio = d.mdio := rfl
@[simp] theorem Dev.newUid_classq : (d.newUid.2).classq = d.classq := rfl
@[simp] theorem Dev.newUid_engines : (d.newUid.2).engines = d.engines := rfl
@[simp] theorem Dev.newUid_txc : (d.newUid.2).txc = d.txc := rfl
@[simp] theorem Dev.newUid_cry : (d.newUid.2).cry = d.cry := rfl
@[simp] theorem Dev.newUid_sec : (d.newUid.2).sec = d.sec := rfl
@[simp] theorem Dev.newUid_boot : (d.newUid.2).boot = d.boot := rfl
@[simp] theorem Dev.newUid_hep : (d.newUid.2).hep = d.hep := rfl
@[simp] theorem Dev.newUid_dma : (d.newUid.2).dma = d.dma := rfl
@[simp] theorem Dev.newUid_sqs : (d.newUid.2).sqs = d.sqs := rfl
@[simp] theorem Dev.newUid_cqSince : (d.newUid.2).cqSince = d.cqSince := rfl
@[simp] theorem Dev.newUid_due : (d.newUid.2).due = d.due := rfl
@[simp] theorem Dev.newUid_rps : (d.newUid.2).rps = d.rps := rfl
@[simp] theorem Dev.newUid_cal : (d.newUid.2).cal = d.cal := rfl
@[simp] theorem Dev.newUid_nvt : (d.newUid.2).nvt = d.nvt := rfl
@[simp] theorem Dev.newUid_safeCore : (d.newUid.2).safeCore = d.safeCore := rfl
@[simp] theorem Dev.newUid_apWait : (d.newUid.2).apWait = d.apWait := rfl
@[simp] theorem Dev.newUid_pwr : (d.newUid.2).pwr = d.pwr := rfl
@[simp] theorem Dev.newUid_saf : (d.newUid.2).saf = d.saf := rfl
@[simp] theorem Dev.newUid_tim : (d.newUid.2).tim = d.tim := rfl
@[simp] theorem Dev.newUid_sbd : (d.newUid.2).sbd = d.sbd := rfl
@[simp] theorem Dev.newUid_pmc : (d.newUid.2).pmc = d.pmc := rfl

/-! ### `setMark` -/
@[simp] theorem Dev.setMark_rd (l : Nat) (m : Mark) (x : Fld) : (d.setMark l m).rd x = d.rd x := rfl
@[simp] theorem Dev.setMark_regs (l : Nat) (m : Mark) : (d.setMark l m).regs = d.regs := rfl
@[simp] theorem Dev.setMark_mem (l : Nat) (m : Mark) : (d.setMark l m).mem = d.mem := rfl
@[simp] theorem Dev.setMark_writeBacks (l : Nat) (m : Mark) : (d.setMark l m).writeBacks = d.writeBacks := rfl
@[simp] theorem Dev.setMark_used (l : Nat) (m : Mark) : (d.setMark l m).used = d.used := rfl
@[simp] theorem Dev.setMark_nextUid (l : Nat) (m : Mark) : (d.setMark l m).nextUid = d.nextUid := rfl
@[simp] theorem Dev.setMark_freeCount (l : Nat) (m : Mark) : (d.setMark l m).freeCount = d.freeCount := rfl
@[simp] theorem Dev.setMark_out (l : Nat) (m : Mark) : (d.setMark l m).out = d.out := rfl
@[simp] theorem Dev.setMark_now (l : Nat) (m : Mark) : (d.setMark l m).now = d.now := rfl
@[simp] theorem Dev.setMark_tb (l : Nat) (m : Mark) : (d.setMark l m).tb = d.tb := rfl
@[simp] theorem Dev.setMark_tbFrac (l : Nat) (m : Mark) : (d.setMark l m).tbFrac = d.tbFrac := rfl
@[simp] theorem Dev.setMark_ethPhase (l : Nat) (m : Mark) : (d.setMark l m).ethPhase = d.ethPhase := rfl
@[simp] theorem Dev.setMark_toSafe (l : Nat) (m : Mark) : (d.setMark l m).toSafe = d.toSafe := rfl
@[simp] theorem Dev.setMark_irqs (l : Nat) (m : Mark) : (d.setMark l m).irqs = d.irqs := rfl
@[simp] theorem Dev.setMark_tick (l : Nat) (m : Mark) : (d.setMark l m).tick = d.tick := rfl
@[simp] theorem Dev.setMark_cfg (l : Nat) (m : Mark) : (d.setMark l m).cfg = d.cfg := rfl
@[simp] theorem Dev.setMark_ports (l : Nat) (m : Mark) : (d.setMark l m).ports = d.ports := rfl
@[simp] theorem Dev.setMark_fence (l : Nat) (m : Mark) : (d.setMark l m).fence = d.fence := rfl
@[simp] theorem Dev.setMark_mdio (l : Nat) (m : Mark) : (d.setMark l m).mdio = d.mdio := rfl
@[simp] theorem Dev.setMark_classq (l : Nat) (m : Mark) : (d.setMark l m).classq = d.classq := rfl
@[simp] theorem Dev.setMark_engines (l : Nat) (m : Mark) : (d.setMark l m).engines = d.engines := rfl
@[simp] theorem Dev.setMark_txc (l : Nat) (m : Mark) : (d.setMark l m).txc = d.txc := rfl
@[simp] theorem Dev.setMark_cry (l : Nat) (m : Mark) : (d.setMark l m).cry = d.cry := rfl
@[simp] theorem Dev.setMark_sec (l : Nat) (m : Mark) : (d.setMark l m).sec = d.sec := rfl
@[simp] theorem Dev.setMark_boot (l : Nat) (m : Mark) : (d.setMark l m).boot = d.boot := rfl
@[simp] theorem Dev.setMark_hep (l : Nat) (m : Mark) : (d.setMark l m).hep = d.hep := rfl
@[simp] theorem Dev.setMark_dma (l : Nat) (m : Mark) : (d.setMark l m).dma = d.dma := rfl
@[simp] theorem Dev.setMark_sqs (l : Nat) (m : Mark) : (d.setMark l m).sqs = d.sqs := rfl
@[simp] theorem Dev.setMark_cqSince (l : Nat) (m : Mark) : (d.setMark l m).cqSince = d.cqSince := rfl
@[simp] theorem Dev.setMark_due (l : Nat) (m : Mark) : (d.setMark l m).due = d.due := rfl
@[simp] theorem Dev.setMark_rps (l : Nat) (m : Mark) : (d.setMark l m).rps = d.rps := rfl
@[simp] theorem Dev.setMark_cal (l : Nat) (m : Mark) : (d.setMark l m).cal = d.cal := rfl
@[simp] theorem Dev.setMark_nvt (l : Nat) (m : Mark) : (d.setMark l m).nvt = d.nvt := rfl
@[simp] theorem Dev.setMark_safeCore (l : Nat) (m : Mark) : (d.setMark l m).safeCore = d.safeCore := rfl
@[simp] theorem Dev.setMark_apWait (l : Nat) (m : Mark) : (d.setMark l m).apWait = d.apWait := rfl
@[simp] theorem Dev.setMark_pwr (l : Nat) (m : Mark) : (d.setMark l m).pwr = d.pwr := rfl
@[simp] theorem Dev.setMark_saf (l : Nat) (m : Mark) : (d.setMark l m).saf = d.saf := rfl
@[simp] theorem Dev.setMark_tim (l : Nat) (m : Mark) : (d.setMark l m).tim = d.tim := rfl
@[simp] theorem Dev.setMark_sbd (l : Nat) (m : Mark) : (d.setMark l m).sbd = d.sbd := rfl
@[simp] theorem Dev.setMark_pmc (l : Nat) (m : Mark) : (d.setMark l m).pmc = d.pmc := rfl

/-! ### `store` -/
@[simp] theorem Dev.store_rd (a : Nat) (bs : List Byte) (x : Fld) : (d.store a bs).rd x = d.rd x := rfl
@[simp] theorem Dev.store_regs (a : Nat) (bs : List Byte) : (d.store a bs).regs = d.regs := rfl
@[simp] theorem Dev.store_marks (a : Nat) (bs : List Byte) : (d.store a bs).marks = d.marks := rfl
@[simp] theorem Dev.store_writeBacks (a : Nat) (bs : List Byte) : (d.store a bs).writeBacks = d.writeBacks := rfl
@[simp] theorem Dev.store_used (a : Nat) (bs : List Byte) : (d.store a bs).used = d.used := rfl
@[simp] theorem Dev.store_nextUid (a : Nat) (bs : List Byte) : (d.store a bs).nextUid = d.nextUid := rfl
@[simp] theorem Dev.store_freeCount (a : Nat) (bs : List Byte) : (d.store a bs).freeCount = d.freeCount := rfl
@[simp] theorem Dev.store_out (a : Nat) (bs : List Byte) : (d.store a bs).out = d.out := rfl
@[simp] theorem Dev.store_now (a : Nat) (bs : List Byte) : (d.store a bs).now = d.now := rfl
@[simp] theorem Dev.store_tb (a : Nat) (bs : List Byte) : (d.store a bs).tb = d.tb := rfl
@[simp] theorem Dev.store_tbFrac (a : Nat) (bs : List Byte) : (d.store a bs).tbFrac = d.tbFrac := rfl
@[simp] theorem Dev.store_ethPhase (a : Nat) (bs : List Byte) : (d.store a bs).ethPhase = d.ethPhase := rfl
@[simp] theorem Dev.store_toSafe (a : Nat) (bs : List Byte) : (d.store a bs).toSafe = d.toSafe := rfl
@[simp] theorem Dev.store_irqs (a : Nat) (bs : List Byte) : (d.store a bs).irqs = d.irqs := rfl
@[simp] theorem Dev.store_tick (a : Nat) (bs : List Byte) : (d.store a bs).tick = d.tick := rfl
@[simp] theorem Dev.store_cfg (a : Nat) (bs : List Byte) : (d.store a bs).cfg = d.cfg := rfl
@[simp] theorem Dev.store_ports (a : Nat) (bs : List Byte) : (d.store a bs).ports = d.ports := rfl
@[simp] theorem Dev.store_fence (a : Nat) (bs : List Byte) : (d.store a bs).fence = d.fence := rfl
@[simp] theorem Dev.store_mdio (a : Nat) (bs : List Byte) : (d.store a bs).mdio = d.mdio := rfl
@[simp] theorem Dev.store_classq (a : Nat) (bs : List Byte) : (d.store a bs).classq = d.classq := rfl
@[simp] theorem Dev.store_engines (a : Nat) (bs : List Byte) : (d.store a bs).engines = d.engines := rfl
@[simp] theorem Dev.store_txc (a : Nat) (bs : List Byte) : (d.store a bs).txc = d.txc := rfl
@[simp] theorem Dev.store_cry (a : Nat) (bs : List Byte) : (d.store a bs).cry = d.cry := rfl
@[simp] theorem Dev.store_sec (a : Nat) (bs : List Byte) : (d.store a bs).sec = d.sec := rfl
@[simp] theorem Dev.store_boot (a : Nat) (bs : List Byte) : (d.store a bs).boot = d.boot := rfl
@[simp] theorem Dev.store_hep (a : Nat) (bs : List Byte) : (d.store a bs).hep = d.hep := rfl
@[simp] theorem Dev.store_dma (a : Nat) (bs : List Byte) : (d.store a bs).dma = d.dma := rfl
@[simp] theorem Dev.store_sqs (a : Nat) (bs : List Byte) : (d.store a bs).sqs = d.sqs := rfl
@[simp] theorem Dev.store_cqSince (a : Nat) (bs : List Byte) : (d.store a bs).cqSince = d.cqSince := rfl
@[simp] theorem Dev.store_due (a : Nat) (bs : List Byte) : (d.store a bs).due = d.due := rfl
@[simp] theorem Dev.store_rps (a : Nat) (bs : List Byte) : (d.store a bs).rps = d.rps := rfl
@[simp] theorem Dev.store_cal (a : Nat) (bs : List Byte) : (d.store a bs).cal = d.cal := rfl
@[simp] theorem Dev.store_nvt (a : Nat) (bs : List Byte) : (d.store a bs).nvt = d.nvt := rfl
@[simp] theorem Dev.store_safeCore (a : Nat) (bs : List Byte) : (d.store a bs).safeCore = d.safeCore := rfl
@[simp] theorem Dev.store_apWait (a : Nat) (bs : List Byte) : (d.store a bs).apWait = d.apWait := rfl
@[simp] theorem Dev.store_pwr (a : Nat) (bs : List Byte) : (d.store a bs).pwr = d.pwr := rfl
@[simp] theorem Dev.store_saf (a : Nat) (bs : List Byte) : (d.store a bs).saf = d.saf := rfl
@[simp] theorem Dev.store_tim (a : Nat) (bs : List Byte) : (d.store a bs).tim = d.tim := rfl
@[simp] theorem Dev.store_sbd (a : Nat) (bs : List Byte) : (d.store a bs).sbd = d.sbd := rfl
@[simp] theorem Dev.store_pmc (a : Nat) (bs : List Byte) : (d.store a bs).pmc = d.pmc := rfl

/-! ### `zeroLines` -/
@[simp] theorem Dev.zeroLines_rd (l n : Nat) (x : Fld) : (d.zeroLines l n).rd x = d.rd x := rfl
@[simp] theorem Dev.zeroLines_regs (l n : Nat) : (d.zeroLines l n).regs = d.regs := rfl
@[simp] theorem Dev.zeroLines_used (l n : Nat) : (d.zeroLines l n).used = d.used := rfl
@[simp] theorem Dev.zeroLines_nextUid (l n : Nat) : (d.zeroLines l n).nextUid = d.nextUid := rfl
@[simp] theorem Dev.zeroLines_freeCount (l n : Nat) : (d.zeroLines l n).freeCount = d.freeCount := rfl
@[simp] theorem Dev.zeroLines_out (l n : Nat) : (d.zeroLines l n).out = d.out := rfl
@[simp] theorem Dev.zeroLines_now (l n : Nat) : (d.zeroLines l n).now = d.now := rfl
@[simp] theorem Dev.zeroLines_tb (l n : Nat) : (d.zeroLines l n).tb = d.tb := rfl
@[simp] theorem Dev.zeroLines_tbFrac (l n : Nat) : (d.zeroLines l n).tbFrac = d.tbFrac := rfl
@[simp] theorem Dev.zeroLines_ethPhase (l n : Nat) : (d.zeroLines l n).ethPhase = d.ethPhase := rfl
@[simp] theorem Dev.zeroLines_toSafe (l n : Nat) : (d.zeroLines l n).toSafe = d.toSafe := rfl
@[simp] theorem Dev.zeroLines_irqs (l n : Nat) : (d.zeroLines l n).irqs = d.irqs := rfl
@[simp] theorem Dev.zeroLines_tick (l n : Nat) : (d.zeroLines l n).tick = d.tick := rfl
@[simp] theorem Dev.zeroLines_cfg (l n : Nat) : (d.zeroLines l n).cfg = d.cfg := rfl
@[simp] theorem Dev.zeroLines_ports (l n : Nat) : (d.zeroLines l n).ports = d.ports := rfl
@[simp] theorem Dev.zeroLines_fence (l n : Nat) : (d.zeroLines l n).fence = d.fence := rfl
@[simp] theorem Dev.zeroLines_mdio (l n : Nat) : (d.zeroLines l n).mdio = d.mdio := rfl
@[simp] theorem Dev.zeroLines_classq (l n : Nat) : (d.zeroLines l n).classq = d.classq := rfl
@[simp] theorem Dev.zeroLines_engines (l n : Nat) : (d.zeroLines l n).engines = d.engines := rfl
@[simp] theorem Dev.zeroLines_txc (l n : Nat) : (d.zeroLines l n).txc = d.txc := rfl
@[simp] theorem Dev.zeroLines_cry (l n : Nat) : (d.zeroLines l n).cry = d.cry := rfl
@[simp] theorem Dev.zeroLines_sec (l n : Nat) : (d.zeroLines l n).sec = d.sec := rfl
@[simp] theorem Dev.zeroLines_boot (l n : Nat) : (d.zeroLines l n).boot = d.boot := rfl
@[simp] theorem Dev.zeroLines_hep (l n : Nat) : (d.zeroLines l n).hep = d.hep := rfl
@[simp] theorem Dev.zeroLines_dma (l n : Nat) : (d.zeroLines l n).dma = d.dma := rfl
@[simp] theorem Dev.zeroLines_sqs (l n : Nat) : (d.zeroLines l n).sqs = d.sqs := rfl
@[simp] theorem Dev.zeroLines_cqSince (l n : Nat) : (d.zeroLines l n).cqSince = d.cqSince := rfl
@[simp] theorem Dev.zeroLines_due (l n : Nat) : (d.zeroLines l n).due = d.due := rfl
@[simp] theorem Dev.zeroLines_rps (l n : Nat) : (d.zeroLines l n).rps = d.rps := rfl
@[simp] theorem Dev.zeroLines_cal (l n : Nat) : (d.zeroLines l n).cal = d.cal := rfl
@[simp] theorem Dev.zeroLines_nvt (l n : Nat) : (d.zeroLines l n).nvt = d.nvt := rfl
@[simp] theorem Dev.zeroLines_safeCore (l n : Nat) : (d.zeroLines l n).safeCore = d.safeCore := rfl
@[simp] theorem Dev.zeroLines_apWait (l n : Nat) : (d.zeroLines l n).apWait = d.apWait := rfl
@[simp] theorem Dev.zeroLines_pwr (l n : Nat) : (d.zeroLines l n).pwr = d.pwr := rfl
@[simp] theorem Dev.zeroLines_saf (l n : Nat) : (d.zeroLines l n).saf = d.saf := rfl
@[simp] theorem Dev.zeroLines_tim (l n : Nat) : (d.zeroLines l n).tim = d.tim := rfl
@[simp] theorem Dev.zeroLines_sbd (l n : Nat) : (d.zeroLines l n).sbd = d.sbd := rfl
@[simp] theorem Dev.zeroLines_pmc (l n : Nat) : (d.zeroLines l n).pmc = d.pmc := rfl

/-! ### `free` -/
@[simp] theorem Dev.free_rd (ls : List Nat) (x : Fld) : (d.free ls).rd x = d.rd x := rfl
@[simp] theorem Dev.free_regs (ls : List Nat) : (d.free ls).regs = d.regs := rfl
@[simp] theorem Dev.free_mem (ls : List Nat) : (d.free ls).mem = d.mem := rfl
@[simp] theorem Dev.free_marks (ls : List Nat) : (d.free ls).marks = d.marks := rfl
@[simp] theorem Dev.free_writeBacks (ls : List Nat) : (d.free ls).writeBacks = d.writeBacks := rfl
@[simp] theorem Dev.free_nextUid (ls : List Nat) : (d.free ls).nextUid = d.nextUid := rfl
@[simp] theorem Dev.free_freeCount (ls : List Nat) : (d.free ls).freeCount = d.freeCount := rfl
@[simp] theorem Dev.free_out (ls : List Nat) : (d.free ls).out = d.out := rfl
@[simp] theorem Dev.free_now (ls : List Nat) : (d.free ls).now = d.now := rfl
@[simp] theorem Dev.free_tb (ls : List Nat) : (d.free ls).tb = d.tb := rfl
@[simp] theorem Dev.free_tbFrac (ls : List Nat) : (d.free ls).tbFrac = d.tbFrac := rfl
@[simp] theorem Dev.free_ethPhase (ls : List Nat) : (d.free ls).ethPhase = d.ethPhase := rfl
@[simp] theorem Dev.free_toSafe (ls : List Nat) : (d.free ls).toSafe = d.toSafe := rfl
@[simp] theorem Dev.free_irqs (ls : List Nat) : (d.free ls).irqs = d.irqs := rfl
@[simp] theorem Dev.free_tick (ls : List Nat) : (d.free ls).tick = d.tick := rfl
@[simp] theorem Dev.free_cfg (ls : List Nat) : (d.free ls).cfg = d.cfg := rfl
@[simp] theorem Dev.free_ports (ls : List Nat) : (d.free ls).ports = d.ports := rfl
@[simp] theorem Dev.free_fence (ls : List Nat) : (d.free ls).fence = d.fence := rfl
@[simp] theorem Dev.free_mdio (ls : List Nat) : (d.free ls).mdio = d.mdio := rfl
@[simp] theorem Dev.free_classq (ls : List Nat) : (d.free ls).classq = d.classq := rfl
@[simp] theorem Dev.free_engines (ls : List Nat) : (d.free ls).engines = d.engines := rfl
@[simp] theorem Dev.free_txc (ls : List Nat) : (d.free ls).txc = d.txc := rfl
@[simp] theorem Dev.free_cry (ls : List Nat) : (d.free ls).cry = d.cry := rfl
@[simp] theorem Dev.free_sec (ls : List Nat) : (d.free ls).sec = d.sec := rfl
@[simp] theorem Dev.free_boot (ls : List Nat) : (d.free ls).boot = d.boot := rfl
@[simp] theorem Dev.free_hep (ls : List Nat) : (d.free ls).hep = d.hep := rfl
@[simp] theorem Dev.free_dma (ls : List Nat) : (d.free ls).dma = d.dma := rfl
@[simp] theorem Dev.free_sqs (ls : List Nat) : (d.free ls).sqs = d.sqs := rfl
@[simp] theorem Dev.free_cqSince (ls : List Nat) : (d.free ls).cqSince = d.cqSince := rfl
@[simp] theorem Dev.free_due (ls : List Nat) : (d.free ls).due = d.due := rfl
@[simp] theorem Dev.free_rps (ls : List Nat) : (d.free ls).rps = d.rps := rfl
@[simp] theorem Dev.free_cal (ls : List Nat) : (d.free ls).cal = d.cal := rfl
@[simp] theorem Dev.free_nvt (ls : List Nat) : (d.free ls).nvt = d.nvt := rfl
@[simp] theorem Dev.free_safeCore (ls : List Nat) : (d.free ls).safeCore = d.safeCore := rfl
@[simp] theorem Dev.free_apWait (ls : List Nat) : (d.free ls).apWait = d.apWait := rfl
@[simp] theorem Dev.free_pwr (ls : List Nat) : (d.free ls).pwr = d.pwr := rfl
@[simp] theorem Dev.free_saf (ls : List Nat) : (d.free ls).saf = d.saf := rfl
@[simp] theorem Dev.free_tim (ls : List Nat) : (d.free ls).tim = d.tim := rfl
@[simp] theorem Dev.free_sbd (ls : List Nat) : (d.free ls).sbd = d.sbd := rfl
@[simp] theorem Dev.free_pmc (ls : List Nat) : (d.free ls).pmc = d.pmc := rfl

/-! ### `modPort` -/
@[simp] theorem Dev.modPort_rd (p : Nat) (g : Port → Port) (x : Fld) : (d.modPort p g).rd x = d.rd x := rfl
@[simp] theorem Dev.modPort_regs (p : Nat) (g : Port → Port) : (d.modPort p g).regs = d.regs := rfl
@[simp] theorem Dev.modPort_mem (p : Nat) (g : Port → Port) : (d.modPort p g).mem = d.mem := rfl
@[simp] theorem Dev.modPort_marks (p : Nat) (g : Port → Port) : (d.modPort p g).marks = d.marks := rfl
@[simp] theorem Dev.modPort_writeBacks (p : Nat) (g : Port → Port) : (d.modPort p g).writeBacks = d.writeBacks := rfl
@[simp] theorem Dev.modPort_used (p : Nat) (g : Port → Port) : (d.modPort p g).used = d.used := rfl
@[simp] theorem Dev.modPort_nextUid (p : Nat) (g : Port → Port) : (d.modPort p g).nextUid = d.nextUid := rfl
@[simp] theorem Dev.modPort_freeCount (p : Nat) (g : Port → Port) : (d.modPort p g).freeCount = d.freeCount := rfl
@[simp] theorem Dev.modPort_out (p : Nat) (g : Port → Port) : (d.modPort p g).out = d.out := rfl
@[simp] theorem Dev.modPort_now (p : Nat) (g : Port → Port) : (d.modPort p g).now = d.now := rfl
@[simp] theorem Dev.modPort_tb (p : Nat) (g : Port → Port) : (d.modPort p g).tb = d.tb := rfl
@[simp] theorem Dev.modPort_tbFrac (p : Nat) (g : Port → Port) : (d.modPort p g).tbFrac = d.tbFrac := rfl
@[simp] theorem Dev.modPort_ethPhase (p : Nat) (g : Port → Port) : (d.modPort p g).ethPhase = d.ethPhase := rfl
@[simp] theorem Dev.modPort_toSafe (p : Nat) (g : Port → Port) : (d.modPort p g).toSafe = d.toSafe := rfl
@[simp] theorem Dev.modPort_irqs (p : Nat) (g : Port → Port) : (d.modPort p g).irqs = d.irqs := rfl
@[simp] theorem Dev.modPort_tick (p : Nat) (g : Port → Port) : (d.modPort p g).tick = d.tick := rfl
@[simp] theorem Dev.modPort_cfg (p : Nat) (g : Port → Port) : (d.modPort p g).cfg = d.cfg := rfl
@[simp] theorem Dev.modPort_fence (p : Nat) (g : Port → Port) : (d.modPort p g).fence = d.fence := rfl
@[simp] theorem Dev.modPort_mdio (p : Nat) (g : Port → Port) : (d.modPort p g).mdio = d.mdio := rfl
@[simp] theorem Dev.modPort_classq (p : Nat) (g : Port → Port) : (d.modPort p g).classq = d.classq := rfl
@[simp] theorem Dev.modPort_engines (p : Nat) (g : Port → Port) : (d.modPort p g).engines = d.engines := rfl
@[simp] theorem Dev.modPort_txc (p : Nat) (g : Port → Port) : (d.modPort p g).txc = d.txc := rfl
@[simp] theorem Dev.modPort_cry (p : Nat) (g : Port → Port) : (d.modPort p g).cry = d.cry := rfl
@[simp] theorem Dev.modPort_sec (p : Nat) (g : Port → Port) : (d.modPort p g).sec = d.sec := rfl
@[simp] theorem Dev.modPort_boot (p : Nat) (g : Port → Port) : (d.modPort p g).boot = d.boot := rfl
@[simp] theorem Dev.modPort_hep (p : Nat) (g : Port → Port) : (d.modPort p g).hep = d.hep := rfl
@[simp] theorem Dev.modPort_dma (p : Nat) (g : Port → Port) : (d.modPort p g).dma = d.dma := rfl
@[simp] theorem Dev.modPort_sqs (p : Nat) (g : Port → Port) : (d.modPort p g).sqs = d.sqs := rfl
@[simp] theorem Dev.modPort_cqSince (p : Nat) (g : Port → Port) : (d.modPort p g).cqSince = d.cqSince := rfl
@[simp] theorem Dev.modPort_due (p : Nat) (g : Port → Port) : (d.modPort p g).due = d.due := rfl
@[simp] theorem Dev.modPort_rps (p : Nat) (g : Port → Port) : (d.modPort p g).rps = d.rps := rfl
@[simp] theorem Dev.modPort_cal (p : Nat) (g : Port → Port) : (d.modPort p g).cal = d.cal := rfl
@[simp] theorem Dev.modPort_nvt (p : Nat) (g : Port → Port) : (d.modPort p g).nvt = d.nvt := rfl
@[simp] theorem Dev.modPort_safeCore (p : Nat) (g : Port → Port) : (d.modPort p g).safeCore = d.safeCore := rfl
@[simp] theorem Dev.modPort_apWait (p : Nat) (g : Port → Port) : (d.modPort p g).apWait = d.apWait := rfl
@[simp] theorem Dev.modPort_pwr (p : Nat) (g : Port → Port) : (d.modPort p g).pwr = d.pwr := rfl
@[simp] theorem Dev.modPort_saf (p : Nat) (g : Port → Port) : (d.modPort p g).saf = d.saf := rfl
@[simp] theorem Dev.modPort_tim (p : Nat) (g : Port → Port) : (d.modPort p g).tim = d.tim := rfl
@[simp] theorem Dev.modPort_sbd (p : Nat) (g : Port → Port) : (d.modPort p g).sbd = d.sbd := rfl
@[simp] theorem Dev.modPort_pmc (p : Nat) (g : Port → Port) : (d.modPort p g).pmc = d.pmc := rfl

/-! ### `modEngine` -/
@[simp] theorem Dev.modEngine_rd (e : Nat) (g : Engine → Engine) (x : Fld) : (d.modEngine e g).rd x = d.rd x := rfl
@[simp] theorem Dev.modEngine_regs (e : Nat) (g : Engine → Engine) : (d.modEngine e g).regs = d.regs := rfl
@[simp] theorem Dev.modEngine_mem (e : Nat) (g : Engine → Engine) : (d.modEngine e g).mem = d.mem := rfl
@[simp] theorem Dev.modEngine_marks (e : Nat) (g : Engine → Engine) : (d.modEngine e g).marks = d.marks := rfl
@[simp] theorem Dev.modEngine_writeBacks (e : Nat) (g : Engine → Engine) : (d.modEngine e g).writeBacks = d.writeBacks := rfl
@[simp] theorem Dev.modEngine_used (e : Nat) (g : Engine → Engine) : (d.modEngine e g).used = d.used := rfl
@[simp] theorem Dev.modEngine_nextUid (e : Nat) (g : Engine → Engine) : (d.modEngine e g).nextUid = d.nextUid := rfl
@[simp] theorem Dev.modEngine_freeCount (e : Nat) (g : Engine → Engine) : (d.modEngine e g).freeCount = d.freeCount := rfl
@[simp] theorem Dev.modEngine_out (e : Nat) (g : Engine → Engine) : (d.modEngine e g).out = d.out := rfl
@[simp] theorem Dev.modEngine_now (e : Nat) (g : Engine → Engine) : (d.modEngine e g).now = d.now := rfl
@[simp] theorem Dev.modEngine_tb (e : Nat) (g : Engine → Engine) : (d.modEngine e g).tb = d.tb := rfl
@[simp] theorem Dev.modEngine_tbFrac (e : Nat) (g : Engine → Engine) : (d.modEngine e g).tbFrac = d.tbFrac := rfl
@[simp] theorem Dev.modEngine_ethPhase (e : Nat) (g : Engine → Engine) : (d.modEngine e g).ethPhase = d.ethPhase := rfl
@[simp] theorem Dev.modEngine_toSafe (e : Nat) (g : Engine → Engine) : (d.modEngine e g).toSafe = d.toSafe := rfl
@[simp] theorem Dev.modEngine_irqs (e : Nat) (g : Engine → Engine) : (d.modEngine e g).irqs = d.irqs := rfl
@[simp] theorem Dev.modEngine_tick (e : Nat) (g : Engine → Engine) : (d.modEngine e g).tick = d.tick := rfl
@[simp] theorem Dev.modEngine_cfg (e : Nat) (g : Engine → Engine) : (d.modEngine e g).cfg = d.cfg := rfl
@[simp] theorem Dev.modEngine_ports (e : Nat) (g : Engine → Engine) : (d.modEngine e g).ports = d.ports := rfl
@[simp] theorem Dev.modEngine_fence (e : Nat) (g : Engine → Engine) : (d.modEngine e g).fence = d.fence := rfl
@[simp] theorem Dev.modEngine_mdio (e : Nat) (g : Engine → Engine) : (d.modEngine e g).mdio = d.mdio := rfl
@[simp] theorem Dev.modEngine_classq (e : Nat) (g : Engine → Engine) : (d.modEngine e g).classq = d.classq := rfl
@[simp] theorem Dev.modEngine_txc (e : Nat) (g : Engine → Engine) : (d.modEngine e g).txc = d.txc := rfl
@[simp] theorem Dev.modEngine_cry (e : Nat) (g : Engine → Engine) : (d.modEngine e g).cry = d.cry := rfl
@[simp] theorem Dev.modEngine_sec (e : Nat) (g : Engine → Engine) : (d.modEngine e g).sec = d.sec := rfl
@[simp] theorem Dev.modEngine_boot (e : Nat) (g : Engine → Engine) : (d.modEngine e g).boot = d.boot := rfl
@[simp] theorem Dev.modEngine_hep (e : Nat) (g : Engine → Engine) : (d.modEngine e g).hep = d.hep := rfl
@[simp] theorem Dev.modEngine_dma (e : Nat) (g : Engine → Engine) : (d.modEngine e g).dma = d.dma := rfl
@[simp] theorem Dev.modEngine_sqs (e : Nat) (g : Engine → Engine) : (d.modEngine e g).sqs = d.sqs := rfl
@[simp] theorem Dev.modEngine_cqSince (e : Nat) (g : Engine → Engine) : (d.modEngine e g).cqSince = d.cqSince := rfl
@[simp] theorem Dev.modEngine_due (e : Nat) (g : Engine → Engine) : (d.modEngine e g).due = d.due := rfl
@[simp] theorem Dev.modEngine_rps (e : Nat) (g : Engine → Engine) : (d.modEngine e g).rps = d.rps := rfl
@[simp] theorem Dev.modEngine_cal (e : Nat) (g : Engine → Engine) : (d.modEngine e g).cal = d.cal := rfl
@[simp] theorem Dev.modEngine_nvt (e : Nat) (g : Engine → Engine) : (d.modEngine e g).nvt = d.nvt := rfl
@[simp] theorem Dev.modEngine_safeCore (e : Nat) (g : Engine → Engine) : (d.modEngine e g).safeCore = d.safeCore := rfl
@[simp] theorem Dev.modEngine_apWait (e : Nat) (g : Engine → Engine) : (d.modEngine e g).apWait = d.apWait := rfl
@[simp] theorem Dev.modEngine_pwr (e : Nat) (g : Engine → Engine) : (d.modEngine e g).pwr = d.pwr := rfl
@[simp] theorem Dev.modEngine_saf (e : Nat) (g : Engine → Engine) : (d.modEngine e g).saf = d.saf := rfl
@[simp] theorem Dev.modEngine_tim (e : Nat) (g : Engine → Engine) : (d.modEngine e g).tim = d.tim := rfl
@[simp] theorem Dev.modEngine_sbd (e : Nat) (g : Engine → Engine) : (d.modEngine e g).sbd = d.sbd := rfl
@[simp] theorem Dev.modEngine_pmc (e : Nat) (g : Engine → Engine) : (d.modEngine e g).pmc = d.pmc := rfl

/-! ### `enqueueClass` -/
@[simp] theorem Dev.enqueueClass_rd (c : Nat) (f : Frame) (x : Fld) : (d.enqueueClass c f).rd x = d.rd x := rfl
@[simp] theorem Dev.enqueueClass_regs (c : Nat) (f : Frame) : (d.enqueueClass c f).regs = d.regs := rfl
@[simp] theorem Dev.enqueueClass_mem (c : Nat) (f : Frame) : (d.enqueueClass c f).mem = d.mem := rfl
@[simp] theorem Dev.enqueueClass_marks (c : Nat) (f : Frame) : (d.enqueueClass c f).marks = d.marks := rfl
@[simp] theorem Dev.enqueueClass_writeBacks (c : Nat) (f : Frame) : (d.enqueueClass c f).writeBacks = d.writeBacks := rfl
@[simp] theorem Dev.enqueueClass_used (c : Nat) (f : Frame) : (d.enqueueClass c f).used = d.used := rfl
@[simp] theorem Dev.enqueueClass_nextUid (c : Nat) (f : Frame) : (d.enqueueClass c f).nextUid = d.nextUid := rfl
@[simp] theorem Dev.enqueueClass_freeCount (c : Nat) (f : Frame) : (d.enqueueClass c f).freeCount = d.freeCount := rfl
@[simp] theorem Dev.enqueueClass_out (c : Nat) (f : Frame) : (d.enqueueClass c f).out = d.out := rfl
@[simp] theorem Dev.enqueueClass_now (c : Nat) (f : Frame) : (d.enqueueClass c f).now = d.now := rfl
@[simp] theorem Dev.enqueueClass_tb (c : Nat) (f : Frame) : (d.enqueueClass c f).tb = d.tb := rfl
@[simp] theorem Dev.enqueueClass_tbFrac (c : Nat) (f : Frame) : (d.enqueueClass c f).tbFrac = d.tbFrac := rfl
@[simp] theorem Dev.enqueueClass_ethPhase (c : Nat) (f : Frame) : (d.enqueueClass c f).ethPhase = d.ethPhase := rfl
@[simp] theorem Dev.enqueueClass_toSafe (c : Nat) (f : Frame) : (d.enqueueClass c f).toSafe = d.toSafe := rfl
@[simp] theorem Dev.enqueueClass_irqs (c : Nat) (f : Frame) : (d.enqueueClass c f).irqs = d.irqs := rfl
@[simp] theorem Dev.enqueueClass_tick (c : Nat) (f : Frame) : (d.enqueueClass c f).tick = d.tick := rfl
@[simp] theorem Dev.enqueueClass_cfg (c : Nat) (f : Frame) : (d.enqueueClass c f).cfg = d.cfg := rfl
@[simp] theorem Dev.enqueueClass_ports (c : Nat) (f : Frame) : (d.enqueueClass c f).ports = d.ports := rfl
@[simp] theorem Dev.enqueueClass_fence (c : Nat) (f : Frame) : (d.enqueueClass c f).fence = d.fence := rfl
@[simp] theorem Dev.enqueueClass_mdio (c : Nat) (f : Frame) : (d.enqueueClass c f).mdio = d.mdio := rfl
@[simp] theorem Dev.enqueueClass_engines (c : Nat) (f : Frame) : (d.enqueueClass c f).engines = d.engines := rfl
@[simp] theorem Dev.enqueueClass_txc (c : Nat) (f : Frame) : (d.enqueueClass c f).txc = d.txc := rfl
@[simp] theorem Dev.enqueueClass_cry (c : Nat) (f : Frame) : (d.enqueueClass c f).cry = d.cry := rfl
@[simp] theorem Dev.enqueueClass_sec (c : Nat) (f : Frame) : (d.enqueueClass c f).sec = d.sec := rfl
@[simp] theorem Dev.enqueueClass_boot (c : Nat) (f : Frame) : (d.enqueueClass c f).boot = d.boot := rfl
@[simp] theorem Dev.enqueueClass_hep (c : Nat) (f : Frame) : (d.enqueueClass c f).hep = d.hep := rfl
@[simp] theorem Dev.enqueueClass_dma (c : Nat) (f : Frame) : (d.enqueueClass c f).dma = d.dma := rfl
@[simp] theorem Dev.enqueueClass_sqs (c : Nat) (f : Frame) : (d.enqueueClass c f).sqs = d.sqs := rfl
@[simp] theorem Dev.enqueueClass_cqSince (c : Nat) (f : Frame) : (d.enqueueClass c f).cqSince = d.cqSince := rfl
@[simp] theorem Dev.enqueueClass_due (c : Nat) (f : Frame) : (d.enqueueClass c f).due = d.due := rfl
@[simp] theorem Dev.enqueueClass_rps (c : Nat) (f : Frame) : (d.enqueueClass c f).rps = d.rps := rfl
@[simp] theorem Dev.enqueueClass_cal (c : Nat) (f : Frame) : (d.enqueueClass c f).cal = d.cal := rfl
@[simp] theorem Dev.enqueueClass_nvt (c : Nat) (f : Frame) : (d.enqueueClass c f).nvt = d.nvt := rfl
@[simp] theorem Dev.enqueueClass_safeCore (c : Nat) (f : Frame) : (d.enqueueClass c f).safeCore = d.safeCore := rfl
@[simp] theorem Dev.enqueueClass_apWait (c : Nat) (f : Frame) : (d.enqueueClass c f).apWait = d.apWait := rfl
@[simp] theorem Dev.enqueueClass_pwr (c : Nat) (f : Frame) : (d.enqueueClass c f).pwr = d.pwr := rfl
@[simp] theorem Dev.enqueueClass_saf (c : Nat) (f : Frame) : (d.enqueueClass c f).saf = d.saf := rfl
@[simp] theorem Dev.enqueueClass_tim (c : Nat) (f : Frame) : (d.enqueueClass c f).tim = d.tim := rfl
@[simp] theorem Dev.enqueueClass_sbd (c : Nat) (f : Frame) : (d.enqueueClass c f).sbd = d.sbd := rfl
@[simp] theorem Dev.enqueueClass_pmc (c : Nat) (f : Frame) : (d.enqueueClass c f).pmc = d.pmc := rfl

/-! ### `modOcc` -/
@[simp] theorem Dev.modOcc_rd (n : Nat) (g : Occ → Occ) (x : Fld) : (d.modOcc n g).rd x = d.rd x := rfl
@[simp] theorem Dev.modOcc_regs (n : Nat) (g : Occ → Occ) : (d.modOcc n g).regs = d.regs := rfl
@[simp] theorem Dev.modOcc_mem (n : Nat) (g : Occ → Occ) : (d.modOcc n g).mem = d.mem := rfl
@[simp] theorem Dev.modOcc_marks (n : Nat) (g : Occ → Occ) : (d.modOcc n g).marks = d.marks := rfl
@[simp] theorem Dev.modOcc_writeBacks (n : Nat) (g : Occ → Occ) : (d.modOcc n g).writeBacks = d.writeBacks := rfl
@[simp] theorem Dev.modOcc_used (n : Nat) (g : Occ → Occ) : (d.modOcc n g).used = d.used := rfl
@[simp] theorem Dev.modOcc_nextUid (n : Nat) (g : Occ → Occ) : (d.modOcc n g).nextUid = d.nextUid := rfl
@[simp] theorem Dev.modOcc_freeCount (n : Nat) (g : Occ → Occ) : (d.modOcc n g).freeCount = d.freeCount := rfl
@[simp] theorem Dev.modOcc_out (n : Nat) (g : Occ → Occ) : (d.modOcc n g).out = d.out := rfl
@[simp] theorem Dev.modOcc_now (n : Nat) (g : Occ → Occ) : (d.modOcc n g).now = d.now := rfl
@[simp] theorem Dev.modOcc_tb (n : Nat) (g : Occ → Occ) : (d.modOcc n g).tb = d.tb := rfl
@[simp] theorem Dev.modOcc_tbFrac (n : Nat) (g : Occ → Occ) : (d.modOcc n g).tbFrac = d.tbFrac := rfl
@[simp] theorem Dev.modOcc_ethPhase (n : Nat) (g : Occ → Occ) : (d.modOcc n g).ethPhase = d.ethPhase := rfl
@[simp] theorem Dev.modOcc_toSafe (n : Nat) (g : Occ → Occ) : (d.modOcc n g).toSafe = d.toSafe := rfl
@[simp] theorem Dev.modOcc_irqs (n : Nat) (g : Occ → Occ) : (d.modOcc n g).irqs = d.irqs := rfl
@[simp] theorem Dev.modOcc_cfg (n : Nat) (g : Occ → Occ) : (d.modOcc n g).cfg = d.cfg := rfl
@[simp] theorem Dev.modOcc_ports (n : Nat) (g : Occ → Occ) : (d.modOcc n g).ports = d.ports := rfl
@[simp] theorem Dev.modOcc_fence (n : Nat) (g : Occ → Occ) : (d.modOcc n g).fence = d.fence := rfl
@[simp] theorem Dev.modOcc_mdio (n : Nat) (g : Occ → Occ) : (d.modOcc n g).mdio = d.mdio := rfl
@[simp] theorem Dev.modOcc_classq (n : Nat) (g : Occ → Occ) : (d.modOcc n g).classq = d.classq := rfl
@[simp] theorem Dev.modOcc_engines (n : Nat) (g : Occ → Occ) : (d.modOcc n g).engines = d.engines := rfl
@[simp] theorem Dev.modOcc_txc (n : Nat) (g : Occ → Occ) : (d.modOcc n g).txc = d.txc := rfl
@[simp] theorem Dev.modOcc_cry (n : Nat) (g : Occ → Occ) : (d.modOcc n g).cry = d.cry := rfl
@[simp] theorem Dev.modOcc_sec (n : Nat) (g : Occ → Occ) : (d.modOcc n g).sec = d.sec := rfl
@[simp] theorem Dev.modOcc_boot (n : Nat) (g : Occ → Occ) : (d.modOcc n g).boot = d.boot := rfl
@[simp] theorem Dev.modOcc_hep (n : Nat) (g : Occ → Occ) : (d.modOcc n g).hep = d.hep := rfl
@[simp] theorem Dev.modOcc_dma (n : Nat) (g : Occ → Occ) : (d.modOcc n g).dma = d.dma := rfl
@[simp] theorem Dev.modOcc_sqs (n : Nat) (g : Occ → Occ) : (d.modOcc n g).sqs = d.sqs := rfl
@[simp] theorem Dev.modOcc_cqSince (n : Nat) (g : Occ → Occ) : (d.modOcc n g).cqSince = d.cqSince := rfl
@[simp] theorem Dev.modOcc_due (n : Nat) (g : Occ → Occ) : (d.modOcc n g).due = d.due := rfl
@[simp] theorem Dev.modOcc_rps (n : Nat) (g : Occ → Occ) : (d.modOcc n g).rps = d.rps := rfl
@[simp] theorem Dev.modOcc_cal (n : Nat) (g : Occ → Occ) : (d.modOcc n g).cal = d.cal := rfl
@[simp] theorem Dev.modOcc_nvt (n : Nat) (g : Occ → Occ) : (d.modOcc n g).nvt = d.nvt := rfl
@[simp] theorem Dev.modOcc_safeCore (n : Nat) (g : Occ → Occ) : (d.modOcc n g).safeCore = d.safeCore := rfl
@[simp] theorem Dev.modOcc_apWait (n : Nat) (g : Occ → Occ) : (d.modOcc n g).apWait = d.apWait := rfl
@[simp] theorem Dev.modOcc_pwr (n : Nat) (g : Occ → Occ) : (d.modOcc n g).pwr = d.pwr := rfl
@[simp] theorem Dev.modOcc_saf (n : Nat) (g : Occ → Occ) : (d.modOcc n g).saf = d.saf := rfl
@[simp] theorem Dev.modOcc_tim (n : Nat) (g : Occ → Occ) : (d.modOcc n g).tim = d.tim := rfl
@[simp] theorem Dev.modOcc_sbd (n : Nat) (g : Occ → Occ) : (d.modOcc n g).sbd = d.sbd := rfl
@[simp] theorem Dev.modOcc_pmc (n : Nat) (g : Occ → Occ) : (d.modOcc n g).pmc = d.pmc := rfl

/-! ### `modSq` -/
@[simp] theorem Dev.modSq_rd (n : Nat) (g : Sq → Sq) (x : Fld) : (d.modSq n g).rd x = d.rd x := rfl
@[simp] theorem Dev.modSq_regs (n : Nat) (g : Sq → Sq) : (d.modSq n g).regs = d.regs := rfl
@[simp] theorem Dev.modSq_mem (n : Nat) (g : Sq → Sq) : (d.modSq n g).mem = d.mem := rfl
@[simp] theorem Dev.modSq_marks (n : Nat) (g : Sq → Sq) : (d.modSq n g).marks = d.marks := rfl
@[simp] theorem Dev.modSq_writeBacks (n : Nat) (g : Sq → Sq) : (d.modSq n g).writeBacks = d.writeBacks := rfl
@[simp] theorem Dev.modSq_used (n : Nat) (g : Sq → Sq) : (d.modSq n g).used = d.used := rfl
@[simp] theorem Dev.modSq_nextUid (n : Nat) (g : Sq → Sq) : (d.modSq n g).nextUid = d.nextUid := rfl
@[simp] theorem Dev.modSq_freeCount (n : Nat) (g : Sq → Sq) : (d.modSq n g).freeCount = d.freeCount := rfl
@[simp] theorem Dev.modSq_out (n : Nat) (g : Sq → Sq) : (d.modSq n g).out = d.out := rfl
@[simp] theorem Dev.modSq_now (n : Nat) (g : Sq → Sq) : (d.modSq n g).now = d.now := rfl
@[simp] theorem Dev.modSq_tb (n : Nat) (g : Sq → Sq) : (d.modSq n g).tb = d.tb := rfl
@[simp] theorem Dev.modSq_tbFrac (n : Nat) (g : Sq → Sq) : (d.modSq n g).tbFrac = d.tbFrac := rfl
@[simp] theorem Dev.modSq_ethPhase (n : Nat) (g : Sq → Sq) : (d.modSq n g).ethPhase = d.ethPhase := rfl
@[simp] theorem Dev.modSq_toSafe (n : Nat) (g : Sq → Sq) : (d.modSq n g).toSafe = d.toSafe := rfl
@[simp] theorem Dev.modSq_irqs (n : Nat) (g : Sq → Sq) : (d.modSq n g).irqs = d.irqs := rfl
@[simp] theorem Dev.modSq_tick (n : Nat) (g : Sq → Sq) : (d.modSq n g).tick = d.tick := rfl
@[simp] theorem Dev.modSq_cfg (n : Nat) (g : Sq → Sq) : (d.modSq n g).cfg = d.cfg := rfl
@[simp] theorem Dev.modSq_ports (n : Nat) (g : Sq → Sq) : (d.modSq n g).ports = d.ports := rfl
@[simp] theorem Dev.modSq_fence (n : Nat) (g : Sq → Sq) : (d.modSq n g).fence = d.fence := rfl
@[simp] theorem Dev.modSq_mdio (n : Nat) (g : Sq → Sq) : (d.modSq n g).mdio = d.mdio := rfl
@[simp] theorem Dev.modSq_classq (n : Nat) (g : Sq → Sq) : (d.modSq n g).classq = d.classq := rfl
@[simp] theorem Dev.modSq_engines (n : Nat) (g : Sq → Sq) : (d.modSq n g).engines = d.engines := rfl
@[simp] theorem Dev.modSq_txc (n : Nat) (g : Sq → Sq) : (d.modSq n g).txc = d.txc := rfl
@[simp] theorem Dev.modSq_cry (n : Nat) (g : Sq → Sq) : (d.modSq n g).cry = d.cry := rfl
@[simp] theorem Dev.modSq_sec (n : Nat) (g : Sq → Sq) : (d.modSq n g).sec = d.sec := rfl
@[simp] theorem Dev.modSq_boot (n : Nat) (g : Sq → Sq) : (d.modSq n g).boot = d.boot := rfl
@[simp] theorem Dev.modSq_hep (n : Nat) (g : Sq → Sq) : (d.modSq n g).hep = d.hep := rfl
@[simp] theorem Dev.modSq_dma (n : Nat) (g : Sq → Sq) : (d.modSq n g).dma = d.dma := rfl
@[simp] theorem Dev.modSq_cqSince (n : Nat) (g : Sq → Sq) : (d.modSq n g).cqSince = d.cqSince := rfl
@[simp] theorem Dev.modSq_due (n : Nat) (g : Sq → Sq) : (d.modSq n g).due = d.due := rfl
@[simp] theorem Dev.modSq_rps (n : Nat) (g : Sq → Sq) : (d.modSq n g).rps = d.rps := rfl
@[simp] theorem Dev.modSq_cal (n : Nat) (g : Sq → Sq) : (d.modSq n g).cal = d.cal := rfl
@[simp] theorem Dev.modSq_nvt (n : Nat) (g : Sq → Sq) : (d.modSq n g).nvt = d.nvt := rfl
@[simp] theorem Dev.modSq_safeCore (n : Nat) (g : Sq → Sq) : (d.modSq n g).safeCore = d.safeCore := rfl
@[simp] theorem Dev.modSq_apWait (n : Nat) (g : Sq → Sq) : (d.modSq n g).apWait = d.apWait := rfl
@[simp] theorem Dev.modSq_pwr (n : Nat) (g : Sq → Sq) : (d.modSq n g).pwr = d.pwr := rfl
@[simp] theorem Dev.modSq_saf (n : Nat) (g : Sq → Sq) : (d.modSq n g).saf = d.saf := rfl
@[simp] theorem Dev.modSq_tim (n : Nat) (g : Sq → Sq) : (d.modSq n g).tim = d.tim := rfl
@[simp] theorem Dev.modSq_sbd (n : Nat) (g : Sq → Sq) : (d.modSq n g).sbd = d.sbd := rfl
@[simp] theorem Dev.modSq_pmc (n : Nat) (g : Sq → Sq) : (d.modSq n g).pmc = d.pmc := rfl

/-! ### `modRp` -/
@[simp] theorem Dev.modRp_rd (n : Nat) (g : Rp → Rp) (x : Fld) : (d.modRp n g).rd x = d.rd x := rfl
@[simp] theorem Dev.modRp_regs (n : Nat) (g : Rp → Rp) : (d.modRp n g).regs = d.regs := rfl
@[simp] theorem Dev.modRp_mem (n : Nat) (g : Rp → Rp) : (d.modRp n g).mem = d.mem := rfl
@[simp] theorem Dev.modRp_marks (n : Nat) (g : Rp → Rp) : (d.modRp n g).marks = d.marks := rfl
@[simp] theorem Dev.modRp_writeBacks (n : Nat) (g : Rp → Rp) : (d.modRp n g).writeBacks = d.writeBacks := rfl
@[simp] theorem Dev.modRp_used (n : Nat) (g : Rp → Rp) : (d.modRp n g).used = d.used := rfl
@[simp] theorem Dev.modRp_nextUid (n : Nat) (g : Rp → Rp) : (d.modRp n g).nextUid = d.nextUid := rfl
@[simp] theorem Dev.modRp_freeCount (n : Nat) (g : Rp → Rp) : (d.modRp n g).freeCount = d.freeCount := rfl
@[simp] theorem Dev.modRp_out (n : Nat) (g : Rp → Rp) : (d.modRp n g).out = d.out := rfl
@[simp] theorem Dev.modRp_now (n : Nat) (g : Rp → Rp) : (d.modRp n g).now = d.now := rfl
@[simp] theorem Dev.modRp_tb (n : Nat) (g : Rp → Rp) : (d.modRp n g).tb = d.tb := rfl
@[simp] theorem Dev.modRp_tbFrac (n : Nat) (g : Rp → Rp) : (d.modRp n g).tbFrac = d.tbFrac := rfl
@[simp] theorem Dev.modRp_ethPhase (n : Nat) (g : Rp → Rp) : (d.modRp n g).ethPhase = d.ethPhase := rfl
@[simp] theorem Dev.modRp_toSafe (n : Nat) (g : Rp → Rp) : (d.modRp n g).toSafe = d.toSafe := rfl
@[simp] theorem Dev.modRp_irqs (n : Nat) (g : Rp → Rp) : (d.modRp n g).irqs = d.irqs := rfl
@[simp] theorem Dev.modRp_tick (n : Nat) (g : Rp → Rp) : (d.modRp n g).tick = d.tick := rfl
@[simp] theorem Dev.modRp_cfg (n : Nat) (g : Rp → Rp) : (d.modRp n g).cfg = d.cfg := rfl
@[simp] theorem Dev.modRp_ports (n : Nat) (g : Rp → Rp) : (d.modRp n g).ports = d.ports := rfl
@[simp] theorem Dev.modRp_fence (n : Nat) (g : Rp → Rp) : (d.modRp n g).fence = d.fence := rfl
@[simp] theorem Dev.modRp_mdio (n : Nat) (g : Rp → Rp) : (d.modRp n g).mdio = d.mdio := rfl
@[simp] theorem Dev.modRp_classq (n : Nat) (g : Rp → Rp) : (d.modRp n g).classq = d.classq := rfl
@[simp] theorem Dev.modRp_engines (n : Nat) (g : Rp → Rp) : (d.modRp n g).engines = d.engines := rfl
@[simp] theorem Dev.modRp_txc (n : Nat) (g : Rp → Rp) : (d.modRp n g).txc = d.txc := rfl
@[simp] theorem Dev.modRp_cry (n : Nat) (g : Rp → Rp) : (d.modRp n g).cry = d.cry := rfl
@[simp] theorem Dev.modRp_sec (n : Nat) (g : Rp → Rp) : (d.modRp n g).sec = d.sec := rfl
@[simp] theorem Dev.modRp_boot (n : Nat) (g : Rp → Rp) : (d.modRp n g).boot = d.boot := rfl
@[simp] theorem Dev.modRp_hep (n : Nat) (g : Rp → Rp) : (d.modRp n g).hep = d.hep := rfl
@[simp] theorem Dev.modRp_dma (n : Nat) (g : Rp → Rp) : (d.modRp n g).dma = d.dma := rfl
@[simp] theorem Dev.modRp_sqs (n : Nat) (g : Rp → Rp) : (d.modRp n g).sqs = d.sqs := rfl
@[simp] theorem Dev.modRp_cqSince (n : Nat) (g : Rp → Rp) : (d.modRp n g).cqSince = d.cqSince := rfl
@[simp] theorem Dev.modRp_due (n : Nat) (g : Rp → Rp) : (d.modRp n g).due = d.due := rfl
@[simp] theorem Dev.modRp_cal (n : Nat) (g : Rp → Rp) : (d.modRp n g).cal = d.cal := rfl
@[simp] theorem Dev.modRp_nvt (n : Nat) (g : Rp → Rp) : (d.modRp n g).nvt = d.nvt := rfl
@[simp] theorem Dev.modRp_safeCore (n : Nat) (g : Rp → Rp) : (d.modRp n g).safeCore = d.safeCore := rfl
@[simp] theorem Dev.modRp_apWait (n : Nat) (g : Rp → Rp) : (d.modRp n g).apWait = d.apWait := rfl
@[simp] theorem Dev.modRp_pwr (n : Nat) (g : Rp → Rp) : (d.modRp n g).pwr = d.pwr := rfl
@[simp] theorem Dev.modRp_saf (n : Nat) (g : Rp → Rp) : (d.modRp n g).saf = d.saf := rfl
@[simp] theorem Dev.modRp_tim (n : Nat) (g : Rp → Rp) : (d.modRp n g).tim = d.tim := rfl
@[simp] theorem Dev.modRp_sbd (n : Nat) (g : Rp → Rp) : (d.modRp n g).sbd = d.sbd := rfl
@[simp] theorem Dev.modRp_pmc (n : Nat) (g : Rp → Rp) : (d.modRp n g).pmc = d.pmc := rfl

/-! ### `modConn` -/
@[simp] theorem Dev.modConn_rd (c : Nat) (g : NvtConn → NvtConn) (x : Fld) : (d.modConn c g).rd x = d.rd x := rfl
@[simp] theorem Dev.modConn_regs (c : Nat) (g : NvtConn → NvtConn) : (d.modConn c g).regs = d.regs := rfl
@[simp] theorem Dev.modConn_mem (c : Nat) (g : NvtConn → NvtConn) : (d.modConn c g).mem = d.mem := rfl
@[simp] theorem Dev.modConn_marks (c : Nat) (g : NvtConn → NvtConn) : (d.modConn c g).marks = d.marks := rfl
@[simp] theorem Dev.modConn_writeBacks (c : Nat) (g : NvtConn → NvtConn) : (d.modConn c g).writeBacks = d.writeBacks := rfl
@[simp] theorem Dev.modConn_used (c : Nat) (g : NvtConn → NvtConn) : (d.modConn c g).used = d.used := rfl
@[simp] theorem Dev.modConn_nextUid (c : Nat) (g : NvtConn → NvtConn) : (d.modConn c g).nextUid = d.nextUid := rfl
@[simp] theorem Dev.modConn_freeCount (c : Nat) (g : NvtConn → NvtConn) : (d.modConn c g).freeCount = d.freeCount := rfl
@[simp] theorem Dev.modConn_out (c : Nat) (g : NvtConn → NvtConn) : (d.modConn c g).out = d.out := rfl
@[simp] theorem Dev.modConn_now (c : Nat) (g : NvtConn → NvtConn) : (d.modConn c g).now = d.now := rfl
@[simp] theorem Dev.modConn_tb (c : Nat) (g : NvtConn → NvtConn) : (d.modConn c g).tb = d.tb := rfl
@[simp] theorem Dev.modConn_tbFrac (c : Nat) (g : NvtConn → NvtConn) : (d.modConn c g).tbFrac = d.tbFrac := rfl
@[simp] theorem Dev.modConn_ethPhase (c : Nat) (g : NvtConn → NvtConn) : (d.modConn c g).ethPhase = d.ethPhase := rfl
@[simp] theorem Dev.modConn_toSafe (c : Nat) (g : NvtConn → NvtConn) : (d.modConn c g).toSafe = d.toSafe := rfl
@[simp] theorem Dev.modConn_irqs (c : Nat) (g : NvtConn → NvtConn) : (d.modConn c g).irqs = d.irqs := rfl
@[simp] theorem Dev.modConn_tick (c : Nat) (g : NvtConn → NvtConn) : (d.modConn c g).tick = d.tick := rfl
@[simp] theorem Dev.modConn_cfg (c : Nat) (g : NvtConn → NvtConn) : (d.modConn c g).cfg = d.cfg := rfl
@[simp] theorem Dev.modConn_ports (c : Nat) (g : NvtConn → NvtConn) : (d.modConn c g).ports = d.ports := rfl
@[simp] theorem Dev.modConn_fence (c : Nat) (g : NvtConn → NvtConn) : (d.modConn c g).fence = d.fence := rfl
@[simp] theorem Dev.modConn_mdio (c : Nat) (g : NvtConn → NvtConn) : (d.modConn c g).mdio = d.mdio := rfl
@[simp] theorem Dev.modConn_classq (c : Nat) (g : NvtConn → NvtConn) : (d.modConn c g).classq = d.classq := rfl
@[simp] theorem Dev.modConn_engines (c : Nat) (g : NvtConn → NvtConn) : (d.modConn c g).engines = d.engines := rfl
@[simp] theorem Dev.modConn_txc (c : Nat) (g : NvtConn → NvtConn) : (d.modConn c g).txc = d.txc := rfl
@[simp] theorem Dev.modConn_cry (c : Nat) (g : NvtConn → NvtConn) : (d.modConn c g).cry = d.cry := rfl
@[simp] theorem Dev.modConn_sec (c : Nat) (g : NvtConn → NvtConn) : (d.modConn c g).sec = d.sec := rfl
@[simp] theorem Dev.modConn_boot (c : Nat) (g : NvtConn → NvtConn) : (d.modConn c g).boot = d.boot := rfl
@[simp] theorem Dev.modConn_hep (c : Nat) (g : NvtConn → NvtConn) : (d.modConn c g).hep = d.hep := rfl
@[simp] theorem Dev.modConn_dma (c : Nat) (g : NvtConn → NvtConn) : (d.modConn c g).dma = d.dma := rfl
@[simp] theorem Dev.modConn_sqs (c : Nat) (g : NvtConn → NvtConn) : (d.modConn c g).sqs = d.sqs := rfl
@[simp] theorem Dev.modConn_cqSince (c : Nat) (g : NvtConn → NvtConn) : (d.modConn c g).cqSince = d.cqSince := rfl
@[simp] theorem Dev.modConn_due (c : Nat) (g : NvtConn → NvtConn) : (d.modConn c g).due = d.due := rfl
@[simp] theorem Dev.modConn_rps (c : Nat) (g : NvtConn → NvtConn) : (d.modConn c g).rps = d.rps := rfl
@[simp] theorem Dev.modConn_cal (c : Nat) (g : NvtConn → NvtConn) : (d.modConn c g).cal = d.cal := rfl
@[simp] theorem Dev.modConn_safeCore (c : Nat) (g : NvtConn → NvtConn) : (d.modConn c g).safeCore = d.safeCore := rfl
@[simp] theorem Dev.modConn_apWait (c : Nat) (g : NvtConn → NvtConn) : (d.modConn c g).apWait = d.apWait := rfl
@[simp] theorem Dev.modConn_pwr (c : Nat) (g : NvtConn → NvtConn) : (d.modConn c g).pwr = d.pwr := rfl
@[simp] theorem Dev.modConn_saf (c : Nat) (g : NvtConn → NvtConn) : (d.modConn c g).saf = d.saf := rfl
@[simp] theorem Dev.modConn_tim (c : Nat) (g : NvtConn → NvtConn) : (d.modConn c g).tim = d.tim := rfl
@[simp] theorem Dev.modConn_sbd (c : Nat) (g : NvtConn → NvtConn) : (d.modConn c g).sbd = d.sbd := rfl
@[simp] theorem Dev.modConn_pmc (c : Nat) (g : NvtConn → NvtConn) : (d.modConn c g).pmc = d.pmc := rfl

/-! ### `modLl` -/
@[simp] theorem Dev.modLl_rd (c : Nat) (g : Ll → Ll) (x : Fld) : (d.modLl c g).rd x = d.rd x := rfl
@[simp] theorem Dev.modLl_regs (c : Nat) (g : Ll → Ll) : (d.modLl c g).regs = d.regs := rfl
@[simp] theorem Dev.modLl_mem (c : Nat) (g : Ll → Ll) : (d.modLl c g).mem = d.mem := rfl
@[simp] theorem Dev.modLl_marks (c : Nat) (g : Ll → Ll) : (d.modLl c g).marks = d.marks := rfl
@[simp] theorem Dev.modLl_writeBacks (c : Nat) (g : Ll → Ll) : (d.modLl c g).writeBacks = d.writeBacks := rfl
@[simp] theorem Dev.modLl_used (c : Nat) (g : Ll → Ll) : (d.modLl c g).used = d.used := rfl
@[simp] theorem Dev.modLl_nextUid (c : Nat) (g : Ll → Ll) : (d.modLl c g).nextUid = d.nextUid := rfl
@[simp] theorem Dev.modLl_freeCount (c : Nat) (g : Ll → Ll) : (d.modLl c g).freeCount = d.freeCount := rfl
@[simp] theorem Dev.modLl_out (c : Nat) (g : Ll → Ll) : (d.modLl c g).out = d.out := rfl
@[simp] theorem Dev.modLl_now (c : Nat) (g : Ll → Ll) : (d.modLl c g).now = d.now := rfl
@[simp] theorem Dev.modLl_tb (c : Nat) (g : Ll → Ll) : (d.modLl c g).tb = d.tb := rfl
@[simp] theorem Dev.modLl_tbFrac (c : Nat) (g : Ll → Ll) : (d.modLl c g).tbFrac = d.tbFrac := rfl
@[simp] theorem Dev.modLl_ethPhase (c : Nat) (g : Ll → Ll) : (d.modLl c g).ethPhase = d.ethPhase := rfl
@[simp] theorem Dev.modLl_toSafe (c : Nat) (g : Ll → Ll) : (d.modLl c g).toSafe = d.toSafe := rfl
@[simp] theorem Dev.modLl_irqs (c : Nat) (g : Ll → Ll) : (d.modLl c g).irqs = d.irqs := rfl
@[simp] theorem Dev.modLl_tick (c : Nat) (g : Ll → Ll) : (d.modLl c g).tick = d.tick := rfl
@[simp] theorem Dev.modLl_cfg (c : Nat) (g : Ll → Ll) : (d.modLl c g).cfg = d.cfg := rfl
@[simp] theorem Dev.modLl_ports (c : Nat) (g : Ll → Ll) : (d.modLl c g).ports = d.ports := rfl
@[simp] theorem Dev.modLl_fence (c : Nat) (g : Ll → Ll) : (d.modLl c g).fence = d.fence := rfl
@[simp] theorem Dev.modLl_mdio (c : Nat) (g : Ll → Ll) : (d.modLl c g).mdio = d.mdio := rfl
@[simp] theorem Dev.modLl_classq (c : Nat) (g : Ll → Ll) : (d.modLl c g).classq = d.classq := rfl
@[simp] theorem Dev.modLl_engines (c : Nat) (g : Ll → Ll) : (d.modLl c g).engines = d.engines := rfl
@[simp] theorem Dev.modLl_txc (c : Nat) (g : Ll → Ll) : (d.modLl c g).txc = d.txc := rfl
@[simp] theorem Dev.modLl_cry (c : Nat) (g : Ll → Ll) : (d.modLl c g).cry = d.cry := rfl
@[simp] theorem Dev.modLl_sec (c : Nat) (g : Ll → Ll) : (d.modLl c g).sec = d.sec := rfl
@[simp] theorem Dev.modLl_boot (c : Nat) (g : Ll → Ll) : (d.modLl c g).boot = d.boot := rfl
@[simp] theorem Dev.modLl_hep (c : Nat) (g : Ll → Ll) : (d.modLl c g).hep = d.hep := rfl
@[simp] theorem Dev.modLl_sqs (c : Nat) (g : Ll → Ll) : (d.modLl c g).sqs = d.sqs := rfl
@[simp] theorem Dev.modLl_cqSince (c : Nat) (g : Ll → Ll) : (d.modLl c g).cqSince = d.cqSince := rfl
@[simp] theorem Dev.modLl_due (c : Nat) (g : Ll → Ll) : (d.modLl c g).due = d.due := rfl
@[simp] theorem Dev.modLl_rps (c : Nat) (g : Ll → Ll) : (d.modLl c g).rps = d.rps := rfl
@[simp] theorem Dev.modLl_cal (c : Nat) (g : Ll → Ll) : (d.modLl c g).cal = d.cal := rfl
@[simp] theorem Dev.modLl_nvt (c : Nat) (g : Ll → Ll) : (d.modLl c g).nvt = d.nvt := rfl
@[simp] theorem Dev.modLl_safeCore (c : Nat) (g : Ll → Ll) : (d.modLl c g).safeCore = d.safeCore := rfl
@[simp] theorem Dev.modLl_apWait (c : Nat) (g : Ll → Ll) : (d.modLl c g).apWait = d.apWait := rfl
@[simp] theorem Dev.modLl_pwr (c : Nat) (g : Ll → Ll) : (d.modLl c g).pwr = d.pwr := rfl
@[simp] theorem Dev.modLl_saf (c : Nat) (g : Ll → Ll) : (d.modLl c g).saf = d.saf := rfl
@[simp] theorem Dev.modLl_tim (c : Nat) (g : Ll → Ll) : (d.modLl c g).tim = d.tim := rfl
@[simp] theorem Dev.modLl_sbd (c : Nat) (g : Ll → Ll) : (d.modLl c g).sbd = d.sbd := rfl
@[simp] theorem Dev.modLl_pmc (c : Nat) (g : Ll → Ll) : (d.modLl c g).pmc = d.pmc := rfl

/-! ### `modTch` -/
@[simp] theorem Dev.modTch_rd (t : Nat) (g : Tch → Tch) (x : Fld) : (d.modTch t g).rd x = d.rd x := rfl
@[simp] theorem Dev.modTch_regs (t : Nat) (g : Tch → Tch) : (d.modTch t g).regs = d.regs := rfl
@[simp] theorem Dev.modTch_mem (t : Nat) (g : Tch → Tch) : (d.modTch t g).mem = d.mem := rfl
@[simp] theorem Dev.modTch_marks (t : Nat) (g : Tch → Tch) : (d.modTch t g).marks = d.marks := rfl
@[simp] theorem Dev.modTch_writeBacks (t : Nat) (g : Tch → Tch) : (d.modTch t g).writeBacks = d.writeBacks := rfl
@[simp] theorem Dev.modTch_used (t : Nat) (g : Tch → Tch) : (d.modTch t g).used = d.used := rfl
@[simp] theorem Dev.modTch_nextUid (t : Nat) (g : Tch → Tch) : (d.modTch t g).nextUid = d.nextUid := rfl
@[simp] theorem Dev.modTch_freeCount (t : Nat) (g : Tch → Tch) : (d.modTch t g).freeCount = d.freeCount := rfl
@[simp] theorem Dev.modTch_out (t : Nat) (g : Tch → Tch) : (d.modTch t g).out = d.out := rfl
@[simp] theorem Dev.modTch_now (t : Nat) (g : Tch → Tch) : (d.modTch t g).now = d.now := rfl
@[simp] theorem Dev.modTch_tb (t : Nat) (g : Tch → Tch) : (d.modTch t g).tb = d.tb := rfl
@[simp] theorem Dev.modTch_tbFrac (t : Nat) (g : Tch → Tch) : (d.modTch t g).tbFrac = d.tbFrac := rfl
@[simp] theorem Dev.modTch_ethPhase (t : Nat) (g : Tch → Tch) : (d.modTch t g).ethPhase = d.ethPhase := rfl
@[simp] theorem Dev.modTch_toSafe (t : Nat) (g : Tch → Tch) : (d.modTch t g).toSafe = d.toSafe := rfl
@[simp] theorem Dev.modTch_irqs (t : Nat) (g : Tch → Tch) : (d.modTch t g).irqs = d.irqs := rfl
@[simp] theorem Dev.modTch_tick (t : Nat) (g : Tch → Tch) : (d.modTch t g).tick = d.tick := rfl
@[simp] theorem Dev.modTch_cfg (t : Nat) (g : Tch → Tch) : (d.modTch t g).cfg = d.cfg := rfl
@[simp] theorem Dev.modTch_ports (t : Nat) (g : Tch → Tch) : (d.modTch t g).ports = d.ports := rfl
@[simp] theorem Dev.modTch_fence (t : Nat) (g : Tch → Tch) : (d.modTch t g).fence = d.fence := rfl
@[simp] theorem Dev.modTch_mdio (t : Nat) (g : Tch → Tch) : (d.modTch t g).mdio = d.mdio := rfl
@[simp] theorem Dev.modTch_classq (t : Nat) (g : Tch → Tch) : (d.modTch t g).classq = d.classq := rfl
@[simp] theorem Dev.modTch_engines (t : Nat) (g : Tch → Tch) : (d.modTch t g).engines = d.engines := rfl
@[simp] theorem Dev.modTch_txc (t : Nat) (g : Tch → Tch) : (d.modTch t g).txc = d.txc := rfl
@[simp] theorem Dev.modTch_cry (t : Nat) (g : Tch → Tch) : (d.modTch t g).cry = d.cry := rfl
@[simp] theorem Dev.modTch_sec (t : Nat) (g : Tch → Tch) : (d.modTch t g).sec = d.sec := rfl
@[simp] theorem Dev.modTch_boot (t : Nat) (g : Tch → Tch) : (d.modTch t g).boot = d.boot := rfl
@[simp] theorem Dev.modTch_hep (t : Nat) (g : Tch → Tch) : (d.modTch t g).hep = d.hep := rfl
@[simp] theorem Dev.modTch_sqs (t : Nat) (g : Tch → Tch) : (d.modTch t g).sqs = d.sqs := rfl
@[simp] theorem Dev.modTch_cqSince (t : Nat) (g : Tch → Tch) : (d.modTch t g).cqSince = d.cqSince := rfl
@[simp] theorem Dev.modTch_due (t : Nat) (g : Tch → Tch) : (d.modTch t g).due = d.due := rfl
@[simp] theorem Dev.modTch_rps (t : Nat) (g : Tch → Tch) : (d.modTch t g).rps = d.rps := rfl
@[simp] theorem Dev.modTch_cal (t : Nat) (g : Tch → Tch) : (d.modTch t g).cal = d.cal := rfl
@[simp] theorem Dev.modTch_nvt (t : Nat) (g : Tch → Tch) : (d.modTch t g).nvt = d.nvt := rfl
@[simp] theorem Dev.modTch_safeCore (t : Nat) (g : Tch → Tch) : (d.modTch t g).safeCore = d.safeCore := rfl
@[simp] theorem Dev.modTch_apWait (t : Nat) (g : Tch → Tch) : (d.modTch t g).apWait = d.apWait := rfl
@[simp] theorem Dev.modTch_pwr (t : Nat) (g : Tch → Tch) : (d.modTch t g).pwr = d.pwr := rfl
@[simp] theorem Dev.modTch_saf (t : Nat) (g : Tch → Tch) : (d.modTch t g).saf = d.saf := rfl
@[simp] theorem Dev.modTch_tim (t : Nat) (g : Tch → Tch) : (d.modTch t g).tim = d.tim := rfl
@[simp] theorem Dev.modTch_sbd (t : Nat) (g : Tch → Tch) : (d.modTch t g).sbd = d.sbd := rfl
@[simp] theorem Dev.modTch_pmc (t : Nat) (g : Tch → Tch) : (d.modTch t g).pmc = d.pmc := rfl

/-! ### `modSmp` -/
@[simp] theorem Dev.modSmp_rd (p : Nat) (g : Smp → Smp) (x : Fld) : (d.modSmp p g).rd x = d.rd x := rfl
@[simp] theorem Dev.modSmp_regs (p : Nat) (g : Smp → Smp) : (d.modSmp p g).regs = d.regs := rfl
@[simp] theorem Dev.modSmp_mem (p : Nat) (g : Smp → Smp) : (d.modSmp p g).mem = d.mem := rfl
@[simp] theorem Dev.modSmp_marks (p : Nat) (g : Smp → Smp) : (d.modSmp p g).marks = d.marks := rfl
@[simp] theorem Dev.modSmp_writeBacks (p : Nat) (g : Smp → Smp) : (d.modSmp p g).writeBacks = d.writeBacks := rfl
@[simp] theorem Dev.modSmp_used (p : Nat) (g : Smp → Smp) : (d.modSmp p g).used = d.used := rfl
@[simp] theorem Dev.modSmp_nextUid (p : Nat) (g : Smp → Smp) : (d.modSmp p g).nextUid = d.nextUid := rfl
@[simp] theorem Dev.modSmp_freeCount (p : Nat) (g : Smp → Smp) : (d.modSmp p g).freeCount = d.freeCount := rfl
@[simp] theorem Dev.modSmp_out (p : Nat) (g : Smp → Smp) : (d.modSmp p g).out = d.out := rfl
@[simp] theorem Dev.modSmp_now (p : Nat) (g : Smp → Smp) : (d.modSmp p g).now = d.now := rfl
@[simp] theorem Dev.modSmp_tb (p : Nat) (g : Smp → Smp) : (d.modSmp p g).tb = d.tb := rfl
@[simp] theorem Dev.modSmp_tbFrac (p : Nat) (g : Smp → Smp) : (d.modSmp p g).tbFrac = d.tbFrac := rfl
@[simp] theorem Dev.modSmp_ethPhase (p : Nat) (g : Smp → Smp) : (d.modSmp p g).ethPhase = d.ethPhase := rfl
@[simp] theorem Dev.modSmp_toSafe (p : Nat) (g : Smp → Smp) : (d.modSmp p g).toSafe = d.toSafe := rfl
@[simp] theorem Dev.modSmp_irqs (p : Nat) (g : Smp → Smp) : (d.modSmp p g).irqs = d.irqs := rfl
@[simp] theorem Dev.modSmp_tick (p : Nat) (g : Smp → Smp) : (d.modSmp p g).tick = d.tick := rfl
@[simp] theorem Dev.modSmp_cfg (p : Nat) (g : Smp → Smp) : (d.modSmp p g).cfg = d.cfg := rfl
@[simp] theorem Dev.modSmp_ports (p : Nat) (g : Smp → Smp) : (d.modSmp p g).ports = d.ports := rfl
@[simp] theorem Dev.modSmp_fence (p : Nat) (g : Smp → Smp) : (d.modSmp p g).fence = d.fence := rfl
@[simp] theorem Dev.modSmp_mdio (p : Nat) (g : Smp → Smp) : (d.modSmp p g).mdio = d.mdio := rfl
@[simp] theorem Dev.modSmp_classq (p : Nat) (g : Smp → Smp) : (d.modSmp p g).classq = d.classq := rfl
@[simp] theorem Dev.modSmp_engines (p : Nat) (g : Smp → Smp) : (d.modSmp p g).engines = d.engines := rfl
@[simp] theorem Dev.modSmp_txc (p : Nat) (g : Smp → Smp) : (d.modSmp p g).txc = d.txc := rfl
@[simp] theorem Dev.modSmp_cry (p : Nat) (g : Smp → Smp) : (d.modSmp p g).cry = d.cry := rfl
@[simp] theorem Dev.modSmp_sec (p : Nat) (g : Smp → Smp) : (d.modSmp p g).sec = d.sec := rfl
@[simp] theorem Dev.modSmp_boot (p : Nat) (g : Smp → Smp) : (d.modSmp p g).boot = d.boot := rfl
@[simp] theorem Dev.modSmp_hep (p : Nat) (g : Smp → Smp) : (d.modSmp p g).hep = d.hep := rfl
@[simp] theorem Dev.modSmp_dma (p : Nat) (g : Smp → Smp) : (d.modSmp p g).dma = d.dma := rfl
@[simp] theorem Dev.modSmp_sqs (p : Nat) (g : Smp → Smp) : (d.modSmp p g).sqs = d.sqs := rfl
@[simp] theorem Dev.modSmp_cqSince (p : Nat) (g : Smp → Smp) : (d.modSmp p g).cqSince = d.cqSince := rfl
@[simp] theorem Dev.modSmp_due (p : Nat) (g : Smp → Smp) : (d.modSmp p g).due = d.due := rfl
@[simp] theorem Dev.modSmp_rps (p : Nat) (g : Smp → Smp) : (d.modSmp p g).rps = d.rps := rfl
@[simp] theorem Dev.modSmp_cal (p : Nat) (g : Smp → Smp) : (d.modSmp p g).cal = d.cal := rfl
@[simp] theorem Dev.modSmp_nvt (p : Nat) (g : Smp → Smp) : (d.modSmp p g).nvt = d.nvt := rfl
@[simp] theorem Dev.modSmp_safeCore (p : Nat) (g : Smp → Smp) : (d.modSmp p g).safeCore = d.safeCore := rfl
@[simp] theorem Dev.modSmp_apWait (p : Nat) (g : Smp → Smp) : (d.modSmp p g).apWait = d.apWait := rfl
@[simp] theorem Dev.modSmp_pwr (p : Nat) (g : Smp → Smp) : (d.modSmp p g).pwr = d.pwr := rfl
@[simp] theorem Dev.modSmp_saf (p : Nat) (g : Smp → Smp) : (d.modSmp p g).saf = d.saf := rfl
@[simp] theorem Dev.modSmp_tim (p : Nat) (g : Smp → Smp) : (d.modSmp p g).tim = d.tim := rfl
@[simp] theorem Dev.modSmp_sbd (p : Nat) (g : Smp → Smp) : (d.modSmp p g).sbd = d.sbd := rfl

end Sys2Proof.Machine
end

