-- ==== Sys2Proof/Laws/Memory.lean ====
section
/-! SUPPORT.  The memory arrays: a read after a write, and the canonical form every memory operation keeps. -/

namespace Sys2Proof.Machine

/-- Reading through the first cell. -/
theorem Mem.get_cons (c : Host.Cell) (m : List Host.Cell) (b : Nat) :
    Mem.get (c :: m) b = if c.1 = b then c.2 else Mem.get m b := by
  unfold Mem.get
  by_cases h : c.1 = b <;> simp [h]

/-- Every address of a list is above a bound. -/
def Mem.Above (a : Nat) (m : List Host.Cell) : Prop := ∀ c ∈ m, a < c.1

/-- The canonical form, cell by cell. -/
theorem Memory.wf_cons (c : Host.Cell) (m : List Host.Cell) :
    Memory.wf (c :: m) = true ↔ c.2 ≠ unwritten ∧ Mem.Above c.1 m ∧ Memory.wf m = true := by
  induction m generalizing c with
  | nil => simp [Memory.wf, Mem.Above]
  | cons e r ih =>
    simp only [Memory.wf, Bool.and_eq_true, decide_eq_true_eq]
    constructor
    · rintro ⟨⟨h1, h2⟩, h3⟩
      refine ⟨h1, ?_, h3⟩
      intro x hx
      rcases List.mem_cons.mp hx with rfl | hx
      · exact h2
      · exact Nat.lt_trans h2 (((ih e).mp h3).2.1 x hx)
    · rintro ⟨h1, h2, h3⟩
      exact ⟨⟨h1, h2 e (by simp)⟩, h3⟩

/-- A byte of a list whose addresses all lie above reads as unwritten. -/
theorem Mem.get_above (a : Nat) (m : List Host.Cell) (h : Mem.Above a m) : Mem.get m a = unwritten := by
  induction m with
  | nil => rfl
  | cons c r ih =>
    rw [Mem.get_cons, if_neg (Nat.ne_of_gt (h c (by simp))), ih (fun x hx => h x (by simp [hx]))]

/-- A cell placed reads its value; the rest reads as before. -/
theorem Mem.get_insert (m : List Host.Cell) (a b : Nat) (v : Byte) :
    Mem.get (Mem.insert m a v) b = if b = a then v else Mem.get m b := by
  induction m with
  | nil =>
    rw [Mem.insert, Mem.get_cons]
    by_cases h : b = a
    · simp [h]
    · simp [h, Ne.symm h]
  | cons c r ih =>
    unfold Mem.insert
    by_cases h1 : a < c.1
    · rw [if_pos h1, Mem.get_cons]
      by_cases h : b = a
      · simp [h]
      · simp [h, Ne.symm h]
    · rw [if_neg h1]
      by_cases h2 : a = c.1
      · rw [if_pos h2, Mem.get_cons, Mem.get_cons]
        by_cases h : b = a
        · simp [h]
        · have : ¬ a = b := Ne.symm h
          have h3 : ¬ c.1 = b := by rw [← h2]; exact this
          simp [h, this, h3]
      · rw [if_neg h2, Mem.get_cons, Mem.get_cons, ih]
        by_cases h : b = a
        · subst h; simp [Ne.symm h2]
        · simp [h]

/-- Dropping the cells of some addresses makes them read as unwritten and leaves the rest. -/
theorem Mem.get_filter (m : List Host.Cell) (p : Nat → Bool) (b : Nat) :
    Mem.get (m.filter (fun c => p c.1)) b = if p b then Mem.get m b else unwritten := by
  induction m with
  | nil => simp [Mem.get]
  | cons c r ih =>
    by_cases hp : p c.1
    · rw [List.filter_cons_of_pos (by simpa using hp), Mem.get_cons, Mem.get_cons, ih]
      by_cases h : c.1 = b
      · simp [← h, hp]
      · simp [h]
    · rw [List.filter_cons_of_neg (by simpa using hp), ih, Mem.get_cons]
      by_cases h : c.1 = b
      · simp [← h, hp]
      · simp [h]

/-- A byte written reads back; every other byte reads as before. -/
@[simp] theorem Mem.get_set (m : List Host.Cell) (a b : Nat) (v : Byte) :
    Mem.get (Mem.set m a v) b = if b = a then v else Mem.get m b := by
  unfold Mem.set
  by_cases hv : v = unwritten
  · rw [if_pos hv]
    refine (Mem.get_filter m (fun x => decide (x ≠ a)) b).trans ?_
    by_cases h : b = a <;> simp [h, hv]
  · rw [if_neg hv, Mem.get_insert]

/-- The bytes outside a write read as before. -/
theorem Mem.get_write_outside (bs : List Byte) (m : List Host.Cell) (a b : Nat) (h : b < a ∨ a + bs.length ≤ b) :
    Mem.get (Mem.write m a bs) b = Mem.get m b := by
  induction bs generalizing m a with
  | nil => rfl
  | cons v vs ih =>
    rw [Mem.write, ih _ _ (by simp only [List.length_cons] at h; omega), Mem.get_set, if_neg]
    simp only [List.length_cons] at h; omega

/-- The bytes of a write read back. -/
theorem Mem.get_write_inside (bs : List Byte) (m : List Host.Cell) (a i : Nat) (h : i < bs.length) :
    Mem.get (Mem.write m a bs) (a + i) = bs.getD i 0 := by
  induction bs generalizing m a i with
  | nil => simp at h
  | cons v vs ih =>
    rw [Mem.write]
    cases i with
    | zero =>
      rw [Mem.get_write_outside _ _ _ _ (by omega)]
      simp
    | succ j =>
      rw [show a + (j + 1) = a + 1 + j by omega, ih _ _ _ (by simpa using h)]
      simp

/-- Dropping cells keeps the canonical form. -/
theorem Memory.wf_filter (m : List Host.Cell) (p : Host.Cell → Bool) (h : Memory.wf m = true) :
    Memory.wf (m.filter p) = true := by
  induction m with
  | nil => rfl
  | cons c r ih =>
    obtain ⟨h1, h2, h3⟩ := (Memory.wf_cons c r).mp h
    by_cases hp : p c
    · rw [List.filter_cons_of_pos hp]
      exact (Memory.wf_cons _ _).mpr ⟨h1, fun x hx => h2 x (List.mem_of_mem_filter hx), ih h3⟩
    · rw [List.filter_cons_of_neg hp]
      exact ih h3

/-- What a placed cell's list holds. -/
theorem Mem.mem_insert (m : List Host.Cell) (a : Nat) (v : Byte) (x : Host.Cell) (h : x ∈ Mem.insert m a v) :
    x = (a, v) ∨ x ∈ m := by
  induction m with
  | nil => simpa [Mem.insert] using h
  | cons c r ih =>
    unfold Mem.insert at h
    split at h
    · simpa using h
    · split at h
      · rcases List.mem_cons.mp h with rfl | h
        · exact .inl rfl
        · exact .inr (by simp [h])
      · rcases List.mem_cons.mp h with rfl | h
        · exact .inr (by simp)
        · rcases ih h with h | h
          · exact .inl h
          · exact .inr (by simp [h])

/-- A cell placed keeps the canonical form. -/
theorem Memory.wf_insert (m : List Host.Cell) (a : Nat) (v : Byte) (hv : v ≠ unwritten) (h : Memory.wf m = true) :
    Memory.wf (Mem.insert m a v) = true := by
  induction m with
  | nil => simpa [Mem.insert, Memory.wf] using hv
  | cons c r ih =>
    obtain ⟨h1, h2, h3⟩ := (Memory.wf_cons c r).mp h
    unfold Mem.insert
    split
    · rename_i ha
      refine (Memory.wf_cons _ _).mpr ⟨hv, ?_, h⟩
      intro x hx
      rcases List.mem_cons.mp hx with rfl | hx
      · exact ha
      · exact Nat.lt_trans ha (h2 x hx)
    · split
      · rename_i ha
        exact (Memory.wf_cons _ _).mpr ⟨hv, fun x hx => ha ▸ h2 x hx, h3⟩
      · rename_i ha hb
        refine (Memory.wf_cons _ _).mpr ⟨h1, ?_, ih h3⟩
        intro x hx
        rcases Mem.mem_insert _ _ _ _ hx with rfl | hx
        · show c.1 < a; omega
        · exact h2 x hx

/-- Writing one byte keeps the canonical form. -/
theorem Memory.wf_set (m : List Host.Cell) (a : Nat) (v : Byte) (h : Memory.wf m = true) :
    Memory.wf (Mem.set m a v) = true := by
  unfold Mem.set
  split
  · exact Memory.wf_filter _ _ h
  · rename_i hv
    exact Memory.wf_insert _ _ _ hv h

/-- Writing bytes keeps the canonical form. -/
theorem Memory.wf_write (bs : List Byte) (m : List Host.Cell) (a : Nat) (h : Memory.wf m = true) :
    Memory.wf (Mem.write m a bs) = true := by
  induction bs generalizing m a with
  | nil => exact h
  | cons v vs ih => exact ih _ _ (Memory.wf_set _ _ _ h)

/-- Storing bytes keeps the canonical form. -/
theorem Dev.wf_store (d : Dev) (a : Nat) (bs : List Byte) (h : Memory.wf d.mem = true) :
    Memory.wf (d.store a bs).mem = true := Memory.wf_write _ _ _ h

/-- Zeroing lines keeps the canonical form. -/
theorem Dev.wf_zeroLines (d : Dev) (l n : Nat) (h : Memory.wf d.mem = true) :
    Memory.wf (d.zeroLines l n).mem = true := Memory.wf_filter _ _ h

/-- Several writes of register fields leave memory. -/
@[simp] theorem Dev.wrs_mem (d : Dev) (l : List (Fld × Nat)) : (d.wrs l).mem = d.mem := by
  induction l generalizing d with
  | nil => rfl
  | cons e r ih => exact ih (d.wr e.1 e.2)

/-- A first-event log leaves memory. -/
@[simp] theorem Dev.logFirst_mem (d : Dev) (v : Fld) (l : List (Fld × Nat)) : (d.logFirst v l).mem = d.mem := by
  unfold Dev.logFirst
  split <;> simp

/-- Free bytes leave memory. -/
@[simp] theorem Dev.freshBytes_mem (d : Dev) (k : Nat) : (d.freshBytes k).2.mem = d.mem := by
  induction k generalizing d with
  | zero => rfl
  | succ k ih =>
    unfold Dev.freshBytes
    exact ih d.fresh.2

/-- The handling of an uncorrectable error leaves the bytes. -/
@[simp] theorem Dev.uncorrectable_mem (d : Dev) (l : Nat) : (d.uncorrectable l).mem = d.mem := by
  unfold Dev.uncorrectable
  dsimp only
  split
  · simp
  · split <;> simp

/-- A read of a line leaves the bytes. -/
@[simp] theorem Dev.readLine_mem (d : Dev) (l : Nat) : (d.readLine l).2.2.mem = d.mem := by
  unfold Dev.readLine Dev.garble
  dsimp only
  split
  all_goals
    split
    · simp
    · simp only [apply_ite Dev.mem, apply_ite Prod.snd, Dev.incBy_mem, Dev.freshBytes_mem, Dev.fresh_mem, ite_self]

/-- A full write of a line keeps the canonical form. -/
theorem Dev.wf_writeLine (d : Dev) (l : Nat) (bs : List Byte) (p : Bool) (h : Memory.wf d.mem = true) :
    Memory.wf (d.writeLine l bs p).mem = true := Memory.wf_write _ _ _ h

/-- A write of part of a line keeps the canonical form. -/
theorem Dev.wf_writePart (d : Dev) (l off : Nat) (bs : List Byte) (p : Bool) (h : Memory.wf d.mem = true) :
    Memory.wf (d.writePart l off bs p).mem = true := by
  have hr : Memory.wf (d.readLine l).2.2.mem = true := by rw [Dev.readLine_mem]; exact h
  unfold Dev.writePart
  exact Memory.wf_write _ _ _ hr

/-- A write over a run of lines keeps the canonical form. -/
theorem Dev.wf_writeRun (ls : List Nat) (d : Dev) (off : Nat) (bs : List Byte) (p : Bool) (h : Memory.wf d.mem = true) :
    Memory.wf (d.writeRun ls off bs p).mem = true := by
  induction ls generalizing d off bs with
  | nil => exact h
  | cons l ls ih =>
    unfold Dev.writeRun
    split
    · exact ih _ _ _ h
    · split
      · exact h
      · apply ih
        split
        · exact Dev.wf_writeLine _ _ _ _ h
        · exact Dev.wf_writePart _ _ _ _ _ h

/-- A write of marked bytes over a run of lines keeps the canonical form. -/
theorem Dev.wf_putMarked (ls : List Nat) (d : Dev) (off : Nat) (bs : List PByte) (h : Memory.wf d.mem = true) :
    Memory.wf (d.putMarked ls off bs).mem = true := by
  induction ls generalizing d off bs with
  | nil => exact h
  | cons l ls ih =>
    unfold Dev.putMarked
    split
    · exact ih _ _ _ h
    · split
      · exact h
      · exact ih _ _ _ (Dev.wf_writeRun _ _ _ _ _ h)

/-- Taking lines leaves memory. -/
theorem Dev.alloc_mem (d d' : Dev) (b z n : Nat) (ls : List Nat) (h : d.alloc b z n = some (ls, d')) : d'.mem = d.mem := by
  induction n generalizing d d' ls with
  | zero =>
    simp only [Dev.alloc, Option.some.injEq, Prod.mk.injEq] at h
    rw [← h.2]
  | succ n ih =>
    simp only [Dev.alloc] at h
    split at h
    · cases h
    · split at h
      · cases h
      · rename_i h2
        simp only [Option.some.injEq, Prod.mk.injEq] at h
        rw [← h.2, ih _ _ _ h2]

/-- A frame placed in the frame buffer keeps the canonical form. -/
theorem Dev.wf_newFrame (d d' : Dev) (bs : List Byte) (p : Bool) (i : Meta) (f : Frame)
    (hf : d.newFrame bs p i = some (f, d')) (h : Memory.wf d.mem = true) : Memory.wf d'.mem = true := by
  unfold Dev.newFrame at hf
  split at hf
  · cases hf
  · rename_i ha
    simp only [Option.some.injEq, Prod.mk.injEq] at hf
    rw [← hf.2]
    refine Dev.wf_writeRun _ _ _ _ _ ?_
    rw [Dev.newUid_mem, Dev.alloc_mem _ _ _ _ _ _ ha]
    exact h

/-- A frame's content replaced keeps the canonical form. -/
theorem Dev.wf_rewriteFrame (d d' : Dev) (f f' : Frame) (s : Nat) (bs : List Byte) (p : Bool)
    (hf : d.rewriteFrame f s bs p = some (f', d')) (h : Memory.wf d.mem = true) : Memory.wf d'.mem = true := by
  unfold Dev.rewriteFrame at hf
  split at hf
  · cases hf
  · rename_i ha
    simp only [Option.some.injEq, Prod.mk.injEq] at hf
    rw [← hf.2]
    refine Dev.wf_writeRun _ _ _ _ _ ?_
    rw [Dev.alloc_mem _ _ _ _ _ _ ha]
    exact h

/-! ### Allocation -/

/-- The lowest line not in use, when the ones below it are. -/
theorem firstFree_eq (used : List Nat) : ∀ (j base size fuel : Nat), (∀ i < j, base + i ∈ used) → base + j ∉ used → j < size → j < fuel →
    firstFree used base size fuel = some (base + j) := by
  intro j
  induction j with
  | zero =>
    intro base size fuel _ hn hs hf
    obtain ⟨fuel, rfl⟩ : ∃ k, fuel = k + 1 := ⟨fuel - 1, by omega⟩
    simp_all [firstFree]
    omega
  | succ j ih =>
    intro base size fuel hi hn hs hf
    obtain ⟨fuel, rfl⟩ : ∃ k, fuel = k + 1 := ⟨fuel - 1, by omega⟩
    have h0 : base ∈ used := hi 0 (by omega)
    have := ih (base + 1) (size - 1) fuel (fun i h => by have := hi (i + 1) (by omega); rwa [show base + 1 + i = base + (i + 1) by omega])
      (by rwa [show base + 1 + j = base + (j + 1) by omega]) (by omega) (by omega)
    rw [firstFree, if_neg (by omega), if_pos (by simpa using h0), this, show base + 1 + j = base + (j + 1) by omega]

/-- Lines taken from a memory whose first `k` lines alone are in use: the next ones. -/
theorem Dev.alloc_run (base size : Nat) : ∀ (n k : Nat) (d : Dev), d.used = lineRun base k → k + n ≤ size →
    d.alloc base size n = some (lineRun (base + k) n, { d with used := lineRun base (k + n) }) := by
  intro n
  induction n with
  | zero => intro k d hu _; cases d; simp_all [Dev.alloc, lineRun]
  | succ n ih =>
    intro k d hu hs
    have hf : firstFree d.used base size (d.used.length + 1) = some (base + k) :=
      firstFree_eq _ k base size _ (by intro i hi; rw [hu]; simp [lineRun, hi]) (by rw [hu]; simp [lineRun]) (by omega)
        (by rw [hu]; simp [lineRun])
    have hk : ({ d with used := d.used ++ [base + k] } : Dev).used = lineRun base (k + 1) := by
      simp [hu, lineRun, List.range_succ]
    rw [Dev.alloc, hf]
    simp only
    rw [ih (k + 1) _ hk (by omega), show k + 1 + n = k + (n + 1) by omega]
    simp [lineRun, List.range_succ_eq_map, Function.comp_def, Nat.add_assoc, Nat.add_comm 1]

end Sys2Proof.Machine
end

