-- ==== Sys2Proof/Laws/Ops.lean ====
section
/-! SUPPORT.  What the shared operations can do, said once each: counting events, raising events, answering the host, the passing of time,
the arrival of a host access, and the runners of meanings. -/

namespace Sys2Proof.Machine

open Sys2Proof.Safety

/-! ### Runners -/

/-- A meaning out of reset. -/
theorem State.run_live (s : State) (f : Dev → Dev) (h : s.held = false) : s.run f = .next { s with dev := f s.dev } := by
  simp [State.run, h]

/-- As `State.run_live`, for a meaning that reads the one-time-programmable memory. -/
theorem State.runWith_live (s : State) (f : Otp → Dev → Dev) (h : s.held = false) :
    s.runWith f = .next { s with dev := f s.otp s.dev } := by
  simp [State.runWith, h]

/-- As `State.run_live`, for a meaning that may write the one-time-programmable memory. -/
theorem State.runOtp_live (s : State) (f : Otp → Dev → Otp × Dev) (h : s.held = false) :
    s.runOtp f = .next { s with otp := (f s.otp s.dev).1, dev := (f s.otp s.dev).2 } := by
  simp [State.runOtp, State.act, h]

/-- Out of reset, no reset holds TIM or SAF. -/
theorem State.heldTim_live (s : State) (h : s.held = false) : s.heldTim = false := by simp [State.heldTim, h]
theorem State.heldSaf_live (s : State) (h : s.held = false) : s.heldSaf = false := by simp [State.heldSaf, h]

/-- A meaning of TIM out of reset. -/
theorem State.runTim_live (s : State) (f : Dev → Dev) (h : s.held = false) : s.runTim f = .next { s with dev := f s.dev } := by
  simp [State.runTim, State.heldTim_live s h]

/-- A meaning of SAF out of reset. -/
theorem State.runSaf_live (s : State) (f : Otp → Dev → Dev) (h : s.held = false) :
    s.runSaf f = .next { s with dev := f s.otp s.dev } := by
  simp [State.runSaf, State.heldSaf_live s h]

/-! ### Counting -/

/-- `e` is `d` with some performance counters further on, and nothing else. -/
def Counted (d e : Dev) : Prop :=
  ∃ r w, e = { d with regs := r, pmc := { d.pmc with wrapped := w } } ∧ ∀ f, isCount f = false → Regs.get r f = Regs.get d.regs f

theorem Counted.refl (d : Dev) : Counted d d := ⟨d.regs, d.pmc.wrapped, rfl, fun _ _ => rfl⟩

theorem Counted.trans {d e g : Dev} (h : Counted d e) (k : Counted e g) : Counted d g := by
  obtain ⟨r, w, rfl, h⟩ := h
  obtain ⟨r', w', rfl, k⟩ := k
  exact ⟨r', w', rfl, fun f hf => (k f hf).trans (h f hf)⟩

/-- Counting at one counter. -/
theorem Counted.pmcAdd (d : Dev) (k n : Nat) : Counted d (d.pmcAdd k n) := by
  have hw : ∀ v, Counted d (d.wr (.pmc (.CNT_COUNT n)) v) := by
    intro v
    refine ⟨(d.wr (.pmc (.CNT_COUNT n)) v).regs, d.pmc.wrapped, rfl, ?_⟩
    intro f hf
    refine (Regs.get_set _ _ _ _).trans (if_neg ?_)
    rintro rfl
    cases hf
  unfold Dev.pmcAdd
  dsimp only
  split
  · obtain ⟨r, w, h, hr⟩ := hw ((d.rd (.pmc (.CNT_COUNT n)) + k) % 2 ^ 48)
    rw [h]
    exact ⟨r, w ++ [n], rfl, hr⟩
  · exact hw _

/-- Counting at several counters. -/
theorem Counted.foldl {α : Type} (l : List α) (g : Dev → α → Dev) (hg : ∀ d x, Counted d (g d x)) (d : Dev) :
    Counted d (l.foldl g d) := by
  induction l generalizing d with
  | nil => exact .refl d
  | cons x xs ih => exact (hg d x).trans (ih _)

/-- An event counted changes performance counters only. -/
theorem Counted.count (d : Dev) (ev inst k : Nat) : Counted d (d.count ev inst k) := by
  unfold Dev.count
  split
  · exact .refl d
  · exact Counted.foldl _ _ (fun d n => Counted.pmcAdd d k n) d

/-- A register that is no performance counter reads as before. -/
theorem Counted.rd {d e : Dev} (h : Counted d e) (f : Fld) (hf : isCount f = false) : e.rd f = d.rd f := by
  obtain ⟨r, w, rfl, h⟩ := h
  exact h f hf

@[simp] theorem Dev.rd_count (d : Dev) (ev inst k : Nat) (f : Fld) (hf : isCount f = false) :
    (d.count ev inst k).rd f = d.rd f := (Counted.count d ev inst k).rd f hf

@[simp] theorem Dev.count_mem (d : Dev) (ev inst k : Nat) : (d.count ev inst k).mem = d.mem := by
  obtain ⟨r, w, h, -⟩ := Counted.count d ev inst k; rw [h]
@[simp] theorem Dev.count_marks (d : Dev) (ev inst k : Nat) : (d.count ev inst k).marks = d.marks := by
  obtain ⟨r, w, h, -⟩ := Counted.count d ev inst k; rw [h]
@[simp] theorem Dev.count_writeBacks (d : Dev) (ev inst k : Nat) : (d.count ev inst k).writeBacks = d.writeBacks := by
  obtain ⟨r, w, h, -⟩ := Counted.count d ev inst k; rw [h]
@[simp] theorem Dev.count_used (d : Dev) (ev inst k : Nat) : (d.count ev inst k).used = d.used := by
  obtain ⟨r, w, h, -⟩ := Counted.count d ev inst k; rw [h]
@[simp] theorem Dev.count_nextUid (d : Dev) (ev inst k : Nat) : (d.count ev inst k).nextUid = d.nextUid := by
  obtain ⟨r, w, h, -⟩ := Counted.count d ev inst k; rw [h]
@[simp] theorem Dev.count_freeCount (d : Dev) (ev inst k : Nat) : (d.count ev inst k).freeCount = d.freeCount := by
  obtain ⟨r, w, h, -⟩ := Counted.count d ev inst k; rw [h]
@[simp] theorem Dev.count_out (d : Dev) (ev inst k : Nat) : (d.count ev inst k).out = d.out := by
  obtain ⟨r, w, h, -⟩ := Counted.count d ev inst k; rw [h]
@[simp] theorem Dev.count_now (d : Dev) (ev inst k : Nat) : (d.count ev inst k).now = d.now := by
  obtain ⟨r, w, h, -⟩ := Counted.count d ev inst k; rw [h]
@[simp] theorem Dev.count_tb (d : Dev) (ev inst k : Nat) : (d.count ev inst k).tb = d.tb := by
  obtain ⟨r, w, h, -⟩ := Counted.count d ev inst k; rw [h]
@[simp] theorem Dev.count_tbFrac (d : Dev) (ev inst k : Nat) : (d.count ev inst k).tbFrac = d.tbFrac := by
  obtain ⟨r, w, h, -⟩ := Counted.count d ev inst k; rw [h]
@[simp] theorem Dev.count_ethPhase (d : Dev) (ev inst k : Nat) : (d.count ev inst k).ethPhase = d.ethPhase := by
  obtain ⟨r, w, h, -⟩ := Counted.count d ev inst k; rw [h]
@[simp] theorem Dev.count_toSafe (d : Dev) (ev inst k : Nat) : (d.count ev inst k).toSafe = d.toSafe := by
  obtain ⟨r, w, h, -⟩ := Counted.count d ev inst k; rw [h]
@[simp] theorem Dev.count_irqs (d : Dev) (ev inst k : Nat) : (d.count ev inst k).irqs = d.irqs := by
  obtain ⟨r, w, h, -⟩ := Counted.count d ev inst k; rw [h]
@[simp] theorem Dev.count_tick (d : Dev) (ev inst k : Nat) : (d.count ev inst k).tick = d.tick := by
  obtain ⟨r, w, h, -⟩ := Counted.count d ev inst k; rw [h]
@[simp] theorem Dev.count_cfg (d : Dev) (ev inst k : Nat) : (d.count ev inst k).cfg = d.cfg := by
  obtain ⟨r, w, h, -⟩ := Counted.count d ev inst k; rw [h]
@[simp] theorem Dev.count_ports (d : Dev) (ev inst k : Nat) : (d.count ev inst k).ports = d.ports := by
  obtain ⟨r, w, h, -⟩ := Counted.count d ev inst k; rw [h]
@[simp] theorem Dev.count_fence (d : Dev) (ev inst k : Nat) : (d.count ev inst k).fence = d.fence := by
  obtain ⟨r, w, h, -⟩ := Counted.count d ev inst k; rw [h]
@[simp] theorem Dev.count_mdio (d : Dev) (ev inst k : Nat) : (d.count ev inst k).mdio = d.mdio := by
  obtain ⟨r, w, h, -⟩ := Counted.count d ev inst k; rw [h]
@[simp] theorem Dev.count_classq (d : Dev) (ev inst k : Nat) : (d.count ev inst k).classq = d.classq := by
  obtain ⟨r, w, h, -⟩ := Counted.count d ev inst k; rw [h]
@[simp] theorem Dev.count_engines (d : Dev) (ev inst k : Nat) : (d.count ev inst k).engines = d.engines := by
  obtain ⟨r, w, h, -⟩ := Counted.count d ev inst k; rw [h]
@[simp] theorem Dev.count_txc (d : Dev) (ev inst k : Nat) : (d.count ev inst k).txc = d.txc := by
  obtain ⟨r, w, h, -⟩ := Counted.count d ev inst k; rw [h]
@[simp] theorem Dev.count_cry (d : Dev) (ev inst k : Nat) : (d.count ev inst k).cry = d.cry := by
  obtain ⟨r, w, h, -⟩ := Counted.count d ev inst k; rw [h]
@[simp] theorem Dev.count_sec (d : Dev) (ev inst k : Nat) : (d.count ev inst k).sec = d.sec := by
  obtain ⟨r, w, h, -⟩ := Counted.count d ev inst k; rw [h]
@[simp] theorem Dev.count_boot (d : Dev) (ev inst k : Nat) : (d.count ev inst k).boot = d.boot := by
  obtain ⟨r, w, h, -⟩ := Counted.count d ev inst k; rw [h]
@[simp] theorem Dev.count_hep (d : Dev) (ev inst k : Nat) : (d.count ev inst k).hep = d.hep := by
  obtain ⟨r, w, h, -⟩ := Counted.count d ev inst k; rw [h]
@[simp] theorem Dev.count_dma (d : Dev) (ev inst k : Nat) : (d.count ev inst k).dma = d.dma := by
  obtain ⟨r, w, h, -⟩ := Counted.count d ev inst k; rw [h]
@[simp] theorem Dev.count_sqs (d : Dev) (ev inst k : Nat) : (d.count ev inst k).sqs = d.sqs := by
  obtain ⟨r, w, h, -⟩ := Counted.count d ev inst k; rw [h]
@[simp] theorem Dev.count_cqSince (d : Dev) (ev inst k : Nat) : (d.count ev inst k).cqSince = d.cqSince := by
  obtain ⟨r, w, h, -⟩ := Counted.count d ev inst k; rw [h]
@[simp] theorem Dev.count_due (d : Dev) (ev inst k : Nat) : (d.count ev inst k).due = d.due := by
  obtain ⟨r, w, h, -⟩ := Counted.count d ev inst k; rw [h]
@[simp] theorem Dev.count_rps (d : Dev) (ev inst k : Nat) : (d.count ev inst k).rps = d.rps := by
  obtain ⟨r, w, h, -⟩ := Counted.count d ev inst k; rw [h]
@[simp] theorem Dev.count_cal (d : Dev) (ev inst k : Nat) : (d.count ev inst k).cal = d.cal := by
  obtain ⟨r, w, h, -⟩ := Counted.count d ev inst k; rw [h]
@[simp] theorem Dev.count_nvt (d : Dev) (ev inst k : Nat) : (d.count ev inst k).nvt = d.nvt := by
  obtain ⟨r, w, h, -⟩ := Counted.count d ev inst k; rw [h]
@[simp] theorem Dev.count_safeCore (d : Dev) (ev inst k : Nat) : (d.count ev inst k).safeCore = d.safeCore := by
  obtain ⟨r, w, h, -⟩ := Counted.count d ev inst k; rw [h]
@[simp] theorem Dev.count_apWait (d : Dev) (ev inst k : Nat) : (d.count ev inst k).apWait = d.apWait := by
  obtain ⟨r, w, h, -⟩ := Counted.count d ev inst k; rw [h]
@[simp] theorem Dev.count_pwr (d : Dev) (ev inst k : Nat) : (d.count ev inst k).pwr = d.pwr := by
  obtain ⟨r, w, h, -⟩ := Counted.count d ev inst k; rw [h]
@[simp] theorem Dev.count_saf (d : Dev) (ev inst k : Nat) : (d.count ev inst k).saf = d.saf := by
  obtain ⟨r, w, h, -⟩ := Counted.count d ev inst k; rw [h]
@[simp] theorem Dev.count_tim (d : Dev) (ev inst k : Nat) : (d.count ev inst k).tim = d.tim := by
  obtain ⟨r, w, h, -⟩ := Counted.count d ev inst k; rw [h]
@[simp] theorem Dev.count_sbd (d : Dev) (ev inst k : Nat) : (d.count ev inst k).sbd = d.sbd := by
  obtain ⟨r, w, h, -⟩ := Counted.count d ev inst k; rw [h]

/-! ### Host accesses -/

/-- In A0 or A1 a host access is only counted. -/
theorem Dev.hostAccess_awake (d : Dev) (off : Bool) (h : d.rd (.pwr .STATUS_STATE) < 2) : d.hostAccess off = d.count 0x51 0 1 := by
  have hp : (d.count 0x51 0 1).pwrState = d.rd (.pwr .STATUS_STATE) := Dev.rd_count d _ _ _ _ rfl
  unfold Dev.hostAccess Dev.arrive
  rw [if_neg (by omega), if_neg (by omega)]

/-- A meaning of a host command in A0 or A1. -/
theorem State.host_awake (s : State) (f : Dev → Dev) (h : Awake s) :
    s.host f = .next { s with dev := f (s.dev.count 0x51 0 1) } := by
  simp [State.host, State.run, h.1, Dev.hostAccess_awake _ _ h.2]

theorem State.hostAt_awake (s : State) (off : Dev → Bool) (f : Dev → Dev) (h : Awake s) :
    s.hostAt off f = .next { s with dev := f (s.dev.count 0x51 0 1) } := by
  simp [State.hostAt, State.run, h.1, Dev.hostAccess_awake _ _ h.2]

theorem State.hostWith_awake (s : State) (f : Otp → Dev → Dev) (h : Awake s) :
    s.hostWith f = .next { s with dev := f s.otp (s.dev.count 0x51 0 1) } := by
  simp [State.hostWith, State.runWith, h.1, Dev.hostAccess_awake _ _ h.2]

/-! ### Events and answers -/

/-- A PF0 event changes the interrupt requests in flight and nothing else (R364). -/
theorem Dev.hepEvent_eq (d : Dev) (s : Nat) : d.hepEvent s =
    { d with irqs := d.irqs ++ (if d.is (.hep (.EVT_VEC_EN s)) then [(0, d.rd (.hep (.EVT_VEC_VECTOR s)))] else []) } := by
  unfold Dev.hepEvent
  split <;> simp [Dev.irq]

@[simp] theorem Dev.rd_hepEvent (d : Dev) (s : Nat) (f : Fld) : (d.hepEvent s).rd f = d.rd f := by rw [Dev.hepEvent_eq]; rfl

@[simp] theorem Dev.hepEvent_regs (d : Dev) (s : Nat) : (d.hepEvent s).regs = d.regs := by rw [Dev.hepEvent_eq]
@[simp] theorem Dev.hepEvent_mem (d : Dev) (s : Nat) : (d.hepEvent s).mem = d.mem := by rw [Dev.hepEvent_eq]
@[simp] theorem Dev.hepEvent_marks (d : Dev) (s : Nat) : (d.hepEvent s).marks = d.marks := by rw [Dev.hepEvent_eq]
@[simp] theorem Dev.hepEvent_writeBacks (d : Dev) (s : Nat) : (d.hepEvent s).writeBacks = d.writeBacks := by rw [Dev.hepEvent_eq]
@[simp] theorem Dev.hepEvent_used (d : Dev) (s : Nat) : (d.hepEvent s).used = d.used := by rw [Dev.hepEvent_eq]
@[simp] theorem Dev.hepEvent_nextUid (d : Dev) (s : Nat) : (d.hepEvent s).nextUid = d.nextUid := by rw [Dev.hepEvent_eq]
@[simp] theorem Dev.hepEvent_freeCount (d : Dev) (s : Nat) : (d.hepEvent s).freeCount = d.freeCount := by rw [Dev.hepEvent_eq]
@[simp] theorem Dev.hepEvent_out (d : Dev) (s : Nat) : (d.hepEvent s).out = d.out := by rw [Dev.hepEvent_eq]
@[simp] theorem Dev.hepEvent_now (d : Dev) (s : Nat) : (d.hepEvent s).now = d.now := by rw [Dev.hepEvent_eq]
@[simp] theorem Dev.hepEvent_tb (d : Dev) (s : Nat) : (d.hepEvent s).tb = d.tb := by rw [Dev.hepEvent_eq]
@[simp] theorem Dev.hepEvent_tbFrac (d : Dev) (s : Nat) : (d.hepEvent s).tbFrac = d.tbFrac := by rw [Dev.hepEvent_eq]
@[simp] theorem Dev.hepEvent_ethPhase (d : Dev) (s : Nat) : (d.hepEvent s).ethPhase = d.ethPhase := by rw [Dev.hepEvent_eq]
@[simp] theorem Dev.hepEvent_toSafe (d : Dev) (s : Nat) : (d.hepEvent s).toSafe = d.toSafe := by rw [Dev.hepEvent_eq]
@[simp] theorem Dev.hepEvent_tick (d : Dev) (s : Nat) : (d.hepEvent s).tick = d.tick := by rw [Dev.hepEvent_eq]
@[simp] theorem Dev.hepEvent_cfg (d : Dev) (s : Nat) : (d.hepEvent s).cfg = d.cfg := by rw [Dev.hepEvent_eq]
@[simp] theorem Dev.hepEvent_ports (d : Dev) (s : Nat) : (d.hepEvent s).ports = d.ports := by rw [Dev.hepEvent_eq]
@[simp] theorem Dev.hepEvent_fence (d : Dev) (s : Nat) : (d.hepEvent s).fence = d.fence := by rw [Dev.hepEvent_eq]
@[simp] theorem Dev.hepEvent_mdio (d : Dev) (s : Nat) : (d.hepEvent s).mdio = d.mdio := by rw [Dev.hepEvent_eq]
@[simp] theorem Dev.hepEvent_classq (d : Dev) (s : Nat) : (d.hepEvent s).classq = d.classq := by rw [Dev.hepEvent_eq]
@[simp] theorem Dev.hepEvent_engines (d : Dev) (s : Nat) : (d.hepEvent s).engines = d.engines := by rw [Dev.hepEvent_eq]
@[simp] theorem Dev.hepEvent_txc (d : Dev) (s : Nat) : (d.hepEvent s).txc = d.txc := by rw [Dev.hepEvent_eq]
@[simp] theorem Dev.hepEvent_cry (d : Dev) (s : Nat) : (d.hepEvent s).cry = d.cry := by rw [Dev.hepEvent_eq]
@[simp] theorem Dev.hepEvent_sec (d : Dev) (s : Nat) : (d.hepEvent s).sec = d.sec := by rw [Dev.hepEvent_eq]
@[simp] theorem Dev.hepEvent_boot (d : Dev) (s : Nat) : (d.hepEvent s).boot = d.boot := by rw [Dev.hepEvent_eq]
@[simp] theorem Dev.hepEvent_hep (d : Dev) (s : Nat) : (d.hepEvent s).hep = d.hep := by rw [Dev.hepEvent_eq]
@[simp] theorem Dev.hepEvent_dma (d : Dev) (s : Nat) : (d.hepEvent s).dma = d.dma := by rw [Dev.hepEvent_eq]
@[simp] theorem Dev.hepEvent_sqs (d : Dev) (s : Nat) : (d.hepEvent s).sqs = d.sqs := by rw [Dev.hepEvent_eq]
@[simp] theorem Dev.hepEvent_cqSince (d : Dev) (s : Nat) : (d.hepEvent s).cqSince = d.cqSince := by rw [Dev.hepEvent_eq]
@[simp] theorem Dev.hepEvent_due (d : Dev) (s : Nat) : (d.hepEvent s).due = d.due := by rw [Dev.hepEvent_eq]
@[simp] theorem Dev.hepEvent_rps (d : Dev) (s : Nat) : (d.hepEvent s).rps = d.rps := by rw [Dev.hepEvent_eq]
@[simp] theorem Dev.hepEvent_cal (d : Dev) (s : Nat) : (d.hepEvent s).cal = d.cal := by rw [Dev.hepEvent_eq]
@[simp] theorem Dev.hepEvent_nvt (d : Dev) (s : Nat) : (d.hepEvent s).nvt = d.nvt := by rw [Dev.hepEvent_eq]
@[simp] theorem Dev.hepEvent_safeCore (d : Dev) (s : Nat) : (d.hepEvent s).safeCore = d.safeCore := by rw [Dev.hepEvent_eq]
@[simp] theorem Dev.hepEvent_apWait (d : Dev) (s : Nat) : (d.hepEvent s).apWait = d.apWait := by rw [Dev.hepEvent_eq]
@[simp] theorem Dev.hepEvent_pwr (d : Dev) (s : Nat) : (d.hepEvent s).pwr = d.pwr := by rw [Dev.hepEvent_eq]
@[simp] theorem Dev.hepEvent_saf (d : Dev) (s : Nat) : (d.hepEvent s).saf = d.saf := by rw [Dev.hepEvent_eq]
@[simp] theorem Dev.hepEvent_tim (d : Dev) (s : Nat) : (d.hepEvent s).tim = d.tim := by rw [Dev.hepEvent_eq]
@[simp] theorem Dev.hepEvent_sbd (d : Dev) (s : Nat) : (d.hepEvent s).sbd = d.sbd := by rw [Dev.hepEvent_eq]
@[simp] theorem Dev.hepEvent_pmc (d : Dev) (s : Nat) : (d.hepEvent s).pmc = d.pmc := by rw [Dev.hepEvent_eq]

/-- A status bit set with its event reads 1; other registers read as before. -/
@[simp] theorem Dev.rd_event (d : Dev) (status enable f : Fld) (s : Nat) :
    (d.event status enable s).rd f = if f = status then 1 % 2 ^ status.width else d.rd f := by
  unfold Dev.event
  dsimp only
  split <;> simp

@[simp] theorem Dev.event_mem (d : Dev) (f g : Fld) (s : Nat) : (d.event f g s).mem = d.mem := by
  unfold Dev.event; dsimp only; split <;> simp
@[simp] theorem Dev.event_marks (d : Dev) (f g : Fld) (s : Nat) : (d.event f g s).marks = d.marks := by
  unfold Dev.event; dsimp only; split <;> simp
@[simp] theorem Dev.event_writeBacks (d : Dev) (f g : Fld) (s : Nat) : (d.event f g s).writeBacks = d.writeBacks := by
  unfold Dev.event; dsimp only; split <;> simp
@[simp] theorem Dev.event_used (d : Dev) (f g : Fld) (s : Nat) : (d.event f g s).used = d.used := by
  unfold Dev.event; dsimp only; split <;> simp
@[simp] theorem Dev.event_nextUid (d : Dev) (f g : Fld) (s : Nat) : (d.event f g s).nextUid = d.nextUid := by
  unfold Dev.event; dsimp only; split <;> simp
@[simp] theorem Dev.event_freeCount (d : Dev) (f g : Fld) (s : Nat) : (d.event f g s).freeCount = d.freeCount := by
  unfold Dev.event; dsimp only; split <;> simp
@[simp] theorem Dev.event_out (d : Dev) (f g : Fld) (s : Nat) : (d.event f g s).out = d.out := by
  unfold Dev.event; dsimp only; split <;> simp
@[simp] theorem Dev.event_now (d : Dev) (f g : Fld) (s : Nat) : (d.event f g s).now = d.now := by
  unfold Dev.event; dsimp only; split <;> simp
@[simp] theorem Dev.event_tb (d : Dev) (f g : Fld) (s : Nat) : (d.event f g s).tb = d.tb := by
  unfold Dev.event; dsimp only; split <;> simp
@[simp] theorem Dev.event_tbFrac (d : Dev) (f g : Fld) (s : Nat) : (d.event f g s).tbFrac = d.tbFrac := by
  unfold Dev.event; dsimp only; split <;> simp
@[simp] theorem Dev.event_ethPhase (d : Dev) (f g : Fld) (s : Nat) : (d.event f g s).ethPhase = d.ethPhase := by
  unfold Dev.event; dsimp only; split <;> simp
@[simp] theorem Dev.event_toSafe (d : Dev) (f g : Fld) (s : Nat) : (d.event f g s).toSafe = d.toSafe := by
  unfold Dev.event; dsimp only; split <;> simp
@[simp] theorem Dev.event_tick (d : Dev) (f g : Fld) (s : Nat) : (d.event f g s).tick = d.tick := by
  unfold Dev.event; dsimp only; split <;> simp
@[simp] theorem Dev.event_cfg (d : Dev) (f g : Fld) (s : Nat) : (d.event f g s).cfg = d.cfg := by
  unfold Dev.event; dsimp only; split <;> simp
@[simp] theorem Dev.event_ports (d : Dev) (f g : Fld) (s : Nat) : (d.event f g s).ports = d.ports := by
  unfold Dev.event; dsimp only; split <;> simp
@[simp] theorem Dev.event_fence (d : Dev) (f g : Fld) (s : Nat) : (d.event f g s).fence = d.fence := by
  unfold Dev.event; dsimp only; split <;> simp
@[simp] theorem Dev.event_mdio (d : Dev) (f g : Fld) (s : Nat) : (d.event f g s).mdio = d.mdio := by
  unfold Dev.event; dsimp only; split <;> simp
@[simp] theorem Dev.event_classq (d : Dev) (f g : Fld) (s : Nat) : (d.event f g s).classq = d.classq := by
  unfold Dev.event; dsimp only; split <;> simp
@[simp] theorem Dev.event_engines (d : Dev) (f g : Fld) (s : Nat) : (d.event f g s).engines = d.engines := by
  unfold Dev.event; dsimp only; split <;> simp
@[simp] theorem Dev.event_txc (d : Dev) (f g : Fld) (s : Nat) : (d.event f g s).txc = d.txc := by
  unfold Dev.event; dsimp only; split <;> simp
@[simp] theorem Dev.event_cry (d : Dev) (f g : Fld) (s : Nat) : (d.event f g s).cry = d.cry := by
  unfold Dev.event; dsimp only; split <;> simp
@[simp] theorem Dev.event_sec (d : Dev) (f g : Fld) (s : Nat) : (d.event f g s).sec = d.sec := by
  unfold Dev.event; dsimp only; split <;> simp
@[simp] theorem Dev.event_boot (d : Dev) (f g : Fld) (s : Nat) : (d.event f g s).boot = d.boot := by
  unfold Dev.event; dsimp only; split <;> simp
@[simp] theorem Dev.event_hep (d : Dev) (f g : Fld) (s : Nat) : (d.event f g s).hep = d.hep := by
  unfold Dev.event; dsimp only; split <;> simp
@[simp] theorem Dev.event_dma (d : Dev) (f g : Fld) (s : Nat) : (d.event f g s).dma = d.dma := by
  unfold Dev.event; dsimp only; split <;> simp
@[simp] theorem Dev.event_sqs (d : Dev) (f g : Fld) (s : Nat) : (d.event f g s).sqs = d.sqs := by
  unfold Dev.event; dsimp only; split <;> simp
@[simp] theorem Dev.event_cqSince (d : Dev) (f g : Fld) (s : Nat) : (d.event f g s).cqSince = d.cqSince := by
  unfold Dev.event; dsimp only; split <;> simp
@[simp] theorem Dev.event_due (d : Dev) (f g : Fld) (s : Nat) : (d.event f g s).due = d.due := by
  unfold Dev.event; dsimp only; split <;> simp
@[simp] theorem Dev.event_rps (d : Dev) (f g : Fld) (s : Nat) : (d.event f g s).rps = d.rps := by
  unfold Dev.event; dsimp only; split <;> simp
@[simp] theorem Dev.event_cal (d : Dev) (f g : Fld) (s : Nat) : (d.event f g s).cal = d.cal := by
  unfold Dev.event; dsimp only; split <;> simp
@[simp] theorem Dev.event_nvt (d : Dev) (f g : Fld) (s : Nat) : (d.event f g s).nvt = d.nvt := by
  unfold Dev.event; dsimp only; split <;> simp
@[simp] theorem Dev.event_safeCore (d : Dev) (f g : Fld) (s : Nat) : (d.event f g s).safeCore = d.safeCore := by
  unfold Dev.event; dsimp only; split <;> simp
@[simp] theorem Dev.event_apWait (d : Dev) (f g : Fld) (s : Nat) : (d.event f g s).apWait = d.apWait := by
  unfold Dev.event; dsimp only; split <;> simp
@[simp] theorem Dev.event_pwr (d : Dev) (f g : Fld) (s : Nat) : (d.event f g s).pwr = d.pwr := by
  unfold Dev.event; dsimp only; split <;> simp
@[simp] theorem Dev.event_saf (d : Dev) (f g : Fld) (s : Nat) : (d.event f g s).saf = d.saf := by
  unfold Dev.event; dsimp only; split <;> simp
@[simp] theorem Dev.event_tim (d : Dev) (f g : Fld) (s : Nat) : (d.event f g s).tim = d.tim := by
  unfold Dev.event; dsimp only; split <;> simp
@[simp] theorem Dev.event_sbd (d : Dev) (f g : Fld) (s : Nat) : (d.event f g s).sbd = d.sbd := by
  unfold Dev.event; dsimp only; split <;> simp
@[simp] theorem Dev.event_pmc (d : Dev) (f g : Fld) (s : Nat) : (d.event f g s).pmc = d.pmc := by
  unfold Dev.event; dsimp only; split <;> simp

@[simp] theorem Dev.rd_reply (d : Dev) (v b st : Nat) (ep : Bool) (f : Fld) (hf : isCount f = false) :
    (d.reply v b st ep).rd f = d.rd f := by
  unfold Dev.reply
  rw [Dev.rd_count _ _ _ _ _ hf, Dev.emit_rd]

@[simp] theorem Dev.reply_mem (d : Dev) (v b st : Nat) (ep : Bool) : (d.reply v b st ep).mem = d.mem := by
  unfold Dev.reply; simp
@[simp] theorem Dev.reply_marks (d : Dev) (v b st : Nat) (ep : Bool) : (d.reply v b st ep).marks = d.marks := by
  unfold Dev.reply; simp
@[simp] theorem Dev.reply_writeBacks (d : Dev) (v b st : Nat) (ep : Bool) : (d.reply v b st ep).writeBacks = d.writeBacks := by
  unfold Dev.reply; simp
@[simp] theorem Dev.reply_used (d : Dev) (v b st : Nat) (ep : Bool) : (d.reply v b st ep).used = d.used := by
  unfold Dev.reply; simp
@[simp] theorem Dev.reply_nextUid (d : Dev) (v b st : Nat) (ep : Bool) : (d.reply v b st ep).nextUid = d.nextUid := by
  unfold Dev.reply; simp
@[simp] theorem Dev.reply_freeCount (d : Dev) (v b st : Nat) (ep : Bool) : (d.reply v b st ep).freeCount = d.freeCount := by
  unfold Dev.reply; simp
@[simp] theorem Dev.reply_now (d : Dev) (v b st : Nat) (ep : Bool) : (d.reply v b st ep).now = d.now := by
  unfold Dev.reply; simp
@[simp] theorem Dev.reply_tb (d : Dev) (v b st : Nat) (ep : Bool) : (d.reply v b st ep).tb = d.tb := by
  unfold Dev.reply; simp
@[simp] theorem Dev.reply_tbFrac (d : Dev) (v b st : Nat) (ep : Bool) : (d.reply v b st ep).tbFrac = d.tbFrac := by
  unfold Dev.reply; simp
@[simp] theorem Dev.reply_ethPhase (d : Dev) (v b st : Nat) (ep : Bool) : (d.reply v b st ep).ethPhase = d.ethPhase := by
  unfold Dev.reply; simp
@[simp] theorem Dev.reply_toSafe (d : Dev) (v b st : Nat) (ep : Bool) : (d.reply v b st ep).toSafe = d.toSafe := by
  unfold Dev.reply; simp
@[simp] theorem Dev.reply_irqs (d : Dev) (v b st : Nat) (ep : Bool) : (d.reply v b st ep).irqs = d.irqs := by
  unfold Dev.reply; simp
@[simp] theorem Dev.reply_tick (d : Dev) (v b st : Nat) (ep : Bool) : (d.reply v b st ep).tick = d.tick := by
  unfold Dev.reply; simp
@[simp] theorem Dev.reply_cfg (d : Dev) (v b st : Nat) (ep : Bool) : (d.reply v b st ep).cfg = d.cfg := by
  unfold Dev.reply; simp
@[simp] theorem Dev.reply_ports (d : Dev) (v b st : Nat) (ep : Bool) : (d.reply v b st ep).ports = d.ports := by
  unfold Dev.reply; simp
@[simp] theorem Dev.reply_fence (d : Dev) (v b st : Nat) (ep : Bool) : (d.reply v b st ep).fence = d.fence := by
  unfold Dev.reply; simp
@[simp] theorem Dev.reply_mdio (d : Dev) (v b st : Nat) (ep : Bool) : (d.reply v b st ep).mdio = d.mdio := by
  unfold Dev.reply; simp
@[simp] theorem Dev.reply_classq (d : Dev) (v b st : Nat) (ep : Bool) : (d.reply v b st ep).classq = d.classq := by
  unfold Dev.reply; simp
@[simp] theorem Dev.reply_engines (d : Dev) (v b st : Nat) (ep : Bool) : (d.reply v b st ep).engines = d.engines := by
  unfold Dev.reply; simp
@[simp] theorem Dev.reply_txc (d : Dev) (v b st : Nat) (ep : Bool) : (d.reply v b st ep).txc = d.txc := by
  unfold Dev.reply; simp
@[simp] theorem Dev.reply_cry (d : Dev) (v b st : Nat) (ep : Bool) : (d.reply v b st ep).cry = d.cry := by
  unfold Dev.reply; simp
@[simp] theorem Dev.reply_sec (d : Dev) (v b st : Nat) (ep : Bool) : (d.reply v b st ep).sec = d.sec := by
  unfold Dev.reply; simp
@[simp] theorem Dev.reply_boot (d : Dev) (v b st : Nat) (ep : Bool) : (d.reply v b st ep).boot = d.boot := by
  unfold Dev.reply; simp
@[simp] theorem Dev.reply_dma (d : Dev) (v b st : Nat) (ep : Bool) : (d.reply v b st ep).dma = d.dma := by
  unfold Dev.reply; simp
@[simp] theorem Dev.reply_sqs (d : Dev) (v b st : Nat) (ep : Bool) : (d.reply v b st ep).sqs = d.sqs := by
  unfold Dev.reply; simp
@[simp] theorem Dev.reply_cqSince (d : Dev) (v b st : Nat) (ep : Bool) : (d.reply v b st ep).cqSince = d.cqSince := by
  unfold Dev.reply; simp
@[simp] theorem Dev.reply_due (d : Dev) (v b st : Nat) (ep : Bool) : (d.reply v b st ep).due = d.due := by
  unfold Dev.reply; simp
@[simp] theorem Dev.reply_rps (d : Dev) (v b st : Nat) (ep : Bool) : (d.reply v b st ep).rps = d.rps := by
  unfold Dev.reply; simp
@[simp] theorem Dev.reply_cal (d : Dev) (v b st : Nat) (ep : Bool) : (d.reply v b st ep).cal = d.cal := by
  unfold Dev.reply; simp
@[simp] theorem Dev.reply_nvt (d : Dev) (v b st : Nat) (ep : Bool) : (d.reply v b st ep).nvt = d.nvt := by
  unfold Dev.reply; simp
@[simp] theorem Dev.reply_safeCore (d : Dev) (v b st : Nat) (ep : Bool) : (d.reply v b st ep).safeCore = d.safeCore := by
  unfold Dev.reply; simp
@[simp] theorem Dev.reply_apWait (d : Dev) (v b st : Nat) (ep : Bool) : (d.reply v b st ep).apWait = d.apWait := by
  unfold Dev.reply; simp
@[simp] theorem Dev.reply_pwr (d : Dev) (v b st : Nat) (ep : Bool) : (d.reply v b st ep).pwr = d.pwr := by
  unfold Dev.reply; simp
@[simp] theorem Dev.reply_saf (d : Dev) (v b st : Nat) (ep : Bool) : (d.reply v b st ep).saf = d.saf := by
  unfold Dev.reply; simp
@[simp] theorem Dev.reply_tim (d : Dev) (v b st : Nat) (ep : Bool) : (d.reply v b st ep).tim = d.tim := by
  unfold Dev.reply; simp
@[simp] theorem Dev.reply_sbd (d : Dev) (v b st : Nat) (ep : Bool) : (d.reply v b st ep).sbd = d.sbd := by
  unfold Dev.reply; simp

/-! ### Time -/

/-- `e` is `d` later, or with ports and performance counters further on: registers that are no performance counter, and everything that
time does not move, are the same. -/
def Later (d e : Dev) : Prop :=
  ∃ r w p n tb tf ph c, e = { d with
      regs := r, pmc := { d.pmc with wrapped := w }, ports := p, now := n, tb := tb, tbFrac := tf, ethPhase := ph
      tick := { d.tick with cyc := c } } ∧ ∀ f, isCount f = false → Regs.get r f = Regs.get d.regs f

theorem Later.trans {d e g : Dev} (h : Later d e) (k : Later e g) : Later d g := by
  obtain ⟨r, w, p, n, tb, tf, ph, c, rfl, h⟩ := h
  obtain ⟨r', w', p', n', tb', tf', ph', c', rfl, k⟩ := k
  exact ⟨r', w', p', n', tb', tf', ph', c', rfl, fun f hf => (k f hf).trans (h f hf)⟩

theorem Counted.later {d e : Dev} (h : Counted d e) : Later d e := by
  obtain ⟨r, w, rfl, h⟩ := h
  exact ⟨r, w, d.ports, d.now, d.tb, d.tbFrac, d.ethPhase, d.tick.cyc, rfl, h⟩

theorem Later.refl (d : Dev) : Later d d := (Counted.refl d).later

/-- The credits of a port change its credits only. -/
theorem Later.accrue (d : Dev) (p c : Nat) : Later d (d.accrue p c) :=
  ⟨d.regs, d.pmc.wrapped, (d.accrue p c).ports, d.now, d.tb, d.tbFrac, d.ethPhase, d.tick.cyc, rfl, fun _ _ => rfl⟩

theorem Later.foldl {α : Type} (l : List α) (g : Dev → α → Dev) (hg : ∀ d x, Later d (g d x)) (d : Dev) :
    Later d (l.foldl g d) := by
  induction l generalizing d with
  | nil => exact .refl d
  | cons x xs ih => exact (hg d x).trans (ih _)

theorem Counted.ite {d e : Dev} (p : Prop) [Decidable p] (h : Counted d e) : Counted d (if p then e else d) := by
  split
  · exact h
  · exact .refl d

theorem Counted.ite' {d e : Dev} (p : Prop) [Decidable p] (h : Counted d e) : Counted d (if p then d else e) := by
  split
  · exact .refl d
  · exact h

/-- The cycles of an interval counted. -/
theorem Counted.countCycles (d : Dev) (n c : Nat) : Counted d (d.countCycles n c) := by
  unfold Dev.countCycles
  split
  · exact .refl d
  · refine (Counted.count d _ _ _).trans ((Counted.foldl _ _ ?_ _).trans ((Counted.foldl _ _ ?_ _).trans (Counted.foldl _ _ ?_ _)))
    · exact fun d x => Counted.ite _ (Counted.count d _ _ _)
    · exact fun d x => Counted.ite' _ (Counted.count d _ _ _)
    · exact fun d x => Counted.ite' _ (Counted.count d _ _ _)

/-- The passing of time changes time, the ports' credits and performance counters. -/
theorem Later.elapse (d : Dev) (n : Nat) : Later d (d.elapse n) := by
  unfold Dev.elapse
  split
  · exact .refl d
  · refine Later.trans ?_ (Later.trans (Later.foldl _ _ (fun d p => Later.accrue d p _) _) (Counted.countCycles _ _ _).later)
    exact ⟨d.regs, d.pmc.wrapped, d.ports, _, _, _, _, _, rfl, fun _ _ => rfl⟩

theorem Later.rd {d e : Dev} (h : Later d e) (f : Fld) (hf : isCount f = false) : e.rd f = d.rd f := by
  obtain ⟨r, w, p, n, tb, tf, ph, c, rfl, h⟩ := h
  exact h f hf

/-- Registers are not changed by the passing of time. -/
@[simp] theorem Dev.rd_elapse (d : Dev) (n : Nat) (f : Fld) (hf : isCount f = false) : (d.elapse n).rd f = d.rd f :=
  (Later.elapse d n).rd f hf

@[simp] theorem Dev.elapse_mem (d : Dev) (n : Nat) : (d.elapse n).mem = d.mem := by
  obtain ⟨r, w, p, m, tb, tf, ph, c, h, -⟩ := Later.elapse d n; rw [h]
@[simp] theorem Dev.elapse_marks (d : Dev) (n : Nat) : (d.elapse n).marks = d.marks := by
  obtain ⟨r, w, p, m, tb, tf, ph, c, h, -⟩ := Later.elapse d n; rw [h]
@[simp] theorem Dev.elapse_writeBacks (d : Dev) (n : Nat) : (d.elapse n).writeBacks = d.writeBacks := by
  obtain ⟨r, w, p, m, tb, tf, ph, c, h, -⟩ := Later.elapse d n; rw [h]
@[simp] theorem Dev.elapse_used (d : Dev) (n : Nat) : (d.elapse n).used = d.used := by
  obtain ⟨r, w, p, m, tb, tf, ph, c, h, -⟩ := Later.elapse d n; rw [h]
@[simp] theorem Dev.elapse_nextUid (d : Dev) (n : Nat) : (d.elapse n).nextUid = d.nextUid := by
  obtain ⟨r, w, p, m, tb, tf, ph, c, h, -⟩ := Later.elapse d n; rw [h]
@[simp] theorem Dev.elapse_freeCount (d : Dev) (n : Nat) : (d.elapse n).freeCount = d.freeCount := by
  obtain ⟨r, w, p, m, tb, tf, ph, c, h, -⟩ := Later.elapse d n; rw [h]
@[simp] theorem Dev.elapse_out (d : Dev) (n : Nat) : (d.elapse n).out = d.out := by
  obtain ⟨r, w, p, m, tb, tf, ph, c, h, -⟩ := Later.elapse d n; rw [h]
@[simp] theorem Dev.elapse_toSafe (d : Dev) (n : Nat) : (d.elapse n).toSafe = d.toSafe := by
  obtain ⟨r, w, p, m, tb, tf, ph, c, h, -⟩ := Later.elapse d n; rw [h]
@[simp] theorem Dev.elapse_irqs (d : Dev) (n : Nat) : (d.elapse n).irqs = d.irqs := by
  obtain ⟨r, w, p, m, tb, tf, ph, c, h, -⟩ := Later.elapse d n; rw [h]
@[simp] theorem Dev.elapse_cfg (d : Dev) (n : Nat) : (d.elapse n).cfg = d.cfg := by
  obtain ⟨r, w, p, m, tb, tf, ph, c, h, -⟩ := Later.elapse d n; rw [h]
@[simp] theorem Dev.elapse_fence (d : Dev) (n : Nat) : (d.elapse n).fence = d.fence := by
  obtain ⟨r, w, p, m, tb, tf, ph, c, h, -⟩ := Later.elapse d n; rw [h]
@[simp] theorem Dev.elapse_mdio (d : Dev) (n : Nat) : (d.elapse n).mdio = d.mdio := by
  obtain ⟨r, w, p, m, tb, tf, ph, c, h, -⟩ := Later.elapse d n; rw [h]
@[simp] theorem Dev.elapse_classq (d : Dev) (n : Nat) : (d.elapse n).classq = d.classq := by
  obtain ⟨r, w, p, m, tb, tf, ph, c, h, -⟩ := Later.elapse d n; rw [h]
@[simp] theorem Dev.elapse_engines (d : Dev) (n : Nat) : (d.elapse n).engines = d.engines := by
  obtain ⟨r, w, p, m, tb, tf, ph, c, h, -⟩ := Later.elapse d n; rw [h]
@[simp] theorem Dev.elapse_txc (d : Dev) (n : Nat) : (d.elapse n).txc = d.txc := by
  obtain ⟨r, w, p, m, tb, tf, ph, c, h, -⟩ := Later.elapse d n; rw [h]
@[simp] theorem Dev.elapse_cry (d : Dev) (n : Nat) : (d.elapse n).cry = d.cry := by
  obtain ⟨r, w, p, m, tb, tf, ph, c, h, -⟩ := Later.elapse d n; rw [h]
@[simp] theorem Dev.elapse_sec (d : Dev) (n : Nat) : (d.elapse n).sec = d.sec := by
  obtain ⟨r, w, p, m, tb, tf, ph, c, h, -⟩ := Later.elapse d n; rw [h]
@[simp] theorem Dev.elapse_boot (d : Dev) (n : Nat) : (d.elapse n).boot = d.boot := by
  obtain ⟨r, w, p, m, tb, tf, ph, c, h, -⟩ := Later.elapse d n; rw [h]
@[simp] theorem Dev.elapse_hep (d : Dev) (n : Nat) : (d.elapse n).hep = d.hep := by
  obtain ⟨r, w, p, m, tb, tf, ph, c, h, -⟩ := Later.elapse d n; rw [h]
@[simp] theorem Dev.elapse_dma (d : Dev) (n : Nat) : (d.elapse n).dma = d.dma := by
  obtain ⟨r, w, p, m, tb, tf, ph, c, h, -⟩ := Later.elapse d n; rw [h]
@[simp] theorem Dev.elapse_sqs (d : Dev) (n : Nat) : (d.elapse n).sqs = d.sqs := by
  obtain ⟨r, w, p, m, tb, tf, ph, c, h, -⟩ := Later.elapse d n; rw [h]
@[simp] theorem Dev.elapse_cqSince (d : Dev) (n : Nat) : (d.elapse n).cqSince = d.cqSince := by
  obtain ⟨r, w, p, m, tb, tf, ph, c, h, -⟩ := Later.elapse d n; rw [h]
@[simp] theorem Dev.elapse_due (d : Dev) (n : Nat) : (d.elapse n).due = d.due := by
  obtain ⟨r, w, p, m, tb, tf, ph, c, h, -⟩ := Later.elapse d n; rw [h]
@[simp] theorem Dev.elapse_rps (d : Dev) (n : Nat) : (d.elapse n).rps = d.rps := by
  obtain ⟨r, w, p, m, tb, tf, ph, c, h, -⟩ := Later.elapse d n; rw [h]
@[simp] theorem Dev.elapse_cal (d : Dev) (n : Nat) : (d.elapse n).cal = d.cal := by
  obtain ⟨r, w, p, m, tb, tf, ph, c, h, -⟩ := Later.elapse d n; rw [h]
@[simp] theorem Dev.elapse_nvt (d : Dev) (n : Nat) : (d.elapse n).nvt = d.nvt := by
  obtain ⟨r, w, p, m, tb, tf, ph, c, h, -⟩ := Later.elapse d n; rw [h]
@[simp] theorem Dev.elapse_safeCore (d : Dev) (n : Nat) : (d.elapse n).safeCore = d.safeCore := by
  obtain ⟨r, w, p, m, tb, tf, ph, c, h, -⟩ := Later.elapse d n; rw [h]
@[simp] theorem Dev.elapse_apWait (d : Dev) (n : Nat) : (d.elapse n).apWait = d.apWait := by
  obtain ⟨r, w, p, m, tb, tf, ph, c, h, -⟩ := Later.elapse d n; rw [h]
@[simp] theorem Dev.elapse_pwr (d : Dev) (n : Nat) : (d.elapse n).pwr = d.pwr := by
  obtain ⟨r, w, p, m, tb, tf, ph, c, h, -⟩ := Later.elapse d n; rw [h]
@[simp] theorem Dev.elapse_saf (d : Dev) (n : Nat) : (d.elapse n).saf = d.saf := by
  obtain ⟨r, w, p, m, tb, tf, ph, c, h, -⟩ := Later.elapse d n; rw [h]
@[simp] theorem Dev.elapse_tim (d : Dev) (n : Nat) : (d.elapse n).tim = d.tim := by
  obtain ⟨r, w, p, m, tb, tf, ph, c, h, -⟩ := Later.elapse d n; rw [h]
@[simp] theorem Dev.elapse_sbd (d : Dev) (n : Nat) : (d.elapse n).sbd = d.sbd := by
  obtain ⟨r, w, p, m, tb, tf, ph, c, h, -⟩ := Later.elapse d n; rw [h]

end Sys2Proof.Machine
end

