-- ==== Sys2Proof/Laws/Bank.lean ====
section
/-! SUPPORT.  Banks of like things: a read after a replacement, and for each bank of the device the reads of its things. -/

namespace Sys2Proof.Machine

/-- A list filled up to an index and replaced there. -/
theorem getD_fillAt {α : Type} (z : α) (l : List α) (i j : Nat) (f : α → α) :
    (fillAt z l i f).getD j z = if j = i then f (l.getD i z) else l.getD j z := by
  induction i generalizing l j with
  | zero =>
    cases l with
    | nil => cases j <;> simp [fillAt]
    | cons x xs => cases j <;> simp [fillAt]
  | succ i ih =>
    cases l with
    | nil =>
      cases j with
      | zero => simp [fillAt]
      | succ j =>
        have h := ih [] j
        simpa [fillAt] using h
    | cons x xs =>
      cases j with
      | zero => simp [fillAt]
      | succ j =>
        have h := ih xs j
        simpa [fillAt] using h

/-- A thing of a bank after a replacement. -/
theorem getD_bankAt {α : Type} (n : Nat) (z : α) (l : List α) (i j : Nat) (f : α → α) :
    (bankAt n z l i f).getD j z = if j = i ∧ i < n then f (l.getD i z) else l.getD j z := by
  unfold bankAt
  split
  · rename_i h
    rw [getD_fillAt]
    simp [h]
  · rename_i h
    simp [h]

/-- A port after a change of a port. -/
@[simp] theorem Dev.port_modPort (d : Dev) (p q : Nat) (g : Port → Port) :
    (d.modPort p g).port q = if q = p ∧ p < 4 then g (d.port p) else d.port q := getD_bankAt 4 ({} : Port) d.ports p q g

/-- An engine after a change of an engine. -/
@[simp] theorem Dev.engine_modEngine (d : Dev) (e x : Nat) (g : Engine → Engine) :
    (d.modEngine e g).engine x = if x = e ∧ e < 16 then g (d.engine e) else d.engine x := getD_bankAt 16 ({} : Engine) d.engines e x g

/-- A slot occurrence after a change of one. -/
@[simp] theorem Dev.occ_modOcc (d : Dev) (n m : Nat) (g : Occ → Occ) :
    (d.modOcc n g).occ m = if m = n ∧ n < 64 then g (d.occ n) else d.occ m := getD_bankAt 64 ({} : Occ) d.tick.occ n m g

/-- A submission ring after a change of one. -/
@[simp] theorem Dev.sq_modSq (d : Dev) (n m : Nat) (g : Sq → Sq) :
    (d.modSq n g).sq m = if m = n ∧ n < 256 then g (d.sq n) else d.sq m := getD_bankAt 256 ({} : Sq) d.sqs n m g

/-- A root port after a change of one. -/
@[simp] theorem Dev.rp_modRp (d : Dev) (n m : Nat) (g : Rp → Rp) :
    (d.modRp n g).rp m = if m = n ∧ n < 2 then g (d.rp n) else d.rp m := getD_bankAt 2 ({} : Rp) d.rps n m g

/-- A connection after a change of one. -/
@[simp] theorem Dev.conn_modConn (d : Dev) (c x : Nat) (g : NvtConn → NvtConn) :
    (d.modConn c g).conn x = if x = c ∧ c < 16 then g (d.conn c) else d.conn x := getD_bankAt 16 ({} : NvtConn) d.nvt.conns c x g

/-- A linked-list channel after a change of one. -/
@[simp] theorem Dev.ll_modLl (d : Dev) (c x : Nat) (g : Ll → Ll) :
    (d.modLl c g).ll x = if x = c ∧ c < 96 then g (d.ll c) else d.ll x := getD_bankAt 96 ({} : Ll) d.dma.ll c x g

/-- A tick channel after a change of one. -/
@[simp] theorem Dev.tch_modTch (d : Dev) (t x : Nat) (g : Tch → Tch) :
    (d.modTch t g).tch x = if x = t ∧ t < 32 then g (d.tch t) else d.tch x := getD_bankAt 32 ({} : Tch) d.dma.tch t x g

/-- A sampling unit after a change of one. -/
@[simp] theorem Dev.smp_modSmp (d : Dev) (p q : Nat) (g : Smp → Smp) :
    (d.modSmp p g).smp q = if q = p ∧ p < 8 then g (d.smp p) else d.smp q := getD_bankAt 8 ({} : Smp) d.pmc.smp p q g

/-! ### Work registers -/

/-- The registers of a list after one is put. -/
theorem getD_putReg (w : List WReg) (i x : Fin 32) (v : WReg) :
    (putReg w i v).getD x (0, false) = if x = i ∧ i ≠ 0 then v else w.getD x (0, false) := by
  unfold putReg
  rw [List.getD_eq_getElem?_getD, List.getElem?_map, List.getElem?_range x.isLt]
  simp only [Option.map_some, Option.getD_some]
  have h1 : (x.val = i.val) = (x = i) := by rw [Fin.ext_iff]
  have h2 : (x.val ≠ 0) = (x ≠ 0) := by rw [ne_eq, ne_eq, Fin.ext_iff]; rfl
  simp only [h1, h2]
  by_cases h : x = i
  · subst h; simp
  · simp [h]

/-- A work register after a write of one: the written one holds the value, w0 stays 0 and clean (R187, R219). -/
@[simp] theorem Dev.wreg_setWreg (d : Dev) (e x : Nat) (i j : Fin 32) (v : WReg) (he : e < 16) :
    (d.setWreg e i v).wreg x j = if x = e ∧ j = i ∧ i ≠ 0 then v else d.wreg x j := by
  unfold Dev.wreg Dev.setWreg
  rw [Dev.engine_modEngine]
  by_cases hx : x = e
  · subst hx
    simp only [he, and_self, if_true, true_and]
    by_cases hj : j = 0
    · subst hj
      by_cases hi : (0 : Fin 32) = i ∧ i ≠ 0
      · exact absurd hi.1.symm hi.2
      · simp [hi]
    · rw [if_neg hj, if_neg hj, getD_putReg]
  · simp [hx]

/-- The rest of an engine after a write of a work register. -/
@[simp] theorem Dev.setWreg_engine (d : Dev) (e : Nat) (i : Fin 32) (v : WReg) (he : e < 16) :
    (d.setWreg e i v).engine e = { d.engine e with w := putReg (d.engine e).w i v } := by
  simp [Dev.setWreg, he]

/-- A work register after the program counter moved. -/
@[simp] theorem Dev.wreg_advance (d : Dev) (e x : Nat) (j : Fin 32) : (d.advance e).wreg x j = d.wreg x j := by
  unfold Dev.wreg Dev.advance
  rw [Dev.engine_modEngine]
  by_cases h : x = e ∧ e < 16 <;> simp [h]

end Sys2Proof.Machine
end

