-- ==== Sys2Proof/Laws/Engine.lean ====
section
/-! SUPPORT.  The issue of an engine instruction: what retiring leaves alone, and what an engine that is about to execute an instruction
does with it. -/

namespace Sys2Proof.Machine

open Sys2Proof.Safety

/-- `e` is `d` but for performance counters, sampling units and free values drawn. -/
def Aside (d e : Dev) : Prop :=
  ∃ r m n, e = { d with regs := r, pmc := m, freeCount := n } ∧ ∀ f, isCount f = false → Regs.get r f = Regs.get d.regs f

theorem Aside.refl (d : Dev) : Aside d d := ⟨d.regs, d.pmc, d.freeCount, rfl, fun _ _ => rfl⟩

theorem Aside.trans {d e g : Dev} (h : Aside d e) (k : Aside e g) : Aside d g := by
  obtain ⟨r, m, n, rfl, h⟩ := h
  obtain ⟨r', m', n', rfl, k⟩ := k
  exact ⟨r', m', n', rfl, fun f hf => (k f hf).trans (h f hf)⟩

theorem Counted.aside {d e : Dev} (h : Counted d e) : Aside d e := by
  obtain ⟨r, w, rfl, h⟩ := h
  exact ⟨r, _, d.freeCount, rfl, h⟩

theorem Aside.ite {d e g : Dev} (p : Prop) [Decidable p] (h : Aside d e) (k : Aside d g) : Aside d (if p then e else g) := by
  split
  · exact h
  · exact k

theorem Aside.modSmp (d : Dev) (p : Nat) (g : Smp → Smp) : Aside d (d.modSmp p g) := ⟨d.regs, _, d.freeCount, rfl, fun _ _ => rfl⟩

/-- A countdown reloaded. -/
theorem Aside.smpReload (d : Dev) (p h : Nat) : Aside d (d.smpReload p h) := by
  unfold Dev.smpReload Dev.modHalf
  exact ⟨d.regs, _, d.freeCount + 1, rfl, fun _ _ => rfl⟩

/-- Retiring touches performance counters and sampling only (R567, R576). -/
theorem Aside.retire (d b : Dev) (e : Nat) (r : Retired) : Aside d (d.retire b e r) := by
  unfold Dev.retire
  dsimp only
  have h1 : Aside d (if r.winMiss = true then (d.count 16 e 1).count 20 e 1 else d.count 16 e 1) := by
    split
    · exact ((Counted.count d _ _ _).trans (Counted.count _ _ _ _)).aside
    · exact (Counted.count d _ _ _).aside
  refine h1.trans ?_
  generalize (if r.winMiss = true then (d.count 16 e 1).count 20 e 1 else d.count 16 e 1) = x
  split
  · split
    · exact .refl _
    · split
      · exact Aside.modSmp _ _ _
      · exact (Aside.modSmp _ _ _).trans (Aside.smpReload _ _ _)
  · exact .refl _

/-- The data address of an instruction draws at most a free value. -/
theorem Dev.daddrOf_eq (d : Dev) (e : Nat) (op : Op) : ∃ k, (d.daddrOf e op).2 = { d with freeCount := k } := by
  cases op <;> first | exact ⟨d.freeCount, rfl⟩ | exact ⟨d.freeCount + 1, rfl⟩

/-- An instruction executed: its effect on a device whose engine has forgotten earlier exceptions, and its retirement. -/
theorem Dev.execute_eq (d b : Dev) (e w : Nat) (op : Op) :
    ∃ k, Aside ((({ d with freeCount := k } : Dev).modEngine e (fun g => { g with raised := false })).doOp e op) (d.execute b e w op) := by
  obtain ⟨k, hk⟩ := Dev.daddrOf_eq d.fresh.2 e op
  refine ⟨k, ?_⟩
  unfold Dev.execute
  dsimp only
  rw [show ((d.fresh.2.daddrOf e op).2 : Dev) = { d with freeCount := k } from hk]
  generalize ((({ d with freeCount := k } : Dev).modEngine e (fun g => { g with raised := false })).doOp e op) = x
  apply Aside.ite
  · split
    · exact Aside.ite _ (Counted.count _ _ _ _).aside (.refl _)
    · exact .refl _
  · refine Aside.trans ?_ (Aside.retire _ _ _ _)
    split
    · exact Aside.ite _ (Counted.count _ _ _ _).aside (.refl _)
    · exact .refl _

/-- Issue by an engine that is about to execute the instruction, with no mismatch between halves. -/
theorem Dev.issue_ready (d : Dev) (e : Nat) (op : Op) (h : Ready d e op) :
    ∃ k, Aside ((({ d with freeCount := k } : Dev).modEngine e (fun g => { g with raised := false })).doOp e op)
      (d.issue e false op) := by
  obtain ⟨hi, w, hf, hd⟩ := h
  obtain ⟨k, hk⟩ := Dev.execute_eq d d e w op
  refine ⟨k, ?_⟩
  unfold Dev.issue
  simp only [hi, Bool.not_true, Bool.false_eq_true, if_false, hf, hd, ne_eq, not_true_eq_false, false_and]
  exact hk

/-- What `Aside` leaves: registers that are no performance counter. -/
theorem Aside.rd {d e : Dev} (h : Aside d e) (f : Fld) (hf : isCount f = false) : e.rd f = d.rd f := by
  obtain ⟨r, m, n, rfl, h⟩ := h
  exact h f hf

/-- What `Aside` leaves: work registers. -/
theorem Aside.wreg {d e : Dev} (h : Aside d e) (x : Nat) (i : Fin 32) : e.wreg x i = d.wreg x i := by
  obtain ⟨r, m, n, rfl, -⟩ := h
  rfl

/-- What `Aside` leaves: engines, memory and its marks. -/
theorem Aside.engine {d e : Dev} (h : Aside d e) (x : Nat) : e.engine x = d.engine x := by
  obtain ⟨r, m, n, rfl, -⟩ := h
  rfl
theorem Aside.mem {d e : Dev} (h : Aside d e) : e.mem = d.mem := by
  obtain ⟨r, m, n, rfl, -⟩ := h
  rfl
theorem Aside.marks {d e : Dev} (h : Aside d e) : e.marks = d.marks := by
  obtain ⟨r, m, n, rfl, -⟩ := h
  rfl

end Sys2Proof.Machine
end

