-- ==== Sys2Proof/WellFormed.lean ====
section
/-! DEFINITION.  Which commands are well formed: operands whose types are wider than what the device can be sent.  A meaning is total on
every command; no statement needs this predicate to hold. -/

namespace Sys2Proof

/-- A bridge access: an offset within PF0 BAR0 and at most 8 bytes of a register, or a line of the device and 64 bytes (R539, R588). -/
def BridgeOp.wf : BridgeOp → Bool
  | .read _ off len => off < 2 ^ 23 && decide (len ≤ 8)
  | .write _ off bytes => off < 2 ^ 23 && decide (bytes.length ≤ 8)
  | .readLine l => l < 156672
  | .writeLine l bytes => l < 156672 && decide (bytes.length = 64)

/-- Whether a command's operands are ones the device can be sent: offsets within a window, lines it has (R480), lengths of PCI Express
payloads, pages, headers and tokens. -/
def Instr.wf : Instr → Bool
  | .registerWrite _ off bs => off < 2 ^ 23 && decide (1 ≤ bs.length) && decide (bs.length ≤ 4096)
  | .jtagBridgeAccess a => a.wf
  | .eccWriteback l => l < 156672
  | .linkUp _ _ _ _ lane => lane.length ≤ 16
  | .rxPfc _ _ quanta => quanta.length = 8
  | .completionReceived tag _ _ _ count lower data => tag < 1024 && decide (count ≤ 4096) && decide (lower < 128) && decide (data.length ≤ 4096)
  | .rpCompletionRx _ _ _ _ count data => count ≤ 4096 && decide (data.length ≤ 4096)
  | .modemInboundRequest _ write _ _ tag len bytes => tag < 1024 && decide (len ≤ 4096) && decide (bytes.length = if write then len else 0)
  | .calStepEnd _ _ measured => measured.length ≤ 16
  | .tapDbgToken token => token.length = 160
  | .headerStageEnd a b => a.length = 256 && decide (b.length = 256)
  | .flashOpDone _ page => page.length ≤ 256
  | .smbusPacketRx p => p.length ≤ 256
  | .registerRead _ off len => off < 2 ^ 23 && decide (len ≤ 4096)
  | .tickStart | .tickStop | .tickBoundary | .boundaryCore | .boundaryFab | .releaseStateReset | .phaseOpen .. | .p3Mark | .p3Release
  | .releaseGuardStart .. | .slotReady .. | .slotDispatch .. | .slotCut .. | .slotCancel | .tckRecFifoPop | .imageLoadStart
  | .loadReadError .. | .loadPass1Complete .. | .loadPass2Complete .. | .seal | .sealReevalEnd | .overlayArm .. | .overlayPrepEnd
  | .overlayDisarm | .confirmAccept .. | .confirmRefuse .. | .confirmTimeout | .signatureCheck .. | .linkDown .. | .anLinkTimer ..
  | .restartAn .. | .mdioC22Write .. | .mdioC22Read .. | .mdioC45Address .. | .mdioC45Write .. | .mdioC45Read .. | .mdioC45ReadInc ..
  | .mdioComplete .. | .rxFrame .. | .rxFrameToBuffer .. | .rxPause .. | .pauseHoldExpiry .. | .txPauseXoff .. | .txPauseRepeat ..
  | .txPauseXon .. | .txGrant .. | .txPoisonLate .. | .txComplete .. | .fenceArrival | .fenceLift | .txCancelArrival ..
  | .classifierLookup .. | .frameClassified .. | .fragEntryAgeExpiry | .beStart .. | .add .. | .sub .. | .and .. | .or .. | .xor ..
  | .shl .. | .shr .. | .shrs .. | .mul .. | .setLt .. | .setUlt .. | .bswap .. | .addK .. | .andK .. | .orK .. | .cati .. | .shli ..
  | .shri .. | .shrsi .. | .extr .. | .ins .. | .brEq .. | .brNe .. | .brLt .. | .brGe .. | .brUlt .. | .brUge .. | .jlink ..
  | .jlinkr .. | .ldb .. | .ldh .. | .ldw .. | .ldd .. | .stb .. | .sth .. | .stw .. | .std .. | .storeVisible .. | .atomAdd ..
  | .atomXch .. | .atomCas .. | .fenceSl .. | .wadj .. | .wsetl .. | .lookupExact .. | .lookupTernary .. | .lookupBoth .. | .csum ..
  | .crcE .. | .crcC .. | .take .. | .txcq .. | .txcan .. | .copy .. | .fwd .. | .deliv .. | .crypt .. | .bridge .. | .stor ..
  | .drop .. | .rdtTick .. | .rdtTickOffset .. | .rdtOccurrenceCycles .. | .waitt .. | .waittResume .. | .cancel .. | .yield ..
  | .halt .. | .espOutTransform .. | .espInTransform .. | .macsecTxTransform .. | .macsecRxTransform .. | .cryptoReturn ..
  | .saInstall .. | .saInstallDone | .saDelete .. | .saDeleteDone | .saUpdateTemplate .. | .saUpdateDone | .nvtOpen .. | .nvtClose ..
  | .nvtAbort .. | .nvtOpenTimeout .. | .nvtSegmentRx | .nvtIcresp .. | .nvtR2tRx .. | .nvtC2hdata .. | .nvtCapsuleResp ..
  | .nvtC2hTermReq .. | .nvtTcpRstRx .. | .nvtRtoExpiry .. | .nvtFinSend .. | .nvtClosed .. | .nvtCmdAccept .. | .nvtCmdTimeout ..
  | .sqDoorbell .. | .cqDoorbell .. | .sqFetch .. | .rxHeldFrameWrite .. | .ringAbort .. | .ringAbortComplete .. | .sqEnable ..
  | .sqDisable .. | .cqEnable .. | .cqDisable .. | .safeStateArrival | .dmaBurstIssue .. | .flushReadIssue | .llDescriptorEnd ..
  | .llStart .. | .llStop .. | .llStopComplete .. | .llKick .. | .reqMapWrite .. | .reqFire .. | .reqLineTimer .. | .tchArm ..
  | .tchSwapReq .. | .tchSwapOnRequest .. | .tchOccurrenceEnd .. | .hostLinkUp .. | .hostLinkDown | .hotReset | .hostLinkError ..
  | .vfEnable | .vfDisable | .functionLevelReset .. | .flrComplete .. | .busMasterEnableWrite .. | .powerStateWrite .. | .msixRequest
  | .msixUnblock .. | .intxMessage .. | .ltrMessage | .aspmL1Entry | .inboundUnsupported .. | .poisonedWriteRx .. | .completionTimeout
  | .ctnFreeze | .ctnRelease .. | .ctnReleaseComplete | .rpPerstWrite .. | .rpPerstRelease .. | .rpLinkUp .. | .rpLinkDown ..
  | .rpLinkError .. | .rpCfgRead .. | .rpCfgWrite .. | .rpCfgCompletion .. | .apertureRead .. | .apertureWrite ..
  | .rpCompletionTimeout .. | .bridgeFrameWrite .. | .prefetchLineExpiry .. | .modemMsiWrite .. | .modemIntxMessage ..
  | .modemErrMessage .. | .rpCtnFreeze .. | .rpContainmentArrival .. | .rpCtnRelease .. | .keepaliveExpiry .. | .keepaliveRearm ..
  | .keepaliveLimitWrite .. | .timebaseStep | .freqAdjWrite .. | .timebaseRead | .anchorPublish | .rxTsPop .. | .txTsPop ..
  | .ppsInEdge .. | .ppsLostTimeout | .ppsOutRise | .ppsOutFall | .nmeaSentence .. | .ptpSampleWrite .. | .holdoverEntry
  | .calStepStart .. | .almanacOverdue .. | .almanacOverdue2 .. | .almanacVerify .. | .monitorArm | .monitorRecover .. | .monitorTrip
  | .monitorDisarm | .tickHeartbeat | .faultReport .. | .safeOutRefreshTimeout | .outReadbackFault .. | .tickWatchdogExpiry
  | .clockMonitorFault .. | .safeOscWindow .. | .scrubStep .. | .scrubLate | .hostAliveEdge .. | .hostAliveExpiry | .safeInActive ..
  | .bcWindowExpiry .. | .supplyWarningSafe .. | .supplyWarningMgmt | .supplyWarningDeassert .. | .dipQualified .. | .supplyUvLong
  | .powerStateChoice | .scheduledWake .. | .a3Commit | .powerStateExitDone | .wakeSignalDetect .. | .wakeTimerExpiry | .hostLinkWake
  | .maxStateWrite .. | .pmeMessage .. | .lcProvision | .lcField | .lcTransitionDone | .otpProgram .. | .otpRevoke .. | .otpWriteDone
  | .arbAdvance .. | .arbAdvanceDone | .dbgD1Open | .dbgClose | .dbgTokenSubmit | .dbgTokenChecked | .tapIdcode | .tapBypass
  | .tapDbgChal | .tapDbgWake | .tapDbgBridge | .tapSamplePreload .. | .tapExtest .. | .tapClamp | .tapHighz | .tapReset
  | .engineHalt .. | .engineHaltTakesEffect .. | .engineResume .. | .engineSingleStep .. | .powerOnReset | .powerOnClassReset
  | .warmReset .. | .safetyReset .. | .watchdogExpiry | .wdtFeed .. | .perstAssert | .perstDeassert | .resetRelease .. | .flashRead
  | .flashProgram | .flashErase | .mctpSetEndpointId | .mctpGetEndpointId | .mctpGetVersionSupport | .mctpGetMessageTypeSupport
  | .pldmGettid | .pldmSettid | .pldmGetpldmversion | .pldmGetpldmtypes | .pldmGetpldmcommands | .pldmGetsensorreading
  | .pldmGetstatesensorreadings | .pldmGetpdrrepositoryinfo | .pldmGetpdr | .smbusArbLost .. | .smbusRetry | .smbusClockLowTimeout
  | .gpioEdge .. | .counterOverflow | .pmcCntWrite .. | .pmcSelWrite .. | .pmcFreeze | .pmcUnfreeze | .pmcSnap
  | .counterSnapshotTask .. | .sampleTaken .. | .sampleRecordWrite .. | .sampleRdWrite .. | .smpCfgWrite .. | .hostLinkRetrain ..
  | .pmeTurnOff | .rpClkreqNChange .. | .rpVendorDefinedMessage .. => true

end Sys2Proof
end

