-- ==== Sys2Proof/Tests/Slice0.lean ====
section
/-! SUPPORT.  Tests: each check of WellFormed refuses an ill-formed command; one-step tests; and for every statement with hypotheses a state
and operands that meet all of them, clause by clause. -/

namespace Sys2Proof.Tests

open Sys2Proof Sys2Proof.Machine Sys2Proof.Safety Sys2Proof.Claims

/-! ### Small states -/

/-- A device out of reset with some register fields set. -/
def dv (l : List (Fld × Nat)) : Dev := { regs := l, boot := { stage := 2 } }

/-- The state of a device, nothing waiting. -/
def st (d : Dev) : State := { dev := d, otp := {}, pending := [] }

/-- Bytes at an address, as memory cells. -/
def cells (a : Nat) (l : List Nat) : List Host.Cell := Mem.write [] a (l.map (BitVec.ofNat 8))

/-! ### Ill-formed commands, one for each check of WellFormed -/

theorem test_wf_register_offset : Instr.wf (.registerWrite .pf0Bar0 (2 ^ 23) [0]) = false := by decide
theorem test_wf_register_length : Instr.wf (.registerWrite .pf0Bar0 0 []) = false := by decide
theorem test_wf_register_payload : Instr.wf (.registerWrite .pf0Bar0 0 (List.replicate 4097 0)) = false := by decide +kernel
theorem test_wf_read_offset : Instr.wf (.registerRead .pf0Bar0 (2 ^ 23) 4) = false := by decide
theorem test_wf_read_length : Instr.wf (.registerRead .pf0Bar0 0 4097) = false := by decide
theorem test_wf_bridge_read : Instr.wf (.jtagBridgeAccess (.read false 0 9)) = false := by decide
theorem test_wf_bridge_offset : Instr.wf (.jtagBridgeAccess (.read false (2 ^ 23) 4)) = false := by decide
theorem test_wf_bridge_write : Instr.wf (.jtagBridgeAccess (.write false 0 (List.replicate 9 0))) = false := by decide
theorem test_wf_bridge_line : Instr.wf (.jtagBridgeAccess (.readLine 156672)) = false := by decide
theorem test_wf_bridge_line_write : Instr.wf (.jtagBridgeAccess (.writeLine 0 [0])) = false := by decide
theorem test_wf_ecc_line : Instr.wf (.eccWriteback 156672) = false := by decide
theorem test_wf_pfc_quanta : Instr.wf (.rxPfc 0 0 []) = false := by decide
theorem test_wf_completion_tag : Instr.wf (.completionReceived 1024 0 0 false 4 0 []) = false := by decide
theorem test_wf_modem_bytes : Instr.wf (.modemInboundRequest 0 true 0 0 0 4 [0]) = false := by decide
theorem test_wf_token : Instr.wf (.tapDbgToken []) = false := by decide
theorem test_wf_headers : Instr.wf (.headerStageEnd [] []) = false := by decide
theorem test_wf_smbus_packet : Instr.wf (.smbusPacketRx (List.replicate 257 0)) = false := by decide +kernel
theorem test_wf_page : Instr.wf (.flashOpDone false (List.replicate 257 0)) = false := by decide +kernel
theorem test_wf_lane : Instr.wf (.linkUp 0 0 0 true (List.replicate 17 0)) = false := by decide
theorem test_wf_completion_count : Instr.wf (.completionReceived 0 0 0 false 4097 0 []) = false := by decide
theorem test_wf_completion_lower : Instr.wf (.completionReceived 0 0 0 false 4 128 []) = false := by decide
theorem test_wf_completion_data : Instr.wf (.completionReceived 0 0 0 false 4 0 (List.replicate 4097 0)) = false := by decide +kernel
theorem test_wf_modem_completion : Instr.wf (.rpCompletionRx 0 0 0 false 4097 []) = false := by decide
theorem test_wf_modem_data : Instr.wf (.rpCompletionRx 0 0 0 false 4 (List.replicate 4097 0)) = false := by decide +kernel
theorem test_wf_modem_tag : Instr.wf (.modemInboundRequest 0 false false 0 1024 4 []) = false := by decide
theorem test_wf_modem_length : Instr.wf (.modemInboundRequest 0 false false 0 0 4097 []) = false := by decide
theorem test_wf_cal_bytes : Instr.wf (.calStepEnd 0 false (List.replicate 17 0)) = false := by decide
theorem test_wf_headers_second : Instr.wf (.headerStageEnd (List.replicate 256 0) []) = false := by decide +kernel
theorem test_wf_accepts : Instr.wf (.registerWrite .pf0Bar0 8 [1, 2, 3, 4]) = true := by decide

/-! ### The tick -/

/-- Slot `n` of the Ephemeris in force: START 100, its third word's target, the KIND and flags byte, BUDGET 50. -/
def ephSlot (n kind : Nat) (target : List Nat) : List Host.Cell :=
  cells (64 * ephLine 0 + 0x40 + 16 * n) ([100, 0, 0, kind, 50, 0, 0, 0] ++ target)

/-- A device in a tick, with slot `n` of a kind and its occurrence in a state. -/
def inTick (n kind : Nat) (target : List Nat) (o : OccState) : Dev :=
  { dv [] with
    mem := ephSlot n kind target
    tick := { coreRun := true, first := false, coreTick := 7, cyc := 10, occ := bankAt 64 {} [] n (fun x => { x with state := o }) } }

theorem witness_TickStartStop :
    (Awake (st (dv [])) ∧ (dv []).rd (.cfg .STATUS_CONFIG) ≠ 1 ∧ (dv []).rd (.saf .STATE_STATE) < 2 ∧
      (dv []).rd (.tck .STATUS_RUNNING) = 0 ∧ (dv []).tick.fifo = []) ∧
    (let d := dv [(.tck .STATUS_RUNNING, 1), (.cfg .STATUS_CONFIG, 1)];
      Awake (st d) ∧ d.rd (.cfg .STATUS_CONFIG) = 1 ∧ d.rd (.tck .STATUS_RUNNING) = 1 ∧ d.rd (.saf .STATE_STATE) < 2) ∧
    (let d := dv [(.cfg .STATUS_CONFIG, 1)];
      Awake (st d) ∧ d.rd (.cfg .STATUS_CONFIG) = 1 ∧ d.rd (.tck .STATUS_RUNNING) = 0 ∧ d.tick.startPend = false) ∧
    (let d := dv [(.saf .STATE_STATE, 2)];
      Awake (st d) ∧ 2 ≤ d.rd (.saf .STATE_STATE)) ∧
    (let d : Dev := { dv [] with tick := { fifo := [5] } };
      Awake (st d) ∧ d.tick.fifo = [5]) := by
  unfold Awake; decide

theorem witness_TickBoundaries :
    (let d : Dev := { dv [] with tick := { startPend := true } };
      (st d).held = false ∧ d.tick.startPend = true) ∧
    (let d : Dev := { dv [] with tick := { toCore := [⟨0, false⟩], toFab := [⟨0, false⟩], toEth := [⟨0, false⟩] } };
      (st d).held = false ∧ d.tick.toCore = [⟨0, false⟩] ∧ d.tick.toFab = [⟨0, false⟩] ∧ d.tick.toEth = [⟨0, false⟩] ∧
        d.rd (.cfg .CONF_PENDING_PENDING) = 0 ∧ d.tick.coreRun = false ∧ d.rd (.cfg .OVL_STATUS_STATE) ≠ 3) ∧
    (let d : Dev := { dv [] with tick := { coreRun := true, toCore := [⟨1, true⟩] } };
      (st d).held = false ∧ d.tick.toCore = [⟨1, true⟩] ∧ d.unfinished = [] ∧ d.rd (.cfg .CONF_PENDING_PENDING) = 0) ∧
    (let d : Dev := { inTick 3 12 [0, 0, 0, 0] .running with tick := { (inTick 3 12 [0, 0, 0, 0] .running).tick with toCore := [⟨8, false⟩] } };
      (st d).held = false ∧ d.tick.toCore = [⟨8, false⟩] ∧ d.tick.coreRun = true ∧ d.unfinished ≠ [] ∧
        d.rd (.cfg .CONF_PENDING_PENDING) = 0) := by
  decide

/-- A port with one scheduled entry waiting for the P3 release. -/
def relPort : Port := { relDue := true, relq := [(7, { handle := 1, frame := { uid := 1, lines := [73728], start := 0, len := 60 } })] }

/-- A device in a tick whose port 0 is scheduled, up, with a REL_LIMIT and a release due. -/
def relDev : Dev :=
  { dv [(.mac (.PORT_CTRL_EN 0), 1), (.mac (.PORT_STATUS_LINK_UP 0), 1), (.mac (.TXQ_ROLE_SCHED 0 7), 1), (.tck .STATUS_RUNNING, 1)] with
    mem := cells (64 * ephLine 0 + 0x14) [0, 1, 0, 0x80]
    ports := [relPort, {}, {}, {}]
    tick := { coreRun := true, first := false } }

theorem witness_TickPhases :
    (st relDev).held = false ∧ relDev.tick.coreRun = true ∧ relDev.tick.p3 = false ∧ relDev.tick.first = false ∧
      relDev.rd (.tck .STATUS_RUNNING) = 1 ∧ relDev.sched 0 = true ∧ (relDev.port 0).relDue = true ∧
      (∀ o : Fin 4, o ≠ 0 → (relDev.port o).relDue = false) ∧ (relDev.port 0).relq = relPort.relq ∧
      (relDev.port 0).relBytes + relDev.wireLen 0 { handle := 1, frame := { uid := 1, lines := [73728], start := 0, len := 60 } } + 20 ≤
        relDev.relLimit 0 ∧
      relDev.txRefusal 0 7 true = none ∧ relDev.linkUp 0 = true := by
  decide

theorem witness_SlotLife :
    (let d := inTick 63 12 [0x10, 0, 0, 0] .idle;
      (st d).held = false ∧ SlotIn d 63 .idle ∧ { d with tick := { d.tick with p4 := true } }.phaseOpen (d.slot 63) = true) ∧
    (let d := inTick 0 9 [0x00, 1, 5, 0] .idle;
      (st d).held = false ∧ SlotIn d 0 .idle ∧ d.phaseOpen (d.slot 0) = true) ∧
    (let d := inTick 63 12 [0x10, 0, 0, 0] .ready;
      SlotIn d 63 .ready ∧ d.holder (d.resource (d.slot 63)) = none ∧ d.slotFirst 63 = true ∧ 3 ≤ (d.slot 63).kind) ∧
    (let d := inTick 0 9 [0x00, 1, 5, 0] .ready;
      SlotIn d 0 .ready ∧ d.holder (d.resource (d.slot 0)) = none ∧ d.slotFirst 0 = true ∧ (d.slot 0).kind = 1 ∧
        d.slotEngine (d.slot 0) = 0 ∧ d.engState 0 = 0 ∧ d.pairOff (d.slot 0).pair = false) ∧
    (let d := inTick 5 12 [0x10, 0, 0, 0] .running;
      (st d).held = false ∧ (d.occ 5).state = .running ∧ (d.slot 5).kind = 4 ∧ (d.slot 5).step ≠ 1) ∧
    (let d : Dev := { inTick 5 28 [0, 0, 0, 0] .idle with tick := { (inTick 5 28 [0, 0, 0, 0] .idle).tick with cancels := [5] } };
      (st d).held = false ∧ d.tick.cancels = [5] ∧ d.tick.coreRun = true ∧ (d.slot 5).on = true ∧ (d.slot 5).safety = true) ∧
    (let d : Dev := { dv [] with tick := { cancels := [5] } };
      (st d).held = false ∧ d.tick.cancels = [5] ∧ d.tick.coreRun = false) ∧
    (∀ o, o = .idle ∨ o = .ready ∨ o = .running ∨ o = .ended → SlotIn (inTick 5 12 [0x10, 0, 0, 0] o) 5 o ∧
      ((inTick 5 12 [0x10, 0, 0, 0] o).slot 5).safety = false) := by
  unfold SlotIn
  refine ⟨by decide, by decide, by decide, by decide, by decide, by decide, by decide, ?_⟩
  rintro o (rfl | rfl | rfl | rfl) <;> decide

/-! ### Registers -/

/-- A device whose PF0 serves memory accesses, with some register fields set. -/
def pf0 (l : List (Fld × Nat)) : Dev := dv ((.cs 0 .CMD_MSE, 1) :: l)

theorem witness_RegisterWrites :
    (Awake (st (pf0 [])) ∧ (pf0 []).memClosed 0 = false ∧ (pf0 []).rd (.cfg .STATUS_SEALED) = 0 ∧
      (pf0 []).rd (.tck .STATUS_RUNNING) = 0 ∧ (pf0 []).rd (.tck .CTRL_SRC) = 0 ∧ (pf0 []).fence = false) ∧
    (1 ≤ ofLe [64, 0, 0, 0] % 128 ∧ ofLe [64, 0, 0, 0] % 128 ≤ 64 ∧ ofLe [128, 0, 0, 0] % 128 = 0 ∧ 64 < ofLe [65, 0, 0, 0] % 128) ∧
    (let d := pf0 [(.cfg .STATUS_SEALED, 1)];
      Awake (st d) ∧ d.memClosed 0 = false ∧ d.rd (.cfg .STATUS_SEALED) = 1 ∧ ofLe [9, 0, 0, 0] % 128 ≠ d.rd (.tck .PERIOD_N) ∧
        d.rd (.tck .STATUS_RUNNING) = 0 ∧ d.rd (.cfg .SEAL_LOG_VALID) = 0) := by
  unfold Awake; decide

/-- A device at debug level `l` with the bridge selected. -/
def bridged (l : Nat) : Dev := { dv [(.sec .DBG_STATUS_LEVEL, l)] with sec := { tapIr := .dbgBridge } }

theorem witness_RegisterReadsAndBridge :
    (Awake (st (pf0 [])) ∧ (pf0 []).memClosed 0 = false ∧ (pf0 []).rd (.sec .DBG_STATUS_LEVEL) = 0) ∧
    (Awake (st (bridged 1)) ∧ (bridged 1).sec.tapIr = .dbgBridge ∧ (bridged 1).rd (.sec .DBG_STATUS_LEVEL) = 1) ∧
    (Awake (st (bridged 2)) ∧ (bridged 2).sec.tapIr = .dbgBridge ∧ (bridged 2).rd (.sec .DBG_STATUS_LEVEL) = 2 ∧
      (bridged 2).mark 155647 = .clean) ∧
    (let d : Dev := { dv [] with writeBacks := [5] };
      Awake (st d) ∧ 5 ∈ d.writeBacks ∧ 6 ∉ d.writeBacks) := by
  unfold Awake; decide

/-! ### Configuration -/

/-- A load in pass 1 of an image of 128 bytes, from host memory. -/
def load1 : Load := { len := 128 }

/-- An image whose header is good and whose target device is none. -/
def noTarget : List Byte :=
  ([0x59, 0x52, 0x56, 0x4C, 1, 0, 2, 0, 128, 0, 0, 0, 0, 0, 0, 0] : List Byte) ++ List.replicate 112 0

/-- A device with a load in progress. -/
def loading (ld : Load) (l : List (Fld × Nat)) : Dev := { dv l with cfg := { load := some ld } }

/-- A load in pass 2 with a digest. -/
def load2 (digest : List Byte) : Load := { pass2 := true, digest := digest }

theorem witness_ImageLoading :
    (Awake (st (dv [])) ∧ (dv []).cfg.load = none ∧ (dv []).rd (.cfg .STATUS_SEALED) = 0) ∧
    (let d := dv [(.cfg .STATUS_SEALED, 1)];
      Awake (st d) ∧ d.cfg.load = none ∧ d.rd (.cfg .STATUS_SEALED) = 1) ∧
    (let d : Dev := { dv [] with cfg := { reeval := true } };
      Awake (st d) ∧ d.cfg.reeval = true) ∧
    (let d := loading load1 [];
      Awake (st d) ∧ load1.boot = false ∧ d.cfg.load = some load1 ∧ load1.pass2 = false ∧ d.cfg.sealPend = false ∧
        d.rd (.cfg .STATUS_SEALED) = 0 ∧ d.rd (.tck .STATUS_RUNNING) = 0 ∧ imgHeaderOk (sliceB [] 0 load1.len) load1.len = false ∧
        imgHeaderOk (sliceB noTarget 0 load1.len) load1.len = true ∧
        imgTargetOk (sliceB noTarget 0 load1.len) (d.rd (.sys .REVISION_MAJOR)) (st d).otp.safetyFuse = false) ∧
    (let d := loading load1 [(.cfg .STATUS_SEALED, 1)];
      Awake (st d) ∧ d.cfg.load = some load1 ∧ d.rd (.cfg .STATUS_SEALED) = 1 ∧ leAt (sliceB [0, 0, 0, 0, 0, 0, 1] 0 load1.len) 6 1 = 1) := by
  unfold Awake; decide

theorem witness_ImageLoading_pass2 :
    (let ld := load2 (Config.sha384 ((sliceB [] 0 0).take 0));
      ld.boot = false ∧ (loading ld []).cfg.load = some ld ∧ ld.pass2 = true ∧
        ld.digest = Config.sha384 ((sliceB [] 0 ld.len).take (match ld.table.getLast? with | some x => x.off | none => 0))) ∧
    (let ld := load2 (0 :: Config.sha384 ((sliceB [] 0 0).take 0));
      ld.boot = false ∧ (loading ld []).cfg.load = some ld ∧ ld.pass2 = true ∧
        ld.digest ≠ Config.sha384 ((sliceB [] 0 ld.len).take (match ld.table.getLast? with | some x => x.off | none => 0))) := by
  refine ⟨⟨rfl, rfl, rfl, rfl⟩, rfl, rfl, rfl, ?_⟩
  intro h
  have := congrArg List.length h
  simp [load2] at this

/-- A sealed device. -/
def sealedDev (l : List (Fld × Nat)) : Dev := dv ((.cfg .STATUS_SEALED, 1) :: l)

/-- A sealed device with overlay 1 valid. -/
def ovlDev (l : List (Fld × Nat)) : Dev :=
  { sealedDev l with cfg := { ovls := [{ idx := 1, line := 0x1800, lines := 1, len := 64, digest := [1, 2, 3, 4] }] } }

theorem witness_OverlaySwitches :
    (Awake (st (dv [])) ∧ (dv []).confLapsed = false ∧ (dv []).armRefusal 0 = some 6 ∧ (dv []).rd (.cfg .OVL_STATUS_STATE) = 0) ∧
    (Awake (st (ovlDev [])) ∧ (ovlDev []).confLapsed = false ∧ (ovlDev []).armRefusal 1 = none ∧ (ovlDev []).touches 1 = false) ∧
    (let d := ovlDev [(.cfg (.OVL_INFO_SAFETY_TOUCH 0), 1)];
      Awake (st d) ∧ d.confLapsed = false ∧ d.armRefusal 1 = none ∧ d.touches 1 = true) ∧
    (let d := sealedDev [(.cfg .OVL_STATUS_STATE, 1)];
      Awake (st d) ∧ d.confLapsed = false ∧ d.rd (.cfg .OVL_STATUS_STATE) = 1 ∧ d.marks = []) ∧
    (let d := sealedDev [(.cfg .OVL_STATUS_STATE, 2), (.cfg .CONF_PENDING_PENDING, 1), (.cfg .CONF_TAG_TAG, 4294967295), (.cfg .CONF_PENDING_TO, 15)];
      Awake (st d) ∧ Confirms d 4294967295 15 ∧ d.rd (.cfg .OVL_STATUS_STATE) = 2 ∧ ¬ Confirms d 0 15) ∧
    (let d := sealedDev [(.cfg .OVL_STATUS_STATE, 1), (.cfg .CONF_PENDING_PENDING, 1)];
      Awake (st d) ∧ Confirms d 0 0 ∧ d.rd (.cfg .OVL_STATUS_STATE) ≠ 2) ∧
    (let d : Dev := { sealedDev [(.cfg .CONF_PENDING_PENDING, 1), (.cfg .CONF_CTRL_TIMEOUT, 1)] with cfg := { confTicks := 1 } };
      Awake (st d) ∧ d.confLapsed = true) ∧
    (let d := inTick 63 12 [2, 0, 0, 0] .running;
      Awake (st d) ∧ d.taskRuns 63 2 = true ∧ d.rd (.cfg .STATUS_SEALED) = 0 ∧ d.marks = [] ∧
        { d with regs := [(.cfg .STATUS_SEALED, 1)] }.taskRuns 63 2 = true ∧
        { d with regs := [(.cfg .STATUS_SEALED, 1)] }.rd (.cfg .STATUS_SEALED) = 1) := by
  unfold Awake Confirms; decide

/-! ### Field ports -/

/-- A device whose port 3 is enabled and up, with more register fields set. -/
def up (l : List (Fld × Nat)) : Dev := dv ((.mac (.PORT_CTRL_EN 3), 1) :: (.mac (.PORT_STATUS_LINK_UP 3), 1) :: l)

/-- A device with port 3 as given. -/
def withPort (d : Dev) (x : Port) : Dev := { d with ports := [{}, {}, {}, x] }

theorem witness_PortLinksAndMdio :
    (let d := dv [(.mac (.PORT_CTRL_MODE 3), 1), (.mac (.PORT_CTRL_AN_EN 3), 1)];
      Awake (st d) ∧ d.linkUp 3 = false ∧ d.portAsleep 3 = false ∧ d.rd (.mac (.PORT_CTRL_MODE 3)) = 1 ∧ d.autoneg 3 = true ∧
        QueuesEmpty d 3) ∧
    (let d := dv [(.mac (.PORT_CTRL_MODE 0), 2)];
      Awake (st d) ∧ d.linkUp 0 = false ∧ d.portAsleep 0 = false ∧ d.autoneg 0 = false) ∧
    (Awake (st (up [])) ∧ (up []).linkUp 3 = true ∧ (up []).portOn 3 = true ∧ QueuesEmpty (up []) 3) ∧
    (let d := withPort (dv []) { anTimer := true };
      Awake (st d) ∧ QueuesEmpty d 3 ∧ (d.port 3).anTimer = true) ∧
    (Awake (st (dv [])) ∧ (dv []).rd (.mac .MDIO_STATUS_BUSY) = 0) ∧
    (let d : Dev := { dv [(.mac .MDIO_STATUS_BUSY, 1)] with mdio := some ⟨true, 3, 31, 31, 0⟩ };
      Awake (st d) ∧ d.rd (.mac .MDIO_STATUS_BUSY) = 1 ∧ d.mdio = some ⟨true, 3, 31, 31, 0⟩) := by
  unfold Awake QueuesEmpty; decide

/-- A frame of 64 bytes, to the broadcast address, with its FCS. -/
def frame64 : List Byte :=
  let b : List Byte := List.replicate 6 0xFF ++ List.replicate 6 2 ++ [8, 0] ++ List.replicate 46 0
  b ++ leBytes 4 (crc32 b)

/-- A frame in staging. -/
def staged0 : Frame := { uid := 1, lines := [stagingLine 3 0], start := 0, len := 60, staged := true }

/-- A frame in the lane without a result. -/
def lane0 : LaneFrame := { uid := 1, bytes := frame64, good := true }

/-- A lookup result of outcome 3 whose ACTION is as given. -/
def res3 (action : Nat) : LookRes := { outcome := 3, result := action * 2 ^ 11 + 255, keyMeta := 0 }

/-- A device in a tick, port 3 up, a best-effort binding of class 255, a staged frame classified. -/
def classed (action : Nat) : Dev :=
  { withPort (up [(.eng (.BE_BIND_VALID 15), 1), (.eng (.BE_BIND_CLASS 15), 255)])
      { staged := [staged0], lane := [{ lane0 with res := some (res3 action) }] } with
    tick := { coreRun := true, coreTick := 9 } }

theorem witness_FramesReceived_rx :
    (let d := up [(.mac (.PORT_CTRL_BCAST_EN 3), 1)];
      (st d).held = false ∧ d.portOn 3 = true ∧ d.linkUp 3 = true ∧ (frame64.take 63).length < 64 ∧
        beAt (frame64.take 63) 12 2 ≠ 0x8808 ∧ d.daPasses 3 ((frame64.take 63).take 6) = true ∧ 63 ≤ d.rd (.mac (.FRAME_MAX_LEN 3)) ∧
        64 ≤ frame64.length ∧ beAt frame64 12 2 ≠ 0x8808 ∧ d.daPasses 3 (frame64.take 6) = true ∧
        (up [(.mac (.PORT_CTRL_BCAST_EN 3), 0)]).daPasses 3 (frame64.take 6) = false ∧
        frame64.length ≤ d.rd (.mac (.FRAME_MAX_LEN 3)) ∧ d.rd (.mac (.PORT_CTRL_FCS_BYPASS_RX 3)) = 0 ∧
        d.rd (.mac (.TAG_CTRL_STRIP 3)) = 0 ∧ d.rd (.tim (.PTP_PORT_EN 3)) = 0 ∧
        d.alloc (stagingLine 3 0) 256 ((frame64.length + 63) / 64) ≠ none) := by
  decide +kernel

theorem witness_FramesReceived_fcs :
    crc32 (frame64.take (frame64.length - 4)) = leAt frame64 (frame64.length - 4) 4 ∧
    crc32 ((frame64.map (· ^^^ 1)).take ((frame64.map (· ^^^ 1)).length - 4)) ≠
      leAt (frame64.map (· ^^^ 1)) ((frame64.map (· ^^^ 1)).length - 4) 4 := by
  decide +kernel

theorem witness_FramesReceived_lane :
    (let d := withPort (up []) { staged := [staged0] };
      d.portOn 3 = true ∧ d.linkUp 3 = true ∧ (d.port 3).staged = [staged0] ∧ staged0.staged = true ∧ d.marks = [] ∧ d.classq = [] ∧
        d.alloc (regionBase 1) 65536 ((128 + (d.frameBytes staged0).1.length + 63) / 64) ≠ none) ∧
    (let d := withPort (up [(.par (.PORT_CFG_PRIMARY 3), 0)]) { lane := [lane0] };
      (d.port 3).lane = [lane0] ∧ lane0.res = none ∧ lane0.good = true ∧ d.marks = [] ∧ d.rd (.par (.PORT_CFG_PRIMARY 3)) = 0 ∧
        (d.fixedKey 3 lane0.bytes (lane0.bytes.length - 4)).2 = false) ∧
    (let d := withPort (up [(.par (.PORT_CFG_PRIMARY 3), 0), (.par (.FX_WIN_WIDTH 3 15), 32), (.par (.FX_WIN_OFFSET 3 15), 57)])
        { lane := [lane0] };
      (d.fixedKey 3 lane0.bytes (lane0.bytes.length - 4)).2 = true) ∧
    (let d : Dev := { up [] with mem := cells (64 * fragLine 127 + 37) [0x80], tick := { coreTick := 2 ^ 31 } };
      d.fragValid 127 = true ∧ d.rd (.par .FRAG_CFG_AGE_TICKS) ≤ d.fragAge 127 ∧
        (up []).fragAge 0 < (up []).rd (.par .FRAG_CFG_AGE_TICKS)) ∧
    ((classed 0).served ((res3 0).result % 256) = true ∧ (classed 0).tick.coreRun = true ∧
      ((classed 0).port 3).staged.find? (fun x => x.uid = 1) = some staged0 ∧ (res3 0).failReason = 0 ∧ (res3 0).frag = none ∧
      (res3 0).outcome < 8 ∧ (res3 0).result.testBit 9 = false ∧ (res3 0).result / 2 ^ 11 % 4 = 0 ∧ (res3 1).result / 2 ^ 11 % 4 = 1) := by
  decide +kernel

theorem witness_PauseFrames :
    (let d := withPort (up [(.mac (.FC_CTRL_TX_MODE 3), 1), (.mac (.FC_CTRL_XOFF_LINES 3), 0), (.mac (.FC_CTRL_XON_LINES 3), 0),
        (.mac (.PFC_QMAP_Q 3 7), 7)]) { hold := List.replicate 8 (some 5) };
      (st d).held = false ∧ d.portOn 3 = true ∧ d.linkUp 3 = true ∧ d.rd (.mac (.PFC_QMAP_Q 3 7)) = 7 ∧
        (d.port 3).hold.getD 7 none = some 5 ∧ PauseReady d 3 ∧ (d.port 3).xoff = false ∧
        d.rd (.mac (.FC_CTRL_XOFF_LINES 3)) ≤ d.stagingUsed 3 ∧ d.rd (.mac (.FC_CTRL_XON_LINES 3)) ≤ d.stagingUsed 3) ∧
    (let d := withPort (up [(.mac (.FC_CTRL_TX_MODE 3), 1), (.mac (.FC_CTRL_XON_LINES 3), 1)]) { xoff := true };
      PauseReady d 3 ∧ (d.port 3).xoff = true ∧ d.stagingUsed 3 < d.rd (.mac (.FC_CTRL_XON_LINES 3))) := by
  unfold PauseReady; decide

/-- An entry of a transmit queue. -/
def ent0 : TxEnt := { handle := 5, frame := { uid := 1, lines := [regionBase 1, regionBase 1 + 1, regionBase 1 + 2], start := 128, len := 60 } }

theorem witness_FramesSent :
    (let d := withPort (up []) { txq := [[], [], [], [], [], [], [], [ent0]] };
      (st d).held = false ∧ (d.port 3).cur = none ∧ (d.port 3).pausePend = none ∧ d.eligible 3 7 = true ∧
        (∀ r : Fin 8, 7 < r → d.eligible 3 r = false) ∧ (d.port 3).txq.getD 7 [] = [ent0] ∧
        d.wireLen 3 ent0 ≤ d.rd (.mac (.FRAME_MAX_LEN 3)) ∧ d.marks = [] ∧ d.rd (.mac (.PORT_CTRL_FCS_BYPASS_TX 3)) = 0 ∧
        d.rd (.tim (.PTP_PORT_EN 3)) = 0) ∧
    (let d := withPort (up []) { cur := some { ent := ent0, queue := 7, bytes := [1] } };
      (d.port 3).cur = some { ent := ent0, queue := 7, bytes := [1] } ∧ Plain ent0 ∧ NoLines d 4) ∧
    (let d := dv [(.saf .STATE_STATE, 3)];
      3 ≤ d.rd (.saf .STATE_STATE) ∧ d.fence = false ∧
        (∀ o : Fin 4, ∀ r : Fin 8, d.txCmd o r = true → (d.port o).txq.getD r [] = []) ∧ (dv []).rd (.saf .STATE_STATE) < 3) ∧
    (let d := withPort (up []) { cancels := [5], txq := [[], [], [], [], [], [], [], [ent0]] };
      (d.port 3).cancels = [5] ∧ (d.port 3).txq.getD 7 [] = [ent0] ∧ ent0.handle = 5 ∧ Plain ent0 ∧ NoLines d 4 ∧
        (∀ r : Fin 8, r < 7 → (d.port 3).txq.getD r [] = [])) ∧
    (let d := withPort (up []) { cancels := [5], cur := some { ent := ent0, queue := 7, bytes := [1] } };
      (d.port 3).cancels = [5] ∧ QueuesEmpty d 3 ∧ (d.port 3).relq = [] ∧ (d.port 3).cur = some { ent := ent0, queue := 7, bytes := [1] }) ∧
    (let d := withPort (up []) { cancels := [5] };
      (d.port 3).cancels = [5] ∧ QueuesEmpty d 3 ∧ (d.port 3).relq = [] ∧ (d.port 3).cur = none) := by
  unfold Plain NoLines QueuesEmpty; decide

/-! ### Crypto -/

/-- A frame of `n` bytes in the first four lines of the frame buffer. -/
def buf4 (n : Nat) : Frame := { uid := 1, lines := [8192, 8193, 8194, 8195], start := 128, len := n }

/-- A job of SA 1023. -/
def job (n : Nat) (inbound esp : Bool) : CryJob := { frame := buf4 n, sa := 1023, inbound := inbound, ret := 255, esp := esp }

/-- A device whose pipeline 1 has a job at its head, with some bytes of SA 1023 and of the frame. -/
def cryDev (j : CryJob) (sa frame : List Nat) : Dev :=
  { dv [(.eng (.BE_BIND_VALID 15), 1), (.eng (.BE_BIND_CLASS 15), 255)] with
    mem := Mem.write (cells (64 * 8192 + 128) frame) (64 * saLine 1023 0) (sa.map (BitVec.ofNat 8))
    cry := { pipes := [{}, { queue := [j] }] } }

/-- An SA entry's first 45 bytes: its low byte, TYPE's bits among them, and its header length. -/
def saBytes (b tlen : Nat) : List Nat := [b, 0, 0, 0] ++ List.replicate 40 0 ++ [tlen]

theorem witness_OutboundTransforms :
    (let d := cryDev (job 20 false true) (saBytes 1 20) [0x45];
      (st d).held = false ∧ HeadJob d 1 (job 20 false true) [] ∧ saUsable (d.saRead 1023 2).1 false 0 = true ∧ 1023 ∉ d.cry.keyBad ∧
        saExhausted (d.saRead 1023 2).1 = false ∧ leAt (d.saRead 1023 2).1 16 8 ≠ saSeq (d.saRead 1023 2).1 + 1 ∧
        (((d.frameBytes (buf4 20)).1.getD 0 0).toNat / 16 = 4) ∧ ((d.saRead 1023 2).1.getD 44 0).toNat = 20) ∧
    (let d := cryDev (job 20 false true) [] [];
      HeadJob d 1 (job 20 false true) [] ∧ saUsable (d.saRead 1023 2).1 false 0 = false ∧ saUsable (d.saRead 1023 2).1 false 2 = false) ∧
    (let d := cryDev (job 20 false false) (saBytes 5 0) [];
      HeadJob d 1 (job 20 false false) [] ∧ saUsable (d.saRead 1023 2).1 false 2 = true ∧ 1023 ∉ d.cry.keyBad ∧
        saExhausted (d.saRead 1023 2).1 = false ∧ leAt (d.saRead 1023 2).1 16 8 ≠ saSeq (d.saRead 1023 2).1 + 1) ∧
    (let d : Dev := { cryDev (job 20 false false) [] [] with cry := { pipes := [{}, { done := some (job 20 false false) }] } };
      (d.pipe 1).done = some (job 20 false false) ∧ NoLines d 6 ∧ d.served 255 = true) := by
  unfold HeadJob NoLines; decide +kernel

/-- An ESP packet over IPv4 of 54 bytes, SPI 0, number 1. -/
def espPacket : List Nat := [0x45, 0, 0, 54, 0, 0, 0, 0, 0, 50] ++ List.replicate 17 0 ++ [1]

/-- A MACsec frame of 40 bytes without SCI, number 1. -/
def macsecFrame : List Nat := List.replicate 12 0 ++ [0x88, 0xE5, 12, 0, 0, 0, 0, 1]

theorem witness_InboundTransforms :
    (let d := cryDev (job 54 true true) (saBytes 3 0) espPacket;
      let e := (d.saRead 1023 4).1;
      let bs := (d.frameBytes (buf4 54)).1;
      (st d).held = false ∧ HeadJob d 1 (job 54 true true) [] ∧ saUsable e false 1 = true ∧ 1023 ∉ d.cry.keyBad ∧ saV6 e = false ∧
        saUdp e = false ∧ (bs.getD 0 0).toNat / 16 = 4 ∧ (bs.getD 0 0).toNat % 16 = 5 ∧ (bs.getD 9 0).toNat = 50 ∧
        beAt bs 20 4 = leAt e 4 4 ∧ 20 + 34 ≤ bs.length ∧ beAt bs 2 2 = bs.length ∧ saExt e = false ∧
        replayOk (beAt bs 24 4) (saSeq e) (saWindow e) (leAt e 128 128) = true) ∧
    (let d := cryDev (job 40 true false) (saBytes 7 0) macsecFrame;
      let e := (d.saRead 1023 4).1;
      let bs := (d.frameBytes (buf4 40)).1;
      HeadJob d 1 (job 40 true false) [] ∧ (bs.getD 14 0).toNat = 12 ∧ beAt bs 12 2 = 0x88E5 ∧
        12 + 8 + (bs.getD 15 0).toNat % 64 + 16 ≤ bs.length ∧ saUsable e false 3 = true ∧ saExt e = false ∧
        replayOk (beAt bs 16 4) (saSeq e) (saWindow e) (leAt e 128 128) = true) ∧
    (let d := cryDev (job 40 true false) [] [];
      HeadJob d 1 (job 40 true false) [] ∧ beAt (d.frameBytes (buf4 40)).1 12 2 ≠ 0x88E5 ∧
        saUsable (d.saRead 1023 4).1 false 1 = false ∧ saUsable (d.saRead 1023 4).1 false 3 = false) := by
  unfold HeadJob; decide +kernel

theorem witness_SaCommands :
    (Awake (st (dv [])) ∧ (dv []).cry.cmd = none ∧ saValid ((dv []).saPeek 1023) = false ∧ (dv []).marks = []) ∧
    (let d := cryDev (job 20 false true) (saBytes 1 20) [];
      Awake (st d) ∧ saValid (d.saPeek 1023) = true) ∧
    (∀ op, op = 1 ∨ op = 2 ∨ op = 3 →
      let d : Dev := { dv [] with cry := { cmd := some (op, 1023) } }
      Awake (st d) ∧ d.cry.cmd ≠ none ∧ d.cry.cmd = some (op, 1023) ∧ d.cry.pipes = [{}, {}] ∧ d.marks = []) := by
  unfold Awake
  refine ⟨by decide +kernel, by decide +kernel, ?_⟩
  rintro op (rfl | rfl | rfl) <;> decide

/-! ### Storage offload -/

/-- A device with the registers `l` and a connection 15 as given; class 255 is served. -/
def nvtDev (l : List (Fld × Nat)) (n : NvtConn) : Dev :=
  { dv ([(.nvt (.CONN_CFG_TX_CLASS 15), 255), (.eng (.BE_BIND_VALID 15), 1), (.eng (.BE_BIND_CLASS 15), 255)] ++ l) with
    nvt := { conns := List.replicate 15 {} ++ [n] } }

/-- The registers of a connection 15 that may open. -/
def openRegs : List (Fld × Nat) :=
  [(.nvt .CTRL_EN, 1), (.nvt (.CONN_CFG_SNDBUF 15), 16), (.nvt (.CONN_TCP_MSS 15), 536), (.nvt (.CONN_TCP_MAX_RETX 15), 1),
    (.nvt (.CONN_TCP_RTO_MIN 15), 10), (.nvt (.CONN_ICD_OPEN_TMO 15), 1)]

theorem witness_ConnectionsOpenAndClose :
    (let d := nvtDev openRegs {};
      Awake (st d) ∧ d.connState 15 = 0 ∧ d.openBad 15 = false ∧
        ∃ ls d1, d.alloc (regionBase 1) 65536 (d.rd (.nvt (.CONN_CFG_SNDBUF 15)) * 16) = some (ls, d1) ∧ CanSend d1 15) ∧
    (let d := nvtDev [] {};
      Awake (st d) ∧ d.connState 15 = 0 ∧ d.openBad 15 = true ∧ PduHead (nvtDev [] { rx := [3, 0, 24] ++ List.replicate 21 0 }) 15 3 24) ∧
    (let d := nvtDev [(.nvt (.CONN_STATE_STATE 15), 1)] { openAt := some 7 };
      Awake (st d) ∧ d.connState 15 ≠ 0 ∧ d.connState 15 ≠ 4 ∧ d.connState 15 = 1 ∧ (d.conn 15).openAt = some 7) ∧
    (let d := nvtDev [(.nvt (.CONN_STATE_STATE 15), 3)] { synAcked := true };
      d.connState 15 = 3 ∧ (d.conn 15).finSent = false ∧ (d.conn 15).synAcked = true ∧ d.connBusy 15 = false ∧
        (d.conn 15).bufEnd ≤ (d.conn 15).una ∧ (d.conn 15).out = [] ∧ CanSend d 15) ∧
    (let d := nvtDev [(.nvt (.CONN_STATE_STATE 15), 3)] { finAcked := true, peerFin := true };
      d.connState 15 = 3 ∧ (d.conn 15).finAcked = true ∧ (d.conn 15).peerFin = true) ∧
    (∀ k ∈ [0, 1],
      let d := nvtDev [(.nvt (.CONN_TCP_MAX_RETX 15), k)] { rtoAt := some 5 }
      (d.conn 15).rtoAt = some 5 ∧ d.marks = [] ∧ NoneDue d (max d.now 5) ∧
        (if k = 0 then d.rd (.nvt (.CONN_TCP_MAX_RETX 15)) ≤ (d.conn 15).retx else (d.conn 15).retx < d.rd (.nvt (.CONN_TCP_MAX_RETX 15)))) := by
  refine ⟨⟨by unfold Awake; decide, by decide +kernel, by decide +kernel, _, _, Dev.alloc_run _ _ 256 0 _ rfl (by decide), ?_⟩, by unfold Awake PduHead; decide +kernel,
    by unfold Awake; decide, by unfold CanSend; decide +kernel, by decide, by unfold NoneDue; decide +kernel⟩
  unfold CanSend; decide +kernel

/-- A received segment of `n` bytes in the first four lines of the frame buffer. -/
def rxSeg (n : Nat) : NvtRx := { frame := buf4 n, qp := 0, tag := 7 }

/-- The TCP packet over IPv4 of connection 15 with these flags and two bytes of data; its checksum field as given. -/
def tcpPacket (flags c0 c1 : Nat) : List Nat :=
  [0x45, 0, 0, 42, 0, 0, 0, 0, 0, 6] ++ List.replicate 10 0 ++ [0x11, 0x44] ++ List.replicate 10 0 ++ [0x50, flags, 0, 0, c0, c1, 0, 0, 0, 0]

/-- `nvtDev` with a received frame of these bytes. -/
def nvtRxDev (l : List (Fld × Nat)) (n : NvtConn) (bs : List Nat) : Dev :=
  { nvtDev l n with
    mem := cells (64 * 8192 + 128) bs, nvt := { conns := List.replicate 15 {} ++ [n], rx := [rxSeg bs.length] } }

/-- The TCP segment of a packet of `tcpPacket`. -/
def tcpSeg (flags c0 c1 : Nat) : List Byte := ((tcpPacket flags c0 c1).drop 20).map (BitVec.ofNat 8)

theorem witness_SegmentsReceived :
    (let d : Dev := { nvtRxDev [] {} [0] with marks := [(8194, { code := 1 })] };
      (st d).held = false ∧ d.nvt.rx = rxSeg 1 :: [] ∧ NoneDue d d.now ∧ (d.frameBytes (rxSeg 1).frame).2.1 = true) ∧
    (let d := nvtRxDev [] {} [0];
      d.nvt.rx = rxSeg 1 :: [] ∧ NoneDue d d.now ∧ d.marks = [] ∧ parseIp (d.frameBytes (rxSeg 1).frame).1 = none) ∧
    (let d := nvtRxDev [] {} (tcpPacket 0x10 0 0);
      d.nvt.rx = rxSeg 42 :: [] ∧ NoneDue d d.now ∧ d.marks = [] ∧
        parseIp (d.frameBytes (rxSeg 42).frame).1 = some (false, [0, 0, 0, 0], [0, 0, 0, 0], tcpSeg 0x10 0 0) ∧
        d.matchConn false [0, 0, 0, 0] [0, 0, 0, 0] (tcpSeg 0x10 0 0) = none) ∧
    (∀ q ∈ [0, 15],
      let d := nvtRxDev [(.nvt (.CONN_STATE_STATE 15), 2), (.nvt (.QP_CFG_CONN_A 0), q), (.nvt (.CONN_CFG_IO 15), 1)] {}
        (tcpPacket 0x10 0 0)
      parseIp (d.frameBytes (rxSeg 42).frame).1 = some (false, [0, 0, 0, 0], [0, 0, 0, 0], tcpSeg 0x10 0 0) ∧
        d.matchConn false [0, 0, 0, 0] [0, 0, 0, 0] (tcpSeg 0x10 0 0) = some 15 ∧
        (if q = 0 then d.ownConn 0 15 = false else d.ownConn 0 15 = true ∧ tcpChecksum [0, 0, 0, 0] [0, 0, 0, 0] (tcpSeg 0x10 0 0) ≠ 0)) ∧
    (∀ x ∈ [(4, 0x10, 0x9E, 0x8F), (2, 0x14, 0x9E, 0x8B), (2, 0x10, 0x9E, 0x8F)],
      let d := nvtRxDev [(.nvt (.CONN_STATE_STATE 15), x.1), (.nvt (.QP_CFG_CONN_A 0), 15)] { synAcked := true, iss := 2 ^ 32 - 1 }
        (tcpPacket x.2.1 x.2.2.1 x.2.2.2)
      Arrived d (rxSeg 42) [] 15 (tcpSeg x.2.1 x.2.2.1 x.2.2.2) ∧ d.connState 15 = x.1 ∧
        ((tcpSeg x.2.1 x.2.2.1 x.2.2.2).getD 13 0).toNat.testBit 2 = (x.2.1 == 0x14) ∧
        ((tcpSeg x.2.1 x.2.2.1 x.2.2.2).drop (((tcpSeg x.2.1 x.2.2.1 x.2.2.2).getD 12 0).toNat / 16 * 4)).length = 2 ∧
        beAt (tcpSeg x.2.1 x.2.2.1 x.2.2.2) 4 4 = (d.conn 15).rcv ∧ CanSend (d.dropFrame (rxSeg 42).frame) 15 ∧
        beAt (tcpSeg x.2.1 x.2.2.1 x.2.2.2) 8 4 = (d.conn 15).seqOf (d.conn 15).una ∧ (d.conn 15).out = [] ∧
        (d.conn 15).bufEnd = (d.conn 15).nxt) ∧
    (let d := nvtRxDev [(.nvt (.CONN_STATE_STATE 15), 2), (.nvt (.QP_CFG_CONN_A 0), 15)] { synAcked := true, rcv := 1 }
      (tcpPacket 0x10 0x9E 0x8F);
      Arrived d (rxSeg 42) [] 15 (tcpSeg 0x10 0x9E 0x8F) ∧ beAt (tcpSeg 0x10 0x9E 0x8F) 4 4 ≠ (d.conn 15).rcv) := by
  have a (d : Dev) (seg : List Byte) (h : d.nvt.rx = [rxSeg 42] ∧ d.marks = [] ∧ NoneDue d d.now ∧
      parseIp (d.frameBytes (rxSeg 42).frame).1 = some (false, [0, 0, 0, 0], [0, 0, 0, 0], seg) ∧
      d.matchConn false [0, 0, 0, 0] [0, 0, 0, 0] seg = some 15 ∧ d.ownConn 0 15 = true ∧
      tcpChecksum [0, 0, 0, 0] [0, 0, 0, 0] seg = 0) : Arrived d (rxSeg 42) [] 15 seg :=
    ⟨h.1, h.2.1, h.2.2.1, false, [0, 0, 0, 0], [0, 0, 0, 0], h.2.2.2⟩
  refine ⟨by unfold NoneDue; decide +kernel, by unfold NoneDue; decide +kernel, by unfold NoneDue; decide +kernel, by decide +kernel, ?_,
    a _ _ (by unfold NoneDue; decide +kernel), by decide +kernel⟩
  intro x hx
  exact ⟨a _ _ (by revert x; unfold NoneDue; decide +kernel), by revert x; unfold CanSend; decide +kernel⟩

/-- A command of queue pair 63 on ring 0 with legs on the connections `cs`. -/
def stCmd (cs : List Nat) : NvtCmd :=
  { ser := 1, ring := 0, qp := 63, f := 0, dir := 1, addr := 0, len := 24, sqeAddr := 0, legs := cs.map (fun c => { conn := c, cid := 0 }) }

/-- `nvtDev` with commands and quarantined identifiers. -/
def nvtCmdDev (l : List (Fld × Nat)) (n : NvtConn) (cmds : List NvtCmd) (quar : List (Nat × Nat)) : Dev :=
  { nvtDev l n with nvt := { conns := List.replicate 15 {} ++ [n], cmds := cmds, quar := quar } }

/-- The bytes of a PDU header. -/
def pdu (l : List Nat) : List Byte := l.map (BitVec.ofNat 8)

/-- Connection 15 without digests. -/
def noDigest : List (Fld × Nat) := [(.nvt (.CONN_CFG_HDGST 15), 0), (.nvt (.CONN_CFG_DDGST 15), 0)]

theorem witness_PdusReceived :
    (∀ v ∈ [0, 1],
      let d := nvtDev ((.nvt (.CONN_STATE_STATE 15), 1) :: noDigest) { rx := pdu ([1, 0, 128] ++ List.replicate 5 0 ++ [v] ++ List.replicate 119 0) }
      d.marks = [] ∧ d.connState 15 = 1 ∧ PduHead d 15 1 128 ∧ leAt (d.conn 15).rx 8 2 = v ∧ (d.conn 15).rx.getD 10 0 = 0 ∧
        ((d.conn 15).rx.getD 11 0).toNat = d.rd (.nvt (.CONN_CFG_HDGST 15)) + 2 * d.rd (.nvt (.CONN_CFG_DDGST 15))) ∧
    (let r2t : NvtConn := { rx := pdu ([9, 0, 24] ++ List.replicate 13 0 ++ [24] ++ List.replicate 7 0) };
      PduHead (nvtDev noDigest r2t) 15 9 24 ∧ NoneDue (nvtDev noDigest r2t) 0 ∧ (nvtDev noDigest r2t).quarantinedCid 15 0 = false ∧
      (nvtDev noDigest r2t).legOf 15 0 = none ∧
      ∀ dir ∈ [0, 1],
        let m : NvtCmd := { stCmd [15] with dir := dir, expiry := 9 }
        let d := nvtCmdDev noDigest r2t [m] []
        PduHead d 15 9 24 ∧ NoneDue d d.now ∧ d.quarantinedCid 15 0 = false ∧ d.legOf 15 0 = some (m, 0) ∧
          leAt r2t.rx 12 4 + leAt r2t.rx 16 4 ≤ m.len ∧ r2t.out = []) ∧
    (let x : NvtC2h := { cid := 0, off := 0, left := 3, success := false };
      let m : NvtCmd := { stCmd [15] with expiry := 9 };
      let d : Dev := { nvtCmdDev [(.cs 0 .CMD_BME, 1), (.dma (.VAT_QUOTA_LIMIT 0), 1), (.hep .LINK_STATUS_DL_UP, 1)]
        { rx := [1, 2], c2h := some x } [m] [] with
        hep := { perst := false } };
      (d.conn 15).c2h = some x ∧ NoneDue d d.now ∧ d.legOf 15 x.cid = some (m, 0) ∧ d.mayIssue 0 = true ∧ d.vatOk 0 1 = true) ∧
    (let resp : NvtConn := { rx := pdu ([5, 0, 24] ++ List.replicate 21 0) };
      let m : NvtCmd := { stCmd [15, 14] with expiry := 9 };
      PduHead (nvtCmdDev noDigest resp [] [(15, 0)]) 15 5 24 ∧ (nvtCmdDev noDigest resp [] [(15, 0)]).quarantinedCid 15 0 = true ∧
      (let d := nvtCmdDev noDigest resp [{ stCmd [15] with expiry := 9 }] [];
        PduHead d 15 5 24 ∧ NoneDue d d.now ∧ d.quarantinedCid 15 0 = false ∧ d.legOf 15 0 = some ({ stCmd [15] with expiry := 9 }, 0)) ∧
      (let d := nvtCmdDev noDigest resp [m] [];
        PduHead d 15 5 24 ∧ NoneDue d d.now ∧ d.quarantinedCid 15 0 = false ∧ d.legOf 15 0 = some (m, 0) ∧
          m.legs[1]? = some { conn := 14, cid := 0 })) := by
  unfold PduHead NoneDue
  refine ⟨by decide +kernel, ⟨by decide +kernel, by decide +kernel, by decide +kernel, by decide +kernel, by decide +kernel⟩, by decide +kernel,
    by decide +kernel, by decide +kernel, by decide +kernel, by decide +kernel⟩

/-- A fetched storage entry that writes to the controller, of a device whose ring 255 (ring 0 of function 0) runs and serves queue pair 63. -/
def stDev (l : List (Fld × Nat)) : Dev :=
  { nvtDev ([(.nvt (.QP_CFG_VALID 63), 1), (.nvt (.QP_CFG_CONN_A 63), 15), (.rng (.SQ_ASSIGN_VALID 255), 1), (.rng (.SQ_ASSIGN_KIND 255), 2),
      (.rng (.SQ_STATUS_STATE 255), 1)] ++ l) {} with
    sqs := List.replicate 255 {} ++ [{ ents := [{ ser := 1, idx := 0, cookie := 0, addr := 0, len := 8, arg := 1 }] }] }

theorem witness_StorageCommands :
    (∀ v ∈ [0, 1],
      let d := stDev [(.nvt (.CONN_STATE_STATE 15), v), (.nvt (.QP_CFG_MAX_OUT 63), 1)]
      (st d).held = false ∧ d.is (.nvt (.QP_CFG_VALID 63)) = true ∧ d.ringOfQp 63 = some 255 ∧ d.sqState 255 = 1 ∧
        (d.nextStorage 255).map (·.ser) = some 1 ∧ d.qpConns 63 = [15] ∧ d.connState 15 = v ∧ d.qpOut 63 < d.rd (.nvt (.QP_CFG_MAX_OUT 63))) ∧
    (let d := stDev [(.nvt (.CONN_STATE_STATE 15), 2), (.nvt (.QP_CFG_MAX_OUT 63), 1), (.nvt (.CONN_CFG_IO 15), 1)];
      d.ringOfQp 63 = some 255 ∧ d.sqState 255 = 1 ∧ (d.nextStorage 255).map (·.ser) = some 1 ∧ d.qpConns 63 = [15] ∧
        d.connState 15 = 2 ∧ (d.cids 15).length < 128 ∧ d.qpOut 63 < d.rd (.nvt (.QP_CFG_MAX_OUT 63)) ∧
        d.is (.nvt (.CONN_CFG_IO ((d.qpConns 63).headD 0))) = true) ∧
    (let d := nvtCmdDev [] {} [stCmd [15]] [];
      d.nvt.cmds = [stCmd [15]] ∧ (stCmd [15]).qp = 63 ∧ (stCmd [15]).legs = [{ conn := 15, cid := 0 }] ∧ (stCmd [15]).wrote = false) := by
  decide +kernel

/-! ### Rings -/

/-- Submission ring 255 (ring 9 of function 0) bound to completion ring 254 (ring 8), both of 4 entries; PF0 may issue requests. -/
def ringRegs : List (Fld × Nat) :=
  [(.rng (.SQ_ASSIGN_VALID 255), 1), (.rng (.SQ_ASSIGN_LOCAL 255), 9), (.rng (.SQ_ASSIGN_KIND 255), 1), (.rng (.SQ_CTRL_LOG2SIZE 255), 2),
    (.rng (.SQ_BIND_CQ 255), 8), (.rng (.CQ_ASSIGN_VALID 254), 1), (.rng (.CQ_ASSIGN_LOCAL 254), 8), (.rng (.CQ_CTRL_LOG2SIZE 254), 2),
    (.cs 0 .CMD_BME, 1), (.hep .LINK_STATUS_DL_UP, 1), (.dma (.VAT_QUOTA_LIMIT 0), 9), (.hep (.RDQ_MAX 0), 9)]

/-- A device with these rings and more registers. -/
def ringDev (l : List (Fld × Nat)) (q : Sq) : Dev := { dv (l ++ ringRegs) with sqs := List.replicate 255 {} ++ [q] }

theorem witness_Doorbells :
    (∀ x ∈ [(1, 0x01090000), (2, 0x00070000), (3, 0x00090000)],
      Awake (st (ringDev [] {})) ∧ sqReason (ringDev [] {}) (0 : Fin 50) x.2 = x.1) ∧
    (∀ x ∈ [(4, 0x00090004), (5, 0x00090002), (0, 0x00090001)],
      let d := ringDev [(.rng (.SQ_STATUS_STATE 255), 1), (.rng (.SQ_INDEX_HEAD 255), 2), (.rng (.SQ_INDEX_TAIL 255), 0)] {}
      Awake (st d) ∧ sqReason d (0 : Fin 50) x.2 = x.1 ∧ d.sqOf 0 (x.2 / 2 ^ 16 % 256) = some 255 ∧ d.safeRing 255 = false) ∧
    (∀ x ∈ [(1, 0x01080000), (2, 0x00070000), (3, 0x00080000)], cqReason (ringDev [] {}) (0 : Fin 50) x.2 = x.1) ∧
    (∀ x ∈ [(4, 0x00080004), (6, 0x00080001), (0, 0x00080003)],
      let d := ringDev [(.rng (.CQ_CTRL_EN 254), 1), (.rng (.CQ_INDEX_HEAD 254), 2), (.rng (.CQ_INDEX_TAIL 254), 0)] {}
      Awake (st d) ∧ cqReason d (0 : Fin 50) x.2 = x.1 ∧ d.cqOf 0 (x.2 / 2 ^ 16 % 256) = some 254 ∧
        ∀ n : Fin 256, d.sqCq n = some 254 → d.sqState n ≠ 2 ∧ d.safeRing n = false) := by
  unfold Awake; refine ⟨by decide +kernel, by decide +kernel, by decide +kernel, by decide +kernel⟩

theorem witness_RingsEnabledAndDisabled :
    (let d := ringDev [(.rng (.CQ_CTRL_EN 254), 1)] {};
      Awake (st d) ∧ d.rd (.rng (.SQ_CTRL_EN 255)) = 0 ∧ d.sqState 255 = 0 ∧ d.rd (.rng (.SQ_ASSIGN_VALID 255)) ≠ 0 ∧
        d.sqCq 255 = some 254 ∧ d.rd (.rng (.CQ_CTRL_EN 254)) ≠ 0 ∧
        ∀ m : Fin 256, d.sqCq m = some 254 → d.rd (.rng (.SQ_ASSIGN_VALID m)) ≠ 0 → d.sqState m = 0) ∧
    (Awake (st (dv [])) ∧ (dv []).rd (.rng (.SQ_CTRL_EN 255)) = 0 ∧ (dv []).rd (.rng (.SQ_ASSIGN_VALID 255)) = 0 ∧
      (dv []).rd (.rng (.CQ_CTRL_EN 255)) = 0 ∧ (dv []).rd (.rng (.CQ_ASSIGN_VALID 255)) = 0 ∧
      (ringDev [] {}).rd (.rng (.CQ_ASSIGN_VALID 254)) ≠ 0) ∧
    (∀ x ∈ [(1, 0), (1, 1), (3, 1)],
      let d := ringDev [(.rng (.SQ_CTRL_EN 255), 1), (.rng (.CQ_CTRL_EN 254), 1), (.rng (.SQ_STATUS_STATE 255), x.1),
        (.rng (.SQ_INDEX_TAIL 255), x.2)] {}
      Awake (st d) ∧ d.rd (.rng (.SQ_CTRL_EN 255)) ≠ 0 ∧ d.sqSealed 255 = false ∧ (d.sq 255).ents = [] ∧ d.fetching 255 = 0 ∧
        d.sqState 255 = x.1 ∧ d.sqCq 255 = some 254 ∧ d.rd (.rng (.SQ_ASSIGN_VALID 255)) ≠ 0 ∧ d.sqState 255 ≠ 0) ∧
    (let d := ringDev [(.rng (.SQ_CTRL_EN 255), 1), (.rng (.SQ_ASSIGN_FUNC 255), 1)] {};
      Awake (st d) ∧ d.sqSealed 255 = true ∧ d.d2 = false) := by
  unfold Awake; refine ⟨by decide +kernel, by decide +kernel, by decide +kernel, by decide +kernel⟩

/-- A fetched receive entry. -/
def rxEnt : SqEnt := { ser := 1, idx := 0, cookie := 0, addr := 0x1000, len := 64 }

theorem witness_RingsAtWork :
    (let d := ringDev [(.rng (.SQ_STATUS_STATE 255), 1), (.rng (.SQ_INDEX_TAIL 255), 3)] {};
      (st d).held = false ∧ d.rd (.rng (.SQ_ASSIGN_VALID 255)) ≠ 0 ∧ d.sqState 255 = 1 ∧ d.fetching 255 = 0 ∧
        d.mayIssue (d.sqFunc 255) = true ∧ d.sqTch 255 = none ∧ d.safeRing 255 = false ∧ d.fetchCount 255 ≠ 0 ∧
        (d.freeTags (d.sqFunc 255) 1).head? = some 0 ∧ d.hep.tags.length < 512 ∧
        (d.hep.tags.filter (fun g => g.f = d.sqFunc 255)).length < d.rd (.hep (.RDQ_MAX (d.sqFunc 255))) ∧
        d.vatOk (d.sqFunc 255) (linesIn (d.rd (.rng (.SQ_BASE_ADDR 255)) * 64 + 32 * 0) (32 * d.fetchCount 255)) = true) ∧
    (let d := ringDev [(.rng (.SQ_STATUS_STATE 255), 1)] { ents := [rxEnt], held := [{ lines := [5], len := 60 }] };
      (d.sq 255).held = { lines := [5], len := 60 } :: [] ∧ d.sqKind 255 = 1 ∧ d.sqState 255 = 1 ∧ d.mayIssue (d.sqFunc 255) = true ∧
        d.sqTch 255 = none ∧ 60 ≤ ((d.sq 255).ents.filter (fun e => e.fin.isNone)).foldl (fun k e => k + e.len) 0 ∧
        (d.sq 255).ents = [rxEnt] ∧ d.marks = [] ∧ d.sqSealed 255 = false ∧ rxEnt.live = false ∧ rxEnt.fin = none ∧ d.cmdOf 1 = none) ∧
    (let d := ringDev [(.rng (.SQ_STATUS_STATE 255), 1), (.rng (.SQ_ASSIGN_FUNC 255), 1)] {};
      Awake (st d) ∧ d.sqSealed 255 = true ∧ d.d2 = false) ∧
    (let d := ringDev [(.rng (.SQ_STATUS_STATE 255), 1)] {};
      Awake (st d) ∧ d.sqSealed 255 = false ∧ d.sqState 255 = 1 ∧ (d.sq 255).ents = [] ∧ d.sqKind 255 = 1 ∧
        d.rd (.rng (.SQ_INDEX_HEAD 255)) = d.rd (.rng (.SQ_INDEX_TAIL 255))) ∧
    (let d := ringDev [(.rng (.SQ_STATUS_STATE 255), 2)] {};
      d.sqState 255 = 2 ∧ (d.sq 255).ents = [] ∧ d.rd (.rng (.SQ_INDEX_HEAD 255)) = d.rd (.rng (.SQ_INDEX_TAIL 255)) ∧
        ∀ e ∈ d.due, e.sq ≠ 255) ∧
    (let d := ringDev [(.rng (.SQ_STATUS_STATE 255), 1), (.rng (.SQ_ASSIGN_FUNC 255), 1), (.rng (.SQ_ASSIGN_KIND 255), 0),
        (.saf .STATE_STATE, 3)] { ents := [rxEnt] };
      d.safeState = true ∧ d.safeCore = false ∧ d.sqFunc 255 = 1 ∧ d.sqKind 255 = 0 ∧ d.sqState 255 = 1 ∧
        d.rd (.rng (.SQ_ASSIGN_VALID 255)) ≠ 0) ∧
    (let d := dv [(.saf .STATE_STATE, 3)];
      d.safeState = true ∧ d.safeCore = false ∧ (∀ m : Fin 256, d.sqFunc m ≠ 1) ∧ d.rd (.cfg .OVL_STATUS_STATE) = 0) := by
  unfold Awake
  refine ⟨by decide +kernel, by decide +kernel, by decide +kernel, by decide +kernel, by decide +kernel, by decide +kernel, by decide +kernel⟩

/-! ### DMA -/

/-- A device that may read for PF0, linked-list channel 95 in a state with a transfer. -/
def llDev (l : List (Fld × Nat)) (state : Nat) (x : Option Xfer) : Dev :=
  { dv ([(.dma (.LL_STATUS_STATE 95), state), (.cs 0 .CMD_BME, 1), (.hep .LINK_STATUS_DL_UP, 1), (.dma (.VAT_QUOTA_LIMIT 0), 9),
      (.hep (.RDQ_MAX 0), 9), (.dma .CTRL_EN, 1)] ++ l) with
    dma := { ll := List.replicate 95 {} ++ [{ x := x }] } }

/-- A transfer of 8 bytes, whose control bits are `w5`. -/
def xf (w5 : Nat) (moved : Nat := 0) : Xfer := { desc := { src := 0, dst := 0x1000, word4 := 8, word5 := w5 }, moved := moved }

theorem witness_LinkedListChannels :
    (∀ x : Fin 5, Awake (st (llDev [] x none)) ∧ (llDev [] x none).llState 95 = x) ∧
    ((llDev [] 3 none).llState 95 = 3 ∧ ((llDev [] 3 none).ll 95).reading = false ∧ ((llDev [] 3 none).ll 95).x = none) ∧
    (∀ x ∈ [(0, 3), (1, 3), (0, 1), (1, 1)],
      let v := if x.2 = 3 then xf 0 else xf 0x30000 8
      let d := llDev [(.dma (.LL_CUR_ADDR 95), x.1)] x.2 (some v)
      (d.ll 95).x = some v ∧ d.marks = [] ∧ d.llMayWrite 95 = true ∧ d.llState 95 = x.2 ∧ (d.ll 95).reading = false ∧ v.bursts = [] ∧
        v.flushAsked = false ∧ v.over = (x.2 == 1) ∧ v.bad = none) := by
  unfold Awake; decide +kernel

theorem witness_RequestLinesAndTickChannels :
    (∀ k ∈ [0, 1, 2],
      let d := dv [(.dma (.REQ_MAP_KIND 63), k), (.dma (.REQ_MAP_ARG 63), 1)]
      Awake (st d) ∧ d.rd (.dma (.REQ_MAP_KIND 63)) = k ∧ d.rd (.dma (.REQ_MAP_ARG 63)) ≠ 0) ∧
    (∀ k ∈ [0, 1], (dv [(.dma (.TCH_CFG_SRC 31), k)]).rd (.dma (.TCH_CFG_SRC 31)) = k) ∧
    (∀ k ∈ [0, 1],
      let d := dv [(.dma (.TCH_SHCTRL_SWAP_REQ 31), k), (.dma (.TCH_CFG_SWAP_LINE 31), 63), (.dma (.TCH_CFG_SWAP_LINE_EN 31), 1),
        (.dma (.REQ_MAP_PENDING 63), 2), (.dma (.TCH_SHCTRL_SHADOW_VALID 31), 1)]
      (st d).held = false ∧ d.rd (.dma (.TCH_CFG_SWAP_LINE 31)) = 63 ∧ d.rd (.dma (.TCH_SHCTRL_SWAP_REQ 31)) = k ∧
        d.rd (.dma (.TCH_CFG_MODE 31)) = 0 ∧ (d.tch 31).x = none ∧ d.rd (.dma (.TCH_CFG_SWAP_LINE_EN 31)) ≠ 0 ∧
        d.rd (.dma (.REQ_MAP_PENDING 63)) ≠ 0 ∧ d.rd (.dma (.TCH_CFG_SRC 31)) = 0 ∧ d.rd (.dma (.TCH_SHCTRL_SHADOW_VALID 31)) ≠ 0 ∧
        d.tchRunning 31 = false) ∧
    (let d := inTick 63 10 [31, 0, 0, 0] .running;
      d.tchOcc 31 = some 63 ∧ d.rd (.dma (.TCH_CFG_MODE 31)) = 0 ∧ (d.tch 31).x = none ∧ (d.tch 31).failed = false ∧
        d.rd (.hep .CTN_STATUS_STATE) = 0) := by
  unfold Awake; decide +kernel

theorem witness_DmaRequests :
    (∀ x ∈ [none, some (xf 0x10), some (xf 0x11)],
      let d := llDev [] 1 x
      (st d).held = false ∧ Alone d 95 ∧ d.rd (.dma .CTRL_EN) ≠ 0 ∧ d.llState 95 = 1 ∧ (d.ll 95).x = x ∧ (d.ll 95).reading = false ∧
        d.llCur 95 = (false, 0) ∧ CanRead d (d.chF 95) 0 32 0 ∧ CanRead d (d.chF 95) 0 8 0 ∧ d.marks = [] ∧
        (∀ v, x = some v → v.bad = none ∧ v.desc.paced = false ∧ v.nextLen = 8 ∧ v.issued < v.desc.len ∧ v.bursts.length < 4 ∧
          v.waiting = [] ∧ v.desc.srcSp ≤ 1 ∧ v.desc.dstSp = 0 ∧ 8 ≤ d.mrrs (d.chF 95) - (v.desc.src + v.issued) % d.mrrs (d.chF 95))) ∧
    (∀ k ∈ [1, 2],
      let v := xf (k * 0x4000) 8
      let d := llDev [] 1 (some v)
      Alone d 95 ∧ (d.ll 95).x = some v ∧ v.bad = none ∧ v.moved = v.desc.len ∧ v.bursts = [] ∧ v.flushAsked = false ∧ v.desc.dstSp = 0 ∧
        v.desc.flush = k ∧ CanRead d (d.chF 95) (0x1007 / 4 * 4) 1 0 ∧ CanRead d (d.chF 95) (0x1007 / 64 * 64) 64 0) := by
  unfold Alone CanRead
  refine ⟨?_, by decide +kernel⟩
  intro x hx
  refine ⟨rfl, ?_, ?_, ?_, ?_, ?_, ?_, ?_, ?_, rfl, ?_⟩ <;> revert x <;> decide +kernel

/-- A flush read of channel 95 for function 49 with tag 511, in a state. -/
def flushTag (state : TagState) : Tag :=
  { tag := 511, f := 49, client := .flush 95, addr := 0x1038, len := 8, lines := [7, 9], st := state, expiry := 1 }

/-- A device with this tag in use. -/
def tagDev (state : TagState) : Dev :=
  { llDev [] 1 (some (xf 0x4000 8)) with hep := { tags := [flushTag state] } }

theorem witness_CompletionsReceived :
    (∀ x ∈ [TagState.out, .timed, .writtenOff, .malformed],
      let d := tagDev x
      (st d).held = false ∧ d.rd (.hep .LINK_STATUS_DL_UP) ≠ 0 ∧ LinkQuiet d ∧ InUse d (flushTag x) 49 ∧
        d.hep.tags.find? (fun t => t.tag = 510 && t.f = 49) = none ∧ (d.ll 95).x = some (xf 0x4000 8) ∧ d.marks = [] ∧
        (flushTag x).lines.Nodup ∧ (flushTag x).addr % 64 + (flushTag x).len ≤ 64 * (flushTag x).lines.length ∧
        (flushTag x).client = .flush 95) ∧
    ((8 : Nat) = (flushTag .out).len - (flushTag .out).got ∧ (0x38 : Nat) = ((flushTag .out).addr + (flushTag .out).got) % 128) := by
  unfold LinkQuiet InUse; decide +kernel

/-! ### The host link -/

theorem witness_HostLinkUpAndDown :
    (let d : Dev := { dv [] with hep := { perst := false } };
      (st d).held = false ∧ d.boot.stage = 2 ∧ d.hep.perst = false ∧ d.rd (.hep .LINK_STATUS_DL_UP) = 0) ∧
    (∀ x ∈ [true, false],
      let d : Dev := { dv [(.hep .LINK_STATUS_DL_UP, 1), (.cs 0 .LC_ASPM, 2), (.pwr .STATUS_STATE, 1), (.cs 0 .DC2_LTR, 1)] with
        hep := { hotReset := x, ltrAt := some 9 } }
      (st d).held = false ∧ d.rd (.hep .LINK_STATUS_DL_UP) ≠ 0 ∧ d.hep.tags = [] ∧ d.rd (.cs 0 .SRIOV_VFE) = 0 ∧ d.hep.hotReset = x ∧
        d.hep.turnOff = false ∧ d.hep.l1 = false ∧ (d.rd (.cs 0 .LC_ASPM)).testBit 1 = true ∧ d.rd (.pwr .STATUS_STATE) ≠ 0 ∧
        d.rd (.cs 0 .DC2_LTR) ≠ 0 ∧ d.hep.ltrSent ≠ some d.ltrNow ∧ d.hep.ltrAt = some 9) := by
  decide +kernel

theorem witness_FunctionsAndTheirResets :
    (∀ k ∈ [0, 1],
      let d := dv [(.cs 0 .SRIOV_VFE, k), (.cs 0 .SRIOV_NUMVFS, 48), (.rng (.SQ_ASSIGN_VALID 255), 1), (.rng (.SQ_ASSIGN_FUNC 255), 49),
        (.dma (.LL_CFG_FUNC 95), 49)]
      Awake (st d) ∧ d.rd (.cs 0 .SRIOV_VFE) = k ∧ 47 < d.rd (.cs 0 .SRIOV_NUMVFS) ∧ d.fnExists 49 = (k == 1) ∧
        d.rd (.rng (.SQ_ASSIGN_VALID 255)) ≠ 0 ∧ d.sqFunc 255 = 49 ∧ d.rd (.dma (.LL_CFG_FUNC 95)) = 49) ∧
    (∀ k ∈ [1, 2], Awake (st (dv [(.saf .STATE_STATE, k)])) ∧ (dv [(.saf .STATE_STATE, k)]).armed = (k == 2)) := by
  unfold Awake; decide +kernel

/-- A device of 48 VFs with a request of function `f` for vector `v` in flight. -/
def irqDev (l : List (Fld × Nat)) (f v : Nat) : Dev :=
  { dv ([(.cs 0 .SRIOV_VFE, 1), (.cs 0 .SRIOV_NUMVFS, 48)] ++ l) with irqs := [(f, v)] }

theorem witness_Interrupts :
    ((st (irqDev [] 1 63)).held = false ∧ (irqDev [] 1 63).irqs = (1, 63) :: [] ∧
      ({ dv [] with irqs := [(49, 3)] } : Dev).fnExists 49 = false ∧ (irqDev [] 49 4).fnExists 49 = true ∧
      (irqDev [] 0 63).rd (.cs 0 .MSIX_EN) = 0) ∧
    (∀ x ∈ [(49, 3), (0, 63)],
      let d := irqDev [(.cs x.1 .MSIX_EN, 1), (.msix x.1 x.2 3, 1)] x.1 x.2
      let e := irqDev [(.cs x.1 .MSIX_EN, 1), (.cs x.1 .CMD_BME, 1), (.msix x.1 x.2 3, 0)] x.1 x.2
      d.irqs = [x] ∧ d.fnExists x.1 = true ∧ x.1 ≠ 1 ∧ (2 ≤ x.1 → x.2 < 4) ∧ (x.1 = 0 → d.rd (.cs 0 .MSIX_EN) ≠ 0) ∧
        d.vecBlocked x.1 x.2 = true ∧ (x.1 = 0 → e.rd (.cs 0 .MSIX_EN) ≠ 0) ∧ e.vecBlocked x.1 x.2 = false ∧
        (e.rd (.pba x.1)).testBit x.2 = false) ∧
    (let d := irqDev [(.cs 49 .MSIX_EN, 1), (.cs 49 .CMD_BME, 1), (.msix 49 3 3, 0), (.pba 49, 8)] 0 0;
      (d.rd (.pba 49)).testBit 3 = true ∧ d.vecBlocked 49 3 = false) ∧
    (let d := dv [(.hep .LINK_STATUS_DL_UP, 1), (.hep .PF1_IPEND_RING, 1)];
      d.rd (.hep .LINK_STATUS_DL_UP) ≠ 0 ∧ d.frozen = false ∧ d.sent 1 ≠ d.wireLevel 1 ∧ d.sent 0 = d.wireLevel 0) := by
  decide +kernel

theorem witness_HostLinkErrors :
    ((st (dv [])).held = false ∧ (dv []).memClosed 49 = true ∧
      (dv [(.cs 0 .CMD_MSE, 1)]).memClosed 0 = false) ∧
    (let d : Dev := { llDev [] 1 (some (xf 0x4000 8)) with hep := { tags := [flushTag .out] } };
      (st d).held = false ∧ d.hep.tags = [flushTag .out] ∧ (flushTag .out).st = .out ∧ (flushTag .out).client = .flush 95 ∧
        (d.ll 95).x = some (xf 0x4000 8) ∧ (xf 0x4000 8).bad = none ∧ ∀ rp : Fin 2, (d.rp rp).inb = []) := by
  decide +kernel

theorem witness_Containment :
    (∀ k ∈ [0, 1, 2], Awake (st (dv [(.hep .CTN_STATUS_STATE, k)])) ∧ (dv [(.hep .CTN_STATUS_STATE, k)]).frozen = (k == 1)) ∧
    (let d := dv [(.hep .CTN_STATUS_STATE, 1), (.hep .CTN_STATUS_SEQ, 7), (.hep .LINK_STATUS_DL_UP, 1)];
      Awake (st d) ∧ d.rd (.hep .CTN_STATUS_STATE) = 1 ∧ 7 = d.rd (.hep .CTN_STATUS_SEQ) ∧ d.rd (.hep .LINK_STATUS_DL_UP) ≠ 0 ∧
        (d.rd (.hep .CTN_CTRL_TRIG_QUAR) = 0 ∨ d.quarantined < d.rd (.hep .CTN_CTRL_QUAR_LIMIT)) ∧ d.due = [] ∧
        ∀ n : Fin 256, (d.sq n).lag = false) ∧
    (dv [(.hep .CTN_STATUS_STATE, 2)]).rd (.hep .CTN_STATUS_STATE) = 2 := by
  unfold Awake; decide +kernel

/-! ### The modem bridge -/

/-- A device whose root port 1 is as given. -/
def rpDev (l : List (Fld × Nat)) (r : Rp) : Dev := { dv l with rps := [{}, r] }

theorem witness_RootPortLinks :
    (∀ b ∈ [true, false],
      let r : Rp := { perstPend := b, perstN := true, dlUp := !b }
      let d := rpDev [(.brg (.RP_CTRL_MAX_SPEED 1), 3), (.brg (.RP_CTRL_PERST 1), 1), (.brg (.RP_STATUS_STATE 1), 2)] r
      Awake (st d) ∧ d.apWait = [] ∧ r = d.rp 1 ∧ r.perstPend = b ∧ r.perstN = true ∧ r.dlUp = !b ∧ (3 : Nat) ≤ d.rd (.brg (.RP_CTRL_MAX_SPEED 1)) ∧
        d.rd (.brg (.RP_CTRL_PERST 1)) ≠ 0 ∧ (rpDev [(.brg (.RP_CTRL_PERST 1), 0)] r).rd (.brg (.RP_CTRL_PERST 1)) = 0 ∧ r.tags = []) := by
  unfold Awake; decide +kernel

theorem witness_RootPortContainmentAndKeepalive :
    (let d := rpDev [] { ctnPend := true };
      Awake (st d) ∧ (d.rp 1).ctnPend = true ∧ d.apWait = [] ∧ d.rpState 1 ≠ 3) ∧
    (let d := rpDev [(.brg (.RP_STATUS_STATE 1), 3), (.brg (.RP_CTN_STATUS_SEQ 1), 9)] {};
      Awake (st d) ∧ d.rpState 1 = 3 ∧ (9 : BitVec 16).toNat = d.rd (.brg (.RP_CTN_STATUS_SEQ 1)) ∧ (d.rp 1).dlUp = false) ∧
    (∀ k ∈ [4, 5],
      let d : Dev := { rpDev [(.brg (.KA_LIMIT_LIMIT 1), 5)] {} with tick := { fabTick := k } }
      d.rd (.brg (.KA_LIMIT_LIMIT 1)) = 5 ∧ d.rd (.brg (.KA_STATUS_PATH_DEAD 1)) = 0 ∧ d.tick.fabTick - (d.rp 1).kaLast = k) := by
  unfold Awake; decide +kernel

/-- Root port 1 up. -/
def upRp : Rp := { perstN := true, dlUp := true, fabUp := true }

/-- Window 7 of root port 1 enabled, of 8 KiB, PLAIN. -/
def winRegs : List (Fld × Nat) := [(.brg (.WIN_CTRL_EN 1 7), 1), (.brg (.WIN_CTRL_LOG2SIZE 1 7), 13), (.brg (.WIN_BASE_ADDR 1 7), 3)]

theorem witness_ModemAccesses :
    (∀ k ∈ [0, 1],
      let d := rpDev [(.brg (.RP_STATUS_CFG_BUSY 1), k)] upRp
      Awake (st d) ∧ d.rd (.brg (.RP_STATUS_CFG_BUSY 1)) = k ∧ d.apWait = [] ∧ d.rpUp 1 = true ∧ d.rpTag 1 = some 0) ∧
    (∀ k ∈ [0, 1],
      let d := rpDev ((.hep .CTN_STATUS_STATE, k) :: winRegs) upRp
      Awake (st d) ∧ d.apWait = [] ∧ d.frozen = (k == 1) ∧ ApInside d 1 7 8184 8 ∧ ¬ ApInside d 1 6 8184 8 ∧ RpUp d 1 ∧ d.winAttr 1 7 = 0 ∧
        (d.rp 1).pf = [] ∧ d.rpTag 1 = some 0 ∧ 8184 % 4096 + 8 ≤ 4096 ∧ 8184 % 8 = 0 ∧ (rpDev winRegs {}).rpUp 1 = false ∧
        ApInside (rpDev winRegs {}) 1 7 8184 8) ∧
    (∀ c ∈ [RpClient.cfgRead, .cfgWrite],
      let g : RpTag := { tag := 31, client := c, win := 0, off := 0, len := 4, wantOff := 0, wantLen := 4, expiry := 1 }
      let d := rpDev [] { upRp with tags := [g] }
      (d.rp 1).dlUp = true ∧ RpQuiet d 1 ∧
        (d.rp 1).tags.find? (fun g => !g.quarantined && (g.client = .cfgRead || g.client = .cfgWrite)) = some g ∧ g.client = c) := by
  unfold Awake ApInside RpUp RpQuiet; decide +kernel

/-- An aperture read of 8 bytes with tag 31 of root port 1. -/
def apTag (q : Bool) : RpTag :=
  { tag := 31, client := .aperture, win := 7, off := 16, len := 8, wantOff := 16, wantLen := 8, expiry := 1, quarantined := q }

theorem witness_DownstreamReadsEnd :
    (∀ q ∈ [true, false],
      let d := rpDev winRegs { upRp with tags := [apTag q] }
      (st d).held = false ∧ (d.rp 1).dlUp = true ∧ RpQuiet d 1 ∧ (d.rp 1).tags.find? (fun x => x.tag = 31) = some (apTag q) ∧
        (apTag q).quarantined = q ∧ (apTag q).client = .aperture ∧ 8 = (apTag q).len - (apTag q).got.length ∧ (apTag q).got = [] ∧
        (apTag q).wantOff = (apTag q).off ∧ (apTag q).wantLen = (apTag q).len ∧ d.winAttr 1 (apTag q).win ≠ 3 ∧ (d.rp 1).tags = [apTag q]) ∧
    (let x : PfLine := { win := 7, off := 0, bytes := [], poison := false, filledAt := 5 };
      ((rpDev [] { upRp with pf := [x] }).rp 1).pf = [x]) := by
  unfold RpQuiet; decide +kernel

theorem witness_ModemTraffic :
    (let e : BrgEnt := { frame := { uid := 1, lines := [8192], start := 0, len := 60 }, addr := 0x1000, f := 0, bell := some 0x2FFC };
      let d := rpDev [(.dma (.VAT_QUOTA_LIMIT 0), 9)] { upRp with queue := [e] };
      (st d).held = false ∧ (d.rp 1).queue = e :: [] ∧ RpUp d 1 ∧ d.marks = [] ∧
        d.vatOk e.f (linesIn (e.frame.start % 64) e.frame.len) = true ∧ ∀ a, e.bell = some a → a % 4096 ≤ 4092) ∧
    (∀ k ∈ [0, 1],
      let d : Dev := rpDev [(.brg (.INB_CTRL_EN 1 3), 1), (.brg (.INB_CTRL_KIND 1 3), k), (.brg (.INB_CTRL_LOG2SIZE 1 3), 12),
        (.brg (.INB_BASE_ADDR 1 3), 1), (.cs 0 .CMD_BME, 1), (.hep .LINK_STATUS_DL_UP, 1), (.dma (.VAT_QUOTA_LIMIT 0), 9), (.hep (.RDQ_MAX 0), 9)] upRp
      (d.rp 1).dlUp = true ∧ (d.rpState 1 = 3 → (d.rp 1).ctnPend = true) ∧ d.inbWindow 1 0 4 = none ∧ d.inbWindow 1 0x1FF8 4 = some 3 ∧
        d.inbWindow 1 0x1FF8 8 = some 3 ∧ d.rd (.brg (.INB_CTRL_KIND 1 3)) = k ∧ d.rd (.brg (.INB_CTRL_FUNC 1 3)) = 0 ∧ (d.rp 1).inb = [] ∧
        d.mayIssue 0 = true ∧ d.vatOk 0 (linesIn 0xFF8 8) = true ∧ 8 ≤ d.mrrs 0 - 0xFF8 % d.mrrs 0 ∧ CanRead d 0 0xFF8 8 0) := by
  unfold RpUp CanRead
  refine ⟨?_, by decide +kernel⟩
  refine ⟨by decide +kernel, by decide +kernel, by decide +kernel, by decide +kernel, by decide +kernel, ?_⟩
  rintro a ⟨⟩; decide

/-! ### The timebase -/

/-- A device at timebase 10 s. -/
def tbDev (l : List (Fld × Nat)) (t : Tim := {}) : Dev := { dv l with now := 10000000001, tb := 10000000001, tim := t }

theorem witness_TimebaseAndDiscipline :
    (let d := tbDev [(.tim .STEP_NS_NS, 5)];
      Awake (st d) ∧ 0 ≤ (d.tb : Int) + 5 ∧ d.rd (.tck .CTRL_SRC) = 0 ∧ (10000000000 : Nat) ≤ d.tb ∧ d.tb < 10000000000 + 4 ∧
        (((10000000000 : Nat) : Int) - d.tim.steps) % 4 = 0 ∧ Port.rxTs (d.port 3) = []) ∧
    (let d := tbDev [(.tim .STEP_SEC_SEC, 0xFFF0)];
      (d.tb : Int) + (toSigned 16 (d.rd (.tim .STEP_SEC_SEC)) * 1000000000 + toSigned 32 (d.rd (.tim .STEP_NS_NS))) < 0) ∧
    (let d : Dev := { tbDev [(.tck .CTRL_SRC, 1), (.tim .STATUS_STATE, 1)] with
        ports := [{ rxTs := [⟨7, 8, 9, true⟩], txTs := [⟨7, 8, 9, true⟩] }] };
      Awake (st d) ∧ d.rd (.tck .CTRL_SRC) = 1 ∧ d.loopState = 1 ∧ Port.rxTs (d.port 0) = [⟨7, 8, 9, true⟩] ∧
        Port.txTs (d.port 0) = [⟨7, 8, 9, true⟩]) := by
  unfold Awake; decide +kernel

/-- A device with PPS and the UART enabled whose last edge came at `x` half nanoseconds. -/
def ppsDev (l : List (Fld × Nat)) (x : Option Int) : Dev :=
  tbDev ([(.tim .PPS_CTRL_IN_EN, 1), (.tim .PPS_CTRL_OUT_EN, 1), (.tim .UART_EN, 1), (.tim .PPS_CTRL_WIDTH, 5)] ++ l)
    { edge := x, edgeAt := 10000000000, edgeSec := 946684800 }

/-- $GPZDA,000000,01,01,2000*4A. -/
def zda (sum : Byte) : List Byte :=
  [0x24, 0x47, 0x50, 0x5A, 0x44, 0x41, 0x2C, 0x30, 0x30, 0x30, 0x30, 0x30, 0x30, 0x2C, 0x30, 0x31, 0x2C, 0x30, 0x31, 0x2C, 0x32, 0x30,
    0x30, 0x30, 0x2A, 0x34, sum]

theorem witness_PpsAndTimeOfDay :
    (let d := tbDev [];
      (st d).held = false ∧ d.rd (.tim .PPS_CTRL_IN_EN) = 0 ∧ d.rd (.tim .UART_EN) = 0) ∧
    (∀ src ∈ [0, 1, 2],
      let d := (ppsDev [(.tck .CTRL_SRC, src), (.tim .CTRL_HOLD_PPS, 1), (.tim .STATUS_STATE, 1)] (some 18002000002)).elapse 0
      d.rd (.tim .PPS_CTRL_IN_EN) ≠ 0 ∧ d.rd (.tck .CTRL_SRC) = src ∧ d.rd (.tim .CTRL_HOLD_PPS) ≠ 0 ∧ d.loopState = 1 ∧
        1998000000 ≤ 2 * ((d.tb : Int) - d.tim.steps) + 0 - 18002000002 ∧
        2 * ((d.tb : Int) - d.tim.steps) + 0 - 18002000002 ≤ 2002000000) ∧
    (let d : Dev := { ppsDev [(.tck .CTRL_SRC, 1), (.tim .CTRL_HOLD_PPS, 1), (.tim .STATUS_STATE, 2)] none with tim := { steer := true } };
      d.loopState = 2 ∧ d.tim.steer = true ∧ d.tim.edge = none) ∧
    (∀ x ∈ [(19998000003 : Int), 18002000003, 17000000002, 17000000001], ∃ g : Int, g = 2 * (((ppsDev [] (some x)).tb : Int) - 0) - x ∧
      (g < 2000000 ∨ (2000000 ≤ g ∧ g < 1998000000) ∨ (2002000000 < g ∧ g ≤ 3000000000) ∨ 3000000000 < g)) ∧
    (let d := ppsDev [(.tim .PPS_CTRL_GATE_UNLOCKED, 0)] (some 5);
      d.tim.edge = some 5 ∧ d.rd (.tim .PPS_CTRL_OUT_EN) ≠ 0 ∧ d.tim.ppsFall = none ∧ d.rd (.tim .PPS_CTRL_GATE_UNLOCKED) = 0) ∧
    (let d := ppsDev [(.tim .PPS_CTRL_GATE_UNLOCKED, 1)] (some 5);
      d.rd (.tim .PPS_CTRL_GATE_UNLOCKED) ≠ 0 ∧ d.loopState ≠ 1 ∧
        ({ d with tim := { d.tim with ppsFall := some 7 } } : Dev).tim.ppsFall = some 7) ∧
    (let d := ppsDev [] (some 5);
      d.rd (.tim .UART_EN) ≠ 0 ∧ (zda 0x42).getD 0 0 = 0x24 ∧ (nmeaFields (zda 0x42)).2 = false ∧
        nmeaFields (zda 0x41) = ((nmeaFields (zda 0x41)).1, true) ∧
        (nmeaFields (zda 0x41)).1.getD 0 [] = [0x47, 0x50] ++ [0x5A, 0x44, 0x41] ∧
        nmeaSecond false (nmeaFields (zda 0x41)).1 = some 946684800 ∧ d.tim.edge ≠ none ∧
        (946684800 : Int) + toSigned 16 ((ppsDev [(.tim .UTC_OFFSET_S, 0)] (some 5)).rd (.tim .UTC_OFFSET_S)) = d.tim.edgeSec ∧
        (946684800 : Int) + toSigned 16 ((ppsDev [(.tim .UTC_OFFSET_S, 37)] (some 5)).rd (.tim .UTC_OFFSET_S)) ≠ d.tim.edgeSec ∧
        d.now + 0 ≤ d.tim.edgeAt + 900000000 ∧ d.tim.edgeAt + 900000000 < d.now + 1000000000 ∧ d.rd (.tck .CTRL_SRC) ≠ 2) := by
  refine ⟨by decide +kernel, by decide +kernel, by decide +kernel, ?_, by decide +kernel, by decide +kernel, by decide +kernel⟩
  intro x h
  simp only [List.mem_cons, List.not_mem_nil, or_false] at h
  rcases h with rfl | rfl | rfl | rfl
  · exact ⟨_, rfl, .inl (by decide +kernel)⟩
  · exact ⟨_, rfl, .inr (.inl (by decide +kernel))⟩
  · exact ⟨_, rfl, .inr (.inr (.inl (by decide +kernel)))⟩
  · exact ⟨_, rfl, .inr (.inr (.inr (by decide +kernel)))⟩

/-! ### Calibration -/

/-- A calibration slot 5 of a step, in progress in the unit. -/
def calDev (step : Nat) (started : Bool) (l : List (Fld × Nat)) : Dev :=
  { inTick 5 11 [step, 0, 0, 0] .running with regs := l, cal := { step := if started then some 5 else none } }

theorem witness_CalibrationAndAlmanac :
    (let d := calDev 0x10 false [];
      (st d).held = false ∧ (d.occ 5).state = .running ∧ (d.slot 5).kind = 3 ∧ d.cal.step = none) ∧
    (let d := calDev 0x13 true [];
      d.cal.step = some 5 ∧ (d.slot 5).kind = 3 ∧ (d.slot 5).step = 0x10 + 3 ∧ d.linkUp 3 = false) ∧
    (∀ h ∈ [0, 256],
      let d : Dev := { calDev 0x13 true [(.mac (.PORT_STATUS_LINK_UP 3), 1)] with cal := { step := some 5, points := [0, 0, 0, h] } }
      d.cal.step = some 5 ∧ d.linkUp 3 = true ∧ d.scanItems 3 (d.slot 5).budget = 0 ∧ d.cal.points.getD 3 0 + (0 - min 0 0) = h) ∧
    (∀ k ∈ [0x20, 0x31],
      let d := calDev k true []
      d.cal.step = some 5 ∧ (d.slot 5).kind = 3 ∧ (d.slot 5).step = k ∧ leAt [0, 0, 0, 0, 0, 0] 4 2 ≤ d.rd (.cal .CFG_SPREAD_MAX) ∧
        d.rd (.cal .CFG_SPREAD_MAX) < leAt [0, 0, 0, 0, 255, 255] 4 2) ∧
    (let d := dv [(.cal (.AGE_MAX_AGE 13), 2), (.tck .COUNT_TICK, 5)];
      (st d).held = false ∧ d.aged 13 = true ∧ d.rd (.cal (.AGE_MAX_AGE 13)) < d.age 13 ∧ 2 * d.rd (.cal (.AGE_MAX_AGE 13)) < d.age 13 ∧
        bitAt (d.rd (.cal .AGE_STATUS_OVERDUE)) 13 = false ∧ bitAt (d.rd (.cal .AGE_STATUS_OVERDUE2)) 13 = false) ∧
    (let d := inTick 5 12 [4, 0, 0, 0] .running;
      (st d).held = false ∧ d.taskRuns 5 4 = true ∧
      (let m := d.mem ++ ((List.range 14).map (fun i => cells (64 * almLine i + 60) (((leBytes 4 (crc32c (List.replicate 60 0))).map BitVec.toNat)))).flatten
       ∀ i : Fin 14, ({ d with mem := m } : Dev).mark (almLine i) = .clean ∧
        crc32c ((({ d with mem := m } : Dev).alm i).take 60) = leAt (({ d with mem := m } : Dev).alm i) 60 4 ∧
        almForce (({ d with mem := m } : Dev).alm i) = d.cal.latched.getD i [])) := by
  refine ⟨by decide +kernel, by decide +kernel, by decide +kernel, by decide +kernel, by decide +kernel, by decide +kernel⟩

/-! ### The safety monitor -/

/-- A monitor in a state, whose checks of codes 3 to 8 all pass: sealed, the tick running, both safety tasks, HOST_ALIVE and SAFE_IN inactive. -/
def armDev (state : Nat) (l : List (Fld × Nat)) (t : Tick) : Dev :=
  { dv (l ++ [(.saf .STATE_STATE, state), (.saf .STATE_SEQ, 9), (.cfg .STATUS_SEALED, 1), (.tck .STATUS_RUNNING, 1),
      (.saf .HA_CFG_MAX_US, 100), (.saf .CTRL_SAFE_IN_POL, 1)]) with
    mem := ephSlot 0 28 [1, 0, 0, 0] ++ ephSlot 1 28 [2, 0, 0, 0]
    tick := t }

/-- A part that is PROVISIONED. -/
def prov : Otp := { lc := 1 }

theorem witness_MonitorCommandsAndReports :
    (∀ x ∈ [0, 1, 2, 3, 4],
      let d := armDev x [] {}
      Awake { dev := d, otp := prov, pending := [] } ∧ d.safState = x ∧ d.rd (.saf .STATE_SEQ) = 9 ∧ (9 : BitVec 16).toNat = 9 ∧
        (8 : BitVec 16).toNat ≠ 9) ∧
    (armDev 0 [] {}).armCheck prov = none ∧ (armDev 3 [] {}).armCheck prov = none ∧
    (∀ x ∈ [0, 1, 3, 4], (armDev x [(.cfg .STATUS_SEALED, 0)] {}).armCheck prov = some 3) ∧
    (∀ x ∈ [1, 4], (armDev x [] { toSafe := [⟨7, false⟩] }).armCheck prov = none) ∧
    (∀ x ∈ [0, 1, 2, 3, 4],
      let d := armDev x [] { toSafe := [⟨7, false⟩] }
      d.tick.toSafe = [⟨7, false⟩] ∧ d.pwr.dip = none ∧ d.saf.outDead = false) ∧
    ({ armDev 2 [] { toSafe := [⟨7, false⟩] } with saf := { outDead := true } } : Dev).saf.outDead = true ∧
    (let d : Dev := { armDev 2 [] {} with toSafe := [⟨false, 20, 0⟩, ⟨false, 5, 300⟩, ⟨true, 6, 0⟩] };
      (∀ x ∈ d.toSafe.take 2, x.warn = false ∧ 1 ≤ x.code ∧ x.code ≤ 20 ∧ (5 < x.code ∨ x = ⟨false, 5, 300⟩)) ∧
        (⟨false, 5, 300⟩ : Report) ∈ d.toSafe.take 2 ∧ d.toSafe.drop 2 = [⟨true, 6, 0⟩]) := by
  unfold Awake
  refine ⟨by decide +kernel, by decide +kernel, by decide +kernel, by decide +kernel, by decide +kernel, by decide +kernel, by decide +kernel,
    by decide +kernel⟩

theorem witness_MonitorsAndScrub :
    (let d := dv [(.saf .STATE_STATE, 2), (.tck .STATUS_RUNNING, 1)];
      (st d).held = false ∧ d.safState = 2 ∧ d.saf.outDead = false ∧ d.armed = true ∧ d.rd (.tck .STATUS_RUNNING) ≠ 0 ∧
        d.saf.hbDone = false ∧ d.pwrState ≠ 3 ∧ bitAt (d.rd (.saf .MON_STATUS_CLK_FAIL)) 6 = false ∧ d.rd (.saf .HA_STATUS_EXPIRED) = 0 ∧
        d.saf.haEdge = none ∧ d.saf.haAt + d.rd (.saf .HA_CFG_MAX_US) * 1000 = d.now + 100000000) ∧
    (24414 < 20 * (25635 - 24414 + (24414 - 25635)) ∧ 20 * (25634 - 24414 + (24414 - 25634)) ≤ 24414) ∧
    (∀ p ∈ [(true, 0), (false, 156671), (false, 156672)],
      let d : Dev := { inTick 5 28 [1, 0, 0, 0] .running with saf := { scrubNew := p.1, scrubAt := p.2 } }
      d.taskRuns 5 1 = true ∧ d.marks = [] ∧ d.scrubVerifies = false ∧ (if d.saf.scrubNew then 0 else d.saf.scrubAt) = p.2) ∧
    (let d : Dev := { dv [(.saf .MON_STATUS_SCRUB_AGE, 64)] with saf := { scrubRun := true } };
      d.saf.scrubRun = true ∧ 64 ≤ d.rd (.saf .MON_STATUS_SCRUB_AGE)) ∧
    (let d : Dev := { dv [(.saf .CTRL_RX_CHECK, 1), (.saf (.BC_CFG_EN 15), 1), (.saf (.BC_CFG_WINDOW 15), 2)] with
        tick := { coreRun := true, coreTick := 2 } };
      d.rd (.saf .CTRL_RX_CHECK) ≠ 0 ∧ d.rd (.saf (.BC_CFG_EN 15)) ≠ 0 ∧ d.rd (.saf (.BC_CFG_DIR 15)) = 0 ∧
        d.rd (.saf (.BC_STATUS_STATE 15)) = 0 ∧ d.tick.coreRun = true ∧
        d.rd (.saf (.BC_CFG_WINDOW 15)) ≤ (d.tick.coreTick + 2 ^ 32 - d.rd (.saf (.BC_LAST_TICK_TICK 15))) % 2 ^ 32) := by
  refine ⟨by decide +kernel, by decide +kernel, by decide +kernel, by decide +kernel, by decide +kernel⟩

/-! ### Supply and internal power states -/

/-- A device with an episode open. -/
def dipDev (l : List (Fld × Nat)) (x : Option Dip) : Dev := { dv l with now := 100000, pwr := { dip := x } }

theorem witness_DipEpisodes :
    (let d := dipDev [] none;
      (st d).held = false ∧ d.rd (.pwr .CTRL_MON_TEST_DIS) = 0 ∧ d.pwr.dip = none) ∧
    (∀ k ∈ [0, 1],
      let x : Dip := { low := 60, openAt := 0, belowFrom := some 5, runFrom := some 20000 }
      let d := dipDev [(.tck .STATUS_RUNNING, k)] (some x)
      d.pwr.dip = some x ∧ x.runFrom = some 20000 ∧ x.qualified = false ∧ x.uvLong = false ∧ x.belowFrom = some 5 ∧
        d.rd (.tck .STATUS_RUNNING) = k ∧ x.belowNs (d.now + 900004) < 1000000 ∧ 1000000 ≤ x.below + (d.now + 900005 - 5)) ∧
    ((71 : BitVec 8).toNat < 72 ∧ 72 ≤ (72 : BitVec 8).toNat) ∧
    (∀ k ∈ [none, some (2, 256)],
      let d : Dev := { dipDev [(.pwr .SUP_STATUS_SUP_WARN, 1)] none with sbd := { flash := k } }
      d.rd (.pwr .SUP_STATUS_SUP_WARN) ≠ 0 ∧ d.sec.lcTo = none ∧ d.sec.otpOp = none ∧ d.sec.arbTo = none ∧ d.sbd.flash = k) := by
  refine ⟨by decide +kernel, by decide +kernel, by decide +kernel, by decide +kernel⟩

/-- A device in an internal state. -/
def pwDev (state : Nat) (l : List (Fld × Nat)) : Dev := dv (l ++ [(.pwr .STATUS_STATE, state), (.tck .STATUS_RUNNING, 0)])

theorem witness_PowerStates :
    (∀ m ∈ [0, 1, 2, 3], ∀ x ∈ [0, 1, 2],
      let d := pwDev x [(.pwr .CTRL_MAX_STATE, m)]
      (st d).held = false ∧ d.pwr.leaving = none ∧ d.rd (.pwr .STATUS_ENTERING) = 0 ∧ d.pwrState = x ∧
        (m = 0 ∨ (m ≤ d.rd (.pwr .CTRL_MAX_STATE) ∧ (d.elapse 1000).mayChoose m = true)) ∧
        ∀ b : Fin 4, m < b.val → ¬ b.val ≤ d.rd (.pwr .CTRL_MAX_STATE)) ∧
    (∀ x ∈ [1, 2],
      let d : Dev := { inTick 5 9 [1, 0, 0, 0] .idle with regs := [(.pwr .STATUS_STATE, x), (.tck .STATUS_RUNNING, 1)] }
      d.rd (.tck .STATUS_RUNNING) ≠ 0 ∧ d.slotGated d.pwrState 5 = true ∧ d.pwrState = x) ∧
    (∀ k ∈ [true, false],
      let d : Dev := { pwDev 2 [(.pwr .STATUS_ENTERING, 1), (.hep .LINK_STATUS_DL_UP, 1)] with hep := { l1 := k } }
      d.rd (.pwr .STATUS_ENTERING) ≠ 0 ∧ d.eligibleA3 = true ∧ d.rd (.pwr .SUP_STATUS_EPISODE_OPEN) = 0 ∧ d.hep.l1 = k ∧
        d.rd (.hep .LINK_STATUS_DL_UP) ≠ 0) ∧
    ((pwDev 2 [(.pwr .STATUS_ENTERING, 1), (.saf .STATE_STATE, 2)]).eligibleA3 = false) ∧
    (∀ x ∈ [1, 2, 3],
      let d : Dev := { pwDev x [] with pwr := { leaving := some (5, 0) } }
      d.pwr.leaving = some (5, 0) ∧ d.pwrState = x) ∧
    (∀ x ∈ [2, 3],
      let d : Dev := pwDev x [(.pwr .WAKE_EN_SIGDET, 8), (.pwr .WAKE_TIMER_COUNT, 1)]
      d.portAsleep 3 = true ∧ bitAt (d.rd (.pwr .WAKE_EN_SIGDET)) 3 = true ∧ d.rd (.pwr .WAKE_TIMER_COUNT) ≠ 0 ∧ d.pwrState = x) ∧
    (let d : Dev := { pwDev 0 [(.hep .LINK_STATUS_DL_UP, 1)] with hep := { pmeDue := [1] } };
      1 ∈ d.hep.pmeDue ∧ d.rd (.hep .LINK_STATUS_DL_UP) ≠ 0) := by
  refine ⟨by decide +kernel, by decide +kernel, by decide +kernel, by decide +kernel, by decide +kernel, by decide +kernel, by decide +kernel⟩

/-! ### Security -/

/-- The state of a part with its one-time-programmable memory. -/
def so (o : Otp) (d : Dev) : State := { dev := d, otp := o, pending := [] }

/-- A part whose slots 1 and 3 and seed are programmed, in a lifecycle state. -/
def keyed (lc : Nat) : Otp := { lc := lc, slots := [{ prog := true }, { prog := true }, {}, { prog := true }], seedProg := true }

/-- A device whose security writes are as given. -/
def secDev (l : List (Fld × Nat)) (x : Sec) : Dev := { dv l with sec := x }

theorem witness_LifecycleAndOtp :
    (Awake (so {} (secDev [] { lcTo := some 1 })) ∧ (secDev [] { lcTo := some 1 }).sec.lcTo ≠ none) ∧
    (∀ lc ∈ [0, 1, 2, 3], ∀ i ∈ [0, 1],
      let d := secDev [(.pwr .SUP_STATUS_INHIBIT, i), (.cfg .STATUS_SEALED, 1), (.cfg .STATUS_CONFIG, 1), (.cfg .IMAGE_VER_VALUE, 64)] {}
      Awake (so (keyed lc) d) ∧ d.sec.lcTo = none ∧ d.inhibited = (i == 1) ∧ ((keyed lc).slot 1).prog = true ∧
        ((keyed lc).slot 3).prog = true ∧ (keyed lc).seedProg = true ∧ d.rd (.sec .DBG_STATUS_LEVEL) = 0 ∧ d.sec.otpOp = none ∧
        d.sec.arbTo = none ∧ (keyed lc).programmed 1 = true ∧ (keyed lc).programmed 2 = false ∧ (({} : Otp).slot 1).prog = false ∧
        (secDev [(.sec .DBG_STATUS_LEVEL, 1)] {}).rd (.sec .DBG_STATUS_LEVEL) ≠ 0 ∧ ((keyed lc).slot (3 - 2)).revoked = false ∧
        (64 : Fin 128).val ≤ d.rd (.cfg .IMAGE_VER_VALUE) ∧ d.loaded = true ∧ d.sealed = true ∧ d.d2 = false) ∧
    (∀ p ∈ [(0, 1), (1, 2), (2, 3)],
      let d := secDev [] { lcTo := some p.2, otpOp := some (.program 4 [1]), arbTo := some 64 }
      d.sec.lcTo = some p.2 ∧ lcAllowed (keyed p.1) p.2 = true ∧ d.sec.otpOp ≠ none ∧ d.sec.arbTo = some 64 ∧
        (keyed 0).clash 4 [1] = false ∧ ({ keyed 0 with seed := [2] } : Otp).clash 4 [1] = true) ∧
    (secDev [] { otpOp := some (.revoke 3) }).sec.otpOp = some (.revoke 3) := by
  unfold Awake
  refine ⟨by decide +kernel, by decide +kernel, by decide +kernel, by decide +kernel⟩

/-- An engine whose program counter is 0 there, in a state, with an instruction, and the lines of memory given. -/
def engDev (e state : Nat) (op : Op) (g : Engine) (l : List (Fld × Nat)) (m : List Host.Cell) : Dev :=
  { dv (l ++ [(.eng (if e % 2 = 0 then .PAIR_STATUS_STATE_A (e / 2) else .PAIR_STATUS_STATE_B (e / 2)), state),
      (.eng (.PAIR_CFG_MODE (e / 2)), 1)]) with
    mem := m ++ cells (64 * imemLine (e / 2) 0) ((leBytes 4 (Op.encode op)).map BitVec.toNat)
    engines := bankAt 16 {} [] e (fun _ => g) }

theorem witness_DebugAndTap :
    (∀ k ∈ [0, 1, 2],
      let d := secDev [(.sec .DBG_STATUS_LEVEL, k)] {}
      (st d).held = false ∧ d.pwrState < 2 ∧ d.rd (.sec .DBG_STATUS_LEVEL) = k ∧ d.sec.token = none) ∧
    (let d := secDev [] { token := some [] };
      d.sec.token = some [] ∧ tokenCode {} d [] ≠ 0) ∧
    (∀ i, tapAvailable { lc := 0 } (dv [(.sec .DBG_STATUS_LEVEL, 1)]) i = true) ∧
    (∀ i, i ∈ [TapIr.dbgBridge, .samplePreload, .extest, .clamp, .highz] → tapAvailable { lc := 2 } (dv []) i = false) ∧
    (∀ i ∈ [TapIr.dbgChal, .dbgToken], tapAvailable { lc := 2 } (dv [(.pwr .STATUS_STATE, 3)]) i = false) ∧
    (let d := engDev 15 3 (.add 1 2 3) { halted := true } [(.sec .DBG_STATUS_LEVEL, 2)] [];
      d.mayHalt 15 = true ∧ (d.engine 15).halted = true ∧ d.lockstep 7 = false ∧ d.engState 15 = 3 ∧ d.d2 = true ∧
        d.fetch 15 = (Op.encode (.add 1 2 3), false, d) ∧ Op.decode (Op.encode (.add 1 2 3)) = some (.add 1 2 3)) ∧
    (let d := engDev 15 0 (.add 1 2 3) { haltReq := true } [] [];
      (d.engine 15).haltReq = true ∧ d.lockstep 7 = false ∧ d.engState 15 = 0 ∧ (d.engine 15).halted = false) := by
  refine ⟨by decide +kernel, by decide +kernel, ?_, by decide +kernel, by decide +kernel, by decide +kernel, by decide +kernel⟩
  intro i
  cases i <;> decide +kernel

/-- A token of a level for slot 0 of a BLANK part whose UID, and whose challenge, are zeros. -/
def tokenOf (level : Byte) : List Byte := [0x56, 0x44, 0x42, 0x54, level, 0, 1, 0] ++ List.replicate 152 0

/-- Where the signature of such a token is good, every check of it passes: the value of the signature check is a free value (assumption 5). -/
theorem witness_token_accepted (level : Byte) (h : level = 1 ∨ level = 2)
    (v : Config.ecdsaVerify (({} : Otp).slot 0).bits (Config.sha384 (sliceB (tokenOf level) 0 64)) (sliceB (tokenOf level) 64 48)
      (sliceB (tokenOf level) 112 48) = true) :
    tokenCode {} (secDev [] { token := some (tokenOf level), tokenChal := List.replicate 16 0 }) (tokenOf level) = 0 := by
  unfold tokenCode
  have e : (tokenOf level).getD 5 0 = 0 := rfl
  rw [e]
  change (if _ then _ else _) = 0
  rw [show ((0 : Byte).toNat) = 0 from rfl, v]
  rcases h with rfl | rfl <;> decide +kernel

/-! ### The engines -/

/-- A frame of 100 bytes in the first two lines of the frame buffer. -/
def fr0 : Frame := { uid := 7, lines := [regionBase 1, regionBase 1 + 1], start := 0, len := 100 }

/-- Engine 15, in best-effort work, with two work registers and an instruction to execute. -/
def engAt (op : Op) (x y : Nat) (g : Engine := {}) (l : List (Fld × Nat) := []) (m : List Host.Cell := []) : Dev :=
  engDev 15 2 op { g with w := [(0, false), (BitVec.ofNat 64 x, false), (BitVec.ofNat 64 y, false)] } l m

/-- The device is about to execute `op` on engine 15 and awake. -/
def Issues (d : Dev) (op : Op) : Prop :=
  (st d).held = false ∧ d.canIssue 15 = true ∧ d.fetch 15 = (Op.encode op, false, d) ∧ Op.decode (Op.encode op) = some op

/-- What `Issues` gives the statements. -/
theorem Issues.ready {d : Dev} {op : Op} (h : Issues d op) : Ready d 15 op := ⟨h.2.1, _, h.2.2.1, h.2.2.2⟩

theorem witness_RegisterResults :
    ∀ op ∈ [Op.add 3 1 2, .sub 3 1 2, .and 3 1 2, .or 3 1 2, .xor 3 1 2, .shl 3 1 2, .shr 3 1 2, .shrs 3 1 2, .mul 3 1 2, .setLt 3 1 2,
      .setUlt 3 1 2, .bswap 3 1, .addK 3 1 0xFFFF, .andK 3 1 0xFFFF, .orK 3 1 0xFFFF, .cati 3 1 0xFFFF, .shli 3 1 63, .shri 3 1 63,
      .shrsi 3 1 63, .extr 3 1 0 63, .ins 3 1 63 0], Issues (engAt op 5 7) op := by
  unfold Issues; decide +kernel

theorem witness_ControlTransfers :
    (∀ op ∈ [Op.brEq 1 2 0x8000, .brUge 1 2 1, .jlinkr 3 2 4, .ldb 3 2 0xFFFF, .std 3 2 0xFFF8, .atomCas 3 2 1],
      let d := engDev 15 2 op { w := [(0, false), (0, false), (0, true)] } [] []
      Issues d op ∧ 2 ∈ poisonStops op ∧ (d.wreg 15 2).2 = true) ∧
    (let d : Dev := { engAt .yield 0 0 with mem := [] };
      (st d).held = false ∧ d.canIssue 15 = true ∧ d.fetch 15 = (0, false, d) ∧ Op.decode 0 = none) ∧
    (let d : Dev := { engAt .yield 0 0 with marks := [(imemLine 7 0, ⟨1, 0, 0, 0⟩)] };
      (st d).held = false ∧ d.canIssue 15 = true ∧ (d.fetch 15).2.1 = true) ∧
    ∀ op ∈ [Op.brEq 1 2 0x8000, .brNe 1 2 0x7FFF, .brLt 1 2 1, .brGe 1 2 1, .brUlt 1 2 1, .brUge 1 2 1, .jlink 31 0x1FFFFF, .jlinkr 31 1 4],
      Issues (engAt op 5 7) op ∧ ((engAt op 5 7).wreg 15 1).2 = false ∧ ((engAt op 5 7).wreg 15 2).2 = false := by
  unfold Issues; decide +kernel

/-- The last words of local memory and of cluster memory, and a byte of each. -/
theorem witness_LoadsAndStores :
    (∀ v ∈ [(Op.ldb 3 1 0xFFFF, 1), (.ldh 3 1 0xFFFE, 2), (.ldw 3 1 0xFFFC, 4), (.ldd 3 1 0xFFF8, 8),
        (.stb 2 1 0xFFFF, 1), (.sth 2 1 0xFFFE, 2), (.stw 2 1 0xFFFC, 4), (.std 2 1 0xFFF8, 8)],
      ∀ b ∈ [0x10000, 0x01200000],
      let d := engAt v.1 b 9
      Issues d v.1 ∧ (d.wreg 15 1).2 = false ∧ (b - v.2) % v.2 = 0 ∧ (d.engine 15).sb = [] ∧ d.marks = []) ∧
    (engAt (.ldb 3 1 0xFFFF) 0x10000 9).ldmSize 15 = 0x10000 ∧
    (∀ v ∈ [((0xFFFF : BitVec 16), 1), (0xFFFE, 2), (0xFFFC, 4), (0xFFF8, 8)],
      ((BitVec.ofNat 64 0x10000 + v.1.signExtend 64).toNat = 0x10000 - v.2 ∧
        (BitVec.ofNat 64 0x01200000 + v.1.signExtend 64).toNat = 0x01200000 - v.2)) := by
  unfold Issues; decide +kernel

theorem witness_AtomicsAndTheStoreBuffer :
    (∀ op ∈ [Op.atomAdd 3 1 2, .atomXch 3 1 2, .atomCas 3 1 2],
      let d := engAt op 0x011FFFF8 9
      Issues d op ∧ (d.wreg 15 1).2 = false ∧ (d.wreg 15 2).2 = false ∧ (d.wreg 15 3).2 = false ∧ (d.engine 15).sb = [] ∧
        (d.wreg 15 1).1.toNat % 8 = 0 ∧ (d.wreg 15 1).1.toNat < 0x01200000 ∧ d.marks = []) ∧
    (let x : SbEnt := { addr := 56, bytes := [1, 2, 3, 4, 5, 6, 7, 8], poison := false };
      let d := engAt .fenceSl 0 0 { sb := [x] };
      Issues d .fenceSl ∧ (d.engine 15).sb = [x] ∧ x.addr % 64 + x.bytes.length ≤ 64 ∧ d.mark (clusterLine (x.addr / 64)) = .clean) := by
  unfold Issues; decide +kernel

theorem witness_WindowLookupAndChecksum :
    (let d := engAt (.wadj 3 1) 99 0 { fr := some (OpenF.ofFrame fr0) };
      Issues d (.wadj 3 1) ∧ (d.engine 15).fr = some (OpenF.ofFrame fr0) ∧ (d.wreg 15 1).2 = false ∧
        (0 : Int) ≤ 0 + (d.wreg 15 1).1.toInt ∧ (1 : Int) ≤ 100 - (d.wreg 15 1).1.toInt) ∧
    (let d := engAt (.wsetl 3 1) 9728 0 { fr := some (OpenF.ofFrame fr0) };
      Issues d (.wsetl 3 1) ∧ (d.engine 15).fr = some (OpenF.ofFrame fr0) ∧ (d.wreg 15 1).1.toNat = 9728) ∧
    (∀ op ∈ [Op.lookupExact 3 1 2, .lookupTernary 3 1 2, .lookupBoth 3 1 2],
      let d := engAt op 0xFFE0 0x1FFF
      Issues d op ∧ (d.wreg 15 1).2 = false ∧ (d.wreg 15 2).2 = false ∧ d.marks = [] ∧ (d.wreg 15 1).1.toNat % 32 = 0 ∧
        (d.wreg 15 1).1.toNat < d.ldmSize 15 ∧ (d.wreg 15 2).1.toNat % 2 ^ 13 = 0x1FFF) ∧
    (∀ op ∈ [Op.csum 3 1 2, .crcE 3 1 2, .crcC 3 1 2],
      let d := engAt op 60 40 { fr := some (OpenF.ofFrame fr0) }
      Issues d op ∧ (d.wreg 15 1).2 = false ∧ (d.wreg 15 2).2 = false ∧ d.marks = [] ∧ PlainFrame d 15 fr0 ∧ 60 + 40 ≤ fr0.len) := by
  unfold Issues PlainFrame; decide +kernel

theorem witness_QueueInstructions :
    (let d := engAt (.take 3) 0 0;
      Issues d (.take 3) ∧ (d.engine 15).fr = none ∧ d.takeable 15 = none) ∧
    (let q : QFrame := { cls := 0, frame := fr0 };
      let d : Dev := { engAt (.take 3) 0 0 with classq := [q] };
      Issues d (.take 3) ∧ (d.engine 15).fr = none ∧ d.takeable 15 = some q ∧
        d.classq.find? (fun x => x.frame.uid = q.frame.uid) = some q ∧ q.frame.staged = false ∧ q.frame.info.result / 2 ^ 9 % 2 = 0) ∧
    (let d := engAt (.txcq 3) 0 0; Issues d (.txcq 3) ∧ d.txc.getD 7 [] = []) ∧
    (let d : Dev := { engAt (.txcq 3) 0 0 with txc := List.replicate 7 [] ++ [[5, 6]] };
      Issues d (.txcq 3) ∧ d.txc.getD 7 [] = 5 :: [6]) ∧
    (let d := engAt (.txcan 1) 0x3FFFF 0; Issues d (.txcan 1) ∧ (d.wreg 15 1).2 = false ∧ (d.wreg 15 1).1.toNat / 2 ^ 16 % 4 = 3) ∧
    (let d := engAt (.cancel 1) 63 0; Issues d (.cancel 1) ∧ (d.wreg 15 1).2 = false) := by
  unfold Issues; decide +kernel

/-- A port that is up, for FWD; and a receive ring, an SA, a window, a queue pair that take what is handed to them. -/
theorem witness_TimerControlAndLockstep :
    (∀ op ∈ [Op.rdtTick 3, .rdtOffset 3, .rdtCycles 3, .waitt 3 1, .halt 0, .yield],
      let d := engAt op 5 7
      Issues d op ∧ (d.wreg 15 1).2 = false ∧ d.engState 15 = 2 ∧ (d.engine 15).fr = none ∧ (d.engine 15).copies = [] ∧
        (d.engine 15).sb = []) ∧
    (∀ op ∈ [Op.halt 0, .halt 0xFFFF, .yield],
      let d := engDev 15 1 op { slot := 63 } [] []
      Issues d op ∧ d.engState 15 = 1 ∧ (d.engine 15).slot = 63 ∧ (d.engine 15).fr = none ∧ (d.engine 15).copies = [] ∧
        (d.engine 15).sb = []) ∧
    (let w : Waitt := { rd := 3, target := 0, tick := 0, issued := 0, cyc := 0, word := 0 };
      let d := engAt .yield 0 0 { wait := some w };
      (st d).held = false ∧ (d.engine 15).wait = some w ∧ w.target ≤ d.tick.cyc) ∧
    (let d := { engDev 14 1 (.halt 0) {} [(.eng (.PAIR_CFG_MODE 7), 0)] [] with
        regs := [(.eng (.PAIR_CFG_MODE 7), 0), (.eng (.PAIR_STATUS_STATE_A 7), 1), (.eng (.PAIR_STATUS_STATE_B 7), 1)] };
      (st d).held = false ∧ d.canIssue 14 = true ∧ d.fetch 14 = (Op.encode (.halt 0), false, d) ∧ d.lockstep 7 = true ∧ d.d2 = false ∧
        d.rd (.eng (.LS_LOG_VALID 7)) = 0) ∧
    (let d : Dev := { dv [(.eng (.PAIR_CFG_MODE 7), 1), (.eng (.BE_BIND_VALID 15), 1), (.eng (.BE_BIND_PAIRS 15), 128)] with
        cfg := { entries := List.replicate 7 ([], 0) ++ [([1], 16)] }
        classq := [{ cls := 0, frame := fr0 }] };
      (st d).held = false ∧ d.unit 15 = 15 ∧ d.engState 15 = 0 ∧ d.rd (.eng (.PAIR_CFG_BE_EN 7)) ≠ 0 ∧ (d.engine 15).haltReq = false ∧
        d.nextBinding 15 = some 15 ∧ d.pairOff 7 = false) ∧
    sends (.halt 0) = true ∧ issued 14 true (.halt 0) = .halt 14 0 true := by
  unfold Issues; decide +kernel

/-- A port that is up, for FWD; and a receive ring, a crypto unit with an SA, a window, a queue pair that take what is handed to them. -/
theorem witness_Disposals :
    (let d := engAt (.fwd 3 1 2) 0x1F 0 { fr := some (OpenF.ofFrame fr0) } [(.mac (.PORT_CTRL_EN 3), 1), (.mac (.PORT_STATUS_LINK_UP 3), 1)];
      Issues d (.fwd 3 1 2) ∧ PlainFrame d 15 fr0 ∧ (d.wreg 15 1).1.toNat = 31 ∧ d.txRefusal 3 7 false = none ∧ d.linkUp 3 = true) ∧
    (let d := engAt (.deliv 3 1) 0 0 { fr := some (OpenF.ofFrame fr0) }
        [(.rng (.SQ_ASSIGN_VALID 0), 1), (.rng (.SQ_ASSIGN_KIND 0), 1), (.rng (.SQ_STATUS_STATE 0), 1), (.rng (.SQ_BIND_HOLD_LINES 0), 64)];
      Issues d (.deliv 3 1) ∧ PlainFrame d 15 fr0 ∧ (d.delivCheck 0 fr0.len).2 = none ∧ (d.vatTake 0 (heldLines fr0.len)).isSome = true ∧
        d.sqOf 0 0 = some 0) ∧
    (let d := engAt (.crypt 3 1 2) 1023 255 { fr := some (OpenF.ofFrame fr0) }
        [(.cry .CTRL_EN, 1), (.eng (.BE_BIND_VALID 15), 1), (.eng (.BE_BIND_CLASS 15), 255)] (cells (64 * saLine 1023 0) [1]);
      Issues d (.crypt 3 1 2) ∧ PlainFrame d 15 fr0 ∧ d.cryptCheck 1023 255 = none) ∧
    (let d : Dev := { engAt (.bridge 3 1 2) 0xF 3996 { fr := some (OpenF.ofFrame fr0) }
        [(.brg (.WIN_CTRL_EN 1 7), 1), (.brg .CTRL_EN, 1)] with
        rps := [{}, { fabUp := true }] };
      Issues d (.bridge 3 1 2) ∧ PlainFrame d 15 fr0 ∧ d.bridgeCheck 0xF 3996 fr0.len = none) ∧
    (let d := engAt (.stor 3 1 2) 63 5 { fr := some (OpenF.ofFrame fr0) } [(.nvt .CTRL_EN, 1), (.nvt (.QP_CFG_VALID 63), 1)];
      Issues d (.stor 3 1 2) ∧ PlainFrame d 15 fr0 ∧ d.storCheck 63 = none) ∧
    (let d := engAt .drop 0 0 { fr := some (OpenF.ofFrame fr0) }; Issues d .drop ∧ PlainFrame d 15 fr0) ∧
    (let d := engAt (.copy 3) 0 0 { fr := some (OpenF.ofFrame fr0) };
      Issues d (.copy 3) ∧ PlainFrame d 15 fr0 ∧ (d.alloc (regionBase 1) 65536 fr0.lines.length).isSome = true) := by
  unfold Issues PlainFrame
  refine ⟨by decide +kernel, by decide +kernel, by decide +kernel, by decide +kernel, by decide +kernel, by decide +kernel, by decide +kernel⟩

/-! ### Resets and boot -/

/-- A device in a boot stage after a reset of a kind. -/
def bootDev (stage : Nat) (k : ResetKind) (l : List (Fld × Nat)) : Dev :=
  { regs := l, boot := { stage := stage, kind := k } }

/-- A valid boot header with 4 KiB of image A. -/
def header : List Byte :=
  let h := [0x56, 0x42, 0x37, 0x48, 1, 0, 0, 0, 0x4B, 0x1F, 5, 0, 0, 1, 0x31, 0, 0, 0x20, 0, 0, 0, 0x10, 0, 0] ++ List.replicate 228 0
  h ++ leBytes 4 (crc32c h)

theorem witness_ResetsAndBoot :
    (let d := dipDev [] (some { low := 60, openAt := 0 });
      d.sec.otpOp = none ∧ d.sec.arbTo = none ∧ d.pwr.dip = some { low := 60, openAt := 0 } ∧ scopeOf d .warm = .warm) ∧
    scopeOf (bootDev 1 .safety []) .warm = .warm ∧ scopeOf (bootDev 1 .powerOn []) .warm = .powerOn ∧
    (∀ x ∈ [0, 2, 3],
      let d : Dev := { dv [(.saf .STATE_STATE, x), (.sbd .WDT_CFG_EN, 1)] with sbd := { wdtFrom := some 0 } }
      Awake (st d) ∧ d.armed = decide (2 ≤ x) ∧ d.safState = x ∧ d.sbd.wdtFrom = some 0 ∧ d.rd (.sbd .WDT_CFG_EN) ≠ 0 ∧ d.pwrState ≠ 3) ∧
    (let d : Dev := { dv [] with hep := { perst := false } };
      (st d).held = false ∧ d.hep.perst = false) ∧
    (∀ k ∈ [0, 2],
      let d : Dev := { bootDev k .powerOn [] with hep := { perst := true } }
      d.hep.perst = true ∧ (st d).held = (k == 0)) ∧
    (∀ k ∈ [ResetKind.powerOn, .powerOnClass, .warm, .watchdog true, .safety],
      (st (bootDev 0 k [])).held = true ∧ (bootDev 0 k []).boot.kind = k) ∧
    (ResetKind.powerOn.hitsTim = true ∧ ResetKind.warm.hitsTim = false) ∧
    ((bootDev 1 .powerOn []).boot.stage = 1 ∧ chooseHeader [] [] = none ∧ chooseHeader header [] = some (0, header) ∧
      (leAt header 0x0D 1).testBit 1 = false ∧
      leAt header 0x10 4 + leAt header 0x14 4 ≤ 2 ^ (bootDev 1 .powerOn [(.sbd .SFDP_INFO_LOG2_BYTES, 24)]).rd (.sbd .SFDP_INFO_LOG2_BYTES)) := by
  unfold Awake
  refine ⟨by decide +kernel, by decide +kernel, by decide +kernel, by decide +kernel, by decide +kernel, by decide +kernel, by decide +kernel,
    by decide +kernel, by decide +kernel⟩

/-! ### The sideband -/

theorem witness_FlashAndGpio :
    (∀ k ∈ [0, 1, 2],
      let d : Dev := { dv [(.sbd .SFDP_INFO_LOG2_BYTES, 24), (.sbd .FL_ADDR_ADDR, 4096), (.sbd .GPIO_EDGE_RISE, 128),
          (.sbd .GPIO_EDGE_FALL, 128)] with sbd := { flash := if k = 0 then none else some (k, 0) } }
      Awake (st d) ∧ d.pwrState < 2 ∧ d.rd (.sbd .FL_ADDR_ADDR) = 4096 ∧ (d.sbd.flash = none ↔ k = 0) ∧ d.bootLoads = false ∧
        d.inhibited = false ∧ 4096 < 2 ^ d.rd (.sbd .SFDP_INFO_LOG2_BYTES) ∧ bitAt (d.rd (.sbd .GPIO_EDGE_RISE)) 7 = true ∧
        d.rd (.pwr .STATUS_ENTERING) = 0) ∧
    (let d := pwDev 3 [(.pwr .WAKE_EN_GPIO, 128)];
      bitAt (d.rd (.pwr .WAKE_EN_GPIO)) 7 = true ∧ d.pwrState = 3 ∧ d.pwr.leaving = none) := by
  unfold Awake
  refine ⟨by decide +kernel, by decide +kernel⟩

/-- A packet of a request to the endpoint at 0x31: message bytes behind the MCTP header, with its PEC. -/
def mctpRequest (m : List Byte) : List Byte :=
  let b := [0x62, 0x0F, BitVec.ofNat 8 (m.length + 5), 0x21, 1, 0, 8, 0xC8] ++ m
  b ++ [pec b]

/-- A device past its header stage whose endpoint has a request waiting. -/
def smbDev (x : Sbd) : Dev := { dv [(.sbd .SMB_STATUS_ADDR, 0x31)] with sbd := x }

theorem witness_SmbusEndpoint :
    (let d := smbDev {};
      (st d).held = false ∧ d.smbusOn = true ∧ leAt (mctpRequest [0, 0x80, 2]) 0 1 = d.rd (.sbd .SMB_STATUS_ADDR) * 2 ∧
        packetOk (mctpRequest [0, 0x80, 2]) = true ∧ packetOk [0x62] = false ∧ leAt [0x62] 0 1 = d.rd (.sbd .SMB_STATUS_ADDR) * 2 ∧
        leAt (mctpRequest [0, 0x80, 2]) 5 1 = d.rd (.sbd .SMB_STATUS_EID) ∧ packetCmd (mctpRequest [0, 0x80, 2]) = some (0, 2) ∧
        servedCmd (0, 2) = true) ∧
    (∀ x ∈ [((0, 1), 2, [0, 0x80, 1, 0, 9]), ((0, 1), 2, [0, 0x80, 1, 2, 9]), ((0, 2), 0, [0, 0x80, 2]), ((0, 4), 1, [0, 0x80, 4, 0xFF]),
        ((0, 4), 1, [0, 0x80, 4, 2]), ((0, 5), 0, [0, 0x80, 5]), ((1, 2), 0, [1, 0x80, 0, 2]), ((1, 1), 1, [1, 0x80, 0, 1, 5]),
        ((1, 1), 1, [1, 0x80, 0, 1, 255]), ((1, 3), 6, [1, 0x80, 0, 3, 0, 0, 0, 0, 1, 2]), ((1, 4), 0, [1, 0x80, 0, 4]),
        ((1, 5), 5, [1, 0x80, 0, 5, 2, 0, 0, 0, 0]), ((3, 0x11), 3, [1, 0x80, 2, 0x11, 3, 0, 0]),
        ((3, 0x21), 4, [1, 0x80, 2, 0x21, 5, 0, 0, 0]), ((3, 0x50), 0, [1, 0x80, 2, 0x50]),
        ((3, 0x51), 13, [1, 0x80, 2, 0x51, 5, 0, 0, 0, 0, 0, 0, 0, 1, 0, 0, 0, 0])],
      Asks (smbDev { rx := [mctpRequest x.2.2] }) x.1 x.2.1 (mctpRequest x.2.2) []) ∧
    (∀ k ∈ [7, 8],
      let d := smbDev { packets := [[1], [2], [3], [4]], retry := true, losses := k }
      d.sbd.packets.drop 3 ≠ [] ∧ d.sbd.retry = true ∧ d.sbd.packets ≠ [] ∧ d.sbd.losses = k) := by
  unfold Asks
  refine ⟨by decide +kernel, by decide +kernel, by decide +kernel⟩

/-! ### Counters -/

theorem witness_CountersAndSnapshots :
    (let d : Dev := { dv [] with pmc := { wrapped := [383] } };
      (st d).held = false ∧ d.pmc.wrapped = [383] ∧ d.pwrState < 2 ∧ d.rd (.pmc .CTRL_HOLD) = 0 ∧ d.pmc.snapAt ≠ some (d.now * 4 / 5)) ∧
    (eventInsts ((0x8000FF00 : BitVec 32).toNat % 256) = some 256 ∧ (0x8000FF00 : BitVec 32).toNat / 256 % 256 < 256) ∧
    (∀ k ∈ [0, 1],
      let d : Dev := { inTick 5 12 [3, 0, 0, 0] .running with regs := [(.pmc .CTRL_HOLD, k)], pmc := { snapAt := some 0 } }
      (st d).held = false ∧ d.taskRuns 5 3 = true ∧ d.rd (.pmc .CTRL_HOLD) = k ∧ d.pmc.snapAt = some (d.now * 4 / 5) ∧
        ({ d with pmc := {} } : Dev).pmc.snapAt ≠ some (d.now * 4 / 5)) := by
  refine ⟨by decide +kernel, by decide +kernel, by decide +kernel⟩

/-- A device whose sampling unit 7 is as given. -/
def smpDev (l : List (Fld × Nat)) (u : Smp) : Dev := { dv l with pmc := { smp := bankAt 8 {} [] 7 (fun _ => u) } }

theorem witness_Sampling :
    (∀ f ∈ [[], [(0, []), (1, [])]],
      let d := smpDev [] { halves := [{}, { hits := [⟨[]⟩] }], formed := f }
      (st d).held = false ∧ ((d.smp 7).halves.getD 1 {}).hits = [⟨[]⟩] ∧ (d.smp 7).formed = f) ∧
    (∀ w ∈ [127, 128],
      let d := smpDev [(.pmc (.SMP_PTR_WR 7), w)] { formed := [(1, List.replicate 32 0)] }
      (d.smp 7).formed = [(1, List.replicate 32 0)] ∧ d.smpOcc 7 (d.rd (.pmc (.SMP_PTR_RD 7))) = w ∧ d.pwrState < 2) ∧
    ((0 + 256 - (128 : BitVec 8).toNat) % 256 ≤ 128 ∧ 128 < (0 + 256 - (127 : BitVec 8).toNat) % 256) ∧
    ((1 : BitVec 32).toNat % 2 ^ 20 ≠ 0 ∧ (0x00080001 : BitVec 32).toNat / 2 % 4 ≠ 3 ∧ (0x00080001 : BitVec 32).toNat / 2 ^ 16 % 16 ≤ 8) := by
  refine ⟨by decide +kernel, by decide +kernel, by decide +kernel, by decide +kernel⟩

/-! ### The whole machine -/

theorem witness_StepRunsTheFrontCommand :
    ({ State.reset with pending := [.tickStart, .tickStop] } : State).pending = .tickStart :: [.tickStop] ∧
    State.reset.pending = [] ∧ State.reset.heldTim = true ∧ (st (dv [])).pending = [] ∧ (st (dv [])).heldTim = false := by decide

theorem witness_ResetHoldsCommandsBack :
    State.reset.held = true ∧ State.reset.heldTim = true ∧ State.reset.heldSaf = true ∧
    resetCommand .tickStart = false ∧ timCommand .tickStart = false ∧ safCommand .tickStart = false ∧
    timCommand .ppsOutRise = true ∧ resetCommand .ppsOutRise = false ∧ safCommand .tickHeartbeat = true := by decide

theorem witness_MemoryStaysCanonical :
    MemOk (st { dv [] with mem := cells 5 [1, 0, 2] }) ∧ cells 5 [1, 0, 2] = [(5, 1), (7, 2)] ∧
    step (st (dv [])) = .next (st (dv [])).idle := by
  refine ⟨by unfold MemOk; decide +kernel, by decide +kernel, rfl⟩

theorem witness_OtpOnlyGrows : step State.reset = .next State.reset := rfl

theorem witness_EncodedOpsDecode : (Op.extr 31 31 0 63).wf = true ∧ (Op.ins 31 31 63 0).wf = true ∧ Op.yield.wf = true := by decide

/-! ### One step each: values worked out by hand from the rules -/

/-- The engine's register 3 after an instruction on 5 and 7 or other values. -/
def after3 (c : Instr) (op : Op) (x y : Nat) : WReg :=
  match exec c (st (engAt op x y)) with
  | .next t => t.dev.wreg 15 3
  | _ => (0, true)

theorem test_sub_wraps : after3 (.sub 15 3 1 2) (.sub 3 1 2) 5 7 = (0xFFFFFFFFFFFFFFFE, false) := by decide +kernel
theorem test_shift_amount_is_six_bits : after3 (.shl 15 3 1 2) (.shl 3 1 2) 5 65 = (10, false) := by decide +kernel
theorem test_signed_compare : after3 (.setLt 15 3 1 2) (.setLt 3 1 2) (2 ^ 64 - 1) 0 = (1, false) := by decide +kernel
theorem test_unsigned_compare : after3 (.setUlt 15 3 1 2) (.setUlt 3 1 2) (2 ^ 64 - 1) 0 = (0, false) := by decide +kernel
theorem test_bswap : after3 (.bswap 15 3 1) (.bswap 3 1) 0x0102030405060708 0 = (0x0807060504030201, false) := by decide +kernel
theorem test_cati : after3 (.cati 15 3 1 0xBEEF) (.cati 3 1 0xBEEF) 0xFFFF000000001234 0 = (0x00000000_1234BEEF, false) := by decide +kernel

end Sys2Proof.Tests
end

section
/-! SUPPORT.  The frame of an effect, composed update by update: what a primitive update of the device leaves alone, and how an equation for
a command gives its `Effect`. -/

namespace Sys2Proof.Safety

open Sys2Proof.Machine

/-! ### The frame of an effect -/

/-- The frame of `Effect`: `e` is `d` but for the register fields `F`, the values of the performance counters and the parts `P`. -/
def Kept (F : List Fld) (P : List Part) (d e : Dev) : Prop := RegsKept d e F ∧ PartsKept d e P

theorem Part.Same.refl (d : Dev) (x : Part) : x.Same d d := by
  cases x <;> simp [Part.Same]

theorem Part.Same.trans {d e g : Dev} {x : Part} (h : x.Same d e) (k : x.Same e g) : x.Same d g := by
  cases x <;> simp_all [Part.Same]

variable {F : List Fld} {P : List Part} {d e : Dev}

theorem Kept.refl (d : Dev) : Kept F P d d := ⟨fun _ _ _ => rfl, fun x _ => .refl d x⟩

theorem Kept.trans {g : Dev} (h : Kept F P d e) (k : Kept F P e g) : Kept F P d g :=
  ⟨fun f hf hc => (k.1 f hf hc).trans (h.1 f hf hc), fun x hx => (h.2 x hx).trans (k.2 x hx)⟩

/-- A frame that allows more. -/
theorem Kept.mono {F' : List Fld} {P' : List Part} (h : Kept F P d e) (hF : F ⊆ F') (hP : P ⊆ P') : Kept F' P' d e :=
  ⟨fun f hf hc => h.1 f (fun hm => hf (hF hm)) hc, fun x hx => h.2 x (fun hm => hx (hP hm))⟩

/-- A field outside the frame, no performance counter's value, reads as before. -/
theorem Kept.rd (h : Kept F P d e) {f : Fld} (hf : f ∉ F) (hc : isCount f = false) : e.rd f = d.rd f := h.1 f hf hc

/-- A part outside the frame is as before. -/
theorem Kept.same (h : Kept F P d e) {x : Part} (hx : x ∉ P) : x.Same d e := h.2 x hx

/-- An update that leaves the registers stays in the frame when every part outside it is the same. -/
theorem Kept.of_regs (hr : e.regs = d.regs) (hp : ∀ x, x ∉ P → x.Same d e) : Kept F P d e :=
  ⟨fun f _ _ => congrArg (fun l => Regs.get l f) hr, hp⟩

/-! ### Primitive updates in a frame -/

theorem Kept.ite {e' : Dev} (p : Prop) [Decidable p] (h : p → Kept F P d e) (k : ¬ p → Kept F P d e') :
    Kept F P d (if p then e else e') := by
  split
  · exact h ‹_›
  · exact k ‹_›

theorem Kept.counted (h : Kept F P d e) {g : Dev} (k : Counted e g) : Kept F P d g := by
  refine h.trans ⟨fun f _ hc => k.rd f hc, fun x _ => ?_⟩
  obtain ⟨r, w, rfl, -⟩ := k
  cases x <;> simp [Part.Same]

theorem Kept.wr (h : Kept F P d e) {f : Fld} (v : Nat) (hf : f ∈ F) : Kept F P d (e.wr f v) := by
  refine h.trans ⟨fun g hg _ => ?_, fun x _ => by cases x <;> simp [Part.Same]⟩
  rw [Dev.rd_wr, if_neg (ne_of_mem_of_not_mem hf hg).symm]

theorem Kept.inc (h : Kept F P d e) {f : Fld} (hf : f ∈ F) : Kept F P d (e.inc f) := h.wr _ hf

theorem Kept.hepEvent (h : Kept F P d e) (n : Nat) (hi : .irqs ∈ P) : Kept F P d (e.hepEvent n) := by
  refine h.trans (.of_regs (by simp) fun x hx => ?_)
  cases x <;> simp_all [Part.Same]

theorem Kept.event (h : Kept F P d e) {status : Fld} (enable : Fld) (n : Nat) (hf : status ∈ F) (hi : .irqs ∈ P) :
    Kept F P d (e.event status enable n) :=
  .ite _ (fun _ => (h.wr 1 hf).hepEvent n hi) (fun _ => h.wr 1 hf)

theorem Kept.emit (h : Kept F P d e) (o : Outbound) (ho : .out ∈ P) (hh : .hep ∈ P) : Kept F P d (e.emit o) := by
  refine h.trans (.of_regs rfl fun x hx => ?_)
  cases x <;> simp_all [Part.Same]

theorem Kept.modPort (h : Kept F P d e) (p : Nat) (g : Port → Port) (hp : .ports ∈ P) : Kept F P d (e.modPort p g) := by
  refine h.trans (.of_regs rfl fun x hx => ?_)
  cases x <;> simp_all [Part.Same]

theorem Kept.withMdio (h : Kept F P d e) (m : Option MdioOp) (hm : .mdio ∈ P) : Kept F P d { e with mdio := m } := by
  refine h.trans (.of_regs rfl fun x hx => ?_)
  cases x <;> simp_all [Part.Same]

theorem Kept.withCal (h : Kept F P d e) (c : Cal) (hc : .cal ∈ P) : Kept F P d { e with cal := c } := by
  refine h.trans (.of_regs rfl fun x hx => ?_)
  cases x <;> simp_all [Part.Same]

/-- A full write of a line touches memory, its marks and the write-backs that wait. -/
theorem Kept.writeLine (h : Kept F P d e) (l : Nat) (bs : List Byte) (pz : Bool) (hm : .mem ∈ P) (hk : .marks ∈ P)
    (hw : .writeBacks ∈ P) : Kept F P d (e.writeLine l bs pz) := by
  refine h.trans (.of_regs rfl fun x hx => ?_)
  cases x <;> simp_all [Part.Same, Dev.writeLine]

/-! ### From an equation to an effect -/

/-- A command whose answer is known has the effect that its frame and its post-condition say. -/
theorem Effect.of_next {c : Sys2Proof.Instr} {s : State} {post : Dev → Prop} (h : exec c s = .next { s with dev := e })
    (k : Kept F P s.dev e) (hp : post e) : Effect c s F P post :=
  ⟨_, h, rfl, rfl, hp, k.1, k.2⟩

end Sys2Proof.Safety

namespace Sys2Proof.Claims

open Sys2Proof.Machine

/-- A count may be read from any earlier state that reads the counter alike. -/
theorem Counts.of_rd {d e t : Dev} {f : Fld} {k : Nat} (h : Counts e t f k) (hr : e.rd f = d.rd f) : Counts d t f k := by
  rwa [Counts, hr] at h

end Sys2Proof.Claims
end

section
/-! SUPPORT.  Link state and MDIO: the registers they rest on, bring-up in the Almanac, and link down of a port with no frame queued (R122,
R125, R128, R458). -/

namespace Sys2Proof.Machine

open Sys2Proof.Safety Sys2Proof.Claims

/-! ### Fields of a port and of the MDIO master -/

/-- The status bits of a port and of the MDIO master are one bit wide. -/
@[simp] theorem portStatusSync_width (p : Nat) : (Fld.mac (.PORT_STATUS_SYNC p)).width = 1 := rfl
@[simp] theorem portStatusLinkUp_width (p : Nat) : (Fld.mac (.PORT_STATUS_LINK_UP p)).width = 1 := rfl
@[simp] theorem portStatusSpeed_width (p : Nat) : (Fld.mac (.PORT_STATUS_SPEED p)).width = 2 := rfl
@[simp] theorem portStatusAnDone_width (p : Nat) : (Fld.mac (.PORT_STATUS_AN_DONE p)).width = 1 := rfl
@[simp] theorem portStatusLpPause_width (p : Nat) : (Fld.mac (.PORT_STATUS_LP_PAUSE p)).width = 2 := rfl
@[simp] theorem portStatusLinkChg_width (p : Nat) : (Fld.mac (.PORT_STATUS_LINK_CHG p)).width = 1 := rfl
@[simp] theorem mdioStatusBusy_width : (Fld.mac .MDIO_STATUS_BUSY).width = 1 := rfl
@[simp] theorem mdioStatusData_width : (Fld.mac .MDIO_STATUS_DATA).width = 16 := rfl

/-- Counting an event leaves every field of the MAC. -/
@[simp] theorem Dev.rd_mac_count (d : Dev) (ev inst k : Nat) (f : MacF) : (d.count ev inst k).rd (.mac f) = d.rd (.mac f) :=
  d.rd_count ev inst k _ rfl

/-- A one-bit field is set exactly when it reads 1. -/
theorem Dev.is_iff_of_width_one (d : Dev) {f : Fld} (hf : f.width = 1) : d.is f = true ↔ d.rd f = 1 := by
  have h := d.rd_lt f
  rw [hf] at h
  simp only [Dev.is, decide_eq_true_eq]
  omega

/-- Synchronisation leaves what autonegotiation and the speed of a link rest on. -/
@[simp] theorem Dev.autoneg_wr_sync (d : Dev) (p q v : Nat) : (d.wr (.mac (.PORT_STATUS_SYNC q)) v).autoneg p = d.autoneg p := by
  simp [Dev.autoneg, Dev.is]
@[simp] theorem Dev.upSpeed_wr_sync (d : Dev) (p q v phy : Nat) :
    (d.wr (.mac (.PORT_STATUS_SYNC q)) v).upSpeed p phy = d.upSpeed p phy := by
  simp [Dev.upSpeed, Dev.is]
@[simp] theorem Dev.portOn_wr_sync (d : Dev) (p q v : Nat) : (d.wr (.mac (.PORT_STATUS_SYNC q)) v).portOn p = d.portOn p := by
  simp [Dev.portOn, Dev.is]

/-- A link's speed fits MAC_PORT_STATUS.SPEED (R122). -/
theorem Dev.upSpeed_lt (d : Dev) (p phy : Nat) : d.upSpeed p phy < 4 := by
  have hf : d.rd (.mac (.PORT_CTRL_SPEED_FORCE p)) < 4 := d.rd_lt _
  unfold Dev.upSpeed
  split
  · split <;> omega
  · decide
  · decide

/-- Link state is read from its field alone. -/
theorem Dev.linkUp_congr {d e : Dev} {p : Nat} (h : e.rd (.mac (.PORT_STATUS_LINK_UP p)) = d.rd (.mac (.PORT_STATUS_LINK_UP p))) :
    e.linkUp p = d.linkUp p := by
  simp [Dev.linkUp, Dev.is, h]

/-! ### The Almanac at link bring-up -/

/-- Bring-up writes one Almanac line and latches its value (R458). -/
theorem Dev.almBringUp_kept (d : Dev) (p : Nat) (value : List Byte) :
    Kept [] [.mem, .marks, .writeBacks, .cal] d (d.almBringUp p value) := by
  have hw : ∀ (e : Dev) (bs : List Byte), Kept [] [.mem, .marks, .writeBacks, .cal] d e →
      Kept [] [.mem, .marks, .writeBacks, .cal] d (e.almWrite p bs) :=
    fun e bs h => h.writeLine _ _ _ (by decide) (by decide) (by decide)
  exact (hw _ _ (hw _ _ (.refl d))).withCal _ (by decide)

/-! ### Link down with no frame queued -/

/-- What a sweep over the empty queues of port `p` does: the port's lists at most, which stay empty, its link timer kept. -/
def Swept (p : Nat) (d e : Dev) : Prop :=
  Kept [] [.ports] d e ∧ QueuesEmpty e p ∧ (e.port p).anTimer = (d.port p).anTimer

/-- Removing from a queue that holds nothing completes no entry. -/
theorem Swept.txRemove {d e : Dev} {p q : Nat} (h : Swept p d e) (hq : q < 8) (r : TxEnt → Bool) (status : Nat) :
    Swept p d (e.txRemove p q r status) := by
  obtain ⟨hk, he, ht⟩ := h
  have hnil : (e.port p).txq.getD q [] = [] := he ⟨q, hq⟩
  have heq : e.txRemove p q r status =
      e.modPort p (fun x => { x with txq := bankAt 8 [] x.txq q (fun l => l.filter (fun t => !r t)) }) := by
    unfold Dev.txRemove
    simp only [hnil, List.filter_nil, List.foldl_nil]
  rw [heq]
  refine ⟨hk.modPort p _ (by decide), fun i => ?_, ?_⟩
  · rw [Dev.port_modPort]
    split
    · dsimp only
      rw [getD_bankAt, hnil]
      split
      · rfl
      · exact he i
    · exact he i
  · rw [Dev.port_modPort]
    split <;> exact ht

/-- All queues swept, one after the other. -/
theorem Swept.foldl_txRemove {p : Nat} (r : TxEnt → Bool) (status : Nat) (l : List Nat) (hl : ∀ q ∈ l, q < 8) {d e : Dev}
    (h : Swept p d e) : Swept p d (l.foldl (fun d q => d.txRemove p q r status) e) := by
  induction l generalizing e with
  | nil => exact h
  | cons q qs ih => exact ih (fun x hx => hl x (by simp [hx])) (h.txRemove (hl q (by simp)) r status)

/-- The registers of a port that declares link down (R125). -/
def Dev.linkDownRegs (d : Dev) (p : Nat) : Dev :=
  ((d.wr (.mac (.PORT_STATUS_LINK_UP p)) 0).wr (.mac (.PORT_STATUS_AN_DONE p)) 0).macEvent (.PORT_STATUS_LINK_CHG p)
    (.PORT_CTRL_IRQ_LINK_EN p) p

theorem Dev.port_linkDownRegs (d : Dev) (p q : Nat) : (d.linkDownRegs p).port q = d.port q := by
  simp [Dev.linkDownRegs, Dev.macEvent, Dev.port]

/-- The fields that link down writes. -/
def linkDownFields (p : Nat) : List Fld :=
  [.mac (.PORT_STATUS_LINK_UP p), .mac (.PORT_STATUS_AN_DONE p), .mac (.PORT_STATUS_LINK_CHG p)]

theorem Dev.linkDownRegs_kept (d : Dev) (p : Nat) : Kept (linkDownFields p) [.irqs] d (d.linkDownRegs p) := by
  refine (((Kept.refl d).wr 0 ?_).wr 0 ?_).event _ _ ?_ ?_ <;> simp [linkDownFields]

/-- Link down of a port whose link is up: its status, then its queues (R125, R152). -/
theorem Dev.linkDown_of_up (d : Dev) (p : Nat) (hu : d.linkUp p = true) :
    d.linkDown p = (List.range 8).foldl (fun d q => d.txRemove p q (fun _ => true) 5) (d.linkDownRegs p) := by
  simp only [Dev.linkDown, Dev.linkDownRegs, hu, Bool.not_true, Bool.false_eq_true, if_false, Dev.wrs_cons, Dev.wrs_nil]

theorem Dev.linkDown_of_down (d : Dev) (p : Nat) (hu : d.linkUp p = false) : d.linkDown p = d := by
  simp only [Dev.linkDown, hu, Bool.not_false, if_true]

/-- With no frame queued, what follows the status is a sweep of empty queues. -/
theorem Dev.linkDown_swept (d : Dev) (p : Nat) (hu : d.linkUp p = true) (hq : QueuesEmpty d p) :
    Swept p (d.linkDownRegs p) (d.linkDown p) := by
  have hs : Swept p (d.linkDownRegs p) (d.linkDownRegs p) := ⟨.refl _, fun q => d.port_linkDownRegs p p ▸ hq q, rfl⟩
  rw [d.linkDown_of_up p hu]
  exact hs.foldl_txRemove _ 5 (List.range 8) (fun q h => List.mem_range.mp h)

section
variable (d : Dev) (p : Nat) (hq : QueuesEmpty d p)
include hq

theorem Dev.linkDown_kept : Kept (linkDownFields p) [.irqs, .ports] d (d.linkDown p) := by
  cases hu : d.linkUp p
  · rw [d.linkDown_of_down p hu]
    exact .refl d
  · exact ((d.linkDownRegs_kept p).mono (by simp) (by simp)).trans ((d.linkDown_swept p hu hq).1.mono (by simp) (by simp))

/-- Of a port whose link was up, every register reads as its link-down status says. -/
theorem Dev.rd_linkDown (hu : d.linkUp p = true) {f : Fld} (hf : isCount f = false) :
    (d.linkDown p).rd f = (d.linkDownRegs p).rd f :=
  (d.linkDown_swept p hu hq).1.rd (by simp) hf

/-- After link down no link is up. -/
theorem Dev.linkUp_linkDown : (d.linkDown p).linkUp p = false := by
  cases hu : d.linkUp p
  · rw [d.linkDown_of_down p hu, hu]
  · rw [Dev.linkUp_congr (d.rd_linkDown p hq hu rfl)]
    simp [Dev.linkUp, Dev.is, Dev.linkDownRegs, Dev.macEvent]

theorem Dev.anTimer_linkDown : ((d.linkDown p).port p).anTimer = (d.port p).anTimer := by
  cases hu : d.linkUp p
  · rw [d.linkDown_of_down p hu]
  · obtain ⟨-, -, ht⟩ := d.linkDown_swept p hu hq
    rw [ht, d.port_linkDownRegs]

end

end Sys2Proof.Machine
end

section
/-! SUPPORT.  The commands of chapter 04's link state and MDIO: their effects, clause by clause, and the statement they settle (R122 to R129). -/

namespace Sys2Proof.Machine

open Sys2Proof.Safety Sys2Proof.Claims

/-! ### LINK_UP -/

/-- A 1000BASE-X partner without full duplex is refused and the link timer started (R123). -/
theorem effect_linkUp_refused (s : State) (p speed pause : Fin 4) (lane : List Byte) (hs : s.held = false)
    (hu : s.dev.linkUp p = false) (ha : s.dev.portAsleep p = false) (hm : s.dev.rd (.mac (.PORT_CTRL_MODE p)) = 1)
    (hn : s.dev.autoneg p = true) :
    Effect (.linkUp p speed pause false lane) s [.mac (.PORT_STATUS_SYNC p), .mac (.AN_ERR_DUPLEX p)] [.ports] (fun t =>
      Counts s.dev t (.mac (.AN_ERR_DUPLEX p)) ∧ t.linkUp p = false ∧ (t.port p).anTimer = true) := by
  have hx : exec (.linkUp p speed pause false lane) s = .next { s with
      dev := ((s.dev.wr (.mac (.PORT_STATUS_SYNC p)) 1).inc (.mac (.AN_ERR_DUPLEX p))).modPort p (fun x => { x with anTimer := true }) } := by
    show execLinkUp p speed pause false lane s = _
    rw [execLinkUp, State.run_live s _ hs]
    simp [hu, ha, hm, hn]
  refine Effect.of_next hx ((((Kept.refl _).wr 1 (by simp)).inc (by simp)).modPort _ _ (by simp)) ⟨?_, ?_, ?_⟩
  · simp [Counts]
  · rw [Dev.linkUp_congr (d := s.dev) (by simp), hu]
  · simp

/-- The registers of a port whose link comes up (R122, R125). -/
def Dev.linkUpRegs (d : Dev) (p speed pause : Nat) : Dev :=
  (d.wrs [(.mac (.PORT_STATUS_SYNC p), 1), (.mac (.PORT_STATUS_LINK_UP p), 1), (.mac (.PORT_STATUS_SPEED p), d.upSpeed p speed),
    (.mac (.PORT_STATUS_AN_DONE p), b2n (d.autoneg p)),
    (.mac (.PORT_STATUS_LP_PAUSE p), if d.rd (.mac (.PORT_CTRL_MODE p)) = 1 then pause else 0)]).macEvent (.PORT_STATUS_LINK_CHG p)
      (.PORT_CTRL_IRQ_LINK_EN p) p

/-- The link comes up, with its lane's Almanac entry (R122, R125, R458). -/
theorem effect_linkUp_accepted (s : State) (p speed pause : Fin 4) (fd : Bool) (lane : List Byte) (hs : s.held = false)
    (hu : s.dev.linkUp p = false) (ha : s.dev.portAsleep p = false)
    (hc : s.dev.rd (.mac (.PORT_CTRL_MODE p)) ≠ 1 ∨ s.dev.autoneg p = false ∨ fd = true) :
    Effect (.linkUp p speed pause fd lane) s [.mac (.PORT_STATUS_SYNC p), .mac (.PORT_STATUS_LINK_UP p),
        .mac (.PORT_STATUS_SPEED p), .mac (.PORT_STATUS_AN_DONE p), .mac (.PORT_STATUS_LP_PAUSE p), .mac (.PORT_STATUS_LINK_CHG p)]
        [.irqs, .mem, .marks, .writeBacks, .cal] (fun t =>
      t.rd (.mac (.PORT_STATUS_SYNC p)) = 1 ∧ t.rd (.mac (.PORT_STATUS_LINK_UP p)) = 1 ∧ t.rd (.mac (.PORT_STATUS_LINK_CHG p)) = 1 ∧
      t.rd (.mac (.PORT_STATUS_SPEED p)) = s.dev.upSpeed p speed ∧
      t.rd (.mac (.PORT_STATUS_AN_DONE p)) = (if s.dev.autoneg p then 1 else 0) ∧
      t.rd (.mac (.PORT_STATUS_LP_PAUSE p)) = (if s.dev.rd (.mac (.PORT_CTRL_MODE p)) = 1 then pause.val else 0)) := by
  have hn : ¬ (s.dev.rd (.mac (.PORT_CTRL_MODE p)) = 1 ∧ s.dev.autoneg p = true ∧ fd = false) := by
    rintro ⟨h1, h2, h3⟩
    simp [h1, h2, h3] at hc
  have hx : exec (.linkUp p speed pause fd lane) s = .next { s with dev := (s.dev.linkUpRegs p speed pause).almBringUp p lane } := by
    show execLinkUp p speed pause fd lane s = _
    rw [execLinkUp, State.run_live s _ hs]
    simp [hu, ha, hn, Dev.linkUpRegs]
  have hk := (s.dev.linkUpRegs p speed pause).almBringUp_kept p lane
  have hr : ∀ {f : Fld}, isCount f = false →
      ((s.dev.linkUpRegs p speed pause).almBringUp p lane).rd f = (s.dev.linkUpRegs p speed pause).rd f := fun h => hk.rd (by simp) h
  refine Effect.of_next hx (Kept.trans ?_ (hk.mono (by simp) (by simp))) ⟨?_, ?_, ?_, ?_, ?_, ?_⟩
  · exact ((((((Kept.refl _).wr _ (by simp)).wr _ (by simp)).wr _ (by simp)).wr _ (by simp)).wr _ (by simp)).event _ _ (by simp) (by simp)
  · rw [hr rfl]; simp [Dev.linkUpRegs, Dev.macEvent]
  · rw [hr rfl]; simp [Dev.linkUpRegs, Dev.macEvent]
  · rw [hr rfl]; simp [Dev.linkUpRegs, Dev.macEvent]
  · rw [hr rfl]; simp [Dev.linkUpRegs, Dev.macEvent, Nat.mod_eq_of_lt (s.dev.upSpeed_lt p speed)]
  · rw [hr rfl]; cases h : s.dev.autoneg p <;> simp [Dev.linkUpRegs, Dev.macEvent, h, b2n]
  · rw [hr rfl]; split <;> simp [*, Dev.linkUpRegs, Dev.macEvent, Nat.mod_eq_of_lt pause.isLt]

/-! ### LINK_DOWN -/

/-- A port whose link is up before it declares link down: synchronisation lost, a frame in reception counted (R125, R156). -/
def Dev.beforeLinkDown (d : Dev) (p : Nat) (syncLost inFrame : Bool) : Dev :=
  let e := if syncLost then d.wr (.mac (.PORT_STATUS_SYNC p)) 0 else d
  if inFrame ∧ e.portOn p then e.macCnt p 20 else e

section
variable (d : Dev) (p : Nat) (syncLost inFrame : Bool)

theorem Dev.beforeLinkDown_kept :
    Kept [.mac (.PORT_STATUS_SYNC p), .mac (.CNT_COUNT p 20)] [] d (d.beforeLinkDown p syncLost inFrame) := by
  have h : Kept [.mac (.PORT_STATUS_SYNC p), .mac (.CNT_COUNT p 20)] [] d (if syncLost then d.wr (.mac (.PORT_STATUS_SYNC p)) 0 else d) :=
    .ite _ (fun _ => (Kept.refl d).wr 0 (by simp)) (fun _ => .refl d)
  exact .ite _ (fun _ => h.inc (by simp)) (fun _ => h)

theorem Dev.rd_sync_beforeLinkDown : (d.beforeLinkDown p syncLost inFrame).rd (.mac (.PORT_STATUS_SYNC p)) =
    if syncLost then 0 else d.rd (.mac (.PORT_STATUS_SYNC p)) := by
  have hc : ∀ (e : Dev) (q : Prop) [Decidable q], (if q then e.macCnt p 20 else e).rd (.mac (.PORT_STATUS_SYNC p)) =
      e.rd (.mac (.PORT_STATUS_SYNC p)) := fun e q _ => by split <;> simp [Dev.macCnt]
  unfold Dev.beforeLinkDown
  rw [hc]
  split <;> simp

theorem Dev.counts_beforeLinkDown (hi : inFrame = true) (ho : d.portOn p = true) :
    Counts d (d.beforeLinkDown p syncLost inFrame) (.mac (.CNT_COUNT p 20)) := by
  cases syncLost <;> simp [Dev.beforeLinkDown, Dev.macCnt, Counts, hi, ho]

end

/-- A link that is up is lost (R125, R152, R156). -/
theorem effect_linkDown (s : State) (p : Fin 4) (syncLost inFrame : Bool) (hs : s.held = false) (hu : s.dev.linkUp p = true)
    (hq : QueuesEmpty s.dev p) :
    Effect (.linkDown p syncLost inFrame) s [.mac (.PORT_STATUS_SYNC p), .mac (.PORT_STATUS_LINK_UP p), .mac (.PORT_STATUS_AN_DONE p),
        .mac (.PORT_STATUS_LINK_CHG p), .mac (.CNT_COUNT p 20)] [.irqs, .ports] (fun t =>
      t.linkUp p = false ∧ t.rd (.mac (.PORT_STATUS_AN_DONE p)) = 0 ∧ t.rd (.mac (.PORT_STATUS_LINK_CHG p)) = 1 ∧
      t.rd (.mac (.PORT_STATUS_SYNC p)) = (if syncLost then 0 else s.dev.rd (.mac (.PORT_STATUS_SYNC p))) ∧
      (inFrame = true → s.dev.portOn p = true → Counts s.dev t (.mac (.CNT_COUNT p 20)))) := by
  have hx : exec (.linkDown p syncLost inFrame) s = .next { s with dev := (s.dev.beforeLinkDown p syncLost inFrame).linkDown p } := by
    show execLinkDown p syncLost inFrame s = _
    rw [execLinkDown, State.run_live s _ hs]
    simp [hu, Dev.beforeLinkDown]
  have hb := s.dev.beforeLinkDown_kept p syncLost inFrame
  have hpt : (s.dev.beforeLinkDown p syncLost inFrame).ports = s.dev.ports := hb.same (x := .ports) (by simp)
  have hsync := s.dev.rd_sync_beforeLinkDown p syncLost inFrame
  have hcnt := s.dev.counts_beforeLinkDown p syncLost inFrame
  generalize s.dev.beforeLinkDown p syncLost inFrame = e at hx hb hpt hsync hcnt
  have hu' : e.linkUp p = true := by rw [Dev.linkUp_congr (hb.rd (by simp) rfl), hu]
  have hq' : QueuesEmpty e p := fun q => by simpa [Dev.port, hpt] using hq q
  have hd := e.linkDown_kept p hq'
  refine Effect.of_next hx ((hb.mono (by simp) (by simp)).trans (hd.mono (by simp [linkDownFields]) (by simp)))
    ⟨e.linkUp_linkDown p hq', ?_, ?_, ?_, ?_⟩
  · rw [e.rd_linkDown p hq' hu' rfl]
    simp [Dev.linkDownRegs, Dev.macEvent]
  · rw [e.rd_linkDown p hq' hu' rfl]
    simp [Dev.linkDownRegs, Dev.macEvent]
  · rw [hd.rd (by simp [linkDownFields]) rfl, hsync]
  · intro hi ho
    exact (hd.rd (by simp [linkDownFields]) rfl).trans (hcnt hi ho)

/-! ### Autonegotiation restarted -/

/-- The fields that a restart of autonegotiation writes. -/
def anRestartFields (p : Nat) : List Fld :=
  [.mac (.AN_ERR_RESTART p), .mac (.PORT_STATUS_LINK_UP p), .mac (.PORT_STATUS_AN_DONE p), .mac (.PORT_STATUS_LINK_CHG p)]

section
variable (d : Dev) (p : Nat) (hq : QueuesEmpty d p)
include hq

theorem Dev.anRestart_kept : Kept (anRestartFields p) [.irqs, .ports] d (d.anRestart p) :=
  ((d.linkDown_kept p hq).mono (by simp [linkDownFields, anRestartFields]) (by simp)).inc (by simp [anRestartFields])

theorem Dev.counts_anRestart : Counts d (d.anRestart p) (.mac (.AN_ERR_RESTART p)) := by
  simp [Counts, Dev.anRestart, (d.linkDown_kept p hq).rd (f := .mac (.AN_ERR_RESTART p)) (by simp [linkDownFields]) rfl]

theorem Dev.linkUp_anRestart : (d.anRestart p).linkUp p = false := by
  rw [Dev.linkUp_congr (d := d.linkDown p) (by simp [Dev.anRestart]), d.linkUp_linkDown p hq]

end

/-- The device with the link timer of a port stopped. -/
def Dev.stopAnTimer (d : Dev) (p : Nat) : Dev := d.modPort p (fun x => { x with anTimer := false })

/-- The link timer of a port runs out: a restart, its timer stopped (R123). -/
theorem effect_anLinkTimer (s : State) (p : Fin 4) (hs : s.held = false) (hq : QueuesEmpty s.dev p)
    (ht : (s.dev.port p).anTimer = true) :
    Effect (.anLinkTimer p) s (anRestartFields p) [.irqs, .ports] (fun t =>
      Counts s.dev t (.mac (.AN_ERR_RESTART p)) ∧ t.linkUp p = false ∧ (t.port p).anTimer = false) := by
  have hx : exec (.anLinkTimer p) s = .next { s with dev := (s.dev.stopAnTimer p).anRestart p } := by
    show execAnLinkTimer p s = _
    rw [execAnLinkTimer, State.run_live s _ hs]
    simp only [ht, if_true, Dev.stopAnTimer]
  have hk : Kept (anRestartFields p) [.irqs, .ports] s.dev (s.dev.stopAnTimer p) := (Kept.refl _).modPort _ _ (by simp)
  have hq' : QueuesEmpty (s.dev.stopAnTimer p) p := fun q => by simpa [Dev.stopAnTimer] using hq q
  have ht' : ((s.dev.stopAnTimer p).port p).anTimer = false := by simp [Dev.stopAnTimer]
  have hr : (s.dev.stopAnTimer p).rd (.mac (.AN_ERR_RESTART p)) = s.dev.rd (.mac (.AN_ERR_RESTART p)) := Dev.modPort_rd _ _ _ _
  generalize s.dev.stopAnTimer p = e at hx hk hq' ht' hr
  exact Effect.of_next hx (hk.trans (e.anRestart_kept p hq'))
    ⟨(e.counts_anRestart p hq').of_rd hr, e.linkUp_anRestart p hq', (e.anTimer_linkDown p hq').trans ht'⟩

/-- RESTART_AN where autonegotiation runs (R122). -/
theorem effect_restartAn (s : State) (p : Fin 4) (hs : Awake s) (hq : QueuesEmpty s.dev p) (hn : s.dev.autoneg p = true) :
    Effect (.restartAn p) s (anRestartFields p) [.irqs, .ports] (fun t =>
      Counts s.dev t (.mac (.AN_ERR_RESTART p)) ∧ t.linkUp p = false) := by
  have hn' : (s.dev.count 0x51 0 1).autoneg p = true := by simpa [Dev.autoneg, Dev.is] using hn
  have hq' : QueuesEmpty (s.dev.count 0x51 0 1) p := fun q => by simpa [Dev.port] using hq q
  have hx : exec (.restartAn p) s = .next { s with dev := (s.dev.count 0x51 0 1).anRestart p } := by
    show execRestartAn p s = _
    rw [execRestartAn, State.hostAt_awake s _ _ hs]
    simp [hn']
  exact Effect.of_next hx (((Kept.refl _).counted (.count _ _ _ _)).trans (Dev.anRestart_kept _ p hq'))
    ⟨(Dev.counts_anRestart _ p hq').of_rd (Dev.rd_mac_count ..), Dev.linkUp_anRestart _ p hq'⟩

/-- RESTART_AN where autonegotiation does not run has no effect (R122). -/
theorem effect_restartAn_off (s : State) (p : Fin 4) (hs : Awake s) (hn : s.dev.autoneg p = false) :
    Effect (.restartAn p) s [] [] (fun _ => True) := by
  have hn' : (s.dev.count 0x51 0 1).autoneg p = false := by simpa [Dev.autoneg, Dev.is] using hn
  have hx : exec (.restartAn p) s = .next { s with dev := s.dev.count 0x51 0 1 } := by
    show execRestartAn p s = _
    rw [execRestartAn, State.hostAt_awake s _ _ hs]
    simp [hn']
  exact Effect.of_next hx ((Kept.refl _).counted (.count _ _ _ _)) trivial

/-! ### MDIO -/

/-- The word of an MDIO frame: MAC_MDIO_CMD's fields (R128). -/
def MdioOp.word (m : MdioOp) : Nat := m.wdata + 2 ^ 16 * m.regDev + 2 ^ 21 * m.phyad + 2 ^ 26 * m.op + (if m.c45 then 2 ^ 28 else 0)

/-- Operands within the fields of MAC_MDIO_CMD. -/
def MdioOp.fits (m : MdioOp) : Prop := m.wdata < 65536 ∧ m.regDev < 32 ∧ m.phyad < 32 ∧ m.op < 4

section
variable {s : State} {c : Sys2Proof.Instr} {m : MdioOp} (hs : Awake s)
  (hc : exec c s = s.host (fun d => d.mdioOp m.c45 m.op m.phyad m.regDev m.wdata))
include hs hc

/-- An MDIO operation while none is in progress is issued (R128, R129). -/
theorem effect_mdioOp_idle (hm : m.fits) (hb : s.dev.rd (.mac .MDIO_STATUS_BUSY) = 0) :
    Effect c s [.mac .MDIO_STATUS_BUSY] [.mdio, .out, .hep] (fun t =>
      t.rd (.mac .MDIO_STATUS_BUSY) = 1 ∧ t.mdio = some m ∧ t.out = s.dev.out ++ ([.mdio m.word] : List Outbound)) := by
  have hw : m.wdata % 65536 + m.regDev % 32 * 2 ^ 16 + m.phyad % 32 * 2 ^ 21 + m.op % 4 * 2 ^ 26 + b2n m.c45 * 2 ^ 28 = m.word := by
    obtain ⟨hd, hr, hp, ho⟩ := hm
    rw [Nat.mod_eq_of_lt hd, Nat.mod_eq_of_lt hr, Nat.mod_eq_of_lt hp, Nat.mod_eq_of_lt ho, MdioOp.word, b2n]
    split <;> ring
  have hx : exec c s = .next { s with
      dev := (({ s.dev.count 0x51 0 1 with mdio := some m } : Dev).wr (.mac .MDIO_STATUS_BUSY) 1).emit (.mdio m.word) } := by
    rw [hc, State.host_awake s _ hs, Dev.mdioOp, if_neg (by simp [Dev.is, hb])]
    simp only [hw]
  refine Effect.of_next hx ?_ ⟨by simp, by simp, by simp [Dev.emit]⟩
  exact ((((Kept.refl _).counted (.count _ _ _ _)).withMdio _ (by simp)).wr 1 (by simp)).emit _ (by simp) (by simp)

/-- An MDIO operation while one is in progress is discarded and counted (R129). -/
theorem effect_mdioOp_busy (hb : s.dev.rd (.mac .MDIO_STATUS_BUSY) = 1) :
    Effect c s [.mac .MDIO_STATUS_REFUSED] [] (fun t => Counts s.dev t (.mac .MDIO_STATUS_REFUSED)) := by
  have hx : exec c s = .next { s with dev := (s.dev.count 0x51 0 1).inc (.mac .MDIO_STATUS_REFUSED) } := by
    rw [hc, State.host_awake s _ hs, Dev.mdioOp, if_pos (by simp [Dev.is, hb])]
  exact Effect.of_next hx (((Kept.refl _).counted (.count _ _ _ _)).inc (by simp)) (by simp [Counts])

end

/-- What a read frame brings: what a PHY drove, all ones where none did (R129). -/
def mdioAnswer (answer : Option (BitVec 16)) : Nat :=
  match answer with
  | some a => a.toNat
  | none => 0xFFFF

theorem mdioAnswer_lt (answer : Option (BitVec 16)) : mdioAnswer answer < 2 ^ 16 := by
  cases answer with
  | none => decide
  | some a => exact a.isLt

/-- The device with no MDIO operation in progress. -/
def Dev.mdioFreed (d : Dev) : Dev := ({ d with mdio := none } : Dev).wr (.mac .MDIO_STATUS_BUSY) 0

/-- The device after an MDIO operation has completed, before its event: BUSY cleared, a read's data in DATA (R129). -/
def Dev.mdioEnded (d : Dev) (m : MdioOp) (answer : Option (BitVec 16)) : Dev :=
  if (if m.c45 then 2 ≤ m.op else m.op = 2) then d.mdioFreed.wr (.mac .MDIO_STATUS_DATA) (mdioAnswer answer) else d.mdioFreed

section
variable (d : Dev) (m : MdioOp) (answer : Option (BitVec 16))

theorem Dev.mdioEnded_kept : Kept [.mac .MDIO_STATUS_BUSY, .mac .MDIO_STATUS_DATA] [.mdio] d (d.mdioEnded m answer) := by
  have h : Kept [.mac .MDIO_STATUS_BUSY, .mac .MDIO_STATUS_DATA] [.mdio] d d.mdioFreed :=
    ((Kept.refl d).withMdio none (by simp)).wr 0 (by simp)
  exact .ite _ (fun _ => h.wr _ (by simp)) (fun _ => h)

theorem Dev.mdio_mdioEnded : (d.mdioEnded m answer).mdio = none := by
  rw [Dev.mdioEnded, apply_ite Dev.mdio, Dev.wr_mdio]
  exact ite_self _

theorem Dev.rd_busy_mdioEnded : (d.mdioEnded m answer).rd (.mac .MDIO_STATUS_BUSY) = 0 := by
  have h : d.mdioFreed.rd (.mac .MDIO_STATUS_BUSY) = 0 := by simp [Dev.mdioFreed]
  have hw : (d.mdioFreed.wr (.mac .MDIO_STATUS_DATA) (mdioAnswer answer)).rd (.mac .MDIO_STATUS_BUSY) = 0 := by simp [h]
  rw [Dev.mdioEnded, apply_ite (fun e => Dev.rd e _), h, hw]
  exact ite_self _

theorem Dev.rd_data_mdioEnded : (d.mdioEnded m answer).rd (.mac .MDIO_STATUS_DATA) =
    if (if m.c45 then 2 ≤ m.op else m.op = 2) then mdioAnswer answer else d.rd (.mac .MDIO_STATUS_DATA) := by
  have h : d.mdioFreed.rd (.mac .MDIO_STATUS_DATA) = d.rd (.mac .MDIO_STATUS_DATA) := by
    rw [Dev.mdioFreed, Dev.rd_wr, if_neg (by simp)]
    rfl
  rw [Dev.mdioEnded, apply_ite (fun e => Dev.rd e _), Dev.rd_wr, if_pos rfl, mdioStatusData_width,
    Nat.mod_eq_of_lt (mdioAnswer_lt answer), h]

end

/-- The MDIO event, raised where its enable is set (R129). -/
def Dev.mdioEvent (d : Dev) : Dev := if d.is (.mac .MDIO_CFG_IRQ_EN) then d.hepEvent 2 else d

section
variable (d : Dev)

theorem Dev.mdioEvent_kept : Kept [] [.irqs] d d.mdioEvent :=
  .ite _ (fun _ => (Kept.refl d).hepEvent 2 (by simp)) (fun _ => .refl d)

@[simp] theorem Dev.rd_mdioEvent (f : Fld) : d.mdioEvent.rd f = d.rd f := by
  unfold Dev.mdioEvent
  split <;> simp

@[simp] theorem Dev.mdioEvent_mdio : d.mdioEvent.mdio = d.mdio := by
  unfold Dev.mdioEvent
  split <;> simp

/-- A request leaves when both enables are set (R129, R364). -/
theorem Dev.irqs_mdioEvent : d.mdioEvent.irqs = d.irqs ++
    (if d.rd (.mac .MDIO_CFG_IRQ_EN) = 1 ∧ d.rd (.hep (.EVT_VEC_EN 2)) = 1 then [(0, d.rd (.hep (.EVT_VEC_VECTOR 2)))] else []) := by
  have hen := d.is_iff_of_width_one (f := .mac .MDIO_CFG_IRQ_EN) rfl
  have hve := d.is_iff_of_width_one (f := .hep (.EVT_VEC_EN 2)) rfl
  unfold Dev.mdioEvent
  split
  · rename_i h
    simp only [Dev.hepEvent_eq, hve, hen.mp h, true_and]
  · rename_i h
    rw [if_neg (fun hc => h (hen.mpr hc.1)), List.append_nil]

end

/-- An MDIO operation completes (R129). -/
theorem effect_mdioComplete (s : State) (m : MdioOp) (answer : Option (BitVec 16)) (hs : s.held = false)
    (hm : s.dev.mdio = some m) :
    Effect (.mdioComplete answer) s [.mac .MDIO_STATUS_BUSY, .mac .MDIO_STATUS_DATA] [.mdio, .irqs] (fun t =>
      t.mdio = none ∧ t.rd (.mac .MDIO_STATUS_BUSY) = 0 ∧
      t.rd (.mac .MDIO_STATUS_DATA) =
        (if (if m.c45 then 2 ≤ m.op else m.op = 2) then mdioAnswer answer else s.dev.rd (.mac .MDIO_STATUS_DATA)) ∧
      t.irqs = s.dev.irqs ++ (if s.dev.rd (.mac .MDIO_CFG_IRQ_EN) = 1 ∧ s.dev.rd (.hep (.EVT_VEC_EN 2)) = 1
        then [(0, s.dev.rd (.hep (.EVT_VEC_VECTOR 2)))] else [])) := by
  have hx : exec (.mdioComplete answer) s = .next { s with dev := (s.dev.mdioEnded m answer).mdioEvent } := by
    show execMdioComplete answer s = _
    unfold execMdioComplete
    rw [State.run_live s _ hs, hm]
    rfl
  have hk := s.dev.mdioEnded_kept m answer
  have hi : (s.dev.mdioEnded m answer).irqs = s.dev.irqs := hk.same (x := .irqs) (by simp)
  refine Effect.of_next hx ((hk.mono (by simp) (by simp)).trans ((Dev.mdioEvent_kept _).mono (by simp) (by simp))) ⟨?_, ?_, ?_, ?_⟩
  · rw [Dev.mdioEvent_mdio, Dev.mdio_mdioEnded]
  · rw [Dev.rd_mdioEvent, Dev.rd_busy_mdioEnded]
  · rw [Dev.rd_mdioEvent, Dev.rd_data_mdioEnded]
  · rw [Dev.irqs_mdioEvent, hi, hk.rd (by simp) rfl, hk.rd (by simp) rfl, hk.rd (by simp) rfl]

/-! ### The statement -/

/-- Settles O16, clause by clause: the effects of LINK_UP, LINK_DOWN, AN_LINK_TIMER, RESTART_AN, the six MDIO operations and MDIO_COMPLETE. -/
theorem portLinksAndMdio : Obligations.PortLinksAndMdio := by
  unfold Obligations.PortLinksAndMdio
  intro s p speed pause fd syncLost inFrame lane hs
  have hlive : s.held = false := hs.1
  refine ⟨fun hu ha => ⟨?_, ?_⟩, ?_, fun hq => ⟨?_, ?_⟩, ?_, ?_, ?_⟩
  · exact effect_linkUp_refused s p speed pause lane hlive hu ha
  · exact effect_linkUp_accepted s p speed pause fd lane hlive hu ha
  · exact effect_linkDown s p syncLost inFrame hlive
  · exact effect_anLinkTimer s p hlive hq
  · exact effect_restartAn s p hs hq
  · exact effect_restartAn_off s p hs
  · intro phy reg data c m hcm
    have hop : m.fits ∧ m.phyad = phy ∧ m.regDev = reg ∧
        exec c s = s.host (fun d => d.mdioOp m.c45 m.op m.phyad m.regDev m.wdata) := by
      have hd := data.isLt
      simp only [List.mem_cons, Prod.mk.injEq, List.not_mem_nil, or_false] at hcm
      rcases hcm with ⟨rfl, rfl⟩ | ⟨rfl, rfl⟩ | ⟨rfl, rfl⟩ | ⟨rfl, rfl⟩ | ⟨rfl, rfl⟩ | ⟨rfl, rfl⟩ <;>
        exact ⟨by simp only [MdioOp.fits]; omega, rfl, rfl, rfl⟩
    obtain ⟨hfits, hphy, hreg, hexec⟩ := hop
    rw [← hphy, ← hreg]
    exact ⟨effect_mdioOp_idle hs hexec hfits, effect_mdioOp_busy hs hexec⟩
  · exact fun m answer => effect_mdioComplete s m answer hlive

end Sys2Proof.Machine
end

section
/-! SUPPORT.  What register writes, time, slot occurrences and engines change, as frames of an effect. -/

namespace Sys2Proof.Safety

open Sys2Proof.Machine

/-! ### More primitive updates in a frame -/

theorem Kept.later {F : List Fld} {P : List Part} {d e : Dev} (h : Later d e) (ht : .time ∈ P) (hk : .tick ∈ P) (hp : .ports ∈ P) :
    Kept F P d e := by
  refine ⟨fun f _ hc => h.rd f hc, fun x hx => ?_⟩
  obtain ⟨r, w, p, n, tb, tf, ph, c, rfl, -⟩ := h
  cases x <;> simp_all [Part.Same]

variable {F : List Fld} {P : List Part} {d e : Dev}

theorem Kept.withTick (h : Kept F P d e) (t : Tick) (ht : .tick ∈ P) : Kept F P d { e with tick := t } := by
  refine h.trans (.of_regs rfl fun x hx => ?_)
  cases x <;> simp_all [Part.Same]

theorem Kept.modOcc (h : Kept F P d e) (n : Nat) (g : Occ → Occ) (ht : .tick ∈ P) : Kept F P d (e.modOcc n g) := h.withTick _ ht

theorem Kept.modEngine (h : Kept F P d e) (n : Nat) (g : Engine → Engine) (hg : .engines ∈ P) : Kept F P d (e.modEngine n g) := by
  refine h.trans (.of_regs rfl fun x hx => ?_)
  cases x <;> simp_all [Part.Same]

theorem Kept.fault (h : Kept F P d e) (code detail : Nat) (hs : .toSafe ∈ P) : Kept F P d (e.fault code detail) := by
  refine h.trans (.of_regs rfl fun x hx => ?_)
  cases x <;> simp_all [Part.Same]

theorem Kept.wrs (h : Kept F P d e) (l : List (Fld × Nat)) (hl : ∀ x ∈ l, x.1 ∈ F) : Kept F P d (e.wrs l) := by
  induction l generalizing e with
  | nil => exact h
  | cons x xs ih => exact ih (h.wr x.2 (hl x (by simp))) (fun y hy => hl y (by simp [hy]))

end Sys2Proof.Safety
end

section
/-! SUPPORT.  The tick as CORE sees it: frames dropped, completions written and best-effort work preempted leave it. -/

namespace Sys2Proof.Machine

open Sys2Proof.Safety Sys2Proof.Claims

/-- Steps that leave the tick leave it in a row. -/
theorem Dev.foldl_tick {α : Type} (l : List α) (g : Dev → α → Dev) (hg : ∀ d x, (g d x).tick = d.tick) (d : Dev) :
    (l.foldl g d).tick = d.tick := by
  induction l generalizing d with
  | nil => rfl
  | cons x xs ih => exact (ih _).trans (hg d x)

theorem Aside.tick {d e : Dev} (h : Aside d e) : e.tick = d.tick := by
  obtain ⟨r, m, n, rfl, -⟩ := h
  rfl

@[simp] theorem Dev.retire_tick (d b : Dev) (e : Nat) (r : Retired) : (d.retire b e r).tick = d.tick := (Aside.retire d b e r).tick

@[simp] theorem Dev.wrs_tick (d : Dev) (l : List (Fld × Nat)) : (d.wrs l).tick = d.tick :=
  Dev.foldl_tick l _ (fun d x => d.wr_tick x.1 x.2) d

@[simp] theorem Dev.logFirst_tick (d : Dev) (v : Fld) (l : List (Fld × Nat)) : (d.logFirst v l).tick = d.tick := by
  unfold Dev.logFirst
  split <;> simp

/-! ### Reads and writes of memory lines -/

@[simp] theorem Dev.freshBytes_tick (d : Dev) (k : Nat) : (d.freshBytes k).2.tick = d.tick := by
  induction k generalizing d with
  | zero => rfl
  | succ k ih => exact ih d.fresh.2

@[simp] theorem Dev.uncorrectable_tick (d : Dev) (l : Nat) : (d.uncorrectable l).tick = d.tick := by
  unfold Dev.uncorrectable
  dsimp only
  split
  · simp
  · split <;> simp

@[simp] theorem Dev.readLine_tick (d : Dev) (l : Nat) : (d.readLine l).2.2.tick = d.tick := by
  unfold Dev.readLine Dev.garble
  dsimp only
  split
  all_goals
    split
    · simp
    · simp only [apply_ite Dev.tick, apply_ite Prod.snd, Dev.incBy_tick, Dev.freshBytes_tick, Dev.fresh_tick, ite_self]

@[simp] theorem Dev.writePart_tick (d : Dev) (l off : Nat) (bs : List Byte) (p : Bool) : (d.writePart l off bs p).tick = d.tick := by
  simp [Dev.writePart]

/-! ### Writes to the host and completions -/

@[simp] theorem Dev.hostTlp_tick (d : Dev) (f addr : Nat) (bs : List PByte) : (d.hostTlp f addr bs).tick = d.tick := by
  unfold Dev.hostTlp Dev.hostOut Dev.errCnt
  split
  · split
    · simp
    · dsimp only
      rw [apply_ite Dev.tick]
      simp
  · simp

theorem Dev.splitWrite_tick (tlp : Dev → Nat → List PByte → Dev) (htlp : ∀ d a bs, (tlp d a bs).tick = d.tick) (mps fuel : Nat) (d : Dev)
    (addr : Nat) (bs : List PByte) : (Dev.splitWrite tlp mps fuel d addr bs).tick = d.tick := by
  induction fuel generalizing d addr bs with
  | zero => rfl
  | succ fuel ih =>
    unfold Dev.splitWrite
    split
    · rfl
    · exact (ih _ _ _).trans (htlp _ _ _)

@[simp] theorem Dev.hostWrite_tick (d : Dev) (f addr : Nat) (bs : List PByte) : (d.hostWrite f addr bs).tick = d.tick :=
  Dev.splitWrite_tick _ (fun d a b => d.hostTlp_tick f a b) _ _ _ _ _

@[simp] theorem Dev.cqWrite_tick (d : Dev) (x : Due) : (d.cqWrite x).tick = d.tick := by
  unfold Dev.cqWrite Dev.cqIrq
  simp only [apply_ite Dev.tick, Dev.irq_tick, Dev.hostWrite_tick, Dev.wr_tick, Dev.count_tick, ite_self]

@[simp] theorem Dev.flushDue_tick (d : Dev) : d.flushDue.tick = d.tick := Dev.foldl_tick _ _ Dev.cqWrite_tick _

@[simp] theorem Dev.pushDue_tick (d : Dev) (n idx cookie : Nat) (x : CplEnd) : (d.pushDue n idx cookie x).tick = d.tick := by
  unfold Dev.pushDue Dev.pushDueIn
  split
  · rfl
  · exact Dev.flushDue_tick _

@[simp] theorem Dev.abortDrain_tick (d : Dev) (n fuel : Nat) : (d.abortDrain n fuel).tick = d.tick := by
  induction fuel generalizing d with
  | zero => rfl
  | succ fuel ih =>
    unfold Dev.abortDrain
    split
    · split
      · simp [ih]
      · rfl
    · dsimp only
      split
      · rfl
      · split
        · rfl
        · simp [ih]

@[simp] theorem Dev.endEnt_tick (d : Dev) (n ser : Nat) (x : CplEnd) : (d.endEnt n ser x).tick = d.tick := by
  unfold Dev.endEnt
  split
  · rfl
  · split <;> simp

@[simp] theorem Dev.discard_tick (d : Dev) (f : Frame) : (d.discard f).tick = d.tick := by
  unfold Dev.discard Dev.dropFrame Dev.originEnd
  split <;> simp

/-! ### Best-effort work preempted -/

@[simp] theorem Dev.sbPop_tick (d : Dev) (e : Nat) : (d.sbPop e).tick = d.tick := by
  unfold Dev.sbPop Dev.clusterWrite
  split <;> simp

@[simp] theorem Dev.drain_tick (d : Dev) (e : Nat) : (d.drain e).tick = d.tick := Dev.foldl_tick _ _ (fun d _ => d.sbPop_tick e) d

@[simp] theorem Dev.waitDone_tick (d : Dev) (e : Nat) : (d.waitDone e).tick = d.tick := by
  unfold Dev.waitDone
  split
  · rfl
  · simp [Dev.setWreg, Dev.advance]

@[simp] theorem Dev.engDrop_tick (d : Dev) (e i : Nat) (fs : List Frame) : (d.engDrop e i fs).tick = d.tick :=
  Dev.foldl_tick _ _ (fun d f => by simp [Dev.engCnt]) d

@[simp] theorem Dev.setEngState_tick (d : Dev) (e v : Nat) : (d.setEngState e v).tick = d.tick := by
  unfold Dev.setEngState
  split <;> simp

@[simp] theorem Dev.engIdle_tick (d : Dev) (e : Nat) : (d.engIdle e).tick = d.tick := by simp [Dev.engIdle]

@[simp] theorem Dev.preempt_tick (d : Dev) (e : Nat) : (d.preempt e).tick = d.tick := by
  unfold Dev.preempt
  split
  · rfl
  · dsimp only
    split
    · simp
    · split <;> simp [Dev.giveBack, Dev.returnFrame, Dev.engCnt]

end Sys2Proof.Machine
end

section
/-! SUPPORT.  Slot occurrences: the cycle of the tick, completion records, and the ends of an occurrence (R65 to R68, R77). -/

namespace Sys2Proof.Machine

open Sys2Proof.Safety Sys2Proof.Claims

/-! ### The passing of time in CORE -/

@[simp] theorem Dev.elapse_tick (d : Dev) (n : Nat) : (d.elapse n).tick = { d.tick with cyc := d.tick.cyc + n } := by
  unfold Dev.elapse
  split
  · next h => rw [h]; rfl
  · obtain ⟨r, w, hc, -⟩ := Counted.countCycles _ n _
    rw [hc]
    exact Dev.foldl_tick _ _ (fun d p => d.modPort_tick p _) _

@[simp] theorem Dev.elapseCyc_tick (d : Dev) (c : Nat) : (d.elapseCyc c).tick = { d.tick with cyc := max d.tick.cyc c } := by
  have h : d.tick.cyc + (c - d.tick.cyc) = max d.tick.cyc c := by omega
  rw [Dev.elapseCyc, Dev.elapse_tick, h]

@[simp] theorem Dev.occ_elapseCyc (d : Dev) (c n : Nat) : (d.elapseCyc c).occ n = d.occ n := by simp [Dev.occ]

/-- The slots are those of the Ephemeris in memory. -/
theorem Dev.slot_congr {d e : Dev} (hm : e.mem = d.mem) (hc : e.cfg = d.cfg) (n : Nat) : e.slot n = d.slot n := by
  simp [Dev.slot, Dev.eph, Dev.peek, hm, hc]

@[simp] theorem Dev.slot_elapseCyc (d : Dev) (c n : Nat) : (d.elapseCyc c).slot n = d.slot n :=
  Dev.slot_congr (d.elapse_mem _) (d.elapse_cfg _) n

theorem Dev.elapseCyc_kept (d : Dev) (c : Nat) : Kept [] timeParts d (d.elapseCyc c) :=
  Kept.later (Later.elapse d _) (by simp [timeParts]) (by simp [timeParts]) (by simp [timeParts])

/-! ### Completion records -/

@[simp] theorem slotRecTick_width (n : Nat) : (Fld.tck (.SLOT_REC_TICK n)).width = 32 := rfl
@[simp] theorem slotRecSlot_width (n : Nat) : (Fld.tck (.SLOT_REC_SLOT n)).width = 6 := rfl
@[simp] theorem slotRecStatus_width (n : Nat) : (Fld.tck (.SLOT_REC_STATUS n)).width = 3 := rfl
@[simp] theorem slotRecCancelLate_width (n : Nat) : (Fld.tck (.SLOT_REC_CANCEL_LATE n)).width = 1 := rfl
@[simp] theorem slotRecLateStart_width (n : Nat) : (Fld.tck (.SLOT_REC_LATE_START n)).width = 1 := rfl
@[simp] theorem slotRecUsed_width (n : Nat) : (Fld.tck (.SLOT_REC_USED n)).width = 21 := rfl
@[simp] theorem statusSlotCut_width : (Fld.tck .STATUS_SLOT_CUT).width = 1 := rfl

/-- The device with a completion record of slot `n` in its register (R67). -/
def Dev.recRegs (d : Dev) (n status : Nat) (late lateStart : Bool) (used : Nat) : Dev :=
  d.wrs [(.tck (.SLOT_REC_TICK n), d.tick.coreTick % 2 ^ 32), (.tck (.SLOT_REC_SLOT n), n), (.tck (.SLOT_REC_STATUS n), status),
    (.tck (.SLOT_REC_CANCEL_LATE n), b2n late), (.tck (.SLOT_REC_LATE_START n), b2n lateStart), (.tck (.SLOT_REC_USED n), used)]

section
variable (d : Dev) (n status : Nat) (late lateStart : Bool) (used : Nat)

/-- A record is in its register, and beside it the FIFO has it, its overflow is counted, or neither (R67). -/
theorem Dev.record_cases : d.record n status late lateStart used = d.recRegs n status late lateStart used ∨
    d.record n status late lateStart used = (d.recRegs n status late lateStart used).inc (.tck .REC_OVF_COUNT) ∨
    ∃ fifo, d.record n status late lateStart used =
      { d.recRegs n status late lateStart used with tick := { (d.recRegs n status late lateStart used).tick with fifo := fifo } } := by
  unfold Dev.record
  dsimp only
  split
  · split
    · exact .inr (.inl rfl)
    · exact .inr (.inr ⟨_, rfl⟩)
  · exact .inl rfl

theorem Dev.record_kept : Kept (recFields n) [.tick] d (d.record n status late lateStart used) := by
  have h : Kept (recFields n) [.tick] d (d.recRegs n status late lateStart used) := (Kept.refl d).wrs _ (by simp [recFields])
  obtain hr | hr | ⟨fifo, hr⟩ := d.record_cases n status late lateStart used <;> rw [hr]
  · exact h
  · exact h.inc (by simp [recFields])
  · exact h.withTick _ (by simp)

@[simp] theorem Dev.occ_record (m : Nat) : (d.record n status late lateStart used).occ m = d.occ m := by
  obtain hr | hr | ⟨fifo, hr⟩ := d.record_cases n status late lateStart used <;> rw [hr] <;> simp [Dev.occ, Dev.recRegs]

/-- Of the registers a record writes its own, and the count of overflows at most. -/
theorem Dev.rd_record {f : Fld} (hf : f ≠ .tck .REC_OVF_COUNT) :
    (d.record n status late lateStart used).rd f = (d.recRegs n status late lateStart used).rd f := by
  obtain hr | hr | ⟨fifo, hr⟩ := d.record_cases n status late lateStart used <;> rw [hr]
  · simp [hf]
  · rfl

theorem Dev.recorded_record (hn : n < 64) (hs : status < 8) :
    Recorded (d.record n status late lateStart used) d.tick.coreTick n status (b2n late) (b2n lateStart) used := by
  have hb : ∀ b : Bool, b2n b < 2 := by decide
  simp [Recorded, Dev.rd_record, Dev.recRegs, Nat.mod_eq_of_lt, hn, hs, hb]

end

/-! ### The end of an occurrence -/

@[simp] theorem Dev.modOcc_cyc (d : Dev) (n : Nat) (g : Occ → Occ) : (d.modOcc n g).tick.cyc = d.tick.cyc := rfl
@[simp] theorem Dev.modOcc_coreTick (d : Dev) (n : Nat) (g : Occ → Occ) : (d.modOcc n g).tick.coreTick = d.tick.coreTick := rfl
@[simp] theorem Dev.occ_fault (d : Dev) (c k m : Nat) : (d.fault c k).occ m = d.occ m := rfl

/-- The device with the occurrence of slot `n` over. -/
def Dev.occOver (d : Dev) (n : Nat) : Dev := d.modOcc n (fun o => { o with state := .ended, endAt := d.tick.cyc })

section
variable (d : Dev) (n : Nat)

theorem Dev.state_occOver (hn : n < 64) : ((d.occOver n).occ n).state = .ended := by
  simp [Dev.occOver, hn]

/-- An occurrence that does not run is cancelled: it is over, with its record, no flag set and no cycle used (R76, R77). -/
theorem Dev.endOcc_cancelled (hr : (d.occ n).state ≠ .running) : d.endOcc n 2 = (d.occOver n).record n 2 false false 0 := by
  simp [Dev.endOcc, Dev.occOver, hr]

theorem Dev.endOcc_cancelled_kept (hr : (d.occ n).state ≠ .running) : Kept (recFields n) [.tick] d (d.endOcc n 2) := by
  rw [d.endOcc_cancelled n hr]
  exact ((Kept.refl d).modOcc n _ (by simp)).trans (Dev.record_kept _ _ _ _ _ _)

theorem Dev.endOcc_cancelled_recorded (hn : n < 64) (hr : (d.occ n).state ≠ .running) :
    ((d.endOcc n 2).occ n).state = .ended ∧ Recorded (d.endOcc n 2) d.tick.coreTick n 2 0 0 0 := by
  rw [d.endOcc_cancelled n hr, Dev.occ_record]
  exact ⟨d.state_occOver n hn, (d.occOver n).recorded_record n 2 false false 0 hn (by decide)⟩

/-- The device with the running occurrence of slot `n` over and its record of status CUT made, before the cut is signalled (R67). -/
def Dev.cutRecorded (d : Dev) (n : Nat) : Dev :=
  (d.occOver n).record n 1 (d.occ n).cancelLate ((d.slot n).start + 1 < (d.occ n).dispAt) (d.tick.cyc - (d.occ n).dispAt)

theorem Dev.cutRecorded_kept : Kept (recFields n) [.tick] d (d.cutRecorded n) :=
  ((Kept.refl d).modOcc n _ (by simp)).trans (Dev.record_kept _ _ _ _ _ _)

theorem Dev.recorded_cutRecorded (hn : n < 64) : Recorded (d.cutRecorded n) d.tick.coreTick n 1 (b2n (d.occ n).cancelLate)
    (b2n ((d.slot n).start + 1 < (d.occ n).dispAt)) (d.tick.cyc - (d.occ n).dispAt) :=
  (d.occOver n).recorded_record n 1 _ _ _ hn (by decide)

/-- The device with a cut counted and its event raised (R68). -/
def Dev.cutSignalled (d : Dev) : Dev := (d.inc (.tck .CUT_CNT_COUNT)).tckEvent .STATUS_SLOT_CUT .CTRL_IRQ_CUT_EN

@[simp] theorem Dev.rd_cutSignalled (f : Fld) : d.cutSignalled.rd f =
    if f = .tck .STATUS_SLOT_CUT then 1 else (d.inc (.tck .CUT_CNT_COUNT)).rd f := by
  simp [Dev.cutSignalled, Dev.tckEvent]

@[simp] theorem Dev.occ_cutSignalled (m : Nat) : d.cutSignalled.occ m = d.occ m := by
  simp [Dev.cutSignalled, Dev.tckEvent, Dev.occ]

/-- A running occurrence of no engine slot is cut: its record, the cut's signals, and a safety slot's report (R67, R68). -/
theorem Dev.endOcc_cut (hr : (d.occ n).state = .running) (hk : (d.slot n).kind ≠ 1) :
    d.endOcc n 1 = if (d.slot n).safety then (d.cutRecorded n).cutSignalled.fault 3 n else (d.cutRecorded n).cutSignalled := by
  simp [Dev.endOcc, Dev.carry, Dev.cutRecorded, Dev.cutSignalled, Dev.occOver, hr, hk]

/-- The fields that the cut of slot `n` writes. -/
def cutFields (n : Nat) : List Fld := recFields n ++ ([.tck .CUT_CNT_COUNT, .tck .STATUS_SLOT_CUT] : List Fld)

section
variable (hr : (d.occ n).state = .running) (hk : (d.slot n).kind ≠ 1)
include hr hk

theorem Dev.endOcc_cut_kept : Kept (cutFields n) [.irqs, .toSafe, .tick] d (d.endOcc n 1) := by
  have h1 : Kept (cutFields n) [.irqs, .toSafe, .tick] d (d.cutRecorded n) :=
    (d.cutRecorded_kept n).mono (by simp [cutFields]) (by simp)
  have h2 : Kept (cutFields n) [.irqs, .toSafe, .tick] d (d.cutRecorded n).cutSignalled :=
    (h1.inc (by simp [cutFields])).event _ _ (by simp [cutFields]) (by simp)
  rw [d.endOcc_cut n hr hk]
  exact .ite _ (fun _ => h2.fault _ _ (by simp)) (fun _ => h2)

theorem Dev.occ_endOcc_cut (m : Nat) : (d.endOcc n 1).occ m = (d.occOver n).occ m := by
  rw [d.endOcc_cut n hr hk, apply_ite (fun e => Dev.occ e m)]
  simp [Dev.cutRecorded]

theorem Dev.rd_endOcc_cut (f : Fld) : (d.endOcc n 1).rd f = (d.cutRecorded n).cutSignalled.rd f := by
  rw [d.endOcc_cut n hr hk, apply_ite (fun e => Dev.rd e f)]
  simp

end

end

end Sys2Proof.Machine
end

section
/-! SUPPORT.  The start of a program on an engine, and the dispatch of a slot (R64, R194, R200). -/

namespace Sys2Proof.Machine

open Sys2Proof.Safety Sys2Proof.Claims

/-! ### The start of a program -/

@[simp] theorem pairStatusStateA_width (p : Nat) : (Fld.eng (.PAIR_STATUS_STATE_A p)).width = 3 := rfl
@[simp] theorem pairStatusStateB_width (p : Nat) : (Fld.eng (.PAIR_STATUS_STATE_B p)).width = 3 := rfl

/-- The fields that show the state of engine `e`. -/
def stateFields (e : Nat) : List Fld := [.eng (.PAIR_STATUS_STATE_A (e / 2)), .eng (.PAIR_STATUS_STATE_B (e / 2))]

section
variable (d : Dev) (e : Nat)

/-- The state of an engine is shown in its pair's two fields, and nowhere else. -/
theorem Dev.setEngState_kept (v : Nat) : Kept (stateFields e) [] d (d.setEngState e v) := by
  have ha : Fld.eng (.PAIR_STATUS_STATE_A (e / 2)) ∈ stateFields e := by simp [stateFields]
  have hb : Fld.eng (.PAIR_STATUS_STATE_B (e / 2)) ∈ stateFields e := by simp [stateFields]
  exact .ite _ (fun _ => ((Kept.refl d).wr v ha).wr v hb) (fun _ => (Kept.refl d).wr v (by split <;> assumption))

@[simp] theorem Dev.engine_setEngState (v x : Nat) : (d.setEngState e v).engine x = d.engine x := by
  have h : (d.setEngState e v).engines = d.engines := (d.setEngState_kept e v).same (x := .engines) (by simp)
  rw [Dev.engine, h, Dev.engine]

/-- An engine put in a state shows it, whether its pair runs in lockstep or split. -/
theorem Dev.engState_setEngState (v : Nat) : (d.setEngState e v).engState e = v % 8 := by
  unfold Dev.setEngState Dev.engState
  by_cases hl : d.lockstep (pairOf e) <;> by_cases he : e % 2 = 0 <;> simp [hl, he]

variable (state entry cls slot : Nat) (be : Option Nat) (w1 w2 w3 : Nat)

theorem Dev.engStart_kept : Kept (stateFields e) [.engines] d (d.engStart e state entry cls slot be w1 w2 w3) :=
  ((Kept.refl d).modEngine e _ (by simp)).trans ((Dev.setEngState_kept _ e state).mono (by simp) (by simp))

theorem Dev.engState_engStart : (d.engStart e state entry cls slot be w1 w2 w3).engState e = state % 8 := Dev.engState_setEngState _ e state

@[simp] theorem Dev.occ_engStart (m : Nat) : (d.engStart e state entry cls slot be w1 w2 w3).occ m = d.occ m := by
  have h : (d.engStart e state entry cls slot be w1 w2 w3).tick = d.tick :=
    (d.engStart_kept e state entry cls slot be w1 w2 w3).same (x := .tick) (by simp)
  rw [Dev.occ, h, Dev.occ]

section
variable (he : e < 16)
include he

/-- A program starts at its entry, for its class, with no frame (R194). -/
theorem Dev.engine_engStart :
    ((d.engStart e state entry cls slot be w1 w2 w3).engine e).pc = entry * 4 % 16384 ∧
    ((d.engStart e state entry cls slot be w1 w2 w3).engine e).cls = cls ∧
    ((d.engStart e state entry cls slot be w1 w2 w3).engine e).fr = none ∧
    ((d.engStart e state entry cls slot be w1 w2 w3).engine e).copies = [] := by
  simp [Dev.engStart, he]

/-- A program starts with w1 to w3 as given and every other register 0 and clean (R194). -/
theorem Dev.wreg_engStart (i : Fin 32) : (d.engStart e state entry cls slot be w1 w2 w3).wreg e i =
    (BitVec.ofNat 64 (if i = 1 then w1 else if i = 2 then w2 else if i = 3 then w3 else 0), false) := by
  by_cases hi : i = 0
  · subst hi
    simp [Dev.wreg]
  · simp [Dev.wreg, hi, Dev.engStart, he, Fin.ext_iff]

theorem Dev.wreg_engStart_zero {i : Fin 32} (hi : i = 0 ∨ 4 ≤ i.val) :
    (d.engStart e state entry cls slot be w1 w2 w3).wreg e i = (0, false) := by
  have hne : i ≠ 1 ∧ i ≠ 2 ∧ i ≠ 3 := by
    simp only [ne_eq, Fin.ext_iff]
    obtain rfl | hi := hi
    · decide
    · refine ⟨?_, ?_, ?_⟩ <;> simp <;> omega
  rw [d.wreg_engStart e state entry cls slot be w1 w2 w3 he, if_neg hne.1, if_neg hne.2.1, if_neg hne.2.2]
  rfl

end

end

/-! ### A slot dispatched -/

/-- The device once slot `n` is dispatched, before its task begins (R64). -/
def Dev.dispatched (d : Dev) (n : Nat) : Dev :=
  (d.elapseCyc (max ((d.slot n).start + 1) (d.freeFrom n))).modOcc n (fun o => { o with
    state := .running
    dispAt := max d.tick.cyc (max ((d.slot n).start + 1) (d.freeFrom n)) })

section
variable (d : Dev) (n : Nat)

theorem Dev.dispatched_kept : Kept [] timeParts d (d.dispatched n) := (d.elapseCyc_kept _).modOcc _ _ (by simp [timeParts])

@[simp] theorem Dev.slot_dispatched (m : Nat) : (d.dispatched n).slot m = d.slot m := d.slot_elapseCyc _ m

@[simp] theorem Dev.coreTick_dispatched : (d.dispatched n).tick.coreTick = d.tick.coreTick := by simp [Dev.dispatched]

@[simp] theorem Dev.engState_dispatched (e : Nat) : (d.dispatched n).engState e = d.engState e :=
  (d.dispatched_kept n).rd (by simp) (by split <;> rfl)

@[simp] theorem Dev.slotEngine_dispatched (sl : Slot) : (d.dispatched n).slotEngine sl = d.slotEngine sl := by
  have h : (d.dispatched n).rd (.eng (.PAIR_CFG_MODE sl.pair)) = d.rd (.eng (.PAIR_CFG_MODE sl.pair)) :=
    (d.dispatched_kept n).rd (by simp) rfl
  simp [Dev.slotEngine, Dev.lockstep, h]

theorem Dev.slotEngine_lt (sl : Slot) : d.slotEngine sl < 16 := by
  have hp : sl.pair < 8 := Nat.mod_lt _ (by decide)
  have hh : sl.half < 2 := Nat.mod_lt _ (by decide)
  unfold Dev.slotEngine
  split <;> omega

theorem Dev.state_dispatched (hn : n < 64) : ((d.dispatched n).occ n).state = .running := by simp [Dev.dispatched, hn]

/-- In `t`, engine `e` runs the program of slot `n` of `d` from its entry: tick, slot and budget in w1 to w3, no frame open (R194). -/
def SlotStarted (d t : Dev) (n e : Nat) : Prop :=
  t.engState e = 1 ∧ (t.engine e).pc = (d.slot n).program * 4 % 16384 ∧ (t.engine e).cls = (d.slot n).cls ∧
    (t.engine e).fr = none ∧ (t.engine e).copies = [] ∧ t.wreg e 1 = (BitVec.ofNat 64 d.tick.coreTick, false) ∧
    t.wreg e 2 = (BitVec.ofNat 64 n, false) ∧ t.wreg e 3 = (BitVec.ofNat 64 (d.slot n).budget, false) ∧
    ∀ i : Fin 32, i = 0 ∨ 4 ≤ i.val → t.wreg e i = (0, false)

theorem slotStarted_engStart (g : Dev) {e : Nat} (he : e < 16) :
    SlotStarted d (g.engStart e 1 (d.slot n).program (d.slot n).cls n none d.tick.coreTick n (d.slot n).budget) n e := by
  obtain ⟨hpc, hcls, hfr, hcopies⟩ := g.engine_engStart e 1 (d.slot n).program (d.slot n).cls n none d.tick.coreTick n (d.slot n).budget he
  have hw := g.wreg_engStart e 1 (d.slot n).program (d.slot n).cls n none d.tick.coreTick n (d.slot n).budget he
  exact ⟨Dev.engState_engStart .., hpc, hcls, hfr, hcopies, hw 1, hw 2, hw 3, fun i => Dev.wreg_engStart_zero _ _ _ _ _ _ _ _ _ _ he⟩

/-- An engine slot handed to an engine that is not FAULTED: best-effort work is preempted and the slot's program starts (R194, R200). -/
theorem Dev.dispatchEngine_dispatched (h4 : d.engState (d.slotEngine (d.slot n)) ≠ 4) : (d.dispatched n).dispatchEngine n =
    ((d.dispatched n).preempt (d.slotEngine (d.slot n))).engStart (d.slotEngine (d.slot n)) 1 (d.slot n).program (d.slot n).cls n none
      d.tick.coreTick n (d.slot n).budget := by
  simp [Dev.dispatchEngine, h4]

/-- An engine that runs no best-effort work has none to preempt. -/
theorem Dev.preempt_of_ne {e : Nat} (h : d.engState e ≠ 2) : d.preempt e = d := by simp [Dev.preempt, h]

@[simp] theorem Dev.occ_preempt (e m : Nat) : (d.preempt e).occ m = d.occ m := by
  rw [Dev.occ, Dev.preempt_tick, Dev.occ]

end

end Sys2Proof.Machine
end

section
/-! SUPPORT.  The commands of a slot's life: their effects, clause by clause, and the statement they settle (R63 to R68, R76 to R80, R194). -/

namespace Sys2Proof.Machine

open Sys2Proof.Safety Sys2Proof.Claims

/-! ### SLOT_READY -/

/-- The device with the occurrence of slot `n` ready in cycle START (R63). -/
def Dev.readied (d : Dev) (n : Nat) : Dev :=
  (d.elapseCyc (d.slot n).start).modOcc n (fun o => { o with state := .ready, readyAt := max d.tick.cyc (d.slot n).start })

section
variable {s : State} {n : Fin 64} (hs : s.held = false)
include hs

/-- An idle occurrence whose phase is open becomes ready (R63). -/
theorem effect_slotReady (hi : SlotIn s.dev n .idle) (hp : s.dev.phaseOpen (s.dev.slot n) = true) :
    Effect (.slotReady n) s [] timeParts (fun t =>
      t.occ n = { s.dev.occ n with state := .ready, readyAt := max s.dev.tick.cyc (s.dev.slot n).start } ∧
      ∀ m : Fin 64, m ≠ n → t.occ m = s.dev.occ m) := by
  obtain ⟨hrun, hon, hidle⟩ := hi
  have hx : exec (.slotReady n) s = .next { s with dev := s.dev.readied n } := by
    show execSlotReady n s = _
    rw [execSlotReady, State.run_live s _ hs]
    simp [hrun, hon, hidle, hp, Dev.readied]
  refine Effect.of_next hx ((s.dev.elapseCyc_kept _).modOcc _ _ (by simp [timeParts])) ⟨?_, fun m hm => ?_⟩
  · simp [Dev.readied]
  · simp [Dev.readied, Fin.val_inj, hm]

/-! ### SLOT_CUT -/

/-- A housekeeping task that is no scrub step is cut (R65, R67, R68). -/
theorem effect_slotCut (hr : (s.dev.occ n).state = .running) (hk : (s.dev.slot n).kind = 4) (ht : (s.dev.slot n).step ≠ 1) :
    Effect (.slotCut n) s (recFields n ++ ([.tck .CUT_CNT_COUNT, .tck .STATUS_SLOT_CUT] : List Fld)) (.irqs :: .toSafe :: timeParts) (fun t =>
      (t.occ n).state = .ended ∧ Counts s.dev t (.tck .CUT_CNT_COUNT) ∧ t.rd (.tck .STATUS_SLOT_CUT) = 1 ∧
      t.rd (.tck (.SLOT_REC_STATUS n)) = 1 ∧ t.rd (.tck (.SLOT_REC_SLOT n)) = n) := by
  have hx : exec (.slotCut n) s =
      .next { s with dev := (s.dev.elapseCyc ((s.dev.occ n).dispAt + (s.dev.slot n).budget + 1)).endOcc n 1 } := by
    show execSlotCut n s = _
    rw [execSlotCut, State.run_live s _ hs]
    simp [Dev.cutOcc, hr, hk, ht]
  generalize hd : s.dev.elapseCyc _ = d at hx
  have he : Kept [] timeParts s.dev d := hd ▸ s.dev.elapseCyc_kept _
  have hr' : (d.occ n).state = .running := by simpa [← hd] using hr
  have hk' : (d.slot n).kind ≠ 1 := by simp [← hd, hk]
  obtain ⟨-, hslot, hstatus, -⟩ := d.recorded_cutRecorded n n.isLt
  have hcount : (d.cutRecorded n).rd (.tck .CUT_CNT_COUNT) = s.dev.rd (.tck .CUT_CNT_COUNT) :=
    ((d.cutRecorded_kept n).rd (by simp [recFields]) rfl).trans (he.rd (by simp) rfl)
  refine Effect.of_next hx ((he.mono (by simp) (by simp [timeParts])).trans
    ((d.endOcc_cut_kept n hr' hk').mono (by simp [cutFields]) (by simp [timeParts]))) ⟨?_, ?_, ?_, ?_, ?_⟩
  · rw [d.occ_endOcc_cut n hr' hk', d.state_occOver n n.isLt]
  · simp [Counts, d.rd_endOcc_cut n hr' hk', hcount]
  · simp [d.rd_endOcc_cut n hr' hk']
  · simp [d.rd_endOcc_cut n hr' hk', hstatus]
  · simp [d.rd_endOcc_cut n hr' hk', hslot]

end

/-! ### SLOT_DISPATCH -/

section
variable {s : State} {n : Fin 64} (hs : s.held = false) (hi : SlotIn s.dev n .ready)
  (hh : s.dev.holder (s.dev.resource (s.dev.slot n)) = none) (hf : s.dev.slotFirst n = true)
include hs hi hh hf

/-- A calibration step or housekeeping task: its occurrence runs, and nothing else starts with it. -/
theorem exec_slotDispatch_other (hk : 3 ≤ (s.dev.slot n).kind) : exec (.slotDispatch n) s = .next { s with dev := s.dev.dispatched n } := by
  obtain ⟨hrun, hon, hready⟩ := hi
  have hkind : (s.dev.slot n).kind = 3 ∨ (s.dev.slot n).kind = 4 := by
    simp only [Slot.on, Bool.and_eq_true, decide_eq_true_eq] at hon
    omega
  show execSlotDispatch n s = _
  rw [execSlotDispatch, State.run_live s _ hs]
  obtain hkind | hkind := hkind <;> simp [hrun, hon, hready, hh, hf, Dev.slotBlocked, hkind, Dev.dispatched]

/-- A slot of an engine that no debug session halts and whose pair is on. -/
theorem exec_slotDispatch_engine (hk : (s.dev.slot n).kind = 1) (h3 : s.dev.engState (s.dev.slotEngine (s.dev.slot n)) ≠ 3)
    (ho : s.dev.pairOff (s.dev.slot n).pair = false) :
    exec (.slotDispatch n) s = .next { s with dev := (s.dev.dispatched n).dispatchEngine n } := by
  obtain ⟨hrun, hon, hready⟩ := hi
  show execSlotDispatch n s = _
  rw [execSlotDispatch, State.run_live s _ hs]
  simp [hrun, hon, hready, hh, hf, Dev.slotBlocked, hk, h3, ho, Dev.dispatched]

/-- A calibration step or housekeeping task is handed over (R64). -/
theorem effect_slotDispatch_other (hk : 3 ≤ (s.dev.slot n).kind) :
    Effect (.slotDispatch n) s [] timeParts (fun t =>
      t.occ n = { s.dev.occ n with
        state := .running
        dispAt := max s.dev.tick.cyc (max ((s.dev.slot n).start + 1) (s.dev.freeFrom n)) }) := by
  refine Effect.of_next (exec_slotDispatch_other hs hi hh hf hk) (s.dev.dispatched_kept n) ?_
  simp [Dev.dispatched]

section
variable {e : Nat} (hk : (s.dev.slot n).kind = 1) (he : e = s.dev.slotEngine (s.dev.slot n))
  (ho : s.dev.pairOff (s.dev.slot n).pair = false)
include hk he ho

/-- An engine slot is handed to an idle engine (R64, R194). -/
theorem effect_slotDispatch_engine (h0 : s.dev.engState e = 0) :
    Effect (.slotDispatch n) s (stateFields e) (.engines :: timeParts) (fun t =>
      (t.occ n).state = .running ∧ t.engState e = 1 ∧ (t.engine e).pc = (s.dev.slot n).program * 4 % 16384 ∧
      (t.engine e).cls = (s.dev.slot n).cls ∧ t.wreg e 1 = (BitVec.ofNat 64 s.dev.tick.coreTick, false) ∧
      t.wreg e 2 = (BitVec.ofNat 64 n, false) ∧ t.wreg e 3 = (BitVec.ofNat 64 (s.dev.slot n).budget, false) ∧
      (∀ i : Fin 32, 4 ≤ i.val → t.wreg e i = (0, false))) := by
  subst he
  have hx := exec_slotDispatch_engine hs hi hh hf hk (by omega) ho
  rw [Dev.dispatchEngine_dispatched _ _ (by omega), Dev.preempt_of_ne _ (by simp [h0])] at hx
  obtain ⟨hst, hpc, hcls, -, -, h1, h2, h3, hz⟩ := slotStarted_engStart s.dev n (s.dev.dispatched n) (s.dev.slotEngine_lt (s.dev.slot n))
  refine Effect.of_next hx (((s.dev.dispatched_kept n).mono (by simp) (by simp)).trans ((Dev.engStart_kept ..).mono (by simp) (by simp)))
    ⟨?_, hst, hpc, hcls, h1, h2, h3, fun i hi => hz i (.inr hi)⟩
  rw [Dev.occ_engStart, s.dev.state_dispatched n n.isLt]

/-- An engine slot is handed to an engine that may have best-effort work, which it preempts (R64, R194, R200). -/
theorem completes_slotDispatch_engine (hst : s.dev.engState e ∉ [3, 4]) :
    Completes (.slotDispatch n) s (fun t =>
      (t.occ n).state = .running ∧ t.engState e = 1 ∧ (t.engine e).pc = (s.dev.slot n).program * 4 % 16384 ∧
      t.wreg e 1 = (BitVec.ofNat 64 s.dev.tick.coreTick, false) ∧ t.wreg e 2 = (BitVec.ofNat 64 n, false) ∧
      t.wreg e 3 = (BitVec.ofNat 64 (s.dev.slot n).budget, false) ∧ (∀ i : Fin 32, i = 0 ∨ 4 ≤ i.val → t.wreg e i = (0, false)) ∧
      (t.engine e).fr = none ∧ (t.engine e).copies = []) := by
  subst he
  simp only [List.mem_cons, List.not_mem_nil, or_false, not_or] at hst
  have hx := exec_slotDispatch_engine hs hi hh hf hk hst.1 ho
  rw [Dev.dispatchEngine_dispatched _ _ hst.2] at hx
  obtain ⟨hstate, hpc, -, hfr, hcopies, h1, h2, h3, hz⟩ := slotStarted_engStart s.dev n
    ((s.dev.dispatched n).preempt (s.dev.slotEngine (s.dev.slot n))) (s.dev.slotEngine_lt (s.dev.slot n))
  refine ⟨_, hx, rfl, rfl, ?_, hstate, hpc, h1, h2, h3, hz, hfr, hcopies⟩
  rw [Dev.occ_engStart, Dev.occ_preempt, s.dev.state_dispatched n n.isLt]

end

end

/-! ### SLOT_CANCEL -/

/-- The device whose cancel requests in flight are `ns`. -/
def Dev.withCancels (d : Dev) (ns : List Nat) : Dev := { d with tick := { d.tick with cancels := ns } }

@[simp] theorem Dev.rd_withCancels (d : Dev) (ns : List Nat) (f : Fld) : (d.withCancels ns).rd f = d.rd f := rfl
@[simp] theorem Dev.occ_withCancels (d : Dev) (ns : List Nat) (n : Nat) : (d.withCancels ns).occ n = d.occ n := rfl
@[simp] theorem Dev.slot_withCancels (d : Dev) (ns : List Nat) (n : Nat) : (d.withCancels ns).slot n = d.slot n := rfl
@[simp] theorem Dev.withCancels_coreRun (d : Dev) (ns : List Nat) : (d.withCancels ns).tick.coreRun = d.tick.coreRun := rfl

theorem Dev.withCancels_kept (d : Dev) (ns : List Nat) : Kept [] [.tick] d (d.withCancels ns) := (Kept.refl d).withTick _ (by simp)

/-- What the oldest cancel request, for slot `n`, does in CORE once it is taken (R76 to R80). -/
def Dev.cancelSlot (d : Dev) (n : Nat) : Dev :=
  if !d.tick.coreRun ∨ !(d.slot n).on then d.inc (.tck .CANCEL_CNT_STALE)
  else if (d.slot n).safety then d.inc (.tck .CANCEL_CNT_REFUSED)
  else match (d.occ n).state with
    | .ended => d.inc (.tck .CANCEL_CNT_STALE)
    | .running => d.modOcc n (fun o => { o with cancelLate := true })
    | _ => d.endOcc n 2

section
variable {s : State} {n : Fin 64} {ns : List Nat} (hs : s.held = false) (hc : s.dev.tick.cancels = n.val :: ns)
include hs hc

theorem exec_slotCancel : exec .slotCancel s = .next { s with dev := (s.dev.withCancels ns).cancelSlot n } := by
  show execSlotCancel s = _
  rw [execSlotCancel, State.run_live s _ hs]
  simp only [hc]
  rfl

/-- A cancel request that only a counter sees. -/
theorem effect_slotCancel_counted {f : Fld} (h : (s.dev.withCancels ns).cancelSlot n = (s.dev.withCancels ns).inc f) :
    Effect .slotCancel s [f] [.tick] (fun t => Counts s.dev t f ∧ t.tick = { s.dev.tick with cancels := ns }) := by
  refine Effect.of_next ((exec_slotCancel hs hc).trans (by rw [h])) ?_ ⟨?_, rfl⟩
  · exact ((s.dev.withCancels_kept ns).mono (by simp) (by simp)).inc (by simp)
  · simp [Counts]

/-- A cancel of a running occurrence is only marked (R80). -/
theorem effect_slotCancel_running (hi : SlotIn s.dev n .running) (hsf : (s.dev.slot n).safety = false) :
    Effect .slotCancel s [] [.tick] (fun t => t.occ n = { s.dev.occ n with cancelLate := true }) := by
  obtain ⟨hrun, hon, hst⟩ := hi
  have h : (s.dev.withCancels ns).cancelSlot n = (s.dev.withCancels ns).modOcc n (fun o => { o with cancelLate := true }) := by
    simp [Dev.cancelSlot, hrun, hon, hsf, hst]
  refine Effect.of_next ((exec_slotCancel hs hc).trans (by rw [h])) ((s.dev.withCancels_kept ns).modOcc _ _ (by simp)) ?_
  simp

/-- A cancel of an occurrence that has not begun ends it, with its record (R76, R77). -/
theorem effect_slotCancel_waiting {st : OccState} (hst : st = .idle ∨ st = .ready) (hi : SlotIn s.dev n st)
    (hsf : (s.dev.slot n).safety = false) :
    Effect .slotCancel s (recFields n) [.tick] (fun t => (t.occ n).state = .ended ∧ Recorded t s.dev.tick.coreTick n 2 0 0 0) := by
  obtain ⟨hrun, hon, rfl⟩ := hi
  have h : (s.dev.withCancels ns).cancelSlot n = (s.dev.withCancels ns).endOcc n 2 := by
    obtain hst | hst := hst <;> simp [Dev.cancelSlot, hrun, hon, hsf, hst]
  have hr : ((s.dev.withCancels ns).occ n).state ≠ .running := by obtain hst | hst := hst <;> simp [hst]
  exact Effect.of_next ((exec_slotCancel hs hc).trans (by rw [h]))
    (((s.dev.withCancels_kept ns).mono (by simp) (by simp)).trans (Dev.endOcc_cancelled_kept _ n hr))
    (Dev.endOcc_cancelled_recorded _ n n.isLt hr)

end

/-! ### The statement -/

/-- Settles O11, clause by clause: the effects of SLOT_READY, SLOT_DISPATCH, SLOT_CUT and SLOT_CANCEL. -/
theorem slotLife : Obligations.SlotLife := by
  unfold Obligations.SlotLife
  intro s n ns hs
  refine ⟨effect_slotReady hs, fun hi hh hf => ⟨?_, ?_, ?_⟩, effect_slotCut hs, fun hc => ⟨?_, ?_, ?_, ?_, ?_⟩⟩
  · exact effect_slotDispatch_other hs hi hh hf
  · exact fun e hk he h0 ho => effect_slotDispatch_engine hs hi hh hf hk he ho h0
  · exact fun e hk he hst ho => completes_slotDispatch_engine hs hi hh hf hk he ho hst
  · intro h
    exact effect_slotCancel_counted hs hc (by obtain h | h := h <;> simp [Dev.cancelSlot, h])
  · intro hrun hon hsf
    exact effect_slotCancel_counted hs hc (by simp [Dev.cancelSlot, hrun, hon, hsf])
  · rintro ⟨hrun, hon, hst⟩ hsf
    exact effect_slotCancel_counted hs hc (by simp [Dev.cancelSlot, hrun, hon, hst, hsf])
  · exact effect_slotCancel_running hs hc
  · exact fun st => effect_slotCancel_waiting hs hc

end Sys2Proof.Machine
end

section
/-! SUPPORT.  A lockstep mismatch in the occurrence of a slot carries the frames that the program did not reach (R66, R214). -/

namespace Sys2Proof.Machine

open Sys2Proof.Safety Sys2Proof.Claims

/-- A device in tick 1 whose lockstep pair 0 runs the occurrence of slot 0, an enabled engine slot that serves class 0, and is about to
execute HALT; a frame of the batch of tick 0 waits in class queue 0. -/
def unreachedDev : Dev :=
  { regs := [(.eng (.PAIR_STATUS_STATE_A 0), 1), (.eng (.PAIR_STATUS_STATE_B 0), 1)]
    boot := { stage := 2 }
    mem := [(64 * ephLine 0 + 0x43, 9), (64 * imemLine 0 0 + 3, 0xF8)]
    used := [regionBase 1]
    tick := { coreRun := true, coreTick := 1, occ := [{ state := .running }] }
    classq := [{ cls := 0, frame := { uid := 1, lines := [regionBase 1], start := 0, len := 60 } }] }

/-- `unreachedDev` with no command waiting. -/
def unreached : State := { dev := unreachedDev, otp := {}, pending := [] }

theorem unreached_ready : Ready unreached.dev 0 (.halt 0) :=
  ⟨by decide, Op.encode (.halt 0), by decide +kernel, by decide⟩

theorem exec_unreached : exec (issued 0 true (.halt 0)) unreached = .next { unreached with dev := unreachedDev.issue 0 true (.halt 0) } :=
  State.run_live unreached (fun d => d.issue 0 true (.halt 0)) rfl

theorem classq_mismatch : (unreachedDev.issue 0 true (.halt 0)).classq = unreachedDev.classq.map (fun q => { q with carried := true }) := by
  decide

/-- Refutes O8, in its third part: a mismatch in the occurrence of an engine slot ends that occurrence FAULT (R214), so the frames of its class
queue that the program did not reach are carried (R66, R212), and the class queues are not as before. -/
theorem not_timerControlAndLockstep : ¬ Obligations.TimerControlAndLockstep := by
  unfold Obligations.TimerControlAndLockstep LockstepMismatch
  rintro ⟨-, -, h⟩
  obtain ⟨t, ht, -, -, hpost⟩ := h unreached 0 (.halt 0) 0 rfl rfl rfl unreached_ready (by decide) (by decide)
  obtain ⟨-, -, -, -, -, -, -, -, -, -, hparts⟩ := hpost
  have hsame : t.dev.classq = unreachedDev.classq := hparts .classq (by simp)
  rw [exec_unreached] at ht
  cases ht
  rw [classq_mismatch] at hsame
  exact absurd hsame (by decide)

end Sys2Proof.Machine
end

section
/-! SUPPORT.  The values of BSWAP, EXTR and INS: what the model computes with numbers is what R223 and R224 say of bits. -/

namespace Sys2Proof.Machine

/-! ### BSWAP -/

/-- Two fields side by side: the upper one moved up, plus the lower one. -/
theorem toNat_append_add {m n : Nat} (x : BitVec m) (y : BitVec n) : (x ++ y).toNat = x.toNat * 2 ^ n + y.toNat := by
  rw [BitVec.toNat_append, ← Nat.shiftLeft_add_eq_or_of_lt y.isLt, Nat.shiftLeft_eq]

/-- Eight bytes in network order, the first one uppermost. -/
theorem ofBe_eight (a b c d e f g h : Byte) :
    BitVec.ofNat 64 (ofBe [a, b, c, d, e, f, g, h]) = a ++ b ++ c ++ d ++ e ++ f ++ g ++ h := by
  apply BitVec.eq_of_toNat_eq
  have ha := a.isLt
  have hb := b.isLt
  have hc := c.isLt
  have hd := d.isLt
  have he := e.isLt
  have hf := f.isLt
  have hg := g.isLt
  have hh := h.isLt
  simp only [toNat_append_add, BitVec.toNat_ofNat, ofBe, List.reverse_cons, List.reverse_nil, List.nil_append, List.cons_append, ofLe]
  omega

/-- The bytes of a register, the lowest first. -/
theorem leBytes_eight (x : BitVec 64) : leBytes 8 x.toNat =
    [x.extractLsb' 0 8, x.extractLsb' 8 8, x.extractLsb' 16 8, x.extractLsb' 24 8, x.extractLsb' 32 8, x.extractLsb' 40 8,
      x.extractLsb' 48 8, x.extractLsb' 56 8] := by
  simp [leBytes, BitVec.extractLsb', Nat.shiftRight_eq_div_pow, Nat.div_div_eq_div_mul]

theorem swap8_eq (x : BitVec 64) : swap8 x =
    x.extractLsb' 0 8 ++ x.extractLsb' 8 8 ++ x.extractLsb' 16 8 ++ x.extractLsb' 24 8 ++
      x.extractLsb' 32 8 ++ x.extractLsb' 40 8 ++ x.extractLsb' 48 8 ++ x.extractLsb' 56 8 := by
  rw [swap8, leBytes_eight, ofBe_eight]

/-! ### EXTR and INS -/

/-- The mask of the low `l + 1` bits. -/
theorem getLsbD_lowMask {l : Nat} (hl : l < 64) (i : Nat) :
    (BitVec.allOnes 64 >>> (63 - l)).getLsbD i = decide (i < l + 1) := by
  rw [BitVec.getLsbD_ushiftRight, BitVec.getLsbD_allOnes, decide_eq_decide]
  omega

theorem extractField_eq (x : BitVec 64) (p : Nat) {l : Nat} (hl : l < 64) :
    extractField x p (l + 1) = (x >>> p) &&& (BitVec.allOnes 64 >>> (63 - l)) := by
  apply BitVec.eq_of_getLsbD_eq
  intro i hi
  rw [extractField, bitsOf, BitVec.getLsbD_ofNat, Nat.testBit_mod_two_pow, Nat.testBit_div_two_pow, BitVec.testBit_toNat,
    BitVec.getLsbD_and, BitVec.getLsbD_ushiftRight, getLsbD_lowMask hl, decide_eq_true hi, Bool.true_and, Bool.and_comm, Nat.add_comm]

/-- A number with `n` bits at `p` replaced: what stands above them, the new ones, what stands below. -/
theorem replaceBits_eq (o x p n : Nat) : o - bitsOf o p n * 2 ^ p + x % 2 ^ n * 2 ^ p =
    2 ^ p * (2 ^ n * (o / 2 ^ p / 2 ^ n) + x % 2 ^ n) + o % 2 ^ p := by
  have h : 2 ^ p * (2 ^ n * (o / 2 ^ p / 2 ^ n)) + o % 2 ^ p + bitsOf o p n * 2 ^ p = o := by
    conv_rhs => rw [← Nat.div_add_mod o (2 ^ p), ← Nat.div_add_mod (o / 2 ^ p) (2 ^ n)]
    rw [bitsOf]
    ring
  rw [← Nat.eq_sub_of_add_eq h]
  ring

theorem insertField_eq (o x : BitVec 64) {p l : Nat} (h : p + l < 64) : insertField o x p (l + 1) =
    (o &&& ~~~((BitVec.allOnes 64 >>> (63 - l)) <<< p)) ||| ((x <<< p) &&& ((BitVec.allOnes 64 >>> (63 - l)) <<< p)) := by
  apply BitVec.eq_of_getLsbD_eq
  intro i hi
  have hm : ∀ j, (BitVec.allOnes 64 >>> (63 - l)).getLsbD j = decide (j < l + 1) := getLsbD_lowMask (by omega)
  rw [insertField, replaceBits_eq, BitVec.getLsbD_ofNat, decide_eq_true hi, Bool.true_and,
    Nat.testBit_two_pow_mul_add _ (Nat.mod_lt _ (Nat.two_pow_pos _)), Nat.testBit_two_pow_mul_add _ (Nat.mod_lt _ (Nat.two_pow_pos _))]
  simp only [BitVec.getLsbD_or, BitVec.getLsbD_and, BitVec.getLsbD_not, BitVec.getLsbD_shiftLeft, hm, hi, decide_true, Bool.true_and,
    Nat.testBit_mod_two_pow, Nat.testBit_div_two_pow, BitVec.testBit_toNat]
  by_cases below : i < p
  · simp [below]
  · by_cases inside : i - p < l + 1
    · simp [below, inside]
    · have hi' : i - p - (l + 1) + (l + 1) + p = i := by omega
      simp [below, inside, hi']

end Sys2Proof.Machine
end

section
/-! SUPPORT.  The issue of an instruction that changes nothing but its engine: the device it takes effect on, its frame, and the work
registers it leaves. -/

namespace Sys2Proof.Safety

open Sys2Proof.Machine

/-- Retirement stays in every frame that allows the sampling units. -/
theorem Kept.aside {F : List Fld} {P : List Part} {d e g : Dev} (h : Kept F P d e) (k : Aside e g) (hp : .pmc ∈ P) : Kept F P d g := by
  refine h.trans ⟨fun f _ hc => k.rd f hc, fun x hx => ?_⟩
  obtain ⟨r, m, n, rfl, -⟩ := k
  cases x <;> simp_all [Part.Same]

end Sys2Proof.Safety

namespace Sys2Proof.Claims

open Sys2Proof.Machine Sys2Proof.Safety

variable {d t u : Dev} {e : Nat} {l : List Part}

theorem OnlyEngine.modEngine (h : OnlyEngine d t e l) (g : Engine → Engine) : OnlyEngine d (t.modEngine e g) e l := by
  obtain ⟨hx, hk⟩ := h
  refine ⟨fun x hne => ?_, Kept.modEngine hk e g (by simp)⟩
  rw [Dev.engine_modEngine, if_neg (fun hc => hne hc.1), hx x hne]

theorem OnlyEngine.aside (h : OnlyEngine d t e l) (k : Aside t u) : OnlyEngine d u e l := by
  obtain ⟨hx, hk⟩ := h
  exact ⟨fun x hne => (k.engine x).trans (hx x hne), Kept.aside hk k (by simp)⟩

theorem OnlyEngine.setWreg (h : OnlyEngine d t e l) (i : Fin 32) (v : WReg) : OnlyEngine d (t.setWreg e i v) e l := h.modEngine _
theorem OnlyEngine.advance (h : OnlyEngine d t e l) : OnlyEngine d (t.advance e) e l := h.modEngine _

end Sys2Proof.Claims

namespace Sys2Proof.Machine

open Sys2Proof.Safety Sys2Proof.Claims

/-! ### The device an instruction takes effect on -/

/-- Device `d` as engine `e` issues an instruction: `k` free values drawn so far, the engine's earlier exception forgotten. -/
def Dev.issuing (d : Dev) (e k : Nat) : Dev := ({ d with freeCount := k } : Dev).modEngine e (fun g => { g with raised := false })

/-- A change of an engine that keeps its registers keeps every work register. -/
theorem Dev.wreg_modEngine (d : Dev) (e x : Nat) (i : Fin 32) {f : Engine → Engine} (hf : ∀ g, (f g).w = g.w) :
    (d.modEngine e f).wreg x i = d.wreg x i := by
  unfold Dev.wreg
  rw [Dev.engine_modEngine]
  split_ifs with hi h
  · rfl
  · rw [hf, h.1]
  · rfl

section
variable (d : Dev) (e k : Nat)

theorem Dev.onlyEngine_issuing : OnlyEngine d (d.issuing e k) e :=
  OnlyEngine.modEngine (t := ({ d with freeCount := k } : Dev))
    ⟨fun _ _ => rfl, Kept.aside (Kept.refl d) ⟨d.regs, d.pmc, k, rfl, fun _ _ => rfl⟩ (by simp)⟩ _

@[simp] theorem Dev.wreg_issuing (x : Nat) (i : Fin 32) : (d.issuing e k).wreg x i = d.wreg x i :=
  Dev.wreg_modEngine _ e x i fun _ => rfl

@[simp] theorem Dev.engine_issuing (x : Nat) :
    (d.issuing e k).engine x = if x = e ∧ e < 16 then { d.engine e with raised := false } else d.engine x :=
  Dev.engine_modEngine _ e x _

@[simp] theorem Dev.pc_issuing (x : Nat) : ((d.issuing e k).engine x).pc = (d.engine x).pc := by
  rw [Dev.engine_issuing]
  split_ifs with h
  · rw [h.1]
  · rfl

end

/-! ### From an instruction's effect to a command's -/

section
variable {c : Sys2Proof.Instr} {s : State} {e : Fin 16} {op : Op} (hx : exec c s = s.run (fun d => d.issue e false op))
include hx

/-- A command that issues an instruction completes with whatever the instruction's effect on the engine, once retired, satisfies. -/
theorem completes_of_doOp {post : Dev → Prop} (hs : s.held = false) (hr : Ready s.dev e op)
    (h : ∀ k t, Aside ((s.dev.issuing e k).doOp e op) t → post t) : Completes c s post := by
  obtain ⟨k, hk⟩ := s.dev.issue_ready e op hr
  exact ⟨_, hx.trans (s.run_live _ hs), rfl, rfl, h k _ hk⟩

/-- An instruction whose effect is a work register written and the next instruction (R219). -/
theorem computes_of_doOp {rd : Fin 32} {v : WReg}
    (hop : ∀ k, (s.dev.issuing e k).doOp e op = ((s.dev.issuing e k).setWreg e rd v).advance e) : Computes c s e op rd v := by
  intro hs hr
  refine completes_of_doOp hx hs hr fun k t ht => ?_
  rw [hop] at ht
  refine ⟨fun i => ?_, ?_, (((s.dev.onlyEngine_issuing e k).setWreg rd v).advance).aside ht⟩
  · simp [ht.wreg]
  · simp [NextPc, ht.engine, Dev.advance]

/-- An instruction of two sources (R221, R223). -/
theorem computes_alu {rd a b : Fin 32} {f g : BitVec 64 → BitVec 64 → BitVec 64} (hop : ∀ d : Dev, d.doOp e op = d.alu e rd a b f)
    (hfg : ∀ x y, f x y = g x y) : Computes c s e op rd (both s e a b g) :=
  computes_of_doOp hx fun k => by simp [hop, Dev.alu, resP2, flagP, both, hfg]

/-- An instruction of one source (R221, R223, R224). -/
theorem computes_alu1 {rd a : Fin 32} {f g : BitVec 64 → BitVec 64} (hop : ∀ d : Dev, d.doOp e op = d.alu1 e rd a f)
    (hfg : ∀ x, f x = g x) : Computes c s e op rd (one s e a g) :=
  computes_of_doOp hx fun k => by simp [hop, Dev.alu1, resP1, flagP, one, hfg]

end

/-! ### The statement -/

theorem arithmeticResults : ArithmeticResults := by
  intro s e rd a b k
  refine ⟨?add, ?sub, ?and, ?or, ?xor, ?shl, ?shr, ?shrs, ?mul, ?setLt, ?setUlt, ?bswap, ?addK, ?andK, ?orK, ?cati⟩
  case setLt => exact computes_alu rfl (fun _ => rfl) fun x y => by simp [flag64, BitVec.slt]
  case setUlt => exact computes_alu rfl (fun _ => rfl) fun x y => by simp [flag64, BitVec.ult]
  case bswap => exact computes_alu1 rfl (fun _ => rfl) swap8_eq
  case addK | andK | orK | cati => exact computes_alu1 rfl (fun _ => rfl) fun _ => rfl
  case add | sub | and | or | xor | shl | shr | shrs | mul => exact computes_alu rfl (fun _ => rfl) fun _ _ => rfl

theorem bitFieldResults : BitFieldResults := by
  intro s e rd a p l
  refine ⟨?_, ?_, ?_, fun h => ⟨?_, ?_⟩⟩
  · exact computes_alu1 rfl (fun _ => rfl) fun _ => rfl
  · exact computes_alu1 rfl (fun _ => rfl) fun _ => rfl
  · exact computes_alu1 rfl (fun _ => rfl) fun _ => rfl
  · exact computes_alu1 rfl (fun _ => rfl) fun x => extractField_eq x p l.isLt
  · exact computes_alu rfl (fun _ => rfl) fun o x => insertField_eq o x h

/-- Settles O1: each instruction is an operation of one or two sources whose value R223 or R224 gives. -/
theorem registerResults : Obligations.RegisterResults := by
  unfold Obligations.RegisterResults
  exact ⟨arithmeticResults, bitFieldResults⟩

end Sys2Proof.Machine
end

section
/-! SUPPORT.  Branches and jumps: the target's arithmetic modulo 16,384, and what an engine that takes or passes it holds (R219, R225). -/

namespace Sys2Proof.Machine

open Sys2Proof.Safety Sys2Proof.Claims

/-! ### Targets -/

/-- A signed offset counts from the program counter, modulo 16,384 (R219). -/
theorem pcPlus_sext (pc : Nat) {n : Nat} (hn : n ≤ 64) (o : BitVec n) :
    (pcPlus pc (sext o) : Int) = ((pc : Int) + o.toInt) % 16384 := by
  have ho : (sext o).toInt = o.toInt := BitVec.toInt_signExtend_of_le hn
  rw [BitVec.toInt_eq_toNat_cond] at ho
  rw [pcPlus, BitVec.toNat_add, BitVec.toNat_ofNat]
  split at ho <;> omega

theorem pcPlus_sext_toNat (pc : Nat) (o : BitVec 16) : pcPlus pc (sext o) = (((pc : Int) + o.toInt) % 16384).toNat := by
  rw [← pcPlus_sext pc (by decide) o, Int.toNat_natCast]

/-- The program counter is no work register. -/
theorem Dev.wreg_movePc (d : Dev) (e x : Nat) (i : Fin 32) (p : Engine → Nat) :
    (d.modEngine e (fun g => { g with pc := p g })).wreg x i = d.wreg x i := d.wreg_modEngine e x i fun _ => rfl

/-! ### Branches -/

theorem Dev.branch_clean (d : Dev) (e : Nat) {a b : Fin 32} (off : BitVec 16) (c : BitVec 64 → BitVec 64 → Bool)
    (ha : (d.wreg e a).2 = false) (hb : (d.wreg e b).2 = false) : d.branch e a b off c =
      if c (d.wreg e a).1 (d.wreg e b).1 then d.modEngine e (fun g => { g with pc := pcPlus g.pc (sext off) }) else d.advance e := by
  simp [Dev.branch, flagP, ha, hb]

/-- A branch goes where its condition says (R225). -/
theorem branches_of_doOp {c : Sys2Proof.Instr} {s : State} {e : Fin 16} {op : Op} (hx : exec c s = s.run (fun d => d.issue e false op))
    {a b : Fin 32} {off : BitVec 16} {f g : BitVec 64 → BitVec 64 → Bool} (hop : ∀ d : Dev, d.doOp e op = d.branch e a b off f)
    (hfg : ∀ x y, f x y = g x y) : Branches c s e op a b off g := by
  intro hs hr ha hb
  refine completes_of_doOp hx hs hr fun k t ht => ?_
  have honly := s.dev.onlyEngine_issuing e k
  rw [hop, Dev.branch_clean _ _ _ _ (by simp [ha]) (by simp [hb]), hfg, Dev.wreg_issuing, Dev.wreg_issuing] at ht
  split at ht
  · next taken =>
    refine ⟨?_, fun i => ?_, (honly.modEngine _).aside ht⟩
    · simp [ht.engine, taken, pcPlus_sext_toNat]
    · rw [ht.wreg, Dev.wreg_movePc, Dev.wreg_issuing]
  · next passed =>
    refine ⟨?_, fun i => ?_, honly.advance.aside ht⟩
    · simp [ht.engine, passed, Dev.advance]
    · rw [ht.wreg, Dev.wreg_advance, Dev.wreg_issuing]

theorem branchTargets : BranchTargets := by
  intro s e a b o
  refine ⟨?eq, ?ne, ?lt, ?ge, ?ult, ?uge⟩
  case eq => exact branches_of_doOp (f := fun x y => x = y) rfl (fun _ => rfl) fun _ _ => rfl
  case ne => exact branches_of_doOp (f := fun x y => x ≠ y) rfl (fun _ => rfl) fun x y => by simp [bne, Bool.beq_eq_decide_eq]
  case lt => exact branches_of_doOp rfl (fun _ => rfl) fun _ _ => rfl
  case ge =>
    have h : ∀ x y : BitVec 64, (!x.slt y) = decide (y.toInt ≤ x.toInt) := fun x y => by simp only [BitVec.slt, ← decide_not, not_lt]
    exact branches_of_doOp rfl (fun _ => rfl) h
  case ult => exact branches_of_doOp rfl (fun _ => rfl) fun _ _ => rfl
  case uge =>
    have h : ∀ x y : BitVec 64, (!x.ult y) = decide (y.toNat ≤ x.toNat) := fun x y => by simp only [BitVec.ult, ← decide_not, not_lt]
    exact branches_of_doOp rfl (fun _ => rfl) h

/-! ### Jumps -/

/-- A jump that links: the link register holds the next word's index, clean, and the program counter the target. -/
theorem completes_link {c : Sys2Proof.Instr} {s : State} {e : Fin 16} {op : Op} (hx : exec c s = s.run (fun d => d.issue e false op))
    (hs : s.held = false) (hr : Ready s.dev e op) {rd : Fin 32} {target : Nat}
    (hop : ∀ k, (s.dev.issuing e k).doOp e op =
      ((s.dev.issuing e k).setWreg e rd (resC (BitVec.ofNat 64 ((s.dev.engine e).pc + 1)))).modEngine e
        (fun g => { g with pc := target })) :
    Completes c s (fun t => WritesReg s.dev t e rd (BitVec.ofNat 64 ((s.dev.engine e).pc + 1), false) ∧ (t.engine e).pc = target ∧
      OnlyEngine s.dev t e) := by
  refine completes_of_doOp hx hs hr fun k t ht => ?_
  rw [hop] at ht
  refine ⟨fun i => ?_, ?_, (((s.dev.onlyEngine_issuing e k).setWreg rd _).modEngine _).aside ht⟩
  · rw [ht.wreg, Dev.wreg_movePc]
    simp [resC, flagC]
  · simp [ht.engine]

theorem jumpAndLink : JumpAndLink := by
  intro s e rd a o k hs
  refine ⟨fun hr => ?_, fun hr ha => ?_⟩
  · simp only [← pcPlus_sext _ (show 21 ≤ 64 by decide), Int.natCast_inj]
    exact completes_link rfl hs hr fun k => by simp only [Dev.doOp, Dev.doJlink, Dev.pc_issuing]
  · exact completes_link rfl hs hr fun k => by simp [Dev.doOp, Dev.doJlinkr, ha, sext]

end Sys2Proof.Machine
end

section
/-! SUPPORT.  What the end of a program touches beside its engine: reads and writes of memory, frames dropped, completions written and
records made leave every engine and every engine register but the counters. -/

namespace Sys2Proof.Machine

/-- Whether an engine register is an event counter of a pair. -/
def isEngCnt : EngF → Bool
  | .CNT_COUNT .. => true
  | _ => false

/-- In `e` every engine is as it is in `d`, and every engine register but the counters reads the same. -/
def EngineKept (d e : Dev) : Prop := e.engines = d.engines ∧ ∀ f, isEngCnt f = false → e.rd (.eng f) = d.rd (.eng f)

/-! ### Primitive updates -/

section
variable {d e g : Dev}

theorem EngineKept.refl (d : Dev) : EngineKept d d := ⟨rfl, fun _ _ => rfl⟩

theorem EngineKept.trans (h : EngineKept d e) (k : EngineKept e g) : EngineKept d g :=
  ⟨k.1.trans h.1, fun f hf => (k.2 f hf).trans (h.2 f hf)⟩

/-- An update that leaves the registers and the engines. -/
theorem EngineKept.of_regs (he : e.engines = d.engines) (hr : e.regs = d.regs) : EngineKept d e :=
  ⟨he, fun f _ => congrArg (fun l => Regs.get l (.eng f)) hr⟩

theorem EngineKept.wr (h : EngineKept d e) {f : Fld} (v : Nat) (hf : ∀ x, f = .eng x → isEngCnt x = true) :
    EngineKept d (e.wr f v) := by
  refine h.trans ⟨rfl, fun x hx => ?_⟩
  rw [Dev.rd_wr, if_neg]
  rintro rfl
  exact Bool.false_ne_true (hx.symm.trans (hf x rfl))

theorem EngineKept.wrs (h : EngineKept d e) (l : List (Fld × Nat)) (hl : ∀ p ∈ l, ∀ x, p.1 = .eng x → isEngCnt x = true) :
    EngineKept d (e.wrs l) := by
  induction l generalizing e with
  | nil => exact h
  | cons p l ih => exact ih (h.wr p.2 (hl p (by simp))) fun q hq => hl q (by simp [hq])

theorem EngineKept.incBy (h : EngineKept d e) {f : Fld} (k : Nat) (hf : ∀ x, f = .eng x → isEngCnt x = true) :
    EngineKept d (e.incBy f k) := h.wr _ hf

theorem EngineKept.inc (h : EngineKept d e) {f : Fld} (hf : ∀ x, f = .eng x → isEngCnt x = true) : EngineKept d (e.inc f) := h.wr _ hf

theorem EngineKept.count (h : EngineKept d e) (ev inst k : Nat) : EngineKept d (e.count ev inst k) :=
  h.trans ⟨e.count_engines ev inst k, fun _ _ => e.rd_count ev inst k _ rfl⟩

theorem EngineKept.ite (p : Prop) [Decidable p] (h : EngineKept d e) (k : EngineKept d g) : EngineKept d (if p then e else g) := by
  split
  · exact h
  · exact k

theorem EngineKept.foldl {α : Type} (l : List α) (f : Dev → α → Dev) (hf : ∀ d x, EngineKept d (f d x)) (d : Dev) :
    EngineKept d (l.foldl f d) := by
  induction l generalizing d with
  | nil => exact .refl d
  | cons x xs ih => exact (hf d x).trans (ih _)

theorem EngineKept.engine (h : EngineKept d e) (x : Nat) : e.engine x = d.engine x := by rw [Dev.engine, h.1, Dev.engine]

theorem EngineKept.engState (h : EngineKept d e) (x : Nat) : e.engState x = d.engState x := h.2 _ (by split <;> rfl)

end

/-- Retirement leaves the engines and their registers. -/
theorem Aside.engineKept {d e : Dev} (h : Aside d e) : EngineKept d e := by
  refine ⟨?_, fun f _ => h.rd _ rfl⟩
  obtain ⟨r, m, n, rfl, -⟩ := h
  rfl

/-! ### Writes to the host and completions -/

section
variable (d : Dev)

theorem Dev.hostOut_engineKept (f addr : Nat) (bs : List PByte) (ep : Bool) : EngineKept d (d.hostOut f addr bs ep) :=
  EngineKept.count (EngineKept.count (.of_regs rfl rfl) _ _ _) _ _ _

theorem Dev.hostTlp_engineKept (f addr : Nat) (bs : List PByte) : EngineKept d (d.hostTlp f addr bs) := by
  have hp : EngineKept d ((d.hostOut f addr bs true).errCnt 4) := (d.hostOut_engineKept f addr bs true).inc nofun
  exact .ite _ (.ite _ ((EngineKept.refl d).inc nofun) (.ite _ (hp.wr _ nofun) hp)) (d.hostOut_engineKept f addr bs false)

theorem Dev.splitWrite_engineKept (tlp : Dev → Nat → List PByte → Dev) (htlp : ∀ d a bs, EngineKept d (tlp d a bs)) (mps fuel : Nat)
    (d : Dev) (addr : Nat) (bs : List PByte) : EngineKept d (Dev.splitWrite tlp mps fuel d addr bs) := by
  induction fuel generalizing d addr bs with
  | zero => exact .refl d
  | succ fuel ih =>
    unfold Dev.splitWrite
    exact .ite _ (.refl d) ((htlp d addr _).trans (ih _ _ _))

theorem Dev.hostWrite_engineKept (f addr : Nat) (bs : List PByte) : EngineKept d (d.hostWrite f addr bs) :=
  Dev.splitWrite_engineKept _ (fun d a b => d.hostTlp_engineKept f a b) _ _ _ _ _

theorem Dev.cqIrq_engineKept (c : Nat) : EngineKept d (d.cqIrq c) := .of_regs rfl rfl

theorem Dev.cqWrite_engineKept (x : Due) : EngineKept d (d.cqWrite x) := by
  unfold Dev.cqWrite
  extract_lets c f t d1 t' d2 d3 n d4
  have h2 : EngineKept d d2 := ((d.hostWrite_engineKept _ _ _).count _ _ _).wr _ nofun
  have h3 : EngineKept d d3 := .ite _ (h2.trans (d2.hostWrite_engineKept _ _ _)) h2
  have h4 : EngineKept d d4 := h3.trans (.of_regs rfl rfl)
  exact .ite _ (h4.trans (d4.cqIrq_engineKept c)) h4

theorem Dev.flushDue_engineKept : EngineKept d d.flushDue :=
  EngineKept.trans (.of_regs rfl rfl) (EngineKept.foldl _ _ Dev.cqWrite_engineKept _)

theorem Dev.pushDue_engineKept (n idx cookie : Nat) (x : CplEnd) : EngineKept d (d.pushDue n idx cookie x) := by
  unfold Dev.pushDue Dev.pushDueIn
  split
  · exact .refl d
  · exact EngineKept.trans (.of_regs rfl rfl) (Dev.flushDue_engineKept _)

theorem Dev.abortDrain_engineKept (n fuel : Nat) : EngineKept d (d.abortDrain n fuel) := by
  induction fuel generalizing d with
  | zero => exact .refl d
  | succ fuel ih =>
    unfold Dev.abortDrain
    split
    · split
      · refine .trans (.trans (.of_regs ?_ ?_) (Dev.pushDue_engineKept _ _ _ _ _)) (ih _) <;> rfl
      · exact .refl d
    · dsimp only
      split
      · exact .refl d
      · have hw : ∀ v, EngineKept d (d.wr (.rng (.SQ_INDEX_HEAD n)) v) := fun v => (EngineKept.refl d).wr v nofun
        exact .ite _ (.refl d) (((hw _).trans (Dev.pushDue_engineKept _ _ _ _ _)).trans (ih _))

theorem Dev.endEnt_engineKept (n ser : Nat) (x : CplEnd) : EngineKept d (d.endEnt n ser x) := by
  unfold Dev.endEnt
  split
  · exact .refl d
  · exact .ite _ (EngineKept.trans (.of_regs rfl rfl) (Dev.abortDrain_engineKept _ _ _))
      (EngineKept.trans (.of_regs rfl rfl) (Dev.pushDue_engineKept _ _ _ _ _))

theorem Dev.discard_engineKept (f : Frame) : EngineKept d (d.discard f) := by
  have h : EngineKept d (d.originEnd f 5 0) := by
    unfold Dev.originEnd
    split
    · exact .refl d
    · exact d.endEnt_engineKept _ _ _
  exact h.trans (.of_regs rfl rfl)

theorem Dev.engDrop_engineKept (e i : Nat) (fs : List Frame) : EngineKept d (d.engDrop e i fs) :=
  EngineKept.foldl _ _ (fun d f => ((EngineKept.refl d).inc (by rintro x ⟨⟩; rfl)).trans (Dev.discard_engineKept _ f)) d

end

/-! ### Memory lines -/

section
variable (d : Dev)

theorem Dev.freshBytes_engineKept (k : Nat) : EngineKept d (d.freshBytes k).2 := by
  induction k generalizing d with
  | zero => exact .refl d
  | succ k ih => exact EngineKept.trans (.of_regs rfl rfl) (ih d.fresh.2)

theorem Dev.uncorrectable_engineKept (l : Nat) : EngineKept d (d.uncorrectable l) := by
  unfold Dev.uncorrectable Dev.logFirst
  extract_lets r d1 d2 d3 d4
  have h1 : EngineKept d d1 := (EngineKept.refl d).inc nofun
  have h2 : EngineKept d d2 := .ite _ h1 ((h1.wrs _ (by simp)).wr _ nofun)
  have h4 : EngineKept d d4 := h2.trans (.of_regs rfl rfl)
  exact .ite _ (h4.trans (.of_regs rfl rfl)) (.ite _ h4 (h4.trans (.of_regs rfl rfl)))

/-- A read of a line, whatever error it meets. -/
theorem Dev.readLine_engineKept (l : Nat) : EngineKept d (d.readLine l).2.2 := by
  unfold Dev.readLine
  extract_lets m bs
  have h0 : EngineKept d (if m.multi ≠ 0 then d.fresh else (2, d)).2 := by
    split
    · exact .of_regs rfl rfl
    · exact .refl d
  generalize (if m.multi ≠ 0 then d.fresh else (2, d)) = p at h0 ⊢
  obtain ⟨k, x⟩ := p
  dsimp -zeta only at h0 ⊢
  split
  · exact h0.trans (x.uncorrectable_engineKept l)
  · extract_lets wrong n y z
    have h1 : EngineKept d (if wrong ≠ 0 then x.garble bs wrong else (bs, x)).2 := by
      split
      · exact h0.trans (x.freshBytes_engineKept 64)
      · exact h0
    have h2 : EngineKept d y := .ite _ h1 (h1.incBy _ nofun)
    exact .ite _ h2 (h2.trans (.of_regs rfl rfl))

theorem Dev.writePart_engineKept (l off : Nat) (bs : List Byte) (p : Bool) : EngineKept d (d.writePart l off bs p) :=
  (d.readLine_engineKept l).trans (.of_regs rfl rfl)

theorem Dev.fetch_engineKept (e : Nat) : EngineKept d (d.fetch e).2.2 := d.readLine_engineKept _

/-! ### Occurrences -/

theorem Dev.record_engineKept (n status : Nat) (late lateStart : Bool) (used : Nat) :
    EngineKept d (d.record n status late lateStart used) := by
  have h : EngineKept d (d.recRegs n status late lateStart used) := (EngineKept.refl d).wrs _ (by simp)
  obtain hr | hr | ⟨fifo, hr⟩ := d.record_cases n status late lateStart used <;> rw [hr]
  · exact h
  · exact h.inc nofun
  · exact h.trans (.of_regs rfl rfl)

theorem Dev.carry_engineKept (s : Slot) : EngineKept d (d.carry s) := by
  unfold Dev.carry
  exact .ite _ (.refl d) (EngineKept.incBy (.of_regs rfl rfl) _ nofun)

/-- An occurrence that ends FAULT. -/
theorem Dev.endOcc_engineKept (n : Nat) : EngineKept d (d.endOcc n 4) := by
  unfold Dev.endOcc
  extract_lets o s ran d1 d2 d3 d4 d5
  have h2 : EngineKept d d2 := .trans (.of_regs rfl rfl) (d1.record_engineKept _ _ _ _ _)
  have h4 : EngineKept d d4 := .ite _ (h2.trans (d2.carry_engineKept s)) h2
  exact .ite _ (h4.trans (.of_regs rfl rfl)) h4

end

end Sys2Proof.Machine
end

section
/-! SUPPORT.  Exceptions: the store buffer drained, the frames dropped, the log and the end of the program, and the instructions and words
that raise them (R208, R212, R217, R222). -/

namespace Sys2Proof.Machine

open Sys2Proof.Safety Sys2Proof.Claims

/-! ### The store buffer drained -/

theorem Dev.clusterWrite_engineKept (d : Dev) (s : SbEnt) : EngineKept d (d.clusterWrite s) := d.writePart_engineKept _ _ _ _

section
variable (d : Dev) {e : Nat} (he : e < 16)

theorem Dev.rd_eng_sbPop (f : EngF) (hf : isEngCnt f = false) : (d.sbPop e).rd (.eng f) = d.rd (.eng f) := by
  unfold Dev.sbPop
  split
  · rfl
  · exact (d.clusterWrite_engineKept _).2 f hf

theorem Dev.rd_eng_drain (f : EngF) (hf : isEngCnt f = false) : (d.drain e).rd (.eng f) = d.rd (.eng f) := by
  unfold Dev.drain
  generalize (d.engine e).sb = l
  induction l generalizing d with
  | nil => rfl
  | cons x l ih => exact (ih (d.sbPop e)).trans (d.rd_eng_sbPop f hf)

include he

theorem Dev.engine_sbPop (x : Nat) :
    (d.sbPop e).engine x = if x = e then { d.engine e with sb := (d.engine e).sb.tail } else d.engine x := by
  unfold Dev.sbPop
  split
  · next empty =>
    have h : { d.engine e with sb := (d.engine e).sb.tail } = d.engine e := by rw [empty, List.tail_nil, ← empty]
    rw [h]
    split <;> simp_all
  · next s r buffered => simp [(d.clusterWrite_engineKept s).engine, he, buffered]

theorem Dev.engine_foldl_sbPop (l : List SbEnt) (x : Nat) : (l.foldl (fun d _ => d.sbPop e) d).engine x =
    if x = e then { d.engine e with sb := (d.engine e).sb.drop l.length } else d.engine x := by
  induction l generalizing d with
  | nil => split <;> simp_all
  | cons s l ih =>
    rw [List.foldl_cons, ih, Dev.engine_sbPop d he, Dev.engine_sbPop d he]
    split <;> simp_all

/-- A drained engine has an empty store buffer, and everything else as before (R208). -/
theorem Dev.engine_drain (x : Nat) : (d.drain e).engine x = if x = e then { d.engine e with sb := [] } else d.engine x := by
  rw [Dev.drain, Dev.engine_foldl_sbPop d he, List.drop_length]

end

/-! ### The log of an exception -/

@[simp] theorem excLogCode_width (p h : Nat) : (Fld.eng (.EXC_LOG_CODE p h)).width = 4 := rfl
@[simp] theorem excLogPc_width (p h : Nat) : (Fld.eng (.EXC_LOG_PC p h)).width = 14 := rfl
@[simp] theorem excLogValid_width (p h : Nat) : (Fld.eng (.EXC_LOG_VALID p h)).width = 1 := rfl
@[simp] theorem pairStatusExc_width (p : Nat) : (Fld.eng (.PAIR_STATUS_EXC p)).width = 1 := rfl

/-- The exception `code` at word `pc` logged for half `h` of pair `p`, with its slot, whether it was best-effort work and its address, when
no earlier one is, and shown in the pair's status (R212). -/
def Dev.excShown (d : Dev) (p h code pc slot be addr : Nat) : Dev :=
  (if d.is (.eng (.EXC_LOG_VALID p h)) then d else
    d.wrs [(.eng (.EXC_LOG_CODE p h), code), (.eng (.EXC_LOG_PC p h), pc), (.eng (.EXC_LOG_SLOT p h), slot),
      (.eng (.EXC_LOG_BEST_EFFORT p h), be), (.eng (.EXC_ADDR_ADDR p h), addr), (.eng (.EXC_LOG_VALID p h), 1)]).wr
    (.eng (.PAIR_STATUS_EXC p)) 1

section
variable (d : Dev) (p h code pc slot be addr : Nat)

@[simp] theorem Dev.engine_excShown (x : Nat) : (d.excShown p h code pc slot be addr).engine x = d.engine x := by
  unfold Dev.excShown
  split <;> rfl

theorem Dev.rd_exc_excShown : (d.excShown p h code pc slot be addr).rd (.eng (.PAIR_STATUS_EXC p)) = 1 := by
  simp [Dev.excShown]

theorem Dev.rd_valid_excShown : (d.excShown p h code pc slot be addr).rd (.eng (.EXC_LOG_VALID p h)) = 1 := by
  unfold Dev.excShown
  split
  · next hv => simpa [d.is_iff_of_width_one (f := .eng (.EXC_LOG_VALID p h)) rfl] using hv
  · simp

/-- With no earlier exception logged, this one is. -/
theorem Dev.rd_log_excShown (hv : d.rd (.eng (.EXC_LOG_VALID p h)) = 0) (hc : code < 16) :
    (d.excShown p h code pc slot be addr).rd (.eng (.EXC_LOG_CODE p h)) = code ∧
    (d.excShown p h code pc slot be addr).rd (.eng (.EXC_LOG_PC p h)) = pc % 2 ^ 14 := by
  simp [Dev.excShown, Dev.is, hv, Nat.mod_eq_of_lt hc]

theorem Dev.engState_excShown (e : Nat) : (d.excShown p h code pc slot be addr).engState e = d.engState e := by
  unfold Dev.excShown Dev.engState
  split <;> split <;> simp

end

/-! ### The end of a program -/

section
variable (d : Dev) {e : Nat}

/-- The program of a running engine ends FAULT: the engine idles, and its occurrence, if it has one, ends. -/
theorem Dev.engEnd_fault_engineKept (hr : d.engRuns e = true) : EngineKept (d.engIdle e) (d.engEnd e 4) := by
  have h : d.engState e = 1 ∨ d.engState e = 2 := by simpa [Dev.engRuns] using hr
  obtain h | h := h
  · simpa [Dev.engEnd, h] using (d.engIdle e).endOcc_engineKept (d.engine e).slot
  · simpa [Dev.engEnd, h] using EngineKept.refl (d.engIdle e)

theorem Dev.engState_engIdle : (d.engIdle e).engState e = 0 := Dev.engState_setEngState _ e 0

theorem Dev.rd_engIdle {f : Fld} (hf : f ∉ stateFields e) (hc : isCount f = false) : (d.engIdle e).rd f = d.rd f :=
  (Dev.setEngState_kept _ e 0).rd hf hc

theorem Dev.engine_engIdle (he : e < 16) (x : Nat) : (d.engIdle e).engine x = if x = e then
    { d.engine e with fr := none, copies := [], wait := none, be := none, lastBe := (d.engine e).be.getD (d.engine e).lastBe }
    else d.engine x := by
  simp [Dev.engIdle, he]

end

/-! ### An exception raised -/

/-- The device once engine `e` has drained its stores, dropped its frames and shown its exception, before its program ends (R208, R212). -/
def Dev.excDevice (d : Dev) (e code slot be addr : Nat) : Dev :=
  (((d.drain e).engDrop e 0 (d.engine e).frames).excShown (pairOf e) (e % 2) code (d.engine e).pc slot be addr).modEngine e
    (fun g => { g with raised := true })

/-- An exception: beside what it logs, it is reported or not, and the program ends (R212, R213). -/
theorem Dev.raise_cases (d : Dev) (e code addr : Nat) :
    ∃ slot be a y, EngineKept (d.excDevice e code slot be a) y ∧ d.raise e code addr = y.engEnd e 4 := by
  unfold Dev.raise
  extract_lets g p h slot d1 d2 d3 d4
  exact ⟨if slot then g.slot else 0, b2n !slot, if 3 ≤ code ∧ code ≤ 5 then addr % 2 ^ 32 else 0, d4,
    .ite _ (.of_regs rfl rfl) (.refl _), rfl⟩

section
variable (d : Dev) {e : Nat} (code slot be addr : Nat)

/-- The frames dropped and the buffer drained leave the engine registers. -/
theorem Dev.rd_eng_drainDrop (i : Nat) (fs : List Frame) {f : EngF} (hf : isEngCnt f = false) :
    ((d.drain e).engDrop e i fs).rd (.eng f) = d.rd (.eng f) :=
  ((Dev.engDrop_engineKept _ e i fs).2 f hf).trans (d.rd_eng_drain f hf)

theorem Dev.engine_excDevice (he : e < 16) (x : Nat) : (d.excDevice e code slot be addr).engine x =
    if x = e then { d.engine e with sb := [], raised := true } else d.engine x := by
  simp only [Dev.excDevice, Dev.engine_modEngine, Dev.engine_excShown, (Dev.engDrop_engineKept _ _ _ _).engine, d.engine_drain he, he,
    and_true, if_true]
  split <;> rfl

theorem Dev.engState_excDevice : (d.excDevice e code slot be addr).engState e = d.engState e :=
  (Dev.engState_excShown ..).trans (d.rd_eng_drainDrop 0 _ (by split <;> rfl))

theorem Dev.rd_exc_excDevice : (d.excDevice e code slot be addr).rd (.eng (.PAIR_STATUS_EXC (pairOf e))) = 1 := Dev.rd_exc_excShown ..

theorem Dev.rd_valid_excDevice : (d.excDevice e code slot be addr).rd (.eng (.EXC_LOG_VALID (pairOf e) (e % 2))) = 1 :=
  Dev.rd_valid_excShown ..

theorem Dev.rd_log_excDevice (hv : d.rd (.eng (.EXC_LOG_VALID (pairOf e) (e % 2))) = 0) (hc : code < 16) :
    (d.excDevice e code slot be addr).rd (.eng (.EXC_LOG_CODE (pairOf e) (e % 2))) = code ∧
    (d.excDevice e code slot be addr).rd (.eng (.EXC_LOG_PC (pairOf e) (e % 2))) = (d.engine e).pc % 2 ^ 14 :=
  Dev.rd_log_excShown _ _ _ _ _ _ _ _ ((d.rd_eng_drainDrop 0 _ rfl).trans hv) hc

end

/-- A running engine's exception is what R212 says. -/
theorem raised_raise (d : Dev) (e : Fin 16) {code : Nat} (addr : Nat) (hc : code < 16) (hr : d.engRuns e = true) :
    Raised d (d.raise e code addr) e code := by
  obtain ⟨slot, be, a, y, hy, h⟩ := d.raise_cases e code addr
  have hry : y.engRuns e = true := by simpa [Dev.engRuns, hy.engState, d.engState_excDevice code slot be a] using hr
  have ht : EngineKept (y.engIdle e) (d.raise e code addr) := h ▸ y.engEnd_fault_engineKept hry
  have hengine : ∀ x, y.engine x = if x = e.val then { d.engine e with sb := [], raised := true } else d.engine x := fun x =>
    (hy.engine x).trans (d.engine_excDevice code slot be a e.isLt x)
  have hrd : ∀ f, isEngCnt f = false → .eng f ∉ stateFields e →
      (d.raise e code addr).rd (.eng f) = (d.excDevice e code slot be a).rd (.eng f) :=
    fun f hf hs => (ht.2 f hf).trans ((y.rd_engIdle hs rfl).trans (hy.2 f hf))
  refine ⟨?_, ?_, ?_, ?_, fun i => ?_, ?_, ?_, fun hv => ?_, fun x hx => ?_⟩
  · rw [ht.engState, Dev.engState_engIdle]
  · simp [ht.engine, Dev.engine_engIdle]
  · simp [ht.engine, Dev.engine_engIdle]
  · simp [ht.engine, Dev.engine_engIdle, hengine]
  · simp [Dev.wreg, ht.engine, Dev.engine_engIdle, hengine]
  · exact (hrd _ rfl (by simp [stateFields])).trans (d.rd_exc_excDevice code slot be a)
  · exact (hrd _ rfl (by simp [stateFields])).trans (d.rd_valid_excDevice code slot be a)
  · obtain ⟨hcode, hpc⟩ := d.rd_log_excDevice code slot be a hv hc
    exact ⟨(hrd _ rfl (by simp [stateFields])).trans hcode, (hrd _ rfl (by simp [stateFields])).trans hpc⟩
  · simp [ht.engine, Dev.engine_engIdle, hengine, hx]

end Sys2Proof.Machine

namespace Sys2Proof.Claims

open Sys2Proof.Machine Sys2Proof.Safety

variable {d t u : Dev} {e : Fin 16} {code : Nat}

/-- What leaves the engines and their registers leaves an exception raised. -/
theorem Raised.engineKept (h : Raised d t e code) (k : EngineKept t u) : Raised d u e code := by
  unfold Raised at h ⊢
  simpa only [k.engState, k.engine, Dev.wreg, k.2 _ (show isEngCnt (.PAIR_STATUS_EXC _) = false from rfl),
    k.2 _ (show isEngCnt (.EXC_LOG_VALID _ _) = false from rfl), k.2 _ (show isEngCnt (.EXC_LOG_CODE _ _) = false from rfl),
    k.2 _ (show isEngCnt (.EXC_LOG_PC _ _) = false from rfl)] using h

/-- An exception of device `g` is one of any device that differs from it in the engine's last exception at most. -/
theorem Raised.of_same {g : Dev} (h : Raised g t e code) (hw : ∀ i, g.wreg e i = d.wreg e i) (hp : (g.engine e).pc = (d.engine e).pc)
    (hv : g.rd (.eng (.EXC_LOG_VALID (e.val / 2) (e.val % 2))) = d.rd (.eng (.EXC_LOG_VALID (e.val / 2) (e.val % 2))))
    (hx : ∀ x, x ≠ e.val → g.engine x = d.engine x) : Raised d t e code := by
  obtain ⟨hst, hfr, hcp, hsb, hwt, hexc, hvt, hlog, hxt⟩ := h
  exact ⟨hst, hfr, hcp, hsb, fun i => (hwt i).trans (hw i), hexc, hvt, hp ▸ hv ▸ hlog, fun x hne => (hxt x hne).trans (hx x hne)⟩

end Sys2Proof.Claims

namespace Sys2Proof.Machine

open Sys2Proof.Safety Sys2Proof.Claims

/-! ### Poisoned registers -/

section
variable (d : Dev) (e : Nat)

theorem Dev.branch_poisoned {a b : Fin 32} (off : BitVec 16) (c : BitVec 64 → BitVec 64 → Bool)
    (h : (d.wreg e a).2 = true ∨ (d.wreg e b).2 = true) : d.branch e a b off c = d.raise e 7 0 := by
  simp [Dev.branch, flagP, h]

theorem Dev.jlinkr_poisoned (rd : Fin 32) {a : Fin 32} (i : BitVec 16) (h : (d.wreg e a).2 = true) :
    d.doJlinkr e rd a i = d.raise e 7 0 := by
  simp [Dev.doJlinkr, h]

theorem Dev.load_poisoned (n : Nat) (rd : Fin 32) {a : Fin 32} (i : BitVec 16) (h : (d.wreg e a).2 = true) :
    d.load e n rd a i = d.raise e 7 0 := by
  simp [Dev.load, h]

theorem Dev.storeOp_poisoned (n : Nat) (b : Fin 32) {a : Fin 32} (i : BitVec 16) (h : (d.wreg e a).2 = true) :
    d.storeOp e n b a i = d.raise e 7 0 := by
  simp [Dev.storeOp, h]

theorem Dev.atomic_poisoned (rd : Fin 32) {a : Fin 32} (f : WReg → Option WReg) (extra : Bool) (h : (d.wreg e a).2 = true) :
    d.atomic e rd a f extra = d.raise e 7 0 := by
  simp [Dev.atomic, h]

/-- A branch, jump, load, store or atomic on a poisoned register raises POISONED_USE and does nothing else (R222, R225, R226, R228). -/
theorem Dev.doOp_poisoned {op : Op} {r : Fin 32} (hr : r ∈ poisonStops op) (hp : (d.wreg e r).2 = true) :
    d.doOp e op = d.raise e 7 0 := by
  cases op
  case brEq | brNe | brLt | brGe | brUlt | brUge =>
    simp only [Dev.doOp, Dev.doBrEq, Dev.doBrNe, Dev.doBrLt, Dev.doBrGe, Dev.doBrUlt, Dev.doBrUge]
    refine d.branch_poisoned e _ _ ?_
    obtain h | h := List.mem_pair.mp hr
    · exact .inl (h ▸ hp)
    · exact .inr (h ▸ hp)
  case jlinkr => exact d.jlinkr_poisoned e _ _ (List.mem_singleton.mp hr ▸ hp)
  case ldb | ldh | ldw | ldd => exact d.load_poisoned e _ _ _ (List.mem_singleton.mp hr ▸ hp)
  case stb | sth | stw | std => exact d.storeOp_poisoned e _ _ _ (List.mem_singleton.mp hr ▸ hp)
  case atomAdd | atomXch | atomCas =>
    simp only [Dev.doOp, Dev.doAtomAdd, Dev.doAtomXch, Dev.doAtomCas]
    exact d.atomic_poisoned e _ _ _ (List.mem_singleton.mp hr ▸ hp)
  all_goals exact absurd hr List.not_mem_nil

end

/-! ### Words that cannot be executed -/

/-- A word that is reserved or unreadable raises its exception and retires. -/
theorem raised_badWord (d : Dev) (e : Fin 16) {code : Nat} (hc : code < 16) (hr : d.engRuns e = true) :
    Raised d (d.badWord e code) e code := by
  unfold Dev.badWord
  exact (raised_raise d e 0 hc hr).engineKept (Aside.retire _ _ _ _).engineKept

theorem Dev.engRuns_of_canIssue {d : Dev} {e : Nat} (h : d.canIssue e = true) : d.engRuns e = true := by
  simp only [Dev.canIssue, Bool.and_eq_true] at h
  obtain ⟨⟨⟨-, hr⟩, -⟩, -⟩ := h
  exact hr

/-- A word that encodes no instruction is ILLEGAL, whatever the command says it is (R217). -/
theorem Dev.issue_reserved {d : Dev} {e w : Nat} {diff : Bool} {op : Op} (hi : d.canIssue e = true) (hf : d.fetch e = (w, false, d))
    (hd : Op.decode w = none) : d.issue e diff op = d.badWord e 1 := by
  simp [Dev.issue, hi, hf, hd]

/-- A word read from a line with an error is IMEM_UE (R212). -/
theorem Dev.issue_unreadable {d g : Dev} {e w : Nat} {diff : Bool} {op : Op} (hi : d.canIssue e = true) (hf : d.fetch e = (w, true, g)) :
    d.issue e diff op = g.badWord e 2 := by
  simp [Dev.issue, hi, hf]

/-- Every engine command issues its instruction, here with no difference between the halves of a pair. -/
theorem exec_issued (e : Fin 16) (op : Op) (s : State) : exec (issued e false op) s = s.run (fun d => d.issue e false op) := by
  cases op <;> rfl

theorem exceptionsRaised : ExceptionsRaised := by
  intro s e op hs
  have hx := exec_issued e op s
  refine ⟨fun r hr hready hp => ?_, fun w hi hf hd => ?_, fun w d hi hf => ?_⟩
  · refine completes_of_doOp hx hs hready fun k t ht => ?_
    rw [Dev.doOp_poisoned _ _ hr (by simpa using hp)] at ht
    have hrun : (s.dev.issuing e k).engRuns e = true := Dev.engRuns_of_canIssue (d := s.dev) hready.1
    have h := (raised_raise _ e 0 (by decide) hrun).engineKept ht.engineKept
    exact h.of_same (by simp) (by simp) rfl fun x hne => by simp [hne]
  · refine ⟨_, hx.trans (s.run_live _ hs), rfl, rfl, ?_⟩
    rw [Dev.issue_reserved hi hf hd]
    exact raised_badWord s.dev e (by decide) (Dev.engRuns_of_canIssue hi)
  · refine ⟨_, hx.trans (s.run_live _ hs), rfl, rfl, ?_⟩
    rw [Dev.issue_unreadable hi hf]
    have hk : EngineKept s.dev d := by simpa [hf] using s.dev.fetch_engineKept e
    have hrun : d.engRuns e = true := by simpa [Dev.engRuns, hk.engState] using Dev.engRuns_of_canIssue hi
    exact (raised_badWord d e (by decide) hrun).of_same (by simp [Dev.wreg, hk.engine]) (by rw [hk.engine]) (hk.2 _ rfl)
      fun x _ => hk.engine x

/-- Settles O2: where branches and jumps go, and the exceptions of poisoned registers and of words that cannot be executed. -/
theorem controlTransfers : Obligations.ControlTransfers := by
  unfold Obligations.ControlTransfers
  exact ⟨branchTargets, jumpAndLink, exceptionsRaised⟩

end Sys2Proof.Machine
end

section
/-! SUPPORT.  Rings: what their checks rest on, and which registers writing due completions moves (R289, R294, R306, R313). -/

namespace Sys2Proof.Safety

open Sys2Proof.Machine

/-! ### Updates of rings in a frame -/

variable {F : List Fld} {P : List Part} {d e : Dev}

theorem Kept.logFirst (h : Kept F P d e) {v : Fld} (l : List (Fld × Nat)) (hv : v ∈ F) (hl : ∀ x ∈ l, x.1 ∈ F) :
    Kept F P d (e.logFirst v l) :=
  .ite _ (fun _ => h) (fun _ => (h.wrs l hl).wr 1 hv)

theorem Kept.modSq (h : Kept F P d e) (n : Nat) (g : Sq → Sq) (hq : .sqs ∈ P) : Kept F P d (e.modSq n g) := by
  refine h.trans (.of_regs rfl fun x hx => ?_)
  cases x <;> simp_all [Part.Same]

theorem Kept.withCqSince (h : Kept F P d e) (l : List Nat) (hc : .cqSince ∈ P) : Kept F P d { e with cqSince := l } := by
  refine h.trans (.of_regs rfl fun x hx => ?_)
  cases x <;> simp_all [Part.Same]

theorem Kept.irq (h : Kept F P d e) (f vec : Nat) (hi : .irqs ∈ P) : Kept F P d (e.irq f vec) := by
  refine h.trans (.of_regs rfl fun x hx => ?_)
  cases x <;> simp_all [Part.Same]

theorem Kept.count (h : Kept F P d e) (ev inst k : Nat) : Kept F P d (e.count ev inst k) := h.counted (.count e ev inst k)

end Sys2Proof.Safety

namespace Sys2Proof.Machine

open Sys2Proof.Safety Sys2Proof.Claims

/-! ### What the checks of a ring rest on -/

/-- Whether a field is an index of a ring. -/
def isIndex : Fld → Bool
  | .rng (.SQ_INDEX_HEAD _) | .rng (.SQ_INDEX_TAIL _) | .rng (.CQ_INDEX_HEAD _) | .rng (.CQ_INDEX_TAIL _) => true
  | _ => false

/-- `e` has the registers of `d` but for indices of rings and performance counters, and the safe state alike. -/
def IndicesMoved (d e : Dev) : Prop :=
  e.safeCore = d.safeCore ∧ ∀ f, isIndex f = false → isCount f = false → e.rd f = d.rd f

theorem IndicesMoved.of_kept {F : List Fld} {P : List Part} {d e : Dev} (h : Kept F P d e) (hF : ∀ f ∈ F, isIndex f = true)
    (hP : .safeCore ∉ P) : IndicesMoved d e := by
  refine ⟨h.same hP, fun f hi hc => h.rd (fun hf => ?_) hc⟩
  exact Bool.false_ne_true (hi.symm.trans (hF f hf))

theorem IndicesMoved.count (d : Dev) (ev inst k : Nat) : IndicesMoved d (d.count ev inst k) :=
  .of_kept ((Kept.refl (F := []) (P := []) d).count ev inst k) (by simp) (by simp)

section
variable {d e : Dev} (h : IndicesMoved d e)
include h

theorem IndicesMoved.rng {f : RngF} (hf : isIndex (.rng f) = false) : e.rd (.rng f) = d.rd (.rng f) := h.2 _ hf rfl

theorem IndicesMoved.sqFunc (n : Nat) : e.sqFunc n = d.sqFunc n := h.rng rfl
theorem IndicesMoved.sqKind (n : Nat) : e.sqKind n = d.sqKind n := h.rng rfl
theorem IndicesMoved.sqState (n : Nat) : e.sqState n = d.sqState n := h.rng rfl
theorem IndicesMoved.sqSize (n : Nat) : e.sqSize n = d.sqSize n := congrArg (2 ^ ·) (h.rng rfl)
theorem IndicesMoved.cqSize (c : Nat) : e.cqSize c = d.cqSize c := congrArg (2 ^ ·) (h.rng rfl)
theorem IndicesMoved.d2 : e.d2 = d.d2 := by simp [Dev.d2, h.2 _ (show isIndex (.sec .DBG_STATUS_LEVEL) = false from rfl) rfl]

theorem IndicesMoved.sqOf (f r : Nat) : e.sqOf f r = d.sqOf f r := by
  have hr : ∀ n, e.rd (.rng (.SQ_ASSIGN_VALID n)) = d.rd (.rng (.SQ_ASSIGN_VALID n)) ∧
      e.rd (.rng (.SQ_ASSIGN_FUNC n)) = d.rd (.rng (.SQ_ASSIGN_FUNC n)) ∧
      e.rd (.rng (.SQ_ASSIGN_LOCAL n)) = d.rd (.rng (.SQ_ASSIGN_LOCAL n)) := fun n => ⟨h.rng rfl, h.rng rfl, h.rng rfl⟩
  simp [Dev.sqOf, Dev.is, hr]

theorem IndicesMoved.cqOf (f r : Nat) : e.cqOf f r = d.cqOf f r := by
  have hr : ∀ n, e.rd (.rng (.CQ_ASSIGN_VALID n)) = d.rd (.rng (.CQ_ASSIGN_VALID n)) ∧
      e.rd (.rng (.CQ_ASSIGN_FUNC n)) = d.rd (.rng (.CQ_ASSIGN_FUNC n)) ∧
      e.rd (.rng (.CQ_ASSIGN_LOCAL n)) = d.rd (.rng (.CQ_ASSIGN_LOCAL n)) := fun n => ⟨h.rng rfl, h.rng rfl, h.rng rfl⟩
  simp [Dev.cqOf, Dev.is, hr]

theorem IndicesMoved.sqCq (n : Nat) : e.sqCq n = d.sqCq n := by
  rw [Dev.sqCq, h.sqFunc, h.cqOf, h.rng rfl, Dev.sqCq]

theorem IndicesMoved.sqSealed (n : Nat) : e.sqSealed n = d.sqSealed n := by
  rw [Dev.sqSealed, h.sqFunc, Dev.is, h.rng rfl, Dev.sqSealed, Dev.is]

theorem IndicesMoved.safeRing (n : Nat) : e.safeRing n = d.safeRing n := by
  have hstate : e.rd (.saf .STATE_STATE) = d.rd (.saf .STATE_STATE) := h.2 _ rfl rfl
  simp [Dev.safeRing, Dev.safeFab, Dev.safeState, h.1, hstate, h.sqFunc, h.sqKind, h.sqState]

end

/-- Counting an event leaves every field of the rings. -/
@[simp] theorem Dev.rd_rng_count (d : Dev) (ev inst k : Nat) (f : RngF) : (d.count ev inst k).rd (.rng f) = d.rd (.rng f) :=
  d.rd_count ev inst k _ rfl

theorem Dev.fetching_count (d : Dev) (ev inst k n : Nat) : (d.count ev inst k).fetching n = d.fetching n := by
  simp [Dev.fetching, Dev.sq, (IndicesMoved.count d ev inst k).sqState, (IndicesMoved.count d ev inst k).sqSize]

/-! ### Completions written -/

section
variable (d : Dev)

/-- A write of clean bytes to the host only leaves the device and is counted (R325). -/
theorem Dev.hostTlp_clean_kept (f addr : Nat) (bs : List Byte) : Kept [] [.out, .hep] d (d.hostTlp f addr (clean bs)) := by
  have hclean : ¬ (clean bs).any (·.2) = true := by simp [clean]
  rw [Dev.hostTlp, if_neg hclean]
  exact (((Kept.refl d).emit _ (by simp) (by simp)).count _ _ _).count _ _ _

theorem Dev.splitWrite_clean_kept (f mps fuel : Nat) (d : Dev) (addr : Nat) (bs : List Byte) :
    Kept [] [.out, .hep] d (Dev.splitWrite (fun d a b => d.hostTlp f a b) mps fuel d addr (clean bs)) := by
  induction fuel generalizing d addr bs with
  | zero => exact .refl d
  | succ fuel ih =>
    unfold Dev.splitWrite
    refine .ite _ (fun _ => .refl d) (fun _ => ?_)
    simp only [clean, ← List.map_take, ← List.map_drop]
    exact (d.hostTlp_clean_kept f addr _).trans (ih _ _ _)

theorem Dev.hostWrite_clean_kept (f addr : Nat) (bs : List Byte) : Kept [] [.out, .hep] d (d.hostWrite f addr (clean bs)) :=
  Dev.splitWrite_clean_kept f _ _ d addr bs

/-- A completion entry written moves TAIL of its ring; the entry, the mirror and the interrupt request leave (R294 to R296). -/
theorem Dev.cqWrite_kept (x : Due) : Kept [.rng (.CQ_INDEX_TAIL x.cq)] [.out, .hep, .cqSince, .irqs] d (d.cqWrite x) := by
  have hhost : ∀ (e : Dev) (f a : Nat) (bs : List Byte),
      Kept [.rng (.CQ_INDEX_TAIL x.cq)] [.out, .hep, .cqSince, .irqs] e (e.hostWrite f a (clean bs)) :=
    fun e f a bs => (e.hostWrite_clean_kept f a bs).mono (by simp) (by simp)
  unfold Dev.cqWrite
  extract_lets c f t d1 t' d2 d3 n d4
  have h2 := ((hhost d f (d.cqAddr c + 16 * t) x.bytes).count 0x61 f 1).wr t' (List.mem_singleton.mpr rfl)
  have h3 : Kept [.rng (.CQ_INDEX_TAIL x.cq)] [.out, .hep, .cqSince, .irqs] d d3 :=
    .ite _ (fun _ => h2.trans (hhost d2 _ _ _)) (fun _ => h2)
  have h4 : Kept [.rng (.CQ_INDEX_TAIL x.cq)] [.out, .hep, .cqSince, .irqs] d d4 := h3.withCqSince _ (by simp)
  exact .ite _ (fun _ => (h4.withCqSince _ (by simp)).irq _ _ (by simp)) (fun _ => h4)

end

/-! ### Rings drained -/

/-- Whether a field is an index that the device moves as a ring is drained: HEAD of a submission ring, TAIL of a completion ring. -/
def isDeviceIndex : Fld → Bool
  | .rng (.SQ_INDEX_HEAD _) | .rng (.CQ_INDEX_TAIL _) => true
  | _ => false

/-- Of the registers of `d`, only indices that the device moves, and performance counters, read differently in `e`. -/
def DrainKept (d e : Dev) : Prop := ∀ f, isDeviceIndex f = false → isCount f = false → e.rd f = d.rd f

section
variable {d e g : Dev}

theorem DrainKept.refl (d : Dev) : DrainKept d d := fun _ _ _ => rfl

theorem DrainKept.trans (h : DrainKept d e) (k : DrainKept e g) : DrainKept d g := fun f hf hc => (k f hf hc).trans (h f hf hc)

theorem DrainKept.of_kept {F : List Fld} {P : List Part} (h : Kept F P d e) (hF : ∀ f ∈ F, isDeviceIndex f = true) : DrainKept d e :=
  fun f hi hc => h.rd (fun hf => Bool.false_ne_true (hi.symm.trans (hF f hf))) hc

theorem DrainKept.ite (p : Prop) [Decidable p] (h : DrainKept d e) (k : DrainKept d g) : DrainKept d (if p then e else g) := by
  split
  · exact h
  · exact k

theorem DrainKept.foldl {α : Type} (l : List α) (f : Dev → α → Dev) (hf : ∀ d x, DrainKept d (f d x)) (d : Dev) :
    DrainKept d (l.foldl f d) := by
  induction l generalizing d with
  | nil => exact .refl d
  | cons x xs ih => exact (hf d x).trans (ih _)

end

section
variable (d : Dev)

theorem Dev.wr_sqHead_drainKept (n v : Nat) : DrainKept d (d.wr (.rng (.SQ_INDEX_HEAD n)) v) :=
  .of_kept (F := [.rng (.SQ_INDEX_HEAD n)]) (P := []) ((Kept.refl d).wr v (by simp)) (by simp [isDeviceIndex])

theorem Dev.modSq_drainKept (n : Nat) (g : Sq → Sq) : DrainKept d (d.modSq n g) := fun _ _ _ => rfl

theorem Dev.flushDue_drainKept : DrainKept d d.flushDue := by
  have hdue : DrainKept d { d with due := d.due.filter (fun e => !d.dueNow e) } := fun _ _ _ => rfl
  exact hdue.trans (DrainKept.foldl _ _ (fun e x => .of_kept (e.cqWrite_kept x) (by simp [isDeviceIndex])) _)

theorem Dev.pushDueIn_drainKept (tch : Option Nat) (n idx cookie : Nat) (x : CplEnd) : DrainKept d (d.pushDueIn tch n idx cookie x) := by
  unfold Dev.pushDueIn
  split
  · exact .refl d
  · exact DrainKept.trans (fun _ _ _ => rfl) (Dev.flushDue_drainKept _)

theorem Dev.abortDrain_drainKept (n fuel : Nat) : DrainKept d (d.abortDrain n fuel) := by
  induction fuel generalizing d with
  | zero => exact .refl d
  | succ fuel ih =>
    unfold Dev.abortDrain
    split
    · split
      · exact (d.modSq_drainKept n _).trans ((Dev.pushDueIn_drainKept _ _ _ _ _ _).trans (ih _))
      · exact .refl d
    · dsimp only
      split
      · exact .refl d
      · exact .ite _ (.refl d) ((d.wr_sqHead_drainKept n _).trans ((Dev.pushDueIn_drainKept _ _ _ _ _ _).trans (ih _)))

theorem Dev.safeDrain_drainKept (n fuel : Nat) : DrainKept d (d.safeDrain n fuel) := by
  induction fuel generalizing d with
  | zero => exact .refl d
  | succ fuel ih =>
    unfold Dev.safeDrain
    dsimp only
    split
    · exact .refl d
    · refine .ite _ (.refl d) ?_
      exact (d.wr_sqHead_drainKept n _).trans ((Dev.modSq_drainKept _ n _).trans ((Dev.pushDueIn_drainKept _ _ _ _ _ _).trans (ih _)))

/-- A mirror of HEAD leaves every register (R295). -/
theorem Dev.sqMirror_kept (n : Nat) : Kept [] [.out, .hep, .sqs] d (d.sqMirror n) := by
  unfold Dev.sqMirror
  extract_lets f
  refine .ite _ (fun _ => .refl d) (fun _ => .ite _ (fun _ => (Kept.refl d).modSq n _ (by simp)) (fun _ => ?_))
  exact ((d.hostWrite_clean_kept f _ _).mono (by simp) (by simp)).modSq n _ (by simp)

theorem Dev.safeEntries_drainKept (n : Nat) : DrainKept d (d.safeEntries n) :=
  .ite _ (d.safeDrain_drainKept n _) ((d.safeDrain_drainKept n _).trans (.of_kept (Dev.sqMirror_kept _ n) (by simp)))

end

end Sys2Proof.Machine
end

section
/-! SUPPORT.  Doorbells and the enables of rings: their effects, clause by clause, and the statement they settle (R288, R289, R307, R309). -/

namespace Sys2Proof.Machine

open Sys2Proof.Safety Sys2Proof.Claims

/-! ### Fields of rings -/

@[simp] theorem dbLogIndex_width (f : Nat) : (Fld.rng (.DB_LOG_INDEX f)).width = 16 := rfl
@[simp] theorem dbLogRing_width (f : Nat) : (Fld.rng (.DB_LOG_RING f)).width = 8 := rfl
@[simp] theorem dbLogReason_width (f : Nat) : (Fld.rng (.DB_LOG_REASON f)).width = 3 := rfl
@[simp] theorem dbLogCq_width (f : Nat) : (Fld.rng (.DB_LOG_CQ f)).width = 1 := rfl
@[simp] theorem dbLogValid_width (f : Nat) : (Fld.rng (.DB_LOG_VALID f)).width = 1 := rfl
@[simp] theorem sqIndexTail_width (n : Nat) : (Fld.rng (.SQ_INDEX_TAIL n)).width = 16 := rfl
@[simp] theorem cqIndexHead_width (c : Nat) : (Fld.rng (.CQ_INDEX_HEAD c)).width = 16 := rfl
@[simp] theorem sqCtrlEn_width (n : Nat) : (Fld.rng (.SQ_CTRL_EN n)).width = 1 := rfl
@[simp] theorem cqCtrlEn_width (c : Nat) : (Fld.rng (.CQ_CTRL_EN c)).width = 1 := rfl
@[simp] theorem sqStatusState_width (n : Nat) : (Fld.rng (.SQ_STATUS_STATE n)).width = 2 := rfl

/-- The fields of a doorbell's value: bits that must be zero, local ring number (R288). -/
theorem bitsOf_doorbell_high (v : BitVec 32) : bitsOf v.toNat 24 8 = v.toNat / 2 ^ 24 := by
  have := v.isLt
  unfold bitsOf
  omega

theorem bitsOf_doorbell_ring (v : Nat) : bitsOf v 16 8 = v / 2 ^ 16 % 256 := rfl

/-! ### Doorbells rejected -/

/-- The reasons of R289 fit DB_LOG.REASON. -/
theorem sqReason_lt (d : Dev) (f v : Nat) : sqReason d f v < 8 := by
  unfold sqReason
  repeat' split
  all_goals decide

theorem cqReason_lt (d : Dev) (f v : Nat) : cqReason d f v < 8 := by
  unfold cqReason
  repeat' split
  all_goals decide

/-- Counting an event changes no check of a doorbell. -/
theorem sqReason_count (d : Dev) (ev inst k f v : Nat) : sqReason (d.count ev inst k) f v = sqReason d f v := by
  have h := IndicesMoved.count d ev inst k
  simp only [sqReason, h.sqOf, h.sqState, h.sqSize, Dev.rd_rng_count]

theorem cqReason_count (d : Dev) (ev inst k f v : Nat) : cqReason (d.count ev inst k) f v = cqReason d f v := by
  have h := IndicesMoved.count d ev inst k
  simp only [cqReason, h.cqOf, h.cqSize, Dev.rd_rng_count]

section
variable (d : Dev) (f v r : Nat) (cq : Bool)

theorem Dev.dbReject_kept : Kept (rejectFields f r) [] d (d.dbReject f (v % 2 ^ 16) (v / 2 ^ 16 % 256) r cq) :=
  ((Kept.refl d).inc (by simp [rejectFields])).logFirst _ (by simp [rejectFields]) (by simp [rejectFields])

/-- A rejected doorbell is counted, and recorded when no record is held (R46, R289). -/
theorem doorbellRejected_dbReject (hr : r < 8) :
    DoorbellRejected d (d.dbReject f (v % 2 ^ 16) (v / 2 ^ 16 % 256) r cq) f v r (b2n cq) := by
  have hcq : b2n cq < 2 := by cases cq <;> decide
  have hlog : d.is (.rng (.DB_LOG_VALID f)) = (d.fcnt f (r - 1)).is (.rng (.DB_LOG_VALID f)) := by simp [Dev.is, Dev.fcnt]
  unfold Dev.dbReject Dev.logFirst
  by_cases hv : d.is (.rng (.DB_LOG_VALID f)) = true
  · have h1 := (d.is_iff_of_width_one (f := .rng (.DB_LOG_VALID f)) rfl).mp hv
    rw [if_pos (hlog ▸ hv)]
    exact ⟨by simp [Counts, Dev.fcnt], by simp [Dev.fcnt, h1], fun h0 => by omega⟩
  · rw [if_neg (hlog ▸ hv)]
    simp [DoorbellRejected, Counts, Dev.fcnt, Nat.mod_eq_of_lt hr, Nat.mod_eq_of_lt hcq]

end

theorem doorbellRejected_of_count {d t : Dev} {f v r cq ev inst k : Nat} (h : DoorbellRejected (d.count ev inst k) t f v r cq) :
    DoorbellRejected d t f v r cq := by
  simpa only [DoorbellRejected, Counts, Dev.rd_rng_count] using h

/-- A command that rejects a doorbell as R289 says. -/
theorem effect_dbReject {c : Sys2Proof.Instr} {s : State} {f v r : Nat} {cq : Bool} (hr : r < 8)
    (hx : exec c s = .next { s with dev := (s.dev.count 0x51 0 1).dbReject f (v % 2 ^ 16) (v / 2 ^ 16 % 256) r cq }) :
    Effect c s (rejectFields f r) [] (fun t => DoorbellRejected s.dev t f v r (b2n cq)) :=
  .of_next hx (((Kept.refl _).count _ _ _).trans (Dev.dbReject_kept _ f v r cq))
    (doorbellRejected_of_count (doorbellRejected_dbReject _ f v r cq hr))

/-! ### Doorbells accepted -/

/-- The device after submission ring `n` of function `f` has taken index `i` as its tail (R289, R313). -/
def Dev.sqTailed (d : Dev) (f n i : Nat) : Dev :=
  let d := (d.wr (.rng (.SQ_INDEX_TAIL n)) i).count 0x60 f 1
  if d.safeRing n then d.safeEntries n else d

/-- The device after submission ring `n`, where bound to completion ring `c`, has used room that `c` has gained (R306, R313). -/
def Dev.cqFreed (d : Dev) (c n : Nat) : Dev :=
  if d.sqCq n = some c then if d.sqState n = 2 then d.abortDrain n 65536 else if d.safeRing n then d.safeEntries n else d else d

/-- The device after completion ring `c` of function `f` has taken index `i` as its head (R289, R306, R313). -/
def Dev.cqHeaded (d : Dev) (f c i : Nat) : Dev :=
  (List.range 256).foldl (fun d n => d.cqFreed c n) ((d.wr (.rng (.CQ_INDEX_HEAD c)) i).count 0x60 f 1)

/-- A doorbell is rejected with the reason of its first failing check; else its ring takes the index. -/
theorem exec_sqDoorbell (f : Fin 50) (v : BitVec 32) (s : State) : exec (.sqDoorbell f v) s = s.host (fun d =>
    if sqReason d f v.toNat = 0 then (d.sqOf f (v.toNat / 2 ^ 16 % 256)).elim d (fun n => d.sqTailed f n (v.toNat % 2 ^ 16))
    else d.dbReject f (v.toNat % 2 ^ 16) (v.toNat / 2 ^ 16 % 256) (sqReason d f v.toNat) false) := by
  show execSqDoorbell f v s = _
  unfold execSqDoorbell
  congr 1
  funext d
  simp only [bitsOf_doorbell_high, bitsOf_doorbell_ring, sqReason, Nat.reducePow]
  by_cases hz : v.toNat / 16777216 ≠ 0
  · simp only [if_pos hz]
    rfl
  simp only [if_neg hz]
  cases d.sqOf f (v.toNat / 65536 % 256) with
  | none => rfl
  | some n =>
    dsimp only [Option.elim]
    by_cases hstate : d.sqState n ≠ 1
    · simp only [if_pos hstate]
      rfl
    by_cases hrange : d.sqSize n ≤ v.toNat % 65536
    · simp only [if_neg hstate, if_pos hrange]
      rfl
    simp only [if_neg hstate, if_neg hrange]
    split
    · rfl
    · rfl

/-- As `exec_sqDoorbell`, of a completion ring. -/
theorem exec_cqDoorbell (f : Fin 50) (v : BitVec 32) (s : State) : exec (.cqDoorbell f v) s = s.host (fun d =>
    if cqReason d f v.toNat = 0 then (d.cqOf f (v.toNat / 2 ^ 16 % 256)).elim d (fun c => d.cqHeaded f c (v.toNat % 2 ^ 16))
    else d.dbReject f (v.toNat % 2 ^ 16) (v.toNat / 2 ^ 16 % 256) (cqReason d f v.toNat) true) := by
  show execCqDoorbell f v s = _
  unfold execCqDoorbell
  congr 1
  funext d
  simp only [bitsOf_doorbell_high, bitsOf_doorbell_ring, cqReason, Nat.reducePow]
  by_cases hz : v.toNat / 16777216 ≠ 0
  · simp only [if_pos hz]
    rfl
  simp only [if_neg hz]
  cases d.cqOf f (v.toNat / 65536 % 256) with
  | none => rfl
  | some c =>
    dsimp only [Option.elim]
    by_cases hen : d.rd (.rng (.CQ_CTRL_EN c)) = 0
    · have hoff : (!d.is (.rng (.CQ_CTRL_EN c))) = true := by simp [Dev.is, hen]
      simp only [if_pos hoff, if_pos hen]
      rfl
    have hon : ¬ (!d.is (.rng (.CQ_CTRL_EN c))) = true := by simp [Dev.is, hen]
    by_cases hrange : d.cqSize c ≤ v.toNat % 65536
    · simp only [if_neg hon, if_neg hen, if_pos hrange]
      rfl
    simp only [if_neg hon, if_neg hen, if_neg hrange]
    split
    · rfl
    · rfl

/-- Steps that each leave a value leave it in a row. -/
theorem foldl_eq_of_fixed {α β : Type} (l : List α) (g : β → α → β) (b : β) (h : ∀ x ∈ l, g b x = b) : l.foldl g b = b := by
  induction l with
  | nil => rfl
  | cons x xs ih => rw [List.foldl_cons, h x (by simp), ih fun y hy => h y (by simp [hy])]

section
variable (d : Dev) (f n i : Nat)

/-- The tail taken stays, whatever entries then end. -/
theorem Dev.rd_sqTailed : (d.sqTailed f n i).rd (.rng (.SQ_INDEX_TAIL n)) = i % 2 ^ 16 := by
  have h : DrainKept ((d.wr (.rng (.SQ_INDEX_TAIL n)) i).count 0x60 f 1) (d.sqTailed f n i) :=
    .ite _ (Dev.safeEntries_drainKept _ n) (.refl _)
  rw [h _ rfl rfl]
  simp

theorem Dev.cqFreed_drainKept (m : Nat) : DrainKept d (d.cqFreed n m) :=
  .ite _ (.ite _ (d.abortDrain_drainKept m _) (.ite _ (d.safeEntries_drainKept m) (.refl d))) (.refl d)

/-- The head taken stays, whatever completions then follow. -/
theorem Dev.rd_cqHeaded : (d.cqHeaded f n i).rd (.rng (.CQ_INDEX_HEAD n)) = i % 2 ^ 16 := by
  have h : DrainKept ((d.wr (.rng (.CQ_INDEX_HEAD n)) i).count 0x60 f 1) (d.cqHeaded f n i) :=
    DrainKept.foldl _ _ (fun e m => e.cqFreed_drainKept n m) _
  rw [h _ rfl rfl]
  simp

/-- An index written, and the doorbell counted. -/
theorem Dev.wr_count_kept (x : Fld) : Kept [x] [] d ((d.wr x i).count 0x60 f 1) :=
  ((Kept.refl d).wr i (by simp)).count _ _ _

/-- Outside the safe state a tail is taken and nothing else happens. -/
theorem Dev.sqTailed_kept (hn : d.safeRing n = false) : Kept [.rng (.SQ_INDEX_TAIL n)] [] d (d.sqTailed f n i) := by
  have hk := d.wr_count_kept f i (.rng (.SQ_INDEX_TAIL n))
  have hm : IndicesMoved d _ := .of_kept hk (by simp [isIndex]) (by simp)
  rw [Dev.sqTailed, if_neg (by simp [hm.safeRing, hn])]
  exact hk

/-- With no ring bound to it aborting or in the safe state, a completion ring's head is taken and nothing else happens. -/
theorem Dev.cqHeaded_kept (hn : ∀ m : Fin 256, d.sqCq m = some n → d.sqState m ≠ 2 ∧ d.safeRing m = false) :
    Kept [.rng (.CQ_INDEX_HEAD n)] [] d (d.cqHeaded f n i) := by
  have hk := d.wr_count_kept f i (.rng (.CQ_INDEX_HEAD n))
  have hm : IndicesMoved d _ := .of_kept hk (by simp [isIndex]) (by simp)
  have hfix : ∀ m ∈ List.range 256, Dev.cqFreed ((d.wr (.rng (.CQ_INDEX_HEAD n)) i).count 0x60 f 1) n m =
      (d.wr (.rng (.CQ_INDEX_HEAD n)) i).count 0x60 f 1 := fun m hm256 => by
    unfold Dev.cqFreed
    rw [hm.sqCq, hm.sqState, hm.safeRing]
    split
    · next hb =>
      obtain ⟨hstate, hsafe⟩ := hn ⟨m, List.mem_range.mp hm256⟩ hb
      rw [if_neg hstate, if_neg (by simpa using hsafe)]
    · rfl
  rw [Dev.cqHeaded, foldl_eq_of_fixed _ _ _ hfix]
  exact hk

end

section
variable {s : State} (hs : Awake s) (f : Fin 50) (v : BitVec 32)
include hs

/-- A submission doorbell with a failing check (R289). -/
theorem effect_sqDoorbell_rejected (h0 : sqReason s.dev f v.toNat ≠ 0) :
    Effect (.sqDoorbell f v) s (rejectFields f (sqReason s.dev f v.toNat)) [] (fun t =>
      DoorbellRejected s.dev t f v.toNat (sqReason s.dev f v.toNat) 0) := by
  refine effect_dbReject (cq := false) (sqReason_lt _ _ _) ?_
  rw [exec_sqDoorbell, State.host_awake s _ hs, sqReason_count, if_neg h0]

theorem exec_sqDoorbell_accepted {n : Nat} (h0 : sqReason s.dev f v.toNat = 0)
    (hn : s.dev.sqOf f (v.toNat / 2 ^ 16 % 256) = some n) :
    exec (.sqDoorbell f v) s = .next { s with dev := (s.dev.count 0x51 0 1).sqTailed f n (v.toNat % 2 ^ 16) } := by
  rw [exec_sqDoorbell, State.host_awake s _ hs, sqReason_count, if_pos h0, (IndicesMoved.count _ _ _ _).sqOf, hn, Option.elim]

/-- A completion doorbell with a failing check (R289). -/
theorem effect_cqDoorbell_rejected (h0 : cqReason s.dev f v.toNat ≠ 0) :
    Effect (.cqDoorbell f v) s (rejectFields f (cqReason s.dev f v.toNat)) [] (fun t =>
      DoorbellRejected s.dev t f v.toNat (cqReason s.dev f v.toNat) 1) := by
  refine effect_dbReject (cq := true) (cqReason_lt _ _ _) ?_
  rw [exec_cqDoorbell, State.host_awake s _ hs, cqReason_count, if_neg h0]

theorem exec_cqDoorbell_accepted {c : Nat} (h0 : cqReason s.dev f v.toNat = 0)
    (hc : s.dev.cqOf f (v.toNat / 2 ^ 16 % 256) = some c) :
    exec (.cqDoorbell f v) s = .next { s with dev := (s.dev.count 0x51 0 1).cqHeaded f c (v.toNat % 2 ^ 16) } := by
  rw [exec_cqDoorbell, State.host_awake s _ hs, cqReason_count, if_pos h0, (IndicesMoved.count _ _ _ _).cqOf, hc, Option.elim]

end

theorem doorbells : Doorbells := by
  intro s f v hs
  have hm := IndicesMoved.count s.dev 0x51 0 1
  refine ⟨?_, fun n h0 hn => ?_, ?_, fun c h0 hc => ?_⟩
  · rintro r rfl hr
    exact effect_sqDoorbell_rejected hs f v hr
  · have hx := exec_sqDoorbell_accepted hs f v h0 hn
    refine ⟨⟨_, hx, rfl, rfl, ?_⟩, fun hsafe => Effect.of_next hx ?_ trivial⟩
    · dsimp only
      rw [Dev.rd_sqTailed, Nat.mod_mod]
    · exact ((Kept.refl _).count _ _ _).trans (Dev.sqTailed_kept _ f n _ (by rw [hm.safeRing, hsafe]))
  · rintro r rfl hr
    exact effect_cqDoorbell_rejected hs f v hr
  · have hx := exec_cqDoorbell_accepted hs f v h0 hc
    refine ⟨⟨_, hx, rfl, rfl, ?_⟩, fun hidle => Effect.of_next hx ?_ trivial⟩
    · dsimp only
      rw [Dev.rd_cqHeaded, Nat.mod_mod]
    · refine ((Kept.refl _).count _ _ _).trans (Dev.cqHeaded_kept _ f c _ fun m hb => ?_)
      rw [hm.sqCq] at hb
      rw [hm.sqState, hm.safeRing]
      exact hidle m hb

/-! ### Rings enabled and disabled -/

section
variable {s : State} {c : Sys2Proof.Instr}

/-- A write of the value that EN has is only a host access. -/
theorem effect_unchanged (hx : exec c s = .next { s with dev := s.dev.count 0x51 0 1 }) : Effect c s [] [] (fun _ => True) :=
  .of_next hx ((Kept.refl _).count _ _ _) trivial

/-- A refused change of EN is counted at the ring's function (R307). -/
theorem effect_enRefused {f : Nat} (hx : exec c s = .next { s with dev := (s.dev.count 0x51 0 1).fcnt f 7 }) :
    Effect c s [.rng (.FCNT_COUNT f 7)] [] (fun t => Counts s.dev t (.rng (.FCNT_COUNT f 7))) :=
  .of_next hx (((Kept.refl _).count _ _ _).inc (by simp)) (by simp [Counts, Dev.fcnt])

end

/-- The device with submission ring `n` enabled: running and empty (R307). -/
def Dev.sqStarted (d : Dev) (n : Nat) : Dev :=
  (d.wrs [(.rng (.SQ_CTRL_EN n), 1), (.rng (.SQ_INDEX_HEAD n), 0), (.rng (.SQ_INDEX_TAIL n), 0), (.rng (.SQ_STATUS_STATE n), 1)]).modSq n
    (fun q => { q with ents := [], fetchTo := 0 })

/-- Whether the completion ring bound to submission ring `n` is enabled (R307). -/
def Dev.boundCqOn (d : Dev) (n : Nat) : Bool := (d.sqCq n).any (fun c => d.is (.rng (.CQ_CTRL_EN c)))

theorem Dev.boundCqOn_eq_true_iff (d : Dev) (n : Nat) :
    d.boundCqOn n = true ↔ ∃ c, d.sqCq n = some c ∧ d.rd (.rng (.CQ_CTRL_EN c)) ≠ 0 := by
  cases h : d.sqCq n <;> simp [Dev.boundCqOn, Dev.is, h]

theorem Dev.boundCqOn_count (d : Dev) (ev inst k n : Nat) : (d.count ev inst k).boundCqOn n = d.boundCqOn n := by
  simp [Dev.boundCqOn, Dev.is, (IndicesMoved.count d ev inst k).sqCq]

/-- Whether submission ring `n` has no outstanding entry (R307). -/
def Dev.sqIdle (d : Dev) (n : Nat) : Bool :=
  (d.sq n).ents = [] ∧ d.fetching n = 0 ∧ d.rd (.rng (.SQ_INDEX_HEAD n)) = d.rd (.rng (.SQ_INDEX_TAIL n))

theorem Dev.sqIdle_count (d : Dev) (ev inst k n : Nat) : (d.count ev inst k).sqIdle n = d.sqIdle n := by
  simp [Dev.sqIdle, Dev.fetching_count, Dev.sq]

theorem exec_sqEnable (n : Fin 256) (s : State) : exec (.sqEnable n) s = s.host (fun d =>
    if d.is (.rng (.SQ_CTRL_EN n)) then d
    else if d.sqState n = 0 ∧ d.is (.rng (.SQ_ASSIGN_VALID n)) ∧ d.boundCqOn n then d.sqStarted n
    else d.fcnt (d.sqFunc n) 7) := by
  show execSqEnable n s = _
  unfold execSqEnable
  congr 1
  funext d
  unfold Dev.boundCqOn
  cases d.sqCq n <;> rfl

/-- Whether submission ring `n` may be disabled: open, or with debug level D2 active, and stopped, or running and idle (R307, R309). -/
def Dev.sqMayStop (d : Dev) (n : Nat) : Bool :=
  (d.sqSealed n = false ∨ d.d2 = true) ∧ (d.sqState n = 3 ∨ d.sqState n = 1 ∧ d.sqIdle n = true)

theorem Dev.sqMayStop_eq_false_iff (d : Dev) (n : Nat) : d.sqMayStop n = false ↔
    d.sqSealed n = true ∧ d.d2 = false ∨ d.sqState n ≠ 3 ∧ (d.sqState n ≠ 1 ∨ d.sqIdle n = false) := by
  simp only [Dev.sqMayStop, decide_eq_false_iff_not, not_and_or, not_or, Bool.not_eq_false, Bool.not_eq_true, ne_eq]

theorem Dev.sqMayStop_count (d : Dev) (ev inst k n : Nat) : (d.count ev inst k).sqMayStop n = d.sqMayStop n := by
  have hm := IndicesMoved.count d ev inst k
  simp only [Dev.sqMayStop, hm.sqSealed, hm.d2, hm.sqState, Dev.sqIdle_count]

theorem exec_sqDisable (n : Fin 256) (s : State) : exec (.sqDisable n) s = s.host (fun d =>
    if d.is (.rng (.SQ_CTRL_EN n)) then
      if d.sqMayStop n then d.wrs [(.rng (.SQ_CTRL_EN n), 0), (.rng (.SQ_STATUS_STATE n), 0)] else d.fcnt (d.sqFunc n) 7
    else d) := by
  show execSqDisable n s = _
  unfold execSqDisable
  congr 1
  funext d
  have hidle : ((d.sq n).ents.isEmpty && d.fetching n = 0 &&
      d.rd (.rng (.SQ_INDEX_HEAD n)) = d.rd (.rng (.SQ_INDEX_TAIL n)) : Bool) = d.sqIdle n := by
    rw [Bool.eq_iff_iff]
    simp [Dev.sqIdle, and_assoc]
  have hstop : (d.sqSealed n ∧ !d.d2) ∨ !(d.sqState n = 3 ∨ (d.sqState n = 1 ∧ d.sqIdle n)) ↔ ¬ d.sqMayStop n = true := by
    rw [Bool.not_eq_true, Dev.sqMayStop_eq_false_iff]
    simp
  simp only [hidle, hstop, ite_not]
  cases d.is (.rng (.SQ_CTRL_EN n)) <;> rfl

section
variable {s : State} (hs : Awake s) (n : Fin 256)
include hs

/-- A submission ring whose EN is 1 is not enabled again. -/
theorem effect_sqEnable_on (hen : s.dev.rd (.rng (.SQ_CTRL_EN n)) ≠ 0) : Effect (.sqEnable n) s [] [] (fun _ => True) := by
  refine effect_unchanged ?_
  rw [exec_sqEnable, State.host_awake s _ hs, if_pos (by simpa [Dev.is] using hen)]

section
variable (hen : s.dev.rd (.rng (.SQ_CTRL_EN n)) = 0)
include hen

theorem effect_sqEnable_refused (h : s.dev.sqState n ≠ 0 ∨ s.dev.rd (.rng (.SQ_ASSIGN_VALID n)) = 0 ∨
    ∀ c, s.dev.sqCq n = some c → s.dev.rd (.rng (.CQ_CTRL_EN c)) = 0) :
    Effect (.sqEnable n) s [.rng (.FCNT_COUNT (s.dev.sqFunc n) 7)] [] (fun t =>
      Counts s.dev t (.rng (.FCNT_COUNT (s.dev.sqFunc n) 7))) := by
  have hm := IndicesMoved.count s.dev 0x51 0 1
  have hno : ¬ (s.dev.sqState n = 0 ∧ s.dev.rd (.rng (.SQ_ASSIGN_VALID n)) ≠ 0 ∧ s.dev.boundCqOn n = true) := by
    rw [Dev.boundCqOn_eq_true_iff]
    rintro ⟨hstate, hvalid, c, hc, hon⟩
    obtain h | h | h := h
    · exact h hstate
    · exact hvalid h
    · exact hon (h c hc)
  refine effect_enRefused ?_
  rw [exec_sqEnable, State.host_awake s _ hs, if_neg (by simp [Dev.is, hen]), hm.sqFunc, hm.sqState, Dev.boundCqOn_count,
    if_neg (by simpa [Dev.is] using hno)]

theorem effect_sqEnable_accepted (hstate : s.dev.sqState n = 0) (hvalid : s.dev.rd (.rng (.SQ_ASSIGN_VALID n)) ≠ 0)
    (hcq : ∃ c, s.dev.sqCq n = some c ∧ s.dev.rd (.rng (.CQ_CTRL_EN c)) ≠ 0) :
    Effect (.sqEnable n) s [.rng (.SQ_CTRL_EN n), .rng (.SQ_INDEX_HEAD n), .rng (.SQ_INDEX_TAIL n), .rng (.SQ_STATUS_STATE n)] [.sqs]
      (fun t => t.rd (.rng (.SQ_CTRL_EN n)) = 1 ∧ t.rd (.rng (.SQ_INDEX_HEAD n)) = 0 ∧ t.rd (.rng (.SQ_INDEX_TAIL n)) = 0 ∧
        t.sqState n = 1 ∧ (t.sq n).ents = [] ∧ ∀ m : Fin 256, m ≠ n → t.sq m = s.dev.sq m) := by
  have hm := IndicesMoved.count s.dev 0x51 0 1
  have hx : exec (.sqEnable n) s = .next { s with dev := (s.dev.count 0x51 0 1).sqStarted n } := by
    rw [exec_sqEnable, State.host_awake s _ hs, if_neg (by simp [Dev.is, hen]), hm.sqState, Dev.boundCqOn_count,
      if_pos (by simpa [Dev.is, hstate, hvalid, Dev.boundCqOn_eq_true_iff] using hcq)]
  refine Effect.of_next hx ?_ ⟨?_, ?_, ?_, ?_, ?_, fun m hne => ?_⟩
  · exact (((Kept.refl _).count _ _ _).wrs _ (by simp)).modSq n _ (by simp)
  · simp [Dev.sqStarted]
  · simp [Dev.sqStarted]
  · simp [Dev.sqStarted]
  · simp [Dev.sqStarted, Dev.sqState]
  · simp [Dev.sqStarted]
  · have hval : m.val ≠ n.val := fun h => hne (Fin.ext h)
    have hkept := Dev.sq_modSq ((s.dev.count 0x51 0 1).wrs [(.rng (.SQ_CTRL_EN n), 1), (.rng (.SQ_INDEX_HEAD n), 0),
      (.rng (.SQ_INDEX_TAIL n), 0), (.rng (.SQ_STATUS_STATE n), 1)]) n m (fun q => { q with ents := [], fetchTo := 0 })
    rw [if_neg (fun h => hval h.1)] at hkept
    exact hkept.trans (by simp [Dev.sq])

/-- A submission ring whose EN is 0 is not disabled again. -/
theorem effect_sqDisable_off : Effect (.sqDisable n) s [] [] (fun _ => True) := by
  refine effect_unchanged ?_
  rw [exec_sqDisable, State.host_awake s _ hs, if_neg (by simp [Dev.is, hen])]

end

section
variable (hen : s.dev.rd (.rng (.SQ_CTRL_EN n)) ≠ 0)
include hen

theorem effect_sqDisable_refused (h : s.dev.sqMayStop n = false) :
    Effect (.sqDisable n) s [.rng (.FCNT_COUNT (s.dev.sqFunc n) 7)] [] (fun t =>
      Counts s.dev t (.rng (.FCNT_COUNT (s.dev.sqFunc n) 7))) := by
  refine effect_enRefused ?_
  rw [exec_sqDisable, State.host_awake s _ hs, if_pos (by simpa [Dev.is] using hen), Dev.sqMayStop_count, if_neg (by simp [h]),
    (IndicesMoved.count _ _ _ _).sqFunc]

theorem effect_sqDisable_accepted (h : s.dev.sqMayStop n = true) :
    Effect (.sqDisable n) s [.rng (.SQ_CTRL_EN n), .rng (.SQ_STATUS_STATE n)] [] (fun t =>
      t.rd (.rng (.SQ_CTRL_EN n)) = 0 ∧ t.sqState n = 0) := by
  have hx : exec (.sqDisable n) s = .next { s with
      dev := (s.dev.count 0x51 0 1).wrs [(.rng (.SQ_CTRL_EN n), 0), (.rng (.SQ_STATUS_STATE n), 0)] } := by
    rw [exec_sqDisable, State.host_awake s _ hs, if_pos (by simpa [Dev.is] using hen), Dev.sqMayStop_count, if_pos h]
  exact .of_next hx (((Kept.refl _).count _ _ _).wrs _ (by simp)) ⟨by simp, by simp [Dev.sqState]⟩

end

end

/-- The device with completion ring `c` enabled and empty (R307). -/
def Dev.cqStarted (d : Dev) (c : Nat) : Dev :=
  { d.wrs [(.rng (.CQ_CTRL_EN c), 1), (.rng (.CQ_INDEX_HEAD c), 0), (.rng (.CQ_INDEX_TAIL c), 0)] with
    cqSince := bankAt 256 0 d.cqSince c (fun _ => 0) }

theorem Dev.rd_cqStarted (d : Dev) (c : Nat) (f : Fld) : (d.cqStarted c).rd f =
    (d.wrs [(.rng (.CQ_CTRL_EN c), 1), (.rng (.CQ_INDEX_HEAD c), 0), (.rng (.CQ_INDEX_TAIL c), 0)]).rd f := rfl

theorem exec_cqEnable (c : Fin 256) (s : State) : exec (.cqEnable c) s = s.host (fun d =>
    if d.is (.rng (.CQ_CTRL_EN c)) then d
    else if !d.is (.rng (.CQ_ASSIGN_VALID c)) then d.fcnt (d.rd (.rng (.CQ_ASSIGN_FUNC c))) 7
    else d.cqStarted c) := rfl

/-- Whether a submission ring bound to completion ring `c` is not disabled (R307). -/
def Dev.cqInUse (d : Dev) (c : Nat) : Bool :=
  (List.range 256).any (fun n => d.sqCq n = some c && d.is (.rng (.SQ_ASSIGN_VALID n)) && d.sqState n ≠ 0)

theorem Dev.cqInUse_count (d : Dev) (ev inst k c : Nat) : (d.count ev inst k).cqInUse c = d.cqInUse c := by
  have hm := IndicesMoved.count d ev inst k
  simp only [Dev.cqInUse, hm.sqCq, hm.sqState, Dev.is, Dev.rd_rng_count]

theorem Dev.cqInUse_eq_true_iff (d : Dev) (c : Nat) : d.cqInUse c = true ↔
    ∃ m : Fin 256, d.sqCq m = some c ∧ d.rd (.rng (.SQ_ASSIGN_VALID m)) ≠ 0 ∧ d.sqState m ≠ 0 := by
  simp only [Dev.cqInUse, Dev.is, List.any_eq_true, List.mem_range, Bool.and_eq_true, decide_eq_true_eq]
  constructor
  · rintro ⟨m, hm, ⟨hb, hvalid⟩, hstate⟩
    exact ⟨⟨m, hm⟩, hb, hvalid, hstate⟩
  · rintro ⟨m, hb, hvalid, hstate⟩
    exact ⟨m, m.isLt, ⟨hb, hvalid⟩, hstate⟩

theorem exec_cqDisable (c : Fin 256) (s : State) : exec (.cqDisable c) s = s.host (fun d =>
    if !d.is (.rng (.CQ_CTRL_EN c)) then d
    else if d.cqInUse c then d.fcnt (d.rd (.rng (.CQ_ASSIGN_FUNC c))) 7
    else d.wr (.rng (.CQ_CTRL_EN c)) 0) := rfl

section
variable {s : State} (hs : Awake s) (c : Fin 256)
include hs

/-- A completion ring whose EN is 1 is not enabled again. -/
theorem effect_cqEnable_on (hen : s.dev.rd (.rng (.CQ_CTRL_EN c)) ≠ 0) : Effect (.cqEnable c) s [] [] (fun _ => True) := by
  refine effect_unchanged ?_
  rw [exec_cqEnable, State.host_awake s _ hs, if_pos (by simpa [Dev.is] using hen)]

section
variable (hen : s.dev.rd (.rng (.CQ_CTRL_EN c)) = 0)
include hen

theorem effect_cqEnable_refused (h : s.dev.rd (.rng (.CQ_ASSIGN_VALID c)) = 0) :
    Effect (.cqEnable c) s [.rng (.FCNT_COUNT (s.dev.rd (.rng (.CQ_ASSIGN_FUNC c))) 7)] [] (fun t =>
      Counts s.dev t (.rng (.FCNT_COUNT (s.dev.rd (.rng (.CQ_ASSIGN_FUNC c))) 7))) := by
  refine effect_enRefused ?_
  rw [exec_cqEnable, State.host_awake s _ hs, if_neg (by simp [Dev.is, hen]), if_pos (by simp [Dev.is, h]), Dev.rd_rng_count]

theorem effect_cqEnable_accepted (h : s.dev.rd (.rng (.CQ_ASSIGN_VALID c)) ≠ 0) :
    Effect (.cqEnable c) s [.rng (.CQ_CTRL_EN c), .rng (.CQ_INDEX_HEAD c), .rng (.CQ_INDEX_TAIL c)] [.cqSince] (fun t =>
      t.rd (.rng (.CQ_CTRL_EN c)) = 1 ∧ t.rd (.rng (.CQ_INDEX_HEAD c)) = 0 ∧ t.rd (.rng (.CQ_INDEX_TAIL c)) = 0) := by
  have hx : exec (.cqEnable c) s = .next { s with dev := (s.dev.count 0x51 0 1).cqStarted c } := by
    rw [exec_cqEnable, State.host_awake s _ hs, if_neg (by simp [Dev.is, hen]), if_neg (by simpa [Dev.is] using h)]
  refine .of_next hx ((((Kept.refl _).count _ _ _).wrs _ (by simp)).withCqSince _ (by simp)) ?_
  simp [Dev.rd_cqStarted]

/-- A completion ring whose EN is 0 is not disabled again. -/
theorem effect_cqDisable_off : Effect (.cqDisable c) s [] [] (fun _ => True) := by
  refine effect_unchanged ?_
  rw [exec_cqDisable, State.host_awake s _ hs, if_pos (by simp [Dev.is, hen])]

end

section
variable (hen : s.dev.rd (.rng (.CQ_CTRL_EN c)) ≠ 0)
include hen

theorem effect_cqDisable_refused (h : s.dev.cqInUse c = true) :
    Effect (.cqDisable c) s [.rng (.FCNT_COUNT (s.dev.rd (.rng (.CQ_ASSIGN_FUNC c))) 7)] [] (fun t =>
      Counts s.dev t (.rng (.FCNT_COUNT (s.dev.rd (.rng (.CQ_ASSIGN_FUNC c))) 7))) := by
  refine effect_enRefused ?_
  rw [exec_cqDisable, State.host_awake s _ hs, if_neg (by simpa [Dev.is] using hen), Dev.cqInUse_count, if_pos h, Dev.rd_rng_count]

theorem effect_cqDisable_accepted (h : s.dev.cqInUse c = false) :
    Effect (.cqDisable c) s [.rng (.CQ_CTRL_EN c)] [] (fun t => t.rd (.rng (.CQ_CTRL_EN c)) = 0) := by
  have hx : exec (.cqDisable c) s = .next { s with dev := (s.dev.count 0x51 0 1).wr (.rng (.CQ_CTRL_EN c)) 0 } := by
    rw [exec_cqDisable, State.host_awake s _ hs, if_neg (by simpa [Dev.is] using hen), Dev.cqInUse_count, if_neg (by simp [h])]
  exact .of_next hx (((Kept.refl _).count _ _ _).wr 0 (by simp)) (by simp)

end

end

theorem ringsEnabledAndDisabled : RingsEnabledAndDisabled := by
  intro s n hs
  refine ⟨fun hen => ⟨?_, ?_, ?_⟩, fun hen => ⟨?_, ?_⟩, fun hen => ⟨?_, ?_, ?_⟩, fun hen => ⟨?_, ?_, ?_⟩⟩
  · exact effect_sqDisable_off hs n hen
  · exact effect_sqEnable_accepted hs n hen
  · exact effect_sqEnable_refused hs n hen
  · exact effect_sqEnable_on hs n hen
  · rintro idle rfl
    exact ⟨fun h => effect_sqDisable_refused hs n hen ((s.dev.sqMayStop_eq_false_iff n).mpr h),
      fun hopen hstill => effect_sqDisable_accepted hs n hen (decide_eq_true ⟨hopen, hstill⟩)⟩
  · exact effect_cqDisable_off hs n hen
  · exact effect_cqEnable_refused hs n hen
  · exact effect_cqEnable_accepted hs n hen
  · exact effect_cqEnable_on hs n hen
  · exact fun h => effect_cqDisable_refused hs n hen ((s.dev.cqInUse_eq_true_iff n).mpr h)
  · intro h
    refine effect_cqDisable_accepted hs n hen (Bool.eq_false_iff.mpr fun huse => ?_)
    obtain ⟨m, hb, hvalid, hstate⟩ := (s.dev.cqInUse_eq_true_iff n).mp huse
    exact hstate (h m hb hvalid)

/-- Settles O24: doorbells checked, rejected or taken, and the enables of rings, clause by clause. -/
theorem doorbellsAndRingEnables : Obligations.DoorbellsAndRingEnables := by
  unfold Obligations.DoorbellsAndRingEnables
  exact ⟨doorbells, ringsEnabledAndDisabled⟩

end Sys2Proof.Machine
end

section
-- The theorems are elaborated in order, which keeps the memory that a check of the whole text takes within its limit.
set_option Elab.async false

/-! SUPPORT.  The words of engine instructions: each field of a word is the operand it was made of, and decoding gives the instruction back
(R217, R218). -/

namespace Sys2Proof.Machine

open Sys2Proof.Claims

/-! ### Fields of a word -/

section
variable (op f : Nat) (rd a b : Rn) (pos len : Fin 64) (imm : BitVec 16)

theorem fmtA_lt (hop : op < 64) (hf : f < 2048) : fmtA op rd a b f < 2 ^ 32 := by unfold fmtA; omega
theorem fmtK_lt (hop : op < 64) : fmtK op rd a imm < 2 ^ 32 := by unfold fmtK; omega
theorem fmtX_lt (hf : f < 16) : fmtX rd a pos len f < 2 ^ 32 := by unfold fmtX; omega

@[simp] theorem bitsOf_fmtA_op (hop : op < 64) (hf : f < 2048) : bitsOf (fmtA op rd a b f) 26 6 = op := by unfold bitsOf fmtA; omega
@[simp] theorem bitsOf_fmtA_func (hf : f < 2048) : bitsOf (fmtA op rd a b f) 0 11 = f := by unfold bitsOf fmtA; omega
@[simp] theorem rn_fmtA_rd (hf : f < 2048) : rn (fmtA op rd a b f) 21 = rd := by unfold rn bitsOf fmtA; ext; simp only [Fin.ofNat]; omega
@[simp] theorem rn_fmtA_a (hf : f < 2048) : rn (fmtA op rd a b f) 16 = a := by unfold rn bitsOf fmtA; ext; simp only [Fin.ofNat]; omega
@[simp] theorem rn_fmtA_b (hf : f < 2048) : rn (fmtA op rd a b f) 11 = b := by unfold rn bitsOf fmtA; ext; simp only [Fin.ofNat]; omega

@[simp] theorem bitsOf_fmtK_op (hop : op < 64) : bitsOf (fmtK op rd a imm) 26 6 = op := by unfold bitsOf fmtK; omega
@[simp] theorem rn_fmtK_rd : rn (fmtK op rd a imm) 21 = rd := by unfold rn bitsOf fmtK; ext; simp only [Fin.ofNat]; omega
@[simp] theorem rn_fmtK_a : rn (fmtK op rd a imm) 16 = a := by unfold rn bitsOf fmtK; ext; simp only [Fin.ofNat]; omega
@[simp] theorem ofNat_fmtK : BitVec.ofNat 16 (fmtK op rd a imm) = imm := by
  unfold fmtK; apply BitVec.eq_of_toNat_eq; rw [BitVec.toNat_ofNat]; omega

@[simp] theorem bitsOf_fmtX_op (hf : f < 16) : bitsOf (fmtX rd a pos len f) 26 6 = 8 := by unfold bitsOf fmtX; omega
@[simp] theorem bitsOf_fmtX_func (hf : f < 16) : bitsOf (fmtX rd a pos len f) 0 4 = f := by unfold bitsOf fmtX; omega
@[simp] theorem rn_fmtX_rd (hf : f < 16) : rn (fmtX rd a pos len f) 21 = rd := by unfold rn bitsOf fmtX; ext; simp only [Fin.ofNat]; omega
@[simp] theorem rn_fmtX_a (hf : f < 16) : rn (fmtX rd a pos len f) 16 = a := by unfold rn bitsOf fmtX; ext; simp only [Fin.ofNat]; omega
@[simp] theorem bitsOf_fmtX_pos (hf : f < 16) : bitsOf (fmtX rd a pos len f) 10 6 = pos.val := by unfold bitsOf fmtX; omega
@[simp] theorem bitsOf_fmtX_len (hf : f < 16) : bitsOf (fmtX rd a pos len f) 4 6 = len.val := by unfold bitsOf fmtX; omega

end

/-- Format J of JLINK: a register and a 21-bit offset (R217). -/
theorem jlink_fields (rd : Rn) (off : BitVec 21) (w : Nat) (hw : w = 0x16 * 2 ^ 26 + rd.val * 2 ^ 21 + off.toNat) :
    w < 2 ^ 32 ∧ bitsOf w 26 6 = 0x16 ∧ rn w 21 = rd ∧ BitVec.ofNat 21 w = off := by
  subst hw
  refine ⟨by omega, by unfold bitsOf; omega, ?_, ?_⟩
  · unfold rn bitsOf; ext; simp only [Fin.ofNat]; omega
  · apply BitVec.eq_of_toNat_eq; rw [BitVec.toNat_ofNat]; omega

/-! ### The round trip -/

/-- Every word fits the 32 bits of an instruction. -/
theorem Op.encode_lt (op : Op) : Op.encode op < 2 ^ 32 := by
  cases op
  case jlink rd off => exact (jlink_fields rd off _ rfl).1
  all_goals
    unfold Op.encode
    simp [fmtA_lt, fmtK_lt, fmtX_lt, -Nat.reducePow]

/-- Decode of encode, by the instruction's format: each field of the word is the operand it was made of. -/
theorem Op.decode_encode (op : Op) (h : op.wf = true) : Op.decode (Op.encode op) = some op := by
  cases op
  case jlink rd off =>
    obtain ⟨-, hop, hrd, hoff⟩ := jlink_fields rd off _ rfl
    simp only [Op.encode, Op.decode, hop, hrd, hoff]
  case extr rd a pos len | ins rd a pos len =>
    have hfit : pos.val + len.val + 1 ≤ 64 := by simpa [Op.wf] using h
    simp [Op.encode, Op.decode, decodeX, hfit]
  all_goals simp [Op.encode, Op.decode, decodeAlu, decodeX, decodeQueue]

/-- Settles O59, by the fields of each instruction format (R217, R218). -/
theorem encodedOpsDecode : Obligations.EncodedOpsDecode := by
  unfold Obligations.EncodedOpsDecode
  exact fun op h => ⟨op.encode_lt, op.decode_encode h⟩

end Sys2Proof.Machine
end

section
-- The theorems are elaborated in order, which keeps the memory that a check of the whole text takes within its limit.
set_option Elab.async false

/-! SUPPORT.  The form of every command: an effect on the device and the one-time-programmable memory that a reset may hold back; which
commands write the one-time-programmable memory, and what they write there. -/

namespace Sys2Proof.Machine

open Sys2Proof.Safety Sys2Proof.Claims

/-! ### The form of a command -/

/-- Whether the reset in which the device is held, if any, holds command `c` back (R543, R544). -/
def State.holds (s : State) (c : Sys2Proof.Instr) : Bool :=
  if resetCommand c then false else if timCommand c then s.heldTim else if safCommand c then s.heldSaf else s.held

/-- The commands that may write the one-time-programmable memory: the ends of its writes, and what abandons them (R497, R545). -/
def otpCommand : Sys2Proof.Instr → Bool
  | .lcTransitionDone | .otpWriteDone | .arbAdvanceDone | .supplyWarningMgmt | .warmReset _ | .safetyReset _ | .watchdogExpiry
  | .powerOnReset | .powerOnClassReset | .perstAssert | .perstDeassert | .resetRelease .. => true
  | _ => false

/-- A command held back leaves the state; any other answers a state with the same waiting commands. -/
theorem exec_eq (c : Sys2Proof.Instr) (s : State) :
    ∃ o e, exec c s = .next (if s.holds c then s else { s with otp := o, dev := e }) := by
  cases c <;> exact ⟨_, _, rfl⟩

/-- A command that is none of `otpCommand` leaves the one-time-programmable memory. -/
theorem exec_eq_of_not_otp (c : Sys2Proof.Instr) (s : State) (h : otpCommand c = false) :
    ∃ e, exec c s = .next (if s.holds c then s else { s with dev := e }) := by
  cases c
  case lcTransitionDone | otpWriteDone | arbAdvanceDone | supplyWarningMgmt | warmReset | safetyReset | watchdogExpiry | powerOnReset
      | powerOnClassReset | perstAssert | perstDeassert | resetRelease => exact absurd h (by simp [otpCommand])
  all_goals exact ⟨_, rfl⟩

/-- A command leaves the queue of commands alone, whether a reset holds it back or not. -/
theorem exec_pending {c : Sys2Proof.Instr} {s t : State} (h : exec c s = .next t) : t.pending = s.pending := by
  obtain ⟨o, e, he⟩ := exec_eq c s
  rw [he] at h
  injection h with h
  subst h
  split <;> rfl

theorem step_continues (s : State) : Continues s := by
  unfold Continues step
  split
  · exact ⟨_, rfl⟩
  · obtain ⟨o, e, he⟩ := exec_eq _ _
    exact ⟨_, he⟩

/-- Settles O54: every command is an effect of the form of `exec_eq`. -/
theorem everyCommandCompletes : Obligations.EveryCommandCompletes := by
  unfold Obligations.EveryCommandCompletes
  refine ⟨fun c s => ?_, fun s t _ => step_continues t⟩
  obtain ⟨o, e, he⟩ := exec_eq c s
  exact ⟨_, he, exec_pending he⟩

theorem exec_of_holds {c : Sys2Proof.Instr} {s : State} (h : s.holds c = true) : exec c s = .next s := by
  obtain ⟨o, e, he⟩ := exec_eq c s
  rw [he, if_pos h]

theorem safCommand_of_timCommand {c : Sys2Proof.Instr} (h : timCommand c = true) : safCommand c = false := by
  cases c <;> first | rfl | simp [timCommand] at h

/-- Settles O55: what holds a command back is `State.holds`. -/
theorem resetHoldsCommandsBack : Obligations.ResetHoldsCommandsBack := by
  unfold Obligations.ResetHoldsCommandsBack
  intro c s hreset hheld
  refine ⟨fun ht hs => exec_of_holds ?_, fun ht h => exec_of_holds ?_, fun hs h => exec_of_holds ?_⟩
  · simp [State.holds, hreset, ht, hs, hheld]
  · simp [State.holds, hreset, ht, h]
  · have ht : timCommand c = false := by
      by_contra hne
      simp [safCommand_of_timCommand (by simpa using hne)] at hs
    simp [State.holds, hreset, ht, hs, h]

/-! ### A step of an idle device -/

theorem Counted.now {d e : Dev} (h : Counted d e) : e.now = d.now := by
  obtain ⟨r, w, rfl, -⟩ := h
  rfl

theorem Dev.elapse_now (d : Dev) (n : Nat) : (d.elapse n).now = d.now + n := by
  unfold Dev.elapse
  split
  · simp [*]
  · rw [(Counted.countCycles _ _ _).now]
    rfl

/-- Settles O53: `step` is `exec` of the front command, and the idle nanosecond is `Dev.elapse`. -/
theorem stepRunsTheFrontCommand : Obligations.StepRunsTheFrontCommand := by
  unfold Obligations.StepRunsTheFrontCommand
  refine ⟨fun s c r h => ?_, fun s c => rfl, fun s h ht => ?_, fun s h ht => ?_⟩
  · simp only [step, h]
  · obtain ⟨hregs, hparts⟩ := Kept.later (F := []) (P := timeParts) (Later.elapse s.dev 1) (by decide) (by decide) (by decide)
    refine ⟨{ s with dev := s.dev.elapse 1 }, ?_, h, rfl, Dev.elapse_now _ _, hregs, hparts⟩
    simp [step, h, State.idle, ht]
  · simp [step, h, State.idle, ht]

/-! ### The state after power-on reset -/

/-- Settles O56: the reset state lists no register and no byte, so each reads its reset value. -/
theorem resetValues : Obligations.ResetValues := by
  unfold Obligations.ResetValues
  refine ⟨rfl, rfl, fun _ => rfl, fun _ => rfl, rfl, rfl, rfl, fun e i => ?_, by decide⟩
  have hengine : State.reset.dev.engine e = {} := by
    change (List.replicate 16 ({} : Engine)).getD e {} = {}
    rw [List.getD_eq_getElem?_getD, List.getElem?_getD_replicate_default_eq]
  rw [Dev.wreg, hengine]
  revert i
  decide

/-- Settles O60: the words are closed terms. -/
theorem instructionWords : Obligations.InstructionWords := by
  unfold Obligations.InstructionWords
  decide

end Sys2Proof.Machine
end

section
/-! SUPPORT.  The one-time-programmable memory only grows: what each of its writes adds, and the statement (R521, R524, R526, R530). -/

namespace Sys2Proof.Safety

open Sys2Proof.Machine

/-! ### The one-time-programmable memory -/

theorem GainsBits.refl (a : List Byte) : GainsBits a a := fun _ _ h => h

theorem SlotGrows.refl (a : KeySlot) : SlotGrows a a := ⟨id, id, .refl _⟩

theorem SlotGrows.trans {a b c : KeySlot} (h : SlotGrows a b) (k : SlotGrows b c) : SlotGrows a c := by
  obtain ⟨hp, hr, hb⟩ := h
  obtain ⟨kp, kr, kb⟩ := k
  exact ⟨kp ∘ hp, kr ∘ hr, fun i n hn => kb i n (hb i n hn)⟩

theorem OtpGrows.refl (o : Otp) : OtpGrows o o := ⟨rfl, rfl, rfl, le_rfl, id, .refl _, le_rfl, fun _ => .refl _⟩

theorem OtpGrows.trans {a b c : Otp} (h : OtpGrows a b) (k : OtpGrows b c) : OtpGrows a c := by
  obtain ⟨hu, hf, ha, harb, hs, hb, hl, hk⟩ := h
  obtain ⟨ku, kf, ka, karb, ks, kb, kl, kk⟩ := k
  exact ⟨ku.trans hu, kf.trans hf, ka.trans ha, harb.trans karb, ks ∘ hs, fun i n hn => kb i n (hb i n hn), hl.trans kl,
    fun i => (hk i).trans (kk i)⟩

/-- A change of one slot that only adds to it. -/
theorem OtpGrows.modSlot (o : Otp) (t : Nat) (f : KeySlot → KeySlot) (hf : SlotGrows (o.slot t) (f (o.slot t))) :
    OtpGrows o { o with slots := bankAt 4 {} o.slots t f } := by
  refine ⟨rfl, rfl, rfl, le_rfl, id, .refl _, le_rfl, fun i => ?_⟩
  dsimp only
  rw [getD_bankAt]
  split
  · next h =>
    obtain ⟨rfl, -⟩ := h
    exact hf
  · exact .refl _

/-- Bytes with bits added. -/
theorem GainsBits.or (a v : List Byte) : GainsBits a ((List.range a.length).map (fun i => a.getD i 0 ||| v.getD i 0)) := by
  intro i k hk
  by_cases hi : i < a.length
  · rw [List.getD_eq_getElem?_getD, List.getElem?_map, List.getElem?_range hi]
    simpa using Or.inl hk
  · rw [List.getD_eq_default _ _ (by omega)] at hk
    simp at hk

theorem OtpGrows.burn (o : Otp) (t : Nat) (v : List Byte) : OtpGrows o (o.burn t v) := by
  have hb : GainsBits (o.bits t) ((List.range (o.bits t).length).map (fun i => (o.bits t).getD i 0 ||| v.getD i 0)) := .or _ _
  unfold Otp.burn
  by_cases h : t = 4
  · rw [if_pos h]
    exact ⟨rfl, rfl, rfl, le_rfl, id, by simpa [Otp.bits, h] using hb, le_rfl, fun _ => .refl _⟩
  · rw [if_neg h]
    exact .modSlot o t _ ⟨id, id, by simpa [Otp.bits, h] using hb⟩

theorem OtpGrows.markProg (o : Otp) (t : Nat) : OtpGrows o (o.markProg t) := by
  unfold Otp.markProg
  split
  · exact ⟨rfl, rfl, rfl, le_rfl, fun _ => rfl, .refl _, le_rfl, fun _ => .refl _⟩
  · exact .modSlot o t _ ⟨fun _ => rfl, id, .refl _⟩

theorem OtpGrows.revoke (o : Otp) (t : Nat) :
    OtpGrows o { o with slots := bankAt 4 {} o.slots t (fun k => { k with revoked := true }) } :=
  .modSlot o t _ ⟨id, fun _ => rfl, .refl _⟩

/-- A transition of the one-way table goes up (R522). -/
theorem lcAllowed_lt {o : Otp} {dest : Nat} (h : lcAllowed o dest = true) : o.lc < dest := by
  simp [lcAllowed] at h
  omega

theorem OtpGrows.transition (o : Otp) (dest : Nat) : OtpGrows o (o.transition dest) := by
  unfold Otp.transition
  split
  · next h => exact ⟨rfl, rfl, rfl, le_rfl, id, .refl _, (lcAllowed_lt h).le, fun _ => .refl _⟩
  · exact .refl o

theorem OtpGrows.arbTo (o : Otp) (n : Nat) : OtpGrows o (o.arbTo n) :=
  ⟨rfl, rfl, rfl, le_max_left _ _, id, .refl _, le_rfl, fun _ => .refl _⟩

/-- An abandoned write leaves some of its bits written and clears none (R497). -/
theorem OtpGrows.abandonOtp (report : Bool) (o : Otp) (d : Dev) : OtpGrows o (abandonOtp report o d).1 := by
  unfold Machine.abandonOtp
  dsimp only
  split
  · split
    · exact .trans (.burn o _ _) (.arbTo _ _)
    · exact .arbTo o _
    · exact .arbTo o _
  · split
    · exact .burn o _ _
    · exact .refl o
    · exact .refl o

theorem OtpGrows.resetNow (k : ResetKind) (o : Otp) (d : Dev) : OtpGrows o (Dev.resetNow k o d).1 := .abandonOtp false o d

theorem OtpGrows.ite {o : Otp} {p : Prop} [Decidable p] {x y : Otp × Dev} (hx : OtpGrows o x.1) (hy : OtpGrows o y.1) :
    OtpGrows o (if p then x else y).1 := by
  split
  · exact hx
  · exact hy

/-- An effect on the one-time-programmable memory, held back or not. -/
theorem OtpGrows.act {s t : State} {held : Bool} {f : Otp → Dev → Otp × Dev} (hf : ∀ o d, OtpGrows o (f o d).1)
    (h : s.act held f = .next t) : OtpGrows s.otp t.otp := by
  injection h with h
  subst h
  split
  · exact .refl _
  · exact hf _ _

/-- The commands that write the one-time-programmable memory only add to it. -/
theorem OtpGrows.exec {c : Sys2Proof.Instr} {s t : State} (h : Machine.exec c s = .next t) : OtpGrows s.otp t.otp := by
  by_cases hc : otpCommand c = true
  · cases c
    case lcTransitionDone =>
      replace h : execLcTransitionDone s = .next t := h
      simp only [execLcTransitionDone, State.runOtp] at h
      refine .act (fun o d => ?_) h
      split
      · exact .refl o
      · exact .transition o _
    case otpWriteDone =>
      replace h : execOtpWriteDone s = .next t := h
      simp only [execOtpWriteDone, State.runOtp] at h
      refine .act (fun o d => ?_) h
      split
      · exact .refl o
      · split
        · exact .refl o
        · exact .trans (.burn _ _ _) (.markProg _ _)
      · exact .revoke _ _
    case arbAdvanceDone =>
      replace h : execArbAdvanceDone s = .next t := h
      simp only [execArbAdvanceDone, State.runOtp] at h
      refine .act (fun o d => ?_) h
      split
      · exact .refl o
      · exact .arbTo o _
    case supplyWarningMgmt =>
      replace h : execSupplyWarningMgmt s = .next t := h
      simp only [execSupplyWarningMgmt, State.runOtp] at h
      refine .act (fun o d => ?_) h
      split
      · exact .refl o
      · exact .abandonOtp true o _
    case warmReset key =>
      replace h : execWarmReset key s = .next t := h
      simp only [execWarmReset, State.runOtp] at h
      exact .act (fun o d => .ite (.refl o) (.ite (.refl o) (.resetNow _ o _))) h
    case safetyReset key =>
      replace h : execSafetyReset key s = .next t := h
      simp only [execSafetyReset, State.runOtp] at h
      exact .act (fun o d => .ite (.refl o) (.ite (.refl o) (.resetNow _ o _))) h
    case watchdogExpiry =>
      replace h : execWatchdogExpiry s = .next t := h
      simp only [execWatchdogExpiry, State.runOtp] at h
      refine .act (fun o d => ?_) h
      split
      · exact .refl o
      · split
        · exact .refl o
        · exact .resetNow _ o _
    case powerOnReset =>
      replace h : execPowerOnReset s = .next t := h
      simp only [execPowerOnReset, State.runPin] at h
      exact .act (fun o d => .resetNow _ o d) h
    case powerOnClassReset =>
      replace h : execPowerOnClassReset s = .next t := h
      simp only [execPowerOnClassReset, State.runPin] at h
      exact .act (fun o d => .resetNow _ o _) h
    case perstAssert =>
      replace h : execPerstAssert s = .next t := h
      simp only [execPerstAssert, State.runPin] at h
      refine .act (fun o d => ?_) h
      split
      · exact .refl o
      · split <;> exact .refl o
    case perstDeassert =>
      replace h : execPerstDeassert s = .next t := h
      simp only [execPerstDeassert, State.runPin] at h
      exact .act (fun o d => .ite (.refl o) (.refl o)) h
    case resetRelease testEn sfdp quad erase addr4 log2 =>
      replace h : execResetRelease testEn sfdp quad erase addr4 log2 s = .next t := h
      simp only [execResetRelease, State.runPin] at h
      exact .act (fun o d => .ite (.refl o) (.refl o)) h
    all_goals exact absurd hc (by simp [otpCommand])
  · obtain ⟨e, he⟩ := exec_eq_of_not_otp c s (by simpa using hc)
    rw [he] at h
    injection h with h
    subst h
    split <;> exact .refl _

/-- Settles O58, command by command: those that write the one-time-programmable memory only add to it, the others leave it. -/
theorem otpOnlyGrows : Obligations.OtpOnlyGrows := by
  unfold Obligations.OtpOnlyGrows
  intro s t h
  unfold step at h
  split at h
  · injection h with h
    subst h
    unfold State.idle
    split <;> exact .refl _
  · next c cs _ => exact OtpGrows.exec (s := { s with pending := cs }) h

end Sys2Proof.Safety
end

section
-- The theorems are elaborated in order, which keeps the memory that a check of the whole text takes within its limit.
set_option Elab.async false

/-! SUPPORT.  The operations of the model that leave the memory as it is, one equation each, in the order of their definitions: the layer on
which the canonical form of the memory rests. -/

namespace Sys2Proof.Machine

open Sys2Proof

theorem Dev.mem_ite (p : Prop) [Decidable p] (d e : Dev) : (if p then d else e).mem = if p then d.mem else e.mem := apply_ite _ p d e

theorem foldl_mem {α : Type} (l : List α) (g : Dev → α → Dev) (hg : ∀ d x, (g d x).mem = d.mem) (d : Dev) :
    (l.foldl g d).mem = d.mem := by
  induction l generalizing d with
  | nil => rfl
  | cons x xs ih => rw [List.foldl_cons, ih, hg]

@[simp] theorem Dev.setFldBit_mem (d : Dev) (f : Fld) (i : Nat) : (Dev.setFldBit d f i).mem = d.mem := rfl

@[simp] theorem Dev.pmcAdd_mem (d : Dev) (k n : Nat) : (Dev.pmcAdd d k n).mem = d.mem := by
  unfold Dev.pmcAdd
  dsimp only
  split <;> simp

@[simp] theorem Dev.garble_mem (d : Dev) (bs : List Byte) (w : Nat) : (Dev.garble d bs w).2.mem = d.mem := rfl

@[simp] theorem Dev.readRun_mem (d : Dev) (ls : List Nat) : (d.readRun ls).2.2.mem = d.mem := by
  induction ls generalizing d with
  | nil => rfl
  | cons l ls ih => simp [Dev.readRun, ih]

@[simp] theorem Dev.readBytes_mem (d : Dev) (lines : List Nat) (off k : Nat) : (Dev.readBytes d lines off k).2.2.mem = d.mem := by
  grind [Dev.readBytes, Dev.readRun_mem]

@[simp] theorem Dev.frameBytes_mem (d : Dev) (f : Frame) : (Dev.frameBytes d f).2.2.mem = d.mem := by simp [Dev.frameBytes]

@[simp] theorem Dev.dropFrame_mem (d : Dev) (f : Frame) : (Dev.dropFrame d f).mem = d.mem := rfl

@[simp] theorem Dev.accrue_mem (d : Dev) (p c : Nat) : (Dev.accrue d p c).mem = d.mem := rfl

@[simp] theorem Dev.hold_mem (d : Dev) (p quanta q : Nat) : (Dev.hold d p quanta q).mem = d.mem := rfl

@[simp] theorem Dev.countCycles_mem (d : Dev) (n c : Nat) : (Dev.countCycles d n c).mem = d.mem := by simp [Dev.countCycles, foldl_mem, Dev.mem_ite]

@[simp] theorem Dev.elapseTb_mem (d : Dev) (x : Nat) : (Dev.elapseTb d x).mem = d.mem := by simp [Dev.elapseTb]

@[simp] theorem Dev.elapseCyc_mem (d : Dev) (c : Nat) : (Dev.elapseCyc d c).mem = d.mem := by simp [Dev.elapseCyc]

@[simp] theorem Dev.reqEvent_mem (d : Dev) (i : Nat) : (Dev.reqEvent d i).mem = d.mem := rfl

@[simp] theorem Dev.reqSource_mem (d : Dev) (kind : Nat) (sel : Nat → Bool) : (Dev.reqSource d kind sel).mem = d.mem := by
  unfold Dev.reqSource
  refine (foldl_mem _ _ (fun d x => ?_) _).trans ?_
  all_goals repeat' split
  all_goals simp

@[simp] theorem Dev.tckEvent_mem (d : Dev) (status enable : TckF) : (Dev.tckEvent d status enable).mem = d.mem := by simp [Dev.tckEvent]

@[simp] theorem Dev.record_mem (d : Dev) (n status : Nat) (late lateStart : Bool) (used : Nat) : (Dev.record d n status late lateStart used).mem = d.mem := by
  simp only [Dev.record]
  repeat' split
  all_goals simp

@[simp] theorem Dev.carry_mem (d : Dev) (s : Slot) : (Dev.carry d s).mem = d.mem := by
  unfold Dev.carry
  split <;> simp

@[simp] theorem Dev.endOcc_mem (d : Dev) (n status : Nat) : (Dev.endOcc d n status).mem = d.mem := by
  simp only [Dev.endOcc]
  repeat' split
  all_goals simp

@[simp] theorem Dev.ctnEvent_mem (d : Dev) (status : HepF) : (Dev.ctnEvent d status).mem = d.mem := by simp [Dev.ctnEvent]

@[simp] theorem Dev.present_mem (d : Dev) (codes : List Nat) : (d.present codes).mem = d.mem := by
  unfold Dev.present
  split
  · rfl
  · next c cs _ =>
    have hlog : ((c :: cs).foldl (fun d c => d.setFldBit (.hep .CTN_LOG_TRIGGERS) (c - 1)) d).mem = d.mem :=
      foldl_mem _ _ (fun d x => d.setFldBit_mem _ _) d
    dsimp only
    split
    · exact hlog
    · simpa using hlog

@[simp] theorem Dev.headerLog_mem (d : Dev) (g bit : Nat) : (Dev.headerLog d g bit).mem = d.mem := by
  unfold Dev.headerLog
  split <;> simp

@[simp] theorem Dev.errMessage_mem (d : Dev) (gs : List Nat) (kind : Nat) : (Dev.errMessage d gs kind).mem = d.mem := by
  simp only [Dev.errMessage]
  repeat' split
  all_goals simp

@[simp] theorem Dev.ueLog_mem (d : Dev) (g bit : Nat) (fatal advisory : Bool) : (Dev.ueLog d g bit fatal advisory).mem = d.mem := by
  simp only [Dev.ueLog]
  repeat' split
  all_goals simp

@[simp] theorem Dev.ueError_mem (d : Dev) (gs : List Nat) (bit : Nat) (advisory : Bool) (more : List Nat) : (Dev.ueError d gs bit advisory more).mem = d.mem := by
  simp only [Dev.ueError]
  repeat' split
  all_goals simp [foldl_mem]

@[simp] theorem Dev.ceError_mem (d : Dev) (bit : Nat) : (Dev.ceError d bit).mem = d.mem := by simp [Dev.ceError]

@[simp] theorem Dev.errCnt_mem (d : Dev) (i : Nat) : (Dev.errCnt d i).mem = d.mem := rfl

@[simp] theorem Dev.vatFree_mem (d : Dev) (ls : List Nat) : (Dev.vatFree d ls).mem = d.mem := rfl

@[simp] theorem Dev.hostOut_mem (d : Dev) (f addr : Nat) (bs : List PByte) (ep : Bool) : (Dev.hostOut d f addr bs ep).mem = d.mem := by simp [Dev.hostOut]

@[simp] theorem Dev.hostTlp_mem (d : Dev) (f addr : Nat) (bs : List PByte) : (Dev.hostTlp d f addr bs).mem = d.mem := by
  simp only [Dev.hostTlp]
  repeat' split
  all_goals simp

/-- A write cut into TLPs leaves memory when each TLP does. -/
theorem Dev.splitWrite_mem (tlp : Dev → Nat → List PByte → Dev) (htlp : ∀ d a bs, (tlp d a bs).mem = d.mem) (mps : Nat) :
    ∀ (fuel : Nat) (d : Dev) (addr : Nat) (bs : List PByte), (Dev.splitWrite tlp mps fuel d addr bs).mem = d.mem
  | 0, _, _, _ => rfl
  | fuel + 1, d, addr, bs => by
    unfold Dev.splitWrite
    split
    · rfl
    · rw [Dev.splitWrite_mem tlp htlp mps fuel, htlp]

@[simp] theorem Dev.hostWrite_mem (d : Dev) (f addr : Nat) (bs : List PByte) : (d.hostWrite f addr bs).mem = d.mem :=
  Dev.splitWrite_mem _ (fun d a b => d.hostTlp_mem f a b) _ _ _ _ _

@[simp] theorem Dev.dmaEvent_mem (d : Dev) (status : DmaF) : (Dev.dmaEvent d status).mem = d.mem := by simp [Dev.dmaEvent]

@[simp] theorem Dev.writeOff_mem (d : Dev) (p : Tag → Bool) (st : TagState) : (Dev.writeOff d p st).mem = d.mem := by
  unfold Dev.writeOff
  dsimp only
  split <;> simp

@[simp] theorem Dev.kaSet_mem (d : Dev) (rp tick : Nat) : (Dev.kaSet d rp tick).mem = d.mem := rfl

@[simp] theorem Dev.rpCnt_mem (d : Dev) (rp i : Nat) : (Dev.rpCnt d rp i).mem = d.mem := rfl

@[simp] theorem Dev.brgEvent_mem (d : Dev) : (Dev.brgEvent d).mem = d.mem := by
  unfold Dev.brgEvent
  split <;> simp

@[simp] theorem Dev.modemTlp_mem (d : Dev) (rp addr : Nat) (bs : List PByte) : (Dev.modemTlp d rp addr bs).mem = d.mem := by
  simp only [Dev.modemTlp]
  repeat' split
  all_goals simp

@[simp] theorem Dev.modemWriteBus_mem (d : Dev) (rp addr : Nat) (bs : List PByte) : (d.modemWriteBus rp addr bs).mem = d.mem :=
  Dev.splitWrite_mem _ (fun d a b => d.modemTlp_mem rp a b) _ _ _ _ _

@[simp] theorem Dev.readMarked_mem (d : Dev) (ls : List Nat) : (d.readMarked ls).2.mem = d.mem := by
  induction ls generalizing d with
  | nil => rfl
  | cons l ls ih => simp [Dev.readMarked, ih]

@[simp] theorem Dev.pwrEvent_mem (d : Dev) (status : PwrF) : (Dev.pwrEvent d status).mem = d.mem := by simp [Dev.pwrEvent]

@[simp] theorem Dev.pwrCnt_mem (d : Dev) (i : Nat) : (Dev.pwrCnt d i).mem = d.mem := rfl

@[simp] theorem Dev.leaveState_mem (d : Dev) (dest : Nat) : (Dev.leaveState d dest).mem = d.mem := by
  unfold Dev.leaveState
  dsimp only
  split <;> simp

@[simp] theorem Dev.abortA3_mem (d : Dev) : (Dev.abortA3 d).mem = d.mem := by
  unfold Dev.abortA3
  split <;> simp

@[simp] theorem Dev.newNeed_mem (d : Dev) : (Dev.newNeed d).mem = d.mem := by
  simp only [Dev.newNeed]
  repeat' split
  all_goals simp

@[simp] theorem Dev.pmeSet_mem (d : Dev) (f : Nat) : (Dev.pmeSet d f).mem = d.mem := by
  unfold Dev.pmeSet
  split <;> simp

theorem Dev.wake_mem (d : Dev) (latch : Dev → Dev) (hl : (latch d).mem = d.mem) : (d.wake latch).mem = d.mem := by
  simp [Dev.wake, hl, Dev.mem_ite]

@[simp] theorem Dev.wdtRestart_mem (d : Dev) : (Dev.wdtRestart d).mem = d.mem := rfl

@[simp] theorem Dev.smpLost_mem (d : Dev) (p : Nat) : (Dev.smpLost d p).mem = d.mem := rfl

@[simp] theorem Dev.cplDone_mem (d : Dev) : (Dev.cplDone d).mem = d.mem := by simp [Dev.cplDone]

@[simp] theorem Dev.fcnt_mem (d : Dev) (f i : Nat) : (Dev.fcnt d f i).mem = d.mem := rfl

@[simp] theorem Dev.cqIrq_mem (d : Dev) (c : Nat) : (Dev.cqIrq d c).mem = d.mem := rfl

@[simp] theorem Dev.cqWrite_mem (d : Dev) (e : Due) : (Dev.cqWrite d e).mem = d.mem := by
  simp only [Dev.cqWrite]
  repeat' split
  all_goals simp

@[simp] theorem Dev.flushDue_mem (d : Dev) : (Dev.flushDue d).mem = d.mem := by
  unfold Dev.flushDue
  refine (foldl_mem _ _ (fun d x => ?_) _).trans ?_
  all_goals simp

@[simp] theorem Dev.pushDueIn_mem (d : Dev) (tch : Option Nat) (n idx cookie : Nat) (x : CplEnd) : (Dev.pushDueIn d tch n idx cookie x).mem = d.mem := by
  unfold Dev.pushDueIn
  split <;> simp

@[simp] theorem Dev.pushDue_mem (d : Dev) (n idx cookie : Nat) (x : CplEnd) : (Dev.pushDue d n idx cookie x).mem = d.mem := by simp [Dev.pushDue]

@[simp] theorem Dev.abortDrain_mem (n : Nat) : ∀ (fuel : Nat) (d : Dev), (d.abortDrain n fuel).mem = d.mem
  | 0, _ => rfl
  | fuel + 1, d => by
    unfold Dev.abortDrain
    repeat' split
    all_goals simp [Dev.abortDrain_mem n fuel, Dev.mem_ite]

@[simp] theorem Dev.endEnt_mem (d : Dev) (n ser : Nat) (x : CplEnd) : (d.endEnt n ser x).mem = d.mem := by
  unfold Dev.endEnt
  split
  · rfl
  · simp [Dev.mem_ite]

@[simp] theorem Dev.originEnd_mem (d : Dev) (f : Frame) (status flags : Nat) : (Dev.originEnd d f status flags).mem = d.mem := by
  unfold Dev.originEnd
  split <;> simp

@[simp] theorem Dev.discard_mem (d : Dev) (f : Frame) : (Dev.discard d f).mem = d.mem := by simp [Dev.discard]

@[simp] theorem Dev.toClass_mem (d : Dev) (cls : Nat) (f : Frame) : (Dev.toClass d cls f).mem = d.mem := by
  unfold Dev.toClass
  split <;> simp

@[simp] theorem Dev.returnFrame_mem (d : Dev) (cls : Nat) (f : Frame) : (Dev.returnFrame d cls f).mem = d.mem := rfl

@[simp] theorem Dev.latch_mem (d : Dev) (e : Nat) (v : List Byte) : (Dev.latch d e v).mem = d.mem := rfl

@[simp] theorem Dev.stampError_mem (d : Dev) (e : Nat) : (Dev.stampError d e).2.mem = d.mem := by
  unfold Dev.stampError
  dsimp only
  split <;> simp

@[simp] theorem Dev.rxStamp_mem (d : Dev) (p age : Nat) : (Dev.rxStamp d p age).2.mem = d.mem := by simp [Dev.rxStamp]

@[simp] theorem Dev.txStamp_mem (d : Dev) (p : Nat) : (Dev.txStamp d p).2.mem = d.mem := by simp [Dev.txStamp]

@[simp] theorem Dev.macEvent_mem (d : Dev) (status enable : MacF) (p : Nat) : (Dev.macEvent d status enable p).mem = d.mem := by simp [Dev.macEvent]

@[simp] theorem Dev.macCnt_mem (d : Dev) (p i : Nat) : (Dev.macCnt d p i).mem = d.mem := rfl

@[simp] theorem Dev.txcDeliver_mem (d : Dev) (pair : Option Nat) (rec : Nat) : (Dev.txcDeliver d pair rec).mem = d.mem := by
  simp only [Dev.txcDeliver]
  repeat' split
  all_goals simp

@[simp] theorem Dev.txDone_mem (d : Dev) (p q : Nat) (e : TxEnt) (status : Nat) (poisonLate : Bool) : (Dev.txDone d p q e status poisonLate).mem = d.mem := by
  unfold Dev.txDone
  dsimp only
  split <;> simp

@[simp] theorem Dev.txRemove_mem (d : Dev) (p q : Nat) (r : TxEnt → Bool) (status : Nat) : (Dev.txRemove d p q r status).mem = d.mem := by
  unfold Dev.txRemove
  refine (foldl_mem _ _ (fun d x => ?_) _).trans ?_
  all_goals simp

@[simp] theorem Dev.txRefuse_mem (d : Dev) (p reason : Nat) : (Dev.txRefuse d p reason).mem = d.mem := rfl

@[simp] theorem Dev.txAccept_mem (d : Dev) (p q : Nat) (e : TxEnt) : (Dev.txAccept d p q e).mem = d.mem := by
  unfold Dev.txAccept
  split <;> simp

@[simp] theorem Dev.linkDown_mem (d : Dev) (p : Nat) : (Dev.linkDown d p).mem = d.mem := by simp [Dev.linkDown, foldl_mem, Dev.mem_ite]

@[simp] theorem Dev.anRestart_mem (d : Dev) (p : Nat) : (Dev.anRestart d p).mem = d.mem := by simp [Dev.anRestart]

@[simp] theorem Dev.portAfter_mem (d old : Dev) (p : Nat) : (Dev.portAfter d old p).mem = d.mem := by
  unfold Dev.portAfter
  refine (foldl_mem _ _ (fun d x => ?_) _).trans ?_
  all_goals repeat' split
  all_goals simp

@[simp] theorem Dev.setSrcState_mem (d : Dev) (x : Nat) : (Dev.setSrcState d x).mem = d.mem := by
  unfold Dev.setSrcState
  split <;> simp

@[simp] theorem Dev.afterConfig_mem (d old : Dev) : (Dev.afterConfig d old).mem = d.mem := by
  unfold Dev.afterConfig
  refine (foldl_mem _ _ (fun d x => ?_) _).trans ?_
  all_goals repeat' split
  all_goals simp

@[simp] theorem Dev.mdioOp_mem (d : Dev) (c45 : Bool) (op phy reg data : Nat) : (Dev.mdioOp d c45 op phy reg data).mem = d.mem := by
  unfold Dev.mdioOp
  split <;> simp

@[simp] theorem Dev.rxPause_mem (d : Dev) (p quanta : Nat) : (Dev.rxPause d p quanta).mem = d.mem := rfl

@[simp] theorem Dev.rxPfc_mem (d : Dev) (p enable : Nat) (quanta : List Nat) : (Dev.rxPfc d p enable quanta).mem = d.mem := by
  unfold Dev.rxPfc
  refine (foldl_mem _ _ (fun d x => ?_) _).trans ?_
  all_goals repeat' split
  all_goals simp

@[simp] theorem Dev.pauseFrame_mem (d : Dev) (p quanta : Nat) : (Dev.pauseFrame d p quanta).2.mem = d.mem := rfl

@[simp] theorem Dev.sendPause_mem (d : Dev) (p quanta : Nat) : (Dev.sendPause d p quanta).mem = d.mem := by
  unfold Dev.sendPause
  dsimp only
  split <;> simp

@[simp] theorem Dev.rxRecord_mem (d : Dev) (p : Nat) (r : TsRec) : (Dev.rxRecord d p r).mem = d.mem := by
  unfold Dev.rxRecord
  split <;> simp

@[simp] theorem Dev.txRecordPtp_mem (d : Dev) (p : Nat) (r : TsRec) : (Dev.txRecordPtp d p r).mem = d.mem := by
  unfold Dev.txRecordPtp
  split <;> simp

@[simp] theorem Dev.ptpTx_mem (d : Dev) (p : Nat) (bs : List Byte) (stomp : Bool) : (Dev.ptpTx d p bs stomp).2.mem = d.mem := by
  unfold Dev.ptpTx
  split <;> simp

@[simp] theorem Dev.laneFail_mem (d : Dev) (p : Nat) (bs : List Byte) : (Dev.laneFail d p bs).mem = d.mem := rfl

@[simp] theorem Dev.rxControl_mem (d : Dev) (p : Nat) (bs : List Byte) (good : Bool) : (Dev.rxControl d p bs good).mem = d.mem := by
  simp only [Dev.rxControl]
  repeat' split
  all_goals simp

@[simp] theorem Dev.releaseGo_mem (p limit : Nat) : ∀ (q : List (Nat × TxEnt)) (d : Dev) (used : Nat), (d.releaseGo p limit used q).mem = d.mem
  | [], _, _ => rfl
  | (q, e) :: rest, d, used => by
    unfold Dev.releaseGo
    dsimp only
    repeat' split
    all_goals simp [Dev.releaseGo_mem p limit rest]

@[simp] theorem Dev.release_mem (d : Dev) (p : Nat) : (d.release p).mem = d.mem := by simp [Dev.release]

@[simp] theorem Dev.txBytes_mem (d : Dev) (e : TxEnt) : (Dev.txBytes d e).2.2.mem = d.mem := by simp [Dev.txBytes]

@[simp] theorem Dev.grant_mem (d : Dev) (p q : Nat) (e : TxEnt) : (Dev.grant d p q e).mem = d.mem := by
  simp only [Dev.grant]
  repeat' split
  all_goals simp

@[simp] theorem Dev.walkStep_mem (d : Dev) (c : WalkCtx) (w : Walk) : (Dev.walkStep d c w).2.mem = d.mem := by
  grind [Dev.walkStep, Dev.readRun_mem]

@[simp] theorem Dev.walk_mem (c : WalkCtx) : ∀ (fuel : Nat) (d : Dev) (w : Walk), (d.walk c fuel w).2.mem = d.mem
  | 0, _, _ => rfl
  | fuel + 1, d, w => by
    unfold Dev.walk
    split
    · rfl
    · simp [Dev.walk_mem c fuel]

/-- A run of reads that gathers what it finds leaves memory. -/
theorem foldl_snd_mem {α β : Type} (l : List α) (g : β × Dev → α → β × Dev) (hg : ∀ a x, (g a x).2.mem = a.2.mem) (a : β × Dev) :
    (l.foldl g a).2.mem = a.2.mem := by
  induction l generalizing a with
  | nil => rfl
  | cons x xs ih => rw [List.foldl_cons, ih, hg]

@[simp] theorem Dev.exactLookup_mem (d : Dev) (key : List Byte) (km : Nat) : (d.exactLookup key km).2.mem = d.mem := by
  unfold Dev.exactLookup
  extract_lets b
  generalize hr : List.foldl _ _ (List.range 4) = r
  have hmem : r.2.mem = d.mem := by
    rw [← hr, foldl_snd_mem]
    exact fun a i => a.2.readLine_mem _
  dsimp only
  split
  · exact hmem
  · split <;> exact hmem

@[simp] theorem Dev.ternLookup_mem (d : Dev) (key : List Byte) (km : Nat) : (d.ternLookup key km).2.mem = d.mem := by
  unfold Dev.ternLookup
  rw [foldl_snd_mem]
  intro a t
  simp

/-- The device that looking up both tables leaves.  (The definition is unfolded as a constant, and the lookups are generalised before the
match is reduced: the kernel would run them over the whole table.) -/
theorem Dev.tables_snd (d : Dev) (p : Nat) (key : List Byte) (km : Nat) :
    (d.tables p key km).2.2 = ((d.exactLookup key km).2.ternLookup key km).2 := by
  have hdef : Dev.tables = Dev.tables := rfl
  conv at hdef => rhs; delta Dev.tables
  have happ := congrFun (congrFun (congrFun (congrFun hdef d) p) key) km
  clear hdef
  beta_reduce at happ
  rw [happ]
  clear happ
  generalize Dev.exactLookup = exact
  generalize Dev.ternLookup = tern
  as_aux_lemma =>
    dsimp only
    split <;> rfl

@[simp] theorem Dev.tables_mem (d : Dev) (p : Nat) (key : List Byte) (km : Nat) : (d.tables p key km).2.2.mem = d.mem := by
  rw [Dev.tables_snd, Dev.ternLookup_mem, Dev.exactLookup_mem]

@[simp] theorem Dev.bcRx_mem (d : Dev) (p : Nat) (bs : List Byte) : (Dev.bcRx d p bs).2.mem = d.mem := by
  simp only [Dev.bcRx]
  repeat' split
  all_goals simp

@[simp] theorem Dev.parCnt_mem (d : Dev) (p i : Nat) : (Dev.parCnt d p i).mem = d.mem := rfl

@[simp] theorem Dev.classDiscard_mem (d : Dev) (p uid : Nat) : (Dev.classDiscard d p uid).mem = d.mem := by
  unfold Dev.classDiscard
  split <;> simp

@[simp] theorem Dev.classQueue_mem (d : Dev) (p uid result : Nat) (r : LookRes) : (Dev.classQueue d p uid result r).mem = d.mem := by
  simp only [Dev.classQueue]
  repeat' split
  all_goals simp

@[simp] theorem Dev.saRead_mem (d : Dev) (s n : Nat) : (Dev.saRead d s n).2.2.mem = d.mem := by
  grind [Dev.saRead, Dev.readRun_mem]

@[simp] theorem Dev.setKey_mem (d : Dev) (s : Nat) (k : List Byte) : (Dev.setKey d s k).mem = d.mem := rfl

@[simp] theorem Dev.cryEvent_mem (d : Dev) (f : CryF) : (Dev.cryEvent d f).mem = d.mem := by simp [Dev.cryEvent]

@[simp] theorem Dev.cryLog_mem (d : Dev) (f : CryF) (s cause : Nat) : (Dev.cryLog d f s cause).mem = d.mem := by simp [Dev.cryLog]

@[simp] theorem Dev.modPipe_mem (d : Dev) (p : Nat) (f : CryPipe → CryPipe) : (Dev.modPipe d p f).mem = d.mem := rfl

@[simp] theorem Dev.cryDrop_mem (d : Dev) (p : Nat) (j : CryJob) (cause : Nat) : (Dev.cryDrop d p j cause).mem = d.mem := by simp [Dev.cryDrop]

@[simp] theorem Dev.cryEnd_mem (d : Dev) (p : Nat) (j : CryJob) (f : Frame) (used : Nat) (clean : Bool) : (Dev.cryEnd d p j f used clean).mem = d.mem := rfl



@[simp] theorem Dev.keepaliveFeed_mem (d : Dev) (rp s tick : Nat) : (Dev.keepaliveFeed d rp s tick).mem = d.mem := by
  simp only [Dev.keepaliveFeed]
  repeat' split
  all_goals simp



@[simp] theorem Dev.saStart_mem (d : Dev) (op s : Nat) : (Dev.saStart d op s).mem = d.mem := rfl

@[simp] theorem Dev.saFinish_mem (d : Dev) (result : Nat) : (Dev.saFinish d result).mem = d.mem := by simp [Dev.saFinish]

@[simp] theorem Dev.cryFlush_mem (d : Dev) : (Dev.cryFlush d).mem = d.mem := by
  unfold Dev.cryFlush
  refine (foldl_mem _ _ (fun d x => ?_) _).trans ?_
  all_goals simp

@[simp] theorem Dev.cfgEvent_mem (d : Dev) (status enable : CfgF) : (Dev.cfgEvent d status enable).mem = d.mem := by simp [Dev.cfgEvent]

@[simp] theorem Dev.tickStart_mem (d : Dev) : (Dev.tickStart d).mem = d.mem := by
  simp only [Dev.tickStart]
  repeat' split
  all_goals simp

@[simp] theorem Dev.takeBase_mem (d : Dev) : (Dev.takeBase d).mem = d.mem := rfl

@[simp] theorem Dev.dropOvls_mem (d : Dev) (idx : List Nat) : (Dev.dropOvls d idx).mem = d.mem := by simp [Dev.dropOvls]

@[simp] theorem Dev.ovlInfo_mem (d : Dev) (i : Nat) (bs : List Byte) : (Dev.ovlInfo d i bs).mem = d.mem := rfl

@[simp] theorem Dev.seal_mem (d : Dev) : (Dev.seal d).mem = d.mem := by
  unfold Dev.seal
  split <;> simp

@[simp] theorem Dev.loadFinish_mem (d : Dev) (ld : Load) (code sec : Nat) : (Dev.loadFinish d ld code sec).mem = d.mem := by
  simp only [Dev.loadFinish]
  repeat' split
  all_goals simp

@[simp] theorem Dev.bootSlot_mem (d : Dev) (slotB second : Bool) : (Dev.bootSlot d slotB second).1.mem = d.mem := by
  unfold Dev.bootSlot
  dsimp only
  split <;> simp

@[simp] theorem Dev.bootOver_mem (d : Dev) (slotB : Bool) (code : Nat) : (Dev.bootOver d slotB code).mem = d.mem := by
  simp only [Dev.bootOver]
  repeat' split
  all_goals simp

@[simp] theorem Dev.bootSecond_mem (d : Dev) (slotB : Bool) (code : Nat) : (Dev.bootSecond d slotB code).mem = d.mem := by simp [Dev.bootSecond]

@[simp] theorem Dev.bootFirst_mem (d : Dev) (slotB : Bool) (code : Nat) : (Dev.bootFirst d slotB code).mem = d.mem := by
  simp only [Dev.bootFirst]
  repeat' split
  all_goals simp

@[simp] theorem Dev.loadEnd_mem (d : Dev) (ld : Load) (code sec : Nat) : (Dev.loadEnd d ld code sec).mem = d.mem := by
  simp only [Dev.loadEnd]
  repeat' split
  all_goals simp

@[simp] theorem Dev.proofError_mem (d : Dev) (p : Nat × Nat × Nat) : (Dev.proofError d p).mem = d.mem := rfl

@[simp] theorem Dev.loadDone_mem (d : Dev) (ld : Load) : (Dev.loadDone d ld).mem = d.mem := by
  unfold Dev.loadDone
  split
  · dsimp only
    rw [Dev.wr_mem, Dev.takeBase_mem, Dev.wrs_mem]
  · rfl

@[simp] theorem Dev.reevaluate_mem (d : Dev) : (Dev.reevaluate d).mem = d.mem := by
  have htouch : (d.cfg.ovls.foldl (fun d o =>
      if safetyDiff d.base (d.eff o.idx) then d.wr (.cfg (.OVL_INFO_SAFETY_TOUCH (o.idx - 1))) 1 else d) d).mem = d.mem :=
    foldl_mem _ _ (fun e o => by rw [Dev.mem_ite, Dev.wr_mem, ite_self]) d
  unfold Dev.reevaluate
  dsimp only
  rw [Dev.wr_mem, Dev.dropOvls_mem]
  generalize d.cfg.ovls.foldl _ d = e at htouch ⊢
  split
  · rw [Dev.proofError_mem, htouch]
  · exact htouch

@[simp] theorem Dev.endRequest_mem (d : Dev) (result : Nat) : (Dev.endRequest d result).mem = d.mem := rfl

@[simp] theorem Dev.lapse_mem (d : Dev) : (Dev.lapse d).mem = d.mem := by
  unfold Dev.lapse
  split <;> simp



@[simp] theorem Dev.overlaySafeEnd_mem (d : Dev) : (Dev.overlaySafeEnd d).mem = d.mem := by
  unfold Dev.overlaySafeEnd
  split <;> simp

@[simp] theorem Dev.lockedSum_mem (d : Dev) : (Dev.lockedSum d).2.mem = d.mem := by
  unfold Dev.lockedSum
  dsimp only
  rw [Dev.readRun_mem, Dev.readRun_mem]

@[simp] theorem Dev.sigMismatch_mem (d : Dev) : (Dev.sigMismatch d).mem = d.mem := by
  unfold Dev.sigMismatch
  split <;> simp

@[simp] theorem Dev.nvtEvent_mem (d : Dev) (status : NvtF) : (Dev.nvtEvent d status).mem = d.mem := by simp [Dev.nvtEvent]

@[simp] theorem Dev.nvtCnt_mem (d : Dev) (i : Nat) : (Dev.nvtCnt d i).mem = d.mem := rfl

@[simp] theorem Dev.setConnState_mem (d : Dev) (c v : Nat) : (Dev.setConnState d c v).mem = d.mem := by simp [Dev.setConnState]

@[simp] theorem Dev.modCmd_mem (d : Dev) (ser : Nat) (f : NvtCmd → NvtCmd) : (Dev.modCmd d ser f).mem = d.mem := rfl

@[simp] theorem Dev.segment_mem (d : Dev) (c seq flags : Nat) (opts payload : List Byte) : (Dev.segment d c seq flags opts payload).2.mem = d.mem := by
  unfold Dev.segment
  dsimp only
  split <;> simp

@[simp] theorem Dev.bufGet_mem (d : Dev) (c off k : Nat) : (Dev.bufGet d c off k).2.2.mem = d.mem := by simp [Dev.bufGet]

@[simp] theorem Dev.spoilLeg_mem (d : Dev) (ser : Nat) (leg c : Nat) (drop : Bool) : (Dev.spoilLeg d ser leg c drop).mem = d.mem := rfl

@[simp] theorem Dev.nvtFinish_mem (d : Dev) (ser : Nat) : (Dev.nvtFinish d ser).mem = d.mem := by
  simp only [Dev.nvtFinish]
  repeat' split
  all_goals simp

@[simp] theorem Dev.endLegs_mem (d : Dev) (ser : Nat) (p : NvtLeg → Bool) (status : NvtLeg → Nat) : (Dev.endLegs d ser p status).mem = d.mem := by simp [Dev.endLegs]

@[simp] theorem Dev.nvtLost_mem (d : Dev) (c state err : Nat) : (Dev.nvtLost d c state err).mem = d.mem := by simp [Dev.nvtLost, foldl_mem, Dev.mem_ite]

@[simp] theorem Dev.nvtFail_mem (d : Dev) (c err : Nat) : (Dev.nvtFail d c err).mem = d.mem := by simp [Dev.nvtFail]

@[simp] theorem Dev.nvtDiscard_mem (d : Dev) (x : NvtRx) (cause : Nat) : (Dev.nvtDiscard d x cause).mem = d.mem := by simp [Dev.nvtDiscard]

@[simp] theorem Dev.nvtAcked_mem (d : Dev) (c k : Nat) : (Dev.nvtAcked d c k).mem = d.mem := rfl

@[simp] theorem Dev.rxDrop_mem (d : Dev) (c k : Nat) : (Dev.rxDrop d c k).mem = d.mem := rfl

@[simp] theorem Dev.nvtAnswer_mem (d : Dev) (c cid sf dw0 : Nat) : (Dev.nvtAnswer d c cid sf dw0).mem = d.mem := by
  simp only [Dev.nvtAnswer]
  repeat' split
  all_goals simp

@[simp] theorem Dev.c2hData_mem (d : Dev) (c : Nat) : (Dev.c2hData d c).mem = d.mem := by
  unfold Dev.c2hData
  split
  · rfl
  · extract_lets bs leg hold d1 d2 x dd ok d3 d4
    have h1 : d1.mem = d.mem := by
      dsimp only [d1, leg]
      split
      · rw [Dev.mem_ite, Dev.modCmd_mem, Dev.hostWrite_mem, ite_self]
      · rfl
    have h2 : d2.mem = d.mem := (Dev.rxDrop_mem _ _ _).trans h1
    have h3 : d3.mem = d.mem := by
      dsimp only [d3]
      rw [Dev.modConn_mem, Dev.mem_ite, Dev.rxDrop_mem, ite_self, h2]
    have h4 : d4.mem = d.mem := by
      dsimp only [d4, leg]
      split
      · rw [Dev.mem_ite, Dev.modCmd_mem, ite_self, h3]
      · exact h3
    rw [Dev.mem_ite, Dev.mem_ite, Dev.mem_ite, Dev.modConn_mem, Dev.nvtAnswer_mem, h2, h4, ite_self, ite_self, ite_self]

@[simp] theorem Dev.nvtRefuse_mem (d : Dev) (n q : Nat) (e : SqEnt) (status : Nat) : (Dev.nvtRefuse d n q e status).mem = d.mem := by simp [Dev.nvtRefuse]

@[simp] theorem Dev.nvtUnsent_mem (d : Dev) (ser status : Nat) : (d.nvtUnsent ser status).mem = d.mem := by
  unfold Dev.nvtUnsent
  split
  · rfl
  · refine (Dev.endLegs_mem _ _ _ _).trans (foldl_mem _ _ (fun d i => ?_) d)
    split <;> simp

@[simp] theorem Dev.sflushEnded_mem (d : Dev) (ser : Nat) : (Dev.sflushEnded d ser).mem = d.mem := by simp [Dev.sflushEnded]

@[simp] theorem Dev.dbReject_mem (d : Dev) (f index ring reason : Nat) (cq : Bool) : (Dev.dbReject d f index ring reason cq).mem = d.mem := by simp [Dev.dbReject]

@[simp] theorem Dev.sqMirror_mem (d : Dev) (n : Nat) : (Dev.sqMirror d n).mem = d.mem := by
  simp only [Dev.sqMirror]
  repeat' split
  all_goals simp

@[simp] theorem Dev.mirrors_mem (d : Dev) : (Dev.mirrors d).mem = d.mem := by
  unfold Dev.mirrors
  refine (foldl_mem _ _ (fun d x => ?_) _).trans ?_
  all_goals repeat' split
  all_goals simp

@[simp] theorem Dev.safeDrain_mem (n : Nat) : ∀ (fuel : Nat) (d : Dev), (d.safeDrain n fuel).mem = d.mem
  | 0, _ => rfl
  | fuel + 1, d => by
    unfold Dev.safeDrain
    dsimp only
    split
    · rfl
    · simp [Dev.safeDrain_mem n fuel, Dev.mem_ite]

@[simp] theorem Dev.safeEntries_mem (d : Dev) (n : Nat) : (d.safeEntries n).mem = d.mem := by simp [Dev.safeEntries, Dev.mem_ite]

@[simp] theorem Dev.entryBad_mem (d : Dev) (n idx : Nat) (host : Bool) (flags : Nat) : (Dev.entryBad d n idx host flags).mem = d.mem := by
  unfold Dev.entryBad
  dsimp only
  split <;> simp

@[simp] theorem Dev.entryArrived_mem (d : Dev) (n idx : Nat) (bs : List PByte) : (Dev.entryArrived d n idx bs).mem = d.mem := by
  simp only [Dev.entryArrived]
  repeat' split
  all_goals simp

@[simp] theorem Dev.entriesArrived_mem (n : Nat) : ∀ (k : Nat) (d : Dev) (idx : Nat) (bs : List PByte),
    (d.entriesArrived n idx bs k).mem = d.mem
  | 0, d, _, _ => by simp [Dev.entriesArrived]
  | k + 1, d, idx, bs => by simp [Dev.entriesArrived, Dev.entriesArrived_mem n k]

@[simp] theorem Dev.entriesFailed_mem (n : Nat) : ∀ (k : Nat) (d : Dev) (idx : Nat), (d.entriesFailed n idx k).mem = d.mem
  | 0, d, _ => d.sqMirror_mem n
  | k + 1, d, idx => by
    unfold Dev.entriesFailed
    exact (Dev.entriesFailed_mem n k _ _).trans ((Dev.entryBad_mem _ _ _ _ _).trans (Dev.wr_mem _ _ _))

@[simp] theorem Dev.bcTx_mem (d : Dev) (bs : List Byte) : (Dev.bcTx d bs).2.mem = d.mem := by
  simp only [Dev.bcTx]
  repeat' split
  all_goals simp

@[simp] theorem Dev.txEnqueue_mem (d : Dev) (n : Nat) (e : SqEnt) (f : Frame) : (Dev.txEnqueue d n e f).mem = d.mem := by
  simp only [Dev.txEnqueue]
  repeat' split
  all_goals simp

@[simp] theorem Dev.txTurn_mem (n : Nat) : ∀ (es : List SqEnt) (d : Dev), (d.txTurn n es).mem = d.mem
  | [], _ => rfl
  | e :: es, d => by
    unfold Dev.txTurn
    repeat' split
    all_goals simp [Dev.txTurn_mem n es]

@[simp] theorem Dev.payFailed_mem (d : Dev) (n ser : Nat) : (d.payFailed n ser).mem = d.mem := by
  unfold Dev.payFailed
  split
  · rfl
  · dsimp only
    split <;> simp

@[simp] theorem Dev.rxWrite_mem (n flag : Nat) : ∀ (es : List SqEnt) (d : Dev) (bs : List PByte), (d.rxWrite n flag es bs).mem = d.mem
  | [], _, _ => rfl
  | e :: es, d, bs => by
    unfold Dev.rxWrite
    split
    · rfl
    · simp [Dev.rxWrite_mem n flag es]

@[simp] theorem Dev.cancelRing_mem (d : Dev) (n : Nat) : (Dev.cancelRing d n).mem = d.mem :=
  foldl_mem _ _ (fun e p => e.modPort_mem p _) d

@[simp] theorem Dev.fetch_mem (d : Dev) (e : Nat) : (Dev.fetch d e).2.2.mem = d.mem := by simp [Dev.fetch]

@[simp] theorem Dev.voidFetch_mem (d : Dev) (n : Nat) : (Dev.voidFetch d n).mem = d.mem := rfl

@[simp] theorem Dev.abortEnt_mem (d : Dev) (n : Nat) (e : SqEnt) : (Dev.abortEnt d n e).mem = d.mem := by
  simp only [Dev.abortEnt]
  repeat' split
  all_goals simp

@[simp] theorem Dev.safeRingEnd_mem (d : Dev) (n : Nat) : (d.safeRingEnd n).mem = d.mem := by
  simp only [Dev.safeRingEnd, Dev.safeEntries_mem]
  refine (foldl_mem _ _ (fun d e => ?_) _).trans (by simp)
  split <;> simp

@[simp] theorem Dev.rpAsk_mem (d : Dev) (rp : Nat) (t : RpTag) : (Dev.rpAsk d rp t).mem = d.mem := rfl

theorem Dev.pfServe_mem (d : Dev) (rp w a len : Nat) (r : _) (h : Dev.pfServe d rp w a len = some r) : r.2.mem = d.mem := by
  grind [Dev.pfServe, Dev.count_mem, Dev.modRp_mem]

@[simp] theorem Dev.pfPut_mem (d : Dev) (rp w off : Nat) (bs : List PByte) : (Dev.pfPut d rp w off bs).mem = d.mem := rfl

@[simp] theorem Dev.pfKeep_mem (d : Dev) (rp : Nat) (t : RpTag) : (Dev.pfKeep d rp t).mem = d.mem := by simp [Dev.pfKeep, foldl_mem, Dev.mem_ite]

@[simp] theorem Dev.rpErr_mem (d : Dev) (rp i : Nat) : (Dev.rpErr d rp i).mem = d.mem := by simp [Dev.rpErr]

@[simp] theorem Dev.rpPresent_mem (d : Dev) (rp : Nat) (codes : List Nat) : (Dev.rpPresent d rp codes).mem = d.mem := by
  simp only [Dev.rpPresent]
  repeat' split
  all_goals simp

@[simp] theorem Dev.modemAnswer_mem (d : Dev) (rp tag status : Nat) (bs : List Byte) (ep : Bool) : (Dev.modemAnswer d rp tag status bs ep).mem = d.mem := by
  unfold Dev.modemAnswer
  split <;> simp

@[simp] theorem Dev.setXfer_mem (d : Dev) (x : Nat) (v : Option Xfer) : (Dev.setXfer d x v).mem = d.mem := by
  unfold Dev.setXfer
  split <;> simp

@[simp] theorem Dev.modXfer_mem (d : Dev) (x : Nat) (f : Xfer → Xfer) : (Dev.modXfer d x f).mem = d.mem := by simp [Dev.modXfer]

@[simp] theorem Dev.chIrq_mem (d : Dev) (x : Nat) : (Dev.chIrq d x).mem = d.mem := by
  unfold Dev.chIrq
  dsimp only
  split <;> simp

@[simp] theorem Dev.dmaLog_mem (d : Dev) (x status addr : Nat) : (Dev.dmaLog d x status addr).mem = d.mem := by simp [Dev.dmaLog]

@[simp] theorem Dev.tchEnd_mem (d : Dev) (t status : Nat) (v : Xfer) : (Dev.tchEnd d t status v).mem = d.mem := by
  unfold Dev.tchEnd
  split <;> simp

@[simp] theorem Dev.tchFault_mem (d : Dev) (t : Nat) : (Dev.tchFault d t).mem = d.mem := by
  simp only [Dev.tchFault]
  repeat' split
  all_goals simp

@[simp] theorem Dev.tchSettle_mem (d : Dev) (t : Nat) : (Dev.tchSettle d t).mem = d.mem := by
  simp only [Dev.tchSettle]
  repeat' split
  all_goals simp

@[simp] theorem Dev.shadow_mem (d : Dev) (t : Nat) : (Dev.shadow d t).2.mem = d.mem := by
  unfold Dev.shadow
  split <;> simp

@[simp] theorem Dev.tchEmpty_mem (d : Dev) (t : Nat) : (Dev.tchEmpty d t).mem = d.mem := rfl

@[simp] theorem Dev.tchLineTaken_mem (d : Dev) (t : Nat) : (Dev.tchLineTaken d t).mem = d.mem := by
  unfold Dev.tchLineTaken
  dsimp only
  split <;> simp

@[simp] theorem Dev.moved_mem (d : Dev) (x off n : Nat) (poison : Bool) : (Dev.moved d x off n poison).mem = d.mem := by simp [Dev.moved]

@[simp] theorem Dev.clusterGet_mem (d : Dev) (off n : Nat) : (Dev.clusterGet d off n).2.mem = d.mem := by
  grind [Dev.clusterGet, Dev.readMarked_mem]

@[simp] theorem Dev.chAfter_mem (d : Dev) (x : Nat) : (Dev.chAfter d x).mem = d.mem := by
  unfold Dev.chAfter
  split <;> simp

@[simp] theorem Dev.chBad_mem (d : Dev) (x code addr : Nat) : (Dev.chBad d x code addr).mem = d.mem := by
  simp only [Dev.chBad]
  repeat' split
  all_goals simp

@[simp] theorem Dev.issued_mem (d : Dev) (x n : Nat) : (Dev.issued d x n).mem = d.mem := by simp [Dev.issued]

@[simp] theorem Dev.llHalt_mem (d : Dev) (c status : Nat) : (Dev.llHalt d c status).mem = d.mem := by simp [Dev.llHalt]

@[simp] theorem Dev.llArrive_mem (d : Dev) (c : Nat) (bs : List PByte) : (Dev.llArrive d c bs).mem = d.mem := by
  simp only [Dev.llArrive]
  repeat' split
  all_goals simp

@[simp] theorem Dev.llRefused_mem (d : Dev) (c : Nat) : (Dev.llRefused d c).mem = d.mem := rfl



@[simp] theorem Dev.ringFailed_mem (d : Dev) (n : Nat) : (Dev.ringFailed d n).mem = d.mem := by
  simp only [Dev.ringFailed]
  repeat' split
  all_goals simp

@[simp] theorem Dev.dropTag_mem (d : Dev) (t : Tag) : (Dev.dropTag d t).mem = d.mem := rfl

@[simp] theorem Dev.lateCpl_mem (d : Dev) (t : Tag) (final : Bool) : (Dev.lateCpl d t final).mem = d.mem := by
  simp only [Dev.lateCpl]
  repeat' split
  all_goals simp

@[simp] theorem Dev.tchCut_mem (d : Dev) (t : Nat) : (Dev.tchCut d t).mem = d.mem := by
  simp only [Dev.tchCut]
  repeat' split
  all_goals simp [foldl_mem, Dev.mem_ite]

@[simp] theorem Dev.channelsReset_mem (d : Dev) (f : Nat) : (Dev.channelsReset d f).mem = d.mem := by simp [Dev.channelsReset, foldl_mem, Dev.mem_ite]

@[simp] theorem Dev.answerUr_mem (d : Dev) (f : Nat) : (Dev.answerUr d f).mem = d.mem := by simp [Dev.answerUr]

@[simp] theorem Dev.cfgRead_mem (o : Otp) (d : Dev) (f off len : Nat) : (Dev.cfgRead o d f off len).mem = d.mem := by
  unfold Dev.cfgRead
  split <;> simp

@[simp] theorem Dev.gpioPads_mem (d old : Dev) : (Dev.gpioPads d old).mem = d.mem := by
  unfold Dev.gpioPads
  refine (foldl_mem _ _ (fun d x => ?_) _).trans ?_
  all_goals repeat' split
  all_goals simp

@[simp] theorem Dev.pmcEvent_mem (d : Dev) : (Dev.pmcEvent d).mem = d.mem := by
  unfold Dev.pmcEvent
  split <;> simp

@[simp] theorem Dev.changed_mem (d old : Dev) (f : Fld) : (Dev.changed d old f).mem = d.mem := by
  simp only [Dev.changed]
  repeat' split
  all_goals simp

@[simp] theorem Dev.countWrites_mem (d : Dev) (off : Nat) (ws : List FieldWrite) : (d.countWrites off ws).mem = d.mem := by
  have hcounts : ∀ cs : List Fld, (cs.foldl (fun (d : Dev) c => d.inc c) d).mem = d.mem := fun cs =>
    foldl_mem cs _ (fun d c => d.inc_mem c) d
  simp only [Dev.countWrites]
  split
  · rw [Dev.logFirst_mem, Dev.inc_mem, hcounts]
  · exact hcounts _

@[simp] theorem Dev.lcRefuse_mem (d : Dev) (code : Nat) : (Dev.lcRefuse d code).mem = d.mem := rfl

@[simp] theorem Dev.safRefuse_mem (d : Dev) (code : Nat) : (Dev.safRefuse d code).mem = d.mem := rfl

theorem Dev.reservedOp_mem (d e : Dev) (r : RegAt) (value : Nat) (h : d.reservedOp r value = some e) : e.mem = d.mem := by
  simp only [Dev.reservedOp] at h
  repeat' split at h
  all_goals grind [Dev.inc_mem, Dev.safRefuse_mem, Dev.lcRefuse_mem]

@[simp] theorem Dev.writeReg_mem (d : Dev) (free : Bool) (off : Nat) (r : RegAt) (mask value : Nat) :
    (d.writeReg free off r mask value).mem = d.mem := by
  have hgetD : ∀ e : Dev, ((e.reservedOp r value).getD e).mem = e.mem := fun e => by
    cases h : e.reservedOp r value with
    | none => rfl
    | some g => exact Dev.reservedOp_mem e g r value h
  simp only [Dev.writeReg]
  split
  · rfl
  · simp [hgetD, Dev.mem_ite, foldl_mem]

@[simp] theorem Dev.cfgWrite_mem (d : Dev) (f off : Nat) (bytes : List Byte) : (Dev.cfgWrite d f off bytes).mem = d.mem := by
  simp only [Dev.cfgWrite]
  repeat' split
  all_goals simp

@[simp] theorem Dev.rpFail_mem (d : Dev) (rp : Nat) (t : RpTag) (code : Nat) : (Dev.rpFail d rp t code).mem = d.mem := by
  unfold Dev.rpFail
  split <;> simp

@[simp] theorem Dev.rpDrop_mem (d : Dev) (rp : Nat) (t : RpTag) : (Dev.rpDrop d rp t).mem = d.mem := rfl

@[simp] theorem Dev.rpEndBad_mem (d : Dev) (rp : Nat) (t : RpTag) (code : Nat) : (Dev.rpEndBad d rp t code).mem = d.mem := by simp [Dev.rpEndBad]

@[simp] theorem Dev.rpTimeout_mem (d : Dev) (rp : Nat) (t : RpTag) : (Dev.rpTimeout d rp t).mem = d.mem := by simp [Dev.rpTimeout]

@[simp] theorem Dev.rpTimers_mem (d : Dev) (rp : Nat) : (Dev.rpTimers d rp).mem = d.mem := by
  unfold Dev.rpTimers
  refine (foldl_mem _ _ (fun d x => ?_) _).trans ?_
  all_goals repeat' split
  all_goals simp

@[simp] theorem Dev.inbReject_mem (d : Dev) (rp : Nat) (write : Bool) (tag : Nat) : (Dev.inbReject d rp write tag).mem = d.mem := by
  unfold Dev.inbReject
  split <;> simp

@[simp] theorem Dev.modemMsi_mem (d : Dev) (rp i : Nat) : (Dev.modemMsi d rp i).mem = d.mem := by
  unfold Dev.modemMsi
  split <;> simp

@[simp] theorem Dev.timEvent_mem (d : Dev) (status : TimF) : (Dev.timEvent d status).mem = d.mem := by simp [Dev.timEvent]

@[simp] theorem Dev.timCnt_mem (d : Dev) (i : Nat) : (Dev.timCnt d i).mem = d.mem := rfl

@[simp] theorem Dev.stepTb_mem (d : Dev) (n : Int) : (Dev.stepTb d n).mem = d.mem := by
  unfold Dev.stepTb
  split <;> simp

@[simp] theorem Dev.setFreq_mem (d : Dev) (x : Int) : (Dev.setFreq d x).mem = d.mem := rfl

@[simp] theorem Dev.tbRead_mem (d : Dev) : (Dev.tbRead d).2.mem = d.mem := rfl

@[simp] theorem Dev.reply64_mem (x : Nat × Dev) : (Dev.reply64 x).mem = x.2.mem := by simp [Dev.reply64]

@[simp] theorem Dev.tsPop_mem (d : Dev) (p : Nat) (tx : Bool) : (Dev.tsPop d p tx).2.mem = d.mem := by
  simp only [Dev.tsPop]
  repeat' split
  all_goals simp

@[simp] theorem Dev.roundDiv_mem (d : Dev) (n : Int) (m : Nat) : (Dev.roundDiv d n m).2.mem = d.mem := by
  simp only [Dev.roundDiv]
  repeat' split
  all_goals simp

@[simp] theorem Dev.loopUpdate_mem (d : Dev) (e : Int) : (Dev.loopUpdate d e).mem = d.mem := by
  simp only [Dev.loopUpdate]
  repeat' split
  all_goals simp

@[simp] theorem Dev.sample_mem (d : Dev) (e : Int) (hold : Bool) : (Dev.sample d e hold).mem = d.mem := by
  simp only [Dev.sample]
  repeat' split
  all_goals simp

@[simp] theorem Dev.ppsValid_mem (d : Dev) (stamp : Nat) : (Dev.ppsValid d stamp).mem = d.mem := by
  simp only [Dev.ppsValid]
  repeat' split
  all_goals simp

@[simp] theorem Dev.ppsLost_mem (d : Dev) : (Dev.ppsLost d).mem = d.mem := by simp [Dev.ppsLost]

@[simp] theorem Dev.todAccept_mem (d : Dev) (utc : Nat) : (Dev.todAccept d utc).mem = d.mem := by
  simp only [Dev.todAccept]
  repeat' split
  all_goals simp

@[simp] theorem Dev.calEvent_mem (d : Dev) (f : CalF) (cause e : Nat) : (Dev.calEvent d f cause e).mem = d.mem := by simp [Dev.calEvent]

@[simp] theorem Dev.calCnt_mem (d : Dev) (i k : Nat) : (Dev.calCnt d i k).mem = d.mem := rfl

@[simp] theorem Dev.setPoints_mem (d : Dev) (p k : Nat) : (Dev.setPoints d p k).mem = d.mem := rfl

@[simp] theorem Dev.calCut_mem (d : Dev) (n : Nat) : (Dev.calCut d n).mem = d.mem := by
  unfold Dev.calCut
  split <;> simp

@[simp] theorem Dev.ageClear_mem (d : Dev) : (Dev.ageClear d).mem = d.mem := by simp [Dev.ageClear, foldl_mem, Dev.mem_ite]

@[simp] theorem Dev.verifyEntry_mem (d : Dev) (e : Nat) : (Dev.verifyEntry d e).mem = d.mem := by
  unfold Dev.verifyEntry
  dsimp only
  split <;> simp

@[simp] theorem Dev.setWreg_mem (d : Dev) (e : Nat) (i : Fin 32) (v : WReg) : (Dev.setWreg d e i v).mem = d.mem := rfl

@[simp] theorem Dev.advance_mem (d : Dev) (e : Nat) : (Dev.advance d e).mem = d.mem := rfl

@[simp] theorem Dev.winRead_mem (d : Dev) (o : OpenF) (off n : Nat) : (d.winRead o off n).2.mem = d.mem := by
  unfold Dev.winRead
  dsimp only
  rw [foldl_snd_mem]
  exact fun a j => a.2.readLine_mem _

@[simp] theorem Dev.modHalf_mem (d : Dev) (p h : Nat) (f : SmpHalf → SmpHalf) : (Dev.modHalf d p h f).mem = d.mem := rfl

@[simp] theorem Dev.smpReload_mem (d : Dev) (p h : Nat) : (Dev.smpReload d p h).mem = d.mem := rfl

@[simp] theorem Dev.retire_mem (d b : Dev) (e : Nat) (r : Retired) : (Dev.retire d b e r).mem = d.mem := by
  simp only [Dev.retire]
  repeat' split
  all_goals simp

@[simp] theorem Dev.setEngState_mem (d : Dev) (e v : Nat) : (Dev.setEngState d e v).mem = d.mem := by
  unfold Dev.setEngState
  split <;> simp

@[simp] theorem Dev.engCnt_mem (d : Dev) (e i : Nat) : (Dev.engCnt d e i).mem = d.mem := rfl

@[simp] theorem Dev.engStart_mem (d : Dev) (e state entry cls slot : Nat) (be : Option Nat) (w1 w2 w3 : Nat) : (Dev.engStart d e state entry cls slot be w1 w2 w3).mem = d.mem := by simp [Dev.engStart]

@[simp] theorem Dev.clusterRead_mem (d : Dev) (e off n : Nat) : (Dev.clusterRead d e off n).2.mem = d.mem := by simp [Dev.clusterRead]

@[simp] theorem Dev.engIdle_mem (d : Dev) (e : Nat) : (Dev.engIdle d e).mem = d.mem := by simp [Dev.engIdle]

@[simp] theorem Dev.engEnd_mem (d : Dev) (e status : Nat) : (Dev.engEnd d e status).mem = d.mem := by
  simp only [Dev.engEnd]
  repeat' split
  all_goals simp

@[simp] theorem Dev.engDrop_mem (d : Dev) (e i : Nat) (fs : List Frame) : (Dev.engDrop d e i fs).mem = d.mem := by
  unfold Dev.engDrop
  refine (foldl_mem _ _ (fun d x => ?_) _).trans ?_
  all_goals simp

@[simp] theorem Dev.waitDone_mem (d : Dev) (e : Nat) : (Dev.waitDone d e).mem = d.mem := by
  unfold Dev.waitDone
  split <;> simp

@[simp] theorem Dev.giveBack_mem (d : Dev) (e : Nat) (f : Frame) : (Dev.giveBack d e f).mem = d.mem := rfl

@[simp] theorem Dev.loadBytes_mem (d : Dev) (e a n : Nat) : (Dev.loadBytes d e a n).2.mem = d.mem := by
  simp only [Dev.loadBytes]
  repeat' split
  all_goals simp

@[simp] theorem Dev.refuse_mem (d : Dev) (e : Nat) (rd : Fin 32) (reason : Nat) : (Dev.refuse d e rd reason).mem = d.mem := rfl

@[simp] theorem Dev.nextOpen_mem (d : Dev) (e : Nat) : (Dev.nextOpen d e).mem = d.mem := rfl

@[simp] theorem Dev.newHandle_mem (d : Dev) : (Dev.newHandle d).2.mem = d.mem := rfl

@[simp] theorem Dev.fwdCheck_mem (d : Dev) (a : Nat) : (Dev.fwdCheck d a).1.mem = d.mem := by
  simp only [Dev.fwdCheck]
  repeat' split
  all_goals simp

@[simp] theorem Dev.fwdAccept_mem (d : Dev) (e a tags : Nat) (f : Frame) : (Dev.fwdAccept d e a tags f).2.mem = d.mem := by
  simp only [Dev.fwdAccept]
  repeat' split
  all_goals simp

@[simp] theorem Dev.delivCheck_mem (d : Dev) (a len : Nat) : (Dev.delivCheck d a len).1.mem = d.mem := by
  simp only [Dev.delivCheck]
  repeat' split
  all_goals simp

@[simp] theorem Dev.cryptAccept_mem (d : Dev) (a b : Nat) (f : Frame) : (Dev.cryptAccept d a b f).2.mem = d.mem := rfl

@[simp] theorem Dev.bridgeAccept_mem (d : Dev) (a b : Nat) (f : Frame) : (Dev.bridgeAccept d a b f).2.mem = d.mem := by simp [Dev.bridgeAccept]

@[simp] theorem Dev.storAccept_mem (d : Dev) (a b : Nat) (f : Frame) : (Dev.storAccept d a b f).2.mem = d.mem := by simp [Dev.storAccept]

@[simp] theorem Dev.secEvent_mem (d : Dev) (f : SecF) : (Dev.secEvent d f).mem = d.mem := by simp [Dev.secEvent]

@[simp] theorem Dev.newChallenge_mem (d : Dev) : (Dev.newChallenge d).mem = d.mem := rfl

@[simp] theorem Dev.otpResult_mem (d : Dev) (code : Nat) : (Dev.otpResult d code).mem = d.mem := by simp [Dev.otpResult]

@[simp] theorem abandonOtp_mem (report : Bool) (o : Otp) (d : Dev) : (abandonOtp report o d).2.mem = d.mem := by
  simp only [abandonOtp]
  repeat' split
  all_goals simp

@[simp] theorem Dev.setLevel_mem (d : Dev) (l : Nat) : (Dev.setLevel d l).mem = d.mem := by simp [Dev.setLevel]

@[simp] theorem Dev.submitToken_mem (d : Dev) (t : List Byte) : (Dev.submitToken d t).mem = d.mem := by
  unfold Dev.submitToken
  split <;> simp

@[simp] theorem Dev.refuseToken_mem (d : Dev) (code : Nat) : (Dev.refuseToken d code).mem = d.mem := by
  simp only [Dev.refuseToken]
  repeat' split
  all_goals simp



@[simp] theorem tapPins_mem (o : Otp) (d : Dev) : (tapPins o d).mem = d.mem := by
  unfold tapPins
  split <;> simp

@[simp] theorem Dev.modDip_mem (d : Dev) (f : Dip → Dip) : (Dev.modDip d f).mem = d.mem := rfl

@[simp] theorem Dev.adcSample_mem (d : Dev) (v : Nat) : (Dev.adcSample d v).mem = d.mem := rfl

@[simp] theorem Dev.uvFault_mem (d : Dev) : (Dev.uvFault d).mem = d.mem := by simp [Dev.uvFault]

@[simp] theorem Dev.uvLong_mem (d : Dev) : (Dev.uvLong d).mem = d.mem := by
  simp only [Dev.uvLong]
  repeat' split
  all_goals simp

@[simp] theorem Dev.cutFlash_mem (d : Dev) : (Dev.cutFlash d).mem = d.mem := by
  unfold Dev.cutFlash
  split <;> simp

@[simp] theorem Dev.qualifyFrom_mem (d : Dev) (v : Nat) : (Dev.qualifyFrom d v).mem = d.mem := rfl

@[simp] theorem Dev.dipRecord_mem (d : Dev) (x : Dip) (dur : Nat) (reset : Bool) : (Dev.dipRecord d x dur reset).mem = d.mem := rfl

@[simp] theorem Dev.closeDip_mem (d : Dev) (tick : Bool) : (Dev.closeDip d tick).mem = d.mem := by
  unfold Dev.closeDip
  split <;> simp

@[simp] theorem Dev.safPass_mem (d : Dev) : (Dev.safPass d).mem = d.mem := rfl

@[simp] theorem Dev.drive_mem (d : Dev) (on : Bool) : (Dev.drive d on).mem = d.mem := rfl

@[simp] theorem Dev.trip_mem (d : Dev) (code detail : Nat) : (Dev.trip d code detail).mem = d.mem := by simp [Dev.trip]

@[simp] theorem Dev.clearPairs_mem (d : Dev) : (Dev.clearPairs d).mem = d.mem := by simp [Dev.clearPairs, foldl_mem, Dev.mem_ite]

@[simp] theorem Dev.rearm_mem (d : Dev) (k : Nat) : (Dev.rearm d k).mem = d.mem := by simp [Dev.rearm, foldl_mem, Dev.mem_ite]

@[simp] theorem Dev.beatMonitor_mem (o : Otp) (d : Dev) (k : Nat) : (Dev.beatMonitor o d k).mem = d.mem := by
  simp only [Dev.beatMonitor]
  repeat' split
  all_goals simp

@[simp] theorem Dev.takeWarning_mem (d : Dev) (bit : Nat) : (Dev.takeWarning d bit).mem = d.mem := rfl

@[simp] theorem Dev.takeFaults_mem (d : Dev) (fs : List Report) : (d.takeFaults fs).mem = d.mem := by
  have hset : (fs.foldl (fun d r => d.setFldBit (.saf .FAULT_FAULTS) (r.code - 1)) d).mem = d.mem :=
    foldl_mem _ _ (fun d r => d.setFldBit_mem _ _) d
  simp only [Dev.takeFaults]
  split
  · exact hset
  · simp [Dev.mem_ite, hset]

@[simp] theorem Dev.scrubBegin_mem (d : Dev) : (Dev.scrubBegin d).mem = d.mem := by
  simp only [Dev.scrubBegin]
  repeat' split
  all_goals simp

@[simp] theorem Dev.scrubLines_mem (d : Dev) (k : Nat) : (Dev.scrubLines d k).mem = d.mem := by simp [Dev.scrubLines, foldl_mem, Dev.mem_ite]

@[simp] theorem Dev.scrubOpen_mem (d : Dev) : (Dev.scrubOpen d).1.mem = d.mem := by
  simp only [Dev.scrubOpen]
  repeat' split
  all_goals simp [foldl_mem]

@[simp] theorem Dev.scrubCut_mem (d : Dev) (n : Nat) : (Dev.scrubCut d n).mem = d.mem := by
  unfold Dev.scrubCut
  dsimp only
  split <;> simp

@[simp] theorem Dev.enterState_mem (d : Dev) (a : Nat) : (Dev.enterState d a).mem = d.mem := by simp [Dev.enterState]

@[simp] theorem Dev.alu_mem (d : Dev) (e : Nat) (rd a b : Rn) (f : BitVec 64 → BitVec 64 → BitVec 64) : (Dev.alu d e rd a b f).mem = d.mem := rfl

@[simp] theorem Dev.alu1_mem (d : Dev) (e : Nat) (rd a : Rn) (f : BitVec 64 → BitVec 64) : (Dev.alu1 d e rd a f).mem = d.mem := rfl

@[simp] theorem Dev.doAdd_mem (d : Dev) (e : Nat) (rd a b : Rn) : (Dev.doAdd d e rd a b).mem = d.mem := rfl

@[simp] theorem Dev.doSub_mem (d : Dev) (e : Nat) (rd a b : Rn) : (Dev.doSub d e rd a b).mem = d.mem := rfl

@[simp] theorem Dev.doAnd_mem (d : Dev) (e : Nat) (rd a b : Rn) : (Dev.doAnd d e rd a b).mem = d.mem := rfl

@[simp] theorem Dev.doOr_mem (d : Dev) (e : Nat) (rd a b : Rn) : (Dev.doOr d e rd a b).mem = d.mem := rfl

@[simp] theorem Dev.doXor_mem (d : Dev) (e : Nat) (rd a b : Rn) : (Dev.doXor d e rd a b).mem = d.mem := rfl

@[simp] theorem Dev.doShl_mem (d : Dev) (e : Nat) (rd a b : Rn) : (Dev.doShl d e rd a b).mem = d.mem := rfl

@[simp] theorem Dev.doShr_mem (d : Dev) (e : Nat) (rd a b : Rn) : (Dev.doShr d e rd a b).mem = d.mem := rfl

@[simp] theorem Dev.doShrs_mem (d : Dev) (e : Nat) (rd a b : Rn) : (Dev.doShrs d e rd a b).mem = d.mem := rfl

@[simp] theorem Dev.doMul_mem (d : Dev) (e : Nat) (rd a b : Rn) : (Dev.doMul d e rd a b).mem = d.mem := rfl

@[simp] theorem Dev.doSetLt_mem (d : Dev) (e : Nat) (rd a b : Rn) : (Dev.doSetLt d e rd a b).mem = d.mem := rfl

@[simp] theorem Dev.doSetUlt_mem (d : Dev) (e : Nat) (rd a b : Rn) : (Dev.doSetUlt d e rd a b).mem = d.mem := rfl

@[simp] theorem Dev.doBswap_mem (d : Dev) (e : Nat) (rd a : Rn) : (Dev.doBswap d e rd a).mem = d.mem := rfl

@[simp] theorem Dev.doAddK_mem (d : Dev) (e : Nat) (rd a : Rn) (i : BitVec 16) : (Dev.doAddK d e rd a i).mem = d.mem := rfl

@[simp] theorem Dev.doAndK_mem (d : Dev) (e : Nat) (rd a : Rn) (i : BitVec 16) : (Dev.doAndK d e rd a i).mem = d.mem := rfl

@[simp] theorem Dev.doOrK_mem (d : Dev) (e : Nat) (rd a : Rn) (i : BitVec 16) : (Dev.doOrK d e rd a i).mem = d.mem := rfl

@[simp] theorem Dev.doCati_mem (d : Dev) (e : Nat) (rd a : Rn) (i : BitVec 16) : (Dev.doCati d e rd a i).mem = d.mem := rfl

@[simp] theorem Dev.doShli_mem (d : Dev) (e : Nat) (rd a : Rn) (p : Fin 64) : (Dev.doShli d e rd a p).mem = d.mem := rfl

@[simp] theorem Dev.doShri_mem (d : Dev) (e : Nat) (rd a : Rn) (p : Fin 64) : (Dev.doShri d e rd a p).mem = d.mem := rfl

@[simp] theorem Dev.doShrsi_mem (d : Dev) (e : Nat) (rd a : Rn) (p : Fin 64) : (Dev.doShrsi d e rd a p).mem = d.mem := rfl

@[simp] theorem Dev.doExtr_mem (d : Dev) (e : Nat) (rd a : Rn) (p l : Fin 64) : (Dev.doExtr d e rd a p l).mem = d.mem := rfl

@[simp] theorem Dev.doIns_mem (d : Dev) (e : Nat) (rd a : Rn) (p l : Fin 64) : (Dev.doIns d e rd a p l).mem = d.mem := rfl

@[simp] theorem Dev.doJlink_mem (d : Dev) (e : Nat) (rd : Rn) (o : BitVec 21) : (Dev.doJlink d e rd o).mem = d.mem := rfl

@[simp] theorem Dev.doTxcq_mem (d : Dev) (e : Nat) (rd : Rn) : (Dev.doTxcq d e rd).mem = d.mem := by
  unfold Dev.doTxcq
  dsimp only
  split <;> simp

@[simp] theorem Dev.doRdtTick_mem (d : Dev) (e : Nat) (rd : Rn) : (Dev.doRdtTick d e rd).mem = d.mem := rfl

@[simp] theorem Dev.doRdtOffset_mem (d : Dev) (e : Nat) (rd : Rn) : (Dev.doRdtOffset d e rd).mem = d.mem := rfl

@[simp] theorem Dev.doRdtCycles_mem (d : Dev) (e : Nat) (rd : Rn) : (Dev.doRdtCycles d e rd).mem = d.mem := rfl

@[simp] theorem Dev.daddrOf_mem (d : Dev) (e : Nat) (op : Op) : (d.daddrOf e op).2.mem = d.mem := by
  obtain ⟨k, hk⟩ := d.daddrOf_eq e op
  rw [hk]

@[simp] theorem Dev.switchWake_mem (d : Dev) : (Dev.switchWake d).mem = d.mem := by
  simp only [Dev.switchWake]
  repeat' split
  all_goals simp

@[simp] theorem Dev.dropBatch_mem (d : Dev) : (Dev.dropBatch d).mem = d.mem := by
  unfold Dev.dropBatch
  refine (foldl_mem _ _ (fun d x => ?_) _).trans ?_
  all_goals simp

@[simp] theorem Dev.recPop_mem (d : Dev) : (Dev.recPop d).2.mem = d.mem := by
  unfold Dev.recPop
  split <;> simp

@[simp] theorem Dev.cfgReset_mem (d : Dev) (f : Nat) : (Dev.cfgReset d f).mem = d.mem := by
  unfold Dev.cfgReset
  split <;> simp

@[simp] theorem Dev.setSent_mem (d : Dev) (w : Nat) (v : Bool) : (Dev.setSent d w v).mem = d.mem := by
  unfold Dev.setSent
  split <;> simp

@[simp] theorem Dev.intxSend_mem (d : Dev) (w : Nat) (v : Bool) : (Dev.intxSend d w v).mem = d.mem := by
  unfold Dev.intxSend
  split <;> simp

@[simp] theorem Dev.discardUr_mem (d : Dev) (f : Nat) : (Dev.discardUr d f).mem = d.mem := by simp [Dev.discardUr]

@[simp] theorem Dev.dropTags_mem (d : Dev) : (Dev.dropTags d).mem = d.mem := by
  unfold Dev.dropTags
  refine (foldl_mem _ _ (fun d x => ?_) _).trans ?_
  all_goals simp

@[simp] theorem Dev.msixSend_mem (d : Dev) (f v : Nat) : (Dev.msixSend d f v).mem = d.mem := by simp [Dev.msixSend]

@[simp] theorem Dev.msixUnblock_mem (d : Dev) (f v : Nat) : (Dev.msixUnblock d f v).mem = d.mem := by
  unfold Dev.msixUnblock
  split <;> simp

@[simp] theorem Dev.irqArrive_mem (d : Dev) (f v : Nat) : (Dev.irqArrive d f v).mem = d.mem := by
  simp only [Dev.irqArrive]
  repeat' split
  all_goals simp

@[simp] theorem Dev.msixAll_mem (d : Dev) : (Dev.msixAll d).mem = d.mem := by simp [Dev.msixAll, foldl_mem, Dev.mem_ite]

@[simp] theorem Dev.afterReset_mem (d : Dev) (k : ResetKind) : (d.afterReset k).mem = [] := rfl

@[simp] theorem Dev.resetNow_mem (k : ResetKind) (o : Otp) (d : Dev) : (Dev.resetNow k o d).2.mem = [] := rfl

@[simp] theorem Dev.rstRefuse_mem (d : Dev) (code : Nat) : (Dev.rstRefuse d code).mem = d.mem := rfl

@[simp] theorem Dev.hepReset_mem (d : Dev) : (Dev.hepReset d).mem = d.mem := by simp [Dev.hepReset]

@[simp] theorem Dev.rstCause_mem (d : Dev) (k : ResetKind) : (Dev.rstCause d k).mem = d.mem := by
  unfold Dev.rstCause
  split <;> simp

@[simp] theorem Dev.bootLoad_mem (d : Dev) : (Dev.bootLoad d).mem = d.mem := by
  unfold Dev.bootLoad
  dsimp only
  split <;> simp

@[simp] theorem Dev.setIds_mem (d : Dev) (vid id addr : Nat) : (Dev.setIds d vid id addr).mem = d.mem := rfl

@[simp] theorem Dev.snapshot_mem (d : Dev) (src : Nat) : (d.snapshot src).mem = d.mem := by
  simp only [Dev.snapshot]
  repeat' split
  · simp
  · simp
  · rfl
  · rw [Dev.wrs_mem]
    exact foldl_mem _ _ (fun d n => d.wr_mem _ _) _

@[simp] theorem Dev.smpLoss_mem (d : Dev) (p h : Nat) : (Dev.smpLoss d p h).mem = d.mem := rfl

@[simp] theorem Dev.mctpReply_mem (d : Dev) (p data : List Byte) : (Dev.mctpReply d p data).mem = d.mem := by
  unfold Dev.mctpReply
  refine (foldl_mem _ _ (fun d x => ?_) _).trans ?_
  all_goals repeat' split
  all_goals simp



@[simp] theorem Dev.readViews_mem : ∀ (os : List Nat) (d : Dev) (seen : List (Nat × List Byte × Bool)), (d.readViews seen os).2.mem = d.mem
  | [], _, _ => rfl
  | o :: os, d, seen => by
    unfold Dev.readViews
    split
    · exact Dev.readViews_mem os d seen
    · split
      · exact Dev.readViews_mem os d seen
      · simp [Dev.readViews_mem os]

@[simp] theorem Dev.showBytes_mem (o : Otp) (d : Dev) (w : Window) (off len : Nat) : (Dev.showBytes o d w off len).2.mem = d.mem := by
  simp [Dev.showBytes]

@[simp] theorem Dev.readBytesOf_mem (o : Otp) (d : Dev) (w : Window) (off len : Nat) : (Dev.readBytesOf o d w off len).2.2.mem = d.mem := by
  unfold Dev.readBytesOf
  dsimp only
  split <;> simp

@[simp] theorem Dev.readValue_mem (o : Otp) (d : Dev) (w : Window) (off len : Nat) : (Dev.readValue o d w off len).2.2.mem = d.mem := by
  simp only [Dev.readValue]
  repeat' split
  all_goals simp

@[simp] theorem Dev.writeMsix_mem (d : Dev) (f a value : Nat) : (Dev.writeMsix d f a value).mem = d.mem := rfl

@[simp] theorem Dev.doWrite_mem (d : Dev) (free : Bool) (len value : Nat) (t : WriteTo) : (d.doWrite free len value t).mem = d.mem := by
  cases t <;> simp [Dev.doWrite, Dev.mem_ite]

@[simp] theorem Dev.barWrite_mem (o : Otp) (d : Dev) (w : Window) (off : Nat) (bytes : List Byte) :
    (Dev.barWrite o d w off bytes).mem = d.mem := by
  simp [Dev.barWrite, Dev.mem_ite]

end Sys2Proof.Machine
end

section
-- The theorems are elaborated in order, which keeps the memory that a check of the whole text takes within its limit.
set_option Elab.async false

/-! SUPPORT.  The operations of the model that write the memory keep its canonical form, one lemma each; a loop, a choice and an operation
that takes its effect as an argument keep it when their parts do. -/

namespace Sys2Proof.Machine

open Sys2Proof

theorem wf_foldl {α : Type} (l : List α) (g : Dev → α → Dev) (hg : ∀ d x, Memory.wf d.mem = true → Memory.wf (g d x).mem = true) (d : Dev)
    (hw : Memory.wf d.mem = true) : Memory.wf (l.foldl g d).mem = true := by
  induction l generalizing d with
  | nil => exact hw
  | cons x xs ih => exact ih _ (hg d x hw)

theorem wf_ite {p : Prop} [Decidable p] {a b : Dev} (ha : Memory.wf a.mem = true) (hb : Memory.wf b.mem = true) :
    Memory.wf (if p then a else b).mem = true := by
  split
  · exact ha
  · exact hb

theorem wf_ite_snd {β : Type} {p : Prop} [Decidable p] {a b : β × Dev} (ha : Memory.wf a.2.mem = true) (hb : Memory.wf b.2.mem = true) :
    Memory.wf (if p then a else b).2.mem = true := by
  split
  · exact ha
  · exact hb


theorem Dev.wf_vatTake (d : Dev) (f n : Nat) (r : _) (h : d.vatTake f n = some r) (hw : Memory.wf d.mem = true) : Memory.wf r.2.mem = true := by
  unfold Dev.vatTake at h
  split at h
  · injection h with h
    subst h
    exact wf_foldl _ _ (fun d l hw => d.wf_zeroLines _ _ hw) d hw
  · cases h

theorem Dev.wf_hostReadAs (d : Dev) (f addr len shown : Nat) (cl : Client) (e : Dev) (h : d.hostReadAs f addr len shown cl = some e)
    (hw : Memory.wf d.mem = true) : Memory.wf e.mem = true := by
  unfold Dev.hostReadAs at h
  split at h
  · cases h
  split at h
  · cases h
  split at h
  · cases h
  next ls d' hv =>
    injection h with h
    subst h
    simpa using Dev.wf_vatTake d _ _ _ hv hw

theorem Dev.wf_hostRead1 (d : Dev) (f addr len : Nat) (cl : Client) (e : Dev) (h : d.hostRead1 f addr len cl = some e) (hw : Memory.wf d.mem = true) : Memory.wf e.mem = true := by
  grind [Dev.hostRead1, Dev.wf_hostReadAs]

theorem Dev.wf_hostReads (f : Nat) (cl : Nat → Client) : ∀ (rs : List (Nat × Nat)) (d : Dev) (off : Nat) (e : Dev),
    d.hostReads f cl off rs = some e → Memory.wf d.mem = true → Memory.wf e.mem = true
  | [], d, _, e, h, hw => by
    injection h with h
    exact h ▸ hw
  | (a, n) :: rs, d, off, e, h, hw => by
    unfold Dev.hostReads at h
    split at h
    · cases h
    next d' h1 => exact Dev.wf_hostReads f cl rs d' _ e h (Dev.wf_hostRead1 d _ _ _ _ d' h1 hw)

theorem Dev.wf_hostRead (d : Dev) (f addr len : Nat) (cl : Nat → Client) (off : Nat) (e : Dev) (h : d.hostRead f addr len cl off = some e)
    (hw : Memory.wf d.mem = true) : Memory.wf e.mem = true := Dev.wf_hostReads f cl _ d off e h hw

theorem Dev.wf_fromA3 (d : Dev) (hw : Memory.wf d.mem = true) : Memory.wf (d.fromA3).mem = true := by
  unfold Dev.fromA3
  refine wf_foldl _ _ (fun d x hw => ?_) _ ?_
  all_goals simp [hw, Dev.wf_zeroLines]

theorem Dev.wf_exitDone (d : Dev) (hw : Memory.wf d.mem = true) : Memory.wf (d.exitDone).mem = true := by
  simp only [Dev.exitDone]
  repeat' split
  all_goals simp [hw, Dev.wf_fromA3]

theorem Dev.wf_heldAccess (d : Dev) (hw : Memory.wf d.mem = true) : Memory.wf (d.heldAccess).mem = true := by simp [Dev.heldAccess, hw, Dev.wf_exitDone]

theorem Dev.wf_arrive (d : Dev) (off : Bool) (hw : Memory.wf d.mem = true) : Memory.wf (d.arrive off).mem = true := by
  grind [Dev.arrive, Dev.wf_exitDone, Dev.wf_heldAccess, Dev.wake_mem, Dev.wr_mem]

theorem Dev.wf_hostAccess (d : Dev) (off : Bool) (hw : Memory.wf d.mem = true) : Memory.wf (d.hostAccess off).mem = true := by simp [Dev.hostAccess, hw, Dev.wf_arrive]

theorem Dev.wf_almWrite (d : Dev) (e : Nat) (bs : List Byte) (hw : Memory.wf d.mem = true) : Memory.wf (d.almWrite e bs).mem = true := by simp [Dev.almWrite, hw, Dev.wf_writeLine]

theorem Dev.wf_almAccept (d : Dev) (e : Nat) (value : List Byte) (origin tick : Nat) (hw : Memory.wf d.mem = true) : Memory.wf (d.almAccept e value origin tick).mem = true := by simp [Dev.almAccept, hw, Dev.wf_almWrite]

theorem Dev.wf_almApply (d : Dev) (k e : Nat) (hw : Memory.wf d.mem = true) : Memory.wf (d.almApply k e).mem = true := by
  simp only [Dev.almApply]
  repeat' split
  all_goals simp [hw, Dev.wf_almWrite]

theorem Dev.wf_almBringUp (d : Dev) (p : Nat) (value : List Byte) (hw : Memory.wf d.mem = true) : Memory.wf (d.almBringUp p value).mem = true := by simp [Dev.almBringUp, hw, Dev.wf_almAccept, Dev.wf_almWrite]

theorem Dev.wf_rxGood (d : Dev) (p : Nat) (bs : List Byte) (age : Nat) (hw : Memory.wf d.mem = true) : Memory.wf (d.rxGood p bs age).mem = true := by
  grind [Dev.rxGood, Dev.wf_writeRun, Dev.alloc_mem, Dev.count_mem, Dev.modPort_mem, Dev.newUid_mem, Dev.rxRecord_mem, Dev.rxStamp_mem]

theorem Dev.wf_crossFrame (d : Dev) (p : Nat) (f : Frame) (hw : Memory.wf d.mem = true) : Memory.wf (d.crossFrame p f).mem = true := by
  grind [Dev.crossFrame, Dev.wf_newFrame, Dev.frameBytes_mem, Dev.free_mem, Dev.macCnt_mem, Dev.modPort_mem]

theorem Dev.wf_fragRemove (d : Dev) (f : Nat) (hw : Memory.wf d.mem = true) : Memory.wf (d.fragRemove f).mem = true := by simp [Dev.fragRemove, hw, Dev.wf_zeroLines]

theorem Dev.wf_fragClear (d : Dev) (hw : Memory.wf d.mem = true) : Memory.wf (d.fragClear).mem = true := by simp [Dev.fragClear, hw, Dev.wf_zeroLines]

theorem Dev.wf_fragLookup (d : Dev) (key : List Byte) (hw : Memory.wf d.mem = true) : Memory.wf (d.fragLookup key).2.2.mem = true := by
  have hdef : Dev.fragLookup = Dev.fragLookup := rfl
  conv at hdef => rhs; delta Dev.fragLookup
  have happ := congrFun (congrFun hdef d) key
  clear hdef
  beta_reduce at happ
  rw [happ]
  clear happ
  generalize List.range 128 = lines
  as_aux_lemma =>
    refine wf_foldl _ _ (fun d f hw => d.wf_fragRemove f hw) _ ?_
    rw [foldl_snd_mem _ _ (fun a f => by simp)]
    exact hw

theorem Dev.wf_fragInsert (d : Dev) (key : List Byte) (result : Nat) (hw : Memory.wf d.mem = true) : Memory.wf (d.fragInsert key result).mem = true := by
  simp only [Dev.fragInsert]
  repeat' split
  all_goals simp [hw, Dev.wf_writeLine]

theorem Dev.wf_lookup (d : Dev) (p : Nat) (bs : List Byte) (hw : Memory.wf d.mem = true) : Memory.wf (d.lookup p bs).2.mem = true := by
  have hwalk := Dev.walk_mem
  have hfrag := Dev.wf_fragLookup
  have htables := Dev.tables_mem
  have hdef : Dev.lookup = Dev.lookup := rfl
  conv at hdef => rhs; delta Dev.lookup
  have happ := congrFun (congrFun (congrFun hdef d) p) bs
  clear hdef
  beta_reduce at happ
  rw [happ]
  clear happ
  revert hwalk hfrag htables
  generalize Dev.walk = walk
  generalize Dev.fragLookup = frag
  generalize Dev.tables = tables
  as_aux_lemma =>
    intro hwalk hfrag htables
    have hd : ∀ c w, Memory.wf (walk d c 17 w).2.mem = true := fun c w => by rw [hwalk, hw]
    dsimp only
    iterate 3 refine wf_ite_snd (hd _ _) ?_
    refine wf_ite_snd (wf_ite_snd (hfrag _ _ (hd _ _)) ?_) ?_
    · split
      · exact hfrag _ _ (hd _ _)
      · exact hfrag _ _ (hd _ _)
    · refine wf_ite_snd (wf_ite_snd ?_ ?_) ?_
      all_goals rw [htables, hwalk, hw]

theorem Dev.wf_laneLookup (d : Dev) (p : Nat) (hw : Memory.wf d.mem = true) : Memory.wf (d.laneLookup p).mem = true := by
  unfold Dev.laneLookup
  split <;> simp [hw, Dev.wf_lookup]

theorem Dev.wf_laneLookupAll (d : Dev) (hw : Memory.wf d.mem = true) : Memory.wf d.laneLookupAll.mem = true :=
  wf_foldl _ _ (fun _ p hw => wf_foldl _ _ (fun d _ hw => d.wf_laneLookup p hw) _ hw) d hw

theorem Dev.wf_fragEffect (d : Dev) (r : LookRes) (applied : Nat) (hw : Memory.wf d.mem = true) : Memory.wf (d.fragEffect r applied).mem = true := by
  simp only [Dev.fragEffect]
  repeat' split
  all_goals simp [hw, Dev.wf_fragInsert, Dev.wf_fragRemove]

theorem Dev.wf_classify (d : Dev) (p : Nat) (f : LaneFrame) (r : LookRes) (hw : Memory.wf d.mem = true) :
    Memory.wf (d.classify p f r).mem = true := by
  unfold Dev.classify
  extract_lets d1 d2 d3 d4 d5 d6 a d7
  have h2 : d2.mem = d.mem := by simp only [d2, d1]; split <;> simp
  have h3 : d3.mem = d.mem := by simp only [d3]; split <;> simp [h2]
  have h4 : d4.mem = d.mem := by simp only [d4]; split <;> simp [h3]
  have h6 : d6.mem = d.mem := by simp only [d6]; split <;> simp [h4]
  have h7 : Memory.wf d7.mem = true := Dev.wf_fragEffect _ _ _ (by rw [h6, hw])
  refine wf_ite ?_ (wf_ite ?_ (wf_ite ?_ ?_))
  · simp only [d5, Dev.classDiscard_mem, Dev.fault_mem, Dev.logFirst_mem, h4, hw]
  · simp only [Dev.classDiscard_mem, Dev.parCnt_mem, h7]
  · simp only [Dev.classDiscard_mem, h7]
  · dsimp only
    split <;> exact wf_ite (by simpa using h7) (by simpa using h7)

theorem Dev.wf_saWrite (d : Dev) (s off : Nat) (bs : List Byte) (hw : Memory.wf d.mem = true) : Memory.wf (d.saWrite s off bs).mem = true := by simp [Dev.saWrite, hw, Dev.wf_writeRun]

theorem Dev.wf_zeroiseKeys (d : Dev) (hw : Memory.wf d.mem = true) : Memory.wf (d.zeroiseKeys).mem = true := by simp [Dev.zeroiseKeys, hw, Dev.wf_zeroLines]

theorem Dev.wf_cryExhausted (d : Dev) (p : Nat) (j : CryJob) (e : List Byte) (hw : Memory.wf d.mem = true) : Memory.wf (d.cryExhausted p j e).mem = true := by simp [Dev.cryExhausted, hw, Dev.wf_saWrite]

theorem Dev.wf_crySend (d : Dev) (s : Nat) (e : List Byte) (q : Nat) (counted : Bool) (hw : Memory.wf d.mem = true) : Memory.wf (d.crySend s e q counted).mem = true := by
  simp only [Dev.crySend]
  repeat' split
  all_goals simp [hw, Dev.wf_saWrite]

theorem Dev.wf_cryAccept (d : Dev) (s : Nat) (e : List Byte) (num : Nat) (hw : Memory.wf d.mem = true) : Memory.wf (d.cryAccept s e num).mem = true := by
  simp only [Dev.cryAccept]
  repeat' split
  all_goals simp [hw, Dev.wf_saWrite]

theorem Dev.wf_cryKeyError (d : Dev) (p : Nat) (j : CryJob) (s : Nat) (e : List Byte) (hw : Memory.wf d.mem = true) : Memory.wf (d.cryKeyError p j s e).mem = true := by simp [Dev.cryKeyError, hw, Dev.wf_saWrite]

theorem Dev.wf_espOut (d : Dev) (p : Nat) (j : CryJob) (hw : Memory.wf d.mem = true) : Memory.wf (d.espOut p j).mem = true := by
  grind [Dev.espOut, Dev.wf_cryExhausted, Dev.wf_cryKeyError, Dev.wf_crySend, Dev.wf_rewriteFrame, Dev.cryDrop_mem, Dev.cryEnd_mem, Dev.frameBytes_mem, Dev.inc_mem, Dev.saRead_mem]

theorem Dev.wf_cryPoisonIn (d : Dev) (p : Nat) (j : CryJob) (bs : List Byte) (hw : Memory.wf d.mem = true) : Memory.wf (d.cryPoisonIn p j bs).mem = true := by
  grind [Dev.cryPoisonIn, Dev.wf_rewriteFrame, Dev.cryEnd_mem, Dev.inc_mem]

theorem Dev.wf_espIn (d : Dev) (p : Nat) (j : CryJob) (hw : Memory.wf d.mem = true) : Memory.wf (d.espIn p j).mem = true := by
  unfold Dev.espIn
  dsimp only
  refine wf_ite (by simpa using hw) (wf_ite (Dev.wf_cryPoisonIn _ _ _ _ (by simpa using hw)) ?_)
  iterate 5 refine wf_ite (by simpa using hw) ?_
  refine wf_ite (Dev.wf_cryKeyError _ _ _ _ _ (by simpa using hw)) ?_
  split
  · simpa using hw
  iterate 2 refine wf_ite (by simpa using hw) ?_
  split
  · exact hw
  next f d' hf =>
    have hd' : ∀ e n, Memory.wf (d'.cryAccept j.sa e n).mem = true := fun e n =>
      Dev.wf_cryAccept d' j.sa e n (Dev.wf_rewriteFrame _ d' _ _ _ _ _ hf (by simpa using hw))
    simp only [Dev.cryEnd_mem, Dev.inc_mem]
    refine wf_ite (wf_ite ?_ (Dev.wf_saWrite _ _ _ _ (hd' _ _))) (hd' _ _)
    rw [Dev.cryLog_mem]
    exact Dev.wf_saWrite _ _ _ _ (hd' _ _)

theorem Dev.wf_macsecTx (d : Dev) (p : Nat) (j : CryJob) (hw : Memory.wf d.mem = true) : Memory.wf (d.macsecTx p j).mem = true := by
  grind [Dev.macsecTx, Dev.wf_cryExhausted, Dev.wf_cryKeyError, Dev.wf_crySend, Dev.wf_rewriteFrame, Dev.cryDrop_mem, Dev.cryEnd_mem, Dev.frameBytes_mem, Dev.inc_mem, Dev.saRead_mem]

theorem Dev.wf_macsecRx (d : Dev) (p : Nat) (j : CryJob) (hw : Memory.wf d.mem = true) : Memory.wf (d.macsecRx p j).mem = true := by
  grind [Dev.macsecRx, Dev.wf_cryAccept, Dev.wf_cryKeyError, Dev.wf_cryPoisonIn, Dev.wf_rewriteFrame, Dev.cryDrop_mem, Dev.cryEnd_mem, Dev.frameBytes_mem, Dev.inc_mem, Dev.saRead_mem]

theorem Dev.wf_saInstallDone (o : Otp) (d : Dev) (s : Nat) (hw : Memory.wf d.mem = true) : Memory.wf (Dev.saInstallDone o d s).mem = true := by
  simp only [Dev.saInstallDone]
  repeat' split
  all_goals simp [hw, Dev.wf_writeLine]

theorem Dev.wf_saUpdateDone (d : Dev) (s : Nat) (hw : Memory.wf d.mem = true) : Memory.wf (d.saUpdateDone s).mem = true := by
  simp only [Dev.saUpdateDone]
  repeat' split
  all_goals simp [hw, Dev.wf_saWrite, Dev.wf_writeLine]

theorem Dev.wf_loadUndo (d : Dev) (ld : Load) (hw : Memory.wf d.mem = true) : Memory.wf (d.loadUndo ld).mem = true := by
  unfold Dev.loadUndo
  split <;> simp [hw, Dev.wf_zeroLines]

theorem Dev.wf_pass2Start (d : Dev) (ld : Load) (hw : Memory.wf d.mem = true) : Memory.wf (d.pass2Start ld).mem = true := by
  grind [Dev.pass2Start, Dev.wf_zeroLines, Dev.wf_zeroiseKeys, Dev.wr_mem]

theorem Dev.wf_putLines (d : Dev) (l n : Nat) (bs : List Byte) (hw : Memory.wf d.mem = true) : Memory.wf (d.putLines l n bs).mem = true := by simp [Dev.putLines, hw, Dev.wf_store, Dev.wf_zeroLines]

theorem Dev.wf_storeOvl (d : Dev) (o : Ovl) (bs : List Byte) (eph : Option (List Byte)) (hw : Memory.wf d.mem = true) : Memory.wf (d.storeOvl o bs eph).mem = true := by
  unfold Dev.storeOvl
  split <;> simp [hw, Dev.wf_putLines]

theorem Dev.wf_applyOvls (d : Dev) (ld : Load) (im : List Byte) (hw : Memory.wf d.mem = true) : Memory.wf (d.applyOvls ld im).mem = true := by
  unfold Dev.applyOvls
  refine wf_foldl _ _ (fun d x hw => ?_) _ ?_
  all_goals repeat' split
  all_goals simp [hw, Dev.wf_storeOvl]

theorem Dev.wf_applyFull (d : Dev) (ld : Load) (im : List Byte) (hw : Memory.wf d.mem = true) : Memory.wf (d.applyFull ld im).mem = true := by
  unfold Dev.applyFull
  simp only [Dev.afterConfig_mem, Dev.wr_mem]
  refine wf_foldl _ _ (fun d p hw => d.wf_putLines _ _ _ hw) _ (Dev.wf_putLines _ _ _ _ (wf_foldl _ _ (fun d c hw => d.wf_store _ _ hw) _ ?_))
  exact Memory.wf_filter _ _ (Dev.wf_zeroLines _ _ _ hw)

theorem Dev.wf_pass2 (d : Dev) (ld : Load) (image : List Byte) (hw : Memory.wf d.mem = true) : Memory.wf (d.pass2 ld image).mem = true := by
  grind [Dev.pass2, Dev.wf_applyFull, Dev.wf_applyOvls, Dev.wf_loadUndo, Dev.loadDone_mem, Dev.loadEnd_mem]

theorem Dev.wf_nvtEmit (d : Dev) (c seq flags : Nat) (opts payload : List Byte) (poison : Bool) (hw : Memory.wf d.mem = true) : Memory.wf (d.nvtEmit c seq flags opts payload poison).mem = true := by
  grind [Dev.nvtEmit, Dev.wf_newFrame, Dev.count_mem, Dev.nvtCnt_mem, Dev.segment_mem, Dev.toClass_mem]

theorem Dev.wf_nvtAck (d : Dev) (c : Nat) (hw : Memory.wf d.mem = true) : Memory.wf (d.nvtAck c).mem = true := by simp [Dev.nvtAck, hw, Dev.wf_nvtEmit]

theorem Dev.wf_nvtRst (d : Dev) (c : Nat) (hw : Memory.wf d.mem = true) : Memory.wf (d.nvtRst c).mem = true := by simp [Dev.nvtRst, hw, Dev.wf_nvtEmit]

theorem Dev.wf_bufPut (d : Dev) (c : Nat) (bs : List Byte) (hw : Memory.wf d.mem = true) : Memory.wf (d.bufPut c bs).mem = true := by simp [Dev.bufPut, hw, Dev.wf_writeRun]

theorem Dev.wf_nvtFill (c : Nat) : ∀ (fuel : Nat) (d : Dev), Memory.wf d.mem = true → Memory.wf (d.nvtFill c fuel).mem = true
  | 0, _, hw => hw
  | fuel + 1, d, hw => by
    unfold Dev.nvtFill
    dsimp only
    split
    · exact hw
    next p ps _ =>
      have hput : ∀ bs, Memory.wf (if bs = [] then d else d.bufPut c bs).mem = true := fun bs => by
        split
        · exact hw
        · exact d.wf_bufPut c bs hw
      split
      · refine Dev.wf_nvtFill c fuel _ ?_
        split
        · simpa only [Dev.modConn_mem, Dev.vatFree_mem, Dev.nvtCnt_mem] using hput _
        · simpa only [Dev.modConn_mem, Dev.vatFree_mem] using hput _
      · exact hput _

theorem Dev.wf_nvtSend (c : Nat) : ∀ (fuel : Nat) (d : Dev), Memory.wf d.mem = true → Memory.wf (d.nvtSend c fuel).mem = true
  | 0, _, hw => hw
  | fuel + 1, d, hw => by
    unfold Dev.nvtSend
    dsimp only
    split
    · exact hw
    · refine Dev.wf_nvtSend c fuel _ ?_
      rw [Dev.modConn_mem]
      exact Dev.wf_nvtEmit _ _ _ _ _ _ _ (by simpa using hw)

theorem Dev.wf_nvtPump (d : Dev) (c : Nat) (hw : Memory.wf d.mem = true) : Memory.wf (d.nvtPump c).mem = true := by
  unfold Dev.nvtPump
  refine wf_ite ?_ hw
  apply Dev.wf_nvtSend
  apply Dev.wf_nvtFill
  exact hw

theorem Dev.wf_nvtPdu (d : Dev) (c : Nat) (p : NvtPdu) (hw : Memory.wf d.mem = true) : Memory.wf (d.nvtPdu c p).mem = true := by simp [Dev.nvtPdu, hw, Dev.wf_nvtPump]

theorem Dev.wf_quarLeg (d : Dev) (m : NvtCmd) (leg status : Nat) (hw : Memory.wf d.mem = true) : Memory.wf (d.quarLeg m leg status).mem = true := by
  simp only [Dev.quarLeg]
  repeat' split
  all_goals simp [hw, Dev.wf_nvtPump]

theorem Dev.wf_nvtTimeout (d : Dev) (m : NvtCmd) (hw : Memory.wf d.mem = true) : Memory.wf (d.nvtTimeout m).mem = true := by
  unfold Dev.nvtTimeout
  split
  · exact hw
  · exact wf_foldl _ _ (fun d i hw => d.wf_quarLeg _ _ _ hw) _ (by simpa using hw)

theorem Dev.wf_nvtTimers (d : Dev) (hw : Memory.wf d.mem = true) : Memory.wf (d.nvtTimers).mem = true := by
  unfold Dev.nvtTimers
  refine wf_foldl _ _ (fun d x hw => ?_) _ ?_
  all_goals simp [hw, Dev.wf_nvtTimeout]

theorem Dev.wf_termReq (d : Dev) (c err : Nat) (hw : Memory.wf d.mem = true) : Memory.wf (d.termReq c err).mem = true := by simp [Dev.termReq, hw, Dev.wf_nvtEmit]

theorem Dev.wf_nvtSyn (d : Dev) (c : Nat) (hw : Memory.wf d.mem = true) : Memory.wf (d.nvtSyn c).mem = true := by simp [Dev.nvtSyn, hw, Dev.wf_nvtEmit]

theorem Dev.wf_nvtAbort (d : Dev) (c : Nat) (hw : Memory.wf d.mem = true) : Memory.wf (d.nvtAbort c).mem = true := by
  unfold Dev.nvtAbort
  split <;> simp [hw, Dev.wf_nvtRst]

theorem Dev.wf_nvtResend (d : Dev) (c : Nat) (hw : Memory.wf d.mem = true) : Memory.wf (d.nvtResend c).mem = true := by
  simp only [Dev.nvtResend]
  repeat' split
  all_goals simp [hw, Dev.wf_nvtEmit, Dev.wf_nvtSyn]

theorem Dev.wf_nvtDup (d : Dev) (c : Nat) (hw : Memory.wf d.mem = true) : Memory.wf (d.nvtDup c).mem = true := by
  simp only [Dev.nvtDup]
  repeat' split
  all_goals simp [hw, Dev.wf_nvtResend]

theorem Dev.wf_nvtSynAck (d : Dev) (c : Nat) (seg : List Byte) (hw : Memory.wf d.mem = true) : Memory.wf (d.nvtSynAck c seg).mem = true := by simp [Dev.nvtSynAck, hw, Dev.wf_nvtAck, Dev.wf_nvtPdu]

theorem Dev.wf_nvtSegment (d : Dev) (c : Nat) (seg : List Byte) (hw : Memory.wf d.mem = true) : Memory.wf (d.nvtSegment c seg).mem = true := by
  have hcnt : ∀ k, Memory.wf (d.nvtCnt k).mem = true := by simpa using hw
  unfold Dev.nvtSegment
  dsimp only
  refine wf_ite (hcnt 2) (wf_ite (by simpa using hw) (wf_ite (wf_ite ?_ (hcnt 2)) (wf_ite ?_ (Dev.wf_nvtPump _ _ ?_))))
  · exact Dev.wf_nvtSynAck _ _ _ (hcnt 2)
  · exact Dev.wf_nvtAck _ _ (by simpa using hw)
  · have hacks : ∀ (p q r : Prop) [Decidable p] [Decidable q] [Decidable r] (k : Nat), Memory.wf (if p then d.nvtCnt 2
        else if q then (d.nvtCnt 2).nvtAcked c k else if r then (d.nvtCnt 2).nvtDup c else d.nvtCnt 2).mem = true := fun p q r _ _ _ k =>
      wf_ite (hcnt 2) (wf_ite (by simpa using hw) (wf_ite (Dev.wf_nvtDup _ _ (hcnt 2)) (hcnt 2)))
    refine wf_ite ?_ (Dev.wf_nvtAck _ _ ?_)
    · rw [Dev.modConn_mem]
      exact hacks _ _ _ _
    · rw [Dev.modConn_mem]
      exact hacks _ _ _ _

theorem Dev.wf_nvtTake (d : Dev) (p : List Byte → Nat → Bool) (hw : Memory.wf d.mem = true) : Memory.wf (d.nvtTake p).mem = true := by
  simp only [Dev.nvtTake]
  repeat' split
  all_goals simp [hw, Dev.wf_nvtSegment, Dev.wf_nvtTimers]

theorem Dev.wf_nvtHead (d : Dev) (c type : Nat) (f : Dev → List Byte → Nat → Dev)
    (hf : ∀ e bs k, Memory.wf e.mem = true → Memory.wf (f e bs k).mem = true) (hw : Memory.wf d.mem = true) :
    Memory.wf (d.nvtHead c type f).mem = true := by
  unfold Dev.nvtHead
  dsimp only
  repeat' split
  · exact hw
  · exact d.wf_termReq _ _ hw
  · exact hf _ _ _ hw
  · exact hw
  · exact d.wf_termReq _ _ hw
  · exact hf _ _ _ hw

theorem Dev.wf_sqeArrived (d : Dev) (ser : Nat) (sqe : List Byte) (hw : Memory.wf d.mem = true) : Memory.wf (d.sqeArrived ser sqe).mem = true := by
  unfold Dev.sqeArrived
  split
  · exact hw
  · refine wf_foldl _ _ (fun d i hw => ?_) _ (by simpa using hw)
    split
    · split
      · exact d.wf_nvtPdu _ _ hw
      · exact hw
    · exact hw

theorem Dev.wf_sdataArrived (d : Dev) (ser leg off : Nat) (bytes : List (Option Byte)) (lines : List Nat) (status : Option Nat) (hw : Memory.wf d.mem = true) : Memory.wf (d.sdataArrived ser leg off bytes lines status).mem = true := by
  simp only [Dev.sdataArrived]
  repeat' split
  all_goals simp [hw, Dev.wf_nvtPump]

theorem Dev.wf_nvtStopRing (d : Dev) (n : Nat) (hw : Memory.wf d.mem = true) : Memory.wf (d.nvtStopRing n).mem = true :=
  wf_foldl _ _ (fun d _ hw => wf_foldl _ _ (fun d _ hw => d.wf_quarLeg _ _ _ hw) _ (by simpa using hw)) d hw

theorem Dev.wf_payArrived (d : Dev) (n ser off : Nat) (bs : List PByte) (hw : Memory.wf d.mem = true) : Memory.wf (d.payArrived n ser off bs).mem = true := by
  simp only [Dev.payArrived]
  repeat' split
  all_goals simp [hw, Dev.wf_putMarked]

theorem Dev.wf_sqReset (d : Dev) (n : Nat) (hw : Memory.wf d.mem = true) : Memory.wf (d.sqReset n).mem = true := by
  have hdrop : ∀ (fs : List Frame) (e : Dev), (fs.foldl Dev.dropFrame e).mem = e.mem := fun fs => foldl_mem fs _ (fun d f => d.dropFrame_mem f)
  simp only [Dev.sqReset]
  refine wf_ite (Dev.wf_nvtStopRing _ _ ?_) ?_ <;> simp [hdrop, Dev.mem_ite, hw]

theorem Dev.wf_ringsReset (d : Dev) (f : Nat) (hw : Memory.wf d.mem = true) : Memory.wf (d.ringsReset f).mem = true := by
  refine wf_foldl _ _ (fun d c hw => ?_) _ (wf_foldl _ _ (fun d n hw => ?_) _ hw)
  · split <;> simpa using hw
  · split
    · exact d.wf_sqReset n hw
    · exact hw

theorem Dev.wf_rpReads (rp w a len : Nat) (vat : Option Nat) (mk : Nat → RpClient) : ∀ (ps : List (Nat × Nat)) (d e : Dev),
    d.rpReads rp w a len vat mk ps = some e → Memory.wf d.mem = true → Memory.wf e.mem = true
  | [], d, e, h, hw => by
    injection h with h
    exact h ▸ hw
  | (o, n) :: ps, d, e, h, hw => by
    unfold Dev.rpReads at h
    dsimp only at h
    split at h
    · cases h
    split at h
    · cases h
    next ls d' hv =>
      refine Dev.wf_rpReads rp w a len vat mk ps _ e h ?_
      have hd' : Memory.wf d'.mem = true := by
        split at hv
        · exact Dev.wf_vatTake d _ _ _ hv hw
        · cases hv
          exact hw
      simpa using hd'

theorem Dev.wf_inbIssue (d : Dev) (rp : Nat) (q : Inb) (e : Dev) (h : d.inbIssue rp q = some e) (hw : Memory.wf d.mem = true) : Memory.wf e.mem = true := by
  grind [Dev.inbIssue, Dev.wf_hostRead, Dev.hostWrite_mem, Dev.readMarked_mem, Dev.vatFree_mem]

theorem Dev.wf_drainRp (rp : Nat) : ∀ (qs : List Inb) (d : Dev) (stuck : List Nat),
    Memory.wf d.mem = true → Memory.wf (d.drainRp rp stuck qs).mem = true
  | [], _, _, hw => hw
  | q :: qs, d, stuck, hw => by
    unfold Dev.drainRp
    dsimp only
    split
    · exact Dev.wf_drainRp rp qs _ _ hw
    · split
      next d' h => exact Dev.wf_drainRp rp qs d' _ (Dev.wf_inbIssue d _ _ d' h hw)
      · exact Dev.wf_drainRp rp qs _ _ hw

theorem Dev.wf_drainInb (d : Dev) (hw : Memory.wf d.mem = true) : Memory.wf d.drainInb.mem = true := by
  refine wf_foldl _ _ (fun d rp hw => ?_) d hw
  dsimp only
  split
  · exact hw
  · exact Dev.wf_drainRp rp _ _ _ hw

theorem Dev.wf_tchSwap (d : Dev) (t : Nat) (bs : List Byte) (hw : Memory.wf d.mem = true) : Memory.wf (d.tchSwap t bs).mem = true := by
  unfold Dev.tchSwap
  split <;> simp [hw, Dev.wf_writePart]

theorem Dev.wf_tchBoundary (d : Dev) (t : Nat) (hw : Memory.wf d.mem = true) : Memory.wf (d.tchBoundary t).mem = true := by
  simp only [Dev.tchBoundary]
  repeat' split
  all_goals simp [hw, Dev.wf_tchSwap]

theorem Dev.wf_clusterPut (d : Dev) (off : Nat) (bs : List PByte) (hw : Memory.wf d.mem = true) : Memory.wf (d.clusterPut off bs).mem = true := by simp [Dev.clusterPut, hw, Dev.wf_putMarked]

theorem Dev.wf_dstWrite (d : Dev) (f : Nat) (x : Desc) (off : Nat) (bs : List PByte) (hw : Memory.wf d.mem = true) : Memory.wf (d.dstWrite f x off bs).mem = true := by
  simp only [Dev.dstWrite]
  repeat' split
  all_goals simp [hw, Dev.wf_clusterPut]

theorem Dev.wf_chDrain (x : Nat) : ∀ (fuel : Nat) (d : Dev), Memory.wf d.mem = true → Memory.wf (d.chDrain x fuel).mem = true
  | 0, _, hw => hw
  | fuel + 1, d, hw => by
    unfold Dev.chDrain
    split
    · exact hw
    split
    · exact hw
    split
    · exact hw
    refine Dev.wf_chDrain x fuel _ ?_
    simp only [Dev.moved_mem, Dev.vatFree_mem]
    exact Dev.wf_dstWrite _ _ _ _ _ (by simpa using hw)

theorem Dev.wf_chData (d : Dev) (x off n : Nat) (lines : List Nat) (head : Nat) (hw : Memory.wf d.mem = true) :
    Memory.wf (d.chData x off n lines head).mem = true := by
  unfold Dev.chData
  split
  · simpa using hw
  split
  · simpa using hw
  rw [Dev.chAfter_mem]
  exact Dev.wf_chDrain x _ _ (by simpa using hw)

theorem Dev.wf_chTry (d : Dev) (x : Nat) (read : Bool) (e : Dev) (h : d.chTry x read = some e) (hw : Memory.wf d.mem = true) :
    Memory.wf e.mem = true := by
  unfold Dev.chTry at h
  dsimp only at h
  split at h
  · cases h
  next v _ =>
  split at h
  · cases h
  split at h
  · obtain ⟨g, hg, rfl⟩ := Option.map_eq_some_iff.mp h
    have hread : Memory.wf g.mem = true := Dev.wf_hostRead _ _ _ _ _ _ g hg (by simpa using hw)
    split <;> simpa using hread
  split at h
  · split at h
    · cases h
    injection h with h
    subst h
    have hwrite : Memory.wf ((((d.clusterGet (v.desc.src + v.issued) v.nextLen).2.issued x v.nextLen).dstWrite (d.chF x) v.desc v.issued
        (d.clusterGet (v.desc.src + v.issued) v.nextLen).1).mem) = true := Dev.wf_dstWrite _ _ _ _ _ (by simpa using hw)
    split <;> simpa using hwrite
  split at h
  · injection h with h
    subst h
    split <;> simpa using hw
  split at h
  next bs d1 hserve =>
    have h1 : d1.mem = d.mem := Dev.pfServe_mem _ _ _ _ _ _ hserve
    split at h
    · cases h
    next ls d2 hvat =>
      injection h with h
      subst h
      have h2 : Memory.wf d2.mem = true := Dev.wf_vatTake d1 _ _ _ hvat (h1 ▸ hw)
      have hdata : ∀ k a b c l, Memory.wf (((d2.putMarked (ls.map vatLine) k bs).issued x a).chData x b c ls l).mem = true :=
        fun k a b c l => Dev.wf_chData _ _ _ _ _ _ (by simpa using Dev.wf_putMarked _ d2 _ _ h2)
      split
      · rw [Dev.wr_mem]
        exact hdata _ _ _ _ _
      · exact hdata _ _ _ _ _
  next =>
    obtain ⟨g, hg, rfl⟩ := Option.map_eq_some_iff.mp h
    have hread : Memory.wf g.mem = true := Dev.wf_rpReads _ _ _ _ _ _ _ _ g hg (by simpa using hw)
    split <;> simpa using hread

theorem Dev.wf_chIssue (d : Dev) (x : Nat) (read : Bool) (e : Dev) (h : d.chIssue x read = some e) (hw : Memory.wf d.mem = true) : Memory.wf e.mem = true := by
  grind [Dev.chIssue, Dev.wf_chTry]

theorem Dev.wf_llFetch (d : Dev) (c : Nat) (e : Dev) (h : d.llFetch c = some e) (hw : Memory.wf d.mem = true) : Memory.wf e.mem = true := by
  grind [Dev.llFetch, Dev.wf_hostRead1, Dev.clusterGet_mem, Dev.llArrive_mem, Dev.modLl_mem]

theorem Dev.wf_llBack (d : Dev) (c status : Nat) (x : Desc) (hw : Memory.wf d.mem = true) : Memory.wf (d.llBack c status x).mem = true := by
  simp only [Dev.llBack]
  repeat' split
  all_goals simp [hw, Dev.wf_clusterPut]

theorem Dev.wf_payIssue (d : Dev) (n : Nat) (e : Dev) (h : d.payIssue n = some e) (hw : Memory.wf d.mem = true) : Memory.wf e.mem = true := by
  grind [Dev.payIssue, Dev.wf_hostRead1, Dev.wf_newFrame, Dev.modSq_mem]

/-- The first of several attempts that goes through. -/
theorem wf_firstSome (ts : List (Unit → Option Dev)) (hts : ∀ t ∈ ts, ∀ e, t () = some e → Memory.wf e.mem = true) (e : Dev)
    (h : firstSome ts = some e) : Memory.wf e.mem = true := by
  obtain ⟨t, ht, he⟩ := List.exists_of_findSome?_eq_some h
  exact hts t ht e he

theorem Dev.wf_storageIssue (d : Dev) (e : Dev) (h : d.storageIssue = some e) (hw : Memory.wf d.mem = true) : Memory.wf e.mem = true := by
  refine wf_firstSome _ (fun t ht e he => ?_) e h
  rcases List.mem_append.mp ht with ht | ht
  · obtain ⟨m, -, rfl⟩ := List.mem_map.mp ht
    dsimp only at he
    split at he
    · cases he
    · exact Dev.wf_hostRead1 _ _ _ _ _ e he (by simpa using hw)
  · obtain ⟨c, -, ht⟩ := List.mem_flatMap.mp ht
    obtain ⟨p, -, rfl⟩ := List.mem_map.mp ht
    dsimp only at he
    split at he
    · cases he
    · split at he
      · cases he
      · exact Dev.wf_hostRead1 _ _ _ _ _ e he (by simpa using hw)

theorem Dev.wf_chFlush (d : Dev) (x : Nat) (e : Dev) (h : d.chFlush x = some e) (hw : Memory.wf d.mem = true) : Memory.wf e.mem = true := by
  grind [Dev.chFlush, Dev.wf_hostRead1, Dev.wf_hostReadAs, Dev.brgEvent_mem, Dev.chBad_mem, Dev.emit_mem, Dev.modXfer_mem, Dev.moved_mem, Dev.rpAsk_mem]

theorem Dev.wf_storageFlush (d : Dev) (m : NvtCmd) (e : Dev) (h : d.storageFlush m = some e) (hw : Memory.wf d.mem = true) : Memory.wf e.mem = true := by
  grind [Dev.storageFlush, Dev.wf_hostRead1, Dev.wf_hostReadAs, Dev.modCmd_mem]

theorem Dev.wf_reqFailed (d : Dev) (t : Tag) (code : Nat) (hw : Memory.wf d.mem = true) : Memory.wf (d.reqFailed t code).mem = true := by
  simp only [Dev.reqFailed]
  repeat' split
  all_goals simp [hw, Dev.wf_sdataArrived]

theorem Dev.wf_timeoutTag (d : Dev) (t : Tag) (hw : Memory.wf d.mem = true) : Memory.wf (d.timeoutTag t).mem = true := by simp [Dev.timeoutTag, hw, Dev.wf_reqFailed]

theorem Dev.wf_tagTimers (d : Dev) (hw : Memory.wf d.mem = true) : Memory.wf (d.tagTimers).mem = true := by
  unfold Dev.tagTimers
  refine wf_foldl _ _ (fun d x hw => ?_) _ ?_
  all_goals repeat' split
  all_goals simp [hw, Dev.wf_timeoutTag]

theorem Dev.wf_reqDone (d : Dev) (t : Tag) (hw : Memory.wf d.mem = true) : Memory.wf (d.reqDone t).mem = true := by
  simp only [Dev.reqDone]
  repeat' split
  all_goals simp [hw, Dev.wf_chData, Dev.wf_payArrived, Dev.wf_sdataArrived, Dev.wf_sqeArrived]

theorem Dev.wf_malformedCpl (d : Dev) (t : Tag) (hw : Memory.wf d.mem = true) : Memory.wf (d.malformedCpl t).mem = true := by simp [Dev.malformedCpl, hw, Dev.wf_reqFailed]

theorem Dev.wf_cplData (d : Dev) (t : Tag) (ep : Bool) (data : List Byte) (hw : Memory.wf d.mem = true) : Memory.wf (d.cplData t ep data).mem = true := by
  simp only [Dev.cplData]
  repeat' split
  all_goals simp [hw, Dev.wf_putMarked, Dev.wf_reqDone]

theorem Dev.wf_apTry (d : Dev) (a : ApWait) (e : Dev) (h : d.apTry a = some e) (hw : Memory.wf d.mem = true) : Memory.wf e.mem = true := by
  unfold Dev.apTry at h
  dsimp only at h
  split at h
  · split at h
    · injection h with h
      subst h
      simpa [Dev.mem_ite] using hw
    · split at h
      · cases h
      · injection h with h
        subst h
        simpa using hw
  split at h
  · cases h
  split at h
  · injection h with h
    subst h
    simpa [Dev.mem_ite] using hw
  split at h
  · injection h with h
    subst h
    simpa using hw
  split at h
  · injection h with h
    subst h
    simpa using hw
  split at h
  next bs d1 hserve =>
    injection h with h
    subst h
    have h1 : d1.mem = d.mem := Dev.pfServe_mem _ _ _ _ _ _ hserve
    simpa [h1] using hw
  · exact Dev.wf_rpReads _ _ _ _ _ _ _ _ e h hw

theorem Dev.wf_apDrainList : ∀ (es : List ApWait) (d : Dev) (stuck : List Nat),
    Memory.wf d.mem = true → Memory.wf (d.apDrainList stuck es).mem = true
  | [], _, _, hw => hw
  | e :: es, d, stuck, hw => by
    unfold Dev.apDrainList
    dsimp only
    split
    · exact Dev.wf_apDrainList es _ _ hw
    · split
      next d' h => exact Dev.wf_apDrainList es d' _ (Dev.wf_apTry d e d' h hw)
      · exact Dev.wf_apDrainList es _ _ hw

theorem Dev.wf_apDrain (d : Dev) (hw : Memory.wf d.mem = true) : Memory.wf d.apDrain.mem = true := Dev.wf_apDrainList _ _ _ hw

theorem Dev.wf_apAccess (d : Dev) (e : ApWait) (hw : Memory.wf d.mem = true) : Memory.wf (d.apAccess e).mem = true := by simp [Dev.apAccess, hw, Dev.wf_apDrain]

theorem Dev.wf_cfgAccess (d : Dev) (rp : Nat) (write : Bool) (bytes : List Byte) (hw : Memory.wf d.mem = true) : Memory.wf (d.cfgAccess rp write bytes).mem = true := by
  simp only [Dev.cfgAccess]
  repeat' split
  all_goals simp [hw, Dev.wf_apAccess]

theorem Dev.wf_rpDone (d : Dev) (rp : Nat) (t : RpTag) (hw : Memory.wf d.mem = true) : Memory.wf (d.rpDone rp t).mem = true := by
  unfold Dev.rpDone
  split <;> simp [hw, Dev.wf_chData, Dev.wf_putMarked]

theorem Dev.wf_inbForward (d : Dev) (rp : Nat) (q : Inb) (hw : Memory.wf d.mem = true) : Memory.wf (d.inbForward rp q).mem = true := by
  unfold Dev.inbForward
  dsimp only
  split
  next e h =>
    split at h
    · cases h
    · exact Dev.wf_inbIssue d _ _ e h hw
  · split
    · split
      · exact hw
      next ls d' hv => exact Dev.wf_putMarked _ _ _ _ (Dev.wf_vatTake d _ _ _ hv hw)
    · exact hw

theorem Dev.wf_modemRequest (d : Dev) (rp : Nat) (write ep : Bool) (addr tag len : Nat) (bytes : List Byte) (hw : Memory.wf d.mem = true) : Memory.wf (d.modemRequest rp write ep addr tag len bytes).mem = true := by
  simp only [Dev.modemRequest]
  repeat' split
  all_goals simp [hw, Dev.wf_inbForward]

theorem Dev.wf_scanStep (d : Dev) (p budget lost : Nat) (measured : List Byte) (hw : Memory.wf d.mem = true) : Memory.wf (d.scanStep p budget lost measured).mem = true := by
  simp only [Dev.scanStep]
  repeat' split
  all_goals simp [hw, Dev.wf_almAccept]

theorem Dev.wf_delayStep (d : Dev) (e lost : Nat) (full : Bool) (measured : List Byte) (hw : Memory.wf d.mem = true) : Memory.wf (d.delayStep e lost full measured).mem = true := by
  simp only [Dev.delayStep]
  repeat' split
  all_goals simp [hw, Dev.wf_almAccept]

theorem Dev.wf_commit (d : Dev) (o : OpenF) (r : _) (h : d.commit o = some r) (hw : Memory.wf d.mem = true) : Memory.wf r.2.mem = true := by
  unfold Dev.commit at h
  dsimp only at h
  split at h
  · cases h
  next ls d' ha =>
    injection h with h
    subst h
    refine wf_foldl _ _ (fun d j hw => ?_) _ (by rw [Dev.alloc_mem d d' _ _ _ _ ha]; exact hw)
    repeat' split
    · exact hw
    · exact d.wf_writeLine _ _ _ hw
    · exact d.wf_writePart _ _ _ _ hw

theorem Dev.wf_clusterWrite (d : Dev) (s : SbEnt) (hw : Memory.wf d.mem = true) : Memory.wf (d.clusterWrite s).mem = true := by simp [Dev.clusterWrite, hw, Dev.wf_writePart]

theorem Dev.wf_sbPop (d : Dev) (e : Nat) (hw : Memory.wf d.mem = true) : Memory.wf (d.sbPop e).mem = true := by
  unfold Dev.sbPop
  split <;> simp [hw, Dev.wf_clusterWrite]

theorem Dev.wf_drain (d : Dev) (e : Nat) (hw : Memory.wf d.mem = true) : Memory.wf (d.drain e).mem = true := by
  unfold Dev.drain
  refine wf_foldl _ _ (fun d x hw => ?_) _ ?_
  all_goals simp [hw, Dev.wf_sbPop]

theorem Dev.wf_sbPush (d : Dev) (e : Nat) (s : SbEnt) (hw : Memory.wf d.mem = true) : Memory.wf (d.sbPush e s).mem = true := by
  unfold Dev.sbPush
  split <;> simp [hw, Dev.wf_sbPop]

theorem Dev.wf_raise (d : Dev) (e code addr : Nat) (hw : Memory.wf d.mem = true) : Memory.wf (d.raise e code addr).mem = true := by
  simp only [Dev.raise]
  repeat' split
  all_goals simp [hw, Dev.wf_drain]

theorem Dev.wf_mismatch (d : Dev) (e : Nat) (hw : Memory.wf d.mem = true) : Memory.wf (d.mismatch e).2.mem = true := by
  have hdrop : ∀ (fs : List Frame) (e : Dev), (fs.foldl Dev.discard e).mem = e.mem := fun fs => foldl_mem fs _ (fun d f => d.discard_mem f)
  simp only [Dev.mismatch]
  split
  · simpa using hw
  · simp only [Dev.fault_mem, Dev.setEngState_mem, Dev.engEnd_mem, hdrop]
    exact Dev.wf_drain _ _ (by simpa using hw)

theorem Dev.wf_engCut (d : Dev) (e : Nat) (hw : Memory.wf d.mem = true) : Memory.wf (d.engCut e).mem = true := by
  simp only [Dev.engCut]
  repeat' split
  all_goals simp [hw, Dev.wf_drain]

theorem Dev.wf_preempt (d : Dev) (e : Nat) (hw : Memory.wf d.mem = true) : Memory.wf (d.preempt e).mem = true := by
  simp only [Dev.preempt]
  repeat' split
  all_goals simp [hw, Dev.wf_drain]

theorem Dev.wf_load (d : Dev) (e n : Nat) (rd rs1 : Fin 32) (imm : BitVec 16) (hw : Memory.wf d.mem = true) : Memory.wf (d.load e n rd rs1 imm).mem = true := by
  simp only [Dev.load]
  repeat' split
  all_goals simp [hw, Dev.wf_raise]

theorem Dev.wf_storeBytes (d : Dev) (e a : Nat) (bs : List Byte) (poison : Bool) (hw : Memory.wf d.mem = true) : Memory.wf (d.storeBytes e a bs poison).mem = true := by
  unfold Dev.storeBytes
  split <;> simp [hw, Dev.wf_sbPush, Dev.wf_writePart]

theorem Dev.wf_storeOp (d : Dev) (e n : Nat) (rs2 rs1 : Fin 32) (imm : BitVec 16) (hw : Memory.wf d.mem = true) : Memory.wf (d.storeOp e n rs2 rs1 imm).mem = true := by
  simp only [Dev.storeOp]
  repeat' split
  all_goals simp [hw, Dev.wf_raise, Dev.wf_storeBytes]

theorem Dev.wf_atomic (d : Dev) (e : Nat) (rd rs1 : Fin 32) (f : WReg → Option WReg) (extra : Bool) (hw : Memory.wf d.mem = true) : Memory.wf (d.atomic e rd rs1 f extra).mem = true := by
  simp only [Dev.atomic]
  repeat' split
  all_goals simp [hw, Dev.wf_clusterWrite, Dev.wf_drain, Dev.wf_raise]

theorem Dev.wf_dispose (d : Dev) (e : Nat) (rd : Fin 32) (ops : List WReg) (check : Dev → OpenF → Dev × Option Nat)
    (accept : Dev → Frame → Nat × Dev) (hc : ∀ e o, Memory.wf e.mem = true → Memory.wf (check e o).1.mem = true)
    (ha : ∀ e f, Memory.wf e.mem = true → Memory.wf (accept e f).2.mem = true) (hw : Memory.wf d.mem = true) :
    Memory.wf (d.dispose e rd ops check accept).mem = true := by
  unfold Dev.dispose
  split
  · exact d.wf_raise _ _ _ hw
  split
  · exact d.wf_raise _ _ _ hw
  next o _ =>
    have hcheck := hc _ o (d.wf_drain e hw)
    dsimp only
    split
    · simpa using hcheck
    split
    · simpa using hcheck
    next f d' hcommit =>
      have hd' := Dev.wf_commit _ o _ hcommit hcheck
      simpa using ha (d'.nextOpen e) f (by simpa using hd')

theorem Dev.wf_copyFrame (d : Dev) (f : Frame) (r : _) (h : d.copyFrame f = some r) (hw : Memory.wf d.mem = true) :
    Memory.wf r.2.mem = true := by
  unfold Dev.copyFrame at h
  split at h
  · cases h
  next ls d' ha =>
    injection h with h
    subst h
    simp only
    exact wf_foldl _ _ (fun d x hw => Dev.wf_writeLine _ _ _ _ (by simpa using hw)) _ (by rw [Dev.alloc_mem d d' _ _ _ _ ha]; exact hw)

theorem Dev.wf_delivAccept (d : Dev) (a : Nat) (f : Frame) (hw : Memory.wf d.mem = true) : Memory.wf (d.delivAccept a f).2.mem = true := by
  unfold Dev.delivAccept
  dsimp only
  split
  next n ls d' _ hv =>
    have hd' := Dev.wf_vatTake d _ _ _ hv hw
    simp only [Dev.dropFrame_mem, Dev.originEnd_mem, Dev.modSq_mem]
    exact wf_foldl _ _ (fun d x hw => Dev.wf_writeLine _ _ _ _ (by simpa using hw)) _ (by simpa using hd')
  · exact hw

theorem Dev.wf_takeFrame (d : Dev) (e : Nat) (rd : Fin 32) (hw : Memory.wf d.mem = true) : Memory.wf (d.takeFrame e rd).mem = true := by
  simp only [Dev.takeFrame]
  repeat' split
  all_goals simp [hw, Dev.wf_crossFrame, Dev.wf_raise]

theorem Dev.wf_openD2 (d : Dev) (hw : Memory.wf d.mem = true) : Memory.wf (d.openD2).mem = true := by simp [Dev.openD2, hw, Dev.wf_zeroiseKeys]

theorem Dev.wf_acceptToken (d : Dev) (level : Nat) (hw : Memory.wf d.mem = true) : Memory.wf (d.acceptToken level).mem = true := by
  simp only [Dev.acceptToken]
  repeat' split
  all_goals simp [hw, Dev.wf_openD2]

theorem Dev.wf_branch (d : Dev) (e : Nat) (a b : Rn) (off : BitVec 16) (c : BitVec 64 → BitVec 64 → Bool) (hw : Memory.wf d.mem = true) : Memory.wf (d.branch e a b off c).mem = true := by
  simp only [Dev.branch]
  repeat' split
  all_goals simp [hw, Dev.wf_raise]

theorem Dev.wf_doBrEq (d : Dev) (e : Nat) (a b : Rn) (o : BitVec 16) (hw : Memory.wf d.mem = true) : Memory.wf (d.doBrEq e a b o).mem = true := by simp [Dev.doBrEq, hw, Dev.wf_branch]

theorem Dev.wf_doBrNe (d : Dev) (e : Nat) (a b : Rn) (o : BitVec 16) (hw : Memory.wf d.mem = true) : Memory.wf (d.doBrNe e a b o).mem = true := by simp [Dev.doBrNe, hw, Dev.wf_branch]

theorem Dev.wf_doBrLt (d : Dev) (e : Nat) (a b : Rn) (o : BitVec 16) (hw : Memory.wf d.mem = true) : Memory.wf (d.doBrLt e a b o).mem = true := by simp [Dev.doBrLt, hw, Dev.wf_branch]

theorem Dev.wf_doBrGe (d : Dev) (e : Nat) (a b : Rn) (o : BitVec 16) (hw : Memory.wf d.mem = true) : Memory.wf (d.doBrGe e a b o).mem = true := by simp [Dev.doBrGe, hw, Dev.wf_branch]

theorem Dev.wf_doBrUlt (d : Dev) (e : Nat) (a b : Rn) (o : BitVec 16) (hw : Memory.wf d.mem = true) : Memory.wf (d.doBrUlt e a b o).mem = true := by simp [Dev.doBrUlt, hw, Dev.wf_branch]

theorem Dev.wf_doBrUge (d : Dev) (e : Nat) (a b : Rn) (o : BitVec 16) (hw : Memory.wf d.mem = true) : Memory.wf (d.doBrUge e a b o).mem = true := by simp [Dev.doBrUge, hw, Dev.wf_branch]

theorem Dev.wf_doJlinkr (d : Dev) (e : Nat) (rd a : Rn) (i : BitVec 16) (hw : Memory.wf d.mem = true) : Memory.wf (d.doJlinkr e rd a i).mem = true := by
  simp only [Dev.doJlinkr]
  repeat' split
  all_goals simp [hw, Dev.wf_raise]

theorem Dev.wf_doLdb (d : Dev) (e : Nat) (rd a : Rn) (i : BitVec 16) (hw : Memory.wf d.mem = true) : Memory.wf (d.doLdb e rd a i).mem = true := by simp [Dev.doLdb, hw, Dev.wf_load]

theorem Dev.wf_doLdh (d : Dev) (e : Nat) (rd a : Rn) (i : BitVec 16) (hw : Memory.wf d.mem = true) : Memory.wf (d.doLdh e rd a i).mem = true := by simp [Dev.doLdh, hw, Dev.wf_load]

theorem Dev.wf_doLdw (d : Dev) (e : Nat) (rd a : Rn) (i : BitVec 16) (hw : Memory.wf d.mem = true) : Memory.wf (d.doLdw e rd a i).mem = true := by simp [Dev.doLdw, hw, Dev.wf_load]

theorem Dev.wf_doLdd (d : Dev) (e : Nat) (rd a : Rn) (i : BitVec 16) (hw : Memory.wf d.mem = true) : Memory.wf (d.doLdd e rd a i).mem = true := by simp [Dev.doLdd, hw, Dev.wf_load]

theorem Dev.wf_doStb (d : Dev) (e : Nat) (b a : Rn) (i : BitVec 16) (hw : Memory.wf d.mem = true) : Memory.wf (d.doStb e b a i).mem = true := by simp [Dev.doStb, hw, Dev.wf_storeOp]

theorem Dev.wf_doSth (d : Dev) (e : Nat) (b a : Rn) (i : BitVec 16) (hw : Memory.wf d.mem = true) : Memory.wf (d.doSth e b a i).mem = true := by simp [Dev.doSth, hw, Dev.wf_storeOp]

theorem Dev.wf_doStw (d : Dev) (e : Nat) (b a : Rn) (i : BitVec 16) (hw : Memory.wf d.mem = true) : Memory.wf (d.doStw e b a i).mem = true := by simp [Dev.doStw, hw, Dev.wf_storeOp]

theorem Dev.wf_doStd (d : Dev) (e : Nat) (b a : Rn) (i : BitVec 16) (hw : Memory.wf d.mem = true) : Memory.wf (d.doStd e b a i).mem = true := by simp [Dev.doStd, hw, Dev.wf_storeOp]

theorem Dev.wf_doAtomAdd (d : Dev) (e : Nat) (rd a b : Rn) (hw : Memory.wf d.mem = true) : Memory.wf (d.doAtomAdd e rd a b).mem = true := by simp [Dev.doAtomAdd, hw, Dev.wf_atomic]

theorem Dev.wf_doAtomXch (d : Dev) (e : Nat) (rd a b : Rn) (hw : Memory.wf d.mem = true) : Memory.wf (d.doAtomXch e rd a b).mem = true := by simp [Dev.doAtomXch, hw, Dev.wf_atomic]

theorem Dev.wf_doAtomCas (d : Dev) (e : Nat) (rd a b : Rn) (hw : Memory.wf d.mem = true) : Memory.wf (d.doAtomCas e rd a b).mem = true := by simp [Dev.doAtomCas, hw, Dev.wf_atomic]

theorem Dev.wf_doFenceSl (d : Dev) (e : Nat) (hw : Memory.wf d.mem = true) : Memory.wf (d.doFenceSl e).mem = true := by simp [Dev.doFenceSl, hw, Dev.wf_drain]

theorem Dev.wf_doWadj (d : Dev) (e : Nat) (rd a : Rn) (hw : Memory.wf d.mem = true) : Memory.wf (d.doWadj e rd a).mem = true := by
  simp only [Dev.doWadj]
  repeat' split
  all_goals simp [hw, Dev.wf_raise]

theorem Dev.wf_doWsetl (d : Dev) (e : Nat) (rd a : Rn) (hw : Memory.wf d.mem = true) : Memory.wf (d.doWsetl e rd a).mem = true := by
  simp only [Dev.doWsetl]
  repeat' split
  all_goals simp [hw, Dev.wf_raise]

theorem Dev.wf_lookupOp (d : Dev) (e : Nat) (rd a b : Rn) (exact tern : Bool) (hw : Memory.wf d.mem = true) : Memory.wf (d.lookupOp e rd a b exact tern).mem = true := by
  grind [Dev.lookupOp, Dev.wf_raise, Dev.advance_mem, Dev.exactLookup_mem, Dev.readLine_mem, Dev.setWreg_mem, Dev.ternLookup_mem]

theorem Dev.wf_doLookupExact (d : Dev) (e : Nat) (rd a b : Rn) (hw : Memory.wf d.mem = true) : Memory.wf (d.doLookupExact e rd a b).mem = true := by simp [Dev.doLookupExact, hw, Dev.wf_lookupOp]

theorem Dev.wf_doLookupTernary (d : Dev) (e : Nat) (rd a b : Rn) (hw : Memory.wf d.mem = true) : Memory.wf (d.doLookupTernary e rd a b).mem = true := by simp [Dev.doLookupTernary, hw, Dev.wf_lookupOp]

theorem Dev.wf_doLookupBoth (d : Dev) (e : Nat) (rd a b : Rn) (hw : Memory.wf d.mem = true) : Memory.wf (d.doLookupBoth e rd a b).mem = true := by simp [Dev.doLookupBoth, hw, Dev.wf_lookupOp]

theorem Dev.wf_sumOp (d : Dev) (e : Nat) (rd a b : Rn) (f : BitVec 64 → List Byte → Nat) (hw : Memory.wf d.mem = true) : Memory.wf (d.sumOp e rd a b f).mem = true := by
  simp only [Dev.sumOp]
  repeat' split
  all_goals simp [hw, Dev.wf_raise]

theorem Dev.wf_doCsum (d : Dev) (e : Nat) (rd a b : Rn) (hw : Memory.wf d.mem = true) : Memory.wf (d.doCsum e rd a b).mem = true := by simp [Dev.doCsum, hw, Dev.wf_sumOp]

theorem Dev.wf_doCrcE (d : Dev) (e : Nat) (rd a b : Rn) (hw : Memory.wf d.mem = true) : Memory.wf (d.doCrcE e rd a b).mem = true := by simp [Dev.doCrcE, hw, Dev.wf_sumOp]

theorem Dev.wf_doCrcC (d : Dev) (e : Nat) (rd a b : Rn) (hw : Memory.wf d.mem = true) : Memory.wf (d.doCrcC e rd a b).mem = true := by simp [Dev.doCrcC, hw, Dev.wf_sumOp]

theorem Dev.wf_doTake (d : Dev) (e : Nat) (rd : Rn) (hw : Memory.wf d.mem = true) : Memory.wf (d.doTake e rd).mem = true := by simp [Dev.doTake, hw, Dev.wf_takeFrame]

theorem Dev.wf_doTxcan (d : Dev) (e : Nat) (a : Rn) (hw : Memory.wf d.mem = true) : Memory.wf (d.doTxcan e a).mem = true := by
  simp only [Dev.doTxcan]
  repeat' split
  all_goals simp [hw, Dev.wf_raise]

theorem Dev.wf_doCopy (d : Dev) (e : Nat) (rd : Rn) (hw : Memory.wf d.mem = true) : Memory.wf (d.doCopy e rd).mem = true := by
  have hdrain := d.wf_drain e hw
  unfold Dev.doCopy
  split
  · exact d.wf_raise _ _ _ hw
  dsimp only
  split
  · simpa using hdrain
  split
  · simpa using hdrain
  next f d1 hcommit =>
    have h1 := Dev.wf_commit _ _ _ hcommit hdrain
    split
    · simpa using hdrain
    next c d2 hcopy => simpa using Dev.wf_copyFrame d1 f _ hcopy h1

theorem Dev.wf_doFwd (d : Dev) (e : Nat) (rd a b : Rn) (hw : Memory.wf d.mem = true) : Memory.wf (d.doFwd e rd a b).mem = true :=
  Dev.wf_dispose _ _ _ _ _ _ (fun d o hw => by simpa using hw) (fun d f hw => by simpa using hw) hw

theorem Dev.wf_doDeliv (d : Dev) (e : Nat) (rd a : Rn) (hw : Memory.wf d.mem = true) : Memory.wf (d.doDeliv e rd a).mem = true :=
  Dev.wf_dispose _ _ _ _ _ _ (fun d o hw => by simpa using hw) (fun d f hw => d.wf_delivAccept _ f hw) hw

theorem Dev.wf_doCrypt (d : Dev) (e : Nat) (rd a b : Rn) (hw : Memory.wf d.mem = true) : Memory.wf (d.doCrypt e rd a b).mem = true :=
  Dev.wf_dispose _ _ _ _ _ _ (fun d o hw => by simpa using hw) (fun d f hw => by simpa using hw) hw

theorem Dev.wf_doBridge (d : Dev) (e : Nat) (rd a b : Rn) (hw : Memory.wf d.mem = true) : Memory.wf (d.doBridge e rd a b).mem = true :=
  Dev.wf_dispose _ _ _ _ _ _ (fun d o hw => by simpa using hw) (fun d f hw => by simpa using hw) hw

theorem Dev.wf_doStor (d : Dev) (e : Nat) (rd a b : Rn) (hw : Memory.wf d.mem = true) : Memory.wf (d.doStor e rd a b).mem = true :=
  Dev.wf_dispose _ _ _ _ _ _ (fun d o hw => by simpa using hw) (fun d f hw => by simpa using hw) hw

theorem Dev.wf_doDrop (d : Dev) (e : Nat) (hw : Memory.wf d.mem = true) : Memory.wf (d.doDrop e).mem = true := by
  unfold Dev.doDrop
  split <;> simp [hw, Dev.wf_drain, Dev.wf_raise]

theorem Dev.wf_doWaitt (d : Dev) (e : Nat) (rd a : Rn) (hw : Memory.wf d.mem = true) : Memory.wf (d.doWaitt e rd a).mem = true := by
  simp only [Dev.doWaitt]
  repeat' split
  all_goals simp [hw, Dev.wf_raise]

theorem Dev.wf_doCancel (d : Dev) (e : Nat) (a : Rn) (hw : Memory.wf d.mem = true) : Memory.wf (d.doCancel e a).mem = true := by
  simp only [Dev.doCancel]
  repeat' split
  all_goals simp [hw, Dev.wf_raise]

theorem Dev.wf_doHalt (d : Dev) (e : Nat) (code : BitVec 16) (hw : Memory.wf d.mem = true) : Memory.wf (d.doHalt e code).mem = true := by
  simp only [Dev.doHalt]
  repeat' split
  all_goals simp [hw, Dev.wf_drain, Dev.wf_raise]

theorem Dev.wf_doYield (d : Dev) (e : Nat) (hw : Memory.wf d.mem = true) : Memory.wf (d.doYield e).mem = true := by
  unfold Dev.doYield
  split <;> simp [hw, Dev.wf_doHalt]

/-- Every instruction keeps the memory canonical. -/
theorem Dev.wf_doOp (d : Dev) (e : Nat) (op : Op) (hw : Memory.wf d.mem = true) : Memory.wf (d.doOp e op).mem = true := by
  cases op <;> unfold Dev.doOp <;> simp [hw, Dev.wf_doAtomAdd, Dev.wf_doAtomCas, Dev.wf_doAtomXch, Dev.wf_doBrEq, Dev.wf_doBrGe, Dev.wf_doBrLt, Dev.wf_doBrNe, Dev.wf_doBrUge, Dev.wf_doBrUlt, Dev.wf_doBridge, Dev.wf_doCancel, Dev.wf_doCopy, Dev.wf_doCrcC, Dev.wf_doCrcE, Dev.wf_doCrypt, Dev.wf_doCsum, Dev.wf_doDeliv, Dev.wf_doDrop, Dev.wf_doFenceSl, Dev.wf_doFwd, Dev.wf_doHalt, Dev.wf_doJlinkr, Dev.wf_doLdb, Dev.wf_doLdd, Dev.wf_doLdh, Dev.wf_doLdw, Dev.wf_doLookupBoth, Dev.wf_doLookupExact, Dev.wf_doLookupTernary, Dev.wf_doStb, Dev.wf_doStd, Dev.wf_doSth, Dev.wf_doStor, Dev.wf_doStw, Dev.wf_doTake, Dev.wf_doTxcan, Dev.wf_doWadj, Dev.wf_doWaitt, Dev.wf_doWsetl, Dev.wf_doYield]

theorem Dev.wf_execute (d b : Dev) (e w : Nat) (op : Op) (hw : Memory.wf d.mem = true) : Memory.wf (d.execute b e w op).mem = true := by
  obtain ⟨k, ha⟩ := d.execute_eq b e w op
  rw [ha.mem]
  exact Dev.wf_doOp _ e op hw

theorem Dev.wf_badWord (d : Dev) (e code : Nat) (hw : Memory.wf d.mem = true) : Memory.wf (d.badWord e code).mem = true := by simp [Dev.badWord, hw, Dev.wf_raise]

theorem Dev.wf_issue (d : Dev) (e : Nat) (diff : Bool) (op : Op) (hw : Memory.wf d.mem = true) : Memory.wf (d.issue e diff op).mem = true := by
  simp only [Dev.issue]
  repeat' split
  all_goals simp [hw, Dev.wf_badWord, Dev.wf_execute, Dev.wf_mismatch]

theorem Dev.wf_cutOcc (d : Dev) (n : Nat) (hw : Memory.wf d.mem = true) : Memory.wf (d.cutOcc n).mem = true := by
  simp only [Dev.cutOcc]
  repeat' split
  all_goals simp [hw, Dev.wf_engCut]

theorem Dev.wf_overrun (d : Dev) (phase : Nat) (hw : Memory.wf d.mem = true) : Memory.wf (d.overrun phase).mem = true := by
  have hend : ∀ (ns : List Nat) (e : Dev), (ns.foldl (fun d n => d.endOcc n 3) e).mem = e.mem := fun ns =>
    foldl_mem ns _ (fun d n => d.endOcc_mem n 3)
  have hcut : ∀ ns : List Nat, Memory.wf (ns.foldl Dev.cutOcc d).mem = true := fun ns => wf_foldl ns _ (fun d n hw => d.wf_cutOcc n hw) d hw
  simp only [Dev.overrun]
  split <;> simp [hend, hcut]

theorem Dev.wf_modePreempt (d : Dev) (hw : Memory.wf d.mem = true) : Memory.wf (d.modePreempt).mem = true := by
  unfold Dev.modePreempt
  refine wf_foldl _ _ (fun d x hw => ?_) _ ?_
  all_goals repeat' split
  all_goals simp [hw, Dev.wf_preempt]

theorem Dev.wf_overlaySwitch (d : Dev) (k : Nat) (hw : Memory.wf d.mem = true) : Memory.wf (d.overlaySwitch k).mem = true := by
  have hpre : Memory.wf d.laneLookupAll.modePreempt.mem = true := Dev.wf_modePreempt _ (d.wf_laneLookupAll hw)
  have hlines : ∀ (e : Dev) (ls : List (Nat × List Byte)), Memory.wf e.mem = true →
      Memory.wf (ls.foldl (fun (d : Dev) (x : Nat × List Byte) => d.writeLine (tableLine x.1) x.2 false) e).mem = true := fun e ls he =>
    wf_foldl ls _ (fun d x hw => d.wf_writeLine _ _ _ hw) e he
  simp only [Dev.overlaySwitch, Dev.switchWake_mem, Dev.afterConfig_mem]
  split
  · refine Dev.wf_fragClear _ ?_
    split <;> simp [hlines, hpre]
  · split <;> simp [hlines, hpre]

theorem Dev.wf_dispatchEngine (d : Dev) (n : Nat) (hw : Memory.wf d.mem = true) : Memory.wf (d.dispatchEngine n).mem = true := by
  simp only [Dev.dispatchEngine]
  repeat' split
  all_goals simp [hw, Dev.wf_preempt]

theorem Dev.wf_hostResume (d : Dev) (hw : Memory.wf d.mem = true) : Memory.wf (d.hostResume).mem = true := by simp [Dev.hostResume, hw, Dev.wf_apDrain, Dev.wf_drainInb]

theorem Dev.wf_flrOne (d : Dev) (f : Nat) (hw : Memory.wf d.mem = true) : Memory.wf (d.flrOne f).mem = true := by
  grind [Dev.flrOne, Dev.wf_ringsReset, Dev.cfgReset_mem, Dev.channelsReset_mem, Dev.intxSend_mem, Dev.modRp_mem, Dev.resetWhere_mem, Dev.wr_mem, Dev.writeOff_mem]

theorem Dev.wf_vfOff (d : Dev) (hw : Memory.wf d.mem = true) : Memory.wf d.vfOff.mem = true := by
  unfold Dev.vfOff
  split
  · exact hw
  · exact wf_foldl _ _ (fun d n hw => d.wf_flrOne _ hw) d hw

theorem Dev.wf_flr (d : Dev) (f : Nat) (hw : Memory.wf d.mem = true) : Memory.wf (d.flr f).mem = true := by
  unfold Dev.flr
  split
  · exact wf_foldl _ _ (fun d c hw => d.wf_nvtAbort c hw) _ (Dev.wf_flrOne _ _ (d.wf_vfOff hw))
  · exact d.wf_flrOne f hw

theorem Dev.wf_linkReset (d : Dev) (hw : Memory.wf d.mem = true) : Memory.wf (d.linkReset).mem = true := by simp [Dev.linkReset, hw, Dev.wf_vfOff]

theorem Dev.wf_hostDown (d : Dev) (hw : Memory.wf d.mem = true) : Memory.wf d.hostDown.mem = true := by
  unfold Dev.hostDown
  split
  · exact hw
  · have hreset : ∀ e : Dev, Memory.wf e.mem = true → ∀ out : List Tag,
        Memory.wf (out.foldl (fun (d : Dev) t => d.reqFailed t 0x80) e.dropTags).dropTags.linkReset.mem = true := fun e he out =>
      Dev.wf_linkReset _ (by simpa using wf_foldl out _ (fun d t hw => d.wf_reqFailed t _ hw) _ (by simpa using he))
    dsimp only
    split
    · rw [Dev.present_mem, Dev.errCnt_mem]
      exact hreset _ (by simpa using hw) _
    · exact hreset _ (by simpa using hw) _

theorem Dev.wf_almDefault (o : Otp) (d : Dev) (e : Nat) (hw : Memory.wf d.mem = true) : Memory.wf (Dev.almDefault o d e).mem = true := by simp [Dev.almDefault, hw, Dev.wf_almWrite]

theorem Dev.wf_flashCmd (d : Dev) (op : Nat) (hw : Memory.wf d.mem = true) : Memory.wf (d.flashCmd op).mem = true := by
  simp only [Dev.flashCmd]
  repeat' split
  all_goals simp [hw, Dev.wf_hostAccess]

theorem Dev.wf_barRead (o : Otp) (d : Dev) (w : Window) (off len : Nat) (hw : Memory.wf d.mem = true) : Memory.wf (Dev.barRead o d w off len).mem = true := by
  simp only [Dev.barRead]
  repeat' split
  all_goals simp [hw, Dev.wf_apAccess, Dev.wf_cfgAccess]

end Sys2Proof.Machine
end

section
-- The theorems are elaborated in order, which keeps the memory that a check of the whole text takes within its limit.
set_option Elab.async false

/-! SUPPORT.  Every command keeps the canonical form of the memory, one lemma each, and with them every step. -/

namespace Sys2Proof.Machine

open Sys2Proof

/-- Where a command answers a next state, the memory is canonical when it was. -/
def KeepsWf (s : State) (o : Host.Outcome State Fault Refusal) : Prop :=
  ∀ t, o = .next t → Memory.wf s.dev.mem = true → Memory.wf t.dev.mem = true

theorem State.keepsWf_act (s : State) (held : Bool) (f : Otp → Dev → Otp × Dev)
    (hf : ∀ o d, Memory.wf d.mem = true → Memory.wf (f o d).2.mem = true) : KeepsWf s (s.act held f) := by
  intro t h hw
  injection h with h
  subst h
  split
  · exact hw
  · exact hf _ _ hw

/-- The same from the result by a name: the kernel then compares the effects themselves, not their memories. -/
theorem State.keepsWf_runOtp_of_eq (s : State) (f : Otp → Dev → Otp × Dev)
    (hf : ∀ o d r, f o d = r → Memory.wf d.mem = true → Memory.wf r.2.mem = true) : KeepsWf s (s.runOtp f) :=
  s.keepsWf_act _ f fun o d hw => hf o d _ rfl hw

theorem State.keepsWf_runSaf_of_eq (s : State) (f : Otp → Dev → Dev)
    (hf : ∀ o d e, f o d = e → Memory.wf d.mem = true → Memory.wf e.mem = true) : KeepsWf s (s.runSaf f) :=
  s.keepsWf_act s.heldSaf (fun o d => (o, f o d)) fun o d hw => hf o d _ rfl hw

section
variable (s : State)

theorem State.keepsWf_runOtp (f : Otp → Dev → Otp × Dev) (hf : ∀ o d, Memory.wf d.mem = true → Memory.wf (f o d).2.mem = true) :
    KeepsWf s (s.runOtp f) := s.keepsWf_act _ f hf

theorem State.keepsWf_runPin (f : Otp → Dev → Otp × Dev) (hf : ∀ o d, Memory.wf d.mem = true → Memory.wf (f o d).2.mem = true) :
    KeepsWf s (s.runPin f) := s.keepsWf_act _ f hf

theorem State.keepsWf_runWith (f : Otp → Dev → Dev) (hf : ∀ o d, Memory.wf d.mem = true → Memory.wf (f o d).mem = true) :
    KeepsWf s (s.runWith f) := s.keepsWf_act s.held (fun o d => (o, f o d)) hf

theorem State.keepsWf_runSaf (f : Otp → Dev → Dev) (hf : ∀ o d, Memory.wf d.mem = true → Memory.wf (f o d).mem = true) :
    KeepsWf s (s.runSaf f) := s.keepsWf_act s.heldSaf (fun o d => (o, f o d)) hf

theorem State.keepsWf_run (f : Dev → Dev) (hf : ∀ d, Memory.wf d.mem = true → Memory.wf (f d).mem = true) : KeepsWf s (s.run f) :=
  s.keepsWf_act s.held (fun o d => (o, f d)) fun _ => hf

theorem State.keepsWf_runTim (f : Dev → Dev) (hf : ∀ d, Memory.wf d.mem = true → Memory.wf (f d).mem = true) : KeepsWf s (s.runTim f) :=
  s.keepsWf_act s.heldTim (fun o d => (o, f d)) fun _ => hf

theorem State.keepsWf_host (f : Dev → Dev) (hf : ∀ d, Memory.wf d.mem = true → Memory.wf (f d).mem = true) : KeepsWf s (s.host f) :=
  s.keepsWf_run _ fun _ hw => hf _ (Dev.wf_hostAccess _ _ hw)

theorem State.keepsWf_hostAt (off : Dev → Bool) (f : Dev → Dev) (hf : ∀ d, Memory.wf d.mem = true → Memory.wf (f d).mem = true) :
    KeepsWf s (s.hostAt off f) := s.keepsWf_run _ fun _ hw => hf _ (Dev.wf_hostAccess _ _ hw)

theorem State.keepsWf_hostWith (f : Otp → Dev → Dev) (hf : ∀ o d, Memory.wf d.mem = true → Memory.wf (f o d).mem = true) :
    KeepsWf s (s.hostWith f) := s.keepsWf_runWith _ fun o _ hw => hf o _ (Dev.wf_hostAccess _ _ hw)

end

theorem execLinkUp_wf (p : Fin 4) (speed pause : Fin 4) (fullDuplex : Bool) (lane : List Byte) (s : State) : KeepsWf s (execLinkUp p speed pause fullDuplex lane s) := by
  refine s.keepsWf_run _ fun d hw => ?_
  dsimp only
  repeat' split
  all_goals simp [hw, Dev.wf_almBringUp]

theorem execLinkDown_wf (p : Fin 4) (syncLost inFrame : Bool) (s : State) : KeepsWf s (execLinkDown p syncLost inFrame s) :=
  s.keepsWf_run _ fun d hw => by simp [Dev.mem_ite, hw]

theorem execAnLinkTimer_wf (p : Fin 4) (s : State) : KeepsWf s (execAnLinkTimer p s) :=
  s.keepsWf_run _ fun d hw => by simp [Dev.mem_ite, hw]

theorem execRestartAn_wf (p : Fin 4) (s : State) : KeepsWf s (execRestartAn p s) :=
  s.keepsWf_hostAt _ _ fun d hw => by simp [Dev.mem_ite, hw]

theorem execMdioC22Write_wf (phy reg : Fin 32) (data : BitVec 16) (s : State) : KeepsWf s (execMdioC22Write phy reg data s) :=
  s.keepsWf_host _ fun d hw => by simp [hw]

theorem execMdioC22Read_wf (phy reg : Fin 32) (s : State) : KeepsWf s (execMdioC22Read phy reg s) :=
  s.keepsWf_host _ fun d hw => by simp [hw]

theorem execMdioC45Address_wf (phy dev : Fin 32) (addr : BitVec 16) (s : State) : KeepsWf s (execMdioC45Address phy dev addr s) :=
  s.keepsWf_host _ fun d hw => by simp [hw]

theorem execMdioC45Write_wf (phy dev : Fin 32) (data : BitVec 16) (s : State) : KeepsWf s (execMdioC45Write phy dev data s) :=
  s.keepsWf_host _ fun d hw => by simp [hw]

theorem execMdioC45Read_wf (phy dev : Fin 32) (s : State) : KeepsWf s (execMdioC45Read phy dev s) :=
  s.keepsWf_host _ fun d hw => by simp [hw]

theorem execMdioC45ReadInc_wf (phy dev : Fin 32) (s : State) : KeepsWf s (execMdioC45ReadInc phy dev s) :=
  s.keepsWf_host _ fun d hw => by simp [hw]

theorem execMdioComplete_wf (answer : Option (BitVec 16)) (s : State) : KeepsWf s (execMdioComplete answer s) := by
  refine s.keepsWf_run _ fun d hw => ?_
  dsimp only
  repeat' split
  all_goals simp [hw]

theorem execRxPause_wf (p : Fin 4) (quanta : BitVec 16) (s : State) : KeepsWf s (execRxPause p quanta s) :=
  s.keepsWf_run _ fun d hw => by simp [Dev.mem_ite, hw]

theorem execRxPfc_wf (p : Fin 4) (enable : BitVec 8) (quanta : List (BitVec 16)) (s : State) : KeepsWf s (execRxPfc p enable quanta s) :=
  s.keepsWf_run _ fun d hw => by simp [Dev.mem_ite, hw]

theorem execPauseHoldExpiry_wf (p : Fin 4) (q : Fin 8) (s : State) : KeepsWf s (execPauseHoldExpiry p q s) := by
  refine s.keepsWf_run _ fun d hw => ?_
  split <;> simp [hw]

theorem execTxPauseXoff_wf (p : Fin 4) (s : State) : KeepsWf s (execTxPauseXoff p s) :=
  s.keepsWf_run _ fun d hw => by simp [Dev.mem_ite, hw]

theorem execTxPauseRepeat_wf (p : Fin 4) (s : State) : KeepsWf s (execTxPauseRepeat p s) :=
  s.keepsWf_run _ fun d hw => by simp [Dev.mem_ite, hw]

theorem execTxPauseXon_wf (p : Fin 4) (s : State) : KeepsWf s (execTxPauseXon p s) :=
  s.keepsWf_run _ fun d hw => by simp [Dev.mem_ite, hw]

theorem execRxFrame_wf (p : Fin 4) (bytes : List Byte) (ebError : Bool) (age : Nat) (s : State) : KeepsWf s (execRxFrame p bytes ebError age s) := by
  refine s.keepsWf_run _ fun d hw => ?_
  dsimp only
  repeat' split
  all_goals simp [hw, Dev.wf_rxGood]

theorem execRxFrameToBuffer_wf (p : Fin 4) (s : State) : KeepsWf s (execRxFrameToBuffer p s) := by
  refine s.keepsWf_run _ fun d hw => ?_
  split <;> simp [hw, Dev.wf_crossFrame]

theorem execReleaseGuardStart_wf (p : Fin 4) (s : State) : KeepsWf s (execReleaseGuardStart p s) :=
  s.keepsWf_run _ fun d hw => by simp [Dev.mem_ite, hw]

theorem execP3Release_wf (s : State) : KeepsWf s (execP3Release s) := by
  refine s.keepsWf_run _ fun d hw => ?_
  refine wf_foldl _ _ (fun d p hd => ?_) d hw
  split
  · simpa using hd
  · exact hd

theorem execReleaseStateReset_wf (s : State) : KeepsWf s (execReleaseStateReset s) := by
  refine s.keepsWf_run _ fun d hw => ?_
  split
  · exact hw
  · dsimp only
    refine wf_ite hw ?_
    rw [foldl_mem _ _ fun d p => by simp]
    exact hw

theorem execTxGrant_wf (p : Fin 4) (s : State) : KeepsWf s (execTxGrant p s) := by
  refine s.keepsWf_run _ fun d hw => ?_
  dsimp only
  repeat' split
  all_goals simp [hw]

theorem execTxPoisonLate_wf (p : Fin 4) (s : State) : KeepsWf s (execTxPoisonLate p s) :=
  s.keepsWf_run _ fun d hw => by simp [hw]

theorem execTxComplete_wf (p : Fin 4) (s : State) : KeepsWf s (execTxComplete p s) := by
  refine s.keepsWf_run _ fun d hw => ?_
  split <;> simp [hw]

theorem execFenceArrival_wf (s : State) : KeepsWf s (execFenceArrival s) := by
  refine s.keepsWf_run _ fun d hw => ?_
  refine wf_ite hw (wf_foldl _ _ (fun d p hd => wf_foldl _ _ (fun d q hd => ?_) d hd) _ hw)
  split
  · simpa using hd
  · exact hd

theorem execFenceLift_wf (s : State) : KeepsWf s (execFenceLift s) :=
  s.keepsWf_run _ fun d hw => by simp [Dev.mem_ite, hw]

theorem execTxCancelArrival_wf (p : Fin 4) (s : State) : KeepsWf s (execTxCancelArrival p s) := by
  refine s.keepsWf_run _ fun d hw => ?_
  split
  · exact hw
  · extract_lets d1 es d2
    have hw1 : Memory.wf d1.mem = true := by simpa [d1] using hw
    split
    · simpa using hw1
    · refine wf_ite (wf_foldl _ _ (fun d e hd => by simpa using hd) _ ?_) (wf_ite ?_ ?_)
      · simpa [d2] using hw1
      · simpa using hw1
      · simpa using hw1

theorem execFragEntryAgeExpiry_wf (s : State) : KeepsWf s (execFragEntryAgeExpiry s) := by
  refine s.keepsWf_run _ fun d hw => ?_
  refine wf_foldl _ _ (fun d f hd => ?_) d hw
  exact wf_ite (Dev.wf_fragRemove _ _ hd) hd

theorem execClassifierLookup_wf (p : Fin 4) (s : State) : KeepsWf s (execClassifierLookup p s) :=
  s.keepsWf_run _ fun d hw => by simp [hw, Dev.wf_laneLookup]

theorem execFrameClassified_wf (p : Fin 4) (s : State) : KeepsWf s (execFrameClassified p s) := by
  refine s.keepsWf_run _ fun d hw => ?_
  repeat' split
  all_goals simp [hw, Dev.wf_classify]

/-- A transform row keeps the canonical memory when its transform does. -/
theorem Dev.wf_cryTransform (d : Dev) (p : Nat) (inbound esp : Bool) (f : Dev → Nat → CryJob → Dev)
    (hf : ∀ e p j, Memory.wf e.mem = true → Memory.wf (f e p j).mem = true) (hw : Memory.wf d.mem = true) :
    Memory.wf (d.cryTransform p inbound esp f).mem = true := by
  unfold Dev.cryTransform
  split
  · exact wf_ite (hf _ _ _ hw) hw
  · exact hw

theorem execEspOutTransform_wf (p : Fin 2) (s : State) : KeepsWf s (execEspOutTransform p s) :=
  s.keepsWf_run _ fun d hw => d.wf_cryTransform _ _ _ _ Dev.wf_espOut hw

theorem execEspInTransform_wf (p : Fin 2) (s : State) : KeepsWf s (execEspInTransform p s) :=
  s.keepsWf_run _ fun d hw => d.wf_cryTransform _ _ _ _ Dev.wf_espIn hw

theorem execMacsecTxTransform_wf (p : Fin 2) (s : State) : KeepsWf s (execMacsecTxTransform p s) :=
  s.keepsWf_run _ fun d hw => d.wf_cryTransform _ _ _ _ Dev.wf_macsecTx hw

theorem execMacsecRxTransform_wf (p : Fin 2) (s : State) : KeepsWf s (execMacsecRxTransform p s) :=
  s.keepsWf_run _ fun d hw => d.wf_cryTransform _ _ _ _ Dev.wf_macsecRx hw

theorem execCryptoReturn_wf (p : Fin 2) (s : State) : KeepsWf s (execCryptoReturn p s) := by
  refine s.keepsWf_run _ fun d hw => ?_
  dsimp only
  repeat' split
  all_goals simp [hw]

/-- An SA command keeps the canonical memory when its effect does. -/
theorem Dev.wf_saCmd (d : Dev) (f : Dev → Dev) (hf : ∀ e, Memory.wf e.mem = true → Memory.wf (f e).mem = true)
    (hw : Memory.wf d.mem = true) : Memory.wf (d.saCmd f).mem = true := by
  unfold Dev.saCmd
  exact wf_ite (by simpa using hw) (hf d hw)

theorem execSaInstall_wf (index : Fin 1024) (s : State) : KeepsWf s (execSaInstall index s) :=
  s.keepsWf_hostAt _ _ fun d hw => d.wf_saCmd _ (fun e he => by simpa using he) hw

theorem execSaInstallDone_wf (s : State) : KeepsWf s (execSaInstallDone s) := by
  refine s.keepsWf_runWith _ fun o d hw => ?_
  split <;> simp [hw, Dev.wf_saInstallDone]

theorem execSaDelete_wf (index : Fin 1024) (s : State) : KeepsWf s (execSaDelete index s) :=
  s.keepsWf_hostAt _ _ fun d hw => d.wf_saCmd _ (fun e he => wf_ite (by simpa using he) (by simpa using Dev.wf_saWrite _ _ _ _ he)) hw

theorem execSaDeleteDone_wf (s : State) : KeepsWf s (execSaDeleteDone s) := by
  refine s.keepsWf_run _ fun d hw => ?_
  repeat' split
  all_goals simp [hw, Dev.wf_zeroLines]

theorem execSaUpdateTemplate_wf (index : Fin 1024) (s : State) : KeepsWf s (execSaUpdateTemplate index s) :=
  s.keepsWf_hostAt _ _ fun d hw => d.wf_saCmd _ (fun e he => by simpa using he) hw

theorem execSaUpdateDone_wf (s : State) : KeepsWf s (execSaUpdateDone s) := by
  refine s.keepsWf_run _ fun d hw => ?_
  split <;> simp [hw, Dev.wf_saUpdateDone]

theorem execImageLoadStart_wf (s : State) : KeepsWf s (execImageLoadStart s) :=
  s.keepsWf_host _ fun d hw => by simp [Dev.mem_ite, hw]

theorem execLoadReadError_wf (poison : Bool) (s : State) : KeepsWf s (execLoadReadError poison s) := by
  refine s.keepsWf_run _ fun d hw => ?_
  dsimp only
  repeat' split
  all_goals simp [hw, Dev.wf_loadUndo]

theorem execLoadPass1Complete_wf (image : List Byte) (s : State) : KeepsWf s (execLoadPass1Complete image s) := by
  refine s.keepsWf_runWith _ fun o d hw => ?_
  repeat' split
  all_goals simp [hw, Dev.wf_pass2Start]

theorem execLoadPass2Complete_wf (image : List Byte) (s : State) : KeepsWf s (execLoadPass2Complete image s) := by
  refine s.keepsWf_run _ fun d hw => ?_
  repeat' split
  all_goals simp [hw, Dev.wf_pass2]

theorem execSeal_wf (s : State) : KeepsWf s (execSeal s) :=
  s.keepsWf_host _ fun d hw => by simp [Dev.mem_ite, hw]

theorem execSealReevalEnd_wf (s : State) : KeepsWf s (execSealReevalEnd s) :=
  s.keepsWf_run _ fun d hw => by simp [Dev.mem_ite, hw]

theorem execOverlayArm_wf (index : Fin 16) (s : State) : KeepsWf s (execOverlayArm index s) := by
  refine s.keepsWf_host _ fun d hw => ?_
  dsimp only
  repeat' split
  all_goals simp [hw]

theorem execOverlayPrepEnd_wf (s : State) : KeepsWf s (execOverlayPrepEnd s) := by
  refine s.keepsWf_run _ fun d hw => ?_
  dsimp only
  repeat' split
  all_goals simp [hw, Dev.wf_putLines]

theorem execOverlayDisarm_wf (s : State) : KeepsWf s (execOverlayDisarm s) :=
  s.keepsWf_host _ fun d hw => by simp [Dev.mem_ite, hw]

/-- A confirmation keeps the canonical memory when its effect does. -/
theorem Dev.wf_confirm (d : Dev) (tag dest : Nat) (f : Dev → Dev) (hf : ∀ e, Memory.wf e.mem = true → Memory.wf (f e).mem = true)
    (hw : Memory.wf d.mem = true) : Memory.wf (d.confirm tag dest f).mem = true := by
  unfold Dev.confirm
  exact wf_ite (hf _ (by simpa using hw)) (by simpa using hw)

theorem execConfirmAccept_wf (tag : BitVec 32) (dest : Fin 16) (s : State) : KeepsWf s (execConfirmAccept tag dest s) := by
  refine s.keepsWf_host _ fun d hw => ?_
  refine d.wf_confirm _ _ _ (fun e he => ?_) hw
  exact wf_ite (by simpa using he) (by simpa using he)

theorem execConfirmRefuse_wf (tag : BitVec 32) (dest : Fin 16) (s : State) : KeepsWf s (execConfirmRefuse tag dest s) := by
  refine s.keepsWf_host _ fun d hw => ?_
  refine d.wf_confirm _ _ _ (fun e he => ?_) hw
  simpa using he

theorem execConfirmTimeout_wf (s : State) : KeepsWf s (execConfirmTimeout s) :=
  s.keepsWf_run _ fun d hw => by simp [hw]

theorem execSignatureCheck_wf (n : Fin 64) (s : State) : KeepsWf s (execSignatureCheck n s) :=
  s.keepsWf_run _ fun d hw => by simp [Dev.mem_ite, hw]

theorem execNvtOpen_wf (c : Fin 16) (s : State) : KeepsWf s (execNvtOpen c s) := by
  refine s.keepsWf_hostAt _ _ fun d hw => ?_
  grind [Dev.wf_nvtSyn, Dev.alloc_mem, Dev.fresh_mem, Dev.modConn_mem, Dev.nvtCnt_mem, Dev.setConnState_mem, Dev.wr_mem]

theorem execNvtClose_wf (c : Fin 16) (s : State) : KeepsWf s (execNvtClose c s) :=
  s.keepsWf_hostAt _ _ fun d hw => by simp [Dev.mem_ite, hw]

theorem execNvtAbort_wf (c : Fin 16) (s : State) : KeepsWf s (execNvtAbort c s) :=
  s.keepsWf_hostAt _ _ fun d hw => by simp [hw, Dev.wf_nvtAbort]

theorem execNvtOpenTimeout_wf (c : Fin 16) (s : State) : KeepsWf s (execNvtOpenTimeout c s) := by
  refine s.keepsWf_run _ fun d hw => ?_
  repeat' split
  all_goals simp [hw, Dev.wf_nvtRst]

theorem execNvtFinSend_wf (c : Fin 16) (s : State) : KeepsWf s (execNvtFinSend c s) := by
  refine s.keepsWf_run _ fun d hw => ?_
  dsimp only
  repeat' split
  all_goals simp [hw, Dev.wf_nvtEmit]

theorem execNvtClosed_wf (c : Fin 16) (s : State) : KeepsWf s (execNvtClosed c s) :=
  s.keepsWf_run _ fun d hw => by simp [Dev.mem_ite, hw]

theorem execNvtSegmentRx_wf (s : State) : KeepsWf s (execNvtSegmentRx s) :=
  s.keepsWf_run _ fun d hw => by simp [hw, Dev.wf_nvtTake]

theorem execNvtTcpRstRx_wf (c : Fin 16) (s : State) : KeepsWf s (execNvtTcpRstRx c s) :=
  s.keepsWf_run _ fun d hw => by simp [hw, Dev.wf_nvtTake]

theorem execNvtRtoExpiry_wf (c : Fin 16) (s : State) : KeepsWf s (execNvtRtoExpiry c s) := by
  refine s.keepsWf_run _ fun d hw => ?_
  dsimp only
  repeat' split
  all_goals simp [hw, Dev.wf_nvtResend, Dev.wf_nvtRst, Dev.wf_nvtTimers]

theorem execNvtIcresp_wf (c : Fin 16) (s : State) : KeepsWf s (execNvtIcresp c s) := by
  refine s.keepsWf_run _ fun d hw => ?_
  refine wf_ite hw (Dev.wf_nvtHead _ _ _ _ (fun e _ _ he => wf_ite (Dev.wf_termReq _ _ _ (by simpa using he)) ?_) hw)
  refine wf_foldl _ _ (fun d q hd => wf_ite (by simpa using hd) hd) _ (by simpa using he)

theorem execNvtR2tRx_wf (c : Fin 16) (s : State) : KeepsWf s (execNvtR2tRx c s) := by
  refine s.keepsWf_run _ fun d hw => ?_
  refine Dev.wf_nvtHead _ _ _ _ (fun e h k he => ?_) (Dev.wf_nvtTimers _ hw)
  extract_lets d1 cid hd dd pdus
  have hw1 : Memory.wf d1.mem = true := by simpa [d1] using he
  have pduWf : ∀ (l : List NvtPdu), Memory.wf (l.foldl (fun d p => d.nvtPdu c p) d1).mem = true :=
    fun l => wf_foldl _ _ (fun d p hd => Dev.wf_nvtPdu _ _ _ hd) _ hw1
  refine wf_ite (pduWf _) ?_
  split
  · exact Dev.wf_termReq _ _ _ hw1
  · exact wf_ite (Dev.wf_termReq _ _ _ hw1) (wf_ite hw1 (pduWf _))

theorem execNvtCapsuleResp_wf (c : Fin 16) (s : State) : KeepsWf s (execNvtCapsuleResp c s) :=
  s.keepsWf_run _ fun d hw => by simp [hw, Dev.wf_nvtHead, Dev.wf_nvtTimers]

theorem execNvtC2hdata_wf (c : Fin 16) (s : State) : KeepsWf s (execNvtC2hdata c s) := by
  refine s.keepsWf_run _ fun d hw => ?_
  grind [Dev.wf_nvtHead, Dev.wf_nvtTimers, Dev.c2hData_mem, Dev.modConn_mem, Dev.rxDrop_mem]

theorem execNvtC2hTermReq_wf (c : Fin 16) (s : State) : KeepsWf s (execNvtC2hTermReq c s) :=
  s.keepsWf_run _ fun d hw => by simp [hw, Dev.wf_nvtHead]

theorem execNvtCmdAccept_wf (q : Fin 64) (s : State) : KeepsWf s (execNvtCmdAccept q s) := by
  refine s.keepsWf_run _ fun d hw => ?_
  dsimp only
  repeat' split
  all_goals simp [hw]

theorem execNvtCmdTimeout_wf (q : Fin 64) (s : State) : KeepsWf s (execNvtCmdTimeout q s) := by
  refine s.keepsWf_run _ fun d hw => ?_
  split <;> simp [hw, Dev.wf_nvtTimers]

theorem execSqDoorbell_wf (f : Fin 50) (value : BitVec 32) (s : State) : KeepsWf s (execSqDoorbell f value s) := by
  refine s.keepsWf_host _ fun d hw => ?_
  dsimp only
  repeat' split
  all_goals simp [hw]

theorem execCqDoorbell_wf (f : Fin 50) (value : BitVec 32) (s : State) : KeepsWf s (execCqDoorbell f value s) := by
  refine s.keepsWf_host _ fun d hw => ?_
  extract_lets v i r rej
  have hrej : ∀ x, Memory.wf (rej x).mem = true := fun x => by simpa [rej] using hw
  refine wf_ite (hrej _) ?_
  split
  · exact hrej _
  · refine wf_ite (hrej _) (wf_ite (hrej _) (wf_ite (hrej _) (wf_foldl _ _ (fun d n hd => ?_) _ (by simpa using hw))))
    exact wf_ite (wf_ite (by simpa using hd) (wf_ite (by simpa using hd) hd)) hd

theorem execSqFetch_wf (n : Fin 256) (s : State) : KeepsWf s (execSqFetch n s) := by
  refine s.keepsWf_run _ fun d hw => ?_
  grind [Dev.wf_hostRead1, Dev.fetch_mem, Dev.modSq_mem]

theorem execRxHeldFrameWrite_wf (n : Fin 256) (s : State) : KeepsWf s (execRxHeldFrameWrite n s) := by
  refine s.keepsWf_run _ fun d hw => ?_
  dsimp only
  repeat' split
  all_goals simp [hw]

theorem execRingAbort_wf (n : Fin 256) (s : State) : KeepsWf s (execRingAbort n s) := by
  refine s.keepsWf_host _ fun d hw => ?_
  extract_lets f d1 d2 d3 d4 hs d5
  have hw1 : Memory.wf d1.mem = true := by simpa [d1] using hw
  have hw2 : Memory.wf d2.mem = true := wf_ite (by simpa using hw1) hw1
  have hw3 : Memory.wf d3.mem = true := wf_ite (Dev.wf_nvtStopRing _ _ hw2) hw2
  have hw4 : Memory.wf d4.mem = true := wf_foldl _ _ (fun d e hd => by simpa using hd) _ hw3
  exact wf_ite (by simpa using hw) (by simpa [d5] using hw4)

theorem execRingAbortComplete_wf (n : Fin 256) (s : State) : KeepsWf s (execRingAbortComplete n s) :=
  s.keepsWf_run _ fun d hw => by simp [Dev.mem_ite, hw]

theorem execSqEnable_wf (n : Fin 256) (s : State) : KeepsWf s (execSqEnable n s) :=
  s.keepsWf_host _ fun d hw => by simp [Dev.mem_ite, hw]

theorem execSqDisable_wf (n : Fin 256) (s : State) : KeepsWf s (execSqDisable n s) :=
  s.keepsWf_host _ fun d hw => by simp [Dev.mem_ite, hw]

theorem execCqEnable_wf (c : Fin 256) (s : State) : KeepsWf s (execCqEnable c s) :=
  s.keepsWf_host _ fun d hw => by simp [Dev.mem_ite, hw]

theorem execCqDisable_wf (c : Fin 256) (s : State) : KeepsWf s (execCqDisable c s) :=
  s.keepsWf_host _ fun d hw => by simp [Dev.mem_ite, hw]

theorem execSafeStateArrival_wf (s : State) : KeepsWf s (execSafeStateArrival s) := by
  refine s.keepsWf_run _ fun d hw => ?_
  refine wf_ite hw (wf_foldl _ _ (fun d n hd => wf_ite (by simpa using hd) hd) _ ?_)
  simpa using hw

theorem execTchArm_wf (t : Fin 32) (s : State) : KeepsWf s (execTchArm t s) :=
  s.keepsWf_host _ fun d hw => by simp [Dev.mem_ite, hw]

theorem execTchSwapReq_wf (t : Fin 32) (s : State) : KeepsWf s (execTchSwapReq t s) :=
  s.keepsWf_host _ fun d hw => by simp [hw]

theorem execTchSwapOnRequest_wf (t : Fin 32) (s : State) : KeepsWf s (execTchSwapOnRequest t s) := by
  refine s.keepsWf_run _ fun d hw => ?_
  dsimp only
  repeat' split
  all_goals simp [hw, Dev.wf_tchSwap]

theorem execLlDescriptorEnd_wf (c : Fin 96) (s : State) : KeepsWf s (execLlDescriptorEnd c s) := by
  refine s.keepsWf_run _ fun d hw => ?_
  dsimp only
  repeat' split
  all_goals simp [hw, Dev.wf_llBack]

theorem execLlStart_wf (c : Fin 96) (s : State) : KeepsWf s (execLlStart c s) :=
  s.keepsWf_host _ fun d hw => by simp [Dev.mem_ite, hw]

theorem execLlStop_wf (c : Fin 96) (s : State) : KeepsWf s (execLlStop c s) :=
  s.keepsWf_host _ fun d hw => by simp [Dev.mem_ite, hw]

theorem execLlStopComplete_wf (c : Fin 96) (s : State) : KeepsWf s (execLlStopComplete c s) := by
  refine s.keepsWf_run _ fun d hw => ?_
  dsimp only
  repeat' split
  all_goals simp [hw, Dev.wf_llBack]

theorem execLlKick_wf (c : Fin 96) (s : State) : KeepsWf s (execLlKick c s) :=
  s.keepsWf_host _ fun d hw => by simp [Dev.mem_ite, hw]

theorem execReqMapWrite_wf (i : Fin 64) (kind : BitVec 4) (arg : BitVec 12) (s : State) : KeepsWf s (execReqMapWrite i kind arg s) :=
  s.keepsWf_host _ fun d hw => by simp [Dev.mem_ite, hw]

theorem execReqFire_wf (i : Fin 64) (s : State) : KeepsWf s (execReqFire i s) :=
  s.keepsWf_host _ fun d hw => by simp [Dev.mem_ite, hw]

theorem execReqLineTimer_wf (i : Fin 64) (s : State) : KeepsWf s (execReqLineTimer i s) :=
  s.keepsWf_run _ fun d hw => by simp [Dev.mem_ite, hw]

/-- The first attempt that goes through, or the device as it is. -/
theorem wf_firstSome_getD {d : Dev} (ts : List (Unit → Option Dev)) (hts : ∀ t ∈ ts, ∀ e, t () = some e → Memory.wf e.mem = true)
    (hw : Memory.wf d.mem = true) : Memory.wf ((firstSome ts).getD d).mem = true := by
  cases h : firstSome ts with
  | none => exact hw
  | some e => exact wf_firstSome ts hts e h

theorem execDmaBurstIssue_wf (write : Bool) (s : State) : KeepsWf s (execDmaBurstIssue write s) := by
  refine s.keepsWf_run _ fun d hw => ?_
  extract_lets drain ticks rings lls turn lists
  have hdrain : ∀ x e, drain x () = some e → Memory.wf e.mem = true := fun x e h => by
    grind [Dev.wf_chDrain, Dev.chAfter_mem]
  have hissue : ∀ x e, d.chIssue x (!write) = some e → Memory.wf e.mem = true := fun x e h => d.wf_chIssue x _ e h hw
  have hpay : ∀ n e, d.payIssue n = some e → Memory.wf e.mem = true := fun n e h => d.wf_payIssue n e h hw
  have hturn : ∀ c (o : Option Dev), (∀ e, o = some e → Memory.wf e.mem = true) → ∀ e, o.map (turn c) = some e →
      Memory.wf e.mem = true := fun c o ho e he => by
    obtain ⟨x, hx, rfl⟩ := Option.map_eq_some_iff.mp he
    exact ho x hx
  refine wf_firstSome_getD _ (fun t ht e he => ?_) hw
  simp only [List.mem_append, List.mem_singleton, or_assoc] at ht
  obtain ht | ht | rfl | ht := ht
  · obtain ⟨x, -, hx⟩ := List.mem_flatMap.mp ht
    split at hx
    · obtain ⟨n, -, rfl⟩ := List.mem_map.mp hx
      exact hpay n e (Option.ite_none_right_eq_some.mp he).2
    · simp only [List.mem_cons, List.not_mem_nil, or_false] at hx
      obtain rfl | rfl := hx
      · exact hdrain _ e he
      · exact hissue _ e he
  · obtain ⟨n, -, rfl⟩ := List.mem_map.mp ht
    exact hpay n e (Option.ite_none_right_eq_some.mp he).2
  · exact d.wf_storageIssue e (Option.ite_none_left_eq_some.mp he).2 hw
  · obtain ⟨c, -, hx⟩ := List.mem_flatMap.mp ht
    simp only [List.mem_cons, List.not_mem_nil, or_false] at hx
    obtain rfl | rfl | rfl := hx
    · exact hdrain c e he
    · exact hturn c _ (hissue c) e he
    · exact hturn c _ (fun e h => d.wf_llFetch c e h hw) e (Option.ite_none_left_eq_some.mp he).2

theorem execFlushReadIssue_wf (s : State) : KeepsWf s (execFlushReadIssue s) := by
  refine s.keepsWf_run _ fun d hw => ?_
  extract_lets ticks store lists
  have hall : ∀ t ∈ ticks ++ store ++ lists, ∀ e, t () = some e → Memory.wf e.mem = true := fun t ht e he => by
    simp only [List.mem_append, or_assoc] at ht
    obtain ht | ht | ht := ht
    · obtain ⟨x, -, rfl⟩ := List.mem_map.mp ht
      exact d.wf_chFlush _ e he hw
    · obtain ⟨m, -, rfl⟩ := List.mem_map.mp ht
      exact d.wf_storageFlush m e he hw
    · obtain ⟨x, -, rfl⟩ := List.mem_map.mp ht
      exact d.wf_chFlush _ e he hw
  exact wf_firstSome_getD _ hall hw

theorem execCompletionTimeout_wf (s : State) : KeepsWf s (execCompletionTimeout s) := by
  refine s.keepsWf_run _ fun d hw => ?_
  split <;> simp [hw, Dev.wf_drainInb, Dev.wf_tagTimers]

theorem execCompletionReceived_wf (tag : Nat) (f : Fin 50) (status : Fin 8) (ep : Bool) (count lower : Nat) (data : List Byte) (s : State) : KeepsWf s (execCompletionReceived tag f status ep count lower data s) := by
  refine s.keepsWf_run _ fun d hw => ?_
  grind [Dev.wf_cplData, Dev.wf_drainInb, Dev.wf_malformedCpl, Dev.wf_reqFailed, Dev.wf_tagTimers, Dev.count_mem, Dev.dropTag_mem, Dev.errCnt_mem, Dev.lateCpl_mem, Dev.ueError_mem]

theorem execTchOccurrenceEnd_wf (t : Fin 32) (s : State) : KeepsWf s (execTchOccurrenceEnd t s) := by
  refine s.keepsWf_run _ fun d hw => ?_
  dsimp only
  repeat' split
  all_goals simp [hw]

theorem execBoundaryFab_wf (s : State) : KeepsWf s (execBoundaryFab s) := by
  refine s.keepsWf_run _ fun d hw => ?_
  split
  · exact hw
  · extract_lets t d1 d2 d3
    have hw1 : Memory.wf d1.mem = true := hw
    have hw2 : Memory.wf d2.mem = true := by
      dsimp only [d2]
      split
      · exact hw1
      · exact wf_foldl _ _ (fun d t hd => d.wf_tchBoundary t hd) _ hw1
    have hw3 : Memory.wf d3.mem = true := by simpa only [d3, Dev.reqSource_mem] using hw2
    clear_value d3
    generalize List.range 256 = rings
    refine wf_foldl _ _ (fun d c hd => ?_) _ hw3
    split
    · rwa [Dev.cqIrq_mem]
    · exact hd

/-- The memory of a device is canonical.  Under this name two devices are compared as they are written, not field by field. -/
def Dev.WfMem (d : Dev) : Prop := Memory.wf d.mem = true

theorem State.keepsWf_run_wfMem (s : State) (f : Dev → Dev) (hf : ∀ d, d.WfMem → (f d).WfMem) : KeepsWf s (s.run f) := s.keepsWf_run f hf

theorem wfMem_ite {p : Prop} [Decidable p] {a b : Dev} (ha : a.WfMem) (hb : b.WfMem) : Dev.WfMem (if p then a else b) := wf_ite ha hb

theorem Dev.wfMem_perstReleased (e : Dev) (rp : Nat) (he : e.WfMem) :
    Dev.WfMem (let d := (e.modRp rp (fun r => { r with perstPend := false, perstN := true })).emit (.rpPerst rp true)
      if d.rpState rp = 3 then d else d.wr (.brg (.RP_STATUS_STATE rp)) 1) := by
  have hd : Dev.WfMem ((e.modRp rp (fun r => { r with perstPend := false, perstN := true })).emit (.rpPerst rp true)) := by
    rw [Dev.WfMem, Dev.emit_mem, Dev.modRp_mem]
    exact he
  exact wfMem_ite hd (by rw [Dev.WfMem, Dev.wr_mem]; exact hd)

theorem execRpPerstRelease_wf (rp : Fin 2) (s : State) : KeepsWf s (execRpPerstRelease rp s) := by
  refine s.keepsWf_run_wfMem _ fun d hw => wfMem_ite hw (Dev.wfMem_perstReleased _ rp ?_)
  rw [Dev.WfMem, Dev.elapse_mem]
  exact hw

theorem execRpLinkUp_wf (rp : Fin 2) (speed : Fin 4) (s : State) : KeepsWf s (execRpLinkUp rp speed s) :=
  s.keepsWf_run _ fun d hw => by simp [Dev.mem_ite, hw]

theorem execRpLinkDown_wf (rp : Fin 2) (s : State) : KeepsWf s (execRpLinkDown rp s) := by
  refine s.keepsWf_run _ fun d hw => ?_
  refine wf_ite hw (wf_ite (by simpa using hw) (wf_foldl _ _ (fun d t hd => wf_ite ?_ ?_) _ (by simpa using hw)))
  · simpa using hd
  · simpa using hd

theorem execRpLinkError_wf (rp : Fin 2) (s : State) : KeepsWf s (execRpLinkError rp s) :=
  s.keepsWf_run _ fun d hw => by simp [Dev.mem_ite, hw]

theorem execRpClkreqNChange_wf (rp : Fin 2) (low : Bool) (s : State) : KeepsWf s (execRpClkreqNChange rp low s) :=
  s.keepsWf_run _ fun d hw => by simp [Dev.mem_ite, hw]

theorem execRpPerstWrite_wf (rp : Fin 2) (value : Bool) (s : State) : KeepsWf s (execRpPerstWrite rp value s) := by
  refine s.keepsWf_host _ fun d hw => ?_
  dsimp only
  repeat' split
  all_goals simp [hw, Dev.wf_apDrain]

theorem execRpCfgRead_wf (rp : Fin 2) (s : State) : KeepsWf s (execRpCfgRead rp s) :=
  s.keepsWf_host _ fun d hw => by simp [hw, Dev.wf_cfgAccess]

theorem execRpCfgWrite_wf (rp : Fin 2) (data : BitVec 32) (s : State) : KeepsWf s (execRpCfgWrite rp data s) :=
  s.keepsWf_host _ fun d hw => by simp [hw, Dev.wf_cfgAccess]

theorem execApertureRead_wf (rp : Fin 2) (w : Fin 8) (n : Fin 8192) (wide : Bool) (s : State) : KeepsWf s (execApertureRead rp w n wide s) :=
  s.keepsWf_host _ fun d hw => by simp [hw, Dev.wf_apAccess]

theorem execApertureWrite_wf (rp : Fin 2) (w : Fin 8) (n : Fin 8192) (wide : Bool) (value : BitVec 64) (s : State) : KeepsWf s (execApertureWrite rp w n wide value s) := by
  refine s.keepsWf_host _ fun d hw => ?_
  dsimp only
  repeat' split
  all_goals simp [hw, Dev.wf_apAccess]

theorem execRpCompletionTimeout_wf (rp : Fin 2) (s : State) : KeepsWf s (execRpCompletionTimeout rp s) := by
  refine s.keepsWf_run _ fun d hw => ?_
  split <;> simp [hw, Dev.wf_apDrain]

theorem execRpCompletionRx_wf (rp : Fin 2) (tag : Fin 32) (status : Fin 8) (ep : Bool) (count : Nat) (data : List Byte) (s : State) : KeepsWf s (execRpCompletionRx rp tag status ep count data s) := by
  refine s.keepsWf_run _ fun d hw => ?_
  dsimp only
  repeat' split
  all_goals simp [hw, Dev.wf_apDrain, Dev.wf_rpDone]

theorem execRpCfgCompletion_wf (rp : Fin 2) (status : Fin 8) (data : BitVec 32) (s : State) : KeepsWf s (execRpCfgCompletion rp status data s) := by
  refine s.keepsWf_run _ fun d hw => ?_
  dsimp only
  repeat' split
  all_goals simp [hw, Dev.wf_apDrain]

theorem execBridgeFrameWrite_wf (rp : Fin 2) (s : State) : KeepsWf s (execBridgeFrameWrite rp s) := by
  refine s.keepsWf_run _ fun d hw => ?_
  dsimp only
  repeat' split
  all_goals simp [hw]

theorem execPrefetchLineExpiry_wf (rp : Fin 2) (s : State) : KeepsWf s (execPrefetchLineExpiry rp s) := by
  refine s.keepsWf_run _ fun d hw => ?_
  split <;> simp [hw]

theorem execModemInboundRequest_wf (rp : Fin 2) (write ep : Bool) (addr : BitVec 64) (tag len : Nat) (bytes : List Byte) (s : State) : KeepsWf s (execModemInboundRequest rp write ep addr tag len bytes s) :=
  s.keepsWf_run _ fun d hw => by simp [hw, Dev.wf_modemRequest]

theorem execModemMsiWrite_wf (rp : Fin 2) (addr : BitVec 64) (data : BitVec 32) (s : State) : KeepsWf s (execModemMsiWrite rp addr data s) :=
  s.keepsWf_run _ fun d hw => by simp [hw, Dev.wf_modemRequest]

theorem execModemIntxMessage_wf (rp : Fin 2) (assert : Bool) (s : State) : KeepsWf s (execModemIntxMessage rp assert s) :=
  s.keepsWf_run _ fun d hw => by simp [Dev.mem_ite, hw]

theorem execModemErrMessage_wf (rp : Fin 2) (kind : Fin 3) (s : State) : KeepsWf s (execModemErrMessage rp kind s) :=
  s.keepsWf_run _ fun d hw => by simp [Dev.mem_ite, hw]

theorem execRpVendorDefinedMessage_wf (rp : Fin 2) (s : State) : KeepsWf s (execRpVendorDefinedMessage rp s) :=
  s.keepsWf_run _ fun d hw => by simp [Dev.mem_ite, hw]

theorem execRpCtnFreeze_wf (rp : Fin 2) (s : State) : KeepsWf s (execRpCtnFreeze rp s) :=
  s.keepsWf_host _ fun d hw => by simp [hw]

theorem execRpContainmentArrival_wf (rp : Fin 2) (s : State) : KeepsWf s (execRpContainmentArrival rp s) := by
  refine s.keepsWf_run _ fun d hw => ?_
  refine wf_ite hw (Dev.wf_apDrain _ ?_)
  simp only [Dev.brgEvent_mem, Dev.wr_mem, Dev.incBy_mem, Dev.modRp_mem]
  rw [foldl_mem _ _ Dev.dropFrame_mem]
  exact hw

theorem execRpCtnRelease_wf (rp : Fin 2) (go : Bool) (seq : BitVec 16) (s : State) : KeepsWf s (execRpCtnRelease rp go seq s) :=
  s.keepsWf_host _ fun d hw => by simp [Dev.mem_ite, hw]

theorem execKeepaliveExpiry_wf (rp : Fin 2) (s : State) : KeepsWf s (execKeepaliveExpiry rp s) :=
  s.keepsWf_run _ fun d hw => by simp [Dev.mem_ite, hw]

theorem execKeepaliveRearm_wf (rp : Fin 2) (s : State) : KeepsWf s (execKeepaliveRearm rp s) :=
  s.keepsWf_host _ fun d hw => by simp [hw]

theorem execKeepaliveLimitWrite_wf (rp : Fin 2) (limit : BitVec 16) (s : State) : KeepsWf s (execKeepaliveLimitWrite rp limit s) :=
  s.keepsWf_host _ fun d hw => by simp [Dev.mem_ite, hw]

theorem execTimebaseStep_wf (s : State) : KeepsWf s (execTimebaseStep s) :=
  s.keepsWf_host _ fun d hw => by simp [hw]

theorem execFreqAdjWrite_wf (value : BitVec 32) (s : State) : KeepsWf s (execFreqAdjWrite value s) :=
  s.keepsWf_host _ fun d hw => by simp [Dev.mem_ite, hw]

theorem execTimebaseRead_wf (s : State) : KeepsWf s (execTimebaseRead s) :=
  s.keepsWf_host _ fun d hw => by simp [hw]

theorem execAnchorPublish_wf (s : State) : KeepsWf s (execAnchorPublish s) :=
  s.keepsWf_run _ fun d hw => by simp [hw]

theorem execRxTsPop_wf (p : Fin 4) (s : State) : KeepsWf s (execRxTsPop p s) :=
  s.keepsWf_host _ fun d hw => by simp [hw]

theorem execTxTsPop_wf (p : Fin 4) (s : State) : KeepsWf s (execTxTsPop p s) :=
  s.keepsWf_host _ fun d hw => by simp [hw]

theorem execPtpSampleWrite_wf (e : BitVec 32) (s : State) : KeepsWf s (execPtpSampleWrite e s) :=
  s.keepsWf_host _ fun d hw => by simp [Dev.mem_ite, hw]

theorem execHoldoverEntry_wf (s : State) : KeepsWf s (execHoldoverEntry s) := by
  refine s.keepsWf_runTim _ fun d hw => ?_
  grind [Dev.elapse_mem, Dev.setFreq_mem, Dev.setSrcState_mem]

theorem execPpsInEdge_wf (after : Nat) (s : State) : KeepsWf s (execPpsInEdge after s) :=
  s.keepsWf_runTim _ fun d hw => by simp [Dev.mem_ite, hw]

theorem execPpsLostTimeout_wf (s : State) : KeepsWf s (execPpsLostTimeout s) := by
  refine s.keepsWf_runTim _ fun d hw => ?_
  split <;> simp [hw]

theorem execPpsOutRise_wf (s : State) : KeepsWf s (execPpsOutRise s) :=
  s.keepsWf_runTim _ fun d hw => by simp [Dev.mem_ite, hw]

theorem execPpsOutFall_wf (s : State) : KeepsWf s (execPpsOutFall s) := by
  refine s.keepsWf_runTim _ fun d hw => ?_
  split <;> simp [hw]

theorem execNmeaSentence_wf (bytes : List Byte) (after : Nat) (s : State) : KeepsWf s (execNmeaSentence bytes after s) := by
  refine s.keepsWf_runTim _ fun d hw => ?_
  dsimp only
  repeat' split
  all_goals simp [hw]

theorem execCalStepStart_wf (n : Fin 64) (s : State) : KeepsWf s (execCalStepStart n s) :=
  s.keepsWf_run _ fun d hw => by simp [Dev.mem_ite, hw]

theorem execCalStepEnd_wf (lost : Nat) (full : Bool) (measured : List Byte) (s : State) : KeepsWf s (execCalStepEnd lost full measured s) := by
  refine s.keepsWf_run _ fun d hw => ?_
  dsimp only
  repeat' split
  all_goals simp [hw, Dev.wf_delayStep, Dev.wf_scanStep]

theorem execAlmanacOverdue_wf (e : Fin 14) (s : State) : KeepsWf s (execAlmanacOverdue e s) :=
  s.keepsWf_run _ fun d hw => by simp [Dev.mem_ite, hw]

theorem execAlmanacOverdue2_wf (e : Fin 14) (s : State) : KeepsWf s (execAlmanacOverdue2 e s) :=
  s.keepsWf_run _ fun d hw => by simp [Dev.mem_ite, hw]

theorem execAlmanacVerify_wf (n : Fin 64) (s : State) : KeepsWf s (execAlmanacVerify n s) := by
  refine s.keepsWf_run _ fun d hw => ?_
  refine wf_ite hw ?_
  simp only [Dev.endOcc_mem, Dev.wr_mem]
  rw [foldl_mem _ _ fun d e => by simp]
  exact hw

theorem execStoreVisible_wf (e : Fin 16) (s : State) : KeepsWf s (execStoreVisible e s) :=
  s.keepsWf_run _ fun d hw => by simp [hw, Dev.wf_sbPop]

theorem execBeStart_wf (e : Fin 16) (s : State) : KeepsWf s (execBeStart e s) := by
  refine s.keepsWf_run _ fun d hw => ?_
  grind [Dev.engStart_mem, Dev.wake_mem]

theorem execLcProvision_wf (s : State) : KeepsWf s (execLcProvision s) :=
  s.keepsWf_hostWith _ fun o d hw => by simp [Dev.mem_ite, hw]

theorem execLcField_wf (s : State) : KeepsWf s (execLcField s) :=
  s.keepsWf_hostWith _ fun o d hw => by simp [Dev.mem_ite, hw]

theorem execLcTransitionDone_wf (s : State) : KeepsWf s (execLcTransitionDone s) := by
  refine s.keepsWf_runOtp _ fun o d hw => ?_
  dsimp only
  repeat' split
  all_goals simp [hw, Dev.wf_zeroiseKeys]

theorem execOtpProgram_wf (target : Fin 8) (s : State) : KeepsWf s (execOtpProgram target s) :=
  s.keepsWf_hostWith _ fun o d hw => by simp [Dev.mem_ite, hw]

theorem execOtpRevoke_wf (target : Fin 8) (s : State) : KeepsWf s (execOtpRevoke target s) :=
  s.keepsWf_hostWith _ fun o d hw => by simp [Dev.mem_ite, hw]

theorem execOtpWriteDone_wf (s : State) : KeepsWf s (execOtpWriteDone s) := by
  refine s.keepsWf_runOtp _ fun o d hw => ?_
  dsimp only
  repeat' split
  all_goals simp [hw]

theorem execArbAdvance_wf (value : Fin 128) (s : State) : KeepsWf s (execArbAdvance value s) :=
  s.keepsWf_hostWith _ fun o d hw => by simp [Dev.mem_ite, hw]

theorem execArbAdvanceDone_wf (s : State) : KeepsWf s (execArbAdvanceDone s) := by
  refine s.keepsWf_runOtp _ fun o d hw => ?_
  split <;> simp [hw]

theorem execDbgD1Open_wf (s : State) : KeepsWf s (execDbgD1Open s) :=
  s.keepsWf_host _ fun d hw => by simp [Dev.mem_ite, hw]

theorem execDbgClose_wf (s : State) : KeepsWf s (execDbgClose s) :=
  s.keepsWf_host _ fun d hw => by simp [Dev.mem_ite, hw]

theorem execDbgTokenSubmit_wf (s : State) : KeepsWf s (execDbgTokenSubmit s) :=
  s.keepsWf_host _ fun d hw => by simp [hw]

theorem execDbgTokenChecked_wf (s : State) : KeepsWf s (execDbgTokenChecked s) := by
  refine s.keepsWf_runWith _ fun o d hw => ?_
  dsimp only
  repeat' split
  all_goals simp [hw, Dev.wf_acceptToken]

/-- A TAP instruction keeps the canonical memory when its effect does. -/
theorem wf_tapSelect (i : TapIr) (f : Otp → Dev → Dev) (o : Otp) (d : Dev)
    (hf : ∀ e, Memory.wf e.mem = true → Memory.wf (f o e).mem = true) (hw : Memory.wf d.mem = true) :
    Memory.wf (tapSelect i f o d).mem = true := wf_ite (hf _ hw) hw

theorem execTapIdcode_wf (s : State) : KeepsWf s (execTapIdcode s) :=
  s.keepsWf_runWith _ fun o d hw => wf_tapSelect _ _ o d (fun e he => by simpa using he) hw

theorem execTapBypass_wf (s : State) : KeepsWf s (execTapBypass s) :=
  s.keepsWf_runWith _ fun o d hw => wf_tapSelect _ _ o d (fun _ he => he) hw

theorem execTapDbgChal_wf (s : State) : KeepsWf s (execTapDbgChal s) :=
  s.keepsWf_runWith _ fun o d hw => wf_tapSelect _ _ o d (fun e he => by simpa using he) hw

theorem execTapDbgToken_wf (token : List Byte) (s : State) : KeepsWf s (execTapDbgToken token s) :=
  s.keepsWf_runWith _ fun o d hw => wf_tapSelect _ _ o d (fun e he => by simpa using he) hw

theorem execTapDbgWake_wf (s : State) : KeepsWf s (execTapDbgWake s) :=
  s.keepsWf_runWith _ fun o d hw => wf_tapSelect _ _ o d (fun e he => wf_ite (by rwa [Dev.wake_mem _ _ rfl]) he) hw

theorem execTapDbgBridge_wf (s : State) : KeepsWf s (execTapDbgBridge s) :=
  s.keepsWf_runWith _ fun o d hw => wf_tapSelect _ _ o d (fun _ he => he) hw

theorem execTapSamplePreload_wf (value : Nat) (s : State) : KeepsWf s (execTapSamplePreload value s) :=
  s.keepsWf_runWith _ fun o d hw => wf_tapSelect _ _ o d (fun _ he => he) hw

theorem execTapExtest_wf (value : Nat) (s : State) : KeepsWf s (execTapExtest value s) :=
  s.keepsWf_runWith _ fun o d hw => wf_tapSelect _ _ o d (fun e he => by simpa using he) hw

theorem execTapClamp_wf (s : State) : KeepsWf s (execTapClamp s) :=
  s.keepsWf_runWith _ fun o d hw => wf_tapSelect _ _ o d (fun e he => by simpa using he) hw

theorem execTapHighz_wf (s : State) : KeepsWf s (execTapHighz s) :=
  s.keepsWf_runWith _ fun o d hw => wf_tapSelect _ _ o d (fun _ he => he) hw

theorem execTapReset_wf (s : State) : KeepsWf s (execTapReset s) :=
  s.keepsWf_run _ fun d hw => by simp [hw]

theorem execSupplyWarningSafe_wf (sample : BitVec 8) (after : Nat) (s : State) : KeepsWf s (execSupplyWarningSafe sample after s) := by
  refine s.keepsWf_run _ fun d hw => ?_
  dsimp only
  repeat' split
  all_goals simp [hw]

theorem execSupplyWarningMgmt_wf (s : State) : KeepsWf s (execSupplyWarningMgmt s) := by
  refine s.keepsWf_runOtp _ fun o d hw => ?_
  split <;> simp [hw]

theorem execSupplyWarningDeassert_wf (sample : BitVec 8) (after : Nat) (s : State) : KeepsWf s (execSupplyWarningDeassert sample after s) :=
  s.keepsWf_run _ fun d hw => by simp [Dev.mem_ite, hw]

theorem execDipQualified_wf (sample : BitVec 8) (s : State) : KeepsWf s (execDipQualified sample s) := by
  refine s.keepsWf_run _ fun d hw => ?_
  dsimp only
  split
  · exact hw
  · split
    · exact hw
    · rename_i r _
      refine wf_ite hw ?_
      have he : Memory.wf (d.elapse (r + 64000 - d.now)).mem = true := by rwa [Dev.elapse_mem]
      generalize d.elapse (r + 64000 - d.now) = e at he
      rw [Dev.mem_ite, Dev.mem_ite, Dev.qualifyFrom_mem, Dev.closeDip_mem, Dev.wr_mem, Dev.modDip_mem, Dev.adcSample_mem, ite_self, ite_self, he]

theorem execSupplyUvLong_wf (s : State) : KeepsWf s (execSupplyUvLong s) := by
  refine s.keepsWf_run _ fun d hw => ?_
  repeat' split
  all_goals simp [hw]

theorem execMonitorArm_wf (s : State) : KeepsWf s (execMonitorArm s) := by
  refine s.keepsWf_hostWith _ fun o d hw => ?_
  repeat' split
  all_goals simp [hw]

theorem execMonitorRecover_wf (seq : BitVec 16) (s : State) : KeepsWf s (execMonitorRecover seq s) := by
  refine s.keepsWf_hostWith _ fun o d hw => ?_
  repeat' split
  all_goals simp [hw]

theorem execMonitorTrip_wf (s : State) : KeepsWf s (execMonitorTrip s) :=
  s.keepsWf_host _ fun d hw => by simp [Dev.mem_ite, hw]

theorem execMonitorDisarm_wf (s : State) : KeepsWf s (execMonitorDisarm s) :=
  s.keepsWf_host _ fun d hw => by simp [Dev.mem_ite, hw]

theorem execTickHeartbeat_wf (s : State) : KeepsWf s (execTickHeartbeat s) := by
  refine s.keepsWf_runSaf _ fun o d hw => ?_
  dsimp only
  repeat' split
  all_goals simp [hw]

theorem execFaultReport_wf (n : Nat) (s : State) : KeepsWf s (execFaultReport n s) := by
  refine s.keepsWf_runSaf _ fun o d hw => ?_
  simp only [Dev.takeFaults_mem]
  rw [foldl_mem _ _ fun d r => by simp]
  exact hw

theorem execSafeOutRefreshTimeout_wf (s : State) : KeepsWf s (execSafeOutRefreshTimeout s) :=
  s.keepsWf_runSaf _ fun o d hw => by simp [Dev.mem_ite, hw]

theorem execOutReadbackFault_wf (a b : Bool) (s : State) : KeepsWf s (execOutReadbackFault a b s) :=
  s.keepsWf_runSaf _ fun o d hw => by simp [Dev.mem_ite, hw]

theorem execTickWatchdogExpiry_wf (s : State) : KeepsWf s (execTickWatchdogExpiry s) :=
  s.keepsWf_runSaf _ fun o d hw => by simp [Dev.mem_ite, hw]

theorem execClockMonitorFault_wf (domain : Fin 7) (fail : Bool) (s : State) : KeepsWf s (execClockMonitorFault domain fail s) :=
  s.keepsWf_runSaf _ fun o d hw => by simp [Dev.mem_ite, hw]

theorem execSafeOscWindow_wf (count : Nat) (s : State) : KeepsWf s (execSafeOscWindow count s) := by
  refine s.keepsWf_runSaf_of_eq _ fun o d e he hw => ?_
  split at he
  · simpa [← he] using hw
  · simpa [← he] using hw

theorem execHostAliveEdge_wf (after : Nat) (s : State) : KeepsWf s (execHostAliveEdge after s) :=
  s.keepsWf_runSaf _ fun o d hw => by simp [Dev.mem_ite, hw]

theorem execHostAliveExpiry_wf (s : State) : KeepsWf s (execHostAliveExpiry s) :=
  s.keepsWf_runSaf _ fun o d hw => by simp [Dev.mem_ite, hw]

theorem execSafeInActive_wf (level : Bool) (s : State) : KeepsWf s (execSafeInActive level s) :=
  s.keepsWf_runSaf _ fun o d hw => by simp [Dev.mem_ite, hw]

theorem execBcWindowExpiry_wf (c : Fin 16) (s : State) : KeepsWf s (execBcWindowExpiry c s) :=
  s.keepsWf_runSaf _ fun o d hw => by simp [Dev.mem_ite, hw]

theorem execScrubStep_wf (n : Fin 64) (s : State) : KeepsWf s (execScrubStep n s) :=
  s.keepsWf_run _ fun d hw => by simp [Dev.mem_ite, hw]

theorem execScrubLate_wf (s : State) : KeepsWf s (execScrubLate s) :=
  s.keepsWf_runSaf _ fun o d hw => by simp [Dev.mem_ite, hw]

theorem execPowerStateChoice_wf (s : State) : KeepsWf s (execPowerStateChoice s) :=
  s.keepsWf_run _ fun d hw => by simp [Dev.mem_ite, hw]

theorem execScheduledWake_wf (n : Fin 64) (s : State) : KeepsWf s (execScheduledWake n s) :=
  s.keepsWf_run _ fun d hw => by simp [Dev.mem_ite, hw]

theorem execA3Commit_wf (s : State) : KeepsWf s (execA3Commit s) :=
  s.keepsWf_run _ fun d hw => by simp [Dev.mem_ite, hw]

theorem execPowerStateExitDone_wf (s : State) : KeepsWf s (execPowerStateExitDone s) :=
  s.keepsWf_run _ fun d hw => by simp [hw, Dev.wf_exitDone]

theorem execWakeSignalDetect_wf (p : Fin 4) (s : State) : KeepsWf s (execWakeSignalDetect p s) := by
  refine s.keepsWf_run _ fun d hw => ?_
  grind [Dev.setFldBit_mem, Dev.wake_mem]

theorem execWakeTimerExpiry_wf (s : State) : KeepsWf s (execWakeTimerExpiry s) := by
  refine s.keepsWf_run _ fun d hw => ?_
  grind [Dev.elapse_mem, Dev.wake_mem, Dev.wr_mem]

theorem execHostLinkWake_wf (s : State) : KeepsWf s (execHostLinkWake s) := by
  refine s.keepsWf_run _ fun d hw => ?_
  grind [Dev.wake_mem, Dev.wr_mem]

theorem execMaxStateWrite_wf (v : Fin 4) (s : State) : KeepsWf s (execMaxStateWrite v s) :=
  s.keepsWf_run _ fun d hw => by simp [Dev.mem_ite, hw, Dev.wf_hostAccess]

theorem execPmeMessage_wf (f : Fin 2) (s : State) : KeepsWf s (execPmeMessage f s) :=
  s.keepsWf_run _ fun d hw => by simp [Dev.mem_ite, hw]

theorem execAdd_wf (e : Fin 16) (rd a b : Rn) (s : State) : KeepsWf s (execAdd e rd a b s) :=
  s.keepsWf_run _ fun d hw => by simp [hw, Dev.wf_issue]

theorem execSub_wf (e : Fin 16) (rd a b : Rn) (s : State) : KeepsWf s (execSub e rd a b s) :=
  s.keepsWf_run _ fun d hw => by simp [hw, Dev.wf_issue]

theorem execAnd_wf (e : Fin 16) (rd a b : Rn) (s : State) : KeepsWf s (execAnd e rd a b s) :=
  s.keepsWf_run _ fun d hw => by simp [hw, Dev.wf_issue]

theorem execOr_wf (e : Fin 16) (rd a b : Rn) (s : State) : KeepsWf s (execOr e rd a b s) :=
  s.keepsWf_run _ fun d hw => by simp [hw, Dev.wf_issue]

theorem execXor_wf (e : Fin 16) (rd a b : Rn) (s : State) : KeepsWf s (execXor e rd a b s) :=
  s.keepsWf_run _ fun d hw => by simp [hw, Dev.wf_issue]

theorem execShl_wf (e : Fin 16) (rd a b : Rn) (s : State) : KeepsWf s (execShl e rd a b s) :=
  s.keepsWf_run _ fun d hw => by simp [hw, Dev.wf_issue]

theorem execShr_wf (e : Fin 16) (rd a b : Rn) (s : State) : KeepsWf s (execShr e rd a b s) :=
  s.keepsWf_run _ fun d hw => by simp [hw, Dev.wf_issue]

theorem execShrs_wf (e : Fin 16) (rd a b : Rn) (s : State) : KeepsWf s (execShrs e rd a b s) :=
  s.keepsWf_run _ fun d hw => by simp [hw, Dev.wf_issue]

theorem execMul_wf (e : Fin 16) (rd a b : Rn) (s : State) : KeepsWf s (execMul e rd a b s) :=
  s.keepsWf_run _ fun d hw => by simp [hw, Dev.wf_issue]

theorem execSetLt_wf (e : Fin 16) (rd a b : Rn) (s : State) : KeepsWf s (execSetLt e rd a b s) :=
  s.keepsWf_run _ fun d hw => by simp [hw, Dev.wf_issue]

theorem execSetUlt_wf (e : Fin 16) (rd a b : Rn) (s : State) : KeepsWf s (execSetUlt e rd a b s) :=
  s.keepsWf_run _ fun d hw => by simp [hw, Dev.wf_issue]

theorem execBswap_wf (e : Fin 16) (rd a : Rn) (s : State) : KeepsWf s (execBswap e rd a s) :=
  s.keepsWf_run _ fun d hw => by simp [hw, Dev.wf_issue]

theorem execAddK_wf (e : Fin 16) (rd a : Rn) (imm : BitVec 16) (s : State) : KeepsWf s (execAddK e rd a imm s) :=
  s.keepsWf_run _ fun d hw => by simp [hw, Dev.wf_issue]

theorem execAndK_wf (e : Fin 16) (rd a : Rn) (imm : BitVec 16) (s : State) : KeepsWf s (execAndK e rd a imm s) :=
  s.keepsWf_run _ fun d hw => by simp [hw, Dev.wf_issue]

theorem execOrK_wf (e : Fin 16) (rd a : Rn) (imm : BitVec 16) (s : State) : KeepsWf s (execOrK e rd a imm s) :=
  s.keepsWf_run _ fun d hw => by simp [hw, Dev.wf_issue]

theorem execCati_wf (e : Fin 16) (rd a : Rn) (imm : BitVec 16) (s : State) : KeepsWf s (execCati e rd a imm s) :=
  s.keepsWf_run _ fun d hw => by simp [hw, Dev.wf_issue]

theorem execShli_wf (e : Fin 16) (rd a : Rn) (pos : Fin 64) (s : State) : KeepsWf s (execShli e rd a pos s) :=
  s.keepsWf_run _ fun d hw => by simp [hw, Dev.wf_issue]

theorem execShri_wf (e : Fin 16) (rd a : Rn) (pos : Fin 64) (s : State) : KeepsWf s (execShri e rd a pos s) :=
  s.keepsWf_run _ fun d hw => by simp [hw, Dev.wf_issue]

theorem execShrsi_wf (e : Fin 16) (rd a : Rn) (pos : Fin 64) (s : State) : KeepsWf s (execShrsi e rd a pos s) :=
  s.keepsWf_run _ fun d hw => by simp [hw, Dev.wf_issue]

theorem execExtr_wf (e : Fin 16) (rd a : Rn) (pos : Fin 64) (lenm1 : Fin 64) (s : State) : KeepsWf s (execExtr e rd a pos lenm1 s) :=
  s.keepsWf_run _ fun d hw => by simp [hw, Dev.wf_issue]

theorem execIns_wf (e : Fin 16) (rd a : Rn) (pos : Fin 64) (lenm1 : Fin 64) (s : State) : KeepsWf s (execIns e rd a pos lenm1 s) :=
  s.keepsWf_run _ fun d hw => by simp [hw, Dev.wf_issue]

theorem execBrEq_wf (e : Fin 16) (a b : Rn) (off : BitVec 16) (s : State) : KeepsWf s (execBrEq e a b off s) :=
  s.keepsWf_run _ fun d hw => by simp [hw, Dev.wf_issue]

theorem execBrNe_wf (e : Fin 16) (a b : Rn) (off : BitVec 16) (s : State) : KeepsWf s (execBrNe e a b off s) :=
  s.keepsWf_run _ fun d hw => by simp [hw, Dev.wf_issue]

theorem execBrLt_wf (e : Fin 16) (a b : Rn) (off : BitVec 16) (s : State) : KeepsWf s (execBrLt e a b off s) :=
  s.keepsWf_run _ fun d hw => by simp [hw, Dev.wf_issue]

theorem execBrGe_wf (e : Fin 16) (a b : Rn) (off : BitVec 16) (s : State) : KeepsWf s (execBrGe e a b off s) :=
  s.keepsWf_run _ fun d hw => by simp [hw, Dev.wf_issue]

theorem execBrUlt_wf (e : Fin 16) (a b : Rn) (off : BitVec 16) (s : State) : KeepsWf s (execBrUlt e a b off s) :=
  s.keepsWf_run _ fun d hw => by simp [hw, Dev.wf_issue]

theorem execBrUge_wf (e : Fin 16) (a b : Rn) (off : BitVec 16) (s : State) : KeepsWf s (execBrUge e a b off s) :=
  s.keepsWf_run _ fun d hw => by simp [hw, Dev.wf_issue]

theorem execJlink_wf (e : Fin 16) (rd : Rn) (off : BitVec 21) (s : State) : KeepsWf s (execJlink e rd off s) :=
  s.keepsWf_run _ fun d hw => by simp [hw, Dev.wf_issue]

theorem execJlinkr_wf (e : Fin 16) (rd a : Rn) (imm : BitVec 16) (s : State) : KeepsWf s (execJlinkr e rd a imm s) :=
  s.keepsWf_run _ fun d hw => by simp [hw, Dev.wf_issue]

theorem execLdb_wf (e : Fin 16) (rd a : Rn) (imm : BitVec 16) (diff : Bool) (s : State) : KeepsWf s (execLdb e rd a imm diff s) :=
  s.keepsWf_run _ fun d hw => by simp [hw, Dev.wf_issue]

theorem execLdh_wf (e : Fin 16) (rd a : Rn) (imm : BitVec 16) (diff : Bool) (s : State) : KeepsWf s (execLdh e rd a imm diff s) :=
  s.keepsWf_run _ fun d hw => by simp [hw, Dev.wf_issue]

theorem execLdw_wf (e : Fin 16) (rd a : Rn) (imm : BitVec 16) (diff : Bool) (s : State) : KeepsWf s (execLdw e rd a imm diff s) :=
  s.keepsWf_run _ fun d hw => by simp [hw, Dev.wf_issue]

theorem execLdd_wf (e : Fin 16) (rd a : Rn) (imm : BitVec 16) (diff : Bool) (s : State) : KeepsWf s (execLdd e rd a imm diff s) :=
  s.keepsWf_run _ fun d hw => by simp [hw, Dev.wf_issue]

theorem execStb_wf (e : Fin 16) (b a : Rn) (imm : BitVec 16) (diff : Bool) (s : State) : KeepsWf s (execStb e b a imm diff s) :=
  s.keepsWf_run _ fun d hw => by simp [hw, Dev.wf_issue]

theorem execSth_wf (e : Fin 16) (b a : Rn) (imm : BitVec 16) (diff : Bool) (s : State) : KeepsWf s (execSth e b a imm diff s) :=
  s.keepsWf_run _ fun d hw => by simp [hw, Dev.wf_issue]

theorem execStw_wf (e : Fin 16) (b a : Rn) (imm : BitVec 16) (diff : Bool) (s : State) : KeepsWf s (execStw e b a imm diff s) :=
  s.keepsWf_run _ fun d hw => by simp [hw, Dev.wf_issue]

theorem execStd_wf (e : Fin 16) (b a : Rn) (imm : BitVec 16) (diff : Bool) (s : State) : KeepsWf s (execStd e b a imm diff s) :=
  s.keepsWf_run _ fun d hw => by simp [hw, Dev.wf_issue]

theorem execAtomAdd_wf (e : Fin 16) (rd a b : Rn) (diff : Bool) (s : State) : KeepsWf s (execAtomAdd e rd a b diff s) :=
  s.keepsWf_run _ fun d hw => by simp [hw, Dev.wf_issue]

theorem execAtomXch_wf (e : Fin 16) (rd a b : Rn) (diff : Bool) (s : State) : KeepsWf s (execAtomXch e rd a b diff s) :=
  s.keepsWf_run _ fun d hw => by simp [hw, Dev.wf_issue]

theorem execAtomCas_wf (e : Fin 16) (rd a b : Rn) (diff : Bool) (s : State) : KeepsWf s (execAtomCas e rd a b diff s) :=
  s.keepsWf_run _ fun d hw => by simp [hw, Dev.wf_issue]

theorem execFenceSl_wf (e : Fin 16) (s : State) : KeepsWf s (execFenceSl e s) :=
  s.keepsWf_run _ fun d hw => by simp [hw, Dev.wf_issue]

theorem execWadj_wf (e : Fin 16) (rd a : Rn) (s : State) : KeepsWf s (execWadj e rd a s) :=
  s.keepsWf_run _ fun d hw => by simp [hw, Dev.wf_issue]

theorem execWsetl_wf (e : Fin 16) (rd a : Rn) (s : State) : KeepsWf s (execWsetl e rd a s) :=
  s.keepsWf_run _ fun d hw => by simp [hw, Dev.wf_issue]

theorem execLookupExact_wf (e : Fin 16) (rd a b : Rn) (diff : Bool) (s : State) : KeepsWf s (execLookupExact e rd a b diff s) :=
  s.keepsWf_run _ fun d hw => by simp [hw, Dev.wf_issue]

theorem execLookupTernary_wf (e : Fin 16) (rd a b : Rn) (diff : Bool) (s : State) : KeepsWf s (execLookupTernary e rd a b diff s) :=
  s.keepsWf_run _ fun d hw => by simp [hw, Dev.wf_issue]

theorem execLookupBoth_wf (e : Fin 16) (rd a b : Rn) (diff : Bool) (s : State) : KeepsWf s (execLookupBoth e rd a b diff s) :=
  s.keepsWf_run _ fun d hw => by simp [hw, Dev.wf_issue]

theorem execCsum_wf (e : Fin 16) (rd a b : Rn) (diff : Bool) (s : State) : KeepsWf s (execCsum e rd a b diff s) :=
  s.keepsWf_run _ fun d hw => by simp [hw, Dev.wf_issue]

theorem execCrcE_wf (e : Fin 16) (rd a b : Rn) (diff : Bool) (s : State) : KeepsWf s (execCrcE e rd a b diff s) :=
  s.keepsWf_run _ fun d hw => by simp [hw, Dev.wf_issue]

theorem execCrcC_wf (e : Fin 16) (rd a b : Rn) (diff : Bool) (s : State) : KeepsWf s (execCrcC e rd a b diff s) :=
  s.keepsWf_run _ fun d hw => by simp [hw, Dev.wf_issue]

theorem execTake_wf (e : Fin 16) (rd : Rn) (diff : Bool) (s : State) : KeepsWf s (execTake e rd diff s) :=
  s.keepsWf_run _ fun d hw => by simp [hw, Dev.wf_issue]

theorem execTxcq_wf (e : Fin 16) (rd : Rn) (diff : Bool) (s : State) : KeepsWf s (execTxcq e rd diff s) :=
  s.keepsWf_run _ fun d hw => by simp [hw, Dev.wf_issue]

theorem execTxcan_wf (e : Fin 16) (a : Rn) (diff : Bool) (s : State) : KeepsWf s (execTxcan e a diff s) :=
  s.keepsWf_run _ fun d hw => by simp [hw, Dev.wf_issue]

theorem execCopy_wf (e : Fin 16) (rd : Rn) (diff : Bool) (s : State) : KeepsWf s (execCopy e rd diff s) :=
  s.keepsWf_run _ fun d hw => by simp [hw, Dev.wf_issue]

theorem execFwd_wf (e : Fin 16) (rd a b : Rn) (diff : Bool) (s : State) : KeepsWf s (execFwd e rd a b diff s) :=
  s.keepsWf_run _ fun d hw => by simp [hw, Dev.wf_issue]

theorem execDeliv_wf (e : Fin 16) (rd a : Rn) (diff : Bool) (s : State) : KeepsWf s (execDeliv e rd a diff s) :=
  s.keepsWf_run _ fun d hw => by simp [hw, Dev.wf_issue]

theorem execCrypt_wf (e : Fin 16) (rd a b : Rn) (diff : Bool) (s : State) : KeepsWf s (execCrypt e rd a b diff s) :=
  s.keepsWf_run _ fun d hw => by simp [hw, Dev.wf_issue]

theorem execBridge_wf (e : Fin 16) (rd a b : Rn) (diff : Bool) (s : State) : KeepsWf s (execBridge e rd a b diff s) :=
  s.keepsWf_run _ fun d hw => by simp [hw, Dev.wf_issue]

theorem execStor_wf (e : Fin 16) (rd a b : Rn) (diff : Bool) (s : State) : KeepsWf s (execStor e rd a b diff s) :=
  s.keepsWf_run _ fun d hw => by simp [hw, Dev.wf_issue]

theorem execDrop_wf (e : Fin 16) (diff : Bool) (s : State) : KeepsWf s (execDrop e diff s) :=
  s.keepsWf_run _ fun d hw => by simp [hw, Dev.wf_issue]

theorem execRdtTick_wf (e : Fin 16) (rd : Rn) (s : State) : KeepsWf s (execRdtTick e rd s) :=
  s.keepsWf_run _ fun d hw => by simp [hw, Dev.wf_issue]

theorem execRdtTickOffset_wf (e : Fin 16) (rd : Rn) (s : State) : KeepsWf s (execRdtTickOffset e rd s) :=
  s.keepsWf_run _ fun d hw => by simp [hw, Dev.wf_issue]

theorem execRdtOccurrenceCycles_wf (e : Fin 16) (rd : Rn) (s : State) : KeepsWf s (execRdtOccurrenceCycles e rd s) :=
  s.keepsWf_run _ fun d hw => by simp [hw, Dev.wf_issue]

theorem execWaitt_wf (e : Fin 16) (rd a : Rn) (s : State) : KeepsWf s (execWaitt e rd a s) :=
  s.keepsWf_run _ fun d hw => by simp [hw, Dev.wf_issue]

theorem execCancel_wf (e : Fin 16) (a : Rn) (diff : Bool) (s : State) : KeepsWf s (execCancel e a diff s) :=
  s.keepsWf_run _ fun d hw => by simp [hw, Dev.wf_issue]

theorem execYield_wf (e : Fin 16) (s : State) : KeepsWf s (execYield e s) :=
  s.keepsWf_run _ fun d hw => by simp [hw, Dev.wf_issue]

theorem execHalt_wf (e : Fin 16) (code : BitVec 16) (diff : Bool) (s : State) : KeepsWf s (execHalt e code diff s) :=
  s.keepsWf_run _ fun d hw => by simp [hw, Dev.wf_issue]

theorem execWaittResume_wf (e : Fin 16) (s : State) : KeepsWf s (execWaittResume e s) := by
  refine s.keepsWf_run _ fun d hw => ?_
  repeat' split
  all_goals simp [hw]

theorem execEngineHalt_wf (e : Fin 16) (s : State) : KeepsWf s (execEngineHalt e s) :=
  s.keepsWf_run _ fun d hw => by simp [Dev.mem_ite, hw]

theorem execEngineHaltTakesEffect_wf (e : Fin 16) (s : State) : KeepsWf s (execEngineHaltTakesEffect e s) := by
  refine s.keepsWf_run _ fun d hw => ?_
  dsimp only
  repeat' split
  all_goals simp [hw, Dev.wf_mismatch, Dev.wf_preempt]

theorem execEngineResume_wf (e : Fin 16) (s : State) : KeepsWf s (execEngineResume e s) :=
  s.keepsWf_run _ fun d hw => by simp [Dev.mem_ite, hw]

theorem execEngineSingleStep_wf (e : Fin 16) (s : State) : KeepsWf s (execEngineSingleStep e s) := by
  refine s.keepsWf_run _ fun d hw => ?_
  dsimp only
  repeat' split
  all_goals simp [hw, Dev.wf_badWord, Dev.wf_execute]

theorem execTickStart_wf (s : State) : KeepsWf s (execTickStart s) :=
  s.keepsWf_host _ fun d hw => by simp [hw]

theorem execTickStop_wf (s : State) : KeepsWf s (execTickStop s) :=
  s.keepsWf_host _ fun d hw => by simp [Dev.mem_ite, hw]

theorem execTickBoundary_wf (s : State) : KeepsWf s (execTickBoundary s) := by
  refine s.keepsWf_run _ fun d hw => ?_
  refine wf_ite hw ?_
  simp only [Dev.ageClear_mem]
  exact wf_foldl _ _ (fun d e hd => d.wf_almApply _ e hd) _ (by simpa using hw)

theorem execBoundaryCore_wf (s : State) : KeepsWf s (execBoundaryCore s) := by
  refine s.keepsWf_run _ fun d hw => ?_
  split
  · exact hw
  · extract_lets t d1 ph d2 ovr d3 c d4 armedSw k d5 d6 t2 t3 d7
    have hw1 : Memory.wf d1.mem = true := by simpa [d1] using hw
    have hw2 : Memory.wf d2.mem = true := by
      clear_value ph
      cases ph with
      | nil => exact hw1
      | cons p ps => simpa [d2] using Dev.wf_overrun _ _ hw1
    have hw4 : Memory.wf d4.mem = true := wf_ite hw2 hw2
    have hw5 : Memory.wf d5.mem = true := wf_ite hw4 hw4
    exact wf_ite (by simpa [d6] using hw5) (wf_ite (Dev.wf_overlaySwitch _ _ hw5) hw5)

theorem execPhaseOpen_wf (p4 : Bool) (s : State) : KeepsWf s (execPhaseOpen p4 s) :=
  s.keepsWf_run _ fun d hw => by simp [Dev.mem_ite, hw]

theorem execP3Mark_wf (s : State) : KeepsWf s (execP3Mark s) := by
  refine s.keepsWf_run _ fun d hw => ?_
  refine wf_ite hw ?_
  rw [foldl_mem _ _ fun d p => by simp]
  simpa using hw

theorem execSlotReady_wf (n : Fin 64) (s : State) : KeepsWf s (execSlotReady n s) :=
  s.keepsWf_run _ fun d hw => by simp [Dev.mem_ite, hw]

theorem execSlotDispatch_wf (n : Fin 64) (s : State) : KeepsWf s (execSlotDispatch n s) := by
  refine s.keepsWf_run _ fun d hw => ?_
  dsimp only
  repeat' split
  all_goals simp [hw, Dev.wf_dispatchEngine]

theorem execSlotCut_wf (n : Fin 64) (s : State) : KeepsWf s (execSlotCut n s) := by
  refine s.keepsWf_run _ fun d hw => ?_
  split <;> simp [hw, Dev.wf_cutOcc]

theorem execSlotCancel_wf (s : State) : KeepsWf s (execSlotCancel s) := by
  refine s.keepsWf_run _ fun d hw => ?_
  dsimp only
  repeat' split
  all_goals simp [hw]

theorem execTckRecFifoPop_wf (s : State) : KeepsWf s (execTckRecFifoPop s) :=
  s.keepsWf_host _ fun d hw => by simp [hw]

theorem execFunctionLevelReset_wf (f : Fin 50) (s : State) : KeepsWf s (execFunctionLevelReset f s) := by
  refine s.keepsWf_run _ fun d hw => ?_
  dsimp only
  repeat' split
  all_goals simp [hw, Dev.wf_flr, Dev.wf_hostAccess]

theorem execFlrComplete_wf (f : Fin 50) (s : State) : KeepsWf s (execFlrComplete f s) :=
  s.keepsWf_run _ fun d hw => by simp [hw]

theorem execVfEnable_wf (s : State) : KeepsWf s (execVfEnable s) :=
  s.keepsWf_run _ fun d hw => by simp [Dev.mem_ite, hw, Dev.wf_hostAccess]

theorem execVfDisable_wf (s : State) : KeepsWf s (execVfDisable s) :=
  s.keepsWf_run _ fun d hw => by simp [hw, Dev.wf_hostAccess, Dev.wf_vfOff]

theorem execHostLinkUp_wf (speed : Fin 4) (width : Fin 3) (reversed : Bool) (s : State) : KeepsWf s (execHostLinkUp speed width reversed s) :=
  s.keepsWf_run _ fun d hw => by simp [Dev.mem_ite, hw]

theorem execHostLinkRetrain_wf (speed : Fin 4) (width : Fin 3) (s : State) : KeepsWf s (execHostLinkRetrain speed width s) :=
  s.keepsWf_run _ fun d hw => by simp [Dev.mem_ite, hw]

theorem execHostLinkDown_wf (s : State) : KeepsWf s (execHostLinkDown s) :=
  s.keepsWf_run _ fun d hw => by simp [hw, Dev.wf_hostDown]

theorem execHotReset_wf (s : State) : KeepsWf s (execHotReset s) := by
  refine s.keepsWf_run _ fun d hw => ?_
  split <;> simp [hw, Dev.wf_linkReset]

theorem execPmeTurnOff_wf (s : State) : KeepsWf s (execPmeTurnOff s) :=
  s.keepsWf_run _ fun d hw => by simp [Dev.mem_ite, hw]

theorem execAspmL1Entry_wf (s : State) : KeepsWf s (execAspmL1Entry s) :=
  s.keepsWf_run _ fun d hw => by simp [Dev.mem_ite, hw]

theorem execBusMasterEnableWrite_wf (f : Fin 50) (v : Bool) (s : State) : KeepsWf s (execBusMasterEnableWrite f v s) := by
  refine s.keepsWf_run _ fun d hw => ?_
  dsimp only
  repeat' split
  all_goals simp [hw, Dev.wf_hostAccess, Dev.wf_hostResume]

theorem execPowerStateWrite_wf (f : Fin 2) (v : Fin 4) (s : State) : KeepsWf s (execPowerStateWrite f v s) := by
  refine s.keepsWf_run _ fun d hw => ?_
  dsimp only
  repeat' split
  all_goals simp [hw, Dev.wf_hostAccess, Dev.wf_hostResume]

theorem execMsixRequest_wf (s : State) : KeepsWf s (execMsixRequest s) := by
  refine s.keepsWf_run _ fun d hw => ?_
  split <;> simp [hw]

theorem execMsixUnblock_wf (f : Fin 50) (v : Fin 64) (s : State) : KeepsWf s (execMsixUnblock f v s) :=
  s.keepsWf_run _ fun d hw => by simp [hw]

theorem execIntxMessage_wf (wire : Fin 2) (s : State) : KeepsWf s (execIntxMessage wire s) :=
  s.keepsWf_run _ fun d hw => by simp [hw]

theorem execLtrMessage_wf (s : State) : KeepsWf s (execLtrMessage s) := by
  refine s.keepsWf_run _ fun d hw => wf_ite hw ?_
  have hsent : ∀ e : Dev, Memory.wf e.mem = true → Memory.wf (match e.ltrDue with
      | none => e
      | some (m, keep) =>
        (({ e with hep := { e.hep with ltrSent := keep, ltrAt := some e.now } } : Dev).emit (.ltr m.1 m.2)).count 0x50 0 1).mem = true :=
    fun e he => by
      split
      · exact he
      · simp [he]
  refine hsent _ ?_
  split
  · rwa [Dev.elapse_mem]
  · exact hw

theorem execHostLinkError_wf (kind : Fin 11) (s : State) : KeepsWf s (execHostLinkError kind s) := by
  refine s.keepsWf_run _ fun d hw => ?_
  split <;> simp [hw]

theorem execInboundUnsupported_wf (kind : Fin 9) (f : Fin 50) (s : State) : KeepsWf s (execInboundUnsupported kind f s) := by
  refine s.keepsWf_run _ fun d hw => ?_
  dsimp only
  repeat' split
  all_goals simp [hw]

theorem execPoisonedWriteRx_wf (f : Fin 50) (s : State) : KeepsWf s (execPoisonedWriteRx f s) :=
  s.keepsWf_run _ fun d hw => by simp [hw]

theorem execCtnFreeze_wf (s : State) : KeepsWf s (execCtnFreeze s) :=
  s.keepsWf_run _ fun d hw => by simp [hw, Dev.wf_hostAccess]

theorem execCtnRelease_wf (go : Bool) (seq : BitVec 16) (s : State) : KeepsWf s (execCtnRelease go seq s) :=
  s.keepsWf_run _ fun d hw => by simp [Dev.mem_ite, hw, Dev.wf_hostAccess]

theorem execCtnReleaseComplete_wf (s : State) : KeepsWf s (execCtnReleaseComplete s) := by
  refine s.keepsWf_run _ fun d hw => ?_
  split <;> simp [hw, Dev.wf_hostResume]

theorem execPowerOnReset_wf (s : State) : KeepsWf s (execPowerOnReset s) :=
  s.keepsWf_runPin _ fun _ _ _ => rfl

theorem execPowerOnClassReset_wf (s : State) : KeepsWf s (execPowerOnClassReset s) :=
  s.keepsWf_runPin _ fun _ _ _ => rfl

theorem execWarmReset_wf (key : BitVec 8) (s : State) : KeepsWf s (execWarmReset key s) := by
  refine s.keepsWf_runOtp _ fun o d hw => ?_
  exact wf_ite_snd (by simpa using d.wf_hostAccess false hw) (wf_ite_snd (by simpa using d.wf_hostAccess false hw) rfl)

theorem execSafetyReset_wf (key : BitVec 8) (s : State) : KeepsWf s (execSafetyReset key s) := by
  refine s.keepsWf_runOtp _ fun o d hw => ?_
  exact wf_ite_snd (by simpa using d.wf_hostAccess false hw) (wf_ite_snd (by simpa using d.wf_hostAccess false hw) rfl)

theorem execWatchdogExpiry_wf (s : State) : KeepsWf s (execWatchdogExpiry s) := by
  refine s.keepsWf_runOtp_of_eq _ fun o d r hr hw => ?_
  split at hr
  · rwa [← hr]
  · split at hr
    · rwa [← hr]
    · obtain ⟨k, e, rfl⟩ : ∃ k e, r = Dev.resetNow k o e := ⟨_, _, hr.symm⟩
      rw [Dev.resetNow_mem]
      rfl

theorem execWdtFeed_wf (value : BitVec 32) (s : State) : KeepsWf s (execWdtFeed value s) :=
  s.keepsWf_run _ fun d hw => by simp [Dev.mem_ite, hw, Dev.wf_hostAccess]

theorem execPerstAssert_wf (s : State) : KeepsWf s (execPerstAssert s) := by
  refine s.keepsWf_runPin _ fun o d hw => ?_
  dsimp only
  repeat' split
  all_goals simp [hw, Dev.wf_flr]

theorem execPerstDeassert_wf (s : State) : KeepsWf s (execPerstDeassert s) := by
  refine s.keepsWf_runPin _ fun o d hw => ?_
  dsimp only
  repeat' split
  all_goals simp [hw]

theorem execResetRelease_wf (testEn sfdp quad erase addr4 : Bool) (log2 : Fin 32) (s : State) : KeepsWf s (execResetRelease testEn sfdp quad erase addr4 log2 s) := by
  refine s.keepsWf_runPin _ fun o d hw => ?_
  refine wf_ite_snd hw ?_
  extract_lets b c b2 d1 d2 d3 ok
  have hw3 : Memory.wf d3.mem = true := wf_foldl _ _ (fun d e hd => Dev.wf_almDefault o d e hd) _ (by simp only [d2, d1, Dev.wr_mem, Dev.newChallenge_mem, Dev.rstCause_mem]; rfl)
  cases sfdp <;> simpa [Dev.fresh] using hw3

theorem execHeaderStageEnd_wf (a b : List Byte) (s : State) : KeepsWf s (execHeaderStageEnd a b s) := by
  refine s.keepsWf_run _ fun d hw => ?_
  dsimp only
  repeat' split
  all_goals simp [hw]

theorem execFlashRead_wf (s : State) : KeepsWf s (execFlashRead s) :=
  s.keepsWf_run _ fun d hw => by simp [hw, Dev.wf_flashCmd]

theorem execFlashProgram_wf (s : State) : KeepsWf s (execFlashProgram s) :=
  s.keepsWf_run _ fun d hw => by simp [hw, Dev.wf_flashCmd]

theorem execFlashErase_wf (s : State) : KeepsWf s (execFlashErase s) :=
  s.keepsWf_run _ fun d hw => by simp [hw, Dev.wf_flashCmd]

theorem execFlashOpDone_wf (timeout : Bool) (page : List Byte) (s : State) : KeepsWf s (execFlashOpDone timeout page s) := by
  refine s.keepsWf_run _ fun d hw => ?_
  dsimp only
  repeat' split
  all_goals simp [hw]

theorem execGpioEdge_wf (n : Fin 8) (rise : Bool) (s : State) : KeepsWf s (execGpioEdge n rise s) := by
  refine s.keepsWf_run _ fun d hw => ?_
  grind [Dev.hepEvent_mem, Dev.setFldBit_mem, Dev.wake_mem, Dev.wr_mem]

theorem execCounterOverflow_wf (s : State) : KeepsWf s (execCounterOverflow s) := by
  refine s.keepsWf_run _ fun d hw => ?_
  dsimp only
  repeat' split
  all_goals simp [hw]

theorem execPmcCntWrite_wf (n : Fin 384) (value : BitVec 64) (s : State) : KeepsWf s (execPmcCntWrite n value s) :=
  s.keepsWf_host _ fun d hw => by simp [hw]

theorem execPmcSelWrite_wf (n : Fin 384) (value : BitVec 32) (s : State) : KeepsWf s (execPmcSelWrite n value s) :=
  s.keepsWf_host _ fun d hw => by simp [Dev.mem_ite, hw]

theorem execPmcFreeze_wf (s : State) : KeepsWf s (execPmcFreeze s) :=
  s.keepsWf_host _ fun d hw => by simp [hw]

theorem execPmcUnfreeze_wf (s : State) : KeepsWf s (execPmcUnfreeze s) :=
  s.keepsWf_host _ fun d hw => by simp [hw]

theorem execPmcSnap_wf (s : State) : KeepsWf s (execPmcSnap s) :=
  s.keepsWf_host _ fun d hw => by simp [hw]

theorem execCounterSnapshotTask_wf (n : Fin 64) (s : State) : KeepsWf s (execCounterSnapshotTask n s) :=
  s.keepsWf_run _ fun d hw => by simp [Dev.mem_ite, hw]

theorem execSampleTaken_wf (p : Fin 8) (h : Fin 2) (s : State) : KeepsWf s (execSampleTaken p h s) := by
  refine s.keepsWf_run _ fun d hw => ?_
  dsimp only
  repeat' split
  all_goals simp [hw]

theorem execSampleRecordWrite_wf (p : Fin 8) (s : State) : KeepsWf s (execSampleRecordWrite p s) := by
  refine s.keepsWf_run _ fun d hw => ?_
  dsimp only
  repeat' split
  all_goals simp [hw]

theorem execSampleRdWrite_wf (p : Fin 8) (value : BitVec 8) (s : State) : KeepsWf s (execSampleRdWrite p value s) :=
  s.keepsWf_host _ fun d hw => by simp [Dev.mem_ite, hw]

theorem execSmpCfgWrite_wf (p : Fin 8) (period : Bool) (value : BitVec 32) (s : State) : KeepsWf s (execSmpCfgWrite p period value s) :=
  s.keepsWf_host _ fun d hw => by simp [Dev.mem_ite, hw]

theorem execSmbusPacketRx_wf (p : List Byte) (s : State) : KeepsWf s (execSmbusPacketRx p s) := by
  refine s.keepsWf_run _ fun d hw => ?_
  dsimp only
  repeat' split
  all_goals simp [hw]

/-- A request served keeps the canonical memory when its answer does. -/
theorem Dev.wf_serve (d : Dev) (c : Nat × Nat) (n : Nat) (f : List Byte → Dev → List Byte × Dev)
    (hf : ∀ x e, Memory.wf e.mem = true → Memory.wf (f x e).2.mem = true) (hw : Memory.wf d.mem = true) :
    Memory.wf (d.serve c n f).mem = true := by
  unfold Dev.serve
  split
  · exact hw
  · refine wf_ite hw (wf_ite (by simpa using hw) ?_)
    rw [Dev.mctpReply_mem]
    exact hf _ _ hw

theorem execMctpSetEndpointId_wf (s : State) : KeepsWf s (execMctpSetEndpointId s) :=
  s.keepsWf_run _ fun d hw => d.wf_serve _ _ _ (fun x e he => wf_ite_snd he (by simpa using he)) hw

theorem execMctpGetEndpointId_wf (s : State) : KeepsWf s (execMctpGetEndpointId s) :=
  s.keepsWf_run _ fun d hw => d.wf_serve _ _ _ (fun _ _ he => he) hw

theorem execMctpGetVersionSupport_wf (s : State) : KeepsWf s (execMctpGetVersionSupport s) :=
  s.keepsWf_run _ fun d hw => d.wf_serve _ _ _ (fun x e he => wf_ite_snd he (by simpa using he)) hw

theorem execMctpGetMessageTypeSupport_wf (s : State) : KeepsWf s (execMctpGetMessageTypeSupport s) :=
  s.keepsWf_run _ fun d hw => d.wf_serve _ _ _ (fun _ _ he => he) hw

theorem execPldmGettid_wf (s : State) : KeepsWf s (execPldmGettid s) :=
  s.keepsWf_run _ fun d hw => d.wf_serve _ _ _ (fun _ _ he => he) hw

theorem execPldmSettid_wf (s : State) : KeepsWf s (execPldmSettid s) :=
  s.keepsWf_run _ fun d hw => d.wf_serve _ _ _ (fun x e he => wf_ite_snd he (by simpa using he)) hw

theorem execPldmGetpldmversion_wf (s : State) : KeepsWf s (execPldmGetpldmversion s) :=
  s.keepsWf_run _ fun d hw => d.wf_serve _ _ _ (fun x e he => wf_ite_snd he (by simpa using he)) hw

theorem execPldmGetpldmtypes_wf (s : State) : KeepsWf s (execPldmGetpldmtypes s) :=
  s.keepsWf_run _ fun d hw => d.wf_serve _ _ _ (fun _ _ he => he) hw

theorem execPldmGetpldmcommands_wf (s : State) : KeepsWf s (execPldmGetpldmcommands s) :=
  s.keepsWf_run _ fun d hw => d.wf_serve _ _ _ (fun _ _ he => wf_ite_snd he he) hw

theorem execPldmGetsensorreading_wf (s : State) : KeepsWf s (execPldmGetsensorreading s) :=
  s.keepsWf_run _ fun d hw => d.wf_serve _ _ _ (fun x e he => wf_ite_snd (by simpa using he) (wf_ite_snd he he)) hw

theorem execPldmGetstatesensorreadings_wf (s : State) : KeepsWf s (execPldmGetstatesensorreadings s) :=
  s.keepsWf_runWith _ fun _ d hw => d.wf_serve _ _ _ (fun _ _ he => wf_ite_snd he (wf_ite_snd he he)) hw

theorem execPldmGetpdrrepositoryinfo_wf (s : State) : KeepsWf s (execPldmGetpdrrepositoryinfo s) :=
  s.keepsWf_run _ fun d hw => d.wf_serve _ _ _ (fun x e he => by simpa using he) hw

theorem execPldmGetpdr_wf (s : State) : KeepsWf s (execPldmGetpdr s) :=
  s.keepsWf_run _ fun d hw => d.wf_serve _ _ _ (fun x e he => wf_ite_snd he (by simpa using he)) hw

theorem execSmbusArbLost_wf (n : Fin 4) (s : State) : KeepsWf s (execSmbusArbLost n s) := by
  refine s.keepsWf_run _ fun d hw => ?_
  split <;> simp [hw]

theorem execSmbusRetry_wf (s : State) : KeepsWf s (execSmbusRetry s) := by
  refine s.keepsWf_run _ fun d hw => ?_
  refine wf_ite hw (wf_ite (by simpa using hw) ?_)
  rw [foldl_mem _ _ fun d q => by simp]
  simpa using hw

theorem execSmbusClockLowTimeout_wf (s : State) : KeepsWf s (execSmbusClockLowTimeout s) :=
  s.keepsWf_run _ fun d hw => by simp [Dev.mem_ite, hw]

theorem execRegisterRead_wf (w : Window) (off len : Nat) (s : State) : KeepsWf s (execRegisterRead w off len s) := by
  refine s.keepsWf_runWith _ fun o d hw => ?_
  split <;> simp [hw, Dev.wf_barRead, Dev.wf_hostAccess]

theorem execRegisterWrite_wf (w : Window) (off : Nat) (bytes : List Byte) (s : State) : KeepsWf s (execRegisterWrite w off bytes s) := by
  refine s.keepsWf_runWith _ fun o d hw => ?_
  split <;> simp [hw, Dev.wf_arrive]

theorem execJtagBridgeAccess_wf (a : BridgeOp) (s : State) : KeepsWf s (execJtagBridgeAccess a s) := by
  refine s.keepsWf_runWith _ fun o d hw => ?_
  dsimp only
  repeat' split
  all_goals simp [hw, Dev.wf_apAccess, Dev.wf_arrive, Dev.wf_cfgAccess, Dev.wf_writeLine]

theorem execEccWriteback_wf (l : Nat) (s : State) : KeepsWf s (execEccWriteback l s) :=
  s.keepsWf_run _ fun d hw => by simp [Dev.mem_ite, hw]

/-- Every command keeps the canonical memory, arm by arm. -/
theorem exec_keepsWf (i : Instr) (s : State) : KeepsWf s (exec i s) :=
  match i with
  | .registerWrite w off bytes => execRegisterWrite_wf w off bytes s
  | .jtagBridgeAccess a => execJtagBridgeAccess_wf a s
  | .eccWriteback l => execEccWriteback_wf l s
  | .tickStart => execTickStart_wf s
  | .tickStop => execTickStop_wf s
  | .tickBoundary => execTickBoundary_wf s
  | .boundaryCore => execBoundaryCore_wf s
  | .boundaryFab => execBoundaryFab_wf s
  | .releaseStateReset => execReleaseStateReset_wf s
  | .phaseOpen p4 => execPhaseOpen_wf p4 s
  | .p3Mark => execP3Mark_wf s
  | .p3Release => execP3Release_wf s
  | .releaseGuardStart p => execReleaseGuardStart_wf p s
  | .slotReady n => execSlotReady_wf n s
  | .slotDispatch n => execSlotDispatch_wf n s
  | .slotCut n => execSlotCut_wf n s
  | .slotCancel => execSlotCancel_wf s
  | .tckRecFifoPop => execTckRecFifoPop_wf s
  | .imageLoadStart => execImageLoadStart_wf s
  | .loadReadError poison => execLoadReadError_wf poison s
  | .loadPass1Complete image => execLoadPass1Complete_wf image s
  | .loadPass2Complete image => execLoadPass2Complete_wf image s
  | .seal => execSeal_wf s
  | .sealReevalEnd => execSealReevalEnd_wf s
  | .overlayArm index => execOverlayArm_wf index s
  | .overlayPrepEnd => execOverlayPrepEnd_wf s
  | .overlayDisarm => execOverlayDisarm_wf s
  | .confirmAccept tag dest => execConfirmAccept_wf tag dest s
  | .confirmRefuse tag dest => execConfirmRefuse_wf tag dest s
  | .confirmTimeout => execConfirmTimeout_wf s
  | .signatureCheck n => execSignatureCheck_wf n s
  | .linkUp p speed pause fullDuplex lane => execLinkUp_wf p speed pause fullDuplex lane s
  | .linkDown p syncLost inFrame => execLinkDown_wf p syncLost inFrame s
  | .anLinkTimer p => execAnLinkTimer_wf p s
  | .restartAn p => execRestartAn_wf p s
  | .mdioC22Write phy reg data => execMdioC22Write_wf phy reg data s
  | .mdioC22Read phy reg => execMdioC22Read_wf phy reg s
  | .mdioC45Address phy dev addr => execMdioC45Address_wf phy dev addr s
  | .mdioC45Write phy dev data => execMdioC45Write_wf phy dev data s
  | .mdioC45Read phy dev => execMdioC45Read_wf phy dev s
  | .mdioC45ReadInc phy dev => execMdioC45ReadInc_wf phy dev s
  | .mdioComplete answer => execMdioComplete_wf answer s
  | .rxFrame p bytes ebError age => execRxFrame_wf p bytes ebError age s
  | .rxFrameToBuffer p => execRxFrameToBuffer_wf p s
  | .rxPause p quanta => execRxPause_wf p quanta s
  | .rxPfc p enable quanta => execRxPfc_wf p enable quanta s
  | .pauseHoldExpiry p q => execPauseHoldExpiry_wf p q s
  | .txPauseXoff p => execTxPauseXoff_wf p s
  | .txPauseRepeat p => execTxPauseRepeat_wf p s
  | .txPauseXon p => execTxPauseXon_wf p s
  | .txGrant p => execTxGrant_wf p s
  | .txPoisonLate p => execTxPoisonLate_wf p s
  | .txComplete p => execTxComplete_wf p s
  | .fenceArrival => execFenceArrival_wf s
  | .fenceLift => execFenceLift_wf s
  | .txCancelArrival p => execTxCancelArrival_wf p s
  | .classifierLookup p => execClassifierLookup_wf p s
  | .frameClassified p => execFrameClassified_wf p s
  | .fragEntryAgeExpiry => execFragEntryAgeExpiry_wf s
  | .beStart e => execBeStart_wf e s
  | .add e rd a b => execAdd_wf e rd a b s
  | .sub e rd a b => execSub_wf e rd a b s
  | .and e rd a b => execAnd_wf e rd a b s
  | .or e rd a b => execOr_wf e rd a b s
  | .xor e rd a b => execXor_wf e rd a b s
  | .shl e rd a b => execShl_wf e rd a b s
  | .shr e rd a b => execShr_wf e rd a b s
  | .shrs e rd a b => execShrs_wf e rd a b s
  | .mul e rd a b => execMul_wf e rd a b s
  | .setLt e rd a b => execSetLt_wf e rd a b s
  | .setUlt e rd a b => execSetUlt_wf e rd a b s
  | .bswap e rd a => execBswap_wf e rd a s
  | .addK e rd a imm => execAddK_wf e rd a imm s
  | .andK e rd a imm => execAndK_wf e rd a imm s
  | .orK e rd a imm => execOrK_wf e rd a imm s
  | .cati e rd a imm => execCati_wf e rd a imm s
  | .shli e rd a pos => execShli_wf e rd a pos s
  | .shri e rd a pos => execShri_wf e rd a pos s
  | .shrsi e rd a pos => execShrsi_wf e rd a pos s
  | .extr e rd a pos lenm1 => execExtr_wf e rd a pos lenm1 s
  | .ins e rd a pos lenm1 => execIns_wf e rd a pos lenm1 s
  | .brEq e a b off => execBrEq_wf e a b off s
  | .brNe e a b off => execBrNe_wf e a b off s
  | .brLt e a b off => execBrLt_wf e a b off s
  | .brGe e a b off => execBrGe_wf e a b off s
  | .brUlt e a b off => execBrUlt_wf e a b off s
  | .brUge e a b off => execBrUge_wf e a b off s
  | .jlink e rd off => execJlink_wf e rd off s
  | .jlinkr e rd a imm => execJlinkr_wf e rd a imm s
  | .ldb e rd a imm diff => execLdb_wf e rd a imm diff s
  | .ldh e rd a imm diff => execLdh_wf e rd a imm diff s
  | .ldw e rd a imm diff => execLdw_wf e rd a imm diff s
  | .ldd e rd a imm diff => execLdd_wf e rd a imm diff s
  | .stb e b a imm diff => execStb_wf e b a imm diff s
  | .sth e b a imm diff => execSth_wf e b a imm diff s
  | .stw e b a imm diff => execStw_wf e b a imm diff s
  | .std e b a imm diff => execStd_wf e b a imm diff s
  | .storeVisible e => execStoreVisible_wf e s
  | .atomAdd e rd a b diff => execAtomAdd_wf e rd a b diff s
  | .atomXch e rd a b diff => execAtomXch_wf e rd a b diff s
  | .atomCas e rd a b diff => execAtomCas_wf e rd a b diff s
  | .fenceSl e => execFenceSl_wf e s
  | .wadj e rd a => execWadj_wf e rd a s
  | .wsetl e rd a => execWsetl_wf e rd a s
  | .lookupExact e rd a b diff => execLookupExact_wf e rd a b diff s
  | .lookupTernary e rd a b diff => execLookupTernary_wf e rd a b diff s
  | .lookupBoth e rd a b diff => execLookupBoth_wf e rd a b diff s
  | .csum e rd a b diff => execCsum_wf e rd a b diff s
  | .crcE e rd a b diff => execCrcE_wf e rd a b diff s
  | .crcC e rd a b diff => execCrcC_wf e rd a b diff s
  | .take e rd diff => execTake_wf e rd diff s
  | .txcq e rd diff => execTxcq_wf e rd diff s
  | .txcan e a diff => execTxcan_wf e a diff s
  | .copy e rd diff => execCopy_wf e rd diff s
  | .fwd e rd a b diff => execFwd_wf e rd a b diff s
  | .deliv e rd a diff => execDeliv_wf e rd a diff s
  | .crypt e rd a b diff => execCrypt_wf e rd a b diff s
  | .bridge e rd a b diff => execBridge_wf e rd a b diff s
  | .stor e rd a b diff => execStor_wf e rd a b diff s
  | .drop e diff => execDrop_wf e diff s
  | .rdtTick e rd => execRdtTick_wf e rd s
  | .rdtTickOffset e rd => execRdtTickOffset_wf e rd s
  | .rdtOccurrenceCycles e rd => execRdtOccurrenceCycles_wf e rd s
  | .waitt e rd a => execWaitt_wf e rd a s
  | .waittResume e => execWaittResume_wf e s
  | .cancel e a diff => execCancel_wf e a diff s
  | .yield e => execYield_wf e s
  | .halt e code diff => execHalt_wf e code diff s
  | .espOutTransform p => execEspOutTransform_wf p s
  | .espInTransform p => execEspInTransform_wf p s
  | .macsecTxTransform p => execMacsecTxTransform_wf p s
  | .macsecRxTransform p => execMacsecRxTransform_wf p s
  | .cryptoReturn p => execCryptoReturn_wf p s
  | .saInstall index => execSaInstall_wf index s
  | .saInstallDone => execSaInstallDone_wf s
  | .saDelete index => execSaDelete_wf index s
  | .saDeleteDone => execSaDeleteDone_wf s
  | .saUpdateTemplate index => execSaUpdateTemplate_wf index s
  | .saUpdateDone => execSaUpdateDone_wf s
  | .nvtOpen c => execNvtOpen_wf c s
  | .nvtClose c => execNvtClose_wf c s
  | .nvtAbort c => execNvtAbort_wf c s
  | .nvtOpenTimeout c => execNvtOpenTimeout_wf c s
  | .nvtSegmentRx => execNvtSegmentRx_wf s
  | .nvtIcresp c => execNvtIcresp_wf c s
  | .nvtR2tRx c => execNvtR2tRx_wf c s
  | .nvtC2hdata c => execNvtC2hdata_wf c s
  | .nvtCapsuleResp c => execNvtCapsuleResp_wf c s
  | .nvtC2hTermReq c => execNvtC2hTermReq_wf c s
  | .nvtTcpRstRx c => execNvtTcpRstRx_wf c s
  | .nvtRtoExpiry c => execNvtRtoExpiry_wf c s
  | .nvtFinSend c => execNvtFinSend_wf c s
  | .nvtClosed c => execNvtClosed_wf c s
  | .nvtCmdAccept q => execNvtCmdAccept_wf q s
  | .nvtCmdTimeout q => execNvtCmdTimeout_wf q s
  | .sqDoorbell f value => execSqDoorbell_wf f value s
  | .cqDoorbell f value => execCqDoorbell_wf f value s
  | .sqFetch n => execSqFetch_wf n s
  | .rxHeldFrameWrite n => execRxHeldFrameWrite_wf n s
  | .ringAbort n => execRingAbort_wf n s
  | .ringAbortComplete n => execRingAbortComplete_wf n s
  | .sqEnable n => execSqEnable_wf n s
  | .sqDisable n => execSqDisable_wf n s
  | .cqEnable c => execCqEnable_wf c s
  | .cqDisable c => execCqDisable_wf c s
  | .safeStateArrival => execSafeStateArrival_wf s
  | .dmaBurstIssue write => execDmaBurstIssue_wf write s
  | .flushReadIssue => execFlushReadIssue_wf s
  | .completionReceived tag f status ep count lower data => execCompletionReceived_wf tag f status ep count lower data s
  | .llDescriptorEnd c => execLlDescriptorEnd_wf c s
  | .llStart c => execLlStart_wf c s
  | .llStop c => execLlStop_wf c s
  | .llStopComplete c => execLlStopComplete_wf c s
  | .llKick c => execLlKick_wf c s
  | .reqMapWrite line kind arg => execReqMapWrite_wf line kind arg s
  | .reqFire line => execReqFire_wf line s
  | .reqLineTimer line => execReqLineTimer_wf line s
  | .tchArm t => execTchArm_wf t s
  | .tchSwapReq t => execTchSwapReq_wf t s
  | .tchSwapOnRequest t => execTchSwapOnRequest_wf t s
  | .tchOccurrenceEnd t => execTchOccurrenceEnd_wf t s
  | .hostLinkUp speed width reversed => execHostLinkUp_wf speed width reversed s
  | .hostLinkDown => execHostLinkDown_wf s
  | .hotReset => execHotReset_wf s
  | .hostLinkError kind => execHostLinkError_wf kind s
  | .vfEnable => execVfEnable_wf s
  | .vfDisable => execVfDisable_wf s
  | .functionLevelReset f => execFunctionLevelReset_wf f s
  | .flrComplete f => execFlrComplete_wf f s
  | .busMasterEnableWrite f v => execBusMasterEnableWrite_wf f v s
  | .powerStateWrite f v => execPowerStateWrite_wf f v s
  | .msixRequest => execMsixRequest_wf s
  | .msixUnblock f v => execMsixUnblock_wf f v s
  | .intxMessage wire => execIntxMessage_wf wire s
  | .ltrMessage => execLtrMessage_wf s
  | .aspmL1Entry => execAspmL1Entry_wf s
  | .inboundUnsupported kind f => execInboundUnsupported_wf kind f s
  | .poisonedWriteRx f => execPoisonedWriteRx_wf f s
  | .completionTimeout => execCompletionTimeout_wf s
  | .ctnFreeze => execCtnFreeze_wf s
  | .ctnRelease go seq => execCtnRelease_wf go seq s
  | .ctnReleaseComplete => execCtnReleaseComplete_wf s
  | .rpPerstWrite rp value => execRpPerstWrite_wf rp value s
  | .rpPerstRelease rp => execRpPerstRelease_wf rp s
  | .rpLinkUp rp speed => execRpLinkUp_wf rp speed s
  | .rpLinkDown rp => execRpLinkDown_wf rp s
  | .rpLinkError rp => execRpLinkError_wf rp s
  | .rpCfgRead rp => execRpCfgRead_wf rp s
  | .rpCfgWrite rp data => execRpCfgWrite_wf rp data s
  | .rpCfgCompletion rp status data => execRpCfgCompletion_wf rp status data s
  | .apertureRead rp w n wide => execApertureRead_wf rp w n wide s
  | .apertureWrite rp w n wide value => execApertureWrite_wf rp w n wide value s
  | .rpCompletionRx rp tag status ep count data => execRpCompletionRx_wf rp tag status ep count data s
  | .rpCompletionTimeout rp => execRpCompletionTimeout_wf rp s
  | .bridgeFrameWrite rp => execBridgeFrameWrite_wf rp s
  | .prefetchLineExpiry rp => execPrefetchLineExpiry_wf rp s
  | .modemInboundRequest rp write ep addr tag len bytes => execModemInboundRequest_wf rp write ep addr tag len bytes s
  | .modemMsiWrite rp addr data => execModemMsiWrite_wf rp addr data s
  | .modemIntxMessage rp assert => execModemIntxMessage_wf rp assert s
  | .modemErrMessage rp kind => execModemErrMessage_wf rp kind s
  | .rpCtnFreeze rp => execRpCtnFreeze_wf rp s
  | .rpContainmentArrival rp => execRpContainmentArrival_wf rp s
  | .rpCtnRelease rp go seq => execRpCtnRelease_wf rp go seq s
  | .keepaliveExpiry rp => execKeepaliveExpiry_wf rp s
  | .keepaliveRearm rp => execKeepaliveRearm_wf rp s
  | .keepaliveLimitWrite rp limit => execKeepaliveLimitWrite_wf rp limit s
  | .timebaseStep => execTimebaseStep_wf s
  | .freqAdjWrite value => execFreqAdjWrite_wf value s
  | .timebaseRead => execTimebaseRead_wf s
  | .anchorPublish => execAnchorPublish_wf s
  | .rxTsPop p => execRxTsPop_wf p s
  | .txTsPop p => execTxTsPop_wf p s
  | .ppsInEdge after => execPpsInEdge_wf after s
  | .ppsLostTimeout => execPpsLostTimeout_wf s
  | .ppsOutRise => execPpsOutRise_wf s
  | .ppsOutFall => execPpsOutFall_wf s
  | .nmeaSentence bytes after => execNmeaSentence_wf bytes after s
  | .ptpSampleWrite e => execPtpSampleWrite_wf e s
  | .holdoverEntry => execHoldoverEntry_wf s
  | .calStepStart n => execCalStepStart_wf n s
  | .calStepEnd lost full measured => execCalStepEnd_wf lost full measured s
  | .almanacOverdue e => execAlmanacOverdue_wf e s
  | .almanacOverdue2 e => execAlmanacOverdue2_wf e s
  | .almanacVerify n => execAlmanacVerify_wf n s
  | .monitorArm => execMonitorArm_wf s
  | .monitorRecover seq => execMonitorRecover_wf seq s
  | .monitorTrip => execMonitorTrip_wf s
  | .monitorDisarm => execMonitorDisarm_wf s
  | .tickHeartbeat => execTickHeartbeat_wf s
  | .faultReport n => execFaultReport_wf n s
  | .safeOutRefreshTimeout => execSafeOutRefreshTimeout_wf s
  | .outReadbackFault a b => execOutReadbackFault_wf a b s
  | .tickWatchdogExpiry => execTickWatchdogExpiry_wf s
  | .clockMonitorFault domain fail => execClockMonitorFault_wf domain fail s
  | .safeOscWindow count => execSafeOscWindow_wf count s
  | .scrubStep n => execScrubStep_wf n s
  | .scrubLate => execScrubLate_wf s
  | .hostAliveEdge after => execHostAliveEdge_wf after s
  | .hostAliveExpiry => execHostAliveExpiry_wf s
  | .safeInActive level => execSafeInActive_wf level s
  | .bcWindowExpiry c => execBcWindowExpiry_wf c s
  | .supplyWarningSafe sample after => execSupplyWarningSafe_wf sample after s
  | .supplyWarningMgmt => execSupplyWarningMgmt_wf s
  | .supplyWarningDeassert sample after => execSupplyWarningDeassert_wf sample after s
  | .dipQualified sample => execDipQualified_wf sample s
  | .supplyUvLong => execSupplyUvLong_wf s
  | .powerStateChoice => execPowerStateChoice_wf s
  | .scheduledWake n => execScheduledWake_wf n s
  | .a3Commit => execA3Commit_wf s
  | .powerStateExitDone => execPowerStateExitDone_wf s
  | .wakeSignalDetect p => execWakeSignalDetect_wf p s
  | .wakeTimerExpiry => execWakeTimerExpiry_wf s
  | .hostLinkWake => execHostLinkWake_wf s
  | .maxStateWrite v => execMaxStateWrite_wf v s
  | .pmeMessage f => execPmeMessage_wf f s
  | .lcProvision => execLcProvision_wf s
  | .lcField => execLcField_wf s
  | .lcTransitionDone => execLcTransitionDone_wf s
  | .otpProgram target => execOtpProgram_wf target s
  | .otpRevoke target => execOtpRevoke_wf target s
  | .otpWriteDone => execOtpWriteDone_wf s
  | .arbAdvance value => execArbAdvance_wf value s
  | .arbAdvanceDone => execArbAdvanceDone_wf s
  | .dbgD1Open => execDbgD1Open_wf s
  | .dbgClose => execDbgClose_wf s
  | .dbgTokenSubmit => execDbgTokenSubmit_wf s
  | .dbgTokenChecked => execDbgTokenChecked_wf s
  | .tapIdcode => execTapIdcode_wf s
  | .tapBypass => execTapBypass_wf s
  | .tapDbgChal => execTapDbgChal_wf s
  | .tapDbgToken token => execTapDbgToken_wf token s
  | .tapDbgWake => execTapDbgWake_wf s
  | .tapDbgBridge => execTapDbgBridge_wf s
  | .tapSamplePreload value => execTapSamplePreload_wf value s
  | .tapExtest value => execTapExtest_wf value s
  | .tapClamp => execTapClamp_wf s
  | .tapHighz => execTapHighz_wf s
  | .tapReset => execTapReset_wf s
  | .engineHalt e => execEngineHalt_wf e s
  | .engineHaltTakesEffect e => execEngineHaltTakesEffect_wf e s
  | .engineResume e => execEngineResume_wf e s
  | .engineSingleStep e => execEngineSingleStep_wf e s
  | .powerOnReset => execPowerOnReset_wf s
  | .powerOnClassReset => execPowerOnClassReset_wf s
  | .warmReset key => execWarmReset_wf key s
  | .safetyReset key => execSafetyReset_wf key s
  | .watchdogExpiry => execWatchdogExpiry_wf s
  | .wdtFeed value => execWdtFeed_wf value s
  | .perstAssert => execPerstAssert_wf s
  | .perstDeassert => execPerstDeassert_wf s
  | .resetRelease testEn sfdp quad erase addr4 log2 => execResetRelease_wf testEn sfdp quad erase addr4 log2 s
  | .headerStageEnd a b => execHeaderStageEnd_wf a b s
  | .flashRead => execFlashRead_wf s
  | .flashProgram => execFlashProgram_wf s
  | .flashErase => execFlashErase_wf s
  | .flashOpDone timeout page => execFlashOpDone_wf timeout page s
  | .smbusPacketRx p => execSmbusPacketRx_wf p s
  | .mctpSetEndpointId => execMctpSetEndpointId_wf s
  | .mctpGetEndpointId => execMctpGetEndpointId_wf s
  | .mctpGetVersionSupport => execMctpGetVersionSupport_wf s
  | .mctpGetMessageTypeSupport => execMctpGetMessageTypeSupport_wf s
  | .pldmGettid => execPldmGettid_wf s
  | .pldmSettid => execPldmSettid_wf s
  | .pldmGetpldmversion => execPldmGetpldmversion_wf s
  | .pldmGetpldmtypes => execPldmGetpldmtypes_wf s
  | .pldmGetpldmcommands => execPldmGetpldmcommands_wf s
  | .pldmGetsensorreading => execPldmGetsensorreading_wf s
  | .pldmGetstatesensorreadings => execPldmGetstatesensorreadings_wf s
  | .pldmGetpdrrepositoryinfo => execPldmGetpdrrepositoryinfo_wf s
  | .pldmGetpdr => execPldmGetpdr_wf s
  | .smbusArbLost n => execSmbusArbLost_wf n s
  | .smbusRetry => execSmbusRetry_wf s
  | .smbusClockLowTimeout => execSmbusClockLowTimeout_wf s
  | .gpioEdge n rise => execGpioEdge_wf n rise s
  | .counterOverflow => execCounterOverflow_wf s
  | .pmcCntWrite n value => execPmcCntWrite_wf n value s
  | .pmcSelWrite n value => execPmcSelWrite_wf n value s
  | .pmcFreeze => execPmcFreeze_wf s
  | .pmcUnfreeze => execPmcUnfreeze_wf s
  | .pmcSnap => execPmcSnap_wf s
  | .counterSnapshotTask n => execCounterSnapshotTask_wf n s
  | .sampleTaken p h => execSampleTaken_wf p h s
  | .sampleRecordWrite p => execSampleRecordWrite_wf p s
  | .sampleRdWrite p value => execSampleRdWrite_wf p value s
  | .smpCfgWrite p period value => execSmpCfgWrite_wf p period value s
  | .registerRead w off len => execRegisterRead_wf w off len s
  | .hostLinkRetrain speed width => execHostLinkRetrain_wf speed width s
  | .pmeTurnOff => execPmeTurnOff_wf s
  | .rpClkreqNChange rp low => execRpClkreqNChange_wf rp low s
  | .rpVendorDefinedMessage rp => execRpVendorDefinedMessage_wf rp s

/-- Settles O57: a step is the front command, or the idle nanosecond, which leaves the memory as it is. -/
theorem memoryStaysCanonical : Obligations.MemoryStaysCanonical := by
  intro s t hs h
  unfold step at h
  split at h
  · injection h with h
    subst h
    unfold Safety.MemOk State.idle
    split
    · exact hs
    · rw [Dev.elapse_mem]
      exact hs
  · exact exec_keepsWf _ _ t h hs

end Sys2Proof.Machine
end

section
-- The theorems are elaborated in order, which keeps the memory that a check of the whole text takes within its limit.
set_option Elab.async false

/-! SUPPORT.  More of the frame of an effect: each part of the device replaced, loops, and the runners of a command's meaning; the bytes of a
little-endian number. -/

namespace Sys2Proof.Safety

open Sys2Proof.Machine

/-! ### Parts replaced -/

variable {F : List Fld} {P : List Part} {d e : Dev}

/-- An update of one part of the device, which the frame allows. -/
theorem Kept.part (h : Kept F P d e) {g : Dev} (x : Part) (hx : x ∈ P) (hr : g.regs = e.regs) (hg : ∀ y, y ≠ x → y.Same e g) :
    Kept F P d g :=
  h.trans (.of_regs hr fun y hy => hg y (ne_of_mem_of_not_mem hx hy).symm)

theorem Kept.withIrqs (h : Kept F P d e) (v : List (Nat × Nat)) (hx : .irqs ∈ P) : Kept F P d { e with irqs := v } :=
  h.part .irqs hx rfl fun y hy => by cases y <;> simp_all [Part.Same]

theorem Kept.withOut (h : Kept F P d e) (v : List Outbound) (hx : .out ∈ P) : Kept F P d { e with out := v } :=
  h.part .out hx rfl fun y hy => by cases y <;> simp_all [Part.Same]

theorem Kept.withToSafe (h : Kept F P d e) (v : List Report) (hx : .toSafe ∈ P) : Kept F P d { e with toSafe := v } :=
  h.part .toSafe hx rfl fun y hy => by cases y <;> simp_all [Part.Same]

theorem Kept.withCfg (h : Kept F P d e) (v : Cfg) (hx : .cfg ∈ P) : Kept F P d { e with cfg := v } :=
  h.part .cfg hx rfl fun y hy => by cases y <;> simp_all [Part.Same]

theorem Kept.withClassq (h : Kept F P d e) (v : List QFrame) (hx : .classq ∈ P) : Kept F P d { e with classq := v } :=
  h.part .classq hx rfl fun y hy => by cases y <;> simp_all [Part.Same]

theorem Kept.withEngines (h : Kept F P d e) (v : List Engine) (hx : .engines ∈ P) : Kept F P d { e with engines := v } :=
  h.part .engines hx rfl fun y hy => by cases y <;> simp_all [Part.Same]

theorem Kept.withTxc (h : Kept F P d e) (v : List (List Nat)) (hx : .txc ∈ P) : Kept F P d { e with txc := v } :=
  h.part .txc hx rfl fun y hy => by cases y <;> simp_all [Part.Same]

theorem Kept.withCry (h : Kept F P d e) (v : Cry) (hx : .cry ∈ P) : Kept F P d { e with cry := v } :=
  h.part .cry hx rfl fun y hy => by cases y <;> simp_all [Part.Same]

theorem Kept.withSec (h : Kept F P d e) (v : Sec) (hx : .sec ∈ P) : Kept F P d { e with sec := v } :=
  h.part .sec hx rfl fun y hy => by cases y <;> simp_all [Part.Same]

theorem Kept.withBoot (h : Kept F P d e) (v : Boot) (hx : .boot ∈ P) : Kept F P d { e with boot := v } :=
  h.part .boot hx rfl fun y hy => by cases y <;> simp_all [Part.Same]

theorem Kept.withHep (h : Kept F P d e) (v : Hep) (hx : .hep ∈ P) : Kept F P d { e with hep := v } :=
  h.part .hep hx rfl fun y hy => by cases y <;> simp_all [Part.Same]

theorem Kept.withDma (h : Kept F P d e) (v : Dma) (hx : .dma ∈ P) : Kept F P d { e with dma := v } :=
  h.part .dma hx rfl fun y hy => by cases y <;> simp_all [Part.Same]

theorem Kept.withSqs (h : Kept F P d e) (v : List Sq) (hx : .sqs ∈ P) : Kept F P d { e with sqs := v } :=
  h.part .sqs hx rfl fun y hy => by cases y <;> simp_all [Part.Same]

theorem Kept.withDue (h : Kept F P d e) (v : List Due) (hx : .due ∈ P) : Kept F P d { e with due := v } :=
  h.part .due hx rfl fun y hy => by cases y <;> simp_all [Part.Same]

theorem Kept.withRps (h : Kept F P d e) (v : List Rp) (hx : .rps ∈ P) : Kept F P d { e with rps := v } :=
  h.part .rps hx rfl fun y hy => by cases y <;> simp_all [Part.Same]

theorem Kept.withNvt (h : Kept F P d e) (v : Nvt) (hx : .nvt ∈ P) : Kept F P d { e with nvt := v } :=
  h.part .nvt hx rfl fun y hy => by cases y <;> simp_all [Part.Same]

theorem Kept.withPwr (h : Kept F P d e) (v : Pwr) (hx : .pwr ∈ P) : Kept F P d { e with pwr := v } :=
  h.part .pwr hx rfl fun y hy => by cases y <;> simp_all [Part.Same]

theorem Kept.withSaf (h : Kept F P d e) (v : Saf) (hx : .saf ∈ P) : Kept F P d { e with saf := v } :=
  h.part .saf hx rfl fun y hy => by cases y <;> simp_all [Part.Same]

theorem Kept.withTim (h : Kept F P d e) (v : Tim) (hx : .tim ∈ P) : Kept F P d { e with tim := v } :=
  h.part .tim hx rfl fun y hy => by cases y <;> simp_all [Part.Same]

theorem Kept.withSbd (h : Kept F P d e) (v : Sbd) (hx : .sbd ∈ P) : Kept F P d { e with sbd := v } :=
  h.part .sbd hx rfl fun y hy => by cases y <;> simp_all [Part.Same]

theorem Kept.withPmc (h : Kept F P d e) (v : Pmc) (hx : .pmc ∈ P) : Kept F P d { e with pmc := v } :=
  h.part .pmc hx rfl fun y hy => by cases y <;> simp_all [Part.Same]

theorem Kept.withPorts (h : Kept F P d e) (v : List Port) (hx : .ports ∈ P) : Kept F P d { e with ports := v } :=
  h.part .ports hx rfl fun y hy => by cases y <;> simp_all [Part.Same]

theorem Kept.withUsed (h : Kept F P d e) (v : List Nat) (hx : .used ∈ P) : Kept F P d { e with used := v } :=
  h.part .used hx rfl fun y hy => by cases y <;> simp_all [Part.Same]

theorem Kept.withFence (h : Kept F P d e) (v : Bool) (hx : .fence ∈ P) : Kept F P d { e with fence := v } :=
  h.part .fence hx rfl fun y hy => by cases y <;> simp_all [Part.Same]

theorem Kept.withSafeCore (h : Kept F P d e) (v : Bool) (hx : .safeCore ∈ P) : Kept F P d { e with safeCore := v } :=
  h.part .safeCore hx rfl fun y hy => by cases y <;> simp_all [Part.Same]

theorem Kept.withApWait (h : Kept F P d e) (v : List ApWait) (hx : .apWait ∈ P) : Kept F P d { e with apWait := v } :=
  h.part .apWait hx rfl fun y hy => by cases y <;> simp_all [Part.Same]

theorem Kept.withMem (h : Kept F P d e) (v : List Host.Cell) (hx : .mem ∈ P) : Kept F P d { e with mem := v } :=
  h.part .mem hx rfl fun y hy => by cases y <;> simp_all [Part.Same]

theorem Kept.withMarks (h : Kept F P d e) (v : List (Nat × Mark)) (hx : .marks ∈ P) : Kept F P d { e with marks := v } :=
  h.part .marks hx rfl fun y hy => by cases y <;> simp_all [Part.Same]

theorem Kept.withWriteBacks (h : Kept F P d e) (v : List Nat) (hx : .writeBacks ∈ P) : Kept F P d { e with writeBacks := v } :=
  h.part .writeBacks hx rfl fun y hy => by cases y <;> simp_all [Part.Same]

theorem Kept.withNextUid (h : Kept F P d e) (v : Nat) (hx : .nextUid ∈ P) : Kept F P d { e with nextUid := v } :=
  h.part .nextUid hx rfl fun y hy => by cases y <;> simp_all [Part.Same]

/-! ### Members of a bank changed -/

theorem Kept.modTch (h : Kept F P d e) (n : Nat) (g : Tch → Tch) (hx : .dma ∈ P) : Kept F P d (e.modTch n g) := h.withDma _ hx
theorem Kept.modLl (h : Kept F P d e) (n : Nat) (g : Ll → Ll) (hx : .dma ∈ P) : Kept F P d (e.modLl n g) := h.withDma _ hx
theorem Kept.modSmp (h : Kept F P d e) (n : Nat) (g : Smp → Smp) (hx : .pmc ∈ P) : Kept F P d (e.modSmp n g) := h.withPmc _ hx
theorem Kept.modRp (h : Kept F P d e) (n : Nat) (g : Rp → Rp) (hx : .rps ∈ P) : Kept F P d (e.modRp n g) := h.withRps _ hx
theorem Kept.modConn (h : Kept F P d e) (n : Nat) (g : NvtConn → NvtConn) (hx : .nvt ∈ P) : Kept F P d (e.modConn n g) :=
  h.withNvt _ hx
theorem Kept.modCmd (h : Kept F P d e) (n : Nat) (g : NvtCmd → NvtCmd) (hx : .nvt ∈ P) : Kept F P d (e.modCmd n g) := h.withNvt _ hx

/-! ### Counts, choices and loops -/

theorem Kept.incBy (h : Kept F P d e) {f : Fld} (k : Nat) (hf : f ∈ F) : Kept F P d (e.incBy f k) := h.wr _ hf

/-- What does not leave by the host link leaves the link as it is. -/
theorem Kept.emitAside (h : Kept F P d e) (o : Outbound) (hb : o.byHost = false) (ho : .out ∈ P) : Kept F P d (e.emit o) :=
  h.part .out ho rfl fun y hy => by cases y <;> simp_all [Part.Same, Dev.emit]

/-- A row of writes touches the registers that it names. -/
theorem Dev.wrs_kept (d : Dev) (l : List (Fld × Nat)) : Kept (l.map (·.1)) [] d (d.wrs l) :=
  (Kept.refl d).wrs l fun _ hx => List.mem_map_of_mem hx

/-- A loop whose every turn keeps the frame. -/
theorem Kept.foldl {α : Type} (l : List α) (g : Dev → α → Dev) (hg : ∀ a x, x ∈ l → Kept F P d a → Kept F P d (g a x))
    (h : Kept F P d e) : Kept F P d (l.foldl g e) := by
  induction l generalizing e with
  | nil => exact h
  | cons x xs ih => exact ih (fun a y hy => hg a y (by simp [hy])) (hg e x (by simp) h)

/-! ### From a command's runner to its effect -/

variable {c : Sys2Proof.Instr} {s : State} {x : Host.Outcome State Fault Refusal} {post : Dev → Prop} (hx : exec c s = x)
include hx

theorem Effect.run {f : Dev → Dev} (hf : x = s.run f) (hs : s.held = false)
    (h : Kept F P s.dev (f s.dev) ∧ post (f s.dev)) : Effect c s F P post :=
  .of_next (hx.trans (hf.trans (s.run_live f hs))) h.1 h.2

theorem Effect.runWith {f : Otp → Dev → Dev} (hf : x = s.runWith f) (hs : s.held = false)
    (h : Kept F P s.dev (f s.otp s.dev) ∧ post (f s.otp s.dev)) : Effect c s F P post :=
  .of_next (hx.trans (hf.trans (s.runWith_live f hs))) h.1 h.2

theorem Effect.runTim {f : Dev → Dev} (hf : x = s.runTim f) (hs : s.held = false)
    (h : Kept F P s.dev (f s.dev) ∧ post (f s.dev)) : Effect c s F P post :=
  .of_next (hx.trans (hf.trans (s.runTim_live f hs))) h.1 h.2

theorem Effect.runSaf {f : Otp → Dev → Dev} (hf : x = s.runSaf f) (hs : s.held = false)
    (h : Kept F P s.dev (f s.otp s.dev) ∧ post (f s.otp s.dev)) : Effect c s F P post :=
  .of_next (hx.trans (hf.trans (s.runSaf_live f hs))) h.1 h.2

/-- A host command in A0 or A1: its meaning takes effect after the access has been counted. -/
theorem Effect.host {f : Dev → Dev} (hf : x = s.host f) (ha : Awake s)
    (h : ∀ e, Counted s.dev e → Kept F P e (f e) ∧ post (f e)) : Effect c s F P post :=
  have hc : Counted s.dev (s.dev.count 0x51 0 1) := .count _ _ _ _
  .of_next (hx.trans (hf.trans (s.host_awake f ha))) (((Kept.refl _).counted hc).trans (h _ hc).1) (h _ hc).2

theorem Effect.hostAt {off : Dev → Bool} {f : Dev → Dev} (hf : x = s.hostAt off f) (ha : Awake s)
    (h : ∀ e, Counted s.dev e → Kept F P e (f e) ∧ post (f e)) : Effect c s F P post :=
  have hc : Counted s.dev (s.dev.count 0x51 0 1) := .count _ _ _ _
  .of_next (hx.trans (hf.trans (s.hostAt_awake off f ha))) (((Kept.refl _).counted hc).trans (h _ hc).1) (h _ hc).2

theorem Effect.hostWith {f : Otp → Dev → Dev} (hf : x = s.hostWith f) (ha : Awake s)
    (h : ∀ e, Counted s.dev e → Kept F P e (f s.otp e) ∧ post (f s.otp e)) : Effect c s F P post :=
  have hc : Counted s.dev (s.dev.count 0x51 0 1) := .count _ _ _ _
  .of_next (hx.trans (hf.trans (s.hostWith_awake f ha))) (((Kept.refl _).counted hc).trans (h _ hc).1) (h _ hc).2

end Sys2Proof.Safety

namespace Sys2Proof.Machine

open Sys2Proof.Safety Sys2Proof.Claims

/-- Whether a field is set is as before where the field reads as before. -/
theorem Dev.is_congr {d e : Dev} {f : Fld} (h : e.rd f = d.rd f) : e.is f = d.is f := by rw [Dev.is, Dev.is, h]

theorem Counted.is {d e : Dev} (h : Counted d e) (f : Fld) (hf : isCount f = false) : e.is f = d.is f := Dev.is_congr (h.rd f hf)

/-- A field is not set exactly when it reads 0. -/
theorem Dev.is_eq_false_iff (d : Dev) (f : Fld) : d.is f = false ↔ d.rd f = 0 := by simp [Dev.is]
theorem Dev.is_eq_true_iff (d : Dev) (f : Fld) : d.is f = true ↔ d.rd f ≠ 0 := by simp [Dev.is]

/-! ### Bytes of a little-endian number -/

@[simp] theorem length_leBytes (k n : Nat) : (leBytes k n).length = k := by
  induction k generalizing n with
  | zero => rfl
  | succ k ih => simp [leBytes, ih]

theorem ofLe_leBytes (k n : Nat) : ofLe (leBytes k n) = n % 256 ^ k := by
  induction k generalizing n with
  | zero => simp [leBytes, ofLe, Nat.mod_one]
  | succ k ih =>
    have h : n % 256 ^ (k + 1) = n % 256 + 256 * (n / 256 % 256 ^ k) := by rw [pow_succ', Nat.mod_mul]
    rw [leBytes, ofLe, ih, BitVec.toNat_ofNat, h]

theorem ofLe_append (a b : List Byte) : ofLe (a ++ b) = ofLe a + 256 ^ a.length * ofLe b := by
  induction a with
  | nil => simp [ofLe]
  | cons x xs ih =>
    rw [List.cons_append, ofLe, ofLe, ih, List.length_cons, pow_succ']
    ring

theorem ofLe_lt (l : List Byte) : ofLe l < 256 ^ l.length := by
  induction l with
  | nil => exact Nat.one_pos
  | cons x xs ih =>
    have hx : x.toNat < 256 := x.isLt
    rw [ofLe, List.length_cons, pow_succ']
    omega

@[simp] theorem length_sliceB (bs : List Byte) (o k : Nat) : (sliceB bs o k).length = k := by simp [sliceB]

theorem sliceB_append_left (a b : List Byte) (o k : Nat) (h : o + k ≤ a.length) : sliceB (a ++ b) o k = sliceB a o k := by
  refine List.map_congr_left fun i hi => ?_
  have hk := List.mem_range.mp hi
  rw [List.getD_append _ _ _ _ (by omega)]

theorem sliceB_append_right (a b : List Byte) (o k : Nat) (h : a.length ≤ o) : sliceB (a ++ b) o k = sliceB b (o - a.length) k := by
  refine List.map_congr_left fun i _ => ?_
  rw [List.getD_append_right _ _ _ _ (by omega)]
  congr 1
  omega

theorem sliceB_self (a : List Byte) (k : Nat) (h : a.length = k) : sliceB a 0 k = a := by
  refine List.ext_getElem (by simp [h]) fun i hi _ => ?_
  simp [sliceB, List.getD_eq_getElem?_getD, h, show i < k by simpa using hi]

/-- A field that begins where a list of bytes ends. -/
theorem leAt_append_right (a b : List Byte) (o k : Nat) (h : a.length ≤ o) : leAt (a ++ b) o k = leAt b (o - a.length) k := by
  rw [leAt, leAt, sliceB_append_right a b o k h]

theorem leAt_append_left (a b : List Byte) (o k : Nat) (h : o + k ≤ a.length) : leAt (a ++ b) o k = leAt a o k := by
  rw [leAt, leAt, sliceB_append_left a b o k h]

/-- A field that is the whole of a number's bytes. -/
theorem leAt_leBytes (k n : Nat) : leAt (leBytes k n) 0 k = n % 256 ^ k := by
  rw [leAt, sliceB_self _ _ (length_leBytes k n), ofLe_leBytes]

theorem leAt_lt (bs : List Byte) (o k : Nat) : leAt bs o k < 256 ^ k := by
  have h := ofLe_lt (sliceB bs o k)
  rwa [length_sliceB] at h

/-- A field in two parts. -/
theorem leAt_add (bs : List Byte) (o j k : Nat) : leAt bs o (j + k) = leAt bs o j + 256 ^ j * leAt bs (o + j) k := by
  have h : sliceB bs o (j + k) = sliceB bs o j ++ sliceB bs (o + j) k := by
    simp only [sliceB, List.range_add, List.map_append, List.map_map]
    congr 1
    exact List.map_congr_left fun i _ => by simp [Nat.add_assoc]
  rw [leAt, h, ofLe_append, length_sliceB, leAt, leAt]

theorem length_words (n : Nat) (w : Nat → Nat) : ((List.range n).flatMap (fun i => leBytes 4 (w i))).length = 4 * n := by
  induction n with
  | zero => rfl
  | succ n ih => rw [List.range_succ, List.flatMap_append, List.length_append, ih]; simp; omega

/-- A word of a row of words. -/
theorem leAt_words (n : Nat) (w : Nat → Nat) (k : Nat) (hk : k < n) :
    leAt ((List.range n).flatMap (fun i => leBytes 4 (w i))) (4 * k) 4 = w k % 2 ^ 32 := by
  induction n with
  | zero => omega
  | succ n ih =>
    rw [List.range_succ, List.flatMap_append]
    by_cases h : k < n
    · rw [leAt_append_left _ _ _ _ (by rw [length_words]; omega), ih h]
    · obtain rfl : k = n := by omega
      rw [leAt_append_right _ _ _ _ (by rw [length_words]), length_words, Nat.sub_self, List.flatMap_singleton, leAt_leBytes]
      norm_num

/-! ### Bits of a register -/

theorem bitAt_eq_testBit (n i : Nat) : bitAt n i = n.testBit i := by
  rw [bitAt, Nat.testBit_eq_decide_div_mod_eq]

theorem setBit_of_testBit {n i : Nat} (h : n.testBit i = true) : setBit n i = n := by
  rw [setBit, bitAt_eq_testBit, if_pos h]

theorem setBit_of_not_testBit {n i : Nat} (h : n.testBit i = false) : setBit n i = n + 2 ^ i := by
  rw [setBit, bitAt_eq_testBit, if_neg (by simp [h])]

/-- A bit set stays within a register that holds it. -/
theorem setBit_lt {n i w : Nat} (hn : n < 2 ^ w) (hi : i < w) : setBit n i < 2 ^ w := by
  cases h : n.testBit i
  · rw [setBit_of_not_testBit h]
    have hmod : n / 2 ^ i % 2 = 0 := by simpa [Nat.testBit_eq_decide_div_mod_eq] using h
    have hpow : 2 ^ w = 2 ^ i * 2 * 2 ^ (w - i - 1) := by rw [mul_assoc, ← pow_succ', ← pow_add]; congr 1; omega
    have hq : n / 2 ^ i / 2 < 2 ^ (w - i - 1) :=
      Nat.div_lt_of_lt_mul (Nat.div_lt_of_lt_mul (by rw [← mul_assoc, ← hpow]; exact hn))
    have hn' : n < 2 ^ i * (n / 2 ^ i + 1) := Nat.lt_mul_div_succ n (Nat.two_pow_pos i)
    calc n + 2 ^ i < 2 ^ i * (n / 2 ^ i + 1) + 2 ^ i := by omega
      _ = 2 ^ i * 2 * (n / 2 ^ i / 2 + 1) := by
        have : n / 2 ^ i = 2 * (n / 2 ^ i / 2) := by omega
        rw [this]
        simp only [Nat.mul_div_cancel_left _ (Nat.zero_lt_two)]
        ring
      _ ≤ 2 ^ i * 2 * 2 ^ (w - i - 1) := Nat.mul_le_mul_left _ hq
      _ = 2 ^ w := hpow.symm
  · rwa [setBit_of_testBit h]

theorem clrBit_lt {n i w : Nat} (hn : n < 2 ^ w) : clrBit n i < 2 ^ w := by
  unfold clrBit
  split
  · exact (Nat.sub_le _ _).trans_lt hn
  · exact hn

/-- A bit that is set, taken away. -/
theorem testBit_sub_two_pow {n i : Nat} (h : n.testBit i = true) : (n - 2 ^ i).testBit i = false := by
  have hge := Nat.ge_two_pow_of_testBit h
  have := Nat.testBit_two_pow_add_eq (n - 2 ^ i) i
  rw [Nat.add_sub_cancel' hge, h] at this
  simpa using this

theorem Dev.rd_setFldBit (d : Dev) (f : Fld) (i : Nat) (hi : i < f.width) : (d.setFldBit f i).rd f = setBit (d.rd f) i := by
  rw [Dev.setFldBit, Dev.rd_wr, if_pos rfl, Nat.mod_eq_of_lt (setBit_lt (d.rd_lt f) hi)]

end Sys2Proof.Machine
end

section
-- The theorems are elaborated in order, which keeps the memory that a check of the whole text takes within its limit.
set_option Elab.async false

/-! SUPPORT.  DMA request lines and tick channels: their effects, clause by clause, and the statement they settle (R330, R339 to R343). -/

namespace Sys2Proof.Machine

open Sys2Proof.Safety Sys2Proof.Claims

/-! ### Fields of request lines and tick channels -/

@[simp] theorem reqMapKind_width (i : Nat) : (Fld.dma (.REQ_MAP_KIND i)).width = 4 := rfl
@[simp] theorem reqMapArg_width (i : Nat) : (Fld.dma (.REQ_MAP_ARG i)).width = 12 := rfl
@[simp] theorem tchShadowValid_width (t : Nat) : (Fld.dma (.TCH_SHCTRL_SHADOW_VALID t)).width = 1 := rfl
@[simp] theorem tchSwapReq_width (t : Nat) : (Fld.dma (.TCH_SHCTRL_SWAP_REQ t)).width = 1 := rfl
@[simp] theorem tchActiveData_width (t i : Nat) : (Fld.dma (.TCH_ACTIVE_DATA t i)).width = 32 := rfl

/-! ### Request lines -/

section
variable (s : State) (i : Fin 64)

theorem effect_reqMapWrite (ha : Awake s) (kind : BitVec 4) (arg : BitVec 12) :
    Effect (.reqMapWrite i kind arg) s [.dma (.REQ_MAP_KIND i), .dma (.REQ_MAP_ARG i), .dma (.REQ_MAP_PENDING i)] [] (fun t =>
      t.rd (.dma (.REQ_MAP_ARG i)) = arg.toNat ∧ t.rd (.dma (.REQ_MAP_PENDING i)) = 0 ∧
      t.rd (.dma (.REQ_MAP_KIND i)) = if kind.toNat < 8 then kind.toNat else s.dev.rd (.dma (.REQ_MAP_KIND i))) := by
  refine Effect.host (x := execReqMapWrite i kind arg s) rfl rfl ha fun e he => ?_
  have hk := he.rd (.dma (.REQ_MAP_KIND i)) rfl
  have hw : Kept [.dma (.REQ_MAP_KIND i), .dma (.REQ_MAP_ARG i), .dma (.REQ_MAP_PENDING i)] [] e
      (e.wrs [(.dma (.REQ_MAP_ARG i), arg.toNat), (.dma (.REQ_MAP_PENDING i), 0)]) := (Kept.refl e).wrs _ (by simp)
  refine ⟨.ite _ (fun _ => hw.wr _ (by simp)) (fun _ => hw), ?_⟩
  have hlt : kind.toNat < 16 := kind.isLt
  have harg : arg.toNat < 4096 := arg.isLt
  dsimp only
  split <;> simp [*, Nat.mod_eq_of_lt]

theorem effect_reqFire (ha : Awake s) (hk : s.dev.rd (.dma (.REQ_MAP_KIND i)) = 1) :
    Effect (.reqFire i) s [.dma (.REQ_MAP_PENDING i)] [] (fun t => Counts s.dev t (.dma (.REQ_MAP_PENDING i))) := by
  refine Effect.host (x := execReqFire i s) rfl rfl ha fun e he => ?_
  rw [if_pos ((he.rd _ rfl).trans hk)]
  exact ⟨(Kept.refl e).inc (by simp), Counts.of_rd (by simp [Counts, Dev.reqEvent]) (he.rd _ rfl)⟩

theorem effect_reqFire_other (ha : Awake s) (hk : s.dev.rd (.dma (.REQ_MAP_KIND i)) ≠ 1) :
    Effect (.reqFire i) s [] [] (fun _ => True) := by
  refine Effect.host (x := execReqFire i s) rfl rfl ha fun e he => ?_
  rw [if_neg (by rw [he.rd _ rfl]; exact hk)]
  exact ⟨.refl e, trivial⟩

theorem effect_reqLineTimer (hs : s.held = false) (hk : s.dev.rd (.dma (.REQ_MAP_KIND i)) = 2)
    (ha : s.dev.rd (.dma (.REQ_MAP_ARG i)) ≠ 0) :
    Effect (.reqLineTimer i) s [.dma (.REQ_MAP_PENDING i)] [] (fun t => Counts s.dev t (.dma (.REQ_MAP_PENDING i))) := by
  refine Effect.run (x := execReqLineTimer i s) rfl rfl hs ?_
  rw [if_pos ⟨hk, by simpa [Dev.is] using ha⟩]
  exact ⟨(Kept.refl _).inc (by simp), by simp [Counts, Dev.reqEvent]⟩

end

/-! ### Tick channels armed and asked to swap -/

section
variable (s : State) (c : Fin 32) (ha : Awake s)
include ha

theorem effect_tchArm (hc : s.dev.rd (.dma (.TCH_CFG_SRC c)) = 0) :
    Effect (.tchArm c) s [.dma (.TCH_SHCTRL_SHADOW_VALID c)] [] (fun t => t.rd (.dma (.TCH_SHCTRL_SHADOW_VALID c)) = 1) := by
  refine Effect.host (x := execTchArm c s) rfl rfl ha fun e he => ?_
  rw [if_neg (by simp [Dev.is_eq_true_iff, he.rd (.dma (.TCH_CFG_SRC c)) rfl, hc])]
  exact ⟨(Kept.refl e).wr _ (by simp), by simp⟩

theorem effect_tchArm_mailbox (hc : s.dev.rd (.dma (.TCH_CFG_SRC c)) ≠ 0) : Effect (.tchArm c) s [] [] (fun _ => True) := by
  refine Effect.host (x := execTchArm c s) rfl rfl ha fun e he => ?_
  rw [if_pos (by simpa [Dev.is_eq_true_iff, he.rd (.dma (.TCH_CFG_SRC c)) rfl] using hc)]
  exact ⟨.refl e, trivial⟩

theorem effect_tchSwapReq :
    Effect (.tchSwapReq c) s [.dma (.TCH_SHCTRL_SWAP_REQ c)] [] (fun t => t.rd (.dma (.TCH_SHCTRL_SWAP_REQ c)) = 1) :=
  Effect.host (x := execTchSwapReq c s) rfl rfl ha fun e _ => ⟨(Kept.refl e).wr _ (by simp), by simp⟩

end

/-! ### A swap on request -/

/-- A row of registers written, of which one is read. -/
theorem Dev.rd_wrs_row (d : Dev) (f : Nat → Fld) (v : Nat → Nat) (hf : Function.Injective f) (n k : Nat) (hk : k < n) :
    (d.wrs ((List.range n).map (fun i => (f i, v i)))).rd (f k) = v k % 2 ^ (f k).width := by
  induction n generalizing d with
  | zero => omega
  | succ n ih =>
    have happ : ∀ (l m : List (Fld × Nat)) (e : Dev), e.wrs (l ++ m) = (e.wrs l).wrs m := fun l m e => List.foldl_append
    rw [List.range_succ, List.map_append, happ, List.map_singleton, Dev.wrs_cons, Dev.wrs_nil, Dev.rd_wr]
    split
    · rename_i h
      rw [hf h]
    · rename_i h
      exact ih d (by have : k ≠ n := fun e => h (congrArg f e); omega)

/-- A window's use, and with it a range's place, rests on the bridge's registers alone. -/
theorem Dev.rangeOk_congr {d e : Dev} (h : ∀ f, e.rd (.brg f) = d.rd (.brg f)) : e.rangeOk = d.rangeOk := by
  have hw : e.winOk = d.winOk := by
    funext rp w off len
    rw [Dev.winOk, Dev.winOk, Dev.winSize, Dev.winSize, Dev.is_congr (h _), h]
  funext space a len
  unfold Dev.rangeOk
  rw [hw]

/-- Whether a register set is BAD_DESC rests on the bridge's windows alone. -/
theorem Dev.descBad_tick_congr {d e : Dev} (h : ∀ f, e.rd (.brg f) = d.rd (.brg f)) (x : Desc) : e.descBad x true = d.descBad x true := by
  have ha : e.winAttr = d.winAttr := funext₂ fun _ _ => h _
  unfold Dev.descBad
  rw [ha, Dev.rangeOk_congr h]
  rfl

/-- Whether a tick channel is in its slot rests on the Ephemeris and the occurrences of the tick. -/
theorem Dev.tchRunning_congr {d e : Dev} (hm : e.mem = d.mem) (hc : e.cfg = d.cfg) (ht : e.tick = d.tick) (c : Nat) :
    e.tchRunning c = d.tchRunning c := by
  have hs : e.slot = d.slot := funext (Dev.slot_congr hm hc)
  unfold Dev.tchRunning Dev.occIn Dev.occ
  rw [hs, ht]

/-- The bytes of the register shadow of a tick channel (R340). -/
def Dev.shadowBytes (d : Dev) (c : Nat) : List Byte := (List.range 6).flatMap (fun i => leBytes 4 (d.rd (.dma (.TCH_SHADOW_DATA c i))))

theorem Dev.word_shadowBytes (d : Dev) (c k : Nat) (hk : k < 6) :
    leAt (d.shadowBytes c) (4 * k) 4 = d.rd (.dma (.TCH_SHADOW_DATA c k)) :=
  (leAt_words 6 _ k hk).trans (Nat.mod_eq_of_lt (d.rd_lt (.dma (.TCH_SHADOW_DATA c k))))

/-- The set that the shadow's bytes spell (R333, R340). -/
theorem Dev.desc_shadowBytes (d : Dev) (c : Nat) :
    (Desc.ofBytes (d.shadowBytes c)).src = d.rd (.dma (.TCH_SHADOW_DATA c 0)) + 2 ^ 32 * d.rd (.dma (.TCH_SHADOW_DATA c 1)) ∧
    (Desc.ofBytes (d.shadowBytes c)).dst = d.rd (.dma (.TCH_SHADOW_DATA c 2)) + 2 ^ 32 * d.rd (.dma (.TCH_SHADOW_DATA c 3)) ∧
    (Desc.ofBytes (d.shadowBytes c)).word4 = d.rd (.dma (.TCH_SHADOW_DATA c 4)) ∧
    (Desc.ofBytes (d.shadowBytes c)).word5 = d.rd (.dma (.TCH_SHADOW_DATA c 5)) := by
  have hw := d.word_shadowBytes c
  refine ⟨?_, ?_, hw 4 (by decide), hw 5 (by decide)⟩
  · exact (leAt_add _ 0 4 4).trans (congrArg₂ (fun a b => a + 256 ^ 4 * b) (hw 0 (by decide)) (hw 1 (by decide)))
  · exact (leAt_add _ 8 4 4).trans (congrArg₂ (fun a b => a + 256 ^ 4 * b) (hw 2 (by decide)) (hw 3 (by decide)))

/-! ### The swap itself -/

/-- The registers of a tick channel at a swap of its register shadow: the request and the shadow consumed, the active set in place (R341). -/
def Dev.swapRegs (d : Dev) (c : Nat) (bs : List Byte) : Dev :=
  ((d.wr (.dma (.TCH_SHCTRL_SHADOW_VALID c)) 0).wr (.dma (.TCH_SHCTRL_SWAP_REQ c)) 0).wrs
    ((List.range 6).map (fun i => (.dma (.TCH_ACTIVE_DATA c i), leAt bs (4 * i) 4)))

/-- The transfer that a swap sets up (R341). -/
def Dev.swapXfer (d : Dev) (bs : List Byte) : Xfer :=
  { desc := Desc.ofBytes bs, bad := if d.descBad (Desc.ofBytes bs) true then some (0x82, (Desc.ofBytes bs).src) else none }

/-- The fields that a swap of a register shadow writes. -/
def swapFields (c : Nat) : List Fld := ([.dma (.TCH_SHCTRL_SHADOW_VALID c), .dma (.TCH_SHCTRL_SWAP_REQ c)] : List Fld) ++
  (List.range 6).map (fun k => Fld.dma (.TCH_ACTIVE_DATA c k))

section
variable (d : Dev) (c : Nat) (bs : List Byte)

theorem Dev.swapRegs_kept : Kept (swapFields c) [] d (d.swapRegs c bs) :=
  (((Kept.refl d).wr 0 (by simp [swapFields])).wr 0 (by simp [swapFields])).wrs _ (by simp [swapFields])

theorem Dev.rd_active_swapRegs (k : Nat) (hk : k < 6) :
    (d.swapRegs c bs).rd (.dma (.TCH_ACTIVE_DATA c k)) = leAt bs (4 * k) 4 % 2 ^ 32 :=
  Dev.rd_wrs_row _ (fun i => .dma (.TCH_ACTIVE_DATA c i)) _ (fun a b h => by simpa using h) 6 k hk

theorem Dev.rd_swapRegs {f : Fld} (hf : ∀ k, f ≠ .dma (.TCH_ACTIVE_DATA c k)) : (d.swapRegs c bs).rd f =
    ((d.wr (.dma (.TCH_SHCTRL_SHADOW_VALID c)) 0).wr (.dma (.TCH_SHCTRL_SWAP_REQ c)) 0).rd f :=
  Dev.rd_wrs_of_not_mem _ _ _ fun e he => by
    obtain ⟨k, -, rfl⟩ := List.mem_map.mp he
    exact (hf k).symm

/-- A swap of a channel whose shadow is in its registers. -/
theorem Dev.tchSwap_of_regs (h : d.rd (.dma (.TCH_CFG_SRC c)) = 0) :
    d.tchSwap c bs = (d.swapRegs c bs).modTch c (fun x => { x with x := some (d.swapXfer bs) }) := by
  have hb : (d.swapRegs c bs).descBad (Desc.ofBytes bs) true = d.descBad (Desc.ofBytes bs) true :=
    Dev.descBad_tick_congr (fun f => (d.swapRegs_kept c bs).rd (by simp [swapFields]) rfl) _
  rw [Dev.swapXfer, ← hb, Dev.tchSwap, if_neg (by simp [Dev.is, h])]
  rfl

end

/-- The device with the request that waits for a swap consumed: SWAP_REQ's, or one event of the swap line (R342). -/
theorem Dev.tchLineTaken_eq (d : Dev) (c : Nat)
    (h : d.rd (.dma (.TCH_SHCTRL_SWAP_REQ c)) = 0 → d.rd (.dma (.TCH_CFG_SWAP_LINE_EN c)) ≠ 0 ∧
      d.rd (.dma (.REQ_MAP_PENDING (d.rd (.dma (.TCH_CFG_SWAP_LINE c))))) ≠ 0) :
    d.tchLineTaken c = if d.rd (.dma (.TCH_SHCTRL_SWAP_REQ c)) ≠ 0 then d else
      d.wr (.dma (.REQ_MAP_PENDING (d.rd (.dma (.TCH_CFG_SWAP_LINE c)))))
        (d.rd (.dma (.REQ_MAP_PENDING (d.rd (.dma (.TCH_CFG_SWAP_LINE c))))) - 1) := by
  unfold Dev.tchLineTaken
  by_cases hr : d.rd (.dma (.TCH_SHCTRL_SWAP_REQ c)) = 0
  · obtain ⟨hen, hp⟩ := h hr
    simp [Dev.is, hr, hen, hp]
  · simp [Dev.is, hr]

section
variable (d : Dev) (c : Nat) (hc : d.rd (.dma (.TCH_CFG_SRC c)) = 0)
  (hp : d.rd (.dma (.TCH_SHCTRL_SWAP_REQ c)) = 0 → d.rd (.dma (.TCH_CFG_SWAP_LINE_EN c)) ≠ 0 ∧
    d.rd (.dma (.REQ_MAP_PENDING (d.rd (.dma (.TCH_CFG_SWAP_LINE c))))) ≠ 0)
include hp

theorem Dev.tchLineTaken_kept : Kept [.dma (.REQ_MAP_PENDING (d.rd (.dma (.TCH_CFG_SWAP_LINE c))))] [] d (d.tchLineTaken c) := by
  rw [d.tchLineTaken_eq c hp]
  exact .ite _ (fun _ => .refl _) (fun _ => (Kept.refl _).wr _ (by simp))

theorem Dev.rd_pending_tchLineTaken : (d.tchLineTaken c).rd (.dma (.REQ_MAP_PENDING (d.rd (.dma (.TCH_CFG_SWAP_LINE c))))) =
    if d.rd (.dma (.TCH_SHCTRL_SWAP_REQ c)) ≠ 0 then d.rd (.dma (.REQ_MAP_PENDING (d.rd (.dma (.TCH_CFG_SWAP_LINE c)))))
    else d.rd (.dma (.REQ_MAP_PENDING (d.rd (.dma (.TCH_CFG_SWAP_LINE c))))) - 1 := by
  have hlt := d.rd_lt (.dma (.REQ_MAP_PENDING (d.rd (.dma (.TCH_CFG_SWAP_LINE c)))))
  rw [d.tchLineTaken_eq c hp]
  split
  · rfl
  · rw [Dev.rd_wr, if_pos rfl, Nat.mod_eq_of_lt (by omega)]

/-- A request for a swap waits: SWAP_REQ's or the swap line's (R342). -/
theorem Dev.swapAsked : (d.is (.dma (.TCH_SHCTRL_SWAP_REQ c)) || (!d.is (.dma (.TCH_SHCTRL_SWAP_REQ c)) &&
    d.is (.dma (.TCH_CFG_SWAP_LINE_EN c)) && d.is (.dma (.REQ_MAP_PENDING (d.rd (.dma (.TCH_CFG_SWAP_LINE c))))))) = true := by
  by_cases h : d.rd (.dma (.TCH_SHCTRL_SWAP_REQ c)) = 0
  · obtain ⟨hen, hpd⟩ := hp h
    simp [Dev.is, h, hen, hpd]
  · simp [Dev.is, h]

include hc

/-- The device after a swap on request of a register shadow. -/
theorem Dev.swapped_eq : (d.tchLineTaken c).tchSwap c (d.shadowBytes c) = ((d.tchLineTaken c).swapRegs c (d.shadowBytes c)).modTch c
    (fun x => { x with x := some ((d.tchLineTaken c).swapXfer (d.shadowBytes c)) }) :=
  (d.tchLineTaken c).tchSwap_of_regs c _ (((d.tchLineTaken_kept c hp).rd (by simp) rfl).trans hc)

theorem Dev.swapped_kept : Kept (([.dma (.TCH_SHCTRL_SHADOW_VALID c), .dma (.TCH_SHCTRL_SWAP_REQ c),
    .dma (.REQ_MAP_PENDING (d.rd (.dma (.TCH_CFG_SWAP_LINE c))))] : List Fld) ++ (List.range 6).map (fun k => Fld.dma (.TCH_ACTIVE_DATA c k)))
    [.dma] d ((d.tchLineTaken c).tchSwap c (d.shadowBytes c)) := by
  rw [d.swapped_eq c hc hp]
  exact (((d.tchLineTaken_kept c hp).mono (by simp) (by simp)).trans
    (((d.tchLineTaken c).swapRegs_kept c _).mono (fun f hf => by simp [swapFields] at hf ⊢; tauto) (by simp))).modTch _ _ (by simp)

end

/-- What a swap on request of a register shadow does, its request waiting and its channel outside its slot (R342). -/
theorem exec_tchSwapOnRequest (s : State) (c : Fin 32) (hs : s.held = false) (hm : s.dev.rd (.dma (.TCH_CFG_MODE c)) = 0)
    (hx : (s.dev.tch c).x = none)
    (hp : s.dev.rd (.dma (.TCH_SHCTRL_SWAP_REQ c)) = 0 → s.dev.rd (.dma (.TCH_CFG_SWAP_LINE_EN c)) ≠ 0 ∧
      s.dev.rd (.dma (.REQ_MAP_PENDING (s.dev.rd (.dma (.TCH_CFG_SWAP_LINE c))))) ≠ 0)
    (hc : s.dev.rd (.dma (.TCH_CFG_SRC c)) = 0) (hv : s.dev.rd (.dma (.TCH_SHCTRL_SHADOW_VALID c)) ≠ 0)
    (hr : s.dev.tchRunning c = false) :
    exec (.tchSwapOnRequest c) s = .next { s with dev := (s.dev.tchLineTaken c).tchSwap c (s.dev.shadowBytes c) } := by
  have hsh : s.dev.shadow c = (some (s.dev.shadowBytes c), s.dev) := by simp [Dev.shadow, Dev.is, hc, hv, Dev.shadowBytes]
  have hrun : ((s.dev.tchLineTaken c).tchSwap c (s.dev.shadowBytes c)).tchRunning c = false := by
    have hk := s.dev.swapped_kept c hc hp
    rw [← hr]
    exact Dev.tchRunning_congr (hk.same (x := .mem) (by simp)) (hk.same (x := .cfg) (by simp)) (hk.same (x := .tick) (by simp)) c
  have hask := s.dev.swapAsked c hp
  have hmode : s.dev.is (.dma (.TCH_CFG_MODE c)) = false := by simpa [Dev.is] using hm
  show execTchSwapOnRequest c s = _
  rw [execTchSwapOnRequest, State.run_live s _ hs]
  simp only [hmode, hx, hask, hsh, hrun, Option.isSome_none, Bool.not_true, Bool.false_eq_true, or_self, if_false]

/-- A requested swap of a channel outside its slot, its shadow valid in its registers (R340 to R342). -/
theorem effect_tchSwapOnRequest (s : State) (c : Fin 32) (hs : s.held = false) (hm : s.dev.rd (.dma (.TCH_CFG_MODE c)) = 0)
    (hx : (s.dev.tch c).x = none)
    (hp : s.dev.rd (.dma (.TCH_SHCTRL_SWAP_REQ c)) = 0 → s.dev.rd (.dma (.TCH_CFG_SWAP_LINE_EN c)) ≠ 0 ∧
      s.dev.rd (.dma (.REQ_MAP_PENDING (s.dev.rd (.dma (.TCH_CFG_SWAP_LINE c))))) ≠ 0)
    (hc : s.dev.rd (.dma (.TCH_CFG_SRC c)) = 0) (hv : s.dev.rd (.dma (.TCH_SHCTRL_SHADOW_VALID c)) ≠ 0)
    (hr : s.dev.tchRunning c = false) :
    Effect (.tchSwapOnRequest c) s (([.dma (.TCH_SHCTRL_SHADOW_VALID c), .dma (.TCH_SHCTRL_SWAP_REQ c),
        .dma (.REQ_MAP_PENDING (s.dev.rd (.dma (.TCH_CFG_SWAP_LINE c))))] : List Fld) ++
        (List.range 6).map (fun k => Fld.dma (.TCH_ACTIVE_DATA c k))) [.dma] (fun t =>
      (∀ k : Fin 6, t.rd (.dma (.TCH_ACTIVE_DATA c k)) = s.dev.rd (.dma (.TCH_SHADOW_DATA c k))) ∧
      t.rd (.dma (.TCH_SHCTRL_SHADOW_VALID c)) = 0 ∧ t.rd (.dma (.TCH_SHCTRL_SWAP_REQ c)) = 0 ∧
      t.rd (.dma (.REQ_MAP_PENDING (s.dev.rd (.dma (.TCH_CFG_SWAP_LINE c))))) = (if s.dev.rd (.dma (.TCH_SHCTRL_SWAP_REQ c)) ≠ 0
        then s.dev.rd (.dma (.REQ_MAP_PENDING (s.dev.rd (.dma (.TCH_CFG_SWAP_LINE c)))))
        else s.dev.rd (.dma (.REQ_MAP_PENDING (s.dev.rd (.dma (.TCH_CFG_SWAP_LINE c))))) - 1) ∧
      (t.tch c).x = some (s.dev.swapXfer (s.dev.shadowBytes c))) := by
  have hk := s.dev.tchLineTaken_kept c hp
  have hpend := s.dev.rd_pending_tchLineTaken c hp
  have hxf : (s.dev.tchLineTaken c).swapXfer (s.dev.shadowBytes c) = s.dev.swapXfer (s.dev.shadowBytes c) := by
    rw [Dev.swapXfer, Dev.swapXfer, Dev.descBad_tick_congr fun f => hk.rd (by simp) rfl]
  refine Effect.of_next (exec_tchSwapOnRequest s c hs hm hx hp hc hv hr) (s.dev.swapped_kept c hc hp) ?_
  rw [s.dev.swapped_eq c hc hp, hxf]
  generalize s.dev.tchLineTaken c = e at hpend
  refine ⟨fun k => ?_, ?_, ?_, ?_, by simp⟩
  · rw [Dev.modTch_rd, Dev.rd_active_swapRegs _ _ _ _ k.isLt, s.dev.word_shadowBytes c k k.isLt]
    exact Nat.mod_eq_of_lt (s.dev.rd_lt (.dma (.TCH_SHADOW_DATA c k)))
  · rw [Dev.modTch_rd, Dev.rd_swapRegs _ _ _ (by simp)]
    simp
  · rw [Dev.modTch_rd, Dev.rd_swapRegs _ _ _ (by simp)]
    simp
  · rw [Dev.modTch_rd, Dev.rd_swapRegs _ _ _ (by simp), Dev.rd_wr, Dev.rd_wr, if_neg (by simp), if_neg (by simp), hpend]

/-! ### The end of an occurrence of a tick channel -/

/-- An occurrence that does not keep a pair's slot ends DONE: it is over, with its record (R67, R343). -/
theorem Dev.endOcc_done (d : Dev) (n : Nat) (hk : (d.slot n).kind ≠ 1) : d.endOcc n 0 = (d.occOver n).record n 0
    (decide ((d.occ n).state = .running) && (d.occ n).cancelLate)
    (decide ((d.occ n).state = .running) && decide ((d.slot n).start + 1 < (d.occ n).dispAt))
    (if (d.occ n).state = .running then d.tick.cyc - (d.occ n).dispAt else 0) := by
  simp [Dev.endOcc, Dev.occOver, hk]

theorem Dev.endOcc_done_kept (d : Dev) (n : Nat) (hk : (d.slot n).kind ≠ 1) : Kept (recFields n) [.tick] d (d.endOcc n 0) := by
  rw [d.endOcc_done n hk]
  exact ((Kept.refl d).modOcc n _ (by simp)).trans (Dev.record_kept _ _ _ _ _ _)

/-- The end of an occurrence leaves every register outside the tick's. -/
theorem Dev.rd_endOcc_done (d : Dev) (n : Nat) (hk : (d.slot n).kind ≠ 1) {f : Fld} (hf : ∀ g, f ≠ .tck g) :
    (d.endOcc n 0).rd f = d.rd f := by
  rw [d.endOcc_done n hk, Dev.rd_record _ _ _ _ _ _ (hf _)]
  simp [Dev.recRegs, hf]
  rfl

/-- What an occurrence ended DONE leaves in its slot's record (R67). -/
theorem Dev.endOcc_done_recorded (d : Dev) (n : Nat) (hn : n < 64) (hk : (d.slot n).kind ≠ 1) :
    ((d.endOcc n 0).occ n).state = .ended ∧ (d.endOcc n 0).rd (.tck (.SLOT_REC_STATUS n)) = 0 ∧
      (d.endOcc n 0).rd (.tck (.SLOT_REC_SLOT n)) = n := by
  rw [d.endOcc_done n hk, Dev.occ_record]
  obtain ⟨-, hslot, hstatus, -⟩ := (d.occOver n).recorded_record n 0 (decide ((d.occ n).state = .running) && (d.occ n).cancelLate)
    (decide ((d.occ n).state = .running) && decide ((d.slot n).start + 1 < (d.occ n).dispAt))
    (if (d.occ n).state = .running then d.tick.cyc - (d.occ n).dispAt else 0) hn (by decide)
  exact ⟨d.state_occOver n hn, hstatus, hslot⟩

/-- A tick channel with nothing to do ends its occurrence DONE (R343). -/
theorem effect_tchOccurrenceEnd (s : State) (c : Fin 32) (n : Nat) (hs : s.held = false) (ho : s.dev.tchOcc c = some n)
    (hm : s.dev.rd (.dma (.TCH_CFG_MODE c)) = 0) (hx : (s.dev.tch c).x = none) (hf : (s.dev.tch c).failed = false)
    (hc : s.dev.rd (.hep .CTN_STATUS_STATE) = 0) :
    Effect (.tchOccurrenceEnd c) s (recFields n) [.tick, .dma] (fun t => (t.occ n).state = .ended ∧
      t.rd (.tck (.SLOT_REC_STATUS n)) = 0 ∧ t.rd (.tck (.SLOT_REC_SLOT n)) = n) := by
  have hmem := List.mem_of_find?_eq_some ho
  have hn : n < 64 := List.mem_range.mp (List.mem_of_mem_filter hmem)
  have hkind : (s.dev.slot n).kind = 2 := by
    have := List.find?_some ho
    simp only [Bool.and_eq_true, decide_eq_true_eq] at this
    exact this.1
  have hx' : exec (.tchOccurrenceEnd c) s = .next { s with dev := (s.dev.modTch c (fun x => { x with failed := false })).endOcc n 0 } := by
    show execTchOccurrenceEnd c s = _
    rw [execTchOccurrenceEnd, State.run_live s _ hs]
    simp [ho, hx, hf, hc, hm, Dev.is]
  have hk : ((s.dev.modTch c (fun x => { x with failed := false })).slot n).kind ≠ 1 := by
    have hsl : (s.dev.modTch c (fun x => { x with failed := false })).slot n = s.dev.slot n := Dev.slot_congr rfl rfl n
    rw [hsl, hkind]
    decide
  exact Effect.of_next hx' (((Kept.refl _).modTch _ _ (by simp)).trans ((Dev.endOcc_done_kept _ _ hk).mono (by simp) (by simp)))
    (Dev.endOcc_done_recorded _ _ hn hk)

/-! ### The statement -/

/-- Settles O27: each clause is the effect of its command. -/
theorem requestLinesAndTickChannels : Obligations.RequestLinesAndTickChannels := by
  unfold Obligations.RequestLinesAndTickChannels
  intro s i c hs
  refine ⟨fun ha => ?_, effect_reqLineTimer s i hs, fun line byReq hl hb hm hx hp hc hv hr => ?_, fun n ho hm hx hf hc => ?_⟩
  · have ha : Awake s := ⟨hs, ha⟩
    exact ⟨effect_reqMapWrite s i ha, effect_reqFire s i ha, effect_reqFire_other s i ha, effect_tchArm s c ha,
      effect_tchArm_mailbox s c ha, effect_tchSwapReq s c ha⟩
  · subst hl hb
    have hask : s.dev.rd (.dma (.TCH_SHCTRL_SWAP_REQ c)) = 0 → s.dev.rd (.dma (.TCH_CFG_SWAP_LINE_EN c)) ≠ 0 ∧
        s.dev.rd (.dma (.REQ_MAP_PENDING (s.dev.rd (.dma (.TCH_CFG_SWAP_LINE c))))) ≠ 0 := fun h => hp (by simp [h])
    obtain ⟨t, ht, hp, ho, ⟨hact, hvalid, hreq, hpend, hxf⟩, hk⟩ := effect_tchSwapOnRequest s c hs hm hx hask hc hv hr
    obtain ⟨hsrc, hdst, h4, h5⟩ := s.dev.desc_shadowBytes c
    exact ⟨t, ht, hp, ho, ⟨hact, hvalid, hreq, by simpa using hpend, _, hxf, rfl, rfl, rfl, hsrc, hdst, h4, h5, rfl⟩, hk⟩
  · exact effect_tchOccurrenceEnd s c n hs ho hm hx hf hc

end Sys2Proof.Machine
end

section
-- The theorems are elaborated in order, which keeps the memory that a check of the whole text takes within its limit.
set_option Elab.async false

/-! SUPPORT.  MSI-X and INTx interrupts: their effects, clause by clause, and the statement they settle (R365 to R370). -/

namespace Sys2Proof.Machine

open Sys2Proof.Safety Sys2Proof.Claims

/-! ### Vectors -/

@[simp] theorem pf1IpendRing_width : (Fld.hep .PF1_IPEND_RING).width = 1 := rfl
@[simp] theorem pf1IpendSent_width : (Fld.hep .PF1_IPEND_SENT).width = 1 := rfl
@[simp] theorem pba_width (f : Nat) : (Fld.pba f).width = 64 := rfl

/-- Whether a vector is blocked does not rest on pending bits. -/
@[simp] theorem Dev.vecBlocked_wr_pba (d : Dev) (f v g n : Nat) : (d.wr (.pba g) n).vecBlocked f v = d.vecBlocked f v := by
  simp [Dev.vecBlocked, Dev.is, Dev.inD0, Dev.frozen]

/-- The device with its waiting interrupt requests replaced. -/
def Dev.withIrqs (d : Dev) (l : List (Nat × Nat)) : Dev := { d with irqs := l }

@[simp] theorem Dev.rd_withIrqs (d : Dev) (l : List (Nat × Nat)) (f : Fld) : (d.withIrqs l).rd f = d.rd f := rfl
@[simp] theorem Dev.irqs_withIrqs (d : Dev) (l : List (Nat × Nat)) : (d.withIrqs l).irqs = l := rfl
@[simp] theorem Dev.out_withIrqs (d : Dev) (l : List (Nat × Nat)) : (d.withIrqs l).out = d.out := rfl
@[simp] theorem Dev.fnExists_withIrqs (d : Dev) (l : List (Nat × Nat)) (f : Nat) : (d.withIrqs l).fnExists f = d.fnExists f := rfl
@[simp] theorem Dev.vecBlocked_withIrqs (d : Dev) (l : List (Nat × Nat)) (f v : Nat) :
    (d.withIrqs l).vecBlocked f v = d.vecBlocked f v := rfl

theorem kept_withIrqs {F : List Fld} {P : List Part} {d : Dev} (l : List (Nat × Nat)) (hi : .irqs ∈ P) : Kept F P d (d.withIrqs l) :=
  (Kept.refl d).withIrqs l hi

/-- An MSI-X message leaves (R367). -/
theorem Dev.msixSend_eq (d : Dev) (f v : Nat) : d.msixSend f v = (d.emit (msixMsg d f v)).count 0x50 0 1 := by
  rw [Dev.msixSend, msixMsg, Nat.mul_comm (2 ^ 32)]

@[simp] theorem Dev.out_msixSend (d : Dev) (f v : Nat) : (d.msixSend f v).out = d.out ++ ([msixMsg d f v] : List Outbound) := by
  rw [Dev.msixSend_eq, Dev.count_out]
  rfl

@[simp] theorem Dev.irqs_msixSend (d : Dev) (f v : Nat) : (d.msixSend f v).irqs = d.irqs := by
  rw [Dev.msixSend_eq, Dev.count_irqs]
  rfl

theorem Dev.rd_msixSend (d : Dev) (f v : Nat) {x : Fld} (hx : isCount x = false) : (d.msixSend f v).rd x = d.rd x := by
  rw [Dev.msixSend_eq, Dev.rd_count _ _ _ _ _ hx]
  rfl

theorem kept_msixSend {F : List Fld} {P : List Part} {d e : Dev} (h : Kept F P d e) (f v : Nat) (ho : .out ∈ P) (hh : .hep ∈ P) :
    Kept F P d (e.msixSend f v) := by
  rw [Dev.msixSend_eq]
  exact (h.emit _ ho hh).count _ _ _

@[simp] theorem msixMsg_withIrqs (d : Dev) (l : List (Nat × Nat)) (f v : Nat) : msixMsg (d.withIrqs l) f v = msixMsg d f v := rfl
@[simp] theorem msixMsg_wr_pba (d : Dev) (g n f v : Nat) : msixMsg (d.wr (.pba g) n) f v = msixMsg d f v := by
  simp [msixMsg]

/-- The pending bit of a vector, set and not blocked: the message leaves and the bit is cleared (R366). -/
theorem Dev.msixUnblock_open (d : Dev) (f v : Nat) (hp : (d.rd (.pba f)).testBit v = true) (hb : d.vecBlocked f v = false) :
    d.msixUnblock f v = (d.wr (.pba f) (d.rd (.pba f) - 2 ^ v)).msixSend f v := by
  rw [Dev.msixUnblock, bitAt_eq_testBit, if_pos ⟨hp, by simp [hb]⟩]

theorem Dev.msixUnblock_shut (d : Dev) (f v : Nat) (h : (d.rd (.pba f)).testBit v = false ∨ d.vecBlocked f v = true) :
    d.msixUnblock f v = d := by
  rw [Dev.msixUnblock, bitAt_eq_testBit, if_neg]
  rintro ⟨hp, hb⟩
  obtain h | h := h
  · rw [h] at hp; cases hp
  · simp [h] at hb

/-! ### MSIX_REQUEST -/

section
variable {s : State} {f v : Nat} {rest : List (Nat × Nat)} (hs : s.held = false) (hv : v < 64) (hq : s.dev.irqs = (f, v) :: rest)
include hs hq

/-- The oldest request arrives. -/
theorem exec_msixRequest : exec .msixRequest s = .next { s with dev := (s.dev.withIrqs rest).irqArrive f v } := by
  show execMsixRequest s = _
  rw [execMsixRequest, State.run_live s _ hs]
  simp only [hq, Dev.withIrqs]

theorem effect_msixRequest_noFunction (he : s.dev.fnExists f = false) :
    Effect .msixRequest s [] [.irqs] (fun t => t.irqs = rest) := by
  have hx := exec_msixRequest hs hq
  rw [Dev.irqArrive, if_pos (by simp [he])] at hx
  exact .of_next hx (kept_withIrqs _ (by simp)) rfl

theorem effect_msixRequest_pf1 (hf : f = 1) :
    Effect .msixRequest s [.hep .PF1_IPEND_RING] [.irqs] (fun t => t.irqs = rest ∧ t.rd (.hep .PF1_IPEND_RING) = 1) := by
  have hx := exec_msixRequest hs hq
  rw [Dev.irqArrive, if_neg (by simp [Dev.fnExists, hf]), if_pos hf] at hx
  exact .of_next hx ((kept_withIrqs _ (by simp)).wr _ (by simp)) ⟨rfl, by simp⟩

theorem effect_msixRequest_vfDropped (he : s.dev.fnExists f = true) (hf : 2 ≤ f) (h4 : 4 ≤ v) :
    Effect .msixRequest s [.hep .IRQ_DROP_VF_VECTOR] [.irqs] (fun t => t.irqs = rest ∧ Counts s.dev t (.hep .IRQ_DROP_VF_VECTOR)) := by
  have hx := exec_msixRequest hs hq
  rw [Dev.irqArrive, if_neg (by simp [he]), if_neg (by omega), if_pos ⟨hf, h4⟩] at hx
  exact .of_next hx ((kept_withIrqs _ (by simp)).inc (by simp)) ⟨rfl, by simp [Counts]⟩

include hv

theorem effect_msixRequest_pf0Pending (hf : f = 0) (hm : s.dev.rd (.cs 0 .MSIX_EN) = 0) :
    Effect .msixRequest s [.hep .PF0_IPEND_PEND] [.irqs] (fun t => t.irqs = rest ∧
      t.rd (.hep .PF0_IPEND_PEND) = setBit (s.dev.rd (.hep .PF0_IPEND_PEND)) v) := by
  have hx := exec_msixRequest hs hq
  rw [Dev.irqArrive, if_neg (by simp [Dev.fnExists, hf]), if_neg (by omega), if_neg (by omega), if_pos ⟨hf, by simp [Dev.is, hm]⟩] at hx
  exact .of_next hx ((kept_withIrqs _ (by simp)).wr _ (by simp)) ⟨rfl, Dev.rd_setFldBit _ _ _ hv⟩

variable (he : s.dev.fnExists f = true) (h1 : f ≠ 1) (h2 : 2 ≤ f → v < 4) (h0 : f = 0 → s.dev.rd (.cs 0 .MSIX_EN) ≠ 0)
include he h1 h2 h0

/-- A request with a vector of its own sets the vector's pending bit, and the message leaves where it may (R365, R366). -/
theorem exec_msixRequest_vector :
    exec .msixRequest s = .next { s with dev := ((s.dev.withIrqs rest).setFldBit (.pba f) v).msixUnblock f v } := by
  rw [exec_msixRequest hs hq, Dev.irqArrive, if_neg (by simp [he]), if_neg h1, if_neg (by omega), if_neg]
  rintro ⟨hf, hm⟩
  simp [Dev.is, h0 hf] at hm

theorem effect_msixRequest_blocked (hb : s.dev.vecBlocked f v = true) :
    Effect .msixRequest s [.pba f] [.irqs] (fun t => t.irqs = rest ∧ t.rd (.pba f) = setBit (s.dev.rd (.pba f)) v) := by
  have hx := exec_msixRequest_vector hs hv hq he h1 h2 h0
  rw [Dev.msixUnblock_shut _ _ _ (.inr (by simpa [Dev.setFldBit] using hb))] at hx
  exact .of_next hx ((kept_withIrqs _ (by simp)).wr _ (by simp)) ⟨rfl, Dev.rd_setFldBit _ _ _ hv⟩

theorem effect_msixRequest_sent (hb : s.dev.vecBlocked f v = false) (hp : (s.dev.rd (.pba f)).testBit v = false) :
    Effect .msixRequest s [] [.irqs, .out, .hep] (fun t => t.irqs = rest ∧
      t.out = s.dev.out ++ ([msixMsg s.dev f v] : List Outbound)) := by
  have hx := exec_msixRequest_vector hs hv hq he h1 h2 h0
  have hset : ((s.dev.withIrqs rest).setFldBit (.pba f) v).rd (.pba f) = s.dev.rd (.pba f) + 2 ^ v := by
    rw [Dev.rd_setFldBit _ _ _ hv, Dev.rd_withIrqs, setBit_of_not_testBit hp]
  have htest : (s.dev.rd (.pba f) + 2 ^ v).testBit v = true := by rw [Nat.add_comm, Nat.testBit_two_pow_add_eq, hp]; rfl
  rw [Dev.msixUnblock_open _ _ _ (by rw [hset]; exact htest) (by simpa [Dev.setFldBit] using hb), hset, Nat.add_sub_cancel] at hx
  refine .of_next hx ⟨fun x _ hc => ?_, fun x hx => ?_⟩ ⟨by simp [Dev.setFldBit], by simp [Dev.setFldBit]⟩
  · rw [Dev.rd_msixSend _ _ _ hc, Dev.setFldBit, Dev.rd_wr, Dev.rd_wr, Dev.rd_withIrqs]
    split
    · rename_i h
      rw [h, Nat.mod_eq_of_lt (s.dev.rd_lt _)]
    · rfl
  · have hk : Kept [.pba f] [.irqs, .out, .hep] s.dev ((((s.dev.withIrqs rest).setFldBit (.pba f) v).wr (.pba f) (s.dev.rd (.pba f))).msixSend f v) :=
      kept_msixSend (((kept_withIrqs _ (by simp)).wr _ (by simp)).wr _ (by simp)) _ _ (by simp) (by simp)
    exact hk.same hx

end

/-! ### MSIX_UNBLOCK -/

section
variable (s : State) (g : Fin 50) (w : Fin 64) (hs : s.held = false)
include hs

theorem exec_msixUnblock : exec (.msixUnblock g w) s = .next { s with dev := s.dev.msixUnblock g w } := by
  show execMsixUnblock g w s = _
  rw [execMsixUnblock, State.run_live s _ hs]

theorem effect_msixUnblock (hp : (s.dev.rd (.pba g)).testBit w = true) (hb : s.dev.vecBlocked g w = false) :
    Effect (.msixUnblock g w) s [.pba g] [.out, .hep] (fun t => t.out = s.dev.out ++ ([msixMsg s.dev g w] : List Outbound) ∧
      (t.rd (.pba g)).testBit w = false) := by
  have hx := exec_msixUnblock s g w hs
  rw [Dev.msixUnblock_open _ _ _ hp hb] at hx
  refine .of_next hx (kept_msixSend ((Kept.refl _).wr _ (by simp)) _ _ (by simp) (by simp)) ⟨by simp, ?_⟩
  have hlt : s.dev.rd (.pba g) - 2 ^ w.val < 2 ^ (Fld.pba g).width := (Nat.sub_le _ _).trans_lt (s.dev.rd_lt _)
  rw [Dev.rd_msixSend _ _ _ rfl, Dev.rd_wr, if_pos rfl, Nat.mod_eq_of_lt hlt]
  exact testBit_sub_two_pow hp

theorem effect_msixUnblock_shut (h : (s.dev.rd (.pba g)).testBit w = false ∨ s.dev.vecBlocked g w = true) :
    Effect (.msixUnblock g w) s [] [] (fun _ => True) := by
  have hx := exec_msixUnblock s g w hs
  rw [Dev.msixUnblock_shut _ _ _ h] at hx
  exact .of_next hx (.refl _) trivial

end

/-! ### INTX_MESSAGE -/

theorem Dev.setSent_kept (d : Dev) (w : Nat) (v : Bool) : Kept [.hep .PF1_IPEND_SENT] [.hep] d (d.setSent w v) :=
  .ite _ (fun _ => (Kept.refl d).withHep _ (by simp)) (fun _ => (Kept.refl d).wr _ (by simp))

theorem Dev.sent_setSent (d : Dev) (w u : Fin 2) (v : Bool) : (d.setSent w v).sent u = if u = w then v else d.sent u :=
  match w, u with
  | 0, 0 => rfl
  | 0, 1 => rfl
  | 1, 0 => rfl
  | 1, 1 => by cases v <;> simp [Dev.setSent, Dev.sent, Dev.is, b2n]

section
variable (s : State) (w : Fin 2) (hs : s.held = false)
include hs

theorem effect_intxMessage (hl : s.dev.rd (.hep .LINK_STATUS_DL_UP) ≠ 0) (hf : s.dev.frozen = false)
    (hd : s.dev.sent w ≠ s.dev.wireLevel w) :
    Effect (.intxMessage w) s [.hep .PF1_IPEND_SENT] [.out, .hep] (fun t =>
      t.out = s.dev.out ++ ([.intx (s.dev.wireLevel w) w] : List Outbound) ∧ t.sent w = s.dev.wireLevel w ∧
      ∀ u : Fin 2, u ≠ w → t.sent u = s.dev.sent u) := by
  have hx : exec (.intxMessage w) s = .next { s with
      dev := ((s.dev.emit (.intx (s.dev.wireLevel w) w)).setSent w (s.dev.wireLevel w)).count 0x50 0 1 } := by
    show execIntxMessage w s = _
    rw [execIntxMessage, State.run_live s _ hs, Dev.intxSend, if_neg (by simp [Dev.is, hl, hf, hd])]
  have hk := (s.dev.emit (.intx (s.dev.wireLevel w) w)).setSent_kept w (s.dev.wireLevel w)
  have hsent : ∀ (e : Dev) (u : Nat), (e.count 0x50 0 1).sent u = e.sent u := fun e u => by
    simp only [Dev.sent, Dev.count_hep, Dev.is_congr (e.rd_count 0x50 0 1 (.hep .PF1_IPEND_SENT) rfl)]
  have hemit : ∀ (o : Outbound) (u : Nat), (s.dev.emit o).sent u = s.dev.sent u := fun o u => rfl
  refine .of_next hx ((((Kept.refl _).emit _ (by simp) (by simp)).trans (hk.mono (by simp) (by simp))).count _ _ _) ⟨?_, ?_, fun u hu => ?_⟩
  · rw [Dev.count_out, hk.same (x := .out) (by simp)]
    rfl
  · rw [hsent, Dev.sent_setSent, if_pos rfl]
  · rw [hsent, Dev.sent_setSent, if_neg hu, hemit]

theorem effect_intxMessage_none (h : s.dev.rd (.hep .LINK_STATUS_DL_UP) = 0 ∨ s.dev.frozen = true ∨ s.dev.sent w = s.dev.wireLevel w) :
    Effect (.intxMessage w) s [] [] (fun _ => True) := by
  refine Effect.run (x := execIntxMessage w s) rfl rfl hs ?_
  rw [Dev.intxSend, if_pos (by simpa [Dev.is] using h)]
  exact ⟨.refl _, trivial⟩

end

/-! ### The statement -/

/-- Settles O32: each clause is the effect of its command. -/
theorem interrupts : Obligations.Interrupts := by
  unfold Obligations.Interrupts
  intro s f v rest hs hv _
  refine ⟨fun hq => ⟨effect_msixRequest_noFunction hs hq, effect_msixRequest_pf1 hs hq, effect_msixRequest_vfDropped hs hq,
    effect_msixRequest_pf0Pending hs hv hq, fun he h1 h2 h0 => ⟨effect_msixRequest_blocked hs hv hq he h1 h2 h0,
      effect_msixRequest_sent hs hv hq he h1 h2 h0⟩⟩, fun g w => ⟨effect_msixUnblock s g w hs, effect_msixUnblock_shut s g w hs⟩,
    fun w => ⟨effect_intxMessage s w hs, effect_intxMessage_none s w hs⟩⟩

end Sys2Proof.Machine
end

section
-- The theorems are elaborated in order, which keeps the memory that a check of the whole text takes within its limit.
set_option Elab.async false

/-! SUPPORT.  Performance counters: their effects, clause by clause, and the statement they settle (R567 to R574). -/

namespace Sys2Proof.Machine

open Sys2Proof.Safety Sys2Proof.Claims

/-! ### Fields of the counters -/

@[simp] theorem cntCount_width (n : Nat) : (Fld.pmc (.CNT_COUNT n)).width = 48 := rfl
@[simp] theorem ovf_width (n : Nat) : (Fld.pmc (.OVF_OVF n)).width = 32 := rfl
@[simp] theorem selEvent_width (n : Nat) : (Fld.pmc (.SEL_EVENT n)).width = 8 := rfl
@[simp] theorem selInst_width (n : Nat) : (Fld.pmc (.SEL_INST n)).width = 8 := rfl
@[simp] theorem selOvfIrq_width (n : Nat) : (Fld.pmc (.SEL_OVF_IRQ n)).width = 1 := rfl
@[simp] theorem selEn_width (n : Nat) : (Fld.pmc (.SEL_EN n)).width = 1 := rfl
@[simp] theorem freeze_width : (Fld.pmc .CTRL_FREEZE).width = 1 := rfl
@[simp] theorem snapSeq_width : (Fld.pmc .SNAP_SEQ_SEQ).width = 32 := rfl
@[simp] theorem snapSrc_width : (Fld.pmc .SNAP_INFO_SRC).width = 1 := rfl
@[simp] theorem snapBank_width (b n : Nat) : (Fld.pmc (.SNAP_BANK_COUNT b n)).width = 48 := rfl

/-! ### What counting leaves -/

/-- A counter that is not enabled counts nothing (R567). -/
theorem Dev.rd_cntCount_count (d : Dev) (ev inst k n : Nat) (hn : d.rd (.pmc (.SEL_EN n)) = 0) :
    (d.count ev inst k).rd (.pmc (.CNT_COUNT n)) = d.rd (.pmc (.CNT_COUNT n)) := by
  have hadd : ∀ (l : List Nat) (e : Dev), n ∉ l → (l.foldl (fun d m => d.pmcAdd k m) e).rd (.pmc (.CNT_COUNT n)) = e.rd (.pmc (.CNT_COUNT n)) := by
    intro l
    induction l with
    | nil => exact fun _ _ => rfl
    | cons m ms ih =>
      intro e hm
      obtain ⟨hne, hms⟩ := not_or.mp (mt List.mem_cons.mpr hm)
      have hw : ∀ v, (e.wr (.pmc (.CNT_COUNT m)) v).rd (.pmc (.CNT_COUNT n)) = e.rd (.pmc (.CNT_COUNT n)) := fun v => by simp [hne]
      rw [List.foldl_cons, ih _ hms, Dev.pmcAdd]
      dsimp only
      split
      · exact hw _
      · exact hw _
  unfold Dev.count
  split
  · rfl
  · refine hadd _ _ fun hm => ?_
    obtain ⟨x, -, hx⟩ := List.mem_filterMap.mp (List.mem_of_mem_filter hm)
    split at hx
    · rename_i m hm
      rw [hm] at hx
      split at hx
      · obtain rfl := Option.some.inj hx
        simp_all [Dev.is]
      · cases hx
    · cases hx

/-- A host access counted leaves the counters that are not enabled. -/
theorem countsKept_access (s : State) (l : List Nat) : CountsKept s.dev (s.dev.count 0x51 0 1) l :=
  fun n _ hn => s.dev.rd_cntCount_count _ _ _ n hn

/-! ### COUNTER_OVERFLOW -/

theorem kept_pmcEvent {F : List Fld} {P : List Part} {d e : Dev} (h : Kept F P d e) (hi : .irqs ∈ P) : Kept F P d e.pmcEvent :=
  .ite _ (fun _ => h.hepEvent 16 hi) (fun _ => h)

@[simp] theorem Dev.rd_pmcEvent (d : Dev) (f : Fld) : d.pmcEvent.rd f = d.rd f := by
  unfold Dev.pmcEvent
  split <;> simp

@[simp] theorem Dev.pmc_pmcEvent (d : Dev) : d.pmcEvent.pmc = d.pmc := by
  unfold Dev.pmcEvent
  split <;> simp

/-- The device with the counters that have wrapped replaced. -/
def Dev.withWrapped (d : Dev) (l : List Nat) : Dev := { d with pmc := { d.pmc with wrapped := l } }

theorem Dev.withWrapped_kept (d : Dev) (l : List Nat) : Kept [] [] d (d.withWrapped l) := by
  refine .of_regs rfl fun x _ => ?_
  cases x <;> simp [Part.Same, Dev.withWrapped]

theorem effect_counterOverflow (s : State) (hs : s.held = false) (k : Nat) (ks : List Nat) (hw : s.dev.pmc.wrapped = k :: ks) :
    Effect .counterOverflow s [.pmc (.OVF_OVF (k / 32))] [.irqs] (fun t =>
      t.rd (.pmc (.OVF_OVF (k / 32))) = setBit (s.dev.rd (.pmc (.OVF_OVF (k / 32)))) (k % 32) ∧ t.pmc.wrapped = ks) := by
  have hlt : k % 32 < 32 := Nat.mod_lt _ (by decide)
  have hk : Kept [.pmc (.OVF_OVF (k / 32))] [.irqs] s.dev ((s.dev.withWrapped ks).setFldBit (.pmc (.OVF_OVF (k / 32))) (k % 32)) :=
    ((s.dev.withWrapped_kept ks).mono (by simp) (by simp)).wr _ (by simp)
  have hrd := (s.dev.withWrapped ks).rd_setFldBit (.pmc (.OVF_OVF (k / 32))) (k % 32) hlt
  have hx : exec .counterOverflow s = .next { s with
      dev := let e := (s.dev.withWrapped ks).setFldBit (.pmc (.OVF_OVF (k / 32))) (k % 32)
        if e.is (.pmc (.SEL_OVF_IRQ k)) then e.pmcEvent else e } := by
    show execCounterOverflow s = _
    rw [execCounterOverflow, State.run_live s _ hs]
    simp only [hw]
    rfl
  refine .of_next hx (.ite _ (fun _ => kept_pmcEvent hk (by simp)) (fun _ => hk)) ?_
  dsimp only
  split
  · exact ⟨by rw [Dev.rd_pmcEvent, hrd]; rfl, by rw [Dev.pmc_pmcEvent]; rfl⟩
  · exact ⟨by rw [hrd]; rfl, rfl⟩

/-! ### Writes of the counters' registers -/

/-- What a write of PMC_SEL writes: the event and the instance selected, the two enables, and the counter cleared (R570). -/
def Dev.selWritten (d : Dev) (n v : Nat) : Dev :=
  d.wrs [(.pmc (.SEL_EVENT n), v % 256), (.pmc (.SEL_INST n), v / 256 % 256), (.pmc (.SEL_OVF_IRQ n), bitsOf v 30 1),
    (.pmc (.SEL_EN n), bitsOf v 31 1), (.pmc (.CNT_COUNT n), 0)]

theorem Dev.selWritten_kept (d : Dev) (n v : Nat) :
    Kept [.pmc (.SEL_EVENT n), .pmc (.SEL_INST n), .pmc (.SEL_OVF_IRQ n), .pmc (.SEL_EN n)] [] d (d.selWritten n v) := by
  have h : Kept [.pmc (.SEL_EVENT n), .pmc (.SEL_INST n), .pmc (.SEL_OVF_IRQ n), .pmc (.SEL_EN n), .pmc (.CNT_COUNT n)] [] d
      (d.selWritten n v) := (Kept.refl d).wrs _ (by simp)
  refine ⟨fun f hf hc => h.rd (fun hm => ?_) hc, h.2⟩
  have : f ≠ .pmc (.CNT_COUNT n) := by rintro rfl; cases hc
  simp_all

theorem Dev.rd_selWritten (d : Dev) (n v : Nat) (hv : v < 2 ^ 32) :
    (d.selWritten n v).rd (.pmc (.SEL_EVENT n)) = v % 256 ∧ (d.selWritten n v).rd (.pmc (.SEL_INST n)) = v / 256 % 256 ∧
    (d.selWritten n v).rd (.pmc (.SEL_OVF_IRQ n)) = v / 2 ^ 30 % 2 ∧ (d.selWritten n v).rd (.pmc (.SEL_EN n)) = v / 2 ^ 31 ∧
    (d.selWritten n v).rd (.pmc (.CNT_COUNT n)) = 0 ∧
    ∀ m, m ≠ n → (d.selWritten n v).rd (.pmc (.CNT_COUNT m)) = d.rd (.pmc (.CNT_COUNT m)) := by
  have h31 : v / 2 ^ 31 % 2 = v / 2 ^ 31 := by omega
  have hen : (d.selWritten n v).rd (.pmc (.SEL_EN n)) = v / 2 ^ 31 % 2 := by simp [Dev.selWritten, bitsOf]
  refine ⟨?_, ?_, ?_, hen.trans h31, ?_, fun m hm => ?_⟩ <;> simp [Dev.selWritten, bitsOf, *]

section
variable (s : State) (ha : Awake s)
include ha

theorem effect_pmcCntWrite (n : Fin 384) (value : BitVec 64) :
    Effect (.pmcCntWrite n value) s [] [] (fun t => t.rd (.pmc (.CNT_COUNT n)) = value.toNat % 2 ^ 48 ∧ CountsKept s.dev t [n.val]) := by
  have hx : exec (.pmcCntWrite n value) s = .next { s with dev := (s.dev.count 0x51 0 1).wr (.pmc (.CNT_COUNT n)) value.toNat } := by
    show execPmcCntWrite n value s = _
    rw [execPmcCntWrite, State.host_awake s _ ha]
  refine .of_next hx ⟨fun f _ hc => ?_, fun x _ => ((Kept.refl _).count _ _ _).same (x := x) (P := []) (F := []) (by simp)⟩ ⟨by simp, fun m hm he => ?_⟩
  · rw [Dev.rd_wr, if_neg (by rintro rfl; cases hc), Dev.rd_count _ _ _ _ _ hc]
  · rw [Dev.rd_wr, if_neg (by simpa using hm), countsKept_access s [n.val] m hm he]

theorem effect_pmcSelWrite (n : Fin 384) (sel : BitVec 32) (insts : Nat) (hi : eventInsts (sel.toNat % 256) = some insts)
    (hlt : sel.toNat / 256 % 256 < insts) :
    Effect (.pmcSelWrite n sel) s [.pmc (.SEL_EVENT n), .pmc (.SEL_INST n), .pmc (.SEL_OVF_IRQ n), .pmc (.SEL_EN n)] [.irqs] (fun t =>
      t.rd (.pmc (.SEL_EVENT n)) = sel.toNat % 256 ∧ t.rd (.pmc (.SEL_INST n)) = sel.toNat / 256 % 256 ∧
      t.rd (.pmc (.SEL_OVF_IRQ n)) = sel.toNat / 2 ^ 30 % 2 ∧ t.rd (.pmc (.SEL_EN n)) = sel.toNat / 2 ^ 31 ∧
      t.rd (.pmc (.CNT_COUNT n)) = 0 ∧ CountsKept s.dev t [n.val]) := by
  have hk := (Kept.refl (F := []) (P := []) s.dev).count 0x51 0 1
  have hcnt := countsKept_access s [n.val]
  have hx : exec (.pmcSelWrite n sel) s = .next { s with
      dev := let e := (s.dev.count 0x51 0 1).selWritten n sel.toNat
        if (bitAt sel.toNat 30 && !(s.dev.count 0x51 0 1).is (.pmc (.SEL_OVF_IRQ n))) = true ∧
            bitAt (e.rd (.pmc (.OVF_OVF (n / 32)))) (n % 32) = true then e.pmcEvent else e } := by
    have h0 : bitsOf sel.toNat 0 8 = sel.toNat % 256 := by simp [bitsOf]
    have h8 : bitsOf sel.toNat 8 8 = sel.toNat / 256 % 256 := rfl
    show execPmcSelWrite n sel s = _
    rw [execPmcSelWrite, State.host_awake s _ ha]
    simp only [h0, h8, hi, Option.isSome_some, if_true, Option.getD_some, hlt]
    rfl
  generalize s.dev.count 0x51 0 1 = e at hx hk hcnt
  have hks := hk.mono (F' := [.pmc (.SEL_EVENT n), .pmc (.SEL_INST n), .pmc (.SEL_OVF_IRQ n), .pmc (.SEL_EN n)]) (P' := [.irqs])
    (by simp) (by simp)
  have hks := hks.trans ((e.selWritten_kept n sel.toNat).mono (by simp) (by simp))
  obtain ⟨hev, hinst, hirq, hen, hzero, hrest⟩ := e.rd_selWritten n sel.toNat sel.isLt
  generalize e.selWritten n sel.toNat = g at hx hks hev hinst hirq hen hzero hrest
  have hpost : ∀ t : Dev, (∀ f, t.rd f = g.rd f) → t.rd (.pmc (.SEL_EVENT n)) = sel.toNat % 256 ∧
      t.rd (.pmc (.SEL_INST n)) = sel.toNat / 256 % 256 ∧ t.rd (.pmc (.SEL_OVF_IRQ n)) = sel.toNat / 2 ^ 30 % 2 ∧
      t.rd (.pmc (.SEL_EN n)) = sel.toNat / 2 ^ 31 ∧ t.rd (.pmc (.CNT_COUNT n)) = 0 ∧ CountsKept s.dev t [n.val] := fun t ht =>
    ⟨(ht _).trans hev, (ht _).trans hinst, (ht _).trans hirq, (ht _).trans hen, (ht _).trans hzero,
      fun m hm he => ((ht _).trans (hrest m (by simpa using hm))).trans (hcnt m hm he)⟩
  refine .of_next hx (.ite _ (fun _ => kept_pmcEvent hks (by simp)) (fun _ => hks)) ?_
  dsimp only
  split
  · exact hpost _ g.rd_pmcEvent
  · exact hpost _ fun _ => rfl

theorem effect_pmcFreeze : Effect .pmcFreeze s [.pmc .CTRL_FREEZE] [] (fun t => t.rd (.pmc .CTRL_FREEZE) = 1) :=
  Effect.host (x := execPmcFreeze s) rfl rfl ha fun e _ => ⟨(Kept.refl e).wr _ (by simp), by simp⟩

theorem effect_pmcUnfreeze : Effect .pmcUnfreeze s [.pmc .CTRL_FREEZE] [] (fun t => t.rd (.pmc .CTRL_FREEZE) = 0) :=
  Effect.host (x := execPmcUnfreeze s) rfl rfl ha fun e _ => ⟨(Kept.refl e).wr _ (by simp), by simp⟩

end

/-! ### Snapshots -/

/-- A row of registers copied from another row that it does not overlap. -/
theorem Dev.rd_copyRow (d : Dev) (f g : Nat → Fld) (hfg : ∀ i j, f i ≠ g j) (hf : Function.Injective f) (n : Nat) :
    (∀ j, ((List.range n).foldl (fun (d : Dev) i => d.wr (f i) (d.rd (g i))) d).rd (g j) = d.rd (g j)) ∧
    ∀ k < n, ((List.range n).foldl (fun (d : Dev) i => d.wr (f i) (d.rd (g i))) d).rd (f k) = d.rd (g k) % 2 ^ (f k).width := by
  induction n with
  | zero => exact ⟨fun _ => rfl, fun k hk => absurd hk (by omega)⟩
  | succ n ih =>
    obtain ⟨hsrc, hdst⟩ := ih
    rw [List.range_succ, List.foldl_append]
    refine ⟨fun j => ?_, fun k hk => ?_⟩
    · rw [List.foldl_cons, List.foldl_nil, Dev.rd_wr, if_neg (hfg n j).symm, hsrc]
    · rw [List.foldl_cons, List.foldl_nil, Dev.rd_wr]
      split
      · rename_i h
        rw [hsrc, hf h]
      · rename_i h
        exact hdst k (by have : k ≠ n := fun e => h (congrArg f e); omega)

section
variable (d : Dev) (src : Nat)

/-- The number of the next snapshot. -/
def Dev.nextSnap : Nat := (d.rd (.pmc .SNAP_SEQ_SEQ) + 1) % 2 ^ 32

/-- The device with the instant of a snapshot noted. -/
def Dev.snapNoted : Dev := { d with pmc := { d.pmc with snapAt := some (fabCycle d.now) } }

/-- The device with every counter copied into bank `b` (R574). -/
def Dev.banked (b : Nat) : Dev :=
  (List.range 384).foldl (fun (d : Dev) n => d.wr (.pmc (.SNAP_BANK_COUNT b n)) (d.rd (.pmc (.CNT_COUNT n)))) d

/-- The device after a snapshot that neither HOLD nor one in the same cycle prevents. -/
def Dev.snapped : Dev := (d.snapNoted.banked (d.nextSnap % 2)).wrs
  [(.pmc .SNAP_SEQ_SEQ, d.nextSnap), (.pmc .SNAP_TICK_TICK, d.tick.fabTick), (.pmc .SNAP_INFO_SRC, src)]

theorem Dev.snapshot_hold (hh : d.rd (.pmc .CTRL_HOLD) ≠ 0) : d.snapshot src = d.inc (.pmc .SNAP_INFO_SKIP) := by
  rw [Dev.snapshot, if_pos (by simpa [Dev.is] using hh)]

variable (hh : d.rd (.pmc .CTRL_HOLD) = 0)
include hh

theorem Dev.snapshot_again (hn : d.pmc.snapAt = some (d.now * 4 / 5)) :
    d.snapshot src = if src = 0 then d.wr (.pmc .SNAP_INFO_SRC) 0 else d := by
  rw [Dev.snapshot, if_neg (by simp [Dev.is, hh]), if_pos (show _ = some (fabCycle d.now) from hn)]

theorem Dev.snapshot_taken (hn : d.pmc.snapAt ≠ some (d.now * 4 / 5)) : d.snapshot src = d.snapped src := by
  rw [Dev.snapshot, if_neg (by simp [Dev.is, hh]), if_neg (show _ ≠ some (fabCycle d.now) from hn)]
  rfl

end

section
variable (d : Dev) (src : Nat)

theorem Dev.banked_kept (b : Nat) (F : List Fld) (hF : ∀ n < 384, Fld.pmc (.SNAP_BANK_COUNT b n) ∈ F) : Kept F [] d (d.banked b) :=
  (Kept.refl d).foldl _ _ fun _ n hn h => h.wr _ (hF n (List.mem_range.mp hn))

theorem Dev.rd_banked (b : Nat) : (∀ n, (d.banked b).rd (.pmc (.CNT_COUNT n)) = d.rd (.pmc (.CNT_COUNT n))) ∧
    ∀ n < 384, (d.banked b).rd (.pmc (.SNAP_BANK_COUNT b n)) = d.rd (.pmc (.CNT_COUNT n)) := by
  obtain ⟨hcnt, hbank⟩ := d.rd_copyRow (fun n => .pmc (.SNAP_BANK_COUNT b n)) (fun n => .pmc (.CNT_COUNT n)) (by simp)
    (fun i j h => by simpa using h) 384
  exact ⟨hcnt, fun n hn => (hbank n hn).trans (Nat.mod_eq_of_lt (d.rd_lt (.pmc (.CNT_COUNT n))))⟩

/-- The bank of the next number is one that a snapshot writes. -/
theorem bank_mem_snapRegs (n : Nat) (hn : n < 384) : Fld.pmc (.SNAP_BANK_COUNT (d.nextSnap % 2) n) ∈ snapRegs d := by
  rw [Dev.nextSnap, Nat.mod_mod_of_dvd _ (by decide : (2 : Nat) ∣ 2 ^ 32)]
  exact List.mem_append_right _ (List.mem_map.mpr ⟨n, List.mem_range.mpr hn, rfl⟩)

theorem Dev.snapped_kept : Kept (snapRegs d) [.pmc] d (d.snapped src) := by
  have hb := d.snapNoted.banked_kept (d.nextSnap % 2) (snapRegs d) (bank_mem_snapRegs d)
  exact (((Kept.refl d).withPmc _ (by simp)).trans (hb.mono (by simp) (by simp))).wrs _ (by simp [snapRegs])

theorem Dev.snapped_snapped (hs : src < 2) : Snapped d (d.snapped src) src := by
  have hb := (d.snapNoted.banked_kept (d.nextSnap % 2) (snapRegs d) (bank_mem_snapRegs d)).same (x := .pmc) (by simp)
  obtain ⟨hcnt, hbank⟩ := d.snapNoted.rd_banked (d.nextSnap % 2)
  have hq : d.nextSnap % 2 ^ 32 = d.nextSnap := Nat.mod_eq_of_lt (Nat.mod_lt _ (by decide))
  refine ⟨d.nextSnap, rfl, ?_, ?_, ?_, hb.1, fun n => ?_⟩
  · simpa [Dev.snapped] using hq
  · simpa [Dev.snapped] using Nat.mod_eq_of_lt hs
  · simp [Dev.snapped]
    rfl
  · have hbn := hbank n n.isLt
    simp only [Dev.snapped, Dev.wrs_cons, Dev.wrs_nil, Dev.rd_wr, hcnt] at hbn ⊢
    simpa using hbn

end

/-- What a snapshot rests on may be read from any earlier state that reads it alike. -/
theorem snapped_of_eq {d e t : Dev} {src : Nat} (h : Snapped e t src) (hq : e.rd (.pmc .SNAP_SEQ_SEQ) = d.rd (.pmc .SNAP_SEQ_SEQ))
    (ht : e.tick = d.tick) (hn : e.now = d.now) : Snapped d t src := by
  unfold Snapped at h ⊢
  rwa [hq, ht, hn] at h

section
variable (s : State)

theorem effect_pmcSnap_hold (ha : Awake s) (hh : s.dev.rd (.pmc .CTRL_HOLD) ≠ 0) :
    Effect .pmcSnap s [.pmc .SNAP_INFO_SKIP] [] (fun t => Counts s.dev t (.pmc .SNAP_INFO_SKIP)) := by
  refine Effect.host (x := execPmcSnap s) rfl rfl ha fun e he => ?_
  rw [Dev.snapshot_hold _ _ (by rwa [he.rd _ rfl])]
  exact ⟨(Kept.refl e).inc (by simp), Counts.of_rd (by simp [Counts]) (he.rd _ rfl)⟩

theorem effect_pmcSnap (ha : Awake s) (hh : s.dev.rd (.pmc .CTRL_HOLD) = 0) (hn : s.dev.pmc.snapAt ≠ some (s.dev.now * 4 / 5)) :
    Effect .pmcSnap s (snapRegs s.dev) [.pmc] (fun t => Snapped s.dev t 1) := by
  refine Effect.host (x := execPmcSnap s) rfl rfl ha fun e he => ?_
  have hseq := he.rd (.pmc .SNAP_SEQ_SEQ) rfl
  have hhe := (he.rd (.pmc .CTRL_HOLD) rfl).trans hh
  obtain ⟨r, w, rfl, -⟩ := he
  rw [Dev.snapshot_taken _ _ hhe hn]
  refine ⟨?_, snapped_of_eq (Dev.snapped_snapped _ 1 (by decide)) hseq rfl rfl⟩
  have hk := Dev.snapped_kept { s.dev with regs := r, pmc := { s.dev.pmc with wrapped := w } } 1
  rwa [snapRegs, hseq] at hk

theorem effect_pmcSnap_again (ha : Awake s) (hh : s.dev.rd (.pmc .CTRL_HOLD) = 0) (hn : s.dev.pmc.snapAt = some (s.dev.now * 4 / 5)) :
    Effect .pmcSnap s [] [] (fun _ => True) := by
  refine Effect.host (x := execPmcSnap s) rfl rfl ha fun e he => ?_
  have hhe := (he.rd (.pmc .CTRL_HOLD) rfl).trans hh
  obtain ⟨r, w, rfl, -⟩ := he
  rw [Dev.snapshot_again _ _ hhe hn]
  exact ⟨.refl _, trivial⟩

end

/-! ### The counters' task -/

/-- A slot that runs a housekeeping task holds no engine's work. -/
theorem Dev.kind_of_taskRuns {d e : Dev} {n task : Nat} (h : d.taskRuns n task = true) (hm : e.mem = d.mem) (hc : e.cfg = d.cfg) :
    (e.slot n).kind ≠ 1 := by
  simp only [Dev.taskRuns, Bool.and_eq_true, decide_eq_true_eq] at h
  obtain ⟨⟨-, hk⟩, -⟩ := h
  rw [Dev.slot_congr hm hc, hk]
  decide

section
variable (s : State) (slot : Fin 64) (hs : s.held = false) (hr : s.dev.taskRuns slot 3 = true)
include hs hr

theorem exec_counterSnapshotTask : exec (.counterSnapshotTask slot) s = .next { s with dev := (s.dev.snapshot 0).endOcc slot 0 } := by
  show execCounterSnapshotTask slot s = _
  rw [execCounterSnapshotTask, State.run_live s _ hs]
  simp only [hr, if_true]

theorem effect_counterSnapshotTask_hold (hh : s.dev.rd (.pmc .CTRL_HOLD) ≠ 0) :
    Effect (.counterSnapshotTask slot) s (.pmc .SNAP_INFO_SKIP :: recFields slot) [.tick] (fun t =>
      Counts s.dev t (.pmc .SNAP_INFO_SKIP) ∧ (t.occ slot).state = .ended ∧ t.rd (.tck (.SLOT_REC_STATUS slot)) = 0) := by
  have hx := exec_counterSnapshotTask s slot hs hr
  rw [Dev.snapshot_hold _ _ hh] at hx
  have hkind := Dev.kind_of_taskRuns (e := s.dev.inc (.pmc .SNAP_INFO_SKIP)) hr rfl rfl
  have hk := (s.dev.inc (.pmc .SNAP_INFO_SKIP)).endOcc_done_kept slot hkind
  obtain ⟨hstate, hstatus, -⟩ := (s.dev.inc (.pmc .SNAP_INFO_SKIP)).endOcc_done_recorded slot slot.isLt hkind
  refine .of_next hx (((Kept.refl _).inc (by simp)).trans (hk.mono (by simp) (by simp))) ⟨?_, hstate, hstatus⟩
  rw [Counts, hk.rd (by simp [recFields]) rfl]
  simp

theorem effect_counterSnapshotTask (hh : s.dev.rd (.pmc .CTRL_HOLD) = 0) (hn : s.dev.pmc.snapAt ≠ some (s.dev.now * 4 / 5)) :
    Effect (.counterSnapshotTask slot) s (snapRegs s.dev ++ recFields slot) [.pmc, .tick] (fun t =>
      Snapped s.dev t 0 ∧ (t.occ slot).state = .ended ∧ t.rd (.tck (.SLOT_REC_STATUS slot)) = 0) := by
  have hx := exec_counterSnapshotTask s slot hs hr
  rw [Dev.snapshot_taken _ _ hh hn] at hx
  have hsk := s.dev.snapped_kept 0
  have hkind := Dev.kind_of_taskRuns (e := s.dev.snapped 0) hr (hsk.same (x := .mem) (by simp)) (hsk.same (x := .cfg) (by simp))
  have hk := (s.dev.snapped 0).endOcc_done_kept slot hkind
  obtain ⟨hstate, hstatus, -⟩ := (s.dev.snapped 0).endOcc_done_recorded slot slot.isLt hkind
  refine .of_next hx ((hsk.mono (by simp) (by simp)).trans (hk.mono (by simp) (by simp))) ⟨?_, hstate, hstatus⟩
  obtain ⟨q, hq, hseq, hsrc, htick, hat, hbank⟩ := s.dev.snapped_snapped 0 (by decide)
  have hrd : ∀ f, ((s.dev.snapped 0).endOcc slot 0).rd (.pmc f) = (s.dev.snapped 0).rd (.pmc f) :=
    fun f => Dev.rd_endOcc_done _ _ hkind (by simp)
  refine ⟨q, hq, (hrd _).trans hseq, (hrd _).trans hsrc, (hrd _).trans htick, ?_, fun n => ?_⟩
  · exact (hk.same (x := .pmc) (by simp)).1.trans hat
  · rw [hrd, hrd, hbank]

theorem effect_counterSnapshotTask_again (hh : s.dev.rd (.pmc .CTRL_HOLD) = 0) (hn : s.dev.pmc.snapAt = some (s.dev.now * 4 / 5)) :
    Effect (.counterSnapshotTask slot) s (.pmc .SNAP_INFO_SRC :: recFields slot) [.tick] (fun t =>
      t.rd (.pmc .SNAP_INFO_SRC) = 0 ∧ (t.occ slot).state = .ended) := by
  have hx := exec_counterSnapshotTask s slot hs hr
  rw [Dev.snapshot_again _ _ hh hn, if_pos rfl] at hx
  have hkind := Dev.kind_of_taskRuns (e := s.dev.wr (.pmc .SNAP_INFO_SRC) 0) hr rfl rfl
  have hk := (s.dev.wr (.pmc .SNAP_INFO_SRC) 0).endOcc_done_kept slot hkind
  obtain ⟨hstate, -, -⟩ := (s.dev.wr (.pmc .SNAP_INFO_SRC) 0).endOcc_done_recorded slot slot.isLt hkind
  refine .of_next hx (((Kept.refl _).wr _ (by simp)).trans (hk.mono (by simp) (by simp))) ⟨?_, hstate⟩
  rw [hk.rd (by simp [recFields]) rfl]
  simp

end

/-! ### The statement -/

/-- Settles O51: each clause is the effect of its command. -/
theorem countersAndSnapshots : Obligations.CountersAndSnapshots := by
  unfold Obligations.CountersAndSnapshots
  intro s n slot value sel hs
  refine ⟨fun k ks hw _ => effect_counterOverflow s hs k ks hw, fun hp => ?_, fun hr => ⟨effect_counterSnapshotTask_hold s slot hs hr,
    effect_counterSnapshotTask s slot hs hr, effect_counterSnapshotTask_again s slot hs hr⟩⟩
  have ha : Awake s := ⟨hs, hp⟩
  exact ⟨effect_pmcCntWrite s ha n value, effect_pmcSelWrite s ha n sel, effect_pmcFreeze s ha, effect_pmcUnfreeze s ha,
    effect_pmcSnap_hold s ha, effect_pmcSnap s ha, effect_pmcSnap_again s ha⟩

end Sys2Proof.Machine
end

section
-- The theorems are elaborated in order, which keeps the memory that a check of the whole text takes within its limit.
set_option Elab.async false

/-! SUPPORT.  Instruction sampling: its effects, clause by clause, and the statement they settle (R576 to R583). -/

namespace Sys2Proof.Machine

open Sys2Proof.Safety Sys2Proof.Claims

/-! ### Fields and halves of a sampling unit -/

@[simp] theorem smpWr_width (p : Nat) : (Fld.pmc (.SMP_PTR_WR p)).width = 8 := rfl
@[simp] theorem smpRd_width (p : Nat) : (Fld.pmc (.SMP_PTR_RD p)).width = 8 := rfl
@[simp] theorem smpWmHit_width (p : Nat) : (Fld.pmc (.SMP_STATUS_WM_HIT p)).width = 1 := rfl
@[simp] theorem smpPeriod_width (p : Nat) : (Fld.pmc (.SMP_PERIOD_PERIOD p)).width = 20 := rfl
@[simp] theorem smpEn_width (p : Nat) : (Fld.pmc (.SMP_CFG_EN p)).width = 1 := rfl
@[simp] theorem smpMask_width (p : Nat) : (Fld.pmc (.SMP_CFG_CLASS_MASK p)).width = 8 := rfl
@[simp] theorem smpHalf_width (p : Nat) : (Fld.pmc (.SMP_CFG_HALF p)).width = 2 := rfl
@[simp] theorem smpJitter_width (p : Nat) : (Fld.pmc (.SMP_CFG_JITTER p)).width = 4 := rfl

/-- Half `h` of the sampling unit of pair `p`. -/
def Dev.half (d : Dev) (p h : Nat) : SmpHalf := (d.smp p).halves.getD h {}

section
variable (d : Dev) (p : Nat) (hp : p < 8)

@[simp] theorem Dev.modHalf_rd (h : Nat) (g : SmpHalf → SmpHalf) (f : Fld) : (d.modHalf p h g).rd f = d.rd f := rfl
@[simp] theorem Dev.smp_wr (f : Fld) (v q : Nat) : (d.wr f v).smp q = d.smp q := rfl
@[simp] theorem Dev.smp_inc (f : Fld) (q : Nat) : (d.inc f).smp q = d.smp q := rfl
@[simp] theorem Dev.half_wr (f : Fld) (v q h : Nat) : (d.wr f v).half q h = d.half q h := rfl

theorem kept_modHalf {F : List Fld} {P : List Part} {d e : Dev} (k : Kept F P d e) (p h : Nat) (g : SmpHalf → SmpHalf) (hx : .pmc ∈ P) :
    Kept F P d (e.modHalf p h g) := k.modSmp _ _ hx

theorem Dev.smp_modHalf_ne (h : Nat) (g : SmpHalf → SmpHalf) {q : Nat} (hq : q ≠ p) : (d.modHalf p h g).smp q = d.smp q := by
  simp [Dev.modHalf, hq]

include hp

theorem Dev.half_modHalf (h : Nat) (hh : h < 2) (g : SmpHalf → SmpHalf) (k : Nat) :
    (d.modHalf p h g).half p k = if k = h then g (d.half p h) else d.half p k := by
  rw [Dev.half, Dev.modHalf, Dev.smp_modSmp, if_pos ⟨rfl, hp⟩]
  dsimp only
  rw [getD_bankAt]
  simp only [hh, and_true]
  rfl

theorem Dev.half_modSmp (h : Nat) (g : Smp → Smp) (hg : (g (d.smp p)).halves = (d.smp p).halves) :
    (d.modSmp p g).half p h = d.half p h := by
  rw [Dev.half, Dev.smp_modSmp, if_pos ⟨rfl, hp⟩, hg]
  rfl

theorem Dev.formed_modHalf (h : Nat) (g : SmpHalf → SmpHalf) : ((d.modHalf p h g).smp p).formed = (d.smp p).formed := by
  simp [Dev.modHalf, hp]

theorem Dev.buf_modHalf (h : Nat) (g : SmpHalf → SmpHalf) : ((d.modHalf p h g).smp p).buf = (d.smp p).buf := by
  simp [Dev.modHalf, hp]

end

/-! ### SAMPLE_TAKEN -/

section
variable (s : State) (p : Fin 8) (h : Fin 2) (hs : s.held = false) (r : Sample) (rs : List Sample) (hh : (s.dev.half p h).hits = r :: rs)

/-- The device with the oldest sampled instruction of a half retired: the next number is its own (R576). -/
def Dev.retiredSample (d : Dev) (p h : Nat) (rs : List Sample) : Dev :=
  d.modHalf p h (fun x => { x with hits := rs, seq := ((d.half p h).seq + 1) % 2 ^ 32 })

include hs hh

theorem exec_sampleTaken : exec (.sampleTaken p h) s = .next { s with
    dev := if 2 ≤ (s.dev.smp p).formed.length then (s.dev.retiredSample p h rs).smpLoss p h
      else (s.dev.retiredSample p h rs).modSmp p (fun u => { u with
        formed := u.formed ++ [(h.val, r.bytes ++ leBytes 4 (((s.dev.half p h).seq + 1) % 2 ^ 32) ++ leBytes 4 0)] }) } := by
  have hf : ((s.dev.retiredSample p h rs).smp p).formed = (s.dev.smp p).formed := Dev.formed_modHalf _ _ p.isLt _ _
  rw [← hf]
  show execSampleTaken p h s = _
  rw [execSampleTaken, State.run_live s _ hs]
  unfold Dev.half at hh
  simp only [hh]
  rfl

theorem effect_sampleTaken (hl : (s.dev.smp p).formed.length < 2) :
    Effect (.sampleTaken p h) s [] [.pmc] (fun t => (t.half p h).seq = ((s.dev.half p h).seq + 1) % 2 ^ 32 ∧
      (t.half p h).hits = rs ∧
      (t.smp p).formed = (s.dev.smp p).formed ++
        [(h.val, r.bytes ++ leBytes 4 (((s.dev.half p h).seq + 1) % 2 ^ 32) ++ leBytes 4 0)] ∧
      ∀ q : Fin 8, q ≠ p → t.smp q = s.dev.smp q) := by
  have hx := exec_sampleTaken s p h hs r rs hh
  rw [if_neg (by omega)] at hx
  have hf : ((s.dev.retiredSample p h rs).smp p).formed = (s.dev.smp p).formed := Dev.formed_modHalf _ _ p.isLt _ _
  have hhalf := s.dev.half_modHalf p p.isLt h h.isLt (fun x => { x with hits := rs, seq := ((s.dev.half p h).seq + 1) % 2 ^ 32 }) h
  rw [if_pos rfl] at hhalf
  refine .of_next hx ((kept_modHalf (.refl _) _ _ _ (by simp)).modSmp _ _ (by simp)) ⟨?_, ?_, ?_, fun q hq => ?_⟩
  · rw [Dev.half_modSmp _ _ p.isLt _ _ rfl]
    exact congrArg SmpHalf.seq hhalf
  · rw [Dev.half_modSmp _ _ p.isLt _ _ rfl]
    exact congrArg SmpHalf.hits hhalf
  · simp [hf]
  · have hq' : q.val ≠ p.val := fun e => hq (Fin.ext e)
    rw [Dev.smp_modSmp, if_neg (by simp [hq'])]
    exact s.dev.smp_modHalf_ne p h _ hq'

theorem effect_sampleTaken_lost (hl : 2 ≤ (s.dev.smp p).formed.length) :
    Effect (.sampleTaken p h) s [.pmc (.SMP_STATUS_LOST p)] [.pmc] (fun t => Counts s.dev t (.pmc (.SMP_STATUS_LOST p)) ∧
      t.half p h = { s.dev.half p h with hits := rs, seq := ((s.dev.half p h).seq + 1) % 2 ^ 32, lost := true } ∧
      (t.smp p).formed = (s.dev.smp p).formed) := by
  have hx := exec_sampleTaken s p h hs r rs hh
  rw [if_pos hl] at hx
  refine .of_next hx (kept_modHalf ((kept_modHalf (.refl _) _ _ _ (by simp)).inc (by simp)) _ _ _ (by simp)) ⟨?_, ?_, ?_⟩
  · simp [Counts, Dev.smpLoss, Dev.retiredSample]
  · rw [Dev.smpLoss, Dev.half_modHalf _ _ p.isLt _ h.isLt, if_pos rfl]
    have hr := s.dev.half_modHalf p p.isLt h h.isLt (fun x => { x with hits := rs, seq := ((s.dev.half p h).seq + 1) % 2 ^ 32 }) h
    rw [if_pos rfl] at hr
    exact congrArg (fun x : SmpHalf => { x with lost := true }) hr
  · rw [Dev.smpLoss, Dev.formed_modHalf _ _ p.isLt, Dev.smp_inc, Dev.retiredSample, Dev.formed_modHalf _ _ p.isLt]

end

/-! ### SAMPLE_RECORD_WRITE -/

section
variable (s : State) (p : Fin 8) (h : Fin 2) (hs : s.held = false) (r : List Byte) (fs : List (Nat × List Byte))
  (hf : (s.dev.smp p).formed = (h.val, r) :: fs)

/-- The device with the oldest formed record taken (R581). -/
def Dev.recordTaken (d : Dev) (p : Nat) (fs : List (Nat × List Byte)) : Dev := d.modSmp p (fun u => { u with formed := fs })

/-- A formed record as it is written: LOST set after a loss (R581). -/
def Dev.recordWritten (d : Dev) (p h : Nat) (r : List Byte) : List Byte :=
  patchB r 3 [BitVec.ofNat 8 ((r.getD 3 0).toNat + 32 * b2n (d.half p h).lost)]

/-- The device with a record in the buffer at WR, WR advanced (R582). -/
def Dev.recordPlaced (d : Dev) (p h : Nat) (r : List Byte) (fs : List (Nat × List Byte)) : Dev :=
  (((d.recordTaken p fs).modHalf p h (fun x => { x with lost := false })).modSmp p (fun u => { u with
    buf := bankAt 128 [] u.buf (d.rd (.pmc (.SMP_PTR_WR p)) % 128) (fun _ => d.recordWritten p h r) })).wr
      (.pmc (.SMP_PTR_WR p)) (d.rd (.pmc (.SMP_PTR_WR p)) + 1)

include hs hf

theorem exec_sampleRecordWrite : exec (.sampleRecordWrite p) s = .next { s with
    dev := if s.dev.smpOcc p (s.dev.rd (.pmc (.SMP_PTR_RD p))) = 128 then (s.dev.recordTaken p fs).smpLoss p h
      else let e := s.dev.recordPlaced p h r fs
        if e.rd (.pmc (.SMP_WM_WM p)) ≠ 0 ∧ e.smpOcc p (e.rd (.pmc (.SMP_PTR_RD p))) = e.rd (.pmc (.SMP_WM_WM p)) then
          (e.wr (.pmc (.SMP_STATUS_WM_HIT p)) 1).pmcEvent else e } := by
  have hr : (s.dev.recordTaken p fs).half p h = s.dev.half p h := Dev.half_modSmp _ _ p.isLt _ _ rfl
  show execSampleRecordWrite p s = _
  rw [execSampleRecordWrite, State.run_live s _ hs, Dev.recordPlaced, Dev.recordWritten, ← hr]
  simp only [hf]
  rfl

theorem effect_sampleRecordWrite_lost (ho : s.dev.smpOcc p (s.dev.rd (.pmc (.SMP_PTR_RD p))) = 128) :
    Effect (.sampleRecordWrite p) s [.pmc (.SMP_STATUS_LOST p)] [.pmc] (fun t => Counts s.dev t (.pmc (.SMP_STATUS_LOST p)) ∧
      (t.smp p).formed = fs ∧ (t.smp p).buf = (s.dev.smp p).buf ∧ (t.half p h).lost = true) := by
  have hx := exec_sampleRecordWrite s p h hs r fs hf
  rw [if_pos ho] at hx
  refine .of_next hx (kept_modHalf (((Kept.refl _).modSmp _ _ (by simp)).inc (by simp)) _ _ _ (by simp)) ⟨?_, ?_, ?_, ?_⟩
  · simp [Counts, Dev.smpLoss, Dev.recordTaken]
  · rw [Dev.smpLoss, Dev.formed_modHalf _ _ p.isLt, Dev.smp_inc, Dev.recordTaken, Dev.smp_modSmp, if_pos ⟨rfl, p.isLt⟩]
  · rw [Dev.smpLoss, Dev.buf_modHalf _ _ p.isLt, Dev.smp_inc, Dev.recordTaken, Dev.smp_modSmp, if_pos ⟨rfl, p.isLt⟩]
  · rw [Dev.smpLoss, Dev.half_modHalf _ _ p.isLt _ h.isLt, if_pos rfl]

omit hs hf in
theorem Dev.recordPlaced_kept (d : Dev) (p h : Nat) (r : List Byte) (fs : List (Nat × List Byte)) :
    Kept [.pmc (.SMP_PTR_WR p), .pmc (.SMP_STATUS_WM_HIT p)] [.pmc, .irqs] d (d.recordPlaced p h r fs) :=
  ((kept_modHalf ((Kept.refl _).modSmp _ _ (by simp)) _ _ _ (by simp)).modSmp _ _ (by simp)).wr _ (by simp)

omit hs hf in
/-- A record of 32 bytes as it is written (R581). -/
theorem recordWritten_eq (hl : r.length = 32) : ∃ v, s.dev.recordWritten p h r = r.take 3 ++ [v] ++ r.drop 4 ∧
    v.toNat = ((r.getD 3 0).toNat + if (s.dev.half p h).lost then 32 else 0) % 256 := by
  refine ⟨BitVec.ofNat 8 ((r.getD 3 0).toNat + 32 * b2n (s.dev.half p h).lost), by simp [Dev.recordWritten, patchB, hl], ?_⟩
  rw [BitVec.toNat_ofNat]
  cases (s.dev.half p h).lost <;> rfl

/-- A record is written and the watermark reported where it is reached (R581 to R583). -/
theorem effect_sampleRecordWrite (wr : Nat) (hw : wr = s.dev.rd (.pmc (.SMP_PTR_WR p))) (hl : r.length = 32)
    (ho : s.dev.smpOcc p (s.dev.rd (.pmc (.SMP_PTR_RD p))) ≠ 128) :
    Effect (.sampleRecordWrite p) s [.pmc (.SMP_PTR_WR p), .pmc (.SMP_STATUS_WM_HIT p)] [.pmc, .irqs] (fun t =>
      t.rd (.pmc (.SMP_PTR_WR p)) = (wr + 1) % 256 ∧ (t.smp p).formed = fs ∧
      (∃ v, (t.smp p).buf.getD (wr % 128) [] = r.take 3 ++ [v] ++ r.drop 4 ∧
        v.toNat = ((r.getD 3 0).toNat + if (s.dev.half p h).lost then 32 else 0) % 256) ∧
      (∀ i : Fin 128, i.val ≠ wr % 128 → (t.smp p).buf.getD i [] = (s.dev.smp p).buf.getD i []) ∧
      (t.half p h).lost = false ∧
      (s.dev.rd (.pmc (.SMP_WM_WM p)) ≠ 0 → t.smpOcc p (s.dev.rd (.pmc (.SMP_PTR_RD p))) = s.dev.rd (.pmc (.SMP_WM_WM p)) →
        t.rd (.pmc (.SMP_STATUS_WM_HIT p)) = 1)) := by
  subst hw
  have hx := exec_sampleRecordWrite s p h hs r fs hf
  rw [if_neg ho] at hx
  have hk := s.dev.recordPlaced_kept p h r fs
  have hptr : (s.dev.recordPlaced p h r fs).rd (.pmc (.SMP_PTR_WR p)) = (s.dev.rd (.pmc (.SMP_PTR_WR p)) + 1) % 256 := by
    simp [Dev.recordPlaced]
  have hformed : ((s.dev.recordPlaced p h r fs).smp p).formed = fs := by
    simp [Dev.recordPlaced, Dev.formed_modHalf, Dev.recordTaken]
  have hbuf : ((s.dev.recordPlaced p h r fs).smp p).buf =
      bankAt 128 [] (s.dev.smp p).buf (s.dev.rd (.pmc (.SMP_PTR_WR p)) % 128) (fun _ => s.dev.recordWritten p h r) := by
    simp [Dev.recordPlaced, Dev.buf_modHalf, Dev.recordTaken]
  have hlost : ((s.dev.recordPlaced p h r fs).half p h).lost = false := by
    rw [Dev.recordPlaced, Dev.half_wr, Dev.half_modSmp _ _ p.isLt _ _ rfl, Dev.half_modHalf _ _ p.isLt _ h.isLt, if_pos rfl]
  have hwm := hk.rd (f := .pmc (.SMP_WM_WM p)) (by simp) rfl
  have hrdp := hk.rd (f := .pmc (.SMP_PTR_RD p)) (by simp) rfl
  obtain ⟨v, hv, hn⟩ := recordWritten_eq s p h r hl
  generalize s.dev.recordPlaced p h r fs = e at hx hk hptr hformed hbuf hlost hwm hrdp
  have hget : ∀ i, (bankAt 128 [] (s.dev.smp p).buf (s.dev.rd (.pmc (.SMP_PTR_WR p)) % 128) (fun _ => s.dev.recordWritten p h r)).getD i [] =
      if i = s.dev.rd (.pmc (.SMP_PTR_WR p)) % 128 then s.dev.recordWritten p h r else (s.dev.smp p).buf.getD i [] := fun i => by
    rw [getD_bankAt]
    simp only [Nat.mod_lt _ (by decide : 128 > 0), and_true]
  have hpost : ∀ t : Dev, t.rd (.pmc (.SMP_PTR_WR p)) = e.rd (.pmc (.SMP_PTR_WR p)) → t.smp p = e.smp p →
      t.rd (.pmc (.SMP_PTR_WR p)) = (s.dev.rd (.pmc (.SMP_PTR_WR p)) + 1) % 256 ∧ (t.smp p).formed = fs ∧
      (∃ v, (t.smp p).buf.getD (s.dev.rd (.pmc (.SMP_PTR_WR p)) % 128) [] = r.take 3 ++ [v] ++ r.drop 4 ∧
        v.toNat = ((r.getD 3 0).toNat + if (s.dev.half p h).lost then 32 else 0) % 256) ∧
      (∀ i : Fin 128, i.val ≠ s.dev.rd (.pmc (.SMP_PTR_WR p)) % 128 → (t.smp p).buf.getD i [] = (s.dev.smp p).buf.getD i []) ∧
      (t.half p h).lost = false := fun t hwr hsm => by
    refine ⟨hwr.trans hptr, by rw [hsm, hformed], ⟨v, ?_, hn⟩, fun i hi => ?_, ?_⟩
    · rw [hsm, hbuf, hget, if_pos rfl, hv]
    · rw [hsm, hbuf, hget, if_neg hi]
    · rw [Dev.half, hsm]
      exact hlost
  refine .of_next hx (.ite _ (fun _ => kept_pmcEvent (hk.wr _ (by simp)) (by simp)) (fun _ => hk)) ?_
  dsimp only
  split
  · rename_i hif
    obtain ⟨h1, h2, h3, h4, h5⟩ := hpost (e.wr (.pmc (.SMP_STATUS_WM_HIT p)) 1).pmcEvent (by simp) (by rw [Dev.smp, Dev.pmc_pmcEvent]; rfl)
    exact ⟨h1, h2, h3, h4, h5, fun _ _ => by simp⟩
  · rename_i hif
    obtain ⟨h1, h2, h3, h4, h5⟩ := hpost e rfl rfl
    exact ⟨h1, h2, h3, h4, h5, fun hw ho => absurd ⟨by rwa [hwm], by rwa [hwm, hrdp]⟩ hif⟩

end

/-! ### SAMPLE_RD_WRITE -/

section
variable (s : State) (p : Fin 8) (ha : Awake s)
include ha

theorem effect_sampleRdWrite (value : BitVec 8) (ho : (s.dev.rd (.pmc (.SMP_PTR_WR p)) + 256 - value.toNat) % 256 ≤ 128) :
    Effect (.sampleRdWrite p value) s [.pmc (.SMP_PTR_RD p)] [] (fun t => t.rd (.pmc (.SMP_PTR_RD p)) = value.toNat) := by
  refine Effect.host (x := execSampleRdWrite p value s) rfl rfl ha fun e he => ?_
  have hv : value.toNat < 256 := value.isLt
  rw [if_neg (by rw [Dev.smpOcc, he.rd _ rfl, Nat.mod_eq_of_lt hv]; omega)]
  exact ⟨(Kept.refl e).wr _ (by simp), by simpa using Nat.mod_eq_of_lt hv⟩

theorem effect_sampleRdWrite_refused (value : BitVec 8) (ho : 128 < (s.dev.rd (.pmc (.SMP_PTR_WR p)) + 256 - value.toNat) % 256) :
    Effect (.sampleRdWrite p value) s [.pmc (.SMP_STATUS_RD_REFUSED p)] [] (fun t => Counts s.dev t (.pmc (.SMP_STATUS_RD_REFUSED p))) := by
  refine Effect.host (x := execSampleRdWrite p value s) rfl rfl ha fun e he => ?_
  have hv : value.toNat < 256 := value.isLt
  rw [if_pos (by rw [Dev.smpOcc, he.rd _ rfl, Nat.mod_eq_of_lt hv]; omega)]
  exact ⟨(Kept.refl e).inc (by simp), Counts.of_rd (by simp [Counts]) (he.rd _ rfl)⟩

end

/-! ### SMP_CFG_WRITE -/

section
variable (d : Dev) (p : Nat)

/-- A value of the LFSR drawn (R576, assumption 4). -/
def Dev.draw : Nat := Config.freeValue d.freeCount % 65536

/-- A countdown reloaded, in one equation: the drawn value, then the half's count. -/
theorem Dev.smpReload_eq (h : Nat) : d.smpReload p h = (({ d with freeCount := d.freeCount + 1 } : Dev).modSmp p (fun u => { u with
    lfsr := d.draw })).modHalf p h (fun x => { x with
      count := d.rd (.pmc (.SMP_PERIOD_PERIOD p)) + d.draw % 2 ^ d.rd (.pmc (.SMP_CFG_JITTER p)) }) := rfl

theorem kept_smpReload {F : List Fld} {P : List Part} {d e : Dev} (k : Kept F P d e) (p h : Nat) (hx : .pmc ∈ P) :
    Kept F P d (e.smpReload p h) := by
  have hf : Kept F P d { e with freeCount := e.freeCount + 1 } := k.trans (.of_regs rfl fun x _ => by cases x <;> simp [Part.Same])
  exact kept_modHalf (hf.modSmp _ _ hx) _ _ _ hx

@[simp] theorem Dev.rd_smpReload (h : Nat) (f : Fld) : (d.smpReload p h).rd f = d.rd f := rfl

/-- Both countdowns reloaded lie between the period and the period with the widest draw (R576). -/
theorem Dev.count_reloaded (hp : p < 8) (k : Fin 2) :
    d.rd (.pmc (.SMP_PERIOD_PERIOD p)) ≤ (((d.smpReload p 0).smpReload p 1).half p k).count ∧
    (((d.smpReload p 0).smpReload p 1).half p k).count < d.rd (.pmc (.SMP_PERIOD_PERIOD p)) + 2 ^ d.rd (.pmc (.SMP_CFG_JITTER p)) := by
  have hbound : ∀ v, d.rd (.pmc (.SMP_PERIOD_PERIOD p)) ≤ d.rd (.pmc (.SMP_PERIOD_PERIOD p)) + v % 2 ^ d.rd (.pmc (.SMP_CFG_JITTER p)) ∧
      d.rd (.pmc (.SMP_PERIOD_PERIOD p)) + v % 2 ^ d.rd (.pmc (.SMP_CFG_JITTER p)) <
        d.rd (.pmc (.SMP_PERIOD_PERIOD p)) + 2 ^ d.rd (.pmc (.SMP_CFG_JITTER p)) :=
    fun v => ⟨Nat.le_add_right _ _, Nat.add_lt_add_left (Nat.mod_lt _ (Nat.two_pow_pos _)) _⟩
  rw [(d.smpReload p 0).smpReload_eq p 1, Dev.half_modHalf _ _ hp _ (by decide)]
  split
  · exact hbound _
  · rename_i hk
    have h0 : k.val = 0 := by have := k.isLt; omega
    rw [Dev.half_modSmp _ _ hp _ _ rfl, h0]
    have hh : ((d.smpReload p 0).half p 0).count = d.rd (.pmc (.SMP_PERIOD_PERIOD p)) + d.draw % 2 ^ d.rd (.pmc (.SMP_CFG_JITTER p)) := by
      rw [Dev.smpReload_eq, Dev.half_modHalf _ _ hp _ (by decide), if_pos rfl]
    show _ ≤ ((d.smpReload p 0).half p 0).count ∧ ((d.smpReload p 0).half p 0).count < _
    rw [hh]
    exact hbound _

end

section
variable (s : State) (p : Fin 8) (ha : Awake s) (v : BitVec 32)
include ha

theorem effect_smpCfgWrite_period (hv : v.toNat % 2 ^ 20 ≠ 0) :
    Effect (.smpCfgWrite p true v) s [.pmc (.SMP_PERIOD_PERIOD p)] [.pmc] (fun t => t.rd (.pmc (.SMP_PERIOD_PERIOD p)) = v.toNat % 2 ^ 20 ∧
      ∀ k : Fin 2, v.toNat % 2 ^ 20 ≤ (t.half p k).count ∧
        (t.half p k).count < v.toNat % 2 ^ 20 + 2 ^ s.dev.rd (.pmc (.SMP_CFG_JITTER p))) := by
  refine Effect.host (x := execSmpCfgWrite p true v s) rfl rfl ha fun e he => ?_
  have h0 : bitsOf v.toNat 0 20 = v.toNat % 2 ^ 20 := by simp [bitsOf]
  simp only [if_true, h0, if_neg hv]
  have hj : (e.wr (.pmc (.SMP_PERIOD_PERIOD p)) (v.toNat % 2 ^ 20)).rd (.pmc (.SMP_CFG_JITTER p)) = s.dev.rd (.pmc (.SMP_CFG_JITTER p)) := by
    rw [Dev.rd_wr, if_neg (by simp), he.rd _ rfl]
  have hper : (e.wr (.pmc (.SMP_PERIOD_PERIOD p)) (v.toNat % 2 ^ 20)).rd (.pmc (.SMP_PERIOD_PERIOD p)) = v.toNat % 2 ^ 20 := by simp
  refine ⟨kept_smpReload (kept_smpReload ((Kept.refl e).wr _ (by simp)) _ _ (by simp)) _ _ (by simp), hper, fun k => ?_⟩
  have := (e.wr (.pmc (.SMP_PERIOD_PERIOD p)) (v.toNat % 2 ^ 20)).count_reloaded p p.isLt k
  rwa [hper, hj] at this

/-- The fields of PMC_SMP_CFG as a write with legal encodings leaves them (R576). -/
def Dev.smpCfgWritten (d : Dev) (p v : Nat) : Dev :=
  d.wrs [(.pmc (.SMP_CFG_EN p), bitsOf v 0 1), (.pmc (.SMP_CFG_CLASS_MASK p), bitsOf v 8 8), (.pmc (.SMP_CFG_HALF p), bitsOf v 1 2),
    (.pmc (.SMP_CFG_JITTER p), bitsOf v 16 4)]

theorem effect_smpCfgWrite (h3 : v.toNat / 2 % 4 ≠ 3) (h8 : v.toNat / 2 ^ 16 % 16 ≤ 8) :
    Effect (.smpCfgWrite p false v) s
      [.pmc (.SMP_CFG_EN p), .pmc (.SMP_CFG_CLASS_MASK p), .pmc (.SMP_CFG_HALF p), .pmc (.SMP_CFG_JITTER p)] [.pmc] (fun t =>
        t.rd (.pmc (.SMP_CFG_EN p)) = v.toNat % 2 ∧ t.rd (.pmc (.SMP_CFG_CLASS_MASK p)) = v.toNat / 2 ^ 8 % 256 ∧
        t.rd (.pmc (.SMP_CFG_HALF p)) = v.toNat / 2 % 4 ∧ t.rd (.pmc (.SMP_CFG_JITTER p)) = v.toNat / 2 ^ 16 % 16 ∧
        ∀ k : Fin 2, s.dev.rd (.pmc (.SMP_PERIOD_PERIOD p)) ≤ (t.half p k).count ∧
          (t.half p k).count < s.dev.rd (.pmc (.SMP_PERIOD_PERIOD p)) + 2 ^ (v.toNat / 2 ^ 16 % 16)) := by
  refine Effect.host (x := execSmpCfgWrite p false v s) rfl rfl ha fun e he => ?_
  simp only [Bool.false_eq_true, if_false, if_neg (show ¬ bitsOf v.toNat 1 2 = 3 from h3),
    if_neg (show ¬ 8 < bitsOf v.toNat 16 4 from not_lt.mpr h8)]
  have hk : Kept [.pmc (.SMP_CFG_EN p), .pmc (.SMP_CFG_CLASS_MASK p), .pmc (.SMP_CFG_HALF p), .pmc (.SMP_CFG_JITTER p)] [.pmc] e
      (e.smpCfgWritten p v.toNat) := (Kept.refl e).wrs _ (by simp)
  have hen : (e.smpCfgWritten p v.toNat).rd (.pmc (.SMP_CFG_EN p)) = v.toNat % 2 := by simp [Dev.smpCfgWritten, bitsOf]
  have hmask : (e.smpCfgWritten p v.toNat).rd (.pmc (.SMP_CFG_CLASS_MASK p)) = v.toNat / 2 ^ 8 % 256 := by
    simp [Dev.smpCfgWritten, bitsOf]
  have hhalf : (e.smpCfgWritten p v.toNat).rd (.pmc (.SMP_CFG_HALF p)) = v.toNat / 2 % 4 := by simp [Dev.smpCfgWritten, bitsOf]
  have hjit : (e.smpCfgWritten p v.toNat).rd (.pmc (.SMP_CFG_JITTER p)) = v.toNat / 2 ^ 16 % 16 := by
    simp [Dev.smpCfgWritten, bitsOf]
  have hper := (hk.rd (f := .pmc (.SMP_PERIOD_PERIOD p)) (by simp) rfl).trans (he.rd _ rfl)
  have hpost : ∀ t : Dev, Kept [.pmc (.SMP_CFG_EN p), .pmc (.SMP_CFG_CLASS_MASK p), .pmc (.SMP_CFG_HALF p), .pmc (.SMP_CFG_JITTER p)] [.pmc] e t →
      (∀ f, t.rd f = (e.smpCfgWritten p v.toNat).rd f) →
      Kept [.pmc (.SMP_CFG_EN p), .pmc (.SMP_CFG_CLASS_MASK p), .pmc (.SMP_CFG_HALF p), .pmc (.SMP_CFG_JITTER p)] [.pmc] e
        ((t.smpReload p 0).smpReload p 1) ∧
      ((t.smpReload p 0).smpReload p 1).rd (.pmc (.SMP_CFG_EN p)) = v.toNat % 2 ∧
      ((t.smpReload p 0).smpReload p 1).rd (.pmc (.SMP_CFG_CLASS_MASK p)) = v.toNat / 2 ^ 8 % 256 ∧
      ((t.smpReload p 0).smpReload p 1).rd (.pmc (.SMP_CFG_HALF p)) = v.toNat / 2 % 4 ∧
      ((t.smpReload p 0).smpReload p 1).rd (.pmc (.SMP_CFG_JITTER p)) = v.toNat / 2 ^ 16 % 16 ∧
      ∀ k : Fin 2, s.dev.rd (.pmc (.SMP_PERIOD_PERIOD p)) ≤ (((t.smpReload p 0).smpReload p 1).half p k).count ∧
        (((t.smpReload p 0).smpReload p 1).half p k).count < s.dev.rd (.pmc (.SMP_PERIOD_PERIOD p)) + 2 ^ (v.toNat / 2 ^ 16 % 16) :=
    fun t hkt ht => ⟨kept_smpReload (kept_smpReload hkt _ _ (by simp)) _ _ (by simp), (ht _).trans hen, (ht _).trans hmask,
      (ht _).trans hhalf, (ht _).trans hjit, fun k => by
        have := t.count_reloaded p p.isLt k
        rwa [ht, ht, hper, hjit] at this⟩
  split
  · exact hpost _ (hk.modSmp _ _ (by simp)) fun _ => rfl
  · exact hpost _ hk fun _ => rfl

end

/-! ### The statement -/

/-- Settles O52: each clause is the effect of its command. -/
theorem sampling : Obligations.Sampling := by
  unfold Obligations.Sampling
  intro s p h x hs hx
  subst hx
  refine ⟨fun r rs hh => ⟨effect_sampleTaken s p h hs r rs hh, effect_sampleTaken_lost s p h hs r rs hh⟩,
    fun r fs wr hf hw hl => ⟨effect_sampleRecordWrite s p h hs r fs hf wr hw hl, effect_sampleRecordWrite_lost s p h hs r fs hf⟩,
    fun value hp => ?_, fun v hp => ?_⟩
  · have ha : Awake s := ⟨hs, hp⟩
    exact ⟨effect_sampleRdWrite s p ha value, effect_sampleRdWrite_refused s p ha value⟩
  · have ha : Awake s := ⟨hs, hp⟩
    exact ⟨effect_smpCfgWrite_period s p ha v, effect_smpCfgWrite s p ha v⟩

end Sys2Proof.Machine
end

section
-- The theorems are elaborated in order, which keeps the memory that a check of the whole text takes within its limit.
set_option Elab.async false

/-! SUPPORT.  Flash commands and GPIO edges: their effects, clause by clause, and the statement they settle (R516, R560, R566). -/

namespace Sys2Proof.Machine

open Sys2Proof.Safety Sys2Proof.Claims

/-! ### Fields -/

@[simp] theorem flResult_width : (Fld.sbd .FL_STATUS_RESULT).width = 3 := rfl
@[simp] theorem flBuf_width (i : Nat) : (Fld.sbd (.FL_BUF_DATA i)).width = 32 := rfl
@[simp] theorem gpioIn_width : (Fld.sbd .GPIO_IN_IN).width = 8 := rfl
@[simp] theorem gpioEvt_width : (Fld.sbd .GPIO_EVT_EVT).width = 8 := rfl
@[simp] theorem wakeSrc_width : (Fld.pwr .WAKE_STATUS_SRC).width = 12 := rfl
@[simp] theorem pmeStatus_width (f : Nat) : (Fld.cs f .PM_PME_STATUS).width = 1 := rfl

/-! ### Flash commands -/

/-- The multiple that a flash command's address must be of (R560). -/
def flashUnit (op : Nat) : Nat := if op = 3 then 4096 else 256

theorem Dev.flashCode_eq (d : Dev) (op : Nat) : d.flashCode op = if d.sbd.flash ≠ none ∨ d.bootLoads = true then 1
    else if op ≠ 1 ∧ d.inhibited = true then 2
    else if d.rd (.sbd .FL_ADDR_ADDR) % flashUnit op ≠ 0 ∨ 2 ^ d.rd (.sbd .SFDP_INFO_LOG2_BYTES) ≤ d.rd (.sbd .FL_ADDR_ADDR) then 3 else 0 :=
  if_congr (by rw [Option.isSome_iff_ne_none]) rfl rfl

theorem Dev.flashCode_lt (d : Dev) (op : Nat) : d.flashCode op < 8 := by
  unfold Dev.flashCode
  dsimp only
  split_ifs <;> decide

/-- The check of a flash command rests on nothing that a host access counted moves. -/
theorem flashCode_of_counted {d e : Dev} (he : Counted d e) (op : Nat) : e.flashCode op = d.flashCode op := by
  have ha := he.rd (.sbd .FL_ADDR_ADDR) rfl
  have hl := he.rd (.sbd .SFDP_INFO_LOG2_BYTES) rfl
  have hi : e.inhibited = d.inhibited := he.is _ rfl
  obtain ⟨r, w, rfl, -⟩ := he
  unfold Dev.flashCode
  rw [ha, hl, hi]
  rfl

/-- The bytes that a flash command carries: the buffer, for a program (R560). -/
def Dev.flashBytes (d : Dev) (op : Nat) : List Byte := if op = 2 then d.flashBuf else []

/-- Each flash command starts, or ends at once with the code of the first check that fails (R560). -/
theorem flashStarts {c : Sys2Proof.Instr} {s : State} (op size : Nat) (hc : exec c s = s.run (fun d => d.flashCmd op)) (ha : Awake s)
    (hsize : size = flashUnit op) : FlashStarts c s op size (s.dev.flashBytes op) := by
  intro a code haddr hcode
  subst hsize haddr
  rw [← Dev.flashCode_eq] at hcode
  subst hcode
  have he : Counted s.dev (s.dev.count 0x51 0 1) := .count _ _ _ _
  have hx : exec c s = .next { s with dev := s.dev.flashCmd op } := hc.trans (s.run_live _ ha.1)
  have hcode := flashCode_of_counted he op
  have haddr := he.rd (.sbd .FL_ADDR_ADDR) rfl
  have hbuf : (s.dev.count 0x51 0 1).flashBytes op = s.dev.flashBytes op := by
    simp only [Dev.flashBytes, Dev.flashBuf, he.rd (.sbd (.FL_BUF_DATA _)) rfl]
  rw [Dev.flashCmd, Dev.hostAccess_awake _ _ ha.2] at hx
  have hk : ∀ (F P), Kept F P s.dev (s.dev.count 0x51 0 1) := fun F P => (Kept.refl _).count _ _ _
  generalize s.dev.count 0x51 0 1 = e at *
  dsimp only at hx
  rw [hcode, haddr] at hx
  have hlt := s.dev.flashCode_lt op
  refine ⟨fun h => ?_, fun h => ?_⟩
  · rw [if_pos h] at hx
    exact .of_next hx ((hk _ _).wr _ (by simp)) (by simpa using Nat.mod_eq_of_lt hlt)
  · rw [if_neg (by simp [h])] at hx
    have hs : e.sbd = s.dev.sbd := (hk [] []).same (x := .sbd) (by simp)
    have ho : e.out = s.dev.out := (hk [] []).same (x := .out) (by simp)
    have hemit : ∀ b : List Byte, Kept [] [.sbd, .out] s.dev (({ e with sbd := { e.sbd with flash := some (op, s.dev.rd (.sbd .FL_ADDR_ADDR)) } } : Dev).emit
        (.flash op (s.dev.rd (.sbd .FL_ADDR_ADDR)) b)) := fun b => ((hk [] [.sbd, .out]).withSbd _ (by simp)).emitAside _ rfl (by simp)
    exact .of_next hx (hemit _) ⟨by rw [← hs]; rfl, by rw [← ho, ← hbuf]; rfl⟩

/-! ### The end of a flash operation -/

section
variable (s : State) (timeout : Bool) (page : List Byte) (hs : s.held = false)
include hs

theorem effect_flashOpDone_read (a : Nat) (hf : s.dev.sbd.flash = some (1, a)) :
    Effect (.flashOpDone timeout page) s (.sbd .FL_STATUS_RESULT :: (List.range 64).map (fun i => Fld.sbd (.FL_BUF_DATA i))) [.sbd] (fun t =>
      t.sbd = { s.dev.sbd with flash := none } ∧ t.rd (.sbd .FL_STATUS_RESULT) = 0 ∧
      ∀ i : Fin 64, t.rd (.sbd (.FL_BUF_DATA i)) = leAt page (4 * i) 4) := by
  have hx : exec (.flashOpDone timeout page) s = .next { s with
      dev := (({ s.dev with sbd := { s.dev.sbd with flash := none } } : Dev).wrs
        ((List.range 64).map (fun i => (.sbd (.FL_BUF_DATA i), leAt page (4 * i) 4)))).wr (.sbd .FL_STATUS_RESULT) 0 } := by
    show execFlashOpDone timeout page s = _
    rw [execFlashOpDone, State.run_live s _ hs]
    simp only [hf, if_true]
  have hk := ((Kept.refl s.dev).withSbd (F := .sbd .FL_STATUS_RESULT :: (List.range 64).map (fun i => Fld.sbd (.FL_BUF_DATA i)))
    { s.dev.sbd with flash := none } (P := [.sbd]) (by simp)).wrs ((List.range 64).map (fun i => (.sbd (.FL_BUF_DATA i), leAt page (4 * i) 4)))
    (fun x hx => by
      obtain ⟨i, hi, rfl⟩ := List.mem_map.mp hx
      exact List.mem_cons_of_mem _ (List.mem_map_of_mem hi))
  have hrow := fun i : Fin 64 => Dev.rd_wrs_row { s.dev with sbd := { s.dev.sbd with flash := none } } (fun i => .sbd (.FL_BUF_DATA i))
    (fun i => leAt page (4 * i) 4) (fun a b h => by simpa using h) 64 i i.isLt
  have hsbd := (Dev.wrs_kept ({ s.dev with sbd := { s.dev.sbd with flash := none } } : Dev)
    ((List.range 64).map (fun i => (.sbd (.FL_BUF_DATA i), leAt page (4 * i) 4)))).same (x := .sbd) (by simp)
  generalize ({ s.dev with sbd := { s.dev.sbd with flash := none } } : Dev).wrs
    ((List.range 64).map (fun i => (.sbd (.FL_BUF_DATA i), leAt page (4 * i) 4))) = e at hx hk hrow hsbd
  refine .of_next hx (hk.wr _ (by simp)) ⟨hsbd, by simp, fun i => ?_⟩
  rw [Dev.rd_wr, if_neg (by simp), hrow]
  exact Nat.mod_eq_of_lt (leAt_lt page (4 * i) 4)

theorem effect_flashOpDone (op a : Nat) (hf : s.dev.sbd.flash = some (op, a)) (ho : op ≠ 1) :
    Effect (.flashOpDone timeout page) s [.sbd .FL_STATUS_RESULT] [.sbd] (fun t =>
      t.sbd = { s.dev.sbd with flash := none } ∧ t.rd (.sbd .FL_STATUS_RESULT) = (if timeout then 4 else 0)) := by
  have hx : exec (.flashOpDone timeout page) s = .next { s with
      dev := ({ s.dev with sbd := { s.dev.sbd with flash := none } } : Dev).wr (.sbd .FL_STATUS_RESULT) (if timeout then 4 else 0) } := by
    show execFlashOpDone timeout page s = _
    rw [execFlashOpDone, State.run_live s _ hs]
    simp only [hf, ho, if_false]
  exact .of_next hx (((Kept.refl _).withSbd _ (by simp)).wr _ (by simp)) ⟨rfl, by cases timeout <;> simp⟩

end

/-! ### Edges of a pin -/

section
variable (s : State) (n : Fin 8) (rise : Bool)

/-- The device with the level of a pin after an edge (R566). -/
def Dev.edged (d : Dev) (n : Nat) (rise : Bool) : Dev :=
  d.wr (.sbd .GPIO_IN_IN) (if rise then setBit (d.rd (.sbd .GPIO_IN_IN)) n else clrBit (d.rd (.sbd .GPIO_IN_IN)) n)

/-- The event of a pin, raised (R566). -/
def Dev.gpioEvent (d : Dev) (n : Nat) : Dev :=
  let e := d.setFldBit (.sbd .GPIO_EVT_EVT) n
  if e.is (.sbd .CTRL_IRQ_EN) then e.hepEvent 17 else e

theorem Dev.rd_in_edged (d : Dev) (n : Fin 8) (rise : Bool) : (d.edged n rise).rd (.sbd .GPIO_IN_IN) =
    if rise then setBit (d.rd (.sbd .GPIO_IN_IN)) n else clrBit (d.rd (.sbd .GPIO_IN_IN)) n := by
  have hs := setBit_lt (d.rd_lt (.sbd .GPIO_IN_IN)) n.isLt
  have hc := clrBit_lt (i := n) (d.rd_lt (.sbd .GPIO_IN_IN))
  rw [Dev.edged, Dev.rd_wr, if_pos rfl]
  cases rise
  · exact Nat.mod_eq_of_lt hc
  · exact Nat.mod_eq_of_lt hs

theorem Dev.rd_gpioEvent (d : Dev) (n : Nat) (f : Fld) : (d.gpioEvent n).rd f = (d.setFldBit (.sbd .GPIO_EVT_EVT) n).rd f := by
  unfold Dev.gpioEvent
  dsimp only
  split <;> simp

/-- An edge in A0 or A1: the level, and the event where the direction is enabled; nothing is woken (R516, R566). -/
theorem effect_gpioEdge (ha : Awake s) (he : s.dev.rd (.pwr .STATUS_ENTERING) = 0) (on : Bool)
    (hon : on = bitAt (s.dev.rd (.sbd (if rise then .GPIO_EDGE_RISE else .GPIO_EDGE_FALL))) n) :
    Effect (.gpioEdge n rise) s [.sbd .GPIO_IN_IN, .sbd .GPIO_EVT_EVT] [.irqs] (fun t =>
      t.rd (.sbd .GPIO_IN_IN) = (if rise then setBit (s.dev.rd (.sbd .GPIO_IN_IN)) n else clrBit (s.dev.rd (.sbd .GPIO_IN_IN)) n) ∧
      t.rd (.sbd .GPIO_EVT_EVT) = (if on then setBit (s.dev.rd (.sbd .GPIO_EVT_EVT)) n else s.dev.rd (.sbd .GPIO_EVT_EVT))) := by
  have hin := s.dev.rd_in_edged n rise
  have hk : Kept [.sbd .GPIO_IN_IN, .sbd .GPIO_EVT_EVT] [.irqs] s.dev (s.dev.edged n rise) := (Kept.refl _).wr _ (by simp)
  have hevt : (s.dev.edged n rise).rd (.sbd .GPIO_EVT_EVT) = s.dev.rd (.sbd .GPIO_EVT_EVT) := by simp [Dev.edged]
  have hrd : ∀ f, f ≠ .sbd .GPIO_IN_IN → (s.dev.edged n rise).rd f = s.dev.rd f := fun f hf => by simp [Dev.edged, hf]
  have hx : exec (.gpioEdge n rise) s = .next { s with
      dev := if on = true ∧ (s.dev.edged n rise).pwrState ≠ 3 then (s.dev.edged n rise).gpioEvent n else s.dev.edged n rise } := by
    have hwake : ∀ (e : Dev) (latch : Dev → Dev), e.rd (.pwr .STATUS_STATE) = s.dev.rd (.pwr .STATUS_STATE) →
        e.rd (.pwr .STATUS_ENTERING) = 0 → e.wake latch = e := fun e latch h1 h2 => by
      have hlt := ha.2
      rw [Dev.wake, if_neg (by simp [Dev.is, h2]), if_neg (by rw [Dev.pwrState, h1]; omega), if_neg (by rw [Dev.pwrState, h1]; omega)]
    have hon' : bitAt ((s.dev.edged n rise).rd (.sbd (if rise then .GPIO_EDGE_RISE else .GPIO_EDGE_FALL))) n = on := by
      rw [hrd _ (by cases rise <;> simp), hon]
    have hst : ∀ f, (s.dev.edged n rise).rd (.pwr f) = s.dev.rd (.pwr f) := fun f => hrd _ (by simp)
    have hst' : ∀ f, ((s.dev.edged n rise).gpioEvent n).rd (.pwr f) = s.dev.rd (.pwr f) := fun f => by
      rw [Dev.rd_gpioEvent, Dev.setFldBit, Dev.rd_wr, if_neg (by simp), hst]
    show execGpioEdge n rise s = _
    rw [execGpioEdge, State.run_live s _ ha.1]
    dsimp only
    rw [show s.dev.wr (.sbd .GPIO_IN_IN) _ = s.dev.edged n rise from rfl, hon']
    by_cases h : on = true ∧ (s.dev.edged n rise).pwrState ≠ 3
    · rw [if_pos h, if_pos h]
      congr 2
      refine (ite_eq_right_iff.mpr fun _ => hwake _ _ (hst' _) ((hst' _).trans he))
    · rw [if_neg h, if_neg h]
      congr 2
      exact (ite_eq_right_iff.mpr fun _ => hwake _ _ (hst _) ((hst _).trans he))
  have hst : (s.dev.edged n rise).pwrState ≠ 3 := by
    rw [Dev.pwrState, hrd _ (by simp)]
    have := ha.2
    omega
  cases on
  · rw [if_neg (by simp)] at hx
    exact .of_next hx hk ⟨hin, hevt⟩
  · rw [if_pos ⟨rfl, hst⟩] at hx
    have hke : Kept [.sbd .GPIO_IN_IN, .sbd .GPIO_EVT_EVT] [.irqs] s.dev ((s.dev.edged n rise).gpioEvent n) :=
      .ite _ (fun _ => (hk.wr _ (by simp)).hepEvent _ (by simp)) (fun _ => hk.wr _ (by simp))
    refine .of_next hx hke ⟨?_, ?_⟩
    · rw [Dev.rd_gpioEvent, Dev.setFldBit, Dev.rd_wr, if_neg (by simp), hin]
    · rw [Dev.rd_gpioEvent, Dev.rd_setFldBit _ _ _ n.isLt, hevt]
      rfl

/-- The device whose wake from A3 by pin `n` is latched in AON (R516). -/
def Dev.gpioLatched (d : Dev) (n : Nat) : Dev := (d.edged n true).setFldBit (.pwr .WAKE_STATUS_SRC) (4 + n)

theorem kept_pmeSet {F : List Fld} {P : List Part} {d e : Dev} (k : Kept F P d e) (f : Nat) (hf : .cs f .PM_PME_STATUS ∈ F)
    (hh : .hep ∈ P) : Kept F P d (e.pmeSet f) :=
  .ite _ (fun _ => (k.withHep _ hh).wr _ hf) (fun _ => k)

theorem kept_leaveState {F : List Fld} {P : List Part} {d e : Dev} (k : Kept F P d e) (dest : Nat) (hp : .pwr ∈ P) :
    Kept F P d (e.leaveState dest) :=
  .ite _ (fun _ => k) (fun _ => k.withPwr _ hp)

/-- A rising edge in A3 of a pin enabled to wake: the source is latched and the state begins to be left (R515, R516). -/
theorem effect_gpioEdge_wake (hs : s.held = false) (hw : bitAt (s.dev.rd (.pwr .WAKE_EN_GPIO)) n = true) (h3 : s.dev.pwrState = 3)
    (he : s.dev.rd (.pwr .STATUS_ENTERING) = 0) (hl : s.dev.pwr.leaving = none) :
    Effect (.gpioEdge n true) s [.sbd .GPIO_IN_IN, .pwr .WAKE_STATUS_SRC, .cs 0 .PM_PME_STATUS] [.pwr, .hep] (fun t =>
      t.rd (.pwr .WAKE_STATUS_SRC) = setBit (s.dev.rd (.pwr .WAKE_STATUS_SRC)) (4 + n.val) ∧ t.pwr.leaving ≠ none) := by
  have hrd : ∀ f, (s.dev.edged n true).rd (.pwr f) = s.dev.rd (.pwr f) := fun f => by simp [Dev.edged]
  have hst : (s.dev.edged n true).pwrState = 3 := (hrd _).trans h3
  have hx : exec (.gpioEdge n true) s = .next { s with dev := ((s.dev.gpioLatched n).pmeSet 0).leaveState 0 } := by
    show execGpioEdge n true s = _
    rw [execGpioEdge, State.run_live s _ hs]
    dsimp only
    rw [show s.dev.wr (.sbd .GPIO_IN_IN) _ = s.dev.edged n true from rfl,
      if_neg (fun h : bitAt ((s.dev.edged n true).rd _) n = true ∧ (s.dev.edged n true).pwrState ≠ 3 => h.2 hst), if_pos ⟨rfl, by rw [hrd, hw]⟩,
      Dev.wake, if_neg (by rw [Dev.is_eq_true_iff, hrd, he]; simp), if_pos hst]
    rfl
  have hk : Kept [.sbd .GPIO_IN_IN, .pwr .WAKE_STATUS_SRC, .cs 0 .PM_PME_STATUS] [.pwr, .hep] s.dev ((s.dev.gpioLatched n).pmeSet 0) :=
    kept_pmeSet (((Kept.refl _).wr _ (by simp)).wr _ (by simp)) _ (by simp) (by simp)
  have hpme : ∀ f, ((s.dev.gpioLatched n).pmeSet 0).rd (.pwr f) = (s.dev.gpioLatched n).rd (.pwr f) := fun f =>
    (kept_pmeSet (F := [.cs 0 .PM_PME_STATUS]) (P := [.hep]) (.refl _) 0 (by simp) (by simp)).rd (by simp) rfl
  have hpwr : ((s.dev.gpioLatched n).pmeSet 0).pwr = s.dev.pwr :=
    (kept_pmeSet (F := [.cs 0 .PM_PME_STATUS]) (P := [.hep]) (.refl (s.dev.gpioLatched n)) 0 (by simp) (by simp)).same (x := .pwr) (by simp)
  have hsrc : ((s.dev.gpioLatched n).pmeSet 0).rd (.pwr .WAKE_STATUS_SRC) = setBit (s.dev.rd (.pwr .WAKE_STATUS_SRC)) (4 + n.val) := by
    have hlt := n.isLt
    rw [hpme, Dev.gpioLatched, Dev.rd_setFldBit _ _ _ (by rw [wakeSrc_width]; omega), hrd]
  have hp3 : ((s.dev.gpioLatched n).pmeSet 0).pwrState = 3 := by
    rw [Dev.pwrState, hpme, Dev.gpioLatched, Dev.setFldBit, Dev.rd_wr, if_neg (by simp), hrd]
    exact h3
  generalize (s.dev.gpioLatched n).pmeSet 0 = e at hx hk hpwr hsrc hp3
  refine .of_next hx (kept_leaveState hk _ (by simp)) ⟨?_, ?_⟩
  · rw [((kept_leaveState (F := []) (P := [.pwr]) (.refl e) 0 (by simp))).rd (by simp) rfl, hsrc]
  · rw [Dev.leaveState]
    dsimp only
    rw [if_neg (by rw [hp3, hpwr, hl]; simp)]
    simp

end

/-! ### The statement -/

/-- Settles O49: each clause is the effect of its command. -/
theorem flashAndGpio : Obligations.FlashAndGpio := by
  unfold Obligations.FlashAndGpio
  intro s timeout page n rise hs
  refine ⟨fun hp => ?_, fun a hf => effect_flashOpDone_read s timeout page hs a hf, fun op a hf ho => effect_flashOpDone s timeout page hs op a hf ho,
    fun on hon hp he => effect_gpioEdge s n rise ⟨hs, hp⟩ he on hon, fun hw h3 he hl => effect_gpioEdge_wake s n hs hw h3 he hl⟩
  have ha : Awake s := ⟨hs, hp⟩
  exact ⟨flashStarts 1 256 rfl ha rfl, flashStarts 3 4096 rfl ha rfl, flashStarts 2 256 rfl ha rfl⟩

end Sys2Proof.Machine
end

section
-- The theorems are elaborated in order, which keeps the memory that a check of the whole text takes within its limit.
set_option Elab.async false

/-! SUPPORT.  The phases of a tick: their effects, clause by clause, and the statement they settle (R57, R73, R74). -/

namespace Sys2Proof.Machine

open Sys2Proof.Safety Sys2Proof.Claims

/-! ### Ports while time passes -/

/-- A port of `e` is the port of `d` with its shapers' credit changed. -/
def CreditOnly (d e : Dev) : Prop := ∀ p, ∃ c, e.port p = { d.port p with credit := c }

theorem CreditOnly.refl (d : Dev) : CreditOnly d d := fun p => ⟨(d.port p).credit, rfl⟩

theorem CreditOnly.trans {d e g : Dev} (h : CreditOnly d e) (k : CreditOnly e g) : CreditOnly d g := fun p => by
  obtain ⟨b, hb⟩ := h p
  obtain ⟨c, hc⟩ := k p
  exact ⟨c, by rw [hc, hb]⟩

theorem CreditOnly.foldl {α : Type} (l : List α) (g : Dev → α → Dev) (hg : ∀ d x, CreditOnly d (g d x)) (d : Dev) :
    CreditOnly d (l.foldl g d) := by
  induction l generalizing d with
  | nil => exact .refl d
  | cons x xs ih => exact (hg d x).trans (ih _)

theorem creditOnly_accrue (d : Dev) (p c : Nat) : CreditOnly d (d.accrue p c) := fun q => by
  rw [Dev.accrue, Dev.port_modPort]
  split
  · next h => exact ⟨_, by rw [h.1]⟩
  · exact ⟨_, rfl⟩

theorem creditOnly_counted {d e : Dev} (h : Counted d e) : CreditOnly d e := fun p => by
  obtain ⟨r, w, hc, -⟩ := h
  exact ⟨_, by rw [hc]; rfl⟩

/-- The passing of time changes a port's credit alone (R143). -/
theorem creditOnly_elapse (d : Dev) (n : Nat) : CreditOnly d (d.elapse n) := by
  unfold Dev.elapse
  split
  · exact .refl d
  · extract_lets t c _ e
    exact (show CreditOnly d e from fun p => ⟨_, rfl⟩).trans
      ((CreditOnly.foldl _ _ (fun d p => creditOnly_accrue d p c) e).trans (creditOnly_counted (Counted.countCycles _ n c)))

theorem Dev.elapseTb_kept (d : Dev) (x : Nat) : Kept [] timeParts d (d.elapseTb x) :=
  Kept.later (Later.elapse d _) (by simp [timeParts]) (by simp [timeParts]) (by simp [timeParts])

theorem Dev.relq_elapseTb (d : Dev) (x p : Nat) : ((d.elapseTb x).port p).relq = (d.port p).relq := by
  obtain ⟨c, hc⟩ := creditOnly_elapse d (d.untilTb x) p
  rw [Dev.elapseTb, hc]

/-! ### One port of four -/

/-- A fold whose step leaves the start and the result alone but at one element is that element's step. -/
theorem foldl_eq_step {α β : Type} (g : β → α → β) (d e : β) (p : α) (hg : g d p = e) :
    ∀ l : List α, l.Nodup → p ∈ l → (∀ x ∈ l, x ≠ p → g d x = d ∧ g e x = e) → l.foldl g d = e := by
  have hrest : ∀ l : List α, (∀ x ∈ l, g e x = e) → l.foldl g e = e := fun l => by
    induction l with
    | nil => exact fun _ => rfl
    | cons x xs ih => exact fun h => by rw [List.foldl_cons, h x (by simp), ih fun y hy => h y (by simp [hy])]
  intro l
  induction l with
  | nil => exact fun _ hp => absurd hp (by simp)
  | cons x xs ih =>
    intro hn hp h
    obtain ⟨hx, hn⟩ := List.nodup_cons.mp hn
    rw [List.foldl_cons]
    by_cases hxp : x = p
    · rw [hxp, hg]
      exact hrest xs fun y hy => (h y (by simp [hy]) (fun hyp => hx (hxp ▸ hyp ▸ hy))).2
    · rw [(h x (by simp) hxp).1]
      exact ih hn (by simpa [Ne.symm hxp] using hp) fun y hy => h y (by simp [hy])

/-- A port after the same change of all four. -/
theorem Dev.port_foldl_modPort (d : Dev) (g : Port → Port) (p : Fin 4) :
    ((List.range 4).foldl (fun d q => d.modPort q g) d).port p = g (d.port p) := by
  have h : ((List.range 4).foldl (fun d q => d.modPort q g) d).port p = ((((d.modPort 0 g).modPort 1 g).modPort 2 g).modPort 3 g).port p := rfl
  rw [h]
  fin_cases p <;> simp

section
variable (s : State) (p : Fin 4) (hs : s.held = false)
include hs

/-! ### PHASE_OPEN and P3_MARK -/

section
variable (hr : s.dev.tick.coreRun = true)
include hr

theorem effect_phaseOpen_p2 :
    Effect (.phaseOpen false) s [] timeParts (fun t => t.tick.p2 = true ∧ t.tick.cyc = max s.dev.tick.cyc s.dev.p2Off) := by
  refine .run (x := execPhaseOpen false s) rfl rfl hs ?_
  simp only [hr, Bool.not_true, Bool.false_eq_true, if_false]
  exact ⟨(s.dev.elapseCyc_kept _).withTick _ (by simp [timeParts]), by simp⟩

theorem effect_phaseOpen_p4 :
    Effect (.phaseOpen true) s [] timeParts (fun t => t.tick.p4 = true ∧ t.tick.cyc = max s.dev.tick.cyc s.dev.p4Off) := by
  refine .run (x := execPhaseOpen true s) rfl rfl hs ?_
  simp only [hr, Bool.not_true, Bool.false_eq_true, if_false, if_true]
  exact ⟨(s.dev.elapseCyc_kept _).withTick _ (by simp [timeParts]), by simp⟩

theorem effect_p3Mark (h3 : s.dev.tick.p3 = false) :
    Effect .p3Mark s [] timeParts (fun t => t.tick.p3 = true ∧ (t.port p).relDue = true ∧ (t.port p).relq = (s.dev.port p).relq) := by
  refine .run (x := execP3Mark s) rfl rfl hs ?_
  simp only [hr, h3, Bool.not_true, Bool.false_eq_true, or_self, if_false]
  refine ⟨((s.dev.elapseTb_kept _).withTick _ (by simp [timeParts])).foldl _ _ fun a q _ h => h.modPort q _ (by simp [timeParts]), ?_, ?_⟩
  · rw [Dev.foldl_tick _ _ fun d q => d.modPort_tick q _]
  · rw [Dev.port_foldl_modPort]
    exact ⟨rfl, s.dev.relq_elapseTb _ p⟩

end

/-! ### P3_RELEASE and RELEASE_GUARD_START -/

/-- The device after the release of one waiting entry. -/
def Dev.releasedOne (d : Dev) (p q : Nat) (e : TxEnt) : Dev :=
  ((((d.modPort p fun x => { x with relq := [], relDue := false, relDone := true }).modPort p fun x =>
    { x with txq := bankAt 8 [] x.txq q (fun l => l ++ [{ e with rel := true }]) }).modPort p fun x =>
    { x with relBytes := (d.port p).relBytes + (d.wireLen p e + 20) }).modPort p fun x => { x with relq := [] })

omit hs in
theorem Dev.release_one (d : Dev) (q : Nat) (e : TxEnt) (hq : (d.port p).relq = [(q, e)])
    (hl : (d.port p).relBytes + d.wireLen p e + 20 ≤ d.relLimit p) (ht : d.txRefusal p q true = none) (hu : d.linkUp p = true) :
    d.release p = d.releasedOne p q e := by
  set a := d.modPort p fun x => { x with relq := [], relDue := false, relDone := true } with ha
  have hw : a.wireLen p e = d.wireLen p e := rfl
  have hlim : a.relLimit p = d.relLimit p := rfl
  have ht' : a.txRefusal p q true = none := by
    rw [← ht]
    have hx : (a.port p).txq = (d.port p).txq := by simp [ha]
    unfold Dev.txRefusal
    rw [hx]
    rfl
  have hu' : a.linkUp p = true := hu
  rw [Dev.release, ← ha, hq]
  simp only [Dev.releaseGo, hw, hlim, ht', Dev.txAccept, hu', Bool.not_true, Bool.false_eq_true, if_false,
    if_neg (show ¬ d.relLimit p < (d.port p).relBytes + (d.wireLen p e + 20) by omega)]
  rfl

theorem effect_p3Release (q : Nat) (e : TxEnt) (hd : (s.dev.port p).relDue = true)
    (ho : ∀ o : Fin 4, o ≠ p → (s.dev.port o).relDue = false) (hq : (s.dev.port p).relq = [(q, e)]) (h8 : q < 8)
    (hl : (s.dev.port p).relBytes + s.dev.wireLen p e + 20 ≤ s.dev.relLimit p) (ht : s.dev.txRefusal p q true = none)
    (hu : s.dev.linkUp p = true) :
    Effect .p3Release s [] [.ports] (fun t =>
      (t.port p).txq.getD q [] = (s.dev.port p).txq.getD q [] ++ [{ e with rel := true }] ∧ (t.port p).relq = [] ∧
      (t.port p).relDue = false ∧ (t.port p).relDone = true ∧
      (t.port p).relBytes = (s.dev.port p).relBytes + s.dev.wireLen p e + 20) := by
  refine .run (x := execP3Release s) rfl rfl hs ?_
  have hfold : (List.range 4).foldl (fun d p => if (d.port p).relDue then d.release p else d) s.dev = s.dev.releasedOne p q e := by
    refine foldl_eq_step _ _ _ (p : Nat) ?_ _ List.nodup_range (by simp) fun x hx hxp => ?_
    · rw [if_pos hd, Dev.release_one p s.dev q e hq hl ht hu]
    · have hx4 : x < 4 := by simpa using hx
      have h0 : (s.dev.port x).relDue = false := ho ⟨x, hx4⟩ fun h => hxp (congrArg Fin.val h)
      constructor
      · simp [h0]
      · simp [Dev.releasedOne, hxp, h0]
  rw [hfold]
  refine ⟨((((Kept.refl _).modPort _ _ (by simp)).modPort _ _ (by simp)).modPort _ _ (by simp)).modPort _ _ (by simp), ?_, ?_⟩
  · have htxq : ((s.dev.releasedOne p q e).port p).txq = bankAt 8 [] (s.dev.port p).txq q (fun l => l ++ [{ e with rel := true }]) := by
      simp [Dev.releasedOne]
    rw [htxq, getD_bankAt, if_pos ⟨rfl, h8⟩]
  · simp [Dev.releasedOne, Nat.add_assoc]

theorem effect_releaseGuardStart (hr : s.dev.rd (.tck .STATUS_RUNNING) = 1) (hc : s.dev.sched p = true) (h3 : s.dev.tick.p3 = false)
    (hf : s.dev.tick.first = false) : Effect (.releaseGuardStart p) s [] timeParts (fun t => (t.port p).window = true) := by
  refine .run (x := execReleaseGuardStart p s) rfl rfl hs ?_
  rw [if_pos (by simp [Dev.is, hr, hc, h3, hf])]
  exact ⟨(s.dev.elapseTb_kept _).modPort _ _ (by simp [timeParts]), by simp⟩

end

/-- Settles O10: each command of the tick's phases by its own lemma. -/
theorem tickPhases : Obligations.TickPhases := by
  intro s p hs hr
  exact ⟨effect_phaseOpen_p2 s hs hr, effect_phaseOpen_p4 s hs hr, effect_p3Mark s p hs hr, effect_p3Release s p hs,
    effect_releaseGuardStart s p hs⟩

end Sys2Proof.Machine
end

section
-- The theorems are elaborated in order, which keeps the memory that a check of the whole text takes within its limit.
set_option Elab.async false

/-! SUPPORT.  Containment of a root port and the tunnel keepalive: their effects, clause by clause, and the statement they settle (R427 to R432). -/

namespace Sys2Proof.Machine

open Sys2Proof.Safety Sys2Proof.Claims

/-! ### Root ports and bridge events -/

@[simp] theorem rpCtnChg_width (r : Nat) : (Fld.brg (.RP_STATUS_CTN_CHG r)).width = 1 := rfl
@[simp] theorem rpState_width (r : Nat) : (Fld.brg (.RP_STATUS_STATE r)).width = 2 := rfl
@[simp] theorem rpCtnResult_width (r : Nat) : (Fld.brg (.RP_CTN_STATUS_RESULT r)).width = 3 := rfl
@[simp] theorem kaPathDead_width (r : Nat) : (Fld.brg (.KA_STATUS_PATH_DEAD r)).width = 1 := rfl
@[simp] theorem kaExpTick_width (r : Nat) : (Fld.brg (.KA_STATUS_EXP_TICK r)).width = 16 := rfl
@[simp] theorem kaLast_width (r : Nat) : (Fld.brg (.KA_LAST_LAST r)).width = 32 := rfl
@[simp] theorem kaLimit_width (r : Nat) : (Fld.brg (.KA_LIMIT_LIMIT r)).width = 16 := rfl

theorem kept_brgEvent {F : List Fld} {P : List Part} {d e : Dev} (h : Kept F P d e) (hi : .irqs ∈ P) : Kept F P d e.brgEvent :=
  .ite _ (fun _ => h.hepEvent _ hi) fun _ => h

@[simp] theorem Dev.rd_brgEvent (d : Dev) (f : Fld) : d.brgEvent.rd f = d.rd f := by
  unfold Dev.brgEvent
  split <;> simp

@[simp] theorem Dev.rps_brgEvent (d : Dev) : d.brgEvent.rps = d.rps := by
  unfold Dev.brgEvent
  split <;> simp

@[simp] theorem Dev.apWait_brgEvent (d : Dev) : d.brgEvent.apWait = d.apWait := by
  unfold Dev.brgEvent
  split <;> simp

@[simp] theorem Dev.used_brgEvent (d : Dev) : d.brgEvent.used = d.used := by
  unfold Dev.brgEvent
  split <;> simp

@[simp] theorem Dev.rp_brgEvent (d : Dev) (n : Nat) : d.brgEvent.rp n = d.rp n := by simp [Dev.rp]

@[simp] theorem Dev.rd_modRp (d : Dev) (n : Nat) (g : Rp → Rp) (f : Fld) : (d.modRp n g).rd f = d.rd f := rfl

/-- A root port after its own change. -/
theorem Dev.rp_modRp_self (d : Dev) (n : Fin 2) (g : Rp → Rp) : (d.modRp n g).rp n = g (d.rp n) :=
  (d.rp_modRp n n g).trans (if_pos ⟨rfl, n.isLt⟩)

theorem Dev.apDrain_idle (d : Dev) (h : d.apWait = []) : d.apDrain = d := by
  rw [Dev.apDrain, h, Dev.apDrainList, ← h]

theorem rp_counted {d e : Dev} (h : Counted d e) (n : Nat) : e.rp n = d.rp n := by
  obtain ⟨r, w, rfl, -⟩ := h
  rfl

/-! ### Frames dropped -/

/-- The device after the lines of some frames have been freed. -/
def Dev.dropFrames (d : Dev) (l : List Frame) : Dev := l.foldl Dev.dropFrame d

theorem Dev.dropFrames_eq (d : Dev) (l : List Frame) : d.dropFrames l = { d with used := (d.dropFrames l).used } := by
  unfold Dev.dropFrames
  induction l generalizing d with
  | nil => rfl
  | cons f fs ih =>
    rw [List.foldl_cons, ih]
    rfl

theorem Dev.mem_used_dropFrames (d : Dev) (l : List Frame) (n : Nat) :
    n ∈ (d.dropFrames l).used ↔ n ∈ d.used ∧ ∀ f ∈ l, n ∉ f.lines := by
  unfold Dev.dropFrames
  induction l generalizing d with
  | nil => simp
  | cons f fs ih =>
    rw [List.foldl_cons, ih]
    simp [Dev.dropFrame, Dev.free, and_assoc]

theorem kept_dropFrames {F : List Fld} {P : List Part} {d e : Dev} (h : Kept F P d e) (l : List Frame) (hu : .used ∈ P) :
    Kept F P d (e.dropFrames l) := by
  rw [Dev.dropFrames_eq]
  exact h.withUsed _ hu

section
variable (s : State) (rp : Fin 2)

/-! ### RP_CONTAINMENT_ARRIVAL -/

/-- A containment that is on its way arrives in FAB: its queue is discarded (R427). -/
theorem effect_rpContainmentArrival (hs : s.held = false) (hp : (s.dev.rp rp).ctnPend = true) (hw : s.dev.apWait = []) :
    Effect (.rpContainmentArrival rp) s [.brg (.RP_CNT_COUNT rp 7), .brg (.RP_STATUS_CTN_CHG rp)] [.rps, .used, .irqs] (fun t =>
      t.rp rp = { s.dev.rp rp with ctnPend := false, fabUp := false, queue := [], pf := [] } ∧ t.rd (.brg (.RP_STATUS_CTN_CHG rp)) = 1 ∧
      Counts s.dev t (.brg (.RP_CNT_COUNT rp 7)) (s.dev.rp rp).queue.length ∧
      ∀ e ∈ (s.dev.rp rp).queue, ∀ l ∈ e.frame.lines, l ∉ t.used) := by
  set fs := (s.dev.rp rp).queue.map (·.frame) with hfs
  set a := s.dev.dropFrames fs with ha
  have hrd : ∀ f, a.rd f = s.dev.rd f := fun f => by rw [ha, Dev.dropFrames_eq]; rfl
  have hrp : a.rp rp = s.dev.rp rp := by rw [ha, Dev.dropFrames_eq]; rfl
  have hwait : a.apWait = [] := by rw [ha, Dev.dropFrames_eq]; exact hw
  refine .run (x := execRpContainmentArrival rp s) rfl rfl hs ?_
  simp only [hp, Bool.not_true, Bool.false_eq_true, if_false]
  rw [Dev.apDrain_idle _ (by rw [Dev.apWait_brgEvent]; exact hwait)]
  refine ⟨kept_brgEvent (.wr (.incBy (.modRp (kept_dropFrames (.refl _) fs (by simp)) _ _ (by simp)) _ (by simp)) _ (by simp)) (by simp),
    ?_, ?_, ?_, fun e he l hl hu => ?_⟩
  · rw [Dev.rp_brgEvent]
    exact (a.rp_modRp_self rp _).trans (by rw [hrp])
  · simp
  · rw [← Dev.dropFrames, ← hfs, ← ha]
    simp [Counts, Dev.rd_incBy, hrd]
  · rw [Dev.used_brgEvent] at hu
    exact ((s.dev.mem_used_dropFrames fs l).mp hu).2 e.frame (List.mem_map_of_mem he) hl

/-! ### RP_CTN_RELEASE -/

/-- The code that a release of a root port's containment leaves (R429). -/
def Dev.rpReleaseCode (d : Dev) (rp : Nat) (seq : BitVec 16) : Nat :=
  if d.rpState rp ≠ 3 then 1
  else if seq.toNat ≠ d.rd (.brg (.RP_CTN_STATUS_SEQ rp)) then 2
  else if (d.rp rp).dlUp ∧ (d.rp rp).tags.any (·.quarantined) then 3
  else 0

/-- The state that a released root port goes to (R429). -/
def Dev.rpReleaseTo (d : Dev) (rp : Nat) : Nat := if (d.rp rp).dlUp then 2 else if d.is (.brg (.RP_CTRL_PERST rp)) then 0 else 1

theorem rpReleaseCode_counted {d e : Dev} (h : Counted d e) (seq : BitVec 16) : e.rpReleaseCode rp seq = d.rpReleaseCode rp seq := by
  rw [Dev.rpReleaseCode, Dev.rpState, rp_counted h, h.rd (.brg (.RP_STATUS_STATE rp)) rfl, h.rd (.brg (.RP_CTN_STATUS_SEQ rp)) rfl]
  rfl

theorem rpReleaseTo_counted {d e : Dev} (h : Counted d e) : e.rpReleaseTo rp = d.rpReleaseTo rp := by
  simp only [Dev.rpReleaseTo, rp_counted h, h.is (.brg (.RP_CTRL_PERST rp)) rfl]

theorem Dev.rpReleaseCode_lt (d : Dev) (seq : BitVec 16) : d.rpReleaseCode rp seq < 8 := by
  unfold Dev.rpReleaseCode
  split_ifs <;> decide

theorem Dev.rpReleaseTo_lt (d : Dev) : d.rpReleaseTo rp < 4 := by
  unfold Dev.rpReleaseTo
  split_ifs <;> decide

variable (ha : Awake s)
include ha

theorem effect_rpCtnRelease_noGo (seq : BitVec 16) : Effect (.rpCtnRelease rp false seq) s [] [] (fun _ => True) :=
  .host (x := execRpCtnRelease rp false seq s) rfl rfl ha fun e _ => ⟨.refl e, trivial⟩

theorem effect_rpCtnRelease_refused (seq : BitVec 16) (hc : s.dev.rpReleaseCode rp seq ≠ 0) :
    Effect (.rpCtnRelease rp true seq) s [.brg (.RP_CTN_STATUS_RESULT rp)] [] (fun t =>
      t.rd (.brg (.RP_CTN_STATUS_RESULT rp)) = s.dev.rpReleaseCode rp seq) := by
  refine .host (x := execRpCtnRelease rp true seq s) rfl rfl ha fun e he => ?_
  have hcode := rpReleaseCode_counted rp he seq
  simp only [Bool.not_true, Bool.false_eq_true, if_false]
  rw [← Dev.rpReleaseCode, hcode, if_pos hc]
  exact ⟨(Kept.refl e).wr _ (by simp), by simpa using Nat.mod_eq_of_lt (s.dev.rpReleaseCode_lt rp seq)⟩

theorem effect_rpCtnRelease (seq : BitVec 16) (hc : s.dev.rpReleaseCode rp seq = 0) :
    Effect (.rpCtnRelease rp true seq) s [.brg (.RP_CTN_STATUS_RESULT rp), .brg (.RP_STATUS_STATE rp), .brg (.RP_STATUS_CTN_CHG rp)]
      [.rps, .irqs] (fun t => t.rd (.brg (.RP_CTN_STATUS_RESULT rp)) = 0 ∧ t.rd (.brg (.RP_STATUS_CTN_CHG rp)) = 1 ∧
        t.rpState rp = s.dev.rpReleaseTo rp ∧ t.rp rp = { s.dev.rp rp with ctnPend := false, fabUp := (s.dev.rp rp).dlUp }) := by
  refine .host (x := execRpCtnRelease rp true seq s) rfl rfl ha fun e he => ?_
  have hcode := rpReleaseCode_counted rp he seq
  have hto := rpReleaseTo_counted rp he
  simp only [Bool.not_true, Bool.false_eq_true, if_false]
  rw [← Dev.rpReleaseCode, hcode, if_neg (not_not_intro hc), hc]
  have hst : (if (e.rp rp).dlUp = true then 2 else if (e.wr (.brg (.RP_CTN_STATUS_RESULT rp)) 0).is (.brg (.RP_CTRL_PERST rp)) = true then 0 else 1) =
      s.dev.rpReleaseTo rp := by
    rw [← hto, Dev.rpReleaseTo, Dev.is_congr (d := e) (by simp)]
  have hup : decide (s.dev.rpReleaseTo rp = 2) = (s.dev.rp rp).dlUp := by
    unfold Dev.rpReleaseTo
    cases (s.dev.rp rp).dlUp
    · simp only [Bool.false_eq_true, if_false]
      split <;> rfl
    · rfl
  rw [hst]
  refine ⟨kept_brgEvent (.wr (.modRp (.wr (.wr (.refl _) _ (by simp)) _ (by simp)) _ _ (by simp)) _ (by simp)) (by simp), ?_, ?_, ?_, ?_⟩
  · simp
  · simp
  · simp only [Dev.rpState, Dev.rd_brgEvent, Dev.rd_wr]
    simpa using Nat.mod_eq_of_lt (s.dev.rpReleaseTo_lt rp)
  · rw [Dev.rp_brgEvent, hup, ← rp_counted he]
    exact Dev.rp_modRp_self (e.wr _ _ |>.wr _ _) rp _

/-! ### The keepalive -/

theorem effect_keepaliveRearm :
    Effect (.keepaliveRearm rp) s [.brg (.KA_STATUS_PATH_DEAD rp), .brg (.KA_LAST_LAST rp)] [.rps] (fun t =>
      t.rd (.brg (.KA_STATUS_PATH_DEAD rp)) = 0 ∧ t.rd (.brg (.KA_LAST_LAST rp)) = s.dev.tick.fabTick % 2 ^ 32 ∧
      t.rp rp = { s.dev.rp rp with kaLast := s.dev.tick.fabTick }) := by
  refine .host (x := execKeepaliveRearm rp s) rfl rfl ha fun e he => ?_
  have htick : e.tick = s.dev.tick := by obtain ⟨r, w, rfl, -⟩ := he; rfl
  rw [Dev.kaSet, htick]
  refine ⟨.wr (.wr (.modRp (.refl _) _ _ (by simp)) _ (by simp)) _ (by simp), by simp, by simp, ?_⟩
  rw [← rp_counted he]
  exact e.rp_modRp_self rp _

theorem effect_keepaliveLimitWrite (limit : BitVec 16) :
    Effect (.keepaliveLimitWrite rp limit) s [.brg (.KA_LIMIT_LIMIT rp), .brg (.KA_STATUS_PATH_DEAD rp)] [] (fun t =>
      t.rd (.brg (.KA_LIMIT_LIMIT rp)) = limit.toNat ∧
      t.rd (.brg (.KA_STATUS_PATH_DEAD rp)) = if limit = 0 then 0 else s.dev.rd (.brg (.KA_STATUS_PATH_DEAD rp))) := by
  refine .host (x := execKeepaliveLimitWrite rp limit s) rfl rfl ha fun e he => ?_
  have hlim : limit.toNat % 2 ^ 16 = limit.toNat := Nat.mod_eq_of_lt limit.isLt
  have hdead := he.rd (.brg (.KA_STATUS_PATH_DEAD rp)) rfl
  have hzero : limit.toNat = 0 ↔ limit = 0 := by rw [← BitVec.toNat_inj]; rfl
  by_cases hz : limit = 0
  · simp only [hz, if_true]
    exact ⟨.wr (.wr (.refl _) _ (by simp)) _ (by simp), by simp, by simp⟩
  · simp only [hzero, hz, if_false]
    exact ⟨.wr (.refl _) _ (by simp), by simpa using hlim, by simp [hdead]⟩

omit ha
variable (hs : s.held = false) (hl : s.dev.rd (.brg (.KA_LIMIT_LIMIT rp)) ≠ 0) (hd : s.dev.rd (.brg (.KA_STATUS_PATH_DEAD rp)) = 0)
include hs hl hd

theorem effect_keepaliveExpiry (ht : s.dev.rd (.brg (.KA_LIMIT_LIMIT rp)) ≤ s.dev.tick.fabTick - (s.dev.rp rp).kaLast) :
    Effect (.keepaliveExpiry rp) s [.brg (.KA_STATUS_PATH_DEAD rp), .brg (.KA_STATUS_EXP_TICK rp), .brg (.RP_CNT_COUNT rp 8)] [.irqs]
      (fun t => t.rd (.brg (.KA_STATUS_PATH_DEAD rp)) = 1 ∧ t.rd (.brg (.KA_STATUS_EXP_TICK rp)) = s.dev.tick.fabTick % 2 ^ 16 ∧
        Counts s.dev t (.brg (.RP_CNT_COUNT rp 8))) := by
  refine .run (x := execKeepaliveExpiry rp s) rfl rfl hs ?_
  dsimp only
  rw [if_neg (by simp [Dev.is, hl, hd]; omega)]
  exact ⟨kept_brgEvent (.inc (.wrs (.refl _) _ (by simp)) (by simp)) (by simp), by simp [Dev.rpCnt], by simp [Dev.rpCnt],
    by simp [Counts, Dev.rpCnt]⟩

omit hl hd in
theorem effect_keepaliveExpiry_early (ht : s.dev.tick.fabTick - (s.dev.rp rp).kaLast < s.dev.rd (.brg (.KA_LIMIT_LIMIT rp))) :
    Effect (.keepaliveExpiry rp) s [] [] (fun _ => True) := by
  refine .run (x := execKeepaliveExpiry rp s) rfl rfl hs ?_
  dsimp only
  rw [if_pos (.inr (.inr ht))]
  exact ⟨.refl _, trivial⟩

end

/-- Settles O35: each command of a root port's containment and keepalive by its own lemma. -/
theorem rootPortContainmentAndKeepalive : Obligations.RootPortContainmentAndKeepalive := by
  intro s rp r seq limit code hs hr
  subst hr
  have hstate : s.dev.rpReleaseTo rp =
      (if (s.dev.rp rp).dlUp then 2 else if s.dev.rd (.brg (.RP_CTRL_PERST rp)) ≠ 0 then 0 else 1) :=
    if_congr Iff.rfl rfl (if_congr (Dev.is_eq_true_iff _ _) rfl rfl)
  have hcode : s.dev.rpReleaseCode rp seq = (if s.dev.rpState rp ≠ 3 then 1
      else if seq.toNat ≠ s.dev.rd (.brg (.RP_CTN_STATUS_SEQ rp)) then 2
      else if (s.dev.rp rp).dlUp = true ∧ (∃ g ∈ (s.dev.rp rp).tags, g.quarantined = true) then 3 else 0) :=
    if_congr Iff.rfl rfl (if_congr Iff.rfl rfl (if_congr (and_congr Iff.rfl List.any_eq_true) rfl rfl))
  refine ⟨fun hp hw => effect_rpContainmentArrival s rp hs hp hw, fun ha => ⟨effect_rpCtnRelease_noGo s rp ⟨hs, ha⟩ seq, fun hcd => ?_,
    effect_keepaliveRearm s rp ⟨hs, ha⟩, effect_keepaliveLimitWrite s rp ⟨hs, ha⟩ limit⟩, fun lim hlim hl hd => ?_⟩
  · rw [hcd, ← hcode, ← hstate]
    exact ⟨effect_rpCtnRelease_refused s rp ⟨hs, ha⟩ seq, effect_rpCtnRelease s rp ⟨hs, ha⟩ seq⟩
  · subst hlim
    exact ⟨effect_keepaliveExpiry s rp hs hl hd, effect_keepaliveExpiry_early s rp hs⟩

end Sys2Proof.Machine
end

section
-- The theorems are elaborated in order, which keeps the memory that a check of the whole text takes within its limit.
set_option Elab.async false

/-! SUPPORT.  Memory without errors: lines read and written while no line is marked (R27 to R31). -/

namespace Sys2Proof.Machine

open Sys2Proof.Safety Sys2Proof.Claims

section
variable {d : Dev} (hm : d.marks = [])
include hm

theorem Dev.mark_clean (l : Nat) : d.mark l = .clean := by rw [Dev.mark, hm]; rfl

omit hm in
/-- A clean line is read as it is stored, and the read changes nothing. -/
theorem Dev.readLine_of_mark {l : Nat} (h : d.mark l = .clean) : d.readLine l = (d.rawLine l, false, d) := by
  have hzero : popCount 8 0 = 0 := by decide
  rw [Dev.readLine, h]
  simp [Mark.clean, hzero]

theorem Dev.readLine_clean (l : Nat) : d.readLine l = (d.rawLine l, false, d) := Dev.readLine_of_mark (Dev.mark_clean hm l)

theorem Dev.readRun_clean (ls : List Nat) : d.readRun ls = (ls.flatMap d.rawLine, false, d) := by
  induction ls with
  | nil => rfl
  | cons l ls ih => rw [Dev.readRun, Dev.readLine_clean hm]; dsimp only; rw [ih]; rfl

theorem Dev.readMarked_clean (ls : List Nat) : d.readMarked ls = (clean (ls.flatMap d.rawLine), d) := by
  induction ls with
  | nil => rfl
  | cons l ls ih =>
    rw [Dev.readMarked, Dev.readLine_clean hm]
    dsimp only
    rw [ih, List.flatMap_cons]
    simp [clean, marked]

end

/-- The device after bytes have been stored in a clean line. -/
def Dev.stored (d : Dev) (l off : Nat) (bs : List Byte) : Dev :=
  { d with mem := Mem.write d.mem (64 * l + off) bs, writeBacks := d.writeBacks.filter (fun x => x ≠ l) }

@[simp] theorem Dev.rd_stored (d : Dev) (l off : Nat) (bs : List Byte) (f : Fld) : (d.stored l off bs).rd f = d.rd f := rfl
@[simp] theorem Dev.marks_stored (d : Dev) (l off : Nat) (bs : List Byte) : (d.stored l off bs).marks = d.marks := rfl
@[simp] theorem Dev.out_stored (d : Dev) (l off : Nat) (bs : List Byte) : (d.stored l off bs).out = d.out := rfl
@[simp] theorem Dev.mem_stored (d : Dev) (l off : Nat) (bs : List Byte) :
    (d.stored l off bs).mem = Mem.write d.mem (64 * l + off) bs := rfl

theorem kept_stored {F : List Fld} {P : List Part} {d e : Dev} (h : Kept F P d e) (l off : Nat) (bs : List Byte) (hm : .mem ∈ P)
    (hw : .writeBacks ∈ P) : Kept F P d (e.stored l off bs) :=
  (h.withMem (Mem.write e.mem (64 * l + off) bs) hm).withWriteBacks (e.writeBacks.filter (fun x => x ≠ l)) hw

/-- A clean line's mark, taken off once more. -/
theorem Dev.setMark_clean {d : Dev} (hm : d.marks = []) (l : Nat) : d.setMark l .clean = d := by
  rw [Dev.setMark, hm, List.filter_nil, if_pos rfl, ← hm]

section
variable {d : Dev} (hm : d.marks = [])
include hm

theorem Dev.writePart_clean (l off : Nat) (bs : List Byte) : d.writePart l off bs false = d.stored l off bs := by
  rw [Dev.writePart, Dev.readLine_clean hm]
  have hset : (d.store (64 * l + off) bs).setMark l { Mark.clean with code := 0 } = d.store (64 * l + off) bs := Dev.setMark_clean (d := d.store (64 * l + off) bs) hm l
  dsimp only
  rw [if_neg Bool.false_ne_true, if_neg Bool.false_ne_true, hset]
  rfl

theorem Dev.writeLine_clean (l : Nat) (bs : List Byte) (h : bs.length = 64) : d.writeLine l bs false = d.stored l 0 bs := by
  have hset : (d.store (64 * l) (sliceB bs 0 64)).setMark l .clean = d.store (64 * l) (sliceB bs 0 64) :=
    Dev.setMark_clean (d := d.store (64 * l) (sliceB bs 0 64)) hm l
  rw [Dev.writeLine, if_neg Bool.false_ne_true, hset, sliceB_self bs 64 h]
  rfl

/-- Bytes that lie in one line are stored there. -/
theorem Dev.writeRun_one (l off : Nat) (bs : List Byte) (hb : bs ≠ []) (h : off + bs.length ≤ 64) :
    d.writeRun [l] off bs false = d.stored l off bs := by
  have hlen : 0 < bs.length := List.length_pos_iff.mpr hb
  have htake : bs.take (64 - off) = bs := List.take_of_length_le (by omega)
  rw [Dev.writeRun, if_neg (by omega), if_neg hb]
  dsimp only
  rw [htake, Dev.writeRun]
  split
  · next hf => rw [Dev.writeLine_clean hm l bs hf.2, hf.1]
  · exact Dev.writePart_clean hm l off bs

theorem Dev.putMarked_one (l off : Nat) (bs : List Byte) (hb : bs ≠ []) (h : off + bs.length ≤ 64) :
    d.putMarked [l] off (clean bs) = d.stored l off bs := by
  have hlen : 0 < bs.length := List.length_pos_iff.mpr hb
  have htake : (clean bs).take (64 - off) = clean bs := List.take_of_length_le (by simp [clean]; omega)
  have hmap : (clean bs).map (·.1) = bs := by simp [clean, Function.comp_def]
  have hany : (clean bs).any (·.2) = false := by simp [clean]
  rw [Dev.putMarked, if_neg (by omega), if_neg (by simpa [clean] using hb)]
  dsimp only
  rw [htake, hmap, hany, Dev.writeRun_one hm l off bs hb h, Dev.putMarked]

end

/-! ### Cluster memory -/

/-- The memory address of a cluster byte. -/
def clusterAddr (off : Nat) : Nat := 64 * clusterLine 0 + off

theorem clusterAddr_eq (off : Nat) : clusterAddr off = 64 * clusterLine (off / 64) + off % 64 := by
  rw [clusterAddr, clusterLine, clusterLine]
  omega

section
variable {d : Dev} (hm : d.marks = [])
include hm

/-- A clean byte stored in cluster memory. -/
theorem Dev.clusterPut_byte (off : Nat) (v : Byte) :
    d.clusterPut off [(v, false)] = d.stored (clusterLine (off / 64)) (off % 64) [v] := by
  have hlines : lineRun (clusterLine (off / 64)) (linesIn off 1) = [clusterLine (off / 64)] := by
    have h : linesIn off 1 = 1 := by rw [linesIn, if_neg (by omega)]; omega
    rw [h]
    rfl
  rw [Dev.clusterPut, List.length_singleton, hlines]
  exact Dev.putMarked_one hm _ _ [v] (by simp) (by simp; omega)

/-- A byte read from clean cluster memory. -/
theorem Dev.clusterGet_byte (off : Nat) : (d.clusterGet off 1).1 = [(Mem.get d.mem (clusterAddr off), false)] := by
  have hlines : lineRun (clusterLine (off / 64)) (linesIn off 1) = [clusterLine (off / 64)] := by
    have h : linesIn off 1 = 1 := by rw [linesIn, if_neg (by omega)]; omega
    rw [h]
    rfl
  have hlt : off % 64 < (clean (d.rawLine (clusterLine (off / 64)))).length := by
    simpa [clean, Dev.rawLine, Dev.peek] using Nat.mod_lt off (by decide)
  rw [Dev.clusterGet, hlines, Dev.readMarked_clean hm]
  simp only [List.flatMap_cons, List.flatMap_nil, List.append_nil]
  rw [List.drop_eq_getElem_cons hlt, List.take_succ_cons, List.take_zero]
  simp [clean, Dev.rawLine, Dev.peek, clusterAddr_eq]

end

end Sys2Proof.Machine
end

section
-- The theorems are elaborated in order, which keeps the memory that a check of the whole text takes within its limit.
set_option Elab.async false

/-! SUPPORT.  Linked-list channels: their effects, clause by clause, and the statement they settle (R333 to R338). -/

namespace Sys2Proof.Machine

open Sys2Proof.Safety Sys2Proof.Claims

/-! ### Fields -/

@[simp] theorem llState_width (c : Nat) : (Fld.dma (.LL_STATUS_STATE c)).width = 3 := rfl
@[simp] theorem llKickPend_width (c : Nat) : (Fld.dma (.LL_STATUS_KICK_PEND c)).width = 1 := rfl
@[simp] theorem llCurAddr_width (c : Nat) : (Fld.dma (.LL_CUR_ADDR c)).width = 64 := rfl
@[simp] theorem llHeadAddr_width (c : Nat) : (Fld.dma (.LL_HEAD_ADDR c)).width = 59 := rfl
@[simp] theorem llHeadOnchip_width (c : Nat) : (Fld.dma (.LL_HEAD_ONCHIP c)).width = 1 := rfl
@[simp] theorem llLastStatus_width (c : Nat) : (Fld.dma (.LL_STATUS_LAST_STATUS c)).width = 8 := rfl

section
variable (s : State) (c : Fin 96)

/-! ### Start, stop and kick -/

section
variable (ha : Awake s)
include ha

theorem effect_llStart (h : s.dev.llState c = 0 ∨ s.dev.llState c = 4) :
    Effect (.llStart c) s [.dma (.LL_STATUS_STATE c), .dma (.LL_STATUS_KICK_PEND c), .dma (.LL_CUR_ADDR c)] [.dma] (fun t =>
      t.llState c = 1 ∧ t.rd (.dma (.LL_STATUS_KICK_PEND c)) = 0 ∧ t.ll c = {} ∧
      t.rd (.dma (.LL_CUR_ADDR c)) = s.dev.rd (.dma (.LL_HEAD_ADDR c)) * 32 + s.dev.rd (.dma (.LL_HEAD_ONCHIP c))) := by
  refine .host (x := execLlStart c s) rfl rfl ha fun e he => ?_
  have hst : e.llState c = s.dev.llState c := he.rd (.dma (.LL_STATUS_STATE c)) rfl
  have hhead := s.dev.rd_lt (.dma (.LL_HEAD_ADDR c))
  have hchip := s.dev.rd_lt (.dma (.LL_HEAD_ONCHIP c))
  rw [llHeadAddr_width] at hhead
  rw [llHeadOnchip_width] at hchip
  rw [hst, if_pos h, he.rd (.dma (.LL_HEAD_ADDR c)) rfl, he.rd (.dma (.LL_HEAD_ONCHIP c)) rfl]
  refine ⟨.wrs (.modLl (.refl _) _ _ (by simp)) _ (by simp), by simp [Dev.llState], by simp, ?_, ?_⟩
  · exact (Dev.ll_modLl e c c _).trans (if_pos ⟨rfl, c.isLt⟩)
  · simp only [Dev.wrs_cons, Dev.wrs_nil, Dev.rd_wr, if_true, llCurAddr_width]
    exact Nat.mod_eq_of_lt (by omega)

theorem effect_llStart_refused (h0 : s.dev.llState c ≠ 0) (h4 : s.dev.llState c ≠ 4) :
    Effect (.llStart c) s [.dma (.LL_CNT_REFUSED c)] [] (fun t => Counts s.dev t (.dma (.LL_CNT_REFUSED c))) := by
  refine .host (x := execLlStart c s) rfl rfl ha fun e he => ?_
  have hst : e.llState c = s.dev.llState c := he.rd (.dma (.LL_STATUS_STATE c)) rfl
  rw [hst, if_neg (not_or.mpr ⟨h0, h4⟩)]
  exact ⟨.inc (.refl _) (by simp), by simp [Counts, Dev.llRefused, he.rd (.dma (.LL_CNT_REFUSED c)) rfl]⟩

theorem effect_llStop (h : s.dev.llState c = 1 ∨ s.dev.llState c = 2) :
    Effect (.llStop c) s [.dma (.LL_STATUS_STATE c), .dma (.LL_STATUS_KICK_PEND c)] [] (fun t =>
      t.llState c = 3 ∧ t.rd (.dma (.LL_STATUS_KICK_PEND c)) = 0) := by
  refine .host (x := execLlStop c s) rfl rfl ha fun e he => ?_
  have hst : e.llState c = s.dev.llState c := he.rd (.dma (.LL_STATUS_STATE c)) rfl
  rw [hst, if_pos h]
  exact ⟨.wrs (.refl _) _ (by simp), by simp [Dev.llState], by simp⟩

theorem effect_llStop_refused (h1 : s.dev.llState c ≠ 1) (h2 : s.dev.llState c ≠ 2) :
    Effect (.llStop c) s [.dma (.LL_CNT_REFUSED c)] [] (fun t => Counts s.dev t (.dma (.LL_CNT_REFUSED c))) := by
  refine .host (x := execLlStop c s) rfl rfl ha fun e he => ?_
  have hst : e.llState c = s.dev.llState c := he.rd (.dma (.LL_STATUS_STATE c)) rfl
  rw [hst, if_neg (not_or.mpr ⟨h1, h2⟩)]
  exact ⟨.inc (.refl _) (by simp), by simp [Counts, Dev.llRefused, he.rd (.dma (.LL_CNT_REFUSED c)) rfl]⟩

theorem effect_llKick_parked (h : s.dev.llState c = 2) :
    Effect (.llKick c) s [.dma (.LL_STATUS_STATE c)] [] (fun t => t.llState c = 1) := by
  refine .host (x := execLlKick c s) rfl rfl ha fun e he => ?_
  have hst : e.llState c = s.dev.llState c := he.rd (.dma (.LL_STATUS_STATE c)) rfl
  rw [hst, if_pos h]
  exact ⟨.wr (.refl _) _ (by simp), by simp [Dev.llState]⟩

theorem effect_llKick_pending (h : s.dev.llState c ≠ 2) :
    Effect (.llKick c) s [.dma (.LL_STATUS_KICK_PEND c)] [] (fun t => t.rd (.dma (.LL_STATUS_KICK_PEND c)) = 1) := by
  refine .host (x := execLlKick c s) rfl rfl ha fun e he => ?_
  have hst : e.llState c = s.dev.llState c := he.rd (.dma (.LL_STATUS_STATE c)) rfl
  rw [hst, if_neg h]
  exact ⟨.wr (.refl _) _ (by simp), by simp⟩

end

/-! ### The write-back of a descriptor -/

/-- One clean byte written to the host leaves in one TLP (R325). -/
theorem Dev.hostWrite_byte (d : Dev) (f addr : Nat) (v : Byte) : d.hostWrite f addr [(v, false)] = d.hostOut f addr [(v, false)] false := by
  have hmps : 0 < d.mps := Nat.mul_pos (by decide) (Nat.two_pow_pos _)
  have hn : min d.mps (4096 - addr % 4096) ≠ 0 := by have := Nat.mod_lt addr (show 0 < 4096 by decide); omega
  obtain ⟨n, hn⟩ := Nat.exists_eq_succ_of_ne_zero hn
  rw [Dev.hostWrite, List.length_singleton, Dev.splitWrite, if_neg (by simp)]
  dsimp only
  rw [hn, List.take_succ_cons, List.take_nil, Dev.splitWrite, Dev.hostTlp]
  rfl

/-- The device once the STATUS byte of a channel's descriptor has been written (R333). -/
def Dev.statusStored (d : Dev) (c status : Nat) : Dev :=
  if (d.llCur c).1 then d.clusterPut (((d.llCur c).2 + 19) % 0x200000) [(BitVec.ofNat 8 status, false)]
  else d.hostWrite (d.chF c) ((d.llCur c).2 + 19) [(BitVec.ofNat 8 status, false)]

/-- The end of a descriptor recorded (R336). -/
def Dev.endNoted (d : Dev) (c status addr : Nat) : Dev :=
  if 0x80 ≤ status then ((d.inc (.dma (.LL_CNT_BAD c))).dmaLog c status addr).dmaEvent .STATUS_CH_ERR else d.inc (.dma (.LL_CNT_DONE c))

theorem Dev.llBack_eq (d : Dev) (c status : Nat) (x : Desc) :
    d.llBack c status x = if x.irq then
      (((d.statusStored c status).wr (.dma (.LL_STATUS_LAST_STATUS c)) status).endNoted c status (d.llCur c).2).chIrq c
    else ((d.statusStored c status).wr (.dma (.LL_STATUS_LAST_STATUS c)) status).endNoted c status (d.llCur c).2 := rfl

theorem kept_chIrq {F : List Fld} {P : List Part} {d e : Dev} (h : Kept F P d e) (c : Nat) (hf : .dma (.IRQ_PEND_PEND (c / 32)) ∈ F)
    (hi : .irqs ∈ P) : Kept F P d (e.chIrq c) :=
  .ite _ (fun _ => (h.wr _ hf).hepEvent _ hi) fun _ => h.wr _ hf

theorem Dev.rd_chIrq (d : Dev) (c : Nat) (f : Fld) : (d.chIrq c).rd f = (d.setFldBit (.dma (.IRQ_PEND_PEND (c / 32))) (c % 32)).rd f := by
  unfold Dev.chIrq
  dsimp only
  split <;> simp

theorem kept_endNoted {F : List Fld} {P : List Part} {d e : Dev} (h : Kept F P d e) (c status addr : Nat)
    (hd : .dma (.LL_CNT_DONE c) ∈ F) (hb : 0x80 ≤ status → backBad c ⊆ F) (hi : .irqs ∈ P) : Kept F P d (e.endNoted c status addr) := by
  refine .ite _ (fun hst => ?_) fun _ => h.inc hd
  have hf : ∀ f ∈ backBad c, f ∈ F := hb hst
  exact .event (.logFirst (h.inc (hf _ (by simp [backBad]))) _ (hf _ (by simp [backBad]))
    (fun x hx => hf _ (by simp at hx; obtain rfl | rfl | rfl := hx <;> simp [backBad]))) _ _ (hf _ (by simp [backBad])) hi

section
variable {d : Dev} (c status : Nat) (hm : d.marks = [])

theorem Dev.mayWrite_unfrozen (f : Nat) (h : d.mayWrite f = true) : d.frozen = false := by
  simpa using (Bool.and_eq_true_iff.mp h).2

include hm

theorem Dev.statusStored_kept : Kept [] [.mem, .writeBacks, .out, .hep] d (d.statusStored c status) := by
  unfold Dev.statusStored
  refine .ite _ (fun _ => ?_) fun _ => ?_
  · rw [Dev.clusterPut_byte hm]
    exact kept_stored (.refl d) _ _ _ (by simp) (by simp)
  · exact (d.hostWrite_clean_kept _ _ [BitVec.ofNat 8 status]).mono (by simp) (by simp)

/-- What the write of the STATUS byte leaves holds as long as memory and what has left the device stay. -/
theorem writtenBack_of_statusStored {t : Dev} (hmem : t.mem = (d.statusStored c status).mem) (hmarks : t.marks = d.marks)
    (hout : t.out = (d.statusStored c status).out) (hst : t.rd (.dma (.LL_STATUS_LAST_STATUS c)) = status) : WrittenBack d t c status := by
  refine ⟨hst, ?_⟩
  unfold Dev.statusStored at hmem hout
  split
  · next hc =>
    rw [if_pos hc, Dev.clusterPut_byte hm] at hmem hout
    refine ⟨?_, hout⟩
    rw [Dev.clusterGet_byte (hmarks.trans hm), hmem, clusterAddr_eq]
    have hget := Mem.get_write_inside [BitVec.ofNat 8 status] d.mem (64 * clusterLine (((d.llCur c).2 + 19) % 0x200000 / 64) +
      ((d.llCur c).2 + 19) % 0x200000 % 64) 0 (by simp)
    rw [Dev.mem_stored]
    exact congrArg (fun b => [(b, false)]) hget
  · next hc =>
    rw [if_neg hc, Dev.hostWrite_byte] at hmem hout
    refine ⟨hout.trans ?_, hmem.trans ?_⟩
    · rw [Dev.hostOut, Dev.count_out, Dev.count_out]
      rfl
    · rw [Dev.hostOut, Dev.count_mem, Dev.count_mem]
      rfl

end

/-! ### The end of a descriptor -/

/-- The device once a channel's descriptor has been written back and the channel has none. -/
def Dev.backed (d : Dev) (c status : Nat) (x : Desc) : Dev := (d.llBack c status x).modLl c (fun _ => {})

section
variable {d : Dev} (c : Fin 96) (status : Nat) (x : Desc) (hm : d.marks = [])
include hm

omit hm in
/-- All that follows the write of the STATUS byte. -/
theorem Dev.backed_kept {F : List Fld} (hF : backRegs c ⊆ F) (hb : 0x80 ≤ status → backBad c ⊆ F) :
    Kept F [.dma, .irqs] (d.statusStored c status) (d.backed c status x) := by
  have hf : ∀ f ∈ backRegs c, f ∈ F := hF
  have hn : Kept F [.dma, .irqs] (d.statusStored c status)
      (((d.statusStored c status).wr (.dma (.LL_STATUS_LAST_STATUS c)) status).endNoted c status (d.llCur c).2) :=
    kept_endNoted (.wr (.refl _) _ (hf _ (by simp [backRegs]))) _ _ _ (hf _ (by simp [backRegs])) hb (by simp)
  rw [Dev.backed, Dev.llBack_eq]
  exact .modLl (.ite _ (fun _ => kept_chIrq hn _ (hf _ (by simp [backRegs])) (by simp)) fun _ => hn) _ _ (by simp)

theorem Dev.rd_statusStored (f : Fld) (hc : isCount f = false) : (d.statusStored c status).rd f = d.rd f :=
  (Dev.statusStored_kept c status hm).rd (by simp) hc

omit hm in
/-- A register after the write-back of a descriptor: a bit of DMA_IRQ_PEND follows the descriptor, the rest is the end's record. -/
theorem Dev.rd_backed (f : Fld) : (d.backed c status x).rd f =
    if x.irq = true ∧ f = .dma (.IRQ_PEND_PEND (c / 32)) then
      setBit ((((d.statusStored c status).wr (.dma (.LL_STATUS_LAST_STATUS c)) status).endNoted c status (d.llCur c).2).rd f) (c % 32) % 2 ^ 32
    else (((d.statusStored c status).wr (.dma (.LL_STATUS_LAST_STATUS c)) status).endNoted c status (d.llCur c).2).rd f := by
  have hrd : (d.backed c status x).rd f = (d.llBack c status x).rd f := rfl
  rw [hrd, Dev.llBack_eq]
  by_cases hx : x.irq = true
  · rw [if_pos hx, Dev.rd_chIrq, Dev.setFldBit, Dev.rd_wr]
    by_cases hf : f = .dma (.IRQ_PEND_PEND (c / 32))
    · subst hf
      rw [if_pos rfl, if_pos ⟨hx, rfl⟩]
      rfl
    · rw [if_neg hf, if_neg fun h => hf h.2]
  · rw [if_neg hx, if_neg fun h => hx h.1]

omit hm in
theorem Dev.rd_endNoted_good (addr : Nat) (h : status < 0x80) (f : Fld) : (d.endNoted c status addr).rd f = (d.inc (.dma (.LL_CNT_DONE c))).rd f := by
  rw [Dev.endNoted, if_neg (by omega)]

omit hm in
theorem Dev.rd_endNoted_bad (addr : Nat) (h : 0x80 ≤ status) (f : Fld) (hf : f ∉ [Fld.dma .ERR_LOG_VALID, Fld.dma .ERR_LOG_CHANNEL,
    Fld.dma .ERR_LOG_STATUS, Fld.dma .ERR_ADDR_ADDR, Fld.dma .STATUS_CH_ERR]) (hc : isCount f = false) :
    (d.endNoted c status addr).rd f = (d.inc (.dma (.LL_CNT_BAD c))).rd f := by
  have hk : Kept [.dma .ERR_LOG_VALID, .dma .ERR_LOG_CHANNEL, .dma .ERR_LOG_STATUS, .dma .ERR_ADDR_ADDR, .dma .STATUS_CH_ERR] [.irqs]
      (d.inc (.dma (.LL_CNT_BAD c))) (((d.inc (.dma (.LL_CNT_BAD c))).dmaLog c status addr).dmaEvent .STATUS_CH_ERR) :=
    .event (.logFirst (.refl _) _ (by simp) (by simp)) _ _ (by simp) (by simp)
  rw [Dev.endNoted, if_pos h]
  exact hk.rd hf hc

end

section
variable (hs : s.held = false)
include hs

theorem effect_llStopComplete_none (h3 : s.dev.llState c = 3) (hr : (s.dev.ll c).reading = false) (hx : (s.dev.ll c).x = none) :
    Effect (.llStopComplete c) s [.dma (.LL_STATUS_STATE c)] [] (fun t => t.llState c = 0) := by
  refine .run (x := execLlStopComplete c s) rfl rfl hs ?_
  simp only [h3, hr, hx, ne_eq, not_true_eq_false, Bool.false_eq_true, or_self, if_false]
  exact ⟨.wr (.refl _) _ (by simp), by simp [Dev.llState]⟩

variable (v : Xfer) (hx : (s.dev.ll c).x = some v) (hm : s.dev.marks = []) (hw : s.dev.llMayWrite c = true)
include hx hm hw

/-- A stopping channel whose descriptor is unfinished writes it back BAD_STOPPED (R335). -/
theorem effect_llStopComplete (h3 : s.dev.llState c = 3) (hr : (s.dev.ll c).reading = false) (hb : v.bursts = []) (hf : v.flushAsked = false)
    (ho : v.over = false) :
    Effect (.llStopComplete c) s (.dma (.LL_STATUS_STATE c) :: backRegs c ++ backBad c)
      [.dma, .mem, .marks, .writeBacks, .out, .hep, .irqs] (fun t => t.llState c = 0 ∧ WrittenBack s.dev t c 0x83 ∧ t.ll c = {} ∧
        Counts s.dev t (.dma (.LL_CNT_BAD c))) := by
  have hexec : exec (.llStopComplete c) s = .next { s with
      dev := ((s.dev.backed c 0x83 v.desc).vatFree (v.waiting.flatMap (·.lines))).wr (.dma (.LL_STATUS_STATE c)) 0 } := by
    show execLlStopComplete c s = _
    rw [execLlStopComplete, State.run_live s _ hs]
    simp only [h3, hr, hx, hb, hf, ho, hw]
    rfl
  have hk := Dev.backed_kept (d := s.dev) c 0x83 v.desc 
    (F := .dma (.LL_STATUS_STATE c) :: backRegs c ++ backBad c) (by simp) (by simp)
  have hrd := Dev.rd_backed (d := s.dev) c 0x83 v.desc
  have hst := fun f => Dev.rd_statusStored (d := s.dev) c 0x83 hm f
  have hmem := hk.same (x := .mem) (by simp)
  have hmarks := hk.same (x := .marks) (by simp)
  have hout := hk.same (x := .out) (by simp)
  have hsm := (Dev.statusStored_kept (d := s.dev) c 0x83 hm).same (x := .marks) (by simp)
  have hll : (s.dev.backed c 0x83 v.desc).ll c = {} := (Dev.ll_modLl _ c c _).trans (if_pos ⟨rfl, c.isLt⟩)
  have hbad : (s.dev.backed c 0x83 v.desc).rd (.dma (.LL_CNT_BAD c)) =
      min (s.dev.rd (.dma (.LL_CNT_BAD c)) + 1) (2 ^ (Fld.dma (.LL_CNT_BAD c)).width - 1) := by
    rw [hrd, if_neg (by simp), Dev.rd_endNoted_bad c 0x83 _ (by simp) _ (by simp) rfl]
    simp [hst (.dma (.LL_CNT_BAD c)) rfl]
  have hlast : (s.dev.backed c 0x83 v.desc).rd (.dma (.LL_STATUS_LAST_STATUS c)) = 0x83 := by
    rw [hrd, if_neg (by simp), Dev.rd_endNoted_bad c 0x83 _ (by simp) _ (by simp) rfl]
    simp
  refine .of_next hexec
    (.wr (.withDma (((Dev.statusStored_kept c 0x83 hm).mono (by simp) (by simp)).trans (hk.mono (by simp) (by simp))) _ (by simp)) _ (by simp))
    ⟨by simp [Dev.llState], writtenBack_of_statusStored c 0x83 hm hmem (hsm.trans hmarks) hout ?_, hll, ?_⟩
  · exact (Dev.rd_wr _ _ _ _).trans ((if_neg (by simp)).trans hlast)
  · exact (Dev.rd_wr _ _ _ _).trans ((if_neg (by simp)).trans hbad)

/-- A transfer that is over ends its descriptor, and the channel goes on or is IDLE (R336). -/
theorem effect_llDescriptorEnd (h1 : s.dev.llState c = 1) (ho : v.over = true) (hb : v.bad = none) :
    Effect (.llDescriptorEnd c) s (([.dma (.LL_STATUS_STATE c), .dma (.LL_CUR_ADDR c)] : List Fld) ++ backRegs c)
      [.dma, .mem, .marks, .writeBacks, .out, .hep, .irqs] (fun t =>
        WrittenBack s.dev t c (if v.poisoned then 2 else 1) ∧ t.ll c = {} ∧ Counts s.dev t (.dma (.LL_CNT_DONE c)) ∧
        t.llState c = (if v.desc.last then 0 else 1) ∧
        t.rd (.dma (.LL_CUR_ADDR c)) = (if v.desc.last then s.dev.rd (.dma (.LL_CUR_ADDR c))
          else (v.desc.next / 32 * 32 + b2n v.desc.nextOnchip) % 2 ^ 64) ∧
        t.rd (.dma (.IRQ_PEND_PEND (c / 32))) = (if v.desc.irq then setBit (s.dev.rd (.dma (.IRQ_PEND_PEND (c / 32)))) (c % 32)
          else s.dev.rd (.dma (.IRQ_PEND_PEND (c / 32))))) := by
  set st := if v.poisoned then 2 else 1 with hst
  have hstatus : v.status = st := by rw [Xfer.status, hb]
  have hgood : st < 0x80 := by rw [hst]; split <;> decide
  set b := s.dev.backed c st v.desc with hbk
  have hexec : exec (.llDescriptorEnd c) s = .next { s with
      dev := if v.desc.last then b.wr (.dma (.LL_STATUS_STATE c)) 0
        else b.wr (.dma (.LL_CUR_ADDR c)) (v.desc.next / 32 * 32 + b2n v.desc.nextOnchip) } := by
    show execLlDescriptorEnd c s = _
    rw [execLlDescriptorEnd, State.run_live s _ hs]
    simp only [h1, hx, ho, hw, hstatus]
    rfl
  have hk : Kept (([.dma (.LL_STATUS_STATE c), .dma (.LL_CUR_ADDR c)] : List Fld) ++ backRegs c) [.dma, .irqs] (s.dev.statusStored c st) b :=
    Dev.backed_kept c st v.desc (by simp) fun h => absurd h (by omega)
  have hs0 := Dev.statusStored_kept (d := s.dev) c st hm
  have hrd : ∀ f, isCount f = false → f ≠ .dma (.LL_STATUS_LAST_STATUS c) → f ≠ .dma (.LL_CNT_DONE c) →
      b.rd f = if v.desc.irq = true ∧ f = .dma (.IRQ_PEND_PEND (c / 32)) then setBit (s.dev.rd f) (c % 32) % 2 ^ 32 else s.dev.rd f :=
    fun f hc hl hd => by
      rw [hbk, Dev.rd_backed, Dev.rd_endNoted_good c st _ hgood, Dev.rd_inc, if_neg hd, Dev.rd_wr, if_neg hl, Dev.rd_statusStored c st hm f hc]
  have hlast : b.rd (.dma (.LL_STATUS_LAST_STATUS c)) = st := by
    rw [hbk, Dev.rd_backed, if_neg (by simp), Dev.rd_endNoted_good c st _ hgood, Dev.rd_inc, if_neg (by simp), Dev.rd_wr, if_pos rfl]
    exact Nat.mod_eq_of_lt (by rw [llLastStatus_width]; omega)
  have hdone : Counts s.dev b (.dma (.LL_CNT_DONE c)) := by
    rw [Counts, hbk, Dev.rd_backed, if_neg (by simp), Dev.rd_endNoted_good c st _ hgood, Dev.rd_inc, if_pos rfl, Dev.rd_wr, if_neg (by simp),
      Dev.rd_statusStored c st hm _ rfl]
  have hll : b.ll c = {} := (Dev.ll_modLl _ c c _).trans (if_pos ⟨rfl, c.isLt⟩)
  have hirq : b.rd (.dma (.IRQ_PEND_PEND (c / 32))) = if v.desc.irq then setBit (s.dev.rd (.dma (.IRQ_PEND_PEND (c / 32)))) (c % 32)
      else s.dev.rd (.dma (.IRQ_PEND_PEND (c / 32))) := by
    rw [hrd _ rfl (by simp) (by simp)]
    exact if_congr (by simp) (Nat.mod_eq_of_lt (setBit_lt (s.dev.rd_lt _) (Nat.mod_lt _ (by decide)))) rfl
  have hcur : b.rd (.dma (.LL_CUR_ADDR c)) = s.dev.rd (.dma (.LL_CUR_ADDR c)) := by simpa using hrd (.dma (.LL_CUR_ADDR c)) rfl (by simp) (by simp)
  have hstate : b.rd (.dma (.LL_STATUS_STATE c)) = 1 := by
    have h := hrd (.dma (.LL_STATUS_STATE c)) rfl (by simp) (by simp)
    rw [if_neg (by simp)] at h
    exact h.trans h1
  have hback : ∀ f n, f ≠ .dma (.LL_STATUS_LAST_STATUS c) → WrittenBack s.dev (b.wr f n) c st := fun f n hf =>
    writtenBack_of_statusStored c st hm (hk.same (x := .mem) (by simp))
      ((hs0.same (x := .marks) (by simp)).trans (hk.same (x := .marks) (by simp))) (hk.same (x := .out) (by simp))
      (((Dev.rd_wr _ _ _ _).trans (if_neg hf.symm)).trans hlast)
  have hkept := (hs0.mono (F' := ([.dma (.LL_STATUS_STATE c), .dma (.LL_CUR_ADDR c)] : List Fld) ++ backRegs c)
    (P' := [.dma, .mem, .marks, .writeBacks, .out, .hep, .irqs]) (by simp) (by simp)).trans (hk.mono (by simp) (by simp))
  cases hl : v.desc.last
  · simp only [hl, Bool.false_eq_true, if_false] at hexec ⊢
    exact .of_next hexec (hkept.wr _ (by simp)) ⟨hback _ _ (by simp), hll, by simpa [Counts] using hdone, by simpa [Dev.llState] using hstate,
      by simp, by simpa using hirq⟩
  · simp only [hl, if_true] at hexec ⊢
    exact .of_next hexec (hkept.wr _ (by simp)) ⟨hback _ _ (by simp), hll, by simpa [Counts] using hdone, by simp [Dev.llState],
      by simpa using hcur, by simpa using hirq⟩

end

end

/-- Settles O26: each command of a linked-list channel by its own lemma. -/
theorem linkedListChannels : Obligations.LinkedListChannels := by
  intro s c hs
  refine ⟨fun ha => ⟨effect_llStart s c ⟨hs, ha⟩, effect_llStart_refused s c ⟨hs, ha⟩, effect_llStop s c ⟨hs, ha⟩,
    effect_llStop_refused s c ⟨hs, ha⟩, effect_llKick_parked s c ⟨hs, ha⟩, effect_llKick_pending s c ⟨hs, ha⟩⟩,
    effect_llStopComplete_none s c hs, fun v hx hm hw => ⟨effect_llStopComplete s c hs v hx hm hw, effect_llDescriptorEnd s c hs v hx hm hw⟩⟩

end Sys2Proof.Machine
end

section
-- The theorems are elaborated in order, which keeps the memory that a check of the whole text takes within its limit.
set_option Elab.async false

/-! SUPPORT.  TAKE, TXCQ, TXCAN and CANCEL: their effects, clause by clause, and the statement they settle (R153, R195, R207, R232, R236). -/

namespace Sys2Proof.Claims

open Sys2Proof.Machine Sys2Proof.Safety

/-- A change of listed parts beside the engines, by a device that keeps the rest. -/
theorem OnlyEngine.kept {d t u : Dev} {e : Nat} {l : List Part} (h : OnlyEngine d t e l) (k : Kept [] l t u) (hx : u.engines = t.engines) :
    OnlyEngine d u e l := by
  obtain ⟨hother, hk⟩ := h
  refine ⟨fun x hne => ?_, Kept.trans hk (k.mono (by simp) fun p hp => by simp [hp])⟩
  rw [← hother x hne, Dev.engine, Dev.engine, hx]

theorem OnlyEngine.mono {d t : Dev} {e : Nat} {l l' : List Part} (h : OnlyEngine d t e l) (hl : l ⊆ l') : OnlyEngine d t e l' := by
  obtain ⟨hx, hk⟩ := h
  exact ⟨hx, Kept.mono hk (by simp) fun p hp => by
    obtain h | h | h := by simpa using hp
    · simp [h]
    · simp [h]
    · simp [hl h]⟩

end Sys2Proof.Claims

namespace Sys2Proof.Machine

open Sys2Proof.Safety Sys2Proof.Claims

section
variable {s : State} {e : Fin 16} {rd a : Fin 32} (hs : s.held = false)
include hs

/-! ### TAKE -/

section
variable (hr : Ready s.dev e (.take rd)) (hf : (s.dev.engine e).fr = none)
include hr hf

omit hs hr hf in
theorem Dev.takeable_issuing (d : Dev) (e : Fin 16) (k : Nat) : (d.issuing e k).takeable e = d.takeable e := by
  have hst : (d.issuing e k).engState e = d.engState e := rfl
  have hcls : ((d.issuing e k).engine e).cls = (d.engine e).cls := by simp
  simp only [Dev.takeable, hst, hcls]
  rfl

theorem completes_take_none (ht : s.dev.takeable e = none) :
    Completes (.take e rd false) s (fun t => WritesReg s.dev t e rd (0, false) ∧ NextPc s.dev t e ∧ OnlyEngine s.dev t e) := by
  refine computes_of_doOp (c := .take e rd false) rfl (fun k => ?_) hs hr
  have hfr : ((s.dev.issuing e k).engine e).fr = none := by simp [hf]
  show (s.dev.issuing e k).takeFrame e rd = _
  rw [Dev.takeFrame, hfr, Dev.takeable_issuing, ht]
  rfl

/-- The device with a frame taken out of its class queue. -/
def Dev.unqueued (d : Dev) (uid : Nat) : Dev := { d with classq := d.classq.filter (fun x => x.frame.uid ≠ uid) }

omit hs hr hf in
@[simp] theorem Dev.engine_unqueued (d : Dev) (uid x : Nat) : (d.unqueued uid).engine x = d.engine x := rfl

/-- The device with frame `q` taken from its class queue and opened by engine `e`. -/
def Dev.taken (d : Dev) (e : Nat) (q : QFrame) : Dev :=
  (d.unqueued q.frame.uid).modEngine e (fun g => { g with fr := some (.ofFrame q.frame) })

theorem completes_take (q : QFrame) (ht : s.dev.takeable e = some q)
    (hq : s.dev.classq.find? (fun x => x.frame.uid = q.frame.uid) = some q) (hst : q.frame.staged = false)
    (hb : q.frame.info.result / 2 ^ 9 % 2 = 0) :
    Completes (.take e rd false) s (fun t => WritesReg s.dev t e rd (1, false) ∧ NextPc s.dev t e ∧
      (t.engine e).fr = some (OpenF.ofFrame q.frame) ∧ t.classq = s.dev.classq.filter (fun x => x.frame.uid ≠ q.frame.uid) ∧
      OnlyEngine s.dev t e [.classq]) := by
  refine completes_of_doOp (op := .take rd) rfl hs hr fun k t h => ?_
  have hfr : ((s.dev.issuing e k).engine e).fr = none := by simp [hf]
  have hbit : bitAt q.frame.info.result 9 = false := by simpa [bitAt] using hb
  have hop : (s.dev.issuing e k).doOp e (.take rd) = (((s.dev.issuing e k).taken e q).setWreg e rd (1, false)).advance e := by
    show (s.dev.issuing e k).takeFrame e rd = _
    rw [Dev.takeFrame, hfr, Dev.takeable_issuing, ht]
    simp only [Option.isSome_none, Bool.false_eq_true, if_false, hst]
    rw [show (s.dev.issuing e k).classq = s.dev.classq from rfl, hq]
    simp only [hst, hbit, Bool.false_eq_true, if_false, false_and]
    rfl
  rw [hop] at h
  have hq0 : Kept [] [.classq] (s.dev.issuing e k) ((s.dev.issuing e k).unqueued q.frame.uid) :=
    .withClassq (.refl _) ((s.dev.issuing e k).unqueued q.frame.uid).classq (by simp)
  have honly : OnlyEngine s.dev ((s.dev.issuing e k).taken e q) e [.classq] :=
    (((s.dev.onlyEngine_issuing e k).mono (List.nil_subset _)).kept hq0 rfl).modEngine _
  have hclassq : t.classq = s.dev.classq.filter (fun x => x.frame.uid ≠ q.frame.uid) := by
    obtain ⟨r, m, n, rfl, -⟩ := h
    rfl
  refine ⟨fun i => ?_, ?_, ?_, hclassq, ((honly.setWreg _ _).advance).aside h⟩
  · have hw : ((s.dev.issuing e k).taken e q).wreg e i = s.dev.wreg e i :=
      (Dev.wreg_modEngine _ e e i (f := fun g => { g with fr := some (.ofFrame q.frame) }) fun _ => rfl).trans (s.dev.wreg_issuing e k e i)
    simp [h.wreg, hw]
  · simp [NextPc, h.engine, Dev.advance, Dev.setWreg, Dev.taken]
  · simp [h.engine, Dev.advance, Dev.setWreg, Dev.taken]

end

/-! ### TXCQ -/

omit hs in
theorem computes_txcq_empty (ht : s.dev.txc.getD (e.val / 2) [] = []) :
    Computes (.txcq e rd false) s e (.txcq rd) rd (BitVec.allOnes 64, false) := by
  refine computes_of_doOp rfl fun k => ?_
  show (s.dev.issuing e k).doTxcq e rd = _
  rw [Dev.doTxcq, show (s.dev.issuing e k).txc.getD (pairOf e) [] = [] from ht]
  rfl

theorem completes_txcq (hr : Ready s.dev e (.txcq rd)) (r : Nat) (rs : List Nat) (ht : s.dev.txc.getD (e.val / 2) [] = r :: rs) :
    Completes (.txcq e rd false) s (fun t => WritesReg s.dev t e rd (BitVec.ofNat 64 r, false) ∧ NextPc s.dev t e ∧
      t.txc.getD (e.val / 2) [] = rs ∧ OnlyEngine s.dev t e [.txc]) := by
  refine completes_of_doOp (op := .txcq rd) rfl hs hr fun k t h => ?_
  have hop : (s.dev.issuing e k).doOp e (.txcq rd) =
      ((({ s.dev.issuing e k with txc := bankAt 8 [] s.dev.txc (pairOf e) (fun _ => rs) } : Dev).setWreg e rd
        (resC (BitVec.ofNat 64 r))).advance e) := by
    show (s.dev.issuing e k).doTxcq e rd = _
    rw [Dev.doTxcq, show (s.dev.issuing e k).txc.getD (pairOf e) [] = r :: rs from ht]
    rfl
  rw [hop] at h
  have honly : OnlyEngine s.dev ({ s.dev.issuing e k with txc := bankAt 8 [] s.dev.txc (pairOf e) (fun _ => rs) } : Dev) e [.txc] :=
    ((s.dev.onlyEngine_issuing e k).mono (List.nil_subset _)).kept (.withTxc (.refl _) (bankAt 8 [] s.dev.txc (pairOf e) (fun _ => rs)) (by simp)) rfl
  have htxc : t.txc = bankAt 8 [] s.dev.txc (pairOf e) (fun _ => rs) := by
    obtain ⟨_, _, _, rfl, -⟩ := h
    rfl
  refine ⟨fun i => ?_, ?_, ?_, ((honly.setWreg _ _).advance).aside h⟩
  · have hw : ({ s.dev.issuing e k with txc := bankAt 8 [] s.dev.txc (pairOf e) (fun _ => rs) } : Dev).wreg e i = s.dev.wreg e i :=
      s.dev.wreg_issuing e k e i
    simp [h.wreg, hw, resC, flagC]
  · have hpc : (({ s.dev.issuing e k with txc := bankAt 8 [] s.dev.txc (pairOf e) (fun _ => rs) } : Dev).engine e).pc = (s.dev.engine e).pc :=
      s.dev.pc_issuing e k e
    simp [NextPc, h.engine, Dev.advance, Dev.setWreg, hpc]
  · have he : pairOf e < 8 := by rw [pairOf]; omega
    rw [htxc, getD_bankAt, if_pos ⟨rfl, he⟩]

/-! ### TXCAN and CANCEL -/

/-- An instruction that launches a request and goes on: the registers stay, and parts `l` are as the request leaves them. -/
theorem completes_launch {c : Sys2Proof.Instr} {op : Op} {l : List Part} {f : Dev → Dev} {post : Dev → Prop}
    (hx : exec c s = s.run (fun d => d.issue e false op)) (hr : Ready s.dev e op)
    (hop : ∀ k, (s.dev.issuing e k).doOp e op = (f (s.dev.issuing e k)).advance e) (hf : ∀ d, Kept [] l d (f d))
    (he : ∀ d, (f d).engines = d.engines) (hpost : ∀ k t, Aside ((f (s.dev.issuing e k)).advance e) t → post t) :
    Completes c s (fun t => post t ∧ NextPc s.dev t e ∧ (∀ i, t.wreg e i = s.dev.wreg e i) ∧ OnlyEngine s.dev t e l) := by
  refine completes_of_doOp hx hs hr fun k t h => ?_
  rw [hop] at h
  have hengine : (f (s.dev.issuing e k)).engine e = (s.dev.issuing e k).engine e := by rw [Dev.engine, he, Dev.engine]
  have honly : OnlyEngine s.dev (f (s.dev.issuing e k)) e l := ((s.dev.onlyEngine_issuing e k).mono (List.nil_subset _)).kept (hf _) (he _)
  refine ⟨hpost k t h, ?_, fun i => ?_, honly.advance.aside h⟩
  · simp [NextPc, h.engine, Dev.advance, hengine]
  · rw [h.wreg, Dev.wreg_advance, Dev.wreg, hengine]
    exact s.dev.wreg_issuing e k e i

theorem completes_txcan (hr : Ready s.dev e (.txcan a)) (hc : (s.dev.wreg e a).2 = false) (p : Nat)
    (hp : p = (s.dev.wreg e a).1.toNat / 2 ^ 16 % 4) :
    Completes (.txcan e a false) s (fun t =>
      (t.port p).cancels = (s.dev.port p).cancels ++ [(s.dev.wreg e a).1.toNat % 65536] ∧ NextPc s.dev t e ∧
      (∀ i, t.wreg e i = s.dev.wreg e i) ∧ OnlyEngine s.dev t e [.ports]) := by
  have hp4 : p < 4 := hp ▸ Nat.mod_lt _ (by decide)
  refine completes_launch (op := .txcan a) hs (f := fun d => d.modPort p fun x => { x with cancels := x.cancels ++ [(s.dev.wreg e a).1.toNat % 65536] })
    rfl hr (fun k => ?_) (fun d => .modPort (.refl d) _ _ (by simp)) (fun d => rfl) fun k t h => ?_
  · show (s.dev.issuing e k).doTxcan e a = _
    rw [Dev.doTxcan, Dev.wreg_issuing, hp]
    simp only [hc, Bool.false_eq_true, if_false]
    rfl
  · obtain ⟨_, _, _, rfl, -⟩ := h
    exact (congrArg Port.cancels (Dev.port_modPort _ p p _)).trans (by rw [if_pos ⟨rfl, hp4⟩]; rfl)

theorem completes_cancel (hr : Ready s.dev e (.cancel a)) (hc : (s.dev.wreg e a).2 = false) :
    Completes (.cancel e a false) s (fun t =>
      t.tick.cancels = s.dev.tick.cancels ++ [(s.dev.wreg e a).1.toNat % 64] ∧ NextPc s.dev t e ∧
      (∀ i, t.wreg e i = s.dev.wreg e i) ∧ OnlyEngine s.dev t e [.tick]) := by
  refine completes_launch (op := .cancel a) hs
    (f := fun d => { d with tick := { d.tick with cancels := d.tick.cancels ++ [(s.dev.wreg e a).1.toNat % 64] } })
    rfl hr (fun k => ?_) (fun d => .withTick (.refl d) _ (by simp)) (fun d => rfl) fun k t h => ?_
  · show (s.dev.issuing e k).doCancel e a = _
    rw [Dev.doCancel, Dev.wreg_issuing]
    simp only [hc, Bool.false_eq_true, if_false]
  · rw [h.tick]
    rfl

end

/-- Settles O6: each instruction of the queues by its own lemma. -/
theorem queueInstructions : Obligations.QueueInstructions := by
  intro s e rd a hs
  exact ⟨fun hr hf => ⟨completes_take_none hs hr hf, completes_take hs hr hf⟩,
    fun hr => ⟨fun ht => computes_txcq_empty ht, completes_txcq hs hr⟩, completes_txcan hs, completes_cancel hs⟩

end Sys2Proof.Machine
end

section
-- The theorems are elaborated in order, which keeps the memory that a check of the whole text takes within its limit.
set_option Elab.async false

/-! SUPPORT.  Loads, stores, atomics and the store buffer: their effects, clause by clause, and the statements they settle (R189, R208 to R210,
R226, R228). -/

namespace Sys2Proof.Machine

open Sys2Proof.Safety Sys2Proof.Claims

/-! ### Bytes of memory -/

theorem Dev.peek_succ (d : Dev) (a n : Nat) : d.peek a (n + 1) = Mem.get d.mem a :: d.peek (a + 1) n := by
  simp [Dev.peek, List.range_succ_eq_map, Function.comp_def, Nat.add_assoc, Nat.add_comm 1]

@[simp] theorem Dev.length_peek (d : Dev) (a n : Nat) : (d.peek a n).length = n := by simp [Dev.peek]

theorem ofLe_peek (d : Dev) (a n : Nat) : ofLe (d.peek a n) = memValue d a n := by
  induction n generalizing a with
  | zero => rfl
  | succ n ih => rw [Dev.peek_succ, ofLe, ih, memValue]

/-- What memory spells is a matter of memory alone. -/
theorem memValue_congr {d t : Dev} (h : t.mem = d.mem) (a n : Nat) : memValue t a n = memValue d a n := by
  rw [← ofLe_peek, ← ofLe_peek, Dev.peek, Dev.peek, h]

/-- Bytes written spell what they are. -/
theorem memValue_write {d t : Dev} {a : Nat} {bs : List Byte} (h : t.mem = Mem.write d.mem a bs) : memValue t a bs.length = ofLe bs := by
  have hpeek : t.peek a bs.length = bs := by
    refine List.ext_getElem (by simp) fun i hi hb => ?_
    have hget := Mem.get_write_inside bs d.mem a i hb
    simp only [Dev.peek, List.getElem_map, List.getElem_range, h, hget, List.getD_eq_getElem _ _ hb]
  rw [← ofLe_peek, hpeek]

/-- Bytes of a line as stored. -/
theorem Dev.getD_rawLine (d : Dev) (l i : Nat) (h : i < 64) : (d.rawLine l).getD i 0 = Mem.get d.mem (64 * l + i) := by
  simp [Dev.rawLine, Dev.peek, h]

theorem Dev.sliceB_rawLine (d : Dev) (l o n : Nat) (h : o + n ≤ 64) : sliceB (d.rawLine l) o n = d.peek (64 * l + o) n := by
  refine List.ext_getElem (by simp) fun i hi hb => ?_
  rw [Dev.length_peek] at hb
  have hget := d.getD_rawLine l (o + i) (by omega)
  simp [sliceB, Dev.peek, Nat.add_assoc] at hget ⊢
  exact hget

/-! ### Marks -/

theorem Dev.mark_setMark (d : Dev) (l : Nat) (m : Mark) : (d.setMark l m).mark l = m := by
  have hnone : (d.marks.filter (fun e => e.1 ≠ l)).find? (fun x => x.1 = l) = none := by
    simp [List.find?_eq_none]
  unfold Dev.setMark Dev.mark
  dsimp only
  split_ifs with h
  · rw [hnone, h]
  · rw [List.find?_append, hnone]
    simp

/-- The device after bytes have been stored in a line that was clean; poisoned bytes poison it (R30). -/
def Dev.lineStored (d : Dev) (l off : Nat) (bs : List Byte) (poison : Bool) : Dev :=
  { (d.store (64 * l + off) bs).setMark l { Mark.clean with code := if poison then 3 else 0 } with
    writeBacks := d.writeBacks.filter (fun x => x ≠ l) }

theorem Dev.writePart_of_mark {d : Dev} {l : Nat} (h : d.mark l = .clean) (off : Nat) (bs : List Byte) (poison : Bool) :
    d.writePart l off bs poison = d.lineStored l off bs poison := by
  rw [Dev.writePart, Dev.readLine_of_mark h]
  cases poison <;> rfl

@[simp] theorem Dev.mem_lineStored (d : Dev) (l off : Nat) (bs : List Byte) (p : Bool) :
    (d.lineStored l off bs p).mem = Mem.write d.mem (64 * l + off) bs := rfl

theorem Dev.mark_lineStored (d : Dev) (l off : Nat) (bs : List Byte) (p : Bool) :
    (d.lineStored l off bs p).mark l = { Mark.clean with code := if p then 3 else 0 } := Dev.mark_setMark (d.store _ _) l _

theorem kept_lineStored {F : List Fld} {P : List Part} {d e : Dev} (h : Kept F P d e) (l off : Nat) (bs : List Byte) (p : Bool)
    (hm : .mem ∈ P) (hk : .marks ∈ P) (hw : .writeBacks ∈ P) : Kept F P d (e.lineStored l off bs p) :=
  ((h.withMem (e.lineStored l off bs p).mem hm).withMarks (e.lineStored l off bs p).marks hk).withWriteBacks
    (e.lineStored l off bs p).writeBacks hw

@[simp] theorem Dev.engine_lineStored (d : Dev) (l off : Nat) (bs : List Byte) (p : Bool) (x : Nat) :
    (d.lineStored l off bs p).engine x = d.engine x := rfl

@[simp] theorem Dev.wreg_lineStored (d : Dev) (l off : Nat) (bs : List Byte) (p : Bool) (x : Nat) (i : Fin 32) :
    (d.lineStored l off bs p).wreg x i = d.wreg x i := rfl

/-! ### Places -/

/-- An aligned access that begins below the end of an aligned region lies in it. -/
theorem add_le_of_dvd {n m x : Nat} (hm : n ∣ m) (hx : n ∣ x) (h : x < m) : x + n ≤ m := by
  have := Nat.le_of_dvd (by omega) (Nat.dvd_sub hm hx)
  omega

section
variable {d : Dev} {e x n : Nat} (hn : n ∣ 8) (hx : x % n = 0)
include hn

theorem dvd_ldmSize : n ∣ d.ldmSize e := by
  unfold Dev.ldmSize
  split
  · exact hn.trans ⟨0x4000, rfl⟩
  · exact hn.trans ⟨0x2000, rfl⟩

include hx

theorem Dev.accessFault_local (h : x < d.ldmSize e) (store : Bool) : d.accessFault e x n store = none := by
  have hplace : d.placeOf e x = .local_ x := if_pos h
  have hend : x + n ≤ d.ldmSize e := add_le_of_dvd (dvd_ldmSize hn) (Nat.dvd_of_mod_eq_zero hx) h
  have hb : d.boundsAt e x n = none := by
    rw [Dev.boundsAt, Dev.regionEnd, hplace]
    simpa using hend
  unfold Dev.accessFault
  cases store <;> simp only [hplace, hb, hx] <;> rfl

theorem Dev.boundsAt_cluster (hl : ¬ x < d.ldmSize e) (h : 0x01000000 ≤ x) (h' : x < 0x01200000) :
    d.placeOf e x = .cluster (x - 0x01000000) ∧ d.boundsAt e x n = none := by
  have hplace : d.placeOf e x = .cluster (x - 0x01000000) := by rw [Dev.placeOf, if_neg hl, if_pos ⟨h, h'⟩]
  have hend : x + n ≤ 0x01200000 := add_le_of_dvd (hn.trans ⟨0x240000, rfl⟩) (Nat.dvd_of_mod_eq_zero hx) h'
  refine ⟨hplace, ?_⟩
  rw [Dev.boundsAt, Dev.regionEnd, hplace]
  simpa using hend

theorem Dev.accessFault_cluster (hl : ¬ x < d.ldmSize e) (h : 0x01000000 ≤ x) (h' : x < 0x01200000) (store : Bool) :
    d.accessFault e x n store = none := by
  obtain ⟨hplace, hb⟩ := Dev.boundsAt_cluster (d := d) hn hx hl h h'
  unfold Dev.accessFault
  cases store <;> simp only [hplace, hb, hx] <;> rfl

/-- An aligned place of local memory lies in one line. -/
theorem Dev.ldmAt_fits : (d.ldmAt e x).2 + n ≤ 64 := by
  have h64 : n ∣ 64 := hn.trans ⟨8, rfl⟩
  refine add_le_of_dvd h64 ?_ (Nat.mod_lt _ (by decide))
  refine (Nat.dvd_mod_iff h64).mpr ?_
  split
  · exact Nat.dvd_of_mod_eq_zero hx
  · exact Nat.dvd_add (Nat.dvd_of_mod_eq_zero hx) (((hn.trans ⟨0x2000, rfl⟩ : n ∣ 0x10000)).mul_right _)

theorem cluster_fits : (x - 0x01000000) % 64 + n ≤ 64 := by
  have h64 : n ∣ 64 := hn.trans ⟨8, rfl⟩
  refine add_le_of_dvd h64 ?_ (Nat.mod_lt _ (by decide))
  exact (Nat.dvd_mod_iff h64).mpr (Nat.dvd_sub (Nat.dvd_of_mod_eq_zero hx) (hn.trans ⟨0x200000, rfl⟩))

end

theorem not_lt_ldmSize {d : Dev} {e x : Nat} (h : 0x01000000 ≤ x) : ¬ x < d.ldmSize e := by
  unfold Dev.ldmSize
  split <;> omega

/-! ### Loads -/

section
variable {d : Dev} {e : Nat} {n x : Nat} {a : Fin 32} {imm : BitVec 16} (hn : n ∣ 8) (hb : (d.wreg e a).2 = false)
  (hxe : x = ((d.wreg e a).1 + imm.signExtend 64).toNat) (hx : x % n = 0)
include hn hb hxe hx

omit hn hx in
/-- A load whose bytes are read clean, without a fault. -/
theorem Dev.load_clean {rd : Fin 32} {bs : List Byte} (hf : d.accessFault e x n false = none) (hl : d.loadBytes e x n = (clean bs, d)) :
    d.load e n rd a imm = (d.setWreg e rd (BitVec.ofNat 64 (ofLe bs), false)).advance e := by
  have ha : effAddr (d.wreg e a).1 imm = x := hxe.symm
  have hmap : (clean bs).map (·.1) = bs := by simp [clean, Function.comp_def]
  have hflag : flagBytes (clean bs) = false := by simp [flagBytes, clean]
  rw [Dev.load, if_neg (by simp [hb]), ha]
  dsimp only
  rw [hf]
  dsimp only
  rw [hl]
  dsimp only
  rw [hmap, hflag]

theorem Dev.load_local {rd : Fin 32} (h : x < d.ldmSize e) (hm : d.mark (d.ldmAt e x).1 = .clean) :
    d.load e n rd a imm =
      (d.setWreg e rd (BitVec.ofNat 64 (memValue d (64 * (d.ldmAt e x).1 + (d.ldmAt e x).2) n), false)).advance e := by
  have hplace : d.placeOf e x = .local_ x := if_pos h
  rw [← ofLe_peek]
  refine Dev.load_clean hb hxe (Dev.accessFault_local hn hx h false) ?_
  rw [Dev.loadBytes, hplace]
  dsimp only
  rw [Dev.readLine_of_mark hm, ← Dev.sliceB_rawLine d _ _ n (Dev.ldmAt_fits hn hx)]
  rfl

omit hn hb hxe hx in
theorem Dev.clusterRead_clean {off : Nat} (hsb : (d.engine e).sb = []) (hm : d.mark (clusterLine (off / 64)) = .clean) (hf : off % 64 + n ≤ 64) :
    d.clusterRead e off n = (clean (d.peek (clusterAddr off) n), d) := by
  rw [Dev.clusterRead, Dev.readLine_of_mark hm]
  dsimp only
  rw [hsb, clusterAddr_eq, ← Dev.sliceB_rawLine d _ _ n hf]
  simp [sliceB, clean]

theorem Dev.load_cluster {rd : Fin 32} (h : 0x01000000 ≤ x) (h' : x < 0x01200000) (hsb : (d.engine e).sb = [])
    (hm : d.mark (clusterLine ((x - 0x01000000) / 64)) = .clean) :
    d.load e n rd a imm = (d.setWreg e rd (BitVec.ofNat 64 (memValue d (clusterAddr (x - 0x01000000)) n), false)).advance e := by
  have hl := not_lt_ldmSize (d := d) (e := e) h
  rw [← ofLe_peek]
  refine Dev.load_clean hb hxe (Dev.accessFault_cluster hn hx hl h h' false) ?_
  rw [Dev.loadBytes, (Dev.boundsAt_cluster (d := d) hn hx hl h h').1]
  exact Dev.clusterRead_clean hsb hm (cluster_fits hn hx)

end

/-- A load of any size does what R226 says. -/
theorem loads_of_doOp {c : Sys2Proof.Instr} {s : State} {e : Fin 16} {op : Op} {n : Nat} {rd a : Fin 32} {imm : BitVec 16}
    (hx : exec c s = s.run (fun d => d.issue e false op)) (hop : ∀ d : Dev, d.doOp e op = d.load e n rd a imm) (hn : n ∣ 8) :
    Loads c s e op n rd a imm := by
  intro hs hr hb x hxe hal
  have hbi : ∀ k, ((s.dev.issuing e k).wreg e a).2 = false := fun k => by rw [Dev.wreg_issuing]; exact hb
  have hxi : ∀ k, x = (((s.dev.issuing e k).wreg e a).1 + imm.signExtend 64).toNat := fun k => by rw [Dev.wreg_issuing]; exact hxe
  have hv : ∀ k l, memValue (s.dev.issuing e k) l n = memValue s.dev l n := fun k l =>
    memValue_congr (d := s.dev) (t := s.dev.issuing e k) rfl l n
  refine ⟨fun l hlt hl hm => ?_, fun l h h' hl hm hsb => ?_⟩
  · have hline : l / 64 = (s.dev.ldmAt e x).1 := by
      have := Nat.mod_lt (if s.dev.lockstep (pairOf e) then x else x + 0x10000 * (e % 2)) (show 0 < 64 by decide)
      rw [hl, Dev.ldmAt]
      dsimp only
      omega
    refine computes_of_doOp hx (fun k => ?_) hs hr
    rw [hop, Dev.load_local hn (hbi k) (hxi k) hal hlt (hline ▸ hm), hv, hl]
    rfl
  · have hline : l / 64 = clusterLine ((x - 0x01000000) / 64) := by
      rw [hl, clusterLine, clusterLine]
      omega
    refine computes_of_doOp hx (fun k => ?_) hs hr
    rw [hop, Dev.load_cluster hn (hbi k) (hxi k) hal h h' (by simpa using hsb) (hline ▸ hm), hv, hl]
    rfl

theorem loadResults : LoadResults := fun _ _ _ _ _ =>
  ⟨loads_of_doOp rfl (fun _ => rfl) ⟨8, rfl⟩, loads_of_doOp rfl (fun _ => rfl) ⟨4, rfl⟩, loads_of_doOp rfl (fun _ => rfl) ⟨2, rfl⟩,
    loads_of_doOp rfl (fun _ => rfl) ⟨1, rfl⟩⟩

/-! ### Stores -/

section
variable {d : Dev} {e : Nat} {n x : Nat} {a : Fin 32} {imm : BitVec 16} (hn : n ∣ 8) (hb : (d.wreg e a).2 = false)
  (hxe : x = ((d.wreg e a).1 + imm.signExtend 64).toNat) (hx : x % n = 0)
include hn hb hxe hx

theorem Dev.storeOp_local {b : Fin 32} (h : x < d.ldmSize e) (hm : d.mark (d.ldmAt e x).1 = .clean) :
    d.storeOp e n b a imm =
      (d.lineStored (d.ldmAt e x).1 (d.ldmAt e x).2 (leBytes n (d.wreg e b).1.toNat) (d.wreg e b).2).advance e := by
  have ha : effAddr (d.wreg e a).1 imm = x := hxe.symm
  have hplace : d.placeOf e x = .local_ x := if_pos h
  rw [Dev.storeOp, if_neg (by simp [hb]), ha]
  dsimp only
  rw [Dev.accessFault_local hn hx h true]
  dsimp only
  rw [Dev.storeBytes, hplace]
  dsimp only
  rw [Dev.writePart_of_mark hm]

theorem Dev.storeOp_cluster {b : Fin 32} (h : 0x01000000 ≤ x) (h' : x < 0x01200000) (hsb : (d.engine e).sb.length < 8) :
    d.storeOp e n b a imm = (d.modEngine e (fun g => { g with
      sb := g.sb ++ [{ addr := x - 0x01000000, bytes := leBytes n (d.wreg e b).1.toNat, poison := (d.wreg e b).2 }] })).advance e := by
  have ha : effAddr (d.wreg e a).1 imm = x := hxe.symm
  have hl := not_lt_ldmSize (d := d) (e := e) h
  rw [Dev.storeOp, if_neg (by simp [hb]), ha]
  dsimp only
  rw [Dev.accessFault_cluster hn hx hl h h' true]
  dsimp only
  rw [Dev.storeBytes, (Dev.boundsAt_cluster (d := d) hn hx hl h h').1]
  dsimp only
  rw [Dev.sbPush, if_neg (by omega)]

end

/-- Byte `k` of a register's value. -/
theorem getD_leBytes (n v k : Nat) (h : k < n) : (leBytes n v).getD k 0 = BitVec.ofNat 8 (v / 256 ^ k) := by
  induction n generalizing v k with
  | zero => omega
  | succ n ih =>
    cases k with
    | zero => simp [leBytes]
    | succ k =>
      rw [leBytes, List.getD_cons_succ, ih _ _ (by omega), Nat.pow_succ', Nat.div_div_eq_div_mul]

/-- A store of any size does what R226 says. -/
theorem stores_of_doOp {c : Sys2Proof.Instr} {s : State} {e : Fin 16} {op : Op} {n : Nat} {b a : Fin 32} {imm : BitVec 16}
    (hx : exec c s = s.run (fun d => d.issue e false op)) (hop : ∀ d : Dev, d.doOp e op = d.storeOp e n b a imm) (hn : n ∣ 8) :
    Stores c s e op n b a imm := by
  intro hs hr hb x hxe hal
  have hbi : ∀ k, ((s.dev.issuing e k).wreg e a).2 = false := fun k => by rw [Dev.wreg_issuing]; exact hb
  have hxi : ∀ k, x = (((s.dev.issuing e k).wreg e a).1 + imm.signExtend 64).toNat := fun k => by rw [Dev.wreg_issuing]; exact hxe
  refine ⟨fun l hlt hl hm => ?_, fun h h' hsb => ?_⟩
  · have hline : l / 64 = (s.dev.ldmAt e x).1 := by
      have := Nat.mod_lt (if s.dev.lockstep (pairOf e) then x else x + 0x10000 * (e % 2)) (show 0 < 64 by decide)
      rw [hl, Dev.ldmAt]
      dsimp only
      omega
    refine completes_of_doOp hx hs hr fun k t ht => ?_
    rw [hop, Dev.storeOp_local hn (hbi k) (hxi k) hal hlt (hline ▸ hm), Dev.wreg_issuing] at ht
    have hmem : t.mem = Mem.write s.dev.mem l (leBytes n (s.dev.wreg e b).1.toNat) := ht.mem.trans (by rw [hl]; rfl)
    have hkept : Kept [] [.mem, .marks, .writeBacks] (s.dev.issuing e k) ((s.dev.issuing e k).lineStored ((s.dev.issuing e k).ldmAt e x).1
        ((s.dev.issuing e k).ldmAt e x).2 (leBytes n (s.dev.wreg e b).1.toNat) (s.dev.wreg e b).2) :=
      kept_lineStored (.refl _) _ _ _ _ (by simp) (by simp) (by simp)
    refine ⟨?_, fun i => ?_, fun k hk => ?_, fun k hk => ?_, ?_,
      ((((s.dev.onlyEngine_issuing e _).mono (List.nil_subset _)).kept hkept rfl).advance).aside ht⟩
    · simp [NextPc, ht.engine, Dev.advance]
    · rw [ht.wreg, Dev.wreg_advance, Dev.wreg_lineStored, Dev.wreg_issuing]
    · rw [hmem, Mem.get_write_inside _ _ _ _ (by simpa using hk), getD_leBytes n _ k hk]
      apply BitVec.eq_of_toNat_eq
      simp [Nat.shiftRight_eq_div_pow, Nat.pow_mul]
    · rw [hmem, Mem.get_write_outside _ _ _ _ (by simpa using hk)]
    · have hmark : t.mark (l / 64) = { Mark.clean with code := if (s.dev.wreg e b).2 then 3 else 0 } := by
        rw [hline, Dev.mark, ht.marks]
        exact (Dev.mark_lineStored (s.dev.issuing e k) (s.dev.ldmAt e x).1 (s.dev.ldmAt e x).2 (leBytes n (s.dev.wreg e b).1.toNat)
          (s.dev.wreg e b).2)
      rw [hmark]
  · refine completes_of_doOp hx hs hr fun k t ht => ?_
    rw [hop, Dev.storeOp_cluster hn (hbi k) (hxi k) hal h h' (by simpa using hsb), Dev.wreg_issuing] at ht
    refine ⟨?_, fun i => ?_, ?_, (((s.dev.onlyEngine_issuing e k).modEngine _).advance).aside ht⟩
    · simp [NextPc, ht.engine, Dev.advance]
    · rw [ht.wreg, Dev.wreg_advance, Dev.wreg_modEngine _ _ _ _ (fun _ => by rfl), Dev.wreg_issuing]
    · simp [ht.engine, Dev.advance]

theorem storeEffects : StoreEffects := fun _ _ _ _ _ =>
  ⟨stores_of_doOp rfl (fun _ => rfl) ⟨8, rfl⟩, stores_of_doOp rfl (fun _ => rfl) ⟨4, rfl⟩, stores_of_doOp rfl (fun _ => rfl) ⟨2, rfl⟩,
    stores_of_doOp rfl (fun _ => rfl) ⟨1, rfl⟩⟩

/-- Settles O3: loads and stores of each size are the load and the store of R226. -/
theorem loadsAndStores : Obligations.LoadsAndStores := ⟨loadResults, storeEffects⟩

/-! ### Atomics -/

section
variable {d : Dev} {e : Nat} {x : Nat} {a rd : Fin 32}

/-- What an atomic on a clean word does (R210): `f` of the old word, if any, replaces it. -/
theorem Dev.atomic_clean {f : WReg → Option WReg} (hb : (d.wreg e a).2 = false) (hxe : x = (d.wreg e a).1.toNat) (hx : x % 8 = 0)
    (h : 0x01000000 ≤ x) (h' : x < 0x01200000) (hsb : (d.engine e).sb = [])
    (hm : d.mark (clusterLine ((x - 0x01000000) / 64)) = .clean) {old : BitVec 64}
    (ho : old = BitVec.ofNat 64 (memValue d (clusterAddr (x - 0x01000000)) 8)) :
    d.atomic e rd a f false = ((match f (old, false) with
      | some v => d.lineStored (clusterLine ((x - 0x01000000) / 64)) ((x - 0x01000000) % 64) (leBytes 8 v.1.toNat) v.2
      | none => d).setWreg e rd (old, false)).advance e := by
  have hl := not_lt_ldmSize (d := d) (e := e) h
  obtain ⟨hplace, hbounds⟩ := Dev.boundsAt_cluster (d := d) (e := e) (n := 8) ⟨1, rfl⟩ hx hl h h'
  have hdrain : d.drain e = d := by rw [Dev.drain, hsb, List.foldl_nil]
  have hfit := cluster_fits (n := 8) ⟨1, rfl⟩ hx
  have hread := Dev.clusterRead_clean hsb hm hfit
  have hmap : (clean (d.peek (clusterAddr (x - 0x01000000)) 8)).map (·.1) = d.peek (clusterAddr (x - 0x01000000)) 8 := by
    simp [clean, Function.comp_def]
  have hflag : flagBytes (clean (d.peek (clusterAddr (x - 0x01000000)) 8)) = false := by simp [flagBytes, clean]
  rw [Dev.atomic, if_neg (by simp [hb]), ← hxe]
  dsimp only
  rw [hbounds, hplace]
  dsimp only
  rw [if_neg (not_not_intro hx), hdrain, hread]
  dsimp only
  rw [hmap, hflag, ofLe_peek, ← ho, Bool.or_false]
  cases f (old, false) with
  | none => rfl
  | some v => exact congrArg (fun y => (Dev.setWreg y e rd (old, false)).advance e) (Dev.writePart_of_mark hm _ _ _)

end

/-- An atomic whose function of the old word is `new`, where it stores at all. -/
theorem exchanges_of_doOp {c : Sys2Proof.Instr} {s : State} {e : Fin 16} {op : Op} {rd a b : Fin 32} {new : BitVec 64 → BitVec 64}
    {f : WReg → Option WReg} (hx : exec c s = s.run (fun d => d.issue e false op))
    (hop : (s.dev.wreg e b).2 = false → (s.dev.wreg e rd).2 = false → ∀ k, (s.dev.issuing e k).doOp e op = (s.dev.issuing e k).atomic e rd a f false)
    (hf : (s.dev.wreg e b).2 = false → (s.dev.wreg e rd).2 = false →
      ∀ o, f (o, false) = some (new o, false) ∨ f (o, false) = none ∧ new o = o) :
    Exchanges c s e op rd a b new := by
  intro hs hr ha hb hrd hsb x l hxe hal h h' hl hm
  have hline : l / 64 = clusterLine ((x - 0x01000000) / 64) := by
    rw [hl, clusterLine, clusterLine]
    omega
  refine completes_of_doOp hx hs hr fun k t ht => ?_
  set old : BitVec 64 := BitVec.ofNat 64 (memValue s.dev l 8) with hold
  have hlold : memValue s.dev l 8 = old.toNat := by
    have hlt : memValue s.dev l 8 < 2 ^ 64 := by
      rw [← ofLe_peek]
      simpa using ofLe_lt (s.dev.peek l 8)
    rw [hold, BitVec.toNat_ofNat, Nat.mod_eq_of_lt hlt]
  rw [hop hb hrd, Dev.atomic_clean (d := s.dev.issuing e k) (old := old) (by simpa using ha) (by simpa using hxe) hal h h' (by simpa using hsb)
    (hline ▸ hm) (by rw [hold, hl]; exact congrArg _ (memValue_congr rfl _ _).symm)] at ht
  have hbase : OnlyEngine s.dev (s.dev.issuing e k) e [.mem, .marks, .writeBacks] := (s.dev.onlyEngine_issuing e k).mono (List.nil_subset _)
  obtain hsome | ⟨hnone, hnew⟩ := hf hb hrd old
  · rw [hsome] at ht
    have hmem : t.mem = Mem.write s.dev.mem l (leBytes 8 (new old).toNat) := ht.mem.trans (by rw [hl, ← clusterAddr, clusterAddr_eq]; rfl)
    have hkept : Kept [] [.mem, .marks, .writeBacks] (s.dev.issuing e k) ((s.dev.issuing e k).lineStored
        (clusterLine ((x - 0x01000000) / 64)) ((x - 0x01000000) % 64) (leBytes 8 (new old).toNat) false) :=
      kept_lineStored (.refl _) _ _ _ _ (by simp) (by simp) (by simp)
    refine ⟨fun i => ?_, ?_, ?_, fun j hj => ?_, (((hbase.kept hkept rfl).setWreg _ _).advance).aside ht⟩
    · simp [ht.wreg]
    · simp [NextPc, ht.engine, Dev.advance, Dev.setWreg]
    · have hv := memValue_write hmem
      rw [length_leBytes, ofLe_leBytes] at hv
      exact hv.trans (Nat.mod_eq_of_lt (new old).isLt)
    · rw [hmem, Mem.get_write_outside _ _ _ _ (by simpa using hj)]
  · rw [hnone] at ht
    refine ⟨fun i => ?_, ?_, ?_, fun j hj => by rw [ht.mem]; rfl, ((hbase.setWreg _ _).advance).aside ht⟩
    · simp [ht.wreg]
    · simp [NextPc, ht.engine, Dev.advance, Dev.setWreg]
    · rw [memValue_congr (d := s.dev) (t := t) ht.mem, hnew, hlold]

theorem atomicEffects : AtomicEffects := by
  intro s e rd a b
  refine ⟨?_, ?_, ?_⟩
  · refine exchanges_of_doOp (f := fun o => some (o.1 + (s.dev.wreg e b).1, flagP [o, s.dev.wreg e b])) rfl (fun hb hrd k => ?_) fun hb hrd o => ?_
    · show (s.dev.issuing e k).doAtomAdd e rd a b = _
      rw [Dev.doAtomAdd, Dev.wreg_issuing, hb]
    · simp [flagP, hb]
  · refine exchanges_of_doOp (f := fun o => some ((s.dev.wreg e b).1, flagP [o, s.dev.wreg e b])) rfl (fun hb hrd k => ?_) fun hb hrd o => ?_
    · show (s.dev.issuing e k).doAtomXch e rd a b = _
      rw [Dev.doAtomXch, Dev.wreg_issuing, hb]
    · simp [flagP, hb]
  · refine exchanges_of_doOp (f := fun o => if flagP [o, s.dev.wreg e b, s.dev.wreg e rd] then none
      else if o.1 = (s.dev.wreg e b).1 then some (s.dev.wreg e rd) else none) rfl (fun hb hrd k => ?_) fun hb hrd o => ?_
    · show (s.dev.issuing e k).doAtomCas e rd a b = _
      rw [Dev.doAtomCas, Dev.wreg_issuing, Dev.wreg_issuing]
      simp [flagP, hb, hrd]
    · by_cases ho : o = (s.dev.wreg e b).1
      · exact .inl (by simp [flagP, hb, hrd, ho, Prod.ext_iff])
      · exact .inr (by simp [flagP, hb, hrd, ho])

/-! ### The store buffer -/

/-- The oldest buffered store leaves for a clean line. -/
theorem Dev.sbPop_clean {d : Dev} {e : Nat} {x : SbEnt} {r : List SbEnt} (hsb : (d.engine e).sb = x :: r)
    (hm : d.mark (clusterLine (x.addr / 64)) = .clean) :
    d.sbPop e = (d.lineStored (clusterLine (x.addr / 64)) (x.addr % 64) x.bytes x.poison).modEngine e (fun g => { g with sb := r }) := by
  rw [Dev.sbPop, hsb]
  dsimp only
  rw [Dev.clusterWrite, Dev.writePart_of_mark hm]

theorem storeBufferDrains : StoreBufferDrains := by
  intro s e x r hs hsb hfit hm
  have hmem : Mem.write s.dev.mem (64 * clusterLine (x.addr / 64) + x.addr % 64) x.bytes =
      Mem.write s.dev.mem (64 * clusterLine 0 + x.addr) x.bytes := by rw [← clusterAddr_eq, clusterAddr]
  refine ⟨?_, fun hr hnil => ?_⟩
  · have hx : exec (.storeVisible e) s = .next { s with dev := s.dev.sbPop e } := State.run_live s (fun d => d.sbPop e) hs
    rw [Dev.sbPop_clean hsb hm] at hx
    refine ⟨_, hx, rfl, rfl, ?_, fun k hk => ?_, fun k hk => ?_, ?_⟩
    · simp
    · rw [Dev.modEngine_mem, Dev.mem_lineStored, hmem, Mem.get_write_inside _ _ _ _ hk]
    · rw [Dev.modEngine_mem, Dev.mem_lineStored, hmem, Mem.get_write_outside _ _ _ _ hk]
    · exact fun f _ _ => rfl
  · subst hnil
    refine completes_of_doOp (op := .fenceSl) rfl hs hr fun k t ht => ?_
    have hop : (s.dev.issuing e k).doOp e .fenceSl = (((s.dev.issuing e k).lineStored (clusterLine (x.addr / 64)) (x.addr % 64) x.bytes
        x.poison).modEngine e (fun g => { g with sb := [] })).advance e := by
      have hsbi : ((s.dev.issuing e k).engine e).sb = [x] := by simpa using hsb
      show (s.dev.issuing e k).doFenceSl e = _
      rw [Dev.doFenceSl, Dev.drain, hsbi, List.foldl_cons, List.foldl_nil, Dev.sbPop_clean hsbi hm]
    rw [hop] at ht
    refine ⟨?_, ?_, fun k hk => ?_, fun k hk => ?_, fun f _ hc => (ht.rd f hc).trans rfl⟩
    · simp [ht.engine, Dev.advance]
    · simp [NextPc, ht.engine, Dev.advance]
    · exact (congrArg (fun m => Mem.get m _) (ht.mem.trans hmem)).trans (Mem.get_write_inside _ _ _ _ hk)
    · exact (congrArg (fun m => Mem.get m _) (ht.mem.trans hmem)).trans (Mem.get_write_outside _ _ _ _ hk)

/-- Settles O4: the atomics by the word they exchange, the buffer by its oldest store. -/
theorem atomicsAndTheStoreBuffer : Obligations.AtomicsAndTheStoreBuffer := ⟨atomicEffects, storeBufferDrains⟩

end Sys2Proof.Machine
end

section
-- The theorems are elaborated in order, which keeps the memory that a check of the whole text takes within its limit.
set_option Elab.async false

/-! SUPPORT.  Window moves, table lookups, checksum and CRC instructions: what each writes to its register, and the statement they settle
(R202, R229 to R231). -/

namespace Sys2Proof.Machine

open Sys2Proof.Safety Sys2Proof.Claims

/-! ### Window moves -/

/-- The window of an engine's open frame replaced. -/
def Dev.reframed (d : Dev) (e : Nat) (o : OpenF) : Dev := d.modEngine e (fun g => { g with fr := some o })

/-- An instruction that moves the window and writes the new length. -/
theorem completes_reframed {c : Sys2Proof.Instr} {s : State} {e : Fin 16} {op : Op} {rd : Fin 32} {o : OpenF} {v : BitVec 64}
    (hx : exec c s = s.run (fun d => d.issue e false op)) (hs : s.held = false) (hr : Ready s.dev e op)
    (hop : ∀ k, (s.dev.issuing e k).doOp e op = (((s.dev.issuing e k).reframed e o).setWreg e rd (v, false)).advance e) :
    Completes c s (fun t => (t.engine e).fr = some o ∧ WritesReg s.dev t e rd (v, false) ∧ NextPc s.dev t e ∧ OnlyEngine s.dev t e) := by
  refine completes_of_doOp hx hs hr fun k t ht => ?_
  rw [hop] at ht
  have hw : ∀ i, ((s.dev.issuing e k).reframed e o).wreg e i = s.dev.wreg e i := fun i =>
    (Dev.wreg_modEngine _ e e i (f := fun g => { g with fr := some o }) fun _ => rfl).trans (s.dev.wreg_issuing e k e i)
  refine ⟨?_, fun i => ?_, ?_, ((((s.dev.onlyEngine_issuing e k).modEngine _).setWreg _ _).advance).aside ht⟩
  · simp [ht.engine, Dev.advance, Dev.setWreg, Dev.reframed]
  · simp [ht.wreg, hw]
  · simp [NextPc, ht.engine, Dev.advance, Dev.setWreg, Dev.reframed]

theorem windowMoves : WindowMoves := by
  intro s e rd a o hs hfr hc
  refine ⟨fun k hk hr hh h1 h2 => ?_, fun n hn hr h1 h2 => ?_⟩
  · refine completes_reframed (op := .wadj rd a) rfl hs hr fun j => ?_
    have hfi : ((s.dev.issuing e j).engine e).fr = some o := by simpa using hfr
    show (s.dev.issuing e j).doWadj e rd a = _
    rw [Dev.doWadj, Dev.wreg_issuing, if_neg (by simp [hc]), hfi]
    dsimp only
    rw [← hk, if_neg (by omega)]
    rfl
  · refine completes_reframed (op := .wsetl rd a) rfl hs hr fun j => ?_
    have hfi : ((s.dev.issuing e j).engine e).fr = some o := by simpa using hfr
    show (s.dev.issuing e j).doWsetl e rd a = _
    rw [Dev.doWsetl, Dev.wreg_issuing, if_neg (by simp [hc]), hfi]
    dsimp only
    rw [← hn, if_neg (by omega), hn, BitVec.ofNat_toNat, BitVec.setWidth_eq]
    rfl

/-! ### Lookups in clean tables -/

/-- A fold that carries a device it leaves alone. -/
theorem foldl_with_const {α β γ : Type} (d : γ) (f : β × γ → α → β × γ) (g : β → α → β) (h : ∀ b x, f (b, d) x = (g b x, d)) (l : List α) (b : β) :
    l.foldl f (b, d) = (l.foldl g b, d) := by
  induction l generalizing b with
  | nil => rfl
  | cons x xs ih => rw [List.foldl_cons, h, ih, List.foldl_cons]

/-- The hit of the exact table while no line holds an error (R175). -/
def Dev.exactHitOf (d : Dev) (key : List Byte) (km : Nat) : Hit :=
  match ((List.range 4).map (fun i => (d.rawLine (tableLine (0x400 + 4 * bucketOf key km) + i), false))).find? (fun e => exactHit key km e.1) with
  | some e => .result (leAt e.1 40 8)
  | none => .miss

theorem Dev.exactLookup_clean {d : Dev} (hm : d.marks = []) (key : List Byte) (km : Nat) :
    d.exactLookup key km = (d.exactHitOf key km, d) := by
  have hfold : (List.range 4).foldl (fun (a : List (List Byte × Bool) × Dev) i =>
      let (e, p, d) := a.2.readLine (tableLine (0x400 + 4 * bucketOf key km) + i)
      (a.1 ++ [(e, p)], d)) ([], d) =
      ((List.range 4).map (fun i => (d.rawLine (tableLine (0x400 + 4 * bucketOf key km) + i), false)), d) := by
    rw [foldl_with_const d _ (fun b i => b ++ [(d.rawLine (tableLine (0x400 + 4 * bucketOf key km) + i), false)])
      fun b i => by rw [Dev.readLine_clean hm]]
    rfl
  rw [Dev.exactLookup, hfold, Dev.exactHitOf]
  dsimp only
  rw [if_neg (by simp)]
  generalize List.find? _ _ = h
  cases h <;> rfl

/-- One entry of the ternary table, while no line holds an error (R176). -/
def Dev.ternStep (d : Dev) (key : List Byte) (km : Nat) (h : Hit) (t : Nat) : Hit :=
  if h ≠ .miss then h
  else if ternMatch key km (d.rawLine (tableLine (0x1400 + 2 * t))) (d.rawLine (tableLine (0x1401 + 2 * t))) then
    .result (leAt (d.rawLine (tableLine (0x1400 + 2 * t))) 40 8)
  else .miss

/-- The hit of the ternary table while no line holds an error. -/
def Dev.ternHitOf (d : Dev) (key : List Byte) (km : Nat) : Hit := (List.range 512).foldl (d.ternStep key km) .miss

theorem Dev.ternHitOf_congr {d t : Dev} (h : t.mem = d.mem) (key : List Byte) (km : Nat) : t.ternHitOf key km = d.ternHitOf key km := by
  have hraw : t.rawLine = d.rawLine := by
    funext l
    rw [Dev.rawLine, Dev.rawLine, Dev.peek, Dev.peek, h]
  have hstep : t.ternStep key km = d.ternStep key km := by
    funext g i
    rw [Dev.ternStep, Dev.ternStep, hraw]
  rw [Dev.ternHitOf, Dev.ternHitOf, hstep]

theorem Dev.ternLookup_clean {d : Dev} (hm : d.marks = []) (key : List Byte) (km : Nat) : d.ternLookup key km = (d.ternHitOf key km, d) := by
  unfold Dev.ternLookup Dev.ternHitOf
  refine foldl_with_const d _ (d.ternStep key km) (fun b t => ?_) _ _
  dsimp only
  rw [Dev.readLine_clean hm]
  dsimp only
  rw [Dev.readLine_clean hm]
  rfl

theorem Dev.exactHitOf_ne_poison (d : Dev) (key : List Byte) (km : Nat) : d.exactHitOf key km ≠ .poison := by
  unfold Dev.exactHitOf
  split <;> simp

theorem Dev.ternStep_ne_poison (d : Dev) (key : List Byte) (km : Nat) (l : List Nat) {h : Hit} (hh : h ≠ .poison) :
    l.foldl (d.ternStep key km) h ≠ .poison := by
  induction l generalizing h with
  | nil => exact hh
  | cons t ts ih =>
    refine ih ?_
    unfold Dev.ternStep
    split_ifs
    · exact hh
    · simp
    · simp

theorem Dev.ternHitOf_ne_poison (d : Dev) (key : List Byte) (km : Nat) : d.ternHitOf key km ≠ .poison :=
  d.ternStep_ne_poison key km _ (by simp)

/-- The number that a lookup's status word holds (R230). -/
def hitWord (h1 h2 : Hit) : Nat :=
  match h1, h2 with
  | .poison, _ => 0x8000
  | .result r, _ => (r - bitsOf r 13 3 * 2 ^ 13) + 2 ^ 13
  | .miss, .poison => 0x8000
  | .miss, .result r => (r - bitsOf r 13 3 * 2 ^ 13) + 2 ^ 13 + 2 ^ 14
  | .miss, .miss => 0

section
variable {d : Dev} {e : Nat} {rd a b : Fin 32} {x km : Nat} {key : List Byte} (ha : (d.wreg e a).2 = false) (hb : (d.wreg e b).2 = false)
  (hm : d.marks = []) (hx : x = (d.wreg e a).1.toNat) (hal : x % 32 = 0) (hlt : x < d.ldmSize e)
  (hkey : key = d.peek (64 * (d.ldmAt e x).1 + (d.ldmAt e x).2) 32) (hkm : km = (d.wreg e b).1.toNat % 2 ^ 13)
include ha hb hm hx hal hlt hkey hkm

/-- A lookup of clean tables on a key in local memory (R230). -/
theorem Dev.lookupOp_clean (exact_ tern : Bool) : d.lookupOp e rd a b exact_ tern =
    (d.setWreg e rd (BitVec.ofNat 64 (hitWord (if exact_ then (d.exactLookup key km).1 else .miss)
      (if tern ∧ (if exact_ then (d.exactLookup key km).1 else .miss) = .miss then (d.ternLookup key km).1 else .miss)), false)).advance e := by
  have hplace : d.placeOf e x = .local_ x := if_pos hlt
  have hfits : (d.ldmAt e x).2 + 32 ≤ 64 := by
    unfold Dev.ldmAt
    dsimp only
    split <;> omega
  have hend : x + 32 ≤ d.ldmSize e := by
    unfold Dev.ldmSize at hlt ⊢
    split at hlt <;> simp_all <;> omega
  have hbounds : d.boundsAt e x 32 = none := by
    rw [Dev.boundsAt, Dev.regionEnd, hplace]
    simpa using hend
  have h1 : (if exact_ then d.exactLookup key km else (.miss, d)) = (if exact_ then (d.exactLookup key km).1 else .miss, d) := by
    rw [Dev.exactLookup_clean hm]
    cases exact_ <;> rfl
  rw [Dev.lookupOp, if_neg (by simp [flagP, ha, hb]), ← hx]
  dsimp only
  rw [hbounds, hplace]
  dsimp only
  rw [if_neg (not_not_intro hal), Dev.readLine_clean hm]
  dsimp only
  rw [Dev.sliceB_rawLine d _ _ 32 hfits, ← hkey, ← hkm, h1]
  dsimp only
  generalize (if exact_ then (d.exactLookup key km).1 else .miss) = h
  have h2 : (if tern = true ∧ h = .miss then d.ternLookup key km else (.miss, d)) =
      (if tern = true ∧ h = .miss then (d.ternLookup key km).1 else .miss, d) := by
    rw [Dev.ternLookup_clean hm]
    generalize d.ternHitOf key km = g
    split <;> rfl
  rw [h2]
  dsimp only
  generalize (if tern = true ∧ h = .miss then (d.ternLookup key km).1 else .miss) = g
  cases h <;> cases g <;> rfl

end

theorem lookupResults : LookupResults := by
  intro s e rd a b x key km hs ha hb hm hx hal hlt hkey hkm word hword ofExact ofTern hexact htern
  have hE : ∀ k, ((s.dev.issuing e k).exactLookup key km).1 = (s.dev.exactLookup key km).1 := fun k => by
    rw [Dev.exactLookup_clean (d := s.dev.issuing e k) hm, Dev.exactLookup_clean hm]
    rfl
  have hT : ∀ k, ((s.dev.issuing e k).ternLookup key km).1 = (s.dev.ternLookup key km).1 := fun k => by
    rw [Dev.ternLookup_clean (d := s.dev.issuing e k) hm, Dev.ternLookup_clean hm]
    dsimp only
    exact Dev.ternHitOf_congr (d := s.dev) rfl key km
  have hEp : (s.dev.exactLookup key km).1 ≠ .poison := by rw [Dev.exactLookup_clean hm]; exact s.dev.exactHitOf_ne_poison key km
  have hTp : (s.dev.ternLookup key km).1 ≠ .poison := by
    rw [Dev.ternLookup_clean hm]
    dsimp only
    exact s.dev.ternHitOf_ne_poison key km
  have hop := fun k exact_ tern => Dev.lookupOp_clean (d := s.dev.issuing e k) (e := e) (rd := rd) (a := a) (b := b) (x := x) (km := km)
    (key := key) (by simpa using ha) (by simpa using hb) hm (by simpa using hx) hal hlt (hkey.trans rfl) (by simpa using hkm) exact_ tern
  simp only [hE, hT] at hop
  generalize (s.dev.exactLookup key km).1 = h1 at *
  generalize (s.dev.ternLookup key km).1 = h2 at *
  have hstrip : ∀ r, bitsOf r 13 3 = r / 2 ^ 13 % 8 := fun r => by simp [bitsOf]
  refine ⟨computes_of_doOp rfl fun k => (hop k true false).trans ?_, computes_of_doOp rfl fun k => (hop k false true).trans ?_,
    computes_of_doOp rfl fun k => (hop k true true).trans ?_⟩
  · have h : hitWord h1 .miss = ofExact := by
      cases h1 <;> simp_all [hitWord]
    simp [h]
  · have h : hitWord .miss h2 = ofTern := by
      cases h2 <;> simp_all [hitWord]
    simp [h]
  · have h : hitWord h1 (if h1 = .miss then h2 else .miss) = if h1 = .miss then ofTern else ofExact := by
      cases h1 <;> cases h2 <;> simp_all [hitWord]
    simp [h]

/-! ### Checksums and CRCs -/

/-- Among things listed by their own keys, the one of a listed key is found. -/
theorem find?_map_key {α : Type} (l : List Nat) (F : Nat → α) {j : Nat} (h : j ∈ l) :
    (l.map (fun i => (i, F i))).find? (fun x => x.1 = j) = some (j, F j) := by
  induction l with
  | nil => simp at h
  | cons i is ih =>
    rw [List.map_cons, List.find?_cons]
    by_cases hij : i = j
    · simp [hij]
    · simp only [hij, decide_false]
      exact ih (by simpa [Ne.symm hij] using h)

/-- Window bytes of an unedited frame, read while no line holds an error. -/
theorem Dev.winRead_clean {d : Dev} (hm : d.marks = []) (f : Frame) (off n : Nat) (h : off + n ≤ f.len) :
    d.winRead (OpenF.ofFrame f) off n = (clean ((List.range n).map (fun k =>
      Mem.get d.mem (64 * f.lines.getD ((f.start + off + k) / 64) 0 + (f.start + off + k) % 64))), d) := by
  set idx := (List.range n).map (fun k => f.start + off + k) with hidx
  have hstored : ∀ i ∈ idx, (OpenF.ofFrame f).stored i = true := fun i hi => by
    obtain ⟨k, hk, rfl⟩ := List.mem_map.mp hi
    have := List.mem_range.mp hk
    show (decide (f.start ≤ f.start + off + k) && decide (f.start + off + k < f.start + f.len)) = true
    simp only [Bool.and_eq_true, decide_eq_true_eq]
    omega
  have hfilter : idx.filter (fun i => (OpenF.ofFrame f).stored i && ((OpenF.ofFrame f).edit i).isNone) = idx :=
    List.filter_eq_self.mpr fun i hi => by rw [hstored i hi]; rfl
  have hfold := foldl_with_const d (fun (a : List (Nat × List Byte × Bool) × Dev) j =>
      let (bs, p, d) := a.2.readLine (f.lines.getD j 0)
      (a.1 ++ [(j, bs, p)], d)) (fun b j => b ++ [(j, d.rawLine (f.lines.getD j 0), false)])
    (fun b j => by dsimp only; rw [Dev.readLine_clean hm]) (idx.map (fun i => i / 64)).eraseDups []
  have hmap : ∀ (l : List Nat) (b : List (Nat × List Byte × Bool)), l.foldl (fun b j => b ++ [(j, d.rawLine (f.lines.getD j 0), false)]) b =
      b ++ l.map (fun j => (j, d.rawLine (f.lines.getD j 0), false)) := fun l => by
    induction l with
    | nil => exact fun b => (List.append_nil b).symm
    | cons j js ih => exact fun b => by rw [List.foldl_cons, ih, List.map_cons, List.append_assoc]; rfl
  rw [hmap, List.nil_append] at hfold
  have hbyte : ∀ i ∈ idx, ((match ((idx.map (fun i => i / 64)).eraseDups.map (fun j => (j, d.rawLine (f.lines.getD j 0), false))).find?
        (fun x => x.1 = i / 64) with
      | some x => (x.2.1.getD (i % 64) 0, x.2.2 || false)
      | none => (0, false)) : PByte) = (Mem.get d.mem (64 * f.lines.getD (i / 64) 0 + i % 64), false) := fun i hi => by
    have hmem : i / 64 ∈ (idx.map (fun i => i / 64)).eraseDups := List.mem_eraseDups.mpr (List.mem_map_of_mem hi)
    rw [find?_map_key _ (fun j => (d.rawLine (f.lines.getD j 0), false)) hmem]
    dsimp only
    rw [d.getD_rawLine _ _ (Nat.mod_lt _ (by decide))]
    rfl
  have hall : clean ((List.range n).map (fun k =>
      Mem.get d.mem (64 * f.lines.getD ((f.start + off + k) / 64) 0 + (f.start + off + k) % 64))) =
      idx.map (fun i => (Mem.get d.mem (64 * f.lines.getD (i / 64) 0 + i % 64), false)) := by
    simp [clean, hidx, Function.comp_def]
  rw [hall, Dev.winRead]
  dsimp only
  rw [show (OpenF.ofFrame f).head = f.start from rfl, ← hidx, hfilter, show (OpenF.ofFrame f).frame = f from rfl, hfold]
  refine Prod.ext (List.map_congr_left fun i hi => ?_) rfl
  dsimp only
  rw [hstored i hi]
  exact hbyte i hi

theorem checksumResults : ChecksumResults := by
  intro s e rd a b f off n bs hs ha hb hm hf hoff hn hlen hbs
  obtain ⟨hfr, -, -, -, -⟩ := hf
  have hop : ∀ (k : Nat) (g : BitVec 64 → List Byte → Nat), (s.dev.issuing e k).sumOp e rd a b g =
      ((s.dev.issuing e k).setWreg e rd (BitVec.ofNat 64 (g (s.dev.wreg e rd).1 bs), (s.dev.wreg e rd).2)).advance e := fun k g => by
    have hfi : ((s.dev.issuing e k).engine e).fr = some (OpenF.ofFrame f) := by simpa using hfr
    have hmap : (clean bs).map (·.1) = bs := by simp [clean, Function.comp_def]
    have hflag : flagBytes (clean bs) = false := by simp [flagBytes, clean]
    have hread : (s.dev.issuing e k).winRead (OpenF.ofFrame f) off n = (clean bs, s.dev.issuing e k) := by
      rw [Dev.winRead_clean (d := s.dev.issuing e k) hm f off n hlen, hbs]
      rfl
    rw [Dev.sumOp]
    simp only [Dev.wreg_issuing]
    rw [if_neg (by simp [flagP, ha, hb]), hfi]
    dsimp only
    rw [← hoff, ← hn, if_neg (show ¬ (OpenF.ofFrame f).len < off + n from Nat.not_lt.mpr hlen), hread]
    dsimp only
    rw [hmap, hflag, Bool.or_false]
  refine ⟨computes_of_doOp rfl fun k => ?_, computes_of_doOp rfl fun k => ?_, computes_of_doOp rfl fun k => ?_⟩
  · show (s.dev.issuing e k).doCsum e rd a b = _
    rw [Dev.doCsum, hop]
  · show (s.dev.issuing e k).doCrcE e rd a b = _
    rw [Dev.doCrcE, hop]
  · show (s.dev.issuing e k).doCrcC e rd a b = _
    rw [Dev.doCrcC, hop]

/-- Settles O5: window moves, lookups and sums, each by its own lemma. -/
theorem windowLookupAndChecksum : Obligations.WindowLookupAndChecksum := ⟨windowMoves, lookupResults, checksumResults⟩

end Sys2Proof.Machine
end

section
-- The theorems are elaborated in order, which keeps the memory that a check of the whole text takes within its limit.
set_option Elab.async false

/-! SUPPORT.  Reads of lines with their error handling, framed: what a read may change (R27 to R29). -/

namespace Sys2Proof.Machine

open Sys2Proof.Safety Sys2Proof.Claims

/-- The registers that the error handling of a memory read may write (R28, R45, R46). -/
def eccRegs : List Fld :=
  ([.sys .MEM_UE_LOG_VALID, .sys .MEM_UE_LOG_LINE, .sys .MEM_UE_LOG_REGION] : List Fld) ++
    (List.range 7).map (fun r => .sys (.MEM_UE_CNT_COUNT r)) ++ (List.range 7).map (fun r => .sys (.MEM_CE_CNT_COUNT r))

theorem regionOf_lt (l : Nat) : regionOf l < 7 := by
  unfold regionOf
  split_ifs <;> decide

section
variable {F : List Fld} {P : List Part} {d e : Dev} (h : Kept F P d e)
include h

theorem kept_freeCount (n : Nat) : Kept F P d { e with freeCount := n } :=
  h.trans (.of_regs rfl fun x _ => by cases x <;> simp [Part.Same])

theorem kept_freshBytes (k : Nat) : Kept F P d (e.freshBytes k).2 := by
  induction k generalizing e with
  | zero => exact h
  | succ k ih => exact ih (kept_freeCount h _)

variable (hF : eccRegs ⊆ F) (hm : .marks ∈ P) (hw : .writeBacks ∈ P) (hs : .toSafe ∈ P)
include hF hm hw hs

theorem kept_uncorrectable (l : Nat) : Kept F P d (e.uncorrectable l) := by
  have hreg := regionOf_lt l
  have hcnt : Fld.sys (.MEM_UE_CNT_COUNT (regionOf l)) ∈ F := hF (by simp [eccRegs, hreg])
  have hlog : ∀ f ∈ ([.sys .MEM_UE_LOG_VALID, .sys .MEM_UE_LOG_LINE, .sys .MEM_UE_LOG_REGION] : List Fld), f ∈ F :=
    fun f hf => hF (by simp only [eccRegs, List.mem_append]; exact .inl (.inl hf))
  unfold Dev.uncorrectable
  extract_lets r d1 d2 _ d3 d4
  have h2 : Kept F P d d2 := (h.inc hcnt).logFirst _ (hlog _ (by simp)) fun x hx => hlog _ (by
    obtain rfl | rfl : x = (.sys .MEM_UE_LOG_LINE, l - regionBase r) ∨ x = (.sys .MEM_UE_LOG_REGION, r) := by simpa using hx
    all_goals simp)
  have h4 : Kept F P d d4 := (h2.withMarks d3.marks hm).withWriteBacks (d3.writeBacks.filter (fun x => x ≠ l)) hw
  exact .ite _ (fun _ => h4.withToSafe _ hs) fun _ => .ite _ (fun _ => h4) fun _ => h4.withToSafe _ hs

/-- A read of a line, whatever error it meets. -/
theorem kept_readLine (l : Nat) : Kept F P d (e.readLine l).2.2 := by
  have hreg := regionOf_lt l
  have hcnt : Fld.sys (.MEM_CE_CNT_COUNT (regionOf l)) ∈ F := hF (by simp [eccRegs, hreg])
  unfold Dev.readLine
  extract_lets m bs
  have h0 : Kept F P d (if m.multi ≠ 0 then e.fresh else (2, e)).2 := by
    split
    · exact kept_freeCount h _
    · exact h
  generalize (if m.multi ≠ 0 then e.fresh else (2, e)) = p at h0 ⊢
  obtain ⟨k, x⟩ := p
  dsimp -zeta only at h0 ⊢
  split
  · exact kept_uncorrectable h0 hF hm hw hs l
  · extract_lets wrong n y z
    have h1 : Kept F P d (if wrong ≠ 0 then x.garble bs wrong else (bs, x)).2 := by
      split
      · exact kept_freshBytes h0 64
      · exact h0
    have h2 : Kept F P d y := .ite _ (fun _ => h1) fun _ => h1.incBy _ hcnt
    exact .ite _ (fun _ => h2) fun _ => h2.withWriteBacks _ hw

theorem kept_readRun (ls : List Nat) : Kept F P d (e.readRun ls).2.2 := by
  induction ls generalizing e with
  | nil => exact h
  | cons l ls ih => exact ih (kept_readLine h hF hm hw hs l)

theorem kept_readBytes (ls : List Nat) (off k : Nat) : Kept F P d (e.readBytes ls off k).2.2 := kept_readRun h hF hm hw hs _

end

end Sys2Proof.Machine
end

section
-- The theorems are elaborated in order, which keeps the memory that a check of the whole text takes within its limit.
set_option Elab.async false

/-! SUPPORT.  Disposals and COPY: the frame committed, handed over, and the statement they settle (R202 to R206, R232 to R235). -/

namespace Sys2Proof.Machine

open Sys2Proof.Safety Sys2Proof.Claims

/-! ### The commit of an unedited frame -/

theorem foldl_eq_self {α β : Type} (g : β → α → β) (d : β) (l : List α) (h : ∀ x ∈ l, g d x = d) : l.foldl g d = d := by
  induction l with
  | nil => rfl
  | cons x xs ih => rw [List.foldl_cons, h x (by simp), ih fun y hy => h y (by simp [hy])]

/-- An unedited frame is committed as it is (R203). -/
theorem Dev.commit_plain (d : Dev) (f : Frame) (h : (f.start + f.len + 63) / 64 ≤ f.lines.length) :
    d.commit (OpenF.ofFrame f) = some (f, d) := by
  have hzero : ((OpenF.ofFrame f).head + (OpenF.ofFrame f).len + 63) / 64 - (OpenF.ofFrame f).frame.lines.length = 0 := Nat.sub_eq_zero_of_le h
  have hidle : ∀ j : Nat, ((List.range 64).map (fun k => 64 * j + k)).all (fun i =>
      !(((OpenF.ofFrame f).head ≤ i && i < (OpenF.ofFrame f).head + (OpenF.ofFrame f).len) &&
        (((OpenF.ofFrame f).edit i).isSome || !(OpenF.ofFrame f).stored i))) = true := fun j => by
    rw [List.all_eq_true]
    intro i _
    have hedit : ((OpenF.ofFrame f).edit i).isSome = false := rfl
    rw [hedit, Bool.false_or]
    show (!((decide (f.start ≤ i) && decide (i < f.start + f.len)) && !(decide (f.start ≤ i) && decide (i < f.start + f.len)))) = true
    cases (decide (f.start ≤ i) && decide (i < f.start + f.len)) <;> rfl
  unfold Dev.commit
  extract_lets g
  rw [hzero, Dev.alloc]
  dsimp only
  rw [foldl_eq_self _ _ _ fun j _ => if_pos (hidle j), List.append_nil]
  rfl

section
variable {d : Dev} {e : Nat} {f : Frame} (hf : PlainFrame d e f)
include hf

theorem drain_plainFrame : d.drain e = d := by
  obtain ⟨-, hsb, -⟩ := hf
  rw [Dev.drain, hsb, List.foldl_nil]

/-- A disposal of an unedited frame with clean operands that its check lets pass (R232, R233). -/
theorem Dev.dispose_plain {rd : Fin 32} {ops : List WReg} {check : Dev → OpenF → Dev × Option Nat} {accept : Dev → Frame → Nat × Dev}
    (hops : flagP ops = false) (hc : check d (OpenF.ofFrame f) = (d, none)) :
    d.dispose e rd ops check accept =
      (((accept (d.nextOpen e) f).2.setWreg e rd (statusWord (accept (d.nextOpen e) f).1 0 false, false)).advance e) := by
  have hdrain := drain_plainFrame hf
  obtain ⟨hfr, hsb, hcp, -, hlen⟩ := hf
  rw [Dev.dispose, if_neg (by simp [hops]), hfr]
  dsimp only
  rw [hdrain, hc]
  dsimp only
  rw [Dev.commit_plain d f hlen]
  rfl

end

/-- The issue of an instruction leaves an unedited frame as it is. -/
theorem plainFrame_issuing {d : Dev} {e : Fin 16} {f : Frame} (hf : PlainFrame d e f) (k : Nat) : PlainFrame (d.issuing e k) e f := by
  obtain ⟨hfr, hsb, hcp, hring, hlen⟩ := hf
  exact ⟨by simpa using hfr, by simpa using hsb, by simpa using hcp, hring, hlen⟩

/-- With no copy the engine has no frame after a disposal. -/
theorem Dev.engine_nextOpen (d : Dev) (e x : Nat) (hcp : (d.engine e).copies = []) :
    (d.nextOpen e).engine x = if x = e ∧ e < 16 then { d.engine e with fr := none, copies := [] } else d.engine x := by
  rw [Dev.nextOpen, Dev.engine_modEngine, hcp]

theorem Dev.wreg_nextOpen (d : Dev) (e x : Nat) (i : Fin 32) : (d.nextOpen e).wreg x i = d.wreg x i :=
  Dev.wreg_modEngine d e x i fun g => by split <;> rfl

theorem onlyEngine_nextOpen {d t : Dev} {e : Nat} {l : List Part} (h : OnlyEngine d t e l) : OnlyEngine d (t.nextOpen e) e l := h.modEngine _

/-- A disposal whose hand-over leaves the engines: the frame is gone, the status word shows no refusal, and what `post` says of the device
that took the frame holds. -/
theorem completes_disposal {c : Sys2Proof.Instr} {s : State} {e : Fin 16} {op : Op} {rd : Fin 32} {f : Frame} {post : Dev → Prop}
    {ops : List WReg} {check : Dev → OpenF → Dev × Option Nat} {accept : Dev → Frame → Nat × Dev}
    (hx : exec c s = s.run (fun d => d.issue e false op)) (hs : s.held = false) (hr : Ready s.dev e op) (hf : PlainFrame s.dev e f)
    (hop : ∀ k, (s.dev.issuing e k).doOp e op = (s.dev.issuing e k).dispose e rd ops check accept) (hops : flagP ops = false)
    (hc : ∀ k, check (s.dev.issuing e k) (OpenF.ofFrame f) = (s.dev.issuing e k, none))
    (he : ∀ k, (accept ((s.dev.issuing e k).nextOpen e) f).2.engines = ((s.dev.issuing e k).nextOpen e).engines)
    (hpost : ∀ k h t, Aside (((accept ((s.dev.issuing e k).nextOpen e) f).2.setWreg e rd h).advance e) t → post t) :
    Completes c s (fun t => Disposed s.dev t e rd ∧ post t) := by
  refine completes_of_doOp hx hs hr fun k t ht => ?_
  rw [hop, Dev.dispose_plain (plainFrame_issuing hf k) hops (hc k)] at ht
  set a := (accept ((s.dev.issuing e k).nextOpen e) f).2 with ha
  obtain ⟨-, -, hcp, -, -⟩ := plainFrame_issuing hf k
  have hengine : ∀ x, a.engine x = ((s.dev.issuing e k).nextOpen e).engine x := fun x => by rw [Dev.engine, he k, Dev.engine]
  have hw : ∀ i, a.wreg e i = s.dev.wreg e i := fun i => by
    rw [Dev.wreg, hengine, ← Dev.wreg, Dev.wreg_nextOpen, Dev.wreg_issuing]
  refine ⟨⟨⟨(accept ((s.dev.issuing e k).nextOpen e) f).1, fun i => ?_⟩, ?_, ?_⟩, hpost k _ t ht⟩
  · simp [ht.wreg, hw]
  · simp [ht.engine, Dev.advance, Dev.setWreg, hengine, Dev.engine_nextOpen _ _ _ hcp]
  · simp [NextPc, ht.engine, Dev.advance, Dev.setWreg, hengine, Dev.engine_nextOpen _ _ _ hcp]

/-! ### Where frames go -/

/-- The transmit entry that a FWD makes (R235). -/
def Dev.forwarded (d : Dev) (e a tags : Nat) (f : Frame) : TxEnt :=
  { handle := d.newHandle.1
    frame := f
    tags := [tags % 2 ^ 32, tags / 2 ^ 32 % 2 ^ 32].take (bitsOf a 5 2)
    pair := some (pairOf e) }

/-- The bridge entry that a BRIDGE makes (R414). -/
def Dev.bridged (d : Dev) (a b : Nat) (f : Frame) : BrgEnt :=
  { frame := f
    addr := d.winBase (bitsOf a 0 1) (bitsOf a 1 3) + b
    f := d.rd (.brg (.WIN_CTRL_FUNC (bitsOf a 0 1) (bitsOf a 1 3)))
    bell := if d.is (.brg (.WIN_CTRL_BELL_EN (bitsOf a 0 1) (bitsOf a 1 3))) then
      some (d.winBase (bitsOf a 0 1) (bitsOf a 1 3) + d.rd (.brg (.WIN_BELL_BELL_OFF (bitsOf a 0 1) (bitsOf a 1 3))) * 4) else none }

section
variable {s : State} {e : Fin 16} {rd a b : Fin 32} {f : Frame} {x y : Nat} (hs : s.held = false) (hf : PlainFrame s.dev e f)
  (ha : (s.dev.wreg e a).2 = false) (hb : (s.dev.wreg e b).2 = false) (hx : x = (s.dev.wreg e a).1.toNat) (hy : y = (s.dev.wreg e b).1.toNat)

section
include hs hf ha hx

/-- FWD (R140, R235). -/
theorem completes_fwd (hb : (s.dev.wreg e b).2 = false) (hr : Ready s.dev e (.fwd rd a b)) (h128 : x < 128) (h3 : x / 32 % 4 ≠ 3)
    (ht : s.dev.txRefusal (x % 4) (x / 4 % 8) false = none) (hu : s.dev.linkUp (x % 4) = true) :
    Completes (.fwd e rd a b false) s (fun t => Disposed s.dev t e rd ∧
      ∃ ent : TxEnt, ent.frame = f ∧
        (t.port (x % 4)).txq.getD (x / 4 % 8) [] = (s.dev.port (x % 4)).txq.getD (x / 4 % 8) [] ++ [ent]) := by
  have hp : bitsOf x 0 2 = x % 4 := by simp [bitsOf]
  have hq : bitsOf x 2 3 = x / 4 % 8 := by simp [bitsOf]
  have h5 : bitsOf x 5 2 = x / 32 % 4 := by simp [bitsOf]
  have h7 : bitAt x 7 = false := by simp [bitAt]; omega
  obtain ⟨-, -, -, hring, -⟩ := id hf
  have haccept : ∀ d : Dev, d.linkUp (x % 4) = true → ∃ h ent, ent.frame = f ∧ d.fwdAccept e x (s.dev.wreg e b).1.toNat f =
      (h, ({ d with freeCount := d.freeCount + 1 } : Dev).modPort (x % 4)
        (fun p => { p with txq := bankAt 8 [] p.txq (x / 4 % 8) (fun l => l ++ [ent]) })) := fun d hd => by
    refine ⟨d.newHandle.1, d.forwarded e x (s.dev.wreg e b).1.toNat f, rfl, ?_⟩
    have hlink : d.newHandle.2.linkUp (x % 4) = true := hd
    rw [Dev.fwdAccept, hp, hq]
    simp only [hring, h7, Bool.false_eq_true, if_false, Dev.txAccept, hlink, Bool.not_true]
    rfl
  refine completes_disposal (op := .fwd rd a b) (f := f) (ops := [s.dev.wreg e a, s.dev.wreg e b]) (check := fun d _ => d.fwdCheck x)
    (accept := fun d g => d.fwdAccept e x (s.dev.wreg e b).1.toNat g) rfl hs hr hf (fun k => ?_) (by simp [flagP, ha, hb]) (fun k => ?_)
    (fun k => ?_) fun k h t ht => ?_
  · show (s.dev.issuing e k).doFwd e rd a b = _
    rw [Dev.doFwd, Dev.wreg_issuing, Dev.wreg_issuing, ← hx]
  · have htx : (s.dev.issuing e k).txRefusal (x % 4) (x / 4 % 8) false = none := ht
    show (s.dev.issuing e k).fwdCheck x = _
    rw [Dev.fwdCheck, hp, hq, h5, if_neg (by omega), h7]
    dsimp only
    rw [htx]
  · obtain ⟨h, ent, -, he⟩ := haccept ((s.dev.issuing e k).nextOpen e) hu
    rw [he]
    rfl
  · obtain ⟨h', ent, hent, he⟩ := haccept ((s.dev.issuing e k).nextOpen e) hu
    rw [he] at ht
    obtain ⟨_, _, _, rfl, -⟩ := ht
    refine ⟨ent, hent, ?_⟩
    have hport := Dev.port_modPort ({ (s.dev.issuing e k).nextOpen e with freeCount := ((s.dev.issuing e k).nextOpen e).freeCount + 1 } : Dev)
      (x % 4) (x % 4) (fun p => { p with txq := bankAt 8 [] p.txq (x / 4 % 8) (fun l => l ++ [ent]) })
    rw [if_pos ⟨rfl, Nat.mod_lt _ (by decide)⟩] at hport
    have htxq := congrArg (fun p => p.txq.getD (x / 4 % 8) []) hport
    exact htxq.trans ((getD_bankAt 8 [] _ _ _ _).trans (if_pos ⟨rfl, Nat.mod_lt _ (by decide)⟩))

omit ha hx in
/-- DROP (R233): the frame's lines are freed. -/
theorem completes_drop (hr : Ready s.dev e .drop) :
    Completes (.drop e false) s (fun t => (t.engine e).fr = none ∧ NextPc s.dev t e ∧
      t.used = s.dev.used.filter (fun l => !f.lines.contains l) ∧ (∀ i, t.wreg e i = s.dev.wreg e i) ∧ OnlyEngine s.dev t e [.used]) := by
  refine completes_of_doOp (op := .drop) rfl hs hr fun k t ht => ?_
  have hfi := plainFrame_issuing hf k
  have hdrain := drain_plainFrame hfi
  obtain ⟨hfr, -, hcp, hring, -⟩ := hfi
  have hop : (s.dev.issuing e k).doOp e .drop = (((s.dev.issuing e k).nextOpen e).dropFrame f).advance e := by
    show (s.dev.issuing e k).doDrop e = _
    rw [Dev.doDrop, hfr]
    dsimp only
    rw [hdrain, Dev.discard, Dev.originEnd, show (OpenF.ofFrame f).frame = f from rfl, hring]
  rw [hop] at ht
  have hengine : ∀ y, (((s.dev.issuing e k).nextOpen e).dropFrame f).engine y = ((s.dev.issuing e k).nextOpen e).engine y := fun y => rfl
  have honly : OnlyEngine s.dev (((s.dev.issuing e k).nextOpen e).dropFrame f) e [.used] :=
    (onlyEngine_nextOpen ((s.dev.onlyEngine_issuing e k).mono (List.nil_subset _))).kept (.withUsed (.refl _) _ (by simp)) rfl
  refine ⟨?_, ?_, ?_, fun i => ?_, honly.advance.aside ht⟩
  · simp [ht.engine, Dev.advance, hengine, Dev.engine_nextOpen _ _ _ hcp]
  · simp [NextPc, ht.engine, Dev.advance, hengine, Dev.engine_nextOpen _ _ _ hcp]
  · obtain ⟨_, _, _, rfl, -⟩ := ht
    rfl
  · rw [ht.wreg, Dev.wreg_advance, Dev.wreg, hengine, ← Dev.wreg, Dev.wreg_nextOpen, Dev.wreg_issuing]

end

section
include hs hf ha hb hx hy

/-- CRYPT (R240). -/
theorem completes_crypt (hr : Ready s.dev e (.crypt rd a b)) (hc : s.dev.cryptCheck x y = none) :
    Completes (.crypt e rd a b false) s (fun t => Disposed s.dev t e rd ∧
      ∃ p, p < 2 ∧ ∃ j : CryJob, j.frame = f ∧ j.sa = x % 1024 ∧
        (t.cry.pipes.getD p {}).queue = (s.dev.cry.pipes.getD p {}).queue ++ [j]) := by
  have hpipe : ∀ n g, pipeOf n g < 2 := fun n g => by
    unfold pipeOf bitsOf
    split <;> exact Nat.mod_lt _ (by decide)
  refine completes_disposal (op := .crypt rd a b) (f := f) (ops := [s.dev.wreg e a, s.dev.wreg e b])
    (check := fun d _ => (d, d.cryptCheck x y)) (accept := fun d g => d.cryptAccept x y g) rfl hs hr hf (fun k => ?_)
    (by simp [flagP, ha, hb]) (fun k => ?_) (fun k => rfl) fun k h t ht => ?_
  · show (s.dev.issuing e k).doCrypt e rd a b = _
    rw [Dev.doCrypt, Dev.wreg_issuing, Dev.wreg_issuing, ← hx, ← hy]
  · exact congrArg (fun r => (s.dev.issuing e k, r)) hc
  · obtain ⟨_, _, _, rfl, -⟩ := ht
    have hbank := getD_bankAt 2 ({} : CryPipe) s.dev.cry.pipes (pipeOf (x % 1024) (bitAt x 16 &&
      !(bitAt x 16 && saValid (s.dev.saPeek (x % 1024)) && saType (s.dev.saPeek (x % 1024)) = 1))) (pipeOf (x % 1024) (bitAt x 16 &&
      !(bitAt x 16 && saValid (s.dev.saPeek (x % 1024)) && saType (s.dev.saPeek (x % 1024)) = 1)))
    exact ⟨_, hpipe _ _, _, rfl, rfl, congrArg CryPipe.queue ((hbank _).trans (if_pos ⟨rfl, hpipe _ _⟩))⟩

/-- BRIDGE (R414). -/
theorem completes_bridge (hr : Ready s.dev e (.bridge rd a b)) (hc : s.dev.bridgeCheck x y f.len = none) :
    Completes (.bridge e rd a b false) s (fun t => Disposed s.dev t e rd ∧
      ∃ q : BrgEnt, q.frame = f ∧ q.addr = s.dev.winBase (x % 2) (x / 2 % 8) + y ∧
        (t.rp (x % 2)).queue = (s.dev.rp (x % 2)).queue ++ [q]) := by
  have h0 : bitsOf x 0 1 = x % 2 := by simp [bitsOf]
  have h1 : bitsOf x 1 3 = x / 2 % 8 := by simp [bitsOf]
  obtain ⟨-, -, -, hring, -⟩ := id hf
  have hframe : ({ f with ring := none } : Frame) = f := by rw [← hring]
  have haccept : ∀ d : Dev, ∃ q : BrgEnt, q.frame = f ∧ q.addr = d.winBase (x % 2) (x / 2 % 8) + y ∧
      d.bridgeAccept x y f = (0, d.modRp (x % 2) (fun r => { r with queue := r.queue ++ [q] })) := fun d => by
    refine ⟨d.bridged x y f, rfl, by rw [Dev.bridged, h0, h1], ?_⟩
    rw [Dev.bridged, Dev.bridgeAccept, h0, h1, Dev.originEnd, hring, hframe]
  refine completes_disposal (op := .bridge rd a b) (f := f) (ops := [s.dev.wreg e a, s.dev.wreg e b])
    (check := fun d o => (d, d.bridgeCheck x y o.len)) (accept := fun d g => d.bridgeAccept x y g) rfl hs hr hf (fun k => ?_)
    (by simp [flagP, ha, hb]) (fun k => ?_) (fun k => ?_) fun k h t ht => ?_
  · show (s.dev.issuing e k).doBridge e rd a b = _
    rw [Dev.doBridge, Dev.wreg_issuing, Dev.wreg_issuing, ← hx, ← hy]
  · exact congrArg (fun r => (s.dev.issuing e k, r)) hc
  · obtain ⟨q, -, -, he⟩ := haccept ((s.dev.issuing e k).nextOpen e)
    rw [he]
    rfl
  · obtain ⟨q, hq, haddr, he⟩ := haccept ((s.dev.issuing e k).nextOpen e)
    rw [he] at ht
    obtain ⟨_, _, _, rfl, -⟩ := ht
    have hrp := Dev.rp_modRp ((s.dev.issuing e k).nextOpen e) (x % 2) (x % 2) (fun r => { r with queue := r.queue ++ [q] })
    rw [if_pos ⟨rfl, Nat.mod_lt _ (by decide)⟩] at hrp
    exact ⟨q, hq, haddr, congrArg Rp.queue hrp⟩

/-- STOR (R270). -/
theorem completes_stor (hr : Ready s.dev e (.stor rd a b)) (hc : s.dev.storCheck x = none) :
    Completes (.stor e rd a b false) s (fun t => Disposed s.dev t e rd ∧ t.nvt.rx = s.dev.nvt.rx ++ [{ frame := f, qp := x, tag := y }]) := by
  have h64 : x % 64 = x := by
    refine Nat.mod_eq_of_lt (Nat.lt_of_not_le fun h => ?_)
    rw [Dev.storCheck, if_pos (show 64 ≤ x ∨ _ from .inl h)] at hc
    split at hc <;> cases hc
  obtain ⟨-, -, -, hring, -⟩ := id hf
  have hframe : ({ f with ring := none } : Frame) = f := by rw [← hring]
  have haccept : ∀ d : Dev, d.storAccept x y f =
      (0, { d with nvt := { d.nvt with rx := d.nvt.rx ++ [{ frame := f, qp := x, tag := y }] } }) := fun d => by
    rw [Dev.storAccept, Dev.originEnd, hring, hframe, h64]
  refine completes_disposal (op := .stor rd a b) (f := f) (ops := [s.dev.wreg e a, s.dev.wreg e b])
    (check := fun d _ => (d, d.storCheck x)) (accept := fun d g => d.storAccept x y g) rfl hs hr hf (fun k => ?_)
    (by simp [flagP, ha, hb]) (fun k => ?_) (fun k => ?_) fun k h t ht => ?_
  · show (s.dev.issuing e k).doStor e rd a b = _
    rw [Dev.doStor, Dev.wreg_issuing, Dev.wreg_issuing, ← hx, ← hy]
  · exact congrArg (fun r => (s.dev.issuing e k, r)) hc
  · rw [haccept]
  · rw [haccept] at ht
    obtain ⟨_, _, _, rfl, -⟩ := ht
    rfl

end

/-! ### DELIV -/

/-- The reason a DELIV is refused for, if any (R301, R319). -/
def Dev.delivReason (d : Dev) (a len : Nat) : Option Nat :=
  if 65536 ≤ a ∨ 49 < bitsOf a 0 8 then some 4
  else match d.sqOf (bitsOf a 0 8) (bitsOf a 8 8) with
    | none => some 4
    | some n =>
      if d.sqKind n ≠ 1 then some 4
      else if d.sqState n ≠ 1 then some 5
      else if d.rd (.rng (.SQ_BIND_HOLD_LINES n)) < ((d.sq n).held.flatMap (·.lines)).length + heldLines len then some 1
      else if !d.vatOk (bitsOf a 0 8) (heldLines len) then some 1
      else none

omit hs hf ha hb hx hy in
theorem Dev.delivCheck_snd (d : Dev) (a len : Nat) : (d.delivCheck a len).2 = d.delivReason a len := by
  unfold Dev.delivCheck Dev.delivReason
  dsimp only
  split
  · rfl
  · generalize d.sqOf (bitsOf a 0 8) (bitsOf a 8 8) = o
    cases o with
    | none => rfl
    | some n =>
      dsimp only
      split_ifs <;> rfl

omit hs hf ha hb hx hy in
/-- A delivery that is not refused has a ring, and its check changed nothing (R301). -/
theorem Dev.delivCheck_none {d : Dev} {a len : Nat} (h : d.delivReason a len = none) :
    d.delivCheck a len = (d, none) ∧ ∃ n, d.sqOf (bitsOf a 0 8) (bitsOf a 8 8) = some n := by
  unfold Dev.delivReason at h
  unfold Dev.delivCheck
  dsimp only
  split at h
  · cases h
  · next h1 =>
    rw [if_neg h1]
    generalize d.sqOf (bitsOf a 0 8) (bitsOf a 8 8) = o at h ⊢
    cases o with
    | none => cases h
    | some n =>
      refine ⟨?_, n, rfl⟩
      dsimp only at h ⊢
      split_ifs at h ⊢
      rfl

omit hs hf ha hb hx hy in
theorem kept_zeroLines {F : List Fld} {P : List Part} {d e : Dev} (h : Kept F P d e) (l n : Nat) (hm : .mem ∈ P) (hk : .marks ∈ P)
    (hw : .writeBacks ∈ P) : Kept F P d (e.zeroLines l n) :=
  ((h.withMem (e.zeroLines l n).mem hm).withMarks (e.zeroLines l n).marks hk).withWriteBacks (e.zeroLines l n).writeBacks hw

omit hs hf ha hb hx hy in
/-- Lines of the Vat taken, where they may be (R317). -/
theorem Dev.vatTake_kept {d : Dev} {f n : Nat} (h : d.vatOk f n = true) : ∃ ls d1, d.vatTake f n = some (ls, d1) ∧
    Kept [] [.mem, .marks, .writeBacks, .dma] d d1 := by
  rw [Dev.vatTake, if_pos h]
  refine ⟨_, _, rfl, .withDma (.foldl _ _ (fun a l _ ha => ?_) (.refl d)) _ (by simp)⟩
  exact kept_zeroLines ha _ _ (by simp) (by simp) (by simp)

/-- The registers that a delivery to function `fn` may write beside counters. -/
def delivRegs (fn : Nat) : List Fld := .cs fn .PM_PME_STATUS :: eccRegs

/-- The parts that a delivery changes beside its ring and the lines in use. -/
def delivParts : List Part := [.mem, .marks, .writeBacks, .toSafe, .dma, .hep]

omit hs hf ha hb hx hy in
/-- A delivered frame is held by its ring (R301). -/
theorem Dev.delivAccept_held {d : Dev} {a n : Nat} {g : Frame} (hring : g.ring = none) (hn : d.sqOf (bitsOf a 0 8) (bitsOf a 8 8) = some n)
    (hv : d.vatOk (bitsOf a 0 8) (heldLines g.len) = true) : ∃ (y : Dev) (ls : List Nat), Kept (delivRegs (bitsOf a 0 8)) delivParts d y ∧
      d.delivAccept a g = (0, (y.modSq n (fun q => { q with held := q.held ++ [{ lines := ls, len := g.len }] })).dropFrame g) := by
  obtain ⟨ls, d1, htake, hk⟩ := Dev.vatTake_kept hv
  rw [Dev.delivAccept]
  dsimp only
  rw [hn, htake]
  dsimp only
  rw [Dev.originEnd, hring]
  refine ⟨_, ls, ?_, rfl⟩
  have h1 : Kept (delivRegs (bitsOf a 0 8)) delivParts d (d1.pmeSet (bitsOf a 0 8)) :=
    kept_pmeSet (hk.mono (by simp) (by simp [delivParts])) _ (by simp [delivRegs]) (by simp [delivParts])
  refine .foldl _ _ (fun b x _ hb => ?_) h1
  exact .writeLine (kept_readBytes hb (List.subset_cons_self _ _) (by simp [delivParts]) (by simp [delivParts]) (by simp [delivParts]) _ _ _)
    _ _ _ (by simp [delivParts]) (by simp [delivParts]) (by simp [delivParts])

section
include hs hf ha hx

theorem completes_deliv (hr : Ready s.dev e (.deliv rd a)) (hc : (s.dev.delivCheck x f.len).2 = none)
    (hv : s.dev.vatTake (x % 256) (heldLines f.len) ≠ none) :
    Completes (.deliv e rd a false) s (fun t => Disposed s.dev t e rd ∧
      ∀ n, s.dev.sqOf (x % 256) (x / 256 % 256) = some n → n < 256 →
        ∃ h : RxHeld, h.len = f.len ∧ (t.sq n).held = (s.dev.sq n).held ++ [h]) := by
  have h0 : bitsOf x 0 8 = x % 256 := by simp [bitsOf]
  have h8 : bitsOf x 8 8 = x / 256 % 256 := by simp [bitsOf]
  rw [Dev.delivCheck_snd] at hc
  obtain ⟨-, n, hn⟩ := Dev.delivCheck_none hc
  obtain ⟨-, -, -, hring, -⟩ := id hf
  have hok : s.dev.vatOk (x % 256) (heldLines f.len) = true := by
    by_contra h
    exact hv (by rw [Dev.vatTake, if_neg h])
  have hheld := fun k => Dev.delivAccept_held (d := (s.dev.issuing e k).nextOpen e) (a := x) (n := n) (g := f) hring hn (h0 ▸ hok)
  refine completes_disposal (op := .deliv rd a) (f := f) (ops := [s.dev.wreg e a]) (check := fun d o => d.delivCheck x o.len)
    (accept := fun d g => d.delivAccept x g) rfl hs hr hf (fun k => ?_) (by simp [flagP, ha])
    (fun k => (Dev.delivCheck_none (d := s.dev.issuing e k) hc).1) (fun k => ?_) fun k h t ht => ?_
  · show (s.dev.issuing e k).doDeliv e rd a = _
    rw [Dev.doDeliv, Dev.wreg_issuing, ← hx]
  · obtain ⟨y, ls, hk, he⟩ := hheld k
    rw [he]
    exact hk.same (x := .engines) (by simp [delivParts])
  · obtain ⟨y, ls, hk, he⟩ := hheld k
    rw [he] at ht
    obtain ⟨_, _, _, rfl, -⟩ := ht
    intro m hm hlt
    rw [h0, h8, hm] at hn
    cases hn
    have hsq : y.sq n = s.dev.sq n := by
      have h := hk.same (x := .sqs) (by simp [delivParts])
      exact congrArg (fun l => l.getD n {}) h
    have hmod := Dev.sq_modSq y n n (fun q => { q with held := q.held ++ [{ lines := ls, len := f.len }] })
    rw [if_pos ⟨rfl, hlt⟩, hsq] at hmod
    exact ⟨{ lines := ls, len := f.len }, rfl, congrArg Sq.held hmod⟩

end

/-! ### COPY -/

omit hs hf ha hb hx hy in
/-- An allocation takes as many lines as asked for, and changes the lines in use alone. -/
theorem Dev.alloc_eq {d : Dev} {base size n : Nat} {ls : List Nat} {d1 : Dev} (h : d.alloc base size n = some (ls, d1)) :
    ls.length = n ∧ d1 = { d with used := d1.used } := by
  induction n generalizing d ls d1 with
  | zero =>
    cases h
    exact ⟨rfl, rfl⟩
  | succ n ih =>
    rw [Dev.alloc] at h
    split at h
    · cases h
    · next l hl =>
      split at h
      · cases h
      · next ms d2 hrest =>
        cases h
        obtain ⟨hlen, hd⟩ := ih hrest
        exact ⟨by rw [List.length_cons, hlen], hd⟩

omit hs hf ha hb hx hy in
/-- Whether there is room is a matter of the lines in use. -/
theorem Dev.alloc_none_congr {d t : Dev} (h : t.used = d.used) (base size n : Nat) :
    t.alloc base size n = none → d.alloc base size n = none := by
  induction n generalizing d t with
  | zero => exact fun hn => by cases hn
  | succ n ih =>
    intro hn
    rw [Dev.alloc, h] at hn
    rw [Dev.alloc]
    cases hfree : firstFree d.used base size (d.used.length + 1) with
    | none => rfl
    | some l =>
      rw [hfree] at hn
      dsimp only at hn ⊢
      split at hn
      · next hnone => rw [ih (d := { d with used := d.used ++ [l] }) (t := { t with used := d.used ++ [l] }) rfl hnone]
      · cases hn

omit ha hb hx hy in
include hs hf in
theorem completes_copy (hr : Ready s.dev e (.copy rd)) (hroom : s.dev.alloc (regionBase 1) 65536 f.lines.length ≠ none) :
    Completes (.copy e rd false) s (fun t => WritesReg s.dev t e rd (statusWord 0 0 false, false) ∧ NextPc s.dev t e ∧
      (t.engine e).fr = some (OpenF.ofFrame f) ∧
      ∃ c : Frame, (t.engine e).copies = [c] ∧ c.len = f.len ∧ c.start = f.start ∧ c.info = f.info ∧ c.lines.length = f.lines.length) := by
  refine completes_of_doOp (op := .copy rd) rfl hs hr fun k t ht => ?_
  have hfi := plainFrame_issuing hf k
  have hdrain := drain_plainFrame hfi
  obtain ⟨-, -, hcp0, -, -⟩ := hf
  obtain ⟨hfr, -, hcp, hring, hlen⟩ := hfi
  have hroom' : (s.dev.issuing e k).alloc (regionBase 1) 65536 f.lines.length ≠ none :=
    fun h => hroom (Dev.alloc_none_congr (d := s.dev) (t := s.dev.issuing e k) rfl _ _ _ h)
  obtain ⟨⟨ls, d1⟩, halloc⟩ := Option.ne_none_iff_exists'.mp hroom'
  obtain ⟨hls, hd1⟩ := Dev.alloc_eq halloc
  have hcopy : ∃ c y, (s.dev.issuing e k).copyFrame f = some (c, y) ∧ y.engines = (s.dev.issuing e k).engines ∧ c.len = f.len ∧
      c.start = f.start ∧ c.info = f.info ∧ c.lines.length = f.lines.length := by
    rw [Dev.copyFrame, halloc]
    refine ⟨_, _, rfl, ?_, rfl, rfl, rfl, hls⟩
    have h1 : Kept eccRegs (.used :: delivParts) (s.dev.issuing e k) d1 := hd1 ▸ .withUsed (.refl _) _ (by simp)
    have h2 := Kept.foldl (f.lines.zip ls) (fun (d : Dev) (x : Nat × Nat) =>
      let (bs, p, d) := d.readLine x.1
      d.writeLine x.2 bs p) (fun b x _ hb => Kept.writeLine (kept_readLine hb (List.Subset.refl _) (by simp [delivParts])
        (by simp [delivParts]) (by simp [delivParts]) x.1) _ _ _ (by simp [delivParts]) (by simp [delivParts]) (by simp [delivParts])) h1
    exact h2.same (x := .engines) (by simp [delivParts])
  obtain ⟨c, y, hc, hy, hclen, hstart, hinfo, hlines⟩ := hcopy
  have hop : (s.dev.issuing e k).doOp e (.copy rd) = ((y.modEngine e (fun g => { g with
      fr := some (.ofFrame f), copies := g.copies ++ [c] })).setWreg e rd (statusWord 0 0 false, false)).advance e := by
    show (s.dev.issuing e k).doCopy e rd = _
    rw [Dev.doCopy, hfr]
    dsimp only
    rw [hdrain, if_neg (by rw [hcp]; decide), Dev.commit_plain _ f hlen]
    dsimp only
    rw [hc]
    rfl
  rw [hop] at ht
  have hengine : y.engine e = (s.dev.issuing e k).engine e := by rw [Dev.engine, hy, Dev.engine]
  have hw : ∀ i, y.wreg e i = s.dev.wreg e i := fun i => by rw [Dev.wreg, hengine, ← Dev.wreg, Dev.wreg_issuing]
  refine ⟨fun i => ?_, ?_, ?_, c, ?_, hclen, hstart, hinfo, hlines⟩
  · simp [ht.wreg, hw, Dev.wreg_modEngine]
  · simp [NextPc, ht.engine, Dev.advance, Dev.setWreg, hengine]
  · simp [ht.engine, Dev.advance, Dev.setWreg, hengine]
  · simp [ht.engine, Dev.advance, Dev.setWreg, hengine, hcp0]

end

theorem disposalsAccepted : DisposalsAccepted := by
  intro s e rd a b f x y hs hf ha hb hx hy
  exact ⟨completes_fwd hs hf ha hx hb, completes_deliv hs hf ha hx, completes_crypt hs hf ha hb hx hy, completes_bridge hs hf ha hb hx hy,
    completes_stor hs hf ha hb hx hy, completes_drop hs hf⟩

/-- Settles O7: each disposal by its own lemma, and COPY. -/
theorem disposals : Obligations.Disposals := ⟨disposalsAccepted, fun _ _ _ _ hs hr hf => completes_copy hs hf hr⟩

end Sys2Proof.Machine
end

section
-- The theorems are elaborated in order, which keeps the memory that a check of the whole text takes within its limit.
set_option Elab.async false

/-! SUPPORT.  The security block's commands: lifecycle, one-time-programmable memory and anti-rollback, and the statement they settle
(R522 to R526, R530, R531). -/

namespace Sys2Proof.Machine

open Sys2Proof.Safety Sys2Proof.Claims

@[simp] theorem lcResult_width : (Fld.sec .LC_RESULT_LAST).width = 4 := rfl
@[simp] theorem otpResult_width : (Fld.sec .OTP_STATUS_RESULT).width = 3 := rfl
@[simp] theorem arbResult_width : (Fld.sec .ARB_STATUS_RESULT).width = 3 := rfl
@[simp] theorem lcChg_width : (Fld.sec .EVT_LC_CHG).width = 1 := rfl
@[simp] theorem otpDone_width : (Fld.sec .EVT_OTP_DONE).width = 1 := rfl
@[simp] theorem arbDone_width : (Fld.sec .EVT_ARB_DONE).width = 1 := rfl

/-! ### Shared operations -/

section
variable {F : List Fld} {P : List Part} {d e : Dev}

theorem counted_sec (he : Counted d e) : e.sec = d.sec := by
  obtain ⟨r, w, rfl, -⟩ := he
  rfl

theorem kept_secEvent (h : Kept F P d e) (f : SecF) (hf : .sec f ∈ F) (hi : .irqs ∈ P) : Kept F P d (e.secEvent f) := h.event _ _ hf hi

theorem Dev.rd_secEvent (d : Dev) (f : SecF) (x : Fld) : (d.secEvent f).rd x = (d.wr (.sec f) 1).rd x := by
  rw [Dev.secEvent, Dev.event]
  split <;> simp

@[simp] theorem Dev.sec_secEvent (d : Dev) (f : SecF) : (d.secEvent f).sec = d.sec := by
  rw [Dev.secEvent, Dev.event]
  split <;> simp

@[simp] theorem Dev.cry_secEvent (d : Dev) (f : SecF) : (d.secEvent f).cry = d.cry := by
  rw [Dev.secEvent, Dev.event]
  split <;> simp

theorem kept_otpResult (h : Kept F P d e) (code : Nat) (hF : otpRegs ⊆ F) : Kept F P d (e.otpResult code) :=
  (h.wrs _ fun x hx => by
    obtain ⟨i, hi, rfl⟩ := List.mem_map.mp hx
    exact hF (List.mem_cons_of_mem _ (List.mem_map_of_mem hi))).wr _ (hF List.mem_cons_self)

theorem Dev.sec_otpResult (d : Dev) (code : Nat) : (d.otpResult code).sec = d.sec :=
  (kept_otpResult (.refl (F := otpRegs) (P := []) d) code (fun _ h => h)).same (x := .sec) (by simp)

/-- The stage zeroed and the result written. -/
theorem otpEnded_otpResult (d : Dev) {code : Nat} (hc : code < 8) : OtpEnded (d.otpResult code) code := by
  have hrow := fun i : Fin 24 => Dev.rd_wrs_row d (fun i => .sec (.OTP_STAGE_DATA i)) (fun _ => 0) (fun a b h => by simpa using h) 24 i i.isLt
  rw [Dev.otpResult]
  generalize d.wrs ((List.range 24).map fun i => (Fld.sec (.OTP_STAGE_DATA i), 0)) = e at hrow ⊢
  refine ⟨by simp [Nat.mod_eq_of_lt hc], fun i => ?_⟩
  rw [Dev.rd_wr, if_neg (by simp), hrow]
  simp

/-- An event of the security block leaves the stage and the result. -/
theorem otpEnded_secEvent {code : Nat} (h : OtpEnded d code) : OtpEnded (d.secEvent .EVT_OTP_DONE) code := by
  obtain ⟨hr, hst⟩ := h
  exact ⟨by rw [Dev.rd_secEvent, Dev.rd_wr, if_neg (by simp), hr], fun i => by rw [Dev.rd_secEvent, Dev.rd_wr, if_neg (by simp), hst]⟩

theorem kept_newChallenge (h : Kept F P d e) (hF : chalRegs ⊆ F) : Kept F P d e.newChallenge :=
  .foldl _ _ (fun _ _ hi k => (kept_freeCount k _).wr _ (hF (List.mem_map_of_mem hi))) h

theorem kept_zeroiseKeys (h : Kept F P d e) (hc : .cry ∈ P) (hm : .mem ∈ P) (hk : .marks ∈ P) (hw : .writeBacks ∈ P) :
    Kept F P d e.zeroiseKeys := kept_zeroLines (h.withCry _ hc) _ _ hm hk hw

end

/-- Lines zeroed read 0, and others as before. -/
theorem Mem.get_zeroLines_eq (d : Dev) (l n k : Nat) :
    Mem.get (d.zeroLines l n).mem k = if 64 * l ≤ k ∧ k < 64 * (l + n) then 0 else Mem.get d.mem k := by
  refine (Mem.get_filter d.mem (fun k => !(64 * l ≤ k && k < 64 * (l + n))) k).trans ?_
  by_cases h : 64 * l ≤ k ∧ k < 64 * (l + n)
  · rw [if_pos h, if_neg (by simpa using h)]
    rfl
  · rw [if_neg h, if_pos (by simpa [imp_iff_not_or] using h)]

theorem Mem.get_zeroLines (d : Dev) (l n k : Nat) (h : 64 * l ≤ k) (h' : k < 64 * (l + n)) : Mem.get (d.zeroLines l n).mem k = 0 := by
  rw [Mem.get_zeroLines_eq, if_pos ⟨h, h'⟩]

/-- A command that may write the one-time-programmable memory, out of reset. -/
theorem effectOtp_runOtp {c : Sys2Proof.Instr} {s : State} {x : Host.Outcome State Fault Refusal} {F : List Fld} {P : List Part}
    {post : Otp → Dev → Prop} {f : Otp → Dev → Otp × Dev} (hx : exec c s = x) (hf : x = s.runOtp f) (hs : s.held = false)
    (h : Kept F P s.dev (f s.otp s.dev).2 ∧ post (f s.otp s.dev).1 (f s.otp s.dev).2) : EffectOtp c s F P post :=
  ⟨_, hx.trans (hf.trans (s.runOtp_live f hs)), rfl, h.2, h.1.1, h.1.2⟩

/-! ### Lifecycle -/

section
variable {s : State} (ha : Awake s)
include ha

theorem lcRefused {c : Sys2Proof.Instr} {x : Host.Outcome State Fault Refusal} {f : Otp → Dev → Dev} {code : Nat} (hx : exec c s = x)
    (hw : x = s.hostWith f) (hf : ∀ e, Counted s.dev e → f s.otp e = e.lcRefuse code) (hc : code < 16) : LcRefused c s code :=
  .hostWith hx hw ha fun e he => by
    rw [hf e he]
    refine ⟨((Kept.refl e).wr _ (by simp)).inc (by simp), ?_, ?_⟩
    · simp [Dev.lcRefuse, Nat.mod_eq_of_lt hc]
    · have hr := he.rd (.sec .LC_RESULT_REFUSED) rfl
      simp [Counts, Dev.lcRefuse, Dev.rd_inc, hr]

/-- LC_PROVISION and LC_FIELD: the first check that fails decides (R522). -/
theorem effect_lcRequest :
    (s.dev.sec.lcTo ≠ none → LcRefused .lcProvision s 5 ∧ LcRefused .lcField s 5) ∧
    (s.dev.sec.lcTo = none →
      (s.otp.lc ≠ 0 → LcRefused .lcProvision s 1) ∧ (s.otp.lc ≠ 1 → LcRefused .lcField s 1) ∧
      (s.otp.lc = 0 → s.dev.inhibited = true → LcRefused .lcProvision s 2) ∧
      (s.otp.lc = 1 → s.dev.inhibited = true → LcRefused .lcField s 2) ∧
      (s.otp.lc = 0 → s.dev.inhibited = false →
        (¬ ((s.otp.slot 1).prog = true ∧ (s.otp.slot 3).prog = true ∧ s.otp.seedProg = true) → LcRefused .lcProvision s 3) ∧
        ((s.otp.slot 1).prog = true ∧ (s.otp.slot 3).prog = true ∧ s.otp.seedProg = true →
          Effect .lcProvision s [] [.sec] (fun t => t.sec = { s.dev.sec with lcTo := some 1 }))) ∧
      (s.otp.lc = 1 → s.dev.inhibited = false →
        (s.dev.rd (.sec .DBG_STATUS_LEVEL) ≠ 0 → LcRefused .lcField s 4) ∧
        (s.dev.rd (.sec .DBG_STATUS_LEVEL) = 0 →
          Effect .lcField s [] [.sec] (fun t => t.sec = { s.dev.sec with lcTo := some 2 })))) := by
  have hsec : ∀ e, Counted s.dev e → e.sec = s.dev.sec := fun e he => counted_sec he
  have hinh : ∀ e, Counted s.dev e → e.inhibited = s.dev.inhibited := fun e he => he.is _ rfl
  have hlev : ∀ e, Counted s.dev e → e.rd (.sec .DBG_STATUS_LEVEL) = s.dev.rd (.sec .DBG_STATUS_LEVEL) := fun e he => he.rd _ rfl
  refine ⟨fun h => ?_, fun h => ⟨fun hl => ?_, fun hl => ?_, fun hl hi => ?_, fun hl hi => ?_, fun hl hi => ⟨fun hp => ?_, fun hp => ?_⟩,
    fun hl hi => ⟨fun hp => ?_, fun hp => ?_⟩⟩⟩
  · exact ⟨lcRefused ha (x := execLcProvision s) rfl rfl (fun e he => if_pos (by rw [hsec e he]; simpa [Option.isSome_iff_ne_none] using h)) (by decide),
      lcRefused ha (x := execLcField s) rfl rfl (fun e he => if_pos (by rw [hsec e he]; simpa [Option.isSome_iff_ne_none] using h)) (by decide)⟩
  · exact lcRefused ha (x := execLcProvision s) rfl rfl (fun e he => by simp [hsec e he, h, hl]) (by decide)
  · exact lcRefused ha (x := execLcField s) rfl rfl (fun e he => by simp [hsec e he, h, hl]) (by decide)
  · exact lcRefused ha (x := execLcProvision s) rfl rfl (fun e he => by simp [hsec e he, h, hl, hinh e he, hi]) (by decide)
  · exact lcRefused ha (x := execLcField s) rfl rfl (fun e he => by simp [hsec e he, h, hl, hinh e he, hi]) (by decide)
  · exact lcRefused ha (x := execLcProvision s) rfl rfl (fun e he => by
      simp only [hsec e he, h, hl, hinh e he, hi, ne_eq, not_true_eq_false, if_false, Option.isSome_none, Bool.false_eq_true]
      exact if_pos (by rw [Bool.not_eq_true', ← Bool.not_eq_true]; simpa [and_assoc, -not_and] using hp)) (by decide)
  · refine .hostWith (x := execLcProvision s) rfl rfl ha fun e he => ?_
    simp only [hsec e he, h, hl, hinh e he, hi, hp, ne_eq, not_true_eq_false, if_false, Option.isSome_none, Bool.false_eq_true,
      Bool.and_self, Bool.not_true]
    exact ⟨(Kept.refl e).withSec _ (by simp), trivial⟩
  · exact lcRefused ha (x := execLcField s) rfl rfl (fun e he => by simp [hsec e he, h, hl, hinh e he, hi, hlev e he, hp]) (by decide)
  · refine .hostWith (x := execLcField s) rfl rfl ha fun e he => ?_
    simp only [hsec e he, h, hl, hinh e he, hi, hlev e he, hp, ne_eq, not_true_eq_false, if_false, Option.isSome_none, Bool.false_eq_true]
    exact ⟨(Kept.refl e).withSec _ (by simp), trivial⟩

omit ha in
/-- The end of a lifecycle transition that the one-way table holds (R523, R253). -/
theorem effectOtp_lcTransitionDone (hs : s.held = false) {dest : Nat} (hl : s.dev.sec.lcTo = some dest) (hd : lcAllowed s.otp dest = true) :
    EffectOtp .lcTransitionDone s (.sec .LC_RESULT_LAST :: .sec .EVT_LC_CHG :: chalRegs)
      (([.sec, .irqs] : List Part) ++ (if dest = 3 then [.cry, .mem, .marks, .writeBacks] else [])) (fun o t =>
        o = { s.otp with lc := dest } ∧ t.rd (.sec .LC_RESULT_LAST) = 0 ∧ t.rd (.sec .EVT_LC_CHG) = 1 ∧ t.sec.lcTo = none ∧
        (dest = 3 → t.cry.keys = [] ∧ ∀ k, 64 * saLine 0 0 ≤ k → k < 64 * (saLine 0 0 + 4096) → Mem.get t.mem k = 0)) := by
  refine effectOtp_runOtp (x := execLcTransitionDone s) rfl rfl hs ?_
  simp only [hl]
  have hk := (((Kept.refl s.dev).withSec (F := .sec .LC_RESULT_LAST :: .sec .EVT_LC_CHG :: chalRegs)
    (P := ([.sec, .irqs] : List Part) ++ (if dest = 3 then [.cry, .mem, .marks, .writeBacks] else []))
    { s.dev.sec with lcTo := none } (by simp)).wr 0 (f := .sec .LC_RESULT_LAST) (by simp))
  have hc := kept_newChallenge hk (by simp)
  have hq : Kept chalRegs [] (Dev.wr { s.dev with sec := { s.dev.sec with lcTo := none } } (.sec .LC_RESULT_LAST) 0)
    (Dev.wr { s.dev with sec := { s.dev.sec with lcTo := none } } (.sec .LC_RESULT_LAST) 0).newChallenge :=
    kept_newChallenge (.refl _) (fun _ h => h)
  have hrd := hq.rd (f := .sec .LC_RESULT_LAST) (by simp [chalRegs]) rfl
  have hsec : (Dev.wr { s.dev with sec := { s.dev.sec with lcTo := none } } (.sec .LC_RESULT_LAST) 0).newChallenge.sec =
    { s.dev.sec with lcTo := none } := hq.same (x := .sec) (by simp)
  generalize (Dev.wr { s.dev with sec := { s.dev.sec with lcTo := none } } (.sec .LC_RESULT_LAST) 0).newChallenge = g at hc hrd hsec ⊢
  rw [Dev.rd_wr, if_pos rfl] at hrd
  have hkw := hc.withSec { g.sec with tokenChal := g.challenge } (by simp)
  rw [Otp.transition, if_pos hd]
  by_cases h3 : dest = 3
  · subst h3
    refine ⟨kept_secEvent (kept_zeroiseKeys hkw (by simp) (by simp) (by simp) (by simp)) _ (by simp) (by simp), rfl, ?_, ?_, ?_, fun _ => ⟨?_, ?_⟩⟩
    · rw [Dev.rd_secEvent, Dev.rd_wr, if_neg (by simp)]
      exact hrd
    · rw [Dev.rd_secEvent, Dev.rd_wr, if_pos rfl]
      rfl
    · rw [Dev.sec_secEvent]
      exact congrArg Sec.lcTo hsec
    · rw [Dev.cry_secEvent]
      rfl
    · intro k hk hk'
      have hm := (kept_secEvent (F := [.sec .EVT_LC_CHG]) (P := [.irqs]) (.refl (Dev.zeroiseKeys { g with sec := { g.sec with tokenChal := g.challenge } })) .EVT_LC_CHG
        (by simp) (by simp)).same (x := .mem) (by simp)
      exact (congrArg (Mem.get · k) hm).trans (Mem.get_zeroLines _ _ _ k hk hk')
  · simp only [h3, if_false] at *
    refine ⟨kept_secEvent hkw _ (by simp) (by simp), trivial, ?_, ?_, ?_, fun h => absurd h h3⟩
    · rw [Dev.rd_secEvent, Dev.rd_wr, if_neg (by simp)]
      exact hrd
    · rw [Dev.rd_secEvent, Dev.rd_wr, if_pos rfl]
      rfl
    · rw [Dev.sec_secEvent]
      exact congrArg Sec.lcTo hsec

end

/-! ### Key slots -/

theorem otpStage_of_counted {d e : Dev} (he : Counted d e) (t : Nat) : e.otpStage t = d.otpStage t := by
  simp only [Dev.otpStage, he.rd (.sec (.OTP_STAGE_DATA _)) rfl]

section
variable {s : State} (ha : Awake s) (target : Fin 8)
include ha

/-- An OTP command that ends at once with a result. -/
theorem otpRefused {c : Sys2Proof.Instr} {x : Host.Outcome State Fault Refusal} {f : Otp → Dev → Dev} {code : Nat} (hx : exec c s = x)
    (hw : x = s.hostWith f) (hf : ∀ e, Counted s.dev e → f s.otp e = e.otpResult code) (hc : code < 8) :
    Effect c s otpRegs [] (fun t => OtpEnded t code) :=
  .hostWith hx hw ha fun e he => by
    rw [hf e he]
    exact ⟨kept_otpResult (.refl e) _ (fun _ h => h), otpEnded_otpResult e hc⟩

/-- The checks of OTP_PROGRAM (R524). -/
theorem effect_otpProgram {code : Nat} (ho : s.dev.sec.otpOp = none) (h1 : 1 ≤ target.val) (h4 : target.val ≤ 4)
    (hcode : code = (if s.otp.lc ≠ 0 then 1 else if s.otp.programmed target then 2 else if s.dev.inhibited then 3
      else if target ≠ 4 ∧ Config.onCurve (s.dev.otpStage target) = false then 4 else 0)) :
    (code ≠ 0 → Effect (.otpProgram target) s otpRegs [] (fun t => OtpEnded t code)) ∧
    (code = 0 → Effect (.otpProgram target) s [] [.sec] (fun t =>
      t.sec = { s.dev.sec with otpOp := some (.program target (s.dev.otpStage target)) })) := by
  have h4' : target ≠ 4 ↔ target.val ≠ 4 := by simp [Fin.ext_iff]
  have hfree : ∀ e, Counted s.dev e → ¬ (e.sec.otpOp.isSome = true ∨ target.val = 0 ∨ 4 < target.val) := fun e he => by
    rw [counted_sec he, ho]
    simp
    omega
  have hinh : ∀ e, Counted s.dev e → e.inhibited = s.dev.inhibited := fun e he => he.is _ rfl
  subst hcode
  refine ⟨fun hc => ?_, fun hc => ?_⟩
  · refine otpRefused ha (x := execOtpProgram target s) rfl rfl (fun e he => ?_) (by split_ifs <;> decide)
    dsimp only
    rw [if_neg (hfree e he), hinh e he, otpStage_of_counted he]
    simp only [h4'] at hc ⊢
    simp only [Bool.not_eq_true']
    split_ifs at hc ⊢
    · rfl
    · rfl
    · rfl
    · rfl
    · exact absurd rfl hc
  · refine .hostWith (x := execOtpProgram target s) rfl rfl ha fun e he => ?_
    have hsec := counted_sec he
    rw [if_neg (hfree e he), hinh e he, otpStage_of_counted he]
    simp only [h4'] at hc
    simp only [Bool.not_eq_true']
    split_ifs at hc ⊢
    exact ⟨(Kept.refl e).withSec _ (by simp), by rw [← hsec]⟩

/-- The checks of OTP_REVOKE (R526). -/
theorem effect_otpRevoke {code : Nat} {other : KeySlot} (ho : s.dev.sec.otpOp = none) (ht : target = 1 ∨ target = 2)
    (hother : other = s.otp.slot (3 - target.val)) (hcode : code = (if s.otp.lc ≠ 1 ∧ s.otp.lc ≠ 2 then 6
      else if !other.prog || other.revoked then 5 else if s.dev.inhibited then 3 else 0)) :
    (code ≠ 0 → Effect (.otpRevoke target) s otpRegs [] (fun t => OtpEnded t code)) ∧
    (code = 0 → Effect (.otpRevoke target) s [] [.sec] (fun t => t.sec = { s.dev.sec with otpOp := some (.revoke target) })) := by
  have hfree : ∀ e, Counted s.dev e → ¬ (e.sec.otpOp.isSome = true ∨ target.val ≠ 1 ∧ target.val ≠ 2) := fun e he => by
    rw [counted_sec he, ho]
    simp [Fin.ext_iff] at ht ⊢
    omega
  have hinh : ∀ e, Counted s.dev e → e.inhibited = s.dev.inhibited := fun e he => he.is _ rfl
  subst hother hcode
  refine ⟨fun hc => ?_, fun hc => ?_⟩
  · refine otpRefused ha (x := execOtpRevoke target s) rfl rfl (fun e he => ?_) (by split_ifs <;> decide)
    dsimp only
    rw [if_neg (hfree e he), hinh e he]
    simp only [Bool.or_eq_true] at hc ⊢
    split_ifs at hc ⊢
    · rfl
    · rfl
    · rfl
    · exact absurd rfl hc
  · refine .hostWith (x := execOtpRevoke target s) rfl rfl ha fun e he => ?_
    have hsec := counted_sec he
    rw [if_neg (hfree e he), hinh e he]
    simp only [Bool.or_eq_true] at hc ⊢
    split_ifs at hc ⊢
    exact ⟨(Kept.refl e).withSec _ (by simp), by rw [← hsec]⟩

/-- A write in progress, or a target that the command does not write, leaves OTP_PROGRAM and OTP_REVOKE without effect (R524, R526). -/
theorem effect_otpIdle :
    (s.dev.sec.otpOp ≠ none ∨ target = 0 ∨ 4 < target.val → Effect (.otpProgram target) s [] [] (fun _ => True)) ∧
    (s.dev.sec.otpOp ≠ none ∨ (target ≠ 1 ∧ target ≠ 2) → Effect (.otpRevoke target) s [] [] (fun _ => True)) := by
  refine ⟨fun h => .hostWith (x := execOtpProgram target s) rfl rfl ha fun e he => ?_,
    fun h => .hostWith (x := execOtpRevoke target s) rfl rfl ha fun e he => ?_⟩
  · rw [counted_sec he, if_pos (by rw [Option.isSome_iff_ne_none]; exact h.imp_right (.imp_left (congrArg Fin.val)))]
    exact ⟨.refl e, trivial⟩
  · rw [counted_sec he, if_pos (by rw [Option.isSome_iff_ne_none]; exact h.imp_right (.imp Fin.val_ne_of_ne Fin.val_ne_of_ne))]
    exact ⟨.refl e, trivial⟩

end

/-! ### The one-time-programmable memory after a write -/

section
variable (o : Otp) (k j : Nat) (v : List Byte)

/-- A slot replaced. -/
theorem Otp.slot_modSlot (f : KeySlot → KeySlot) (h : k < 4) :
    ({ o with slots := bankAt 4 {} o.slots k f } : Otp).slot j = if j = k then f (o.slot k) else o.slot j := by
  rw [Otp.slot, getD_bankAt]
  simp only [h, and_true]
  rfl

theorem Otp.slot_burn (h : k < 4) : (o.burn k v).slot j = if j = k then { o.slot k with
    bits := (List.range (o.bits k).length).map (fun i => (o.bits k).getD i 0 ||| v.getD i 0) } else o.slot j := by
  rw [Otp.burn, if_neg (by omega), Otp.slot_modSlot _ _ _ _ h]

theorem Otp.slot_markProg (h : k < 4) : (o.markProg k).slot j = if j = k then { o.slot k with prog := true } else o.slot j := by
  rw [Otp.markProg, if_neg (by omega), Otp.slot_modSlot _ _ _ _ h]

/-- The bits of a target after it is programmed: those written before or now. -/
theorem Otp.bits_programmed (h : k ≤ 4) : ((o.burn k v).markProg k).bits j =
    if j = k then (List.range (o.bits k).length).map (fun i => (o.bits k).getD i 0 ||| v.getD i 0) else o.bits j := by
  rcases h.lt_or_eq with h | rfl
  · by_cases h4 : j = 4
    · subst h4
      simp [Otp.bits, Otp.markProg, Otp.burn, h.ne, h.ne']
    · rw [Otp.bits, if_neg h4, Otp.slot_markProg _ _ _ h, Otp.slot_burn _ _ _ _ h, Otp.slot_burn _ _ _ _ h]
      by_cases hj : j = k
      · simp [hj]
      · simp [hj, Otp.bits, h4]
  · by_cases hj : j = 4
    · simp [hj, Otp.bits, Otp.markProg, Otp.burn]
    · simp [hj, Otp.bits, Otp.markProg, Otp.burn, Otp.slot]

/-- Only the target is marked programmed. -/
theorem Otp.programmed_programmed (h : k ≤ 4) : ((o.burn k v).markProg k).programmed j = if j = k then true else o.programmed j := by
  rcases h.lt_or_eq with h | rfl
  · by_cases h4 : j = 4
    · subst h4
      simp [Otp.programmed, Otp.markProg, Otp.burn, h.ne, h.ne']
    · rw [Otp.programmed, if_neg h4, Otp.slot_markProg _ _ _ h, Otp.slot_burn _ _ _ _ h, Otp.slot_burn _ _ _ _ h]
      by_cases hj : j = k
      · simp [hj]
      · simp [hj, Otp.programmed, h4]
  · by_cases hj : j = 4
    · simp [hj, Otp.programmed, Otp.markProg, Otp.burn]
    · simp [hj, Otp.programmed, Otp.markProg, Otp.burn, Otp.slot]

theorem Otp.programmed_keeps : ((o.burn k v).markProg k).lc = o.lc ∧ ((o.burn k v).markProg k).arb = o.arb := by
  by_cases h : k = 4
  · simp [Otp.markProg, Otp.burn, h]
  · simp [Otp.markProg, Otp.burn, h]

end

section
variable {s : State} (hs : s.held = false)
include hs

/-- The device after the end of an OTP write (R524). -/
def Dev.otpDone (d : Dev) (code : Nat) : Dev := (Dev.otpResult { d with sec := { d.sec with otpOp := none } } code).secEvent .EVT_OTP_DONE

omit hs in
theorem otpDone_effect (d : Dev) {code : Nat} (hc : code < 8) : Kept (.sec .EVT_OTP_DONE :: otpRegs) [.sec, .irqs] d (d.otpDone code) ∧
    OtpEnded (d.otpDone code) code ∧ (d.otpDone code).rd (.sec .EVT_OTP_DONE) = 1 ∧ (d.otpDone code).sec = { d.sec with otpOp := none } := by
  refine ⟨kept_secEvent (kept_otpResult ((Kept.refl d).withSec _ (by simp)) code (by simp)) _ (by simp) (by simp),
    otpEnded_secEvent (otpEnded_otpResult _ hc), ?_, ?_⟩
  · rw [Dev.otpDone, Dev.rd_secEvent, Dev.rd_wr, if_pos rfl]
    rfl
  · rw [Dev.otpDone, Dev.sec_secEvent, Dev.sec_otpResult]

/-- The end of a programming (R524). -/
theorem effect_otpWriteDone_program {k : Nat} {v : List Byte} (ho : s.dev.sec.otpOp = some (.program k v)) (h4 : k ≤ 4) :
    (s.otp.clash k v = true →
      Effect .otpWriteDone s (.sec .EVT_OTP_DONE :: otpRegs) [.sec, .irqs] (fun t => OtpEnded t 2 ∧ t.rd (.sec .EVT_OTP_DONE) = 1 ∧
        t.sec = { s.dev.sec with otpOp := none })) ∧
    (s.otp.clash k v = false →
      EffectOtp .otpWriteDone s (.sec .EVT_OTP_DONE :: otpRegs) [.sec, .irqs] (fun o t => OtpEnded t 0 ∧
        t.sec = { s.dev.sec with otpOp := none } ∧ o.programmed k = true ∧ o.lc = s.otp.lc ∧ o.arb = s.otp.arb ∧
        (o.bits k).length = (s.otp.bits k).length ∧
        (∀ i, i < (s.otp.bits k).length → (o.bits k).getD i 0 = (s.otp.bits k).getD i 0 ||| v.getD i 0) ∧
        (∀ j, j < 5 → j ≠ k → o.programmed j = s.otp.programmed j ∧ o.bits j = s.otp.bits j))) := by
  refine ⟨fun hcl => ?_, fun hcl => effectOtp_runOtp (x := execOtpWriteDone s) rfl rfl hs ?_⟩
  · obtain ⟨hk, hend, hevt, hsec⟩ := otpDone_effect s.dev (code := 2) (by decide)
    have hx : exec .otpWriteDone s = .next { s with dev := s.dev.otpDone 2 } := by
      show execOtpWriteDone s = _
      rw [execOtpWriteDone, State.runOtp_live s _ hs]
      simp only [ho, hcl, if_true]
      rfl
    exact .of_next hx hk ⟨hend, hevt, hsec⟩
  · obtain ⟨hk, hend, -, hsec⟩ := otpDone_effect s.dev (code := 0) (by decide)
    obtain ⟨hlc, harb⟩ := s.otp.programmed_keeps k v
    have hbits := fun j => s.otp.bits_programmed k j v h4
    have hprog := fun j => s.otp.programmed_programmed k j v h4
    simp only [ho, hcl, Bool.false_eq_true, if_false]
    refine ⟨hk, hend, hsec, ?_, hlc, harb, ?_, fun i hi => ?_, fun j _ hj => ⟨?_, ?_⟩⟩
    · simp [hprog]
    · simp [hbits]
    · simp [hbits, hi]
    · simp [hprog, hj]
    · simp [hbits, hj]

/-- The end of a revocation (R526). -/
theorem effectOtp_otpWriteDone_revoke {k : Nat} (ho : s.dev.sec.otpOp = some (.revoke k)) (h4 : k < 4) :
    EffectOtp .otpWriteDone s (.sec .EVT_OTP_DONE :: otpRegs) [.sec, .irqs] (fun o t => OtpEnded t 0 ∧
      t.sec = { s.dev.sec with otpOp := none } ∧ o.slot k = { s.otp.slot k with revoked := true } ∧
      ∀ j, j < 4 → j ≠ k → o.slot j = s.otp.slot j) := by
  obtain ⟨hk, hend, -, hsec⟩ := otpDone_effect s.dev (code := 0) (by decide)
  refine effectOtp_runOtp (x := execOtpWriteDone s) rfl rfl hs ?_
  simp only [ho]
  refine ⟨hk, hend, hsec, ?_, fun j _ hj => ?_⟩
  · rw [Otp.slot_modSlot _ _ _ _ h4, if_pos rfl]
  · rw [Otp.slot_modSlot _ _ _ _ h4, if_neg hj]

/-- The end of an advance of the anti-rollback counter (R531). -/
theorem effectOtp_arbAdvanceDone {n : Nat} (hn : s.dev.sec.arbTo = some n) :
    EffectOtp .arbAdvanceDone s [.sec .ARB_STATUS_RESULT, .sec .EVT_ARB_DONE] [.sec, .irqs] (fun o t =>
      o = { s.otp with arb := max s.otp.arb n } ∧ t.rd (.sec .ARB_STATUS_RESULT) = 0 ∧ t.rd (.sec .EVT_ARB_DONE) = 1 ∧
      t.sec = { s.dev.sec with arbTo := none }) := by
  refine effectOtp_runOtp (x := execArbAdvanceDone s) rfl rfl hs ?_
  simp only [hn]
  refine ⟨kept_secEvent (((Kept.refl _).withSec _ (by simp)).wr _ (by simp)) _ (by simp) (by simp), rfl, ?_, ?_, ?_⟩
  · simp [Dev.rd_secEvent, Dev.rd_wr]
  · simp [Dev.rd_secEvent, Dev.rd_wr]
  · rw [Dev.sec_secEvent]
    rfl

end

/-! ### The anti-rollback counter -/

section
variable {s : State} (ha : Awake s) (value : Fin 128)
include ha

theorem effect_arbAdvance_busy (hn : s.dev.sec.arbTo ≠ none) : Effect (.arbAdvance value) s [] [] (fun _ => True) :=
  .hostWith (x := execArbAdvance value s) rfl rfl ha fun e he => by
    dsimp only
    rw [if_pos (by simpa [counted_sec he, Option.isSome_iff_ne_none] using hn)]
    exact ⟨.refl e, trivial⟩

/-- The checks of ARB_ADVANCE (R531). -/
theorem effect_arbAdvance {code : Nat} (hn : s.dev.sec.arbTo = none)
    (hcode : code = (if value.val ≤ s.otp.arb then 1 else if 64 < value.val then 2
      else if !s.dev.loaded || !s.dev.sealed || s.dev.rd (.cfg .IMAGE_VER_VALUE) < value.val then 3
      else if s.otp.lc ≠ 1 ∧ s.otp.lc ≠ 2 then 4 else if s.dev.d2 then 5 else if s.dev.inhibited then 6 else 0)) :
    (code ≠ 0 → Effect (.arbAdvance value) s [.sec .ARB_STATUS_RESULT] [] (fun t => t.rd (.sec .ARB_STATUS_RESULT) = code)) ∧
    (code = 0 → Effect (.arbAdvance value) s [] [.sec] (fun t => t.sec = { s.dev.sec with arbTo := some value.val })) := by
  have hlt : code < 8 := by
    rw [hcode]
    split_ifs <;> decide
  have hread : ∀ e, Counted s.dev e → e.loaded = s.dev.loaded ∧ e.d2 = s.dev.d2 ∧ e.sealed = s.dev.sealed ∧ e.inhibited = s.dev.inhibited :=
    fun e he => ⟨by rw [Dev.loaded, he.rd _ rfl, Dev.loaded], by rw [Dev.d2, he.rd _ rfl, Dev.d2], he.is _ rfl, he.is _ rfl⟩
  have hres : ∀ e, Counted s.dev e → code ≠ 0 → Kept [.sec .ARB_STATUS_RESULT] [] e (e.wr (.sec .ARB_STATUS_RESULT) code) ∧
      (e.wr (.sec .ARB_STATUS_RESULT) code).rd (.sec .ARB_STATUS_RESULT) = code :=
    fun e _ _ => ⟨(Kept.refl e).wr _ (by simp), by simp [Nat.mod_eq_of_lt hlt]⟩
  refine ⟨fun hc => .hostWith (x := execArbAdvance value s) rfl rfl ha fun e he => ?_,
    fun hc => .hostWith (x := execArbAdvance value s) rfl rfl ha fun e he => ?_⟩
  · replace hres := hres e he hc
    obtain ⟨hl, hd, hse, hi⟩ := hread e he
    dsimp only
    rw [hl, hd, hse, hi, he.rd _ rfl, counted_sec he, hn]
    simp only [Bool.or_eq_true, decide_eq_true_eq, Option.isSome_none, Bool.false_eq_true, if_false, or_assoc] at hcode ⊢
    split_ifs at hcode ⊢
    · exact hcode ▸ hres
    · exact hcode ▸ hres
    · exact hcode ▸ hres
    · exact hcode ▸ hres
    · exact hcode ▸ hres
    · exact hcode ▸ hres
    · exact absurd hcode hc
  · obtain ⟨hl, hd, hse, hi⟩ := hread e he
    have hsec := counted_sec he
    dsimp only
    rw [hl, hd, hse, hi, he.rd _ rfl, hsec, hn]
    subst hcode
    simp only [Bool.or_eq_true, decide_eq_true_eq, Option.isSome_none, Bool.false_eq_true, if_false, or_assoc] at hc ⊢
    split_ifs at hc ⊢
    exact ⟨(Kept.refl e).withSec _ (by simp), rfl⟩

end

/-- Settles O46: every clause by the lemma about its command. -/
theorem lifecycleAndOtp : Obligations.LifecycleAndOtp := fun s target value dest ha => by
  obtain ⟨hbusy, hfree⟩ := effect_lcRequest ha
  obtain ⟨hprog, hrev⟩ := effect_otpIdle ha target
  exact ⟨hbusy, hfree, fun h hd => effectOtp_lcTransitionDone ha.1 h hd, hprog, hrev,
    fun _ ho h1 h4 hc => effect_otpProgram ha target ho h1 h4 hc, fun _ _ ho ht hot hc => effect_otpRevoke ha target ho ht hot hc,
    fun _ _ ho _ h4 => effect_otpWriteDone_program ha.1 ho h4, fun _ ho h4 => effectOtp_otpWriteDone_revoke ha.1 ho h4,
    effect_arbAdvance_busy ha value, fun _ hn hc => effect_arbAdvance ha value hn hc, fun _ hn => effectOtp_arbAdvanceDone ha.1 hn⟩

end Sys2Proof.Machine
end

section
-- The theorems are elaborated in order, which keeps the memory that a check of the whole text takes within its limit.
set_option Elab.async false

/-! SUPPORT.  Ends of ring entries, which may write completions: what they leave of a device (R286, R294 to R299). -/

namespace Sys2Proof.Machine

open Sys2Proof.Safety Sys2Proof.Claims

/-- Of the registers of `d` only those of `p` and performance counters, of its other parts only those of `P`, may differ in `e`. -/
def MovedIn (p : Fld → Bool) (P : List Part) (d e : Dev) : Prop :=
  (∀ f, p f = false → isCount f = false → e.rd f = d.rd f) ∧ PartsKept d e P

section
variable {p : Fld → Bool} {P : List Part} {d e g : Dev}

theorem movedIn_of_kept {F : List Fld} (h : Kept F P d e) (hF : ∀ f ∈ F, p f = true) : MovedIn p P d e :=
  ⟨fun _ hf hc => h.rd (fun hm => Bool.false_ne_true (hf.symm.trans (hF _ hm))) hc, h.2⟩

theorem MovedIn.refl (d : Dev) : MovedIn p P d d := movedIn_of_kept (F := []) (.refl d) (by simp)

theorem MovedIn.trans (h : MovedIn p P d e) (k : MovedIn p P e g) : MovedIn p P d g :=
  ⟨fun f hf hc => (k.1 f hf hc).trans (h.1 f hf hc), fun x hx => (h.2 x hx).trans (k.2 x hx)⟩

theorem MovedIn.mono {q : Fld → Bool} {Q : List Part} (h : MovedIn p P d e) (hp : ∀ f, p f = true → q f = true) (hP : P ⊆ Q) :
    MovedIn q Q d e :=
  ⟨fun f hf hc => h.1 f (Bool.eq_false_iff.mpr fun ht => Bool.false_ne_true (hf.symm.trans (hp f ht))) hc,
    fun x hx => h.2 x fun hm => hx (hP hm)⟩

theorem MovedIn.ite {e' : Dev} (c : Prop) [Decidable c] (h : c → MovedIn p P d e) (k : ¬ c → MovedIn p P d e') :
    MovedIn p P d (if c then e else e') := by
  split
  · exact h ‹_›
  · exact k ‹_›

theorem MovedIn.foldl {α : Type} (l : List α) (f : Dev → α → Dev) (hf : ∀ d x, MovedIn p P d (f d x)) (d : Dev) :
    MovedIn p P d (l.foldl f d) := by
  induction l generalizing d with
  | nil => exact .refl d
  | cons x xs ih => exact (hf d x).trans (ih _)

theorem MovedIn.rd (h : MovedIn p P d e) {f : Fld} (hf : p f = false) (hc : isCount f = false) : e.rd f = d.rd f := h.1 f hf hc

theorem MovedIn.same (h : MovedIn p P d e) {x : Part} (hx : x ∉ P) : x.Same d e := h.2 x hx

end

/-- The parts that ends of ring entries change. -/
def ringParts : List Part := [.out, .hep, .cqSince, .irqs, .due, .sqs]

/-- Only indices that the device moves and the rings' parts differ. -/
abbrev RingsMoved (d e : Dev) : Prop := MovedIn isDeviceIndex ringParts d e

section
variable (d : Dev)

theorem Dev.flushDue_moved : RingsMoved d d.flushDue :=
  (movedIn_of_kept (F := []) ((Kept.refl d).withDue _ (by simp [ringParts])) (by simp)).trans
    (MovedIn.foldl _ _ (fun e x => movedIn_of_kept ((e.cqWrite_kept x).mono (fun _ h => h) (by simp [ringParts])) (by simp [isDeviceIndex])) _)

theorem Dev.pushDueIn_moved (tch : Option Nat) (n idx cookie : Nat) (x : CplEnd) : RingsMoved d (d.pushDueIn tch n idx cookie x) := by
  unfold Dev.pushDueIn
  split
  · exact .refl d
  · exact (movedIn_of_kept (F := []) ((Kept.refl d).withDue _ (by simp [ringParts])) (by simp)).trans (Dev.flushDue_moved _)

theorem Dev.modSq_moved (n : Nat) (g : Sq → Sq) : RingsMoved d (d.modSq n g) :=
  movedIn_of_kept (F := []) ((Kept.refl d).modSq n g (by simp [ringParts])) (by simp)

theorem Dev.abortDrain_moved (n fuel : Nat) : RingsMoved d (d.abortDrain n fuel) := by
  induction fuel generalizing d with
  | zero => exact .refl d
  | succ fuel ih =>
    unfold Dev.abortDrain
    split
    · split
      · exact (d.modSq_moved n _).trans ((Dev.pushDueIn_moved _ _ _ _ _ _).trans (ih _))
      · exact .refl d
    · dsimp only
      split
      · exact .refl d
      · exact .ite _ (fun _ => .refl d) (fun _ => (movedIn_of_kept (F := [.rng (.SQ_INDEX_HEAD n)]) ((Kept.refl d).wr _ (by simp))
          (by simp [isDeviceIndex])).trans ((Dev.pushDueIn_moved _ _ _ _ _ _).trans (ih _)))

/-- A fetched entry's end moves the rings alone (R297, R305, R306). -/
theorem Dev.endEnt_moved (n ser : Nat) (x : CplEnd) : RingsMoved d (d.endEnt n ser x) := by
  unfold Dev.endEnt
  split
  · exact .refl d
  · exact .ite _ (fun _ => (d.modSq_moved n _).trans (Dev.abortDrain_moved _ _ _))
      (fun _ => (d.modSq_moved n _).trans (Dev.pushDueIn_moved _ _ _ _ _ _))

theorem Dev.originEnd_moved (f : Frame) (status flags : Nat) : RingsMoved d (d.originEnd f status flags) := by
  unfold Dev.originEnd
  split
  · exact .refl d
  · exact d.endEnt_moved _ _ _

/-- A frame discarded ends its entry and frees its lines (R299). -/
theorem Dev.discard_moved (f : Frame) : MovedIn isDeviceIndex (.used :: ringParts) d (d.discard f) :=
  ((d.originEnd_moved f 5 0).mono (fun _ h => h) (by simp)).trans
    (movedIn_of_kept (F := []) ((Kept.refl _).withUsed _ (by simp)) (by simp))

end

end Sys2Proof.Machine
end

section
-- The theorems are elaborated in order, which keeps the memory that a check of the whole text takes within its limit.
set_option Elab.async false

/-! SUPPORT.  Debug levels, tokens, the TAP and halts of engines, and the statement they settle (R532 to R540, R604). -/

namespace Sys2Proof.Machine

open Sys2Proof.Safety Sys2Proof.Claims

@[simp] theorem dbgLevel_width : (Fld.sec .DBG_STATUS_LEVEL).width = 2 := rfl
@[simp] theorem dbgResult_width : (Fld.sec .DBG_STATUS_RESULT).width = 4 := rfl
@[simp] theorem dbgFails_width : (Fld.sec .DBG_STATUS_FAILS).width = 4 := rfl
@[simp] theorem dbgLocked_width : (Fld.sec .DBG_STATUS_LOCKED).width = 1 := rfl
@[simp] theorem dbgChg_width : (Fld.sec .EVT_DBG_CHG).width = 1 := rfl
@[simp] theorem tokenDone_width : (Fld.sec .EVT_TOKEN_DONE).width = 1 := rfl
@[simp] theorem stateA_width (p : Nat) : (Fld.eng (.PAIR_STATUS_STATE_A p)).width = 3 := rfl
@[simp] theorem stateB_width (p : Nat) : (Fld.eng (.PAIR_STATUS_STATE_B p)).width = 3 := rfl

/-! ### Debug levels -/

/-- The registers lie outside the security block's state. -/
theorem rd_withSec (d : Dev) (v : Sec) (f : Fld) : ({ d with sec := v } : Dev).rd f = d.rd f := rfl

section
variable {F : List Fld} {P : List Part} {d e : Dev}

theorem kept_setLevel (h : Kept F P d e) (l : Nat) (hl : .sec .DBG_STATUS_LEVEL ∈ F) (hc : .sec .EVT_DBG_CHG ∈ F) (hi : .irqs ∈ P) :
    Kept F P d (e.setLevel l) := kept_secEvent (h.wr _ hl) _ hc hi

theorem Dev.rd_setLevel (d : Dev) (l : Nat) (f : Fld) : (d.setLevel l).rd f = ((d.wr (.sec .DBG_STATUS_LEVEL) l).wr (.sec .EVT_DBG_CHG) 1).rd f :=
  Dev.rd_secEvent _ _ _

@[simp] theorem Dev.sec_setLevel (d : Dev) (l : Nat) : (d.setLevel l).sec = d.sec := Dev.sec_secEvent _ _

end

section
variable {s : State} (ha : Awake s)
include ha

theorem effect_dbgD1Open (h : s.dev.rd (.sec .DBG_STATUS_LEVEL) = 0) :
    Effect .dbgD1Open s [.sec .DBG_STATUS_LEVEL, .sec .EVT_DBG_CHG] [.irqs] (fun t =>
      t.rd (.sec .DBG_STATUS_LEVEL) = 1 ∧ t.rd (.sec .EVT_DBG_CHG) = 1) :=
  .host (x := execDbgD1Open s) rfl rfl ha fun e he => by
    rw [he.rd _ rfl, if_pos h]
    exact ⟨kept_setLevel (.refl e) _ (by simp) (by simp) (by simp), by simp [Dev.rd_setLevel, Dev.rd_wr], by simp [Dev.rd_setLevel, Dev.rd_wr]⟩

theorem effect_dbgClose (h : s.dev.rd (.sec .DBG_STATUS_LEVEL) = 1) :
    Effect .dbgClose s [.sec .DBG_STATUS_LEVEL, .sec .EVT_DBG_CHG] [.irqs] (fun t =>
      t.rd (.sec .DBG_STATUS_LEVEL) = 0 ∧ t.rd (.sec .EVT_DBG_CHG) = 1) :=
  .host (x := execDbgClose s) rfl rfl ha fun e he => by
    rw [Dev.d2, he.rd _ rfl, h, if_neg (by decide), if_pos rfl]
    exact ⟨kept_setLevel (.refl e) _ (by simp) (by simp) (by simp), by simp [Dev.rd_setLevel, Dev.rd_wr], by simp [Dev.rd_setLevel, Dev.rd_wr]⟩

theorem effect_dbgClose_ignored (h : s.dev.rd (.sec .DBG_STATUS_LEVEL) = 2) :
    Effect .dbgClose s [.sec .CNT_CLOSE_IGNORED] [] (fun t => Counts s.dev t (.sec .CNT_CLOSE_IGNORED)) :=
  .host (x := execDbgClose s) rfl rfl ha fun e he => by
    have hr := he.rd (.sec .CNT_CLOSE_IGNORED) rfl
    rw [Dev.d2, he.rd _ rfl, h, if_pos (by decide)]
    exact ⟨(Kept.refl e).inc (by simp), by simp [Counts, Dev.rd_inc, hr]⟩

end

/-! ### Tokens -/

theorem challenge_of_counted {d e : Dev} (he : Counted d e) : e.challenge = d.challenge := by
  simp only [Dev.challenge, he.rd (.sec (.DBG_CHAL_CHAL _)) rfl]

/-- A token submitted while none is under verification. -/
theorem submitToken_submitted (d : Dev) (t : List Byte) (ht : d.sec.token = none) :
    Kept (chalRegs ++ tokenRegs) [.sec] d (d.submitToken t) ∧ Submitted d (d.submitToken t) t := by
  have hrow := fun i : Fin 40 => Dev.rd_wrs_row { d with sec := { d.sec with token := some t, tokenChal := d.challenge } }
    (fun i => .sec (.DBG_TOKEN_DATA i)) (fun _ => 0) (fun a b h => by simpa using h) 40 i i.isLt
  have hk := ((Kept.refl d).withSec (F := chalRegs ++ tokenRegs) (P := [.sec]) { d.sec with token := some t, tokenChal := d.challenge } (by simp)).wrs
    ((List.range 40).map fun i => (.sec (.DBG_TOKEN_DATA i), 0)) (fun x hx => by
      obtain ⟨i, hi, rfl⟩ := List.mem_map.mp hx
      exact List.mem_append_right _ (List.mem_map_of_mem hi))
  have hsec := (Dev.wrs_kept ({ d with sec := { d.sec with token := some t, tokenChal := d.challenge } } : Dev)
    ((List.range 40).map fun i => (.sec (.DBG_TOKEN_DATA i), 0))).same (x := .sec) (by simp)
  rw [Dev.submitToken, ht]
  simp only [Option.isSome_none, Bool.false_eq_true, if_false]
  generalize Dev.wrs { d with sec := { d.sec with token := some t, tokenChal := d.challenge } }
    ((List.range 40).map fun i => (.sec (.DBG_TOKEN_DATA i), 0)) = e at hrow hk hsec ⊢
  have hc : Kept chalRegs [] e e.newChallenge := kept_newChallenge (.refl e) fun _ h => h
  have hnew : e.newChallenge.sec = e.sec := hc.same (x := .sec) (by simp)
  refine ⟨kept_newChallenge hk (List.subset_append_left _ _), hnew.trans hsec, fun i => ?_⟩
  rw [hc.rd (by simp [chalRegs]) rfl, hrow]
  simp

theorem effect_dbgTokenSubmit {s : State} (ha : Awake s) (ht : s.dev.sec.token = none) :
    Effect .dbgTokenSubmit s (chalRegs ++ tokenRegs) [.sec] (fun t =>
      Submitted s.dev t ((List.range 40).flatMap (fun i => leBytes 4 (s.dev.rd (.sec (.DBG_TOKEN_DATA i)))))) :=
  .host (x := execDbgTokenSubmit s) rfl rfl ha fun e he => by
    have hsec := counted_sec he
    obtain ⟨hk, hsub, hzero⟩ := submitToken_submitted e ((List.range 40).flatMap fun i => leBytes 4 (e.rd (.sec (.DBG_TOKEN_DATA i))))
      (hsec ▸ ht)
    rw [hsec, challenge_of_counted he] at hsub
    simp only [he.rd (.sec (.DBG_TOKEN_DATA _)) rfl] at hk hsub hzero ⊢
    exact ⟨hk, hsub, hzero⟩

/-- The device whose token under verification has been judged. -/
def Dev.tokenJudged (d : Dev) : Dev := { d with sec := { d.sec with token := none } }

theorem kept_tokenJudged {F : List Fld} {P : List Part} (d : Dev) (hP : .sec ∈ P) : Kept F P d d.tokenJudged := (Kept.refl d).withSec _ hP

/-- Only the security block's registers of a judged token, the pipelines' count and rings' indices. -/
def flushFields (f : Fld) : Bool := isDeviceIndex f || f = .cry (.CNT_COUNT 10)

/-- Frames in the pipelines dropped leave the reports, the security block and every register but indices and the count (R537). -/
theorem Dev.cryFlush_moved (d : Dev) : MovedIn flushFields (.cry :: .used :: ringParts) d d.cryFlush := by
  refine MovedIn.trans (MovedIn.foldl _ _ (fun e j => ?_) d) (movedIn_of_kept (F := []) ((Kept.refl _).withCry _ (by simp)) (by simp))
  exact (movedIn_of_kept (F := [.cry (.CNT_COUNT 10)]) ((Kept.refl e).inc (by simp)) (by simp [flushFields])).trans
    ((Dev.discard_moved _ _).mono (fun f hf => by simp [flushFields, hf]) (by simp))

section
variable {s : State} (hs : s.held = false) {token : List Byte} (ht : s.dev.sec.token = some token)
include hs ht

theorem exec_dbgTokenChecked_accepted (hc : 0 = tokenCode s.otp s.dev token) :
    exec .dbgTokenChecked s = .next { s with dev := (s.dev.tokenJudged.acceptToken (token.getD 4 0).toNat).secEvent .EVT_TOKEN_DONE } := by
  show execDbgTokenChecked s = _
  rw [execDbgTokenChecked, State.runWith_live s _ hs]
  simp only [ht, ← hc, if_true]
  rfl

theorem exec_dbgTokenChecked_refused {code : Nat} (hc : code = tokenCode s.otp s.dev token) (h0 : code ≠ 0) :
    exec .dbgTokenChecked s = .next { s with dev := (s.dev.tokenJudged.refuseToken code).secEvent .EVT_TOKEN_DONE } := by
  show execDbgTokenChecked s = _
  rw [execDbgTokenChecked, State.runWith_live s _ hs]
  simp only [ht, ← hc, h0, if_false]
  rfl

/-- A token for D1 (R536). -/
theorem effect_tokenD1 (hc : 0 = tokenCode s.otp s.dev token) (h1 : (token.getD 4 0).toNat = 1) :
    Effect .dbgTokenChecked s
      [.sec .DBG_STATUS_RESULT, .sec .DBG_STATUS_FAILS, .sec .DBG_STATUS_LEVEL, .sec .EVT_DBG_CHG, .sec .EVT_TOKEN_DONE] [.sec, .irqs]
      (fun t => t.rd (.sec .DBG_STATUS_RESULT) = 0 ∧ t.rd (.sec .DBG_STATUS_FAILS) = 0 ∧ t.rd (.sec .DBG_STATUS_LEVEL) = 1 ∧
        t.rd (.sec .EVT_TOKEN_DONE) = 1 ∧ t.sec = { s.dev.sec with token := none }) := by
  refine .of_next (exec_dbgTokenChecked_accepted hs ht hc) ?_ ?_
  · rw [Dev.acceptToken, h1]
    exact kept_secEvent (kept_setLevel ((kept_tokenJudged _ (by simp)).wrs _ (by simp)) _ (by simp) (by simp) (by simp)) _ (by simp) (by simp)
  · rw [Dev.acceptToken, h1]
    simp [Dev.rd_secEvent, Dev.rd_setLevel, Dev.rd_wr]
    rfl

/-- A token for D2 (R536, R537). -/
theorem completes_tokenD2 (hc : 0 = tokenCode s.otp s.dev token) (h2 : (token.getD 4 0).toNat = 2) :
    Completes .dbgTokenChecked s (fun t => t.rd (.sec .DBG_STATUS_LEVEL) = 2 ∧ t.rd (.sec .DBG_STATUS_FAILS) = 0 ∧
      Reports s.dev t 19 0 ∧ t.cry.keys = [] ∧ t.cry.pipes = [{}, {}] ∧ t.rd (.sec .EVT_TOKEN_DONE) = 1 ∧
      ∀ k, 64 * saLine 0 0 ≤ k → k < 64 * (saLine 0 0 + 4096) → Mem.get t.mem k = 0) := by
  have hx := exec_dbgTokenChecked_accepted hs ht hc
  rw [Dev.acceptToken, h2] at hx
  simp only [if_neg (show ¬ (2 : Nat) = 1 by decide), if_true, Dev.openD2] at hx
  have hfl := (((s.dev.tokenJudged.wrs [(.sec .DBG_STATUS_RESULT, 0), (.sec .DBG_STATUS_FAILS, 0)]).fault 19 0)).cryFlush_moved
  have hpipe : (((s.dev.tokenJudged.wrs [(.sec .DBG_STATUS_RESULT, 0), (.sec .DBG_STATUS_FAILS, 0)]).fault 19 0)).cryFlush.cry.pipes = [{}, {}] := rfl
  have hfails := hfl.rd (f := .sec .DBG_STATUS_FAILS) rfl rfl
  have hrep : _ = _ := hfl.same (x := .toSafe) (by simp [ringParts])
  generalize (((s.dev.tokenJudged.wrs [(.sec .DBG_STATUS_RESULT, 0), (.sec .DBG_STATUS_FAILS, 0)]).fault 19 0)).cryFlush = g at hx hpipe hfails hrep
  have hlast : Kept [.sec .DBG_STATUS_LEVEL, .sec .EVT_DBG_CHG, .sec .EVT_TOKEN_DONE] [.irqs] g.zeroiseKeys
      ((g.zeroiseKeys.setLevel 2).secEvent .EVT_TOKEN_DONE) :=
    kept_secEvent (kept_setLevel (.refl _) _ (by simp) (by simp) (by simp)) _ (by simp) (by simp)
  have hcry : _ = _ := hlast.same (x := .cry) (by simp)
  have hmem : _ = _ := hlast.same (x := .mem) (by simp)
  have hsafe : _ = _ := hlast.same (x := .toSafe) (by simp)
  refine ⟨_, hx, rfl, rfl, ?_, ?_, ?_, ?_, ?_, ?_, fun k hk hk' => ?_⟩
  · simp [Dev.rd_secEvent, Dev.rd_setLevel, Dev.rd_wr]
  · rw [hlast.rd (by simp) rfl]
    exact hfails.trans (show (s.dev.tokenJudged.wrs _).rd _ = 0 by simp [Dev.rd_wr])
  · exact hsafe.trans hrep
  · exact congrArg Cry.keys hcry
  · exact (congrArg Cry.pipes hcry).trans hpipe
  · simp [Dev.rd_secEvent, Dev.rd_wr]
  · exact (congrArg (Mem.get · k) hmem).trans (Mem.get_zeroLines _ _ _ k hk hk')

/-- A token for RMA (R536). -/
theorem effect_tokenRma (hc : 0 = tokenCode s.otp s.dev token) (h3 : (token.getD 4 0).toNat = 3) :
    Effect .dbgTokenChecked s [.sec .DBG_STATUS_RESULT, .sec .DBG_STATUS_FAILS, .sec .EVT_TOKEN_DONE] [.sec, .irqs] (fun t =>
      t.rd (.sec .DBG_STATUS_RESULT) = 0 ∧ t.rd (.sec .DBG_STATUS_FAILS) = 0 ∧ t.rd (.sec .EVT_TOKEN_DONE) = 1 ∧
      t.sec = { s.dev.sec with
        token := none
        lcTo := some 3 }) := by
  refine .of_next (exec_dbgTokenChecked_accepted hs ht hc) ?_ ?_
  · rw [Dev.acceptToken, h3]
    exact kept_secEvent (((kept_tokenJudged _ (by simp)).wrs _ (by simp)).withSec _ (by simp)) _ (by simp) (by simp)
  · rw [Dev.acceptToken, h3]
    have hend : ∀ g : Dev, Kept [.sec .EVT_TOKEN_DONE] [.irqs] g (g.secEvent .EVT_TOKEN_DONE) := fun g =>
      kept_secEvent (.refl g) _ (by simp) (by simp)
    exact ⟨((hend _).rd (by simp) rfl).trans (show (s.dev.tokenJudged.wrs _).rd _ = 0 by simp [Dev.rd_wr]),
      ((hend _).rd (by simp) rfl).trans (show (s.dev.tokenJudged.wrs _).rd _ = 0 by simp [Dev.rd_wr]),
      by simp [Dev.rd_secEvent, Dev.rd_wr], Dev.sec_secEvent _ _⟩

/-- A refused token (R536). -/
theorem effect_tokenRefused {code : Nat} (hc : code = tokenCode s.otp s.dev token) (h0 : code ≠ 0) :
    Effect .dbgTokenChecked s
      [.sec .DBG_STATUS_RESULT, .sec .DBG_STATUS_FAILS, .sec .DBG_STATUS_LOCKED, .sec .CNT_TOKEN_FAIL, .sec .EVT_TOKEN_DONE] [.sec, .irqs]
      (fun t => t.rd (.sec .DBG_STATUS_RESULT) = code ∧ Counts s.dev t (.sec .CNT_TOKEN_FAIL) ∧ t.rd (.sec .EVT_TOKEN_DONE) = 1 ∧
        t.sec = { s.dev.sec with token := none } ∧
        (2 ≤ code → code ≤ 7 → s.dev.rd (.sec .DBG_STATUS_FAILS) < 8 →
          t.rd (.sec .DBG_STATUS_FAILS) = s.dev.rd (.sec .DBG_STATUS_FAILS) + 1 ∧
          t.rd (.sec .DBG_STATUS_LOCKED) = (if s.dev.rd (.sec .DBG_STATUS_FAILS) = 7 then 1 else s.dev.rd (.sec .DBG_STATUS_LOCKED))) ∧
        (code < 2 ∨ 7 < code → t.rd (.sec .DBG_STATUS_FAILS) = s.dev.rd (.sec .DBG_STATUS_FAILS) ∧
          t.rd (.sec .DBG_STATUS_LOCKED) = s.dev.rd (.sec .DBG_STATUS_LOCKED))) := by
  have hx := exec_dbgTokenChecked_refused hs ht hc h0
  have hlt : code < 16 := by
    rw [hc, tokenCode]
    split_ifs <;> decide
  have hk : Kept [.sec .DBG_STATUS_RESULT, .sec .CNT_TOKEN_FAIL] [.sec] s.dev ((s.dev.tokenJudged.wr (.sec .DBG_STATUS_RESULT) code).inc (.sec .CNT_TOKEN_FAIL)) :=
    ((kept_tokenJudged _ (by simp)).wr _ (by simp)).inc (by simp)
  have hres : ((s.dev.tokenJudged.wr (.sec .DBG_STATUS_RESULT) code).inc (.sec .CNT_TOKEN_FAIL)).rd (.sec .DBG_STATUS_RESULT) = code := by
    simp [Dev.rd_inc, Dev.rd_wr, Nat.mod_eq_of_lt hlt]
  have hcnt : Counts s.dev ((s.dev.tokenJudged.wr (.sec .DBG_STATUS_RESULT) code).inc (.sec .CNT_TOKEN_FAIL)) (.sec .CNT_TOKEN_FAIL) := by
    simp [Counts, Dev.rd_inc, Dev.rd_wr, Dev.tokenJudged, rd_withSec]
  have hsec : ((s.dev.tokenJudged.wr (.sec .DBG_STATUS_RESULT) code).inc (.sec .CNT_TOKEN_FAIL)).sec = { s.dev.sec with token := none } := rfl
  rw [Dev.refuseToken] at hx
  generalize (s.dev.tokenJudged.wr (.sec .DBG_STATUS_RESULT) code).inc (.sec .CNT_TOKEN_FAIL) = e at hx hk hres hcnt hsec
  have hf := hk.rd (f := .sec .DBG_STATUS_FAILS) (by simp) rfl
  have hl := hk.rd (f := .sec .DBG_STATUS_LOCKED) (by simp) rfl
  replace hk := hk.mono (F' := [.sec .DBG_STATUS_RESULT, .sec .DBG_STATUS_FAILS, .sec .DBG_STATUS_LOCKED, .sec .CNT_TOKEN_FAIL,
    .sec .EVT_TOKEN_DONE]) (P' := [.sec, .irqs]) (by simp) (by simp)
  by_cases h27 : 2 ≤ code ∧ code ≤ 7
  · rw [if_pos h27] at hx
    dsimp only at hx
    refine .of_next hx (kept_secEvent (.ite _ (fun _ => (hk.wr _ (by simp)).wr _ (by simp)) (fun _ => hk.wr _ (by simp))) _ (by simp) (by simp)) ?_
    refine ⟨?_, ?_, by simp [Dev.rd_secEvent, Dev.rd_wr], ?_, fun _ _ h8 => ⟨?_, ?_⟩, fun h => by omega⟩
    · split <;> simp [Dev.rd_secEvent, Dev.rd_wr, hres]
    · split <;> simpa [Counts, Dev.rd_secEvent, Dev.rd_wr] using hcnt
    · rw [Dev.sec_secEvent]
      split <;> exact hsec
    · split <;> simp [Dev.rd_secEvent, Dev.rd_wr, hf] <;> omega
    · split <;> simp [Dev.rd_secEvent, Dev.rd_wr, hl, hf] <;> omega
  · rw [if_neg h27] at hx
    refine .of_next hx (kept_secEvent hk _ (by simp) (by simp)) ⟨?_, ?_, by simp [Dev.rd_secEvent, Dev.rd_wr], ?_, fun _ _ => by omega, fun _ => ⟨?_, ?_⟩⟩
    · simp [Dev.rd_secEvent, Dev.rd_wr, hres]
    · simpa [Counts, Dev.rd_secEvent, Dev.rd_wr] using hcnt
    · rw [Dev.sec_secEvent, hsec]
    · simp [Dev.rd_secEvent, Dev.rd_wr, hf]
    · simp [Dev.rd_secEvent, Dev.rd_wr, hl]

end

/-! ### Wakes -/

section
variable {F : List Fld} {P : List Part} {d e : Dev}

theorem kept_abortA3 (h : Kept F P d e) (hF : abortRegs ⊆ F) (hi : .irqs ∈ P) (hp : .pwr ∈ P) : Kept F P d e.abortA3 :=
  .ite _ (fun _ => kept_leaveState (((h.wr _ (hF (by simp [abortRegs]))).inc (hF (by simp [abortRegs]))).event _ _ (hF (by simp [abortRegs])) hi) _ hp)
    (fun _ => h)

/-- A wake that latches nothing (R515, R516). -/
theorem kept_wake (h : Kept F P d e) (hF : abortRegs ⊆ F) (hpme : .cs 0 .PM_PME_STATUS ∈ F) (hi : .irqs ∈ P) (hp : .pwr ∈ P) (hh : .hep ∈ P) :
    Kept F P d (e.wake id) :=
  .ite _ (fun _ => kept_abortA3 h hF hi hp) fun _ => .ite _ (fun _ => kept_leaveState (kept_pmeSet h 0 hpme hh) _ hp) fun _ =>
    .ite _ (fun _ => kept_leaveState h _ hp) (fun _ => h)

/-- A state that is not A0 is being left once it begins to be left. -/
theorem Dev.leaving_leaveState (d : Dev) (dest : Nat) (h : d.pwrState ≠ 0) : (d.leaveState dest).pwr.leaving ≠ none := by
  rw [Dev.leaveState]
  dsimp only
  split
  · next hb =>
    intro hn
    simp [h, hn] at hb
  · simp

/-- A wake in A3 begins to leave it. -/
theorem Dev.leaving_wake (h3 : d.pwrState = 3) (he : d.rd (.pwr .STATUS_ENTERING) = 0) : (d.wake id).pwr.leaving ≠ none := by
  have hp : (d.pmeSet 0).pwrState = 3 := ((kept_pmeSet (F := [.cs 0 .PM_PME_STATUS]) (P := [.hep]) (.refl d) 0 (by simp) (by simp)).rd
    (f := .pwr .STATUS_STATE) (by simp) rfl).trans h3
  rw [Dev.wake, if_neg (by simp [Dev.is, he]), if_pos h3]
  exact Dev.leaving_leaveState _ _ (by rw [id, hp]; decide)

end

/-! ### The TAP -/

/-- The device whose TAP holds another instruction. -/
def Dev.tapped (d : Dev) (i : TapIr) : Dev := { d with sec := { d.sec with tapIr := i } }

theorem kept_tapped (F : List Fld) (P : List Part) (d : Dev) (i : TapIr) : Kept F (.sec :: P) d (d.tapped i) := (Kept.refl d).withSec _ (by simp)

section
variable {s : State} (hs : s.held = false)
include hs

/-- An instruction of the TAP: it acts where it is available and selects BYPASS elsewhere (R533). -/
theorem selects {c : Sys2Proof.Instr} {x : Host.Outcome State Fault Refusal} {i : TapIr} {f : Otp → Dev → Dev} {F : List Fld} {P : List Part}
    {post : Dev → Prop} (hx : exec c s = x) (hw : x = s.runWith (tapSelect i f))
    (h : Kept F (.sec :: P) s.dev (f s.otp (s.dev.tapped i)) ∧ (f s.otp (s.dev.tapped i)).sec.tapIr = i ∧ post (f s.otp (s.dev.tapped i))) :
    Selects c s i F P post := by
  refine ⟨fun ha => .runWith hx hw hs ?_, fun ha => .runWith hx hw hs ?_⟩
  · rw [tapSelect, if_pos ha]
    exact h
  · rw [tapSelect, if_neg (by simp [ha])]
    exact ⟨kept_tapped _ _ _ _, rfl⟩

/-- The instructions that only select themselves. -/
theorem selects_only {c : Sys2Proof.Instr} {x : Host.Outcome State Fault Refusal} {i : TapIr} (hx : exec c s = x)
    (hw : x = s.runWith (tapSelect i (fun _ d => d))) : Selects c s i [] [] (fun _ => True) :=
  selects hs hx hw ⟨kept_tapped _ _ _ _, rfl, trivial⟩

theorem selects_dbgToken (token : List Byte) (ht : s.dev.sec.token = none) :
    Selects (.tapDbgToken token) s .dbgToken (chalRegs ++ tokenRegs) [] (fun t => t.sec.token = some (sliceB token 0 160) ∧
      t.sec.tokenChal = s.dev.challenge) := by
  obtain ⟨hk, hsec, -⟩ := submitToken_submitted (s.dev.tapped .dbgToken) (sliceB token 0 160) ht
  exact selects hs (x := execTapDbgToken token s) rfl rfl
    ⟨(kept_tapped _ _ _ _).trans hk, congrArg Sec.tapIr hsec, congrArg Sec.token hsec, congrArg Sec.tokenChal hsec⟩

theorem selects_dbgWake :
    Selects .tapDbgWake s .dbgWake (.cs 0 .PM_PME_STATUS :: abortRegs) [.pwr, .hep, .irqs] (fun t =>
      (s.dev.pwrState = 3 → s.dev.rd (.pwr .STATUS_ENTERING) = 0 → t.pwr.leaving ≠ none) ∧ (s.dev.pwrState ≠ 3 → t.pwr = s.dev.pwr)) := by
  have hk := kept_tapped (.cs 0 .PM_PME_STATUS :: abortRegs) [.pwr, .hep, .irqs] s.dev .dbgWake
  have hst : (s.dev.tapped .dbgWake).pwrState = s.dev.pwrState := rfl
  have hen : (s.dev.tapped .dbgWake).rd (.pwr .STATUS_ENTERING) = s.dev.rd (.pwr .STATUS_ENTERING) := rfl
  have hpwr : (s.dev.tapped .dbgWake).pwr = s.dev.pwr := rfl
  have hir : (s.dev.tapped .dbgWake).sec.tapIr = .dbgWake := rfl
  refine selects hs (x := execTapDbgWake s) rfl rfl ?_
  generalize s.dev.tapped .dbgWake = e at hk hst hen hpwr hir ⊢
  have hw : Kept (.cs 0 .PM_PME_STATUS :: abortRegs) [.pwr, .hep, .irqs] e (e.wake id) :=
    kept_wake (.refl e) (by simp) (by simp) (by simp) (by simp) (by simp)
  refine ⟨.ite _ (fun _ => hk.trans (hw.mono (by simp) (by simp))) (fun _ => hk), ?_, fun h3 h0 => ?_, fun h3 => ?_⟩
  · split
    · exact (congrArg Sec.tapIr (hw.same (x := .sec) (by simp))).trans hir
    · exact hir
  · rw [if_pos (hst.trans h3)]
    exact Dev.leaving_wake (hst.trans h3) (hen.trans h0)
  · rw [if_neg (by rw [hst]; exact h3), hpwr]

theorem selects_samplePreload (value : Nat) : Selects (.tapSamplePreload value) s .samplePreload [] [] (fun t => t.sec.boundary = value) :=
  selects hs (x := execTapSamplePreload value s) rfl rfl ⟨(kept_tapped _ _ _ _).withSec _ (by simp), rfl, rfl⟩

omit hs in
/-- The pins that boundary scan drives (R533). -/
theorem tapPins_effect (o : Otp) (d : Dev) : Kept [] [.out] d (tapPins o d) ∧ (tapPins o d).sec = d.sec ∧
    (tapPins o d).out = d.out ++ ([if o.lc = 0 then .safeOut (d.sec.boundary.testBit 0) (d.sec.boundary.testBit 1) else .safeOut false true] :
      List Outbound) := by
  rw [tapPins, bitAt_eq_testBit, bitAt_eq_testBit]
  split
  · exact ⟨(Kept.refl d).emitAside _ rfl (by simp), rfl, rfl⟩
  · exact ⟨(Kept.refl d).emitAside _ rfl (by simp), rfl, rfl⟩

theorem selects_extest (value : Nat) : Selects (.tapExtest value) s .extest [] [.out] (fun t => t.sec.boundary = value ∧ BoundaryPins s t value) := by
  obtain ⟨hk, hsec, hout⟩ := tapPins_effect s.otp { s.dev.tapped .extest with sec := { (s.dev.tapped .extest).sec with boundary := value } }
  exact selects hs (x := execTapExtest value s) rfl rfl ⟨((kept_tapped _ _ _ _).withSec _ (by simp)).trans (hk.mono (by simp) (by simp)),
    congrArg Sec.tapIr hsec, congrArg Sec.boundary hsec, hout⟩

theorem selects_clamp : Selects .tapClamp s .clamp [] [.out] (fun t => t.sec.boundary = s.dev.sec.boundary ∧ BoundaryPins s t s.dev.sec.boundary) := by
  obtain ⟨hk, hsec, hout⟩ := tapPins_effect s.otp (s.dev.tapped .clamp)
  exact selects hs (x := execTapClamp s) rfl rfl ⟨(kept_tapped _ _ _ _).trans (hk.mono (by simp) (by simp)),
    congrArg Sec.tapIr hsec, (congrArg Sec.boundary hsec :), hout⟩

end

/-! ### Halts and steps -/

section
variable {s : State} (hs : s.held = false) (e : Fin 16)
include hs

theorem effect_engineHalt (hm : s.dev.mayHalt e = true) (hh : (s.dev.engine e).halted = false) :
    Effect (.engineHalt e) s [] [.engines] (fun t => t.engine e = { s.dev.engine e with haltReq := true } ∧
      ∀ x : Fin 16, x ≠ e → t.engine x = s.dev.engine x) :=
  .run (x := execEngineHalt e s) rfl rfl hs (by
    rw [if_pos ⟨hm, by simp [hh]⟩]
    exact ⟨(Kept.refl _).modEngine _ _ (by simp), by simp, fun x hx => by simp [Fin.val_ne_of_ne hx]⟩)

omit hs in
theorem rd_modEngine (d : Dev) (n : Nat) (g : Engine → Engine) (f : Fld) : (d.modEngine n g).rd f = d.rd f := rfl

omit hs in
/-- The state of an engine of a split pair set. -/
theorem setEngState_split {d : Dev} {x v : Nat} (hl : d.lockstep (x / 2) = false) (hv : v < 8) :
    Kept [.eng (.PAIR_STATUS_STATE_A (x / 2)), .eng (.PAIR_STATUS_STATE_B (x / 2))] [] d (d.setEngState x v) ∧
    (d.setEngState x v).engState x = v ∧ (d.setEngState x v).engines = d.engines := by
  rw [Dev.setEngState, pairOf, hl]
  simp only [Bool.false_eq_true, if_false]
  refine ⟨(Kept.refl d).wr _ ?_, ?_, rfl⟩
  · split <;> simp
  · rw [Dev.engState, pairOf]
    split <;> simp [Dev.rd_wr, Nat.mod_eq_of_lt hv]

theorem effect_engineResume (hm : s.dev.mayHalt e = true) (hh : (s.dev.engine e).halted = true) (hl : s.dev.lockstep (e.val / 2) = false)
    (h3 : s.dev.engState e = 3) :
    Effect (.engineResume e) s [.eng (.PAIR_STATUS_STATE_A (e.val / 2)), .eng (.PAIR_STATUS_STATE_B (e.val / 2))] [.engines] (fun t =>
      t.engState e = 0 ∧
      t.engine e = { s.dev.engine e with
        haltReq := false
        halted := false }) := by
  have hx : exec (.engineResume e) s = .next { s with
      dev := (s.dev.modEngine e (fun g => { g with haltReq := false, halted := false })).setEngState e 0 } := by
    have hl' : (s.dev.modEngine e (fun g => { g with haltReq := false, halted := false })).lockstep (e.val / 2) = false := hl
    have h3' : (s.dev.modEngine e (fun g => { g with haltReq := false, halted := false })).engState e = 3 := h3
    show execEngineResume e s = _
    rw [execEngineResume, State.run_live s _ hs]
    simp only [hm, hh, Bool.not_true, Bool.true_or, Bool.false_eq_true, or_self, if_false, h3', pairOf, hl', false_and, decide_false,
      Bool.not_false, and_self, if_true]
  have hk : Kept [.eng (.PAIR_STATUS_STATE_A (e.val / 2)), .eng (.PAIR_STATUS_STATE_B (e.val / 2))] [.engines] s.dev
      (s.dev.modEngine e (fun g => { g with haltReq := false, halted := false })) := (Kept.refl _).modEngine _ _ (by simp)
  obtain ⟨hset, hstate, heng⟩ := setEngState_split (d := s.dev.modEngine e (fun g => { g with haltReq := false, halted := false })) (v := 0) hl (by decide)
  refine .of_next hx (hk.trans (hset.mono (by simp) (by simp))) ⟨hstate, ?_⟩
  rw [Dev.engine, heng]
  exact (Dev.engine_modEngine _ _ _ _).trans (by simp)

theorem effect_engineHaltTakesEffect (hr : (s.dev.engine e).haltReq = true) (hl : s.dev.lockstep (e.val / 2) = false) (h0 : s.dev.engState e = 0) :
    Effect (.engineHaltTakesEffect e) s [.eng (.PAIR_STATUS_STATE_A (e.val / 2)), .eng (.PAIR_STATUS_STATE_B (e.val / 2))] [.engines] (fun t =>
      t.engState e = 3 ∧
      t.engine e = { s.dev.engine e with
        haltReq := false
        halted := true }) := by
  have hu : s.dev.unit e = e := by rw [Dev.unit, pairOf, hl]; rfl
  have hpre : s.dev.preempt e = s.dev := by rw [Dev.preempt, if_pos (by rw [h0]; decide)]
  have hx : exec (.engineHaltTakesEffect e) s = .next { s with
      dev := (s.dev.modEngine e (fun g => { g with haltReq := false, halted := true })).setEngState e 3 } := by
    have hl' : (s.dev.modEngine e (fun g => { g with haltReq := false, halted := true })).lockstep (e.val / 2) = false := hl
    show execEngineHaltTakesEffect e s = _
    rw [execEngineHaltTakesEffect, State.run_live s _ hs]
    simp only [hu, hr, h0, hpre, Bool.not_true, Bool.false_eq_true, pairOf, hl', false_and, if_false,
      show ¬ ((0 : Nat) = 1) by decide, show ¬ ((0 : Nat) = 4) by decide, or_self]
  have hk : Kept [.eng (.PAIR_STATUS_STATE_A (e.val / 2)), .eng (.PAIR_STATUS_STATE_B (e.val / 2))] [.engines] s.dev
      (s.dev.modEngine e (fun g => { g with haltReq := false, halted := true })) := (Kept.refl _).modEngine _ _ (by simp)
  obtain ⟨hset, hstate, heng⟩ := setEngState_split (d := s.dev.modEngine e (fun g => { g with haltReq := false, halted := true })) (v := 3) hl (by decide)
  refine .of_next hx (hk.trans (hset.mono (by simp) (by simp))) ⟨hstate, ?_⟩
  rw [Dev.engine, heng]
  exact (Dev.engine_modEngine _ _ _ _).trans (by simp)

/-- A single step of ADD at D2 (R539). -/
theorem completes_singleStep_add {rd a b : Fin 32} (hd : s.dev.d2 = true) (hh : (s.dev.engine e).halted = true)
    (hl : s.dev.lockstep (e.val / 2) = false) (hf : ∃ w, s.dev.fetch e = (w, false, s.dev) ∧ Op.decode w = some (.add rd a b)) :
    Completes (.engineSingleStep e) s (fun t =>
      WritesReg s.dev t e rd (both s e a b (fun x y => x + y)) ∧ NextPc s.dev t e ∧ OnlyEngine s.dev t e) := by
  obtain ⟨w, hw, hdec⟩ := hf
  obtain ⟨k, hk⟩ := Dev.execute_eq s.dev s.dev e w (.add rd a b)
  have hu : s.dev.unit e = e := by rw [Dev.unit, pairOf, hl]; rfl
  have hx : exec (.engineSingleStep e) s = .next { s with dev := s.dev.execute s.dev e w (.add rd a b) } := by
    show execEngineSingleStep e s = _
    rw [execEngineSingleStep, State.run_live s _ hs]
    simp only [hd, hh, hu, hw, hdec, Bool.not_true, Bool.false_eq_true, or_self, if_false]
  have hop : (s.dev.issuing e k).doOp e (.add rd a b) =
      ((s.dev.issuing e k).setWreg e rd (both s e a b (fun x y => x + y))).advance e := by
    simp [Dev.doOp, Dev.doAdd, Dev.alu, resP2, flagP, both]
  replace hk : Aside ((s.dev.issuing e k).doOp e (.add rd a b)) _ := hk
  rw [hop] at hk
  refine ⟨_, hx, rfl, rfl, fun i => ?_, ?_, (((s.dev.onlyEngine_issuing e k).setWreg rd _).advance).aside hk⟩
  · simp [hk.wreg]
  · simp [NextPc, hk.engine, Dev.advance]

end

/-! ### The statement -/

/-- Settles O47: every clause by the lemma about its command. -/
theorem debugAndTap : Obligations.DebugAndTap := fun s token value e hs =>
  ⟨fun hp => ⟨effect_dbgD1Open ⟨hs, hp⟩, effect_dbgClose ⟨hs, hp⟩, effect_dbgClose_ignored ⟨hs, hp⟩, effect_dbgTokenSubmit ⟨hs, hp⟩⟩,
    fun _ ht hc => ⟨fun h0 => effect_tokenD1 hs ht (h0 ▸ hc), fun h0 => completes_tokenD2 hs ht (h0 ▸ hc), fun h0 => effect_tokenRma hs ht (h0 ▸ hc),
      effect_tokenRefused hs ht hc⟩,
    selects hs (x := execTapIdcode s) rfl rfl ⟨(kept_tapped _ _ _ _).emitAside _ rfl (by simp), rfl, rfl⟩,
    selects_only hs (x := execTapBypass s) rfl rfl,
    selects hs (x := execTapDbgChal s) rfl rfl ⟨(kept_tapped _ _ _ _).emitAside _ rfl (by simp), rfl, rfl⟩,
    selects_dbgToken hs token, selects_dbgWake hs, selects_only hs (x := execTapDbgBridge s) rfl rfl, selects_samplePreload hs value,
    selects_extest hs value, selects_clamp hs, selects_only hs (x := execTapHighz s) rfl rfl,
    .run (x := execTapReset s) rfl rfl hs ⟨(Kept.refl _).withSec _ (by simp), rfl⟩,
    fun hm => ⟨effect_engineHalt hs e hm, effect_engineResume hs e hm⟩, effect_engineHaltTakesEffect hs e,
    fun _ _ _ => completes_singleStep_add hs e⟩

end Sys2Proof.Machine
end

section
-- The theorems are elaborated in order, which keeps the memory that a check of the whole text takes within its limit.
set_option Elab.async false

/-! SUPPORT.  Dip episodes of the supply and the statement they settle (R495 to R504). -/

namespace Sys2Proof.Machine

open Sys2Proof.Safety Sys2Proof.Claims

@[simp] theorem supWarn_width : (Fld.pwr .SUP_STATUS_SUP_WARN).width = 1 := rfl
@[simp] theorem supVolt_width : (Fld.pwr .SUP_STATUS_VOLT).width = 8 := rfl
@[simp] theorem supQualifying_width : (Fld.pwr .SUP_STATUS_QUALIFYING).width = 1 := rfl
@[simp] theorem episodeOpen_width : (Fld.pwr .SUP_STATUS_EPISODE_OPEN).width = 1 := rfl
@[simp] theorem evtSupWarn_width : (Fld.pwr .EVT_SUP_WARN).width = 1 := rfl
@[simp] theorem evtUvLong_width : (Fld.pwr .EVT_UV_LONG).width = 1 := rfl
@[simp] theorem supInhibit_width : (Fld.pwr .SUP_STATUS_INHIBIT).width = 1 := rfl
@[simp] theorem scrubPending_width : (Fld.pwr .SUP_STATUS_SCRUB_PENDING).width = 1 := rfl
@[simp] theorem verifyPending_width : (Fld.pwr .SUP_STATUS_VERIFY_PENDING).width = 1 := rfl
@[simp] theorem evtDipClosed_width : (Fld.pwr .EVT_DIP_CLOSED).width = 1 := rfl
@[simp] theorem ipendSupply_width : (Fld.hep .PF1_IPEND_SUPPLY).width = 1 := rfl
@[simp] theorem dipMin_width : (Fld.pwr .DIP_LOG_MIN).width = 8 := rfl
@[simp] theorem dipDur_width : (Fld.pwr .DIP_LOG_DUR).width = 12 := rfl
@[simp] theorem dipUvLong_width : (Fld.pwr .DIP_LOG_UV_LONG).width = 1 := rfl
@[simp] theorem dipReset_width : (Fld.pwr .DIP_LOG_REACHED_RESET).width = 1 := rfl
@[simp] theorem dipValid_width : (Fld.pwr .DIP_LOG_VALID).width = 1 := rfl
@[simp] theorem flIncomplete_width : (Fld.sbd .FL_LOG_INCOMPLETE).width = 1 := rfl
@[simp] theorem entering_width : (Fld.pwr .STATUS_ENTERING).width = 1 := rfl

/-! ### Operations on the episode -/

section
variable {F : List Fld} {P : List Part} {d e : Dev}

@[simp] theorem Dev.rd_modDip (d : Dev) (g : Dip → Dip) (f : Fld) : (d.modDip g).rd f = d.rd f := rfl
@[simp] theorem Dev.pwr_modDip (d : Dev) (g : Dip → Dip) : (d.modDip g).pwr = { d.pwr with dip := d.pwr.dip.map g } := rfl
@[simp] theorem Dev.now_modDip (d : Dev) (g : Dip → Dip) : (d.modDip g).now = d.now := rfl
@[simp] theorem Dev.toSafe_modDip (d : Dev) (g : Dip → Dip) : (d.modDip g).toSafe = d.toSafe := rfl

theorem Dev.modDip_none (h : d.pwr.dip = none) (g : Dip → Dip) : d.modDip g = d := by
  rw [Dev.modDip, h, Option.map_none, ← h]

theorem kept_modDip (h : Kept F P d e) (g : Dip → Dip) (hp : .pwr ∈ P) : Kept F P d (e.modDip g) := h.withPwr _ hp

theorem kept_pwrEvent (h : Kept F P d e) (f : PwrF) (hf : .pwr f ∈ F) (hi : .irqs ∈ P) : Kept F P d (e.pwrEvent f) := h.event _ _ hf hi

theorem Dev.rd_pwrEvent (d : Dev) (f : PwrF) (x : Fld) : (d.pwrEvent f).rd x = (d.wr (.pwr f) 1).rd x := by
  rw [Dev.pwrEvent, Dev.event]
  split <;> simp

@[simp] theorem Dev.pwr_pwrEvent (d : Dev) (f : PwrF) : (d.pwrEvent f).pwr = d.pwr :=
  (kept_pwrEvent (F := [.pwr f]) (P := [.irqs]) (.refl d) f (by simp) (by simp)).same (x := .pwr) (by simp)

@[simp] theorem Dev.toSafe_pwrEvent (d : Dev) (f : PwrF) : (d.pwrEvent f).toSafe = d.toSafe :=
  (kept_pwrEvent (F := [.pwr f]) (P := [.irqs]) (.refl d) f (by simp) (by simp)).same (x := .toSafe) (by simp)

@[simp] theorem Dev.now_pwrEvent (d : Dev) (f : PwrF) : (d.pwrEvent f).now = d.now :=
  ((kept_pwrEvent (F := [.pwr f]) (P := [.irqs]) (.refl d) f (by simp) (by simp)).same (x := .time) (by simp)).1

theorem kept_adcSample (h : Kept F P d e) (v : Nat) (hf : .pwr .SUP_STATUS_VOLT ∈ F) (hp : .pwr ∈ P) : Kept F P d (e.adcSample v) :=
  kept_modDip (h.wr _ hf) _ hp

@[simp] theorem Dev.rd_adcSample (d : Dev) (v : Nat) (f : Fld) : (d.adcSample v).rd f = (d.wr (.pwr .SUP_STATUS_VOLT) v).rd f := rfl
@[simp] theorem Dev.now_adcSample (d : Dev) (v : Nat) : (d.adcSample v).now = d.now := rfl
@[simp] theorem Dev.toSafe_adcSample (d : Dev) (v : Nat) : (d.adcSample v).toSafe = d.toSafe := rfl
theorem Dev.saf_adcSample (d : Dev) (v : Nat) : (d.adcSample v).saf = d.saf := rfl
@[simp] theorem Dev.pwr_adcSample (d : Dev) (v : Nat) :
    (d.adcSample v).pwr = { d.pwr with dip := d.pwr.dip.map (fun x => { x with low := min x.low v }) } := rfl

/-- The report of 1 ms below waits while it was made, the comparator is deasserted or 1 ms has not passed (R502). -/
theorem Dev.uvLong_of_short {x : Dip} (hd : d.pwr.dip = some x) (h : x.uvLong = true ∨ x.belowFrom = none ∨ x.belowNs d.now < 1000000) :
    d.uvLong = d := by
  rw [Dev.uvLong, hd]
  dsimp only
  rw [if_pos (by rwa [Option.isNone_iff_eq_none])]

theorem Dev.uvLong_of_long {x : Dip} (hd : d.pwr.dip = some x) (h : x.uvLong = false) (hb : x.belowFrom ≠ none) (hl : 1000000 ≤ x.belowNs d.now) :
    d.uvLong = d.uvFault := by
  rw [Dev.uvLong, hd]
  dsimp only
  rw [if_neg (by simp [h, Option.isNone_iff_eq_none, hb]; omega)]

theorem kept_uvFault (h : Kept F P d e) (hf : .pwr .EVT_UV_LONG ∈ F) (hp : .pwr ∈ P) (hi : .irqs ∈ P) (hs : .toSafe ∈ P) : Kept F P d e.uvFault :=
  (kept_pwrEvent (kept_modDip h _ hp) _ hf hi).withToSafe _ hs

theorem kept_newNeed (h : Kept F P d e) (hF : abortRegs ⊆ F) (hi : .irqs ∈ P) (hp : .pwr ∈ P) : Kept F P d e.newNeed :=
  .ite _ (fun _ => kept_abortA3 h hF hi hp) fun _ => .ite _ (fun _ => kept_leaveState h _ hp) (fun _ => h)

/-- Leaving a state changes only the target and its instant. -/
theorem Dev.pwr_leaveState (d : Dev) (dest : Nat) : ∃ l, (d.leaveState dest).pwr = { d.pwr with leaving := l } := by
  rw [Dev.leaveState]
  split
  · exact ⟨_, rfl⟩
  · exact ⟨_, rfl⟩

/-- A need that wakes leaves the episode, and no entry to A3 goes on (R515). -/
theorem Dev.newNeed_effect (d : Dev) : (∃ l, d.newNeed.pwr = { d.pwr with leaving := l }) ∧ d.newNeed.rd (.pwr .STATUS_ENTERING) = 0 := by
  rw [Dev.newNeed, Dev.abortA3]
  by_cases he : d.is (.pwr .STATUS_ENTERING) = true
  · rw [if_pos he, if_pos he]
    obtain ⟨l, hl⟩ := Dev.pwr_leaveState (((d.wr (.pwr .STATUS_ENTERING) 0).pwrCnt 3).pwrEvent .EVT_A3_ABORT) 0
    refine ⟨⟨l, by rw [hl, Dev.pwr_pwrEvent]; rfl⟩, ?_⟩
    rw [(kept_leaveState (F := []) (P := [.pwr]) (.refl _) 0 (by simp)).rd (by simp) rfl, Dev.rd_pwrEvent]
    simp [Dev.pwrCnt, Dev.rd_inc, Dev.rd_wr]
  · have h0 : d.rd (.pwr .STATUS_ENTERING) = 0 := (d.is_eq_false_iff _).mp (Bool.not_eq_true _ ▸ he)
    rw [if_neg he]
    split
    · exact ⟨d.pwr_leaveState 0, ((kept_leaveState (F := []) (P := [.pwr]) (.refl d) 0 (by simp)).rd (by simp) rfl).trans h0⟩
    · exact ⟨⟨_, rfl⟩, h0⟩

end

theorem supplyActs_of {d : Dev} (h : d.rd (.pwr .CTRL_MON_TEST_DIS) = 0) : d.supplyActs = true := by simp [Dev.supplyActs, Dev.is, h]

/-! ### SUPPLY_WARNING_SAFE -/

/-- An episode opened with its first sample (R496). -/
def Dev.dipOpened (d : Dev) (v : Nat) : Dev :=
  { d with pwr := { d.pwr with dip := some { low := v, openAt := d.now, belowFrom := some d.now }, flashCut := false } }

theorem Dev.rd_dipOpened (d : Dev) (v : Nat) (f : Fld) : (d.dipOpened v).rd f = d.rd f := rfl

theorem kept_elapse (F : List Fld) (P : List Part) (d : Dev) (n : Nat) (h : timeParts ⊆ P) : Kept F P d (d.elapse n) :=
  .later (.elapse d n) (h (by simp [timeParts])) (h (by simp [timeParts])) (h (by simp [timeParts]))

section
variable {s : State} (v : BitVec 8) (after : Nat) (hs : s.held = false) (ht : s.dev.rd (.pwr .CTRL_MON_TEST_DIS) = 0)
include hs ht

theorem effect_supplyWarningSafe_opens (hd : s.dev.pwr.dip = none) :
    Effect (.supplyWarningSafe v after) s
      (([.pwr .SUP_STATUS_SUP_WARN, .pwr .SUP_STATUS_EPISODE_OPEN, .pwr .EVT_SUP_WARN, .pwr .SUP_STATUS_VOLT] : List Fld) ++ abortRegs)
      (.pwr :: .irqs :: .toSafe :: timeParts) (fun t =>
        t.rd (.pwr .SUP_STATUS_SUP_WARN) = 1 ∧ t.rd (.pwr .SUP_STATUS_EPISODE_OPEN) = 1 ∧ t.rd (.pwr .EVT_SUP_WARN) = 1 ∧
        t.rd (.pwr .SUP_STATUS_VOLT) = v.toNat ∧ t.rd (.pwr .STATUS_ENTERING) = 0 ∧ t.now = s.dev.now + after ∧
        t.toSafe = s.dev.toSafe ++ ([⟨true, 2, 0⟩] : List Report) ∧
        t.pwr.dip = some { low := v.toNat, openAt := t.now, belowFrom := some t.now } ∧ t.pwr.flashCut = false) := by
  have hk := kept_elapse (([.pwr .SUP_STATUS_SUP_WARN, .pwr .SUP_STATUS_EPISODE_OPEN, .pwr .EVT_SUP_WARN, .pwr .SUP_STATUS_VOLT] : List Fld) ++
    abortRegs) (.pwr :: .irqs :: .toSafe :: timeParts) s.dev after (fun _ h => by simp [h])
  have hnow := s.dev.elapse_now after
  have hsafe := s.dev.elapse_toSafe after
  have hx : exec (.supplyWarningSafe v after) s = .next { s with
      dev := (((((((s.dev.elapse after).wr (.pwr .SUP_STATUS_SUP_WARN) 1).dipOpened v.toNat).wr (.pwr .SUP_STATUS_EPISODE_OPEN) 1).pwrEvent
        .EVT_SUP_WARN).warn 2).adcSample v.toNat).newNeed } := by
    have hact : ((s.dev.elapse after).wr (.pwr .SUP_STATUS_SUP_WARN) 1).supplyActs = true := supplyActs_of (by
      rw [Dev.rd_wr, if_neg (by simp), Dev.rd_elapse _ _ _ rfl, ht])
    have hd' : ((s.dev.elapse after).wr (.pwr .SUP_STATUS_SUP_WARN) 1).pwr.dip = none := by simp [hd]
    show execSupplyWarningSafe v after s = _
    rw [execSupplyWarningSafe, State.run_live s _ hs]
    simp only [hd', hact, Bool.not_true, Bool.false_eq_true, if_false]
    rfl
  generalize s.dev.elapse after = e at hk hnow hsafe hx
  have hg : Kept (([.pwr .SUP_STATUS_SUP_WARN, .pwr .SUP_STATUS_EPISODE_OPEN, .pwr .EVT_SUP_WARN, .pwr .SUP_STATUS_VOLT] : List Fld) ++ abortRegs)
      (.pwr :: .irqs :: .toSafe :: timeParts) s.dev ((((((e.wr (.pwr .SUP_STATUS_SUP_WARN) 1).dipOpened v.toNat).wr (.pwr .SUP_STATUS_EPISODE_OPEN)
        1).pwrEvent .EVT_SUP_WARN).warn 2).adcSample v.toNat) :=
    kept_adcSample ((kept_pwrEvent ((((hk.wr _ (by simp)).withPwr _ (by simp)).wr _ (by simp))) _ (by simp) (by simp)).withToSafe _ (by simp))
      _ (by simp) (by simp)
  have hrd : ∀ f, ((((((e.wr (.pwr .SUP_STATUS_SUP_WARN) 1).dipOpened v.toNat).wr (.pwr .SUP_STATUS_EPISODE_OPEN)
        1).pwrEvent .EVT_SUP_WARN).warn 2).adcSample v.toNat).rd f = ((((e.wr (.pwr .SUP_STATUS_SUP_WARN) 1).wr (.pwr .SUP_STATUS_EPISODE_OPEN)
        1).wr (.pwr .EVT_SUP_WARN) 1).wr (.pwr .SUP_STATUS_VOLT) v.toNat).rd f := fun f => by
    simp only [Dev.rd_adcSample, Dev.rd_wr, Dev.warn_rd, Dev.rd_pwrEvent, Dev.rd_dipOpened]
  have hpwr : ((((((e.wr (.pwr .SUP_STATUS_SUP_WARN) 1).dipOpened v.toNat).wr (.pwr .SUP_STATUS_EPISODE_OPEN)
        1).pwrEvent .EVT_SUP_WARN).warn 2).adcSample v.toNat).pwr = { e.pwr with
          dip := some { low := v.toNat, openAt := e.now, belowFrom := some e.now }
          flashCut := false } := by
    rw [Dev.pwr_adcSample, Dev.warn, Dev.pwr_pwrEvent]
    simp [Dev.dipOpened]
  have htime : ((((((e.wr (.pwr .SUP_STATUS_SUP_WARN) 1).dipOpened v.toNat).wr (.pwr .SUP_STATUS_EPISODE_OPEN)
        1).pwrEvent .EVT_SUP_WARN).warn 2).adcSample v.toNat).now = e.now := by
    rw [Dev.now_adcSample, Dev.warn, Dev.now_pwrEvent]
    rfl
  have hrep : ((((((e.wr (.pwr .SUP_STATUS_SUP_WARN) 1).dipOpened v.toNat).wr (.pwr .SUP_STATUS_EPISODE_OPEN)
        1).pwrEvent .EVT_SUP_WARN).warn 2).adcSample v.toNat).toSafe = s.dev.toSafe ++ [⟨true, 2, 0⟩] := by
    rw [Dev.toSafe_adcSample, Dev.warn, Dev.toSafe_pwrEvent, ← hsafe]
    rfl
  generalize (((((e.wr (.pwr .SUP_STATUS_SUP_WARN) 1).dipOpened v.toNat).wr (.pwr .SUP_STATUS_EPISODE_OPEN)
        1).pwrEvent .EVT_SUP_WARN).warn 2).adcSample v.toNat = g at hx hg hrd hpwr htime hrep
  obtain ⟨⟨l, hl⟩, hent⟩ := g.newNeed_effect
  have hn : Kept abortRegs [.irqs, .pwr] g g.newNeed := kept_newNeed (.refl g) (fun _ h => h) (by simp) (by simp)
  have hnn : g.newNeed.now = g.now := (hn.same (x := .time) (by simp)).1
  have hns : g.newNeed.toSafe = g.toSafe := hn.same (x := .toSafe) (by simp)
  refine .of_next hx (kept_newNeed hg (List.subset_append_right _ _) (by simp) (by simp)) ⟨?_, ?_, ?_, ?_, hent, ?_, ?_, ?_, ?_⟩
  · rw [hn.rd (by simp [abortRegs]) rfl, hrd]
    simp [Dev.rd_wr]
  · rw [hn.rd (by simp [abortRegs]) rfl, hrd]
    simp [Dev.rd_wr]
  · rw [hn.rd (by simp [abortRegs]) rfl, hrd]
    simp [Dev.rd_wr]
  · rw [hn.rd (by simp [abortRegs]) rfl, hrd]
    simp [Dev.rd_wr, v.isLt]
  · rw [hnn, htime, hnow]
  · exact hns.trans hrep
  · rw [hl, hpwr, hnn, htime]
  · rw [hl, hpwr]

theorem effect_supplyWarningDeassert_closed (hd : s.dev.pwr.dip = none) :
    Effect (.supplyWarningDeassert v after) s [.pwr .SUP_STATUS_SUP_WARN, .pwr .SUP_STATUS_VOLT, .pwr .SUP_STATUS_QUALIFYING] timeParts
      (fun t => t.rd (.pwr .SUP_STATUS_SUP_WARN) = 0 ∧ t.rd (.pwr .SUP_STATUS_VOLT) = v.toNat) := by
  have hx : exec (.supplyWarningDeassert v after) s = .next { s with
      dev := (((s.dev.elapse after).wr (.pwr .SUP_STATUS_SUP_WARN) 0).wr (.pwr .SUP_STATUS_VOLT) v.toNat).wr (.pwr .SUP_STATUS_QUALIFYING) 0 } := by
    have hact : (((s.dev.elapse after).wr (.pwr .SUP_STATUS_SUP_WARN) 0).wr (.pwr .SUP_STATUS_VOLT) v.toNat).supplyActs = true := supplyActs_of (by
      rw [Dev.rd_wr, if_neg (by simp), Dev.rd_wr, if_neg (by simp), Dev.rd_elapse _ _ _ rfl, ht])
    have hd' : (((s.dev.elapse after).wr (.pwr .SUP_STATUS_SUP_WARN) 0).wr (.pwr .SUP_STATUS_VOLT) v.toNat).pwr.dip = none := by simp [hd]
    show execSupplyWarningDeassert v after s = _
    rw [execSupplyWarningDeassert, State.run_live s _ hs]
    simp only [Dev.adcSample, Dev.modDip_none hd', hact, Dev.uvLong, Dev.qualifyFrom, hd', Bool.not_true, Bool.false_eq_true, if_false]
    rfl
  exact .of_next hx (((((kept_elapse _ _ _ _ fun _ h => h).wr _ (by simp)).wr _ (by simp)).wr _ (by simp))) (by simp [Dev.rd_wr, v.isLt])

end

/-! ### An open episode -/

section
variable {s : State} (v : BitVec 8) (after : Nat) (hs : s.held = false) (ht : s.dev.rd (.pwr .CTRL_MON_TEST_DIS) = 0) {x : Dip}
  (hd : s.dev.pwr.dip = some x)
include hs ht hd

theorem effect_supplyWarningSafe_again (hsh : x.uvLong = true ∨ x.belowFrom = none ∨ x.belowNs (s.dev.now + after) < 1000000) :
    Effect (.supplyWarningSafe v after) s [.pwr .SUP_STATUS_SUP_WARN, .pwr .SUP_STATUS_VOLT, .pwr .SUP_STATUS_QUALIFYING]
      (.pwr :: timeParts) (fun t =>
        t.rd (.pwr .SUP_STATUS_SUP_WARN) = 1 ∧ t.rd (.pwr .SUP_STATUS_VOLT) = v.toNat ∧ t.rd (.pwr .SUP_STATUS_QUALIFYING) = 0 ∧
        t.pwr = { s.dev.pwr with
          dip := some { x with
            low := min x.low v.toNat
            belowFrom := some (x.belowFrom.getD t.now)
            runFrom := none
            qualified := false } }) := by
  have hk := kept_elapse [.pwr .SUP_STATUS_SUP_WARN, .pwr .SUP_STATUS_VOLT, .pwr .SUP_STATUS_QUALIFYING] (.pwr :: timeParts) s.dev after
    (fun _ h => by simp [h])
  have hpwr := s.dev.elapse_pwr after
  have hx : exec (.supplyWarningSafe v after) s = .next { s with
      dev := ((((s.dev.elapse after).wr (.pwr .SUP_STATUS_SUP_WARN) 1).modDip (fun y => { y with
        belowFrom := some (x.belowFrom.getD (s.dev.elapse after).now), runFrom := none, qualified := false })).adcSample v.toNat).wr
          (.pwr .SUP_STATUS_QUALIFYING) 0 } := by
    have hact : ((s.dev.elapse after).wr (.pwr .SUP_STATUS_SUP_WARN) 1).supplyActs = true := supplyActs_of (by
      rw [Dev.rd_wr, if_neg (by simp), Dev.rd_elapse _ _ _ rfl, ht])
    have hd' : ((s.dev.elapse after).wr (.pwr .SUP_STATUS_SUP_WARN) 1).pwr.dip = some x := by simp [hd]
    have huv := Dev.uvLong_of_short hd' (by rwa [Dev.wr_now, Dev.elapse_now])
    show execSupplyWarningSafe v after s = _
    rw [execSupplyWarningSafe, State.run_live s _ hs]
    simp only [hd', hact, huv, Bool.not_true, Bool.false_eq_true, if_false]
    rfl
  generalize s.dev.elapse after = e at hk hpwr hx
  refine .of_next hx ((kept_adcSample (kept_modDip (hk.wr _ (by simp)) _ (by simp)) _ (by simp) (by simp)).wr _ (by simp)) ⟨?_, ?_, ?_, ?_⟩
  · simp [Dev.rd_wr]
  · simp [Dev.rd_wr, v.isLt]
  · simp [Dev.rd_wr]
  · simp [hpwr, hd]

/-- The device after the comparator is deasserted, the sample taken. -/
def Dev.deasserted (d : Dev) (v after : Nat) : Dev := ((d.elapse after).wr (.pwr .SUP_STATUS_SUP_WARN) 0).adcSample v

omit hd in
theorem exec_supplyWarningDeassert : exec (.supplyWarningDeassert v after) s = .next { s with
    dev := (((s.dev.deasserted v.toNat after).uvLong.modDip (fun x => { x with
      below := x.belowNs (s.dev.deasserted v.toNat after).uvLong.now, belowFrom := none })).qualifyFrom v.toNat) } := by
  have hact : (s.dev.deasserted v.toNat after).supplyActs = true := supplyActs_of (by
    rw [Dev.deasserted, Dev.rd_adcSample, Dev.rd_wr, if_neg (by simp), Dev.rd_wr, if_neg (by simp), Dev.rd_elapse _ _ _ rfl, ht])
  have hnow : (s.dev.deasserted v.toNat after).uvLong.now = (s.dev.deasserted v.toNat after).now := by
    rw [Dev.uvLong]
    split
    · rfl
    · split
      · rfl
      · rw [Dev.uvFault, Dev.fault]
        simp
  show execSupplyWarningDeassert v after s = _
  rw [execSupplyWarningDeassert, State.run_live s _ hs, hnow]
  rw [Dev.deasserted] at hact
  simp only [hact, Bool.not_true, Bool.false_eq_true, if_false]
  rfl

theorem effect_supplyWarningDeassert_short (hsh : x.uvLong = true ∨ x.belowFrom = none ∨ x.belowNs (s.dev.now + after) < 1000000) :
    Effect (.supplyWarningDeassert v after) s [.pwr .SUP_STATUS_SUP_WARN, .pwr .SUP_STATUS_VOLT, .pwr .SUP_STATUS_QUALIFYING]
      (.pwr :: timeParts) (fun t =>
        t.rd (.pwr .SUP_STATUS_SUP_WARN) = 0 ∧ t.rd (.pwr .SUP_STATUS_VOLT) = v.toNat ∧
        t.rd (.pwr .SUP_STATUS_QUALIFYING) = (if 72 ≤ v.toNat then 1 else 0) ∧
        t.pwr = { s.dev.pwr with
          dip := some { x with
            low := min x.low v.toNat
            below := x.below + (match x.belowFrom with | some f => t.now - f | none => 0)
            belowFrom := none
            runFrom := if 72 ≤ v.toNat then some t.now else none
            qualified := false } }) := by
  have hx := exec_supplyWarningDeassert v after hs ht
  have hk := kept_elapse [.pwr .SUP_STATUS_SUP_WARN, .pwr .SUP_STATUS_VOLT, .pwr .SUP_STATUS_QUALIFYING] (.pwr :: timeParts) s.dev after
    (fun _ h => by simp [h])
  have hpwr := s.dev.elapse_pwr after
  have hd' : (s.dev.deasserted v.toNat after).pwr.dip = some { x with low := min x.low v.toNat } := by simp [Dev.deasserted, hd]
  have huv := Dev.uvLong_of_short hd' (by rwa [Dev.deasserted, Dev.now_adcSample, Dev.wr_now, Dev.elapse_now])
  rw [huv, Dev.qualifyFrom, Dev.deasserted] at hx
  generalize s.dev.elapse after = e at hk hpwr hx
  refine .of_next hx ((kept_modDip (kept_modDip (kept_adcSample (hk.wr _ (by simp)) _ (by simp) (by simp)) _ (by simp)) _ (by simp)).wr _ (by simp))
    ⟨?_, ?_, ?_, ?_⟩
  · simp [Dev.rd_wr]
  · simp [Dev.rd_wr, v.isLt]
  · simp only [Dev.rd_wr, if_true, Dev.pwr_modDip, Dev.pwr_adcSample, Dev.wr_pwr, hpwr, hd, Option.map_some, Option.isSome_some, Bool.true_and]
    split <;> simp [*, b2n]
  · simp only [Dev.wr_pwr, Dev.pwr_modDip, Dev.pwr_adcSample, hpwr, hd, Option.map_some]
    rfl

theorem completes_supplyWarningDeassert_long {f : Nat} (hu : x.uvLong = false) (hf : x.belowFrom = some f)
    (hl : 1000000 ≤ x.below + (s.dev.now + after - f)) :
    Completes (.supplyWarningDeassert v after) s (fun t => t.rd (.pwr .EVT_UV_LONG) = 1 ∧ Reports s.dev t 17 0 ∧
      t.pwr.dip.map (·.uvLong) = some true) := by
  have hx := exec_supplyWarningDeassert v after hs ht
  have hd' : (s.dev.deasserted v.toNat after).pwr.dip = some { x with low := min x.low v.toNat } := by simp [Dev.deasserted, hd]
  have hsafe : (s.dev.deasserted v.toNat after).toSafe = s.dev.toSafe := by simp [Dev.deasserted]
  have huv := Dev.uvLong_of_long hd' hu (by simp [hf]) (by
    rw [Dev.deasserted, Dev.now_adcSample, Dev.wr_now, Dev.elapse_now]
    simpa [Dip.belowNs, hf] using hl)
  rw [huv, Dev.qualifyFrom, Dev.uvFault] at hx
  generalize s.dev.deasserted v.toNat after = e at hd' hsafe hx
  have hrd : ∀ g : Dev, (g.fault 17 0).rd (.pwr .EVT_UV_LONG) = g.rd (.pwr .EVT_UV_LONG) := fun _ => rfl
  have hp : ∀ g : Dev, (g.fault 17 0).pwr = g.pwr := fun _ => rfl
  refine ⟨_, hx, rfl, rfl, ?_, ?_, ?_⟩
  · rw [Dev.rd_wr, if_neg (by simp), Dev.rd_modDip, Dev.rd_modDip, hrd, Dev.rd_pwrEvent]
    simp [Dev.rd_wr]
  · rw [Reports, Dev.wr_toSafe, Dev.toSafe_modDip, Dev.toSafe_modDip, Dev.fault, Dev.toSafe_pwrEvent, Dev.toSafe_modDip, hsafe]
  · rw [Dev.wr_pwr, Dev.pwr_modDip, Dev.pwr_modDip, hp, Dev.pwr_pwrEvent, Dev.pwr_modDip, hd']
    rfl

theorem effect_supplyUvLong {f : Nat} (hu : x.uvLong = false) (hf : x.belowFrom = some f) :
    Effect .supplyUvLong s [.pwr .EVT_UV_LONG] (.pwr :: .irqs :: .toSafe :: timeParts) (fun t =>
      t.now = s.dev.now + (1000000 - (x.below + (s.dev.now - f))) ∧ t.rd (.pwr .EVT_UV_LONG) = 1 ∧ Reports s.dev t 17 0 ∧
      t.pwr = { s.dev.pwr with dip := some { x with uvLong := true } }) := by
  have hx : exec .supplyUvLong s = .next { s with dev := (s.dev.elapse (1000000 - (x.below + (s.dev.now - f)))).uvFault } := by
    show execSupplyUvLong s = _
    rw [execSupplyUvLong, State.run_live s _ hs]
    simp only [hd, hu, hf, supplyActs_of ht, Dip.belowNs, Option.isNone_some, Bool.not_true, Bool.false_eq_true, or_self, if_false]
  have hk := kept_elapse [.pwr .EVT_UV_LONG] (.pwr :: .irqs :: .toSafe :: timeParts) s.dev (1000000 - (x.below + (s.dev.now - f)))
    (fun _ h => by simp [h])
  have hpwr := s.dev.elapse_pwr (1000000 - (x.below + (s.dev.now - f)))
  have hsafe := s.dev.elapse_toSafe (1000000 - (x.below + (s.dev.now - f)))
  have hnow := s.dev.elapse_now (1000000 - (x.below + (s.dev.now - f)))
  generalize s.dev.elapse (1000000 - (x.below + (s.dev.now - f))) = e at hx hk hpwr hsafe hnow
  refine .of_next hx (kept_uvFault hk (by simp) (by simp) (by simp) (by simp)) ⟨?_, ?_, ?_, ?_⟩
  · rw [Dev.uvFault, Dev.fault, ← hnow]
    simp
  · exact (Dev.rd_pwrEvent _ _ _).trans (by simp [Dev.rd_wr])
  · rw [Reports, Dev.uvFault, Dev.fault, Dev.toSafe_pwrEvent, Dev.toSafe_modDip, hsafe]
  · rw [Dev.uvFault, Dev.fault, Dev.pwr_pwrEvent, Dev.pwr_modDip, hpwr, hd]
    rfl

/-! ### The qualifying run -/

/-- The device 64 µs into the run, the last sample taken. -/
def Dev.runEnded (d : Dev) (r v : Nat) : Dev := (d.elapse (r + 64000 - d.now)).adcSample v

omit hs ht in
theorem Dev.runEnded_effect (r : Nat) : Kept [.pwr .SUP_STATUS_VOLT] (.pwr :: timeParts) s.dev (s.dev.runEnded r v.toNat) ∧
    (s.dev.runEnded r v.toNat).now = max s.dev.now (r + 64000) ∧
    (s.dev.runEnded r v.toNat).pwr = { s.dev.pwr with dip := some { x with low := min x.low v.toNat } } ∧
    (s.dev.runEnded r v.toNat).saf = s.dev.saf := by
  refine ⟨kept_adcSample (kept_elapse _ _ _ _ fun _ h => by simp [h]) _ (by simp) (by simp), ?_, ?_, ?_⟩
  · rw [Dev.runEnded, Dev.now_adcSample, Dev.elapse_now]
    omega
  · have hpwr := s.dev.elapse_pwr (r + 64000 - s.dev.now)
    rw [Dev.runEnded]
    generalize s.dev.elapse (r + 64000 - s.dev.now) = e at hpwr
    rw [Dev.pwr_adcSample, hpwr, hd, Option.map_some]
  · rw [Dev.runEnded, Dev.saf_adcSample, Dev.elapse_saf]

variable {r : Nat} (hr : x.runFrom = some r) (hq : x.qualified = false)
include hr hq

theorem exec_dipQualified : exec (.dipQualified v) s = .next { s with
    dev := if v.toNat < 72 then (s.dev.runEnded r v.toNat).qualifyFrom v.toNat
      else if s.dev.is (.tck .STATUS_RUNNING) then
        ((s.dev.runEnded r v.toNat).modDip (fun x => { x with qualified := true })).wr (.pwr .SUP_STATUS_QUALIFYING) 0
      else (((s.dev.runEnded r v.toNat).modDip (fun x => { x with qualified := true })).wr (.pwr .SUP_STATUS_QUALIFYING) 0).closeDip false } := by
  have hrun : (((s.dev.runEnded r v.toNat).modDip (fun x => { x with qualified := true })).wr (.pwr .SUP_STATUS_QUALIFYING) 0).is
      (.tck .STATUS_RUNNING) = s.dev.is (.tck .STATUS_RUNNING) := Dev.is_congr (by
    rw [Dev.rd_wr, if_neg (by simp), Dev.rd_modDip, Dev.runEnded, Dev.rd_adcSample, Dev.rd_wr, if_neg (by simp), Dev.rd_elapse _ _ _ rfl])
  have hE : (s.dev.elapse (r + 64000 - s.dev.now)).adcSample v.toNat = s.dev.runEnded r v.toNat := rfl
  show execDipQualified v s = _
  rw [execDipQualified, State.run_live s _ hs]
  simp only [hd, hr, hq, supplyActs_of ht, Bool.not_true, Bool.false_eq_true, or_self, if_false, hE, hrun]

theorem effect_dipQualified_low (hv : v.toNat < 72) :
    Effect (.dipQualified v) s [.pwr .SUP_STATUS_VOLT, .pwr .SUP_STATUS_QUALIFYING] (.pwr :: timeParts) (fun t =>
      t.now = max s.dev.now (r + 64000) ∧ t.rd (.pwr .SUP_STATUS_QUALIFYING) = 0 ∧
      t.pwr = { s.dev.pwr with
        dip := some { x with
          low := min x.low v.toNat
          runFrom := none } }) := by
  have hx := exec_dipQualified v hs ht hd hr hq
  rw [if_pos hv, Dev.qualifyFrom] at hx
  obtain ⟨hk, hnow, hpwr, -⟩ := Dev.runEnded_effect v hd r
  generalize s.dev.runEnded r v.toNat = e at hx hk hnow hpwr
  refine .of_next hx ((kept_modDip (hk.mono (by simp) (by simp)) _ (by simp)).wr _ (by simp)) ⟨by rw [Dev.wr_now, Dev.now_modDip, hnow], ?_, ?_⟩
  · simp [Dev.rd_wr, show ¬ 72 ≤ v.toNat by omega, b2n]
  · simp [hpwr, show ¬ 72 ≤ v.toNat by omega, hq]

theorem effect_dipQualified_running (hv : 72 ≤ v.toNat) (htk : s.dev.rd (.tck .STATUS_RUNNING) ≠ 0) :
    Effect (.dipQualified v) s [.pwr .SUP_STATUS_VOLT, .pwr .SUP_STATUS_QUALIFYING] (.pwr :: timeParts) (fun t =>
      t.now = max s.dev.now (r + 64000) ∧ t.rd (.pwr .SUP_STATUS_QUALIFYING) = 0 ∧
      t.pwr = { s.dev.pwr with
        dip := some { x with
          low := min x.low v.toNat
          qualified := true } }) := by
  have hx := exec_dipQualified v hs ht hd hr hq
  rw [if_neg (by omega), if_pos ((Dev.is_eq_true_iff _ _).mpr htk)] at hx
  obtain ⟨hk, hnow, hpwr, -⟩ := Dev.runEnded_effect v hd r
  generalize s.dev.runEnded r v.toNat = e at hx hk hnow hpwr
  refine .of_next hx ((kept_modDip (hk.mono (by simp) (by simp)) _ (by simp)).wr _ (by simp)) ⟨by rw [Dev.wr_now, Dev.now_modDip, hnow], ?_, ?_⟩
  · simp [Dev.rd_wr]
  · simp [hpwr]

end

/-- The registers that the record of an episode writes. -/
def closeRegs : List Fld :=
  ([.pwr .SUP_STATUS_VOLT, .pwr .SUP_STATUS_QUALIFYING, .pwr .SUP_STATUS_INHIBIT, .pwr .SUP_STATUS_EPISODE_OPEN,
    .pwr .SUP_STATUS_SCRUB_PENDING, .pwr .SUP_STATUS_VERIFY_PENDING, .pwr .EVT_DIP_CLOSED, .hep .PF1_IPEND_SUPPLY,
    .saf .MON_STATUS_SCRUB_AGE] : List Fld) ++ dipRegs

theorem dipRecord_effect (d : Dev) (x : Dip) (dur : Nat) (reset : Bool) : Kept dipRegs [] d (d.dipRecord x dur reset) ∧
    (d.dipRecord x dur reset).rd (.pwr .DIP_LOG_MIN) = x.low % 256 ∧
    (d.dipRecord x dur reset).rd (.pwr .DIP_LOG_DUR) = min 4095 (dur / 1000) ∧
    (d.dipRecord x dur reset).rd (.pwr .DIP_LOG_REACHED_RESET) = b2n reset ∧
    (d.dipRecord x dur reset).rd (.pwr .DIP_LOG_UV_LONG) = b2n x.uvLong ∧ (d.dipRecord x dur reset).rd (.pwr .DIP_LOG_VALID) = 1 ∧
    Counts d (d.dipRecord x dur reset) (.pwr .DIP_CNT_COUNT) := by
  have hb : ∀ b, b2n b % 2 = b2n b := fun b => by cases b <;> rfl
  rw [Dev.dipRecord]
  refine ⟨((Kept.refl d).wrs _ (by simp [dipRegs])).inc (by simp [dipRegs]), ?_, ?_, ?_, ?_, ?_, ?_⟩
  · simp [Dev.rd_inc, Dev.rd_wr]
  · have : min 4095 (dur / 1000) < 4096 := by omega
    simp [Dev.rd_inc, Dev.rd_wr, Nat.mod_eq_of_lt this]
  · simp [Dev.rd_inc, Dev.rd_wr, hb]
  · simp [Dev.rd_inc, Dev.rd_wr, hb]
  · simp [Dev.rd_inc, Dev.rd_wr]
  · simp [Counts, Dev.rd_inc, Dev.rd_wr]

/-- The state of the device as an episode closes: the episode ended, the scrub due (R499 to R501). -/
def Dev.dipEnded (d : Dev) : Dev := { d with pwr := { d.pwr with dip := none, flashCut := false } }

/-- The registers of a closed episode. -/
def closeValues : List (Fld × Nat) :=
  [(.pwr .SUP_STATUS_INHIBIT, 0), (.pwr .SUP_STATUS_EPISODE_OPEN, 0), (.pwr .SUP_STATUS_QUALIFYING, 0),
    (.pwr .SUP_STATUS_SCRUB_PENDING, 1), (.pwr .SUP_STATUS_VERIFY_PENDING, 1), (.hep .PF1_IPEND_SUPPLY, 1),
    (.saf .MON_STATUS_SCRUB_AGE, 0)]

/-- The scrub pass that a closed episode schedules (R500). -/
def Dev.scrubDue (d : Dev) (tick : Bool) : Dev := { d with saf := { d.saf with scrubNew := true, scrubRun := tick } }

@[simp] theorem Dev.rd_scrubDue (d : Dev) (tick : Bool) (f : Fld) : (d.scrubDue tick).rd f = d.rd f := rfl
@[simp] theorem Dev.pwr_scrubDue (d : Dev) (tick : Bool) : (d.scrubDue tick).pwr = d.pwr := rfl
@[simp] theorem Dev.rd_dipEnded (d : Dev) (f : Fld) : d.dipEnded.rd f = d.rd f := rfl

theorem kept_scrubDue {F : List Fld} {P : List Part} {d e : Dev} (h : Kept F P d e) (tick : Bool) (hs : .saf ∈ P) : Kept F P d (e.scrubDue tick) :=
  h.withSaf { e.saf with scrubNew := true, scrubRun := tick } hs

theorem kept_dipEnded {F : List Fld} {P : List Part} {d e : Dev} (h : Kept F P d e) (hp : .pwr ∈ P) : Kept F P d e.dipEnded :=
  h.withPwr { e.pwr with dip := none, flashCut := false } hp

theorem Dev.closeDip_eq {d : Dev} {x : Dip} {r : Nat} (hd : d.pwr.dip = some x) (hr : x.runFrom = some r) (tick : Bool) :
    d.closeDip tick = (((d.dipRecord x (r - x.openAt) false).dipEnded.wrs closeValues).pwrEvent .EVT_DIP_CLOSED).scrubDue tick := by
  rw [Dev.closeDip, hd, Dev.scrubDue, Dev.dipEnded, closeValues]
  dsimp only
  rw [hr, Option.getD_some]

theorem closeDip_effect {d : Dev} {x : Dip} {r : Nat} (hd : d.pwr.dip = some x) (hr : x.runFrom = some r) (tick : Bool) :
    Kept closeRegs [.pwr, .saf, .irqs] d (d.closeDip tick) ∧
    (d.closeDip tick).pwr.dip = none ∧ (d.closeDip tick).rd (.pwr .SUP_STATUS_INHIBIT) = 0 ∧
    (d.closeDip tick).rd (.pwr .SUP_STATUS_EPISODE_OPEN) = 0 ∧ (d.closeDip tick).rd (.pwr .SUP_STATUS_SCRUB_PENDING) = 1 ∧
    (d.closeDip tick).rd (.pwr .SUP_STATUS_VERIFY_PENDING) = 1 ∧ (d.closeDip tick).rd (.pwr .EVT_DIP_CLOSED) = 1 ∧
    (d.closeDip tick).rd (.hep .PF1_IPEND_SUPPLY) = 1 ∧ (d.closeDip tick).saf.scrubNew = true ∧
    (d.closeDip tick).rd (.pwr .DIP_LOG_MIN) = x.low % 256 ∧ (d.closeDip tick).rd (.pwr .DIP_LOG_DUR) = min 4095 ((r - x.openAt) / 1000) ∧
    (d.closeDip tick).rd (.pwr .DIP_LOG_REACHED_RESET) = 0 ∧ (d.closeDip tick).rd (.pwr .DIP_LOG_UV_LONG) = b2n x.uvLong ∧
    (d.closeDip tick).rd (.pwr .DIP_LOG_VALID) = 1 ∧ Counts d (d.closeDip tick) (.pwr .DIP_CNT_COUNT) := by
  obtain ⟨hk, hmin, hdur, hreset, huv, hvalid, hcnt⟩ := dipRecord_effect d x (r - x.openAt) false
  rw [Dev.closeDip_eq hd hr]
  generalize d.dipRecord x (r - x.openAt) false = e at hk hmin hdur hreset huv hvalid hcnt
  have hrd : ∀ f, (((e.dipEnded.wrs closeValues).pwrEvent .EVT_DIP_CLOSED).scrubDue tick).rd f =
      ((e.dipEnded.wrs closeValues).wr (.pwr .EVT_DIP_CLOSED) 1).rd f := fun f => by rw [Dev.rd_scrubDue, Dev.rd_pwrEvent]
  have hold : ∀ f, f ∉ closeValues.map (·.1) → f ≠ .pwr .EVT_DIP_CLOSED → isCount f = false →
      (((e.dipEnded.wrs closeValues).pwrEvent .EVT_DIP_CLOSED).scrubDue tick).rd f = e.rd f := fun f hf hne hc => by
    rw [hrd, Dev.rd_wr, if_neg hne, (Dev.wrs_kept e.dipEnded closeValues).rd hf hc, Dev.rd_dipEnded]
  have hpwr : (((e.dipEnded.wrs closeValues).pwrEvent .EVT_DIP_CLOSED).scrubDue tick).pwr = e.dipEnded.pwr :=
    ((Dev.pwr_scrubDue _ _).trans (Dev.pwr_pwrEvent _ _)).trans ((Dev.wrs_kept e.dipEnded closeValues).same (x := .pwr) (by simp))
  have hkept : Kept closeRegs [.pwr, .saf, .irqs] e (((e.dipEnded.wrs closeValues).pwrEvent .EVT_DIP_CLOSED).scrubDue tick) :=
    kept_scrubDue (kept_pwrEvent ((kept_dipEnded (.refl e) (by simp)).wrs closeValues (by simp [closeValues, closeRegs])) _ (by simp [closeRegs])
      (by simp)) tick (by simp)
  refine ⟨(hk.mono (List.subset_append_right _ _) (by simp)).trans hkept, ?_, ?_, ?_, ?_, ?_, ?_, ?_, rfl, ?_, ?_, ?_, ?_, ?_, ?_⟩
  · exact congrArg Pwr.dip hpwr
  · rw [hrd]
    simp [Dev.rd_wr, closeValues]
  · rw [hrd]
    simp [Dev.rd_wr, closeValues]
  · rw [hrd]
    simp [Dev.rd_wr, closeValues]
  · rw [hrd]
    simp [Dev.rd_wr, closeValues]
  · rw [hrd]
    simp [Dev.rd_wr, closeValues]
  · rw [hrd]
    simp [Dev.rd_wr, closeValues]
  · rw [hold _ (by simp [closeValues]) (by simp) rfl, hmin]
  · rw [hold _ (by simp [closeValues]) (by simp) rfl, hdur]
  · rw [hold _ (by simp [closeValues]) (by simp) rfl, hreset]
    rfl
  · rw [hold _ (by simp [closeValues]) (by simp) rfl, huv]
  · rw [hold _ (by simp [closeValues]) (by simp) rfl, hvalid]
  · rw [Counts, hold _ (by simp [closeValues]) (by simp) rfl, hcnt]

section
variable {s : State} (v : BitVec 8) (hs : s.held = false) (ht : s.dev.rd (.pwr .CTRL_MON_TEST_DIS) = 0) {x : Dip}
  (hd : s.dev.pwr.dip = some x) {r : Nat} (hr : x.runFrom = some r) (hq : x.qualified = false)
include hs ht hd hr hq

theorem effect_dipQualified_stopped (hv : 72 ≤ v.toNat) (htk : s.dev.rd (.tck .STATUS_RUNNING) = 0) :
    Effect (.dipQualified v) s closeRegs (.pwr :: .saf :: .irqs :: timeParts) (fun t =>
      t.now = max s.dev.now (r + 64000) ∧ t.pwr.dip = none ∧ t.rd (.pwr .SUP_STATUS_INHIBIT) = 0 ∧
      t.rd (.pwr .SUP_STATUS_EPISODE_OPEN) = 0 ∧ t.rd (.pwr .SUP_STATUS_SCRUB_PENDING) = 1 ∧
      t.rd (.pwr .SUP_STATUS_VERIFY_PENDING) = 1 ∧ t.rd (.pwr .EVT_DIP_CLOSED) = 1 ∧ t.rd (.hep .PF1_IPEND_SUPPLY) = 1 ∧
      t.saf.scrubNew = true ∧ t.rd (.pwr .DIP_LOG_MIN) = min x.low v.toNat % 256 ∧
      t.rd (.pwr .DIP_LOG_DUR) = min 4095 ((r - x.openAt) / 1000) ∧ t.rd (.pwr .DIP_LOG_REACHED_RESET) = 0 ∧
      t.rd (.pwr .DIP_LOG_UV_LONG) = b2n x.uvLong ∧ t.rd (.pwr .DIP_LOG_VALID) = 1 ∧ Counts s.dev t (.pwr .DIP_CNT_COUNT)) := by
  have hx := exec_dipQualified v hs ht hd hr hq
  rw [if_neg (by omega), if_neg (by rw [Dev.is_eq_true_iff]; simp [htk])] at hx
  obtain ⟨hk, hnow, hpwr, -⟩ := Dev.runEnded_effect v hd r
  generalize s.dev.runEnded r v.toNat = e at hx hk hnow hpwr
  have hk1 : Kept closeRegs (.pwr :: .saf :: .irqs :: timeParts) s.dev
      ((e.modDip (fun x => { x with qualified := true })).wr (.pwr .SUP_STATUS_QUALIFYING) 0) :=
    (kept_modDip (hk.mono (by simp [closeRegs]) (List.cons_subset_cons _ fun _ h => by simp [h])) _ (by simp)).wr _ (by simp [closeRegs])
  have hcnt : ((e.modDip (fun x => { x with qualified := true })).wr (.pwr .SUP_STATUS_QUALIFYING) 0).rd (.pwr .DIP_CNT_COUNT) =
      s.dev.rd (.pwr .DIP_CNT_COUNT) := by
    rw [Dev.rd_wr, if_neg (by simp), Dev.rd_modDip, hk.rd (by simp) rfl]
  have hd1 : ((e.modDip (fun x => { x with qualified := true })).wr (.pwr .SUP_STATUS_QUALIFYING) 0).pwr.dip =
      some { x with low := min x.low v.toNat, qualified := true } := by
    rw [Dev.wr_pwr, Dev.pwr_modDip, hpwr, Option.map_some]
  have hn1 : ((e.modDip (fun x => { x with qualified := true })).wr (.pwr .SUP_STATUS_QUALIFYING) 0).now = e.now := by rw [Dev.wr_now, Dev.now_modDip]
  generalize (e.modDip (fun x => { x with qualified := true })).wr (.pwr .SUP_STATUS_QUALIFYING) 0 = g at hx hk1 hcnt hd1 hn1
  obtain ⟨hk2, h1, h2, h3, h4, h5, h6, h7, h8, h9, h10, h11, h12, h13, hc⟩ := closeDip_effect hd1 hr false
  exact .of_next hx (hk1.trans (hk2.mono (fun _ h => h) (by simp)))
    ⟨((hk2.same (x := .time) (by simp)).1.trans hn1).trans hnow, h1, h2, h3, h4, h5, h6, h7, h8, h9, h10, h11, h12, h13, hc.of_rd hcnt⟩

end

/-! ### SUPPLY_WARNING_MGMT -/

section
variable {s : State} (hs : s.held = false) (ht : s.dev.rd (.pwr .CTRL_MON_TEST_DIS) = 0) (hw : s.dev.rd (.pwr .SUP_STATUS_SUP_WARN) ≠ 0)
  (hl : s.dev.sec.lcTo = none) (ho : s.dev.sec.otpOp = none) (ha : s.dev.sec.arbTo = none)
include hs ht hw hl ho ha

omit hs ht hw in
/-- With no write of the one-time-programmable memory under way there is none to abandon. -/
theorem abandonOtp_none (report : Bool) (o : Otp) {d : Dev} (hd : d.sec = s.dev.sec) : abandonOtp report o d = (o, d) := by
  rw [← hd] at hl ho ha
  have hself : { d.sec with lcTo := none, otpOp := none, arbTo := none } = d.sec := by
    calc { d.sec with lcTo := none, otpOp := none, arbTo := none }
        = { d.sec with lcTo := d.sec.lcTo, otpOp := d.sec.otpOp, arbTo := d.sec.arbTo } := by rw [hl, ho, ha]
      _ = d.sec := rfl
  rw [abandonOtp]
  simp only [hl, ho, ha]
  exact congrArg (fun q => (o, ({ d with sec := q } : Dev))) hself

/-- The flash operation under way given up, which the episode records (R497). -/
def Dev.flashAbandoned (d : Dev) : Dev := { d with sbd := { d.sbd with flash := none }, pwr := { d.pwr with flashCut := true } }

omit hs ht hw hl ho ha in
theorem kept_flashAbandoned {F : List Fld} {P : List Part} {d e : Dev} (h : Kept F P d e) (hb : .sbd ∈ P) (hp : .pwr ∈ P) :
    Kept F P d e.flashAbandoned := (h.withSbd { e.sbd with flash := none } hb).withPwr { e.pwr with flashCut := true } hp

omit hs ht hw hl ho ha in
theorem Dev.cutFlash_program {d : Dev} {a : Nat} (h : d.sbd.flash = some (2, a)) :
    d.cutFlash = (d.flashAbandoned.wr (.sbd .FL_STATUS_RESULT) 5).logFirst (.sbd .FL_LOG_INCOMPLETE) [(.sbd .FL_LOG_PAGE, a)] := by
  rw [Dev.cutFlash, Dev.flashAbandoned]
  split
  · next b hb =>
    obtain rfl : a = b := by simpa [h] using hb
    dsimp only
  · next hn => exact absurd h (hn a)

omit hs ht hw hl ho ha in
theorem kept_cutFlash (d : Dev) : Kept [.sbd .FL_STATUS_RESULT, .sbd .FL_LOG_INCOMPLETE, .sbd .FL_LOG_PAGE] [.sbd, .pwr] d d.cutFlash := by
  rw [Dev.cutFlash]
  split
  · exact ((kept_flashAbandoned (.refl d) (by simp) (by simp)).wr 5 (by simp)).logFirst _ (by simp) (by simp)
  · exact .refl d

theorem exec_supplyWarningMgmt : exec .supplyWarningMgmt s = .next { s with dev := (s.dev.wr (.pwr .SUP_STATUS_INHIBIT) 1).cutFlash } := by
  have hsec : (s.dev.wr (.pwr .SUP_STATUS_INHIBIT) 1).cutFlash.sec = s.dev.sec :=
    (kept_cutFlash (s.dev.wr (.pwr .SUP_STATUS_INHIBIT) 1)).same (x := .sec) (by simp)
  show execSupplyWarningMgmt s = _
  rw [execSupplyWarningMgmt, State.runOtp_live s _ hs]
  rw [if_neg (by simp [(Dev.is_eq_true_iff _ _).mpr hw, supplyActs_of ht]), abandonOtp_none hl ho ha true s.otp hsec]

theorem effect_supplyWarningMgmt (hf : ∀ a, s.dev.sbd.flash ≠ some (2, a)) :
    Effect .supplyWarningMgmt s [.pwr .SUP_STATUS_INHIBIT] [] (fun t => t.rd (.pwr .SUP_STATUS_INHIBIT) = 1) := by
  have hcut : (s.dev.wr (.pwr .SUP_STATUS_INHIBIT) 1).cutFlash = s.dev.wr (.pwr .SUP_STATUS_INHIBIT) 1 := by
    rw [Dev.cutFlash]
    split
    · next a h => exact absurd h (hf a)
    · rfl
  have hx := exec_supplyWarningMgmt hs ht hw hl ho ha
  rw [hcut] at hx
  exact .of_next hx ((Kept.refl _).wr _ (by simp)) (by simp)

theorem effect_supplyWarningMgmt_program {a : Nat} (hf : s.dev.sbd.flash = some (2, a)) :
    Effect .supplyWarningMgmt s [.pwr .SUP_STATUS_INHIBIT, .sbd .FL_STATUS_RESULT, .sbd .FL_LOG_INCOMPLETE, .sbd .FL_LOG_PAGE] [.sbd, .pwr]
      (fun t => t.rd (.pwr .SUP_STATUS_INHIBIT) = 1 ∧ t.rd (.sbd .FL_STATUS_RESULT) = 5 ∧ t.rd (.sbd .FL_LOG_INCOMPLETE) ≠ 0 ∧
        t.sbd = { s.dev.sbd with flash := none } ∧ t.pwr = { s.dev.pwr with flashCut := true }) := by
  have hx := exec_supplyWarningMgmt hs ht hw hl ho ha
  have hf' : (s.dev.wr (.pwr .SUP_STATUS_INHIBIT) 1).sbd.flash = some (2, a) := hf
  rw [Dev.cutFlash_program hf'] at hx
  have hrd : ∀ f, ((s.dev.wr (.pwr .SUP_STATUS_INHIBIT) 1).flashAbandoned).rd f = (s.dev.wr (.pwr .SUP_STATUS_INHIBIT) 1).rd f := fun _ => rfl
  have hk : Kept [.pwr .SUP_STATUS_INHIBIT, .sbd .FL_STATUS_RESULT, .sbd .FL_LOG_INCOMPLETE, .sbd .FL_LOG_PAGE] [.sbd, .pwr] s.dev
      (s.dev.wr (.pwr .SUP_STATUS_INHIBIT) 1).flashAbandoned := kept_flashAbandoned ((Kept.refl _).wr _ (by simp)) (by simp) (by simp)
  have hparts : (s.dev.wr (.pwr .SUP_STATUS_INHIBIT) 1).flashAbandoned.sbd = { s.dev.sbd with flash := none } ∧
      (s.dev.wr (.pwr .SUP_STATUS_INHIBIT) 1).flashAbandoned.pwr = { s.dev.pwr with flashCut := true } := ⟨rfl, rfl⟩
  generalize (s.dev.wr (.pwr .SUP_STATUS_INHIBIT) 1).flashAbandoned = e at hx hrd hk hparts
  have hlog : Kept [.sbd .FL_LOG_INCOMPLETE, .sbd .FL_LOG_PAGE] [] (e.wr (.sbd .FL_STATUS_RESULT) 5)
      ((e.wr (.sbd .FL_STATUS_RESULT) 5).logFirst (.sbd .FL_LOG_INCOMPLETE) [(.sbd .FL_LOG_PAGE, a)]) := (Kept.refl _).logFirst _ (by simp) (by simp)
  have hsbd : _ = _ := hlog.same (x := .sbd) (by simp)
  have hpwr : _ = _ := hlog.same (x := .pwr) (by simp)
  refine .of_next hx ((hk.wr _ (by simp)).logFirst _ (by simp) (by simp)) ⟨?_, ?_, ?_, ?_, ?_⟩
  · rw [hlog.rd (by simp) rfl, Dev.rd_wr, if_neg (by simp), hrd]
    simp
  · rw [hlog.rd (by simp) rfl]
    simp
  · rw [Dev.logFirst]
    split
    · next h => exact (Dev.is_eq_true_iff _ _).mp h
    · simp
  · exact hsbd.trans hparts.1
  · exact hpwr.trans hparts.2

end

/-- Settles O44: every clause by the lemma about its command. -/
theorem dipEpisodes : Obligations.DipEpisodes := fun _ v after hs ht =>
  ⟨fun hd => ⟨effect_supplyWarningSafe_opens v after hs ht hd, effect_supplyWarningDeassert_closed v after hs ht hd⟩,
    fun _ hd => ⟨fun hsh => ⟨effect_supplyWarningSafe_again v after hs ht hd hsh, effect_supplyWarningDeassert_short v after hs ht hd hsh⟩,
      fun _ hu hf hl => completes_supplyWarningDeassert_long v after hs ht hd hu hf hl,
      fun _ hr hq => ⟨effect_dipQualified_low v hs ht hd hr hq, effect_dipQualified_running v hs ht hd hr hq,
        effect_dipQualified_stopped v hs ht hd hr hq⟩,
      fun _ hu hf => effect_supplyUvLong hs ht hd hu hf⟩,
    fun hw hl ho ha => ⟨effect_supplyWarningMgmt hs ht hw hl ho ha, fun _ => effect_supplyWarningMgmt_program hs ht hw hl ho ha⟩⟩

end Sys2Proof.Machine
end

section
-- The theorems are elaborated in order, which keeps the memory that a check of the whole text takes within its limit.
set_option Elab.async false

/-! SUPPORT.  Internal power states: their choice, entry, end and wakes, and the statement they settle (R505 to R520). -/

namespace Sys2Proof.Machine

open Sys2Proof.Safety Sys2Proof.Claims

@[simp] theorem maxState_width : (Fld.pwr .CTRL_MAX_STATE).width = 2 := rfl
@[simp] theorem target_width : (Fld.pwr .STATUS_TARGET).width = 2 := rfl
@[simp] theorem pwrState_width : (Fld.pwr .STATUS_STATE).width = 2 := rfl
@[simp] theorem evtStateChg_width : (Fld.pwr .EVT_STATE_CHG).width = 1 := rfl
@[simp] theorem evtA3Abort_width : (Fld.pwr .EVT_A3_ABORT).width = 1 := rfl
@[simp] theorem wakeTimer_width : (Fld.pwr .WAKE_STATUS_TIMER).width = 1 := rfl
@[simp] theorem wakeHost_width : (Fld.pwr .WAKE_STATUS_HOST).width = 1 := rfl
@[simp] theorem smbEid_width : (Fld.sbd .SMB_STATUS_EID).width = 8 := rfl

/-! ### Leaving and entering a state -/

section
variable {F : List Fld} {P : List Part} {d e : Dev}

theorem Dev.pwrState_lt (d : Dev) : d.pwrState < 4 := d.rd_lt (.pwr .STATUS_STATE)

@[simp] theorem Dev.rd_leaveState (d : Dev) (dest : Nat) (f : Fld) : (d.leaveState dest).rd f = d.rd f := by
  rw [Dev.leaveState]
  split <;> rfl

@[simp] theorem Dev.now_leaveState (d : Dev) (dest : Nat) : (d.leaveState dest).now = d.now := by
  rw [Dev.leaveState]
  split <;> rfl

/-- A state other than A3 is left after its exit latency (R505). -/
theorem Dev.pwr_leaveState_shallow (dest : Nat) (h0 : d.pwrState ≠ 0) (h3 : d.pwrState ≠ 3) (hl : d.pwr.leaving = none) :
    (d.leaveState dest).pwr = { d.pwr with leaving := some (d.now + exitOf d.pwrState, dest) } := by
  have hex : exitNs d.pwrState = exitOf d.pwrState := by
    have := d.pwrState_lt
    obtain h | h : d.pwrState = 1 ∨ d.pwrState = 2 := by omega
    · rw [h, exitNs, exitOf, if_pos rfl, if_pos rfl]
    · rw [h]
      rfl
  rw [Dev.leaveState, if_neg (by simp [h0, hl])]
  cases hc : d.pwr.committed with
  | none => simp [hex]
  | some c => simp [hex, h3]

/-- A3 is left no earlier than AON's acceptance of the command (R505, R515). -/
theorem Dev.pwr_leaveState_a3 (h3 : d.pwrState = 3) (hl : d.pwr.leaving = none) :
    (d.leaveState 0).pwr = { d.pwr with
      leaving := some ((match d.pwr.committed with | some k => max d.now (k + 122080) | none => d.now) + 900000, 0) } := by
  rw [Dev.leaveState, if_neg (by simp [h3, hl])]
  cases hc : d.pwr.committed with
  | none => simp [h3, exitNs]
  | some c => simp [h3, exitNs]

/-- An entry to A3 aborted (R515). -/
theorem abortA3_effect (h : d.rd (.pwr .STATUS_ENTERING) ≠ 0) : Kept abortRegs [.pwr, .irqs] d d.abortA3 ∧
    d.abortA3.rd (.pwr .STATUS_ENTERING) = 0 ∧ Counts d d.abortA3 (.pwr (.CNT_COUNT 3)) ∧ d.abortA3.rd (.pwr .EVT_A3_ABORT) = 1 ∧
    d.abortA3.pwrState = d.pwrState := by
  refine ⟨kept_abortA3 (.refl d) (fun _ h => h) (by simp) (by simp), ?_⟩
  rw [Dev.abortA3, if_pos ((Dev.is_eq_true_iff _ _).mpr h)]
  refine ⟨?_, ?_, ?_, ?_⟩
  · simp [Dev.rd_pwrEvent, Dev.pwrCnt, Dev.rd_inc, Dev.rd_wr]
  · simp [Counts, Dev.rd_pwrEvent, Dev.pwrCnt, Dev.rd_inc, Dev.rd_wr]
  · simp [Dev.rd_pwrEvent, Dev.rd_wr]
  · simp [Dev.pwrState, Dev.rd_pwrEvent, Dev.pwrCnt, Dev.rd_inc, Dev.rd_wr]

theorem kept_enterState (h : Kept F P d e) (a : Nat) (hs : .pwr .STATUS_STATE ∈ F) (hc : .pwr (.CNT_COUNT (a - 1)) ∈ F)
    (he : .pwr .EVT_STATE_CHG ∈ F) (hi : .irqs ∈ P) : Kept F P d (e.enterState a) :=
  kept_pwrEvent ((h.wr _ hs).inc hc) _ he hi

theorem Dev.rd_enterState (d : Dev) (a : Nat) (f : Fld) : (d.enterState a).rd f =
    (((d.wr (.pwr .STATUS_STATE) a).inc (.pwr (.CNT_COUNT (a - 1)))).wr (.pwr .EVT_STATE_CHG) 1).rd f := Dev.rd_pwrEvent _ _ _

end

/-! ### The choice -/

/-- The deepest state that passes every test (R511). -/
theorem Dev.choose_eq {d : Dev} {a : Nat} (ha : a = 0 ∨ (a ≤ d.rd (.pwr .CTRL_MAX_STATE) ∧ d.mayChoose a = true))
    (hb : ∀ b, a < b → b ≤ 3 → b ≤ d.rd (.pwr .CTRL_MAX_STATE) → d.mayChoose b = false) : d.choose = a := by
  have hmax : d.rd (.pwr .CTRL_MAX_STATE) < 4 := d.rd_lt _
  have hfind : d.choose = ([3, 2, 1].find? (fun b => decide (decide (b ≤ d.rd (.pwr .CTRL_MAX_STATE)) = true ∧ d.mayChoose b = true))).getD 0 := by
    rw [Dev.choose, List.find?_filter]
  have hno : ∀ b, a < b → b ≤ 3 → decide (decide (b ≤ d.rd (.pwr .CTRL_MAX_STATE)) = true ∧ d.mayChoose b = true) = false := fun b h h3 => by
    have := hb b h h3
    simp_all
  have hyes : a ≠ 0 → decide (decide (a ≤ d.rd (.pwr .CTRL_MAX_STATE)) = true ∧ d.mayChoose a = true) = true := fun h => by simp_all
  have ha3 : a ≤ 3 := by omega
  rw [hfind]
  interval_cases a
  · simp only [List.find?_cons, List.find?_nil, hno 3 (by decide) (by decide), hno 2 (by decide) (by decide), hno 1 (by decide) (by decide),
      Option.getD_none]
  · simp only [List.find?_cons, hno 3 (by decide) (by decide), hno 2 (by decide) (by decide), hyes (by decide), Option.getD_some]
  · simp only [List.find?_cons, hno 3 (by decide) (by decide), hyes (by decide), Option.getD_some]
  · simp only [List.find?_cons, hyes (by decide), Option.getD_some]

section
variable {s : State} (hs : s.held = false) (hl : s.dev.pwr.leaving = none) (he : s.dev.rd (.pwr .STATUS_ENTERING) = 0)
  (h3 : s.dev.pwrState ≠ 3) {d : Dev} (hd : d = s.dev.elapse (1000 - s.dev.now % 1000)) {a : Nat} (hc : d.choose = a)
include hs hl he h3 hd hc

/-- The choice at the next microsecond. -/
theorem exec_powerStateChoice : exec .powerStateChoice s = .next { s with
    dev := if a = 3 then (if s.dev.pwrState = 2 then d.wr (.pwr .STATUS_TARGET) a else (d.wr (.pwr .STATUS_TARGET) a).enterState 2).wr
        (.pwr .STATUS_ENTERING) 1
      else if s.dev.pwrState < a then (d.wr (.pwr .STATUS_TARGET) a).enterState a
      else if a < s.dev.pwrState then (d.wr (.pwr .STATUS_TARGET) a).leaveState a
      else d.wr (.pwr .STATUS_TARGET) a } := by
  have hst : d.pwrState = s.dev.pwrState := by rw [hd, Dev.pwrState, Dev.rd_elapse _ _ _ rfl, Dev.pwrState]
  have hst' : (d.wr (.pwr .STATUS_TARGET) a).pwrState = s.dev.pwrState := by rw [Dev.pwrState, Dev.rd_wr, if_neg (by simp), ← Dev.pwrState, hst]
  have hen : (d.wr (.pwr .STATUS_TARGET) a).is (.pwr .STATUS_ENTERING) = false := by
    rw [Dev.is_eq_false_iff, Dev.rd_wr, if_neg (by simp), hd, Dev.rd_elapse _ _ _ rfl, he]
  have hlv : d.pwr.leaving = none := by rw [hd, Dev.elapse_pwr, hl]
  show execPowerStateChoice s = _
  rw [execPowerStateChoice, State.run_live s _ hs, ← hd]
  simp only [hst, h3, hlv, hc, hst', hen, Option.isSome_none, Bool.false_eq_true, or_self, if_false]

theorem effect_powerStateChoice (ha : a < 4) :
    (a = s.dev.pwrState → Effect .powerStateChoice s [.pwr .STATUS_TARGET] timeParts (fun t => t.now = d.now ∧ t.rd (.pwr .STATUS_TARGET) = a)) ∧
    (s.dev.pwrState < a → a < 3 →
      Effect .powerStateChoice s [.pwr .STATUS_TARGET, .pwr .STATUS_STATE, .pwr (.CNT_COUNT (a - 1)), .pwr .EVT_STATE_CHG]
        (.irqs :: timeParts) (fun t => t.rd (.pwr .STATUS_TARGET) = a ∧ t.pwrState = a ∧ Counts s.dev t (.pwr (.CNT_COUNT (a - 1))) ∧
          t.rd (.pwr .EVT_STATE_CHG) = 1)) ∧
    (a = 3 → s.dev.pwrState = 2 →
      Effect .powerStateChoice s [.pwr .STATUS_TARGET, .pwr .STATUS_ENTERING] timeParts (fun t =>
        t.rd (.pwr .STATUS_TARGET) = 3 ∧ t.rd (.pwr .STATUS_ENTERING) = 1)) ∧
    (a = 3 → s.dev.pwrState < 2 →
      Effect .powerStateChoice s
        [.pwr .STATUS_TARGET, .pwr .STATUS_ENTERING, .pwr .STATUS_STATE, .pwr (.CNT_COUNT 1), .pwr .EVT_STATE_CHG]
        (.irqs :: timeParts) (fun t => t.rd (.pwr .STATUS_TARGET) = 3 ∧ t.pwrState = 2 ∧ t.rd (.pwr .STATUS_ENTERING) = 1 ∧
          Counts s.dev t (.pwr (.CNT_COUNT 1)))) ∧
    (a < s.dev.pwrState →
      Effect .powerStateChoice s [.pwr .STATUS_TARGET] (.pwr :: timeParts) (fun t => t.rd (.pwr .STATUS_TARGET) = a ∧
        t.pwr = { s.dev.pwr with leaving := some (d.now + exitOf s.dev.pwrState, a) })) := by
  have hx := exec_powerStateChoice hs hl he h3 hd hc
  have hk : ∀ F P, timeParts ⊆ P → Kept F P s.dev d := fun F P h => hd ▸ kept_elapse F P _ _ h
  have hcnt : ∀ i, d.rd (.pwr (.CNT_COUNT i)) = s.dev.rd (.pwr (.CNT_COUNT i)) := fun i => by rw [hd, Dev.rd_elapse _ _ _ rfl]
  have hpwr : d.pwr = s.dev.pwr := hd ▸ s.dev.elapse_pwr _
  have hst : d.pwrState = s.dev.pwrState := by rw [hd, Dev.pwrState, Dev.rd_elapse _ _ _ rfl, Dev.pwrState]
  have hlt := s.dev.pwrState_lt
  clear hd hc
  refine ⟨fun h => ?_, fun h h' => ?_, fun h h' => ?_, fun h h' => ?_, fun h => ?_⟩
  · rw [if_neg (by omega), if_neg (by omega), if_neg (by omega)] at hx
    exact .of_next hx ((hk _ _ fun _ h => h).wr _ (by simp)) ⟨rfl, by simp [Nat.mod_eq_of_lt ha]⟩
  · rw [if_neg (by omega), if_pos h] at hx
    refine .of_next hx (kept_enterState ((hk _ _ fun _ h => by simp [h]).wr _ (by simp)) _ (by simp) (by simp) (by simp) (by simp)) ⟨?_, ?_, ?_, ?_⟩
    · simp [Dev.rd_enterState, Dev.rd_inc, Dev.rd_wr, Nat.mod_eq_of_lt ha]
    · simp [Dev.pwrState, Dev.rd_enterState, Dev.rd_inc, Dev.rd_wr, Nat.mod_eq_of_lt ha]
    · simp [Counts, Dev.rd_enterState, Dev.rd_inc, Dev.rd_wr, hcnt]
    · simp [Dev.rd_enterState, Dev.rd_wr]
  · rw [if_pos h, if_pos h'] at hx
    exact .of_next hx (((hk _ _ fun _ h => h).wr _ (by simp)).wr _ (by simp)) ⟨by simp [Dev.rd_wr, h], by simp⟩
  · rw [if_pos h, if_neg (by omega)] at hx
    refine .of_next hx ((kept_enterState ((hk _ _ fun _ h => by simp [h]).wr _ (by simp)) _ (by simp) (by simp) (by simp) (by simp)).wr _ (by simp))
      ⟨?_, ?_, ?_, ?_⟩
    · simp [Dev.rd_enterState, Dev.rd_inc, Dev.rd_wr, h]
    · simp [Dev.pwrState, Dev.rd_enterState, Dev.rd_inc, Dev.rd_wr]
    · simp
    · simp [Counts, Dev.rd_enterState, Dev.rd_inc, Dev.rd_wr, hcnt]
  · rw [if_neg (by omega), if_neg (by omega), if_pos h] at hx
    have hst' : (d.wr (.pwr .STATUS_TARGET) a).pwrState = s.dev.pwrState := by rw [Dev.pwrState, Dev.rd_wr, if_neg (by simp), ← Dev.pwrState, hst]
    refine .of_next hx (kept_leaveState ((hk _ _ fun _ h => by simp [h]).wr _ (by simp)) _ (by simp)) ⟨?_, ?_⟩
    · simp [Nat.mod_eq_of_lt ha]
    · rw [Dev.pwr_leaveState_shallow a (by omega) (by omega) (by rw [Dev.wr_pwr, hpwr, hl]), hst', Dev.wr_pwr, hpwr]
      rfl

end

/-! ### Scheduled wakes, the commit and the exit -/

section
variable {s : State} (hs : s.held = false)
include hs

theorem exec_scheduledWake {n : Fin 64} (ht : s.dev.rd (.tck .STATUS_RUNNING) ≠ 0) (hg : s.dev.slotGated s.dev.pwrState n = true)
    (he : s.dev.rd (.pwr .STATUS_ENTERING) = 0) (hst : s.dev.pwrState = 1 ∨ s.dev.pwrState = 2) : exec (.scheduledWake n) s = .next { s with
    dev := if s.dev.pwrState = 2 then (s.dev.elapse (s.dev.toStart n - exitNs s.dev.pwrState - s.dev.rd (.pwr .GUARD_NS))).leaveState 0
      else s.dev.elapse (s.dev.toStart n - exitNs s.dev.pwrState - s.dev.rd (.pwr .GUARD_NS)) } := by
  have hp : ∀ k, (s.dev.elapse k).pwrState = s.dev.pwrState := fun k => by rw [Dev.pwrState, Dev.rd_elapse _ _ _ rfl, Dev.pwrState]
  have hen : ∀ k, (s.dev.elapse k).is (.pwr .STATUS_ENTERING) = false := fun k => by rw [Dev.is_eq_false_iff, Dev.rd_elapse _ _ _ rfl, he]
  have hrun : ¬ ((s.dev.pwrState ≠ 1 ∧ s.dev.pwrState ≠ 2) ∨ (!s.dev.slotGated s.dev.pwrState n) = true ∨
      (!s.dev.is (.tck .STATUS_RUNNING)) = true) := by
    rw [hg, (Dev.is_eq_true_iff _ _).mpr ht]
    simp
    omega
  show execScheduledWake n s = _
  rw [execScheduledWake, State.run_live s _ hs, if_neg hrun]
  simp only [hp, hen, Bool.false_eq_true, if_false]

theorem effect_scheduledWake {n : Fin 64} (ht : s.dev.rd (.tck .STATUS_RUNNING) ≠ 0) (hg : s.dev.slotGated s.dev.pwrState n = true)
    (hl : s.dev.pwr.leaving = none) (he : s.dev.rd (.pwr .STATUS_ENTERING) = 0) :
    (s.dev.pwrState = 1 → Effect (.scheduledWake n) s [] timeParts (fun t =>
      t.now = s.dev.now + (s.dev.toStart n - 2000 - s.dev.rd (.pwr .GUARD_NS)))) ∧
    (s.dev.pwrState = 2 → Effect (.scheduledWake n) s [] (.pwr :: timeParts) (fun t =>
      t.now = s.dev.now + (s.dev.toStart n - 40000 - s.dev.rd (.pwr .GUARD_NS)) ∧
      t.pwr = { s.dev.pwr with leaving := some (t.now + 40000, 0) })) := by
  refine ⟨fun h => ?_, fun h => ?_⟩
  · have hx := exec_scheduledWake hs ht hg he (.inl h)
    rw [if_neg (by omega), h] at hx
    exact .of_next hx (kept_elapse _ _ _ _ fun _ h => h) (Dev.elapse_now _ _)
  · have hx := exec_scheduledWake hs ht hg he (.inr h)
    rw [if_pos h, h] at hx
    have hp : ∀ k, (s.dev.elapse k).pwrState = 2 := fun k => by rw [Dev.pwrState, Dev.rd_elapse _ _ _ rfl, ← Dev.pwrState, h]
    refine .of_next hx (kept_leaveState (kept_elapse _ _ _ _ fun _ h => by simp [h]) _ (by simp)) ⟨?_, ?_⟩
    · rw [Dev.now_leaveState, Dev.elapse_now]
      rfl
    · rw [Dev.pwr_leaveState_shallow 0 (by rw [hp]; decide) (by rw [hp]; decide) (by rw [Dev.elapse_pwr, hl]), hp, Dev.elapse_pwr, Dev.now_leaveState]
      rfl

theorem effect_a3Commit_abort (he : s.dev.rd (.pwr .STATUS_ENTERING) ≠ 0)
    (h : s.dev.eligibleA3 = false ∨ s.dev.rd (.pwr .SUP_STATUS_EPISODE_OPEN) ≠ 0) :
    Effect .a3Commit s abortRegs [.pwr, .irqs] (fun t => t.rd (.pwr .STATUS_ENTERING) = 0 ∧ Counts s.dev t (.pwr (.CNT_COUNT 3)) ∧
      t.rd (.pwr .EVT_A3_ABORT) = 1 ∧ t.pwrState = s.dev.pwrState) :=
  .run (x := execA3Commit s) rfl rfl hs (by
    rw [if_neg (by simp [(Dev.is_eq_true_iff _ _).mpr he]), if_pos (by simpa [Dev.is_eq_true_iff] using h)]
    exact abortA3_effect he)

/-- The command launched to AON (R514). -/
def Dev.a3Committed (d : Dev) : Dev := { d with pwr := { d.pwr with committed := some d.now } }

theorem effect_a3Commit (he : s.dev.rd (.pwr .STATUS_ENTERING) ≠ 0) (hg : s.dev.eligibleA3 = true)
    (ho : s.dev.rd (.pwr .SUP_STATUS_EPISODE_OPEN) = 0) :
    (s.dev.hep.l1 = true ∨ s.dev.rd (.hep .LINK_STATUS_DL_UP) = 0 →
      Effect .a3Commit s [.pwr .STATUS_ENTERING, .pwr .STATUS_STATE, .pwr (.CNT_COUNT 2), .pwr .EVT_STATE_CHG] [.pwr, .irqs] (fun t =>
        t.pwrState = 3 ∧ t.rd (.pwr .STATUS_ENTERING) = 0 ∧ Counts s.dev t (.pwr (.CNT_COUNT 2)) ∧ t.rd (.pwr .EVT_STATE_CHG) = 1 ∧
        t.pwr = { s.dev.pwr with committed := some s.dev.now })) ∧
    (s.dev.hep.l1 = false → s.dev.rd (.hep .LINK_STATUS_DL_UP) ≠ 0 → Effect .a3Commit s [] [] (fun _ => True)) := by
  have hen : ¬ ((!s.dev.is (.pwr .STATUS_ENTERING)) = true) := by simp [(Dev.is_eq_true_iff _ _).mpr he]
  have hel : ¬ ((!s.dev.eligibleA3) = true ∨ s.dev.is (.pwr .SUP_STATUS_EPISODE_OPEN) = true) := by simp [hg, Dev.is_eq_true_iff, ho]
  refine ⟨fun h => ?_, fun h h' => .run (x := execA3Commit s) rfl rfl hs ?_⟩
  · have hx : exec .a3Commit s = .next { s with
        dev := ((s.dev.a3Committed.wrs [(.pwr .STATUS_ENTERING, 0), (.pwr .STATUS_STATE, 3)]).pwrCnt 2).pwrEvent .EVT_STATE_CHG } := by
      show execA3Commit s = _
      rw [execA3Commit, State.run_live s _ hs, if_neg hen, if_neg hel, if_neg (by
        rw [Dev.is_eq_true_iff]
        rcases h with h | h <;> simp [h])]
      rfl
    have hk : Kept [.pwr .STATUS_ENTERING, .pwr .STATUS_STATE, .pwr (.CNT_COUNT 2), .pwr .EVT_STATE_CHG] [.pwr, .irqs] s.dev s.dev.a3Committed :=
      (Kept.refl _).withPwr { s.dev.pwr with committed := some s.dev.now } (by simp)
    have hrd : ∀ f, s.dev.a3Committed.rd f = s.dev.rd f := fun _ => rfl
    have hpwr : s.dev.a3Committed.pwr = { s.dev.pwr with committed := some s.dev.now } := rfl
    generalize s.dev.a3Committed = e at hx hk hrd hpwr
    refine .of_next hx (kept_pwrEvent ((hk.wrs _ (by simp)).inc (by simp)) _ (by simp) (by simp)) ⟨?_, ?_, ?_, ?_, ?_⟩
    · simp [Dev.pwrState, Dev.rd_pwrEvent, Dev.pwrCnt, Dev.rd_inc, Dev.rd_wr]
    · simp [Dev.rd_pwrEvent, Dev.pwrCnt, Dev.rd_inc, Dev.rd_wr]
    · simp [Counts, Dev.rd_pwrEvent, Dev.pwrCnt, Dev.rd_inc, Dev.rd_wr, hrd]
    · simp [Dev.rd_pwrEvent, Dev.rd_wr]
    · rw [Dev.pwr_pwrEvent]
      exact hpwr
  · rw [if_neg hen, if_neg hel, if_pos ⟨by simp [h], (Dev.is_eq_true_iff _ _).mpr h'⟩]
    exact ⟨.refl _, trivial⟩

/-- A state left: nothing is being left any more (R505). -/
def Dev.exitEnded (d : Dev) : Dev := { d with pwr := { d.pwr with leaving := none, committed := none } }

omit hs in
theorem kept_exitEnded {F : List Fld} {P : List Part} {d e : Dev} (h : Kept F P d e) (hp : .pwr ∈ P) : Kept F P d e.exitEnded :=
  h.withPwr { e.pwr with leaving := none, committed := none } hp

omit hs in
theorem Dev.exitDone_eq {d : Dev} {x dest : Nat} (h : d.pwr.leaving = some (x, dest)) : d.exitDone =
    ((if d.pwrState = 3 then (d.elapse (x - d.now)).fromA3 else d.elapse (x - d.now)).exitEnded.wr (.pwr .STATUS_STATE) dest).pwrEvent
      .EVT_STATE_CHG := by
  have hp : (d.elapse (x - d.now)).pwrState = d.pwrState := by rw [Dev.pwrState, Dev.rd_elapse _ _ _ rfl, Dev.pwrState]
  rw [Dev.exitDone, h]
  dsimp only
  rw [hp]
  rfl

omit hs in
theorem Dev.elapse_to (d : Dev) (x : Nat) : (d.elapse (x - d.now)).now = max d.now x := by
  rw [Dev.elapse_now]
  omega

theorem effect_powerStateExitDone {x dest : Nat} (hl : s.dev.pwr.leaving = some (x, dest)) (hd : dest < 4) (h3 : s.dev.pwrState ≠ 3) :
    Effect .powerStateExitDone s [.pwr .STATUS_STATE, .pwr .EVT_STATE_CHG] (.pwr :: .irqs :: timeParts) (fun t =>
      t.pwrState = dest ∧ t.now = max s.dev.now x ∧ t.rd (.pwr .EVT_STATE_CHG) = 1 ∧
      t.pwr = { s.dev.pwr with
        leaving := none
        committed := none }) := by
  have hx : exec .powerStateExitDone s = .next { s with
      dev := ((s.dev.elapse (x - s.dev.now)).exitEnded.wr (.pwr .STATUS_STATE) dest).pwrEvent .EVT_STATE_CHG } := by
    show execPowerStateExitDone s = _
    rw [execPowerStateExitDone, State.run_live s _ hs, Dev.exitDone_eq hl, if_neg h3]
  have hk : Kept [.pwr .STATUS_STATE, .pwr .EVT_STATE_CHG] (.pwr :: .irqs :: timeParts) s.dev (s.dev.elapse (x - s.dev.now)).exitEnded :=
    kept_exitEnded (kept_elapse _ _ _ _ fun _ h => by simp [h]) (by simp)
  have hpwr : (s.dev.elapse (x - s.dev.now)).exitEnded.pwr = { s.dev.pwr with leaving := none, committed := none } := by
    rw [Dev.exitEnded, Dev.elapse_pwr]
  have hnow : (s.dev.elapse (x - s.dev.now)).exitEnded.now = max s.dev.now x := s.dev.elapse_to x
  generalize (s.dev.elapse (x - s.dev.now)).exitEnded = e at hx hk hpwr hnow
  refine .of_next hx (kept_pwrEvent (hk.wr _ (by simp)) _ (by simp) (by simp)) ⟨?_, ?_, ?_, ?_⟩
  · simp [Dev.pwrState, Dev.rd_pwrEvent, Dev.rd_wr, Nat.mod_eq_of_lt hd]
  · rw [Dev.now_pwrEvent]
    exact hnow
  · simp [Dev.rd_pwrEvent, Dev.rd_wr]
  · rw [Dev.pwr_pwrEvent]
    exact hpwr

end

/-! ### From A3 -/

/-- The frame memory zeroed at the end of A3 (R508). -/
def Dev.frameZeroed (d : Dev) : Dev := ((d.wr (.sbd .SMB_STATUS_EID) 0).zeroLines 0 73728).zeroLines (regionBase 6) 1024

theorem kept_smpLost {F : List Fld} {P : List Part} {d e : Dev} (h : Kept F P d e) (p : Nat) (hp : .pmc ∈ P) : Kept F P d (e.smpLost p) := by
  rw [Dev.smpLost]
  exact (kept_freeCount h _).withPmc _ hp

/-- The end of A3 writes the sample buffers' pointers and the watchdog beside the memory that it zeroes (R548, R583). -/
theorem kept_fromA3 (d : Dev) : Kept ((List.range 8).map fun p => .pmc (.SMP_PTR_WR p)) [.pmc, .sbd] d.frameZeroed d.fromA3 := by
  refine Kept.withSbd (.foldl _ _ (fun e p hp h => ?_) (.refl _)) _ (by simp)
  exact kept_smpLost (h.wr _ (List.mem_map_of_mem hp)) _ (by simp)

theorem Mem.get_zeroLines_of_zero {d : Dev} {k : Nat} (h : Mem.get d.mem k = 0) (l n : Nat) : Mem.get (d.zeroLines l n).mem k = 0 := by
  rw [Mem.get_zeroLines_eq, h, ite_self]

theorem completes_powerStateExitDone_a3 {s : State} (hs : s.held = false) {x dest : Nat} (hl : s.dev.pwr.leaving = some (x, dest)) (hd : dest < 4)
    (h3 : s.dev.pwrState = 3) :
    Completes .powerStateExitDone s (fun t => t.pwrState = dest ∧ t.now = max s.dev.now x ∧ t.pwr.leaving = none ∧
      (∀ k, k < 64 * 73728 → Mem.get t.mem k = 0) ∧ t.rd (.sbd .SMB_STATUS_EID) = 0) := by
  have hx : exec .powerStateExitDone s = .next { s with
      dev := ((s.dev.elapse (x - s.dev.now)).fromA3.exitEnded.wr (.pwr .STATUS_STATE) dest).pwrEvent .EVT_STATE_CHG } := by
    show execPowerStateExitDone s = _
    rw [execPowerStateExitDone, State.run_live s _ hs, Dev.exitDone_eq hl, if_pos h3]
  have hk := kept_fromA3 (s.dev.elapse (x - s.dev.now))
  have hnow : (s.dev.elapse (x - s.dev.now)).frameZeroed.now = max s.dev.now x := s.dev.elapse_to x
  have hmem : ∀ k, k < 64 * 73728 → Mem.get (s.dev.elapse (x - s.dev.now)).frameZeroed.mem k = 0 := fun k hk =>
    Mem.get_zeroLines_of_zero (Mem.get_zeroLines _ 0 73728 k (by omega) (by omega)) _ _
  have heid : (s.dev.elapse (x - s.dev.now)).frameZeroed.rd (.sbd .SMB_STATUS_EID) = 0 := by
    simp [Dev.frameZeroed, Dev.rd_wr]
  generalize (s.dev.elapse (x - s.dev.now)).fromA3 = e at hx hk
  generalize (s.dev.elapse (x - s.dev.now)).frameZeroed = g at hk hnow hmem heid
  have hlast : Kept [.pwr .STATUS_STATE, .pwr .EVT_STATE_CHG] [.pwr, .irqs] e ((e.exitEnded.wr (.pwr .STATUS_STATE) dest).pwrEvent .EVT_STATE_CHG) :=
    kept_pwrEvent ((kept_exitEnded (.refl e) (by simp)).wr _ (by simp)) _ (by simp) (by simp)
  have htime := (hlast.same (x := .time) (by simp)).1.trans (hk.same (x := .time) (by simp)).1
  have hm : _ = _ := hlast.same (x := .mem) (by simp)
  have hm' : _ = _ := hk.same (x := .mem) (by simp)
  refine ⟨_, hx, rfl, rfl, ?_, htime.trans hnow, ?_, fun k hk => ?_, ?_⟩
  · simp [Dev.pwrState, Dev.rd_pwrEvent, Dev.rd_wr, Nat.mod_eq_of_lt hd]
  · exact congrArg Pwr.leaving (Dev.pwr_pwrEvent _ _)
  · exact (congrArg (Mem.get · k) (hm.trans hm')).trans (hmem k hk)
  · rw [hlast.rd (by simp) rfl, hk.rd (by simp) rfl, heid]

/-! ### Wakes -/

theorem Dev.now_pmeSet (d : Dev) (f : Nat) : (d.pmeSet f).now = d.now :=
  ((kept_pmeSet (F := [.cs f .PM_PME_STATUS]) (P := [.hep]) (.refl d) f (by simp) (by simp)).same (x := .time) (by simp)).1

theorem Dev.pwr_pmeSet (d : Dev) (f : Nat) : (d.pmeSet f).pwr = d.pwr :=
  (kept_pmeSet (F := [.cs f .PM_PME_STATUS]) (P := [.hep]) (.refl d) f (by simp) (by simp)).same (x := .pwr) (by simp)

theorem Dev.rd_pwr_pmeSet (d : Dev) (f : Nat) (g : PwrF) : (d.pmeSet f).rd (.pwr g) = d.rd (.pwr g) :=
  (kept_pmeSet (F := [.cs f .PM_PME_STATUS]) (P := [.hep]) (.refl d) f (by simp) (by simp)).rd (by simp) rfl

/-- A wake in A0 and A1, no entry to A3 going on, does nothing (R516). -/
theorem Dev.wake_shallow {e : Dev} (latch : Dev → Dev) (hen : e.rd (.pwr .STATUS_ENTERING) = 0) (h : e.pwrState < 2) : e.wake latch = e := by
  rw [Dev.wake, if_neg (by simp [Dev.is, hen]), if_neg (by omega), if_neg (by omega)]

/-- A wake whose source is latched in one field of the power block (R515, R516). -/
theorem wakes {c : Sys2Proof.Instr} {s : State} {d e : Dev} {f : PwrF} {v : Nat} {latch : Dev → Dev} {parts : List Part}
    (hx : exec c s = .next { s with dev := e.wake latch })
    (hk : Kept [] (.hep :: parts) s.dev e) (hst : e.pwrState = s.dev.pwrState) (hen : e.rd (.pwr .STATUS_ENTERING) = 0)
    (hl : d.pwr.leaving = none) (hnow : e.now = d.now) (hpwr : e.pwr = d.pwr)
    (hlatch : Kept [.pwr f] [] e (latch e)) (hv : (latch e).rd (.pwr f) = v) (hf : f ≠ .STATUS_STATE) : Wakes c s d (.pwr f) v parts := by
  have hno : ¬ e.is (.pwr .STATUS_ENTERING) = true := by simp [Dev.is, hen]
  have hln : (latch e).now = d.now := (hlatch.same (x := .time) (by simp)).1.trans hnow
  have hlp : (latch e).pwr = e.pwr := hlatch.same (x := .pwr) (by simp)
  refine ⟨fun h3 x hxd => ?_, fun h2 => ?_, fun h01 => ?_⟩
  · have hs3 : ((latch e).pmeSet 0).pwrState = 3 := by
      rw [Dev.pwrState, Dev.rd_pwr_pmeSet, hlatch.rd (by simp [hf.symm]) rfl, ← Dev.pwrState, hst, h3]
    rw [Dev.wake, if_neg hno, if_pos (hst.trans h3)] at hx
    refine .of_next hx (kept_leaveState (kept_pmeSet ((hk.mono (by simp) (fun _ h => List.mem_cons_of_mem _ h)).trans
      (hlatch.mono (by simp) (by simp))) 0 (by simp) (by simp)) _ (by simp)) ⟨?_, ?_, ?_⟩
    · rw [Dev.rd_leaveState, Dev.rd_pwr_pmeSet, hv]
    · rw [Dev.now_leaveState, Dev.now_pmeSet, hln]
    · rw [Dev.pwr_leaveState_a3 hs3 (by rw [Dev.pwr_pmeSet, hlp, hpwr, hl]), Dev.pwr_pmeSet, Dev.now_pmeSet, hlp, hpwr, hln, hxd] <;> rfl
  · rw [Dev.wake, if_neg hno, if_neg (by omega), if_pos (hst.trans h2)] at hx
    refine .of_next hx (kept_leaveState (hk.mono (by simp) (fun _ h => List.mem_cons_of_mem _ h)) _ (by simp)) ⟨?_, ?_⟩
    · rw [Dev.now_leaveState, hnow]
    · rw [Dev.pwr_leaveState_shallow 0 (by omega) (by omega) (by rw [hpwr, hl]), hst, h2, hpwr, hnow]
      rfl
  · rw [Dev.wake_shallow latch hen (hst ▸ h01)] at hx
    exact .of_next hx hk hnow

section
variable {s : State} (hs : s.held = false) (he : s.dev.rd (.pwr .STATUS_ENTERING) = 0) (hl : s.dev.pwr.leaving = none)
include hs he hl

theorem wakes_signalDetect {p : Fin 4} (ha : s.dev.portAsleep p = true) (hw : bitAt (s.dev.rd (.pwr .WAKE_EN_SIGDET)) p = true) :
    Wakes (.wakeSignalDetect p) s s.dev (.pwr .WAKE_STATUS_SRC) (setBit (s.dev.rd (.pwr .WAKE_STATUS_SRC)) p) [] := by
  have hx : exec (.wakeSignalDetect p) s = .next { s with dev := s.dev.wake (fun d => d.setFldBit (.pwr .WAKE_STATUS_SRC) p) } := by
    show execWakeSignalDetect p s = _
    rw [execWakeSignalDetect, State.run_live s _ hs, if_pos ⟨ha, hw⟩]
  exact wakes hx (.refl _) rfl he hl rfl rfl ((Kept.refl _).wr _ (by simp))
    (Dev.rd_setFldBit _ _ _ (by have := p.isLt; rw [wakeSrc_width]; omega)) (by simp)

theorem wakes_timerExpiry {x : Dev} (hc : s.dev.rd (.pwr .WAKE_TIMER_COUNT) ≠ 0) (hx : x = (match s.dev.pwr.committed with
      | some k => s.dev.elapse (k + s.dev.rd (.pwr .WAKE_TIMER_COUNT) * 1000000000 / 32768 - s.dev.now)
      | none => s.dev)) : Wakes .wakeTimerExpiry s x (.pwr .WAKE_STATUS_TIMER) 1 timeParts := by
  have hexec : exec .wakeTimerExpiry s = .next { s with dev := x.wake (fun d => d.wr (.pwr .WAKE_STATUS_TIMER) 1) } := by
    show execWakeTimerExpiry s = _
    rw [execWakeTimerExpiry, State.run_live s _ hs, if_neg hc, hx] <;> rfl
  have hk : Kept [] timeParts s.dev x := by
    rw [hx]
    split
    · exact kept_elapse _ _ _ _ fun _ h => h
    · exact .refl _
  have hpwr : x.pwr = s.dev.pwr := hk.same (x := .pwr) (by simp [timeParts])
  exact wakes hexec (hk.mono (by simp) (fun _ h => List.mem_cons_of_mem _ h)) (hk.rd (by simp) rfl) ((hk.rd (by simp) rfl).trans he)
    (hpwr.symm ▸ hl) rfl rfl ((Kept.refl _).wr _ (by simp)) (by simp) (by simp)

/-- The host link out of L1 (R516). -/
def Dev.linkWoken (d : Dev) : Dev := { d with hep := { d.hep with l1 := false } }

omit hl in
theorem exec_hostLinkWake : exec .hostLinkWake s = .next { s with
    dev := if s.dev.pwrState = 3 then s.dev.linkWoken.wake (fun d => d.wr (.pwr .WAKE_STATUS_HOST) 1) else s.dev.linkWoken } := by
  have hno : s.dev.linkWoken.is (.pwr .STATUS_ENTERING) = false := (Dev.is_eq_false_iff _ _).mpr he
  show execHostLinkWake s = _
  rw [execHostLinkWake, State.run_live s _ hs]
  dsimp only
  rw [← Dev.linkWoken]
  simp only [hno, Bool.false_eq_true, or_false]
  rfl

theorem wakes_hostLinkWake (h2 : s.dev.pwrState ≠ 2) : Wakes .hostLinkWake s s.dev (.pwr .WAKE_STATUS_HOST) 1 [] := by
  have hx : exec .hostLinkWake s = .next { s with dev := s.dev.linkWoken.wake (fun d => d.wr (.pwr .WAKE_STATUS_HOST) 1) } := by
    rw [exec_hostLinkWake hs he]
    split
    · rfl
    · next h3 =>
      have hlt := s.dev.pwrState_lt
      rw [Dev.wake_shallow (e := s.dev.linkWoken) _ he (show s.dev.pwrState < 2 by omega)]
  exact wakes hx ((Kept.refl s.dev).withHep { s.dev.hep with l1 := false } (by simp)) rfl he hl rfl rfl ((Kept.refl _).wr _ (by simp)) (by simp) (by simp)

omit hl in
theorem effect_hostLinkWake_a2 (h2 : s.dev.pwrState = 2) : Effect .hostLinkWake s [] [.hep] (fun t => t.hep = { s.dev.hep with l1 := false }) := by
  have hx := exec_hostLinkWake hs he
  rw [if_neg (by omega)] at hx
  exact .of_next hx ((Kept.refl s.dev).withHep { s.dev.hep with l1 := false } (by simp)) rfl

theorem effect_maxStateWrite {v : Fin 4} (h : s.dev.pwrState < 2) :
    (s.dev.pwrState ≤ v.val → Effect (.maxStateWrite v) s [.pwr .CTRL_MAX_STATE] [] (fun t => t.rd (.pwr .CTRL_MAX_STATE) = v)) ∧
    (v.val < s.dev.pwrState → Effect (.maxStateWrite v) s [.pwr .CTRL_MAX_STATE] [.pwr] (fun t => t.rd (.pwr .CTRL_MAX_STATE) = v ∧
      t.pwr = { s.dev.pwr with leaving := some (s.dev.now + 2000, 0) })) := by
  have hc : Counted s.dev (s.dev.count 0x51 0 1) := .count _ _ _ _
  have hx : exec (.maxStateWrite v) s = .next { s with dev := if v.val < s.dev.pwrState then
      ((s.dev.count 0x51 0 1).wr (.pwr .CTRL_MAX_STATE) v).leaveState 0 else (s.dev.count 0x51 0 1).wr (.pwr .CTRL_MAX_STATE) v } := by
    have hno : ((s.dev.count 0x51 0 1).wr (.pwr .CTRL_MAX_STATE) v).is (.pwr .STATUS_ENTERING) = false := by
      rw [Dev.is_eq_false_iff, Dev.rd_wr, if_neg (by simp), hc.rd _ rfl, he]
    have hst : ((s.dev.count 0x51 0 1).wr (.pwr .CTRL_MAX_STATE) v).pwrState = s.dev.pwrState := by
      rw [Dev.pwrState, Dev.rd_wr, if_neg (by simp), hc.rd _ rfl, Dev.pwrState]
    show execMaxStateWrite v s = _
    rw [execMaxStateWrite, State.run_live s _ hs, Dev.hostAccess_awake _ _ h]
    simp only [hno, hst, Bool.false_eq_true, false_and, if_false]
  have hk : Kept [.pwr .CTRL_MAX_STATE] [] s.dev ((s.dev.count 0x51 0 1).wr (.pwr .CTRL_MAX_STATE) v) := ((Kept.refl _).counted hc).wr _ (by simp)
  have hv : ((s.dev.count 0x51 0 1).wr (.pwr .CTRL_MAX_STATE) v).rd (.pwr .CTRL_MAX_STATE) = v := by
    simp [Nat.mod_eq_of_lt v.isLt]
  generalize (s.dev.count 0x51 0 1).wr (.pwr .CTRL_MAX_STATE) v = e at hx hk hv
  have hst : e.pwrState = s.dev.pwrState := hk.rd (by simp) rfl
  have hpwr : e.pwr = s.dev.pwr := hk.same (x := .pwr) (by simp)
  have hnow : e.now = s.dev.now := (hk.same (x := .time) (by simp)).1
  refine ⟨fun hle => ?_, fun hlt => ?_⟩
  · rw [if_neg (by omega)] at hx
    exact .of_next hx hk hv
  · rw [if_pos hlt] at hx
    refine .of_next hx (kept_leaveState (hk.mono (fun _ h => h) (by simp)) _ (by simp)) ⟨by rw [Dev.rd_leaveState, hv], ?_⟩
    rw [Dev.pwr_leaveState_shallow 0 (by omega) (by omega) (by rw [hpwr, hl]), hst, show s.dev.pwrState = 1 by omega, hpwr, hnow]
    rfl

end

theorem effect_pmeMessage {s : State} (hs : s.held = false) {f : Fin 2} (hf : f.val ∈ s.dev.hep.pmeDue) (hd : s.dev.rd (.hep .LINK_STATUS_DL_UP) ≠ 0) :
    Effect (.pmeMessage f) s [] [.hep, .out] (fun t => t.out = s.dev.out ++ ([.pme f] : List Outbound) ∧ f.val ∉ t.hep.pmeDue ∧ t.hep.l1 = false) :=
  .run (x := execPmeMessage f s) rfl rfl hs (by
    rw [if_pos ⟨by simpa using hf, (Dev.is_eq_true_iff _ _).mpr hd⟩]
    exact ⟨((Kept.refl s.dev).withHep _ (by simp)).emit _ (by simp) (by simp), rfl, by simp [Dev.emit], by simp [Dev.emit]⟩)

/-! ### The statement -/

/-- Settles O45: every clause by the lemma about its command. -/
theorem powerStates : Obligations.PowerStates := fun s _ _ _ _ a d hs =>
  ⟨fun hl he h3 hd ha hb => effect_powerStateChoice hs hl he h3 hd (Dev.choose_eq ha hb) (by
      have := d.rd_lt (.pwr .CTRL_MAX_STATE)
      rw [maxState_width] at this
      omega),
    fun ht hg hl he => effect_scheduledWake hs ht hg hl he, fun he => ⟨effect_a3Commit_abort hs he, effect_a3Commit hs he⟩,
    fun _ _ hl hd => ⟨effect_powerStateExitDone hs hl hd, completes_powerStateExitDone_a3 hs hl hd⟩,
    fun he hl => ⟨wakes_signalDetect hs he hl, fun _ hc hx => wakes_timerExpiry hs he hl hc hx, wakes_hostLinkWake hs he hl,
      effect_hostLinkWake_a2 hs he⟩,
    fun h he hl => effect_maxStateWrite hs he hl h, effect_pmeMessage hs⟩

end Sys2Proof.Machine
end

section
-- The theorems are elaborated in order, which keeps the memory that a check of the whole text takes within its limit.
set_option Elab.async false

/-! SUPPORT.  Resets: what their scope leaves, the watchdog and refused requests (R543 to R551). -/

namespace Sys2Proof.Machine

open Sys2Proof.Safety Sys2Proof.Claims

@[simp] theorem rstResult_width : (Fld.sbd .RST_RESULT_LAST).width = 2 := rfl
@[simp] theorem rstCause_width : (Fld.sbd .RST_CAUSE_LAST).width = 3 := rfl
@[simp] theorem bootResult_width : (Fld.sbd .BOOT_STATUS_RESULT).width = 3 := rfl
@[simp] theorem bootHdr_width : (Fld.sbd .BOOT_STATUS_HDR).width = 1 := rfl
@[simp] theorem sfdpLog2_width : (Fld.sbd .SFDP_INFO_LOG2_BYTES).width = 5 := rfl
@[simp] theorem sfdpQuad_width : (Fld.sbd .SFDP_INFO_QUAD).width = 1 := rfl
@[simp] theorem sfdpAddr4_width : (Fld.sbd .SFDP_INFO_ADDR4).width = 1 := rfl
@[simp] theorem sfdpFallback_width : (Fld.sbd .SFDP_INFO_FALLBACK).width = 1 := rfl

/-! ### What a reset leaves -/

/-- A device after a reset of scope `k`, the pins that it changes among what has left (R543 to R545). -/
def Dev.wasReset (d : Dev) (k : ResetKind) : Dev := { d.afterReset k with out := (d.afterReset k).out ++ d.resetPins k }

theorem resetTo_wasReset (d : Dev) (k : ResetKind) : ResetTo d (d.wasReset k) k := by
  refine ⟨rfl, fun f => ?_, rfl, rfl, rfl, rfl, rfl, rfl, rfl, rfl, rfl, rfl, fun x hx => ?_⟩
  · have h := Regs.get_filter d.regs (fun f => !k.keeps f) f
    simp only [Bool.not_not] at h
    refine h.trans ?_
    cases k.keeps f
    · rfl
    · rfl
  · cases x
    case time | out | toSafe | fence | safeCore | tim | saf | boot | hep | rps | nextUid => simp at hx
    case pmc => exact ⟨rfl, rfl⟩
    all_goals rfl

/-- No reset keeps the value of a performance counter. -/
theorem keeps_of_isCount (k : ResetKind) {f : Fld} (h : isCount f = true) : k.keeps f = false := by
  unfold isCount at h
  split at h
  · simp [ResetKind.keeps, aonField, linkSticky]
  · cases h

/-- What a reset leaves does not tell whether an access was counted before it. -/
theorem resetTo_of_counted {d e t : Dev} {k : ResetKind} (h : Counted d e) (hr : ResetTo e t k) : ResetTo d t k := by
  have hrd : ∀ f, k.keeps f = true → e.rd f = d.rd f := fun f hf => h.rd f (by
    by_contra hc
    simp [keeps_of_isCount k (Bool.not_eq_false _ ▸ hc)] at hf)
  have hpins : e.resetPins k = d.resetPins k := by
    have hout := h.is (.saf .PIN_STATUS_OUT_A) rfl
    have hen := fun rp => h.is (.brg (.RP_CTRL_REFCLK_EN rp)) rfl
    have hclk := fun rp => h.is (.brg (.RP_CTRL_CLKREQ_EN rp)) rfl
    have haspm := fun rp => h.is (.brg (.RP_CTRL_ASPM_L1 rp)) rfl
    obtain ⟨r, w, rfl, -⟩ := h
    simp only [Dev.resetPins, Dev.refclkOn, hout, hen, hclk, haspm]
    rfl
  obtain ⟨hb, hf, hnow, hout, htim, htb, hsaf, htoSafe, hfence, hcore, hhep, hrps, hparts⟩ := hr
  rw [hpins] at hout
  obtain ⟨r, w, rfl, -⟩ := h
  refine ⟨hb, fun f => ?_, hnow, hout, htim, htb, hsaf, htoSafe, hfence, hcore, hhep, hrps, hparts⟩
  rw [hf]
  split
  · next hk => exact hrd f hk
  · rfl

/-- With neither a slot nor the counter being written, a reset leaves the one-time-programmable memory (R545). -/
theorem Dev.resetNow_eq (k : ResetKind) (o : Otp) {d : Dev} (ho : d.sec.otpOp = none) (ha : d.sec.arbTo = none) :
    Dev.resetNow k o d = (o, d.wasReset (scopeOf d k)) := by
  have hab : abandonOtp false o d = (o, { d with sec := { d.sec with lcTo := none, otpOp := none, arbTo := none } }) := by
    rw [abandonOtp]
    simp only [Bool.false_eq_true, if_false]
    cases d.sec.lcTo
    · simp only [ho, ha]
    · simp only [ho, ha]
  rw [Dev.resetNow, hab]
  rfl

theorem scopeOf_powerOn (d : Dev) : scopeOf d .powerOn = .powerOn := by
  have h : ∀ k : ResetKind, k.wider .powerOn = .powerOn := fun k => by
    cases k <;> rfl
  rw [scopeOf, h, ite_self]

theorem scopeOf_congr {d e : Dev} (hb : e.boot = d.boot) (hc : e.cfg = d.cfg) (k : ResetKind) : scopeOf e k = scopeOf d k := by
  simp only [scopeOf, Dev.booting, Dev.bootLoads, hb, hc] <;> rfl

/-! ### Commands that reset -/

section
variable {s : State}

theorem resets_powerOn : Resets .powerOnReset s s.dev .powerOn := fun ho ha => by
  have hx : exec .powerOnReset s = .next { s with dev := s.dev.wasReset .powerOn } := by
    show execPowerOnReset s = _
    rw [execPowerOnReset, State.runPin, State.act, Dev.resetNow_eq _ _ ho ha, scopeOf_powerOn]
    rfl
  exact ⟨_, hx, rfl, rfl, resetTo_wasReset _ _⟩

/-- The record of an open episode, which AON writes as a rail fails (R503). -/
def Dev.dipReset (d : Dev) : Dev := match d.pwr.dip with | some x => d.dipRecord x (d.now - x.openAt) true | none => d

theorem kept_dipReset (d : Dev) : Kept dipRegs [] d d.dipReset := by
  rw [Dev.dipReset]
  split
  · exact (dipRecord_effect d _ _ _).1
  · exact .refl d

theorem resets_powerOnClass : Resets .powerOnClassReset s s.dev.dipReset (scopeOf s.dev .powerOnClass) := fun ho ha => by
  have hk := kept_dipReset s.dev
  have hsec : s.dev.dipReset.sec = s.dev.sec := hk.same (x := .sec) (by simp)
  have hx : exec .powerOnClassReset s = .next { s with dev := s.dev.dipReset.wasReset (scopeOf s.dev .powerOnClass) } := by
    have hnow := Dev.resetNow_eq .powerOnClass s.otp (hsec.symm ▸ ho) (hsec.symm ▸ ha)
    rw [scopeOf_congr (hk.same (x := .boot) (by simp)) (hk.same (x := .cfg) (by simp))] at hnow
    show execPowerOnClassReset s = _
    rw [execPowerOnClassReset, State.runPin, State.act]
    exact congrArg (fun p : Otp × Dev => Host.Outcome.next { s with otp := p.1, dev := p.2 }) hnow
  exact ⟨_, hx, rfl, rfl, resetTo_wasReset _ _⟩

/-- A reset that the host asks for, once its checks pass. -/
theorem resets_host (ha : Awake s) {c : Sys2Proof.Instr} {x : Host.Outcome State Fault Refusal} {g : Otp → Dev → Otp × Dev} {k : ResetKind}
    (hx : exec c s = x) (hw : x = s.runOtp (fun o d => g o (d.hostAccess false)))
    (hg : ∀ e, Counted s.dev e → g s.otp e = Dev.resetNow k s.otp e) : Resets c s s.dev (scopeOf s.dev k) := fun ho harb => by
  have hc : Counted s.dev (s.dev.count 0x51 0 1) := .count _ _ _ _
  have hsec := counted_sec hc
  have hk : Kept [] [] s.dev (s.dev.count 0x51 0 1) := (Kept.refl _).counted hc
  have hnow := Dev.resetNow_eq k s.otp (d := s.dev.count 0x51 0 1) (hsec.symm ▸ ho) (hsec.symm ▸ harb)
  rw [scopeOf_congr (hk.same (x := .boot) (by simp)) (hk.same (x := .cfg) (by simp))] at hnow
  rw [State.runOtp_live s _ ha.1, Dev.hostAccess_awake _ _ ha.2, hg _ hc, hnow] at hw
  exact ⟨_, hx.trans hw, rfl, rfl, resetTo_of_counted hc (resetTo_wasReset _ _)⟩

/-- WARM_RESET on a device that has taken its access. -/
def Dev.warmReset (key : BitVec 8) (o : Otp) (d : Dev) : Otp × Dev :=
  if key ≠ 0xA5 then (o, d.rstRefuse 1) else if d.armed then (o, d.rstRefuse 2) else Dev.resetNow .warm o d

/-- SAFETY_RESET on a device that has taken its access. -/
def Dev.safetyReset (key : BitVec 8) (o : Otp) (d : Dev) : Otp × Dev :=
  if key ≠ 0xA5 then (o, d.rstRefuse 1) else if d.rd (.saf .STATE_STATE) ≠ 3 then (o, d.rstRefuse 3) else Dev.resetNow .safety o d

theorem rstRefused (ha : Awake s) {c : Sys2Proof.Instr} {x : Host.Outcome State Fault Refusal} {g : Otp → Dev → Otp × Dev} {code : Nat}
    (hx : exec c s = x) (hw : x = s.runOtp (fun o d => g o (d.hostAccess false)))
    (hg : ∀ e, Counted s.dev e → g s.otp e = (s.otp, e.rstRefuse code)) (hcode : code < 4) : RstRefused c s code := by
  have hc : Counted s.dev (s.dev.count 0x51 0 1) := .count _ _ _ _
  rw [State.runOtp_live s _ ha.1, Dev.hostAccess_awake _ _ ha.2, hg _ hc] at hw
  have hr := hc.rd (.sbd .RST_RESULT_REFUSED) rfl
  refine .of_next (hx.trans hw) ((((Kept.refl _).counted hc).wr _ (by simp)).inc (by simp)) ⟨?_, ?_⟩
  · simp [Dev.rstRefuse, Dev.rd_inc, Nat.mod_eq_of_lt hcode]
  · simp [Counts, Dev.rstRefuse, Dev.rd_inc, hr]

theorem armed_of_counted {e : Dev} (he : Counted s.dev e) : e.armed = s.dev.armed := by
  rw [Dev.armed, he.rd _ rfl, Dev.armed]

variable (ha : Awake s)
include ha

/-- WARM_RESET and SAFETY_RESET: the first check that fails refuses them (R546, R547). -/
theorem rstRequests {key : BitVec 8} :
    (key ≠ 0xA5 → RstRefused (.warmReset key) s 1 ∧ RstRefused (.safetyReset key) s 1) ∧
    (s.dev.armed = true → RstRefused (.warmReset 0xA5) s 2) ∧
    (s.dev.safState ≠ 3 → RstRefused (.safetyReset 0xA5) s 3) ∧
    (s.dev.armed = false → Resets (.warmReset 0xA5) s s.dev (scopeOf s.dev .warm)) ∧
    (s.dev.safState = 3 → Resets (.safetyReset 0xA5) s s.dev (scopeOf s.dev .safety)) := by
  have harm : ∀ e, Counted s.dev e → e.armed = s.dev.armed := fun _ he => armed_of_counted he
  have hsaf : ∀ e, Counted s.dev e → e.rd (.saf .STATE_STATE) = s.dev.safState := fun e he => he.rd _ rfl
  refine ⟨fun h => ⟨?_, ?_⟩, fun h => ?_, fun h => ?_, fun h => ?_, fun h => ?_⟩
  · exact rstRefused ha (x := execWarmReset key s) (g := Dev.warmReset key) rfl rfl (fun e _ => if_pos h) (by decide)
  · exact rstRefused ha (x := execSafetyReset key s) (g := Dev.safetyReset key) rfl rfl (fun e _ => if_pos h) (by decide)
  · exact rstRefused ha (x := execWarmReset 0xA5 s) (g := Dev.warmReset 0xA5) rfl rfl
      (fun e he => by simp [Dev.warmReset, harm e he, h]) (by decide)
  · exact rstRefused ha (x := execSafetyReset 0xA5 s) (g := Dev.safetyReset 0xA5) rfl rfl
      (fun e he => by simp [Dev.safetyReset, hsaf e he, h]) (by decide)
  · exact resets_host ha (x := execWarmReset 0xA5 s) (g := Dev.warmReset 0xA5) rfl rfl
      (fun e he => by simp [Dev.warmReset, harm e he, h])
  · exact resets_host ha (x := execSafetyReset 0xA5 s) (g := Dev.safetyReset 0xA5) rfl rfl
      (fun e he => by simp [Dev.safetyReset, hsaf e he, h])

theorem effect_wdtFeed {value : BitVec 32} :
    (value = 0x0000F33D →
      Effect (.wdtFeed value) s [] [.sbd] (fun t => t.sbd = { s.dev.sbd with
        wdtAcc := 0
        wdtFrom := if s.dev.rd (.sbd .WDT_CFG_EN) ≠ 0 then some s.dev.now else none })) ∧
    (value ≠ 0x0000F33D →
      Effect (.wdtFeed value) s [.sbd .WDT_STATUS_BAD_FEED] [] (fun t => Counts s.dev t (.sbd .WDT_STATUS_BAD_FEED))) := by
  refine ⟨fun h => ?_, fun h => ?_⟩
  · have hc : Counted s.dev (s.dev.count 0x51 0 1) := .count _ _ _ _
    have hx : exec (.wdtFeed value) s = .next { s with dev := (s.dev.count 0x51 0 1).wdtRestart } := by
      show execWdtFeed value s = _
      rw [execWdtFeed, State.run_live s _ ha.1, Dev.hostAccess_awake _ _ ha.2]
      exact congrArg (fun d => Host.Outcome.next { s with dev := d }) (if_pos h)
    have hen := hc.is (.sbd .WDT_CFG_EN) rfl
    have hk : Kept [] [.sbd] s.dev (s.dev.count 0x51 0 1) := (Kept.refl _).counted hc
    generalize s.dev.count 0x51 0 1 = e at hx hc hen hk
    refine .of_next hx (hk.withSbd _ (by simp)) ?_
    rw [Dev.wdtRestart, hen]
    obtain ⟨r, w, rfl, -⟩ := hc
    simp [Dev.is]
  · have hc : Counted s.dev (s.dev.count 0x51 0 1) := .count _ _ _ _
    have hr := hc.rd (.sbd .WDT_STATUS_BAD_FEED) rfl
    have hx : exec (.wdtFeed value) s = .next { s with dev := (s.dev.count 0x51 0 1).inc (.sbd .WDT_STATUS_BAD_FEED) } := by
      show execWdtFeed value s = _
      rw [execWdtFeed, State.run_live s _ ha.1, Dev.hostAccess_awake _ _ ha.2]
      exact congrArg (fun d => Host.Outcome.next { s with dev := d }) (if_neg h)
    exact .of_next hx (((Kept.refl _).counted hc).inc (by simp)) (by simp [Counts, Dev.rd_inc, hr])

omit ha in
theorem resets_watchdogExpiry {x : Nat} {d : Dev} (hs : s.held = false) (hw : s.dev.sbd.wdtFrom = some x) (he : s.dev.rd (.sbd .WDT_CFG_EN) ≠ 0)
    (hsaf : s.dev.safState = 0 ∨ s.dev.safState = 3) (hp : s.dev.pwrState ≠ 3)
    (hd : d = s.dev.elapse (x + s.dev.rd (.sbd .WDT_CFG_PERIOD) * 1000000 - s.dev.sbd.wdtAcc - s.dev.now)) :
    Resets .watchdogExpiry s d (scopeOf s.dev (.watchdog (s.dev.safState = 3))) := fun ho ha => by
  have hcnt : s.dev.wdtCounting = true := by
    have h : s.dev.rd (.saf .STATE_STATE) = 0 ∨ s.dev.rd (.saf .STATE_STATE) = 3 := hsaf
    simp [Dev.wdtCounting, Dev.is, he, h, hp]
  have hk : Kept [] timeParts s.dev d := hd ▸ kept_elapse _ _ _ _ fun _ h => h
  have hsec : d.sec = s.dev.sec := hk.same (x := .sec) (by simp [timeParts])
  have hst : d.rd (.saf .STATE_STATE) = s.dev.safState := hk.rd (by simp) rfl
  have hnow := Dev.resetNow_eq (.watchdog (s.dev.safState = 3)) s.otp (hsec.symm ▸ ho) (hsec.symm ▸ ha)
  rw [scopeOf_congr (hk.same (x := .boot) (by simp [timeParts])) (hk.same (x := .cfg) (by simp [timeParts]))] at hnow
  have hx : exec .watchdogExpiry s = .next { s with dev := d.wasReset (scopeOf s.dev (.watchdog (s.dev.safState = 3))) } := by
    show execWatchdogExpiry s = _
    rw [execWatchdogExpiry, State.runOtp_live s _ hs]
    simp only [hw, hcnt, Bool.not_true, Bool.false_eq_true, if_false, ← hd, hst, hnow]
  exact ⟨_, hx, rfl, rfl, resetTo_wasReset _ _⟩

end

/-! ### PCIE_PERST_N -/

section
variable {s : State}

/-- The fields that a reset of HEP returns to their reset values (R549). -/
def hepCleared (x : Fld) : Bool := match x with
  | .hep (.RDQ_MAX _) => false
  | .hep _ | .msix _ _ _ | .pba _ => !linkSticky x
  | .cs _ c => !c.kept
  | _ => false

theorem rd_hepReset (d : Dev) {f : Fld} (hf : hepCleared f = true) : d.hepReset.rd f = Regs.get [] f := by
  have h : d.hepReset.regs = (d.dropTags.resetWhere hepCleared).regs := rfl
  rw [Dev.rd, h, ← Dev.rd, Dev.rd_resetWhere, if_pos hf]
  rfl

theorem effect_perstAssert (hs : s.held = false) (hp : s.dev.hep.perst = false) :
    Completes .perstAssert s (fun t => t.hep = { perst := true } ∧ t.irqs = [] ∧ t.apWait = [] ∧ CfgAtReset t 0 ∧ CfgAtReset t 1 ∧
      t.rd (.hep .LINK_STATUS_DL_UP) = 0 ∧
      ∀ f, linkSticky (.hep f) = false → (∀ x, f ≠ .RDQ_MAX x) → t.rd (.hep f) = Regs.get [] (.hep f)) := by
  have hst : s.dev.boot.stage ≠ 0 := by simpa [State.held] using hs
  have hx : exec .perstAssert s = .next { s with dev := (((s.dev.wr (.hep .LINK_STATUS_DL_UP) 0).flr 0).flr 1).hepReset } := by
    show execPerstAssert s = _
    rw [execPerstAssert, State.runPin, State.act]
    simp only [hp, Bool.false_eq_true, if_false, hst]
  generalize ((s.dev.wr (.hep .LINK_STATUS_DL_UP) 0).flr 0).flr 1 = e at hx
  have hcs : ∀ f c, c.kept = false → e.hepReset.rd (.cs f c) = Regs.get [] (.cs f c) := fun f c hc =>
    rd_hepReset e (by simp [hepCleared, hc])
  have hhep : ∀ f, linkSticky (.hep f) = false → (∀ x, f ≠ .RDQ_MAX x) → e.hepReset.rd (.hep f) = Regs.get [] (.hep f) := fun f hf hm =>
    rd_hepReset e (by cases f <;> simp_all [hepCleared])
  exact ⟨_, hx, rfl, rfl, rfl, rfl, rfl, hcs 0, hcs 1, hhep .LINK_STATUS_DL_UP rfl (by simp), hhep⟩

theorem effect_perstDeassert (hp : s.dev.hep.perst = true) :
    (s.held = false →
      Effect .perstDeassert s [.sbd .RST_CAUSE_LAST] [.hep] (fun t => t.rd (.sbd .RST_CAUSE_LAST) = 5 ∧
        t.hep = { s.dev.hep with perst := false })) ∧
    (s.held = true → Effect .perstDeassert s [] [.hep] (fun t => t.hep = { s.dev.hep with perst := false })) := by
  refine ⟨fun hs => ?_, fun hs => ?_⟩
  · have hst : s.dev.boot.stage ≠ 0 := by simpa [State.held] using hs
    have hx : exec .perstDeassert s =
        .next { s with dev := Dev.wr { s.dev with hep := { s.dev.hep with perst := false } } (.sbd .RST_CAUSE_LAST) 5 } := by
      show execPerstDeassert s = _
      rw [execPerstDeassert, State.runPin, State.act]
      simp only [hp, Bool.not_true, Bool.false_eq_true, if_false, hst]
    exact .of_next hx (((Kept.refl _).withHep _ (by simp)).wr _ (by simp)) ⟨by simp [Dev.rd_wr], rfl⟩
  · have hst : s.dev.boot.stage = 0 := by simpa [State.held] using hs
    have hx : exec .perstDeassert s = .next { s with dev := { s.dev with hep := { s.dev.hep with perst := false } } } := by
      show execPerstDeassert s = _
      rw [execPerstDeassert, State.runPin, State.act]
      simp only [hp, Bool.not_true, Bool.false_eq_true, if_false, hst, if_true]
    exact .of_next hx ((Kept.refl _).withHep _ (by simp)) rfl

end

/-! ### Lines and the Almanac's defaults -/

theorem Dev.rawLine_of_write {t d : Dev} {l : Nat} {bs : List Byte} (h : t.mem = Mem.write d.mem (64 * l) bs) (hl : bs.length = 64) :
    t.rawLine l = bs := by
  refine List.ext_getElem (by simp [Dev.rawLine, hl]) fun i hi hb => ?_
  have hget := Mem.get_write_inside bs d.mem (64 * l) i hb
  simp only [Dev.rawLine, Dev.peek, List.getElem_map, List.getElem_range, h, hget, List.getD_eq_getElem _ _ hb]

theorem Dev.get_writeLine_other (d : Dev) {l k : Nat} (bs : List Byte) (z : Bool) (hk : k / 64 ≠ l) :
    Mem.get (d.writeLine l bs z).mem k = Mem.get d.mem k :=
  Mem.get_write_outside (sliceB bs 0 64) d.mem _ _ (by rw [length_sliceB]; omega)

theorem Dev.rawLine_writeLine (d : Dev) (l : Nat) {bs : List Byte} (z : Bool) (hb : bs.length = 64) :
    (d.writeLine l bs z).rawLine l = bs := by
  have h := Dev.rawLine_of_write (t := d.writeLine l bs z) (d := d) (l := l) (bs := sliceB bs 0 64) rfl (length_sliceB ..)
  rwa [sliceB_self bs 64 hb] at h

theorem Dev.rawLine_writeLine_other (d : Dev) {l m : Nat} (bs : List Byte) (z : Bool) (hm : m ≠ l) :
    (d.writeLine l bs z).rawLine m = d.rawLine m := by
  refine List.ext_getElem (by simp [Dev.rawLine]) fun i hi hb => ?_
  have hi64 : i < 64 := by simpa [Dev.rawLine] using hi
  have hget := d.get_writeLine_other (l := l) (k := 64 * m + i) bs z (by omega)
  simp only [Dev.rawLine, Dev.peek, List.getElem_map, List.getElem_range, hget]

theorem Dev.marks_writeLine_clean {d : Dev} (l : Nat) (bs : List Byte) (h : d.marks = []) : (d.writeLine l bs false).marks = [] := by
  simp [Dev.writeLine, Dev.setMark, Dev.store, h]

theorem crcByte_lt {poly c : Nat} (b : Byte) (hp : poly < 2 ^ 32) (hc : c < 2 ^ 32) : crcByte poly c b < 2 ^ 32 := by
  have hb : b.toNat < 2 ^ 32 := b.isLt.trans_le (Nat.pow_le_pow_right (by omega) (by omega))
  have hfold : ∀ (l : List Nat) (x : Nat), x < 2 ^ 32 →
      l.foldl (fun c _ => if c % 2 = 1 then Nat.xor (c / 2) poly else c / 2) x < 2 ^ 32 := by
    intro l
    induction l with
    | nil => exact fun _ hx => hx
    | cons _ _ ih =>
      refine fun x hx => ih _ ?_
      have hx2 : x / 2 < 2 ^ 32 := by omega
      dsimp only
      split
      · exact Nat.xor_lt_two_pow hx2 hp
      · exact hx2
  exact hfold _ _ (Nat.xor_lt_two_pow hc hb)

theorem crc32c_lt (bs : List Byte) : crc32c bs < 2 ^ 32 := by
  have hrun : ∀ (l : List Byte) (c : Nat), c < 2 ^ 32 → crcRun 0x82F63B78 c l < 2 ^ 32 := by
    intro l
    induction l with
    | nil => exact fun _ hc => hc
    | cons b _ ih => exact fun c hc => ih _ (crcByte_lt b (by decide) hc)
  exact Nat.xor_lt_two_pow (hrun bs _ (by decide)) (by decide)

/-- An Almanac entry as it is stored: 60 bytes and their CRC (R452). -/
def almStored (bs : List Byte) : List Byte := sliceB bs 0 60 ++ leBytes 4 (crc32c (sliceB bs 0 60))

theorem length_almStored (bs : List Byte) : (almStored bs).length = 64 := by simp [almStored]

theorem take_almStored (bs : List Byte) : (almStored bs).take 60 = sliceB bs 0 60 := by simp [almStored]

theorem leAt_almStored (bs : List Byte) : leAt (almStored bs) 60 4 = crc32c ((almStored bs).take 60) := by
  rw [take_almStored, almStored, leAt_append_right _ _ _ _ (by simp), length_sliceB, Nat.sub_self, leAt_leBytes]
  exact Nat.mod_eq_of_lt (crc32c_lt _)

theorem sliceB_almStored (bs : List Byte) {o k : Nat} (h : o + k ≤ 60) : sliceB (almStored bs) o k = sliceB bs o k := by
  rw [almStored, sliceB_append_left _ _ _ _ (by simpa using h)]
  exact List.map_congr_left fun i hi => by
    have := List.mem_range.mp hi
    simp [sliceB, show o + i < 60 by omega]

/-- The factory default of Almanac entry `e` (R452). -/
def Otp.almEntry (o : Otp) (e : Nat) : List Byte :=
  [BitVec.ofNat 8 e, 1] ++ List.replicate 22 0 ++ sliceB (o.almanac.getD e []) 0 16 ++ sliceB (o.almanac.getD e []) 0 16

theorem almEntry_values (o : Otp) (e : Nat) :
    almForce (almStored (o.almEntry e)) = sliceB (o.almanac.getD e []) 0 16 ∧
    almPending (almStored (o.almEntry e)) = sliceB (o.almanac.getD e []) 0 16 := by
  rw [almForce, almPending, sliceB_almStored _ (by omega), sliceB_almStored _ (by omega)]
  refine ⟨?_, ?_⟩
  · rw [Otp.almEntry, sliceB_append_left _ _ _ _ (by simp), sliceB_append_right _ _ _ _ (by simp)]
    exact sliceB_self _ _ (by simp)
  · rw [Otp.almEntry, sliceB_append_right _ _ _ _ (by simp)]
    exact sliceB_self _ _ (by simp)

theorem Dev.almDefault_eq (o : Otp) (d : Dev) (e : Nat) : Dev.almDefault o d e = d.writeLine (almLine e) (almStored (o.almEntry e)) false := rfl

/-- The Almanac's first `n` entries at their defaults. -/
def Dev.almDefaults (o : Otp) (n : Nat) (d : Dev) : Dev := (List.range n).foldl (fun (d : Dev) e => Dev.almDefault o d e) d

theorem Dev.almDefaults_succ (o : Otp) (n : Nat) (d : Dev) : d.almDefaults o (n + 1) = Dev.almDefault o (d.almDefaults o n) n := by
  simp [Dev.almDefaults, List.range_succ]

theorem kept_almDefaults {F : List Fld} {P : List Part} {d e : Dev} (h : Kept F P d e) (o : Otp) (n : Nat) (hm : .mem ∈ P) (hk : .marks ∈ P)
    (hw : .writeBacks ∈ P) : Kept F P d (e.almDefaults o n) :=
  .foldl _ _ (fun _ _ _ hi => hi.writeLine _ _ _ hm hk hw) h

theorem Dev.almDefaults_effect (o : Otp) (n : Nat) (d : Dev) :
    (∀ e < n, (d.almDefaults o n).alm e = almStored (o.almEntry e)) ∧
    (∀ k, (∀ e < n, k / 64 ≠ almLine e) → Mem.get (d.almDefaults o n).mem k = Mem.get d.mem k) ∧
    (d.marks = [] → (d.almDefaults o n).marks = []) := by
  induction n with
  | zero => exact ⟨fun _ h => absurd h (Nat.not_lt_zero _), fun _ _ => rfl, fun h => h⟩
  | succ n ih =>
    obtain ⟨halm, hmem, hmarks⟩ := ih
    rw [Dev.almDefaults_succ, Dev.almDefault_eq]
    refine ⟨fun e he => ?_, fun k hk => ?_, fun h => Dev.marks_writeLine_clean _ _ (hmarks h)⟩
    · by_cases hn : e = n
      · exact hn ▸ Dev.rawLine_writeLine _ _ _ (length_almStored _)
      · have hline : almLine e ≠ almLine n := by simp only [almLine, tableLine]; omega
        exact (Dev.rawLine_writeLine_other _ _ _ hline).trans (halm e (by omega))
    · rw [Dev.get_writeLine_other _ _ _ (hk n (by omega))]
      exact hmem k fun e he => hk e (by omega)

/-! ### The release of a reset -/

section
variable {s : State}

/-- The memories and clocks as a reset is released, before its cause is recorded (R551, R552). -/
def Dev.released (o : Otp) (d : Dev) : Dev := { d with
  mem := []
  marks := []
  boot := { d.boot with
    stage := 1
    t0 := d.now }
  cal := { d.cal with latched := o.almanac }
  sbd := { d.sbd with lfsr := ofLe (o.uid.take 2) } }

/-- The cause recorded, a challenge drawn, the boot under way (R535, R550, R556). -/
def Dev.bootCause (o : Otp) (d : Dev) : Dev :=
  (((d.released o).rstCause d.boot.kind).newChallenge).wr (.sbd .BOOT_STATUS_RESULT) 3

/-- The fields of the reset cause (R550). -/
def causeRegs : List Fld := [.sbd .RST_CAUSE_LAST, .sbd .RST_CAUSE_WARM_CNT, .sbd .RST_CAUSE_WDT_SAFETY, .sbd .RST_CAUSE_WDT_CNT,
  .sbd .RST_CAUSE_SAFETY_CNT]

theorem kept_rstCause {F : List Fld} {P : List Part} {d e : Dev} (h : Kept F P d e) (k : ResetKind) (hF : causeRegs ⊆ F) :
    Kept F P d (e.rstCause k) := by
  have hl := h.wr (k.rank) (f := .sbd .RST_CAUSE_LAST) (hF (by simp [causeRegs]))
  cases k with
  | powerOn => exact hl
  | powerOnClass => exact hl
  | warm => exact hl.inc (hF (by simp [causeRegs]))
  | watchdog _ => exact (hl.wr _ (hF (by simp [causeRegs]))).inc (hF (by simp [causeRegs]))
  | safety => exact hl.inc (hF (by simp [causeRegs]))

theorem rank_lt (k : ResetKind) : k.rank < 8 := by
  cases k <;> simp [ResetKind.rank]

theorem rd_rstCause (d : Dev) (k : ResetKind) : (d.rstCause k).rd (.sbd .RST_CAUSE_LAST) = k.rank := by
  have h := Nat.mod_eq_of_lt (rank_lt k)
  cases k <;> simp [Dev.rstCause, Dev.rd_wr, Dev.rd_inc, ResetKind.rank] at h ⊢

/-- The fields that SFDP fills (R559). -/
def sfdpRegs : List Fld := [.sbd .SFDP_INFO_LOG2_BYTES, .sbd .SFDP_INFO_QUAD, .sbd .SFDP_INFO_ADDR4, .sbd .SFDP_INFO_FALLBACK]

/-- What SFDP leaves: `n` the size, `ok` whether the fast mode serves (R559). -/
def Dev.sfdpSet (d : Dev) (n : Nat) (ok four : Bool) : Dev :=
  d.wrs [(.sbd .SFDP_INFO_LOG2_BYTES, n), (.sbd .SFDP_INFO_QUAD, b2n ok), (.sbd .SFDP_INFO_ADDR4, b2n four), (.sbd .SFDP_INFO_FALLBACK, b2n !ok)]

theorem kept_sfdpSet {F : List Fld} {P : List Part} {d e : Dev} (h : Kept F P d e) (n : Nat) (ok four : Bool) (hF : sfdpRegs ⊆ F) :
    Kept F P d (e.sfdpSet n ok four) :=
  (((h.wr n (hF (by simp [sfdpRegs]))).wr _ (hF (by simp [sfdpRegs]))).wr _ (hF (by simp [sfdpRegs]))).wr _ (hF (by simp [sfdpRegs]))

theorem Dev.rd_sfdpSet (d : Dev) (n : Nat) (ok four : Bool) :
    (d.sfdpSet n ok four).rd (.sbd .SFDP_INFO_QUAD) = b2n ok ∧ (d.sfdpSet n ok four).rd (.sbd .SFDP_INFO_ADDR4) = b2n four ∧
    (d.sfdpSet n ok four).rd (.sbd .SFDP_INFO_FALLBACK) = (b2n !ok) ∧ (d.sfdpSet n ok four).rd (.sbd .SFDP_INFO_LOG2_BYTES) = n % 32 := by
  have hb : ∀ b : Bool, b2n b % 2 = b2n b := by decide
  refine ⟨?_, ?_, ?_, ?_⟩ <;> simp [Dev.sfdpSet, Dev.rd_wr, Dev.wrs, hb]

/-- What the read of SFDP leaves: the size it gives, or a free value without it (R559). -/
def Dev.sfdpRead (d : Dev) (sfdp : Bool) (log2 : Fin 32) (ok four : Bool) : Dev :=
  if sfdp then d.sfdpSet log2 ok four else d.fresh.2.sfdpSet d.fresh.1 ok four

theorem Dev.sfdpRead_effect (d : Dev) (sfdp : Bool) (log2 : Fin 32) (ok four : Bool) :
    Kept sfdpRegs [] d (d.sfdpRead sfdp log2 ok four) ∧
    (d.sfdpRead sfdp log2 ok four).rd (.sbd .SFDP_INFO_QUAD) = b2n ok ∧ (d.sfdpRead sfdp log2 ok four).rd (.sbd .SFDP_INFO_ADDR4) = b2n four ∧
    (d.sfdpRead sfdp log2 ok four).rd (.sbd .SFDP_INFO_FALLBACK) = (b2n !ok) ∧
    (sfdp = true → (d.sfdpRead sfdp log2 ok four).rd (.sbd .SFDP_INFO_LOG2_BYTES) = log2) := by
  cases sfdp with
  | false =>
    obtain ⟨hq, hf, hb, -⟩ := d.fresh.2.rd_sfdpSet d.fresh.1 ok four
    exact ⟨kept_sfdpSet (kept_freeCount (.refl d) _) _ _ _ fun _ h => h, hq, hf, hb, fun h => absurd h Bool.false_ne_true⟩
  | true =>
    obtain ⟨hq, hf, hb, hl⟩ := d.rd_sfdpSet log2 ok four
    exact ⟨kept_sfdpSet (.refl d) _ _ _ fun _ h => h, hq, hf, hb, fun _ => hl.trans (Nat.mod_eq_of_lt log2.isLt)⟩

theorem bootCause_effect (o : Otp) (d : Dev) :
    Kept (causeRegs ++ .sbd .BOOT_STATUS_RESULT :: chalRegs) [.mem, .marks, .writeBacks, .boot, .cal, .sbd] d (d.bootCause o) ∧
    (d.bootCause o).boot = { d.boot with
      stage := 1
      t0 := d.now } ∧
    (d.bootCause o).rd (.sbd .RST_CAUSE_LAST) = d.boot.kind.rank ∧ (d.bootCause o).rd (.sbd .BOOT_STATUS_RESULT) = 3 ∧
    (d.bootCause o).marks = [] ∧ (d.bootCause o).cal.latched = o.almanac ∧ (d.bootCause o).mem = [] := by
  have hk0 : Kept causeRegs [.mem, .marks, .writeBacks, .boot, .cal, .sbd] d (d.released o) :=
    (((((Kept.refl _).withMem [] (by simp)).withMarks [] (by simp)).withBoot _ (by simp)).withCal _ (by simp)).withSbd _ (by simp)
  have hk1 : Kept causeRegs [] (d.released o) ((d.released o).rstCause d.boot.kind) := kept_rstCause (.refl _) _ fun _ h => h
  have hk2 := kept_newChallenge (F := chalRegs) (P := []) (.refl ((d.released o).rstCause d.boot.kind)) fun _ h => h
  have hsame : Kept (causeRegs ++ chalRegs) [] (d.released o) (((d.released o).rstCause d.boot.kind).newChallenge) :=
    (hk1.mono (by simp) (by simp)).trans (hk2.mono (by simp) (by simp))
  have hboot : _ = _ := hsame.same (x := .boot) (by simp)
  have hcal : _ = _ := hsame.same (x := .cal) (by simp)
  have hmem : _ = _ := hsame.same (x := .mem) (by simp)
  have hmarks : _ = _ := hsame.same (x := .marks) (by simp)
  have hcause := hk2.rd (f := .sbd .RST_CAUSE_LAST) (by simp [chalRegs]) rfl
  refine ⟨((hk0.mono (by simp) (by simp)).trans (hsame.mono (by simp) (by simp))).wr _ (by simp), hboot, ?_, ?_, hmarks, ?_, hmem⟩
  · rw [Dev.bootCause, Dev.rd_wr, if_neg (by simp), hcause, rd_rstCause]
  · simp [Dev.bootCause, Dev.rd_wr]
  · exact congrArg Cal.latched hcal

/-- The fields that the release of a reset may write (R550 to R559). -/
def releaseRegs : List Fld :=
  ([.sbd .RST_CAUSE_LAST, .sbd .RST_CAUSE_WARM_CNT, .sbd .RST_CAUSE_WDT_SAFETY, .sbd .RST_CAUSE_WDT_CNT, .sbd .RST_CAUSE_SAFETY_CNT,
    .sbd .BOOT_STATUS_RESULT, .sbd .SFDP_INFO_LOG2_BYTES, .sbd .SFDP_INFO_QUAD, .sbd .SFDP_INFO_ADDR4, .sbd .SFDP_INFO_FALLBACK] : List Fld) ++
    chalRegs

theorem subset_releaseRegs : causeRegs ++ .sbd .BOOT_STATUS_RESULT :: chalRegs ⊆ releaseRegs :=
  List.append_subset.mpr ⟨by simp [causeRegs, releaseRegs], List.cons_subset.mpr ⟨by simp [releaseRegs], fun _ h => by simp [releaseRegs, h]⟩⟩

theorem sfdpRegs_subset_releaseRegs : sfdpRegs ⊆ releaseRegs := by simp [sfdpRegs, releaseRegs]

theorem effect_resetRelease {testEn sfdp quad erase addr4 : Bool} {log2 : Fin 32} (hs : s.held = true) :
    (testEn = true → s.dev.boot.kind.hitsTim = true →
      Effect (.resetRelease testEn sfdp quad erase addr4 log2) s [] [] (fun _ => True)) ∧
    (testEn = false ∨ s.dev.boot.kind.hitsTim = false →
      Effect (.resetRelease testEn sfdp quad erase addr4 log2) s
        (([.sbd .RST_CAUSE_LAST, .sbd .RST_CAUSE_WARM_CNT, .sbd .RST_CAUSE_WDT_SAFETY, .sbd .RST_CAUSE_WDT_CNT, .sbd .RST_CAUSE_SAFETY_CNT,
          .sbd .BOOT_STATUS_RESULT, .sbd .SFDP_INFO_LOG2_BYTES, .sbd .SFDP_INFO_QUAD, .sbd .SFDP_INFO_ADDR4, .sbd .SFDP_INFO_FALLBACK] : List Fld) ++
          chalRegs) [.mem, .marks, .writeBacks, .boot, .cal, .sbd] (fun t =>
        t.boot = { s.dev.boot with
          stage := 1
          t0 := s.dev.now } ∧
        t.rd (.sbd .RST_CAUSE_LAST) = s.dev.boot.kind.rank ∧ t.rd (.sbd .BOOT_STATUS_RESULT) = 3 ∧ t.marks = [] ∧
        t.cal.latched = s.otp.almanac ∧
        (∀ e : Fin 14, almForce (t.alm e) = sliceB (s.otp.almanac.getD e []) 0 16 ∧ almPending (t.alm e) = almForce (t.alm e) ∧
          leAt (t.alm e) 60 4 = crc32c ((t.alm e).take 60)) ∧
        (∀ k, (∀ e : Fin 14, k / 64 ≠ almLine e) → Mem.get t.mem k = 0) ∧
        t.rd (.sbd .SFDP_INFO_QUAD) = b2n (sfdp && quad && erase) ∧ t.rd (.sbd .SFDP_INFO_ADDR4) = b2n (sfdp && addr4) ∧
        t.rd (.sbd .SFDP_INFO_FALLBACK) = b2n !(sfdp && quad && erase) ∧ (sfdp = true → t.rd (.sbd .SFDP_INFO_LOG2_BYTES) = log2))) := by
  have hst : s.dev.boot.stage = 0 := by simpa [State.held] using hs
  have hx : exec (.resetRelease testEn sfdp quad erase addr4 log2) s =
      s.runPin (fun o d => if d.boot.stage ≠ 0 ∨ (testEn ∧ d.boot.kind.hitsTim) then (o, d) else
        (o, ((d.bootCause o).almDefaults o 14).sfdpRead sfdp log2 (sfdp && quad && erase) (sfdp && addr4))) := by
    cases sfdp <;> rfl
  rw [State.runPin, State.act, if_neg Bool.false_ne_true] at hx
  refine ⟨fun ht hk => ?_, fun h => ?_⟩
  · rw [if_pos (Or.inr ⟨ht, hk⟩)] at hx
    exact .of_next hx (.refl _) trivial
  · have hn : ¬(s.dev.boot.stage ≠ 0 ∨ (testEn ∧ s.dev.boot.kind.hitsTim)) := by
      rintro (h0 | ⟨ht, hk⟩)
      · exact h0 hst
      · rcases h with h | h
        · exact Bool.false_ne_true (h ▸ ht)
        · exact Bool.false_ne_true (h ▸ hk)
    rw [if_neg hn] at hx
    obtain ⟨hk1, hboot, hcause, hres, hmarks, hlat, hmem⟩ := bootCause_effect s.otp s.dev
    obtain ⟨halm, hother, hclean⟩ := (s.dev.bootCause s.otp).almDefaults_effect s.otp 14
    have hk2 := kept_almDefaults (.refl (s.dev.bootCause s.otp)) s.otp 14 (F := []) (P := [.mem, .marks, .writeBacks])
      (by simp) (by simp) (by simp)
    have hboot2 : _ = _ := hk2.same (x := .boot) (by simp)
    have hcal2 : _ = _ := hk2.same (x := .cal) (by simp)
    have hrd2 := fun f h => hk2.rd (f := f) (by simp) h
    have hk := hk1.trans (hk2.mono (by simp) (by simp))
    generalize (s.dev.bootCause s.otp).almDefaults s.otp 14 = e at *
    obtain ⟨hkf, hquad, hfour, hfall, hlog⟩ := e.sfdpRead_effect sfdp log2 (sfdp && quad && erase) (sfdp && addr4)
    have hrdf := fun f h => hkf.rd (f := f) h
    have hbootf : _ = _ := hkf.same (x := .boot) (by simp)
    have hcalf : _ = _ := hkf.same (x := .cal) (by simp)
    have hmemf : _ = _ := hkf.same (x := .mem) (by simp)
    have hmarksf : _ = _ := hkf.same (x := .marks) (by simp)
    have halmf : ∀ k, (e.sfdpRead sfdp log2 (sfdp && quad && erase) (sfdp && addr4)).alm k = e.alm k := fun k => by
      simp [Dev.alm, Dev.rawLine, Dev.peek, hmemf]
    refine .of_next hx ((hk.mono subset_releaseRegs (by simp)).trans (hkf.mono sfdpRegs_subset_releaseRegs (by simp)))
      ⟨hbootf.trans (hboot2.trans hboot), ?_, ?_, hmarksf.trans (hclean hmarks), ?_, fun k => ?_, fun k hk => ?_, hquad, hfour, hfall, hlog⟩
    · exact (hrdf _ (by simp [sfdpRegs]) rfl).trans ((hrd2 _ rfl).trans hcause)
    · exact (hrdf _ (by simp [sfdpRegs]) rfl).trans ((hrd2 _ rfl).trans hres)
    · exact (congrArg Cal.latched (hcalf.trans hcal2)).trans hlat
    · obtain ⟨hforce, hpend⟩ := almEntry_values s.otp k
      rw [halmf, halm k k.isLt, hforce, hpend]
      exact ⟨rfl, rfl, leAt_almStored _⟩
    · rw [hmemf, hother k fun e he => hk ⟨e, he⟩, hmem]
      rfl

/-! ### The header stage -/

theorem kept_setIds {F : List Fld} {P : List Part} {d e : Dev} (h : Kept F P d e) (vid id addr : Nat) (hF : idRegs ⊆ F) :
    Kept F P d (e.setIds vid id addr) :=
  ((((h.wr vid (hF (by simp [idRegs]))).wr id (hF (by simp [idRegs]))).wr vid (hF (by simp [idRegs]))).wr id (hF (by simp [idRegs]))).wr addr
    (hF (by simp [idRegs]))

theorem idsAre_setIds (d : Dev) {vid id : Nat} (addr : Nat) (hv : vid < 2 ^ 16) (hi : id < 2 ^ 16) :
    IdsAre (d.setIds vid id addr) vid id (addr % 128) := by
  have hv16 : vid % 2 ^ 16 = vid := Nat.mod_eq_of_lt hv
  have hi16 : id % 2 ^ 16 = id := Nat.mod_eq_of_lt hi
  simp [IdsAre, idRegs, Dev.setIds, Dev.wrs, Dev.rd_wr]
  exact ⟨hv16, hi16, hv16, hi16, rfl⟩

theorem idsAre_wr {d : Dev} {vid id addr : Nat} (h : IdsAre d vid id addr) {f : Fld} (v : Nat) (hf : f ∉ idRegs) : IdsAre (d.wr f v) vid id addr := by
  have hmap : idRegs.map (d.wr f v).rd = idRegs.map d.rd := List.map_congr_left fun g hg => by
    rw [Dev.rd_wr, if_neg (fun he : g = f => hf (he ▸ hg))]
  exact hmap.trans h

/-- The chosen header in force (R554, R555). -/
def Dev.headerSet (d : Dev) (n : Nat) (h : List Byte) : Dev :=
  (Dev.setIds { d with boot := { d.boot with
    stage := 2
    slots := [(leAt h 0x10 4, leAt h 0x14 4), (leAt h 0x18 4, leAt h 0x1C 4)]
    autoRun := bitAt (leAt h 0x0D 1) 0
    preferB := bitAt (leAt h 0x0D 1) 1 } } (leAt h 8 2) (leAt h 0x0A 2) (leAt h 0x0E 1)).wr (.sbd .BOOT_STATUS_HDR) n

theorem headerSet_effect (d : Dev) {n : Nat} (hn : n < 2) (h : List Byte) :
    Kept (.sbd .BOOT_STATUS_HDR :: idRegs) [.boot] d (d.headerSet n h) ∧
    (d.headerSet n h).boot = { d.boot with
      stage := 2
      slots := [(leAt h 0x10 4, leAt h 0x14 4), (leAt h 0x18 4, leAt h 0x1C 4)]
      autoRun := bitAt (leAt h 0x0D 1) 0
      preferB := bitAt (leAt h 0x0D 1) 1 } ∧
    (d.headerSet n h).rd (.sbd .BOOT_STATUS_HDR) = n ∧
    IdsAre (d.headerSet n h) (leAt h 8 2) (leAt h 0x0A 2) (leAt h 0x0E 1 % 128) := by
  refine ⟨(kept_setIds ((Kept.refl _).withBoot _ (by simp)) _ _ _ (by simp)).wr _ (by simp), rfl, ?_, ?_⟩
  · rw [Dev.headerSet, Dev.rd_wr, if_pos rfl]
    exact Nat.mod_eq_of_lt hn
  · exact idsAre_wr (idsAre_setIds _ _ (leAt_lt h 8 2) (leAt_lt h 0x0A 2)) _ (by simp [idRegs])

theorem chooseHeader_lt {a b : List Byte} {n : Nat} {h : List Byte} (hc : chooseHeader a b = some (n, h)) : n < 2 := by
  rw [chooseHeader] at hc
  split_ifs at hc
  · cases hc
    decide
  · cases hc
    decide

theorem effect_headerStageEnd {a b : List Byte} (hst : s.dev.boot.stage = 1) :
    (chooseHeader a b = none →
      Effect (.headerStageEnd a b) s (.sbd .BOOT_STATUS_RESULT :: idRegs) [.boot] (fun t =>
        t.boot = { s.dev.boot with stage := 2 } ∧ IdsAre t 0x1F4B 0 0x31 ∧ t.rd (.sbd .BOOT_STATUS_RESULT) = 1)) ∧
    (∀ (n : Nat) (h : List Byte) (slot : Nat × Nat), chooseHeader a b = some (n, h) →
      slot = (if (leAt h 0x0D 1).testBit 1 then (leAt h 0x18 4, leAt h 0x1C 4) else (leAt h 0x10 4, leAt h 0x14 4)) →
      slot.1 + slot.2 ≤ 2 ^ s.dev.rd (.sbd .SFDP_INFO_LOG2_BYTES) →
      Effect (.headerStageEnd a b) s (.sbd .BOOT_STATUS_HDR :: idRegs) [.boot, .cfg] (fun t =>
        t.boot = { s.dev.boot with
          stage := 2
          slots := [(leAt h 0x10 4, leAt h 0x14 4), (leAt h 0x18 4, leAt h 0x1C 4)]
          autoRun := (leAt h 0x0D 1).testBit 0
          preferB := (leAt h 0x0D 1).testBit 1 } ∧
        t.rd (.sbd .BOOT_STATUS_HDR) = n ∧ IdsAre t (leAt h 8 2) (leAt h 0x0A 2) (leAt h 0x0E 1 % 128) ∧
        t.cfg = { s.dev.cfg with load := some { boot := true, slotB := (leAt h 0x0D 1).testBit 1, len := slot.2 } })) := by
  have hs : s.held = false := by simp [State.held, hst]
  refine ⟨fun hc => ?_, fun n h slot hc hslot hfit => ?_⟩
  · have hx : exec (.headerStageEnd a b) s = .next { s with dev :=
        (Dev.setIds { s.dev with boot := { s.dev.boot with stage := 2 } } 0x1F4B 0 0x31).wr (.sbd .BOOT_STATUS_RESULT) 1 } := by
      show execHeaderStageEnd a b s = _
      rw [execHeaderStageEnd, State.run_live s _ hs]
      simp only [hst, ne_eq, not_true_eq_false, if_false, hc]
    have hids := idsAre_setIds { s.dev with boot := { s.dev.boot with stage := 2 } } (vid := 0x1F4B) (id := 0) 0x31 (by decide) (by decide)
    exact .of_next hx ((kept_setIds ((Kept.refl _).withBoot _ (by simp)) _ _ _ (by simp)).wr _ (by simp))
      ⟨rfl, idsAre_wr hids _ (by simp [idRegs]), by simp [Dev.rd_wr]⟩
  · have hx : exec (.headerStageEnd a b) s = .next { s with dev := (s.dev.headerSet n h).bootLoad } := by
      show execHeaderStageEnd a b s = _
      rw [execHeaderStageEnd, State.run_live s _ hs]
      simp only [hst, ne_eq, not_true_eq_false, if_false, hc]
      rfl
    obtain ⟨hk, hboot, hhdr, hids⟩ := headerSet_effect s.dev (chooseHeader_lt hc) h
    have hlog := hk.rd (f := .sbd .SFDP_INFO_LOG2_BYTES) (by simp [idRegs]) rfl
    have hcfg : _ = _ := hk.same (x := .cfg) (by simp)
    generalize s.dev.headerSet n h = e at hx hk hboot hhdr hids hlog hcfg
    have hslots : e.boot.slots.getD (b2n e.boot.preferB) (0, 0) = slot := by
      rw [hboot, hslot]
      dsimp only
      rw [bitAt_eq_testBit]
      cases (leAt h 0x0D 1).testBit 1 <;> rfl
    have hnot : ¬(2 ^ e.rd (.sbd .SFDP_INFO_LOG2_BYTES) < slot.1 + slot.2) := by rw [hlog]; omega
    have hload : e.bootLoad = { e with cfg := { e.cfg with load := some { boot := true, slotB := e.boot.preferB, len := slot.2 } } } := by
      rw [Dev.bootLoad, Dev.bootSlot, hslots]
      simp only [if_neg hnot, if_true]
    rw [hload] at hx
    refine .of_next hx ((hk.mono (by simp) (by simp)).withCfg _ (by simp)) ⟨?_, hhdr, hids, ?_⟩
    · simp only [hboot, bitAt_eq_testBit]
    · simp only [hboot, hcfg, bitAt_eq_testBit]

end

/-- Settles O48. -/
theorem resetsAndBoot : Obligations.ResetsAndBoot := by
  unfold Obligations.ResetsAndBoot
  intro s key value testEn sfdp quad erase addr4 log2 a b
  refine ⟨resets_powerOn, resets_powerOnClass, fun ha => ?_, fun x d hs hw he hsaf hp hd => resets_watchdogExpiry hs hw he hsaf hp hd,
    effect_perstAssert, effect_perstDeassert, effect_resetRelease, effect_headerStageEnd⟩
  obtain ⟨hkey, harm, hsaf, hwarm, hsafety⟩ := rstRequests ha (key := key)
  obtain ⟨hfeed, hbad⟩ := effect_wdtFeed ha (value := value)
  exact ⟨hkey, harm, hsaf, hwarm, hsafety, hfeed, hbad⟩

end Sys2Proof.Machine
end

section
-- The theorems are elaborated in order, which keeps the memory that a check of the whole text takes within its limit.
set_option Elab.async false

/-! SUPPORT.  The SMBus endpoint: requests served, and arbitration (R561 to R565). -/

namespace Sys2Proof.Machine

open Sys2Proof.Safety Sys2Proof.Claims

@[simp] theorem smbArbFail_width : (Fld.sbd .SMB_STATUS_SMB_ARB_FAIL).width = 1 := rfl

/-! ### Responses -/

/-- Packets leave in their order. -/
theorem emits_smbus (qs : List (List Byte)) (d : Dev) :
    Kept [] [.out] d (qs.foldl (fun (d : Dev) q => d.emit (.smbus q)) d) ∧
    (qs.foldl (fun (d : Dev) q => d.emit (.smbus q)) d).out = d.out ++ qs.map .smbus := by
  induction qs generalizing d with
  | nil => exact ⟨.refl d, (List.append_nil _).symm⟩
  | cons q qs ih =>
    obtain ⟨hk, ho⟩ := ih (d.emit (.smbus q))
    refine ⟨((Kept.refl d).emitAside _ rfl (by simp)).trans hk, ?_⟩
    rw [List.foldl_cons, ho]
    simp [Dev.emit]

theorem mctpReply_effect (d : Dev) (p bs : List Byte) :
    Kept [] [.sbd, .out] d (d.mctpReply p bs) ∧
    (d.mctpReply p bs).out = d.out ++ (responseTo d (d.rd (.sbd .SMB_STATUS_EID)) p bs).map .smbus ∧
    (d.mctpReply p bs).sbd = { d.sbd with
      packets := responseTo d (d.rd (.sbd .SMB_STATUS_EID)) p bs
      losses := 0
      retry := false } := by
  obtain ⟨hk, ho⟩ := emits_smbus (responseTo d (d.rd (.sbd .SMB_STATUS_EID)) p bs) { d with sbd := { d.sbd with
    packets := responseTo d (d.rd (.sbd .SMB_STATUS_EID)) p bs
    losses := 0
    retry := false } }
  exact ⟨((Kept.refl d).withSbd _ (by simp)).trans (hk.mono (by simp) (by simp)), ho, hk.same (x := .sbd) (by simp)⟩

theorem responseTo_congr {d e : Dev} (h : e.rd (.sbd .SMB_STATUS_ADDR) = d.rd (.sbd .SMB_STATUS_ADDR)) (eid : Nat) (p bs : List Byte) :
    responseTo e eid p bs = responseTo d eid p bs := by
  simp only [responseTo, h]

/-- A device whose oldest waiting request is taken. -/
def Dev.rxTaken (d : Dev) (ps : List (List Byte)) : Dev := { d with sbd := { d.sbd with rx := ps } }

variable {s : State}

/-- A request served: what `g` gives of it is sent. -/
theorem answers_of {c : Sys2Proof.Instr} {cmd : Nat × Nat} {n eid tid : Nat} {p : List Byte} {ps : List (List Byte)} {regs : List Fld}
    {ok : List Byte → Prop} {g : List Byte → Dev → List Byte × Dev} (hs : s.held = false) (ha : Asks s.dev cmd n p ps)
    (hx : exec c s = s.run (fun d => d.serve cmd n g)) {bs : List Byte} {e : Dev} (hg : g (packetData p) (s.dev.rxTaken ps) = (bs, e))
    (hk : Kept regs [.sbd] s.dev e) (haddr : .sbd .SMB_STATUS_ADDR ∉ regs) (heid : e.rd (.sbd .SMB_STATUS_EID) = eid)
    (hsbd : e.sbd = { s.dev.sbd with
      rx := ps
      tid := tid }) (hok : ok bs) : Answers c s p ps regs eid tid ok := by
  obtain ⟨hrx, hcmd, hon, hlen⟩ := ha
  obtain ⟨hkr, hout, hsr⟩ := mctpReply_effect e p bs
  have hxe : exec c s = .next { s with dev := e.mctpReply p bs } := by
    rw [hx, State.run_live s _ hs, Dev.serve, hrx]
    simp only [hcmd, hon, ne_eq, not_true_eq_false, Bool.not_true, Bool.false_eq_true, or_self, if_false, Nat.not_lt.mpr hlen]
    exact congrArg (fun q : List Byte × Dev => Host.Outcome.next { s with dev := q.2.mctpReply p q.1 }) hg
  have hresp : responseTo e eid p bs = responseTo s.dev eid p bs := responseTo_congr (hk.rd haddr rfl) _ _ _
  rw [heid, hresp] at hout hsr
  refine .of_next hxe ((hk.mono (fun _ h => h) (by simp)).trans (hkr.mono (by simp) (fun _ h => h))) ⟨bs, hok, ?_, ?_, ?_⟩
  · rw [hkr.rd (by simp) rfl, heid]
  · rw [hout, show e.out = s.dev.out from hk.same (x := .out) (by simp)]
  · rw [hsr, hsbd]

theorem kept_rxTaken (d : Dev) (ps : List (List Byte)) : Kept [] [.sbd] d (d.rxTaken ps) := (Kept.refl d).withSbd _ (by simp)

/-- A request whose answer changes neither identity. -/
theorem serves_of {c : Sys2Proof.Instr} {cmd : Nat × Nat} {n : Nat} {ok : List Byte → List Byte → Prop} {g : List Byte → Dev → List Byte × Dev}
    (hs : s.held = false) (hx : exec c s = s.run (fun d => d.serve cmd n g))
    (hg : ∀ x d, (∃ ps, d = s.dev.rxTaken ps) → Kept [] [] d (g x d).2 ∧ ok x (g x d).1) : Serves c s cmd n ok := fun p ps ha => by
  obtain ⟨hk, hok⟩ := hg (packetData p) _ ⟨ps, rfl⟩
  have hkt := (kept_rxTaken s.dev ps).trans (hk.mono (by simp) (by simp))
  exact answers_of hs ha hx rfl hkt (by simp) (hkt.rd (by simp) rfl) (hk.same (x := .sbd) (by simp)) hok

/-! ### Packets received, and the identities -/

section
variable (hs : s.held = false)
include hs

theorem effect_smbusPacketRx {p : List Byte} (hon : s.dev.smbusOn = true) (hto : leAt p 0 1 = s.dev.rd (.sbd .SMB_STATUS_ADDR) * 2) :
    (packetOk p = false →
      Effect (.smbusPacketRx p) s [.sbd .SMB_CNT_RX_BAD] [] (fun t => Counts s.dev t (.sbd .SMB_CNT_RX_BAD))) ∧
    (∀ c, packetOk p = true → leAt p 5 1 = s.dev.rd (.sbd .SMB_STATUS_EID) → packetCmd p = some c → servedCmd c = true →
      Effect (.smbusPacketRx p) s [] [.sbd] (fun t => t.sbd = { s.dev.sbd with rx := s.dev.sbd.rx ++ [p] })) := by
  refine ⟨fun hp => ?_, fun c hp he hc hv => ?_⟩
  · have hx : exec (.smbusPacketRx p) s = .next { s with dev := s.dev.inc (.sbd .SMB_CNT_RX_BAD) } := by
      show execSmbusPacketRx p s = _
      rw [execSmbusPacketRx, State.run_live s _ hs]
      simp [hon, hto, hp]
    exact .of_next hx ((Kept.refl _).inc (by simp)) (by simp [Counts, Dev.rd_inc])
  · have hx : exec (.smbusPacketRx p) s = .next { s with dev := { s.dev with sbd := { s.dev.sbd with rx := s.dev.sbd.rx ++ [p] } } } := by
      show execSmbusPacketRx p s = _
      rw [execSmbusPacketRx, State.run_live s _ hs]
      simp [hon, hto, hp, he, hc, hv]
    exact .of_next hx ((Kept.refl _).withSbd _ (by simp)) rfl

theorem effect_mctpSetEndpointId {p : List Byte} {ps : List (List Byte)} {e : Nat} (ha : Asks s.dev (0, 1) 2 p ps)
    (he : e = leAt (packetData p) 1 1) :
    (leAt (packetData p) 0 1 % 4 < 2 → 8 ≤ e → e ≠ 0xFF →
      Answers .mctpSetEndpointId s p ps [.sbd .SMB_STATUS_EID] e s.dev.sbd.tid (fun bs => bs = [0, 0, BitVec.ofNat 8 e, 0])) ∧
    (1 < leAt (packetData p) 0 1 % 4 ∨ e < 8 ∨ e = 0xFF →
      Answers .mctpSetEndpointId s p ps [] (s.dev.rd (.sbd .SMB_STATUS_EID)) s.dev.sbd.tid (fun bs => bs = [2])) := by
  have hlt : e < 256 := he ▸ leAt_lt _ 1 1
  have hkt := kept_rxTaken s.dev ps
  refine ⟨fun hop hmin hmax => ?_, fun hbad => ?_⟩
  · have hn : ¬(1 < leAt (packetData p) 0 1 % 4 ∨ e < 8 ∨ e = 0xFF) := by omega
    subst he
    exact answers_of hs ha rfl (if_neg hn) ((hkt.mono (by simp) (by simp)).wr _ (by simp)) (by simp)
      (by simpa [Dev.rd_wr] using hlt) rfl rfl
  · subst he
    exact answers_of hs ha rfl (if_pos hbad) hkt (by simp) (hkt.rd (by simp) rfl) rfl rfl

theorem effect_pldmSettid {p : List Byte} {ps : List (List Byte)} {x : Nat} (ha : Asks s.dev (1, 1) 1 p ps) (hx : x = leAt (packetData p) 0 1) :
    (x ≠ 0 → x ≠ 0xFF →
      Answers .pldmSettid s p ps [] (s.dev.rd (.sbd .SMB_STATUS_EID)) x (fun bs => bs = [0])) ∧
    (x = 0 ∨ x = 0xFF →
      Answers .pldmSettid s p ps [] (s.dev.rd (.sbd .SMB_STATUS_EID)) s.dev.sbd.tid (fun bs => bs = [2])) := by
  have hkt := kept_rxTaken s.dev ps
  subst hx
  refine ⟨fun h0 h1 => ?_, fun hbad => ?_⟩
  · have hk2 := hkt.withSbd { (s.dev.rxTaken ps).sbd with tid := leAt (packetData p) 0 1 } (by simp)
    exact answers_of hs ha rfl (if_neg (not_or.mpr ⟨h0, h1⟩)) hk2 (by simp) (hk2.rd (by simp) rfl) rfl rfl
  · exact answers_of hs ha rfl (if_pos hbad) hkt (by simp) (hkt.rd (by simp) rfl) rfl rfl

/-! ### MCTP control and PLDM -/

omit hs in
@[simp] theorem length_freshBytes (d : Dev) (k : Nat) : (d.freshBytes k).1.length = k := by
  induction k generalizing d with
  | zero => rfl
  | succ k ih => exact congrArg (· + 1) (ih _)

theorem serves_mctpGetEndpointId : Serves .mctpGetEndpointId s (0, 2) 0 (fun _ bs => bs = [0, BitVec.ofNat 8 (s.dev.rd (.sbd .SMB_STATUS_EID)), 0, 0]) :=
  serves_of hs rfl fun _ d hd => ⟨.refl d, by obtain ⟨ps, rfl⟩ := hd; rfl⟩

theorem serves_mctpGetVersionSupport : Serves .mctpGetVersionSupport s (0, 4) 1 (fun x bs =>
    if leAt x 0 1 = 0 ∨ leAt x 0 1 = 1 ∨ leAt x 0 1 = 0xFF then bs.length = 6 ∧ bs.take 2 = [0, 1] else bs = [0x80]) :=
  serves_of (g := fun x d => if !([0, 1, 0xFF].contains (leAt x 0 1)) then ([0x80], d) else ([0, 1] ++ (d.freshBytes 4).1, (d.freshBytes 4).2))
    hs rfl fun x d _ => by
    by_cases h : leAt x 0 1 = 0 ∨ leAt x 0 1 = 1 ∨ leAt x 0 1 = 0xFF
    · have hc : [0, 1, 0xFF].contains (leAt x 0 1) = true := by simpa using h
      simp only [hc, Bool.not_true, Bool.false_eq_true, if_false, if_pos h]
      exact ⟨kept_freshBytes (.refl d) 4, by simp, rfl⟩
    · have hc : [0, 1, 0xFF].contains (leAt x 0 1) = false := by simpa using h
      simp only [hc, Bool.not_false, if_true, if_neg h]
      exact ⟨.refl d, trivial⟩

theorem serves_mctpGetMessageTypeSupport : Serves .mctpGetMessageTypeSupport s (0, 5) 0 (fun _ bs => bs = [0, 1, 1]) :=
  serves_of hs rfl fun _ d _ => ⟨.refl d, rfl⟩

theorem serves_pldmGettid : Serves .pldmGettid s (1, 2) 0 (fun _ bs => bs = [0, BitVec.ofNat 8 s.dev.sbd.tid]) :=
  serves_of hs rfl fun _ d hd => ⟨.refl d, by obtain ⟨ps, rfl⟩ := hd; rfl⟩

theorem serves_pldmGetpldmversion : Serves .pldmGetpldmversion s (1, 3) 6 (fun x bs =>
    if leAt x 5 1 = 0 ∨ leAt x 5 1 = 2 then ∃ v, v.length = 4 ∧ bs = [0, 0, 0, 0, 0, 5] ++ v ++ leBytes 4 (crc32 v) else bs = [0x83]) :=
  serves_of (g := fun x d => if !([0, 2].contains (leAt x 5 1)) then ([0x83], d) else
    ([0, 0, 0, 0, 0, 5] ++ (d.freshBytes 4).1 ++ leBytes 4 (crc32 (d.freshBytes 4).1), (d.freshBytes 4).2)) hs rfl fun x d _ => by
    by_cases h : leAt x 5 1 = 0 ∨ leAt x 5 1 = 2
    · have hc : [0, 2].contains (leAt x 5 1) = true := by simpa using h
      simp only [hc, Bool.not_true, Bool.false_eq_true, if_false, if_pos h]
      exact ⟨kept_freshBytes (.refl d) 4, _, length_freshBytes d 4, rfl⟩
    · have hc : [0, 2].contains (leAt x 5 1) = false := by simpa using h
      simp only [hc, Bool.not_false, if_true, if_neg h]
      exact ⟨.refl d, trivial⟩

theorem serves_pldmGetpldmtypes : Serves .pldmGetpldmtypes s (1, 4) 0 (fun _ bs => bs = [0, 5, 0, 0, 0, 0, 0, 0, 0]) :=
  serves_of hs rfl fun _ d _ => ⟨.refl d, rfl⟩

omit hs in
theorem baseCommands : ((List.range 256).filter (fun c => servedCmd (1 + 0, c))).foldl (fun n c => n + 2 ^ c) 0 = 0x3E := by
  rfl

omit hs in
theorem platformCommands : ((List.range 256).filter (fun c => servedCmd (1 + 2, c))).foldl (fun n c => n + 2 ^ c) 0 =
    2 ^ 0x11 + 2 ^ 0x21 + 2 ^ 0x50 + 2 ^ 0x51 := by
  rfl

theorem serves_pldmGetpldmcommands : Serves .pldmGetpldmcommands s (1, 5) 5 (fun x bs =>
    if leAt x 0 1 = 0 then bs = 0 :: leBytes 32 0x3E
    else if leAt x 0 1 = 2 then bs = 0 :: leBytes 32 (2 ^ 0x11 + 2 ^ 0x21 + 2 ^ 0x50 + 2 ^ 0x51) else bs = [0x83]) :=
  serves_of hs rfl fun x d _ => by
    by_cases h0 : leAt x 0 1 = 0
    · simp only [h0, ne_eq, not_true_eq_false, false_and, if_false, if_true, baseCommands]
      exact ⟨.refl d, trivial⟩
    · by_cases h2 : leAt x 0 1 = 2
      · simp only [h2, ne_eq, not_true_eq_false, and_false, if_false, if_true, platformCommands, OfNat.ofNat_ne_zero]
        exact ⟨.refl d, trivial⟩
      · simp only [h0, h2, ne_eq, not_false_eq_true, and_self, if_true, if_false]
        exact ⟨.refl d, trivial⟩

theorem serves_pldmGetsensorreading : Serves .pldmGetsensorreading s (3, 0x11) 3 (fun x bs =>
    if leAt x 0 2 = 1 ∨ leAt x 0 2 = 2 then bs.length = 9 ∧ bs.take 2 = [0, 3]
    else if leAt x 0 2 = 3 then bs = [0, 0, 0, 0, 1, 1, 1, BitVec.ofNat 8 (s.dev.rd (.pwr .SUP_STATUS_VOLT))] else bs = [0x80]) :=
  serves_of (g := fun x d => if leAt x 0 2 = 1 ∨ leAt x 0 2 = 2 then ([0, 3, 0, 0, 1, 1, 1] ++ (d.freshBytes 2).1, (d.freshBytes 2).2)
    else if leAt x 0 2 = 3 then ([0, 0, 0, 0, 1, 1, 1, BitVec.ofNat 8 (d.rd (.pwr .SUP_STATUS_VOLT))], d) else ([0x80], d)) hs rfl fun x d hd => by
    by_cases h : leAt x 0 2 = 1 ∨ leAt x 0 2 = 2
    · simp only [if_pos h]
      exact ⟨kept_freshBytes (.refl d) 2, by simp, rfl⟩
    · by_cases h3 : leAt x 0 2 = 3
      · obtain ⟨ps, rfl⟩ := hd
        simp only [if_neg h, if_pos h3]
        exact ⟨.refl _, rfl⟩
      · simp only [if_neg h, if_neg h3]
        exact ⟨.refl d, trivial⟩

theorem serves_pldmGetpdrrepositoryinfo : Serves .pldmGetpdrrepositoryinfo s (3, 0x50) 0 (fun _ bs =>
    bs.length = 41 ∧ bs.take 2 = [0, 0] ∧ leAt bs 28 4 = 5) :=
  serves_of (g := fun _ d => ([0, 0] ++ (d.freshBytes 26).1 ++ leBytes 4 5 ++ ((d.freshBytes 26).2.freshBytes 8).1 ++ [0],
    ((d.freshBytes 26).2.freshBytes 8).2)) hs rfl fun x d _ => by
    refine ⟨kept_freshBytes (kept_freshBytes (.refl d) 26) 8, by simp, rfl, ?_⟩
    have h26 := length_freshBytes d 26
    dsimp only
    rw [leAt_append_left _ _ _ _ (by simp), leAt_append_left _ _ _ _ (by simp),
      leAt_append_right _ _ _ _ (by simp)]
    simp [h26, leAt_leBytes]

/-- The three states that a state sensor's response gives (R562). -/
def stateReply (v : Nat) : List Byte := [0, 1, 0, BitVec.ofNat 8 v, BitVec.ofNat 8 v, BitVec.ofNat 8 v]

theorem serves_pldmGetstatesensorreadings : Serves .pldmGetstatesensorreadings s (3, 0x21) 4 (fun x bs =>
    if leAt x 0 2 = 4 then bs.take 4 = [0, 1, 0, BitVec.ofNat 8 (safStatus s.otp s.dev + 1)]
    else if leAt x 0 2 = 5 then bs.take 4 = [0, 1, 0, BitVec.ofNat 8 (s.dev.pwrState + 1)] else bs = [0x80]) :=
  serves_of (g := fun x d => if leAt x 0 2 = 4 then (stateReply (safStatus s.otp d + 1), d)
    else if leAt x 0 2 = 5 then (stateReply (d.pwrState + 1), d) else ([0x80], d)) hs rfl fun x d hd => by
    obtain ⟨ps, rfl⟩ := hd
    by_cases h4 : leAt x 0 2 = 4
    · simp only [if_pos h4]
      exact ⟨.refl _, rfl⟩
    · by_cases h5 : leAt x 0 2 = 5
      · simp only [if_neg h4, if_pos h5]
        exact ⟨.refl _, rfl⟩
      · simp only [if_neg h4, if_neg h5]
        exact ⟨.refl _, trivial⟩

/-- The response that carries the record of handle `h`, its body `body` (R562). -/
def pdrReply (h : Nat) (body : List Byte) : List Byte :=
  [0] ++ leBytes 4 (if h = 5 then 0 else h + 1) ++ leBytes 4 0 ++ [5] ++
    leBytes 2 (leBytes 4 h ++ [1, if h ≤ 3 then 2 else 4] ++ leBytes 2 0 ++ leBytes 2 body.length ++ body).length ++
    (leBytes 4 h ++ [1, if h ≤ 3 then 2 else 4] ++ leBytes 2 0 ++ leBytes 2 body.length ++ body)

omit hs in
theorem pdrReply_fields {h : Nat} (body : List Byte) (hh : h ≤ 5) :
    (pdrReply h body).take 1 = [0] ∧ leAt (pdrReply h body) 1 4 = (if h = 5 then 0 else h + 1) ∧ leAt (pdrReply h body) 12 4 = h := by
  have hnext : (if h = 5 then 0 else h + 1) < 256 ^ 4 := by split <;> omega
  refine ⟨rfl, ?_, ?_⟩
  · rw [pdrReply, leAt_append_left _ _ _ _ (by simp), leAt_append_left _ _ _ _ (by simp), leAt_append_left _ _ _ _ (by simp),
      leAt_append_left _ _ _ _ (by simp), leAt_append_right _ _ _ _ (by simp)]
    exact (leAt_leBytes 4 _).trans (Nat.mod_eq_of_lt hnext)
  · rw [pdrReply, leAt_append_right _ _ _ _ (by simp)]
    simp only [List.length_append, length_leBytes, List.length_singleton, Nat.reduceAdd, Nat.sub_self]
    rw [leAt_append_left _ _ _ _ (by simp), leAt_append_left _ _ _ _ (by simp), leAt_append_left _ _ _ _ (by simp),
      leAt_append_left _ _ _ _ (by simp)]
    exact (leAt_leBytes 4 _).trans (Nat.mod_eq_of_lt (by omega))

/-- The free values of a record: its length, its time and the rest (R562). -/
def Dev.pdrFree (d : Dev) : (List Byte × List Byte) × Dev :=
  let (k, d) := d.fresh
  let (t, d) := d.freshBytes 2
  let (r, d) := d.freshBytes (k % 200)
  ((t, r), d)

theorem serves_pldmGetpdr : Serves .pldmGetpdr s (3, 0x51) 13 (fun x bs => ∀ h, h = (if leAt x 0 4 = 0 then 1 else leAt x 0 4) →
    if h ≤ 5 then bs.take 1 = [0] ∧ leAt bs 1 4 = (if h = 5 then 0 else h + 1) ∧ leAt bs 12 4 = h else bs = [0x82]) :=
  serves_of (g := fun x d => if 5 < (if leAt x 0 4 = 0 then 1 else leAt x 0 4) then ([0x82], d) else
    (pdrReply (if leAt x 0 4 = 0 then 1 else leAt x 0 4)
      (d.pdrFree.1.1 ++ leBytes 2 (if leAt x 0 4 = 0 then 1 else leAt x 0 4) ++ d.pdrFree.1.2), d.pdrFree.2)) hs rfl fun x d _ => by
    generalize (if leAt x 0 4 = 0 then 1 else leAt x 0 4) = h
    by_cases h5 : 5 < h
    · simp only [if_pos h5]
      exact ⟨.refl d, fun k hk => by simp [show ¬k ≤ 5 by omega]⟩
    · simp only [if_neg h5]
      refine ⟨kept_freshBytes (kept_freshBytes (kept_freeCount (.refl d) _) 2) _, fun k hk => ?_⟩
      rw [if_pos (by omega), hk]
      exact pdrReply_fields _ (by omega)

/-! ### Arbitration -/

/-- A device with another state of the sideband block. -/
def Dev.sbdSet (d : Dev) (v : Sbd) : Dev := { d with sbd := v }

omit hs in
@[simp] theorem Dev.rd_sbdSet (d : Dev) (v : Sbd) (f : Fld) : (d.sbdSet v).rd f = d.rd f := rfl

omit hs in
theorem kept_sbdSet (d : Dev) (v : Sbd) : Kept [] [.sbd] d (d.sbdSet v) := (Kept.refl d).withSbd v (by simp)

/-- Packet `n` and those behind it wait for a retry (R563). -/
def Sbd.lostFrom (x : Sbd) (n : Fin 4) : Sbd := { x with
  packets := x.packets.drop n
  losses := (if n = 0 then x.losses else 0) + 1
  retry := true }

/-- The response given up (R564). -/
def Sbd.givenUp (x : Sbd) : Sbd := { x with
  packets := []
  losses := 0
  retry := false }

/-- The next backoff drawn and the retry taken (R564). -/
def Sbd.redrawn (x : Sbd) (l : Nat) : Sbd := { x with
  lfsr := l
  retry := false }

/-- The packets sent again after `n` ns (R564). -/
def Dev.resent (d : Dev) (n : Nat) : Dev := (d.elapse n).sbd.packets.foldl (fun (d : Dev) q => d.emit (.smbus q)) (d.elapse n)

omit hs in
theorem resent_effect (d : Dev) (n : Nat) :
    Kept [] (.out :: timeParts) d (d.resent n) ∧ (d.resent n).now = d.now + n ∧ (d.resent n).out = d.out ++ d.sbd.packets.map .smbus := by
  obtain ⟨hk, ho⟩ := emits_smbus d.sbd.packets (d.elapse n)
  obtain ⟨hnow, -⟩ : Part.Same _ _ .time := hk.same (by simp)
  rw [Dev.resent, Dev.elapse_sbd]
  refine ⟨(kept_elapse _ _ _ _ (fun _ h => by simp [h])).trans (hk.mono (by simp) (by simp)), ?_, ?_⟩
  · rw [← Dev.elapse_now d n]
    exact hnow
  · rw [ho, Dev.elapse_out]

theorem effect_smbusArbLost {n : Fin 4} (h : s.dev.sbd.packets.drop n ≠ []) :
    Effect (.smbusArbLost n) s [.sbd .SMB_CNT_ARB_LOST] [.sbd] (fun t => Counts s.dev t (.sbd .SMB_CNT_ARB_LOST) ∧
      t.sbd = { s.dev.sbd with
        packets := s.dev.sbd.packets.drop n
        losses := (if n = 0 then s.dev.sbd.losses else 0) + 1
        retry := true }) := by
  have hn : (n.val = 0) = (n = 0) := propext ⟨fun h => Fin.ext h, fun h => congrArg Fin.val h⟩
  have hx : exec (.smbusArbLost n) s = .next { s with dev := (s.dev.sbdSet (s.dev.sbd.lostFrom n)).inc (.sbd .SMB_CNT_ARB_LOST) } := by
    show execSmbusArbLost n s = _
    rw [execSmbusArbLost, State.run_live s _ hs]
    cases hp : s.dev.sbd.packets.drop n with
    | nil => exact absurd hp h
    | cons p ps => simp only [hp, hn, Dev.sbdSet, Sbd.lostFrom]
  exact .of_next hx ((kept_sbdSet _ _).mono (by simp) (by simp) |>.inc (by simp)) ⟨by simp [Counts, Dev.rd_inc], rfl⟩

theorem effect_smbusClockLowTimeout : Effect .smbusClockLowTimeout s [.sbd .SMB_CNT_TIMEOUT] [.sbd] (fun t =>
    Counts s.dev t (.sbd .SMB_CNT_TIMEOUT) ∧
    (s.dev.sbd.packets = [] → t.sbd = s.dev.sbd) ∧
    (s.dev.sbd.packets ≠ [] → t.sbd = { s.dev.sbd with
      losses := s.dev.sbd.losses + 1
      retry := true })) := by
  have hk : Kept [.sbd .SMB_CNT_TIMEOUT] [.sbd] s.dev (s.dev.inc (.sbd .SMB_CNT_TIMEOUT)) := (Kept.refl _).inc (by simp)
  have hcnt : Counts s.dev (s.dev.inc (.sbd .SMB_CNT_TIMEOUT)) (.sbd .SMB_CNT_TIMEOUT) := by simp [Counts, Dev.rd_inc]
  by_cases hp : s.dev.sbd.packets = []
  · have hx : exec .smbusClockLowTimeout s = .next { s with dev := s.dev.inc (.sbd .SMB_CNT_TIMEOUT) } := by
      show execSmbusClockLowTimeout s = _
      rw [execSmbusClockLowTimeout, State.run_live s _ hs]
      simp [hp]
    exact .of_next hx hk ⟨hcnt, fun _ => rfl, fun h => absurd hp h⟩
  · have hx : exec .smbusClockLowTimeout s = .next { s with dev := { s.dev.inc (.sbd .SMB_CNT_TIMEOUT) with sbd := { s.dev.sbd with
        losses := s.dev.sbd.losses + 1
        retry := true } } } := by
      show execSmbusClockLowTimeout s = _
      rw [execSmbusClockLowTimeout, State.run_live s _ hs]
      simp [hp]
    exact .of_next hx (hk.withSbd _ (by simp)) ⟨hcnt, fun h => absurd h hp, fun _ => rfl⟩

theorem effect_smbusRetry (hr : s.dev.sbd.retry = true) (hp : s.dev.sbd.packets ≠ []) :
    (8 ≤ s.dev.sbd.losses →
      Effect .smbusRetry s [.sbd .SMB_STATUS_SMB_ARB_FAIL, .sbd .SMB_CNT_ARB_FAIL] [.sbd, .irqs] (fun t =>
        t.rd (.sbd .SMB_STATUS_SMB_ARB_FAIL) = 1 ∧ Counts s.dev t (.sbd .SMB_CNT_ARB_FAIL) ∧ t.sbd.packets = [] ∧ t.sbd.retry = false)) ∧
    (∀ l, s.dev.sbd.losses < 8 → l = lfsr16 s.dev.sbd.lfsr →
      Effect .smbusRetry s [] (.sbd :: .out :: timeParts) (fun t =>
        t.now = s.dev.now + (if s.dev.rd (.sbd .SMB_CFG_FAST) ≠ 0 then 1300 else 4700) + l % 8 * 10000 ∧
        t.out = s.dev.out ++ s.dev.sbd.packets.map .smbus ∧
        t.sbd = { s.dev.sbd with
          lfsr := l
          retry := false })) := by
  have hne : s.dev.sbd.packets.isEmpty = false := by simpa using hp
  refine ⟨fun h8 => ?_, fun l h8 hl => ?_⟩
  · have hx : exec .smbusRetry s = .next { s with dev :=
        ((s.dev.sbdSet s.dev.sbd.givenUp).event (.sbd .SMB_STATUS_SMB_ARB_FAIL) (.sbd .CTRL_IRQ_EN) 17).inc (.sbd .SMB_CNT_ARB_FAIL) } := by
      show execSmbusRetry s = _
      rw [execSmbusRetry, State.run_live s _ hs]
      simp only [hr, hne, Bool.not_true, Bool.false_eq_true, or_self, if_false, if_pos h8]
      rfl
    have hk : Kept [.sbd .SMB_STATUS_SMB_ARB_FAIL, .sbd .SMB_CNT_ARB_FAIL] [.irqs] (s.dev.sbdSet s.dev.sbd.givenUp)
        (((s.dev.sbdSet s.dev.sbd.givenUp).event (.sbd .SMB_STATUS_SMB_ARB_FAIL) (.sbd .CTRL_IRQ_EN) 17).inc (.sbd .SMB_CNT_ARB_FAIL)) :=
      ((Kept.refl _).event _ _ (by simp) (by simp)).inc (by simp)
    have hsbd : _ = _ := hk.same (x := .sbd) (by simp)
    refine .of_next hx (((kept_sbdSet _ _).mono (by simp) (by simp)).trans (hk.mono (fun _ h => h) (by simp))) ⟨?_, ?_, ?_, ?_⟩
    · simp [Dev.rd_inc]
    · simp [Counts, Dev.rd_inc]
    · rw [hsbd]; rfl
    · rw [hsbd]; rfl
  · have hx : exec .smbusRetry s = .next { s with
        dev := (s.dev.sbdSet (s.dev.sbd.redrawn l)).resent
          ((if s.dev.rd (.sbd .SMB_CFG_FAST) ≠ 0 then 1300 else 4700) + l % 8 * 10000) } := by
      have hfast : (s.dev.is (.sbd .SMB_CFG_FAST) = true) = (s.dev.rd (.sbd .SMB_CFG_FAST) ≠ 0) := by simp [Dev.is]
      have hdev : (s.dev.sbdSet (s.dev.sbd.redrawn l)).is (.sbd .SMB_CFG_FAST) = s.dev.is (.sbd .SMB_CFG_FAST) := rfl
      show execSmbusRetry s = _
      rw [execSmbusRetry, State.run_live s _ hs]
      simp only [hr, hne, Bool.not_true, Bool.false_eq_true, or_self, if_false, if_neg (Nat.not_le.mpr h8), ← hl, ← hfast]
      rfl
    obtain ⟨hk, hnow, hout⟩ := resent_effect (s.dev.sbdSet (s.dev.sbd.redrawn l))
      ((if s.dev.rd (.sbd .SMB_CFG_FAST) ≠ 0 then 1300 else 4700) + l % 8 * 10000)
    refine .of_next hx (((kept_sbdSet _ _).mono (by simp) (by simp)).trans (hk.mono (fun _ h => h) (fun _ h => by simp at h ⊢; tauto)))
      ⟨hnow.trans (Nat.add_assoc _ _ _).symm, hout, hk.same (x := .sbd) (by simp [timeParts])⟩

end

/-- Settles O50. -/
theorem smbusEndpoint : Obligations.SmbusEndpoint := by
  unfold Obligations.SmbusEndpoint
  intro s n hs
  exact ⟨fun p hon hto => effect_smbusPacketRx hs hon hto, fun p ps e ha he => effect_mctpSetEndpointId hs ha he,
    serves_mctpGetEndpointId hs, serves_mctpGetVersionSupport hs, serves_mctpGetMessageTypeSupport hs, serves_pldmGettid hs,
    fun p ps x ha hx => effect_pldmSettid hs ha hx, serves_pldmGetpldmversion hs, serves_pldmGetpldmtypes hs, serves_pldmGetpldmcommands hs,
    serves_pldmGetsensorreading hs, serves_pldmGetstatesensorreadings hs, serves_pldmGetpdrrepositoryinfo hs, serves_pldmGetpdr hs,
    effect_smbusArbLost hs, fun hr hp => effect_smbusRetry hs hr hp, effect_smbusClockLowTimeout hs⟩

end Sys2Proof.Machine
end

section
-- The theorems are elaborated in order, which keeps the memory that a check of the whole text takes within its limit.
set_option Elab.async false

/-! SUPPORT.  The calibration unit and the Almanac: results accepted, steps ended, ages and verification (R452 to R460). -/

namespace Sys2Proof.Machine

open Sys2Proof.Safety Sys2Proof.Claims

@[simp] theorem calEvtEyeLow_width : (Fld.cal .EVT_EYE_LOW).width = 1 := rfl
@[simp] theorem calEvtReject_width : (Fld.cal .EVT_REJECT).width = 1 := rfl
@[simp] theorem calEvtOverdue_width : (Fld.cal .EVT_OVERDUE).width = 1 := rfl
@[simp] theorem calEvtOverdue2_width : (Fld.cal .EVT_OVERDUE2).width = 1 := rfl
@[simp] theorem calLogValid_width : (Fld.cal .LOG_VALID).width = 1 := rfl
@[simp] theorem calLogEntry_width : (Fld.cal .LOG_ENTRY).width = 5 := rfl
@[simp] theorem calLogCause_width : (Fld.cal .LOG_CAUSE).width = 3 := rfl
@[simp] theorem overdue_width : (Fld.cal .AGE_STATUS_OVERDUE).width = 14 := rfl
@[simp] theorem overdue2_width : (Fld.cal .AGE_STATUS_OVERDUE2).width = 14 := rfl
@[simp] theorem countTick_width : (Fld.tck .COUNT_TICK).width = 48 := rfl

/-! ### Bytes patched into a list -/

section
variable {bs v : List Byte} {o : Nat} (h : o + v.length ≤ bs.length)
include h

theorem length_patchB : (patchB bs o v).length = bs.length := by
  simp [patchB]
  omega

theorem getD_patchB (i : Nat) : (patchB bs o v).getD i 0 = if o ≤ i ∧ i < o + v.length then v.getD (i - o) 0 else bs.getD i 0 := by
  have hv : v.take (bs.length - o) = v := List.take_of_length_le (by omega)
  have ho : (bs.take o).length = o := by simp; omega
  rw [patchB, hv, List.append_assoc]
  by_cases h1 : i < o
  · rw [List.getD_append _ _ _ _ (by omega), if_neg (by omega)]
    simp [List.getD_eq_getElem?_getD, h1]
  · rw [List.getD_append_right _ _ _ _ (by omega), ho]
    by_cases h2 : i < o + v.length
    · rw [List.getD_append _ _ _ _ (by omega), if_pos ⟨by omega, h2⟩]
    · rw [List.getD_append_right _ _ _ _ (by omega), if_neg (by omega)]
      simp [List.getD_eq_getElem?_getD, List.getElem?_drop, show o + v.length + (i - o - v.length) = i by omega]

theorem sliceB_patchB_same : sliceB (patchB bs o v) o v.length = v := by
  refine List.ext_getElem (by simp) fun i hi hb => ?_
  have hg := getD_patchB h (o + i)
  rw [if_pos (by omega), Nat.add_sub_cancel_left, List.getD_eq_getElem _ _ hb] at hg
  rw [← hg]
  simp [sliceB]

theorem sliceB_patchB_other {p k : Nat} (hd : p + k ≤ o ∨ o + v.length ≤ p) : sliceB (patchB bs o v) p k = sliceB bs p k :=
  List.map_congr_left fun i hi => by
    have := List.mem_range.mp hi
    rw [getD_patchB h, if_neg (by omega)]

end

/-! ### A result accepted -/

/-- The bytes of an entry that holds an accepted result (R453). -/
def almAccepted (old : List Byte) (e : Nat) (value : List Byte) (origin tick : Nat) : List Byte :=
  patchB (patchB (patchB (patchB (patchB old 40 (sliceB value 0 16)) 8 (leBytes 8 tick)) 4 (leBytes 4 (leAt old 4 4 + 1))) 0
    [BitVec.ofNat 8 e]) 1 [almFlags (almForce old ≠ sliceB value 0 16) origin]

theorem Dev.almAccept_eq (d : Dev) (e : Nat) (value : List Byte) (origin tick : Nat) :
    d.almAccept e value origin tick = d.writeLine (almLine e) (almStored (almAccepted (d.alm e) e value origin tick)) false := rfl

theorem almAccepted_fields {old : List Byte} (hl : old.length = 64) (e : Nat) (value : List Byte) (origin tick : Nat) :
    sliceB (almAccepted old e value origin tick) 40 16 = sliceB value 0 16 ∧
    sliceB (almAccepted old e value origin tick) 8 8 = leBytes 8 tick ∧
    sliceB (almAccepted old e value origin tick) 4 4 = leBytes 4 (leAt old 4 4 + 1) ∧
    sliceB (almAccepted old e value origin tick) 24 16 = sliceB old 24 16 ∧
    (almAccepted old e value origin tick).getD 1 0 = almFlags (almForce old ≠ sliceB value 0 16) origin ∧
    (∀ i, i % 16 = 3 → i ≠ 51 → (almAccepted old e value origin tick).getD i 0 = old.getD i 0) ∧
    (almAccepted old e value origin tick).getD 51 0 = value.getD 11 0 := by
  have h1 : 40 + (sliceB value 0 16).length ≤ old.length := by simp [hl]
  have l1 := length_patchB h1
  have h2 : 8 + (leBytes 8 tick).length ≤ (patchB old 40 (sliceB value 0 16)).length := by simp [l1, hl]
  have l2 := length_patchB h2
  have h3 : 4 + (leBytes 4 (leAt old 4 4 + 1)).length ≤ (patchB (patchB old 40 (sliceB value 0 16)) 8 (leBytes 8 tick)).length := by
    simp [l2, l1, hl]
  have l3 := length_patchB h3
  have h4 : 0 + [BitVec.ofNat 8 e].length ≤
      (patchB (patchB (patchB old 40 (sliceB value 0 16)) 8 (leBytes 8 tick)) 4 (leBytes 4 (leAt old 4 4 + 1))).length := by simp [l3, l2, l1, hl]
  have l4 := length_patchB h4
  have h5 : 1 + [almFlags (almForce old ≠ sliceB value 0 16) origin].length ≤ (patchB (patchB (patchB (patchB old 40 (sliceB value 0 16)) 8
      (leBytes 8 tick)) 4 (leBytes 4 (leAt old 4 4 + 1))) 0 [BitVec.ofNat 8 e]).length := by simp [l4, l3, l2, l1, hl]
  have s1 := sliceB_patchB_same h1
  have s2 := sliceB_patchB_same h2
  have s3 := sliceB_patchB_same h3
  rw [length_sliceB] at s1
  rw [length_leBytes] at s2 s3
  refine ⟨?_, ?_, ?_, ?_, ?_, fun i hi h51 => ?_, ?_⟩
  · rw [almAccepted, sliceB_patchB_other h5 (by simp), sliceB_patchB_other h4 (by simp), sliceB_patchB_other h3 (by simp),
      sliceB_patchB_other h2 (by simp), s1]
  · rw [almAccepted, sliceB_patchB_other h5 (by simp), sliceB_patchB_other h4 (by simp), sliceB_patchB_other h3 (by simp), s2]
  · rw [almAccepted, sliceB_patchB_other h5 (by simp), sliceB_patchB_other h4 (by simp), s3]
  · rw [almAccepted, sliceB_patchB_other h5 (by simp), sliceB_patchB_other h4 (by simp), sliceB_patchB_other h3 (by simp),
      sliceB_patchB_other h2 (by simp), sliceB_patchB_other h1 (by simp)]
  · rw [almAccepted, getD_patchB h5, if_pos (by simp)]
    rfl
  · rw [almAccepted, getD_patchB h5, getD_patchB h4, getD_patchB h3, getD_patchB h2, getD_patchB h1]
    simp only [length_sliceB, length_leBytes, List.length_singleton]
    rw [if_neg (by omega), if_neg (by omega), if_neg (by omega), if_neg (by omega), if_neg (by omega)]
  · rw [almAccepted, getD_patchB h5, getD_patchB h4, getD_patchB h3, getD_patchB h2, getD_patchB h1]
    simp [sliceB]

theorem Dev.length_alm (d : Dev) (e : Nat) : (d.alm e).length = 64 := by simp [Dev.alm, Dev.rawLine]

theorem getD_almStored (bs : List Byte) {i : Nat} (h : i < 60) : (almStored bs).getD i 0 = bs.getD i 0 := by
  rw [almStored, List.getD_append _ _ _ _ (by simpa using h)]
  simp [sliceB, h]

theorem Dev.mark_writeLine_clean (d : Dev) (l : Nat) (bs : List Byte) : (d.writeLine l bs false).mark l = .clean :=
  Dev.mark_setMark (d.store (64 * l) (sliceB bs 0 64)) l .clean

/-- What accepting a result leaves (R453). -/
theorem Dev.almAccept_accepted (d : Dev) (e : Nat) (value : List Byte) (origin : Nat) :
    AcceptedResult d (d.almAccept e value origin (d.rd (.tck .COUNT_TICK))) e value origin := by
  obtain ⟨hpend, htick, hgen, hforce, hflags, -, -⟩ := almAccepted_fields (d.length_alm e) e value origin (d.rd (.tck .COUNT_TICK))
  have halm : (d.almAccept e value origin (d.rd (.tck .COUNT_TICK))).alm e =
      almStored (almAccepted (d.alm e) e value origin (d.rd (.tck .COUNT_TICK))) := Dev.rawLine_writeLine _ _ _ (length_almStored _)
  have hmark : (d.almAccept e value origin (d.rd (.tck .COUNT_TICK))).mark (almLine e) = .clean := Dev.mark_writeLine_clean _ _ _
  have ht : d.rd (.tck .COUNT_TICK) < 2 ^ 48 := d.rd_lt (.tck .COUNT_TICK)
  rw [AcceptedResult, halm]
  generalize hb : almAccepted (d.alm e) e value origin (d.rd (.tck .COUNT_TICK)) = b at *
  refine ⟨?_, ?_, ?_, ?_, ?_, leAt_almStored _, hmark, fun a ha => ?_⟩
  · rw [almPending, sliceB_almStored _ (by omega), hpend]
  · rw [leAt, sliceB_almStored _ (by omega), htick, ofLe_leBytes]
    exact Nat.mod_eq_of_lt (by omega)
  · rw [leAt, sliceB_almStored _ (by omega), hgen, ofLe_leBytes]
    rfl
  · rw [almForce, sliceB_almStored _ (by omega), hforce]
    rfl
  · rw [← hflags, getD_almStored _ (by omega)]
  · exact Dev.get_writeLine_other _ _ _ (by omega)

theorem kept_almAccept {F : List Fld} {P : List Part} {d e : Dev} (h : Kept F P d e) (k : Nat) (value : List Byte) (origin tick : Nat)
    (hm : .mem ∈ P) (hk : .marks ∈ P) (hw : .writeBacks ∈ P) : Kept F P d (e.almAccept k value origin tick) := h.writeLine _ _ _ hm hk hw

theorem acceptedResult_congr {d t d' t' : Dev} {e origin : Nat} {value : List Byte} (h : AcceptedResult d t e value origin)
    (hd : d'.mem = d.mem) (hc : d'.rd (.tck .COUNT_TICK) = d.rd (.tck .COUNT_TICK)) (ht : t'.mem = t.mem) (hm : t'.marks = t.marks) :
    AcceptedResult d' t' e value origin := by
  have had : d'.alm e = d.alm e := by simp [Dev.alm, Dev.rawLine, Dev.peek, hd]
  have hat : t'.alm e = t.alm e := by simp [Dev.alm, Dev.rawLine, Dev.peek, ht]
  have hmk : t'.mark (almLine e) = t.mark (almLine e) := by simp only [Dev.mark, hm]
  rw [AcceptedResult, had, hat, hmk, hc, hd, ht]
  exact h

/-! ### The kind of a slot -/

theorem Dev.kind_slot (d : Dev) (n : Nat) :
    (d.slot n).kind = (Mem.get d.mem (64 * ephLine d.cfg.bank + (0x40 + 16 * n) + 3)).toNat % 8 := by
  have h : ∀ a b c e : Byte, (a.toNat + 256 * (b.toNat + 256 * (c.toNat + 256 * e.toNat))) / 2 ^ 24 % 8 = e.toNat % 8 := by
    intro a b c e
    have := a.isLt
    have := b.isLt
    have := c.isLt
    omega
  exact h _ _ _ _

/-- An accepted result whose byte 11 is 0 leaves the kind of every slot or clears it, wherever the Ephemeris lies. -/
theorem Dev.kind_almAccept (d : Dev) (e : Nat) {value : List Byte} (origin tick n : Nat) (hv : value.getD 11 0 = 0) :
    ((d.almAccept e value origin tick).slot n).kind = (d.slot n).kind ∨ ((d.almAccept e value origin tick).slot n).kind = 0 := by
  obtain ⟨-, -, -, -, -, hkeep, hlast⟩ := almAccepted_fields (d.length_alm e) e value origin tick
  have hcfg : (d.almAccept e value origin tick).cfg = d.cfg := rfl
  rw [Dev.kind_slot, Dev.kind_slot, hcfg]
  generalize ha : 64 * ephLine d.cfg.bank + (0x40 + 16 * n) + 3 = a
  by_cases hline : a / 64 = almLine e
  · have hat : a = 64 * almLine e + a % 64 := by omega
    have hlt : a % 64 < 60 := by omega
    have hget : Mem.get (d.almAccept e value origin tick).mem a = (almAccepted (d.alm e) e value origin tick).getD (a % 64) 0 := by
      have hr := Dev.getD_rawLine (d.almAccept e value origin tick) (almLine e) (a % 64) (by omega)
      rw [Dev.almAccept_eq, Dev.rawLine_writeLine _ _ _ (length_almStored _), ← Dev.almAccept_eq, ← hat] at hr
      rw [← hr, getD_almStored _ hlt]
    rw [hget]
    by_cases h51 : a % 64 = 51
    · rw [h51, hlast, hv]
      exact Or.inr rfl
    · rw [hkeep _ (by omega) h51, Dev.alm, Dev.getD_rawLine _ _ _ (by omega), ← hat]
      exact Or.inl rfl
  · exact Or.inl (by rw [Dev.almAccept_eq, Dev.get_writeLine_other _ _ _ hline])

/-! ### Events -/

theorem kept_calEvent {F : List Fld} {P : List Part} {d e : Dev} (h : Kept F P d e) (f : CalF) (cause k : Nat) (hf : .cal f ∈ F)
    (hl : calLog ⊆ F) (hi : .irqs ∈ P) : Kept F P d (e.calEvent f cause k) :=
  (h.event _ _ hf hi).logFirst _ (hl (by simp [calLog])) fun x hx => by
    simp only [List.mem_cons, List.not_mem_nil, or_false] at hx
    rcases hx with rfl | rfl <;> exact hl (by simp [calLog])

theorem Dev.rd_calEvent (d : Dev) {f g : CalF} (cause k : Nat) (hg : .cal g ∉ calLog) (hne : g ≠ f) :
    (d.calEvent f cause k).rd (.cal g) = d.rd (.cal g) := by
  have hk : Kept (.cal f :: calLog) [.irqs] d (d.calEvent f cause k) := kept_calEvent (.refl d) f cause k (by simp) (by simp) (by simp)
  by_cases hc : isCount (.cal g) = true
  · simp [isCount] at hc
  · exact hk.rd (by simp [hne, hg]) (Bool.not_eq_true _ ▸ hc)

/-- An event of an entry sets its bit and is logged when it is the first (R46, R459). -/
theorem Dev.calEvent_logged (d : Dev) {f : CalF} {cause k : Nat} (hf : .cal f ∉ calLog) (hw : (Fld.cal f).width = 1) (hk : k < 32)
    (hc : cause < 8) : (d.calEvent f cause k).rd (.cal f) = 1 ∧ CalLogged d (d.calEvent f cause k) cause k := by
  have hmem : f ≠ .LOG_VALID ∧ f ≠ .LOG_ENTRY ∧ f ≠ .LOG_CAUSE := by simpa [calLog] using hf
  obtain ⟨hv, he, hcs⟩ := hmem
  have hrd : ∀ g ∈ calLog, (d.event (.cal f) (.cal .CTRL_IRQ_EN) 12).rd g = d.rd g := fun g hg => by
    rw [Dev.rd_event, if_neg (fun h : g = .cal f => hf (h ▸ hg))]
  have hset : (d.event (.cal f) (.cal .CTRL_IRQ_EN) 12).rd (.cal f) = 1 := by
    rw [Dev.rd_event, if_pos rfl, hw]
    rfl
  have hvalid := hrd (.cal .LOG_VALID) (by simp [calLog])
  rw [Dev.calEvent, Dev.logFirst, Dev.is, hvalid]
  by_cases h0 : d.rd (.cal .LOG_VALID) = 0
  · simp only [h0, ne_eq, not_true_eq_false, decide_false, Bool.false_eq_true, if_false]
    refine ⟨?_, fun _ => ⟨?_, ?_, ?_⟩, fun h => absurd h0 h⟩
    · simp [Dev.wrs, Dev.rd_wr, hv, he, hcs, hset]
    · simp [Dev.wrs, Dev.rd_wr]
    · simp [Dev.wrs, Dev.rd_wr, Nat.mod_eq_of_lt hk]
    · simp [Dev.wrs, Dev.rd_wr, Nat.mod_eq_of_lt hc]
  · simp only [h0, ne_eq, not_false_eq_true, decide_true, if_true]
    exact ⟨hset, fun h => absurd h h0, fun _ => hrd⟩

theorem mem_calLog {f : Fld} (hf : f ∈ calLog) : ∃ g, f = .cal g := by
  simp only [calLog, List.mem_cons, List.not_mem_nil, or_false] at hf
  rcases hf with rfl | rfl | rfl
  · exact ⟨_, rfl⟩
  · exact ⟨_, rfl⟩
  · exact ⟨_, rfl⟩

/-! ### A step starts and ends -/

theorem effect_mono {c : Sys2Proof.Instr} {s : State} {F G : List Fld} {P Q : List Part} {post : Dev → Prop} (h : Effect c s F P post)
    (hF : F ⊆ G) (hP : P ⊆ Q) : Effect c s G Q post := by
  obtain ⟨t, hx, hp, ho, hpost, hr, hs⟩ := h
  exact ⟨t, hx, hp, ho, hpost, fun f hf => hr f fun hm => hf (hF hm), fun x hxq => hs x fun hm => hxq (hP hm)⟩

section
variable {s : State} {n : Fin 64} (hs : s.held = false)
include hs

theorem effect_calStepStart (hr : (s.dev.occ n).state = .running) (hk : (s.dev.slot n).kind = 3) (hc : s.dev.cal.step = none) :
    Effect (.calStepStart n) s [] [.cal] (fun t => t.cal = { s.dev.cal with step := some n.val }) := by
  have hx : exec (.calStepStart n) s = .next { s with dev := { s.dev with cal := { s.dev.cal with step := some n.val } } } := by
    show execCalStepStart n s = _
    rw [execCalStepStart, State.run_live s _ hs]
    simp [hr, hk, hc]
  exact .of_next hx ((Kept.refl _).withCal _ (by simp)) rfl

/-- The step in work taken and counted (R455). -/
def Dev.calTaken (d : Dev) : Dev := Dev.calCnt { d with cal := { d.cal with step := none } } 0 1

/-- The end of a step of slot `n`, its work leaving `w` (R455). -/
theorem calStepEnd_of {lost : Nat} {full : Bool} {measured : List Byte} {w : Dev} {F : List Fld} {P : List Part} (hstep : s.dev.cal.step = some n.val)
    (hw : w = (if (s.dev.slot n).step < 0x20 then s.dev.calTaken.scanStep ((s.dev.slot n).step - 0x10) (s.dev.slot n).budget lost measured
      else s.dev.calTaken.delayStep (stepEntry (s.dev.slot n).step) lost full measured))
    (hk : Kept F P s.dev.calTaken w) (hcal : w.cal.step = none) (hP : .tick ∉ P) (hF : ∀ f ∈ F, ∃ g, f = .cal g ∧ g ≠ .CNT_COUNT 0)
    (hkind : (w.slot n).kind ≠ 1) {post : Dev → Prop}
    (hpost : ∀ t, Kept (recFields n) [.tick] w t → StepDone s.dev t n → (∀ g, t.rd (.cal g) = w.rd (.cal g)) → post t) :
    Effect (.calStepEnd lost full measured) s (.cal (.CNT_COUNT 0) :: F ++ recFields n) (.cal :: .tick :: P) post := by
  have hx : exec (.calStepEnd lost full measured) s = .next { s with dev := w.endOcc n 0 } := by
    show execCalStepEnd lost full measured s = _
    rw [execCalStepEnd, State.run_live s _ hs]
    simp only [hstep, hw]
    rfl
  have hke := w.endOcc_done_kept n hkind
  obtain ⟨hstate, hstatus, hslot⟩ := w.endOcc_done_recorded n n.isLt hkind
  have htick : (w.endOcc n 0).rd (.tck (.SLOT_REC_TICK n)) = w.tick.coreTick % 2 ^ 32 := by
    rw [w.endOcc_done n hkind]
    exact ((w.occOver n).recorded_record n 0 _ _ _ n.isLt (by decide)).1
  have hrd : ∀ g, (w.endOcc n 0).rd (.cal g) = w.rd (.cal g) := fun g => Dev.rd_endOcc_done _ _ hkind (by simp)
  have hct : _ = _ := hk.same (x := .tick) hP
  have hcalt : (w.endOcc n 0).cal = w.cal := hke.same (x := .cal) (by simp)
  have hcnt : w.rd (.cal (.CNT_COUNT 0)) = s.dev.calTaken.rd (.cal (.CNT_COUNT 0)) := hk.rd (fun h => by
    obtain ⟨g, hg, hne⟩ := hF _ h
    exact hne (Fld.cal.inj hg).symm) rfl
  have hk0 : Kept [.cal (.CNT_COUNT 0)] [.cal] s.dev s.dev.calTaken := ((Kept.refl s.dev).withCal { s.dev.cal with step := none } (by simp)).incBy 1 (by simp)
  refine .of_next hx (((hk0.mono (by simp) (by simp)).trans (hk.mono (fun _ h => by simp [h]) fun _ h => by simp [h])).trans
    (hke.mono (fun _ h => by simp [h]) (by simp))) (hpost _ hke ⟨hstate, ?_, hslot, hstatus, ?_, ?_⟩ hrd)
  · rw [htick, hct]
    rfl
  · rw [Counts, hrd, hcnt, Dev.calTaken, Dev.calCnt, Dev.rd_incBy, if_pos rfl]
    rfl
  · rw [hcalt, hcal]

/-! ### Eye scans -/

omit hs in
theorem calLogged_congr {d t d' t' : Dev} {cause e : Nat} (h : CalLogged d t cause e) (hd : ∀ f ∈ calLog, d'.rd f = d.rd f)
    (ht : ∀ f ∈ calLog, t'.rd f = t.rd f) : CalLogged d' t' cause e := by
  obtain ⟨h0, h1⟩ := h
  rw [CalLogged, hd _ (by simp [calLog]), ht _ (by simp [calLog]), ht _ (by simp [calLog]), ht _ (by simp [calLog])]
  exact ⟨h0, fun hv f hf => by rw [ht f hf, hd f hf, h1 hv f hf]⟩

omit hs in
theorem rd_calTaken (d : Dev) {f : Fld} (hf : f ≠ .cal (.CNT_COUNT 0)) : d.calTaken.rd f = d.rd f := by
  rw [Dev.calTaken, Dev.calCnt, Dev.rd_incBy, if_neg hf]
  rfl

omit hs in
theorem linkUp_calTaken (d : Dev) (p : Nat) : d.calTaken.linkUp p = d.linkUp p := by
  rw [Dev.linkUp, Dev.is, rd_calTaken _ (by simp), Dev.linkUp, Dev.is]

omit hs in
theorem scanItems_calTaken (d : Dev) (p b : Nat) : d.calTaken.scanItems p b = d.scanItems p b := by
  rw [Dev.scanItems, rd_calTaken _ (by simp), Dev.scanItems]

omit hs in
theorem slot_calTaken (d : Dev) (m : Nat) : d.calTaken.slot m = d.slot m := Dev.slot_congr rfl rfl m

variable {lost : Nat} {full : Bool} {measured : List Byte} (hstep : s.dev.cal.step = some n.val) (hk3 : (s.dev.slot n).kind = 3)
include hstep hk3

omit hs hstep in
theorem kind_of_same {w : Dev} (h : w.slot n = s.dev.slot n) : (w.slot n).kind ≠ 1 := by
  rw [h, hk3]
  decide

theorem effect_scan_linkDown {p : Fin 4} (hk : (s.dev.slot n).step = 0x10 + p.val) (hl : s.dev.linkUp p = false) :
    Effect (.calStepEnd lost full measured) s (.cal (.CNT_COUNT 0) :: recFields n) [.cal, .tick] (fun t => StepDone s.dev t n) := by
  have hw : s.dev.calTaken = (if (s.dev.slot n).step < 0x20 then
      s.dev.calTaken.scanStep ((s.dev.slot n).step - 0x10) (s.dev.slot n).budget lost measured
      else s.dev.calTaken.delayStep (stepEntry (s.dev.slot n).step) lost full measured) := by
    rw [if_pos (by omega), hk, Nat.add_sub_cancel_left, Dev.scanStep, linkUp_calTaken, hl]
    rfl
  exact calStepEnd_of hs hstep hw (.refl _) (F := []) (P := []) rfl (by simp) (by simp)
    (kind_of_same hk3 (slot_calTaken _ _)) fun t _ hd _ => hd

/-- What an unfinished scan leaves: `m` points lost, `held` held (R456). -/
def Dev.scanHeld (d : Dev) (p m held : Nat) : Dev := (d.calTaken.calCnt 2 m).setPoints p held

omit hs hstep hk3 in
theorem kept_scanHeld (d : Dev) (p m held : Nat) : Kept [.cal (.CNT_COUNT 2)] [.cal] d.calTaken (d.scanHeld p m held) :=
  ((Kept.refl _).incBy m (by simp)).withCal _ (by simp)

theorem effect_scan_held {p : Fin 4} {items held : Nat} (hk : (s.dev.slot n).step = 0x10 + p.val) (hl : s.dev.linkUp p = true)
    (hi : items = s.dev.scanItems p (s.dev.slot n).budget) (hh : held = s.dev.cal.points.getD p 0 + (items - min lost items)) (hlt : held < 256) :
    Effect (.calStepEnd lost full measured) s (.cal (.CNT_COUNT 0) :: .cal (.CNT_COUNT 2) :: recFields n) [.cal, .tick] (fun t =>
      StepDone s.dev t n ∧ t.cal.points.getD p 0 = held ∧ Counts s.dev t (.cal (.CNT_COUNT 2)) (min lost items)) := by
  have hw : s.dev.scanHeld p (min lost items) held = (if (s.dev.slot n).step < 0x20 then
      s.dev.calTaken.scanStep ((s.dev.slot n).step - 0x10) (s.dev.slot n).budget lost measured
      else s.dev.calTaken.delayStep (stepEntry (s.dev.slot n).step) lost full measured) := by
    have hpts : s.dev.calTaken.cal.points = s.dev.cal.points := rfl
    rw [if_pos (by omega), hk, Nat.add_sub_cancel_left, Dev.scanStep, linkUp_calTaken, hl, scanItems_calTaken, ← hi]
    simp only [Bool.not_true, Bool.false_eq_true, if_false, hpts, ← hh, if_pos hlt]
    rfl
  have hslot : (s.dev.scanHeld p (min lost items) held).slot n = s.dev.slot n := Dev.slot_congr rfl rfl n
  refine effect_mono (calStepEnd_of hs hstep hw (kept_scanHeld _ _ _ _) rfl (by simp) (by simp) (kind_of_same hk3 hslot)
    fun t hkt hd hrd => ⟨hd, ?_, ?_⟩) (by simp) (by simp)
  · have hcal : t.cal = _ := hkt.same (x := .cal) (by simp)
    rw [hcal]
    exact (getD_bankAt _ _ _ _ _ _).trans (by simp [p.isLt])
  · have h2 : (s.dev.scanHeld p (min lost items) held).rd (.cal (.CNT_COUNT 2)) = _ := Dev.rd_incBy s.dev.calTaken (.cal (.CNT_COUNT 2)) _ _
    rw [Counts, hrd, h2, if_pos rfl, rd_calTaken _ (by simp)]

omit hs hstep hk3 in
theorem scanValue_bytes (force : List Byte) : ((scanValue force measured).getD 4 0).toNat = min 32 (measured.getD 4 0).toNat ∧
    (scanValue force measured).getD 11 0 = 0 := by
  have h : (scanValue force measured).getD 4 0 = BitVec.ofNat 8 (min 32 (measured.getD 4 0).toNat) := rfl
  refine ⟨?_, rfl⟩
  rw [h, BitVec.toNat_ofNat, Nat.mod_eq_of_lt (by omega)]

/-- What a complete scan leaves, before its eye is compared (R456). -/
def Dev.scanned (d : Dev) (p m : Nat) (measured : List Byte) : Dev :=
  (d.scanHeld p m 0).almAccept p (scanValue (almForce (d.alm p)) measured) 2 (d.rd (.tck .COUNT_TICK))

/-- The report of a low eye (R456, R459). -/
def Dev.eyeLow (d : Dev) (p : Nat) : Dev := (d.calCnt 6 1).calEvent .EVT_EYE_LOW 2 p

omit hs hstep hk3 in
theorem scanned_effect (d : Dev) (p m : Nat) :
    Kept [.cal (.CNT_COUNT 2)] [.cal, .mem, .marks, .writeBacks] d.calTaken (d.scanned p m measured) ∧
    AcceptedResult d (d.scanned p m measured) p (scanValue (almForce (d.alm p)) measured) 2 ∧
    (∀ k, ((d.scanned p m measured).slot k).kind = (d.slot k).kind ∨ ((d.scanned p m measured).slot k).kind = 0) ∧
    (∀ f, f ≠ .cal (.CNT_COUNT 0) → f ≠ .cal (.CNT_COUNT 2) → (d.scanned p m measured).rd f = d.rd f) := by
  have hk := kept_scanHeld d p m 0
  have hrd : ∀ f, f ≠ .cal (.CNT_COUNT 0) → f ≠ .cal (.CNT_COUNT 2) → (d.scanHeld p m 0).rd f = d.rd f := fun f h0 h2 => by
    have h := (Dev.rd_incBy d.calTaken (.cal (.CNT_COUNT 2)) f m).trans (if_neg h2)
    exact h.trans (rd_calTaken d h0)
  have htick := hrd (.tck .COUNT_TICK) (by simp) (by simp)
  have hslot : ∀ k, (d.scanHeld p m 0).slot k = d.slot k := Dev.slot_congr rfl rfl
  refine ⟨?_, ?_, fun k => ?_, hrd⟩
  · exact kept_almAccept (hk.mono (fun _ h => h) (by simp)) _ _ _ _ (by simp) (by simp) (by simp)
  · have ha := (d.scanHeld p m 0).almAccept_accepted p (scanValue (almForce (d.alm p)) measured) 2
    rw [htick] at ha
    exact acceptedResult_congr ha rfl htick.symm rfl rfl
  · have h := (d.scanHeld p m 0).kind_almAccept p 2 (d.rd (.tck .COUNT_TICK)) k (scanValue_bytes (measured := measured) (almForce (d.alm p))).2
    rwa [hslot] at h

omit hs hstep hk3 in
theorem Dev.eyeLow_effect (d : Dev) {p : Nat} (hp : p < 32) :
    Kept (.cal (.CNT_COUNT 6) :: .cal .EVT_EYE_LOW :: calLog) [.irqs] d (d.eyeLow p) ∧
    (d.eyeLow p).rd (.cal (.CNT_COUNT 6)) = min (d.rd (.cal (.CNT_COUNT 6)) + 1) (2 ^ (Fld.cal (.CNT_COUNT 6)).width - 1) ∧
    (d.eyeLow p).rd (.cal .EVT_EYE_LOW) = 1 ∧ CalLogged d (d.eyeLow p) 2 p := by
  obtain ⟨hevt, hlog⟩ := (d.calCnt 6 1).calEvent_logged (f := .EVT_EYE_LOW) (cause := 2) (k := p) (by simp [calLog]) rfl hp (by omega)
  refine ⟨kept_calEvent ((Kept.refl d).incBy 1 (by simp)) _ _ _ (by simp) (by simp) (by simp), ?_, hevt, ?_⟩
  · rw [Dev.eyeLow, Dev.rd_calEvent _ _ _ (by simp [calLog]) (by simp), Dev.calCnt, Dev.rd_incBy, if_pos rfl]
  · exact calLogged_congr hlog (fun f hf => ((Dev.rd_incBy _ _ _ _).trans (if_neg (by rintro rfl; simp [calLog] at hf))).symm) fun _ _ => rfl

theorem effect_scan_complete {p : Fin 4} {items held : Nat} (hk : (s.dev.slot n).step = 0x10 + p.val) (hl : s.dev.linkUp p = true)
    (hi : items = s.dev.scanItems p (s.dev.slot n).budget) (hh : held = s.dev.cal.points.getD p 0 + (items - min lost items)) (hle : 256 ≤ held) :
    Effect (.calStepEnd lost full measured) s
      (([.cal (.CNT_COUNT 0), .cal (.CNT_COUNT 2), .cal (.CNT_COUNT 6), .cal .EVT_EYE_LOW] : List Fld) ++ calLog ++ recFields n)
      (.irqs :: calParts) (fun t =>
        StepDone s.dev t n ∧ t.cal.points.getD p 0 = 0 ∧
        AcceptedResult s.dev t p (scanValue (almForce (s.dev.alm p)) measured) 2 ∧
        (min 32 (measured.getD 4 0).toNat < s.dev.rd (.cal .CFG_EYE_MIN_W) →
          Counts s.dev t (.cal (.CNT_COUNT 6)) ∧ t.rd (.cal .EVT_EYE_LOW) = 1 ∧ CalLogged s.dev t 2 p) ∧
        (s.dev.rd (.cal .CFG_EYE_MIN_W) ≤ min 32 (measured.getD 4 0).toNat →
          t.rd (.cal (.CNT_COUNT 6)) = s.dev.rd (.cal (.CNT_COUNT 6)) ∧
          t.rd (.cal .EVT_EYE_LOW) = s.dev.rd (.cal .EVT_EYE_LOW))) := by
  obtain ⟨hka, hacc, hkind, hrda⟩ := scanned_effect s.dev p (min lost items) (measured := measured)
  have hw : (if min 32 (measured.getD 4 0).toNat < s.dev.rd (.cal .CFG_EYE_MIN_W) then (s.dev.scanned p (min lost items) measured).eyeLow p
        else s.dev.scanned p (min lost items) measured) = (if (s.dev.slot n).step < 0x20 then
      s.dev.calTaken.scanStep ((s.dev.slot n).step - 0x10) (s.dev.slot n).budget lost measured
      else s.dev.calTaken.delayStep (stepEntry (s.dev.slot n).step) lost full measured) := by
    have hpts : s.dev.calTaken.cal.points = s.dev.cal.points := rfl
    have hmin := (scanValue_bytes (measured := measured) (almForce (s.dev.alm p))).1
    have hcfg := hrda (.cal .CFG_EYE_MIN_W) (by simp) (by simp)
    have htick : (s.dev.calTaken.calCnt 2 (min lost items)).rd (.tck .COUNT_TICK) = s.dev.rd (.tck .COUNT_TICK) :=
      (Dev.rd_incBy _ _ _ _).trans (rd_calTaken _ (by simp))
    have hlt : (s.dev.slot n).step < 0x20 := by omega
    rw [if_pos hlt, hk, Nat.add_sub_cancel_left, Dev.scanStep, linkUp_calTaken, hl, scanItems_calTaken, ← hi]
    simp only [Bool.not_true, Bool.false_eq_true, if_false, hpts, ← hh, if_neg (Nat.not_lt.mpr hle)]
    rw [htick, ← hmin, ← hcfg]
    rfl
  have hpts : (s.dev.scanned p (min lost items) measured).cal.points.getD p 0 = 0 :=
    (getD_bankAt _ _ _ _ _ _).trans (by simp [p.isLt])
  have hstepA : (s.dev.scanned p (min lost items) measured).cal.step = none := rfl
  generalize s.dev.scanned p (min lost items) measured = a at hka hacc hkind hrda hw hpts hstepA
  have hkindA : (a.slot n).kind ≠ 1 := by
    have h := hkind n
    omega
  by_cases hlow : min 32 (measured.getD 4 0).toNat < s.dev.rd (.cal .CFG_EYE_MIN_W)
  · rw [if_pos hlow] at hw
    obtain ⟨hke, hcnt, hevt, hlog⟩ := a.eyeLow_effect (p := p) (by omega)
    have hmem : _ = _ := hke.same (x := .mem) (by simp)
    have hcfg : _ = _ := hke.same (x := .cfg) (by simp)
    have hmarks : _ = _ := hke.same (x := .marks) (by simp)
    have hcal : _ = _ := hke.same (x := .cal) (by simp)
    have hk2 : Kept (([.cal (.CNT_COUNT 2), .cal (.CNT_COUNT 6), .cal .EVT_EYE_LOW] : List Fld) ++ calLog) [.cal, .mem, .marks, .writeBacks, .irqs]
        s.dev.calTaken (a.eyeLow p) := (hka.mono (by simp) (by simp)).trans (hke.mono (by simp) (by simp))
    refine effect_mono (calStepEnd_of hs hstep hw hk2 (by rw [hcal, hstepA]) (by simp) (by simp [calLog])
      (by rw [Dev.slot_congr hmem hcfg]; exact hkindA) fun t hkt hd hrd => ⟨hd, ?_, ?_, fun _ => ⟨?_, ?_, ?_⟩, fun h => absurd hlow (by omega)⟩)
      (by simp) (by simp [calParts])
    · rw [show t.cal = _ from hkt.same (x := .cal) (by simp), hcal, hpts]
    · have hmt : t.mem = _ := hkt.same (x := .mem) (by simp)
      have hmk : t.marks = _ := hkt.same (x := .marks) (by simp)
      exact acceptedResult_congr hacc rfl rfl (hmt.trans hmem) (hmk.trans hmarks)
    · rw [Counts, hrd, hcnt, hrda _ (by simp) (by simp)]
    · rw [hrd, hevt]
    · exact calLogged_congr hlog (fun f hf => (hrda f (by rintro rfl; simp [calLog] at hf) (by rintro rfl; simp [calLog] at hf)).symm)
        (fun f hf => by
          obtain ⟨g, rfl⟩ := mem_calLog hf
          exact hrd g)
  · rw [if_neg hlow] at hw
    refine effect_mono (calStepEnd_of hs hstep hw hka hstepA (by simp) (by simp) hkindA
      fun t hkt hd hrd => ⟨hd, ?_, ?_, fun h => absurd h hlow, fun _ => ⟨?_, ?_⟩⟩)
      (fun _ h => by simp at h ⊢; tauto) (by simp [calParts])
    · rw [show t.cal = _ from hkt.same (x := .cal) (by simp), hpts]
    · exact acceptedResult_congr hacc rfl rfl (hkt.same (x := .mem) (by simp)) (hkt.same (x := .marks) (by simp))
    · rw [hrd, hrda _ (by simp) (by simp)]
    · rw [hrd, hrda _ (by simp) (by simp)]

/-! ### Path delays -/

omit hs hstep hk3 in
theorem stepEntry_lt {k : Nat} (h1 : 0x20 ≤ k) (h2 : k ≤ 0x31) : stepEntry k < 32 := by
  rw [stepEntry]
  split_ifs <;> omega

/-- The markers of a step counted (R457). -/
def Dev.markersLost (d : Dev) (lost : Nat) : Dev := d.calTaken.calCnt 3 lost

omit hs hstep hk3 in
theorem markersLost_effect (d : Dev) : Kept [.cal (.CNT_COUNT 3)] [] d.calTaken (d.markersLost lost) ∧
    (d.markersLost lost).rd (.cal (.CNT_COUNT 3)) = min (d.rd (.cal (.CNT_COUNT 3)) + lost) (2 ^ (Fld.cal (.CNT_COUNT 3)).width - 1) ∧
    (∀ f, f ≠ .cal (.CNT_COUNT 0) → f ≠ .cal (.CNT_COUNT 3) → (d.markersLost lost).rd f = d.rd f) := by
  refine ⟨(Kept.refl _).incBy _ (by simp), ?_, fun f h0 h3 => ?_⟩
  · rw [Dev.markersLost, Dev.calCnt, Dev.rd_incBy, if_pos rfl, rd_calTaken _ (by simp)]
  · rw [Dev.markersLost, Dev.calCnt, Dev.rd_incBy, if_neg h3, rd_calTaken _ h0]

variable (hmin : 0x20 ≤ (s.dev.slot n).step)
include hmin

theorem effect_delay_unfinished :
    Effect (.calStepEnd lost false measured) s (.cal (.CNT_COUNT 0) :: .cal (.CNT_COUNT 3) :: .cal (.CNT_COUNT 4) :: recFields n)
      [.cal, .tick] (fun t => StepDone s.dev t n ∧ Counts s.dev t (.cal (.CNT_COUNT 3)) lost ∧ Counts s.dev t (.cal (.CNT_COUNT 4))) := by
  obtain ⟨hk, hcnt, hrd⟩ := markersLost_effect s.dev (lost := lost)
  have hw : (s.dev.markersLost lost).calCnt 4 1 = (if (s.dev.slot n).step < 0x20 then
      s.dev.calTaken.scanStep ((s.dev.slot n).step - 0x10) (s.dev.slot n).budget lost measured
      else s.dev.calTaken.delayStep (stepEntry (s.dev.slot n).step) lost false measured) := by
    rw [if_neg (by omega)]
    rfl
  have hk2 : Kept [.cal (.CNT_COUNT 3), .cal (.CNT_COUNT 4)] [] s.dev.calTaken ((s.dev.markersLost lost).calCnt 4 1) :=
    (hk.mono (by simp) (by simp)).incBy 1 (by simp)
  have hslot : ((s.dev.markersLost lost).calCnt 4 1).slot n = s.dev.slot n := Dev.slot_congr rfl rfl n
  refine effect_mono (calStepEnd_of hs hstep hw hk2 rfl (by simp) (by simp) (kind_of_same hk3 hslot)
    fun t hkt hd hrt => ⟨hd, ?_, ?_⟩) (by simp) (by simp)
  · rw [Counts, hrt, Dev.calCnt, Dev.rd_incBy, if_neg (by simp), hcnt]
  · rw [Counts, hrt, Dev.calCnt, Dev.rd_incBy, if_pos rfl, hrd _ (by simp) (by simp)]

theorem effect_delay_rejected (hmax : (s.dev.slot n).step ≤ 0x31) (hsp : s.dev.rd (.cal .CFG_SPREAD_MAX) < leAt measured 4 2) :
    Effect (.calStepEnd lost true measured) s
      (([.cal (.CNT_COUNT 0), .cal (.CNT_COUNT 3), .cal (.CNT_COUNT 5), .cal .EVT_REJECT] : List Fld) ++ calLog ++ recFields n)
      [.cal, .tick, .irqs] (fun t => StepDone s.dev t n ∧ Counts s.dev t (.cal (.CNT_COUNT 5)) ∧ t.rd (.cal .EVT_REJECT) = 1 ∧
        CalLogged s.dev t 3 (stepEntry (s.dev.slot n).step)) := by
  obtain ⟨hk, hcnt, hrd⟩ := markersLost_effect s.dev (lost := lost)
  have hw : ((s.dev.markersLost lost).calCnt 5 1).calEvent .EVT_REJECT 3 (stepEntry (s.dev.slot n).step) = (if (s.dev.slot n).step < 0x20 then
      s.dev.calTaken.scanStep ((s.dev.slot n).step - 0x10) (s.dev.slot n).budget lost measured
      else s.dev.calTaken.delayStep (stepEntry (s.dev.slot n).step) lost true measured) := by
    have hspread := hrd (.cal .CFG_SPREAD_MAX) (by simp) (by simp)
    rw [if_neg (by omega), Dev.delayStep, ← Dev.markersLost]
    simp only [Bool.not_true, Bool.false_eq_true, if_false, hspread, if_pos hsp]
  have hk1 : Kept [.cal (.CNT_COUNT 3), .cal (.CNT_COUNT 5)] [] s.dev.calTaken ((s.dev.markersLost lost).calCnt 5 1) :=
    (hk.mono (by simp) (by simp)).incBy 1 (by simp)
  have hr5 : ((s.dev.markersLost lost).calCnt 5 1).rd (.cal (.CNT_COUNT 5)) =
      min (s.dev.rd (.cal (.CNT_COUNT 5)) + 1) (2 ^ (Fld.cal (.CNT_COUNT 5)).width - 1) := by
    rw [Dev.calCnt, Dev.rd_incBy, if_pos rfl, hrd _ (by simp) (by simp)]
  have hlg : ∀ f ∈ calLog, ((s.dev.markersLost lost).calCnt 5 1).rd f = s.dev.rd f := fun f hf => by
    rw [Dev.calCnt, Dev.rd_incBy, if_neg (by rintro rfl; simp [calLog] at hf),
      hrd f (by rintro rfl; simp [calLog] at hf) (by rintro rfl; simp [calLog] at hf)]
  obtain ⟨hevt, hlog⟩ := ((s.dev.markersLost lost).calCnt 5 1).calEvent_logged (f := .EVT_REJECT) (cause := 3) (k := stepEntry (s.dev.slot n).step)
    (by simp [calLog]) rfl (stepEntry_lt hmin hmax) (by omega)
  have hk2 : Kept (([.cal (.CNT_COUNT 3), .cal (.CNT_COUNT 5), .cal .EVT_REJECT] : List Fld) ++ calLog) [.irqs] s.dev.calTaken
      (((s.dev.markersLost lost).calCnt 5 1).calEvent .EVT_REJECT 3 (stepEntry (s.dev.slot n).step)) :=
    kept_calEvent (hk1.mono (by simp) (by simp)) _ _ _ (by simp) (List.subset_append_right _ _) (by simp)
  have hc5 := ((s.dev.markersLost lost).calCnt 5 1).rd_calEvent (f := .EVT_REJECT) (g := .CNT_COUNT 5) 3 (stepEntry (s.dev.slot n).step)
    (by simp [calLog]) (by simp)
  have hmem : _ = _ := hk2.same (x := .mem) (by simp)
  have hcfg : _ = _ := hk2.same (x := .cfg) (by simp)
  have hcal : _ = _ := hk2.same (x := .cal) (by simp)
  generalize ((s.dev.markersLost lost).calCnt 5 1).calEvent .EVT_REJECT 3 (stepEntry (s.dev.slot n).step) = w at *
  refine effect_mono (calStepEnd_of hs hstep hw hk2 (by rw [hcal]; rfl) (by simp) (by simp [calLog])
    (kind_of_same hk3 ((Dev.slot_congr hmem hcfg n).trans (slot_calTaken _ _))) fun t hkt hd hrt => ⟨hd, ?_, ?_, ?_⟩)
    (fun _ h => by simp at h ⊢; tauto) (by simp)
  · rw [Counts, hrt, hc5, hr5]
  · rw [hrt, hevt]
  · exact calLogged_congr hlog (fun f hf => (hlg f hf).symm) (fun f hf => by
      obtain ⟨g, rfl⟩ := mem_calLog hf
      exact hrt g)

theorem effect_delay_accepted (hsp : leAt measured 4 2 ≤ s.dev.rd (.cal .CFG_SPREAD_MAX)) :
    Effect (.calStepEnd lost true measured) s (.cal (.CNT_COUNT 0) :: .cal (.CNT_COUNT 3) :: recFields n) calParts (fun t =>
      StepDone s.dev t n ∧ Counts s.dev t (.cal (.CNT_COUNT 3)) lost ∧
      AcceptedResult s.dev t (stepEntry (s.dev.slot n).step) (sliceB measured 0 6) 2) := by
  obtain ⟨hk, hcnt, hrd⟩ := markersLost_effect s.dev (lost := lost)
  have htick := hrd (.tck .COUNT_TICK) (by simp) (by simp)
  have hw : (s.dev.markersLost lost).almAccept (stepEntry (s.dev.slot n).step) (sliceB measured 0 6) 2
      ((s.dev.markersLost lost).rd (.tck .COUNT_TICK)) = (if (s.dev.slot n).step < 0x20 then
      s.dev.calTaken.scanStep ((s.dev.slot n).step - 0x10) (s.dev.slot n).budget lost measured
      else s.dev.calTaken.delayStep (stepEntry (s.dev.slot n).step) lost true measured) := by
    have hspread := hrd (.cal .CFG_SPREAD_MAX) (by simp) (by simp)
    rw [if_neg (by omega), Dev.delayStep, ← Dev.markersLost]
    simp only [Bool.not_true, Bool.false_eq_true, if_false, hspread, if_neg (Nat.not_lt.mpr hsp)]
  have hacc := (s.dev.markersLost lost).almAccept_accepted (stepEntry (s.dev.slot n).step) (sliceB measured 0 6) 2
  have hslot : (s.dev.markersLost lost).slot n = s.dev.slot n := Dev.slot_congr rfl rfl n
  have hkind := (s.dev.markersLost lost).kind_almAccept (stepEntry (s.dev.slot n).step) 2 ((s.dev.markersLost lost).rd (.tck .COUNT_TICK)) n
    (value := sliceB measured 0 6) rfl
  rw [hslot, hk3] at hkind
  refine effect_mono (calStepEnd_of hs hstep hw (kept_almAccept (hk.mono (fun _ h => h) (List.nil_subset [.mem, .marks, .writeBacks])) _ _ _ _
    (by simp) (by simp) (by simp)) rfl (by simp) (by simp) (by omega) fun t hkt hd hrt => ⟨hd, ?_, ?_⟩) (by simp) (by simp [calParts])
  · rw [Counts, hrt]
    exact hcnt
  · have hmt : t.mem = _ := hkt.same (x := .mem) (by simp)
    have hmk : t.marks = _ := hkt.same (x := .marks) (by simp)
    exact acceptedResult_congr hacc rfl htick.symm hmt hmk

end

/-! ### Ages -/

section
variable {s : State} {e : Fin 14} (hs : s.held = false) (ha : s.dev.aged e = true)
include hs ha

/-- What an overdue entry leaves in the bit field `g` and its event `f` (R459). -/
def Dev.overdue (d : Dev) (g f : CalF) (cause e : Nat) : Dev := (d.setFldBit (.cal g) e).calEvent f cause e

omit hs ha in
theorem Dev.overdue_effect (d : Dev) {g f : CalF} {cause : Nat} {e : Fin 14} (hw : (Fld.cal g).width = 14) (hg : .cal g ∉ calLog)
    (hf : .cal f ∉ calLog) (hfw : (Fld.cal f).width = 1) (hc : cause < 8) (hclr : bitAt (d.rd (.cal g)) e = false) :
    Kept (.cal g :: .cal f :: calLog) [.irqs] d (d.overdue g f cause e) ∧
    (d.overdue g f cause e).rd (.cal g) = d.rd (.cal g) + 2 ^ e.val ∧ (d.overdue g f cause e).rd (.cal f) = 1 ∧
    CalLogged d (d.overdue g f cause e) cause e := by
  have hne : g ≠ f := fun h => by rw [h, hfw] at hw; omega
  have hbit := d.rd_setFldBit (.cal g) e (by rw [hw]; exact e.isLt)
  obtain ⟨hevt, hlog⟩ := (d.setFldBit (.cal g) e).calEvent_logged (f := f) (cause := cause) (k := e) hf hfw (by omega) hc
  refine ⟨kept_calEvent ((Kept.refl d).wr _ (by simp)) _ _ _ (by simp) (fun _ h => by simp [h]) (by simp), ?_, hevt,
    calLogged_congr hlog (fun h hh => ((Dev.rd_wr _ _ _ _).trans (if_neg fun (he : h = .cal g) => hg (he ▸ hh))).symm) fun _ _ => rfl⟩
  rw [Dev.overdue, Dev.rd_calEvent _ _ _ hg hne, hbit, setBit, hclr]
  rfl

theorem effect_almanacOverdue (hage : s.dev.rd (.cal (.AGE_MAX_AGE e)) < s.dev.age e)
    (hclr : bitAt (s.dev.rd (.cal .AGE_STATUS_OVERDUE)) e = false) :
    Effect (.almanacOverdue e) s (([.cal .AGE_STATUS_OVERDUE, .cal .EVT_OVERDUE] : List Fld) ++ calLog) [.irqs, .toSafe] (fun t =>
      t.rd (.cal .AGE_STATUS_OVERDUE) = s.dev.rd (.cal .AGE_STATUS_OVERDUE) + 2 ^ e.val ∧ t.rd (.cal .EVT_OVERDUE) = 1 ∧
      CalLogged s.dev t 0 e ∧ t.toSafe = s.dev.toSafe ++ ([⟨true, 3, 0⟩] : List Report)) := by
  have hx : exec (.almanacOverdue e) s = .next { s with dev := (s.dev.overdue .AGE_STATUS_OVERDUE .EVT_OVERDUE 0 e).warn 3 } := by
    show execAlmanacOverdue e s = _
    rw [execAlmanacOverdue, State.run_live s _ hs]
    simp only [ha, hclr, Bool.not_true, Bool.false_eq_true, false_or, if_neg (Nat.not_le.mpr hage), if_false, Dev.overdue]
  obtain ⟨hk, hbit, hevt, hlog⟩ := s.dev.overdue_effect (g := .AGE_STATUS_OVERDUE) (f := .EVT_OVERDUE) (cause := 0) rfl (by simp [calLog])
    (by simp [calLog]) rfl (by omega) hclr
  have hsafe : _ = _ := hk.same (x := .toSafe) (by simp)
  generalize s.dev.overdue .AGE_STATUS_OVERDUE .EVT_OVERDUE 0 e = w at *
  exact .of_next hx ((hk.mono (by simp) (by simp)).withToSafe _ (by simp)) ⟨hbit, hevt, hlog, by rw [Dev.warn, hsafe]⟩

theorem effect_almanacOverdue2 (hage : 2 * s.dev.rd (.cal (.AGE_MAX_AGE e)) < s.dev.age e)
    (hclr : bitAt (s.dev.rd (.cal .AGE_STATUS_OVERDUE2)) e = false) :
    Effect (.almanacOverdue2 e) s (([.cal .AGE_STATUS_OVERDUE2, .cal .EVT_OVERDUE2] : List Fld) ++ calLog) [.irqs, .toSafe] (fun t =>
      t.rd (.cal .AGE_STATUS_OVERDUE2) = s.dev.rd (.cal .AGE_STATUS_OVERDUE2) + 2 ^ e.val ∧ t.rd (.cal .EVT_OVERDUE2) = 1 ∧
      CalLogged s.dev t 1 e ∧ t.toSafe = s.dev.toSafe ++ ([⟨false, 15, e⟩] : List Report)) := by
  have hx : exec (.almanacOverdue2 e) s = .next { s with dev := (s.dev.overdue .AGE_STATUS_OVERDUE2 .EVT_OVERDUE2 1 e).fault 15 e } := by
    show execAlmanacOverdue2 e s = _
    rw [execAlmanacOverdue2, State.run_live s _ hs]
    simp only [ha, hclr, Bool.not_true, Bool.false_eq_true, false_or, if_neg (Nat.not_le.mpr hage), if_false, Dev.overdue]
  obtain ⟨hk, hbit, hevt, hlog⟩ := s.dev.overdue_effect (g := .AGE_STATUS_OVERDUE2) (f := .EVT_OVERDUE2) (cause := 1) rfl (by simp [calLog])
    (by simp [calLog]) rfl (by omega) hclr
  have hsafe : _ = _ := hk.same (x := .toSafe) (by simp)
  generalize s.dev.overdue .AGE_STATUS_OVERDUE2 .EVT_OVERDUE2 1 e = w at *
  exact .of_next hx ((hk.mono (by simp) (by simp)).withToSafe _ (by simp)) ⟨hbit, hevt, hlog, by rw [Dev.fault, hsafe]⟩

end

/-! ### Verification -/

/-- The parts and fields that the verification of entries may touch (R460). -/
def verifyRegs : List Fld := .cal .EVT_VERIFY_FAIL :: calLog ++ eccRegs

theorem kept_verifyEntries (d : Dev) (l : List Nat) :
    Kept verifyRegs [.irqs, .marks, .writeBacks, .toSafe] d (l.foldl Dev.verifyEntry d) :=
  .foldl _ _ (fun a k _ h => by
    have hr : Kept verifyRegs [.irqs, .marks, .writeBacks, .toSafe] d (a.readLine (almLine k)).2.2 :=
      kept_readLine h (fun _ hf => by simp [verifyRegs, hf]) (by simp) (by simp) (by simp) _
    rw [Dev.verifyEntry]
    exact .ite _ (fun _ => (kept_calEvent hr _ _ _ (by simp [verifyRegs]) (fun _ hf => by simp [verifyRegs, hf]) (by simp)).withToSafe _ (by simp))
      fun _ => hr) (.refl d)

section
variable {s : State} {n : Fin 64} (hs : s.held = false) (ht : s.dev.taskRuns n 4 = true)
include hs ht

/-- The entries verified and the wait for it over (R460, R501). -/
def Dev.verified (d : Dev) : Dev := ((List.range 14).foldl Dev.verifyEntry d).wr (.pwr .SUP_STATUS_VERIFY_PENDING) 0

theorem exec_almanacVerify : exec (.almanacVerify n) s = .next { s with dev := s.dev.verified.endOcc n 0 } := by
  show execAlmanacVerify n s = _
  rw [execAlmanacVerify, State.run_live s _ hs]
  simp only [ht, Bool.not_true, Bool.false_eq_true, if_false]
  rfl

omit hs in
theorem kind_verified : (s.dev.verified.slot n).kind ≠ 1 := by
  have hk : Kept (.pwr .SUP_STATUS_VERIFY_PENDING :: verifyRegs) [.irqs, .marks, .writeBacks, .toSafe] s.dev s.dev.verified := by
    rw [Dev.verified]
    exact ((kept_verifyEntries s.dev (List.range 14)).mono (by simp) (by simp)).wr _ (by simp)
  have hmem : _ = _ := hk.same (x := .mem) (by simp)
  have hcfg : _ = _ := hk.same (x := .cfg) (by simp)
  simp only [Dev.taskRuns, Bool.and_eq_true, decide_eq_true_eq] at ht
  rw [Dev.slot_congr hmem hcfg, ht.1.2]
  decide

theorem completes_almanacVerify : Completes (.almanacVerify n) s (fun t => (t.occ n).state = .ended ∧ t.rd (.pwr .SUP_STATUS_VERIFY_PENDING) = 0 ∧
    t.rd (.tck (.SLOT_REC_STATUS n)) = 0) := by
  have hkind := kind_verified ht
  obtain ⟨hstate, hstatus, -⟩ := s.dev.verified.endOcc_done_recorded n n.isLt hkind
  refine ⟨_, exec_almanacVerify hs ht, rfl, rfl, hstate, ?_, hstatus⟩
  rw [Dev.rd_endOcc_done _ _ hkind (by simp), Dev.verified, Dev.rd_wr, if_pos rfl]
  rfl

theorem effect_almanacVerify (hall : ∀ i : Fin 14, s.dev.mark (almLine i) = .clean ∧ crc32c ((s.dev.alm i).take 60) = leAt (s.dev.alm i) 60 4 ∧
      almForce (s.dev.alm i) = s.dev.cal.latched.getD i []) :
    Effect (.almanacVerify n) s (.pwr .SUP_STATUS_VERIFY_PENDING :: recFields n) [.tick] (fun t =>
      (t.occ n).state = .ended ∧ t.toSafe = s.dev.toSafe) := by
  have hentry : ∀ k < 14, s.dev.verifyEntry k = s.dev := fun k hk => by
    obtain ⟨hmark, hcrc, hforce⟩ := hall ⟨k, hk⟩
    have hr := Dev.readLine_of_mark hmark
    rw [Dev.verifyEntry, hr]
    refine if_neg ?_
    rw [not_or, not_or, not_not, not_not]
    exact ⟨Bool.false_ne_true, hcrc, hforce⟩
  have hfold : ∀ l : List Nat, (∀ k ∈ l, k < 14) → l.foldl Dev.verifyEntry s.dev = s.dev := by
    intro l
    induction l with
    | nil => exact fun _ => rfl
    | cons k l ih =>
      intro hl
      rw [List.foldl_cons, hentry k (hl k (by simp))]
      exact ih fun j hj => hl j (by simp [hj])
  have hver : s.dev.verified = s.dev.wr (.pwr .SUP_STATUS_VERIFY_PENDING) 0 := by
    rw [Dev.verified, hfold _ fun k hk => List.mem_range.mp hk]
  have hkind := kind_verified ht
  have hke := s.dev.verified.endOcc_done_kept n hkind
  obtain ⟨hstate, -, -⟩ := s.dev.verified.endOcc_done_recorded n n.isLt hkind
  have hkw : Kept [.pwr .SUP_STATUS_VERIFY_PENDING] [] s.dev s.dev.verified := by
    rw [hver]
    exact (Kept.refl s.dev).wr _ (by simp)
  have hk : Kept (.pwr .SUP_STATUS_VERIFY_PENDING :: recFields n) [.tick] s.dev (s.dev.verified.endOcc n 0) :=
    (hkw.mono (by simp) (by simp)).trans (hke.mono (by simp) (fun _ h => h))
  exact .of_next (exec_almanacVerify hs ht) hk ⟨hstate, hk.same (x := .toSafe) (by simp)⟩

end

/-- Settles O41. -/
theorem calibrationAndAlmanac : Obligations.CalibrationAndAlmanac := by
  unfold Obligations.CalibrationAndAlmanac
  intro s n e lost full measured k hs hk
  subst hk
  refine ⟨fun hr hk hc => effect_calStepStart hs hr hk hc, fun hstep hk3 => ⟨fun p hk => ⟨fun hl => effect_scan_linkDown hs hstep hk3 hk hl,
    fun items held hl hi hh => ⟨fun hlt => effect_scan_held hs hstep hk3 hk hl hi hh hlt,
      fun hle => effect_scan_complete hs hstep hk3 hk hl hi hh hle⟩⟩,
    fun hmin hmax => ⟨?_, ?_, ?_⟩⟩, fun ha => ⟨fun hage hclr => effect_almanacOverdue hs ha hage hclr,
      fun hage hclr => effect_almanacOverdue2 hs ha hage hclr⟩,
    fun ht => ⟨completes_almanacVerify hs ht, fun hall => effect_almanacVerify hs ht hall⟩⟩
  · rintro rfl
    exact effect_delay_unfinished hs hstep hk3 hmin
  · rintro rfl hsp
    exact effect_delay_rejected hs hstep hk3 hmin hmax hsp
  · rintro rfl hsp
    exact effect_delay_accepted hs hstep hk3 hmin hsp

end Sys2Proof.Machine
end

section
-- The theorems are elaborated in order, which keeps the memory that a check of the whole text takes within its limit.
set_option Elab.async false

/-! SUPPORT.  The timebase and its discipline loop (R434 to R450). -/

namespace Sys2Proof.Machine

open Sys2Proof.Safety Sys2Proof.Claims

@[simp] theorem timStepped_width : (Fld.tim .STATUS_STEPPED).width = 1 := rfl
@[simp] theorem timState_width : (Fld.tim .STATUS_STATE).width = 2 := rfl
@[simp] theorem timLockChg_width : (Fld.tim .STATUS_LOCK_CHG).width = 1 := rfl
@[simp] theorem srcState_width : (Fld.tck .STATUS_SRC_STATE).width = 2 := rfl
@[simp] theorem freqAdj_width : (Fld.tim .FREQ_ADJ_ADJ).width = 32 := rfl
@[simp] theorem integ_width : (Fld.tim .INTEG_I).width = 32 := rfl
@[simp] theorem lastE_width : (Fld.tim .LAST_E_E).width = 32 := rfl
@[simp] theorem nowNs_width : (Fld.tim .NOW_NS_NS).width = 30 := rfl

/-! ### Rounding -/

theorem ofSigned_lt (w : Nat) (i : Int) : ofSigned w i < 2 ^ w := by
  have h1 := Int.emod_nonneg i (b := ((2 ^ w : Nat) : Int)) (by have := Nat.two_pow_pos w; omega)
  have h2 := Int.emod_lt_of_pos i (b := ((2 ^ w : Nat) : Int)) (by have := Nat.two_pow_pos w; omega)
  rw [ofSigned]
  omega

/-- A rounded quotient is a nearest integer, and a free value at most is taken for it (R448). -/
theorem Dev.roundDiv_effect (d : Dev) (n : Int) {m : Nat} (hm : 0 < m) :
    Nearest (d.roundDiv n m).1 n m ∧ ∃ c, (d.roundDiv n m).2 = { d with freeCount := c } := by
  have hr0 := Int.emod_nonneg n (b := (m : Int)) (by omega)
  have hr1 := Int.emod_lt_of_pos n (b := (m : Int)) (by omega)
  have hq : n / (m : Int) * m = n - n % m := by
    have := Int.emod_add_mul_ediv n m
    rw [Int.mul_comm]
    omega
  have hq1 : (n / (m : Int) + 1) * m = n - n % m + m := by rw [Int.add_mul, hq, Int.one_mul]
  rw [Dev.roundDiv]
  dsimp only
  by_cases h1 : 2 * (n % (m : Int)).toNat < m
  · rw [if_pos h1]
    exact ⟨⟨by rw [hq]; omega, by rw [hq]; omega⟩, d.freeCount, rfl⟩
  · rw [if_neg h1]
    by_cases h2 : m < 2 * (n % (m : Int)).toNat
    · rw [if_pos h2]
      exact ⟨⟨by rw [hq1]; omega, by rw [hq1]; omega⟩, d.freeCount, rfl⟩
    · rw [if_neg h2]
      refine ⟨?_, _, rfl⟩
      show Nearest (n / (m : Int) + (d.fresh.1 % 2 : Nat)) n m
      rcases Nat.mod_two_eq_zero_or_one d.fresh.1 with h0 | h0
      · rw [h0]
        exact ⟨by rw [Int.natCast_zero, Int.add_zero, hq]; omega, by rw [Int.natCast_zero, Int.add_zero, hq]; omega⟩
      · rw [h0]
        exact ⟨by rw [Int.natCast_one, hq1]; omega, by rw [Int.natCast_one, hq1]; omega⟩

/-! ### Steps of the timebase -/

theorem kept_timEvent {F : List Fld} {P : List Part} {d e : Dev} (h : Kept F P d e) (f : TimF) (hf : .tim f ∈ F) (hi : .irqs ∈ P) :
    Kept F P d (e.timEvent f) := h.event _ _ hf hi

theorem Dev.rd_timEvent (d : Dev) (f : TimF) (g : Fld) (hw : (Fld.tim f).width = 1) :
    (d.timEvent f).rd g = if g = .tim f then 1 else d.rd g := by
  rw [Dev.timEvent, Dev.rd_event, hw]
  rfl

theorem Dev.rd_timCnt (d : Dev) (i : Nat) (g : Fld) :
    (d.timCnt i).rd g = if g = .tim (.CNT_COUNT i) then min (d.rd (.tim (.CNT_COUNT i)) + 1) (2 ^ (Fld.tim (.CNT_COUNT i)).width - 1) else d.rd g :=
  Dev.rd_inc _ _ _

/-- The timebase `n` ns away, the ports' anchor left (R436, R438). -/
def Dev.tbMoved (d : Dev) (n : Int) : Dev := { d with
  tb := ((d.tb : Int) + n).toNat
  tim := { d.tim with
    steps := d.tim.steps + n
    skew := d.tim.skew + n } }

theorem kept_tbMoved (d : Dev) (n : Int) : Kept [] [.time, .tim] d (d.tbMoved n) := by
  refine .of_regs rfl fun x hx => ?_
  cases x <;> simp_all [Part.Same, Dev.tbMoved]

theorem Dev.stepTb_eq {d : Dev} {n : Int} (h : 0 ≤ (d.tb : Int) + n) : d.stepTb n = ((d.tbMoved n).timEvent .STATUS_STEPPED).timCnt 0 :=
  if_neg (Int.not_lt.mpr h)

theorem kept_stepTb {F : List Fld} {P : List Part} {d e : Dev} (h : Kept F P d e) (n : Int) (hs : .tim .STATUS_STEPPED ∈ F)
    (h0 : .tim (.CNT_COUNT 0) ∈ F) (h1 : .tim (.CNT_COUNT 1) ∈ F) (ht : .time ∈ P) (hm : .tim ∈ P) (hi : .irqs ∈ P) :
    Kept F P d (e.stepTb n) :=
  .ite _ (fun _ => h.inc h1) fun _ =>
    (kept_timEvent (h.trans ((kept_tbMoved e n).mono (by simp) (fun _ hx => by simp at hx; rcases hx with rfl | rfl <;> assumption))) _ hs hi).inc h0

theorem Dev.same_event (d : Dev) (f g : Fld) (k : Nat) : (d.event f g k).tb = d.tb ∧ (d.event f g k).now = d.now ∧ (d.event f g k).tim = d.tim := by
  have h : Kept [f] [.irqs] d (d.event f g k) := (Kept.refl d).event g k (by simp) (by simp)
  obtain ⟨hnow, htb, -⟩ : Part.Same _ _ .time := h.same (by simp)
  exact ⟨htb, hnow, h.same (x := .tim) (by simp)⟩

/-- A step of the timebase leaves the time and what the loop holds. -/
theorem Dev.stepTb_effect (d : Dev) (n : Int) :
    (d.stepTb n).now = d.now ∧ (0 ≤ (d.tb : Int) + n → ((d.stepTb n).tb : Int) = d.tb + n) ∧
    ∃ a b, (d.stepTb n).tim = { d.tim with
      steps := a
      skew := b } := by
  by_cases h : (d.tb : Int) + n < 0
  · rw [Dev.stepTb, if_pos h]
    exact ⟨rfl, fun h0 => absurd h (Int.not_lt.mpr h0), d.tim.steps, d.tim.skew, rfl⟩
  · rw [Dev.stepTb_eq (Int.not_lt.mp h)]
    obtain ⟨htb, hnow, htim⟩ := (d.tbMoved n).same_event (.tim .STATUS_STEPPED) (.tim .CTRL_IRQ_EN) 11
    refine ⟨hnow, fun h0 => ?_, _, _, htim⟩
    show (((d.tbMoved n).event (.tim .STATUS_STEPPED) (.tim .CTRL_IRQ_EN) 11).tb : Int) = d.tb + n
    rw [htb]
    exact Int.toNat_of_nonneg h0

/-! ### Samples -/

/-- A sample counted and kept, before it acts (R448). -/
def Dev.sampleSeen (d : Dev) (e : Int) : Dev := (d.timCnt 6).wr (.tim .LAST_E_E) (ofSigned 32 e)

/-- The proportional and integral terms computed anew (R448). -/
def Dev.integrate (d : Dev) (e : Int) : Dev :=
  let (x, d) := d.roundDiv (toSigned 32 (d.rd (.tim .INTEG_I)) * 2 ^ d.rd (.tim .LOOP_KI_SHIFT) - e * 128) (2 ^ d.rd (.tim .LOOP_KI_SHIFT))
  let i := clampFreq x
  let d := d.wr (.tim .INTEG_I) (ofSigned 32 i)
  let (y, d) := d.roundDiv (i * 2 ^ d.rd (.tim .LOOP_KP_SHIFT) - e * 128) (2 ^ d.rd (.tim .LOOP_KP_SHIFT))
  d.setFreq y

/-- Whether a sample steps the timebase (R448). -/
def Dev.sampleSteps (d : Dev) (e : Int) : Prop :=
  d.loopState ≠ 1 ∧ d.rd (.tim .CTRL_STEP_EN) ≠ 0 ∧ 2 * d.rd (.tim .STEP_THR_NS) ≤ e.natAbs

theorem rd_sampleSeen (d : Dev) (e : Int) {f : Fld} (h6 : f ≠ .tim (.CNT_COUNT 6)) (hl : f ≠ .tim .LAST_E_E) : (d.sampleSeen e).rd f = d.rd f := by
  rw [Dev.sampleSeen, Dev.rd_wr, if_neg hl, Dev.rd_timCnt, if_neg h6]

theorem kept_sampleSeen (d : Dev) (e : Int) : Kept [.tim .LAST_E_E, .tim (.CNT_COUNT 6)] [] d (d.sampleSeen e) := by
  have hk : Kept [.tim .LAST_E_E, .tim (.CNT_COUNT 6)] [] d (d.timCnt 6) := (Kept.refl d).inc (by simp)
  exact hk.wr _ (by simp)

theorem integrate_effect (d : Dev) (e : Int) :
    Kept [.tim .INTEG_I, .tim .FREQ_ADJ_ADJ] [] d (d.integrate e) ∧ (d.integrate e).tb = d.tb ∧ (d.integrate e).now = d.now ∧
    (d.integrate e).tim = d.tim ∧
    ∃ x y : Int,
      Nearest x (toSigned 32 (d.rd (.tim .INTEG_I)) * 2 ^ d.rd (.tim .LOOP_KI_SHIFT) - e * 128) (2 ^ d.rd (.tim .LOOP_KI_SHIFT)) ∧
      (d.integrate e).rd (.tim .INTEG_I) = ofSigned 32 (max (-51200000) (min 51200000 x)) ∧
      Nearest y (max (-51200000) (min 51200000 x) * 2 ^ d.rd (.tim .LOOP_KP_SHIFT) - e * 128) (2 ^ d.rd (.tim .LOOP_KP_SHIFT)) ∧
      (d.integrate e).rd (.tim .FREQ_ADJ_ADJ) = ofSigned 32 (max (-51200000) (min 51200000 y)) := by
  obtain ⟨hx, c, hc⟩ := d.roundDiv_effect (toSigned 32 (d.rd (.tim .INTEG_I)) * 2 ^ d.rd (.tim .LOOP_KI_SHIFT) - e * 128)
    (Nat.two_pow_pos (d.rd (.tim .LOOP_KI_SHIFT)))
  rw [Dev.integrate]
  generalize d.roundDiv (toSigned 32 (d.rd (.tim .INTEG_I)) * 2 ^ d.rd (.tim .LOOP_KI_SHIFT) - e * 128) (2 ^ d.rd (.tim .LOOP_KI_SHIFT)) = p at *
  obtain ⟨x, q⟩ := p
  dsimp only at hx hc ⊢
  subst hc
  have hkp : (Dev.wr { d with freeCount := c } (.tim .INTEG_I) (ofSigned 32 (clampFreq x))).rd (.tim .LOOP_KP_SHIFT) = d.rd (.tim .LOOP_KP_SHIFT) := by
    rw [Dev.rd_wr, if_neg (by simp)]
    rfl
  have hk : Kept [.tim .INTEG_I, .tim .FREQ_ADJ_ADJ] [] d (Dev.wr { d with freeCount := c } (.tim .INTEG_I) (ofSigned 32 (clampFreq x))) :=
    (kept_freeCount (.refl d) c).wr _ (by simp)
  have hi : (Dev.wr { d with freeCount := c } (.tim .INTEG_I) (ofSigned 32 (clampFreq x))).rd (.tim .INTEG_I) = ofSigned 32 (clampFreq x) := by
    rw [Dev.rd_wr, if_pos rfl]
    exact Nat.mod_eq_of_lt (ofSigned_lt 32 _)
  have hparts : (Dev.wr { d with freeCount := c } (.tim .INTEG_I) (ofSigned 32 (clampFreq x))).tb = d.tb ∧
    (Dev.wr { d with freeCount := c } (.tim .INTEG_I) (ofSigned 32 (clampFreq x))).now = d.now ∧
    (Dev.wr { d with freeCount := c } (.tim .INTEG_I) (ofSigned 32 (clampFreq x))).tim = d.tim := ⟨rfl, rfl, rfl⟩
  generalize Dev.wr { d with freeCount := c } (.tim .INTEG_I) (ofSigned 32 (clampFreq x)) = g at *
  obtain ⟨hy, c2, hc2⟩ := g.roundDiv_effect (clampFreq x * 2 ^ g.rd (.tim .LOOP_KP_SHIFT) - e * 128) (Nat.two_pow_pos (g.rd (.tim .LOOP_KP_SHIFT)))
  generalize g.roundDiv (clampFreq x * 2 ^ g.rd (.tim .LOOP_KP_SHIFT) - e * 128) (2 ^ g.rd (.tim .LOOP_KP_SHIFT)) = p at *
  obtain ⟨y, q⟩ := p
  dsimp only at hy hc2 ⊢
  subst hc2
  rw [hkp] at hy
  obtain ⟨htb, hnow, htim⟩ := hparts
  refine ⟨(kept_freeCount hk c2).wr _ (by simp), htb, hnow, htim, x, y, hx, ?_, hy, ?_⟩
  · rw [Dev.setFreq, Dev.rd_wr, if_neg (by simp)]
    exact hi
  · rw [Dev.setFreq, Dev.rd_wr, if_pos rfl]
    exact Nat.mod_eq_of_lt (ofSigned_lt 32 _)

/-- The timebase stepped by the negation of a sample, rounded (R448). -/
def Dev.sampleStepped (d : Dev) (e : Int) : Dev := (d.roundDiv (-e) 2).2.stepTb (d.roundDiv (-e) 2).1

theorem sampleStepped_effect (g : Dev) (e : Int) :
    Kept [.tim .STATUS_STEPPED, .tim (.CNT_COUNT 0), .tim (.CNT_COUNT 1)] [.time, .tim, .irqs] g (g.sampleStepped e) ∧
    (g.sampleStepped e).now = g.now ∧
    (∃ n : Int, Nearest n (-e) 2 ∧ (0 ≤ (g.tb : Int) + n → ((g.sampleStepped e).tb : Int) = g.tb + n)) ∧
    ∃ a b, (g.sampleStepped e).tim = { g.tim with
      steps := a
      skew := b } := by
  obtain ⟨hn, c, hcf⟩ := g.roundDiv_effect (-e) (m := 2) (by omega)
  rw [Dev.sampleStepped, hcf]
  obtain ⟨hnow, htb, htim⟩ := Dev.stepTb_effect { g with freeCount := c } (g.roundDiv (-e) 2).1
  exact ⟨kept_stepTb (kept_freeCount (.refl g) c) _ (by simp) (by simp) (by simp) (by simp) (by simp) (by simp), hnow, ⟨_, hn, htb⟩, htim⟩

/-- A sample seen and acted upon, the state of the loop left (R448). -/
def Dev.sampleActed (d : Dev) (e : Int) : Dev :=
  if (d.sampleSeen e).loopState ≠ 1 ∧ (d.sampleSeen e).is (.tim .CTRL_STEP_EN) ∧ 2 * (d.sampleSeen e).rd (.tim .STEP_THR_NS) ≤ e.natAbs then
    (d.sampleSeen e).sampleStepped e
  else (d.sampleSeen e).integrate e

theorem sample_eq (d : Dev) (e : Int) (hold : Bool) : d.sample e hold = if hold then d.sampleActed e else (d.sampleActed e).loopUpdate e := by
  have h : d.sampleActed e = d.sample e true := by
    rw [Dev.sampleActed, Dev.sample, if_pos rfl]
    rfl
  cases hold with
  | true => rw [if_pos rfl, h]
  | false =>
    rw [if_neg Bool.false_ne_true, h, Dev.sample, Dev.sample, if_pos rfl]
    rfl

/-- The fields of a sample but for those of the loop's state (R448). -/
def actRegs : List Fld :=
  [.tim .LAST_E_E, .tim (.CNT_COUNT 6), .tim (.CNT_COUNT 0), .tim (.CNT_COUNT 1), .tim .INTEG_I, .tim .FREQ_ADJ_ADJ, .tim .STATUS_STEPPED]

theorem sampleActed_effect (d : Dev) (e : Int) :
    Kept actRegs [.time, .tim, .irqs] d (d.sampleActed e) ∧ Sampled d (d.sampleActed e) e ∧ (d.sampleActed e).now = d.now ∧
    ∃ a b, (d.sampleActed e).tim = { d.tim with
      steps := a
      skew := b } := by
  have hseen := kept_sampleSeen d e
  have hlast : (d.sampleSeen e).rd (.tim .LAST_E_E) = ofSigned 32 e := by
    rw [Dev.sampleSeen, Dev.rd_wr, if_pos rfl]
    exact Nat.mod_eq_of_lt (ofSigned_lt 32 e)
  have hcnt : Counts d (d.sampleSeen e) (.tim (.CNT_COUNT 6)) := by
    rw [Counts, Dev.sampleSeen, Dev.rd_wr, if_neg (by simp), Dev.rd_timCnt, if_pos rfl]
  have hrd := fun f h6 hl => rd_sampleSeen d e (f := f) h6 hl
  have hint := hrd (.tim .INTEG_I) (by simp) (by simp)
  have hfreq := hrd (.tim .FREQ_ADJ_ADJ) (by simp) (by simp)
  have hki := hrd (.tim .LOOP_KI_SHIFT) (by simp) (by simp)
  have hkp := hrd (.tim .LOOP_KP_SHIFT) (by simp) (by simp)
  have hcond : ((d.sampleSeen e).loopState ≠ 1 ∧ (d.sampleSeen e).is (.tim .CTRL_STEP_EN) ∧
      2 * (d.sampleSeen e).rd (.tim .STEP_THR_NS) ≤ e.natAbs) =
      (d.loopState ≠ 1 ∧ d.rd (.tim .CTRL_STEP_EN) ≠ 0 ∧ 2 * d.rd (.tim .STEP_THR_NS) ≤ e.natAbs) := by
    rw [Dev.loopState, Dev.is, hrd _ (by simp) (by simp), hrd _ (by simp) (by simp), hrd _ (by simp) (by simp), decide_eq_true_eq, Dev.loopState]
  have htb : (d.sampleSeen e).tb = d.tb := rfl
  have hnow : (d.sampleSeen e).now = d.now := rfl
  have htim : (d.sampleSeen e).tim = d.tim := rfl
  rw [Dev.sampleActed]
  simp only [hcond]
  generalize d.sampleSeen e = g at *
  by_cases hc : d.loopState ≠ 1 ∧ d.rd (.tim .CTRL_STEP_EN) ≠ 0 ∧ 2 * d.rd (.tim .STEP_THR_NS) ≤ e.natAbs
  · rw [if_pos hc]
    obtain ⟨hks, hnow', ⟨n, hn, htb'⟩, a, b, htim'⟩ := sampleStepped_effect g e
    generalize g.sampleStepped e = t at *
    rw [htb] at htb'
    refine ⟨(hseen.mono (by simp [actRegs]) (by simp)).trans (hks.mono (by simp [actRegs]) (fun _ h => h)), ⟨?_, ?_, fun _ => ⟨?_, ?_, n, hn, htb'⟩,
      fun h => absurd hc h⟩, hnow'.trans hnow, a, b, htim'.trans (by rw [htim])⟩
    · rw [hks.rd (by simp) rfl, hlast]
    · rw [Counts, hks.rd (by simp) rfl, hcnt]
    · rw [hks.rd (by simp) rfl, hint]
    · rw [hks.rd (by simp) rfl, hfreq]
  · rw [if_neg hc]
    obtain ⟨hki2, htb', hnow', htim', x, y, hx, hxi, hy, hyf⟩ := integrate_effect g e
    rw [hint, hki] at hx
    rw [hkp] at hy
    generalize g.integrate e = t at *
    refine ⟨(hseen.mono (by simp [actRegs]) (by simp)).trans (hki2.mono (by simp [actRegs]) (by simp)), ⟨?_, ?_, fun h => absurd h hc,
      fun _ => ⟨htb'.trans htb, x, y, hx, hxi, hy, hyf⟩⟩, hnow'.trans hnow, d.tim.steps, d.tim.skew, htim'.trans htim⟩
    · rw [hki2.rd (by simp) rfl, hlast]
    · rw [Counts, hki2.rd (by simp) rfl, hcnt]

/-! ### The state of the loop -/

/-- The fields of the loop's state (R449). -/
def stateRegs : List Fld := [.tim .STATUS_STATE, .tck .STATUS_SRC_STATE, .tim .STATUS_LOCK_CHG]

theorem kept_setSrcState (d : Dev) (x : Nat) : Kept stateRegs [.irqs] d (d.setSrcState x) :=
  .ite _ (fun _ => .refl d) fun _ => (((Kept.refl d).wr _ (by simp [stateRegs])).wr _ (by simp [stateRegs])).event _ _ (by simp [stateRegs]) (by simp)

theorem loopState_setSrcState (d : Dev) {x : Nat} (hx : x < 4) : (d.setSrcState x).loopState = x := by
  rw [Dev.setSrcState, Dev.loopState]
  split
  · next h => exact h
  · simp [Dev.wrs, Dev.rd_wr, Nat.mod_eq_of_lt hx]

/-- The samples in a row within LOCK_NS after another (R449). -/
def Dev.runAfter (d : Dev) (e : Int) : Nat := if e.natAbs ≤ 2 * d.rd (.tim .LOCK_LOCK_NS) then d.tim.run + 1 else 0

/-- A sample counted in its row (R449). -/
def Dev.runCounted (d : Dev) (e : Int) : Dev := { d with tim := { d.tim with
  run := d.runAfter e
  sampleAt := d.now } }

theorem loopUpdate_effect (d : Dev) (e : Int) :
    Kept stateRegs [.tim, .irqs] d (d.loopUpdate e) ∧
    (d.loopUpdate e).tim = { d.tim with
      run := d.runAfter e
      sampleAt := d.now } ∧
    (d.loopUpdate e).loopState = (if d.loopState = 1 then (if 16 * d.rd (.tim .LOCK_LOCK_NS) < e.natAbs then 0 else 1)
      else if d.rd (.tim .LOCK_LOCK_CNT) ≤ d.runAfter e then 1 else d.loopState) := by
  have hk : Kept stateRegs [.tim, .irqs] d (d.runCounted e) := (Kept.refl d).withTim _ (by simp)
  have hset := fun x => kept_setSrcState (d.runCounted e) x
  have htim : ∀ x, ((d.runCounted e).setSrcState x).tim = (d.runCounted e).tim := fun x => (hset x).same (x := .tim) (by simp)
  have heq : d.loopUpdate e = (if d.loopState = 1 then (if 16 * d.rd (.tim .LOCK_LOCK_NS) < e.natAbs then (d.runCounted e).setSrcState 0
      else d.runCounted e) else if d.rd (.tim .LOCK_LOCK_CNT) ≤ d.runAfter e then (d.runCounted e).setSrcState 1 else d.runCounted e) := rfl
  rw [heq]
  split_ifs with h1 h2 h3
  · exact ⟨hk.trans ((hset 0).mono (fun _ h => h) (by simp)), htim 0, loopState_setSrcState _ (by omega)⟩
  · exact ⟨hk, rfl, h1⟩
  · exact ⟨hk.trans ((hset 1).mono (fun _ h => h) (by simp)), htim 1, loopState_setSrcState _ (by omega)⟩
  · exact ⟨hk, rfl, rfl⟩

/-- A sample that drives the loop (R448, R449). -/
theorem sample_effect (d : Dev) (e : Int) :
    Kept sampleRegs [.time, .tim, .irqs] d (d.sample e false) ∧ Sampled d (d.sample e false) e ∧ Follows d (d.sample e false) e ∧
    (d.sample e false).now = d.now ∧
    ∃ a b r, (d.sample e false).tim = { d.tim with
      steps := a
      skew := b
      run := r
      sampleAt := d.now } := by
  obtain ⟨hka, hsam, hnow, a, b, htim⟩ := sampleActed_effect d e
  obtain ⟨hku, hut, hus⟩ := loopUpdate_effect (d.sampleActed e) e
  have hlock := hka.rd (f := .tim .LOCK_LOCK_NS) (by simp [actRegs]) rfl
  have hlcnt := hka.rd (f := .tim .LOCK_LOCK_CNT) (by simp [actRegs]) rfl
  have hstate : (d.sampleActed e).loopState = d.loopState := hka.rd (f := .tim .STATUS_STATE) (by simp [actRegs]) rfl
  obtain ⟨hunow, hutb, -⟩ : Part.Same _ _ .time := hku.same (by simp)
  rw [sample_eq, if_neg Bool.false_ne_true]
  generalize d.sampleActed e = g at *
  generalize g.loopUpdate e = t at *
  have hrun : g.runAfter e = if e.natAbs ≤ 2 * d.rd (.tim .LOCK_LOCK_NS) then d.tim.run + 1 else 0 := by
    rw [Dev.runAfter, hlock, htim]
  obtain ⟨hlast, hcnt, hstep, hint⟩ := hsam
  refine ⟨(hka.mono (by simp [actRegs, sampleRegs]) (fun _ h => h)).trans (hku.mono (by simp [stateRegs, sampleRegs]) (by simp)),
    ⟨?_, ?_, fun h => ?_, fun h => ?_⟩, ⟨?_, ?_, ?_⟩, hunow.trans hnow, a, b, g.runAfter e, by rw [hut, htim, hnow]⟩
  · rw [hku.rd (by simp [stateRegs]) rfl, hlast]
  · rw [Counts, hku.rd (by simp [stateRegs]) rfl, hcnt]
  · rw [hku.rd (by simp [stateRegs]) rfl, hku.rd (by simp [stateRegs]) rfl, hutb]
    exact hstep h
  · rw [hku.rd (by simp [stateRegs]) rfl, hku.rd (by simp [stateRegs]) rfl, hutb]
    exact hint h
  · rw [hut, hrun]
  · rw [hut, hnow]
  · rw [hus, hut, hstate, hlock, hlcnt]

theorem sampled_congr {d g t : Dev} {e : Int} (h : Sampled g t e) (hrd : ∀ f ∉ capRegs, isCount f = false → g.rd f = d.rd f) (htb : g.tb = d.tb) :
    Sampled d t e := by
  simp only [Sampled, Counts, Dev.loopState] at h ⊢
  rw [hrd _ (by simp [capRegs]) rfl, hrd _ (by simp [capRegs]) rfl, hrd _ (by simp [capRegs]) rfl, hrd _ (by simp [capRegs]) rfl,
    hrd _ (by simp [capRegs]) rfl, hrd _ (by simp [capRegs]) rfl, hrd _ (by simp [capRegs]) rfl, hrd _ (by simp [capRegs]) rfl, htb] at h
  exact h

theorem follows_congr {d g t : Dev} {e : Int} (h : Follows g t e) (hrd : ∀ f ∉ capRegs, isCount f = false → g.rd f = d.rd f) (hrun : g.tim.run = d.tim.run)
    (hnow : g.now = d.now) : Follows d t e := by
  have hstate : g.loopState = d.loopState := hrd _ (by simp [capRegs]) rfl
  rw [Follows, hrd (.tim .LOCK_LOCK_NS) (by simp [capRegs]) rfl, hrd (.tim .LOCK_LOCK_CNT) (by simp [capRegs]) rfl, hrun, hnow, hstate] at h
  exact h

/-! ### The commands -/

section
variable {s : State} (ha : Awake s)
include ha

theorem effect_timebaseStep {n : Int} (hn : n = toSigned 16 (s.dev.rd (.tim .STEP_SEC_SEC)) * 1000000000 + toSigned 32 (s.dev.rd (.tim .STEP_NS_NS))) :
    (0 ≤ (s.dev.tb : Int) + n →
      Effect .timebaseStep s [.tim .STATUS_STEPPED, .tim (.CNT_COUNT 0)] [.time, .tim, .irqs] (fun t =>
        (t.tb : Int) = s.dev.tb + n ∧ t.now = s.dev.now ∧ t.rd (.tim .STATUS_STEPPED) = 1 ∧ Counts s.dev t (.tim (.CNT_COUNT 0)))) ∧
    ((s.dev.tb : Int) + n < 0 →
      Effect .timebaseStep s [.tim (.CNT_COUNT 1)] [] (fun t => Counts s.dev t (.tim (.CNT_COUNT 1)))) := by
  have harg : ∀ e, Counted s.dev e → toSigned 16 (e.rd (.tim .STEP_SEC_SEC)) * 1000000000 + toSigned 32 (e.rd (.tim .STEP_NS_NS)) = n := fun e he => by
    rw [he.rd _ rfl, he.rd _ rfl, hn]
  refine ⟨fun h => .host (x := execTimebaseStep s) rfl rfl ha fun e he => ?_, fun h => .host (x := execTimebaseStep s) rfl rfl ha fun e he => ?_⟩
  · obtain ⟨hnow, htb, -⟩ : Part.Same _ _ .time := ((Kept.refl s.dev).counted (F := []) (P := []) he).same (by simp)
    have h0 := he.rd (.tim (.CNT_COUNT 0)) rfl
    rw [harg e he]
    rw [← htb] at h ⊢
    obtain ⟨hnow', htb', -⟩ := e.stepTb_effect n
    refine ⟨?_, htb' h, hnow'.trans hnow, ?_, ?_⟩
    · rw [Dev.stepTb_eq h]
      exact (kept_timEvent ((kept_tbMoved e n).mono (by simp) (by simp)) _ (by simp) (by simp)).inc (by simp)
    · rw [Dev.stepTb_eq h, Dev.rd_timCnt, if_neg (by simp), Dev.rd_timEvent _ _ _ rfl, if_pos rfl]
    · rw [Counts, Dev.stepTb_eq h, Dev.rd_timCnt, if_pos rfl, Dev.rd_timEvent _ _ _ rfl, if_neg (by simp), ← h0]
      rfl
  · obtain ⟨-, htb, -⟩ : Part.Same _ _ .time := ((Kept.refl s.dev).counted (F := []) (P := []) he).same (by simp)
    have h1 := he.rd (.tim (.CNT_COUNT 1)) rfl
    rw [harg e he, Dev.stepTb, if_pos (htb ▸ h)]
    exact ⟨(Kept.refl e).inc (by simp), by rw [Counts, Dev.rd_timCnt, if_pos rfl, h1]⟩

theorem effect_freqAdjWrite {value : BitVec 32} :
    (s.dev.rd (.tck .CTRL_SRC) ≠ 0 →
      Effect (.freqAdjWrite value) s [.tim (.CNT_COUNT 9)] [] (fun t => Counts s.dev t (.tim (.CNT_COUNT 9)))) ∧
    (s.dev.rd (.tck .CTRL_SRC) = 0 →
      Effect (.freqAdjWrite value) s [.tim .FREQ_ADJ_ADJ] [] (fun t =>
        t.rd (.tim .FREQ_ADJ_ADJ) = ofSigned 32 (max (-51200000) (min 51200000 value.toInt)))) := by
  refine ⟨fun h => .host (x := execFreqAdjWrite value s) rfl rfl ha fun e he => ?_,
    fun h => .host (x := execFreqAdjWrite value s) rfl rfl ha fun e he => ?_⟩
  · have h9 := he.rd (.tim (.CNT_COUNT 9)) rfl
    rw [if_pos (by rw [he.rd _ rfl]; exact h)]
    exact ⟨(Kept.refl e).inc (by simp), by rw [Counts, Dev.rd_timCnt, if_pos rfl, h9]⟩
  · rw [if_neg (by rw [he.rd _ rfl, h]; simp)]
    refine ⟨(Kept.refl e).wr _ (by simp), ?_⟩
    rw [Dev.setFreq, Dev.rd_wr, if_pos rfl]
    exact Nat.mod_eq_of_lt (ofSigned_lt 32 _)

theorem effect_timebaseRead {x : Nat} (h1 : x ≤ s.dev.tb) (h2 : s.dev.tb < x + 4) (h3 : ((x : Int) - s.dev.tim.steps) % 4 = 0) :
    Effect .timebaseRead s [.tim .NOW_NS_NS] [.out] (fun t =>
      t.out = s.dev.out ++ ([.readData (x / 1000000000 % 2 ^ 48) 8 0 false] : List Outbound) ∧ t.rd (.tim .NOW_NS_NS) = x % 1000000000) := by
  refine .host (x := execTimebaseRead s) rfl rfl ha fun e he => ?_
  have hk : Kept [] [] s.dev e := (Kept.refl s.dev).counted he
  obtain ⟨-, htb, -⟩ : Part.Same _ _ .time := hk.same (by simp)
  have htim : _ = _ := hk.same (x := .tim) (by simp)
  have hout : _ = _ := hk.same (x := .out) (by simp)
  have hedge : e.tbEdge = x := by
    rw [Dev.tbEdge, htb, htim]
    omega
  have hc : Counted ((e.wr (.tim .NOW_NS_NS) (x % 1000000000)).emit (.readData (x / 1000000000 % 2 ^ 48) 8 0 false)) (Dev.reply64 e.tbRead) := by
    rw [Dev.tbRead, hedge]
    exact .count _ _ _ _
  refine ⟨(((Kept.refl e).wr _ (by simp)).emitAside _ rfl (by simp)).counted hc, ?_, ?_⟩
  · have hco : Kept [] [] _ _ := (Kept.refl _).counted hc
    rw [show (Dev.reply64 e.tbRead).out = _ from hco.same (x := .out) (by simp), ← hout]
    rfl
  · rw [hc.rd _ rfl]
    show (e.wr (.tim .NOW_NS_NS) (x % 1000000000)).rd (.tim .NOW_NS_NS) = _
    rw [Dev.rd_wr, if_pos rfl]
    exact Nat.mod_eq_of_lt (by simp; omega)

omit ha in
theorem effect_anchorPublish (hs : s.held = false) : Effect .anchorPublish s [] [.tim] (fun t => t.tim = { s.dev.tim with skew := 0 }) :=
  .run (x := execAnchorPublish s) rfl rfl hs ⟨(Kept.refl _).withTim _ (by simp), rfl⟩

theorem effect_ptpSampleWrite {value : BitVec 32} :
    (s.dev.rd (.tck .CTRL_SRC) ≠ 1 →
      Effect (.ptpSampleWrite value) s [.tim (.CNT_COUNT 7)] [] (fun t => Counts s.dev t (.tim (.CNT_COUNT 7)))) ∧
    (s.dev.rd (.tck .CTRL_SRC) = 1 →
      Effect (.ptpSampleWrite value) s sampleRegs [.time, .tim, .irqs] (fun t =>
        Sampled s.dev t value.toInt ∧ Follows s.dev t value.toInt ∧ t.tim.steer = false ∧ t.now = s.dev.now)) := by
  refine ⟨fun h => .host (x := execPtpSampleWrite value s) rfl rfl ha fun e he => ?_,
    fun h => .host (x := execPtpSampleWrite value s) rfl rfl ha fun e he => ?_⟩
  · have h7 := he.rd (.tim (.CNT_COUNT 7)) rfl
    rw [if_pos (by rw [he.rd _ rfl]; exact h)]
    exact ⟨(Kept.refl e).inc (by simp), by rw [Counts, Dev.rd_timCnt, if_pos rfl, h7]⟩
  · rw [if_neg (by rw [he.rd _ rfl, h]; simp)]
    obtain ⟨hk, hsam, hfol, hnow, a, b, r, htim⟩ := sample_effect { e with tim := { e.tim with steer := false } } value.toInt
    have hks : Kept [] [] s.dev e := (Kept.refl s.dev).counted he
    obtain ⟨henow, hetb, -⟩ : Part.Same _ _ .time := hks.same (by simp)
    have hetim : _ = _ := hks.same (x := .tim) (by simp)
    have hrd : ∀ f ∉ capRegs, isCount f = false → Dev.rd { e with tim := { e.tim with steer := false } } f = s.dev.rd f := fun f _ hf => he.rd f hf
    generalize hd : ({ e with tim := { e.tim with steer := false } } : Dev) = d at *
    have hke : Kept [] [.tim] e d := hd ▸ (Kept.refl e).withTim _ (by simp)
    have hdrun : d.tim.run = s.dev.tim.run := by rw [← hetim, ← hd]
    have hdtb : d.tb = s.dev.tb := by rw [← hetb, ← hd]
    have hdnow : d.now = s.dev.now := by rw [← henow, ← hd]
    have hdsteer : d.tim.steer = false := by rw [← hd]
    generalize d.sample value.toInt false = t at *
    refine ⟨(hke.mono (by simp) (by simp)).trans hk, sampled_congr hsam hrd hdtb, follows_congr hfol hrd hdrun hdnow, ?_, hnow.trans hdnow⟩
    rw [htim, ← hdsteer]

/-! ### Timestamp records -/

/-- A record popped and its timestamp latched in the fields `fs` (R441). -/
theorem popsStamp_of {c : Sys2Proof.Instr} {p : Fin 4} {tx : Bool} {fifo : Port → List TsRec} {rest : Port → List TsRec → Port}
    {sec ns half : TimF} (hx : exec c s = s.host (fun d => Dev.reply64 (d.tsPop p tx)))
    (hregs : stampRegs p tx = [.tim sec, .tim ns, .tim half])
    (hempty : ∀ d : Dev, fifo (d.port p) = [] → d.tsPop p tx = (0, d))
    (hpop : ∀ (d : Dev) (r : TsRec) (rs : List TsRec), fifo (d.port p) = r :: rs →
      d.tsPop p tx = (r.word, (d.modPort p (fun x => rest x rs)).wrs [(.tim sec, r.sec), (.tim ns, r.ns), (.tim half, b2n r.half)]))
    (hsec : (Fld.tim sec).width = 48) (hns : (Fld.tim ns).width = 30) (hhalf : (Fld.tim half).width = 1) (h12 : sec ≠ ns) (h13 : sec ≠ half)
    (h23 : ns ≠ half) : PopsStamp c s p tx fifo rest := by
  have hreply : ∀ (v : Nat) (d : Dev), Counted (d.emit (.readData v 8 0 false)) (Dev.reply64 (v, d)) := fun v d => .count _ _ _ _
  refine ⟨fun h0 => .host (x := s.host (fun d => Dev.reply64 (d.tsPop p tx))) hx rfl ha fun e he => ?_,
    fun r rs hr => .host (x := s.host (fun d => Dev.reply64 (d.tsPop p tx))) hx rfl ha fun e he => ?_⟩
  · have hks : Kept [] [] s.dev e := (Kept.refl s.dev).counted he
    have hport : e.port p = s.dev.port p := congrArg (fun l => l.getD p.val {}) (hks.same (x := .ports) (by simp))
    have hout : _ = _ := hks.same (x := .out) (by simp)
    have hc := hreply 0 e
    have hco : Kept [] [] _ _ := (Kept.refl _).counted hc
    rw [hempty e (by rw [hport]; exact h0)]
    refine ⟨((Kept.refl e).emitAside _ rfl (by simp)).counted hc, ?_⟩
    rw [show (Dev.reply64 (0, e)).out = _ from hco.same (x := .out) (by simp), ← hout]
    rfl
  · have hks : Kept [] [] s.dev e := (Kept.refl s.dev).counted he
    have hports : e.ports = s.dev.ports := hks.same (x := .ports) (by simp)
    have hport : ∀ q, e.port q = s.dev.port q := fun q => congrArg (fun l => l.getD q {}) hports
    have hout : _ = _ := hks.same (x := .out) (by simp)
    rw [hpop e r rs (by rw [hport]; exact hr)]
    have hkw : Kept (stampRegs p tx) [.ports] e
        ((e.modPort p (fun x => rest x rs)).wrs [(.tim sec, r.sec), (.tim ns, r.ns), (.tim half, b2n r.half)]) := by
      rw [hregs]
      exact ((Kept.refl e).modPort _ _ (by simp)).wrs _ (by simp)
    have hwo : _ = _ := hkw.same (x := .out) (by simp)
    have hwp : ((e.modPort p (fun x => rest x rs)).wrs [(.tim sec, r.sec), (.tim ns, r.ns), (.tim half, b2n r.half)]).ports =
      (e.modPort p (fun x => rest x rs)).ports := rfl
    have hb : b2n r.half % 2 = b2n r.half := by cases r.half <;> rfl
    have hval : (stampRegs p tx).map ((e.modPort p (fun x => rest x rs)).wrs [(.tim sec, r.sec), (.tim ns, r.ns), (.tim half, b2n r.half)]).rd =
        [r.sec % 2 ^ 48, r.ns % 2 ^ 30, b2n r.half] := by
      rw [hregs]
      simp [Dev.wrs, Dev.rd_wr, hsec, hns, hhalf, h12, h13, h23, hb]
    generalize (e.modPort p (fun x => rest x rs)).wrs [(.tim sec, r.sec), (.tim ns, r.ns), (.tim half, b2n r.half)] = w at *
    have hc := hreply r.word w
    have hco : Kept [] [] _ _ := (Kept.refl _).counted hc
    have hcp : (Dev.reply64 (r.word, w)).ports = w.ports := hco.same (x := .ports) (by simp)
    have hpt := hcp.trans hwp
    have hpq : ∀ q, (Dev.reply64 (r.word, w)).port q = (e.modPort p (fun x => rest x rs)).port q := fun q =>
      congrArg (fun l => l.getD q {}) hpt
    refine ⟨((hkw.mono (fun _ h => h) (by simp)).emitAside _ rfl (by simp)).counted hc, ?_, ?_, fun q hq => ?_, ?_⟩
    · rw [show (Dev.reply64 (r.word, w)).out = _ from hco.same (x := .out) (by simp), ← hout, ← hwo]
      rfl
    · rw [hpq, Dev.port_modPort, if_pos ⟨rfl, p.isLt⟩, hport]
    · rw [hpq, Dev.port_modPort, if_neg (fun h => hq (Fin.ext h.1)), hport]
    · rw [← hval]
      refine List.map_congr_left fun f hf => ?_
      rw [hregs] at hf
      simp only [List.mem_cons, List.not_mem_nil, or_false] at hf
      rcases hf with rfl | rfl | rfl
      · exact hc.rd _ rfl
      · exact hc.rd _ rfl
      · exact hc.rd _ rfl

theorem popsStamp_rx {p : Fin 4} : PopsStamp (.rxTsPop p) s p false Port.rxTs (fun x r => { x with rxTs := r }) :=
  popsStamp_of ha (sec := .RXTS_SEC_SEC p) (ns := .RXTS_NS_NS p) (half := .RXTS_NS_HALF p) rfl rfl
    (fun d h => by simp only [Dev.tsPop, Bool.false_eq_true, if_false, h])
    (fun d r rs h => by simp only [Dev.tsPop, Bool.false_eq_true, if_false, h]) rfl rfl rfl (by simp) (by simp) (by simp)

theorem popsStamp_tx {p : Fin 4} : PopsStamp (.txTsPop p) s p true Port.txTs (fun x r => { x with txTs := r }) :=
  popsStamp_of ha (sec := .TXTS_SEC_SEC p) (ns := .TXTS_NS_NS p) (half := .TXTS_NS_HALF p) rfl rfl
    (fun d h => by simp only [Dev.tsPop, if_true, h]) (fun d r rs h => by simp only [Dev.tsPop, if_true, h]) rfl rfl rfl (by simp) (by simp) (by simp)

/-! ### Holdover -/

/-- The loop in HOLDOVER on its integrator (R449, R450). -/
def Dev.heldOver (d : Dev) : Dev := (d.setSrcState 2).setFreq (toSigned 32 (d.rd (.tim .INTEG_I)))

/-- PPS steering set and no sample in a row (R450). -/
def Dev.steering (d : Dev) : Dev := { d with tim := { d.tim with
  run := 0
  steer := true } }

omit ha in
theorem heldOver_effect {d : Dev} (h : d.loopState ≠ 2) :
    Kept (.tim .FREQ_ADJ_ADJ :: stateRegs) [.irqs] d d.heldOver ∧ d.heldOver.now = d.now ∧ d.heldOver.loopState = 2 ∧
    d.heldOver.rd (.tck .STATUS_SRC_STATE) = 2 ∧
    d.heldOver.rd (.tim .FREQ_ADJ_ADJ) = ofSigned 32 (max (-51200000) (min 51200000 (toSigned 32 (d.rd (.tim .INTEG_I))))) := by
  have hks := kept_setSrcState d 2
  have hstate := loopState_setSrcState d (x := 2) (by omega)
  have hsrc : (d.setSrcState 2).rd (.tck .STATUS_SRC_STATE) = 2 := by
    rw [Dev.setSrcState, if_neg (show d.rd (.tim .STATUS_STATE) ≠ 2 from h)]
    simp [Dev.wrs, Dev.rd_wr]
  obtain ⟨hnow, -⟩ : Part.Same _ _ .time := hks.same (by simp)
  rw [Dev.heldOver]
  generalize d.setSrcState 2 = g at *
  refine ⟨(hks.mono (by simp) (fun _ h => h)).wr _ (by simp), hnow, ?_, ?_, ?_⟩
  · rw [Dev.setFreq, Dev.loopState, Dev.rd_wr, if_neg (by simp)]
    exact hstate
  · rw [Dev.setFreq, Dev.rd_wr, if_neg (by simp), hsrc]
  · rw [Dev.setFreq, Dev.rd_wr, if_pos rfl]
    exact Nat.mod_eq_of_lt (ofSigned_lt 32 _)

omit ha in
/-- HOLDOVER entered from a device `d` that time alone has changed. -/
theorem effect_heldOver {d : Dev} {n : Nat} (hx : exec .holdoverEntry s = .next { s with dev := d.heldOver.steering })
    (hke : Kept [] timeParts s.dev d) (h1 : s.dev.loopState = 1) (hnow : d.now = n) :
    Effect .holdoverEntry s [.tim .STATUS_STATE, .tck .STATUS_SRC_STATE, .tim .STATUS_LOCK_CHG, .tim .FREQ_ADJ_ADJ]
      (.tim :: .irqs :: timeParts) (fun t => t.now = n ∧ t.loopState = 2 ∧ t.rd (.tck .STATUS_SRC_STATE) = 2 ∧
        t.rd (.tim .FREQ_ADJ_ADJ) = ofSigned 32 (max (-51200000) (min 51200000 (toSigned 32 (s.dev.rd (.tim .INTEG_I)))))) := by
  have hstate : d.loopState ≠ 2 := by
    rw [Dev.loopState, hke.rd (by simp) rfl, ← Dev.loopState, h1]
    decide
  have hint : d.rd (.tim .INTEG_I) = s.dev.rd (.tim .INTEG_I) := hke.rd (by simp) rfl
  obtain ⟨hk, hhnow, hs2, hsrc, hfreq⟩ := heldOver_effect hstate
  rw [hint] at hfreq
  have hkd : Kept (.tim .FREQ_ADJ_ADJ :: stateRegs) (.tim :: .irqs :: timeParts) s.dev d := hke.mono (List.nil_subset _) fun _ h => by simp [h]
  have hkt : Kept (.tim .FREQ_ADJ_ADJ :: stateRegs) (.tim :: .irqs :: timeParts) s.dev d.heldOver.steering :=
    (hkd.trans (hk.mono (fun _ h => h) (by simp))).withTim _ (by simp)
  exact .of_next hx (hkt.mono (by simp [stateRegs]) (fun _ h => h)) ⟨hhnow.trans hnow, hs2, hsrc, hfreq⟩

omit ha in
theorem effect_holdoverEntry (hs : s.held = false) (h1 : s.dev.loopState = 1) :
    Effect .holdoverEntry s [.tim .STATUS_STATE, .tck .STATUS_SRC_STATE, .tim .STATUS_LOCK_CHG, .tim .FREQ_ADJ_ADJ]
      (.tim :: .irqs :: timeParts) (fun t =>
        t.now = max s.dev.now (s.dev.tim.sampleAt + s.dev.rd (.tim .LOCK_LOSS) * 100000000) ∧ t.loopState = 2 ∧
        t.rd (.tck .STATUS_SRC_STATE) = 2 ∧
        t.rd (.tim .FREQ_ADJ_ADJ) = ofSigned 32 (max (-51200000) (min 51200000 (toSigned 32 (s.dev.rd (.tim .INTEG_I)))))) := by
  have hx : exec .holdoverEntry s = .next { s with dev := (Dev.heldOver (s.dev.elapse
      (s.dev.tim.sampleAt + s.dev.rd (.tim .LOCK_LOSS) * 100000000 - s.dev.now))).steering } := by
    show execHoldoverEntry s = _
    rw [execHoldoverEntry, State.runTim_live s _ hs, if_neg (not_not.mpr h1)]
    rfl
  refine effect_heldOver hx (kept_elapse _ _ _ _ fun _ h => h) h1 ?_
  rw [Dev.elapse_now]
  omega

end

/-- Settles O39. -/
theorem timebaseAndDiscipline : Obligations.TimebaseAndDiscipline := by
  unfold Obligations.TimebaseAndDiscipline
  intro s p value n ha hn
  obtain ⟨hstep, hneg⟩ := effect_timebaseStep ha hn
  obtain ⟨hrefused, hclamped⟩ := effect_freqAdjWrite ha (value := value)
  obtain ⟨hdiscard, hsample⟩ := effect_ptpSampleWrite ha (value := value)
  exact ⟨hstep, hneg, hrefused, hclamped, fun x h1 h2 h3 => effect_timebaseRead ha h1 h2 h3, effect_anchorPublish ha.1,
    popsStamp_rx ha, popsStamp_tx ha, hdiscard, hsample, effect_holdoverEntry ha.1⟩

end Sys2Proof.Machine
end

section
-- The theorems are elaborated in order, which keeps the memory that a check of the whole text takes within its limit.
set_option Elab.async false

/-! SUPPORT.  The PPS input and output, and the time of day (R443 to R447). -/

namespace Sys2Proof.Machine

open Sys2Proof.Safety Sys2Proof.Claims

@[simp] theorem capSec_width : (Fld.tim .PPS_CAP_SEC_SEC).width = 48 := rfl
@[simp] theorem capNs_width : (Fld.tim .PPS_CAP_NS_NS).width = 30 := rfl
@[simp] theorem capHalf_width : (Fld.tim .PPS_CAP_NS_HALF).width = 1 := rfl
@[simp] theorem capValid_width : (Fld.tim .PPS_CAP_NS_VALID).width = 1 := rfl
@[simp] theorem ppsBias_width : (Fld.tim .PPS_BIAS_BIAS).width = 32 := rfl
@[simp] theorem todSec_width : (Fld.tim .TOD_SEC).width = 48 := rfl

/-! ### Stamps and captures -/

/-- The error of a stamp takes one free value (R438). -/
theorem Dev.stampError_effect (d : Dev) (k : Nat) :
    (∃ c, (d.stampError k).2 = { d with freeCount := c }) ∧
    (bitAt (d.rd (.cal .AGE_STATUS_OVERDUE)) k = false → almPend (d.alm k) = false → -4 ≤ (d.stampError k).1 ∧ (d.stampError k).1 ≤ 4) := by
  have hover : d.fresh.2.rd (.cal .AGE_STATUS_OVERDUE) = d.rd (.cal .AGE_STATUS_OVERDUE) := rfl
  have halm : d.fresh.2.alm k = d.alm k := rfl
  refine ⟨⟨d.freeCount + 1, ?_⟩, fun h1 h2 => ?_⟩
  · rw [Dev.stampError]
    dsimp only
    split
    · rfl
    · rfl
  · rw [Dev.stampError]
    simp only [hover, halm, h1, h2, Bool.false_eq_true, or_self, if_false]
    omega

/-- The whole second nearest a stamp in half nanoseconds, and the distance from it (R447). -/
def stampSec (stamp : Nat) : Nat := (stamp + 1000000000) / 2000000000
def stampPhase (stamp : Nat) : Int := (stamp : Int) - (stampSec stamp : Int) * 2000000000

/-- A stamp captured (R443). -/
def Dev.ppsCaptured (d : Dev) (stamp : Nat) : Dev := { d.wrs [(.tim .PPS_CAP_SEC_SEC, stamp / 2000000000),
    (.tim .PPS_CAP_NS_NS, stamp % 2000000000 / 2), (.tim .PPS_CAP_NS_HALF, stamp % 2), (.tim .PPS_CAP_NS_VALID, 1)] with
  tim := { d.tim with
    edgeAt := d.now
    edgeSec := stampSec stamp } }

/-- A stamp's capture as the fields show it (R443). -/
def CapturedAt (t : Dev) (stamp : Nat) : Prop :=
  t.rd (.tim .PPS_CAP_SEC_SEC) = stamp / 2000000000 % 2 ^ 48 ∧ t.rd (.tim .PPS_CAP_NS_NS) = stamp % 2000000000 / 2 ∧
  t.rd (.tim .PPS_CAP_NS_HALF) = stamp % 2 ∧ t.rd (.tim .PPS_CAP_NS_VALID) = 1

theorem ppsCaptured_effect (d : Dev) (stamp : Nat) :
    Kept capRegs [.tim] d (d.ppsCaptured stamp) ∧ CapturedAt (d.ppsCaptured stamp) stamp := by
  have hns : stamp % 2000000000 / 2 % 2 ^ 30 = stamp % 2000000000 / 2 := Nat.mod_eq_of_lt (by omega)
  refine ⟨((Kept.refl d).wrs _ (by simp [capRegs])).withTim _ (by simp), ?_⟩
  have h : ∀ f, (d.ppsCaptured stamp).rd f = (d.wrs [(.tim .PPS_CAP_SEC_SEC, stamp / 2000000000),
    (.tim .PPS_CAP_NS_NS, stamp % 2000000000 / 2), (.tim .PPS_CAP_NS_HALF, stamp % 2), (.tim .PPS_CAP_NS_VALID, 1)]).rd f := fun _ => rfl
  refine ⟨?_, ?_, ?_, ?_⟩
  · rw [h]
    simp [Dev.wrs, Dev.rd_wr]
  · rw [h, ← hns]
    simp [Dev.wrs, Dev.rd_wr]
  · rw [h]
    simp [Dev.wrs, Dev.rd_wr]
  · rw [h]
    simp [Dev.wrs, Dev.rd_wr]

theorem capturedAt_congr {d t : Dev} {stamp : Nat} {F : List Fld} {P : List Part} (h : CapturedAt d stamp) (hk : Kept F P d t)
    (hF : ∀ f ∈ F, f ∉ capRegs) : CapturedAt t stamp := by
  have hrd : ∀ f ∈ capRegs, isCount f = false → t.rd f = d.rd f := fun f hf hc => hk.rd (fun hm => hF f hm hf) hc
  rw [CapturedAt, hrd _ (by simp [capRegs]) rfl, hrd _ (by simp [capRegs]) rfl, hrd _ (by simp [capRegs]) rfl, hrd _ (by simp [capRegs]) rfl]
  exact h

theorem phaseOf_of_captured {t : Dev} {stamp : Nat} (h : CapturedAt t stamp) : PhaseOf t (stampPhase stamp) := by
  obtain ⟨hsec, hns, hhalf, -⟩ := h
  have hs : (stampSec stamp : Int) * 2000000000 ≤ stamp + 1000000000 ∧ (stamp : Int) + 1000000000 < (stampSec stamp : Int) * 2000000000 + 2000000000 := by
    rw [stampSec]
    omega
  refine ⟨by rw [stampPhase]; omega, by rw [stampPhase]; omega, (stampSec stamp : Int) - 2 ^ 48 * (stamp / 2000000000 / 2 ^ 48 : Nat), ?_⟩
  rw [hsec, hns, hhalf, stampPhase]
  omega

/-! ### A valid edge -/

/-- The bias of PPS drawn toward the difference of the sources (R450). -/
def Dev.biased (d : Dev) (e bias : Int) : Dev :=
  (d.roundDiv (bias * 16 + (e - bias)) 16).2.wr (.tim .PPS_BIAS_BIAS) (ofSigned 32 (d.roundDiv (bias * 16 + (e - bias)) 16).1)

theorem biased_effect (d : Dev) (e bias : Int) :
    Kept [.tim .PPS_BIAS_BIAS] [] d (d.biased e bias) ∧ (d.biased e bias).tim = d.tim ∧
    ∃ b : Int, Nearest b (bias * 16 + (e - bias)) 16 ∧ (d.biased e bias).rd (.tim .PPS_BIAS_BIAS) = ofSigned 32 b := by
  obtain ⟨hn, c, hc⟩ := d.roundDiv_effect (bias * 16 + (e - bias)) (m := 16) (by omega)
  rw [Dev.biased, hc]
  refine ⟨(kept_freeCount (.refl d) c).wr _ (by simp), rfl, _, hn, ?_⟩
  rw [Dev.rd_wr, if_pos rfl]
  exact Nat.mod_eq_of_lt (ofSigned_lt 32 _)

/-- What a captured edge does (R447, R450). -/
def Dev.ppsActed (d : Dev) (e : Int) : Dev :=
  if d.rd (.tck .CTRL_SRC) = 2 then d.sample e false
  else if d.rd (.tck .CTRL_SRC) = 1 ∧ d.is (.tim .CTRL_HOLD_PPS) then
    if d.loopState = 1 then d.biased e (toSigned 32 (d.rd (.tim .PPS_BIAS_BIAS)))
    else if d.loopState = 2 ∧ d.tim.steer then d.sample (e - toSigned 32 (d.rd (.tim .PPS_BIAS_BIAS))) true else d
  else d

theorem ppsValid_eq (d : Dev) (stamp : Nat) : d.ppsValid stamp = (d.ppsCaptured stamp).ppsActed (stampPhase stamp) := rfl

/-- A device about to take a valid edge at `u`. -/
def Dev.ppsEdged (d : Dev) (c : Nat) (u : Int) : Dev := { d with
  freeCount := c
  tim := { d.tim with edge := some u } }

theorem kept_ppsEdged (d : Dev) (c : Nat) (u : Int) : Kept [] [.tim] d (d.ppsEdged c u) :=
  (kept_freeCount (.refl d) c).withTim { d.tim with edge := some u } (by simp)

/-- PPS is lost (R443). -/
theorem ppsLost_effect (d : Dev) : d.ppsLost.rd (.tim .STATUS_PPS_LOST) = 1 ∧ d.ppsLost.tim.edge = none := by
  obtain ⟨-, -, htim⟩ := Dev.same_event { d with tim := { d.tim with edge := none } } (.tim .STATUS_PPS_LOST) (.tim .CTRL_IRQ_EN) 11
  refine ⟨?_, ?_⟩
  · rw [Dev.ppsLost, Dev.rd_timEvent _ _ _ rfl, if_pos rfl]
  · rw [Dev.ppsLost, Dev.timEvent, htim]

/-- A device that has captured an edge: what it shows, and what it has of the device before. -/
theorem ppsEdged_captured (d : Dev) (c : Nat) (u : Int) (stamp : Nat) :
    Kept capRegs [.tim] d ((d.ppsEdged c u).ppsCaptured stamp) ∧ CapturedAt ((d.ppsEdged c u).ppsCaptured stamp) stamp ∧
    ((d.ppsEdged c u).ppsCaptured stamp).tim = { d.tim with
      edge := some u
      edgeAt := d.now
      edgeSec := stampSec stamp } := by
  obtain ⟨hk, hc⟩ := ppsCaptured_effect (d.ppsEdged c u) stamp
  exact ⟨((kept_ppsEdged d c u).mono (by simp) (fun _ h => h)).trans hk, hc, rfl⟩

theorem captured_of {d t : Dev} {half stamp : Nat} {err : Int}
    (he : bitAt (d.rd (.cal .AGE_STATUS_OVERDUE)) 12 = false → almPend (d.alm 12) = false → -4 ≤ err ∧ err ≤ 4)
    (hs : stamp = (2 * (d.tb : Int) + half + err).toNat) (hc : CapturedAt t stamp) (hat : t.tim.edgeAt = d.now)
    (hsec : t.tim.edgeSec = stampSec stamp) : Captured d t half := by
  obtain ⟨h1, h2, h3, h4⟩ := hc
  exact ⟨stamp, err, he, hs, h1, h2, h3, h4, hat, hsec⟩

section
variable {s : State} {after : Nat} (hs : s.held = false)
include hs

theorem effect_ppsInEdge_off (h : s.dev.rd (.tim .PPS_CTRL_IN_EN) = 0) :
    Effect (.ppsInEdge after) s [] timeParts (fun t => t.now = s.dev.now + after / 2) := by
  have hin : (s.dev.elapse (after / 2)).is (.tim .PPS_CTRL_IN_EN) = false := by
    rw [Dev.is, Dev.rd_elapse _ _ _ rfl, h]
    rfl
  have hx : exec (.ppsInEdge after) s = .next { s with dev := s.dev.elapse (after / 2) } := by
    show execPpsInEdge after s = _
    rw [execPpsInEdge, State.runTim_live s _ hs]
    simp only [hin, Bool.not_false, if_true]
  exact .of_next hx (kept_elapse _ _ _ _ fun _ h => h) (Dev.elapse_now _ _)

variable {d : Dev} {u : Int} (hon : s.dev.rd (.tim .PPS_CTRL_IN_EN) ≠ 0) (hd : d = s.dev.elapse (after / 2))
  (hu : u = 2 * ((d.tb : Int) - d.tim.steps) + (after % 2 : Nat))
include hon hd

omit hs hon in
theorem kept_of_elapsed : Kept [] timeParts s.dev d := hd ▸ kept_elapse _ _ _ _ fun _ h => h

omit hs in
theorem in_of_elapsed : d.is (.tim .PPS_CTRL_IN_EN) = true := by
  rw [Dev.is, (kept_of_elapsed hd).rd (by simp) rfl]
  simpa using hon

include hu

theorem exec_ppsInEdge_valid (hgap : ∀ x, d.tim.edge = some x → 1998000000 ≤ u - x ∧ u - x ≤ 2002000000) :
    ∃ (c : Nat) (err : Int), (bitAt (d.rd (.cal .AGE_STATUS_OVERDUE)) 12 = false → almPend (d.alm 12) = false → -4 ≤ err ∧ err ≤ 4) ∧
      exec (.ppsInEdge after) s = .next { s with dev := (d.ppsEdged c u).ppsValid (2 * (d.tb : Int) + (after % 2 : Nat) + err).toNat } := by
  have hin := in_of_elapsed hon hd
  obtain ⟨⟨c, hc⟩, herr⟩ := d.stampError_effect 12
  refine ⟨c, (d.stampError 12).1, herr, ?_⟩
  show execPpsInEdge after s = _
  rw [execPpsInEdge, State.runTim_live s _ hs, ← hd]
  simp only [hin, Bool.not_true, Bool.false_eq_true, if_false, hc, ← hu]
  cases he : d.tim.edge with
  | none =>
    simp only [Option.any_none, Bool.false_eq_true, if_false, he, Option.map_none, if_true]
    rfl
  | some x =>
    obtain ⟨h1, h2⟩ := hgap x he
    have hl : ¬(3000000000 < u - x) := by omega
    simp only [Option.any_some, hl, decide_false, Bool.false_eq_true, if_false, he, Option.map_some, h1, h2, decide_true, Bool.and_self, if_true]
    rfl

theorem exec_ppsInEdge_off {x : Int} {k : Nat} (he : d.tim.edge = some x) (hl : ¬(3000000000 < u - x))
    (hv : ¬(1998000000 ≤ u - x ∧ u - x ≤ 2002000000)) (hk : k = if u - x < 2000000 then 2 else 8) :
    ∃ c, exec (.ppsInEdge after) s = .next { s with dev := Dev.timCnt { d with freeCount := c } k } := by
  have hin := in_of_elapsed hon hd
  obtain ⟨⟨c, hc⟩, -⟩ := d.stampError_effect 12
  refine ⟨c, ?_⟩
  have hvb : (decide (1998000000 ≤ u - x) && decide (u - x ≤ 2002000000)) = false := by
    rw [← Bool.decide_and]
    exact decide_eq_false hv
  show execPpsInEdge after s = _
  rw [execPpsInEdge, State.runTim_live s _ hs, ← hd]
  simp only [hin, Bool.not_true, Bool.false_eq_true, if_false, hc, ← hu, he, Option.any_some, hl, decide_false, Option.map_some, hvb, ← hk]

theorem exec_ppsInEdge_lost {x : Int} (he : d.tim.edge = some x) (hl : 3000000000 < u - x) :
    ∃ (g : Dev) (stamp : Nat), g.rd (.tim .STATUS_PPS_LOST) = 1 ∧
      exec (.ppsInEdge after) s = .next { s with dev := (g.ppsEdged g.freeCount u).ppsValid stamp } := by
  have hin := in_of_elapsed hon hd
  obtain ⟨⟨c, hc⟩, -⟩ := d.stampError_effect 12
  obtain ⟨hlost, hedge⟩ := ppsLost_effect { d with freeCount := c }
  refine ⟨Dev.ppsLost { d with freeCount := c }, (2 * ((Dev.ppsLost { d with freeCount := c }).tb : Int) + (after % 2 : Nat) + (d.stampError 12).1).toNat,
    hlost, ?_⟩
  show execPpsInEdge after s = _
  rw [execPpsInEdge, State.runTim_live s _ hs, ← hd]
  simp only [hin, Bool.not_true, Bool.false_eq_true, if_false, hc, ← hu, he, Option.any_some, hl, decide_true, if_true]
  generalize Dev.ppsLost { d with freeCount := c } = g at *
  simp only [hedge, Option.map_none, if_true]
  rfl

end

/-! ### What an edge does -/

theorem ppsActed_kept (d : Dev) (e : Int) :
    Kept (.tim .PPS_BIAS_BIAS :: sampleRegs) [.time, .tim, .irqs] d (d.ppsActed e) ∧ (d.ppsActed e).tim.edge = d.tim.edge := by
  obtain ⟨hks, -, -, -, a, b, r, htim⟩ := sample_effect d e
  obtain ⟨hkb, htb, -⟩ := biased_effect d e (toSigned 32 (d.rd (.tim .PPS_BIAS_BIAS)))
  obtain ⟨hka, -, -, a2, b2, htim2⟩ := sampleActed_effect d (e - toSigned 32 (d.rd (.tim .PPS_BIAS_BIAS)))
  rw [Dev.ppsActed]
  split_ifs
  · exact ⟨hks.mono (by simp) (fun _ h => h), by rw [htim]⟩
  · exact ⟨hkb.mono (by simp) (by simp), by rw [htb]⟩
  · rw [sample_eq, if_pos rfl]
    exact ⟨hka.mono (by simp [actRegs, sampleRegs]) (fun _ h => h), by rw [htim2]⟩
  · exact ⟨.refl d, rfl⟩
  · exact ⟨.refl d, rfl⟩

section
variable {s : State} {after : Nat} (hs : s.held = false) {d : Dev} {u : Int} (hon : s.dev.rd (.tim .PPS_CTRL_IN_EN) ≠ 0)
  (hd : d = s.dev.elapse (after / 2)) (hu : u = 2 * ((d.tb : Int) - d.tim.steps) + (after % 2 : Nat))
include hs hon hd hu

theorem completes_ppsInEdge_lost {x : Int} (he : d.tim.edge = some x) (hl : 3000000000 < u - x) :
    Completes (.ppsInEdge after) s (fun t => t.rd (.tim .STATUS_PPS_LOST) = 1 ∧ t.tim.edge = some u) := by
  obtain ⟨g, stamp, hlost, hx⟩ := exec_ppsInEdge_lost hs hon hd hu he hl
  obtain ⟨hkc, -, htim⟩ := ppsEdged_captured g g.freeCount u stamp
  obtain ⟨hka, hedge⟩ := ppsActed_kept ((g.ppsEdged g.freeCount u).ppsCaptured stamp) (stampPhase stamp)
  rw [ppsValid_eq] at hx
  refine ⟨_, hx, rfl, rfl, ?_, ?_⟩
  · show Dev.rd _ _ = _
    rw [hka.rd (by simp [sampleRegs]) rfl, hkc.rd (by simp [capRegs]) rfl, hlost]
  · show Tim.edge _ = _
    rw [hedge, htim]

omit hu hd hs hon in
theorem counts_timCnt (d : Dev) (c k : Nat) : Kept [.tim (.CNT_COUNT k)] [] d (Dev.timCnt { d with freeCount := c } k) ∧
    Counts d (Dev.timCnt { d with freeCount := c } k) (.tim (.CNT_COUNT k)) := by
  refine ⟨(kept_freeCount (.refl d) c).inc (by simp), ?_⟩
  rw [Counts, Dev.rd_timCnt, if_pos rfl]
  rfl

theorem effect_ppsInEdge_off_window {x : Int} {k : Nat} (he : d.tim.edge = some x) (hl : ¬(3000000000 < u - x))
    (hv : ¬(1998000000 ≤ u - x ∧ u - x ≤ 2002000000)) (hk : k = if u - x < 2000000 then 2 else 8) :
    Effect (.ppsInEdge after) s [.tim (.CNT_COUNT k)] timeParts (fun t => Counts s.dev t (.tim (.CNT_COUNT k))) := by
  obtain ⟨c, hx⟩ := exec_ppsInEdge_off hs hon hd hu he hl hv hk
  obtain ⟨hkc, hcnt⟩ := counts_timCnt d c k
  have hke := kept_of_elapsed hd
  have hrd : d.rd (.tim (.CNT_COUNT k)) = s.dev.rd (.tim (.CNT_COUNT k)) := hke.rd (by simp) rfl
  rw [Counts, hrd] at hcnt
  exact .of_next hx ((hke.mono (List.nil_subset _) (fun _ h => h)).trans (hkc.mono (fun _ h => h) (List.nil_subset _))) hcnt

variable (hgap : ∀ x, d.tim.edge = some x → 1998000000 ≤ u - x ∧ u - x ≤ 2002000000)
include hgap

/-- A valid edge: the device that has captured it, `g`, with its stamp; the device acts on it (R443). -/
theorem valid_edge : ∃ (g : Dev) (stamp : Nat) (err : Int),
    exec (.ppsInEdge after) s = .next { s with dev := g.ppsActed (stampPhase stamp) } ∧
    Kept capRegs (.tim :: timeParts) s.dev g ∧ CapturedAt g stamp ∧ Kept capRegs [.tim] d g ∧
    (bitAt (d.rd (.cal .AGE_STATUS_OVERDUE)) 12 = false → almPend (d.alm 12) = false → -4 ≤ err ∧ err ≤ 4) ∧
    stamp = (2 * (d.tb : Int) + (after % 2 : Nat) + err).toNat ∧
    g.tim = { d.tim with
      edge := some u
      edgeAt := d.now
      edgeSec := stampSec stamp } := by
  obtain ⟨c, err, herr, hx⟩ := exec_ppsInEdge_valid hs hon hd hu hgap
  obtain ⟨hk, hc, htim⟩ := ppsEdged_captured d c u (2 * (d.tb : Int) + (after % 2 : Nat) + err).toNat
  rw [ppsValid_eq] at hx
  exact ⟨_, _, err, hx, ((kept_of_elapsed hd).mono (List.nil_subset _) (fun _ h => by simp [h])).trans (hk.mono (fun _ h => h) (by simp)), hc, hk,
    herr, rfl, htim⟩

theorem effect_ppsInEdge_captured (hsrc : s.dev.rd (.tck .CTRL_SRC) = 0 ∨ (s.dev.rd (.tck .CTRL_SRC) = 1 ∧ s.dev.rd (.tim .CTRL_HOLD_PPS) = 0)) :
    Effect (.ppsInEdge after) s capRegs (.tim :: timeParts) (fun t => Captured d t (after % 2) ∧ t.tim.edge = some u) := by
  obtain ⟨g, stamp, err, hx, hk, hc, hkd, herr, hstamp, htim⟩ := valid_edge hs hon hd hu hgap
  have hsg : g.rd (.tck .CTRL_SRC) = s.dev.rd (.tck .CTRL_SRC) := hk.rd (by simp [capRegs]) rfl
  have hhold : g.is (.tim .CTRL_HOLD_PPS) = s.dev.is (.tim .CTRL_HOLD_PPS) := Dev.is_congr (hk.rd (by simp [capRegs]) rfl)
  have hact : g.ppsActed (stampPhase stamp) = g := by
    rw [Dev.ppsActed, hsg, hhold]
    rcases hsrc with h | ⟨h, h0⟩
    · simp [h]
    · simp [h, Dev.is, h0]
  rw [hact] at hx
  exact .of_next hx hk ⟨captured_of herr hstamp hc (by rw [htim]) (by rw [htim]), by rw [htim]⟩

theorem effect_ppsInEdge_sample (hsrc : s.dev.rd (.tck .CTRL_SRC) = 2) :
    Effect (.ppsInEdge after) s (capRegs ++ sampleRegs) (.tim :: .irqs :: timeParts) (fun t => Captured d t (after % 2) ∧
      t.tim.edge = some u ∧ ∃ e : Int, PhaseOf t e ∧ Sampled d t e ∧ Follows d t e) := by
  obtain ⟨g, stamp, err, hx, hk, hc, hkd, herr, hstamp, htim⟩ := valid_edge hs hon hd hu hgap
  have hsg : g.rd (.tck .CTRL_SRC) = s.dev.rd (.tck .CTRL_SRC) := hk.rd (by simp [capRegs]) rfl
  have hact : g.ppsActed (stampPhase stamp) = g.sample (stampPhase stamp) false := by rw [Dev.ppsActed, if_pos (hsg.trans hsrc)]
  obtain ⟨hks, hsam, hfol, hnow, a, b, r, htim2⟩ := sample_effect g (stampPhase stamp)
  obtain ⟨hgnow, hgtb, -⟩ : Part.Same _ _ .time := hkd.same (by simp)
  have hrd : ∀ f ∉ capRegs, isCount f = false → g.rd f = d.rd f := fun f hf hc => hkd.rd hf hc
  rw [hact] at hx
  generalize g.sample (stampPhase stamp) false = t at *
  have hct : CapturedAt t stamp := capturedAt_congr hc hks (by simp [sampleRegs, capRegs])
  refine .of_next hx ((hk.mono (List.subset_append_left _ _) (by simp)).trans (hks.mono (List.subset_append_right _ _) (by simp [timeParts])))
    ⟨captured_of herr hstamp hct (by rw [htim2, htim]) (by rw [htim2, htim]), by rw [htim2, htim], stampPhase stamp, phaseOf_of_captured hct,
      sampled_congr hsam hrd hgtb, follows_congr hfol hrd (by rw [htim]) hgnow⟩

variable (hsrc : s.dev.rd (.tck .CTRL_SRC) = 1) (hhold : s.dev.rd (.tim .CTRL_HOLD_PPS) ≠ 0) {bias : Int}
  (hb : bias = toSigned 32 (s.dev.rd (.tim .PPS_BIAS_BIAS)))
include hsrc hhold hb

omit hs hon hd hu hgap in
theorem ppsActed_steering {g : Dev} (hk : Kept capRegs (.tim :: timeParts) s.dev g) (e : Int) : g.ppsActed e =
    if s.dev.loopState = 1 then g.biased e bias else if s.dev.loopState = 2 ∧ g.tim.steer then g.sample (e - bias) true else g := by
  have hsg : g.rd (.tck .CTRL_SRC) = 1 := (hk.rd (by simp [capRegs]) rfl).trans hsrc
  have hh : g.is (.tim .CTRL_HOLD_PPS) = true := by
    rw [Dev.is, hk.rd (by simp [capRegs]) rfl]
    simpa using hhold
  have hl : g.loopState = s.dev.loopState := hk.rd (by simp [capRegs]) rfl
  have hbias : g.rd (.tim .PPS_BIAS_BIAS) = s.dev.rd (.tim .PPS_BIAS_BIAS) := hk.rd (by simp [capRegs]) rfl
  rw [Dev.ppsActed, if_neg (by rw [hsg]; decide), if_pos ⟨hsg, hh⟩, hl, hbias, ← hb]

theorem effect_ppsInEdge_bias (hl : s.dev.loopState = 1) :
    Effect (.ppsInEdge after) s (.tim .PPS_BIAS_BIAS :: capRegs) (.tim :: timeParts) (fun t => Captured d t (after % 2) ∧
      ∃ e b : Int, PhaseOf t e ∧ Nearest b (bias * 16 + (e - bias)) 16 ∧ t.rd (.tim .PPS_BIAS_BIAS) = ofSigned 32 b) := by
  obtain ⟨g, stamp, err, hx, hk, hc, hkd, herr, hstamp, htim⟩ := valid_edge hs hon hd hu hgap
  rw [ppsActed_steering hsrc hhold hb hk, if_pos hl] at hx
  obtain ⟨hkb, htb, b, hn, hbias⟩ := biased_effect g (stampPhase stamp) bias
  generalize g.biased (stampPhase stamp) bias = t at *
  have hct : CapturedAt t stamp := capturedAt_congr hc hkb (by simp [capRegs])
  exact .of_next hx ((hk.mono (by simp) (fun _ h => h)).trans (hkb.mono (by simp) (by simp)))
    ⟨captured_of herr hstamp hct (by rw [htb, htim]) (by rw [htb, htim]), stampPhase stamp, b, phaseOf_of_captured hct, hn, hbias⟩

theorem effect_ppsInEdge_hold (hl : s.dev.loopState = 2) (hst : d.tim.steer = true) :
    Effect (.ppsInEdge after) s (capRegs ++ sampleRegs) (.tim :: .irqs :: timeParts) (fun t => Captured d t (after % 2) ∧
      t.loopState = 2 ∧ ∃ e : Int, PhaseOf t e ∧ Sampled d t (e - bias)) := by
  obtain ⟨g, stamp, err, hx, hk, hc, hkd, herr, hstamp, htim⟩ := valid_edge hs hon hd hu hgap
  rw [ppsActed_steering hsrc hhold hb hk, if_neg (by omega), if_pos ⟨hl, by rw [htim, hst]⟩, sample_eq, if_pos rfl] at hx
  obtain ⟨hks, hsam, hnow, a, b, htim2⟩ := sampleActed_effect g (stampPhase stamp - bias)
  obtain ⟨hgnow, hgtb, -⟩ : Part.Same _ _ .time := hkd.same (by simp)
  have hrd : ∀ f ∉ capRegs, isCount f = false → g.rd f = d.rd f := fun f hf hc => hkd.rd hf hc
  generalize g.sampleActed (stampPhase stamp - bias) = t at *
  have hct : CapturedAt t stamp := capturedAt_congr hc hks (by simp [actRegs, capRegs])
  have hlt : t.loopState = g.loopState := hks.rd (by simp [actRegs]) rfl
  have hlg : g.loopState = s.dev.loopState := hk.rd (by simp [capRegs]) rfl
  exact .of_next hx ((hk.mono (List.subset_append_left _ _) (by simp)).trans (hks.mono (by simp [actRegs, sampleRegs]) (by simp [timeParts])))
    ⟨captured_of herr hstamp hct (by rw [htim2, htim]) (by rw [htim2, htim]), by rw [hlt, hlg, hl], stampPhase stamp, phaseOf_of_captured hct,
      sampled_congr hsam hrd hgtb⟩

end

/-! ### The output pulse, and PPS lost -/

section
variable {s : State} (hs : s.held = false)
include hs

theorem effect_ppsLostTimeout {x : Int} (he : s.dev.tim.edge = some x) :
    Effect .ppsLostTimeout s [.tim .STATUS_PPS_LOST] (.tim :: .irqs :: timeParts) (fun t => t.rd (.tim .STATUS_PPS_LOST) = 1 ∧
      t.tim = { s.dev.tim with edge := none }) := by
  have hx : exec .ppsLostTimeout s = .next { s with dev := (s.dev.elapseTb ((x + 3000000000) / 2 + s.dev.tim.steps).toNat).ppsLost } := by
    show execPpsLostTimeout s = _
    rw [execPpsLostTimeout, State.runTim_live s _ hs]
    simp only [he]
  have hke := s.dev.elapseTb_kept ((x + 3000000000) / 2 + s.dev.tim.steps).toNat
  generalize s.dev.elapseTb ((x + 3000000000) / 2 + s.dev.tim.steps).toNat = d at *
  have htim : d.tim = s.dev.tim := hke.same (x := .tim) (by simp [timeParts])
  obtain ⟨-, -, hev⟩ := Dev.same_event { d with tim := { d.tim with edge := none } } (.tim .STATUS_PPS_LOST) (.tim .CTRL_IRQ_EN) 11
  have hk : Kept [.tim .STATUS_PPS_LOST] [.tim, .irqs] d d.ppsLost :=
    kept_timEvent ((Kept.refl d).withTim { d.tim with edge := none } (by simp)) _ (by simp) (by simp)
  refine .of_next hx ((hke.mono (by simp) (fun _ h => by simp [h])).trans (hk.mono (fun _ h => h) (by simp))) ⟨(ppsLost_effect d).1, ?_⟩
  rw [Dev.ppsLost, Dev.timEvent, hev, htim]

/-- The output pin high, to fall at `n` (R444). -/
def Dev.ppsRisen (d : Dev) : Dev :=
  ({ d with tim := { d.tim with ppsFall := some (d.now + d.rd (.tim .PPS_CTRL_WIDTH) * 1000000) } } : Dev).emit (.pps true)

theorem exec_ppsOutRise (hon : s.dev.rd (.tim .PPS_CTRL_OUT_EN) ≠ 0) (hf : s.dev.tim.ppsFall = none) : ∃ d : Dev, Kept [] timeParts s.dev d ∧
    exec .ppsOutRise s = .next { s with
      dev := if d.rd (.tim .PPS_CTRL_GATE_UNLOCKED) ≠ 0 ∧ d.loopState ≠ 1 then d else d.ppsRisen } := by
  refine ⟨_, s.dev.elapseTb_kept (s.dev.tb + ((toSigned 32 (s.dev.rd (.tim .PPS_OFFSET_NS)) - (s.dev.tb : Int)) % 1000000000).toNat), ?_⟩
  have hin : s.dev.is (.tim .PPS_CTRL_OUT_EN) = true := by simpa [Dev.is] using hon
  show execPpsOutRise s = _
  rw [execPpsOutRise, State.runTim_live s _ hs]
  simp only [hin, hf, Bool.not_true, Bool.false_eq_true, Option.isSome_none, or_self, if_false]
  generalize s.dev.elapseTb _ = d
  simp only [Dev.is, decide_eq_true_eq]
  rfl

theorem effect_ppsOutRise (hon : s.dev.rd (.tim .PPS_CTRL_OUT_EN) ≠ 0) (hf : s.dev.tim.ppsFall = none) :
    (s.dev.rd (.tim .PPS_CTRL_GATE_UNLOCKED) = 0 ∨ s.dev.loopState = 1 →
      Effect .ppsOutRise s [] (.tim :: .out :: timeParts) (fun t => t.out = s.dev.out ++ ([.pps true] : List Outbound) ∧
        t.tim = { s.dev.tim with ppsFall := some (t.now + s.dev.rd (.tim .PPS_CTRL_WIDTH) * 1000000) })) ∧
    (s.dev.rd (.tim .PPS_CTRL_GATE_UNLOCKED) ≠ 0 → s.dev.loopState ≠ 1 → Effect .ppsOutRise s [] timeParts (fun _ => True)) := by
  obtain ⟨d, hk, hx⟩ := exec_ppsOutRise hs hon hf
  have hgate : d.rd (.tim .PPS_CTRL_GATE_UNLOCKED) = s.dev.rd (.tim .PPS_CTRL_GATE_UNLOCKED) := hk.rd (by simp) rfl
  have hstate : d.loopState = s.dev.loopState := hk.rd (by simp) rfl
  have hw : d.rd (.tim .PPS_CTRL_WIDTH) = s.dev.rd (.tim .PPS_CTRL_WIDTH) := hk.rd (by simp) rfl
  have htim : d.tim = s.dev.tim := hk.same (x := .tim) (by simp [timeParts])
  have hout : d.out = s.dev.out := hk.same (x := .out) (by simp [timeParts])
  refine ⟨fun h => ?_, fun h0 h1 => ?_⟩
  · rw [if_neg (by rw [hgate, hstate]; tauto)] at hx
    have hkr : Kept [] [.tim, .out] d d.ppsRisen :=
      ((Kept.refl d).withTim { d.tim with ppsFall := some (d.now + d.rd (.tim .PPS_CTRL_WIDTH) * 1000000) } (by simp)).emitAside _ rfl (by simp)
    refine .of_next hx ((hk.mono (by simp) (fun _ h => by simp [h])).trans (hkr.mono (by simp) (by simp))) ⟨?_, ?_⟩
    · rw [← hout]
      rfl
    · rw [← hw, ← htim]
      rfl
  · rw [if_pos ⟨hgate.symm ▸ h0, hstate.symm ▸ h1⟩] at hx
    exact .of_next hx hk trivial

theorem effect_ppsOutFall {x : Nat} (hf : s.dev.tim.ppsFall = some x) :
    Effect .ppsOutFall s [] (.tim :: .out :: timeParts) (fun t => t.now = max s.dev.now x ∧ t.out = s.dev.out ++ ([.pps false] : List Outbound) ∧
      t.tim = { s.dev.tim with ppsFall := none }) := by
  have hx : exec .ppsOutFall s = .next { s with
      dev := (Dev.elapse { s.dev with tim := { s.dev.tim with ppsFall := none } } (x - s.dev.now)).emit (.pps false) } := by
    show execPpsOutFall s = _
    rw [execPpsOutFall, State.runTim_live s _ hs]
    simp only [hf]
  have hk0 : Kept [] [.tim] s.dev { s.dev with tim := { s.dev.tim with ppsFall := none } } := (Kept.refl _).withTim _ (by simp)
  have hke := kept_elapse [] timeParts { s.dev with tim := { s.dev.tim with ppsFall := none } } (x - s.dev.now) fun _ h => h
  have hnow := Dev.elapse_now { s.dev with tim := { s.dev.tim with ppsFall := none } } (x - s.dev.now)
  have htim := hke.same (x := .tim) (by simp [timeParts])
  have hout := hke.same (x := .out) (by simp [timeParts])
  generalize Dev.elapse { s.dev with tim := { s.dev.tim with ppsFall := none } } (x - s.dev.now) = d at *
  refine .of_next hx (((hk0.mono (by simp) (by simp)).trans (hke.mono (by simp) (fun _ h => by simp [h]))).emitAside _ rfl (by simp)) ⟨?_, ?_, htim⟩
  · show d.now = _
    rw [hnow]
    show s.dev.now + (x - s.dev.now) = _
    omega
  · show d.out ++ _ = _
    rw [hout]

end

/-! ### Time of day -/

/-- An accepted time of day, before its second is compared (R445). -/
def Dev.todTaken (d : Dev) (tai : Int) : Dev := { (d.wr (.tim .TOD_SEC) (ofSigned 48 tai)).timCnt 3 with tim := { d.tim with
  todDiff := tai - (d.tim.edgeSec : Int) } }

theorem todTaken_effect (d : Dev) (tai : Int) :
    Kept [.tim .TOD_SEC, .tim (.CNT_COUNT 3)] [.tim] d (d.todTaken tai) ∧ (d.todTaken tai).rd (.tim .TOD_SEC) = ofSigned 48 tai ∧
    Counts d (d.todTaken tai) (.tim (.CNT_COUNT 3)) := by
  have h : ∀ f, (d.todTaken tai).rd f = ((d.wr (.tim .TOD_SEC) (ofSigned 48 tai)).timCnt 3).rd f := fun _ => rfl
  have hk : Kept [.tim .TOD_SEC, .tim (.CNT_COUNT 3)] [.tim] d ((d.wr (.tim .TOD_SEC) (ofSigned 48 tai)).timCnt 3) :=
    ((Kept.refl d).wr _ (by simp)).inc (by simp)
  refine ⟨hk.withTim _ (by simp), ?_, ?_⟩
  · rw [h, Dev.rd_timCnt, if_neg (by simp), Dev.rd_wr, if_pos rfl]
    exact Nat.mod_eq_of_lt (ofSigned_lt 48 _)
  · rw [Counts, h, Dev.rd_timCnt, if_pos rfl, Dev.rd_wr, if_neg (by simp)]

/-- A second that is not the edge's (R446). -/
def Dev.todMismatch (d : Dev) : Dev := (d.timCnt 5).timEvent .STATUS_TOD_MISMATCH

theorem todMismatch_effect (d : Dev) : Kept [.tim (.CNT_COUNT 5), .tim .STATUS_TOD_MISMATCH] [.irqs] d d.todMismatch ∧
    d.todMismatch.rd (.tim .STATUS_TOD_MISMATCH) = 1 ∧ Counts d d.todMismatch (.tim (.CNT_COUNT 5)) := by
  refine ⟨kept_timEvent ((Kept.refl d).inc (by simp)) _ (by simp) (by simp), ?_, ?_⟩
  · rw [Dev.todMismatch, Dev.rd_timEvent _ _ _ rfl, if_pos rfl]
  · rw [Counts, Dev.todMismatch, Dev.rd_timEvent _ _ _ rfl, if_neg (by simp), Dev.rd_timCnt, if_pos rfl]

theorem todAccept_eq {d : Dev} {utc : Nat} {tai : Int} (ht : tai = (utc : Int) + toSigned 16 (d.rd (.tim .UTC_OFFSET_S))) :
    (tai = d.tim.edgeSec → d.todAccept utc = d.todTaken tai) ∧
    (tai ≠ d.tim.edgeSec → d.rd (.tck .CTRL_SRC) ≠ 2 → d.todAccept utc = (d.todTaken tai).todMismatch) := by
  refine ⟨fun h => ?_, fun h hs => ?_⟩
  · rw [Dev.todAccept]
    simp only [← ht]
    rw [if_pos (by show tai - (d.tim.edgeSec : Int) = 0; omega)]
    rfl
  · have hsrc : (d.todTaken tai).todMismatch.rd (.tck .CTRL_SRC) = d.rd (.tck .CTRL_SRC) := by
      rw [(todMismatch_effect _).1.rd (by simp) rfl, (todTaken_effect d tai).1.rd (by simp) rfl]
    rw [Dev.todAccept]
    simp only [← ht]
    rw [if_neg (by show tai - (d.tim.edgeSec : Int) ≠ 0; omega)]
    exact if_neg fun hc => hs (hsrc ▸ hc.1)

/-- What a sentence does on a device that receives it (R445, R446). -/
def Dev.nmea (d : Dev) (bytes : List Byte) : Dev :=
  if !d.is (.tim .UART_EN) then d
  else
    let (fs, good) := nmeaFields bytes
    let kind := (fs.getD 0 []).drop 2
    let upper : Byte → Bool := fun b => 0x41 ≤ b.toNat && b.toNat ≤ 0x5A
    let zda : Bool := kind = [0x5A, 0x44, 0x41]
    let rmc : Bool := kind = [0x52, 0x4D, 0x43]
    if bytes.getD 0 0 ≠ 0x24 then d
    else if !good then d.timCnt 4
    else if !(zda || rmc) ∨ !((fs.getD 0 []).take 2).all upper then d
    else match nmeaSecond rmc fs with
      | none => d.timCnt 4
      | some utc => if d.tim.edge.isSome ∧ d.now ≤ d.tim.edgeAt + 900000000 then d.todAccept utc else d.timCnt 4

section
variable {s : State} {bytes : List Byte} {after : Nat} (hs : s.held = false)
include hs

theorem exec_nmeaSentence : exec (.nmeaSentence bytes after) s = .next { s with dev := (s.dev.elapse after).nmea bytes } :=
  s.runTim_live (fun d => (d.elapse after).nmea bytes) hs

omit hs in
theorem nmea_off {d : Dev} (h : d.rd (.tim .UART_EN) = 0) : d.nmea bytes = d := by
  rw [Dev.nmea, Dev.is, h]
  rfl

variable {d : Dev} (hon : d.rd (.tim .UART_EN) ≠ 0) (h24 : bytes.getD 0 0 = 0x24)
include hon h24

omit hs in
theorem nmea_bad (hsum : (nmeaFields bytes).2 = false) : d.nmea bytes = d.timCnt 4 := by
  have hin : d.is (.tim .UART_EN) = true := by simpa [Dev.is] using hon
  rw [Dev.nmea]
  simp only [hin, h24, hsum, Bool.not_true, Bool.not_false, Bool.false_eq_true, if_false, if_true, ne_eq, not_true_eq_false]

omit hs in
theorem nmea_second {fs : List (List Byte)} {a b : Byte} {rmc : Bool} {utc : Nat} (hf : nmeaFields bytes = (fs, true))
    (ha1 : 0x41 ≤ a.toNat) (ha2 : a.toNat ≤ 0x5A) (hb1 : 0x41 ≤ b.toNat) (hb2 : b.toNat ≤ 0x5A)
    (hk : fs.getD 0 [] = [a, b] ++ (if rmc then [0x52, 0x4D, 0x43] else [0x5A, 0x44, 0x41])) (hu : nmeaSecond rmc fs = some utc)
    (he : d.tim.edge ≠ none) :
    d.nmea bytes = if d.now ≤ d.tim.edgeAt + 900000000 then d.todAccept utc else d.timCnt 4 := by
  have hin : d.is (.tim .UART_EN) = true := by simpa [Dev.is] using hon
  have hsome : d.tim.edge.isSome = true := Option.isSome_iff_ne_none.mpr he
  have hup : ([a, b] : List Byte).all (fun b => decide (0x41 ≤ b.toNat) && decide (b.toNat ≤ 0x5A)) = true := by simp [ha1, ha2, hb1, hb2]
  have htake : (fs.getD 0 []).take 2 = [a, b] := by rw [hk]; rfl
  have hdrop : (fs.getD 0 []).drop 2 = if rmc then [0x52, 0x4D, 0x43] else [0x5A, 0x44, 0x41] := by rw [hk]; rfl
  rw [Dev.nmea, hf]
  simp only [hin, h24, htake, hdrop, hup, hsome, Bool.not_true, Bool.false_eq_true, if_false, ne_eq, not_true_eq_false, or_false, true_and]
  cases rmc with
  | true =>
    simp only [if_true, decide_true, Bool.or_true, Bool.not_true, Bool.false_eq_true, if_false, hu]
  | false =>
    have hrmc : decide (([0x5A, 0x44, 0x41] : List Byte) = [0x52, 0x4D, 0x43]) = false := by decide
    simp only [Bool.false_eq_true, if_false, hrmc, decide_true, Bool.true_or, Bool.not_true, hu]

end

section
variable {s : State} {bytes : List Byte} {after : Nat} (hs : s.held = false)
include hs

theorem effect_nmea_count {d : Dev} (hd : d = s.dev.elapse after) (hc : d.nmea bytes = d.timCnt 4) :
    Effect (.nmeaSentence bytes after) s [.tim (.CNT_COUNT 4)] timeParts (fun t => Counts s.dev t (.tim (.CNT_COUNT 4))) := by
  have hke : Kept [] timeParts s.dev d := hd ▸ kept_elapse _ _ _ _ fun _ h => h
  have hx := exec_nmeaSentence hs (bytes := bytes) (after := after)
  rw [← hd, hc] at hx
  have hrd : d.rd (.tim (.CNT_COUNT 4)) = s.dev.rd (.tim (.CNT_COUNT 4)) := hke.rd (by simp) rfl
  exact .of_next hx ((hke.mono (by simp) (fun _ h => h)).inc (by simp)) (by rw [Counts, Dev.rd_timCnt, if_pos rfl, hrd])

/-- NMEA_SENTENCE: one that is not received, one with a wrong checksum, and one that names a second (R445, R446). -/
theorem effect_nmeaSentence :
    (s.dev.rd (.tim .UART_EN) = 0 → Effect (.nmeaSentence bytes after) s [] timeParts (fun t => t.now = s.dev.now + after)) ∧
    (s.dev.rd (.tim .UART_EN) ≠ 0 → bytes.getD 0 0 = 0x24 → (nmeaFields bytes).2 = false →
      Effect (.nmeaSentence bytes after) s [.tim (.CNT_COUNT 4)] timeParts (fun t => Counts s.dev t (.tim (.CNT_COUNT 4)))) ∧
    (∀ (fs : List (List Byte)) (a b : Byte) (rmc : Bool) (utc : Nat) (tai : Int), s.dev.rd (.tim .UART_EN) ≠ 0 → bytes.getD 0 0 = 0x24 →
      nmeaFields bytes = (fs, true) → 0x41 ≤ a.toNat → a.toNat ≤ 0x5A → 0x41 ≤ b.toNat → b.toNat ≤ 0x5A →
      fs.getD 0 [] = [a, b] ++ (if rmc then [0x52, 0x4D, 0x43] else [0x5A, 0x44, 0x41]) → nmeaSecond rmc fs = some utc →
      s.dev.tim.edge ≠ none → tai = (utc : Int) + toSigned 16 (s.dev.rd (.tim .UTC_OFFSET_S)) →
      (s.dev.tim.edgeAt + 900000000 < s.dev.now + after →
        Effect (.nmeaSentence bytes after) s [.tim (.CNT_COUNT 4)] timeParts (fun t => Counts s.dev t (.tim (.CNT_COUNT 4)))) ∧
      (s.dev.now + after ≤ s.dev.tim.edgeAt + 900000000 →
        (tai = s.dev.tim.edgeSec →
          Effect (.nmeaSentence bytes after) s [.tim .TOD_SEC, .tim (.CNT_COUNT 3)] (.tim :: timeParts) (fun t =>
            t.rd (.tim .TOD_SEC) = ofSigned 48 tai ∧ Counts s.dev t (.tim (.CNT_COUNT 3)))) ∧
        (tai ≠ s.dev.tim.edgeSec → s.dev.rd (.tck .CTRL_SRC) ≠ 2 →
          Effect (.nmeaSentence bytes after) s [.tim .TOD_SEC, .tim (.CNT_COUNT 3), .tim (.CNT_COUNT 5), .tim .STATUS_TOD_MISMATCH]
            (.tim :: .irqs :: timeParts) (fun t => t.rd (.tim .TOD_SEC) = ofSigned 48 tai ∧ Counts s.dev t (.tim (.CNT_COUNT 3)) ∧
              Counts s.dev t (.tim (.CNT_COUNT 5)) ∧ t.rd (.tim .STATUS_TOD_MISMATCH) = 1)))) := by
  have hx := exec_nmeaSentence hs (bytes := bytes) (after := after)
  have hke := kept_elapse [] timeParts s.dev after fun _ h => h
  have hnow := s.dev.elapse_now after
  have hcount := fun hc => effect_nmea_count hs (bytes := bytes) (after := after) rfl hc
  generalize s.dev.elapse after = d at *
  have hen : d.rd (.tim .UART_EN) = s.dev.rd (.tim .UART_EN) := hke.rd (by simp) rfl
  have htim : d.tim = s.dev.tim := hke.same (x := .tim) (by simp [timeParts])
  have hoff : d.rd (.tim .UTC_OFFSET_S) = s.dev.rd (.tim .UTC_OFFSET_S) := hke.rd (by simp) rfl
  have hsrc : d.rd (.tck .CTRL_SRC) = s.dev.rd (.tck .CTRL_SRC) := hke.rd (by simp) rfl
  refine ⟨fun h => ?_, fun hon h24 hsum => hcount (nmea_bad (hen ▸ hon) h24 hsum),
    fun fs a b rmc utc tai hon h24 hf ha1 ha2 hb1 hb2 hk hu he ht => ?_⟩
  · rw [nmea_off (hen.trans h)] at hx
    exact .of_next hx hke hnow
  · have heq := nmea_second (hen ▸ hon) h24 hf ha1 ha2 hb1 hb2 hk hu (htim ▸ he)
    rw [hnow, htim] at heq
    refine ⟨fun hlate => hcount (heq.trans (if_neg (Nat.not_le.mpr hlate))), fun hin => ?_⟩
    rw [if_pos hin] at heq
    rw [← hoff] at ht
    obtain ⟨hsame, hdiff⟩ := todAccept_eq ht
    rw [htim] at hsame hdiff
    obtain ⟨hkt, hsec, hc3⟩ := todTaken_effect d tai
    have h3 : d.rd (.tim (.CNT_COUNT 3)) = s.dev.rd (.tim (.CNT_COUNT 3)) := hke.rd (by simp) rfl
    have h5 : d.rd (.tim (.CNT_COUNT 5)) = s.dev.rd (.tim (.CNT_COUNT 5)) := hke.rd (by simp) rfl
    rw [Counts, h3] at hc3
    refine ⟨fun h => ?_, fun h hs2 => ?_⟩
    · rw [heq, hsame h] at hx
      exact .of_next hx ((hke.mono (by simp) (fun _ h => by simp [h])).trans (hkt.mono (fun _ h => h) (by simp))) ⟨hsec, hc3⟩
    · rw [heq, hdiff h (by rw [hsrc]; exact hs2)] at hx
      obtain ⟨hkm, hmis, hc5⟩ := todMismatch_effect (d.todTaken tai)
      have hg5 := hkt.rd (f := .tim (.CNT_COUNT 5)) (by simp) rfl
      rw [Counts, hg5, h5] at hc5
      refine .of_next hx (((hke.mono (by simp) (fun _ h => by simp [h])).trans (hkt.mono (by simp) (by simp))).trans (hkm.mono (by simp) (by simp)))
        ⟨?_, ?_, hc5, hmis⟩
      · rw [hkm.rd (by simp) rfl, hsec]
      · rw [Counts, hkm.rd (by simp) rfl, hc3]

end

/-- Settles O40. -/
theorem ppsAndTimeOfDay : Obligations.PpsAndTimeOfDay := by
  unfold Obligations.PpsAndTimeOfDay
  intro s after hs
  refine ⟨effect_ppsInEdge_off hs, fun d u hon hd hu => ⟨fun hgap => ⟨effect_ppsInEdge_captured hs hon hd hu hgap,
      effect_ppsInEdge_sample hs hon hd hu hgap, fun bias hsrc hhold hb => ⟨effect_ppsInEdge_bias hs hon hd hu hgap hsrc hhold hb,
        effect_ppsInEdge_hold hs hon hd hu hgap hsrc hhold hb⟩⟩, fun x he hg => ?_, fun x he hmin hg => ?_,
      fun x he hl => completes_ppsInEdge_lost hs hon hd hu he hl⟩,
    fun x he => effect_ppsLostTimeout hs he, effect_ppsOutRise hs, fun x hf => effect_ppsOutFall hs hf, fun bytes => effect_nmeaSentence hs⟩
  · exact effect_ppsInEdge_off_window hs hon hd hu he (by omega) (by omega) (if_pos hg).symm
  · exact effect_ppsInEdge_off_window hs hon hd hu he (by omega) (by omega) (if_neg (by omega)).symm

end Sys2Proof.Machine
end

section
-- The theorems are elaborated in order, which keeps the memory that a check of the whole text takes within its limit.
set_option Elab.async false

/-! SUPPORT.  The safety monitor's commands, heartbeats and reports (R466 to R478). -/

namespace Sys2Proof.Machine

open Sys2Proof.Safety Sys2Proof.Claims

@[simp] theorem safState_width : (Fld.saf .STATE_STATE).width = 3 := rfl
@[simp] theorem safSeq_width : (Fld.saf .STATE_SEQ).width = 16 := rfl
@[simp] theorem safCause_width : (Fld.saf .STATE_CAUSE).width = 5 := rfl
@[simp] theorem safResult_width : (Fld.saf .RESULT_LAST).width = 4 := rfl
@[simp] theorem safCmdDone_width : (Fld.saf .EVT_CMD_DONE).width = 1 := rfl
@[simp] theorem safTrip_width : (Fld.saf .EVT_TRIP).width = 1 := rfl
@[simp] theorem safRearm_width : (Fld.saf .EVT_REARM).width = 1 := rfl
@[simp] theorem safWarn_width : (Fld.saf .EVT_WARN).width = 1 := rfl
@[simp] theorem tripCode_width : (Fld.saf .TRIP_LOG_CODE).width = 5 := rfl
@[simp] theorem tripDetail_width : (Fld.saf .TRIP_LOG_DETAIL).width = 8 := rfl
@[simp] theorem tripValid_width : (Fld.saf .TRIP_LOG_VALID).width = 1 := rfl
@[simp] theorem tripTick_width : (Fld.saf .TRIP_TICK_TICK).width = 32 := rfl
@[simp] theorem pinOutA_width : (Fld.saf .PIN_STATUS_OUT_A).width = 1 := rfl
@[simp] theorem pinOutB_width : (Fld.saf .PIN_STATUS_OUT_B).width = 1 := rfl
@[simp] theorem scrubAge_width : (Fld.saf .MON_STATUS_SCRUB_AGE).width = 8 := rfl
@[simp] theorem faults_width : (Fld.saf .FAULT_FAULTS).width = 20 := rfl
@[simp] theorem warnings_width : (Fld.saf .WARN_WARN).width = 7 := rfl
@[simp] theorem bcLastTick_width (c : Nat) : (Fld.saf (.BC_LAST_TICK_TICK c)).width = 32 := rfl
@[simp] theorem pairStateA_width (p : Nat) : (Fld.eng (.PAIR_STATUS_STATE_A p)).width = 3 := rfl
@[simp] theorem pairStateB_width (p : Nat) : (Fld.eng (.PAIR_STATUS_STATE_B p)).width = 3 := rfl

/-! ### The check of an arming -/

/-- The fields that the check reads (R466, R467). -/
def armFields : List Fld :=
  [.cfg .STATUS_SEALED, .tck .STATUS_RUNNING, .sec .DBG_STATUS_LEVEL, .saf .PIN_STATUS_SAFE_IN, .saf .CTRL_SAFE_IN_POL, .saf .MON_STATUS_CLK_FAIL,
    .saf .MON_STATUS_OSC_FAIL, .saf .HA_STATUS_EXPIRED, .saf .HA_CFG_MAX_US, .saf .PIN_STATUS_READBACK_ERR, .cal .AGE_STATUS_OVERDUE2,
    .pwr .SUP_STATUS_SUP_WARN, .cfg .SIG_STATUS_MISMATCH]

/-- The check's answer depends on the Ephemeris and on those fields. -/
theorem armCheck_congr {F : List Fld} {P : List Part} {d e : Dev} (h : Kept F P d e) (hF : ∀ f ∈ armFields, f ∉ F) (hm : .mem ∉ P)
    (hc : .cfg ∉ P) (o : Otp) : e.armCheck o = d.armCheck o := by
  have hr : ∀ f ∈ armFields, isCount f = false → e.rd f = d.rd f := fun f hf hn => h.rd (hF f hf) hn
  have hslot : e.slot = d.slot := funext fun n => Dev.slot_congr (h.same (x := .mem) hm) (h.same (x := .cfg) hc) n
  simp only [armFields, List.forall_mem_cons] at hr
  obtain ⟨h1, h2, h3, h4, h5, h6, h7, h8, h9, h10, h11, h12, h13, -⟩ := hr
  unfold Dev.armCheck Dev.sealed Dev.d2 Dev.safetyTask Dev.persistent Dev.safeInActive Dev.is
  rw [hslot, h1 rfl, h2 rfl, h3 rfl, h4 rfl, h5 rfl, h6 rfl, h7 rfl, h8 rfl, h9 rfl, h10 rfl, h11 rfl, h12 rfl, h13 rfl]

theorem armCheck_counted {d e : Dev} (h : Counted d e) (o : Otp) : e.armCheck o = d.armCheck o :=
  armCheck_congr (((Kept.refl d).counted h : Kept [] [] d e)) (by simp) (by simp) (by simp) o

/-- The codes of the check (R466). -/
theorem armCheck_lt {d : Dev} {o : Otp} {c : Nat} (h : d.armCheck o = some c) : c < 16 := by
  unfold Dev.armCheck at h
  split_ifs at h <;> injection h <;> omega

theorem Counted.safState {d e : Dev} (h : Counted d e) : e.safState = d.safState := h.rd _ rfl

/-! ### Refusals and passes -/

section
variable {F : List Fld} {P : List Part} {d e : Dev}

theorem kept_wdtRestart (h : Kept F P d e) (hP : .sbd ∈ P) : Kept F P d e.wdtRestart := h.withSbd _ hP

@[simp] theorem Dev.rd_wdtRestart (d : Dev) (f : Fld) : d.wdtRestart.rd f = d.rd f := rfl

end

variable {s : State} {c : Sys2Proof.Instr}

theorem safRefuse_effect {d e : Dev} (h : Counted d e) {code : Nat} (hc : code < 16) :
    Kept [.saf .RESULT_LAST, .saf .RESULT_REFUSED] [] e (e.safRefuse code) ∧ (e.safRefuse code).rd (.saf .RESULT_LAST) = code ∧
      Counts d (e.safRefuse code) (.saf .RESULT_REFUSED) := by
  refine ⟨((Kept.refl e).wr _ (by simp)).inc (by simp), ?_, ?_⟩
  · simp [Dev.safRefuse, Dev.rd_inc, Nat.mod_eq_of_lt hc]
  · simp [Counts, Dev.safRefuse, Dev.rd_inc, h.rd (.saf .RESULT_REFUSED) rfl]

/-- A command of the host that the monitor refuses (R466). -/
theorem safRefused_of {x : Host.Outcome State Fault Refusal} (hx : exec c s = x) {f : Otp → Dev → Dev} (hw : x = s.hostWith f) (ha : Awake s) {code : Nat} (hc : code < 16)
    (hf : ∀ e, Counted s.dev e → f s.otp e = e.safRefuse code) : SafRefused c s code :=
  .hostWith hx hw ha fun e he => (hf e he).symm ▸ safRefuse_effect he hc

theorem rd_safPass (d : Dev) : SafPassed d.safPass := ⟨by simp [Dev.safPass], by simp [Dev.safPass]⟩

/-- A passed command that moves the monitor to a state (R466). -/
theorem safMoved_of {x : Host.Outcome State Fault Refusal} (hx : exec c s = x) {f : Otp → Dev → Dev} (hw : x = s.hostWith f) (ha : Awake s)
    {n : Nat} (hlt : n < 8) (hf : ∀ e, Counted s.dev e → f s.otp e = e.safPass.wr (.saf .STATE_STATE) n) :
    Effect c s [.saf .RESULT_LAST, .saf .EVT_CMD_DONE, .saf .STATE_STATE] [] (fun t => SafPassed t ∧ t.safState = n) :=
  .hostWith hx hw ha fun e he => by
    rw [hf e he]
    exact ⟨((Kept.refl e).wrs _ (by simp)).wr _ (by simp), ⟨by simp [Dev.safPass], by simp [Dev.safPass]⟩,
      by simp [Dev.safState, Nat.mod_eq_of_lt hlt]⟩

section
variable (s) (ha : Awake s)
include ha

theorem monitorArm_refused (h : s.dev.safState ≠ 0) : SafRefused .monitorArm s 1 :=
  safRefused_of (x := execMonitorArm s) rfl rfl ha (by decide) fun e he => if_pos (he.safState ▸ h)

theorem monitorArm_failed (h : s.dev.safState = 0) {k : Nat} (hk : s.dev.armCheck s.otp = some k) : SafRefused .monitorArm s k :=
  safRefused_of (x := execMonitorArm s) rfl rfl ha (armCheck_lt hk) fun e he => by
    rw [if_neg (by rw [he.safState]; exact fun hn => hn h), armCheck_counted he, hk]

theorem monitorArm_passed (h : s.dev.safState = 0) (hk : s.dev.armCheck s.otp = none) :
    Effect .monitorArm s [.saf .RESULT_LAST, .saf .EVT_CMD_DONE, .saf .STATE_STATE] [] (fun t => SafPassed t ∧ t.safState = 1) :=
  safMoved_of (x := execMonitorArm s) rfl rfl ha (by decide) fun e he => by
    rw [if_neg (by rw [he.safState]; exact fun hn => hn h), armCheck_counted he, hk]

variable (seq : BitVec 16)

theorem monitorRecover_refused (h : s.dev.safState ≠ 3) : SafRefused (.monitorRecover seq) s 1 :=
  safRefused_of (x := execMonitorRecover seq s) rfl rfl ha (by decide) fun e he => if_pos (he.safState ▸ h)

theorem monitorRecover_stale (h : s.dev.safState = 3) (hq : seq.toNat ≠ s.dev.rd (.saf .STATE_SEQ)) : SafRefused (.monitorRecover seq) s 2 :=
  safRefused_of (x := execMonitorRecover seq s) rfl rfl ha (by decide) fun e he => by
    rw [if_neg (by rw [he.safState]; exact fun hn => hn h), if_pos (by rw [he.rd _ rfl]; exact hq)]

theorem monitorRecover_failed (h : s.dev.safState = 3) (hq : seq.toNat = s.dev.rd (.saf .STATE_SEQ)) {k : Nat}
    (hk : s.dev.armCheck s.otp = some k) : SafRefused (.monitorRecover seq) s k :=
  safRefused_of (x := execMonitorRecover seq s) rfl rfl ha (armCheck_lt hk) fun e he => by
    rw [if_neg (by rw [he.safState]; exact fun hn => hn h), if_neg (by rw [he.rd _ rfl]; exact fun hn => hn hq), armCheck_counted he, hk]

theorem monitorRecover_passed (h : s.dev.safState = 3) (hq : seq.toNat = s.dev.rd (.saf .STATE_SEQ)) (hk : s.dev.armCheck s.otp = none) :
    Effect (.monitorRecover seq) s [.saf .RESULT_LAST, .saf .EVT_CMD_DONE, .saf .STATE_STATE] [] (fun t => SafPassed t ∧ t.safState = 4) :=
  safMoved_of (x := execMonitorRecover seq s) rfl rfl ha (by decide) fun e he => by
    rw [if_neg (by rw [he.safState]; exact fun hn => hn h), if_neg (by rw [he.rd _ rfl]; exact fun hn => hn hq), armCheck_counted he, hk]

theorem monitorDisarm_refused (h : s.dev.safState ≠ 3) : SafRefused .monitorDisarm s 1 :=
  safRefused_of (x := execMonitorDisarm s) (f := fun _ d => if d.safState ≠ 3 then d.safRefuse 1
    else ({ d with safeCore := false }.safPass.wr (.saf .STATE_STATE) 0).wdtRestart) rfl rfl ha (by decide) fun e he => if_pos (he.safState ▸ h)

theorem monitorTrip_refused (h : s.dev.safState = 0 ∨ s.dev.safState = 3) : SafRefused .monitorTrip s 1 :=
  safRefused_of (x := execMonitorTrip s) (f := fun _ d => if d.safState = 0 ∨ d.safState = 3 then d.safRefuse 1
    else (d.safPass.setFldBit (.saf .FAULT_FAULTS) 19).trip 20 0) rfl rfl ha (by decide) fun e he => if_pos (he.safState ▸ h)

theorem effect_monitorDisarm (h : s.dev.safState = 3) :
    Effect .monitorDisarm s [.saf .RESULT_LAST, .saf .EVT_CMD_DONE, .saf .STATE_STATE] [.safeCore, .sbd] (fun t =>
      SafPassed t ∧ t.safState = 0 ∧ t.safeCore = false) := by
  refine .host (x := execMonitorDisarm s) rfl rfl ha fun e he => ?_
  rw [if_neg (by rw [he.safState]; exact fun hn => hn h)]
  have hk : Kept [.saf .RESULT_LAST, .saf .EVT_CMD_DONE, .saf .STATE_STATE] [.safeCore] e
      ({ e with safeCore := false }.safPass.wr (.saf .STATE_STATE) 0) :=
    (((Kept.refl e).withSafeCore false (by simp)).wrs _ (by simp)).wr _ (by simp)
  refine ⟨kept_wdtRestart (hk.mono (by simp) (by simp)) (by simp), ⟨by simp [Dev.safPass], by simp [Dev.safPass]⟩, by simp [Dev.safState], ?_⟩
  simp [Dev.wdtRestart, Dev.safPass]

end

/-! ### Trips -/

theorem kept_drive {F : List Fld} {P : List Part} {d e : Dev} (h : Kept F P d e) (on : Bool)
    (hF : [.saf .PIN_STATUS_OUT_A, .saf .PIN_STATUS_OUT_B, .saf .PIN_STATUS_READBACK_ERR] ⊆ F) (ho : .out ∈ P) : Kept F P d (e.drive on) :=
  (h.wrs _ (by simpa [List.subset_def] using hF)).emitAside _ rfl ho

/-- The pins after a drive, of a device that has sent nothing meanwhile. -/
theorem driven_drive {d e : Dev} (on : Bool) (ho : e.out = d.out) : Driven d (e.drive on) on := by
  have hb : ∀ b : Bool, b2n b % 2 = b2n b := by decide
  exact ⟨by simp [Dev.drive, hb], by simp [Dev.drive, hb], by simp [Dev.drive], by simp [Dev.drive, Dev.emit, ho]⟩

theorem driven_trans {d e t : Dev} {on : Bool} (h : Driven d e on) {F : List Fld} {P : List Part} (k : Kept F P e t)
    (hF : ∀ f ∈ ([.saf .PIN_STATUS_OUT_A, .saf .PIN_STATUS_OUT_B, .saf .PIN_STATUS_READBACK_ERR] : List Fld), f ∉ F) (ho : .out ∉ P) :
    Driven d t on := by
  obtain ⟨ha, hb, hc, hout⟩ := h
  have hto : t.out = e.out := k.same (x := .out) ho
  exact ⟨by rw [k.rd (hF _ (by simp)) rfl, ha], by rw [k.rd (hF _ (by simp)) rfl, hb], by rw [k.rd (hF _ (by simp)) rfl, hc], by rw [hto, hout]⟩

/-- What TRIPPED writes before the pins are driven (R470). -/
def Dev.tripLogged (d : Dev) (code detail : Nat) : Dev :=
  d.wrs [(.saf .TRIP_LOG_CODE, code), (.saf .TRIP_LOG_DETAIL, detail), (.saf .TRIP_LOG_VALID, 1),
    (.saf .TRIP_TICK_TICK, d.rd (.tck .COUNT_TICK) % 2 ^ 32), (.saf .STATE_CAUSE, code),
    (.saf .STATE_SEQ, if d.rd (.saf .STATE_SEQ) = 65535 then 1 else d.rd (.saf .STATE_SEQ) + 1), (.saf .STATE_STATE, 3), (.saf .EVT_TRIP, 1)]

/-- TRIPPED is entered (R470). -/
theorem trip_effect {d e : Dev} (code detail : Nat) (hc : code < 32) (hq : e.rd (.saf .STATE_SEQ) = d.rd (.saf .STATE_SEQ))
    (ht : e.rd (.tck .COUNT_TICK) = d.rd (.tck .COUNT_TICK)) (ho : e.out = d.out) :
    Kept tripRegs [.irqs, .out, .sbd] e (e.trip code detail) ∧ TrippedBy d (e.trip code detail) code detail := by
  have hl : Kept tripRegs [.irqs] e ((e.tripLogged code detail).hepEvent 13) := by
    unfold Dev.tripLogged
    exact ((Kept.refl e).wrs _ (by simp [tripRegs])).hepEvent _ (by simp)
  have htrip : e.trip code detail = (((e.tripLogged code detail).hepEvent 13).drive false).wdtRestart := rfl
  have hout : ((e.tripLogged code detail).hepEvent 13).out = e.out := hl.same (x := .out) (by simp)
  have hseq := d.rd_lt (.saf .STATE_SEQ)
  rw [safSeq_width] at hseq
  refine ⟨htrip ▸ kept_wdtRestart (kept_drive (hl.mono (by simp) (by simp)) _ (by simp [tripRegs]) (by simp)) (by simp), ?_⟩
  have hd : Driven d (e.trip code detail) false :=
    driven_trans (driven_drive false (hout.trans ho)) (kept_wdtRestart (F := []) (P := [.sbd]) (.refl _) (by simp)) (by simp) (by simp)
  refine ⟨?_, ?_, ?_, ?_, ?_, ?_, ?_, ?_, hd⟩ <;> rw [htrip] <;>
    simp [Dev.safState, Dev.drive, Dev.tripLogged, Nat.mod_eq_of_lt hc, hq, ht]
  split <;> omega

theorem bitAt_setBit (n i : Nat) : bitAt (setBit n i) i = true := by
  rw [bitAt_eq_testBit]
  cases h : n.testBit i
  · rw [setBit_of_not_testBit h, Nat.add_comm, Nat.testBit_two_pow_add_eq, h]
    rfl
  · rw [setBit_of_testBit h, h]

/-- The other bits of a register of which one is set. -/
theorem testBit_setBit_ne (n : Nat) {i j : Nat} (h : i ≠ j) : (setBit n i).testBit j = n.testBit j := by
  cases hb : n.testBit i
  · rw [setBit_of_not_testBit hb]
    rcases Nat.lt_or_gt_of_ne h with hlt | hgt
    · have heven : n / 2 ^ i % 2 = 0 := by simpa [Nat.testBit_eq_decide_div_mod_eq] using hb
      have hhigh : (n + 2 ^ i) / 2 ^ (i + 1) = n / 2 ^ (i + 1) := by
        rw [pow_succ, ← Nat.div_div_eq_div_mul, ← Nat.div_div_eq_div_mul, Nat.add_div_right _ (Nat.two_pow_pos i)]
        omega
      obtain ⟨k, rfl⟩ := Nat.exists_eq_add_of_lt hlt
      rw [show i + k + 1 = k + (i + 1) by omega, Nat.testBit_add, Nat.testBit_add, hhigh]
    · rw [Nat.add_comm, Nat.testBit_two_pow_add_gt hgt]
  · rw [setBit_of_testBit hb]

theorem bitAt_setBit_eq (n i j : Nat) : bitAt (setBit n i) j = (bitAt n j || decide (i = j)) := by
  by_cases h : i = j
  · subst h
    simp [bitAt_setBit]
  · rw [bitAt_eq_testBit, bitAt_eq_testBit, testBit_setBit_ne _ h]
    simp [h]

/-- The software trip's device before TRIPPED is entered (R466, R468). -/
def Dev.softTripped (d : Dev) : Dev := d.safPass.setFldBit (.saf .FAULT_FAULTS) 19

theorem effect_monitorTrip (s : State) (ha : Awake s) (h : s.dev.safState = 1 ∨ s.dev.safState = 2 ∨ s.dev.safState = 4) :
    Effect .monitorTrip s (([.saf .RESULT_LAST, .saf .EVT_CMD_DONE, .saf .FAULT_FAULTS] : List Fld) ++ tripRegs) [.irqs, .out, .sbd] (fun t =>
      SafPassed t ∧ TrippedBy s.dev t 20 0 ∧ bitAt (t.rd (.saf .FAULT_FAULTS)) 19 = true) := by
  refine .host (x := execMonitorTrip s) rfl rfl ha fun e he => ?_
  rw [if_neg (by rw [he.safState]; omega)]
  have hk : Kept [.saf .RESULT_LAST, .saf .EVT_CMD_DONE, .saf .FAULT_FAULTS] [] e e.softTripped := ((Kept.refl e).wrs _ (by simp)).wr _ (by simp)
  have hbit : bitAt (e.softTripped.rd (.saf .FAULT_FAULTS)) 19 = true := by
    rw [Dev.softTripped, Dev.rd_setFldBit _ _ _ (by decide), bitAt_setBit]
  have hp : SafPassed e.softTripped := by
    constructor <;> simp [Dev.softTripped, Dev.setFldBit, Dev.safPass]
  have hcount : Kept [] [] s.dev e := (Kept.refl s.dev).counted he
  have hout : e.out = s.dev.out := hcount.same (x := .out) (by simp)
  have hout' : e.softTripped.out = e.out := hk.same (x := .out) (by simp)
  obtain ⟨hkt, ht⟩ := trip_effect (d := s.dev) 20 0 (by decide) ((hk.rd (by simp) rfl).trans (he.rd (.saf .STATE_SEQ) rfl))
    ((hk.rd (by simp) rfl).trans (he.rd (.tck .COUNT_TICK) rfl)) (hout'.trans hout)
  show Kept _ _ e (e.softTripped.trip 20 0) ∧ _
  refine ⟨(hk.mono (by simp) (by simp)).trans (hkt.mono (List.subset_append_right _ _) (List.Subset.refl _)), ⟨?_, ?_⟩, ht, ?_⟩
  · exact (hkt.rd (by simp [tripRegs]) rfl).trans hp.1
  · exact (hkt.rd (by simp [tripRegs]) rfl).trans hp.2
  · exact (congrArg (bitAt · 19) (hkt.rd (by simp [tripRegs]) rfl)).trans hbit

/-! ### Reports of faults and warnings -/

/-- The reports taken off the line to SAFE (R475). -/
def Dev.reportsTaken (d : Dev) (n : Nat) : Dev := { d with toSafe := d.toSafe.drop n }

/-- The bits of the faults that arrive, set (R491). -/
def Dev.faultsSet (d : Dev) (fs : List Report) : Dev := fs.foldl (fun d r => d.setFldBit (.saf .FAULT_FAULTS) (r.code - 1)) d

theorem faultsSet_kept (d : Dev) (fs : List Report) : Kept [.saf .FAULT_FAULTS] [] d (d.faultsSet fs) :=
  .foldl fs _ (fun _ _ _ h => h.wr _ (by simp)) (.refl d)

theorem faultsSet_bits (d : Dev) (fs : List Report) (h : ∀ x ∈ fs, 1 ≤ x.code ∧ x.code ≤ 20) (k : Nat) :
    bitAt ((d.faultsSet fs).rd (.saf .FAULT_FAULTS)) k = (bitAt (d.rd (.saf .FAULT_FAULTS)) k || fs.any (fun x => x.code = k + 1)) := by
  induction fs generalizing d with
  | nil => simp [Dev.faultsSet]
  | cons x xs ih =>
    obtain ⟨hx, hxs⟩ := List.forall_mem_cons.mp h
    have hstep : d.faultsSet (x :: xs) = (d.setFldBit (.saf .FAULT_FAULTS) (x.code - 1)).faultsSet xs := rfl
    rw [hstep, ih _ hxs, Dev.rd_setFldBit _ _ _ (by rw [faults_width]; omega), bitAt_setBit_eq, List.any_cons, Bool.or_assoc]
    congr 2
    exact decide_eq_decide.mpr (by omega)

/-- The lowest code of faults of which one is lower than the others. -/
theorem foldl_min_code (fs : List Report) (m : Nat) {r : Report} (hr : r ∈ fs) (hm : r.code ≤ m) (h : ∀ x ∈ fs, r.code < x.code ∨ x = r) :
    fs.foldl (fun m r => min m r.code) m = r.code := by
  have hmin : ∀ (l : List Report) (m : Nat), r.code ≤ m → (∀ x ∈ l, r.code ≤ x.code) → (m = r.code ∨ r ∈ l) →
      l.foldl (fun m r => min m r.code) m = r.code := by
    intro l
    induction l with
    | nil => intro m _ _ h; simpa using h
    | cons y ys ih =>
      intro m hm hl h
      obtain ⟨hy, hys⟩ := List.forall_mem_cons.mp hl
      have hmin : r.code ≤ min m y.code := Nat.le_min.mpr ⟨hm, hy⟩
      refine ih _ hmin hys ?_
      rcases h with h | h
      · exact .inl (h ▸ Nat.min_eq_left (h ▸ hy))
      · rcases List.mem_cons.mp h with rfl | h
        · exact .inl (Nat.min_eq_right hm)
        · exact .inr h
  exact hmin fs m hm (fun x hx => (h x hx).elim Nat.le_of_lt fun e => e ▸ Nat.le_refl _) (.inr hr)

theorem find_lowest {fs : List Report} {r : Report} (hr : r ∈ fs) (h : ∀ x ∈ fs, r.code < x.code ∨ x = r) :
    fs.find? (fun x => x.code = r.code) = some r := by
  have hsome : (fs.find? (fun x => x.code = r.code)).isSome = true := List.find?_isSome.mpr ⟨r, hr, by simp⟩
  obtain ⟨x, hx⟩ := Option.isSome_iff_exists.mp hsome
  have hcode : x.code = r.code := by simpa using List.find?_some hx
  rcases h x (List.mem_of_find?_eq_some hx) with hlt | rfl
  · omega
  · exact hx

/-- Faults taken, of which `r` has the lowest code (R470, R491). -/
theorem takeFaults_lowest (d : Dev) {fs : List Report} {r : Report} (hr : r ∈ fs) (h : ∀ x ∈ fs, r.code < x.code ∨ x = r) (hc : r.code ≤ 31) :
    d.takeFaults fs =
      if d.safState = 1 then ((d.faultsSet fs).wrs [(.saf .STATE_STATE, 0), (.saf .RESULT_LAST, 8)]).wdtRestart
      else if d.safState = 2 ∨ d.safState = 4 then (d.faultsSet fs).trip r.code r.detail else d.faultsSet fs := by
  have hst : (d.faultsSet fs).safState = d.safState := (faultsSet_kept d fs).rd (by simp) rfl
  rw [Dev.takeFaults, foldl_min_code fs 31 hr hc h, find_lowest hr h]
  show (if (d.faultsSet fs).safState = 1 then _ else if (d.faultsSet fs).safState = 2 ∨ (d.faultsSet fs).safState = 4 then _ else _) = _
  rw [hst]
  rfl

section
variable {s : State} (hs : s.held = false) {r : Report} {n : Nat} {rs : List Report} (hrs : rs = s.dev.toSafe.take n) (hr : r ∈ rs)
  (hall : ∀ x ∈ rs, x.warn = false ∧ 1 ≤ x.code ∧ x.code ≤ 20 ∧ (r.code < x.code ∨ x = r))
include hs hrs hr hall

theorem exec_faultReport : exec (.faultReport n) s = .next { s with
  dev :=
    if s.dev.safState = 1 then (((s.dev.reportsTaken n).faultsSet rs).wrs [(.saf .STATE_STATE, 0), (.saf .RESULT_LAST, 8)]).wdtRestart
    else if s.dev.safState = 2 ∨ s.dev.safState = 4 then ((s.dev.reportsTaken n).faultsSet rs).trip r.code r.detail
    else (s.dev.reportsTaken n).faultsSet rs } := by
  have hw : rs.filter (·.warn) = [] := List.filter_eq_nil_iff.mpr fun x hx => by simp [(hall x hx).1]
  have hf : rs.filter (fun r => !r.warn) = rs := List.filter_eq_self.mpr fun x hx => by simp [(hall x hx).1]
  have htake := takeFaults_lowest (s.dev.reportsTaken n) hr (fun x hx => (hall x hx).2.2.2) (by have := (hall r hr).2.2.1; omega)
  show execFaultReport n s = _
  rw [execFaultReport, State.runSaf_live s _ hs]
  dsimp only
  rw [← hrs, hw, hf]
  exact congrArg (fun x => Host.Outcome.next { s with dev := x }) htake

omit hs hrs hr hall in
theorem reported_kept : Kept [.saf .FAULT_FAULTS] [.toSafe] s.dev ((s.dev.reportsTaken n).faultsSet rs) :=
  ((Kept.refl s.dev).withToSafe (s.dev.toSafe.drop n) (by simp)).trans ((faultsSet_kept _ rs).mono (by simp) (by simp))

omit hs hrs hr in
theorem reported_bits (k : Nat) : bitAt (((s.dev.reportsTaken n).faultsSet rs).rd (.saf .FAULT_FAULTS)) k =
    (bitAt (s.dev.rd (.saf .FAULT_FAULTS)) k || rs.any (fun x => x.code = k + 1)) :=
  faultsSet_bits _ rs (fun x hx => ⟨(hall x hx).2.1, (hall x hx).2.2.1⟩) k

omit hs hrs in
theorem reported_bit : bitAt (((s.dev.reportsTaken n).faultsSet rs).rd (.saf .FAULT_FAULTS)) (r.code - 1) = true := by
  have h1 := (hall r hr).2.1
  rw [reported_bits hall, List.any_eq_true.mpr ⟨r, hr, decide_eq_true (by omega)⟩, Bool.or_true]

omit hs hrs hr hall in
theorem reported_toSafe : ((s.dev.reportsTaken n).faultsSet rs).toSafe = s.dev.toSafe.drop n :=
  (faultsSet_kept (s.dev.reportsTaken n) rs).same (x := .toSafe) (by simp)

theorem effect_faultReport_trip (h : s.dev.safState = 2 ∨ s.dev.safState = 4) :
    Effect (.faultReport n) s (.saf .FAULT_FAULTS :: tripRegs) [.toSafe, .irqs, .out, .sbd] (fun t =>
      TrippedBy s.dev t r.code r.detail ∧ t.toSafe = s.dev.toSafe.drop n ∧
      ∀ k : Fin 20, bitAt (t.rd (.saf .FAULT_FAULTS)) k =
        (bitAt (s.dev.rd (.saf .FAULT_FAULTS)) k || rs.any (fun x => x.code = k.val + 1))) := by
  have hx := exec_faultReport hs hrs hr hall
  rw [if_neg (by omega), if_pos h] at hx
  have hk := reported_kept (s := s) (n := n) (rs := rs)
  have hcode := (hall r hr).2.2.1
  obtain ⟨hkt, ht⟩ := trip_effect (d := s.dev) r.code r.detail (by omega) (hk.rd (f := .saf .STATE_SEQ) (by simp) rfl)
    (hk.rd (f := .tck .COUNT_TICK) (by simp) rfl) (hk.same (x := .out) (by simp))
  refine .of_next hx ((hk.mono (by simp) (by simp)).trans (hkt.mono (by simp) (by simp))) ⟨ht, ?_, fun k => ?_⟩
  · exact Eq.trans (hkt.same (x := .toSafe) (by simp)) reported_toSafe
  · rw [hkt.rd (by simp [tripRegs]) rfl, reported_bits hall]

theorem effect_faultReport_arming (h : s.dev.safState = 1) :
    Effect (.faultReport n) s [.saf .FAULT_FAULTS, .saf .STATE_STATE, .saf .RESULT_LAST] [.toSafe, .sbd] (fun t =>
      t.safState = 0 ∧ t.rd (.saf .RESULT_LAST) = 8 ∧ bitAt (t.rd (.saf .FAULT_FAULTS)) (r.code - 1) = true) := by
  have hx := exec_faultReport hs hrs hr hall
  rw [if_pos h] at hx
  have hk := reported_kept (s := s) (n := n) (rs := rs)
  refine .of_next hx (kept_wdtRestart ((hk.mono (by simp) (by simp)).wrs _ (by simp)) (by simp)) ⟨by simp [Dev.safState], by simp, ?_⟩
  simpa using reported_bit hr hall

theorem effect_faultReport_noted (h : s.dev.safState = 0 ∨ s.dev.safState = 3) :
    Effect (.faultReport n) s [.saf .FAULT_FAULTS] [.toSafe] (fun t =>
      bitAt (t.rd (.saf .FAULT_FAULTS)) (r.code - 1) = true ∧ t.toSafe = s.dev.toSafe.drop n) := by
  have hx := exec_faultReport hs hrs hr hall
  rw [if_neg (by omega), if_neg (by omega)] at hx
  exact .of_next hx (reported_kept (s := s) (n := n) (rs := rs)) ⟨reported_bit hr hall, reported_toSafe⟩

end

/-- A warning sets its bit (R476). -/
theorem effect_faultReport_warning {s : State} (hs : s.held = false) {r : Report} {rs : List Report} (h : s.dev.toSafe = r :: rs)
    (hw : r.warn = true) (hc : r.code ≤ 6) :
    Effect (.faultReport 1) s [.saf .WARN_WARN, .saf .EVT_WARN] [.toSafe] (fun t =>
      bitAt (t.rd (.saf .WARN_WARN)) r.code = true ∧ t.rd (.saf .EVT_WARN) = 1 ∧ t.toSafe = rs) := by
  have hx : exec (.faultReport 1) s = .next { s with dev := (s.dev.reportsTaken 1).takeWarning r.code } := by
    show execFaultReport 1 s = _
    rw [execFaultReport, State.runSaf_live s _ hs]
    have hone : s.dev.toSafe.take 1 = [r] := by rw [h]; rfl
    have hwarn : [r].filter (·.warn) = [r] := List.filter_eq_self.mpr (by simp [hw])
    have hfault : [r].filter (fun r => !r.warn) = [] := List.filter_eq_nil_iff.mpr (by simp [hw])
    dsimp only
    rw [hone, hwarn, hfault]
    rfl
  refine .of_next hx ((((Kept.refl s.dev).withToSafe (s.dev.toSafe.drop 1) (by simp)).wr _ (by simp)).wr _ (by simp)) ⟨?_, ?_, ?_⟩
  · rw [Dev.takeWarning, Dev.rd_wr, if_neg (by simp), Dev.rd_setFldBit _ _ _ (by rw [warnings_width]; omega), bitAt_setBit]
  · simp [Dev.takeWarning]
  · simp [Dev.takeWarning, Dev.setFldBit, Dev.reportsTaken, h]

/-! ### Faulted pairs -/

/-- The fields of the engine pairs' states. -/
def pairRegs : List Fld :=
  .saf .CNT_PAIRS_CLEARED :: ((List.range 8).map (fun p => Fld.eng (.PAIR_STATUS_STATE_A p)) ++ (List.range 8).map (fun p => Fld.eng (.PAIR_STATUS_STATE_B p)))

/-- The fields of one pair's state. -/
def pairFields (p : Nat) : List Fld := [.saf .CNT_PAIRS_CLEARED, .eng (.PAIR_STATUS_STATE_A p), .eng (.PAIR_STATUS_STATE_B p)]

/-- An engine that is FAULTED returned to IDLE (R469). -/
def Dev.unfaulted (d : Dev) (x : Nat) : Dev := if d.engState x = 4 then d.setEngState x 0 else d

/-- A pair that is FAULTED returned to IDLE (R469). -/
def Dev.pairCleared (d : Dev) (p : Nat) : Dev :=
  if d.engState (2 * p) = 4 ∨ d.engState (2 * p + 1) = 4 then ((d.unfaulted (2 * p)).unfaulted (2 * p + 1)).inc (.saf .CNT_PAIRS_CLEARED) else d

theorem clearPairs_eq (d : Dev) : d.clearPairs = (List.range 8).foldl Dev.pairCleared d := rfl

theorem kept_setEngState {F : List Fld} {P : List Part} {d e : Dev} (h : Kept F P d e) (x v : Nat) (hF : pairFields (x / 2) ⊆ F) :
    Kept F P d (e.setEngState x v) := by
  have ha : .eng (.PAIR_STATUS_STATE_A (pairOf x)) ∈ F := hF (by simp [pairFields, pairOf])
  have hb : .eng (.PAIR_STATUS_STATE_B (pairOf x)) ∈ F := hF (by simp [pairFields, pairOf])
  rw [Dev.setEngState]
  refine .ite _ (fun _ => (h.wr _ ha).wr _ hb) fun _ => ?_
  split
  · exact h.wr _ ha
  · exact h.wr _ hb

/-- An engine set idle is idle, and the other one of its pair is or is as before. -/
theorem engState_setEngState_zero (d : Dev) (x y : Nat) :
    (d.setEngState x 0).engState y = 0 ∨ (y ≠ x ∧ (d.setEngState x 0).engState y = d.engState y) := by
  by_cases hp : pairOf y = pairOf x
  · have hyx : y ≠ x ↔ y % 2 ≠ x % 2 := by unfold pairOf at hp; omega
    rw [hyx, Dev.engState, Dev.engState, Dev.setEngState, hp]
    cases d.lockstep (pairOf x) <;> rcases Nat.mod_two_eq_zero_or_one x with hx | hx <;> rcases Nat.mod_two_eq_zero_or_one y with hy | hy <;>
      simp [hx, hy]
  · refine .inr ⟨fun h => hp (h ▸ rfl), ?_⟩
    have hk : Kept [.eng (.PAIR_STATUS_STATE_A (pairOf x)), .eng (.PAIR_STATUS_STATE_B (pairOf x))] [] d (d.setEngState x 0) := by
      rw [Dev.setEngState]
      refine .ite _ (fun _ => ((Kept.refl d).wr _ (by simp)).wr _ (by simp)) fun _ => ?_
      exact (Kept.refl d).wr _ (by split <;> simp)
    rw [Dev.engState, Dev.engState, hk.rd (by split <;> simp [hp]) rfl]

theorem pairCleared_kept (d : Dev) (p : Nat) : Kept (pairFields p) [] d (d.pairCleared p) := by
  have h0 : 2 * p / 2 = p := by omega
  have h1 : (2 * p + 1) / 2 = p := by omega
  rw [Dev.pairCleared]
  refine .ite _ (fun _ => ?_) fun _ => .refl d
  have hturn : ∀ {e : Dev} (x : Nat), x / 2 = p → Kept (pairFields p) [] d e → Kept (pairFields p) [] d (e.unfaulted x) := fun x hx h => by
    unfold Dev.unfaulted
    exact .ite _ (fun _ => kept_setEngState h _ _ (by rw [hx]; simp)) fun _ => h
  exact (hturn _ h1 (hturn _ h0 (.refl d))).inc (by simp [pairFields])

theorem engState_pairCleared_other (d : Dev) {p x : Nat} (h : x / 2 ≠ p) : (d.pairCleared p).engState x = d.engState x := by
  rw [Dev.engState, Dev.engState, (pairCleared_kept d p).rd (by simp only [pairOf]; split <;> simp [pairFields, h]) rfl]

theorem engState_inc (d : Dev) (f : SafF) (x : Nat) : (d.inc (.saf f)).engState x = d.engState x := by
  rw [Dev.engState, Dev.rd_inc, if_neg (by split <;> simp)]
  rfl

/-- The engines of a pair after it has been cleared: one that was FAULTED is IDLE (R469). -/
theorem engState_pairCleared (d : Dev) {x : Nat} (h : d.engState x = 4) : (d.pairCleared (x / 2)).engState x = 0 := by
  have hmoved : ∀ (e : Dev) (y : Nat), (e.unfaulted y).engState x = 0 ∨ (e.unfaulted y).engState x = e.engState x := fun e y => by
    unfold Dev.unfaulted
    split
    · exact (engState_setEngState_zero e y x).imp id And.right
    · exact .inr rfl
  have hself : ∀ e : Dev, e.engState x = 4 → (e.unfaulted x).engState x = 0 := fun e he => by
    rw [Dev.unfaulted, if_pos he]
    exact (engState_setEngState_zero e x x).resolve_right fun hn => hn.1 rfl
  rcases Nat.mod_two_eq_zero_or_one x with hx | hx
  · have heven : 2 * (x / 2) = x := by omega
    rw [Dev.pairCleared, heven, if_pos (.inl h), engState_inc]
    exact (hmoved _ _).elim id fun hs => hs.trans (hself d h)
  · have hodd : 2 * (x / 2) + 1 = x := by omega
    rw [Dev.pairCleared, hodd, if_pos (.inr h), engState_inc]
    rcases hmoved d (2 * (x / 2)) with h0 | h4
    · exact (hmoved _ x).elim id fun hs => hs.trans h0
    · exact hself _ (h4.trans h)

theorem clearPairs_kept (d : Dev) : Kept pairRegs [] d d.clearPairs := by
  rw [clearPairs_eq]
  refine .foldl _ _ (fun a p hp h => h.trans ((pairCleared_kept a p).mono ?_ (by simp))) (.refl d)
  have hp8 := List.mem_range.mp hp
  simp [pairFields, pairRegs, hp8]

theorem engState_clearPairs (d : Dev) {x : Nat} (hx : x < 16) (h : d.engState x = 4) : d.clearPairs.engState x = 0 := by
  have hloop : ∀ n, (n ≤ x / 2 → ((List.range n).foldl Dev.pairCleared d).engState x = d.engState x) ∧
      (x / 2 < n → ((List.range n).foldl Dev.pairCleared d).engState x = 0) := by
    intro n
    induction n with
    | zero => simp
    | succ n ih =>
      rw [List.range_succ, List.foldl_append, List.foldl_cons, List.foldl_nil]
      refine ⟨fun hle => (engState_pairCleared_other _ (by omega)).trans (ih.1 (by omega)), fun hlt => ?_⟩
      rcases Nat.lt_or_ge (x / 2) n with hn | hn
      · exact (engState_pairCleared_other _ (by omega)).trans (ih.2 hn)
      · obtain rfl : n = x / 2 := by omega
        exact engState_pairCleared _ ((ih.1 (Nat.le_refl _)).trans h)
  rw [clearPairs_eq]
  exact (hloop 8).2 (by omega)

/-! ### Channel states -/

/-- The fields of the monitor's channels that a re-arm writes. -/
def bcRegs : List Fld :=
  (List.range 16).map (fun c => Fld.saf (.BC_LAST_TICK_TICK c)) ++ (List.range 16).map (fun c => Fld.saf (.BC_STATUS_SEQ_VALID c)) ++
  (List.range 16).map (fun c => Fld.saf (.BC_STATUS_STATE c))

/-- A channel's state after a re-arm at boundary `k` (R469). -/
def Dev.channelRearmed (k : Nat) (d : Dev) (c : Nat) : Dev :=
  if d.is (.saf (.BC_CFG_EN c)) then
    d.wrs [(.saf (.BC_LAST_TICK_TICK c), k % 2 ^ 32), (.saf (.BC_STATUS_SEQ_VALID c), 0), (.saf (.BC_STATUS_STATE c), 0)]
  else d

/-- The channels' states after a re-arm (R469). -/
def Dev.channelsRearmed (d : Dev) (k : Nat) : Dev := (List.range 16).foldl (Dev.channelRearmed k) d

theorem channelRearmed_kept (k : Nat) (d : Dev) (c : Nat) :
    Kept [.saf (.BC_LAST_TICK_TICK c), .saf (.BC_STATUS_SEQ_VALID c), .saf (.BC_STATUS_STATE c)] [] d (d.channelRearmed k c) :=
  .ite _ (fun _ => (Kept.refl d).wrs _ (by simp)) fun _ => .refl d

theorem channelsRearmed_kept (d : Dev) (k : Nat) : Kept bcRegs [] d (d.channelsRearmed k) := by
  refine .foldl _ _ (fun a c hc h => h.trans ((channelRearmed_kept k a c).mono ?_ (by simp))) (.refl d)
  have hc16 := List.mem_range.mp hc
  simp [bcRegs, hc16]

theorem channelsRearmed_states (d : Dev) (k : Nat) {c : Nat} (hc : c < 16) (h : d.rd (.saf (.BC_CFG_EN c)) ≠ 0) :
    (d.channelsRearmed k).rd (.saf (.BC_LAST_TICK_TICK c)) = k % 2 ^ 32 ∧ (d.channelsRearmed k).rd (.saf (.BC_STATUS_SEQ_VALID c)) = 0 ∧
      (d.channelsRearmed k).rd (.saf (.BC_STATUS_STATE c)) = 0 := by
  have hloop : ∀ n, (let e := (List.range n).foldl (Dev.channelRearmed k) d
      e.rd (.saf (.BC_CFG_EN c)) = d.rd (.saf (.BC_CFG_EN c)) ∧ (c < n →
        e.rd (.saf (.BC_LAST_TICK_TICK c)) = k % 2 ^ 32 ∧ e.rd (.saf (.BC_STATUS_SEQ_VALID c)) = 0 ∧ e.rd (.saf (.BC_STATUS_STATE c)) = 0)) := by
    intro n
    induction n with
    | zero => simp
    | succ n ih =>
      rw [List.range_succ, List.foldl_append, List.foldl_cons, List.foldl_nil]
      obtain ⟨hen, hdone⟩ := ih
      have hk := channelRearmed_kept k ((List.range n).foldl (Dev.channelRearmed k) d) n
      refine ⟨(hk.rd (by simp) rfl).trans hen, fun hlt => ?_⟩
      by_cases hcn : c = n
      · subst hcn
        rw [Dev.channelRearmed, if_pos (by rw [Dev.is_eq_true_iff, hen]; exact h)]
        exact ⟨by simp, by simp, by simp⟩
      · obtain ⟨h1, h2, h3⟩ := hdone (by omega)
        exact ⟨(hk.rd (by simp [hcn]) rfl).trans h1, (hk.rd (by simp [hcn]) rfl).trans h2, (hk.rd (by simp [hcn]) rfl).trans h3⟩
  exact (hloop 16).2 hc

/-! ### Entering ARMED -/

/-- What a re-arm writes before the pins are driven (R469). -/
def Dev.rearmLogged (d : Dev) : Dev :=
  ((if d.safState = 4 then d.inc (.saf .CNT_RECOVERIES) else d).wrs [(.saf .STATE_STATE, 2), (.saf .EVT_REARM, 1)]).hepEvent 13

/-- The device of a re-arm, its pins driven and its pairs and channels cleared (R469). -/
def Dev.rearmDriven (d : Dev) (k : Nat) : Dev := ((d.rearmLogged.drive true).clearPairs).channelsRearmed k

/-- The end of a re-arm (R469). -/
def Dev.rearmEnded (d : Dev) : Dev :=
  ({ d with
    safeCore := false
    saf := { d.saf with haAt := d.now, outDead := false } } : Dev).wrs [(.saf .HA_STATUS_EXPIRED, 0), (.saf .MON_STATUS_SCRUB_AGE, 0)]

theorem rearm_eq (d : Dev) (k : Nat) : d.rearm k = (d.rearmDriven k).rearmEnded := by
  have hturn : (fun (d : Dev) c => if d.is (.saf (.BC_CFG_EN c)) then
      d.wrs [(.saf (.BC_LAST_TICK_TICK c), k % 2 ^ 32), (.saf (.BC_STATUS_SEQ_VALID c), 0), (.saf (.BC_STATUS_STATE c), 0)]
    else d) = Dev.channelRearmed k := rfl
  have hloop : ∀ e : Dev, (List.range 16).foldl (Dev.channelRearmed k) e = e.channelsRearmed k := fun _ => rfl
  simp only [Dev.rearm, hturn, hloop]
  simp only [Dev.rearmEnded, Dev.rearmDriven, Dev.rearmLogged]

theorem rearmLogged_kept (d : Dev) : Kept [.saf .CNT_RECOVERIES, .saf .STATE_STATE, .saf .EVT_REARM] [.irqs] d d.rearmLogged := by
  unfold Dev.rearmLogged
  exact ((Kept.ite _ (fun _ => (Kept.refl d).inc (by simp)) fun _ => .refl d).wrs _ (by simp)).hepEvent _ (by simp)

theorem rearmCleared_kept (d : Dev) (k : Nat) : Kept (pairRegs ++ bcRegs) [] (d.rearmLogged.drive true) (d.rearmDriven k) :=
  ((clearPairs_kept _).mono (List.subset_append_left _ _) (by simp)).trans
    ((channelsRearmed_kept _ k).mono (List.subset_append_right _ _) (by simp))

theorem rearmEnded_kept (d : Dev) : Kept [.saf .HA_STATUS_EXPIRED, .saf .MON_STATUS_SCRUB_AGE] [.safeCore, .saf] d d.rearmEnded := by
  unfold Dev.rearmEnded
  exact (((Kept.refl d).withSafeCore false (by simp)).withSaf { d.saf with haAt := d.now, outDead := false } (by simp)).wrs _ (by simp)

theorem mem_rearmRegs {f : Fld} (h : f ∈ pairRegs ++ bcRegs) : f ∈ rearmRegs := by
  simp only [pairRegs, bcRegs, List.mem_append, List.mem_cons] at h
  simp only [rearmRegs, List.mem_append, List.mem_cons]
  tauto

theorem rearm_kept (d : Dev) (k : Nat) : Kept rearmRegs [.saf, .safeCore, .irqs, .out] d (d.rearm k) := by
  have h1 : Kept rearmRegs [.saf, .safeCore, .irqs, .out] d (d.rearmLogged.drive true) :=
    kept_drive ((rearmLogged_kept d).mono (by simp [rearmRegs]) (by simp)) _ (by simp [rearmRegs]) (by simp)
  have h2 := h1.trans ((rearmCleared_kept d k).mono (fun _ => mem_rearmRegs) (by simp))
  exact rearm_eq d k ▸ h2.trans ((rearmEnded_kept _).mono (by simp [rearmRegs]) (by simp))

/-- What the later stages of a re-arm leave of its first (R469). -/
theorem rearm_later (d : Dev) (k : Nat) :
    Kept (pairRegs ++ bcRegs ++ [.saf .HA_STATUS_EXPIRED, .saf .MON_STATUS_SCRUB_AGE]) [.safeCore, .saf] (d.rearmLogged.drive true) (d.rearm k) :=
  rearm_eq d k ▸ ((rearmCleared_kept d k).mono (List.subset_append_left _ _) (by simp)).trans
    ((rearmEnded_kept _).mono (List.subset_append_right _ _) (by simp))

theorem rearm_logged (d : Dev) (k : Nat) {f : Fld} (hf : f ∉ pairRegs ++ bcRegs) (hn : isCount f = false)
    (hg : f ∉ ([.saf .HA_STATUS_EXPIRED, .saf .MON_STATUS_SCRUB_AGE, .saf .PIN_STATUS_OUT_A, .saf .PIN_STATUS_OUT_B, .saf .PIN_STATUS_READBACK_ERR] : List Fld)) :
    (d.rearm k).rd f = d.rearmLogged.rd f := by
  simp only [List.mem_cons, List.not_mem_nil, or_false, not_or] at hg
  obtain ⟨h1, h2, h3, h4, h5⟩ := hg
  rw [(rearm_later d k).rd (by simp only [List.mem_append, List.mem_cons, List.not_mem_nil, or_false, not_or] at hf ⊢; exact ⟨hf, h1, h2⟩) hn]
  exact (kept_drive (F := [.saf .PIN_STATUS_OUT_A, .saf .PIN_STATUS_OUT_B, .saf .PIN_STATUS_READBACK_ERR]) (P := [.out]) (.refl _) true (by simp)
    (by simp)).rd (by simp [h3, h4, h5]) hn

theorem rearm_states (d : Dev) (k : Nat) :
    (d.rearm k).safState = 2 ∧ (d.rearm k).rd (.saf .EVT_REARM) = 1 ∧ (d.safState = 4 → Counts d (d.rearm k) (.saf .CNT_RECOVERIES)) := by
  refine ⟨?_, ?_, fun h => ?_⟩
  · rw [Dev.safState, rearm_logged d k (by simp [pairRegs, bcRegs]) rfl (by simp)]
    simp [Dev.rearmLogged]
  · rw [rearm_logged d k (by simp [pairRegs, bcRegs]) rfl (by simp)]
    simp [Dev.rearmLogged]
  · rw [Counts, rearm_logged d k (by simp [pairRegs, bcRegs]) rfl (by simp), Dev.rearmLogged, if_pos h]
    simp [Dev.rd_inc]

theorem rearm_driven (d : Dev) (k : Nat) : Driven d (d.rearm k) true :=
  driven_trans (driven_drive true ((rearmLogged_kept d).same (x := .out) (by simp))) (rearm_later d k) (by simp [pairRegs, bcRegs]) (by simp)

theorem rearm_now (d : Dev) (k : Nat) : (d.rearmDriven k).now = d.now := by
  have h1 := ((rearmCleared_kept d k).same (x := .time) (by simp)).1
  have h2 := ((kept_drive (F := [.saf .PIN_STATUS_OUT_A, .saf .PIN_STATUS_OUT_B, .saf .PIN_STATUS_READBACK_ERR]) (P := [.out]) (.refl d.rearmLogged) true
    (by simp) (by simp)).same (x := .time) (by simp)).1
  exact h1.trans (h2.trans ((rearmLogged_kept d).same (x := .time) (by simp)).1)

theorem rearm_engState (d : Dev) (k : Nat) {x : Nat} (hx : x < 16) (h : d.engState x = 4) : (d.rearm k).engState x = 0 := by
  have hstate : ∀ {F P} {a b : Dev}, Kept F P a b → (∀ p, Fld.eng (.PAIR_STATUS_STATE_A p) ∉ F) → (∀ p, Fld.eng (.PAIR_STATUS_STATE_B p) ∉ F) →
      b.engState x = a.engState x := fun hk ha hb => by
    unfold Dev.engState
    exact hk.rd (by split; exacts [ha _, hb _]) rfl
  have h1 : (d.rearmLogged.drive true).engState x = 4 := by
    refine Eq.trans (hstate (kept_drive (P := [.out]) (.refl _) true (List.Subset.refl _) (by simp)) (by simp) (by simp)) ?_
    exact (hstate (rearmLogged_kept d) (by simp) (by simp)).trans h
  have h2 : (d.rearmDriven k).engState x = 0 :=
    (hstate (channelsRearmed_kept _ k) (by simp [bcRegs]) (by simp [bcRegs])).trans (engState_clearPairs _ hx h1)
  exact rearm_eq d k ▸ (hstate (rearmEnded_kept _) (by simp) (by simp)).trans h2

theorem rearm_channel (d : Dev) (k : Nat) {c : Nat} (hc : c < 16) (h : d.rd (.saf (.BC_CFG_EN c)) ≠ 0) :
    (d.rearm k).rd (.saf (.BC_LAST_TICK_TICK c)) = k % 2 ^ 32 ∧ (d.rearm k).rd (.saf (.BC_STATUS_SEQ_VALID c)) = 0 ∧
      (d.rearm k).rd (.saf (.BC_STATUS_STATE c)) = 0 := by
  have hen : (d.rearmLogged.drive true).clearPairs.rd (.saf (.BC_CFG_EN c)) = d.rd (.saf (.BC_CFG_EN c)) := by
    rw [(clearPairs_kept _).rd (by simp [pairRegs]) rfl, ← (rearmLogged_kept d).rd (f := .saf (.BC_CFG_EN c)) (by simp) rfl]
    exact (kept_drive (P := [.out]) (.refl _) true (List.Subset.refl _) (by simp)).rd (by simp) rfl
  obtain ⟨h1, h2, h3⟩ := channelsRearmed_states (d.rearmLogged.drive true).clearPairs k hc (by rw [hen]; exact h)
  have hk := rearmEnded_kept (d.rearmDriven k)
  rw [rearm_eq]
  exact ⟨(hk.rd (by simp) rfl).trans h1, (hk.rd (by simp) rfl).trans h2, (hk.rd (by simp) rfl).trans h3⟩

/-! ### Heartbeats -/

/-- A heartbeat taken: the tick watchdog restarts (R478). -/
def Dev.beatTaken (d : Dev) (bs : List Pulse) : Dev :=
  { d with
    tick := { d.tick with toSafe := bs }
    saf := { d.saf with hbAt := d.now, hbN := d.rd (.tck .PERIOD_N), hbDone := false } }

/-- A heartbeat taken and the scrub pass aged (R480). -/
def Dev.beatAged (d : Dev) (bs : List Pulse) : Dev :=
  if d.saf.scrubRun then (d.beatTaken bs).wr (.saf .MON_STATUS_SCRUB_AGE) (min 255 (d.rd (.saf .MON_STATUS_SCRUB_AGE) + 1)) else d.beatTaken bs

theorem beatAged_kept (d : Dev) (bs : List Pulse) : Kept [.saf .MON_STATUS_SCRUB_AGE] [.tick, .saf] d (d.beatAged bs) := by
  have h : Kept [.saf .MON_STATUS_SCRUB_AGE] [.tick, .saf] d (d.beatTaken bs) :=
    ((Kept.refl d).withTick { d.tick with toSafe := bs } (by simp)).withSaf { d.saf with hbAt := d.now, hbN := d.rd (.tck .PERIOD_N), hbDone := false } (by simp)
  rw [Dev.beatAged]
  split
  · exact h.wr _ (by simp)
  · exact h

theorem beatAged_parts (d : Dev) (bs : List Pulse) : (d.beatAged bs).tick = { d.tick with toSafe := bs } ∧
    (d.beatAged bs).saf = { d.saf with hbAt := d.now, hbN := d.rd (.tck .PERIOD_N), hbDone := false } := by
  rw [Dev.beatAged]
  split <;> exact ⟨rfl, rfl⟩

theorem beatAged_age (d : Dev) (bs : List Pulse) : (d.beatAged bs).rd (.saf .MON_STATUS_SCRUB_AGE) =
    if d.saf.scrubRun then min 255 (d.rd (.saf .MON_STATUS_SCRUB_AGE) + 1) else d.rd (.saf .MON_STATUS_SCRUB_AGE) := by
  rw [Dev.beatAged]
  split
  · rw [Dev.rd_wr, if_pos rfl, scrubAge_width]
    omega
  · rfl

section
variable {s : State} (hs : s.held = false) {b : Pulse} {bs : List Pulse} (h : s.dev.tick.toSafe = b :: bs) (hd : s.dev.pwr.dip = none)

/-- A heartbeat taken leaves what the monitor decides by (R469). -/
theorem beat_congr (s : State) (bs : List Pulse) :
    (s.dev.beatAged bs).safState = s.dev.safState ∧ (s.dev.beatAged bs).armCheck s.otp = s.dev.armCheck s.otp :=
  ⟨(beatAged_kept s.dev bs).rd (by simp) rfl, armCheck_congr (beatAged_kept s.dev bs) (by simp [armFields]) (by simp) (by simp) _⟩

include hs h hd

theorem exec_tickHeartbeat : exec .tickHeartbeat s = .next { s with dev := (s.dev.beatAged bs).beatMonitor s.otp b.tick } := by
  have hdip : (s.dev.beatAged bs).pwr = s.dev.pwr := (beatAged_kept s.dev bs).same (x := .pwr) (by simp)
  show execTickHeartbeat s = _
  rw [execTickHeartbeat, State.runSaf_live s _ hs]
  simp only [h]
  show Host.Outcome.next { s with
    dev := (if (s.dev.beatAged bs).pwr.dip.any (fun x => Dip.qualified x) = true then _ else (s.dev.beatAged bs)).beatMonitor s.otp b.tick } = _
  rw [if_neg (by rw [hdip, hd]; simp)]

theorem effect_tickHeartbeat_kept (h1 : s.dev.safState ≠ 1) (h4 : s.dev.safState = 4 → s.dev.armCheck s.otp ≠ none)
    (h2 : s.dev.safState = 2 → s.dev.saf.outDead = false) :
    Effect .tickHeartbeat s [.saf .MON_STATUS_SCRUB_AGE] [.tick, .saf] (fun t =>
      t.rd (.saf .MON_STATUS_SCRUB_AGE) =
        (if s.dev.saf.scrubRun then min 255 (s.dev.rd (.saf .MON_STATUS_SCRUB_AGE) + 1) else s.dev.rd (.saf .MON_STATUS_SCRUB_AGE)) ∧
      t.tick = { s.dev.tick with toSafe := bs } ∧
      t.saf = { s.dev.saf with hbAt := s.dev.now, hbN := s.dev.rd (.tck .PERIOD_N), hbDone := false }) := by
  have hx := exec_tickHeartbeat hs h hd
  obtain ⟨hst, hcheck⟩ := beat_congr s bs
  obtain ⟨htick, hsaf⟩ := beatAged_parts s.dev bs
  have hmon : (s.dev.beatAged bs).beatMonitor s.otp b.tick = s.dev.beatAged bs := by
    rw [Dev.beatMonitor, hst, hcheck, hsaf]
    by_cases h4' : s.dev.safState = 4
    · obtain ⟨k, hk⟩ := Option.ne_none_iff_exists'.mp (h4 h4')
      rw [if_pos (.inr h4'), hk]
      exact if_neg h1
    · rw [if_neg (by omega), if_neg fun hn => by simp [h2 hn.1] at hn]
  exact .of_next (hmon ▸ hx) (beatAged_kept s.dev bs) ⟨beatAged_age s.dev bs, htick, hsaf⟩

theorem effect_tickHeartbeat_revived (h2 : s.dev.safState = 2) (hout : s.dev.saf.outDead = true) :
    Effect .tickHeartbeat s
      [.saf .MON_STATUS_SCRUB_AGE, .saf .PIN_STATUS_OUT_A, .saf .PIN_STATUS_OUT_B, .saf .PIN_STATUS_READBACK_ERR] [.tick, .saf, .out]
      (fun t => Driven s.dev t true ∧ t.saf.outDead = false ∧ t.saf.hbAt = s.dev.now) := by
  have hx := exec_tickHeartbeat hs h hd
  obtain ⟨hst, -⟩ := beat_congr s bs
  obtain ⟨-, hsaf⟩ := beatAged_parts s.dev bs
  have hk := beatAged_kept s.dev bs
  rw [Dev.beatMonitor, hst, if_neg (by omega), if_pos ⟨h2, by rw [hsaf]; exact hout⟩] at hx
  refine .of_next hx ?_ ⟨driven_drive true (hk.same (x := .out) (by simp)), rfl, ?_⟩
  · exact kept_drive ((hk.mono (by simp) (by simp)).withSaf { (s.dev.beatAged bs).saf with outDead := false } (by simp)) true (by simp) (by simp)
  · show (s.dev.beatAged bs).saf.hbAt = _
    rw [hsaf]

theorem effect_tickHeartbeat_failed {c : Nat} (h1 : s.dev.safState = 1) (hc : s.dev.armCheck s.otp = some c) :
    Effect .tickHeartbeat s [.saf .MON_STATUS_SCRUB_AGE, .saf .STATE_STATE, .saf .RESULT_LAST] [.tick, .saf, .sbd] (fun t =>
      t.safState = 0 ∧ t.rd (.saf .RESULT_LAST) = c ∧ t.saf.hbAt = s.dev.now) := by
  have hx := exec_tickHeartbeat hs h hd
  obtain ⟨hst, hcheck⟩ := beat_congr s bs
  obtain ⟨-, hsaf⟩ := beatAged_parts s.dev bs
  rw [Dev.beatMonitor, hst, hcheck, if_pos (.inl h1), hc] at hx
  dsimp only at hx
  rw [if_pos h1] at hx
  have hk := beatAged_kept s.dev bs
  refine .of_next hx (kept_wdtRestart ((hk.mono (by simp) (by simp)).wrs _ (by simp)) (by simp))
    ⟨by simp [Dev.safState], by simp [Nat.mod_eq_of_lt (armCheck_lt hc)], ?_⟩
  show ((s.dev.beatAged bs).wrs _).saf.hbAt = _
  simp [hsaf]

theorem effect_tickHeartbeat_armed (h14 : s.dev.safState = 1 ∨ s.dev.safState = 4) (hc : s.dev.armCheck s.otp = none) :
    Effect .tickHeartbeat s rearmRegs [.tick, .saf, .safeCore, .irqs, .out] (fun t =>
      t.safState = 2 ∧ t.rd (.saf .EVT_REARM) = 1 ∧ Driven s.dev t true ∧ t.safeCore = false ∧ t.saf.haAt = s.dev.now ∧
      (s.dev.safState = 4 → Counts s.dev t (.saf .CNT_RECOVERIES)) ∧
      (∀ e : Fin 16, s.dev.engState e = 4 → t.engState e = 0) ∧
      (∀ c : Fin 16, s.dev.rd (.saf (.BC_CFG_EN c)) ≠ 0 →
        t.rd (.saf (.BC_LAST_TICK_TICK c)) = b.tick % 2 ^ 32 ∧ t.rd (.saf (.BC_STATUS_SEQ_VALID c)) = 0 ∧
          t.rd (.saf (.BC_STATUS_STATE c)) = 0)) := by
  have hx := exec_tickHeartbeat hs h hd
  obtain ⟨hst, hcheck⟩ := beat_congr s bs
  rw [Dev.beatMonitor, hst, hcheck, if_pos h14, hc] at hx
  have hk := beatAged_kept s.dev bs
  generalize s.dev.beatAged bs = e at hx hst hk
  obtain ⟨h2, hrearm, hrec⟩ := rearm_states e b.tick
  obtain ⟨hnow, -, -⟩ : Part.Same s.dev e .time := hk.same (by simp)
  have hout : e.out = s.dev.out := hk.same (x := .out) (by simp)
  have heng : ∀ x, e.engState x = s.dev.engState x := fun x => by
    unfold Dev.engState
    exact hk.rd (by split <;> simp) rfl
  refine .of_next hx ((hk.mono (by simp [rearmRegs]) (by simp)).trans ((rearm_kept e b.tick).mono (List.Subset.refl _) (by simp)))
    ⟨h2, hrearm, ?_, ?_, ?_, fun h4 => ?_, fun x hx4 => rearm_engState e _ x.isLt ((heng x).trans hx4), fun c hen => ?_⟩
  · obtain ⟨ha, hb, hrb, ho⟩ := rearm_driven e b.tick
    exact ⟨ha, hb, hrb, ho.trans (by rw [hout])⟩
  · rw [rearm_eq]
    simp [Dev.rearmEnded]
  · rw [rearm_eq]
    simp [Dev.rearmEnded, rearm_now, hnow]
  · have hcount := hrec (hst.trans h4)
    rw [Counts, hk.rd (by simp) rfl] at hcount
    exact hcount
  · exact rearm_channel e b.tick c.isLt (by rw [hk.rd (by simp) rfl]; exact hen)

end

/-! ### The statement -/

/-- Settles O42: each clause is the effect of its command in its state of the monitor. -/
theorem monitorCommandsAndReports : Obligations.MonitorCommandsAndReports := by
  unfold Obligations.MonitorCommandsAndReports
  intro s seq ha
  have hs := ha.1
  refine ⟨monitorArm_refused s ha, fun c h hc => monitorArm_failed s ha h hc, fun h hc => monitorArm_passed s ha h hc,
    fun h => ⟨monitorRecover_refused s ha seq h, monitorDisarm_refused s ha h⟩, fun h => ⟨monitorRecover_stale s ha seq h, fun hq =>
      ⟨fun c hc => monitorRecover_failed s ha seq h hq hc, monitorRecover_passed s ha seq h hq⟩, monitorTrip_refused s ha (.inr h),
      effect_monitorDisarm s ha h⟩, fun h => monitorTrip_refused s ha (.inl h), effect_monitorTrip s ha, ?_, ?_, ?_⟩
  · rintro b bs age hb hd rfl
    exact ⟨effect_tickHeartbeat_kept hs hb hd, effect_tickHeartbeat_revived hs hb hd, fun c h hc => effect_tickHeartbeat_failed hs hb hd h hc,
      effect_tickHeartbeat_armed hs hb hd⟩
  · intro r n rs hrs hr hall
    exact ⟨effect_faultReport_trip hs hrs hr hall, effect_faultReport_arming hs hrs hr hall, effect_faultReport_noted hs hrs hr hall⟩
  · exact fun r rs h hw hc => effect_faultReport_warning hs h hw hc

end Sys2Proof.Machine
end

section
-- The theorems are elaborated in order, which keeps the memory that a check of the whole text takes within its limit.
set_option Elab.async false

/-! SUPPORT.  Requests of the DMA engines to the host (R316 to R327). -/

namespace Sys2Proof.Machine

open Sys2Proof.Safety Sys2Proof.Claims

/-! ### The choice of a client -/

/-- Tries that fail leave the choice to those after them. -/
theorem firstSome_skip {a b : List (Unit → Option Dev)} (h : ∀ t ∈ a, t () = none) : firstSome (a ++ b) = firstSome b := by
  rw [firstSome, List.findSome?_append, List.findSome?_eq_none_iff.mpr h, Option.none_or, firstSome]

/-- The choice among groups of tries of which only one's succeed. -/
theorem firstSome_only {l : List Nat} {g : Nat → List (Unit → Option Dev)} {c : Nat} {e : Dev} (hc : c ∈ l)
    (hother : ∀ x ∈ l, x ≠ c → ∀ t ∈ g x, t () = none) (h : firstSome (g c) = some e) : firstSome (l.flatMap g) = some e := by
  induction l with
  | nil => simp at hc
  | cons x xs ih =>
    rw [List.flatMap_cons]
    by_cases hx : x = c
    · subst hx
      rw [firstSome, List.findSome?_append]
      rw [firstSome] at h
      rw [h, Option.some_or]
    · rw [firstSome_skip (hother x (by simp) hx)]
      exact ih ((List.mem_cons.mp hc).resolve_left fun h => hx h.symm) fun y hy => hother y (by simp [hy])

/-- The try of channel `x` to write what waits in the Vat (R325). -/
def Dev.drainTry (d : Dev) (write : Bool) (x : Nat) (_ : Unit) : Option Dev :=
  match d.xfer x with
  | some v =>
    if write ∧ !v.waiting.isEmpty ∧ (d.chDrain x 4096).chAfter x ≠ d then some ((d.chDrain x 4096).chAfter x) else none
  | none => none

/-- Linked-list channel `c` is the last one served (R316). -/
def Dev.lastTurn (d : Dev) (c : Nat) : Dev := { d with dma := { d.dma with lastLl := c } }

/-- The tries of linked-list channel `c` (R316). -/
def Dev.listTries (d : Dev) (write : Bool) (c : Nat) : List (Unit → Option Dev) :=
  [d.drainTry write c, fun _ => (d.chIssue c (!write)).map (fun e => e.lastTurn c), fun _ => if write then none else (d.llFetch c).map (fun e => e.lastTurn c)]

theorem mem_turns (last c : Nat) (hc : c < 96) : c ∈ ((List.range 98).map (fun i => (last + 1 + i) % 98)).filter (fun c => c < 96) := by
  refine List.mem_filter.mpr ⟨List.mem_map.mpr ⟨(c + 98 - (last + 1) % 98) % 98, List.mem_range.mpr (by omega), by omega⟩, by simpa using hc⟩

section
variable {s : State} {c : Fin 96} (hs : s.held = false) (ha : Alone s.dev c)
include ha

theorem xfer_alone {x : Nat} (hx : x < 128) (h : x ≠ c) : s.dev.xfer x = none := ha.1 ⟨x, hx⟩ h

theorem storageIssue_alone : s.dev.storageIssue = none := by
  have hcmd : ∀ n, s.dev.cmdOf n = none := fun n => by simp [Dev.cmdOf, ha.2.2.2]
  refine List.findSome?_eq_none_iff.mpr fun t ht => ?_
  simp only [ha.2.2.2, List.map_nil, List.nil_append, List.mem_flatMap, List.mem_map] at ht
  obtain ⟨x, -, p, -, rfl⟩ := ht
  simp [hcmd]

theorem ringTry_alone (n : Nat) (hn : n < 256) : s.dev.is (.rng (.SQ_ASSIGN_VALID n)) = false := by
  rw [Dev.is_eq_false_iff]
  exact ha.2.2.1 ⟨n, hn⟩

omit ha in
theorem chIssue_none {x : Nat} (h : s.dev.xfer x = none) (read : Bool) : s.dev.chIssue x read = none := by rw [Dev.chIssue, h]

omit ha in
theorem drainTry_none {x : Nat} (h : s.dev.xfer x = none) (write : Bool) (u : Unit) : s.dev.drainTry write x u = none := by rw [Dev.drainTry, h]

theorem listTries_alone (write : Bool) {x : Nat} (hx : x < 96) (h : x ≠ c) : ∀ t ∈ s.dev.listTries write x, t () = none := by
  have hnone := xfer_alone ha (x := x) (by omega) h
  have hfetch : s.dev.llFetch x = none := by rw [Dev.llFetch, if_pos (.inl (ha.2.1 ⟨x, hx⟩ h))]
  simp [Dev.listTries, drainTry_none hnone, chIssue_none hnone, hfetch]

include hs

/-- The engines serve the only client there is (R316). -/
theorem exec_dmaBurstIssue {write : Bool} {e : Dev} (h : firstSome (s.dev.listTries write c) = some e) :
    exec (.dmaBurstIssue write) s = .next { s with dev := e } := by
  show execDmaBurstIssue write s = _
  rw [execDmaBurstIssue, State.run_live s _ hs]
  refine congrArg (fun o => Host.Outcome.next { s with dev := Option.getD o s.dev }) (?_ : firstSome _ = some e)
  rw [firstSome_skip fun t ht => ?_]
  · exact firstSome_only (g := s.dev.listTries write) (mem_turns s.dev.dma.lastLl c c.isLt)
      (fun x hx hne => listTries_alone ha write (by simpa using (List.mem_filter.mp hx).2) hne) h
  · simp only [List.mem_append, List.mem_flatMap, List.mem_map, List.mem_filter, List.mem_range, List.mem_singleton] at ht
    rcases ht with (⟨x, ⟨hx, -⟩, ht⟩ | ⟨n, hn, rfl⟩) | rfl
    · split at ht
      · obtain ⟨n, hn, rfl⟩ := List.mem_map.mp ht
        simp [ringTry_alone ha n (List.mem_range.mp hn)]
      · have hnone := xfer_alone ha (x := 96 + x) (by omega) (by omega)
        rcases List.mem_cons.mp ht with rfl | ht
        · exact drainTry_none hnone write ()
        · rw [List.mem_singleton.mp ht]
          exact chIssue_none hnone _
    · simp [ringTry_alone ha n hn]
    · rw [storageIssue_alone ha]
      exact ite_self none

end

/-! ### A read of the host -/

theorem vatTake_ll {d d1 : Dev} {f n : Nat} {ls : List Nat} (h : d.vatTake f n = some (ls, d1)) : d1.dma.ll = d.dma.ll := by
  have hloop : ∀ (l : List Nat) (e : Dev), (l.foldl (fun (d : Dev) x => d.zeroLines (vatLine x) 1) e).dma = e.dma := by
    intro l
    induction l with
    | nil => exact fun _ => rfl
    | cons x xs ih => exact fun e => (ih _).trans rfl
  rw [Dev.vatTake] at h
  split at h
  · obtain ⟨-, rfl⟩ := Prod.mk.inj (Option.some.inj h)
    rw [hloop]
  · cases h

/-- A read of one request leaves with its tag (R317, R322). -/
theorem hostReadAs_effect {d : Dev} {f addr len tag : Nat} (shown : Nat) (cl : Client) (h : CanRead d f addr len tag) :
    ∃ e, d.hostReadAs f addr len shown cl = some e ∧ Kept [] readParts d e ∧
      e.out = d.out ++ ([.memRead f addr shown tag] : List Outbound) ∧ e.dma.ll = d.dma.ll := by
  obtain ⟨-, htag, hall, hmine, hvat⟩ := h
  obtain ⟨ls, d1, htake, hk1⟩ := Dev.vatTake_kept hvat
  rw [Dev.hostReadAs, htag]
  dsimp only
  rw [if_neg (by omega), htake]
  refine ⟨_, rfl, ?_, ?_, ?_⟩
  · exact (((hk1.mono (by simp) (by simp [readParts])).withHep _ (by simp [readParts])).emit _ (by simp [readParts]) (by simp [readParts])).count _ _ _
  · have hout : d1.out = d.out := hk1.same (x := .out) (by simp)
    simp [Dev.emit, hout]
  · simp [Dev.emit, vatTake_ll htake]

/-- A burst of one request (R322). -/
theorem splitReads_one {m fuel addr n : Nat} (hn : 0 < n) (hf : n ≤ fuel) (h : n ≤ m - addr % m) : splitReads m fuel addr n = [(addr, n)] := by
  obtain ⟨k, rfl⟩ : ∃ k, fuel = k + 1 := ⟨fuel - 1, by omega⟩
  rw [splitReads, if_neg (by omega)]
  dsimp only
  rw [Nat.min_eq_left h, Nat.sub_self]
  cases k <;> simp [splitReads]

/-! ### Bytes written to the host -/

theorem out_hostTlp_clean (d : Dev) (f addr : Nat) (bs : List Byte) :
    (d.hostTlp f addr (clean bs)).out = d.out ++ ([.memWrite f addr bs false] : List Outbound) := by
  have hb : (clean bs).map (·.1) = bs := by rw [clean, List.map_map]; exact List.map_id bs
  rw [Dev.hostTlp, if_neg (by simp [clean])]
  simp [Dev.hostOut, Dev.emit, hb]

/-- What a write of clean bytes sends depends on the bytes alone (R325). -/
theorem out_splitWrite_congr (f mps fuel : Nat) {d e : Dev} (h : e.out = d.out) (addr : Nat) (bs : List Byte) :
    (Dev.splitWrite (fun d a b => d.hostTlp f a b) mps fuel e addr (clean bs)).out =
      (Dev.splitWrite (fun d a b => d.hostTlp f a b) mps fuel d addr (clean bs)).out := by
  induction fuel generalizing d e addr bs with
  | zero => exact h
  | succ fuel ih =>
    unfold Dev.splitWrite
    split
    · exact h
    · have htake : ∀ n, (clean bs).take n = clean (bs.take n) := fun n => by simp [clean]
      have hdrop : ∀ n, (clean bs).drop n = clean (bs.drop n) := fun n => by simp [clean]
      dsimp only
      rw [htake, hdrop]
      exact ih (by rw [out_hostTlp_clean, out_hostTlp_clean, h]) _ _

theorem out_hostWrite_congr {d e : Dev} (h : e.out = d.out) (hm : e.mps = d.mps) (f addr : Nat) (bs : List Byte) :
    (e.hostWrite f addr (clean bs)).out = (d.hostWrite f addr (clean bs)).out := by
  rw [Dev.hostWrite, Dev.hostWrite, hm]
  exact out_splitWrite_congr f _ _ h addr bs

/-! ### A channel's transfer -/

section
variable {d : Dev} {c : Fin 96}

theorem xfer_ll (d : Dev) (c : Fin 96) : d.xfer c = (d.ll c).x := by
  have := c.isLt
  rw [Dev.xfer, isTch, if_neg (by simp)]

theorem modXfer_ll (d : Dev) (c : Fin 96) (g : Xfer → Xfer) : d.modXfer c g = d.modLl c (fun l => { l with x := (d.ll c).x.map g }) := by
  have := c.isLt
  rw [Dev.modXfer, xfer_ll, Dev.setXfer, isTch, if_neg (by simp)]

theorem not_isTch (c : Fin 96) : isTch c = false := by
  have := c.isLt
  simp [isTch]

/-- What a channel needs to issue its next burst (R316). -/
structure BurstReady (d : Dev) (c : Fin 96) (v : Xfer) : Prop where
  on : d.rd (.dma .CTRL_EN) ≠ 0
  runs : d.llState c = 1
  holds : (d.ll c).x = some v
  good : v.bad = none
  free : v.desc.paced = false
  left : v.issued < v.desc.len
  room : v.bursts.length < 4
  dry : v.waiting = []

variable {v : Xfer} (h : BurstReady d c v)
include h

theorem nextLen_pos : 0 < v.nextLen := by
  have hb : 0 < v.desc.burst := by unfold Desc.burst; positivity
  have hl := h.left
  rw [Xfer.nextLen]
  refine Nat.lt_min.mpr ⟨by omega, Nat.sub_pos_of_lt (Nat.mod_lt _ hb)⟩

theorem drainTry_dry (write : Bool) (u : Unit) : d.drainTry write c u = none := by
  rw [Dev.drainTry, xfer_ll, h.holds]
  dsimp only
  rw [if_neg (by simp [h.dry])]

/-- A channel that is ready issues what its transfer asks for (R316). -/
theorem chIssue_ready (read : Bool) : d.chIssue c read = d.chTry c read := by
  rw [Dev.chIssue, xfer_ll, h.holds]
  dsimp only
  rw [if_neg (by simp [h.free])]

/-- A channel's next burst read from the host (R322). -/
theorem chTry_read {tag : Nat} (hsp : v.desc.srcSp = 0)
    (hn : v.nextLen ≤ d.mrrs (d.chF c) - (v.desc.src + v.issued) % d.mrrs (d.chF c))
    (hr : CanRead d (d.chF c) (v.desc.src + v.issued) v.nextLen tag) :
    ∃ e, d.chTry c true = some e ∧ Kept [] readParts d e ∧
      e.out = d.out ++ ([.memRead (d.chF c) (v.desc.src + v.issued) v.nextLen tag] : List Outbound) ∧
      (e.ll c).x = some { v with issued := v.issued + v.nextLen, bursts := v.bursts ++ [{ off := v.issued, len := v.nextLen, left := v.nextLen }] } := by
  have hlen := h.left
  have hroom := h.room
  have hd : d.issued c v.nextLen = d.modLl c (fun l => { l with
      x := some { v with issued := v.issued + v.nextLen, bursts := v.bursts ++ [{ off := v.issued, len := v.nextLen, left := v.nextLen }] } }) := by
    rw [Dev.issued, modXfer_ll, h.holds]
    rfl
  have hr' : CanRead (d.issued c v.nextLen) (d.chF c) (v.desc.src + v.issued) v.nextLen tag := hd ▸ hr
  have hm : (d.issued c v.nextLen).mrrs (d.chF c) = d.mrrs (d.chF c) := hd ▸ rfl
  obtain ⟨e, he, hk, hout, hll⟩ := hostReadAs_effect v.nextLen (.chan c v.issued) hr'
  refine ⟨e, ?_, ?_, ?_, ?_⟩
  · rw [Dev.chTry, xfer_ll, h.holds]
    dsimp only
    rw [if_neg (by simp [Dev.is_eq_false_iff, h.on, h.runs, h.good, h.free, hsp, hr.1]; omega), if_pos hsp, Dev.hostRead, hm,
      splitReads_one (nextLen_pos h) (Nat.le_refl _) hn, Dev.hostReads, Dev.hostRead1, he]
    simp [Dev.hostReads, h.free]
  · refine Kept.trans (e := d.issued c v.nextLen) ?_ hk
    rw [hd]
    exact (Kept.refl d).modLl _ _ (by simp [readParts])
  · rw [hout, hd]
    rfl
  · rw [Dev.ll, hll, ← Dev.ll, hd, Dev.ll_modLl, if_pos ⟨rfl, c.isLt⟩]

omit h in
/-- Cluster memory without marks reads clean, and the read leaves the device (R27). -/
theorem clusterGet_clean (hm : d.marks = []) (off n : Nat) : ∃ bs, d.clusterGet off n = (clean bs, d) := by
  rw [Dev.clusterGet, Dev.readMarked_clean hm]
  dsimp only
  exact ⟨(((lineRun (clusterLine (off / 64)) (linesIn off n)).flatMap d.rawLine).drop (off % 64)).take n, by simp [clean, List.map_drop, List.map_take]⟩

omit h in
theorem moved_ll (d : Dev) (c : Fin 96) (off n : Nat) {u : Xfer} (hu : (d.ll c).x = some u) :
    ((d.moved c off n false).ll c).x = some { u with
      moved := u.moved + n
      bursts := (updWhere u.bursts (fun b => b.off ≤ off && off < b.off + b.len) (fun b => { b with left := b.left - n })).filter
        (fun b => b.left ≠ 0) } := by
  rw [Dev.moved, modXfer_ll, Dev.ll_modLl, if_pos ⟨rfl, c.isLt⟩, hu]
  simp

/-- A channel's next burst of cluster memory written to the host (R325). -/
theorem chTry_write (hsrc : v.desc.srcSp = 1) (hdst : v.desc.dstSp = 0) (hmay : d.mayIssue (d.chF c) = true) (hm : d.marks = [])
    (hvat : d.vatOk (d.chF c) (linesIn (v.desc.src + v.issued) v.nextLen) = true) (hb : v.bursts = []) :
    ∃ e, d.chTry c false = some e ∧ Kept [] [.out, .hep, .dma] d e ∧
      e.out = (d.hostWrite (d.chF c) (v.desc.dst + v.issued) (d.clusterGet (v.desc.src + v.issued) v.nextLen).1).out ∧
      (e.ll c).x = some { v with issued := v.issued + v.nextLen, moved := v.moved + v.nextLen } := by
  have hlen := h.left
  have hpos := nextLen_pos h
  have hd : d.issued c v.nextLen = d.modLl c (fun l => { l with
      x := some { v with issued := v.issued + v.nextLen, bursts := [{ off := v.issued, len := v.nextLen, left := v.nextLen }] } }) := by
    rw [Dev.issued, modXfer_ll, h.holds, Option.map_some, hb]
    rfl
  obtain ⟨bs, hget⟩ := clusterGet_clean hm (v.desc.src + v.issued) v.nextLen
  have hpoison : (clean bs).any (·.2) = false := by simp [clean]
  have hwrite := (d.issued c v.nextLen).hostWrite_clean_kept (d.chF c) (v.desc.dst + v.issued) bs
  have hissued : Kept [] [.out, .hep, .dma] d (d.issued c v.nextLen) := hd ▸ (Kept.refl d).modLl _ _ (by simp)
  have hll : ((((d.issued c v.nextLen).hostWrite (d.chF c) (v.desc.dst + v.issued) (clean bs))).ll c).x =
      some { v with issued := v.issued + v.nextLen, bursts := [{ off := v.issued, len := v.nextLen, left := v.nextLen }] } := by
    have hdma : ((d.issued c v.nextLen).hostWrite (d.chF c) (v.desc.dst + v.issued) (clean bs)).dma = (d.issued c v.nextLen).dma :=
      hwrite.same (x := .dma) (by simp)
    rw [Dev.ll, hdma, ← Dev.ll, hd, Dev.ll_modLl, if_pos ⟨rfl, c.isLt⟩]
  refine ⟨((d.issued c v.nextLen).hostWrite (d.chF c) (v.desc.dst + v.issued) (clean bs)).moved c v.issued v.nextLen false, ?_, ?_, ?_, ?_⟩
  · rw [Dev.chTry, xfer_ll, h.holds]
    dsimp only
    rw [if_neg (by simp [Dev.is_eq_false_iff, h.on, h.runs, h.good, h.free, hsrc, hmay, hb]; omega), if_neg (by omega), if_pos hsrc, hvat, hget,
      if_neg (by simp), hpoison, if_neg (by simp [h.free])]
    simp [Dev.chAfter, not_isTch, Dev.dstWrite, hdst]
  · rw [Dev.moved, modXfer_ll]
    exact (hissued.trans (hwrite.mono (by simp) (by simp))).modLl _ _ (by simp)
  · have hmps : (d.issued c v.nextLen).mps = d.mps := hd ▸ rfl
    have hout : (d.issued c v.nextLen).out = d.out := hd ▸ rfl
    rw [hget, ← out_hostWrite_congr hout hmps, Dev.moved, modXfer_ll]
    rfl
  · rw [moved_ll _ c _ _ hll]
    simp [updWhere, hpos, hb]

end

/-! ### The effects -/

section
variable {s : State} {c : Fin 96} (hs : s.held = false) (ha : Alone s.dev c)
include hs ha

/-- The engine that issues for its only client (R316). -/
theorem effect_burst {write : Bool} {d1 : Dev} {P : List Part} {post : Dev → Prop} (hdma : .dma ∈ P)
    (h : firstSome (s.dev.listTries write c) = some (d1.lastTurn c)) (hk : Kept [] P s.dev d1) (hp : post (d1.lastTurn c)) :
    Effect (.dmaBurstIssue write) s [] P post :=
  .of_next (exec_dmaBurstIssue hs ha h) (hk.withDma { d1.dma with lastLl := c } hdma) hp

theorem effect_descriptorRead {a tag : Nat} (hen : s.dev.rd (.dma .CTRL_EN) ≠ 0) (hrun : s.dev.llState c = 1) (hx : (s.dev.ll c).x = none)
    (hr : (s.dev.ll c).reading = false) (hcur : s.dev.llCur c = (false, a)) (hc : CanRead s.dev (s.dev.chF c) a 32 tag) :
    Effect (.dmaBurstIssue false) s [] readParts (fun t =>
      t.out = s.dev.out ++ ([.memRead (s.dev.chF c) a 32 tag] : List Outbound) ∧ (t.ll c).reading = true) := by
  have hxfer : s.dev.xfer c = none := (xfer_ll _ _).trans hx
  have hc' : CanRead (s.dev.modLl c (fun l => { l with reading := true })) (s.dev.chF c) a 32 tag := hc
  obtain ⟨e, he, hk, hout, hll⟩ := hostReadAs_effect 32 (.desc c) hc'
  have hfetch : s.dev.llFetch c = some e := by
    rw [Dev.llFetch, if_neg (by simp [Dev.is_eq_false_iff, hrun, hr, hx, hen]), hcur]
    dsimp only
    rw [if_neg (by simp), if_neg (by simp [hc.1])]
    exact he
  refine effect_burst hs ha (d1 := e) (by simp [readParts]) ?_ (((Kept.refl s.dev).modLl c _ (by simp [readParts])).trans hk) ⟨hout, ?_⟩
  · simp [firstSome, Dev.listTries, drainTry_none hxfer, chIssue_none hxfer, hfetch]
  · show (e.dma.ll.getD c {}).reading = true
    rw [hll, ← Dev.ll, Dev.ll_modLl, if_pos ⟨rfl, c.isLt⟩]

variable {v : Xfer} (h : BurstReady s.dev c v)
include h

theorem effect_burstRead {tag : Nat} (hsp : v.desc.srcSp = 0)
    (hn : v.nextLen ≤ s.dev.mrrs (s.dev.chF c) - (v.desc.src + v.issued) % s.dev.mrrs (s.dev.chF c))
    (hr : CanRead s.dev (s.dev.chF c) (v.desc.src + v.issued) v.nextLen tag) :
    Effect (.dmaBurstIssue false) s [] readParts (fun t =>
      t.out = s.dev.out ++ ([.memRead (s.dev.chF c) (v.desc.src + v.issued) v.nextLen tag] : List Outbound) ∧
      (t.ll c).x = some { v with
        issued := v.issued + v.nextLen, bursts := v.bursts ++ [{ off := v.issued, len := v.nextLen, left := v.nextLen }] }) := by
  obtain ⟨e, he, hk, hout, hll⟩ := chTry_read h hsp hn hr
  refine effect_burst hs ha (by simp [readParts]) ?_ hk ⟨hout, hll⟩
  simp [firstSome, Dev.listTries, drainTry_dry h, chIssue_ready h, he]

theorem effect_burstWrite (hsrc : v.desc.srcSp = 1) (hdst : v.desc.dstSp = 0) (hmay : s.dev.mayIssue (s.dev.chF c) = true)
    (hm : s.dev.marks = []) (hvat : s.dev.vatOk (s.dev.chF c) (linesIn (v.desc.src + v.issued) v.nextLen) = true) (hb : v.bursts = []) :
    Effect (.dmaBurstIssue true) s [] [.out, .hep, .dma] (fun t =>
      t.out = (s.dev.hostWrite (s.dev.chF c) (v.desc.dst + v.issued) (s.dev.clusterGet (v.desc.src + v.issued) v.nextLen).1).out ∧
      (t.ll c).x = some { v with issued := v.issued + v.nextLen, moved := v.moved + v.nextLen }) := by
  obtain ⟨e, he, hk, hout, hll⟩ := chTry_write h hsrc hdst hmay hm hvat hb
  refine effect_burst hs ha (by simp) ?_ hk ⟨hout, hll⟩
  simp [firstSome, Dev.listTries, drainTry_dry h, chIssue_ready h, he]

end

/-! ### Flushes -/

section
variable {s : State} {c : Fin 96} (hs : s.held = false) (ha : Alone s.dev c) {v : Xfer} (hen : s.dev.rd (.dma .CTRL_EN) ≠ 0)
  (hrun : s.dev.llState c = 1) (hx : (s.dev.ll c).x = some v) (hbad : v.bad = none) (hdone : v.moved = v.desc.len) (hb : v.bursts = [])
  (hask : v.flushAsked = false) (hdst : v.desc.dstSp = 0)
include hs ha hen hrun hx hbad hdone hb hask hdst

/-- The flush read of the only client (R327). -/
theorem effect_flushRead {a len shown tag : Nat} (hc : CanRead s.dev (s.dev.chF c) a len tag) (hflush : v.desc.flush ≠ 0)
    (hread : ∀ d : Dev, (if v.desc.flush = 1 then
        d.hostReadAs (s.dev.chF c) ((if v.desc.len = 0 then v.desc.dst else v.desc.dst + v.desc.len - 1) / 4 * 4) 1 0 (.flush c)
      else d.hostRead1 (s.dev.chF c) ((if v.desc.len = 0 then v.desc.dst else v.desc.dst + v.desc.len - 1) / 64 * 64) 64 (.flush c)) =
      d.hostReadAs (s.dev.chF c) a len shown (.flush c)) :
    Effect .flushReadIssue s [] readParts (fun t => t.out = s.dev.out ++ ([.memRead (s.dev.chF c) a shown tag] : List Outbound) ∧
      (t.ll c).x = some { v with flushAsked := true }) := by
  have hd : s.dev.modXfer c (fun v => { v with flushAsked := true }) = s.dev.modLl c (fun l => { l with x := some { v with flushAsked := true } }) := by
    rw [modXfer_ll, hx]
    rfl
  have hc' : CanRead (s.dev.modXfer c (fun v => { v with flushAsked := true })) (s.dev.chF c) a len tag := hd ▸ hc
  obtain ⟨e, he, hk, hout, hll⟩ := hostReadAs_effect shown (.flush c) hc'
  have hflushed : s.dev.chFlush c = some e := by
    rw [Dev.chFlush, xfer_ll, hx]
    dsimp only
    rw [if_neg (by simp [Dev.is_eq_false_iff, hen, hrun, hbad, hdone, hb, hask, hflush]), if_pos hdst, if_neg (by simp [hc.1]), hread, he]
  have hnone : ∀ {x : Nat}, s.dev.xfer x = none → s.dev.chFlush x = none := fun h => by rw [Dev.chFlush, h]
  have hexec : exec .flushReadIssue s = .next { s with dev := e } := by
    show execFlushReadIssue s = _
    rw [execFlushReadIssue, State.run_live s _ hs]
    refine congrArg (fun o => Host.Outcome.next { s with dev := Option.getD o s.dev }) (?_ : firstSome _ = some e)
    rw [firstSome_skip fun t ht => ?_]
    · rw [List.map_eq_flatMap]
      refine firstSome_only (c := c) (List.mem_range.mpr c.isLt) (fun x hx96 hne t ht => ?_) (by simp [firstSome, hflushed])
      rw [List.mem_singleton.mp ht]
      exact hnone (xfer_alone ha (by have := List.mem_range.mp hx96; omega) hne)
    · simp only [ha.2.2.2, List.map_nil, List.append_nil, List.mem_map, List.mem_filter, List.mem_range] at ht
      obtain ⟨x, ⟨hx32, -⟩, rfl⟩ := ht
      exact hnone (xfer_alone ha (by omega) (by omega))
  refine .of_next hexec (Kept.trans ?_ hk) ⟨hout.trans (by rw [hd]; rfl), ?_⟩
  · rw [hd]
    exact (Kept.refl s.dev).modLl c _ (by simp [readParts])
  · rw [Dev.ll, hll, ← Dev.ll, hd, Dev.ll_modLl, if_pos ⟨rfl, c.isLt⟩]

end

/-! ### The statement -/

/-- Settles O28: each clause is the read or the write of the only client. -/
theorem dmaRequests : Obligations.DmaRequests := by
  unfold Obligations.DmaRequests
  intro s c tag hs ha hen hrun
  refine ⟨fun a hx hr hcur hc => effect_descriptorRead hs ha hen hrun hx hr hcur hc, ?_, ?_⟩
  · rintro v n hx hbad hpaced rfl hlt hroom hdry
    have h : BurstReady s.dev c v := ⟨hen, hrun, hx, hbad, hpaced, hlt, hroom, hdry⟩
    exact ⟨effect_burstRead hs ha h, effect_burstWrite hs ha h⟩
  · rintro v a hx hbad hdone hb hask hdst rfl
    have hflush := @effect_flushRead s c hs ha v hen hrun hx hbad hdone hb hask hdst
    exact ⟨fun h1 hc => hflush hc (by omega) fun d => if_pos h1, fun h2 hc => hflush hc (by omega) fun d => if_neg (by omega)⟩

end Sys2Proof.Machine
end

section
-- The theorems are elaborated in order, which keeps the memory that a check of the whole text takes within its limit.
set_option Elab.async false

/-! SUPPORT.  Starting and stopping the tick, and its boundaries (R49 to R57, R142). -/

namespace Sys2Proof.Machine

open Sys2Proof.Safety Sys2Proof.Claims

@[simp] theorem ctrlRun_width : (Fld.tck .CTRL_RUN).width = 1 := rfl
@[simp] theorem tckRunning_width : (Fld.tck .STATUS_RUNNING).width = 1 := rfl
@[simp] theorem lastOvr_width : (Fld.tck .STATUS_LAST_OVR).width = 1 := rfl

/-! ### Starting and stopping -/

/-- An access counted leaves the tick. -/
theorem tick_counted {d e : Dev} (h : Counted d e) : e.tick = d.tick :=
  ((Kept.refl d).counted h : Kept [] [] d e).same (x := .tick) (by simp)

/-- The nominal instant of boundary 0 of a tick that starts (R49). -/
def Dev.firstNominal (d : Dev) : Nat :=
  if d.rd (.tck .CTRL_SRC) = 0 then d.tb + d.rd (.tck .PERIOD_N) * 31250
  else (d.tb / (d.rd (.tck .PERIOD_N) * 31250) + 1) * (d.rd (.tck .PERIOD_N) * 31250)

section
variable (s : State) (ha : Awake s)
include ha

theorem effect_tickStart_refused (hc : s.dev.rd (.cfg .STATUS_CONFIG) ≠ 1) :
    Effect .tickStart s [.cfg .CNT_RUN_REFUSED] [] (fun t => Counts s.dev t (.cfg .CNT_RUN_REFUSED)) := by
  refine .host (x := execTickStart s) rfl rfl ha fun e he => ?_
  rw [Dev.tickStart, if_pos (by simp [Dev.loaded, he.rd (.cfg .STATUS_CONFIG) rfl, hc])]
  exact ⟨(Kept.refl e).inc (by simp), by simp [Counts, Dev.rd_inc, he.rd (.cfg .CNT_RUN_REFUSED) rfl]⟩

theorem effect_tickStart_withdraws (hc : s.dev.rd (.cfg .STATUS_CONFIG) = 1) (hr : s.dev.rd (.tck .STATUS_RUNNING) = 1) :
    Effect .tickStart s [.tck .CTRL_RUN] [.tick] (fun t =>
      t.rd (.tck .CTRL_RUN) = 1 ∧ t.tick = { s.dev.tick with stopReq := false }) := by
  refine .host (x := execTickStart s) rfl rfl ha fun e he => ?_
  rw [Dev.tickStart, if_neg (by simp [Dev.loaded, he.rd (.cfg .STATUS_CONFIG) rfl, hc]),
    if_pos (by simp [Dev.is_eq_true_iff, he.rd (.tck .STATUS_RUNNING) rfl, hr])]
  exact ⟨((Kept.refl e).withTick { e.tick with stopReq := false } (by simp)).wr _ (by simp), by simp, by rw [← tick_counted he]; rfl⟩

theorem effect_tickStart (hc : s.dev.rd (.cfg .STATUS_CONFIG) = 1) (hr : s.dev.rd (.tck .STATUS_RUNNING) = 0)
    (hp : s.dev.tick.startPend = false) :
    Effect .tickStart s [.tck .CTRL_RUN] [.tick] (fun t =>
      t.rd (.tck .CTRL_RUN) = 1 ∧
      t.tick = { s.dev.tick with
        startPend := true
        first := true
        nominal := if s.dev.rd (.tck .CTRL_SRC) = 0 then s.dev.tb + s.dev.rd (.tck .PERIOD_N) * 31250
          else (s.dev.tb / (s.dev.rd (.tck .PERIOD_N) * 31250) + 1) * (s.dev.rd (.tck .PERIOD_N) * 31250) }) := by
  refine .host (x := execTickStart s) rfl rfl ha fun e he => ?_
  have hk : Kept [] [] s.dev e := (Kept.refl _).counted he
  obtain ⟨-, htb, -⟩ : Part.Same s.dev e .time := hk.same (by simp)
  rw [Dev.tickStart, if_neg (by simp [Dev.loaded, he.rd (.cfg .STATUS_CONFIG) rfl, hc]),
    if_neg (by simp [Dev.is_eq_true_iff, he.rd (.tck .STATUS_RUNNING) rfl, hr]), if_neg (by rw [tick_counted he, hp]; simp)]
  have hn : e.firstNominal = s.dev.firstNominal := by
    rw [Dev.firstNominal, Dev.firstNominal, he.rd (.tck .PERIOD_N) rfl, he.rd (.tck .CTRL_SRC) rfl, htb]
  refine ⟨Kept.wr (Kept.withTick (.refl e) { e.tick with startPend := true, first := true, nominal := e.firstNominal } (by simp)) _ (by simp),
    by simp, ?_⟩
  show ({ e.tick with startPend := true, first := true, nominal := e.firstNominal } : Tick) = _
  rw [hn, tick_counted he]
  rfl

theorem effect_tickStop_refused (h : 2 ≤ s.dev.rd (.saf .STATE_STATE)) :
    Effect .tickStop s [.tck .CANCEL_CNT_REFUSED_RUN] [] (fun t => Counts s.dev t (.tck .CANCEL_CNT_REFUSED_RUN)) := by
  refine .host (x := execTickStop s) rfl rfl ha fun e he => ?_
  rw [if_pos (by simp [Dev.armed, he.rd (.saf .STATE_STATE) rfl, h])]
  exact ⟨(Kept.refl e).inc (by simp), by simp [Counts, Dev.rd_inc, he.rd (.tck .CANCEL_CNT_REFUSED_RUN) rfl]⟩

theorem effect_tickStop (h : s.dev.rd (.saf .STATE_STATE) < 2) (hr : s.dev.rd (.tck .STATUS_RUNNING) = 1) :
    Effect .tickStop s [.tck .CTRL_RUN] [.tick] (fun t =>
      t.rd (.tck .CTRL_RUN) = 0 ∧ t.tick = { s.dev.tick with stopReq := true }) := by
  refine .host (x := execTickStop s) rfl rfl ha fun e he => ?_
  rw [if_neg (by simp [Dev.armed, he.rd (.saf .STATE_STATE) rfl, h])]
  dsimp only
  rw [if_pos (by simp [Dev.is_eq_true_iff, he.rd (.tck .STATUS_RUNNING) rfl, hr])]
  exact ⟨((Kept.refl e).wr 0 (by simp)).withTick { e.tick with stopReq := true } (by simp),
    by rw [show ∀ (x : Dev) (y : Tick) (f : Fld), Dev.rd { x with tick := y } f = x.rd f from fun _ _ _ => rfl]; simp, by rw [← tick_counted he]; rfl⟩

theorem effect_tickStop_cancels (h : s.dev.rd (.saf .STATE_STATE) < 2) (hr : s.dev.rd (.tck .STATUS_RUNNING) = 0) :
    Effect .tickStop s [.tck .CTRL_RUN] [.tick] (fun t =>
      t.rd (.tck .CTRL_RUN) = 0 ∧ t.tick = { s.dev.tick with startPend := false }) := by
  refine .host (x := execTickStop s) rfl rfl ha fun e he => ?_
  rw [if_neg (by simp [Dev.armed, he.rd (.saf .STATE_STATE) rfl, h])]
  dsimp only
  rw [if_neg (by simp [Dev.is_eq_true_iff, he.rd (.tck .STATUS_RUNNING) rfl, hr])]
  exact ⟨((Kept.refl e).wr 0 (by simp)).withTick { e.tick with startPend := false } (by simp),
    by rw [show ∀ (x : Dev) (y : Tick) (f : Fld), Dev.rd { x with tick := y } f = x.rd f from fun _ _ _ => rfl]; simp, by rw [← tick_counted he]; rfl⟩

omit ha in
/-- A read of the record FIFO is answered. -/
theorem recPop_reply {e : Dev} (he : Counted s.dev e) (d : Dev) (hk : Kept [] [.tick] e d) (v : Nat) :
    Kept [] [.tick, .out, .hep] e (d.reply v 8 0 false) ∧ (d.reply v 8 0 false).out = s.dev.out ++ ([.readData v 8 0 false] : List Outbound) := by
  have hout : d.out = e.out := hk.same (x := .out) (by simp)
  have hout' : e.out = s.dev.out := ((Kept.refl s.dev).counted he : Kept [] [] s.dev e).same (x := .out) (by simp)
  exact ⟨((hk.mono (by simp) (by simp)).emit _ (by simp) (by simp)).count _ _ _, by simp [Dev.reply, Dev.emit, hout, hout']⟩

theorem effect_recPop {r : Nat} {rs : List Nat} (h : s.dev.tick.fifo = r :: rs) :
    Effect .tckRecFifoPop s [] [.tick, .out, .hep] (fun t =>
      t.tick = { s.dev.tick with fifo := rs } ∧ t.out = s.dev.out ++ ([.readData r 8 0 false] : List Outbound)) := by
  refine .host (x := execTckRecFifoPop s) rfl rfl ha fun e he => ?_
  have hpop : e.recPop = (r, { e with tick := { e.tick with fifo := rs } }) := by simp [Dev.recPop, tick_counted he, h]
  rw [hpop]
  obtain ⟨hk, hout⟩ := recPop_reply s he { e with tick := { e.tick with fifo := rs } } ((Kept.refl e).withTick _ (by simp)) r
  exact ⟨hk, by simp [tick_counted he], hout⟩

theorem effect_recPop_empty (h : s.dev.tick.fifo = []) :
    Effect .tckRecFifoPop s [] [.out, .hep] (fun t => t.out = s.dev.out ++ ([.readData (7 * 2 ^ 38) 8 0 false] : List Outbound)) := by
  refine .host (x := execTckRecFifoPop s) rfl rfl ha fun e he => ?_
  have hpop : e.recPop = (7 * 2 ^ 38, e) := by simp [Dev.recPop, tick_counted he, h]
  rw [hpop]
  exact ⟨((Kept.refl e).emit _ (by simp) (by simp)).count _ _ _, (recPop_reply s he e (.refl e) _).2⟩

end

theorem tickStartStop : TickStartStop := by
  unfold TickStartStop
  rintro s p ha rfl
  exact ⟨effect_tickStart_refused s ha, effect_tickStart_withdraws s ha, effect_tickStart s ha, effect_tickStop_refused s ha,
    effect_tickStop s ha, effect_tickStop_cancels s ha, fun r rs h => effect_recPop s ha h, effect_recPop_empty s ha⟩

/-! ### The boundary in TIME -/

theorem kept_almApply {F : List Fld} {P : List Part} {d e : Dev} (h : Kept F P d e) (k n : Nat) (hm : .mem ∈ P) (hk : .marks ∈ P)
    (hw : .writeBacks ∈ P) (hc : .cal ∈ P) : Kept F P d (e.almApply k n) := by
  rw [Dev.almApply]
  exact .ite _ (fun _ => h) fun _ => (h.writeLine _ _ _ hm hk hw).withCal _ hc

theorem kept_ageClear {F : List Fld} {P : List Part} {d e : Dev} (h : Kept F P d e) (h1 : .cal .AGE_STATUS_OVERDUE ∈ F)
    (h2 : .cal .AGE_STATUS_OVERDUE2 ∈ F) : Kept F P d e.ageClear := by
  refine .foldl _ _ (fun a n _ ha => .ite _ (fun _ => ha) fun _ => ?_) h
  exact .ite _ (fun _ => Kept.wr (.ite _ (fun _ => ha.wr _ h1) fun _ => ha) _ h2) fun _ => .ite _ (fun _ => ha.wr _ h1) fun _ => ha

/-- The registers of the tick at a boundary (R53, R55). -/
def Dev.boundarySet (d : Dev) (t : Tick) (k running slew : Nat) : Dev :=
  ({ d with tick := t } : Dev).wrs [(.tck .COUNT_TICK, k), (.tck .STATUS_RUNNING, running), (.tck .STATUS_SLEW, slew)]

/-- The boundary's work in TIME: the count, the Almanac and the ages (R53, R454, R459). -/
def Dev.boundaryDone (d : Dev) (t : Tick) (k running slew : Nat) : Dev :=
  ((List.range 14).foldl (fun d e => d.almApply k e) (d.boundarySet t k running slew)).ageClear

theorem boundaryDone_effect (d : Dev) (t : Tick) (k running slew : Nat) :
    Kept [.tck .COUNT_TICK, .tck .STATUS_RUNNING, .tck .STATUS_SLEW, .cal .AGE_STATUS_OVERDUE, .cal .AGE_STATUS_OVERDUE2]
      [.tick, .mem, .marks, .writeBacks, .cal] d (d.boundaryDone t k running slew) ∧
    (d.boundaryDone t k running slew).rd (.tck .COUNT_TICK) = k % 2 ^ 48 ∧
    (d.boundaryDone t k running slew).rd (.tck .STATUS_RUNNING) = running % 2 ∧ (d.boundaryDone t k running slew).tick = t := by
  have hset : Kept [.tck .COUNT_TICK, .tck .STATUS_RUNNING, .tck .STATUS_SLEW] [.tick] d (d.boundarySet t k running slew) :=
    ((Kept.refl d).withTick t (by simp)).wrs _ (by simp)
  have hdone : Kept [.cal .AGE_STATUS_OVERDUE, .cal .AGE_STATUS_OVERDUE2] [.mem, .marks, .writeBacks, .cal] (d.boundarySet t k running slew)
      (d.boundaryDone t k running slew) :=
    kept_ageClear (.foldl _ _ (fun a n _ h => kept_almApply h k n (by simp) (by simp) (by simp) (by simp)) (.refl _)) (by simp) (by simp)
  refine ⟨(hset.mono (by simp) (by simp)).trans (hdone.mono (by simp) (by simp)), ?_, ?_, ?_⟩
  · rw [hdone.rd (by simp) rfl]
    simp [Dev.boundarySet]
  · rw [hdone.rd (by simp) rfl]
    simp [Dev.boundarySet]
  · have htick : (d.boundaryDone t k running slew).tick = (d.boundarySet t k running slew).tick := hdone.same (x := .tick) (by simp)
    rw [htick, Dev.boundarySet, Dev.wrs_tick]

/-- The tick of CORE, FAB, ETH and SAFE after a boundary is issued (R49, R51). -/
def Dev.tickIssued (d : Dev) (old : Dev) (at_ : Nat) (u : Int) (b : Pulse) : Tick :=
  { d.tick with
    startPend := false
    stopReq := false
    first := false
    nominal := old.nextNominal
    lastReal := u.toNat
    lastTb := at_
    toCore := d.tick.toCore ++ [b]
    toFab := d.tick.toFab ++ [b]
    toEth := d.tick.toEth ++ [b]
    toSafe := d.tick.toSafe ++ [b] }

/-- SLEW after a boundary: whether its edge is off its nominal instant (R51). -/
def Dev.boundarySlew (d : Dev) : Nat :=
  let off : Int := d.nextEdge + d.tim.steps - (d.nextNominal : Int)
  b2n (off < 0 || 4 ≤ off)

section
variable {s : State} (hs : s.held = false)
include hs

theorem effect_tickBoundary {k : Nat} {stop : Bool} (h : s.dev.tick.startPend = true ∨ s.dev.rd (.tck .STATUS_RUNNING) = 1)
    (hk : k = if s.dev.tick.first then 0 else (s.dev.rd (.tck .COUNT_TICK) + 1) % 2 ^ 48) (hstop : stop = (s.dev.tick.stopReq && !s.dev.tick.first)) :
    Effect .tickBoundary s
      [.tck .COUNT_TICK, .tck .STATUS_RUNNING, .tck .STATUS_SLEW, .cal .AGE_STATUS_OVERDUE, .cal .AGE_STATUS_OVERDUE2]
      [.time, .tick, .ports, .mem, .marks, .writeBacks, .cal] (fun t =>
        t.rd (.tck .COUNT_TICK) = k ∧ t.rd (.tck .STATUS_RUNNING) = (if stop then 0 else 1) ∧
        t.tick.startPend = false ∧ t.tick.stopReq = false ∧ t.tick.first = false ∧
        t.tick.toCore = s.dev.tick.toCore ++ ([⟨k, stop⟩] : List Pulse) ∧ t.tick.toFab = s.dev.tick.toFab ++ ([⟨k, stop⟩] : List Pulse) ∧
        t.tick.toEth = s.dev.tick.toEth ++ ([⟨k, stop⟩] : List Pulse) ∧ t.tick.toSafe = s.dev.tick.toSafe ++ ([⟨k, stop⟩] : List Pulse)) := by
  have hgo : ¬ (!s.dev.tick.startPend ∧ !s.dev.is (.tck .STATUS_RUNNING)) := by
    rintro ⟨h1, h2⟩
    simp only [Bool.not_eq_true', Dev.is_eq_false_iff] at h1 h2
    rcases h with h | h
    · simp [h] at h1
    · omega
  have htime := s.dev.elapseTb_kept (s.dev.nextEdge + s.dev.tim.steps).toNat
  obtain ⟨cyc, hcyc⟩ : ∃ n, (s.dev.elapseTb (s.dev.nextEdge + s.dev.tim.steps).toNat).tick = { s.dev.tick with cyc := n } :=
    ⟨_, s.dev.elapse_tick _⟩
  have hcount : (s.dev.elapseTb (s.dev.nextEdge + s.dev.tim.steps).toNat).rd (.tck .COUNT_TICK) = s.dev.rd (.tck .COUNT_TICK) :=
    htime.rd (by simp) rfl
  have hfirst : (s.dev.elapseTb (s.dev.nextEdge + s.dev.tim.steps).toNat).tick.first = s.dev.tick.first := by rw [hcyc]
  have hreq : (s.dev.elapseTb (s.dev.nextEdge + s.dev.tim.steps).toNat).tick.stopReq = s.dev.tick.stopReq := by rw [hcyc]
  have hx : exec .tickBoundary s = .next { s with
      dev := (s.dev.elapseTb (s.dev.nextEdge + s.dev.tim.steps).toNat).boundaryDone
        ((s.dev.elapseTb (s.dev.nextEdge + s.dev.tim.steps).toNat).tickIssued s.dev (s.dev.nextEdge + s.dev.tim.steps).toNat s.dev.nextEdge ⟨k, stop⟩)
        k (b2n !stop) s.dev.boundarySlew } := by
    show execTickBoundary s = _
    rw [execTickBoundary, State.run_live s _ hs, if_neg hgo]
    dsimp only
    rw [hfirst, hreq, hcount, ← hk, ← hstop]
    rfl
  obtain ⟨hkept, hc, hr, ht⟩ := boundaryDone_effect (s.dev.elapseTb (s.dev.nextEdge + s.dev.tim.steps).toNat)
    ((s.dev.elapseTb (s.dev.nextEdge + s.dev.tim.steps).toNat).tickIssued s.dev (s.dev.nextEdge + s.dev.tim.steps).toNat s.dev.nextEdge ⟨k, stop⟩)
    k (b2n !stop) s.dev.boundarySlew
  have hlt : k < 2 ^ 48 := by
    rw [hk]
    split <;> omega
  refine .of_next hx ((htime.mono (by simp) (by simp [timeParts])).trans (hkept.mono (by simp) (by simp))) ⟨?_, ?_, ?_⟩
  · rw [hc, Nat.mod_eq_of_lt hlt]
  · rw [hr]
    cases stop <;> rfl
  · rw [ht, Dev.tickIssued, hcyc]
    exact ⟨rfl, rfl, rfl, rfl, rfl, rfl, rfl⟩

end

/-! ### The boundary in CORE -/

/-- What is unfinished depends on the Ephemeris, the occurrences and the ports' releases (R69). -/
theorem unfinished_congr {d e : Dev} (hm : e.mem = d.mem) (hc : e.cfg = d.cfg) (hp : e.ports = d.ports) (ho : e.tick.occ = d.tick.occ) :
    e.unfinished = d.unfinished := by
  have hslot : e.slot = d.slot := funext fun n => Dev.slot_congr hm hc n
  have hocc : e.occ = d.occ := funext fun n => by rw [Dev.occ, Dev.occ, ho]
  have hport : e.port = d.port := funext fun n => by rw [Dev.port, Dev.port, hp]
  unfold Dev.unfinished Dev.openOccs Dev.releaseOpen
  rw [hslot, hocc, hport]

/-- A boundary taken off the line to CORE and counted (R57). -/
def Dev.coreArrived (d : Dev) (bs : List Pulse) : Dev := ({ d with tick := { d.tick with toCore := bs } } : Dev).count 0x02 0 1

theorem coreArrived_kept (d : Dev) (bs : List Pulse) : Kept [] [.tick] d (d.coreArrived bs) :=
  ((Kept.refl d).withTick { d.tick with toCore := bs } (by simp)).count _ _ _

@[simp] theorem coreArrived_tick (d : Dev) (bs : List Pulse) : (d.coreArrived bs).tick = { d.tick with toCore := bs } := by
  rw [Dev.coreArrived, Dev.count_tick]

/-- The phases that the boundary finds unfinished (R69). -/
theorem coreArrived_phases (d : Dev) (bs : List Pulse) :
    (if (d.coreArrived bs).tick.coreRun then (d.coreArrived bs).unfinished else []) = if d.tick.coreRun then d.unfinished else [] := by
  have hk := coreArrived_kept d bs
  rw [unfinished_congr (hk.same (x := .mem) (by simp)) (hk.same (x := .cfg) (by simp)) (hk.same (x := .ports) (by simp)) (by simp),
    coreArrived_tick]

/-- The tick of CORE at a stopping boundary (R55). -/
def Dev.tickEnded (d : Dev) : Dev :=
  { d with tick := { d.tick with coreRun := false, p2 := false, p3 := false, p4 := false, occ := List.replicate 64 {} } }

/-- The tick of CORE in cycle 0 of tick `k` (R57). -/
def Dev.tickOpened (d : Dev) (k : Nat) : Dev :=
  { d with tick := { d.tick with
    coreRun := true, coreTick := k, cyc := 0, p2 := false, p3 := false, p4 := false, occ := List.replicate 64 {} } }

/-- The frames of the last batch discarded (R55). -/
theorem dropBatch_effect (d : Dev) : d.dropBatch.rd (.tck .STATUS_LAST_OVR) = d.rd (.tck .STATUS_LAST_OVR) ∧ d.dropBatch.tick = d.tick ∧
    d.dropBatch.classq = d.classq.filter (fun q => q.frame.info.batch < d.tick.coreTick) := by
  have hmoved : ∀ (l : List QFrame) (e : Dev), MovedIn isDeviceIndex (.used :: ringParts) e (l.foldl (fun d q => d.discard q.frame) e) :=
    fun l e => .foldl l _ (fun d q => Dev.discard_moved d q.frame) e
  have hm := hmoved (d.classq.filter (fun q => d.tick.coreTick ≤ q.frame.info.batch))
    { d with classq := d.classq.filter (fun q => !decide (d.tick.coreTick ≤ q.frame.info.batch)) }
  unfold Dev.dropBatch
  dsimp only
  revert hm
  generalize (d.classq.filter (fun q => d.tick.coreTick ≤ q.frame.info.batch)).foldl (fun (d : Dev) q => d.discard q.frame)
    { d with classq := d.classq.filter (fun q => !decide (d.tick.coreTick ≤ q.frame.info.batch)) } = e
  intro hm
  have htick : e.tick = d.tick := hm.same (x := .tick) (by simp [ringParts])
  have hclass : e.classq = d.classq.filter (fun q => !decide (d.tick.coreTick ≤ q.frame.info.batch)) := hm.same (x := .classq) (by simp [ringParts])
  refine ⟨?_, by simp [htick], ?_⟩
  · rw [Dev.rd_incBy, if_neg (by simp)]
    exact hm.rd rfl rfl
  · rw [Dev.incBy_classq, hclass]
    refine List.filter_congr fun q _ => ?_
    by_cases hq : d.tick.coreTick ≤ q.frame.info.batch
    · simp [hq, Nat.not_lt.mpr hq]
    · simp [hq, Nat.lt_of_not_le hq]

/-- A switch that is armed deferred after an overrun (R107). -/
def Dev.switchDeferred (d : Dev) : Dev := ({ d with cfg := { d.cfg with deferred := d.cfg.deferred + 1 } } : Dev).wr (.tck .STATUS_DEFER) 1

/-- A boundary's count toward a confirmation (R115). -/
def Dev.confCounted (d : Dev) : Dev :=
  if d.is (.cfg .CONF_PENDING_PENDING) then { d with cfg := { d.cfg with confTicks := d.cfg.confTicks + 1 } } else d

/-- A boundary's end of the last tick, of which the phases `ph` are unfinished (R69 to R71). -/
def Dev.tickClosed (d : Dev) (ph : List Nat) : Dev :=
  (match ph with | p :: _ => (d.overrun p).count 0x03 0 1 | [] => d).wr (.tck .STATUS_LAST_OVR) (b2n !ph.isEmpty)

/-- A boundary's work in CORE that the last tick's end precedes (R55, R107). -/
def Dev.coreGoesOn (d : Dev) (b : Pulse) (ovr : Bool) : Dev :=
  let armedSw : Bool := d.rd (.cfg .OVL_STATUS_STATE) = 3
  let d : Dev := if armedSw ∧ ovr then d.switchDeferred else d
  if b.stopping then d.dropBatch.tickEnded
  else if armedSw ∧ !ovr then (d.tickOpened b.tick).overlaySwitch b.tick else d.tickOpened b.tick

theorem confCounted_of_none {d : Dev} (h : d.rd (.cfg .CONF_PENDING_PENDING) = 0) : d.confCounted = d := by
  rw [Dev.confCounted, if_neg (by simp [Dev.is_eq_true_iff, h])]

theorem rd_confCounted (d : Dev) (f : Fld) : d.confCounted.rd f = d.rd f := by
  rw [Dev.confCounted]
  split <;> rfl

section
variable {s : State} (hs : s.held = false) {b : Pulse} {bs : List Pulse} (h : s.dev.tick.toCore = b :: bs)
include hs h

theorem exec_boundaryCore : exec .boundaryCore s = .next { s with
    dev := ((s.dev.coreArrived bs).tickClosed (if s.dev.tick.coreRun then s.dev.unfinished else [])).confCounted.coreGoesOn b
      (!(if s.dev.tick.coreRun then s.dev.unfinished else []).isEmpty) } := by
  rw [← coreArrived_phases s.dev bs]
  show execBoundaryCore s = _
  rw [execBoundaryCore, State.run_live s _ hs]
  simp -zeta only [h]
  rfl

variable (hconf : s.dev.rd (.cfg .CONF_PENDING_PENDING) = 0)
include hconf

/-- CORE at a boundary that finds nothing unfinished (R57, R69). -/
theorem exec_boundaryCore_done (hu : s.dev.tick.coreRun = false ∨ s.dev.unfinished = []) :
    exec .boundaryCore s = .next { s with
      dev := if b.stopping then ((s.dev.coreArrived bs).wr (.tck .STATUS_LAST_OVR) 0).dropBatch.tickEnded
        else if s.dev.rd (.cfg .OVL_STATUS_STATE) = 3 then (((s.dev.coreArrived bs).wr (.tck .STATUS_LAST_OVR) 0).tickOpened b.tick).overlaySwitch b.tick
        else ((s.dev.coreArrived bs).wr (.tck .STATUS_LAST_OVR) 0).tickOpened b.tick } := by
  have hx := exec_boundaryCore hs h
  have hph : (if s.dev.tick.coreRun then s.dev.unfinished else []) = [] := by rcases hu with hu | hu <;> simp [hu]
  have hk := coreArrived_kept s.dev bs
  have hclosed : (s.dev.coreArrived bs).tickClosed [] = (s.dev.coreArrived bs).wr (.tck .STATUS_LAST_OVR) 0 := rfl
  rw [hph, hclosed, confCounted_of_none (by rw [Dev.rd_wr, if_neg (by simp), hk.rd (by simp) rfl, hconf])] at hx
  have hovl : ((s.dev.coreArrived bs).wr (.tck .STATUS_LAST_OVR) 0).rd (.cfg .OVL_STATUS_STATE) = s.dev.rd (.cfg .OVL_STATUS_STATE) := by
    rw [Dev.rd_wr, if_neg (by simp), hk.rd (by simp) rfl]
  rw [hx, Dev.coreGoesOn, hovl]
  simp only [List.isEmpty_nil, Bool.not_true, Bool.false_eq_true, and_false, if_false, Bool.not_false, and_true, decide_eq_true_eq]

theorem effect_boundaryCore (hu : s.dev.tick.coreRun = false ∨ s.dev.unfinished = []) (hsw : s.dev.rd (.cfg .OVL_STATUS_STATE) ≠ 3)
    (hstop : b.stopping = false) :
    Effect .boundaryCore s [.tck .STATUS_LAST_OVR] [.tick] (fun t =>
      t.rd (.tck .STATUS_LAST_OVR) = 0 ∧
      t.tick = { s.dev.tick with
        toCore := bs
        coreRun := true
        coreTick := b.tick
        cyc := 0
        p2 := false
        p3 := false
        p4 := false
        occ := List.replicate 64 {} }) := by
  have hx := exec_boundaryCore_done hs h hconf hu
  rw [if_neg (by simp [hstop]), if_neg hsw] at hx
  refine .of_next hx (Kept.withTick (Kept.wr ((coreArrived_kept s.dev bs).mono (by simp) (by simp)) _ (by simp)) _ (by simp)) ⟨?_, ?_⟩
  · show ((s.dev.coreArrived bs).wr (.tck .STATUS_LAST_OVR) 0).rd _ = 0
    simp
  · simp [Dev.tickOpened]

theorem completes_boundaryCore_stop (hu : s.dev.tick.coreRun = false ∨ s.dev.unfinished = []) (hstop : b.stopping = true) :
    Completes .boundaryCore s (fun t =>
      t.rd (.tck .STATUS_LAST_OVR) = 0 ∧ t.tick.coreRun = false ∧ t.tick.toCore = bs ∧
      t.classq = s.dev.classq.filter (fun q => q.frame.info.batch < s.dev.tick.coreTick)) := by
  have hx := exec_boundaryCore_done hs h hconf hu
  rw [if_pos hstop] at hx
  obtain ⟨hovr, htick, hclass⟩ := dropBatch_effect ((s.dev.coreArrived bs).wr (.tck .STATUS_LAST_OVR) 0)
  have hq : (s.dev.coreArrived bs).classq = s.dev.classq := (coreArrived_kept s.dev bs).same (x := .classq) (by simp)
  refine ⟨_, hx, rfl, rfl, hovr.trans (by simp), rfl, ?_, ?_⟩
  · show (Dev.dropBatch _).tick.toCore = bs
    rw [htick]
    simp
  · show (Dev.dropBatch _).classq = _
    rw [hclass, Dev.wr_classq, hq]
    simp

omit hconf in
theorem completes_boundaryCore_overrun (hrun : s.dev.tick.coreRun = true) (hu : s.dev.unfinished ≠ []) (hstop : b.stopping = false) :
    Completes .boundaryCore s (fun t =>
      t.rd (.tck .STATUS_LAST_OVR) = 1 ∧ t.tick.coreRun = true ∧ t.tick.coreTick = b.tick ∧ t.tick.cyc = 0 ∧ (∀ n, t.occ n = {})) := by
  have hne : (if s.dev.tick.coreRun then s.dev.unfinished else []) ≠ [] := by rw [if_pos hrun]; exact hu
  have hx := exec_boundaryCore hs h
  generalize (if s.dev.tick.coreRun then s.dev.unfinished else []) = ph at hx hne
  have hempty : ph.isEmpty = false := by cases ph <;> simp_all
  have hclosed : ((s.dev.coreArrived bs).tickClosed ph).confCounted.rd (.tck .STATUS_LAST_OVR) = 1 := by
    rw [rd_confCounted]
    unfold Dev.tickClosed
    rw [hempty, Dev.rd_wr, if_pos rfl]
    rfl
  rw [hempty] at hx
  generalize ((s.dev.coreArrived bs).tickClosed ph).confCounted = d at hx hclosed
  have hgo : d.coreGoesOn b (!false) = (if d.rd (.cfg .OVL_STATUS_STATE) = 3 then d.switchDeferred else d).tickOpened b.tick := by
    rw [Dev.coreGoesOn]
    simp [hstop]
  rw [hgo] at hx
  refine ⟨_, hx, rfl, rfl, ?_, rfl, rfl, rfl, fun n => ?_⟩
  · show (if d.rd (.cfg .OVL_STATUS_STATE) = 3 then d.switchDeferred else d).rd (.tck .STATUS_LAST_OVR) = 1
    split
    · rw [Dev.switchDeferred, Dev.rd_wr, if_neg (by simp)]
      exact hclosed
    · exact hclosed
  · rw [Dev.occ, List.getD_eq_getElem?_getD]
    exact List.getElem?_getD_replicate_default_eq _ _ _

end

/-! ### The boundary in FAB and ETH -/

/-- A boundary taken off the line to FAB (R341). -/
def Dev.fabArrived (d : Dev) (b : Pulse) (bs : List Pulse) : Dev := { d with tick := { d.tick with toFab := bs, fabTick := b.tick } }

@[simp] theorem shadow_tick (d : Dev) (t : Nat) : (d.shadow t).2.tick = d.tick := by
  unfold Dev.shadow
  split <;> simp

theorem tchBoundary_tick (d : Dev) (t : Nat) : (d.tchBoundary t).tick = d.tick := by
  have hswap : ∀ (e : Dev) (bs : List Byte), ((e.tchLineTaken t).tchSwap t bs).tick = e.tick := fun e bs => by
    have hline : (e.tchLineTaken t).tick = e.tick := by
      unfold Dev.tchLineTaken
      dsimp only
      split <;> simp
    unfold Dev.tchSwap
    dsimp only
    rw [Dev.modTch_tick, Dev.wrs_tick, Dev.wr_tick]
    split <;> simp [hline]
  unfold Dev.tchBoundary
  split
  · rfl
  · dsimp only
    split
    · rw [hswap, shadow_tick]
    · simp
    · simp [Dev.tchEmpty]
    · simp

theorem reqSource_tick (d : Dev) (kind : Nat) (sel : Nat → Bool) : (d.reqSource kind sel).tick = d.tick :=
  Dev.foldl_tick _ _ (fun d i => by split <;> simp [Dev.reqEvent]) d

section
variable {s : State} (hs : s.held = false) {b : Pulse} {bs : List Pulse}
include hs

theorem completes_boundaryFab (h : s.dev.tick.toFab = b :: bs) :
    Completes .boundaryFab s (fun t => t.tick = { s.dev.tick with toFab := bs, fabTick := b.tick }) := by
  unfold Completes
  rw [show exec .boundaryFab s = execBoundaryFab s from rfl, execBoundaryFab, State.run_live s _ hs]
  simp -zeta only [h]
  refine ⟨_, rfl, rfl, rfl, ?_⟩
  refine (Dev.foldl_tick _ _ (fun d c => ?_) _).trans ((reqSource_tick _ _ _).trans ?_)
  · split <;> simp [Dev.cqIrq]
  · split
    · rfl
    · exact (Dev.foldl_tick _ _ tchBoundary_tick _).trans rfl

/-- The release state of a port at a boundary (R142). -/
def Dev.releaseReset (d : Dev) (p : Nat) : Dev :=
  d.modPort p (fun x => { x with window := false, relBytes := 0, relDone := !x.relDue && !d.sched p })

omit hs in
theorem releaseReset_sched (d : Dev) (p q : Nat) : (d.releaseReset p).sched q = d.sched q := rfl

omit hs in
theorem port_releaseReset (d : Dev) (p : Fin 4) : ((List.range 4).foldl Dev.releaseReset d).port p =
    { d.port p with window := false, relBytes := 0, relDone := !(d.port p).relDue && !d.sched p } := by
  have hports : (List.range 4).foldl Dev.releaseReset d = (((d.releaseReset 0).releaseReset 1).releaseReset 2).releaseReset 3 := rfl
  have hsched : ∀ (e : Dev) (n : Nat) (g : Port → Port) (q : Nat), (e.modPort n g).sched q = e.sched q := fun _ _ _ _ => rfl
  rw [hports]
  fin_cases p <;> simp [Dev.releaseReset, hsched]

theorem effect_releaseStateReset (h : s.dev.tick.toEth = b :: bs) (hstop : b.stopping = false) :
    Effect .releaseStateReset s [] [.tick, .ports] (fun t => t.tick = { s.dev.tick with toEth := bs } ∧
      ∀ p, p < 4 → t.port p = { s.dev.port p with
        window := false
        relBytes := 0
        relDone := !(s.dev.port p).relDue && !s.dev.sched p }) := by
  have hx : exec .releaseStateReset s = .next { s with
      dev := (List.range 4).foldl Dev.releaseReset { s.dev with tick := { s.dev.tick with toEth := bs } } } := by
    show execReleaseStateReset s = _
    rw [execReleaseStateReset, State.run_live s _ hs]
    simp -zeta only [h]
    dsimp only
    rw [if_neg (by simp [hstop])]
    rfl
  refine .of_next hx (.foldl _ _ (fun a p _ ha => ha.modPort p _ (by simp)) ((Kept.refl s.dev).withTick { s.dev.tick with toEth := bs } (by simp)))
    ⟨Dev.foldl_tick _ _ (fun d p => d.modPort_tick p _) _, fun p hp => ?_⟩
  exact port_releaseReset { s.dev with tick := { s.dev.tick with toEth := bs } } ⟨p, hp⟩

end

theorem tickBoundaries : TickBoundaries := by
  unfold TickBoundaries
  intro s b bs hs
  exact ⟨fun k stop h hk hstop => effect_tickBoundary hs h hk hstop, fun h hconf => ⟨effect_boundaryCore hs h hconf,
    completes_boundaryCore_stop hs h hconf, completes_boundaryCore_overrun hs h⟩, completes_boundaryFab hs, effect_releaseStateReset hs⟩

/-- Settles O9. -/
theorem ticksStartAndBoundaries : Obligations.TicksStartAndBoundaries := ⟨tickStartStop, tickBoundaries⟩

end Sys2Proof.Machine
end

section
-- The theorems are elaborated in order, which keeps the memory that a check of the whole text takes within its limit.
set_option Elab.async false

/-! SUPPORT.  The links of the root ports (R407, R408, R424, R426). -/

namespace Sys2Proof.Machine

open Sys2Proof.Safety Sys2Proof.Claims

@[simp] theorem rpPerst_width (r : Nat) : (Fld.brg (.RP_CTRL_PERST r)).width = 1 := rfl
@[simp] theorem rpSpeed_width (r : Nat) : (Fld.brg (.RP_STATUS_SPEED r)).width = 2 := rfl
@[simp] theorem rpCtnCause_width (r : Nat) : (Fld.brg (.RP_CTN_STATUS_CAUSE r)).width = 3 := rfl
@[simp] theorem rpCtnSeq_width (r : Nat) : (Fld.brg (.RP_CTN_STATUS_SEQ r)).width = 16 := rfl

theorem rp_emit (d : Dev) (o : Outbound) (n : Nat) : (d.emit o).rp n = d.rp n := rfl
theorem rd_emit (d : Dev) (o : Outbound) (f : Fld) : (d.emit o).rd f = d.rd f := rfl
theorem rd_modRp (d : Dev) (rp : Nat) (g : Rp → Rp) (f : Fld) : (d.modRp rp g).rd f = d.rd f := rfl
theorem out_emit (d : Dev) (o : Outbound) : (d.emit o).out = d.out ++ [o] := rfl

/-! ### Triggers of a containment -/

/-- Whether trigger `c` of a root port is enabled (R426). -/
def Dev.rpTriggerOn (d : Dev) (rp c : Nat) : Prop := c = 1 ∨ c = 6 ∨ (d.rd (.brg (.RP_CTN_TRIG rp))).testBit (c - 1) = true

/-- A root port that has taken trigger `c` (R426). -/
def Dev.rpContained (d : Dev) (rp c : Nat) : Dev :=
  (d.modRp rp (fun r => { r with ctnPend := true })).wrs [(.brg (.RP_STATUS_STATE rp), 3), (.brg (.RP_CTN_STATUS_CAUSE rp), c),
    (.brg (.RP_CTN_STATUS_SEQ rp), nextSeq (d.rd (.brg (.RP_CTN_STATUS_SEQ rp))))]

theorem rpPresent_on {d : Dev} {rp c : Nat} (h : d.rpTriggerOn rp c) (hst : d.rpState rp = 1 ∨ d.rpState rp = 2) :
    d.rpPresent rp [c] = d.rpContained rp c := by
  have hf : [c].filter (fun c => c = 1 || c = 6 || bitAt (d.rd (.brg (.RP_CTN_TRIG rp))) (c - 1)) = [c] := by
    refine List.filter_eq_self.mpr fun x hx => ?_
    obtain rfl := List.mem_singleton.mp hx
    simpa [bitAt_eq_testBit, Dev.rpTriggerOn, or_assoc] using h
  rw [Dev.rpPresent, hf]
  exact if_pos hst

theorem rpPresent_off {d : Dev} {rp c : Nat} (h : ¬ (d.rpTriggerOn rp c ∧ (d.rpState rp = 1 ∨ d.rpState rp = 2))) :
    d.rpPresent rp [c] = d := by
  by_cases hon : d.rpTriggerOn rp c
  · have hf : [c].filter (fun c => c = 1 || c = 6 || bitAt (d.rd (.brg (.RP_CTN_TRIG rp))) (c - 1)) = [c] := by
      refine List.filter_eq_self.mpr fun x hx => ?_
      obtain rfl := List.mem_singleton.mp hx
      simpa [bitAt_eq_testBit, Dev.rpTriggerOn, or_assoc] using hon
    rw [Dev.rpPresent, hf]
    exact if_neg fun hst => h ⟨hon, hst⟩
  · have hf : [c].filter (fun c => c = 1 || c = 6 || bitAt (d.rd (.brg (.RP_CTN_TRIG rp))) (c - 1)) = [] := by
      refine List.filter_eq_nil_iff.mpr fun x hx => ?_
      obtain rfl := List.mem_singleton.mp hx
      simpa [bitAt_eq_testBit, Dev.rpTriggerOn, or_assoc] using hon
    rw [Dev.rpPresent, hf]

/-- A trigger's effect on its port (R426). -/
theorem rpPresent_effect (d : Dev) (rp : Fin 2) {c : Nat} (hc : c < 8) :
    Kept (rpCtnRegs rp) [.rps] d (d.rpPresent rp [c]) ∧ RpTriggered d (d.rpPresent rp [c]) rp c ∧
      ∃ b, (d.rpPresent rp [c]).rp rp = { d.rp rp with ctnPend := b } := by
  by_cases h : d.rpTriggerOn rp c ∧ (d.rpState rp = 1 ∨ d.rpState rp = 2)
  · have hseq := d.rd_lt (.brg (.RP_CTN_STATUS_SEQ rp))
    rw [rpCtnSeq_width] at hseq
    have hnext : nextSeq (d.rd (.brg (.RP_CTN_STATUS_SEQ rp))) % 65536 = nextSeq (d.rd (.brg (.RP_CTN_STATUS_SEQ rp))) := by
      rw [nextSeq]
      split <;> omega
    have hrp : (d.rpContained rp c).rp rp = { d.rp rp with ctnPend := true } := by
      have hmod := d.rp_modRp_self rp (fun r => { r with ctnPend := true })
      rw [Dev.rpContained, ← hmod]
      rfl
    rw [rpPresent_on h.1 h.2]
    refine ⟨((Kept.refl d).modRp _ _ (by simp)).wrs _ (by simp [rpCtnRegs]), ?_, _, hrp⟩
    refine (iff_of_eq (if_pos h)).mpr ⟨?_, ?_, ?_, by rw [hrp]⟩ <;> simp [Dev.rpState, Dev.rpContained, Nat.mod_eq_of_lt hc, hnext]
  · rw [rpPresent_off h]
    refine ⟨.refl d, ?_, _, rfl⟩
    exact (iff_of_eq (if_neg h)).mpr ⟨fun _ _ => rfl, rfl⟩

theorem rpCtnRegs_isCount {n : Nat} {f : Fld} (h : f ∈ rpCtnRegs n) : isCount f = false := by
  simp only [rpCtnRegs, List.mem_cons, List.not_mem_nil, or_false] at h
  obtain rfl | rfl | rfl := h <;> rfl

/-- A trigger's effect speaks of the fields of its port alone. -/
theorem rpTriggered_of_same {d e t u : Dev} {rp c : Nat} (h : RpTriggered e t rp c)
    (htrig : e.rd (.brg (.RP_CTN_TRIG rp)) = d.rd (.brg (.RP_CTN_TRIG rp)))
    (hd : ∀ x ∈ rpCtnRegs rp, e.rd x = d.rd x) (hdp : (e.rp rp).ctnPend = (d.rp rp).ctnPend)
    (ht : ∀ x ∈ rpCtnRegs rp, u.rd x = t.rd x) (htp : (u.rp rp).ctnPend = (t.rp rp).ctnPend) : RpTriggered d u rp c := by
  simp only [rpCtnRegs, List.forall_mem_cons, List.not_mem_nil, false_imp_iff, implies_true, and_true] at hd ht
  obtain ⟨hd1, hd2, hd3⟩ := hd
  obtain ⟨ht1, ht2, ht3⟩ := ht
  unfold RpTriggered Dev.rpState at h ⊢
  simp only [rpCtnRegs, List.forall_mem_cons, List.not_mem_nil, false_imp_iff, implies_true, and_true] at h ⊢
  rw [htrig, hd1] at h
  rw [ht1, ht2, ht3, htp]
  split
  · rename_i hc
    rw [if_pos hc, hd3] at h
    exact h
  · rename_i hc
    rw [if_neg hc, hd2, hd3, hdp] at h
    exact h

section
variable (s : State) (rp : Fin 2)

theorem effect_rpCtnFreeze (ha : Awake s) : Effect (.rpCtnFreeze rp) s (rpCtnRegs rp) [.rps] (fun t => RpTriggered s.dev t rp 6) := by
  refine .host (x := execRpCtnFreeze rp s) rfl rfl ha fun e he => ?_
  obtain ⟨hk, ht, -⟩ := rpPresent_effect e rp (c := 6) (by decide)
  exact ⟨hk, rpTriggered_of_same ht (he.rd (.brg (.RP_CTN_TRIG rp)) rfl) (fun f hf => he.rd f (rpCtnRegs_isCount hf))
    (by rw [rp_counted he]) (fun _ _ => rfl) rfl⟩

variable (hs : s.held = false)
include hs

theorem effect_rpLinkError (hdl : (s.dev.rp rp).dlUp = true) :
    Effect (.rpLinkError rp) s (rpCtnRegs rp) [.rps] (fun t => RpTriggered s.dev t rp 3) := by
  refine .run (x := execRpLinkError rp s) rfl rfl hs ?_
  obtain ⟨hk, ht, -⟩ := rpPresent_effect s.dev rp (c := 3) (by decide)
  rw [if_pos hdl]
  exact ⟨hk, ht⟩

theorem effect_modemErrMessage_fatal (hdl : (s.dev.rp rp).dlUp = true) :
    Effect (.modemErrMessage rp 2) s (rpCtnRegs rp) [.rps] (fun t => RpTriggered s.dev t rp 2) := by
  refine .run (x := execModemErrMessage rp 2 s) rfl rfl hs ?_
  obtain ⟨hk, ht, -⟩ := rpPresent_effect s.dev rp (c := 2) (by decide)
  rw [if_pos ⟨hdl, rfl⟩]
  exact ⟨hk, ht⟩

theorem effect_modemErrMessage_other {k : Fin 3} (hk : k.val ≠ 2) : Effect (.modemErrMessage rp k) s [] [] (fun _ => True) := by
  refine .run (x := execModemErrMessage rp k s) rfl rfl hs ?_
  rw [if_neg fun h => hk h.2]
  exact ⟨.refl _, trivial⟩

theorem effect_rpVendorDefinedMessage (hdl : (s.dev.rp rp).dlUp = true) :
    Effect (.rpVendorDefinedMessage rp) s [.brg (.RP_CNT_COUNT rp 9)] [] (fun t => Counts s.dev t (.brg (.RP_CNT_COUNT rp 9))) := by
  refine .run (x := execRpVendorDefinedMessage rp s) rfl rfl hs ?_
  rw [if_pos hdl]
  exact ⟨(Kept.refl _).inc (by simp), by simp [Counts, Dev.rpCnt, Dev.rd_inc]⟩

/-! ### PERST_N and the reference clock -/

theorem effect_rpPerstRelease (hp : (s.dev.rp rp).perstPend = true) :
    Effect (.rpPerstRelease rp) s [.brg (.RP_STATUS_STATE rp)] (.rps :: .out :: timeParts) (fun t =>
      t.now = max s.dev.now ((s.dev.rp rp).refclkAt + 100000) ∧ t.rp rp = { s.dev.rp rp with perstPend := false, perstN := true } ∧
      t.rpState rp = (if s.dev.rpState rp = 3 then 3 else 1) ∧ t.out = s.dev.out ++ ([.rpPerst rp true] : List Outbound)) := by
  refine .run (x := execRpPerstRelease rp s) rfl rfl hs ?_
  rw [if_neg (by simp [hp])]
  have hnow : (s.dev.elapse ((s.dev.rp rp).refclkAt + 100000 - s.dev.now)).now = max s.dev.now ((s.dev.rp rp).refclkAt + 100000) := by
    rw [Dev.elapse_now]
    omega
  have hk := kept_elapse [.brg (.RP_STATUS_STATE rp)] (.rps :: .out :: timeParts) s.dev ((s.dev.rp rp).refclkAt + 100000 - s.dev.now) (by simp)
  have hst : (s.dev.elapse ((s.dev.rp rp).refclkAt + 100000 - s.dev.now)).rpState rp = s.dev.rpState rp :=
    s.dev.rd_elapse _ _ rfl
  have hrps : (s.dev.elapse ((s.dev.rp rp).refclkAt + 100000 - s.dev.now)).rps = s.dev.rps :=
    (kept_elapse [] timeParts s.dev _ (List.Subset.refl _)).same (x := .rps) (by simp [timeParts])
  have hout : (s.dev.elapse ((s.dev.rp rp).refclkAt + 100000 - s.dev.now)).out = s.dev.out :=
    (kept_elapse [] timeParts s.dev _ (List.Subset.refl _)).same (x := .out) (by simp [timeParts])
  dsimp only
  generalize s.dev.elapse ((s.dev.rp rp).refclkAt + 100000 - s.dev.now) = e at hnow hk hst hrps hout
  have hrp : e.rp rp = s.dev.rp rp := by rw [Dev.rp, Dev.rp, hrps]
  have hset : Kept [.brg (.RP_STATUS_STATE rp)] (.rps :: .out :: timeParts) s.dev
      ((e.modRp rp (fun r => { r with perstPend := false, perstN := true })).emit (.rpPerst rp true)) :=
    (hk.modRp _ _ (by simp)).emitAside _ rfl (by simp)
  have hrp' : ((e.modRp rp (fun r => { r with perstPend := false, perstN := true })).emit (.rpPerst rp true)).rp rp =
      { s.dev.rp rp with perstPend := false, perstN := true } := by rw [rp_emit, e.rp_modRp_self rp, hrp]
  have hst' : ((e.modRp rp (fun r => { r with perstPend := false, perstN := true })).emit (.rpPerst rp true)).rpState rp = s.dev.rpState rp := by
    rw [Dev.rpState, rd_emit, rd_modRp]
    exact hst
  have hout' : ((e.modRp rp (fun r => { r with perstPend := false, perstN := true })).emit (.rpPerst rp true)).out =
      s.dev.out ++ ([.rpPerst rp true] : List Outbound) := by rw [out_emit, Dev.modRp_out, hout]
  have hnow' : ((e.modRp rp (fun r => { r with perstPend := false, perstN := true })).emit (.rpPerst rp true)).now =
      max s.dev.now ((s.dev.rp rp).refclkAt + 100000) := by rw [Dev.emit_now, Dev.modRp_now, hnow]
  generalize (e.modRp rp (fun r => { r with perstPend := false, perstN := true })).emit (.rpPerst rp true) = g at hset hrp' hst' hout' hnow'
  rw [hst']
  split
  · exact ⟨hset, hnow', hrp', by rw [hst']; assumption, hout'⟩
  · exact ⟨hset.wr _ (by simp), by rw [Dev.wr_now, hnow'], by rw [Dev.rp, Dev.wr_rps, ← Dev.rp, hrp'], by simp [Dev.rpState],
      by rw [Dev.wr_out, hout']⟩

theorem effect_rpClkreqNChange (low : Bool) :
    Effect (.rpClkreqNChange rp low) s [] [.rps, .out] (fun t => t.rp rp = { s.dev.rp rp with clkreqLow := low } ∧
      t.out = s.dev.out ++ (if t.refclkOn rp = s.dev.refclkOn rp then [] else [.rpRefclk rp (t.refclkOn rp)])) := by
  refine .run (x := execRpClkreqNChange rp low s) rfl rfl hs ?_
  dsimp only
  have hk : Kept [] [.rps, .out] s.dev (s.dev.modRp rp (fun r => { r with clkreqLow := low })) := (Kept.refl _).modRp _ _ (by simp)
  have hrp := s.dev.rp_modRp_self rp (fun r => { r with clkreqLow := low })
  have hout : (s.dev.modRp rp (fun r => { r with clkreqLow := low })).out = s.dev.out := rfl
  generalize s.dev.modRp rp (fun r => { r with clkreqLow := low }) = e at hk hrp hout
  split
  · rename_i h
    exact ⟨hk, hrp, by simp [hout]⟩
  · rename_i h
    refine ⟨hk.emitAside _ rfl (by simp), hrp, ?_⟩
    have hon : (e.emit (.rpRefclk rp (e.refclkOn rp))).refclkOn rp = e.refclkOn rp := rfl
    have hemit : (e.emit (.rpRefclk rp (e.refclkOn rp))).out = s.dev.out ++ [.rpRefclk rp (e.refclkOn rp)] := by rw [← hout]; rfl
    rw [hon, if_neg h, hemit]

theorem effect_rpLinkUp {speed : Fin 4} (hp : (s.dev.rp rp).perstN = true) (hdl : (s.dev.rp rp).dlUp = false) (h0 : speed ≠ 0)
    (hmax : speed.val ≤ s.dev.rd (.brg (.RP_CTRL_MAX_SPEED rp))) :
    Effect (.rpLinkUp rp speed) s [.brg (.RP_STATUS_SPEED rp), .brg (.RP_STATUS_STATE rp)] [.rps] (fun t =>
      t.rd (.brg (.RP_STATUS_SPEED rp)) = speed ∧
      t.rp rp = { s.dev.rp rp with dlUp := true, fabUp := if s.dev.rpState rp = 1 then true else (s.dev.rp rp).fabUp } ∧
      t.rpState rp = (if s.dev.rpState rp = 1 then 2 else s.dev.rpState rp)) := by
  have hspeed : speed.val % 4 = speed.val := Nat.mod_eq_of_lt speed.isLt
  refine .run (x := execRpLinkUp rp speed s) rfl rfl hs ?_
  rw [if_neg (by simp [hp, hdl, hmax]; exact h0)]
  dsimp only
  have hst : ((s.dev.modRp rp (fun r => { r with dlUp := true })).wr (.brg (.RP_STATUS_SPEED rp)) speed).rpState rp = s.dev.rpState rp := by
    simp [Dev.rpState]
  have hrp : ((s.dev.modRp rp (fun r => { r with dlUp := true })).wr (.brg (.RP_STATUS_SPEED rp)) speed).rp rp =
      { s.dev.rp rp with dlUp := true } := s.dev.rp_modRp_self rp _
  have hk : Kept [.brg (.RP_STATUS_SPEED rp), .brg (.RP_STATUS_STATE rp)] [.rps] s.dev
      ((s.dev.modRp rp (fun r => { r with dlUp := true })).wr (.brg (.RP_STATUS_SPEED rp)) speed) :=
    ((Kept.refl _).modRp _ _ (by simp)).wr _ (by simp)
  have hsp : ((s.dev.modRp rp (fun r => { r with dlUp := true })).wr (.brg (.RP_STATUS_SPEED rp)) speed).rd (.brg (.RP_STATUS_SPEED rp)) = speed := by
    simp [hspeed]
  generalize (s.dev.modRp rp (fun r => { r with dlUp := true })).wr (.brg (.RP_STATUS_SPEED rp)) speed = e at hst hrp hk hsp
  rw [hst]
  by_cases h1 : s.dev.rpState rp = 1
  · simp only [h1, if_true]
    refine ⟨(hk.wr _ (by simp)).modRp _ _ (by simp), by simp [hsp], ?_, by simp [Dev.rpState]⟩
    refine (Dev.rp_modRp_self _ rp _).trans ?_
    rw [show (e.wr (.brg (.RP_STATUS_STATE rp)) 2).rp rp = e.rp rp from rfl, hrp]
  · simp only [h1, if_false]
    exact ⟨hk, hsp, hrp, hst⟩

end

section
variable (s : State) (rp : Fin 2) (ha : Awake s)
include ha

theorem effect_rpPerstWrite_assert (hw : s.dev.apWait = []) :
    Effect (.rpPerstWrite rp true) s [.brg (.RP_CTRL_PERST rp), .brg (.RP_STATUS_STATE rp)] [.rps, .out] (fun t =>
      t.rd (.brg (.RP_CTRL_PERST rp)) = 1 ∧ t.rpState rp = (if s.dev.rpState rp = 3 then 3 else 0) ∧
      t.rp rp = { s.dev.rp rp with perstPend := false, perstN := false, fabUp := false, pf := [] } ∧
      t.out = s.dev.out ++ ([.rpPerst rp false] : List Outbound)) := by
  refine .host (x := execRpPerstWrite rp true s) rfl rfl ha fun e he => ?_
  have hcount : Kept [] [] s.dev e := (Kept.refl _).counted he
  have hout : e.out = s.dev.out := hcount.same (x := .out) (by simp)
  have hwait : e.apWait = s.dev.apWait := hcount.same (x := .apWait) (by simp)
  rw [if_pos rfl]
  dsimp only
  have hst : (((e.wr (.brg (.RP_CTRL_PERST rp)) (b2n true)).modRp rp (fun r =>
      { r with perstPend := false, perstN := false, fabUp := false, pf := [] })).emit (.rpPerst rp false)).rpState rp = s.dev.rpState rp := by
    have h := he.rd (.brg (.RP_STATUS_STATE rp)) rfl
    simp [Dev.rpState, h]
  have hrp : (((e.wr (.brg (.RP_CTRL_PERST rp)) (b2n true)).modRp rp (fun r =>
      { r with perstPend := false, perstN := false, fabUp := false, pf := [] })).emit (.rpPerst rp false)).rp rp =
      { s.dev.rp rp with perstPend := false, perstN := false, fabUp := false, pf := [] } :=
    (Dev.rp_modRp_self _ rp _).trans (by rw [show (e.wr (.brg (.RP_CTRL_PERST rp)) (b2n true)).rp rp = e.rp rp from rfl, rp_counted he])
  have hk : Kept [.brg (.RP_CTRL_PERST rp), .brg (.RP_STATUS_STATE rp)] [.rps, .out] e (((e.wr (.brg (.RP_CTRL_PERST rp)) (b2n true)).modRp rp (fun r =>
      { r with perstPend := false, perstN := false, fabUp := false, pf := [] })).emit (.rpPerst rp false)) :=
    (((Kept.refl e).wr _ (by simp)).modRp _ _ (by simp)).emitAside _ rfl (by simp)
  have hperst : (((e.wr (.brg (.RP_CTRL_PERST rp)) (b2n true)).modRp rp (fun r =>
      { r with perstPend := false, perstN := false, fabUp := false, pf := [] })).emit (.rpPerst rp false)).rd (.brg (.RP_CTRL_PERST rp)) = 1 := by
    simp [b2n]
  have ho : (((e.wr (.brg (.RP_CTRL_PERST rp)) (b2n true)).modRp rp (fun r =>
      { r with perstPend := false, perstN := false, fabUp := false, pf := [] })).emit (.rpPerst rp false)).out =
      s.dev.out ++ ([.rpPerst rp false] : List Outbound) := by rw [← hout]; rfl
  have hq : (((e.wr (.brg (.RP_CTRL_PERST rp)) (b2n true)).modRp rp (fun r =>
      { r with perstPend := false, perstN := false, fabUp := false, pf := [] })).emit (.rpPerst rp false)).apWait = [] := hwait.trans hw
  generalize ((e.wr (.brg (.RP_CTRL_PERST rp)) (b2n true)).modRp rp (fun r =>
      { r with perstPend := false, perstN := false, fabUp := false, pf := [] })).emit (.rpPerst rp false) = g at hst hrp hk hperst ho hq
  rw [hst]
  split
  · rw [Dev.apDrain_idle _ hq]
    exact ⟨hk, hperst, by rw [hst]; assumption, hrp, ho⟩
  · rw [Dev.apDrain_idle (g.wr (.brg (.RP_STATUS_STATE rp)) 0) hq]
    exact ⟨hk.wr _ (by simp), by simp [hperst], by simp [Dev.rpState], hrp, ho⟩

theorem effect_rpPerstWrite_release :
    Effect (.rpPerstWrite rp false) s [.brg (.RP_CTRL_PERST rp)] [.rps] (fun t => t.rd (.brg (.RP_CTRL_PERST rp)) = 0 ∧
      t.rp rp = (if (s.dev.rp rp).perstN then s.dev.rp rp else { s.dev.rp rp with perstPend := true })) := by
  refine .host (x := execRpPerstWrite rp false s) rfl rfl ha fun e he => ?_
  have hrp : (e.wr (.brg (.RP_CTRL_PERST rp)) (b2n false)).rp rp = s.dev.rp rp := rp_counted he rp
  have hk : Kept [.brg (.RP_CTRL_PERST rp)] [.rps] e (e.wr (.brg (.RP_CTRL_PERST rp)) (b2n false)) := (Kept.refl e).wr _ (by simp)
  rw [if_neg (by simp), hrp]
  split
  · exact ⟨hk, by simp [b2n], hrp⟩
  · exact ⟨hk.modRp _ _ (by simp), by simp [b2n], (Dev.rp_modRp_self _ rp _).trans (by rw [hrp])⟩

end

/-! ### Containment of the host port -/

/-- The fields that a containment of the host port writes (R398, R406). -/
def ctnRegs : List Fld := [.hep .CTN_LOG_TRIGGERS, .hep .CTN_STATUS_CAUSE, .hep .CTN_STATUS_SEQ, .hep .CTN_TICK_TICK, .hep .CTN_STATUS_STATE,
  .hep .CTN_EVT_ENTERED, .hep .PF1_IPEND_CTN]

/-- The triggers recorded (R398). -/
def Dev.triggersSet (d : Dev) (l : List Nat) : Dev := l.foldl (fun d c => d.setFldBit (.hep .CTN_LOG_TRIGGERS) (c - 1)) d

theorem triggersSet_kept (d : Dev) (l : List Nat) : Kept [.hep .CTN_LOG_TRIGGERS] [] d (d.triggersSet l) :=
  .foldl _ _ (fun _ _ _ h => h.wr _ (by simp)) (.refl d)

/-- A containment of the host port with cause `c` (R398, R406). -/
def Dev.contained (d : Dev) (c : Nat) : Dev :=
  (d.wrs [(.hep .CTN_STATUS_CAUSE, c), (.hep .CTN_STATUS_SEQ, nextSeq (d.rd (.hep .CTN_STATUS_SEQ))),
    (.hep .CTN_TICK_TICK, d.tick.coreTick % 2 ^ 32), (.hep .CTN_STATUS_STATE, 1)]).ctnEvent .CTN_EVT_ENTERED

theorem contained_kept (d : Dev) (c : Nat) : Kept ctnRegs [.irqs, .toSafe] d (d.contained c) :=
  Kept.withToSafe (Kept.wr (Kept.event ((Kept.refl _).wrs _ (by simp [ctnRegs])) _ _ (by simp [ctnRegs]) (by simp)) _ (by simp [ctnRegs])) _ (by simp)

theorem present_cases (d : Dev) (codes : List Nat) : d.present codes = d ∨ ∃ c cs, codes.filter (fun c => d.triggerOn c) = c :: cs ∧
    d.present codes = if (d.triggersSet (c :: cs)).frozen then d.triggersSet (c :: cs) else (d.triggersSet (c :: cs)).contained c := by
  unfold Dev.present
  split
  · exact .inl rfl
  · rename_i c cs h
    exact .inr ⟨c, cs, h, rfl⟩

theorem present_kept (d : Dev) (codes : List Nat) : Kept ctnRegs [.irqs, .toSafe] d (d.present codes) := by
  obtain h | ⟨c, cs, -, h⟩ := present_cases d codes
  · rw [h]
    exact .refl d
  · have hset := (triggersSet_kept d (c :: cs)).mono (F' := ctnRegs) (P' := [.irqs, .toSafe]) (by simp [ctnRegs]) (by simp)
    rw [h]
    exact .ite _ (fun _ => hset) fun _ => hset.trans (contained_kept _ c)

/-! ### Transfers that end with their port -/

/-- The fields that ends of transfers write. -/
def dmaField (f : Fld) : Bool :=
  match f with
  | .tck _ | .dma _ => true
  | f => f ∈ ctnRegs

/-- The parts that the end of a tick channel's transfer changes. -/
def tchParts : List Part := [.dma, .irqs, .toSafe, .tick, .classq]

/-- Only what the end of a tick channel's transfer changes differs. -/
abbrev TchMoved (d e : Dev) : Prop := MovedIn dmaField tchParts d e

/-- The parts that ends of transfers change, the root ports' aside. -/
def dmaParts : List Part := [.out, .hep, .dma, .irqs, .toSafe, .tick, .classq]

/-- Only what ends of transfers change differs. -/
abbrev DmaMoved (d e : Dev) : Prop := MovedIn dmaField dmaParts d e

section
variable (d : Dev)

theorem vatFree_moved (ls : List Nat) : DmaMoved d (d.vatFree ls) :=
  movedIn_of_kept (F := []) ((Kept.refl d).withDma _ (by simp [dmaParts])) (by simp)

theorem present_moved (codes : List Nat) : DmaMoved d (d.present codes) :=
  movedIn_of_kept ((present_kept d codes).mono (List.Subset.refl _) (by simp [dmaParts])) (by simp [dmaField, ctnRegs])

theorem writeOff_moved (p : Tag → Bool) (st : TagState) : DmaMoved d (d.writeOff p st) := by
  unfold Dev.writeOff
  dsimp only
  have h := (movedIn_of_kept (F := []) ((Kept.refl d).withHep { d.hep with
    tags := updWhere d.hep.tags (fun t => t.st = .out && p t) (fun t => { t with st := st, lines := [] }) } (by simp [dmaParts])) (by simp) : DmaMoved d _)
  exact .ite _ (fun _ => (h.trans (vatFree_moved _ _)).trans (present_moved _ _)) fun _ => h.trans (vatFree_moved _ _)

theorem endOcc_settled (n status : Nat) : TchMoved d (d.endOcc n status) := by
  have hcarry : ∀ (e : Dev) (x : Slot), TchMoved e (e.carry x) := fun e x => by
    unfold Dev.carry
    dsimp only
    split
    · exact .refl e
    · exact movedIn_of_kept (F := [.tck .CARRY_CNT_COUNT]) (((Kept.refl e).withClassq _ (by simp [tchParts])).incBy _ (by simp)) (by simp [dmaField])
  have hreq : ∀ (e : Dev) (sel : Nat → Bool), TchMoved e (e.reqSource 5 sel) := fun e sel => by
    refine .foldl _ _ (fun e i => ?_) e
    split
    · exact movedIn_of_kept (F := [.dma (.REQ_MAP_PENDING i)]) ((Kept.refl e).inc (by simp)) (by simp [dmaField])
    · exact .refl e
  have hrec : ∀ (e : Dev) (a b : Bool) (u : Nat), TchMoved e (e.record n status a b u) := fun e a b u =>
    movedIn_of_kept ((Dev.record_kept e n status a b u).mono (List.Subset.refl _) (by simp [tchParts])) (by simp [recFields, dmaField])
  have hcut : ∀ e : Dev, TchMoved e ((e.inc (.tck .CUT_CNT_COUNT)).tckEvent .STATUS_SLOT_CUT .CTRL_IRQ_CUT_EN) := fun e =>
    movedIn_of_kept (F := [.tck .CUT_CNT_COUNT, .tck .STATUS_SLOT_CUT]) (((Kept.refl e).inc (by simp)).event _ _ (by simp) (by simp [tchParts]))
      (by simp [dmaField])
  have hif : ∀ {e g : Dev} (c : Prop) [Decidable c], TchMoved d e → TchMoved e g → TchMoved d (if c then g else e) := fun c _ h k =>
    .ite c (fun _ => h.trans k) fun _ => h
  unfold Dev.endOcc
  dsimp only
  refine hif _ (hif _ (hif _ (hif _ (MovedIn.trans ?_ (hrec _ _ _ _)) (hcut _)) (hcarry _ _)) (hreq _ _)) ?_
  · exact movedIn_of_kept (F := []) ((Kept.refl d).modOcc _ _ (by simp [tchParts])) (by simp)
  · exact movedIn_of_kept (F := []) ((Kept.refl _).fault _ _ (by simp [tchParts])) (by simp)

theorem tchSettle_settled (t : Nat) : TchMoved d (d.tchSettle t) := by
  have hend : ∀ (e : Dev) (c : Nat) (v : Xfer), TchMoved e (e.tchEnd t c v) := fun e c v => by
    have h : Kept [.dma (.TCH_STATUS_LAST_STATUS t), .dma (.IRQ_PEND_PEND ((96 + t) / 32))] [.dma, .irqs] e
        (((e.vatFree (v.waiting.flatMap (·.lines))).modTch t (fun c => { c with x := none })).wr (.dma (.TCH_STATUS_LAST_STATUS t)) c) :=
      (((Kept.refl e).withDma _ (by simp)).modTch _ _ (by simp)).wr _ (by simp)
    unfold Dev.tchEnd
    exact movedIn_of_kept ((Kept.ite _ (fun _ => kept_chIrq h _ (by simp) (by simp)) fun _ => h).mono (List.Subset.refl _) (by simp [tchParts]))
      (by simp [dmaField])
  have hfault : ∀ e : Dev, TchMoved e (e.tchFault t) := fun e => by
    unfold Dev.tchFault
    split
    · exact .refl e
    · exact .ite _ (fun _ => (endOcc_settled e _ _).trans (movedIn_of_kept (F := []) ((Kept.refl _).fault _ _ (by simp [tchParts])) (by simp)))
        fun _ => endOcc_settled e _ _
  unfold Dev.tchSettle
  split
  · exact .refl d
  · split
    · exact .refl d
    · rename_i v _ _
      split
      · exact hend _ _ _
      · rename_i st dest _
        refine .ite _ (fun _ => hend _ _ _) fun _ => (hend d st v).trans (MovedIn.trans
          (e := ((d.tchEnd t st v).dmaLog (96 + t) st dest).dmaEvent .STATUS_CH_ERR) ?_ (hfault _))
        exact movedIn_of_kept (F := [.dma .ERR_LOG_VALID, .dma .ERR_LOG_CHANNEL, .dma .ERR_LOG_STATUS, .dma .ERR_ADDR_ADDR, .dma .STATUS_CH_ERR])
          (((Kept.refl _).logFirst _ (by simp) (by simp)).event _ _ (by simp) (by simp [tchParts])) (by simp [dmaField])

theorem tchSettle_moved (t : Nat) : DmaMoved d (d.tchSettle t) :=
  (tchSettle_settled d t).mono (fun _ h => h) (by simp [tchParts, dmaParts])

end

/-! ### The port's tags when its link goes down -/

/-- The numbers of the tags in use of a root port. -/
def Rp.tagNumbers (r : Rp) : List Nat := r.tags.map (·.tag)

/-- The root ports' containment, links and tags in use are as before. -/
def TagsKept (d e : Dev) : Prop :=
  (∀ n, ∀ f ∈ rpCtnRegs n, e.rd f = d.rd f) ∧
    ∀ n, (e.rp n).dlUp = (d.rp n).dlUp ∧ (e.rp n).ctnPend = (d.rp n).ctnPend ∧ (e.rp n).tagNumbers = (d.rp n).tagNumbers

theorem TagsKept.refl (d : Dev) : TagsKept d d := ⟨fun _ _ _ => rfl, fun _ => ⟨rfl, rfl, rfl⟩⟩

theorem TagsKept.trans {d e g : Dev} (h : TagsKept d e) (k : TagsKept e g) : TagsKept d g :=
  ⟨fun n f hf => (k.1 n f hf).trans (h.1 n f hf), fun n =>
    ⟨(k.2 n).1.trans (h.2 n).1, (k.2 n).2.1.trans (h.2 n).2.1, (k.2 n).2.2.trans (h.2 n).2.2⟩⟩

theorem tagsKept_of_rps {d e : Dev} (hf : ∀ n, ∀ f ∈ rpCtnRegs n, e.rd f = d.rd f) (hr : e.rps = d.rps) : TagsKept d e :=
  ⟨hf, fun n => by rw [Dev.rp, Dev.rp, hr]; exact ⟨rfl, rfl, rfl⟩⟩

theorem tagsKept_of_kept {F : List Fld} {P : List Part} {d e : Dev} (h : Kept F P d e) (hF : ∀ n, ∀ f ∈ rpCtnRegs n, f ∉ F)
    (hP : Part.rps ∉ P) :
    TagsKept d e :=
  tagsKept_of_rps (fun n f hf => h.rd (hF n f hf) (rpCtnRegs_isCount hf)) (h.same hP)

theorem tagsKept_of_moved {d e : Dev} (h : DmaMoved d e) : TagsKept d e := by
  refine tagsKept_of_rps (fun n f hf => h.1 f ?_ (rpCtnRegs_isCount hf)) (h.2 .rps (by simp [dmaParts]))
  simp only [rpCtnRegs, List.mem_cons, List.not_mem_nil, or_false] at hf
  obtain rfl | rfl | rfl := hf <;> rfl

theorem tagsKept_modRp (d : Dev) (rp : Nat) (f : Rp → Rp)
    (hf : ∀ r, (f r).dlUp = r.dlUp ∧ (f r).ctnPend = r.ctnPend ∧ (f r).tagNumbers = r.tagNumbers) : TagsKept d (d.modRp rp f) := by
  refine ⟨fun _ _ _ => rfl, fun n => ?_⟩
  rw [Dev.rp_modRp]
  split
  · rename_i h
    rw [h.1]
    exact hf _
  · exact ⟨rfl, rfl, rfl⟩

theorem tagNumbers_updWhere (l : List RpTag) (p : RpTag → Bool) :
    (updWhere l p (fun t => { t with quarantined := true, lines := [], client := .prefetch })).map (·.tag) = l.map (·.tag) := by
  rw [updWhere, List.map_map]
  refine List.map_congr_left fun t _ => ?_
  rw [Function.comp]
  split <;> rfl

/-- The downstream requests of a channel are written off at root port `rp` (R323). -/
def Dev.rpWrittenOff (d : Dev) (x rp : Nat) : Dev :=
  let own := fun (t : RpTag) => match t.client with | .chan y _ => y = x | .flush y => y = x | _ => false
  (d.vatFree (((d.rp rp).tags.filter own).flatMap (·.lines))).modRp rp (fun r => { r with
    tags := updWhere r.tags own (fun t => { t with quarantined := true, lines := [], client := .prefetch }) })

theorem tagsKept_writtenOff (d : Dev) (x rp : Nat) : TagsKept d (d.rpWrittenOff x rp) :=
  (tagsKept_of_moved (vatFree_moved d _)).trans (tagsKept_modRp _ _ _ fun _ => ⟨rfl, rfl, tagNumbers_updWhere _ _⟩)

/-- The host's requests of a channel are written off, its waiting bytes dropped (R323). -/
def Dev.hostWrittenOff (d : Dev) (x : Nat) (v : Xfer) : Dev :=
  (d.writeOff (fun (t : Tag) => match t.client with | .chan y _ => y = x | .flush y => y = x | _ => false) .writtenOff).vatFree
    (v.waiting.flatMap (·.lines))

theorem tagsKept_hostWrittenOff (d : Dev) (x : Nat) (v : Xfer) : TagsKept d (d.hostWrittenOff x v) :=
  tagsKept_of_moved ((writeOff_moved d _ _).trans (vatFree_moved _ _))

theorem tagsKept_chBad (d : Dev) (x code addr : Nat) : TagsKept d (d.chBad x code addr) := by
  unfold Dev.chBad
  split
  · exact .refl d
  · rename_i v _
    refine (em _).elim (fun h => by rw [if_pos h]; exact .refl d) fun h => ?_
    rw [if_neg h]
    dsimp only
    have hxfer : ∀ (e : Dev) (f : Xfer → Xfer), DmaMoved e (e.modXfer x f) := fun e f => by
      unfold Dev.modXfer Dev.setXfer
      exact .ite _ (fun _ => movedIn_of_kept (F := []) ((Kept.refl e).modTch _ _ (by simp [dmaParts])) (by simp))
        fun _ => movedIn_of_kept (F := []) ((Kept.refl e).modLl _ _ (by simp [dmaParts])) (by simp)
    have hafter : ∀ e : Dev, DmaMoved e (e.chAfter x) := fun e => .ite _ (fun _ => tchSettle_moved e _) fun _ => .refl e
    refine TagsKept.trans ?_ (tagsKept_of_moved ((hxfer _ _).trans (hafter _)))
    exact ((tagsKept_hostWrittenOff d x v).trans (tagsKept_writtenOff _ x 0)).trans (tagsKept_writtenOff _ x 1)

theorem kept_reply {F : List Fld} {P : List Part} {d e : Dev} (h : Kept F P d e) (v n st : Nat) (ep : Bool) (ho : Part.out ∈ P) :
    Kept F P d (e.reply v n st ep) := (h.emitAside _ rfl ho).count _ _ _

theorem tagsKept_rpFail (d : Dev) (rp : Nat) (t : RpTag) (code : Nat) : TagsKept d (d.rpFail rp t code) := by
  unfold Dev.rpFail
  split
  · exact tagsKept_of_kept (F := []) (P := [.out]) (kept_reply (.refl d) _ _ _ _ (by simp)) (by simp) (by simp)
  · exact tagsKept_of_kept (F := [.brg (.RP_STATUS_CFG_BUSY rp), .brg (.RP_STATUS_CFG_ERR rp)]) (P := [.out])
      (kept_reply ((Kept.refl d).wrs _ (by simp)) _ _ _ _ (by simp)) (by simp [rpCtnRegs]) (by simp)
  · exact tagsKept_of_kept (F := [.brg (.RP_STATUS_CFG_BUSY rp)]) (P := []) ((Kept.refl d).wr _ (by simp)) (by simp [rpCtnRegs]) (by simp)
  · exact tagsKept_chBad _ _ _ _
  · exact tagsKept_chBad _ _ _ _
  · exact .refl d

/-- Root port `rp` has no longer the tags numbered in `l`; its containment and link are as before. -/
def TagsDropped (rp : Nat) (l : List Nat) (d e : Dev) : Prop :=
  (∀ f ∈ rpCtnRegs rp, e.rd f = d.rd f) ∧ (e.rp rp).dlUp = (d.rp rp).dlUp ∧ (e.rp rp).ctnPend = (d.rp rp).ctnPend ∧
    (e.rp rp).tagNumbers = (d.rp rp).tagNumbers.filter (fun k => k ∉ l)

theorem tagsDropped_rpDrop (d : Dev) (rp : Fin 2) (t : RpTag) : TagsDropped rp [t.tag] d (d.rpDrop rp t) := by
  refine ⟨fun _ _ => rfl, ?_⟩
  rw [Dev.rpDrop, Dev.rp_modRp_self]
  refine ⟨rfl, rfl, ?_⟩
  simp only [Rp.tagNumbers, List.filter_map]
  congr 1
  refine List.filter_congr fun g _ => ?_
  simp

theorem tagsDropped_kept {d e g : Dev} {rp : Nat} {l : List Nat} (h : TagsDropped rp l d e) (k : TagsKept e g) : TagsDropped rp l d g := by
  obtain ⟨hr, hl, hc, ht⟩ := h
  obtain ⟨kl, kc, kt⟩ := k.2 rp
  exact ⟨fun f hf => (k.1 rp f hf).trans (hr f hf), kl.trans hl, kc.trans hc, kt.trans ht⟩

theorem tagsDropped_of_kept {d e g : Dev} {rp : Nat} {l : List Nat} (k : TagsKept d e) (h : TagsDropped rp l e g) : TagsDropped rp l d g := by
  obtain ⟨hr, hl, hc, ht⟩ := h
  obtain ⟨kl, kc, kt⟩ := k.2 rp
  exact ⟨fun f hf => (hr f hf).trans (k.1 rp f hf), hl.trans kl, hc.trans kc, ht.trans (by rw [kt])⟩

theorem tagsDropped_rpEndBad (d : Dev) (rp : Fin 2) (t : RpTag) (code : Nat) : TagsDropped rp [t.tag] d (d.rpEndBad rp t code) :=
  tagsDropped_kept (tagsDropped_of_kept (tagsKept_of_moved (vatFree_moved d t.lines)) (tagsDropped_rpDrop _ rp t)) (tagsKept_rpFail _ _ _ _)

/-- Each tag of a list dropped in turn. -/
theorem tagsDropped_foldl (rp : Nat) (f : Dev → RpTag → Dev) (hf : ∀ d t, TagsDropped rp [t.tag] d (f d t)) (l : List RpTag) (d : Dev) :
    TagsDropped rp (l.map (·.tag)) d (l.foldl f d) := by
  induction l generalizing d with
  | nil => exact ⟨fun _ _ => rfl, rfl, rfl, by simp⟩
  | cons t l ih =>
    obtain ⟨hr, hl, hc, ht⟩ := hf d t
    obtain ⟨kr, kl, kc, kt⟩ := ih (f d t)
    refine ⟨fun x hx => (kr x hx).trans (hr x hx), kl.trans hl, kc.trans hc, kt.trans ?_⟩
    rw [ht, List.filter_filter]
    refine List.filter_congr fun k _ => ?_
    simp [List.map_cons, not_or, Bool.and_comm, -List.mem_map]

/-- All the tags of a root port dropped in turn. -/
theorem tagsDropped_all {d e : Dev} {rp : Nat} (h : TagsDropped rp (d.rp rp).tagNumbers d e) : (e.rp rp).tags = [] := by
  have hnone : (d.rp rp).tagNumbers.filter (fun k => k ∉ (d.rp rp).tagNumbers) = [] := List.filter_eq_nil_iff.mpr fun k hk => by simp [hk]
  exact List.map_eq_nil_iff.mp (h.2.2.2.trans hnone)

/-! ### RP_LINK_DOWN -/

/-- A root port whose data link layer went down: the quarantined tags and the prefetched lines are gone (R408). -/
def Dev.rpDown (d : Dev) (rp : Nat) : Dev :=
  (d.modRp rp (fun r => { r with dlUp := false, pf := [], tags := r.tags.filter (fun t => !t.quarantined) })).wr (.brg (.RP_STATUS_SPEED rp)) 0

theorem rpDown_kept (d : Dev) (rp : Nat) : Kept [.brg (.RP_STATUS_SPEED rp)] [.rps] d (d.rpDown rp) :=
  ((Kept.refl d).modRp _ _ (by simp)).wr _ (by simp)

theorem rp_rpDown (d : Dev) (rp : Fin 2) : (d.rpDown rp).rp rp =
    { d.rp rp with dlUp := false, pf := [], tags := (d.rp rp).tags.filter (fun t => !t.quarantined) } := d.rp_modRp_self rp _

/-- A root port whose link went down by surprise: the trigger is presented, each read of the port ends (R408, R426). -/
def Dev.rpRemoved (d : Dev) (rp : Nat) : Dev :=
  (((d.rpDown rp).rpPresent rp [1]).rp rp).tags.foldl (fun d t =>
    if (d.rp rp).tags.any (fun g => g.tag = t.tag && !g.quarantined) then d.rpEndBad rp t 0x80 else d.rpDrop rp t) ((d.rpDown rp).rpPresent rp [1])

theorem rpRemoved_dropped (d : Dev) (rp : Fin 2) :
    TagsDropped rp (((d.rpDown rp).rpPresent rp [1]).rp rp).tagNumbers ((d.rpDown rp).rpPresent rp [1]) (d.rpRemoved rp) := by
  refine tagsDropped_foldl rp _ (fun e t => ?_) _ _
  split
  · exact tagsDropped_rpEndBad e rp t _
  · exact tagsDropped_rpDrop e rp t

theorem rpTriggered_rpDown (d : Dev) (rp : Fin 2) {e t : Dev} {c : Nat} (he : e = d.rpDown rp) (h : RpTriggered e t rp c) : RpTriggered d t rp c := by
  subst he
  have hk := rpDown_kept d rp
  refine rpTriggered_of_same h (hk.rd (by simp) rfl) (fun f hf => hk.rd ?_ (rpCtnRegs_isCount hf)) (by rw [rp_rpDown]) (fun _ _ => rfl) rfl
  simp only [rpCtnRegs, List.mem_cons, List.not_mem_nil, or_false] at hf
  obtain rfl | rfl | rfl := hf <;> simp

section
variable (s : State) (rp : Fin 2) (hs : s.held = false) (hdl : (s.dev.rp rp).dlUp = true)
include hs hdl

theorem effect_rpLinkDown_orderly (hp : s.dev.rd (.brg (.RP_CTRL_PERST rp)) ≠ 0) :
    Effect (.rpLinkDown rp) s [.brg (.RP_STATUS_SPEED rp)] [.rps] (fun t => t.rd (.brg (.RP_STATUS_SPEED rp)) = 0 ∧
      t.rp rp = { s.dev.rp rp with dlUp := false, pf := [], tags := (s.dev.rp rp).tags.filter (fun g => !g.quarantined) }) := by
  refine .run (x := execRpLinkDown rp s) rfl rfl hs ?_
  have hperst : (s.dev.rpDown rp).is (.brg (.RP_CTRL_PERST rp)) = true := by
    rw [Dev.is_eq_true_iff, (rpDown_kept s.dev rp).rd (by simp) rfl]
    exact hp
  rw [if_neg (by simp [hdl])]
  have hrun : (if (s.dev.rpDown rp).is (.brg (.RP_CTRL_PERST rp)) then s.dev.rpDown rp else s.dev.rpRemoved rp) = s.dev.rpDown rp := if_pos hperst
  exact hrun ▸ ⟨rpDown_kept s.dev rp, by simp [Dev.rpDown], rp_rpDown s.dev rp⟩

section
variable (hp : s.dev.rd (.brg (.RP_CTRL_PERST rp)) = 0)
include hp

theorem exec_rpLinkDown_surprise : exec (.rpLinkDown rp) s = .next { s with dev := s.dev.rpRemoved rp } := by
  have hperst : (s.dev.rpDown rp).is (.brg (.RP_CTRL_PERST rp)) = false := by
    rw [Dev.is_eq_false_iff, (rpDown_kept s.dev rp).rd (by simp) rfl]
    exact hp
  show execRpLinkDown rp s = _
  rw [execRpLinkDown, State.run_live s _ hs]
  simp -zeta only [hdl]
  exact congrArg (fun e => Host.Outcome.next { s with dev := e }) (if_neg (ne_true_of_eq_false hperst))

theorem completes_rpLinkDown :
    Completes (.rpLinkDown rp) s (fun t => (t.rp rp).dlUp = false ∧ (t.rp rp).tags = [] ∧ RpTriggered s.dev t rp 1) := by
  obtain ⟨-, ht, b, hrp⟩ := rpPresent_effect (s.dev.rpDown rp) rp (c := 1) (by decide)
  have hdrop := rpRemoved_dropped s.dev rp
  obtain ⟨hr, hl, hc, -⟩ := id hdrop
  refine ⟨_, exec_rpLinkDown_surprise s rp hs hdl hp, rfl, rfl, ?_, tagsDropped_all hdrop, ?_⟩
  · exact hl.trans (by rw [hrp, rp_rpDown])
  · have hdown := rpTriggered_rpDown s.dev rp rfl ht
    exact rpTriggered_of_same hdown rfl (fun _ _ => rfl) rfl hr hc

theorem effect_rpLinkDown_surprise (htags : (s.dev.rp rp).tags = []) :
    Effect (.rpLinkDown rp) s (.brg (.RP_STATUS_SPEED rp) :: rpCtnRegs rp) [.rps] (fun t => t.rd (.brg (.RP_STATUS_SPEED rp)) = 0) := by
  obtain ⟨hk, -, b, hrp⟩ := rpPresent_effect (s.dev.rpDown rp) rp (c := 1) (by decide)
  have hnone : s.dev.rpRemoved rp = (s.dev.rpDown rp).rpPresent rp [1] := by
    rw [Dev.rpRemoved, hrp, rp_rpDown, htags]
    rfl
  have hkept : Kept (.brg (.RP_STATUS_SPEED rp) :: rpCtnRegs rp) [.rps] s.dev ((s.dev.rpDown rp).rpPresent rp [1]) :=
    ((rpDown_kept s.dev rp).mono (by simp) (List.Subset.refl _)).trans (hk.mono (List.subset_cons_self _ _) (List.Subset.refl _))
  refine .of_next ((exec_rpLinkDown_surprise s rp hs hdl hp).trans (by rw [hnone])) hkept ?_
  exact (hk.rd (by simp [rpCtnRegs]) rfl).trans (by simp [Dev.rpDown])

end

end

/-- Settles O34: the surprise removal's ends of reads leave the root ports' containment alone, and drop each tag of the port. -/
theorem rootPortLinks : Obligations.RootPortLinks := by
  unfold Obligations.RootPortLinks
  rintro s rp r hs rfl
  refine ⟨fun ha => ?_, effect_rpPerstRelease s rp hs, fun speed => effect_rpLinkUp s rp hs, fun hdl => ?_, effect_rpClkreqNChange s rp hs⟩
  · exact ⟨effect_rpPerstWrite_assert s rp ⟨hs, ha⟩, effect_rpPerstWrite_release s rp ⟨hs, ha⟩, effect_rpCtnFreeze s rp ⟨hs, ha⟩⟩
  · refine ⟨effect_rpLinkDown_orderly s rp hs hdl, fun hp => ?_, effect_rpLinkError s rp hs hdl, effect_modemErrMessage_fatal s rp hs hdl,
      effect_modemErrMessage_other s rp hs (by decide), effect_modemErrMessage_other s rp hs (by decide), effect_rpVendorDefinedMessage s rp hs hdl⟩
    exact ⟨completes_rpLinkDown s rp hs hdl hp, effect_rpLinkDown_surprise s rp hs hdl hp⟩

end Sys2Proof.Machine
end

section
-- The theorems are elaborated in order, which keeps the memory that a check of the whole text takes within its limit.
set_option Elab.async false

/-! SUPPORT.  Accesses of the host to the modems, and how reads of the modems end (R409, R412, R419, R421 to R423). -/

namespace Sys2Proof.Machine

open Sys2Proof.Safety Sys2Proof.Claims

@[simp] theorem rpCfgBusy_width (r : Nat) : (Fld.brg (.RP_STATUS_CFG_BUSY r)).width = 1 := rfl
@[simp] theorem rpCfgErr_width (r : Nat) : (Fld.brg (.RP_STATUS_CFG_ERR r)).width = 1 := rfl
@[simp] theorem rpErrValid_width (r : Nat) : (Fld.brg (.RP_ERR_LOG_VALID r)).width = 1 := rfl
@[simp] theorem rpErrKind_width (r : Nat) : (Fld.brg (.RP_ERR_LOG_KIND r)).width = 4 := rfl

/-! ### Answers, and accesses that are served or wait -/

theorem out_count (d : Dev) (ev inst k : Nat) : (d.count ev inst k).out = d.out :=
  ((Kept.refl (F := []) (P := []) d).count ev inst k).same (x := .out) (by simp)

theorem rps_count (d : Dev) (ev inst k : Nat) : (d.count ev inst k).rps = d.rps :=
  ((Kept.refl (F := []) (P := []) d).count ev inst k).same (x := .rps) (by simp)

theorem rp_count (d : Dev) (ev inst k n : Nat) : (d.count ev inst k).rp n = d.rp n := by rw [Dev.rp, Dev.rp, rps_count]

theorem out_reply (d : Dev) (v n st : Nat) (ep : Bool) : (d.reply v n st ep).out = d.out ++ ([.readData v n st ep] : List Outbound) := by
  rw [Dev.reply, out_count]
  rfl

theorem rp_reply (d : Dev) (v n st : Nat) (ep : Bool) (m : Nat) : (d.reply v n st ep).rp m = d.rp m := rp_count _ _ _ _ _

theorem rd_reply (d : Dev) (v n st : Nat) (ep : Bool) {f : Fld} (hf : isCount f = false) : (d.reply v n st ep).rd f = d.rd f :=
  (kept_reply (F := []) (P := [.out]) (.refl d) v n st ep (by simp)).rd (by simp) hf

theorem apWait_reply (d : Dev) (v n st : Nat) (ep : Bool) : (d.reply v n st ep).apWait = d.apWait :=
  (kept_reply (F := []) (P := [.out]) (.refl d) v n st ep (by simp)).same (x := .apWait) (by simp)

theorem apDrain_reply (d : Dev) (v n st : Nat) (ep : Bool) (h : d.apWait = []) : (d.reply v n st ep).apDrain = d.reply v n st ep :=
  Dev.apDrain_idle _ ((apWait_reply _ _ _ _ _).trans h)

/-- An access that nothing holds back is served at once. -/
theorem apAccess_served {d g : Dev} {q : ApWait} (hw : d.apWait = []) (h : d.apTry q = some g) : d.apAccess q = g := by
  have hd : ({ d with apWait := [] } : Dev) = d := by rw [← hw]
  have hq : d.apAccess q = ({ d with apWait := [] } : Dev).apDrainList [] [q] := by rw [Dev.apAccess, Dev.apDrain, hw]; rfl
  rw [hq, hd, Dev.apDrainList, h]
  rfl

/-- An access that may not be served yet waits. -/
theorem apAccess_waits {d : Dev} {q : ApWait} (hw : d.apWait = []) (h : d.apTry q = none) : d.apAccess q = { d with apWait := [q] } := by
  have hd : ({ d with apWait := [] } : Dev) = d := by rw [← hw]
  have hq : d.apAccess q = ({ d with apWait := [] } : Dev).apDrainList [] [q] := by rw [Dev.apAccess, Dev.apDrain, hw]; rfl
  rw [hq, hd, Dev.apDrainList, h, hw]
  rfl

theorem rpTag_counted {d e : Dev} (h : Counted d e) (rp : Nat) : e.rpTag rp = d.rpTag rp := by rw [Dev.rpTag, Dev.rpTag, rp_counted h]

theorem rpUp_counted {d e : Dev} (h : Counted d e) (rp : Nat) : e.rpUp rp = d.rpUp rp := by rw [Dev.rpUp, Dev.rpUp, rp_counted h]

/-! ### Configuration accesses -/

/-- The configuration request `q` of a root port with tag `t` (R409). -/
def Dev.cfgAsk (d : Dev) (q : ApWait) (t : Nat) : Dev :=
  ((d.rpAsk q.rp { tag := t, client := if q.write then .cfgWrite else .cfgRead, win := 0, off := 0, len := 4, wantOff := 0
                   wantLen := 4, expiry := d.rpExpiry q.rp }).emit (.modemCfg q.rp q.write q.win q.off q.be (ofLe q.bytes))).count 0x80 q.rp 1

theorem apTry_cfg {d : Dev} {q : ApWait} {t : Nat} (hc : q.cfg = true) (hup : d.rpUp q.rp = true) (ht : d.rpTag q.rp = some t) :
    d.apTry q = some (d.cfgAsk q t) := by
  rw [Dev.apTry, if_pos hc, if_neg (by simp [hup]), ht]
  rfl

theorem tags_rpAsk (d : Dev) (rp : Fin 2) (t : RpTag) : ((d.rpAsk rp t).rp rp).tags = (d.rp rp).tags ++ [t] := by
  rw [Dev.rpAsk, Dev.rp_modRp_self]

theorem cfgAsk_effect (d : Dev) (q : ApWait) (t : Nat) (rp : Fin 2) (hq : q.rp = rp) : Kept [] [.rps, .out] d (d.cfgAsk q t) ∧
    (d.cfgAsk q t).out = d.out ++ ([.modemCfg rp q.write q.win q.off q.be (ofLe q.bytes)] : List Outbound) ∧
    ((d.cfgAsk q t).rp rp).tags.map (·.tag) = (d.rp rp).tags.map (·.tag) ++ [t] := by
  rw [Dev.cfgAsk, hq]
  refine ⟨(((Kept.refl d).modRp _ _ (by simp)).emitAside _ rfl (by simp)).count _ _ _, out_count _ _ _ _, ?_⟩
  rw [rp_count]
  exact (congrArg (List.map (·.tag)) (tags_rpAsk d rp _)).trans (List.map_append ..)

section
variable {s : State} (ha : Awake s) (rp : Fin 2) (data : BitVec 32)
include ha

theorem effect_rpCfgRead_busy (hb : s.dev.rd (.brg (.RP_STATUS_CFG_BUSY rp)) ≠ 0) :
    Effect (.rpCfgRead rp) s [.brg (.RP_CNT_COUNT rp 0), .brg (.RP_STATUS_CFG_ERR rp)] [.out] (fun t =>
      Counts s.dev t (.brg (.RP_CNT_COUNT rp 0)) ∧ t.rd (.brg (.RP_STATUS_CFG_ERR rp)) = 1 ∧ Answered s.dev t 0xFFFFFFFF 4) := by
  refine .host (x := execRpCfgRead rp s) rfl rfl ha fun e he => ?_
  have hout : e.out = s.dev.out := ((Kept.refl (F := []) (P := []) s.dev).counted he).same (x := .out) (by simp)
  rw [Dev.cfgAccess, if_pos ((Dev.is_eq_true_iff _ _).mpr (by rw [he.rd (.brg (.RP_STATUS_CFG_BUSY rp)) rfl]; exact hb))]
  dsimp only
  rw [if_neg (by simp)]
  refine ⟨kept_reply (((Kept.refl e).inc (by simp)).wr _ (by simp)) _ _ _ _ (by simp), ?_, ?_, ?_⟩
  · rw [Counts, rd_reply _ _ _ _ _ rfl, ← he.rd (.brg (.RP_CNT_COUNT rp 0)) rfl]
    simp [Dev.rpCnt, Dev.rd_inc]
  · rw [rd_reply _ _ _ _ _ rfl]
    simp
  · rw [Answered, out_reply, ← hout]
    rfl

theorem effect_rpCfgWrite_busy (hb : s.dev.rd (.brg (.RP_STATUS_CFG_BUSY rp)) ≠ 0) :
    Effect (.rpCfgWrite rp data) s [.brg (.RP_CNT_COUNT rp 0)] [] (fun t => Counts s.dev t (.brg (.RP_CNT_COUNT rp 0))) := by
  refine .host (x := execRpCfgWrite rp data s) rfl rfl ha fun e he => ?_
  rw [Dev.cfgAccess, if_pos ((Dev.is_eq_true_iff _ _).mpr (by rw [he.rd (.brg (.RP_STATUS_CFG_BUSY rp)) rfl]; exact hb))]
  refine ⟨(Kept.refl e).inc (by simp), ?_⟩
  rw [Counts, ← he.rd (.brg (.RP_CNT_COUNT rp 0)) rfl]
  simp [Dev.rpCnt, Dev.rd_inc]

variable {tag : Nat} (hb : s.dev.rd (.brg (.RP_STATUS_CFG_BUSY rp)) = 0) (hw : s.dev.apWait = []) (hup : s.dev.rpUp rp = true)
  (htag : s.dev.rpTag rp = some tag)
include hb hw hup htag

omit ha in
/-- A configuration access while none is in progress (R409). -/
theorem cfgAccess_effect {e : Dev} (he : Counted s.dev e) (write : Bool) (bytes : List Byte) :
    Kept [.brg (.RP_STATUS_CFG_BUSY rp)] [.rps, .out] e (e.cfgAccess rp write bytes) ∧
      (e.cfgAccess rp write bytes).rd (.brg (.RP_STATUS_CFG_BUSY rp)) = 1 ∧
      (e.cfgAccess rp write bytes).out = s.dev.out ++ ([.modemCfg rp write (s.dev.rd (.brg (.RP_CFG_ADDR_FN rp)))
        (s.dev.rd (.brg (.RP_CFG_ADDR_REG rp))) (if write then s.dev.rd (.brg (.RP_CFG_ADDR_BE rp)) else 15) (ofLe bytes)] : List Outbound) ∧
      ((e.cfgAccess rp write bytes).rp rp).tags.map (·.tag) = (s.dev.rp rp).tags.map (·.tag) ++ [tag] := by
  have hk : Kept [] [] s.dev e := (Kept.refl _).counted he
  have hout : e.out = s.dev.out := hk.same (x := .out) (by simp)
  have hwait : e.apWait = s.dev.apWait := hk.same (x := .apWait) (by simp)
  rw [Dev.cfgAccess, if_neg (by simp [Dev.is, he.rd (.brg (.RP_STATUS_CFG_BUSY rp)) rfl, hb])]
  dsimp only
  rw [he.rd (.brg (.RP_CFG_ADDR_FN rp)) rfl, he.rd (.brg (.RP_CFG_ADDR_REG rp)) rfl, he.rd (.brg (.RP_CFG_ADDR_BE rp)) rfl]
  have hup' : (e.wr (.brg (.RP_STATUS_CFG_BUSY rp)) 1).rpUp rp = true := (rpUp_counted he rp).trans hup
  have htag' : (e.wr (.brg (.RP_STATUS_CFG_BUSY rp)) 1).rpTag rp = some tag := (rpTag_counted he rp).trans htag
  have hwait' : (e.wr (.brg (.RP_STATUS_CFG_BUSY rp)) 1).apWait = [] := hwait.trans hw
  rw [apAccess_served hwait' (apTry_cfg rfl hup' htag')]
  obtain ⟨hask, ho, ht⟩ := cfgAsk_effect (e.wr (.brg (.RP_STATUS_CFG_BUSY rp)) 1)
    { rp := rp, cfg := true, win := s.dev.rd (.brg (.RP_CFG_ADDR_FN rp)), off := s.dev.rd (.brg (.RP_CFG_ADDR_REG rp))
      be := if write then s.dev.rd (.brg (.RP_CFG_ADDR_BE rp)) else 15, write := write, bytes := bytes, len := 4 } tag rp rfl
  refine ⟨((Kept.refl e).wr _ (by simp)).trans (hask.mono (by simp) (List.Subset.refl _)), ?_, ?_, ?_⟩
  · exact (hask.rd (by simp) rfl).trans (by simp)
  · exact ho.trans (congrArg (· ++ _) hout)
  · exact ht.trans (congrArg (fun r : Rp => r.tags.map (·.tag) ++ [tag]) (rp_counted he rp))

theorem effect_rpCfgRead :
    Effect (.rpCfgRead rp) s [.brg (.RP_STATUS_CFG_BUSY rp)] [.rps, .out] (fun t => t.rd (.brg (.RP_STATUS_CFG_BUSY rp)) = 1 ∧
      t.out = s.dev.out ++ ([.modemCfg rp false (s.dev.rd (.brg (.RP_CFG_ADDR_FN rp))) (s.dev.rd (.brg (.RP_CFG_ADDR_REG rp))) 15 0] : List Outbound) ∧
      (t.rp rp).tags.map (·.tag) = (s.dev.rp rp).tags.map (·.tag) ++ [tag]) :=
  .host (x := execRpCfgRead rp s) rfl rfl ha fun _ he => cfgAccess_effect rp hb hw hup htag he false []

theorem effect_rpCfgWrite :
    Effect (.rpCfgWrite rp data) s [.brg (.RP_STATUS_CFG_BUSY rp)] [.rps, .out] (fun t => t.rd (.brg (.RP_STATUS_CFG_BUSY rp)) = 1 ∧
      t.out = s.dev.out ++ ([.modemCfg rp true (s.dev.rd (.brg (.RP_CFG_ADDR_FN rp))) (s.dev.rd (.brg (.RP_CFG_ADDR_REG rp)))
        (s.dev.rd (.brg (.RP_CFG_ADDR_BE rp))) data.toNat] : List Outbound) ∧
      (t.rp rp).tags.map (·.tag) = (s.dev.rp rp).tags.map (·.tag) ++ [tag]) := by
  have hdata : ofLe (leBytes 4 data.toNat) = data.toNat := (ofLe_leBytes _ _).trans (Nat.mod_eq_of_lt data.isLt)
  refine .host (x := execRpCfgWrite rp data s) rfl rfl ha fun e he => ?_
  have h := cfgAccess_effect rp hb hw hup htag he true (leBytes 4 data.toNat)
  rw [hdata] at h
  exact h

end

/-! ### Apertures -/

/-- The offset in its window of byte `n` of the aperture of window `w` (R412). -/
def Dev.apOff (d : Dev) (rp w n : Nat) : Nat := d.rd (.brg (.WIN_APERTURE_OFFSET rp w)) * 8192 + n

/-- Nothing of a range is in an empty prefetch buffer. -/
theorem pfServe_none {d : Dev} {rp w a len : Nat} (hpf : (d.rp rp).pf = []) (hlen : 0 < len) : d.pfServe rp w a len = none := by
  have hlines : 0 ∈ List.range (linesIn a len) := List.mem_range.mpr (by rw [linesIn, if_neg (by omega)]; omega)
  rw [Dev.pfServe]
  refine if_neg fun h => ?_
  have := List.all_eq_true.mp h _ (List.mem_map_of_mem hlines)
  simp [hpf] at this

/-- A read of one request without Vat lines (R419). -/
theorem rpReads_one {d : Dev} {rp w a len t : Nat} (mk : Nat → RpClient) (ht : d.rpTag rp = some t) : ∃ g,
    d.rpReads rp w a len none mk [(a, len)] = some (((d.rpAsk rp g).emit (.modemRead rp (d.winBase rp w + a) len t)).count 0x80 rp 1) := by
  simp only [Dev.rpReads, ht]
  exact ⟨_, rfl⟩

theorem rpPieces_one {base a len fuel : Nat} (hlen : 0 < len) (h256 : len ≤ 256) (h4k : (base + a) % 4096 + len ≤ 4096) :
    rpPieces base (fuel + 2) a (a + len) = [(a, len)] := by
  have hn : min (min 256 (4096 - (base + a) % 4096)) (a + len - a) = len := by omega
  rw [rpPieces, if_neg (by omega)]
  dsimp only
  rw [hn, rpPieces, if_pos (Nat.le_refl _)]

section
variable {d : Dev} {q : ApWait} (hc : q.cfg = false)
include hc

theorem apTry_frozen (hf : d.frozen = true) : d.apTry q = none := by
  rw [Dev.apTry, if_neg (by simp [hc]), if_pos hf]

variable (hf : d.frozen = false)
include hf

theorem apTry_hole (hin : ¬ ApInside d q.rp q.win q.off q.len) :
    d.apTry q = some (if q.write then d.inc (.sys .ACCESS_ERR_HOLE_CNT) else (d.inc (.sys .ACCESS_ERR_HOLE_CNT)).reply 0 q.len 0 false) := by
  rw [Dev.apTry, if_neg (by simp [hc]), if_neg (by simp [hf])]
  exact if_pos (by simpa [ApInside] using hin)

variable (hin : ApInside d q.rp q.win q.off q.len)
include hin

theorem apTry_write (hw : q.write = true) : d.apTry q = some (d.modemWriteBus q.rp (apAddr d q.rp q.win q.off) (clean q.bytes)) := by
  rw [Dev.apTry, if_neg (by simp [hc]), if_neg (by simp [hf])]
  exact (if_neg (by simpa [ApInside] using hin)).trans (if_pos hw)

variable (hw : q.write = false)
include hw

theorem apTry_down (hup : d.rpUp q.rp = false) : d.apTry q = some (d.brgEvent.reply (2 ^ (8 * q.len) - 1) q.len 0 false) := by
  rw [Dev.apTry, if_neg (by simp [hc]), if_neg (by simp [hf])]
  exact (if_neg (by simpa [ApInside] using hin)).trans ((if_neg (by simp [hw])).trans (if_pos (by simp [hup])))

theorem apTry_read {t : Nat} (hup : d.rpUp q.rp = true) (hattr : d.winAttr q.rp q.win = 0) (hpf : (d.rp q.rp).pf = [])
    (ht : d.rpTag q.rp = some t) (hlen : 0 < q.len) (h8 : q.len ≤ 8) (hpage : q.off % 4096 + q.len ≤ 4096) : ∃ g,
    d.apTry q = some (((d.rpAsk q.rp g).emit (.modemRead q.rp (apAddr d q.rp q.win q.off) q.len t)).count 0x80 q.rp 1) := by
  obtain ⟨g, hg⟩ := rpReads_one (w := q.win) (a := d.apOff q.rp q.win q.off) (len := q.len) (fun _ => .aperture) ht
  refine ⟨g, ?_⟩
  rw [Dev.apTry, if_neg (by simp [hc]), if_neg (by simp [hf])]
  refine (if_neg (by simpa [ApInside] using hin)).trans ((if_neg (by simp [hw])).trans ((if_neg (by simp [hup])).trans ?_))
  have hpage' : (d.winBase q.rp q.win + d.apOff q.rp q.win q.off) % 4096 + q.len ≤ 4096 := by
    rw [Dev.winBase, Dev.apOff]
    omega
  rw [pfServe_none hpf hlen]
  dsimp only
  rw [Dev.fetchRange, if_pos hattr]
  exact (congrArg _ (rpPieces_one (fuel := 254) hlen (by omega) hpage')).trans hg

end

theorem map_fst_clean (bs : List Byte) : (clean bs).map (·.1) = bs := by
  rw [clean, List.map_map]
  exact List.map_id bs

theorem any_snd_clean (bs : List Byte) : (clean bs).any (·.2) = false := by simp [clean]

theorem length_clean (bs : List Byte) : (clean bs).length = bs.length := by simp [clean]

/-- A clean TLP leaves through a port that is UP (R417, R421). -/
theorem modemTlp_clean {d : Dev} {rp : Nat} (hup : RpUp d rp) (addr : Nat) (bs : List Byte) : d.modemTlp rp addr (clean bs) =
    ((d.modRp rp (fun r => { r with pf := [] })).emit (.modemWrite rp addr bs false)).count 0x80 rp 1 := by
  rw [Dev.modemTlp, if_neg (by simp [hup.1]), if_neg (by simp [hup.1, hup.2])]
  dsimp only
  rw [any_snd_clean, map_fst_clean]
  rfl

/-- Clean bytes written to a modem in one TLP (R412, R417). -/
theorem modemWriteBus_one {d : Dev} {rp addr : Nat} {bs : List Byte} (hup : RpUp d rp) (h0 : bs ≠ []) (h128 : bs.length ≤ 128)
    (hpage : addr % 4096 + bs.length ≤ 4096) : d.modemWriteBus rp addr (clean bs) =
      ((d.modRp rp (fun r => { r with pf := [] })).emit (.modemWrite rp addr bs false)).count 0x80 rp 1 := by
  have hne : clean bs ≠ [] := by simpa [clean] using h0
  obtain ⟨k, hk⟩ : ∃ k, bs.length = k + 1 := Nat.exists_eq_succ_of_ne_zero (by simpa using h0)
  have hend : ∀ (f : Dev → Nat → List PByte → Dev) (m fuel : Nat) (e : Dev) (a : Nat), Dev.splitWrite f m fuel e a [] = e := fun f m fuel e a => by
    cases fuel
    · rfl
    · exact if_pos rfl
  rw [Dev.modemWriteBus, length_clean, hk, Dev.splitWrite, if_neg hne]
  dsimp only
  have hn : (clean bs).length ≤ min (if d.is (.brg (.RP_CTRL_MPS rp)) then 256 else 128) (4096 - addr % 4096) := by
    rw [length_clean]
    split <;> omega
  rw [List.take_of_length_le hn, List.drop_of_length_le hn, hend, modemTlp_clean hup]

section
variable {s : State} (ha : Awake s) (rp : Fin 2) (w : Fin 8) (n : Fin 8192) (wide : Bool) (value : BitVec 64) {k : Nat}
  (hk : k = if wide then 8 else 4)
include ha hk

theorem effect_apertureWrite_misaligned (hn : n.val % k ≠ 0) : Effect (.apertureWrite rp w n wide value) s [] [] (fun _ => True) := by
  subst hk
  refine .host (x := execApertureWrite rp w n wide value s) rfl rfl ha fun e he => ?_
  dsimp only
  rw [if_pos (by simp [apAligned, hn])]
  exact ⟨.refl e, trivial⟩

variable (hw : s.dev.apWait = [])
include hw

/-- An aperture read is an access of its kind. -/
theorem effect_apertureRead {F : List Fld} {P : List Part} {post : Dev → Prop} (h : ∀ e, Counted s.dev e → e.apWait = [] →
    Kept F P e (e.apAccess { rp := rp, win := w, off := n, write := false, bytes := [], len := k }) ∧
      post (e.apAccess { rp := rp, win := w, off := n, write := false, bytes := [], len := k })) :
    Effect (.apertureRead rp w n wide) s F P post := by
  subst hk
  refine .host (x := execApertureRead rp w n wide s) rfl rfl ha fun e he => h e he ?_
  have hwait : e.apWait = s.dev.apWait := ((Kept.refl (F := []) (P := []) s.dev).counted he).same (x := .apWait) (by simp)
  exact hwait.trans hw

/-- An aligned aperture write is an access of its kind. -/
theorem effect_apertureWrite {F : List Fld} {P : List Part} {post : Dev → Prop} (hn : n.val % k = 0) (h : ∀ e, Counted s.dev e → e.apWait = [] →
    Kept F P e (e.apAccess { rp := rp, win := w, off := n, write := true, bytes := leBytes k value.toNat, len := k }) ∧
      post (e.apAccess { rp := rp, win := w, off := n, write := true, bytes := leBytes k value.toNat, len := k })) :
    Effect (.apertureWrite rp w n wide value) s F P post := by
  subst hk
  refine .host (x := execApertureWrite rp w n wide value s) rfl rfl ha fun e he => ?_
  have hwait : e.apWait = s.dev.apWait := ((Kept.refl (F := []) (P := []) s.dev).counted he).same (x := .apWait) (by simp)
  dsimp only
  rw [if_neg (by simp [apAligned, hn])]
  exact h e he (hwait.trans hw)

end

theorem apWaits_effect {e : Dev} {q : ApWait} (hw : e.apWait = []) (hc : q.cfg = false) (hf : e.frozen = true) :
    Kept [] [.apWait] e (e.apAccess q) ∧ (e.apAccess q).apWait.length = 1 := by
  rw [apAccess_waits hw (apTry_frozen hc hf)]
  exact ⟨(Kept.refl e).withApWait _ (by simp), rfl⟩

theorem frozen_counted {d e : Dev} (h : Counted d e) : e.frozen = d.frozen := by
  rw [Dev.frozen, Dev.frozen, h.rd (.hep .CTN_STATUS_STATE) rfl]

theorem apInside_counted {d e : Dev} (h : Counted d e) (rp w n len : Nat) : ApInside e rp w n len ↔ ApInside d rp w n len := by
  unfold ApInside Dev.winOk Dev.winSize Dev.is
  rw [h.rd (.brg (.WIN_APERTURE_OFFSET rp w)) rfl, h.rd (.brg (.WIN_CTRL_EN rp w)) rfl, h.rd (.brg (.WIN_CTRL_LOG2SIZE rp w)) rfl]

theorem apAddr_counted {d e : Dev} (h : Counted d e) (rp w n : Nat) : apAddr e rp w n = apAddr d rp w n := by
  unfold apAddr Dev.winBase
  rw [h.rd (.brg (.WIN_APERTURE_OFFSET rp w)) rfl, h.rd (.brg (.WIN_BASE_ADDR rp w)) rfl]

section
variable {s : State} (ha : Awake s) (rp : Fin 2) (w : Fin 8) (n : Fin 8192) (wide : Bool) (value : BitVec 64) {k : Nat}
  (hk : k = if wide then 8 else 4) (hw : s.dev.apWait = [])
include ha hk hw

theorem effect_apertureRead_frozen (hf : s.dev.frozen = true) :
    Effect (.apertureRead rp w n wide) s [] [.apWait] (fun t => t.apWait.length = 1) :=
  effect_apertureRead ha rp w n wide hk hw fun _ he hwait => apWaits_effect hwait rfl ((frozen_counted he).trans hf)

theorem effect_apertureWrite_frozen (hf : s.dev.frozen = true) (hn : n.val % k = 0) :
    Effect (.apertureWrite rp w n wide value) s [] [.apWait] (fun t => t.apWait.length = 1) :=
  effect_apertureWrite ha rp w n wide value hk hw hn fun _ he hwait => apWaits_effect hwait rfl ((frozen_counted he).trans hf)

variable (hf : s.dev.frozen = false)
include hf

theorem effect_apertureRead_hole (hin : ¬ ApInside s.dev rp w n k) :
    Effect (.apertureRead rp w n wide) s [.sys .ACCESS_ERR_HOLE_CNT] [.out] (fun t =>
      Counts s.dev t (.sys .ACCESS_ERR_HOLE_CNT) ∧ Answered s.dev t 0 k) := by
  refine effect_apertureRead ha rp w n wide hk hw fun e he hwait => ?_
  have hout : e.out = s.dev.out := ((Kept.refl (F := []) (P := []) s.dev).counted he).same (x := .out) (by simp)
  rw [apAccess_served hwait (apTry_hole rfl ((frozen_counted he).trans hf) fun h => hin ((apInside_counted he _ _ _ _).mp h))]
  dsimp only
  rw [if_neg Bool.false_ne_true]
  refine ⟨kept_reply ((Kept.refl e).inc (by simp)) _ _ _ _ (by simp), ?_, ?_⟩
  · refine Counts.of_rd (e := e) ?_ (he.rd _ rfl)
    rw [Counts, rd_reply _ _ _ _ _ rfl]
    simp [Dev.rd_inc]
  · rw [Answered, out_reply, ← hout]
    rfl

theorem effect_apertureWrite_hole (hin : ¬ ApInside s.dev rp w n k) (hn : n.val % k = 0) :
    Effect (.apertureWrite rp w n wide value) s [.sys .ACCESS_ERR_HOLE_CNT] [] (fun t => Counts s.dev t (.sys .ACCESS_ERR_HOLE_CNT)) := by
  refine effect_apertureWrite ha rp w n wide value hk hw hn fun e he hwait => ?_
  rw [apAccess_served hwait (apTry_hole rfl ((frozen_counted he).trans hf) fun h => hin ((apInside_counted he _ _ _ _).mp h))]
  refine ⟨(Kept.refl e).inc (by simp), Counts.of_rd (e := e) ?_ (he.rd _ rfl)⟩
  simp [Counts, Dev.rd_inc]

variable (hin : ApInside s.dev rp w n k)
include hin

theorem effect_apertureRead_down (hup : s.dev.rpUp rp = false) :
    Effect (.apertureRead rp w n wide) s [] [.out, .irqs] (fun t => Answered s.dev t (2 ^ (8 * k) - 1) k) := by
  refine effect_apertureRead ha rp w n wide hk hw fun e he hwait => ?_
  have hout : e.out = s.dev.out := ((Kept.refl (F := []) (P := []) s.dev).counted he).same (x := .out) (by simp)
  have hevent : e.brgEvent.out = e.out := (kept_brgEvent (F := []) (P := [.irqs]) (.refl e) (by simp)).same (x := .out) (by simp)
  rw [apAccess_served hwait (apTry_down rfl ((frozen_counted he).trans hf) ((apInside_counted he _ _ _ _).mpr hin) rfl
    ((rpUp_counted he rp).trans hup))]
  exact ⟨kept_reply (kept_brgEvent (.refl e) (by simp)) _ _ _ _ (by simp), (out_reply _ _ _ _ _).trans (by rw [hevent, hout])⟩

theorem effect_apertureWrite_up (hup : RpUp s.dev rp) (hn : n.val % k = 0) :
    Effect (.apertureWrite rp w n wide value) s [] [.rps, .out] (fun t =>
      t.out = s.dev.out ++ ([.modemWrite rp (apAddr s.dev rp w n) (leBytes k value.toNat) false] : List Outbound) ∧ (t.rp rp).pf = []) := by
  refine effect_apertureWrite ha rp w n wide value hk hw hn fun e he hwait => ?_
  have hout : e.out = s.dev.out := ((Kept.refl (F := []) (P := []) s.dev).counted he).same (x := .out) (by simp)
  have hup' : RpUp e rp := ⟨(rpUp_counted he rp).trans hup.1, by rw [rp_counted he]; exact hup.2⟩
  have hk8 : k = 8 ∨ k = 4 := by rw [hk]; split <;> simp
  have hpage : apAddr s.dev rp w n % 4096 + k ≤ 4096 := by
    rw [apAddr, Dev.winBase]
    obtain rfl | rfl := hk8 <;> omega
  have hne : leBytes k value.toNat ≠ [] := fun h => by
    have := congrArg List.length h
    rw [length_leBytes] at this
    obtain rfl | rfl := hk8 <;> simp at this
  rw [apAccess_served hwait (apTry_write rfl ((frozen_counted he).trans hf) ((apInside_counted he _ _ _ _).mpr hin) rfl)]
  rw [modemWriteBus_one hup' hne (by rw [length_leBytes]; omega) (by rw [length_leBytes, apAddr_counted he]; exact hpage), apAddr_counted he]
  refine ⟨(((Kept.refl e).modRp _ _ (by simp)).emitAside _ rfl (by simp)).count _ _ _, ?_, ?_⟩
  · rw [out_count, ← hout]
    rfl
  · rw [rp_count]
    exact congrArg Rp.pf (e.rp_modRp_self rp _)

theorem effect_apertureRead_up (hup : RpUp s.dev rp) {tag : Nat} (hattr : s.dev.winAttr rp w = 0) (hpf : (s.dev.rp rp).pf = [])
    (ht : s.dev.rpTag rp = some tag) (hpage : n.val % 4096 + k ≤ 4096) :
    Effect (.apertureRead rp w n wide) s [] [.rps, .out] (fun t =>
      t.out = s.dev.out ++ ([.modemRead rp (apAddr s.dev rp w n) k tag] : List Outbound)) := by
  refine effect_apertureRead ha rp w n wide hk hw fun e he hwait => ?_
  have hout : e.out = s.dev.out := ((Kept.refl (F := []) (P := []) s.dev).counted he).same (x := .out) (by simp)
  have hattr' : e.winAttr rp w = 0 := (he.rd (.brg (.WIN_CTRL_ATTR rp w)) rfl).trans hattr
  have hk8 : k = 8 ∨ k = 4 := by rw [hk]; split <;> simp
  have hk0 : 0 < k := by omega
  have hk9 : k ≤ 8 := by omega
  obtain ⟨g, hg⟩ := apTry_read (q := { rp := rp, win := w, off := n, write := false, bytes := [], len := k }) rfl ((frozen_counted he).trans hf)
    ((apInside_counted he _ _ _ _).mpr hin) rfl ((rpUp_counted he rp).trans hup.1) hattr' (by rw [rp_counted he]; exact hpf)
    ((rpTag_counted he rp).trans ht) hk0 hk9 hpage
  rw [apAccess_served hwait hg, apAddr_counted he]
  refine ⟨(((Kept.refl e).modRp _ _ (by simp)).emitAside _ rfl (by simp)).count _ _ _, ?_⟩
  rw [out_count, ← hout]
  rfl

end

/-! ### Completions -/

/-- No timer of a quiet root port has expired. -/
theorem rpTimers_quiet {d : Dev} {rp : Nat} (h : RpQuiet d rp) : d.rpTimers rp = d := by
  have hnone : (d.rp rp).tags.filter (fun t => !t.quarantined && t.expiry ≤ d.now) = [] := List.filter_eq_nil_iff.mpr fun g hg => by
    have := h.2 g hg
    grind
  rw [Dev.rpTimers, hnone]
  rfl

theorem tags_rpDrop (d : Dev) (rp : Fin 2) (t : RpTag) : ((d.rpDrop rp t).rp rp).tags = rpTagsWithout d rp t := by
  rw [Dev.rpDrop, Dev.rp_modRp_self]
  rfl

/-- A downstream error is counted and, when it is the first, recorded (R423). -/
theorem rpErr_effect (d : Dev) (rp : Nat) {i : Nat} (hi : i < 16) : Kept (rpErrRegs rp i) [.irqs] d (d.rpErr rp i) ∧
    Counts d (d.rpErr rp i) (.brg (.RP_CNT_COUNT rp i)) ∧ (d.rpErr rp i).rd (.brg (.RP_ERR_LOG_VALID rp)) = 1 ∧
    (d.rd (.brg (.RP_ERR_LOG_VALID rp)) = 0 → (d.rpErr rp i).rd (.brg (.RP_ERR_LOG_KIND rp)) = i) := by
  have hi' : i % 16 = i := Nat.mod_eq_of_lt hi
  have hlt := d.rd_lt (.brg (.RP_ERR_LOG_VALID rp))
  rw [rpErrValid_width] at hlt
  refine ⟨kept_brgEvent (((Kept.refl d).inc (by simp [rpErrRegs])).logFirst _ (by simp [rpErrRegs]) (by simp [rpErrRegs])) (by simp), ?_⟩
  rw [Counts, Dev.rpErr, Dev.rd_brgEvent, Dev.rd_brgEvent, Dev.rd_brgEvent, Dev.logFirst, Dev.rpCnt]
  by_cases hv : d.rd (.brg (.RP_ERR_LOG_VALID rp)) = 0
  · have his : (d.inc (.brg (.RP_CNT_COUNT rp i))).is (.brg (.RP_ERR_LOG_VALID rp)) = false := by simp [Dev.is, Dev.rd_inc, hv]
    rw [his]
    simp [Dev.rd_inc, hi']
  · have hone : d.rd (.brg (.RP_ERR_LOG_VALID rp)) = 1 := by omega
    have his : (d.inc (.brg (.RP_CNT_COUNT rp i))).is (.brg (.RP_ERR_LOG_VALID rp)) = true := by simp [Dev.is, Dev.rd_inc, hone]
    rw [his]
    simp [Dev.rd_inc, hone]

/-- A downstream request that ends with an error, before its requester is told (R423). -/
theorem rpEnding_effect (d : Dev) (rp : Fin 2) (t : RpTag) :
    Kept (rpErrRegs rp 4) [.rps, .dma, .irqs] d (((d.rpErr rp 4).vatFree t.lines).rpDrop rp t) ∧
    Counts d (((d.rpErr rp 4).vatFree t.lines).rpDrop rp t) (.brg (.RP_CNT_COUNT rp 4)) ∧
    (((d.rpErr rp 4).vatFree t.lines).rpDrop rp t).rd (.brg (.RP_ERR_LOG_VALID rp)) = 1 ∧
    (d.rd (.brg (.RP_ERR_LOG_VALID rp)) = 0 → (((d.rpErr rp 4).vatFree t.lines).rpDrop rp t).rd (.brg (.RP_ERR_LOG_KIND rp)) = 4) ∧
    ((((d.rpErr rp 4).vatFree t.lines).rpDrop rp t).rp rp).tags = rpTagsWithout d rp t := by
  obtain ⟨hk, hcnt, hval, hkind⟩ := rpErr_effect d rp (i := 4) (by decide)
  have hrps : (d.rpErr rp 4).rps = d.rps := hk.same (x := .rps) (by simp)
  generalize d.rpErr rp 4 = e at hk hcnt hval hkind hrps
  refine ⟨((hk.mono (List.Subset.refl _) (by simp)).withDma _ (by simp)).modRp _ _ (by simp), hcnt, hval, hkind, ?_⟩
  refine (tags_rpDrop _ rp t).trans ?_
  rw [rpTagsWithout, rpTagsWithout, Dev.rp, Dev.rp, ← hrps]
  rfl

section
variable {s : State} (hs : s.held = false) (rp : Fin 2) (hdl : (s.dev.rp rp).dlUp = true) (hq : RpQuiet s.dev rp)
include hs hdl hq

section
variable (data : BitVec 32) {t : RpTag}
  (ht : (s.dev.rp rp).tags.find? (fun g => !g.quarantined && (g.client = .cfgRead || g.client = .cfgWrite)) = some t)
include ht

/-- A configuration request that ends well (R409). -/
theorem exec_rpCfgCompletion_ok {g : Dev} (hg : g = (s.dev.rpDrop rp t).wr (.brg (.RP_STATUS_CFG_BUSY rp)) 0) :
    exec (.rpCfgCompletion rp 0 data) s = .next { s with dev := if t.client = .cfgRead then g.reply data.toNat 4 0 false else g } := by
  have hwait : (if t.client = .cfgRead then g.reply data.toNat 4 0 false else g).apWait = [] := by
    split
    · rw [apWait_reply, hg]
      exact hq.1
    · rw [hg]
      exact hq.1
  show execRpCfgCompletion rp 0 data s = _
  rw [execRpCfgCompletion, State.run_live s _ hs]
  subst hg
  dsimp only
  rw [if_neg (by simp [hdl]), rpTimers_quiet hq, ht]
  exact congrArg (fun e => Host.Outcome.next { s with dev := e }) (Dev.apDrain_idle _ hwait)

omit hs hdl hq ht in
theorem cfgEnded_effect : Kept [.brg (.RP_STATUS_CFG_BUSY rp)] [.rps] s.dev ((s.dev.rpDrop rp t).wr (.brg (.RP_STATUS_CFG_BUSY rp)) 0) ∧
    ((s.dev.rpDrop rp t).wr (.brg (.RP_STATUS_CFG_BUSY rp)) 0).rd (.brg (.RP_STATUS_CFG_BUSY rp)) = 0 ∧
    (((s.dev.rpDrop rp t).wr (.brg (.RP_STATUS_CFG_BUSY rp)) 0).rp rp).tags = rpTagsWithout s.dev rp t ∧
    ((s.dev.rpDrop rp t).wr (.brg (.RP_STATUS_CFG_BUSY rp)) 0).out = s.dev.out :=
  ⟨((Kept.refl _).modRp _ _ (by simp)).wr _ (by simp), by simp, tags_rpDrop s.dev rp t, rfl⟩

theorem effect_rpCfgCompletion_read (hc : t.client = .cfgRead) :
    Effect (.rpCfgCompletion rp 0 data) s [.brg (.RP_STATUS_CFG_BUSY rp)] [.rps, .out] (fun u =>
      u.rd (.brg (.RP_STATUS_CFG_BUSY rp)) = 0 ∧ Answered s.dev u data.toNat 4 ∧ (u.rp rp).tags = rpTagsWithout s.dev rp t) := by
  obtain ⟨hk, hb, htags, hout⟩ := cfgEnded_effect rp
  refine .of_next ((exec_rpCfgCompletion_ok hs rp hdl hq data ht rfl).trans (by rw [if_pos hc]))
    (kept_reply (hk.mono (List.Subset.refl _) (by simp)) _ _ _ _ (by simp)) ⟨?_, ?_, ?_⟩
  · exact (rd_reply _ _ _ _ _ rfl).trans hb
  · exact (out_reply _ _ _ _ _).trans (by rw [hout])
  · rw [rp_reply]
    exact htags

theorem effect_rpCfgCompletion_write (hc : t.client = .cfgWrite) :
    Effect (.rpCfgCompletion rp 0 data) s [.brg (.RP_STATUS_CFG_BUSY rp)] [.rps] (fun u =>
      u.rd (.brg (.RP_STATUS_CFG_BUSY rp)) = 0 ∧ (u.rp rp).tags = rpTagsWithout s.dev rp t) := by
  obtain ⟨hk, hb, htags, -⟩ := cfgEnded_effect rp
  exact .of_next ((exec_rpCfgCompletion_ok hs rp hdl hq data ht rfl).trans (by rw [if_neg (by simp [hc])])) hk ⟨hb, htags⟩

end

theorem effect_rpCfgCompletion_error (data : BitVec 32) {t : RpTag} {status : Fin 8} (hst : status ≠ 0) (hc : t.client = .cfgRead)
    (ht : (s.dev.rp rp).tags.find? (fun g => !g.quarantined && (g.client = .cfgRead || g.client = .cfgWrite)) = some t) :
    Effect (.rpCfgCompletion rp status data) s (([.brg (.RP_STATUS_CFG_BUSY rp), .brg (.RP_STATUS_CFG_ERR rp)] : List Fld) ++ rpErrRegs rp 4)
      [.rps, .out, .dma, .irqs] (fun u => u.rd (.brg (.RP_STATUS_CFG_BUSY rp)) = 0 ∧ u.rd (.brg (.RP_STATUS_CFG_ERR rp)) = 1 ∧
        Counts s.dev u (.brg (.RP_CNT_COUNT rp 4)) ∧ Answered s.dev u 0xFFFFFFFF 4 ∧ (u.rp rp).tags = rpTagsWithout s.dev rp t) := by
  have hst0 : status.val ≠ 0 := fun h => hst (Fin.ext h)
  obtain ⟨hk, hcnt, -, -, htags⟩ := rpEnding_effect s.dev rp t
  have hfail : (s.dev.rpErr rp 4).rpEndBad rp t 0x80 = ((((s.dev.rpErr rp 4).vatFree t.lines).rpDrop rp t).wrs
      [(.brg (.RP_STATUS_CFG_BUSY rp), 0), (.brg (.RP_STATUS_CFG_ERR rp), 1)]).reply 0xFFFFFFFF 4 0 false := by
    rw [Dev.rpEndBad, Dev.rpFail, hc]
  have hout : (((s.dev.rpErr rp 4).vatFree t.lines).rpDrop rp t).out = s.dev.out := hk.same (x := .out) (by simp)
  have hwait : (((s.dev.rpErr rp 4).vatFree t.lines).rpDrop rp t).apWait = s.dev.apWait := hk.same (x := .apWait) (by simp)
  refine .run (x := execRpCfgCompletion rp status data s) rfl rfl hs ?_
  dsimp only
  rw [if_neg (by simp [hdl]), rpTimers_quiet hq, ht]
  dsimp only
  rw [if_pos hst0, hfail]
  generalize ((s.dev.rpErr rp 4).vatFree t.lines).rpDrop rp t = e at hk hcnt htags hout hwait
  have hidle : (e.wrs [(.brg (.RP_STATUS_CFG_BUSY rp), 0), (.brg (.RP_STATUS_CFG_ERR rp), 1)]).apWait = [] := hwait.trans hq.1
  rw [apDrain_reply _ _ _ _ _ hidle]
  refine ⟨kept_reply ((hk.mono (by simp) (by simp)).wrs _ (by simp)) _ _ _ _ (by simp), ?_, ?_, ?_, ?_, ?_⟩
  · rw [rd_reply _ _ _ _ _ rfl]
    simp
  · rw [rd_reply _ _ _ _ _ rfl]
    simp
  · rw [Counts, rd_reply _ _ _ _ _ rfl]
    exact Eq.trans (by simp) hcnt
  · exact (out_reply _ _ _ _ _).trans (congrArg (· ++ _) hout)
  · rw [rp_reply]
    exact htags

end

/-- Settles O36, clause by clause: an access with none before it is served at once, or waits alone. -/
theorem modemAccesses : Obligations.ModemAccesses := by
  unfold Obligations.ModemAccesses
  intro s rp data hs
  refine ⟨fun ha => ⟨fun hb => ⟨effect_rpCfgRead_busy ha rp hb, effect_rpCfgWrite_busy ha rp data hb⟩, fun tag hb hw hup ht => ?_,
    fun w n wide value k hk hw => ⟨fun hn => effect_apertureWrite_misaligned ha rp w n wide value hk hn, fun hf => ?_, fun hf => ?_⟩⟩,
    fun t status hdl hq ht => ?_⟩
  · exact ⟨effect_rpCfgRead ha rp hb hw hup ht, effect_rpCfgWrite ha rp data hb hw hup ht⟩
  · exact ⟨effect_apertureRead_frozen ha rp w n wide hk hw hf, effect_apertureWrite_frozen ha rp w n wide value hk hw hf⟩
  · refine ⟨fun hin => ?_, effect_apertureRead_down ha rp w n wide hk hw hf, fun hin hup => ?_⟩
    · exact ⟨effect_apertureRead_hole ha rp w n wide hk hw hf hin, effect_apertureWrite_hole ha rp w n wide value hk hw hf hin⟩
    · exact ⟨effect_apertureWrite_up ha rp w n wide value hk hw hf hin hup,
        fun tag hattr hpf ht hpage => effect_apertureRead_up ha rp w n wide hk hw hf hin hup hattr hpf ht hpage⟩
  · refine ⟨fun h0 hc => ?_, fun h0 hc => ?_, fun h0 hc => effect_rpCfgCompletion_error hs rp hdl hq data h0 hc ht⟩
    · subst h0
      exact effect_rpCfgCompletion_read hs rp hdl hq data ht hc
    · subst h0
      exact effect_rpCfgCompletion_write hs rp hdl hq data ht hc

end Sys2Proof.Machine
end

section
-- The theorems are elaborated in order, which keeps the memory that a check of the whole text takes within its limit.
set_option Elab.async false

/-! SUPPORT.  How reads of the modems end (R391, R421 to R423, R426). -/

namespace Sys2Proof.Machine

open Sys2Proof.Safety Sys2Proof.Claims

theorem marked_false (bs : List Byte) : marked bs false = clean bs := rfl

/-- What is found after an update of the elements sought. -/
theorem find?_updWhere {α : Type} (p : α → Bool) {l : List α} {x y : α} (h : l.find? p = some x) (hy : p y = true) (q : α → Bool)
    (hq : ∀ z, q z = p z) : (updWhere l q (fun _ => y)).find? p = some y := by
  have hmem := List.mem_of_find?_eq_some h
  have hpx := List.find?_some h
  rw [updWhere, List.find?_map]
  obtain rfl : q = p := funext hq
  have hcomp : (q ∘ fun z => if q z then y else z) = q := by
    funext z
    by_cases hz : q z = true
    · simp [hz, hy]
    · simp [hz]
  rw [hcomp, h]
  simp [hpx]

/-- The prefetched lines of a root port that are 10 µs old are gone (R421). -/
def Dev.pfExpired (d : Dev) (rp : Nat) : Dev := d.modRp rp (fun r => { r with pf := r.pf.filter (fun y => d.now < y.filledAt + 10000) })

theorem pfExpired_effect {d e : Dev} {rp : Fin 2} {x : PfLine} (hk : Kept [] (.rps :: timeParts) d e)
    (hnow : e.now = max d.now (x.filledAt + 10000)) (hpf : (e.rp rp).pf = [x]) :
    Kept [] (.rps :: timeParts) d (e.pfExpired rp) ∧ (e.pfExpired rp).now = max d.now (x.filledAt + 10000) ∧ ((e.pfExpired rp).rp rp).pf = [] := by
  refine ⟨hk.modRp _ _ (by simp), hnow, ?_⟩
  rw [Dev.pfExpired, Dev.rp_modRp_self, hpf]
  refine List.filter_eq_nil_iff.mpr fun y hy => ?_
  obtain rfl := List.mem_singleton.mp hy
  rw [hnow]
  simp

section
variable {s : State} (hs : s.held = false) (rp : Fin 2)
include hs

theorem effect_prefetchLineExpiry (x : PfLine) (hpf : (s.dev.rp rp).pf = [x]) :
    Effect (.prefetchLineExpiry rp) s [] (.rps :: timeParts) (fun t => t.now = max s.dev.now (x.filledAt + 10000) ∧ (t.rp rp).pf = []) := by
  refine .run (x := execPrefetchLineExpiry rp s) rfl rfl hs ?_
  rw [hpf]
  dsimp only [List.foldl_nil]
  have hk := kept_elapse [] (.rps :: timeParts) s.dev (x.filledAt + 10000 - s.dev.now) (by simp)
  have hnow : (s.dev.elapse (x.filledAt + 10000 - s.dev.now)).now = max s.dev.now (x.filledAt + 10000) := by
    rw [Dev.elapse_now]
    omega
  have hrps : (s.dev.elapse (x.filledAt + 10000 - s.dev.now)).rps = s.dev.rps :=
    (kept_elapse [] timeParts s.dev _ (List.Subset.refl _)).same (x := .rps) (by simp [timeParts])
  exact pfExpired_effect (d := s.dev) hk hnow (by rw [Dev.rp, hrps]; exact hpf)

variable {tag : Fin 32} {g : RpTag} {status : Fin 8} {count : Nat} {data : List Byte}
  (hdl : (s.dev.rp rp).dlUp = true) (hq : RpQuiet s.dev rp) (hg : (s.dev.rp rp).tags.find? (fun x => x.tag = tag.val) = some g)
include hdl hq hg

theorem effect_rpCompletionRx_quarantined (hquar : g.quarantined = true) (hlast : status ≠ 0 ∨ count ≤ data.length) :
    Effect (.rpCompletionRx rp tag status false count data) s [.brg (.RP_CNT_COUNT rp 3)] [.rps] (fun t =>
      Counts s.dev t (.brg (.RP_CNT_COUNT rp 3)) ∧ (t.rp rp).tags = rpTagsWithout s.dev rp g) := by
  have hlast' : status.val ≠ 0 ∨ count ≤ data.length := hlast.imp_left fun h h0 => h (Fin.ext h0)
  refine .run (x := execRpCompletionRx rp tag status false count data s) rfl rfl hs ?_
  dsimp only
  rw [if_neg (by simp [hdl]), rpTimers_quiet hq, if_neg Bool.false_ne_true, hg]
  dsimp only
  have hidle : ((s.dev.rpDrop rp g).rpCnt rp 3).apWait = [] := hq.1
  rw [if_pos hquar, if_pos hlast', Dev.apDrain_idle _ hidle]
  exact ⟨((Kept.refl _).modRp _ _ (by simp)).inc (by simp), by simp [Counts, Dev.rpCnt, Dev.rd_inc, Dev.rpDrop], tags_rpDrop s.dev rp g⟩

variable (hquar : g.quarantined = false) (hc : g.client = .aperture)
include hquar hc

/-- A completion for a read of an aperture (R423). -/
theorem exec_rpCompletionRx_aperture {e : Dev}
    (he : e = if status ≠ 0 then ((s.dev.rpErr rp 4).rpEndBad rp g 0x80).apDrain
      else if (g.got ++ clean data).length < g.len then s.dev.modRp rp (fun r => { r with
        tags := updWhere r.tags (fun x => x.tag = g.tag) (fun _ => { g with got := g.got ++ clean data }) })
      else (s.dev.rpDone rp { g with got := g.got ++ clean data }).apDrain)
    (hgood : status = 0 → count = g.len - g.got.length ∧ data ≠ [] ∧ data.length ≤ count) :
    exec (.rpCompletionRx rp tag status false count data) s = .next { s with dev := e } := by
  show execRpCompletionRx rp tag status false count data s = _
  rw [execRpCompletionRx, State.run_live s _ hs]
  dsimp only
  rw [if_neg (by simp [hdl]), rpTimers_quiet hq, if_neg Bool.false_ne_true, hg]
  obtain ⟨gtag, gclient, gwin, goff, glen, gwo, gwl, ggot, glines, gexp, gquar⟩ := g
  obtain rfl : gclient = .aperture := hc
  dsimp only at hquar he hgood ⊢
  rw [if_neg (by simp [hquar])]
  subst he
  by_cases h0 : status = 0
  · obtain ⟨hcount, hne, hle⟩ := hgood h0
    subst h0
    have hbad : ((0 : Fin 8).val = 0 && (count ≠ glen - ggot.length || data = [] || glen - ggot.length < data.length)) = false := by
      simp [hcount, hne]
      omega
    have hok : ¬ ((0 : Fin 8) ≠ 0) := by simp
    rw [if_neg hok, if_neg (by rw [hbad]; simp)]
    rfl
  · have hst : status.val ≠ 0 := fun h => h0 (Fin.ext h)
    rw [if_pos (.inl hst), if_pos h0, if_neg (by simp [hst])]

theorem effect_rpCompletionRx_partial (h0 : status = 0) (hcount : count = g.len - g.got.length) (hne : data ≠ []) (hlt : data.length < count) :
    Effect (.rpCompletionRx rp tag status false count data) s [] [.rps] (fun t =>
      (t.rp rp).tags.find? (fun x => x.tag = tag.val) = some { g with got := g.got ++ clean data }) := by
  have hst : ¬ status ≠ 0 := not_not.mpr h0
  have hshort : (g.got ++ clean data).length < g.len := by
    rw [List.length_append, length_clean]
    omega
  have htag : g.tag = tag.val := by simpa using List.find?_some hg
  have hx := exec_rpCompletionRx_aperture (status := status) hs rp hdl hq hg hquar hc rfl fun _ => ⟨hcount, hne, hlt.le⟩
  rw [if_neg hst, if_pos hshort] at hx
  refine .of_next hx ((Kept.refl _).modRp _ _ (by simp)) ?_
  refine (congrArg (fun r : Rp => r.tags.find? (fun x => x.tag = tag.val)) (s.dev.rp_modRp_self rp _)).trans ?_
  exact find?_updWhere (fun x : RpTag => x.tag = tag.val) hg (by simp [htag]) (fun x => x.tag = g.tag) fun x => by rw [htag]

theorem effect_rpCompletionRx_whole (h0 : status = 0) (hcount : count = g.len - g.got.length) (hne : data ≠ []) (heq : data.length = count)
    (hgot : g.got = []) (hoff : g.wantOff = g.off) (hlen : g.wantLen = g.len) (hattr : s.dev.winAttr rp g.win ≠ 3) :
    Effect (.rpCompletionRx rp tag status false count data) s [] [.rps, .out] (fun t =>
      Answered s.dev t (ofLe data) g.len ∧ (t.rp rp).tags = rpTagsWithout s.dev rp g) := by
  have hst : ¬ status ≠ 0 := not_not.mpr h0
  have hfull : ¬ (g.got ++ clean data).length < g.len := by
    rw [List.length_append, length_clean]
    omega
  have hwant : ((g.got ++ clean data).drop (g.wantOff - g.off)).take g.wantLen = clean data := by
    rw [hgot, hoff, Nat.sub_self, List.nil_append, List.drop_zero]
    exact List.take_of_length_le (by rw [length_clean, hlen]; omega)
  have hdone : s.dev.rpDone rp { g with got := g.got ++ clean data } = (s.dev.rpDrop rp g).reply (ofLe data) g.len 0 false := by
    have hkeep : (s.dev.rpDrop rp g).pfKeep rp { g with got := g.got ++ clean data } = s.dev.rpDrop rp g := if_pos (.inl hattr)
    rw [Dev.rpDone, show s.dev.rpDrop rp { g with got := g.got ++ clean data } = s.dev.rpDrop rp g from rfl, hkeep]
    dsimp only
    rw [hc, hwant, map_fst_clean, any_snd_clean, hlen]
  have hidle : (s.dev.rpDrop rp g).apWait = [] := hq.1
  have hx := exec_rpCompletionRx_aperture (status := status) hs rp hdl hq hg hquar hc rfl fun _ => ⟨hcount, hne, heq.le⟩
  rw [if_neg hst, if_neg hfull, hdone, apDrain_reply _ _ _ _ _ hidle] at hx
  refine .of_next hx (kept_reply ((Kept.refl _).modRp _ _ (by simp)) _ _ _ _ (by simp)) ⟨out_reply _ _ _ _ _, ?_⟩
  rw [rp_reply]
  exact tags_rpDrop s.dev rp g

theorem effect_rpCompletionRx_error (hst : status ≠ 0) :
    Effect (.rpCompletionRx rp tag status false count data) s (rpErrRegs rp 4) [.rps, .out, .dma, .irqs] (fun t =>
      Counts s.dev t (.brg (.RP_CNT_COUNT rp 4)) ∧ t.rd (.brg (.RP_ERR_LOG_VALID rp)) = 1 ∧
      (s.dev.rd (.brg (.RP_ERR_LOG_VALID rp)) = 0 → t.rd (.brg (.RP_ERR_LOG_KIND rp)) = 4) ∧
      Answered s.dev t (2 ^ (8 * g.wantLen) - 1) g.wantLen ∧ (t.rp rp).tags = rpTagsWithout s.dev rp g) := by
  have hfail : (s.dev.rpErr rp 4).rpEndBad rp g 0x80 =
      (((s.dev.rpErr rp 4).vatFree g.lines).rpDrop rp g).reply (2 ^ (8 * g.wantLen) - 1) g.wantLen 0 false := by
    rw [Dev.rpEndBad, Dev.rpFail, hc]
  obtain ⟨hk, hcnt, hval, hkind, htags⟩ := rpEnding_effect s.dev rp g
  have hout : (((s.dev.rpErr rp 4).vatFree g.lines).rpDrop rp g).out = s.dev.out := hk.same (x := .out) (by simp)
  have hwait : (((s.dev.rpErr rp 4).vatFree g.lines).rpDrop rp g).apWait = s.dev.apWait := hk.same (x := .apWait) (by simp)
  have hx := exec_rpCompletionRx_aperture (data := data) (count := count) hs rp hdl hq hg hquar hc rfl fun h => absurd h hst
  rw [if_pos hst, hfail, apDrain_reply _ _ _ _ _ (hwait.trans hq.1)] at hx
  generalize ((s.dev.rpErr rp 4).vatFree g.lines).rpDrop rp g = e at hk hcnt hval hkind htags hout hwait hx
  refine .of_next hx (kept_reply (hk.mono (List.Subset.refl _) (by simp)) _ _ _ _ (by simp)) ⟨?_, ?_, fun h => ?_, ?_, ?_⟩
  · rw [Counts, rd_reply _ _ _ _ _ rfl]
    exact hcnt
  · exact (rd_reply _ _ _ _ _ rfl).trans hval
  · exact (rd_reply _ _ _ _ _ rfl).trans (hkind h)
  · exact (out_reply _ _ _ _ _).trans (congrArg (· ++ _) hout)
  · rw [rp_reply]
    exact htags

end

/-! ### RP_COMPLETION_TIMEOUT -/

/-- A downstream request that timed out is counted and recorded, its tag quarantined (R422). -/
def Dev.rpExpired (d : Dev) (rp : Nat) (t : RpTag) : Dev :=
  ((d.rpErr rp 5).vatFree t.lines).modRp rp (fun r => { r with
    tags := updWhere r.tags (fun g => g.tag = t.tag) (fun g => { g with quarantined := true, lines := [], client := .prefetch }) })

theorem rpExpired_effect (d : Dev) (rp : Fin 2) (g : RpTag) (htags : (d.rp rp).tags = [g]) :
    Kept (rpErrRegs rp 5) [.rps, .dma, .irqs] d (d.rpExpired rp g) ∧ Counts d (d.rpExpired rp g) (.brg (.RP_CNT_COUNT rp 5)) ∧
    ((d.rpExpired rp g).rp rp).ctnPend = (d.rp rp).ctnPend ∧
    ((d.rpExpired rp g).rp rp).tags.map (fun x => (x.tag, x.quarantined)) = [(g.tag, true)] := by
  obtain ⟨hk, hcnt, -, -⟩ := rpErr_effect d rp (i := 5) (by decide)
  have hrps : (d.rpErr rp 5).rps = d.rps := hk.same (x := .rps) (by simp)
  unfold Dev.rpExpired
  generalize d.rpErr rp 5 = e at hk hcnt hrps
  have hrp : (e.vatFree g.lines).rp rp = d.rp rp := congrArg (fun l : List Rp => l.getD rp {}) hrps
  refine ⟨((hk.mono (List.Subset.refl _) (by simp)).withDma _ (by simp)).modRp _ _ (by simp), hcnt, ?_, ?_⟩
  · rw [Dev.rp_modRp_self, hrp]
  · rw [Dev.rp_modRp_self, hrp, htags]
    simp [updWhere]

theorem rpTimers_expired {d : Dev} {rp : Nat} {g : RpTag} (htags : (d.rp rp).tags = [g]) (hquar : g.quarantined = false) (hexp : g.expiry ≤ d.now) :
    d.rpTimers rp = d.rpTimeout rp g := by
  have hfilter : (d.rp rp).tags.filter (fun t => !t.quarantined && t.expiry ≤ d.now) = [g] := by simp [htags, hquar, hexp]
  rw [Dev.rpTimers, hfilter, List.foldl_cons, List.foldl_nil, if_pos (by simp [htags, hquar])]

theorem effect_rpCompletionTimeout {s : State} (hs : s.held = false) (rp : Fin 2) (g : RpTag) (hquar : g.quarantined = false)
    (hc : g.client = .aperture) (hwait : s.dev.apWait = []) (htags : (s.dev.rp rp).tags = [g]) :
    Effect (.rpCompletionTimeout rp) s (rpErrRegs rp 5 ++ rpCtnRegs rp) (([.rps, .out, .dma, .irqs] : List Part) ++ timeParts) (fun t =>
      t.now = max s.dev.now g.expiry ∧ Counts s.dev t (.brg (.RP_CNT_COUNT rp 5)) ∧ RpTriggered s.dev t rp 4 ∧
      Answered s.dev t (2 ^ (8 * g.wantLen) - 1) g.wantLen ∧ (t.rp rp).tags.map (fun x => (x.tag, x.quarantined)) = [(g.tag, true)]) := by
  have hfind : (s.dev.rp rp).tags.find? (fun t => !t.quarantined) = some g := by simp [htags, hquar]
  refine .run (x := execRpCompletionTimeout rp s) rfl rfl hs ?_
  rw [hfind]
  dsimp only
  have hkt := kept_elapse [] timeParts s.dev (g.expiry - s.dev.now) (List.Subset.refl _)
  have hnow : (s.dev.elapse (g.expiry - s.dev.now)).now = max s.dev.now g.expiry := by
    rw [Dev.elapse_now]
    omega
  generalize s.dev.elapse (g.expiry - s.dev.now) = e at hkt hnow
  have hrps : e.rps = s.dev.rps := hkt.same (x := .rps) (by simp [timeParts])
  have hrp : e.rp rp = s.dev.rp rp := by rw [Dev.rp, Dev.rp, hrps]
  have hout : e.out = s.dev.out := hkt.same (x := .out) (by simp [timeParts])
  have hap : e.apWait = s.dev.apWait := hkt.same (x := .apWait) (by simp [timeParts])
  obtain ⟨hkx, hcx, hpx, htx⟩ := rpExpired_effect e rp g (by rw [hrp, htags])
  have htime : e.rpTimers rp = ((e.rpExpired rp g).rpPresent rp [4]).reply (2 ^ (8 * g.wantLen) - 1) g.wantLen 0 false := by
    rw [rpTimers_expired (by rw [hrp, htags]) hquar (by omega), Dev.rpTimeout, Dev.rpFail, hc]
    rfl
  generalize e.rpExpired rp g = x at hkx hcx hpx htx htime
  obtain ⟨hkp, htrig, b, hrpp⟩ := rpPresent_effect x rp (c := 4) (by decide)
  rw [htime]
  generalize x.rpPresent rp [4] = y at hkp htrig hrpp
  have hkxy : Kept (rpErrRegs rp 5 ++ rpCtnRegs rp) (([.rps, .out, .dma, .irqs] : List Part) ++ timeParts) s.dev y :=
    ((hkt.mono (by simp) (List.subset_append_right _ _)).trans (hkx.mono (by simp) (by simp))).trans (hkp.mono (by simp) (by simp))
  have hidle : y.apWait = [] := by
    have h1 : x.apWait = e.apWait := hkx.same (x := .apWait) (by simp)
    have h2 : y.apWait = x.apWait := hkp.same (x := .apWait) (by simp)
    rw [h2, h1, hap, hwait]
  rw [apDrain_reply _ _ _ _ _ hidle]
  refine ⟨kept_reply hkxy _ _ _ _ (by simp), ?_, ?_, ?_, ?_, ?_⟩
  · obtain ⟨hy, -⟩ : Part.Same _ _ .time := (kept_reply (F := []) (P := [.out]) (.refl y) (2 ^ (8 * g.wantLen) - 1) g.wantLen 0 false (by simp)).same
      (by simp)
    obtain ⟨hx, -⟩ : Part.Same _ _ .time := hkp.same (by simp)
    obtain ⟨he, -⟩ : Part.Same _ _ .time := hkx.same (by simp)
    rw [hy, hx, he, hnow]
  · rw [Counts, rd_reply _ _ _ _ _ rfl, hkp.rd (by simp [rpCtnRegs]) rfl, ← hkt.rd (f := .brg (.RP_CNT_COUNT rp 5)) (by simp) rfl]
    exact hcx
  · have hregs : ∀ f ∈ rpCtnRegs rp, x.rd f = s.dev.rd f := fun f hf => by
      refine (hkx.rd ?_ (rpCtnRegs_isCount hf)).trans (hkt.rd (by simp) (rpCtnRegs_isCount hf))
      simp only [rpCtnRegs, List.mem_cons, List.not_mem_nil, or_false] at hf
      obtain rfl | rfl | rfl := hf <;> simp [rpErrRegs]
    refine rpTriggered_of_same htrig ((hkx.rd (by simp [rpErrRegs]) rfl).trans (hkt.rd (by simp) rfl)) hregs (by rw [hpx, hrp])
      (fun f hf => rd_reply _ _ _ _ _ (rpCtnRegs_isCount hf)) (by rw [rp_reply])
  · have hy : y.out = x.out := hkp.same (x := .out) (by simp)
    have hx : x.out = e.out := hkx.same (x := .out) (by simp)
    exact (out_reply _ _ _ _ _).trans (by rw [hy, hx, hout])
  · rw [rp_reply, hrpp]
    exact htx

/-- Settles O37, clause by clause: with no timer expired and no access waiting a completion acts on its own request alone. -/
theorem downstreamReadsEnd : Obligations.DownstreamReadsEnd := by
  unfold Obligations.DownstreamReadsEnd
  intro s rp hs
  refine ⟨effect_prefetchLineExpiry hs rp, fun tag g status count data hdl hq hg =>
    ⟨effect_rpCompletionRx_quarantined hs rp hdl hq hg, fun hquar hc => ?_⟩⟩
  exact ⟨effect_rpCompletionRx_partial hs rp hdl hq hg hquar hc, effect_rpCompletionRx_whole hs rp hdl hq hg hquar hc,
    effect_rpCompletionRx_error hs rp hdl hq hg hquar hc, effect_rpCompletionTimeout hs rp g hquar hc hq.1⟩

end Sys2Proof.Machine
end

section
-- The theorems are elaborated in order, which keeps the memory that a check of the whole text takes within its limit.
set_option Elab.async false

/-! SUPPORT.  Frames written to modems, and requests the modems master (R414, R415, R424, R425, R427). -/

namespace Sys2Proof.Machine

open Sys2Proof.Safety Sys2Proof.Claims

@[simp] theorem rpMsiPend_width (r : Nat) : (Fld.brg (.RP_MSI_PEND_PEND r)).width = 32 := rfl
@[simp] theorem rpIntx_width (r : Nat) : (Fld.brg (.RP_STATUS_INTX r)).width = 1 := rfl

/-! ### Bytes written to a modem -/

theorem rpUp_modemTlp {d : Dev} {rp : Fin 2} (hup : RpUp d rp) (addr : Nat) (bs : List Byte) :
    RpUp (d.modemTlp rp addr (clean bs)) rp ∧ ((d.modemTlp rp addr (clean bs)).rp rp).queue = (d.rp rp).queue := by
  have hrp : (d.modemTlp rp addr (clean bs)).rp rp = { d.rp rp with pf := [] } := by
    rw [modemTlp_clean hup, rp_count]
    exact d.rp_modRp_self rp _
  rw [RpUp, Dev.rpUp, hrp]
  exact ⟨hup, rfl⟩

theorem modemTlp_kept {d : Dev} {rp : Fin 2} (hup : RpUp d rp) (addr : Nat) (bs : List Byte) :
    Kept [] [.rps, .out] d (d.modemTlp rp addr (clean bs)) := by
  rw [modemTlp_clean hup]
  exact (((Kept.refl d).modRp _ _ (by simp)).emitAside _ rfl (by simp)).count _ _ _

theorem modemSplit_effect {rp : Fin 2} (mps fuel : Nat) {d : Dev} (hup : RpUp d rp) (addr : Nat) (bs : List Byte) {e : Dev}
    (he : e = Dev.splitWrite (fun d a b => d.modemTlp rp a b) mps fuel d addr (clean bs)) :
    Kept [] [.rps, .out] d e ∧ RpUp e rp ∧ (e.rp rp).queue = (d.rp rp).queue := by
  induction fuel generalizing d addr bs with
  | zero =>
    subst he
    exact ⟨.refl _, hup, rfl⟩
  | succ fuel ih =>
    rw [Dev.splitWrite] at he
    split at he
    · subst he
      exact ⟨.refl _, hup, rfl⟩
    · have htake : ∀ n, (clean bs).take n = clean (bs.take n) := fun n => by simp [clean]
      have hdrop : ∀ n, (clean bs).drop n = clean (bs.drop n) := fun n => by simp [clean]
      dsimp only at he
      rw [htake, hdrop] at he
      obtain ⟨hup1, hq1⟩ := rpUp_modemTlp hup addr (bs.take (min mps (4096 - addr % 4096)))
      obtain ⟨hk, hup2, hq2⟩ := ih hup1 _ _ he
      exact ⟨(modemTlp_kept hup _ _).trans hk, hup2, hq2.trans hq1⟩

theorem out_modemSplit_congr {rp : Fin 2} (mps fuel : Nat) {d e : Dev} (hd : RpUp d rp) (he : RpUp e rp) (h : e.out = d.out) (addr : Nat)
    (bs : List Byte) : (Dev.splitWrite (fun d a b => d.modemTlp rp a b) mps fuel e addr (clean bs)).out =
      (Dev.splitWrite (fun d a b => d.modemTlp rp a b) mps fuel d addr (clean bs)).out := by
  induction fuel generalizing d e addr bs with
  | zero => exact h
  | succ fuel ih =>
    unfold Dev.splitWrite
    split
    · exact h
    · have htake : ∀ n, (clean bs).take n = clean (bs.take n) := fun n => by simp [clean]
      have hdrop : ∀ n, (clean bs).drop n = clean (bs.drop n) := fun n => by simp [clean]
      have hout : ∀ {x : Dev} (hx : RpUp x rp) (b : List Byte), (x.modemTlp rp addr (clean b)).out = x.out ++ [.modemWrite rp addr b false] :=
        fun hx b => by rw [modemTlp_clean hx, out_count]; rfl
      dsimp only
      rw [htake, hdrop]
      exact ih (rpUp_modemTlp hd _ _).1 (rpUp_modemTlp he _ _).1 (by rw [hout hd, hout he, h]) _ _

/-! ### BRIDGE_FRAME_WRITE -/

/-- A frame written to a modem, taken from the bridge queue `es` is left of (R414). -/
def Dev.frameBridged (d : Dev) (rp : Nat) (es : List BrgEnt) (addr : Nat) (bs : List Byte) : Dev :=
  (d.modRp rp (fun r => { r with queue := es })).modemWriteBus rp addr (clean bs)

theorem frameBridged_effect {d : Dev} {rp : Fin 2} (hup : RpUp d rp) (es : List BrgEnt) (addr : Nat) (bs : List Byte) :
    Kept [] [.rps, .out] d (d.frameBridged rp es addr bs) ∧ RpUp (d.frameBridged rp es addr bs) rp ∧ ((d.frameBridged rp es addr bs).rp rp).queue = es ∧
      (d.frameBridged rp es addr bs).out = (d.modemWriteBus rp addr (clean bs)).out := by
  have hrp : (d.modRp rp (fun r => { r with queue := es })).rp rp = { d.rp rp with queue := es } := d.rp_modRp_self rp _
  have hup' : RpUp (d.modRp rp (fun r => { r with queue := es })) rp := by
    rw [RpUp, Dev.rpUp, hrp]
    exact hup
  obtain ⟨hk, hup2, hq⟩ := modemSplit_effect _ _ hup' addr bs rfl
  exact ⟨((Kept.refl d).modRp _ _ (by simp)).trans hk, hup2, hq.trans (by rw [hrp]), out_modemSplit_congr _ _ hup hup' rfl addr bs⟩

section
variable {s : State} (hs : s.held = false) (rp : Fin 2)
include hs

theorem effect_bridgeFrameWrite (e : BrgEnt) (es : List BrgEnt) (bs : List Byte) (hqueue : (s.dev.rp rp).queue = e :: es) (hup : RpUp s.dev rp)
    (hm : s.dev.marks = []) (hvat : s.dev.vatOk e.f (linesIn (e.frame.start % 64) e.frame.len) = true)
    (hbs : bs = ((s.dev.readRun e.frame.lines).1.drop e.frame.start).take e.frame.len) (hbell : ∀ a, e.bell = some a → a % 4096 ≤ 4092) :
    Effect (.bridgeFrameWrite rp) s [] [.rps, .out, .used] (fun t =>
      t.out = (s.dev.modemWriteBus rp e.addr (clean bs)).out ++
        (match e.bell with | some a => [.modemWrite rp a (leBytes 4 e.frame.len) false] | none => []) ∧
      (t.rp rp).queue = es ∧ t.used = s.dev.used.filter (fun l => !e.frame.lines.contains l)) := by
  have hread : (((s.dev.readMarked e.frame.lines).1.drop e.frame.start).take e.frame.len) = clean bs := by
    rw [hbs, Dev.readRun_clean hm, Dev.readMarked_clean hm]
    simp [clean]
  obtain ⟨hk, hup1, hq, hout⟩ := frameBridged_effect hup es e.addr bs
  have hused : (s.dev.frameBridged rp es e.addr bs).used = s.dev.used := hk.same (x := .used) (by simp)
  refine .run (x := execBridgeFrameWrite rp s) rfl rfl hs ?_
  rw [hqueue]
  dsimp only
  rw [if_neg (by simp [hup.1, hvat]), hread, Dev.readMarked_clean hm, if_neg (by rw [any_snd_clean]; simp)]
  dsimp only
  rw [← Dev.frameBridged, ← hout, ← hused]
  generalize s.dev.frameBridged rp es e.addr bs = g at hk hup1 hq
  cases hb : e.bell with
  | none => exact ⟨(hk.mono (List.Subset.refl _) (by simp)).withUsed _ (by simp), by simp [Dev.dropFrame, Dev.free], hq, rfl⟩
  | some a =>
    have ha := hbell a hb
    dsimp only
    rw [modemWriteBus_one hup1 (by simp [leBytes]) (by simp) (by rw [length_leBytes]; omega)]
    have hk2 : Kept [] [.rps, .out, .used] s.dev (((g.modRp rp (fun r => { r with pf := [] })).emit
        (.modemWrite rp a (leBytes 4 e.frame.len) false)).count 0x80 rp 1) :=
      (((hk.mono (List.Subset.refl _) (by simp)).modRp _ _ (by simp)).emitAside _ rfl (by simp)).count _ _ _
    refine ⟨hk2.withUsed _ (by simp), ?_, ?_, ?_⟩
    · exact out_count _ _ _ _
    · have hrp : (((g.modRp rp (fun r => { r with pf := [] })).emit (.modemWrite rp a (leBytes 4 e.frame.len) false)).count 0x80 rp 1).rp rp =
          { g.rp rp with pf := [] } := (rp_count _ _ _ _ _).trans (g.rp_modRp_self rp (fun r => { r with pf := [] }))
      exact (congrArg Rp.queue hrp).trans hq
    · have hu : (((g.modRp rp (fun r => { r with pf := [] })).emit (.modemWrite rp a (leBytes 4 e.frame.len) false)).count 0x80 rp 1).used = g.used :=
        ((Kept.refl (F := []) (P := []) _).count _ _ _).same (x := .used) (by simp)
      exact congrArg _ hu

/-! ### Requests of the modems -/

theorem effect_modemIntxMessage (hdl : (s.dev.rp rp).dlUp = true) (a : Bool) :
    Effect (.modemIntxMessage rp a) s [.brg (.RP_STATUS_INTX rp)] [.irqs] (fun t => t.rd (.brg (.RP_STATUS_INTX rp)) = b2n a) := by
  refine .run (x := execModemIntxMessage rp a s) rfl rfl hs ?_
  by_cases h : s.dev.is (.brg (.RP_STATUS_INTX rp)) = a
  · rw [if_pos (.inr h)]
    refine ⟨.refl _, ?_⟩
    have hlt := s.dev.rd_lt (.brg (.RP_STATUS_INTX rp))
    rw [rpIntx_width] at hlt
    cases a
    · exact (Dev.is_eq_false_iff _ _).mp h
    · have := (Dev.is_eq_true_iff _ _).mp h
      rw [b2n, if_pos rfl]
      omega
  · rw [if_neg (by simp [hdl, h])]
    refine ⟨kept_brgEvent ((Kept.refl _).wr _ (by simp)) (by simp), ?_⟩
    rw [Dev.rd_brgEvent]
    cases a <;> simp [b2n]

section
variable (hdl : (s.dev.rp rp).dlUp = true) (hctn : s.dev.rpState rp = 3 → (s.dev.rp rp).ctnPend = true)
include hdl hctn

omit hs in
/-- A request in no window (R424). -/
theorem modemRequest_outside {write : Bool} {addr tag len : Nat} {bytes : List Byte}
    (hwin : s.dev.inbWindow rp addr (if write then bytes.length else len) = none) :
    s.dev.modemRequest rp write false addr tag len bytes = s.dev.inbReject rp write tag := by
  rw [Dev.modemRequest, if_neg (by simp [hdl])]
  dsimp only
  rw [if_neg Bool.false_ne_true, if_neg (fun h => by simp [hctn h.1] at h), hwin]

omit hs in
/-- A request in an MSI window (R424). -/
theorem modemRequest_msi {addr tag len i : Nat} {bytes : List Byte} (hwin : s.dev.inbWindow rp addr bytes.length = some i)
    (hkind : s.dev.rd (.brg (.INB_CTRL_KIND rp i)) ≠ 0) (hlen : bytes.length = 4) :
    s.dev.modemRequest rp true false addr tag len bytes = s.dev.modemMsi rp (leAt bytes 0 4 % 32) := by
  rw [Dev.modemRequest, if_neg (by simp [hdl])]
  dsimp only
  rw [if_neg Bool.false_ne_true, if_neg (fun h => by simp [hctn h.1] at h), if_pos rfl, hwin]
  dsimp only
  rw [if_pos ((Dev.is_eq_true_iff _ _).mpr hkind), if_pos ⟨rfl, hlen, rfl⟩]

theorem effect_modemInboundRequest_outside (write : Bool) (addr : BitVec 64) (tag len : Nat) (bytes : List Byte)
    (hwin : s.dev.inbWindow rp addr.toNat (if write then bytes.length else len) = none) :
    Effect (.modemInboundRequest rp write false addr tag len bytes) s [.brg (.RP_CNT_COUNT rp 6)] [.out] (fun t =>
      Counts s.dev t (.brg (.RP_CNT_COUNT rp 6)) ∧ t.out = s.dev.out ++ (if write then [] else [.modemCpl rp tag 1 [] false])) := by
  refine .run (x := execModemInboundRequest rp write false addr tag len bytes s) rfl rfl hs ?_
  rw [modemRequest_outside rp hdl hctn hwin, Dev.inbReject]
  cases write
  · have hdl' : ((s.dev.rpCnt rp 6).rp rp).dlUp = true := hdl
    rw [if_neg Bool.false_ne_true, Dev.modemAnswer, if_pos hdl']
    exact ⟨((Kept.refl _).inc (by simp)).emitAside _ rfl (by simp), by simp [Counts, Dev.rpCnt, Dev.rd_inc], rfl⟩
  · exact ⟨(Kept.refl _).inc (by simp), by simp [Counts, Dev.rpCnt, Dev.rd_inc], by simp [Dev.rpCnt]⟩

theorem effect_modemMsiWrite (addr : BitVec 64) (data : BitVec 32) (i : Nat) (hwin : s.dev.inbWindow rp addr.toNat 4 = some i)
    (hkind : s.dev.rd (.brg (.INB_CTRL_KIND rp i)) ≠ 0) :
    Effect (.modemMsiWrite rp addr data) s [.brg (.RP_MSI_PEND_PEND rp)] [.irqs] (fun t =>
      t.rd (.brg (.RP_MSI_PEND_PEND rp)) = setBit (s.dev.rd (.brg (.RP_MSI_PEND_PEND rp))) (data.toNat % 32)) := by
  have hdata : leAt (leBytes 4 data.toNat) 0 4 = data.toNat := (leAt_leBytes _ _).trans (Nat.mod_eq_of_lt data.isLt)
  refine .run (x := execModemMsiWrite rp addr data s) rfl rfl hs ?_
  rw [modemRequest_msi rp hdl hctn (by rw [length_leBytes]; exact hwin) hkind (length_leBytes _ _), hdata, Dev.modemMsi]
  split
  · rename_i h
    exact ⟨.refl _, by rw [setBit, if_pos h]⟩
  · refine ⟨kept_brgEvent ((Kept.refl _).wr _ (by simp)) (by simp), ?_⟩
    rw [Dev.rd_brgEvent, Dev.rd_setFldBit _ _ _ (by rw [rpMsiPend_width]; omega)]

/-! ### Requests to the host -/

omit hs hdl hctn in
theorem inbForward_issued {d g : Dev} {n : Nat} {q : Inb} (hinb : (d.rp n).inb = []) (hg : d.inbIssue n q = some g) : d.inbForward n q = g := by
  simp [Dev.inbForward, hinb, hg]

omit hs in
/-- A request in a HOST window with none before it (R424). -/
theorem modemRequest_host {write : Bool} {addr tag len n i f a : Nat} {bytes : List Byte} (hn : n = if write then bytes.length else len)
    (hwin : s.dev.inbWindow rp addr n = some i) (hkind : s.dev.rd (.brg (.INB_CTRL_KIND rp i)) = 0)
    (hf : f = s.dev.rd (.brg (.INB_CTRL_FUNC rp i))) (hinb : (s.dev.rp rp).inb = [])
    (ha : a = s.dev.rd (.brg (.INB_HOST_ADDR_ADDR rp i)) * 4096 + (addr - s.dev.rd (.brg (.INB_BASE_ADDR rp i)) * 4096)) {g : Dev}
    (hg : s.dev.inbIssue rp { f := f, write := write, addr := a, tag := tag, len := n, bytes := clean bytes } = some g) :
    s.dev.modemRequest rp write false addr tag len bytes = g := by
  subst hn hf ha
  rw [Dev.modemRequest, if_neg (by simp [hdl])]
  dsimp only
  rw [if_neg Bool.false_ne_true, if_neg (fun h => by simp [hctn h.1] at h), hwin]
  dsimp only
  rw [if_neg (by simp [Dev.is, hkind]), marked_false]
  exact inbForward_issued hinb hg

theorem effect_modemInboundRequest_write (addr : BitVec 64) (tag len : Nat) (bytes : List Byte) (i f a : Nat)
    (hwin : s.dev.inbWindow rp addr.toNat bytes.length = some i) (hkind : s.dev.rd (.brg (.INB_CTRL_KIND rp i)) = 0)
    (hf : f = s.dev.rd (.brg (.INB_CTRL_FUNC rp i))) (hinb : (s.dev.rp rp).inb = [])
    (ha : a = s.dev.rd (.brg (.INB_HOST_ADDR_ADDR rp i)) * 4096 + (addr.toNat - s.dev.rd (.brg (.INB_BASE_ADDR rp i)) * 4096))
    (hmay : s.dev.mayIssue f = true) (hvat : s.dev.vatOk f (linesIn a bytes.length) = true) :
    Effect (.modemInboundRequest rp true false addr tag len bytes) s [] [.out, .hep] (fun t => t.out = (s.dev.hostWrite f a (clean bytes)).out) := by
  have hissue : s.dev.inbIssue rp { f := f, write := true, addr := a, tag := tag, len := bytes.length, bytes := clean bytes } =
      some (s.dev.hostWrite f a (clean bytes)) := by
    rw [Dev.inbIssue, if_neg (by simp [hmay]), if_pos rfl, if_pos rfl]
    exact if_pos hvat
  refine .run (x := execModemInboundRequest rp true false addr tag len bytes s) rfl rfl hs ?_
  rw [modemRequest_host rp hdl hctn (n := bytes.length) (by simp) hwin hkind hf hinb ha hissue]
  exact ⟨Dev.hostWrite_clean_kept _ _ _ _, rfl⟩

theorem effect_modemInboundRequest_read (addr : BitVec 64) (tag len : Nat) (bytes : List Byte) (i f a htag : Nat)
    (hwin : s.dev.inbWindow rp addr.toNat len = some i) (hkind : s.dev.rd (.brg (.INB_CTRL_KIND rp i)) = 0)
    (hf : f = s.dev.rd (.brg (.INB_CTRL_FUNC rp i))) (hinb : (s.dev.rp rp).inb = [])
    (ha : a = s.dev.rd (.brg (.INB_HOST_ADDR_ADDR rp i)) * 4096 + (addr.toNat - s.dev.rd (.brg (.INB_BASE_ADDR rp i)) * 4096))
    (h0 : 0 < len) (hmrrs : len ≤ s.dev.mrrs f - a % s.dev.mrrs f) (hread : CanRead s.dev f a len htag) :
    Effect (.modemInboundRequest rp false false addr tag len bytes) s [] readParts (fun t =>
      t.out = s.dev.out ++ ([.memRead f a len htag] : List Outbound)) := by
  obtain ⟨g, hg, hk, hout, -⟩ := hostReadAs_effect len (.modem rp tag 0) hread
  have hissue : s.dev.inbIssue rp { f := f, write := false, addr := a, tag := tag, len := len, bytes := clean bytes } = some g := by
    rw [Dev.inbIssue, if_neg (by simp [hread.1]), if_neg Bool.false_ne_true, Dev.hostRead]
    rw [splitReads_one h0 (Nat.le_refl _) hmrrs, Dev.hostReads, Dev.hostRead1, hg]
    rfl
  refine .run (x := execModemInboundRequest rp false false addr tag len bytes s) rfl rfl hs ?_
  rw [modemRequest_host rp hdl hctn (n := len) (by simp) hwin hkind hf hinb ha hissue]
  exact ⟨hk, hout⟩

end

end

/-- Settles O38, clause by clause: what a port that is UP writes, and where a modem's request goes. -/
theorem modemTraffic : Obligations.ModemTraffic := by
  unfold Obligations.ModemTraffic
  intro s rp hs
  refine ⟨effect_bridgeFrameWrite hs rp, fun hdl hctn => ⟨fun write addr tag len n bytes hn => ⟨fun hwin => ?_, fun i f a hwin hkind hf hinb ha => ?_⟩,
    effect_modemMsiWrite hs rp hdl hctn⟩, effect_modemIntxMessage hs rp⟩
  · subst hn
    exact effect_modemInboundRequest_outside hs rp hdl hctn write addr tag len bytes hwin
  · refine ⟨fun hw hmay hvat => ?_, fun htag hw h0 hmrrs hread => ?_⟩
    · subst hw
      rw [if_pos rfl] at hn
      subst hn
      exact effect_modemInboundRequest_write hs rp hdl hctn addr tag len bytes i f a hwin hkind hf hinb ha hmay hvat
    · subst hw
      rw [if_neg Bool.false_ne_true] at hn
      subst hn
      exact effect_modemInboundRequest_read hs rp hdl hctn addr tag _ bytes i f a htag hwin hkind hf hinb ha h0 hmrrs hread

end Sys2Proof.Machine
end

section
-- The theorems are elaborated in order, which keeps the memory that a check of the whole text takes within its limit.
set_option Elab.async false

/-! SUPPORT.  Errors of the host link, logged, and the containment of the host port (R380 to R386, R398, R404 to R406). -/

namespace Sys2Proof.Machine

open Sys2Proof.Safety Sys2Proof.Claims

@[simp] theorem aerUeSts_width (g : Nat) : (Fld.cs g .AER_UE_STS).width = 32 := rfl
@[simp] theorem aerCeSts_width (g : Nat) : (Fld.cs g .AER_CE_STS).width = 32 := rfl
@[simp] theorem dsCed_width (g : Nat) : (Fld.cs g .DS_CED).width = 1 := rfl
@[simp] theorem ctnState_width : (Fld.hep .CTN_STATUS_STATE).width = 2 := rfl
@[simp] theorem ctnCause_width : (Fld.hep .CTN_STATUS_CAUSE).width = 3 := rfl
@[simp] theorem ctnSeq_width : (Fld.hep .CTN_STATUS_SEQ).width = 16 := rfl
@[simp] theorem ctnTick_width : (Fld.hep .CTN_TICK_TICK).width = 32 := rfl
@[simp] theorem ctnTriggers_width : (Fld.hep .CTN_LOG_TRIGGERS).width = 7 := rfl
@[simp] theorem ctnEntered_width : (Fld.hep .CTN_EVT_ENTERED).width = 1 := rfl
@[simp] theorem ctnReleased_width : (Fld.hep .CTN_EVT_RELEASED).width = 1 := rfl
@[simp] theorem pf1Ctn_width : (Fld.hep .PF1_IPEND_CTN).width = 1 := rfl
@[simp] theorem ctnLast_width : (Fld.hep .CTN_RESULT_LAST).width = 3 := rfl

/-! ### Bits of a status -/

theorem testBit_setBit_self (n i : Nat) : (setBit n i).testBit i = true := by
  rw [← bitAt_eq_testBit]
  exact bitAt_setBit n i

/-! ### Uncorrectable and correctable errors -/

/-- No bit of an AER status that was set has gone. -/
def UeMore (d e : Dev) : Prop := ∀ g b, (d.rd (.cs g .AER_UE_STS)).testBit b = true → (e.rd (.cs g .AER_UE_STS)).testBit b = true

theorem ueMore_trans {d e g : Dev} (h : UeMore d e) (k : UeMore e g) : UeMore d g := fun o b hb => k o b (h o b hb)

theorem ueMore_of_kept {F : List Fld} {P : List Part} {d e : Dev} (h : Kept F P d e) (hF : ∀ g, Fld.cs g .AER_UE_STS ∉ F) : UeMore d e :=
  fun g b hb => by rwa [h.rd (hF g) rfl]

/-- The fields of function `g` that an error it logs may write (R380 to R382). -/
def ueRegs (g : Nat) : List Fld := [.cs g .AER_UE_STS, .cs g .AER_FEP, .cs g .AER_HDRLOG0, .cs g .AER_HDRLOG1, .cs g .AER_HDRLOG2,
    .cs g .AER_HDRLOG3, .cs g .AER_CE_STS, .cs g .DS_URD, .cs g .DS_FED, .cs g .DS_NFED, .cs g .DS_CED, .cs g .STS_DPE, .cs g .STS_SSE]

theorem ueRegs_subset {g : Nat} (hg : g < 2) : ueRegs g ⊆ errRegs := by
  unfold errRegs
  refine List.Subset.trans ?_ (List.subset_append_left _ _)
  obtain rfl | rfl : g = 0 ∨ g = 1 := by omega
  · exact fun x hx => List.mem_flatMap.mpr ⟨0, by simp, hx⟩
  · exact fun x hx => List.mem_flatMap.mpr ⟨1, by simp, hx⟩

theorem ctnRegs_subset : ctnRegs ⊆ errRegs := List.subset_append_right _ _

theorem headerLog_kept (d : Dev) (g bit : Nat) :
    Kept [.cs g .AER_FEP, .cs g .AER_HDRLOG0, .cs g .AER_HDRLOG1, .cs g .AER_HDRLOG2, .cs g .AER_HDRLOG3] [] d (d.headerLog g bit) := by
  unfold Dev.headerLog
  exact .ite _ (fun _ => .refl d) fun _ =>
    (kept_freeCount (kept_freeCount (kept_freeCount (kept_freeCount (Kept.refl d) _) _) _) _).wrs _ (by simp)

/-- The status bit of an error set in function `g`, its header logged (R380, R382). -/
def Dev.ueSet (d : Dev) (g bit : Nat) : Dev := (d.headerLog g bit).setFldBit (.cs g .AER_UE_STS) bit

theorem ueLog_rest (d : Dev) (g bit : Nat) (fatal advisory : Bool) : Kept (ueRegs g).tail [] (d.ueSet g bit) (d.ueLog g bit fatal advisory) := by
  have hurd : ∀ {e : Dev}, Kept (ueRegs g).tail [] (d.ueSet g bit) e → Kept (ueRegs g).tail [] (d.ueSet g bit) (if bit = 20 then e.wr (.cs g .DS_URD) 1 else e) :=
    fun h => .ite _ (fun _ => h.wr _ (by simp [ueRegs])) fun _ => h
  have hdpe : ∀ {e : Dev}, Kept (ueRegs g).tail [] (d.ueSet g bit) e → Kept (ueRegs g).tail [] (d.ueSet g bit) (if bit = 12 then e.wr (.cs g .STS_DPE) 1 else e) :=
    fun h => .ite _ (fun _ => h.wr _ (by simp [ueRegs])) fun _ => h
  have h := hdpe (hurd (Kept.refl (d.ueSet g bit)))
  exact .ite _ (fun _ => h.wr _ (by simp [ueRegs])) fun _ =>
    .ite _ (fun _ => (h.wr _ (by simp [ueRegs])).wr _ (by simp [ueRegs])) fun _ => h.wr _ (by simp [ueRegs])

theorem ueLog_effect (d : Dev) (g : Nat) {bit : Nat} (hbit : bit < 32) (fatal advisory : Bool) :
    Kept (ueRegs g) [] d (d.ueLog g bit fatal advisory) ∧ UeMore d (d.ueLog g bit fatal advisory) ∧
      ((d.ueLog g bit fatal advisory).rd (.cs g .AER_UE_STS)).testBit bit = true := by
  have hhead := headerLog_kept d g bit
  have hrest := ueLog_rest d g bit fatal advisory
  have hset : Kept (ueRegs g) [] d (d.ueSet g bit) := (hhead.mono (by simp [ueRegs]) (List.Subset.refl _)).wr _ (by simp [ueRegs])
  have hk : Kept (ueRegs g) [] d (d.ueLog g bit fatal advisory) := hset.trans (hrest.mono (List.tail_subset _) (List.Subset.refl _))
  have hsts : (d.ueLog g bit fatal advisory).rd (.cs g .AER_UE_STS) = setBit (d.rd (.cs g .AER_UE_STS)) bit := by
    rw [hrest.rd (by simp [ueRegs]) rfl, Dev.ueSet, Dev.rd_setFldBit _ _ _ (by rw [aerUeSts_width]; exact hbit), hhead.rd (by simp) rfl]
  refine ⟨hk, fun o b hb => ?_, ?_⟩
  · by_cases ho : o = g
    · subst ho
      rw [hsts]
      by_cases hbb : bit = b
      · subst hbb
        exact testBit_setBit_self _ _
      · rwa [testBit_setBit_ne _ hbb]
    · rwa [hk.rd (by simp [ueRegs, ho]) rfl]
  · rw [hsts]
    exact testBit_setBit_self _ _

/-- An error of some functions is logged by each (R382). -/
theorem ueLogs_effect {l : List Nat} {bit : Nat} (hbit : bit < 32) (hl : ∀ g ∈ l, g < 2) (fatal : Nat → Bool) (advisory : Bool) (d : Dev) :
    Kept errRegs [] d (l.foldl (fun d g => d.ueLog g bit (fatal g) advisory) d) ∧
    UeMore d (l.foldl (fun d g => d.ueLog g bit (fatal g) advisory) d) ∧
    ∀ g ∈ l, ((l.foldl (fun d g => d.ueLog g bit (fatal g) advisory) d).rd (.cs g .AER_UE_STS)).testBit bit = true := by
  induction l generalizing d with
  | nil => exact ⟨.refl d, fun _ _ hb => hb, by simp⟩
  | cons g l ih =>
    obtain ⟨hk, hmore, hset⟩ := ueLog_effect d g hbit (fatal g) advisory
    obtain ⟨hk2, hmore2, hset2⟩ := ih (fun x hx => hl x (List.mem_cons_of_mem g hx)) (d.ueLog g bit (fatal g) advisory)
    refine ⟨(hk.mono (ueRegs_subset (hl g List.mem_cons_self)) (List.Subset.refl _)).trans hk2, ueMore_trans hmore hmore2, fun x hx => ?_⟩
    obtain rfl | hx := List.mem_cons.mp hx
    · exact hmore2 _ _ hset
    · exact hset2 x hx

theorem errMessage_kept (d : Dev) (gs : List Nat) (kind : Nat) (hg : ∀ g ∈ gs, g < 2) :
    Kept [.cs 0 .STS_SSE, .cs 1 .STS_SSE] [.out, .hep] d (d.errMessage gs kind) := by
  unfold Dev.errMessage
  refine .ite _ (fun _ => .refl d) fun _ => ?_
  split
  · exact .refl d
  · rename_i g hfind
    have hlt := hg g (List.mem_of_find?_eq_some hfind)
    have hmem : Fld.cs g .STS_SSE ∈ ([.cs 0 .STS_SSE, .cs 1 .STS_SSE] : List Fld) := by
      obtain rfl | rfl : g = 0 ∨ g = 1 := by omega
      · simp
      · simp
    have hemit : Kept [.cs 0 .STS_SSE, .cs 1 .STS_SSE] [.out, .hep] d (d.emit (.errMsg kind g)) := (Kept.refl d).emit _ (by simp) (by simp)
    exact .ite _ (fun _ => hemit.wr _ hmem) fun _ => hemit

/-- An uncorrectable error: what it writes, and the bit it sets (R380 to R382, R398). -/
theorem ueError_effect {gs : List Nat} {bit : Nat} (hbit : bit < 32) (hg : ∀ g ∈ gs, g < 2) (advisory : Bool) (more : List Nat) (d : Dev) :
    Kept errRegs errParts d (d.ueError gs bit advisory more) ∧ UeMore d (d.ueError gs bit advisory more) ∧
    ∀ g ∈ gs, ((d.ueError gs bit advisory more).rd (.cs g .AER_UE_STS)).testBit bit = true := by
  have hafter : ∀ {e t : Dev}, Kept errRegs errParts e t → (∀ g, t.rd (.cs g .AER_UE_STS) = e.rd (.cs g .AER_UE_STS)) →
      Kept errRegs errParts d e ∧ UeMore d e ∧ (∀ g ∈ gs, (e.rd (.cs g .AER_UE_STS)).testBit bit = true) →
      Kept errRegs errParts d t ∧ UeMore d t ∧ ∀ g ∈ gs, (t.rd (.cs g .AER_UE_STS)).testBit bit = true := fun hk hr h =>
    ⟨h.1.trans hk, fun g b hb => by rw [hr]; exact h.2.1 g b hb, fun g hm => by rw [hr]; exact h.2.2 g hm⟩
  have hmsg : ∀ (e : Dev) (l : List Nat) (k : Nat), (∀ g ∈ l, g < 2) → Kept errRegs errParts e (e.errMessage l k) ∧
      ∀ g, (e.errMessage l k).rd (.cs g .AER_UE_STS) = e.rd (.cs g .AER_UE_STS) := fun e l k hl =>
    ⟨(errMessage_kept e l k hl).mono (by simp [errRegs]) (by simp [errParts]), fun g => (errMessage_kept e l k hl).rd (by simp) rfl⟩
  unfold Dev.ueError
  dsimp only
  obtain ⟨hk, hmore, hset⟩ := ueLogs_effect hbit hg (fun g => bitAt (d.rd (.cs g .AER_UE_SEV)) bit) advisory d
  have hlogs := And.intro (hk.mono (P' := errParts) (List.Subset.refl _) (by simp)) (And.intro hmore hset)
  refine hafter ((present_kept _ _).mono ctnRegs_subset (by simp [errParts])) (fun g => (present_kept _ _).rd (by simp [ctnRegs]) rfl) ?_
  split
  · rename_i g hfind
    have hlt := hg g (List.mem_of_find?_eq_some hfind)
    obtain ⟨hkm, hrm⟩ := hmsg (gs.foldl (fun d' g => d'.ueLog g bit (bitAt (d.rd (.cs g .AER_UE_SEV)) bit) advisory) d) [g] _ (by simpa using hlt)
    exact hafter hkm hrm hlogs
  · exact hlogs

/-- What leaves follows what had left, and the tags in use are the same. -/
def Sends (d e : Dev) : Prop := (∃ l, e.out = d.out ++ l) ∧ e.hep.tags = d.hep.tags

theorem sends_of_kept {F : List Fld} {P : List Part} {d e : Dev} (h : Kept F P d e) (ho : Part.out ∉ P) (hh : Part.hep ∉ P) : Sends d e := by
  have hout : e.out = d.out := h.same (x := .out) ho
  have hhep : e.hep = d.hep := h.same (x := .hep) hh
  exact ⟨⟨[], by rw [hout, List.append_nil]⟩, by rw [hhep]⟩

theorem sends_trans {d e g : Dev} (h : Sends d e) (k : Sends e g) : Sends d g := by
  obtain ⟨⟨l, hl⟩, ht⟩ := h
  obtain ⟨⟨m, hm⟩, hu⟩ := k
  exact ⟨⟨l ++ m, by rw [hm, hl, List.append_assoc]⟩, hu.trans ht⟩

/-- An error may send its message (R382). -/
theorem ueError_sends (d : Dev) (gs : List Nat) (bit : Nat) (advisory : Bool) (more : List Nat) : Sends d (d.ueError gs bit advisory more) := by
  have hlog : ∀ (l : List Nat) (fatal : Nat → Bool) (e : Dev), Sends e (l.foldl (fun d g => d.ueLog g bit (fatal g) advisory) e) := fun l fatal e => by
    induction l generalizing e with
    | nil => exact ⟨⟨[], by simp⟩, rfl⟩
    | cons g l ih =>
      have hset : Kept (ueRegs g) [] e (e.ueSet g bit) :=
        ((headerLog_kept e g bit).mono (by simp [ueRegs]) (List.Subset.refl _)).wr _ (by simp [ueRegs])
      have hall := hset.trans ((ueLog_rest e g bit (fatal g) advisory).mono (List.tail_subset _) (List.Subset.refl _))
      exact sends_trans (sends_of_kept hall (by simp) (by simp)) (ih _)
  have hmsg : ∀ (e : Dev) (g k : Nat), Sends e (e.errMessage [g] k) := fun e g k => by
    unfold Dev.errMessage
    split
    · exact ⟨⟨[], by simp⟩, rfl⟩
    · split
      · exact ⟨⟨[], by simp⟩, rfl⟩
      · dsimp only
        split
        · exact ⟨⟨_, rfl⟩, rfl⟩
        · exact ⟨⟨_, rfl⟩, rfl⟩
  unfold Dev.ueError
  dsimp only
  refine sends_trans ?_ (sends_of_kept (present_kept _ _) (by simp) (by simp))
  split
  · exact sends_trans (hlog _ _ _) (hmsg _ _ _)
  · exact hlog _ _ _

theorem aerOwner_lt (f : Nat) : aerOwner f < 2 := by
  unfold aerOwner
  split <;> decide

theorem logsFor_lt (d : Dev) (f : Nat) : ∀ g ∈ d.logsFor f, g < 2 := by
  unfold Dev.logsFor
  split
  · simpa using aerOwner_lt f
  · simp

/-- A correctable error (R380, R382). -/
theorem ceError_effect (d : Dev) {bit : Nat} (hbit : bit < 32) (g : Fin 2) : Kept errRegs errParts d (d.ceError bit) ∧
    (d.ceError bit).rd (.cs g .DS_CED) = 1 ∧ ((d.ceError bit).rd (.cs g .AER_CE_STS)).testBit bit = true := by
  unfold Dev.ceError
  dsimp only [List.foldl_cons, List.foldl_nil]
  set e := ((((d.setFldBit (.cs 0 .AER_CE_STS) bit).wr (.cs 0 .DS_CED) 1).setFldBit (.cs 1 .AER_CE_STS) bit).wr (.cs 1 .DS_CED) 1) with he
  have hk : Kept errRegs errParts d e :=
    ((((Kept.refl d).wr _ (by simp [errRegs])).wr _ (by simp [errRegs])).wr _ (by simp [errRegs])).wr _ (by simp [errRegs])
  have hce : ∀ (x : Dev) (o : Nat), (x.setFldBit (.cs o .AER_CE_STS) bit).rd (.cs o .AER_CE_STS) = setBit (x.rd (.cs o .AER_CE_STS)) bit :=
    fun x o => x.rd_setFldBit _ _ (by rw [aerCeSts_width]; exact hbit)
  have hbits : e.rd (.cs g .DS_CED) = 1 ∧ (e.rd (.cs g .AER_CE_STS)).testBit bit = true := by
    fin_cases g
    · refine ⟨by simp [he, Dev.setFldBit], ?_⟩
      have h0 : e.rd (.cs 0 .AER_CE_STS) = (d.setFldBit (.cs 0 .AER_CE_STS) bit).rd (.cs 0 .AER_CE_STS) := by simp [he, Dev.setFldBit]
      exact (congrArg (fun n : Nat => n.testBit bit) (h0.trans (hce _ _))).trans (testBit_setBit_self _ _)
    · refine ⟨by simp [he], ?_⟩
      have h1 : e.rd (.cs 1 .AER_CE_STS) =
          (((d.setFldBit (.cs 0 .AER_CE_STS) bit).wr (.cs 0 .DS_CED) 1).setFldBit (.cs 1 .AER_CE_STS) bit).rd (.cs 1 .AER_CE_STS) := by
        simp [he, Dev.setFldBit]
      exact (congrArg (fun n : Nat => n.testBit bit) (h1.trans (hce _ _))).trans (testBit_setBit_self _ _)
  have hmsg := errMessage_kept e ([0, 1].filter (fun g => !bitAt (e.rd (.cs g .AER_CE_MASK)) bit)) 0 fun x hx => by
    have := List.mem_of_mem_filter hx
    simp at this
    omega
  refine ⟨hk.trans (hmsg.mono (by simp [errRegs]) (by simp [errParts])), (hmsg.rd (by simp) rfl).trans hbits.1, ?_⟩
  rw [hmsg.rd (by simp) rfl]
  exact hbits.2

/-! ### The end of a channel's transfer -/

/-- The tags of function requests that a channel is the client of (R323). -/
def chTag (x : Nat) (t : Tag) : Bool := match t.client with | .chan y _ => y = x | .flush y => y = x | _ => false

theorem vatFree_hep (d : Dev) (ls : List Nat) : (d.vatFree ls).hep = d.hep := rfl

theorem writeOff_tags (d : Dev) (p : Tag → Bool) (st : TagState) :
    (d.writeOff p st).hep.tags = updWhere d.hep.tags (fun t => t.st = .out && p t) (fun t => { t with st := st, lines := [] }) := by
  unfold Dev.writeOff
  dsimp only
  split
  · have hhep : ∀ (e : Dev), (e.present [5]).hep = e.hep := fun e => (present_kept e [5]).same (x := .hep) (by simp)
    rw [hhep, vatFree_hep]
  · rfl

/-- The transfer of a linked-list channel ends BAD: its requests at the host and at the modems are written off (R323). -/
theorem chBad_ll {d : Dev} {c : Fin 96} {v : Xfer} (hx : (d.ll c).x = some v) (hbad : v.bad = none) (code addr : Nat) :
    d.chBad c code addr = (((d.hostWrittenOff c v).rpWrittenOff c 0).rpWrittenOff c 1).modXfer c
      (fun v => { v with bad := some (code, addr), waiting := [], bursts := [] }) := by
  have hxfer : d.xfer c = some v := (xfer_ll d c).trans hx
  have hafter : ∀ e : Dev, e.chAfter c = e := fun e => if_neg (by rw [not_isTch]; simp)
  rw [Dev.chBad, hxfer]
  dsimp only
  rw [if_neg (by simp [hbad]), hafter]
  rfl

theorem writeOff_ll (d : Dev) (p : Tag → Bool) (st : TagState) : (d.writeOff p st).dma.ll = d.dma.ll := by
  have hpresent : ∀ (e : Dev) (l : List Nat), (e.present l).dma = e.dma := fun e l => (present_kept e l).same (x := .dma) (by simp)
  unfold Dev.writeOff
  dsimp only
  split
  · rw [hpresent]
    rfl
  · rfl

theorem hostWrittenOff_ll (d : Dev) (x : Nat) (v : Xfer) : (d.hostWrittenOff x v).dma.ll = d.dma.ll := writeOff_ll _ _ _

theorem hostWrittenOff_tags (d : Dev) (x : Nat) (v : Xfer) : (d.hostWrittenOff x v).hep.tags =
    updWhere d.hep.tags (fun t => t.st = .out && chTag x t) (fun t => { t with st := .writtenOff, lines := [] }) := writeOff_tags _ _ _

theorem rpWrittenOff_moved (d : Dev) (x n : Nat) : MovedIn dmaField (.rps :: dmaParts) d (d.rpWrittenOff x n) :=
  ((vatFree_moved d _).mono (fun _ h => h) (List.subset_cons_self _ _)).trans
    (movedIn_of_kept (F := []) ((Kept.refl _).modRp n _ (by simp)) (by simp))

theorem rpWrittenOff_inb (d : Dev) (x n m : Nat) : ((d.rpWrittenOff x n).rp m).inb = (d.rp m).inb := by
  rw [Dev.rpWrittenOff, Dev.rp_modRp]
  split
  · rename_i h
    rw [h.1]
    rfl
  · rfl

theorem chBad_ll_effect {d : Dev} {c : Fin 96} {v : Xfer} (hx : (d.ll c).x = some v) (hbad : v.bad = none) (code addr : Nat) :
    MovedIn dmaField (.rps :: dmaParts) d (d.chBad c code addr) ∧ (((d.chBad c code addr).ll c).x).map (·.bad) = some (some (code, addr)) ∧
    (d.chBad c code addr).hep.tags = updWhere d.hep.tags (fun t => t.st = .out && chTag c t) (fun t => { t with st := .writtenOff, lines := [] }) ∧
    ∀ n, ((d.chBad c code addr).rp n).inb = (d.rp n).inb := by
  have hll : (((d.hostWrittenOff c v).rpWrittenOff c 0).rpWrittenOff c 1).ll c = d.ll c :=
    congrArg (fun l : List Ll => l.getD c {}) (hostWrittenOff_ll d c v)
  have hmoved : MovedIn dmaField (.rps :: dmaParts) d (((d.hostWrittenOff c v).rpWrittenOff c 0).rpWrittenOff c 1) :=
    ((((writeOff_moved d _ _).trans (vatFree_moved _ _)).mono (fun _ h => h) (List.subset_cons_self _ _)).trans (rpWrittenOff_moved _ c 0)).trans
      (rpWrittenOff_moved _ c 1)
  have htags : (((d.hostWrittenOff c v).rpWrittenOff c 0).rpWrittenOff c 1).hep.tags = (d.hostWrittenOff c v).hep.tags := rfl
  have hrps : (d.hostWrittenOff c v).rps = d.rps := ((writeOff_moved d _ _).trans (vatFree_moved _ _)).2 .rps (by simp [dmaParts])
  have hinb : ∀ n, ((((d.hostWrittenOff c v).rpWrittenOff c 0).rpWrittenOff c 1).rp n).inb = (d.rp n).inb := fun n => by
    rw [rpWrittenOff_inb, rpWrittenOff_inb, Dev.rp, Dev.rp, hrps]
  rw [chBad_ll hx hbad, modXfer_ll]
  rw [hostWrittenOff_tags] at htags
  generalize ((d.hostWrittenOff c v).rpWrittenOff c 0).rpWrittenOff c 1 = e at hll hmoved htags hinb
  refine ⟨hmoved.trans (movedIn_of_kept (F := []) ((Kept.refl _).modLl _ _ (by simp [dmaParts])) (by simp)), ?_, htags, hinb⟩
  simp [hll, hx]

/-! ### COMPLETION_TIMEOUT -/

/-- A request that has timed out, logged and its tag quarantined (R392). -/
def Dev.tagExpired (d : Dev) (t : Tag) : Dev :=
  ((d.ueError [aerOwner t.f] 14 true [4]).errCnt 6).writeOff (fun g => g.tag = t.tag && g.f = t.f) .timed

theorem tagExpired_effect (d : Dev) (g : Tag) (htags : d.hep.tags = [g]) (hst : g.st = .out) :
    MovedIn (fun f => decide (f ∈ Fld.hep (.ERR_CNT_COUNT 6) :: errRegs) || dmaField f) (errParts ++ dmaParts) d (d.tagExpired g) ∧
    Counts d (d.tagExpired g) (.hep (.ERR_CNT_COUNT 6)) ∧ ((d.tagExpired g).rd (.cs (aerOwner g.f) .AER_UE_STS)).testBit 14 = true ∧
    (d.tagExpired g).hep.tags = [{ g with st := .timed, lines := [] }] ∧ (d.tagExpired g).dma.ll = d.dma.ll := by
  obtain ⟨hk, -, hset⟩ := ueError_effect (gs := [aerOwner g.f]) (bit := 14) (by decide) (by simpa using aerOwner_lt g.f) true [4] d
  obtain ⟨-, ht⟩ := ueError_sends d [aerOwner g.f] 14 true [4]
  have hdma : (d.ueError [aerOwner g.f] 14 true [4]).dma = d.dma := hk.same (x := .dma) (by simp [errParts])
  unfold Dev.tagExpired
  generalize d.ueError [aerOwner g.f] 14 true [4] = e at hk hset ht hdma
  have hw := writeOff_moved (e.errCnt 6) (fun x => x.tag = g.tag && x.f = g.f) .timed
  have hwt := writeOff_tags (e.errCnt 6) (fun x => x.tag = g.tag && x.f = g.f) .timed
  have hwl : ((e.errCnt 6).writeOff (fun x => x.tag = g.tag && x.f = g.f) .timed).dma.ll = e.dma.ll := writeOff_ll _ _ _
  generalize (e.errCnt 6).writeOff (fun x => x.tag = g.tag && x.f = g.f) .timed = y at hw hwt hwl
  refine ⟨?_, ?_, ?_, ?_, ?_⟩
  · have hcnt : Kept (Fld.hep (.ERR_CNT_COUNT 6) :: errRegs) (errParts ++ dmaParts) d (e.errCnt 6) :=
      (hk.mono (by simp) (List.subset_append_left _ _)).inc (by simp)
    exact (movedIn_of_kept hcnt fun f hf => by simp [hf]).trans (hw.mono (fun f hf => by simp [hf]) (List.subset_append_right _ _))
  · rw [Counts, hw.1 _ (by simp [dmaField, ctnRegs]) rfl, ← hk.rd (f := .hep (.ERR_CNT_COUNT 6)) (by simp [errRegs]) rfl]
    simp [Dev.errCnt, Dev.rd_inc]
  · rw [hw.1 _ (by simp [dmaField, ctnRegs]) rfl]
    have hrd : (e.errCnt 6).rd (.cs (aerOwner g.f) .AER_UE_STS) = e.rd (.cs (aerOwner g.f) .AER_UE_STS) := by simp [Dev.errCnt, Dev.rd_inc]
    rw [hrd]
    exact hset _ (by simp)
  · rw [hwt]
    have : (e.errCnt 6).hep.tags = [g] := ht.trans htags
    rw [this]
    simp [updWhere, hst]
  · rw [hwl, hdma]

theorem tagTimers_one {d : Dev} {g : Tag} (htags : d.hep.tags = [g]) (hst : g.st = .out) (hexp : g.expiry ≤ d.now) : d.tagTimers = d.timeoutTag g := by
  have hfilter : d.hep.tags.filter (fun t => t.st = .out && t.expiry ≤ d.now) = [g] := by simp [htags, hst, hexp]
  rw [Dev.tagTimers, hfilter, List.foldl_cons, List.foldl_nil, if_pos (by simp [htags, hst])]

theorem drainInb_idle {d : Dev} (h : ∀ rp : Fin 2, (d.rp rp).inb = []) : d.drainInb = d := by
  have h0 : (d.rp 0).inb = [] := h 0
  have h1 : (d.rp 1).inb = [] := h 1
  rw [Dev.drainInb, List.foldl_cons, List.foldl_cons, List.foldl_nil]
  dsimp only
  rw [if_pos h0, if_pos h1]

section
variable {s : State} (hs : s.held = false)
include hs

/-! ### Errors of the host link -/

theorem effect_hostLinkError_correctable (kind : Fin 11) (g : Fin 2) (hk : kind < 6) :
    Effect (.hostLinkError kind) s errRegs errParts (fun t => t.rd (.cs g .DS_CED) = 1 ∧
      (t.rd (.cs g .AER_CE_STS)).testBit ([0, 6, 7, 8, 12, 14].getD kind 0) = true) := by
  refine .run (x := execHostLinkError kind s) rfl rfl hs ?_
  have h : ∀ {bit : Nat}, bit < 32 → Kept errRegs errParts s.dev (s.dev.ceError bit) ∧ (s.dev.ceError bit).rd (.cs g .DS_CED) = 1 ∧
      ((s.dev.ceError bit).rd (.cs g .AER_CE_STS)).testBit bit = true := fun hb => ceError_effect s.dev hb g
  match kind, hk with
  | 0, _ | 1, _ | 2, _ | 3, _ | 4, _ | 5, _ => exact h (by decide)

theorem effect_hostLinkError_uncorrectable (kind : Fin 11) (g : Fin 2) (hk : 6 ≤ kind) :
    Effect (.hostLinkError kind) s errRegs errParts (fun t =>
      (t.rd (.cs g .AER_UE_STS)).testBit ([4, 13, 17, 18, 22].getD (kind - 6) 0) = true) := by
  refine .run (x := execHostLinkError kind s) rfl rfl hs ?_
  have h : ∀ {bit : Nat}, bit < 32 → Kept errRegs errParts s.dev (s.dev.ueError [0, 1] bit false []) ∧
      ((s.dev.ueError [0, 1] bit false []).rd (.cs g .AER_UE_STS)).testBit bit = true := fun hb => by
    obtain ⟨hk, -, hset⟩ := ueError_effect (gs := [0, 1]) hb (by simp) false [] s.dev
    exact ⟨hk, hset g (by fin_cases g <;> simp)⟩
  match kind, hk with
  | 6, _ | 7, _ | 8, _ | 9, _ | 10, _ => exact h (by decide)

omit hs in
theorem fnExists_counted {d e : Dev} (he : Counted d e) (f : Nat) : e.fnExists f = d.fnExists f := by
  unfold Dev.fnExists Dev.is
  rw [he.rd (.cs 0 .SRIOV_VFE) rfl, he.rd (.cs 0 .SRIOV_NUMVFS) rfl]

omit hs in
theorem memClosed_counted {d e : Dev} (he : Counted d e) (f : Nat) : e.memClosed f = d.memClosed f := by
  unfold Dev.memClosed Dev.is Dev.inD0
  rw [fnExists_counted he, he.rd (.cs 0 .SRIOV_VFMSE) rfl, he.rd (.cs f .CMD_MSE) rfl, he.rd (.cs f .PM_STATE) rfl,
    he.rd (.hep (.FN_STATUS_FLR_BUSY f)) rfl]

omit hs in
/-- A counted TLP of a function: what logging its error writes (R382, R385). -/
theorem ueFor_effect {d e : Dev} (he : Counted d e) (f : Nat) {bit : Nat} (hbit : bit < 32) (advisory : Bool) (more : List Nat) :
    Kept errRegs errParts e (e.ueError (e.logsFor f) bit advisory more) ∧ UeLogged d (e.ueError (e.logsFor f) bit advisory more) f bit := by
  obtain ⟨hk, -, hset⟩ := ueError_effect hbit (logsFor_lt e f) advisory more e
  refine ⟨hk, fun g hg => hset g ?_⟩
  rwa [Dev.logsFor, fnExists_counted he]

omit hs in
/-- The answer to a request with an error is the last that leaves (R385). -/
theorem ueReplied {d e : Dev} (he : Counted d e) (f : Nat) {bit : Nat} (hbit : bit < 32) :
    Kept errRegs errParts e ((e.ueError (e.logsFor f) bit true []).reply 0 0 1 false) ∧
      UeLogged d ((e.ueError (e.logsFor f) bit true []).reply 0 0 1 false) f bit ∧
      ∃ l, ((e.ueError (e.logsFor f) bit true []).reply 0 0 1 false).out = d.out ++ l ++ ([.readData 0 0 1 false] : List Outbound) := by
  obtain ⟨hk, hue⟩ := ueFor_effect he f hbit true []
  obtain ⟨⟨l, hl⟩, -⟩ := ueError_sends e (e.logsFor f) bit true []
  have hout : e.out = d.out := ((Kept.refl (F := []) (P := []) d).counted he).same (x := .out) (by simp)
  refine ⟨kept_reply hk _ _ _ _ (by simp [errParts]), fun g hg => ?_, l, ?_⟩
  · rw [rd_reply _ _ _ _ _ rfl]
    exact hue g hg
  · rw [out_reply, hl, hout]

omit hs in
/-- A discarded request (R385). -/
theorem ueDiscarded {d e : Dev} (he : Counted d e) (f : Nat) :
    Kept (.hep (.ERR_CNT_COUNT 8) :: errRegs) errParts e (e.discardUr f) ∧ UeLogged d (e.discardUr f) f 20 ∧
      Counts d (e.discardUr f) (.hep (.ERR_CNT_COUNT 8)) := by
  obtain ⟨hk, hue⟩ := ueFor_effect he f (bit := 20) (by decide) false []
  refine ⟨(hk.mono (by simp) (List.Subset.refl _)).inc (by simp), fun g hg => ?_, ?_⟩
  · exact (congrArg (fun n : Nat => n.testBit 20) (by simp [Dev.discardUr, Dev.errCnt, Dev.rd_inc])).trans (hue g hg)
  · refine Counts.of_rd (e := e) ?_ (he.rd _ rfl)
    rw [Counts, ← hk.rd (f := .hep (.ERR_CNT_COUNT 8)) (by simp [errRegs]) rfl]
    simp [Dev.discardUr, Dev.errCnt, Dev.rd_inc]

/-- INBOUND_UNSUPPORTED of a kind is what its arm does with the counted TLP. -/
theorem effect_inboundUnsupported (kind : Fin 9) (f : Fin 50) {F : List Fld} {P : List Part} {post : Dev → Prop} {g : Dev → Dev}
    (hg : ∀ e : Dev, (match kind.val with
      | 0 => if e.memClosed f then e.answerUr f else e
      | 1 => if e.memClosed f then e.discardUr f else e
      | 6 => e.discardUr f
      | 7 => e.errCnt 8
      | 8 => (e.ueError (e.logsFor f) 12 true []).reply 0 0 1 false
      | _ => e.answerUr f) = g e)
    (h : ∀ e, Counted s.dev e → Kept F P e (g e) ∧ post (g e)) : Effect (.inboundUnsupported kind f) s F P post := by
  have hc : Counted s.dev (s.dev.count 0x51 0 1) := .count _ _ _ _
  obtain ⟨hk, hp⟩ := h _ hc
  refine .run (x := execInboundUnsupported kind f s) rfl rfl hs ?_
  rw [← hg] at hk hp
  exact ⟨((Kept.refl _).counted hc).trans hk, hp⟩

theorem effect_inboundUnsupported_answered (kind : Fin 9) (f : Fin 50) (hk : kind ∈ ([2, 3, 4, 5] : List (Fin 9)) ∨ (kind = 0 ∧ s.dev.memClosed f = true)) :
    Effect (.inboundUnsupported kind f) s errRegs errParts (fun t => UeLogged s.dev t f 20 ∧
      ∃ l, t.out = s.dev.out ++ l ++ ([.readData 0 0 1 false] : List Outbound)) := by
  obtain hk | ⟨rfl, hmem⟩ := hk
  · refine effect_inboundUnsupported hs kind f (g := fun e => e.answerUr f) (fun e => ?_) fun e he => ueReplied he f (by decide)
    simp only [List.mem_cons, List.not_mem_nil, or_false] at hk
    obtain rfl | rfl | rfl | rfl := hk <;> rfl
  · refine effect_inboundUnsupported hs 0 f (g := fun e => if e.memClosed f then e.answerUr f else e) (fun _ => rfl) fun e he => ?_
    rw [if_pos ((memClosed_counted he f).trans hmem)]
    exact ueReplied he f (by decide)

theorem effect_inboundUnsupported_discarded (kind : Fin 9) (f : Fin 50) (hk : kind = 6 ∨ (kind = 1 ∧ s.dev.memClosed f = true)) :
    Effect (.inboundUnsupported kind f) s (.hep (.ERR_CNT_COUNT 8) :: errRegs) errParts (fun t => UeLogged s.dev t f 20 ∧
      Counts s.dev t (.hep (.ERR_CNT_COUNT 8))) := by
  obtain rfl | ⟨rfl, hmem⟩ := hk
  · exact effect_inboundUnsupported hs 6 f (g := fun e => e.discardUr f) (fun _ => rfl) fun e he => ueDiscarded he f
  · refine effect_inboundUnsupported hs 1 f (g := fun e => if e.memClosed f then e.discardUr f else e) (fun _ => rfl) fun e he => ?_
    rw [if_pos ((memClosed_counted he f).trans hmem)]
    exact ueDiscarded he f

theorem effect_inboundUnsupported_vendor (f : Fin 50) :
    Effect (.inboundUnsupported 7 f) s [.hep (.ERR_CNT_COUNT 8)] [] (fun t => Counts s.dev t (.hep (.ERR_CNT_COUNT 8))) := by
  refine effect_inboundUnsupported hs 7 f (g := fun e => e.errCnt 8) (fun _ => rfl) fun e he => ⟨(Kept.refl e).inc (by simp), ?_⟩
  refine Counts.of_rd (e := e) ?_ (he.rd _ rfl)
  simp [Counts, Dev.errCnt, Dev.rd_inc]

theorem effect_inboundUnsupported_poisoned (f : Fin 50) :
    Effect (.inboundUnsupported 8 f) s errRegs errParts (fun t => UeLogged s.dev t f 12 ∧
      ∃ l, t.out = s.dev.out ++ l ++ ([.readData 0 0 1 false] : List Outbound)) :=
  effect_inboundUnsupported hs 8 f (g := fun e => (e.ueError (e.logsFor f) 12 true []).reply 0 0 1 false) (fun _ => rfl)
    fun e he => ueReplied he f (by decide)

theorem effect_inboundUnsupported_served (kind : Fin 9) (f : Fin 50) (hk : kind = 0 ∨ kind = 1) (hmem : s.dev.memClosed f = false) :
    Effect (.inboundUnsupported kind f) s [] [] (fun _ => True) := by
  obtain rfl | rfl := hk
  · refine effect_inboundUnsupported hs 0 f (g := fun e => if e.memClosed f then e.answerUr f else e) (fun _ => rfl) fun e he => ?_
    rw [memClosed_counted he f, hmem, if_neg Bool.false_ne_true]
    exact ⟨.refl e, trivial⟩
  · refine effect_inboundUnsupported hs 1 f (g := fun e => if e.memClosed f then e.discardUr f else e) (fun _ => rfl) fun e he => ?_
    rw [memClosed_counted he f, hmem, if_neg Bool.false_ne_true]
    exact ⟨.refl e, trivial⟩

theorem effect_poisonedWriteRx (f : Fin 50) :
    Effect (.poisonedWriteRx f) s (([.hep (.ERR_CNT_COUNT 3), .hep (.ERR_CNT_COUNT 8)] : List Fld) ++ errRegs) errParts (fun t =>
      UeLogged s.dev t f 12 ∧ Counts s.dev t (.hep (.ERR_CNT_COUNT 3)) ∧ Counts s.dev t (.hep (.ERR_CNT_COUNT 8))) := by
  have hc : Counted s.dev (s.dev.count 0x51 0 1) := .count _ _ _ _
  refine .run (x := execPoisonedWriteRx f s) rfl rfl hs ?_
  generalize s.dev.count 0x51 0 1 = e at hc
  obtain ⟨hk, -, hset⟩ := ueError_effect (bit := 12) (by decide) (logsFor_lt s.dev f) true [3] e
  have hcnt : ∀ i, (e.ueError (s.dev.logsFor f) 12 true [3]).rd (.hep (.ERR_CNT_COUNT i)) = s.dev.rd (.hep (.ERR_CNT_COUNT i)) := fun i =>
    (hk.rd (by simp [errRegs]) rfl).trans (hc.rd _ rfl)
  generalize e.ueError (s.dev.logsFor f) 12 true [3] = g at hk hset hcnt
  refine ⟨(((Kept.refl _).counted hc).trans (hk.mono (by simp) (List.Subset.refl _))) |>.inc (by simp) |>.inc (by simp), fun o ho => ?_, ?_, ?_⟩
  · exact (congrArg (fun n : Nat => n.testBit 12) (by simp [Dev.errCnt, Dev.rd_inc])).trans (hset o ho)
  · simp [Counts, Dev.errCnt, Dev.rd_inc, hcnt]
  · simp [Counts, Dev.errCnt, Dev.rd_inc, hcnt]

theorem completes_completionTimeout (g : Tag) (c : Fin 96) (v : Xfer) (htags : s.dev.hep.tags = [g]) (hst : g.st = .out) (hcl : g.client = .flush c)
    (hx : (s.dev.ll c).x = some v) (hbad : v.bad = none) (hinb : ∀ rp : Fin 2, (s.dev.rp rp).inb = []) :
    Completes .completionTimeout s (fun t => t.now = max s.dev.now g.expiry ∧ Counts s.dev t (.hep (.ERR_CNT_COUNT 6)) ∧
      (t.rd (.cs (aerOwner g.f) .AER_UE_STS)).testBit 14 = true ∧ t.hep.tags.map (fun x => (x.tag, x.f, x.st)) = [(g.tag, g.f, .timed)] ∧
      ((t.ll c).x).map (·.bad) = some (some (0x81, g.addr))) := by
  have hkt := kept_elapse [] timeParts s.dev (g.expiry - s.dev.now) (List.Subset.refl _)
  have hnow : (s.dev.elapse (g.expiry - s.dev.now)).now = max s.dev.now g.expiry := by
    rw [Dev.elapse_now]
    omega
  have hfind : s.dev.hep.tags.find? (fun t => t.st = .out) = some g := by simp [htags, hst]
  unfold Completes
  rw [show exec .completionTimeout s = execCompletionTimeout s from rfl, execCompletionTimeout, State.run_live s _ hs]
  rw [hfind]
  refine ⟨_, rfl, rfl, rfl, ?_⟩
  dsimp only
  generalize s.dev.elapse (g.expiry - s.dev.now) = e at hkt hnow
  have hhep : e.hep = s.dev.hep := hkt.same (x := .hep) (by simp [timeParts])
  have hdma : e.dma = s.dev.dma := hkt.same (x := .dma) (by simp [timeParts])
  have hrps : e.rps = s.dev.rps := hkt.same (x := .rps) (by simp [timeParts])
  obtain ⟨hm, hcnt, hbit, ht, hll⟩ := tagExpired_effect e g (by rw [hhep, htags]) hst
  have htimers : e.tagTimers = (e.tagExpired g).chBad c 0x81 g.addr := by
    rw [tagTimers_one (by rw [hhep, htags]) hst (by omega), Dev.timeoutTag, Dev.reqFailed, hcl]
    rfl
  rw [htimers]
  generalize e.tagExpired g = y at hm hcnt hbit ht hll
  have hyx : (y.ll c).x = some v := by rw [Dev.ll, hll, hdma]; exact hx
  have hyrps : y.rps = e.rps := hm.2 .rps (by simp [errParts, dmaParts])
  obtain ⟨hmc, hbadc, htc, hinbc⟩ := chBad_ll_effect hyx hbad 0x81 g.addr
  generalize y.chBad c 0x81 g.addr = z at hmc hbadc htc hinbc
  rw [drainInb_idle fun rp => by rw [hinbc, Dev.rp, hyrps, hrps]; exact hinb rp]
  obtain ⟨hny, -⟩ : Part.Same _ _ .time := hm.2 .time (by simp [errParts, dmaParts])
  obtain ⟨hnz, -⟩ : Part.Same _ _ .time := hmc.2 .time (by simp [dmaParts])
  refine ⟨by rw [hnz, hny, hnow], ?_, ?_, ?_, hbadc⟩
  · rw [Counts, hmc.1 _ (by simp [dmaField, ctnRegs]) rfl, ← hkt.rd (f := .hep (.ERR_CNT_COUNT 6)) (by simp) rfl]
    exact hcnt
  · rw [hmc.1 _ (by simp [dmaField, ctnRegs]) rfl]
    exact hbit
  · rw [htc, ht]
    simp [updWhere]

end

/-- The errors of the host link, kind by kind. -/
theorem hostLinkErrors : HostLinkErrors := by
  unfold HostLinkErrors
  intro s f hs
  refine ⟨fun kind g => ⟨effect_hostLinkError_correctable hs kind g, effect_hostLinkError_uncorrectable hs kind g⟩, fun kind => ⟨?_, ?_, ?_, ?_, ?_⟩,
    effect_poisonedWriteRx hs f, completes_completionTimeout hs⟩
  · exact effect_inboundUnsupported_answered hs kind f
  · exact effect_inboundUnsupported_discarded hs kind f
  · rintro rfl
    exact effect_inboundUnsupported_vendor hs f
  · rintro rfl
    exact effect_inboundUnsupported_poisoned hs f
  · exact effect_inboundUnsupported_served hs kind f

end Sys2Proof.Machine
end

section
-- The theorems are elaborated in order, which keeps the memory that a check of the whole text takes within its limit.
set_option Elab.async false

/-! SUPPORT.  Containment of the host port and its release; what waits for the host goes on (R398, R404 to R406). -/

namespace Sys2Proof.Machine

open Sys2Proof.Safety Sys2Proof.Claims

/-! ### What leaves the state of the containment alone -/

/-- The fields that tell the state of the containment (R398, R406). -/
def ctnFixed : List Fld := [.hep .CTN_STATUS_STATE, .hep .CTN_STATUS_SEQ, .hep .CTN_RESULT_LAST, .hep .CTN_EVT_RELEASED, .hep .PF1_IPEND_CTN]

/-- The parts that what goes on with the host may change. -/
def goOnParts : List Part := [.mem, .marks, .writeBacks, .out, .toSafe, .irqs, .hep, .dma, .sqs, .cqSince, .due, .rps, .apWait]

/-- The state of the containment, and the parts that what goes on leaves alone, are as before. -/
abbrev GoesOn (d e : Dev) : Prop := MovedIn (fun f => f ∉ ctnFixed) goOnParts d e

theorem goesOn_of_rings {d e : Dev} (h : RingsMoved d e) : GoesOn d e :=
  h.mono (fun f hf => by
    simp only [ctnFixed, List.mem_cons, List.not_mem_nil, or_false, decide_eq_true_eq, not_or]
    refine ⟨?_, ?_, ?_, ?_, ?_⟩ <;> rintro rfl <;> simp [isDeviceIndex] at hf) (by simp [goOnParts, ringParts])

/-- A frame within what goes on with the host. -/
theorem goesOn_of_kept {F : List Fld} {P : List Part} {d e : Dev} (h : Kept F P d e) (hF : ∀ f ∈ F, f ∉ ctnFixed) (hP : P ⊆ goOnParts) : GoesOn d e :=
  (movedIn_of_kept h fun f hf => by simpa using hF f hf).mono (fun _ hf => hf) hP

section
variable (d : Dev)

theorem goesOn_sqMirror (n : Nat) : GoesOn d (d.sqMirror n) := by
  unfold Dev.sqMirror
  dsimp only
  refine .ite _ (fun _ => .refl d) fun _ => .ite _ (fun _ => ?_) fun _ => ?_
  · exact goesOn_of_kept (F := []) (P := [.sqs]) ((Kept.refl d).modSq _ _ (by simp)) (by simp) (by simp [goOnParts])
  · exact goesOn_of_kept (F := []) (P := [.out, .hep, .sqs]) (((d.hostWrite_clean_kept _ _ _).mono (by simp) (by simp)).modSq _ _ (by simp))
      (by simp) (by simp [goOnParts])

theorem goesOn_mirrors : GoesOn d d.mirrors :=
  .foldl _ _ (fun e n => .ite _ (fun _ => goesOn_sqMirror e n) fun _ => .refl e) d

theorem goesOn_msixAll : GoesOn d d.msixAll := by
  have hsend : ∀ (e : Dev) (f v : Nat), GoesOn e (e.msixUnblock f v) := fun e f v => by
    unfold Dev.msixUnblock Dev.msixSend
    exact .ite _ (fun _ => goesOn_of_kept (F := [.pba f]) (P := [.out, .hep])
      ((((Kept.refl e).wr _ (by simp)).emit _ (by simp) (by simp)).count _ _ _) (by simp [ctnFixed]) (by simp [goOnParts])) fun _ => .refl e
  exact .foldl _ _ (fun e f => .ite _ (fun _ => .foldl _ _ (fun x v => hsend x f v) e) fun _ => .refl e) d

theorem goesOn_intxSend (w : Nat) (v : Bool) : GoesOn d (d.intxSend w v) := by
  unfold Dev.intxSend Dev.setSent
  refine .ite _ (fun _ => .refl d) fun _ => ?_
  have hemit : Kept [.hep .PF1_IPEND_SENT] [.out, .hep] d (d.emit (.intx v w)) := (Kept.refl d).emit _ (by simp) (by simp)
  refine goesOn_of_kept (F := [.hep .PF1_IPEND_SENT]) (P := [.out, .hep]) (Kept.count ?_ _ _ _) (by simp [ctnFixed]) (by simp [goOnParts])
  exact .ite _ (fun _ => hemit.withHep _ (by simp)) fun _ => hemit.wr _ (by simp)

/-! ### Accesses to the modems go on -/

theorem goesOn_modemTlp (rp addr : Nat) (bs : List PByte) : GoesOn d (d.modemTlp rp addr bs) := by
  have hpf : Kept [.brg (.RP_CNT_COUNT rp 7), .brg (.RP_CNT_COUNT rp 1)] [.rps, .out] d (d.modRp rp (fun r => { r with pf := [] })) :=
    (Kept.refl d).modRp _ _ (by simp)
  refine goesOn_of_kept (F := [.brg (.RP_CNT_COUNT rp 7), .brg (.RP_CNT_COUNT rp 1)]) (P := [.rps, .out]) ?_ (by simp [ctnFixed]) (by simp [goOnParts])
  unfold Dev.modemTlp
  refine .ite _ (fun _ => (Kept.refl d).inc (by simp)) fun _ => .ite _ (fun _ => .refl d) fun _ => ?_
  refine .ite _ (fun _ => ?_) fun _ => (hpf.emitAside _ rfl (by simp)).count _ _ _
  exact .ite _ (fun _ => hpf.inc (by simp)) fun _ => ((hpf.inc (by simp)).emitAside _ rfl (by simp)).count _ _ _

theorem goesOn_splitWrite {tlp : Dev → Nat → List PByte → Dev} (h : ∀ e a bs, GoesOn e (tlp e a bs)) (mps fuel addr : Nat) (bs : List PByte) :
    GoesOn d (Dev.splitWrite tlp mps fuel d addr bs) := by
  induction fuel generalizing d addr bs with
  | zero => exact .refl d
  | succ fuel ih =>
    unfold Dev.splitWrite
    exact .ite _ (fun _ => .refl d) fun _ => (h d _ _).trans (ih _ _ _)

theorem goesOn_rpAsk (rp t : Nat) (g : RpTag) (o : Outbound) (ho : o.byHost = false) : GoesOn d (((d.rpAsk rp g).emit o).count 0x80 rp t) :=
  goesOn_of_kept (F := []) (P := [.rps, .out]) ((((Kept.refl d).modRp _ _ (by simp)).emitAside _ ho (by simp)).count _ _ _) (by simp)
    (by simp [goOnParts])

theorem goesOn_reply (v n st : Nat) (ep : Bool) : GoesOn d (d.reply v n st ep) :=
  goesOn_of_kept (F := []) (P := [.out]) (kept_reply (.refl d) _ _ _ _ (by simp)) (by simp) (by simp [goOnParts])

theorem goesOn_brgEvent : GoesOn d d.brgEvent :=
  goesOn_of_kept (F := []) (P := [.irqs]) (kept_brgEvent (.refl d) (by simp)) (by simp) (by simp [goOnParts])

end

theorem goesOn_rpReads {rp w a len : Nat} {mk : Nat → RpClient} {ps : List (Nat × Nat)} {d e : Dev} (h : d.rpReads rp w a len none mk ps = some e) :
    GoesOn d e := by
  induction ps generalizing d with
  | nil =>
    obtain rfl := Option.some.inj h
    exact .refl d
  | cons p ps ih =>
    obtain ⟨o, n⟩ := p
    rw [Dev.rpReads] at h
    dsimp only at h
    split at h
    · cases h
    · exact (goesOn_rpAsk _ _ _ _ _ rfl).trans (ih h)

theorem goesOn_pfServe {rp w a len : Nat} {bs : List PByte} {d e : Dev} (h : d.pfServe rp w a len = some (bs, e)) : GoesOn d e := by
  rw [Dev.pfServe] at h
  dsimp only at h
  split at h
  · obtain ⟨-, rfl⟩ := Prod.mk.inj (Option.some.inj h)
    exact goesOn_of_kept (F := []) (P := [.rps]) (((Kept.refl d).modRp _ _ (by simp)).count _ _ _) (by simp) (by simp [goOnParts])
  · cases h

/-- An access that is served leaves the containment alone (R405, R409, R412). -/
theorem goesOn_apTry {d g : Dev} {q : ApWait} (h : d.apTry q = some g) : GoesOn d g := by
  unfold Dev.apTry at h
  dsimp only at h
  split at h
  · split at h
    · obtain rfl := Option.some.inj h
      split
      · refine MovedIn.trans (e := if d.rpState q.rp = 3 then d.rpCnt q.rp 7 else d.brgEvent) (.ite _ (fun _ => ?_) fun _ => goesOn_brgEvent d) ?_
        · exact goesOn_of_kept (F := [.brg (.RP_CNT_COUNT q.rp 7)]) (P := []) ((Kept.refl d).inc (by simp)) (by simp [ctnFixed]) (by simp [goOnParts])
        · exact goesOn_of_kept (F := [.brg (.RP_STATUS_CFG_BUSY q.rp)]) (P := []) ((Kept.refl _).wr _ (by simp)) (by simp [ctnFixed])
            (by simp [goOnParts])
      · refine (goesOn_brgEvent d).trans (MovedIn.trans (e := d.brgEvent.wrs [(.brg (.RP_STATUS_CFG_BUSY q.rp), 0), (.brg (.RP_STATUS_CFG_ERR q.rp), 1)])
          ?_ (goesOn_reply _ _ _ _ _))
        exact goesOn_of_kept (F := [.brg (.RP_STATUS_CFG_BUSY q.rp), .brg (.RP_STATUS_CFG_ERR q.rp)]) (P := []) ((Kept.refl _).wrs _ (by simp))
          (by simp [ctnFixed]) (by simp [goOnParts])
    · split at h
      · cases h
      · obtain rfl := Option.some.inj h
        exact goesOn_rpAsk d _ _ _ _ rfl
  · split at h
    · cases h
    · split at h
      · obtain rfl := Option.some.inj h
        have hinc : GoesOn d (d.inc (.sys .ACCESS_ERR_HOLE_CNT)) :=
          goesOn_of_kept (F := [.sys .ACCESS_ERR_HOLE_CNT]) (P := []) ((Kept.refl d).inc (by simp)) (by simp [ctnFixed]) (by simp [goOnParts])
        exact .ite _ (fun _ => hinc) fun _ => hinc.trans (goesOn_reply _ _ _ _ _)
      · split at h
        · obtain rfl := Option.some.inj h
          exact goesOn_splitWrite d (fun e a bs => goesOn_modemTlp e _ a bs) _ _ _ _
        · split at h
          · obtain rfl := Option.some.inj h
            exact (goesOn_brgEvent d).trans (goesOn_reply _ _ _ _ _)
          · split at h
            · rename_i hserve
              obtain rfl := Option.some.inj h
              exact (goesOn_pfServe hserve).trans (goesOn_reply _ _ _ _ _)
            · exact goesOn_rpReads h

theorem goesOn_apDrainList (es : List ApWait) (stuck : List Nat) (d : Dev) : GoesOn d (d.apDrainList stuck es) := by
  have hkeep : ∀ (x : Dev) (q : ApWait), GoesOn x { x with apWait := x.apWait ++ [q] } := fun x q =>
    goesOn_of_kept (F := []) (P := [.apWait]) ((Kept.refl x).withApWait _ (by simp)) (by simp) (by simp [goOnParts])
  induction es generalizing stuck d with
  | nil => exact .refl d
  | cons q es ih =>
    rw [Dev.apDrainList]
    split
    · exact (hkeep d q).trans (ih _ _)
    · split
      · rename_i htry
        exact (goesOn_apTry htry).trans (ih _ _)
      · exact (hkeep d q).trans (ih _ _)

theorem goesOn_apDrain (d : Dev) : GoesOn d d.apDrain :=
  (goesOn_of_kept (F := []) (P := [.apWait]) ((Kept.refl d).withApWait [] (by simp)) (by simp) (by simp [goOnParts])).trans (goesOn_apDrainList _ _ _)

/-! ### Requests of the modems go on -/

theorem goesOn_hostTlp (d : Dev) (f addr : Nat) (bs : List PByte) : GoesOn d (d.hostTlp f addr bs) := by
  have hout : ∀ ep, Kept [.hep (.ERR_CNT_COUNT 4), .hep (.ERR_CNT_COUNT 5), .cs f .STS_MDPE] [.out, .hep] d (d.hostOut f addr bs ep) := fun ep =>
    (((Kept.refl d).emit _ (by simp) (by simp)).count _ _ _).count _ _ _
  refine goesOn_of_kept (F := [.hep (.ERR_CNT_COUNT 4), .hep (.ERR_CNT_COUNT 5), .cs f .STS_MDPE]) (P := [.out, .hep]) ?_ (by simp [ctnFixed])
    (by simp [goOnParts])
  unfold Dev.hostTlp
  refine .ite _ (fun _ => .ite _ (fun _ => (Kept.refl d).inc (by simp)) fun _ => ?_) fun _ => hout false
  exact .ite _ (fun _ => ((hout true).inc (by simp)).wr _ (by simp)) fun _ => (hout true).inc (by simp)

theorem goesOn_hostWrite (d : Dev) (f addr : Nat) (bs : List PByte) : GoesOn d (d.hostWrite f addr bs) :=
  goesOn_splitWrite d (fun e a bs => goesOn_hostTlp e f a bs) _ _ _ _

theorem goesOn_vatFree (d : Dev) (ls : List Nat) : GoesOn d (d.vatFree ls) :=
  goesOn_of_kept (F := []) (P := [.dma]) ((Kept.refl _).withDma _ (by simp)) (by simp) (by simp [goOnParts])

theorem goesOn_hostReads {f : Nat} {cl : Nat → Client} {ps : List (Nat × Nat)} {off : Nat} {d e : Dev} (h : d.hostReads f cl off ps = some e) :
    GoesOn d e := by
  induction ps generalizing off d with
  | nil =>
    obtain rfl := Option.some.inj h
    exact .refl d
  | cons p ps ih =>
    obtain ⟨a, n⟩ := p
    rw [Dev.hostReads] at h
    split at h
    · cases h
    · rename_i x hx
      refine MovedIn.trans ?_ (ih h)
      rw [Dev.hostRead1, Dev.hostReadAs] at hx
      split at hx
      · cases hx
      · split at hx
        · cases hx
        · rw [Dev.vatTake] at hx
          split at hx
          · cases hx
          · rename_i htake
            obtain rfl := Option.some.inj hx
            split at htake
            · obtain ⟨-, rfl⟩ := Prod.mk.inj (Option.some.inj htake)
              have hzero : Kept [] [.mem, .marks, .writeBacks, .dma, .hep, .out] d
                  ((vatPick d.dma.vat (linesIn a n)).foldl (fun (d : Dev) l => d.zeroLines (vatLine l) 1) d) :=
                .foldl _ _ (fun _ _ _ hx => kept_zeroLines hx _ _ (by simp) (by simp) (by simp)) (.refl d)
              exact goesOn_of_kept (((((hzero.withDma _ (by simp)).withHep _ (by simp)).emit _ (by simp) (by simp)).count _ _ _))
                (by simp) (by simp [goOnParts])
            · cases htake

theorem goesOn_readMarked (ls : List Nat) (d : Dev) : GoesOn d (d.readMarked ls).2 := by
  induction ls generalizing d with
  | nil => exact .refl d
  | cons l ls ih =>
    have hline := kept_readLine (F := eccRegs) (P := [.marks, .writeBacks, .toSafe]) (.refl d) (List.Subset.refl _) (by simp) (by simp) (by simp) l
    exact (goesOn_of_kept hline (fun f hf => by
      simp only [eccRegs, List.mem_append, List.mem_cons, List.not_mem_nil, or_false, List.mem_map] at hf
      obtain ((rfl | rfl | rfl) | ⟨_, -, rfl⟩) | ⟨_, -, rfl⟩ := hf <;> simp [ctnFixed]) (by simp [goOnParts])).trans (ih _)

/-- A request of a modem that is issued leaves the containment alone (R424, R425). -/
theorem goesOn_inbIssue {d g : Dev} {rp : Nat} {q : Inb} (h : d.inbIssue rp q = some g) : GoesOn d g := by
  rw [Dev.inbIssue] at h
  split at h
  · cases h
  · split at h
    · split at h
      · split at h
        · obtain rfl := Option.some.inj h
          exact goesOn_hostWrite d _ _ _
        · cases h
      · obtain rfl := Option.some.inj h
        exact ((goesOn_readMarked _ d).trans (goesOn_hostWrite _ _ _ _)).trans (goesOn_vatFree _ _)
    · exact goesOn_hostReads h

theorem goesOn_modRp (d : Dev) (rp : Nat) (f : Rp → Rp) : GoesOn d (d.modRp rp f) :=
  goesOn_of_kept (F := []) (P := [.rps]) ((Kept.refl d).modRp _ _ (by simp)) (by simp) (by simp [goOnParts])

theorem goesOn_drainRp (rp : Nat) (qs : List Inb) (stuck : List Nat) (d : Dev) : GoesOn d (d.drainRp rp stuck qs) := by
  induction qs generalizing stuck d with
  | nil => exact .refl d
  | cons q qs ih =>
    rw [Dev.drainRp]
    split
    · exact (goesOn_modRp d _ _).trans (ih _ _)
    · split
      · rename_i hissue
        exact (goesOn_inbIssue hissue).trans (ih _ _)
      · exact (goesOn_modRp d _ _).trans (ih _ _)

theorem goesOn_drainInb (d : Dev) : GoesOn d d.drainInb :=
  .foldl _ _ (fun e _ => .ite _ (fun _ => .refl e) fun _ => (goesOn_modRp e _ _).trans (goesOn_drainRp _ _ _ _)) d

theorem goesOn_hostResume (d : Dev) : GoesOn d d.hostResume :=
  (((goesOn_of_rings (Dev.flushDue_moved d)).trans (goesOn_mirrors _)).trans (goesOn_apDrain _)).trans (goesOn_drainInb _)

theorem flushDue_idle {d : Dev} (h : d.due = []) : d.flushDue = d := by
  have hd : ({ d with due := [] } : Dev) = d := by rw [← h]
  rw [Dev.flushDue, h]
  exact hd

theorem mirrors_idle {d : Dev} (h : ∀ n < 256, (d.sq n).lag = false) : d.mirrors = d := by
  have hfold : ∀ (l : List Nat), (∀ n ∈ l, n < 256) → l.foldl (fun d n => if (d.sq n).lag then d.sqMirror n else d) d = d := fun l hl => by
    induction l with
    | nil => rfl
    | cons n l ih =>
      rw [List.foldl_cons, h n (hl n List.mem_cons_self), if_neg Bool.false_ne_true]
      exact ih fun m hm => hl m (List.mem_cons_of_mem n hm)
  exact hfold _ fun n hn => List.mem_range.mp hn

/-! ### Containment commands -/

section
variable {s : State} (ha : Awake s)
include ha

/-- A command of PF0's containment registers in A0 or A1 (R398, R404). -/
theorem hostAccess_counted : Counted s.dev (s.dev.hostAccess false) := by
  rw [Dev.hostAccess_awake _ _ ha.2]
  exact .count _ _ _ _

omit ha in
theorem frozen_triggersSet (d : Dev) (l : List Nat) : (d.triggersSet l).frozen = d.frozen := by
  rw [Dev.frozen, Dev.frozen, (triggersSet_kept d l).rd (by simp) rfl]

omit ha in
/-- The SOFTWARE trigger is always enabled (R398). -/
theorem present_software (d : Dev) : d.present [7] = if d.frozen then d.triggersSet [7] else (d.triggersSet [7]).contained 7 := by
  rw [← frozen_triggersSet d [7]]
  rfl

omit ha in
theorem triggersSet_software (d : Dev) : ((d.triggersSet [7]).rd (.hep .CTN_LOG_TRIGGERS)).testBit 6 = true := by
  rw [Dev.triggersSet, List.foldl_cons, List.foldl_nil, Dev.rd_setFldBit _ _ _ (by simp)]
  exact testBit_setBit_self _ _

omit ha in
theorem toSafe_contained (d : Dev) (c : Nat) : (d.contained c).toSafe = d.toSafe ++ ([⟨true, 1, 0⟩] : List Report) := by
  have h : Kept [.hep .CTN_STATUS_CAUSE, .hep .CTN_STATUS_SEQ, .hep .CTN_TICK_TICK, .hep .CTN_STATUS_STATE, .hep .CTN_EVT_ENTERED, .hep .PF1_IPEND_CTN]
      [.irqs] d (((d.wrs [(.hep .CTN_STATUS_CAUSE, c), (.hep .CTN_STATUS_SEQ, nextSeq (d.rd (.hep .CTN_STATUS_SEQ))),
        (.hep .CTN_TICK_TICK, d.tick.coreTick % 2 ^ 32), (.hep .CTN_STATUS_STATE, 1)]).event (.hep .CTN_EVT_ENTERED) (.hep .CTN_EVT_IRQ_EN) 9).wr
        (.hep .PF1_IPEND_CTN) 1) :=
    Kept.wr (Kept.event ((Kept.refl d).wrs _ (by simp)) _ _ (by simp) (by simp)) _ (by simp)
  have hsafe := h.same (x := .toSafe) (by simp)
  exact congrArg (· ++ _) hsafe

omit ha in
/-- The registers of a containment (R398). -/
theorem contained_regs (d : Dev) {c : Nat} (hc : c < 8) : (d.contained c).rd (.hep .CTN_STATUS_STATE) = 1 ∧
    (d.contained c).rd (.hep .CTN_STATUS_CAUSE) = c ∧ (d.contained c).rd (.hep .CTN_STATUS_SEQ) = nextSeq (d.rd (.hep .CTN_STATUS_SEQ)) ∧
    (d.contained c).rd (.hep .CTN_TICK_TICK) = d.tick.coreTick % 2 ^ 32 ∧
    (d.contained c).rd (.hep .CTN_LOG_TRIGGERS) = d.rd (.hep .CTN_LOG_TRIGGERS) ∧
    (d.contained c).rd (.hep .CTN_EVT_ENTERED) = 1 ∧ (d.contained c).rd (.hep .PF1_IPEND_CTN) = 1 := by
  have hseq := d.rd_lt (.hep .CTN_STATUS_SEQ)
  rw [ctnSeq_width] at hseq
  have hnext : nextSeq (d.rd (.hep .CTN_STATUS_SEQ)) % 65536 = nextSeq (d.rd (.hep .CTN_STATUS_SEQ)) := by
    rw [nextSeq]
    split <;> omega
  have hwarn : ∀ (e : Dev) (f : Fld), (e.warn 1).rd f = e.rd f := fun _ _ => rfl
  refine ⟨?_, ?_, ?_, ?_, ?_, ?_, ?_⟩ <;>
    simp [Dev.contained, Dev.ctnEvent, hwarn, Dev.rd_event, Nat.mod_eq_of_lt hc, hnext]

theorem effect_ctnFreeze (hf : s.dev.frozen = false) :
    Effect .ctnFreeze s ctnRegs [.out, .irqs, .toSafe] (fun t =>
      t.rd (.hep .CTN_STATUS_STATE) = 1 ∧ t.rd (.hep .CTN_STATUS_CAUSE) = 7 ∧
      t.rd (.hep .CTN_STATUS_SEQ) = nextSeq (s.dev.rd (.hep .CTN_STATUS_SEQ)) ∧
      t.rd (.hep .CTN_TICK_TICK) = s.dev.tick.coreTick % 2 ^ 32 ∧ (t.rd (.hep .CTN_LOG_TRIGGERS)).testBit 6 = true ∧
      t.rd (.hep .CTN_EVT_ENTERED) = 1 ∧ t.rd (.hep .PF1_IPEND_CTN) = 1 ∧ t.toSafe = s.dev.toSafe ++ ([⟨true, 1, 0⟩] : List Report) ∧
      Replied s.dev t 0) := by
  have hc := hostAccess_counted ha
  refine .run (x := execCtnFreeze s) rfl rfl ha.1 ?_
  generalize s.dev.hostAccess false = e at hc
  have hce : Kept [] [] s.dev e := (Kept.refl _).counted hc
  have hset : Kept [.hep .CTN_LOG_TRIGGERS] [] s.dev (e.triggersSet [7]) := (hce.mono (by simp) (by simp)).trans (triggersSet_kept e [7])
  have hbit := triggersSet_software e
  rw [present_software, (frozen_counted hc).trans hf, if_neg Bool.false_ne_true]
  generalize e.triggersSet [7] = g at hset hbit
  obtain ⟨h1, h2, h3, h4, h5, h6, h7⟩ := contained_regs g (c := 7) (by decide)
  have hsafe := toSafe_contained g 7
  have hk := contained_kept g 7
  have hgs : g.toSafe = s.dev.toSafe := hset.same (x := .toSafe) (by simp)
  have hgt : g.tick = s.dev.tick := hset.same (x := .tick) (by simp)
  have hgo : g.out = s.dev.out := hset.same (x := .out) (by simp)
  generalize g.contained 7 = y at h1 h2 h3 h4 h5 h6 h7 hsafe hk
  have hyo : y.out = g.out := hk.same (x := .out) (by simp)
  have hky : Kept ctnRegs [.out, .irqs, .toSafe] s.dev y := (hset.mono (by simp [ctnRegs]) (by simp)).trans (hk.mono (List.Subset.refl _) (by simp))
  have hcpl : Kept [] [.out] y y.cplDone := kept_reply (.refl y) _ _ _ _ (by simp)
  have hys : y.cplDone.toSafe = y.toSafe := hcpl.same (x := .toSafe) (by simp)
  refine ⟨hky.trans (hcpl.mono (by simp) (by simp)), ?_, ?_, ?_, ?_, ?_, ?_, ?_, ?_, ?_⟩
  · exact (hcpl.rd (by simp) rfl).trans h1
  · exact (hcpl.rd (by simp) rfl).trans h2
  · rw [hcpl.rd (by simp) rfl, h3, hset.rd (by simp) rfl]
  · rw [hcpl.rd (by simp) rfl, h4, hgt]
  · rw [hcpl.rd (by simp) rfl, h5]
    exact hbit
  · exact (hcpl.rd (by simp) rfl).trans h6
  · exact (hcpl.rd (by simp) rfl).trans h7
  · rw [hys, hsafe, hgs]
  · exact (out_reply _ _ _ _ _).trans (by rw [hyo, hgo])

theorem effect_ctnFreeze_frozen (hf : s.dev.frozen = true) :
    Effect .ctnFreeze s [.hep .CTN_LOG_TRIGGERS] [.out] (fun t => (t.rd (.hep .CTN_LOG_TRIGGERS)).testBit 6 = true ∧ Replied s.dev t 0) := by
  have hc := hostAccess_counted ha
  refine .run (x := execCtnFreeze s) rfl rfl ha.1 ?_
  generalize s.dev.hostAccess false = e at hc
  have hce : Kept [] [] s.dev e := (Kept.refl _).counted hc
  have hset : Kept [.hep .CTN_LOG_TRIGGERS] [] s.dev (e.triggersSet [7]) := (hce.mono (by simp) (by simp)).trans (triggersSet_kept e [7])
  have hbit := triggersSet_software e
  have hgo : (e.triggersSet [7]).out = s.dev.out := hset.same (x := .out) (by simp)
  rw [present_software, if_pos ((frozen_counted hc).trans hf)]
  refine ⟨kept_reply (hset.mono (List.Subset.refl _) (by simp)) _ _ _ _ (by simp), ?_, (out_reply _ _ _ _ _).trans (by rw [hgo])⟩
  rw [Dev.cplDone, rd_reply _ _ _ _ _ rfl]
  exact hbit

/-! ### The release -/

/-- The device that has answered a write of the containment registers (R404). -/
theorem answered_kept : Kept [] [.out] s.dev (s.dev.hostAccess false).cplDone ∧ Replied s.dev (s.dev.hostAccess false).cplDone 0 := by
  have hc := hostAccess_counted ha
  generalize s.dev.hostAccess false = e at hc
  have hout : e.out = s.dev.out := ((Kept.refl (F := []) (P := []) s.dev).counted hc).same (x := .out) (by simp)
  exact ⟨kept_reply ((Kept.refl _).counted hc) _ _ _ _ (by simp), (out_reply _ _ _ _ _).trans (by rw [hout])⟩

theorem effect_ctnRelease_noGo (seq : BitVec 16) : Effect (.ctnRelease false seq) s [] [.out] (fun t => Replied s.dev t 0) :=
  .run (x := execCtnRelease false seq s) rfl rfl ha.1 (answered_kept ha)

variable {seq : BitVec 16} {code : Nat} (hcode : code = (if s.dev.rd (.hep .CTN_STATUS_STATE) ≠ 1 then 1
    else if seq.toNat ≠ s.dev.rd (.hep .CTN_STATUS_SEQ) then 2
    else if s.dev.rd (.hep .LINK_STATUS_DL_UP) = 0 then 3
    else if s.dev.rd (.hep .CTN_CTRL_TRIG_QUAR) ≠ 0 ∧ s.dev.rd (.hep .CTN_CTRL_QUAR_LIMIT) ≤ s.dev.quarantined then 4 else 0))
include hcode

omit ha in
/-- The checks of a release, in their order (R404). -/
theorem releaseCode_eq {e : Dev} (hk : Kept [] [.out] s.dev e) : e.releaseCode seq.toNat = code := by
  have hhep : e.hep = s.dev.hep := hk.same (x := .hep) (by simp)
  subst hcode
  unfold Dev.releaseCode Dev.frozen Dev.quarantined Dev.is
  rw [hk.rd (f := .hep .CTN_STATUS_STATE) (by simp) rfl, hk.rd (f := .hep .CTN_STATUS_SEQ) (by simp) rfl,
    hk.rd (f := .hep .LINK_STATUS_DL_UP) (by simp) rfl, hk.rd (f := .hep .CTN_CTRL_TRIG_QUAR) (by simp) rfl,
    hk.rd (f := .hep .CTN_CTRL_QUAR_LIMIT) (by simp) rfl, hhep]
  simp

omit ha in
theorem releaseCode_lt : code < 8 := by
  subst hcode
  split
  · decide
  · split
    · decide
    · split
      · decide
      · split <;> decide

theorem effect_ctnRelease_refused (h0 : code ≠ 0) :
    Effect (.ctnRelease true seq) s [.hep .CTN_RESULT_LAST, .hep .CTN_RESULT_REFUSED] [.out] (fun t => Replied s.dev t 0 ∧
      t.rd (.hep .CTN_RESULT_LAST) = code ∧ Counts s.dev t (.hep .CTN_RESULT_REFUSED)) := by
  obtain ⟨hk, hr⟩ := answered_kept ha
  have hlt := releaseCode_lt hcode
  refine .run (x := execCtnRelease true seq s) rfl rfl ha.1 ?_
  generalize (s.dev.hostAccess false).cplDone = e at hk hr
  dsimp only
  rw [if_neg (by simp), releaseCode_eq hcode hk, if_pos h0]
  refine ⟨((hk.mono (by simp) (List.Subset.refl _)).wr _ (by simp)).inc (by simp), hr, by simp [Dev.rd_inc, Nat.mod_eq_of_lt hlt], ?_⟩
  rw [Counts, ← hk.rd (f := .hep .CTN_RESULT_REFUSED) (by simp) rfl]
  simp [Dev.rd_inc]

/-- A release that passes every check (R404, R405). -/
theorem exec_ctnRelease (h0 : code = 0) : exec (.ctnRelease true seq) s = .next { s with
    dev := ((((s.dev.hostAccess false).cplDone.wr (.hep .CTN_RESULT_LAST) 0).wr (.hep .CTN_STATUS_STATE) 2).flushDue).mirrors } := by
  obtain ⟨hk, -⟩ := answered_kept ha
  show execCtnRelease true seq s = _
  rw [execCtnRelease, State.run_live s _ ha.1]
  generalize (s.dev.hostAccess false).cplDone = e at hk
  dsimp only
  rw [if_neg (by simp), releaseCode_eq hcode hk, h0, if_neg (by simp)]

omit ha hcode in
/-- A release whose held completions and mirrors are written is still going on (R405). -/
theorem released_regs (e : Dev) : (((e.wr (.hep .CTN_RESULT_LAST) 0).wr (.hep .CTN_STATUS_STATE) 2).flushDue.mirrors).rd (.hep .CTN_STATUS_STATE) = 2 ∧
    (((e.wr (.hep .CTN_RESULT_LAST) 0).wr (.hep .CTN_STATUS_STATE) 2).flushDue.mirrors).rd (.hep .CTN_RESULT_LAST) = 0 := by
  have hset : ((e.wr (.hep .CTN_RESULT_LAST) 0).wr (.hep .CTN_STATUS_STATE) 2).rd (.hep .CTN_STATUS_STATE) = 2 ∧
      ((e.wr (.hep .CTN_RESULT_LAST) 0).wr (.hep .CTN_STATUS_STATE) 2).rd (.hep .CTN_RESULT_LAST) = 0 := by simp
  generalize (e.wr (.hep .CTN_RESULT_LAST) 0).wr (.hep .CTN_STATUS_STATE) 2 = g at hset
  have hgo := (goesOn_of_rings (Dev.flushDue_moved g)).trans (goesOn_mirrors _)
  exact ⟨(hgo.1 _ (by simp [ctnFixed]) rfl).trans hset.1, (hgo.1 _ (by simp [ctnFixed]) rfl).trans hset.2⟩

theorem completes_ctnRelease (h0 : code = 0) :
    Completes (.ctnRelease true seq) s (fun t => t.rd (.hep .CTN_STATUS_STATE) = 2 ∧ t.rd (.hep .CTN_RESULT_LAST) = 0) := by
  have hx := exec_ctnRelease ha hcode h0
  have hregs := released_regs (s.dev.hostAccess false).cplDone
  generalize (((s.dev.hostAccess false).cplDone.wr (.hep .CTN_RESULT_LAST) 0).wr (.hep .CTN_STATUS_STATE) 2).flushDue.mirrors = g at hx hregs
  exact ⟨_, hx, rfl, rfl, hregs⟩

theorem effect_ctnRelease (h0 : code = 0) (hdue : s.dev.due = []) (hlag : ∀ n : Fin 256, (s.dev.sq n).lag = false) :
    Effect (.ctnRelease true seq) s [.hep .CTN_RESULT_LAST, .hep .CTN_STATUS_STATE] [.out] (fun t => Replied s.dev t 0) := by
  obtain ⟨hk, hr⟩ := answered_kept ha
  have hx := exec_ctnRelease ha hcode h0
  generalize (s.dev.hostAccess false).cplDone = e at hk hr hx
  have hsame : e.due = s.dev.due := hk.same (x := .due) (by simp)
  have hdue' : e.due = [] := hsame.trans hdue
  have hsqs : e.sqs = s.dev.sqs := hk.same (x := .sqs) (by simp)
  have hflush : ((e.wr (.hep .CTN_RESULT_LAST) 0).wr (.hep .CTN_STATUS_STATE) 2).flushDue = (e.wr (.hep .CTN_RESULT_LAST) 0).wr (.hep .CTN_STATUS_STATE) 2 :=
    flushDue_idle hdue'
  have hmirror : ((e.wr (.hep .CTN_RESULT_LAST) 0).wr (.hep .CTN_STATUS_STATE) 2).mirrors = (e.wr (.hep .CTN_RESULT_LAST) 0).wr (.hep .CTN_STATUS_STATE) 2 :=
    mirrors_idle fun n hn => (congrArg (fun l : List Sq => (l.getD n {}).lag) hsqs).trans (hlag ⟨n, hn⟩)
  rw [hflush, hmirror] at hx
  exact .of_next hx (((hk.mono (by simp) (List.Subset.refl _)).wr _ (by simp)).wr _ (by simp)) hr

end

/-- The release completes: what waited has left, the port is in RUN (R405, R406). -/
theorem completes_ctnReleaseComplete {s : State} (hs : s.held = false) (h2 : s.dev.rd (.hep .CTN_STATUS_STATE) = 2) :
    Completes .ctnReleaseComplete s (fun t => t.rd (.hep .CTN_STATUS_STATE) = 0 ∧ t.rd (.hep .CTN_EVT_RELEASED) = 1 ∧
      t.rd (.hep .PF1_IPEND_CTN) = 1 ∧ t.rd (.hep .CTN_STATUS_SEQ) = s.dev.rd (.hep .CTN_STATUS_SEQ)) := by
  unfold Completes
  rw [show exec .ctnReleaseComplete s = execCtnReleaseComplete s from rfl, execCtnReleaseComplete, State.run_live s _ hs]
  refine ⟨_, rfl, rfl, rfl, ?_⟩
  dsimp only
  rw [if_neg (by simp [h2])]
  have hgo := ((goesOn_of_rings (Dev.flushDue_moved s.dev)).trans (goesOn_mirrors _)).trans (goesOn_msixAll _)
  generalize s.dev.flushDue.mirrors.msixAll = e at hgo
  have hseq := (hgo.trans ((goesOn_intxSend e 0 (e.wireLevel 0)).trans (goesOn_intxSend _ 1 (e.wireLevel 1)))).1 (.hep .CTN_STATUS_SEQ)
    (by simp [ctnFixed]) rfl
  generalize (e.intxSend 0 (e.wireLevel 0)).intxSend 1 (e.wireLevel 1) = g at hseq
  have hwarn : ∀ (x : Dev) (f : Fld), (x.warn 1).rd f = x.rd f := fun _ _ => rfl
  have hset : ((g.wr (.hep .CTN_STATUS_STATE) 0).ctnEvent .CTN_EVT_RELEASED).rd (.hep .CTN_STATUS_STATE) = 0 ∧
      ((g.wr (.hep .CTN_STATUS_STATE) 0).ctnEvent .CTN_EVT_RELEASED).rd (.hep .CTN_EVT_RELEASED) = 1 ∧
      ((g.wr (.hep .CTN_STATUS_STATE) 0).ctnEvent .CTN_EVT_RELEASED).rd (.hep .PF1_IPEND_CTN) = 1 ∧
      ((g.wr (.hep .CTN_STATUS_STATE) 0).ctnEvent .CTN_EVT_RELEASED).rd (.hep .CTN_STATUS_SEQ) = g.rd (.hep .CTN_STATUS_SEQ) := by
    simp [Dev.ctnEvent, hwarn, Dev.rd_event]
  generalize (g.wr (.hep .CTN_STATUS_STATE) 0).ctnEvent .CTN_EVT_RELEASED = y at hset
  obtain ⟨h1, h2, h3, h4⟩ := hset
  have hres := goesOn_hostResume y
  refine ⟨(hres.1 _ (by simp [ctnFixed]) rfl).trans h1, (hres.1 _ (by simp [ctnFixed]) rfl).trans h2, (hres.1 _ (by simp [ctnFixed]) rfl).trans h3, ?_⟩
  rw [hres.1 _ (by simp [ctnFixed]) rfl, h4, hseq]

/-- The containment of the host port, command by command. -/
theorem containment : Containment := by
  unfold Containment
  intro s seq code
  refine ⟨fun ha => ⟨effect_ctnFreeze ha, effect_ctnFreeze_frozen ha, effect_ctnRelease_noGo ha seq, fun hcode => ⟨effect_ctnRelease_refused ha hcode,
    fun h0 => ⟨completes_ctnRelease ha hcode h0, effect_ctnRelease ha hcode h0⟩⟩⟩, completes_ctnReleaseComplete⟩

/-- Settles O33: the errors of the host link, and its containment. -/
theorem hostLinkErrorsAndContainment : Obligations.HostLinkErrorsAndContainment := ⟨hostLinkErrors, containment⟩

end Sys2Proof.Machine
end

section
-- The theorems are elaborated in order, which keeps the memory that a check of the whole text takes within its limit.
set_option Elab.async false

/-! SUPPORT.  What the failure of a request does, whoever its client is: the registers, tags and channels that it leaves alone
(R273, R300, R323, R337, R425). -/

namespace Sys2Proof.Machine

open Sys2Proof.Safety Sys2Proof.Claims

/-! ### The relation -/

/-- Tags with the same numbers and functions, of which those no longer outstanding keep their state. -/
def TagsEnded (l k : List Tag) : Prop :=
  ∃ φ : Tag → Tag, k = l.map φ ∧ ∀ t, (φ t).tag = t.tag ∧ (φ t).f = t.f ∧ (t.st ≠ .out → (φ t).st = t.st)

/-- Of the registers of `d` only those of `p` and performance counters may differ in `e`; the tags are the same up to their ends, the
requests of the modems wait as before and, where `lls`, the linked-list channels are as before. -/
def EndsIn (p : Fld → Bool) (lls : Bool) (d e : Dev) : Prop :=
  (∀ f, p f = false → isCount f = false → e.rd f = d.rd f) ∧ TagsEnded d.hep.tags e.hep.tags ∧
    (∀ n, (e.rp n).inb = (d.rp n).inb) ∧ (lls = true → ∀ c, e.ll c = d.ll c)

theorem tagsEnded_refl (l : List Tag) : TagsEnded l l := ⟨id, (List.map_id l).symm, fun _ => ⟨rfl, rfl, fun _ => rfl⟩⟩

theorem tagsEnded_trans {l k m : List Tag} (h : TagsEnded l k) (j : TagsEnded k m) : TagsEnded l m := by
  obtain ⟨φ, rfl, hφ⟩ := h
  obtain ⟨ψ, rfl, hψ⟩ := j
  refine ⟨ψ ∘ φ, List.map_map, fun t => ?_⟩
  obtain ⟨h1, h2, h3⟩ := hφ t
  obtain ⟨k1, k2, k3⟩ := hψ (φ t)
  exact ⟨k1.trans h1, k2.trans h2, fun ht => (k3 (by rw [h3 ht]; exact ht)).trans (h3 ht)⟩

theorem tagsEnded_updWhere (l : List Tag) (p : Tag → Bool) (g : Tag → Tag)
    (hg : ∀ t, p t = true → (g t).tag = t.tag ∧ (g t).f = t.f ∧ (t.st ≠ .out → (g t).st = t.st)) : TagsEnded l (updWhere l p g) := by
  refine ⟨_, rfl, fun t => ?_⟩
  split
  · exact hg t ‹_›
  · exact ⟨rfl, rfl, fun _ => rfl⟩

/-- A tag found for its number and function is found again, and has kept its state when it was no longer outstanding. -/
theorem find?_tagsEnded {l k : List Tag} (h : TagsEnded l k) {n f : Nat} {g : Tag} (hg : l.find? (fun t => t.tag = n && t.f = f) = some g)
    (hst : g.st ≠ .out) : (k.find? (fun t => t.tag = n && t.f = f)).map (·.st) = some g.st := by
  obtain ⟨φ, rfl, hφ⟩ := h
  have hcomp : ((fun t : Tag => decide (t.tag = n) && decide (t.f = f)) ∘ φ) = fun t => t.tag = n && t.f = f := by
    funext t
    obtain ⟨h1, h2, -⟩ := hφ t
    simp [h1, h2]
  rw [List.find?_map, hcomp, hg]
  exact congrArg some ((hφ g).2.2 hst)

/-- No request of a function is outstanding after ends when none was before. -/
theorem not_out_tagsEnded {l k : List Tag} (h : TagsEnded l k) {f : Nat} (hl : ∀ g ∈ l, g.f = f → g.st ≠ .out) : ∀ g ∈ k, g.f = f → g.st ≠ .out := by
  obtain ⟨φ, rfl, hφ⟩ := h
  intro g hg hf
  obtain ⟨t, ht, rfl⟩ := List.mem_map.mp hg
  obtain ⟨-, h2, h3⟩ := hφ t
  have := hl t ht (h2.symm.trans hf)
  rw [h3 this]
  exact this

section
variable {p : Fld → Bool} {lls : Bool} {d e g : Dev}

theorem endsIn_refl (d : Dev) : EndsIn p lls d d := ⟨fun _ _ _ => rfl, tagsEnded_refl _, fun _ => rfl, fun _ _ => rfl⟩

theorem endsIn_trans (h : EndsIn p lls d e) (k : EndsIn p lls e g) : EndsIn p lls d g := by
  obtain ⟨h1, h2, h3, h4⟩ := h
  obtain ⟨k1, k2, k3, k4⟩ := k
  exact ⟨fun f hf hc => (k1 f hf hc).trans (h1 f hf hc), tagsEnded_trans h2 k2, fun n => (k3 n).trans (h3 n),
    fun hl c => (k4 hl c).trans (h4 hl c)⟩

theorem endsIn_ite {e' : Dev} (c : Prop) [Decidable c] (h : c → EndsIn p lls d e) (k : ¬ c → EndsIn p lls d e') :
    EndsIn p lls d (if c then e else e') := by
  split
  · exact h ‹_›
  · exact k ‹_›

theorem endsIn_foldl {α : Type} (l : List α) (f : Dev → α → Dev) (hf : ∀ d x, EndsIn p lls d (f d x)) (d : Dev) : EndsIn p lls d (l.foldl f d) := by
  induction l generalizing d with
  | nil => exact endsIn_refl d
  | cons x xs ih => exact endsIn_trans (hf d x) (ih _)

theorem endsIn_weaken {q : Fld → Bool} (hq : ∀ f, p f = true → q f = true) (h : EndsIn p lls d e) : EndsIn q false d e := by
  obtain ⟨h1, h2, h3, -⟩ := h
  exact ⟨fun f hf hc => h1 f (Bool.eq_false_iff.mpr fun ht => Bool.false_ne_true (hf.symm.trans (hq f ht))) hc, h2, h3, fun h => by cases h⟩

/-- A frame whose parts have no tags, requests or channels. -/
theorem endsIn_of_parts {P : List Part} (h : MovedIn p P d e) (ht : TagsEnded d.hep.tags e.hep.tags) (hP : Part.dma ∉ P ∧ Part.rps ∉ P) :
    EndsIn p lls d e := by
  have hdma : e.dma = d.dma := h.2 .dma hP.1
  have hrps : e.rps = d.rps := h.2 .rps hP.2
  exact ⟨h.1, ht, fun n => by rw [Dev.rp, Dev.rp, hrps], fun _ c => by rw [Dev.ll, Dev.ll, hdma]⟩

theorem endsIn_of_moved {P : List Part} (h : MovedIn p P d e) (hP : Part.hep ∉ P ∧ Part.dma ∉ P ∧ Part.rps ∉ P) : EndsIn p lls d e := by
  have hhep : e.hep = d.hep := h.2 .hep hP.1
  exact endsIn_of_parts h (hhep ▸ tagsEnded_refl _) hP.2

theorem endsIn_of_kept {F : List Fld} {P : List Part} (h : Kept F P d e) (hF : ∀ f ∈ F, p f = true)
    (hP : Part.hep ∉ P ∧ Part.dma ∉ P ∧ Part.rps ∉ P) : EndsIn p lls d e := endsIn_of_moved (movedIn_of_kept h hF) hP

/-- A frame in which something leaves for the host. -/
theorem endsIn_of_sent {F : List Fld} {P : List Part} (h : Kept F P d e) (ht : e.hep.tags = d.hep.tags) (hF : ∀ f ∈ F, p f = true)
    (hP : Part.dma ∉ P ∧ Part.rps ∉ P) : EndsIn p lls d e := endsIn_of_parts (movedIn_of_kept h hF) (ht ▸ tagsEnded_refl _) hP

/-- A frame in which a transfer of a channel ends. -/
theorem endsIn_of_dma {P : List Part} (h : MovedIn p P d e) (hP : Part.hep ∉ P ∧ Part.rps ∉ P) : EndsIn p false d e := by
  have hhep : e.hep = d.hep := h.2 .hep hP.1
  have hrps : e.rps = d.rps := h.2 .rps hP.2
  exact ⟨h.1, hhep ▸ tagsEnded_refl _, fun n => by rw [Dev.rp, Dev.rp, hrps], fun h => by cases h⟩

theorem endsIn_vatFree (ls : List Nat) : EndsIn p lls d (d.vatFree ls) := ⟨fun _ _ _ => rfl, tagsEnded_refl _, fun _ => rfl, fun _ _ => rfl⟩

theorem endsIn_modTch (t : Nat) (f : Tch → Tch) : EndsIn p lls d (d.modTch t f) := ⟨fun _ _ _ => rfl, tagsEnded_refl _, fun _ => rfl, fun _ _ => rfl⟩

end

/-! ### Work of rings, connections and memories -/

/-- The registers that ends of entries and commands, and what they let go on, may write. -/
def workField : Fld → Bool
  | .sys _ | .nvt _ | .saf _ | .eng _ => true
  | .rng (.SQ_INDEX_HEAD _) | .rng (.CQ_INDEX_TAIL _) | .rng (.FCNT_COUNT _ _) | .dma (.REQ_MAP_PENDING _) => true
  | _ => false

/-- Ends of entries and commands alone. -/
abbrev Works (d e : Dev) : Prop := EndsIn workField true d e

theorem workField_ecc : ∀ f ∈ eccRegs, workField f = true := by decide

/-- The parts that reads and writes of lines change. -/
def lineParts : List Part := [.mem, .marks, .writeBacks, .toSafe, .used, .nextUid]

theorem lineParts_apart : Part.hep ∉ lineParts ∧ Part.dma ∉ lineParts ∧ Part.rps ∉ lineParts := by decide

theorem tags_count (d : Dev) (e f n : Nat) : (d.count e f n).hep.tags = d.hep.tags := by
  have h : (d.count e f n).hep = d.hep := ((Kept.refl d).count (F := []) (P := []) e f n).same (x := .hep) (by simp)
  rw [h]

theorem tags_ite {d e g : Dev} (c : Prop) [Decidable c] (h : e.hep.tags = d.hep.tags) (k : g.hep.tags = d.hep.tags) :
    (if c then e else g).hep.tags = d.hep.tags := by
  split
  · exact h
  · exact k

theorem tags_hostTlp (d : Dev) (f addr : Nat) (bs : List PByte) : (d.hostTlp f addr bs).hep.tags = d.hep.tags := by
  have hout : ∀ ep, (d.hostOut f addr bs ep).hep.tags = d.hep.tags := fun ep => (tags_count _ _ _ _).trans (tags_count _ _ _ _)
  unfold Dev.hostTlp
  exact tags_ite _ (tags_ite _ rfl (tags_ite _ (hout true) (hout true))) (hout false)

theorem tags_hostWrite (d : Dev) (f addr : Nat) (bs : List PByte) : (d.hostWrite f addr bs).hep.tags = d.hep.tags := by
  have hsplit : ∀ (mps fuel : Nat) (e : Dev) (a : Nat) (bs : List PByte),
      (Dev.splitWrite (fun d a b => d.hostTlp f a b) mps fuel e a bs).hep.tags = e.hep.tags := fun mps fuel => by
    induction fuel with
    | zero => exact fun _ _ _ => rfl
    | succ fuel ih =>
      intro e a bs
      unfold Dev.splitWrite
      split
      · rfl
      · exact (ih _ _ _).trans (tags_hostTlp _ _ _ _)
  exact hsplit _ _ _ _ _

theorem tags_cqWrite (d : Dev) (x : Due) : (d.cqWrite x).hep.tags = d.hep.tags := by
  unfold Dev.cqWrite
  extract_lets c f t d1 t' d2 d3 n d4
  have h1 : d1.hep.tags = d.hep.tags := (tags_count _ _ _ _).trans (tags_hostWrite _ _ _ _)
  have h3 : d3.hep.tags = d.hep.tags := tags_ite _ ((tags_hostWrite d2 _ _ _).trans h1) h1
  exact tags_ite (e := d4.cqIrq c) _ h3 h3

section
variable (d : Dev)

theorem works_inc {f : Fld} (hf : workField f = true) : Works d (d.inc f) :=
  endsIn_of_kept (F := [f]) (P := []) ((Kept.refl d).inc (by simp)) (by simpa using hf) (by simp)

theorem works_cqWrite (x : Due) : Works d (d.cqWrite x) :=
  endsIn_of_sent (d.cqWrite_kept x) (tags_cqWrite d x) (by simp [workField]) (by simp)

theorem works_flushDue : Works d d.flushDue :=
  endsIn_trans (endsIn_of_kept (F := []) (P := [.due]) ((Kept.refl d).withDue _ (by simp)) (by simp) (by simp))
    (endsIn_foldl _ _ (fun e x => works_cqWrite e x) _)

theorem works_pushDueIn (tch : Option Nat) (n idx cookie : Nat) (x : CplEnd) : Works d (d.pushDueIn tch n idx cookie x) := by
  unfold Dev.pushDueIn
  split
  · exact endsIn_refl d
  · exact endsIn_trans (endsIn_of_kept (F := []) (P := [.due]) ((Kept.refl d).withDue _ (by simp)) (by simp) (by simp)) (works_flushDue _)

theorem works_modSq (n : Nat) (g : Sq → Sq) : Works d (d.modSq n g) :=
  endsIn_of_kept (F := []) (P := [.sqs]) ((Kept.refl d).modSq n g (by simp)) (by simp) (by simp)

theorem works_modConn (c : Nat) (g : NvtConn → NvtConn) : Works d (d.modConn c g) :=
  endsIn_of_kept (F := []) (P := [.nvt]) ((Kept.refl d).modConn c g (by simp)) (by simp) (by simp)

theorem works_modCmd (ser : Nat) (g : NvtCmd → NvtCmd) : Works d (d.modCmd ser g) :=
  endsIn_of_kept (F := []) (P := [.nvt]) ((Kept.refl d).modCmd ser g (by simp)) (by simp) (by simp)

theorem works_abortDrain (n fuel : Nat) : Works d (d.abortDrain n fuel) := by
  induction fuel generalizing d with
  | zero => exact endsIn_refl d
  | succ fuel ih =>
    unfold Dev.abortDrain
    split
    · split
      · exact endsIn_trans (works_modSq d n _) (endsIn_trans (works_pushDueIn _ _ _ _ _ _) (ih _))
      · exact endsIn_refl d
    · dsimp only
      split
      · exact endsIn_refl d
      · refine endsIn_ite _ (fun _ => endsIn_refl d) fun _ => endsIn_trans ?_ (endsIn_trans (works_pushDueIn _ _ _ _ _ _) (ih _))
        exact endsIn_of_kept (F := [.rng (.SQ_INDEX_HEAD n)]) (P := []) ((Kept.refl d).wr _ (by simp)) (by simp [workField]) (by simp)

theorem works_endEnt (n ser : Nat) (x : CplEnd) : Works d (d.endEnt n ser x) := by
  unfold Dev.endEnt
  split
  · exact endsIn_refl d
  · exact endsIn_ite _ (fun _ => endsIn_trans (works_modSq d n _) (works_abortDrain _ _ _))
      fun _ => endsIn_trans (works_modSq d n _) (works_pushDueIn _ _ _ _ _ _)

theorem works_free (ls : List Nat) : Works d (d.free ls) :=
  endsIn_of_kept (F := []) (P := [.used]) ((Kept.refl d).withUsed _ (by simp)) (by simp) (by simp)

theorem works_discard (f : Frame) : Works d (d.discard f) := by
  refine endsIn_trans ?_ (works_free _ _)
  unfold Dev.originEnd
  split
  · exact endsIn_refl d
  · exact works_endEnt d _ _ _

theorem works_toClass (cls : Nat) (f : Frame) : Works d (d.toClass cls f) := by
  unfold Dev.toClass
  refine endsIn_ite _ (fun _ => ?_) fun _ => endsIn_trans (works_discard d f) (works_inc _ rfl)
  exact endsIn_of_kept (F := []) (P := [.classq]) ((Kept.refl d).withClassq _ (by simp)) (by simp) (by simp)

/-! ### Lines read and written -/

theorem works_readBytes (ls : List Nat) (off k : Nat) : Works d (d.readBytes ls off k).2.2 :=
  endsIn_of_kept (F := eccRegs) (P := lineParts) (kept_readBytes (.refl d) (List.Subset.refl _) (by decide) (by decide) (by decide) ls off k)
    workField_ecc lineParts_apart

theorem kept_writePart (l off : Nat) (bs : List Byte) (pz : Bool) : Kept eccRegs lineParts d (d.writePart l off bs pz) := by
  have hread := kept_readLine (P := lineParts) (.refl d) (List.Subset.refl _) (by decide) (by decide) (by decide) l
  unfold Dev.writePart
  generalize d.readLine l = r at hread
  obtain ⟨b, q, x⟩ := r
  exact ((hread.withMem _ (by decide)).withMarks _ (by decide)).withWriteBacks _ (by decide)

theorem kept_writeRun (ls : List Nat) (off : Nat) (bs : List Byte) (pz : Bool) : Kept eccRegs lineParts d (d.writeRun ls off bs pz) := by
  induction ls generalizing d off bs with
  | nil => exact .refl d
  | cons l ls ih =>
    unfold Dev.writeRun
    refine .ite _ (fun _ => ih d _ _) fun _ => .ite _ (fun _ => .refl d) fun _ => Kept.trans ?_ (ih _ _ _)
    exact .ite _ (fun _ => (Kept.refl d).writeLine _ _ _ (by decide) (by decide) (by decide)) fun _ => kept_writePart d _ _ _ _

theorem works_writeRun (ls : List Nat) (off : Nat) (bs : List Byte) (pz : Bool) : Works d (d.writeRun ls off bs pz) :=
  endsIn_of_kept (kept_writeRun d ls off bs pz) workField_ecc lineParts_apart

theorem works_newFrame {bs : List Byte} {pz : Bool} {info : Meta} {f : Frame} {x : Dev} (h : d.newFrame bs pz info = some (f, x)) : Works d x := by
  unfold Dev.newFrame at h
  split at h
  · cases h
  · rename_i ls y halloc
    obtain ⟨-, hy⟩ := Dev.alloc_eq halloc
    obtain ⟨-, rfl⟩ := Prod.mk.inj (Option.some.inj h)
    have hused : Kept [] lineParts d y := hy ▸ .withUsed (.refl _) _ (by decide)
    have huid : Kept [] lineParts d y.newUid.2 := hused.withNextUid _ (by decide)
    exact endsIn_trans (endsIn_of_kept huid (by simp) lineParts_apart) (works_writeRun _ _ _ _ _)

/-! ### Connections -/

theorem works_nvtCnt (i : Nat) : Works d (d.nvtCnt i) := works_inc d rfl

theorem works_count (ev inst k : Nat) : Works d (d.count ev inst k) :=
  endsIn_of_kept (F := []) (P := []) ((Kept.refl d).count _ _ _) (by simp) (by simp)

theorem works_freeCount (n : Nat) : Works d { d with freeCount := n } :=
  endsIn_of_kept (F := []) (P := []) (kept_freeCount (.refl d) n) (by simp) (by simp)

theorem works_segment (c seq flags : Nat) (opts payload : List Byte) : Works d (d.segment c seq flags opts payload).2 := by
  unfold Dev.segment
  dsimp only
  split
  · exact works_freeCount d _
  · exact works_freeCount d _

theorem works_nvtEmit (c seq flags : Nat) (opts payload : List Byte) (pz : Bool) : Works d (d.nvtEmit c seq flags opts payload pz) := by
  unfold Dev.nvtEmit
  dsimp only
  refine endsIn_trans (works_segment d c seq flags opts payload) ?_
  generalize (d.segment c seq flags opts payload).2 = e
  split
  · exact endsIn_refl e
  · rename_i f x hnew
    exact endsIn_trans (works_newFrame e hnew) (endsIn_trans (works_nvtCnt x 0) (endsIn_trans (works_count _ _ _ _) (works_toClass _ _ _)))

theorem works_bufGet (c off k : Nat) : Works d (d.bufGet c off k).2.2 :=
  endsIn_trans (works_readBytes d _ _ _) (works_readBytes _ _ _ _)

theorem works_nvtSend (c fuel : Nat) : Works d (d.nvtSend c fuel) := by
  induction fuel generalizing d with
  | zero => exact endsIn_refl d
  | succ fuel ih =>
    unfold Dev.nvtSend
    extract_lets n k
    refine endsIn_ite _ (fun _ => endsIn_refl d) fun _ => endsIn_trans (works_bufGet d c n.nxt k) ?_
    exact endsIn_trans (works_nvtEmit _ _ _ _ _ _ _) (endsIn_trans (works_modConn _ _ _) (ih _))

theorem works_bufPut (c : Nat) (bs : List Byte) : Works d (d.bufPut c bs) :=
  endsIn_trans (works_writeRun d _ _ _ _) (endsIn_trans (works_writeRun _ _ _ _ _) (works_modConn _ _ _))

theorem works_nvtFill (c fuel : Nat) : Works d (d.nvtFill c fuel) := by
  induction fuel generalizing d with
  | zero => exact endsIn_refl d
  | succ fuel ih =>
    unfold Dev.nvtFill
    dsimp only
    split
    · exact endsIn_refl d
    · rename_i p ps _
      generalize List.take _ (List.drop p.done p.ready) = bs
      have hput : Works d (if bs = [] then d else d.bufPut c bs) := endsIn_ite _ (fun _ => endsIn_refl d) fun _ => works_bufPut d c bs
      refine endsIn_trans hput ?_
      generalize (if bs = [] then d else d.bufPut c bs) = e
      refine endsIn_ite _ (fun _ => ?_) fun _ => works_modConn e _ _
      have hcnt : Works e (if p.spoiled then e.nvtCnt 6 else e) := endsIn_ite _ (fun _ => works_nvtCnt e 6) fun _ => endsIn_refl e
      exact endsIn_trans hcnt (endsIn_trans (endsIn_vatFree _) (endsIn_trans (works_modConn _ _ _) (ih _)))

theorem works_nvtPump (c : Nat) : Works d (d.nvtPump c) := by
  unfold Dev.nvtPump
  exact endsIn_ite _ (fun _ => endsIn_trans (works_nvtFill d _ _) (works_nvtSend _ _ _)) fun _ => endsIn_refl d

/-! ### Commands -/

theorem works_reqSource (kind : Nat) (sel : Nat → Bool) : Works d (d.reqSource kind sel) :=
  endsIn_foldl _ _ (fun e _ => endsIn_ite _ (fun _ => works_inc e rfl) fun _ => endsIn_refl e) d

theorem works_withNvt (n : Nvt) : Works d { d with nvt := n } :=
  endsIn_of_kept (F := []) (P := [.nvt]) ((Kept.refl d).withNvt n (by simp)) (by simp) (by simp)

theorem works_nvtFinish (ser : Nat) : Works d (d.nvtFinish ser) := by
  unfold Dev.nvtFinish
  split
  · exact endsIn_refl d
  · refine endsIn_ite _ (fun _ => endsIn_refl d) fun _ => ?_
    exact endsIn_trans (works_withNvt d _) (endsIn_trans (works_endEnt _ _ _ _) (works_reqSource _ _ _))

theorem works_endLegs (ser : Nat) (p : NvtLeg → Bool) (st : NvtLeg → Nat) : Works d (d.endLegs ser p st) :=
  endsIn_trans (works_modCmd d ser _) (works_nvtFinish _ ser)

theorem works_spoilLeg (ser leg c : Nat) (drop : Bool) : Works d (d.spoilLeg ser leg c drop) :=
  endsIn_trans (endsIn_vatFree _) (works_modConn _ c _)

theorem works_nvtUnsent (ser st : Nat) : Works d (d.nvtUnsent ser st) := by
  unfold Dev.nvtUnsent
  split
  · exact endsIn_refl d
  · refine endsIn_trans (endsIn_foldl _ _ (fun e i => ?_) d) (works_endLegs _ _ _ _)
    split
    · exact works_spoilLeg e _ _ _ _
    · exact endsIn_refl e

theorem works_sflushEnded (ser : Nat) : Works d (d.sflushEnded ser) := endsIn_trans (works_modCmd d ser _) (works_nvtFinish _ ser)

theorem works_sdataArrived (ser leg off : Nat) (bytes : List (Option Byte)) (lines : List Nat) (st : Option Nat) :
    Works d (d.sdataArrived ser leg off bytes lines st) := by
  have hpump : ∀ (e : Dev) (c : Nat) (g : NvtConn → NvtConn), Works e ((e.modConn c g).nvtPump c) := fun e c g =>
    endsIn_trans (works_modConn e c g) (works_nvtPump _ c)
  unfold Dev.sdataArrived
  split
  · exact endsIn_vatFree _
  · split
    · exact endsIn_vatFree _
    · dsimp only
      split
      · exact endsIn_vatFree _
      · split
        · exact endsIn_ite _ (fun _ => endsIn_trans (endsIn_vatFree _) (works_nvtUnsent _ _ _)) fun _ =>
            endsIn_trans (works_modCmd d _ _) (hpump _ _ _)
        · exact hpump d _ _

/-! ### Entries of rings -/

theorem works_sqMirror (n : Nat) : Works d (d.sqMirror n) := by
  have hlag : ∀ (e : Dev) (v : Bool), Works e (e.modSq n (fun q => { q with lag := v })) := fun e v => works_modSq e n _
  unfold Dev.sqMirror
  dsimp only
  refine endsIn_ite _ (fun _ => endsIn_refl d) fun _ => endsIn_ite _ (fun _ => hlag d true) fun _ => endsIn_trans ?_ (hlag _ false)
  exact endsIn_of_sent (d.hostWrite_clean_kept _ _ _) (tags_hostWrite d _ _ _) (by simp) (by simp)

theorem works_entryBad (n idx : Nat) (host : Bool) (flags : Nat) : Works d (d.entryBad n idx host flags) := by
  unfold Dev.entryBad
  dsimp only
  exact endsIn_trans (endsIn_ite _ (fun _ => works_inc d rfl) fun _ => endsIn_refl d) (works_pushDueIn _ _ _ _ _ _)

theorem works_entriesFailed (n idx k : Nat) : Works d (d.entriesFailed n idx k) := by
  induction k generalizing d idx with
  | zero => exact works_sqMirror d n
  | succ k ih =>
    unfold Dev.entriesFailed
    refine endsIn_trans ?_ (endsIn_trans (works_entryBad _ n idx true 0) (ih _ _))
    exact endsIn_of_kept (F := [.rng (.SQ_INDEX_HEAD n)]) (P := []) ((Kept.refl d).wr _ (by simp)) (by simp [workField]) (by simp)

theorem works_bcTx (bs : List Byte) : Works d (d.bcTx bs).2 := by
  have hcnt : ∀ f, Works d (d.inc (.saf f)) := fun f => works_inc d rfl
  unfold Dev.bcTx
  dsimp only
  split
  · exact hcnt _
  · split
    · exact hcnt _
    · split
      · exact hcnt _
      · split
        · exact hcnt _
        · exact endsIn_of_kept (P := []) (Dev.wrs_kept d _) (by simp [workField]) (by simp)

theorem works_warn (b : Nat) : Works d (d.warn b) :=
  endsIn_of_kept (F := []) (P := [.toSafe]) ((Kept.refl d).withToSafe _ (by simp)) (by simp) (by simp)

theorem works_txEnqueue (n : Nat) (e : SqEnt) (f : Frame) : Works d (d.txEnqueue n e f) := by
  unfold Dev.txEnqueue
  extract_lets cls pf1 result g x
  have hx : Works d x := works_modSq d n _
  have hread : Works x (x.frameBytes g).2.2 := works_readBytes x _ _ _
  refine endsIn_trans hx (endsIn_ite _ (fun _ => endsIn_trans hread ?_) fun _ => works_toClass x _ _)
  refine endsIn_trans (works_bcTx _ (x.frameBytes g).1) (endsIn_ite _ (fun _ => works_toClass _ _ _) fun _ => ?_)
  exact endsIn_trans (works_warn _ 6) (works_discard _ _)

theorem works_txTurn (n : Nat) (es : List SqEnt) : Works d (d.txTurn n es) := by
  induction es generalizing d with
  | nil => exact endsIn_refl d
  | cons e es ih =>
    unfold Dev.txTurn
    refine endsIn_ite _ (fun _ => ih d) fun _ => ?_
    split
    · exact endsIn_ite _ (fun _ => endsIn_refl d) fun _ => endsIn_trans (works_txEnqueue d n e _) (ih _)
    · exact endsIn_refl d

theorem works_ringFailed (n : Nat) : Works d (d.ringFailed n) := by
  unfold Dev.ringFailed
  split
  · exact endsIn_ite _ (fun _ => endsIn_modTch _ _) fun _ => endsIn_refl d
  · exact endsIn_refl d

/-! ### Requests that fail -/

/-- The registers that the failure of a request may write. -/
def endField (f : Fld) : Bool := workField f || dmaField f

/-- What the failure of a request leaves alone is as before. -/
abbrev Ends (d e : Dev) : Prop := EndsIn endField false d e

omit d in
theorem ends_of_works {d e : Dev} (h : Works d e) : Ends d e := endsIn_weaken (fun f hf => by simp [endField, hf]) h

omit d in
theorem ends_of_dma {P : List Part} {d e : Dev} (h : MovedIn dmaField P d e) (hP : Part.hep ∉ P ∧ Part.rps ∉ P) : Ends d e :=
  endsIn_of_dma (h.mono (fun f hf => by simp [endField, hf]) (List.Subset.refl _)) hP

theorem tagsEnded_writeOff (p : Tag → Bool) (st : TagState) : TagsEnded d.hep.tags (d.writeOff p st).hep.tags := by
  rw [writeOff_tags]
  refine tagsEnded_updWhere _ _ _ fun t ht => ⟨rfl, rfl, fun hn => absurd ?_ hn⟩
  simp only [Bool.and_eq_true, decide_eq_true_eq] at ht
  exact ht.1

theorem ends_writeOff (p : Tag → Bool) (st : TagState) : Ends d (d.writeOff p st) := by
  have hm := writeOff_moved d p st
  have hrps : (d.writeOff p st).rps = d.rps := hm.2 .rps (by simp [dmaParts])
  refine ⟨(hm.mono (q := endField) (fun f hf => by simp [endField, hf]) (List.Subset.refl _)).1, tagsEnded_writeOff d p st,
    fun n => by rw [Dev.rp, Dev.rp, hrps], fun h => by cases h⟩

theorem ends_modRp (rp : Nat) (g : Rp → Rp) (hg : ∀ r, (g r).inb = r.inb) : Ends d (d.modRp rp g) := by
  refine ⟨fun _ _ _ => rfl, tagsEnded_refl _, fun n => ?_, fun h => by cases h⟩
  rw [Dev.rp_modRp]
  split
  · rename_i h
    obtain ⟨rfl, -⟩ := h
    exact hg _
  · rfl

theorem ends_modXfer (x : Nat) (f : Xfer → Xfer) : Ends d (d.modXfer x f) := by
  refine ends_of_dma (P := [.dma]) ?_ (by simp)
  unfold Dev.modXfer Dev.setXfer
  exact .ite _ (fun _ => movedIn_of_kept (F := []) ((Kept.refl d).modTch _ _ (by simp)) (by simp))
    fun _ => movedIn_of_kept (F := []) ((Kept.refl d).modLl _ _ (by simp)) (by simp)

theorem ends_chAfter (x : Nat) : Ends d (d.chAfter x) :=
  endsIn_ite _ (fun _ => ends_of_dma (tchSettle_settled d _) (by decide)) fun _ => endsIn_refl d

/-- A transfer that ends BAD (R323). -/
theorem ends_chBad (x code addr : Nat) : Ends d (d.chBad x code addr) := by
  unfold Dev.chBad
  split
  · exact endsIn_refl d
  · refine endsIn_ite _ (fun _ => endsIn_refl d) fun _ => ?_
    dsimp only
    refine endsIn_trans (endsIn_trans (ends_writeOff d _ _) (endsIn_vatFree _)) (endsIn_trans (endsIn_foldl _ _ (fun e rp => ?_) _)
      (endsIn_trans (ends_modXfer _ _ _) (ends_chAfter _ _)))
    exact endsIn_trans (endsIn_vatFree _) (ends_modRp _ rp _ fun _ => rfl)

theorem ends_llHalt (c st : Nat) : Ends d (d.llHalt c st) := by
  refine ends_of_dma (P := [.dma, .irqs]) ?_ (by simp)
  refine movedIn_of_kept (F := [.dma (.LL_STATUS_STATE c), .dma .ERR_LOG_VALID, .dma .ERR_LOG_CHANNEL, .dma .ERR_LOG_STATUS, .dma .ERR_ADDR_ADDR,
    .dma .STATUS_HALTED]) ?_ (by simp [dmaField])
  exact ((((Kept.refl d).modLl _ _ (by simp)).wr _ (by simp)).logFirst _ (by simp) (by simp)).event _ _ (by simp) (by simp)

theorem ends_modemAnswer (rp tag st : Nat) (bs : List Byte) (ep : Bool) : Ends d (d.modemAnswer rp tag st bs ep) := by
  unfold Dev.modemAnswer
  refine endsIn_ite _ (fun _ => ?_) fun _ => endsIn_refl d
  exact endsIn_of_sent (F := []) (P := [.out, .hep]) ((Kept.refl d).emit _ (by simp) (by simp)) rfl (by simp) (by simp)

theorem ends_payFailed (n ser : Nat) : Ends d (d.payFailed n ser) := by
  unfold Dev.payFailed
  split
  · exact endsIn_refl d
  · rename_i e _
    dsimp only
    have hdrop : Ends d (match e.frame with | some f => d.dropFrame f | none => d) := by
      split
      · exact ends_of_works (works_free d _)
      · exact endsIn_refl d
    refine endsIn_trans (endsIn_trans hdrop (ends_writeOff _ (fun t => match t.client with | .pay m s _ => m = n && s = ser | _ => false) .writtenOff))
      (ends_of_works ?_)
    exact endsIn_trans (works_inc _ rfl) (endsIn_trans (works_endEnt _ _ _ _) (works_txTurn _ _ _))

/-- What the failure of a request leaves alone, whoever its client is (R273, R300, R323, R337, R425). -/
theorem ends_reqFailed (t : Tag) (code : Nat) : Ends d (d.reqFailed t code) := by
  unfold Dev.reqFailed
  split
  · exact endsIn_ite _ (fun _ => endsIn_refl d) fun _ => ends_of_works (endsIn_trans (works_ringFailed d _) (works_entriesFailed _ _ _ _))
  · exact endsIn_trans (ends_of_works (works_ringFailed d _)) (ends_payFailed _ _ _)
  · exact endsIn_ite _ (fun _ => ends_llHalt d _ _) fun _ => endsIn_refl d
  · exact ends_chBad d _ _ _
  · exact ends_chBad d _ _ _
  · exact ends_of_works (works_nvtUnsent d _ _)
  · exact ends_of_works (works_sdataArrived d _ _ _ _ _ _)
  · exact ends_of_works (endsIn_trans (works_modCmd d _ _) (works_sflushEnded _ _))
  · exact ends_modemAnswer d _ _ _ _ _

end

end Sys2Proof.Machine
end

section
-- The theorems are elaborated in order, which keeps the memory that a check of the whole text takes within its limit.
set_option Elab.async false

/-! SUPPORT.  Completions received and the statement they settle (R322, R323, R327, R391 to R394). -/

namespace Sys2Proof.Machine

open Sys2Proof.Safety Sys2Proof.Claims

/-! ### Bytes put in a run of clean lines -/

theorem sliceB_add (bs : List Byte) (o j k : Nat) : sliceB bs o (j + k) = sliceB bs o j ++ sliceB bs (o + j) k := by
  simp [sliceB, List.range_add, Nat.add_assoc, Function.comp_def]

theorem sliceB_rawLine_stored (d : Dev) (l off : Nat) (bs : List Byte) (h : off + bs.length ≤ 64) :
    sliceB ((d.stored l off bs).rawLine l) off bs.length = bs := by
  rw [Dev.sliceB_rawLine _ _ _ _ h, Dev.peek, Dev.mem_stored]
  refine List.ext_getElem (by simp) fun i hi _ => ?_
  rw [List.getElem_map, List.getElem_range, Mem.get_write_inside _ _ _ _ (by simpa using hi), List.getD_eq_getElem]

theorem rawLine_stored_other (d : Dev) {l m : Nat} (off : Nat) (bs : List Byte) (h : off + bs.length ≤ 64) (hm : m ≠ l) :
    (d.stored l off bs).rawLine m = d.rawLine m := by
  rw [Dev.rawLine, Dev.rawLine, Dev.peek, Dev.peek, Dev.mem_stored]
  refine List.map_congr_left fun i hi => Mem.get_write_outside _ _ _ _ ?_
  have := List.mem_range.mp hi
  omega

section
variable {l : Nat} {ls : List Nat} {off : Nat} {bs : List Byte} {d : Dev} (hm : d.marks = [])
include hm

/-- The bytes that lie in the first line are stored there, the others go on. -/
theorem putMarked_cons (hoff : off < 64) (hb : bs ≠ []) : d.putMarked (l :: ls) off (clean bs) =
    (d.stored l off (bs.take (64 - off))).putMarked ls 0 (clean (bs.drop (64 - off))) := by
  have htake : (clean bs).take (64 - off) = clean (bs.take (64 - off)) := by simp [clean]
  have hdrop : (clean bs).drop (64 - off) = clean (bs.drop (64 - off)) := by simp [clean]
  have hpos : 0 < bs.length := List.length_pos_iff.mpr hb
  rw [Dev.putMarked, if_neg (by omega), if_neg (by simpa [clean] using hb)]
  dsimp only
  rw [htake, hdrop, map_fst_clean, any_snd_clean, Dev.writeRun_one hm l off _ (List.length_pos_iff.mp (by rw [List.length_take]; omega))
    (by rw [List.length_take]; omega)]

theorem putMarked_kept : Kept [] [.mem, .writeBacks] d (d.putMarked ls off (clean bs)) := by
  induction ls generalizing off bs d with
  | nil => exact .refl d
  | cons l ls ih =>
    by_cases hoff : off < 64
    · by_cases hb : bs = []
      · rw [Dev.putMarked, if_neg (by omega), if_pos (by rw [hb]; rfl)]
        exact .refl d
      · rw [putMarked_cons hm hoff hb]
        exact (kept_stored (.refl d) _ _ _ (by simp) (by simp)).trans (ih hm)
    · rw [Dev.putMarked, if_pos (by omega)]
      exact ih hm

/-- Other lines are as before, and the bytes are read back (R322). -/
theorem putMarked_read (hn : ls.Nodup) (h : off + bs.length ≤ 64 * ls.length) :
    (∀ l, l ∉ ls → (d.putMarked ls off (clean bs)).rawLine l = d.rawLine l) ∧
      sliceB (ls.flatMap (d.putMarked ls off (clean bs)).rawLine) off bs.length = bs := by
  induction ls generalizing off bs d with
  | nil =>
    obtain rfl : bs = [] := List.eq_nil_of_length_eq_zero (by rw [List.length_nil] at h; omega)
    exact ⟨fun _ _ => rfl, rfl⟩
  | cons l ls ih =>
    obtain ⟨hl, hls⟩ := List.nodup_cons.mp hn
    have hraw : ∀ e : Dev, (e.rawLine l).length = 64 := fun e => by simp [Dev.rawLine, Dev.peek]
    rw [List.length_cons] at h
    by_cases hoff : off < 64
    · by_cases hb : bs = []
      · rw [Dev.putMarked, if_neg (by omega), if_pos (by rw [hb]; rfl), hb]
        exact ⟨fun _ _ => rfl, rfl⟩
      · have hfit : off + (bs.take (64 - off)).length ≤ 64 := by rw [List.length_take]; omega
        have hself := sliceB_rawLine_stored d l off (bs.take (64 - off)) hfit
        have hrest := fun m (hml : m ≠ l) => rawLine_stored_other d off (bs.take (64 - off)) hfit hml
        have hms : (d.stored l off (bs.take (64 - off))).marks = [] := hm
        rw [putMarked_cons hm hoff hb]
        generalize d.stored l off (bs.take (64 - off)) = x at hself hrest hms
        obtain ⟨hother, hread⟩ := ih (off := 0) (bs := bs.drop (64 - off)) hms hls (by rw [List.length_drop]; omega)
        generalize x.putMarked ls 0 (clean (bs.drop (64 - off))) = e at hother hread
        refine ⟨fun m hmem => ?_, ?_⟩
        · obtain ⟨hml, hmls⟩ := not_or.mp (fun hc => hmem (List.mem_cons.mpr hc))
          rw [hother m hmls, hrest m hml]
        · have hsplit : bs.length = (bs.take (64 - off)).length + (bs.drop (64 - off)).length := by
            rw [List.length_take, List.length_drop]
            omega
          rw [List.flatMap_cons, hsplit, sliceB_add, sliceB_append_left _ _ _ _ (by rw [hraw]; exact hfit), hother l hl, hself]
          by_cases hd : bs.drop (64 - off) = []
          · rw [hd]
            simp [sliceB, List.take_of_length_le (List.drop_eq_nil_iff.mp hd)]
          · have hlong : 64 - off < bs.length := by
              by_contra hc
              exact hd (List.drop_eq_nil_iff.mpr (by omega))
            have hfull : off + (bs.take (64 - off)).length = 64 := by rw [List.length_take]; omega
            rw [hfull, sliceB_append_right _ _ _ _ (by rw [hraw]), hraw, Nat.sub_self, hread, List.take_append_drop]
    · rw [Dev.putMarked, if_pos (by omega)]
      obtain ⟨hother, hread⟩ := ih (off := off - 64) (bs := bs) hm hls (by omega)
      refine ⟨fun m hmem => hother m fun hc => hmem (List.mem_cons_of_mem _ hc), ?_⟩
      rw [List.flatMap_cons, sliceB_append_right _ _ _ _ (by rw [hraw]; omega), hraw, hread]

end

theorem kept_marks {F : List Fld} {P : List Part} {d e : Dev} (h : Kept F P d e) (hP : Part.marks ∉ P) (hm : d.marks = []) : e.marks = [] := by
  have heq : e.marks = d.marks := h.same (x := .marks) hP
  exact heq.trans hm

/-! ### The completion of a request -/

/-- What a completion does to the request of tag `t` (R322, R323, R391, R393, R394). -/
def Dev.cplFor (d : Dev) (t : Tag) (status : Fin 8) (ep : Bool) (count lower : Nat) (data : List Byte) : Dev :=
  if t.st ≠ .out then d.lateCpl t (status.val ≠ 0 || count ≤ data.length)
  else if status.val = 0 then
    if count ≠ t.len - t.got ∨ lower ≠ (t.addr + t.got) % 128 ∨ data = [] ∨ t.len - t.got < data.length then d.malformedCpl t
    else d.cplData t ep data
  else if status.val = 1 ∨ status.val = 4 then (d.dropTag t).reqFailed t 0x80
  else d.malformedCpl t

theorem tagTimers_quiet {d : Dev} (h : ∀ g ∈ d.hep.tags, g.st = .out → d.now < g.expiry) : d.tagTimers = d := by
  have hnil : d.hep.tags.filter (fun t => t.st = .out && t.expiry ≤ d.now) = [] := List.filter_eq_nil_iff.mpr fun g hg hp => by
    simp only [Bool.and_eq_true, decide_eq_true_eq] at hp
    have := h g hg hp.1
    omega
  rw [Dev.tagTimers, hnil, List.foldl_nil]

theorem kept_dropTag (d : Dev) (t : Tag) : Kept [] [.dma, .hep] d (d.dropTag t) := ((Kept.refl d).withDma _ (by simp)).withHep _ (by simp)

theorem tags_dropTag (d : Dev) (t : Tag) : (d.dropTag t).hep.tags = d.hep.tags.filter (fun g => !(g.tag = t.tag && g.f = t.f)) := rfl

/-- The tag of a piece that disagrees with its request is quarantined (R394). -/
theorem find?_written_off {l : List Tag} {n k : Nat} {g : Tag} (hg : l.find? (fun t => t.tag = n && t.f = k) = some g) (hst : g.st = .out) :
    (updWhere l (fun t => t.st = .out && (t.tag = g.tag && t.f = g.f)) (fun t => { t with st := .malformed, lines := [] })).find?
      (fun t => t.tag = n && t.f = k) = some { g with st := .malformed, lines := [] } := by
  have hcomp : ((fun t : Tag => decide (t.tag = n) && decide (t.f = k)) ∘
      fun t => if (t.st = .out && (t.tag = g.tag && t.f = g.f) : Bool) then { t with st := .malformed, lines := [] } else t) =
      fun t => t.tag = n && t.f = k := by
    funext t
    rw [Function.comp_apply]
    split <;> rfl
  rw [updWhere, List.find?_map, hcomp, hg]
  simp [hst]

section
variable {s : State} {f : Fin 50} (hs : s.held = false) (hdl : s.dev.rd (.hep .LINK_STATUS_DL_UP) ≠ 0) (hq : LinkQuiet s.dev)
  (status : Fin 8) (ep : Bool) (count lower : Nat) (data : List Byte)
include hs hdl hq

theorem exec_completionReceived (tag : Nat) : exec (.completionReceived tag f status ep count lower data) s = .next { s with
    dev := match s.dev.hep.tags.find? (fun t => t.tag = tag && t.f = f.val) with
      | none => ((s.dev.count 0x51 0 1).ueError [0, 1] 16 true []).errCnt 2
      | some t => ((s.dev.count 0x51 0 1).cplFor t status ep count lower data).drainInb } := by
  have hup : s.dev.is (.hep .LINK_STATUS_DL_UP) = true := (Dev.is_eq_true_iff _ _).mpr hdl
  have htags : (s.dev.count 0x51 0 1).hep.tags = s.dev.hep.tags := tags_count _ _ _ _
  show execCompletionReceived tag f status ep count lower data s = _
  rw [execCompletionReceived, State.run_live s _ hs]
  dsimp only
  rw [if_neg (by simp [hup]), tagTimers_quiet hq.1, htags]
  rfl

theorem effect_completion_unexpected {tag : Nat} (hnone : s.dev.hep.tags.find? (fun t => t.tag = tag && t.f = f.val) = none) :
    Effect (.completionReceived tag f status ep count lower data) s (.hep (.ERR_CNT_COUNT 2) :: errRegs) errParts (fun t =>
      Counts s.dev t (.hep (.ERR_CNT_COUNT 2)) ∧ t.hep.tags = s.dev.hep.tags ∧ ∀ g : Fin 2, (t.rd (.cs g .AER_UE_STS)).testBit 16 = true) := by
  have hx := exec_completionReceived hs hdl hq status ep count lower data tag (f := f)
  rw [hnone] at hx
  have hk0 : Kept [] [] s.dev (s.dev.count 0x51 0 1) := (Kept.refl _).count _ _ _
  have ht0 : (s.dev.count 0x51 0 1).hep.tags = s.dev.hep.tags := tags_count _ _ _ _
  generalize s.dev.count 0x51 0 1 = e at hx hk0 ht0
  obtain ⟨hk, -, hset⟩ := ueError_effect (gs := [0, 1]) (bit := 16) (by decide) (by simp) true [] e
  obtain ⟨-, ht⟩ := ueError_sends e [0, 1] 16 true []
  generalize e.ueError [0, 1] 16 true [] = x at hx hk hset ht
  have hcnt : x.rd (.hep (.ERR_CNT_COUNT 2)) = s.dev.rd (.hep (.ERR_CNT_COUNT 2)) :=
    (hk.rd (by simp [errRegs]) rfl).trans (hk0.rd (by simp) rfl)
  refine .of_next hx (((hk0.mono (by simp) (by simp)).trans (hk.mono (List.subset_cons_self _ _) (List.Subset.refl _))).inc (by simp))
    ⟨?_, ht.trans ht0, fun g => ?_⟩
  · simp [Counts, Dev.errCnt, Dev.rd_inc, hcnt]
  · have hrd : (x.errCnt 2).rd (.cs g .AER_UE_STS) = x.rd (.cs g .AER_UE_STS) := by simp [Dev.errCnt, Dev.rd_inc]
    rw [hrd]
    exact hset g (by fin_cases g <;> simp)

section
variable {g : Tag} (hg : InUse s.dev g f)
include hg

theorem completes_completion {post : Dev → Prop} (h : ∀ e, Kept [] [] s.dev e →
      (∀ n, ((e.cplFor g status ep count lower data).rp n).inb = (e.rp n).inb) ∧ post (e.cplFor g status ep count lower data)) :
    Completes (.completionReceived g.tag f status ep count lower data) s post := by
  have hx := exec_completionReceived hs hdl hq status ep count lower data g.tag (f := f)
  rw [hg.2] at hx
  have hk0 : Kept [] [] s.dev (s.dev.count 0x51 0 1) := (Kept.refl _).count _ _ _
  dsimp only at hx
  generalize s.dev.count 0x51 0 1 = e at hx hk0
  obtain ⟨hinb, hpost⟩ := h e hk0
  have hrps : e.rps = s.dev.rps := hk0.same (x := .rps) (by simp)
  rw [drainInb_idle fun rp => by rw [hinb, Dev.rp, hrps]; exact hq.2 rp] at hx
  exact ⟨_, hx, rfl, rfl, hpost⟩

theorem effect_completion {F : List Fld} {P : List Part} {post : Dev → Prop} (hP : Part.rps ∉ P) (h : ∀ e, Kept [] [] s.dev e →
      Kept F P e (e.cplFor g status ep count lower data) ∧ post (e.cplFor g status ep count lower data)) :
    Effect (.completionReceived g.tag f status ep count lower data) s F P post := by
  refine completes_completion hs hdl hq status ep count lower data hg fun e he => ?_
  obtain ⟨hk, hp⟩ := h e he
  have hrps : (e.cplFor g status ep count lower data).rps = e.rps := hk.same (x := .rps) hP
  have hall := (he.mono (F' := F) (P' := P) (by simp) (by simp)).trans hk
  exact ⟨fun n => by rw [Dev.rp, Dev.rp, hrps], hp, hall.1, hall.2⟩

/-! #### A quarantined tag -/

theorem effect_completion_late_timed (hst : g.st = .timed) (hfin : status ≠ 0 ∨ count ≤ data.length) :
    Effect (.completionReceived g.tag f status ep count lower data) s (.hep (.ERR_CNT_COUNT 0) :: errRegs) (.dma :: errParts) (fun t =>
      Counts s.dev t (.hep (.ERR_CNT_COUNT 0)) ∧ t.hep.tags = tagsWithout s.dev g) := by
  refine effect_completion hs hdl hq status ep count lower data hg (by simp [errParts]) fun e he => ?_
  have hlate : e.cplFor g status ep count lower data = ((e.dropTag g).ueError [aerOwner g.f] 16 true []).errCnt 0 := by
    have hf : (status.val ≠ 0 || count ≤ data.length : Bool) = true := by
      simpa only [Bool.or_eq_true, decide_eq_true_eq, ne_eq, Fin.val_eq_zero_iff] using hfin
    rw [Dev.cplFor, if_pos (by simp [hst]), hf, Dev.lateCpl, if_neg (by simp), if_pos hst]
  rw [hlate]
  have hhep : e.hep = s.dev.hep := he.same (x := .hep) (by simp)
  have hdrop := kept_dropTag e g
  have ht0 : (e.dropTag g).hep.tags = tagsWithout s.dev g := by rw [tags_dropTag, hhep]; rfl
  generalize e.dropTag g = y at hdrop ht0
  obtain ⟨hk, -, -⟩ := ueError_effect (gs := [aerOwner g.f]) (bit := 16) (by decide) (by simpa using aerOwner_lt g.f) true [] y
  obtain ⟨-, ht⟩ := ueError_sends y [aerOwner g.f] 16 true []
  generalize y.ueError [aerOwner g.f] 16 true [] = x at hk ht
  have hcnt : x.rd (.hep (.ERR_CNT_COUNT 0)) = s.dev.rd (.hep (.ERR_CNT_COUNT 0)) :=
    (hk.rd (by simp [errRegs]) rfl).trans ((hdrop.rd (by simp) rfl).trans (he.rd (by simp) rfl))
  refine ⟨((hdrop.mono (by simp) (by simp [errParts])).trans (hk.mono (List.subset_cons_self _ _) (List.subset_cons_self _ _))).inc (by simp), ?_,
    ht.trans ht0⟩
  simp [Counts, Dev.errCnt, Dev.rd_inc, hcnt]

theorem effect_completion_late (hst : g.st ≠ .out) (hnt : g.st ≠ .timed) (hfin : status ≠ 0 ∨ count ≤ data.length) :
    Effect (.completionReceived g.tag f status ep count lower data) s [.hep (.ERR_CNT_COUNT 1)] [.dma, .hep] (fun t =>
      Counts s.dev t (.hep (.ERR_CNT_COUNT 1)) ∧ t.hep.tags = tagsWithout s.dev g) := by
  refine effect_completion hs hdl hq status ep count lower data hg (by simp) fun e he => ?_
  have hlate : e.cplFor g status ep count lower data = (e.dropTag g).errCnt 1 := by
    have hf : (status.val ≠ 0 || count ≤ data.length : Bool) = true := by
      simpa only [Bool.or_eq_true, decide_eq_true_eq, ne_eq, Fin.val_eq_zero_iff] using hfin
    rw [Dev.cplFor, if_pos hst, hf, Dev.lateCpl, if_neg (by simp), if_neg hnt]
  rw [hlate]
  have hhep : e.hep = s.dev.hep := he.same (x := .hep) (by simp)
  have hdrop := kept_dropTag e g
  have ht0 : (e.dropTag g).hep.tags = tagsWithout s.dev g := by rw [tags_dropTag, hhep]; rfl
  generalize e.dropTag g = y at hdrop ht0
  have hcnt : y.rd (.hep (.ERR_CNT_COUNT 1)) = s.dev.rd (.hep (.ERR_CNT_COUNT 1)) := (hdrop.rd (by simp) rfl).trans (he.rd (by simp) rfl)
  exact ⟨(hdrop.mono (F' := [.hep (.ERR_CNT_COUNT 1)]) (by simp) (List.Subset.refl _)).inc (by simp),
    by simp [Counts, Dev.errCnt, Dev.rd_inc, hcnt], ht0⟩

theorem effect_completion_late_piece (hst : g.st ≠ .out) (hok : status = 0) (hpart : data.length < count) :
    Effect (.completionReceived g.tag f status ep count lower data) s [] [] (fun _ => True) := by
  refine effect_completion hs hdl hq status ep count lower data hg (by simp) fun e _ => ?_
  have hf : (status.val ≠ 0 || count ≤ data.length : Bool) = false := by
    simp only [hok, Fin.val_zero, ne_eq, not_true_eq_false, decide_false, Bool.false_or, decide_eq_false_iff_not]
    omega
  rw [Dev.cplFor, if_pos hst, hf, Dev.lateCpl, if_pos (by simp)]
  exact ⟨.refl e, trivial⟩

/-! #### A request that fails -/

theorem completes_completion_failed (hst : g.st = .out) (hbadst : status = 1 ∨ status = 4) {c : Fin 96} {v : Xfer} (hcl : g.client = .flush c)
    (hx : (s.dev.ll c).x = some v) (hbad : v.bad = none) :
    Completes (.completionReceived g.tag f status ep count lower data) s (fun t =>
      ((t.ll c).x).map (·.bad) = some (some (0x80, g.addr)) ∧ ∀ x ∈ t.hep.tags, ¬(x.tag = g.tag ∧ x.f = g.f)) := by
  refine completes_completion hs hdl hq status ep count lower data hg fun e he => ?_
  have hfail : e.cplFor g status ep count lower data = (e.dropTag g).chBad c 0x80 g.addr := by
    have h0 : ¬ status.val = 0 := by rcases hbadst with rfl | rfl <;> decide
    have h1 : status.val = 1 ∨ status.val = 4 := by rcases hbadst with rfl | rfl <;> decide
    rw [Dev.cplFor, if_neg (by simp [hst]), if_neg h0, if_pos h1, Dev.reqFailed, hcl]
  rw [hfail]
  have hdma : e.dma = s.dev.dma := he.same (x := .dma) (by simp)
  have hxe : ((e.dropTag g).ll c).x = some v := by
    rw [← hx, Dev.ll, Dev.ll, ← hdma]
    rfl
  obtain ⟨-, hbadc, htags, hinb⟩ := chBad_ll_effect hxe hbad 0x80 g.addr
  refine ⟨fun n => (hinb n).trans rfl, hbadc, fun x hxm hc => ?_⟩
  rw [htags, tags_dropTag, updWhere] at hxm
  obtain ⟨y, hy, rfl⟩ := List.mem_map.mp hxm
  have hyt : ¬(y.tag = g.tag ∧ y.f = g.f) := by simpa [Decidable.imp_iff_not_or] using (List.mem_filter.mp hy).2
  refine hyt ?_
  split at hc
  · exact hc
  · exact hc

theorem completes_completion_malformed (hst : g.st = .out) (hok : status = 0)
    (hdis : count ≠ g.len - g.got ∨ lower ≠ (g.addr + g.got) % 128 ∨ data = [] ∨ count < data.length) :
    Completes (.completionReceived g.tag f status ep count lower data) s (fun t =>
      (t.rd (.cs (aerOwner f) .AER_UE_STS)).testBit 18 = true ∧
      (t.hep.tags.find? (fun x => x.tag = g.tag && x.f = f.val)).map (·.st) = some .malformed) := by
  refine completes_completion hs hdl hq status ep count lower data hg fun e he => ?_
  have hcond : count ≠ g.len - g.got ∨ lower ≠ (g.addr + g.got) % 128 ∨ data = [] ∨ g.len - g.got < data.length := by
    rcases hdis with h | h | h | h
    · exact .inl h
    · exact .inr (.inl h)
    · exact .inr (.inr (.inl h))
    · by_cases hc : count = g.len - g.got
      · exact .inr (.inr (.inr (hc ▸ h)))
      · exact .inl hc
  have hmal : e.cplFor g status ep count lower data =
      ((e.ueError [aerOwner g.f] 18 false []).writeOff (fun x => x.tag = g.tag && x.f = g.f) .malformed).reqFailed g 0x80 := by
    rw [Dev.cplFor, if_neg (by simp [hst]), if_pos (by simp [hok]), if_pos hcond]
    rfl
  rw [hmal]
  have hhep : e.hep = s.dev.hep := he.same (x := .hep) (by simp)
  obtain ⟨hk, -, hset⟩ := ueError_effect (gs := [aerOwner g.f]) (bit := 18) (by decide) (by simpa using aerOwner_lt g.f) false [] e
  obtain ⟨-, ht⟩ := ueError_sends e [aerOwner g.f] 18 false []
  have hrps : (e.ueError [aerOwner g.f] 18 false []).rps = e.rps := hk.same (x := .rps) (by simp [errParts])
  have hbit := hset (aerOwner g.f) (by simp)
  generalize e.ueError [aerOwner g.f] 18 false [] = y at hk ht hrps hbit
  have hoff := ends_writeOff y (fun x => x.tag = g.tag && x.f = g.f) .malformed
  have hwt := writeOff_tags y (fun x => x.tag = g.tag && x.f = g.f) .malformed
  generalize y.writeOff (fun x => x.tag = g.tag && x.f = g.f) .malformed = z at hoff hwt
  obtain ⟨hfr, htr, hir, -⟩ := ends_reqFailed z g 0x80
  obtain ⟨hfo, -, hio, -⟩ := hoff
  refine ⟨fun n => (hir n).trans ((hio n).trans (by rw [Dev.rp, Dev.rp, hrps])), ?_, ?_⟩
  · rw [← hg.1, hfr _ (by simp [endField, workField, dmaField, ctnRegs]) rfl, hfo _ (by simp [endField, workField, dmaField, ctnRegs]) rfl]
    exact hbit
  · have hfind : z.hep.tags.find? (fun x => x.tag = g.tag && x.f = f.val) = some { g with st := .malformed, lines := [] } := by
      rw [hwt, ht, hhep]
      exact find?_written_off hg.2 hst
    exact find?_tagsEnded htr hfind (by simp)

/-! #### A piece that goes to its place -/

section
variable (hst : g.st = .out) (hok : status = 0) (hcount : count = g.len - g.got) (hlow : lower = (g.addr + g.got) % 128) (hdata : data ≠ [])
  (hep : ep = false) (hm : s.dev.marks = [])
include hst hok hcount hlow hdata hep hm

omit hs hdl hq hg hm in
/-- The data is put in the request's lines (R322). -/
theorem cplFor_data (e : Dev) (hlen : data.length ≤ count) : e.cplFor g status ep count lower data = e.cplData g false data := by
  have hok' : status.val = 0 := by simp [hok]
  rw [Dev.cplFor, if_neg (by simp [hst]), if_pos hok', hep, if_neg]
  rintro (h | h | h | h)
  · exact h hcount
  · exact h hlow
  · exact hdata h
  · omega

theorem effect_completion_piece (hpart : data.length < count) (hn : g.lines.Nodup) (hfit : g.addr % 64 + g.len ≤ 64 * g.lines.length) :
    Effect (.completionReceived g.tag f status ep count lower data) s [] [.hep, .mem, .marks, .writeBacks] (fun t =>
      t.hep.tags.find? (fun x => x.tag = g.tag && x.f = f.val) = some { g with got := g.got + data.length } ∧
      sliceB (t.readRun (g.lines.map vatLine)).1 (g.addr % 64 + g.got) data.length = data) := by
  refine effect_completion hs hdl hq status ep count lower data hg (by simp) fun e he => ?_
  rw [cplFor_data status ep count lower data hst hok hcount hlow hdata hep e (by omega)]
  have hlines : g.lines.map vatLine = g.lines := List.map_id _
  have hme : e.marks = [] := kept_marks (P := []) he (by simp) hm
  have hhep : e.hep = s.dev.hep := he.same (x := .hep) (by simp)
  have hput := putMarked_kept (ls := g.lines) (off := g.addr % 64 + g.got) (bs := data) hme
  obtain ⟨-, hread⟩ := putMarked_read (off := g.addr % 64 + g.got) (bs := data) hme hn (by omega)
  unfold Dev.cplData
  rw [hlines, if_neg Bool.false_ne_true, show marked data false = clean data from rfl]
  dsimp only
  rw [if_pos (by omega)]
  generalize e.putMarked g.lines (g.addr % 64 + g.got) (clean data) = x at hput hread
  have hk0 : Kept [] [] x (x.count 0x40 g.f data.length) := (Kept.refl _).count _ _ _
  generalize x.count 0x40 g.f data.length = y at hk0
  have hmem : y.mem = x.mem := hk0.same (x := .mem) (by simp)
  have hky : Kept [] [.mem, .writeBacks] e y := hput.trans (hk0.mono (by simp) (by simp))
  have hyh : y.hep = e.hep := hky.same (x := .hep) (by simp)
  have hym : y.marks = [] := kept_marks hky (by simp) hme
  refine ⟨(hky.mono (F' := []) (P' := [.hep, .mem, .marks, .writeBacks]) (by simp) (by simp)).withHep _ (by simp), ?_, ?_⟩
  · rw [hyh, hhep]
    exact find?_updWhere _ hg.2 (by simp [hg.1]) _ fun z => by simp [hg.1]
  · have hback : ∀ z : Dev, z.marks = [] → z.mem = x.mem → sliceB (z.readRun g.lines).1 (g.addr % 64 + g.got) data.length = data := fun z hz hzm => by
      have hraw : z.rawLine = x.rawLine := funext fun l => by rw [Dev.rawLine, Dev.rawLine, Dev.peek, Dev.peek, hzm]
      rw [Dev.readRun_clean hz, hraw]
      exact hread
    exact hback _ hym hmem

theorem effect_completion_flushed (hall : data.length = count) {c : Fin 96} {v : Xfer} (hcl : g.client = .flush c) (hx : (s.dev.ll c).x = some v) :
    Effect (.completionReceived g.tag f status ep count lower data) s [] [.hep, .dma, .mem, .marks, .writeBacks] (fun t =>
      (t.ll c).x = some { v with flushed := true } ∧ t.hep.tags = tagsWithout s.dev g) := by
  refine effect_completion hs hdl hq status ep count lower data hg (by simp) fun e he => ?_
  rw [cplFor_data status ep count lower data hst hok hcount hlow hdata hep e (by omega)]
  have hpos : 0 < data.length := List.length_pos_iff.mpr hdata
  have hme : e.marks = [] := kept_marks (P := []) he (by simp) hm
  have hput := putMarked_kept (ls := g.lines.map vatLine) (off := g.addr % 64 + g.got) (bs := data) hme
  unfold Dev.cplData
  rw [if_neg Bool.false_ne_true, show marked data false = clean data from rfl]
  dsimp only
  rw [if_neg (by omega)]
  generalize e.putMarked (g.lines.map vatLine) (g.addr % 64 + g.got) (clean data) = x at hput
  have hk0 : Kept [] [] x (x.count 0x40 g.f data.length) := (Kept.refl _).count _ _ _
  generalize x.count 0x40 g.f data.length = y at hk0
  have hky : Kept [] [.mem, .writeBacks] e y := hput.trans (hk0.mono (by simp) (by simp))
  have hall := (he.mono (F' := []) (P' := [.mem, .writeBacks]) (by simp) (by simp)).trans hky
  have hyh : y.hep = s.dev.hep := hall.same (x := .hep) (by simp)
  have hyd : y.dma = s.dev.dma := hall.same (x := .dma) (by simp)
  rw [Dev.reqDone, hcl]
  dsimp only
  have hafter : ∀ z : Dev, z.chAfter c = z := fun z => if_neg (by rw [not_isTch]; simp)
  rw [hafter, modXfer_ll]
  refine ⟨(((hky.mono (F' := []) (P' := [.hep, .dma, .mem, .marks, .writeBacks]) (by simp) (by simp)).withHep _ (by simp)).withDma _ (by simp)).modLl
    _ _ (by simp), ?_, ?_⟩
  · have hflushed : ∀ z : Dev, z.dma = s.dev.dma → (((z.vatFree g.lines).modLl c (fun l => { l with
        x := ((z.vatFree g.lines).ll c).x.map (fun v => { v with flushed := true }) })).ll c).x = some { v with flushed := true } := fun z hz => by
      have hll : ((z.vatFree g.lines).ll c).x = some v := by
        rw [← hx, Dev.ll, Dev.ll, ← hz]
        rfl
      rw [Dev.ll_modLl, if_pos ⟨rfl, c.isLt⟩, hll]
      rfl
    exact hflushed _ hyd
  · show y.hep.tags.filter _ = _
    rw [hyh]
    rfl

end

end

end

/-- Settles O29: a completion is matched to its request by tag and function; what it then does is a lemma per case of R391 to R394. -/
theorem completionsReceived : Obligations.CompletionsReceived := by
  unfold Obligations.CompletionsReceived
  intro s f status ep count lower data hs hdl hq
  refine ⟨fun tag hnone => effect_completion_unexpected hs hdl hq status ep count lower data hnone, fun g hg => ⟨fun hst hfin => ⟨fun ht => ?_, fun ht => ?_⟩,
    fun hst hok hpart => ?_, fun hst hok hcount hlow hdata hlen => ⟨fun hpart hep hm hn hfit => ?_, fun c v hall hep hm hcl hx => ?_⟩,
    fun c v hst hbadst hcl hx hbad => ?_, fun hst hok hdis => ?_⟩⟩
  · exact effect_completion_late_timed hs hdl hq status ep count lower data hg ht hfin
  · exact effect_completion_late hs hdl hq status ep count lower data hg hst ht hfin
  · exact effect_completion_late_piece hs hdl hq status ep count lower data hg hst hok hpart
  · exact effect_completion_piece hs hdl hq status ep count lower data hg hst hok hcount hlow hdata hep hm hpart hn hfit
  · exact effect_completion_flushed hs hdl hq status ep count lower data hg hst hok hcount hlow hdata hep hm hall hcl hx
  · exact completes_completion_failed hs hdl hq status ep count lower data hg hst hbadst hcl hx hbad
  · exact completes_completion_malformed hs hdl hq status ep count lower data hg hst hok hdis

end Sys2Proof.Machine
end
